-- ==== Sys2Proof/Word.lean ====
section
/-! DEFINITION. Words, bytes and the plain data types that the register map and the register-field names are made of. -/

namespace Sys2Proof.Machine

/-- A register: 32 bits (R431). -/
abbrev Word := BitVec 32

/-- A byte of a memory. -/
abbrev Byte := BitVec 8

/-- Access types of register fields (R5).  `w1cf` is the W1C of a counter field: a 1 written to any of its bits
clears all of it, as the counters' own descriptions say. -/
inductive FTy where
  | rw | ro | wo | w1c | w1cf | w1s
  deriving DecidableEq, Repr

/-- One field of a register: top bit, bottom bit, access type, value after a power-on reset (R7). -/
structure FieldDef where
  hi : Nat
  lo : Nat
  ty : FTy
  rst : Nat
  deriving DecidableEq, Repr

/-- One register of the map: its name, its offset in its block, its index dimensions (count, stride), its fields.
Bits that no field names are reserved (RSV of R5). -/
structure RegDef where
  name : String
  off : Nat
  dims : List (Nat × Nat)
  fields : List FieldDef
  deriving DecidableEq, Repr

/-- A named field: the offset of its register in its block, its top bit and its bottom bit. -/
structure Fld where
  off : Nat
  hi : Nat
  lo : Nat
  deriving DecidableEq, Repr

/-- A command of the module named by its ring and its tag (R242). -/
structure CmdRef where
  sq : Nat
  tag : Nat
  deriving DecidableEq, Repr

/-- What the cryptography of R335 answers for a container, outside the model: PUBKEY against its unrevoked slot (check 2), SIG (3),
GCMTAG (6), and the decrypted body. -/
structure Auth where
  keyOk : Bool
  sigOk : Bool
  gcmOk : Bool
  body : List Byte
  deriving DecidableEq, Repr

/-- What the unpublished part of a microword (R326) leaves behind: the flags Z, N, C, V in bits 0 to 3 and S0 to S3. -/
structure MicroOut where
  flags : BitVec 4
  s0 : Word
  s1 : Word
  s2 : Word
  s3 : Word
  deriving DecidableEq, Repr

/-- How a term of a front-end's corrections has changed against the one it would replace (R218): its code; kind 0 a gain, in 0.01 ppm, 1 an
offset in nV, 2 an offset in 0.01 ppm of I_FS. -/
structure CalChange where
  term : Nat
  kind : Fin 3
  change : Int
  deriving DecidableEq, Repr

/-- The corrections that a calibration found for one front-end: the 704 bytes of its groups (R224), and how its terms have changed (R218). -/
structure CalRow where
  data : List Byte
  changes : List CalChange
  deriving DecidableEq, Repr

/-- What a step of the anchor found (R210, R211): step 2 the voltage standard, and the sense and force pairs of resistors A and B, in nV; step 3
each shade's ratio (numerator, denominator); any step, shades that failed; step 7 TRES_H and TRES_L of each tile; step 8 the shades' corrections. -/
structure AnchorIn where
  vx : Int := 0
  senseA : Int := 0
  forceA : Int := 0
  senseB : Int := 0
  forceB : Int := 0
  ratios : List (Fin 32 × Int × Nat) := []
  failed : List (Fin 32) := []
  tres : List (Fin 8 × BitVec 64 × BitVec 64) := []
  rows : List (Fin 32 × CalRow) := []
  deriving DecidableEq, Repr

/-- The valid control characters (R267). -/
inductive KChar where
  | com
  | skp
  | sop
  | eop
  | edb
  | pad
  | tsi
  | slp
  deriving DecidableEq, Repr

/-- A symbol of a lane: a data byte or a control character (R266). -/
inductive Symb where
  | d (b : Byte)
  | k (c : KChar)
  deriving DecidableEq, Repr

/-- The moves of an equalisation request (R270): 1 increment, 2 decrement, else hold. -/
structure EqMove where
  pre : BitVec 2 := 0
  main : BitVec 2 := 0
  post : BitVec 2 := 0
  deriving DecidableEq, Repr

/-- A training set TS1 or TS2 on one lane (R270): where received, D21.5 or D26.5 stood in the ID position, and a symbol of it was in error; LANE;
RATES and SPEED; CTRL; EQREQ; EQSTAT; the coefficients in use; REQTAG and ACKTAG; RXOK; DEVTYPE. -/
structure Ts where
  inv : Bool := false
  lane : Byte
  rates : BitVec 3
  spareCap : Bool
  maxw : BitVec 2
  rxok : BitVec 5
  devtype : Byte
  err : Bool := false
  speed : Bool := false
  hotrst : Bool := false
  disable : Bool := false
  loopback : Bool := false
  req : EqMove := {}
  valid : Bool := false
  fin : Bool := false
  eqstat : BitVec 6 := 0
  pre : BitVec 3 := 0
  post : BitVec 4 := 0
  main : BitVec 6 := 0
  reqTag : BitVec 2 := 0
  ackTag : BitVec 2 := 0
  deriving DecidableEq, Repr

/-- A transaction packet above its sequence number and CRC (R299): header fields, reserved bits (DW1[31:27], then DW3[31:22]), payload words.  In ENUM
and ENUMC packets addr is DW2 and DW3[15:0], ttl DW3[21:16] (R313). -/
structure Tp where
  typ : Byte
  dst : BitVec 6
  src : BitVec 6
  len : BitVec 11
  last : Bool := false
  tag : BitVec 12
  status : BitVec 3 := 0
  addr : BitVec 48
  ttl : BitVec 6
  rsv : BitVec 15 := 0
  data : List Word := []
  deriving DecidableEq, Repr

/-- The body of a link packet (R301): TYPE, DW0[31:8], DW1. -/
structure Lp where
  typ : BitVec 4
  d0 : BitVec 24
  d1 : Word
  deriving DecidableEq, Repr

/-- What a receiver has seen of a lane (R283): symbol errors in the present window of 65,536, consecutive SKP sets whose COM column it missed,
bit lock lost. -/
structure LaneErrs where
  errs : BitVec 17 := 0
  missed : BitVec 8 := 0
  lost : Bool := false
  deriving DecidableEq, Repr

/-- What SPA discovery found (R391): density 2^dlog2, SFDP signature, the highest mode the flash describes, the smallest DIV its stated
maximum permits in the mode selected. -/
structure FlashInfo where
  dlog2 : Fin 32
  sfdp : Bool
  mode : Fin 3
  div : Byte
  deriving DecidableEq, Repr

/-- An answer to a container check that fails its first step. -/
def Auth.none : Auth := { keyOk := false, sigOk := false, gcmOk := false, body := [] }

/-- What a boot phase found (R385, R386): REFCLK in band (CLOCK); the flash (FLASH); the containers' authentication (SLATE, OCHRE,
MCODE); GLB_DWIN_STAGE as the Slate firmware sets it; control-store words that failed readback, engine and micro-address (MCODE); the
CRC of the committed SRAM buffer is good (CAL); lines that did not lock (TIMING); by front-end how far MREF and GND lay from their expected
values, in ppb, and the DETAIL of a record (FECHECK). -/
structure BootIn where
  inBand : Bool := true
  flash : Option FlashInfo := none
  auth : Auth := Auth.none
  patch : Auth := Auth.none
  stage : Word := 0
  readback : List (Fin 1024 × Fin 1024) := []
  sramGood : Bool := true
  unlocked : List (Fin 1061 × Fin 6) := []
  checks : List (Fin 1056 × Int × Int × Word) := []
  deriving DecidableEq, Repr

end Sys2Proof.Machine
end

