-- ==== Sys2Proof/Syntax.lean ====
section
/-! DEFINITION. The commands of the module: one constructor per row of the opcode table, with the operands the row takes from
outside (registers written, packets received, analog facts, moments in time).  `cmd` names an admitted command by ring and tag.
Units u count channels 0 to 1,023 and then shades 1,024 to 1,055 (UNIT of R72). -/

namespace Sys2Proof

open Sys2Proof.Machine (Lp LaneErrs CmdRef Word Byte Auth MicroOut CalRow AnchorIn Ts Tp EqMove Symb BootIn)

/-- A command sent to the module, or an event at its boundary, whole and indivisible. -/
inductive Instr where
  /-- POWER_ON (R403, R419): every supply has risen into its windows. -/
  | powerOn
  /-- RESET_WINDOW_EXIT (R419): the rail has been outside its reset window for more than 2 µs. -/
  | resetWindowExit (rail : Fin 9)
  /-- SUPPLY_WINDOW_EXIT (R419): the rail has been outside its SUPPLY window for more than 10 µs, at mv signed mV. -/
  | supplyWindowExit (rail : Fin 9) (mv : BitVec 16)
  /-- PERST_N_ASSERT (R403): PERST_N goes low. -/
  | perstNAssert
  /-- BOOT_START (R384): t0. -/
  | bootStart
  /-- BOOT_PHASE_COMPLETE (R385): the phase in progress ends, with what it found. -/
  | bootPhaseComplete (inp : BootIn)
  /-- REFCLK_LOSS (R16): a monitor window ends with so many REFCLK periods; pll: the root PLL reports loss of lock. -/
  | refclkLoss (periods : BitVec 16) (pll : Bool)
  /-- REFCLK_RECOVERY (R17): REFCLK has been in band for 1 ms. -/
  | refclkRecovery
  /-- LOCKSTEP_MISMATCH (R403): the Slate pair disagrees. -/
  | lockstepMismatch
  /-- SVC_REQ (R22): GLB_CTRL written with SVC_REQ = 1; black: a Black fault is detected in the same HCLK. -/
  | svcReq (black : Bool)
  /-- SERVICE_ENTRY (R22): the transfer or rotations under way have completed. -/
  | serviceEntry
  /-- SVC_EXIT (R23): GLB_CTRL written with SVC_EXIT = 1. -/
  | svcExit
  /-- SERVICE_EXIT_EFFECT (R23): the patch installation or flash operation has ended. -/
  | serviceExitEffect
  /-- SRAM_SCRUB (R13): the scrubber reads a word of a region's unit; err: none good, false a single-bit error, true an uncorrectable one. -/
  | sramScrub (region : Fin 6) (unit : Fin 1024) (word : BitVec 24) (err : Option Bool)
  /-- REGISTER_WRITE (R5): w written to word address a, over SPB or over the link. -/
  | registerWrite (a : BitVec 24) (w : Word) (spb : Bool)
  /-- LO_READ_LATCH (R432): the register at word address a read over the link. -/
  | loReadLatch (a : BitVec 24)
  /-- NOP (R248): the admitted command cmd. -/
  | nop (cmd : CmdRef)
  /-- FENCE (R252): the admitted command cmd. -/
  | fence (cmd : CmdRef)
  /-- CH_CONFIG (R30): the admitted command cmd. -/
  | chConfig (cmd : CmdRef)
  /-- CH_FORCE (R249): the admitted command cmd. -/
  | chForce (cmd : CmdRef)
  /-- CH_MEASURE_START (R64): the admitted command cmd, action START. -/
  | chMeasureStart (cmd : CmdRef)
  /-- CH_MEASURE_STOP (R64): the admitted command cmd, action STOP. -/
  | chMeasureStop (cmd : CmdRef)
  /-- CH_MEASURE_INJECT (R67): the admitted command cmd, action INJECT. -/
  | chMeasureInject (cmd : CmdRef)
  /-- CH_SWEEP (R35): the admitted command cmd. -/
  | chSweep (cmd : CmdRef)
  /-- CH_SINE (R51): the admitted command cmd. -/
  | chSine (cmd : CmdRef)
  /-- CH_CONTACT (R47): the admitted command cmd. -/
  | chContact (cmd : CmdRef)
  /-- CH_RELEASE (R45): the admitted command cmd. -/
  | chRelease (cmd : CmdRef)
  /-- SEQ_LOAD (R98): the admitted command cmd; data: the words read at HADDR, one list for all channels (STRIDE = 0) or one for each in ascending order; failed: a read failed (true: by a time-out), data holds what came before. -/
  | seqLoad (cmd : CmdRef) (data : List (List (BitVec 64))) (failed : Option Bool)
  /-- SEQ_RUN (R129): the admitted command cmd. -/
  | seqRun (cmd : CmdRef)
  /-- SEQ_STREAM (R125): the admitted command cmd. -/
  | seqStream (cmd : CmdRef)
  /-- SEQ_STOP (R131): the admitted command cmd. -/
  | seqStop (cmd : CmdRef)
  /-- GROUP_BIND (R118): the admitted command cmd. -/
  | groupBind (cmd : CmdRef)
  /-- SEQ_JUMP (R123): the admitted command cmd. -/
  | seqJump (cmd : CmdRef)
  /-- APG_LOAD (R162): the admitted command cmd; data: the bytes read at HADDR; failed: a read failed (true: by a time-out), data holds what came before. -/
  | apgLoad (cmd : CmdRef) (data : List Byte) (failed : Option Bool)
  /-- APG_RUN (R171): the admitted command cmd. -/
  | apgRun (cmd : CmdRef)
  /-- FAIL_DUMP (R179): the admitted command cmd. -/
  | failDump (cmd : CmdRef)
  /-- TRIG_ARM (R190): the admitted command cmd. -/
  | trigArm (cmd : CmdRef)
  /-- CAPTURE_DUMP (R199): the admitted command cmd. -/
  | captureDump (cmd : CmdRef)
  /-- STATS_READ_START (R151): the admitted command cmd, action START. -/
  | statsReadStart (cmd : CmdRef)
  /-- STATS_READ_PEEK (R151): the admitted command cmd, action PEEK. -/
  | statsReadPeek (cmd : CmdRef)
  /-- CAL_ANCHOR (R212): the admitted command cmd. -/
  | calAnchor (cmd : CmdRef)
  /-- CAL_ROTATE_PASS (R217): the admitted command cmd, action PASS. -/
  | calRotatePass (cmd : CmdRef)
  /-- CAL_ROTATE_CHANNELS (R216): the admitted command cmd, action CHANNELS. -/
  | calRotateChannels (cmd : CmdRef)
  /-- CAL_ROTATE_REQUALIFY (R218): the admitted command cmd, action REQUALIFY; row: what the shade's calibration found. -/
  | calRotateRequalify (cmd : CmdRef) (row : CalRow)
  /-- CAL_ROTATE_REMAP (R229): the admitted command cmd, action REMAP. -/
  | calRotateRemap (cmd : CmdRef)
  /-- CAL_ROTATE_UNMAP (R230): the admitted command cmd, action UNMAP. -/
  | calRotateUnmap (cmd : CmdRef)
  /-- CAL_COMMIT (R222): the admitted command cmd, action COMMIT. -/
  | calCommit (cmd : CmdRef)
  /-- CAL_DISCARD (R222): the admitted command cmd, action DISCARD. -/
  | calDiscard (cmd : CmdRef)
  /-- CAL_ARCHIVE (R222): the admitted command cmd, action ARCHIVE. -/
  | calArchive (cmd : CmdRef)
  /-- CAL_READ (R249): the admitted command cmd. -/
  | calRead (cmd : CmdRef)
  /-- SELFTEST (R231): the admitted command cmd. -/
  | selftest (cmd : CmdRef)
  /-- FAULT_ACK (R363): the admitted command cmd. -/
  | faultAck (cmd : CmdRef)
  /-- ABORT (R260): the admitted command cmd. -/
  | abort (cmd : CmdRef)
  /-- DIAG_ECHO (R249): the admitted command cmd, FUNC 0x0001. -/
  | diagEcho (cmd : CmdRef)
  /-- DIAG_REGS (R249): the admitted command cmd, FUNC 0x0002; ecc: words of the copy with memory errors, true uncorrectable. -/
  | diagRegs (cmd : CmdRef) (ecc : List (Nat × Bool))
  /-- DIAG_BLACKBOX (R369): the admitted command cmd, FUNC 0x0003. -/
  | diagBlackbox (cmd : CmdRef)
  /-- SQ_DOORBELL (R238): RING_SQn_DB written with w. -/
  | sqDoorbell (n : Fin 64) (w : Word)
  /-- DESCRIPTOR_INTAKE (R244): the descriptor read for SQ n enters its head stage. -/
  | descriptorIntake (n : Fin 64)
  /-- DESCRIPTOR_READ_ERROR (R241): the outstanding descriptor read of SQ n ends with UNSUPPORTED or ABORT. -/
  | descriptorReadError (n : Fin 64)
  /-- COMMAND_ADMIT (R253, R258): the arbiter's ECLK. -/
  | commandAdmit
  /-- HOLD_LIMIT_EXPIRE (R258): the count of SQ n's held head-stage command exceeds its hold limit. -/
  | holdLimitExpire (n : Fin 64)
  /-- SLICE_END (R259): a slice of the command cmd ends. -/
  | sliceEnd (cmd : CmdRef)
  /-- COMPLETION_WRITE (R245): the completion of the ended command cmd is written; energy: what its channels' meters integrated, in µJ (R381). -/
  | completionWrite (cmd : CmdRef) (energy : Word)
  /-- CQ_DOORBELL (R239): RING_CQm_DB written with w. -/
  | cqDoorbell (m : Fin 64) (w : Word)
  /-- SQ_ENABLE (R241): RING_SQn_CFG written with w, EN = 1. -/
  | sqEnable (n : Fin 64) (w : Word)
  /-- SQ_DISABLE (R241): RING_SQn_CFG written with w, EN = 0. -/
  | sqDisable (n : Fin 64) (w : Word)
  /-- CQ_ENABLE (R241): RING_CQm_CFG written with w, EN = 1. -/
  | cqEnable (m : Fin 64) (w : Word)
  /-- CQ_DISABLE (R241): RING_CQm_CFG written with w, EN = 0. -/
  | cqDisable (m : Fin 64) (w : Word)
  /-- SAFE_VALUE_STEP (R41): the step front-end u is in ends; far: the pin was not within R43's bound at the end of step 1. -/
  | safeValueStep (u : Fin 1056) (far : Bool)
  /-- SWEEP_DWELL_END (R35): the dwell of the present point of the sweep ends. -/
  | sweepDwellEnd (cmd : CmdRef)
  /-- CLAMP_ACTION (R36, R37): a clamp of u starts (true) or stops limiting. -/
  | clampAction (u : Fin 1056) (limits : Bool)
  /-- SHORT_CIRCUIT_LIMIT (R38): the limit of u engages. -/
  | shortCircuitLimit (u : Fin 1056)
  /-- KELVIN_MONITOR_TRIP (R46): a mismatch of u; seen: it, signed, in mV, and how long it has lasted, in TCLK. -/
  | kelvinMonitorTrip (u : Fin 1056) (seen : Int × Nat)
  /-- CONTACT_PHASE_STEP (R48): the check's next timed step; volts: per named channel, local and remote sense in µV, at measuring steps. -/
  | contactPhaseStep (cmd : CmdRef) (volts : List (Int × Int))
  /-- SINE_EN_SET (R51): a direct write w of CHN_SINE_CTRL that takes EN from 0 to 1. -/
  | sineEnSet (u : Fin 1056) (w : Word)
  /-- SINE_APPLY (R51): a direct write w of CHN_SINE_CTRL with APPLY = 1. -/
  | sineApply (u : Fin 1056) (w : Word)
  /-- SINE_EN_CLEAR (R52): a direct write w of CHN_SINE_CTRL that takes EN from 1 to 0. -/
  | sineEnClear (u : Fin 1056) (w : Word)
  /-- SINE_UPDATE (R50): the next update of u's generator. -/
  | sineUpdate (u : Fin 1056)
  /-- SINE_EPOCH_START (R52, R186): the first ACLK edge at or after the start time of u's tile, delta fine steps after it. -/
  | sineEpochStart (u : Fin 1056) (delta : Fin 6400)
  /-- SINE_ZC_STOP (R52): the update at which ACC[31] changes while u's generator is stopping. -/
  | sineZcStop (u : Fin 1056)
  /-- ADC_START (R64): a write w of CHN_ADC_CTRL with START = 1 and STOP = 0. -/
  | adcStart (u : Fin 1056) (w : Word)
  /-- ADC_STOP (R64): a write w of CHN_ADC_CTRL with STOP = 1. -/
  | adcStop (u : Fin 1056) (w : Word)
  /-- ADC_INJECT (R69): a write w of CHN_ADC_INJ. -/
  | adcInject (u : Fin 1056) (w : Word)
  /-- ADC_SAMPLE_END (R58): the sample phase of u's conversion ends. -/
  | adcSampleEnd (u : Fin 1056)
  /-- ADC_ENTRY_BOUNDARY (R58): u's conversion phase ends with the raw code. -/
  | adcEntryBoundary (u : Fin 1056) (raw : BitVec 18)
  /-- ADC_RESULT_ENQUEUE (R72): u's oldest corrected result reaches its destinations. -/
  | adcResultEnqueue (u : Fin 1056)
  /-- RQ_DRAIN_BURST (R76): tile t writes a burst of up to 32 entries to its host ring. -/
  | rqDrainBurst (t : Fin 8)
  /-- RQ_PARTIAL_FLUSH (R76): tile t writes a partial burst, 2 µs after its first entry. -/
  | rqPartialFlush (t : Fin 8)
  /-- RQ_EN_CHANGE (R76): a write w of TIL_RQ_CTRL that changes EN, at a burst boundary. -/
  | rqEnChange (t : Fin 8) (w : Word)
  /-- RQ_HCONS_WRITE (R81): a write w of TIL_RQ_HCONS. -/
  | rqHconsWrite (t : Fin 8) (w : Word)
  /-- COMP_RAW_TRANSITION (R82): pins: where the pin that u's comparators observe and its pair partner stand, in µV; q: the raw TDC bin of a transition of the high or low comparator's output; dead: in the TDC's dead time. -/
  | compRawTransition (u : Fin 1056) (high : Bool) (pins : Int × Int) (q : Fin 200) (dead : Bool)
  /-- COMP_VALID (R89): the filter samples since the last filter event of the comparator, up to the one at which it becomes valid. -/
  | compValid (u : Fin 1056) (high : Bool) (samples : List Bool)
  /-- COMP_LATCH_SET (R90): the filter samples since the last filter event, up to the one at which the latch is set. -/
  | compLatchSet (u : Fin 1056) (high : Bool) (samples : List Bool)
  /-- SEQ_RUN_START (R129): the start of the run of leader c at this TCLK edge; seen as of VECTOR_PERIOD. -/
  | seqRunStart (c : Fin 1024) (seen : List (List (Bool × Bool)))
  /-- SEQ_NOP (R107): leader c's engine issues the word at its place, a NOP. -/
  | seqNop (c : Fin 1024)
  /-- VECI (R107): leader c's engine issues a VECI. -/
  | veci (c : Fin 1024)
  /-- VECD (R107): leader c's engine issues a VECD, or goes on with it as the queue has room. -/
  | vecd (c : Fin 1024)
  /-- VECS (R107): leader c's engine issues a VECS, or goes on with its data words. -/
  | vecs (c : Fin 1024)
  /-- VREP (R107): leader c's engine issues a VREP, or goes on with it as the queue has room. -/
  | vrep (c : Fin 1024)
  /-- LOOP (R109): leader c's engine issues a LOOP. -/
  | loop (c : Fin 1024)
  /-- ENDL (R109): leader c's engine issues an ENDL. -/
  | endl (c : Fin 1024)
  /-- CALL (R110): leader c's engine issues a CALL. -/
  | call (c : Fin 1024)
  /-- RET (R110): leader c's engine issues a RET. -/
  | ret (c : Fin 1024)
  /-- JMP (R107): leader c's engine issues a JMP. -/
  | jmp (c : Fin 1024)
  /-- BR (R111): leader c's engine issues a BR; past: with SYNC = 0, the members' conditions as they stood 8 ECLK before, in ascending order, where they differ from now. -/
  | br (c : Fin 1024) (past : List Bool)
  /-- BR_SYNC_RESOLVE (R111): the synchronising pause of leader c's BR ends. -/
  | brSyncResolve (c : Fin 1024)
  /-- MATCH (R112): leader c's engine issues a MATCH. -/
  | matchW (c : Fin 1024)
  /-- MATCH_ITERATION_END (R112): the pause after the body of leader c's MATCH ends. -/
  | matchIterationEnd (c : Fin 1024)
  /-- WAIT (R113): leader c's engine issues a WAIT. -/
  | wait (c : Fin 1024)
  /-- WAIT_RELEASE (R113): the event of leader c's WAIT ends it. -/
  | waitRelease (c : Fin 1024)
  /-- WAIT_TIMEOUT (R113): leader c's WAIT or BAR has held TMO periods. -/
  | waitTimeout (c : Fin 1024)
  /-- BAR (R114): leader c's engine issues a BAR. -/
  | bar (c : Fin 1024)
  /-- BARRIER_RELEASE (R114): the last group that takes part in barrier bid of tile t has arrived. -/
  | barrierRelease (t : Fin 8) (bid : Fin 16)
  /-- TSLD (R107): leader c's engine issues a TSLD. -/
  | tsld (c : Fin 1024)
  /-- LVL (R115): leader c's engine issues a LVL. -/
  | lvl (c : Fin 1024)
  /-- MEAS (R116): leader c's engine issues a MEAS. -/
  | meas (c : Fin 1024)
  /-- MEAS_PLACE_FREE (R116): converters that leader c's MEAS waits for are looked at again. -/
  | measPlaceFree (c : Fin 1024)
  /-- EVT (R117): leader c's engine issues an EVT. -/
  | evt (c : Fin 1024)
  /-- FLG (R117): leader c's engine issues a FLG. -/
  | flg (c : Fin 1024)
  /-- SEG (R122): leader c's engine issues a SEG. -/
  | seg (c : Fin 1024)
  /-- STALL (R127): leader c's engine issues a STALL. -/
  | stall (c : Fin 1024)
  /-- STRM (R126): leader c's engine issues a STRM. -/
  | strm (c : Fin 1024)
  /-- SEND (R126): leader c's engine issues a SEND. -/
  | send (c : Fin 1024)
  /-- HALT (R130): leader c's engine issues a HALT. -/
  | halt (c : Fin 1024)
  /-- SEQ_JUMP_APPLY (R123): leader c's engine reaches the boundary at which its jump applies. -/
  | seqJumpApply (c : Fin 1024)
  /-- SEQ_STOP_APPLY (R131): leader c's engine reaches the boundary at which its run stops. -/
  | seqStopApply (c : Fin 1024)
  /-- STALL_RESUME (R127): leader c's stalled engine looks at its fill. -/
  | stallResume (c : Fin 1024)
  /-- STREAM_REFILL (R125): the next refill packet of 32 words from host memory; failed: its read failed (true: by a time-out). -/
  | streamRefill (data : List (BitVec 64)) (failed : Option Bool)
  /-- UNDERRUN (R128): a vector of leader c's run is due and missing. -/
  | underrun (c : Fin 1024)
  /-- SEQ_GO (R113): a write w of CHN_SEQ_CTRL. -/
  | seqGo (c : Fin 1024) (w : Word)
  /-- MICROWORD (R325, R326): engine e executes the microword at its micro-PC in cost + 1 ECLK; cond: the condition CSEL selects, flips: its bits in error on fetch, data then parity, out: what the unpublished fields leave. -/
  | microword (e : Fin 1024) (cost : Fin 8) (cond : Bool) (flips : BitVec 136) (out : MicroOut)
  /-- MICRO_TRAP (R330): engine e takes its lowest pending trap cause; whole: its handler runs to its end at once, else by MICROWORD commands. -/
  | microTrap (e : Fin 1024) (whole : Bool)
  /-- CS_PARITY_SWEEP (R325): the sweep reads word a of engine e's store; flips: its bits in error, data then parity. -/
  | csParitySweep (e : Fin 1024) (a : Fin 1024) (flips : BitVec 136)
  /-- MC_RELOAD_DONE (R333): Slate ends a reload; alt: from the copy in supervisor memory; copyBad: that failed its digest too; failed: engines with a word that failed readback twice; late: engines that halted after the write phase began. -/
  | mcReloadDone (alt copyBad : Bool) (failed late : List (Fin 1024))
  /-- MC_INSTALL_START (R338): a write w of MC_INSTALL with START = 1. -/
  | mcInstallStart (w : Word)
  /-- MC_INSTALL_DONE (R338): Slate ends the installation; auth: what the cryptography answers; wrote: the flash took every byte. -/
  | mcInstallDone (auth : Auth) (wrote : Bool)
  /-- MC_FSEL_WRITE (R339): a write w of MC_FSEL. -/
  | mcFselWrite (w : Word)
  /-- TDC_STAMP (R143): an edge of u, of source src (0 COMP_HI, 1 COMP_LO, 2 the drive edges), rising or falling, is captured in raw bin q after this TCLK edge; dead: in the dead time. -/
  | tdcStamp (u : Fin 1056) (src : Fin 3) (rising : Bool) (q : Fin 200) (dead : Bool)
  /-- STAMP_BUFFER_WRITE (R147): one SCLK of stamp collection in tile t. -/
  | stampBufferWrite (t : Fin 8)
  /-- STB_RESTART (R147): a write w of TIL_STB_CTRL that takes EN from 0 to 1. -/
  | stbRestart (t : Fin 8) (w : Word)
  /-- DLL_LOCK (R138): a line of u locks; units as UNIT, 1,056 the SYNC TDC, 1,057 to 1,060 the TRIG line TDCs. -/
  | dllLock (u : Fin 1061) (line : Fin 6)
  /-- DLL_UNLOCK (R138): a line of u loses lock. -/
  | dllUnlock (u : Fin 1061) (line : Fin 6)
  /-- CODE_DENSITY_DONE (R139): an acquisition of u ends with its histogram, the delay of every tap of its vernier lines in 1/256 units (D1, D2, D3, S1, S2) and the path delays measured. -/
  | codeDensityDone (u : Fin 1061) (hist : List Nat) (delays : List (List Nat)) (drv stb tdc : Fin 1024)
  /-- SEPIA_SAMPLE (R152): tile t's Sepia processes the oldest sample that has entered. -/
  | sepiaSample (t : Fin 8)
  /-- SEPIA_JOB_COMPLETE (R153): the job in a slot, its sets all full, has written its results. -/
  | sepiaJobComplete (t : Fin 8) (slot : Fin 16)
  /-- SEPIA_JOB_TIMEOUT (R151): the time limit of the job in a slot expires. -/
  | sepiaJobTimeout (t : Fin 8) (slot : Fin 16)
  /-- APG_RUN_START (R173): the start of context x of tile t at this TCLK edge; seen as of VECTOR_PERIOD, for each bound group. -/
  | apgRunStart (t : Fin 8) (x : Fin 4) (seen : List (List (List (Bool × Bool))))
  /-- APG_INSTRUCTION (R165): context x of tile t executes one instruction. -/
  | apgInstruction (t : Fin 8) (x : Fin 4)
  /-- APG_GROUP_DROP (R175): group g of tile t leaves its context at a cycle boundary. -/
  | apgGroupDrop (t : Fin 8) (g : Fin 32)
  /-- FAIL_LOG_RECORD (R177): tile t takes the next failing cycle for its fail log. -/
  | failLogRecord (t : Fin 8)
  /-- SYNC_ARM (R181): a write w of GLB_SYNC_CTRL with ARM = 1. -/
  | syncArm (w : Word)
  /-- SYNC_EDGE (R181): a rising SYNC edge in raw bin q after this TCLK edge. -/
  | syncEdge (q : Fin 200)
  /-- SYNC_APPLY (R182): a write w of GLB_SYNC_CTRL with APPLY = 1. -/
  | syncApply (w : Word)
  /-- SYNC_INVAL (R183): a write w of GLB_SYNC_CTRL with INVAL = 1. -/
  | syncInval (w : Word)
  /-- TRIGGER_FIRE (R192): tile t's unit, with a met slot, reaches its TF. -/
  | triggerFire (t : Fin 8)
  /-- FIRE_LINE_EDGE (R192): a rising edge of another module on a FIRE line, in raw bin q. -/
  | fireLineEdge (line : Fin 4) (q : Fin 200)
  /-- ARM_LINE_EDGE (R191): the ARM line of domain A (0) or B (1), as other modules drive it, has an edge: its new level, and its raw bin. -/
  | armLineEdge (dom : Fin 2) (edge : Bool × Fin 200)
  /-- HOLDOFF_END (R193): tile t's hold-off is over and its segment closed. -/
  | holdoffEnd (t : Fin 8)
  /-- TRIG_ARM_TIMEOUT (R194): the time limit of tile t's TRIG_ARM expires. -/
  | trigArmTimeout (t : Fin 8)
  /-- TRIG_LINE_EDGE (R200): an edge on an INPUT line, in raw bin q. -/
  | trigLineEdge (line : Fin 4) (rising : Bool) (q : Fin 200)
  /-- TRIG_PULSE (R201): a write w of GLB_TRIG_CTRL. -/
  | trigPulse (w : Word)
  /-- CAP_PARTITION_WRITE (R187): a write w of TIL_CAP_PART. -/
  | capPartitionWrite (t : Fin 8) (w : Word)
  /-- CAL_TIME_SET (R207): a write w of CAL_NOW_HI. -/
  | calTimeSet (w : Word)
  /-- ANCHOR_STEP (R211): the anchor's next timed step begins; inp: what the step that ends found. -/
  | anchorStep (inp : AnchorIn)
  /-- CAL_ANCHOR_TIMEOUT (R209): the time limit of the running anchor expires. -/
  | calAnchorTimeout
  /-- TRANSFER_STEP (R214): the next timed step of tile t's transfer; at its staging the shades' corrections, and TRES_H and TRES_L as each measured them. -/
  | transferStep (t : Fin 8) (rows : List (Fin 4 × CalRow)) (tresH tresL : List (Fin 4 × BitVec 64))
  /-- COMMIT_EDGE (R222): the edge of the commit that has been accepted. -/
  | commitEdge
  /-- ROTATION_PASS_START (R217): CAL_ROT_PERIOD after tile t's previous pass. -/
  | rotationPassStart (t : Fin 8)
  /-- ROTATION_START (R216): shade group nn takes the channel whose turn it is. -/
  | rotationStart (nn : Fin 32)
  /-- HANDOVER_STEP (R219): the next timed step of the rotation of shade group nn; row: what H4 found, when it ends. -/
  | handoverStep (nn : Fin 32) (row : CalRow)
  /-- ROTATION_HANDBACK (R219): the rotation of shade group nn, past H7, hands converter work back at the next boundary. -/
  | rotationHandback (nn : Fin 32)
  /-- ROTATION_ABANDON (R220): the match of H1 is not reached within 1 ms. -/
  | rotationAbandon (nn : Fin 32)
  /-- CAL_ARCHIVE_TIMER (R224): CAL_ARCH_MIN has passed since the previous archive write. -/
  | calArchiveTimer
  /-- ARCHIVE_WRITE_DONE (R224): the archive write in progress has been read back, or has failed. -/
  | archiveWriteDone (ok : Bool)
  /-- SELFTEST_TEST_DONE (R231): the n-th test under way ends with its outcome and detail. -/
  | selftestTestDone (n : Nat) (pass : Bool) (detail : Word)
  /-- DETECT_PROBE (R272): the 10 ms probe of port p; found: terminations on lane 0 and the clock lane. -/
  | detectProbe (p : Fin 4) (found : Bool)
  /-- TS1_RECEIVE (R273, R274): a TS1 with CTRL[2:0] = 0 on receive lane l of port p. -/
  | ts1Receive (p : Fin 4) (l : Fin 5) (ts : Ts)
  /-- TS2_RECEIVE (R274): a TS2 on receive lane l of port p. -/
  | ts2Receive (p : Fin 4) (l : Fin 5) (ts : Ts)
  /-- TRAINING_TIMEOUT (R271): the time-out of port p's training state expires. -/
  | trainingTimeout (p : Fin 4)
  /-- SPEED_RETUNE_DONE (R275): the lanes of port p run at the target rate. -/
  | speedRetuneDone (p : Fin 4)
  /-- EQ_REQUEST (R276, R277): EQREQ and REQTAG received for transmit lane l; fin: its DONE. -/
  | eqRequest (p : Fin 4) (l : Fin 5) (tag : BitVec 2) (valid : Bool) (mv : EqMove) (fin : Bool)
  /-- EQ_ITERATION_END (R276): the iteration of receive lane l ends; the DFE tap it re-adapted to; better: the next request's moves, where some move of one tap improves the margin. -/
  | eqIterationEnd (p : Fin 4) (l : Fin 5) (dfe : BitVec 4) (better : Option EqMove)
  /-- RETRAIN (R279): LNK_Pp_CTRL written with RETRAIN = 1, its other fields as they are. -/
  | retrain (p : Fin 4)
  /-- HOTRST (R280): LNK_Pp_CTRL written with HOTRST = 1. -/
  | hotrst (p : Fin 4)
  /-- HOT_RESET_RECEIVED (R280): two TS1 with HOTRST in succession. -/
  | hotResetReceived (p : Fin 4)
  /-- HOTRESET_END (R280): the 2 ms are over. -/
  | hotresetEnd (p : Fin 4)
  /-- DISABLE (R281): LNK_Pp_CTRL written with DISABLE = on. -/
  | disable (p : Fin 4) (on : Bool)
  /-- DISABLE_RECEIVED (R281): two TS1 with DISABLE in succession. -/
  | disableReceived (p : Fin 4)
  /-- FARLB (R291): LNK_Pp_CTRL written with FARLB = on. -/
  | farlb (p : Fin 4) (on : Bool)
  /-- LOOPBACK_RECEIVED (R291): two TS1 with LOOPBACK in succession. -/
  | loopbackReceived (p : Fin 4)
  /-- NOSLEEP (R286): LNK_Pp_CTRL written with NOSLEEP = on. -/
  | nosleep (p : Fin 4) (on : Bool)
  /-- NEARLB (R289): LNK_Pp_Ll_CFG written with NEARLB = on, its other fields as they are. -/
  | nearlb (p : Fin 4) (l : Fin 5) (on : Bool)
  /-- PRBS_INJ (R288): LNK_Pp_Ll_CFG written with INJ = 1. -/
  | prbsInj (p : Fin 4) (l : Fin 5)
  /-- LANE_FAIL (R283): what the receiver of port p sees of its physical data lane x.1. -/
  | laneFail (p : Fin 4) (x : Fin 5 × LaneErrs)
  /-- LCS_STEER_RECEIVED (R283): STEER for logical lane k. -/
  | lcsSteerReceived (p : Fin 4) (k : Fin 4)
  /-- LCS_ACK_RECEIVED (R283): ACK for logical lane k. -/
  | lcsAckReceived (p : Fin 4) (k : Fin 4)
  /-- LCS_DONE_RECEIVED (R283): DONE for logical lane k. -/
  | lcsDoneReceived (p : Fin 4) (k : Fin 4)
  /-- SPARING_TIMEOUT (R283): no ACK within 200 µs, or the spare missed a checking set. -/
  | sparingTimeout (p : Fin 4)
  /-- SPARE_FAIL (R285): what the receiver of port x.1 sees of its idle spare, and the bit errors of its PRBS checker within 2^20 bits. -/
  | spareFail (x : Fin 4 × LaneErrs × BitVec 21)
  /-- LANE_DEGRADE_WINDOW (R266, R285): a window of 2^24 symbol times of lane l ends; syms: the 10-bit codes it received, bit a the most significant. -/
  | laneDegradeWindow (p : Fin 4) (l : Fin 5) (syms : List (BitVec 10))
  /-- SLEEP_ENTRY (R286): the transmit direction has been idle for the time of its next step. -/
  | sleepEntry (p : Fin 4)
  /-- SLP_RECEIVED (R286): an SLP set of target 1, or 2 (dark). -/
  | slpReceived (p : Fin 4) (dark : Bool)
  /-- TX_WAKE (R287): the transmit direction has woken and sent its SKP set. -/
  | txWake (p : Fin 4)
  /-- WAKE_LOCK_TIMEOUT (R287): it has not locked in time. -/
  | wakeLockTimeout (p : Fin 4)
  /-- BEACON (R287): 1 ms in LS2, the transmitter drives a beacon. -/
  | beacon (p : Fin 4)
  /-- BEACON_TIMEOUT (R287): 2.5 ms without beacon or wake. -/
  | beaconTimeout (p : Fin 4)
  /-- CLOCK_LANE_LOSS (R279, R286): the forwarded clock is gone for more than 1 µs; stopped: the partner stopped it in LS1. -/
  | clockLaneLoss (p : Fin 4) (stopped : Bool)
  /-- TP_RECEIVE (R268, R297 to R302): the columns from a packet's end to the next one's, bytes immaterial; that packet: its CRC as received (none: an error marker in it), a link packet lp or the TP tp with its SEQ; ecc: words with memory errors that a read meets. -/
  | tpReceive (p : Fin 4) (seq : BitVec 12) (crc : Option Word) (lp : Option Lp) (cols : List (List Symb)) (ecc : List (Fin 64 × Bool)) (tp : Tp)
  /-- ACK_RECEIVE (R304): an ACK of seq. -/
  | ackReceive (p : Fin 4) (seq : BitVec 12)
  /-- NAK_RECEIVE (R304): a NAK of seq. -/
  | nakReceive (p : Fin 4) (seq : BitVec 12)
  /-- CREDIT_RECEIVE (R305): a CREDIT. -/
  | creditReceive (p : Fin 4) (init : Bool) (cp cn cc : BitVec 16)
  /-- ACK_TIMER (R303): 500 ns after the first TP accepted and not acknowledged. -/
  | ackTimer (p : Fin 4)
  /-- REPLAY_TIMEOUT (R304): the replay timer reaches RPLY_TMO. -/
  | replayTimeout (p : Fin 4)
  /-- CREDIT_UPDATE (R306): a CREDIT falls due. -/
  | creditUpdate (p : Fin 4)
  /-- CREDIT_TIMEOUT (R306): a TP has been held for credits for CR_TMO. -/
  | creditTimeout (p : Fin 4)
  /-- READ_COMPLETION_TIMEOUT (R309): the outstanding read with this tag has had no completion within LNK_CPL_TMO. -/
  | readCompletionTimeout (tag : Fin 1024)
  /-- PORT_DOWN (R318): the packet layer acts on a fall of UP. -/
  | portDown (p : Fin 4)
  /-- SOURCE_ACTIVATE (R345): the ECLK in which the level of the enabled IDLE source src is 1. -/
  | sourceActivate (src : Fin 4096)
  /-- VECTOR_TIMER (R347): the timer of vector v reaches TIME. -/
  | vectorTimer (v : Fin 512)
  /-- EVENT_DELIVERY (R348, R350): an ECLK in which a delivery may start. -/
  | eventDelivery
  /-- IRQ_EOI (R346): IRQ_EOI written with w. -/
  | irqEoi (w : Word)
  /-- IRQ_SW (R344): IRQ_SW written with w. -/
  | irqSw (w : Word)
  /-- IRQ_SW_CLR (R344): IRQ_SW_CLR written with w. -/
  | irqSwClr (w : Word)
  /-- IRQ_DOZE (R349): IRQ_TGTg_STATE written with w. -/
  | irqDoze (g : Fin 64) (w : Word)
  /-- IRQ_RCONS_WRITE (R350): IRQ_TGTg_RCONS written with w. -/
  | irqRconsWrite (g : Fin 64) (w : Word)
  /-- SLATE_END_OF_SERVICE (R349): the firmware ends the service of src, delivered to a Slate target. -/
  | slateEndOfService (src : Fin 4096)
  /-- GRACE_EXPIRE (R362): the grace timer of instance (cls, scope, unit) expires. -/
  | graceExpire (cls : Byte) (scope : Fin 5) (unit : Fin 1056)
  /-- QUIET_EXPIRE (R364): the condition of the instance has been absent for FLT_QUIET. -/
  | quietExpire (cls : Byte) (scope : Fin 5) (unit : Fin 1056)
  /-- BUDGET_WINDOW_END (R365): the instance's recovery window ends. -/
  | budgetWindowEnd (cls : Byte) (scope : Fin 5) (unit : Fin 1056)
  /-- FLT_ACK (R363): a write w of FLT_ACK. -/
  | fltAck (w : Word)
  /-- FLT_UNSTICK (R365): a write w of FLT_UNSTICK. -/
  | fltUnstick (w : Word)
  /-- FLT_SEL (R372): a write w of FLT_SEL. -/
  | fltSel (w : Word)
  /-- BLACKBOX_WRITE (R369): Slate appends the staged records; ok: the flash took them. -/
  | blackboxWrite (ok : Bool)
  /-- ROUND_START (R375): a round begins; MREF lies mrefOff ppb from the bandgap. -/
  | roundStart (mrefOff : Int)
  /-- SENSOR_GATE_END (R373): the gates close on these 34 counts. -/
  | sensorGateEnd (counts : List (Fin 262144))
  /-- ROUND_PUBLISH (R376): the round's temperatures are published; uj: energy in µJ that each tile has used since the last round. -/
  | roundPublish (uj : List Nat)
  /-- GLB_RESET_MODULE (R403): GLB_RESET written with w, MODULE = 1, over SPB or the link. -/
  | glbResetModule (w : Word) (spb : Bool)
  /-- GLB_RESET_TILE (R403): GLB_RESET written with w, TILES ≠ 0. -/
  | glbResetTile (w : Word) (spb : Bool)
  /-- TILE_RESET_END (R434): the tile reset of t ends. -/
  | tileResetEnd (t : Fin 8)
  /-- SPA_READ (R394): SPA_CMD written with w, START = 1, OP 0. -/
  | spaRead (w : Word)
  /-- SPA_PROGRAM (R394): SPA_CMD written with w, START = 1, OP 1. -/
  | spaProgram (w : Word)
  /-- SPA_ERASE (R394): SPA_CMD written with w, START = 1, OP 2. -/
  | spaErase (w : Word)
  /-- SPA_SFDP (R394): SPA_CMD written with w, START = 1, OP 3. -/
  | spaSfdp (w : Word)
  /-- SPA_READ_STATUS (R413): SPA_CMD written with w, START = 1, OP 4. -/
  | spaReadStatus (w : Word)
  /-- SPA_OP_COMPLETE (R392): the operation ends, by an error of the flash, a time-out, or well; data: SFDP or status bytes read. -/
  | spaOpComplete (err late : Bool) (data : List Byte)
  /-- XIP_READ (R393): a Slate read at offset a of the execute-in-place window. -/
  | xipRead (a : BitVec 26)
  /-- SPB_READ_FRAME (R398): command word w and n more words clocked; extra edges beyond whole words; early: begun within 1 µs of a WRITE frame still being applied; ecc: data words with memory errors. -/
  | spbReadFrame (w : Word) (n : Nat) (extra : Fin 32) (early : Bool) (ecc : List (Nat × Bool))
  /-- SPB_WRITE_FRAME (R398): command word w and data words. -/
  | spbWriteFrame (w : Word) (data : List Word) (extra : Fin 32) (early : Bool)
  /-- SPB_STATUS_FRAME (R398): command word w and n more words clocked. -/
  | spbStatusFrame (w : Word) (n : Nat) (extra : Fin 32) (early : Bool)
  /-- JTAG_TAP_RESET (R408): JTAG_TRST_N low, or five cycles of TMS high. -/
  | jtagTapReset
  /-- BYPASS (R409): Update-IR. -/
  | bypass
  /-- IDCODE (R409): Update-IR. -/
  | idcode
  /-- SAMPLE_PRELOAD (R409): Update-IR. -/
  | samplePreload
  /-- EXTEST (R409): Update-IR. -/
  | extest
  /-- CLAMP (R409): Update-IR. -/
  | clamp
  /-- HIGHZ (R409): Update-IR. -/
  | highz
  /-- EXTEST_PULSE (R409): Update-IR. -/
  | extestPulse
  /-- EXTEST_TRAIN (R409): Update-IR. -/
  | extestTrain
  /-- DW_UNLOCK (R410): a response to the challenge is accepted or fails. -/
  | dwUnlock (accept : Bool)
  /-- DIAG_WINDOW_READ (R442): the word at word offset o of the diagnostic area read; err as in SRAM_SCRUB. -/
  | diagWindowRead (o : BitVec 24) (spb : Bool) (err : Option Bool)
  /-- DIAG_WINDOW_WRITE (R441): w written to word offset o of the diagnostic area. -/
  | diagWindowWrite (o : BitVec 24) (w : Word) (spb : Bool)
  /-- VECTOR_PERIOD (R100): a vector period of leader c's run begins; seen: for each member in ascending order the raw comparator outputs (LO, HI) at its strobe, one pair for an edge strobe, each pair through a window; as they stand where not given. -/
  | vectorPeriod (c : Fin 1024) (seen : List (List (Bool × Bool)))
  /-- COMP_FILTER_RETURN (R88): the filter samples since the last filter event, up to the one at which the filtered output leaves its outside condition. -/
  | compFilterReturn (u : Fin 1056) (high : Bool) (samples : List Bool)
  /-- SHORT_CIRCUIT_RELEASE (R38): the limit of u stops holding. -/
  | shortCircuitRelease (u : Fin 1056)
  /-- KELVIN_MISMATCH_END (R46): the mismatch of u is back within threshold. -/
  | kelvinMismatchEnd (u : Fin 1056)
  /-- SUPPLY_WINDOW_RETURN (R419): the rail is inside its SUPPLY window again. -/
  | supplyWindowReturn (rail : Fin 9)
  /-- SYMBOL_LOCK_REGAINED (R279): bit and symbol lock on the assigned lanes. -/
  | symbolLockRegained (p : Fin 4)
  /-- TS_SEND_COUNT (R273, R274, R281, R291): the count of ordered sets to send is reached. -/
  | tsSendCount (p : Fin 4)
  /-- EQ_ADAPT_END (R276): the 100 µs end; of lanes 0, 1, ... the CTLE and DFE adapted to and the moves of the first request. -/
  | eqAdaptEnd (p : Fin 4) (taps : List ((BitVec 4 × BitVec 4) × EqMove))
  /-- EQ_MARGIN_CHECK_END (R276): half-openings of receive lane l; pass: no error in the 2^20 bits. -/
  | eqMarginCheckEnd (p : Fin 4) (l : Fin 5) (h v : Byte) (pass : Bool)
  /-- LOOPBACK_SLAVE_IDLE (R291): 1 µs of electrical idle on all receive lanes. -/
  | loopbackSlaveIdle (p : Fin 4)
  /-- DISABLED_CLOCK_ACTIVITY (R281): activity on the clock lane. -/
  | disabledClockActivity (p : Fin 4)
  /-- RX_WAKE (R287): the receive direction has locked after a wake. -/
  | rxWake (p : Fin 4)
  /-- BEACON_RECEIVE (R287): a beacon is seen. -/
  | beaconReceive (p : Fin 4)
  /-- SKP_SET (R269, R283): a SKP set received (rx) or sent; got: the symbols that the spare showed at it. -/
  | skpSet (p : Fin 4) (rx : Bool) (got : List Symb)
  deriving DecidableEq, Repr

end Sys2Proof
end

