-- ==== Sys2Proof/Machine/Bits.lean ====
section
/-! DEFINITION. Bit-field, sign-extension and byte-order helpers. -/

namespace Sys2Proof.Machine

/-- The number whose bits are n[hi:lo]. -/
def bits (n hi lo : Nat) : Nat := (n >>> lo) % 2 ^ (hi + 1 - lo)

/-- Bit k of n, as a Boolean. -/
def bitB (n k : Nat) : Bool := n.testBit k

/-- 1 for true, 0 for false. -/
def b2n (b : Bool) : Nat := if b then 1 else 0

/-- n read as a w-bit two's-complement number. -/
def signed (w n : Nat) : Int := if 2 ^ (w - 1) ≤ n % 2 ^ w then (n % 2 ^ w : Nat) - (2 ^ w : Nat) else (n % 2 ^ w : Nat)

/-- The w-bit two's-complement code of an integer. -/
def unsigned (w : Nat) (i : Int) : Nat := (i % ((2 ^ w : Nat) : Int)).toNat

/-- Counters that saturate at w bits. -/
def satAdd (w a b : Nat) : Nat := min (a + b) (2 ^ w - 1)

/-- A written limit treated as the nearer end of its range (THM_TRIP, CAL_DELTA_T, RING_SCHED and others). -/
def clampN (lo hi n : Nat) : Nat := max lo (min hi n)

/-- 0 counts as 1. -/
def atLeast1 (n : Nat) : Nat := if n = 0 then 1 else n

/-- The mask of a field in a 32-bit word. -/
def Fld.mask (f : Fld) : Word := BitVec.ofNat 32 ((2 ^ (f.hi + 1 - f.lo) - 1) <<< f.lo)

/-- The number in a field of a register word. -/
def Fld.get (f : Fld) (w : Word) : Nat := bits w.toNat f.hi f.lo

/-- A register word with a number put into a field; bits above the field's width are dropped. -/
def Fld.put (f : Fld) (w : Word) (v : Nat) : Word := (w &&& ~~~ f.mask) ||| (BitVec.ofNat 32 (v <<< f.lo) &&& f.mask)

/-- The n bytes of a number, least significant first (little-endian, as every multi-byte value of the spec). -/
def leBytes : Nat → Nat → List Byte
  | 0, _ => []
  | n + 1, v => BitVec.ofNat 8 v :: leBytes n (v / 256)

/-- The number little-endian bytes spell. -/
def leNat : List Byte → Nat
  | [] => 0
  | b :: bs => b.toNat + 256 * leNat bs

/-- The number little-endian 32-bit words spell. -/
def leWords : List Word → Nat
  | [] => 0
  | w :: ws => w.toNat + 2 ^ 32 * leWords ws

/-- The n 32-bit words of a number, least significant first. -/
def toWords : Nat → Nat → List Word
  | 0, _ => []
  | n + 1, v => BitVec.ofNat 32 v :: toWords n (v / 2 ^ 32)

/-- The numbers below n whose bit is set in m, rising. -/
def bitsSet (n m : Nat) : List Nat := (List.range n).filter fun k => m.testBit k

/-- How many of the low n bits of m are set. -/
def popCount (n m : Nat) : Nat := (bitsSet n m).length

/-- m with bit k set to b. -/
def setBit (m k : Nat) (b : Bool) : Nat := if b then m ||| 2 ^ k else m - (if m.testBit k then 2 ^ k else 0)

/-- Rounded quotient, halves away from zero, of integers. -/
def roundDiv (a : Int) (b : Nat) : Int :=
  if 0 ≤ a then (2 * a + b) / (2 * b : Int) else -((2 * (-a) + b) / (2 * b : Int))

end Sys2Proof.Machine
end

