-- ==== Sys2Proof/Config.lean ====
section
/-! DEFINITION. What an implementation or one manufactured part fixes, and the free values: constants WITHOUT a body,
so that no proof can see what they are and every claim holds whatever they are (log entries 3 to 6). -/

namespace Sys2Proof.Config

/-- The n-th value the spec leaves open: each use reads the state's counter and advances it (log entry 3). -/
opaque freeValue : Nat → Nat

/-- GLB_PART_ID.GRADE, fused at manufacture (R2): true for the metrology grade. -/
opaque gradeAM : Bool

/-- The serial number fused at manufacture (R435), one 64-bit number. -/
opaque serialNumber : BitVec 64

/-- The fused counts of sensor n at 25 and at 85 degrees (R373). -/
opaque sensorN25 : Nat → Nat
opaque sensorN85 : Nat → Nat

/-- The smallest security version the fuses accept for a container kind (R335), before any raise by an install. -/
opaque fusedSvn : Nat → Nat

/-- The corrected value of a conversion in the ideal scale (R60, R61): the committed tables' offset and gain (8 bytes of
the front-end record, R224) applied to the raw code; the spec gives no formula for the correction. -/
opaque adcCorrect : (offsetGain scale gain raw : Nat) → Int

/-- Byte o of the factory tables of the boot image, in the record layout of R224 (R225). -/
opaque factoryTable : Nat → BitVec 8

end Sys2Proof.Config
end

