-- ==== Sys2Proof/Machine/RegMap.lean ====
section
/-! DEFINITION. The register map as data: one row per register of the spec, its offset in its block, its index
dimensions (count, stride) and its fields (top bit, bottom bit, access type R5, reset R7).  Bits no row names are type RSV.
An access type `w1cf` is the W1C of a counter: writing 1 to any bit of the field clears the whole field. -/

namespace Sys2Proof.Machine

def mapGlb0 : List RegDef := [
  ⟨"GLB_PART_ID", 0, [], [⟨31, 16, .ro, 0x1024⟩, ⟨15, 8, .ro, 0⟩, ⟨0, 0, .ro, 0⟩]⟩,
  ⟨"GLB_SERIAL_LO", 4, [], [⟨31, 0, .ro, 0⟩]⟩,
  ⟨"GLB_SERIAL_HI", 8, [], [⟨31, 0, .ro, 0⟩]⟩,
  ⟨"GLB_STATUS", 0x10, [], [⟨16, 16, .ro, 0⟩, ⟨15, 8, .ro, 0⟩, ⟨7, 7, .w1c, 0⟩, ⟨6, 6, .ro, 0⟩, ⟨5, 5, .ro, 0⟩, ⟨2, 0, .ro, 1⟩]⟩,
  ⟨"GLB_CTRL", 0x14, [], [⟨1, 1, .wo, 0⟩, ⟨0, 0, .wo, 0⟩]⟩,
  ⟨"GLB_BOOT_STATUS", 0x18, [], [⟨15, 8, .ro, 0⟩, ⟨7, 7, .ro, 0⟩, ⟨3, 0, .ro, 1⟩]⟩,
  ⟨"GLB_RESET", 0x20, [], [⟨31, 16, .wo, 0⟩, ⟨15, 8, .wo, 0⟩, ⟨7, 7, .w1c, 0⟩, ⟨0, 0, .wo, 0⟩]⟩,
  ⟨"GLB_RESET_CAUSE", 0x24, [], [⟨31, 16, .ro, 0⟩, ⟨10, 8, .ro, 0⟩, ⟨4, 4, .ro, 0⟩, ⟨3, 0, .ro, 1⟩]⟩,
  ⟨"GLB_INTERRUPTED_OP", 0x28, [], [⟨31, 31, .ro, 0⟩, ⟨25, 20, .ro, 0⟩, ⟨19, 8, .ro, 0⟩, ⟨7, 0, .ro, 0⟩]⟩,
  ⟨"GLB_TB_LO", 0x30, [], [⟨31, 0, .ro, 0⟩]⟩,
  ⟨"GLB_TB_HI", 0x34, [], [⟨23, 0, .ro, 0⟩]⟩,
  ⟨"GLB_SYNC_CTRL", 0x40, [], [⟨2, 2, .wo, 0⟩, ⟨1, 1, .wo, 0⟩, ⟨0, 0, .wo, 0⟩]⟩,
  ⟨"GLB_SYNC_STATUS", 0x44, [], [⟨31, 24, .ro, 0⟩, ⟨15, 8, .ro, 0⟩, ⟨1, 1, .w1c, 0⟩, ⟨0, 0, .ro, 0⟩]⟩,
  ⟨"GLB_SYNC_STAMP_LO", 0x48, [], [⟨31, 0, .ro, 0⟩]⟩,
  ⟨"GLB_SYNC_STAMP_HI", 0x4C, [], [⟨31, 0, .ro, 0⟩]⟩,
  ⟨"GLB_SYNC_SKEW_LO", 0x50, [], [⟨31, 0, .rw, 0⟩]⟩,
  ⟨"GLB_SYNC_SKEW_HI", 0x54, [], [⟨31, 0, .rw, 0⟩]⟩,
  ⟨"GLB_TRIG_CFG", 0x60, [], [⟨31, 0, .rw, 0⟩]⟩,
  ⟨"GLB_TRIG_CTRL", 0x64, [], [⟨3, 0, .wo, 0⟩]⟩,
  ⟨"GLB_TRIG_TX_LO", 0x68, [], [⟨31, 0, .ro, 0⟩]⟩]

def mapGlb1 : List RegDef := [
  ⟨"GLB_TRIG_TX_HI", 0x6C, [], [⟨31, 0, .ro, 0⟩]⟩,
  ⟨"GLB_TRIG_DLY", 0x70, [(4, 4)], [⟨31, 0, .rw, 0⟩]⟩,
  ⟨"GLB_TRIG_RX_LO", 0x80, [(4, 8)], [⟨31, 0, .ro, 0⟩]⟩,
  ⟨"GLB_TRIG_RX_HI", 0x84, [(4, 8)], [⟨31, 0, .ro, 0⟩]⟩,
  ⟨"GLB_DWIN_LNK", 0xA0, [], [⟨7, 4, .rw, 0⟩, ⟨1, 0, .rw, 0⟩]⟩,
  ⟨"GLB_DWIN_SPB", 0xA4, [], [⟨7, 4, .rw, 0⟩, ⟨1, 0, .rw, 0⟩]⟩,
  ⟨"GLB_DWIN_STAGE", 0xA8, [], [⟨31, 16, .ro, 0⟩, ⟨15, 0, .ro, 0⟩]⟩,
  ⟨"GLB_ECC_CNT", 0xC0, [(6, 4)], [⟨31, 16, .w1cf, 0⟩, ⟨15, 0, .w1cf, 0⟩]⟩,
  ⟨"RING_SQ_CFG", 0x10000, [(64, 0x20)], [⟨31, 31, .rw, 0⟩, ⟨21, 16, .rw, 0⟩, ⟨13, 12, .rw, 1⟩, ⟨8, 8, .rw, 0⟩, ⟨3, 0, .rw, 4⟩]⟩,
  ⟨"RING_SQ_BASE_LO", 0x10004, [(64, 0x20)], [⟨31, 12, .rw, 0⟩]⟩,
  ⟨"RING_SQ_BASE_HI", 0x10008, [(64, 0x20)], [⟨15, 0, .rw, 0⟩]⟩,
  ⟨"RING_SQ_HOLD", 0x1000C, [(64, 0x20)], [⟨13, 0, .rw, 0x3E8⟩]⟩,
  ⟨"RING_SQ_DB", 0x10010, [(64, 0x20)], [⟨31, 0, .rw, 0⟩]⟩,
  ⟨"RING_SQ_HEAD", 0x10014, [(64, 0x20)], [⟨31, 0, .ro, 0⟩]⟩,
  ⟨"RING_SQ_STATUS", 0x10018, [(64, 0x20)], [⟨31, 16, .ro, 0⟩, ⟨7, 6, .ro, 0⟩, ⟨5, 5, .ro, 0⟩, ⟨4, 4, .ro, 0⟩, ⟨3, 3, .w1c, 0⟩, ⟨2, 2, .w1c, 0⟩, ⟨1, 1, .w1c, 0⟩]⟩,
  ⟨"RING_CQ_CFG", 0x10800, [(64, 0x20)], [⟨31, 31, .rw, 0⟩, ⟨9, 9, .rw, 1⟩, ⟨8, 8, .rw, 0⟩, ⟨3, 0, .rw, 4⟩]⟩,
  ⟨"RING_CQ_BASE_LO", 0x10804, [(64, 0x20)], [⟨31, 12, .rw, 0⟩]⟩,
  ⟨"RING_CQ_BASE_HI", 0x10808, [(64, 0x20)], [⟨15, 0, .rw, 0⟩]⟩,
  ⟨"RING_CQ_DB", 0x1080C, [(64, 0x20)], [⟨31, 0, .rw, 0⟩]⟩,
  ⟨"RING_CQ_TAIL", 0x10810, [(64, 0x20)], [⟨31, 0, .ro, 0⟩]⟩]

def mapGlb2 : List RegDef := [
  ⟨"RING_CQ_STATUS", 0x10814, [(64, 0x20)], [⟨31, 16, .ro, 0⟩, ⟨2, 2, .w1c, 0⟩, ⟨1, 1, .w1c, 0⟩]⟩,
  ⟨"RING_ARB", 0x11000, [], [⟨31, 24, .rw, 2⟩, ⟨23, 16, .rw, 1⟩, ⟨15, 8, .rw, 2⟩, ⟨7, 0, .rw, 4⟩]⟩,
  ⟨"RING_SCHED", 0x11004, [], [⟨15, 0, .rw, 0x32⟩]⟩,
  ⟨"RING_INFLIGHT", 0x11008, [], [⟨24, 16, .ro, 0⟩, ⟨12, 0, .ro, 0⟩]⟩,
  ⟨"MC_VERSION", 0x20000, [], [⟨31, 16, .ro, 0⟩, ⟨15, 8, .ro, 0⟩, ⟨7, 4, .ro, 0⟩]⟩,
  ⟨"MC_STATUS", 0x20004, [], [⟨10, 4, .ro, 0⟩, ⟨3, 3, .w1c, 0⟩, ⟨2, 2, .w1c, 0⟩, ⟨1, 1, .ro, 0⟩]⟩,
  ⟨"MC_INSTALL", 0x20008, [], [⟨31, 24, .ro, 0⟩, ⟨23, 4, .rw, 0⟩, ⟨2, 2, .ro, 0⟩, ⟨1, 1, .rw, 0⟩, ⟨0, 0, .wo, 0⟩]⟩,
  ⟨"MC_INSTALL_LEN", 0x2000C, [], [⟨31, 0, .rw, 0⟩]⟩,
  ⟨"MC_RELOADS", 0x20010, [], [⟨31, 0, .w1cf, 0⟩]⟩,
  ⟨"MC_FSEL", 0x20020, [], [⟨9, 0, .rw, 0⟩]⟩,
  ⟨"MC_FRAME", 0x20040, [(8, 4)], [⟨31, 0, .ro, 0⟩]⟩,
  ⟨"MC_ENG_STATUS", 0x21000, [(1024, 4)], [⟨31, 16, .w1cf, 0⟩, ⟨12, 10, .ro, 0⟩, ⟨9, 2, .ro, 0⟩, ⟨1, 1, .w1c, 0⟩, ⟨0, 0, .ro, 0⟩]⟩]

def mapGlb : List RegDef := mapGlb0 ++ mapGlb1 ++ mapGlb2

def mapLnk0 : List RegDef := [
  ⟨"LNK_P_CTRL", 0x100000, [(4, 0x1000)], [⟨16, 16, .rw, 0⟩, ⟨15, 15, .rw, 0⟩, ⟨14, 14, .rw, 0⟩, ⟨13, 13, .wo, 0⟩, ⟨12, 12, .wo, 0⟩, ⟨8, 8, .rw, 1⟩, ⟨5, 4, .rw, 2⟩, ⟨1, 0, .rw, 3⟩]⟩,
  ⟨"LNK_P_STATUS", 0x100004, [(4, 0x1000)], [⟨31, 28, .ro, 0⟩, ⟨27, 27, .w1c, 0⟩, ⟨26, 26, .w1c, 0⟩, ⟨25, 25, .ro, 0⟩, ⟨24, 24, .ro, 0⟩, ⟨23, 22, .ro, 0⟩, ⟨21, 20, .ro, 0⟩, ⟨19, 18, .ro, 3⟩, ⟨17, 16, .ro, 0⟩, ⟨15, 14, .ro, 3⟩, ⟨13, 13, .ro, 0⟩, ⟨12, 12, .ro, 0⟩, ⟨11, 11, .ro, 0⟩, ⟨3, 0, .ro, 0⟩]⟩,
  ⟨"LNK_P_PARTNER", 0x100008, [(4, 0x1000)], [⟨15, 8, .ro, 0⟩, ⟨6, 6, .ro, 0⟩, ⟨5, 4, .ro, 0⟩, ⟨2, 0, .ro, 0⟩]⟩,
  ⟨"LNK_P_MAP", 0x10000C, [(4, 0x1000)], [⟨20, 16, .ro, 0⟩, ⟨14, 12, .ro, 7⟩, ⟨11, 9, .ro, 7⟩, ⟨8, 6, .ro, 7⟩, ⟨5, 3, .ro, 7⟩, ⟨2, 0, .ro, 7⟩]⟩,
  ⟨"LNK_P_TXMAP", 0x100010, [(4, 0x1000)], [⟨14, 12, .ro, 7⟩, ⟨11, 9, .ro, 7⟩, ⟨8, 6, .ro, 7⟩, ⟨5, 3, .ro, 7⟩, ⟨2, 0, .ro, 7⟩]⟩,
  ⟨"LNK_P_SLEEP", 0x100014, [(4, 0x1000)], [⟨31, 16, .rw, 0x3E8⟩, ⟨15, 0, .rw, 0xA⟩]⟩,
  ⟨"LNK_P_THR", 0x100018, [(4, 0x1000)], [⟨23, 16, .rw, 4⟩, ⟨7, 0, .rw, 8⟩]⟩,
  ⟨"LNK_P_TXPRESET", 0x10001C, [(4, 0x1000)], [⟨13, 8, .rw, 0x1C⟩, ⟨7, 4, .rw, 4⟩, ⟨2, 0, .rw, 0⟩]⟩,
  ⟨"LNK_P_CNT", 0x100020, [(4, 0x1000)], [⟨31, 24, .w1cf, 0⟩, ⟨23, 16, .w1cf, 0⟩, ⟨15, 8, .w1cf, 0⟩, ⟨7, 0, .w1cf, 0⟩]⟩,
  ⟨"LNK_P_LSCNT", 0x100024, [(4, 0x1000)], [⟨31, 16, .w1cf, 0⟩, ⟨15, 0, .w1cf, 0⟩]⟩,
  ⟨"LNK_P_FERR", 0x100028, [(4, 0x1000)], [⟨31, 0, .w1cf, 0⟩]⟩,
  ⟨"LNK_P_PCFG", 0x100040, [(4, 0x1000)], [⟨15, 8, .rw, 0xA⟩, ⟨7, 0, .rw, 0x14⟩]⟩,
  ⟨"LNK_P_PSTAT", 0x100044, [(4, 0x1000)], [⟨24, 24, .ro, 0⟩, ⟨23, 16, .ro, 0⟩, ⟨11, 0, .ro, 0⟩]⟩,
  ⟨"LNK_P_ERR1", 0x100048, [(4, 0x1000)], [⟨31, 16, .w1cf, 0⟩, ⟨15, 0, .w1cf, 0⟩]⟩,
  ⟨"LNK_P_ERR2", 0x10004C, [(4, 0x1000)], [⟨31, 16, .w1cf, 0⟩, ⟨15, 0, .w1cf, 0⟩]⟩,
  ⟨"LNK_P_DROP", 0x100050, [(4, 0x1000)], [⟨31, 24, .w1cf, 0⟩, ⟨23, 16, .w1cf, 0⟩, ⟨15, 0, .w1cf, 0⟩]⟩,
  ⟨"LNK_P_L_CFG", 0x100100, [(4, 0x1000), (5, 0x40)], [⟨19, 16, .rw, 0⟩, ⟨8, 8, .wo, 0⟩, ⟨7, 7, .rw, 0⟩, ⟨6, 6, .rw, 0⟩, ⟨5, 4, .rw, 3⟩, ⟨1, 1, .rw, 0⟩, ⟨0, 0, .rw, 0⟩]⟩,
  ⟨"LNK_P_L_STATUS", 0x100104, [(4, 0x1000), (5, 0x40)], [⟨11, 10, .ro, 0⟩, ⟨9, 8, .ro, 0⟩, ⟨7, 7, .ro, 0⟩, ⟨6, 6, .ro, 0⟩, ⟨5, 5, .ro, 0⟩, ⟨4, 4, .ro, 0⟩]⟩,
  ⟨"LNK_P_L_TXEQ", 0x100108, [(4, 0x1000), (5, 0x40)], [⟨13, 8, .ro, 0x1C⟩, ⟨7, 4, .ro, 4⟩, ⟨2, 0, .ro, 0⟩]⟩,
  ⟨"LNK_P_L_RXEQ", 0x10010C, [(4, 0x1000), (5, 0x40)], [⟨31, 24, .ro, 0⟩, ⟨23, 16, .ro, 0⟩, ⟨15, 8, .ro, 0⟩, ⟨7, 4, .ro, 0⟩, ⟨3, 0, .ro, 0⟩]⟩]

def mapLnk1 : List RegDef := [
  ⟨"LNK_P_L_SYMERR", 0x100110, [(4, 0x1000), (5, 0x40)], [⟨31, 0, .w1cf, 0⟩]⟩,
  ⟨"LNK_P_L_PRBS_ERR", 0x100114, [(4, 0x1000), (5, 0x40)], [⟨31, 0, .w1cf, 0⟩]⟩,
  ⟨"LNK_P_L_PRBS_BITS_LO", 0x100118, [(4, 0x1000), (5, 0x40)], [⟨31, 0, .ro, 0⟩]⟩,
  ⟨"LNK_P_L_PRBS_BITS_HI", 0x10011C, [(4, 0x1000), (5, 0x40)], [⟨15, 0, .ro, 0⟩]⟩,
  ⟨"LNK_ID", 0x108000, [], [⟨31, 31, .ro, 0⟩, ⟨5, 0, .ro, 0⟩]⟩,
  ⟨"LNK_RTH", 0x108004, [], [⟨2, 2, .rw, 0⟩, ⟨1, 0, .rw, 0⟩]⟩,
  ⟨"LNK_RT", 0x108008, [(4, 4)], [⟨31, 0, .rw, 0⟩]⟩,
  ⟨"LNK_CPL_TMO", 0x108018, [], [⟨15, 0, .rw, 0xA⟩]⟩,
  ⟨"LNK_RQSTAT", 0x10801C, [], [⟨10, 0, .ro, 0⟩]⟩,
  ⟨"LNK_RDERR", 0x108020, [], [⟨31, 16, .w1cf, 0⟩, ⟨15, 0, .w1cf, 0⟩]⟩,
  ⟨"LNK_UREQ", 0x108024, [], [⟨31, 16, .w1cf, 0⟩, ⟨15, 0, .w1cf, 0⟩]⟩]

def mapLnk : List RegDef := mapLnk0 ++ mapLnk1

def mapIrq0 : List RegDef := [
  ⟨"IRQ_CTRL", 0x200000, [], [⟨0, 0, .rw, 0⟩]⟩,
  ⟨"IRQ_STATUS", 0x200004, [], [⟨2, 2, .w1c, 0⟩, ⟨1, 1, .w1c, 0⟩, ⟨0, 0, .ro, 0⟩]⟩,
  ⟨"IRQ_EOI", 0x200008, [], [⟨31, 31, .wo, 0⟩, ⟨24, 16, .wo, 0⟩, ⟨11, 0, .wo, 0⟩]⟩,
  ⟨"IRQ_HELD", 0x20000C, [], [⟨31, 0, .w1cf, 0⟩]⟩,
  ⟨"IRQ_LATCH", 0x200010, [], [⟨15, 8, .w1c, 0⟩, ⟨7, 7, .w1c, 0⟩, ⟨6, 6, .w1c, 0⟩, ⟨5, 5, .w1c, 0⟩, ⟨4, 4, .w1c, 0⟩, ⟨3, 0, .w1c, 0⟩]⟩,
  ⟨"IRQ_SW", 0x200014, [], [⟨31, 0, .w1s, 0⟩]⟩,
  ⟨"IRQ_SW_CLR", 0x200018, [], [⟨31, 0, .w1c, 0⟩]⟩,
  ⟨"IRQ_SMAP", 0x201000, [(4096, 4)], [⟨31, 31, .rw, 0⟩, ⟨30, 29, .ro, 0⟩, ⟨28, 28, .ro, 0⟩, ⟨8, 0, .rw, 0⟩]⟩,
  ⟨"IRQ_VEC_CFG", 0x205000, [(512, 8)], [⟨31, 16, .rw, 1⟩, ⟨15, 0, .rw, 1⟩]⟩,
  ⟨"IRQ_VEC_TGT", 0x205004, [(512, 8)], [⟨31, 31, .rw, 0⟩, ⟨30, 28, .ro, 0⟩, ⟨27, 16, .ro, 0⟩, ⟨6, 0, .rw, 0⟩]⟩,
  ⟨"IRQ_LVL", 0x207000, [(128, 4)], [⟨31, 0, .ro, 0⟩]⟩,
  ⟨"IRQ_PEND", 0x207200, [(128, 4)], [⟨31, 0, .ro, 0⟩]⟩,
  ⟨"IRQ_TGT_CTRL", 0x206000, [(64, 0x40)], [⟨31, 31, .rw, 0⟩, ⟨30, 30, .rw, 0⟩, ⟨29, 29, .rw, 0⟩, ⟨22, 16, .rw, 0x7F⟩, ⟨3, 0, .rw, 6⟩]⟩,
  ⟨"IRQ_TGT_STATE", 0x206004, [(64, 0x40)], [⟨2, 2, .ro, 0⟩, ⟨1, 1, .ro, 0⟩, ⟨0, 0, .rw, 0⟩]⟩,
  ⟨"IRQ_TGT_MADDR_LO", 0x206008, [(64, 0x40)], [⟨31, 2, .rw, 0⟩]⟩,
  ⟨"IRQ_TGT_MADDR_HI", 0x20600C, [(64, 0x40)], [⟨15, 0, .rw, 0⟩]⟩,
  ⟨"IRQ_TGT_MDATA", 0x206010, [(64, 0x40)], [⟨31, 0, .rw, 0⟩]⟩,
  ⟨"IRQ_TGT_WADDR_LO", 0x206014, [(64, 0x40)], [⟨31, 2, .rw, 0⟩]⟩,
  ⟨"IRQ_TGT_WADDR_HI", 0x206018, [(64, 0x40)], [⟨15, 0, .rw, 0⟩]⟩,
  ⟨"IRQ_TGT_WDATA", 0x20601C, [(64, 0x40)], [⟨31, 0, .rw, 0⟩]⟩]

def mapIrq1 : List RegDef := [
  ⟨"IRQ_TGT_RBASE_LO", 0x206020, [(64, 0x40)], [⟨31, 12, .rw, 0⟩]⟩,
  ⟨"IRQ_TGT_RBASE_HI", 0x206024, [(64, 0x40)], [⟨15, 0, .rw, 0⟩]⟩,
  ⟨"IRQ_TGT_RPROD", 0x206028, [(64, 0x40)], [⟨31, 0, .ro, 0⟩]⟩,
  ⟨"IRQ_TGT_RCONS", 0x20602C, [(64, 0x40)], [⟨31, 0, .rw, 0⟩]⟩]

def mapIrq : List RegDef := mapIrq0 ++ mapIrq1

def mapFlt0 : List RegDef := [
  ⟨"FLT_STATUS", 0x300000, [], [⟨31, 30, .ro, 0⟩, ⟨29, 29, .ro, 0⟩, ⟨28, 28, .ro, 0⟩, ⟨27, 27, .w1c, 0⟩, ⟨15, 0, .ro, 0⟩]⟩,
  ⟨"FLT_MOD", 0x300004, [], [⟨31, 30, .ro, 0⟩, ⟨29, 29, .ro, 0⟩, ⟨28, 28, .ro, 0⟩, ⟨27, 27, .ro, 0⟩, ⟨7, 0, .ro, 0⟩]⟩,
  ⟨"FLT_GRACE", 0x300008, [], [⟨15, 0, .rw, 0xA⟩]⟩,
  ⟨"FLT_QUIET", 0x30000C, [], [⟨15, 0, .rw, 0x64⟩]⟩,
  ⟨"FLT_BUDGET", 0x300010, [], [⟨31, 16, .rw, 0x3C⟩, ⟨3, 0, .rw, 8⟩]⟩,
  ⟨"FLT_ACK", 0x300014, [], [⟨31, 31, .wo, 0⟩, ⟨26, 16, .wo, 0⟩, ⟨11, 8, .wo, 0⟩, ⟨7, 0, .wo, 0⟩]⟩,
  ⟨"FLT_UNSTICK", 0x300018, [], [⟨31, 31, .wo, 0⟩, ⟨26, 16, .wo, 0⟩, ⟨11, 8, .wo, 0⟩, ⟨7, 0, .wo, 0⟩]⟩,
  ⟨"FLT_SEL", 0x30001C, [], [⟨31, 31, .wo, 0⟩, ⟨26, 16, .rw, 0⟩, ⟨11, 8, .rw, 0⟩, ⟨7, 0, .rw, 0⟩]⟩,
  ⟨"FLT_INST", 0x300020, [], [⟨31, 31, .ro, 0⟩, ⟨30, 29, .ro, 0⟩, ⟨28, 28, .ro, 0⟩, ⟨27, 27, .ro, 0⟩, ⟨26, 26, .ro, 0⟩, ⟨23, 20, .ro, 0⟩, ⟨15, 0, .ro, 0⟩]⟩,
  ⟨"FLT_BB_STATUS", 0x300024, [], [⟨13, 8, .ro, 0⟩, ⟨2, 2, .w1c, 0⟩, ⟨1, 1, .w1c, 0⟩, ⟨0, 0, .ro, 0⟩]⟩,
  ⟨"FLT_BB_SEQ", 0x300028, [], [⟨31, 0, .ro, 0⟩]⟩,
  ⟨"FLT_PORT", 0x300040, [(4, 4)], [⟨31, 30, .ro, 0⟩, ⟨29, 29, .ro, 0⟩, ⟨28, 28, .ro, 0⟩, ⟨27, 27, .ro, 0⟩, ⟨7, 0, .ro, 0⟩]⟩,
  ⟨"FLT_TILE", 0x300060, [(8, 4)], [⟨31, 30, .ro, 0⟩, ⟨29, 29, .ro, 0⟩, ⟨28, 28, .ro, 0⟩, ⟨27, 27, .ro, 0⟩, ⟨7, 0, .ro, 0⟩]⟩,
  ⟨"FLT_CLASS", 0x300400, [(256, 4)], [⟨31, 31, .ro, 0⟩, ⟨28, 24, .ro, 0⟩, ⟨19, 19, .rw, 0⟩, ⟨18, 18, .rw, 0⟩, ⟨17, 16, .rw, 0⟩, ⟨15, 0, .w1cf, 0⟩]⟩,
  ⟨"FLT_FE", 0x301000, [(1056, 4)], [⟨31, 30, .ro, 0⟩, ⟨29, 29, .ro, 0⟩, ⟨28, 28, .ro, 0⟩, ⟨27, 27, .ro, 0⟩, ⟨7, 0, .ro, 0⟩]⟩]

def mapFlt : List RegDef := mapFlt0

def mapCal0 : List RegDef := [
  ⟨"CAL_CTRL", 0x400000, [], [⟨2, 2, .rw, 1⟩, ⟨1, 1, .rw, 1⟩, ⟨0, 0, .rw, 1⟩]⟩,
  ⟨"CAL_STATUS", 0x400004, [], [⟨10, 9, .ro, 0⟩, ⟨8, 8, .w1c, 0⟩, ⟨7, 7, .ro, 0⟩, ⟨6, 6, .w1c, 0⟩, ⟨5, 5, .ro, 0⟩, ⟨4, 4, .ro, 0⟩, ⟨3, 3, .ro, 0⟩, ⟨2, 2, .ro, 0⟩]⟩,
  ⟨"CAL_GEN", 0x400008, [], [⟨31, 16, .ro, 0⟩, ⟨15, 0, .ro, 0⟩]⟩,
  ⟨"CAL_DELTA_T", 0x40000C, [], [⟨8, 0, .rw, 0x32⟩]⟩,
  ⟨"CAL_MAX_AGE", 0x400010, [], [⟨16, 0, .rw, 0xE10⟩]⟩,
  ⟨"CAL_ROT_PERIOD", 0x400014, [], [⟨16, 0, .rw, 0x3C⟩]⟩,
  ⟨"CAL_ARCH_MIN", 0x400018, [], [⟨16, 0, .rw, 0xE10⟩]⟩,
  ⟨"CAL_ARCH_CNT", 0x40001C, [], [⟨31, 0, .ro, 0⟩]⟩,
  ⟨"CAL_NOW_LO", 0x400020, [], [⟨31, 0, .rw, 0⟩]⟩,
  ⟨"CAL_NOW_HI", 0x400024, [], [⟨31, 0, .rw, 0⟩]⟩,
  ⟨"CAL_ANCHOR_TIME_LO", 0x400028, [], [⟨31, 0, .ro, 0⟩]⟩,
  ⟨"CAL_ANCHOR_TIME_HI", 0x40002C, [], [⟨31, 0, .ro, 0⟩]⟩,
  ⟨"CAL_MREF_LO", 0x400030, [], [⟨31, 0, .ro, 0⟩]⟩,
  ⟨"CAL_MREF_HI", 0x400034, [], [⟨31, 0, .ro, 0⟩]⟩,
  ⟨"CAL_ROT_ABANDON", 0x400038, [], [⟨31, 0, .w1cf, 0⟩]⟩,
  ⟨"CAL_ROT_FAIL", 0x40003C, [], [⟨31, 0, .w1cf, 0⟩]⟩,
  ⟨"CAL_TILE_TX", 0x400100, [(8, 0x10)], [⟨31, 16, .ro, 0xFFFF⟩, ⟨15, 0, .ro, 0⟩]⟩,
  ⟨"CAL_TILE_ROT", 0x400104, [(8, 0x10)], [⟨31, 31, .ro, 0⟩, ⟨30, 30, .ro, 0⟩, ⟨29, 29, .ro, 1⟩, ⟨15, 8, .ro, 0x80⟩, ⟨3, 0, .ro, 0⟩]⟩,
  ⟨"CAL_TILE_SHD", 0x400108, [(8, 0x10)], [⟨7, 0, .ro, 0⟩]⟩,
  ⟨"CAL_REMAP", 0x400200, [(32, 4)], [⟨31, 31, .ro, 0⟩, ⟨6, 0, .ro, 0⟩]⟩]

def mapCal1 : List RegDef := [
  ⟨"CAL_FE_STATE", 0x401000, [(1056, 4)], [⟨31, 28, .ro, 0xF⟩, ⟨27, 27, .ro, 1⟩, ⟨26, 24, .ro, 0⟩, ⟨23, 16, .ro, 0⟩, ⟨15, 0, .ro, 0xFFFF⟩]⟩]

def mapCal : List RegDef := mapCal0 ++ mapCal1

def mapThm0 : List RegDef := [
  ⟨"THM_STATUS", 0x500000, [], [⟨15, 8, .ro, 0⟩, ⟨7, 7, .ro, 0⟩, ⟨5, 0, .ro, 0⟩]⟩,
  ⟨"THM_TRIP", 0x500004, [], [⟨15, 0, .rw, 0x2710⟩]⟩,
  ⟨"THM_DERATE", 0x500008, [], [⟨31, 16, .rw, 0x251C⟩, ⟨15, 0, .rw, 0x2134⟩]⟩,
  ⟨"THM_GOV", 0x50000C, [], [⟨31, 16, .rw, 0xA⟩, ⟨6, 0, .rw, 0x19⟩]⟩,
  ⟨"THM_CORE", 0x500010, [], [⟨31, 16, .ro, 0⟩, ⟨15, 0, .ro, 0⟩]⟩,
  ⟨"THM_TILE_TEMP", 0x500040, [(8, 0x10)], [⟨31, 16, .ro, 0⟩, ⟨15, 0, .ro, 0⟩]⟩,
  ⟨"THM_TILE_BUDGET", 0x500044, [(8, 0x10)], [⟨15, 0, .rw, 0x1770⟩]⟩,
  ⟨"THM_TILE_GOV", 0x500048, [(8, 0x10)], [⟨31, 16, .ro, 0x1770⟩, ⟨15, 0, .ro, 0⟩]⟩,
  ⟨"THM_TEN_LO", 0x500100, [(8, 8)], [⟨31, 0, .ro, 0⟩]⟩,
  ⟨"THM_TEN_HI", 0x500104, [(8, 8)], [⟨31, 0, .ro, 0⟩]⟩,
  ⟨"THM_SENS", 0x500200, [(34, 4)], [⟨31, 31, .ro, 0⟩, ⟨30, 30, .ro, 0⟩, ⟨15, 0, .ro, 0⟩]⟩,
  ⟨"THM_SCNT", 0x500300, [(34, 4)], [⟨17, 0, .ro, 0⟩]⟩]

def mapThm : List RegDef := mapThm0

def mapSpa0 : List RegDef := [
  ⟨"SPA_CFG", 0x600000, [], [⟨15, 8, .rw, 0x1A⟩, ⟨1, 0, .rw, 2⟩]⟩,
  ⟨"SPA_STATUS", 0x600004, [], [⟨31, 16, .ro, 0⟩, ⟨12, 8, .ro, 0⟩, ⟨7, 7, .w1c, 0⟩, ⟨6, 6, .w1c, 0⟩, ⟨5, 5, .ro, 0⟩, ⟨4, 4, .ro, 0⟩, ⟨3, 3, .ro, 0⟩, ⟨1, 0, .ro, 0⟩]⟩,
  ⟨"SPA_CMD", 0x600008, [], [⟨31, 28, .ro, 0⟩, ⟨23, 16, .rw, 0⟩, ⟨6, 4, .rw, 0⟩, ⟨0, 0, .wo, 0⟩]⟩,
  ⟨"SPA_ADDR", 0x60000C, [], [⟨31, 0, .rw, 0⟩]⟩,
  ⟨"SPA_BUF", 0x600100, [(64, 4)], [⟨31, 0, .rw, 0⟩]⟩]

def mapSpa : List RegDef := mapSpa0

def mapSpb0 : List RegDef := [
  ⟨"SPB_CFG", 0x608000, [], [⟨0, 0, .rw, 0⟩]⟩,
  ⟨"SPB_STATUS", 0x608004, [], [⟨31, 28, .ro, 1⟩, ⟨26, 24, .ro, 1⟩, ⟨8, 8, .ro, 0⟩, ⟨4, 4, .ro, 0⟩, ⟨3, 3, .ro, 0⟩, ⟨1, 1, .w1c, 0⟩, ⟨0, 0, .w1c, 0⟩]⟩,
  ⟨"SPB_ERR", 0x608008, [], [⟨31, 16, .w1cf, 0⟩, ⟨3, 0, .ro, 0⟩]⟩]

def mapSpb : List RegDef := mapSpb0

def mapTil0 : List RegDef := [
  ⟨"TIL_STATUS", 0, [], [⟨10, 8, .ro, 0⟩, ⟨2, 2, .w1c, 0⟩, ⟨1, 1, .ro, 0⟩, ⟨0, 0, .ro, 0⟩]⟩,
  ⟨"TIL_RQ_CTRL", 0x400, [], [⟨31, 16, .rw, 0x40⟩, ⟨0, 0, .rw, 0⟩]⟩,
  ⟨"TIL_RQ_STATUS", 0x404, [], [⟨1, 1, .w1c, 0⟩, ⟨0, 0, .w1c, 0⟩]⟩,
  ⟨"TIL_RQ_DROP", 0x408, [], [⟨31, 0, .w1cf, 0⟩]⟩,
  ⟨"TIL_RQ_LEVEL", 0x40C, [], [⟨17, 0, .ro, 0⟩]⟩,
  ⟨"TIL_RQ_HBASE_LO", 0x410, [], [⟨31, 12, .rw, 0⟩]⟩,
  ⟨"TIL_RQ_HBASE_HI", 0x414, [], [⟨15, 0, .rw, 0⟩]⟩,
  ⟨"TIL_RQ_HSIZE", 0x418, [], [⟨4, 0, .rw, 0xA⟩]⟩,
  ⟨"TIL_RQ_HPROD", 0x41C, [], [⟨31, 0, .ro, 0⟩]⟩,
  ⟨"TIL_RQ_HCONS", 0x420, [], [⟨31, 0, .rw, 0⟩]⟩,
  ⟨"TIL_SEQ_BAR_MASK", 0x600, [(16, 4)], [⟨31, 0, .rw, 0⟩]⟩,
  ⟨"TIL_SEQ_BAR_ARR", 0x640, [], [⟨31, 0, .ro, 0⟩]⟩,
  ⟨"TIL_STB_CTRL", 0x700, [], [⟨1, 1, .rw, 0⟩, ⟨0, 0, .rw, 0⟩]⟩,
  ⟨"TIL_STB_STATUS", 0x704, [], [⟨2, 2, .w1c, 0⟩, ⟨1, 1, .ro, 0⟩, ⟨0, 0, .w1c, 0⟩]⟩,
  ⟨"TIL_STB_WCNT", 0x708, [], [⟨31, 0, .ro, 0⟩]⟩,
  ⟨"TIL_STB_DROP", 0x70C, [], [⟨31, 0, .w1cf, 0⟩]⟩,
  ⟨"TIL_CAP_PART", 0x800, [], [⟨20, 16, .rw, 4⟩, ⟨4, 0, .rw, 4⟩]⟩,
  ⟨"TIL_SEQSTART_LO", 0x810, [], [⟨31, 0, .rw, 0⟩]⟩,
  ⟨"TIL_SEQSTART_HI", 0x814, [], [⟨23, 0, .rw, 0⟩]⟩,
  ⟨"TIL_SINESTART_LO", 0x818, [], [⟨31, 0, .rw, 0⟩]⟩]

def mapTil1 : List RegDef := [
  ⟨"TIL_SINESTART_HI", 0x81C, [], [⟨23, 0, .rw, 0⟩]⟩,
  ⟨"SEP_BUSY", 0x1000, [], [⟨15, 0, .ro, 0⟩]⟩,
  ⟨"SEP_JOB", 0x1040, [(16, 4)], [⟨31, 30, .ro, 0⟩, ⟨29, 29, .ro, 0⟩, ⟨28, 27, .ro, 0⟩, ⟨26, 26, .ro, 0⟩, ⟨17, 12, .ro, 0⟩, ⟨11, 0, .ro, 0⟩]⟩,
  ⟨"APG_STATUS", 0x2000, [], [⟨8, 8, .w1c, 0⟩, ⟨3, 0, .ro, 0⟩]⟩,
  ⟨"APG_FL_CFG", 0x2004, [], [⟨15, 8, .rw, 0⟩, ⟨0, 0, .rw, 1⟩]⟩,
  ⟨"APG_FL_WCNT", 0x2008, [], [⟨16, 0, .ro, 0⟩]⟩,
  ⟨"APG_FL_STATUS", 0x200C, [], [⟨1, 1, .ro, 0⟩, ⟨0, 0, .w1c, 0⟩]⟩,
  ⟨"APG_PMAP", 0x2400, [(128, 4)], [⟨15, 12, .rw, 5⟩, ⟨11, 11, .rw, 0⟩, ⟨10, 8, .rw, 0⟩, ⟨5, 0, .rw, 0⟩]⟩,
  ⟨"APG_FL_FCNT", 0x2600, [(32, 0x10)], [⟨31, 0, .w1cf, 0⟩]⟩,
  ⟨"APG_FL_LOST", 0x2604, [(32, 0x10)], [⟨31, 0, .w1cf, 0⟩]⟩,
  ⟨"APG_FL_DQ", 0x2608, [(32, 0x10)], [⟨31, 0, .w1c, 0⟩]⟩,
  ⟨"TRG_CTRL", 0x3000, [], [⟨21, 16, .rw, 0⟩, ⟨8, 8, .rw, 0⟩, ⟨2, 2, .rw, 0⟩, ⟨1, 0, .rw, 0⟩]⟩,
  ⟨"TRG_STATUS", 0x3004, [], [⟨14, 8, .ro, 0⟩, ⟨4, 4, .w1c, 0⟩, ⟨3, 3, .ro, 0⟩, ⟨2, 0, .ro, 0⟩]⟩,
  ⟨"TRG_HOLDOFF", 0x3008, [], [⟨23, 0, .rw, 0⟩]⟩,
  ⟨"TRG_CAP_CTRL", 0x300C, [], [⟨31, 16, .rw, 0⟩]⟩,
  ⟨"TRG_CAP_POST", 0x3010, [], [⟨17, 0, .rw, 0⟩]⟩,
  ⟨"TRG_FIRECNT", 0x3014, [], [⟨31, 0, .ro, 0⟩]⟩,
  ⟨"TRG_SEGREC", 0x3018, [], [⟨17, 0, .ro, 0x30000⟩]⟩,
  ⟨"TRG_SLOT_CFG", 0x3040, [(8, 8)], [⟨31, 31, .rw, 0⟩, ⟨30, 28, .rw, 0⟩, ⟨23, 16, .rw, 0⟩, ⟨15, 8, .rw, 0⟩, ⟨0, 0, .rw, 0⟩]⟩,
  ⟨"TRG_SLOT_CODE", 0x3044, [(8, 8)], [⟨15, 8, .rw, 0⟩, ⟨7, 0, .rw, 0⟩]⟩]

def mapTil2 : List RegDef := [
  ⟨"TRG_CAP_LANE", 0x3080, [(8, 4)], [⟨31, 31, .rw, 0⟩, ⟨23, 16, .rw, 0⟩, ⟨15, 0, .rw, 0⟩]⟩,
  ⟨"APG_CTX_CTRL", 0x2100, [(4, 0x80)], [⟨31, 16, .rw, 0⟩, ⟨11, 0, .rw, 0⟩]⟩,
  ⟨"APG_CTX_STATUS", 0x2104, [(4, 0x80)], [⟨31, 20, .ro, 0⟩, ⟨19, 16, .ro, 0⟩, ⟨1, 0, .ro, 0⟩]⟩,
  ⟨"APG_CTX_GRPS", 0x2108, [(4, 0x80)], [⟨31, 0, .ro, 0⟩]⟩,
  ⟨"APG_CTX_WIN", 0x210C, [(4, 0x80)], [⟨27, 16, .rw, 0xFFF⟩, ⟨11, 0, .rw, 0⟩]⟩,
  ⟨"APG_CTX_XLIM", 0x2110, [(4, 0x80)], [⟨31, 16, .rw, 0xFFFF⟩, ⟨15, 0, .rw, 0⟩]⟩,
  ⟨"APG_CTX_YLIM", 0x2114, [(4, 0x80)], [⟨31, 16, .rw, 0xFFFF⟩, ⟨15, 0, .rw, 0⟩]⟩,
  ⟨"APG_CTX_B", 0x2118, [(4, 0x80)], [⟨7, 4, .ro, 0⟩, ⟨3, 0, .rw, 0⟩]⟩,
  ⟨"APG_CTX_XY", 0x211C, [(4, 0x80)], [⟨31, 16, .ro, 0⟩, ⟨15, 0, .ro, 0⟩]⟩,
  ⟨"APG_CTX_DR0", 0x2120, [(4, 0x80)], [⟨31, 0, .rw, 0⟩]⟩,
  ⟨"APG_CTX_DR1", 0x2124, [(4, 0x80)], [⟨31, 0, .rw, 0xFFFFFFFF⟩]⟩,
  ⟨"APG_CTX_D", 0x2128, [(4, 0x80)], [⟨31, 0, .ro, 0⟩]⟩,
  ⟨"APG_CTX_SIDX", 0x212C, [(4, 0x80)], [⟨29, 24, .rw, 0⟩, ⟨21, 16, .rw, 0⟩, ⟨13, 8, .rw, 0⟩, ⟨5, 0, .rw, 0⟩]⟩,
  ⟨"APG_CTX_XPERM0", 0x2130, [(4, 0x80)], [⟨31, 0, .rw, 0x76543210⟩]⟩,
  ⟨"APG_CTX_XPERM1", 0x2134, [(4, 0x80)], [⟨31, 0, .rw, 0xFEDCBA98⟩]⟩,
  ⟨"APG_CTX_YPERM0", 0x2138, [(4, 0x80)], [⟨31, 0, .rw, 0x76543210⟩]⟩,
  ⟨"APG_CTX_YPERM1", 0x213C, [(4, 0x80)], [⟨31, 0, .rw, 0xFEDCBA98⟩]⟩,
  ⟨"APG_CTX_CYC_LO", 0x2160, [(4, 0x80)], [⟨31, 0, .ro, 0⟩]⟩,
  ⟨"APG_CTX_CYC_HI", 0x2164, [(4, 0x80)], [⟨15, 0, .ro, 0⟩]⟩,
  ⟨"APG_CTX_I", 0x2140, [(4, 0x80), (8, 4)], [⟨31, 0, .rw, 0⟩]⟩]

def mapTil : List RegDef := mapTil0 ++ mapTil1 ++ mapTil2

def mapFe0 : List RegDef := [
  ⟨"CHN_FE_CFG", 0, [], [⟨23, 23, .rw, 1⟩, ⟨22, 22, .rw, 0⟩, ⟨19, 16, .rw, 0⟩, ⟨13, 12, .rw, 0⟩, ⟨2, 0, .rw, 0⟩]⟩,
  ⟨"CHN_FE_TARGET", 4, [], [⟨19, 0, .rw, 0x80000⟩]⟩,
  ⟨"CHN_ICLAMP", 8, [], [⟨11, 0, .rw, 0xE8B⟩]⟩,
  ⟨"CHN_VCLAMP", 0xC, [], [⟨27, 16, .rw, 0xFFF⟩, ⟨11, 0, .rw, 0⟩]⟩,
  ⟨"CHN_KMON", 0x10, [], [⟨11, 8, .rw, 4⟩, ⟨7, 0, .rw, 0x14⟩]⟩,
  ⟨"CHN_FE_STATUS", 0x14, [], [⟨18, 16, .ro, 0⟩, ⟨12, 12, .ro, 0⟩, ⟨11, 11, .ro, 0⟩, ⟨10, 10, .w1c, 0⟩, ⟨9, 9, .w1c, 0⟩, ⟨8, 8, .w1c, 0⟩, ⟨7, 7, .ro, 0⟩, ⟨6, 6, .w1c, 0⟩, ⟨5, 5, .w1c, 0⟩, ⟨4, 4, .ro, 0⟩, ⟨3, 3, .w1c, 0⟩, ⟨2, 2, .ro, 0⟩, ⟨1, 1, .ro, 0⟩, ⟨0, 0, .ro, 0⟩]⟩,
  ⟨"CHN_CONTACT_CFG", 0x18, [], [⟨24, 24, .rw, 0⟩, ⟨23, 16, .rw, 0x64⟩, ⟨15, 0, .rw, 0x64⟩]⟩,
  ⟨"CHN_CONTACT_RES", 0x1C, [], [⟨31, 16, .ro, 0⟩, ⟨15, 4, .ro, 0⟩, ⟨3, 3, .ro, 0⟩, ⟨2, 0, .ro, 7⟩]⟩,
  ⟨"CHN_SINE_CTRL", 0x40, [], [⟨31, 16, .rw, 0x14⟩, ⟨9, 9, .w1c, 0⟩, ⟨8, 8, .ro, 0⟩, ⟨4, 4, .rw, 0⟩, ⟨3, 3, .rw, 0⟩, ⟨1, 1, .wo, 0⟩, ⟨0, 0, .rw, 0⟩]⟩,
  ⟨"CHN_SINE_FTW", 0x44, [], [⟨31, 0, .rw, 0⟩]⟩,
  ⟨"CHN_SINE_PHASE0", 0x48, [], [⟨31, 0, .rw, 0⟩]⟩,
  ⟨"CHN_SINE_AMP", 0x4C, [], [⟨19, 0, .rw, 0⟩]⟩,
  ⟨"CHN_SINE_OFS", 0x50, [], [⟨19, 0, .rw, 0x80000⟩]⟩,
  ⟨"CHN_SINE_PADJ", 0x54, [], [⟨31, 0, .rw, 0⟩]⟩,
  ⟨"CHN_ADC_CTRL", 0x100, [], [⟨31, 16, .rw, 1⟩, ⟨11, 8, .rw, 0⟩, ⟨7, 7, .rw, 0⟩, ⟨3, 3, .wo, 0⟩, ⟨2, 2, .wo, 0⟩, ⟨1, 0, .rw, 0⟩]⟩,
  ⟨"CHN_ADC_STATUS", 0x104, [], [⟨17, 12, .ro, 0⟩, ⟨11, 8, .ro, 0⟩, ⟨7, 7, .ro, 0⟩, ⟨6, 4, .ro, 0⟩, ⟨3, 3, .w1c, 0⟩, ⟨2, 2, .w1c, 0⟩, ⟨1, 1, .w1c, 0⟩, ⟨0, 0, .ro, 0⟩]⟩,
  ⟨"CHN_ADC_INJ", 0x108, [], [⟨19, 16, .wo, 0⟩, ⟨10, 8, .wo, 0⟩, ⟨6, 4, .wo, 0⟩, ⟨3, 0, .wo, 0⟩]⟩,
  ⟨"CHN_ADC_LIM", 0x10C, [], [⟨31, 16, .rw, 0xFFFF⟩, ⟨15, 0, .rw, 0⟩]⟩,
  ⟨"CHN_ADC_CNT", 0x110, [], [⟨15, 0, .w1cf, 0⟩]⟩,
  ⟨"CHN_ADC_LAST_RES", 0x114, [], [⟨31, 0, .ro, 0⟩]⟩]

def mapFe1 : List RegDef := [
  ⟨"CHN_ADC_ENTRY", 0x140, [(16, 4)], [⟨15, 15, .rw, 0⟩, ⟨14, 14, .rw, 0⟩, ⟨13, 12, .rw, 0⟩, ⟨10, 8, .rw, 0⟩, ⟨6, 4, .rw, 0⟩, ⟨3, 0, .rw, 0⟩]⟩,
  ⟨"CHN_TDC_CFG", 0x180, [], [⟨19, 18, .rw, 0⟩, ⟨17, 16, .rw, 0⟩, ⟨8, 8, .rw, 0⟩, ⟨5, 1, .rw, 0⟩, ⟨0, 0, .rw, 0⟩]⟩,
  ⟨"CHN_TIM_STATUS", 0x184, [], [⟨12, 8, .ro, 0⟩, ⟨4, 4, .w1c, 0⟩, ⟨3, 3, .w1c, 0⟩, ⟨2, 2, .w1c, 0⟩, ⟨1, 1, .ro, 0⟩, ⟨0, 0, .ro, 0⟩]⟩,
  ⟨"CHN_TDC_LOST", 0x188, [], [⟨31, 0, .w1cf, 0⟩]⟩,
  ⟨"CHN_TDC_LAST_LO", 0x18C, [], [⟨31, 0, .ro, 0⟩]⟩,
  ⟨"CHN_TDC_LAST_HI", 0x190, [], [⟨31, 0, .ro, 0⟩]⟩,
  ⟨"CHN_TIM_DSK", 0x194, [], [⟨29, 20, .ro, 0⟩, ⟨19, 10, .ro, 0⟩, ⟨9, 0, .ro, 0⟩]⟩,
  ⟨"CHN_TIM_UOFS", 0x198, [], [⟨27, 16, .rw, 0⟩, ⟨11, 0, .rw, 0⟩]⟩,
  ⟨"CHN_CMP_CFG", 0x200, [], [⟨28, 28, .rw, 0⟩, ⟨27, 27, .rw, 0⟩, ⟨26, 26, .rw, 0⟩, ⟨25, 24, .rw, 1⟩, ⟨23, 20, .rw, 3⟩, ⟨19, 18, .rw, 1⟩, ⟨17, 17, .rw, 0⟩, ⟨16, 16, .rw, 1⟩, ⟨12, 12, .rw, 0⟩, ⟨11, 11, .rw, 0⟩, ⟨10, 10, .rw, 0⟩, ⟨9, 8, .rw, 1⟩, ⟨7, 4, .rw, 3⟩, ⟨3, 2, .rw, 1⟩, ⟨1, 1, .rw, 0⟩, ⟨0, 0, .rw, 1⟩]⟩,
  ⟨"CHN_CMP_THR", 0x204, [], [⟨29, 16, .rw, 0x3FFF⟩, ⟨13, 0, .rw, 0⟩]⟩,
  ⟨"CHN_CMP_STATUS", 0x208, [], [⟨9, 9, .w1c, 0⟩, ⟨8, 8, .w1c, 0⟩, ⟨7, 7, .w1c, 0⟩, ⟨6, 6, .w1c, 0⟩, ⟨5, 5, .ro, 0⟩, ⟨4, 4, .ro, 0⟩, ⟨3, 3, .ro, 0⟩, ⟨2, 2, .ro, 0⟩, ⟨1, 1, .ro, 0⟩, ⟨0, 0, .ro, 0⟩]⟩,
  ⟨"CHN_CMP_FAILCNT", 0x20C, [], [⟨31, 0, .w1cf, 0⟩]⟩]

def mapFe : List RegDef := mapFe0 ++ mapFe1

def mapChn0 : List RegDef := [
  ⟨"CHN_SEQ_CTRL", 0x300, [], [⟨0, 0, .wo, 0⟩]⟩,
  ⟨"CHN_SEQ_STATUS", 0x304, [], [⟨31, 28, .ro, 0⟩, ⟨27, 20, .ro, 0⟩, ⟨19, 16, .ro, 0⟩, ⟨15, 15, .ro, 0⟩, ⟨14, 14, .w1c, 0⟩, ⟨13, 13, .w1c, 0⟩, ⟨12, 12, .w1c, 0⟩, ⟨11, 11, .w1c, 0⟩, ⟨10, 10, .w1c, 0⟩, ⟨9, 9, .ro, 0⟩, ⟨2, 0, .ro, 0⟩]⟩,
  ⟨"CHN_SEQ_PC", 0x308, [], [⟨31, 20, .ro, 0⟩, ⟨12, 0, .ro, 0⟩]⟩,
  ⟨"CHN_SEQ_GRP", 0x30C, [], [⟨31, 31, .ro, 0⟩, ⟨30, 30, .ro, 0⟩, ⟨20, 16, .ro, 0⟩, ⟨6, 0, .ro, 0⟩]⟩,
  ⟨"CHN_SEQ_LOOP", 0x310, [(4, 4)], [⟨31, 0, .ro, 0⟩]⟩,
  ⟨"CHN_SEQ_VCNT_LO", 0x320, [], [⟨31, 0, .ro, 0⟩]⟩,
  ⟨"CHN_SEQ_VCNT_HI", 0x324, [], [⟨15, 0, .ro, 0⟩]⟩,
  ⟨"CHN_SEQ_PAD", 0x328, [], [⟨31, 0, .ro, 0⟩]⟩,
  ⟨"CHN_SEQ_EVT", 0x32C, [], [⟨9, 9, .w1c, 0⟩, ⟨8, 8, .w1c, 0⟩, ⟨7, 0, .ro, 0⟩]⟩,
  ⟨"CHN_SEQ_JREQ", 0x330, [], [⟨31, 31, .ro, 0⟩, ⟨30, 30, .ro, 0⟩, ⟨12, 0, .ro, 0⟩]⟩,
  ⟨"CHN_SEQ_JBND", 0x334, [], [⟨31, 20, .ro, 0⟩, ⟨12, 0, .ro, 0⟩]⟩,
  ⟨"CHN_STRM_BASE", 0x338, [], [⟨12, 5, .rw, 0⟩]⟩,
  ⟨"CHN_STRM_SIZE", 0x33C, [], [⟨12, 0, .rw, 0x400⟩]⟩,
  ⟨"CHN_STRM_FILL", 0x340, [], [⟨12, 0, .ro, 0⟩]⟩,
  ⟨"CHN_STRM_REFILL", 0x344, [], [⟨12, 0, .rw, 0x100⟩]⟩,
  ⟨"CHN_STRM_STALLCNT", 0x348, [], [⟨31, 0, .w1cf, 0⟩]⟩,
  ⟨"CHN_DRV_LVL", 0x34C, [], [⟨31, 16, .rw, 0x2762⟩, ⟨15, 0, .rw, 0x2762⟩]⟩,
  ⟨"CHN_DRV_VTT", 0x350, [], [⟨15, 0, .rw, 0x2762⟩]⟩,
  ⟨"CHN_TS_PER", 0x400, [(32, 0x20)], [⟨27, 8, .rw, 4⟩, ⟨7, 0, .rw, 0⟩]⟩,
  ⟨"CHN_TS_D1", 0x404, [(32, 0x20)], [⟨27, 8, .rw, 0⟩, ⟨7, 0, .rw, 0⟩]⟩]

def mapChn1 : List RegDef := [
  ⟨"CHN_TS_D2", 0x408, [(32, 0x20)], [⟨27, 8, .rw, 0⟩, ⟨7, 0, .rw, 0⟩]⟩,
  ⟨"CHN_TS_D3", 0x40C, [(32, 0x20)], [⟨27, 8, .rw, 0⟩, ⟨7, 0, .rw, 0⟩]⟩,
  ⟨"CHN_TS_S1", 0x410, [(32, 0x20)], [⟨27, 8, .rw, 0⟩, ⟨7, 0, .rw, 0⟩]⟩,
  ⟨"CHN_TS_S2", 0x414, [(32, 0x20)], [⟨27, 8, .rw, 0⟩, ⟨7, 0, .rw, 0⟩]⟩,
  ⟨"CHN_TS_FMT", 0x418, [(32, 0x20)], [⟨2, 2, .rw, 0⟩, ⟨1, 0, .rw, 0⟩]⟩]

def mapChn : List RegDef := mapChn0 ++ mapChn1

end Sys2Proof.Machine
end

