-- ==== Sys2Proof/Machine/Address.lean ====
section
/-! DEFINITION. Where each register lies (R430, R435 to R438) and what it holds after a power-on reset (R7). -/

namespace Sys2Proof.Machine

/-- Tile base (R437). -/
def tileBase (t : Nat) : Nat := 0x800000 + t * 0x100000

/-- Channel block of global channel c (R4, R438). -/
def chB (c : Nat) : Nat := tileBase (c / 128) + 0x10000 + (c % 128) * 0x800

/-- Shade block of shade nn = tile * 4 + k (R4, R438). -/
def shB (nn : Nat) : Nat := tileBase (nn / 4) + 0x50000 + (nn % 4) * 0x800

/-- The block of front-end u, numbered as UNIT in R72: channels 0 to 1,023, then shades 1,024 to 1,055. -/
def feB (u : Nat) : Nat := if u < 1024 then chB u else shB (u - 1024)

/-- The tile of front-end u. -/
def tileOf (u : Nat) : Nat := if u < 1024 then u / 128 else (u - 1024) / 4

/-- The kinds of block the window is made of. -/
inductive Blk where
  | glb | lnk | irq | flt | cal | thm | sp | til | front | engine | none
  deriving DecidableEq, Repr

/-- The block of a byte address, the index of the block's copy (tile or front-end), the offset its map counts by. -/
def locate (a : Nat) : Blk × Nat × Nat :=
  if a < 0x100000 then (.glb, 0, a)
  else if a < 0x200000 then (.lnk, 0, a)
  else if a < 0x300000 then (.irq, 0, a)
  else if a < 0x400000 then (.flt, 0, a)
  else if a < 0x500000 then (.cal, 0, a)
  else if a < 0x600000 then (.thm, 0, a)
  else if a < 0x700000 then (.sp, 0, a)
  else if a < 0x800000 then (.none, 0, a)
  else if a < 0x1000000 then
    let t := (a - 0x800000) / 0x100000
    let o := (a - 0x800000) % 0x100000
    if o < 0x10000 then (.til, t, o)
    else if o < 0x50000 then
      let l := (o - 0x10000) / 0x800
      let f := (o - 0x10000) % 0x800
      (if f < 0x300 then .front else .engine, t * 128 + l, f)
    else if o < 0x52000 then
      let k := (o - 0x50000) / 0x800
      let f := (o - 0x50000) % 0x800
      (if f < 0x300 then .front else .none, 1024 + t * 4 + k, f)
    else (.none, t, o)
  else (.none, 0, a)

/-- The registers of a kind of block. -/
def Blk.regs : Blk → List RegDef
  | .glb => mapGlb | .lnk => mapLnk | .irq => mapIrq | .flt => mapFlt | .cal => mapCal | .thm => mapThm
  | .sp => mapSpa ++ mapSpb | .til => mapTil | .front => mapFe | .engine => mapChn | .none => []

/-- The indexes that offset d spells over the dimensions (count, stride), if it spells any. -/
def dimIndex : List (Nat × Nat) → Nat → Option (List Nat)
  | [], d => if d = 0 then some [] else none
  | (c, st) :: r, d => if d / st < c then (dimIndex r (d % st)).map ((d / st) :: ·) else none

/-- The register of a block list that holds offset o, with its indexes. -/
def findIn : List RegDef → Nat → Option (RegDef × List Nat)
  | [], _ => none
  | r :: rs, o =>
    if o < r.off then findIn rs o
    else match dimIndex r.dims (o - r.off) with
      | some is => some (r, is)
      | none => findIn rs o

/-- The register at a byte address, with its indexes; none where no table names the address (R430). -/
def findReg (a : Nat) : Option (RegDef × List Nat) := let b := locate a; findIn b.1.regs b.2.2

/-- The reset word of a register's fields. -/
def RegDef.resetWord (r : RegDef) : Nat := r.fields.foldl (fun n f => n + f.rst <<< f.lo) 0

/-- FLT_CLASS at reset (R357, R358, R372): FIXED, SCOPES, PEVT and the default LEVEL of each class. -/
def classReset (c : Nat) : Nat :=
  let row (fixed scopes pevt level : Nat) := fixed <<< 31 + scopes <<< 24 + pevt <<< 19 + level <<< 16
  match c with
  | 0x01 | 0x02 | 0x03 => row 0 0b10100 0 1
  | 0x04 | 0x08 | 0x0A => row 0 0b00100 0 1
  | 0x05 => row 0 0b00001 1 0
  | 0x06 => row 0 0b00011 0 2
  | 0x07 => row 0 0b00011 1 0
  | 0x09 => row 1 0b00111 0 0
  | 0x0B | 0x13 => row 0 0b00100 0 0
  | 0x0C => row 0 0b10101 0 0
  | 0x0D => row 0 0b10101 1 0
  | 0x0E | 0x0F => row 1 0b01000 1 0
  | 0x10 | 0x11 | 0x12 => row 1 0b00001 0 3
  | _ => 0

/-- What a register holds after a power-on reset: the reset column of its table (R7), with the values that depend on
the index or on the part: the tile number (R437), the grade and serial number (R2, R435). [DESIGN CHOICE, log entry 4] -/
def resetWord (a : Nat) : Word :=
  match findReg a with
  | none => 0
  | some (r, _) =>
    let w := r.resetWord
    let b := locate a
    if b.1 = .til ∧ b.2.2 = 0 then BitVec.ofNat 32 (w + b.2.1 <<< 8)
    else if a = 0 then BitVec.ofNat 32 (w + b2n Config.gradeAM)
    else if a = 4 then Config.serialNumber.extractLsb' 0 32
    else if a = 8 then Config.serialNumber.extractLsb' 32 32
    else if b.1 = .flt ∧ 0x300400 ≤ a ∧ a < 0x300800 then BitVec.ofNat 32 (classReset ((a - 0x300400) / 4))
    else BitVec.ofNat 32 w

end Sys2Proof.Machine
end

