-- ==== Sys2Proof/Machine/Fields.lean ====
section
/-! DEFINITION. The named register fields of the spec: REGISTER.FIELD, its offset in its block, its top and bottom bit.
Blocks with one copy (GLB, LNK, IRQ, FLT, CAL, THM, SPA, SPB) carry absolute byte addresses (R430, R435, R436);
tile fields count from the tile base, channel and shade fields from the channel block (R437, R438).
Of an indexed register the offset of index 0 stands here; the reader adds index times stride to the base. -/

namespace Sys2Proof.Machine

/-! GLB_PART_ID (R435) -/
abbrev GLB_PART_ID.PART : Fld := ⟨0, 31, 16⟩
abbrev GLB_PART_ID.STEP : Fld := ⟨0, 15, 8⟩
abbrev GLB_PART_ID.GRADE : Fld := ⟨0, 0, 0⟩
/-! GLB_SERIAL_LO (R435) -/
abbrev GLB_SERIAL_LO.SERIAL : Fld := ⟨4, 31, 0⟩
/-! GLB_SERIAL_HI (R435) -/
abbrev GLB_SERIAL_HI.SERIAL : Fld := ⟨8, 31, 0⟩
/-! GLB_STATUS (R23) -/
abbrev GLB_STATUS.EPOCH_VALID : Fld := ⟨0x10, 16, 16⟩
abbrev GLB_STATUS.TILE_Q : Fld := ⟨0x10, 15, 8⟩
abbrev GLB_STATUS.SVC_REJ : Fld := ⟨0x10, 7, 7⟩
abbrev GLB_STATUS.REF_INT : Fld := ⟨0x10, 6, 6⟩
abbrev GLB_STATUS.ROOT_LOCK : Fld := ⟨0x10, 5, 5⟩
abbrev GLB_STATUS.STATE : Fld := ⟨0x10, 2, 0⟩
/-! GLB_CTRL (R23) -/
abbrev GLB_CTRL.SVC_EXIT : Fld := ⟨0x14, 1, 1⟩
abbrev GLB_CTRL.SVC_REQ : Fld := ⟨0x14, 0, 0⟩
/-! GLB_BOOT_STATUS (R412) -/
abbrev GLB_BOOT_STATUS.ERR : Fld := ⟨0x18, 15, 8⟩
abbrev GLB_BOOT_STATUS.HALT : Fld := ⟨0x18, 7, 7⟩
abbrev GLB_BOOT_STATUS.PHASE : Fld := ⟨0x18, 3, 0⟩
/-! GLB_RESET (R412) -/
abbrev GLB_RESET.KEY : Fld := ⟨0x20, 31, 16⟩
abbrev GLB_RESET.TILES : Fld := ⟨0x20, 15, 8⟩
abbrev GLB_RESET.KEYERR : Fld := ⟨0x20, 7, 7⟩
abbrev GLB_RESET.MODULE : Fld := ⟨0x20, 0, 0⟩
/-! GLB_RESET_CAUSE (R412) -/
abbrev GLB_RESET_CAUSE.COUNT : Fld := ⟨0x24, 31, 16⟩
abbrev GLB_RESET_CAUSE.PREV : Fld := ⟨0x24, 10, 8⟩
abbrev GLB_RESET_CAUSE.WARM : Fld := ⟨0x24, 4, 4⟩
abbrev GLB_RESET_CAUSE.CAUSE : Fld := ⟨0x24, 3, 0⟩
/-! GLB_INTERRUPTED_OP (R412) -/
abbrev GLB_INTERRUPTED_OP.VALID : Fld := ⟨0x28, 31, 31⟩
abbrev GLB_INTERRUPTED_OP.SQ : Fld := ⟨0x28, 25, 20⟩
abbrev GLB_INTERRUPTED_OP.TAG : Fld := ⟨0x28, 19, 8⟩
abbrev GLB_INTERRUPTED_OP.OPCODE : Fld := ⟨0x28, 7, 0⟩
/-! GLB_TB_LO (R142) -/
abbrev GLB_TB_LO.TB : Fld := ⟨0x30, 31, 0⟩
/-! GLB_TB_HI (R142) -/
abbrev GLB_TB_HI.TB : Fld := ⟨0x34, 23, 0⟩
/-! GLB_SYNC_CTRL (R205) -/
abbrev GLB_SYNC_CTRL.INVAL : Fld := ⟨0x40, 2, 2⟩
abbrev GLB_SYNC_CTRL.APPLY : Fld := ⟨0x40, 1, 1⟩
abbrev GLB_SYNC_CTRL.ARM : Fld := ⟨0x40, 0, 0⟩
/-! GLB_SYNC_STATUS (R205) -/
abbrev GLB_SYNC_STATUS.EXTRA : Fld := ⟨0x44, 31, 24⟩
abbrev GLB_SYNC_STATUS.EPH : Fld := ⟨0x44, 15, 8⟩
abbrev GLB_SYNC_STATUS.APIGN : Fld := ⟨0x44, 1, 1⟩
abbrev GLB_SYNC_STATUS.SEEN : Fld := ⟨0x44, 0, 0⟩
/-! GLB_SYNC_STAMP_LO (R205) -/
abbrev GLB_SYNC_STAMP_LO.STAMP : Fld := ⟨0x48, 31, 0⟩
/-! GLB_SYNC_STAMP_HI (R205) -/
abbrev GLB_SYNC_STAMP_HI.STAMP : Fld := ⟨0x4C, 31, 0⟩
/-! GLB_SYNC_SKEW_LO (R205) -/
abbrev GLB_SYNC_SKEW_LO.SKEW : Fld := ⟨0x50, 31, 0⟩
/-! GLB_SYNC_SKEW_HI (R205) -/
abbrev GLB_SYNC_SKEW_HI.SKEW : Fld := ⟨0x54, 31, 0⟩
/-! GLB_TRIG_CFG (R205) -/
abbrev GLB_TRIG_CFG.LINES : Fld := ⟨0x60, 31, 0⟩
/-! GLB_TRIG_CTRL (R205) -/
abbrev GLB_TRIG_CTRL.PULSE : Fld := ⟨0x64, 3, 0⟩
/-! GLB_TRIG_TX_LO (R205) -/
abbrev GLB_TRIG_TX_LO.STAMP : Fld := ⟨0x68, 31, 0⟩
/-! GLB_TRIG_TX_HI (R205) -/
abbrev GLB_TRIG_TX_HI.STAMP : Fld := ⟨0x6C, 31, 0⟩
/-! GLB_TRIG_DLY (R205), index stride 4 (count 4) -/
abbrev GLB_TRIG_DLY.DLY : Fld := ⟨0x70, 31, 0⟩
/-! GLB_TRIG_RX_LO (R205), index stride 8 (count 4) -/
abbrev GLB_TRIG_RX_LO.STAMP : Fld := ⟨0x80, 31, 0⟩
/-! GLB_TRIG_RX_HI (R205), index stride 8 (count 4) -/
abbrev GLB_TRIG_RX_HI.STAMP : Fld := ⟨0x84, 31, 0⟩
/-! GLB_DWIN_LNK (R435) -/
abbrev GLB_DWIN_LNK.CPAGE : Fld := ⟨0xA0, 7, 4⟩
abbrev GLB_DWIN_LNK.SEQPG : Fld := ⟨0xA0, 1, 0⟩
/-! GLB_DWIN_SPB (R435) -/
abbrev GLB_DWIN_SPB.CPAGE : Fld := ⟨0xA4, 7, 4⟩
abbrev GLB_DWIN_SPB.SEQPG : Fld := ⟨0xA4, 1, 0⟩
/-! GLB_DWIN_STAGE (R435) -/
abbrev GLB_DWIN_STAGE.SIZE : Fld := ⟨0xA8, 31, 16⟩
abbrev GLB_DWIN_STAGE.BASE : Fld := ⟨0xA8, 15, 0⟩
/-! GLB_ECC_CNT (R14), index stride 4 (count 6) -/
abbrev GLB_ECC_CNT.UNCORR : Fld := ⟨0xC0, 31, 16⟩
abbrev GLB_ECC_CNT.CORR : Fld := ⟨0xC0, 15, 0⟩
/-! RING_SQ_CFG (R262), index stride 0x20 (count 64) -/
abbrev RING_SQ_CFG.EN : Fld := ⟨0x10000, 31, 31⟩
abbrev RING_SQ_CFG.CQ : Fld := ⟨0x10000, 21, 16⟩
abbrev RING_SQ_CFG.CLASS : Fld := ⟨0x10000, 13, 12⟩
abbrev RING_SQ_CFG.FMT : Fld := ⟨0x10000, 8, 8⟩
abbrev RING_SQ_CFG.LOG2 : Fld := ⟨0x10000, 3, 0⟩
/-! RING_SQ_BASE_LO (R262), index stride 0x20 (count 64) -/
abbrev RING_SQ_BASE_LO.ADDR : Fld := ⟨0x10004, 31, 12⟩
/-! RING_SQ_BASE_HI (R262), index stride 0x20 (count 64) -/
abbrev RING_SQ_BASE_HI.ADDR : Fld := ⟨0x10008, 15, 0⟩
/-! RING_SQ_HOLD (R262), index stride 0x20 (count 64) -/
abbrev RING_SQ_HOLD.HOLD_US : Fld := ⟨0x1000C, 13, 0⟩
/-! RING_SQ_DB (R262), index stride 0x20 (count 64) -/
abbrev RING_SQ_DB.TAIL : Fld := ⟨0x10010, 31, 0⟩
/-! RING_SQ_HEAD (R262), index stride 0x20 (count 64) -/
abbrev RING_SQ_HEAD.HEAD : Fld := ⟨0x10014, 31, 0⟩
/-! RING_SQ_STATUS (R262), index stride 0x20 (count 64) -/
abbrev RING_SQ_STATUS.INFLIGHT : Fld := ⟨0x10018, 31, 16⟩
abbrev RING_SQ_STATUS.WAIT : Fld := ⟨0x10018, 7, 6⟩
abbrev RING_SQ_STATUS.ORDER : Fld := ⟨0x10018, 5, 5⟩
abbrev RING_SQ_STATUS.BUSY : Fld := ⟨0x10018, 4, 4⟩
abbrev RING_SQ_STATUS.FETCHERR : Fld := ⟨0x10018, 3, 3⟩
abbrev RING_SQ_STATUS.CFGERR : Fld := ⟨0x10018, 2, 2⟩
abbrev RING_SQ_STATUS.DBERR : Fld := ⟨0x10018, 1, 1⟩
/-! RING_CQ_CFG (R262), index stride 0x20 (count 64) -/
abbrev RING_CQ_CFG.EN : Fld := ⟨0x10800, 31, 31⟩
abbrev RING_CQ_CFG.EVT : Fld := ⟨0x10800, 9, 9⟩
abbrev RING_CQ_CFG.FMT : Fld := ⟨0x10800, 8, 8⟩
abbrev RING_CQ_CFG.LOG2 : Fld := ⟨0x10800, 3, 0⟩
/-! RING_CQ_BASE_LO (R262), index stride 0x20 (count 64) -/
abbrev RING_CQ_BASE_LO.ADDR : Fld := ⟨0x10804, 31, 12⟩
/-! RING_CQ_BASE_HI (R262), index stride 0x20 (count 64) -/
abbrev RING_CQ_BASE_HI.ADDR : Fld := ⟨0x10808, 15, 0⟩
/-! RING_CQ_DB (R262), index stride 0x20 (count 64) -/
abbrev RING_CQ_DB.HEAD : Fld := ⟨0x1080C, 31, 0⟩
/-! RING_CQ_TAIL (R262), index stride 0x20 (count 64) -/
abbrev RING_CQ_TAIL.TAIL : Fld := ⟨0x10810, 31, 0⟩
/-! RING_CQ_STATUS (R262), index stride 0x20 (count 64) -/
abbrev RING_CQ_STATUS.RSVD : Fld := ⟨0x10814, 31, 16⟩
abbrev RING_CQ_STATUS.CFGERR : Fld := ⟨0x10814, 2, 2⟩
abbrev RING_CQ_STATUS.DBERR : Fld := ⟨0x10814, 1, 1⟩
/-! RING_ARB (R262) -/
abbrev RING_ARB.WCAL : Fld := ⟨0x11000, 31, 24⟩
abbrev RING_ARB.W3 : Fld := ⟨0x11000, 23, 16⟩
abbrev RING_ARB.W2 : Fld := ⟨0x11000, 15, 8⟩
abbrev RING_ARB.W1 : Fld := ⟨0x11000, 7, 0⟩
/-! RING_SCHED (R262) -/
abbrev RING_SCHED.SLICE_US : Fld := ⟨0x11004, 15, 0⟩
/-! RING_INFLIGHT (R262) -/
abbrev RING_INFLIGHT.C0 : Fld := ⟨0x11008, 24, 16⟩
abbrev RING_INFLIGHT.TOTAL : Fld := ⟨0x11008, 12, 0⟩
/-! MC_VERSION (R339) -/
abbrev MC_VERSION.BASE : Fld := ⟨0x20000, 31, 16⟩
abbrev MC_VERSION.PATCH : Fld := ⟨0x20000, 15, 8⟩
abbrev MC_VERSION.STAGE : Fld := ⟨0x20000, 7, 4⟩
/-! MC_STATUS (R339) -/
abbrev MC_STATUS.QUEUE : Fld := ⟨0x20004, 10, 4⟩
abbrev MC_STATUS.INSTIGN : Fld := ⟨0x20004, 3, 3⟩
abbrev MC_STATUS.ALTSRC : Fld := ⟨0x20004, 2, 2⟩
abbrev MC_STATUS.RELOAD : Fld := ⟨0x20004, 1, 1⟩
/-! MC_INSTALL (R339) -/
abbrev MC_INSTALL.RESULT : Fld := ⟨0x20008, 31, 24⟩
abbrev MC_INSTALL.OFFSET : Fld := ⟨0x20008, 23, 4⟩
abbrev MC_INSTALL.BUSY : Fld := ⟨0x20008, 2, 2⟩
abbrev MC_INSTALL.COMMIT_SVN : Fld := ⟨0x20008, 1, 1⟩
abbrev MC_INSTALL.START : Fld := ⟨0x20008, 0, 0⟩
/-! MC_INSTALL_LEN (R339) -/
abbrev MC_INSTALL_LEN.BYTES : Fld := ⟨0x2000C, 31, 0⟩
/-! MC_RELOADS (R339) -/
abbrev MC_RELOADS.COUNT : Fld := ⟨0x20010, 31, 0⟩
/-! MC_FSEL (R339) -/
abbrev MC_FSEL.ENGINE : Fld := ⟨0x20020, 9, 0⟩
/-! MC_FRAME (R339), index stride 4 (count 8) -/
abbrev MC_FRAME.WORD : Fld := ⟨0x20040, 31, 0⟩
/-! MC_ENG_STATUS (R339), index stride 4 (count 1024) -/
abbrev MC_ENG_STATUS.MCHK : Fld := ⟨0x21000, 31, 16⟩
abbrev MC_ENG_STATUS.MCAUSE : Fld := ⟨0x21000, 12, 10⟩
abbrev MC_ENG_STATUS.PEND : Fld := ⟨0x21000, 9, 2⟩
abbrev MC_ENG_STATUS.AOVR : Fld := ⟨0x21000, 1, 1⟩
abbrev MC_ENG_STATUS.ALTSRC : Fld := ⟨0x21000, 0, 0⟩
/-! LNK_P_CTRL (R295), index stride 0x1000 (count 4) -/
abbrev LNK_P_CTRL.NOSLEEP : Fld := ⟨0x100000, 16, 16⟩
abbrev LNK_P_CTRL.FARLB : Fld := ⟨0x100000, 15, 15⟩
abbrev LNK_P_CTRL.DISABLE : Fld := ⟨0x100000, 14, 14⟩
abbrev LNK_P_CTRL.HOTRST : Fld := ⟨0x100000, 13, 13⟩
abbrev LNK_P_CTRL.RETRAIN : Fld := ⟨0x100000, 12, 12⟩
abbrev LNK_P_CTRL.SPARE_EN : Fld := ⟨0x100000, 8, 8⟩
abbrev LNK_P_CTRL.MAXW : Fld := ⟨0x100000, 5, 4⟩
abbrev LNK_P_CTRL.MAXGEN : Fld := ⟨0x100000, 1, 0⟩
/-! LNK_P_STATUS (R295), index stride 0x1000 (count 4) -/
abbrev LNK_P_STATUS.DCAUSE : Fld := ⟨0x100004, 31, 28⟩
abbrev LNK_P_STATUS.CTLIGN : Fld := ⟨0x100004, 27, 27⟩
abbrev LNK_P_STATUS.DOWN_SEEN : Fld := ⟨0x100004, 26, 26⟩
abbrev LNK_P_STATUS.SPARED : Fld := ⟨0x100004, 25, 25⟩
abbrev LNK_P_STATUS.SPARE_OK : Fld := ⟨0x100004, 24, 24⟩
abbrev LNK_P_STATUS.RX_LS : Fld := ⟨0x100004, 23, 22⟩
abbrev LNK_P_STATUS.TX_LS : Fld := ⟨0x100004, 21, 20⟩
abbrev LNK_P_STATUS.CAPGEN : Fld := ⟨0x100004, 19, 18⟩
abbrev LNK_P_STATUS.GEN : Fld := ⟨0x100004, 17, 16⟩
abbrev LNK_P_STATUS.WIDTH : Fld := ⟨0x100004, 15, 14⟩
abbrev LNK_P_STATUS.UPSTREAM : Fld := ⟨0x100004, 13, 13⟩
abbrev LNK_P_STATUS.PTYPE : Fld := ⟨0x100004, 12, 12⟩
abbrev LNK_P_STATUS.UP : Fld := ⟨0x100004, 11, 11⟩
abbrev LNK_P_STATUS.STATE : Fld := ⟨0x100004, 3, 0⟩
/-! LNK_P_PARTNER (R295), index stride 0x1000 (count 4) -/
abbrev LNK_P_PARTNER.DEVTYPE : Fld := ⟨0x100008, 15, 8⟩
abbrev LNK_P_PARTNER.SPARE_CAP : Fld := ⟨0x100008, 6, 6⟩
abbrev LNK_P_PARTNER.MAXW : Fld := ⟨0x100008, 5, 4⟩
abbrev LNK_P_PARTNER.RATES : Fld := ⟨0x100008, 2, 0⟩
/-! LNK_P_MAP (R295), index stride 0x1000 (count 4) -/
abbrev LNK_P_MAP.RXINV : Fld := ⟨0x10000C, 20, 16⟩
abbrev LNK_P_MAP.RXSP : Fld := ⟨0x10000C, 14, 12⟩
abbrev LNK_P_MAP.RXL3 : Fld := ⟨0x10000C, 11, 9⟩
abbrev LNK_P_MAP.RXL2 : Fld := ⟨0x10000C, 8, 6⟩
abbrev LNK_P_MAP.RXL1 : Fld := ⟨0x10000C, 5, 3⟩
abbrev LNK_P_MAP.RXL0 : Fld := ⟨0x10000C, 2, 0⟩
/-! LNK_P_TXMAP (R295), index stride 0x1000 (count 4) -/
abbrev LNK_P_TXMAP.TXSP : Fld := ⟨0x100010, 14, 12⟩
abbrev LNK_P_TXMAP.TXL3 : Fld := ⟨0x100010, 11, 9⟩
abbrev LNK_P_TXMAP.TXL2 : Fld := ⟨0x100010, 8, 6⟩
abbrev LNK_P_TXMAP.TXL1 : Fld := ⟨0x100010, 5, 3⟩
abbrev LNK_P_TXMAP.TXL0 : Fld := ⟨0x100010, 2, 0⟩
/-! LNK_P_SLEEP (R295), index stride 0x1000 (count 4) -/
abbrev LNK_P_SLEEP.DARK_IDLE : Fld := ⟨0x100014, 31, 16⟩
abbrev LNK_P_SLEEP.DIM_IDLE : Fld := ⟨0x100014, 15, 0⟩
/-! LNK_P_THR (R295), index stride 0x1000 (count 4) -/
abbrev LNK_P_THR.DEGR : Fld := ⟨0x100018, 23, 16⟩
abbrev LNK_P_THR.FAIL : Fld := ⟨0x100018, 7, 0⟩
/-! LNK_P_TXPRESET (R295), index stride 0x1000 (count 4) -/
abbrev LNK_P_TXPRESET.MAIN : Fld := ⟨0x10001C, 13, 8⟩
abbrev LNK_P_TXPRESET.POST : Fld := ⟨0x10001C, 7, 4⟩
abbrev LNK_P_TXPRESET.PRE : Fld := ⟨0x10001C, 2, 0⟩
/-! LNK_P_CNT (R295), index stride 0x1000 (count 4) -/
abbrev LNK_P_CNT.TRAINS : Fld := ⟨0x100020, 31, 24⟩
abbrev LNK_P_CNT.RECOVS : Fld := ⟨0x100020, 23, 16⟩
abbrev LNK_P_CNT.SPARES : Fld := ⟨0x100020, 15, 8⟩
abbrev LNK_P_CNT.DOWNS : Fld := ⟨0x100020, 7, 0⟩
/-! LNK_P_LSCNT (R295), index stride 0x1000 (count 4) -/
abbrev LNK_P_LSCNT.DARK : Fld := ⟨0x100024, 31, 16⟩
abbrev LNK_P_LSCNT.DIM : Fld := ⟨0x100024, 15, 0⟩
/-! LNK_P_FERR (R295), index stride 0x1000 (count 4) -/
abbrev LNK_P_FERR.COUNT : Fld := ⟨0x100028, 31, 0⟩
/-! LNK_P_PCFG (R321), index stride 0x1000 (count 4) -/
abbrev LNK_P_PCFG.CR_TMO : Fld := ⟨0x100040, 15, 8⟩
abbrev LNK_P_PCFG.RPLY_TMO : Fld := ⟨0x100040, 7, 0⟩
/-! LNK_P_PSTAT (R321), index stride 0x1000 (count 4) -/
abbrev LNK_P_PSTAT.CRSTALL : Fld := ⟨0x100044, 24, 24⟩
abbrev LNK_P_PSTAT.UNACK : Fld := ⟨0x100044, 23, 16⟩
abbrev LNK_P_PSTAT.TXSEQ : Fld := ⟨0x100044, 11, 0⟩
/-! LNK_P_ERR1 (R321), index stride 0x1000 (count 4) -/
abbrev LNK_P_ERR1.CRC : Fld := ⟨0x100048, 31, 16⟩
abbrev LNK_P_ERR1.NAKTX : Fld := ⟨0x100048, 15, 0⟩
/-! LNK_P_ERR2 (R321), index stride 0x1000 (count 4) -/
abbrev LNK_P_ERR2.REPLAYS : Fld := ⟨0x10004C, 31, 16⟩
abbrev LNK_P_ERR2.NAKRX : Fld := ⟨0x10004C, 15, 0⟩
/-! LNK_P_DROP (R321), index stride 0x1000 (count 4) -/
abbrev LNK_P_DROP.TTL : Fld := ⟨0x100050, 31, 24⟩
abbrev LNK_P_DROP.MALF : Fld := ⟨0x100050, 23, 16⟩
abbrev LNK_P_DROP.NOROUTE : Fld := ⟨0x100050, 15, 0⟩
/-! LNK_P_L_CFG (R296), index stride 0x1000 (count 4), index stride 0x40 (count 5) -/
abbrev LNK_P_L_CFG.INJ_RATE : Fld := ⟨0x100100, 19, 16⟩
abbrev LNK_P_L_CFG.INJ : Fld := ⟨0x100100, 8, 8⟩
abbrev LNK_P_L_CFG.NEARLB : Fld := ⟨0x100100, 7, 7⟩
abbrev LNK_P_L_CFG.MODE : Fld := ⟨0x100100, 6, 6⟩
abbrev LNK_P_L_CFG.PRBS : Fld := ⟨0x100100, 5, 4⟩
abbrev LNK_P_L_CFG.CHK_EN : Fld := ⟨0x100100, 1, 1⟩
abbrev LNK_P_L_CFG.GEN_EN : Fld := ⟨0x100100, 0, 0⟩
/-! LNK_P_L_STATUS (R296), index stride 0x1000 (count 4), index stride 0x40 (count 5) -/
abbrev LNK_P_L_STATUS.TXROLE : Fld := ⟨0x100104, 11, 10⟩
abbrev LNK_P_L_STATUS.RXROLE : Fld := ⟨0x100104, 9, 8⟩
abbrev LNK_P_L_STATUS.PSYNC : Fld := ⟨0x100104, 7, 7⟩
abbrev LNK_P_L_STATUS.INV : Fld := ⟨0x100104, 6, 6⟩
abbrev LNK_P_L_STATUS.SLOCK : Fld := ⟨0x100104, 5, 5⟩
abbrev LNK_P_L_STATUS.BLOCK : Fld := ⟨0x100104, 4, 4⟩
/-! LNK_P_L_TXEQ (R296), index stride 0x1000 (count 4), index stride 0x40 (count 5) -/
abbrev LNK_P_L_TXEQ.MAIN : Fld := ⟨0x100108, 13, 8⟩
abbrev LNK_P_L_TXEQ.POST : Fld := ⟨0x100108, 7, 4⟩
abbrev LNK_P_L_TXEQ.PRE : Fld := ⟨0x100108, 2, 0⟩
/-! LNK_P_L_RXEQ (R296), index stride 0x1000 (count 4), index stride 0x40 (count 5) -/
abbrev LNK_P_L_RXEQ.ITER : Fld := ⟨0x10010C, 31, 24⟩
abbrev LNK_P_L_RXEQ.VMARGIN : Fld := ⟨0x10010C, 23, 16⟩
abbrev LNK_P_L_RXEQ.HMARGIN : Fld := ⟨0x10010C, 15, 8⟩
abbrev LNK_P_L_RXEQ.DFE : Fld := ⟨0x10010C, 7, 4⟩
abbrev LNK_P_L_RXEQ.CTLE : Fld := ⟨0x10010C, 3, 0⟩
/-! LNK_P_L_SYMERR (R296), index stride 0x1000 (count 4), index stride 0x40 (count 5) -/
abbrev LNK_P_L_SYMERR.COUNT : Fld := ⟨0x100110, 31, 0⟩
/-! LNK_P_L_PRBS_ERR (R296), index stride 0x1000 (count 4), index stride 0x40 (count 5) -/
abbrev LNK_P_L_PRBS_ERR.COUNT : Fld := ⟨0x100114, 31, 0⟩
/-! LNK_P_L_PRBS_BITS_LO (R296), index stride 0x1000 (count 4), index stride 0x40 (count 5) -/
abbrev LNK_P_L_PRBS_BITS_LO.COUNT : Fld := ⟨0x100118, 31, 0⟩
/-! LNK_P_L_PRBS_BITS_HI (R296), index stride 0x1000 (count 4), index stride 0x40 (count 5) -/
abbrev LNK_P_L_PRBS_BITS_HI.COUNT : Fld := ⟨0x10011C, 15, 0⟩
/-! LNK_ID (R322) -/
abbrev LNK_ID.VALID : Fld := ⟨0x108000, 31, 31⟩
abbrev LNK_ID.ID : Fld := ⟨0x108000, 5, 0⟩
/-! LNK_RTH (R322) -/
abbrev LNK_RTH.VALID : Fld := ⟨0x108004, 2, 2⟩
abbrev LNK_RTH.PORT : Fld := ⟨0x108004, 1, 0⟩
/-! LNK_RT (R322), index stride 4 (count 4) -/
abbrev LNK_RT.ENTRIES : Fld := ⟨0x108008, 31, 0⟩
/-! LNK_CPL_TMO (R322) -/
abbrev LNK_CPL_TMO.MS : Fld := ⟨0x108018, 15, 0⟩
/-! LNK_RQSTAT (R322) -/
abbrev LNK_RQSTAT.OUT : Fld := ⟨0x10801C, 10, 0⟩
/-! LNK_RDERR (R322) -/
abbrev LNK_RDERR.TMO : Fld := ⟨0x108020, 31, 16⟩
abbrev LNK_RDERR.FAIL : Fld := ⟨0x108020, 15, 0⟩
/-! LNK_UREQ (R322) -/
abbrev LNK_UREQ.UCPL : Fld := ⟨0x108024, 31, 16⟩
abbrev LNK_UREQ.UREQ : Fld := ⟨0x108024, 15, 0⟩
/-! IRQ_CTRL (R355) -/
abbrev IRQ_CTRL.EN : Fld := ⟨0x200000, 0, 0⟩
/-! IRQ_STATUS (R355) -/
abbrev IRQ_STATUS.EOIERR : Fld := ⟨0x200004, 2, 2⟩
abbrev IRQ_STATUS.CFGIGN : Fld := ⟨0x200004, 1, 1⟩
abbrev IRQ_STATUS.LINKWAIT : Fld := ⟨0x200004, 0, 0⟩
/-! IRQ_EOI (R355) -/
abbrev IRQ_EOI.VEC : Fld := ⟨0x200008, 31, 31⟩
abbrev IRQ_EOI.VECTOR : Fld := ⟨0x200008, 24, 16⟩
abbrev IRQ_EOI.SOURCE : Fld := ⟨0x200008, 11, 0⟩
/-! IRQ_HELD (R355) -/
abbrev IRQ_HELD.COUNT : Fld := ⟨0x20000C, 31, 0⟩
/-! IRQ_LATCH (R355) -/
abbrev IRQ_LATCH.FIRE : Fld := ⟨0x200010, 15, 8⟩
abbrev IRQ_LATCH.SYNC : Fld := ⟨0x200010, 7, 7⟩
abbrev IRQ_LATCH.MC : Fld := ⟨0x200010, 6, 6⟩
abbrev IRQ_LATCH.CAL : Fld := ⟨0x200010, 5, 5⟩
abbrev IRQ_LATCH.STATE : Fld := ⟨0x200010, 4, 4⟩
abbrev IRQ_LATCH.LINK : Fld := ⟨0x200010, 3, 0⟩
/-! IRQ_SW (R355) -/
abbrev IRQ_SW.SW : Fld := ⟨0x200014, 31, 0⟩
/-! IRQ_SW_CLR (R355) -/
abbrev IRQ_SW_CLR.SW : Fld := ⟨0x200018, 31, 0⟩
/-! IRQ_SMAP (R355), index stride 4 (count 4096) -/
abbrev IRQ_SMAP.EN : Fld := ⟨0x201000, 31, 31⟩
abbrev IRQ_SMAP.STATE : Fld := ⟨0x201000, 30, 29⟩
abbrev IRQ_SMAP.LVL : Fld := ⟨0x201000, 28, 28⟩
abbrev IRQ_SMAP.VECTOR : Fld := ⟨0x201000, 8, 0⟩
/-! IRQ_VEC_CFG (R355), index stride 8 (count 512) -/
abbrev IRQ_VEC_CFG.COUNT : Fld := ⟨0x205000, 31, 16⟩
abbrev IRQ_VEC_CFG.TIME : Fld := ⟨0x205000, 15, 0⟩
/-! IRQ_VEC_TGT (R355), index stride 8 (count 512) -/
abbrev IRQ_VEC_TGT.EN : Fld := ⟨0x205004, 31, 31⟩
abbrev IRQ_VEC_TGT.STATE : Fld := ⟨0x205004, 30, 28⟩
abbrev IRQ_VEC_TGT.NPEND : Fld := ⟨0x205004, 27, 16⟩
abbrev IRQ_VEC_TGT.TGT : Fld := ⟨0x205004, 6, 0⟩
/-! IRQ_LVL (R355), index stride 4 (count 128) -/
abbrev IRQ_LVL.LVL : Fld := ⟨0x207000, 31, 0⟩
/-! IRQ_PEND (R355), index stride 4 (count 128) -/
abbrev IRQ_PEND.PEND : Fld := ⟨0x207200, 31, 0⟩
/-! IRQ_TGT_CTRL (R355), index stride 0x40 (count 64) -/
abbrev IRQ_TGT_CTRL.EN : Fld := ⟨0x206000, 31, 31⟩
abbrev IRQ_TGT_CTRL.MSGEN : Fld := ⟨0x206000, 30, 30⟩
abbrev IRQ_TGT_CTRL.WAKEEN : Fld := ⟨0x206000, 29, 29⟩
abbrev IRQ_TGT_CTRL.FB : Fld := ⟨0x206000, 22, 16⟩
abbrev IRQ_TGT_CTRL.LOG2 : Fld := ⟨0x206000, 3, 0⟩
/-! IRQ_TGT_STATE (R355), index stride 0x40 (count 64) -/
abbrev IRQ_TGT_STATE.RFULL : Fld := ⟨0x206004, 2, 2⟩
abbrev IRQ_TGT_STATE.WAKESENT : Fld := ⟨0x206004, 1, 1⟩
abbrev IRQ_TGT_STATE.DOZE : Fld := ⟨0x206004, 0, 0⟩
/-! IRQ_TGT_MADDR_LO (R355), index stride 0x40 (count 64) -/
abbrev IRQ_TGT_MADDR_LO.ADDR : Fld := ⟨0x206008, 31, 2⟩
/-! IRQ_TGT_MADDR_HI (R355), index stride 0x40 (count 64) -/
abbrev IRQ_TGT_MADDR_HI.ADDR : Fld := ⟨0x20600C, 15, 0⟩
/-! IRQ_TGT_MDATA (R355), index stride 0x40 (count 64) -/
abbrev IRQ_TGT_MDATA.DATA : Fld := ⟨0x206010, 31, 0⟩
/-! IRQ_TGT_WADDR_LO (R355), index stride 0x40 (count 64) -/
abbrev IRQ_TGT_WADDR_LO.ADDR : Fld := ⟨0x206014, 31, 2⟩
/-! IRQ_TGT_WADDR_HI (R355), index stride 0x40 (count 64) -/
abbrev IRQ_TGT_WADDR_HI.ADDR : Fld := ⟨0x206018, 15, 0⟩
/-! IRQ_TGT_WDATA (R355), index stride 0x40 (count 64) -/
abbrev IRQ_TGT_WDATA.DATA : Fld := ⟨0x20601C, 31, 0⟩
/-! IRQ_TGT_RBASE_LO (R355), index stride 0x40 (count 64) -/
abbrev IRQ_TGT_RBASE_LO.ADDR : Fld := ⟨0x206020, 31, 12⟩
/-! IRQ_TGT_RBASE_HI (R355), index stride 0x40 (count 64) -/
abbrev IRQ_TGT_RBASE_HI.ADDR : Fld := ⟨0x206024, 15, 0⟩
/-! IRQ_TGT_RPROD (R355), index stride 0x40 (count 64) -/
abbrev IRQ_TGT_RPROD.COUNT : Fld := ⟨0x206028, 31, 0⟩
/-! IRQ_TGT_RCONS (R355), index stride 0x40 (count 64) -/
abbrev IRQ_TGT_RCONS.COUNT : Fld := ⟨0x20602C, 31, 0⟩
/-! FLT_STATUS (R372) -/
abbrev FLT_STATUS.LEVEL : Fld := ⟨0x300000, 31, 30⟩
abbrev FLT_STATUS.UNACK : Fld := ⟨0x300000, 29, 29⟩
abbrev FLT_STATUS.STICKY : Fld := ⟨0x300000, 28, 28⟩
abbrev FLT_STATUS.ACKIGN : Fld := ⟨0x300000, 27, 27⟩
abbrev FLT_STATUS.INFORCE : Fld := ⟨0x300000, 15, 0⟩
/-! FLT_MOD (R372) -/
abbrev FLT_MOD.LEVEL : Fld := ⟨0x300004, 31, 30⟩
abbrev FLT_MOD.UNACK : Fld := ⟨0x300004, 29, 29⟩
abbrev FLT_MOD.STICKY : Fld := ⟨0x300004, 28, 28⟩
abbrev FLT_MOD.INFORCE : Fld := ⟨0x300004, 27, 27⟩
abbrev FLT_MOD.LAST : Fld := ⟨0x300004, 7, 0⟩
/-! FLT_GRACE (R372) -/
abbrev FLT_GRACE.MS : Fld := ⟨0x300008, 15, 0⟩
/-! FLT_QUIET (R372) -/
abbrev FLT_QUIET.MS : Fld := ⟨0x30000C, 15, 0⟩
/-! FLT_BUDGET (R372) -/
abbrev FLT_BUDGET.WIN : Fld := ⟨0x300010, 31, 16⟩
abbrev FLT_BUDGET.MAX : Fld := ⟨0x300010, 3, 0⟩
/-! FLT_ACK (R372) -/
abbrev FLT_ACK.CLRCNT : Fld := ⟨0x300014, 31, 31⟩
abbrev FLT_ACK.UNIT : Fld := ⟨0x300014, 26, 16⟩
abbrev FLT_ACK.SCOPE : Fld := ⟨0x300014, 11, 8⟩
abbrev FLT_ACK.CLASS : Fld := ⟨0x300014, 7, 0⟩
/-! FLT_UNSTICK (R372) -/
abbrev FLT_UNSTICK.CLRCNT : Fld := ⟨0x300018, 31, 31⟩
abbrev FLT_UNSTICK.UNIT : Fld := ⟨0x300018, 26, 16⟩
abbrev FLT_UNSTICK.SCOPE : Fld := ⟨0x300018, 11, 8⟩
abbrev FLT_UNSTICK.CLASS : Fld := ⟨0x300018, 7, 0⟩
/-! FLT_SEL (R372) -/
abbrev FLT_SEL.CLRCNT : Fld := ⟨0x30001C, 31, 31⟩
abbrev FLT_SEL.UNIT : Fld := ⟨0x30001C, 26, 16⟩
abbrev FLT_SEL.SCOPE : Fld := ⟨0x30001C, 11, 8⟩
abbrev FLT_SEL.CLASS : Fld := ⟨0x30001C, 7, 0⟩
/-! FLT_INST (R372) -/
abbrev FLT_INST.INFORCE : Fld := ⟨0x300020, 31, 31⟩
abbrev FLT_INST.LEVEL : Fld := ⟨0x300020, 30, 29⟩
abbrev FLT_INST.UNACK : Fld := ⟨0x300020, 28, 28⟩
abbrev FLT_INST.STICKY : Fld := ⟨0x300020, 27, 27⟩
abbrev FLT_INST.COND : Fld := ⟨0x300020, 26, 26⟩
abbrev FLT_INST.WCNT : Fld := ⟨0x300020, 23, 20⟩
abbrev FLT_INST.RCNT : Fld := ⟨0x300020, 15, 0⟩
/-! FLT_BB_STATUS (R372) -/
abbrev FLT_BB_STATUS.STAGED : Fld := ⟨0x300024, 13, 8⟩
abbrev FLT_BB_STATUS.ERR : Fld := ⟨0x300024, 2, 2⟩
abbrev FLT_BB_STATUS.LOST : Fld := ⟨0x300024, 1, 1⟩
abbrev FLT_BB_STATUS.BUSY : Fld := ⟨0x300024, 0, 0⟩
/-! FLT_BB_SEQ (R372) -/
abbrev FLT_BB_SEQ.SEQ : Fld := ⟨0x300028, 31, 0⟩
/-! FLT_PORT (R372), index stride 4 (count 4) -/
abbrev FLT_PORT.LEVEL : Fld := ⟨0x300040, 31, 30⟩
abbrev FLT_PORT.UNACK : Fld := ⟨0x300040, 29, 29⟩
abbrev FLT_PORT.STICKY : Fld := ⟨0x300040, 28, 28⟩
abbrev FLT_PORT.INFORCE : Fld := ⟨0x300040, 27, 27⟩
abbrev FLT_PORT.LAST : Fld := ⟨0x300040, 7, 0⟩
/-! FLT_TILE (R372), index stride 4 (count 8) -/
abbrev FLT_TILE.LEVEL : Fld := ⟨0x300060, 31, 30⟩
abbrev FLT_TILE.UNACK : Fld := ⟨0x300060, 29, 29⟩
abbrev FLT_TILE.STICKY : Fld := ⟨0x300060, 28, 28⟩
abbrev FLT_TILE.INFORCE : Fld := ⟨0x300060, 27, 27⟩
abbrev FLT_TILE.LAST : Fld := ⟨0x300060, 7, 0⟩
/-! FLT_CLASS (R372), index stride 4 (count 256) -/
abbrev FLT_CLASS.FIXED : Fld := ⟨0x300400, 31, 31⟩
abbrev FLT_CLASS.SCOPES : Fld := ⟨0x300400, 28, 24⟩
abbrev FLT_CLASS.PEVT : Fld := ⟨0x300400, 19, 19⟩
abbrev FLT_CLASS.BBPALE : Fld := ⟨0x300400, 18, 18⟩
abbrev FLT_CLASS.LEVEL : Fld := ⟨0x300400, 17, 16⟩
abbrev FLT_CLASS.DCNT : Fld := ⟨0x300400, 15, 0⟩
/-! FLT_FE (R372), index stride 4 (count 1056) -/
abbrev FLT_FE.LEVEL : Fld := ⟨0x301000, 31, 30⟩
abbrev FLT_FE.UNACK : Fld := ⟨0x301000, 29, 29⟩
abbrev FLT_FE.STICKY : Fld := ⟨0x301000, 28, 28⟩
abbrev FLT_FE.INFORCE : Fld := ⟨0x301000, 27, 27⟩
abbrev FLT_FE.LAST : Fld := ⟨0x301000, 7, 0⟩
/-! CAL_CTRL (R236) -/
abbrev CAL_CTRL.AUTO_COMMIT : Fld := ⟨0x400000, 2, 2⟩
abbrev CAL_CTRL.ROT_EN : Fld := ⟨0x400000, 1, 1⟩
abbrev CAL_CTRL.XFER_EN : Fld := ⟨0x400000, 0, 0⟩
/-! CAL_STATUS (R236) -/
abbrev CAL_STATUS.RESTORED : Fld := ⟨0x400004, 10, 9⟩
abbrev CAL_STATUS.ARCH_ERR : Fld := ⟨0x400004, 8, 8⟩
abbrev CAL_STATUS.ARCH_BUSY : Fld := ⟨0x400004, 7, 7⟩
abbrev CAL_STATUS.TIME_BACK : Fld := ⟨0x400004, 6, 6⟩
abbrev CAL_STATUS.TIME_SET : Fld := ⟨0x400004, 5, 5⟩
abbrev CAL_STATUS.ANCHOR_STAGED : Fld := ⟨0x400004, 4, 4⟩
abbrev CAL_STATUS.ANCHOR_RUN : Fld := ⟨0x400004, 3, 3⟩
abbrev CAL_STATUS.XFER_STAGED : Fld := ⟨0x400004, 2, 2⟩
/-! CAL_GEN (R236) -/
abbrev CAL_GEN.ANCHOR_GEN : Fld := ⟨0x400008, 31, 16⟩
abbrev CAL_GEN.GEN : Fld := ⟨0x400008, 15, 0⟩
/-! CAL_DELTA_T (R236) -/
abbrev CAL_DELTA_T.DT : Fld := ⟨0x40000C, 8, 0⟩
/-! CAL_MAX_AGE (R236) -/
abbrev CAL_MAX_AGE.SEC : Fld := ⟨0x400010, 16, 0⟩
/-! CAL_ROT_PERIOD (R236) -/
abbrev CAL_ROT_PERIOD.SEC : Fld := ⟨0x400014, 16, 0⟩
/-! CAL_ARCH_MIN (R236) -/
abbrev CAL_ARCH_MIN.SEC : Fld := ⟨0x400018, 16, 0⟩
/-! CAL_ARCH_CNT (R236) -/
abbrev CAL_ARCH_CNT.COUNT : Fld := ⟨0x40001C, 31, 0⟩
/-! CAL_NOW_LO (R236) -/
abbrev CAL_NOW_LO.SEC : Fld := ⟨0x400020, 31, 0⟩
/-! CAL_NOW_HI (R236) -/
abbrev CAL_NOW_HI.SEC : Fld := ⟨0x400024, 31, 0⟩
/-! CAL_ANCHOR_TIME_LO (R236) -/
abbrev CAL_ANCHOR_TIME_LO.SEC : Fld := ⟨0x400028, 31, 0⟩
/-! CAL_ANCHOR_TIME_HI (R236) -/
abbrev CAL_ANCHOR_TIME_HI.SEC : Fld := ⟨0x40002C, 31, 0⟩
/-! CAL_MREF_LO (R236) -/
abbrev CAL_MREF_LO.NV : Fld := ⟨0x400030, 31, 0⟩
/-! CAL_MREF_HI (R236) -/
abbrev CAL_MREF_HI.NV : Fld := ⟨0x400034, 31, 0⟩
/-! CAL_ROT_ABANDON (R236) -/
abbrev CAL_ROT_ABANDON.COUNT : Fld := ⟨0x400038, 31, 0⟩
/-! CAL_ROT_FAIL (R236) -/
abbrev CAL_ROT_FAIL.COUNT : Fld := ⟨0x40003C, 31, 0⟩
/-! CAL_TILE_TX (R236), index stride 0x10 (count 8) -/
abbrev CAL_TILE_TX.AGE : Fld := ⟨0x400100, 31, 16⟩
abbrev CAL_TILE_TX.TEMP : Fld := ⟨0x400100, 15, 0⟩
/-! CAL_TILE_ROT (R236), index stride 0x10 (count 8) -/
abbrev CAL_TILE_ROT.PASS : Fld := ⟨0x400104, 31, 31⟩
abbrev CAL_TILE_ROT.XFER : Fld := ⟨0x400104, 30, 30⟩
abbrev CAL_TILE_ROT.DUE : Fld := ⟨0x400104, 29, 29⟩
abbrev CAL_TILE_ROT.OWED : Fld := ⟨0x400104, 15, 8⟩
abbrev CAL_TILE_ROT.ROT : Fld := ⟨0x400104, 3, 0⟩
/-! CAL_TILE_SHD (R236), index stride 0x10 (count 8) -/
abbrev CAL_TILE_SHD.STATE : Fld := ⟨0x400108, 7, 0⟩
/-! CAL_REMAP (R236), index stride 4 (count 32) -/
abbrev CAL_REMAP.VALID : Fld := ⟨0x400200, 31, 31⟩
abbrev CAL_REMAP.LOCAL : Fld := ⟨0x400200, 6, 0⟩
/-! CAL_FE_STATE (R236), index stride 4 (count 1056) -/
abbrev CAL_FE_STATE.UCLASS : Fld := ⟨0x401000, 31, 28⟩
abbrev CAL_FE_STATE.OWED : Fld := ⟨0x401000, 27, 27⟩
abbrev CAL_FE_STATE.STATE : Fld := ⟨0x401000, 26, 24⟩
abbrev CAL_FE_STATE.FAILS : Fld := ⟨0x401000, 23, 16⟩
abbrev CAL_FE_STATE.AGE : Fld := ⟨0x401000, 15, 0⟩
/-! THM_STATUS (R383) -/
abbrev THM_STATUS.TVALID : Fld := ⟨0x500000, 15, 8⟩
abbrev THM_STATUS.CVALID : Fld := ⟨0x500000, 7, 7⟩
abbrev THM_STATUS.BROKEN : Fld := ⟨0x500000, 5, 0⟩
/-! THM_TRIP (R383) -/
abbrev THM_TRIP.TEMP : Fld := ⟨0x500004, 15, 0⟩
/-! THM_DERATE (R383) -/
abbrev THM_DERATE.HI : Fld := ⟨0x500008, 31, 16⟩
abbrev THM_DERATE.LO : Fld := ⟨0x500008, 15, 0⟩
/-! THM_GOV (R383) -/
abbrev THM_GOV.PATCHG : Fld := ⟨0x50000C, 31, 16⟩
abbrev THM_GOV.FLOOR : Fld := ⟨0x50000C, 6, 0⟩
/-! THM_CORE (R383) -/
abbrev THM_CORE.HOT : Fld := ⟨0x500010, 31, 16⟩
abbrev THM_CORE.MEAN : Fld := ⟨0x500010, 15, 0⟩
/-! THM_TILE_TEMP (R383), index stride 0x10 (count 8) -/
abbrev THM_TILE_TEMP.HOT : Fld := ⟨0x500040, 31, 16⟩
abbrev THM_TILE_TEMP.MEAN : Fld := ⟨0x500040, 15, 0⟩
/-! THM_TILE_BUDGET (R383), index stride 0x10 (count 8) -/
abbrev THM_TILE_BUDGET.MW : Fld := ⟨0x500044, 15, 0⟩
/-! THM_TILE_GOV (R383), index stride 0x10 (count 8) -/
abbrev THM_TILE_GOV.INST : Fld := ⟨0x500048, 31, 16⟩
abbrev THM_TILE_GOV.CHARGED : Fld := ⟨0x500048, 15, 0⟩
/-! THM_TEN_LO (R383), index stride 8 (count 8) -/
abbrev THM_TEN_LO.UJ : Fld := ⟨0x500100, 31, 0⟩
/-! THM_TEN_HI (R383), index stride 8 (count 8) -/
abbrev THM_TEN_HI.UJ : Fld := ⟨0x500104, 31, 0⟩
/-! THM_SENS (R383), index stride 4 (count 34) -/
abbrev THM_SENS.BROKEN : Fld := ⟨0x500200, 31, 31⟩
abbrev THM_SENS.VALID : Fld := ⟨0x500200, 30, 30⟩
abbrev THM_SENS.TEMP : Fld := ⟨0x500200, 15, 0⟩
/-! THM_SCNT (R383), index stride 4 (count 34) -/
abbrev THM_SCNT.COUNT : Fld := ⟨0x500300, 17, 0⟩
/-! SPA_CFG (R413) -/
abbrev SPA_CFG.MINDIV : Fld := ⟨0x600000, 15, 8⟩
abbrev SPA_CFG.MAXMODE : Fld := ⟨0x600000, 1, 0⟩
/-! SPA_STATUS (R413) -/
abbrev SPA_STATUS.DIV : Fld := ⟨0x600004, 31, 16⟩
abbrev SPA_STATUS.DLOG2 : Fld := ⟨0x600004, 12, 8⟩
abbrev SPA_STATUS.CMDIGN : Fld := ⟨0x600004, 7, 7⟩
abbrev SPA_STATUS.RANGE : Fld := ⟨0x600004, 6, 6⟩
abbrev SPA_STATUS.INTOSC : Fld := ⟨0x600004, 5, 5⟩
abbrev SPA_STATUS.NOSFDP : Fld := ⟨0x600004, 4, 4⟩
abbrev SPA_STATUS.BUSY : Fld := ⟨0x600004, 3, 3⟩
abbrev SPA_STATUS.MODE : Fld := ⟨0x600004, 1, 0⟩
/-! SPA_CMD (R413) -/
abbrev SPA_CMD.RESULT : Fld := ⟨0x600008, 31, 28⟩
abbrev SPA_CMD.LENM1 : Fld := ⟨0x600008, 23, 16⟩
abbrev SPA_CMD.OP : Fld := ⟨0x600008, 6, 4⟩
abbrev SPA_CMD.START : Fld := ⟨0x600008, 0, 0⟩
/-! SPA_ADDR (R413) -/
abbrev SPA_ADDR.ADDR : Fld := ⟨0x60000C, 31, 0⟩
/-! SPA_BUF (R413), index stride 4 (count 64) -/
abbrev SPA_BUF.DATA : Fld := ⟨0x600100, 31, 0⟩
/-! SPB_CFG (R413) -/
abbrev SPB_CFG.DDR : Fld := ⟨0x608000, 0, 0⟩
/-! SPB_STATUS (R413) -/
abbrev SPB_STATUS.PHASE : Fld := ⟨0x608004, 31, 28⟩
abbrev SPB_STATUS.STATE : Fld := ⟨0x608004, 26, 24⟩
abbrev SPB_STATUS.DDR : Fld := ⟨0x608004, 8, 8⟩
abbrev SPB_STATUS.NOCLK : Fld := ⟨0x608004, 4, 4⟩
abbrev SPB_STATUS.WBUSY : Fld := ⟨0x608004, 3, 3⟩
abbrev SPB_STATUS.ERRSEEN : Fld := ⟨0x608004, 1, 1⟩
abbrev SPB_STATUS.OVERRUN : Fld := ⟨0x608004, 0, 0⟩
/-! SPB_ERR (R413) -/
abbrev SPB_ERR.FRAME : Fld := ⟨0x608008, 31, 16⟩
abbrev SPB_ERR.LAST : Fld := ⟨0x608008, 3, 0⟩
/-! TIL_STATUS (R437) -/
abbrev TIL_STATUS.TILE : Fld := ⟨0, 10, 8⟩
abbrev TIL_STATUS.WIGN : Fld := ⟨0, 2, 2⟩
abbrev TIL_STATUS.RESET : Fld := ⟨0, 1, 1⟩
abbrev TIL_STATUS.QUIESCED : Fld := ⟨0, 0, 0⟩
/-! TIL_RQ_CTRL (R81) -/
abbrev TIL_RQ_CTRL.WMARK : Fld := ⟨0x400, 31, 16⟩
abbrev TIL_RQ_CTRL.EN : Fld := ⟨0x400, 0, 0⟩
/-! TIL_RQ_STATUS (R81) -/
abbrev TIL_RQ_STATUS.WM : Fld := ⟨0x404, 1, 1⟩
abbrev TIL_RQ_STATUS.OVF : Fld := ⟨0x404, 0, 0⟩
/-! TIL_RQ_DROP (R81) -/
abbrev TIL_RQ_DROP.COUNT : Fld := ⟨0x408, 31, 0⟩
/-! TIL_RQ_LEVEL (R81) -/
abbrev TIL_RQ_LEVEL.COUNT : Fld := ⟨0x40C, 17, 0⟩
/-! TIL_RQ_HBASE_LO (R81) -/
abbrev TIL_RQ_HBASE_LO.ADDR : Fld := ⟨0x410, 31, 12⟩
/-! TIL_RQ_HBASE_HI (R81) -/
abbrev TIL_RQ_HBASE_HI.ADDR : Fld := ⟨0x414, 15, 0⟩
/-! TIL_RQ_HSIZE (R81) -/
abbrev TIL_RQ_HSIZE.LOG2 : Fld := ⟨0x418, 4, 0⟩
/-! TIL_RQ_HPROD (R81) -/
abbrev TIL_RQ_HPROD.COUNT : Fld := ⟨0x41C, 31, 0⟩
/-! TIL_RQ_HCONS (R81) -/
abbrev TIL_RQ_HCONS.COUNT : Fld := ⟨0x420, 31, 0⟩
/-! TIL_SEQ_BAR_MASK (R136), index stride 4 (count 16) -/
abbrev TIL_SEQ_BAR_MASK.GROUPS : Fld := ⟨0x600, 31, 0⟩
/-! TIL_SEQ_BAR_ARR (R136) -/
abbrev TIL_SEQ_BAR_ARR.GROUPS : Fld := ⟨0x640, 31, 0⟩
/-! TIL_STB_CTRL (R160) -/
abbrev TIL_STB_CTRL.MODE : Fld := ⟨0x700, 1, 1⟩
abbrev TIL_STB_CTRL.EN : Fld := ⟨0x700, 0, 0⟩
/-! TIL_STB_STATUS (R160) -/
abbrev TIL_STB_STATUS.WRAPPED : Fld := ⟨0x704, 2, 2⟩
abbrev TIL_STB_STATUS.FULL : Fld := ⟨0x704, 1, 1⟩
abbrev TIL_STB_STATUS.OVF : Fld := ⟨0x704, 0, 0⟩
/-! TIL_STB_WCNT (R160) -/
abbrev TIL_STB_WCNT.COUNT : Fld := ⟨0x708, 31, 0⟩
/-! TIL_STB_DROP (R160) -/
abbrev TIL_STB_DROP.COUNT : Fld := ⟨0x70C, 31, 0⟩
/-! TIL_CAP_PART (R204) -/
abbrev TIL_CAP_PART.STBSZ : Fld := ⟨0x800, 20, 16⟩
abbrev TIL_CAP_PART.RQSZ : Fld := ⟨0x800, 4, 0⟩
/-! TIL_SEQSTART_LO (R204) -/
abbrev TIL_SEQSTART_LO.START : Fld := ⟨0x810, 31, 0⟩
/-! TIL_SEQSTART_HI (R204) -/
abbrev TIL_SEQSTART_HI.START : Fld := ⟨0x814, 23, 0⟩
/-! TIL_SINESTART_LO (R204) -/
abbrev TIL_SINESTART_LO.START : Fld := ⟨0x818, 31, 0⟩
/-! TIL_SINESTART_HI (R204) -/
abbrev TIL_SINESTART_HI.START : Fld := ⟨0x81C, 23, 0⟩
/-! SEP_BUSY (R161) -/
abbrev SEP_BUSY.JOBS : Fld := ⟨0x1000, 15, 0⟩
/-! SEP_JOB (R161), index stride 4 (count 16) -/
abbrev SEP_JOB.STATE : Fld := ⟨0x1040, 31, 30⟩
abbrev SEP_JOB.KIND : Fld := ⟨0x1040, 29, 29⟩
abbrev SEP_JOB.MODE : Fld := ⟨0x1040, 28, 27⟩
abbrev SEP_JOB.PERU : Fld := ⟨0x1040, 26, 26⟩
abbrev SEP_JOB.RING : Fld := ⟨0x1040, 17, 12⟩
abbrev SEP_JOB.TAG : Fld := ⟨0x1040, 11, 0⟩
/-! APG_STATUS (R180) -/
abbrev APG_STATUS.WIGN : Fld := ⟨0x2000, 8, 8⟩
abbrev APG_STATUS.RUN : Fld := ⟨0x2000, 3, 0⟩
/-! APG_FL_CFG (R180) -/
abbrev APG_FL_CFG.GMAX : Fld := ⟨0x2004, 15, 8⟩
abbrev APG_FL_CFG.BM : Fld := ⟨0x2004, 0, 0⟩
/-! APG_FL_WCNT (R180) -/
abbrev APG_FL_WCNT.COUNT : Fld := ⟨0x2008, 16, 0⟩
/-! APG_FL_STATUS (R180) -/
abbrev APG_FL_STATUS.FULL : Fld := ⟨0x200C, 1, 1⟩
abbrev APG_FL_STATUS.LOSS : Fld := ⟨0x200C, 0, 0⟩
/-! APG_PMAP (R180), index stride 4 (count 128) -/
abbrev APG_PMAP.FIXC : Fld := ⟨0x2400, 15, 12⟩
abbrev APG_PMAP.TERM : Fld := ⟨0x2400, 11, 11⟩
abbrev APG_PMAP.ROLE : Fld := ⟨0x2400, 10, 8⟩
abbrev APG_PMAP.SEL : Fld := ⟨0x2400, 5, 0⟩
/-! APG_FL_FCNT (R180), index stride 0x10 (count 32) -/
abbrev APG_FL_FCNT.COUNT : Fld := ⟨0x2600, 31, 0⟩
/-! APG_FL_LOST (R180), index stride 0x10 (count 32) -/
abbrev APG_FL_LOST.COUNT : Fld := ⟨0x2604, 31, 0⟩
/-! APG_FL_DQ (R180), index stride 0x10 (count 32) -/
abbrev APG_FL_DQ.MASK : Fld := ⟨0x2608, 31, 0⟩
/-! TRG_CTRL (R204) -/
abbrev TRG_CTRL.NSEGM1 : Fld := ⟨0x3000, 21, 16⟩
abbrev TRG_CTRL.HMODE : Fld := ⟨0x3000, 8, 8⟩
abbrev TRG_CTRL.MASTER : Fld := ⟨0x3000, 2, 2⟩
abbrev TRG_CTRL.DOM : Fld := ⟨0x3000, 1, 0⟩
/-! TRG_STATUS (R204) -/
abbrev TRG_STATUS.SEGS : Fld := ⟨0x3004, 14, 8⟩
abbrev TRG_STATUS.PIGN : Fld := ⟨0x3004, 4, 4⟩
abbrev TRG_STATUS.FIRED : Fld := ⟨0x3004, 3, 3⟩
abbrev TRG_STATUS.STATE : Fld := ⟨0x3004, 2, 0⟩
/-! TRG_HOLDOFF (R204) -/
abbrev TRG_HOLDOFF.HOLD : Fld := ⟨0x3008, 23, 0⟩
/-! TRG_CAP_CTRL (R204) -/
abbrev TRG_CAP_CTRL.DECN : Fld := ⟨0x300C, 31, 16⟩
/-! TRG_CAP_POST (R204) -/
abbrev TRG_CAP_POST.POST : Fld := ⟨0x3010, 17, 0⟩
/-! TRG_FIRECNT (R204) -/
abbrev TRG_FIRECNT.COUNT : Fld := ⟨0x3014, 31, 0⟩
/-! TRG_SEGREC (R204) -/
abbrev TRG_SEGREC.COUNT : Fld := ⟨0x3018, 17, 0⟩
/-! TRG_SLOT_CFG (R204), index stride 8 (count 8) -/
abbrev TRG_SLOT_CFG.EN : Fld := ⟨0x3040, 31, 31⟩
abbrev TRG_SLOT_CFG.KIND : Fld := ⟨0x3040, 30, 28⟩
abbrev TRG_SLOT_CFG.LAST : Fld := ⟨0x3040, 23, 16⟩
abbrev TRG_SLOT_CFG.FIRST : Fld := ⟨0x3040, 15, 8⟩
abbrev TRG_SLOT_CFG.LEDGE : Fld := ⟨0x3040, 0, 0⟩
/-! TRG_SLOT_CODE (R204), index stride 8 (count 8) -/
abbrev TRG_SLOT_CODE.MASK : Fld := ⟨0x3044, 15, 8⟩
abbrev TRG_SLOT_CODE.CODE : Fld := ⟨0x3044, 7, 0⟩
/-! TRG_CAP_LANE (R204), index stride 4 (count 8) -/
abbrev TRG_CAP_LANE.EN : Fld := ⟨0x3080, 31, 31⟩
abbrev TRG_CAP_LANE.UNIT : Fld := ⟨0x3080, 23, 16⟩
abbrev TRG_CAP_LANE.ENTRIES : Fld := ⟨0x3080, 15, 0⟩
/-! APG_CTX_CTRL (R180), index stride 0x80 (count 4) -/
abbrev APG_CTX_CTRL.DROP : Fld := ⟨0x2100, 31, 16⟩
abbrev APG_CTX_CTRL.START : Fld := ⟨0x2100, 11, 0⟩
/-! APG_CTX_STATUS (R180), index stride 0x80 (count 4) -/
abbrev APG_CTX_STATUS.PC : Fld := ⟨0x2104, 31, 20⟩
abbrev APG_CTX_STATUS.ERR : Fld := ⟨0x2104, 19, 16⟩
abbrev APG_CTX_STATUS.STATE : Fld := ⟨0x2104, 1, 0⟩
/-! APG_CTX_GRPS (R180), index stride 0x80 (count 4) -/
abbrev APG_CTX_GRPS.GROUPS : Fld := ⟨0x2108, 31, 0⟩
/-! APG_CTX_WIN (R180), index stride 0x80 (count 4) -/
abbrev APG_CTX_WIN.HI : Fld := ⟨0x210C, 27, 16⟩
abbrev APG_CTX_WIN.LO : Fld := ⟨0x210C, 11, 0⟩
/-! APG_CTX_XLIM (R180), index stride 0x80 (count 4) -/
abbrev APG_CTX_XLIM.XMAX : Fld := ⟨0x2110, 31, 16⟩
abbrev APG_CTX_XLIM.XMIN : Fld := ⟨0x2110, 15, 0⟩
/-! APG_CTX_YLIM (R180), index stride 0x80 (count 4) -/
abbrev APG_CTX_YLIM.YMAX : Fld := ⟨0x2114, 31, 16⟩
abbrev APG_CTX_YLIM.YMIN : Fld := ⟨0x2114, 15, 0⟩
/-! APG_CTX_B (R180), index stride 0x80 (count 4) -/
abbrev APG_CTX_B.B : Fld := ⟨0x2118, 7, 4⟩
abbrev APG_CTX_B.BMAX : Fld := ⟨0x2118, 3, 0⟩
/-! APG_CTX_XY (R180), index stride 0x80 (count 4) -/
abbrev APG_CTX_XY.Y : Fld := ⟨0x211C, 31, 16⟩
abbrev APG_CTX_XY.X : Fld := ⟨0x211C, 15, 0⟩
/-! APG_CTX_DR0 (R180), index stride 0x80 (count 4) -/
abbrev APG_CTX_DR0.DR0 : Fld := ⟨0x2120, 31, 0⟩
/-! APG_CTX_DR1 (R180), index stride 0x80 (count 4) -/
abbrev APG_CTX_DR1.DR1 : Fld := ⟨0x2124, 31, 0⟩
/-! APG_CTX_D (R180), index stride 0x80 (count 4) -/
abbrev APG_CTX_D.D : Fld := ⟨0x2128, 31, 0⟩
/-! APG_CTX_SIDX (R180), index stride 0x80 (count 4) -/
abbrev APG_CTX_SIDX.TPOS : Fld := ⟨0x212C, 29, 24⟩
abbrev APG_CTX_SIDX.IPOS : Fld := ⟨0x212C, 21, 16⟩
abbrev APG_CTX_SIDX.YPOS : Fld := ⟨0x212C, 13, 8⟩
abbrev APG_CTX_SIDX.XPOS : Fld := ⟨0x212C, 5, 0⟩
/-! APG_CTX_XPERM0 (R180), index stride 0x80 (count 4) -/
abbrev APG_CTX_XPERM0.SEL : Fld := ⟨0x2130, 31, 0⟩
/-! APG_CTX_XPERM1 (R180), index stride 0x80 (count 4) -/
abbrev APG_CTX_XPERM1.SEL : Fld := ⟨0x2134, 31, 0⟩
/-! APG_CTX_YPERM0 (R180), index stride 0x80 (count 4) -/
abbrev APG_CTX_YPERM0.SEL : Fld := ⟨0x2138, 31, 0⟩
/-! APG_CTX_YPERM1 (R180), index stride 0x80 (count 4) -/
abbrev APG_CTX_YPERM1.SEL : Fld := ⟨0x213C, 31, 0⟩
/-! APG_CTX_CYC_LO (R180), index stride 0x80 (count 4) -/
abbrev APG_CTX_CYC_LO.COUNT : Fld := ⟨0x2160, 31, 0⟩
/-! APG_CTX_CYC_HI (R180), index stride 0x80 (count 4) -/
abbrev APG_CTX_CYC_HI.COUNT : Fld := ⟨0x2164, 15, 0⟩
/-! APG_CTX_I (R180), index stride 0x80 (count 4), index stride 4 (count 8) -/
abbrev APG_CTX_I.VALUE : Fld := ⟨0x2140, 31, 0⟩
/-! CHN_FE_CFG (R57) -/
abbrev CHN_FE_CFG.KMON_EN : Fld := ⟨0, 23, 23⟩
abbrev CHN_FE_CFG.LSENSE : Fld := ⟨0, 22, 22⟩
abbrev CHN_FE_CFG.IRANGE : Fld := ⟨0, 19, 16⟩
abbrev CHN_FE_CFG.VSPAN : Fld := ⟨0, 13, 12⟩
abbrev CHN_FE_CFG.MODE : Fld := ⟨0, 2, 0⟩
/-! CHN_FE_TARGET (R57) -/
abbrev CHN_FE_TARGET.CODE : Fld := ⟨4, 19, 0⟩
/-! CHN_ICLAMP (R57) -/
abbrev CHN_ICLAMP.CODE : Fld := ⟨8, 11, 0⟩
/-! CHN_VCLAMP (R57) -/
abbrev CHN_VCLAMP.HI : Fld := ⟨0xC, 27, 16⟩
abbrev CHN_VCLAMP.LO : Fld := ⟨0xC, 11, 0⟩
/-! CHN_KMON (R57) -/
abbrev CHN_KMON.FILT : Fld := ⟨0x10, 11, 8⟩
abbrev CHN_KMON.THRESH : Fld := ⟨0x10, 7, 0⟩
/-! CHN_FE_STATUS (R57) -/
abbrev CHN_FE_STATUS.SEQ_STEP : Fld := ⟨0x14, 18, 16⟩
abbrev CHN_FE_STATUS.REMAPPED : Fld := ⟨0x14, 12, 12⟩
abbrev CHN_FE_STATUS.ROTATED : Fld := ⟨0x14, 11, 11⟩
abbrev CHN_FE_STATUS.WIGN : Fld := ⟨0x14, 10, 10⟩
abbrev CHN_FE_STATUS.TRIPPED : Fld := ⟨0x14, 9, 9⟩
abbrev CHN_FE_STATUS.SLOW : Fld := ⟨0x14, 8, 8⟩
abbrev CHN_FE_STATUS.LSENSE_FB : Fld := ⟨0x14, 7, 7⟩
abbrev CHN_FE_STATUS.KMON_TRIP : Fld := ⟨0x14, 6, 6⟩
abbrev CHN_FE_STATUS.SCL : Fld := ⟨0x14, 5, 5⟩
abbrev CHN_FE_STATUS.SCL_LIVE : Fld := ⟨0x14, 4, 4⟩
abbrev CHN_FE_STATUS.CLAMPED : Fld := ⟨0x14, 3, 3⟩
abbrev CHN_FE_STATUS.CLAMP : Fld := ⟨0x14, 2, 2⟩
abbrev CHN_FE_STATUS.DRIVING : Fld := ⟨0x14, 1, 1⟩
abbrev CHN_FE_STATUS.EN : Fld := ⟨0x14, 0, 0⟩
/-! CHN_CONTACT_CFG (R57) -/
abbrev CHN_CONTACT_CFG.POL : Fld := ⟨0x18, 24, 24⟩
abbrev CHN_CONTACT_CFG.ITEST : Fld := ⟨0x18, 23, 16⟩
abbrev CHN_CONTACT_CFG.RMAX : Fld := ⟨0x18, 15, 0⟩
/-! CHN_CONTACT_RES (R57) -/
abbrev CHN_CONTACT_RES.RFS : Fld := ⟨0x1C, 31, 16⟩
abbrev CHN_CONTACT_RES.VLOCAL : Fld := ⟨0x1C, 15, 4⟩
abbrev CHN_CONTACT_RES.VALID : Fld := ⟨0x1C, 3, 3⟩
abbrev CHN_CONTACT_RES.OUTCOME : Fld := ⟨0x1C, 2, 0⟩
/-! CHN_SINE_CTRL (R57) -/
abbrev CHN_SINE_CTRL.DIV : Fld := ⟨0x40, 31, 16⟩
abbrev CHN_SINE_CTRL.ERR : Fld := ⟨0x40, 9, 9⟩
abbrev CHN_SINE_CTRL.RUN : Fld := ⟨0x40, 8, 8⟩
abbrev CHN_SINE_CTRL.STOP_ZC : Fld := ⟨0x40, 4, 4⟩
abbrev CHN_SINE_CTRL.START_MODE : Fld := ⟨0x40, 3, 3⟩
abbrev CHN_SINE_CTRL.APPLY : Fld := ⟨0x40, 1, 1⟩
abbrev CHN_SINE_CTRL.EN : Fld := ⟨0x40, 0, 0⟩
/-! CHN_SINE_FTW (R57) -/
abbrev CHN_SINE_FTW.FTW : Fld := ⟨0x44, 31, 0⟩
/-! CHN_SINE_PHASE0 (R57) -/
abbrev CHN_SINE_PHASE0.PHASE0 : Fld := ⟨0x48, 31, 0⟩
/-! CHN_SINE_AMP (R57) -/
abbrev CHN_SINE_AMP.AMP : Fld := ⟨0x4C, 19, 0⟩
/-! CHN_SINE_OFS (R57) -/
abbrev CHN_SINE_OFS.OFS : Fld := ⟨0x50, 19, 0⟩
/-! CHN_SINE_PADJ (R57) -/
abbrev CHN_SINE_PADJ.PADJ : Fld := ⟨0x54, 31, 0⟩
/-! CHN_ADC_CTRL (R80) -/
abbrev CHN_ADC_CTRL.NPASS : Fld := ⟨0x100, 31, 16⟩
abbrev CHN_ADC_CTRL.LAST : Fld := ⟨0x100, 11, 8⟩
abbrev CHN_ADC_CTRL.INJ_EVT : Fld := ⟨0x100, 7, 7⟩
abbrev CHN_ADC_CTRL.STOP : Fld := ⟨0x100, 3, 3⟩
abbrev CHN_ADC_CTRL.START : Fld := ⟨0x100, 2, 2⟩
abbrev CHN_ADC_CTRL.MODE : Fld := ⟨0x100, 1, 0⟩
/-! CHN_ADC_STATUS (R80) -/
abbrev CHN_ADC_STATUS.PASS : Fld := ⟨0x104, 17, 12⟩
abbrev CHN_ADC_STATUS.CUR : Fld := ⟨0x104, 11, 8⟩
abbrev CHN_ADC_STATUS.SHD_EXEC : Fld := ⟨0x104, 7, 7⟩
abbrev CHN_ADC_STATUS.INJ_PEND : Fld := ⟨0x104, 6, 4⟩
abbrev CHN_ADC_STATUS.INJ_FULL : Fld := ⟨0x104, 3, 3⟩
abbrev CHN_ADC_STATUS.LIM : Fld := ⟨0x104, 2, 2⟩
abbrev CHN_ADC_STATUS.RDY : Fld := ⟨0x104, 1, 1⟩
abbrev CHN_ADC_STATUS.BUSY : Fld := ⟨0x104, 0, 0⟩
/-! CHN_ADC_INJ (R80) -/
abbrev CHN_ADC_INJ.TAG : Fld := ⟨0x108, 19, 16⟩
abbrev CHN_ADC_INJ.SAMP : Fld := ⟨0x108, 10, 8⟩
abbrev CHN_ADC_INJ.GAIN : Fld := ⟨0x108, 6, 4⟩
abbrev CHN_ADC_INJ.SRC : Fld := ⟨0x108, 3, 0⟩
/-! CHN_ADC_LIM (R80) -/
abbrev CHN_ADC_LIM.HI : Fld := ⟨0x10C, 31, 16⟩
abbrev CHN_ADC_LIM.LO : Fld := ⟨0x10C, 15, 0⟩
/-! CHN_ADC_CNT (R80) -/
abbrev CHN_ADC_CNT.SKIP : Fld := ⟨0x110, 15, 0⟩
/-! CHN_ADC_LAST_RES (R80) -/
abbrev CHN_ADC_LAST_RES.RES : Fld := ⟨0x114, 31, 0⟩
/-! CHN_ADC_ENTRY (R80), index stride 4 (count 16) -/
abbrev CHN_ADC_ENTRY.EVT : Fld := ⟨0x140, 15, 15⟩
abbrev CHN_ADC_ENTRY.LIMEN : Fld := ⟨0x140, 14, 14⟩
abbrev CHN_ADC_ENTRY.DEST : Fld := ⟨0x140, 13, 12⟩
abbrev CHN_ADC_ENTRY.SAMP : Fld := ⟨0x140, 10, 8⟩
abbrev CHN_ADC_ENTRY.GAIN : Fld := ⟨0x140, 6, 4⟩
abbrev CHN_ADC_ENTRY.SRC : Fld := ⟨0x140, 3, 0⟩
/-! CHN_TDC_CFG (R159) -/
abbrev CHN_TDC_CFG.GATE : Fld := ⟨0x180, 19, 18⟩
abbrev CHN_TDC_CFG.DEST : Fld := ⟨0x180, 17, 16⟩
abbrev CHN_TDC_CFG.RAW : Fld := ⟨0x180, 8, 8⟩
abbrev CHN_TDC_CFG.SRC : Fld := ⟨0x180, 5, 1⟩
abbrev CHN_TDC_CFG.EN : Fld := ⟨0x180, 0, 0⟩
/-! CHN_TIM_STATUS (R159) -/
abbrev CHN_TIM_STATUS.FIFO : Fld := ⟨0x184, 12, 8⟩
abbrev CHN_TIM_STATUS.MERGE : Fld := ⟨0x184, 4, 4⟩
abbrev CHN_TIM_STATUS.LOST : Fld := ⟨0x184, 3, 3⟩
abbrev CHN_TIM_STATUS.UNLK_SEEN : Fld := ⟨0x184, 2, 2⟩
abbrev CHN_TIM_STATUS.VLOCK : Fld := ⟨0x184, 1, 1⟩
abbrev CHN_TIM_STATUS.TLOCK : Fld := ⟨0x184, 0, 0⟩
/-! CHN_TDC_LOST (R159) -/
abbrev CHN_TDC_LOST.COUNT : Fld := ⟨0x188, 31, 0⟩
/-! CHN_TDC_LAST_LO (R159) -/
abbrev CHN_TDC_LAST_LO.STAMP : Fld := ⟨0x18C, 31, 0⟩
/-! CHN_TDC_LAST_HI (R159) -/
abbrev CHN_TDC_LAST_HI.STAMP : Fld := ⟨0x190, 31, 0⟩
/-! CHN_TIM_DSK (R159) -/
abbrev CHN_TIM_DSK.DRV : Fld := ⟨0x194, 29, 20⟩
abbrev CHN_TIM_DSK.STB : Fld := ⟨0x194, 19, 10⟩
abbrev CHN_TIM_DSK.TDC : Fld := ⟨0x194, 9, 0⟩
/-! CHN_TIM_UOFS (R159) -/
abbrev CHN_TIM_UOFS.DRV : Fld := ⟨0x198, 27, 16⟩
abbrev CHN_TIM_UOFS.STB : Fld := ⟨0x198, 11, 0⟩
/-! CHN_CMP_CFG (R97) -/
abbrev CHN_CMP_CFG.EVT_HI : Fld := ⟨0x200, 28, 28⟩
abbrev CHN_CMP_CFG.TRIP_HI : Fld := ⟨0x200, 27, 27⟩
abbrev CHN_CMP_CFG.PCLR_HI : Fld := ⟨0x200, 26, 26⟩
abbrev CHN_CMP_CFG.FCLK_HI : Fld := ⟨0x200, 25, 24⟩
abbrev CHN_CMP_CFG.FLEN_HI : Fld := ⟨0x200, 23, 20⟩
abbrev CHN_CMP_CFG.HYST_HI : Fld := ⟨0x200, 19, 18⟩
abbrev CHN_CMP_CFG.REFSEL_HI : Fld := ⟨0x200, 17, 17⟩
abbrev CHN_CMP_CFG.EN_HI : Fld := ⟨0x200, 16, 16⟩
abbrev CHN_CMP_CFG.EVT_LO : Fld := ⟨0x200, 12, 12⟩
abbrev CHN_CMP_CFG.TRIP_LO : Fld := ⟨0x200, 11, 11⟩
abbrev CHN_CMP_CFG.PCLR_LO : Fld := ⟨0x200, 10, 10⟩
abbrev CHN_CMP_CFG.FCLK_LO : Fld := ⟨0x200, 9, 8⟩
abbrev CHN_CMP_CFG.FLEN_LO : Fld := ⟨0x200, 7, 4⟩
abbrev CHN_CMP_CFG.HYST_LO : Fld := ⟨0x200, 3, 2⟩
abbrev CHN_CMP_CFG.REFSEL_LO : Fld := ⟨0x200, 1, 1⟩
abbrev CHN_CMP_CFG.EN_LO : Fld := ⟨0x200, 0, 0⟩
/-! CHN_CMP_THR (R97) -/
abbrev CHN_CMP_THR.HI : Fld := ⟨0x204, 29, 16⟩
abbrev CHN_CMP_THR.LO : Fld := ⟨0x204, 13, 0⟩
/-! CHN_CMP_STATUS (R97) -/
abbrev CHN_CMP_STATUS.TRIP_HI_HIT : Fld := ⟨0x208, 9, 9⟩
abbrev CHN_CMP_STATUS.TRIP_LO_HIT : Fld := ⟨0x208, 8, 8⟩
abbrev CHN_CMP_STATUS.LATCH_HI : Fld := ⟨0x208, 7, 7⟩
abbrev CHN_CMP_STATUS.LATCH_LO : Fld := ⟨0x208, 6, 6⟩
abbrev CHN_CMP_STATUS.VALID_HI : Fld := ⟨0x208, 5, 5⟩
abbrev CHN_CMP_STATUS.VALID_LO : Fld := ⟨0x208, 4, 4⟩
abbrev CHN_CMP_STATUS.FOUT_HI : Fld := ⟨0x208, 3, 3⟩
abbrev CHN_CMP_STATUS.FOUT_LO : Fld := ⟨0x208, 2, 2⟩
abbrev CHN_CMP_STATUS.RAW_HI : Fld := ⟨0x208, 1, 1⟩
abbrev CHN_CMP_STATUS.RAW_LO : Fld := ⟨0x208, 0, 0⟩
/-! CHN_CMP_FAILCNT (R97) -/
abbrev CHN_CMP_FAILCNT.COUNT : Fld := ⟨0x20C, 31, 0⟩
/-! CHN_SEQ_CTRL (R134) -/
abbrev CHN_SEQ_CTRL.GO : Fld := ⟨0x300, 0, 0⟩
/-! CHN_SEQ_STATUS (R134) -/
abbrev CHN_SEQ_STATUS.PERR : Fld := ⟨0x304, 31, 28⟩
abbrev CHN_SEQ_STATUS.FLAGS : Fld := ⟨0x304, 27, 20⟩
abbrev CHN_SEQ_STATUS.STACK : Fld := ⟨0x304, 19, 16⟩
abbrev CHN_SEQ_STATUS.FAIL : Fld := ⟨0x304, 15, 15⟩
abbrev CHN_SEQ_STATUS.TMO : Fld := ⟨0x304, 14, 14⟩
abbrev CHN_SEQ_STATUS.MEAS_LOST : Fld := ⟨0x304, 13, 13⟩
abbrev CHN_SEQ_STATUS.LVL_IGN : Fld := ⟨0x304, 12, 12⟩
abbrev CHN_SEQ_STATUS.LATE : Fld := ⟨0x304, 11, 11⟩
abbrev CHN_SEQ_STATUS.UR : Fld := ⟨0x304, 10, 10⟩
abbrev CHN_SEQ_STATUS.UR_CAUSE : Fld := ⟨0x304, 9, 9⟩
abbrev CHN_SEQ_STATUS.STATE : Fld := ⟨0x304, 2, 0⟩
/-! CHN_SEQ_PC (R134) -/
abbrev CHN_SEQ_PC.SNUM : Fld := ⟨0x308, 31, 20⟩
abbrev CHN_SEQ_PC.PC : Fld := ⟨0x308, 12, 0⟩
/-! CHN_SEQ_GRP (R134) -/
abbrev CHN_SEQ_GRP.BOUND : Fld := ⟨0x30C, 31, 31⟩
abbrev CHN_SEQ_GRP.LEADER : Fld := ⟨0x30C, 30, 30⟩
abbrev CHN_SEQ_GRP.GROUP : Fld := ⟨0x30C, 20, 16⟩
abbrev CHN_SEQ_GRP.LEADCH : Fld := ⟨0x30C, 6, 0⟩
/-! CHN_SEQ_LOOP (R134), index stride 4 (count 4) -/
abbrev CHN_SEQ_LOOP.COUNT : Fld := ⟨0x310, 31, 0⟩
/-! CHN_SEQ_VCNT_LO (R134) -/
abbrev CHN_SEQ_VCNT_LO.COUNT : Fld := ⟨0x320, 31, 0⟩
/-! CHN_SEQ_VCNT_HI (R134) -/
abbrev CHN_SEQ_VCNT_HI.COUNT : Fld := ⟨0x324, 15, 0⟩
/-! CHN_SEQ_PAD (R134) -/
abbrev CHN_SEQ_PAD.COUNT : Fld := ⟨0x328, 31, 0⟩
/-! CHN_SEQ_EVT (R134) -/
abbrev CHN_SEQ_EVT.OVR : Fld := ⟨0x32C, 9, 9⟩
abbrev CHN_SEQ_EVT.PEND : Fld := ⟨0x32C, 8, 8⟩
abbrev CHN_SEQ_EVT.CODE : Fld := ⟨0x32C, 7, 0⟩
/-! CHN_SEQ_JREQ (R134) -/
abbrev CHN_SEQ_JREQ.PEND : Fld := ⟨0x330, 31, 31⟩
abbrev CHN_SEQ_JREQ.KEEP : Fld := ⟨0x330, 30, 30⟩
abbrev CHN_SEQ_JREQ.TARGET : Fld := ⟨0x330, 12, 0⟩
/-! CHN_SEQ_JBND (R134) -/
abbrev CHN_SEQ_JBND.SNUM : Fld := ⟨0x334, 31, 20⟩
abbrev CHN_SEQ_JBND.TARGET : Fld := ⟨0x334, 12, 0⟩
/-! CHN_STRM_BASE (R134) -/
abbrev CHN_STRM_BASE.BASE : Fld := ⟨0x338, 12, 5⟩
/-! CHN_STRM_SIZE (R134) -/
abbrev CHN_STRM_SIZE.WORDS : Fld := ⟨0x33C, 12, 0⟩
/-! CHN_STRM_FILL (R134) -/
abbrev CHN_STRM_FILL.WORDS : Fld := ⟨0x340, 12, 0⟩
/-! CHN_STRM_REFILL (R134) -/
abbrev CHN_STRM_REFILL.WORDS : Fld := ⟨0x344, 12, 0⟩
/-! CHN_STRM_STALLCNT (R134) -/
abbrev CHN_STRM_STALLCNT.COUNT : Fld := ⟨0x348, 31, 0⟩
/-! CHN_DRV_LVL (R134) -/
abbrev CHN_DRV_LVL.VIH : Fld := ⟨0x34C, 31, 16⟩
abbrev CHN_DRV_LVL.VIL : Fld := ⟨0x34C, 15, 0⟩
/-! CHN_DRV_VTT (R134) -/
abbrev CHN_DRV_VTT.VTT : Fld := ⟨0x350, 15, 0⟩
/-! CHN_TS_PER (R135), index stride 0x20 (count 32) -/
abbrev CHN_TS_PER.COARSE : Fld := ⟨0x400, 27, 8⟩
abbrev CHN_TS_PER.FINE : Fld := ⟨0x400, 7, 0⟩
/-! CHN_TS_D1 (R135), index stride 0x20 (count 32) -/
abbrev CHN_TS_D1.COARSE : Fld := ⟨0x404, 27, 8⟩
abbrev CHN_TS_D1.FINE : Fld := ⟨0x404, 7, 0⟩
/-! CHN_TS_D2 (R135), index stride 0x20 (count 32) -/
abbrev CHN_TS_D2.COARSE : Fld := ⟨0x408, 27, 8⟩
abbrev CHN_TS_D2.FINE : Fld := ⟨0x408, 7, 0⟩
/-! CHN_TS_D3 (R135), index stride 0x20 (count 32) -/
abbrev CHN_TS_D3.COARSE : Fld := ⟨0x40C, 27, 8⟩
abbrev CHN_TS_D3.FINE : Fld := ⟨0x40C, 7, 0⟩
/-! CHN_TS_S1 (R135), index stride 0x20 (count 32) -/
abbrev CHN_TS_S1.COARSE : Fld := ⟨0x410, 27, 8⟩
abbrev CHN_TS_S1.FINE : Fld := ⟨0x410, 7, 0⟩
/-! CHN_TS_S2 (R135), index stride 0x20 (count 32) -/
abbrev CHN_TS_S2.COARSE : Fld := ⟨0x414, 27, 8⟩
abbrev CHN_TS_S2.FINE : Fld := ⟨0x414, 7, 0⟩
/-! CHN_TS_FMT (R135), index stride 0x20 (count 32) -/
abbrev CHN_TS_FMT.STRB : Fld := ⟨0x418, 2, 2⟩
abbrev CHN_TS_FMT.FMT : Fld := ⟨0x418, 1, 0⟩

end Sys2Proof.Machine
end

