-- ==== Sys2Proof/Machine/State.lean ====
section
/-! DEFINITION. The state of the module as plain data: the register file, the memories, the hidden state of every
subsystem, the commands in flight, and the queue of waiting commands of the model; the faults and refusals; reset. -/

namespace Sys2Proof.Machine

/-- Why a step may stop with a fault.  No meaning of this model raises it: every command has its effect (safe). -/
inductive Fault where
  /-- Operands outside the sets that Syntax.lean's docstrings give; raised by no meaning; safe. -/
  | illFormed
  deriving DecidableEq, Repr

/-- Why a step may be refused. -/
inductive Refusal where
  /-- A command whose meaning is not written; raised only by a dispatch arm; safe. -/
  | notModelled (mnemonic : String)
  deriving DecidableEq, Repr

/-! ### Front-ends (chapters 2, 4) -/

/-- Which fixed sequence a front-end runs (R40 to R42). -/
inductive SeqKind where
  | idle | change | enable | disable
  deriving DecidableEq, Repr

/-- The contact check of one channel (R48), voltages in µV: whose check it is, whether the partner is checked too, the
force codes at -I_T and -I_T / 2, the force code in use, the configuration to restore. -/
structure Contact where
  cmd : CmdRef
  partner : Bool
  full : Nat
  half : Nat
  target : Nat
  savedCfg : Word
  vl1 : Int := 0
  vo1 : Int := 0
  vl2 : Int := 0
  vo2 : Int := 0
  vx1 : Int := 0
  vx2 : Int := 0
  deriving DecidableEq, Repr

/-- The hidden state of one front-end: what the analog part really runs on, behind its registers. -/
structure Fe where
  /-- live mode, span and range: those of the registers only after step 3 of R41 -/
  mode : Nat := 0
  span : Nat := 0
  range : Nat := 0
  /-- the present ideal code at the force DAC, moved by ramps (R35, R41) -/
  code : Nat := 0x80000
  kind : SeqKind := .idle
  /-- the clamps in force (R36, R37, R41): those of the registers only after step 3 of R41, or the contact check's (R47) -/
  iclamp : Nat := 0xE8B
  vlo : Nat := 0
  vhi : Nat := 0xFFF
  /-- a hardware high-Z action holds the pattern driver until an enabling command, or the re-arm of R87 -/
  drvTrip : Bool := false
  /-- a Kelvin mismatch is present (R46) -/
  mismatch : Bool := false
  /-- sine generator: accumulator and the values in use (R50, R51) -/
  acc : Nat := 0
  ftw : Nat := 0
  amp : Nat := 0
  ofs : Nat := 0x80000
  /-- staged values take effect at the next update sample (R51) -/
  applyPend : Bool := false
  /-- EN was cleared with STOP_ZC = 1: running on to the half-cycle (R52) -/
  zcStop : Bool := false
  /-- EN is set with START_MODE = 1 and the start time has not come (R52) -/
  waitEpoch : Bool := false
  /-- EN is set with START_MODE = 0 and the first update has not come -/
  waitUpdate : Bool := false
  contact : Option Contact := none
  deriving DecidableEq, Repr

/-- The hidden state of one window comparator (chapter 4). -/
structure Cmp where
  /-- the raw output, unclocked (R82) -/
  raw : Bool := false
  /-- the last 15 filter samples, newest in bit 0, and how many have entered since initialisation (R88, R89) -/
  hist : Nat := 0
  samples : Nat := 0
  /-- this comparator has tripped and the condition of WINDOW_TRIP holds by it (R87) -/
  tripped : Bool := false
  /-- a vector period has begun since the last sample edge, with PCLR = 1 (R90) -/
  pclr : Bool := false
  /-- stamp of the most recent raw transition into the outside condition; whether it fell in dead time or unlocked (R188) -/
  lastOut : Nat := 0
  coarse : Bool := false
  deriving DecidableEq, Repr

/-! ### Commands (chapter 10) -/

/-- How a command ends (R245 to R248). -/
structure Ending where
  status : Nat
  detail : Nat := 0
  partialDone : Bool := false
  result : Nat := 0
  deriving DecidableEq, Repr

/-- A command at a head stage, in flight, or ended and waiting for its completion entry. -/
structure Cmd where
  sq : Nat
  tag : Nat
  op : Nat
  v2 : Bool := false
  cls : Nat := 1
  /-- the descriptor as taken from host memory, 16 or 32 words -/
  words : List Word
  /-- the completion ring its entry is reserved in (R239) -/
  cq : Nat := 0
  /-- place in the module-wide intake order (R250) -/
  intake : Nat := 0
  /-- wait counted against the hold limit, in TCLK, and the uptime at which the running count began (R258) -/
  waited : Nat := 0
  since : Option Nat := none
  /-- places of the commands that it waits for: a fence's (R252), those an ABORT named (R260) -/
  after : List Nat := []
  /-- what holds the head stage: 0 nothing, 1 capacity, 2 power, 3 state; and that reason's DETAIL -/
  held : Nat := 0
  heldDetail : Nat := 0
  /-- the reason and DETAIL of the resource it has waited for since and not yet taken (R253) -/
  claim : Nat × Nat := (0, 0)
  /-- the head stage is in an order wait (R251, R252) -/
  order : Bool := false
  admitted : Bool := false
  /-- its effect has begun -/
  started : Bool := false
  /-- its setup phase is over (R248) although it is still in flight -/
  setupOver : Bool := false
  delayed : Bool := false
  /-- the channels it names, group members included, in ascending order (R243) -/
  chans : List Nat := []
  /-- the front-ends or channels whose sequence, boundary or conversion its completion still awaits -/
  busy : List Nat := []
  /-- progress: points applied, words written, results delivered ... -/
  prog : Nat := 0
  /-- RESULT gathered so far -/
  acc : Nat := 0
  startTb : Nat := 0
  /-- charge taken at admission: (tile, mW) (R256, R380) -/
  charge : List (Nat × Nat) := []
  /-- the longest wait of one of its injected requests for a place, in TCLK (R69) -/
  injWait : Nat := 0
  /-- a stop asked for at the next slice boundary, or at the end of the sequences in other tiles (R259 to R261) -/
  stopAsked : Option Ending := none
  /-- it vanishes without completion when it stops: its tile has been reset (R261) -/
  vanish : Bool := false
  ending : Option Ending := none
  deriving DecidableEq, Repr

/-! ### Faults (chapter 15) -/

/-- One fault instance (R356), with the counts of R365 that outlive it. -/
structure Inst where
  force : Bool := false
  level : Nat := 0
  unack : Bool := false
  sticky : Bool := false
  cond : Bool := false
  /-- the grace timer runs; the quiet count runs -/
  grace : Bool := false
  quiet : Bool := false
  rcnt : Nat := 0
  wcnt : Nat := 0
  window : Bool := false
  /-- DETAIL of the last detection -/
  detail : Nat := 0
  deriving DecidableEq, Repr

/-- A black-box record before its number and CRC (R370). -/
structure BbRec where
  cls : Nat
  scope : Nat
  why : Nat
  level : Nat
  epoch : Bool
  unit : Nat
  tb : Nat
  time : Nat
  detail : Nat
  deriving DecidableEq, Repr

/-! ### Converters (chapter 3) -/

/-- An injected request (R67): source, gain and sample codes, tag, and whom it belongs to: `internal` results go to
the command that made the request, not to the queue. -/
structure Inj where
  src : Nat
  gain : Nat
  samp : Nat
  tag : Nat
  internal : Bool := false
  owner : Option CmdRef := none
  /-- uptime at which it was held for a place (R69) -/
  heldAt : Nat := 0
  /-- the points its sweep had applied when it was made (R35) -/
  point : Nat := 0
  deriving DecidableEq, Repr

/-- The conversion under way, with the settings latched at its start (R58, R61, R62). -/
structure Conv where
  inj : Option Inj := none
  entry : Nat := 0
  src : Nat
  gain : Nat
  samp : Nat
  dest : Nat := 0
  limen : Bool := false
  evt : Bool := false
  pass : Nat := 0
  span : Nat := 0
  range : Nat := 0
  mode : Nat := 0
  gen : Nat := 0
  uclass : Nat := 0
  seqst : Bool := false
  clamp : Bool := false
  /-- the front-end that converts -/
  exec : Nat := 0
  /-- TB at the hold edge (R188, R196) -/
  hold : Nat := 0
  /-- offset and gain of the committed tables for its scale and gain (R61, R224), latched with the generation -/
  corr : Nat := 0
  /-- the last entry of the last pass in SINGLE mode (R74) -/
  last : Bool := false
  /-- the sample phase has ended -/
  converting : Bool := false
  deriving DecidableEq, Repr

/-- A corrected result on its way to its destination, 4 ACLK behind its boundary (R72). -/
structure Result where
  conv : Conv
  value : Nat
  ovr : Bool
  deriving DecidableEq, Repr

/-- The hidden state of one converter. -/
structure Adc where
  running : Bool := false
  pass : Nat := 0
  cur : Nat := 0
  conv : Option Conv := none
  inj : List Inj := []
  /-- injected requests held by the tile sequencer for a place (R69) -/
  heldInj : List Inj := []
  stopPend : Bool := false
  restart : Bool := false
  /-- places reserved for MEAS words with W = 1 (R116) -/
  reserved : Nat := 0
  /-- inside the limit window at the last checked result (R75) -/
  inside : Bool := true
  results : List Result := []
  /-- a rotation has registered (R70): 1 one pending request may still run here, 2 none; 3 the work returns at the next boundary -/
  hold : Nat := 0
  deriving DecidableEq, Repr

/-! ### Channel engines (chapter 5) -/

/-- What a driver puts on its pin: high-Z, a level, the termination voltage (R102, R103). -/
inductive Drv where
  | z | lo | hi | vtt
  deriving DecidableEq, Repr

/-- The values of one timing set (R104) as they stand when a vector is issued, in units of 3.90625 ps; FMT with STRB as bit 2. -/
structure TsVals where
  per : Nat
  d1 : Nat
  d2 : Nat
  d3 : Nat
  s1 : Nat
  s2 : Nat
  fmt : Nat
  deriving DecidableEq, Repr

/-- What one member does in a vector: its channel, its pin code (R102), its timing set; for a Cobalt data pin its bit of F (R172). -/
structure Pin where
  chan : Nat
  code : Nat
  ts : TsVals
  bit : Option Nat := none
  deriving DecidableEq, Repr

/-- A word's effect that waits for the vector boundary that follows it (R115 to R117): a level of every member, a request, an event,
flags; the clearing of the fail flag by MATCH (R112). -/
inductive Act where
  | level (param : Nat) (vals : List (Nat × Nat))
  | meas (kind : Nat) (chans : List Nat) (req : Inj) (kept : Bool)
  | event (code : Nat) (trg irq : Bool)
  | flags (op mask : Nat) (clrFail : Bool)
  | clearFail
  deriving DecidableEq, Repr

/-- The logical address of a Cobalt cycle, and the address of an instruction with MARK = 1 (R177). -/
structure Cycle where
  x : Nat
  y : Nat
  b : Nat
  mark : Option Nat := none
  deriving DecidableEq, Repr

/-- One vector of the queue (R100): its pins, in ascending channel order, and what acts at its start. -/
structure Vec where
  pins : List Pin
  acts : List Act := []
  cyc : Option Cycle := none
  /-- the first vector after a hold starts no earlier, in linear epoch units (R111, R113, R127) -/
  notBefore : Nat := 0
  deriving DecidableEq, Repr

/-- Why an engine holds (R99). -/
inductive HoldKind where
  | branch | iteration | wait (kind : Nat) | barrier (bid : Nat) | measure (left : List Nat) | stall (resume : Nat)
  deriving DecidableEq, Repr

/-- A hold: its idle vector, its time-out (0 none), the periods held, whether its event has come. -/
structure Hold where
  kind : HoldKind
  code : Nat
  ts : Nat
  tmo : Nat := 0
  periods : Nat := 0
  arrived : Bool := false
  deriving DecidableEq, Repr

/-- How a run ends once its last issued vector is out (R101, R130). -/
inductive RunEnd where
  | halt (code : Nat)
  | boundary
  | error (chan perr : Nat)
  | safe (e : Ending)
  deriving DecidableEq, Repr

/-- A jump decided and not yet at its boundary: vectors still to come, the count there, SNUM ended, target, command (R123). -/
structure Jump where
  left : Nat
  count : Nat
  snum : Nat
  target : Nat
  cmd : CmdRef
  /-- what the fetch goes on with if the jump is withdrawn (R260): place, call stack, loop counts, STACK, idle code, its timing set -/
  pc : Nat := 0
  stack : List Nat := []
  loops : List Nat := []
  depth : Nat := 0
  idle : Nat := 5
  its : Nat := 0
  deriving DecidableEq, Repr

/-- A host buffer of one channel: its SEQ_STREAM, the next host address, words to fetch, words not yet issued (R125). -/
structure Strm where
  cmd : CmdRef
  addr : Nat
  left : Nat
  unissued : Nat
  deriving DecidableEq, Repr

/-- The MATCH in progress: address of its word, LEN, TMO, iterations begun, body words issued (R112). -/
structure Match where
  addr : Nat
  len : Nat
  tmo : Nat
  iter : Nat := 1
  word : Nat := 0
  deriving DecidableEq, Repr

/-- The hidden state of one channel engine; what belongs to a run stands at the group's leader. -/
structure Eng where
  /-- what the pattern driver does on the pin: in the last vector, and outside a run the static state (R103) -/
  stat : Drv := .z
  /-- the SEQ_RUN or APG_RUN whose run this is -/
  run : Option CmdRef := none
  /-- a stop already asked for, taken by a trap (R328, R359) -/
  stop : Option Ending := none
  /-- start mode (R129), and whether the trigger unit has fired since -/
  start : Nat := 0
  fired : Bool := false
  /-- the context this group is bound to (R171) -/
  ctx : Option Nat := none
  /-- no vector period has begun yet -/
  fresh : Bool := false
  queue : List Vec := []
  /-- effects of words issued since the last vector -/
  acts : List Act := []
  /-- S1 and S2 of the present period, in linear epoch units, where its code compares through a window strobe (R144) -/
  win : Option (Nat × Nat) := none
  /-- vectors of the word at PC already issued -/
  part : Nat := 0
  /-- timing set and count of the VECS whose data words are being issued (R126) -/
  vecs : Option (Nat × Nat) := none
  stack : List Nat := []
  /-- the segment's idle code and timing set (R122); a segment has begun -/
  idle : Nat := 5
  its : Nat := 0
  inSeg : Bool := false
  hold : Option Hold := none
  /-- the idle vector of the last hold; the time from which the vectors after it may start (R111, R113, R127) -/
  pad : Option (Nat × Nat) := none
  resume : Nat := 0
  loop : Option Match := none
  /-- in a stream: the stored address that SEND returns to (R126) -/
  ret : Option Nat := none
  fin : Option RunEnd := none
  jump : Option Jump := none
  /-- the SEQ_JUMP asked for or registered; the SEQ_STOPs of this run; a stop at a boundary is registered -/
  jreq : Option CmdRef := none
  stops : List CmdRef := []
  bstop : Bool := false
  /-- start of the next vector period, linear epoch units (R148) -/
  next : Nat := 0
  /-- stream buffers of this channel, oldest first; offset of the next unread word in its ring -/
  strm : List Strm := []
  rd : Nat := 0
  deriving DecidableEq, Repr

/-- The hidden state of one Cobalt context (R163, R171, R174). -/
structure Ctx where
  run : Option CmdRef := none
  start : Nat := 0
  fired : Bool := false
  /-- index registers, reference addresses, call stack -/
  idx : List Nat := []
  xr : Nat := 0
  yr : Nat := 0
  stack : List Nat := []
  fin : Option RunEnd := none
  /-- groups named, with a failing cycle, dropped (masks) -/
  named : Nat := 0
  failed : Nat := 0
  dropped : Nat := 0
  /-- groups that reached DROP and leave at the next cycle boundary -/
  drop : Nat := 0
  /-- groups that have left, by leader: group, cycles counted, and the cycles that were in its queue, whose compares still count (R175) -/
  gone : List (Nat × Nat × Nat × List Vec) := []
  deriving DecidableEq, Repr

/-- What waits to enter the fail log (R177): a marker, or a failing cycle with its mask F. -/
inductive FlRec where
  | mark (group addr : Nat)
  | fail (group x y b f : Nat)
  deriving DecidableEq, Repr

/-- A group's context in the fail log (R177, R178): current line (B, Y), pending marker, X of its last FAIL entry, index of its open
BITMAP entry, X range base known, entries in the log. -/
structure FlGroup where
  line : Option (Nat × Nat) := none
  mark : Option Nat := none
  xf : Option Nat := none
  bitmap : Option Nat := none
  entries : Nat := 0
  deriving DecidableEq, Repr

/-- One stamp in a FIFO (R143, R145, R146). -/
structure Stamp where
  stamp : Nat
  gen : Nat
  lostn : Nat
  unlk : Bool
  edge : Nat
  dest : Nat
  deriving DecidableEq, Repr

/-- The timing tables of one unit (R139 to R141): histogram (none: ideal line), taps of the five inverse tables, path delays. -/
structure Timing where
  hist : List Nat := []
  inv : List (List Nat) := []
  drv : Nat := 0
  stb : Nat := 0
  tdc : Nat := 0
  deriving DecidableEq, Repr

/-- The hidden state of one front-end's TDC: its FIFO, edges lost since the last stamp, lock of its lines (bit 0 TDC, 1 to 5
verniers). -/
structure Tdc where
  fifo : List Stamp := []
  lostPend : Nat := 0
  locks : Nat := 0
  /-- time at the ball of the run's last drive transition (R150) -/
  lastDrive : Option Int := none
  /-- last launch of each vernier line (0 to 2 drive edges D1 to D3, 3 and 4 strobe edges S1 and S2): TCLK edge and tap (R141, R148) -/
  launches : List (Nat × Nat × Nat) := []
  /-- the tables that edges of a running channel still use, until the next period boundary after a commit (R132, R149, R157) -/
  held : Option Timing := none
  deriving DecidableEq, Repr

/-- One sample entering Sepia (R151, R152): unit, linear time or value, EDGE or entry number, flags. -/
structure Sample where
  kind : Nat
  unit : Nat
  x : Nat
  sel : Nat
  inj : Bool := false
  /-- UNLK of a stamp; OVR, SEQST or CLAMP of a result -/
  flagged : Bool := false
  gen : Nat
  uclass : Nat := 0
  /-- time of the sample in units -/
  tc : Nat
  deriving DecidableEq, Repr

/-- One accumulator set (R153, R154). -/
structure AccSet where
  unit : Nat
  count : Nat := 0
  x0 : Int := 0
  s1 : Int := 0
  s2 : Nat := 0
  min : Int := 0
  max : Int := 0
  disc : Nat := 0
  clip : Bool := false
  flagged : Bool := false
  genChg : Bool := false
  lost : Bool := false
  genFirst : Nat := 0
  genLast : Nat := 0
  uclass : Nat := 0
  deriving DecidableEq, Repr

/-- One Sepia job (R151): its command, its sets, the last stamp of each unit (DIFF), the reference stamps entered (PAIR),
inside the limits at the last check (R155). -/
structure Job where
  run : CmdRef
  sets : List AccSet
  prevs : List (Nat × Nat) := []
  refs : List Nat := []
  inside : Bool := true
  deriving DecidableEq, Repr

/-- An offer taken by a slot in the present trigger sample (R188, R189). -/
structure Offer where
  slot : Nat
  unit : Nat
  tc : Nat
  coarse : Bool := false
  deriving DecidableEq, Repr

/-- One capture segment: its trigger record (R198) and where its records lie in the segment's ring. -/
structure Seg where
  tp : Nat := 0
  tc : Nat := 0
  cause : Nat := 0
  rcvd : Bool := false
  pslot : Nat := 0
  pkind : Nat := 7
  punit : Nat := 0
  coarse : Bool := false
  pre : Nat := 0
  short : Bool := false
  gen : Nat := 0
  first : Nat := 0
  count : Nat := 0
  lane0 : Option Nat := none
  /-- EPH at the trigger point (R184); where the segment lies and how many records its ring holds (R197) -/
  eph : Nat := 0
  base : Nat := 0
  size : Nat := 0
  deriving DecidableEq, Repr

/-- A lane's min/max interval in progress (R196). -/
structure LaneAcc where
  n : Nat := 0
  ts : Nat := 0
  entry : Nat := 0
  min : Nat := 0
  max : Nat := 0
  ovr : Bool := false
  seqst : Bool := false
  clamp : Bool := false
  shade : Bool := false
  deriving DecidableEq, Repr

/-- The hidden state of one trigger unit. -/
structure Trig where
  offers : List Offer := []
  /-- the trigger sample of the offers; the last one that counts for a hold-off, and how many have counted between the triggering one and TF
  (R189, R193) -/
  sample : Nat := 0
  lastSample : Nat := 0
  later : Nat := 0
  run : Option CmdRef := none
  /-- events still to come of a hold-off counted in events (R193) -/
  hold : Nat := 0
  /-- records entered in the present segment, and records still to come after its trigger point -/
  wr : Nat := 0
  left : Option Nat := none
  /-- the present segment's trigger record, once triggered; the closed segments, oldest first -/
  cur : Option Seg := none
  segs : List Seg := []
  lanes : List (Nat × LaneAcc) := []
  /-- the ACLK of the last records of the present segment, and their lanes, oldest first (R195) -/
  aclk : Nat := 0
  tail : List Nat := []
  /-- as arm master it holds its domain's arm (R191) -/
  arm : Bool := false
  deriving DecidableEq, Repr

/-- One rotation, by shade group (R216, R219): step 0 registered, 1 to 7 H1 to H7. -/
structure Rot where
  active : Bool := false
  chan : Nat := 0
  step : Nat := 0
  direct : Bool := false
  /-- what the calibration of H4 found; the force-path corrections in force before H5 (R219, R220) -/
  row : Option CalRow := none
  old : List Byte := []
  deriving DecidableEq, Repr

/-- The anchor (R209 to R212), running or staged: its command, its step, the parameter words, the shade that checks the standards (R210), MREF in nV as a 64-bit code, the shades
that failed and those that passed, change of MREF in 0.01 ppm, the shades whose corrections fail R218 with the term. -/
structure Anchor where
  run : Option CmdRef := none
  step : Nat := 0
  block : List Word := []
  shade : Nat := 0
  mref : Nat := 0
  failed : Nat := 0
  passed : Nat := 0
  change : Nat := 0
  tol : List (Nat × Nat) := []
  deriving DecidableEq, Repr

/-- The hidden state of one tile. -/
structure Tile where
  /-- index of the oldest entry of the result queue -/
  rqOut : Nat := 0
  /-- the drain stops with EN = 0 once the queue is empty (SAFE, R78) -/
  rqStop : Bool := false
  /-- class code of the instance that quiesced the tile -/
  quiesceCls : Nat := 0
  /-- round-robin position of stamp collection; samples that have entered Sepia and are not yet processed (R147, R152) -/
  stampNext : Nat := 0
  /-- records written to the stamp buffer since its restart, without TIL_STB_WCNT's wrap (R147) -/
  stb : Nat := 0
  /-- local units, then the module's five own TDCs, whose code-density acquisition of the last transfer is still to come (R139) -/
  acq : Nat := 0
  sepia : List Sample := []
  /-- uptime at the start of the tile's last transfer since the restore, and at its end (R213) -/
  xferAt : Option Nat := none
  xferEnd : Option Nat := none
  /-- TX_t is known: not after a restore from the factory tables (R225) -/
  txValid : Bool := false
  /-- transfer step under way, 0 none (R214), and the uptime and tile temperature at its start -/
  xferStep : Nat := 0
  xferStart : Nat := 0
  xferTemp : Nat := 0
  /-- local channels rotated since the pass began (R217) -/
  passDone : Nat := 0
  /-- markers and failing cycles on their way to the fail log, oldest first, each with its context and cycle (R177, R178) -/
  flQueue : List ((Nat × Nat) × FlRec) := []
  /-- F of the last round, numerator and denominator (R379) -/
  derate : Nat × Nat := (1, 1)
  deriving DecidableEq, Repr

/-- The microcode state of one engine (R326 to R331): micro-PC, micro-stack (top first), flags Z N C V and the last condition in bits 0
to 4, scratch S0 to S3, a handler runs, ECLK since the ATOMIC window opened (0: the boundary is open), the frame registers. -/
structure Mic where
  upc : Nat := 0x3F8
  stack : List Nat := []
  flags : Nat := 0
  scr : List Nat := [0, 0, 0, 0]
  handler : Bool := false
  window : Nat := 0
  frame : List Nat := [0, 0, 0, 0, 0, 0, 0, 0]
  deriving DecidableEq, Repr

/-- One resource of a SELFTEST (R231 to R233): its command, test code, unit, whether it is a front-end, a store or a lane named by a
number of the spec, its outcome once known, detail. -/
structure Test where
  cmd : CmdRef
  code : Nat
  unit : Nat
  outcome : Option Nat := none
  detail : Nat := 0
  deriving DecidableEq, Repr

/-- The host's flash operation in progress (R394): what SPA_CMD, SPA_ADDR and SPA_BUF held at its START. -/
structure SpaOp where
  op : Nat
  addr : Nat
  len : Nat
  data : List Byte := []
  deriving DecidableEq, Repr

/-! ### Links (chapters 11, 12) -/

/-- Credit units by class (R305). -/
structure Cred where
  p : Nat := 0
  n : Nat := 0
  c : Nat := 0
  deriving DecidableEq, Repr

/-- A TP in a replay buffer (R304): its number, its source (a port it was forwarded from, 4 the module itself), the packet, how often it
was replayed as the oldest. -/
structure Tx where
  seq : Nat
  from_ : Nat
  tp : Tp
  tries : Nat := 0
  deriving DecidableEq, Repr

/-- What one receive lane has seen (R273, R274): consecutive sets of correct polarity; LANE of error-free TS1 and how many in succession;
RXOK of TS1 and how many; LANE of TS2 and how many; and, for the lane's requests in EQ, REQTAG, the moves and VALID last sent, the ACKTAG last
seen; of the transmit lane with its number, the tag last handled and EQSTAT (R276, R277); the running disparity received (R266). -/
structure Lane where
  run : Nat := 0
  good : Nat × Nat := (0, 0)
  ok : Nat × Nat := (0, 0)
  ts2 : Nat × Nat := (255, 0)
  reqTag : Nat := 0
  req : EqMove := {}
  valid : Bool := false
  seen : Option Nat := none
  ackTag : Option Nat := none
  eqstat : Nat := 0
  rd : Bool := false
  deriving DecidableEq, Repr

/-- A sparing of the receive direction (R283): logical lane, the lanes old and spare, stage: 0 STEER sent, 1 ACK received, 2 on the
spare, 3 one good checking set since. -/
structure SpareRx where
  k : Nat
  old : Nat
  spare : Nat
  stage : Nat := 0
  deriving DecidableEq, Repr

/-- A sparing of the transmit direction (R283): logical lane; both lanes carry it. -/
structure SpareTx where
  k : Nat
  dup : Bool := false
  deriving DecidableEq, Repr

/-- The hidden state of one port. -/
structure Port where
  /-- boot has released the links -/
  released : Bool := false
  /-- the rate the lanes run at, the target of R275 -/
  gen : Nat := 1
  /-- the count of sets to send has been reached; some lane saw 8 sets of correct polarity; a TS2 has been received -/
  sent : Bool := false
  lock : Bool := false
  ts2 : Bool := false
  lanes : List (Nat × Lane) := []
  /-- RXOK as sent and as received 8 times; the width computed, 0 not yet -/
  rxok : Nat := 0
  peer : Nat := 0
  w : Nat := 0
  /-- width and spares of the first CONFIG since DETECT (R278); EQ has run; CONFIG or RECOVERY of a port that is up -/
  w1 : Nat := 0
  sp1 : Nat × Nat := (7, 7)
  eq : Bool := false
  recov : Bool := false
  /-- EQ, by lane masks: DONE sent (receive lanes), DONE received (transmit lanes), checked, failed; the time-out has passed -/
  doneTx : Nat := 0
  doneRx : Nat := 0
  checked : Nat := 0
  failed : Nat := 0
  late : Bool := false
  /-- the TS1 under way announce: 1 DISABLE, 2 LOOPBACK -/
  pend : Nat := 0
  /-- in LOOPBACK as slave; in DISABLED by the partner -/
  slave : Bool := false
  byPeer : Bool := false
  spRx : Option SpareRx := none
  spTx : Option SpareTx := none
  /-- uptime of the last beacon sent, and of the last beacon or wake received (R287) -/
  beaconAt : Nat := 0
  watch : Nat := 0
  /-- UP has fallen and the packet layer has not acted on it (R318) -/
  fell : Bool := false
  /-- next SEQ, replay buffer, RECOVERY entries without progress (R302, R304) -/
  seq : Nat := 0
  replay : List Tx := []
  stuck : Nat := 0
  /-- next expected SEQ, a NAK stands, TPs accepted and not acknowledged, an ACK is due for a duplicate (R302, R303) -/
  exp : Nat := 0
  nak : Bool := false
  acc : Nat := 0
  ackDue : Bool := false
  /-- the partner's INIT has been received; units it advertised, units it has freed, units consumed; units freed here since the INIT and
  since the last CREDIT (R305, R306) -/
  init : Bool := false
  adv : Cred := {}
  upd : Cred := {}
  used : Cred := {}
  freed : Cred := {}
  since : Nat := 0
  /-- TPs to be sent here that came in by other ports, with that port, oldest first; the source served last (R317) -/
  wait : List (Nat × Tp) := []
  served : Nat := 4
  /-- the last link packet sent: TYPE, DW0, DW1 without TYPE (R301) -/
  lp : Option (Nat × Nat × Nat) := none
  deriving DecidableEq, Repr

/-- A descriptor read outstanding (R307): tag, ring, address, words asked for, words received by index. -/
structure Read where
  tag : Nat
  sq : Nat
  addr : Nat
  len : Nat
  got : List (Nat × Word) := []
  deriving DecidableEq, Repr

/-! ### Event delivery (chapter 14) -/

/-- The hidden state of an event source (R345, R349, R351): TB at its entry to PEND, taken again at end of service, its level when last
evaluated while ACTIVE, delivered to a Slate target. -/
structure Src where
  tb : Nat := 0
  again : Bool := false
  prev : Bool := false
  slate : Bool := false
  deriving DecidableEq, Repr

/-- A delivery vector (R347, R351): activations counted; its timer has reached TIME; its threshold has been met, or lack of room left
sources PEND; it has been in WAKE or HELD since its last delivery. -/
structure Vecr where
  cnt : Nat := 0
  ripe : Bool := false
  keep : Bool := false
  held : Bool := false
  deriving DecidableEq, Repr


/-! ### The module -/

/-- The whole state. -/
structure State where
  /-- the register window: (byte address, word), unlisted addresses read their reset words -/
  regs : List (Nat × Word) := []
  /-- the on-chip SRAM (R12) in one space, by the bases of Ops.lean -/
  sram : List Host.Cell := []
  /-- the boot flash (R388 on) -/
  flash : List Host.Cell := []
  /-- host memory as the module has written it -/
  host : List Host.Cell := []
  /-- time since the model's start in TCLK, and the 56-bit time base TB (R142) -/
  uptime : Nat := 0
  tb : Nat := 0
  /-- phase of the dividers: TCLK since their release at the last lock of the root PLL, modulo the 128 of an HCLK (R15) -/
  div : Nat := 0
  /-- the model's own counter of open values used (log entry 3) -/
  free : Nat := 0
  fes : List (Nat × Fe) := []
  cmps : List (Nat × Cmp) := []
  cmds : List Cmd := []
  intakes : Nat := 0
  insts : List (Nat × Inst) := []
  lastCls : List (Nat × Nat) := []
  bbStage : List BbRec := []
  adcs : List (Nat × Adc) := []
  engs : List (Nat × Eng) := []
  ctxs : List (Nat × Ctx) := []
  /-- fail-log contexts by 32 × tile + group -/
  flGroups : List (Nat × FlGroup) := []
  tdcs : List (Nat × Tdc) := []
  jobs : List (Nat × Option Job) := []
  trigs : List (Nat × Trig) := []
  rots : List (Nat × Rot) := []
  tiles : List (Nat × Tile) := []
  anchor : Anchor := {}
  /-- calendar time last set, in s, and the uptime at which it was (R207) -/
  calSet : Nat := 0
  calAt : Nat := 0
  /-- commit time of the restored generation (R207) -/
  calBack : Nat := 0
  svcEntry : Bool := false
  svcExit : Bool := false
  /-- level of the ARM line of each trigger domain as driven from outside, bit 1 domain A, bit 2 domain B (R191) -/
  armLine : Nat := 0
  /-- TRIG lines that the module pulses, by line: uptime at which the pulse ends (R192, R200, R201) -/
  pulses : List (Nat × Nat) := []
  /-- SYNC stamping is armed (R181) -/
  syncArmed : Bool := false
  /-- live values of the read-only register pairs whose HI half is latched, by the address of LO (R432) -/
  pairs : List (Nat × Nat) := []
  /-- timing tables in force and staged, by unit: front-ends as UNIT, 1,056 SYNC, 1,057 to 1,060 TRIG lines (R139, R181) -/
  timing : List (Nat × Timing) := []
  timingNew : List (Nat × Timing) := []
  /-- the charge each channel carries in its tile's CHARGED, in mW (R378) -/
  charges : List (Nat × Nat) := []
  /-- microcode state of each engine; the image that every control store holds, by micro-address (R323); the raised minimum SVN for
  KIND 2 (R338) -/
  mics : List (Nat × Mic) := []
  cs : List (Nat × Nat) := []
  svnRaised : Nat := 0
  /-- units (with the uptime of their force-path calibration) and tiles with staged rows of an anchor or transfer; tiles with a staged transfer (R221, R222) -/
  stagedUnits : List (Nat × Option Nat) := []
  stagedTiles : List Nat := []
  stagedXfer : Nat := 0
  /-- a commit has been accepted, and the commands that asked for it (R222) -/
  commitPend : Bool := false
  commitCmds : List CmdRef := []
  /-- commands that await the archive write in progress; those that await the next one; the committed generation or its rotation updates
  have changed since the last write (R222, R224) -/
  archNow : List CmdRef := []
  archNext : Option (List CmdRef) := none
  calDirty : Bool := false
  /-- uptime of each front-end's last rotation or force-path calibration since the restore -/
  rotAt : List (Nat × Option Nat) := []
  tests : List Test := []
  /-- the module is held in reset, or waits for its boot to start (R384); a rail is outside its reset window: OFF (R18, R419) -/
  inReset : Bool := true
  off : Bool := false
  /-- rails outside their SUPPLY windows with their mV as 16-bit codes (R419) -/
  rails : List (Nat × Nat) := []
  /-- the JTAG instruction register; an unlock accepted, a response failed, since power-on (R408 to R410) -/
  tapIr : Nat := 1
  unlocked : Bool := false
  dwFailed : Bool := false
  spa : Option SpaOp := none
  /-- the mode chosen at discovery (R391) -/
  spaMode : Nat := 0
  /-- the housekeeping round: 0 between rounds, 1 gates open, 2 counted; rounds in the band of each broken sensor; sensors newly broken
  (R374, R375) -/
  round : Nat := 0
  good : List (Nat × Nat) := []
  newBroken : Nat := 0
  /-- the words returned on SPB_MISO in the last frame, and by the last read of a diagnostic word (R398, R442) -/
  spbOut : List Word := []
  diagOut : Word := 0
  ports : List (Nat × Port) := []
  /-- the module's own TPs not yet sent, oldest first, with the port where the route does not decide it (R307, R318) -/
  own : List (Option Nat × Tp) := []
  /-- descriptor reads outstanding, and descriptors read and not yet taken, oldest first -/
  reads : List Read := []
  fetched : List (Nat × List Word) := []
  /-- the arbiter: ring served last in each class; admissions left to classes 1 to 3 in this round (R253) -/
  arbLast : List Nat := [63, 63, 63, 63]
  arbLeft : List Nat := [0, 0, 0]
  /-- event sources, vectors, the vector served last (R345 to R348) -/
  srcs : List (Nat × Src) := []
  vecs : List (Nat × Vecr) := []
  vecLast : Nat := 511
  /-- what the link's reads of LO halves have latched, by the address of HI (R432) -/
  latched : List (Nat × Nat) := []
  /-- the model's queue of commands waiting to be executed, first in, first out -/
  pending : List Instr := []
  deriving DecidableEq, Repr

/-- The state right after a power-on reset (R7, R403): every register reads its reset word, every memory its
contents at power-up, nothing is in flight, nothing pends. -/
def State.reset : State := {}

end Sys2Proof.Machine
end

