-- ==== Sys2Proof/Machine/Tab.lean ====
section
/-! DEFINITION. A table: a list of (key, value) pairs in one canonical form, keys strictly rising, no entry equal to
what an unlisted key reads as (`d`).  Registers, memories and the hidden parts of front-ends, channels, tiles, ports
and rings are all held so: equal tables are equal lists. -/

namespace Sys2Proof.Machine

/-- What key k reads as: its entry, else the default. -/
def tabGet {α : Type} (d : Nat → α) : List (Nat × α) → Nat → α
  | [], k => d k
  | (a, v) :: t, k => if a = k then v else tabGet d t k

/-- The table without an entry for k. -/
def tabErase {α : Type} : List (Nat × α) → Nat → List (Nat × α)
  | [], _ => []
  | (a, v) :: t, k => if a = k then tabErase t k else (a, v) :: tabErase t k

/-- The table with an entry (k, v) in its place. -/
def tabInsert {α : Type} : List (Nat × α) → Nat → α → List (Nat × α)
  | [], k, v => [(k, v)]
  | (a, w) :: t, k, v => if a = k then (k, v) :: t else if k < a then (k, v) :: (a, w) :: t else (a, w) :: tabInsert t k v

/-- Key k set to v: writing the default removes the entry. -/
def tabSet {α : Type} [DecidableEq α] (d : Nat → α) (t : List (Nat × α)) (k : Nat) (v : α) : List (Nat × α) :=
  if v = d k then tabErase t k else tabInsert t k v

/-- The table restricted to the keys that p keeps; every other key reads its default again. -/
def tabKeep {α : Type} (p : Nat → Bool) (t : List (Nat × α)) : List (Nat × α) := t.filter fun e => p e.1

/-- Keys strictly rising and above lo. -/
def tabSorted {α : Type} : List (Nat × α) → Option Nat → Bool
  | [], _ => true
  | (a, _) :: t, lo => (match lo with | none => true | some l => decide (l < a)) && tabSorted t (some a)

/-- The canonical form: keys strictly rising, no entry equal to its default. -/
def tabWf {α : Type} [DecidableEq α] (d : Nat → α) (t : List (Nat × α)) : Bool :=
  tabSorted t none && t.all fun e => decide (e.2 ≠ d e.1)

end Sys2Proof.Machine
end

