-- ==== Sys2Proof/Machine/Ops.lean ====
section
/-! DEFINITION. Named operations over the register file, the memories and the hidden parts: the only ways the meanings
read and write the state. -/

namespace Sys2Proof.Machine

/-- The outcome of a meaning. -/
abbrev Res := Host.Outcome State Fault Refusal

/-! ### Registers -/

/-- The stored word at a byte address of the window. -/
def State.rd (s : State) (a : Nat) : Word := tabGet resetWord s.regs a

/-- Stores a word, whatever the access types: the module's own writes. -/
def State.wr (s : State) (a : Nat) (w : Word) : State := { s with regs := tabSet resetWord s.regs a w }

/-- A named field at block base b. -/
def State.getF (s : State) (b : Nat) (f : Fld) : Nat := f.get (s.rd (b + f.off))

/-- Sets a named field at block base b; other fields of the register keep their values. -/
def State.setF (s : State) (b : Nat) (f : Fld) (v : Nat) : State := s.wr (b + f.off) (f.put (s.rd (b + f.off)) v)

/-- A one-bit field read as a Boolean. -/
def State.isSet (s : State) (b : Nat) (f : Fld) : Bool := s.getF b f != 0

/-- Several fields of one block, in order. -/
def State.setFs (s : State) (b : Nat) (l : List (Fld × Nat)) : State := l.foldl (fun s e => s.setF b e.1 e.2) s

/-- Adds to a saturating counter field. -/
def State.incSat (s : State) (b : Nat) (f : Fld) (n : Nat) : State :=
  s.setF b f (satAdd (f.hi + 1 - f.lo) (s.getF b f) n)

/-- Adds to a free-running counter field, which wraps. -/
def State.incWrap (s : State) (b : Nat) (f : Fld) (n : Nat) : State := s.setF b f (s.getF b f + n)

/-- Returns every register whose address p names to its reset word. -/
def State.resetRegs (s : State) (p : Nat → Bool) : State := { s with regs := tabKeep (fun a => !p a) s.regs }

/-- A word pair: low word at a, high word at a + 4. -/
def State.rd64 (s : State) (a : Nat) : Nat := (s.rd a).toNat + 2 ^ 32 * (s.rd (a + 4)).toNat

/-- Writes a word pair. -/
def State.wr64 (s : State) (a v : Nat) : State := (s.wr a (BitVec.ofNat 32 v)).wr (a + 4) (BitVec.ofNat 32 (v / 2 ^ 32))

/-- The live value of a register pair whose HI half is latched by a read of LO, at address a (R432). -/
def State.pair (s : State) (a : Nat) : Nat := tabGet (fun _ => 0) s.pairs a
def State.setPair (s : State) (a v : Nat) : State := { s with pairs := tabSet (fun _ => 0) s.pairs a v }

/-! ### Memories (R12): one SRAM space of 104 MiB less the control stores, whose one image is State's own -/

def seqBase (c : Nat) : Nat := c * 0xC000
def capBase (t : Nat) : Nat := 0x3000000 + t * 0x200000
def apgBase (t : Nat) : Nat := 0x4000000 + t * 0x80000
def stageBase : Nat := 0x4400000
def calBase : Nat := 0x5400000
def supBase : Nat := 0x5600000
def sramEnd : Nat := 0x5800000

/-- The quarter wave of the sine table (R54), entries 0 to 1,024, 20 bits each, entry 0 in the lowest bits. -/
def sineQuarter : Nat := 0x7FFFF7FFFE7FFFD7FFF97FFF57FFF07FFE97FFE17FFD87FFCD7FFC17FFB47FFA67FF977FF867FF747FF617FF4D7FF377FF207FF087FEEF7FED47FEB97FE9C7FE7E7FE5E7FE3D7FE1B7FDF87FDD47FDAE7FD877FD5F7FD367FD0C7FCE07FCB37FC857FC557FC247FBF27FBBF7FB8B7FB557FB1E7FAE67FAAD7FA727FA377F9FA7F9BB7F97C7F93B7F8F97F8B67F8727F82C7F7E57F79D7F7547F7097F6BE7F6717F6227F5D37F5827F5307F4DD7F4897F4337F3DD7F3857F32B7F2D17F2757F2187F1BA7F15B7F0FA7F0987F0357EFD17EF6B7EF057EE9D7EE337EDC97ED5D7ECF17EC827EC137EBA37EB317EABE7EA4A7E9D47E95E7E8E67E86D7E7F37E7777E6FA7E67C7E5FD7E57D7E4FB7E4797E3F57E36F7E2E97E2617E1D87E14E7E0C37E0367DFA97DF1A7DE897DDF87DD657DCD27DC3D7DBA67DB0F7DA767D9DC7D9417D8A57D8077D7697D6C97D6287D5857D4E27D43D7D3977D2F07D2487D19E7D0F37D0477CF9A7CEEC7CE3C7CD8B7CCD97CC267CB717CABC7CA057C94D7C8947C7D97C71E7C6617C5A37C4E47C4237C3627C29F7C1DB7C1167C04F7BF887BEBF7BDF57BD2A7BC5D7BB907BAC17B9F17B9207B84D7B77A7B6A57B5CF7B4F87B4207B3467B26C7B1907B0B37AFD57AEF57AE157AD337AC507AB6C7AA867A9A07A8B87A7CF7A6E57A5FA7A50E7A4207A3317A2417A1507A05E79F6A79E7679D8079C8979B9179A977999D798A1797A4796A6795A7794A7793A5792A37919F7909A78F9378E8C78D8378C7A78B6F78A63789567884778738786277851578402782EE781D9780C277FAB77E9277D7877C5D77B4177A2377905777E5776C4775A27747F7735A772357710E76FE776EBE76D9476C6876B3C76A0F768E0767B07667F7654D7641A762E6761B07607A75F4275E0975CCF75B9475A577591A757DB7569C7555B75419752D6751927504C74F0674DBE74C7574B2C749E17489574747745F9744A97435974207740B473F6073E0B73CB573B5E73A05738AC73751735F5734997333B731DC7307B72F1A72DB872C5472AEF7298A72823726BB72552723E87227C7211071FA371E3471CC471B54719E27186F716FB7158671410712987112070FA670E2C70CB070B33709B670837706B770536703B370230700AC6FF266FDA06FC186FA906F9066F77B6F5EF6F4626F2D46F1456EFB56EE246EC926EAFE6E96A6E7D46E63E6E4A66E30D6E1746DFD96DE3D6DCA06DB026D9636D7C36D6226D47F6D2DC6D1386CF926CDEC6CC456CA9C6C8F26C7486C59C6C3EF6C2426C0936BEE36BD326BB806B9CD6B8196B6646B4AE6B2F76B13F6AF866ADCC6AC116AA546A8976A6D96A5196A3596A19869FD569E1269C4D69A88698C1696FA69531693686919D68FD268E0568C3868A6968899686C9684F7683256815167F7C67DA767BD0679F967820676466746C67290670B366ED666CF766B186693766756665736638F661AB65FC565DDF65BF765A0F658266563B65450652636507664E8864C9864AA8648B7646C5644D2642DE640E863EF263CFB63B036390A63711635166331A6311D62F1F62D2162B21629206271F6251C623196211561F0F61D0961B02618FA616F1614E6612DC610D060EC360CB560AA6608976068660475602626004F5FE3A5FC255FA0F5F7F85F5E05F3C75F1AD5EF935ED775EB5A5E93D5E71F5E4FF5E2DF5E0BE5DE9C5DC795DA555D8315D60B5D3E45D1BD5CF955CD6B5CB415C9165C6EA5C4BE5C2905C0615BE325BC025B9D05B79E5B56B5B3375B1035AECD5AC975AA5F5A8275A5EE5A3B45A17959F3D59D0159AC3598855964659406591C558F8358D4058AFD588B8586735842D581E657F9E57D5657B0C578C2576775742B571DE56F9156D4256AF3568A35665256400561AD55F5A55D0555AB05585A55603553AC5515354EFA54CA054A45547E95458D5432F540D153E7253C13539B253751534EE5328B5302852DC352B5E528F75269152429521C051F5751CED51A8251816515A95133C510CE50E5F50BF05097F5070E5049C502294FFB64FD414FACC4F8574F5E04F3694F0F04EE784EBFE4E9844E7084E48C4E2104DF924DD144DA954D8164D5954D3144D0924CE0F4CB8C4C9084C6834C3FD4C1774BEF04BC684B9E04B7564B4CC4B2424AFB64AD2A4AA9D4A8104A5814A2F24A06249DD249B41498AF4961C49389490F548E6048BCB489354869E484064816E47ED547C3C479A1477064746B471CE46F3146C93469F546756464B64621645F7545CD345A304578D454E94524544FA044CFA44A53447AC445044425C43FB343D0943A5F437B4435084325C42FAF42D0142A53427A4424F44224441F9341CE141A2F4177C414C94121540F6040CAB409F54073F40487401D03FF173FC5E3F9A53F6EA3F4303F1743EEB83EBFB3E93E3E6803E3C23E1033DE433DB833D8C23D6003D33E3D07C3CDB83CAF53C8303C56B3C2A63BFDF3BD193BA513B78A3B4C13B1F83AF2E3AC643A99A3A6CE3A4023A13639E6939B9B398CD395FF393303906038D8F38ABF387ED3851B3824937F7637CA2379CE376F9374243714F36E7836BA2368CA365F23631A3604135D6835A8E357B4354D9351FD34F2134C45349683468A343AC340CE33DEF33B0F3382F3354F3326E32F8C32CAA329C8326E5324013211E31E3931B543186F31589312A330FBC30CD5309ED307053041C301332FE492FB5F2F8752F58A2F29E2EFB22ECC62E9D92E6EC2E3FE2E1102DE222DB332D8432D5532D2632CF722CC812C98F2C69D2C3AB2C0B82BDC52BAD12B7DD2B4E82B1F32AEFE2AC082A9112A61B2A3242A02C29D3429A3C297432944A2915128E5728B5C28862285672826B27F6F27C73279772767A2737C2707E26D8026A8226783264842618425E8425B8425883255822528024F7F24C7D2497A24677243742407023D6D23A68237642345F2315922E5422B4E22848225412223A21F3321C2B219232161B213122100920D00209F7206ED203E3200D81FDCE1FAC21F7B71F4AB1F19F1EE931EB861E87A1E56C1E25F1DF511DC431D9351D6261D3171D0081CCF91C9E91C6D91C3C91C0B81BDA71BA961B7851B4731B1611AE4F1AB3C1A82A1A5171A20419EF019BDD198C9195B4192A018F8B18C76189611864C183361802017D0A179F4176DD173C7170B016D9816A8116769164511613915E2115B09157F0154D7151BE14EA414B8B14871145571423D13F2313C08138EE135D3132B812F9C12C8112965126491232D1201111CF5119D8116BC1139F1108210D6510A471072A1040C100EE0FDD00FAB20F7940F4760F1570EE380EB190E7FA0E4DB0E1BC0DE9D0DB7D0D85D0D53E0D21E0CEFE0CBDD0C8BD0C59D0C27C0BF5B0BC3B0B91A0B5F90B2D80AFB60AC950A9740A6520A3300A00F09CED099CB096A9093870906508D4208A20086FE083DB080B807D9607A73077500742D0710A06DE706AC4067A10647E0615A05E3705B13057F0054CC051A904E8504B620483E0451A041F603ED203BAF0388B035670324302F1F02BFB028D7025B20228E01F6A01C4601922015FE012D900FB500C910096D006480032400000

/-- S(i) of R54: round(524,287 sin(2 pi i / 4,096)). -/
def sineTable (i : Nat) : Int :=
  let q (k : Nat) : Int := ((sineQuarter >>> (20 * k)) % 2 ^ 20 : Nat)
  let i := i % 4096
  if i ≤ 1024 then q i else if i ≤ 2048 then q (2048 - i) else if i ≤ 3072 then -(q (i - 2048)) else -(q (4096 - i))

/-- What an SRAM byte reads when nothing has written it: zero (R12), and the sine table in its place (R54). [DESIGN CHOICE, log entry 57] -/
def sramReset (a : Nat) : Byte :=
  if 0x4000000 ≤ a ∧ a < 0x4400000 ∧ 0x7C000 ≤ (a - 0x4000000) % 0x80000 then
    let o := (a - 0x4000000) % 0x80000 - 0x7C000
    BitVec.ofNat 8 (unsigned 32 (sineTable (o / 4)) / 256 ^ (o % 4))
  else 0

/-- Erased flash reads all ones. [PRESUMED, log entry 6] -/
def flashReset (_ : Nat) : Byte := 0xFF

/-- Host memory the module has not written reads zero here (log entry 5). -/
def hostReset (_ : Nat) : Byte := 0

/-- The bytes of a memory from address a on. -/
def memRead (d : Nat → Byte) (m : List Host.Cell) (a n : Nat) : List Byte := (List.range n).map fun i => tabGet d m (a + i)

/-- Writes bytes from address a on. -/
def memWrite (d : Nat → Byte) : List Host.Cell → Nat → List Byte → List Host.Cell
  | m, _, [] => m
  | m, a, b :: bs => memWrite d (tabSet d m a b) (a + 1) bs

/-- An n-byte little-endian number of the SRAM. -/
def State.sramN (s : State) (a n : Nat) : Nat := leNat (memRead sramReset s.sram a n)

/-- Writes an n-byte little-endian number to the SRAM. -/
def State.sramSet (s : State) (a n v : Nat) : State := { s with sram := memWrite sramReset s.sram a (leBytes n v) }

/-- Returns every SRAM byte whose address p names to its reset contents. -/
def State.sramClear (s : State) (p : Nat → Bool) : State := { s with sram := tabKeep (fun a => !p a) s.sram }

/-- Bytes as little-endian words, the last one filled with zeros. -/
def byteWords : List Byte → List Word
  | b0 :: b1 :: b2 :: b3 :: t => BitVec.ofNat 32 (leNat [b0, b1, b2, b3]) :: byteWords t
  | [] => []
  | l => [BitVec.ofNat 32 (leNat l)]

/-- The MWR packets of a write of bytes from address a on: pieces cut at multiples of 256 bytes (R307, log entry 20). -/
def mwrs (a : Nat) (bs : List Byte) : List (Option Nat × Tp) :=
  (List.range ((a % 256 + bs.length + 255) / 256)).map fun i =>
    let lo := max a (256 * (a / 256 + i))
    let hi := min (a + bs.length) (256 * (a / 256 + i + 1))
    let d := byteWords ((bs.drop (lo - a)).take (hi - lo))
    (none, { typ := 0x10, dst := 0x3F, src := 0, len := BitVec.ofNat 11 d.length, tag := 0, addr := BitVec.ofNat 48 lo, ttl := 63, data := d })

/-- Writes bytes to host memory: the memory holds them in the order the module writes them (R240, R308), and their MWR packets wait for
their port (log entry 20). [DESIGN CHOICE, log entry 5] -/
def State.hostWrite (s : State) (a : Nat) (bs : List Byte) : State :=
  { s with host := memWrite hostReset s.host a bs, own := s.own ++ mwrs a bs }

/-- Writes n-byte little-endian v to host memory. -/
def State.hostSet (s : State) (a n v : Nat) : State := s.hostWrite a (leBytes n v)

/-! ### Free values -/

/-- The next open value, below 2 ^ w, and the state that has used it. [DESIGN CHOICE, log entry 3] -/
def State.draw (s : State) (w : Nat) : Nat × State := (Config.freeValue s.free % 2 ^ w, { s with free := s.free + 1 })

/-! ### Hidden parts -/

def State.fe (s : State) (u : Nat) : Fe := tabGet (fun _ => {}) s.fes u
def State.modFe (s : State) (u : Nat) (f : Fe → Fe) : State := { s with fes := tabSet (fun _ => {}) s.fes u (f (s.fe u)) }
/-- Comparator k of front-end u: k = 0 low, 1 high. -/
def State.cmp (s : State) (u k : Nat) : Cmp := tabGet (fun _ => {}) s.cmps (2 * u + k)
def State.modCmp (s : State) (u k : Nat) (f : Cmp → Cmp) : State :=
  { s with cmps := tabSet (fun _ => {}) s.cmps (2 * u + k) (f (s.cmp u k)) }
def State.inst (s : State) (key : Nat) : Inst := tabGet (fun _ => {}) s.insts key
def State.setInst (s : State) (key : Nat) (i : Inst) : State := { s with insts := tabSet (fun _ => {}) s.insts key i }

def State.adc (s : State) (u : Nat) : Adc := tabGet (fun _ => {}) s.adcs u
def State.modAdc (s : State) (u : Nat) (f : Adc → Adc) : State := { s with adcs := tabSet (fun _ => {}) s.adcs u (f (s.adc u)) }
def State.eng (s : State) (c : Nat) : Eng := tabGet (fun _ => {}) s.engs c
def State.modEng (s : State) (c : Nat) (f : Eng → Eng) : State := { s with engs := tabSet (fun _ => {}) s.engs c (f (s.eng c)) }
def State.mic (s : State) (c : Nat) : Mic := tabGet (fun _ => {}) s.mics c
def State.modMic (s : State) (c : Nat) (f : Mic → Mic) : State := { s with mics := tabSet (fun _ => {}) s.mics c (f (s.mic c)) }
/-- Context x of tile t. -/
def State.ctx (s : State) (t x : Nat) : Ctx := tabGet (fun _ => {}) s.ctxs (4 * t + x)
def State.modCtx (s : State) (t x : Nat) (f : Ctx → Ctx) : State :=
  { s with ctxs := tabSet (fun _ => {}) s.ctxs (4 * t + x) (f (s.ctx t x)) }
/-- Fail-log context of group g of tile t. -/
def State.flGroup (s : State) (t g : Nat) : FlGroup := tabGet (fun _ => {}) s.flGroups (32 * t + g)
def State.modFlGroup (s : State) (t g : Nat) (f : FlGroup → FlGroup) : State :=
  { s with flGroups := tabSet (fun _ => {}) s.flGroups (32 * t + g) (f (s.flGroup t g)) }
def State.tdc (s : State) (u : Nat) : Tdc := tabGet (fun _ => {}) s.tdcs u
def State.modTdc (s : State) (u : Nat) (f : Tdc → Tdc) : State := { s with tdcs := tabSet (fun _ => {}) s.tdcs u (f (s.tdc u)) }
/-- Timing tables in force for unit u. -/
def State.tim (s : State) (u : Nat) : Timing := tabGet (fun _ => {}) s.timing u
/-- Timing tables that place unit u's edges (R149). -/
def State.edgeTim (s : State) (u : Nat) : Timing := (s.tdc u).held.getD (s.tim u)

/-- CHN_TIM_DSK shows the tables that place unit u's edges; a shade's DRV and STB read 0 (R149, R159). -/
def State.showDsk (s : State) (u : Nat) : State :=
  if u < 1056 then
    let k := s.edgeTim u
    s.setFs (feB u) [(CHN_TIM_DSK.TDC, k.tdc), (CHN_TIM_DSK.DRV, if u < 1024 then k.drv else 0), (CHN_TIM_DSK.STB, if u < 1024 then k.stb else 0)]
  else s

/-- At a period boundary of channel m the tables of the last commit come to place its edges (R132, R149). -/
def State.tablesTake (s : State) (m : Nat) : State :=
  if (s.tdc m).held.isSome then (s.modTdc m fun d => { d with held := none }).showDsk m else s

/-- Sepia job slot n of tile t. -/
def State.job (s : State) (t n : Nat) : Option Job := tabGet (fun _ => none) s.jobs (16 * t + n)
def State.setJob (s : State) (t n : Nat) (j : Option Job) : State := { s with jobs := tabSet (fun _ => none) s.jobs (16 * t + n) j }
def State.trig (s : State) (t : Nat) : Trig := tabGet (fun _ => {}) s.trigs t
def State.modTrig (s : State) (t : Nat) (f : Trig → Trig) : State := { s with trigs := tabSet (fun _ => {}) s.trigs t (f (s.trig t)) }
/-- The rotation of shade group nn. -/
def State.rot (s : State) (nn : Nat) : Rot := tabGet (fun _ => {}) s.rots nn
def State.setRot (s : State) (nn : Nat) (r : Rot) : State := { s with rots := tabSet (fun _ => {}) s.rots nn r }
def State.tile (s : State) (t : Nat) : Tile := tabGet (fun _ => {}) s.tiles t
def State.modTile (s : State) (t : Nat) (f : Tile → Tile) : State := { s with tiles := tabSet (fun _ => {}) s.tiles t (f (s.tile t)) }

/-- Channel c is OWED a rotation; its tile's count of OWED channels follows (R216). -/
def State.owe (s : State) (c : Nat) : State :=
  if s.isSet (4 * c) CAL_FE_STATE.OWED then s
  else (s.setF (4 * c) CAL_FE_STATE.OWED 1).incSat (c / 128 * 0x10) CAL_TILE_ROT.OWED 1

/-- Channel c is no longer OWED. -/
def State.unowe (s : State) (c : Nat) : State :=
  if s.isSet (4 * c) CAL_FE_STATE.OWED then
    let b := c / 128 * 0x10
    (s.setF (4 * c) CAL_FE_STATE.OWED 0).setF b CAL_TILE_ROT.OWED (s.getF b CAL_TILE_ROT.OWED - 1)
  else s

/-! ### The module state (R18 to R20) -/

def stBOOT : Nat := 1
def stREADY : Nat := 2
def stACTIVE : Nat := 3
def stSAFE : Nat := 4
def stSERVICE : Nat := 5

/-- The state code of R18. -/
def State.mode (s : State) : Nat := s.getF 0 GLB_STATUS.STATE

/-- Enters a module state; a change of the code sets IRQ_LATCH.STATE (R342). -/
def State.setMode (s : State) (m : Nat) : State :=
  if s.mode = m then s else (s.setF 0 GLB_STATUS.STATE m).setF 0 IRQ_LATCH.STATE 1

/-- An operation restricted to SERVICE is accepted: not while an exit waits (R23). -/
def State.serviceOpen (s : State) : Bool := decide (s.mode = stSERVICE) && !s.svcExit

/-- The root PLL is locked. -/
def State.clocked (s : State) : Bool := s.isSet 0 GLB_STATUS.ROOT_LOCK

/-- Tile t is quiesced or in tile reset (R11). -/
def State.tileQ (s : State) (t : Nat) : Bool := (s.getF 0 GLB_STATUS.TILE_Q).testBit t

def State.setTileQ (s : State) (t : Nat) (b : Bool) : State :=
  s.setF 0 GLB_STATUS.TILE_Q (setBit (s.getF 0 GLB_STATUS.TILE_Q) t b)

/-- TCLK periods in a second (R15). -/
def tclkHz : Nat := 1280000000

/-- Calendar time in seconds; 0 while it has not been set (R207). -/
def State.calTime (s : State) : Nat := if s.isSet 0 CAL_STATUS.TIME_SET then s.calSet + (s.uptime - s.calAt) / tclkHz else 0

/-- The committed calibration generation. -/
def State.gen (s : State) : Nat := s.getF 0 CAL_GEN.GEN

/-! ### The two buffers (R221, R224, R440): committed at calBase, staging 1 MiB above -/

def calStage : Nat := calBase + 0x100000

/-- Offset of the front-end record of unit u in a buffer, and of tile t's record. [DESIGN CHOICE, log entry 7] -/
def feRec (u : Nat) : Nat := 0x280 + 768 * u
/-- [DESIGN CHOICE, log entry 7] -/
def tileRec (t : Nat) : Nat := 0x80 + 64 * t
def recEnd : Nat := 0xC6304

/-- An n-byte number of the committed buffer. -/
def State.cal (s : State) (o n : Nat) : Nat := s.sramN (calBase + o) n
def State.calPut (s : State) (o n v : Nat) : State := s.sramSet (calBase + o) n v

/-! Places the spec leaves to the layout of R224's groups (log entry 7): in a front-end record STATE, FAILS, last rotation time and
last force-path calibration time at 704, 705, 712 and 720; in a tile record TX temperature, transfer time, TRES_H, TRES_L and shade
states at 0, 8, 16, 24 and 32; in the module record UA, UB, V_CERT, A_CERT and B_CERT at 0, 2, 8, 16 and 24. -/

/-- [DESIGN CHOICE, log entry 7] -/
def recState : Nat := 704
def recFails : Nat := 705
def recRot : Nat := 712
def recForce : Nat := 720

/-! ### Ports -/

/-- The hidden part of port p, and its register base. -/
def State.port (s : State) (p : Nat) : Port := tabGet (fun _ => {}) s.ports p
def State.modPort (s : State) (p : Nat) (f : Port → Port) : State :=
  { s with ports := tabSet (fun _ => {}) s.ports p (f (s.port p)) }
def pB (p : Nat) : Nat := 0x1000 * p
def lB (p l : Nat) : Nat := 0x1000 * p + 0x40 * l

/-- STATE of port p (R271). -/
def State.pst (s : State) (p : Nat) : Nat := s.getF (pB p) LNK_P_STATUS.STATE

def State.epochValid (s : State) : Bool := s.isSet 0 GLB_STATUS.EPOCH_VALID

end Sys2Proof.Machine
end

