-- ==== Sys2Proof/Machine/Operands.lean ====
section
/-! DEFINITION. Operand forms: the descriptor of a command and its parameter block (R242, R243, R248, R249), and the
completion codes (R246, R247). -/

namespace Sys2Proof.Machine

/-! ### Opcodes (R248) -/

def opNOP : Nat := 0x00
def opFENCE : Nat := 0x01
def opCONFIG : Nat := 0x10
def opFORCE : Nat := 0x11
def opMEASURE : Nat := 0x12
def opSWEEP : Nat := 0x13
def opSINE : Nat := 0x14
def opCONTACT : Nat := 0x15
def opRELEASE : Nat := 0x16
def opSEQLOAD : Nat := 0x20
def opSEQRUN : Nat := 0x21
def opSTREAM : Nat := 0x22
def opSEQSTOP : Nat := 0x23
def opBIND : Nat := 0x24
def opJUMP : Nat := 0x25
def opAPGLOAD : Nat := 0x30
def opAPGRUN : Nat := 0x31
def opFAILDUMP : Nat := 0x32
def opTRIGARM : Nat := 0x40
def opCAPDUMP : Nat := 0x41
def opSTATS : Nat := 0x48
def opANCHOR : Nat := 0x50
def opROTATE : Nat := 0x51
def opCOMMIT : Nat := 0x52
def opCALREAD : Nat := 0x53
def opSELFTEST : Nat := 0x60
def opFAULTACK : Nat := 0x70
def opABORT : Nat := 0x78
def opDIAG : Nat := 0x7F

/-- The opcodes that exist (R248). -/
def opcodes : List Nat :=
  [opNOP, opFENCE, opCONFIG, opFORCE, opMEASURE, opSWEEP, opSINE, opCONTACT, opRELEASE, opSEQLOAD, opSEQRUN, opSTREAM,
   opSEQSTOP, opBIND, opJUMP, opAPGLOAD, opAPGRUN, opFAILDUMP, opTRIGARM, opCAPDUMP, opSTATS] ++
  [opANCHOR, opROTATE, opCOMMIT, opCALREAD, opSELFTEST, opFAULTACK, opABORT, opDIAG]

/-- Opcodes allowed on a class 0 ring (column C0 of R248). -/
def class0Ops : List Nat :=
  [opNOP, opFENCE, opRELEASE, opSEQSTOP, opJUMP, opCALREAD, opFAULTACK, opABORT, opDIAG]

/-- Sliced opcodes (R248). -/
def slicedOps : List Nat :=
  [opSWEEP, opCONTACT, opSEQLOAD, opAPGLOAD, opFAILDUMP, opCAPDUMP, opANCHOR, opROTATE, opCOMMIT, opCALREAD,
   opSELFTEST, opDIAG]

/-- Opcodes with a setup phase: they order later commands on the same channels (R248, R251). -/
def setupOps : List Nat :=
  [opCONFIG, opFORCE, opMEASURE, opSWEEP, opSINE, opCONTACT, opRELEASE, opSEQLOAD, opSEQRUN, opSTREAM, opBIND, opAPGRUN]

/-- Opcodes admitted in SAFE and in SERVICE (R18). -/
def safeOps : List Nat := [opNOP, opFENCE, opFAULTACK, opCALREAD, opDIAG]
def serviceOps : List Nat :=
  [opNOP, opFENCE, opANCHOR, opROTATE, opCOMMIT, opCALREAD, opSELFTEST, opFAULTACK, opABORT, opDIAG]

/-! ### Status codes (R246) -/

def scOK : Nat := 0x00
def scCAPACITY : Nat := 0x01
def scPOWER : Nat := 0x02
def scSTATE : Nat := 0x03
def scABORTHOST : Nat := 0x04
def scABORTFAULT : Nat := 0x05
def scABORTUNDERRUN : Nat := 0x06
def scINVALID : Nat := 0x07
def scUNSUPPORTED : Nat := 0x08

/-- The rank of a status in a multi-tile command (R246): 1 is the highest. -/
def statusRank (st : Nat) : Nat := [9, 4, 3, 5, 6, 1, 2, 7, 8].getD st 9

/-! ### Descriptor fields (R242) -/

/-- Byte offset of the parameter block. -/
def Cmd.pBase (c : Cmd) : Nat := if c.v2 then 0x20 else 0x10

/-- The 32-bit word at byte offset o of the descriptor. -/
def Cmd.hword (c : Cmd) (o : Nat) : Nat := ((c.words.getD (o / 4) 0).toNat)

/-- The 32-bit word at byte offset o of the parameter block (R249). -/
def Cmd.p (c : Cmd) (o : Nat) : Nat := c.hword (c.pBase + o)

/-- The 64-bit number at byte offset o of the parameter block. -/
def Cmd.p64 (c : Cmd) (o : Nat) : Nat := c.p o + 2 ^ 32 * c.p (o + 4)

/-- A bit field of the parameter word at offset o. -/
def Cmd.pf (c : Cmd) (o hi lo : Nat) : Nat := bits (c.p o) hi lo

def Cmd.fence (c : Cmd) : Bool := bitB (c.hword 0) 8
def Cmd.rlen (c : Cmd) : Nat := c.hword 4
def Cmd.raddr (c : Cmd) : Nat := c.hword 8 + 2 ^ 32 * c.hword 0xC
def Cmd.holdField (c : Cmd) : Nat := if c.v2 then bits (c.hword 0x10) 13 0 else 0
def Cmd.notBefore (c : Cmd) : Nat := if c.v2 then c.hword 0x18 + 2 ^ 32 * c.hword 0x1C else 0

/-- The 48-byte parameter block as bytes (R242, DIAG ECHO). -/
def Cmd.block (c : Cmd) : List Byte := (List.range 12).flatMap fun i => leBytes 4 (c.p (4 * i))

/-- TMASK and LMASK of the channel selector at offset o of the block (R243). -/
def Cmd.tmask (c : Cmd) (o : Nat) : Nat := bits (c.p o) 7 0
def Cmd.lmask (c : Cmd) (o : Nat) : Nat :=
  c.p (o + 4) + 2 ^ 32 * c.p (o + 8) + 2 ^ 64 * c.p (o + 12) + 2 ^ 96 * c.p (o + 16)

/-- The channels of tiles tm with local numbers lm, in ascending global order. -/
def selChans (tm lm : Nat) : List Nat := (bitsSet 8 tm).flatMap fun t => (bitsSet 128 lm).map fun l => t * 128 + l

/-- The members of group g of tile t (CHN_SEQ_GRP, R118). -/
def State.members (s : State) (t g : Nat) : List Nat :=
  (List.range 128).map (t * 128 + ·) |>.filter fun c => s.isSet (chB c) CHN_SEQ_GRP.BOUND && s.getF (chB c) CHN_SEQ_GRP.GROUP = g

/-- The channels that naming channel c names: all members if it leads a group (R243). -/
def State.group (s : State) (c : Nat) : List Nat :=
  if s.isSet (chB c) CHN_SEQ_GRP.BOUND && s.isSet (chB c) CHN_SEQ_GRP.LEADER
  then s.members (c / 128) (s.getF (chB c) CHN_SEQ_GRP.GROUP) else [c]

/-- The leader of the group that channel c is a member of; c itself when ungrouped. -/
def State.leaderOf (s : State) (c : Nat) : Nat :=
  if s.isSet (chB c) CHN_SEQ_GRP.BOUND then c / 128 * 128 + s.getF (chB c) CHN_SEQ_GRP.LEADCH else c

/-- The channels a command names, group members included (R243, R248). -/
def State.named (s : State) (c : Cmd) : List Nat :=
  let withGroups (l : List Nat) : List Nat := (List.range 1024).filter fun k => l.any fun x => decide (k ∈ s.group x)
  if c.op ∈ [opCONFIG, opFORCE, opMEASURE, opSWEEP, opSINE, opCONTACT, opRELEASE, opSEQLOAD] then
    let l := selChans (c.tmask 0) (c.lmask 0)
    if l.any (fun x => s.isSet (chB x) CHN_SEQ_GRP.LEADER) then withGroups l else l
  else if c.op ∈ [opSEQRUN, opSTREAM, opSEQSTOP, opJUMP] then s.group (c.pf 0 9 0)
  else if c.op = opBIND then (bitsSet 128 (c.lmask 0)).map (c.pf 0 2 0 * 128 + ·)
  else if c.op = opAPGRUN then (bitsSet 32 (c.p 4)).flatMap fun g => s.members (c.pf 0 2 0) g
  else if c.op = opROTATE ∧ c.pf 0 2 0 ∈ [3, 4] then selChans (c.tmask 4) (c.lmask 4)
  else if (c.op = opROTATE ∧ c.pf 0 2 0 = 1) ∨ c.op = opSELFTEST then
    let l := selChans (c.tmask 4) (c.lmask 4)
    if l.any (fun x => s.isSet (chB x) CHN_SEQ_GRP.LEADER) then withGroups l else l
  else []

/-- The tiles a command has work in. -/
def State.tilesOf (_s : State) (c : Cmd) : List Nat :=
  if c.op ∈ [opBIND, opAPGLOAD, opAPGRUN, opFAILDUMP, opTRIGARM, opCAPDUMP] then [c.pf 0 2 0]
  else if c.op = opSTATS then [c.pf 0 3 1]
  else if c.op = opROTATE ∧ c.pf 0 2 0 = 0 then bitsSet 8 (c.pf 0 15 8)
  else if c.op = opROTATE ∧ c.pf 0 2 0 = 2 then [c.pf 0 20 16 / 4]
  else if c.op = opSELFTEST then bitsSet 8 (c.tmask 4)
  else if c.op = opANCHOR then List.range 8
  else (List.range 8).filter fun t => c.chans.any fun k => k / 128 = t

end Sys2Proof.Machine
end

