-- ==== Sys2Proof/Machine/CmdOps.lean ====
section
/-! DEFINITION. Operations over the commands at head stages and in flight: finding one, ending one, what it still
awaits, its completion entry (R238 to R240, R245), aborts by fault (R21, R261). -/

namespace Sys2Proof.Machine

/-- The command of ring sq with tag tag that has not had its completion entry written. -/
def State.cmd? (s : State) (r : CmdRef) : Option Cmd :=
  s.cmds.find? fun c => decide (c.sq = r.sq ∧ c.tag = r.tag ∧ (c.ending = none))

/-- The admitted, not yet started command r of opcode op: what an effect row acts on. -/
def State.ready? (s : State) (r : CmdRef) (op : Nat) : Option Cmd :=
  match s.cmd? r with
  | some c => if c.admitted ∧ ¬ c.started ∧ c.op = op then some c else none
  | none => none

/-- The started, not yet ended command r of opcode op. -/
def State.running? (s : State) (r : CmdRef) (op : Nat) : Option Cmd :=
  match s.cmd? r with
  | some c => if c.started ∧ c.op = op then some c else none
  | none => none

/-- Applies f to the commands p selects that have not ended. -/
def State.mapCmds (s : State) (p : Cmd → Bool) (f : Cmd → Cmd) : State :=
  { s with cmds := s.cmds.map fun c => if c.ending = none ∧ p c then f c else c }

/-- As mapCmds, but a command that f ends and whose tile has been reset vanishes without completion (R261). -/
def State.stopCmds (s : State) (p : Cmd → Bool) (f : Cmd → Cmd) : State :=
  { s with cmds := s.cmds.filterMap fun c =>
      if c.ending = none ∧ p c then (let c' := f c; if c'.vanish && c'.ending.isSome then none else some c') else some c }

def Cmd.isRef (r : CmdRef) (c : Cmd) : Bool := decide (c.sq = r.sq ∧ c.tag = r.tag)

def State.modCmd (s : State) (r : CmdRef) (f : Cmd → Cmd) : State := s.mapCmds (Cmd.isRef r) f

/-- A command ends with an outcome: its completion entry is due (R245). -/
def Cmd.finish (e : Ending) (c : Cmd) : Cmd := { c with ending := some e, busy := [], held := 0, order := false }

/-- A command in flight is stopped with an outcome: its RESULT is what it has gathered (R248). -/
def Cmd.stopBy (e : Ending) (c : Cmd) : Cmd := c.finish { e with result := c.acc }

/-- A command ends with OK and the RESULT it has gathered. -/
def Cmd.finishOk (c : Cmd) : Cmd := c.finish { status := scOK, result := c.acc }

def State.endCmd (s : State) (r : CmdRef) (e : Ending) : State := s.modCmd r (Cmd.finish e)
/-- The stop asked of command r takes effect: it ends with e, or vanishes (R261). -/
def State.stopCmd (s : State) (r : CmdRef) (e : Ending) : State := s.stopCmds (Cmd.isRef r) (Cmd.finish e)
def State.endOk (s : State) (r : CmdRef) : State := s.modCmd r Cmd.finishOk

/-- Starts a command, which will wait for the units in busy; with none to wait for it ends with OK. -/
def State.startCmd (s : State) (r : CmdRef) (busy : List Nat) (acc : Nat) : State :=
  s.modCmd r fun c =>
    let c := { c with started := true, busy := busy, acc := acc }
    if busy = [] then c.finishOk else c

/-- A unit that command c awaited is done: awaiting no more, it ends with OK, or with the stop asked for at its slice boundary. -/
def Cmd.unawait (u : Nat) (c : Cmd) : Cmd :=
  let c := { c with busy := c.busy.erase u }
  if c.busy = [] then (match c.stopAsked with | some e => c.stopBy e | none => c.finishOk) else c

/-- What the started commands that p selects awaited from unit u has happened. -/
def State.unbusyBy (s : State) (p : Cmd → Bool) (u : Nat) : State :=
  s.stopCmds (fun c => c.started && p c && decide (u ∈ c.busy)) (Cmd.unawait u)

/-- What the started commands of the opcodes in ops awaited from unit u has happened: one that awaits no more ends with OK,
or with the stop asked for at its slice boundary. -/
def State.unbusy (s : State) (ops : List Nat) (u : Nat) : State := s.unbusyBy (fun c => decide (c.op ∈ ops)) u

/-- The started commands of the opcodes in ops that await unit u end by a fault of class cls (R44, R247). -/
def State.abortBusy (s : State) (ops : List Nat) (u cls : Nat) : State :=
  s.mapCmds (fun c => c.started && decide (c.op ∈ ops) && decide (u ∈ c.busy)) (Cmd.stopBy { status := scABORTFAULT, detail := cls })

/-- A command for channel or shade u is in flight (R31, R65). -/
def State.inFlightFor (s : State) (u : Nat) : Bool :=
  s.cmds.any fun c => decide (c.ending = none) && c.admitted && decide (u ∈ c.chans)

/-- A command is in flight or at a head stage at all (R22). -/
def State.anyInFlight (s : State) : Bool := s.cmds ≠ []

/-! ### Ring geometry (R237 to R239) -/

def sqA (n : Nat) : Nat := n * 0x20
def cqA (m : Nat) : Nat := m * 0x20
def State.sqSize (s : State) (n : Nat) : Nat := 2 ^ s.getF (sqA n) RING_SQ_CFG.LOG2
def State.cqSize (s : State) (m : Nat) : Nat := 2 ^ s.getF (cqA m) RING_CQ_CFG.LOG2
def State.sqBase (s : State) (n : Nat) : Nat :=
  s.getF (sqA n) RING_SQ_BASE_LO.ADDR * 4096 + s.getF (sqA n) RING_SQ_BASE_HI.ADDR * 2 ^ 32
def State.cqBase (s : State) (m : Nat) : Nat :=
  s.getF (cqA m) RING_CQ_BASE_LO.ADDR * 4096 + s.getF (cqA m) RING_CQ_BASE_HI.ADDR * 2 ^ 32
def State.sqEntry (s : State) (n : Nat) : Nat := if s.getF (sqA n) RING_SQ_CFG.FMT = 0 then 64 else 128
def State.cqEntry (s : State) (m : Nat) : Nat := if s.getF (cqA m) RING_CQ_CFG.FMT = 0 then 16 else 32

/-- a - b on free-running 32-bit counts. -/
def sub32 (a b : Nat) : Nat := (a + 2 ^ 32 - b % 2 ^ 32) % 2 ^ 32

/-- Entries of CQ m reserved and not yet written: one for each command taken whose ring names it (R239). -/
def State.cqRsvd (s : State) (m : Nat) : Nat := (s.cmds.filter fun c => c.cq = m).length

/-- CQ m has an entry free that no command has reserved (R239). -/
def State.cqFree (s : State) (m : Nat) : Bool :=
  decide (s.cqRsvd m + sub32 (s.getF (cqA m) RING_CQ_TAIL.TAIL) (s.getF (cqA m) RING_CQ_DB.HEAD) < s.cqSize m)

/-- Commands of SQ n at the head stage or in flight. -/
def State.sqInflight (s : State) (n : Nat) : Nat := (s.cmds.filter fun c => c.sq = n).length

/-- The command at SQ n's head stage: taken, not admitted, not ended (R250). -/
def State.head? (s : State) (n : Nat) : Option Cmd :=
  s.cmds.find? fun c => decide (c.sq = n) && !c.admitted && decide (c.ending = none)

/-! ### Completion entries (R239, R245) -/

/-- Epoch TB[47:8], or TB's where no epoch is valid: the TB register holds epoch time once SYNC_APPLY has added the skew
(R182, R184). -/
def State.tbStamp (s : State) : Nat := bits s.tb 47 8

/-- DELAY in whole µs: 1,280 TCLK each; a DELAYED command reports at least 1 (R258). [DEDUCED, log entry 33] -/
def Cmd.delayUs (c : Cmd) : Nat :=
  let d := (c.waited + c.injWait) / 1280
  min 16383 (if c.delayed ∧ c.waited > 0 ∧ d = 0 then 1 else d)

/-- The completion entry of an ended command as bytes; k is the entry's count in its CQ (R239, R245). [DESIGN CHOICE, log entry 60] -/
def State.entry (s : State) (c : Cmd) (e : Ending) (k m start energy : Nat) : List Byte :=
  let phase := b2n (decide (k / s.cqSize m % 2 = 0))
  let ok := e.status = scOK
  let w0 := c.tag % 4096 + (c.sq <<< 12) + (c.delayUs <<< 18)
  let w1 := e.status + (b2n (decide ok && c.delayed) <<< 8) + (b2n (decide ok && e.partialDone) <<< 9) + (phase <<< 15) +
    ((e.detail % 256) <<< 16) + ((c.op % 256) <<< 24)
  let v1 := leBytes 4 w0 ++ leBytes 4 w1 ++ leBytes 8 e.result
  if s.cqEntry m = 16 then v1
  else v1 ++ leBytes 5 start ++ leBytes 5 s.tbStamp ++ leBytes 2 s.gen ++ leBytes 4 (min energy (2 ^ 32 - 1))

/-- How many of n output bytes a command writes: none without a RADDR, at most RLEN (R242). [DEDUCED, log entry 36] -/
def Cmd.outLen (c : Cmd) (n : Nat) : Nat := if c.raddr = 0 then 0 else min n c.rlen

/-- Writes output of a command at its RADDR, at most RLEN bytes; reports whether RLEN cut it (R242). [DEDUCED, log entry 36] -/
def State.output (s : State) (c : Cmd) (bs : List Byte) : State × Bool :=
  if c.raddr = 0 then (s, false) else (s.hostWrite c.raddr (bs.take c.rlen), decide (c.rlen < bs.length))

end Sys2Proof.Machine
end

