-- ==== Sys2Proof/Machine/FaultOps.lean ====
section
/-! DEFINITION. Fault instances: detection, level actions, acknowledgement, leaving, the black-box queue (R356 to R370),
and the high-Z actions they share with trips and resets (R24, R39, R87, R359, R360). -/

namespace Sys2Proof.Machine

/-! ### Keys and units -/

def scMODULE : Nat := 0
def scTILE : Nat := 1
def scCHANNEL : Nat := 2
def scPORT : Nat := 3
def scSHADE : Nat := 4

/-- The key of instance (class, scope, unit) (R356). -/
def instKey (cls scope unit : Nat) : Nat := (cls * 8 + scope) * 2048 + unit
def keyCls (k : Nat) : Nat := k / 16384
def keyScope (k : Nat) : Nat := k / 2048 % 8
def keyUnit (k : Nat) : Nat := k % 2048

/-- The tile an instance's unit belongs to, if one. -/
def keyTile (k : Nat) : Option Nat :=
  if keyScope k = scTILE then some (keyUnit k)
  else if keyScope k = scCHANNEL then some (keyUnit k / 128)
  else if keyScope k = scSHADE then some (keyUnit k / 4) else none

/-- The shade number of channel c's group (R4). -/
def shadeOf (c : Nat) : Nat := c / 128 * 4 + c % 128 / 32

/-- The channel that shade nn stands in for, by rotation (hidden rotation state) or remapping (R55, R229). -/
def State.servedBy (s : State) (nn : Nat) : Option Nat :=
  if s.isSet (4 * nn) CAL_REMAP.VALID then some (nn / 4 * 128 + s.getF (4 * nn) CAL_REMAP.LOCAL)
  else
    let r := s.rot nn
    if r.active ∧ 1 ≤ r.step ∧ ¬ r.direct then some r.chan else none

/-- The front-end whose registers and analog part serve channel c (R44). -/
def State.phys (s : State) (c : Nat) : Nat := if s.isSet (feB c) CHN_FE_STATUS.REMAPPED then 1024 + shadeOf c else c

/-- The scope and unit at which front-end u's faults are raised (R356). -/
def State.faultUnit (s : State) (u : Nat) : Nat × Nat :=
  if u < 1024 then (scCHANNEL, u)
  else match s.servedBy (u - 1024) with | some c => (scCHANNEL, c) | none => (scSHADE, u - 1024)

/-- Classes whose condition exists only at the instant of detection (R357); CONTACT_OPEN is momentary by CH_CONTACT
alone, and its callers say so. -/
def momentary (cls : Nat) : Bool := decide (cls ∈ [0x04, 0x05, 0x09, 0x0A, 0x0D, 0x0E, 0x0F, 0x13])

/-- Classes at which a run on the channel ends when the instance is Amber (column Run of R357). -/
def runEnds (cls : Nat) : Bool := decide (cls ∈ [0x01, 0x03, 0x04, 0x06, 0x08, 0x09])

/-! ### Conditions -/

/-- The condition of an instance in force ends: the quiet count starts (R364). -/
def State.condEnd (s : State) (cls scope unit : Nat) : State :=
  let k := instKey cls scope unit
  let i := s.inst k
  if i.force ∧ i.cond then s.setInst k { i with cond := false, quiet := !i.sticky } else s

/-- The conditions of OVERCURRENT and of the Kelvin mismatch of front-end u end, as its output is opened. -/
def State.outputOpened (s : State) (u : Nat) : State :=
  let (sc, n) := s.faultUnit u
  (s.condEnd 0x01 sc n).condEnd 0x03 sc n

/-! ### High-Z actions on one front-end (R24 ranks 1 and 2, R39) -/

/-- Front-end u's sine stops: EN clears and the generator holds (R53). -/
def State.sineKill (s : State) (u : Nat) : State :=
  ((s.setF (feB u) CHN_SINE_CTRL.EN 0).setF (feB u) CHN_SINE_CTRL.RUN 0).modFe u fun f =>
    { f with applyPend := false, zcStop := false, waitEpoch := false, waitUpdate := false }

/-- Whether front-end u drives its pin: output switch closed, or pattern driver connected and armed. -/
def State.drives (s : State) (u : Nat) : Bool :=
  s.isSet (feB u) CHN_FE_STATUS.EN || (decide ((s.fe u).mode = 4) && !(s.fe u).drvTrip)

/-- Opens front-end u by hardware: switch open, amplifier disabled, driver held high-Z until an enabling command or re-armed (R39, R87),
sequence abandoned, sine stopped, local-sense fallback cleared.  The setting in force stays the one the sequence had reached until the next
configuration. [DESIGN CHOICE, log entry 61] -/
def State.openFe (s : State) (u : Nat) : State :=
  let s := s.setFs (feB u) [(CHN_FE_STATUS.EN, 0), (CHN_FE_STATUS.DRIVING, 0), (CHN_FE_STATUS.SEQ_STEP, 0),
    (CHN_FE_STATUS.CLAMP, 0), (CHN_FE_STATUS.SCL_LIVE, 0), (CHN_FE_STATUS.LSENSE_FB, 0)]
  let s := s.modFe u fun f => { f with kind := .idle, drvTrip := true, mismatch := false }
  let s := if u < 1024 then s.modEng u fun e => { e with stat := .z } else s
  (s.sineKill u).outputOpened u

/-- The commands whose sequence on a front-end an opening abandons (R44). -/
def seqOps : List Nat := [opCONFIG, opFORCE, opSINE, opCONTACT, opRELEASE]

/-- A CAL_ROTATE of the given action names unit u. -/
def isRotate (action : Nat) (c : Cmd) : Bool := decide (c.op = opROTATE ∧ c.pf 0 2 0 = action)

/-- A CAL_ROTATE CHANNELS that awaits channel c counts it as rotated or as left OWED (R248). -/
def State.rotCount (s : State) (c : Nat) (ok : Bool) : State :=
  let s := s.mapCmds (fun k => k.started && isRotate 1 k && decide (c ∈ k.busy)) fun k => { k with acc := k.acc + (if ok then 1 else 2 ^ 32) }
  s.unbusyBy (isRotate 1) c

/-- The serving shade nn's switch is open: what its clamp, limit and monitor showed is over, and so are the conditions of the served channel that
its own front-end does not hold (R38, R46, R55). -/
def State.shadeOpened (s : State) (nn : Nat) : State :=
  let c := (s.rot nn).chan
  let u := 1024 + nn
  let s := if s.isSet (shB nn) CHN_FE_STATUS.SCL_LIVE && !s.isSet (feB c) CHN_FE_STATUS.SCL_LIVE then s.condEnd 0x01 scCHANNEL c else s
  let s := if (s.fe u).mismatch && !(s.fe c).mismatch then s.condEnd 0x03 scCHANNEL c else s
  (s.modFe u fun f => { f with mismatch := false }).setFs (shB nn) [(CHN_FE_STATUS.EN, 0), (CHN_FE_STATUS.DRIVING, 0), (CHN_FE_STATUS.CLAMP, 0),
    (CHN_FE_STATUS.SCL_LIVE, 0), (CHN_FE_STATUS.LSENSE_FB, 0)]

/-- The rotation of shade group nn is over: the group, its bus and its shade are free, converter work is the primary's. -/
def State.rotFree (s : State) (nn : Nat) : State :=
  let c := (s.rot nn).chan
  let b := nn / 4 * 0x10
  let s := s.shadeOpened nn
  let s := ((s.setRot nn {}).modFe (1024 + nn) fun _ => {}).modAdc (1024 + nn) fun a => { a with cur := 0 }
  let s := s.setF b CAL_TILE_ROT.ROT (setBit (s.getF b CAL_TILE_ROT.ROT) (nn % 4) false)
  let s := (s.setF (feB c) CHN_FE_STATUS.ROTATED 0).setF (feB c) CHN_ADC_STATUS.SHD_EXEC 0
  s.modAdc c fun a => { a with hold := 0 }

/-- The pass of tile t ends once every channel has been rotated since it began, is OWED, or is remapped (R217). -/
def State.passCheck (s : State) (t : Nat) : State :=
  let b := t * 0x10
  let complete := (List.range 128).all fun l =>
    (s.tile t).passDone.testBit l || s.isSet (4 * (t * 128 + l)) CAL_FE_STATE.OWED || s.isSet (feB (t * 128 + l)) CHN_FE_STATUS.REMAPPED
  if s.isSet b CAL_TILE_ROT.PASS ∧ complete then
    let s := s.setF b CAL_TILE_ROT.PASS 0
    let n := popCount 128 (s.tile t).passDone + s.getF b CAL_TILE_ROT.OWED * 2 ^ 32
    let s := s.mapCmds (fun k => k.started && isRotate 0 k && decide (t ∈ k.busy)) fun k => { k with acc := k.acc + n }
    s.unbusyBy (isRotate 0) t
  else s

/-- Something is staged (R222). -/
def State.anyStaged (s : State) : Bool :=
  s.isSet 0 CAL_STATUS.ANCHOR_STAGED || decide (s.stagedUnits ≠ [] ∨ s.stagedTiles ≠ [] ∨ s.timingNew ≠ [])

/-- The force-path corrections that H5 put in force for channel c are taken back (R220). -/
def State.rotUndo (s : State) (nn : Nat) : State :=
  let r := s.rot nn
  if r.old = [] then s
  else
    let o := feRec r.chan + 440
    let s := { s with sram := memWrite sramReset s.sram (calBase + o) r.old }
    let s := if s.anyStaged then { s with sram := memWrite sramReset s.sram (calStage + o) r.old } else s
    s.setRot nn { r with old := [] }

/-- The rotation of channel c, if any, is abandoned: both paths open or the calibration is dropped; c is OWED (R220). -/
def State.abandonRotation (s : State) (c : Nat) : State :=
  let nn := shadeOf c
  let r := s.rot nn
  if r.active ∧ r.chan = c then ((((s.rotUndo nn).rotFree nn).owe c).rotCount c false).passCheck (c / 128) else s

/-- A trip or an Amber action on front-end u: output and driver open, TRIPPED set, its sequence's command ends, its
rotation is abandoned (R39, R44, R87, R220, R359). [DEDUCED, log entry 13] -/
def State.tripFe (s : State) (u cls : Nat) : State :=
  let s := (s.openFe u).setF (feB u) CHN_FE_STATUS.TRIPPED 1
  let s := s.abortBusy seqOps u cls
  if u < 1024 then s.abandonRotation u
  else match s.servedBy (u - 1024) with | some c => s.abandonRotation c | none => s

/-- As part of a quiesce, SAFE entry or reset: open, with TRIPPED only where something was open. [DEDUCED, log entry 13] -/
def State.quietFe (s : State) (u : Nat) : State :=
  let d := s.drives u
  let s := s.openFe u
  if d then s.setF (feB u) CHN_FE_STATUS.TRIPPED 1 else s

/-! ### Converter queues -/

/-- Publishes the pass, the entry and the requests pending of unit c in CHN_ADC_STATUS. -/
def State.adcShow (s : State) (c : Nat) : State :=
  let a := s.adc c
  s.setFs (feB c) [(CHN_ADC_STATUS.PASS, a.pass % 64), (CHN_ADC_STATUS.BUSY, b2n a.running), (CHN_ADC_STATUS.INJ_PEND, a.inj.length)]

/-- Held requests, l of them, take the places that have become free (R69): their commands' waits are counted. -/
def State.adcRefillAs (s : State) (c : Nat) : List Inj → State
  | [] => s.adcShow c
  | i :: is =>
    let a := s.adc c
    if a.inj.length + a.reserved < 4 then
      let w := s.uptime - i.heldAt
      let s := (s.modAdc c fun a => { a with inj := a.inj ++ [i], heldInj := is }).adcShow c
      let s := match i.owner with
        | none => s
        | some r =>
          s.modCmd r fun k =>
            { k with injWait := max k.injWait w, delayed := k.delayed || decide (1280 * s.getF (sqA k.sq) RING_SQ_HOLD.HOLD_US < w) }
      State.adcRefillAs s c is
    else s.adcShow c

/-- The requests that unit c's queue holds outside take the places that are free (R69). -/
def State.adcRefill (s : State) (c : Nat) : State := s.adcRefillAs c (s.adc c).heldInj

/-! ### Stopping runs -/

/-- Raises trap cause k on engine e (R328): a level, pending until its handler is entered. -/
def State.raiseTrap (s : State) (e k : Nat) : State :=
  s.setF (4 * e) MC_ENG_STATUS.PEND (s.getF (4 * e) MC_ENG_STATUS.PEND ||| 2 ^ k)

def State.engState (s : State) (c : Nat) : Nat := s.getF (chB c) CHN_SEQ_STATUS.STATE

/-- Pattern-running: any state but IDLE and HALTED (R99). -/
def State.patRunning (s : State) (c : Nat) : Bool := s.engState c != 0 && s.engState c != 4

/-- A fault action ends the run on channel c: trap FAULT, and the run will stop with ABORTED_FAULT (R359). -/
def State.faultRun (s : State) (c cls : Nat) : State :=
  if s.patRunning c then
    (s.raiseTrap c 1).modEng (s.leaderOf c) fun e => { e with stop := some (e.stop.getD { status := scABORTFAULT, detail := cls }) }
  else s

/-- An event that ends a WAIT of the given kind reaches engine c: its hold's event has come, trap cause EVENT is raised (R113, R328). -/
def State.waitMet (s : State) (c kind : Nat) : State :=
  match (s.eng c).hold with
  | some h => if h.kind = .wait kind then (s.modEng c fun e => { e with hold := some { h with arrived := true } }).raiseTrap c 5 else s
  | none => s

/-- Tile t's trigger unit fires: WAITs of KIND 0 end, runs waiting in START for it may begin (R192). -/
def State.fireEngines (s : State) (t : Nat) : State :=
  let s := (s.engs.filterMap fun e => if e.1 / 128 = t then some e.1 else none).foldl
    (fun s c => (s.waitMet c 0).modEng c fun e => { e with fired := e.fired || decide (s.engState c = 5) }) s
  (List.range 4).foldl (fun s x => s.modCtx t x fun k => { k with fired := k.fired || k.run.isSome }) s

/-- CHN_ADC_STATUS.RDY of unit u is set (R74); a WAIT of KIND 1 of its engine ends (R113). -/
def State.setRdy (s : State) (u : Nat) : State :=
  let s := s.setF (feB u) CHN_ADC_STATUS.RDY 1
  if u < 1024 then s.waitMet u 1 else s

/-- Program vectors output by engine c's run (R129, R130). -/
def State.vcnt (s : State) (c : Nat) : Nat := s.getF (chB c) CHN_SEQ_VCNT_LO.COUNT + 2 ^ 32 * s.getF (chB c) CHN_SEQ_VCNT_HI.COUNT

/-- An engine without a run: its driver and its stream ring's read position stay. -/
def Eng.idled (e : Eng) (d : Drv) : Eng := { stat := d, rd := e.rd }

/-- Engine c is IDLE again, or stays HALTED (R332): no run, no jump registered, no trap pending, no reserved place, group not at a barrier. -/
def State.idleEngine (s : State) (c : Nat) (d : Drv) : State :=
  let s := (s.modEng c fun e => e.idled d).modAdc c fun a => { a with reserved := 0 }
  let s := if (s.adc c).heldInj = [] then s else s.adcRefill c
  let s := (if s.engState c = 4 then s else s.setF (chB c) CHN_SEQ_STATUS.STATE 0).setF (chB c) CHN_SEQ_JREQ.PEND 0
  let s := ((s.setF (4 * c) MC_ENG_STATUS.PEND 0).modMic c fun m => { m with handler := false }).condEnd 0x0B scCHANNEL c
  if s.isSet (chB c) CHN_SEQ_GRP.BOUND then
    let b := tileBase (c / 128)
    s.setF b TIL_SEQ_BAR_ARR.GROUPS (setBit (s.getF b TIL_SEQ_BAR_ARR.GROUPS) (s.getF (chB c) CHN_SEQ_GRP.GROUP) false)
  else s

/-- Bit i of the result stands for the i-th named group (R248). -/
def groupBits (named m : Nat) : Nat := ((bitsSet 32 named).zipIdx).foldl (fun n e => if m.testBit e.1 then setBit n e.2 true else n) 0

/-- RESULT of the APG_RUN of context x of tile t: cycles, failing groups, dropped groups (R248). -/
def State.apgResult (s : State) (t x : Nat) : Nat :=
  let b := tileBase t + 0x80 * x
  let k := s.ctx t x
  min (2 ^ 32 - 1) (s.getF b APG_CTX_CYC_LO.COUNT + 2 ^ 32 * s.getF b APG_CTX_CYC_HI.COUNT) + groupBits k.named k.failed <<< 32 +
    groupBits k.named k.dropped <<< 48

/-- The run on channel c ends at once without the engine's own steps: quiesce, SAFE, reset (R130, R174); a Cobalt run ends with its context. -/
def State.killRun (s : State) (c : Nat) (e : Option Ending) : State :=
  if s.patRunning c || (s.eng c).run.isSome then
    let s := match (s.eng c).run, (s.eng c).ctx, e with | some r, none, some e => s.endCmd r { e with result := s.vcnt c } | _, _, _ => s
    (s.tablesTake c).idleEngine c .z
  else s

/-- Context x of tile t ends at once (R174): IDLE, groups unbound. -/
def State.killCtx (s : State) (t x : Nat) (e : Option Ending) : State :=
  let b := tileBase t + x * 0x80
  if s.getF b APG_CTX_STATUS.STATE = 0 then s
  else
    let s := match (s.ctx t x).run, e with | some r, some e => s.endCmd r { e with result := s.apgResult t x } | _, _ => s
    let s := s.modCtx t x fun _ => {}
    let s := s.setF (tileBase t) APG_STATUS.RUN (setBit (s.getF (tileBase t) APG_STATUS.RUN) x false)
    (s.setF b APG_CTX_STATUS.STATE 0).setF b APG_CTX_GRPS.GROUPS 0

/-- The channels of the register file whose engine registers are listed: only these can be running. -/
def State.listedEngines (s : State) (p : Nat → Bool) : List Nat :=
  (s.regs.filterMap fun e => match locate e.1 with
    | (.engine, c, 0x304) => if p c then some c else none
    | _ => none)

/-- The front-ends of the register file with a listed status or a listed hidden part. -/
def State.listedFes (s : State) (p : Nat → Bool) : List Nat :=
  (s.regs.filterMap fun e => match locate e.1 with
    | (.front, u, 0x14) => if p u then some u else none
    | _ => none) ++ (s.fes.filterMap fun e => if p e.1 then some e.1 else none)

/-- Every run and context of the tiles p names ends with ABORTED_FAULT, class cls. -/
def State.killRuns (s : State) (p : Nat → Bool) (e : Option Ending) : State :=
  let s := (s.listedEngines (fun c => p (c / 128))).foldl (fun s c => s.killRun c e) s
  ((List.range 8).filter p).foldl (fun s t => (List.range 4).foldl (fun s x => s.killCtx t x e) s) s

/-! ### Converters, stamps, Sepia, triggers, calibration of a tile that stops -/

/-- The unit whose conversions run on front-end u. -/
def State.adcOf (s : State) (u : Nat) : Nat := if 1024 ≤ u then (s.servedBy (u - 1024)).getD u else u

/-- Marks the conversion now sampling on front-end u as made under a clamp or the limit, or in a sequence step (R72). -/
def State.markConv (s : State) (u : Nat) (clamp seq : Bool) : State :=
  s.modAdc (s.adcOf u) fun a => match a.conv with
    | some k => if k.converting then a else { a with conv := some { k with clamp := k.clamp || clamp, seqst := k.seqst || seq } }
    | none => a


/-- Unit u's converter stops at once: the conversion is discarded, injected requests too; results of conversions that have ended go on to their
destinations (R78). -/
def State.adcKill (s : State) (u : Nat) : State :=
  let s := s.modAdc u fun a => { results := a.results }
  let b := feB u
  (s.setF b CHN_ADC_STATUS.BUSY 0).setF b CHN_ADC_STATUS.INJ_PEND 0

def State.adcKillAll (s : State) (p : Nat → Bool) : State :=
  (s.adcs.filterMap fun e => if p (tileOf e.1) then some e.1 else none).foldl State.adcKill s

/-- Results on their way to the queue of tile t, which is cleared, are dropped (R78). -/
def State.adcDrop (s : State) (t : Nat) : State :=
  (s.adcs.filterMap fun e => if tileOf e.1 = t then some e.1 else none).foldl (fun s u => s.modAdc u fun a => { a with results := [] }) s

/-- Stamping of the tile's front-ends stops and their FIFOs are discarded (R157). -/
def State.stampKill (s : State) (p : Nat → Bool) : State :=
  let us := s.tdcs.filterMap fun e => if p (tileOf e.1) then some e.1 else none
  us.foldl (fun s u => (s.modTdc u fun d => { d with fifo := [], lostPend := 0 }).setF (feB u) CHN_TIM_STATUS.FIFO 0) s

/-- Sepia jobs of tile t end with outcome e (none: they vanish) (R157). -/
def State.sepiaKill (s : State) (t : Nat) (e : Option Ending) : State :=
  (List.range 16).foldl (fun s n =>
    let b := tileBase t + 4 * n
    if s.getF b SEP_JOB.STATE = 0 then s
    else
      let r : CmdRef := { sq := s.getF b SEP_JOB.RING, tag := s.getF b SEP_JOB.TAG }
      let s := match e with | some e => s.endCmd r e | none => s
      let s := s.setJob t n none
      let s := s.wr (b + SEP_JOB.STATE.off) 0
      s.setF (tileBase t) SEP_BUSY.JOBS (setBit (s.getF (tileBase t) SEP_BUSY.JOBS) n false)) s

/-- The domain of tile t's trigger unit: 1 A, 2 B; 0 tile-local, as 3 counts (R191). -/
def State.trigDom (s : State) (t : Nat) : Nat := let d := s.getF (tileBase t) TRG_CTRL.DOM; if d = 3 then 0 else d

/-- The function of TRIG line n (R200). -/
def State.lineFunc (s : State) (n : Nat) : Nat := bits (s.getF 0 GLB_TRIG_CFG.LINES) (8 * n + 2) (8 * n)

/-- Domain d uses its pair of lines: both are DOM (R200). -/
def State.domLines (s : State) (d : Nat) : Bool := s.lineFunc (2 * d - 2) == 3 && s.lineFunc (2 * d - 1) == 3

/-- Domain d's arm is present: a master of this module holds it, or its ARM line is high (R191). -/
def State.domArm (s : State) (d : Nat) : Bool :=
  ((List.range 8).any fun t => decide (s.trigDom t = d) && (s.trig t).arm) || (s.domLines d && s.armLine.testBit d)

/-- Tile t's trigger unit is in a capture: PREP, ARMED or HOLDOFF. -/
def State.trigBusy (s : State) (t : Nat) : Bool :=
  let st := s.getF (tileBase t) TRG_STATUS.STATE
  decide (1 ≤ st ∧ st ≤ 3)

/-- RESULT of a TRIG_ARM (R248): segments closed, fires. -/
def State.trigResult (s : State) (t : Nat) : Nat :=
  s.getF (tileBase t) TRG_STATUS.SEGS + s.getF (tileBase t) TRG_FIRECNT.COUNT <<< 32

/-- Tile t's capture ends in state st with the given ending of its TRIG_ARM (R194). -/
def State.trigEnd (s : State) (t st : Nat) (e : Option Ending) : State :=
  let s := match (s.trig t).run, e with
    | some r, some e => s.endCmd r { e with result := s.trigResult t }
    | _, _ => s
  (s.modTrig t fun g => { g with run := none, hold := 0, arm := false, offers := [] }).setF (tileBase t) TRG_STATUS.STATE st

/-- Where a domain's arm is gone, its other captures end with OK and PARTIAL (R194). -/
def State.domRelease (s : State) (d : Nat) : State :=
  if d = 0 ∨ s.domArm d then s
  else (List.range 8).foldl (fun s t =>
    if s.trigDom t = d ∧ s.trigBusy t then s.trigEnd t 4 (some { status := scOK, partialDone := true })
    else s) s

/-- The captures of both domains whose arm is gone end (R194). -/
def State.domsRelease (s : State) : State := (s.domRelease 1).domRelease 2

/-- Captures of the tiles p names end together, with no release between them (R194, R202). -/
def State.trigStop (s : State) (p : Nat → Bool) (e : Option Ending) : State :=
  (List.range 8).foldl (fun s t => if p t && s.trigBusy t then s.trigEnd t 4 e else s) s

/-- A capture of tile t ends (R194): DONE, or IDLE after a reset; a master releases its domain. -/
def State.trigKill (s : State) (t : Nat) (e : Option Ending) (toIdle : Bool) : State :=
  if s.trigBusy t then
    let held := (s.trig t).arm
    let d := s.trigDom t
    let s := s.trigEnd t (if toIdle then 0 else 4) e
    if held then s.domRelease d else s
  else if toIdle then s.setF (tileBase t) TRG_STATUS.STATE 0 else s

/-- The transfer of tile t vanishes and the tile is due (R234). -/
def State.xferKill (s : State) (t : Nat) : State :=
  let b := t * 0x10
  if s.isSet b CAL_TILE_ROT.XFER then
    ((s.setF b CAL_TILE_ROT.XFER 0).setF b CAL_TILE_ROT.DUE 1).modTile t fun x => { x with xferStep := 0 }
  else s

/-- A running anchor ends, its staging is discarded (R226, R234). -/
def State.anchorKill (s : State) (e : Option Ending) : State :=
  if s.isSet 0 CAL_STATUS.ANCHOR_RUN then
    let s := match s.anchor.run, e with | some r, some e => s.endCmd r e | _, _ => s
    { (s.setF 0 CAL_STATUS.ANCHOR_RUN 0) with anchor := {} }
  else s

/-- Rotations of the tiles p names are abandoned (R220). -/
def State.rotKillAll (s : State) (p : Nat → Bool) : State :=
  (s.rots.filterMap fun e => if p (e.1 / 4) then some e.1 else none).foldl
    (fun s nn => if (s.rot nn).active then s.abandonRotation (s.rot nn).chan else s) s

/-- The tile whose unit or memory is under test x, if it is a tile's (R231). -/
def Test.tile (x : Test) : Option Nat :=
  if x.code = 4 ∨ x.unit = 0x10020 then none else if 0x10000 ≤ x.unit then some ((x.unit - 0x10000) / 4) else some (tileOf x.unit)

/-- Tests whose command has stopped are dropped. -/
def State.dropTests (s : State) : State := { s with tests := s.tests.filter fun x => (s.running? x.cmd opSELFTEST).isSome }

/-- The tests of tile t end as stopped. -/
def State.cutTests (s : State) (t : Nat) : State :=
  { s with tests := s.tests.map fun (x : Test) => if x.outcome.isNone && x.tile == some t then { x with outcome := some 3 } else x }.dropTests

/-- Command c, with work in tile t, stops with e (R261): its channels of other tiles that are in a sequence complete it first, its sliced work in
other tiles runs on to its next slice boundary; else at once. -/
def State.stopPart (s : State) (t : Nat) (e : Ending) (c : Cmd) : Cmd :=
  let left := c.busy.filter fun u => decide (tileOf u ≠ t)
  let later := c.stopAsked.getD { e with result := c.acc }
  if c.op ∈ [opCONFIG, opFORCE, opRELEASE] ∧ c.started ∧ left ≠ [] then { c with busy := left, stopAsked := some later }
  else if c.started ∧ c.op ∈ slicedOps ∧ c.op ≠ opANCHOR ∧ (s.tilesOf c).any (fun x => decide (x ≠ t)) then { c with stopAsked := some later }
  else c.stopBy e

/-- Commands with work in tile t stop by the fault that quiesced it (R261); a CH_RELEASE that has not begun runs on. -/
def State.abortTileCmds (s : State) (t : Nat) (e : Ending) : State :=
  let s := s.mapCmds (fun c => c.admitted && (decide (c.op ≠ opRELEASE) || c.started) && decide (t ∈ s.tilesOf c)) (s.stopPart t e)
  s.cutTests t

/-- Tile t's outputs, runs, converters, stamping, jobs, captures and calibration stop (R360 and the rules it names). -/
def State.stopTile (s : State) (t : Nat) (e : Option Ending) : State :=
  let p := fun x => decide (x = t)
  let s := (s.listedFes fun u => decide (tileOf u = t)).foldl State.quietFe s
  let s := s.killRuns p e
  let s := (s.adcKillAll p).adcDrop t
  let s := s.stampKill p
  let s := s.sepiaKill t e
  let s := s.trigKill t e false
  let s := s.rotKillAll p
  let s := s.xferKill t
  s.anchorKill e

/-- The result queue of tile t is cleared and its TIL_RQ_ registers take their reset values (R78). -/
def State.rqClear (s : State) (t : Nat) : State :=
  (s.resetRegs fun a => decide (tileBase t + 0x400 ≤ a ∧ a ≤ tileBase t + 0x420)).modTile t fun x => { x with rqOut := 0 }

/-- A Crimson instance quiesces tile t (R360). -/
def State.quiesce (s : State) (t cls : Nat) : State :=
  if s.tileQ t then s
  else
    let e : Ending := { status := scABORTFAULT, detail := cls }
    let s := s.stopTile t (some e)
    let s := s.rqClear t
    let s := s.abortTileCmds t e
    (s.setTileQ t true).modTile t fun x => { x with quiesceCls := cls }

/-- SAFE entry (R21): every output high-Z, every command in flight ends with ABORTED_FAULT, links stay up.  In BOOT a Black instance takes
effect at READY (R386). -/
def State.enterSafe (s : State) (cls : Nat) : State :=
  if s.mode = stSAFE ∨ s.mode = stBOOT then s
  else
    let e : Ending := { status := scABORTFAULT, detail := cls }
    let s := (s.listedFes fun _ => true).foldl State.quietFe s
    let s := s.killRuns (fun _ => true) (some e)
    let s := s.adcKillAll (fun _ => true)
    let s := s.stampKill (fun _ => true)
    let s := (s.trigStop (fun _ => true) (some e)).domsRelease
    let s := (List.range 8).foldl (fun s t => s.sepiaKill t (some e)) s
    let s := s.rotKillAll (fun _ => true)
    let s := s.anchorKill (some e)
    let s := (List.range 8).foldl (fun s t => let b := tileBase t
      if s.getF b TIL_RQ_LEVEL.COUNT = 0 then s.setF b TIL_RQ_CTRL.EN 0 else s.modTile t fun x => { x with rqStop := s.isSet b TIL_RQ_CTRL.EN }) s
    let s := (s.mapCmds (fun c => c.admitted) (Cmd.stopBy e)).dropTests
    { (s.setMode stSAFE) with svcEntry := false, svcExit := false }

/-! ### Black-box queue (R369) -/

/-- Stages a record; a full queue of 64 sets FLT_BB_STATUS.LOST instead. -/
def State.bbRecord (s : State) (k why level detail : Nat) : State :=
  let time := s.calTime
  let r : BbRec := ⟨keyCls k, keyScope k, why, level, s.epochValid, keyUnit k, s.tb, time, detail⟩
  if s.bbStage.length < 64 then
    let s := { s with bbStage := s.bbStage ++ [r] }
    s.setF 0 FLT_BB_STATUS.STAGED (min 63 s.bbStage.length)
  else s.setF 0 FLT_BB_STATUS.LOST 1

/-! ### Level actions (R359) -/

/-- Amber action on one channel: trip, and a run of it per the Run column; a HALTED engine has no run to end. -/
def State.amberChannel (s : State) (c cls : Nat) : State :=
  let s := s.tripFe (s.phys c) cls
  let s := s.abandonRotation c
  if runEnds cls then s.faultRun c cls else s

/-- Amber action on one shade: its switches open and a rotation it serves is abandoned. -/
def State.amberShade (s : State) (nn cls : Nat) : State := s.tripFe (1024 + nn) cls

/-- Amber action on a tile: every channel and shade with something to open. -/
def State.amberTile (s : State) (t cls : Nat) : State :=
  let s := ((List.range 128).map (t * 128 + ·)).foldl (fun s c => s.amberChannel c cls) s
  ((List.range 4).map (t * 4 + ·)).foldl (fun s nn => s.amberShade nn cls) s

/-- The action of an instance's level at its scope (R359). -/
def State.levelAction (s : State) (k level : Nat) : State :=
  let cls := keyCls k
  let u := keyUnit k
  if level = 3 then s.enterSafe cls
  else if level = 2 then
    if keyScope k = scMODULE then
      let s := s.trigStop (fun t => !s.tileQ t) (some { status := scABORTFAULT, detail := cls })
      (List.range 8).foldl (fun s t => s.quiesce t cls) s.domsRelease
    else match keyTile k with | some t => s.quiesce t cls | none => s
  else if level = 1 then
    if keyScope k = scCHANNEL then s.amberChannel u cls
    else if keyScope k = scSHADE then s.amberShade u cls
    else if keyScope k = scTILE then s.amberTile u cls
    else if keyScope k = scMODULE then (List.range 8).foldl (fun s t => s.amberTile t cls) s
    else s
  else s

/-- An instance enters a level: stored, recorded in the black-box (always from Amber up; Pale by BBPALE), its timers
started, its action carried out (R359, R362, R369). [DEDUCED, log entry 47] -/
def State.enterLevel (s : State) (k : Nat) (i : Inst) (level why detail : Nat) : State :=
  let s := s.setInst k { i with force := true, level := level, grace := decide (level = 1 ∨ level = 2) && i.unack }
  let s := if level ≠ 0 ∨ s.isSet (4 * keyCls k) FLT_CLASS.BBPALE then s.bbRecord k why level detail else s
  s.levelAction k level

/-- A detection of class cls at (scope, unit), at level lv when CLEAR, with its record DETAIL (R361).
`mom` says that the condition exists only now. -/
def State.detectAt (s : State) (cls scope unit detail lv : Nat) (mom : Bool) : State :=
  let k := instKey cls scope unit
  let i := s.inst k
  let s := s.incSat (4 * cls) FLT_CLASS.DCNT 1
  let s := { s with lastCls := tabSet (fun _ => 0) s.lastCls (scope * 2048 + unit) cls }
  let now : Inst := { i with cond := !mom, quiet := mom && !i.sticky, detail := detail }
  if ¬ i.force then s.enterLevel k { now with unack := decide (lv ≠ 0) || s.isSet (4 * cls) FLT_CLASS.PEVT } lv 0 detail
  else if cls = 0x09 ∧ i.level < lv then s.enterLevel k { now with unack := true } lv 2 detail
  else if i.level = 0 then s.setInst k { now with unack := i.unack || s.isSet (4 * cls) FLT_CLASS.PEVT }
  else if i.level = 3 then s.setInst k { now with unack := true }
  else if ¬ i.unack then s.setInst k { now with unack := true, grace := true }
  else s.enterLevel k now (i.level + 1) 2 detail

/-- A detection at the class's own level. -/
def State.detect (s : State) (cls scope unit detail : Nat) : State :=
  s.detectAt cls scope unit detail (s.getF (4 * cls) FLT_CLASS.LEVEL) (momentary cls)

/-- A detection of a class at front-end u, raised at the channel it serves if it is a shade that serves one. -/
def State.detectFe (s : State) (cls u detail : Nat) : State :=
  let (sc, n) := s.faultUnit u
  s.detect cls sc n detail

/-! ### Corrections of a rotation (R218, R223) -/

/-- Front-end u's calibration state: its register fields and its record's state group (R224). -/
def State.setCalState (s : State) (u st fails : Nat) : State :=
  let s := s.setFs (4 * u) [(CAL_FE_STATE.STATE, st), (CAL_FE_STATE.FAILS, fails)]
  (s.calPut (feRec u + recState) 1 st).calPut (feRec u + recFails) 1 fails

/-- Puts the corrections of front-end u into a buffer: 704 bytes of its record. -/
def State.putRow (s : State) (base u : Nat) (data : List Byte) : State :=
  { s with sram := memWrite sramReset s.sram (base + feRec u) (data.take 704) }

/-- A term has changed by more than R218 allows: 40 ppm, 200 µV, 20 ppm of I_FS. -/
def CalChange.over (c : CalChange) : Bool := decide ([4000, 200000, 2000].getD c.kind 0 < c.change.natAbs)

/-- The term by which a front-end's corrections fail R218, the first of several. [DESIGN CHOICE, log entry 68] -/
def CalRow.fail (r : CalRow) : Option Nat := (r.changes.find? CalChange.over).map fun c => c.term

/-- H5 (R219): channel c's force path takes its new corrections, in both buffers where rows are staged (R223). -/
def State.rotForce (s : State) (nn : Nat) (row : CalRow) : State :=
  let r := s.rot nn
  if row.fail.isSome then s
  else
    let o := feRec r.chan + 440
    let old := memRead sramReset s.sram (calBase + o) 264
    let bs := (row.data.take 704).drop 440
    let s := { s with sram := memWrite sramReset s.sram (calBase + o) bs }
    let s := if s.anyStaged then { s with sram := memWrite sramReset s.sram (calStage + o) bs } else s
    s.setRot nn { r with old := old }

/-- The corrections found for channel c take effect in place, or fail R218 (R218, R223); c is no longer OWED. -/
def State.rotResult (s : State) (c : Nat) (row : CalRow) : State :=
  let fails := s.getF (4 * c) CAL_FE_STATE.FAILS
  match row.fail with
  | none =>
    let s := s.putRow calBase c row.data
    let s := if s.anyStaged then (s.putRow calStage c row.data).sramSet (calStage + feRec c + recRot) 8 s.calTime else s
    let s := (s.setCalState c 0 0).calPut (feRec c + recRot) 8 s.calTime
    { s.unowe c with rotAt := tabSet (fun _ => none) s.rotAt c (some s.uptime), calDirty := true }
  | some term =>
    let s := (s.setCalState c (if 2 ≤ fails then 2 else 1) (min 255 (fails + 1))).incSat 0 CAL_ROT_FAIL.COUNT 1
    (s.unowe c).detect 0x0D scCHANNEL c term

/-- The rotation of shade group nn hands back (R219): its corrections take effect, the pass and CAL_ROTATE go on. [DEDUCED, log entry 50] -/
def State.handback (s : State) (nn : Nat) : State :=
  let r := s.rot nn
  let c := r.chan
  let s := s.rotFree nn
  let s := match r.row with | some row => s.rotResult c row | none => s
  let s := s.modTile (c / 128) fun x => { x with passDone := setBit x.passDone (c % 128) true }
  (s.rotCount c true).passCheck (c / 128)

/-- A command takes the front-end of channel c (R220): early handback; a calibration that was complete stands; c is OWED. -/
def State.yieldRotation (s : State) (c : Nat) : State :=
  let r := s.rot (shadeOf c)
  if r.active ∧ r.chan = c then
    let s := if 5 ≤ r.step then
        (match r.row with | some row => (s.setRot (shadeOf c) { r with old := [] }).rotResult c row | none => s)
      else s
    s.abandonRotation c
  else s

/-- A command for channel c abandons a direct rotation of it (R220). -/
def State.directYields (s : State) (c : Nat) : State := if (s.rot (shadeOf c)).direct then s.abandonRotation c else s

/-- An SRAM_ECC detection (R13, R358): region code, uncorrectable flag, owning unit, word address. -/
def State.detectEcc (s : State) (region : Nat) (unc : Bool) (unit word : Nat) : State :=
  let scope := if region = 0 then scCHANNEL else if region ≤ 2 then scTILE else scMODULE
  let lv := if ¬ unc then 0 else if region = 0 then 1 else if region ≤ 2 then 2 else 3
  let s := s.incSat (4 * region) (if unc then GLB_ECC_CNT.UNCORR else GLB_ECC_CNT.CORR) 1
  s.detectAt 0x09 scope (if scope = scMODULE then 0 else unit) (b2n unc <<< 31 + region <<< 24 + word % 2 ^ 24) lv true

/-! ### Acknowledgement and leaving (R363 to R365) -/

/-- Whether an acknowledgement naming (class, scope, unit) selects instance k (R363). -/
def ackSelects (cls scope unit k : Nat) : Bool :=
  (cls == 0xFF || keyCls k == cls) &&
    (if scope = scMODULE then true
     else if scope = scTILE then keyTile k == some unit
     else keyScope k == scope && keyUnit k == unit)

/-- The unit numbers a scope has (R356). -/
def scopeUnits (scope : Nat) : Nat := [1, 8, 1024, 4, 32].getD scope 0

/-- Acknowledges the selected instances; answers how many changed (R363). -/
def State.acknowledge (s : State) (cls scope unit : Nat) : State × Nat :=
  let hit := s.insts.filter fun e => e.2.force && e.2.unack && ackSelects cls scope unit e.1
  (hit.foldl (fun s e => s.setInst e.1 { e.2 with unack := false, grace := false }) s, hit.length)

/-- Tile t leaves quiesce when no instance that quiesces it remains at Crimson (R360); a tile reset keeps TILE_Q. -/
def State.leaveQuiesce (s : State) (t : Nat) : State :=
  let held := s.insts.any fun e => e.2.force && decide (e.2.level = 2) && (keyTile e.1 == some t || keyScope e.1 == scMODULE)
  if held ∨ s.isSet (tileBase t) TIL_STATUS.RESET ∨ ¬ s.tileQ t then s
  else
    let s := s.setTileQ t false
    s.modTile t fun x => { x with quiesceCls := 0 }

/-- After instances are left: tiles leave quiesce, the module leaves SAFE for READY when no Black instance remains (R20,
R360, R364). -/
def State.settleFaults (s : State) : State :=
  let s := (List.range 8).foldl State.leaveQuiesce s
  if s.mode = stSAFE ∧ ¬ (s.insts.any fun e => e.2.force && decide (e.2.level = 3)) then s.setMode stREADY else s

/-- Instance k is left: CLEAR, its counts kept (R364, R365). -/
def State.leaveInst (s : State) (k : Nat) : State :=
  let i := s.inst k
  (s.setInst k { rcnt := i.rcnt, wcnt := i.wcnt, window := i.window }).settleFaults

/-- CH_RELEASE and tile reset on instance k (R365): left at once without an exit when its condition is absent; else it
stays, unacknowledged, unstuck, its window gone, its action carried out again. -/
def State.releaseInst (s : State) (k : Nat) : State :=
  let i := s.inst k
  if ¬ i.force then s
  else if i.cond then
    let i := { i with unack := true, sticky := false, wcnt := 0, window := false, grace := decide (i.level = 1 ∨ i.level = 2) }
    (s.setInst k i).levelAction k i.level
  else (s.setInst k { rcnt := i.rcnt }).settleFaults

/-- Amber or higher in force on a channel or its tile: enabling, running, binding and rotating are refused (R364). -/
def State.faultHolds (s : State) (c : Nat) : Bool :=
  s.insts.any fun e => e.2.force && decide (1 ≤ e.2.level) &&
    ((keyScope e.1 == scCHANNEL && keyUnit e.1 == c) || (keyScope e.1 == scTILE && keyUnit e.1 == c / 128))

end Sys2Proof.Machine
end

