-- ==== Sys2Proof/Machine/PowerOps.lean ====
section
/-! DEFINITION. Activity (R19), and the power governor's charges and budgets (R256, R378 to R380). -/

namespace Sys2Proof.Machine

/-! ### READY and ACTIVE (R19) -/

/-- Opcodes whose being in flight is no activity (R19). -/
def quietOps : List Nat := [opANCHOR, opROTATE, opCOMMIT, opCALREAD, opSELFTEST, opDIAG]

/-- Whether a stored register shows activity: an output switch closed, an engine, context or trigger unit at work. -/
def regActive (a : Nat) (w : Word) : Bool :=
  match locate a with
  | (.front, _, 0x14) => CHN_FE_STATUS.EN.get w != 0
  | (.engine, _, 0x304) => CHN_SEQ_STATUS.STATE.get w != 0 && CHN_SEQ_STATUS.STATE.get w != 4
  | (.til, _, 0x2000) => APG_STATUS.RUN.get w != 0
  | (.til, _, 0x3004) => decide (1 ≤ TRG_STATUS.STATE.get w ∧ TRG_STATUS.STATE.get w ≤ 3)
  | _ => false

/-- One of the conditions of R19 holds. -/
def State.active (s : State) : Bool :=
  s.regs.any (fun e => regActive e.1 e.2) ||
    s.cmds.any fun c => c.admitted && decide (c.cls ≠ 0) && decide (c.op ∉ quietOps)

/-! ### Scales -/

/-- Full scale of a current range in nA (R34). -/
def iFs (range : Nat) : Nat := [2000, 20000, 200000, 2000000, 20000000, 80000000].getD range 0

/-- The mode in force: a reserved MODE, VSPAN or IRANGE counts as OFF (R30). -/
def effMode (mode span range : Nat) : Nat := if mode ≤ 4 ∧ span ≤ 2 ∧ range ≤ 5 then mode else 0

/-- The code of 0 V or 0 A in a setting (R33, R34). -/
def zeroCode (mode span : Nat) : Nat := if mode = 1 ∧ span = 2 then 0x36DB7 else 0x80000

/-- The current-clamp code in effect: below 0x050 acts as 0x050 (R36). -/
def clampCode (c : Nat) : Nat := max c 0x50

/-- A power I × 21 V in mW, nearest whole number, a half rounded up; I = num / den nA. -/
def headMw (num den : Nat) : Nat := (2 * num * 21 + den * 1000000) / (2 * den * 1000000)

/-- Charge of FV with clamp code c in range r (R36, R378). -/
def chargeFV (r c : Nat) : Nat := headMw (clampCode c * 110 * iFs r) (4095 * 100)

/-- Charge of FI at distance d of the code from 0x8_0000 (R34, R378). -/
def chargeFI (r d : Nat) : Nat := headMw (d * 2 * iFs r) (2 ^ 20)

/-- Distance of a code from 0 A. -/
def codeDist (c : Nat) : Nat := if c ≤ 0x80000 then 0x80000 - c else c - 0x80000

/-- The largest distance from 0 A over OFS ± AMP. -/
def sineDist (ofs amp : Nat) : Nat := codeDist ofs + amp

/-- PATCHG in effect (R378). -/
def State.patMw (s : State) : Nat := min 100 (s.getF 0 THM_GOV.PATCHG)

/-! ### Budgets (R379) -/

/-- B_ABS of a tile. -/
def State.bAbs (s : State) (t : Nat) : Nat := clampN 500 8000 (s.getF (0x10 * t) THM_TILE_BUDGET.MW)

/-- What is charged now in tile t, and what may still be granted. -/
def State.charged (s : State) (t : Nat) : Nat := s.getF (0x10 * t) THM_TILE_GOV.CHARGED
def State.headroom (s : State) (t : Nat) : Nat := s.getF (0x10 * t) THM_TILE_GOV.INST - s.charged t

/-- The charge channel c carries in CHARGED. -/
def State.charge (s : State) (c : Nat) : Nat := tabGet (fun _ => 0) s.charges c

/-- Sets channel c's charge; the tile's CHARGED is the sum of its channels' (R378). -/
def State.setCharge (s : State) (c mw : Nat) : State :=
  let b := 0x10 * (c / 128)
  let s' := s.setF b THM_TILE_GOV.CHARGED (min 65535 (s.getF b THM_TILE_GOV.CHARGED - s.charge c + mw))
  { s' with charges := tabSet (fun _ => 0) s'.charges c mw }

/-- The charge channel c's present state makes (R378); a remapped channel's is its shade's. -/
def State.chargeNow (s : State) (c : Nat) : Nat :=
  let u := s.phys c
  let b := feB u
  let f := s.fe u
  if s.isSet b CHN_FE_STATUS.EN then
    let m := effMode (s.getF b CHN_FE_CFG.MODE) (s.getF b CHN_FE_CFG.VSPAN) (s.getF b CHN_FE_CFG.IRANGE)
    let r := s.getF b CHN_FE_CFG.IRANGE
    if m = 1 then chargeFV r (s.getF b CHN_ICLAMP.CODE)
    else if m = 2 then
      chargeFI r (if s.isSet b CHN_SINE_CTRL.EN then max (sineDist f.ofs f.amp) (codeDist (s.getF b CHN_FE_TARGET.CODE))
        else codeDist (s.getF b CHN_FE_TARGET.CODE))
    else 0
  else if f.mode = 4 ∧ s.patRunning c then s.patMw
  else 0

/-- The charge of channel c stands: a command for it in flight was granted it and has not begun, or is a contact check, or the channel
drives or runs (R378, R380). -/
def State.chargeKept (s : State) (c : Nat) : Bool :=
  s.cmds.any fun k => decide (k.ending = none) && k.admitted && decide (c ∈ k.chans) &&
    ((!k.started && decide (k.charge ≠ [])) || decide (k.op = opCONTACT) || s.drives (s.phys c) || s.patRunning c)

/-- Returns charge: once no command for a channel is in flight its charge is that of its present state, and a channel
opened by hardware carries none (R380). -/
def State.settleCharge (s : State) : State :=
  s.charges.foldl (fun s e =>
    if 1024 ≤ e.1 ∨ s.chargeKept e.1 then s
    else if s.charge e.1 = s.chargeNow e.1 then s else s.setCharge e.1 (s.chargeNow e.1)) s

/-- READY and ACTIVE follow the conditions of R19; other states stand. -/
def State.settle (s : State) : State :=
  if s.mode = stREADY ∨ s.mode = stACTIVE then s.setMode (if s.active then stACTIVE else stREADY) else s

end Sys2Proof.Machine
end

