-- ==== Sys2Proof/Machine/CmpOps.lean ====
section
/-! DEFINITION. Window comparators: initialisation, the filtered path, the trip, configuration writes (R82 to R95), and
the offers every source makes to the tile trigger unit (R188, R189); linear time and stamps (R140, R143, R184). -/

namespace Sys2Proof.Machine

/-! ### Stamps -/

/-- The span of linear time, W = 200 × 2^56 units (R143). -/
def linW : Nat := 200 * 2 ^ 56

/-- The stamp of a linear time: C in bits 63:8, F in bits 7:0 (R143). -/
def stampOf (u : Int) : Nat := let n := (u % (linW : Int)).toNat; (n / 200) <<< 8 + n % 200

/-- The linear time of a stamp. -/
def linOf (stamp : Nat) : Nat := 200 * (stamp / 256) + stamp % 256

/-- A difference of linear times reduced to (−W/2, W/2] (R143). -/
def linDiff (a b : Int) : Int := let d := (a - b) % (linW : Int); if (linW : Int) < 2 * d then d - linW else d

/-- F0 = floor(e_q) of a unit's table (R140); a unit without a histogram has the ideal line. -/
def Timing.fine (k : Timing) (q : Nat) : Nat :=
  if k.hist = [] then q
  else
    let below := (k.hist.take q).foldl (· + ·) 0
    (200 * (2 * below + k.hist.getD q 0)) / (2 * 262144)

/-- Corrected linear epoch time of bin q of TDC unit u in the present TCLK (R143, R184), before user offsets. -/
def State.tdcLin (s : State) (u q : Nat) : Int :=
  (200 * s.tb + (s.tim u).fine q + s.getF 0 GLB_SYNC_STATUS.EPH : Nat) - ((s.tim u).tdc : Int)

/-- The linear epoch time of this TCLK edge. -/
def State.linNow (s : State) : Nat := 200 * s.tb + s.getF 0 GLB_SYNC_STATUS.EPH

/-- Corrected linear epoch time of a comparator edge of unit u in bin q: the line that observes the pin, and u's user offset (R143, R149, R184). -/
def State.compLin (s : State) (u q : Nat) : Int :=
  s.tdcLin (if u < 1024 then s.phys u else u) q - signed 12 (s.getF (feB u) CHN_TIM_UOFS.STB)

/-! ### Offers (R188) -/

/-- Local unit number of front-end u in its tile: channels 0 to 127, shades 128 to 131. -/
def localUnit (u : Nat) : Nat := if u < 1024 then u % 128 else 128 + (u - 1024) % 4

/-- Epoch time in fine steps of an instant frac steps into the present TCLK: 200 × TB + EPH (R184, R188). -/
def State.stampNow (s : State) (frac : Nat) : Nat := 200 * s.tb + s.getF 0 GLB_SYNC_STATUS.EPH + frac

/-- Slot n of tile t is met by a source of its kind, unit and code (R188): a range with LAST below FIRST names only FIRST. -/
def State.slotMet (s : State) (t n kind unit code : Nat) : Bool :=
  let c := tileBase t + 8 * n
  let first := s.getF c TRG_SLOT_CFG.FIRST
  let inRange := unit == first || (decide (kind ≤ 3) && decide (first ≤ unit ∧ unit ≤ s.getF c TRG_SLOT_CFG.LAST))
  let codeOk := if kind = 5 then s.getF c TRG_SLOT_CFG.LEDGE == code
    else kind != 3 || ((Nat.xor code (s.getF c TRG_SLOT_CODE.CODE)) &&& s.getF c TRG_SLOT_CODE.MASK) == 0
  s.isSet c TRG_SLOT_CFG.EN && s.getF c TRG_SLOT_CFG.KIND == kind && inRange && codeOk

/-- A slot takes an offer; of several sources the lowest is kept (R189). -/
def Trig.take (g : Trig) (o : Offer) : Trig :=
  match g.offers.find? (fun x => x.slot = o.slot) with
  | none => { g with offers := g.offers ++ [o] }
  | some x => if o.unit < x.unit then { g with offers := g.offers.map fun x => if x.slot = o.slot then o else x } else g

/-- The trigger sample, one ECLK, of the present moment, by the uptime of the ECLK edge that begins it (R15, R189). [DEDUCED, log entry 42] -/
def State.trigSample (s : State) : Nat := s.uptime + 4 - s.div % 4

/-- Trigger sample n counts for a hold-off in samples, once (R193). -/
def Trig.countSample (g : Trig) (n : Nat) (armed : Bool) : Trig :=
  if g.lastSample = n then g
  else if armed then { g with lastSample := n, later := g.later + 1 } else { g with lastSample := n, hold := g.hold - 1 }

/-- A source of tile t makes an offer: while the unit is ARMED every slot it meets takes it, with others of its trigger sample; later samples only
count for a hold-off in samples (R188, R189, R193). -/
def State.offer (s : State) (t kind unit code tc : Nat) (coarse : Bool) : State :=
  let b := tileBase t
  let met := (List.range 8).filter fun n => s.slotMet t n kind unit code
  let now := s.trigSample
  let g := s.trig t
  if met = [] then s
  else if s.getF b TRG_STATUS.STATE = 2 then
    if g.offers = [] ∨ g.sample = now then
      s.modTrig t fun g => met.foldl (fun g n => g.take ⟨n, unit, tc, coarse⟩) { g with sample := now, lastSample := now, later := 0 }
    else s.modTrig t fun g => g.countSample now true
  else if s.getF b TRG_STATUS.STATE = 3 then s.modTrig t fun g => g.countSample now false
  else s

/-! ### Comparator fields by side: k = 0 low, 1 high -/

def cfEN (k : Nat) : Fld := if k = 0 then CHN_CMP_CFG.EN_LO else CHN_CMP_CFG.EN_HI
def cfREFSEL (k : Nat) : Fld := if k = 0 then CHN_CMP_CFG.REFSEL_LO else CHN_CMP_CFG.REFSEL_HI
def cfFLEN (k : Nat) : Fld := if k = 0 then CHN_CMP_CFG.FLEN_LO else CHN_CMP_CFG.FLEN_HI
def cfFCLK (k : Nat) : Fld := if k = 0 then CHN_CMP_CFG.FCLK_LO else CHN_CMP_CFG.FCLK_HI
def cfPCLR (k : Nat) : Fld := if k = 0 then CHN_CMP_CFG.PCLR_LO else CHN_CMP_CFG.PCLR_HI
def cfTRIP (k : Nat) : Fld := if k = 0 then CHN_CMP_CFG.TRIP_LO else CHN_CMP_CFG.TRIP_HI
def csHIT (k : Nat) : Fld := if k = 0 then CHN_CMP_STATUS.TRIP_LO_HIT else CHN_CMP_STATUS.TRIP_HI_HIT
def csLATCH (k : Nat) : Fld := if k = 0 then CHN_CMP_STATUS.LATCH_LO else CHN_CMP_STATUS.LATCH_HI
def csVALID (k : Nat) : Fld := if k = 0 then CHN_CMP_STATUS.VALID_LO else CHN_CMP_STATUS.VALID_HI
def csFOUT (k : Nat) : Fld := if k = 0 then CHN_CMP_STATUS.FOUT_LO else CHN_CMP_STATUS.FOUT_HI
def csRAW (k : Nat) : Fld := if k = 0 then CHN_CMP_STATUS.RAW_LO else CHN_CMP_STATUS.RAW_HI

/-- The filter length N of FLEN: 0 counts as 1, an even value as the next odd one (R88). -/
def filterN (flen : Nat) : Nat := if flen % 2 = 0 then flen + 1 else flen

/-- A level is comparator k's outside condition: high above, low below (R82). -/
def outside (k : Nat) (level : Bool) : Bool := if k = 0 then !level else level

/-- WINDOW_TRIP's condition ends when no comparator of u holds it any more (R87). -/
def State.cmpCondEnd (s : State) (u k : Nat) : State :=
  if (s.cmp u k).tripped then
    let s := s.modCmp u k fun c => { c with tripped := false }
    if (s.cmp u 0).tripped || (s.cmp u 1).tripped then s
    else
      let (sc, n) := s.faultUnit u
      s.condEnd 0x02 sc n
  else s

/-- After a raw or filtered change: the trip condition held by comparator k ends once both have left it (R87). -/
def State.cmpCheckCond (s : State) (u k : Nat) : State :=
  if outside k (s.cmp u k).raw || outside k (s.isSet (feB u) (csFOUT k)) then s else s.cmpCondEnd u k

/-- The comparators of unit u are in use: a shade's own are not while it serves a channel (R95; during a rotation too). [DESIGN CHOICE, log entry 63] -/
def State.cmpUsed (s : State) (u : Nat) : Bool := decide (u < 1024) || (s.servedBy (u - 1024)).isNone

/-- A trip by comparator k of unit u (R87): rank 1, on the front-end that serves u. -/
def State.cmpTrip (s : State) (u k : Nat) : State :=
  let s := s.modCmp u k fun c => { c with tripped := true }
  let s := s.setF (feB u) (csHIT k) 1
  let v := if u < 1024 then s.phys u else u
  let s := s.tripFe v 0x02
  let s := if u < 1024 then s.abandonRotation u else s
  let (sc, n) := s.faultUnit u
  s.detect 0x02 sc n (1 - k)

/-- The trip gate of comparator k is open (R86). -/
def State.gateOpen (s : State) (u k : Nat) : Bool :=
  s.isSet (feB u) (cfTRIP k) && s.isSet (feB u) (cfEN k) && s.isSet (feB u) (csVALID k) && s.cmpUsed u

/-- Comparator k trips if its gate is open and its trip condition holds: as the gate opens, or as the raw output goes outside (R86); an output
enabled while it stays outside is no new trip. [DESIGN CHOICE, log entry 63] -/
def State.cmpGate (s : State) (u k : Nat) : State :=
  if s.gateOpen u k && outside k (s.cmp u k).raw then s.cmpTrip u k else s

/-- Initialisation of comparator k (R89): analog stage below, history and output 0, latch and VALID clear; a trip's condition ends only if the
outputs so forced have left it. [DESIGN CHOICE, log entry 63] -/
def State.cmpInit (s : State) (u k : Nat) : State :=
  let s := s.setFs (feB u) [(csLATCH k, 0), (csVALID k, 0), (csFOUT k, 0), (csRAW k, 0)]
  let s := s.modCmp u k fun c => { c with raw := false, hist := 0, samples := 0, pclr := false }
  s.cmpCheckCond u k

/-- EN from 1 to 0: sampling stops, history and output 0, VALID clear, RAW held at 0; the latch stands (R89); a trip's condition ends.
[DESIGN CHOICE, log entry 63] -/
def State.cmpOff (s : State) (u k : Nat) : State :=
  let s := s.cmpCondEnd u k
  let s := s.setFs (feB u) [(csVALID k, 0), (csFOUT k, 0), (csRAW k, 0)]
  s.modCmp u k fun c => { c with raw := false, hist := 0, samples := 0 }

/-- One filter sample edge of comparator k (R88 to R91). -/
def State.cmpSample (s : State) (u k : Nat) (x : Bool) : State :=
  let b := feB u
  if ¬ s.isSet b (cfEN k) ∨ ¬ s.cmpUsed u then s
  else
    let n := filterN (s.getF b (cfFLEN k))
    let c := s.cmp u k
    let hist := (2 * c.hist + b2n x) % 2 ^ 15
    let samples := min 15 (c.samples + 1)
    let valid := decide (n ≤ samples)
    let wasValid := s.isSet b (csVALID k)
    let fout := valid && decide ((n + 1) / 2 ≤ popCount n hist)
    let wasOut := outside k (s.isSet b (csFOUT k))
    let isOut := valid && outside k fout
    let s := s.modCmp u k fun c => { c with hist := hist, samples := samples, pclr := false }
    let s := s.setFs b [(csRAW k, b2n x), (csVALID k, b2n valid), (csFOUT k, b2n fout)]
    let s := if c.pclr && s.isSet b (cfPCLR k) then s.setF b (csLATCH k) 0 else s
    let s := if isOut then s.setF b (csLATCH k) 1 else s
    let s := if isOut && !wasOut then
        let tc := if c.coarse then s.stampNow 0 else c.lastOut
        s.offer (tileOf u) (if k = 0 then 1 else 0) (localUnit u) 0 tc c.coarse
      else s
    let s := s.cmpCheckCond u k
    if valid && !wasValid then s.cmpGate u k else s

/-- REFSEL = 1 counts as 0 on a shade, and where a member of the pair is remapped (R85). -/
def State.refselOk (s : State) (u : Nat) : Bool :=
  decide (u < 1024) && !s.isSet (feB u) CHN_FE_STATUS.REMAPPED && !s.isSet (feB (Nat.xor u 1)) CHN_FE_STATUS.REMAPPED

/-- The hysteresis of a HYST code in µV (R84). -/
def hystUv (code : Nat) : Int := [2000, 10000, 25000, 50000].getD code 2000

/-- The raw output of comparator k of unit u with its pin at uv and the partner's at vp, in µV (R82 to R85): above the reference by half the
hysteresis it is 1, below it by as much 0, between them as it was. [DESIGN CHOICE, log entry 58] -/
def State.cmpLevel (s : State) (u k : Nat) (uv vp : Int) : Bool :=
  let b := feB u
  let thr : Int := 20000000 * (s.getF b (if k = 0 then CHN_CMP_THR.LO else CHN_CMP_THR.HI) : Nat) - 7500000 * 16384
  let ref := if s.isSet b (cfREFSEL k) && s.refselOk u then 163840 * vp + (thr - 2500000 * 16384) else 10 * thr
  let d := 2 * (163840 * uv - ref)
  let h := 163840 * hystUv (s.getF b (if k = 0 then CHN_CMP_CFG.HYST_LO else CHN_CMP_CFG.HYST_HI))
  if h < d then true else if d < -h then false else (s.cmp u k).raw

/-- A transition of comparator k's raw output to x in bin q of the TDC line that captures it (R82, R86, R188). -/
def State.cmpRaw (s : State) (u k : Nat) (x : Bool) (q : Nat) (dead : Bool) : State :=
  if ¬ s.isSet (feB u) (cfEN k) ∨ ¬ s.cmpUsed u ∨ x = (s.cmp u k).raw then s
  else
    let coarse := dead || !s.isSet (feB (if u < 1024 then s.phys u else u)) CHN_TIM_STATUS.TLOCK
    let s := s.modCmp u k fun c =>
      { c with raw := x, lastOut := if outside k x then (s.compLin u q % (linW : Int)).toNat else c.lastOut,
               coarse := if outside k x then coarse else c.coarse }
    if outside k x then s.cmpGate u k else s.cmpCheckCond u k

/-- CHN_CMP_CFG takes a new word: what each comparator's changed fields do (R89), then the gates that have opened (R86).  On a shade that serves
a channel the word is only stored (R95). -/
def State.cmpWriteCfg (s : State) (u : Nat) (w : Word) : State :=
  let a := feB u + CHN_CMP_CFG.EN_LO.off
  let old := s.rd a
  let was := [s.gateOpen u 0, s.gateOpen u 1]
  let s := s.wr a (w &&& 0x1FFF1FFF)
  let opened (s : State) (k : Nat) : State := if was.getD k false then s else s.cmpGate u k
  let side (s : State) (k : Nat) : State :=
    let e0 := (cfEN k).get old
    let e1 := (cfEN k).get w
    if e0 = 1 ∧ e1 = 0 then s.cmpOff u k
    else if e1 = 1 ∧ (e0 = 0 ∨ (cfFLEN k).get old ≠ (cfFLEN k).get w ∨ (cfFCLK k).get old ≠ (cfFCLK k).get w ∨
      ((cfREFSEL k).get old ≠ (cfREFSEL k).get w ∧ s.refselOk u)) then s.cmpInit u k
    else s
  if s.cmpUsed u then opened (opened (side (side s 0) 1) 0) 1 else s

/-- CHN_CMP_THR takes a new word; a threshold change initialises nothing (R89, R93). -/
def State.cmpWriteThr (s : State) (u : Nat) (w : Word) : State :=
  s.wr (feB u + CHN_CMP_THR.LO.off) (w &&& 0x3FFF3FFF)

end Sys2Proof.Machine
end

