-- ==== Sys2Proof/Machine/FrontOps.lean ====
section
/-! DEFINITION. Front-ends: enabling, disabling, the safe-value sequence (R40 to R44), target changes (R35), the sine
generator (R50 to R53), the contact check's settings (R47, R48) and the release of a channel (R45, R78, R94, R119, R157). -/

namespace Sys2Proof.Machine

/-! ### Settings -/

/-- The mode that front-end u's registers ask for (R30); a shade has no PAT mode (R55). -/
def State.regMode (s : State) (u : Nat) : Nat :=
  let b := feB u
  let m := effMode (s.getF b CHN_FE_CFG.MODE) (s.getF b CHN_FE_CFG.VSPAN) (s.getF b CHN_FE_CFG.IRANGE)
  if 1024 ≤ u ∧ m = 4 then 0 else m

/-- The clamps of front-end u's registers are loaded; a contact check has its own, ±1.5 V in the ±2.5 V span (R37, R47). -/
def State.loadClamps (s : State) (u : Nat) : State :=
  let b := feB u
  s.modFe u fun f =>
    { f with iclamp := s.getF b CHN_ICLAMP.CODE, vlo := if f.contact.isSome then 819 else s.getF b CHN_VCLAMP.LO,
             vhi := if f.contact.isSome then 3276 else s.getF b CHN_VCLAMP.HI }

/-- Front-end u switches to the setting its registers hold (R41, step 3); a pattern driver that connects is high-Z until the first vector
that drives (R30). -/
def State.loadSetting (s : State) (u : Nat) : State :=
  let m := s.regMode u
  let old := (s.fe u).mode
  let s := (s.loadClamps u).modFe u fun f =>
    { f with mode := m, span := s.getF (feB u) CHN_FE_CFG.VSPAN, range := s.getF (feB u) CHN_FE_CFG.IRANGE }
  if m = 4 ∧ old ≠ 4 then s.modEng u fun e => { e with stat := .z } else s

/-- The output switch of u is closed. -/
def State.feOn (s : State) (u : Nat) : Bool := s.isSet (feB u) CHN_FE_STATUS.EN

def State.seqStep (s : State) (u : Nat) : Nat := s.getF (feB u) CHN_FE_STATUS.SEQ_STEP

/-- Voltage and current modes drive through the output switch (R29). -/
def forces (m : Nat) : Bool := decide (m = 1 ∨ m = 2)

/-! ### Sequences -/

/-- A running sine stops and holds its present code as the target code (R41, R52, R53). -/
def State.sineHold (s : State) (u : Nat) : State :=
  let s' := if s.isSet (feB u) CHN_SINE_CTRL.RUN then s.setF (feB u) CHN_FE_TARGET.CODE (s.fe u).code else s
  s'.sineKill u

/-- A sequence that begins with step 1 of R41. -/
def State.beginStep1 (s : State) (u : Nat) (k : SeqKind) : State :=
  (((s.sineHold u).setF (feB u) CHN_FE_STATUS.SEQ_STEP 1).modFe u fun f => { f with kind := k }).markConv u false true

/-- The enabling sequence: the switch closes at the zero code of the registers' mode, in the 2 µA range (R40); a trip's hold of the pattern
driver is over (R87). -/
def State.beginEnable (s : State) (u : Nat) : State :=
  let s := s.setFs (feB u) [(CHN_FE_STATUS.EN, 1), (CHN_FE_STATUS.DRIVING, 1), (CHN_FE_STATUS.SEQ_STEP, 2)]
  let s := (s.loadSetting u).markConv u false true
  s.modFe u fun f => { f with kind := .enable, drvTrip := false, range := 0, code := zeroCode f.mode f.span }

/-- The code that a sequence ends on: the target register, or the contact check's own. -/
def State.seqTarget (s : State) (u : Nat) : Nat :=
  match (s.fe u).contact with
  | some k => k.target
  | none => s.getF (feB u) CHN_FE_TARGET.CODE

/-- The step of the sequence that u is in ends (R40 to R43); far: the pin was not near its safe value after step 1. -/
def State.endStep (s : State) (u : Nat) (far : Bool) : State :=
  let b := feB u
  let f := s.fe u
  let step := s.seqStep u
  let s1 := if step = 1 ∧ far then s.setF b CHN_FE_STATUS.SLOW 1 else s
  let toZero := s1.modFe u fun f => { f with code := zeroCode f.mode f.span }
  if f.kind = .idle ∨ step = 0 then s
  else if f.kind = .disable then
    let s := toZero.setFs b [(CHN_FE_STATUS.EN, 0), (CHN_FE_STATUS.DRIVING, 0), (CHN_FE_STATUS.SEQ_STEP, 0),
      (CHN_FE_STATUS.LSENSE_FB, 0), (CHN_FE_STATUS.SCL_LIVE, 0), (CHN_FE_STATUS.CLAMP, 0)]
    ((s.modFe u fun f => { f with kind := .idle, mismatch := false }).loadSetting u).outputOpened u
  else if step = 1 then
    (toZero.modFe u fun f => { f with range := 0 }).setF b CHN_FE_STATUS.SEQ_STEP 2
  else if step = 2 then
    let s := s.loadSetting u
    (s.modFe u fun f => { f with code := zeroCode f.mode f.span }).setF b CHN_FE_STATUS.SEQ_STEP 3
  else if step = 3 then s.setF b CHN_FE_STATUS.SEQ_STEP 4
  else
    (s.modFe u fun f => { f with kind := .idle, code := s.seqTarget u }).setF b CHN_FE_STATUS.SEQ_STEP 0

/-- A new target code: at once where mode, span and range stay and no sine runs (R35). -/
def State.setTarget (s : State) (u code : Nat) : State :=
  let s := s.setF (feB u) CHN_FE_TARGET.CODE code
  if s.isSet (feB u) CHN_SINE_CTRL.RUN then s else s.modFe u fun f => { f with code := code }

/-! ### Configuration and enabling by command -/

/-- Word i of a command's six-word setting list, if its WMASK selects it. -/
def Cmd.wordIf (c : Cmd) (i : Nat) : Option Word :=
  if bitB (c.p 0x2C) i then some (BitVec.ofNat 32 (c.p (0x14 + 4 * i))) else none

/-- Word i of a CH_CONFIG block, where its mask holds it, goes to the register of field f of block b, bits m alone. -/
def State.configWord (s : State) (cmd : Cmd) (b i : Nat) (f : Fld) (m : Word) : State :=
  match cmd.wordIf i with
  | some w => s.wr (b + f.off) (w &&& m)
  | none => s

/-- The registers that CH_CONFIG writes for channel c (R249). -/
def State.configRegs (s : State) (cmd : Cmd) (c : Nat) : State :=
  let b := feB (s.phys c)
  let s := s.configWord cmd b 0 CHN_FE_CFG.MODE 0x00CF3007
  let s := s.configWord cmd b 1 CHN_ICLAMP.CODE 0xFFF
  let s := s.configWord cmd b 2 CHN_VCLAMP.LO 0x0FFF0FFF
  let s := s.configWord cmd b 3 CHN_KMON.THRESH 0xFFF
  let s := match cmd.wordIf 4 with | some w => s.cmpWriteCfg c w | none => s
  match cmd.wordIf 5 with | some w => s.cmpWriteThr c w | none => s

/-- Applies CH_CONFIG to channel c (R30, R42, R45, R87, R89): its force words go to the front-end that serves it; new clamps without a new
setting are in force at once. [DESIGN CHOICE, log entry 61] -/
def State.configChannel (s : State) (cmd : Cmd) (c : Nat) : State :=
  let s := (s.yieldRotation c).configRegs cmd c
  let u := s.phys c
  let b := feB u
  let m := s.regMode u
  let s := if m = 4 ∧ bitB (cmd.p 0x2C) 0 then s.modFe u fun f => { f with drvTrip := false } else s
  if s.feOn u then
    let f := s.fe u
    if ¬ forces m then s.beginStep1 u .disable
    else if f.mode ≠ m ∨ f.span ≠ s.getF b CHN_FE_CFG.VSPAN ∨ f.range ≠ s.getF b CHN_FE_CFG.IRANGE then s.beginStep1 u .change
    else s.loadClamps u
  else
    let s := s.loadSetting u
    if bitB (cmd.p 0x2C) 8 ∧ forces m then s.beginEnable u else s

/-- Applies CH_FORCE to channel c (R35, R40, R249). -/
def State.forceChannel (s : State) (cmd : Cmd) (c : Nat) : State :=
  let s := s.yieldRotation c
  let u := s.phys c
  let out := cmd.pf 0x18 1 0
  let on := s.feOn u
  let s := if on then s.setTarget u (cmd.pf 0x14 19 0) else s.setF (feB u) CHN_FE_TARGET.CODE (cmd.pf 0x14 19 0)
  if out = 1 ∧ ¬ on ∧ forces (s.regMode u) then s.beginEnable u
  else if out = 2 ∧ on then s.beginStep1 u .disable
  else s

/-- The front-ends of a list of channels that are in a sequence now. -/
def State.inSequence (s : State) (cs : List Nat) : List Nat := (cs.map s.phys).filter fun u => s.seqStep u ≠ 0

/-! ### Sine generation (R50 to R53, R186) -/

/-- An entry of tile t's sine table, 20 bits signed (R54). -/
def State.sineEntry (s : State) (t i : Nat) : Int := signed 20 (s.sramN (apgBase t + 0x7C000 + 4 * (i % 4096)) 4)

/-- The code that front-end u's generator makes of accumulator value acc (R50). -/
def State.sineCode (s : State) (u acc : Nat) : Nat :=
  let f := s.fe u
  unsigned 20 ((f.ofs : Int) + roundDiv ((f.amp : Int) * s.sineEntry (tileOf u) (bits acc 31 20)) 524287)

/-- The staged AMP and OFS keep the code in range (R51). -/
def State.sineFits (s : State) (u : Nat) : Bool :=
  let b := feB u
  let a := s.getF b CHN_SINE_AMP.AMP
  let o := s.getF b CHN_SINE_OFS.OFS
  decide (a ≤ o ∧ o + a ≤ 0xFFFFF)

/-- A direct start or apply in FI would not raise the channel's charge (R51). -/
def State.sineChargeOk (s : State) (u : Nat) : Bool :=
  let b := feB u
  (s.fe u).mode != 2 ||
    (let c := if u < 1024 then some u else s.servedBy (u - 1024)
     match c with
     | some c => decide (chargeFI (s.fe u).range (sineDist (s.getF b CHN_SINE_OFS.OFS) (s.getF b CHN_SINE_AMP.AMP)) ≤ s.charge c)
     | none => true)

/-- The generator takes all staged values (R51). -/
def State.sineTake (s : State) (u : Nat) : State :=
  let b := feB u
  s.modFe u fun f => { f with ftw := s.getF b CHN_SINE_FTW.FTW, amp := s.getF b CHN_SINE_AMP.AMP, ofs := s.getF b CHN_SINE_OFS.OFS }

/-- Why a start was not performed. -/
inductive SineStop where
  | ok | range | state | epoch
  deriving DecidableEq, Repr

/-- EN goes from 0 to 1 (R51, R52, R186): the generator loads PHASE0 and takes the staged values, or sets ERR. [DESIGN CHOICE, log entry 11] -/
def State.sineStart (s : State) (u : Nat) (direct : Bool) : State × SineStop :=
  let b := feB u
  let t := tileOf u
  let start := s.getF (tileBase t) TIL_SINESTART_LO.START + 2 ^ 32 * s.getF (tileBase t) TIL_SINESTART_HI.START
  let epochMode := s.isSet b CHN_SINE_CTRL.START_MODE
  let err := s.setF b CHN_SINE_CTRL.ERR 1
  if ¬ (s.feOn u ∧ forces (s.fe u).mode) then (err, .state)
  else if ¬ s.sineFits u then (err, .range)
  else if direct ∧ ¬ s.sineChargeOk u then (err, .range)
  else if epochMode ∧ (¬ s.epochValid ∨ start < s.tb + 512) then (err, .epoch)
  else
    let s := s.setF b CHN_SINE_CTRL.EN 1
    ((s.sineTake u).modFe u fun f => { f with acc := s.getF b CHN_SINE_PHASE0.PHASE0, applyPend := false, zcStop := false, waitEpoch := epochMode, waitUpdate := !epochMode }, .ok)

/-- APPLY while the generator runs (R51). -/
def State.sineApply (s : State) (u : Nat) (direct : Bool) : State × SineStop :=
  if ¬ s.sineFits u ∨ (direct ∧ ¬ s.sineChargeOk u) then (s.setF (feB u) CHN_SINE_CTRL.ERR 1, .range)
  else (s.modFe u fun f => { f with applyPend := true }, .ok)

/-- EN goes from 1 to 0 (R52): the generator stops at once, holding its last code, or runs on to the half-cycle. -/
def State.sineStop (s : State) (u : Nat) : State :=
  let b := feB u
  let f := s.fe u
  let s := s.setF b CHN_SINE_CTRL.EN 0
  if ¬ s.isSet b CHN_SINE_CTRL.RUN then s.modFe u fun f => { f with waitEpoch := false, waitUpdate := false, applyPend := false }
  else if s.isSet b CHN_SINE_CTRL.STOP_ZC then s.modFe u fun f => { f with zcStop := true }
  else ((s.setF b CHN_SINE_CTRL.RUN 0).setF b CHN_FE_TARGET.CODE f.code).modFe u fun f => { f with applyPend := false }

/-- CHN_SINE_CTRL takes a word (R51): by command every field; directly, of an enabled channel only EN, APPLY and STOP_ZC;
ERR is W1C in both. [DESIGN CHOICE, log entry 61] -/
def State.sineCtrl (s : State) (u : Nat) (w : Word) (direct : Bool) : State × SineStop :=
  let b := feB u
  let s := if CHN_SINE_CTRL.ERR.get w = 1 then s.setF b CHN_SINE_CTRL.ERR 0 else s
  let s := s.setF b CHN_SINE_CTRL.STOP_ZC (CHN_SINE_CTRL.STOP_ZC.get w)
  let s := if direct ∧ s.feOn u then s
    else s.setFs b [(CHN_SINE_CTRL.START_MODE, CHN_SINE_CTRL.START_MODE.get w), (CHN_SINE_CTRL.DIV, max 20 (CHN_SINE_CTRL.DIV.get w))]
  let en := s.isSet b CHN_SINE_CTRL.EN
  let en' := CHN_SINE_CTRL.EN.get w = 1
  if en' ∧ ¬ en then s.sineStart u direct
  else if en ∧ ¬ en' then (s.sineStop u, .ok)
  else if en ∧ CHN_SINE_CTRL.APPLY.get w = 1 then s.sineApply u direct
  else (s, .ok)

/-- One update of u's generator (R50, R51, R52): the first outputs PHASE0, later ones take an apply that pends, advance, and
end a stop at the half-cycle; the staged range is checked again, the charge is not. [DESIGN CHOICE, log entries 11 and 61] [DESIGN CHOICE, log entry 11] [DESIGN CHOICE, log entry 61] -/
def State.sineTick (s : State) (u : Nat) : State :=
  let b := feB u
  let f := s.fe u
  if f.waitUpdate then
    (s.setF b CHN_SINE_CTRL.RUN 1).modFe u fun f => { f with waitUpdate := false, code := s.sineCode u f.acc }
  else if ¬ s.isSet b CHN_SINE_CTRL.RUN then s
  else
    let take := f.applyPend && s.sineFits u
    let s := if f.applyPend && !s.sineFits u then s.setF b CHN_SINE_CTRL.ERR 1 else s
    let padj := if take then s.getF b CHN_SINE_PADJ.PADJ else 0
    let s := if take then (s.sineTake u).setF b CHN_SINE_PADJ.PADJ 0 else s
    let acc := (f.acc + (s.fe u).ftw + padj) % 2 ^ 32
    let s := s.modFe u fun f => { f with acc := acc, applyPend := false }
    if f.zcStop && bitB acc 31 != bitB f.acc 31 then
      let ofs := (s.fe u).ofs
      ((s.setF b CHN_SINE_CTRL.RUN 0).setF b CHN_FE_TARGET.CODE ofs).modFe u fun f => { f with zcStop := false, code := ofs }
    else s.modFe u fun f => { f with code := s.sineCode u acc }

/-- The start time of u's tile comes, delta fine steps before this edge (R52, R186). -/
def State.sineEpoch (s : State) (u delta : Nat) : State :=
  let b := feB u
  let f := s.fe u
  if ¬ f.waitEpoch then s
  else
    let acc := (f.acc + (2 * f.ftw * delta + s.getF b CHN_SINE_CTRL.DIV * 6400) / (2 * (s.getF b CHN_SINE_CTRL.DIV * 6400))) % 2 ^ 32
    (s.setF b CHN_SINE_CTRL.RUN 1).modFe u fun f => { f with waitEpoch := false, acc := acc, code := s.sineCode u acc }

/-- Applies CH_SINE to channel c: the staging words, then the control word (R51). -/
def State.sineChannel (s : State) (cmd : Cmd) (c : Nat) : State × SineStop :=
  let s := s.yieldRotation c
  let u := s.phys c
  let b := feB u
  let put (s : State) (i : Nat) (f : Fld) : State :=
    match cmd.wordIf i with | some w => s.setF b f (f.get w) | none => s
  let s := put s 1 CHN_SINE_FTW.FTW
  let s := put s 2 CHN_SINE_PHASE0.PHASE0
  let s := put s 3 CHN_SINE_AMP.AMP
  let s := put s 4 CHN_SINE_OFS.OFS
  let s := put s 5 CHN_SINE_PADJ.PADJ
  match cmd.wordIf 0 with
  | some w => s.sineCtrl u w false
  | none => (s, .ok)

/-! ### The contact check (R47, R48, R49) -/

/-- Test current in µA (CHN_CONTACT_CFG.ITEST). -/
def State.itest (s : State) (c : Nat) : Nat := clampN 1 200 (s.getF (feB (s.phys c)) CHN_CONTACT_CFG.ITEST)

/-- The FI code of ∓ ua / den µA in the 200 µA range; source (POL = 1) reverses the sign; +200 µA takes the highest code. [DESIGN CHOICE, log
entry 61] [DESIGN CHOICE, log entry 61] -/
def contactCode (ua den : Nat) (source : Bool) : Nat :=
  let d := roundDiv ((ua : Int) * 524288) (200 * den)
  unsigned 20 (0x80000 + (if source then min d 0x7FFFF else -d))

/-- Channel c joins command cmd's check: SETCFG is applied, the check's settings replace CHN_FE_CFG (R47); local sense is selected, and for a
remapped channel its shade is checked. [DESIGN CHOICE, log entry 61] -/
def State.contactBegin (s : State) (cmd : Cmd) (c : Nat) : State :=
  let s := s.yieldRotation c
  let u := s.phys c
  let b := feB u
  let s := if bitB (cmd.p 0x18) 0 then s.wr (b + CHN_CONTACT_CFG.RMAX.off) (BitVec.ofNat 32 (cmd.p 0x14) &&& 0x01FFFFFF) else s
  let src := s.isSet b CHN_CONTACT_CFG.POL
  let full := contactCode (s.itest c) 1 src
  let k : Contact := {
    cmd := ⟨cmd.sq, cmd.tag⟩, partner := decide (Nat.xor c 1 ∈ cmd.chans), full := full,
    half := contactCode (s.itest c) 2 src, target := full, savedCfg := s.rd b }
  let s := s.modFe u fun f => { f with contact := some k }
  (s.setFs b [(CHN_FE_CFG.MODE, 2), (CHN_FE_CFG.VSPAN, 0), (CHN_FE_CFG.IRANGE, 2), (CHN_FE_CFG.LSENSE, 0)])

/-- The check leaves front-end u: CHN_FE_CFG is restored, an output still on is disabled (R47, R260). -/
def State.contactLeave (s : State) (u : Nat) : State :=
  match (s.fe u).contact with
  | none => s
  | some k =>
    let s := (s.wr (feB u) k.savedCfg).modFe u fun f => { f with contact := none }
    if s.feOn u then (if (s.fe u).kind = .disable then s else s.beginStep1 u .disable) else s.loadSetting u

/-- Checks whose command has ended leave their front-ends (R44, R260). -/
def State.settleContacts (s : State) : State :=
  s.fes.foldl (fun s e => match e.2.contact with
    | some k => if (s.running? k.cmd opCONTACT).isSome then s else s.contactLeave e.1
    | none => s) s

/-- The outcome of R49 from a channel's own phase and its partner's dL; partner = false: the partner's phase was skipped. -/
def contactOutcome (k : Contact) (dlp : Int) (itest rmax : Nat) : Nat :=
  let ab (x : Int) : Nat := x.natAbs
  let dL := ab (k.vl1 - k.vl2)
  let dO := ab (k.vo1 - k.vo2)
  let dX := if k.partner then ab (k.vx1 - k.vx2) else 0
  let halfX := k.partner && decide (dlp.natAbs ≤ 2 * dX)
  if 1400000 ≤ ab k.vl1 then 1
  else if 2 * dL < 20 * itest then 4
  else if decide (dL ≤ 2 * dO) && halfX then 6
  else if decide (10 * dO < dL) && halfX then 3
  else if 2 * dO < dL then 2
  else if rmax * itest < 10 * ab (k.vl1 - k.vo1) then 5
  else 0

/-! ### Release (R45) -/

/-- Channel c leaves its group; the lowest remaining member leads if c led (R119). -/
def State.leaveGroup (s : State) (c : Nat) : State :=
  let b := chB c
  if ¬ s.isSet b CHN_SEQ_GRP.BOUND then s
  else
    let t := c / 128
    let g := s.getF b CHN_SEQ_GRP.GROUP
    let led := s.isSet b CHN_SEQ_GRP.LEADER
    let s := s.wr (b + CHN_SEQ_GRP.BOUND.off) 0
    if ¬ led then s
    else match s.members t g with
      | [] => s
      | m :: ms =>
        let s := s.setF (chB m) CHN_SEQ_GRP.LEADER 1
        (m :: ms).foldl (fun s x => s.setF (chB x) CHN_SEQ_GRP.LEADCH (m % 128)) s

/-- Returns the registers of front-end block u from offset lo up to hi to their reset words. -/
def State.resetBlock (s : State) (u lo hi : Nat) : State := s.resetRegs fun a => decide (feB u + lo ≤ a ∧ a < feB u + hi)

/-- What CH_RELEASE does once channel c's output is open (R45, R78, R94, R103, R119, R157, R365); CHN_CONTACT_CFG and CHN_CONTACT_RES take their
reset values too. [DESIGN CHOICE, log entry 61] -/
def State.releaseRest (s : State) (c : Nat) : State :=
  let u := s.phys c
  let remapped := s.getF (feB c) CHN_FE_STATUS.REMAPPED
  let s := (s.outputOpened u).sineKill u
  let s := (s.resetBlock u 0 0x58).resetBlock c 0 0x58
  let s := s.setF (feB c) CHN_FE_STATUS.REMAPPED remapped
  let s := (s.modFe u fun _ => {}).modFe c fun _ => {}
  let s := ((s.adcKill c).resetBlock c 0x100 0x180).setF (feB c) CHN_ADC_STATUS.SHD_EXEC remapped
  let s := (s.modTdc c fun d => { d with fifo := [], lostPend := 0 }).setF (feB c) CHN_TIM_STATUS.FIFO 0
  let s := (s.wr (feB c + CHN_TDC_CFG.EN.off) 0).wr (feB c + CHN_TIM_UOFS.STB.off) 0
  let s := ((s.cmpOff c 0).cmpOff c 1).resetBlock c 0x200 0x210
  let s := s.modEng c fun e => { e with stat := .z }
  let s := s.leaveGroup c
  (s.insts.filter fun e => keyScope e.1 = scCHANNEL ∧ keyUnit e.1 = c).foldl (fun s e => s.releaseInst e.1) s

/-- Front-end u's sequence has ended: releases that awaited it go on, commands that awaited only it end (R40, R41). -/
def State.seqEnded (s : State) (u : Nat) : State :=
  if s.seqStep u ≠ 0 then s
  else
    let rel := s.cmds.filter fun c => decide (c.ending = none) && c.started && decide (c.op = opRELEASE ∧ c.stopAsked = none) && decide (u ∈ c.busy)
    let s := rel.foldl (fun s c => (c.chans.filter fun k => s.phys k = u).foldl State.releaseRest s) s
    s.unbusy [opCONFIG, opFORCE, opRELEASE] u

end Sys2Proof.Machine
end

