-- ==== Sys2Proof/Machine/AdcOps.lean ====
section
/-! DEFINITION. Converters: sources and scales (R59, R60), starting, stopping and injecting (R63 to R69), which conversion
runs next (R68, R70, R71). -/

namespace Sys2Proof.Machine

/-! ### Sources and scales -/

/-- The scale of a source in a setting (R60): 0 to 2 span, 3 threshold, 4 reference, 5 + IRANGE current; none where it depends on
a reserved field (R30). -/
def scaleOf (src mode span range : Nat) : Option Nat :=
  let sp := if span ≤ 2 then some span else none
  let cu := if range ≤ 5 then some (5 + range) else none
  match src with
  | 0 => sp | 1 => sp | 2 => sp
  | 3 => cu
  | 4 => if mode = 2 then cu else sp
  | 5 => some 3 | 6 => some 3
  | _ => some 4

/-- The source that is measured: a reserved code, or one whose scale depends on a reserved field, measures GND (R30, R59). -/
def effSrc (src mode span range : Nat) : Nat := if src ≤ 8 ∧ (scaleOf src mode span range).isSome then src else 8

/-- The threshold sources, held or skipped while a channel is rotated (R70). -/
def isThr (src : Nat) : Bool := decide (src = 5 ∨ src = 6)

def State.rotated (s : State) (c : Nat) : Bool := s.isSet (feB c) CHN_FE_STATUS.ROTATED

/-- The front-end whose converter runs the sequence of unit c (R70, R71). -/
def State.adcUnit (s : State) (c : Nat) : Nat :=
  if c < 1024 ∧ (s.rotated c ∨ s.isSet (feB c) CHN_FE_STATUS.REMAPPED) then 1024 + shadeOf c else c

/-- A shade's own sequence is suspended while it serves a channel (R70, R71). -/
def State.adcSuspended (s : State) (u : Nat) : Bool := decide (1024 ≤ u) && (s.servedBy (u - 1024)).isSome

/-! ### Starting a conversion -/

/-- Starts a conversion of unit c: the setting and the flags of its executor are latched (R60, R72). -/
def State.convStart (s : State) (c src gain samp entry : Nat) (inj : Option Inj) (dest : Nat) (limen evt last : Bool) : State :=
  let v := s.adcUnit c
  let f := s.fe v
  let b := feB v
  let k : Conv := {
    inj := inj, entry := entry, src := effSrc src f.mode f.span f.range, gain := if gain ≤ 4 then gain else 0,
    samp := samp, dest := dest, limen := limen, evt := evt, pass := if inj.isSome then 0 else (s.adc c).pass % 64,
    span := f.span, range := f.range, mode := f.mode, seqst := s.seqStep v != 0,
    clamp := s.isSet b CHN_FE_STATUS.CLAMP || s.isSet b CHN_FE_STATUS.SCL_LIVE, exec := v, last := last }
  (s.modAdc c fun a => { a with conv := some k }).adcShow c

/-- A start command's first entry has begun on unit c (R248). -/
def isStart (c : Cmd) : Bool := decide (c.op = opMEASURE) && c.pf 0x14 1 0 == 0
def isStopCmd (c : Cmd) : Bool := decide (c.op = opMEASURE) && c.pf 0x14 1 0 == 1
def isInject (c : Cmd) : Bool := decide (c.op = opMEASURE) && c.pf 0x14 1 0 == 2

/-- The regular sequence of unit c ends (R63, R64). -/
def State.adcEnd (s : State) (c : Nat) : State :=
  let s := (s.modAdc c fun a => { a with running := false, stopPend := false, restart := false }).adcShow c
  (s.unbusyBy isStopCmd c).unbusyBy isStart c

/-- The passes of unit c's sequence; 0 counts as 1 (R63). -/
def State.npass (s : State) (c : Nat) : Nat := atLeast1 (s.getF (feB c) CHN_ADC_CTRL.NPASS)

/-- The entry in hand is the last of the last pass in SINGLE mode. -/
def State.lastEntry (s : State) (c : Nat) : Bool :=
  let a := s.adc c
  decide (s.getF (feB c) CHN_ADC_CTRL.MODE = 1) && decide (s.getF (feB c) CHN_ADC_CTRL.LAST ≤ a.cur) && decide (s.npass c ≤ a.pass + 1)

/-- Moves on to the next entry; the sequence ends after the last pass in SINGLE mode (R63). -/
def State.adcAdvance (s : State) (c : Nat) : State :=
  let a := s.adc c
  if s.lastEntry c then s.adcEnd c
  else if s.getF (feB c) CHN_ADC_CTRL.LAST ≤ a.cur then (s.modAdc c fun a => { a with cur := 0, pass := a.pass + 1 }).adcShow c
  else s.modAdc c fun a => { a with cur := a.cur + 1 }

/-- Every entry of unit c's sequence measures a threshold. -/
def State.thrOnly (s : State) (c : Nat) : Bool :=
  (List.range (s.getF (feB c) CHN_ADC_CTRL.LAST + 1)).all fun i => isThr (s.getF (feB c + 4 * i) CHN_ADC_ENTRY.SRC)

/-- A rotated unit's sequence of threshold entries alone (R70): in SINGLE mode the entries left are skipped without delay and it ends; in CONT mode
there is no end to the skipping: the count saturates and the sequence stays until the handback. [DEDUCED, log entry 64] -/
def State.adcSkipAll (s : State) (c : Nat) : State :=
  let b := feB c
  let n := s.getF b CHN_ADC_CTRL.LAST + 1
  let a := s.adc c
  if s.getF b CHN_ADC_CTRL.MODE = 1 then
    ((s.incSat b CHN_ADC_CNT.SKIP ((s.npass c - a.pass - 1) * n + (n - a.cur))).setRdy c).adcEnd c
  else s.incSat b CHN_ADC_CNT.SKIP 65535

/-- Starts the next regular entry of unit c, skipping threshold entries while it is rotated (R70); a round has no more than 16. -/
def State.adcSearch (s : State) (c : Nat) : Nat → State
  | 0 => s
  | n + 1 =>
    let a := s.adc c
    if ¬ a.running then s
    else
      let b := feB c
      let e := b + 4 * a.cur
      let src := s.getF e CHN_ADC_ENTRY.SRC
      if s.rotated c && isThr src then
        let last := s.lastEntry c
        let s := (s.incSat b CHN_ADC_CNT.SKIP 1).adcAdvance c
        State.adcSearch (if last then s.setRdy c else s) c n
      else
        let s := s.setF b CHN_ADC_STATUS.CUR a.cur
        let s := s.convStart c src (s.getF e CHN_ADC_ENTRY.GAIN) (s.getF e CHN_ADC_ENTRY.SAMP) a.cur none
          (s.getF e CHN_ADC_ENTRY.DEST) (s.isSet e CHN_ADC_ENTRY.LIMEN) (s.isSet e CHN_ADC_ENTRY.EVT) (s.lastEntry c)
        s.unbusyBy isStart c

/-- The regular sequence of unit c goes on. -/
def State.adcRegular (s : State) (c : Nat) : State :=
  if (s.adc c).running && s.rotated c && s.thrOnly c then s.adcSkipAll c else s.adcSearch c 16

/-- Front-end v's converter is at work, for whichever unit. -/
def State.execBusy (s : State) (v : Nat) : Bool :=
  s.adcs.any fun e => match e.2.conv with | some k => k.exec == v | none => false

/-- The conversion that unit c's converter runs next, once that converter has ended any other unit's (R68, R70): after a regular one an injected request, else the next entry; for a rotation
that has registered, one pending request and then none (R70). -/
def State.adcNext (s : State) (c : Nat) (afterInj : Bool) : State :=
  let s := if (s.adc c).hold = 3 then s.handback (shadeOf c) else s
  let a := s.adc c
  if s.adcSuspended c ∨ a.hold = 2 ∨ (s.modAdc c fun a => { a with conv := none }).execBusy (s.adcUnit c) then
    s.modAdc c fun a => { a with conv := none }
  else if a.hold = 1 then
    match a.inj with
    | [] => s.modAdc c fun a => { a with conv := none, hold := 2 }
    | i :: is =>
      let s := s.modAdc c fun a => { a with inj := is, hold := 2 }
      (s.convStart c i.src i.gain i.samp i.tag (some i) 0 false false false).adcRefill c
  else
    match (if afterInj && a.running then none else a.inj.find? fun i => !(s.rotated c && isThr i.src)) with
    | some i =>
      let s := s.modAdc c fun a => { a with inj := a.inj.erase i }
      (s.convStart c i.src i.gain i.samp i.tag (some i) 0 false false false).adcRefill c
    | none =>
      let s := s.modAdc c fun a => { a with conv := none }
      if a.running then s.adcRegular c else s.adcShow c

/-- An idle converter takes up work at once (R68). -/
def State.adcKick (s : State) (c : Nat) : State := if (s.adc c).conv = none then s.adcNext c false else s

/-- Idle converters with work take it up: after a handback, a shade's own sequence at entry 0 (R70); held requests find their places (R69). -/
def State.kickAll (s : State) : State :=
  s.adcs.foldl (fun s e =>
    let a := s.adc e.1
    if e.1 < 1056 ∧ a.conv = none ∧ a.hold = 0 ∧ (a.running ∨ a.inj ≠ [] ∨ a.heldInj ≠ []) then
      (if a.heldInj = [] then s else s.adcRefill e.1).adcKick e.1
    else s) s

/-! ### Requests -/

/-- Shade front-end u is remapped to a channel: it has no sequence of its own (R71). -/
def State.remapServes (s : State) (u : Nat) : Bool := decide (1024 ≤ u) && s.isSet (4 * (u - 1024)) CAL_REMAP.VALID

/-- Starts, or restarts, unit c's sequence (R64); MODE STOP or reserved runs nothing (R63), nor does a shade that is remapped (R71). -/
def State.adcStart (s : State) (c : Nat) : State :=
  let m := s.getF (feB c) CHN_ADC_CTRL.MODE
  if (m ≠ 1 ∧ m ≠ 2) ∨ s.remapServes c then s
  else if (s.adc c).running then s.modAdc c fun a => { a with restart := true }
  else
    let s := s.modAdc c fun a => { a with running := true, pass := 0, cur := 0, stopPend := false, restart := false, inside := true }
    (s.adcShow c).adcKick c

/-- Stops unit c's sequence at the next entry boundary (R64). -/
def State.adcStop (s : State) (c : Nat) : State :=
  let a := s.adc c
  if ¬ a.running then s
  else if a.conv = none then s.adcEnd c
  else s.modAdc c fun a => { a with stopPend := true }

/-- The sequence has begun its first entry, or runs none. -/
def State.adcBegun (s : State) (c : Nat) : Bool :=
  let a := s.adc c
  !a.running || (!a.restart && (match a.conv with | some k => k.inj.isNone | none => false))

/-- Room for one more injected request (R67, R116). -/
def State.adcRoom (s : State) (c : Nat) : Bool := decide ((s.adc c).inj.length + (s.adc c).reserved < 4)

/-- Places a request that there is room for. -/
def State.adcPlace (s : State) (c : Nat) (i : Inj) : State :=
  ((s.modAdc c fun a => { a with inj := a.inj ++ [i] }).adcShow c).adcKick c

/-- A request of a command or of the internal machinery: held while there is no place (R69). -/
def State.adcInjectHeld (s : State) (c : Nat) (i : Inj) : State :=
  if s.adcRoom c then s.adcPlace c i
  else s.modAdc c fun a => { a with heldInj := a.heldInj ++ [{ i with heldAt := s.uptime }] }

/-- The request that a CHN_ADC_INJ word spells. -/
def injOf (w : Word) : Inj :=
  { src := CHN_ADC_INJ.SRC.get w, gain := CHN_ADC_INJ.GAIN.get w, samp := CHN_ADC_INJ.SAMP.get w, tag := CHN_ADC_INJ.TAG.get w }

end Sys2Proof.Machine
end

