-- ==== Sys2Proof/Machine/PacketOps.lean ====
section
/-! DEFINITION. The packet layer of the ports: credits, routes, sending, replay, acknowledgement, what a port that goes down does with
its packets (R301 to R319). -/

namespace Sys2Proof.Machine

/-! ### Credits (R305) -/

/-- The class of a TP: 0 P, 1 N, 2 C. -/
def Tp.cls (t : Tp) : Nat := if t.typ = 0x10 then 0 else if t.typ ∈ [0x11, 0x20, 0x21, 0x50] then 1 else 2

/-- Payload bytes of a TP: MRD and RRD carry none (R297). -/
def Tp.bytes (t : Tp) : Nat := if t.typ = 0x11 ∨ t.typ = 0x21 then 0 else 4 * t.len.toNat

/-- The units a TP needs. -/
def Tp.units (t : Tp) : Nat := (16 + t.bytes + 15) / 16

def Cred.get (k : Cred) (cls : Nat) : Nat := if cls = 0 then k.p else if cls = 1 then k.n else k.c
def Cred.add (k : Cred) (cls u : Nat) : Cred :=
  if cls = 0 then { k with p := (k.p + u) % 65536 } else if cls = 1 then { k with n := (k.n + u) % 65536 }
  else { k with c := (k.c + u) % 65536 }

/-- The units this module advertises. -/
def advUnits : Cred := { p := 256, n := 64, c := 256 }

/-- The transmitter may send a TP. -/
def Port.credit (q : Port) (t : Tp) : Bool :=
  decide ((q.adv.get t.cls + q.upd.get t.cls + 2 * 65536 - q.used.get t.cls - t.units) % 65536 < 32768)

/-! ### Routes (R312, R315) -/

def State.hasId (s : State) : Bool := s.isSet 0 LNK_ID.VALID

/-- The port that TPs to dst leave by, whether or not it is up. -/
def State.route (s : State) (dst : Nat) : Option Nat :=
  if dst = 0x3F then (if s.isSet 0 LNK_RTH.VALID then some (s.getF 0 LNK_RTH.PORT) else none)
  else if dst < 32 then
    let e := bits (s.getF (4 * (dst / 8)) LNK_RT.ENTRIES) (4 * (dst % 8) + 3) (4 * (dst % 8))
    if e / 8 = 1 then some (e % 4) else none
  else none

/-- UP of port p. -/
def State.isUp (s : State) (p : Nat) : Bool := s.isSet (pB p) LNK_P_STATUS.UP

/-- The link to the host is up: an UPSTREAM port with UP = 1. -/
def State.hostLink (s : State) : Bool :=
  (List.range 4).any fun p => s.isSet (0x1000 * p) LNK_P_STATUS.UPSTREAM && s.isSet (0x1000 * p) LNK_P_STATUS.UP

/-- The module has an ID and a route to the host that is up. -/
def State.hostUp (s : State) : Bool :=
  s.hasId && match s.route 0x3F with | some p => s.isUp p | none => false

/-! ### Sending (R304, R305, R308, R317) -/

/-- Where an own packet leaves: its fixed port, else its route; other packets than ENUMC only with an ID. -/
def State.ownPort (s : State) (e : Option Nat × Tp) : Option Nat :=
  match e.1 with
  | some p => some p
  | none => if s.hasId then s.route e.2.dst.toNat else none

/-- The first of a source's packets that may go: the oldest, or a posted packet or completion behind non-posted ones only (R308). [DEDUCED, log entry 21] -/
def pickTp (q : Port) : List Tp → Option Tp
  | [] => none
  | t :: ts =>
    if q.credit t then some t
    else if t.cls = 1 then
      match ts.find? fun x => decide (x.cls ≠ 1) with
      | some x => if q.credit x then some x else none
      | none => none
    else none

/-- The packets of source i that wait for port p: 0 to 3 other ports, 4 the module. -/
def State.waiting (s : State) (p i : Nat) : List Tp :=
  if i = 4 then (s.own.filter fun e => s.ownPort e == some p).map Prod.snd
  else ((s.port p).wait.filter fun e => e.1 == i).map Prod.snd

/-- Port p can send TPs now. -/
def State.canSend (s : State) (p : Nat) : Bool :=
  decide (s.pst p = 5) && (s.port p).init && decide ((s.port p).pend = 0) && decide (s.getF (pB p) LNK_P_STATUS.TX_LS = 0) &&
    decide ((s.port p).replay.length < 64)

/-- The next packet of port p in round robin over its sources, with its source. [DEDUCED, log entry 21] -/
def State.nextTp (s : State) (p : Nat) : Option (Nat × Tp) :=
  let q := s.port p
  (List.range 5).findSome? fun k =>
    let i := (q.served + 1 + k) % 5
    (pickTp q (s.waiting p i)).map fun t => (i, t)

/-- Sends packet t of source i on port p. -/
def State.sendTp (s : State) (p i : Nat) (t : Tp) : State :=
  let q := s.port p
  let out := if i = 4 then { t with src := BitVec.ofNat 6 (s.getF 0 LNK_ID.ID) } else t
  let q := { q with
    replay := q.replay ++ [{ seq := q.seq, from_ := i, tp := out }], seq := (q.seq + 1) % 4096, used := q.used.add t.cls t.units,
    served := i, wait := if i = 4 then q.wait else q.wait.erase (i, t) }
  let s := s.modPort p fun _ => q
  if i = 4 then
    { s with own := match s.own.find? fun e => decide (e.2 = t) && s.ownPort e == some p with | some e => s.own.erase e | none => s.own }
  else s.modPort i fun g => { g with freed := g.freed.add t.cls t.units, since := g.since + t.units }

/-- Sends what can be sent on port p. [DEDUCED, log entry 21] -/
def State.pumpPort (s : State) (p : Nat) : Nat → State
  | 0 => s
  | n + 1 =>
    if s.canSend p then
      match s.nextTp p with
      | some (i, t) => State.pumpPort (s.sendTp p i t) p n
      | none => s
    else s

/-- Every port sends what it can. -/
def State.pump (s : State) : State :=
  if s.own = [] ∧ s.ports.all (fun e => decide (e.2.wait = [])) then s
  else (List.range 4).foldl (fun s p => s.pumpPort p 64) s

/-- A TP is held for lack of credits on port p (R306, PSTAT.CRSTALL). -/
def State.crStall (s : State) (p : Nat) : Bool :=
  decide (s.pst p = 5) && (s.port p).init && decide ((s.port p).replay.length < 64) &&
    (List.range 5).any fun i => (s.waiting p i).any fun t => !(s.port p).credit t

/-! ### Link packets (R301, R303, R306) -/

/-- Sends an ACK (1) or NAK (2): SEQ of the last TP accepted in order. -/
def Port.sendAck (q : Port) (ty : Nat) : Port :=
  { q with acc := 0, ackDue := false, nak := q.nak || decide (ty = 2), lp := some (ty, ((q.exp + 4095) % 4096) <<< 8, 0) }

/-- Sends a CREDIT: INIT until the partner's has come. -/
def Port.sendCredit (q : Port) : Port :=
  let k := if q.init then q.freed else advUnits
  { q with since := 0, lp := some (3, b2n (!q.init) <<< 8 + k.p <<< 16, k.n + k.c <<< 16) }

/-- The replay buffer after an ACK or NAK of seq. -/
def Port.freeUpTo (q : Port) (seq : Nat) : Port :=
  let l := q.replay.filter fun x => decide (2048 ≤ (seq + 4096 - x.seq) % 4096)
  if l.length < q.replay.length then { q with replay := l.map (fun x => { x with tries := 0 }), stuck := 0 } else q

/-- Numbering, replay buffer and credits start anew (R302, R305). -/
def Port.initPackets (q : Port) : Port :=
  { q with seq := 0, replay := [], stuck := 0, exp := 0, nak := false, acc := 0, ackDue := false, init := false, adv := {}, upd := {},
           used := {}, freed := {}, since := 0 }

/-! ### Replies and down ports (R300, R315, R318) -/

/-- A completion without data from this module: status 1 UNSUPPORTED, 2 ABORT, 0 SUCCESS. -/
def Tp.cpl (t : Tp) (status : Nat) : Option Nat × Tp :=
  (none, { typ := 0x30, dst := t.src, src := 0, len := 0, last := true, tag := t.tag, status := BitVec.ofNat 3 status, addr := t.addr, ttl := 63 })

def State.reply (s : State) (e : Option Nat × Tp) : State := { s with own := s.own ++ [e] }

/-- The MRD of a descriptor read. -/
def Read.mrd (r : Read) : Option Nat × Tp :=
  (none, { typ := 0x11, dst := 0x3F, src := 0, len := BitVec.ofNat 11 r.len, tag := BitVec.ofNat 12 r.tag, addr := BitVec.ofNat 48 r.addr, ttl := 63 })

/-- A failed read of host memory is counted (R309): a time-out, or a completion with UNSUPPORTED or ABORT. -/
def State.rdFail (s : State) (tmo : Bool) : State := s.incSat 0 (if tmo then LNK_RDERR.TMO else LNK_RDERR.FAIL) 1

/-- What the packet layer of port p does once UP has fallen (R318). [DESIGN CHOICE, log entry 20] -/
def State.portDown (s : State) (p : Nat) : State :=
  let q := s.port p
  if ¬ q.fell then s
  else
    let mine := (q.replay.filter fun x => decide (x.from_ = 4)).map fun x => ((if x.tp.typ = 0x51 then some p else none), x.tp)
    let again := if s.route 0x3F = some p then
        (s.reads.map Read.mrd).filter fun e => decide (e ∉ mine ∧ e ∉ s.own) else []
    let refused := (q.wait.filter fun e => decide (e.2.cls = 1)).map fun e => e.2.cpl 1
    let s := { s with own := mine ++ again ++ s.own ++ refused }
    let s := q.wait.foldl (fun s e => s.modPort e.1 fun g => { g with freed := g.freed.add e.2.cls e.2.units, since := g.since + e.2.units }) s
    s.modPort p fun g => { g.initPackets with fell := false, wait := [] }

end Sys2Proof.Machine
end

