-- ==== Sys2Proof/Machine/EventOps.lean ====
section
/-! DEFINITION. Event sources and delivery vectors (chapter 14): levels, activation, end of service, target resolution, delivery. -/

namespace Sys2Proof.Machine

/-! ### Levels (R341 to R343, R366) -/

/-- An unacknowledged instance of (scope, unit) is in force (R366). -/
def State.unackAt (s : State) (scope unit : Nat) : Bool :=
  s.insts.any fun e => e.2.force && e.2.unack && decide (keyScope e.1 = scope ∧ keyUnit e.1 = unit)

/-- An unacknowledged instance of a scope is in force. -/
def State.unackScope (s : State) (scope : Nat) : Bool :=
  s.insts.any fun e => e.2.force && e.2.unack && decide (keyScope e.1 = scope)

/-- A latch of front-end u's comparators with its EVT bit (R91). -/
def State.cmpEvent (s : State) (u : Nat) : Bool :=
  (s.isSet (feB u) CHN_CMP_STATUS.LATCH_HI && s.isSet (feB u) CHN_CMP_CFG.EVT_HI) ||
    (s.isSet (feB u) CHN_CMP_STATUS.LATCH_LO && s.isSet (feB u) CHN_CMP_CFG.EVT_LO)

/-- CQ m holds unconsumed entries and reports them (R240). -/
def State.cqEvent (s : State) (m : Nat) : Bool :=
  s.isSet (cqA m) RING_CQ_CFG.EN && s.isSet (cqA m) RING_CQ_CFG.EVT &&
    decide (s.getF (cqA m) RING_CQ_TAIL.TAIL ≠ s.getF (cqA m) RING_CQ_DB.HEAD)

/-- An error flag of a ring is 1. -/
def State.ringError (s : State) : Bool :=
  (List.range 64).any fun n =>
    s.isSet (sqA n) RING_SQ_STATUS.DBERR || s.isSet (sqA n) RING_SQ_STATUS.FETCHERR || s.isSet (sqA n) RING_SQ_STATUS.CFGERR ||
      s.isSet (cqA n) RING_CQ_STATUS.DBERR || s.isSet (cqA n) RING_CQ_STATUS.CFGERR

/-- Level of module source n (R342). -/
def State.lvlModule (s : State) (n : Nat) : Bool :=
  if n < 0x40 then s.cqEvent n
  else if n < 0x44 then (s.getF 0 IRQ_LATCH.LINK).testBit (n - 0x40)
  else if n = 0x44 then s.ringError
  else if n = 0x45 then s.unackScope scMODULE || s.unackScope scPORT
  else if n = 0x46 then s.isSet 0 IRQ_LATCH.STATE
  else if n = 0x47 then s.isSet 0 GLB_STATUS.SVC_REJ
  else if n = 0x48 then s.isSet 0 IRQ_LATCH.CAL
  else if n = 0x49 then s.isSet 0 CAL_STATUS.ARCH_ERR || s.isSet 0 CAL_STATUS.TIME_BACK
  else if n = 0x4A then s.isSet 0 IRQ_LATCH.MC
  else if n = 0x4B then s.isSet 0 IRQ_LATCH.SYNC
  else if 0x80 ≤ n ∧ n < 0xA0 then (s.getF 0 IRQ_SW.SW).testBit (n - 0x80)
  else false

/-- Level of source j of tile t (R343). -/
def State.lvlTile (s : State) (t j : Nat) : Bool :=
  let b := tileBase t
  if j = 0 then s.unackAt scTILE t
  else if j = 1 then s.isSet b TIL_RQ_STATUS.OVF
  else if j = 2 then s.isSet b TIL_RQ_STATUS.WM
  else if j = 3 then s.isSet b TIL_STB_STATUS.OVF || s.isSet b TIL_STB_STATUS.WRAPPED
  else if j = 4 then s.isSet b APG_FL_STATUS.FULL
  else if j = 5 then s.isSet b APG_FL_STATUS.LOSS
  else if j = 6 then (s.getF 0 IRQ_LATCH.FIRE).testBit t
  else if 8 ≤ j ∧ j < 12 then s.cmpEvent (1024 + 4 * t + (j - 8)) || s.unackAt scSHADE (4 * t + (j - 8))
  else if 12 ≤ j ∧ j < 16 then s.isSet (shB (4 * t + (j - 12))) CHN_ADC_STATUS.RDY
  else false

/-- Level of source k of channel c (R341): fault or comparator, program event, measurement ready. -/
def State.lvlChan (s : State) (c k : Nat) : Bool :=
  if k = 0 then s.cmpEvent c || s.unackAt scCHANNEL c
  else if k = 1 then s.isSet (chB c) CHN_SEQ_EVT.PEND
  else s.isSet (chB c) CHN_ADC_STATUS.RDY

/-- Level of source n (R341). -/
def State.lvl (s : State) (n : Nat) : Bool :=
  if n < 0x200 then s.lvlModule n
  else if n < 0x400 then s.lvlTile ((n - 0x200) / 0x40) ((n - 0x200) % 0x40)
  else if n < 0x1000 then s.lvlChan ((n - 0x400) / 3) ((n - 0x400) % 3)
  else false

/-! ### Source states (R345) -/

def srcIDLE : Nat := 0
def srcPEND : Nat := 1
def srcACTIVE : Nat := 2
def srcAGAIN : Nat := 3

def State.srcState (s : State) (n : Nat) : Nat := s.getF (4 * n) IRQ_SMAP.STATE
def State.src (s : State) (n : Nat) : Src := tabGet (fun _ => {}) s.srcs n
def State.modSrc (s : State) (n : Nat) (f : Src → Src) : State := { s with srcs := tabSet (fun _ => {}) s.srcs n (f (s.src n)) }
def State.vec (s : State) (v : Nat) : Vecr := tabGet (fun _ => {}) s.vecs v
def State.modVec (s : State) (v : Nat) (f : Vecr → Vecr) : State := { s with vecs := tabSet (fun _ => {}) s.vecs v (f (s.vec v)) }
def State.vecState (s : State) (v : Nat) : Nat := s.getF (8 * v) IRQ_VEC_TGT.STATE
def State.setVecState (s : State) (v st : Nat) : State := s.setF (8 * v) IRQ_VEC_TGT.STATE st

/-- Sources in one of the states p selects, rising. -/
def State.srcsIn (s : State) (p : Nat → Bool) : List Nat :=
  (s.regs.filter fun e => decide (0x201000 ≤ e.1 ∧ e.1 < 0x205000 ∧ e.1 % 4 = 0) && p (IRQ_SMAP.STATE.get e.2)).map fun e => (e.1 - 0x201000) / 4

/-- Sources of vector v in one of the states p selects. -/
def State.srcsOf (s : State) (v : Nat) (p : Nat → Bool) : List Nat :=
  (s.srcsIn p).filter fun n => s.getF (4 * n) IRQ_SMAP.VECTOR == v

/-- Source n enters PEND, an activation of its vector, whose timer starts where nothing had been counted (R345, R347). -/
def State.activate (s : State) (n : Nat) (again : Bool) : State :=
  let v := s.getF (4 * n) IRQ_SMAP.VECTOR
  let s := (s.setF (4 * n) IRQ_SMAP.STATE srcPEND).modSrc n fun _ => { tb := s.tb % 2 ^ 56, again := again }
  s.modVec v fun x => { x with cnt := x.cnt + 1, ripe := decide (x.cnt ≠ 0) && x.ripe }

/-- End of service of source n (R346). -/
def State.endService (s : State) (n : Nat) : State :=
  let st := s.srcState n
  let en := s.isSet (4 * n) IRQ_SMAP.EN
  if st = srcAGAIN ∧ en then s.activate n true
  else if st = srcACTIVE ∧ en ∧ s.lvl n then s.activate n true
  else if st = srcACTIVE ∨ st = srcAGAIN then (s.setF (4 * n) IRQ_SMAP.STATE srcIDLE).modSrc n fun _ => {}
  else s

/-- A write of IRQ_EOI (R346). -/
def State.eoi (s : State) (w : Word) : State :=
  if IRQ_EOI.VEC.get w = 1 then
    (s.srcsOf (IRQ_EOI.VECTOR.get w) (fun st => decide (2 ≤ st))).foldl State.endService s
  else
    let n := IRQ_EOI.SOURCE.get w
    if 2 ≤ s.srcState n then s.endService n else s.setF 0 IRQ_STATUS.EOIERR 1

/-! ### Vectors (R347) -/

/-- The threshold of vector v is met: by count, by time, or by an earlier evaluation. -/
def State.vecFull (s : State) (v : Nat) : Bool :=
  decide (0 < (s.vec v).cnt) &&
    (decide (atLeast1 (s.getF (8 * v) IRQ_VEC_CFG.COUNT) ≤ (s.vec v).cnt) || (s.vec v).ripe || (s.vec v).keep)

/-- Vector v is enabled, and deliveries may start. -/
def State.vecOn (s : State) (v : Nat) : Bool := s.isSet (8 * v) IRQ_VEC_TGT.EN && s.isSet 0 IRQ_CTRL.EN

/-- Vector v is due, counts, or is empty; a threshold met stays met until it delivers. [DESIGN CHOICE, log entry 39] -/
def State.vecEval (s : State) (v : Nat) : State :=
  let full := s.vecFull v
  let s := if full && !(s.vec v).keep then s.modVec v fun x => { x with keep := true } else s
  if full && s.vecOn v then (if 2 ≤ s.vecState v then s else s.setVecState v 2)
  else
    let st := if (s.vec v).cnt = 0 then 0 else 1
    if s.vecState v = st then s else s.setVecState v st

/-- A level that rises while its source is ACTIVE takes it to ACTIVE_PEND (R345). -/
def State.srcEval (s : State) (n : Nat) : State :=
  let l := s.lvl n
  if (s.src n).prev = l then s
  else
    let s := s.modSrc n fun x => { x with prev := l }
    if l then s.setF (4 * n) IRQ_SMAP.STATE srcAGAIN else s

/-- The evaluations of an ECLK that follow its happenings (R352). [DESIGN CHOICE, log entry 39] -/
def State.settleEvents (s : State) : State :=
  if s.clocked then
    let s := (s.srcsIn (fun st => decide (st = srcACTIVE))).foldl State.srcEval s
    s.vecs.foldl (fun (s : State) (e : Nat × Vecr) => if e.1 < 512 then s.vecEval e.1 else s) s
  else s

/-! ### Targets (R349) -/

def gA (g : Nat) : Nat := 0x40 * g
def State.deliverable (s : State) (g : Nat) : Bool :=
  decide (g < 64) && s.isSet (gA g) IRQ_TGT_CTRL.EN && !s.isSet (gA g) IRQ_TGT_STATE.DOZE

/-- What a due vector's target permits. -/
inductive Plan where
  | slate
  | host (g : Nat) (fb : Bool)
  | wake (g : Nat) (send : Bool)
  | held
  deriving DecidableEq, Repr

/-- The resolution of target T (R349). [DESIGN CHOICE, log entry 39] -/
def State.plan (s : State) (T : Nat) : Plan :=
  if T = 64 ∨ T = 65 then .slate
  else if s.deliverable T then .host T false
  else if T < 64 ∧ s.isSet (gA T) IRQ_TGT_CTRL.EN ∧ s.isSet (gA T) IRQ_TGT_CTRL.WAKEEN then
    .wake T (!s.isSet (gA T) IRQ_TGT_STATE.WAKESENT)
  else if T < 64 ∧ s.deliverable (s.getF (gA T) IRQ_TGT_CTRL.FB) then .host (s.getF (gA T) IRQ_TGT_CTRL.FB) true
  else .held

/-- LOG2 in effect: other values count as 6. -/
def State.evLog2 (s : State) (g : Nat) : Nat :=
  let l := s.getF (gA g) IRQ_TGT_CTRL.LOG2
  if 6 ≤ l ∧ l ≤ 14 then l else 6

/-- Free room of target g's ring in records (R350). -/
def State.evRoom (s : State) (g : Nat) : Nat :=
  2 ^ s.evLog2 g - sub32 (s.getF (gA g) IRQ_TGT_RPROD.COUNT) (s.getF (gA g) IRQ_TGT_RCONS.COUNT)

/-- The ring, message and wake addresses of target g. -/
def State.evBase (s : State) (g : Nat) : Nat :=
  4096 * s.getF (gA g) IRQ_TGT_RBASE_LO.ADDR + 2 ^ 32 * s.getF (gA g) IRQ_TGT_RBASE_HI.ADDR
def State.msgAddr (s : State) (g : Nat) : Nat :=
  4 * s.getF (gA g) IRQ_TGT_MADDR_LO.ADDR + 2 ^ 32 * s.getF (gA g) IRQ_TGT_MADDR_HI.ADDR
def State.wakeAddr (s : State) (g : Nat) : Nat :=
  4 * s.getF (gA g) IRQ_TGT_WADDR_LO.ADDR + 2 ^ 32 * s.getF (gA g) IRQ_TGT_WADDR_HI.ADDR

/-- A due vector that waits for a route to the host, or for room in g's ring. -/
def State.vecDue (s : State) (v : Nat) : Bool := decide (2 ≤ s.vecState v) && s.vecOn v
def State.vecTarget (s : State) (v : Nat) : Nat := s.getF (8 * v) IRQ_VEC_TGT.TGT

/-- IRQ_STATUS.LINKWAIT (R353). -/
def State.linkWait (s : State) : Bool :=
  !s.hostUp && s.vecs.any fun e => s.vecDue e.1 && match s.plan (s.vecTarget e.1) with
    | .host _ _ => true
    | .wake _ send => send
    | _ => false

/-- IRQ_TGTg_STATE.RFULL (R349). -/
def State.rFull (s : State) (g : Nat) : Bool :=
  decide (s.evRoom g = 0) && s.vecs.any fun e => s.vecDue e.1 && match s.plan (s.vecTarget e.1) with
    | .host h _ => decide (h = g)
    | _ => false

/-! ### The delivery (R350, R351) -/

/-- The record of source n, the k-th of target g's ring. [DESIGN CHOICE, log entry 60] -/
def State.record (s : State) (n v g k T : Nat) (fb held : Bool) : List Byte :=
  let w := n + v <<< 12
  let w := w + b2n (s.lvl n) <<< 21
  let w := w + b2n (s.src n).again <<< 22
  let w := w + b2n held <<< 23
  let w := w + b2n fb <<< 24
  let w := w + b2n (decide (k / 2 ^ s.evLog2 g % 2 = 0)) <<< 31
  leBytes 4 w ++ leBytes 4 T ++ leBytes 8 (s.src n).tb

/-- Source n is delivered. -/
def State.deliverSrc (s : State) (n : Nat) (slate : Bool) : State :=
  let l := s.lvl n
  (s.setF (4 * n) IRQ_SMAP.STATE srcACTIVE).modSrc n fun _ => { prev := l, slate := slate }

/-- Vector v enters WAKE (3) or HELD (4). -/
def State.vecPark (s : State) (v st : Nat) : State := (s.modVec v fun x => { x with held := true }).setVecState v st

/-- Vector v after a delivery: the number of its sources still PEND, which lack of room has left. -/
def State.vecAfter (s : State) (v left : Nat) : State :=
  (s.modVec v fun _ => { cnt := left, keep := decide (left ≠ 0) }).setVecState v (if left = 0 then 0 else 2)

/-- Delivers vector v to host target g (R350). -/
def State.deliverHost (s : State) (v g T : Nat) (fb : Bool) : State :=
  let all := s.srcsOf v (fun st => decide (st = srcPEND))
  let now := all.take (s.evRoom g)
  let held := (s.vec v).held
  let r := s.getF (gA g) IRQ_TGT_RPROD.COUNT
  let size := 2 ^ s.evLog2 g
  let s := (List.range now.length).foldl (fun (s : State) i =>
    let k := (r + i) % 2 ^ 32
    let n := now.getD i 0
    (s.hostWrite (s.evBase g + 16 * (k % size)) (s.record n v g k T fb held)).deliverSrc n false) s
  let s := s.setF (gA g) IRQ_TGT_RPROD.COUNT (r + now.length)
  let s := s.hostSet (s.evBase g + 16 * size) 4 (s.getF (gA g) IRQ_TGT_RPROD.COUNT)
  let s := if s.isSet (gA g) IRQ_TGT_CTRL.MSGEN then
      s.hostSet (s.msgAddr g) 4 (s.getF (gA g) IRQ_TGT_MDATA.DATA / 512 * 512 + v)
    else s
  s.vecAfter v (all.length - now.length)

/-- Delivers vector v to a Slate core: records in supervisor memory that the host does not see (R349). -/
def State.deliverSlate (s : State) (v : Nat) : State :=
  ((s.srcsOf v (fun st => decide (st = srcPEND))).foldl (fun (s : State) n => s.deliverSrc n true) s).vecAfter v 0

/-- The try of a due vector (R348 to R350); none where nothing changes. -/
def State.tryVec (s : State) (v : Nat) : Option State :=
  let T := s.vecTarget v
  if ¬ s.vecDue v then none
  else match s.plan T with
  | .slate => some (s.deliverSlate v)
  | .host g fb =>
    if ¬ s.hostUp then none
    else if s.evRoom g = 0 then (if s.vecState v = 2 then none else some (s.setVecState v 2))
    else some (s.deliverHost v g T fb)
  | .wake g send =>
    if send then
      (if s.hostUp then
        some (((s.hostSet (s.wakeAddr g) 4 (s.getF (gA g) IRQ_TGT_WDATA.DATA)).setF (gA g) IRQ_TGT_STATE.WAKESENT 1).vecPark v 3)
       else none)
    else if s.vecState v = 3 then none else some (s.vecPark v 3)
  | .held => if s.vecState v = 4 then none else some ((s.incSat 0 IRQ_HELD.COUNT 1).vecPark v 4)

/-- One delivery, in round robin over the vectors (R348). [DESIGN CHOICE, log entry 39] -/
def State.deliverNext (s : State) : State :=
  match (List.range 512).findSome? fun k => let v := (s.vecLast + 1 + k) % 512; (s.tryVec v).map fun x => (v, x) with
  | some (v, x) => { x with vecLast := v }
  | none => s

/-! ### Writes of the host (R345, R349, R350, R355) -/

/-- IRQ_SMAPs written with w (R345). -/
def State.smapWrite (s : State) (n : Nat) (w : Word) : State :=
  let b := 4 * n
  let s := s.setF b IRQ_SMAP.EN (IRQ_SMAP.EN.get w)
  if s.srcState n = srcIDLE then s.setF b IRQ_SMAP.VECTOR (IRQ_SMAP.VECTOR.get w)
  else if s.getF b IRQ_SMAP.VECTOR = IRQ_SMAP.VECTOR.get w then s
  else s.setF 0 IRQ_STATUS.CFGIGN 1

/-- IRQ_VECv_CFG written with w: a running timer meets the new TIME. [DESIGN CHOICE, log entry 39] -/
def State.vecCfg (s : State) (v : Nat) (w : Word) : State :=
  let longer := atLeast1 (s.getF (8 * v) IRQ_VEC_CFG.TIME) < atLeast1 (IRQ_VEC_CFG.TIME.get w)
  let s := s.setFs (8 * v) [(IRQ_VEC_CFG.COUNT, IRQ_VEC_CFG.COUNT.get w), (IRQ_VEC_CFG.TIME, IRQ_VEC_CFG.TIME.get w)]
  if longer ∧ (s.vec v).ripe then s.modVec v fun x => { x with ripe := false } else s

/-- IRQ_TGTg_CTRL written with w: its other fields only while EN = 0; EN from 0 to 1 zeroes the counts (R350, R355). [DEDUCED, log entry 40] -/
def State.tgtCtrl (s : State) (g : Nat) (w : Word) : State :=
  let b := gA g
  let en := s.isSet b IRQ_TGT_CTRL.EN
  let others : List Fld := [IRQ_TGT_CTRL.MSGEN, IRQ_TGT_CTRL.WAKEEN, IRQ_TGT_CTRL.FB, IRQ_TGT_CTRL.LOG2]
  let s := if ¬ en then s.setFs b (others.map fun f => (f, f.get w))
    else if others.any (fun f => decide (f.get w ≠ s.getF b f)) then s.setF 0 IRQ_STATUS.CFGIGN 1 else s
  let s := s.setF b IRQ_TGT_CTRL.EN (IRQ_TGT_CTRL.EN.get w)
  if ¬ en ∧ IRQ_TGT_CTRL.EN.get w = 1 then s.setFs b [(IRQ_TGT_RPROD.COUNT, 0), (IRQ_TGT_RCONS.COUNT, 0)] else s

/-- IRQ_TGTg_STATE written with w (R349): DOZE; writing 1 clears WAKESENT. -/
def State.doze (s : State) (g : Nat) (w : Word) : State :=
  let d := IRQ_TGT_STATE.DOZE.get w
  let s := s.setF (gA g) IRQ_TGT_STATE.DOZE d
  if d = 1 then s.setF (gA g) IRQ_TGT_STATE.WAKESENT 0 else s

/-- IRQ_TGTg_RBASE_LO or _HI (field f) written with w: only while EN = 0 (R355). [DEDUCED, log entry 40] -/
def State.rbase (s : State) (g : Nat) (f : Fld) (w : Word) : State :=
  if s.isSet (gA g) IRQ_TGT_CTRL.EN then s.setF 0 IRQ_STATUS.CFGIGN 1 else s.setF (gA g) f (f.get w)

/-- IRQ_TGTg_RCONS written with w (R350). -/
def State.rcons (s : State) (g : Nat) (w : Word) : State :=
  if sub32 (s.getF (gA g) IRQ_TGT_RPROD.COUNT) w.toNat ≤ 2 ^ s.evLog2 g then s.setF (gA g) IRQ_TGT_RCONS.COUNT w.toNat
  else s.setF 0 IRQ_STATUS.CFGIGN 1

end Sys2Proof.Machine
end

