-- ==== Sys2Proof/Machine/Settle.lean ====
section
/-! DEFINITION. What follows every happening in its own cycle, and the outcome of a meaning. -/

namespace Sys2Proof.Machine

/-- Contact checks that have ended leave their front-ends, idle converters take up work, charges are returned, READY and ACTIVE are settled,
event
sources and vectors are evaluated, packets are sent. [DEDUCED, log entry 55] -/
def State.settled (s : State) : State := s.settleContacts.kickAll.settleCharge.settle.settleEvents.pump

/-- One TCLK passes with no command waiting (log entry 2): the time base counts while the root PLL is locked (R142), and
the dividers run on from their release (R15). [DEDUCED, log entry 42] -/
def State.tick (s : State) : State :=
  { s with uptime := s.uptime + 1, tb := if s.clocked then (s.tb + 1) % 2 ^ 56 else s.tb, div := if s.clocked then (s.div + 1) % 128 else s.div }

/-- The outcome of a meaning: the next state, settled. [DEDUCED, log entry 55] -/
def done (s : State) : Res := .next s.settled

end Sys2Proof.Machine
end

