-- ==== Sys2Proof/Machine/TrigOps.lean ====
section
/-! DEFINITION. The tile trigger unit: arming, firing, hold-off, capture records and their dump (R187 to R201). -/

namespace Sys2Proof.Machine

/-! ### Segments -/

def State.capStart (s : State) (t : Nat) : Nat :=
  capBase t + (s.getF (tileBase t) TIL_CAP_PART.RQSZ + s.getF (tileBase t) TIL_CAP_PART.STBSZ) * 65536

def State.nseg (s : State) (t : Nat) : Nat := s.getF (tileBase t) TRG_CTRL.NSEGM1 + 1
def State.segRec (s : State) (t : Nat) : Nat := s.getF (tileBase t) TRG_SEGREC.COUNT
def State.post (s : State) (t : Nat) : Nat := s.getF (tileBase t) TRG_CAP_POST.POST

/-- TRG_SEGREC follows the partition and the number of segments (R197). -/
def State.setSegRec (s : State) (t : Nat) : State :=
  let b := tileBase t
  let units := 32 - s.getF b TIL_CAP_PART.RQSZ - s.getF b TIL_CAP_PART.STBSZ
  s.setF b TRG_SEGREC.COUNT (units * 65536 / 8 / s.nseg t)

/-- The lanes enabled: EN with a unit of the tile (R204). -/
def State.laneOn (s : State) (t n : Nat) : Bool :=
  s.isSet (tileBase t + 4 * n) TRG_CAP_LANE.EN && decide (s.getF (tileBase t + 4 * n) TRG_CAP_LANE.UNIT ≤ 131)

def State.lane0 (s : State) (t : Nat) : Option Nat := (List.range 8).find? fun n => s.laneOn t n

/-- The present segment closes (R197). -/
def State.segClose (s : State) (t : Nat) : State :=
  match (s.trig t).cur with
  | none => s
  | some g =>
    let n := g.count
    let s := s.modTrig t fun x => { x with segs := x.segs ++ [{ g with count := n }], cur := none, left := none, wr := 0, tail := [] }
    s.setF (tileBase t) TRG_STATUS.SEGS (s.trig t).segs.length

/-- The ACLK of the present moment, by its place among the dividers' periods (R15). -/
def State.aclkNow (s : State) : Nat := s.uptime + 32 - s.div % 32

/-- One record enters the capture (R195, R197): into the present segment's ring, before those of higher lanes that came in its ACLK; after the
trigger point it counts to POST. [DESIGN CHOICE, log entry 67] -/
def State.capPush (s : State) (t lane w : Nat) : State :=
  let g := s.trig t
  let st := s.getF (tileBase t) TRG_STATUS.STATE
  let n := s.segRec t
  if ¬ (st = 2 ∨ st = 3) ∨ s.nseg t ≤ g.segs.length ∨ n = 0 then s
  else
    let slot (i : Nat) : Nat := s.capStart t + (g.segs.length * n + i % n) * 8
    let tail := if g.aclk = s.aclkNow then g.tail else []
    let k := min (n - 1) (tail.filter fun l => decide (lane < l)).length
    let now := s.aclkNow
    let s := (List.range k).foldl (fun s i => s.sramSet (slot (g.wr - i)) 8 (s.sramN (slot (g.wr - i - 1)) 8)) s
    let s := s.sramSet (slot (g.wr - k)) 8 w
    let s := s.modTrig t fun g => { g with
      wr := g.wr + 1, aclk := now, tail := tail.take (tail.length - k) ++ lane :: tail.drop (tail.length - k), cur := g.cur.map fun c => { c with count := c.count + 1 } }
    match g.left with
    | none => s
    | some k => if k ≤ 1 then s.segClose t else s.modTrig t fun g => { g with left := some (k - 1) }

/-- The module pulses TRIG line n for 8 ECLK that begin at an uptime (R192, R200, R201). -/
def State.pulse (s : State) (n start : Nat) : State := { s with pulses := tabSet (fun _ => 0) s.pulses n (start + 32) }

/-- Line n carries a pulse of this module now. -/
def State.pulsing (s : State) (n : Nat) : Bool := decide (s.uptime < tabGet (fun _ => 0) s.pulses n)

/-- The level to which this module drives TRIG line n: its pulse as OUTPUT or FIRE, its masters' arm as ARM (R191, R200). [DESIGN CHOICE, log entry 67] -/
def State.lineDriven (s : State) (n : Nat) : Bool :=
  let d := n / 2 + 1
  (s.lineFunc n == 2 && s.pulsing n) || (s.lineFunc n == 3 && s.domLines d &&
    (s.pulsing n || (n % 2 == 0 && (List.range 8).any fun t => decide (s.trigDom t = d) && (s.trig t).arm)))

/-- Every OUTPUT line of tile t pulses from its TF (R200). [DESIGN CHOICE, log entry 67] -/
def State.outPulses (s : State) (t : Nat) : State :=
  ((List.range 4).filter fun n => s.lineFunc n == 2 && bits (s.getF 0 GLB_TRIG_CFG.LINES) (8 * n + 6) (8 * n + 4) == t).foldl
    (fun s n => s.pulse n s.uptime) s

/-- A trigger is recorded in the present segment, FIRED is set, fires are counted, the hold-off starts (R192, R193, R197). [DESIGN CHOICE, log entry 67] -/
def State.trigRecord (s : State) (t : Nat) (r : Seg) : State :=
  let b := tileBase t
  let g := s.trig t
  let keep := s.segRec t - s.post t
  let pre := min g.wr keep
  let n := s.segRec t
  let r :=
    { r with pre := pre, short := decide (g.wr < keep), first := (g.wr - pre) % atLeast1 n, count := pre, gen := s.gen, lane0 := s.lane0 t,
             eph := s.getF 0 GLB_SYNC_STATUS.EPH, base := s.capStart t + g.segs.length * n * 8, size := n }
  let s := s.modTrig t fun g =>
    { g with cur := some r, left := some (s.post t), offers := [], later := 0, hold := s.getF b TRG_HOLDOFF.HOLD - g.later }
  let s := (((s.outPulses t).setFs b [(TRG_STATUS.FIRED, 1), (TRG_STATUS.STATE, 3)]).incWrap b TRG_FIRECNT.COUNT 1)
  let s := (s.setF 0 IRQ_LATCH.FIRE (setBit (s.getF 0 IRQ_LATCH.FIRE) t true)).fireEngines t
  if (s.lane0 t).isNone ∨ s.post t = 0 then s.segClose t else s

/-- A fire of its domain reaches tile t (R189, R192, R193): an ARMED unit records it, absorbs it into a local condition of the same sample, or, having
met one in an earlier sample, only counts its sample, as in a hold-off. [DESIGN CHOICE, log entry 67] -/
def State.fireReceive (s : State) (t tp : Nat) : State :=
  let st := s.getF (tileBase t) TRG_STATUS.STATE
  let now := s.trigSample
  if st = 2 then
    if (s.trig t).offers = [] then
      (s.modTrig t fun g => { g with lastSample := now, later := 0 }).trigRecord t { tp := tp, tc := tp, rcvd := true }
    else s.modTrig t fun g => g.countSample now true
  else if st = 3 then s.modTrig t fun g => g.countSample now false
  else s

/-- Tile t's unit fires at TF, this edge (R189, R192): its own record, then the other units of its domain, here and by the FIRE line. -/
def State.trigFire (s : State) (t : Nat) : State :=
  let g := s.trig t
  match (List.range 8).findSome? fun n => g.offers.find? fun o => o.slot = n with
  | none => s
  | some o =>
    let cause := g.offers.foldl (fun m o => setBit m o.slot true) 0
    let tp := stampOf s.linNow
    let kind := s.getF (tileBase t + 8 * o.slot) TRG_SLOT_CFG.KIND
    let s := s.trigRecord t { tp := tp, tc := stampOf o.tc, cause := cause, pslot := o.slot, pkind := kind, punit := o.unit, coarse := o.coarse }
    let d := s.trigDom t
    if d = 0 then s
    else
      let s := if s.domLines d then s.pulse (2 * d - 1) s.uptime else s
      ((List.range 8).filter fun x => x ≠ t ∧ s.trigDom x = d).foldl (fun s x => s.fireReceive x tp) s

/-- Units of domain d that wait in PREP enter ARMED while the domain's arm is present (R191). -/
def State.domArmed (s : State) (d : Nat) : State :=
  if s.domArm d then (List.range 8).foldl (fun s t =>
    if s.trigDom t = d ∧ s.getF (tileBase t) TRG_STATUS.STATE = 1 then s.setF (tileBase t) TRG_STATUS.STATE 2 else s) s
  else s

/-- TRIG_ARM on tile t (R190, R191). -/
def State.trigArm (s : State) (t : Nat) (r : CmdRef) : State :=
  let b := tileBase t
  let d := s.trigDom t
  let master := s.isSet b TRG_CTRL.MASTER
  let s := s.setFs b [(TRG_STATUS.SEGS, 0), (TRG_STATUS.FIRED, 0), (TRG_FIRECNT.COUNT, 0)]
  let lo := s.capStart t
  let s := s.sramClear fun a => decide (lo ≤ a ∧ a < capBase t + 0x200000)
  let s := s.modTrig t fun _ => { run := some r, arm := d ≠ 0 && master }
  let s := s.setF b TRG_STATUS.STATE (if d = 0 ∨ master ∨ s.domArm d then 2 else 1)
  if d = 0 then s else s.domArmed d

/-! ### Capture of results (R195, R196) -/

/-- One capture record (R196). -/
def capWord (ts : Nat) (shade : Bool) (lane : Nat) (ovr seqst clamp : Bool) (mm entry value : Nat) : Nat :=
  (ts % 2 ^ 33) <<< 31 + b2n shade <<< 30 + lane <<< 27 + b2n ovr <<< 26 + b2n seqst <<< 25 + b2n clamp <<< 24 + mm <<< 22 +
    entry <<< 18 + value

/-- Lane n of tile t takes a regular result (R196): as one record, or into its interval's minimum and maximum. -/
def State.laneTake (s : State) (t n : Nat) (r : Result) : State :=
  let k := r.conv
  let shade := decide (1024 ≤ k.exec)
  let decn := s.getF (tileBase t) TRG_CAP_CTRL.DECN
  if decn ≤ 1 then s.capPush t n (capWord k.hold shade n r.ovr k.seqst k.clamp 0 k.entry r.value)
  else
    let a := tabGet (fun _ => ({} : LaneAcc)) (s.trig t).lanes n
    let a : LaneAcc :=
      if a.n = 0 then ⟨1, k.hold, k.entry, r.value, r.value, r.ovr, k.seqst, k.clamp, shade⟩
      else ⟨a.n + 1, a.ts, a.entry, min a.min r.value, max a.max r.value, a.ovr || r.ovr, a.seqst || k.seqst, a.clamp || k.clamp, a.shade⟩
    let keep (x : LaneAcc) (s : State) : State := s.modTrig t fun g => { g with lanes := tabSet (fun _ => {}) g.lanes n x }
    if a.n < decn then keep a s
    else
      let s := keep {} s
      let s := s.capPush t n (capWord a.ts a.shade n a.ovr a.seqst a.clamp 2 a.entry a.min)
      s.capPush t n (capWord a.ts a.shade n a.ovr a.seqst a.clamp 3 a.entry a.max)

/-- Every lane that names a unit and entry takes its regular result while the unit records (R195). -/
def State.capture (s : State) (t unit : Nat) (r : Result) : State :=
  if r.conv.inj.isSome then s
  else if ¬ (s.getF (tileBase t) TRG_STATUS.STATE = 2 ∨ s.getF (tileBase t) TRG_STATUS.STATE = 3) then s
  else (List.range 8).foldl (fun s n =>
    let b := tileBase t + 4 * n
    if s.laneOn t n && s.getF b TRG_CAP_LANE.UNIT == unit && (s.getF b TRG_CAP_LANE.ENTRIES).testBit r.conv.entry then s.laneTake t n r
    else s) s

/-! ### Dumps (R198, R199) -/

/-- The records of a closed segment, oldest first. -/
def State.segWords (s : State) (g : Seg) : List Nat :=
  (List.range g.count).map fun j => s.sramN (g.base + (g.first + j) % atLeast1 g.size * 8) 8

/-- t_k − u_TP of a record, from the low bits of its hold edge (R196, R198). -/
def recOffset (g : Seg) (w : Nat) : Int :=
  200 * signed 33 (bits w 63 31 + 2 ^ 33 - g.tp / 256 % 2 ^ 33) + g.eph - (g.tp % 256 : Nat)

/-- KIDX and FRAC of a segment (R198): the last lane-0 record at or before TP and the next; none where either is missing. -/
def segFrac (g : Seg) (ws : List Nat) : Option (Nat × Nat) :=
  match g.lane0 with
  | none => none
  | some l =>
    let rs := (ws.zipIdx.filter fun e => bits e.1 29 27 = l ∧ (bits e.1 23 22 = 0 ∨ bits e.1 23 22 = 2))
    let before := rs.filter fun e => recOffset g e.1 ≤ 0
    let after := rs.filter fun e => 0 < recOffset g e.1
    match before.getLast?, after.head? with
    | some k, some n =>
      let a := -(recOffset g k.1)
      let d := recOffset g n.1 + a
      some (k.2, (65536 * a / d).toNat)
    | _, _ => none

/-- The trigger record of a segment (R198). -/
def segRecord (g : Seg) (ws : List Nat) : List Byte :=
  let f := segFrac g ws
  let w2 := g.cause + b2n g.rcvd <<< 8 + g.pslot <<< 9 + g.pkind <<< 12 + b2n g.coarse <<< 15 + g.punit <<< 16 + b2n f.isNone <<< 24 +
    b2n g.short <<< 25 + g.pre <<< 32
  let w3 := (f.getD (0, 0)).1 + (f.getD (0, 0)).2 <<< 32 + g.gen <<< 48
  leBytes 8 g.tp ++ leBytes 8 g.tc ++ leBytes 8 w2 ++ leBytes 8 w3

/-- A closed segment as it is dumped. -/
def State.segDump (s : State) (g : Seg) : List Byte :=
  let ws := s.segWords g
  segRecord g ws ++ ws.flatMap (leBytes 8)

/-- Where the oldest record of tile t's stamp buffer lies, how many it holds, and its size (R147). -/
def State.stbSize (s : State) (t : Nat) : Nat := s.getF (tileBase t) TIL_CAP_PART.STBSZ * 4096
def State.stbStart (s : State) (t : Nat) : Nat := capBase t + s.getF (tileBase t) TIL_CAP_PART.RQSZ * 65536
def State.stbHeld (s : State) (t : Nat) : Nat := min (s.tile t).stb (s.stbSize t)

/-- Record i of the stamp buffer, counted from the oldest it holds. -/
def State.stbRecord (s : State) (t i : Nat) : List Byte :=
  let n := s.stbSize t
  let k := ((s.tile t).stb - s.stbHeld t + i) % atLeast1 n
  memRead sramReset s.sram (s.stbStart t + 16 * k) 16

end Sys2Proof.Machine
end

