-- ==== Sys2Proof/Machine/StampOps.lean ====
section
/-! DEFINITION. Time stamping (R143 to R147) and the Sepia unit (R151 to R155). -/

namespace Sys2Proof.Machine

/-! ### Job parameters (R151, R249) -/

def Cmd.jKind (c : Cmd) : Nat := c.pf 0 4 4
def Cmd.jMode (c : Cmd) : Nat := c.pf 0 6 5
def Cmd.jPeru (c : Cmd) : Bool := bitB (c.p 0) 7
def Cmd.jInj (c : Cmd) : Bool := bitB (c.p 0) 8
def Cmd.jExcl (c : Cmd) : Bool := bitB (c.p 0) 9
def Cmd.jLimen (c : Cmd) : Bool := bitB (c.p 0) 10
def Cmd.jFirst (c : Cmd) : Nat := c.pf 0 23 16
def Cmd.jLast (c : Cmd) : Nat := c.pf 0 31 24
def Cmd.jN (c : Cmd) : Nat := c.p 4 + 1
def Cmd.jEdges (c : Cmd) : Nat := c.pf 8 4 0
def Cmd.jRefEdge (c : Cmd) : Nat := c.pf 8 7 5
def Cmd.jRefUnit (c : Cmd) : Nat := c.pf 8 15 8
def Cmd.jEntries (c : Cmd) : Nat := c.pf 8 31 16

/-- A sample is one of those a job selects. -/
def Cmd.jobTakes (c : Cmd) (m : Sample) : Bool :=
  decide (c.jKind = m.kind) && decide (c.jFirst ≤ m.unit ∧ m.unit ≤ c.jLast) &&
    (if m.kind = 0 then (c.jEdges).testBit m.sel else (c.jInj == m.inj) && (c.jEntries).testBit m.sel)

/-- A stamp is one of a PAIR job's references. -/
def Cmd.jobRef (c : Cmd) (m : Sample) : Bool :=
  decide (c.jKind = 0) && decide (m.kind = 0) && decide (c.jMode = 2) && c.jRefUnit == m.unit && c.jRefEdge == m.sel

/-- The running job in slot n of tile t, with its command. -/
def State.liveJob (s : State) (t n : Nat) : Option (Job × Cmd) :=
  if s.getF (tileBase t + 4 * n) SEP_JOB.STATE ≠ 1 then none
  else match s.job t n with
    | none => none
    | some j => (s.cmd? j.run).map fun c => (j, c)

/-- A running job of tile t selects the sample, as sample or as reference. -/
def State.sepiaWants (s : State) (t : Nat) (m : Sample) : Bool :=
  (List.range 16).any fun n => match s.liveJob t n with | some (_, c) => c.jobTakes m || c.jobRef m | none => false

/-- A running converter job of tile t names a unit (R66). -/
def State.sepiaNames (s : State) (t unit : Nat) : Bool :=
  (List.range 16).any fun n => match s.liveJob t n with
    | some (_, c) => decide (c.jKind = 1) && decide (c.jFirst ≤ unit ∧ unit ≤ c.jLast)
    | none => false

/-- A sample enters Sepia: PAIR jobs note their references (R152). -/
def State.sepiaEnter (s : State) (t : Nat) (m : Sample) : State :=
  let s := s.modTile t fun x => { x with sepia := x.sepia ++ [m] }
  (List.range 16).foldl (fun s n => match s.liveJob t n with
    | some (j, c) => if c.jobRef m then s.setJob t n (some { j with refs := j.refs ++ [m.x] }) else s
    | none => s) s

/-! ### Accumulation (R152, R153, R155) -/

/-- The value x of a sample for a job; none where the sample only sets a first stamp; inr where it is discarded. -/
def jobValue (c : Cmd) (j : Job) (m : Sample) : Option Int × Bool :=
  if m.kind = 1 then (if c.jExcl && m.flagged then (none, true) else (some m.x, false))
  else if m.flagged then (none, true)
  else if c.jMode = 0 then (some (linDiff m.x (c.p64 0x10)), false)
  else if c.jMode = 1 then
    (match j.prevs.find? (fun e => e.1 = m.unit) with | some e => (some (linDiff m.x e.2), false) | none => (none, false))
  else if c.jMode = 2 then
    (match (j.refs.filter fun (r : Nat) => decide (0 ≤ linDiff m.x r)).foldl
        (fun (a : Option Nat) (r : Nat) => match a with | none => some r | some b => if 0 ≤ linDiff r b then some r else a) none with
     | some r => (some (linDiff m.x r), false)
     | none => (none, true))
  else (some (((m.x : Int) - c.p64 0x10) % (atLeast1 (c.p64 0x18) : Nat)), false)

/-- One value enters an accumulator set (R153). -/
def AccSet.add (a : AccSet) (x : Int) (m : Sample) : AccSet :=
  let first := a.count = 0
  let x0 := if first then x else a.x0
  let d := x - x0
  let lim : Int := 2 ^ 39
  let clip := decide (lim ≤ d ∨ d ≤ -lim)
  let d := if lim ≤ d then lim - 1 else if d ≤ -lim then 1 - lim else d
  ⟨a.unit, a.count + 1, x0, a.s1 + d, a.s2 + d.natAbs ^ 2, if first then x else Min.min a.min x, if first then x else Max.max a.max x, a.disc,
    a.clip || clip, a.flagged || m.flagged, a.genChg || (!first && decide (a.genLast ≠ m.gen)), a.lost,
    if first then m.gen else a.genFirst, m.gen, Max.max a.uclass m.uclass⟩

/-- The set of a job that a unit's samples go to. -/
def Cmd.setOf (c : Cmd) (unit : Nat) : Nat := if c.jPeru then unit else 0x7FF

/-- A sample is processed by one job: accumulated, discarded, or only noted; and whether it crossed the limits (R155). -/
def Job.process (j : Job) (c : Cmd) (m : Sample) : Job × Bool :=
  let v := jobValue c j m
  let j1 := if c.jMode = 1 ∧ m.kind = 0 ∧ ¬ m.flagged then { j with prevs := tabSet (fun _ => 2 ^ 200) j.prevs m.unit m.x } else j
  let upd (f : AccSet → AccSet) : List AccSet := j1.sets.map fun a => if a.unit = c.setOf m.unit then f a else a
  match v with
  | (none, true) => ({ j1 with sets := upd fun a => { a with disc := a.disc + 1 } }, false)
  | (none, false) => (j1, false)
  | (some x, _) =>
    let inLim := decide (signed 64 (c.p64 0x20) ≤ x ∧ x ≤ signed 64 (c.p64 0x28))
    ({ j1 with sets := upd fun a => if a.count < c.jN then a.add x m else a,
               inside := if c.jLimen then inLim else j1.inside }, c.jLimen && j1.inside && !inLim)

/-- The oldest sample that has entered tile t's Sepia is processed by every running job that selects it; a job whose sets are all
full starts writing its results. -/
def State.sepiaProcess (s : State) (t : Nat) : State :=
  match (s.tile t).sepia with
  | [] => s
  | m :: ms =>
    let s := s.modTile t fun x => { x with sepia := ms }
    (List.range 16).foldl (fun s n => match s.liveJob t n with
      | none => s
      | some (j, c) =>
        if ¬ c.jobTakes m then s
        else
          let r := j.process c m
          let s := s.setJob t n (some r.1)
          let s := if r.2 then s.offer t 4 n 0 m.tc false else s
          if r.1.sets.all fun a => decide (c.jN ≤ a.count) then s.setF (tileBase t + 4 * n) SEP_JOB.STATE 2 else s) s

/-! ### Jobs and result blocks (R151, R154) -/

/-- 16 fractional bits of the mean, ties away from zero. -/
def AccSet.mean (a : AccSet) : Int := if a.count = 0 then 0 else roundDiv ((a.x0 * a.count + a.s1) * 65536) a.count

/-- 16 fractional bits of the standard deviation. -/
def AccSet.sd (a : AccSet) : Nat :=
  if a.count ≤ 1 then 0
  else
    let num := (a.count * a.s2 : Nat) - a.s1.natAbs ^ 2
    (Nat.sqrt (num * 2 ^ 34 / (a.count * (a.count - 1))) + 1) / 2

/-- A result block (R154); unit numbers become those of R72. -/
def AccSet.block (a : AccSet) (t n : Nat) : List Byte :=
  let unit := if a.unit = 0x7FF then 0x7FF else if a.unit < 128 then t * 128 + a.unit else 1024 + t * 4 + (a.unit - 128)
  let flags := b2n (decide (a.count < n)) <<< 3 + b2n a.lost <<< 4 + b2n a.genChg <<< 5 + b2n a.flagged <<< 6 + b2n a.clip <<< 7 +
    unit <<< 17 + a.uclass <<< 28 + a.genLast <<< 32 + a.genFirst <<< 48
  leBytes 8 a.count ++ leBytes 8 (unsigned 64 a.x0) ++ leBytes 8 (unsigned 64 a.mean) ++ leBytes 8 a.sd ++
    leBytes 8 (unsigned 64 a.min) ++ leBytes 8 (unsigned 64 a.max) ++ leBytes 16 (unsigned 128 a.s1) ++ leBytes 16 a.s2 ++
    leBytes 8 flags ++ leBytes 8 a.disc ++ leBytes 32 0

/-- The result blocks of a job. -/
def Job.blocks (j : Job) (c : Cmd) (t : Nat) : List Byte := j.sets.flatMap fun a => a.block t c.jN

/-- The slot's job is gone. -/
def State.jobFree (s : State) (t n : Nat) : State :=
  let b := tileBase t
  let s := (s.setJob t n none).wr (b + 4 * n + SEP_JOB.STATE.off) 0
  s.setF b SEP_BUSY.JOBS (setBit (s.getF b SEP_BUSY.JOBS) n false)

/-- A job ends: its blocks are written before its completion (R151). -/
def State.jobEnd (s : State) (t n : Nat) (e : Ending) : State :=
  match s.job t n with
  | none => s
  | some j =>
    match s.cmd? j.run with
    | none => s.jobFree t n
    | some c =>
      let o := s.output c (j.blocks c t)
      let s := o.1
      let cut := o.2
      (s.endCmd j.run { e with partialDone := e.partialDone || cut, result := j.sets.length }).jobFree t n

/-- The lowest free job slot of tile t. -/
def State.freeJob (s : State) (t : Nat) : Option Nat := (List.range 16).find? fun n => s.getF (tileBase t + 4 * n) SEP_JOB.STATE = 0

/-- STATS_READ START loads a slot and runs the job (R151). -/
def State.jobStart (s : State) (t n : Nat) (c : Cmd) : State :=
  let b := tileBase t + 4 * n
  let sets := if c.jPeru then (List.range (c.jLast + 1 - c.jFirst)).map fun i => ({ unit := c.jFirst + i } : AccSet) else [{ unit := 0x7FF }]
  let s := s.setJob t n (some { run := ⟨c.sq, c.tag⟩, sets := sets })
  let s := s.setFs b [(SEP_JOB.STATE, 1), (SEP_JOB.KIND, c.jKind), (SEP_JOB.MODE, c.jMode), (SEP_JOB.PERU, b2n c.jPeru), (SEP_JOB.RING, c.sq),
    (SEP_JOB.TAG, c.tag)]
  s.setF (tileBase t) SEP_BUSY.JOBS (setBit (s.getF (tileBase t) SEP_BUSY.JOBS) n true)

/-! ### Stamps (R143 to R147) -/

/-- An edge of unit u is lost (R145); running jobs that take its stamps note it (R154). -/
def State.stampLost (s : State) (u : Nat) : State :=
  let b := feB u
  let s := ((s.incSat b CHN_TDC_LOST.COUNT 1).setF b CHN_TIM_STATUS.LOST 1).modTdc u fun d => { d with lostPend := satAdd 8 d.lostPend 1 }
  let t := tileOf u
  let l := localUnit u
  (List.range 16).foldl (fun s n => match s.liveJob t n with
    | some (j, c) =>
      if c.jKind = 0 ∧ c.jFirst ≤ l ∧ l ≤ c.jLast then
        s.setJob t n (some { j with sets := j.sets.map fun a => if a.unit = c.setOf l then { a with lost := true } else a })
      else s
    | none => s) s

/-- Linear epoch time of an edge of unit u with code e in bin q: a comparator edge at the DS ball, a drive edge at the DF ball (R143, R144, R149, R184). -/
def State.edgeLin (s : State) (u e q : Nat) : Int :=
  if e = 4 then (200 * s.tb + (s.tim u).fine q + s.getF 0 GLB_SYNC_STATUS.EPH + (s.edgeTim u).drv : Nat) else s.compLin u q

/-- A linear time lies between S1 and S2 of channel u's present period, whose code compares through a window strobe (R144). -/
def State.inWindow (s : State) (u : Nat) (x : Int) : Bool :=
  match (s.eng u).win with
  | some (s1, s2) => decide (u < 1024) && decide (0 ≤ linDiff x s1 ∧ 0 ≤ linDiff s2 x)
  | none => false

/-- The EDGE code of an edge of source src: 0 COMP_HI, 1 COMP_LO, 2 a drive edge (R144). -/
def edgeCode (src : Nat) (rising : Bool) : Nat := if src = 2 then 4 else 2 * src + b2n !rising

/-- Edge code e of unit u in bin q is one that stamping takes now (R144, R157): the tile runs, enabled, selected, gate open, its source
present. -/
def State.stampTakes (s : State) (u e q : Nat) : Bool :=
  let b := feB u
  let gate := s.getF b CHN_TDC_CFG.GATE
  let st := s.engState u
  !s.tileQ (tileOf u) && decide (s.mode ≠ stSAFE) && s.isSet b CHN_TDC_CFG.EN && (s.getF b CHN_TDC_CFG.SRC).testBit e &&
    (if gate = 1 then decide (u < 1024) && decide (1 ≤ st ∧ st ≤ 3) else if gate = 2 then s.inWindow u (s.edgeLin u e q) else true) &&
    (if e ≤ 1 then s.isSet b (cfEN 1) else if e ≤ 3 then s.isSet b (cfEN 0)
     else decide (u < 1024) && decide ((s.fe u).mode = 4) && !(s.fe u).drvTrip && !s.isSet b CHN_FE_STATUS.REMAPPED)

/-- The stamp of bin q on unit u for edge code e (R143, R144, R149, R184). -/
def State.stampValue (s : State) (u e q : Nat) : Nat :=
  let b := feB u
  if s.isSet b CHN_TDC_CFG.RAW then (s.tb <<< 8) + q
  else stampOf (s.edgeLin u e q)

/-- An edge of unit u reaches its TDC (R143, R145); one with neither destination shows in the last-stamp registers alone (R146). -/
def State.stampEdge (s : State) (u e q : Nat) (dead : Bool) : State :=
  let b := feB u
  let dest := s.getF b CHN_TDC_CFG.DEST
  let last := b + CHN_TDC_LAST_LO.STAMP.off
  if ¬ s.stampTakes u e q then s
  else if dead then s.stampLost u
  else if dest = 3 then s.setPair last (s.stampValue u e q)
  else if 16 ≤ (s.tdc u).fifo.length then s.stampLost u
  else
    let d := s.tdc u
    let lock := s.isSet (feB (if u < 1024 then s.phys u else u)) CHN_TIM_STATUS.TLOCK
    let x : Stamp := ⟨s.stampValue u e q, s.gen, d.lostPend, !lock, e, dest⟩
    let s := s.modTdc u fun d => { d with fifo := d.fifo ++ [x], lostPend := 0 }
    let s := s.setF b CHN_TIM_STATUS.FIFO (d.fifo.length + 1)
    s.setPair last x.stamp

/-- The sample that a stamp of unit u is. -/
def Stamp.sample (x : Stamp) (u : Nat) : Sample :=
  { kind := 0, unit := localUnit u, x := linOf x.stamp, sel := x.edge, flagged := x.unlk, gen := x.gen, tc := linOf x.stamp }

/-- The stamp is bound for the stamp buffer, and for Sepia (R146). -/
def State.stampDest (s : State) (u : Nat) (x : Stamp) : Bool × Bool :=
  let wants := s.sepiaWants (tileOf u) (x.sample u)
  (decide (x.dest = 0 ∨ x.dest = 2) || (decide (x.dest = 1) && !wants), decide (x.dest = 2) || (decide (x.dest = 1) && wants))

/-- A stamp reaches tile t's stamp buffer (R147): written, or dropped and counted; a buffer without a record is full. [DESIGN CHOICE, log entry 66] -/
def State.stbWrite (s : State) (t u : Nat) (x : Stamp) : State :=
  let b := tileBase t
  let n := s.stbSize t
  let w := (s.tile t).stb
  let ring := s.isSet b TIL_STB_CTRL.MODE
  if ¬ s.isSet b TIL_STB_CTRL.EN ∨ (ring ∧ n = 0) then s.incSat b TIL_STB_DROP.COUNT 1
  else if ¬ ring ∧ n ≤ w then
    (s.incSat b TIL_STB_DROP.COUNT 1).setFs b [(TIL_STB_STATUS.OVF, 1), (TIL_STB_STATUS.FULL, 1)]
  else
    let tag := x.gen <<< 48 + x.lostn <<< 40 + b2n x.unlk <<< 23 + x.edge <<< 20 + u
    let a := s.stbStart t + 16 * (w % n)
    let s := (s.sramSet a 8 x.stamp).sramSet (a + 8) 8 tag
    let s := if ring ∧ n ≤ w then s.setF b TIL_STB_STATUS.WRAPPED 1 else s
    let s := (s.incWrap b TIL_STB_WCNT.COUNT 1).modTile t fun x => { x with stb := w + 1 }
    if ¬ ring ∧ w + 1 = n then s.setF b TIL_STB_STATUS.FULL 1 else s

/-- Unit number of local unit l of tile t. -/
def unitOf (t l : Nat) : Nat := if l < 128 then t * 128 + l else 1024 + t * 4 + (l - 128)

/-- One SCLK of stamp collection in tile t (R147, R156): at most 8 stamps, one of a front-end, at most 2 records. -/
def State.stampCollect (s : State) (t : Nat) : State :=
  let start := (s.tile t).stampNext
  let r := (List.range 132).foldl (fun (a : State × Nat × Nat) i =>
    let s := a.1
    let taken := a.2.1
    let recs := a.2.2
    let l := (start + i) % 132
    let u := unitOf t l
    match (s.tdc u).fifo with
    | [] => a
    | x :: xs =>
      let d := s.stampDest u x
      if 8 ≤ taken ∨ (d.1 ∧ 2 ≤ recs) then a
      else
        let s := s.modTdc u fun y => { y with fifo := xs }
        let s := s.setF (feB u) CHN_TIM_STATUS.FIFO xs.length
        let s := if d.1 then s.stbWrite t u x else s
        let s := if d.2 then s.sepiaEnter t (x.sample u) else s
        let s := s.modTile t fun y => { y with stampNext := (l + 1) % 132 }
        (s, taken + 1, recs + b2n d.1)) (s, 0, 0)
  r.1

/-- The stamp buffer of tile t restarts at record 0 (R147). -/
def State.stbRestart (s : State) (t : Nat) : State :=
  ((s.setF (tileBase t) TIL_STB_WCNT.COUNT 0).setF (tileBase t) TIL_STB_STATUS.FULL 0).modTile t fun x => { x with stb := 0 }

/-- A self-test of a front-end or of its store is under way. -/
def State.underTest (s : State) (u : Nat) : Bool := s.tests.any fun x => x.outcome.isNone && decide (x.code ≤ 3) && decide (x.unit = u)

/-! ### Delay lines (R138), acquisitions (R139) -/

/-- Place of unit u among the lines of a tile's acquisition: its local units, then the module's five own TDCs. -/
def acqBit (u : Nat) : Nat := if u < 1056 then localUnit u else 132 + (u - 1056)

/-- The tiles whose acquisitions take unit u's line. -/
def acqTiles (u : Nat) : List Nat := if u < 1056 then [tileOf u] else List.range 8

/-- A transfer has asked for unit u's acquisition, which has not ended since. -/
def State.acqDue (s : State) (u : Nat) : Bool := (acqTiles u).any fun t => (s.tile t).acq.testBit (acqBit u)

/-- The acquisition of unit u that a transfer asked for has ended. -/
def State.acqDone (s : State) (u : Nat) : State :=
  if s.acqDue u then (acqTiles u).foldl (fun s t => s.modTile t fun x => { x with acq := setBit x.acq (acqBit u) false }) s else s

/-- The lines of unit u: six on a channel, the TDC alone on a shade and on the module's own TDCs. -/
def lineMask (u : Nat) : Nat := if u < 1024 then 0x3F else 1

/-- Scope and unit of a TDC's faults: the module's for the SYNC TDC (R357). -/
def State.tdcUnit (s : State) (u : Nat) : Nat × Nat := if u < 1056 then s.faultUnit u else (scMODULE, 0)

/-- TLOCK and VLOCK follow the lines (R138). -/
def State.showLocks (s : State) (u : Nat) : State :=
  let m := (s.tdc u).locks
  if u < 1056 then
    s.setFs (feB u) [(CHN_TIM_STATUS.TLOCK, b2n (m.testBit 0)), (CHN_TIM_STATUS.VLOCK, b2n (decide (u < 1024) && (m &&& 0x3E) == 0x3E))]
  else s

end Sys2Proof.Machine
end

