-- ==== Sys2Proof/Machine/CalOps.lean ====
section
/-! DEFINITION. The calibration tables in the record layout of R224, ages, and the uncertainty class (R224, R227, R228). -/

namespace Sys2Proof.Machine

/-- The record of front-end u in the committed buffer. -/
def State.feRecord (s : State) (u : Nat) : List Byte := memRead sramReset s.sram (calBase + feRec u) 768

/-- The 8 bytes of converter offset and gain for a scale (0 to 10) and gain code (0 to 4) of front-end u (R224). -/
def State.adcCorr (s : State) (u scale gain : Nat) : Nat := s.cal (feRec u + 8 * (5 * scale + gain)) 8

/-! ### Ages -/

/-- Seconds since the start of tile t's last transfer (R213): by the module's own clock, else by the restored record's time. -/
def State.xferAge (s : State) (t : Nat) : Option Nat :=
  match (s.tile t).xferAt with
  | some a => some ((s.uptime - a) / tclkHz)
  | none =>
    let at0 := s.cal (tileRec t + 8) 8
    if s.isSet 0 CAL_STATUS.TIME_SET ∧ at0 ≠ 0 then some (s.calTime - at0) else none

/-- Seconds since a recorded calendar time; none where it or the present time is unknown. -/
def State.since (s : State) (time : Nat) : Option Nat :=
  if s.isSet 0 CAL_STATUS.TIME_SET ∧ time ≠ 0 then some (s.calTime - time) else none

/-- Seconds since front-end u's last rotation or force-path calibration: by the module's own clock, else by the restored record. -/
def State.rotAge (s : State) (u : Nat) : Option Nat :=
  match tabGet (fun _ => none) s.rotAt u with
  | some a => some ((s.uptime - a) / tclkHz)
  | none => s.since (s.cal (feRec u + (if u < 1024 then recRot else recForce)) 8)

/-! ### The uncertainty class (R227, R228) -/

/-- The common denominator of the budget's terms. -/
def budgetDen : Nat := 31557600000

/-- |T_t − TX_t| in 0.01 °C; 5.0 °C while either is invalid (R213, R227). -/
def State.deltaT (s : State) (t : Nat) : Nat :=
  if (s.getF 0 THM_STATUS.TVALID).testBit t ∧ (s.tile t).txValid then
    (signed 16 (s.getF (0x10 * t) THM_TILE_TEMP.MEAN) - signed 16 (s.getF (0x10 * t) CAL_TILE_TX.TEMP)).natAbs
  else 500

/-- B in ppm × budgetDen, from U_C in 0.01 ppm, the anchor age and rotation age in s, ΔT in 0.01 °C; g is 1 for the metrology
grade, 2 for the other: every term but U_C doubles (R227). -/
def budget (g uc anchor dt rot : Nat) : Nat :=
  uc * (budgetDen / 100) +
    g * (3 * budgetDen + 2 * anchor * 1000 + 4 * dt * (budgetDen / 1000) + min rot 86400 * (budgetDen / 72000) + 10 * (rot - 86400) * 1000)

/-- The class of a budget (R228). -/
def classOf (b : Nat) : Nat := ([2, 4, 6, 8, 10, 12, 15, 20, 25, 30, 40, 50, 75, 100, 200].filter fun r => r * budgetDen < b).length

/-- The certificate uncertainty that anchors a scale (R227). -/
def State.certU (s : State) (scale : Nat) : Nat :=
  if scale ≤ 4 then s.cal 0x38 2 else if scale ≤ 7 then s.cal 0x40 2 else s.cal 0x42 2

/-- R_h in seconds (R227): a channel's rotation age; a shade's time since its force-path calibration for force scales, since its tile's
transfer for converter scales. -/
def State.rotTerm (s : State) (u : Nat) (force : Bool) : Option Nat := if u < 1024 ∨ force then s.rotAge u else s.xferAge (tileOf u)

/-- The class of front-end u for a scale (R228), of its force path or of its converter; none is bounded before the first anchor (R59). [DEDUCED, log entry 64] -/
def State.classFor (s : State) (u scale : Nat) (force : Bool) : Nat :=
  if ¬ s.isSet 0 CAL_STATUS.TIME_SET ∨ s.gen = 0 ∨ s.getF 0 CAL_GEN.ANCHOR_GEN = 0 ∨ s.getF (4 * u) CAL_FE_STATE.STATE = 2 then 15
  else
    let anchor := s.calTime - (s.getF 0 CAL_ANCHOR_TIME_LO.SEC + 2 ^ 32 * s.getF 0 CAL_ANCHOR_TIME_HI.SEC)
    match s.rotTerm u force with
    | none => 15
    | some r => classOf (budget (if Config.gradeAM then 1 else 2) (s.certU scale) anchor (s.deltaT (tileOf u)) r)

/-- The class that results of front-end u's converter carry for a scale (R61, R228). -/
def State.uclass (s : State) (u scale : Nat) : Nat := s.classFor u scale false

end Sys2Proof.Machine
end

