-- ==== Sys2Proof/Machine/Access.lean ====
section
/-! DEFINITION. Which writes of the register window the module executes at all: reset, boot (R387), tile reset (R434), stopped clocks (R402). -/

namespace Sys2Proof.Machine

/-- Blocks served without the root PLL: GLB, FLT, THM and SPA/SPB (R402). -/
def noClkServed (a : Nat) : Bool :=
  decide (a < 0x100000 ∨ (0x300000 ≤ a ∧ a < 0x400000) ∨ (0x500000 ≤ a ∧ a < 0x700000))

/-- Registers that take writes in BOOT: GLB_RESET, SPA_, SPB_ and LNK_ (R387). -/
def bootWritable (a : Nat) : Bool :=
  decide (a = GLB_RESET.KEY.off ∨ (0x100000 ≤ a ∧ a < 0x200000) ∨ (0x600000 ≤ a ∧ a < 0x700000))

/-- Address a lies in the block of a tile that is in tile reset (R434). -/
def State.inTileReset (s : State) (a : Nat) : Bool :=
  decide (0x800000 ≤ a ∧ a < 0x1000000) && s.isSet (tileBase ((a - 0x800000) / 0x100000)) TIL_STATUS.RESET

/-- A write to address a is executed; else it is discarded without a trace. -/
def State.writeOk (s : State) (a : Nat) : Bool :=
  !s.inReset && (decide (s.mode ≠ stBOOT) || bootWritable a) && (s.clocked || noClkServed a) && !s.inTileReset a

end Sys2Proof.Machine
end

