-- ==== Sys2Proof/Machine/FlashOps.lean ====
section
/-! DEFINITION. The boot flash and the containers in it: CRC-32, regions (R388), the directory (R389), Taeno containers and their
bodies (R334, R335, R390), reads and writes. -/

namespace Sys2Proof.Machine

/-! ### CRC-32 of IEEE 802.3 -/

/-- Eight shifts of the reflected register. -/
def crcShift : Nat → Nat → Nat
  | 0, c => c
  | n + 1, c => crcShift n (if c % 2 = 1 then Nat.xor (c / 2) 0xEDB88320 else c / 2)

/-- CRC-32 of IEEE 802.3 over a list of bytes. -/
def crc32 (bs : List Byte) : Nat := Nat.xor (bs.foldl (fun c b => crcShift 8 (Nat.xor c b.toNat)) 0xFFFFFFFF) 0xFFFFFFFF

/-! ### Flash -/

/-- n bytes of the flash. [PRESUMED, log entry 6] -/
def State.flashRead (s : State) (a n : Nat) : List Byte := memRead flashReset s.flash a n

/-- An n-byte number of the flash. -/
def State.flashN (s : State) (a n : Nat) : Nat := leNat (s.flashRead a n)

/-- Puts bytes into the flash as erase and program leave them. -/
def State.flashPut (s : State) (a : Nat) (bs : List Byte) : State := { s with flash := memWrite flashReset s.flash a bs }

/-- Programming clears bits, as NOR flash does; erased bytes take any value (R388, R392). -/
def State.flashProg (s : State) (a : Nat) (bs : List Byte) : State :=
  s.flashPut a ((bs.zipIdx).map fun e => e.1 &&& tabGet flashReset s.flash (a + e.2))

/-- Erases the bytes from a up to a + n. -/
def State.flashErase (s : State) (a n : Nat) : State :=
  { s with flash := tabKeep (fun k => decide (k < a ∨ a + n ≤ k)) s.flash }

/-- The regions of R388 by number, with start and end. -/
def flashRegions : List (Nat × Nat) :=
  [(0x0, 0x2000), (0x2000, 0x5000), (0x5000, 0x200000), (0x200000, 0x400000), (0x400000, 0x600000), (0x600000, 0x800000),
   (0x800000, 0xA00000), (0xA00000, 0xC00000), (0xC00000, 0x1000000), (0x1000000, 2 ^ 32)]

/-- The region that address a lies in. -/
def regionOf (a : Nat) : Nat := flashRegions.findIdx fun r => decide (r.1 ≤ a ∧ a < r.2)

/-! ### The directory (R389) -/

/-- One directory record. -/
structure Dir where
  active : Nat
  counter : Nat
  lens : List Nat
  deriving DecidableEq, Repr

/-- Directory copy k, if it is valid. -/
def State.dirCopy (s : State) (k : Nat) : Option Dir :=
  let a := 0x1000 * k
  if s.flashN a 4 = 0x52494454 ∧ s.flashN (a + 4) 2 = 1 ∧ s.flashN (a + 6) 1 ≤ 2 ∧ s.flashN (a + 0x3C) 4 = crc32 (s.flashRead a 0x3C) then
    some ⟨s.flashN (a + 6) 1, s.flashN (a + 8) 4, (List.range 5).map fun i => s.flashN (a + 0xC + 4 * i) 4⟩
  else none

/-- The copy in use: the valid one with the higher COUNTER. -/
def State.dirNow (s : State) : Option (Nat × Dir) :=
  match s.dirCopy 0, s.dirCopy 1 with
  | some a, some b => if a.counter < b.counter then some (1, b) else some (0, a)
  | some a, none => some (0, a)
  | none, some b => some (1, b)
  | none, none => none

/-- A directory record as bytes. -/
def Dir.bytes (d : Dir) : List Byte :=
  let h := leBytes 4 0x52494454 ++ leBytes 2 1 ++ leBytes 1 d.active ++ leBytes 1 0 ++ leBytes 4 d.counter ++
    (List.range 5).flatMap (fun i => leBytes 4 (d.lens.getD i 0)) ++ leBytes 28 0
  h ++ leBytes 4 (crc32 h)

/-- Writes the directory copy that is not in use (R389). -/
def State.dirWrite (s : State) (d : Dir) : State :=
  let k := match s.dirNow with | some (0, _) => 1 | _ => 0
  (s.flashErase (0x1000 * k) 0x1000).flashPut (0x1000 * k) d.bytes

/-! ### Containers (R334, R335) -/

/-- Offsets of the container regions, in the order of the directory's lengths. -/
def contBase (i : Nat) : Nat := [0x200000, 0x400000, 0x600000, 0x800000, 0xA00000].getD i 0

/-- A record of a body. -/
inductive TRec where
  | words (addr : Nat) (data : List Nat)
  | bytes (addr : Nat) (data : List Byte)
  | entry (addr : Nat)
  deriving DecidableEq, Repr

/-- The records of a body of the given kind; none where they break the rules of R335 and R390.  END is last: only the zeros that fill
the body to a multiple of 16 may follow it. [DEDUCED, log entry 52] -/
def bodyRecs (kind : Nat) : Nat → List Byte → Option (List TRec)
  | 0, _ => none
  | fuel + 1, bs =>
    if bs.length < 8 then none
    else
      let ty := leNat (bs.take 2)
      let n := leNat ((bs.drop 2).take 2)
      let a := leNat ((bs.drop 4).take 4)
      let r := bs.drop 8
      if ty = 0 then (if r.length < 16 && r.all (fun b => b == 0) then some [] else none)
      else if ty = 1 then
        if kind ≤ 2 ∧ a + n ≤ 0x400 ∧ 16 * n ≤ r.length then
          (bodyRecs kind fuel (r.drop (16 * n))).map fun t => .words a ((List.range n).map fun i => leNat ((r.drop (16 * i)).take 16)) :: t
        else none
      else if (ty = 0x100 ∨ ty = 0x101) ∧ 3 ≤ kind ∧ a + 16 * n ≤ 0x200000 ∧ 16 * n ≤ r.length then
        (bodyRecs kind fuel (r.drop (16 * n))).map fun t => .bytes a (r.take (16 * n)) :: t
      else if ty = 0x102 ∧ 3 ≤ kind then (bodyRecs kind fuel r).map fun t => .entry a :: t
      else none

/-- The records of a whole body: firmware names exactly one entry point (R390). -/
def bodyOf (kind : Nat) (bs : List Byte) : Option (List TRec) :=
  match bodyRecs kind (bs.length + 1) bs with
  | some l => if kind ≤ 2 ∨ (l.filter fun r => match r with | .entry _ => true | _ => false).length = 1 then some l else none
  | none => none

/-- Fields of a container through a reader g of n-byte numbers at an offset. -/
def contKind (g : Nat → Nat → Nat) : Nat := g 6 2
def contBaseNo (g : Nat → Nat → Nat) : Nat := g 0xC 2
def contLevel (g : Nat → Nat → Nat) : Nat := g 0xE 1
def contSvn (g : Nat → Nat → Nat) : Nat := g 0x10 4
def contBody (g : Nat → Nat → Nat) : Nat := g 0x14 4

/-- The minimum SVN in the fuses for a kind (R334, R338). [DESIGN CHOICE, log entry 4] -/
def State.svnMin (s : State) (kind : Nat) : Nat := if kind = 2 then max (Config.fusedSvn 2) s.svnRaised else Config.fusedSvn kind

/-- The checks of R335 on a container of which the wanted kind, its length and the accepted base build are known: 0 passed, 1 to 6 the
check that failed, 7 the body's records. [DEDUCED, log entry 52] -/
def State.contCheck (s : State) (g : Nat → Nat → Nat) (kind len base : Nat) (a : Auth) : Nat :=
  if g 0 4 ≠ 0x4E454154 ∨ g 4 2 ≠ 1 ∨ contKind g ≠ kind ∨ g 8 4 ≠ s.getF 0 GLB_PART_ID.PART ∨ g 0x24 12 ≠ 0 ∨
    contBody g % 16 ≠ 0 ∨ 0x100000 < contBody g ∨ len ≠ 0x100 + contBody g then 1
  else if 3 < g 0xF 1 ∨ ¬ a.keyOk then 2
  else if ¬ a.sigOk then 3
  else if contSvn g < s.svnMin kind then 4
  else if kind = 2 ∧ contBaseNo g ≠ base then 5
  else if ¬ a.gcmOk then 6
  else if (bodyOf kind a.body).isNone then 7
  else 0

/-- Microwords of a body over an image, a later record winning (R336). -/
def applyWords (cs : List (Nat × Nat)) (l : List TRec) : List (Nat × Nat) :=
  l.foldl (fun cs r => match r with
    | .words a d => (d.zipIdx).foldl (fun cs e => tabSet (fun _ => 0) cs (a + e.2) e.1) cs
    | _ => cs) cs

/-- Firmware bytes of a body into supervisor memory (R390). -/
def State.applyFw (s : State) (l : List TRec) : State :=
  l.foldl (fun s r => match r with
    | .bytes a d => { s with sram := memWrite sramReset s.sram (supBase + a) d }
    | _ => s) s

end Sys2Proof.Machine
end

