-- ==== Sys2Proof/Machine/Faults.lean ====
section
/-! DEFINITION. Meanings of the fault timers and fault registers (R362 to R365, R372), and the black-box in flash (R369, R370). -/

namespace Sys2Proof.Machine

/-! ### Timers -/

/-- GRACE_EXPIRE (R362): an unacknowledged instance escalates. -/
def execGraceExpire (cls : Byte) (scope : Fin 5) (unit : Fin 1056) (s : State) : Res :=
  let k := instKey cls.toNat scope unit
  let i := s.inst k
  if i.force ∧ i.unack ∧ i.grace ∧ (i.level = 1 ∨ i.level = 2) then done (s.enterLevel k i (i.level + 1) 1 i.detail) else done s

/-- FLT_BUDGET.MAX in effect (R372). -/
def State.budgetMax (s : State) : Nat := atLeast1 (s.getF 0 FLT_BUDGET.MAX)

/-- QUIET_EXPIRE (R364, R365): left, counted against the recovery budget, or sticky. -/
def execQuietExpire (cls : Byte) (scope : Fin 5) (unit : Fin 1056) (s : State) : Res :=
  let k := instKey cls.toNat scope unit
  let i := s.inst k
  if ¬ i.force ∨ i.cond ∨ i.sticky ∨ ¬ i.quiet then done s
  else if i.level = 0 then done (s.leaveInst k)
  else if i.window ∧ s.budgetMax < i.wcnt + 1 then
    let s := s.setInst k { i with sticky := true, unack := true, quiet := false, grace := decide (i.level = 1 ∨ i.level = 2) }
    done (s.bbRecord k 3 i.level i.detail)
  else
    let s := s.setInst k { i with rcnt := satAdd 16 i.rcnt 1, wcnt := if i.window then i.wcnt + 1 else 1, window := true }
    done (s.leaveInst k)

/-- BUDGET_WINDOW_END (R365). -/
def execBudgetWindowEnd (cls : Byte) (scope : Fin 5) (unit : Fin 1056) (s : State) : Res :=
  let k := instKey cls.toNat scope unit
  done (s.setInst k { s.inst k with wcnt := 0, window := false })

/-! ### Registers -/

/-- CLASS, SCOPE and UNIT of a selector word. -/
def selOf (w : Word) : Nat × Nat × Nat := (FLT_SEL.CLASS.get w, FLT_SEL.SCOPE.get w, FLT_SEL.UNIT.get w)

/-- A selector whose UNIT is in its scope's range. -/
def selInRange (w : Word) : Bool := let e := selOf w; decide (e.2.2 < scopeUnits e.2.1)

/-- A write of FLT_ACK (R363). -/
def State.fltAck (s : State) (w : Word) : State :=
  let e := selOf w
  if ¬ selInRange w then s.setF 0 FLT_STATUS.ACKIGN 1 else (s.acknowledge e.1 e.2.1 e.2.2).1

/-- A write of FLT_UNSTICK (R365): in SERVICE only. -/
def State.fltUnstick (s : State) (w : Word) : State :=
  let e := selOf w
  if ¬ s.serviceOpen ∨ ¬ selInRange w then s.setF 0 FLT_STATUS.ACKIGN 1
  else
    let hit := s.insts.filter fun x => x.2.force && x.2.sticky && ackSelects e.1 e.2.1 e.2.2 x.1
    hit.foldl (fun s x => s.setInst x.1 { x.2 with sticky := false, wcnt := 0, window := false, quiet := !x.2.cond }) s

/-- FLT_INST as it shows an instance. -/
def Inst.word (i : Inst) : Word :=
  BitVec.ofNat 32 (b2n i.force <<< 31 + (if i.force then i.level else 0) <<< 29 + b2n i.unack <<< 28 + b2n i.sticky <<< 27 + b2n i.cond <<< 26 +
    i.wcnt <<< 20 + i.rcnt)

/-- A write of FLT_SEL (R372): CLRCNT clears the instance's RCNT, then the instance is latched. [DEDUCED, log entry 46] -/
def State.fltSel (s : State) (w : Word) : State :=
  let e := selOf w
  let k := instKey e.1 e.2.1 e.2.2
  let valid := selInRange w && (s.getF (4 * e.1) FLT_CLASS.SCOPES).testBit e.2.1
  let s := s.wr FLT_SEL.CLASS.off (w &&& 0x07FF0FFF)
  let s := if valid ∧ FLT_SEL.CLRCNT.get w = 1 then s.setInst k { s.inst k with rcnt := 0 } else s
  s.wr FLT_INST.RCNT.off (if valid then (s.inst k).word else 0)

/-- FLT_ACK. -/
def execFltAck (w : Word) (s : State) : Res := if s.writeOk FLT_ACK.CLASS.off then done (s.fltAck w) else done s

/-- FLT_UNSTICK. -/
def execFltUnstick (w : Word) (s : State) : Res := if s.writeOk FLT_UNSTICK.CLASS.off then done (s.fltUnstick w) else done s

/-- FLT_SEL. -/
def execFltSel (w : Word) (s : State) : Res := if s.writeOk FLT_SEL.CLASS.off then done (s.fltSel w) else done s

/-! ### The black-box in flash (R369, R370): three sectors of 128 records from 0x2000 on -/

/-- A record as 32 bytes. -/
def BbRec.bytes (r : BbRec) (seq : Nat) : List Byte :=
  let b := leBytes 4 seq ++
    leBytes 4 (r.cls + r.scope <<< 8 + r.why <<< 12 + r.level <<< 16 + b2n r.epoch <<< 18 + r.unit <<< 21) ++
    leBytes 8 r.tb ++ leBytes 8 r.time ++ leBytes 4 r.detail
  b ++ leBytes 4 (crc32 b)

/-- The bytes of record slot i, and whether it holds a record. -/
def State.bbSlot (s : State) (i : Nat) : List Byte := s.flashRead (0x2000 + 32 * i) 32
def State.bbHeld (s : State) (i : Nat) : Bool := (s.bbSlot i).any fun b => b != 0xFF

/-- The slot and SEQ of the newest record in flash. -/
def State.bbNewest (s : State) : Option (Nat × Nat) :=
  (List.range 384).foldl (fun m i =>
    if s.bbHeld i then
      let n := s.flashN (0x2000 + 32 * i) 4
      match m with | some (_, x) => if x < n then some (i, n) else m | none => some (i, n)
    else m) none

/-- Appends one record; a sector about to be written again is erased first: it holds the oldest records. -/
def State.bbAppend (s : State) (r : BbRec) : State :=
  let i := match s.bbNewest with | some (i, _) => (i + 1) % 384 | none => 0
  let seq := s.getF 0 FLT_BB_SEQ.SEQ + 1
  let s := if i % 128 = 0 ∧ s.bbHeld i then s.flashErase (0x2000 + 0x1000 * (i / 128)) 0x1000 else s
  (s.flashPut (0x2000 + 32 * i) (r.bytes seq)).setF 0 FLT_BB_SEQ.SEQ seq

/-- The staged records are written. [DEDUCED, log entry 46] -/
def State.bbFlush (s : State) : State := { s.bbStage.foldl State.bbAppend s with bbStage := [] }.setF 0 FLT_BB_STATUS.STAGED 0

/-- BLACKBOX_WRITE (R369): once the flash is found and boot has reached the restore; a failed write leaves the records staged. [DEDUCED, log entry 46] -/
def execBlackboxWrite (ok : Bool) (s : State) : Res :=
  if s.bbStage = [] ∨ s.inReset ∨ s.getF 0 GLB_BOOT_STATUS.PHASE < 8 then done s
  else if ok then done s.bbFlush
  else done (s.setF 0 FLT_BB_STATUS.ERR 1)

end Sys2Proof.Machine
end

