-- ==== Sys2Proof/Machine/LinkOps.lean ====
section
/-! DEFINITION. Operations over the ports: lane fields, the states of R271 and what entering each does, widths and generations, lane
maps, coefficients (R271 to R287). -/

namespace Sys2Proof.Machine

/-! ### Lanes, widths, generations -/

def Port.lane (q : Port) (l : Nat) : Lane := tabGet (fun _ => {}) q.lanes l
def Port.modLane (q : Port) (l : Nat) (f : Lane → Lane) : Port := { q with lanes := tabSet (fun _ => {}) q.lanes l (f (q.lane l)) }

/-- Lanes that a MAXW code allows, and the WIDTH code of a number of lanes (R295). -/
def maxwLanes (code : Nat) : Nat := if code = 0 then 1 else if code = 1 then 2 else 4
def widthCode (w : Nat) : Nat := if w = 1 then 0 else if w = 2 then 1 else 2

/-- The port's MAXGEN: 0 acts as G1. [DEDUCED, log entry 27] -/
def State.maxGen (s : State) (p : Nat) : Nat := max 1 (s.getF (pB p) LNK_P_CTRL.MAXGEN)
def State.maxW (s : State) (p : Nat) : Nat := maxwLanes (s.getF (pB p) LNK_P_CTRL.MAXW)
def State.peerW (s : State) (p : Nat) : Nat := maxwLanes (s.getF (pB p) LNK_P_PARTNER.MAXW)

/-- The highest generation in the partner's RATES (every rate is in the module's own) that is not above cap; at least G1. -/
def State.commonGen (s : State) (p cap : Nat) : Nat :=
  let r := s.getF (pB p) LNK_P_PARTNER.RATES
  if r.testBit 2 ∧ 3 ≤ cap then 3 else if r.testBit 1 ∧ 2 ≤ cap then 2 else 1

/-- The target generation (R275). -/
def State.target (s : State) (p : Nat) : Nat := s.commonGen p (s.getF (pB p) LNK_P_STATUS.CAPGEN)

/-- The lane maps: logical lane k to physical lane, 7 unused; k = 4 the spare. -/
def mapFld (tx : Bool) (k : Nat) : Fld :=
  if tx then [LNK_P_TXMAP.TXL0, LNK_P_TXMAP.TXL1, LNK_P_TXMAP.TXL2, LNK_P_TXMAP.TXL3, LNK_P_TXMAP.TXSP].getD k LNK_P_TXMAP.TXSP
  else [LNK_P_MAP.RXL0, LNK_P_MAP.RXL1, LNK_P_MAP.RXL2, LNK_P_MAP.RXL3, LNK_P_MAP.RXSP].getD k LNK_P_MAP.RXSP

def State.lmap (s : State) (p : Nat) (tx : Bool) (k : Nat) : Nat := s.getF (pB p) (mapFld tx k)

/-- Roles of physical lanes (R296). -/
def roleFld (tx : Bool) : Fld := if tx then LNK_P_L_STATUS.TXROLE else LNK_P_L_STATUS.RXROLE
def State.role (s : State) (p : Nat) (tx : Bool) (l : Nat) : Nat := s.getF (lB p l) (roleFld tx)

/-- The assigned lanes and the spare of a direction, as a mask. -/
def State.usedLanes (s : State) (p : Nat) (tx : Bool) : Nat :=
  (List.range 5).foldl (fun m l => setBit m l (decide (s.role p tx l = 1 ∨ s.role p tx l = 2))) 0

/-- Installs a map: physical lanes of logical lanes 0, 1, ..., and the spare (7 none), with the roles they give. -/
def State.setMap (s : State) (p : Nat) (tx : Bool) (ls : List Nat) (sp : Nat) : State :=
  let s := (List.range 4).foldl (fun s k => s.setF (pB p) (mapFld tx k) (ls.getD k 7)) s
  let s := s.setF (pB p) (mapFld tx 4) sp
  (List.range 5).foldl (fun s l =>
    s.setF (lB p l) (roleFld tx) (if l ∈ ls then 1 else if l = sp then 2 else 0)) s

/-- Both directions have an idle spare (SPARE_OK). [DEDUCED, log entry 27] -/
def State.spareOk (s : State) (p : Nat) : State :=
  s.setF (pB p) LNK_P_STATUS.SPARE_OK (b2n (decide (s.lmap p true 4 ≠ 7 ∧ s.lmap p false 4 ≠ 7)))

/-! ### Faults of a port -/

/-- LINK_DEGRADED with a cause (R278). -/
def State.degraded (s : State) (p cause : Nat) : State :=
  (s.setF (pB p) LNK_P_STATUS.DCAUSE cause).detect 0x0E scPORT p cause

/-- LANE_SPARED for a logical lane. -/
def State.laneSpared (s : State) (p k : Nat) (rx : Bool) : State := s.detect 0x0F scPORT p (k + b2n rx <<< 8)

/-! ### UP (R271) -/

/-- UP changes: the link-state source is latched; a fall is counted and left to the packet layer. -/
def State.setUp (s : State) (p : Nat) (up : Bool) : State :=
  if s.isUp p = up then s
  else
    let s := (s.setF (pB p) LNK_P_STATUS.UP (b2n up)).setF 0 IRQ_LATCH.LINK (setBit (s.getF 0 IRQ_LATCH.LINK) p true)
    if up then s
    else ((s.setF (pB p) LNK_P_STATUS.DOWN_SEEN 1).incSat (pB p) LNK_P_CNT.DOWNS 1).modPort p fun q => { q with fell := true }

/-- Both directions are in LS0. -/
def State.awake (s : State) (p : Nat) : State := s.setFs (pB p) [(LNK_P_STATUS.TX_LS, 0), (LNK_P_STATUS.RX_LS, 0)]

/-- What a training starts from; the packet layer, the release and the beacon times stay. -/
def Port.untrained (q : Port) : Port :=
  { q with gen := 1, sent := false, lock := false, ts2 := false, lanes := [], rxok := 0, peer := 0, w := 0, w1 := 0, sp1 := (7, 7), eq := false,
           recov := false, doneTx := 0, doneRx := 0, checked := 0, failed := 0, late := false, pend := 0, slave := false, byPeer := false,
           spRx := none, spTx := none }

/-- Clears what shows a trained link: generation, width, maps, roles, locks. -/
def State.showUntrained (s : State) (p : Nat) : State :=
  let s := (s.awake p).setFs (pB p) [(LNK_P_STATUS.GEN, 0), (LNK_P_STATUS.WIDTH, 3), (LNK_P_STATUS.SPARED, 0), (LNK_P_STATUS.SPARE_OK, 0),
    (LNK_P_MAP.RXINV, 0)]
  let s := (s.setMap p true [] 7).setMap p false [] 7
  (List.range 5).foldl (fun s l =>
    s.setFs (lB p l) [(LNK_P_L_STATUS.INV, 0), (LNK_P_L_STATUS.SLOCK, 0), (LNK_P_L_STATUS.BLOCK, 0)]) s

/-- Enters a state in which the port is not trained and not up. -/
def State.toState (s : State) (p st : Nat) : State :=
  (((s.setUp p false).setF (pB p) LNK_P_STATUS.STATE st).showUntrained p).modPort p Port.untrained

/-- Enters DETECT; CAPGEN is MAXGEN unless a training failed (R272). -/
def State.toDetect (s : State) (p : Nat) (failed : Bool) : State :=
  let s := s.toState p 0
  if failed then s else s.setF (pB p) LNK_P_STATUS.CAPGEN (s.maxGen p)

/-- Enters HOTRESET (R280): the packet layer starts anew, CAPGEN is MAXGEN. -/
def State.toHotReset (s : State) (p : Nat) : State :=
  let s := s.toState p 7
  s.setF (pB p) LNK_P_STATUS.CAPGEN (s.maxGen p)

/-- Enters RECOVERY (R279); after three entries without progress on the replay buffer, DETECT (R304). [DEDUCED, log entry 28] -/
def State.toRecovery (s : State) (p : Nat) : State :=
  if s.pst p ≠ 5 then s
  else if 3 ≤ (s.port p).stuck then (s.modPort p fun q => { q with stuck := 0 }).toDetect p false
  else
    let s := ((s.awake p).setF (pB p) LNK_P_STATUS.STATE 6).incSat (pB p) LNK_P_CNT.RECOVS 1
    let s := (List.range 5).foldl (fun s l => s.setFs (lB p l) [(LNK_P_L_STATUS.SLOCK, 0), (LNK_P_L_STATUS.BLOCK, 0)]) s
    s.modPort p fun q =>
      { q with spRx := none, spTx := none, pend := 0, recov := true, stuck := if q.replay = [] then 0 else q.stuck + 1 }

/-- Enters CONFIG at the rate the lanes run at. [DEDUCED, log entry 28] -/
def State.toConfig (s : State) (p : Nat) : State :=
  (s.setF (pB p) LNK_P_STATUS.STATE 2).modPort p fun q =>
    { q with sent := false, ts2 := false, lanes := q.lanes.map (fun e => (e.1, { e.2 with run := 0, good := (0, 0), ok := (0, 0), ts2 := (255, 0) })),
             rxok := 0, peer := 0, w := 0 }

/-- Enters ACTIVE with width w: what comes up, what is raised (R278), how the packet layer starts (R302, R305, R306). -/
def State.toActive (s : State) (p w : Nat) : State :=
  let q := s.port p
  let old := if s.isUp p then maxwLanes (s.getF (pB p) LNK_P_STATUS.WIDTH) else 0
  let s := (s.awake p).setFs (pB p) [(LNK_P_STATUS.STATE, 5), (LNK_P_STATUS.GEN, q.gen), (LNK_P_STATUS.WIDTH, widthCode w),
    (LNK_P_STATUS.PTYPE, s.getF (pB p) LNK_P_PARTNER.DEVTYPE % 2)]
  let took (tx : Bool) : List Nat :=
    let sp := if tx then q.sp1.1 else q.sp1.2
    if sp = 7 then [] else (List.range w).filter fun k => s.lmap p tx k = sp
  let s := (s.spareOk p).setF (pB p) LNK_P_STATUS.SPARED (b2n (decide (took true ≠ [] ∨ took false ≠ [])))
  let s := if q.recov then s.modPort p Port.sendCredit
    else ((s.portDown p).incSat (pB p) LNK_P_CNT.TRAINS 1).modPort p Port.initPackets
  let s := (s.setUp p true).modPort p fun g => { g with recov := false, eq := false, w1 := 0, sent := false, ts2 := false }
  if q.recov then (if w < old then s.degraded p 2 else s)
  else
    let s := if q.eq then
        (took false).foldl (fun s k => s.laneSpared p k true) ((took true).foldl (fun s k => s.laneSpared p k false) s)
      else s
    let s := if q.gen < s.commonGen p (s.maxGen p) then s.degraded p 1 else s
    if w < min (s.maxW p) (s.peerW p) then s.degraded p 2 else s

/-! ### CONFIG (R274, R275, R278) -/

/-- The width that both sides compute. -/
def State.widthOf (s : State) (p : Nat) : Nat :=
  let q := s.port p
  let m := min (min (s.maxW p) (s.peerW p)) (min (popCount 5 q.peer) (popCount 5 q.rxok))
  if 4 ≤ m then 4 else if 2 ≤ m then 2 else m

/-- 8 TS1 with the same RXOK: the width is computed, the transmit lanes are assigned; no width after EQ falls back a generation (R278). -/
def State.assignTx (s : State) (p : Nat) : State :=
  let w := s.widthOf p
  let q := s.port p
  if w = 0 then (if q.eq ∧ ¬ q.recov ∧ 1 < q.gen then (s.setF (pB p) LNK_P_STATUS.CAPGEN (q.gen - 1)).toDetect p true else s.toDetect p true)
  else
    let l := bitsSet 5 (s.port p).peer
    let sp := if s.isSet (pB p) LNK_P_CTRL.SPARE_EN ∧ s.isSet (pB p) LNK_P_PARTNER.SPARE_CAP then l.getD w 7 else 7
    (s.setMap p true (l.take w) sp).modPort p fun q => { q with w := w }

/-- Receive lanes that carry logical lane k (4 the spare) after n TS2 in succession. -/
def Port.rxOf (q : Port) (k n : Nat) : List Nat :=
  (List.range 5).filter fun l => decide ((q.lane l).ts2.1 = k ∧ n ≤ (q.lane l).ts2.2)

/-- CONFIG is complete: 16 TS2 on every assigned lane and the spare, and 16 sent after the first received. -/
def Port.configDone (q : Port) : Bool :=
  decide (q.w ≠ 0) && q.sent && (List.range q.w).all (fun k => decide (q.rxOf k 16 ≠ [])) &&
    (q.rxOf 4 1).all fun l => decide (16 ≤ (q.lane l).ts2.2)

/-- CONFIG ends: the receive map, then SPEED, ACTIVE, or a fallback of one generation. -/
def State.configExit (s : State) (p : Nat) : State :=
  let q := s.port p
  if ¬ q.configDone then s
  else
    let s := s.setMap p false ((List.range q.w).map fun k => (q.rxOf k 16).headD 7) ((q.rxOf 4 16).headD 7)
    let g := s.target p
    if ¬ q.recov ∧ q.gen < g then
      let s := (List.range 5).foldl (fun s l => s.setFs (lB p l) [(LNK_P_L_STATUS.SLOCK, 0), (LNK_P_L_STATUS.BLOCK, 0)]) s
      (s.setF (pB p) LNK_P_STATUS.STATE 3).modPort p fun q =>
        { q with w1 := q.w, sp1 := (s.lmap p true 4, s.lmap p false 4), sent := false, ts2 := false }
    else if ¬ q.recov ∧ q.eq ∧ q.w < q.w1 ∧ 1 < q.gen then
      (s.setF (pB p) LNK_P_STATUS.CAPGEN (q.gen - 1)).toDetect p true
    else
      let s := if ¬ q.recov ∧ ¬ q.eq then s.modPort p fun q => { q with sp1 := (s.lmap p true 4, s.lmap p false 4) } else s
      s.toActive p q.w

/-! ### EQ (R276, R277) -/

/-- PRE, MAIN, POST keep the limits of R277. -/
def coefOk (pre main post : Nat) : Bool :=
  decide (pre ≤ 6 ∧ 16 ≤ main ∧ main ≤ 32 ∧ post ≤ 12 ∧ pre + main + post ≤ 32 ∧ pre + post + 8 ≤ main)

def State.setCoef (s : State) (p l pre main post : Nat) : State :=
  s.setFs (lB p l) [(LNK_P_L_TXEQ.PRE, pre), (LNK_P_L_TXEQ.MAIN, main), (LNK_P_L_TXEQ.POST, post)]

/-- The preset in use: one that breaks a limit is replaced by the default. -/
def State.preset (s : State) (p : Nat) : Nat × Nat × Nat :=
  let a := s.getF (pB p) LNK_P_TXPRESET.PRE
  let b := s.getF (pB p) LNK_P_TXPRESET.MAIN
  let c := s.getF (pB p) LNK_P_TXPRESET.POST
  if coefOk a b c then (a, b, c) else (0, 28, 4)

/-- A tap after one move, and whether it was asked to move. -/
def moveTap (v : Nat) (m : BitVec 2) : Int := if m = 1 then (v : Int) + 1 else if m = 2 then (v : Int) - 1 else v
def moved (m : BitVec 2) : Bool := decide (m = 1 ∨ m = 2)

/-- The transmit lane paired with receive lane l: it carries the same logical lane, or is the other spare (R274). -/
def State.paired (s : State) (p l : Nat) : Option Nat :=
  ((List.range 5).find? fun k => decide (s.lmap p false k = l)).map fun k => s.lmap p true k

/-- The training set that port p sends on transmit lane j (R270, R273 to R276): the module supports every rate and sparing. [DEDUCED, log entry 70] -/
def State.tsSent (s : State) (p j : Nat) (ts2 : Bool) : Ts :=
  let q := s.port p
  let st := s.pst p
  let of (f : Fld) : Nat := s.getF (lB p j) f
  let rx := (List.range 5).find? fun l => s.role p false l != 0 && s.paired p l == some j
  let x := if st = 4 then (rx.map q.lane).getD {} else {}
  { lane := BitVec.ofNat 8 (if ts2 then ((List.range 5).find? fun k => decide (s.lmap p true k = j)).getD 255 else j)
    rates := 7, spareCap := true, maxw := BitVec.ofNat 2 (s.getF (pB p) LNK_P_CTRL.MAXW)
    rxok := BitVec.ofNat 5 (if st = 1 then 0 else q.rxok), devtype := 0
    speed := ts2 && decide (st = 2) && !q.recov && decide (q.gen < s.target p)
    hotrst := decide (st = 7), disable := decide (q.pend = 1), loopback := decide (q.pend = 2)
    req := x.req, valid := x.valid, fin := decide (st = 4) && rx.any fun l => q.doneTx.testBit l
    eqstat := BitVec.ofNat 6 (q.lane j).eqstat, pre := BitVec.ofNat 3 (of LNK_P_L_TXEQ.PRE), post := BitVec.ofNat 4 (of LNK_P_L_TXEQ.POST)
    main := BitVec.ofNat 6 (of LNK_P_L_TXEQ.MAIN), reqTag := BitVec.ofNat 2 x.reqTag, ackTag := BitVec.ofNat 2 ((q.lane j).ackTag.getD 0) }

/-- A request of receive lane l is sent, with a new REQTAG (R276). -/
def State.eqAsk (s : State) (p l : Nat) (mv : EqMove) : State :=
  s.modPort p fun q => q.modLane l fun x => { x with reqTag := (x.reqTag + 1) % 4, req := mv, valid := true }

/-- Receive lane l adapts: its CTLE and its DFE settle at values that are open (R273, R276). [DESIGN CHOICE, log entry 71] -/
def State.adaptLane (s : State) (p l : Nat) (ctle : Bool) : State :=
  let r := s.draw 8
  let s := r.2.setF (lB p l) LNK_P_L_RXEQ.DFE (r.1 % 16)
  if ctle then s.setF (lB p l) LNK_P_L_RXEQ.CTLE (r.1 / 16) else s

/-- EQ is over: DONE sent and received on every lane in use, or the time-out, and every receive lane checked: CONFIG follows. [DEDUCED, log entry 31] -/
def State.eqExit (s : State) (p : Nat) : State :=
  let q := s.port p
  let rx := s.usedLanes p false
  let tx := s.usedLanes p true
  let subset (a b : Nat) : Bool := (bitsSet 5 a).all fun l => b.testBit l
  if s.pst p = 4 ∧ (q.late ∨ (subset rx q.doneTx ∧ subset tx q.doneRx)) ∧ subset rx q.checked then
    (s.modPort p fun q => { q with eq := true }).toConfig p
  else s

end Sys2Proof.Machine
end

