-- ==== Sys2Proof/Machine/EngineOps.lean ====
section
/-! DEFINITION. The channel engine (chapter 5): sequence words and their checks (R101, R107), timing sets (R104), vectors, drivers and
compares (R92, R100 to R106, R150), effects at vector boundaries (R115 to R117), holds (R111 to R114), the end of a run (R130). -/

namespace Sys2Proof.Machine

/-! ### Sequence words (R107) -/

def swNOP : Nat := 0x00
def swVECI : Nat := 0x01
def swVECD : Nat := 0x02
def swVECS : Nat := 0x03
def swVREP : Nat := 0x04
def swLOOP : Nat := 0x08
def swENDL : Nat := 0x09
def swCALL : Nat := 0x0C
def swRET : Nat := 0x0D
def swJMP : Nat := 0x10
def swBR : Nat := 0x11
def swMATCH : Nat := 0x14
def swWAIT : Nat := 0x15
def swBAR : Nat := 0x16
def swTSLD : Nat := 0x18
def swLVL : Nat := 0x19
def swMEAS : Nat := 0x1C
def swEVT : Nat := 0x1D
def swFLG : Nat := 0x1E
def swSEG : Nat := 0x24
def swSTALL : Nat := 0x25
def swSTRM : Nat := 0x26
def swSEND : Nat := 0x27
def swHALT : Nat := 0x3F

/-- The opcode of a sequence word. -/
def swOp (w : Nat) : Nat := bits w 63 58

/-- The operand fields of an opcode (top bit, bottom bit); none where it is reserved. -/
def swFields (op : Nat) : Option (List (Nat × Nat)) :=
  match op with
  | 0x00 => some []
  | 0x01 => some [(57, 53), (52, 49), (47, 0)]
  | 0x02 => some [(57, 53), (52, 36), (12, 0)]
  | 0x03 => some [(57, 53), (52, 36)]
  | 0x04 => some [(57, 53), (52, 49), (31, 0)]
  | 0x08 => some [(57, 56), (31, 0)]
  | 0x09 => some [(57, 56), (12, 0)]
  | 0x0C => some [(12, 0)]
  | 0x0D => some []
  | 0x10 => some [(12, 0)]
  | 0x11 => some [(57, 56), (55, 55), (54, 54), (53, 53), (52, 47), (12, 0)]
  | 0x14 => some [(57, 56), (55, 55), (52, 47), (46, 39), (31, 0)]
  | 0x15 => some [(57, 56), (55, 52), (51, 47), (31, 0)]
  | 0x16 => some [(57, 54), (53, 50), (49, 45), (31, 0)]
  | 0x18 => some [(57, 53), (12, 0)]
  | 0x19 => some [(57, 54), (53, 53), (44, 32), (31, 0)]
  | 0x1C => some [(57, 56), (55, 55), (54, 54), (19, 16), (10, 8), (6, 4), (3, 0)]
  | 0x1D => some [(57, 50), (49, 49), (48, 48)]
  | 0x1E => some [(57, 56), (55, 48), (47, 47)]
  | 0x24 => some [(57, 46), (45, 42), (41, 37)]
  | 0x25 => some [(28, 16), (12, 0)]
  | 0x26 => some []
  | 0x27 => some []
  | 0x3F => some [(15, 0)]
  | _ => none

/-- The mask of a list of fields. -/
def fieldsMask (l : List (Nat × Nat)) : Nat := l.foldl (fun m f => m + (2 ^ (f.1 + 1) - 2 ^ f.2)) 0

/-- A bit that the word's layout reserves is set. -/
def swReservedBit (w : Nat) : Bool :=
  match swFields (swOp w) with
  | some fs => (w % 2 ^ 58) &&& (2 ^ 58 - 1 - fieldsMask fs) != 0
  | none => false

/-- Words allowed in a stored program, in a stream, in a MATCH body (R107, R112). -/
def swStored (op : Nat) : Bool := decide (op ≠ swVECS ∧ op ≠ swSEND)
def swStream (op : Nat) : Bool :=
  decide (op ∈ [swNOP, swVECI, swVECS, swVREP, swLVL, swMEAS, swEVT, swFLG, swSEG, swSTALL, swSEND, swHALT])
def swBody (op : Nat) : Bool := decide (op ∈ [swVECI, swVECD, swVREP, swNOP, swLVL, swMEAS, swEVT, swFLG])

/-- Condition codes of BR and MATCH that are defined (R108). -/
def condDefined (k : Nat) : Bool := k % 2 == 0 && (decide (k ≤ 0x10) || decide (0x20 ≤ k ∧ k ≤ 0x2E))

/-- Pin codes that are defined (R102). -/
def codeDefined (k : Nat) : Bool := decide (k ≤ 0xA)

/-- Code i of vector data packed sixteen codes to a word, or of an inline word. -/
def packedCode (w i : Nat) : Nat := bits w (4 * i + 3) (4 * i)

/-! ### The store, the group, the program counter -/

/-- The members that run with leader c (R118, R120): all of its group, or c alone. -/
def State.mem (s : State) (c : Nat) : List Nat := s.group c

/-- The word at address a of channel c's sequence store (R98). -/
def State.seqWord (s : State) (c a : Nat) : Nat := s.sramN (seqBase c + 8 * a) 8

def State.pc (s : State) (c : Nat) : Nat := s.getF (chB c) CHN_SEQ_PC.PC

/-- A field of every member's register. -/
def State.setMem (s : State) (c : Nat) (f : Fld) (v : Nat) : State := (s.mem c).foldl (fun s m => s.setF (chB m) f v) s

def State.setPc (s : State) (c a : Nat) : State := s.setMem c CHN_SEQ_PC.PC a

def State.setEngState (s : State) (c st : Nat) : State := s.setMem c CHN_SEQ_STATUS.STATE st

/-- Address of word k of channel c's stream ring, counted from its next unread word (R125, R126). -/
def State.strmAddr (s : State) (c k : Nat) : Nat :=
  s.getF (chB c) CHN_STRM_BASE.BASE * 32 + ((s.eng c).rd + k) % atLeast1 (s.getF (chB c) CHN_STRM_SIZE.WORDS)

def State.fill (s : State) (c : Nat) : Nat := s.getF (chB c) CHN_STRM_FILL.WORDS

/-- The word that member m has at the place leader c's engine is at, k words on. -/
def State.memWord (s : State) (c m k : Nat) : Nat :=
  if (s.eng c).ret.isSome then s.seqWord m (s.strmAddr m k) else s.seqWord m (s.pc c + k)

/-- Members whose ring holds fewer than n words. -/
def State.short (s : State) (c n : Nat) : List Nat := (s.mem c).filter fun m => decide (s.fill m < n)

/-! ### Timing sets (R104, R105) -/

/-- A time of a timing-set register in units. -/
def State.tsTime (s : State) (c ts : Nat) (coarse fine : Fld) : Nat :=
  let b := chB c + 0x20 * ts
  200 * s.getF b coarse + s.getF b fine

/-- Timing set ts of channel c. -/
def State.tsVals (s : State) (c ts : Nat) : TsVals :=
  { per := s.tsTime c ts CHN_TS_PER.COARSE CHN_TS_PER.FINE, d1 := s.tsTime c ts CHN_TS_D1.COARSE CHN_TS_D1.FINE,
    d2 := s.tsTime c ts CHN_TS_D2.COARSE CHN_TS_D2.FINE, d3 := s.tsTime c ts CHN_TS_D3.COARSE CHN_TS_D3.FINE,
    s1 := s.tsTime c ts CHN_TS_S1.COARSE CHN_TS_S1.FINE, s2 := s.tsTime c ts CHN_TS_S2.COARSE CHN_TS_S2.FINE,
    fmt := s.getF (chB c + 0x20 * ts) CHN_TS_FMT.FMT + 4 * s.getF (chB c + 0x20 * ts) CHN_TS_FMT.STRB }

/-- The constraints of R104 on timing set ts of channel c. -/
def State.tsOk (s : State) (c ts : Nat) : Bool :=
  let b := chB c + 0x20 * ts
  let v := s.tsVals c ts
  let fines := [CHN_TS_PER.FINE, CHN_TS_D1.FINE, CHN_TS_D2.FINE, CHN_TS_D3.FINE, CHN_TS_S1.FINE, CHN_TS_S2.FINE]
  decide (1 ≤ s.getF b CHN_TS_PER.COARSE) && fines.all (fun f => decide (s.getF b f ≤ 199)) &&
    [v.d1, v.d2, v.d3, v.s1, v.s2].all (fun e => decide (e < v.per)) && decide (v.d1 ≤ v.d2 ∧ v.s1 ≤ v.s2)

/-- Every member has the period of the leader in timing set ts (R118). -/
def State.tsEqual (s : State) (c ts : Nat) : Bool :=
  (s.mem c).all fun m => s.getF (chB m + 0x20 * ts) CHN_TS_PER.COARSE == s.getF (chB c + 0x20 * ts) CHN_TS_PER.COARSE &&
    s.getF (chB m + 0x20 * ts) CHN_TS_PER.FINE == s.getF (chB c + 0x20 * ts) CHN_TS_PER.FINE

/-- The first member whose timing set ts is invalid; the leader where periods differ. -/
def State.tsBad (s : State) (c ts : Nat) : Option Nat :=
  match (s.mem c).find? fun m => !s.tsOk m ts with
  | some m => some m
  | none => if s.tsEqual c ts then none else some c

/-! ### Checks of a word before it is issued (R101) -/

/-- Value width of a level parameter (R115). -/
def levelWidth (param : Nat) : Nat := [16, 16, 16, 14, 14, 20].getD param 32

/-- The value a LVL sets in member m. -/
def State.levelValue (s : State) (m w : Nat) : Nat :=
  if bitB w 53 then s.seqWord m (bits w 44 32) % 2 ^ 32 else bits w 31 0

/-- A member, if any, in which a field of the word has a reserved or out-of-range value (PERR 0x6). -/
def State.fieldBad (s : State) (c w : Nat) : Option Nat :=
  let op := swOp w
  let lead (b : Bool) : Option Nat := if b then some c else none
  if op = swVECI then
    let n := bits w 52 49
    if n = 0 ∨ 12 < n then some c
    else (s.mem c).find? fun m => !((List.range n).all fun i => codeDefined (packedCode (s.memWord c m 0) i))
  else if op = swVECD then
    let n := bits w 52 36
    if n = 0 ∨ 98304 < n then some c
    else if 0x1800 < bits w 12 0 + (n + 15) / 16 then none
    else (s.mem c).find? fun m => !((List.range n).all fun i => codeDefined (packedCode (s.seqWord m (bits w 12 0 + i / 16)) (i % 16)))
  else if op = swVECS then lead (decide (bits w 52 36 = 0 ∨ 98304 < bits w 52 36))
  else if op = swVREP then lead (!codeDefined (bits w 52 49))
  else if op = swBR then lead (decide (bits w 57 56 = 3) || !condDefined (bits w 52 47))
  else if op = swMATCH then lead (decide (bits w 57 56 = 3) || !condDefined (bits w 52 47) || decide (bits w 46 39 = 0))
  else if op = swWAIT then lead (decide (bits w 57 56 = 3) || !codeDefined (bits w 55 52))
  else if op = swBAR then lead (!codeDefined (bits w 53 50))
  else if op = swLVL then
    if 5 < bits w 57 54 then some c
    else if bitB w 53 ∧ 0x1800 ≤ bits w 44 32 then none
    else (s.mem c).find? fun m => decide (2 ^ levelWidth (bits w 57 54) ≤ s.levelValue m w)
  else if op = swMEAS then
    lead (decide (bits w 57 56 = 3) || (decide (bits w 57 56 = 2) && decide (8 < bits w 3 0 ∨ 4 < bits w 6 4)))
  else if op = swFLG then lead (decide (bits w 57 56 = 3))
  else if op = swSEG then lead (!codeDefined (bits w 45 42))
  else none

/-- An address of the word, or of the last data word it implies, lies outside the store (PERR 0x2). -/
def swAddrBad (w : Nat) : Bool :=
  let op := swOp w
  let a := bits w 12 0
  if op = swVECD then decide (0x1800 < a + (bits w 52 36 + 15) / 16)
  else if op = swENDL ∨ op = swCALL ∨ op = swJMP ∨ op = swBR then decide (0x1800 ≤ a)
  else if op = swTSLD then decide (0x1800 < a + 4)
  else if op = swLVL then bitB w 53 && decide (0x1800 ≤ bits w 44 32)
  else false

/-- The timing set in which a word issues vectors, if it does. -/
def swTs (w : Nat) : Option Nat :=
  let op := swOp w
  if op = swVECI ∨ op = swVECD ∨ op = swVECS then some (bits w 57 53)
  else if op = swVREP then (if bits w 31 0 = 0 then none else some (bits w 57 53))
  else if op = swWAIT then some (bits w 51 47)
  else if op = swBAR then some (bits w 49 45)
  else none

/-- The first error of R101 that the word w at leader c's place has: the channel and PERR. [DESIGN CHOICE, log entry 14] -/
def State.wordErr (s : State) (c w : Nat) : Option (Nat × Nat) :=
  let e := s.eng c
  let op := swOp w
  let placed := (if e.ret.isSome then swStream op else swStored op) && (e.loop.isNone || swBody op) &&
    (decide (op ≠ swBAR) || s.isSet (chB c) CHN_SEQ_GRP.BOUND)
  if (swFields op).isNone then some (c, 1)
  else if !placed then some (c, 5)
  else if swReservedBit w then some (c, 6)
  else match s.fieldBad c w with
    | some m => some (m, 6)
    | none =>
      if swAddrBad w then some (c, 2)
      else match (swTs w).bind (s.tsBad c) with
        | some m => some (m, 7)
        | none =>
          if op = swCALL ∧ 8 ≤ e.stack.length then some (c, 3)
          else if op = swRET ∧ e.stack = [] then some (c, 4)
          else none

/-! ### The driver and pattern compare (R92, R102, R103, R105, R150) -/

/-- What a code does to the driver within its period: edges (vernier line, offset, state), in order, from the state that the period finds;
line 5, without a vernier, for the start of a period. [DESIGN CHOICE, log entry 66] -/
def pinEdges (prev : Drv) (code : Nat) (ts : TsVals) : List (Nat × Nat × Drv) :=
  let d := if code = 1 then Drv.hi else .lo
  let n := if code = 1 then Drv.lo else .hi
  if code ≤ 1 then
    match ts.fmt % 4 with
    | 0 => [(0, ts.d1, d)]
    | 1 => [(0, ts.d1, d), (1, ts.d2, .lo)]
    | 2 => [(0, ts.d1, d), (1, ts.d2, .hi)]
    | _ => (if prev = .lo ∨ prev = .hi then [(5, 0, n)] else []) ++ [(0, ts.d1, d), (1, ts.d2, n)]
  else if code = 5 then []
  else if code = 2 ∨ code = 3 ∨ code = 4 ∨ code = 6 then [(2, ts.d3, .z)]
  else [(2, ts.d3, .vtt)]

/-- Static state of an idle code after the last vector (R103). -/
def staticDrv (prev : Drv) (code : Nat) : Drv :=
  if code = 0 then .lo else if code = 1 then .hi else if code = 5 then prev
  else if code = 2 ∨ code = 3 ∨ code = 4 ∨ code = 6 then .z else .vtt

/-- The pattern driver acts on channel m's pin: PAT mode, not held by a trip (R30, R87, R103). -/
def State.drvLive (s : State) (m : Nat) : Bool := decide ((s.fe m).mode = 4) && !(s.fe m).drvTrip

/-- Internal time u of an edge of channel m that is to lie at linear epoch time x: lines 0 to 2 drive, 3 and 4 strobe (R148, R149, R184). -/
def State.edgeTime (s : State) (m line x : Nat) : Int :=
  let k := s.edgeTim m
  let b := feB m
  let u : Int := if line < 3 then (x : Int) - k.drv - signed 12 (s.getF b CHN_TIM_UOFS.DRV) else (x : Int) + k.stb + signed 12 (s.getF b CHN_TIM_UOFS.STB)
  (u - s.getF 0 GLB_SYNC_STATUS.EPH) % (linW : Int)

/-- A vernier line of channel m launches an edge that is to lie at linear epoch time x: from the TCLK edge before its internal time, at the tap of
the inverse table (R141, R148). -/
def State.launch (s : State) (m line x : Nat) : State :=
  if 5 ≤ line then s
  else
    let u := (s.edgeTime m line x).toNat
    let tap := ((s.edgeTim m).inv.getD line []).getD (u % 200) (u % 200)
    s.modTdc m fun d => { d with launches := tabSet (fun _ => (0, 0)) d.launches line (u / 200, tap) }

/-- Channel m's driver takes a new level at linear time t: one closer than 64 units to the transition before it sets MERGE (R150); a time base
set back since leaves no transition before it. -/
def State.driveTo (s : State) (m : Nat) (d : Drv) (t : Int) : State :=
  if (s.eng m).stat = d then s
  else
    let s := s.modEng m fun g => { g with stat := d }
    let close := match (s.tdc m).lastDrive with | some u => decide (u ≤ t ∧ t - u < 64) | none => false
    let s := s.modTdc m fun x => { x with lastDrive := some t }
    if close then s.setF (feB m) CHN_TIM_STATUS.MERGE 1 else s

/-- At the boundary x that ends a run channel m's driver takes its static state, or high-Z where the run drove nothing (R103, R150). -/
def State.driveEnd (s : State) (m : Nat) (d : Drv) (x : Nat) : State :=
  if s.drvLive m then s.driveTo m d x else s.modEng m fun e => { e with stat := .z }

/-- Channel m's driver goes through a period that starts at p, while it acts on the pin (R30, R87, R103). -/
def State.drivePin (s : State) (p : Nat) (m code : Nat) (ts : TsVals) : State :=
  if ¬ s.drvLive m then s
  else (pinEdges (s.eng m).stat code ts).foldl (fun s e => (s.launch m e.1 (p + e.2.1)).driveTo m e.2.2 (p + e.2.1 : Nat)) s

/-- A code compares (R102). -/
def codeCompares (code : Nat) : Bool := decide (code ∈ [2, 3, 4, 8, 9, 0xA])

/-- The strobes of channel m in a period that starts at p: at S1, and for a window from S1 to S2 (R105, R144, R148). -/
def State.strobePin (s : State) (p : Nat) (m code : Nat) (ts : TsVals) : State :=
  let window := decide (4 ≤ ts.fmt)
  let s := s.modEng m fun e => { e with win := if codeCompares code ∧ window then some (p + ts.s1, p + ts.s2) else none }
  if ¬ codeCompares code then s
  else
    let s := s.launch m 3 (p + ts.s1)
    if window then s.launch m 4 (p + ts.s2) else s

/-- A raw pair (LO, HI) is what a compare code expects (R92). -/
def comparePass (code : Nat) (lo hi : Bool) : Bool :=
  if code = 2 ∨ code = 8 then !lo
  else if code = 3 ∨ code = 9 then hi
  else if code = 4 ∨ code = 0xA then lo && !hi
  else true

/-- Whether a pin fails its compare; seen: the raw pairs at its strobe, one for an edge strobe, each through a window strobe; none given:
the pair as it stands. -/
def State.pinFails (s : State) (p : Pin) (seen : List (Bool × Bool)) : Bool :=
  let b := feB p.chan
  let seen := if seen = [] then [((s.cmp p.chan 0).raw, (s.cmp p.chan 1).raw)] else seen
  seen.any fun x => !comparePass p.code (x.1 && s.isSet b (cfEN 0)) (x.2 && s.isSet b (cfEN 1))

/-- A failing vector of channel m (R92). -/
def State.pinFailed (s : State) (m : Nat) : State :=
  (s.setF (chB m) CHN_SEQ_STATUS.FAIL 1).incSat (feB m) CHN_CMP_FAILCNT.COUNT 1

/-- A vector period of channel m begins: PCLR latches clear at their next sample edge (R90). -/
def State.periodClr (s : State) (m : Nat) : State :=
  let one (s : State) (k : Nat) : State :=
    if s.isSet (feB m) (cfEN k) && s.isSet (feB m) (cfPCLR k) then s.modCmp m k fun x => { x with pclr := true } else s
  one (one s 0) 1

/-! ### Effects at a vector boundary (R115 to R117) -/

/-- One level of channel m (R115). -/
def State.setLevel (s : State) (m param v : Nat) : State :=
  let b := chB m
  match param with
  | 0 => s.setF b CHN_DRV_LVL.VIH v
  | 1 => s.setF b CHN_DRV_LVL.VIL v
  | 2 => s.setF b CHN_DRV_VTT.VTT v
  | 3 => s.setF (feB m) CHN_CMP_THR.HI v
  | 4 => s.setF (feB m) CHN_CMP_THR.LO v
  | _ =>
    let u := s.phys m
    let sine := s.isSet (feB u) CHN_SINE_CTRL.EN || s.isSet (feB u) CHN_SINE_CTRL.RUN
    if forces (s.fe u).mode ∧ ¬ sine then
      (if s.feOn u then s.setTarget u v else s.setF (feB u) CHN_FE_TARGET.CODE v)
    else s.setF b CHN_SEQ_STATUS.LVL_IGN 1

/-- One converter's part of a MEAS (R116). -/
def State.measOne (s : State) (m kind : Nat) (req : Inj) (kept : Bool) : State :=
  if kind = 0 then s.adcStart m
  else if kind = 1 then s.adcStop m
  else if kept then (s.modAdc m fun a => { a with reserved := a.reserved - 1 }).adcPlace m req
  else if s.adcRoom m then s.adcPlace m req
  else s.setF (chB m) CHN_SEQ_STATUS.MEAS_LOST 1

/-- User and fail flags of channel m (R117). -/
def State.setFlags (s : State) (m op mask : Nat) (clr : Bool) : State :=
  let f := s.getF (chB m) CHN_SEQ_STATUS.FLAGS
  let f' := if op = 0 then Nat.xor f (f &&& mask) else if op = 1 then f ||| mask else Nat.xor f mask
  let s := s.setF (chB m) CHN_SEQ_STATUS.FLAGS f'
  if clr then s.setF (chB m) CHN_SEQ_STATUS.FAIL 0 else s

/-- An effect of leader c's program at the boundary at linear epoch time p. [DEDUCED, log entry 15] -/
def State.act (s : State) (c p : Nat) (a : Act) : State :=
  match a with
  | .level param vals => vals.foldl (fun s e => s.setLevel e.1 param e.2) s
  | .meas kind chans req kept => chans.foldl (fun s m => s.measOne m kind req kept) s
  | .event code trg irq =>
    let b := chB c
    let s := if irq then
        (if s.isSet b CHN_SEQ_EVT.PEND then s.setF b CHN_SEQ_EVT.OVR 1 else s).setFs b [(CHN_SEQ_EVT.CODE, code), (CHN_SEQ_EVT.PEND, 1)]
      else s
    if trg then s.offer (c / 128) 3 (c % 128) code p false else s
  | .flags op mask clr => (s.mem c).foldl (fun s m => s.setFlags m op mask clr) s
  | .clearFail => s.setMem c CHN_SEQ_STATUS.FAIL 0

/-! ### The end of a run (R101, R123 to R125, R128, R130) -/

/-- Result of a run or stop: vectors, and a number above them. -/
def State.runResult (s : State) (c hi : Nat) : Nat := s.vcnt c + hi <<< 48

/-- The jump decided at leader c is taken: JBND, JREQ and the completion (R123). -/
def State.takeJump (s : State) (c : Nat) : State :=
  match (s.eng c).jump with
  | none => s
  | some j =>
    let s := s.setFs (chB c) [(CHN_SEQ_JBND.SNUM, j.snum), (CHN_SEQ_JBND.TARGET, j.target), (CHN_SEQ_JREQ.PEND, 0)]
    (s.modEng c fun e => { e with jump := none }).endCmd j.cmd { status := scOK, result := j.count + j.snum <<< 48 }

/-- The stream commands of channel m end with the run (R125). -/
def State.endStreams (s : State) (m : Nat) (e : Ending) : State :=
  (s.eng m).strm.foldl (fun s x =>
    match s.cmd? x.cmd with
    | some k => s.endCmd x.cmd { e with result := k.acc }
    | none => s) s

/-- The run of leader c ends (R130): its pins, its commands, its engines. -/
def State.endRun (s : State) (c : Nat) (f : RunEnd) : State :=
  let s := match (s.eng c).jump with | some j => if j.left = 0 then s.takeJump c else s | none => s
  let e := s.eng c
  let ms := s.mem c
  let static := match f with | .halt _ => true | .boundary => true | _ => false
  let s := if static then e.acts.foldl (fun s a => s.act c e.next a) s else s
  let snum := s.getF (chB c) CHN_SEQ_PC.SNUM
  let st : Ending := match f with
    | .halt code => { status := scOK, result := s.runResult c code }
    | .boundary => { status := scABORTHOST, detail := 0x02, result := s.runResult c 0 }
    | .error _ _ => { status := scABORTFAULT, detail := 0x13, result := s.runResult c 0 }
    | .safe x => { x with result := s.runResult c 0 }
  let s := match e.run with | some r => s.endCmd r st | none => s
  let s := e.stops.foldl (fun s r => s.endCmd r { status := scOK, result := s.runResult c snum }) s
  let lost : Ending := { status := scSTATE, detail := 0x02 }
  let s := match e.jreq with | some r => s.endCmd r lost | none => s
  let s := match e.jump with | some j => s.endCmd j.cmd lost | none => s
  let st' : Ending := match f with | .halt _ => { status := scOK, partialDone := true } | _ => st
  let s := ms.foldl (fun s m =>
    let s := ((s.endStreams m st').tablesTake m).driveEnd m (if static then staticDrv (s.eng m).stat e.idle else .z) e.next
    s.idleEngine m (s.eng m).stat) s
  match f with
  | .error m k => (s.setF (chB m) CHN_SEQ_STATUS.PERR k).detect 0x13 scCHANNEL m k
  | _ => s

/-- The run will end so once its last issued vector is out: at once where none is out or waits (R101, R130). [DESIGN CHOICE, log entry 14] -/
def State.finishRun (s : State) (c : Nat) (f : RunEnd) : State :=
  let e := s.eng c
  if e.fresh ∧ e.queue = [] then s.endRun c f else s.modEng c fun e => { e with fin := some f }

/-- Underrun (R128): cause 0 with the members whose ring was short, or 1 with the leader. -/
def State.underrun (s : State) (c : Nat) : State :=
  let e := s.eng c
  let sh := if e.ret.isSome then s.short c 1 else []
  let cause := if sh = [] then 1 else 0
  let ms := s.mem c
  let s := s.endRun c (.safe { status := scABORTUNDERRUN, detail := cause })
  let s := ms.foldl (fun s m => s.setFs (chB m) [(CHN_SEQ_STATUS.UR, 1), (CHN_SEQ_STATUS.UR_CAUSE, cause)]) s
  (if sh = [] then [c] else sh).foldl (fun s m => s.detect 0x0A scCHANNEL m cause) s

/-! ### Issue -/

/-- Leader c's engine may issue its next word: it runs or starts, follows no Cobalt context, holds nothing and does not end. -/
def State.issuing (s : State) (c : Nat) : Bool :=
  let e := s.eng c
  let st := s.engState c
  decide (st = 1 ∨ st = 5) && e.run.isSome && e.ctx.isNone && e.hold.isNone && e.fin.isNone && e.vecs.isNone

/-- One word of member m's stream is issued: it leaves the ring; a buffer whose last word this is is done (R125). -/
def State.strmTake (s : State) (lead m : Nat) : State :=
  let s := s.setF (chB m) CHN_STRM_FILL.WORDS (s.fill m - 1)
  let size := atLeast1 (s.getF (chB m) CHN_STRM_SIZE.WORDS)
  let s := s.modEng m fun e => { e with rd := (e.rd + 1) % size }
  match (s.eng m).strm with
  | [] => s
  | x :: xs =>
    let s := if m = lead then s.modCmd x.cmd fun k => { k with acc := k.acc + 1 } else s
    if x.unissued ≤ 1 then (s.modEng m fun e => { e with strm := xs }).unbusyBy (fun k => Cmd.isRef x.cmd k) m
    else s.modEng m fun e => { e with strm := { x with unissued := x.unissued - 1 } :: xs }

/-- One word of the stream is issued in every member. -/
def State.strmNext (s : State) (c : Nat) : State :=
  let s := (s.mem c).foldl (fun s m => s.strmTake c m) s
  s.setPc c (s.strmAddr c 0)

/-- The engine holds (R99): state HOLD or STALL. -/
def State.holdOn (s : State) (c : Nat) (h : Hold) : State :=
  let st := match h.kind with | .stall _ => 3 | _ => 2
  (s.modEng c fun e => { e with hold := some h, pad := some (h.code, h.ts) }).setEngState c st

/-- A hold of the segment's idle vector. -/
def State.holdIdle (s : State) (c : Nat) (k : HoldKind) : State :=
  let e := s.eng c
  s.holdOn c { kind := k, code := e.idle, ts := e.its }

/-- Fetch goes on after the word just issued; the last word of a MATCH body starts the pause of its iteration (R112). -/
def State.advance (s : State) (c : Nat) : State :=
  let s := s.modEng c fun e => { e with part := 0 }
  if (s.eng c).ret.isSome then s.strmNext c
  else
    let s := s.setPc c (s.pc c + 1)
    match (s.eng c).loop with
    | none => s
    | some l =>
      let s := s.modEng c fun e => { e with loop := some { l with word := l.word + 1 } }
      if l.len ≤ l.word + 1 then s.holdIdle c .iteration else s

/-- Continues at address a of the stored program. -/
def State.goto (s : State) (c a : Nat) : State := (s.modEng c fun e => { e with part := 0 }).setPc c a

/-- A hold ends: the engine runs on; the next vector starts at the first period boundary at least 2 ECLK later, and the idle vector pads
until then (R111 to R114, R116, R127). -/
def State.holdEnd (s : State) (c : Nat) : State :=
  (s.modEng c fun e => { e with hold := none, resume := s.linNow + 1600 }).setEngState c 1

/-- Words that are not issued before the start: they may hold, branch on the present, or end the run. [DEDUCED, log entry 15] -/
def swAfterStart : List Nat := [swWAIT, swBAR, swMATCH, swBR, swSTALL, swMEAS, swHALT]

/-- Issues the word at leader c's place if it is of opcode op: a program error where R101 finds one, else its effect. [DESIGN CHOICE, log entry 14] -/
def State.issue (s : State) (c op : Nat) (effect : Nat → State → State) : State :=
  if !s.issuing c || (decide (s.engState c = 5) && decide (op ∈ swAfterStart)) then s
  else
    let e := s.eng c
    if e.ret.isNone ∧ 0x1800 ≤ s.pc c then s.finishRun c (.error c 2)
    else if e.ret.isSome ∧ s.short c 1 ≠ [] then s
    else
      let w := s.memWord c c 0
      if (swFields (swOp w)).isSome ∧ swOp w ≠ op then s
      else if e.part = 0 then
        match s.wordErr c w with
        | some (m, k) => s.finishRun c (.error m k)
        | none => effect w s
      else effect w s

/-- An effect that waits for the next vector boundary. -/
def State.addAct (s : State) (c : Nat) (a : Act) : State := s.modEng c fun e => { e with acts := e.acts ++ [a] }

/-- One vector enters the queue with the effects issued before it. -/
def State.pushVec (s : State) (c ts : Nat) (code : Nat → Nat) : State :=
  let pins := (s.mem c).map fun m => ({ chan := m, code := code m, ts := s.tsVals m ts } : Pin)
  s.modEng c fun e => { e with queue := e.queue ++ [{ pins := pins, acts := e.acts, notBefore := e.resume }], acts := [] }

/-- Issues vectors part to n - 1 of a word as far as the queue of 128 has room (R100); whether all are issued. -/
def State.pushVecs (s : State) (c ts n : Nat) (code : Nat → Nat → Nat) : State × Bool :=
  let e := s.eng c
  let k := min (n - e.part) (128 - e.queue.length)
  let s := (List.range k).foldl (fun s i => s.pushVec c ts fun m => code m (e.part + i)) s
  (s.modEng c fun e => { e with part := e.part + k }, decide (n ≤ e.part + k))

/-! ### Conditions (R108) -/

/-- Member m's condition. -/
def State.condOf (s : State) (m k : Nat) : Bool :=
  let b := feB m
  let hi := s.isSet b (csVALID 1)
  let lo := s.isSet b (csVALID 0)
  if k = 0x00 then s.isSet (chB m) CHN_SEQ_STATUS.FAIL
  else if k = 0x02 then hi && s.isSet b (csLATCH 1)
  else if k = 0x04 then lo && s.isSet b (csLATCH 0)
  else if k = 0x06 then hi && s.isSet b (csFOUT 1)
  else if k = 0x08 then lo && !s.isSet b (csFOUT 0)
  else if k = 0x0A then lo && hi && s.isSet b (csFOUT 0) && !s.isSet b (csFOUT 1)
  else if k = 0x0C then s.isSet b CHN_ADC_STATUS.LIM
  else if k = 0x0E then s.isSet b CHN_ADC_STATUS.RDY
  else if k = 0x10 then s.isSet (tileBase (m / 128)) TRG_STATUS.FIRED
  else (s.getF (chB m) CHN_SEQ_STATUS.FLAGS).testBit ((k - 0x20) / 2)

/-- The members whose condition SCOPE reads. -/
def State.scoped (s : State) (c scope : Nat) : List Nat := if scope = 0 then [c] else s.mem c

/-- The condition of a BR or MATCH word (R108), NEG included; each member's own condition by f. -/
def State.condHolds (s : State) (c w : Nat) (f : Nat → Bool) : Bool :=
  let ms := s.scoped c (bits w 57 56)
  let v := if bits w 57 56 = 1 then ms.any f else ms.all f
  v != bitB w 55

/-- A BR takes its branch or falls through; CLR clears the fail flags that were read (R111). -/
def State.branch (s : State) (c w : Nat) (holds : Bool) : State :=
  let s := if bitB w 54 then (s.scoped c (bits w 57 56)).foldl (fun s m => s.setF (chB m) CHN_SEQ_STATUS.FAIL 0) s else s
  if holds then s.goto c (bits w 12 0) else s.advance c

/-- A time-out of MATCH, WAIT or BAR (R112 to R114), in the leader alone. [DESIGN CHOICE, log entry 65] -/
def State.timeOut (s : State) (c : Nat) : State := s.setFs (chB c) [(CHN_SEQ_STATUS.FAIL, 1), (CHN_SEQ_STATUS.TMO, 1)]

/-! ### Segment boundaries (R122 to R124, R131) -/

/-- The jump registered at leader c falls on the boundary that is decided now: outside a stream, none decided before it (R123). -/
def State.jumpFalls (s : State) (c : Nat) : Bool :=
  let e := s.eng c
  e.jreq.isSome && s.isSet (chB c) CHN_SEQ_JREQ.PEND && e.ret.isNone && e.jump.isNone

/-- A stop at the boundary decided now wins over a jump that falls on the same one (R124). -/
def State.stopWins (s : State) (c : Nat) : State :=
  match (s.eng c).jreq with
  | some r =>
    if s.jumpFalls c then
      ((s.setF (chB c) CHN_SEQ_JREQ.PEND 0).modEng c fun e => { e with jreq := none }).endCmd r { status := scABORTHOST, detail := 0x03 }
    else s
  | none => s

/-- The decision point of a segment, at the fetch of the word at its end: a registered stop, else a registered jump outside a stream,
else the next word. -/
def State.decision (s : State) (c : Nat) (next : State → State) : State :=
  let e := s.eng c
  if ¬ e.inSeg then next s
  else if e.bstop then (s.stopWins c).finishRun c .boundary
  else match e.jreq with
    | some r =>
      if s.jumpFalls c then
        let n := e.queue.length
        let j : Jump :=
          { left := n, count := s.vcnt c + n, snum := s.getF (chB c) CHN_SEQ_PC.SNUM, target := s.getF (chB c) CHN_SEQ_JREQ.TARGET, cmd := r,
            pc := s.pc c, stack := e.stack, loops := (List.range 4).map fun k => s.getF (chB c + 4 * k) CHN_SEQ_LOOP.COUNT,
            depth := s.getF (chB c) CHN_SEQ_STATUS.STACK, idle := e.idle, its := e.its }
        let keep := s.isSet (chB c) CHN_SEQ_JREQ.KEEP
        let s := s.modEng c fun e => { e with jump := some j, jreq := none, inSeg := false, stack := if keep then e.stack else [] }
        let s := if keep then s
          else (List.range 4).foldl (fun s k => s.setF (chB c + 4 * k) CHN_SEQ_LOOP.COUNT 0) (s.setF (chB c) CHN_SEQ_STATUS.STACK 0)
        s.goto c j.target
      else next s
    | none => next s

/-! ### Groups, barriers, stops -/

/-- An immediate stop of leader c's run is asked for: trap cause STOP (R131, R328). -/
def State.stopRun (s : State) (c : Nat) (e : Ending) : State :=
  (s.raiseTrap c 0).modEng c fun g => { g with stop := some (g.stop.getD e) }

/-- Group g of tile t participates in barrier bid. -/
def State.inBarrier (s : State) (t bid g : Nat) : Bool := (s.getF (tileBase t + 4 * bid) TIL_SEQ_BAR_MASK.GROUPS).testBit g

/-- The leader of group g of tile t holds at barrier bid. -/
def State.atBarrier (s : State) (t bid g : Nat) : Option Nat :=
  ((s.members t g).head?).bind fun c => match (s.eng c).hold with
    | some h => if h.kind = .barrier bid then some c else none
    | none => none

/-- Group of leader c arrives at, or leaves, a barrier. -/
def State.barArr (s : State) (c : Nat) (b : Bool) : State :=
  let t := tileBase (c / 128)
  s.setF t TIL_SEQ_BAR_ARR.GROUPS (setBit (s.getF t TIL_SEQ_BAR_ARR.GROUPS) (s.getF (chB c) CHN_SEQ_GRP.GROUP) b)

/-- The jump decided at leader c and not yet taken is withdrawn (R260): what was fetched beyond the boundary is dropped, a hold there ends,
and the fetch goes on at the word after the segment with the loops and the stack as they were. [DEDUCED, log entry 34] -/
def State.unjump (s : State) (c : Nat) : State :=
  match (s.eng c).jump with
  | none => s
  | some j =>
    let s := match (s.eng c).hold with
      | some h => (match h.kind with | .barrier _ => s.barArr c false | _ => s).setEngState c 1
      | none => s
    let s := (j.loops.zipIdx.foldl (fun s e => s.setF (chB c + 4 * e.2) CHN_SEQ_LOOP.COUNT e.1) s).setFs (chB c)
      [(CHN_SEQ_STATUS.STACK, j.depth), (CHN_SEQ_JREQ.PEND, 0)]
    (s.modEng c fun e =>
      { e with jump := none, queue := e.queue.take j.left, acts := [], vecs := none, stack := j.stack, idle := j.idle, its := j.its, inSeg := false,
               hold := none, loop := none, ret := none, fin := none }).goto c j.pc

/-! ### Vector periods (R100, R106) -/

/-- One member's part of a vector that starts at p, with what its comparators showed at the strobe: driver, compare. -/
def State.playPin (s : State) (p : Nat) (x : Pin) (seen : List (Bool × Bool)) : State :=
  let s := (((s.tablesTake x.chan).periodClr x.chan).drivePin p x.chan x.code x.ts).strobePin p x.chan x.code x.ts
  if s.pinFails x seen then s.pinFailed x.chan else s

/-- Adds one to the vector count of channel m. -/
def State.countVec (s : State) (m : Nat) : State :=
  let n := s.vcnt m + 1
  s.setFs (chB m) [(CHN_SEQ_VCNT_LO.COUNT, n), (CHN_SEQ_VCNT_HI.COUNT, n / 2 ^ 32)]

/-- The failing data bits F of a Cobalt cycle (R172). -/
def State.cycleMask (s : State) (v : Vec) (seen : List (List (Bool × Bool))) : Nat :=
  (v.pins.zipIdx).foldl (fun f e => match e.1.bit with
    | some b => if s.pinFails e.1 (seen.getD e.2 []) then setBit f b true else f
    | none => f) 0

/-- The group a record for the fail log belongs to. -/
def FlRec.group : FlRec → Nat
  | .mark g _ => g
  | .fail g _ _ _ _ => g

/-- A record of cycle (context, number) is queued: the records of one cycle in ascending group order, else in order of coming (R177). -/
def flInsert (key : Nat × Nat) (r : FlRec) : List ((Nat × Nat) × FlRec) → List ((Nat × Nat) × FlRec)
  | [] => [(key, r)]
  | e :: es => if e.1 = key ∧ r.group < e.2.group then (key, r) :: e :: es else e :: flInsert key r es

/-- A record waits for tile t's fail log. -/
def State.flPut (s : State) (t x n : Nat) (r : FlRec) : State := s.modTile t fun k => { k with flQueue := flInsert (x, n) r k.flQueue }

/-- Cycle n of context x on group g of tile t with failing mask f is counted and sent to the fail log (R175, R177, R178). -/
def State.cycleFails (s : State) (t x g n : Nat) (y : Cycle) (f : Nat) : State :=
  let s := match y.mark with
    | some a => s.flPut t x n (.mark g a)
    | none => s
  if f = 0 then s
  else
    let b := tileBase t + 0x10 * g
    let s := (s.incSat b APG_FL_FCNT.COUNT 1).setF b APG_FL_DQ.MASK (s.getF b APG_FL_DQ.MASK ||| f)
    let s := s.modCtx t x fun k => { k with failed := setBit k.failed g true }
    let d := s.getF (tileBase t + 0x80 * x) APG_CTX_CTRL.DROP
    let s := if d ≠ 0 ∧ d ≤ s.getF b APG_FL_FCNT.COUNT then s.modCtx t x fun k => { k with drop := setBit k.drop g true } else s
    let waiting := ((s.tile t).flQueue.filter fun r => match r.2 with | .fail .. => true | _ => false).length
    if waiting < 512 then s.flPut t x n (.fail g y.x y.y y.b f)
    else (s.incSat b APG_FL_LOST.COUNT 1).setF (tileBase t) APG_FL_STATUS.LOSS 1

/-- The formatter takes the next vector (R100). -/
def State.takeVec (s : State) (c : Nat) (v : Vec) (vs : List Vec) (seen : List (List (Bool × Bool))) : State :=
  let p := (s.eng c).next
  let per := (v.pins.head?.map fun x => x.ts.per).getD 0
  let s := s.modEng c fun e => { e with queue := vs, fresh := false, next := p + per, jump := e.jump.map fun j => { j with left := j.left - 1 } }
  let s := v.acts.foldl (fun s a => s.act c p a) s
  let f := s.cycleMask v seen
  let s := (v.pins.zipIdx).foldl (fun s e => s.playPin p e.1 (seen.getD e.2 [])) s
  let s := v.pins.foldl (fun s x => s.countVec x.chan) s
  match v.cyc, (s.eng c).ctx with
  | some y, some x =>
    let t := c / 128
    let b := tileBase t + 0x80 * x
    let n := s.vcnt c
    let s := if s.getF b APG_CTX_CYC_LO.COUNT + 2 ^ 32 * s.getF b APG_CTX_CYC_HI.COUNT < n then
      s.setFs b [(APG_CTX_CYC_LO.COUNT, n), (APG_CTX_CYC_HI.COUNT, n / 2 ^ 32)] else s
    s.cycleFails t x (s.getF (chB c) CHN_SEQ_GRP.GROUP) n y f
  | _, _ => s

/-- The formatter pads with an idle vector: it drives, never compares, and is counted apart (R99, R100, R106, R127).  A timing
set that a TSLD has made invalid pads as it stands and raises nothing. [DEDUCED, log entry 15] [DEDUCED, log entry 18] [DESIGN CHOICE, log entry 65] -/
def State.padPeriod (s : State) (c code ts : Nat) : State :=
  let p := (s.eng c).next
  let s := s.modEng c fun e => { e with fresh := false, next := p + (s.tsVals c ts).per,
                                        hold := e.hold.map fun h => { h with periods := h.periods + 1 } }
  let s := (s.mem c).foldl (fun s m =>
    ((((s.tablesTake m).periodClr m).drivePin p m code (s.tsVals m ts)).modEng m fun e => { e with win := none }).incSat (chB m) CHN_SEQ_PAD.COUNT 1) s
  if s.engState c = 3 then (s.mem c).foldl (fun s m => s.incSat (chB m) CHN_STRM_STALLCNT.COUNT 1) s else s

/-! ### Cobalt contexts' ends (R174) -/

/-- The leaders of the groups bound to context x of tile t. -/
def State.ctxLeaders (s : State) (t x : Nat) : List Nat :=
  (bitsSet 32 (s.getF (tileBase t + 0x80 * x) APG_CTX_GRPS.GROUPS)).filterMap fun g => (s.members t g).head?

/-- The run of context x of tile t ends: pins, engines, groups, completion. -/
def State.endCtx (s : State) (t x : Nat) (f : RunEnd) : State :=
  let b := tileBase t + 0x80 * x
  let k := s.ctx t x
  let static := match f with | .halt _ => true | _ => false
  let ls := s.ctxLeaders t x
  let res := s.apgResult t x
  let st : Ending := match f with
    | .halt _ => { status := scOK, result := res }
    | .boundary => { status := scOK, result := res }
    | .error _ _ => { status := scABORTFAULT, detail := 0x13, result := res }
    | .safe e => { e with result := res }
  let s := match k.run with | some r => s.endCmd r st | none => s
  let s := ls.foldl (fun s c => (s.mem c).foldl (fun s m =>
    let data := decide (s.getF (tileBase t + 4 * (m % 128)) APG_PMAP.ROLE = 2)
    let term := s.isSet (tileBase t + 4 * (m % 128)) APG_PMAP.TERM
    let s := (s.tablesTake m).driveEnd m (if static then (if data then (if term then .vtt else .z) else (s.eng m).stat) else .z) (s.eng c).next
    s.idleEngine m (s.eng m).stat) s) s
  let s := (s.setF b APG_CTX_GRPS.GROUPS 0).setF b APG_CTX_STATUS.STATE 0
  let s := s.setF (tileBase t) APG_STATUS.RUN (setBit (s.getF (tileBase t) APG_STATUS.RUN) x false)
  let s := s.modCtx t x fun _ => {}
  match f with
  | .error _ n => ls.foldl (fun s c => s.detect 0x13 scCHANNEL c n) (s.setF b APG_CTX_STATUS.ERR n)
  | _ => s

/-- The first vector of leader c's run waits for a word that is not issued before the start. [DEDUCED, log entry 15] -/
def State.firstWaits (s : State) (c : Nat) : Bool :=
  let e := s.eng c
  e.fresh && e.vecs.isNone && (e.ret.isNone || decide (s.short c 1 = [])) && decide (swOp (s.memWord c c 0) ∈ swAfterStart)

/-- A vector that is due is missing (R128): the engine runs, nothing is queued, no hold has ended less than 2 ECLK before. -/
def State.missing (s : State) (c : Nat) : Bool :=
  let e := s.eng c
  decide (s.engState c = 1) && e.run.isSome && e.ctx.isNone && decide (e.queue = []) && e.fin.isNone && decide (e.resume ≤ e.next) &&
    !s.firstWaits c

/-- Every cycle that context x of tile t has issued is out, those of groups that have left too. -/
def State.ctxEmpty (s : State) (t x : Nat) : Bool :=
  (s.ctxLeaders t x).all (fun l => decide ((s.eng l).queue = [])) && (s.ctx t x).gone.all fun e => decide (e.2.2.2 = [])

/-- The next cycle of a group that has left context x at leader c: only its compares count (R175). -/
def State.goneCycle (s : State) (t x c : Nat) (seen : List (List (Bool × Bool))) : State :=
  match (s.ctx t x).gone.find? fun e => e.1 = c with
  | some (_, g, n, v :: vs) =>
    let s := s.modCtx t x fun k => { k with gone := k.gone.map fun e => if e.1 = c then (c, g, n + 1, vs) else e }
    let f := s.cycleMask v seen
    let s := (v.pins.zipIdx).foldl (fun s e => if s.pinFails e.1 (seen.getD e.2 []) then s.pinFailed e.1.chan else s) s
    let s := match v.cyc with | some y => s.cycleFails t x g (n + 1) y f | none => s
    (match (s.ctx t x).fin with | some f => if s.ctxEmpty t x then s.endCtx t x f else s | none => s)
  | _ => s

/-- A vector period of leader c begins (R100): a vector, the end that is due, an idle vector, or an underrun; or a cycle of a group that has
left its context. -/
def State.period (s : State) (c : Nat) (seen : List (List (Bool × Bool))) : State :=
  let e := s.eng c
  let st := s.engState c
  if ¬ (1 ≤ st ∧ st ≤ 4 ∧ e.run.isSome) then (List.range 4).foldl (fun s x => s.goneCycle (c / 128) x c seen) s
  else match e.queue with
    | v :: vs =>
      (match e.pad with
      | some (code, ts) => if e.next < v.notBefore then s.padPeriod c code ts else s.takeVec c v vs seen
      | none => s.takeVec c v vs seen)
    | [] =>
      match e.ctx with
      | some x =>
        let t := c / 128
        (match (s.ctx t x).fin with
          | some f => if s.ctxEmpty t x then s.endCtx t x f else s
          | none => s)
      | none =>
        match e.fin with
        | some f => s.endRun c f
        | none =>
          if s.missing c then s.underrun c
          else match e.pad with
            | some (code, ts) => if e.hold.isSome ∨ e.next < e.resume then s.padPeriod c code ts else s
            | none => s

end Sys2Proof.Machine
end

