-- ==== Sys2Proof/Machine/Engine.lean ====
section
/-! DEFINITION. Meanings of the commands, sequence words and events of the channel engines (chapter 5); CHN_SEQ_CTRL's write stands in
Writes.lean. -/

namespace Sys2Proof.Machine

/-! ### Commands -/

/-- An engine that is not IDLE, among the channels a command names (R98, R118, R129). -/
def State.anyBusy (s : State) (l : List Nat) : Bool := l.any fun m => s.engState m != 0

/-- Channel c's group is bound to a Cobalt context (R171). -/
def State.inContext (s : State) (c : Nat) : Bool := (s.eng (s.leaderOf c)).ctx.isSome

/-- Words received of each image of n words, in address order up to the first failed read (R309). -/
def gotWords (n : Nat) : List (List (BitVec 64)) → List Nat
  | [] => []
  | l :: ls => if l.length < n then l.length :: ls.map (fun _ => 0) else n :: gotWords n ls

/-- Why a SEQ_LOAD is refused (R98, R171). -/
def State.seqLoadCheck (s : State) (l : List Nat) : Option Ending :=
  if l.any s.inContext then some { status := scSTATE, detail := 0x03 }
  else if s.anyBusy l then some { status := scSTATE, detail := 0x02 }
  else none

/-- SEQ_LOAD (R98, R249): words from host memory, one image for all channels or one for each in ascending order; failed: a read failed
by a time-out or not, and data ends where it did (R309): what was received is written, RESULT is open where several images are named. [DESIGN CHOICE, log entry 10] [DEDUCED, log entry 36] -/
def execSeqLoad (cmd : CmdRef) (data : List (List (BitVec 64))) (failed : Option Bool) (s : State) : Res :=
  match s.ready? cmd opSEQLOAD with
  | none => done s
  | some c =>
    match s.seqLoadCheck c.chans with
    | some e => done (s.endCmd cmd e)
    | none =>
      let n := c.pf 0x20 12 0
      let one := decide (c.p 0x24 = 0)
      let imgs := (List.range (if one then 1 else c.chans.length)).map fun i => data.getD i []
      let got := if failed.isNone then imgs.map fun _ => n else gotWords n imgs
      let s := (c.chans.zipIdx).foldl (fun s e =>
        let i := if one then 0 else e.2
        (List.range (got.getD i 0)).foldl (fun s j =>
          s.sramSet (seqBase e.1 + 8 * (c.pf 0x1C 12 0 + j)) 8 ((imgs.getD i []).getD j 0).toNat) s) s
      match failed with
      | none => done (s.endCmd cmd { status := scOK, result := n })
      | some tmo =>
        let s := s.rdFail tmo
        let r := if imgs.length = 1 then (got.headD 0, s) else s.draw 64
        done (r.2.endCmd cmd { status := scOK, partialDone := true, result := r.1 })

/-- A run that starts at epoch time START starts too early or without an epoch (R129, R185). -/
def State.epochLate (s : State) (t : Nat) : Bool :=
  decide (s.getF (tileBase t) TIL_SEQSTART_LO.START + 2 ^ 32 * s.getF (tileBase t) TIL_SEQSTART_HI.START < s.tb + 64)

/-- Why a SEQ_RUN on channel c with start mode m is refused or invalid (R104, R118, R129, R138, R185, R364). -/
def State.seqRunCheck (s : State) (c m : Nat) : Option Ending :=
  let ms := s.mem c
  let st (d : Nat) : Option Ending := some { status := scSTATE, detail := d }
  if s.leaderOf c ≠ c then st 0x03
  else if s.anyBusy ms then st 0x02
  else if ms.any fun x => s.isSet (feB x) CHN_FE_STATUS.REMAPPED then st 0x07
  else if m = 1 ∧ ¬ s.epochValid then st 0x05
  else if m = 1 ∧ s.epochLate (c / 128) then st 0x0F
  else if ms.any fun x => !s.isSet (feB x) CHN_TIM_STATUS.VLOCK then st 0x09
  else if ms.any s.faultHolds then st 0x02
  else if (List.range 32).any fun k => (s.tsBad c k).isSome then some { status := scINVALID, detail := 0xFF }
  else none

/-- SEQ_RUN (R129): the engines of the group enter START. -/
def execSeqRun (cmd : CmdRef) (s : State) : Res :=
  match s.ready? cmd opSEQRUN with
  | none => done s
  | some k =>
    let c := k.pf 0 9 0
    match s.seqRunCheck c (k.pf 8 1 0) with
    | some e => done (s.endCmd cmd e)
    | none =>
      let a := k.pf 4 12 0
      let s := (s.mem c).foldl (fun s m =>
        let s := (s.yieldRotation m).modTdc m fun d => { d with lastDrive := none }
        let s := s.setFs (chB m) [(CHN_SEQ_STATUS.PERR, 0), (CHN_SEQ_STATUS.STACK, 0), (CHN_SEQ_STATUS.STATE, 5), (CHN_SEQ_PC.SNUM, 0),
          (CHN_SEQ_PC.PC, a), (CHN_SEQ_VCNT_LO.COUNT, 0), (CHN_SEQ_VCNT_HI.COUNT, 0), (CHN_SEQ_PAD.COUNT, 0)]
        (List.range 4).foldl (fun s i => s.setF (chB m + 4 * i) CHN_SEQ_LOOP.COUNT 0) s) s
      let seg := decide (swOp (s.seqWord c a) = swSEG)
      let s := s.modEng c fun e =>
        { stat := e.stat, rd := e.rd, strm := e.strm, run := some cmd, start := k.pf 8 1 0, fresh := true, inSeg := !seg }
      done (s.modCmd cmd fun k => { k with started := true, setupOver := true })

/-- The channels a stream feeds, with what their registers say of the ring (R125). -/
def State.ringOk (s : State) (m : Nat) : Bool :=
  let n := s.getF (chB m) CHN_STRM_SIZE.WORDS
  n % 32 == 0 && decide (64 ≤ n ∧ n ≤ 4096) && decide (s.getF (chB m) CHN_STRM_BASE.BASE * 32 + n ≤ 0x1800)

/-- SEQ_STREAM (R125): each member's buffer joins its ring's. [DEDUCED, log entry 16] -/
def execSeqStream (cmd : CmdRef) (s : State) : Res :=
  match s.ready? cmd opSTREAM with
  | none => done s
  | some k =>
    let c := k.pf 0 9 0
    let ms := s.mem c
    if s.leaderOf c ≠ c then done (s.endCmd cmd { status := scSTATE, detail := 0x03 })
    else if ¬ ms.all s.ringOk then done (s.endCmd cmd { status := scINVALID, detail := 0xFF })
    else
      let n := k.p 0x10 / 8
      if n = 0 then done (s.startCmd cmd [] 0)
      else
        let s := (ms.zipIdx).foldl (fun s e => s.modEng e.1 fun g =>
          { g with strm := g.strm ++ [⟨cmd, k.p64 8 + e.2 * k.p 0x14, n, n⟩] }) s
        done ((s.startCmd cmd ms 0).modCmd cmd fun k => { k with setupOver := true })

/-- Channel c's run is not its own to stop: a leader's, or a context's (R118, R171). -/
def State.stopForeign (s : State) (c : Nat) : Bool := decide (s.leaderOf c ≠ c) || (s.eng c).ctx.isSome

/-- SEQ_STOP (R131): at the next segment boundary, or by trap at once; with no run it is done. [DEDUCED, log entry 18] -/
def execSeqStop (cmd : CmdRef) (s : State) : Res :=
  match s.ready? cmd opSEQSTOP with
  | none => done s
  | some k =>
    let c := k.pf 0 9 0
    if ¬ s.patRunning c then done (s.endCmd cmd { status := scOK })
    else if s.stopForeign c then done (s.endCmd cmd { status := scSTATE, detail := 0x03 })
    else
      let s := (s.modCmd cmd fun k => { k with started := true }).modEng c fun e => { e with stops := e.stops ++ [cmd] }
      if bitB (k.p 4) 0 then done (s.stopRun c { status := scABORTHOST, detail := 0x02 })
      else done (s.modEng c fun e => { e with bstop := true })

/-- The channels that a GROUP_BIND names (R249). -/
def Cmd.bindChans (k : Cmd) : List Nat := (bitsSet 128 (k.lmask 0)).map (k.pf 0 2 0 * 128 + ·)

/-- Why a GROUP_BIND is refused or invalid (R118, R171, R364). -/
def State.bindCheck (s : State) (k : Cmd) : Option Ending :=
  let g := k.pf 0 12 8
  let l := k.bindChans
  let st (d : Nat) : Option Ending := some { status := scSTATE, detail := d }
  if 64 < l.length then some { status := scINVALID, detail := k.pBase + 4 }
  else if s.anyBusy (l ++ s.members (k.pf 0 2 0) g) then st 0x02
  else if l.any fun m => s.isSet (feB m) CHN_FE_STATUS.REMAPPED then st 0x07
  else if l.any fun m => s.isSet (chB m) CHN_SEQ_GRP.BOUND && s.getF (chB m) CHN_SEQ_GRP.GROUP != g then st 0x03
  else if l.any s.faultHolds then st 0x02
  else none

/-- GROUP_BIND (R118): the set replaces group g's members; an empty set unbinds it. -/
def execGroupBind (cmd : CmdRef) (s : State) : Res :=
  match s.ready? cmd opBIND with
  | none => done s
  | some k =>
    match s.bindCheck k with
    | some e => done (s.endCmd cmd e)
    | none =>
      let g := k.pf 0 12 8
      let l := k.bindChans
      let s := (s.members (k.pf 0 2 0) g).foldl (fun s m => s.wr (chB m + CHN_SEQ_GRP.BOUND.off) 0) s
      let lead := l.headD 0
      let s := l.foldl (fun s m => s.setFs (chB m) [(CHN_SEQ_GRP.BOUND, 1), (CHN_SEQ_GRP.LEADER, b2n (decide (m = lead))), (CHN_SEQ_GRP.GROUP, g),
        (CHN_SEQ_GRP.LEADCH, lead % 128)]) s
      done (s.endCmd cmd { status := scOK, result := l.length })

/-- Why a SEQ_JUMP to target a at channel c is refused or invalid (R123, R124, R171). -/
def State.seqJumpCheck (s : State) (k : Cmd) (c a : Nat) : Option Ending :=
  let e := s.eng c
  let st (d : Nat) : Option Ending := some { status := scSTATE, detail := d }
  if s.leaderOf c ≠ c ∨ e.ctx.isSome then st 0x03
  else if ¬ s.patRunning c then st 0x02
  else if e.jreq.isSome ∨ e.jump.isSome then st 0x08
  else if 0x1800 ≤ a ∨ swOp (s.seqWord c a) ≠ swSEG then some { status := scINVALID, detail := k.pBase + 4 }
  else none

/-- SEQ_JUMP (R123): a valid request raises trap cause JUMP; its handler registers it. -/
def execSeqJump (cmd : CmdRef) (s : State) : Res :=
  match s.ready? cmd opJUMP with
  | none => done s
  | some k =>
    let c := k.pf 0 9 0
    match s.seqJumpCheck k c (k.pf 4 12 0) with
    | some e => done (s.endCmd cmd e)
    | none =>
      let s := (s.modCmd cmd fun k => { k with started := true }).modEng c fun e => { e with jreq := some cmd }
      done (s.raiseTrap c 3)

/-! ### Start, vector periods -/

/-- SEQ_RUN_START (R129, R185): the run begins at this TCLK edge, or at its epoch start, with its first vector. -/
def execSeqRunStart (c : Fin 1024) (seen : List (List (Bool × Bool))) (s : State) : Res :=
  let e := s.eng c
  if s.engState c ≠ 5 ∨ e.run.isNone ∨ e.ctx.isSome ∨ (e.start = 2 ∧ ¬ e.fired) then done s
  else
    let b := tileBase (c.val / 128)
    let p := if e.start = 1 then 200 * (s.getF b TIL_SEQSTART_LO.START + 2 ^ 32 * s.getF b TIL_SEQSTART_HI.START) else s.linNow
    let s := (s.modEng c fun e => { e with next := p }).setEngState c 1
    done (s.period c seen)

/-- VECTOR_PERIOD (R100). -/
def execVectorPeriod (c : Fin 1024) (seen : List (List (Bool × Bool))) (s : State) : Res := done (s.period c seen)

/-! ### Sequence words -/

/-- NOP (R107). -/
def execSeqNop (c : Fin 1024) (s : State) : Res := done (s.issue c swNOP fun _ s => s.advance c)

/-- VECI (R107, R120): inline vectors; each member's codes stand in its own word. -/
def execVeci (c : Fin 1024) (s : State) : Res :=
  done (s.issue c swVECI fun w s =>
    let r := s.pushVecs c (bits w 57 53) (bits w 52 49) fun m i => packedCode (s.memWord c m 0) i
    if r.2 then r.1.advance c else r.1)

/-- VECD (R107, R120): vectors from stored data, as far as the queue has room. -/
def execVecd (c : Fin 1024) (s : State) : Res :=
  done (s.issue c swVECD fun w s =>
    let r := s.pushVecs c (bits w 57 53) (bits w 52 36) fun m i => packedCode (s.seqWord m (bits w 12 0 + i / 16)) (i % 16)
    if r.2 then r.1.advance c else r.1)

/-- Data words of the VECS in hand are issued while they are present in every member and the queue has room (R100, R126). [DEDUCED, log entry 16] -/
def State.vecsRun (s : State) (c : Nat) : Nat → State
  | 0 => s
  | fuel + 1 =>
    let e := s.eng c
    match e.vecs with
    | none => s
    | some (ts, n) =>
      let k := min 16 (n - e.part)
      if s.short c 1 ≠ [] ∨ 128 < e.queue.length + k ∨ e.fin.isSome then s
      else
        match (s.mem c).find? fun m => !((List.range k).all fun i => codeDefined (packedCode (s.memWord c m 0) i)) with
        | some m => s.finishRun c (.error m 6)
        | none =>
          let s' := (List.range k).foldl (fun x i => x.pushVec c ts fun m => packedCode (s.memWord c m 0) i) s
          let fin := decide (n ≤ e.part + k)
          let s' := (s'.modEng c fun g => { g with part := if fin then 0 else e.part + k, vecs := if fin then none else e.vecs }).strmNext c
          State.vecsRun s' c fuel

/-- VECS (R107, R126): the word leaves the ring, then the data words that follow it as they are there; a second VECS event goes on with
those that were not. -/
def execVecs (c : Fin 1024) (s : State) : Res :=
  if (s.eng c).vecs.isSome then done (s.vecsRun c 8)
  else done (s.issue c swVECS fun w s =>
    ((s.strmNext c).modEng c fun e => { e with vecs := some (bits w 57 53, bits w 52 36), part := 0 }).vecsRun c 8)

/-- VREP (R107). -/
def execVrep (c : Fin 1024) (s : State) : Res :=
  done (s.issue c swVREP fun w s =>
    let r := s.pushVecs c (bits w 57 53) (bits w 31 0) fun _ _ => bits w 52 49
    if r.2 then r.1.advance c else r.1)

/-- LOOP (R109). -/
def execLoop (c : Fin 1024) (s : State) : Res :=
  done (s.issue c swLOOP fun w s => (s.setF (chB c + 4 * bits w 57 56) CHN_SEQ_LOOP.COUNT (atLeast1 (bits w 31 0))).advance c)

/-- ENDL (R109). -/
def execEndl (c : Fin 1024) (s : State) : Res :=
  done (s.issue c swENDL fun w s =>
    let b := chB c + 4 * bits w 57 56
    let n := s.getF b CHN_SEQ_LOOP.COUNT
    if 1 < n then (s.setF b CHN_SEQ_LOOP.COUNT (n - 1)).goto c (bits w 12 0)
    else (s.setF b CHN_SEQ_LOOP.COUNT 0).advance c)

/-- CALL (R110). -/
def execCall (c : Fin 1024) (s : State) : Res :=
  done (s.issue c swCALL fun w s =>
    let n := (s.eng c).stack.length
    let s := s.modEng c fun e => { e with stack := (s.pc c + 1) :: e.stack }
    (s.setF (chB c) CHN_SEQ_STATUS.STACK (n + 1)).goto c (bits w 12 0))

/-- RET (R110). -/
def execRet (c : Fin 1024) (s : State) : Res :=
  done (s.issue c swRET fun _ s =>
    match (s.eng c).stack with
    | [] => s
    | a :: as => ((s.modEng c fun e => { e with stack := as }).setF (chB c) CHN_SEQ_STATUS.STACK as.length).goto c a)

/-- JMP (R107). -/
def execJmp (c : Fin 1024) (s : State) : Res := done (s.issue c swJMP fun w s => s.goto c (bits w 12 0))

/-- BR (R111): SYNC = 0 on the conditions as they stood 8 ECLK before (past, by member in ascending order; as now where not given);
SYNC = 1 pauses. -/
def execBr (c : Fin 1024) (past : List Bool) (s : State) : Res :=
  done (s.issue c swBR fun w s =>
    if bitB w 53 then s.holdIdle c .branch
    else
      let ms := s.scoped c (bits w 57 56)
      let old (m : Nat) : Bool := past.getD (ms.idxOf m) (s.condOf m (bits w 52 47))
      s.branch c w (s.condHolds c w old))

/-- BR_SYNC_RESOLVE (R111): every vector before the BR is out and compared. -/
def execBrSyncResolve (c : Fin 1024) (s : State) : Res :=
  match (s.eng c).hold with
  | some h =>
    if h.kind = .branch ∧ (s.eng c).queue = [] then
      let w := s.memWord c c 0
      done ((s.holdEnd c).branch c w (s.condHolds c w fun m => s.condOf m (bits w 52 47)))
    else done s
  | none => done s

/-- MATCH (R112): the first iteration begins. -/
def execMatchW (c : Fin 1024) (s : State) : Res :=
  done (s.issue c swMATCH fun w s =>
    let a := s.pc c
    let s := s.addAct c .clearFail
    (s.modEng c fun e => { e with loop := some { addr := a, len := bits w 46 39, tmo := bits w 31 0 } }).setPc c (a + 1))

/-- MATCH_ITERATION_END (R112): the condition is read; the engine goes on, times out, or repeats the body. -/
def execMatchIterationEnd (c : Fin 1024) (s : State) : Res :=
  match (s.eng c).hold, (s.eng c).loop with
  | some h, some l =>
    if h.kind = .iteration ∧ (s.eng c).queue = [] then
      let s := if Act.clearFail ∈ (s.eng c).acts then
          (s.modEng c fun e => { e with acts := e.acts.erase .clearFail }).setMem c CHN_SEQ_STATUS.FAIL 0
        else s
      let w := s.seqWord c l.addr
      let s := s.holdEnd c
      let after (s : State) : State := (s.modEng c fun e => { e with loop := none }).goto c (l.addr + 1 + l.len)
      if s.condHolds c w fun m => s.condOf m (bits w 52 47) then done (after s)
      else if l.tmo ≠ 0 ∧ l.tmo ≤ l.iter then done (after (s.timeOut c))
      else
        let s := s.addAct c .clearFail
        done ((s.modEng c fun e => { e with loop := some { l with iter := l.iter + 1, word := 0 } }).goto c (l.addr + 1))
    else done s
  | _, _ => done s

/-- WAIT (R113). -/
def execWait (c : Fin 1024) (s : State) : Res :=
  done (s.issue c swWAIT fun w s =>
    s.holdOn c { kind := .wait (bits w 57 56), code := bits w 55 52, ts := bits w 51 47, tmo := bits w 31 0 })

/-- WAIT_RELEASE (R113): the event of the WAIT has come. -/
def execWaitRelease (c : Fin 1024) (s : State) : Res :=
  match (s.eng c).hold with
  | some h => (match h.kind with
    | .wait _ => if h.arrived then done ((s.holdEnd c).advance c) else done s
    | _ => done s)
  | none => done s

/-- WAIT_TIMEOUT (R113, R114): a WAIT or BAR has held TMO periods of its timing set. -/
def execWaitTimeout (c : Fin 1024) (s : State) : Res :=
  match (s.eng c).hold with
  | some h =>
    if h.tmo = 0 ∨ h.periods < h.tmo then done s
    else (match h.kind with
      | .wait _ => done (((s.timeOut c).holdEnd c).advance c)
      | .barrier _ => done ((((s.barArr c false).timeOut c).holdEnd c).advance c)
      | _ => done s)
  | none => done s

/-- BAR (R114): a group outside the barrier's mask passes at once. -/
def execBar (c : Fin 1024) (s : State) : Res :=
  done (s.issue c swBAR fun w s =>
    let bid := bits w 57 54
    if s.inBarrier (c.val / 128) bid (s.getF (chB c) CHN_SEQ_GRP.GROUP) then
      (s.barArr c true).holdOn c { kind := .barrier bid, code := bits w 53 50, ts := bits w 49 45, tmo := bits w 31 0 }
    else s.advance c)

/-- BARRIER_RELEASE (R114): every group that takes part has arrived; all are released. -/
def execBarrierRelease (t : Fin 8) (bid : Fin 16) (s : State) : Res :=
  let gs := (List.range 32).filter fun g => s.inBarrier t bid g
  if gs ≠ [] ∧ gs.all fun g => (s.atBarrier t bid g).isSome then
    done ((gs.filterMap fun g => s.atBarrier t bid g).foldl (fun s c => ((((s.barArr c false).raiseTrap c 5).holdEnd c).advance c)) s)
  else done s

/-- The value of a timing-set register as the data word gives it: reserved bits are ignored (R107). -/
def tsWord (k : Nat) (v : Nat) : Word := BitVec.ofNat 32 v &&& (if k = 6 then 7#32 else 0x0FFFFFFF#32)

/-- TSLD (R107, R120): every member's timing set from its own store; unequal periods are a program error. [DEDUCED, log entry 15] -/
def execTsld (c : Fin 1024) (s : State) : Res :=
  done (s.issue c swTSLD fun w s =>
    let ts := bits w 57 53
    let a := bits w 12 0
    let s := (s.mem c).foldl (fun s m => (List.range 7).foldl (fun s k =>
      s.wr (chB m + 0x400 + 0x20 * ts + 4 * k) (tsWord k (s.seqWord m (a + k / 2) / 2 ^ (32 * (k % 2)) % 2 ^ 32))) s) s
    if s.tsEqual c ts then s.advance c else s.finishRun c (.error c 7))

/-- LVL (R115): the level of every member from the boundary that follows. -/
def execLvl (c : Fin 1024) (s : State) : Res :=
  done (s.issue c swLVL fun w s =>
    (s.addAct c (.level (bits w 57 54) ((s.mem c).map fun m => (m, s.levelValue m w)))).advance c)

/-- Reserves places on the listed converters that have one free; the others are left (R116). -/
def State.reserve (s : State) (l : List Nat) : State × List Nat :=
  l.foldl (fun a m => if a.1.adcRoom m then (a.1.modAdc m fun k => { k with reserved := k.reserved + 1 }, a.2) else (a.1, a.2 ++ [m])) (s, [])

/-- MEAS (R116): with W = 1 a request reserves its places, and holds until every converter has one. -/
def execMeas (c : Fin 1024) (s : State) : Res :=
  done (s.issue c swMEAS fun w s =>
    let kind := bits w 57 56
    let kept := decide (kind = 2) && bitB w 55
    let ms := if bitB w 54 then s.mem c else [c.val]
    let s := s.addAct c (.meas kind ms { src := bits w 3 0, gain := bits w 6 4, samp := bits w 10 8, tag := bits w 19 16 } kept)
    if kept then
      let r := s.reserve ms
      if r.2 = [] then r.1.advance c else r.1.holdIdle c (.measure r.2)
    else s.advance c)

/-- MEAS_PLACE_FREE (R116): converters that have a place by now reserve it; with the last of them the engine goes on. -/
def execMeasPlaceFree (c : Fin 1024) (s : State) : Res :=
  match (s.eng c).hold with
  | some h => (match h.kind with
    | .measure l =>
      let r := s.reserve l
      if r.2 = [] then done (((r.1.raiseTrap c 6).holdEnd c).advance c)
      else done (r.1.modEng c fun e => { e with hold := some { h with kind := .measure r.2 } })
    | _ => done s)
  | none => done s

/-- EVT (R117). -/
def execEvt (c : Fin 1024) (s : State) : Res :=
  done (s.issue c swEVT fun w s => (s.addAct c (.event (bits w 57 50) (bitB w 49) (bitB w 48))).advance c)

/-- FLG (R117). -/
def execFlg (c : Fin 1024) (s : State) : Res :=
  done (s.issue c swFLG fun w s => (s.addAct c (.flags (bits w 57 56) (bits w 55 48) (bitB w 47))).advance c)

/-- SEG (R122): the decision point of the segment before, then the new segment's number and idle vector. -/
def execSeg (c : Fin 1024) (s : State) : Res :=
  done (s.issue c swSEG fun w s => s.decision c fun s =>
    ((s.setMem c CHN_SEQ_PC.SNUM (bits w 57 46)).modEng c fun e => { e with idle := bits w 45 42, its := bits w 41 37, inSeg := true }).advance c)

/-- The resume watermark of a stall point (R127). -/
def stallMark (run resume : Nat) : Nat := if resume < run then run else resume

/-- STALL (R127): passes with the promised words present, else holds and is late; no effect in a stored program. -/
def execStall (c : Fin 1024) (s : State) : Res :=
  done (s.issue c swSTALL fun w s =>
    let stream := (s.eng c).ret.isSome
    let s := s.advance c
    if ¬ stream ∨ s.short c (bits w 28 16) = [] then s
    else
      let s := s.holdIdle c (.stall (stallMark (bits w 28 16) (bits w 12 0)))
      (s.setF (chB c) CHN_SEQ_STATUS.LATE 1).detect 0x0B scCHANNEL c 0)

/-- STALL_RESUME (R127): the fill of every member has reached the watermark. -/
def execStallResume (c : Fin 1024) (s : State) : Res :=
  match (s.eng c).hold with
  | some h => (match h.kind with
    | .stall n => if s.short c n = [] then done ((s.holdEnd c).condEnd 0x0B scCHANNEL c) else done s
    | _ => done s)
  | none => done s

/-- STRM (R126): fetch goes on in the stream ring. -/
def execStrm (c : Fin 1024) (s : State) : Res :=
  done (s.issue c swSTRM fun _ s =>
    let s := s.modEng c fun e => { e with ret := some (s.pc c + 1) }
    s.setPc c (s.strmAddr c 0))

/-- SEND (R126): fetch returns to the stored word after the STRM. -/
def execSend (c : Fin 1024) (s : State) : Res :=
  done (s.issue c swSEND fun _ s =>
    match (s.eng c).ret with
    | none => s
    | some a => ((s.strmNext c).modEng c fun e => { e with ret := none }).setPc c a)

/-- HALT (R122, R130): the decision point of the last segment, then the end of the run. -/
def execHalt (c : Fin 1024) (s : State) : Res :=
  done (s.issue c swHALT fun w s => s.decision c fun s => s.finishRun c (.halt (bits w 15 0)))

/-! ### Boundaries, refill, underrun -/

/-- SEQ_JUMP_APPLY (R123): the last vector of the ended segment is out. -/
def execSeqJumpApply (c : Fin 1024) (s : State) : Res :=
  match (s.eng c).jump with
  | some j => if j.left = 0 then done (s.takeJump c) else done s
  | none => done s

/-- SEQ_STOP_APPLY (R130, R131): the run ends at the segment boundary. -/
def execSeqStopApply (c : Fin 1024) (s : State) : Res :=
  if (s.eng c).fin = some .boundary ∧ (s.eng c).queue = [] then done (s.endRun c .boundary) else done s

/-- The rings that ask for refill: free space at the watermark, words to fetch (R125); none while the link to the host is down (R132). -/
def State.asking (s : State) : List Nat :=
  if ¬ s.hostLink then []
  else s.engs.filterMap fun e =>
    let free := s.getF (chB e.1) CHN_STRM_SIZE.WORDS - s.fill e.1
    if e.2.strm.any (fun x => decide (0 < x.left)) ∧ s.getF (chB e.1) CHN_STRM_REFILL.WORDS ≤ free ∧ 32 ≤ free then some e.1 else none

/-- The ring that is served next: the lowest fill, then the lower channel number (R125). -/
def State.served (s : State) : Option Nat :=
  s.asking.foldl (fun a c => match a with
    | none => some c
    | some b => if s.fill c < s.fill b then some c else some b) none

/-- A packet of up to 32 words enters channel c's ring. [DEDUCED, log entry 36] -/
def State.refill (s : State) (c : Nat) (data : List (BitVec 64)) : State :=
  let f := s.fill c
  let s := (List.range 32).foldl (fun s i => s.sramSet (seqBase c + 8 * s.strmAddr c (f + i)) 8 (data.getD i 0).toNat) s
  let rec take : List Strm → List Strm
    | [] => []
    | x :: xs => if 0 < x.left then { x with addr := x.addr + 256, left := x.left - 32 } :: xs else x :: take xs
  (s.setF (chB c) CHN_STRM_FILL.WORDS (f + 32)).modEng c fun e => { e with strm := take e.strm }

/-- STREAM_REFILL (R125, R309): the next packet, in the order of service; trap cause REFILL where it ends a stall.  Where its read
failed, its data and what follows it never arrive. -/
def execStreamRefill (data : List (BitVec 64)) (failed : Option Bool) (s : State) : Res :=
  match s.served, failed with
  | none, _ => done s
  | some c, some tmo => done ((s.rdFail tmo).modEng c fun e => { e with strm := e.strm.map fun x => { x with left := 0 } })
  | some c, none =>
    let s := s.refill c data
    let l := s.leaderOf c
    match (s.eng l).hold with
    | some h => (match h.kind with
      | .stall n => if s.short l n = [] then done (s.raiseTrap l 4) else done s
      | _ => done s)
    | none => done s

/-- UNDERRUN (R128): the vector that is due is missing. -/
def execUnderrun (c : Fin 1024) (s : State) : Res :=
  if s.missing c then done (s.underrun c) else done s

end Sys2Proof.Machine
end

