-- ==== Sys2Proof/Machine/Cobalt.lean ====
section
/-! DEFINITION. The Cobalt algorithmic pattern generator (chapter 7): its memory, instructions, cycles, runs and fail log. -/

namespace Sys2Proof.Machine

/-! ### Memory (R162, R440) -/

def apgXor (t x : Nat) : Nat := apgBase t + 0x10000 + 0x400 * x
def apgTopo (t x : Nat) : Nat := apgBase t + 0x11000 + 0x200 * x
def apgInv (t x : Nat) : Nat := apgBase t + 0x11800 + 0x400 * x
def apgLog (t : Nat) : Nat := apgBase t + 0x12800

/-- Start of a part that APG_LOAD writes and the bytes of its unit (R249). -/
def apgPart (t x what : Nat) : Nat × Nat :=
  match what with
  | 0 => (apgBase t, 16)
  | 1 => (apgXor t x, 2)
  | 2 => (apgTopo t x, 4)
  | _ => (apgInv t x, 4)

/-- APG_LOAD (R162, R249): data: the bytes read at HADDR; failed: a read failed, by a time-out or not, and data ends where it did: the
whole units received are written (R309). [DESIGN CHOICE, log entry 10] -/
def execApgLoad (cmd : CmdRef) (data : List Byte) (failed : Option Bool) (s : State) : Res :=
  match s.ready? cmd opAPGLOAD with
  | none => done s
  | some c =>
    let p := apgPart (c.pf 0 2 0) (c.pf 0 9 8) (c.pf 0 17 16)
    let n := if failed.isNone then c.p 0x14 else min (c.p 0x14) (data.length / p.2)
    let bs := (List.range (n * p.2)).map fun i => data.getD i 0
    let s := { s with sram := memWrite sramReset s.sram (p.1 + c.p 0x10 * p.2) bs }
    let s := match failed with | some tmo => s.rdFail tmo | none => s
    done (s.endCmd cmd { status := scOK, partialDone := failed.isSome, result := n })

/-! ### Runs (R163, R171) -/

/-- The registers of context x of tile t. -/
def ctxB (t x : Nat) : Nat := tileBase t + 0x80 * x

/-- A pin role is one that a run accepts (R172). -/
def State.pmapOk (s : State) (t l : Nat) : Bool :=
  let b := tileBase t + 4 * l
  let sel := s.getF b APG_PMAP.SEL
  match s.getF b APG_PMAP.ROLE with
  | 0 => true
  | 1 => decide (sel ≤ 35)
  | 2 => decide (sel ≤ 31)
  | 3 => decide (sel ≤ 7)
  | 4 => decide (s.getF b APG_PMAP.FIXC ∈ [0, 1, 5, 6, 7])
  | _ => false

/-- The channels of the groups in a mask. -/
def State.groupsMem (s : State) (t mask : Nat) : List Nat := (bitsSet 32 mask).flatMap fun g => s.members t g

/-- The checks of APG_RUN, in order (R171, R185, R364). -/
def State.apgRunCheck (s : State) (k : Cmd) : Option Ending :=
  let t := k.pf 0 2 0
  let x := k.pf 0 9 8
  let mask := k.p 4
  let m := k.pf 8 1 0
  let b := ctxB t x
  let gs := bitsSet 32 mask
  let ms := s.groupsMem t mask
  let bad (d : Nat) : Option Ending := some { status := scINVALID, detail := d }
  let st (d : Nat) : Option Ending := some { status := scSTATE, detail := d }
  if gs.length = 0 ∨ 16 < gs.length ∨ gs.any fun g => decide (s.members t g = []) then bad (k.pBase + 4)
  else if ¬ (s.getF b APG_CTX_XLIM.XMIN ≤ s.getF b APG_CTX_XLIM.XMAX ∧ s.getF b APG_CTX_YLIM.YMIN ≤ s.getF b APG_CTX_YLIM.YMAX ∧
      s.getF b APG_CTX_SIDX.XPOS ≤ 28 ∧ s.getF b APG_CTX_SIDX.YPOS ≤ 28 ∧ s.getF b APG_CTX_SIDX.IPOS ≤ 28 ∧
      s.getF b APG_CTX_SIDX.TPOS ≤ 24 ∧ s.getF b APG_CTX_WIN.LO ≤ s.getF b APG_CTX_CTRL.START ∧
      s.getF b APG_CTX_CTRL.START ≤ s.getF b APG_CTX_WIN.HI) then bad 0xFF
  else if ms.any fun c => !s.pmapOk t (c % 128) then bad 0xFF
  else if (List.range 32).any fun ts => ms.any fun c => decide ((s.tsVals c ts).per ≠ (s.tsVals (ms.headD 0) ts).per) then bad 0xFF
  else if s.getF b APG_CTX_STATUS.STATE ≠ 0 then st 0x02
  else if (List.range 4).any fun y => decide (y ≠ x) && gs.any fun g => (s.getF (ctxB t y) APG_CTX_GRPS.GROUPS).testBit g then st 0x03
  else if s.anyBusy ms then st 0x02
  else if ms.any fun c => s.isSet (feB c) CHN_FE_STATUS.REMAPPED then st 0x07
  else if ms.any fun c => !s.isSet (feB c) CHN_TIM_STATUS.VLOCK then st 0x09
  else if m = 1 ∧ ¬ s.epochValid then st 0x05
  else if m = 1 ∧ s.epochLate t then st 0x0F
  else if ms.any s.faultHolds then st 0x02
  else none

/-- What waits for the fail log without the markers of groups p that no failing cycle of their group follows. -/
def flUnmarked (p : Nat → Bool) : List ((Nat × Nat) × FlRec) → List ((Nat × Nat) × FlRec)
  | [] => []
  | e :: es =>
    let l := flUnmarked p es
    match e.2 with
    | .mark g _ => if p g ∧ (l.all fun d => d.2.group != g) then l else e :: l
    | _ => e :: l

/-- The markers of the groups p names that wait behind the last failing cycle are pending no more (R178, R179). -/
def State.flUnmark (s : State) (t : Nat) (p : Nat → Bool) : State :=
  s.modTile t fun k => { k with flQueue := flUnmarked p k.flQueue }

/-- The groups' engines enter START under context x. -/
def State.apgBind (s : State) (t x m : Nat) (cmd : CmdRef) (mask : Nat) : State :=
  (bitsSet 32 mask).foldl (fun s g =>
    let s := s.flUnmark t (· == g)
    let ms := s.members t g
    let s := ms.foldl (fun s c =>
      let s := (s.yieldRotation c).modTdc c fun d => { d with lastDrive := none }
      s.setFs (chB c) [(CHN_SEQ_STATUS.PERR, 0), (CHN_SEQ_STATUS.STATE, 5), (CHN_SEQ_VCNT_LO.COUNT, 0), (CHN_SEQ_VCNT_HI.COUNT, 0),
        (CHN_SEQ_PAD.COUNT, 0)]) s
    let s := match ms.head? with
      | some c => s.modEng c fun e => { stat := e.stat, rd := e.rd, strm := e.strm, run := some cmd, start := m, ctx := some x, fresh := true }
      | none => s
    let b := tileBase t + 0x10 * g
    let s := ((s.setF b APG_FL_FCNT.COUNT 0).setF b APG_FL_LOST.COUNT 0).setF b APG_FL_DQ.MASK 0
    s.modFlGroup t g fun k => { entries := k.entries }) s

/-- APG_RUN (R163, R171). -/
def execApgRun (cmd : CmdRef) (s : State) : Res :=
  match s.ready? cmd opAPGRUN with
  | none => done s
  | some k =>
    match s.apgRunCheck k with
    | some e => done (s.endCmd cmd e)
    | none =>
      let t := k.pf 0 2 0
      let x := k.pf 0 9 8
      let m := k.pf 8 1 0
      let b := ctxB t x
      let xmin := s.getF b APG_CTX_XLIM.XMIN
      let ymin := s.getF b APG_CTX_YLIM.YMIN
      let s := s.apgBind t x m cmd (k.p 4)
      let s := s.setFs b [(APG_CTX_XY.X, xmin), (APG_CTX_XY.Y, ymin), (APG_CTX_B.B, 0), (APG_CTX_D.D, s.getF b APG_CTX_DR0.DR0),
        (APG_CTX_STATUS.PC, s.getF b APG_CTX_CTRL.START), (APG_CTX_STATUS.ERR, 0), (APG_CTX_STATUS.STATE, 1), (APG_CTX_GRPS.GROUPS, k.p 4),
        (APG_CTX_CYC_LO.COUNT, 0), (APG_CTX_CYC_HI.COUNT, 0)]
      let s := s.modCtx t x fun _ =>
        { run := some cmd, start := m, idx := (List.range 8).map fun i => s.getF (b + 4 * i) APG_CTX_I.VALUE, xr := xmin, yr := ymin, named := k.p 4 }
      let s := s.setF (tileBase t) APG_STATUS.RUN (setBit (s.getF (tileBase t) APG_STATUS.RUN) x true)
      done (s.modCmd cmd fun k => { k with started := true, setupOver := true })

/-- APG_RUN_START (R173, R185): every member of every group starts with its first cycle, if it is issued. -/
def execApgRunStart (t : Fin 8) (x : Fin 4) (seen : List (List (List (Bool × Bool)))) (s : State) : Res :=
  let k := s.ctx t x
  if s.getF (ctxB t x) APG_CTX_STATUS.STATE ≠ 1 ∨ (k.start = 2 ∧ ¬ k.fired) then done s
  else
    let b := tileBase t
    let p := if k.start = 1 then 200 * (s.getF b TIL_SEQSTART_LO.START + 2 ^ 32 * s.getF b TIL_SEQSTART_HI.START) else s.linNow
    let s := s.setF (ctxB t x) APG_CTX_STATUS.STATE (if k.fin.isSome then 3 else 2)
    let ls := s.ctxLeaders t x
    let s := ls.foldl (fun s c => (s.modEng c fun e => { e with next := p }).setEngState c 1) s
    done ((ls.zipIdx).foldl (fun s e => s.period e.1 (seen.getD e.2 [])) s)

/-! ### One instruction (R164 to R170, R172) -/

/-- The fields of an instruction. -/
def apgFlow (i : Nat) : Nat := bits i 127 124
def apgFk (i : Nat) : Nat := bits i 123 121
def apgFaddr (i : Nat) : Nat := bits i 120 109
def apgXop (i : Nat) : Nat := bits i 108 105
def apgXk (i : Nat) : Nat := bits i 104 102
def apgYop (i : Nat) : Nat := bits i 101 98
def apgYk (i : Nat) : Nat := bits i 97 95
def apgChain (i : Nat) : Nat := bits i 94 93
def apgBop (i : Nat) : Nat := bits i 92 91
def apgDop (i : Nat) : Nat := bits i 90 88
def apgCyc (i : Nat) : Nat := bits i 84 83
def apgTs (i : Nat) : Nat := bits i 82 78
def apgCtl (i : Nat) : Nat := bits i 77 70
def apgIop (i : Nat) : Nat := bits i 69 67
def apgIk (i : Nat) : Nat := bits i 66 64
def apgImm (i : Nat) : Nat := bits i 63 48

/-- A register of a chain after an operation: value, reference, carry. -/
structure AddrRes where
  v : Nat
  ref : Nat
  carry : Bool
  deriving DecidableEq, Repr

/-- XOP or YOP (R166) on value v with limits lo, hi, reference ref and index value ik; applies: INC, DEC and ADDI are let through. -/
def addrOp (op v lo hi ref ik : Nat) (applies : Bool) : AddrRes :=
  let span : Int := (hi : Int) - lo + 1
  match op with
  | 1 => if ¬ applies then ⟨v, ref, false⟩ else if hi ≤ v then ⟨lo, ref, true⟩ else ⟨v + 1, ref, false⟩
  | 2 => if ¬ applies then ⟨v, ref, false⟩ else if v ≤ lo then ⟨hi, ref, true⟩ else ⟨v - 1, ref, false⟩
  | 3 => ⟨lo, ref, false⟩
  | 4 => ⟨hi, ref, false⟩
  | 5 => ⟨ref, ref, false⟩
  | 6 => ⟨v, v, false⟩
  | 7 =>
    let sum : Int := (v : Int) - lo + (ik % 65536 : Nat)
    if ¬ applies then ⟨v, ref, false⟩ else ⟨((lo : Int) + sum % span).toNat % 65536, ref, decide (span ≤ sum)⟩
  | 8 => ⟨ik % 65536, ref, false⟩
  | 9 => ⟨((lo : Int) + hi - v + 65536).toNat % 65536, ref, false⟩
  | _ => ⟨v, ref, false⟩

/-- BOP (R166): value and carry. -/
def bankOp (op v bmax : Nat) (applies : Bool) : Nat × Bool :=
  match op with
  | 1 => if ¬ applies then (v, false) else if bmax ≤ v then (0, true) else (v + 1, false)
  | 2 => if ¬ applies then (v, false) else if v = 0 then (bmax, true) else (v - 1, false)
  | 3 => (0, false)
  | _ => (v, false)

/-- X, Y, B after an instruction and AC (R166, R167). -/
def chainOps (i : Nat) (x y : Bool → AddrRes) (b : Bool → Nat × Bool) : AddrRes × AddrRes × Nat × Bool :=
  match apgChain i with
  | 0 => let rx := x true; let ry := y true; let rb := b true; (rx, ry, rb.1, rx.carry || ry.carry || rb.2)
  | 1 => let rx := x true; let ry := y rx.carry; (rx, ry, (b true).1, ry.carry)
  | 2 => let ry := y true; let rx := x ry.carry; (rx, ry, (b true).1, rx.carry)
  | _ => let rx := x true; let ry := y rx.carry; let rb := b ry.carry; (rx, ry, rb.1, rb.2)

/-- D after DOP (R168). -/
def dataOp (op d dr0 dr1 ik : Nat) : Nat :=
  match op with
  | 1 => dr0
  | 2 => dr1
  | 3 => 2 ^ 32 - 1 - d
  | 4 => (2 * d + d / 2 ^ 31) % 2 ^ 32
  | 5 => (2 * d + 1) % 2 ^ 32
  | 6 => ik
  | _ => d

/-- I_k after IOP (R169). -/
def indexOp (op v imm x y : Nat) : Nat :=
  match op with
  | 1 => (v + 1) % 2 ^ 32
  | 2 => (v + 2 ^ 32 - 1) % 2 ^ 32
  | 3 => imm
  | 4 => x
  | 5 => y
  | 6 => (v + imm) % 2 ^ 32
  | _ => v

/-- A scrambled address (R168): bit i is bit perm_i of v, with bit i of a table entry on it. -/
def scramble (v perm entry : Nat) : Nat :=
  (List.range 16).foldl (fun n i => setBit n i (v.testBit (bits perm (4 * i + 3) (4 * i)) != entry.testBit i)) 0

/-- X′ and Y′ of a cycle (R168). -/
def State.pinAddr (s : State) (t x i vx vy vb : Nat) : Nat × Nat :=
  if ¬ bitB i 85 then (vx, vy)
  else
    let b := ctxB t x
    let a := vx + 2 ^ 16 * vy + 2 ^ 32 * vb
    let ex := s.sramN (apgXor t x + 2 * (a / 2 ^ s.getF b APG_CTX_SIDX.XPOS % 256)) 2
    let ey := s.sramN (apgXor t x + 0x200 + 2 * (a / 2 ^ s.getF b APG_CTX_SIDX.YPOS % 256)) 2
    (scramble vx (s.getF b APG_CTX_XPERM0.SEL + 2 ^ 32 * s.getF b APG_CTX_XPERM1.SEL) ex,
     scramble vy (s.getF b APG_CTX_YPERM0.SEL + 2 ^ 32 * s.getF b APG_CTX_YPERM1.SEL) ey)

/-- E, the data of a cycle (R168). -/
def State.cycleData (s : State) (t x i d px py vb : Nat) : Nat :=
  let ones := 2 ^ 32 - 1
  let e := if bitB i 87 then ones - d else d
  if ¬ bitB i 86 then e
  else
    let b := ctxB t x
    let p := px + 2 ^ 16 * py + 2 ^ 32 * vb
    let k := p / 2 ^ s.getF b APG_CTX_SIDX.TPOS % 4096
    let e := if (s.sramN (apgTopo t x + 4 * (k / 32)) 4).testBit (k % 32) then ones - e else e
    Nat.xor e (s.sramN (apgInv t x + 4 * (p / 2 ^ s.getF b APG_CTX_SIDX.IPOS % 256)) 4)

/-- The pin code of local channel l in a cycle, and its bit of F where it compares (R172). -/
def State.cyclePin (s : State) (t l cyc px py vb e ctl : Nat) : Nat × Option Nat :=
  let b := tileBase t + 4 * l
  let sel := s.getF b APG_PMAP.SEL
  let term := s.isSet b APG_PMAP.TERM
  match s.getF b APG_PMAP.ROLE with
  | 1 => (b2n ((px + 2 ^ 16 * py + 2 ^ 32 * vb).testBit sel), none)
  | 2 =>
    if cyc = 1 then (b2n (e.testBit sel), none)
    else if cyc = 2 then ((if term then 8 else 2) + b2n (e.testBit sel), some sel)
    else (if term then 7 else 6, none)
  | 3 => (b2n (ctl.testBit sel), none)
  | 4 => (s.getF b APG_PMAP.FIXC, none)
  | _ => (5, none)

/-- The error of R170 that the instruction at the context's PC has. -/
def State.apgErr (s : State) (t x i : Nat) : Option Nat :=
  let b := ctxB t x
  let pc := s.getF b APG_CTX_STATUS.PC
  let k := s.ctx t x
  let ms := (s.ctxLeaders t x).flatMap s.mem
  if pc < s.getF b APG_CTX_WIN.LO ∨ s.getF b APG_CTX_WIN.HI < pc then some 5
  else if i % 2 ^ 47 ≠ 0 ∨ 10 ≤ apgFlow i ∨ 10 ≤ apgXop i ∨ 10 ≤ apgYop i ∨ apgDop i = 7 ∨ apgIop i = 7 then some 1
  else if ms.any fun c => !s.tsOk c (apgTs i) || decide ((s.tsVals c (apgTs i)).per < 800) then some 4
  else if apgFlow i = 7 ∧ 4 ≤ k.stack.length then some 2
  else if apgFlow i = 8 ∧ k.stack = [] then some 3
  else none

/-- The context stops once its queued cycles are out (R170, R174): at once where none is; in START the run still starts with them. -/
def State.ctxFin (s : State) (t x : Nat) (f : RunEnd) : State :=
  let b := ctxB t x
  let waits := s.getF b APG_CTX_STATUS.STATE = 1
  let s := s.modCtx t x fun k => { k with fin := some f }
  if (waits ∨ s.ctxLeaders t x = []) ∧ s.ctxEmpty t x then s.endCtx t x f
  else if waits then s else s.setF b APG_CTX_STATUS.STATE 3

/-- Every bound group takes one more cycle into its queue. -/
def State.pushCycle (s : State) (t x i : Nat) (y : Cycle) (code : Nat → Nat × Option Nat) : State :=
  (s.ctxLeaders t x).foldl (fun s c =>
    let pins := (s.mem c).map fun m =>
      let r := code (m % 128)
      ({ chan := m, code := r.1, ts := s.tsVals m (apgTs i), bit := r.2 } : Pin)
    s.modEng c fun e => { e with queue := e.queue ++ [{ pins := pins, cyc := some y }] }) s

/-- The instruction at the context's PC takes effect (R165). -/
def State.apgStep (s : State) (t x i : Nat) : State :=
  let b := ctxB t x
  let k := s.ctx t x
  let pc := s.getF b APG_CTX_STATUS.PC
  let vx := s.getF b APG_CTX_XY.X
  let vy := s.getF b APG_CTX_XY.Y
  let vb := s.getF b APG_CTX_B.B
  let d := s.getF b APG_CTX_D.D
  let p := s.pinAddr t x i vx vy vb
  let e := s.cycleData t x i d p.1 p.2 vb
  let s := s.pushCycle t x i { x := vx, y := vy, b := vb, mark := if bitB i 47 then some pc else none }
    fun l => s.cyclePin t l (apgCyc i) p.1 p.2 vb e (apgCtl i)
  let ik := k.idx.getD (apgIk i) 0
  let idx := k.idx.set (apgIk i) (indexOp (apgIop i) ik (apgImm i) vx vy)
  let r := chainOps i
    (addrOp (apgXop i) vx (s.getF b APG_CTX_XLIM.XMIN) (s.getF b APG_CTX_XLIM.XMAX) k.xr (idx.getD (apgXk i) 0))
    (addrOp (apgYop i) vy (s.getF b APG_CTX_YLIM.YMIN) (s.getF b APG_CTX_YLIM.YMAX) k.yr (idx.getD (apgYk i) 0))
    (bankOp (apgBop i) vb (s.getF b APG_CTX_B.BMAX))
  let d := dataOp (apgDop i) d (s.getF b APG_CTX_DR0.DR0) (s.getF b APG_CTX_DR1.DR1) (idx.getD (apgIk i) 0)
  let f := idx.getD (apgFk i) 0
  let nxt := (pc + 1) % 4096
  let dst := apgFaddr i
  let (pc', idx, stack) : Nat × List Nat × List Nat :=
    match apgFlow i with
    | 1 => (dst, idx, k.stack)
    | 2 => (if r.2.2.2 then nxt else dst, idx, k.stack)
    | 3 => (if r.2.2.2 then dst else nxt, idx, k.stack)
    | 4 => if f ≠ 0 then (dst, idx.set (apgFk i) (f - 1), k.stack) else (nxt, idx, k.stack)
    | 5 => (if f = 0 then dst else nxt, idx, k.stack)
    | 6 => (if f ≠ 0 then dst else nxt, idx, k.stack)
    | 7 => (dst, idx, nxt :: k.stack)
    | 8 => (k.stack.headD 0, idx, k.stack.tail)
    | 9 => (pc, idx, k.stack)
    | _ => (nxt, idx, k.stack)
  let s := s.setFs b [(APG_CTX_XY.X, r.1.v), (APG_CTX_XY.Y, r.2.1.v), (APG_CTX_B.B, r.2.2.1), (APG_CTX_D.D, d), (APG_CTX_STATUS.PC, pc')]
  let s := s.modCtx t x fun k => { k with idx := idx, xr := r.1.ref, yr := r.2.1.ref, stack := stack }
  if apgFlow i = 9 then s.ctxFin t x (.halt 0) else s

/-- APG_INSTRUCTION (R165, R170, R173): one instruction, if every bound group's queue of 32 cycles has room. -/
def execApgInstruction (t : Fin 8) (x : Fin 4) (s : State) : Res :=
  let st := s.getF (ctxB t x) APG_CTX_STATUS.STATE
  if ¬ (st = 1 ∨ st = 2) ∨ (s.ctx t x).fin.isSome ∨ (s.ctxLeaders t x).any fun c => decide (32 ≤ (s.eng c).queue.length) then done s
  else
    let i := s.sramN (apgBase t + 16 * s.getF (ctxB t x) APG_CTX_STATUS.PC) 16
    match s.apgErr t x i with
    | some n => done (s.ctxFin t x (.error 0 n))
    | none => done (s.apgStep t x i)

/-- APG_GROUP_DROP (R175): a group that has reached DROP leaves its context. -/
def execApgGroupDrop (t : Fin 8) (g : Fin 32) (s : State) : Res :=
  match (List.range 4).find? fun x => (s.ctx t x).drop.testBit g && (s.getF (ctxB t x) APG_CTX_GRPS.GROUPS).testBit g with
  | none => done s
  | some x =>
    let lead := ((s.members t g).head?).getD 0
    let left := (lead, g.val, s.vcnt lead, (s.eng lead).queue)
    let s := (s.members t g).foldl (fun s m => (s.tablesTake m).idleEngine m .z) s
    let s := s.setF (ctxB t x) APG_CTX_GRPS.GROUPS (setBit (s.getF (ctxB t x) APG_CTX_GRPS.GROUPS) g false)
    let s := s.modCtx t x fun k => { k with drop := setBit k.drop g false, dropped := setBit k.dropped g true, gone := k.gone ++ [left] }
    match (s.ctx t x).fin with
    | some f => if s.ctxLeaders t x = [] ∧ s.ctxEmpty t x then done (s.endCtx t x f) else done s
    | none => done s

/-! ### The fail log (R176 to R179) -/

def flLine (g b y : Nat) : Nat := g <<< 25 + b <<< 21 + y
def flFail (g f x : Nat) : Nat :=
  1 <<< 30 + g <<< 25 + ((bitsSet 32 f).headD 0) <<< 20 + b2n (decide (1 < popCount 32 f)) <<< 19 + x
def flBitmap (g m : Nat) : Nat := 2 <<< 30 + g <<< 25 + m
def flMark (g a : Nat) : Nat := 3 <<< 30 + g <<< 25 + a

/-- Writes entries at the end of tile t's fail log. -/
def State.flWrite (s : State) (t : Nat) (es : List Nat) : State :=
  let b := tileBase t
  let w := s.getF b APG_FL_WCNT.COUNT
  let s := (es.zipIdx).foldl (fun s e => s.sramSet (apgLog t + 4 * (w + e.2)) 4 e.1) s
  (s.setF b APG_FL_WCNT.COUNT (w + es.length)).setF b APG_FL_STATUS.FULL (b2n (decide (65536 ≤ w + es.length)))

/-- The record of a failing cycle (R177, R178). -/
def State.flRecord (s : State) (t g x y b f : Nat) : State :=
  let k := s.flGroup t g
  let tb := tileBase t
  let marks := match k.mark with | some a => [flMark g a] | none => []
  let line := if k.mark.isSome ∨ k.line ≠ some (b, y) then [flLine g b y] else []
  let near := match k.xf with
    | some v => s.isSet tb APG_FL_CFG.BM && decide (line = []) && decide (v + 1 ≤ x ∧ x ≤ v + 25)
    | none => false
  let bitAt := x - ((k.xf.getD 0) + 1)
  let w := s.getF tb APG_FL_WCNT.COUNT
  match near, k.bitmap with
  | true, some n =>
    let a := apgLog t + 4 * n
    s.sramSet a 4 (setBit (s.sramN a 4) bitAt true)
  | _, _ =>
    let es := marks ++ line ++ [if near then flBitmap g (2 ^ bitAt) else flFail g f x]
    let gmax := s.getF tb APG_FL_CFG.GMAX * 256
    if 65536 < w + es.length ∨ (gmax ≠ 0 ∧ gmax < k.entries + es.length) then
      (s.incSat (tb + 0x10 * g) APG_FL_LOST.COUNT 1).setF tb APG_FL_STATUS.LOSS 1
    else
      let s := s.flWrite t es
      s.modFlGroup t g fun k => { line := some (b, y), mark := none, xf := if near then k.xf else some x,
                                  bitmap := if near then some w else none, entries := k.entries + es.length }

/-- What waits for the log is taken up to and with the next failing cycle; markers only become pending. -/
def State.flTake (s : State) (t : Nat) : Nat → State
  | 0 => s
  | fuel + 1 =>
    match (s.tile t).flQueue with
    | [] => s
    | (_, .mark g a) :: rs => State.flTake ((s.modTile t fun k => { k with flQueue := rs }).modFlGroup t g fun k => { k with mark := some a }) t fuel
    | (_, .fail g x y b f) :: rs => (s.modTile t fun k => { k with flQueue := rs }).flRecord t g x y b f

/-- FAIL_LOG_RECORD (R177). -/
def execFailLogRecord (t : Fin 8) (s : State) : Res := done (s.flTake t ((s.tile t).flQueue.length))

/-- The fail log is emptied (R179). -/
def State.flClear (s : State) (t : Nat) : State :=
  let b := tileBase t
  let s := ((s.setF b APG_FL_WCNT.COUNT 0).setF b APG_FL_STATUS.FULL 0).flUnmark t fun _ => true
  (List.range 32).foldl (fun s g => s.modFlGroup t g fun _ => {}) s

/-- A FAIL_DUMP with CLEAR meets a running context of its tile (R179). -/
def State.clearHeld (s : State) (c : Cmd) : Bool := bitB (c.p 0) 8 && s.getF (tileBase (c.pf 0 2 0)) APG_STATUS.RUN != 0

/-- FAIL_DUMP (R179). [DESIGN CHOICE, log entry 10] -/
def execFailDump (cmd : CmdRef) (s : State) : Res :=
  match s.ready? cmd opFAILDUMP with
  | none => done s
  | some c =>
    let t := c.pf 0 2 0
    let clear := bitB (c.p 0) 8
    if s.clearHeld c then done (s.endCmd cmd { status := scSTATE, detail := 0x04 })
    else
      let w := s.getF (tileBase t) APG_FL_WCNT.COUNT
      let first := c.pf 4 16 0
      let n := min (c.pf 8 16 0) (w - first)
      let o := s.output c (memRead sramReset s.sram (apgLog t + 4 * first) (4 * n))
      let s := o.1
      let cut := o.2
      let s := if clear then s.flClear t else s
      done (s.endCmd cmd { status := scOK, partialDone := cut || decide (w < first + c.pf 8 16 0), result := c.outLen (4 * n) / 4 })

end Sys2Proof.Machine
end

