-- ==== Sys2Proof/Machine/Stamps.lean ====
section
/-! DEFINITION. Meanings of the stamping, delay-line and Sepia commands and events (chapter 6). -/

namespace Sys2Proof.Machine

/-- TDC_STAMP (R143 to R145). -/
def execTdcStamp (u : Fin 1056) (src : Fin 3) (rising : Bool) (q : Fin 200) (dead : Bool) (s : State) : Res :=
  if s.clocked then done (s.stampEdge u (edgeCode src rising) q dead) else done s

/-- STAMP_BUFFER_WRITE (R147). -/
def execStampBufferWrite (t : Fin 8) (s : State) : Res := done (s.stampCollect t)

/-- DLL_LOCK (R138): once every line of the unit is locked the condition of DLL_UNLOCK ends. -/
def execDllLock (u : Fin 1061) (line : Fin 6) (s : State) : Res :=
  if ¬ (lineMask u).testBit line then done s
  else
    let s := s.modTdc u fun d => { d with locks := setBit d.locks line true }
    let s := s.showLocks u
    if (s.tdc u).locks &&& lineMask u = lineMask u then
      let k := s.tdcUnit u
      done (s.condEnd 0x0C k.1 k.2)
    else done s

/-- DLL_UNLOCK (R138): UNLK_SEEN and the fault, with the line as its DETAIL (R357). -/
def execDllUnlock (u : Fin 1061) (line : Fin 6) (s : State) : Res :=
  if ¬ (s.tdc u).locks.testBit line then done s
  else
    let s := (s.modTdc u fun d => { d with locks := setBit d.locks line false }).showLocks u
    let s := if u.val < 1056 then s.setF (feB u) CHN_TIM_STATUS.UNLK_SEEN 1 else s
    let k := s.tdcUnit u
    done (s.detect 0x0C k.1 k.2 line)

/-- The tap whose measured delay, in 1/256 units, lies nearest to f units; of two the lower (R141). [DESIGN CHOICE, log entry 66] -/
def nearestTap (delays : List Nat) (f : Nat) : Nat :=
  let away (d : Nat) : Nat := ((d : Int) - 256 * f).natAbs
  ((delays.zipIdx.foldl (fun (b : Option (Nat × Nat)) e => match b with
    | none => some (away e.1, e.2)
    | some x => if away e.1 < x.1 then some (away e.1, e.2) else some x) none).map fun x => x.2).getD 0

/-- The inverse table of a vernier line (R141). -/
def inverseTable (delays : List Nat) : List Nat := (List.range 200).map (nearestTap delays)

/-- An acquisition of unit u's line can end now (R139): TDC disabled, engine IDLE; during boot, for a transfer of its tile, on SELFTEST. -/
def State.acquires (s : State) (u : Nat) : Bool :=
  (decide (1056 ≤ u) || (!s.isSet (feB u) CHN_TDC_CFG.EN && (decide (1024 ≤ u) || s.engState u == 0))) &&
    (decide (s.mode = stBOOT) || (s.acqDue u && !s.underTest u) || s.tests.any fun x => x.outcome.isNone && x.code == 3 && x.unit == u)

/-- The histogram is usable: no bin empty, none above 3,932 (R139). -/
def histOk (h : List Nat) : Bool := decide (h.length = 200) && h.all fun x => decide (1 ≤ x ∧ x ≤ 3932)

/-- CODE_DENSITY_DONE (R139, R141): rejected tables raise CAL_TOLERANCE; accepted ones are staged, and during boot take effect at once.  It
happens only where an acquisition can end, with as many hits as one collects. -/
def execCodeDensityDone (u : Fin 1061) (hist : List Nat) (delays : List (List Nat)) (drv stb tdc : Fin 1024) (s : State) : Res :=
  if ¬ s.acquires u ∨ hist.foldl (· + ·) 0 ≠ 262144 then done s
  else if ¬ histOk hist then
    let k := s.tdcUnit u
    done ((s.acqDone u).detect 0x0D k.1 k.2 0)
  else
    let s := s.acqDone u
    let k : Timing := { hist := hist, inv := delays.map inverseTable, drv := drv, stb := stb, tdc := tdc }
    if s.mode = stBOOT then done ({ s with timing := tabSet (fun _ => {}) s.timing u k }.showDsk u)
    else done { s with timingNew := tabSet (fun _ => {}) s.timingNew u k }

/-- SEPIA_SAMPLE (R152, R153, R155). -/
def execSepiaSample (t : Fin 8) (s : State) : Res := done (s.sepiaProcess t)

/-- SEPIA_JOB_COMPLETE (R151, R153, R154). -/
def execSepiaJobComplete (t : Fin 8) (slot : Fin 16) (s : State) : Res :=
  if s.getF (tileBase t + 4 * slot) SEP_JOB.STATE = 2 then done (s.jobEnd t slot { status := scOK }) else done s

/-- SEPIA_JOB_TIMEOUT (R151): OK with PARTIAL; a job without a limit has no time-out. -/
def execSepiaJobTimeout (t : Fin 8) (slot : Fin 16) (s : State) : Res :=
  match s.liveJob t slot with
  | none => done s
  | some (_, c) => if c.p 0xC = 0 then done s else done (s.jobEnd t slot { status := scOK, partialDone := true })

/-- STATS_READ_START (R151): the job takes the lowest free slot. -/
def execStatsReadStart (cmd : CmdRef) (s : State) : Res :=
  match s.ready? cmd opSTATS with
  | none => done s
  | some c =>
    let t := c.pf 0 3 1
    match s.freeJob t with
    | none => done s
    | some n => done ((s.jobStart t n c).modCmd cmd fun c => { c with started := true, prog := n })

/-- The running job of its tile that a PEEK names (R151). -/
def State.peeked (s : State) (c : Cmd) : Option (Job × Cmd) :=
  (List.range 16).findSome? fun n => match s.liveJob (c.pf 0 3 1) n with
    | some (j, k) => if j.run = ⟨c.pf 4 17 12, c.pf 4 11 0⟩ then some (j, k) else none
    | none => none

/-- STATS_READ_PEEK (R151): a snapshot of the named running job, OK with PARTIAL; no such job: REFUSED_STATE. -/
def execStatsReadPeek (cmd : CmdRef) (s : State) : Res :=
  match s.ready? cmd opSTATS with
  | none => done s
  | some c =>
    let t := c.pf 0 3 1
    match s.peeked c with
    | none => done (s.endCmd cmd { status := scSTATE, detail := 0x0F })
    | some (j, k) =>
      let o := s.output c (j.blocks k t)
      done (o.1.endCmd cmd { status := scOK, partialDone := true, result := j.sets.length })

end Sys2Proof.Machine
end

