-- ==== Sys2Proof/Machine/Calibration.lean ====
section
/-! DEFINITION. Meanings of the calibration commands and events (chapter 9): anchor, transfer, rotation, commits, the archive, remapping. -/

namespace Sys2Proof.Machine

/-! ### Shades -/

/-- State of shade nn: 0 ACTIVE, 1 SPARE, 2 SERVING. -/
def State.shadeState (s : State) (nn : Nat) : Nat := bits (s.getF (nn / 4 * 0x10) CAL_TILE_SHD.STATE) (2 * (nn % 4) + 1) (2 * (nn % 4))

/-- Sets a shade's state in its tile's register and record and in its own CAL_FE_STATE (R224, R236). -/
def State.setShade (s : State) (nn st : Nat) : State :=
  let b := nn / 4 * 0x10
  let old := s.getF b CAL_TILE_SHD.STATE
  let k := nn % 4
  let v := old - bits old (2 * k + 1) (2 * k) * 4 ^ k + st * 4 ^ k
  let s := (s.setF b CAL_TILE_SHD.STATE v).calPut (tileRec (nn / 4) + 32) 1 v
  s.setCalState (1024 + nn) (if st = 0 then 0 else if st = 1 then 3 else 4) 0

def State.activeShades (s : State) : List Nat := (List.range 32).filter fun nn => s.shadeState nn = 0

/-! ### Archive (R222, R224) -/

/-- The record in a slot is valid (R224, R225): its COUNTER. -/
def State.slotValid (s : State) (k : Nat) : Option Nat :=
  let a := 0xC00000 + 0x100000 * k
  if s.flashN a 4 = 0x514C4341 ∧ s.flashN (a + 4) 2 = 1 ∧ s.flashN (a + 0x3C) 4 = crc32 (s.flashRead a 0x3C) ∧
    s.flashN (a + 0xC6300) 4 = crc32 (s.flashRead (a + 0x40) 0xC62C0) ∧ s.flashN (a + 0x22) 1 = b2n Config.gradeAM then some (s.flashN (a + 8) 4)
  else none

/-- The slot of the valid record with the highest COUNTER. -/
def State.newestSlot (s : State) : Option (Nat × Nat) :=
  (List.range 4).foldl (fun m k => match s.slotValid k with
    | some n => (match m with | some (_, x) => if x < n then some (k, n) else m | none => some (k, n))
    | none => m) none

/-- The committed buffer as a record: fixed header fields, the two CRCs. [DESIGN CHOICE, log entry 7] -/
def State.sealRecord (s : State) (counter : Nat) : State :=
  let s := ((((s.calPut 0 4 0x514C4341).calPut 4 2 1).calPut 6 2 s.gen).calPut 8 4 counter).calPut 0xC 4 0xC62C0
  let s := s.calPut 0x22 1 (b2n Config.gradeAM)
  let s := s.calPut 0x3C 4 (crc32 (memRead sramReset s.sram calBase 0x3C))
  s.calPut 0xC6300 4 (crc32 (memRead sramReset s.sram (calBase + 0x40) 0xC62C0))

/-- An archive write starts for the commands given, or follows the one in progress. -/
def State.archStart (s : State) (cmds : List CmdRef) : State :=
  if s.isSet 0 CAL_STATUS.ARCH_BUSY then { s with archNext := some (s.archNext.getD [] ++ cmds) }
  else { s.setF 0 CAL_STATUS.ARCH_BUSY 1 with archNow := cmds }

/-- CAL_ARCHIVE_TIMER (R224). -/
def execCalArchiveTimer (s : State) : Res :=
  if s.calDirty ∧ ¬ s.isSet 0 CAL_STATUS.ARCH_BUSY then done (s.archStart []) else done s

/-- The commands that awaited an archive write end (R222). [DEDUCED, log entry 50] -/
def State.archEnd (s : State) (ok : Bool) : State :=
  s.archNow.foldl (fun s r => match s.cmd? r with
    | some c => s.endCmd r { status := scOK, partialDone := !ok, result := if c.op = opCOMMIT then s.gen else 0 }
    | none => s) s

/-- ARCHIVE_WRITE_DONE (R222, R224): the slot after the newest valid record's takes the record. -/
def execArchiveWriteDone (ok : Bool) (s : State) : Res :=
  if ¬ s.isSet 0 CAL_STATUS.ARCH_BUSY then done s
  else
    let s := if ok then
        let n := s.getF 0 CAL_ARCH_CNT.COUNT + 1
        let s := s.sealRecord n
        let k := match s.newestSlot with | some (k, _) => (k + 1) % 4 | none => 0
        let a := 0xC00000 + 0x100000 * k
        let s := (s.flashErase a 0x100000).flashPut a (memRead sramReset s.sram calBase recEnd)
        { s.setF 0 CAL_ARCH_CNT.COUNT n with calDirty := false }
      else s.setF 0 CAL_STATUS.ARCH_ERR 1
    let s := (s.archEnd ok).setF 0 IRQ_LATCH.CAL 1
    done ({ s with archNow := s.archNext.getD [], archNext := none }.setF 0 CAL_STATUS.ARCH_BUSY (b2n s.archNext.isSome))

/-! ### Commits (R221, R222) -/

/-- Moves n bytes of the staging buffer at o into the committed buffer. -/
def State.calTake (s : State) (o n : Nat) : State :=
  { s with sram := memWrite sramReset s.sram (calBase + o) (memRead sramReset s.sram (calStage + o) n) }

/-- The staging buffer is empty; an anchor is staged no more. -/
def State.unstage (s : State) : State :=
  let s := s.sramClear fun a => decide (calStage ≤ a ∧ a < calStage + 0x100000)
  let s := s.setFs 0 [(CAL_STATUS.ANCHOR_STAGED, 0), (CAL_STATUS.XFER_STAGED, 0)]
  { s with stagedUnits := [], stagedTiles := [], stagedXfer := 0, timingNew := [], anchor := if s.isSet 0 CAL_STATUS.ANCHOR_RUN then s.anchor else {} }

/-- A pass of tile t starts (R217). -/
def State.passStart (s : State) (t : Nat) : State := (s.setF (t * 0x10) CAL_TILE_ROT.PASS 1).modTile t fun x => { x with passDone := 0 }

/-- What the commit of an anchor adds (R222): the header's anchor part, the shades' states, every tile due. -/
def State.commitAnchor (s : State) (gen : Nat) : State :=
  let a := s.anchor
  let w (i : Nat) : Nat := (a.block.getD i 0).toNat
  let now := s.calTime
  let s := ((s.calPut 0x18 8 now).calPut 0x20 2 gen).calPut 0x24 12 (w 8 + w 9 <<< 32 + w 10 <<< 64)
  let s := ((s.calPut 0x30 8 a.mref).calPut 0x38 4 (w 6 % 2 ^ 16)).calPut 0x40 4 (w 6 / 2 ^ 16 + (w 7 % 2 ^ 16) <<< 16)
  let s := s.calPut 0x48 24 ((List.range 6).foldl (fun n i => n + w i <<< (32 * i)) 0)
  let s := s.setF 0 CAL_GEN.ANCHOR_GEN gen
  let s := s.setFs 0 [(CAL_ANCHOR_TIME_LO.SEC, now), (CAL_ANCHOR_TIME_HI.SEC, now / 2 ^ 32), (CAL_MREF_LO.NV, a.mref), (CAL_MREF_HI.NV, a.mref / 2 ^ 32)]
  let s := (List.range 32).foldl (fun s nn =>
    if s.shadeState nn = 2 then s
    else if a.failed.testBit nn ∨ (a.tol.any fun e => e.1 == nn) then s.setShade nn 1
    else if a.passed.testBit nn then s.setShade nn 0 else s) s
  let s := a.tol.foldl (fun s e => s.detect 0x0D scSHADE e.1 e.2) s
  (List.range 8).foldl (fun s t => s.setF (t * 0x10) CAL_TILE_ROT.DUE 1) s

/-- The tables of a new generation: stamps use them at once, the edges of a running channel from its next period boundary (R149, R157). -/
def State.takeTables (s : State) (u : Nat) (k : Timing) : State :=
  let s := if u < 1024 ∧ s.patRunning u then s.modTdc u fun d => { d with held := some (s.edgeTim u) } else s
  ({ s with timing := tabSet (fun _ => {}) s.timing u k }).showDsk u

/-- The generation changes during every set that a Sepia job is still filling (R154, R157). -/
def State.genChanges (s : State) : State :=
  (List.range 8).foldl (fun s t => (List.range 16).foldl (fun s n => match s.liveJob t n with
    | some (j, c) => s.setJob t n (some { j with sets := j.sets.map fun a => if a.count < c.jN then { a with genChg := true } else a })
    | none => s) s) s

/-- The buffers change roles: what the staged rows do not hold is as committed at this moment (R222). -/
def State.commitNow (s : State) : State :=
  let gen := if s.gen = 0xFFFF then 1 else s.gen + 1
  let anchor := s.isSet 0 CAL_STATUS.ANCHOR_STAGED
  let units := s.stagedUnits
  let xfer := s.stagedXfer
  let s := units.foldl (fun s e =>
    if e.2.isSome then (s.calTake (feRec e.1) 704).calTake (feRec e.1 + recForce) 8 else s.calTake (feRec e.1) 440) s
  let s := s.stagedTiles.foldl (fun s t =>
    let s := s.calTake (tileRec t + 16) 16
    if xfer.testBit t then (s.calTake (tileRec t) 2).calTake (tileRec t + 8) 8 else s) s
  let s := { s with rotAt := units.foldl (fun m (e : Nat × Option Nat) => match e.2 with | some a => tabSet (fun _ => none) m e.1 (some a) | none => m) s.rotAt }
  let new := s.timingNew
  let s := new.foldl (fun s e => s.takeTables e.1 e.2) s
  let s := (((s.setF 0 CAL_GEN.GEN gen).calPut 6 2 gen).calPut 0x10 8 s.calTime).calPut 0x23 1 (b2n anchor)
  let s := (if anchor then s.commitAnchor gen else s).genChanges
  let s := s.unstage
  let s := (bitsSet 8 xfer).foldl State.passStart s
  { s.setF 0 IRQ_LATCH.CAL 1 with calDirty := true }

/-- COMMIT_EDGE (R222). -/
def execCommitEdge (s : State) : Res :=
  if ¬ s.commitPend then done s
  else
    let anchor := s.isSet 0 CAL_STATUS.ANCHOR_STAGED
    let cmds := s.commitCmds
    let s := { (if s.anyStaged then s.commitNow else s) with commitPend := false, commitCmds := [] }
    done (if anchor then s.archStart cmds else cmds.foldl (fun s r => s.endCmd r { status := scOK, result := s.gen }) s)

/-- CAL_COMMIT, action COMMIT (R222). -/
def execCalCommit (cmd : CmdRef) (s : State) : Res :=
  match s.ready? cmd opCOMMIT with
  | none => done s
  | some c =>
    if c.pf 0 1 0 ≠ 0 then done s
    else if ¬ s.anyStaged then done (s.endCmd cmd { status := scOK, result := s.gen })
    else done { s.modCmd cmd (fun k => { k with started := true }) with commitPend := true, commitCmds := s.commitCmds ++ [cmd] }

/-- CAL_COMMIT, action DISCARD (R222). -/
def execCalDiscard (cmd : CmdRef) (s : State) : Res :=
  match s.ready? cmd opCOMMIT with
  | none => done s
  | some c =>
    if c.pf 0 1 0 ≠ 1 then done s
    else done (s.unstage.endCmd cmd { status := scOK, result := s.gen })

/-- CAL_COMMIT, action ARCHIVE (R222). -/
def execCalArchive (cmd : CmdRef) (s : State) : Res :=
  match s.ready? cmd opCOMMIT with
  | none => done s
  | some c =>
    if c.pf 0 1 0 ≠ 2 then done s
    else done ((s.modCmd cmd fun k => { k with started := true }).archStart [cmd])

/-! ### The anchor (R208 to R212) -/

/-- Why a CAL_ANCHOR is refused (R212). -/
def State.anchorCheck (s : State) : Option Ending :=
  if s.isSet 0 CAL_STATUS.ANCHOR_RUN ∨ s.isSet 0 CAL_STATUS.ANCHOR_STAGED ∨ ¬ s.isSet 0 CAL_STATUS.TIME_SET ∨ s.activeShades = [] then
    some { status := scSTATE, detail := 0x06 }
  else none

/-- CAL_ANCHOR (R211, R212): step 1. -/
def execCalAnchor (cmd : CmdRef) (s : State) : Res :=
  match s.ready? cmd opANCHOR with
  | none => done s
  | some c =>
    match s.anchorCheck with
    | some e => done (s.endCmd cmd e)
    | none =>
      let s := (s.modCmd cmd fun k => { k with started := true }).setF 0 CAL_STATUS.ANCHOR_RUN 1
      done { s with anchor := { run := some cmd, step := 1, block := (List.range 12).map fun i => BitVec.ofNat 32 (c.p (4 * i)) } }

/-- Insertion into a rising list of rationals. -/
def ratInsert (x : Rat) : List Rat → List Rat
  | [] => [x]
  | y :: ys => if x ≤ y then x :: y :: ys else y :: ratInsert x ys

/-- The median: of an even number, the mean of the two in the middle. [DESIGN CHOICE, log entry 49] -/
def ratMedian (l : List Rat) : Rat :=
  let m := l.foldr ratInsert []
  let n := m.length
  if n % 2 = 1 then m.getD (n / 2) 0 else (m.getD (n / 2 - 1) 0 + m.getD (n / 2) 0) / 2

/-- A whole number at most 1 from a rational on either side: the spec does not say how it is rounded, so a free value decides. [DESIGN CHOICE, log entry 49] -/
def State.roundFree (s : State) (x : Rat) : Int × State :=
  let r := s.draw 1
  (if x.isInt then x.num else x.floor + r.1, r.2)

/-- Values by shade: those kept, and the shades more than 5 ppm from the median (R211, R214). -/
def medianSplit (rs : List (Nat × Rat)) : List Rat × List Nat :=
  let m := ratMedian (rs.map fun e => e.2)
  let far (x : Rat) : Bool := decide (|m| * 5 < |x - m| * 1000000)
  ((rs.filter fun e => !far e.2).map (fun e => e.2), (rs.filter fun e => far e.2).map (fun e => e.1))

/-- The ratios of step 3. -/
def ratioSplit (l : List (Fin 32 × Int × Nat)) : List Rat × List Nat := medianSplit (l.map fun e => (e.1.val, (e.2.1 : Rat) / e.2.2))

/-- The shades' measurements of a transfer resistor averaged (R214), without those more than 5 ppm from the median; without any, the committed
value stays. [DESIGN CHOICE, log entry 68] -/
def State.tresMean (s : State) (l : List (Nat × Nat)) (old : Nat) : Nat × State :=
  let keep := (medianSplit (l.map fun e => (e.1, (e.2 : Rat)))).1
  if keep = [] then (old, s)
  else
    let r := s.roundFree (keep.foldl (· + ·) 0 / keep.length)
    (r.1.toNat, r.2)

/-- MREF and its change from the ratios (R211, R212); a change from no previous anchor is not stated. [DESIGN CHOICE, log entry 49] -/
def State.anchorMref (s : State) (keep : List Rat) : State :=
  let w (i : Nat) : Nat := (s.anchor.block.getD i 0).toNat
  let cert := signed 64 (w 0 + w 1 * 2 ^ 32)
  let avg : Rat := keep.foldl (· + ·) 0 / keep.length
  let r := s.roundFree (cert * avg)
  let q := r.2.draw 64
  let m : Int := if keep = [] then q.1 else r.1
  let s := if keep = [] then q.2 else r.2
  let old := signed 64 (s.getF 0 CAL_MREF_LO.NV + 2 ^ 32 * s.getF 0 CAL_MREF_HI.NV)
  let x := s.draw 32
  let y := s.roundFree (((m - old : Int) : Rat) * 100000000 / old)
  let d : Int := if old = 0 then x.1 else y.1
  let s := if old = 0 then x.2 else y.2
  { s with anchor := { s.anchor with mref := unsigned 64 m, change := unsigned 32 d } }

/-- The anchor report (R249). -/
def State.anchorReport (s : State) : List Byte :=
  leBytes 8 s.anchor.mref ++ leBytes 4 s.anchor.change ++ leBytes 4 s.anchor.passed

/-- One unit's corrections into the staging buffer, with its state group as committed and the time of its force-path calibration. -/
def State.stageRow (s : State) (u : Nat) (data : List Byte) (force : Bool) : State :=
  let old := memRead sramReset s.sram (calBase + feRec u) 768
  let n := if force then 704 else 440
  let bs := data.take n ++ old.drop (data.take n).length
  let s := { s with sram := memWrite sramReset s.sram (calStage + feRec u) bs }
  let s := if force then s.sramSet (calStage + feRec u + recForce) 8 s.calTime else s
  { s with stagedUnits := (s.stagedUnits.filter fun e => e.1 ≠ u) ++ [(u, if force then some s.uptime else none)] }

/-- Tile t's record into the staging buffer, with its transfer resistors. -/
def State.stageTile (s : State) (t tresH tresL : Nat) : State :=
  let old := if t ∈ s.stagedTiles then memRead sramReset s.sram (calStage + tileRec t) 64 else memRead sramReset s.sram (calBase + tileRec t) 64
  let s := { s with sram := memWrite sramReset s.sram (calStage + tileRec t) old }
  let s := (s.sramSet (calStage + tileRec t + 16) 8 tresH).sramSet (calStage + tileRec t + 24) 8 tresL
  { s with stagedTiles := s.stagedTiles.filter (· ≠ t) ++ [t] }

/-- Step 8: results staged, anchor switch open, completion (R211, R212). -/
def State.anchorStage (s : State) (rows : List (Fin 32 × CalRow)) : State :=
  let part := rows.filter fun e => !s.anchor.failed.testBit e.1 && s.shadeState e.1 != 2
  let tol := part.filterMap fun e => e.2.fail.map fun k => (e.1.val, k)
  let passed := part.foldl (fun m e => if e.2.fail.isNone then setBit m e.1 true else m) 0
  let s := part.foldl (fun s e => if e.2.fail.isNone then s.stageRow (1024 + e.1) e.2.data true else s) s
  let s := s.setFs 0 [(CAL_STATUS.ANCHOR_STAGED, 1), (CAL_STATUS.ANCHOR_RUN, 0)]
  let run := s.anchor.run
  let s := { s with anchor := { s.anchor with step := 8, tol := tol, passed := passed, run := none } }
  match run.bind s.cmd? with
  | some c =>
    let o := s.output c s.anchorReport
    let s := o.1
    let cut := o.2
    s.endCmd ⟨c.sq, c.tag⟩ { status := scOK, partialDone := cut, result := passed + s.anchor.change <<< 32 }
  | none => s

/-- A rotation or transfer is under way. -/
def State.calBusy (s : State) (p : Nat → Bool) : Bool :=
  (List.range 8).any fun t => p t && (s.getF (t * 0x10) CAL_TILE_ROT.ROT != 0 || s.isSet (t * 0x10) CAL_TILE_ROT.XFER)

/-- What is wrong with a standard resistor (R210): its number, its certificate in µΩ, the resistance in µΩ that 1 nV of sense stands for,
sense and force in nV: reversed, out of tolerance. -/
def resistorFaults (k cert perNv : Nat) (sense force : Int) : List (Nat × Option Nat) :=
  (if sense < 0 ∨ force < sense then [(0x05, some k)] else []) ++
    (if (cert : Int) < 100 * (sense * perNv - cert).natAbs then [(0x0D, none)] else [])

/-- The faults of the check of the standards (R210), class and standard: of the voltage standard, else of resistor A, else of resistor B; the term code
of CAL_TOLERANCE is open. [DESIGN CHOICE, log entry 49] -/
def State.standardFaults (s : State) (inp : AnchorIn) : List (Nat × Option Nat) :=
  let w (i : Nat) : Nat := (s.anchor.block.getD i 0).toNat
  let v := signed 64 (w 0 + w 1 * 2 ^ 32)
  let volt : List (Nat × Option Nat) := (if inp.vx < -100000000 then [(0x05, some 0)] else []) ++
    (if v + 1000000000 < 1000 * (((inp.vx.natAbs : Int) - v).natAbs : Int) then [(0x0D, none)] else [])
  let a := resistorFaults 1 (w 2 + w 3 * 2 ^ 32) 10 inp.senseA inp.forceA
  if volt ≠ [] then volt else if a ≠ [] then a else resistorFaults 2 (w 4 + w 5 * 2 ^ 32) 1 inp.senseB inp.forceB

/-- The faults of the check are raised and end the anchor, with the lowest class (R210, R247). -/
def State.anchorFails (s : State) (l : List (Nat × Option Nat)) : State :=
  let s := l.foldl (fun s e => match e.2 with
    | some k => s.detect e.1 scMODULE 0 k
    | none => let r := s.draw 32; r.2.detect e.1 scMODULE 0 r.1) s
  s.anchorKill (some { status := scABORTFAULT, detail := l.foldl (fun m e => min m e.1) 0xFF })

/-- ANCHOR_STEP (R210, R211). -/
def execAnchorStep (inp : AnchorIn) (s : State) : Res :=
  let n := s.anchor.step
  if ¬ s.isSet 0 CAL_STATUS.ANCHOR_RUN then done s
  else
    let fail (s : State) (l : List Nat) : State := { s with anchor := { s.anchor with failed := l.foldl (fun m k => setBit m k true) s.anchor.failed } }
    let next (s : State) : State := { s with anchor := { s.anchor with step := n + 1 } }
    let s := fail s (inp.failed.map Fin.val)
    if n = 1 then (if s.calBusy fun _ => true then done s else done (next s))
    else if n = 2 then
      let s := { s with anchor := { s.anchor with shade := s.activeShades.headD 0 } }
      let l := s.standardFaults inp
      if l ≠ [] then done (s.anchorFails l) else done (next s)
    else if n = 3 then
      let r := ratioSplit (inp.ratios.filter fun e => !s.anchor.failed.testBit e.1 && s.shadeState e.1 == 0)
      done (next ((fail s r.2).anchorMref r.1))
    else if n = 7 then
      let live (t : Nat) : Bool := (List.range 4).any fun k => s.shadeState (4 * t + k) == 0 && !s.anchor.failed.testBit (4 * t + k)
      let s := (inp.tres.filter fun e => live e.1).foldl (fun s e => s.stageTile e.1 e.2.1.toNat e.2.2.toNat) s
      done (s.anchorStage inp.rows)
    else done (next s)

/-- CAL_ANCHOR_TIMEOUT (R209): an anchor with a time limit ends and stages nothing; the spec does not state its completion status, which is free. [DESIGN CHOICE, log entry 49] -/
def execCalAnchorTimeout (s : State) : Res :=
  if ¬ s.isSet 0 CAL_STATUS.ANCHOR_RUN ∨ s.anchor.block.getD 11 0 = 0 then done s
  else
    let r := s.draw 20
    let st := r.1 % 9
    done (r.2.anchorKill (some { status := st, detail := if st = scOK then 0 else r.1 / 16 % 256, partialDone := bitB r.1 19 }))

/-! ### Transfers (R213 to R215) -/

/-- The transfer's results are staged and CAL_TILEt_TX is updated (R214, R218). -/
def State.xferStage (s : State) (t : Nat) (rows : List (Fin 4 × CalRow)) (tresH tresL : List (Fin 4 × BitVec 64)) : State :=
  let x := s.tile t
  let s := (rows.filter fun e => !s.underTest (1024 + 4 * t + e.1)).foldl (fun s e =>
    let nn := 4 * t + e.1
    let st := s.shadeState nn
    if st = 1 then s
    else match e.2.fail with
      | none => s.stageRow (1024 + nn) e.2.data (decide (st = 0))
      | some term =>
        let (sc, n) := s.faultUnit (1024 + nn)
        (if st = 0 then s.setShade nn 1 else s).detect 0x0D sc n term) s
  let part (l : List (Fin 4 × BitVec 64)) : List (Nat × Nat) :=
    (l.filter fun e => s.shadeState (4 * t + e.1) == 0 && !s.underTest (1024 + 4 * t + e.1)).map fun e => (e.1.val, e.2.toNat)
  let h := s.tresMean (part tresH) (s.cal (tileRec t + 16) 8)
  let l := h.2.tresMean (part tresL) (s.cal (tileRec t + 24) 8)
  let s := l.2.stageTile t h.1 l.1
  let at0 := if s.isSet 0 CAL_STATUS.TIME_SET then s.calTime - (s.uptime - x.xferStart) / tclkHz else 0
  let b := calStage + tileRec t
  let s := ((s.sramSet b 2 x.xferTemp).sramSet (b + 8) 8 at0).sramSet (b + 32) 1 (s.getF (t * 0x10) CAL_TILE_SHD.STATE)
  let s := (s.setF (t * 0x10) CAL_TILE_TX.TEMP x.xferTemp).modTile t fun k =>
    { k with xferAt := some k.xferStart, txValid := (s.getF 0 THM_STATUS.TVALID).testBit t }
  { s.setF 0 CAL_STATUS.XFER_STAGED 1 with stagedXfer := setBit s.stagedXfer t true }

/-- TRANSFER_STEP (R214): steps 1 to 6 begin at 0, 20, 80, 110, 130 and 140 ms. -/
def execTransferStep (t : Fin 8) (rows : List (Fin 4 × CalRow)) (tresH tresL : List (Fin 4 × BitVec 64)) (s : State) : Res :=
  let b := t.val * 0x10
  let n := (s.tile t).xferStep
  let next (s : State) : State := s.modTile t fun x => { x with xferStep := n + 1 }
  if ¬ s.isSet b CAL_TILE_ROT.XFER ∨ s.mode = stSAFE then done s
  else if n = 1 then (if s.getF b CAL_TILE_ROT.ROT ≠ 0 then done s else done (next s))
  else if n = 4 then done (next (s.xferStage t rows tresH tresL))
  else if n < 5 then done (next s)
  else
    let s := (s.setFs b [(CAL_TILE_ROT.XFER, 0), (CAL_TILE_ROT.DUE, 0)]).modTile t fun x => { x with xferStep := 0, xferEnd := some s.uptime }
    if s.isSet 0 CAL_CTRL.AUTO_COMMIT ∧ ¬ s.isSet 0 CAL_STATUS.ANCHOR_STAGED then done { s with commitPend := true } else done s

/-! ### Rotation (R216, R217, R219, R220) -/

/-- Channel c is eligible for rotation (R216). [DEDUCED, log entry 50] -/
def State.eligible (s : State) (c : Nat) : Bool :=
  let nn := shadeOf c
  let u := s.phys c
  decide (s.shadeState nn = 0) && !(s.rot nn).active && !s.isSet (4 * nn) CAL_REMAP.VALID &&
    (s.engState c == 0 || s.engState c == 4) && (s.eng (s.leaderOf c)).ctx.isNone && s.seqStep u == 0 &&
    !(s.cmds.any fun k => decide (k.ending = none) && k.admitted && decide (k.op ≠ opROTATE) && decide (c ∈ k.chans)) &&
    !s.faultHolds c && !s.underTest c && !(decide ((s.fe u).mode = 4) && decide ((s.eng c).stat ≠ .z))

/-- New rotations may start in tile t (R211, R214, R217, R219, R360). -/
def State.rotAllowed (s : State) (t : Nat) : Bool :=
  decide (s.mode = stREADY ∨ s.mode = stACTIVE) && !s.isSet 0 CAL_STATUS.ANCHOR_RUN && !s.isSet (t * 0x10) CAL_TILE_ROT.XFER && !s.tileQ t &&
    !s.svcEntry

/-- A CAL_ROTATE CHANNELS awaits channel c. -/
def State.rotNamed (s : State) (c : Nat) : Bool :=
  s.cmds.any fun k => decide (k.ending = none) && k.started && isRotate 1 k && decide (c ∈ k.busy)

/-- The rotation of channel c registers (R70, R216, R219): direct where it is disabled with an idle converter. -/
def State.rotRegister (s : State) (nn c : Nat) : State :=
  let a := s.adc c
  let idle := decide (a.conv = none) && !a.running && decide (a.inj = []) && decide (a.heldInj = [])
  let direct := !s.feOn c && idle
  let b := nn / 4 * 0x10
  let s := s.setRot nn { active := true, chan := c, direct := direct }
  let s := s.setF b CAL_TILE_ROT.ROT (setBit (s.getF b CAL_TILE_ROT.ROT) (nn % 4) true)
  if direct then s else s.modAdc c fun a => { a with hold := if a.conv = none then 2 else 1 }

/-- The channels of shade group nn. -/
def groupChans (nn : Nat) : List Nat := (List.range 32).map fun i => nn / 4 * 128 + nn % 4 * 32 + i

/-- Shade group nn takes its next channel: OWED ones first, then named ones, then the pass's in ascending order; ineligible channels
whose turn has come are OWED. -/
def State.rotTake (s : State) (nn : Nat) : State :=
  let t := nn / 4
  let en := s.isSet 0 CAL_CTRL.ROT_EN
  let cs := groupChans nn
  let owed := fun c => s.isSet (4 * c) CAL_FE_STATE.OWED
  match cs.find? fun c => owed c && s.eligible c && (en || s.rotNamed c) with
  | some c => s.rotRegister nn c
  | none =>
    match cs.find? fun c => s.rotNamed c && s.eligible c with
    | some c => s.rotRegister nn c
    | none =>
      if ¬ (s.isSet (t * 0x10) CAL_TILE_ROT.PASS ∧ en) then s
      else
        let left := cs.filter fun c => !(s.tile t).passDone.testBit (c % 128) && !owed c
        let s' := (left.takeWhile fun c => !s.eligible c).foldl State.owe s
        match left.find? s.eligible with
        | some c => s'.rotRegister nn c
        | none => s'.passCheck t

/-- ROTATION_START (R216, R217). -/
def execRotationStart (nn : Fin 32) (s : State) : Res :=
  if (s.rot nn).active ∨ ¬ s.rotAllowed (nn / 4) then done s else done (s.rotTake nn)

/-- ROTATION_PASS_START (R217). -/
def execRotationPassStart (t : Fin 8) (s : State) : Res :=
  if s.isSet 0 CAL_CTRL.ROT_EN ∧ (s.mode = stREADY ∨ s.mode = stACTIVE) ∧ ¬ s.isSet (t * 0x10) CAL_TILE_ROT.PASS then done (s.passStart t) else done s

/-- H1 (R219): the shade takes the channel's setting and its converter work. [DEDUCED, log entry 50] -/
def State.rotH1 (s : State) (nn c : Nat) : State :=
  let f := s.fe c
  let u := 1024 + nn
  let s := s.modFe u fun _ => { mode := f.mode, span := f.span, range := f.range, code := f.code }
  let s := [CHN_FE_CFG.MODE.off, CHN_FE_TARGET.CODE.off, CHN_ICLAMP.CODE.off, CHN_VCLAMP.LO.off].foldl (fun s o => s.wr (feB u + o) (s.rd (feB c + o))) s
  let s := ((s.setF (feB c) CHN_FE_STATUS.ROTATED 1).setF (feB c) CHN_ADC_STATUS.SHD_EXEC 1).modAdc c fun a => { a with hold := 0 }
  s.adcKick c

/-- HANDOVER_STEP (R219). -/
def execHandoverStep (nn : Fin 32) (row : CalRow) (s : State) : Res :=
  let r := s.rot nn
  let go (n : Nat) (s : State) : State := s.setRot nn { s.rot nn with step := n }
  let on := s.feOn r.chan
  if ¬ r.active ∨ 7 ≤ r.step then done s
  else if r.direct then
    if r.step = 0 then done (go 4 s) else done ((s.setRot nn { r with row := some row }).handback nn)
  else if r.step = 0 then
    if (s.adc r.chan).conv ≠ none then done s else done ((go 1 s).rotH1 nn r.chan)
  else if r.step = 1 then
    done (go 2 (if on then s.setFs (shB nn) [(CHN_FE_STATUS.EN, 1), (CHN_FE_STATUS.DRIVING, 1)] else s))
  else if r.step = 4 then done ((s.setRot nn { r with step := 5, row := some row }).rotForce nn row)
  else if r.step = 6 then done (go 7 (s.setFs (shB nn) [(CHN_FE_STATUS.EN, 0), (CHN_FE_STATUS.DRIVING, 0)]))
  else done (go (r.step + 1) s)

/-- ROTATION_HANDBACK (R219): at once where the work is idle, else at its next entry boundary. -/
def execRotationHandback (nn : Fin 32) (s : State) : Res :=
  let r := s.rot nn
  if ¬ r.active ∨ r.step ≠ 7 then done s
  else if (s.adc r.chan).conv = none then done (s.handback nn)
  else done (s.modAdc r.chan fun a => { a with hold := 3 })

/-- ROTATION_ABANDON (R220). -/
def execRotationAbandon (nn : Fin 32) (s : State) : Res :=
  let r := s.rot nn
  if ¬ r.active ∨ r.step ≠ 1 ∨ r.direct then done s
  else done ((s.incSat 0 CAL_ROT_ABANDON.COUNT 1).abandonRotation r.chan)

/-- CAL_ROTATE, action PASS (R217). -/
def execCalRotatePass (cmd : CmdRef) (s : State) : Res :=
  match s.ready? cmd opROTATE with
  | none => done s
  | some c =>
    if c.pf 0 2 0 ≠ 0 then done s
    else if s.mode = stSERVICE then done (s.endCmd cmd { status := scSTATE, detail := 0x01 })
    else
      let ts := bitsSet 8 (c.pf 0 15 8)
      let s := ts.foldl State.passStart s
      done (ts.foldl State.passCheck (s.startCmd cmd ts 0))

/-- CAL_ROTATE, action CHANNELS (R216, R364): those not eligible are left OWED. -/
def execCalRotateChannels (cmd : CmdRef) (s : State) : Res :=
  match s.ready? cmd opROTATE with
  | none => done s
  | some c =>
    if c.pf 0 2 0 ≠ 1 then done s
    else if s.mode = stSERVICE then done (s.endCmd cmd { status := scSTATE, detail := 0x01 })
    else if c.chans.any s.faultHolds then done (s.endCmd cmd { status := scSTATE, detail := 0x02 })
    else
      let free := fun k => s.eligible k || (s.rot (shadeOf k)).active
      let yes := c.chans.filter free
      let no := c.chans.filter fun k => !free k
      done ((no.foldl State.owe s).startCmd cmd yes (no.length * 2 ^ 32))

/-- CAL_ROTATE, action REQUALIFY (R218). -/
def execCalRotateRequalify (cmd : CmdRef) (row : CalRow) (s : State) : Res :=
  match s.ready? cmd opROTATE with
  | none => done s
  | some c =>
    let nn := c.pf 0 20 16
    if c.pf 0 2 0 ≠ 2 then done s
    else if s.shadeState nn ≠ 1 then done (s.endCmd cmd { status := scSTATE, detail := 0x06 })
    else match row.fail with
      | some term => done ((s.detect 0x0D scSHADE nn term).endCmd cmd { status := scOK, result := 0 })
      | none =>
        let s := (s.putRow calBase (1024 + nn) row.data).calPut (feRec (1024 + nn) + recForce) 8 s.calTime
        let s := { s.setShade nn 0 with rotAt := tabSet (fun _ => none) s.rotAt (1024 + nn) (some s.uptime), calDirty := true }
        done (s.endCmd cmd { status := scOK, result := 1 })

/-! ### Permanent remapping (R229, R230) -/

/-- Another command for channel c is in flight. -/
def State.otherFor (s : State) (cmd : CmdRef) (c : Nat) : Bool :=
  s.cmds.any fun k => decide (k.ending = none) && k.admitted && !k.isRef cmd && decide (c ∈ k.chans)

/-- Why a REMAP of channel c is refused (R229). -/
def State.remapCheck (s : State) (cmd : CmdRef) (c : Nat) : Option Ending :=
  let nn := shadeOf c
  let st (d : Nat) : Option Ending := some { status := scSTATE, detail := d }
  if s.shadeState nn ≠ 0 ∨ ((s.rot nn).active ∧ ¬ (s.rot nn).direct) then st 0x06
  else if s.feOn c ∨ ¬ (s.engState c = 0 ∨ s.engState c = 4) then st 0x02
  else if s.isSet (chB c) CHN_SEQ_GRP.BOUND then st 0x03
  else if s.otherFor cmd c then st 0x04
  else if s.isSet (feB (Nat.xor c 1)) (cfREFSEL 0) ∨ s.isSet (feB (Nat.xor c 1)) (cfREFSEL 1) then st 0x02
  else none

/-- The remap entry of shade nn, in its register and in the committed buffer. -/
def State.setRemap (s : State) (nn : Nat) (v l : Nat) : State :=
  let s := s.setFs (4 * nn) [(CAL_REMAP.VALID, v), (CAL_REMAP.LOCAL, l)]
  { s.calPut (0xC6280 + 4 * nn) 4 (v <<< 31 + l) with calDirty := true }

/-- CAL_ROTATE, action REMAP (R229): completes with its archive record. -/
def execCalRotateRemap (cmd : CmdRef) (s : State) : Res :=
  match s.ready? cmd opROTATE, (s.ready? cmd opROTATE).bind fun c => c.chans.head? with
  | some k, some c =>
    if k.pf 0 2 0 ≠ 3 then done s
    else match s.remapCheck cmd c with
      | some e => done (s.endCmd cmd e)
      | none =>
        let nn := shadeOf c
        let s := ((s.setRemap nn 1 (c % 128)).setShade nn 2).setF (feB c) CHN_FE_STATUS.REMAPPED 1
        let s := ((s.adcKill (1024 + nn)).setF (feB c) CHN_ADC_STATUS.SHD_EXEC 1).unowe c
        done ((s.modCmd cmd fun k => { k with started := true }).archStart [cmd])
  | _, _ => done s

/-- Why an UNMAP of channel c is refused (R230). -/
def State.unmapCheck (s : State) (cmd : CmdRef) (c : Nat) : Option Ending :=
  if ¬ s.isSet (feB c) CHN_FE_STATUS.REMAPPED ∨ s.feOn (s.phys c) ∨ s.otherFor cmd c then some { status := scSTATE, detail := 0x02 } else none

/-- CAL_ROTATE, action UNMAP (R230): the primary is OWED; completes with its archive record. -/
def execCalRotateUnmap (cmd : CmdRef) (s : State) : Res :=
  match s.ready? cmd opROTATE, (s.ready? cmd opROTATE).bind fun c => c.chans.head? with
  | some k, some c =>
    let nn := shadeOf c
    if k.pf 0 2 0 ≠ 4 then done s
    else match s.unmapCheck cmd c with
      | some e => done (s.endCmd cmd e)
      | none =>
        let s := (((s.setRemap nn 0 0).setShade nn 0).setF (feB c) CHN_FE_STATUS.REMAPPED 0).setF (feB c) CHN_ADC_STATUS.SHD_EXEC 0
        done (((s.owe c).modCmd cmd fun k => { k with started := true }).archStart [cmd])
  | _, _ => done s

/-! ### CAL_READ (R249) -/

/-- The stored correction e_q in units of 1/256 bin (R140): halves and less are rounded one way or the other. -/
def eqTimes256 (hist : List Nat) (q : Nat) (up : Bool) : Nat :=
  let n := 2 * (hist.take q).foldl (· + ·) 0 + hist.getD q 0
  n * 25 / 256 + b2n (up && n * 25 % 256 != 0)

/-- n open 32-bit words, as bytes. -/
def State.drawWords (s : State) : Nat → List Byte × State
  | 0 => ([], s)
  | n + 1 => let r := s.draw 32; let t := State.drawWords r.2 n; (leBytes 4 r.1 ++ t.1, t.2)

/-- The output of a CAL_READ, whole. -/
def State.calOutput (s : State) (sel unit slot : Nat) : List Byte × State :=
  let k := s.tim unit
  if sel = 0 then (s.feRecord unit, s)
  else if sel = 1 then
    (if s.stagedUnits.any fun e => e.1 == unit then memRead sramReset s.sram (calStage + feRec unit) 768 else leBytes 768 0, s)
  else if sel = 2 then (if k.hist = [] then s.drawWords 200 else ((List.range 200).flatMap fun q => leBytes 4 (k.hist.getD q 0), s))
  else if sel = 3 then
    if k.hist = [] then s.drawWords 450
    else
      let r := s.draw 1
      ((List.range 200).flatMap (fun q => leBytes 4 (eqTimes256 k.hist q (r.1 == 1))) ++
        (List.range 5).flatMap (fun i => (List.range 200).flatMap fun f => leBytes 1 ((k.inv.getD i []).getD f 0)), r.2)
  else if sel = 4 then (s.flashRead (0xC00000 + 0x100000 * slot) recEnd, s)
  else (if s.isSet 0 CAL_STATUS.ANCHOR_STAGED then s.anchorReport else leBytes 16 0, s)

/-- CAL_READ. [DESIGN CHOICE, log entry 10] [DEDUCED, log entry 50] -/
def execCalRead (cmd : CmdRef) (s : State) : Res :=
  match s.ready? cmd opCALREAD with
  | none => done s
  | some c =>
    let r := s.calOutput (c.pf 0 7 0) (c.pf 0 26 16) (c.p 4)
    let bs := (r.1.drop (c.p 8)).take (c.p 0xC)
    let o := r.2.output c bs
    let s := o.1
    let cut := o.2
    done (s.endCmd cmd { status := scOK, partialDone := cut || decide (bs.length < c.p 0xC), result := c.outLen bs.length })

end Sys2Proof.Machine
end

