-- ==== Sys2Proof/Machine/SelfTest.lean ====
section
/-! DEFINITION. Meanings of SELFTEST and its tests (R231 to R233). -/

namespace Sys2Proof.Machine

/-! ### Resources.  A front-end has its number as UNIT in R72, channel c's sequence store the number c.  Memories of tile t are
0x10000 + 4 t + k (k: 0 result queue, 1 stamp buffer, 2 capture buffer, 3 APG memory), stream staging is 0x10020, lane l of port p is
0x10040 + 5 p + l; the spec gives no unit for these in an entry, which is free. -/

/-- The resources that a SELFTEST names, by test code (R231): front-ends, stores and memories in this order. -/
def Cmd.testUnits (c : Cmd) : List (Nat × Nat) :=
  let t := c.pf 0 3 0
  let tiles := bitsSet 8 (c.tmask 4)
  let chans := c.chans
  (if t.testBit 0 then chans.map (fun x => (1, x)) ++ tiles.flatMap (fun k => (List.range 4).map fun i => (1, 0x10000 + 4 * k + i)) ++
    (if tiles = [] then [] else [(1, 0x10020)]) else []) ++
  (if t.testBit 1 then chans.map fun x => (2, x) else []) ++
  (if t.testBit 2 then tiles.flatMap fun k => (List.range 128).map (fun l => (3, k * 128 + l)) ++ (List.range 4).map fun j => (3, 1024 + 4 * k + j) else []) ++
  (if t.testBit 3 then (bitsSet 4 (c.pf 0 19 16)).flatMap fun p => (List.range 5).map fun l => (4, 0x10040 + 5 * p + l) else [])

/-- Lane l of the ACTIVE port p is an idle spare in both directions: near loopback may close on it (R289). -/
def State.loopableSpare (s : State) (p l : Nat) : Bool :=
  decide (s.pst p = 5) && s.getF (lB p l) LNK_P_L_STATUS.RXROLE == 2 && s.getF (lB p l) LNK_P_L_STATUS.TXROLE == 2 &&
    decide ((s.port p).spRx = none ∧ (s.port p).spTx = none)

/-- A resource is idle (R231). -/
def State.testIdle (s : State) (code u : Nat) : Bool :=
  if code = 1 then
    if u < 1024 then s.engState u == 0
    else if u = 0x10020 then s.engs.all fun e => decide (e.2.strm = [])
    else
      let t := (u - 0x10000) / 4
      let b := tileBase t
      match (u - 0x10000) % 4 with
      | 0 => !s.isSet b TIL_RQ_CTRL.EN && s.getF b TIL_RQ_LEVEL.COUNT == 0
      | 1 => !s.isSet b TIL_STB_CTRL.EN && s.getF b TIL_STB_WCNT.COUNT == 0
      | 2 => !s.trigBusy t && s.getF b TRG_STATUS.SEGS == 0
      | _ => s.getF b APG_STATUS.RUN == 0
  else if code = 2 then
    !s.feOn u && s.engState u == 0 && decide ((s.adc u).conv = none) && !(s.adc u).running && decide ((s.adc u).inj = []) && !s.rotated u &&
      !(s.rot (shadeOf u)).active && !s.isSet (u / 128 * 0x10) CAL_TILE_ROT.XFER && !s.isSet 0 CAL_STATUS.ANCHOR_RUN &&
      !(s.tests.any fun x => x.outcome.isNone && x.code == 2 && shadeOf x.unit == shadeOf u)
  else if code = 3 then !s.isSet (feB u) CHN_TDC_CFG.EN && (decide (1024 ≤ u) || s.engState u == 0)
  else
    let p := (u - 0x10040) / 5
    !s.isUp p || s.loopableSpare p ((u - 0x10040) % 5)

/-- A named resource is busy (R232). -/
def State.testBusy (s : State) (c : Cmd) : Bool := c.testUnits.any fun e => !s.testIdle e.1 e.2

/-- The 8-byte entry of a test (R233): the unit, which for a memory is free, or the lane, above which the number is free. [DESIGN CHOICE, log entry 51] -/
def State.testEntry (s : State) (x : Test) : List Byte × State :=
  let q := s.draw 16
  let r := if x.unit < 0x10000 then (x.unit, s) else if x.code = 4 then ((x.unit - 0x10040) % 5 + q.1 / 8 * 8, q.2) else q
  (leBytes 1 x.code ++ leBytes 1 (x.outcome.getD 0) ++ leBytes 2 r.1 ++ leBytes 4 x.detail, r.2)

/-- The entries of a list of tests. -/
def State.testEntries (s : State) : List Test → List Byte × State
  | [] => ([], s)
  | x :: xs => let r := s.testEntry x; let t := State.testEntries r.2 xs; (r.1 ++ t.1, t.2)

/-- A SELFTEST whose tests have all ended writes its entries and ends (R232, R233). -/
def State.testsOver (s : State) (cmd : CmdRef) : State :=
  let l := s.tests.filter fun x => decide (x.cmd = cmd)
  match s.running? cmd opSELFTEST with
  | some c =>
    if l.any fun x => x.outcome.isNone then s
    else if c.stopAsked.isSome then { s with tests := s.tests.filter fun x => !decide (x.cmd = cmd) }.stopCmd cmd { c.stopAsked.getD { status := scOK } with result := c.acc }
    else
      let r := s.testEntries l
      let fails := (l.filter fun x => x.outcome == some 1).length
      let s := { r.2 with tests := s.tests.filter fun x => !decide (x.cmd = cmd) }
      let o := s.output c r.1
      let s := o.1
      let cut := o.2
      s.endCmd cmd { status := scOK, partialDone := cut || l.any (fun x => x.outcome == some 2), result := l.length + fails <<< 32 }
  | none => s

/-- SELFTEST (R231, R232): idle resources are tested at once, busy ones are NOT_RUN. -/
def execSelftest (cmd : CmdRef) (s : State) : Res :=
  match s.ready? cmd opSELFTEST with
  | none => done s
  | some c =>
    let l := c.testUnits.map fun e => ({ cmd := cmd, code := e.1, unit := e.2, outcome := if s.testIdle e.1 e.2 then none else some 2 } : Test)
    let s := { s.modCmd cmd (fun k => { k with started := true }) with tests := s.tests ++ l }
    done (s.testsOver cmd)

/-- The fault that a failed test raises (R233). -/
def State.testFails (s : State) (x : Test) (detail : Nat) : State :=
  if x.code = 1 then
    if x.unit < 1024 then s.detectEcc 0 true x.unit detail
    else if x.unit = 0x10020 then s.detectEcc 3 true 0 detail
    else s.detectEcc (if (x.unit - 0x10000) % 4 = 3 then 2 else 1) true ((x.unit - 0x10000) / 4) detail
  else if x.code = 4 then
    let p := (x.unit - 0x10040) / 5
    (s.setF (0x1000 * p) LNK_P_STATUS.DCAUSE 5).detect 0x0E scPORT p 5
  else s.detectFe 0x0D x.unit detail

/-- SELFTEST_TEST_DONE (R231, R233): the n-th of the tests under way ends. -/
def execSelftestTestDone (n : Nat) (pass : Bool) (detail : Word) (s : State) : Res :=
  match s.tests[n]? with
  | none => done s
  | some x =>
    if x.outcome.isSome then done s
    else
      let s := { s with tests := s.tests.set n { x with outcome := some (b2n (!pass)), detail := detail.toNat } }
      done ((if pass then s else s.testFails x detail.toNat).testsOver x.cmd)

/-- A command that needs a front-end or store under test ends its test (R232). -/
def State.testsYield (s : State) (chans : List Nat) : State :=
  let hit := fun x : Test => x.outcome.isNone && decide (x.unit ∈ chans)
  let cmds := (s.tests.filter hit).map fun x => x.cmd
  let s := { s with tests := s.tests.map fun x => if hit x then { x with outcome := some 3 } else x }
  cmds.foldl State.testsOver s

end Sys2Proof.Machine
end

