-- ==== Sys2Proof/Machine/Symbols.lean ====
section
/-! DEFINITION. The symbols of a lane: the 8b/10b code and its running disparity, the valid control characters, packets in columns, SKP and
training sets (R266 to R270). -/

namespace Sys2Proof.Machine

/-! ### The 8b/10b code (R266, R267).  A code is written abcdei fghj, bit a the most significant.  The tables are those of IEEE 802.3
Clause 36, which the rule names and does not print. [PRESUMED, log entry 69] -/

/-- abcdei of D0 to D31 at negative disparity. [PRESUMED, log entry 69] -/
def sixCodes : List (BitVec 6) :=
  [0b100111, 0b011101, 0b101101, 0b110001, 0b110101, 0b101001, 0b011001, 0b111000, 0b111001, 0b100101, 0b010101, 0b110100, 0b001101, 0b101100,
   0b011100, 0b010111, 0b011011, 0b100011, 0b010011, 0b110010, 0b001011, 0b101010, 0b011010, 0b111010, 0b110011, 0b100110, 0b010110, 0b110110,
   0b001110, 0b101110, 0b011110, 0b101011]

/-- fghj of x.0 to x.7 at negative disparity. [PRESUMED, log entry 69] -/
def fourCodes : List (BitVec 4) := [0b1011, 0b1001, 0b0101, 0b1100, 0b1101, 0b1010, 0b0110, 0b1110]

/-- The control characters of R267 at negative disparity; their codes at positive disparity are the complements. [PRESUMED, log entry 69] -/
def KChar.code : KChar → BitVec 10
  | .com => 0b0011111010
  | .skp => 0b0011110100
  | .sop => 0b1101101000
  | .eop => 0b1011101000
  | .edb => 0b0111101000
  | .pad => 0b1110101000
  | .tsi => 0b0011111001
  | .slp => 0b0011110011

def ones {n : Nat} (c : BitVec n) : Nat := ((List.range n).filter fun i => c.getLsbD i).length

/-- The code of data byte b at running disparity rd (true: positive). -/
def dataCode (rd : Bool) (b : Byte) : BitVec 10 :=
  let x := b.toNat % 32
  let y := b.toNat / 32
  let six := sixCodes.getD x 0
  let rd' := rd != decide (ones six ≠ 3)
  let six := if rd && (decide (ones six ≠ 3) || decide (x = 7)) then ~~~six else six
  let alt := decide (y = 7) && (if rd' then decide (x ∈ [11, 13, 14]) else decide (x ∈ [17, 18, 20]))
  let four : BitVec 4 := if alt then 0b0111 else fourCodes.getD y 0
  let four := if rd' && (decide (ones four ≠ 2) || decide (y = 3)) then ~~~four else four
  six ++ four

/-- The code of a symbol at running disparity rd. -/
def Symb.code (rd : Bool) : Symb → BitVec 10
  | .d b => dataCode rd b
  | .k c => if rd then ~~~c.code else c.code

/-- The disparity after a block of n bits that held one number of ones: the sign of its imbalance, else as before. -/
def rdBlock (rd : Bool) (n ones : Nat) : Bool := if n < 2 * ones then true else if 2 * ones < n then false else rd

/-- The running disparity after a received code: by its two blocks, 000111 and 0011 counting as positive, 111000 and 1100 as negative. -/
def rdAfter (rd : Bool) (c : BitVec 10) : Bool :=
  let six := c.extractLsb' 4 6
  let four := c.extractLsb' 0 4
  let r := if six = 0b000111 then true else if six = 0b111000 then false else rdBlock rd 6 (ones six)
  if four = 0b0011 then true else if four = 0b1100 then false else rdBlock r 4 (ones four)

/-- Every valid symbol. -/
def allSymbs : List Symb :=
  (List.range 256).map (fun b => Symb.d (BitVec.ofNat 8 b)) ++ [.k .com, .k .skp, .k .sop, .k .eop, .k .edb, .k .pad, .k .tsi, .k .slp]

/-- A received code is that of a valid symbol at the present disparity: neither a code violation nor a disparity error. -/
def codeOk (rd : Bool) (c : BitVec 10) : Bool := allSymbs.any fun x => x.code rd == c

/-- The errors of a run of received codes, and the disparity after it. [PRESUMED, log entry 69] -/
def symErrs (rd : Bool) : List (BitVec 10) → Nat × Bool
  | [] => (0, rd)
  | c :: cs => let r := symErrs (rdAfter rd c) cs; (b2n (!codeOk rd c) + r.1, r.2)

/-! ### Packets in columns (R268) -/

/-- The symbols of a packet; one that is found bad on the way ends with EDB. -/
def packetSymbs (bytes : List Byte) (bad : Bool) : List Symb := .k .sop :: bytes.map .d ++ [.k (if bad then .edb else .eop)]

/-- Symbols striped over w lanes: whole columns, PAD filling the last. -/
def columns (w : Nat) (l : List Symb) : List (List Symb) :=
  (List.range ((l.length + w - 1) / w)).map fun c => (List.range w).map fun k => l.getD (c * w + k) (.k .pad)

/-- What a receiver has read of columns: framing errors; packets that broke framing; the packet in progress, true where it has broken it; how
the last whole packet ended. -/
structure Framing where
  errs : Nat := 0
  lost : Nat := 0
  inside : Option Bool := none
  last : Option KChar := none
  deriving DecidableEq, Repr

/-- One symbol of logical lane k: SOP outside lane 0, SOP before EOP or EDB, and data outside a packet are framing errors. -/
def Framing.read (f : Framing) (k : Nat) : Symb → Framing
  | .k .sop => { errs := f.errs + b2n (f.inside.isSome || decide (k ≠ 0)), lost := f.lost + b2n f.inside.isSome, inside := some (decide (k ≠ 0)), last := none }
  | .d _ => if f.inside.isNone then { f with errs := f.errs + 1 } else f
  | .k .eop => match f.inside with
    | some false => { f with inside := none, last := some .eop }
    | some true => { f with inside := none, lost := f.lost + 1 }
    | none => f
  | .k .edb => if f.inside.isSome then { f with inside := none, last := some .edb } else f
  | _ => f

/-- The columns read from the end of a packet to the end of the next. -/
def framed (cols : List (List Symb)) : Framing := cols.foldl (fun f c => c.zipIdx.foldl (fun f e => f.read e.2 e.1) f) {}

/-- One whole packet, and no framing error. -/
def clean (cols : List (List Symb)) : Bool := framed cols == { last := some .eop }

/-! ### Ordered sets (R269, R270) -/

/-- A SKP set as sent. -/
def skpSet : List Symb := [.k .com, .k .skp, .k .skp, .k .skp]

/-- A SKP set as received: COM, then 2 to 4 SKP, the elastic buffer having added or taken one. -/
def skpOk (l : List Symb) : Bool := l.head? == some (.k .com) && decide (3 ≤ l.length ∧ l.length ≤ 5) && l.tail.all fun x => x == .k .skp

/-- The 16 symbols of a training set: ID D10.2 for TS1, D5.2 for TS2. -/
def Ts.symbols (t : Ts) (ts2 : Bool) : List Symb :=
  let b (n : Nat) : Symb := .d (BitVec.ofNat 8 n)
  [.k .com, .k .tsi, .d t.lane, b (t.rates.toNat + 16 * b2n t.speed),
   b (b2n t.hotrst + 2 * b2n t.disable + 4 * b2n t.loopback + 8 * b2n t.spareCap + 16 * t.maxw.toNat),
   b (t.req.pre.toNat + 4 * t.req.main.toNat + 16 * t.req.post.toNat + 64 * b2n t.valid + 128 * b2n t.fin), b t.eqstat.toNat,
   b (t.pre.toNat + 8 * t.post.toNat), b t.main.toNat, b (t.reqTag.toNat + 4 * t.ackTag.toNat), b t.rxok.toNat, .d t.devtype, b 0, b 0, b 0,
   b (if ts2 then 0x45 else 0x4A)]

end Sys2Proof.Machine
end

