-- ==== Sys2Proof/Machine/Links.lean ====
section
/-! DEFINITION. Meanings of the commands of the links: training, control, lane health and sparing, sleep, link packets (chapters 11, 12). -/

namespace Sys2Proof.Machine

/-! ### Training (R271 to R276) -/

/-- Enters POLL at G1: the presets apply (R273, R276). -/
def State.toPoll (s : State) (p : Nat) : State :=
  let e := s.preset p
  let s := (s.setF (pB p) LNK_P_STATUS.STATE 1).modPort p Port.untrained
  (List.range 5).foldl (fun s l => s.setCoef p l e.1 e.2.1 e.2.2) s

/-- DETECT_PROBE (R272). -/
def execDetectProbe (p : Fin 4) (found : Bool) (s : State) : Res :=
  if found ∧ s.pst p = 0 ∧ (s.port p).released ∧ s.clocked then done (s.toPoll p) else done s

/-- A training set arrives on lane l: locks, in POLL with the first lock the adaptation, polarity, the run of sets of correct polarity. -/
def State.tsLane (s : State) (p l : Nat) (ts : Ts) : State :=
  let s := if s.pst p = 1 ∧ ¬ s.isSet (lB p l) LNK_P_L_STATUS.BLOCK then s.adaptLane p l true else s
  let s := s.setFs (lB p l) [(LNK_P_L_STATUS.BLOCK, 1), (LNK_P_L_STATUS.SLOCK, 1)]
  if ts.inv then
    let v := !s.isSet (lB p l) LNK_P_L_STATUS.INV
    let s := (s.setF (lB p l) LNK_P_L_STATUS.INV (b2n v)).setF (pB p) LNK_P_MAP.RXINV (setBit (s.getF (pB p) LNK_P_MAP.RXINV) l v)
    s.modPort p fun q => q.modLane l fun x => { x with run := 0, good := (0, 0), ok := (0, 0), ts2 := (255, 0) }
  else s.modPort p fun q => q.modLane l fun x => { x with run := x.run + 1 }

/-- What CONFIG reads of the partner (LNK_P_PARTNER). -/
def State.partner (s : State) (p : Nat) (ts : Ts) : State :=
  s.setFs (pB p) [(LNK_P_PARTNER.DEVTYPE, ts.devtype.toNat), (LNK_P_PARTNER.SPARE_CAP, b2n ts.spareCap), (LNK_P_PARTNER.MAXW, ts.maxw.toNat),
    (LNK_P_PARTNER.RATES, ts.rates.toNat)]

/-- POLL ends: 1,024 TS1 sent, and 8 sets received on some lane. -/
def State.pollExit (s : State) (p : Nat) : State :=
  if s.pst p = 1 ∧ (s.port p).sent ∧ (s.port p).lock then s.toConfig p else s

/-- One more of a value in succession. -/
def tally (t : Nat × Nat) (v : Nat) : Nat × Nat := if t.1 = v then (v, t.2 + 1) else (v, 1)

/-- A training set in POLL. -/
def State.tsPoll (s : State) (p l : Nat) : State :=
  (s.modPort p fun q => { q with lock := q.lock || decide (8 ≤ (q.lane l).run) }).pollExit p

/-- A TS1 in CONFIG: marks for RXOK, and the width once 8 carried the same RXOK (R274). -/
def State.ts1Config (s : State) (p l : Nat) (ts : Ts) : State :=
  let s := s.partner p ts
  let s := s.modPort p fun q => q.modLane l fun x =>
    { x with good := if ts.err then (0, 0) else tally x.good ts.lane.toNat, ok := tally x.ok ts.rxok.toNat }
  let q := s.port p
  let x := q.lane l
  let s := if 8 ≤ x.good.2 ∧ x.good.1 < 5 ∧ ¬ q.failed.testBit l then s.modPort p fun q => { q with rxok := setBit q.rxok x.good.1 true } else s
  if q.w = 0 ∧ 8 ≤ x.ok.2 ∧ x.ok.1 ≠ 0 then (s.modPort p fun q => { q with peer := x.ok.1 }).assignTx p else s

/-- TS1_RECEIVE (R272 to R274, R276, R279). -/
def execTs1Receive (p : Fin 4) (l : Fin 5) (ts : Ts) (s : State) : Res :=
  if s.pst p = 0 then (if (s.port p).released ∧ s.clocked then done (s.toPoll p) else done s)
  else if s.pst p = 1 then done ((s.tsLane p l ts).tsPoll p l)
  else if s.pst p = 2 then
    let s := s.tsLane p l ts
    done (if ts.inv then s else s.ts1Config p l ts)
  else if s.pst p = 4 then done (s.modPort p fun q => q.modLane l fun x => { x with seen := some ts.ackTag.toNat })
  else if s.pst p = 5 then
    let s := s.modPort p fun q => q.modLane l fun x => { x with run := x.run + 1 }
    done (if 2 ≤ ((s.port p).lane l).run then s.toRecovery p else s)
  else done s

/-- TS2_RECEIVE (R273 to R275, R278). -/
def execTs2Receive (p : Fin 4) (l : Fin 5) (ts : Ts) (s : State) : Res :=
  if s.pst p = 1 then done ((s.tsLane p l ts).tsPoll p l)
  else if s.pst p = 2 then
    let s := s.tsLane p l ts
    if ts.inv then done s
    else
      let s := (s.partner p ts).modPort p fun q => { q.modLane l fun x => { x with ts2 := tally x.ts2 ts.lane.toNat } with ts2 := true }
      done (s.configExit p)
  else done s

/-- TRAINING_TIMEOUT (R271, R276, R278). [DEDUCED, log entry 28] -/
def execTrainingTimeout (p : Fin 4) (s : State) : Res :=
  let st := s.pst p
  if st = 1 ∨ st = 2 ∨ st = 6 then done (s.toDetect p true)
  else if st = 3 then done ((s.setF (pB p) LNK_P_STATUS.CAPGEN (max 1 (s.target p - 1))).toDetect p true)
  else if st = 4 then done ((s.modPort p fun q => { q with late := true, doneTx := 31 }).eqExit p)
  else done s

/-- SPEED_RETUNE_DONE (R275, R276). -/
def execSpeedRetuneDone (p : Fin 4) (s : State) : Res :=
  if s.pst p ≠ 3 then done s
  else
    let e := s.preset p
    let g := s.target p
    let s := (s.setF (pB p) LNK_P_STATUS.STATE 4).modPort p fun q =>
      { q with gen := g, doneTx := 0, doneRx := 0, checked := 0, failed := 0, late := false,
               lanes := q.lanes.map fun x => (x.1, { x.2 with ackTag := none, eqstat := 0, seen := none, req := {}, valid := false }) }
    let s := (bitsSet 5 (s.usedLanes p true)).foldl (fun s l => s.setCoef p l e.1 e.2.1 e.2.2) s
    done ((bitsSet 5 (s.usedLanes p false)).foldl (fun s l => s.setF (lB p l) LNK_P_L_RXEQ.ITER 0) s)

/-- EQ_ADAPT_END (R276): the taps adapted to, and the first request of each receive lane, with its moves. -/
def execEqAdaptEnd (p : Fin 4) (taps : List ((BitVec 4 × BitVec 4) × EqMove)) (s : State) : Res :=
  if s.pst p ≠ 4 then done s
  else done ((bitsSet 5 (s.usedLanes p false)).foldl (fun s l =>
    let e := taps.getD l ((0, 0), {})
    (s.setFs (lB p l) [(LNK_P_L_RXEQ.CTLE, e.1.1.toNat), (LNK_P_L_RXEQ.DFE, e.1.2.toNat), (LNK_P_L_STATUS.BLOCK, 1), (LNK_P_L_STATUS.SLOCK, 1)]).eqAsk
      p l e.2) s)

/-- EQ_REQUEST (R276, R277). [DEDUCED, log entry 31] -/
def execEqRequest (p : Fin 4) (l : Fin 5) (tag : BitVec 2) (valid : Bool) (mv : EqMove) (fin : Bool) (s : State) : Res :=
  if s.pst p ≠ 4 then done s
  else
    let s := if fin then (s.modPort p fun q => { q with doneRx := setBit q.doneRx l true }) else s
    let s := if valid ∧ ((s.port p).lane l).ackTag ≠ some tag.toNat then
        let a := moveTap (s.getF (lB p l) LNK_P_L_TXEQ.PRE) mv.pre
        let b := moveTap (s.getF (lB p l) LNK_P_L_TXEQ.MAIN) mv.main
        let c := moveTap (s.getF (lB p l) LNK_P_L_TXEQ.POST) mv.post
        let ok := decide (0 ≤ a ∧ 0 ≤ b ∧ 0 ≤ c) && coefOk a.toNat b.toNat c.toNat
        let st (m : BitVec 2) : Nat := if moved m then (if ok then 1 else 2) else 0
        let s := if ok then s.setCoef p l a.toNat b.toNat c.toNat else s
        s.modPort p fun q => q.modLane l fun x => { x with ackTag := some tag.toNat, eqstat := st mv.pre + 4 * st mv.main + 16 * st mv.post }
      else s
    done (s.eqExit p)

/-- The port has no more requests for receive lane l (R276). -/
def State.eqEnough (s : State) (p l : Nat) : State :=
  (s.modPort p fun q => { q with doneTx := setBit q.doneTx l true }).eqExit p

/-- EQ_ITERATION_END (R276): of an iteration whose ACKTAG has been seen. [DEDUCED, log entry 31] -/
def execEqIterationEnd (p : Fin 4) (l : Fin 5) (dfe : BitVec 4) (better : Option EqMove) (s : State) : Res :=
  let x := (s.port p).lane l
  if s.pst p ≠ 4 ∨ ¬ (s.usedLanes p false).testBit l ∨ (s.port p).doneTx.testBit l ∨ x.seen ≠ some x.reqTag then done s
  else
    let n := s.getF (lB p l) LNK_P_L_RXEQ.ITER + 1
    let s := s.setFs (lB p l) [(LNK_P_L_RXEQ.ITER, n), (LNK_P_L_RXEQ.DFE, dfe.toNat)]
    match better with
    | some mv => if n < 64 then done (s.eqAsk p l mv) else done (s.eqEnough p l)
    | none => done (s.eqEnough p l)

/-- EQ_MARGIN_CHECK_END (R276). -/
def execEqMarginCheckEnd (p : Fin 4) (l : Fin 5) (h v : Byte) (pass : Bool) (s : State) : Res :=
  if s.pst p ≠ 4 ∨ ¬ (s.usedLanes p false).testBit l ∨ ¬ (s.port p).doneTx.testBit l then done s
  else
    let s := s.setFs (lB p l) [(LNK_P_L_RXEQ.HMARGIN, h.toNat), (LNK_P_L_RXEQ.VMARGIN, v.toNat)]
    done ((s.modPort p fun q => { q with checked := setBit q.checked l true, failed := setBit q.failed l !pass }).eqExit p)

/-- SYMBOL_LOCK_REGAINED (R279). -/
def execSymbolLockRegained (p : Fin 4) (s : State) : Res :=
  if s.pst p ≠ 6 then done s
  else
    let s := (bitsSet 5 (s.usedLanes p false)).foldl (fun s l => s.setFs (lB p l) [(LNK_P_L_STATUS.BLOCK, 1), (LNK_P_L_STATUS.SLOCK, 1)]) s
    done (s.toConfig p)

/-- Enters DISABLED (R281). -/
def State.toDisabled (s : State) (p : Nat) (byPeer : Bool) : State := (s.toState p 8).modPort p fun q => { q with byPeer := byPeer }

/-- TS_SEND_COUNT (R273, R274, R281, R291). -/
def execTsSendCount (p : Fin 4) (s : State) : Res :=
  let q := s.port p
  if q.pend = 1 then
    let s := s.toDisabled p false
    done (if s.isSet (pB p) LNK_P_CTRL.DISABLE then s else s.toDetect p false)
  else if q.pend = 2 then
    if s.pst p = 5 then done (s.toState p 9) else done (s.modPort p fun q => { q with pend := 0 })
  else if s.pst p = 1 then done ((s.modPort p fun q => { q with sent := true }).pollExit p)
  else if s.pst p = 2 ∧ q.ts2 then done ((s.modPort p fun q => { q with sent := true }).configExit p)
  else done s

/-! ### Control (R279 to R282, R286, R291) -/

/-- A write of LNK_P_CTRL (R293): of the requests it holds the highest rank acts (R282). [DEDUCED, log entry 29] -/
def State.lnkCtrl (s : State) (p : Nat) (w : Word) : State :=
  let b := pB p
  let wasDis := s.isSet b LNK_P_CTRL.DISABLE
  let wasFar := s.isSet b LNK_P_CTRL.FARLB
  let dis := LNK_P_CTRL.DISABLE.get w = 1
  let far := LNK_P_CTRL.FARLB.get w = 1
  let s := s.setFs b [(LNK_P_CTRL.NOSLEEP, LNK_P_CTRL.NOSLEEP.get w), (LNK_P_CTRL.DISABLE, b2n dis), (LNK_P_CTRL.SPARE_EN, LNK_P_CTRL.SPARE_EN.get w),
    (LNK_P_CTRL.MAXW, LNK_P_CTRL.MAXW.get w), (LNK_P_CTRL.MAXGEN, LNK_P_CTRL.MAXGEN.get w)]
  let st := s.pst p
  let held := st = 10 ∨ (st = 8 ∧ dis)
  let s := if LNK_P_CTRL.NOSLEEP.get w = 1 then s.setF b LNK_P_STATUS.TX_LS 0 else s
  let disNow := dis ∧ ¬ wasDis ∧ st ≠ 8
  let s :=
    if disNow then (s.setF b LNK_P_STATUS.TX_LS 0).modPort p fun q => { q with pend := 1, spRx := none, spTx := none }
    else if ¬ dis ∧ wasDis ∧ st = 8 ∧ ¬ (s.port p).byPeer then s.toDetect p false
    else if LNK_P_CTRL.HOTRST.get w = 1 ∧ ¬ held then s.toHotReset p
    else if LNK_P_CTRL.RETRAIN.get w = 1 then (if held then s.setF b LNK_P_STATUS.CAPGEN (s.maxGen p) else s.toDetect p false)
    else s
  let above := disNow ∨ LNK_P_CTRL.HOTRST.get w = 1 ∨ LNK_P_CTRL.RETRAIN.get w = 1
  if far = wasFar then s
  else if far then
    if above ∨ st ≠ 5 ∨ s.isSet b LNK_P_STATUS.UPSTREAM then s.setF b LNK_P_STATUS.CTLIGN 1
    else (s.setF b LNK_P_CTRL.FARLB 1).modPort p fun q => { q with pend := 2, spRx := none, spTx := none }
  else
    let s := s.setF b LNK_P_CTRL.FARLB 0
    if s.pst p = 9 ∧ ¬ (s.port p).slave then s.toDetect p false
    else if (s.port p).pend = 2 then s.modPort p fun q => { q with pend := 0 }
    else s

/-- A write of LNK_P_CTRL that changes one field. -/
def State.ctrlField (s : State) (p : Nat) (f : Fld) (v : Nat) : State :=
  if s.writeOk (pB p + LNK_P_CTRL.FARLB.off) then s.lnkCtrl p (f.put (s.rd (pB p + LNK_P_CTRL.FARLB.off)) v) else s

/-- RETRAIN (R279). -/
def execRetrain (p : Fin 4) (s : State) : Res := done (s.ctrlField p LNK_P_CTRL.RETRAIN 1)

/-- HOTRST (R280). -/
def execHotrst (p : Fin 4) (s : State) : Res := done (s.ctrlField p LNK_P_CTRL.HOTRST 1)

/-- DISABLE (R281). -/
def execDisable (p : Fin 4) (on : Bool) (s : State) : Res := done (s.ctrlField p LNK_P_CTRL.DISABLE (b2n on))

/-- FARLB (R291). -/
def execFarlb (p : Fin 4) (on : Bool) (s : State) : Res := done (s.ctrlField p LNK_P_CTRL.FARLB (b2n on))

/-- NOSLEEP (R286). -/
def execNosleep (p : Fin 4) (on : Bool) (s : State) : Res := done (s.ctrlField p LNK_P_CTRL.NOSLEEP (b2n on))

/-- HOT_RESET_RECEIVED (R280). -/
def execHotResetReceived (p : Fin 4) (s : State) : Res :=
  if s.pst p ∈ [1, 2, 5, 6] ∧ (s.port p).pend ≠ 1 then done (s.toHotReset p) else done s

/-- HOTRESET_END (R280). -/
def execHotresetEnd (p : Fin 4) (s : State) : Res := if s.pst p = 7 then done (s.toDetect p false) else done s

/-- DISABLE_RECEIVED (R281). -/
def execDisableReceived (p : Fin 4) (s : State) : Res :=
  if s.pst p ∈ [1, 2, 3, 4, 5, 6] then done (s.toDisabled p true) else done s

/-- DISABLED_CLOCK_ACTIVITY (R281). -/
def execDisabledClockActivity (p : Fin 4) (s : State) : Res :=
  if s.pst p = 8 ∧ (s.port p).byPeer then done (s.toDetect p false) else done s

/-- LOOPBACK_RECEIVED (R282, R291): both sides asking, neither enters. -/
def execLoopbackReceived (p : Fin 4) (s : State) : Res :=
  if s.pst p ≠ 5 ∨ (s.port p).pend = 1 then done s
  else if (s.port p).pend = 2 then
    done ((s.setFs (pB p) [(LNK_P_CTRL.FARLB, 0), (LNK_P_STATUS.CTLIGN, 1)]).toRecovery p)
  else done ((s.toState p 9).modPort p fun q => { q with slave := true })

/-- LOOPBACK_SLAVE_IDLE (R291). -/
def execLoopbackSlaveIdle (p : Fin 4) (s : State) : Res :=
  if s.pst p = 9 ∧ (s.port p).slave then done (s.toDetect p false) else done s

/-! ### Test loops (R288 to R290) -/

/-- A write of LNK_P_L_CFG: loops, generators, checkers. [DEDUCED, log entry 29] [DESIGN CHOICE, log entry 30] -/
def State.laneCfg (s : State) (p l : Nat) (w : Word) : State :=
  let b := lB p l
  let chk := s.isSet b LNK_P_L_CFG.CHK_EN
  let loop := s.isSet b LNK_P_L_CFG.NEARLB
  let s := s.setFs b [(LNK_P_L_CFG.INJ_RATE, LNK_P_L_CFG.INJ_RATE.get w), (LNK_P_L_CFG.MODE, LNK_P_L_CFG.MODE.get w),
    (LNK_P_L_CFG.PRBS, LNK_P_L_CFG.PRBS.get w), (LNK_P_L_CFG.CHK_EN, LNK_P_L_CFG.CHK_EN.get w), (LNK_P_L_CFG.GEN_EN, LNK_P_L_CFG.GEN_EN.get w)]
  let s := if ¬ chk ∧ LNK_P_L_CFG.CHK_EN.get w = 1 then
      (s.setF b LNK_P_L_PRBS_ERR.COUNT 0).setFs b [(LNK_P_L_PRBS_BITS_LO.COUNT, 0), (LNK_P_L_PRBS_BITS_HI.COUNT, 0)]
    else s
  let s :=
    if LNK_P_L_CFG.NEARLB.get w = 1 ∧ ¬ loop then
      if s.pst p ∈ [0, 8] then (s.toState p 10).setF b LNK_P_L_CFG.NEARLB 1
      else if s.pst p = 10 ∨ s.loopableSpare p l then s.setF b LNK_P_L_CFG.NEARLB 1
      else s.setF (pB p) LNK_P_STATUS.CTLIGN 1
    else if LNK_P_L_CFG.NEARLB.get w = 0 ∧ loop then
      let s := s.setF b LNK_P_L_CFG.NEARLB 0
      if s.pst p = 10 ∧ (List.range 5).all (fun k => !s.isSet (lB p k) LNK_P_L_CFG.NEARLB) then s.toDetect p false else s
    else s
  let on := s.isSet b LNK_P_L_CFG.NEARLB && s.isSet b LNK_P_L_CFG.GEN_EN && s.isSet b LNK_P_L_CFG.CHK_EN
  let s := s.setF b LNK_P_L_STATUS.PSYNC (b2n on)
  if LNK_P_L_CFG.INJ.get w = 1 ∧ on then
    if s.isSet b LNK_P_L_CFG.MODE then s.incSat b LNK_P_L_PRBS_ERR.COUNT 1
    else let r := s.draw 4; r.2.incSat b LNK_P_L_PRBS_ERR.COUNT r.1
  else s

/-- A write of LNK_P_L_CFG that changes one field. -/
def State.laneField (s : State) (p l : Nat) (f : Fld) (v : Nat) : State :=
  if s.writeOk (lB p l + LNK_P_L_CFG.INJ.off) then s.laneCfg p l (f.put (s.rd (lB p l + LNK_P_L_CFG.INJ.off)) v) else s

/-- NEARLB (R289, R290). -/
def execNearlb (p : Fin 4) (l : Fin 5) (on : Bool) (s : State) : Res := done (s.laneField p l LNK_P_L_CFG.NEARLB (b2n on))

/-- PRBS_INJ (R288). -/
def execPrbsInj (p : Fin 4) (l : Fin 5) (s : State) : Res := done (s.laneField p l LNK_P_L_CFG.INJ 1)

/-! ### Lane health and sparing (R269, R283 to R285) -/

/-- A loop on lane l that is needed opens: a test of it ends INTERRUPTED (R289). -/
def State.openLoop (s : State) (p l : Nat) : State :=
  (s.setFs (lB p l) [(LNK_P_L_CFG.NEARLB, 0), (LNK_P_L_STATUS.PSYNC, 0)]).testsYield [0x10040 + 5 * p + l]

/-- A lane of which port p has seen e fails (R283). [DEDUCED, log entry 31] -/
def State.laneFails (s : State) (p : Nat) (e : LaneErrs) : Bool :=
  decide (atLeast1 (s.getF (pB p) LNK_P_THR.FAIL) ≤ e.errs.toNat ∨ 2 ≤ e.missed.toNat) || e.lost

/-- LANE_FAIL (R283, R284): what the receiver of port p has seen of its physical lane x.1. -/
def execLaneFail (p : Fin 4) (x : Fin 5 × LaneErrs) (s : State) : Res :=
  let l := x.1
  if s.pst p ≠ 5 ∨ s.getF (pB p) LNK_P_STATUS.RX_LS ≠ 0 ∨ s.role p false l ≠ 1 ∨ s.laneFails p x.2 = false then done s
  else
    let sp := s.lmap p false 4
    if sp = 7 ∨ (s.port p).spRx ≠ none then done (s.toRecovery p)
    else
      let k := ((List.range 4).find? fun k => decide (s.lmap p false k = l)).getD 0
      done ((s.openLoop p sp).modPort p fun q => { q with spRx := some { k := k, old := l, spare := sp } })

/-- LCS_STEER_RECEIVED (R283): ACK is sent; both lanes carry lane k from the next SKP set. -/
def execLcsSteerReceived (p : Fin 4) (k : Fin 4) (s : State) : Res :=
  let sp := s.lmap p true 4
  if s.pst p ≠ 5 ∨ sp = 7 ∨ s.lmap p true k = 7 then done s
  else done ((s.openLoop p sp).modPort p fun q => { q with spTx := some { k := k } })

/-- LCS_ACK_RECEIVED (R283). -/
def execLcsAckReceived (p : Fin 4) (k : Fin 4) (s : State) : Res :=
  done (s.modPort p fun q => match q.spRx with
    | some x => if x.k = k ∧ x.stage = 0 then { q with spRx := some { x with stage := 1 } } else q
    | none => q)

/-- The receive direction has completed a sparing: DONE is sent (R283). [DEDUCED, log entry 31] -/
def State.sparedRx (s : State) (p : Nat) (x : SpareRx) : State :=
  let s := (s.setFs (pB p) [(mapFld false x.k, x.spare), (mapFld false 4, 7), (LNK_P_STATUS.SPARED, 1)]).spareOk p
  let s := (s.setF (lB p x.old) LNK_P_L_STATUS.RXROLE 3).setF (lB p x.spare) LNK_P_L_STATUS.RXROLE 1
  ((s.incSat (pB p) LNK_P_CNT.SPARES 1).modPort p fun q => { q with spRx := none }).laneSpared p x.k true

/-- SKP_SET (R269, R283): the points a sparing counts; got: what the spare received. -/
def execSkpSet (p : Fin 4) (rx : Bool) (got : List Symb) (s : State) : Res :=
  if s.pst p ≠ 5 then done s
  else if rx then
    match (s.port p).spRx with
    | some x =>
      if x.stage = 0 then done s
      else if x.stage = 1 then done (s.modPort p fun q => { q with spRx := some { x with stage := 2 } })
      else if ¬ skpOk got then done (s.toRecovery p)
      else if x.stage = 2 then done (s.modPort p fun q => { q with spRx := some { x with stage := 3 } })
      else done (s.sparedRx p x)
    | none => done s
  else done (s.modPort p fun q => match q.spTx with | some x => { q with spTx := some { x with dup := true } } | none => q)

/-- LCS_DONE_RECEIVED (R283). -/
def execLcsDoneReceived (p : Fin 4) (k : Fin 4) (s : State) : Res :=
  match (s.port p).spTx with
  | some x =>
    if s.pst p ≠ 5 ∨ x.k ≠ k then done s
    else
      let old := s.lmap p true k
      let sp := s.lmap p true 4
      let s := (s.setFs (pB p) [(mapFld true k, sp), (mapFld true 4, 7), (LNK_P_STATUS.SPARED, 1)]).spareOk p
      let s := (s.setF (lB p old) LNK_P_L_STATUS.TXROLE 3).setF (lB p sp) LNK_P_L_STATUS.TXROLE 1
      done ((s.incSat (pB p) LNK_P_CNT.SPARES 1).modPort p fun q => { q with spTx := none })
  | none => done s

/-- SPARING_TIMEOUT (R283). -/
def execSparingTimeout (p : Fin 4) (s : State) : Res :=
  if (s.port p).spRx ≠ none then done (s.toRecovery p) else done s

/-- SPARE_FAIL (R284, R285): what the receiver of port x.1 has seen of its spare, and the bit errors of the PRBS checker within 2^20 bits. -/
def execSpareFail (x : Fin 4 × LaneErrs × BitVec 21) (s : State) : Res :=
  let p := x.1
  let sp := s.lmap p false 4
  if s.pst p ≠ 5 ∨ s.getF (pB p) LNK_P_STATUS.RX_LS ≠ 0 ∨ sp = 7 ∨
    s.laneFails p x.2.1 = false ∧ x.2.2.toNat < atLeast1 (s.getF (pB p) LNK_P_THR.FAIL) then done s
  else if (s.port p).spRx ≠ none then done (s.toRecovery p)
  else
    let s := (s.openLoop p sp).setF (lB p sp) LNK_P_L_STATUS.RXROLE 3
    done (((s.setF (pB p) LNK_P_MAP.RXSP 7).spareOk p).degraded p 3)

/-- LANE_DEGRADE_WINDOW (R266, R276, R285): the errors of what lane l received are counted in every state; in ACTIVE, awake, its DFE has gone on
adapting, and a data lane is judged. [DESIGN CHOICE, log entry 71] -/
def execLaneDegradeWindow (p : Fin 4) (l : Fin 5) (syms : List (BitVec 10)) (s : State) : Res :=
  let r := symErrs ((s.port p).lane l).rd syms
  let s := (s.incSat (lB p l) LNK_P_L_SYMERR.COUNT r.1).modPort p fun q => q.modLane l fun x => { x with rd := r.2 }
  if s.pst p ≠ 5 then done s
  else
    let s := if s.getF (pB p) LNK_P_STATUS.RX_LS = 0 ∧ (s.usedLanes p false).testBit l then s.adaptLane p l false else s
    if s.role p false l = 1 ∧ atLeast1 (s.getF (pB p) LNK_P_THR.DEGR) ≤ r.1 then done (s.degraded p 4) else done s

/-! ### Sleep (R279, R286, R287) -/

/-- The transmit direction may not go to sleep, or deeper: port not ACTIVE, sparing, a control request, traffic or an ACK to send, NOSLEEP. -/
def State.mustWake (s : State) (p : Nat) : Bool :=
  let q := s.port p
  decide (s.pst p ≠ 5 ∨ q.spRx ≠ none ∨ q.spTx ≠ none ∨ q.pend ≠ 0 ∨ q.acc ≠ 0 ∨ q.since ≠ 0) || q.ackDue ||
    s.isSet (pB p) LNK_P_CTRL.NOSLEEP || (List.range 5).any fun i => decide (s.waiting p i ≠ [])

/-- SLEEP_ENTRY (R286). -/
def execSleepEntry (p : Fin 4) (s : State) : Res :=
  let b := pB p
  let dim := s.getF b LNK_P_SLEEP.DIM_IDLE
  let dark := s.getF b LNK_P_SLEEP.DARK_IDLE
  let ls := s.getF b LNK_P_STATUS.TX_LS
  if s.mustWake p then done s
  else if ls = 0 ∧ dim ≠ 0 then done ((s.setF b LNK_P_STATUS.TX_LS 1).incSat b LNK_P_LSCNT.DIM 1)
  else if ls ≤ 1 ∧ dark ≠ 0 then
    done (((s.setF b LNK_P_STATUS.TX_LS 2).incSat b LNK_P_LSCNT.DARK 1).modPort p fun q => { q with beaconAt := s.uptime })
  else done s

/-- SLP_RECEIVED (R286). -/
def execSlpReceived (p : Fin 4) (dark : Bool) (s : State) : Res :=
  if s.pst p ≠ 5 then done s
  else done ((s.setF (pB p) LNK_P_STATUS.RX_LS (if dark then 2 else 1)).modPort p fun q => { q with watch := s.uptime })

/-- TX_WAKE (R287, R306): LS0 again; a CREDIT is sent. -/
def execTxWake (p : Fin 4) (s : State) : Res :=
  if s.pst p ≠ 5 ∨ s.getF (pB p) LNK_P_STATUS.TX_LS = 0 then done s
  else done ((s.setF (pB p) LNK_P_STATUS.TX_LS 0).modPort p Port.sendCredit)

/-- RX_WAKE (R287): after the idle the received disparity is negative (R266). -/
def execRxWake (p : Fin 4) (s : State) : Res :=
  if s.pst p ≠ 5 then done s
  else done ((s.setF (pB p) LNK_P_STATUS.RX_LS 0).modPort p fun q =>
    { q with watch := s.uptime, lanes := q.lanes.map fun x => (x.1, { x.2 with rd := false }) })

/-- WAKE_LOCK_TIMEOUT (R287). -/
def execWakeLockTimeout (p : Fin 4) (s : State) : Res :=
  if s.getF (pB p) LNK_P_STATUS.RX_LS ≠ 0 then done (s.toRecovery p) else done s

/-- BEACON (R287). -/
def execBeacon (p : Fin 4) (s : State) : Res :=
  if s.getF (pB p) LNK_P_STATUS.TX_LS = 2 then done (s.modPort p fun q => { q with beaconAt := s.uptime }) else done s

/-- BEACON_RECEIVE (R287). -/
def execBeaconReceive (p : Fin 4) (s : State) : Res :=
  if s.getF (pB p) LNK_P_STATUS.RX_LS = 2 then done (s.modPort p fun q => { q with watch := s.uptime }) else done s

/-- BEACON_TIMEOUT (R287). -/
def execBeaconTimeout (p : Fin 4) (s : State) : Res :=
  if s.pst p = 5 ∧ s.getF (pB p) LNK_P_STATUS.RX_LS = 2 then done (s.toDetect p false) else done s

/-- CLOCK_LANE_LOSS (R279, R286). [DEDUCED, log entry 31] -/
def execClockLaneLoss (p : Fin 4) (stopped : Bool) (s : State) : Res :=
  let ls := s.getF (pB p) LNK_P_STATUS.RX_LS
  if s.pst p ≠ 5 ∨ 2 ≤ ls then done s
  else if stopped ∧ ls = 1 then done ((s.setF (pB p) LNK_P_STATUS.RX_LS 2).modPort p fun q => { q with watch := s.uptime })
  else done (s.toDetect p false)

/-! ### Link packets, replay, credits (R303 to R306, R318) -/

/-- Link packets are exchanged: in ACTIVE, the receive direction awake. -/
def State.linked (s : State) (p : Nat) : Bool := decide (s.pst p = 5) && decide (s.getF (pB p) LNK_P_STATUS.RX_LS = 0)

/-- Replays every unacknowledged TP; the oldest replayed four times without progress sends the port to RECOVERY (R304). -/
def State.replayAll (s : State) (p : Nat) : State :=
  match (s.port p).replay with
  | [] => s
  | x :: t =>
    let s := (s.incSat (pB p) LNK_P_ERR2.REPLAYS 1).modPort p fun q => { q with replay := { x with tries := x.tries + 1 } :: t }
    if 4 ≤ x.tries + 1 then
      (s.modPort p fun q => { q with replay := { x with tries := 0 } :: t }).toRecovery p
    else s

/-- An ACK for seq. -/
def State.ackTake (s : State) (p seq : Nat) : State := s.modPort p fun q => q.freeUpTo seq

/-- A NAK for seq. -/
def State.nakTake (s : State) (p seq : Nat) : State := ((s.incSat (pB p) LNK_P_ERR2.NAKRX 1).ackTake p seq).replayAll p

/-- A CREDIT (R305). -/
def State.creditTake (s : State) (p : Nat) (init : Bool) (k : Cred) : State :=
  s.modPort p fun q => if init then { q with init := true, adv := k } else if q.init then { q with upd := k } else q

/-- ACK_RECEIVE (R304). -/
def execAckReceive (p : Fin 4) (seq : BitVec 12) (s : State) : Res :=
  if s.linked p then done (s.ackTake p seq.toNat) else done s

/-- NAK_RECEIVE (R304). -/
def execNakReceive (p : Fin 4) (seq : BitVec 12) (s : State) : Res :=
  if s.linked p then done (s.nakTake p seq.toNat) else done s

/-- REPLAY_TIMEOUT (R304). -/
def execReplayTimeout (p : Fin 4) (s : State) : Res := if s.pst p = 5 then done (s.replayAll p) else done s

/-- CREDIT_RECEIVE (R305). -/
def execCreditReceive (p : Fin 4) (init : Bool) (cp cn cc : BitVec 16) (s : State) : Res :=
  if s.linked p then done (s.creditTake p init { p := cp.toNat, n := cn.toNat, c := cc.toNat }) else done s

/-- ACK_TIMER (R303). -/
def execAckTimer (p : Fin 4) (s : State) : Res :=
  if s.pst p = 5 ∧ ((s.port p).acc ≠ 0 ∨ (s.port p).ackDue) then done (s.modPort p fun q => q.sendAck 1) else done s

/-- CREDIT_UPDATE (R305, R306). -/
def execCreditUpdate (p : Fin 4) (s : State) : Res :=
  if s.pst p = 5 ∧ s.getF (pB p) LNK_P_STATUS.TX_LS = 0 then done (s.modPort p Port.sendCredit) else done s

/-- CREDIT_TIMEOUT (R306). -/
def execCreditTimeout (p : Fin 4) (s : State) : Res := if s.crStall p then done (s.toRecovery p) else done s

/-- PORT_DOWN (R318). -/
def execPortDown (p : Fin 4) (s : State) : Res := done (s.portDown p)

end Sys2Proof.Machine
end

