-- ==== Sys2Proof/Machine/Micro.lean ====
section
/-! DEFINITION. Meanings of the microcode's commands (chapter 13): microwords, micro-traps, machine checks, reloads, patch installation.
What a microword's unpublished fields do to the sequence is given by the rows of the sequence words themselves. -/

namespace Sys2Proof.Machine

/-! ### Frames (R331) -/

def Mic.entry (m : Mic) (k : Nat) : Nat := m.stack.reverse.getD k 0

/-- The frame of the present state; bits 21 and 22 of word 0 as given; the trap causes pending. -/
def Mic.take (m : Mic) (upc pend : Nat) (limit mchk : Bool) : List Nat :=
  let three (k : Nat) : Nat := m.entry k + m.entry (k + 1) <<< 10 + m.entry (k + 2) <<< 20
  [upc + m.stack.length <<< 10 + m.flags <<< 16 + b2n limit <<< 21 + b2n mchk <<< 22 + pend <<< 24,
   three 0, three 3, m.entry 6 + m.entry 7 <<< 10] ++ m.scr

/-- The state that a frame restores (MRET, R330). -/
def Mic.restore (m : Mic) : Mic :=
  let w0 := m.frame.getD 0 0
  let n := bits w0 13 10
  let e (k : Nat) : Nat := bits (m.frame.getD (1 + k / 3) 0) (10 * (k % 3) + 9) (10 * (k % 3))
  { m with upc := bits w0 9 0, stack := ((List.range n).map e).reverse, flags := bits w0 20 16, scr := (m.frame.drop 4).take 4,
           handler := false, window := 0 }

def State.pend (s : State) (e : Nat) : Nat := s.getF (4 * e) MC_ENG_STATUS.PEND

/-! ### Machine check (R332) -/

/-- The run that engine e takes part in stops at its first vector boundary, with the safe state and the code of CS_PARITY. -/
def State.mcheckRun (s : State) (e : Nat) : State :=
  let l := s.leaderOf e
  let st : RunEnd := .safe { status := scABORTFAULT, detail := 0x08 }
  match (s.eng l).run, (s.eng l).ctx with
  | none, _ => s
  | some _, some x =>
    let t := e / 128
    let s := (s.ctxLeaders t x).foldl (fun s c => s.modEng c fun g => { g with queue := [], acts := [] }) s
    s.ctxFin t x st
  | some _, none =>
    let s := s.modEng l fun g => { g with queue := [], acts := [], hold := none, pad := none, vecs := none, loop := none }
    s.finishRun l st

/-- A machine check of engine e for cause cs at micro-address upc. [DEDUCED, log entry 17] -/
def State.machineCheck (s : State) (e upc cs : Nat) : State :=
  if s.engState e = 4 then s
  else
    let s := s.modMic e fun m => { m with frame := m.take upc (s.pend e) false true }
    let s := (s.setF (4 * e) MC_ENG_STATUS.MCAUSE cs).incSat (4 * e) MC_ENG_STATUS.MCHK 1
    let others := (s.mem (s.leaderOf e)).filter fun m => decide (m ≠ e)
    let s := others.foldl (fun s m => if s.patRunning m then s.raiseTrap m 2 else s) s
    let s := s.setF (chB e) CHN_SEQ_STATUS.STATE 4
    let s := s.tripFe (s.phys e) 0x08
    let s := s.mcheckRun e
    let s := if s.isSet 0 MC_STATUS.RELOAD then s.incSat 0 MC_STATUS.QUEUE 1 else s.setF 0 MC_STATUS.RELOAD 1
    s.detect 0x08 scCHANNEL e (upc <<< 16 + cs)

/-! ### Microwords (R326, R327, R329) -/

/-- The stores hold a build and their engines have started (R336, R337). -/
def State.microRuns (s : State) : Bool := let g := s.getF 0 MC_VERSION.STAGE; g == 3 || g == 0xE

/-- What NAC does: next micro-PC and stack, or the machine-check cause. [DESIGN CHOICE, log entry 19] -/
def microNext (m : Mic) (nac naddr op : Nat) (hold : Bool) : Nat ⊕ (Nat × List Nat) :=
  let nxt := (m.upc + 1) % 1024
  let push : Nat ⊕ (Nat × List Nat) := if 8 ≤ m.stack.length then .inl 4 else .inr (naddr, nxt :: m.stack)
  match nac with
  | 0 => .inr (nxt, m.stack)
  | 1 => .inr (naddr, m.stack)
  | 2 => .inr (if hold then naddr else nxt, m.stack)
  | 3 => push
  | 4 => if hold then push else .inr (nxt, m.stack)
  | 5 => (match m.stack with | [] => .inl 4 | a :: as => .inr (a, as))
  | 6 => .inr ((naddr + op) % 1024, m.stack)
  | 7 => if m.handler then .inr (m.upc, m.stack) else .inl 5
  | 8 => .inr (if hold then nxt else m.upc, m.stack)
  | 9 => .inr (nxt, m.stack)
  | _ => .inl 3

/-- The parity of a microword: bit i makes it and data bits 16 i + 15 to 16 i even together (R325). -/
def microParity (w : Nat) : Nat := (List.range 8).foldl (fun n i => n + (bitsSet 16 (bits w (16 * i + 15) (16 * i))).length % 2 * 2 ^ i) 0

/-- What a read of a stored microword finds with these of its bits flipped: data in [127:0] of the mask, parity above. [DESIGN CHOICE, log entry 8] -/
def microRead (w : Nat) (flips : BitVec 136) : Nat × Bool :=
  let d := Nat.xor w (flips.toNat % 2 ^ 128)
  (d, microParity d != Nat.xor (microParity w) (flips.toNat / 2 ^ 128))

/-- A trap is pending at an open boundary of engine e: it is taken before the next microword (R329). [DEDUCED, log entry 17] -/
def State.trapDue (s : State) (e : Nat) : Bool :=
  let m := s.mic e
  s.microRuns && decide (s.engState e ≠ 4 ∧ (m.window = 0 ∨ 64 ≤ m.window) ∧ bitsSet 8 (s.pend e) ≠ []) && !m.handler

/-- MICROWORD. [DESIGN CHOICE, log entry 19] [DESIGN CHOICE, log entry 8] -/
def execMicroword (e : Fin 1024) (cost : Fin 8) (cond : Bool) (flips : BitVec 136) (out : MicroOut) (s : State) : Res :=
  if ¬ s.clocked ∨ ¬ s.microRuns ∨ s.engState e = 4 ∨ s.trapDue e then done s
  else
    let m := s.mic e
    let r := microRead (tabGet (fun _ => 0) s.cs m.upc) flips
    let w := r.1
    let nac := bits w 127 124
    let holds := cond != bitB w 117
    if r.2 then done (s.machineCheck e m.upc 1)
    else match microNext m nac (bits w 116 107) (swOp (s.memWord (s.leaderOf e) e 0)) holds with
      | .inl cs => done (s.machineCheck e m.upc cs)
      | .inr (a, st) =>
        if nac = 7 then done (s.modMic e Mic.restore)
        else
          let s := s.modMic e fun m => { m with upc := a, stack := st, flags := out.flags.toNat + b2n holds <<< 4,
                                                scr := [out.s0.toNat, out.s1.toNat, out.s2.toNat, out.s3.toNat],
                                                window := if bitB w 106 then m.window + cost + 1 else 0 }
          done (if nac = 9 then s.raiseTrap e 7 else s)

/-! ### Micro-traps (R328 to R330) -/

/-- What the handler of cause k does to the run of engine e: STOP, FAULT and GROUP end it at the next boundary (R130, R131, R359), JUMP
registers the request (R123); the others only resume the routine that waits. [DEDUCED, log entry 17] -/
def State.handle (s : State) (e k : Nat) : State :=
  let l := s.leaderOf e
  let g := s.eng l
  if k ≤ 2 then
    match g.stop, g.run with
    | some st, some _ => (match g.ctx with
      | some x =>
        let t := e / 128
        ((s.ctxLeaders t x).foldl (fun s c => s.modEng c fun h => { h with queue := [], acts := [] }) s).ctxFin t x (.safe st)
      | none => (s.modEng l fun h => { h with queue := [], acts := [], hold := none, pad := none, vecs := none, loop := none }).finishRun l (.safe st))
    | _, _ => s
  else if k = 3 then
    match g.jreq with
    | some r => (match s.cmd? r with
      | some c => s.setFs (chB l) [(CHN_SEQ_JREQ.TARGET, c.pf 4 12 0), (CHN_SEQ_JREQ.KEEP, c.pf 4 16 16), (CHN_SEQ_JREQ.PEND, 1)]
      | none => s)
    | none => s
  else s

/-- MICRO_TRAP. [DEDUCED, log entry 17] -/
def execMicroTrap (e : Fin 1024) (whole : Bool) (s : State) : Res :=
  let m := s.mic e
  let p := s.pend e
  match (bitsSet 8 p) with
  | [] => done s
  | k :: _ =>
    let limit := decide (64 ≤ m.window)
    if ¬ s.trapDue e then done s
    else
      let s := s.modMic e fun m =>
        let m := { m with frame := m.take m.upc p limit false, window := 0 }
        if whole then m else { m with upc := 0x3F0 + k, stack := [], handler := true }
      let s := if limit then s.setF (4 * e) MC_ENG_STATUS.AOVR 1 else s
      let s := s.setF (4 * e) MC_ENG_STATUS.PEND (setBit p k false)
      done (s.handle e k)

/-- CS_PARITY_SWEEP (R325). [DESIGN CHOICE, log entry 8] -/
def execCsParitySweep (e a : Fin 1024) (flips : BitVec 136) (s : State) : Res :=
  if (microRead (tabGet (fun _ => 0) s.cs a) flips).2 ∧ s.microRuns then done (s.machineCheck e a 2) else done s

/-- MC_RELOAD_DONE (R333). -/
def execMcReloadDone (alt copyBad : Bool) (failed late : List (Fin 1024)) (s : State) : Res :=
  if ¬ s.isSet 0 MC_STATUS.RELOAD then done s
  else if copyBad then done ((s.setFs 0 [(MC_STATUS.RELOAD, 0), (MC_STATUS.QUEUE, 0)]).detect 0x12 scMODULE 0 0x10)
  else
    let halted := s.listedEngines fun c => decide (s.engState c = 4) && !(late.any fun x => decide (x.val = c))
    let s := halted.foldl (fun s c =>
      let s := s.setF (4 * c) MC_ENG_STATUS.ALTSRC (b2n alt)
      let s := s.modMic c fun m => { frame := m.frame }
      if failed.any fun x => decide (x.val = c) then s.detect 0x08 scCHANNEL c (s.getF (4 * c) MC_ENG_STATUS.MCAUSE)
      else (s.setF (chB c) CHN_SEQ_STATUS.STATE 0).condEnd 0x08 scCHANNEL c) s
    let s := if alt then s.setF 0 MC_STATUS.ALTSRC 1 else s
    let s := (s.incSat 0 MC_RELOADS.COUNT 1).setF 0 IRQ_LATCH.MC 1
    done (s.setFs 0 [(MC_STATUS.RELOAD, b2n (decide (late ≠ []))), (MC_STATUS.QUEUE, min 127 (late.length - 1))])

/-- MC_INSTALL_DONE (R338, R389). -/
def execMcInstallDone (auth : Auth) (wrote : Bool) (s : State) : Res :=
  if ¬ s.isSet 0 MC_INSTALL.BUSY then done s
  else
    let a := supBase + 16 * s.getF 0 MC_INSTALL.OFFSET
    let len := s.getF 0 MC_INSTALL_LEN.BYTES
    let g (o n : Nat) : Nat := s.sramN (a + o) n
    let f := s.contCheck g 2 len (s.getF 0 MC_VERSION.BASE) auth
    let s' := (s.setF 0 MC_INSTALL.BUSY 0).setF 0 IRQ_LATCH.MC 1
    if f ≠ 0 then done (s'.setF 0 MC_INSTALL.RESULT (f + 1))
    else if ¬ wrote then done (s'.setF 0 MC_INSTALL.RESULT 9)
    else
      let d := match s.dirNow with | some (_, d) => d | none => ⟨0, 0, []⟩
      let slot := if d.active = 1 then 2 else 1
      let s := (s'.flashErase (contBase (2 + slot)) 0x200000).flashPut (contBase (2 + slot)) (memRead sramReset s.sram a len)
      let lens := ((List.range 5).map fun i => d.lens.getD i 0).set (2 + slot) len
      let s := s.dirWrite ⟨slot, d.counter + 1, lens⟩
      let s := if s.isSet 0 MC_INSTALL.COMMIT_SVN then { s with svnRaised := max s.svnRaised (contSvn g) } else s
      done (s.setF 0 MC_INSTALL.RESULT 1)

end Sys2Proof.Machine
end

