-- ==== Sys2Proof/Machine/ResetOps.lean ====
section
/-! DEFINITION. Operations of reset and boot: the module reset (R403 to R407), the tile reset (R405, R434), the restore of the
calibration (R225), container loads (R335 to R337, R386), SERVICE (R22, R23), REFCLK (R16, R17). -/

namespace Sys2Proof.Machine

/-! ### Module reset -/

/-- The state after a power-on reset: what stands outside the module or in its flash, fuses and test port stays (R405). -/
def State.coldReset (s : State) : State :=
  { uptime := s.uptime, free := s.free, flash := s.flash, host := s.host, armLine := s.armLine, svnRaised := s.svnRaised, rails := s.rails,
    off := s.off, tapIr := s.tapIr, unlocked := s.unlocked, dwFailed := s.dwFailed, pending := s.pending }

/-- The oldest command with a slice started and not completed, as GLB_INTERRUPTED_OP shows it (R407). -/
def State.interrupted (s : State) : Nat :=
  let l := s.cmds.filter fun c => c.started && decide (c.ending = none ∧ c.op ∈ slicedOps)
  match l with
  | [] => 0
  | x :: t =>
    let c := t.foldl (fun m c => if c.intake < m.intake then c else m) x
    1 <<< 31 + c.sq <<< 20 + (c.tag % 4096) <<< 8 + c.op

/-- A module-reset trigger of the given CAUSE (R403 to R407). -/
def State.moduleReset (s : State) (cause : Nat) : State :=
  if s.off then s
  else if s.inReset then
    if cause < s.getF 0 GLB_RESET_CAUSE.CAUSE then s.setF 0 GLB_RESET_CAUSE.CAUSE cause else s
  else
    let n := satAdd 16 (s.getF 0 GLB_RESET_CAUSE.COUNT) 1
    let w := cause + 1 <<< 4 + s.mode <<< 8 + n <<< 16
    let s' := { s.coldReset with
      sram := tabKeep (fun a => decide (calBase ≤ a ∧ a < calBase + 0x200000)) s.sram, bbStage := s.bbStage }
    let s' := (s'.wr GLB_RESET_CAUSE.CAUSE.off (BitVec.ofNat 32 w)).wr GLB_INTERRUPTED_OP.OPCODE.off (BitVec.ofNat 32 s.interrupted)
    s'.setF 0 FLT_BB_STATUS.STAGED (min 63 s.bbStage.length)

/-! ### Tile reset -/

/-- The instances of tile t, its channels and its shades (R365). -/
def State.tileInsts (s : State) (t : Nat) : List Nat := (s.insts.filter fun e => e.2.force && keyTile e.1 == some t).map Prod.fst

/-- A tile reset starts (R360, R365, R403, R405, R434). [DEDUCED, log entry 53] -/
def State.tileReset (s : State) (t : Nat) : State :=
  let b := tileBase t
  if s.mode = stBOOT ∨ s.isSet b TIL_STATUS.RESET then s
  else
    let work := fun c : Cmd => c.admitted && decide (c.op ≠ opANCHOR ∧ t ∈ s.tilesOf c)
    let s := s.stopCmds work fun c => s.stopPart t { status := scABORTFAULT } { c with vanish := true }
    let s := s.cutTests t
    let r := s.draw 8
    let s := if s.isSet 0 CAL_STATUS.ANCHOR_RUN then r.2.anchorKill (some { status := scABORTFAULT, detail := r.1 }) else s
    let s := s.stopTile t none
    let s := (s.trigKill t none true).rqClear t
    let us := (List.range 128).map (t * 128 + ·) ++ (List.range 4).map (1024 + 4 * t + ·)
    let s := us.foldl (fun s u =>
      let keep := s.getF (feB u) CHN_FE_STATUS.REMAPPED
      let s := ((s.resetBlock u 0 0x58).setF (feB u) CHN_FE_STATUS.REMAPPED keep).modFe u fun _ => {}
      let s := ((s.cmpOff u 0).cmpOff u 1).resetBlock u 0x200 0x210
      (s.modTdc u fun d => { d with locks := 0, fifo := [], lostPend := 0 }).showLocks u) s
    let s := s.resetRegs fun a => decide ((b + 0x600 ≤ a ∧ a < b + 0x644) ∨ (b + 0x700 ≤ a ∧ a < b + 0x710)) ||
      (match locate a with | (.engine, c, 0x30C) => decide (c / 128 = t) | _ => false)
    let s := s.sramClear fun a => decide ((capBase t ≤ a ∧ a < capBase t + 0x200000) ∨ (apgBase t + 0x7C000 ≤ a ∧ a < apgBase t + 0x80000))
    let s := ((s.modTile t fun x => { x with flQueue := [] }).flClear t).modTrig t fun g => { g with segs := [], cur := none, lanes := [], wr := 0, left := none }
    let s := s.setFs b [(TRG_STATUS.SEGS, 0), (TIL_STATUS.RESET, 1)]
    let s := (s.setF (t * 0x10) CAL_TILE_ROT.DUE 1).setTileQ t true
    (s.tileInsts t).foldl State.releaseInst s

/-- The tile reset of t ends: the tile is served again; instances still in force act again (R365); it leaves TILE_Q unless quiesced. -/
def State.tileResetOver (s : State) (t : Nat) : State :=
  let s := s.setF (tileBase t) TIL_STATUS.RESET 0
  let s := (s.tileInsts t).foldl (fun s k => s.levelAction k (s.inst k).level) (s.setTileQ t false)
  (s.insts.filter fun e => e.2.force && decide (e.2.level = 2) && keyScope e.1 == scMODULE).foldl (fun s e => s.quiesce t (keyCls e.1)) s

/-! ### Restore of the calibration (R225) -/

/-- The registers that the committed buffer determines. -/
def State.calShow (s : State) (src : Nat) : State :=
  let s := s.setFs 0 [(CAL_GEN.GEN, s.cal 6 2), (CAL_GEN.ANCHOR_GEN, s.cal 0x20 2), (CAL_ANCHOR_TIME_LO.SEC, s.cal 0x18 4),
    (CAL_ANCHOR_TIME_HI.SEC, s.cal 0x1C 4), (CAL_MREF_LO.NV, s.cal 0x30 4), (CAL_MREF_HI.NV, s.cal 0x34 4), (CAL_STATUS.RESTORED, src)]
  let s := { s with calBack := s.cal 0x10 8 }.setF 0 CAL_ARCH_CNT.COUNT (match s.newestSlot with | some (_, n) => n | none => s.cal 8 4)
  let s := (List.range 1024).foldl (fun s u =>
    s.setFs (4 * u) [(CAL_FE_STATE.STATE, s.cal (feRec u + recState) 1), (CAL_FE_STATE.FAILS, s.cal (feRec u + recFails) 1)]) s
  let s := (List.range 8).foldl (fun s t =>
    let s := (s.setF (t * 0x10) CAL_TILE_TX.TEMP (s.cal (tileRec t) 2)).modTile t fun x => { x with txValid := decide (src ≠ 3) }
    (List.range 4).foldl (fun s k => s.setShade (4 * t + k) (s.cal (tileRec t + 32) 1 / 4 ^ k % 4)) s) s
  (List.range 32).foldl (fun s nn =>
    let e := s.cal (0xC6280 + 4 * nn) 4
    if e.testBit 31 then
      let c := nn / 4 * 128 + e % 128
      ((s.setFs (4 * nn) [(CAL_REMAP.VALID, 1), (CAL_REMAP.LOCAL, e % 128)]).setF (feB c) CHN_FE_STATUS.REMAPPED 1).setF (feB c) CHN_ADC_STATUS.SHD_EXEC 1
    else s) s

/-- The factory tables: the corrections of every front-end, generation 0, nothing else. [DESIGN CHOICE, log entry 4] [DEDUCED, log entry 50] -/
def State.factoryCal (s : State) : State :=
  let s := s.sramClear fun a => decide (calBase ≤ a ∧ a < calBase + 0x100000)
  (List.range 1056).foldl (fun s u =>
    { s with sram := memWrite sramReset s.sram (calBase + feRec u) ((List.range 704).map fun i => Config.factoryTable (feRec u + i)) }) s

/-- A generation is restored from SRAM, the archive, or the factory tables. -/
def State.calRestore (s : State) (sramGood : Bool) : State :=
  let s := s.sramClear fun a => decide (calStage ≤ a ∧ a < calStage + 0x100000)
  if s.isSet 0 GLB_RESET_CAUSE.WARM ∧ sramGood then s.calShow 1
  else match s.newestSlot with
    | some (k, _) =>
      let s := s.sramClear fun a => decide (calBase ≤ a ∧ a < calBase + 0x100000)
      { s with sram := memWrite sramReset s.sram calBase (s.flashRead (0xC00000 + 0x100000 * k) recEnd) }.calShow 2
    | none => s.factoryCal.calShow 3

/-! ### Loads (R335 to R337, R386) -/

/-- The directory in use, or an empty one. -/
def State.dir (s : State) : Dir := match s.dirNow with | some (_, d) => d | none => ⟨0, 0, []⟩

/-- The check that container i of the directory's order fails: 0 none. -/
def State.loadCheck (s : State) (i kind base : Nat) (a : Auth) : Nat :=
  s.contCheck (fun o n => s.flashN (contBase i + o) n) kind (s.dir.lens.getD i 0) base a

/-- Boot halts with an ERR (R386). -/
def State.bootHalt (s : State) (err : Nat) : State := s.setFs 0 [(GLB_BOOT_STATUS.HALT, 1), (GLB_BOOT_STATUS.ERR, err)]

/-- A firmware container is loaded, or halts boot: missing, rejected (PATCH_AUTH), or with bad records. -/
def State.loadFw (s : State) (i kind err : Nat) (a : Auth) : State :=
  if s.dir.lens.getD i 0 = 0 then s.bootHalt err
  else
    let f := s.loadCheck i kind 0 a
    if f = 0 then s.applyFw ((bodyOf kind a.body).getD [])
    else if f = 7 then (s.bootHalt 6).detect 0x12 scMODULE 0 7
    else (s.bootHalt err).detect 0x12 scMODULE 0 f

/-- The microcode is loaded and the engines start (R336, R337). [DESIGN CHOICE, log entry 8] [DEDUCED, log entry 52] -/
def State.loadMicro (s : State) (base patch : Auth) (readback : List (Fin 1024 × Fin 1024)) : State :=
  let d := s.dir
  let f := if d.lens.getD 2 0 = 0 then 1 else s.loadCheck 2 1 0 base
  if f ≠ 0 then (s.setFs 0 [(MC_VERSION.STAGE, 0xF)]).detect 0x12 scMODULE 0 f
  else
    let b := contBaseNo fun o n => s.flashN (contBase 2 + o) n
    let s := { s with cs := applyWords [] ((bodyOf 1 base.body).getD []) }
    let s := s.setFs 0 [(MC_VERSION.BASE, b), (MC_VERSION.PATCH, 0), (MC_VERSION.STAGE, 3)]
    let i := 2 + d.active
    let s := if d.active = 0 ∨ d.lens.getD i 0 = 0 then s
      else
        let f := s.loadCheck i 2 b patch
        if f ≠ 0 then (s.setF 0 MC_VERSION.STAGE 0xE).detect 0x12 scMODULE 0 f
        else { s with cs := applyWords s.cs ((bodyOf 2 patch.body).getD []) }.setF 0 MC_VERSION.PATCH (contLevel fun o n => s.flashN (contBase i + o) n)
    readback.foldl (fun s e => let r := s.draw 3; r.2.machineCheck e.1 e.2 r.1) { s with mics := [] }

/-- SPA discovery (R391). -/
def State.discover (s : State) (f : FlashInfo) : State :=
  let mode := if f.sfdp then min f.mode.val (min 2 (s.getF 0 SPA_CFG.MAXMODE)) else 0
  let div := if f.sfdp then max (max 26 (s.getF 0 SPA_CFG.MINDIV)) (max ([104, 40, 26].getD mode 104) f.div.toNat) else 104
  { s.setFs 0 [(SPA_STATUS.MODE, mode), (SPA_STATUS.DIV, div), (SPA_STATUS.DLOG2, f.dlog2.val), (SPA_STATUS.NOSFDP, b2n !f.sfdp)] with
    spaMode := mode }

/-- Every delay line locks but those listed, which raise DLL_UNLOCK (R138, R386). -/
def State.lockLines (s : State) (bad : List (Fin 1061 × Fin 6)) : State :=
  let s := (List.range 1061).foldl (fun s u =>
    (s.modTdc u fun d => { d with locks := (bad.filter fun e => e.1.val = u).foldl (fun m e => setBit m e.2.val false) (lineMask u) }).showLocks u) s
  bad.foldl (fun s e => let k := s.tdcUnit e.1; s.detect 0x0C k.1 k.2 e.2) s

/-- Boot is complete: READY, or SAFE for a Black instance in force; rails outside their SUPPLY windows are raised (R386, R419). [DEDUCED, log entry 53] -/
def State.bootDone (s : State) : State :=
  let s := (s.setF 0 GLB_BOOT_STATUS.PHASE 0xF).setMode stREADY
  let s := s.rails.foldl (fun s e => s.detect 0x11 scMODULE 0 (e.1 <<< 24 + e.2)) s
  match s.insts.find? fun e => e.2.force && decide (e.2.level = 3) with
  | some e => s.enterSafe (keyCls e.1)
  | none => s

/-! ### SERVICE (R22, R23) -/

/-- A command is in flight. -/
def State.cmdInFlight (s : State) : Bool := s.cmds.any fun c => c.admitted

/-- A transfer or rotation is under way. -/
def State.calUnderWay (s : State) : Bool :=
  (List.range 8).any (fun t => s.isSet (t * 0x10) CAL_TILE_ROT.XFER) || s.rots.any fun e => e.2.active

/-- What a SERVICE exit waits for. -/
def State.serviceHeld (s : State) : Bool :=
  s.isSet 0 MC_INSTALL.BUSY || (match s.spa with | some o => decide ((o.op = 1 ∨ o.op = 2) ∧ regionOf o.addr = 8) | none => false)

/-- GLB_CTRL is written. -/
def State.glbCtrl (s : State) (req exit black : Bool) : State :=
  let s := if ¬ req then s
    else if s.mode ≠ stREADY ∨ s.cmdInFlight ∨ black then s.setF 0 GLB_STATUS.SVC_REJ 1
    else if s.calUnderWay then { s with svcEntry := true }
    else s.setMode stSERVICE
  if exit ∧ s.mode = stSERVICE ∧ ¬ s.svcExit then (if s.serviceHeld then { s with svcExit := true } else s.setMode stREADY) else s

/-! ### GLB_RESET (R403) -/

/-- GLB_RESET is written with w, over SPB or over the link. -/
def State.glbReset (s : State) (w : Word) (spb : Bool) : State :=
  let asks := decide (GLB_RESET.MODULE.get w = 1 ∨ GLB_RESET.TILES.get w ≠ 0)
  let clr := GLB_RESET.KEYERR.get w = 1
  if s.inReset then s
  else if GLB_RESET.KEY.get w ≠ 0x5AFE then
    if asks then s.setF 0 GLB_RESET.KEYERR 1 else if clr then s.setF 0 GLB_RESET.KEYERR 0 else s
  else
    let s := if clr then s.setF 0 GLB_RESET.KEYERR 0 else s
    if GLB_RESET.MODULE.get w = 1 then s.moduleReset (if spb then 5 else 4)
    else
      let ts := bitsSet 8 (GLB_RESET.TILES.get w)
      let s := s.trigStop (fun t => decide (t ∈ ts) && decide (s.mode ≠ stBOOT) && !s.isSet (tileBase t) TIL_STATUS.RESET) none
      ts.foldl State.tileReset s.domsRelease

/-! ### REFCLK (R16, R17) -/

/-- Clocks stop: what a loss of REFCLK does beyond the fault. -/
def State.clocksStop (s : State) (periods : Nat) : State :=
  let s := s.setFs 0 [(GLB_STATUS.ROOT_LOCK, 0), (GLB_STATUS.REF_INT, 1), (GLB_STATUS.EPOCH_VALID, 0), (GLB_SYNC_STATUS.EPH, 0),
    (SPA_STATUS.INTOSC, 1), (SPA_STATUS.MODE, 0)]
  let s := (s.listedFes fun _ => true).foldl (fun s u => (s.quietFe u).abortBusy seqOps u 0x10) s
  let s := s.detect 0x10 scMODULE 0 periods
  let s := (List.range 8).foldl State.xferKill s
  let s := (s.tdcs.map Prod.fst).foldl (fun s u => (s.modTdc u fun d => { d with locks := 0 }).showLocks u) s
  (List.range 4).foldl (fun s p => s.toDetect p false) s

end Sys2Proof.Machine
end

