-- ==== Sys2Proof/Machine/Boot.lean ====
section
/-! DEFINITION. Meanings of the commands of supplies, reset, boot, SERVICE, the root clock, JTAG and the SPA port (chapters 1, 17, 18). -/

namespace Sys2Proof.Machine

/-! ### Supplies (R384, R403, R419) -/

/-- POWER_ON (R403). -/
def execPowerOn (s : State) : Res :=
  if s.off then done { s.coldReset with off := false, unlocked := false, dwFailed := false, tapIr := 1 } else done s

/-- RESET_WINDOW_EXIT (R419): the module is OFF, every output high-Z. -/
def execResetWindowExit (_rail : Fin 9) (s : State) : Res := done { s.coldReset with off := true }

/-- SUPPLY_WINDOW_EXIT (R419); during boot the rail is noted and raised at its end. -/
def execSupplyWindowExit (rail : Fin 9) (mv : BitVec 16) (s : State) : Res :=
  if s.off then done s
  else
    let s := { s with rails := tabSet (fun _ => 65536) s.rails rail mv.toNat }
    done (if s.mode = stBOOT then s else s.detect 0x11 scMODULE 0 (rail.val <<< 24 + mv.toNat))

/-- SUPPLY_WINDOW_RETURN (R419): with the last rail the condition ends. -/
def execSupplyWindowReturn (rail : Fin 9) (s : State) : Res :=
  let s := { s with rails := s.rails.filter fun e => decide (e.1 ≠ rail) }
  done (if s.rails = [] then s.condEnd 0x11 scMODULE 0 else s)

/-! ### Reset triggers (R403) -/

/-- PERST_N_ASSERT. -/
def execPerstNAssert (s : State) : Res := done (s.moduleReset 2)

/-- LOCKSTEP_MISMATCH: while the Slate pair runs. [DEDUCED, log entry 53] -/
def execLockstepMismatch (s : State) : Res :=
  if s.inReset ∨ s.getF 0 GLB_BOOT_STATUS.PHASE < 5 then done s else done (s.moduleReset 3)

/-- GLB_RESET_MODULE. -/
def execGlbResetModule (w : Word) (spb : Bool) (s : State) : Res := done (s.glbReset w spb)

/-- GLB_RESET_TILE. -/
def execGlbResetTile (w : Word) (spb : Bool) (s : State) : Res := done (s.glbReset w spb)

/-- TILE_RESET_END (R434). -/
def execTileResetEnd (t : Fin 8) (s : State) : Res :=
  if s.isSet (tileBase t) TIL_STATUS.RESET then done (s.tileResetOver t) else done s

/-! ### Boot (R384 to R386) -/

/-- JTAG instructions that hold the module in reset (R409). -/
def holdIrs : List Nat := [0x04, 0x05, 0x06, 0x08, 0x09]

/-- BOOT_START (R384). [DESIGN CHOICE, log entry 56] -/
def execBootStart (s : State) : Res :=
  if s.inReset ∧ ¬ s.off ∧ ¬ s.unlocked ∧ s.tapIr ∉ holdIrs then done { s with inReset := false } else done s

/-- The phase after p starts. -/
def State.nextPhase (s : State) : State := s.setF 0 GLB_BOOT_STATUS.PHASE (s.getF 0 GLB_BOOT_STATUS.PHASE + 1)

/-- BOOT_PHASE_COMPLETE (R385, R386). [DESIGN CHOICE, log entry 56] [DEDUCED, log entry 48] -/
def execBootPhaseComplete (inp : BootIn) (s : State) : Res :=
  let ph := s.getF 0 GLB_BOOT_STATUS.PHASE
  let go (s : State) : State := if s.isSet 0 GLB_BOOT_STATUS.HALT then s else s.nextPhase
  if s.inReset ∨ s.mode ≠ stBOOT ∨ s.isSet 0 GLB_BOOT_STATUS.HALT ∨ (3 ≤ ph ∧ ¬ s.clocked) then done s
  else if ph = 2 then
    if ¬ inp.inBand then done (s.setF 0 GLB_STATUS.REF_INT 1)
    else
      let s := { s.setFs 0 [(GLB_STATUS.REF_INT, 0), (GLB_STATUS.ROOT_LOCK, 1)] with tb := 0, div := 0 }
      done (go ((List.range 4).foldl (fun s p => s.modPort p fun q => { q with released := true }) s))
  else if ph = 4 then
    match inp.flash with
    | none => done (s.bootHalt 1)
    | some f =>
      let s := s.discover f
      if f.dlog2.val < 24 then done (s.bootHalt 2)
      else if s.dirNow = none then done (s.bootHalt 3)
      else done (go (match s.bbNewest with | some (_, n) => s.setF 0 FLT_BB_SEQ.SEQ n | none => s))
  else if ph = 5 then done (go ((s.loadFw 0 3 4 inp.auth).wr GLB_DWIN_STAGE.SIZE.off inp.stage))
  else if ph = 6 then done (go (s.loadFw 1 4 5 inp.auth))
  else if ph = 7 then done (go (s.loadMicro inp.auth inp.patch inp.readback))
  else if ph = 8 then done (go ((s.calRestore inp.sramGood).bbFlush))
  else if ph = 9 then done (go (s.lockLines inp.unlocked))
  else if ph = 10 then done (((inp.checks.filter fun e => decide (1000000 < e.2.1.natAbs ∨ 1000000 < e.2.2.1.natAbs)).foldl (fun s e => s.detectFe 0x0D e.1 e.2.2.2.toNat) s).bootDone)
  else done (go s)

/-! ### SERVICE (R22, R23) -/

/-- SVC_REQ. -/
def execSvcReq (black : Bool) (s : State) : Res := if s.writeOk GLB_CTRL.SVC_REQ.off then done (s.glbCtrl true false black) else done s

/-- SERVICE_ENTRY. [DEDUCED, log entry 53] -/
def execServiceEntry (s : State) : Res :=
  if s.svcEntry ∧ s.mode = stREADY ∧ ¬ s.calUnderWay then done { s.setMode stSERVICE with svcEntry := false } else done s

/-- SVC_EXIT. [DEDUCED, log entry 53] -/
def execSvcExit (s : State) : Res := if s.writeOk GLB_CTRL.SVC_REQ.off then done (s.glbCtrl false true false) else done s

/-- SERVICE_EXIT_EFFECT. -/
def execServiceExitEffect (s : State) : Res :=
  if s.svcExit ∧ s.mode = stSERVICE ∧ ¬ s.serviceHeld then done { s.setMode stREADY with svcExit := false } else done s

/-! ### REFCLK (R16, R17) -/

/-- REFCLK_LOSS (R16, R386): no fault before the root PLL has locked once. -/
def execRefclkLoss (periods : BitVec 16) (pll : Bool) (s : State) : Res :=
  let n := periods.toNat
  if s.inReset ∨ ¬ (n < 990 ∨ 1010 < n ∨ pll) then done s
  else if s.clocked then done (s.clocksStop n)
  else done (s.setF 0 GLB_STATUS.REF_INT 1)

/-- REFCLK_RECOVERY (R17). -/
def execRefclkRecovery (s : State) : Res :=
  if s.inReset ∨ s.clocked ∨ s.getF 0 GLB_BOOT_STATUS.PHASE ≤ 2 then done s
  else
    let s := s.setFs 0 [(GLB_STATUS.ROOT_LOCK, 1), (GLB_STATUS.REF_INT, 0), (SPA_STATUS.INTOSC, 0), (SPA_STATUS.MODE, s.spaMode)]
    done ({ s with tb := 0, div := 0 }.condEnd 0x10 scMODULE 0)

/-! ### JTAG (R408 to R410) -/

/-- An instruction is loaded; those of holdIrs hold the module in reset with CAUSE 6. -/
def State.jtag (s : State) (code : Nat) : State :=
  if s.off then s
  else
    let s := { s with tapIr := code }
    if code ∈ holdIrs then s.moduleReset 6 else s

/-- JTAG_TAP_RESET (R408): IDCODE is selected. -/
def execJtagTapReset (s : State) : Res := done (s.jtag 0x01)

/-- BYPASS (R409). -/
def execBypass (s : State) : Res := done (s.jtag 0xFF)

/-- IDCODE (R409). -/
def execIdcode (s : State) : Res := done (s.jtag 0x01)

/-- SAMPLE_PRELOAD (R409). -/
def execSamplePreload (s : State) : Res := done (s.jtag 0x02)

/-- EXTEST (R409). -/
def execExtest (s : State) : Res := done (s.jtag 0x04)

/-- CLAMP (R409). -/
def execClamp (s : State) : Res := done (s.jtag 0x05)

/-- HIGHZ (R409). -/
def execHighz (s : State) : Res := done (s.jtag 0x06)

/-- EXTEST_PULSE (R409). -/
def execExtestPulse (s : State) : Res := done (s.jtag 0x08)

/-- EXTEST_TRAIN (R409). -/
def execExtestTrain (s : State) : Res := done (s.jtag 0x09)

/-- DW_UNLOCK (R410): accepted, the module stays in reset until power-on; failed, no further response is taken until then. [DEDUCED, log entry 53] -/
def execDwUnlock (accept : Bool) (s : State) : Res :=
  if s.off ∨ s.unlocked ∨ s.dwFailed then done s
  else if accept then done { s.moduleReset 6 with unlocked := true, inReset := true }
  else done { s with dwFailed := true }

/-! ### SPA (R391 to R395) -/

/-- PATCH_AUTH is in force. [DEDUCED, log entry 52] -/
def State.patchAuth (s : State) : Bool := (s.inst (instKey 0x12 scMODULE 0)).force

/-- The state accepts a PROGRAM or ERASE in region r (R394). -/
def State.flashAllowed (s : State) (r : Nat) : Bool :=
  let service := s.serviceOpen
  let safe := decide (s.mode = stSAFE)
  let halt := s.isSet 0 GLB_BOOT_STATUS.HALT
  if r = 8 then service
  else if r = 9 then service || safe || halt
  else service || (safe && s.patchAuth) || halt

/-- RESULT with which a START ends at once; none where the operation starts (R394, R413). [DEDUCED, log entry 54] -/
def State.spaRefuse (s : State) (o : SpaOp) : Option Nat :=
  let r := regionOf o.addr
  let top := 2 ^ s.getF 0 SPA_STATUS.DLOG2
  if 4 < o.op then some 3
  else if o.op = 1 ∧ 256 < o.addr % 256 + o.len then some 3
  else if o.op = 2 ∧ o.addr % 4096 ≠ 0 then some 3
  else if s.getF 0 GLB_BOOT_STATUS.PHASE < 4 then some 1
  else if 3 ≤ o.op then none
  else if top < o.addr + (if o.op = 2 then 4096 else o.len) then some 2
  else if o.op ≠ 2 ∧ regionOf (o.addr + o.len - 1) ≠ r then some 2
  else if o.op = 0 then none
  else if r = 1 then some 2
  else if s.flashAllowed r then none else some 1

/-- A write of SPA_CMD (R394): while BUSY a START is discarded. -/
def State.spaCmd (s : State) (w : Word) : State :=
  let s := s.setFs 0 [(SPA_CMD.LENM1, SPA_CMD.LENM1.get w), (SPA_CMD.OP, SPA_CMD.OP.get w)]
  if SPA_CMD.START.get w = 0 then s
  else if s.isSet 0 SPA_STATUS.BUSY then s.setF 0 SPA_STATUS.CMDIGN 1
  else
    let n := SPA_CMD.LENM1.get w + 1
    let buf := (List.range 64).flatMap fun i => leBytes 4 (s.getF (4 * i) SPA_BUF.DATA)
    let o : SpaOp := { op := SPA_CMD.OP.get w, addr := s.getF 0 SPA_ADDR.ADDR, len := n, data := buf.take n }
    match s.spaRefuse o with
    | some r => s.setF 0 SPA_CMD.RESULT r
    | none => { s.setF 0 SPA_STATUS.BUSY 1 with spa := some o }

/-- A START with a given OP. [DEDUCED, log entry 54] -/
def State.spaStart (s : State) (op : Nat) (w : Word) : State :=
  if s.writeOk SPA_CMD.START.off then s.spaCmd (SPA_CMD.OP.put (SPA_CMD.START.put w 1) op) else s

/-- SPA_READ. -/
def execSpaRead (w : Word) (s : State) : Res := done (s.spaStart 0 w)

/-- SPA_PROGRAM. -/
def execSpaProgram (w : Word) (s : State) : Res := done (s.spaStart 1 w)

/-- SPA_ERASE. -/
def execSpaErase (w : Word) (s : State) : Res := done (s.spaStart 2 w)

/-- SPA_SFDP. -/
def execSpaSfdp (w : Word) (s : State) : Res := done (s.spaStart 3 w)

/-- SPA_READ_STATUS (R413). -/
def execSpaReadStatus (w : Word) (s : State) : Res := done (s.spaStart 4 w)

/-- Bytes put into SPA_BUF from byte 0 on. [DEDUCED, log entry 54] -/
def State.spaFill (s : State) (bs : List Byte) : State :=
  (bs.zipIdx).foldl (fun s e =>
    s.setF (4 * (e.2 / 4)) ⟨SPA_BUF.DATA.off, 8 * (e.2 % 4) + 7, 8 * (e.2 % 4)⟩ e.1.toNat) s

/-- n free bytes. -/
def State.drawBytes (s : State) : Nat → List Byte × State
  | 0 => ([], s)
  | n + 1 => let r := s.draw 8; let t := State.drawBytes r.2 n; (BitVec.ofNat 8 r.1 :: t.1, t.2)

/-- SPA_OP_COMPLETE (R392, R394): a PROGRAM or ERASE that fails leaves the bytes it touched free. [DEDUCED, log entry 54] -/
def execSpaOpComplete (err late : Bool) (data : List Byte) (s : State) : Res :=
  match s.spa with
  | none => done s
  | some o =>
    let s := { s.setF 0 SPA_STATUS.BUSY 0 with spa := none }
    let s := s.setF 0 SPA_CMD.RESULT (if err then 4 else if late then 5 else 0)
    if err ∨ late then
      if o.op = 1 ∨ o.op = 2 then
        let r := s.drawBytes (if o.op = 2 then 4096 else o.len)
        done (r.2.flashPut o.addr r.1)
      else done s
    else if o.op = 0 then done (s.spaFill (s.flashRead o.addr o.len))
    else if o.op = 1 then done (s.flashProg o.addr o.data)
    else if o.op = 2 then done (s.flashErase o.addr 4096)
    else if o.op = 3 then done (s.spaFill ((List.range o.len).map fun i => data.getD i 0))
    else done (s.setF 0 SPA_BUF.DATA (data.headD 0).toNat)

/-- XIP_READ (R393): a read above the density sets RANGE. -/
def execXipRead (a : BitVec 26) (s : State) : Res :=
  if s.getF 0 GLB_BOOT_STATUS.PHASE < 5 ∨ s.inReset ∨ a.toNat < 2 ^ s.getF 0 SPA_STATUS.DLOG2 then done s
  else done (s.setF 0 SPA_STATUS.RANGE 1)

end Sys2Proof.Machine
end

