-- ==== Sys2Proof/Machine/Comparators.lean ====
section
/-! DEFINITION. Meanings of the comparator events (chapter 4). -/

namespace Sys2Proof.Machine

/-- 1 for the high comparator, 0 for the low one. -/
def side (high : Bool) : Nat := b2n high

/-- COMP_RAW_TRANSITION (R82 to R87): the pin, or its pair partner, has moved; the raw output follows by the threshold and the hysteresis. -/
def execCompRawTransition (u : Fin 1056) (high : Bool) (pins : Int × Int) (q : Fin 200) (dead : Bool) (s : State) : Res :=
  done (s.cmpRaw u (side high) (s.cmpLevel u (side high) pins.1 pins.2) q dead)

/-- COMP_VALID (R89): VALID is set once N samples have entered the history; the gate opens (R86). -/
def execCompValid (u : Fin 1056) (high : Bool) (samples : List Bool) (s : State) : Res :=
  if s.clocked then done (samples.foldl (fun s x => s.cmpSample u (side high) x) s) else done s

/-- COMP_LATCH_SET (R90, R91): the latch is set and a transition into the outside condition is offered. -/
def execCompLatchSet (u : Fin 1056) (high : Bool) (samples : List Bool) (s : State) : Res :=
  if s.clocked then done (samples.foldl (fun s x => s.cmpSample u (side high) x) s) else done s

/-- COMP_FILTER_RETURN (R88, R87): the filtered output leaves its outside condition, and with the raw output so does the
condition of a trip. -/
def execCompFilterReturn (u : Fin 1056) (high : Bool) (samples : List Bool) (s : State) : Res :=
  if s.clocked then done (samples.foldl (fun s x => s.cmpSample u (side high) x) s) else done s

end Sys2Proof.Machine
end

