-- ==== Sys2Proof/Machine/Converters.lean ====
section
/-! DEFINITION. The way of a result to its destinations (R61, R66, R72 to R77), the drain of the result queue (R76), and the meanings
of the converter's commands and events (chapter 3). -/

namespace Sys2Proof.Machine

/-! ### Result entries and their destinations -/

/-- The result entry (R72) of a result of unit c. [DESIGN CHOICE, log entry 60] -/
def Result.entry (r : Result) (c : Nat) : Nat :=
  let k := r.conv
  r.value + (match k.inj with | some i => i.tag | none => k.entry) <<< 18 + b2n k.inj.isSome <<< 22 + b2n (decide (1024 ≤ k.exec)) <<< 23 +
    c <<< 24 + b2n r.ovr <<< 35 + b2n k.clamp <<< 36 + b2n k.seqst <<< 37 + k.pass <<< 38 + k.uclass <<< 44 + k.gen <<< 48

/-- How many entries tile t's result queue holds (R187). -/
def State.rqSize (s : State) (t : Nat) : Nat := s.getF (tileBase t) TIL_CAP_PART.RQSZ * 8192

/-- An entry arrives at tile t's result queue (R77): kept with the watermark, or dropped and counted. -/
def State.rqPush (s : State) (t w : Nat) : State :=
  let b := tileBase t
  let n := s.getF b TIL_RQ_LEVEL.COUNT
  let size := s.rqSize t
  if size ≤ n then (s.incSat b TIL_RQ_DROP.COUNT 1).setF b TIL_RQ_STATUS.OVF 1
  else
    let s := s.sramSet (capBase t + 8 * (((s.tile t).rqOut + n) % size)) 8 w
    let s := s.setF b TIL_RQ_LEVEL.COUNT (n + 1)
    let m := s.getF b TIL_RQ_CTRL.WMARK
    if m ≠ 0 ∧ m * 256 ≤ n + 1 then s.setF b TIL_RQ_STATUS.WM 1 else s

/-- The sample that a result of unit c is to Sepia; TC is the hold edge. -/
def State.resultSample (s : State) (c : Nat) (r : Result) : Sample :=
  let k := r.conv
  { kind := 1, unit := localUnit c, x := r.value, sel := (match k.inj with | some i => i.tag | none => k.entry), inj := k.inj.isSome,
    flagged := r.ovr || k.seqst || k.clamp, gen := k.gen, uclass := k.uclass, tc := 200 * k.hold + s.getF 0 GLB_SYNC_STATUS.EPH }

/-- The limit check of a regular result with LIMEN (R75). -/
def State.limitCheck (s : State) (c : Nat) (r : Result) : State :=
  let k := r.conv
  if ¬ k.limen ∨ k.inj.isSome then s
  else
    let b := feB c
    let x := r.value / 4
    let inside := decide (s.getF b CHN_ADC_LIM.LO ≤ x ∧ x ≤ s.getF b CHN_ADC_LIM.HI)
    let was := (s.adc c).inside
    let s := s.modAdc c fun a => { a with inside := inside }
    if was && !inside then
      (s.setF b CHN_ADC_STATUS.LIM 1).offer (tileOf c) 2 (localUnit c) 0 (200 * k.hold + s.getF 0 GLB_SYNC_STATUS.EPH) false
    else s

/-- The sweep that owns an injected conversion of channel c goes on: at the boundary of the last of a point's conversions the next
point takes effect; the last point's end the sweep only when their results are delivered (R35). [DEDUCED, log entry 59] -/
def State.sweepBoundary (s : State) (r : CmdRef) (c : Nat) : State :=
  match s.running? r opSWEEP with
  | none => s
  | some k =>
    if k.pf 0x1C 15 0 + 1 ≤ k.acc then s
    else
      let s := s.modCmd r fun k => { k with busy := k.busy.erase c }
      if k.busy.erase c ≠ [] then s
      else
        match k.stopAsked with
        | some e => s.stopCmd r { e with result := k.acc }
        | none =>
          let code := unsigned 20 ((k.pf 0x14 19 0 : Int) + k.acc * signed 21 (k.pf 0x18 20 0))
          let s := k.chans.foldl (fun s x => (s.yieldRotation x).setTarget (s.phys x) code) s
          s.modCmd r fun k => { k with acc := k.acc + 1, prog := 0 }

/-- The command that owns an injected conversion has its result (R35, R248); a sweep awaits those of its last point alone. -/
def State.ownerDone (s : State) (r : CmdRef) (c w point : Nat) : State :=
  match s.cmd? r with
  | none => s
  | some k =>
    if k.op = opSWEEP then (if k.acc < k.pf 0x1C 15 0 + 1 ∨ point < k.acc then s else s.unbusyBy (fun x => Cmd.isRef r x) c)
    else
      let s := if bitB (k.p 0x14) 8 then s.modCmd r fun k => { k with acc := w } else s
      s.unbusyBy (fun x => Cmd.isRef r x) c

/-- A corrected result of unit c reaches its destinations (R66, R72 to R77, R195). -/
def State.deliver (s : State) (c : Nat) (r : Result) : State :=
  let k := r.conv
  let t := tileOf c
  let b := feB c
  let w := r.entry c
  let own := (k.inj.bind fun i => i.owner.map fun o => (o, i.point))
  let finish (s : State) : State := match own with | some o => s.ownerDone o.1 c w o.2 | none => s
  if (k.inj.map fun i => i.internal) = some true then finish s
  else
    let m := s.resultSample c r
    let named := s.sepiaNames t (localUnit c)
    let toSepia := if k.inj.isSome then s.sepiaWants t m else decide (k.dest = 2) || (decide (k.dest = 1) && named)
    let toQueue := k.inj.isSome || decide (k.dest = 0 ∨ k.dest = 2) || (decide (k.dest = 1) && !named)
    let full := decide (s.rqSize t ≤ s.getF (tileBase t) TIL_RQ_LEVEL.COUNT)
    let s := if toQueue then s.rqPush t w else s
    let s := if toQueue && !full then s.setF b CHN_ADC_LAST_RES.RES w else s
    let s := if toSepia then s.sepiaEnter t m else s
    let s := (s.capture t (localUnit c) r).limitCheck c r
    let rdy := if k.inj.isSome then s.isSet b CHN_ADC_CTRL.INJ_EVT else k.evt || k.last
    finish (if rdy then s.setRdy c else s)

/-! ### Events -/

/-- ADC_SAMPLE_END (R58, R61): the input is held; the committed generation and its tables are taken. -/
def execAdcSampleEnd (u : Fin 1056) (s : State) : Res :=
  match (s.adc u).conv with
  | none => done s
  | some k =>
    if k.converting then done s
    else
      let scale := (scaleOf k.src k.mode k.span k.range).getD 4
      let k := { k with converting := true, gen := s.gen, hold := s.tb, corr := s.adcCorr k.exec scale k.gain, uclass := s.uclass k.exec scale }
      done (s.modAdc u fun a => { a with conv := some k })

/-- The result of a conversion (R61): corrected, clipped to 18 bits with OVR; its class is that of this moment, or of the sample's end where a commit
has replaced its generation since. [DESIGN CHOICE, log entry 4] [DEDUCED, log entry 64] -/
def State.convResult (s : State) (k : Conv) (raw : Nat) : Result :=
  let scale := (scaleOf k.src k.mode k.span k.range).getD 4
  let x := Config.adcCorrect k.corr scale k.gain raw
  let v := if x < 0 then 0 else if 0x3FFFF < x then 0x3FFFF else x.toNat
  { conv := if k.gen = s.gen then { k with uclass := s.uclass k.exec scale } else k, value := v, ovr := decide (x < 0 ∨ 0x3FFFF < x) }

/-- ADC_ENTRY_BOUNDARY (R58, R61 to R64, R68): the result leaves, a stop or restart takes effect, the next conversion starts; a stop that pends is
stronger than a start written after it. [DESIGN CHOICE, log entry 72] -/
def execAdcEntryBoundary (u : Fin 1056) (raw : BitVec 18) (s : State) : Res :=
  let a := s.adc u
  match a.conv with
  | none => done s
  | some k =>
    if ¬ k.converting then done s
    else
      let r := s.convResult k raw.toNat
      let s := s.modAdc u fun a => { a with conv := none, results := a.results ++ [r] }
      let s := if a.stopPend then s.adcEnd u
        else if a.restart then
          (s.modAdc u fun a => { a with restart := false, cur := 0, pass := 0, inside := true }).adcShow u
        else if k.inj.isNone then s.adcAdvance u
        else s
      let s := s.adcNext u k.inj.isSome
      done (match k.inj.bind fun i => i.owner with | some o => s.sweepBoundary o u | none => s)

/-- ADC_RESULT_ENQUEUE (R66, R72 to R77); the results due at one ACLK edge are sent in ascending UNIT order (R73). [DEDUCED, log entries 59 and 64] [DEDUCED, log entry 59] [DEDUCED, log entry 64] -/
def execAdcResultEnqueue (u : Fin 1056) (s : State) : Res :=
  match (s.adc u).results with
  | [] => done s
  | r :: rs => done ((s.modAdc u fun a => { a with results := rs }).deliver u r)

/-! ### The drain (R76) -/

/-- The host-ring size in entries; LOG2 outside 10 to 20 counts as 10 (R81). -/
def State.rqRing (s : State) (t : Nat) : Nat :=
  let l := s.getF (tileBase t) TIL_RQ_HSIZE.LOG2
  2 ^ (if 10 ≤ l ∧ l ≤ 20 then l else 10)

/-- One burst of tile t: up to 32 entries while the ring has room, then the producer word; a drain that is to stop, stops when the
queue is empty (R76, R78). [DEDUCED, log entry 59] -/
def State.rqBurst (s : State) (t : Nat) : State :=
  let b := tileBase t
  let ring := s.rqRing t
  let prod := s.getF b TIL_RQ_HPROD.COUNT
  let lvl := s.getF b TIL_RQ_LEVEL.COUNT
  let n := min (min 32 lvl) (ring - sub32 prod (s.getF b TIL_RQ_HCONS.COUNT))
  if ¬ s.isSet b TIL_RQ_CTRL.EN ∨ ¬ s.hostLink ∨ n = 0 then s
  else
    let base := s.getF b TIL_RQ_HBASE_LO.ADDR * 4096 + s.getF b TIL_RQ_HBASE_HI.ADDR * 2 ^ 32
    let out := (s.tile t).rqOut
    let s := (List.range n).foldl (fun s i =>
      s.hostSet (base + 8 * ((prod + i) % ring)) 8 (s.sramN (capBase t + 8 * ((out + i) % atLeast1 (s.rqSize t))) 8)) s
    let s := (s.modTile t fun x => { x with rqOut := (out + n) % atLeast1 (s.rqSize t) }).setFs b
      [(TIL_RQ_LEVEL.COUNT, lvl - n), (TIL_RQ_HPROD.COUNT, prod + n)]
    let s := s.hostSet (base + 8 * ring) 4 (s.getF b TIL_RQ_HPROD.COUNT)
    if (s.tile t).rqStop ∧ lvl = n then (s.setF b TIL_RQ_CTRL.EN 0).modTile t fun x => { x with rqStop := false } else s

/-- RQ_DRAIN_BURST (R76). -/
def execRqDrainBurst (t : Fin 8) (s : State) : Res := done (s.rqBurst t)

/-- RQ_PARTIAL_FLUSH (R76): fewer than 32 entries, no later than 2 µs after the first. -/
def execRqPartialFlush (t : Fin 8) (s : State) : Res :=
  if s.getF (tileBase t) TIL_RQ_LEVEL.COUNT < 32 then done (s.rqBurst t) else done s

/-! ### CH_MEASURE -/

/-- CH_MEASURE_START (R64, R248): completes once every named sequence has started its first entry. -/
def execChMeasureStart (cmd : CmdRef) (s : State) : Res :=
  match s.ready? cmd opMEASURE with
  | none => done s
  | some c =>
    if c.pf 0x14 1 0 ≠ 0 then done s
    else
      let s := c.chans.foldl State.adcStart s
      done (s.startCmd cmd (c.chans.filter fun k => !s.adcBegun k) 0)

/-- CH_MEASURE_STOP (R64, R248): completes once every named sequence has ended. -/
def execChMeasureStop (cmd : CmdRef) (s : State) : Res :=
  match s.ready? cmd opMEASURE with
  | none => done s
  | some c =>
    if c.pf 0x14 1 0 ≠ 1 then done s
    else
      let s := c.chans.foldl State.adcStop s
      done (s.startCmd cmd (c.chans.filter fun k => (s.adc k).running) 0)

/-- CH_MEASURE_INJECT (R67, R69, R248): one request on every named channel, held where there is no place. -/
def execChMeasureInject (cmd : CmdRef) (s : State) : Res :=
  match s.ready? cmd opMEASURE with
  | none => done s
  | some c =>
    if c.pf 0x14 1 0 ≠ 2 then done s
    else
      let i := { injOf (BitVec.ofNat 32 (c.p 0x18)) with owner := some cmd, internal := bitB (c.p 0x14) 8 }
      let s := s.startCmd cmd c.chans 0
      done (c.chans.foldl (fun s k => s.adcInjectHeld k i) s)

end Sys2Proof.Machine
end

