-- ==== Sys2Proof/Machine/Events.lean ====
section
/-! DEFINITION. Meanings of event delivery (chapter 14). -/

namespace Sys2Proof.Machine

/-- SOURCE_ACTIVATE (R345). -/
def execSourceActivate (src : Fin 4096) (s : State) : Res :=
  if s.clocked ∧ s.srcState src = srcIDLE ∧ s.isSet (4 * src) IRQ_SMAP.EN ∧ s.lvl src then done (s.activate src false) else done s

/-- VECTOR_TIMER (R347). -/
def execVectorTimer (v : Fin 512) (s : State) : Res :=
  if (s.vec v).cnt = 0 then done s else done (s.modVec v fun x => { x with ripe := true })

/-- EVENT_DELIVERY (R348 to R350). -/
def execEventDelivery (s : State) : Res := if s.clocked then done s.deliverNext else done s

/-- SLATE_END_OF_SERVICE (R349). -/
def execSlateEndOfService (src : Fin 4096) (s : State) : Res :=
  if s.clocked ∧ (s.src src).slate ∧ 2 ≤ s.srcState src then done (s.endService src) else done s

end Sys2Proof.Machine
end

