-- ==== Sys2Proof/Machine/FrontEnd.lean ====
section
/-! DEFINITION. Meanings of the front-end's commands and events (chapter 2). -/

namespace Sys2Proof.Machine

/-! ### Commands -/

/-- CH_CONFIG (R30, R41, R42): applied to every named channel; complete once the sequences it began have ended. -/
def execChConfig (cmd : CmdRef) (s : State) : Res :=
  match s.ready? cmd opCONFIG with
  | none => done s
  | some c =>
    let s := c.chans.foldl (fun s k => s.configChannel c k) s
    done (s.startCmd cmd (s.inSequence c.chans) 0)

/-- CH_FORCE (R35, R40, R249). -/
def execChForce (cmd : CmdRef) (s : State) : Res :=
  match s.ready? cmd opFORCE with
  | none => done s
  | some c =>
    let s := c.chans.foldl (fun s k => s.forceChannel c k) s
    done (s.startCmd cmd (s.inSequence c.chans) 0)

/-- Point i of a sweep (R35). -/
def Cmd.sweepPoint (c : Cmd) (i : Nat) : Nat := unsigned 20 ((c.pf 0x14 19 0 : Int) + i * signed 21 (c.pf 0x18 20 0))

/-- Applies the next point of sweep c to its channels and counts it. -/
def State.sweepApply (s : State) (r : CmdRef) (c : Cmd) : State :=
  let s := c.chans.foldl (fun s k => (s.yieldRotation k).setTarget (s.phys k) (c.sweepPoint c.acc)) s
  s.modCmd r fun c => { c with acc := c.acc + 1, prog := 0 }

/-- CH_SWEEP (R35): the first point takes effect; it is not over before its dwell. -/
def execChSweep (cmd : CmdRef) (s : State) : Res :=
  match s.ready? cmd opSWEEP with
  | none => done s
  | some c => done ((s.modCmd cmd fun c => { c with started := true }).sweepApply cmd c)

/-- SWEEP_DWELL_END (R35): the measurement is injected on every channel, or the next point applied, or the sweep ends. -/
def execSweepDwellEnd (cmd : CmdRef) (s : State) : Res :=
  match s.running? cmd opSWEEP with
  | none => done s
  | some c =>
    if c.prog ≠ 0 then done s
    else match c.stopAsked with
    | some e => done (s.stopCmd cmd { e with result := c.acc })
    | none =>
      if bitB (c.p 0x24) 0 then
        let i := { injOf (BitVec.ofNat 32 (c.p 0x28)) with owner := some cmd, point := c.acc }
        let s := s.modCmd cmd fun c => { c with prog := 1, busy := c.chans }
        done (c.chans.foldl (fun s k => s.adcInjectHeld k i) s)
      else if c.acc < c.pf 0x1C 15 0 + 1 then done (s.sweepApply cmd c)
      else done (s.endOk cmd)

/-- CH_SINE (R51): the settings of every named channel; a range error completes with INVALID, a start that is not possible with
REFUSED_STATE. -/
def execChSine (cmd : CmdRef) (s : State) : Res :=
  match s.ready? cmd opSINE with
  | none => done s
  | some c =>
    let r := c.chans.foldl (fun (a : State × List SineStop) k => let x := a.1.sineChannel c k; (x.1, a.2 ++ [x.2])) (s, [])
    let s := r.1
    if SineStop.state ∈ r.2 then done (s.endCmd cmd { status := scSTATE, detail := 0x02 })
    else if SineStop.epoch ∈ r.2 then
      done (s.endCmd cmd { status := scSTATE, detail := if s.epochValid then 0x0F else 0x05 })
    else if SineStop.range ∈ r.2 then done (s.endCmd cmd { status := scINVALID, detail := 0xFF })
    else done (s.startCmd cmd [] 0)

/-- CH_CONTACT (R47, R48): the settings are taken and the even channels enabled. -/
def execChContact (cmd : CmdRef) (s : State) : Res :=
  match s.ready? cmd opCONTACT with
  | none => done s
  | some c =>
    let s := c.chans.foldl (fun s k => s.contactBegin c k) s
    let s := (c.chans.filter fun k => k % 2 = 0).foldl (fun s k => s.beginEnable (s.phys k)) s
    done (s.modCmd cmd fun c => { c with started := true, prog := 1, busy := c.chans.map s.phys })

/-- CH_RELEASE (R45): outputs that are on are disabled first; a channel already off is released at once. -/
def execChRelease (cmd : CmdRef) (s : State) : Res :=
  match s.ready? cmd opRELEASE with
  | none => done s
  | some c =>
    if c.chans.any fun k => s.seqStep (s.phys k) != 0 then done s
    else
      let s := c.chans.foldl (fun s k => s.yieldRotation k) s
      let on := c.chans.filter fun k => s.feOn (s.phys k)
      let s := on.foldl (fun s k => s.beginStep1 (s.phys k) .disable) s
      let s := (c.chans.filter fun k => k ∉ on).foldl State.releaseRest s
      done (s.startCmd cmd (on.map s.phys) 0)

/-! ### Sequences, clamps, limit, monitor -/

/-- SAFE_VALUE_STEP (R40 to R43). -/
def execSafeValueStep (u : Fin 1056) (far : Bool) (s : State) : Res :=
  done (((s.markConv u false (s.seqStep u != 0)).endStep u far).seqEnded u)

/-- CLAMP_ACTION (R36, R37): CLAMP follows, CLAMPED is kept. -/
def execClampAction (u : Fin 1056) (limits : Bool) (s : State) : Res :=
  if ¬ s.feOn u then done s
  else if limits then done ((s.setFs (feB u) [(CHN_FE_STATUS.CLAMP, 1), (CHN_FE_STATUS.CLAMPED, 1)]).markConv u true false)
  else done (s.setF (feB u) CHN_FE_STATUS.CLAMP 0)

/-- SHORT_CIRCUIT_LIMIT (R38): OVERCURRENT with IRANGE as its record's DETAIL. -/
def execShortCircuitLimit (u : Fin 1056) (s : State) : Res :=
  if ¬ s.feOn u then done s
  else
    let s := (s.setFs (feB u) [(CHN_FE_STATUS.SCL_LIVE, 1), (CHN_FE_STATUS.SCL, 1)]).markConv u true false
    done (s.detectFe 0x01 u (s.getF (feB u) CHN_FE_CFG.IRANGE))

/-- SHORT_CIRCUIT_RELEASE (R38): the condition of OVERCURRENT ends. -/
def execShortCircuitRelease (u : Fin 1056) (s : State) : Res :=
  let f := s.faultUnit u
  done ((s.setF (feB u) CHN_FE_STATUS.SCL_LIVE 0).condEnd 0x01 f.1 f.2)

/-- The Kelvin monitor is active: enabled in FV or FI with remote sense (R46). -/
def State.kelvinActive (s : State) (u : Nat) : Bool :=
  s.feOn u && forces (s.fe u).mode && s.isSet (feB u) CHN_FE_CFG.KMON_EN && !s.isSet (feB u) CHN_FE_CFG.LSENSE

/-- A mismatch of mv that has lasted dur TCLK is one the monitor of u acts on: beyond THRESH × 10 mV, for longer than FILT × 0.5 µs (R46). -/
def State.kelvinActs (s : State) (u : Nat) (mv : Int) (dur : Nat) : Bool :=
  decide (10 * atLeast1 (s.getF (feB u) CHN_KMON.THRESH) < mv.natAbs ∧ 640 * atLeast1 (s.getF (feB u) CHN_KMON.FILT) < dur)

/-- KELVIN_MONITOR_TRIP (R46): local-sense fallback and CONTACT_OPEN with the signed mismatch. -/
def execKelvinMonitorTrip (u : Fin 1056) (seen : Int × Nat) (s : State) : Res :=
  if ¬ s.kelvinActive u ∨ ¬ s.kelvinActs u seen.1 seen.2 then done s
  else
    let s := (s.setFs (feB u) [(CHN_FE_STATUS.LSENSE_FB, 1), (CHN_FE_STATUS.KMON_TRIP, 1)]).modFe u fun f => { f with mismatch := true }
    done (s.detectFe 0x03 u (unsigned 16 seen.1))

/-- KELVIN_MISMATCH_END (R46): the condition of CONTACT_OPEN ends. -/
def execKelvinMismatchEnd (u : Fin 1056) (s : State) : Res :=
  if ¬ (s.fe u).mismatch then done s
  else
    let f := s.faultUnit u
    done ((s.modFe u fun f => { f with mismatch := false }).condEnd 0x03 f.1 f.2)

/-! ### The contact check -/

/-- Records the measurements of step n on channel c: the phase's own channels local and remote, the others remote. -/
def State.contactMeasure (s : State) (n c : Nat) (v : Int × Int) : State :=
  let own := (decide (n ≤ 4)) == (decide (c % 2 = 0))
  let first := decide (n = 1 ∨ n = 6)
  s.modFe (s.phys c) fun f => match f.contact with
    | none => f
    | some k =>
      let k := if own then (if first then { k with vl1 := v.1, vo1 := v.2 } else { k with vl2 := v.1, vo2 := v.2 })
        else (if first then { k with vx1 := v.2 } else { k with vx2 := v.2 })
      { f with contact := some k }

/-- Target −I_T / 2 for the phase's channels: at once, within the setting (R35). -/
def State.contactHalf (s : State) (c : Nat) : State :=
  s.modFe (s.phys c) fun f => match f.contact with
    | none => f
    | some k => { f with contact := some { k with target := k.half }, code := k.half }

/-- A channel that a refused CH_CONTACT does not check (R47, R49). [DESIGN CHOICE, log entry 61] -/
def State.contactSkip (s : State) (c : Nat) : State := s.setF (feB (s.phys c)) CHN_CONTACT_RES.OUTCOME 7

/-- The result of channel c (R49): its register, its fault, and its outcome; Rfs and Vl1 are rounded down, a Vl1 beyond 12 bits leaves VLOCAL
open, a channel whose check is gone reports NOT_RUN. [DESIGN CHOICE, log entry 61] -/
def State.contactResult (s : State) (c : Nat) : State × Nat :=
  let u := s.phys c
  let b := feB u
  match (s.fe u).contact with
  | none => (s.setF b CHN_CONTACT_RES.OUTCOME 7, 7)
  | some k =>
    let dlp := match (s.fe (s.phys (Nat.xor c 1))).contact with | some p => p.vl1 - p.vl2 | none => 0
    let it := s.itest c
    let out := contactOutcome k dlp it (s.getF b CHN_CONTACT_CFG.RMAX)
    let mv := k.vl1 / 1000
    let fits := decide (-2048 ≤ mv ∧ mv ≤ 2047)
    let r := s.draw 12
    let x := if fits then unsigned 12 mv else r.1
    let s := if fits then s else r.2
    let s := s.setFs b [(CHN_CONTACT_RES.RFS, min 0xFFFF (10 * (k.vl1 - k.vo1).natAbs / it)), (CHN_CONTACT_RES.VLOCAL, x),
      (CHN_CONTACT_RES.VALID, 1), (CHN_CONTACT_RES.OUTCOME, out)]
    (s, out)

/-- The fault an outcome raises (R49, R357). -/
def State.contactFault (s : State) (c out : Nat) : State :=
  let lv (cls : Nat) := s.getF (4 * cls) FLT_CLASS.LEVEL
  if out = 1 ∨ out = 2 then s.detectAt 0x03 scCHANNEL c (2 ^ 31 + out) (lv 0x03) true
  else if out = 3 then s.detectAt 0x04 scCHANNEL c out (lv 0x04) true
  else s

/-- The injected conversions of measuring step n on channel c, kept from the queue: the phase's own channels local and remote, the others
remote (R48). [DESIGN CHOICE, log entry 62] -/
def State.contactInject (s : State) (n c : Nat) : State :=
  let own := (decide (n ≤ 4)) == (decide (c % 2 = 0))
  let req (src : Nat) : Inj := { src := src, gain := 0, samp := 0, tag := 0, internal := true }
  (if own then s.adcInjectHeld c (req 2) else s).adcInjectHeld c (req 1)

/-- CONTACT_PHASE_STEP (R48, R49): steps 1 to 10 at 40, 50, 70, 80, 90, 130, 140, 160, 170 and 180 µs. -/
def execContactPhaseStep (cmd : CmdRef) (volts : List (Int × Int)) (s : State) : Res :=
  match s.running? cmd opCONTACT with
  | none => done s
  | some c =>
    match c.stopAsked with
    | some e => done ((s.stopCmd cmd e).settleContacts)
    | none =>
      let n := c.prog
      let even := c.chans.filter fun k => k % 2 = 0
      let odd := c.chans.filter fun k => k % 2 = 1
      let off (l : List Nat) (s : State) := l.foldl (fun s k => if s.feOn (s.phys k) then s.beginStep1 (s.phys k) .disable else s) s
      let meas (s : State) := (c.chans.zip volts).foldl (fun s e => s.contactMeasure n e.1 e.2) (c.chans.foldl (fun s k => s.contactInject n k) s)
      let s' : State :=
        if n = 1 ∨ n = 3 ∨ n = 6 ∨ n = 8 then meas s
        else if n = 2 then even.foldl State.contactHalf s
        else if n = 4 then off even s
        else if n = 5 then odd.foldl (fun s k => s.beginEnable (s.phys k)) s
        else if n = 7 then odd.foldl State.contactHalf s
        else if n = 9 then off odd s
        else s
      if n < 10 then done (s'.modCmd cmd fun c => { c with prog := c.prog + 1 })
      else
        let r := c.chans.foldl (fun (a : State × List (Nat × Nat)) k => let x := a.1.contactResult k; (x.1, a.2 ++ [(k, x.2)])) (s, [])
        let bad := (r.2.filter fun e => e.2 ≠ 0).length
        let s := r.1.endCmd cmd { status := scOK, result := c.chans.length + bad <<< 16 }
        done (r.2.foldl (fun s e => s.contactFault e.1 e.2) s.settleContacts)

/-! ### Sine generation -/

/-- SINE_UPDATE (R50, R51). -/
def execSineUpdate (u : Fin 1056) (s : State) : Res := done (s.sineTick u)

/-- SINE_EPOCH_START (R52, R186). -/
def execSineEpochStart (u : Fin 1056) (delta : Fin 6400) (s : State) : Res := done (s.sineEpoch u delta)

/-- SINE_ZC_STOP (R52): the update that ends a run with STOP_ZC = 1. -/
def execSineZcStop (u : Fin 1056) (s : State) : Res :=
  if (s.fe u).zcStop then done (s.sineTick u) else done s

end Sys2Proof.Machine
end

