-- ==== Sys2Proof/Machine/Triggers.lean ====
section
/-! DEFINITION. Meanings of the trigger, capture and SYNC events, and of TRIG_ARM and CAPTURE_DUMP (chapter 8); the writes among them
stand in Writes.lean. -/

namespace Sys2Proof.Machine

/-- SYNC_EDGE (R181): the first edge after arming is stamped, edges while SEEN are counted, others ignored. -/
def execSyncEdge (q : Fin 200) (s : State) : Res :=
  if ¬ s.clocked then done s
  else if s.syncArmed then
    let st := stampOf (s.tdcLin 1056 q)
    let s := s.setPair GLB_SYNC_STAMP_LO.STAMP.off st
    let s := if s.isSet 0 GLB_SYNC_STATUS.SEEN then s else (s.setF 0 GLB_SYNC_STATUS.SEEN 1).setF 0 IRQ_LATCH.SYNC 1
    done { s with syncArmed := false }
  else if s.isSet 0 GLB_SYNC_STATUS.SEEN then done (s.incSat 0 GLB_SYNC_STATUS.EXTRA 1)
  else done s

/-- TRIGGER_FIRE (R189, R192). -/
def execTriggerFire (t : Fin 8) (s : State) : Res :=
  if s.getF (tileBase t) TRG_STATUS.STATE = 2 then done (s.trigFire t) else done s

/-- The stamp of an edge on TRIG line n, and its linear time less the line delay (R188, R192, R201). -/
def State.lineStamp (s : State) (n q : Nat) : State × Int :=
  let u := s.tdcLin (1057 + n) q
  (s.setPair (GLB_TRIG_RX_LO.STAMP.off + 8 * n) (stampOf u), u - signed 32 (s.getF (4 * n) GLB_TRIG_DLY.DLY))

/-- FIRE_LINE_EDGE (R192): the edge is stamped, the domain's armed units record a received trigger; under the module's own pulse there is none. -/
def execFireLineEdge (line : Fin 4) (q : Fin 200) (s : State) : Res :=
  let d := line.val / 2 + 1
  if ¬ s.clocked ∨ line.val % 2 = 0 ∨ ¬ s.domLines d ∨ s.pulsing line then done s
  else
    let r := s.lineStamp line q
    done (((List.range 8).filter fun x => r.1.trigDom x = d).foldl (fun s x => s.fireReceive x (stampOf r.2)) r.1)

/-- ARM_LINE_EDGE (R191, R194): a rising edge of a line in use is stamped (R201). -/
def execArmLineEdge (dom : Fin 2) (edge : Bool × Fin 200) (s : State) : Res :=
  let d := dom.val + 1
  let s := { s with armLine := setBit s.armLine d edge.1 }
  if ¬ s.domLines d then done s
  else if edge.1 then done ((if s.clocked then (s.lineStamp (2 * dom.val) edge.2.val).1 else s).domArmed d)
  else done (s.domRelease d)

/-- HOLDOFF_END (R193): the unit re-arms, or is DONE with its capture complete. -/
def execHoldoffEnd (t : Fin 8) (s : State) : Res :=
  let b := tileBase t
  let g := s.trig t
  if s.getF b TRG_STATUS.STATE ≠ 3 ∨ g.cur.isSome ∨ (s.isSet b TRG_CTRL.HMODE ∧ g.hold ≠ 0) then done s
  else if s.nseg t ≤ g.segs.length then
    let held := g.arm
    let s := s.trigEnd t 4 (some { status := scOK })
    done (if held then s.domRelease (s.trigDom t) else s)
  else done (s.setF b TRG_STATUS.STATE 2)

/-- TRIG_ARM_TIMEOUT (R194). -/
def execTrigArmTimeout (t : Fin 8) (s : State) : Res :=
  match (s.trig t).run with
  | none => done s
  | some r =>
    match s.cmd? r with
    | none => done s
    | some c => if c.p 4 = 0 then done s else done (s.trigKill t (some { status := scOK, partialDone := true }) false)

/-- TRIG_LINE_EDGE (R188, R200): stamped, and offered to KIND 5 slots with the line delay taken off. -/
def execTrigLineEdge (line : Fin 4) (rising : Bool) (q : Fin 200) (s : State) : Res :=
  if ¬ s.clocked ∨ s.lineFunc line ≠ 1 then done s
  else
    let r := s.lineStamp line q
    let tc := (r.2 % (linW : Int)).toNat
    done ((List.range 8).foldl (fun s t => s.offer t 5 line (b2n !rising) tc false) r.1)

/-- Why a TRIG_ARM on tile t is refused or invalid (R190). -/
def State.trigArmCheck (s : State) (t : Nat) : Option Ending :=
  if s.trigBusy t then some { status := scSTATE, detail := 0x02 }
  else if s.segRec t < s.post t then some { status := scINVALID, detail := 0xFF }
  else none

/-- TRIG_ARM (R190, R191). -/
def execTrigArm (cmd : CmdRef) (s : State) : Res :=
  match s.ready? cmd opTRIGARM with
  | none => done s
  | some c => match s.trigArmCheck (c.pf 0 2 0) with
    | some e => done (s.endCmd cmd e)
    | none => done ((s.modCmd cmd fun c => { c with started := true }).trigArm (c.pf 0 2 0) cmd)

/-- CAPTURE_DUMP (R199): closed segments of the range, or records of the stamp buffer; what is not there makes it PARTIAL. [DESIGN CHOICE, log entry 10] -/
def execCaptureDump (cmd : CmdRef) (s : State) : Res :=
  match s.ready? cmd opCAPDUMP with
  | none => done s
  | some c =>
    let t := c.pf 0 2 0
    let first := c.p 4
    let count := c.p 8
    let (bs, missing) : List Byte × Bool :=
      if bitB (c.p 0) 8 then
        let n := s.stbHeld t
        ((List.range n).filter (fun i => decide (first ≤ i ∧ i < first + count)) |>.flatMap (s.stbRecord t), decide (n < first + count))
      else
        let segs := (s.trig t).segs
        let l := segs.zipIdx.filter fun e => decide (first ≤ e.2 ∧ e.2 < first + count)
        (l.flatMap fun e => s.segDump e.1, decide (segs.length < first + count))
    let o := s.output c bs
    done (o.1.endCmd cmd { status := scOK, partialDone := missing || o.2, result := c.outLen bs.length })

end Sys2Proof.Machine
end

