-- ==== Sys2Proof/Machine/RingOps.lean ====
section
/-! DEFINITION. Checks of a descriptor (R242 to R244, R249), of the state (R257), of capacity (R255) and power (R256, R380); order and
fences (R250 to R252); descriptor reads (R238, R239, R307). -/

namespace Sys2Proof.Machine

/-! ### The descriptor itself (R242, R244, R249).  A field's DETAIL is its offset in the tables of R242 and R249, as R244 gives it for
TAG; a selector's is that of its start. -/

def fullW : Word := 0xFFFFFFFF
def chselMask : List Word := [0xFF, fullW, fullW, fullW, fullW]

/-- The named bits of an opcode's parameter words, from offset 0 on (R249); every other bit is reserved. -/
def blockMask (op : Nat) (peek : Bool) : List Word :=
  match op with
  | 0x01 => [1]
  | 0x10 => chselMask ++ [0x00CF3007, 0xFFF, 0x0FFF0FFF, 0xFFF, 0x1FFF1FFF, 0x3FFF3FFF, 0x13F]
  | 0x11 => chselMask ++ [0xFFFFF, 3]
  | 0x12 => chselMask ++ [0x103, 0x000F077F]
  | 0x13 => chselMask ++ [0xFFFFF, 0x1FFFFF, 0xFFFF, 0xFFFFFF, 1, 0x000F077F]
  | 0x14 => chselMask ++ [0xFFFF031B, fullW, fullW, 0xFFFFF, 0xFFFFF, fullW, 0x3F]
  | 0x15 => chselMask ++ [0x01FFFFFF, 1]
  | 0x16 => chselMask
  | 0x20 => chselMask ++ [fullW, fullW, 0x1FFF, 0x1FFF, fullW]
  | 0x21 => [0x3FF, 0x1FFF, 3]
  | 0x22 => [0x3FF, 0, fullW, fullW, fullW, fullW]
  | 0x23 => [0x3FF, 1]
  | 0x24 => [0x1F07, fullW, fullW, fullW, fullW]
  | 0x25 => [0x3FF, 0x11FFF]
  | 0x30 => [0x30307, 0, fullW, fullW, fullW, fullW]
  | 0x31 => [0x307, fullW, 3]
  | 0x32 => [0x107, 0x1FFFF, 0x1FFFF]
  | 0x40 => [7, fullW]
  | 0x41 => [0x107, fullW, fullW]
  | 0x48 => [0xFFFF07FF, if peek then 0x3FFFF else fullW] ++ List.replicate 10 fullW
  | 0x50 => List.replicate 7 fullW ++ [0xFFFF] ++ List.replicate 4 fullW
  | 0x51 => 0x1FFF07 :: chselMask
  | 0x52 => [3]
  | 0x53 => [0x07FF00FF, fullW, fullW, fullW]
  | 0x60 => 0xF010F :: chselMask
  | 0x70 => [0x07FF0FFF]
  | 0x78 => [0x0FFF013F]
  | 0x7F => [0xFFFF, fullW, fullW]
  | _ => []

/-- Byte offsets of the set bits that a mask does not name in the word at offset o. -/
def rsvBytes (w : Nat) (mask : Word) (o : Nat) : List Nat :=
  (List.range 4).filterMap fun i => if bits w (8 * i + 7) (8 * i) &&& (255 - bits mask.toNat (8 * i + 7) (8 * i)) ≠ 0 then some (o + i) else none

/-- The named bits of the header (R242). -/
def headMask (v2 : Bool) : List Word := [0x0FFF01FF, fullW, fullW, fullW] ++ (if v2 then [0x3FFF, 0, fullW, fullW] else [])

/-- Offsets of invalid header fields and reserved bits; an output that may run past the address space names RLEN. [DEDUCED, log entry 37] -/
def Cmd.headBad (c : Cmd) : List Nat :=
  ((headMask c.v2).zipIdx.flatMap fun e => rsvBytes (c.hword (4 * e.2)) e.1 (4 * e.2)) ++
    (if 2 ^ 48 ≤ c.raddr ∨ c.raddr % (if c.op = opSTATS then 128 else 8) ≠ 0 then [8] else []) ++
    (if c.raddr ≠ 0 ∧ c.raddr < 2 ^ 48 ∧ 2 ^ 48 < c.raddr + c.rlen then [4] else []) ++
    (if c.v2 then (List.range 12).flatMap fun i => rsvBytes (c.hword (0x50 + 4 * i)) 0 (0x50 + 4 * i) else [])

/-- A reserved converter source in the request word at offset o (R59). -/
def Cmd.badSrc (c : Cmd) (o : Nat) : Bool := decide (8 < c.pf o 3 0)

/-- Size in units of the parts that APG_LOAD writes (R162, R249). -/
def apgUnits (what : Nat) : Nat := [4096, 512, 128, 256].getD what 0

/-- Size in bytes of what a selector of CAL_READ names (R249, R224). -/
def calSize (sel : Nat) : Nat := [768, 768, 800, 1800, recEnd, 16].getD sel 0

/-- Offsets in the block of fields out of range (R249 and the chapters of the opcodes). -/
def State.fieldsBad (s : State) (c : Cmd) : List Nat :=
  let at_ (o : Nat) (b : Bool) : List Nat := if b then [o] else []
  let sel (o : Nat) : List Nat := at_ o (decide (selChans (c.tmask o) (c.lmask o) = []))
  let host (o lo len : Nat) : Bool := decide (2 ^ 48 < c.p64 o + len) || decide (c.p64 o % lo ≠ 0)
  let act := c.pf 0 2 0
  match c.op with
  | 0x10 => sel 0 ++ at_ 0x14 (bitB (c.p 0x2C) 0 && decide (4 < c.pf 0x14 2 0 ∨ 2 < c.pf 0x14 13 12 ∨ 5 < c.pf 0x14 19 16))
  | 0x11 => sel 0 ++ at_ 0x18 (c.pf 0x18 1 0 == 3)
  | 0x12 => sel 0 ++ at_ 0x14 (c.pf 0x14 1 0 == 3 || (isInject c && bitB (c.p 0x14) 8 && decide ((s.named c).length ≠ 1))) ++
      at_ 0x18 (isInject c && c.badSrc 0x18)
  | 0x13 =>
    let last : Int := (c.pf 0x14 19 0 : Int) + c.pf 0x1C 15 0 * signed 21 (c.pf 0x18 20 0)
    sel 0 ++ at_ 0x18 (decide (last < 0 ∨ 0xFFFFF < last)) ++ at_ 0x20 (c.pf 0x20 23 0 == 0) ++ at_ 0x28 (bitB (c.p 0x24) 0 && c.badSrc 0x28)
  | 0x14 => sel 0 ++ at_ 0x20 (bitB (c.p 0x2C) 3 && decide (0x7FFFF < c.pf 0x20 19 0))
  | 0x15 | 0x16 => sel 0
  | 0x20 =>
    let n := c.pf 0x20 12 0
    let m := (s.named c).length
    sel 0 ++ at_ 0x14 (host 0x14 8 0) ++ at_ 0x1C (decide (0x17FF < c.pf 0x1C 12 0)) ++
      at_ 0x20 (decide (n = 0 ∨ 6144 < n ∨ 0x1800 < c.pf 0x1C 12 0 + n ∨ 2 ^ 48 < c.p64 0x14 + (m - 1) * c.p 0x24 + 8 * n))
  | 0x21 => at_ 4 (decide (0x17FF < c.pf 4 12 0)) ++ at_ 8 (c.pf 8 1 0 == 3)
  | 0x22 =>
    let m := (s.group (c.pf 0 9 0)).length
    at_ 8 (host 8 256 0) ++ at_ 0x10 (decide (c.p 0x10 % 256 ≠ 0 ∨ 2 ^ 48 < c.p64 8 + (m - 1) * c.p 0x14 + c.p 0x10)) ++
      at_ 0x14 (decide (c.p 0x14 % 256 ≠ 0 ∨ (c.p 0x14 = 0 ∧ m ≠ 1)))
  | 0x25 => at_ 4 (decide (0x17FF < c.pf 4 12 0))
  | 0x30 =>
    let n := apgUnits (c.pf 0 17 16)
    at_ 8 (host 8 1 0) ++ at_ 0x10 (decide (n ≤ c.p 0x10)) ++
      at_ 0x14 (decide (n < c.p 0x10 + c.p 0x14 ∨ 2 ^ 48 < c.p64 8 + c.p 0x14 * [16, 2, 4, 4].getD (c.pf 0 17 16) 4))
  | 0x31 => at_ 8 (c.pf 8 1 0 == 3)
  | 0x48 =>
    if bitB (c.p 0) 0 then []
    else at_ 0 (decide (131 < c.jLast ∨ c.jLast < c.jFirst ∨ (c.jKind = 1 ∧ c.jMode ≠ 0))) ++
      at_ 8 (decide (c.jKind = 0 ∧ c.jMode = 2 ∧ (131 < c.jRefUnit ∨ 4 < c.jRefEdge))) ++
      at_ 0x18 (decide (c.jKind = 0 ∧ c.jMode = 3 ∧ (c.p64 0x18 = 0 ∨ 2 ^ 40 < c.p64 0x18)))
  | 0x50 =>
    let v := signed 64 (c.p64 0)
    at_ 0 (decide (v < 1000000000 ∨ 10500000000 < v)) ++ at_ 8 (decide (c.p64 8 < 9900000000 ∨ 10100000000 < c.p64 8)) ++
      at_ 0x10 (decide (c.p64 0x10 < 99000000 ∨ 101000000 < c.p64 0x10))
  | 0x51 => at_ 0 (decide (4 < act)) ++
      (if act = 1 then sel 4 else if act = 3 ∨ act = 4 then at_ 4 (decide ((selChans (c.tmask 4) (c.lmask 4)).length ≠ 1)) else [])
  | 0x52 => at_ 0 (c.pf 0 1 0 == 3)
  | 0x53 =>
    let n := calSize (c.pf 0 7 0)
    at_ 0 (decide (5 < c.pf 0 7 0 ∨ (c.pf 0 7 0 ≤ 3 ∧ 1055 < c.pf 0 26 16))) ++ at_ 4 (decide (c.pf 0 7 0 = 4 ∧ 3 < c.p 4)) ++
      at_ 8 (decide (n ≤ c.p 8)) ++ at_ 0xC (decide (n < c.p 8 + c.p 0xC))
  | 0x60 => sel 4
  | 0x70 => at_ 0 (decide (4 < c.pf 0 11 8 ∨ scopeUnits (c.pf 0 11 8) ≤ c.pf 0 26 16))
  | 0x7F =>
    if c.pf 0 15 0 = 2 then
      at_ 4 (decide (c.p 4 % 4 ≠ 0 ∨ 0x4000000 ≤ c.p 4)) ++ at_ 8 (decide (c.p 8 % 4 ≠ 0 ∨ 0x4000000 < c.p 4 + c.p 8))
    else []
  | _ => []

/-- The lowest offset of an invalid field or reserved bit of a descriptor, if there is one (R244, R247). [DEDUCED, log entry 37] -/
def State.descBad (s : State) (c : Cmd) : Option Nat :=
  let masks := blockMask c.op (c.op == opSTATS && bitB (c.p 0) 0)
  let rsv := (List.range 12).flatMap fun i => rsvBytes (c.p (4 * i)) (masks.getD i 0) (c.pBase + 4 * i)
  let anchor := if c.op = opANCHOR ∧ c.raddr = 0 then [8] else []
  (c.headBad ++ anchor ++ rsv ++ (s.fieldsBad c).map (c.pBase + ·)).foldl (fun m o => match m with | none => some o | some x => some (min x o)) none

/-- The module state admits a command (R18, R21, R244). -/
def State.modeAdmits (s : State) (c : Cmd) : Bool :=
  if s.mode = stSAFE then decide (c.op ∈ safeOps)
  else if s.mode = stSERVICE then decide (c.op ∈ serviceOps ∧ ¬ (c.op = opROTATE ∧ c.pf 0 2 0 ≤ 1))
  else true

/-- The checks made as a descriptor enters its head stage, in the order of R244. [DEDUCED, log entry 37] -/
def State.descCheck (s : State) (c : Cmd) : Option Ending :=
  if c.op ∉ opcodes then some { status := scUNSUPPORTED }
  else if c.cls = 0 ∧ c.op ∉ class0Ops then some { status := scINVALID, detail := 0 }
  else match s.descBad c with
    | some o => some { status := scINVALID, detail := o }
    | none =>
      if s.cmds.any fun k => decide (k.sq = c.sq ∧ k.tag = c.tag) then some { status := scINVALID, detail := 0 }
      else if ¬ s.modeAdmits c then some { status := scSTATE, detail := 0x01 }
      else none

/-! ### State (R257 and the rules of each opcode) -/

/-- The part of highest rank among the endings of a command's parts (R243, R246); the first of equal ranks. -/
def worst (l : List Ending) : Option Ending :=
  l.foldl (fun m e => match m with
    | none => some e
    | some x => if statusRank e.status < statusRank x.status then some e else some x) none

/-- MODE, VSPAN and IRANGE that front-end u will hold after a CH_CONFIG. -/
def State.cfgAfter (s : State) (c : Cmd) (u : Nat) : Nat × Nat × Nat :=
  let w := (c.wordIf 0).getD (s.rd (feB u + CHN_FE_CFG.MODE.off))
  (CHN_FE_CFG.MODE.get w, CHN_FE_CFG.VSPAN.get w, CHN_FE_CFG.IRANGE.get w)

/-- The voltage clamps are closer than R37 allows. -/
def vclampNarrow (w : Word) : Bool := decide (CHN_VCLAMP.HI.get w < CHN_VCLAMP.LO.get w + 0x20)

/-- Why a CH_CONFIG cannot act on channel k (R30, R32, R37, R44, R85, R104, R249, R364). -/
def State.configCheck (s : State) (c : Cmd) (k : Nat) : Option Ending :=
  let u := s.phys k
  let b := feB u
  let (m, v, r) := s.cfgAfter c u
  let run := s.patRunning k
  let on := s.feOn u
  let en := bitB (c.p 0x2C) 8
  let st (d : Nat) : Option Ending := some { status := scSTATE, detail := d }
  let changes := decide (m ≠ s.getF b CHN_FE_CFG.MODE ∨ v ≠ s.getF b CHN_FE_CFG.VSPAN ∨ r ≠ s.getF b CHN_FE_CFG.IRANGE)
  let rearm := decide (m = 4) && bitB (c.p 0x2C) 0 && (s.fe u).drvTrip
  let lsense := on && (match c.wordIf 0 with | some w => CHN_FE_CFG.LSENSE.get w != s.getF b CHN_FE_CFG.LSENSE | none => false)
  let refsel := match c.wordIf 4 with | some w => (cfREFSEL 0).get w != 0 || (cfREFSEL 1).get w != 0 | none => false
  let remapped (x : Nat) : Bool := s.isSet (feB x) CHN_FE_STATUS.REMAPPED
  if run && (changes || (en && !on) || rearm || lsense) then st 0x02
  else if bitB (c.p 0x2C) 0 && decide (m = 4) && remapped k then st 0x07
  else if refsel && (remapped k || remapped (Nat.xor k 1)) then st 0x07
  else if en && decide (2 < v ∨ 5 < r) then some { status := scINVALID, detail := 0xFF }
  else if en && !forces m then st 0x02
  else if en && !on && s.faultHolds k then st 0x02
  else if en && decide (m = 2) && vclampNarrow ((c.wordIf 2).getD (s.rd (b + CHN_VCLAMP.HI.off))) then
    some { status := scINVALID, detail := if (c.wordIf 2).isSome then c.pBase + 0x1C else 0xFF }
  else if (List.range 32).any fun ts => !s.tsOk k ts then some { status := scINVALID, detail := 0xFF }
  else none

/-- Why a CH_FORCE cannot act on channel k (R30, R32, R37, R249, R364). -/
def State.forceCheck (s : State) (c : Cmd) (k : Nat) : Option Ending :=
  let u := s.phys k
  let b := feB u
  let out := c.pf 0x18 1 0
  let on := s.feOn u
  let st (d : Nat) : Option Ending := some { status := scSTATE, detail := d }
  if s.patRunning k ∧ ((out = 1 ∧ ¬ on) ∨ (out = 2 ∧ on)) then st 0x02
  else if out = 1 ∧ (2 < s.getF b CHN_FE_CFG.VSPAN ∨ 5 < s.getF b CHN_FE_CFG.IRANGE) then some { status := scINVALID, detail := 0xFF }
  else if out = 1 ∧ ¬ forces (s.regMode u) then st 0x02
  else if out = 1 ∧ ¬ on ∧ s.faultHolds k then st 0x02
  else if out = 1 ∧ s.getF b CHN_FE_CFG.MODE = 2 ∧ vclampNarrow (s.rd (b + CHN_VCLAMP.HI.off)) then some { status := scINVALID, detail := 0xFF }
  else none

/-- Why a CH_SINE cannot act on channel k (R51): it sets EN where no sine runs. -/
def State.sineCheck (s : State) (c : Cmd) (k : Nat) : Option Ending :=
  let u := s.phys k
  match c.wordIf 0 with
  | some w => if CHN_SINE_CTRL.EN.get w = 1 ∧ ¬ (s.feOn u && forces (s.fe u).mode) then some { status := scSTATE, detail := 0x02 } else none
  | none => none

/-- Why a CH_CONTACT cannot check channel k (R47, R364). -/
def State.contactCheck (s : State) (k : Nat) : Option Ending :=
  if s.feOn (s.phys k) || s.engState k != 0 || s.faultHolds k then some { status := scSTATE, detail := 0x02 } else none

/-- What stands in a command's way at its head stage. -/
inductive Verdict where
  | go
  | order
  | refuse (e : Ending)
  | hold (what detail : Nat)
  deriving DecidableEq, Repr

def Verdict.of : Option Ending → Verdict
  | some e => .refuse e
  | none => .go

/-- The state check of a command (R257): what waits is held for reason 3. [DEDUCED, log entry 37] -/
def State.stateCheck (s : State) (c : Cmd) : Verdict :=
  let st (d : Nat) : Verdict := .refuse { status := scSTATE, detail := d }
  let ts := s.tilesOf c
  let inReset := ts.any fun t => s.isSet (tileBase t) TIL_STATUS.RESET
  if ¬ s.modeAdmits c then st 0x01
  else if c.notBefore ≠ 0 ∧ ¬ s.epochValid then st 0x05
  else if inReset then .hold 3 0x0F
  else if c.op ≠ opRELEASE ∧ (ts.any fun t => s.tileQ t) then st 0x0A
  else match c.op with
    | 0x10 => .of (worst (c.chans.filterMap fun k => s.configCheck c k))
    | 0x11 => .of (worst (c.chans.filterMap fun k => s.forceCheck c k))
    | 0x14 => .of (worst (c.chans.filterMap fun k => s.sineCheck c k))
    | 0x15 => .of (worst (c.chans.filterMap s.contactCheck))
    | 0x16 => if c.chans.any s.patRunning then st 0x02 else .go
    | 0x20 => .of (s.seqLoadCheck c.chans)
    | 0x21 => if s.inContext (c.pf 0 9 0) then st 0x03 else .of (s.seqRunCheck (c.pf 0 9 0) (c.pf 8 1 0))
    | 0x22 => if s.leaderOf (c.pf 0 9 0) ≠ c.pf 0 9 0 then st 0x03 else if (s.group (c.pf 0 9 0)).any fun k => s.engState k == 4 then st 0x02 else .go
    | 0x23 => if s.patRunning (c.pf 0 9 0) && s.stopForeign (c.pf 0 9 0) then st 0x03 else .go
    | 0x24 => .of (s.bindCheck c)
    | 0x25 => .of (s.seqJumpCheck c (c.pf 0 9 0) (c.pf 4 12 0))
    | 0x31 => .of (s.apgRunCheck c)
    | 0x32 => if s.clearHeld c then st 0x04 else .go
    | 0x40 => .of (s.trigArmCheck (c.pf 0 2 0))
    | 0x48 => if bitB (c.p 0) 0 ∧ (s.peeked c).isNone then st 0x0F else .go
    | 0x50 => .of s.anchorCheck
    | 0x51 =>
      let a := c.pf 0 2 0
      let busy := decide (a ∈ [1, 3, 4]) && s.isSet 0 CAL_STATUS.ANCHOR_RUN && decide (s.anchor.step < 8)
      if a = 1 ∧ c.chans.any s.faultHolds then st 0x02
      else if a = 2 ∧ s.shadeState (c.pf 0 20 16) ≠ 1 then st 0x06
      else match (if a = 3 then s.remapCheck ⟨c.sq, c.tag⟩ (c.chans.headD 0) else if a = 4 then s.unmapCheck ⟨c.sq, c.tag⟩ (c.chans.headD 0) else none) with
        | some e => .refuse e
        | none => if busy then .hold 3 0x06 else .go
    | 0x60 => if bitB (c.p 0) 8 = false ∧ s.testBusy c then .hold 3 0x04 else .go
    | 0x7F => if c.pf 0 15 0 = 0 ∨ 3 < c.pf 0 15 0 then .refuse { status := scUNSUPPORTED } else .go
    | _ => .go

/-! ### Order (R242, R251, R252) -/

/-- Command k is in its setup phase (R248). -/
def Cmd.inSetup (k : Cmd) : Bool :=
  decide (k.op ∈ setupOps ∧ k.ending = none) && !k.setupOver && !(decide (k.op = opSTREAM) && k.admitted)

/-- A command that c's fence waits for has not completed (R252). -/
def State.fenceBlocked (s : State) (c : Cmd) : Bool := (c.fence || decide (c.op = opFENCE)) && s.cmds.any fun k => decide (k.intake ∈ c.after)

/-- An earlier command that names one of c's channels is in its setup phase (R251). -/
def State.orderBlocked (s : State) (c : Cmd) : Bool :=
  decide (c.cls ≠ 0 ∧ c.op ∈ setupOps) && s.cmds.any fun k => decide (k.intake < c.intake) && k.inSetup && k.chans.any fun x => decide (x ∈ c.chans)

/-- NOTBEFORE has not been reached (R242). [DEDUCED, log entry 37] -/
def State.beforeTime (s : State) (c : Cmd) : Bool := decide (c.notBefore ≠ 0 ∧ s.tb < c.notBefore) && s.epochValid

/-! ### Capacity (R254, R255) -/

def State.inFlight (s : State) (p : Cmd → Bool) : Nat := (s.cmds.filter fun k => k.admitted && p k).length

/-- Sepia slots of tile t that are taken: by jobs, and by STATS_READ STARTs admitted and not yet begun (R255). -/
def State.jobsUsed (s : State) (t : Nat) : Nat :=
  ((List.range 16).filter fun n => s.getF (tileBase t + 4 * n) SEP_JOB.STATE ≠ 0).length +
    s.inFlight (fun k => decide (k.op = opSTATS ∧ k.ending = none) && !k.started && !bitB (k.p 0) 0 && decide (k.pf 0 3 1 = t))

/-- General slots in use: by classes 1 to 3, and by class 0 beyond its reserve. -/
def State.slotsUsed (s : State) : Nat := s.inFlight (fun k => decide (k.cls ≠ 0)) + (s.inFlight (fun k => decide (k.cls = 0)) - 256)

/-- A slot is free for class 0: a reserved or a general one (R254). -/
def State.slotFree0 (s : State) : Bool := decide (s.inFlight (fun k => decide (k.cls = 0)) < 256 ∨ s.slotsUsed < 3840)

/-- Count of a waiting command, in TCLK (R258). -/
def State.count (s : State) (c : Cmd) : Nat := c.waited + (match c.since with | some u => s.uptime - u | none => 0)

/-- Head-stage command k goes before c where both wait: lower class, then the longer wait, then intake order (R253). -/
def State.before (s : State) (k c : Cmd) : Bool :=
  decide (k.cls < c.cls ∨ (k.cls = c.cls ∧ (s.count c < s.count k ∨ (s.count k = s.count c ∧ k.intake < c.intake))))

/-- An earlier waiter for the same resource: held for reason what (and DETAIL d), with work in a common tile or needing none (R253, R258). [DEDUCED, log entry 32] -/
def State.earlierWaiter (s : State) (c : Cmd) (what d : Nat) (tiles : Bool) (t : Nat) : Bool :=
  s.cmds.any fun k => !k.admitted && decide (k.ending = none ∧ k.claim = (what, d)) && s.before k c &&
    (!tiles || decide (t ∈ s.tilesOf k))

/-- What capacity command c lacks: its DETAIL (R247, R255). -/
def State.lacks (s : State) (c : Cmd) : Option Nat :=
  let ts := s.tilesOf c
  if 3840 ≤ s.slotsUsed ∨ s.earlierWaiter c 1 1 false 0 then some 1
  else if ts.any fun t => decide (512 ≤ s.inFlight fun k => decide (k.cls ≠ 0) && decide (t ∈ s.tilesOf k)) || s.earlierWaiter c 1 2 true t then some 2
  else if c.op = opSTATS ∧ ¬ bitB (c.p 0) 0 ∧ (16 ≤ s.jobsUsed (c.pf 0 3 1) ∨ s.earlierWaiter c 1 3 true (c.pf 0 3 1)) then some 3
  else none

/-! ### Power (R256, R378, R380) -/

/-- The charge of channel k once command c has acted (R378). -/
def State.chargeAfter (s : State) (c : Cmd) (k : Nat) : Nat :=
  let u := s.phys k
  let b := feB u
  let on := s.feOn u
  let now := s.charge k
  let r := s.getF b CHN_FE_CFG.IRANGE
  let code := s.getF b CHN_FE_TARGET.CODE
  match c.op with
  | 0x10 =>
    let (m, v, r') := s.cfgAfter c u
    let em := effMode m v r'
    if on ∨ bitB (c.p 0x2C) 8 then
      if em = 1 then chargeFV r' (CHN_ICLAMP.CODE.get ((c.wordIf 1).getD (s.rd (b + CHN_ICLAMP.CODE.off))))
      else if em = 2 then
        if s.isSet b CHN_SINE_CTRL.EN ∧ r' = r ∧ (s.fe u).mode = 2 then now else chargeFI r' (codeDist code)
      else 0
    else now
  | 0x11 =>
    let out := c.pf 0x18 1 0
    if (on ∧ out ≠ 2) ∨ (¬ on ∧ out = 1) then
      let em := s.regMode u
      if em = 1 then chargeFV r (s.getF b CHN_ICLAMP.CODE)
      else if em = 2 then
        let d := codeDist (c.pf 0x14 19 0)
        chargeFI r (if s.isSet b CHN_SINE_CTRL.EN then max (sineDist (s.fe u).ofs (s.fe u).amp) d else d)
      else 0
    else now
  | 0x13 =>
    if on ∧ s.regMode u = 2 then
      chargeFI r (max (codeDist (c.sweepPoint 0)) (codeDist (c.sweepPoint (c.pf 0x1C 15 0))))
    else now
  | 0x14 =>
    if on ∧ s.regMode u = 2 then
      let amp := match c.wordIf 3 with | some w => CHN_SINE_AMP.AMP.get w | none => s.getF b CHN_SINE_AMP.AMP
      let ofs := match c.wordIf 4 with | some w => CHN_SINE_OFS.OFS.get w | none => s.getF b CHN_SINE_OFS.OFS
      chargeFI r (max (sineDist ofs amp) (codeDist code))
    else now
  | 0x15 =>
    let i := if bitB (c.p 0x18) 0 then clampN 1 200 (c.pf 0x14 23 16) else s.itest k
    headMw (i * 1000) 1
  | 0x21 | 0x31 => if (s.fe u).mode = 4 then s.patMw else now
  | _ => now

/-- The request of c in tile t (R380). -/
def State.request (s : State) (c : Cmd) (t : Nat) : Nat :=
  ((c.chans.filter fun k => k / 128 = t).map fun k => s.chargeAfter c k - s.charge k).foldl (· + ·) 0

/-- Refused at once for the absolute budget, or held for the instantaneous one (R256, R258). -/
def State.powerCheck (s : State) (c : Cmd) : Verdict :=
  if (List.range 8).any fun t => decide (s.bAbs t < s.request c t) then .refuse { status := scPOWER, detail := 1 }
  else if (List.range 8).any fun t => decide (0 < s.request c t) &&
      (decide (s.headroom t < s.request c t) || s.cmds.any fun k => !k.admitted && decide (k.ending = none ∧ k.claim = (2, 2)) && s.before k c &&
        decide (0 < s.request k t)) then .hold 2 2
  else .go

/-! ### The verdict on a head-stage command (R258) -/

/-- The hold limit of c in TCLK (R242, R258). -/
def State.holdLimit (s : State) (c : Cmd) : Nat :=
  1280 * (if c.holdField ≠ 0 then c.holdField else s.getF (sqA c.sq) RING_SQ_HOLD.HOLD_US)

/-- The channels c names now (R243). -/
def State.renamed (s : State) (c : Cmd) : Cmd := { c with chans := s.named c }

/-- What the arbiter finds for a head-stage command: one of class 0 is held by fences and for a slot alone, which goes to the one that has
waited longest (R251, R253, R254). [DEDUCED, log entry 37] -/
def State.verdict (s : State) (c : Cmd) : Verdict :=
  let c := s.renamed c
  if c.cls = 0 then
    if s.fenceBlocked c then .order
    else if ¬ s.slotFree0 ∨ s.earlierWaiter c 1 1 false 0 then .hold 1 1
    else match s.stateCheck c with
      | .hold _ d => .refuse { status := scSTATE, detail := d }
      | v => v
  else if s.fenceBlocked c ∨ s.orderBlocked c ∨ s.beforeTime c then .order
  else match s.stateCheck c with
    | .go => (match s.lacks c with
      | some d => .hold 1 d
      | none => s.powerCheck c)
    | v => v

/-- The status that a hold reason ends in (R258). -/
def holdStatus (what : Nat) : Nat := if what = 1 then scCAPACITY else if what = 2 then scPOWER else scSTATE

/-- CH_CONTACT c is refused because one of its channels is not disabled and idle: none is checked (R47, R49). -/
def State.contactRefused (s : State) (c : Cmd) : Bool :=
  decide (c.op = opCONTACT) && match s.verdict c with | .refuse e => decide (e.status = scSTATE ∧ e.detail = 0x02) | _ => false

/-- What the verdict does to a head-stage command that is not admitted: an order wait stops the count; a hold runs it, and refuses at a
zero limit or one exceeded; a refusal ends it.  Class 0 has no limit (R254).  One that may go and is not served waits for nothing; its count, once
begun, runs on (R258). -/
def State.judge (s : State) (c : Cmd) : Cmd :=
  match s.verdict c with
  | .go => { c with order := false, held := 0 }
  | .order => { c with order := true, held := 0, claim := (0, 0), waited := s.count c, since := none }
  | .refuse e => { c with waited := s.count c, since := none }.finish e
  | .hold what d =>
    if c.cls ≠ 0 ∧ (s.holdLimit c = 0 ∨ s.holdLimit c < s.count c) then
      { c with waited := s.count c, since := none }.finish { status := holdStatus what, detail := d }
    else { c with order := false, held := what, heldDetail := d, claim := (what, d), since := some (c.since.getD s.uptime) }

/-! ### The arbiter (R253) -/

/-- The first of the rings in l after ring k, round robin. -/
def nextRing (l : List Nat) (k : Nat) : Option Nat := (List.range 64).findSome? fun i => let n := (k + 1 + i) % 64; if n ∈ l then some n else none

/-- RING_ARB's weight of class c. -/
def State.weight (s : State) (c : Nat) : Nat :=
  atLeast1 (s.getF 0 (if c = 1 then RING_ARB.W1 else if c = 2 then RING_ARB.W2 else RING_ARB.W3))

/-- The class served next among those with a ready head, and the shares left: a class without one forfeits its share; with no share
left a new round begins. -/
def pickClass (ready : Nat → Bool) (left weights : List Nat) : Option (Nat × List Nat) :=
  let go (left : List Nat) : Option (Nat × List Nat) :=
    ([1, 2, 3].find? fun c => ready c && decide (0 < left.getD (c - 1) 0)).map fun c =>
      (c, left.zipIdx.map fun e => if e.2 + 1 = c then e.1 - 1 else if e.2 + 1 < c then 0 else e.1)
  match go left with
  | some r => some r
  | none => go weights

/-- The ring whose head is served, with the arbiter's state after it. [DEDUCED, log entry 32] -/
def State.arbitrate (s : State) (ready : List Cmd) : Option (Nat × State) :=
  let of (c : Nat) : List Nat := (ready.filter fun k => k.cls = c).map fun k => k.sq
  match nextRing (of 0) (s.arbLast.getD 0 63) with
  | some n => some (n, { s with arbLast := s.arbLast.set 0 n })
  | none =>
    match pickClass (fun c => decide (of c ≠ [])) s.arbLeft ((List.range 3).map fun i => s.weight (i + 1)) with
    | some (c, left) => (nextRing (of c) (s.arbLast.getD c 63)).map fun n => (n, { s with arbLast := s.arbLast.set c n, arbLeft := left })
    | none => none

/-- The resources that a command's admission takes from a self-test (R232): its front-ends and stores, and the tile memory it uses. -/
def State.testClaims (s : State) (c : Cmd) : List Nat :=
  if c.op = opSELFTEST then []
  else if c.op = opROTATE then (if c.pf 0 2 0 = 3 then c.chans ++ c.chans.map fun k => 1024 + shadeOf k else [])
  else c.chans ++ c.chans.map s.phys ++
    (if c.op ∈ [opAPGLOAD, opAPGRUN, opFAILDUMP] then (s.tilesOf c).map fun t => 0x10003 + 4 * t
     else if c.op = opCAPDUMP ∧ bitB (c.p 0) 8 then (s.tilesOf c).map fun t => 0x10001 + 4 * t
     else if c.op ∈ [opTRIGARM, opCAPDUMP] then (s.tilesOf c).map fun t => 0x10002 + 4 * t
     else if c.op = opSTATS ∧ bitB (c.p 0) 0 = false then (List.range (c.jLast + 1 - c.jFirst)).map fun i => unitOf (c.pf 0 3 1) (c.jFirst + i)
     else if c.op = opSTREAM then [0x10020] else [])

/-- Command c is admitted: its slot is its place among the admitted; its power is charged; its wait is final (R256, R258). [DEDUCED, log entry 33] -/
def State.takeIn (s : State) (c : Cmd) : State :=
  let c := s.renamed c
  let charge := ((List.range 8).map fun t => (t, s.request c t)).filter fun e => e.2 ≠ 0
  let was := decide (c.claim.1 ≠ 0 ∨ c.waited ≠ 0 ∨ c.since.isSome)
  let n := s.count c
  let c' := { c with admitted := true, charge := charge, delayed := was, waited := if was then max 4 n else 0, since := none, held := 0,
                     order := false, claim := (0, 0), startTb := s.tbStamp }
  let s1 := s.modCmd ⟨c.sq, c.tag⟩ fun _ => c'
  let s2 := if charge = [] then s1 else c.chans.foldl (fun x k => x.setCharge k (max (s.charge k) (s.chargeAfter c k))) s1
  let s3 := if c.op = opROTATE ∨ c.op = opSELFTEST then s2 else c.chans.foldl State.directYields s2
  s3.testsYield (s.testClaims c)

/-! ### Descriptor reads (R238, R239, R307) -/

/-- A descriptor of SQ n can be asked for: enabled, a descriptor is there, the head stage and an entry of its CQ are free, none is asked
for or waits. [DEDUCED, log entry 38] -/
def State.sqWants (s : State) (n : Nat) : Bool :=
  s.isSet (sqA n) RING_SQ_CFG.EN && decide (s.getF (sqA n) RING_SQ_DB.TAIL ≠ s.getF (sqA n) RING_SQ_HEAD.HEAD) && (s.head? n).isNone &&
    s.cqFree (s.getF (sqA n) RING_SQ_CFG.CQ) && decide (s.reads.length < 1024) && !(s.reads.any fun r => r.sq == n) && !(s.fetched.any fun f => f.1 == n)

/-- A tag of 0 to 0x3FF that no outstanding read uses: the first from an open value on. [DESIGN CHOICE, log entry 22] -/
def State.readTag (s : State) : Nat × State :=
  let r := s.draw 10
  (((List.range 1024).map fun i => (r.1 + i) % 1024).find? (fun t => !(s.reads.any fun x => x.tag == t)) |>.getD 0, r.2)

/-- Asks for the next descriptor of SQ n. -/
def State.fetchSq (s : State) (n : Nat) : State :=
  if s.sqWants n then
    let slot := s.getF (sqA n) RING_SQ_HEAD.HEAD % s.sqSize n
    let t := s.readTag
    let r : Read := { tag := t.1, sq := n, addr := s.sqBase n + slot * s.sqEntry n, len := s.sqEntry n / 4 }
    { t.2 with reads := t.2.reads ++ [r], own := t.2.own ++ [r.mrd] }
  else s

def State.fetchAll (s : State) : State := (List.range 64).foldl State.fetchSq s

/-- Intake of SQ n ends: what was read is not taken, what is still being read goes nowhere (R241). -/
def State.dropReads (s : State) (n : Nat) : State :=
  { s with reads := s.reads.map (fun r => if r.sq = n then { r with sq := 64 } else r), fetched := s.fetched.filter fun f => f.1 ≠ n }

/-- A descriptor read of SQ n has failed (R241). -/
def State.sqFailed (s : State) (n : Nat) : State :=
  if n < 64 then ((s.setF (sqA n) RING_SQ_CFG.EN 0).setF (sqA n) RING_SQ_STATUS.FETCHERR 1).dropReads n else s

end Sys2Proof.Machine
end

