-- ==== Sys2Proof/Machine/Rings.lean ====
section
/-! DEFINITION. Meanings of the rings' events and of the commands NOP, FENCE, FAULT_ACK, ABORT and DIAG but for its function REGS
(chapter 10). -/

namespace Sys2Proof.Machine

/-! ### Writes of ring registers (R238, R239, R241) -/

/-- A write of RING_SQn_DB: accepted, or discarded with DBERR (R238). -/
def State.sqDoorbell (s : State) (n : Nat) (w : Word) : State :=
  let size := s.sqSize n
  let t := w.toNat
  if size < sub32 t (s.getF (sqA n) RING_SQ_HEAD.HEAD) ∨ size < sub32 t (s.getF (sqA n) RING_SQ_DB.TAIL) then s.setF (sqA n) RING_SQ_STATUS.DBERR 1
  else (s.setF (sqA n) RING_SQ_DB.TAIL t).fetchAll

/-- A write of RING_CQm_DB: accepted, or discarded with DBERR (R239). -/
def State.cqDoorbell (s : State) (m : Nat) (w : Word) : State :=
  if s.cqSize m < sub32 (s.getF (cqA m) RING_CQ_TAIL.TAIL) w.toNat then s.setF (cqA m) RING_CQ_STATUS.DBERR 1
  else (s.setF (cqA m) RING_CQ_DB.HEAD w.toNat).fetchAll

def log2Ok (n : Nat) : Bool := decide (4 ≤ n ∧ n ≤ 12)

/-- A write of RING_SQn_CFG (R241). [DEDUCED, log entry 38] -/
def State.sqCfg (s : State) (n : Nat) (w : Word) : State :=
  let b := sqA n
  let a := b + RING_SQ_CFG.EN.off
  let new := w &&& 0x003F310F
  let en := RING_SQ_CFG.EN.get w
  let err (s : State) : State := s.setF b RING_SQ_STATUS.CFGERR 1
  if s.isSet b RING_SQ_CFG.EN then
    let s := if new ≠ s.rd a &&& 0x003F310F then err s else s
    if en = 0 then (s.setF b RING_SQ_CFG.EN 0).dropReads n else s
  else
    let s := s.wr a new
    if en = 0 then s
    else
      let m := RING_SQ_CFG.CQ.get w
      if log2Ok (RING_SQ_CFG.LOG2.get w) && s.isSet (cqA m) RING_CQ_CFG.EN && s.getF (cqA m) RING_CQ_CFG.FMT == RING_SQ_CFG.FMT.get w then
        (s.setFs b [(RING_SQ_CFG.EN, 1), (RING_SQ_DB.TAIL, 0), (RING_SQ_HEAD.HEAD, 0)]).fetchAll
      else err s

/-- An enabled SQ names CQ m. -/
def State.cqNamed (s : State) (m : Nat) : Bool :=
  (List.range 64).any fun n => s.isSet (sqA n) RING_SQ_CFG.EN && s.getF (sqA n) RING_SQ_CFG.CQ == m

/-- A write of RING_CQm_CFG (R241). [DEDUCED, log entry 38] -/
def State.cqCfg (s : State) (m : Nat) (w : Word) : State :=
  let b := cqA m
  let a := b + RING_CQ_CFG.EN.off
  let new := w &&& 0x10F
  let en := RING_CQ_CFG.EN.get w
  let err (s : State) : State := s.setF b RING_CQ_STATUS.CFGERR 1
  if s.isSet b RING_CQ_CFG.EN then
    if en = 0 ∧ (s.cqNamed m ∨ s.cqRsvd m ≠ 0) then err s
    else
      let s := if new ≠ s.rd a &&& 0x10F then err s else s
      let s := s.setF b RING_CQ_CFG.EVT (RING_CQ_CFG.EVT.get w)
      if en = 1 then s else s.setF b RING_CQ_CFG.EN 0
  else
    let s := s.wr a (w &&& 0x30F)
    if en = 0 then s
    else if log2Ok (RING_CQ_CFG.LOG2.get w) then s.setFs b [(RING_CQ_CFG.EN, 1), (RING_CQ_TAIL.TAIL, 0), (RING_CQ_DB.HEAD, 0)]
    else err s

/-- A write of a BASE register of SQ n or CQ m at address a: only while EN = 0 (R241). [DEDUCED, log entry 38] -/
def State.ringBase (s : State) (b : Nat) (en err : Fld) (a : Nat) (w : Word) : State :=
  if s.isSet b en then s.setF b err 1 else s.wr a w

/-- SQ_DOORBELL (R238). -/
def execSqDoorbell (n : Fin 64) (w : Word) (s : State) : Res :=
  if s.writeOk (sqA n + RING_SQ_DB.TAIL.off) then done (s.sqDoorbell n w) else done s

/-- CQ_DOORBELL (R239). -/
def execCqDoorbell (m : Fin 64) (w : Word) (s : State) : Res :=
  if s.writeOk (cqA m + RING_CQ_DB.HEAD.off) then done (s.cqDoorbell m w) else done s

/-- SQ_ENABLE (R241): a write of CFG with EN = 1. -/
def execSqEnable (n : Fin 64) (w : Word) (s : State) : Res :=
  if s.writeOk (sqA n + RING_SQ_CFG.EN.off) then done (s.sqCfg n (w ||| 0x80000000)) else done s

/-- SQ_DISABLE (R241): a write of CFG with EN = 0. -/
def execSqDisable (n : Fin 64) (w : Word) (s : State) : Res :=
  if s.writeOk (sqA n + RING_SQ_CFG.EN.off) then done (s.sqCfg n (w &&& 0x7FFFFFFF)) else done s

/-- CQ_ENABLE (R241): a write of CFG with EN = 1. -/
def execCqEnable (m : Fin 64) (w : Word) (s : State) : Res :=
  if s.writeOk (cqA m + RING_CQ_CFG.EN.off) then done (s.cqCfg m (w ||| 0x80000000)) else done s

/-- CQ_DISABLE (R241): a write of CFG with EN = 0. -/
def execCqDisable (m : Fin 64) (w : Word) (s : State) : Res :=
  if s.writeOk (cqA m + RING_CQ_CFG.EN.off) then done (s.cqCfg m (w &&& 0x7FFFFFFF)) else done s

/-! ### Intake (R238, R239, R244, R250) -/

/-- Places of the commands that a fence taken now waits for (R252). [DEDUCED, log entry 34] -/
def State.fenceSet (s : State) (c : Cmd) : List Nat :=
  if c.fence ∨ c.op = opFENCE then
    let every := decide (c.op = opFENCE) && bitB (c.p 0) 0
    (s.cmds.filter fun k => decide (k.sq = c.sq) || (every && decide (k.cls ≠ 0))).map fun k => k.intake
  else []

/-- The command that a descriptor of SQ n makes as it enters the head stage: checked, its channels found, its CQ entry reserved. -/
def State.taken (s : State) (n : Nat) (ws : List Word) : Cmd :=
  let w0 := (ws.headD 0).toNat
  let c : Cmd := { sq := n, tag := bits w0 27 16, op := bits w0 7 0, v2 := s.isSet (sqA n) RING_SQ_CFG.FMT, cls := s.getF (sqA n) RING_SQ_CFG.CLASS,
                   words := ws, cq := s.getF (sqA n) RING_SQ_CFG.CQ, intake := s.intakes }
  match s.descCheck c with
  | some e => c.finish e
  | none => { s.renamed c with after := s.fenceSet c }

/-- DESCRIPTOR_INTAKE: the descriptor read for SQ n enters its head stage; the head count and its shadow word follow. -/
def execDescriptorIntake (n : Fin 64) (s : State) : Res :=
  match s.fetched.find? fun f => f.1 == n.val with
  | none => done s
  | some (_, ws) =>
    if ¬ s.isSet (sqA n) RING_SQ_CFG.EN ∨ (s.head? n).isSome ∨ ¬ s.cqFree (s.getF (sqA n) RING_SQ_CFG.CQ) ∨ ¬ s.hostUp ∨ ¬ s.clocked then done s
    else
      let c := s.taken n ws
      let s := { s with fetched := s.fetched.filter (fun f => f.1 ≠ n.val), cmds := s.cmds ++ [c], intakes := s.intakes + 1 }
      let s := s.incWrap (sqA n) RING_SQ_HEAD.HEAD 1
      done (s.hostSet (s.sqBase n + s.sqSize n * s.sqEntry n) 4 (s.getF (sqA n) RING_SQ_HEAD.HEAD)).fetchAll

/-- DESCRIPTOR_READ_ERROR (R241, R309): a completion with an error status ends the outstanding descriptor read of SQ n. -/
def execDescriptorReadError (n : Fin 64) (s : State) : Res :=
  if s.reads.any fun r => r.sq == n.val then
    done (({ s with reads := s.reads.filter fun r => r.sq ≠ n.val }.rdFail false).sqFailed n)
  else done s

/-- READ_COMPLETION_TIMEOUT (R309): the read with a tag has no completion within LNK_CPL_TMO while the host's route is up. -/
def execReadCompletionTimeout (tag : Fin 1024) (s : State) : Res :=
  match s.reads.find? fun r => r.tag == tag.val with
  | none => done s
  | some r =>
    if ¬ s.hostUp then done s
    else done (({ s with reads := s.reads.erase r }.rdFail true).sqFailed r.sq)

/-! ### Admission (R250 to R258) -/

/-- One ECLK of the arbiter: every head stage is judged; of those that may go, one is admitted (R253, R258). -/
def State.admission (s : State) : State :=
  let heads : List Cmd := s.cmds.filter fun c => !c.admitted && decide (c.ending = none)
  let ready := heads.filter fun c => decide (s.verdict c = .go)
  let s' := (heads.filter s.contactRefused).foldl (fun s c => (s.named c).foldl State.contactSkip s) s
  let s' := { s' with cmds := s.cmds.map fun (c : Cmd) => if !c.admitted && decide (c.ending = none) then s.judge c else c }
  match s'.arbitrate ready with
  | some (n, s') => (match ready.find? fun (c : Cmd) => c.sq = n with
    | some c => (s'.takeIn c).fetchAll
    | none => s'.fetchAll)
  | none => s'.fetchAll

/-- COMMAND_ADMIT. [DEDUCED, log entry 32] -/
def execCommandAdmit (s : State) : Res := if s.clocked then done s.admission else done s

/-- HOLD_LIMIT_EXPIRE (R258): the count of SQ n's held head exceeds its limit. [DEDUCED, log entry 33] -/
def execHoldLimitExpire (n : Fin 64) (s : State) : Res :=
  match s.head? n with
  | none => done s
  | some c =>
    if c.held = 0 ∨ c.cls = 0 then done s
    else
      let w := max (s.count c) (s.holdLimit c + 4)
      done (s.modCmd ⟨c.sq, c.tag⟩ fun c =>
        { c with waited := w, since := none }.finish { status := holdStatus c.held, detail := c.heldDetail }).fetchAll

/-! ### Completion (R239, R240, R245) -/

/-- RESULT codes of a command that was refused. -/
def refused (st : Nat) : Bool := decide (st = scCAPACITY ∨ st = scPOWER ∨ st = scSTATE)

/-- COMPLETION_WRITE: the entry, then the producer word; energy: what the meters found for the command's channels.  An ABORT's follows
those of the commands it named (R260).  START is open for a command that was never admitted. [DEDUCED, log entry 34] [DESIGN CHOICE, log entry 35] -/
def execCompletionWrite (cmd : CmdRef) (energy : Word) (s : State) : Res :=
  match s.cmds.find? fun c => c.isRef cmd && c.ending.isSome with
  | none => done s
  | some c => match c.ending with
    | none => done s
    | some e =>
      if ¬ s.hostUp ∨ ¬ s.clocked ∨ (c.op = opABORT ∧ s.cmds.any fun k => decide (k.intake ∈ c.after)) then done s
      else
        let m := c.cq
        let k := s.getF (cqA m) RING_CQ_TAIL.TAIL
        let st := if c.admitted ∨ ¬ c.v2 then (c.startTb, s) else s.draw 40
        let en := if ¬ c.admitted ∨ refused e.status ∨ c.chans = [] then 0 else energy.toNat
        let s := st.2
        let s := s.hostWrite (s.cqBase m + k % s.cqSize m * s.cqEntry m) (s.entry c e k m st.1 en)
        let s := s.incWrap (cqA m) RING_CQ_TAIL.TAIL 1
        let s := s.hostSet (s.cqBase m + s.cqSize m * s.cqEntry m) 4 (s.getF (cqA m) RING_CQ_TAIL.TAIL)
        done { s with cmds := s.cmds.erase c }.fetchAll

/-! ### NOP, FENCE, FAULT_ACK -/

/-- NOP (R248). -/
def execNop (cmd : CmdRef) (s : State) : Res :=
  match s.ready? cmd opNOP with
  | none => done s
  | some _ => done (s.endCmd cmd { status := scOK })

/-- FENCE (R252): its wait is over once it is admitted. -/
def execFence (cmd : CmdRef) (s : State) : Res :=
  match s.ready? cmd opFENCE with
  | none => done s
  | some c => done (s.endCmd cmd { status := scOK, result := c.after.length })

/-- FAULT_ACK (R363). -/
def execFaultAck (cmd : CmdRef) (s : State) : Res :=
  match s.ready? cmd opFAULTACK with
  | none => done s
  | some c =>
    let r := s.acknowledge (c.pf 0 7 0) (c.pf 0 11 8) (c.pf 0 26 16)
    done (r.1.endCmd cmd { status := scOK, result := r.2 })

/-! ### ABORT and slices (R259, R260) -/

def abortEnd : Ending := { status := scABORTHOST, detail := 0x01 }

/-- A sliced command stops at its slice boundary: what it has done stands. -/
def State.sliceStop (s : State) (r : CmdRef) (e : Ending) : State :=
  match s.cmd? r with
  | none => s
  | some k =>
    if k.op = opANCHOR then s.anchorKill (some e)
    else
      let s := { s with tests := s.tests.filter (fun x => decide (x.cmd ≠ r)), archNow := s.archNow.filter (· ≠ r),
                        archNext := s.archNext.map fun (l : List CmdRef) => l.filter (· ≠ r) }
      { s with commitCmds := s.commitCmds.filter (· ≠ r) }.stopCmd r { e with result := k.acc }

/-- SLICE_END: a stop asked for takes effect at the boundary; else the work goes on when the Ochre picks it again. [DESIGN CHOICE, log entry 10] -/
def execSliceEnd (cmd : CmdRef) (s : State) : Res :=
  match s.cmd? cmd with
  | none => done s
  | some k => match k.stopAsked with
    | some e => if k.started ∧ k.op ∈ slicedOps then done (s.sliceStop cmd e) else done s
    | none => done s

/-- The context whose run command r is. -/
def State.ctxOf (s : State) (r : CmdRef) : Option (Nat × Nat) := (s.ctxs.find? fun e => e.2.run == some r).map fun e => (e.1 / 4, e.1 % 4)

/-- The STREAM r fetches no more; words already in the rings stay (R260). -/
def State.strmStop (s : State) (r : CmdRef) : State :=
  (s.engs.map Prod.fst).foldl (fun s c => s.modEng c fun e => { e with strm := (e.strm.map fun x =>
      if x.cmd = r then { x with unissued := x.unissued - x.left, left := 0 } else x).filter fun x => decide (x.unissued ≠ 0) }) s

/-- Aborts the command k (R260): its outcome. [DEDUCED, log entry 34] -/
def State.abortOne (s : State) (k : Cmd) : State × Nat :=
  let r : CmdRef := ⟨k.sq, k.tag⟩
  let endNow : State × Nat := (s.endCmd r abortEnd, 2)
  if ¬ k.admitted then ({ s with cmds := s.cmds.map fun c => if c.intake = k.intake then { c with waited := s.count c, since := none }.finish abortEnd else c }, 1)
  else match k.op with
    | 0x21 =>
      let c := k.pf 0 9 0
      if k.started then (s.stopRun c abortEnd, 2) else endNow
    | 0x31 =>
      if ¬ k.started then endNow
      else match s.ctxOf r with
        | some (t, x) => (match s.ctxLeaders t x with
          | c :: _ => (s.stopRun c abortEnd, 2)
          | [] => (s.ctxFin t x (.safe abortEnd), 2))
        | none => (s, 3)
    | 0x22 => if k.started then ((s.strmStop r).endCmd r { abortEnd with result := k.acc }, 2) else endNow
    | 0x25 =>
      let c := k.pf 0 9 0
      if ¬ k.started then endNow
      else if (s.eng c).jreq = some r then
        (((s.modEng c fun e => { e with jreq := none }).setF (chB c) CHN_SEQ_JREQ.PEND 0).endCmd r abortEnd, 2)
      else if (s.eng c).jump.any (fun j => decide (j.cmd = r)) then ((s.unjump c).endCmd r abortEnd, 2)
      else (s, 3)
    | 0x01 => endNow
    | 0x48 =>
      if bitB (k.p 0) 0 then (s, 3)
      else if k.started then (s.jobEnd (k.pf 0 3 1) k.prog abortEnd, 2) else endNow
    | 0x40 => if k.started then (s.trigKill (k.pf 0 2 0) (some abortEnd) false, 2) else endNow
    | _ =>
      if k.op ∉ slicedOps then (s, 3)
      else if k.started then (s.modCmd r fun c => { c with stopAsked := some abortEnd }, 2)
      else endNow

/-- ABORT (R260): the named commands in intake order. [DEDUCED, log entry 34] -/
def execAbort (cmd : CmdRef) (s : State) : Res :=
  match s.ready? cmd opABORT with
  | none => done s
  | some a =>
    let all := bitB (a.p 0) 8
    let sq := a.pf 0 5 0
    let named := s.cmds.filter fun k => decide (k.sq = sq ∧ k.ending = none ∧ k.intake ≠ a.intake) && (all || decide (k.tag = a.pf 0 27 16))
    let r := named.foldl (fun (x : State × List Nat) k =>
      match x.1.cmds.find? fun c => decide (c.intake = k.intake ∧ c.ending = none) with
      | some k' => let y := x.1.abortOne k'; (y.1, x.2 ++ [y.2])
      | none => (x.1, x.2)) (s, [])
    let n (o : Nat) : Nat := (r.2.filter (· = o)).length % 65536
    let res := if all then n 1 + n 2 <<< 16 + n 3 <<< 32 else r.2.headD 0
    let s := (r.1.modCmd cmd fun c => { c with after := named.map fun k => k.intake }).endCmd cmd { status := scOK, result := res }
    done s.fetchAll

/-! ### DIAG (R249, R369) -/

/-- DIAG_ECHO. -/
def execDiagEcho (cmd : CmdRef) (s : State) : Res :=
  match s.ready? cmd opDIAG with
  | none => done s
  | some c =>
    if c.pf 0 15 0 ≠ 1 then done s
    else
      let o := s.output c c.block
      done (o.1.endCmd cmd { status := scOK, partialDone := o.2, result := c.outLen 48 })

/-- The black-box records in flash, newest first. -/
def State.bbRecords (s : State) : List (List Byte) :=
  match s.bbNewest with
  | none => []
  | some (i, _) => ((List.range 384).map fun k => (i + 384 - k) % 384).filterMap fun j => if s.bbHeld j then some (s.bbSlot j) else none

/-- DIAG_BLACKBOX: records from OFFSET on, newest first; fewer than asked for make it PARTIAL. -/
def execDiagBlackbox (cmd : CmdRef) (s : State) : Res :=
  match s.ready? cmd opDIAG with
  | none => done s
  | some c =>
    if c.pf 0 15 0 ≠ 3 then done s
    else
      let n := c.p 8 / 32
      let l := ((s.bbRecords.drop (c.p 4)).take n)
      let o := s.output c l.flatten
      done (o.1.endCmd cmd { status := scOK, partialDone := o.2 || decide (l.length < n), result := c.outLen (32 * l.length) })

end Sys2Proof.Machine
end

