-- ==== Sys2Proof/Machine/Thermal.lean ====
section
/-! DEFINITION. Meanings of the housekeeping round (chapter 16): sensors, temperatures, THERMAL, budgets, transfers due. -/

namespace Sys2Proof.Machine

/-- The quotient rounded to the nearest whole number, ties away from zero, for either sign of the divisor. -/
def roundQuot (a b : Int) : Int := if b < 0 then roundDiv (-a) b.natAbs else roundDiv a b.natAbs

/-- Numerator and denominator of the temperature of sensor n at a count, in 0.01 °C (R373). [DESIGN CHOICE, log entry 4] -/
def sensorTemp (n count : Nat) : Int × Int :=
  let d := (Config.sensorN85 n : Int) - Config.sensorN25 n
  (2500 * d + 6000 * ((count : Int) - Config.sensorN25 n), d)

/-- The count lies in the plausible band, −40 to +150 °C (R374). -/
def sensorInBand (n count : Nat) : Bool :=
  let e := sensorTemp n count
  if 0 < e.2 then decide (-4000 * e.2 ≤ e.1 ∧ e.1 ≤ 15000 * e.2) else if e.2 < 0 then decide (15000 * e.2 ≤ e.1 ∧ e.1 ≤ -4000 * e.2) else false

/-- Rounds run (R375). -/
def State.roundsRun (s : State) : Bool := !s.inReset && decide (2 ≤ s.getF 0 GLB_BOOT_STATUS.PHASE)

/-- ROUND_START (R375): MREF lies mrefOff ppb from the bandgap. [DEDUCED, log entry 48] -/
def execRoundStart (mrefOff : Int) (s : State) : Res :=
  if ¬ s.roundsRun ∨ s.round ≠ 0 then done s
  else
    let s := { s with round := 1 }
    done (if 500000 < mrefOff.natAbs then s.detect 0x0D scMODULE 0 0xF0 else s)

/-- Sensor n takes its count (R373, R374): a count outside the plausible band marks it broken and is not converted, TEMP stands.
[DEDUCED, log entry 48] -/
def State.sensorTake (s : State) (n count : Nat) : State :=
  let b := 4 * n
  let s := s.setF b THM_SCNT.COUNT count
  if ¬ sensorInBand n count then
    let s := { s with good := tabSet (fun _ => 0) s.good n 0 }
    let s := if s.isSet b THM_SENS.BROKEN then s else { s with newBroken := setBit s.newBroken n true }
    s.setFs b [(THM_SENS.BROKEN, 1), (THM_SENS.VALID, 0)]
  else
    let e := sensorTemp n count
    let s := s.setF b THM_SENS.TEMP (unsigned 16 (roundQuot e.1 e.2))
    if s.isSet b THM_SENS.BROKEN then
      let g := tabGet (fun _ => 0) s.good n + 1
      if 10 ≤ g then { s.setFs b [(THM_SENS.BROKEN, 0), (THM_SENS.VALID, 1)] with good := tabSet (fun _ => 0) s.good n 0 }
      else { s with good := tabSet (fun _ => 0) s.good n g }
    else s.setF b THM_SENS.VALID 1

/-- SENSOR_GATE_END (R373, R374). -/
def execSensorGateEnd (counts : List (Fin 262144)) (s : State) : Res :=
  if ¬ s.roundsRun ∨ s.round ≠ 1 then done s
  else done { (List.range 34).foldl (fun s n => s.sensorTake n (counts.getD n 0).val) s with round := 2 }

/-! ### Temperatures (R376, R377) -/

def State.deratHI (s : State) : Int := signed 16 (s.getF 0 THM_DERATE.HI)
def State.deratLO (s : State) : Int :=
  let lo := signed 16 (s.getF 0 THM_DERATE.LO)
  if lo < s.deratHI then lo else s.deratHI - 100
def State.tripTemp (s : State) : Int := clampN 9000 10500 (s.getF 0 THM_TRIP.TEMP)

/-- What a round forms over a list of sensors: the mean and whether it is valid, HOT, and whether a sensor is broken. -/
structure Heat where
  mean : Int
  valid : Bool
  hot : Int
  broken : Bool
  deriving DecidableEq, Repr

/-- MEAN, validity and HOT over the sensors ns. -/
def State.heat (s : State) (ns : List Nat) : Heat :=
  let ok := (ns.filter fun n => s.isSet (4 * n) THM_SENS.VALID).map fun n => signed 16 (s.getF (4 * n) THM_SENS.TEMP)
  let broken := ns.any fun n => s.isSet (4 * n) THM_SENS.BROKEN
  let top := ok.foldl (fun m t => max m t) (ok.headD s.deratHI)
  { mean := roundDiv (ok.foldl (· + ·) 0) (max 1 ok.length), valid := decide (2 ≤ ok.length),
    hot := if ok = [] then s.deratHI else if broken then max top s.deratHI else top, broken := broken }

/-- THERMAL at a scope and unit: detected where its condition starts, ended 5.00 °C below the threshold (R377). -/
def State.thermal (s : State) (scope unit : Nat) (h : Heat) : State :=
  let i := s.inst (instKey 0x06 scope unit)
  let present := i.force && i.cond
  if ¬ h.valid then (if present then s else s.detect 0x06 scope unit 0x80000000)
  else if s.tripTemp < h.hot then (if present then s else s.detect 0x06 scope unit (unsigned 32 h.hot))
  else if h.hot ≤ s.tripTemp - 500 then s.condEnd 0x06 scope unit
  else s

/-- SENSOR_BROKEN at a scope and unit: one detection for the sensors newly broken in this round; its condition is a broken mark. [DEDUCED, log entry 47] -/
def State.sensorFault (s : State) (scope unit : Nat) (ns : List Nat) : State :=
  match ns.find? fun n => s.newBroken.testBit n with
  | some n => s.detect 0x07 scope unit n
  | none => if ns.any fun n => s.isSet (4 * n) THM_SENS.BROKEN then s else s.condEnd 0x07 scope unit

/-! ### Budgets (R379) -/

/-- f of a temperature, numerator and denominator. -/
def State.derateOf (s : State) (h : Heat) : Nat × Nat :=
  let fl := clampN 10 100 (s.getF 0 THM_GOV.FLOOR)
  if ¬ h.valid ∨ s.deratHI ≤ h.hot then (fl, 100)
  else if h.hot ≤ s.deratLO then (1, 1)
  else
    let w := (s.deratHI - s.deratLO).toNat
    (100 * w - (100 - fl) * (h.hot - s.deratLO).toNat, 100 * w)

/-- The smaller of two fractions. -/
def fracMin (a b : Nat × Nat) : Nat × Nat := if a.1 * b.2 ≤ b.1 * a.2 then a else b

/-- B_INST of tile t from B_ABS and the last round's F. -/
def State.setInstBudget (s : State) (t : Nat) : State :=
  let f := (s.tile t).derate
  s.setF (0x10 * t) THM_TILE_GOV.INST (s.bAbs t * f.1 / f.2)

/-! ### Transfers (R213) -/

/-- Tile t becomes due by its temperature or by its last transfer's age. [DEDUCED, log entry 48] -/
def State.xferDue (s : State) (t : Nat) : Bool :=
  let dt := (s.getF 0 THM_STATUS.TVALID).testBit t && decide (clampN 5 500 (s.getF 0 CAL_DELTA_T.DT) < s.deltaT t)
  let age := match s.xferAge t with | some a => decide (clampN 60 86400 (s.getF 0 CAL_MAX_AGE.SEC) ≤ a) | none => false
  dt || age

/-- A due transfer of tile t may start. -/
def State.xferMayStart (s : State) (t : Nat) : Bool :=
  s.isSet 0 CAL_CTRL.XFER_EN && decide (s.mode = stREADY ∨ s.mode = stACTIVE) && !s.svcEntry && !s.tileQ t && !s.isSet 0 CAL_STATUS.ANCHOR_RUN &&
    !s.isSet 0 CAL_STATUS.ANCHOR_STAGED && !s.isSet (t * 0x10) CAL_TILE_ROT.XFER &&
    (match (s.tile t).xferEnd with | some e => decide (tclkHz ≤ s.uptime - e) | none => true)

/-- The round judges tile t's transfer. -/
def State.xferJudge (s : State) (t : Nat) : State :=
  let b := t * 0x10
  let s := if (s.mode = stREADY ∨ s.mode = stACTIVE ∨ s.mode = stSERVICE ∨ s.mode = stSAFE) ∧ s.xferDue t then s.setF b CAL_TILE_ROT.DUE 1 else s
  if s.isSet b CAL_TILE_ROT.DUE ∧ s.xferMayStart t then
    (s.setF b CAL_TILE_ROT.XFER 1).modTile t fun x =>
      { x with xferStep := 1, acq := 2 ^ 137 - 1, xferStart := s.uptime, xferTemp := s.getF (0x10 * t) THM_TILE_TEMP.MEAN }
  else s

/-- Tile t's temperatures, faults and budget of the round. -/
def State.publishTile (s : State) (core : Heat) (t : Nat) : State :=
  let b := 0x10 * t
  let ns := (List.range 4).map (4 * t + ·)
  let h := s.heat ns
  let s := if h.valid then s.setF b THM_TILE_TEMP.MEAN (unsigned 16 h.mean) else s
  let s := (s.setF b THM_TILE_TEMP.HOT (unsigned 16 h.hot)).setF 0 THM_STATUS.TVALID (setBit (s.getF 0 THM_STATUS.TVALID) t h.valid)
  let s := (s.sensorFault scTILE t ns).thermal scTILE t h
  let f := fracMin (s.derateOf h) (s.derateOf core)
  (s.modTile t fun x => { x with derate := f }).setInstBudget t

/-- ROUND_PUBLISH (R376, R377, R379, R213); the meters' energy enters here. [DEDUCED, log entry 48] -/
def execRoundPublish (uj : List Nat) (s : State) : Res :=
  if ¬ s.roundsRun ∨ s.round ≠ 2 then done s
  else
    let ns := [32, 33]
    let h := s.heat ns
    let s := if h.valid then s.setF 0 THM_CORE.MEAN (unsigned 16 h.mean) else s
    let s := s.setFs 0 [(THM_CORE.HOT, unsigned 16 h.hot), (THM_STATUS.CVALID, b2n h.valid)]
    let s := (s.sensorFault scMODULE 0 ns).thermal scMODULE 0 h
    let s := (List.range 8).foldl (fun s t => s.publishTile h t) s
    let s := s.setF 0 THM_STATUS.BROKEN ((List.range 34).filter fun n => s.isSet (4 * n) THM_SENS.BROKEN).length
    let s := (List.range 8).foldl State.xferJudge s
    let s := (List.range 8).foldl (fun s t => let a := THM_TEN_LO.UJ.off + 8 * t; s.setPair a ((s.pair a + uj.getD t 0) % 2 ^ 64)) s
    done { s with round := 0, newBroken := 0 }

end Sys2Proof.Machine
end

