-- ==== Sys2Proof/Machine/View.lean ====
section
/-! DEFINITION. What a read of the window returns: registers with the fields that mirror other state (R5, R430), the latched HI halves
(R432, R401), the diagnostic SRAM windows (R439 to R442). -/

namespace Sys2Proof.Machine

/-! ### Summaries -/

/-- A summary word of fault instances: LEVEL, UNACK, STICKY of those in force, and bit or count INFORCE (R372). -/
def instSummary (l : List Inst) : Nat × Bool × Bool :=
  (l.foldl (fun m i => max m i.level) 0, l.any fun i => i.unack, l.any fun i => i.sticky)

/-- The instances in force that p selects by key. -/
def State.inForce (s : State) (p : Nat → Bool) : List Inst := (s.insts.filter fun e => e.2.force && p e.1).map Prod.snd

/-- The summary of one unit: its own-scope instances and its last detection (R372). -/
def State.unitSummary (s : State) (scope unit : Nat) : Word :=
  let l := s.inForce fun k => decide (keyScope k = scope ∧ keyUnit k = unit)
  let m := instSummary l
  BitVec.ofNat 32 (m.1 <<< 30 + b2n m.2.1 <<< 29 + b2n m.2.2 <<< 28 + b2n (decide (l ≠ [])) <<< 27 +
    tabGet (fun _ => 0) s.lastCls (scope * 2048 + unit))

/-- FLT_STATUS: the stored ACKIGN, and the whole module's summary. -/
def State.fltStatus (s : State) : Word :=
  let l := s.inForce fun _ => true
  let m := instSummary l
  s.rd FLT_STATUS.ACKIGN.off ||| BitVec.ofNat 32 (m.1 <<< 30 + b2n m.2.1 <<< 29 + b2n m.2.2 <<< 28 + min 65535 l.length)

/-- SPB_STATUS (R413); a WRITE frame's words are still being applied. -/
def State.spbStatus (s : State) (wbusy : Bool) : Word :=
  let st := s.rd SPB_STATUS.OVERRUN.off &&& 3
  st ||| BitVec.ofNat 32 (s.getF 0 GLB_BOOT_STATUS.PHASE <<< 28 + s.mode <<< 24 + s.getF 0 SPB_CFG.DDR <<< 8 + b2n (!s.clocked) <<< 4 + b2n wbusy <<< 3)

/-! ### Mirrors -/

def Fld.putIn (f : Fld) (v : Nat) (w : Word) : Word := f.put w v

/-- RING_SQn_STATUS. -/
def State.sqStatus (s : State) (n : Nat) : Word :=
  let w := RING_SQ_STATUS.INFLIGHT.put (s.rd (sqA n + RING_SQ_STATUS.DBERR.off)) (s.sqInflight n)
  let w := RING_SQ_STATUS.BUSY.put w (b2n (!s.isSet (sqA n) RING_SQ_CFG.EN && decide (s.sqInflight n ≠ 0)))
  match s.head? n with
  | some c => RING_SQ_STATUS.WAIT.put (RING_SQ_STATUS.ORDER.put w (b2n c.order)) c.held
  | none => w

/-- RING_INFLIGHT; C0 stands at the highest number it can show. [DEDUCED, log entry 38] -/
def State.ringInflight (s : State) : Word :=
  BitVec.ofNat 32 ((min 511 (s.cmds.filter fun c => c.admitted && decide (c.cls = 0)).length) <<< 16 + (s.cmds.filter fun c => c.admitted).length)

/-- A register of GLB at its offset. -/
def State.viewGlb (s : State) (o : Nat) : Word :=
  let w := s.rd o
  if o = GLB_TB_LO.TB.off then BitVec.ofNat 32 s.tb
  else if o ∈ [GLB_SYNC_STAMP_LO.STAMP.off, GLB_TRIG_TX_LO.STAMP.off, 0x80, 0x88, 0x90, 0x98] then BitVec.ofNat 32 (s.pair o)
  else if 0x10000 ≤ o ∧ o < 0x10800 ∧ (o - 0x10000) % 0x20 = 0x18 then s.sqStatus ((o - 0x10000) / 0x20)
  else if 0x10800 ≤ o ∧ o < 0x11000 ∧ (o - 0x10800) % 0x20 = 0x14 then RING_CQ_STATUS.RSVD.put w (s.cqRsvd ((o - 0x10800) / 0x20))
  else if o = RING_INFLIGHT.TOTAL.off then s.ringInflight
  else w

/-- A register of LNK at its address. -/
def State.viewLnk (s : State) (a : Nat) : Word :=
  let p := (a - 0x100000) / 0x1000
  if p < 4 ∧ a % 0x1000 = 0x44 then
    BitVec.ofNat 32 (b2n (s.crStall p) <<< 24 + (s.port p).replay.length <<< 16 + (s.port p).seq)
  else if a = LNK_RQSTAT.OUT.off then BitVec.ofNat 32 s.reads.length
  else s.rd a

/-- A 32-bit word of one bit for each source from 32 w on. -/
def srcWord (w : Nat) (p : Nat → Bool) : Word :=
  BitVec.ofNat 32 ((List.range 32).foldl (fun m i => m + b2n (p (32 * w + i)) <<< i) 0)

/-- A register of IRQ at its address. -/
def State.viewIrq (s : State) (a : Nat) : Word :=
  let w := s.rd a
  let o := a - 0x200000
  if a = IRQ_STATUS.LINKWAIT.off then IRQ_STATUS.LINKWAIT.put w (b2n s.linkWait)
  else if a = IRQ_SW_CLR.SW.off then s.rd IRQ_SW.SW.off
  else if 0x1000 ≤ o ∧ o < 0x5000 then IRQ_SMAP.LVL.put w (b2n (s.lvl ((o - 0x1000) / 4)))
  else if 0x5000 ≤ o ∧ o < 0x6000 ∧ o % 8 = 4 then
    IRQ_VEC_TGT.NPEND.put w (min 4095 (s.srcsOf ((o - 0x5000) / 8) fun st => decide (st = srcPEND)).length)
  else if 0x6000 ≤ o ∧ o < 0x7000 ∧ o % 0x40 = 4 then IRQ_TGT_STATE.RFULL.put w (b2n (s.rFull ((o - 0x6000) / 0x40)))
  else if 0x7000 ≤ o ∧ o < 0x7200 then srcWord ((o - 0x7000) / 4) s.lvl
  else if 0x7200 ≤ o ∧ o < 0x7400 then srcWord ((o - 0x7200) / 4) fun n => decide (s.srcState n = srcPEND ∨ s.srcState n = srcAGAIN)
  else w

/-- A register of FLT at its address. -/
def State.viewFlt (s : State) (a : Nat) : Word :=
  let o := a - 0x300000
  if o = 0 then s.fltStatus
  else if o = 4 then s.unitSummary scMODULE 0
  else if 0x40 ≤ o ∧ o < 0x50 then s.unitSummary scPORT ((o - 0x40) / 4)
  else if 0x60 ≤ o ∧ o < 0x80 then s.unitSummary scTILE ((o - 0x60) / 4)
  else if 0x1000 ≤ o ∧ o < 0x2000 then s.unitSummary scCHANNEL ((o - 0x1000) / 4)
  else if 0x2000 ≤ o ∧ o < 0x2080 then s.unitSummary scSHADE ((o - 0x2000) / 4)
  else s.rd a

/-- A register of CAL at its address. -/
def State.viewCal (s : State) (a : Nat) : Word :=
  let w := s.rd a
  let o := a - 0x400000
  let age (x : Option Nat) (unit : Nat) : Nat := match x with | some n => min 0xFFFF (n / unit) | none => 0xFFFF
  if a = CAL_NOW_LO.SEC.off then BitVec.ofNat 32 s.calTime
  else if 0x100 ≤ o ∧ o < 0x180 ∧ o % 0x10 = 0 then CAL_TILE_TX.AGE.put w (age (s.xferAge ((o - 0x100) / 0x10)) 1)
  else if 0x1000 ≤ o ∧ o < 0x2080 then
    let u := (o - 0x1000) / 4
    CAL_FE_STATE.UCLASS.put (CAL_FE_STATE.AGE.put w (age (s.rotAge u) 60)) (s.uclass u (s.getF (feB u) CHN_FE_CFG.VSPAN))
  else w

/-- A register of tile t at offset o. -/
def State.viewTil (s : State) (t o : Nat) : Word :=
  let w := s.rd (tileBase t + o)
  if o = TIL_STATUS.QUIESCED.off then TIL_STATUS.QUIESCED.put w (b2n (s.tileQ t))
  else if 0x2100 ≤ o ∧ o < 0x2300 ∧ 0x40 ≤ (o - 0x2100) % 0x80 ∧ (o - 0x2100) % 0x80 < 0x60 then
    let c := (o - 0x2100) / 0x80
    match (s.ctx t c).idx[((o - 0x2100) % 0x80 - 0x40) / 4]? with
    | some v => if s.getF (tileBase t + 0x80 * c) APG_CTX_STATUS.STATE ≠ 0 then BitVec.ofNat 32 v else w
    | none => w
  else w

/-- The register at address a as it stands, halves of pairs included; a reserved address reads 0 (R430, R431). -/
def State.viewWord (s : State) (a : Nat) : Word :=
  if (findReg a).isNone then 0
  else match locate a with
  | (.glb, _, o) => s.viewGlb o
  | (.lnk, _, _) => s.viewLnk a
  | (.irq, _, _) => s.viewIrq a
  | (.flt, _, _) => s.viewFlt a
  | (.cal, _, _) => s.viewCal a
  | (.sp, _, _) => if a = SPB_STATUS.OVERRUN.off then s.spbStatus false else s.rd a
  | (.til, t, o) => s.viewTil t o
  | (.front, _, o) => if o = CHN_TDC_LAST_LO.STAMP.off then BitVec.ofNat 32 (s.pair a) else s.rd a
  | _ => s.rd a

/-! ### Pairs (R432) -/

/-- The LO register of a read-only pair. -/
def isLo (a : Nat) : Bool :=
  match locate a with
  | (.glb, _, o) => decide (o ∈ [0x30, 0x48, 0x68, 0x80, 0x88, 0x90, 0x98])
  | (.lnk, _, _) => decide (a < 0x104000 ∧ 0x100 ≤ a % 0x1000 ∧ a % 0x1000 < 0x240 ∧ a % 0x40 = 0x18)
  | (.cal, _, _) => decide (a ∈ [0x400020, 0x400028, 0x400030])
  | (.thm, _, _) => decide (0x500100 ≤ a ∧ a < 0x500140 ∧ a % 8 = 0)
  | (.til, _, o) => decide (0x2100 ≤ o ∧ o < 0x2300 ∧ (o - 0x2100) % 0x80 = 0x60)
  | (.front, _, o) => decide (o = 0x18C)
  | (.engine, _, o) => decide (o = 0x320)
  | _ => false

def isHi (a : Nat) : Bool := decide (4 ≤ a) && isLo (a - 4)

/-- The live HI half of the pair whose LO register lies at a. -/
def State.liveHi (s : State) (a : Nat) : Nat :=
  match locate a with
  | (.glb, _, o) => if o = 0x30 then s.tb / 2 ^ 32 % 2 ^ 24 else s.pair a / 2 ^ 32 % 2 ^ 32
  | (.front, _, _) => s.pair a / 2 ^ 32 % 2 ^ 32
  | (.cal, _, _) => if a = 0x400020 then s.calTime / 2 ^ 32 % 2 ^ 32 else (s.rd (a + 4)).toNat
  | _ => (s.rd (a + 4)).toNat

/-- What the link's latch of the HI register at a holds. -/
def State.linkHi (s : State) (a : Nat) : Nat := tabGet (fun _ => 0) s.latched a

/-- A read of the LO register at a over the link latches the HI half. -/
def State.latchHi (s : State) (a : Nat) : State := { s with latched := tabSet (fun _ => 0) s.latched (a + 4) (s.liveHi a) }

/-! ### Which reads are served (R402, R434) -/

/-- A read of the register at address a is served; else it returns 0. -/
def State.readOk (s : State) (a : Nat) : Bool :=
  !s.inReset && (s.clocked || noClkServed a) &&
    (!s.inTileReset a || decide ((a - 0x800000) % 0x100000 = 0))

/-! ### Diagnostic SRAM windows (R439 to R442) -/

/-- A place in the diagnostic area: control store of an engine, sequence store of a channel, capture and APG memory of a tile, staging,
supervisor memory, committed and staging calibration buffer; and the byte offset in it. -/
inductive DPart where
  | store (e o : Nat)
  | seq (c o : Nat)
  | cap (t o : Nat)
  | apg (t o : Nat)
  | stage (o : Nat)
  | sup (o : Nat)
  | calC (o : Nat)
  | calS (o : Nat)
  | absent
  deriving DecidableEq, Repr

/-- The place that address a shows over SPB or over the link (R439, R440). -/
def State.diagPart (s : State) (a : Nat) (spb : Bool) : DPart :=
  let b := if spb then 4 else 0
  let cp := s.getF b GLB_DWIN_LNK.CPAGE
  let o := a % 0x1000000
  match a / 0x1000000 with
  | 1 => .store (o / 0x4000) (o % 0x4000)
  | 2 =>
    let t := 2 * s.getF b GLB_DWIN_LNK.SEQPG + o / 0x800000
    if o % 0x10000 < 0xC000 then .seq (128 * t + o % 0x800000 / 0x10000) (o % 0x10000) else .absent
  | 3 =>
    if cp < 8 then (if o < 0x200000 then .cap cp o else if o < 0x280000 then .apg cp (o - 0x200000) else .absent)
    else if cp = 8 then .stage o
    else if cp = 9 then
      (if o < 0x200000 then .sup o else if o < 0x300000 then .calC (o - 0x200000) else if o < 0x400000 then .calS (o - 0x300000) else .absent)
    else .absent
  | _ => .absent

/-- The tile a place belongs to. -/
def DPart.tile : DPart → Option Nat
  | .seq c _ => some (c / 128)
  | .cap t _ => some t
  | .apg t _ => some t
  | .store e _ => some (e / 128)
  | _ => none

/-- Its place in the SRAM. -/
def DPart.mem : DPart → Nat
  | .seq c o => seqBase c + o
  | .cap t o => capBase t + o
  | .apg t o => apgBase t + o
  | .stage o => stageBase + o
  | .sup o => supBase + o
  | .calC o => calBase + o
  | .calS o => calStage + o
  | _ => 0

/-- Region code, owning unit and 64-bit word of a SECDED-protected place (R14, R357). -/
def DPart.ecc : DPart → Option (Nat × Nat × Nat)
  | .seq c o => some (0, c, o / 8)
  | .cap t o => some (1, t, o / 8)
  | .apg t o => some (2, t, o / 8)
  | .stage o => some (3, 0, o / 8)
  | .calC o => some (4, 0, o / 8)
  | .calS o => some (4, 0, (0x100000 + o) / 8)
  | .sup o => some (5, 0, o / 8)
  | _ => none

/-- The patch staging area holds byte offset o of supervisor memory (R435). -/
def State.inStaging (s : State) (o : Nat) : Bool :=
  let b := 1024 * s.getF 0 GLB_DWIN_STAGE.BASE
  decide (b ≤ o ∧ o < b + 1024 * s.getF 0 GLB_DWIN_STAGE.SIZE)

/-- A place whose contents are the module's own, or not yet cleared in this boot (R385, R440): an open value. [DESIGN CHOICE, log entry 44] -/
def State.diagOpen (s : State) (d : DPart) : Bool :=
  (decide (s.mode = stBOOT ∧ s.getF 0 GLB_BOOT_STATUS.PHASE ≤ 3) &&
    match d with
    | .absent => false
    | .store _ _ => false
    | .calC _ => !s.isSet 0 GLB_RESET_CAUSE.WARM
    | .calS _ => !s.isSet 0 GLB_RESET_CAUSE.WARM
    | _ => true) ||
  match d with
  | .apg _ o => decide (0x52800 ≤ o ∧ o < 0x7C000)
  | .sup o => !s.inStaging o
  | _ => false

/-- A place may be read now (R324, R434, R441). -/
def State.diagReadOk (s : State) (d : DPart) : Bool :=
  !s.inReset && s.clocked &&
    (match d.tile with | some t => !s.isSet (tileBase t) TIL_STATUS.RESET | none => true) &&
    match d with
    | .store _ _ => s.serviceOpen
    | .sup _ => s.serviceOpen
    | .absent => false
    | _ => true

/-- The word at a place: of the microcode image (R323), of the committed record as it would be archived (R224), or of the SRAM. [DESIGN CHOICE, log entry 44] -/
def State.diagWord (s : State) (d : DPart) : Nat :=
  match d with
  | .store _ o => bits (tabGet (fun _ => 0) s.cs (o / 16)) (32 * (o % 16 / 4) + 31) (32 * (o % 16 / 4))
  | .absent => 0
  | .calC o => if s.mode = stBOOT then s.cal o 4 else (s.sealRecord (s.getF 0 CAL_ARCH_CNT.COUNT)).cal o 4
  | d => s.sramN d.mem 4

/-- A read of a place; err: none good, some false a single-bit error, some true an uncorrectable one (R13, R442).  Answers no word for the
last. -/
def State.diagRead (s : State) (d : DPart) (err : Option Bool) : Option Word × State :=
  if ¬ s.diagReadOk d then (some 0, s)
  else
    let s' := match err, d.ecc with
      | some unc, some e => s.detectEcc e.1 unc e.2.1 e.2.2
      | _, _ => s
    if err = some true ∧ d.ecc.isSome then (none, s')
    else if s.diagOpen d then
      let r := s'.draw 32
      (some (BitVec.ofNat 32 r.1), r.2)
    else (some (BitVec.ofNat 32 (s.diagWord d)), s')

/-! ### Reads by path -/

/-- A read that latches nothing: of a register, HI halves as the link's latch holds them, or of a diagnostic word. -/
def State.readPlain (s : State) (a : Nat) (spb : Bool) (err : Option Bool) : Option Word × State :=
  if a < 0x1000000 then
    (some (if s.readOk a then (if isHi a then BitVec.ofNat 32 (s.linkHi a) else s.viewWord a) else 0), s)
  else s.diagRead (s.diagPart a spb) err

/-- A read over the link (R432). -/
def State.readLink (s : State) (a : Nat) (err : Option Bool) : Option Word × State :=
  if isLo a ∧ s.readOk a then (some (s.viewWord a), s.latchHi a) else s.readPlain a false err

end Sys2Proof.Machine
end

