-- ==== Sys2Proof/Machine/RegWrite.lean ====
section
/-! DEFINITION. What a host write of one word does, whatever path it came by (R5, R402): the plain effect of the field types, and the
registers whose writes do more. -/

namespace Sys2Proof.Machine

/-! ### Field types (R5) -/

/-- What a write of w does to one field. -/
def FieldDef.write (f : FieldDef) (old w : Word) : Word :=
  let g : Fld := ⟨0, f.hi, f.lo⟩
  match f.ty with
  | .rw => g.put old (g.get w)
  | .w1c => old &&& ~~~(w &&& g.mask)
  | .w1cf => if g.get w = 0 then old else g.put old 0
  | .w1s => old ||| (w &&& g.mask)
  | .ro => old
  | .wo => old

/-- The plain effect of a write: every field by its type; reserved bits, and addresses no table names, take nothing. -/
def State.fieldWrite (s : State) (a : Nat) (w : Word) : State :=
  match findReg a with
  | none => s
  | some (r, _) => s.wr a (r.fields.foldl (fun old f => f.write old w) (s.rd a))

/-- A register with a field the host may write and the module keeps. -/
def isRw (a : Nat) : Bool :=
  match findReg a with
  | none => false
  | some (r, _) => r.fields.any fun f => decide (f.ty = .rw)

/-! ### GLB -/

/-- GLB_SYNC_CTRL.APPLY (R182, R183): the skew is added, EPH loaded, EPOCH_VALID set. -/
def State.syncApply (s : State) : State :=
  if s.mode ≠ stREADY ∧ s.mode ≠ stSERVICE then s.setF 0 GLB_SYNC_STATUS.APIGN 1
  else
    let d := signed 64 (s.rd64 GLB_SYNC_SKEW_LO.SKEW.off)
    let s := { s with tb := unsigned 56 ((s.tb : Int) + d / 200) }
    s.setFs 0 [(GLB_SYNC_STATUS.EPH, (d % 200).toNat), (GLB_STATUS.EPOCH_VALID, 1)]

/-- ARM (R181). -/
def State.syncArm (s : State) : State :=
  { s.setFs 0 [(GLB_SYNC_STATUS.SEEN, 0), (GLB_SYNC_STATUS.EXTRA, 0)] with syncArmed := true }

/-- INVAL (R183). -/
def State.syncInval (s : State) : State := s.setFs 0 [(GLB_STATUS.EPOCH_VALID, 0), (GLB_SYNC_STATUS.EPH, 0)]

/-- A write of GLB_SYNC_CTRL; of several bits APPLY acts first, INVAL last (log entry 41). -/
def State.syncCtrl (s : State) (w : Word) : State :=
  let s := if GLB_SYNC_CTRL.APPLY.get w = 1 then s.syncApply else s
  let s := if GLB_SYNC_CTRL.ARM.get w = 1 then s.syncArm else s
  if GLB_SYNC_CTRL.INVAL.get w = 1 then s.syncInval else s

/-- A write of GLB_TRIG_CTRL.PULSE (R201): the lines pulse, and TX takes the epoch time of the next ECLK edge, one to four TCLK ahead by the dividers' phase (R15). [DEDUCED, log entry 42] -/
def State.trigPulse (s : State) (w : Word) : State :=
  let lines := (List.range 4).filter fun n =>
    (GLB_TRIG_CTRL.PULSE.get w).testBit n && (s.lineFunc n == 2 || (s.lineFunc n == 3 && s.domLines (n / 2 + 1)))
  if lines = [] then s
  else
    let s := lines.foldl (fun s n => s.pulse n (s.uptime + (4 - s.div % 4))) s
    s.setPair GLB_TRIG_TX_LO.STAMP.off (stampOf (s.linNow + 200 * (4 - s.div % 4)))

/-- A write of GLB_TRIG_CFG (R200): a domain whose lines come or go gains or loses its arm. [DEDUCED, log entry 43] -/
def State.trigCfg (s : State) (w : Word) : State :=
  let had := [1, 2].map s.domArm
  let s := s.wr GLB_TRIG_CFG.LINES.off (w &&& 0x77777777)
  (List.range 2).foldl (fun (s : State) i =>
    let d := i + 1
    if had.getD i false = s.domArm d then s else if s.domArm d then s.domArmed d else s.domRelease d) s

/-- A write of MC_INSTALL (R338): a START outside SERVICE, in a SERVICE that waits to end (R23), or while BUSY, is discarded. [DEDUCED, log entry 43] -/
def State.mcInstall (s : State) (w : Word) : State :=
  if MC_INSTALL.START.get w = 1 then
    if ¬ s.serviceOpen ∨ s.isSet 0 MC_INSTALL.BUSY then s.setF 0 MC_STATUS.INSTIGN 1
    else s.setFs 0 [(MC_INSTALL.OFFSET, MC_INSTALL.OFFSET.get w), (MC_INSTALL.COMMIT_SVN, MC_INSTALL.COMMIT_SVN.get w),
      (MC_INSTALL.RESULT, 0), (MC_INSTALL.BUSY, 1)]
  else s.fieldWrite MC_INSTALL.START.off w

/-- A write of MC_FSEL (R331, R339): the frame of the engine as it stands. -/
def State.mcFsel (s : State) (w : Word) : State :=
  let e := MC_FSEL.ENGINE.get w
  let s := s.setF 0 MC_FSEL.ENGINE e
  (List.range 8).foldl (fun (s : State) k => s.setF (4 * k) MC_FRAME.WORD ((s.mic e).frame.getD k 0)) s

/-- A write of a register of GLB at offset o. -/
def State.glbWrite (s : State) (o : Nat) (w : Word) (spb : Bool) : State :=
  if o = GLB_CTRL.SVC_REQ.off then s.glbCtrl (GLB_CTRL.SVC_REQ.get w == 1) (GLB_CTRL.SVC_EXIT.get w == 1) false
  else if o = GLB_RESET.KEY.off then s.glbReset w spb
  else if o = GLB_SYNC_CTRL.ARM.off then s.syncCtrl w
  else if o = GLB_TRIG_CTRL.PULSE.off then s.trigPulse w
  else if o = GLB_TRIG_CFG.LINES.off then s.trigCfg w
  else if o = MC_INSTALL.START.off then s.mcInstall w
  else if o = MC_FSEL.ENGINE.off then s.mcFsel w
  else if 0x10000 ≤ o ∧ o < 0x10800 then
    let n := (o - 0x10000) / 0x20
    match (o - 0x10000) % 0x20 with
    | 0 => s.sqCfg n w
    | 4 => s.ringBase (sqA n) RING_SQ_CFG.EN RING_SQ_STATUS.CFGERR o (w &&& 0xFFFFF000)
    | 8 => s.ringBase (sqA n) RING_SQ_CFG.EN RING_SQ_STATUS.CFGERR o (w &&& 0xFFFF)
    | 0x10 => s.sqDoorbell n w
    | _ => s.fieldWrite o w
  else if 0x10800 ≤ o ∧ o < 0x11000 then
    let m := (o - 0x10800) / 0x20
    match (o - 0x10800) % 0x20 with
    | 0 => s.cqCfg m w
    | 4 => s.ringBase (cqA m) RING_CQ_CFG.EN RING_CQ_STATUS.CFGERR o (w &&& 0xFFFFF000)
    | 8 => s.ringBase (cqA m) RING_CQ_CFG.EN RING_CQ_STATUS.CFGERR o (w &&& 0xFFFF)
    | 0xC => s.cqDoorbell m w
    | _ => s.fieldWrite o w
  else s.fieldWrite o w

/-! ### LNK, IRQ, FLT, CAL, THM, SP -/

/-- A write of a register of LNK. [DEDUCED, log entry 43] -/
def State.lnkWrite (s : State) (a : Nat) (w : Word) : State :=
  let p := (a - 0x100000) / 0x1000
  let r := a % 0x1000
  if p < 4 ∧ r = 0 then s.lnkCtrl p w
  else if p < 4 ∧ 0x100 ≤ r ∧ r < 0x240 ∧ r % 0x40 = 0 then s.laneCfg p ((r - 0x100) / 0x40) w
  else if 0x108008 ≤ a ∧ a < 0x108018 then s.wr a (w &&& 0xBBBBBBBB)
  else s.fieldWrite a w

/-- A write of a register of IRQ. -/
def State.irqWrite (s : State) (a : Nat) (w : Word) : State :=
  let o := a - 0x200000
  if a = IRQ_EOI.SOURCE.off then s.eoi w
  else if a = IRQ_SW_CLR.SW.off then s.wr IRQ_SW.SW.off (s.rd IRQ_SW.SW.off &&& ~~~w)
  else if 0x1000 ≤ o ∧ o < 0x5000 then s.smapWrite ((o - 0x1000) / 4) w
  else if 0x5000 ≤ o ∧ o < 0x6000 ∧ o % 8 = 0 then s.vecCfg ((o - 0x5000) / 8) w
  else if 0x6000 ≤ o ∧ o < 0x7000 then
    let g := (o - 0x6000) / 0x40
    match o % 0x40 with
    | 0 => s.tgtCtrl g w
    | 4 => s.doze g w
    | 0x20 => s.rbase g IRQ_TGT_RBASE_LO.ADDR w
    | 0x24 => s.rbase g IRQ_TGT_RBASE_HI.ADDR w
    | 0x2C => s.rcons g w
    | _ => s.fieldWrite a w
  else s.fieldWrite a w

/-- A write of a register of FLT. -/
def State.fltWrite (s : State) (a : Nat) (w : Word) : State :=
  if a = FLT_ACK.CLASS.off then s.fltAck w
  else if a = FLT_UNSTICK.CLASS.off then s.fltUnstick w
  else if a = FLT_SEL.CLASS.off then s.fltSel w
  else if 0x300400 ≤ a ∧ a < 0x300800 ∧ s.isSet (a - 0x300400) FLT_CLASS.FIXED then
    s.fieldWrite a (FLT_CLASS.LEVEL.put w (s.getF (a - 0x300400) FLT_CLASS.LEVEL))
  else s.fieldWrite a w

/-- A write of CAL_NOW_HI (R207): the pair is the time, unless earlier than the restored commit time or the present count. -/
def State.calNowHi (s : State) (w : Word) : State :=
  let v := s.getF 0 CAL_NOW_LO.SEC + 2 ^ 32 * w.toNat
  if v < s.calBack ∨ v < s.calTime then s.setF 0 CAL_STATUS.TIME_BACK 1
  else { s.setF 0 CAL_STATUS.TIME_SET 1 with calSet := v, calAt := s.uptime }

/-- A write of a register of CAL. -/
def State.calWrite (s : State) (a : Nat) (w : Word) : State :=
  if a = CAL_NOW_HI.SEC.off then s.calNowHi w else s.fieldWrite a w

/-- A write of a register of THM: a budget counts at once (R379). -/
def State.thmWrite (s : State) (a : Nat) (w : Word) : State :=
  let s := s.fieldWrite a w
  if 0x500040 ≤ a ∧ a < 0x5000C0 ∧ a % 0x10 = 4 then s.setInstBudget ((a - 0x500040) / 0x10) else s

/-- A write of a register of SPA or SPB. -/
def State.spWrite (s : State) (a : Nat) (w : Word) : State :=
  if a = SPA_CMD.START.off then s.spaCmd w else s.fieldWrite a w

/-! ### Tiles -/

/-- A lockstep group of tile t runs. -/
def State.groupRuns (s : State) (t : Nat) : Bool :=
  (s.listedEngines fun c => decide (c / 128 = t)).any fun c => s.isSet (chB c) CHN_SEQ_GRP.BOUND && s.patRunning c

/-- TIL_RQ_HCONS (R81). -/
def State.rqHcons (s : State) (t : Nat) (w : Word) : State :=
  if sub32 (s.getF (tileBase t) TIL_RQ_HPROD.COUNT) w.toNat ≤ s.rqRing t then s.setF (tileBase t) TIL_RQ_HCONS.COUNT w.toNat else s

/-- TIL_STB_CTRL (R147): EN from 0 to 1 restarts the buffer. -/
def State.stbCtrl (s : State) (t : Nat) (w : Word) : State :=
  let b := tileBase t
  let start := decide (TIL_STB_CTRL.EN.get w = 1) && !s.isSet b TIL_STB_CTRL.EN
  let s := s.setFs b [(TIL_STB_CTRL.MODE, TIL_STB_CTRL.MODE.get w), (TIL_STB_CTRL.EN, TIL_STB_CTRL.EN.get w)]
  if start then s.stbRestart t else s

/-- TIL_CAP_PART (R187): an accepted write clears all three parts. -/
def State.capPart (s : State) (t : Nat) (w : Word) : State :=
  let b := tileBase t
  let rq := TIL_CAP_PART.RQSZ.get w
  let st := TIL_CAP_PART.STBSZ.get w
  if 1 ≤ rq ∧ rq ≤ 16 ∧ st ≤ 16 ∧ rq + st ≤ 28 ∧ ¬ s.isSet b TIL_RQ_CTRL.EN ∧ s.getF b TIL_RQ_LEVEL.COUNT = 0 ∧ ¬ s.isSet b TIL_STB_CTRL.EN ∧ ¬ s.trigBusy t then
    let s := s.setFs b [(TIL_CAP_PART.STBSZ, st), (TIL_CAP_PART.RQSZ, rq)]
    let s := s.sramClear fun a => decide (capBase t ≤ a ∧ a < capBase t + 0x200000)
    let s := (s.modTile t fun x => { x with rqOut := 0 }).modTrig t fun g => { g with segs := [], cur := none, left := none, wr := 0 }
    (s.setFs b [(TIL_STB_WCNT.COUNT, 0), (TIL_STB_STATUS.FULL, 0), (TRG_STATUS.SEGS, 0)]).setSegRec t
  else s.setF b TRG_STATUS.PIGN 1

/-- A write of a register of tile t at offset o. -/
def State.tilWrite (s : State) (t o : Nat) (w : Word) : State :=
  let b := tileBase t
  let a := b + o
  if o = TIL_RQ_HBASE_LO.ADDR.off ∨ o = TIL_RQ_HBASE_HI.ADDR.off ∨ o = TIL_RQ_HSIZE.LOG2.off then
    if s.isSet b TIL_RQ_CTRL.EN ∨ s.getF b TIL_RQ_LEVEL.COUNT ≠ 0 then s.setF b TIL_STATUS.WIGN 1 else s.fieldWrite a w
  else if o = TIL_RQ_HCONS.COUNT.off then s.rqHcons t w
  else if o = TIL_RQ_CTRL.EN.off then (s.fieldWrite a w).modTile t fun x => { x with rqStop := false }
  else if 0x600 ≤ o ∧ o < 0x640 then
    if s.groupRuns t then s.setF b TIL_STATUS.WIGN 1 else s.fieldWrite a w
  else if o = TIL_STB_CTRL.EN.off then s.stbCtrl t w
  else if o = TIL_CAP_PART.RQSZ.off then s.capPart t w
  else if 0x2100 ≤ o ∧ o < 0x2300 ∧ isRw a then
    if s.getF (b + (o - 0x2100) / 0x80 * 0x80) APG_CTX_STATUS.STATE ≠ 0 then s.setF b APG_STATUS.WIGN 1 else s.fieldWrite a w
  else if 0x2400 ≤ o ∧ o < 0x2600 then
    let c := 128 * t + (o - 0x2400) / 4
    if s.engState c ≠ 0 then s.setF (feB c) CHN_FE_STATUS.WIGN 1 else s.fieldWrite a w
  else if 0x3000 ≤ o ∧ o < 0x30A0 ∧ isRw a then
    if s.trigBusy t then s.setF b TRG_STATUS.PIGN 1 else (s.fieldWrite a w).setSegRec t
  else s.fieldWrite a w

/-! ### Front-ends and engines -/

/-- A discarded direct write of front-end u. -/
def State.wign (s : State) (u : Nat) : State := s.setF (feB u) CHN_FE_STATUS.WIGN 1

/-- Direct writes of the force state of u are accepted: a shade's only in SERVICE while a plain spare (R55). [DEDUCED, log entry 43] -/
def State.forceOpen (s : State) (u : Nat) : Bool := decide (u < 1024) || (s.serviceOpen && decide (s.shadeState (u - 1024) = 1))

/-- R31: the front-end is disabled and no command for it is in flight. -/
def State.directOk (s : State) (u : Nat) : Bool := s.forceOpen u && !s.feOn u && !s.inFlightFor u

/-- R51: a sine register may be written. -/
def State.sineOpen (s : State) (u : Nat) : Bool :=
  s.forceOpen u && !s.inFlightFor u && (!s.feOn u || (forces (s.fe u).mode && decide (s.seqStep u = 0)))

/-- A direct write of CHN_FE_CFG: the front-end stands in the new setting at once (R41). -/
def State.feCfg (s : State) (u : Nat) (w : Word) : State :=
  if s.directOk u then (s.fieldWrite (feB u + CHN_FE_CFG.MODE.off) w).loadSetting u else s.wign u

/-- A direct write of CHN_SINE_CTRL. -/
def State.sineWrite (s : State) (u : Nat) (w : Word) : State := if s.sineOpen u then (s.sineCtrl u w true).1 else s.wign u

/-- The converter's settings are locked (R65). -/
def State.adcLocked (s : State) (u : Nat) : Bool := s.isSet (feB u) CHN_ADC_STATUS.BUSY || s.inFlightFor u

/-- A write of CHN_ADC_CTRL (R64, R65): INJ_EVT, START and STOP always act; START with STOP is STOP. [DEDUCED, log entry 12] -/
def State.adcCtrl (s : State) (u : Nat) (w : Word) : State :=
  let b := feB u
  let fixed : List Fld := [CHN_ADC_CTRL.MODE, CHN_ADC_CTRL.LAST, CHN_ADC_CTRL.NPASS]
  let s' := s.setF b CHN_ADC_CTRL.INJ_EVT (CHN_ADC_CTRL.INJ_EVT.get w)
  let s' := if ¬ s.adcLocked u then s'.setFs b (fixed.map fun f => (f, f.get w))
    else if fixed.any (fun f => decide (f.get w ≠ s.getF b f)) then s'.wign u else s'
  if CHN_ADC_CTRL.STOP.get w = 1 then s'.adcStop u
  else if CHN_ADC_CTRL.START.get w = 1 then s'.adcStart u
  else s'

/-- A write of CHN_ADC_INJ (R67, R69). -/
def State.adcInj (s : State) (u : Nat) (w : Word) : State :=
  if s.adcRoom u then s.adcPlace u (injOf w) else s.setF (feB u) CHN_ADC_STATUS.INJ_FULL 1

/-- R93: the engine is idle and no command for the channel is in flight; a shade has no engine. -/
def State.cmpOpen (s : State) (u : Nat) : Bool := (decide (1024 ≤ u) || decide (s.engState u = 0)) && !s.inFlightFor u

/-- A write of CHN_TIM_UOFS (R149, R159). -/
def State.timUofs (s : State) (u : Nat) (w : Word) : State :=
  if s.isSet (feB u) CHN_TDC_CFG.EN ∨ (u < 1024 ∧ s.engState u ≠ 0) then s.wign u
  else if u < 1024 then s.fieldWrite (feB u + CHN_TIM_UOFS.STB.off) w
  else s

/-- A write of a register of front-end u at offset o, guarded by u's own output: the force and sine registers of a remapped channel are those of its
isolated primary, which take the word. [DEDUCED, log entry 43] [DESIGN CHOICE, log entry 61] -/
def State.frontWrite (s : State) (u o : Nat) (w : Word) : State :=
  let a := feB u + o
  if o = CHN_FE_CFG.MODE.off then s.feCfg u w
  else if o ∈ [CHN_FE_TARGET.CODE.off, CHN_ICLAMP.CODE.off, CHN_VCLAMP.LO.off, CHN_KMON.THRESH.off, CHN_SINE_PHASE0.PHASE0.off] then
    if s.directOk u then s.fieldWrite a w else s.wign u
  else if o = CHN_SINE_CTRL.EN.off then s.sineWrite u w
  else if o ∈ [CHN_SINE_FTW.FTW.off, CHN_SINE_AMP.AMP.off, CHN_SINE_OFS.OFS.off, CHN_SINE_PADJ.PADJ.off] then
    if s.sineOpen u then s.fieldWrite a w else s.wign u
  else if o = CHN_ADC_CTRL.MODE.off then s.adcCtrl u w
  else if o = CHN_ADC_INJ.SRC.off then s.adcInj u w
  else if 0x140 ≤ o ∧ o < 0x180 then (if s.adcLocked u then s.wign u else s.fieldWrite a w)
  else if o = CHN_TIM_UOFS.STB.off then s.timUofs u w
  else if o = CHN_CMP_CFG.EN_LO.off then (if s.cmpOpen u then s.cmpWriteCfg u w else s.wign u)
  else if o = CHN_CMP_THR.LO.off then (if s.cmpOpen u then s.cmpWriteThr u w else s.wign u)
  else s.fieldWrite a w

/-- CHN_SEQ_CTRL (R113): GO ends a WAIT of KIND 2 that the channel's own engine holds as leader. -/
def State.seqCtrl (s : State) (c : Nat) (w : Word) : State := if CHN_SEQ_CTRL.GO.get w = 1 then s.waitMet c 2 else s

/-- A write of a register of engine c at offset o (R134, R135). -/
def State.engineWrite (s : State) (c o : Nat) (w : Word) : State :=
  let a := chB c + o
  if o = CHN_SEQ_CTRL.GO.off then s.seqCtrl c w
  else if isRw a ∧ s.engState c ≠ 0 then s.wign c
  else s.fieldWrite a w

/-! ### Diagnostic SRAM windows (R441) -/

/-- A write of a place in the diagnostic area. [DESIGN CHOICE, log entry 44] -/
def State.diagWrite (s : State) (d : DPart) (w : Word) : State :=
  let inReset := match d.tile with | some t => s.isSet (tileBase t) TIL_STATUS.RESET | none => false
  if inReset then s
  else match d with
  | .seq c _ => if s.serviceOpen ∨ s.engState c = 0 then s.sramSet d.mem 4 w.toNat else s.wign c
  | .apg t o =>
    if o < 0x12800 then
      (if s.getF (tileBase t) APG_STATUS.RUN = 0 then s.sramSet d.mem 4 w.toNat else s.setF (tileBase t) APG_STATUS.WIGN 1)
    else if 0x7C000 ≤ o ∧ s.serviceOpen then s.sramSet d.mem 4 (unsigned 32 (signed 20 w.toNat))
    else s
  | .sup o => if s.serviceOpen ∧ s.inStaging o then s.sramSet d.mem 4 w.toNat else s
  | _ => s

/-! ### The whole window -/

/-- A host write of w to the word at byte address a, over SPB or over the link (R310, R402). [DESIGN CHOICE, log entry 9] -/
def State.regWrite (s : State) (a : Nat) (w : Word) (spb : Bool) : State :=
  if ¬ s.writeOk a then s
  else if 0x1000000 ≤ a then s.diagWrite (s.diagPart a spb) w
  else if (findReg a).isNone then s
  else match locate a with
  | (.glb, _, o) => s.glbWrite o w spb
  | (.lnk, _, _) => s.lnkWrite a w
  | (.irq, _, _) => s.irqWrite a w
  | (.flt, _, _) => s.fltWrite a w
  | (.cal, _, _) => s.calWrite a w
  | (.thm, _, _) => s.thmWrite a w
  | (.sp, _, _) => s.spWrite a w
  | (.til, t, o) => s.tilWrite t o w
  | (.front, u, o) => s.frontWrite u o w
  | (.engine, c, o) => s.engineWrite c o w
  | (.none, _, _) => s

end Sys2Proof.Machine
end

