-- ==== Sys2Proof/Machine/Packets.lean ====
section
/-! DEFINITION. Meaning of TP_RECEIVE: checks and sequence numbers (R297 to R305), consumption (R309 to R311), enumeration (R312 to R314),
forwarding (R315 to R317). -/

namespace Sys2Proof.Machine

/-! ### Checks (R300) -/

def Tp.nonPosted (t : Tp) : Bool := decide (t.typ ∈ ([0x11, 0x20, 0x21, 0x50] : List Byte))

/-- TYPE is ENUM or ENUMC. -/
def Tp.isEnum (t : Tp) : Bool := decide (t.typ = 0x50 ∨ t.typ = 0x51)

/-- Fields of an ENUM or ENUMC (R313). -/
def Tp.hops (t : Tp) : Nat := bits t.addr.toNat 5 0
def Tp.ptr (t : Tp) : Nat := bits t.addr.toNat 13 8
def Tp.enumOp (t : Tp) : Nat := bits t.addr.toNat 17 16

/-- The route of an ENUM or ENUMC: entries of two bits. -/
def Tp.route (t : Tp) : Nat := leWords (t.data.take 4)
def routeEntry (r i : Nat) : Nat := r / 4 ^ i % 4

/-- The LEN values of each TYPE; none: the TYPE is not listed. -/
def lenOk (typ len : Nat) : Bool :=
  match typ with
  | 0x10 => decide (1 ≤ len ∧ len ≤ 64)
  | 0x11 => decide (1 ≤ len ∧ len ≤ 1024)
  | 0x20 => decide (1 ≤ len ∧ len ≤ 64)
  | 0x21 => decide (1 ≤ len ∧ len ≤ 64)
  | 0x30 => decide (len = 0)
  | 0x31 => decide (1 ≤ len ∧ len ≤ 64)
  | 0x50 => decide (len = 8)
  | 0x51 => decide (len = 12)
  | _ => false

/-- A TP is malformed (R300); bits of DW2 and DW3 that R313 gives no field count as reserved in ENUM and ENUMC. [DEDUCED, log entry 24] -/
def Tp.malformed (t : Tp) : Bool :=
  !lenOk t.typ.toNat t.len.toNat || decide (4 * t.data.length ≠ t.bytes) || decide (t.rsv ≠ 0) ||
    (if t.isEnum then decide (t.addr &&& ~~~(0x33F3F : BitVec 48) ≠ 0 ∨ t.ttl ≠ 0)
     else decide (t.addr.toNat % 4 ≠ 0)) ||
    (decide (t.typ ∈ ([0x10, 0x11, 0x20, 0x21] : List Byte)) && decide (4096 < t.addr.toNat % 4096 + 4 * t.len.toNat))

/-! ### Consumption (R309 to R311) -/

/-- A completion with data. -/
def Tp.cpld (t : Tp) (ws : List Word) : Option Nat × Tp :=
  (none, { typ := 0x31, dst := t.src, src := 0, len := BitVec.ofNat 11 ws.length, last := true, tag := t.tag, addr := t.addr, ttl := 63,
           data := ws })

/-- Some word of a request lies past the window. -/
def Tp.past (t : Tp) : Bool := decide (0x4000000 < t.addr.toNat + 4 * t.len.toNat)

/-- RRD: every word in turn; none where one has an uncorrectable error. -/
def State.readRequest (s : State) (t : Tp) (ecc : List (Fin 64 × Bool)) : Option (List Word) × State :=
  let r := (List.range t.len.toNat).foldl (fun (x : Option (List Word) × State) i =>
    let y := x.2.readLink (t.addr.toNat + 4 * i) ((ecc.find? fun e => e.1.val == i).map Prod.snd)
    ((match x.1, y.1 with | some l, some w => some (w :: l) | _, _ => none), y.2)) (some [], s)
  (r.1.map List.reverse, r.2)

/-- Word i of an RWR asks for a module reset (R403). -/
def Tp.resetWord (t : Tp) (i : Nat) : Bool :=
  let w := t.data.getD i 0
  decide (t.addr.toNat + 4 * i = GLB_RESET.KEY.off ∧ GLB_RESET.KEY.get w = 0x5AFE ∧ GLB_RESET.MODULE.get w = 1)

/-- An RWR asks for a module reset, which follows its completion (R403). [DEDUCED, log entry 26] -/
def Tp.asksReset (t : Tp) : Bool := (List.range t.len.toNat).any t.resetWord

/-- RWR: every word in turn; one that asks for a module reset waits for the completion. [DEDUCED, log entry 26] -/
def State.writeRequest (s : State) (t : Tp) : State :=
  (List.range t.len.toNat).foldl (fun (s : State) i =>
    if t.resetWord i then s else s.regWrite (t.addr.toNat + 4 * i) (t.data.getD i 0) false) s

/-- A completion of a host-memory read (R307, R309). [DEDUCED, log entry 25] -/
def State.takeCpl (s : State) (t : Tp) : State :=
  match s.reads.find? fun r => r.tag == t.tag.toNat with
  | none => s.incSat 0 LNK_UREQ.UCPL 1
  | some r =>
    if t.status ≠ 0 then ({ s with reads := s.reads.erase r }.rdFail false).sqFailed r.sq
    else
      let here := ((List.range t.data.length).map fun i => ((t.addr.toNat + 4 * i - r.addr) / 4, t.data.getD i 0)).filter fun e =>
        decide (r.addr ≤ t.addr.toNat ∧ e.1 < r.len)
      let got := here.foldl (fun (g : List (Nat × Word)) e => if g.any (fun x => x.1 == e.1) then g else g ++ [e]) r.got
      if r.len ≤ got.length then
        let ws := (List.range r.len).map fun i => ((got.find? fun x => x.1 == i).map Prod.snd).getD 0
        let s := { s with reads := s.reads.erase r }
        if r.sq = 64 then s else { s with fetched := s.fetched ++ [(r.sq, ws)] }
      else { s with reads := s.reads.map fun x => if x = r then { r with got := got } else x }

/-- A TP whose DST is this module. [DEDUCED, log entry 26] -/
def State.consume (s : State) (t : Tp) (ecc : List (Fin 64 × Bool)) : State :=
  match t.typ.toNat with
  | 0x10 => s.incSat 0 LNK_UREQ.UREQ 1
  | 0x11 => (s.incSat 0 LNK_UREQ.UREQ 1).reply (t.cpl 1)
  | 0x20 =>
    if t.past then s.reply (t.cpl 1)
    else
      let ok := s.writeOk GLB_RESET.KEY.off
      let s := (s.writeRequest t).reply (t.cpl 0)
      if ok && t.asksReset then s.moduleReset 4 else s
  | 0x21 =>
    if t.past then s.reply (t.cpl 1)
    else match s.readRequest t ecc with
      | (some ws, s) => s.reply (t.cpld ws)
      | (none, s) => s.reply (t.cpl 2)
  | _ => s.takeCpl t

/-! ### Enumeration (R312 to R314) -/

/-- The identity block of a module that an ENUM reached by port p. -/
def State.identity (s : State) (p : Nat) : List Word :=
  let up := (List.range 4).find? fun q => s.isSet (pB q) LNK_P_STATUS.UPSTREAM
  let port (q : Nat) : Nat :=
    s.pst q + b2n (s.isUp q) <<< 4 + s.getF (pB q) LNK_P_STATUS.PTYPE <<< 5 + s.getF (pB q) LNK_P_STATUS.GEN <<< 6 +
      s.getF (pB q) LNK_P_STATUS.WIDTH <<< 8
  [s.rd GLB_PART_ID.PART.off,
   BitVec.ofNat 32 (s.getF 0 LNK_ID.ID + b2n s.hasId <<< 7 + up.getD 0 <<< 8 + b2n up.isSome <<< 10 + p <<< 12),
   s.rd GLB_SERIAL_LO.SERIAL.off, s.rd GLB_SERIAL_HI.SERIAL.off, BitVec.ofNat 32 (port 0 + port 1 <<< 16),
   BitVec.ofNat 32 (port 2 + port 3 <<< 16), s.rd GLB_STATUS.STATE.off, 0]

/-- The ENUMC of a target: back by port p, the first n entries of the route reversed. -/
def State.enumc (s : State) (p : Nat) (t : Tp) (n status : Nat) : Option Nat × Tp :=
  let r := (List.range n).foldl (fun m j => m + routeEntry t.route (n - 1 - j) * 4 ^ j) 0
  (some p, { typ := 0x51, dst := 0x3E, src := 0, len := 12, last := true, tag := t.tag, status := BitVec.ofNat 3 status,
             addr := BitVec.ofNat 48 (n + t.enumOp <<< 16), ttl := 0, data := toWords 4 r ++ s.identity p })

/-- ASSIGN of an ID through port p. -/
def State.assignId (s : State) (p id : Nat) : State :=
  let s := s.setFs 0 [(LNK_ID.ID, id), (LNK_ID.VALID, 1), (LNK_RTH.PORT, p), (LNK_RTH.VALID, 1)]
  (List.range 4).foldl (fun (s : State) q => s.setF (pB q) LNK_P_STATUS.UPSTREAM (b2n (q == p))) s

/-- RELEASE. -/
def State.releaseId (s : State) : State :=
  let s := s.setFs 0 [(LNK_ID.VALID, 0), (LNK_RTH.VALID, 0)]
  let s := (List.range 4).foldl (fun (s : State) k => s.setF (4 * k) LNK_RT.ENTRIES 0) s
  (List.range 4).foldl (fun (s : State) q => s.setF (pB q) LNK_P_STATUS.UPSTREAM 0) s

/-- What the target of an ENUM does, and the status (R314). [DEDUCED, log entry 24] -/
def State.enumAct (s : State) (p : Nat) (t : Tp) : State × Nat :=
  let d := (t.data.getD 4 0).toNat
  let id := bits d 5 0
  match t.enumOp with
  | 0 => (s, 0)
  | 1 =>
    if 31 < id then (s, 2)
    else if ¬ s.hasId ∨ s.getF 0 LNK_ID.ID = id ∨ bitB d 7 then (s.assignId p id, 0)
    else (s, 2)
  | 2 => (s.releaseId, 0)
  | _ => (s, 1)

/-- A discarded TP without a route, in the count of its ingress port. -/
def State.noRoute (s : State) (p : Nat) : State := s.incSat (pB p) LNK_P_DROP.NOROUTE 1
def State.malformed (s : State) (p : Nat) : State := s.incSat (pB p) LNK_P_DROP.MALF 1

/-- The receiver has done with a TP from port p: its units are free again (R305). [DEDUCED, log entry 23] -/
def State.freeUnits (s : State) (p : Nat) (t : Tp) : State :=
  s.modPort p fun g => { g with freed := g.freed.add t.cls t.units, since := g.since + t.units }

/-- A TP taken over by egress port e. -/
def State.forward (s : State) (p e : Nat) (t : Tp) : State := s.modPort e fun q => { q with wait := q.wait ++ [(p, t)] }

/-- An ENUM or ENUMC that came by port p (R313). [DEDUCED, log entry 24] -/
def State.enumTp (s : State) (p : Nat) (t : Tp) : State :=
  let isC := decide (t.typ = 0x51)
  if t.hops < t.ptr then (s.malformed p).freeUnits p t
  else if t.ptr = t.hops then
    if isC then (s.malformed p).freeUnits p t
    else
      let a := s.enumAct p t
      (a.1.reply (a.1.enumc p t t.hops a.2)).freeUnits p t
  else
    let e := routeEntry t.route t.ptr
    if s.isUp e ∧ e ≠ p then
      let r := t.route - e * 4 ^ t.ptr + p * 4 ^ t.ptr
      s.forward p e { t with addr := t.addr + 0x100, data := toWords 4 r ++ t.data.drop 4 }
    else if isC then (s.noRoute p).freeUnits p t
    else (s.reply (s.enumc p t t.ptr 1)).freeUnits p t

/-! ### Every accepted TP (R315, R316) -/

/-- A TP accepted on port p. [DEDUCED, log entry 25] -/
def State.deliverTp (s : State) (p : Nat) (t : Tp) (ecc : List (Fin 64 × Bool)) : State :=
  let own := s.hasId && decide (t.dst.toNat = s.getF 0 LNK_ID.ID)
  if t.malformed then
    let s := (s.malformed p).freeUnits p t
    if t.nonPosted ∧ own then s.reply (t.cpl 1) else s
  else if t.isEnum then s.enumTp p t
  else if ¬ s.hasId then (s.noRoute p).freeUnits p t
  else if own then
    let s' := s.consume t ecc
    if s'.inReset then s' else s'.freeUnits p t
  else if t.ttl = 0 then (s.incSat (pB p) LNK_P_DROP.TTL 1).freeUnits p t
  else
    match (s.route t.dst.toNat).filter fun e => s.isUp e && decide (e ≠ p) with
    | some e => s.forward p e { t with ttl := t.ttl - 1 }
    | none =>
      let s := (s.noRoute p).freeUnits p t
      if t.nonPosted then s.reply (t.cpl 1) else s

/-! ### Sequence numbers and credits (R302, R305) -/

/-- A NAK is due: sent unless one stands. -/
def State.nakDue (s : State) (p : Nat) : State :=
  if (s.port p).nak then s else (s.incSat (pB p) LNK_P_ERR1.NAKTX 1).modPort p fun q => q.sendAck 2

/-- Units of packets from port p that wait to be forwarded. [DEDUCED, log entry 23] -/
def State.heldUnits (s : State) (p cls : Nat) : Nat :=
  ((List.range 4).flatMap fun e => (s.port e).wait).foldl (fun n x => if x.1 = p ∧ x.2.cls = cls then n + x.2.units else n) 0

/-- A whole TP with a good CRC, by its SEQ (R302, R303). [DEDUCED, log entry 23] -/
def State.takeTp (s : State) (p : Nat) (seq : BitVec 12) (ecc : List (Fin 64 × Bool)) (t : Tp) : State :=
  let d := (seq.toNat + 4096 - (s.port p).exp) % 4096
  if d = 0 then
    if advUnits.get t.cls < s.heldUnits p t.cls + t.units then (s.malformed p).toRecovery p
    else
      let s := s.modPort p fun q =>
        let q := { q with exp := (q.exp + 1) % 4096, acc := q.acc + 1, nak := false }
        if 8 ≤ q.acc then q.sendAck 1 else q
      s.deliverTp p t ecc
  else if 2048 ≤ d then s.modPort p fun q => { q with ackDue := true }
  else s.nakDue p

/-- Framing errors that port p has met (R268, R298): each is counted; a packet that broke framing is discarded and makes a NAK due. -/
def State.framing (s : State) (p : Nat) (f : Framing) : State :=
  let s := s.incSat (pB p) LNK_P_FERR.COUNT f.errs
  if f.lost = 0 then s else (s.incSat (pB p) LNK_P_ERR1.CRC f.lost).nakDue p

/-! ### The wire (R297 to R299, R301) -/

/-- The bytes of a TP that its CRC covers: the header's four words and the payload. [DEDUCED, log entry 23] -/
def Tp.wire (t : Tp) (seq : BitVec 12) : List Byte :=
  leBytes 4 (t.typ.toNat + seq.toNat <<< 8 + t.dst.toNat <<< 20 + t.src.toNat <<< 26) ++
  leBytes 4 (t.len.toNat + b2n t.last <<< 11 + t.tag.toNat <<< 12 + t.status.toNat <<< 24 + (t.rsv.toNat % 32) <<< 27) ++
  leBytes 4 (t.addr.toNat % 2 ^ 32) ++ leBytes 4 (t.addr.toNat / 2 ^ 32 + t.ttl.toNat <<< 16 + (t.rsv.toNat / 32) <<< 22) ++
  t.data.flatMap fun w => leBytes 4 w.toNat

/-- The CRC of a TP. -/
def Tp.crc (t : Tp) (seq : BitVec 12) : Word := BitVec.ofNat 32 (crc32 (t.wire seq))

/-- The CRC of a link packet, over its eight bytes. -/
def Lp.crc (l : Lp) : Word := BitVec.ofNat 32 (crc32 (leBytes 4 (l.typ.toNat + l.d0.toNat <<< 8) ++ leBytes 4 l.d1.toNat))

/-- A link packet with a good CRC (R301); one of a reserved TYPE is malformed. [DEDUCED, log entry 23] -/
def State.takeLp (s : State) (p : Nat) (l : Lp) : State :=
  match l.typ.toNat with
  | 1 => s.ackTake p (bits l.d0.toNat 11 0)
  | 2 => s.nakTake p (bits l.d0.toNat 11 0)
  | 3 => s.creditTake p (bitB l.d0.toNat 0) { p := bits l.d0.toNat 23 8, n := bits l.d1.toNat 15 0, c := bits l.d1.toNat 31 16 }
  | _ => s.malformed p

/-- TP_RECEIVE: the columns since the last packet's end, bytes immaterial; the packet they end with: its CRC as received, none where an error
marker stood in it, a link packet or a TP with its SEQ; ecc: words with memory errors that an RRD of it meets. [DEDUCED, log entry 23] -/
def execTpReceive (p : Fin 4) (seq : BitVec 12) (crc : Option Word) (lp : Option Lp) (cols : List (List Symb)) (ecc : List (Fin 64 × Bool)) (t : Tp) (s : State) : Res :=
  let f := framed cols
  if ¬ s.linked p then done s
  else if f.last ≠ some .eop then done (s.framing p f)
  else match lp with
    | some l =>
      if crc ≠ some l.crc then done ((s.framing p f).incSat (pB p) LNK_P_ERR1.CRC 1) else done ((s.framing p f).takeLp p l)
    | none =>
      if crc ≠ some (t.crc seq) then done (((s.framing p f).incSat (pB p) LNK_P_ERR1.CRC 1).nakDue p)
      else done ((s.framing p f).takeTp p seq ecc t)

end Sys2Proof.Machine
end

