-- ==== Sys2Proof/Machine/Spb.lean ====
section
/-! DEFINITION. Meanings of the SPB frames (R396 to R402).  A frame is one command: what it returned on SPB_MISO stands in spbOut. -/

namespace Sys2Proof.Machine

/-- Fields of the command word (R397). -/
def spbOp (w : Word) : Nat := bits w.toNat 31 30
def spbNoInc (w : Word) : Bool := bitB w.toNat 29
def spbAddr (w : Word) : Nat := bits w.toNat 23 0

/-- Why a frame is rejected, 0 for none (R399): edges beyond whole words, a command word that does not exist, too many words of a WRITE, a
frame that follows a WRITE too soon; of several the first of the table. [DESIGN CHOICE, log entry 45] -/
def spbCause (w : Word) (n : Nat) (extra : Nat) (early : Bool) : Nat :=
  if extra ≠ 0 then 1
  else if spbOp w = 3 ∨ bits w.toNat 28 24 ≠ 0 then 2
  else if spbOp w = 1 ∧ 64 < n then 3
  else if early then 4
  else 0

/-- A frame rejected whole. [DESIGN CHOICE, log entry 45] -/
def State.spbReject (s : State) (cause : Nat) : State :=
  (s.incSat 0 SPB_ERR.FRAME 1).setFs 0 [(SPB_ERR.LAST, cause), (SPB_STATUS.ERRSEEN, 1)]

/-- The word address of data word i. -/
def spbWordAddr (w : Word) (i : Nat) : Nat := if spbNoInc w then spbAddr w else spbAddr w + i

/-- A frame in progress: private copies of HI halves by address (R401), words returned, newest first. -/
structure SpbRead where
  copies : List (Nat × Nat) := []
  out : List Word := []
  deriving DecidableEq, Repr

/-- One data word of a READ frame at byte address a (R398, R400, R401). -/
def State.spbReadWord (s : State) (x : SpbRead) (a : Nat) (err : Option Bool) : SpbRead × State :=
  if 0x4000000 ≤ a then ({ x with out := 0 :: x.out }, s.setF 0 SPB_STATUS.OVERRUN 1)
  else if isLo a ∧ s.readOk a then ({ copies := (a + 4, s.liveHi a) :: x.copies, out := s.viewWord a :: x.out }, s)
  else
    match isHi a, s.readOk a, x.copies.find? fun e => e.1 == a with
    | true, true, some e => ({ x with out := BitVec.ofNat 32 e.2 :: x.out }, s)
    | _, _, _ =>
      let r := s.readPlain a true err
      ({ x with out := r.1.getD 0 :: x.out }, r.2)

/-- SPB_READ_FRAME: command word w, then n words (one turnaround word and the data words), extra edges beyond whole words, early: within
1 µs of a WRITE frame still being applied; ecc lists data words with memory errors. [DESIGN CHOICE, log entry 45] -/
def execSpbReadFrame (w : Word) (n : Nat) (extra : Fin 32) (early : Bool) (ecc : List (Nat × Bool)) (s : State) : Res :=
  if s.inReset ∨ spbOp w = 1 ∨ spbOp w = 2 then done s
  else
    let st := s.spbStatus early
    let cause := spbCause w n extra early
    if cause ≠ 0 then done { s.spbReject cause with spbOut := [st] }
    else
      let r := (List.range (n - 1)).foldl (fun (x : SpbRead × State) i =>
        x.2.spbReadWord x.1 (4 * spbWordAddr w i) ((ecc.find? fun e => e.1 == i).map Prod.snd)) ({}, s)
      done { r.2 with spbOut := [st] ++ (if n = 0 then [] else [0]) ++ r.1.out.reverse }

/-- One data word of a WRITE frame. [DEDUCED, log entry 26] -/
def State.spbWriteWord (s : State) (a : Nat) (v : Word) : State :=
  if s.inReset then s
  else if 0x4000000 ≤ a then s.setF 0 SPB_STATUS.OVERRUN 1
  else s.regWrite a v true

/-- SPB_WRITE_FRAME: command word w and data words, applied at the rising edge of SPB_CS_N. [DESIGN CHOICE, log entry 45] -/
def execSpbWriteFrame (w : Word) (data : List Word) (extra : Fin 32) (early : Bool) (s : State) : Res :=
  if s.inReset ∨ spbOp w = 0 ∨ spbOp w = 2 then done s
  else
    let st := s.spbStatus early
    let cause := spbCause w data.length extra early
    if cause ≠ 0 then done { s.spbReject cause with spbOut := [st] }
    else
      let s := (List.range data.length).foldl (fun (s : State) i => s.spbWriteWord (4 * spbWordAddr w i) (data.getD i 0)) s
      done { s with spbOut := [st] }

/-- SPB_STATUS_FRAME: command word w, then n words. -/
def execSpbStatusFrame (w : Word) (n : Nat) (extra : Fin 32) (early : Bool) (s : State) : Res :=
  if s.inReset ∨ spbOp w = 0 ∨ spbOp w = 1 then done s
  else
    let st := s.spbStatus early
    let cause := spbCause w n extra early
    if cause ≠ 0 then done { s.spbReject cause with spbOut := [st] }
    else done { s with spbOut := List.replicate (n + 1) st }

end Sys2Proof.Machine
end

