-- ==== Sys2Proof/Machine/Writes.lean ====
section
/-! DEFINITION. Meanings of the register writes and reads that have rows of their own, of plain register writes (R5), of the diagnostic
SRAM windows (R439 to R442), of the scrubber (R13) and of DIAG REGS (R249). -/

namespace Sys2Proof.Machine

/-- A write of w to the register of f in the block at b, over the link. [DESIGN CHOICE, log entry 9] -/
def State.writeReg (s : State) (b : Nat) (f : Fld) (w : Word) : State := s.regWrite (b + f.off) w false

/-! ### Sine generators and converters -/

/-- SINE_EN_SET (R51): w with EN = 1. -/
def execSineEnSet (u : Fin 1056) (w : Word) (s : State) : Res :=
  done (s.writeReg (feB u) CHN_SINE_CTRL.EN (CHN_SINE_CTRL.EN.put w 1))

/-- SINE_APPLY (R51): w with APPLY = 1. -/
def execSineApply (u : Fin 1056) (w : Word) (s : State) : Res :=
  done (s.writeReg (feB u) CHN_SINE_CTRL.EN (CHN_SINE_CTRL.APPLY.put w 1))

/-- SINE_EN_CLEAR (R52): w with EN = 0. -/
def execSineEnClear (u : Fin 1056) (w : Word) (s : State) : Res :=
  done (s.writeReg (feB u) CHN_SINE_CTRL.EN (CHN_SINE_CTRL.EN.put w 0))

/-- ADC_START (R64): w with START = 1 and STOP = 0. -/
def execAdcStart (u : Fin 1056) (w : Word) (s : State) : Res :=
  done (s.writeReg (feB u) CHN_ADC_CTRL.START (CHN_ADC_CTRL.STOP.put (CHN_ADC_CTRL.START.put w 1) 0))

/-- ADC_STOP (R64): w with STOP = 1. -/
def execAdcStop (u : Fin 1056) (w : Word) (s : State) : Res :=
  done (s.writeReg (feB u) CHN_ADC_CTRL.STOP (CHN_ADC_CTRL.STOP.put w 1))

/-- ADC_INJECT (R69). -/
def execAdcInject (u : Fin 1056) (w : Word) (s : State) : Res := done (s.writeReg (feB u) CHN_ADC_INJ.SRC w)

/-! ### Tiles -/

/-- RQ_EN_CHANGE (R76): w with EN turned over. -/
def execRqEnChange (t : Fin 8) (w : Word) (s : State) : Res :=
  done (s.writeReg (tileBase t) TIL_RQ_CTRL.EN (TIL_RQ_CTRL.EN.put w (1 - s.getF (tileBase t) TIL_RQ_CTRL.EN)))

/-- RQ_HCONS_WRITE (R81). -/
def execRqHconsWrite (t : Fin 8) (w : Word) (s : State) : Res := done (s.writeReg (tileBase t) TIL_RQ_HCONS.COUNT w)

/-- STB_RESTART (R147): EN goes from 0 to 1 with the rest of w; where EN is 1 already nothing restarts. -/
def execStbRestart (t : Fin 8) (w : Word) (s : State) : Res :=
  done (s.writeReg (tileBase t) TIL_STB_CTRL.EN (TIL_STB_CTRL.EN.put w 1))

/-- CAP_PARTITION_WRITE (R187). -/
def execCapPartitionWrite (t : Fin 8) (w : Word) (s : State) : Res := done (s.writeReg (tileBase t) TIL_CAP_PART.RQSZ w)

/-- SEQ_GO (R113): w with GO = 1. -/
def execSeqGo (c : Fin 1024) (w : Word) (s : State) : Res := done (s.writeReg (chB c) CHN_SEQ_CTRL.GO (CHN_SEQ_CTRL.GO.put w 1))

/-! ### GLB and CAL -/

/-- SYNC_ARM (R181): w with ARM = 1. -/
def execSyncArm (w : Word) (s : State) : Res := done (s.writeReg 0 GLB_SYNC_CTRL.ARM (GLB_SYNC_CTRL.ARM.put w 1))

/-- SYNC_APPLY (R182): w with APPLY = 1. -/
def execSyncApply (w : Word) (s : State) : Res := done (s.writeReg 0 GLB_SYNC_CTRL.ARM (GLB_SYNC_CTRL.APPLY.put w 1))

/-- SYNC_INVAL (R183): w with INVAL = 1. -/
def execSyncInval (w : Word) (s : State) : Res := done (s.writeReg 0 GLB_SYNC_CTRL.ARM (GLB_SYNC_CTRL.INVAL.put w 1))

/-- TRIG_PULSE (R201). -/
def execTrigPulse (w : Word) (s : State) : Res := done (s.writeReg 0 GLB_TRIG_CTRL.PULSE w)

/-- MC_INSTALL_START (R338): w with START = 1. -/
def execMcInstallStart (w : Word) (s : State) : Res := done (s.writeReg 0 MC_INSTALL.START (MC_INSTALL.START.put w 1))

/-- MC_FSEL_WRITE (R339). -/
def execMcFselWrite (w : Word) (s : State) : Res := done (s.writeReg 0 MC_FSEL.ENGINE w)

/-- CAL_TIME_SET (R207). -/
def execCalTimeSet (w : Word) (s : State) : Res := done (s.writeReg 0 CAL_NOW_HI.SEC w)

/-! ### Event delivery -/

/-- IRQ_EOI (R346). -/
def execIrqEoi (w : Word) (s : State) : Res := done (s.writeReg 0 IRQ_EOI.SOURCE w)

/-- IRQ_SW (R344). -/
def execIrqSw (w : Word) (s : State) : Res := done (s.writeReg 0 IRQ_SW.SW w)

/-- IRQ_SW_CLR (R344). -/
def execIrqSwClr (w : Word) (s : State) : Res := done (s.writeReg 0 IRQ_SW_CLR.SW w)

/-- IRQ_DOZE (R349). -/
def execIrqDoze (g : Fin 64) (w : Word) (s : State) : Res := done (s.writeReg (0x40 * g) IRQ_TGT_STATE.DOZE w)

/-- IRQ_RCONS_WRITE (R350). -/
def execIrqRconsWrite (g : Fin 64) (w : Word) (s : State) : Res := done (s.writeReg (0x40 * g) IRQ_TGT_RCONS.COUNT w)

/-! ### Any register -/

/-- REGISTER_WRITE (R5, R310, R402): a write of w to the word at word address a, over SPB or over the link. -/
def execRegisterWrite (a : BitVec 24) (w : Word) (spb : Bool) (s : State) : Res := done (s.regWrite (4 * a.toNat) w spb)

/-- LO_READ_LATCH (R432): a read over the link of the register at word address a. -/
def execLoReadLatch (a : BitVec 24) (s : State) : Res :=
  if isLo (4 * a.toNat) ∧ s.readOk (4 * a.toNat) then done (s.latchHi (4 * a.toNat)) else done s

/-! ### Memories -/

/-- A byte address of the diagnostic area by its word offset there, taken modulo the 48 MiB the area has (R430). -/
def diagAddr (o : BitVec 24) : Nat := 0x1000000 + 4 * (o.toNat % 0xC00000)

/-- DIAG_WINDOW_READ (R439 to R442): the word read stands in diagOut; none is returned with an uncorrectable error. -/
def execDiagWindowRead (o : BitVec 24) (spb : Bool) (err : Option Bool) (s : State) : Res :=
  let r := s.diagRead (s.diagPart (diagAddr o) spb) err
  done { r.2 with diagOut := r.1.getD 0 }

/-- DIAG_WINDOW_WRITE (R441). -/
def execDiagWindowWrite (o : BitVec 24) (w : Word) (spb : Bool) (s : State) : Res := done (s.regWrite (diagAddr o) w spb)

/-- The 64-bit words of a unit of a SECDED region (R12, R14). -/
def eccWords (region : Nat) : Nat := [0x1800, 0x40000, 0x10000, 0x200000, 0x40000, 0x40000].getD region 0

/-- The units of a SECDED region: channels, tiles, the module. -/
def eccUnits (region : Nat) : Nat := [1024, 8, 8, 1, 1, 1].getD region 0

/-- SRAM_SCRUB (R13): the scrubber reads a word; err as for a read. -/
def execSramScrub (region : Fin 6) (unit : Fin 1024) (word : BitVec 24) (err : Option Bool) (s : State) : Res :=
  if s.inReset ∨ ¬ s.clocked ∨ eccUnits region ≤ unit ∨ eccWords region ≤ word.toNat then done s
  else match err with
    | none => done s
    | some unc => done (s.detectEcc region unc unit word.toNat)

/-! ### DIAG REGS (R249) -/

/-- n words of the window from byte address a on, read without latching, an uncorrectable word as 0; ecc lists the words with errors. -/
def State.readWords (s : State) (a : Nat) (ecc : List (Nat × Bool)) (n : Nat) : List Word × State :=
  let r := (List.range n).foldl (fun (x : List Word × State) i =>
    let y := x.2.readPlain (a + 4 * i) false ((ecc.find? fun e => e.1 == i).map Prod.snd)
    (y.1.getD 0 :: x.1, y.2)) ([], s)
  (r.1.reverse, r.2)

/-- DIAG_REGS: the link's page registers apply. [DESIGN CHOICE, log entry 10] -/
def execDiagRegs (cmd : CmdRef) (ecc : List (Nat × Bool)) (s : State) : Res :=
  match s.ready? cmd opDIAG with
  | none => done s
  | some c =>
    if c.pf 0 15 0 ≠ 2 then done s
    else
      let r := s.readWords (c.p 4) ecc (c.p 8 / 4)
      let o := r.2.output c (r.1.flatMap fun w => leBytes 4 w.toNat)
      done (o.1.endCmd cmd { status := scOK, partialDone := o.2, result := c.outLen (c.p 8) })

end Sys2Proof.Machine
end

