-- ==== Sys2Proof/Machine/Dispatch.lean ====
section
/-! DEFINITION. One arm per command, one direct call of its meaning each. -/

namespace Sys2Proof.Machine

open Sys2Proof (Instr)

def exec (i : Instr) (s : State) : Host.Outcome State Fault Refusal :=
  match i with
  | .powerOn => Sys2Proof.Machine.execPowerOn s
  | .resetWindowExit rail => Sys2Proof.Machine.execResetWindowExit rail s
  | .supplyWindowExit rail mv => Sys2Proof.Machine.execSupplyWindowExit rail mv s
  | .perstNAssert => Sys2Proof.Machine.execPerstNAssert s
  | .bootStart => Sys2Proof.Machine.execBootStart s
  | .bootPhaseComplete inp => Sys2Proof.Machine.execBootPhaseComplete inp s
  | .refclkLoss periods pll => Sys2Proof.Machine.execRefclkLoss periods pll s
  | .refclkRecovery => Sys2Proof.Machine.execRefclkRecovery s
  | .lockstepMismatch => Sys2Proof.Machine.execLockstepMismatch s
  | .svcReq black => Sys2Proof.Machine.execSvcReq black s
  | .serviceEntry => Sys2Proof.Machine.execServiceEntry s
  | .svcExit => Sys2Proof.Machine.execSvcExit s
  | .serviceExitEffect => Sys2Proof.Machine.execServiceExitEffect s
  | .sramScrub region unit word err => Sys2Proof.Machine.execSramScrub region unit word err s
  | .registerWrite a w spb => Sys2Proof.Machine.execRegisterWrite a w spb s
  | .loReadLatch a => Sys2Proof.Machine.execLoReadLatch a s
  | .nop cmd => Sys2Proof.Machine.execNop cmd s
  | .fence cmd => Sys2Proof.Machine.execFence cmd s
  | .chConfig cmd => Sys2Proof.Machine.execChConfig cmd s
  | .chForce cmd => Sys2Proof.Machine.execChForce cmd s
  | .chMeasureStart cmd => Sys2Proof.Machine.execChMeasureStart cmd s
  | .chMeasureStop cmd => Sys2Proof.Machine.execChMeasureStop cmd s
  | .chMeasureInject cmd => Sys2Proof.Machine.execChMeasureInject cmd s
  | .chSweep cmd => Sys2Proof.Machine.execChSweep cmd s
  | .chSine cmd => Sys2Proof.Machine.execChSine cmd s
  | .chContact cmd => Sys2Proof.Machine.execChContact cmd s
  | .chRelease cmd => Sys2Proof.Machine.execChRelease cmd s
  | .seqLoad cmd data failed => Sys2Proof.Machine.execSeqLoad cmd data failed s
  | .seqRun cmd => Sys2Proof.Machine.execSeqRun cmd s
  | .seqStream cmd => Sys2Proof.Machine.execSeqStream cmd s
  | .seqStop cmd => Sys2Proof.Machine.execSeqStop cmd s
  | .groupBind cmd => Sys2Proof.Machine.execGroupBind cmd s
  | .seqJump cmd => Sys2Proof.Machine.execSeqJump cmd s
  | .apgLoad cmd data failed => Sys2Proof.Machine.execApgLoad cmd data failed s
  | .apgRun cmd => Sys2Proof.Machine.execApgRun cmd s
  | .failDump cmd => Sys2Proof.Machine.execFailDump cmd s
  | .trigArm cmd => Sys2Proof.Machine.execTrigArm cmd s
  | .captureDump cmd => Sys2Proof.Machine.execCaptureDump cmd s
  | .statsReadStart cmd => Sys2Proof.Machine.execStatsReadStart cmd s
  | .statsReadPeek cmd => Sys2Proof.Machine.execStatsReadPeek cmd s
  | .calAnchor cmd => Sys2Proof.Machine.execCalAnchor cmd s
  | .calRotatePass cmd => Sys2Proof.Machine.execCalRotatePass cmd s
  | .calRotateChannels cmd => Sys2Proof.Machine.execCalRotateChannels cmd s
  | .calRotateRequalify cmd row => Sys2Proof.Machine.execCalRotateRequalify cmd row s
  | .calRotateRemap cmd => Sys2Proof.Machine.execCalRotateRemap cmd s
  | .calRotateUnmap cmd => Sys2Proof.Machine.execCalRotateUnmap cmd s
  | .calCommit cmd => Sys2Proof.Machine.execCalCommit cmd s
  | .calDiscard cmd => Sys2Proof.Machine.execCalDiscard cmd s
  | .calArchive cmd => Sys2Proof.Machine.execCalArchive cmd s
  | .calRead cmd => Sys2Proof.Machine.execCalRead cmd s
  | .selftest cmd => Sys2Proof.Machine.execSelftest cmd s
  | .faultAck cmd => Sys2Proof.Machine.execFaultAck cmd s
  | .abort cmd => Sys2Proof.Machine.execAbort cmd s
  | .diagEcho cmd => Sys2Proof.Machine.execDiagEcho cmd s
  | .diagRegs cmd ecc => Sys2Proof.Machine.execDiagRegs cmd ecc s
  | .diagBlackbox cmd => Sys2Proof.Machine.execDiagBlackbox cmd s
  | .sqDoorbell n w => Sys2Proof.Machine.execSqDoorbell n w s
  | .descriptorIntake n => Sys2Proof.Machine.execDescriptorIntake n s
  | .descriptorReadError n => Sys2Proof.Machine.execDescriptorReadError n s
  | .commandAdmit => Sys2Proof.Machine.execCommandAdmit s
  | .holdLimitExpire n => Sys2Proof.Machine.execHoldLimitExpire n s
  | .sliceEnd cmd => Sys2Proof.Machine.execSliceEnd cmd s
  | .completionWrite cmd energy => Sys2Proof.Machine.execCompletionWrite cmd energy s
  | .cqDoorbell m w => Sys2Proof.Machine.execCqDoorbell m w s
  | .sqEnable n w => Sys2Proof.Machine.execSqEnable n w s
  | .sqDisable n w => Sys2Proof.Machine.execSqDisable n w s
  | .cqEnable m w => Sys2Proof.Machine.execCqEnable m w s
  | .cqDisable m w => Sys2Proof.Machine.execCqDisable m w s
  | .safeValueStep u far => Sys2Proof.Machine.execSafeValueStep u far s
  | .sweepDwellEnd cmd => Sys2Proof.Machine.execSweepDwellEnd cmd s
  | .clampAction u limits => Sys2Proof.Machine.execClampAction u limits s
  | .shortCircuitLimit u => Sys2Proof.Machine.execShortCircuitLimit u s
  | .kelvinMonitorTrip u seen => Sys2Proof.Machine.execKelvinMonitorTrip u seen s
  | .contactPhaseStep cmd volts => Sys2Proof.Machine.execContactPhaseStep cmd volts s
  | .sineEnSet u w => Sys2Proof.Machine.execSineEnSet u w s
  | .sineApply u w => Sys2Proof.Machine.execSineApply u w s
  | .sineEnClear u w => Sys2Proof.Machine.execSineEnClear u w s
  | .sineUpdate u => Sys2Proof.Machine.execSineUpdate u s
  | .sineEpochStart u delta => Sys2Proof.Machine.execSineEpochStart u delta s
  | .sineZcStop u => Sys2Proof.Machine.execSineZcStop u s
  | .adcStart u w => Sys2Proof.Machine.execAdcStart u w s
  | .adcStop u w => Sys2Proof.Machine.execAdcStop u w s
  | .adcInject u w => Sys2Proof.Machine.execAdcInject u w s
  | .adcSampleEnd u => Sys2Proof.Machine.execAdcSampleEnd u s
  | .adcEntryBoundary u raw => Sys2Proof.Machine.execAdcEntryBoundary u raw s
  | .adcResultEnqueue u => Sys2Proof.Machine.execAdcResultEnqueue u s
  | .rqDrainBurst t => Sys2Proof.Machine.execRqDrainBurst t s
  | .rqPartialFlush t => Sys2Proof.Machine.execRqPartialFlush t s
  | .rqEnChange t w => Sys2Proof.Machine.execRqEnChange t w s
  | .rqHconsWrite t w => Sys2Proof.Machine.execRqHconsWrite t w s
  | .compRawTransition u high pins q dead => Sys2Proof.Machine.execCompRawTransition u high pins q dead s
  | .compValid u high samples => Sys2Proof.Machine.execCompValid u high samples s
  | .compLatchSet u high samples => Sys2Proof.Machine.execCompLatchSet u high samples s
  | .seqRunStart c seen => Sys2Proof.Machine.execSeqRunStart c seen s
  | .seqNop c => Sys2Proof.Machine.execSeqNop c s
  | .veci c => Sys2Proof.Machine.execVeci c s
  | .vecd c => Sys2Proof.Machine.execVecd c s
  | .vecs c => Sys2Proof.Machine.execVecs c s
  | .vrep c => Sys2Proof.Machine.execVrep c s
  | .loop c => Sys2Proof.Machine.execLoop c s
  | .endl c => Sys2Proof.Machine.execEndl c s
  | .call c => Sys2Proof.Machine.execCall c s
  | .ret c => Sys2Proof.Machine.execRet c s
  | .jmp c => Sys2Proof.Machine.execJmp c s
  | .br c past => Sys2Proof.Machine.execBr c past s
  | .brSyncResolve c => Sys2Proof.Machine.execBrSyncResolve c s
  | .matchW c => Sys2Proof.Machine.execMatchW c s
  | .matchIterationEnd c => Sys2Proof.Machine.execMatchIterationEnd c s
  | .wait c => Sys2Proof.Machine.execWait c s
  | .waitRelease c => Sys2Proof.Machine.execWaitRelease c s
  | .waitTimeout c => Sys2Proof.Machine.execWaitTimeout c s
  | .bar c => Sys2Proof.Machine.execBar c s
  | .barrierRelease t bid => Sys2Proof.Machine.execBarrierRelease t bid s
  | .tsld c => Sys2Proof.Machine.execTsld c s
  | .lvl c => Sys2Proof.Machine.execLvl c s
  | .meas c => Sys2Proof.Machine.execMeas c s
  | .measPlaceFree c => Sys2Proof.Machine.execMeasPlaceFree c s
  | .evt c => Sys2Proof.Machine.execEvt c s
  | .flg c => Sys2Proof.Machine.execFlg c s
  | .seg c => Sys2Proof.Machine.execSeg c s
  | .stall c => Sys2Proof.Machine.execStall c s
  | .strm c => Sys2Proof.Machine.execStrm c s
  | .send c => Sys2Proof.Machine.execSend c s
  | .halt c => Sys2Proof.Machine.execHalt c s
  | .seqJumpApply c => Sys2Proof.Machine.execSeqJumpApply c s
  | .seqStopApply c => Sys2Proof.Machine.execSeqStopApply c s
  | .stallResume c => Sys2Proof.Machine.execStallResume c s
  | .streamRefill data failed => Sys2Proof.Machine.execStreamRefill data failed s
  | .underrun c => Sys2Proof.Machine.execUnderrun c s
  | .seqGo c w => Sys2Proof.Machine.execSeqGo c w s
  | .microword e cost cond flips out => Sys2Proof.Machine.execMicroword e cost cond flips out s
  | .microTrap e whole => Sys2Proof.Machine.execMicroTrap e whole s
  | .csParitySweep e a flips => Sys2Proof.Machine.execCsParitySweep e a flips s
  | .mcReloadDone alt copyBad failed late => Sys2Proof.Machine.execMcReloadDone alt copyBad failed late s
  | .mcInstallStart w => Sys2Proof.Machine.execMcInstallStart w s
  | .mcInstallDone auth wrote => Sys2Proof.Machine.execMcInstallDone auth wrote s
  | .mcFselWrite w => Sys2Proof.Machine.execMcFselWrite w s
  | .tdcStamp u src rising q dead => Sys2Proof.Machine.execTdcStamp u src rising q dead s
  | .stampBufferWrite t => Sys2Proof.Machine.execStampBufferWrite t s
  | .stbRestart t w => Sys2Proof.Machine.execStbRestart t w s
  | .dllLock u line => Sys2Proof.Machine.execDllLock u line s
  | .dllUnlock u line => Sys2Proof.Machine.execDllUnlock u line s
  | .codeDensityDone u hist delays drv stb tdc => Sys2Proof.Machine.execCodeDensityDone u hist delays drv stb tdc s
  | .sepiaSample t => Sys2Proof.Machine.execSepiaSample t s
  | .sepiaJobComplete t slot => Sys2Proof.Machine.execSepiaJobComplete t slot s
  | .sepiaJobTimeout t slot => Sys2Proof.Machine.execSepiaJobTimeout t slot s
  | .apgRunStart t x seen => Sys2Proof.Machine.execApgRunStart t x seen s
  | .apgInstruction t x => Sys2Proof.Machine.execApgInstruction t x s
  | .apgGroupDrop t g => Sys2Proof.Machine.execApgGroupDrop t g s
  | .failLogRecord t => Sys2Proof.Machine.execFailLogRecord t s
  | .syncArm w => Sys2Proof.Machine.execSyncArm w s
  | .syncEdge q => Sys2Proof.Machine.execSyncEdge q s
  | .syncApply w => Sys2Proof.Machine.execSyncApply w s
  | .syncInval w => Sys2Proof.Machine.execSyncInval w s
  | .triggerFire t => Sys2Proof.Machine.execTriggerFire t s
  | .fireLineEdge line q => Sys2Proof.Machine.execFireLineEdge line q s
  | .armLineEdge dom edge => Sys2Proof.Machine.execArmLineEdge dom edge s
  | .holdoffEnd t => Sys2Proof.Machine.execHoldoffEnd t s
  | .trigArmTimeout t => Sys2Proof.Machine.execTrigArmTimeout t s
  | .trigLineEdge line rising q => Sys2Proof.Machine.execTrigLineEdge line rising q s
  | .trigPulse w => Sys2Proof.Machine.execTrigPulse w s
  | .capPartitionWrite t w => Sys2Proof.Machine.execCapPartitionWrite t w s
  | .calTimeSet w => Sys2Proof.Machine.execCalTimeSet w s
  | .anchorStep inp => Sys2Proof.Machine.execAnchorStep inp s
  | .calAnchorTimeout => Sys2Proof.Machine.execCalAnchorTimeout s
  | .transferStep t rows tresH tresL => Sys2Proof.Machine.execTransferStep t rows tresH tresL s
  | .commitEdge => Sys2Proof.Machine.execCommitEdge s
  | .rotationPassStart t => Sys2Proof.Machine.execRotationPassStart t s
  | .rotationStart nn => Sys2Proof.Machine.execRotationStart nn s
  | .handoverStep nn row => Sys2Proof.Machine.execHandoverStep nn row s
  | .rotationHandback nn => Sys2Proof.Machine.execRotationHandback nn s
  | .rotationAbandon nn => Sys2Proof.Machine.execRotationAbandon nn s
  | .calArchiveTimer => Sys2Proof.Machine.execCalArchiveTimer s
  | .archiveWriteDone ok => Sys2Proof.Machine.execArchiveWriteDone ok s
  | .selftestTestDone n pass detail => Sys2Proof.Machine.execSelftestTestDone n pass detail s
  | .detectProbe p found => Sys2Proof.Machine.execDetectProbe p found s
  | .ts1Receive p l ts => Sys2Proof.Machine.execTs1Receive p l ts s
  | .ts2Receive p l ts => Sys2Proof.Machine.execTs2Receive p l ts s
  | .trainingTimeout p => Sys2Proof.Machine.execTrainingTimeout p s
  | .speedRetuneDone p => Sys2Proof.Machine.execSpeedRetuneDone p s
  | .eqRequest p l tag valid mv fin => Sys2Proof.Machine.execEqRequest p l tag valid mv fin s
  | .eqIterationEnd p l dfe better => Sys2Proof.Machine.execEqIterationEnd p l dfe better s
  | .retrain p => Sys2Proof.Machine.execRetrain p s
  | .hotrst p => Sys2Proof.Machine.execHotrst p s
  | .hotResetReceived p => Sys2Proof.Machine.execHotResetReceived p s
  | .hotresetEnd p => Sys2Proof.Machine.execHotresetEnd p s
  | .disable p on => Sys2Proof.Machine.execDisable p on s
  | .disableReceived p => Sys2Proof.Machine.execDisableReceived p s
  | .farlb p on => Sys2Proof.Machine.execFarlb p on s
  | .loopbackReceived p => Sys2Proof.Machine.execLoopbackReceived p s
  | .nosleep p on => Sys2Proof.Machine.execNosleep p on s
  | .nearlb p l on => Sys2Proof.Machine.execNearlb p l on s
  | .prbsInj p l => Sys2Proof.Machine.execPrbsInj p l s
  | .laneFail p x => Sys2Proof.Machine.execLaneFail p x s
  | .lcsSteerReceived p k => Sys2Proof.Machine.execLcsSteerReceived p k s
  | .lcsAckReceived p k => Sys2Proof.Machine.execLcsAckReceived p k s
  | .lcsDoneReceived p k => Sys2Proof.Machine.execLcsDoneReceived p k s
  | .sparingTimeout p => Sys2Proof.Machine.execSparingTimeout p s
  | .spareFail x => Sys2Proof.Machine.execSpareFail x s
  | .laneDegradeWindow p l syms => Sys2Proof.Machine.execLaneDegradeWindow p l syms s
  | .sleepEntry p => Sys2Proof.Machine.execSleepEntry p s
  | .slpReceived p dark => Sys2Proof.Machine.execSlpReceived p dark s
  | .txWake p => Sys2Proof.Machine.execTxWake p s
  | .wakeLockTimeout p => Sys2Proof.Machine.execWakeLockTimeout p s
  | .beacon p => Sys2Proof.Machine.execBeacon p s
  | .beaconTimeout p => Sys2Proof.Machine.execBeaconTimeout p s
  | .clockLaneLoss p stopped => Sys2Proof.Machine.execClockLaneLoss p stopped s
  | .tpReceive p seq crc lp cols ecc tp => Sys2Proof.Machine.execTpReceive p seq crc lp cols ecc tp s
  | .ackReceive p seq => Sys2Proof.Machine.execAckReceive p seq s
  | .nakReceive p seq => Sys2Proof.Machine.execNakReceive p seq s
  | .creditReceive p init cp cn cc => Sys2Proof.Machine.execCreditReceive p init cp cn cc s
  | .ackTimer p => Sys2Proof.Machine.execAckTimer p s
  | .replayTimeout p => Sys2Proof.Machine.execReplayTimeout p s
  | .creditUpdate p => Sys2Proof.Machine.execCreditUpdate p s
  | .creditTimeout p => Sys2Proof.Machine.execCreditTimeout p s
  | .readCompletionTimeout tag => Sys2Proof.Machine.execReadCompletionTimeout tag s
  | .portDown p => Sys2Proof.Machine.execPortDown p s
  | .sourceActivate src => Sys2Proof.Machine.execSourceActivate src s
  | .vectorTimer v => Sys2Proof.Machine.execVectorTimer v s
  | .eventDelivery => Sys2Proof.Machine.execEventDelivery s
  | .irqEoi w => Sys2Proof.Machine.execIrqEoi w s
  | .irqSw w => Sys2Proof.Machine.execIrqSw w s
  | .irqSwClr w => Sys2Proof.Machine.execIrqSwClr w s
  | .irqDoze g w => Sys2Proof.Machine.execIrqDoze g w s
  | .irqRconsWrite g w => Sys2Proof.Machine.execIrqRconsWrite g w s
  | .slateEndOfService src => Sys2Proof.Machine.execSlateEndOfService src s
  | .graceExpire cls scope unit => Sys2Proof.Machine.execGraceExpire cls scope unit s
  | .quietExpire cls scope unit => Sys2Proof.Machine.execQuietExpire cls scope unit s
  | .budgetWindowEnd cls scope unit => Sys2Proof.Machine.execBudgetWindowEnd cls scope unit s
  | .fltAck w => Sys2Proof.Machine.execFltAck w s
  | .fltUnstick w => Sys2Proof.Machine.execFltUnstick w s
  | .fltSel w => Sys2Proof.Machine.execFltSel w s
  | .blackboxWrite ok => Sys2Proof.Machine.execBlackboxWrite ok s
  | .roundStart mrefOff => Sys2Proof.Machine.execRoundStart mrefOff s
  | .sensorGateEnd counts => Sys2Proof.Machine.execSensorGateEnd counts s
  | .roundPublish uj => Sys2Proof.Machine.execRoundPublish uj s
  | .glbResetModule w spb => Sys2Proof.Machine.execGlbResetModule w spb s
  | .glbResetTile w spb => Sys2Proof.Machine.execGlbResetTile w spb s
  | .tileResetEnd t => Sys2Proof.Machine.execTileResetEnd t s
  | .spaRead w => Sys2Proof.Machine.execSpaRead w s
  | .spaProgram w => Sys2Proof.Machine.execSpaProgram w s
  | .spaErase w => Sys2Proof.Machine.execSpaErase w s
  | .spaSfdp w => Sys2Proof.Machine.execSpaSfdp w s
  | .spaReadStatus w => Sys2Proof.Machine.execSpaReadStatus w s
  | .spaOpComplete err late data => Sys2Proof.Machine.execSpaOpComplete err late data s
  | .xipRead a => Sys2Proof.Machine.execXipRead a s
  | .spbReadFrame w n extra early ecc => Sys2Proof.Machine.execSpbReadFrame w n extra early ecc s
  | .spbWriteFrame w data extra early => Sys2Proof.Machine.execSpbWriteFrame w data extra early s
  | .spbStatusFrame w n extra early => Sys2Proof.Machine.execSpbStatusFrame w n extra early s
  | .jtagTapReset => Sys2Proof.Machine.execJtagTapReset s
  | .bypass => Sys2Proof.Machine.execBypass s
  | .idcode => Sys2Proof.Machine.execIdcode s
  | .samplePreload => Sys2Proof.Machine.execSamplePreload s
  | .extest => Sys2Proof.Machine.execExtest s
  | .clamp => Sys2Proof.Machine.execClamp s
  | .highz => Sys2Proof.Machine.execHighz s
  | .extestPulse => Sys2Proof.Machine.execExtestPulse s
  | .extestTrain => Sys2Proof.Machine.execExtestTrain s
  | .dwUnlock accept => Sys2Proof.Machine.execDwUnlock accept s
  | .diagWindowRead o spb err => Sys2Proof.Machine.execDiagWindowRead o spb err s
  | .diagWindowWrite o w spb => Sys2Proof.Machine.execDiagWindowWrite o w spb s
  | .vectorPeriod c seen => Sys2Proof.Machine.execVectorPeriod c seen s
  | .compFilterReturn u high samples => Sys2Proof.Machine.execCompFilterReturn u high samples s
  | .shortCircuitRelease u => Sys2Proof.Machine.execShortCircuitRelease u s
  | .kelvinMismatchEnd u => Sys2Proof.Machine.execKelvinMismatchEnd u s
  | .supplyWindowReturn rail => Sys2Proof.Machine.execSupplyWindowReturn rail s
  | .symbolLockRegained p => Sys2Proof.Machine.execSymbolLockRegained p s
  | .tsSendCount p => Sys2Proof.Machine.execTsSendCount p s
  | .eqAdaptEnd p taps => Sys2Proof.Machine.execEqAdaptEnd p taps s
  | .eqMarginCheckEnd p l h v pass => Sys2Proof.Machine.execEqMarginCheckEnd p l h v pass s
  | .loopbackSlaveIdle p => Sys2Proof.Machine.execLoopbackSlaveIdle p s
  | .disabledClockActivity p => Sys2Proof.Machine.execDisabledClockActivity p s
  | .rxWake p => Sys2Proof.Machine.execRxWake p s
  | .beaconReceive p => Sys2Proof.Machine.execBeaconReceive p s
  | .skpSet p rx got => Sys2Proof.Machine.execSkpSet p rx got s

end Sys2Proof.Machine
end

