-- ==== Sys2Proof/Safety.lean ====
section
/-! DEFINITION. What claims call well-formed: every memory and every table of the state in its canonical form. -/

namespace Sys2Proof.Machine

/-- A memory in canonical form over what unlisted addresses read as: addresses strictly rising, no entry equal to what its
address reads as without it. -/
abbrev Memory.wf (d : Nat → Byte) (m : List Host.Cell) : Bool := tabWf d m

/-- The register table, the three memories and the tables of hidden parts are in canonical form: equal contents are equal data. -/
structure State.Wf (s : State) : Prop where
  regs : tabWf resetWord s.regs = true
  sram : Memory.wf sramReset s.sram = true
  flash : Memory.wf flashReset s.flash = true
  host : Memory.wf hostReset s.host = true
  fes : tabWf (fun _ => {}) s.fes = true
  cmps : tabWf (fun _ => {}) s.cmps = true
  insts : tabWf (fun _ => {}) s.insts = true
  adcs : tabWf (fun _ => {}) s.adcs = true
  engs : tabWf (fun _ => {}) s.engs = true
  ctxs : tabWf (fun _ => {}) s.ctxs = true
  flGroups : tabWf (fun _ => {}) s.flGroups = true
  tdcs : tabWf (fun _ => {}) s.tdcs = true
  trigs : tabWf (fun _ => {}) s.trigs = true
  rots : tabWf (fun _ => {}) s.rots = true
  tiles : tabWf (fun _ => {}) s.tiles = true
  timing : tabWf (fun _ => {}) s.timing = true
  timingNew : tabWf (fun _ => {}) s.timingNew = true
  mics : tabWf (fun _ => {}) s.mics = true
  ports : tabWf (fun _ => {}) s.ports = true
  srcs : tabWf (fun _ => {}) s.srcs = true
  vecs : tabWf (fun _ => {}) s.vecs = true
  lastCls : tabWf (fun _ => 0) s.lastCls = true
  pairs : tabWf (fun _ => 0) s.pairs = true
  charges : tabWf (fun _ => 0) s.charges = true
  cs : tabWf (fun _ => 0) s.cs = true
  good : tabWf (fun _ => 0) s.good = true
  latched : tabWf (fun _ => 0) s.latched = true
  pulses : tabWf (fun _ => 0) s.pulses = true
  jobs : tabWf (fun _ => none) s.jobs = true
  rotAt : tabWf (fun _ => none) s.rotAt = true
  rails : tabWf (fun _ => 65536) s.rails = true

/-- The registers that what follows a command in the same moment may change (log entry 55): GLB_STATUS, IRQ_LATCH, MC_ENG_STATUS, the
IRQ_SMAP and IRQ_VEC registers, THM_TILE_GOV, and of each front-end CHN_FE_CFG, CHN_FE_TARGET, CHN_FE_STATUS, CHN_SINE_CTRL,
CHN_ADC_STATUS and CHN_ADC_CNT. [DEDUCED, log entry 55] -/
def follows (a : Nat) : Bool :=
  decide (a = 0x10 ∨ a = 0x200010 ∨ (0x21000 ≤ a ∧ a < 0x22000) ∨ (0x201000 ≤ a ∧ a < 0x206000) ∨
    (0x500048 ≤ a ∧ a < 0x5000C8 ∧ a % 16 = 8) ∨
    (0x800000 ≤ a ∧ 0x10000 ≤ a % 0x100000 ∧ (a % 0x800 = 0 ∨ a % 0x800 = 4 ∨ a % 0x800 = 0x14 ∨ a % 0x800 = 0x40 ∨ a % 0x800 = 0x104 ∨ a % 0x800 = 0x110)))

/-- c' is c as settling leaves it: the same command, as admitted and started; an ended one is untouched. -/
structure Cmd.Same (c c' : Cmd) : Prop where
  sq : c'.sq = c.sq
  tag : c'.tag = c.tag
  op : c'.op = c.op
  words : c'.words = c.words
  chans : c'.chans = c.chans
  vanish : c'.vanish = c.vanish
  admitted : c'.admitted = c.admitted
  started : c'.started = c.started
  ended : c.ending ≠ none → c' = c

/-! ### Completion and frames -/

/-- Command i completes in state s: it answers a next state, and that state has P. -/
def Completes (i : Instr) (s : State) (P : State → Prop) : Prop := ∃ t, exec i s = .next t ∧ P t

/-- The byte at address a of the on-chip SRAM. -/
def State.sramByte (s : State) (a : Nat) : Byte := tabGet sramReset s.sram a
/-- The byte at address a of the boot flash. -/
def State.flashByte (s : State) (a : Nat) : Byte := tabGet flashReset s.flash a
/-- The byte at address a of host memory as the module has written it. -/
def State.hostByte (s : State) (a : Nat) : Byte := tabGet hostReset s.host a

/-- An engine but for its hold, whose event may come in the same moment. -/
def Eng.still (e : Eng) : Eng := { e with hold := none }

/-- A port but for what sending packets changes. -/
def Port.still (q : Port) : Port := { q with replay := [], seq := 0, used := {}, served := 0, wait := [], freed := {}, since := 0 }

/-- The parts that neither registers nor memories hold and that nothing but a command's own effect changes. -/
def State.parts (s : State) : State :=
  { s with regs := [], sram := [], flash := [], host := [], fes := [], cmds := [], adcs := [], engs := [], charges := [], ports := [], own := [],
           srcs := [], vecs := [], pending := [] }

/-- What a command may change: registers, bytes of the three memories, front-ends, converters, engines and ports by number, and the parts
that `parts` blanks. -/
structure Touch where
  regs : Nat → Prop := fun _ => False
  sram : Nat → Prop := fun _ => False
  flash : Nat → Prop := fun _ => False
  host : Nat → Prop := fun _ => False
  fes : Nat → Prop := fun _ => False
  adcs : Nat → Prop := fun _ => False
  engs : Nat → Prop := fun _ => False
  ports : Nat → Prop := fun _ => False
  parts : State → State := id

/-- The converter of unit u is at work, held by a rotation, or has nothing to do: it does not take up work by itself. -/
def State.adcRests (s : State) (u : Nat) : Prop :=
  (s.adc u).conv ≠ none ∨ (s.adc u).hold ≠ 0 ∨ ((s.adc u).running = false ∧ (s.adc u).inj = [] ∧ (s.adc u).heldInj = [])

/-- The frame of a command from s to t: all but w stands as it was, but for what settles in the same moment (log entry 55). -/
structure Frame (w : Touch) (s t : State) : Prop where
  regs : ∀ a, ¬ w.regs a → follows a = false → t.rd a = s.rd a
  status : ¬ w.regs 0x10 → ∀ i, 3 ≤ i → (t.rd 0x10).getLsbD i = (s.rd 0x10).getLsbD i
  sram : ∀ a, ¬ w.sram a → t.sramByte a = s.sramByte a
  flash : ∀ a, ¬ w.flash a → t.flashByte a = s.flashByte a
  host : ∀ a, ¬ w.host a → t.hostByte a = s.hostByte a
  fes : ∀ u, ¬ w.fes u → (s.fe u).contact = none → t.fe u = s.fe u ∧
    ∀ o, (o = 0 ∨ o = 4 ∨ o = 0x14 ∨ o = 0x40) → ¬ w.regs (feB u + o) → t.rd (feB u + o) = s.rd (feB u + o)
  adcs : ∀ u, ¬ w.adcs u → s.adcRests u → (∀ v, v = u ∨ 1024 ≤ v → (s.fe v).contact = none) → t.adc u = s.adc u
  engs : ∀ c, ¬ w.engs c → (s.fe c).contact = none → (t.eng c).still = (s.eng c).still
  ports : ∀ p, ¬ w.ports p → (t.port p).still = (s.port p).still
  parts : w.parts t.parts = w.parts s.parts

end Sys2Proof.Machine
end

