-- ==== Sys2Proof/Certificates/Slice0/Obligations.lean ====
section
/-! DEFINITION. The statements for the provers: general rules of the module and of the model, then command family by command family what a
command's own effect leaves, where it completes, and its frame. -/

namespace Sys2Proof.Machine

/-- What a module reset with the given CAUSE leaves of a running module (R403 to R407, R412). -/
structure WarmReset (cause : Nat) (s t : State) : Prop where
  held : t.inReset = true
  mode : t.mode = stBOOT
  cause : t.getF 0 GLB_RESET_CAUSE.CAUSE = cause
  warm : t.getF 0 GLB_RESET_CAUSE.WARM = 1
  prev : t.getF 0 GLB_RESET_CAUSE.PREV = s.mode
  count : t.getF 0 GLB_RESET_CAUSE.COUNT = min (s.getF 0 GLB_RESET_CAUSE.COUNT + 1) 65535
  regs : ∀ a, a ∉ [GLB_RESET_CAUSE.CAUSE.off, GLB_INTERRUPTED_OP.OPCODE.off, FLT_BB_STATUS.STAGED.off] → follows a = false → t.rd a = resetWord a
  sram : ∀ a, t.sramByte a = if calBase ≤ a ∧ a < calBase + 0x200000 then s.sramByte a else sramReset a
  flash : ∀ a, t.flashByte a = s.flashByte a
  host : ∀ a, t.hostByte a = s.hostByte a
  fes : ∀ u, t.fe u = {}
  adcs : ∀ u, t.adc u = {}
  engs : ∀ c, t.eng c = {}
  insts : t.insts = []
  bbStage : t.bbStage = s.bbStage

/-- What a power-on reset or the loss of a rail leaves (R403, R405, R419). -/
structure ColdReset (s t : State) : Prop where
  held : t.inReset = true
  mode : t.mode = stBOOT
  regs : ∀ a, follows a = false → t.rd a = resetWord a
  sram : ∀ a, t.sramByte a = sramReset a
  flash : ∀ a, t.flashByte a = s.flashByte a
  host : ∀ a, t.hostByte a = s.hostByte a
  fes : ∀ u, t.fe u = {}
  adcs : ∀ u, t.adc u = {}
  engs : ∀ c, t.eng c = {}
  insts : t.insts = []
  bbStage : t.bbStage = []

/-- No fault instance is in force. -/
def State.noFaults (s : State) : Prop := ∀ e ∈ s.insts, e.2.force = false

/-- The module runs: out of reset, the root PLL locked, past boot. -/
def State.runs (s : State) : Prop := s.inReset = false ∧ s.clocked = true ∧ s.mode ≠ stBOOT

/-- What the rows of commands leave: command r has ended with e, every other command is the same (one whose tile has been reset
may vanish, R261), all else stands but w. -/
structure Answered (r : CmdRef) (e : Ending) (w : Touch) (s t : State) : Prop where
  ended : ∃ k ∈ t.cmds, k.isRef r = true ∧ k.ending = some e
  others : ∀ c ∈ s.cmds, c.isRef r = false → c.vanish = false → ∃ c' ∈ t.cmds, Cmd.Same c c'
  frame : Frame w s t

/-- Command r is under way, what it gathers for its RESULT stands at acc; every other command is the same, all else stands but w. -/
structure Begun (r : CmdRef) (w : Touch) (s t : State) : Prop where
  started : ∃ k ∈ t.cmds, k.isRef r = true ∧ k.started = true
  others : ∀ c ∈ s.cmds, c.isRef r = false → c.vanish = false → ∃ c' ∈ t.cmds, Cmd.Same c c'
  frame : Frame w s t

/-- No rotation is under way on the channels of l. -/
def State.noRot (s : State) (l : List Nat) : Prop := ∀ k ∈ l, (s.rot (shadeOf k)).active = false ∨ (s.rot (shadeOf k)).chan ≠ k

/-- Unit u's converter is that of a front-end which serves one of the channels in l. -/
def State.adcsOf (s : State) (l : List Nat) (u : Nat) : Prop := ∃ k ∈ l, u = s.adcOf (s.phys k)

/-- Register a lies in the front-end block of u. -/
def inFe (u a : Nat) : Prop := feB u ≤ a ∧ a < feB u + 0x300

end Sys2Proof.Machine

open Sys2Proof Sys2Proof.Machine

/-- R403 to R407, R409, R419: what sends the module into reset, and what lets it start to boot again (model's choice, log entry 56) (the
model's reading: log entries 1, 53, 55, 56). -/
def Obligations.ResetAndSupplyRows : Prop :=
  (∀ s : State, s.off = false →
  (s.inReset = false → Completes .perstNAssert s (WarmReset 2 s)) ∧
  (s.inReset = false → 5 ≤ s.getF 0 GLB_BOOT_STATUS.PHASE → Completes .lockstepMismatch s (WarmReset 3 s)) ∧
  (∀ (w : Word) (spb : Bool), s.inReset = false → GLB_RESET.KEY.get w = 0x5AFE → GLB_RESET.MODULE.get w = 1 →
    Completes (.glbResetModule w spb) s (WarmReset (if spb then 5 else 4) s)) ∧
  (s.inReset = true → s.unlocked = false → s.tapIr ∉ holdIrs →
    Completes .bootStart s fun t => t.inReset = false ∧ Frame { parts := fun x => { x with inReset := true } } s t)) ∧
  (∀ s : State,
  (s.off = true → Completes .powerOn s fun t =>
    t.off = false ∧ t.unlocked = false ∧ t.dwFailed = false ∧ t.tapIr = 1 ∧ ColdReset s t) ∧
  (∀ rail, Completes (.resetWindowExit rail) s fun t => t.off = true ∧ ColdReset s t) ∧
  (∀ rail mv, s.off = false → s.mode = stBOOT → Completes (.supplyWindowExit rail mv) s fun t =>
    tabGet (fun _ => 65536) t.rails rail = mv.toNat ∧ Frame { parts := fun x => { x with rails := [] } } s t) ∧
  (∀ rail mv, s.off = false → s.mode ≠ stBOOT → (s.inst (instKey 0x11 scMODULE 0)).force = false →
    s.getF (4 * 0x11) FLT_CLASS.LEVEL = 3 → Completes (.supplyWindowExit rail mv) s fun t => t.mode = stSAFE) ∧
  (∀ rail, Completes (.supplyWindowReturn rail) s fun t =>
    (∀ r, tabGet (fun _ => 65536) t.rails r = if r = rail then 65536 else tabGet (fun _ => 65536) s.rails r) ∧
    ((∀ e ∈ s.rails, e.1 = rail) → (s.inst (instKey 0x11 scMODULE 0)).force = true → (s.inst (instKey 0x11 scMODULE 0)).cond = true →
      (t.inst (instKey 0x11 scMODULE 0)).cond = false ∧
      (t.inst (instKey 0x11 scMODULE 0)).quiet = !(s.inst (instKey 0x11 scMODULE 0)).sticky) ∧
    Frame { parts := fun x => { x with rails := [], insts := [] } } s t))

/-- R22, R23: SERVICE (the model's reading: log entries 1, 53, 55). -/
def Obligations.ServiceRows : Prop := ∀ s : State,
  (s.writeOk GLB_CTRL.SVC_REQ.off = true → s.mode = stREADY → s.cmdInFlight = false → s.calUnderWay = false →
    Completes (.svcReq false) s fun t => t.mode = stSERVICE ∧ Frame { regs := fun a => a = 0x10 ∨ a = 0x200010 } s t) ∧
  (s.writeOk GLB_CTRL.SVC_REQ.off = true → s.mode = stREADY → s.cmdInFlight = false → s.calUnderWay = true →
    Completes (.svcReq false) s fun t => t.svcEntry = true ∧ Frame { parts := fun x => { x with svcEntry := true } } s t) ∧
  (∀ black, s.writeOk GLB_CTRL.SVC_REQ.off = true → s.mode ≠ stREADY ∨ s.cmdInFlight = true ∨ black = true →
    Completes (.svcReq black) s fun t => t.getF 0 GLB_STATUS.SVC_REJ = 1 ∧ Frame { regs := fun a => a = 0x10 } s t) ∧
  (s.svcEntry = true → s.mode = stREADY → s.calUnderWay = false → Completes .serviceEntry s fun t =>
    t.mode = stSERVICE ∧ t.svcEntry = false ∧
    Frame { regs := fun a => a = 0x10 ∨ a = 0x200010, parts := fun x => { x with svcEntry := true } } s t) ∧
  (s.writeOk GLB_CTRL.SVC_REQ.off = true → s.mode = stSERVICE → s.serviceHeld = false →
    Completes .svcExit s fun t => (t.mode = stREADY ∨ t.mode = stACTIVE) ∧ Frame { regs := fun a => a = 0x10 ∨ a = 0x200010 } s t) ∧
  (s.writeOk GLB_CTRL.SVC_REQ.off = true → s.mode = stSERVICE → s.serviceHeld = true →
    Completes .svcExit s fun t => t.svcExit = true ∧ Frame { parts := fun x => { x with svcExit := true } } s t) ∧
  (s.svcExit = true → s.mode = stSERVICE → s.serviceHeld = false → Completes .serviceExitEffect s fun t =>
    (t.mode = stREADY ∨ t.mode = stACTIVE) ∧ t.svcExit = false ∧
    Frame { regs := fun a => a = 0x10 ∨ a = 0x200010, parts := fun x => { x with svcExit := true } } s t)

/-- R385, R386: boot phases, from the phase that stands in GLB_BOOT_STATUS (the model's reading: log entries 1, 48, 55, 56). -/
def Obligations.BootPhases : Prop := ∀ (inp : BootIn) (s : State), s.inReset = false → s.mode = stBOOT → s.isSet 0 GLB_BOOT_STATUS.HALT = false →
  ((s.getF 0 GLB_BOOT_STATUS.PHASE = 1 ∨ s.getF 0 GLB_BOOT_STATUS.PHASE = 3 ∧ s.clocked = true) →
    Completes (.bootPhaseComplete inp) s fun t => t.getF 0 GLB_BOOT_STATUS.PHASE = s.getF 0 GLB_BOOT_STATUS.PHASE + 1 ∧
      Frame { regs := fun a => a = GLB_BOOT_STATUS.PHASE.off } s t) ∧
  (s.getF 0 GLB_BOOT_STATUS.PHASE = 2 → inp.inBand = true → Completes (.bootPhaseComplete inp) s fun t =>
    t.clocked = true ∧ t.isSet 0 GLB_STATUS.REF_INT = false ∧ t.tb = 0 ∧ t.getF 0 GLB_BOOT_STATUS.PHASE = 3 ∧
    (∀ p < 4, (t.port p).released = true)) ∧
  (s.getF 0 GLB_BOOT_STATUS.PHASE = 2 → inp.inBand = false → Completes (.bootPhaseComplete inp) s fun t =>
    t.isSet 0 GLB_STATUS.REF_INT = true ∧ Frame { regs := fun a => a = 0x10 } s t) ∧
  (s.getF 0 GLB_BOOT_STATUS.PHASE = 4 → s.clocked = true → inp.flash = none → Completes (.bootPhaseComplete inp) s fun t =>
    t.isSet 0 GLB_BOOT_STATUS.HALT = true ∧ t.getF 0 GLB_BOOT_STATUS.ERR = 1 ∧ Frame { regs := fun a => a = GLB_BOOT_STATUS.PHASE.off } s t) ∧
  (s.getF 0 GLB_BOOT_STATUS.PHASE = 10 → s.clocked = true → (∀ e ∈ inp.checks, e.2.1.natAbs ≤ 1000000 ∧ e.2.2.1.natAbs ≤ 1000000) → s.rails = [] → s.noFaults →
    Completes (.bootPhaseComplete inp) s fun t =>
      t.getF 0 GLB_BOOT_STATUS.PHASE = 0xF ∧ (t.mode = stREADY ∨ t.mode = stACTIVE))

/-- R16, R17, R403, R405, R434: the reference clock and the tile reset (the model's reading: log entries 1, 55). -/
def Obligations.ClockAndTileResetRows : Prop := ∀ s : State, s.inReset = false →
  (∀ (n : BitVec 16) (pll : Bool), (n.toNat < 990 ∨ 1010 < n.toNat ∨ pll = true) → s.clocked = false →
    Completes (.refclkLoss n pll) s fun t => t.isSet 0 GLB_STATUS.REF_INT = true ∧ Frame { regs := fun a => a = 0x10 } s t) ∧
  (∀ (n : BitVec 16) (pll : Bool), (n.toNat < 990 ∨ 1010 < n.toNat ∨ pll = true) → s.clocked = true →
    Completes (.refclkLoss n pll) s fun t => (∀ u, (t.tdc u).locks = 0) ∧ ∀ p < 4, t.pst p = 0) ∧
  (s.clocked = false → 2 < s.getF 0 GLB_BOOT_STATUS.PHASE → Completes .refclkRecovery s fun t =>
    t.clocked = true ∧ t.isSet 0 GLB_STATUS.REF_INT = false ∧ t.tb = 0 ∧ t.isSet 0 SPA_STATUS.INTOSC = false ∧
    t.getF 0 SPA_STATUS.MODE = s.spaMode % 4 ∧
    Frame { regs := fun a => a = 0x10 ∨ a = SPA_STATUS.MODE.off, parts := fun x => { x with tb := 0, div := 0, insts := [] } } s t) ∧
  (∀ (w : Word) (spb : Bool) (k : Fin 8), s.mode ≠ stBOOT → s.noFaults → GLB_RESET.KEY.get w = 0x5AFE → GLB_RESET.MODULE.get w = 0 →
    GLB_RESET.TILES.get w = 2 ^ k.val → s.isSet (tileBase k) TIL_STATUS.RESET = false → Completes (.glbResetTile w spb) s fun t =>
      t.isSet (tileBase k) TIL_STATUS.RESET = true ∧ t.tileQ k = true ∧ t.getF (k * 0x10) CAL_TILE_ROT.DUE = 1 ∧ (t.trig k).segs = []) ∧
  (∀ (w : Word) (spb : Bool), GLB_RESET.KEY.get w ≠ 0x5AFE → (GLB_RESET.MODULE.get w = 1 ∨ GLB_RESET.TILES.get w ≠ 0) →
    Completes (.glbResetTile w spb) s fun t => t.isSet 0 GLB_RESET.KEYERR = true ∧ Frame { regs := fun a => a = GLB_RESET.KEYERR.off } s t) ∧
  (∀ k : Fin 8, s.noFaults → s.isSet (tileBase k) TIL_STATUS.RESET = true → Completes (.tileResetEnd k) s fun t =>
    t.isSet (tileBase k) TIL_STATUS.RESET = false ∧ t.tileQ k = false ∧
    Frame { regs := fun a => a = tileBase k + TIL_STATUS.RESET.off ∨ a = 0x10 } s t)

/-- R408 to R410: the test access port (the model's reading: log entries 1, 53, 55). -/
def Obligations.JtagRows : Prop := ∀ s : State, s.off = false →
  Completes .jtagTapReset s (fun t => t.tapIr = 0x01 ∧ Frame { parts := fun x => { x with tapIr := 0 } } s t) ∧
  Completes .idcode s (fun t => t.tapIr = 0x01 ∧ Frame { parts := fun x => { x with tapIr := 0 } } s t) ∧
  Completes .samplePreload s (fun t => t.tapIr = 0x02 ∧ Frame { parts := fun x => { x with tapIr := 0 } } s t) ∧
  Completes .bypass s (fun t => t.tapIr = 0xFF ∧ Frame { parts := fun x => { x with tapIr := 0 } } s t) ∧
  (s.inReset = false →
    Completes .extest s (fun t => t.tapIr = 0x04 ∧ WarmReset 6 s t) ∧ Completes .clamp s (fun t => t.tapIr = 0x05 ∧ WarmReset 6 s t) ∧
    Completes .highz s (fun t => t.tapIr = 0x06 ∧ WarmReset 6 s t) ∧ Completes .extestPulse s (fun t => t.tapIr = 0x08 ∧ WarmReset 6 s t) ∧
    Completes .extestTrain s (fun t => t.tapIr = 0x09 ∧ WarmReset 6 s t) ∧
    (s.unlocked = false → s.dwFailed = false → Completes (.dwUnlock true) s fun t => t.unlocked = true ∧ WarmReset 6 s t)) ∧
  (s.unlocked = false → s.dwFailed = false → Completes (.dwUnlock false) s fun t =>
    t.dwFailed = true ∧ Frame { parts := fun x => { x with dwFailed := true } } s t)

/-- R391 to R395, R413: the SPA port, the end of an SPA operation, a read through the window beyond the density (the model's reading: log
entries 1, 54, 55). -/
def Obligations.SpaRows : Prop :=
  (∀ (s : State) (w : Word), s.writeOk SPA_CMD.START.off = true → s.isSet 0 SPA_STATUS.BUSY = false →
  (∀ (i : Instr) (op : Nat), (i, op) ∈ [(.spaRead w, 0), (.spaProgram w, 1), (.spaErase w, 2), (.spaSfdp w, 3), (.spaReadStatus w, 4)] →
    ∀ o : SpaOp, o.op = op → o.addr = s.getF 0 SPA_ADDR.ADDR → o.len = SPA_CMD.LENM1.get w + 1 →
      o.data = ((List.range 64).flatMap fun i => leBytes 4 (s.getF (4 * i) SPA_BUF.DATA)).take o.len → s.spaRefuse o = none →
      Completes i s fun t => t.spa = some o ∧ t.isSet 0 SPA_STATUS.BUSY = true ∧
        Frame { regs := fun a => a = SPA_CMD.START.off ∨ a = SPA_STATUS.BUSY.off, parts := fun x => { x with spa := none } } s t)) ∧
  (∀ (s : State) (data : List Byte),
  (∀ o : SpaOp, s.spa = some o → Completes (.spaOpComplete false false data) s fun t =>
    t.spa = none ∧ t.isSet 0 SPA_STATUS.BUSY = false ∧ t.getF 0 SPA_CMD.RESULT = 0 ∧
    (∀ a, t.sramByte a = s.sramByte a) ∧ (∀ a, t.hostByte a = s.hostByte a) ∧
    (o.op = 1 → ∀ a, t.flashByte a = if o.addr ≤ a ∧ a < o.addr + o.data.length then o.data.getD (a - o.addr) 0 &&& s.flashByte a
      else s.flashByte a) ∧
    (o.op = 2 → ∀ a, t.flashByte a = if o.addr ≤ a ∧ a < o.addr + 4096 then 0xFF else s.flashByte a) ∧
    (o.op ≠ 1 → o.op ≠ 2 → ∀ a, t.flashByte a = s.flashByte a)) ∧
  (∀ o : SpaOp, ∀ late, s.spa = some o → o.op ≠ 1 → o.op ≠ 2 → Completes (.spaOpComplete true late data) s fun t =>
    t.spa = none ∧ t.isSet 0 SPA_STATUS.BUSY = false ∧ t.getF 0 SPA_CMD.RESULT = 4 ∧
    Frame { regs := fun a => a = SPA_CMD.START.off ∨ a = SPA_STATUS.BUSY.off, parts := fun x => { x with spa := none } } s t) ∧
  (∀ a : BitVec 26, 5 ≤ s.getF 0 GLB_BOOT_STATUS.PHASE → s.inReset = false → 2 ^ s.getF 0 SPA_STATUS.DLOG2 ≤ a.toNat →
    Completes (.xipRead a) s fun t => t.isSet 0 SPA_STATUS.RANGE = true ∧ Frame { regs := fun x => x = SPA_STATUS.RANGE.off } s t))

/-- R5, R13, R398 to R402, R430 to R432, R439 to R442: the register window and the diagnostic memories, over the link and over SPB (the
model's reading: log entries 1, 45, 55). -/
def Obligations.WindowRows : Prop := ∀ s : State,
  (∀ (w : Word) (early : Bool) (ecc : List (Nat × Bool)), s.inReset = false → spbOp w = 0 → spbCause w 2 0 early = 0 →
    4 * spbAddr w < 0x1000000 → s.readOk (4 * spbAddr w) = true → isHi (4 * spbAddr w) = false →
    Completes (.spbReadFrame w 2 0 early ecc) s fun t => t.spbOut = [s.spbStatus early, 0, s.viewWord (4 * spbAddr w)] ∧
      Frame { parts := fun x => { x with spbOut := [] } } s t) ∧
  (∀ (w : Word) (n : Nat) (early : Bool), s.inReset = false → spbOp w = 2 → spbCause w n 0 early = 0 →
    Completes (.spbStatusFrame w n 0 early) s fun t => t.spbOut = List.replicate (n + 1) (s.spbStatus early) ∧
      Frame { parts := fun x => { x with spbOut := [] } } s t) ∧
  (∀ (w v : Word) (early : Bool), s.inReset = false → spbOp w = 1 → spbCause w 1 0 early = 0 → 4 * spbAddr w = GLB_SYNC_SKEW_LO.SKEW.off →
    s.writeOk GLB_SYNC_SKEW_LO.SKEW.off = true →
    Completes (.spbWriteFrame w [v] 0 early) s fun t => t.rd GLB_SYNC_SKEW_LO.SKEW.off = v ∧ t.spbOut = [s.spbStatus early] ∧
      Frame { regs := fun a => a = GLB_SYNC_SKEW_LO.SKEW.off, parts := fun x => { x with spbOut := [] } } s t) ∧
  (∀ (w v : Word) (extra : Fin 32) (early : Bool), s.inReset = false → spbOp w = 1 → extra ≠ 0 →
    Completes (.spbWriteFrame w [v] extra early) s fun t => t.getF 0 SPB_ERR.FRAME = min (s.getF 0 SPB_ERR.FRAME + 1) 65535 ∧
      t.getF 0 SPB_ERR.LAST = 1 ∧ t.isSet 0 SPB_STATUS.ERRSEEN = true ∧
      Frame { regs := fun a => a = SPB_ERR.LAST.off ∨ a = SPB_STATUS.ERRSEEN.off, parts := fun x => { x with spbOut := [] } } s t) ∧
  (∀ (w : Word) (spb : Bool), s.writeOk GLB_SYNC_SKEW_LO.SKEW.off = true →
    Completes (.registerWrite 0x14 w spb) s fun t => t.rd GLB_SYNC_SKEW_LO.SKEW.off = w ∧
      Frame { regs := fun a => a = GLB_SYNC_SKEW_LO.SKEW.off } s t) ∧
  (∀ (a : BitVec 24) (w : Word) (spb : Bool), (s.writeOk (4 * a.toNat) = false ∨ 4 * a.toNat < 0x1000000 ∧ findReg (4 * a.toNat) = none) →
    Completes (.registerWrite a w spb) s fun t => Frame {} s t) ∧
  (∀ a : BitVec 24, isLo (4 * a.toNat) = true → s.readOk (4 * a.toNat) = true →
    Completes (.loReadLatch a) s fun t => t.linkHi (4 * a.toNat + 4) = s.liveHi (4 * a.toNat) ∧
      Frame { parts := fun x => { x with latched := [] } } s t) ∧
  (∀ (o : BitVec 24) (spb : Bool), s.diagReadOk (s.diagPart (diagAddr o) spb) = true → s.diagOpen (s.diagPart (diagAddr o) spb) = false →
    Completes (.diagWindowRead o spb none) s fun t => t.diagOut = BitVec.ofNat 32 (s.diagWord (s.diagPart (diagAddr o) spb)) ∧
      Frame { parts := fun x => { x with diagOut := 0 } } s t) ∧
  (∀ (o : BitVec 24) (w : Word) (spb : Bool) (c p : Nat), s.writeOk (diagAddr o) = true → s.diagPart (diagAddr o) spb = .seq c p →
    s.isSet (tileBase (c / 128)) TIL_STATUS.RESET = false → s.mode = stSERVICE → Completes (.diagWindowWrite o w spb) s fun t =>
      memRead sramReset t.sram (seqBase c + p) 4 = leBytes 4 w.toNat ∧
      Frame { sram := fun a => seqBase c + p ≤ a ∧ a < seqBase c + p + 4 } s t)


/-- R362, R364, R365: the timers of a fault instance (the model's reading: log entries 1, 55). -/
def Obligations.FaultTimerRows : Prop := ∀ (cls : Byte) (scope : Fin 5) (unit : Fin 1056) (s : State) (k : Nat) (i : Inst),
  k = instKey cls.toNat scope unit → i = s.inst k →
  (i.force = true → i.unack = true → i.grace = true → (i.level = 1 ∨ i.level = 2) → Completes (.graceExpire cls scope unit) s fun t =>
    (t.inst k).force = true ∧ (t.inst k).level = i.level + 1 ∧ (t.inst k).unack = true ∧
    (i.level = 2 → s.mode ≠ stBOOT → t.mode = stSAFE) ∧ ∀ a, t.flashByte a = s.flashByte a) ∧
  (i.force = true → i.cond = false → i.sticky = false → i.quiet = true → i.level = 0 → Completes (.quietExpire cls scope unit) s fun t =>
    (∀ n, t.inst n = if n = k then { rcnt := i.rcnt, wcnt := i.wcnt, window := i.window } else s.inst n) ∧
    Frame { regs := fun a => a = 0x10 ∨ a = 0x200010, parts := fun x => { x with insts := [], tiles := [] } } s t) ∧
  (i.force = true → i.cond = false → i.sticky = false → i.quiet = true → i.level ≠ 0 → (i.window = false ∨ i.wcnt < s.budgetMax) →
    Completes (.quietExpire cls scope unit) s fun t =>
      (∀ n, t.inst n = if n = k then { rcnt := min (i.rcnt + 1) 65535, wcnt := if i.window then i.wcnt + 1 else 1, window := true } else s.inst n) ∧
      Frame { regs := fun a => a = 0x10 ∨ a = 0x200010, parts := fun x => { x with insts := [], tiles := [] } } s t) ∧
  (i.force = true → i.cond = false → i.sticky = false → i.quiet = true → i.level ≠ 0 → i.window = true → s.budgetMax ≤ i.wcnt →
    Completes (.quietExpire cls scope unit) s fun t =>
      (∀ n, t.inst n = if n = k then { i with sticky := true, unack := true, quiet := false, grace := decide (i.level = 1 ∨ i.level = 2) } else s.inst n) ∧
      (s.bbStage.length < 64 → ∃ r, t.bbStage = s.bbStage ++ [r] ∧ r.cls = cls.toNat ∧ r.scope = scope.val ∧ r.unit = unit.val ∧ r.why = 3 ∧
        r.level = i.level ∧ r.detail = i.detail) ∧
      (64 ≤ s.bbStage.length → t.bbStage = s.bbStage ∧ t.isSet 0 FLT_BB_STATUS.LOST = true) ∧
      Frame { regs := fun a => a = FLT_BB_STATUS.LOST.off, parts := fun x => { x with insts := [], bbStage := [] } } s t) ∧
  Completes (.budgetWindowEnd cls scope unit) s fun t =>
    (∀ n, t.inst n = if n = k then { i with wcnt := 0, window := false } else s.inst n) ∧
    Frame { parts := fun x => { x with insts := [] } } s t

/-- R363, R365, R372: FLT_ACK, FLT_UNSTICK, FLT_SEL (the model's reading: log entries 1, 55). -/
def Obligations.FaultRegisterRows : Prop := ∀ (w : Word) (s : State) (cls scope unit : Nat), s.Wf →
  cls = FLT_SEL.CLASS.get w → scope = FLT_SEL.SCOPE.get w → unit = FLT_SEL.UNIT.get w →
  (s.writeOk FLT_ACK.CLASS.off = true → unit < scopeUnits scope → Completes (.fltAck w) s fun t =>
    (∀ k, t.inst k = if (s.inst k).force = true ∧ (s.inst k).unack = true ∧ ackSelects cls scope unit k = true
      then { s.inst k with unack := false, grace := false } else s.inst k) ∧
    Frame { parts := fun x => { x with insts := [] } } s t) ∧
  (s.writeOk FLT_ACK.CLASS.off = true → scopeUnits scope ≤ unit → Completes (.fltAck w) s fun t =>
    t.isSet 0 FLT_STATUS.ACKIGN = true ∧ Frame { regs := fun a => a = FLT_STATUS.ACKIGN.off } s t) ∧
  (s.writeOk FLT_UNSTICK.CLASS.off = true → unit < scopeUnits scope → s.mode = stSERVICE → Completes (.fltUnstick w) s fun t =>
    (∀ k, t.inst k = if (s.inst k).force = true ∧ (s.inst k).sticky = true ∧ ackSelects cls scope unit k = true
      then { s.inst k with sticky := false, wcnt := 0, window := false, quiet := !(s.inst k).cond } else s.inst k) ∧
    Frame { parts := fun x => { x with insts := [] } } s t) ∧
  (s.writeOk FLT_UNSTICK.CLASS.off = true → (scopeUnits scope ≤ unit ∨ s.mode ≠ stSERVICE) → Completes (.fltUnstick w) s fun t =>
    t.isSet 0 FLT_STATUS.ACKIGN = true ∧ Frame { regs := fun a => a = FLT_STATUS.ACKIGN.off } s t) ∧
  (s.writeOk FLT_SEL.CLASS.off = true → unit < scopeUnits scope → (s.getF (4 * cls) FLT_CLASS.SCOPES).testBit scope = true →
    Completes (.fltSel w) s fun t =>
      (∀ k, t.inst k = if k = instKey cls scope unit ∧ FLT_SEL.CLRCNT.get w = 1 then { s.inst k with rcnt := 0 } else s.inst k) ∧
      t.rd FLT_INST.RCNT.off = (t.inst (instKey cls scope unit)).word ∧
      Frame { regs := fun a => a = FLT_SEL.CLASS.off ∨ a = FLT_INST.RCNT.off, parts := fun x => { x with insts := [] } } s t) ∧
  (s.writeOk FLT_SEL.CLASS.off = true → (scopeUnits scope ≤ unit ∨ (s.getF (4 * cls) FLT_CLASS.SCOPES).testBit scope = false) →
    Completes (.fltSel w) s fun t => t.rd FLT_INST.RCNT.off = 0 ∧
      Frame { regs := fun a => a = FLT_SEL.CLASS.off ∨ a = FLT_INST.RCNT.off } s t)

/-- R13, R358, R369, R374 to R376: black-box, scrubbing, the housekeeping round (the model's reading: log entries 1, 46, 48, 55). -/
def Obligations.BlackBoxAndRoundRows : Prop := ∀ s : State,
  (s.bbStage ≠ [] → s.inReset = false → 8 ≤ s.getF 0 GLB_BOOT_STATUS.PHASE → Completes (.blackboxWrite true) s fun t =>
    t.bbStage = [] ∧ t.getF 0 FLT_BB_STATUS.STAGED = 0 ∧ t.getF 0 FLT_BB_SEQ.SEQ = (s.getF 0 FLT_BB_SEQ.SEQ + s.bbStage.length) % 2 ^ 32 ∧
    Frame { regs := fun a => a = FLT_BB_SEQ.SEQ.off ∨ a = FLT_BB_STATUS.STAGED.off, flash := fun a => 0x2000 ≤ a ∧ a < 0x5000,
            parts := fun x => { x with bbStage := [] } } s t) ∧
  (s.bbStage ≠ [] → s.inReset = false → 8 ≤ s.getF 0 GLB_BOOT_STATUS.PHASE → Completes (.blackboxWrite false) s fun t =>
    t.isSet 0 FLT_BB_STATUS.ERR = true ∧ Frame { regs := fun a => a = FLT_BB_STATUS.ERR.off } s t) ∧
  (∀ (region : Fin 6) (unit : Fin 1024) (word : BitVec 24), Completes (.sramScrub region unit word none) s fun t => Frame {} s t) ∧
  (∀ (region : Fin 6) (unit : Fin 1024) (word : BitVec 24), s.inReset = false → s.clocked = true → unit < eccUnits region →
    word.toNat < eccWords region → 3 ≤ region.val → (s.inst (instKey 0x09 scMODULE 0)).force = false →
    Completes (.sramScrub region unit word (some false)) s fun t =>
      t.getF (4 * region) GLB_ECC_CNT.CORR = min (s.getF (4 * region) GLB_ECC_CNT.CORR + 1) 65535 ∧
      (t.inst (instKey 0x09 scMODULE 0)).force = true ∧ (t.inst (instKey 0x09 scMODULE 0)).level = 0 ∧
      (t.inst (instKey 0x09 scMODULE 0)).detail = region * 2 ^ 24 + word.toNat ∧
      Frame { regs := fun a => a = GLB_ECC_CNT.CORR.off + 4 * region ∨ a = FLT_CLASS.DCNT.off + 4 * 0x09 ∨ a = FLT_BB_STATUS.LOST.off,
              parts := fun x => { x with insts := [], lastCls := [], bbStage := [] } } s t) ∧
  (∀ off : Int, s.roundsRun = true → s.round = 0 → Completes (.roundStart off) s fun t => t.round = 1 ∧
    (500000 < off.natAbs → (t.inst (instKey 0x0D scMODULE 0)).force = true ∧ (t.inst (instKey 0x0D scMODULE 0)).detail = 0xF0) ∧
    (off.natAbs ≤ 500000 → Frame { parts := fun x => { x with round := 0 } } s t)) ∧
  (∀ counts : List (Fin 262144), s.roundsRun = true → s.round = 1 → Completes (.sensorGateEnd counts) s fun t => t.round = 2 ∧
    (∀ n < 34, t.getF (4 * n) THM_SCNT.COUNT = (counts.getD n 0).val ∧
      (sensorInBand n (counts.getD n 0) = false → t.isSet (4 * n) THM_SENS.BROKEN = true ∧ t.isSet (4 * n) THM_SENS.VALID = false) ∧
      (sensorInBand n (counts.getD n 0) = true → s.isSet (4 * n) THM_SENS.BROKEN = false → t.isSet (4 * n) THM_SENS.BROKEN = false ∧
        t.isSet (4 * n) THM_SENS.VALID = true ∧
        t.getF (4 * n) THM_SENS.TEMP = unsigned 16 (roundQuot (sensorTemp n (counts.getD n 0)).1 (sensorTemp n (counts.getD n 0)).2))) ∧
    Frame { regs := fun a => ∃ n < 34, a = THM_SCNT.COUNT.off + 4 * n ∨ a = THM_SENS.TEMP.off + 4 * n,
            parts := fun x => { x with round := 0, newBroken := 0, good := [] } } s t) ∧
  (∀ uj : List Nat, s.roundsRun = true → s.round = 2 → Completes (.roundPublish uj) s fun t => t.round = 0 ∧ t.newBroken = 0 ∧
    (∀ k < 8, t.pair (THM_TEN_LO.UJ.off + 8 * k) = (s.pair (THM_TEN_LO.UJ.off + 8 * k) + uj.getD k 0) % 2 ^ 64) ∧
    (∀ a, (∀ k < 8, a ≠ THM_TEN_LO.UJ.off + 8 * k) → t.pair a = s.pair a) ∧ (∀ a, t.flashByte a = s.flashByte a))

/-- What the activation of source n of vector v leaves, again: by its end of service (R345, R347). -/
structure Sys2Proof.Machine.Activated (n v : Nat) (again : Bool) (s t : State) : Prop where
  state : t.srcState n = srcPEND
  tb : (t.src n).tb = s.tb % 2 ^ 56
  again : (t.src n).again = again
  count : ∀ u, (t.vec u).cnt = (s.vec u).cnt + if u = v then 1 else 0
  others : ∀ m < 4096, m ≠ n → s.srcState m ≠ srcACTIVE → t.srcState m = s.srcState m
  frame : Frame {} s t

/-- R344 to R347, R349: activation, end of service, vector timers, software sources (the model's reading: log entries 1, 55). -/
def Obligations.EventSourceRows : Prop := ∀ s : State, s.Wf →
  (∀ src : Fin 4096, s.clocked = true → s.srcState src = srcIDLE → s.isSet (4 * src) IRQ_SMAP.EN = true → s.lvl src = true →
    Completes (.sourceActivate src) s (Activated src (s.getF (4 * src) IRQ_SMAP.VECTOR) false s)) ∧
  (∀ v : Fin 512, (s.vec v).cnt ≠ 0 → Completes (.vectorTimer v) s fun t =>
    (t.vec v).ripe = true ∧ (∀ u, (t.vec u).cnt = (s.vec u).cnt ∧ (u ≠ v → (t.vec u).ripe = (s.vec u).ripe)) ∧ Frame {} s t) ∧
  (∀ w : Word, s.writeOk IRQ_EOI.SOURCE.off = true → IRQ_EOI.VEC.get w = 0 → ∀ n, n = IRQ_EOI.SOURCE.get w →
    (s.isSet (4 * n) IRQ_SMAP.EN = true → (s.srcState n = srcAGAIN ∨ s.srcState n = srcACTIVE ∧ s.lvl n = true) →
      Completes (.irqEoi w) s (Activated n (s.getF (4 * n) IRQ_SMAP.VECTOR) true s)) ∧
    (2 ≤ s.srcState n → (s.isSet (4 * n) IRQ_SMAP.EN = false ∨ s.srcState n = srcACTIVE ∧ s.lvl n = false) →
      Completes (.irqEoi w) s fun t => t.srcState n = srcIDLE ∧ (∀ u, (t.vec u).cnt = (s.vec u).cnt) ∧ Frame {} s t) ∧
    (s.srcState n < 2 → Completes (.irqEoi w) s fun t =>
      t.isSet 0 IRQ_STATUS.EOIERR = true ∧ Frame { regs := fun a => a = IRQ_STATUS.EOIERR.off } s t)) ∧
  (∀ w : Word, s.writeOk IRQ_EOI.SOURCE.off = true → IRQ_EOI.VEC.get w = 1 → Completes (.irqEoi w) s fun t =>
    (∀ n < 4096, 2 ≤ s.srcState n → s.getF (4 * n) IRQ_SMAP.VECTOR = IRQ_EOI.VECTOR.get w → t.srcState n < 2) ∧ Frame {} s t) ∧
  (∀ w : Word, s.writeOk IRQ_SW.SW.off = true → Completes (.irqSw w) s fun t =>
    t.rd IRQ_SW.SW.off = s.rd IRQ_SW.SW.off ||| w ∧ Frame { regs := fun a => a = IRQ_SW.SW.off } s t) ∧
  (∀ w : Word, s.writeOk IRQ_SW_CLR.SW.off = true → Completes (.irqSwClr w) s fun t =>
    t.rd IRQ_SW.SW.off = s.rd IRQ_SW.SW.off &&& ~~~w ∧ Frame { regs := fun a => a = IRQ_SW.SW.off } s t) ∧
  (∀ n : Fin 4096, s.clocked = true → (s.src n).slate = true → s.srcState n = srcAGAIN → s.isSet (4 * n) IRQ_SMAP.EN = true →
    Completes (.slateEndOfService n) s (Activated n (s.getF (4 * n) IRQ_SMAP.VECTOR) true s)) ∧
  (∀ n : Fin 4096, s.clocked = true → (s.src n).slate = true → 2 ≤ s.srcState n → s.isSet (4 * n) IRQ_SMAP.EN = false →
    Completes (.slateEndOfService n) s fun t => t.srcState n = srcIDLE ∧ (t.src n).slate = false ∧ Frame {} s t)

/-- R348 to R350: delivery to a host target, to none, and to nobody; a target's DOZE and consumed count (the model's reading: log entries
1, 55). -/
def Obligations.EventDeliveryRows : Prop := ∀ s : State,
  (∀ v g fb, ∀ now : List Nat, s.Wf → s.clocked = true → v = (s.vecLast + 1) % 512 → s.vecDue v = true → s.plan (s.vecTarget v) = .host g fb →
    s.hostUp = true → s.evRoom g ≠ 0 → now = (s.srcsOf v fun st => decide (st = srcPEND)).take (s.evRoom g) →
    Completes .eventDelivery s fun t => t.vecLast = v ∧ (∀ n ∈ now, 2 ≤ t.srcState n) ∧
      t.getF (gA g) IRQ_TGT_RPROD.COUNT = (s.getF (gA g) IRQ_TGT_RPROD.COUNT + now.length) % 2 ^ 32 ∧
      (t.vec v).cnt = (s.srcsOf v fun st => decide (st = srcPEND)).length - now.length ∧
      Frame { regs := fun a => a = gA g + IRQ_TGT_RPROD.COUNT.off,
              host := fun a => s.evBase g ≤ a ∧ a < s.evBase g + 16 * 2 ^ s.evLog2 g + 4 ∨
                s.isSet (gA g) IRQ_TGT_CTRL.MSGEN = true ∧ s.msgAddr g ≤ a ∧ a < s.msgAddr g + 4,
              parts := fun x => { x with vecLast := 0 } } s t) ∧
  (∀ v, s.clocked = true → v = (s.vecLast + 1) % 512 → s.vecDue v = true → s.plan (s.vecTarget v) = .held → s.vecState v ≠ 4 →
    Completes .eventDelivery s fun t => t.vecLast = v ∧ (t.vec v).held = true ∧
      t.getF 0 IRQ_HELD.COUNT = min (s.getF 0 IRQ_HELD.COUNT + 1) (2 ^ 32 - 1) ∧
      Frame { regs := fun a => a = IRQ_HELD.COUNT.off, parts := fun x => { x with vecLast := 0 } } s t) ∧
  ((∀ v < 512, s.vecDue v = false) → Completes .eventDelivery s fun t => t.vecLast = s.vecLast ∧ Frame {} s t) ∧
  (∀ (g : Fin 64) (w : Word), s.writeOk (0x40 * g + IRQ_TGT_STATE.DOZE.off) = true → Completes (.irqDoze g w) s fun t =>
    t.getF (gA g) IRQ_TGT_STATE.DOZE = IRQ_TGT_STATE.DOZE.get w ∧
    t.getF (gA g) IRQ_TGT_STATE.WAKESENT = (if IRQ_TGT_STATE.DOZE.get w = 1 then 0 else s.getF (gA g) IRQ_TGT_STATE.WAKESENT) ∧
    Frame { regs := fun a => a = gA g + IRQ_TGT_STATE.DOZE.off } s t) ∧
  (∀ (g : Fin 64) (w : Word), s.writeOk (0x40 * g + IRQ_TGT_RCONS.COUNT.off) = true →
    (sub32 (s.getF (gA g) IRQ_TGT_RPROD.COUNT) w.toNat ≤ 2 ^ s.evLog2 g → Completes (.irqRconsWrite g w) s fun t =>
      t.rd (gA g + IRQ_TGT_RCONS.COUNT.off) = w ∧ Frame { regs := fun a => a = gA g + IRQ_TGT_RCONS.COUNT.off } s t) ∧
    (2 ^ s.evLog2 g < sub32 (s.getF (gA g) IRQ_TGT_RPROD.COUNT) w.toNat → Completes (.irqRconsWrite g w) s fun t =>
      t.isSet 0 IRQ_STATUS.CFGIGN = true ∧ Frame { regs := fun a => a = IRQ_STATUS.CFGIGN.off } s t))

/-- R238, R239, R241: doorbells, enabling and disabling of rings (the model's reading: log entries 1, 55). -/
def Obligations.RingRegisterRows : Prop := ∀ (n : Fin 64) (w : Word) (s : State),
  (s.writeOk (sqA n + RING_SQ_DB.TAIL.off) = true → sub32 w.toNat (s.getF (sqA n) RING_SQ_HEAD.HEAD) ≤ s.sqSize n →
    sub32 w.toNat (s.getF (sqA n) RING_SQ_DB.TAIL) ≤ s.sqSize n → Completes (.sqDoorbell n w) s fun t => t.rd (sqA n + RING_SQ_DB.TAIL.off) = w ∧
      Frame { regs := fun a => a = sqA n + RING_SQ_DB.TAIL.off, parts := fun x => { x with reads := [], free := 0 } } s t) ∧
  (s.writeOk (sqA n + RING_SQ_DB.TAIL.off) = true →
    (s.sqSize n < sub32 w.toNat (s.getF (sqA n) RING_SQ_HEAD.HEAD) ∨ s.sqSize n < sub32 w.toNat (s.getF (sqA n) RING_SQ_DB.TAIL)) →
    Completes (.sqDoorbell n w) s fun t => t.isSet (sqA n) RING_SQ_STATUS.DBERR = true ∧
      Frame { regs := fun a => a = sqA n + RING_SQ_STATUS.DBERR.off } s t) ∧
  (s.writeOk (cqA n + RING_CQ_DB.HEAD.off) = true → sub32 (s.getF (cqA n) RING_CQ_TAIL.TAIL) w.toNat ≤ s.cqSize n →
    Completes (.cqDoorbell n w) s fun t => t.rd (cqA n + RING_CQ_DB.HEAD.off) = w ∧
      Frame { regs := fun a => a = cqA n + RING_CQ_DB.HEAD.off, parts := fun x => { x with reads := [], free := 0 } } s t) ∧
  (s.writeOk (cqA n + RING_CQ_DB.HEAD.off) = true → s.cqSize n < sub32 (s.getF (cqA n) RING_CQ_TAIL.TAIL) w.toNat →
    Completes (.cqDoorbell n w) s fun t => t.isSet (cqA n) RING_CQ_STATUS.DBERR = true ∧
      Frame { regs := fun a => a = cqA n + RING_CQ_STATUS.DBERR.off } s t) ∧
  (∀ m, s.writeOk (sqA n + RING_SQ_CFG.EN.off) = true → s.isSet (sqA n) RING_SQ_CFG.EN = false → m = RING_SQ_CFG.CQ.get w →
    log2Ok (RING_SQ_CFG.LOG2.get w) = true → s.isSet (cqA m) RING_CQ_CFG.EN = true → s.getF (cqA m) RING_CQ_CFG.FMT = RING_SQ_CFG.FMT.get w →
    Completes (.sqEnable n w) s fun t => t.rd (sqA n + RING_SQ_CFG.EN.off) = (w &&& 0x003F310F) ||| 0x80000000 ∧
      t.getF (sqA n) RING_SQ_DB.TAIL = 0 ∧ t.getF (sqA n) RING_SQ_HEAD.HEAD = 0 ∧
      Frame { regs := fun a => a = sqA n + RING_SQ_CFG.EN.off ∨ a = sqA n + RING_SQ_DB.TAIL.off ∨ a = sqA n + RING_SQ_HEAD.HEAD.off,
              parts := fun x => { x with reads := [], free := 0 } } s t) ∧
  (s.writeOk (sqA n + RING_SQ_CFG.EN.off) = true → s.isSet (sqA n) RING_SQ_CFG.EN = false → log2Ok (RING_SQ_CFG.LOG2.get w) = false →
    Completes (.sqEnable n w) s fun t => t.rd (sqA n + RING_SQ_CFG.EN.off) = w &&& 0x003F310F ∧ t.isSet (sqA n) RING_SQ_STATUS.CFGERR = true ∧
      Frame { regs := fun a => a = sqA n + RING_SQ_CFG.EN.off ∨ a = sqA n + RING_SQ_STATUS.CFGERR.off } s t) ∧
  (s.writeOk (sqA n + RING_SQ_CFG.EN.off) = true → s.isSet (sqA n) RING_SQ_CFG.EN = true →
    w &&& 0x003F310F = s.rd (sqA n + RING_SQ_CFG.EN.off) &&& 0x003F310F → Completes (.sqDisable n w) s fun t =>
      t.isSet (sqA n) RING_SQ_CFG.EN = false ∧ (∀ r ∈ t.reads, r.sq ≠ n) ∧ (∀ f ∈ t.fetched, f.1 ≠ n) ∧
      Frame { regs := fun a => a = sqA n + RING_SQ_CFG.EN.off, parts := fun x => { x with reads := [], fetched := [] } } s t) ∧
  (s.writeOk (cqA n + RING_CQ_CFG.EN.off) = true → s.isSet (cqA n) RING_CQ_CFG.EN = false → log2Ok (RING_CQ_CFG.LOG2.get w) = true →
    Completes (.cqEnable n w) s fun t => t.rd (cqA n + RING_CQ_CFG.EN.off) = (w &&& 0x30F) ||| 0x80000000 ∧
      t.getF (cqA n) RING_CQ_TAIL.TAIL = 0 ∧ t.getF (cqA n) RING_CQ_DB.HEAD = 0 ∧
      Frame { regs := fun a => a = cqA n + RING_CQ_CFG.EN.off ∨ a = cqA n + RING_CQ_TAIL.TAIL.off ∨ a = cqA n + RING_CQ_DB.HEAD.off } s t) ∧
  (s.writeOk (cqA n + RING_CQ_CFG.EN.off) = true → s.isSet (cqA n) RING_CQ_CFG.EN = true →
    (s.cqNamed n = false → s.cqRsvd n = 0 → Completes (.cqDisable n w) s fun t => t.isSet (cqA n) RING_CQ_CFG.EN = false ∧
      Frame { regs := fun a => a = cqA n + RING_CQ_CFG.EN.off ∨ a = cqA n + RING_CQ_STATUS.CFGERR.off } s t) ∧
    (s.cqNamed n = true ∨ s.cqRsvd n ≠ 0 → Completes (.cqDisable n w) s fun t => t.isSet (cqA n) RING_CQ_CFG.EN = true ∧
      t.isSet (cqA n) RING_CQ_STATUS.CFGERR = true ∧
      Frame { regs := fun a => a = cqA n + RING_CQ_CFG.EN.off ∨ a = cqA n + RING_CQ_STATUS.CFGERR.off } s t))

/-- R238 to R241, R250 to R258, R309: a command from its descriptor to its completion entry (the model's reading: log entries 1, 10, 32,
33, 34, 35, 55). -/
def Obligations.RingFlowRows : Prop := ∀ s : State,
  (∀ (n : Fin 64) (f : Nat × List Word), s.fetched.find? (fun f => f.1 == n.val) = some f → s.isSet (sqA n) RING_SQ_CFG.EN = true → s.head? n = none →
    s.cqFree (s.getF (sqA n) RING_SQ_CFG.CQ) = true → s.hostUp = true → s.clocked = true → Completes (.descriptorIntake n) s fun t =>
      (∃ c ∈ t.cmds, Cmd.Same (s.taken n f.2) c) ∧ (∀ c ∈ s.cmds, c.vanish = false → ∃ c' ∈ t.cmds, Cmd.Same c c') ∧ t.intakes = s.intakes + 1 ∧
      (∀ g ∈ t.fetched, g.1 ≠ n) ∧ t.getF (sqA n) RING_SQ_HEAD.HEAD = (s.getF (sqA n) RING_SQ_HEAD.HEAD + 1) % 2 ^ 32 ∧
      memRead hostReset t.host (s.sqBase n + s.sqSize n * s.sqEntry n) 4 = leBytes 4 (t.getF (sqA n) RING_SQ_HEAD.HEAD) ∧
      Frame { regs := fun a => a = sqA n + RING_SQ_HEAD.HEAD.off,
              host := fun a => s.sqBase n + s.sqSize n * s.sqEntry n ≤ a ∧ a < s.sqBase n + s.sqSize n * s.sqEntry n + 4,
              parts := fun x => { x with reads := [], fetched := [], free := 0, intakes := 0 } } s t) ∧
  (∀ n : Fin 64, (s.reads.any fun r => r.sq == n.val) = true → Completes (.descriptorReadError n) s fun t =>
    t.isSet (sqA n) RING_SQ_CFG.EN = false ∧ t.isSet (sqA n) RING_SQ_STATUS.FETCHERR = true ∧ (∀ r ∈ t.reads, r.sq ≠ n) ∧
    t.getF 0 LNK_RDERR.FAIL = min (s.getF 0 LNK_RDERR.FAIL + 1) 65535 ∧
    Frame { regs := fun a => a = sqA n + RING_SQ_CFG.EN.off ∨ a = sqA n + RING_SQ_STATUS.FETCHERR.off ∨ a = LNK_RDERR.FAIL.off,
            parts := fun x => { x with reads := [], fetched := [] } } s t) ∧
  (∀ (tag : Fin 1024) (r : Read), s.reads.find? (fun r => r.tag == tag.val) = some r → s.hostUp = true → r.sq < 64 →
    Completes (.readCompletionTimeout tag) s fun t =>
      t.isSet (sqA r.sq) RING_SQ_CFG.EN = false ∧ t.isSet (sqA r.sq) RING_SQ_STATUS.FETCHERR = true ∧
      t.getF 0 LNK_RDERR.TMO = min (s.getF 0 LNK_RDERR.TMO + 1) 65535 ∧
      Frame { regs := fun a => a = sqA r.sq + RING_SQ_CFG.EN.off ∨ a = sqA r.sq + RING_SQ_STATUS.FETCHERR.off ∨ a = LNK_RDERR.FAIL.off,
              parts := fun x => { x with reads := [], fetched := [] } } s t) ∧
  (∀ c ∈ s.cmds, s.clocked = true → c.admitted = false → c.ending = none → c.sq < 64 → c.cls < 4 → s.tests = [] → s.noRot (s.named c) →
    (∀ k ∈ s.cmds, k.admitted = false → k.ending = none → k = c) →
    (s.verdict c = .go → Completes .commandAdmit s fun t => (∃ k ∈ t.cmds, k.isRef ⟨c.sq, c.tag⟩ = true ∧ k.admitted = true) ∧
      Frame { parts := fun x => { x with reads := [], free := 0, arbLast := [], arbLeft := [], tests := [] } } s t) ∧
    (∀ e, s.verdict c = .refuse e → Completes .commandAdmit s fun t => Answered ⟨c.sq, c.tag⟩ e
      { regs := fun a => c.op = opCONTACT ∧ ∃ k ∈ s.named c, a = feB (s.phys k) + CHN_CONTACT_RES.OUTCOME.off,
        parts := fun x => { x with reads := [], free := 0 } } s t ∧
      (c.op = opCONTACT → e.status = scSTATE → e.detail = 0x02 → ∀ k ∈ s.named c, t.getF (feB (s.phys k)) CHN_CONTACT_RES.OUTCOME = 7)) ∧
    (∀ what d, s.verdict c = .hold what d → c.cls ≠ 0 → s.holdLimit c = 0 → Completes .commandAdmit s fun t =>
      Answered ⟨c.sq, c.tag⟩ { status := holdStatus what, detail := d } { parts := fun x => { x with reads := [], free := 0 } } s t)) ∧
  (∀ (n : Fin 64) (c : Cmd), s.head? n = some c → c.held ≠ 0 → c.cls ≠ 0 → Completes (.holdLimitExpire n) s fun t =>
    Answered ⟨c.sq, c.tag⟩ { status := holdStatus c.held, detail := c.heldDetail } { parts := fun x => { x with reads := [], free := 0 } } s t) ∧
  (∀ (cmd : CmdRef) (k : Cmd) (e : Ending), s.cmd? cmd = some k → k.stopAsked = some e → k.started = true → k.vanish = false → k.op ∈ slicedOps → k.op ≠ opANCHOR →
    Completes (.sliceEnd cmd) s fun t => Answered cmd { e with result := k.acc }
      { parts := fun x => { x with tests := [], archNow := [], archNext := none, commitCmds := [] } } s t) ∧
  (∀ (cmd : CmdRef) (c : Cmd) (e : Ending) (energy : Word) (m k en : Nat) (bs : List Byte),
    s.cmds.find? (fun c => c.isRef cmd && c.ending.isSome) = some c → c.ending = some e → s.hostUp = true → s.clocked = true →
    (c.op ≠ opABORT ∨ ∀ x ∈ s.cmds, x.intake ∉ c.after) → (c.admitted = true ∨ c.v2 = false) → m = c.cq → m < 64 →
    k = s.getF (cqA m) RING_CQ_TAIL.TAIL → en = (if c.admitted = false ∨ refused e.status = true ∨ c.chans = [] then 0 else energy.toNat) →
    bs = s.entry c e k m c.startTb en → Completes (.completionWrite cmd energy) s fun t =>
      t.getF (cqA m) RING_CQ_TAIL.TAIL = (k + 1) % 2 ^ 32 ∧
      memRead hostReset t.host (s.cqBase m + k % s.cqSize m * s.cqEntry m) (s.cqEntry m) = bs ∧
      memRead hostReset t.host (s.cqBase m + s.cqSize m * s.cqEntry m) 4 = leBytes 4 (k + 1) ∧
      ((∀ x ∈ s.cmds, x.vanish = false) → t.cmds.length + 1 = s.cmds.length) ∧ (∀ x ∈ s.cmds, x ≠ c → x.vanish = false → ∃ x' ∈ t.cmds, Cmd.Same x x') ∧
      Frame { regs := fun a => a = cqA m + RING_CQ_TAIL.TAIL.off,
              host := fun a => s.cqBase m + k % s.cqSize m * s.cqEntry m ≤ a ∧ a < s.cqBase m + k % s.cqSize m * s.cqEntry m + s.cqEntry m ∨
                s.cqBase m + s.cqSize m * s.cqEntry m ≤ a ∧ a < s.cqBase m + s.cqSize m * s.cqEntry m + 4,
              parts := fun x => { x with reads := [], free := 0 } } s t)

/-- R248, R249, R252, R260, R363: commands that end at once (the model's reading: log entries 1, 10, 34, 55). -/
def Obligations.PlainAnswerRows : Prop := ∀ (cmd : CmdRef) (c : Cmd) (s : State),
  (s.ready? cmd opNOP = some c → Completes (.nop cmd) s (Answered cmd { status := scOK } {} s)) ∧
  (s.ready? cmd opFENCE = some c → Completes (.fence cmd) s (Answered cmd { status := scOK, result := c.after.length } {} s)) ∧
  (s.ready? cmd opFAULTACK = some c → s.Wf → Completes (.faultAck cmd) s fun t =>
    Answered cmd { status := scOK, result := (s.insts.filter fun e => e.2.force && e.2.unack &&
      ackSelects (c.pf 0 7 0) (c.pf 0 11 8) (c.pf 0 26 16) e.1).length } { parts := fun x => { x with insts := [] } } s t ∧
    ∀ k, t.inst k = if (s.inst k).force = true ∧ (s.inst k).unack = true ∧ ackSelects (c.pf 0 7 0) (c.pf 0 11 8) (c.pf 0 26 16) k = true
      then { s.inst k with unack := false, grace := false } else s.inst k) ∧
  (s.ready? cmd opDIAG = some c → c.pf 0 15 0 = 1 → Completes (.diagEcho cmd) s fun t =>
    Answered cmd { status := scOK, partialDone := decide (c.raddr ≠ 0 ∧ c.rlen < 48), result := if c.raddr = 0 then 0 else min 48 c.rlen }
      { host := fun a => c.raddr ≠ 0 ∧ c.raddr ≤ a ∧ a < c.raddr + min 48 c.rlen } s t ∧
    (c.raddr ≠ 0 → memRead hostReset t.host c.raddr (min 48 c.rlen) = c.block.take c.rlen)) ∧
  (s.ready? cmd opDIAG = some c → c.pf 0 15 0 = 2 → c.p 4 % 4 = 0 → c.p 8 % 4 = 0 → c.p 4 + c.p 8 ≤ 0x1000000 → Completes (.diagRegs cmd []) s fun t =>
    Answered cmd { status := scOK, partialDone := decide (c.raddr ≠ 0 ∧ c.rlen < c.p 8), result := if c.raddr = 0 then 0 else min (c.p 8) c.rlen }
      { host := fun a => c.raddr ≠ 0 ∧ c.raddr ≤ a ∧ a < c.raddr + min (c.p 8) c.rlen } s t ∧
    ∀ i, 4 * i + 4 ≤ min (c.p 8) c.rlen → c.raddr ≠ 0 → s.readOk (c.p 4 + 4 * i) = true → isHi (c.p 4 + 4 * i) = false →
      memRead hostReset t.host (c.raddr + 4 * i) 4 = leBytes 4 (s.viewWord (c.p 4 + 4 * i)).toNat) ∧
  (∀ l, s.ready? cmd opDIAG = some c → c.pf 0 15 0 = 3 → l = (s.bbRecords.drop (c.p 4)).take (c.p 8 / 32) → Completes (.diagBlackbox cmd) s fun t =>
    Answered cmd { status := scOK, result := if c.raddr = 0 then 0 else min (32 * l.length) c.rlen,
                   partialDone := decide (c.raddr ≠ 0 ∧ c.rlen < 32 * l.length ∨ l.length < c.p 8 / 32) }
      { host := fun a => c.raddr ≠ 0 ∧ c.raddr ≤ a ∧ a < c.raddr + min (32 * l.length) c.rlen } s t ∧
    (c.raddr ≠ 0 → memRead hostReset t.host c.raddr (min (32 * l.length) c.rlen) = l.flatten.take c.rlen)) ∧
  (s.ready? cmd opABORT = some c → bitB (c.p 0) 8 = false →
    (∀ k ∈ s.cmds, k.sq = c.pf 0 5 0 → k.ending = none → k.intake ≠ c.intake → k.tag ≠ c.pf 0 27 16) →
    Completes (.abort cmd) s (Answered cmd { status := scOK, result := 0 } { parts := fun x => { x with reads := [], free := 0 } } s)) ∧
  (∀ k ∈ s.cmds, s.ready? cmd opABORT = some c → bitB (c.p 0) 8 = false → k.sq = c.pf 0 5 0 → k.tag = c.pf 0 27 16 → k.ending = none →
    k.intake ≠ c.intake → k.admitted = false → (∀ x ∈ s.cmds, x = k ∨ x.intake ≠ k.intake ∧ x.isRef ⟨k.sq, k.tag⟩ = false) →
    s.cmds.Nodup → Completes (.abort cmd) s fun t =>
      (∃ x ∈ t.cmds, x.isRef cmd = true ∧ x.ending = some { status := scOK, result := 1 }) ∧
      (∃ x ∈ t.cmds, x.isRef ⟨k.sq, k.tag⟩ = true ∧ x.ending = some abortEnd) ∧ Frame { parts := fun x => { x with reads := [], free := 0 } } s t)

/-- R30, R35, R40 to R42, R51: CH_CONFIG, CH_FORCE, CH_SWEEP, CH_SINE on channels without a rotation (the model's reading: log entries 1,
55). -/
def Obligations.SettingRows : Prop := ∀ (cmd : CmdRef) (c : Cmd) (s : State), s.noRot c.chans →
  (s.ready? cmd opCONFIG = some c → (∀ w, c.wordIf 4 = some w → (cfTRIP 0).get w = 0 ∧ (cfTRIP 1).get w = 0) → Completes (.chConfig cmd) s fun t =>
    Begun cmd { regs := fun a => ∃ k ∈ c.chans, inFe k a ∨ inFe (s.phys k) a, fes := fun u => ∃ k ∈ c.chans, u = s.phys k,
                adcs := s.adcsOf c.chans, engs := fun u => ∃ k ∈ c.chans, u = s.phys k,
                parts := fun x => { x with cmps := [], insts := [] } } s t ∧
    (∀ k ∈ c.chans, ∀ w, c.wordIf 0 = some w → (s.fe (s.phys k)).contact = none →
      t.rd (feB (s.phys k) + CHN_FE_CFG.MODE.off) = w &&& 0x00CF3007) ∧
    (∀ k ∈ c.chans, ∀ w, c.wordIf 1 = some w → t.rd (feB (s.phys k) + CHN_ICLAMP.CODE.off) = w &&& 0xFFF) ∧
    (∀ k ∈ c.chans, ∀ w, c.wordIf 2 = some w → t.rd (feB (s.phys k) + CHN_VCLAMP.LO.off) = w &&& 0x0FFF0FFF) ∧
    (∀ k ∈ c.chans, ∀ w, c.wordIf 3 = some w → t.rd (feB (s.phys k) + CHN_KMON.THRESH.off) = w &&& 0xFFF) ∧
    (∀ k ∈ c.chans, ∀ w, c.wordIf 4 = some w → t.rd (feB k + CHN_CMP_CFG.EN_LO.off) = w &&& 0x1FFF1FFF) ∧
    (∀ k ∈ c.chans, ∀ w, c.wordIf 5 = some w → t.rd (feB k + CHN_CMP_THR.LO.off) = w &&& 0x3FFF3FFF) ∧
    (∀ k w, c.chans = [k] → c.wordIf 0 = some w → c.wordIf 4 = none → (s.fe (s.phys k)).contact = none → s.feOn (s.phys k) = true →
      forces (effMode (CHN_FE_CFG.MODE.get w) (CHN_FE_CFG.VSPAN.get w) (CHN_FE_CFG.IRANGE.get w)) = false →
      t.seqStep (s.phys k) = 1 ∧ (t.fe (s.phys k)).kind = .disable) ∧
    (∀ k w, c.chans = [k] → c.wordIf 0 = some w → c.wordIf 4 = none → (s.fe (s.phys k)).contact = none → s.feOn (s.phys k) = false → bitB (c.p 0x2C) 8 = true →
      forces (effMode (CHN_FE_CFG.MODE.get w) (CHN_FE_CFG.VSPAN.get w) (CHN_FE_CFG.IRANGE.get w)) = true →
      t.feOn (s.phys k) = true ∧ t.seqStep (s.phys k) = 2 ∧ (t.fe (s.phys k)).kind = .enable ∧ (t.fe (s.phys k)).range = 0 ∧
      (t.fe (s.phys k)).code = zeroCode (CHN_FE_CFG.MODE.get w) (CHN_FE_CFG.VSPAN.get w))) ∧
  (s.ready? cmd opFORCE = some c → Completes (.chForce cmd) s fun t =>
    Begun cmd { regs := fun a => ∃ k ∈ c.chans, inFe (s.phys k) a, fes := fun u => ∃ k ∈ c.chans, u = s.phys k, adcs := s.adcsOf c.chans } s t ∧
    (∀ k ∈ c.chans, (s.fe (s.phys k)).contact = none → s.isSet (feB (s.phys k)) CHN_SINE_CTRL.RUN = false →
      t.getF (feB (s.phys k)) CHN_FE_TARGET.CODE = c.pf 0x14 19 0) ∧
    (∀ k, c.chans = [k] → (s.fe (s.phys k)).contact = none → s.isSet (feB (s.phys k)) CHN_SINE_CTRL.RUN = false → s.feOn (s.phys k) = true →
      c.pf 0x18 1 0 ≠ 2 → (t.fe (s.phys k)).code = c.pf 0x14 19 0) ∧
    (∀ k, c.chans = [k] → (s.fe (s.phys k)).contact = none → s.feOn (s.phys k) = false → c.pf 0x18 1 0 = 1 → forces (s.regMode (s.phys k)) = true →
      t.feOn (s.phys k) = true ∧ (t.fe (s.phys k)).kind = .enable) ∧
    (∀ k, c.chans = [k] → (s.fe (s.phys k)).contact = none → s.feOn (s.phys k) = true → c.pf 0x18 1 0 = 2 →
      t.seqStep (s.phys k) = 1 ∧ (t.fe (s.phys k)).kind = .disable)) ∧
  (s.ready? cmd opSWEEP = some c → Completes (.chSweep cmd) s fun t =>
    Begun cmd { regs := fun a => ∃ k ∈ c.chans, inFe (s.phys k) a, fes := fun u => ∃ k ∈ c.chans, u = s.phys k } s t ∧
    ∀ k ∈ c.chans, (s.fe (s.phys k)).contact = none → t.getF (feB (s.phys k)) CHN_FE_TARGET.CODE = c.sweepPoint c.acc ∧
      (s.isSet (feB (s.phys k)) CHN_SINE_CTRL.RUN = false → (t.fe (s.phys k)).code = c.sweepPoint c.acc)) ∧
  (s.ready? cmd opSINE = some c → c.wordIf 0 = none → Completes (.chSine cmd) s fun t =>
    Answered cmd { status := scOK } { regs := fun a => ∃ k ∈ c.chans, inFe (s.phys k) a } s t ∧
    ∀ k ∈ c.chans, ∀ w, (c.wordIf 1 = some w → t.rd (feB (s.phys k) + CHN_SINE_FTW.FTW.off) = w) ∧
      (c.wordIf 2 = some w → t.rd (feB (s.phys k) + CHN_SINE_PHASE0.PHASE0.off) = w) ∧
      (c.wordIf 3 = some w → t.getF (feB (s.phys k)) CHN_SINE_AMP.AMP = CHN_SINE_AMP.AMP.get w) ∧
      (c.wordIf 4 = some w → t.getF (feB (s.phys k)) CHN_SINE_OFS.OFS = CHN_SINE_OFS.OFS.get w) ∧
      (c.wordIf 5 = some w → t.rd (feB (s.phys k) + CHN_SINE_PADJ.PADJ.off) = w)) ∧
  (∀ k w u, s.ready? cmd opSINE = some c → c.chans = [k] → u = s.phys k → c.wordIf 0 = some w → (∀ i, 1 ≤ i → i ≤ 5 → c.wordIf i = none) →
    CHN_SINE_CTRL.EN.get w = 1 → CHN_SINE_CTRL.START_MODE.get w = 0 → s.isSet (feB u) CHN_SINE_CTRL.EN = false → (s.fe u).contact = none →
    s.feOn u = true → forces (s.fe u).mode = true →
    (s.sineFits u = true → Completes (.chSine cmd) s fun t => Answered cmd { status := scOK } { regs := fun a => inFe u a, fes := fun x => x = u } s t ∧
      t.isSet (feB u) CHN_SINE_CTRL.EN = true ∧ (t.fe u).waitUpdate = true ∧ (t.fe u).acc = s.getF (feB u) CHN_SINE_PHASE0.PHASE0 ∧
      (t.fe u).ftw = s.getF (feB u) CHN_SINE_FTW.FTW ∧ (t.fe u).amp = s.getF (feB u) CHN_SINE_AMP.AMP ∧
      (t.fe u).ofs = s.getF (feB u) CHN_SINE_OFS.OFS) ∧
    (s.sineFits u = false → Completes (.chSine cmd) s fun t =>
      Answered cmd { status := scINVALID, detail := 0xFF } { regs := fun a => inFe u a } s t ∧ t.isSet (feB u) CHN_SINE_CTRL.ERR = true ∧
      t.isSet (feB u) CHN_SINE_CTRL.EN = false))

/-- R45, R47, R48: CH_CONTACT and its steps, CH_RELEASE (the model's reading: log entries 1, 55). -/
def Obligations.ContactAndReleaseRows : Prop := ∀ (cmd : CmdRef) (c : Cmd) (s : State), s.Wf → s.noRot c.chans →
  (s.ready? cmd opCONTACT = some c → Completes (.chContact cmd) s fun t =>
    Begun cmd { regs := fun a => ∃ k ∈ c.chans, inFe (s.phys k) a, fes := fun u => ∃ k ∈ c.chans, u = s.phys k, adcs := s.adcsOf c.chans } s t ∧
    ∀ k ∈ c.chans, (∃ x, (t.fe (s.phys k)).contact = some x ∧ x.cmd = cmd) ∧ t.getF (feB (s.phys k)) CHN_FE_CFG.MODE = 2 ∧
      t.getF (feB (s.phys k)) CHN_FE_CFG.VSPAN = 0 ∧ t.getF (feB (s.phys k)) CHN_FE_CFG.IRANGE = 2 ∧
      (k % 2 = 0 → t.feOn (s.phys k) = true ∧ (t.fe (s.phys k)).kind = .enable)) ∧
  (∀ volts, s.running? cmd opCONTACT = some c → c.stopAsked = none → c.prog < 10 → Completes (.contactPhaseStep cmd volts) s fun t =>
    Begun cmd { regs := fun a => ∃ k ∈ c.chans, inFe (s.phys k) a ∨ inFe k a, fes := fun u => ∃ k ∈ c.chans, u = s.phys k,
                adcs := fun u => s.adcsOf c.chans u ∨ u ∈ c.chans } s t ∧
    (c.prog = 4 → ∀ k ∈ c.chans, k % 2 = 0 → s.feOn (s.phys k) = true → (∃ x, (s.fe (s.phys k)).contact = some x ∧ x.cmd = cmd) →
      t.seqStep (s.phys k) = 1 ∧ (t.fe (s.phys k)).kind = .disable) ∧
    (c.prog = 5 → ∀ k ∈ c.chans, k % 2 = 1 → (∃ x, (s.fe (s.phys k)).contact = some x ∧ x.cmd = cmd) → t.feOn (s.phys k) = true)) ∧
  (∀ volts, s.running? cmd opCONTACT = some c → c.stopAsked = none → 10 ≤ c.prog → Completes (.contactPhaseStep cmd volts) s fun t =>
    ∃ bad ≤ c.chans.length, ∃ x ∈ t.cmds, x.isRef cmd = true ∧ x.ending = some { status := scOK, result := c.chans.length + bad * 2 ^ 16 }) ∧
  (∀ volts e, s.running? cmd opCONTACT = some c → c.stopAsked = some e → c.vanish = false → Completes (.contactPhaseStep cmd volts) s fun t =>
    ∃ x ∈ t.cmds, x.isRef cmd = true ∧ x.ending = some e) ∧
  (s.ready? cmd opRELEASE = some c → (∃ k ∈ c.chans, s.seqStep (s.phys k) ≠ 0) → Completes (.chRelease cmd) s fun t => Frame {} s t) ∧
  (s.ready? cmd opRELEASE = some c → c.chans ≠ [] → (∀ k ∈ c.chans, s.seqStep (s.phys k) = 0 ∧ s.feOn (s.phys k) = true) →
    Completes (.chRelease cmd) s fun t =>
      Begun cmd { regs := fun a => ∃ k ∈ c.chans, inFe (s.phys k) a, fes := fun u => ∃ k ∈ c.chans, u = s.phys k, adcs := s.adcsOf c.chans } s t ∧
      ∀ k ∈ c.chans, (s.fe (s.phys k)).contact = none → t.seqStep (s.phys k) = 1 ∧ (t.fe (s.phys k)).kind = .disable) ∧
  (∀ k, s.ready? cmd opRELEASE = some c → c.chans = [k] → k < 1024 → s.phys k = k → s.seqStep k = 0 → s.feOn k = false →
    s.isSet (chB k) CHN_SEQ_GRP.BOUND = false → (∀ e ∈ s.insts, e.2.force = true → e.1 / 2048 % 8 = scCHANNEL → keyUnit e.1 ≠ k) →
    Completes (.chRelease cmd) s fun t =>
      Answered cmd { status := scOK } { regs := fun a => inFe k a, fes := fun u => u = k, adcs := fun u => u = k,
                                          engs := fun u => u = k, parts := fun x => { x with cmps := [], tdcs := [], insts := [] } } s t ∧
      (∀ o < 0x58, t.rd (feB k + o) = resetWord (feB k + o)) ∧ t.fe k = {} ∧ (t.adc k).running = false ∧ (t.adc k).inj = [] ∧
      (t.tdc k).fifo = [] ∧ (t.eng k).stat = .z ∧ t.isSet (feB k) CHN_TDC_CFG.EN = false)

/-- R40 to R43, R35: the steps of a front-end's sequence; the end of a sweep point's dwell (the model's reading: log entries 1, 55). -/
def Obligations.SequenceStepRows : Prop := ∀ s : State,
  (∀ (u : Fin 1056) (far : Bool), (s.fe u).contact = none → (s.fe u).kind ≠ .idle → s.seqStep u ≠ 0 →
    (∀ c ∈ s.cmds, c.ending = none → c.started = true → c.op = opRELEASE → u.val ∉ c.busy) → Completes (.safeValueStep u far) s fun t =>
      Frame { regs := fun a => inFe u a, fes := fun x => x = u, adcs := fun x => x = s.adcOf u, parts := fun x => { x with insts := [] } } s t ∧
      ((s.fe u).kind = .disable → t.feOn u = false ∧ t.seqStep u = 0 ∧ (t.fe u).kind = .idle ∧ t.isSet (feB u) CHN_FE_STATUS.DRIVING = false) ∧
      ((s.fe u).kind ≠ .disable → s.seqStep u = 1 → t.seqStep u = 2 ∧ (t.fe u).range = 0 ∧
        (t.fe u).code = zeroCode (s.fe u).mode (s.fe u).span ∧ (far = true → t.isSet (feB u) CHN_FE_STATUS.SLOW = true)) ∧
      ((s.fe u).kind ≠ .disable → s.seqStep u = 2 → t.seqStep u = 3 ∧ (t.fe u).mode = s.regMode u ∧
        (t.fe u).range = s.getF (feB u) CHN_FE_CFG.IRANGE) ∧
      ((s.fe u).kind ≠ .disable → s.seqStep u = 3 → t.seqStep u = 4 ∧ t.fe u = s.fe u) ∧
      ((s.fe u).kind ≠ .disable → 3 < s.seqStep u → t.seqStep u = 0 ∧ (t.fe u).kind = .idle ∧
        (t.fe u).code = s.getF (feB u) CHN_FE_TARGET.CODE)) ∧
  (∀ (cmd : CmdRef) (c : Cmd), s.running? cmd opSWEEP = some c → c.prog = 0 →
    (∀ e, c.stopAsked = some e → c.vanish = false → Completes (.sweepDwellEnd cmd) s (Answered cmd { e with result := c.acc } {} s)) ∧
    (c.stopAsked = none → bitB (c.p 0x24) 0 = false → c.pf 0x1C 15 0 < c.acc →
      Completes (.sweepDwellEnd cmd) s (Answered cmd { status := scOK, result := c.acc } {} s)) ∧
    (c.stopAsked = none → bitB (c.p 0x24) 0 = false → c.acc ≤ c.pf 0x1C 15 0 → s.noRot c.chans → Completes (.sweepDwellEnd cmd) s fun t =>
      Begun cmd { regs := fun a => ∃ k ∈ c.chans, inFe (s.phys k) a, fes := fun u => ∃ k ∈ c.chans, u = s.phys k } s t ∧
      ∀ k ∈ c.chans, (s.fe (s.phys k)).contact = none → t.getF (feB (s.phys k)) CHN_FE_TARGET.CODE = c.sweepPoint c.acc) ∧
    (∀ k, c.stopAsked = none → bitB (c.p 0x24) 0 = true → c.chans = [k] → k < 1024 → s.adcRoom k = true → (s.adc k).conv ≠ none →
      Completes (.sweepDwellEnd cmd) s fun t => Begun cmd { regs := fun a => inFe k a, adcs := fun u => u = k } s t ∧
        (t.adc k).inj = (s.adc k).inj ++ [{ injOf (BitVec.ofNat 32 (c.p 0x28)) with owner := some cmd, point := c.acc }]))

/-- R36 to R39, R46: clamps, the short-circuit limit, the Kelvin monitor (the model's reading: log entries 1, 55). -/
def Obligations.ProtectionRows : Prop := ∀ (u : Fin 1056) (s : State) (k : Nat) (cls : Nat),
  (s.feOn u = true → (s.fe u).contact = none → Completes (.clampAction u true) s fun t =>
    t.isSet (feB u) CHN_FE_STATUS.CLAMP = true ∧ t.isSet (feB u) CHN_FE_STATUS.CLAMPED = true ∧
    Frame { regs := fun a => a = feB u + CHN_FE_STATUS.CLAMP.off, adcs := fun x => x = s.adcOf u } s t) ∧
  (s.feOn u = true → (s.fe u).contact = none → Completes (.clampAction u false) s fun t =>
    t.isSet (feB u) CHN_FE_STATUS.CLAMP = false ∧ t.getF (feB u) CHN_FE_STATUS.CLAMPED = s.getF (feB u) CHN_FE_STATUS.CLAMPED ∧
    Frame { regs := fun a => a = feB u + CHN_FE_STATUS.CLAMP.off } s t) ∧
  (∀ (mv : Int) (dur : Nat), k = instKey cls (s.faultUnit u).1 (s.faultUnit u).2 →
    (cls = 0x01 → s.feOn u = true → Completes (.shortCircuitLimit u) s fun t =>
      (t.inst k).force = true ∧ (t.inst k).detail = s.getF (feB u) CHN_FE_CFG.IRANGE) ∧
    (cls = 0x03 → s.kelvinActive u = true → s.kelvinActs u mv dur = true → Completes (.kelvinMonitorTrip u (mv, dur)) s fun t =>
      (t.inst k).force = true ∧ (t.inst k).detail = unsigned 16 mv)) ∧
  (∀ (mv : Int) (dur : Nat), u.val < 1024 → s.phys u = u → s.noRot [u.val] → s.patRunning u = false → k = instKey cls scCHANNEL u → (s.inst k).force = false →
    s.getF (4 * cls) FLT_CLASS.LEVEL = 1 → (s.fe u).contact = none → ∀ i : Instr, ∀ w : Touch,
    (cls = 0x01 ∧ s.feOn u = true ∧ i = .shortCircuitLimit u ∨ cls = 0x03 ∧ s.kelvinActive u = true ∧ s.kelvinActs u mv dur = true ∧ i = .kelvinMonitorTrip u (mv, dur)) →
    w = { regs := fun a => inFe u a ∨ a = FLT_CLASS.DCNT.off + 4 * cls ∨ a = FLT_BB_STATUS.LOST.off, fes := fun x => x = u, adcs := fun x => x = u,
          engs := fun x => x = u, parts := fun x => { x with insts := [], lastCls := [], bbStage := [] } } →
    Completes i s fun t => t.feOn u = false ∧ t.isSet (feB u) CHN_FE_STATUS.TRIPPED = true ∧ (t.inst k).force = true ∧ (t.inst k).level = 1 ∧
      (t.inst k).unack = true ∧ (t.inst k).cond = false ∧
      t.getF (4 * cls) FLT_CLASS.DCNT = min (s.getF (4 * cls) FLT_CLASS.DCNT + 1) 65535 ∧
      (cls = 0x01 → t.isSet (feB u) CHN_FE_STATUS.SCL = true) ∧ (cls = 0x03 → t.isSet (feB u) CHN_FE_STATUS.KMON_TRIP = true) ∧ Frame w s t) ∧
  (∀ mv dur, s.kelvinActive u = false ∨ s.kelvinActs u mv dur = false → Completes (.kelvinMonitorTrip u (mv, dur)) s (Frame {} s)) ∧
  ((s.fe u).contact = none → Completes (.shortCircuitRelease u) s fun t =>
    t.isSet (feB u) CHN_FE_STATUS.SCL_LIVE = false ∧
    (∀ n, n ≠ instKey 0x01 (s.faultUnit u).1 (s.faultUnit u).2 → t.inst n = s.inst n) ∧
    ((s.inst (instKey 0x01 (s.faultUnit u).1 (s.faultUnit u).2)).force = true → (t.inst (instKey 0x01 (s.faultUnit u).1 (s.faultUnit u).2)).cond = false) ∧
    Frame { regs := fun a => a = feB u + CHN_FE_STATUS.SCL_LIVE.off, parts := fun x => { x with insts := [] } } s t) ∧
  ((s.fe u).contact = none → (s.fe u).mismatch = true → Completes (.kelvinMismatchEnd u) s fun t =>
    (t.fe u).mismatch = false ∧ (∀ n, n ≠ instKey 0x03 (s.faultUnit u).1 (s.faultUnit u).2 → t.inst n = s.inst n) ∧
    ((s.inst (instKey 0x03 (s.faultUnit u).1 (s.faultUnit u).2)).force = true → (t.inst (instKey 0x03 (s.faultUnit u).1 (s.faultUnit u).2)).cond = false) ∧
    Frame { fes := fun x => x = u, parts := fun x => { x with insts := [] } } s t)

/-- R50 to R53, R186: the sine generator (the model's reading: log entries 1, 55). -/
def Obligations.SineRows : Prop := ∀ (u : Fin 1056) (s : State), (s.fe u).contact = none →
  (∀ w : Word, s.writeOk (feB u + CHN_SINE_CTRL.EN.off) = true → s.sineOpen u = true → s.isSet (feB u) CHN_SINE_CTRL.EN = false →
    s.isSet (feB u) CHN_SINE_CTRL.START_MODE = false → s.feOn u = true → forces (s.fe u).mode = true → s.sineFits u = true → s.sineChargeOk u = true →
    Completes (.sineEnSet u w) s fun t => t.isSet (feB u) CHN_SINE_CTRL.EN = true ∧ (t.fe u).waitUpdate = true ∧
      (t.fe u).acc = s.getF (feB u) CHN_SINE_PHASE0.PHASE0 ∧ (t.fe u).ftw = s.getF (feB u) CHN_SINE_FTW.FTW ∧
      Frame { regs := fun a => a = feB u + CHN_SINE_CTRL.EN.off, fes := fun x => x = u } s t) ∧
  (∀ w : Word, s.writeOk (feB u + CHN_SINE_CTRL.EN.off) = true → s.sineOpen u = true → s.isSet (feB u) CHN_SINE_CTRL.EN = false →
    (s.feOn u = false ∨ s.sineFits u = false) → Completes (.sineEnSet u w) s fun t =>
      t.isSet (feB u) CHN_SINE_CTRL.EN = false ∧ t.isSet (feB u) CHN_SINE_CTRL.ERR = true ∧
      Frame { regs := fun a => a = feB u + CHN_SINE_CTRL.EN.off } s t) ∧
  (∀ w : Word, s.writeOk (feB u + CHN_SINE_CTRL.EN.off) = true → s.sineOpen u = true → s.isSet (feB u) CHN_SINE_CTRL.EN = true →
    CHN_SINE_CTRL.EN.get w = 1 → s.sineFits u = true → s.sineChargeOk u = true → Completes (.sineApply u w) s fun t =>
      (t.fe u).applyPend = true ∧ Frame { regs := fun a => a = feB u + CHN_SINE_CTRL.EN.off, fes := fun x => x = u } s t) ∧
  (∀ w : Word, s.writeOk (feB u + CHN_SINE_CTRL.EN.off) = true → s.sineOpen u = true → s.isSet (feB u) CHN_SINE_CTRL.EN = true →
    Completes (.sineEnClear u w) s fun t => t.isSet (feB u) CHN_SINE_CTRL.EN = false ∧
      (s.isSet (feB u) CHN_SINE_CTRL.RUN = true → CHN_SINE_CTRL.STOP_ZC.get w = 1 → (t.fe u).zcStop = true ∧ t.isSet (feB u) CHN_SINE_CTRL.RUN = true) ∧
      (s.isSet (feB u) CHN_SINE_CTRL.RUN = true → CHN_SINE_CTRL.STOP_ZC.get w = 0 → t.isSet (feB u) CHN_SINE_CTRL.RUN = false ∧
        t.getF (feB u) CHN_FE_TARGET.CODE = (s.fe u).code % 2 ^ 20) ∧
      Frame { regs := fun a => a = feB u + CHN_SINE_CTRL.EN.off ∨ a = feB u + CHN_FE_TARGET.CODE.off, fes := fun x => x = u } s t) ∧
  (∀ (w : Word) (i : Instr), i ∈ [.sineEnSet u w, .sineApply u w, .sineEnClear u w] → s.writeOk (feB u + CHN_SINE_CTRL.EN.off) = true →
    s.sineOpen u = false → Completes i s fun t => t.isSet (feB u) CHN_FE_STATUS.WIGN = true ∧
      Frame { regs := fun a => a = feB u + CHN_FE_STATUS.WIGN.off } s t) ∧
  ((s.fe u).waitUpdate = true → Completes (.sineUpdate u) s fun t => t.isSet (feB u) CHN_SINE_CTRL.RUN = true ∧ (t.fe u).waitUpdate = false ∧
    (t.fe u).code = s.sineCode u (s.fe u).acc ∧ Frame { regs := fun a => a = feB u + CHN_SINE_CTRL.EN.off, fes := fun x => x = u } s t) ∧
  ((s.fe u).waitUpdate = false → s.isSet (feB u) CHN_SINE_CTRL.RUN = true → (s.fe u).applyPend = false → (s.fe u).zcStop = false →
    Completes (.sineUpdate u) s fun t => (t.fe u).acc = ((s.fe u).acc + (s.fe u).ftw) % 2 ^ 32 ∧ (t.fe u).code = s.sineCode u (t.fe u).acc ∧
      Frame { fes := fun x => x = u } s t) ∧
  (∀ delta : Fin 6400, (s.fe u).waitEpoch = true → Completes (.sineEpochStart u delta) s fun t =>
    t.isSet (feB u) CHN_SINE_CTRL.RUN = true ∧ (t.fe u).waitEpoch = false ∧ (t.fe u).code = s.sineCode u (t.fe u).acc ∧
    (delta = 0 → 0 < s.getF (feB u) CHN_SINE_CTRL.DIV → (t.fe u).acc = (s.fe u).acc % 2 ^ 32) ∧
    Frame { regs := fun a => a = feB u + CHN_SINE_CTRL.EN.off, fes := fun x => x = u } s t) ∧
  ((s.fe u).zcStop = true → (s.fe u).waitUpdate = false → s.isSet (feB u) CHN_SINE_CTRL.RUN = true → (s.fe u).applyPend = false →
    bitB (((s.fe u).acc + (s.fe u).ftw) % 2 ^ 32) 31 ≠ bitB (s.fe u).acc 31 → Completes (.sineZcStop u) s fun t =>
      t.isSet (feB u) CHN_SINE_CTRL.RUN = false ∧ (t.fe u).zcStop = false ∧ (t.fe u).code = (s.fe u).ofs ∧
      t.getF (feB u) CHN_FE_TARGET.CODE = (s.fe u).ofs % 2 ^ 20 ∧
      Frame { regs := fun a => a = feB u + CHN_SINE_CTRL.EN.off ∨ a = feB u + CHN_FE_TARGET.CODE.off, fes := fun x => x = u } s t)

/-- R58, R61 to R69: the converter's registers and its own events (the model's reading: log entries 1, 55, 59, 64, 72). -/
def Obligations.ConverterRows : Prop := ∀ (u : Fin 1056) (s : State),
  (∀ w : Word, s.writeOk (feB u + CHN_ADC_CTRL.START.off) = true → s.adcLocked u = false → (s.adc u).running = false → (s.adc u).conv = none →
    (s.adc u).inj = [] → (s.adc u).heldInj = [] → s.execBusy (s.adcUnit u) = false → (s.adc u).hold = 0 → s.rotated u = false →
    s.adcSuspended u = false → s.remapServes u = false → (CHN_ADC_CTRL.MODE.get w = 1 ∨ CHN_ADC_CTRL.MODE.get w = 2) →
    Completes (.adcStart u w) s fun t => (t.adc u).running = true ∧
      (∃ k, (t.adc u).conv = some k ∧ k.entry = 0 ∧ k.inj = none ∧ k.converting = false ∧ k.pass = 0) ∧
      t.getF (feB u) CHN_ADC_CTRL.MODE = CHN_ADC_CTRL.MODE.get w ∧ t.getF (feB u) CHN_ADC_CTRL.LAST = CHN_ADC_CTRL.LAST.get w ∧
      t.getF (feB u) CHN_ADC_CTRL.NPASS = CHN_ADC_CTRL.NPASS.get w ∧
      Frame { regs := fun a => a = feB u + CHN_ADC_CTRL.START.off, adcs := fun x => x = u } s t) ∧
  (∀ w : Word, s.writeOk (feB u + CHN_ADC_CTRL.START.off) = true → s.adcLocked u = true → (s.adc u).running = true → (s.adc u).conv ≠ none → s.remapServes u = false →
    (s.getF (feB u) CHN_ADC_CTRL.MODE = 1 ∨ s.getF (feB u) CHN_ADC_CTRL.MODE = 2) → Completes (.adcStart u w) s fun t =>
      (t.adc u).restart = true ∧ t.getF (feB u) CHN_ADC_CTRL.MODE = s.getF (feB u) CHN_ADC_CTRL.MODE ∧
      Frame { regs := fun a => a = feB u + CHN_ADC_CTRL.START.off ∨ a = feB u + CHN_FE_STATUS.WIGN.off, adcs := fun x => x = u } s t) ∧
  (∀ w : Word, s.writeOk (feB u + CHN_ADC_CTRL.STOP.off) = true → (s.adc u).running = true →
    ((s.adc u).conv ≠ none → Completes (.adcStop u w) s fun t => (t.adc u).stopPend = true ∧
      Frame { regs := fun a => a = feB u + CHN_ADC_CTRL.START.off ∨ a = feB u + CHN_FE_STATUS.WIGN.off, adcs := fun x => x = u } s t) ∧
    ((s.adc u).conv = none → (s.adc u).inj = [] → Completes (.adcStop u w) s fun t => (t.adc u).running = false ∧
      Frame { regs := fun a => a = feB u + CHN_ADC_CTRL.START.off ∨ a = feB u + CHN_FE_STATUS.WIGN.off, adcs := fun x => x = u } s t)) ∧
  (∀ w : Word, s.writeOk (feB u + CHN_ADC_INJ.SRC.off) = true → (s.adc u).conv ≠ none →
    (s.adcRoom u = true → Completes (.adcInject u w) s fun t => (t.adc u).inj = (s.adc u).inj ++ [injOf w] ∧ Frame { adcs := fun x => x = u } s t) ∧
    (s.adcRoom u = false → Completes (.adcInject u w) s fun t => t.isSet (feB u) CHN_ADC_STATUS.INJ_FULL = true ∧ Frame {} s t)) ∧
  (∀ k, (s.adc u).conv = some k → k.converting = false → Completes (.adcSampleEnd u) s fun t =>
    t.adc u =
      { s.adc u with conv := some { k with converting := true, gen := s.gen, hold := s.tb, corr := s.adcCorr k.exec ((scaleOf k.src k.mode k.span k.range).getD 4) k.gain, uclass := s.uclass k.exec ((scaleOf k.src k.mode k.span k.range).getD 4) } } ∧ Frame { adcs := fun x => x = u } s t) ∧
  (∀ (raw : BitVec 18) (k : Conv), (s.adc u).conv = some k → k.converting = true → (s.adc u).hold = 0 → (k.inj.bind fun i => i.owner) = none →
    Completes (.adcEntryBoundary u raw) s fun t => (t.adc u).results = (s.adc u).results ++ [s.convResult k raw.toNat] ∧
      ((s.adc u).stopPend = true → (t.adc u).running = false) ∧
      ((s.adc u).stopPend = false → (s.adc u).restart = false → k.inj = none → (s.adc u).running = true → (s.adc u).inj = [] →
        (s.adc u).heldInj = [] → (s.modAdc u fun a => { a with conv := none }).execBusy (s.adcUnit u) = false → s.rotated u = false →
        s.adcSuspended u = false → s.lastEntry u = false → ∃ x, (t.adc u).conv = some x ∧ x.inj = none ∧
          x.entry = if s.getF (feB u) CHN_ADC_CTRL.LAST ≤ (s.adc u).cur then 0 else (s.adc u).cur + 1) ∧
      Frame { adcs := fun x => x = u } s t) ∧
  (∀ (r : Result) (rs : List Result) (t : Nat), (s.adc u).results = r :: rs → t = tileOf u → r.conv.inj = none → r.conv.dest = 0 → r.conv.limen = false →
    r.conv.evt = false → r.conv.last = false → (s.getF (tileBase t) TRG_STATUS.STATE < 2 ∨ 3 < s.getF (tileBase t) TRG_STATUS.STATE) →
    (s.getF (tileBase t) TIL_RQ_LEVEL.COUNT < s.rqSize t → Completes (.adcResultEnqueue u) s fun z => (z.adc u).results = rs ∧
      z.getF (tileBase t) TIL_RQ_LEVEL.COUNT = s.getF (tileBase t) TIL_RQ_LEVEL.COUNT + 1 ∧ z.rd (feB u + CHN_ADC_LAST_RES.RES.off) = BitVec.ofNat 32 (r.entry u) ∧
      memRead sramReset z.sram (capBase t + 8 * (((s.tile t).rqOut + s.getF (tileBase t) TIL_RQ_LEVEL.COUNT) % s.rqSize t)) 8 = leBytes 8 (r.entry u) ∧
      Frame { regs := fun a => a = tileBase t + TIL_RQ_LEVEL.COUNT.off ∨ a = tileBase t + TIL_RQ_STATUS.WM.off ∨ a = feB u + CHN_ADC_LAST_RES.RES.off,
              sram := fun a => capBase t ≤ a ∧ a < capBase t + 8 * s.rqSize t, adcs := fun x => x = u } s z) ∧
    (s.rqSize t ≤ s.getF (tileBase t) TIL_RQ_LEVEL.COUNT → Completes (.adcResultEnqueue u) s fun z => (z.adc u).results = rs ∧
      z.isSet (tileBase t) TIL_RQ_STATUS.OVF = true ∧ z.getF (tileBase t) TIL_RQ_DROP.COUNT = min (s.getF (tileBase t) TIL_RQ_DROP.COUNT + 1) (2 ^ 32 - 1) ∧
      Frame { regs := fun a => a = tileBase t + TIL_RQ_DROP.COUNT.off ∨ a = tileBase t + TIL_RQ_STATUS.OVF.off, adcs := fun x => x = u } s z))

/-- R76, R81: the drain of a tile's result queue into the host's ring (the model's reading: log entries 1, 55). -/
def Obligations.DrainRows : Prop := ∀ (t : Fin 8) (s : State) (n base prod out : Nat),
  n = min (min 32 (s.getF (tileBase t) TIL_RQ_LEVEL.COUNT)) (s.rqRing t - sub32 prod (s.getF (tileBase t) TIL_RQ_HCONS.COUNT)) →
  base = s.getF (tileBase t) TIL_RQ_HBASE_LO.ADDR * 4096 + s.getF (tileBase t) TIL_RQ_HBASE_HI.ADDR * 2 ^ 32 →
  prod = s.getF (tileBase t) TIL_RQ_HPROD.COUNT → out = (s.tile t).rqOut →
  (∀ i : Instr, (i = .rqDrainBurst t ∨ i = .rqPartialFlush t ∧ s.getF (tileBase t) TIL_RQ_LEVEL.COUNT < 32) → s.isSet (tileBase t) TIL_RQ_CTRL.EN = true →
    s.hostLink = true → n ≠ 0 → Completes i s fun z => z.getF (tileBase t) TIL_RQ_HPROD.COUNT = (prod + n) % 2 ^ 32 ∧
      z.getF (tileBase t) TIL_RQ_LEVEL.COUNT = s.getF (tileBase t) TIL_RQ_LEVEL.COUNT - n ∧
      (∀ j < n, memRead hostReset z.host (base + 8 * ((prod + j) % s.rqRing t)) 8 =
        memRead sramReset s.sram (capBase t + 8 * ((out + j) % atLeast1 (s.rqSize t))) 8) ∧
      memRead hostReset z.host (base + 8 * s.rqRing t) 4 = leBytes 4 (prod + n) ∧
      Frame { regs := fun a => a = tileBase t + TIL_RQ_HPROD.COUNT.off ∨ a = tileBase t + TIL_RQ_LEVEL.COUNT.off ∨ a = tileBase t + TIL_RQ_CTRL.EN.off,
              host := fun a => base ≤ a ∧ a < base + 8 * s.rqRing t + 4, parts := fun x => { x with tiles := [] } } s z) ∧
  (∀ i : Instr, (i = .rqDrainBurst t ∨ i = .rqPartialFlush t) → (s.isSet (tileBase t) TIL_RQ_CTRL.EN = false ∨ s.hostLink = false ∨ n = 0) →
    Completes i s fun z => Frame {} s z) ∧
  (∀ w : Word, s.writeOk (tileBase t + TIL_RQ_CTRL.EN.off) = true → Completes (.rqEnChange t w) s fun z =>
    z.isSet (tileBase t) TIL_RQ_CTRL.EN = (!s.isSet (tileBase t) TIL_RQ_CTRL.EN) ∧ z.getF (tileBase t) TIL_RQ_CTRL.WMARK = TIL_RQ_CTRL.WMARK.get w ∧
    (z.tile t).rqStop = false ∧ Frame { regs := fun a => a = tileBase t + TIL_RQ_CTRL.EN.off, parts := fun x => { x with tiles := [] } } s z) ∧
  (∀ w : Word, s.writeOk (tileBase t + TIL_RQ_HCONS.COUNT.off) = true → sub32 prod w.toNat ≤ s.rqRing t → Completes (.rqHconsWrite t w) s fun z =>
    z.rd (tileBase t + TIL_RQ_HCONS.COUNT.off) = w ∧ Frame { regs := fun a => a = tileBase t + TIL_RQ_HCONS.COUNT.off } s z) ∧
  (∀ w : Word, s.rqRing t < sub32 prod w.toNat → Completes (.rqHconsWrite t w) s fun z => Frame {} s z)

/-- R64, R67, R69, R248: CH_MEASURE (the model's reading: log entries 1, 55). -/
def Obligations.MeasureRows : Prop := ∀ (cmd : CmdRef) (c : Cmd) (s : State), s.ready? cmd opMEASURE = some c → c.vanish = false → (∀ k ∈ c.chans, (s.adc k).hold ≠ 3) →
  (c.pf 0x14 1 0 = 0 → Completes (.chMeasureStart cmd) s
    (Begun cmd { regs := fun a => ∃ k ∈ c.chans, inFe k a, adcs := fun u => ∃ k ∈ c.chans, u = k } s)) ∧
  (∀ k, c.pf 0x14 1 0 = 0 → c.chans = [k] → k < 1024 → (s.adc k).running = false → (s.adc k).conv = none → (s.adc k).inj = [] → (s.adc k).heldInj = [] →
    s.execBusy (s.adcUnit k) = false → (s.adc k).hold = 0 → s.rotated k = false → (s.getF (feB k) CHN_ADC_CTRL.MODE = 1 ∨ s.getF (feB k) CHN_ADC_CTRL.MODE = 2) → Completes (.chMeasureStart cmd) s fun t =>
      Answered cmd { status := scOK } { regs := fun a => inFe k a, adcs := fun u => u = k } s t ∧ (t.adc k).running = true ∧
      ∃ x, (t.adc k).conv = some x ∧ x.entry = 0 ∧ x.inj = none) ∧
  (c.pf 0x14 1 0 = 1 → Completes (.chMeasureStop cmd) s fun t =>
    Begun cmd { regs := fun a => ∃ k ∈ c.chans, inFe k a, adcs := fun u => ∃ k ∈ c.chans, u = k } s t ∧
    (∀ k ∈ c.chans, (s.adc k).running = true → (s.adc k).conv ≠ none → (t.adc k).stopPend = true) ∧
    (∀ k ∈ c.chans, (s.adc k).running = true → (s.adc k).conv = none → (s.adc k).inj = [] → (t.adc k).running = false)) ∧
  (c.pf 0x14 1 0 = 1 → (∀ k ∈ c.chans, (s.adc k).running = false) → Completes (.chMeasureStop cmd) s (Answered cmd { status := scOK } {} s)) ∧
  (c.pf 0x14 1 0 = 2 → Completes (.chMeasureInject cmd) s
    (Begun cmd { regs := fun a => ∃ k ∈ c.chans, inFe k a, adcs := fun u => ∃ k ∈ c.chans, u = k } s)) ∧
  (∀ k, c.pf 0x14 1 0 = 2 → c.chans = [k] → (s.adc k).conv ≠ none → s.adcRoom k = true → Completes (.chMeasureInject cmd) s fun t =>
    (t.adc k).inj = (s.adc k).inj ++ [{ injOf (BitVec.ofNat 32 (c.p 0x18)) with owner := some cmd, internal := bitB (c.p 0x14) 8 }])

/-- R82 to R91, R95: the window comparators (the model's reading: log entries 1, 55). -/
def Obligations.ComparatorRows : Prop := ∀ (u : Fin 1056) (high : Bool) (s : State) (k : Nat), k = side high →
  (∀ (x : Bool) (uv vp : Int) (q : Fin 200) (dead : Bool), x = s.cmpLevel u k uv vp →
    (s.isSet (feB u) (cfEN k) = false ∨ s.cmpUsed u = false ∨ x = (s.cmp u k).raw) → Completes (.compRawTransition u high (uv, vp) q dead) s (Frame {} s)) ∧
  (∀ (x : Bool) (uv vp : Int) (q : Fin 200) (dead : Bool), x = s.cmpLevel u k uv vp → s.isSet (feB u) (cfEN k) = true → s.cmpUsed u = true →
    x ≠ (s.cmp u k).raw → (s.gateOpen u k = false ∨ outside k x = false) →
    Completes (.compRawTransition u high (uv, vp) q dead) s fun t => (t.cmp u k).raw = x ∧
      (outside k x = true → (t.cmp u k).lastOut = (s.compLin u q % (linW : Int)).toNat) ∧ (t.cmp u (1 - k)) = s.cmp u (1 - k) ∧
      (outside k x = false → outside k (s.isSet (feB u) (csFOUT k)) = false → (t.cmp u k).tripped = false) ∧
      Frame { parts := fun x => { x with cmps := [], insts := [] } } s t) ∧
  (∀ (x : Bool) (uv vp : Int) (q : Fin 200) (dead : Bool), x = s.cmpLevel u k uv vp → u.val < 1024 → s.phys u = u → s.noRot [u.val] →
    (s.fe u).contact = none → s.gateOpen u k = true → x ≠ (s.cmp u k).raw → outside k x = true →
    (s.inst (instKey 0x02 scCHANNEL u)).force = false → s.getF (4 * 0x02) FLT_CLASS.LEVEL = 1 →
    Completes (.compRawTransition u high (uv, vp) q dead) s fun t => t.feOn u = false ∧ t.isSet (feB u) CHN_FE_STATUS.TRIPPED = true ∧
      t.isSet (feB u) (csHIT k) = true ∧ (t.cmp u k).tripped = true ∧ (t.inst (instKey 0x02 scCHANNEL u)).force = true ∧
      (t.inst (instKey 0x02 scCHANNEL u)).level = 1 ∧ (t.inst (instKey 0x02 scCHANNEL u)).detail = 1 - k ∧
      Frame { regs := fun a => inFe u a ∨ a = FLT_CLASS.DCNT.off + 4 * 0x02 ∨ a = FLT_BB_STATUS.LOST.off, fes := fun x => x = u, engs := fun x => x = u,
              adcs := fun x => x = u, parts := fun x => { x with cmps := [], insts := [], lastCls := [], bbStage := [] } } s t) ∧
  (∀ (x valid fout : Bool) (n hist : Nat) (i : Instr), i ∈ [.compValid u high [x], .compLatchSet u high [x], .compFilterReturn u high [x]] →
    s.clocked = true → s.isSet (feB u) (cfEN k) = true → s.cmpUsed u = true → (s.isSet (feB u) (cfTRIP k) = false ∨ s.isSet (feB u) (csVALID k) = true) →
    n = filterN (s.getF (feB u) (cfFLEN k)) → hist = (2 * (s.cmp u k).hist + b2n x) % 2 ^ 15 → valid = decide (n ≤ min 15 ((s.cmp u k).samples + 1)) →
    fout = (valid && decide ((n + 1) / 2 ≤ popCount n hist)) → Completes i s fun t =>
      t.isSet (feB u) (csVALID k) = valid ∧ t.isSet (feB u) (csFOUT k) = fout ∧ t.isSet (feB u) (csRAW k) = x ∧
      (t.cmp u k).hist = hist ∧ (t.cmp u k).samples = min 15 ((s.cmp u k).samples + 1) ∧
      (valid = true → outside k fout = true → t.isSet (feB u) (csLATCH k) = true) ∧
      (outside k (s.cmp u k).raw = false → outside k fout = false → (t.cmp u k).tripped = false) ∧
      Frame { regs := fun a => a = feB u + CHN_CMP_STATUS.RAW_LO.off, parts := fun x => { x with cmps := [], insts := [], trigs := [] } } s t) ∧
  (∀ (l : List Bool) (i : Instr), i ∈ [.compValid u high l, .compLatchSet u high l, .compFilterReturn u high l] →
    (s.clocked = false ∨ s.isSet (feB u) (cfEN k) = false ∨ s.cmpUsed u = false) → Completes i s fun t => Frame {} s t)

namespace Sys2Proof.Machine

/-- The engine of leader c issues the word w of opcode op at its place, and R101 finds no error in it. -/
structure State.Issues (s : State) (c op w : Nat) : Prop where
  runs : s.issuing c = true
  after : s.engState c = 5 → op ∉ swAfterStart
  place : ((s.eng c).ret = none ∧ s.pc c < 0x1800) ∨ ((s.eng c).ret ≠ none ∧ s.short c 1 = [])
  word : s.memWord c c 0 = w
  isOp : swOp w = op
  ok : (s.eng c).part = 0 → s.wordErr c w = none

/-- The words and their events. -/
def wordRows (c : Fin 1024) : List (Nat × Instr) :=
  [(swNOP, .seqNop c), (swVECI, .veci c), (swVECD, .vecd c), (swVREP, .vrep c), (swLOOP, .loop c), (swENDL, .endl c), (swCALL, .call c),
   (swRET, .ret c), (swJMP, .jmp c), (swBR, .br c []), (swMATCH, .matchW c), (swWAIT, .wait c), (swBAR, .bar c), (swTSLD, .tsld c), (swLVL, .lvl c),
   (swMEAS, .meas c), (swEVT, .evt c), (swFLG, .flg c), (swSEG, .seg c), (swSTALL, .stall c), (swSTRM, .strm c), (swSEND, .send c),
   (swHALT, .halt c)]

/-- Registers that going on to the next word may change in the members of leader c's group. -/
def State.wordRegs (s : State) (c a : Nat) : Prop :=
  ∃ m ∈ s.mem c, a = chB m + CHN_SEQ_PC.PC.off ∨ a = chB m + CHN_SEQ_STATUS.STATE.off ∨ a = chB m + CHN_STRM_FILL.WORDS.off

/-- Leader c's engine has gone on after a word whose own effect on it is f: to the next stored word; in a stream one word leaves every
member's ring; the last word of a MATCH body starts the pause of its iteration (R98, R112, R126). -/
structure Advanced (c : Nat) (f : Eng → Eng) (s t : State) : Prop where
  pc : (s.eng c).ret = none → ∀ m ∈ s.mem c, t.getF (chB m) CHN_SEQ_PC.PC = s.pc c + 1
  others : (s.eng c).ret = none → ∀ m ∈ s.mem c, m ≠ c → (t.eng m).still = (s.eng m).still
  plain : (s.eng c).ret = none → (s.eng c).loop = none → (t.eng c).still = (f { s.eng c with part := 0 }).still ∧ (t.eng c).hold = none
  body : ∀ l, (s.eng c).ret = none → (s.eng c).loop = some l → (t.eng c).loop = some { l with word := l.word + 1 } ∧
    (l.len ≤ l.word + 1 → (∃ h, (t.eng c).hold = some h ∧ h.kind = .iteration ∧ h.code = (s.eng c).idle ∧ h.ts = (s.eng c).its) ∧
      ∀ m ∈ s.mem c, t.engState m = 2)
  stream : (s.eng c).ret ≠ none → ∀ m ∈ s.mem c, t.fill m = s.fill m - 1 ∧ t.getF (chB m) CHN_SEQ_PC.PC = t.strmAddr c 0 % 2 ^ 13 ∧
    (t.eng m).rd = ((s.eng m).rd + 1) % atLeast1 (s.getF (chB m) CHN_STRM_SIZE.WORDS)
  queue : (t.eng c).queue = (f (s.eng c)).queue ∧ (t.eng c).acts = (f (s.eng c)).acts

/-- Leader c's engine, changed by f, goes on at stored address a. -/
structure Went (c a : Nat) (f : Eng → Eng) (s t : State) : Prop where
  pc : ∀ m ∈ s.mem c, t.getF (chB m) CHN_SEQ_PC.PC = a
  eng : (t.eng c).still = (f { s.eng c with part := 0 }).still

/-- Leader c's engine holds for k with idle vector (code, ts), to time out after tmo periods (R99). -/
structure Holds (c : Nat) (k : HoldKind) (code ts tmo : Nat) (s t : State) : Prop where
  hold : ∃ h, (t.eng c).hold = some h ∧ h.kind = k ∧ h.code = code ∧ h.ts = ts ∧ h.tmo = tmo ∧ h.periods = 0
  pad : (t.eng c).pad = some (code, ts)
  state : ∀ m ∈ s.mem c, t.engState m = match k with | .stall _ => 3 | _ => 2

/-- The next k vectors of a word in timing set ts, from its vector (s.eng c).part on; the first one takes the effects issued before it. -/
def State.newVecs (s : State) (c ts k : Nat) (code : Nat → Nat → Nat) : List Vec :=
  (List.range k).map fun i =>
    { pins := (s.mem c).map fun m => { chan := m, code := code m ((s.eng c).part + i), ts := s.tsVals m ts }, acts := if i = 0 then (s.eng c).acts else [],
      notBefore := (s.eng c).resume }

/-- An engine with vectors added to its queue. -/
def Eng.withVecs (l : List Vec) (e : Eng) : Eng :=
  { e with queue := e.queue ++ l, acts := if l = [] then e.acts else [] }

/-- A vector word of n vectors: as many as the queue of 128 has room for, then the next word (R100). -/
def State.VectorWord (s : State) (i : Instr) (c ts n : Nat) (code : Nat → Nat → Nat) : Prop :=
  ∀ k, k = min (n - (s.eng c).part) (128 - (s.eng c).queue.length) →
    (n ≤ (s.eng c).part + k → Completes i s fun t => Advanced c (Eng.withVecs (s.newVecs c ts k code)) s t ∧
      Frame { regs := s.wordRegs c, engs := fun m => m ∈ s.mem c } s t) ∧
    ((s.eng c).part + k < n → Completes i s fun t =>
      (t.eng c).still = { Eng.withVecs (s.newVecs c ts k code) (s.eng c) with part := (s.eng c).part + k }.still ∧ Frame { engs := fun m => m = c } s t)

end Sys2Proof.Machine

/-- R101, R107: a word that breaks a condition of R101 ends the run once every vector before it is out; an engine that may not issue, does
not (the model's reading: log entries 1, 55). -/
def Obligations.ProgramErrorRows : Prop := ∀ (c : Fin 1024) (s : State) (op w : Nat) (i : Instr), (op, i) ∈ wordRows c →
  (s.issuing c = false → Completes i s (Frame {} s)) ∧
  (s.issuing c = true → (s.engState c = 5 → op ∉ swAfterStart) → ((s.eng c).fresh = false ∨ (s.eng c).queue ≠ []) → (s.eng c).part = 0 →
    w = s.memWord c c 0 →
    ((s.eng c).ret = none → 0x1800 ≤ s.pc c → Completes i s fun t =>
      (t.eng c).still = { s.eng c with fin := some (.error c 2) }.still ∧ Frame { engs := fun m => m = c } s t) ∧
    ((s.eng c).ret = none ∧ s.pc c < 0x1800 ∨ (s.eng c).ret ≠ none ∧ s.short c 1 = [] →
      (swFields (swOp w) = none → Completes i s fun t =>
        (t.eng c).still = { s.eng c with fin := some (.error c 1) }.still ∧ Frame { engs := fun m => m = c } s t) ∧
      (swOp w = op → ((s.eng c).ret = none ∧ (op = swVECS ∨ op = swSEND) ∨ (s.eng c).ret ≠ none ∧ swStream op = false ∨
          (s.eng c).loop ≠ none ∧ swBody op = false ∨ op = swBAR ∧ s.isSet (chB c) CHN_SEQ_GRP.BOUND = false) → Completes i s fun t =>
        (t.eng c).still = { s.eng c with fin := some (.error c 5) }.still ∧ Frame { engs := fun m => m = c } s t) ∧
      (∀ m k, swOp w = op → s.wordErr c w = some (m, k) → Completes i s fun t =>
        (t.eng c).still = { s.eng c with fin := some (.error m k) }.still ∧ Frame { engs := fun m => m = c } s t)))

/-- R100, R107, R126: the vector words, as the queue of 128 has room (the model's reading: log entries 1, 55). -/
def Obligations.VectorWordRows : Prop := ∀ (c : Fin 1024) (s : State) (w : Nat),
  (s.Issues c swVECI w → s.VectorWord (.veci c) c (bits w 57 53) (bits w 52 49) fun m i => packedCode (s.memWord c m 0) i) ∧
  (s.Issues c swVECD w → s.VectorWord (.vecd c) c (bits w 57 53) (bits w 52 36) fun m i =>
    packedCode (s.seqWord m (bits w 12 0 + i / 16)) (i % 16)) ∧
  (s.Issues c swVREP w → s.VectorWord (.vrep c) c (bits w 57 53) (bits w 31 0) fun _ _ => bits w 52 49) ∧
  (s.Issues c swVECS w → (s.eng c).part = 0 → (s.eng c).vecs = none → (s.eng c).ret ≠ none → (∀ m ∈ s.mem c, s.fill m = 1) →
    Completes (.vecs c) s fun t => (t.eng c).vecs = some (bits w 57 53, bits w 52 36) ∧ (t.eng c).queue = (s.eng c).queue ∧
      (∀ m ∈ s.mem c, t.fill m = 0) ∧ Frame { regs := s.wordRegs c, engs := fun m => m ∈ s.mem c } s t) ∧
  (∀ ts n k, (s.eng c).vecs = some (ts, n) → k = n - (s.eng c).part → k ≤ 16 → s.short c 1 = [] → (s.eng c).queue.length + k ≤ 128 →
    (s.eng c).fin = none → (∀ m ∈ s.mem c, ∀ i < k, packedCode (s.memWord c m 0) i ≤ 0xA) → Completes (.vecs c) s fun t =>
      (t.eng c).queue = (s.eng c).queue ++ (List.range k).map (fun i => { pins := (s.mem c).map fun m => { chan := m, code := packedCode (s.memWord c m 0) i, ts := s.tsVals m ts }, acts := if i = 0 then (s.eng c).acts else [], notBefore := (s.eng c).resume }) ∧
      (t.eng c).vecs = none ∧ (∀ m ∈ s.mem c, t.fill m = s.fill m - 1) ∧ Frame { regs := s.wordRegs c, engs := fun m => m ∈ s.mem c } s t) ∧
  (∀ x, (s.eng c).vecs = some x → s.short c 1 ≠ [] → Completes (.vecs c) s (Frame {} s))

/-- R107, R109, R110, R122, R126: the words that hold nothing and issue nothing (the model's reading: log entries 1, 15, 55). -/
def Obligations.FlowWordRows : Prop := ∀ (c : Fin 1024) (s : State) (w a n : Nat), (s.eng c).part = 0 →
  (s.Issues c swNOP w → Completes (.seqNop c) s fun t => Advanced c id s t ∧ Frame { regs := s.wordRegs c, engs := fun m => m ∈ s.mem c } s t) ∧
  (s.Issues c swLOOP w → a = chB c + 4 * bits w 57 56 → Completes (.loop c) s fun t => Advanced c id s t ∧
    t.getF a CHN_SEQ_LOOP.COUNT = atLeast1 (bits w 31 0) ∧
    Frame { regs := fun x => s.wordRegs c x ∨ x = a + CHN_SEQ_LOOP.COUNT.off, engs := fun m => m ∈ s.mem c } s t) ∧
  (s.Issues c swENDL w → a = chB c + 4 * bits w 57 56 → n = s.getF a CHN_SEQ_LOOP.COUNT →
    (1 < n → Completes (.endl c) s fun t => Went c (bits w 12 0) id s t ∧ t.getF a CHN_SEQ_LOOP.COUNT = n - 1 ∧
      Frame { regs := fun x => s.wordRegs c x ∨ x = a + CHN_SEQ_LOOP.COUNT.off, engs := fun m => m = c } s t) ∧
    (n ≤ 1 → Completes (.endl c) s fun t => Advanced c id s t ∧ t.getF a CHN_SEQ_LOOP.COUNT = 0 ∧
      Frame { regs := fun x => s.wordRegs c x ∨ x = a + CHN_SEQ_LOOP.COUNT.off, engs := fun m => m ∈ s.mem c } s t)) ∧
  (s.Issues c swCALL w → Completes (.call c) s fun t => Went c (bits w 12 0) (fun e => { e with stack := (s.pc c + 1) :: e.stack }) s t ∧
    t.getF (chB c) CHN_SEQ_STATUS.STACK = (s.eng c).stack.length + 1 ∧ Frame { regs := s.wordRegs c, engs := fun m => m = c } s t) ∧
  (∀ as, s.Issues c swRET w → (s.eng c).stack = a :: as → a < 2 ^ 13 → as.length < 8 → Completes (.ret c) s fun t =>
    Went c a (fun e => { e with stack := as }) s t ∧ t.getF (chB c) CHN_SEQ_STATUS.STACK = as.length ∧
    Frame { regs := s.wordRegs c, engs := fun m => m = c } s t) ∧
  (s.Issues c swJMP w → Completes (.jmp c) s fun t => Went c (bits w 12 0) id s t ∧ Frame { regs := s.wordRegs c, engs := fun m => m = c } s t) ∧
  (∀ ts, s.Issues c swTSLD w → ts = bits w 57 53 → a = bits w 12 0 → ((s.eng c).fresh = false ∨ (s.eng c).queue ≠ []) →
    Completes (.tsld c) s fun t =>
      (∀ m ∈ s.mem c, ∀ k < 7, t.rd (chB m + 0x400 + 0x20 * ts + 4 * k) =
        BitVec.ofNat 32 (s.seqWord m (a + k / 2) / 2 ^ (32 * (k % 2))) &&& (if k = 6 then 7#32 else 0x0FFFFFFF#32)) ∧
      (t.tsEqual c ts = true → Advanced c id s t) ∧
      (t.tsEqual c ts = false → (t.eng c).still = { s.eng c with fin := some (.error c 7) }.still) ∧
      Frame { regs := fun x => s.wordRegs c x ∨ ∃ m ∈ s.mem c, ∃ k < 7, x = chB m + 0x400 + 0x20 * ts + 4 * k, engs := fun m => m ∈ s.mem c } s t) ∧
  (s.Issues c swSEG w → ((s.eng c).inSeg = false ∨ ((s.eng c).bstop = false ∧ (s.eng c).jreq = none)) → Completes (.seg c) s fun t =>
    Advanced c (fun e => { e with idle := bits w 45 42, its := bits w 41 37, inSeg := true }) s t ∧
    (∀ m ∈ s.mem c, t.getF (chB m) CHN_SEQ_PC.SNUM = bits w 57 46) ∧ Frame { regs := s.wordRegs c, engs := fun m => m ∈ s.mem c } s t) ∧
  (s.Issues c swSTRM w → Completes (.strm c) s fun t => (t.eng c).still = { s.eng c with ret := some (s.pc c + 1) }.still ∧
    (∀ m ∈ s.mem c, t.getF (chB m) CHN_SEQ_PC.PC = s.strmAddr c 0 % 2 ^ 13) ∧ Frame { regs := s.wordRegs c, engs := fun m => m = c } s t) ∧
  (s.Issues c swSEND w → (s.eng c).ret = some a → a < 2 ^ 13 → Completes (.send c) s fun t => (t.eng c).ret = none ∧
    (t.eng c).queue = (s.eng c).queue ∧
    (∀ m ∈ s.mem c, t.getF (chB m) CHN_SEQ_PC.PC = a ∧ t.fill m = s.fill m - 1 ∧
      (t.eng m).rd = ((s.eng m).rd + 1) % atLeast1 (s.getF (chB m) CHN_STRM_SIZE.WORDS)) ∧
    Frame { regs := s.wordRegs c, engs := fun m => m ∈ s.mem c } s t) ∧
  (s.Issues c swHALT w → ((s.eng c).inSeg = false ∨ ((s.eng c).bstop = false ∧ (s.eng c).jreq = none)) →
    ((s.eng c).fresh = false ∨ (s.eng c).queue ≠ []) → Completes (.halt c) s fun t =>
      (t.eng c).still = { s.eng c with fin := some (.halt (bits w 15 0)) }.still ∧ Frame { engs := fun m => m = c } s t)

/-- R122 to R124, R131: the decision point of a segment: a registered stop comes first, else a registered jump outside a stream (the
model's reading: log entries 1, 55). -/
def Obligations.SegmentDecisionRows : Prop := ∀ (c : Fin 1024) (s : State) (w : Nat) (x : Nat × Instr) (r : CmdRef),
  x = (swSEG, Instr.seg c) ∨ x = (swHALT, Instr.halt c) → s.Issues c x.1 w → (s.eng c).part = 0 → (s.eng c).inSeg = true →
  ((s.eng c).bstop = true → s.jumpFalls c = false → ((s.eng c).fresh = false ∨ (s.eng c).queue ≠ []) → Completes x.2 s fun t =>
    (t.eng c).still = { s.eng c with fin := some .boundary }.still ∧ Frame { engs := fun m => m = c } s t) ∧
  (∀ k, (s.eng c).bstop = true → s.jumpFalls c = true → (s.eng c).jreq = some r → s.cmd? r = some k →
    ((s.eng c).fresh = false ∨ (s.eng c).queue ≠ []) → Completes x.2 s fun t =>
      Answered r { status := scABORTHOST, detail := 3 } { regs := fun a => a = chB c + CHN_SEQ_JREQ.PEND.off, engs := fun m => m = c } s t ∧
      t.isSet (chB c) CHN_SEQ_JREQ.PEND = false ∧ (t.eng c).still = { s.eng c with jreq := none, fin := some .boundary }.still) ∧
  ((s.eng c).bstop = false → (s.eng c).jreq = some r → s.isSet (chB c) CHN_SEQ_JREQ.PEND = true → (s.eng c).ret = none → (s.eng c).jump = none →
    Completes x.2 s fun t =>
      Went c (s.getF (chB c) CHN_SEQ_JREQ.TARGET)
        (fun e => { e with jump := some {
            left := e.queue.length, count := s.vcnt c + e.queue.length, snum := s.getF (chB c) CHN_SEQ_PC.SNUM, target := s.getF (chB c) CHN_SEQ_JREQ.TARGET,
            cmd := r, pc := s.pc c, stack := e.stack, loops := (List.range 4).map fun k => s.getF (chB c + 4 * k) CHN_SEQ_LOOP.COUNT
            depth := s.getF (chB c) CHN_SEQ_STATUS.STACK, idle := e.idle, its := e.its }, jreq := none, inSeg := false, stack := if s.isSet (chB c) CHN_SEQ_JREQ.KEEP then e.stack else [] }) s t ∧
      (s.isSet (chB c) CHN_SEQ_JREQ.KEEP = false → t.getF (chB c) CHN_SEQ_STATUS.STACK = 0 ∧ ∀ k < 4, t.getF (chB c + 4 * k) CHN_SEQ_LOOP.COUNT = 0) ∧
      Frame { regs := fun a => s.wordRegs c a ∨ s.isSet (chB c) CHN_SEQ_JREQ.KEEP = false ∧ ∃ k < 4, a = chB c + 4 * k + CHN_SEQ_LOOP.COUNT.off,
              engs := fun m => m = c } s t)

/-- R115 to R117: the words whose effect waits for the vector boundary that follows (the model's reading: log entries 1, 55). -/
def Obligations.EffectWordRows : Prop := ∀ (c : Fin 1024) (s : State) (w : Nat) (ms : List Nat) (q : Inj) (x : Act), (s.eng c).part = 0 →
  (s.Issues c swLVL w → x = .level (bits w 57 54) ((s.mem c).map fun m => (m, s.levelValue m w)) → Completes (.lvl c) s fun t =>
    Advanced c (fun e => { e with acts := e.acts ++ [x] }) s t ∧ Frame { regs := s.wordRegs c, engs := fun m => m ∈ s.mem c } s t) ∧
  (s.Issues c swEVT w → x = .event (bits w 57 50) (bitB w 49) (bitB w 48) → Completes (.evt c) s fun t =>
    Advanced c (fun e => { e with acts := e.acts ++ [x] }) s t ∧ Frame { regs := s.wordRegs c, engs := fun m => m ∈ s.mem c } s t) ∧
  (s.Issues c swFLG w → x = .flags (bits w 57 56) (bits w 55 48) (bitB w 47) → Completes (.flg c) s fun t =>
    Advanced c (fun e => { e with acts := e.acts ++ [x] }) s t ∧ Frame { regs := s.wordRegs c, engs := fun m => m ∈ s.mem c } s t) ∧
  (s.Issues c swMEAS w → ms = (if bitB w 54 then s.mem c else [c.val]) →
    q = { src := bits w 3 0, gain := bits w 6 4, samp := bits w 10 8, tag := bits w 19 16 } →
    (bits w 57 56 ≠ 2 ∨ bitB w 55 = false → x = .meas (bits w 57 56) ms q false → Completes (.meas c) s fun t =>
      Advanced c (fun e => { e with acts := e.acts ++ [x] }) s t ∧ Frame { regs := s.wordRegs c, engs := fun m => m ∈ s.mem c } s t) ∧
    (bits w 57 56 = 2 → bitB w 55 = true → (∀ m ∈ ms, s.adcRoom m = true) → x = .meas 2 ms q true → Completes (.meas c) s fun t =>
      Advanced c (fun e => { e with acts := e.acts ++ [x] }) s t ∧
      (∀ m ∈ ms, s.adcRests m → t.adc m = { s.adc m with reserved := (s.adc m).reserved + 1 }) ∧
      Frame { regs := s.wordRegs c, engs := fun m => m ∈ s.mem c, adcs := fun m => m ∈ ms } s t) ∧
    (bits w 57 56 = 2 → bitB w 55 = true → (∃ m ∈ ms, s.adcRoom m = false) → Completes (.meas c) s fun t =>
      Holds c (.measure (ms.filter fun m => !s.adcRoom m)) (s.eng c).idle (s.eng c).its 0 s t ∧
      (∀ m ∈ s.mem c, t.getF (chB m) CHN_SEQ_PC.PC = s.getF (chB m) CHN_SEQ_PC.PC) ∧
      (∀ m ∈ ms, s.adcRests m → t.adc m = if s.adcRoom m then { s.adc m with reserved := (s.adc m).reserved + 1 } else s.adc m) ∧
      Frame { regs := s.wordRegs c, engs := fun m => m = c, adcs := fun m => m ∈ ms } s t))

/-- R111 to R114, R127: the words that may hold the engine (the model's reading: log entries 1, 55). -/
def Obligations.HoldWordRows : Prop := ∀ (c : Fin 1024) (s : State) (w : Nat) (past : List Bool) (ms : List Nat), (s.eng c).part = 0 →
  (∀ holds, s.Issues c swBR w → bitB w 53 = false → ms = (if bits w 57 56 = 0 then [c.val] else s.mem c) →
    holds = s.condHolds c w (fun m => past.getD (ms.idxOf m) (s.condOf m (bits w 52 47))) → Completes (.br c past) s fun t =>
      (holds = true → Went c (bits w 12 0) id s t) ∧ (holds = false → Advanced c id s t) ∧
      (bitB w 54 = true → ∀ m ∈ ms, t.isSet (chB m) CHN_SEQ_STATUS.FAIL = false) ∧
      (bitB w 54 = false → ∀ m ∈ ms, t.isSet (chB m) CHN_SEQ_STATUS.FAIL = s.isSet (chB m) CHN_SEQ_STATUS.FAIL) ∧
      Frame { regs := s.wordRegs c, engs := fun m => m ∈ s.mem c } s t) ∧
  (s.Issues c swBR w → bitB w 53 = true → Completes (.br c past) s fun t => Holds c .branch (s.eng c).idle (s.eng c).its 0 s t ∧
    t.pc c = s.pc c ∧ Frame { regs := s.wordRegs c, engs := fun m => m = c } s t) ∧
  (s.Issues c swMATCH w → Completes (.matchW c) s fun t =>
    (t.eng c).still = { s.eng c with acts := (s.eng c).acts ++ [Act.clearFail], loop := some { addr := s.pc c, len := bits w 46 39, tmo := bits w 31 0, iter := 1, word := 0 } }.still ∧
    ((s.eng c).ret = none → ∀ m ∈ s.mem c, t.getF (chB m) CHN_SEQ_PC.PC = s.pc c + 1) ∧ Frame { regs := s.wordRegs c, engs := fun m => m = c } s t) ∧
  (s.Issues c swWAIT w → Completes (.wait c) s fun t => Holds c (.wait (bits w 57 56)) (bits w 55 52) (bits w 51 47) (bits w 31 0) s t ∧
    t.pc c = s.pc c ∧ Frame { regs := s.wordRegs c, engs := fun m => m = c } s t) ∧
  (∀ g, s.Issues c swBAR w → g = s.getF (chB c) CHN_SEQ_GRP.GROUP →
    (s.inBarrier (c.val / 128) (bits w 57 54) g = true → Completes (.bar c) s fun t =>
      Holds c (.barrier (bits w 57 54)) (bits w 53 50) (bits w 49 45) (bits w 31 0) s t ∧
      (t.getF (tileBase (c.val / 128)) TIL_SEQ_BAR_ARR.GROUPS).testBit g = true ∧ t.pc c = s.pc c ∧
      Frame { regs := fun a => s.wordRegs c a ∨ a = tileBase (c.val / 128) + TIL_SEQ_BAR_ARR.GROUPS.off, engs := fun m => m = c } s t) ∧
    (s.inBarrier (c.val / 128) (bits w 57 54) g = false → Completes (.bar c) s fun t => Advanced c id s t ∧
      Frame { regs := s.wordRegs c, engs := fun m => m ∈ s.mem c } s t)) ∧
  (s.Issues c swSTALL w → ((s.eng c).ret = none ∨ ∀ m ∈ s.mem c, bits w 28 16 ≤ s.fill m - 1) → Completes (.stall c) s fun t => Advanced c id s t ∧
    Frame { regs := s.wordRegs c, engs := fun m => m ∈ s.mem c } s t) ∧
  (s.Issues c swSTALL w → (s.eng c).ret ≠ none → (∃ m ∈ s.mem c, s.fill m - 1 < bits w 28 16) → s.getF (4 * 0x0B) FLT_CLASS.LEVEL = 0 →
    (s.inst (instKey 0x0B scCHANNEL c)).force = false → Completes (.stall c) s fun t =>
      Holds c (.stall (max (bits w 28 16) (bits w 12 0))) (s.eng c).idle (s.eng c).its 0 s t ∧ t.isSet (chB c) CHN_SEQ_STATUS.LATE = true ∧
      (t.inst (instKey 0x0B scCHANNEL c)).force = true ∧ (∀ m ∈ s.mem c, t.fill m = s.fill m - 1) ∧
      Frame { regs := fun a => s.wordRegs c a ∨ a = FLT_CLASS.DCNT.off + 4 * 0x0B ∨ a = FLT_BB_STATUS.LOST.off, engs := fun m => m ∈ s.mem c,
              parts := fun x => { x with insts := [], lastCls := [], bbStage := [] } } s t)

/-- R111 to R114, R116, R127: the ends of holds; a barrier releases every group that takes part, once all have arrived (the model's
reading: log entries 1, 55). -/
def Obligations.HoldEndRows : Prop :=
  (∀ (c : Fin 1024) (s : State) (h : Hold),
  (∀ w holds, (s.eng c).hold = some h → h.kind = .branch → (s.eng c).queue = [] → (s.eng c).ret = none → s.pc c < 0x1800 → w = s.memWord c c 0 →
    holds = s.condHolds c w (fun m => s.condOf m (bits w 52 47)) → Completes (.brSyncResolve c) s fun t =>
      (holds = true → Went c (bits w 12 0) (fun e => { e with resume := s.linNow + 1600 }) s t) ∧ (holds = false → Advanced c (fun e => { e with resume := s.linNow + 1600 }) s t) ∧
      ((s.eng c).loop = none → ∀ m ∈ s.mem c, t.engState m = 1) ∧
      (bitB w 54 = true → ∀ m ∈ s.scoped c (bits w 57 56), t.isSet (chB m) CHN_SEQ_STATUS.FAIL = false) ∧
      Frame { regs := s.wordRegs c, engs := fun m => m ∈ s.mem c } s t) ∧
  (∀ w holds l, (s.eng c).hold = some h → h.kind = .iteration → (s.eng c).queue = [] → (s.eng c).loop = some l →
    l.addr + 1 + l.len < 2 ^ 13 → w = s.seqWord c l.addr → holds = s.condHolds c w (fun m => s.condOf m (bits w 52 47) && !decide (Act.clearFail ∈ (s.eng c).acts ∧ bits w 52 47 = 0)) →
    Completes (.matchIterationEnd c) s fun t => (∀ m ∈ s.mem c, t.engState m = 1) ∧ (t.eng c).hold = none ∧
      Frame { regs := s.wordRegs c, engs := fun m => m = c } s t ∧
      (holds = true ∨ l.tmo ≠ 0 ∧ l.tmo ≤ l.iter → Went c (l.addr + 1 + l.len) (fun e => { e with acts := e.acts.erase Act.clearFail, loop := none, resume := s.linNow + 1600 }) s t) ∧
      (holds = false → l.tmo ≠ 0 → l.tmo ≤ l.iter → t.isSet (chB c) CHN_SEQ_STATUS.FAIL = true ∧ t.isSet (chB c) CHN_SEQ_STATUS.TMO = true) ∧
      (holds = false → (l.tmo = 0 ∨ l.iter < l.tmo) →
        Went c (l.addr + 1) (fun e => { e with acts := e.acts.erase Act.clearFail ++ [Act.clearFail], loop := some { l with iter := l.iter + 1, word := 0 }, resume := s.linNow + 1600 }) s t)) ∧
  (∀ k, (s.eng c).hold = some h → h.kind = .wait k → h.arrived = true → (s.eng c).ret = none → s.pc c < 0x1800 →
    Completes (.waitRelease c) s fun t => Advanced c (fun e => { e with resume := s.linNow + 1600 }) s t ∧ ((s.eng c).loop = none → ∀ m ∈ s.mem c, t.engState m = 1) ∧
      Frame { regs := s.wordRegs c, engs := fun m => m ∈ s.mem c } s t) ∧
  ((s.eng c).hold = some h → ((∃ k, h.kind = .wait k) ∨ ∃ b, h.kind = .barrier b) → h.tmo ≠ 0 → h.tmo ≤ h.periods → (s.eng c).ret = none →
    s.pc c < 0x1800 → Completes (.waitTimeout c) s fun t => Advanced c (fun e => { e with resume := s.linNow + 1600 }) s t ∧ ((s.eng c).loop = none → ∀ m ∈ s.mem c, t.engState m = 1) ∧
      t.isSet (chB c) CHN_SEQ_STATUS.FAIL = true ∧ t.isSet (chB c) CHN_SEQ_STATUS.TMO = true ∧
      (∀ b, h.kind = .barrier b → (t.getF (tileBase (c.val / 128)) TIL_SEQ_BAR_ARR.GROUPS).testBit (s.getF (chB c) CHN_SEQ_GRP.GROUP) = false) ∧
      Frame { regs := fun a => s.wordRegs c a ∨ (∃ b, h.kind = .barrier b) ∧ a = tileBase (c.val / 128) + TIL_SEQ_BAR_ARR.GROUPS.off,
              engs := fun m => m ∈ s.mem c } s t) ∧
  (∀ l, (s.eng c).hold = some h → h.kind = .measure l → (∀ m ∈ l, s.adcRoom m = true) → l.Nodup → (s.eng c).ret = none → s.pc c < 0x1800 →
    Completes (.measPlaceFree c) s fun t => Advanced c (fun e => { e with resume := s.linNow + 1600 }) s t ∧ ((s.eng c).loop = none → ∀ m ∈ s.mem c, t.engState m = 1) ∧
      (∀ m ∈ l, s.adcRests m → t.adc m = { s.adc m with reserved := (s.adc m).reserved + 1 }) ∧
      Frame { regs := s.wordRegs c, engs := fun m => m ∈ s.mem c, adcs := fun m => m ∈ l } s t) ∧
  (∀ l, (s.eng c).hold = some h → h.kind = .measure l → (∃ m ∈ l, s.adcRoom m = false) → l.Nodup → Completes (.measPlaceFree c) s fun t =>
      (∃ h', (t.eng c).hold = some h' ∧ h'.kind = .measure (l.filter fun m => !s.adcRoom m)) ∧
      (∀ m ∈ l, s.adcRests m → t.adc m = if s.adcRoom m then { s.adc m with reserved := (s.adc m).reserved + 1 } else s.adc m) ∧
      Frame { engs := fun m => m = c, adcs := fun m => m ∈ l } s t) ∧
  (∀ n, (s.eng c).hold = some h → h.kind = .stall n → (∀ m ∈ s.mem c, n ≤ s.fill m) → Completes (.stallResume c) s fun t =>
    (t.eng c).hold = none ∧ (∀ m ∈ s.mem c, t.engState m = 1) ∧
    ((s.inst (instKey 0x0B scCHANNEL c)).force = true → (t.inst (instKey 0x0B scCHANNEL c)).cond = false) ∧
    Frame { regs := s.wordRegs c, engs := fun m => m = c, parts := fun x => { x with insts := [] } } s t) ∧
  (∀ n, (s.eng c).hold = some h → h.kind = .stall n → (∃ m ∈ s.mem c, s.fill m < n) → Completes (.stallResume c) s (Frame {} s)) ∧
  (∀ w : Word, s.writeOk (chB c + CHN_SEQ_CTRL.GO.off) = true → (s.eng c).hold = some h → h.kind = .wait 2 →
    Completes (.seqGo c w) s fun t => (∃ h', (t.eng c).hold = some h' ∧ h'.kind = .wait 2 ∧ h'.arrived = true) ∧ Frame {} s t) ∧
  (∀ w : Word, (∀ h, (s.eng c).hold = some h → h.kind ≠ .wait 2) → Completes (.seqGo c w) s (Frame {} s))) ∧
  (∀ (t' : Fin 8) (bid : Fin 16) (s : State),
  ((∃ g < 32, s.inBarrier t' bid g = true) → (∀ g < 32, s.inBarrier t' bid g = true → (s.atBarrier t' bid g).isSome = true) →
    (∀ g < 32, ∀ c, s.inBarrier t' bid g = true → s.atBarrier t' bid g = some c → (s.eng c).ret = none ∧ (s.eng c).loop = none ∧ s.pc c < 0x1800) →
    Completes (.barrierRelease t' bid) s fun t =>
      (∀ g < 32, ∀ c, s.inBarrier t' bid g = true → s.atBarrier t' bid g = some c → (t.eng c).hold = none ∧
        (∀ m ∈ s.mem c, t.getF (chB m) CHN_SEQ_PC.PC = s.pc c + 1 ∧ t.engState m = 1) ∧
        (t.getF (tileBase t') TIL_SEQ_BAR_ARR.GROUPS).testBit g = false) ∧
      Frame { regs := fun a => a = tileBase t' + TIL_SEQ_BAR_ARR.GROUPS.off ∨ ∃ g < 32, ∃ c, s.atBarrier t' bid g = some c ∧ s.wordRegs c a,
              engs := fun m => ∃ g < 32, ∃ c, s.atBarrier t' bid g = some c ∧ m ∈ s.mem c } s t) ∧
  ((∀ g < 32, s.inBarrier t' bid g = false) ∨ (∃ g < 32, s.inBarrier t' bid g = true ∧ s.atBarrier t' bid g = none) → Completes (.barrierRelease t' bid) s (Frame {} s)))

/-- R98, R118, R123, R125, R129, R131, R243: the commands of the engines (the model's reading: log entries 1, 10, 16, 18, 36, 55). -/
def Obligations.EngineCommandRows : Prop := ∀ (cmd : CmdRef) (k : Cmd) (s : State) (c a n : Nat),
  (∀ data failed e, s.ready? cmd opSEQLOAD = some k → s.seqLoadCheck k.chans = some e → Completes (.seqLoad cmd data failed) s (Answered cmd e {} s)) ∧
  (∀ data, s.ready? cmd opSEQLOAD = some k → s.seqLoadCheck k.chans = none → k.chans.Nodup → a = k.pf 0x1C 12 0 → n = k.pf 0x20 12 0 →
    a + n ≤ 0x1800 → Completes (.seqLoad cmd data none) s fun t =>
      Answered cmd { status := scOK, result := n } { sram := fun x => ∃ m ∈ k.chans, seqBase m + 8 * a ≤ x ∧ x < seqBase m + 8 * (a + n) } s t ∧
      ∀ i < k.chans.length, ∀ j < n, t.seqWord (k.chans.getD i 0) (a + j) = ((data.getD (if k.p 0x24 = 0 then 0 else i) []).getD j 0).toNat) ∧
  (∀ l tmo, s.ready? cmd opSEQLOAD = some k → s.seqLoadCheck k.chans = none → k.p 0x24 = 0 → n = min l.length (k.pf 0x20 12 0) →
    Completes (.seqLoad cmd [l] (some tmo)) s fun t =>
      Answered cmd { status := scOK, partialDone := true, result := n }
        { regs := fun x => x = LNK_RDERR.FAIL.off, sram := fun x => ∃ m ∈ k.chans, seqBase m + 8 * k.pf 0x1C 12 0 ≤ x ∧ x < seqBase m + 8 * (k.pf 0x1C 12 0 + n) } s t ∧
      t.getF 0 LNK_RDERR.TMO = (if tmo then min (s.getF 0 LNK_RDERR.TMO + 1) 65535 else s.getF 0 LNK_RDERR.TMO)) ∧
  (∀ data tmo, s.ready? cmd opSEQLOAD = some k → s.seqLoadCheck k.chans = none → k.p 0x24 ≠ 0 → 1 < k.chans.length →
    Completes (.seqLoad cmd data (some tmo)) s fun t => ∃ r, Answered cmd { status := scOK, partialDone := true, result := r }
      { regs := fun x => x = LNK_RDERR.FAIL.off, sram := fun x => ∃ m ∈ k.chans, seqBase m + 8 * k.pf 0x1C 12 0 ≤ x ∧ x < seqBase m + 8 * (k.pf 0x1C 12 0 + k.pf 0x20 12 0),
        parts := fun x => { x with free := 0 } } s t) ∧
  (∀ e, s.ready? cmd opSEQRUN = some k → s.seqRunCheck (k.pf 0 9 0) (k.pf 8 1 0) = some e → Completes (.seqRun cmd) s (Answered cmd e {} s)) ∧
  (s.ready? cmd opSEQRUN = some k → c = k.pf 0 9 0 → a = k.pf 4 12 0 → s.seqRunCheck c (k.pf 8 1 0) = none → s.noRot (s.mem c) →
    Completes (.seqRun cmd) s fun t =>
      Begun cmd { regs := fun x => ∃ m ∈ s.mem c, x = chB m + CHN_SEQ_STATUS.STATE.off ∨ x = chB m + CHN_SEQ_PC.PC.off ∨
                    chB m + CHN_SEQ_LOOP.COUNT.off ≤ x ∧ x ≤ chB m + CHN_SEQ_PAD.COUNT.off, engs := fun m => m = c,
                  parts := fun x => { x with tdcs := [] } } s t ∧
      (∀ m ∈ s.mem c, t.engState m = 5 ∧ t.getF (chB m) CHN_SEQ_PC.PC = a ∧ t.getF (chB m) CHN_SEQ_PC.SNUM = 0 ∧ t.vcnt m = 0 ∧
        t.getF (chB m) CHN_SEQ_PAD.COUNT = 0 ∧ t.getF (chB m) CHN_SEQ_STATUS.PERR = 0 ∧ t.getF (chB m) CHN_SEQ_STATUS.STACK = 0 ∧
        ∀ i < 4, t.getF (chB m + 4 * i) CHN_SEQ_LOOP.COUNT = 0) ∧
      (t.eng c).run = some cmd ∧ (t.eng c).queue = [] ∧ (t.eng c).stack = [] ∧ (t.eng c).fresh = true ∧ (t.eng c).hold = none ∧
      (t.eng c).stat = (s.eng c).stat ∧ (t.eng c).strm = (s.eng c).strm ∧ (t.eng c).inSeg = decide (swOp (s.seqWord c a) ≠ swSEG)) ∧
  (s.ready? cmd opSTREAM = some k → c = k.pf 0 9 0 → s.leaderOf c ≠ c → Completes (.seqStream cmd) s (Answered cmd { status := scSTATE, detail := 3 } {} s)) ∧
  (s.ready? cmd opSTREAM = some k → c = k.pf 0 9 0 → s.leaderOf c = c → (∃ m ∈ s.mem c, s.ringOk m = false) →
    Completes (.seqStream cmd) s (Answered cmd { status := scINVALID, detail := 0xFF } {} s)) ∧
  (s.ready? cmd opSTREAM = some k → c = k.pf 0 9 0 → s.leaderOf c = c → (∀ m ∈ s.mem c, s.ringOk m = true) → n = k.p 0x10 / 8 →
    (n = 0 → Completes (.seqStream cmd) s (Answered cmd { status := scOK } {} s)) ∧
    (n ≠ 0 → Completes (.seqStream cmd) s fun t => Begun cmd { engs := fun m => m ∈ s.mem c } s t ∧
      ∀ i < (s.mem c).length, ∀ m, (s.mem c)[i]? = some m →
        (t.eng m).still = { s.eng m with strm := (s.eng m).strm ++ [(⟨cmd, k.p64 8 + i * k.p 0x14, n, n⟩ : Strm)] }.still)) ∧
  (s.ready? cmd opSEQSTOP = some k → c = k.pf 0 9 0 →
    (s.patRunning c = true → s.stopForeign c = true → Completes (.seqStop cmd) s (Answered cmd { status := scSTATE, detail := 3 } {} s)) ∧
    (s.patRunning c = false → Completes (.seqStop cmd) s (Answered cmd { status := scOK } {} s)) ∧
    (s.patRunning c = true → s.stopForeign c = false → Completes (.seqStop cmd) s fun t => Begun cmd { engs := fun m => m = c } s t ∧
      (t.eng c).stops = (s.eng c).stops ++ [cmd] ∧ (bitB (k.p 4) 0 = false → (t.eng c).bstop = true ∧ (t.eng c).stop = (s.eng c).stop) ∧
      (bitB (k.p 4) 0 = true → (t.eng c).bstop = (s.eng c).bstop ∧
        (t.eng c).stop = some ((s.eng c).stop.getD { status := scABORTHOST, detail := 2 })))) ∧
  (∀ e, s.ready? cmd opBIND = some k → s.bindCheck k = some e → Completes (.groupBind cmd) s (Answered cmd e {} s)) ∧
  (∀ g l t', s.ready? cmd opBIND = some k → s.bindCheck k = none → g = k.pf 0 12 8 → l = k.bindChans → t' = k.pf 0 2 0 → Completes (.groupBind cmd) s fun t =>
    Answered cmd { status := scOK, result := l.length } { regs := fun x => ∃ m, (m ∈ l ∨ m ∈ s.members t' g) ∧ x = chB m + CHN_SEQ_GRP.BOUND.off } s t ∧
    t.members t' g = l ∧
    (∀ m ∈ l, t.getF (chB m) CHN_SEQ_GRP.LEADCH = l.headD 0 % 128 ∧ t.isSet (chB m) CHN_SEQ_GRP.LEADER = decide (m = l.headD 0) ∧ t.leaderOf m = l.headD 0) ∧
    ∀ m ∈ s.members t' g, m ∉ l → t.rd (chB m + CHN_SEQ_GRP.BOUND.off) = 0) ∧
  (∀ e, s.ready? cmd opJUMP = some k → s.seqJumpCheck k (k.pf 0 9 0) (k.pf 4 12 0) = some e → Completes (.seqJump cmd) s (Answered cmd e {} s)) ∧
  (s.ready? cmd opJUMP = some k → c = k.pf 0 9 0 → s.seqJumpCheck k c (k.pf 4 12 0) = none → Completes (.seqJump cmd) s fun t =>
    Begun cmd { engs := fun m => m = c } s t ∧ (t.eng c).still = { s.eng c with jreq := some cmd }.still)

/-- R92, R99, R100, R106, R123, R125, R128 to R131: vector periods, the end of a run, boundaries, refill, underrun (the model's reading:
log entries 1, 55). -/
def Obligations.RunEventRows : Prop := ∀ (c : Fin 1024) (s : State) (seen : List (List (Bool × Bool))) (r : CmdRef) (k : Cmd) (ms : List Nat),
  ms = s.mem c →
  (∀ p, s.engState c = 5 → (s.eng c).run = some r → (s.eng c).ctx = none → ((s.eng c).start ≠ 2 ∨ (s.eng c).fired = true) → (s.eng c).queue = [] →
    (s.eng c).fin = none → (s.eng c).pad = none → s.firstWaits c = true →
    p = (if (s.eng c).start = 1 then 200 * (s.getF (tileBase (c.val / 128)) TIL_SEQSTART_LO.START + 2 ^ 32 * s.getF (tileBase (c.val / 128)) TIL_SEQSTART_HI.START)
      else s.linNow) → Completes (.seqRunStart c seen) s fun t =>
        (t.eng c).still = { s.eng c with next := p }.still ∧ (∀ m ∈ ms, t.engState m = 1) ∧
        Frame { regs := fun a => ∃ m ∈ ms, a = chB m + CHN_SEQ_STATUS.STATE.off, engs := fun m => m = c } s t) ∧
  (∀ p v vs, s.engState c = 5 → (s.eng c).run = some r → (s.eng c).ctx = none → ((s.eng c).start ≠ 2 ∨ (s.eng c).fired = true) →
    (s.eng c).queue = v :: vs → (s.eng c).pad = none → v.acts = [] → (v.pins.map Pin.chan).Nodup → (∀ x ∈ v.pins, x.chan < 1024) →
    p = (if (s.eng c).start = 1 then 200 * (s.getF (tileBase (c.val / 128)) TIL_SEQSTART_LO.START + 2 ^ 32 * s.getF (tileBase (c.val / 128)) TIL_SEQSTART_HI.START)
      else s.linNow) → Completes (.seqRunStart c seen) s fun t => (t.eng c).queue = vs ∧ (t.eng c).fresh = false ∧ (∀ m ∈ ms, t.engState m = 1) ∧
        (t.eng c).next = p + (v.pins.head?.map fun x => x.ts.per).getD 0 ∧ ∀ x ∈ v.pins, t.vcnt x.chan = (s.vcnt x.chan + 1) % 2 ^ 48) ∧
  ((s.engState c ≠ 5 ∨ (s.eng c).start = 2 ∧ (s.eng c).fired = false) → Completes (.seqRunStart c seen) s (Frame {} s)) ∧
  (∀ v vs, 1 ≤ s.engState c → s.engState c ≤ 4 → (s.eng c).run = some r → (s.eng c).ctx = none → (s.eng c).queue = v :: vs → v.acts = [] →
    ((s.eng c).pad = none ∨ v.notBefore ≤ (s.eng c).next) →
    (v.pins.map Pin.chan).Nodup → (∀ x ∈ v.pins, x.chan < 1024) → Completes (.vectorPeriod c seen) s fun t =>
      (t.eng c).queue = vs ∧ (t.eng c).fresh = false ∧ (t.eng c).next = (s.eng c).next + (v.pins.head?.map fun x => x.ts.per).getD 0 ∧
      (t.eng c).hold.isSome = (s.eng c).hold.isSome ∧
      (∀ i x, v.pins[i]? = some x → t.vcnt x.chan = (s.vcnt x.chan + 1) % 2 ^ 48 ∧
        t.isSet (chB x.chan) CHN_SEQ_STATUS.FAIL = (s.isSet (chB x.chan) CHN_SEQ_STATUS.FAIL || s.pinFails x (seen.getD i []))) ∧
      Frame { regs := fun a => ∃ x ∈ v.pins, a = chB x.chan + CHN_SEQ_STATUS.FAIL.off ∨ a = chB x.chan + CHN_SEQ_VCNT_LO.COUNT.off ∨
                a = chB x.chan + CHN_SEQ_VCNT_HI.COUNT.off ∨ a = feB x.chan + CHN_TIM_STATUS.MERGE.off ∨ a = feB x.chan + CHN_TIM_DSK.TDC.off ∨ a = feB x.chan + CHN_CMP_FAILCNT.COUNT.off,
              engs := fun m => m = c ∨ ∃ x ∈ v.pins, m = x.chan, parts := fun x => { x with cmps := [], tdcs := [] } } s t) ∧
  (∀ code ts, 1 ≤ s.engState c → s.engState c ≤ 4 → (s.eng c).run = some r → (s.eng c).ctx = none → (s.eng c).pad = some (code, ts) →
    ((s.eng c).queue = [] ∧ (s.eng c).fin = none ∧ s.missing c = false ∧ ((s.eng c).hold ≠ none ∨ (s.eng c).next < (s.eng c).resume) ∨
      ∃ v vs, (s.eng c).queue = v :: vs ∧ (s.eng c).next < v.notBefore) → Completes (.vectorPeriod c seen) s fun t =>
      (t.eng c).next = (s.eng c).next + (s.tsVals c ts).per ∧ (t.eng c).queue = (s.eng c).queue ∧ (∀ h, (s.eng c).hold = some h → ∃ h', (t.eng c).hold = some h' ∧ h'.kind = h.kind ∧ h'.periods = h.periods + 1) ∧
      (∀ m ∈ ms, t.getF (chB m) CHN_SEQ_PAD.COUNT = min (s.getF (chB m) CHN_SEQ_PAD.COUNT + 1) (2 ^ 32 - 1) ∧ t.vcnt m = s.vcnt m ∧
        t.isSet (chB m) CHN_SEQ_STATUS.FAIL = s.isSet (chB m) CHN_SEQ_STATUS.FAIL) ∧
      (s.engState c = 3 → ∀ m ∈ ms, t.getF (chB m) CHN_STRM_STALLCNT.COUNT = min (s.getF (chB m) CHN_STRM_STALLCNT.COUNT + 1) (2 ^ 32 - 1)) ∧
      Frame { regs := fun a => ∃ m ∈ ms, a = chB m + CHN_SEQ_PAD.COUNT.off ∨ a = chB m + CHN_STRM_STALLCNT.COUNT.off ∨ a = feB m + CHN_TIM_STATUS.MERGE.off ∨
                a = feB m + CHN_TIM_DSK.TDC.off,
              engs := fun m => m ∈ ms, parts := fun x => { x with cmps := [], tdcs := [] } } s t) ∧
  (∀ (f : RunEnd) (e : Ending), (f = .boundary ∧ e = { status := scABORTHOST, detail := 2, result := s.vcnt c } ∨
      (∃ code, f = .halt code ∧ e = { status := scOK, result := s.vcnt c + code * 2 ^ 48 }) ∨ ∃ x, f = .safe x ∧ e = { x with result := s.vcnt c }) →
    1 ≤ s.engState c → s.engState c ≤ 4 → (s.eng c).run = some r → s.cmd? r = some k → (s.eng c).ctx = none → (s.eng c).queue = [] →
    (s.eng c).fin = some f → (s.eng c).acts = [] → (s.eng c).jump = none → Completes (.vectorPeriod c seen) s fun t =>
      (∃ x ∈ t.cmds, x.isRef r = true ∧ x.ending = some e) ∧ (∀ m ∈ ms, (t.eng m).run = none ∧ (t.eng m).queue = [] ∧ (t.eng m).hold = none ∧
        t.engState m = (if s.engState m = 4 then 4 else 0) ∧ t.isSet (chB m) CHN_SEQ_JREQ.PEND = false ∧ ∀ x, f = .safe x → (t.eng m).stat = .z) ∧
      Frame { regs := fun a => (∃ m ∈ ms, a = chB m + CHN_SEQ_STATUS.STATE.off ∨ a = chB m + CHN_SEQ_JREQ.PEND.off ∨
                a = feB m + CHN_TIM_STATUS.MERGE.off ∨ a = feB m + CHN_TIM_DSK.TDC.off) ∨ a = tileBase (c.val / 128) + TIL_SEQ_BAR_ARR.GROUPS.off,
              engs := fun m => m ∈ ms, adcs := fun m => m ∈ ms, parts := fun x => { x with insts := [], mics := [], tdcs := [] } } s t) ∧
  (∀ m p, 1 ≤ s.engState c → s.engState c ≤ 4 → (s.eng c).run = some r → s.cmd? r = some k → (s.eng c).ctx = none → (s.eng c).queue = [] →
    (s.eng c).fin = some (.error m p) → (s.eng c).jump = none → m < 1024 → p < 16 → s.getF (4 * 0x13) FLT_CLASS.LEVEL = 0 →
    (s.inst (instKey 0x13 scCHANNEL m)).force = false → Completes (.vectorPeriod c seen) s fun t =>
      (∃ x ∈ t.cmds, x.isRef r = true ∧ x.ending = some { status := scABORTFAULT, detail := 0x13, result := s.vcnt c }) ∧
      t.getF (chB m) CHN_SEQ_STATUS.PERR = p ∧ (t.inst (instKey 0x13 scCHANNEL m)).force = true ∧ (t.inst (instKey 0x13 scCHANNEL m)).detail = p ∧
      ∀ m ∈ ms, (t.eng m).run = none ∧ (t.eng m).stat = .z ∧ t.engState m = if s.engState m = 4 then 4 else 0) ∧
  (∀ i cause, i = Instr.vectorPeriod c seen ∨ i = Instr.underrun c → s.engState c = 1 → (s.eng c).run = some r → s.cmd? r = some k → (s.eng c).ctx = none →
    (s.eng c).queue = [] → s.missing c = true → (s.eng c).jump = none →
    s.getF (4 * 0x0A) FLT_CLASS.LEVEL = 0 → (∀ m ∈ ms, (s.inst (instKey 0x0A scCHANNEL m)).force = false) →
    cause = (if (s.eng c).ret ≠ none ∧ s.short c 1 ≠ [] then 0 else 1) → Completes i s fun t =>
      (∃ x ∈ t.cmds, x.isRef r = true ∧ x.ending = some { status := scABORTUNDERRUN, detail := cause, result := s.vcnt c }) ∧
      (∀ m ∈ ms, t.isSet (chB m) CHN_SEQ_STATUS.UR = true ∧ t.getF (chB m) CHN_SEQ_STATUS.UR_CAUSE = cause ∧ (t.eng m).run = none ∧ (t.eng m).stat = .z) ∧
      ∀ m ∈ ms, (cause = 0 ∧ s.fill m < 1 ∨ cause = 1 ∧ m = c) → (t.inst (instKey 0x0A scCHANNEL m)).force = true ∧ (t.inst (instKey 0x0A scCHANNEL m)).detail = cause) ∧
  (s.missing c = false → Completes (.underrun c) s (Frame {} s)) ∧
  (∀ j, (s.eng c).jump = some j → j.left = 0 → s.cmd? j.cmd = some k → j.target < 2 ^ 13 → j.snum < 2 ^ 12 → Completes (.seqJumpApply c) s fun t =>
    Answered j.cmd { status := scOK, result := j.count + j.snum * 2 ^ 48 }
      { regs := fun a => a = chB c + CHN_SEQ_JBND.SNUM.off ∨ a = chB c + CHN_SEQ_JREQ.PEND.off, engs := fun m => m = c } s t ∧
    t.getF (chB c) CHN_SEQ_JBND.SNUM = j.snum ∧ t.getF (chB c) CHN_SEQ_JBND.TARGET = j.target ∧ t.isSet (chB c) CHN_SEQ_JREQ.PEND = false ∧
    (t.eng c).still = { s.eng c with jump := none }.still) ∧
  (∀ j, (s.eng c).jump = some j → j.left ≠ 0 → Completes (.seqJumpApply c) s (Frame {} s)) ∧
  ((s.eng c).fin = some .boundary → (s.eng c).queue = [] → (s.eng c).run = some r → s.cmd? r = some k → (s.eng c).acts = [] → (s.eng c).jump = none →
    Completes (.seqStopApply c) s fun t =>
      (∃ x ∈ t.cmds, x.isRef r = true ∧ x.ending = some { status := scABORTHOST, detail := 2, result := s.vcnt c }) ∧
      ∀ m ∈ ms, (t.eng m).run = none ∧ t.engState m = if s.engState m = 4 then 4 else 0) ∧
  (∀ (data : List (BitVec 64)) (x : Strm) (xs : List Strm), s.served = some c.val → (s.eng c).strm = x :: xs → 0 < x.left → s.ringOk c = true →
    s.fill c < 2 ^ 12 → Completes (.streamRefill data none) s fun t => t.fill c = s.fill c + 32 ∧
      (∀ i < 32, t.seqWord c (s.strmAddr c (s.fill c + i)) = (data.getD i 0).toNat) ∧
      (t.eng c).still = { s.eng c with strm := { x with addr := x.addr + 256, left := x.left - 32 } :: xs }.still ∧
      Frame { regs := fun a => a = chB c + CHN_STRM_FILL.WORDS.off, engs := fun m => m = c,
              sram := fun a => ∃ i < 32, seqBase c + 8 * s.strmAddr c (s.fill c + i) ≤ a ∧ a < seqBase c + 8 * s.strmAddr c (s.fill c + i) + 8 } s t) ∧
  (∀ (data : List (BitVec 64)) (tmo : Bool), s.served = some c.val → Completes (.streamRefill data (some tmo)) s fun t =>
    (t.eng c).still = { s.eng c with strm := (s.eng c).strm.map (fun (x : Strm) => { x with left := 0 }) }.still ∧
    Frame { regs := fun a => a = LNK_RDERR.FAIL.off, engs := fun m => m = c } s t) ∧
  (∀ (data : List (BitVec 64)) (failed : Option Bool), s.served = none → Completes (.streamRefill data failed) s (Frame {} s))

/-- R325 to R333: microwords, micro-traps, machine checks, reloads (the model's reading: log entries 1, 8, 17, 19, 55). -/
def Obligations.MicrocodeRows : Prop := ∀ (e : Fin 1024) (s : State) (m : Mic), m = s.mic e →
  (∀ (cost : Fin 8) (cond : Bool) (flips : BitVec 136) (out : MicroOut) (w nac na n : Nat) (st : List Nat) (holds : Bool), s.clocked = true → s.microRuns = true →
    s.engState e ≠ 4 → s.trapDue e = false → w = (microRead (tabGet (fun _ => 0) s.cs m.upc) flips).1 → (microRead (tabGet (fun _ => 0) s.cs m.upc) flips).2 = false → nac = bits w 127 124 → na = bits w 116 107 → holds = (cond != bitB w 117) →
    (nac = 0 ∧ n = (m.upc + 1) % 1024 ∧ st = m.stack ∨ nac = 1 ∧ n = na ∧ st = m.stack ∨ nac = 2 ∧ n = (if holds then na else (m.upc + 1) % 1024) ∧ st = m.stack ∨
      (nac = 3 ∨ nac = 4 ∧ holds = true) ∧ m.stack.length < 8 ∧ n = na ∧ st = ((m.upc + 1) % 1024) :: m.stack ∨
      nac = 4 ∧ holds = false ∧ n = (m.upc + 1) % 1024 ∧ st = m.stack ∨ nac = 5 ∧ m.stack = n :: st ∨
      nac = 6 ∧ n = (na + swOp (s.memWord (s.leaderOf e) e 0)) % 1024 ∧ st = m.stack ∨
      nac = 8 ∧ n = (if holds then (m.upc + 1) % 1024 else m.upc) ∧ st = m.stack ∨ nac = 9 ∧ n = (m.upc + 1) % 1024 ∧ st = m.stack) →
    Completes (.microword e cost cond flips out) s fun t => (t.mic e).upc = n ∧ (t.mic e).stack = st ∧
      (t.mic e).flags = out.flags.toNat + (if holds then 16 else 0) ∧ (t.mic e).scr = [out.s0.toNat, out.s1.toNat, out.s2.toNat, out.s3.toNat] ∧
      (t.mic e).window = (if bitB w 106 then m.window + cost + 1 else 0) ∧ (t.mic e).handler = m.handler ∧ (t.mic e).frame = m.frame ∧
      (∀ c ≠ e.val, t.mic c = s.mic c) ∧ Frame { parts := fun x => { x with mics := [] } } s t) ∧
  (∀ (cost : Fin 8) (cond : Bool) (flips : BitVec 136) (out : MicroOut) (w : Nat), s.clocked = true → s.microRuns = true → s.engState e ≠ 4 →
    w = (microRead (tabGet (fun _ => 0) s.cs m.upc) flips).1 → (microRead (tabGet (fun _ => 0) s.cs m.upc) flips).2 = false → bits w 127 124 = 7 → m.handler = true → Completes (.microword e cost cond flips out) s fun t =>
      t.mic e = m.restore ∧ (t.mic e).handler = false ∧ (t.mic e).upc = bits (m.frame.getD 0 0) 9 0 ∧ (t.mic e).scr = (m.frame.drop 4).take 4 ∧
      Frame { parts := fun x => { x with mics := [] } } s t) ∧
  (∀ (i : Instr) (u cs : Nat), s.clocked = true → s.microRuns = true → s.engState e ≠ 4 → s.phys e = e → s.noRot [e.val] →
    (s.inst (instKey 0x08 scCHANNEL e)).force = false → s.getF (4 * 0x08) FLT_CLASS.LEVEL ≤ 1 → u < 1024 → m.stack.length ≤ 8 → m.flags < 32 → m.scr.length = 4 →
    ((∃ (a : Fin 1024) (flips : BitVec 136), i = .csParitySweep e a flips ∧ (microRead (tabGet (fun _ => 0) s.cs a) flips).2 = true ∧ u = a ∧ cs = 2) ∨
      ∃ cost cond flips out, i = Instr.microword e cost cond flips out ∧ s.trapDue e = false ∧ u = m.upc ∧
        ((microRead (tabGet (fun _ => 0) s.cs u) flips).2 = true ∧ cs = 1 ∨ (microRead (tabGet (fun _ => 0) s.cs u) flips).2 = false ∧
          ∃ nac, nac = bits (microRead (tabGet (fun _ => 0) s.cs u) flips).1 127 124 ∧
        (nac = 3 ∧ 8 ≤ m.stack.length ∧ cs = 4 ∨ nac = 5 ∧ m.stack = [] ∧ cs = 4 ∨ nac = 7 ∧ m.handler = false ∧ cs = 5 ∨ 10 ≤ nac ∧ cs = 3))) →
    Completes i s fun t => t.engState e = 4 ∧ t.isSet 0 MC_STATUS.RELOAD = true ∧
      (s.isSet 0 MC_STATUS.RELOAD = true → t.getF 0 MC_STATUS.QUEUE = min (s.getF 0 MC_STATUS.QUEUE + 1) 127) ∧
      (t.mic e).frame.length = 8 ∧ bitB ((t.mic e).frame.getD 0 0) 22 = true ∧ bits ((t.mic e).frame.getD 0 0) 9 0 = u ∧
      (t.inst (instKey 0x08 scCHANNEL e)).force = true ∧ (t.inst (instKey 0x08 scCHANNEL e)).detail = u * 2 ^ 16 + cs) ∧
  (∀ (a : Fin 1024) (flips : BitVec 136), (microRead (tabGet (fun _ => 0) s.cs a) flips).2 = false → Completes (.csParitySweep e a flips) s (Frame {} s)) ∧
  (∀ (whole : Bool) (k : Nat) (ks : List Nat), s.microRuns = true → s.engState e ≠ 4 → m.handler = false → (m.window = 0 ∨ 64 ≤ m.window) →
    bitsSet 8 (s.pend e) = k :: ks → (4 ≤ k ∨ k = 3 ∧ (s.eng (s.leaderOf e)).jreq = none ∨ k ≤ 2 ∧ (s.eng (s.leaderOf e)).stop = none) →
    Completes (.microTrap e whole) s fun t =>
      (t.mic e).frame = m.take m.upc (s.pend e) (decide (64 ≤ m.window)) false ∧ (t.mic e).window = 0 ∧
      (whole = true → (t.mic e).upc = m.upc ∧ (t.mic e).stack = m.stack ∧ (t.mic e).handler = false) ∧
      (whole = false → (t.mic e).upc = 0x3F0 + k ∧ (t.mic e).stack = [] ∧ (t.mic e).handler = true) ∧
      Frame { parts := fun x => { x with mics := [] } } s t) ∧
  (∀ (whole : Bool) (ks : List Nat) (l : Nat) (r : CmdRef) (c : Cmd), s.microRuns = true → s.engState e ≠ 4 → m.handler = false → m.window = 0 →
    bitsSet 8 (s.pend e) = 3 :: ks → l = s.leaderOf e → (s.eng l).jreq = some r → s.cmd? r = some c → Completes (.microTrap e whole) s fun t =>
      t.getF (chB l) CHN_SEQ_JREQ.TARGET = c.pf 4 12 0 ∧ t.getF (chB l) CHN_SEQ_JREQ.KEEP = c.pf 4 16 16 ∧ t.isSet (chB l) CHN_SEQ_JREQ.PEND = true ∧
      Frame { regs := fun a => a = chB l + CHN_SEQ_JREQ.PEND.off, parts := fun x => { x with mics := [] } } s t) ∧
  (∀ (whole : Bool) (k : Nat) (ks : List Nat) (l : Nat) (r : CmdRef) (x : Ending), s.microRuns = true → s.engState e ≠ 4 → m.handler = false → m.window = 0 →
    bitsSet 8 (s.pend e) = k :: ks → k ≤ 2 → l = s.leaderOf e → (s.eng l).run = some r → (s.eng l).stop = some x → (s.eng l).ctx = none → (s.eng l).fresh = false →
    Completes (.microTrap e whole) s fun t => (t.eng l).queue = [] ∧ (t.eng l).acts = [] ∧ (t.eng l).pad = none ∧ (t.eng l).fin = some (.safe x) ∧
      (t.eng l).hold = none ∧ Frame { engs := fun c => c = l, parts := fun x => { x with mics := [] } } s t) ∧
  (∀ whole : Bool, s.pend e % 256 = 0 → Completes (.microTrap e whole) s (Frame {} s)) ∧
  (∀ cost cond flips out, s.trapDue e = true → Completes (.microword e cost cond flips out) s (Frame {} s))

/-- R332, R333, R338, R339: reload, installation of a patch, the frame window (the model's reading: log entries 1, 53, 55). -/
def Obligations.MicroStoreRows : Prop := ∀ (s : State) (w : Word),
  (∀ alt copyBad failed late, s.isSet 0 MC_STATUS.RELOAD = false → Completes (.mcReloadDone alt copyBad failed late) s (Frame {} s)) ∧
  (∀ alt failed late, s.isSet 0 MC_STATUS.RELOAD = true → (s.inst (instKey 0x12 scMODULE 0)).force = false → s.getF (4 * 0x12) FLT_CLASS.LEVEL = 0 →
    Completes (.mcReloadDone alt true failed late) s fun t => t.isSet 0 MC_STATUS.RELOAD = false ∧ t.getF 0 MC_STATUS.QUEUE = 0 ∧
      (t.inst (instKey 0x12 scMODULE 0)).force = true ∧ (t.inst (instKey 0x12 scMODULE 0)).detail = 0x10 ∧
      (∀ c < 1024, t.engState c = s.engState c)) ∧
  (∀ alt, s.isSet 0 MC_STATUS.RELOAD = true → s.Wf → Completes (.mcReloadDone alt false [] []) s fun t => t.isSet 0 MC_STATUS.RELOAD = false ∧
    t.getF 0 MC_STATUS.QUEUE = 0 ∧ t.getF 0 MC_RELOADS.COUNT = min (s.getF 0 MC_RELOADS.COUNT + 1) (2 ^ 32 - 1) ∧
    (∀ c < 1024, t.engState c = if s.engState c = 4 then 0 else s.engState c) ∧
    (∀ c < 1024, s.engState c = 4 → (t.mic c).upc = 0x3F8 ∧ (t.mic c).stack = [] ∧ (t.mic c).frame = (s.mic c).frame) ∧
    (alt = true → t.isSet 0 MC_STATUS.ALTSRC = true) ∧
    Frame { regs := fun a => a = MC_STATUS.RELOAD.off ∨ a = MC_RELOADS.COUNT.off ∨ ∃ c < 1024, s.engState c = 4 ∧ a = chB c + CHN_SEQ_STATUS.STATE.off,
            parts := fun x => { x with mics := [], insts := [] } } s t) ∧
  (s.writeOk MC_INSTALL.START.off = true → s.mode = stSERVICE → s.svcExit = false → s.isSet 0 MC_INSTALL.BUSY = false → Completes (.mcInstallStart w) s fun t =>
    t.isSet 0 MC_INSTALL.BUSY = true ∧ t.getF 0 MC_INSTALL.OFFSET = MC_INSTALL.OFFSET.get w ∧ t.getF 0 MC_INSTALL.COMMIT_SVN = MC_INSTALL.COMMIT_SVN.get w ∧
    t.getF 0 MC_INSTALL.RESULT = 0 ∧ Frame { regs := fun a => a = MC_INSTALL.START.off } s t) ∧
  (s.writeOk MC_INSTALL.START.off = true → (s.mode ≠ stSERVICE ∨ s.svcExit = true ∨ s.isSet 0 MC_INSTALL.BUSY = true) → Completes (.mcInstallStart w) s fun t =>
    t.isSet 0 MC_STATUS.INSTIGN = true ∧ Frame { regs := fun a => a = MC_STATUS.INSTIGN.off } s t) ∧
  (∀ auth wrote, s.isSet 0 MC_INSTALL.BUSY = false → Completes (.mcInstallDone auth wrote) s (Frame {} s)) ∧
  (∀ auth wrote a len f, s.isSet 0 MC_INSTALL.BUSY = true → a = supBase + 16 * s.getF 0 MC_INSTALL.OFFSET → len = s.getF 0 MC_INSTALL_LEN.BYTES →
    f = s.contCheck (fun o n => s.sramN (a + o) n) 2 len (s.getF 0 MC_VERSION.BASE) auth →
    (f ≠ 0 → Completes (.mcInstallDone auth wrote) s fun t => t.isSet 0 MC_INSTALL.BUSY = false ∧ t.getF 0 MC_INSTALL.RESULT = f + 1 ∧
      Frame { regs := fun a => a = MC_INSTALL.START.off } s t) ∧
    (f = 0 → wrote = false → Completes (.mcInstallDone auth wrote) s fun t => t.isSet 0 MC_INSTALL.BUSY = false ∧ t.getF 0 MC_INSTALL.RESULT = 9 ∧
      Frame { regs := fun a => a = MC_INSTALL.START.off } s t) ∧
    (f = 0 → wrote = true → Completes (.mcInstallDone auth wrote) s fun t => t.isSet 0 MC_INSTALL.BUSY = false ∧ t.getF 0 MC_INSTALL.RESULT = 1 ∧
      (∃ b, (b = 0x800000 ∨ b = 0xA00000) ∧ (∀ i < len, t.flashByte (b + i) = s.sramByte (a + i)) ∧
        (∀ x, 0x2000 ≤ x → (x < b ∨ b + 0x200000 ≤ x) → t.flashByte x = s.flashByte x)) ∧
      (s.isSet 0 MC_INSTALL.COMMIT_SVN = false → t.svnRaised = s.svnRaised) ∧ s.svnRaised ≤ t.svnRaised ∧
      Frame { regs := fun a => a = MC_INSTALL.START.off, flash := fun _ => True, parts := fun x => { x with svnRaised := 0 } } s t)) ∧
  (∀ e, s.writeOk MC_FSEL.ENGINE.off = true → e = MC_FSEL.ENGINE.get w → Completes (.mcFselWrite w) s fun t => t.getF 0 MC_FSEL.ENGINE = e ∧
    (∀ k < 8, t.getF (4 * k) MC_FRAME.WORD = (s.mic e).frame.getD k 0 % 2 ^ 32) ∧
    Frame { regs := fun a => a = MC_FSEL.ENGINE.off ∨ ∃ k < 8, a = MC_FRAME.WORD.off + 4 * k } s t)

/-- R138, R139, R141, R143 to R147: stamps, the stamp buffer, delay lines, acquisitions (the model's reading: log entries 1, 55). -/
def Obligations.StampRows : Prop := ∀ s : State,
  (∀ (u : Fin 1056) (src : Fin 3) (rising : Bool) (q : Fin 200) (dead : Bool) (d : Tdc) (e : Nat), d = s.tdc u → e = edgeCode src rising →
    (s.clocked = false ∨ s.stampTakes u e q = false → Completes (.tdcStamp u src rising q dead) s (Frame {} s)) ∧
    (s.clocked = true → s.stampTakes u e q = true → dead = false → s.getF (feB u) CHN_TDC_CFG.DEST ≠ 3 → d.fifo.length < 16 →
      Completes (.tdcStamp u src rising q dead) s fun t =>
      t.tdc u = { d with fifo := d.fifo ++ [⟨s.stampValue u e q, s.gen, d.lostPend, !s.isSet (feB (if u.val < 1024 then s.phys u else u)) CHN_TIM_STATUS.TLOCK, e, s.getF (feB u) CHN_TDC_CFG.DEST⟩], lostPend := 0 } ∧
      t.getF (feB u) CHN_TIM_STATUS.FIFO = d.fifo.length + 1 ∧ t.pair (feB u + CHN_TDC_LAST_LO.STAMP.off) = s.stampValue u e q ∧
      Frame { regs := fun a => a = feB u + CHN_TIM_STATUS.FIFO.off, parts := fun x => { x with tdcs := [], pairs := [] } } s t) ∧
    (s.clocked = true → s.stampTakes u e q = true → dead = false → s.getF (feB u) CHN_TDC_CFG.DEST = 3 → Completes (.tdcStamp u src rising q dead) s fun t =>
      t.pair (feB u + CHN_TDC_LAST_LO.STAMP.off) = s.stampValue u e q ∧ Frame { parts := fun x => { x with pairs := [] } } s t) ∧
    (s.clocked = true → s.stampTakes u e q = true → (dead = true ∨ s.getF (feB u) CHN_TDC_CFG.DEST ≠ 3 ∧ 16 ≤ d.fifo.length) →
      Completes (.tdcStamp u src rising q dead) s fun t =>
      (t.tdc u).fifo = d.fifo ∧ (t.tdc u).lostPend = min (d.lostPend + 1) 255 ∧ t.isSet (feB u) CHN_TIM_STATUS.LOST = true ∧
      t.getF (feB u) CHN_TDC_LOST.COUNT = min (s.getF (feB u) CHN_TDC_LOST.COUNT + 1) (2 ^ 32 - 1) ∧
      Frame { regs := fun a => a = feB u + CHN_TIM_STATUS.FIFO.off ∨ a = feB u + CHN_TDC_LOST.COUNT.off, parts := fun x => { x with tdcs := [], jobs := [] } } s t)) ∧
  (∀ t' : Fin 8, (∀ l < 132, (s.tdc (unitOf t' l)).fifo = []) → Completes (.stampBufferWrite t') s (Frame {} s)) ∧
  (∀ (t' : Fin 8) (l u n k : Nat) (x : Stamp) (xs : List Stamp), l < 132 → u = unitOf t' l → (∀ j < 132, j ≠ l → (s.tdc (unitOf t' j)).fifo = []) →
    (s.tdc u).fifo = x :: xs → xs.length < 16 → x.dest = 0 → n = s.stbSize t' → k = (s.tile t').stb → s.isSet (tileBase t') TIL_STB_CTRL.EN = true → k < n →
    x.stamp < 2 ^ 64 → x.gen < 2 ^ 16 → x.lostn < 2 ^ 8 → x.edge < 8 → Completes (.stampBufferWrite t') s fun t =>
      t.sramN (s.stbStart t' + 16 * k) 8 = x.stamp ∧
      t.sramN (s.stbStart t' + 16 * k + 8) 8 = x.gen * 2 ^ 48 + x.lostn * 2 ^ 40 + (if x.unlk then 2 ^ 23 else 0) + x.edge * 2 ^ 20 + u ∧
      t.getF (tileBase t') TIL_STB_WCNT.COUNT = (s.getF (tileBase t') TIL_STB_WCNT.COUNT + 1) % 2 ^ 32 ∧ (t.tile t').stb = k + 1 ∧ (t.tdc u).fifo = xs ∧ t.getF (feB u) CHN_TIM_STATUS.FIFO = xs.length ∧
      (t.tile t').stampNext = (l + 1) % 132 ∧
      Frame { regs := fun a => a = feB u + CHN_TIM_STATUS.FIFO.off ∨ a = tileBase t' + TIL_STB_WCNT.COUNT.off ∨ a = tileBase t' + TIL_STB_STATUS.FULL.off,
              sram := fun a => s.stbStart t' + 16 * k ≤ a ∧ a < s.stbStart t' + 16 * k + 16, parts := fun x => { x with tdcs := [], tiles := [] } } s t) ∧
  (∀ (t' : Fin 8) (w : Word), s.writeOk (tileBase t' + TIL_STB_CTRL.EN.off) = true → s.isSet (tileBase t') TIL_STB_CTRL.EN = false →
    Completes (.stbRestart t' w) s fun t => t.isSet (tileBase t') TIL_STB_CTRL.EN = true ∧ t.getF (tileBase t') TIL_STB_CTRL.MODE = TIL_STB_CTRL.MODE.get w ∧
      t.getF (tileBase t') TIL_STB_WCNT.COUNT = 0 ∧ t.isSet (tileBase t') TIL_STB_STATUS.FULL = false ∧
      (t.tile t').stb = 0 ∧ Frame { regs := fun a => a = tileBase t' + TIL_STB_CTRL.EN.off ∨ a = tileBase t' + TIL_STB_WCNT.COUNT.off ∨ a = tileBase t' + TIL_STB_STATUS.FULL.off, parts := fun x => { x with tiles := [] } } s t) ∧
  (∀ (u : Fin 1061) (line : Fin 6), (lineMask u).testBit line = true → Completes (.dllLock u line) s fun t =>
    (t.tdc u).locks = (s.tdc u).locks ||| 2 ^ line.val ∧
    (u.val < 1056 → t.isSet (feB u) CHN_TIM_STATUS.TLOCK = ((t.tdc u).locks).testBit 0 ∧
      t.isSet (feB u) CHN_TIM_STATUS.VLOCK = (decide (u.val < 1024) && decide ((t.tdc u).locks &&& 0x3E = 0x3E))) ∧
    Frame { regs := fun a => u.val < 1056 ∧ a = feB u + CHN_TIM_STATUS.TLOCK.off, parts := fun x => { x with tdcs := [], insts := [] } } s t) ∧
  (∀ (u : Fin 1061) (line : Fin 6), (lineMask u).testBit line = false → Completes (.dllLock u line) s (Frame {} s)) ∧
  (∀ (u : Fin 1061) (line : Fin 6) (k : Nat), (s.tdc u).locks.testBit line = true → k = instKey 0x0C (s.tdcUnit u).1 (s.tdcUnit u).2 →
    (s.inst k).force = false → s.getF (4 * 0x0C) FLT_CLASS.LEVEL = 0 → Completes (.dllUnlock u line) s fun t =>
      (t.tdc u).locks.testBit line = false ∧ (u.val < 1056 → t.isSet (feB u) CHN_TIM_STATUS.UNLK_SEEN = true) ∧
      (t.inst k).force = true ∧ (t.inst k).cond = true ∧ (t.inst k).detail = line ∧
      Frame { regs := fun a => u.val < 1056 ∧ a = feB u + CHN_TIM_STATUS.TLOCK.off ∨ a = FLT_CLASS.DCNT.off + 4 * 0x0C ∨ a = FLT_BB_STATUS.LOST.off,
              parts := fun x => { x with tdcs := [], insts := [], lastCls := [], bbStage := [] } } s t) ∧
  (∀ (u : Fin 1061) (line : Fin 6), (s.tdc u).locks.testBit line = false → Completes (.dllUnlock u line) s (Frame {} s)) ∧
  (∀ (u : Fin 1061) (hist : List Nat) (delays : List (List Nat)) (drv stb tdc : Fin 1024) (k : Timing),
    (s.acquires u = false ∨ hist.foldl (· + ·) 0 ≠ 262144 → Completes (.codeDensityDone u hist delays drv stb tdc) s (Frame {} s)) ∧
    (s.acquires u = true → hist.foldl (· + ·) 0 = 262144 → hist.length = 200 → (∀ x ∈ hist, 1 ≤ x ∧ x ≤ 3932) →
    k = { hist := hist, inv := delays.map inverseTable, drv := drv, stb := stb, tdc := tdc } →
    (s.mode ≠ stBOOT → Completes (.codeDensityDone u hist delays drv stb tdc) s fun t =>
      tabGet (fun _ => {}) t.timingNew u = k ∧ t.tim u = s.tim u ∧ t.acqDue u = false ∧
      Frame { parts := fun x => { x with timingNew := [], tiles := [] } } s t) ∧
    (s.mode = stBOOT → (s.tdc u).held = none → Completes (.codeDensityDone u hist delays drv stb tdc) s fun t =>
      t.tim u = k ∧ (u.val < 1056 → t.getF (feB u) CHN_TIM_DSK.TDC = tdc) ∧
      Frame { regs := fun a => u.val < 1056 ∧ a = feB u + CHN_TIM_DSK.TDC.off, parts := fun x => { x with timing := [], tiles := [] } } s t))) ∧
  (∀ (delays : List Nat) (f k : Nat), delays ≠ [] → k = (inverseTable delays).getD f 0 → f < 200 → k < delays.length ∧
    ∀ j < delays.length, ((delays.getD k 0 : Int) - 256 * f).natAbs ≤ ((delays.getD j 0 : Int) - 256 * f).natAbs) ∧
  (∀ (u : Fin 1061) (hist : List Nat) (delays : List (List Nat)) (drv stb tdc : Fin 1024) (k : Nat), s.acquires u = true →
    hist.foldl (· + ·) 0 = 262144 → hist.length ≠ 200 ∨ (∃ x ∈ hist, x = 0 ∨ 3932 < x) →
    k = instKey 0x0D (s.tdcUnit u).1 (s.tdcUnit u).2 → (s.inst k).force = false → s.getF (4 * 0x0D) FLT_CLASS.LEVEL = 0 →
    Completes (.codeDensityDone u hist delays drv stb tdc) s fun t => (t.inst k).force = true ∧ (t.inst k).detail = 0 ∧
      Frame { regs := fun a => a = FLT_CLASS.DCNT.off + 4 * 0x0D ∨ a = FLT_BB_STATUS.LOST.off,
              parts := fun x => { x with insts := [], lastCls := [], bbStage := [], tiles := [] } } s t)

/-- R151 to R155: the Sepia unit's jobs (the model's reading: log entries 1, 55). -/
def Obligations.SepiaRows : Prop := ∀ (t' : Fin 8) (s : State) (b : Nat), b = tileBase t' →
  ((s.tile t').sepia = [] → Completes (.sepiaSample t') s (Frame {} s)) ∧
  (∀ (m : Sample) (ms : List Sample), (s.tile t').sepia = m :: ms → Completes (.sepiaSample t') s fun t => (t.tile t').sepia = ms ∧
    (∀ n < 16, (∀ j c, s.liveJob t' n = some (j, c) → c.jobTakes m = true →
        t.job t' n = some (j.process c m).1 ∧
        t.getF (b + 4 * n) SEP_JOB.STATE = (if (j.process c m).1.sets.all fun a => decide (c.jN ≤ a.count) then 2 else 1)) ∧
      (s.liveJob t' n = none → t.job t' n = s.job t' n ∧ t.getF (b + 4 * n) SEP_JOB.STATE = s.getF (b + 4 * n) SEP_JOB.STATE)) ∧
    Frame { regs := fun a => ∃ n < 16, a = b + 4 * n + SEP_JOB.STATE.off, parts := fun x => { x with tiles := [], jobs := [], trigs := [] } } s t) ∧
  (∀ (n : Fin 16) (j : Job) (c : Cmd) (i : Instr) (part : Bool) (bs : List Byte), s.job t' n = some j → s.cmd? j.run = some c →
    (i = .sepiaJobComplete t' n ∧ part = false ∧ s.getF (b + 4 * n) SEP_JOB.STATE = 2 ∨
      i = .sepiaJobTimeout t' n ∧ part = true ∧ s.getF (b + 4 * n) SEP_JOB.STATE = 1 ∧ c.p 0xC ≠ 0) →
    bs = j.sets.flatMap (fun a => a.block t' c.jN) → Completes i s fun t =>
      Answered j.run { status := scOK, partialDone := part || decide (c.raddr ≠ 0 ∧ c.rlen < bs.length), result := j.sets.length }
        { regs := fun a => a = b + 4 * n + SEP_JOB.STATE.off ∨ a = b + SEP_BUSY.JOBS.off, host := fun a => c.raddr ≠ 0 ∧ c.raddr ≤ a ∧ a < c.raddr + min bs.length c.rlen,
          parts := fun x => { x with jobs := [] } } s t ∧
      (c.raddr ≠ 0 → memRead hostReset t.host c.raddr (min bs.length c.rlen) = bs.take c.rlen) ∧
      t.job t' n = none ∧ t.rd (b + 4 * n + SEP_JOB.STATE.off) = 0 ∧ (t.getF b SEP_BUSY.JOBS).testBit n = false) ∧
  (∀ n : Fin 16, s.getF (b + 4 * n) SEP_JOB.STATE ≠ 2 → Completes (.sepiaJobComplete t' n) s (Frame {} s)) ∧
  (∀ (n : Fin 16) (j : Job) (c : Cmd), s.liveJob t' n = some (j, c) → c.p 0xC = 0 → Completes (.sepiaJobTimeout t' n) s (Frame {} s)) ∧
  (∀ (cmd : CmdRef) (c : Cmd) (n : Nat), s.ready? cmd opSTATS = some c → c.pf 0 3 1 = t' → n < 16 → s.getF (b + 4 * n) SEP_JOB.STATE = 0 →
    (∀ k < n, s.getF (b + 4 * k) SEP_JOB.STATE ≠ 0) → Completes (.statsReadStart cmd) s fun t =>
      Begun cmd { regs := fun a => a = b + 4 * n + SEP_JOB.STATE.off ∨ a = b + SEP_BUSY.JOBS.off, parts := fun x => { x with jobs := [] } } s t ∧
      (∃ j, t.job t' n = some j ∧ j.run = ⟨c.sq, c.tag⟩ ∧ j.prevs = [] ∧ j.refs = [] ∧ (∀ a ∈ j.sets, a.count = 0 ∧ a.x0 = 0 ∧ a.disc = 0) ∧
        j.sets.map AccSet.unit = if c.jPeru then (List.range (c.jLast + 1 - c.jFirst)).map (c.jFirst + ·) else [0x7FF]) ∧
      t.getF (b + 4 * n) SEP_JOB.STATE = 1 ∧ t.getF (b + 4 * n) SEP_JOB.KIND = c.jKind ∧ t.getF (b + 4 * n) SEP_JOB.MODE = c.jMode ∧
      t.isSet (b + 4 * n) SEP_JOB.PERU = c.jPeru ∧ (t.getF b SEP_BUSY.JOBS).testBit n = true) ∧
  (∀ (cmd : CmdRef) (c : Cmd), s.ready? cmd opSTATS = some c → c.pf 0 3 1 = t' →
    (∀ n < 16, ∀ j k, s.liveJob t' n = some (j, k) → j.run ≠ ⟨c.pf 4 17 12, c.pf 4 11 0⟩) →
    Completes (.statsReadPeek cmd) s (Answered cmd { status := scSTATE, detail := 0x0F } {} s)) ∧
  (∀ (cmd : CmdRef) (c k : Cmd) (n : Nat) (j : Job) (bs : List Byte), s.ready? cmd opSTATS = some c → c.pf 0 3 1 = t' → n < 16 → s.liveJob t' n = some (j, k) →
    j.run = ⟨c.pf 4 17 12, c.pf 4 11 0⟩ → (∀ i < n, ∀ j k, s.liveJob t' i = some (j, k) → j.run ≠ ⟨c.pf 4 17 12, c.pf 4 11 0⟩) →
    bs = j.sets.flatMap (fun a => a.block t' k.jN) → Completes (.statsReadPeek cmd) s fun t =>
      Answered cmd { status := scOK, partialDone := true, result := j.sets.length } { host := fun a => c.raddr ≠ 0 ∧ c.raddr ≤ a ∧ a < c.raddr + min bs.length c.rlen } s t ∧
      (c.raddr ≠ 0 → memRead hostReset t.host c.raddr (min bs.length c.rlen) = bs.take c.rlen) ∧ t.job t' n = some j)

/-- R162, R163, R171, R173 to R179: loading, starting and ending Cobalt runs; the fail log (the model's reading: log entries 1, 10, 55). -/
def Obligations.CobaltRunRows : Prop := ∀ (cmd : CmdRef) (k : Cmd) (s : State),
  (∀ (data : List Byte) (failed : Option Bool) (p n : Nat × Nat), s.ready? cmd opAPGLOAD = some k → p = apgPart (k.pf 0 2 0) (k.pf 0 9 8) (k.pf 0 17 16) →
    n.1 = p.1 + k.p 0x10 * p.2 → n.2 = (if failed = none then k.p 0x14 else min (k.p 0x14) (data.length / p.2)) → Completes (.apgLoad cmd data failed) s fun t =>
      Answered cmd { status := scOK, partialDone := failed.isSome, result := n.2 }
        { regs := fun a => failed ≠ none ∧ a = LNK_RDERR.FAIL.off, sram := fun a => n.1 ≤ a ∧ a < n.1 + n.2 * p.2 } s t ∧
      ∀ i < n.2 * p.2, t.sramByte (n.1 + i) = data.getD i 0) ∧
  (∀ e, s.ready? cmd opAPGRUN = some k → s.apgRunCheck k = some e → Completes (.apgRun cmd) s (Answered cmd e {} s)) ∧
  (∀ (t' x mask b : Nat), s.ready? cmd opAPGRUN = some k → s.apgRunCheck k = none → t' = k.pf 0 2 0 → x = k.pf 0 9 8 → mask = k.p 4 → b = ctxB t' x →
    s.noRot (s.groupsMem t' mask) → Completes (.apgRun cmd) s fun t =>
      Begun cmd { regs := fun a => (∃ c ∈ s.groupsMem t' mask, a = chB c + CHN_SEQ_STATUS.STATE.off ∨ chB c + CHN_SEQ_VCNT_LO.COUNT.off ≤ a ∧ a ≤ chB c + CHN_SEQ_PAD.COUNT.off) ∨
                    (∃ g, mask.testBit g = true ∧ tileBase t' + 0x10 * g + APG_FL_FCNT.COUNT.off ≤ a ∧ a ≤ tileBase t' + 0x10 * g + APG_FL_DQ.MASK.off) ∨
                    (b + APG_CTX_STATUS.STATE.off ≤ a ∧ a ≤ b + APG_CTX_CYC_HI.COUNT.off) ∨ a = tileBase t' + APG_STATUS.RUN.off,
                  engs := fun c => c ∈ s.groupsMem t' mask,
                  parts := fun x => { x with ctxs := [], flGroups := [], tdcs := [], tiles := [] } } s t ∧
      t.getF b APG_CTX_STATUS.STATE = 1 ∧ t.getF b APG_CTX_STATUS.ERR = 0 ∧ t.getF b APG_CTX_STATUS.PC = s.getF b APG_CTX_CTRL.START ∧
      t.getF b APG_CTX_GRPS.GROUPS = mask ∧ t.getF b APG_CTX_XY.X = s.getF b APG_CTX_XLIM.XMIN ∧ t.getF b APG_CTX_XY.Y = s.getF b APG_CTX_YLIM.YMIN ∧
      t.getF b APG_CTX_B.B = 0 ∧ t.getF b APG_CTX_D.D = s.getF b APG_CTX_DR0.DR0 ∧ t.getF b APG_CTX_CYC_LO.COUNT = 0 ∧ t.getF b APG_CTX_CYC_HI.COUNT = 0 ∧
      (t.getF (tileBase t') APG_STATUS.RUN).testBit x = true ∧ (t.ctx t' x).run = some cmd ∧ (t.ctx t' x).stack = [] ∧ (t.ctx t' x).fin = none ∧
      (∀ i < 8, (t.ctx t' x).idx.getD i 0 = s.getF (b + 4 * i) APG_CTX_I.VALUE) ∧
      (∀ c ∈ s.groupsMem t' mask, t.engState c = 5 ∧ t.vcnt c = 0 ∧ t.getF (chB c) CHN_SEQ_PAD.COUNT = 0) ∧
      ∀ g, mask.testBit g = true → t.getF (tileBase t' + 0x10 * g) APG_FL_FCNT.COUNT = 0 ∧ t.getF (tileBase t' + 0x10 * g) APG_FL_DQ.MASK = 0 ∧
        ∀ c, (s.members t' g).head? = some c → (t.eng c).run = some cmd ∧ (t.eng c).ctx = some x ∧ (t.eng c).queue = [] ∧ (t.eng c).fresh = true) ∧
  (∀ (t' : Fin 8) (x : Fin 4) (seen : List (List (List (Bool × Bool)))) (b p : Nat), b = ctxB t' x →
    (s.getF b APG_CTX_STATUS.STATE ≠ 1 ∨ (s.ctx t' x).start = 2 ∧ (s.ctx t' x).fired = false → Completes (.apgRunStart t' x seen) s (Frame {} s)) ∧
    (s.getF b APG_CTX_STATUS.STATE = 1 → ((s.ctx t' x).start ≠ 2 ∨ (s.ctx t' x).fired = true) → (s.ctx t' x).fin = none →
      (∀ c ∈ s.ctxLeaders t' x, (s.eng c).queue = [] ∧ (s.eng c).ctx = some x.val) →
      p = (if (s.ctx t' x).start = 1 then 200 * (s.getF (tileBase t') TIL_SEQSTART_LO.START + 2 ^ 32 * s.getF (tileBase t') TIL_SEQSTART_HI.START) else s.linNow) →
      Completes (.apgRunStart t' x seen) s fun t => t.getF b APG_CTX_STATUS.STATE = 2 ∧
        (∀ c ∈ s.ctxLeaders t' x, (t.eng c).still = { s.eng c with next := p }.still ∧ ∀ m ∈ s.mem c, t.engState m = 1) ∧
        Frame { regs := fun a => a = b + APG_CTX_STATUS.STATE.off ∨ ∃ c ∈ s.ctxLeaders t' x, ∃ m ∈ s.mem c, a = chB m + CHN_SEQ_STATUS.STATE.off,
                engs := fun c => c ∈ s.ctxLeaders t' x } s t)) ∧
  (∀ (t' : Fin 8) (g : Fin 32), (∀ x < 4, (s.ctx t' x).drop.testBit g = false ∨ (s.getF (ctxB t' x) APG_CTX_GRPS.GROUPS).testBit g = false) →
    Completes (.apgGroupDrop t' g) s (Frame {} s)) ∧
  (∀ (t' : Fin 8) (g : Fin 32) (x : Nat), x < 4 → (s.ctx t' x).drop.testBit g = true → (s.getF (ctxB t' x) APG_CTX_GRPS.GROUPS).testBit g = true →
    (∀ y < x, (s.ctx t' y).drop.testBit g = false ∨ (s.getF (ctxB t' y) APG_CTX_GRPS.GROUPS).testBit g = false) → (s.ctx t' x).fin = none →
    Completes (.apgGroupDrop t' g) s fun t =>
      (t.getF (ctxB t' x) APG_CTX_GRPS.GROUPS).testBit g = false ∧ (t.ctx t' x).dropped.testBit g = true ∧ (t.ctx t' x).drop.testBit g = false ∧
      (∀ c, (s.members t' g).head? = some c → (t.ctx t' x).gone = (s.ctx t' x).gone ++ [(c, g.val, s.vcnt c, (s.eng c).queue)]) ∧
      (∀ m ∈ s.members t' g, (t.eng m).run = none ∧ (t.eng m).ctx = none ∧ (t.eng m).stat = .z ∧ t.engState m = if s.engState m = 4 then 4 else 0) ∧
      Frame { regs := fun a => (∃ m ∈ s.members t' g, a = chB m + CHN_SEQ_STATUS.STATE.off ∨ a = chB m + CHN_SEQ_JREQ.PEND.off ∨ a = feB m + CHN_TIM_DSK.TDC.off) ∨
                a = tileBase t' + TIL_SEQ_BAR_ARR.GROUPS.off ∨ a = ctxB t' x + APG_CTX_GRPS.GROUPS.off,
              engs := fun m => m ∈ s.members t' g, adcs := fun m => m ∈ s.members t' g, parts := fun x => { x with insts := [], mics := [], ctxs := [], tdcs := [] } } s t) ∧
  (∀ (t' : Fin 8), (s.tile t').flQueue = [] → Completes (.failLogRecord t') s (Frame {} s)) ∧
  (∀ (t' : Fin 8) (g x y b f w : Nat) (key : Nat × Nat) (rs : List ((Nat × Nat) × FlRec)), (s.tile t').flQueue = (key, .fail g x y b f) :: rs → g < 32 → (s.flGroup t' g).line ≠ some (b, y) →
    (s.flGroup t' g).mark = none → s.getF (tileBase t') APG_FL_CFG.GMAX = 0 → w = s.getF (tileBase t') APG_FL_WCNT.COUNT → w + 2 ≤ 65536 →
    Completes (.failLogRecord t') s fun t => (t.tile t').flQueue = rs ∧ t.getF (tileBase t') APG_FL_WCNT.COUNT = w + 2 ∧
      t.isSet (tileBase t') APG_FL_STATUS.FULL = decide (65536 ≤ w + 2) ∧ t.sramN (apgLog t' + 4 * w) 4 = flLine g b y % 2 ^ 32 ∧
      t.sramN (apgLog t' + 4 * w + 4) 4 = flFail g f x % 2 ^ 32 ∧ (t.flGroup t' g).line = some (b, y) ∧ (t.flGroup t' g).xf = some x ∧
      Frame { regs := fun a => a = tileBase t' + APG_FL_WCNT.COUNT.off ∨ a = tileBase t' + APG_FL_STATUS.FULL.off,
              sram := fun a => apgLog t' + 4 * w ≤ a ∧ a < apgLog t' + 4 * w + 8, parts := fun x => { x with tiles := [], flGroups := [] } } s t) ∧
  (∀ (t' : Fin 8) (g x y b f : Nat) (key : Nat × Nat) (rs : List ((Nat × Nat) × FlRec)), (s.tile t').flQueue = (key, .fail g x y b f) :: rs → g < 32 → (s.flGroup t' g).line ≠ some (b, y) →
    65535 ≤ s.getF (tileBase t') APG_FL_WCNT.COUNT → Completes (.failLogRecord t') s fun t => (t.tile t').flQueue = rs ∧
      t.getF (tileBase t' + 0x10 * g) APG_FL_LOST.COUNT = min (s.getF (tileBase t' + 0x10 * g) APG_FL_LOST.COUNT + 1) (2 ^ 32 - 1) ∧
      t.isSet (tileBase t') APG_FL_STATUS.LOSS = true ∧
      Frame { regs := fun a => a = tileBase t' + 0x10 * g + APG_FL_LOST.COUNT.off ∨ a = tileBase t' + APG_FL_STATUS.LOSS.off, parts := fun x => { x with tiles := [] } } s t) ∧
  (∀ t' : Nat, s.ready? cmd opFAILDUMP = some k → t' = k.pf 0 2 0 → bitB (k.p 0) 8 = true → s.getF (tileBase t') APG_STATUS.RUN ≠ 0 →
    Completes (.failDump cmd) s (Answered cmd { status := scSTATE, detail := 4 } {} s)) ∧
  (∀ t' w n : Nat, s.ready? cmd opFAILDUMP = some k → t' = k.pf 0 2 0 → (bitB (k.p 0) 8 = false ∨ s.getF (tileBase t') APG_STATUS.RUN = 0) →
    w = s.getF (tileBase t') APG_FL_WCNT.COUNT → n = min (k.pf 8 16 0) (w - k.pf 4 16 0) → Completes (.failDump cmd) s fun t =>
      Answered cmd { status := scOK, partialDone := decide (k.raddr ≠ 0 ∧ k.rlen < 4 * n ∨ w < k.pf 4 16 0 + k.pf 8 16 0),
                     result := (if k.raddr = 0 then 0 else min (4 * n) k.rlen) / 4 }
        { regs := fun a => bitB (k.p 0) 8 = true ∧ (a = tileBase t' + APG_FL_WCNT.COUNT.off ∨ a = tileBase t' + APG_FL_STATUS.FULL.off),
          host := fun a => k.raddr ≠ 0 ∧ k.raddr ≤ a ∧ a < k.raddr + min (4 * n) k.rlen, parts := fun x => { x with flGroups := [], tiles := [] } } s t ∧
      (k.raddr ≠ 0 → ∀ i < min (4 * n) k.rlen, t.hostByte (k.raddr + i) = s.sramByte (apgLog t' + 4 * k.pf 4 16 0 + i)) ∧
      (bitB (k.p 0) 8 = true → t.getF (tileBase t') APG_FL_WCNT.COUNT = 0 ∧ t.isSet (tileBase t') APG_FL_STATUS.FULL = false ∧
        (∀ g < 32, t.flGroup t' g = {}) ∧ (t.tile t').flQueue = flUnmarked (fun _ => true) (s.tile t').flQueue) ∧
      (bitB (k.p 0) 8 = false → ∀ g < 32, t.flGroup t' g = s.flGroup t' g))

/-- R164 to R170, R174: one instruction of a Cobalt context (the model's reading: log entries 1, 55). -/
def Obligations.CobaltInstructionRows : Prop := ∀ (t' : Fin 8) (x : Fin 4) (s : State) (b i pc : Nat) (k : Ctx), b = ctxB t' x → k = s.ctx t' x →
  pc = s.getF b APG_CTX_STATUS.PC → i = s.sramN (apgBase t' + 16 * pc) 16 →
  ((s.getF b APG_CTX_STATUS.STATE ≠ 1 ∧ s.getF b APG_CTX_STATUS.STATE ≠ 2 ∨ k.fin ≠ none ∨ ∃ c ∈ s.ctxLeaders t' x, 32 ≤ (s.eng c).queue.length) →
    Completes (.apgInstruction t' x) s (Frame {} s)) ∧
  ((s.getF b APG_CTX_STATUS.STATE = 1 ∨ s.getF b APG_CTX_STATUS.STATE = 2) → k.fin = none → s.ctxLeaders t' x ≠ [] →
    (∀ c ∈ s.ctxLeaders t' x, (s.eng c).queue.length < 32) →
    (∀ n, (pc < s.getF b APG_CTX_WIN.LO ∨ s.getF b APG_CTX_WIN.HI < pc) ∧ n = 5 ∨
        (s.getF b APG_CTX_WIN.LO ≤ pc ∧ pc ≤ s.getF b APG_CTX_WIN.HI) ∧ (bits i 127 124 ≥ 10 ∨ i % 2 ^ 47 ≠ 0) ∧ n = 1 ∨ s.apgErr t' x i = some n →
      (s.getF b APG_CTX_STATUS.STATE = 2 ∨ s.ctxEmpty t' x = false → Completes (.apgInstruction t' x) s fun t =>
        (t.ctx t' x).fin = some (.error 0 n) ∧ t.getF b APG_CTX_STATUS.STATE = (if s.getF b APG_CTX_STATUS.STATE = 2 then 3 else 1) ∧
        Frame { regs := fun a => a = b + APG_CTX_STATUS.STATE.off, parts := fun x => { x with ctxs := [] } } s t) ∧
      (∀ r c, s.getF b APG_CTX_STATUS.STATE = 1 → s.ctxEmpty t' x = true → k.run = some r → s.cmd? r = some c → Completes (.apgInstruction t' x) s fun t =>
        t.getF b APG_CTX_STATUS.STATE = 0 ∧ t.getF b APG_CTX_GRPS.GROUPS = 0 ∧ (t.ctx t' x).run = none ∧ t.getF b APG_CTX_STATUS.ERR = n ∧
        ∃ c' ∈ t.cmds, c'.isRef r = true ∧ c'.ending = some { status := scABORTFAULT, detail := 0x13, result := s.apgResult t' x })) ∧
    (∀ (vx vy vb d ik : Nat) (idx : List Nat) (r : AddrRes × AddrRes × Nat × Bool), s.apgErr t' x i = none → vx = s.getF b APG_CTX_XY.X → vy = s.getF b APG_CTX_XY.Y →
      vb = s.getF b APG_CTX_B.B → d = s.getF b APG_CTX_D.D → ik = k.idx.getD (apgIk i) 0 →
      idx = k.idx.set (apgIk i) (indexOp (apgIop i) ik (apgImm i) vx vy) →
      r = chainOps i (addrOp (apgXop i) vx (s.getF b APG_CTX_XLIM.XMIN) (s.getF b APG_CTX_XLIM.XMAX) k.xr (idx.getD (apgXk i) 0))
        (addrOp (apgYop i) vy (s.getF b APG_CTX_YLIM.YMIN) (s.getF b APG_CTX_YLIM.YMAX) k.yr (idx.getD (apgYk i) 0)) (bankOp (apgBop i) vb (s.getF b APG_CTX_B.BMAX)) →
      Completes (.apgInstruction t' x) s fun t =>
        t.getF b APG_CTX_XY.X = r.1.v % 2 ^ 16 ∧ t.getF b APG_CTX_XY.Y = r.2.1.v % 2 ^ 16 ∧ t.getF b APG_CTX_B.B = r.2.2.1 % 16 ∧
        t.getF b APG_CTX_D.D = dataOp (apgDop i) d (s.getF b APG_CTX_DR0.DR0) (s.getF b APG_CTX_DR1.DR1) (idx.getD (apgIk i) 0) % 2 ^ 32 ∧
        (t.ctx t' x).xr = r.1.ref ∧ (t.ctx t' x).yr = r.2.1.ref ∧
        (apgFlow i = 0 → t.getF b APG_CTX_STATUS.PC = (pc + 1) % 4096) ∧ (apgFlow i = 1 ∨ apgFlow i = 7 → t.getF b APG_CTX_STATUS.PC = apgFaddr i) ∧
        (apgFlow i = 2 → t.getF b APG_CTX_STATUS.PC = if r.2.2.2 then (pc + 1) % 4096 else apgFaddr i) ∧
        (apgFlow i = 3 → t.getF b APG_CTX_STATUS.PC = if r.2.2.2 then apgFaddr i else (pc + 1) % 4096) ∧
        (apgFlow i = 4 ∨ apgFlow i = 6 → t.getF b APG_CTX_STATUS.PC = if idx.getD (apgFk i) 0 ≠ 0 then apgFaddr i else (pc + 1) % 4096) ∧
        (apgFlow i = 5 → t.getF b APG_CTX_STATUS.PC = if idx.getD (apgFk i) 0 = 0 then apgFaddr i else (pc + 1) % 4096) ∧
        (apgFlow i = 7 → (t.ctx t' x).stack = (pc + 1) % 4096 :: k.stack) ∧
        (apgFlow i = 8 → (t.ctx t' x).stack = k.stack.tail ∧ t.getF b APG_CTX_STATUS.PC = k.stack.headD 0 % 4096) ∧
        (apgFlow i ≠ 7 → apgFlow i ≠ 8 → (t.ctx t' x).stack = k.stack) ∧
        (t.ctx t' x).idx = (if apgFlow i = 4 ∧ idx.getD (apgFk i) 0 ≠ 0 then idx.set (apgFk i) (idx.getD (apgFk i) 0 - 1) else idx) ∧
        (apgFlow i = 9 → t.getF b APG_CTX_STATUS.PC = pc ∧ (t.ctx t' x).fin = some (.halt 0) ∧
          t.getF b APG_CTX_STATUS.STATE = if s.getF b APG_CTX_STATUS.STATE = 1 then 1 else 3) ∧
        (apgFlow i ≠ 9 → (t.ctx t' x).fin = none ∧ t.getF b APG_CTX_STATUS.STATE = s.getF b APG_CTX_STATUS.STATE) ∧
        (∀ c ∈ s.ctxLeaders t' x, ∃ v, (t.eng c).queue = (s.eng c).queue ++ [v] ∧ v.acts = [] ∧ v.pins.map Pin.chan = s.mem c ∧
          v.cyc = some { x := vx, y := vy, b := vb, mark := if bitB i 47 then some pc else none } ∧
          ∀ q ∈ v.pins, q.ts = s.tsVals q.chan (apgTs i) ∧
            (s.getF (tileBase t' + 4 * (q.chan % 128)) APG_PMAP.ROLE = 2 → apgCyc i = 2 → q.bit = some (s.getF (tileBase t' + 4 * (q.chan % 128)) APG_PMAP.SEL))) ∧
        Frame { regs := fun a => a = b + APG_CTX_XY.X.off ∨ a = b + APG_CTX_B.B.off ∨ a = b + APG_CTX_D.D.off ∨ a = b + APG_CTX_STATUS.PC.off,
                engs := fun c => c ∈ s.ctxLeaders t' x, parts := fun x => { x with ctxs := [] } } s t))

/-- R181 to R186, R188, R200, R201, R207: the SYNC and TRIG lines, the epoch, calibration time (the model's reading: log entries 1, 55). -/
def Obligations.SyncAndLineRows : Prop := ∀ (s : State) (w : Word),
  (s.writeOk GLB_SYNC_CTRL.ARM.off = true →
    (GLB_SYNC_CTRL.APPLY.get w = 0 → GLB_SYNC_CTRL.INVAL.get w = 0 → Completes (.syncArm w) s fun t => t.syncArmed = true ∧
      t.isSet 0 GLB_SYNC_STATUS.SEEN = false ∧ t.getF 0 GLB_SYNC_STATUS.EXTRA = 0 ∧
      Frame { regs := fun a => a = GLB_SYNC_STATUS.SEEN.off, parts := fun x => { x with syncArmed := false } } s t) ∧
    (∀ d : Int, GLB_SYNC_CTRL.ARM.get w = 0 → GLB_SYNC_CTRL.INVAL.get w = 0 → (s.mode = stREADY ∨ s.mode = stSERVICE) →
      d = signed 64 (s.rd64 GLB_SYNC_SKEW_LO.SKEW.off) → Completes (.syncApply w) s fun t =>
        t.tb = ((s.tb + d / 200) % 2 ^ 56).toNat ∧ t.getF 0 GLB_SYNC_STATUS.EPH = (d % 200).toNat ∧ t.isSet 0 GLB_STATUS.EPOCH_VALID = true ∧
        Frame { regs := fun a => a = GLB_SYNC_STATUS.EPH.off ∨ a = GLB_STATUS.EPOCH_VALID.off, parts := fun x => { x with tb := 0 } } s t) ∧
    (GLB_SYNC_CTRL.ARM.get w = 0 → GLB_SYNC_CTRL.INVAL.get w = 0 → s.mode ≠ stREADY → s.mode ≠ stSERVICE → Completes (.syncApply w) s fun t =>
      t.isSet 0 GLB_SYNC_STATUS.APIGN = true ∧ Frame { regs := fun a => a = GLB_SYNC_STATUS.APIGN.off } s t) ∧
    (GLB_SYNC_CTRL.ARM.get w = 0 → GLB_SYNC_CTRL.APPLY.get w = 0 → Completes (.syncInval w) s fun t => t.isSet 0 GLB_STATUS.EPOCH_VALID = false ∧
      t.getF 0 GLB_SYNC_STATUS.EPH = 0 ∧ Frame { regs := fun a => a = GLB_SYNC_STATUS.EPH.off ∨ a = GLB_STATUS.EPOCH_VALID.off } s t)) ∧
  (∀ q : Fin 200, s.clocked = true → s.syncArmed = true → Completes (.syncEdge q) s fun t => t.syncArmed = false ∧ t.isSet 0 GLB_SYNC_STATUS.SEEN = true ∧
    t.pair GLB_SYNC_STAMP_LO.STAMP.off = stampOf (s.tdcLin 1056 q) ∧
    Frame { regs := fun a => a = GLB_SYNC_STATUS.SEEN.off, parts := fun x => { x with syncArmed := false, pairs := [] } } s t) ∧
  (∀ q : Fin 200, s.clocked = true → s.syncArmed = false → s.isSet 0 GLB_SYNC_STATUS.SEEN = true → Completes (.syncEdge q) s fun t =>
    t.getF 0 GLB_SYNC_STATUS.EXTRA = min (s.getF 0 GLB_SYNC_STATUS.EXTRA + 1) 255 ∧ Frame { regs := fun a => a = GLB_SYNC_STATUS.EXTRA.off } s t) ∧
  (∀ q : Fin 200, s.clocked = false ∨ s.syncArmed = false ∧ s.isSet 0 GLB_SYNC_STATUS.SEEN = false → Completes (.syncEdge q) s (Frame {} s)) ∧
  (s.writeOk GLB_TRIG_CTRL.PULSE.off = true → (∃ n < 4, (GLB_TRIG_CTRL.PULSE.get w).testBit n = true ∧ s.lineFunc n = 2) → Completes (.trigPulse w) s fun t =>
    t.pair GLB_TRIG_TX_LO.STAMP.off = stampOf (s.linNow + 200 * (4 - s.div % 4) : Nat) ∧
    (∀ n < 4, (GLB_TRIG_CTRL.PULSE.get w).testBit n = true → s.lineFunc n = 2 → tabGet (fun _ => 0) t.pulses n = s.uptime + (4 - s.div % 4) + 32) ∧
    Frame { parts := fun x => { x with pairs := [], pulses := [] } } s t) ∧
  (s.writeOk GLB_TRIG_CTRL.PULSE.off = true → (∀ n < 4, (GLB_TRIG_CTRL.PULSE.get w).testBit n = true → s.lineFunc n ≠ 2 ∧ s.lineFunc n ≠ 3) →
    Completes (.trigPulse w) s (Frame {} s)) ∧
  (∀ (line : Fin 4) (rising : Bool) (q : Fin 200), s.clocked = true → s.lineFunc line = 1 → Completes (.trigLineEdge line rising q) s fun t =>
    t.pair (GLB_TRIG_RX_LO.STAMP.off + 8 * line) = stampOf (s.tdcLin (1057 + line) q) ∧
    (∀ x < 8, s.getF (tileBase x) TRG_STATUS.STATE = 2 → ((s.trig x).offers = [] ∨ (s.trig x).sample = s.trigSample) → ∀ n < 8, s.slotMet x n 5 line (if rising then 0 else 1) = true →
      (t.trig x).offers.any fun o => o.slot == n) ∧ Frame { parts := fun x => { x with pairs := [], trigs := [] } } s t) ∧
  (∀ (line : Fin 4) (rising : Bool) (q : Fin 200), s.clocked = false ∨ s.lineFunc line ≠ 1 → Completes (.trigLineEdge line rising q) s (Frame {} s)) ∧
  (∀ v : Nat, s.writeOk CAL_NOW_HI.SEC.off = true → v = s.getF 0 CAL_NOW_LO.SEC + 2 ^ 32 * w.toNat →
    (s.calBack ≤ v → s.calTime ≤ v → Completes (.calTimeSet w) s fun t => t.calTime = v ∧ t.isSet 0 CAL_STATUS.TIME_SET = true ∧
      Frame { regs := fun a => a = CAL_STATUS.TIME_SET.off, parts := fun x => { x with calSet := 0, calAt := 0 } } s t) ∧
    (v < s.calBack ∨ v < s.calTime → Completes (.calTimeSet w) s fun t => t.calTime = s.calTime ∧ t.isSet 0 CAL_STATUS.TIME_BACK = true ∧
      Frame { regs := fun a => a = CAL_STATUS.TIME_BACK.off } s t))

namespace Sys2Proof.Machine

/-- Tile x's trigger unit has recorded a trigger r (R192, R193, R197): HOLDOFF, FIRED, FIRECNT; the segment holds pre records before TP. -/
structure Recorded (x : Nat) (r : Seg) (s t : State) : Prop where
  state : t.getF (tileBase x) TRG_STATUS.STATE = 3
  fired : t.isSet (tileBase x) TRG_STATUS.FIRED = true
  count : t.getF (tileBase x) TRG_FIRECNT.COUNT = (s.getF (tileBase x) TRG_FIRECNT.COUNT + 1) % 2 ^ 32
  offers : (t.trig x).offers = []
  seg : ∃ g, g.tp = r.tp ∧ g.tc = r.tc ∧ g.rcvd = r.rcvd ∧ g.cause = r.cause ∧ g.pslot = r.pslot ∧ g.punit = r.punit ∧ g.pkind = r.pkind ∧ g.gen = s.gen ∧
    g.pre = min (s.trig x).wr (s.segRec x - s.post x) ∧ g.short = decide ((s.trig x).wr < s.segRec x - s.post x) ∧
    g.eph = s.getF 0 GLB_SYNC_STATUS.EPH ∧ g.size = s.segRec x ∧ g.base = s.capStart x + (s.trig x).segs.length * s.segRec x * 8 ∧
    (s.lane0 x ≠ none → s.post x ≠ 0 → (t.trig x).cur = some g ∧ (t.trig x).left = some (s.post x) ∧ (t.trig x).segs = (s.trig x).segs) ∧
    (s.lane0 x = none ∨ s.post x = 0 → (t.trig x).cur = none ∧ (t.trig x).segs = (s.trig x).segs ++ [g])
  waits : ∀ c, c / 128 = x → s.engState c = 5 → (s.eng c).run ≠ none → (t.eng c).fired = true

/-- What firing trigger units may change. -/
def fireTouch : Touch :=
  { regs := fun a => ∃ x < 8, a = tileBase x + TRG_STATUS.STATE.off ∨ a = tileBase x + TRG_FIRECNT.COUNT.off, engs := fun _ => True,
    parts := fun x => { x with trigs := [], ctxs := [], pulses := [] } }

end Sys2Proof.Machine

/-- R187, R189 to R194, R197, R199: arming, firing, hold-off, dumps (the model's reading: log entries 1, 10, 55). -/
def Obligations.TriggerRows : Prop := ∀ (x : Fin 8) (s : State) (b : Nat), b = tileBase x →
  (s.getF b TRG_STATUS.STATE ≠ 2 ∨ (s.trig x).offers = [] → Completes (.triggerFire x) s (Frame {} s)) ∧
  (∀ o, s.getF b TRG_STATUS.STATE = 2 → o ∈ (s.trig x).offers → o.slot < 8 → (∀ p ∈ (s.trig x).offers, p = o ∨ o.slot < p.slot) →
    Completes (.triggerFire x) s fun t =>
      Recorded x { tp := stampOf s.linNow, tc := stampOf o.tc, rcvd := false, cause := (s.trig x).offers.foldl (fun m o => setBit m o.slot true) 0, pslot := o.slot, punit := o.unit, pkind := s.getF (b + 8 * o.slot) TRG_SLOT_CFG.KIND } s t ∧
      (∀ y < 8, y ≠ x.val → s.trigDom x ≠ 0 → s.trigDom y = s.trigDom x → s.getF (tileBase y) TRG_STATUS.STATE = 2 → (s.trig y).offers = [] →
        Recorded y { tp := stampOf s.linNow, tc := stampOf s.linNow, rcvd := true } s t) ∧ Frame fireTouch s t) ∧
  (∀ (line : Fin 4) (q : Fin 200) (u : Int), s.clocked = true → line.val % 2 = 1 → s.domLines (line / 2 + 1) = true → s.pulsing line = false →
    u = s.tdcLin (1057 + line) q → Completes (.fireLineEdge line q) s fun t => t.pair (GLB_TRIG_RX_LO.STAMP.off + 8 * line) = stampOf u ∧
      (s.trigDom x = line.val / 2 + 1 → s.getF b TRG_STATUS.STATE = 2 → (s.trig x).offers = [] →
        Recorded x { tp := stampOf (u - signed 32 (s.getF (4 * line) GLB_TRIG_DLY.DLY)), tc := stampOf (u - signed 32 (s.getF (4 * line) GLB_TRIG_DLY.DLY)), rcvd := true } s t) ∧
      Frame { fireTouch with parts := fun x => { x with trigs := [], ctxs := [], pairs := [], pulses := [] } } s t) ∧
  (∀ (line : Fin 4) (q : Fin 200), s.clocked = false ∨ line.val % 2 = 0 ∨ s.domLines (line / 2 + 1) = false ∨ s.pulsing line = true →
    Completes (.fireLineEdge line q) s (Frame {} s)) ∧
  (∀ (dom : Fin 2) (high : Bool) (q : Fin 200), Completes (.armLineEdge dom (high, q)) s fun t => t.armLine.testBit (dom + 1) = high ∧
    (high = true → s.clocked = true → s.domLines (dom + 1) = true →
      t.pair (GLB_TRIG_RX_LO.STAMP.off + 8 * (2 * dom)) = stampOf (s.tdcLin (1057 + 2 * dom) q)) ∧
    (high = true → s.domLines (dom + 1) = true → s.trigDom x = dom + 1 → s.getF b TRG_STATUS.STATE = 1 → t.getF b TRG_STATUS.STATE = 2) ∧
    (high = false → s.domLines (dom + 1) = true → (∀ y < 8, s.trigDom y = dom + 1 → (s.trig y).arm = false) → s.trigDom x = dom + 1 → s.trigBusy x = true →
      t.getF b TRG_STATUS.STATE = 4 ∧ (t.trig x).run = none) ∧
    Frame { regs := fun a => ∃ y < 8, a = tileBase y + TRG_STATUS.STATE.off, parts := fun x => { x with armLine := 0, trigs := [], pairs := [] } } s t) ∧
  (s.getF b TRG_STATUS.STATE = 3 → (s.trig x).cur = none → (s.isSet b TRG_CTRL.HMODE = false ∨ (s.trig x).hold = 0) →
    ((s.trig x).segs.length < s.nseg x → Completes (.holdoffEnd x) s fun t => t.getF b TRG_STATUS.STATE = 2 ∧
      Frame { regs := fun a => a = b + TRG_STATUS.STATE.off } s t) ∧
    (∀ (r : CmdRef) (k : Cmd), s.nseg x ≤ (s.trig x).segs.length → (s.trig x).run = some r → s.cmd? r = some k → (s.trig x).arm = false →
      Completes (.holdoffEnd x) s fun t => t.getF b TRG_STATUS.STATE = 4 ∧ (t.trig x).run = none ∧ (t.trig x).segs = (s.trig x).segs ∧
        Answered r { status := scOK, result := s.trigResult x } { regs := fun a => a = b + TRG_STATUS.STATE.off, parts := fun x => { x with trigs := [] } } s t)) ∧
  (s.getF b TRG_STATUS.STATE ≠ 3 ∨ (s.trig x).cur ≠ none ∨ s.isSet b TRG_CTRL.HMODE = true ∧ (s.trig x).hold ≠ 0 → Completes (.holdoffEnd x) s (Frame {} s)) ∧
  (∀ (r : CmdRef) (k : Cmd), (s.trig x).run = some r → s.cmd? r = some k →
    (k.p 4 = 0 → Completes (.trigArmTimeout x) s (Frame {} s)) ∧
    (k.p 4 ≠ 0 → s.trigBusy x = true → (s.trig x).arm = false → Completes (.trigArmTimeout x) s fun t => t.getF b TRG_STATUS.STATE = 4 ∧
      Answered r { status := scOK, partialDone := true, result := s.trigResult x } { regs := fun a => a = b + TRG_STATUS.STATE.off, parts := fun x => { x with trigs := [] } } s t)) ∧
  (∀ (w : Word) (rq st : Nat), s.writeOk (b + TIL_CAP_PART.RQSZ.off) = true → rq = TIL_CAP_PART.RQSZ.get w → st = TIL_CAP_PART.STBSZ.get w →
    (1 ≤ rq → rq ≤ 16 → st ≤ 16 → rq + st ≤ 28 → s.isSet b TIL_RQ_CTRL.EN = false → s.getF b TIL_RQ_LEVEL.COUNT = 0 → s.isSet b TIL_STB_CTRL.EN = false →
      s.trigBusy x = false → Completes (.capPartitionWrite x w) s fun t => t.getF b TIL_CAP_PART.RQSZ = rq ∧ t.getF b TIL_CAP_PART.STBSZ = st ∧
        (∀ a, capBase x ≤ a → a < capBase x + 0x200000 → t.sramByte a = sramReset a) ∧ t.getF b TIL_STB_WCNT.COUNT = 0 ∧ t.getF b TRG_STATUS.SEGS = 0 ∧
        (t.trig x).segs = [] ∧ t.segRec x = (32 - rq - st) * 65536 / 8 / s.nseg x ∧
        Frame { regs := fun a => a = b + TIL_CAP_PART.RQSZ.off ∨ a = b + TIL_STB_WCNT.COUNT.off ∨ a = b + TIL_STB_STATUS.FULL.off ∨
                  a = b + TRG_STATUS.SEGS.off ∨ a = b + TRG_SEGREC.COUNT.off,
                sram := fun a => capBase x ≤ a ∧ a < capBase x + 0x200000, parts := fun x => { x with tiles := [], trigs := [] } } s t) ∧
    (rq = 0 ∨ 16 < rq ∨ 16 < st ∨ 28 < rq + st ∨ s.isSet b TIL_RQ_CTRL.EN = true ∨ s.getF b TIL_RQ_LEVEL.COUNT ≠ 0 ∨ s.isSet b TIL_STB_CTRL.EN = true ∨
      s.trigBusy x = true → Completes (.capPartitionWrite x w) s fun t => t.isSet b TRG_STATUS.PIGN = true ∧
        Frame { regs := fun a => a = b + TRG_STATUS.PIGN.off } s t)) ∧
  (∀ (cmd : CmdRef) (k : Cmd), s.ready? cmd opTRIGARM = some k → k.pf 0 2 0 = x →
    (s.trigBusy x = true → Completes (.trigArm cmd) s (Answered cmd { status := scSTATE, detail := 2 } {} s)) ∧
    (s.trigBusy x = false → s.segRec x < s.post x → Completes (.trigArm cmd) s (Answered cmd { status := scINVALID, detail := 0xFF } {} s)) ∧
    (s.trigBusy x = false → (s.trig x).arm = false → s.post x ≤ s.segRec x → Completes (.trigArm cmd) s fun t =>
      t.getF b TRG_STATUS.STATE = (if s.trigDom x = 0 ∨ s.isSet b TRG_CTRL.MASTER = true ∨ s.domArm (s.trigDom x) = true then 2 else 1) ∧
      t.getF b TRG_STATUS.SEGS = 0 ∧ t.isSet b TRG_STATUS.FIRED = false ∧ t.getF b TRG_FIRECNT.COUNT = 0 ∧ (t.trig x).run = some cmd ∧ (t.trig x).segs = [] ∧
      (∀ a, s.capStart x ≤ a → a < capBase x + 0x200000 → t.sramByte a = sramReset a) ∧
      Begun cmd { regs := fun a => ∃ y < 8, a = tileBase y + TRG_STATUS.STATE.off ∨ y = x.val ∧ a = tileBase y + TRG_FIRECNT.COUNT.off,
                  sram := fun a => s.capStart x ≤ a ∧ a < capBase x + 0x200000, parts := fun x => { x with trigs := [] } } s t)) ∧
  (∀ (cmd : CmdRef) (k : Cmd) (bs : List Byte) (n : Nat), s.ready? cmd opCAPDUMP = some k → k.pf 0 2 0 = x →
    (bitB (k.p 0) 8 = true ∧ n = s.stbHeld x ∧ bs = ((List.range n).filter fun i => decide (k.p 4 ≤ i ∧ i < k.p 4 + k.p 8)).flatMap (s.stbRecord x) ∨
      bitB (k.p 0) 8 = false ∧ n = (s.trig x).segs.length ∧
        bs = ((s.trig x).segs.zipIdx.filter fun e => decide (k.p 4 ≤ e.2 ∧ e.2 < k.p 4 + k.p 8)).flatMap fun e => s.segDump e.1) →
    Completes (.captureDump cmd) s fun t =>
      Answered cmd { status := scOK, partialDone := decide (n < k.p 4 + k.p 8 ∨ k.raddr ≠ 0 ∧ k.rlen < bs.length), result := if k.raddr = 0 then 0 else min bs.length k.rlen }
        { host := fun a => k.raddr ≠ 0 ∧ k.raddr ≤ a ∧ a < k.raddr + min bs.length k.rlen } s t ∧
      (k.raddr ≠ 0 → memRead hostReset t.host k.raddr (min bs.length k.rlen) = bs.take k.rlen))

/-- R140, R208, R209, R211, R212, R214, R222, R224, R249: the calibration commands but those of CAL_ROTATE, and where what follows them
completes (the model's reading: log entries 1, 10, 49, 50, 55). -/
def Obligations.CalibrationCommandRows : Prop := ∀ (cmd : CmdRef) (k : Cmd) (s : State),
  (s.ready? cmd opANCHOR = some k → (s.isSet 0 CAL_STATUS.ANCHOR_RUN = true ∨ s.isSet 0 CAL_STATUS.ANCHOR_STAGED = true ∨ s.isSet 0 CAL_STATUS.TIME_SET = false ∨
      s.activeShades = []) → Completes (.calAnchor cmd) s (Answered cmd { status := scSTATE, detail := 6 } {} s)) ∧
  (s.ready? cmd opANCHOR = some k → s.isSet 0 CAL_STATUS.ANCHOR_RUN = false → s.isSet 0 CAL_STATUS.ANCHOR_STAGED = false → s.isSet 0 CAL_STATUS.TIME_SET = true →
    s.activeShades ≠ [] → Completes (.calAnchor cmd) s fun t =>
      Begun cmd { regs := fun a => a = CAL_STATUS.ANCHOR_RUN.off, parts := fun x => { x with anchor := {} } } s t ∧ t.isSet 0 CAL_STATUS.ANCHOR_RUN = true ∧
      t.anchor.run = some cmd ∧ t.anchor.step = 1 ∧ t.anchor.failed = 0 ∧ (∀ i < 12, t.anchor.block.getD i 0 = BitVec.ofNat 32 (k.p (4 * i)))) ∧
  (s.ready? cmd opCOMMIT = some k → k.pf 0 1 0 = 0 →
    (s.anyStaged = false → Completes (.calCommit cmd) s (Answered cmd { status := scOK, result := s.gen } {} s)) ∧
    (s.anyStaged = true → Completes (.calCommit cmd) s fun t => t.commitPend = true ∧ t.commitCmds = s.commitCmds ++ [cmd] ∧
      Begun cmd { parts := fun x => { x with commitPend := false, commitCmds := [] } } s t)) ∧
  (s.ready? cmd opCOMMIT = some k → k.pf 0 1 0 = 1 → Completes (.calDiscard cmd) s fun t =>
    Answered cmd { status := scOK, result := s.gen } { regs := fun a => a = CAL_STATUS.ANCHOR_STAGED.off, sram := fun a => calStage ≤ a ∧ a < calStage + 0x100000, parts := fun x => { x with stagedUnits := [], stagedTiles := [], stagedXfer := 0, timingNew := [], anchor := {} } } s t ∧
    t.anyStaged = false ∧ t.isSet 0 CAL_STATUS.XFER_STAGED = false ∧ t.stagedXfer = 0 ∧ (∀ a, calStage ≤ a → a < calStage + 0x100000 → t.sramByte a = sramReset a) ∧
    (s.isSet 0 CAL_STATUS.ANCHOR_RUN = true → t.anchor = s.anchor)) ∧
  (s.ready? cmd opCOMMIT = some k → k.pf 0 1 0 = 2 → Completes (.calArchive cmd) s fun t => t.isSet 0 CAL_STATUS.ARCH_BUSY = true ∧
    (s.isSet 0 CAL_STATUS.ARCH_BUSY = false → t.archNow = [cmd] ∧ t.archNext = s.archNext) ∧
    (s.isSet 0 CAL_STATUS.ARCH_BUSY = true → t.archNow = s.archNow ∧ t.archNext = some (s.archNext.getD [] ++ [cmd])) ∧
    Begun cmd { regs := fun a => a = CAL_STATUS.ARCH_BUSY.off, parts := fun x => { x with archNow := [], archNext := none } } s t) ∧
  (∀ (sel unit : Nat) (full bs : List Byte), s.ready? cmd opCALREAD = some k → sel = k.pf 0 7 0 → unit = k.pf 0 26 16 →
    (sel = 0 ∧ full = s.feRecord unit ∨ sel = 1 ∧ full = (if s.stagedUnits.any (fun e => e.1 == unit) then memRead sramReset s.sram (calStage + feRec unit) 768 else leBytes 768 0) ∨
      sel = 2 ∧ (s.tim unit).hist ≠ [] ∧ full = (List.range 200).flatMap (fun q => leBytes 4 ((s.tim unit).hist.getD q 0)) ∨
      sel = 4 ∧ full = memRead flashReset s.flash (0xC00000 + 0x100000 * k.p 4) recEnd ∨
      5 ≤ sel ∧ full = (if s.isSet 0 CAL_STATUS.ANCHOR_STAGED then leBytes 8 s.anchor.mref ++ leBytes 4 s.anchor.change ++ leBytes 4 s.anchor.passed else leBytes 16 0)) →
    bs = (full.drop (k.p 8)).take (k.p 0xC) → Completes (.calRead cmd) s fun t =>
      Answered cmd { status := scOK, partialDone := decide (k.raddr ≠ 0 ∧ k.rlen < bs.length ∨ bs.length < k.p 0xC), result := if k.raddr = 0 then 0 else min bs.length k.rlen }
        { host := fun a => k.raddr ≠ 0 ∧ k.raddr ≤ a ∧ a < k.raddr + min bs.length k.rlen } s t ∧
      (k.raddr ≠ 0 → memRead hostReset t.host k.raddr (min bs.length k.rlen) = bs.take k.rlen)) ∧
  (s.ready? cmd opCALREAD = some k → (k.pf 0 7 0 = 3 ∨ k.pf 0 7 0 = 2 ∧ (s.tim (k.pf 0 26 16)).hist = []) → Completes (.calRead cmd) s fun t =>
    ∃ p r, Answered cmd { status := scOK, partialDone := p, result := r } { host := fun a => k.raddr ≠ 0 ∧ k.raddr ≤ a ∧ a < k.raddr + k.rlen, parts := fun x => { x with free := 0 } } s t) ∧
  (∀ inp, s.isSet 0 CAL_STATUS.ANCHOR_RUN = true → 4 ≤ s.anchor.step → s.anchor.step ≤ 6 → Completes (.anchorStep inp) s fun t =>
    t.anchor.step = s.anchor.step + 1 ∧ t.anchor.run = s.anchor.run ∧ Frame { parts := fun x => { x with anchor := {} } } s t) ∧
  (∀ r, s.isSet 0 CAL_STATUS.ANCHOR_RUN = true → s.anchor.block.getD 11 0 ≠ 0 → s.anchor.run = some r → s.cmd? r = some k → Completes .calAnchorTimeout s fun t =>
    t.isSet 0 CAL_STATUS.ANCHOR_RUN = false ∧ t.anchor = {} ∧ ∃ x ∈ t.cmds, x.isRef r = true ∧ x.ending ≠ none) ∧
  (∀ (x : Fin 8) rows tresH tresL, s.isSet (x * 0x10) CAL_TILE_ROT.XFER = true → s.mode ≠ stSAFE → (s.tile x).xferStep = 2 ∨ (s.tile x).xferStep = 3 →
    Completes (.transferStep x rows tresH tresL) s fun t => t.tile x = { s.tile x with xferStep := (s.tile x).xferStep + 1 } ∧
      Frame { parts := fun x => { x with tiles := [] } } s t) ∧
  (s.calDirty = true → s.isSet 0 CAL_STATUS.ARCH_BUSY = false → Completes .calArchiveTimer s fun t => t.isSet 0 CAL_STATUS.ARCH_BUSY = true ∧ t.archNow = []) ∧
  (s.isSet 0 CAL_STATUS.ARCH_BUSY = true → s.archNow = [] → s.archNext = none → Completes (.archiveWriteDone true) s fun t =>
    t.isSet 0 CAL_STATUS.ARCH_BUSY = false ∧ t.calDirty = false ∧ t.getF 0 CAL_ARCH_CNT.COUNT = (s.getF 0 CAL_ARCH_CNT.COUNT + 1) % 2 ^ 32)

/-- R209 to R212, R214, R222, R224: the anchor's and a transfer's steps, the commit edge, the archive (the model's reading: log entries 1,
49, 55). -/
def Obligations.CalibrationEventRows : Prop := ∀ (s : State) (n : Nat) (inp : AnchorIn) (t' : Fin 8),
  (s.isSet 0 CAL_STATUS.ANCHOR_RUN = false → Completes (.anchorStep inp) s (Frame {} s) ∧ Completes .calAnchorTimeout s (Frame {} s)) ∧
  (s.isSet 0 CAL_STATUS.ANCHOR_RUN = true → n = s.anchor.step → (n = 1 ∨ n = 2 ∧ s.standardFaults inp = [] ∨ 4 ≤ n ∧ n ≤ 6) → Completes (.anchorStep inp) s fun t =>
    (t.anchor.step = if n = 1 ∧ (∃ x < 8, s.getF (x * 0x10) CAL_TILE_ROT.ROT ≠ 0 ∨ s.isSet (x * 0x10) CAL_TILE_ROT.XFER = true) then 1 else n + 1) ∧
    (∀ i : Fin 32, t.anchor.failed.testBit i = (s.anchor.failed.testBit i || decide (i ∈ inp.failed))) ∧ Frame { parts := fun x => { x with anchor := {} } } s t) ∧
  (∀ (r : CmdRef) (k : Cmd) (l : List (Nat × Option Nat)), s.isSet 0 CAL_STATUS.ANCHOR_RUN = true → s.anchor.step = 2 → s.anchor.run = some r →
    s.cmd? r = some k → l = s.standardFaults inp → l ≠ [] →
    (∀ e ∈ l, (s.inst (instKey e.1 scMODULE 0)).force = false ∧ s.getF (4 * e.1) FLT_CLASS.LEVEL = 0) → Completes (.anchorStep inp) s fun t =>
      t.isSet 0 CAL_STATUS.ANCHOR_RUN = false ∧ t.anchor = {} ∧
      (∀ e ∈ l, (t.inst (instKey e.1 scMODULE 0)).force = true ∧ ∀ d, e.2 = some d → (t.inst (instKey e.1 scMODULE 0)).detail = d) ∧
      Answered r { status := scABORTFAULT, detail := l.foldl (fun m e => min m e.1) 0xFF }
        { regs := fun a => a = CAL_STATUS.ANCHOR_RUN.off ∨ (∃ e ∈ l, a = FLT_CLASS.DCNT.off + 4 * e.1) ∨ a = FLT_BB_STATUS.LOST.off,
          parts := fun x => { x with anchor := {}, insts := [], lastCls := [], bbStage := [], free := 0 } } s t) ∧
  (∀ e ∈ s.standardFaults inp, (e.1 = 0x05 ∧ ∃ d < 3, e.2 = some d) ∨ e = (0x0D, none)) ∧
  (∀ v : Int, v = signed 64 ((s.anchor.block.getD 0 0).toNat + (s.anchor.block.getD 1 0).toNat * 2 ^ 32) →
    (inp.vx < -100000000 → (0x05, some 0) ∈ s.standardFaults inp) ∧
    ((0 ≤ v ∧ v = inp.vx ∧ 0 ≤ inp.senseA ∧ inp.senseA ≤ inp.forceA ∧ 0 ≤ inp.senseB ∧ inp.senseB ≤ inp.forceB ∧
      inp.senseA * 10 = ((s.anchor.block.getD 2 0).toNat + (s.anchor.block.getD 3 0).toNat * 2 ^ 32 : Nat) ∧
      inp.senseB = ((s.anchor.block.getD 4 0).toNat + (s.anchor.block.getD 5 0).toNat * 2 ^ 32 : Nat)) → s.standardFaults inp = [])) ∧
  (s.isSet 0 CAL_STATUS.ANCHOR_RUN = true → s.anchor.step = 3 → Completes (.anchorStep inp) s fun t => t.anchor.step = 4 ∧ t.anchor.run = s.anchor.run ∧
    Frame { parts := fun x => { x with anchor := {}, free := 0 } } s t) ∧
  (∀ (r : CmdRef) (k : Cmd), s.isSet 0 CAL_STATUS.ANCHOR_RUN = true → s.anchor.step = 7 → inp.rows = [] → inp.tres = [] → s.anchor.run = some r → s.cmd? r = some k →
    k.raddr = 0 → Completes (.anchorStep inp) s fun t => t.isSet 0 CAL_STATUS.ANCHOR_STAGED = true ∧ t.isSet 0 CAL_STATUS.ANCHOR_RUN = false ∧ t.anchor.step = 8 ∧
      t.anchor.mref = s.anchor.mref ∧ t.anchor.passed = 0 ∧
      Answered ⟨k.sq, k.tag⟩ { status := scOK, result := s.anchor.change * 2 ^ 32 } { regs := fun a => a = CAL_STATUS.ANCHOR_RUN.off, parts := fun x => { x with anchor := {} } } s t) ∧
  (∀ (r : CmdRef) (k : Cmd), s.isSet 0 CAL_STATUS.ANCHOR_RUN = true → s.anchor.block.getD 11 0 ≠ 0 → s.anchor.run = some r → s.cmd? r = some k →
    Completes .calAnchorTimeout s fun t =>
    t.isSet 0 CAL_STATUS.ANCHOR_RUN = false ∧ t.anchor = {} ∧ t.isSet 0 CAL_STATUS.ANCHOR_STAGED = s.isSet 0 CAL_STATUS.ANCHOR_STAGED ∧
    ∃ e, Answered r e { regs := fun a => a = CAL_STATUS.ANCHOR_RUN.off, parts := fun x => { x with anchor := {}, free := 0 } } s t) ∧
  (s.anchor.block.getD 11 0 = 0 → Completes .calAnchorTimeout s (Frame {} s)) ∧
  (∀ (rows : List (Fin 4 × CalRow)) (tresH tresL : List (Fin 4 × BitVec 64)), s.isSet (t' * 0x10) CAL_TILE_ROT.XFER = false ∨ s.mode = stSAFE ∨
      (s.tile t').xferStep = 1 ∧ s.getF (t' * 0x10) CAL_TILE_ROT.ROT ≠ 0 → Completes (.transferStep t' rows tresH tresL) s (Frame {} s)) ∧
  (∀ (rows : List (Fin 4 × CalRow)) (tresH tresL : List (Fin 4 × BitVec 64)) (h l : Nat), s.isSet (t' * 0x10) CAL_TILE_ROT.XFER = true → s.mode ≠ stSAFE → n = (s.tile t').xferStep →
    (n < 4 → (n = 1 → s.getF (t' * 0x10) CAL_TILE_ROT.ROT = 0) → Completes (.transferStep t' rows tresH tresL) s fun t => t.tile t' = { s.tile t' with xferStep := n + 1 } ∧
      Frame { parts := fun x => { x with tiles := [] } } s t) ∧
    (n = 4 → rows = [] → (tresH = [] ∧ tresL = [] ∧ h = s.cal (tileRec t' + 16) 8 ∧ l = s.cal (tileRec t' + 24) 8 ∨
        ∃ (k : Fin 4) (x y : BitVec 64), tresH = [(k, x)] ∧ tresL = [(k, y)] ∧ s.shadeState (4 * t' + k) = 0 ∧ s.underTest (1024 + 4 * t' + k) = false ∧ h = x.toNat ∧ l = y.toNat) →
      Completes (.transferStep t' rows tresH tresL) s fun t => (t.tile t').xferStep = 5 ∧ (t.tile t').xferAt = some (s.tile t').xferStart ∧
      t.getF (t' * 0x10) CAL_TILE_TX.TEMP = (s.tile t').xferTemp % 2 ^ 16 ∧ t.isSet 0 CAL_STATUS.XFER_STAGED = true ∧ t.stagedXfer.testBit t' = true ∧
      t'.val ∈ t.stagedTiles ∧ t.sramN (calStage + tileRec t' + 16) 8 = h ∧ t.sramN (calStage + tileRec t' + 24) 8 = l ∧
      Frame { regs := fun a => a = CAL_STATUS.XFER_STAGED.off ∨ a = t' * 0x10 + CAL_TILE_TX.TEMP.off, sram := fun a => calStage + tileRec t' ≤ a ∧ a < calStage + tileRec t' + 64, parts := fun x => { x with tiles := [], stagedTiles := [], stagedXfer := 0, free := 0 } } s t) ∧
    (5 ≤ n → Completes (.transferStep t' rows tresH tresL) s fun t => t.isSet (t' * 0x10) CAL_TILE_ROT.XFER = false ∧ t.isSet (t' * 0x10) CAL_TILE_ROT.DUE = false ∧
      (t.tile t').xferStep = 0 ∧ (t.tile t').xferEnd = some s.uptime ∧
      t.commitPend = (s.commitPend || (s.isSet 0 CAL_CTRL.AUTO_COMMIT && !s.isSet 0 CAL_STATUS.ANCHOR_STAGED)) ∧
      Frame { regs := fun a => a = t' * 0x10 + CAL_TILE_ROT.XFER.off, parts := fun x => { x with tiles := [], commitPend := false } } s t)) ∧
  (s.commitPend = false → Completes .commitEdge s (Frame {} s)) ∧
  (∀ (r : CmdRef) (k : Cmd), s.commitPend = true → s.anyStaged = false → s.commitCmds = [r] → s.cmd? r = some k → Completes .commitEdge s fun t => t.commitPend = false ∧
    Answered r { status := scOK, result := s.gen } { parts := fun x => { x with commitPend := false, commitCmds := [] } } s t) ∧
  (∀ (g : Nat), s.commitPend = true → s.anyStaged = true → s.isSet 0 CAL_STATUS.ANCHOR_STAGED = false → s.timingNew = [] → (∀ e ∈ s.stagedUnits, e.1 < 1056) →
    (∀ x ∈ s.stagedTiles, x < 8) → g = (if s.gen = 0xFFFF then 1 else s.gen + 1) → Completes .commitEdge s fun t => t.gen = g ∧ t.commitPend = false ∧ t.anyStaged = false ∧
      t.isSet 0 CAL_STATUS.XFER_STAGED = false ∧ t.calDirty = true ∧ (∀ e ∈ s.stagedUnits, ∀ i, (i < 440 ∨ e.2.isSome = true ∧ (i < 704 ∨ recForce ≤ i ∧ i < recForce + 8)) →
        t.sramByte (calBase + feRec e.1 + i) = s.sramByte (calStage + feRec e.1 + i)) ∧
      (∀ x ∈ s.stagedTiles, ∀ i, (16 ≤ i ∧ i < 32 ∨ s.stagedXfer.testBit x = true ∧ (i < 2 ∨ 8 ≤ i ∧ i < 16)) → t.sramByte (calBase + tileRec x + i) = s.sramByte (calStage + tileRec x + i)) ∧
      (∀ x < 8, s.stagedXfer.testBit x = true → t.isSet (x * 0x10) CAL_TILE_ROT.PASS = true ∧ (t.tile x).passDone = 0) ∧
      (∀ c ∈ s.cmds, c.ending = none → ⟨c.sq, c.tag⟩ ∈ s.commitCmds → ∃ c' ∈ t.cmds, c'.sq = c.sq ∧ c'.tag = c.tag ∧ c'.ending = some { status := scOK, result := g }) ∧
      Frame { regs := fun a => a = CAL_GEN.GEN.off ∨ a = CAL_STATUS.XFER_STAGED.off ∨ ∃ x < 8, a = x * 0x10 + CAL_TILE_ROT.PASS.off, sram := fun a => calBase ≤ a ∧ a < calStage + 0x100000, parts := fun x => { x with tiles := [], commitPend := false, commitCmds := [], stagedUnits := [], stagedTiles := [], stagedXfer := 0, anchor := {}, rotAt := [], calDirty := false, jobs := [] } } s t) ∧
  (∀ (u : Nat) (x : Timing), s.commitPend = true → s.anyStaged = true → s.isSet 0 CAL_STATUS.ANCHOR_STAGED = false → s.timingNew = [(u, x)] → Completes .commitEdge s fun t =>
    t.tim u = x ∧ t.timingNew = [] ∧ (u < 1024 → s.patRunning u = true → (t.tdc u).held = some (s.edgeTim u))) ∧
  (∀ (g : Nat), s.commitPend = true → s.isSet 0 CAL_STATUS.ANCHOR_STAGED = true → s.anchor.tol = [] → s.isSet 0 CAL_STATUS.ARCH_BUSY = false → s.timingNew = [] →
    s.anchor.mref < 2 ^ 64 → s.calTime < 2 ^ 64 → g = (if s.gen = 0xFFFF then 1 else s.gen + 1) → Completes .commitEdge s fun t => t.gen = g ∧ t.getF 0 CAL_GEN.ANCHOR_GEN = g ∧
      t.commitPend = false ∧ t.isSet 0 CAL_STATUS.ANCHOR_STAGED = false ∧ t.isSet 0 CAL_STATUS.ARCH_BUSY = true ∧ t.archNow = s.commitCmds ∧
      t.getF 0 CAL_MREF_LO.NV + 2 ^ 32 * t.getF 0 CAL_MREF_HI.NV = s.anchor.mref ∧ t.getF 0 CAL_ANCHOR_TIME_LO.SEC + 2 ^ 32 * t.getF 0 CAL_ANCHOR_TIME_HI.SEC = s.calTime ∧
      ∀ x < 8, t.isSet (x * 0x10) CAL_TILE_ROT.DUE = true) ∧
  (s.calDirty = true → s.isSet 0 CAL_STATUS.ARCH_BUSY = false → Completes .calArchiveTimer s fun t => t.isSet 0 CAL_STATUS.ARCH_BUSY = true ∧ t.archNow = [] ∧
    Frame { regs := fun a => a = CAL_STATUS.ARCH_BUSY.off, parts := fun x => { x with archNow := [] } } s t) ∧
  (s.calDirty = false ∨ s.isSet 0 CAL_STATUS.ARCH_BUSY = true → Completes .calArchiveTimer s (Frame {} s)) ∧
  (∀ ok, s.isSet 0 CAL_STATUS.ARCH_BUSY = false → Completes (.archiveWriteDone ok) s (Frame {} s)) ∧
  (∀ (ok : Bool) (r : CmdRef) (k : Cmd), s.isSet 0 CAL_STATUS.ARCH_BUSY = true → s.archNow = [r] → s.cmd? r = some k → Completes (.archiveWriteDone ok) s fun t =>
    (∃ x ∈ t.cmds, x.isRef r = true ∧ x.ending = some { status := scOK, partialDone := !ok, result := if k.op = opCOMMIT then s.gen else 0 }) ∧
    t.archNow = s.archNext.getD [] ∧ t.archNext = none ∧ t.isSet 0 CAL_STATUS.ARCH_BUSY = s.archNext.isSome ∧
    (ok = false → t.isSet 0 CAL_STATUS.ARCH_ERR = true ∧ t.calDirty = s.calDirty ∧
      Frame { regs := fun a => a = CAL_STATUS.ARCH_ERR.off, parts := fun x => { x with archNow := [], archNext := none } } s t) ∧
    (ok = true → t.calDirty = false ∧ t.getF 0 CAL_ARCH_CNT.COUNT = (s.getF 0 CAL_ARCH_CNT.COUNT + 1) % 2 ^ 32 ∧
      (∃ n < 4, (∀ i < recEnd, t.flashByte (0xC00000 + 0x100000 * n + i) = t.sramByte (calBase + i)) ∧
        ∀ a, (a < 0xC00000 + 0x100000 * n ∨ 0xD00000 + 0x100000 * n ≤ a) → t.flashByte a = s.flashByte a) ∧
      Frame { regs := fun a => a = CAL_STATUS.ARCH_BUSY.off ∨ a = CAL_ARCH_CNT.COUNT.off, sram := fun a => calBase ≤ a ∧ a < calBase + recEnd, flash := fun _ => True, parts := fun x => { x with archNow := [], archNext := none, calDirty := false } } s t))

/-- R216 to R220, R229, R230: rotation of channels through their shades, permanent remapping (the model's reading: log entries 1, 55). -/
def Obligations.RotationRows : Prop := ∀ (nn : Fin 32) (s : State) (r : Rot) (t' : Nat), r = s.rot nn → t' = nn.val / 4 →
  (∀ t'' : Fin 8, s.isSet 0 CAL_CTRL.ROT_EN = true → (s.mode = stREADY ∨ s.mode = stACTIVE) → s.isSet (t'' * 0x10) CAL_TILE_ROT.PASS = false →
    Completes (.rotationPassStart t'') s fun t => t.isSet (t'' * 0x10) CAL_TILE_ROT.PASS = true ∧ (t.tile t'').passDone = 0 ∧
      Frame { regs := fun a => a = t'' * 0x10 + CAL_TILE_ROT.PASS.off, parts := fun x => { x with tiles := [] } } s t) ∧
  (∀ t'' : Fin 8, s.isSet 0 CAL_CTRL.ROT_EN = false ∨ (s.mode ≠ stREADY ∧ s.mode ≠ stACTIVE) ∨ s.isSet (t'' * 0x10) CAL_TILE_ROT.PASS = true →
    Completes (.rotationPassStart t'') s (Frame {} s)) ∧
  (r.active = true ∨ s.rotAllowed t' = false → Completes (.rotationStart nn) s (Frame {} s)) ∧
  (∀ (i c : Nat), r.active = false → s.rotAllowed t' = true → i < 32 → c = t' * 128 + nn % 4 * 32 + i → s.eligible c = true → s.isSet (4 * c) CAL_FE_STATE.OWED = true →
    s.isSet 0 CAL_CTRL.ROT_EN = true → (∀ j < i, s.isSet (4 * (t' * 128 + nn % 4 * 32 + j)) CAL_FE_STATE.OWED = false) → Completes (.rotationStart nn) s fun t =>
      (t.rot nn).active = true ∧ (t.rot nn).chan = c ∧ (t.rot nn).step = 0 ∧
      (t.rot nn).direct = (!s.feOn c && decide ((s.adc c).conv = none ∧ (s.adc c).running = false ∧ (s.adc c).inj = [] ∧ (s.adc c).heldInj = [])) ∧
      (t.getF (t' * 0x10) CAL_TILE_ROT.ROT).testBit (nn % 4) = true ∧
      Frame { regs := fun a => a = t' * 0x10 + CAL_TILE_ROT.ROT.off, adcs := fun u => u = c, parts := fun x => { x with rots := [] } } s t) ∧
  (r.active = false ∨ 7 ≤ r.step → ∀ row, Completes (.handoverStep nn row) s (Frame {} s)) ∧
  (∀ row, r.active = true → r.direct = true → r.step = 0 → Completes (.handoverStep nn row) s fun t => t.rot nn = { r with step := 4 } ∧
    Frame { parts := fun x => { x with rots := [] } } s t) ∧
  (∀ row, r.active = true → r.direct = false → r.step = 0 → (s.adc r.chan).conv ≠ none → Completes (.handoverStep nn row) s (Frame {} s)) ∧
  (∀ row, r.active = true → r.direct = false → r.step = 0 → (s.adc r.chan).conv = none → r.chan < 1024 → (s.fe (1024 + nn)).contact = none → (s.fe r.chan).contact = none →
    Completes (.handoverStep nn row) s fun t => t.rot nn = { r with step := 1 } ∧ t.isSet (feB r.chan) CHN_FE_STATUS.ROTATED = true ∧
      (t.fe (1024 + nn)).mode = (s.fe r.chan).mode ∧ (t.fe (1024 + nn)).code = (s.fe r.chan).code ∧
      t.rd (shB nn + CHN_ICLAMP.CODE.off) = s.rd (feB r.chan + CHN_ICLAMP.CODE.off) ∧ t.rd (shB nn + CHN_VCLAMP.LO.off) = s.rd (feB r.chan + CHN_VCLAMP.LO.off)) ∧
  (∀ row, r.active = true → r.direct = false → r.step = 1 → (s.fe (1024 + nn)).contact = none → Completes (.handoverStep nn row) s fun t => t.rot nn = { r with step := 2 } ∧
    (s.feOn r.chan = true → t.isSet (shB nn) CHN_FE_STATUS.EN = true ∧ t.isSet (shB nn) CHN_FE_STATUS.DRIVING = true) ∧
    Frame { regs := fun a => a = shB nn + CHN_FE_STATUS.EN.off, parts := fun x => { x with rots := [] } } s t) ∧
  (∀ row, r.active = true → r.direct = false → (r.step = 2 ∨ r.step = 3 ∨ r.step = 5) → Completes (.handoverStep nn row) s fun t => t.rot nn = { r with step := r.step + 1 } ∧
    Frame { parts := fun x => { x with rots := [] } } s t) ∧
  (∀ row, r.active = true → r.direct = false → r.step = 4 → row.fail ≠ none → Completes (.handoverStep nn row) s fun t => t.rot nn = { r with step := 5, row := some row } ∧
    Frame { parts := fun x => { x with rots := [] } } s t) ∧
  (∀ row o, r.active = true → r.direct = false → r.step = 4 → row.fail = none → row.data.length = 704 → r.chan < 1024 → o = feRec r.chan + 440 →
    Completes (.handoverStep nn row) s fun t => t.rot nn = { r with step := 5, row := some row, old := memRead sramReset s.sram (calBase + o) 264 } ∧
      (∀ j < 264, t.sramByte (calBase + o + j) = row.data.getD (440 + j) 0) ∧
      Frame { sram := fun a => calBase + o ≤ a ∧ a < calBase + o + 264 ∨ s.anyStaged = true ∧ calStage + o ≤ a ∧ a < calStage + o + 264,
              parts := fun x => { x with rots := [] } } s t) ∧
  (∀ row, r.active = true → r.direct = false → r.step = 6 → (s.fe (1024 + nn)).contact = none → Completes (.handoverStep nn row) s fun t => t.rot nn = { r with step := 7 } ∧
    t.isSet (shB nn) CHN_FE_STATUS.EN = false ∧ t.isSet (shB nn) CHN_FE_STATUS.DRIVING = false ∧
    Frame { regs := fun a => a = shB nn + CHN_FE_STATUS.EN.off, parts := fun x => { x with rots := [] } } s t) ∧
  (∀ (row : CalRow) (i : Instr), r.active = true → r.chan < 1024 → row.fail = none → row.data.length = 704 →
    (i = .handoverStep nn row ∧ r.direct = true ∧ 1 ≤ r.step ∧ r.step < 7 ∨ i = .rotationHandback nn ∧ r.step = 7 ∧ r.row = some row ∧ (s.adc r.chan).conv = none) → Completes i s fun t =>
      t.rot nn = {} ∧ t.isSet (4 * r.chan) CAL_FE_STATE.OWED = false ∧ t.getF (4 * r.chan) CAL_FE_STATE.STATE = 0 ∧ t.getF (4 * r.chan) CAL_FE_STATE.FAILS = 0 ∧
      (∀ j < 704, t.sramByte (calBase + feRec r.chan + j) = row.data.getD j 0) ∧ (t.tile (r.chan / 128)).passDone.testBit (r.chan % 128) = true ∧ t.calDirty = true ∧
      (t.getF (t' * 0x10) CAL_TILE_ROT.ROT).testBit (nn % 4) = false) ∧
  (r.active = true → r.step = 7 → (s.adc r.chan).conv ≠ none → Completes (.rotationHandback nn) s fun t => (t.adc r.chan) = { s.adc r.chan with hold := 3 } ∧
    Frame { adcs := fun u => u = r.chan } s t) ∧
  (r.active = false ∨ r.step ≠ 7 → Completes (.rotationHandback nn) s (Frame {} s)) ∧
  (r.active = true → r.step = 1 → r.direct = false → r.old = [] → r.chan < 1024 → shadeOf r.chan = nn → Completes (.rotationAbandon nn) s fun t => t.rot nn = {} ∧
    t.getF 0 CAL_ROT_ABANDON.COUNT = min (s.getF 0 CAL_ROT_ABANDON.COUNT + 1) (2 ^ 32 - 1) ∧ t.isSet (4 * r.chan) CAL_FE_STATE.OWED = true ∧
    ∀ a, t.sramByte a = s.sramByte a) ∧
  (r.active = false ∨ r.step ≠ 1 ∨ r.direct = true → Completes (.rotationAbandon nn) s (Frame {} s))

/-- R216 to R218, R229, R230, R364: CAL_ROTATE (the model's reading: log entries 1, 55). -/
def Obligations.RotateCommandRows : Prop := ∀ (cmd : CmdRef) (k : Cmd) (s : State), s.ready? cmd opROTATE = some k →
  (k.pf 0 2 0 = 0 → s.mode = stSERVICE → Completes (.calRotatePass cmd) s (Answered cmd { status := scSTATE, detail := 1 } {} s)) ∧
  (∀ ts, k.pf 0 2 0 = 0 → s.mode ≠ stSERVICE → ts = bitsSet 8 (k.pf 0 15 8) →
    (∀ x ∈ ts, ∃ l < 128, s.isSet (4 * (x * 128 + l)) CAL_FE_STATE.OWED = false ∧ s.isSet (feB (x * 128 + l)) CHN_FE_STATUS.REMAPPED = false) → ts ≠ [] →
    Completes (.calRotatePass cmd) s fun t => Begun cmd { regs := fun a => ∃ x < 8, a = x * 0x10 + CAL_TILE_ROT.PASS.off, parts := fun x => { x with tiles := [] } } s t ∧
      ∀ x ∈ ts, t.isSet (x * 0x10) CAL_TILE_ROT.PASS = true ∧ (t.tile x).passDone = 0) ∧
  (k.pf 0 2 0 = 1 → s.mode = stSERVICE → Completes (.calRotateChannels cmd) s (Answered cmd { status := scSTATE, detail := 1 } {} s)) ∧
  (k.pf 0 2 0 = 1 → s.mode ≠ stSERVICE → (∃ c ∈ k.chans, s.faultHolds c = true) → Completes (.calRotateChannels cmd) s (Answered cmd { status := scSTATE, detail := 2 } {} s)) ∧
  (k.pf 0 2 0 = 1 → s.mode ≠ stSERVICE → (∀ c ∈ k.chans, s.faultHolds c = false ∧ c < 1024) → Completes (.calRotateChannels cmd) s fun t =>
    (∀ c ∈ k.chans, s.eligible c = false → (s.rot (shadeOf c)).active = false → t.isSet (4 * c) CAL_FE_STATE.OWED = true) ∧
    ((∃ c ∈ k.chans, s.eligible c = true ∨ (s.rot (shadeOf c)).active = true) → ∃ x ∈ t.cmds, x.isRef cmd = true ∧ x.started = true) ∧
    ((∀ c ∈ k.chans, s.eligible c = false ∧ (s.rot (shadeOf c)).active = false) → ∃ x ∈ t.cmds, x.isRef cmd = true ∧ x.ending = some { status := scOK, result := k.chans.length * 2 ^ 32 }) ∧
    Frame { regs := fun a => (∃ c ∈ k.chans, a = 4 * c + CAL_FE_STATE.OWED.off) ∨ ∃ x < 8, a = x * 0x10 + CAL_TILE_ROT.OWED.off } s t) ∧
  (∀ nn row, k.pf 0 2 0 = 2 → nn = k.pf 0 20 16 → s.shadeState nn ≠ 1 → Completes (.calRotateRequalify cmd row) s (Answered cmd { status := scSTATE, detail := 6 } {} s)) ∧
  (∀ nn row term, k.pf 0 2 0 = 2 → nn = k.pf 0 20 16 → s.shadeState nn = 1 → row.fail = some term → (s.inst (instKey 0x0D scSHADE nn)).force = false →
    s.getF (4 * 0x0D) FLT_CLASS.LEVEL = 0 → Completes (.calRotateRequalify cmd row) s fun t => (t.inst (instKey 0x0D scSHADE nn)).force = true ∧
      (t.inst (instKey 0x0D scSHADE nn)).detail = term ∧ t.shadeState nn = 1 ∧
      Answered cmd { status := scOK, result := 0 } { regs := fun a => a = FLT_CLASS.DCNT.off + 4 * 0x0D ∨ a = FLT_BB_STATUS.LOST.off, parts := fun x => { x with insts := [], lastCls := [], bbStage := [] } } s t) ∧
  (∀ nn row, k.pf 0 2 0 = 2 → nn = k.pf 0 20 16 → s.shadeState nn = 1 → row.fail = none → row.data.length = 704 → Completes (.calRotateRequalify cmd row) s fun t =>
    Answered cmd { status := scOK, result := 1 } { regs := fun a => a = nn / 4 * 0x10 + CAL_TILE_SHD.STATE.off ∨ a = 4 * (1024 + nn) + CAL_FE_STATE.STATE.off, sram := fun a => calBase ≤ a ∧ a < calBase + recEnd, parts := fun x => { x with rotAt := [], calDirty := false } } s t ∧
    t.shadeState nn = 0 ∧ t.calDirty = true ∧ ∀ j < 704, t.sramByte (calBase + feRec (1024 + nn) + j) = row.data.getD j 0) ∧
  (∀ c cs e, k.pf 0 2 0 = 3 → k.chans = c :: cs → s.remapCheck cmd c = some e → Completes (.calRotateRemap cmd) s (Answered cmd e {} s)) ∧
  (∀ c cs nn, k.pf 0 2 0 = 3 → k.chans = c :: cs → c < 1024 → s.remapCheck cmd c = none → nn = shadeOf c → (s.fe c).contact = none → Completes (.calRotateRemap cmd) s fun t =>
    t.isSet (4 * nn) CAL_REMAP.VALID = true ∧ t.getF (4 * nn) CAL_REMAP.LOCAL = c % 128 ∧ t.shadeState nn = 2 ∧ t.isSet (feB c) CHN_FE_STATUS.REMAPPED = true ∧
    t.isSet (4 * c) CAL_FE_STATE.OWED = false ∧ t.isSet 0 CAL_STATUS.ARCH_BUSY = true ∧ (s.isSet 0 CAL_STATUS.ARCH_BUSY = false → t.archNow = [cmd]) ∧
    ∃ x ∈ t.cmds, x.isRef cmd = true ∧ x.started = true) ∧
  (∀ c cs, k.pf 0 2 0 = 4 → k.chans = c :: cs → (s.isSet (feB c) CHN_FE_STATUS.REMAPPED = false ∨ s.feOn (s.phys c) = true ∨ s.otherFor cmd c = true) →
    Completes (.calRotateUnmap cmd) s (Answered cmd { status := scSTATE, detail := 2 } {} s)) ∧
  (∀ c cs nn, k.pf 0 2 0 = 4 → k.chans = c :: cs → c < 1024 → s.isSet (feB c) CHN_FE_STATUS.REMAPPED = true → s.feOn (s.phys c) = false → s.otherFor cmd c = false →
    nn = shadeOf c → (s.fe c).contact = none → Completes (.calRotateUnmap cmd) s fun t =>
      t.isSet (4 * nn) CAL_REMAP.VALID = false ∧ t.getF (4 * nn) CAL_REMAP.LOCAL = 0 ∧ t.shadeState nn = 0 ∧ t.isSet (feB c) CHN_FE_STATUS.REMAPPED = false ∧
      t.isSet (4 * c) CAL_FE_STATE.OWED = true ∧ t.isSet 0 CAL_STATUS.ARCH_BUSY = true ∧ ∃ x ∈ t.cmds, x.isRef cmd = true ∧ x.started = true)

/-- R231 to R233: self-test (the model's reading: log entries 1, 55). -/
def Obligations.SelftestRows : Prop := ∀ (cmd : CmdRef) (k : Cmd) (s : State) (l : List Test),
  (s.ready? cmd opSELFTEST = some k → (∃ e ∈ k.testUnits, s.testIdle e.1 e.2 = true) →
    l = k.testUnits.map (fun e => { cmd := cmd, code := e.1, unit := e.2, outcome := if s.testIdle e.1 e.2 then none else some 2 }) → Completes (.selftest cmd) s fun t =>
      t.tests = s.tests ++ l ∧ Begun cmd { parts := fun x => { x with tests := [] } } s t) ∧
  (s.ready? cmd opSELFTEST = some k → (∀ e ∈ k.testUnits, s.testIdle e.1 e.2 = false) → (∀ x ∈ s.tests, x.cmd ≠ cmd) → k.stopAsked = none → k.raddr = 0 → Completes (.selftest cmd) s fun t =>
    t.tests = s.tests ∧ Answered cmd { status := scOK, partialDone := !k.testUnits.isEmpty, result := k.testUnits.length } { parts := fun x => { x with free := 0 } } s t) ∧
  (∀ (n : Nat) (pass : Bool) (d : Word), (∀ x, s.tests[n]? = some x → x.outcome ≠ none) → Completes (.selftestTestDone n pass d) s (Frame {} s)) ∧
  (∀ (n : Nat) (x : Test) (d : Word), s.tests[n]? = some x → x.outcome = none → (∃ m y, m ≠ n ∧ s.tests[m]? = some y ∧ y.cmd = x.cmd ∧ y.outcome = none) →
    Completes (.selftestTestDone n true d) s fun t => t.tests = s.tests.set n { x with outcome := some 0, detail := d.toNat } ∧
      Frame { parts := fun x => { x with tests := [] } } s t) ∧
  (∀ (n u : Nat) (x : Test) (d : Word), s.tests[n]? = some x → x.outcome = none → (∃ m y, m ≠ n ∧ s.tests[m]? = some y ∧ y.cmd = x.cmd ∧ y.outcome = none) →
    (x.code = 2 ∨ x.code = 3) → x.unit = u → u < 1024 → (s.inst (instKey 0x0D scCHANNEL u)).force = false → s.getF (4 * 0x0D) FLT_CLASS.LEVEL = 0 →
    Completes (.selftestTestDone n false d) s fun t => t.tests = s.tests.set n { x with outcome := some 1, detail := d.toNat } ∧
      (t.inst (instKey 0x0D scCHANNEL u)).force = true ∧ (t.inst (instKey 0x0D scCHANNEL u)).detail = d.toNat ∧
      Frame { regs := fun a => a = FLT_CLASS.DCNT.off + 4 * 0x0D ∨ a = FLT_BB_STATUS.LOST.off, parts := fun x => { x with tests := [], insts := [], lastCls := [], bbStage := [] } } s t) ∧
  (∀ (n : Nat) (x : Test) (d : Word), s.tests[n]? = some x → x.outcome = none → x.cmd = cmd → s.running? cmd opSELFTEST = some k → k.stopAsked = none → k.raddr = 0 →
    (∀ m y, m ≠ n → s.tests[m]? = some y → y.cmd = cmd → y.outcome ≠ none) → l = s.tests.filter (fun y => decide (y.cmd = cmd)) → Completes (.selftestTestDone n true d) s fun t =>
      (∀ y ∈ t.tests, y.cmd ≠ cmd) ∧ (∀ y ∈ s.tests, y.cmd ≠ cmd → y ∈ t.tests) ∧
      Answered cmd { status := scOK, partialDone := l.any fun y => y.outcome == some 2, result := l.length + (l.filter fun y => y.outcome == some 1).length * 2 ^ 32 }
        { parts := fun x => { x with tests := [], free := 0 } } s t)

/-- Registers that show a port's training: its status, counts and lane maps, its lanes' status. -/
def Sys2Proof.Machine.linkRegs (p a : Nat) : Prop :=
  a = pB p + LNK_P_STATUS.STATE.off ∨ a = pB p + LNK_P_CNT.DOWNS.off ∨ a = pB p + LNK_P_MAP.RXSP.off ∨ a = pB p + LNK_P_TXMAP.TXSP.off ∨
    ∃ l < 5, a = lB p l + LNK_P_L_STATUS.SLOCK.off

/-- Port p is in state st, not trained and not up, from s to t; a fall of UP is counted (R271). -/
structure Sys2Proof.Machine.Untrained (p st : Nat) (s t : State) : Prop where
  state : t.pst p = st
  up : t.isUp p = false
  shown : t.getF (pB p) LNK_P_STATUS.GEN = 0 ∧ t.getF (pB p) LNK_P_STATUS.WIDTH = 3 ∧ t.getF (pB p) LNK_P_STATUS.TX_LS = 0 ∧
    t.getF (pB p) LNK_P_STATUS.RX_LS = 0
  maps : ∀ (tx : Bool), ∀ k < 5, t.lmap p tx k = 7
  lanes : ∀ l < 5, t.isSet (lB p l) LNK_P_L_STATUS.SLOCK = false ∧ t.isSet (lB p l) LNK_P_L_STATUS.BLOCK = false ∧ t.role p true l = 0 ∧ t.role p false l = 0
  down : s.isUp p = true → t.isSet (pB p) LNK_P_STATUS.DOWN_SEEN = true ∧ t.getF (pB p) LNK_P_CNT.DOWNS = min (s.getF (pB p) LNK_P_CNT.DOWNS + 1) 255 ∧
    (t.port p).fell = true
  hidden : (t.port p).w = 0 ∧ (t.port p).lanes = [] ∧ (t.port p).recov = false ∧ (t.port p).pend = 0 ∧ (t.port p).spRx = none ∧ (t.port p).spTx = none

/-- Port p is in DETECT with CAPGEN at MAXGEN (R272). -/
structure Sys2Proof.Machine.Restarted (p st : Nat) (s t : State) : Prop where
  port : Untrained p st s t
  cap : t.getF (pB p) LNK_P_STATUS.CAPGEN = s.maxGen p

/-- Port p is in RECOVERY from ACTIVE (R279). -/
structure Sys2Proof.Machine.Recovering (p : Nat) (s t : State) : Prop where
  state : t.pst p = 6
  up : t.isUp p = s.isUp p
  count : t.getF (pB p) LNK_P_CNT.RECOVS = min (s.getF (pB p) LNK_P_CNT.RECOVS + 1) 255
  awake : t.getF (pB p) LNK_P_STATUS.TX_LS = 0 ∧ t.getF (pB p) LNK_P_STATUS.RX_LS = 0
  locks : ∀ l < 5, t.isSet (lB p l) LNK_P_L_STATUS.SLOCK = false ∧ t.isSet (lB p l) LNK_P_L_STATUS.BLOCK = false
  hidden : (t.port p).recov = true ∧ (t.port p).spRx = none ∧ (t.port p).spTx = none ∧ (t.port p).pend = 0

/-- R271 to R276: detection, POLL, CONFIG, SPEED and their time-outs (the model's reading: log entries 1, 28, 55). -/
def Obligations.LinkTrainingRows : Prop := ∀ (p : Fin 4) (l : Fin 5) (ts : Ts) (s : State),
  (∀ i, i = .detectProbe p true ∨ i = .ts1Receive p l ts → s.pst p = 0 → (s.port p).released = true → s.clocked = true → Completes i s fun t => t.pst p = 1 ∧
    (t.port p).still = (s.port p).untrained.still ∧ (∀ k < 5, t.getF (lB p k) LNK_P_L_TXEQ.PRE = (s.preset p).1 ∧
      t.getF (lB p k) LNK_P_L_TXEQ.MAIN = (s.preset p).2.1 ∧ t.getF (lB p k) LNK_P_L_TXEQ.POST = (s.preset p).2.2) ∧
    Frame { regs := fun a => a = pB p + LNK_P_STATUS.STATE.off ∨ ∃ k < 5, a = lB p k + LNK_P_L_TXEQ.PRE.off, ports := fun i => i = p } s t) ∧
  (∀ found, found = false ∨ s.pst p ≠ 0 ∨ (s.port p).released = false ∨ s.clocked = false → Completes (.detectProbe p found) s (Frame {} s)) ∧
  (∀ i, i = .ts1Receive p l ts ∨ i = .ts2Receive p l ts → s.pst p = 1 → Completes i s fun t =>
    t.isSet (lB p l) LNK_P_L_STATUS.SLOCK = true ∧ t.isSet (lB p l) LNK_P_L_STATUS.BLOCK = true ∧
    t.isSet (lB p l) LNK_P_L_STATUS.INV = (s.isSet (lB p l) LNK_P_L_STATUS.INV ^^ ts.inv) ∧
    (t.pst p = if (s.port p).sent = true ∧ ((s.port p).lock = true ∨ ts.inv = false ∧ 8 ≤ ((s.port p).lane l).run + 1) then 2 else 1) ∧
    (t.pst p = 1 → ((t.port p).lane l).run = if ts.inv then 0 else ((s.port p).lane l).run + 1) ∧
    t.getF (lB p l) LNK_P_L_RXEQ.ITER = s.getF (lB p l) LNK_P_L_RXEQ.ITER ∧
    Frame { regs := fun a => a = pB p + LNK_P_STATUS.STATE.off ∨ a = pB p + LNK_P_MAP.RXINV.off ∨ a = lB p l + LNK_P_L_STATUS.SLOCK.off ∨
              s.isSet (lB p l) LNK_P_L_STATUS.BLOCK = false ∧ a = lB p l + LNK_P_L_RXEQ.ITER.off,
            ports := fun i => i = p, parts := fun x => { x with free := if s.isSet (lB p l) LNK_P_L_STATUS.BLOCK then x.free else 0 } } s t) ∧
  ((s.port p).pend = 0 → s.pst p = 1 → Completes (.tsSendCount p) s fun t => (t.pst p = if (s.port p).lock then 2 else 1) ∧
    ((s.port p).lock = false → (t.port p).still = { (s.port p) with sent := true }.still) ∧
    Frame { regs := fun a => a = pB p + LNK_P_STATUS.STATE.off, ports := fun i => i = p } s t) ∧
  (∀ x, s.pst p = 2 → ts.inv = false → x = (s.port p).lane l → ((s.port p).w ≠ 0 ∨ (tally x.ok ts.rxok.toNat).2 < 8 ∨ ts.rxok = 0) → Completes (.ts1Receive p l ts) s fun t =>
    t.pst p = 2 ∧ t.getF (pB p) LNK_P_PARTNER.DEVTYPE = ts.devtype.toNat ∧ t.isSet (pB p) LNK_P_PARTNER.SPARE_CAP = ts.spareCap ∧
    t.getF (pB p) LNK_P_PARTNER.MAXW = ts.maxw.toNat ∧ t.getF (pB p) LNK_P_PARTNER.RATES = ts.rates.toNat ∧
    (t.port p).lane l = { x with run := x.run + 1, good := if ts.err then (0, 0) else tally x.good ts.lane.toNat, ok := tally x.ok ts.rxok.toNat } ∧
    (t.port p).rxok = (if ts.err = false ∧ 8 ≤ (tally x.good ts.lane.toNat).2 ∧ ts.lane.toNat < 5 ∧ (s.port p).failed.testBit l = false then setBit (s.port p).rxok ts.lane.toNat true
      else (s.port p).rxok) ∧
    Frame { regs := fun a => a = pB p + LNK_P_PARTNER.MAXW.off ∨ a = lB p l + LNK_P_L_STATUS.SLOCK.off, ports := fun i => i = p } s t) ∧
  (∀ m, s.pst p = 2 → ts.inv = false → ts.err = true → (s.port p).w = 0 → ((s.port p).lane l).ok.1 = ts.rxok.toNat → 7 ≤ ((s.port p).lane l).ok.2 → ts.rxok ≠ 0 →
    m = min (min (s.maxW p) (maxwLanes ts.maxw.toNat)) (min (popCount 5 ts.rxok.toNat) (popCount 5 (s.port p).rxok)) →
    (m = 0 → Completes (.ts1Receive p l ts) s fun t => Untrained p 0 s t ∧
      ((s.port p).gen ≤ 3 → t.getF (pB p) LNK_P_STATUS.CAPGEN = if (s.port p).eq = true ∧ (s.port p).recov = false ∧ 1 < (s.port p).gen then (s.port p).gen - 1
        else s.getF (pB p) LNK_P_STATUS.CAPGEN) ∧
      Frame { regs := fun a => linkRegs p a ∨ a = pB p + LNK_P_PARTNER.MAXW.off, ports := fun i => i = p } s t) ∧
    (m ≠ 0 → Completes (.ts1Receive p l ts) s fun t => t.pst p = 2 ∧ (t.port p).w = (if 4 ≤ m then 4 else if 2 ≤ m then 2 else m) ∧
      (∀ k < (t.port p).w, t.lmap p true k = (bitsSet 5 ts.rxok.toNat).getD k 7 ∧ t.role p true ((bitsSet 5 ts.rxok.toNat).getD k 7) = 1) ∧
      t.lmap p true 4 = (if s.isSet (pB p) LNK_P_CTRL.SPARE_EN = true ∧ ts.spareCap = true then (bitsSet 5 ts.rxok.toNat).getD (t.port p).w 7 else 7) ∧
      Frame { regs := fun a => linkRegs p a ∨ a = pB p + LNK_P_PARTNER.MAXW.off, ports := fun i => i = p } s t)) ∧
  (s.pst p = 2 → ts.inv = false → (s.port p).sent = false → Completes (.ts2Receive p l ts) s fun t => t.pst p = 2 ∧ (t.port p).ts2 = true ∧
    ((t.port p).lane l).ts2 = tally ((s.port p).lane l).ts2 ts.lane.toNat ∧ t.getF (pB p) LNK_P_PARTNER.RATES = ts.rates.toNat ∧
    Frame { regs := fun a => a = pB p + LNK_P_PARTNER.MAXW.off ∨ a = lB p l + LNK_P_L_STATUS.SLOCK.off, ports := fun i => i = p } s t) ∧
  (∀ q : Port, q = s.port p → s.pst p = 2 → q.pend = 0 → q.ts2 = true → { q with sent := true }.configDone = true →
    (q.recov = false → q.gen < s.target p → Completes (.tsSendCount p) s fun t => t.pst p = 3 ∧ (t.port p).w1 = q.w ∧
      (∀ k < q.w, k < 4 → t.lmap p false k = (q.rxOf k 16).headD 7 % 8) ∧ Frame { regs := linkRegs p, ports := fun i => i = p } s t) ∧
    (q.recov = false → s.target p ≤ q.gen → q.eq = true → q.w < q.w1 → 1 < q.gen → q.gen ≤ 3 → Completes (.tsSendCount p) s fun t => Untrained p 0 s t ∧
      t.getF (pB p) LNK_P_STATUS.CAPGEN = q.gen - 1 ∧ Frame { regs := linkRegs p, ports := fun i => i = p } s t) ∧
    (q.recov = true → q.gen ≤ 3 → (s.isUp p = true → maxwLanes (s.getF (pB p) LNK_P_STATUS.WIDTH) ≤ q.w) → Completes (.tsSendCount p) s fun t => t.pst p = 5 ∧
      t.isUp p = true ∧ t.getF (pB p) LNK_P_STATUS.GEN = q.gen ∧ t.getF (pB p) LNK_P_STATUS.WIDTH = widthCode q.w ∧ (t.port p).recov = false ∧
      (t.port p).exp = q.exp ∧ (t.port p).lp = q.sendCredit.lp ∧
      Frame { regs := linkRegs p, ports := fun i => i = p } s t) ∧
    (q.recov = false → q.gen ≤ 3 → s.target p ≤ q.gen → q.eq = false → s.commonGen p (s.maxGen p) ≤ q.gen → min (s.maxW p) (s.peerW p) ≤ q.w → q.fell = false → Completes (.tsSendCount p) s fun t =>
      t.pst p = 5 ∧ t.isUp p = true ∧ t.getF (pB p) LNK_P_STATUS.GEN = q.gen ∧ t.getF (pB p) LNK_P_STATUS.WIDTH = widthCode q.w ∧ (t.port p).exp = 0 ∧
      (t.port p).init = false ∧ t.getF (pB p) LNK_P_CNT.TRAINS = min (s.getF (pB p) LNK_P_CNT.TRAINS + 1) 255 ∧
      Frame { regs := linkRegs p, ports := fun i => i = p } s t)) ∧
  (s.pst p = 1 ∨ s.pst p = 2 ∨ s.pst p = 6 → Completes (.trainingTimeout p) s fun t => Untrained p 0 s t ∧
    t.getF (pB p) LNK_P_STATUS.CAPGEN = s.getF (pB p) LNK_P_STATUS.CAPGEN ∧ Frame { regs := linkRegs p, ports := fun i => i = p } s t) ∧
  (s.pst p = 3 → Completes (.trainingTimeout p) s fun t => Untrained p 0 s t ∧ t.getF (pB p) LNK_P_STATUS.CAPGEN = max 1 (s.target p - 1) ∧
    Frame { regs := linkRegs p, ports := fun i => i = p } s t) ∧
  (s.pst p ∉ [1, 2, 3, 4, 6] → Completes (.trainingTimeout p) s (Frame {} s)) ∧
  (s.pst p = 6 → Completes (.symbolLockRegained p) s fun t => t.pst p = 2 ∧ (∀ k < 5, (s.usedLanes p false).testBit k = true →
      t.isSet (lB p k) LNK_P_L_STATUS.SLOCK = true ∧ t.isSet (lB p k) LNK_P_L_STATUS.BLOCK = true) ∧ (t.port p).sent = false ∧ (t.port p).rxok = 0 ∧ (t.port p).w = 0 ∧
    Frame { regs := linkRegs p, ports := fun i => i = p } s t) ∧
  (s.pst p ≠ 6 → Completes (.symbolLockRegained p) s (Frame {} s))

/-- R275 to R277: SPEED and EQ (the model's reading: log entries 1, 28, 31, 55). -/
def Obligations.EqualizationRows : Prop := ∀ (p : Fin 4) (l : Fin 5) (s : State),
  (s.pst p = 3 → Completes (.speedRetuneDone p) s fun t => t.pst p = 4 ∧ (t.port p).gen = s.target p ∧ (t.port p).doneTx = 0 ∧ (t.port p).doneRx = 0 ∧
    (t.port p).checked = 0 ∧ (∀ k < 5, (s.usedLanes p true).testBit k = true → t.getF (lB p k) LNK_P_L_TXEQ.PRE = (s.preset p).1 ∧
      t.getF (lB p k) LNK_P_L_TXEQ.MAIN = (s.preset p).2.1 ∧ t.getF (lB p k) LNK_P_L_TXEQ.POST = (s.preset p).2.2) ∧
    (∀ k < 5, (s.usedLanes p false).testBit k = true → t.getF (lB p k) LNK_P_L_RXEQ.ITER = 0) ∧
    Frame { regs := fun a => a = pB p + LNK_P_STATUS.STATE.off ∨ ∃ k < 5, a = lB p k + LNK_P_L_TXEQ.PRE.off ∨ a = lB p k + LNK_P_L_RXEQ.ITER.off, ports := fun i => i = p } s t) ∧
  (s.pst p ≠ 3 → Completes (.speedRetuneDone p) s (Frame {} s)) ∧
  (∀ taps, s.pst p = 4 → Completes (.eqAdaptEnd p taps) s fun t => (∀ k < 5, (s.usedLanes p false).testBit k = true →
      ((t.port p).lane k).valid = true ∧ ((t.port p).lane k).req = (taps.getD k ((0, 0), {})).2 ∧
      t.getF (lB p k) LNK_P_L_RXEQ.CTLE = (taps.getD k ((0, 0), {})).1.1.toNat ∧ t.getF (lB p k) LNK_P_L_RXEQ.DFE = (taps.getD k ((0, 0), {})).1.2.toNat ∧
      t.isSet (lB p k) LNK_P_L_STATUS.SLOCK = true ∧ t.isSet (lB p k) LNK_P_L_STATUS.BLOCK = true ∧ ((t.port p).lane k).reqTag = (((s.port p).lane k).reqTag + 1) % 4) ∧
    Frame { regs := fun a => ∃ k < 5, a = lB p k + LNK_P_L_RXEQ.ITER.off ∨ a = lB p k + LNK_P_L_STATUS.SLOCK.off, ports := fun i => i = p } s t) ∧
  (∀ taps, s.pst p ≠ 4 → Completes (.eqAdaptEnd p taps) s (Frame {} s)) ∧
  (∀ ts : Ts, s.pst p = 4 → Completes (.ts1Receive p l ts) s fun t => ((t.port p).lane l).seen = some ts.ackTag.toNat ∧
    (∀ k, k ≠ l.val → (t.port p).lane k = (s.port p).lane k) ∧ Frame { ports := fun i => i = p } s t) ∧
  (∀ (tag : BitVec 2) (mv : EqMove) (a b c : Int), s.pst p = 4 → (∃ k < 5, (s.usedLanes p false).testBit k = true ∧ (s.port p).checked.testBit k = false) →
    ((s.port p).lane l).ackTag ≠ some tag.toNat → a = moveTap (s.getF (lB p l) LNK_P_L_TXEQ.PRE) mv.pre → b = moveTap (s.getF (lB p l) LNK_P_L_TXEQ.MAIN) mv.main →
    c = moveTap (s.getF (lB p l) LNK_P_L_TXEQ.POST) mv.post →
    (0 ≤ a → a ≤ 6 → 16 ≤ b → b ≤ 32 → 0 ≤ c → c ≤ 12 → a + b + c ≤ 32 → a + c + 8 ≤ b → Completes (.eqRequest p l tag true mv false) s fun t =>
      t.pst p = 4 ∧ (t.getF (lB p l) LNK_P_L_TXEQ.PRE : Int) = a ∧ (t.getF (lB p l) LNK_P_L_TXEQ.MAIN : Int) = b ∧ (t.getF (lB p l) LNK_P_L_TXEQ.POST : Int) = c ∧
      ((t.port p).lane l).ackTag = some tag.toNat ∧ (t.port p).doneRx = (s.port p).doneRx ∧
      ((t.port p).lane l).eqstat = b2n (moved mv.pre) + 4 * b2n (moved mv.main) + 16 * b2n (moved mv.post) ∧
      Frame { regs := fun r => r = lB p l + LNK_P_L_TXEQ.PRE.off, ports := fun i => i = p } s t) ∧
    (a < 0 ∨ 6 < a ∨ b < 16 ∨ 32 < b ∨ c < 0 ∨ 12 < c ∨ 32 < a + b + c ∨ b < a + c + 8 → Completes (.eqRequest p l tag true mv false) s fun t => t.pst p = 4 ∧
      ((t.port p).lane l).ackTag = some tag.toNat ∧ ((t.port p).lane l).eqstat = 2 * (b2n (moved mv.pre) + 4 * b2n (moved mv.main) + 16 * b2n (moved mv.post)) ∧
      Frame { ports := fun i => i = p } s t)) ∧
  (∀ (tag : BitVec 2) (valid : Bool) (mv : EqMove), s.pst p = 4 → (∃ k < 5, (s.usedLanes p false).testBit k = true ∧ (s.port p).checked.testBit k = false) →
    valid = false ∨ ((s.port p).lane l).ackTag = some tag.toNat → Completes (.eqRequest p l tag valid mv true) s fun t =>
      (t.port p).still = { (s.port p) with doneRx := setBit (s.port p).doneRx l true }.still ∧ Frame { ports := fun i => i = p } s t) ∧
  (∀ tag valid mv fin, s.pst p ≠ 4 → Completes (.eqRequest p l tag valid mv fin) s (Frame {} s)) ∧
  (∀ (dfe : BitVec 4) (better : Option EqMove) (n : Nat), s.pst p = 4 → (s.usedLanes p false).testBit l = true → (s.port p).doneTx.testBit l = false →
    (s.port p).checked.testBit l = false → ((s.port p).lane l).seen = some ((s.port p).lane l).reqTag → n = s.getF (lB p l) LNK_P_L_RXEQ.ITER + 1 →
    Completes (.eqIterationEnd p l dfe better) s fun t => t.pst p = 4 ∧
      t.getF (lB p l) LNK_P_L_RXEQ.ITER = n % 256 ∧ t.getF (lB p l) LNK_P_L_RXEQ.DFE = dfe.toNat ∧
      (t.port p).doneTx = (if better.isSome = true ∧ n < 64 then (s.port p).doneTx else setBit (s.port p).doneTx l true) ∧
      (∀ mv, better = some mv → n < 64 → ((t.port p).lane l).reqTag = (((s.port p).lane l).reqTag + 1) % 4 ∧ ((t.port p).lane l).req = mv ∧ ((t.port p).lane l).valid = true) ∧
      Frame { regs := fun a => a = lB p l + LNK_P_L_RXEQ.ITER.off, ports := fun i => i = p } s t) ∧
  (∀ dfe better, s.pst p ≠ 4 ∨ (s.usedLanes p false).testBit l = false ∨ (s.port p).doneTx.testBit l = true ∨
      ((s.port p).lane l).seen ≠ some ((s.port p).lane l).reqTag → Completes (.eqIterationEnd p l dfe better) s (Frame {} s)) ∧
  (∀ (h v : Byte) (pass : Bool), s.pst p = 4 → (s.usedLanes p false).testBit l = true → (s.port p).doneTx.testBit l = true →
    ((∃ k < 5, k ≠ l.val ∧ (s.usedLanes p false).testBit k = true ∧ (s.port p).checked.testBit k = false) → Completes (.eqMarginCheckEnd p l h v pass) s fun t => t.pst p = 4 ∧
      t.getF (lB p l) LNK_P_L_RXEQ.HMARGIN = h.toNat ∧ t.getF (lB p l) LNK_P_L_RXEQ.VMARGIN = v.toNat ∧ (t.port p).checked.testBit l = true ∧
      (t.port p).failed.testBit l = !pass ∧ Frame { regs := fun a => a = lB p l + LNK_P_L_RXEQ.ITER.off, ports := fun i => i = p } s t) ∧
    ((∀ k < 5, k ≠ l.val → (s.usedLanes p false).testBit k = true → (s.port p).checked.testBit k = true) →
      ((s.port p).late = true ∨ (∀ k < 5, (s.usedLanes p false).testBit k = true → (s.port p).doneTx.testBit k = true) ∧
        ∀ k < 5, (s.usedLanes p true).testBit k = true → (s.port p).doneRx.testBit k = true) → Completes (.eqMarginCheckEnd p l h v pass) s fun t =>
      t.pst p = 2 ∧ (t.port p).eq = true ∧ (t.port p).failed.testBit l = !pass ∧ (t.port p).rxok = 0 ∧ (t.port p).w = 0 ∧
      Frame { regs := fun a => a = pB p + LNK_P_STATUS.STATE.off ∨ a = lB p l + LNK_P_L_RXEQ.ITER.off, ports := fun i => i = p } s t)) ∧
  (∀ h v pass, s.pst p ≠ 4 ∨ (s.usedLanes p false).testBit l = false ∨ (s.port p).doneTx.testBit l = false → Completes (.eqMarginCheckEnd p l h v pass) s (Frame {} s)) ∧
  (s.pst p = 4 → (∃ k < 5, (s.usedLanes p false).testBit k = true ∧ (s.port p).checked.testBit k = false) → Completes (.trainingTimeout p) s fun t =>
    (t.port p).still = { (s.port p) with late := true, doneTx := 31 }.still ∧ Frame { ports := fun i => i = p } s t) ∧
  (s.pst p = 4 → (∀ k < 5, (s.usedLanes p false).testBit k = true → (s.port p).checked.testBit k = true) → Completes (.trainingTimeout p) s fun t =>
    t.pst p = 2 ∧ (t.port p).eq = true ∧ Frame { regs := fun a => a = pB p + LNK_P_STATUS.STATE.off, ports := fun i => i = p } s t)

/-- R279 to R282, R286, R288 to R291: what software asks of a port, and what the partner does (the model's reading: log entries 1, 55). -/
def Obligations.LinkControlRows : Prop := ∀ (p : Fin 4) (l : Fin 5) (on : Bool) (s : State),
  (s.writeOk (pB p + LNK_P_CTRL.RETRAIN.off) = false → ∀ i ∈ [Instr.retrain p, .hotrst p, .disable p on, .farlb p on, .nosleep p on], Completes i s (Frame {} s)) ∧
  (s.writeOk (pB p + LNK_P_CTRL.RETRAIN.off) = true → s.isSet (pB p) LNK_P_CTRL.RETRAIN = false → s.isSet (pB p) LNK_P_CTRL.HOTRST = false →
    (s.pst p ≠ 10 → (s.pst p = 8 → s.isSet (pB p) LNK_P_CTRL.DISABLE = false) →
      Completes (.retrain p) s (fun t => Restarted p 0 s t ∧ Frame { regs := linkRegs p, ports := fun i => i = p } s t) ∧
      Completes (.hotrst p) s fun t => Restarted p 7 s t ∧ Frame { regs := linkRegs p, ports := fun i => i = p } s t) ∧
    ((s.pst p = 10 ∨ s.pst p = 8 ∧ s.isSet (pB p) LNK_P_CTRL.DISABLE = true) →
      Completes (.retrain p) s (fun t => t.pst p = s.pst p ∧ t.getF (pB p) LNK_P_STATUS.CAPGEN = s.maxGen p ∧
        Frame { regs := fun a => a = pB p + LNK_P_STATUS.STATE.off } s t) ∧
      Completes (.hotrst p) s fun t => t.pst p = s.pst p ∧ t.getF (pB p) LNK_P_STATUS.CAPGEN = s.getF (pB p) LNK_P_STATUS.CAPGEN ∧
        Frame { regs := fun a => a = pB p + LNK_P_STATUS.STATE.off } s t) ∧
    (s.isSet (pB p) LNK_P_CTRL.DISABLE = false → s.pst p ≠ 8 → Completes (.disable p true) s fun t => t.isSet (pB p) LNK_P_CTRL.DISABLE = true ∧
      t.pst p = s.pst p ∧ t.getF (pB p) LNK_P_STATUS.TX_LS = 0 ∧ (t.port p).still = { (s.port p) with pend := 1, spRx := none, spTx := none }.still ∧
      Frame { regs := fun a => a = pB p + LNK_P_CTRL.DISABLE.off ∨ a = pB p + LNK_P_STATUS.STATE.off, ports := fun i => i = p } s t) ∧
    (s.isSet (pB p) LNK_P_CTRL.DISABLE = true → s.pst p = 8 → (s.port p).byPeer = false → Completes (.disable p false) s fun t => Restarted p 0 s t ∧
      t.isSet (pB p) LNK_P_CTRL.DISABLE = false ∧ Frame { regs := fun a => linkRegs p a ∨ a = pB p + LNK_P_CTRL.DISABLE.off, ports := fun i => i = p } s t) ∧
    (s.isSet (pB p) LNK_P_CTRL.FARLB = false → s.pst p = 5 → s.isSet (pB p) LNK_P_STATUS.UPSTREAM = false → Completes (.farlb p true) s fun t =>
      t.isSet (pB p) LNK_P_CTRL.FARLB = true ∧ t.pst p = 5 ∧ (t.port p).still = { (s.port p) with pend := 2, spRx := none, spTx := none }.still ∧
      Frame { regs := fun a => a = pB p + LNK_P_CTRL.FARLB.off ∨ a = pB p + LNK_P_STATUS.STATE.off, ports := fun i => i = p } s t) ∧
    (s.isSet (pB p) LNK_P_CTRL.FARLB = false → (s.pst p ≠ 5 ∨ s.isSet (pB p) LNK_P_STATUS.UPSTREAM = true) → Completes (.farlb p true) s fun t =>
      t.isSet (pB p) LNK_P_STATUS.CTLIGN = true ∧ t.isSet (pB p) LNK_P_CTRL.FARLB = false ∧ t.pst p = s.pst p ∧
      Frame { regs := fun a => a = pB p + LNK_P_STATUS.STATE.off } s t) ∧
    (s.isSet (pB p) LNK_P_CTRL.FARLB = true → s.pst p = 9 → (s.port p).slave = false → Completes (.farlb p false) s fun t => Restarted p 0 s t ∧
      t.isSet (pB p) LNK_P_CTRL.FARLB = false ∧ Frame { regs := fun a => linkRegs p a ∨ a = pB p + LNK_P_CTRL.FARLB.off, ports := fun i => i = p } s t) ∧
    (s.isSet (pB p) LNK_P_CTRL.FARLB = true → s.pst p = 5 → (s.port p).pend = 2 → Completes (.farlb p false) s fun t => (t.port p).pend = 0 ∧ t.pst p = 5 ∧
      t.isSet (pB p) LNK_P_CTRL.FARLB = false ∧ Frame { regs := fun a => a = pB p + LNK_P_STATUS.STATE.off ∨ a = pB p + LNK_P_CTRL.FARLB.off, ports := fun i => i = p } s t) ∧
    Completes (.nosleep p on) s fun t => t.isSet (pB p) LNK_P_CTRL.NOSLEEP = on ∧ t.pst p = s.pst p ∧ (on = true → t.getF (pB p) LNK_P_STATUS.TX_LS = 0) ∧
      Frame { regs := fun a => a = pB p + LNK_P_CTRL.NOSLEEP.off ∨ on = true ∧ a = pB p + LNK_P_STATUS.STATE.off } s t) ∧
  (s.pst p ∈ [1, 2, 5, 6] → (s.port p).pend ≠ 1 → Completes (.hotResetReceived p) s fun t => Restarted p 7 s t ∧
    Frame { regs := linkRegs p, ports := fun i => i = p } s t) ∧
  (s.pst p ∉ [1, 2, 5, 6] ∨ (s.port p).pend = 1 → Completes (.hotResetReceived p) s (Frame {} s)) ∧
  (∀ i, i = .hotresetEnd p ∧ s.pst p = 7 ∨ i = .disabledClockActivity p ∧ s.pst p = 8 ∧ (s.port p).byPeer = true ∨
      i = .loopbackSlaveIdle p ∧ s.pst p = 9 ∧ (s.port p).slave = true → Completes i s fun t => Restarted p 0 s t ∧
    Frame { regs := linkRegs p, ports := fun i => i = p } s t) ∧
  (∀ i, i = .hotresetEnd p ∧ s.pst p ≠ 7 ∨ i = .disabledClockActivity p ∧ (s.pst p ≠ 8 ∨ (s.port p).byPeer = false) ∨
      i = .loopbackSlaveIdle p ∧ (s.pst p ≠ 9 ∨ (s.port p).slave = false) → Completes i s (Frame {} s)) ∧
  (s.pst p ∈ [1, 2, 3, 4, 5, 6] → Completes (.disableReceived p) s fun t => Untrained p 8 s t ∧ (t.port p).byPeer = true ∧
    Frame { regs := linkRegs p, ports := fun i => i = p } s t) ∧
  (s.pst p ∉ [1, 2, 3, 4, 5, 6] → Completes (.disableReceived p) s (Frame {} s)) ∧
  ((s.port p).pend = 1 → s.isSet (pB p) LNK_P_CTRL.DISABLE = true → Completes (.tsSendCount p) s fun t => Untrained p 8 s t ∧ (t.port p).byPeer = false ∧
    Frame { regs := linkRegs p, ports := fun i => i = p } s t) ∧
  ((s.port p).pend = 1 → s.isSet (pB p) LNK_P_CTRL.DISABLE = false → Completes (.tsSendCount p) s fun t => Restarted p 0 s t ∧
    Frame { regs := linkRegs p, ports := fun i => i = p } s t) ∧
  ((s.port p).pend = 2 → s.pst p = 5 → Completes (.tsSendCount p) s fun t => Untrained p 9 s t ∧ (t.port p).slave = false ∧
    Frame { regs := linkRegs p, ports := fun i => i = p } s t) ∧
  (s.pst p = 5 → (s.port p).pend ≠ 1 → (s.port p).pend ≠ 2 → Completes (.loopbackReceived p) s fun t => Untrained p 9 s t ∧ (t.port p).slave = true ∧
    Frame { regs := linkRegs p, ports := fun i => i = p } s t) ∧
  (s.pst p = 5 → (s.port p).pend = 2 → (s.port p).stuck < 3 → Completes (.loopbackReceived p) s fun t => Recovering p s t ∧ t.isSet (pB p) LNK_P_CTRL.FARLB = false ∧
    t.isSet (pB p) LNK_P_STATUS.CTLIGN = true ∧ Frame { regs := fun a => linkRegs p a ∨ a = pB p + LNK_P_CTRL.FARLB.off, ports := fun i => i = p } s t) ∧
  (s.pst p ≠ 5 ∨ (s.port p).pend = 1 → Completes (.loopbackReceived p) s (Frame {} s)) ∧
  (s.writeOk (lB p l + LNK_P_L_CFG.INJ.off) = false → Completes (.nearlb p l on) s (Frame {} s) ∧ Completes (.prbsInj p l) s (Frame {} s)) ∧
  (s.writeOk (lB p l + LNK_P_L_CFG.INJ.off) = true → s.isSet (lB p l) LNK_P_L_CFG.INJ = false →
    (s.isSet (lB p l) LNK_P_L_CFG.NEARLB = false → s.pst p = 0 ∨ s.pst p = 8 → Completes (.nearlb p l true) s fun t => Untrained p 10 s t ∧
      t.isSet (lB p l) LNK_P_L_CFG.NEARLB = true ∧ t.isSet (lB p l) LNK_P_L_STATUS.PSYNC = (s.isSet (lB p l) LNK_P_L_CFG.GEN_EN && s.isSet (lB p l) LNK_P_L_CFG.CHK_EN) ∧
      Frame { regs := fun a => linkRegs p a ∨ a = lB p l + LNK_P_L_CFG.NEARLB.off, ports := fun i => i = p } s t) ∧
    (s.isSet (lB p l) LNK_P_L_CFG.NEARLB = false → s.pst p = 10 ∨ s.pst p ≠ 0 ∧ s.pst p ≠ 8 ∧ s.loopableSpare p l = true → Completes (.nearlb p l true) s fun t =>
      t.isSet (lB p l) LNK_P_L_CFG.NEARLB = true ∧ t.isSet (lB p l) LNK_P_L_STATUS.PSYNC = (s.isSet (lB p l) LNK_P_L_CFG.GEN_EN && s.isSet (lB p l) LNK_P_L_CFG.CHK_EN) ∧
      Frame { regs := fun a => a = lB p l + LNK_P_L_CFG.NEARLB.off ∨ a = lB p l + LNK_P_L_STATUS.PSYNC.off } s t) ∧
    (s.isSet (lB p l) LNK_P_L_CFG.NEARLB = false → s.pst p ∉ [0, 8, 10] → s.loopableSpare p l = false → Completes (.nearlb p l true) s fun t =>
      t.isSet (lB p l) LNK_P_L_CFG.NEARLB = false ∧ t.isSet (pB p) LNK_P_STATUS.CTLIGN = true ∧ t.isSet (lB p l) LNK_P_L_STATUS.PSYNC = false ∧
      Frame { regs := fun a => a = pB p + LNK_P_STATUS.CTLIGN.off ∨ a = lB p l + LNK_P_L_STATUS.PSYNC.off } s t) ∧
    (s.isSet (lB p l) LNK_P_L_CFG.NEARLB = true → s.pst p = 10 → (∀ k < 5, k ≠ l.val → s.isSet (lB p k) LNK_P_L_CFG.NEARLB = false) → Completes (.nearlb p l false) s fun t =>
      Restarted p 0 s t ∧ t.isSet (lB p l) LNK_P_L_CFG.NEARLB = false ∧ t.isSet (lB p l) LNK_P_L_STATUS.PSYNC = false ∧
      Frame { regs := fun a => linkRegs p a ∨ a = lB p l + LNK_P_L_CFG.NEARLB.off, ports := fun i => i = p } s t) ∧
    (s.isSet (lB p l) LNK_P_L_CFG.NEARLB = true → s.pst p ≠ 10 → Completes (.nearlb p l false) s fun t =>
      t.isSet (lB p l) LNK_P_L_CFG.NEARLB = false ∧ t.isSet (lB p l) LNK_P_L_STATUS.PSYNC = false ∧
      Frame { regs := fun a => a = lB p l + LNK_P_L_CFG.NEARLB.off ∨ a = lB p l + LNK_P_L_STATUS.PSYNC.off } s t) ∧
    (s.isSet (lB p l) LNK_P_L_CFG.NEARLB = true → s.isSet (lB p l) LNK_P_L_CFG.GEN_EN = true → s.isSet (lB p l) LNK_P_L_CFG.CHK_EN = true → Completes (.prbsInj p l) s fun t =>
      (∃ n < 16, t.getF (lB p l) LNK_P_L_PRBS_ERR.COUNT = min (s.getF (lB p l) LNK_P_L_PRBS_ERR.COUNT + n) (2 ^ 32 - 1) ∧
        (s.isSet (lB p l) LNK_P_L_CFG.MODE = true → n = 1)) ∧
      Frame { regs := fun a => a = lB p l + LNK_P_L_PRBS_ERR.COUNT.off ∨ a = lB p l + LNK_P_L_STATUS.PSYNC.off, parts := fun x => { x with free := 0 } } s t) ∧
    (s.isSet (lB p l) LNK_P_L_CFG.NEARLB = false ∨ s.isSet (lB p l) LNK_P_L_CFG.GEN_EN = false ∨ s.isSet (lB p l) LNK_P_L_CFG.CHK_EN = false → Completes (.prbsInj p l) s fun t =>
      t.isSet (lB p l) LNK_P_L_STATUS.PSYNC = false ∧ Frame { regs := fun a => a = lB p l + LNK_P_L_STATUS.PSYNC.off } s t))

/-- The receiver of lane l adapts its DFE: in use in ACTIVE and awake (R276). -/
def Sys2Proof.Machine.State.adapts (s : State) (p l : Nat) : Prop :=
  s.pst p = 5 ∧ s.getF (pB p) LNK_P_STATUS.RX_LS = 0 ∧ (s.usedLanes p false).testBit l = true

/-- R266, R269, R276, R279, R283 to R287, R304: lane health, sparing, sleep, RECOVERY (the model's reading: log entries 1, 31, 55, 71). -/
def Obligations.LinkHealthRows : Prop := ∀ (p : Fin 4) (l : Fin 5) (er : LaneErrs) (n : BitVec 21) (k : Fin 4) (s : State) (sp : Nat) (q : Port), sp = s.lmap p false 4 → q = s.port p →
  (∀ i, i = .laneFail p (l, er) ∧ s.getF (pB p) LNK_P_STATUS.RX_LS = 0 ∧ s.role p false l = 1 ∧ s.laneFails p er = true ∧ (sp = 7 ∨ q.spRx ≠ none) ∨ i = .sparingTimeout p ∧ q.spRx ≠ none ∨
      i = .spareFail (p, er, n) ∧ s.getF (pB p) LNK_P_STATUS.RX_LS = 0 ∧ (s.laneFails p er = true ∨ atLeast1 (s.getF (pB p) LNK_P_THR.FAIL) ≤ n.toNat) ∧ sp ≠ 7 ∧ q.spRx ≠ none ∨ i = .wakeLockTimeout p ∧ s.getF (pB p) LNK_P_STATUS.RX_LS ≠ 0 ∨ i = .creditTimeout p ∧ s.crStall p = true ∨
      (∃ x got, q.spRx = some x ∧ 2 ≤ x.stage ∧ skpOk got = false ∧ i = .skpSet p true got) ∨ (∃ ts, i = .ts1Receive p l ts ∧ 1 ≤ (q.lane l).run) → s.pst p = 5 →
    (q.stuck < 3 → Completes i s fun t => Recovering p s t ∧ (t.port p).stuck = (if q.replay = [] then 0 else q.stuck + 1) ∧
      Frame { regs := linkRegs p, ports := fun i => i = p } s t) ∧
    (3 ≤ q.stuck → Completes i s fun t => Restarted p 0 s t ∧ (t.port p).stuck = 0 ∧ Frame { regs := linkRegs p, ports := fun i => i = p } s t)) ∧
  (∀ i, i = .laneFail p (l, er) ∧ (s.pst p ≠ 5 ∨ s.getF (pB p) LNK_P_STATUS.RX_LS ≠ 0 ∨ s.role p false l ≠ 1 ∨ s.laneFails p er = false) ∨ i = .sparingTimeout p ∧ q.spRx = none ∨
      i = .spareFail (p, er, n) ∧ (s.pst p ≠ 5 ∨ s.getF (pB p) LNK_P_STATUS.RX_LS ≠ 0 ∨ sp = 7 ∨ s.laneFails p er = false ∧ n.toNat < atLeast1 (s.getF (pB p) LNK_P_THR.FAIL)) ∨ i = .wakeLockTimeout p ∧ s.getF (pB p) LNK_P_STATUS.RX_LS = 0 ∨ i = .creditTimeout p ∧ s.crStall p = false ∨
      (∃ rx got, i = .skpSet p rx got ∧ s.pst p ≠ 5) ∨ (∃ b, i = .slpReceived p b ∧ s.pst p ≠ 5) ∨ i = .rxWake p ∧ s.pst p ≠ 5 ∨
      i = .txWake p ∧ (s.pst p ≠ 5 ∨ s.getF (pB p) LNK_P_STATUS.TX_LS = 0) ∨ i = .beacon p ∧ s.getF (pB p) LNK_P_STATUS.TX_LS ≠ 2 ∨
      i = .beaconReceive p ∧ s.getF (pB p) LNK_P_STATUS.RX_LS ≠ 2 ∨ i = .beaconTimeout p ∧ (s.pst p ≠ 5 ∨ s.getF (pB p) LNK_P_STATUS.RX_LS ≠ 2) ∨
      (∃ b, i = .clockLaneLoss p b ∧ (s.pst p ≠ 5 ∨ 2 ≤ s.getF (pB p) LNK_P_STATUS.RX_LS)) ∨ i = .sleepEntry p ∧ s.mustWake p = true → Completes i s (Frame {} s)) ∧
  (∀ j, s.pst p = 5 → s.getF (pB p) LNK_P_STATUS.RX_LS = 0 → s.role p false l = 1 → s.laneFails p er = true → sp ≠ 7 → q.spRx = none → j < 4 → s.lmap p false j = l → (∀ i < j, s.lmap p false i ≠ l) →
    (∀ x ∈ s.tests, x.unit ≠ 0x10040 + 5 * p + sp) → Completes (.laneFail p (l, er)) s fun t => (t.port p).still = { q with spRx := some { k := j, old := l, spare := sp } }.still ∧
      Frame { regs := fun a => a = lB p sp + LNK_P_L_CFG.NEARLB.off ∨ a = lB p sp + LNK_P_L_STATUS.PSYNC.off, ports := fun i => i = p } s t) ∧
  (s.pst p = 5 → s.lmap p true 4 ≠ 7 → s.lmap p true k ≠ 7 → (∀ x ∈ s.tests, x.unit ≠ 0x10040 + 5 * p + s.lmap p true 4) → Completes (.lcsSteerReceived p k) s fun t =>
    (t.port p).still = { q with spTx := some { k := k } }.still ∧
    Frame { regs := fun a => a = lB p (s.lmap p true 4) + LNK_P_L_CFG.NEARLB.off ∨ a = lB p (s.lmap p true 4) + LNK_P_L_STATUS.PSYNC.off, ports := fun i => i = p } s t) ∧
  (s.pst p ≠ 5 ∨ s.lmap p true 4 = 7 ∨ s.lmap p true k = 7 → Completes (.lcsSteerReceived p k) s (Frame {} s)) ∧
  (∀ x, q.spRx = some x → x.k = k → x.stage = 0 → Completes (.lcsAckReceived p k) s fun t => (t.port p).still = { q with spRx := some { x with stage := 1 } }.still ∧
    Frame { ports := fun i => i = p } s t) ∧
  ((∀ x, q.spRx = some x → x.k = k → x.stage ≠ 0) → Completes (.lcsAckReceived p k) s (Frame {} s)) ∧
  (∀ x old nw, q.spTx = some x → s.pst p = 5 → x.k = k → old = s.lmap p true k → nw = s.lmap p true 4 → old ≠ nw → Completes (.lcsDoneReceived p k) s fun t =>
    t.lmap p true k = nw ∧ t.lmap p true 4 = 7 ∧ t.isSet (pB p) LNK_P_STATUS.SPARED = true ∧ t.isSet (pB p) LNK_P_STATUS.SPARE_OK = false ∧ t.role p true old = 3 ∧
    t.role p true nw = 1 ∧ (t.port p).spTx = none ∧ t.getF (pB p) LNK_P_CNT.SPARES = min (s.getF (pB p) LNK_P_CNT.SPARES + 1) 255 ∧
    Frame { regs := fun a => a = pB p + LNK_P_TXMAP.TXSP.off ∨ a = pB p + LNK_P_STATUS.SPARED.off ∨ a = pB p + LNK_P_CNT.SPARES.off ∨
      a = lB p old + LNK_P_L_STATUS.TXROLE.off ∨ a = lB p nw + LNK_P_L_STATUS.TXROLE.off, ports := fun i => i = p } s t) ∧
  ((∀ x, q.spTx = some x → s.pst p = 5 → x.k ≠ k) → Completes (.lcsDoneReceived p k) s (Frame {} s)) ∧
  (∀ x got, q.spRx = some x → s.pst p = 5 → x.stage = 1 ∨ x.stage = 2 ∧ skpOk got = true → Completes (.skpSet p true got) s fun t =>
    (t.port p).still = { q with spRx := some { x with stage := x.stage + 1 } }.still ∧ Frame { ports := fun i => i = p } s t) ∧
  (∀ x got, skpOk got = true → q.spRx = some x → s.pst p = 5 → 3 ≤ x.stage → x.k < 4 → x.old < 5 → x.spare < 5 → x.old ≠ x.spare → (s.inst (instKey 0x0F scPORT p)).force = false →
    s.getF (4 * 0x0F) FLT_CLASS.LEVEL = 0 → Completes (.skpSet p true got) s fun t => t.lmap p false x.k = x.spare ∧ t.lmap p false 4 = 7 ∧
      t.isSet (pB p) LNK_P_STATUS.SPARED = true ∧ t.role p false x.old = 3 ∧ t.role p false x.spare = 1 ∧ (t.port p).spRx = none ∧
      t.getF (pB p) LNK_P_CNT.SPARES = min (s.getF (pB p) LNK_P_CNT.SPARES + 1) 255 ∧ (t.inst (instKey 0x0F scPORT p)).force = true ∧
      (t.inst (instKey 0x0F scPORT p)).detail = x.k + 256 ∧
      Frame { regs := fun a => linkRegs p a ∨ a = FLT_CLASS.DCNT.off + 4 * 0x0F ∨ a = FLT_BB_STATUS.LOST.off, ports := fun i => i = p, parts := fun x => { x with insts := [], lastCls := [], bbStage := [] } } s t) ∧
  (∀ got, s.pst p = 5 → (q.spRx = none ∨ ∃ x, q.spRx = some x ∧ x.stage = 0) → Completes (.skpSet p true got) s (Frame {} s)) ∧
  (∀ got, s.pst p = 5 → Completes (.skpSet p false got) s fun t => (t.port p).still = { q with spTx := q.spTx.map fun (x : SpareTx) => { x with dup := true } }.still ∧
    Frame { ports := fun i => i = p } s t) ∧
  (s.pst p = 5 → s.getF (pB p) LNK_P_STATUS.RX_LS = 0 → (s.laneFails p er = true ∨ atLeast1 (s.getF (pB p) LNK_P_THR.FAIL) ≤ n.toNat) → sp ≠ 7 → q.spRx = none → (∀ x ∈ s.tests, x.unit ≠ 0x10040 + 5 * p + sp) → (s.inst (instKey 0x0E scPORT p)).force = false →
    s.getF (4 * 0x0E) FLT_CLASS.LEVEL = 0 → Completes (.spareFail (p, er, n)) s fun t => t.role p false sp = 3 ∧ t.lmap p false 4 = 7 ∧
      t.isSet (pB p) LNK_P_STATUS.SPARE_OK = false ∧ t.getF (pB p) LNK_P_STATUS.DCAUSE = 3 ∧ (t.inst (instKey 0x0E scPORT p)).force = true ∧
      (t.inst (instKey 0x0E scPORT p)).detail = 3 ∧
      Frame { regs := fun a => a = lB p sp + LNK_P_L_CFG.NEARLB.off ∨ a = lB p sp + LNK_P_L_STATUS.RXROLE.off ∨ a = pB p + LNK_P_MAP.RXSP.off ∨
                a = pB p + LNK_P_STATUS.DCAUSE.off ∨ a = FLT_CLASS.DCNT.off + 4 * 0x0E ∨ a = FLT_BB_STATUS.LOST.off, parts := fun x => { x with insts := [], lastCls := [], bbStage := [] } } s t) ∧
  (∀ syms errs, errs = (symErrs (q.lane l).rd syms).1 → s.pst p ≠ 5 ∨ s.role p false l ≠ 1 ∨ errs < atLeast1 (s.getF (pB p) LNK_P_THR.DEGR) →
    Completes (.laneDegradeWindow p l syms) s fun t =>
    t.getF (lB p l) LNK_P_L_SYMERR.COUNT = min (s.getF (lB p l) LNK_P_L_SYMERR.COUNT + errs) (2 ^ 32 - 1) ∧
    (t.port p).lane l = { q.lane l with rd := (symErrs (q.lane l).rd syms).2 } ∧ t.getF (lB p l) LNK_P_L_RXEQ.CTLE = s.getF (lB p l) LNK_P_L_RXEQ.CTLE ∧
    Frame { regs := fun a => a = lB p l + LNK_P_L_SYMERR.COUNT.off ∨ s.adapts p l ∧ a = lB p l + LNK_P_L_RXEQ.DFE.off, ports := fun i => i = p,
            parts := fun x => { x with free := 0 } } s t) ∧
  (∀ syms, s.pst p = 5 → s.role p false l = 1 → atLeast1 (s.getF (pB p) LNK_P_THR.DEGR) ≤ (symErrs (q.lane l).rd syms).1 → (s.inst (instKey 0x0E scPORT p)).force = false →
    s.getF (4 * 0x0E) FLT_CLASS.LEVEL = 0 → Completes (.laneDegradeWindow p l syms) s fun t => t.getF (pB p) LNK_P_STATUS.DCAUSE = 4 ∧
      t.getF (lB p l) LNK_P_L_SYMERR.COUNT = min (s.getF (lB p l) LNK_P_L_SYMERR.COUNT + (symErrs (q.lane l).rd syms).1) (2 ^ 32 - 1) ∧
      (t.inst (instKey 0x0E scPORT p)).force = true ∧ (t.inst (instKey 0x0E scPORT p)).detail = 4 ∧
      Frame { regs := fun a => a = lB p l + LNK_P_L_SYMERR.COUNT.off ∨ s.adapts p l ∧ a = lB p l + LNK_P_L_RXEQ.DFE.off ∨ a = pB p + LNK_P_STATUS.DCAUSE.off ∨
                a = FLT_CLASS.DCNT.off + 4 * 0x0E ∨ a = FLT_BB_STATUS.LOST.off, ports := fun i => i = p,
              parts := fun x => { x with insts := [], lastCls := [], bbStage := [], free := 0 } } s t) ∧
  (s.mustWake p = false → s.getF (pB p) LNK_P_STATUS.TX_LS = 0 → s.getF (pB p) LNK_P_SLEEP.DIM_IDLE ≠ 0 → Completes (.sleepEntry p) s fun t =>
    t.getF (pB p) LNK_P_STATUS.TX_LS = 1 ∧ t.getF (pB p) LNK_P_LSCNT.DIM = min (s.getF (pB p) LNK_P_LSCNT.DIM + 1) 65535 ∧
    Frame { regs := fun a => a = pB p + LNK_P_STATUS.TX_LS.off ∨ a = pB p + LNK_P_LSCNT.DIM.off } s t) ∧
  (s.mustWake p = false → (s.getF (pB p) LNK_P_STATUS.TX_LS = 1 ∨ s.getF (pB p) LNK_P_STATUS.TX_LS = 0 ∧ s.getF (pB p) LNK_P_SLEEP.DIM_IDLE = 0) →
    s.getF (pB p) LNK_P_SLEEP.DARK_IDLE ≠ 0 → Completes (.sleepEntry p) s fun t => t.getF (pB p) LNK_P_STATUS.TX_LS = 2 ∧
      t.getF (pB p) LNK_P_LSCNT.DARK = min (s.getF (pB p) LNK_P_LSCNT.DARK + 1) 65535 ∧ (t.port p).beaconAt = s.uptime ∧
      Frame { regs := fun a => a = pB p + LNK_P_STATUS.TX_LS.off ∨ a = pB p + LNK_P_LSCNT.DIM.off, ports := fun i => i = p } s t) ∧
  (∀ dark, s.pst p = 5 → Completes (.slpReceived p dark) s fun t => t.getF (pB p) LNK_P_STATUS.RX_LS = (if dark then 2 else 1) ∧
    (t.port p).still = { q with watch := s.uptime }.still ∧ Frame { regs := fun a => a = pB p + LNK_P_STATUS.RX_LS.off, ports := fun i => i = p } s t) ∧
  (s.pst p = 5 → s.getF (pB p) LNK_P_STATUS.TX_LS ≠ 0 → Completes (.txWake p) s fun t => t.getF (pB p) LNK_P_STATUS.TX_LS = 0 ∧ (t.port p).lp = q.sendCredit.lp ∧
    Frame { regs := fun a => a = pB p + LNK_P_STATUS.TX_LS.off, ports := fun i => i = p } s t) ∧
  (s.pst p = 5 → Completes (.rxWake p) s fun t => t.getF (pB p) LNK_P_STATUS.RX_LS = 0 ∧ (∀ k, (t.port p).lane k = { q.lane k with rd := false }) ∧
    (t.port p).still = { q with watch := s.uptime, lanes := q.lanes.map fun (x : Nat × Lane) => (x.1, { x.2 with rd := false }) }.still ∧
    Frame { regs := fun a => a = pB p + LNK_P_STATUS.RX_LS.off, ports := fun i => i = p } s t) ∧
  (s.getF (pB p) LNK_P_STATUS.TX_LS = 2 → Completes (.beacon p) s fun t => (t.port p).still = { q with beaconAt := s.uptime }.still ∧
    Frame { ports := fun i => i = p } s t) ∧
  (s.getF (pB p) LNK_P_STATUS.RX_LS = 2 → Completes (.beaconReceive p) s fun t => (t.port p).still = { q with watch := s.uptime }.still ∧
    Frame { ports := fun i => i = p } s t) ∧
  (∀ i b, i = .beaconTimeout p ∧ s.getF (pB p) LNK_P_STATUS.RX_LS = 2 ∨ i = .clockLaneLoss p b ∧ (s.getF (pB p) LNK_P_STATUS.RX_LS = 0 ∨
      s.getF (pB p) LNK_P_STATUS.RX_LS = 1 ∧ b = false) → s.pst p = 5 → Completes i s fun t => Restarted p 0 s t ∧
    Frame { regs := linkRegs p, ports := fun i => i = p } s t) ∧
  (s.pst p = 5 → s.getF (pB p) LNK_P_STATUS.RX_LS = 1 → Completes (.clockLaneLoss p true) s fun t => t.getF (pB p) LNK_P_STATUS.RX_LS = 2 ∧
    (t.port p).still = { q with watch := s.uptime }.still ∧ Frame { regs := fun a => a = pB p + LNK_P_STATUS.RX_LS.off, ports := fun i => i = p } s t)

/-- Packet e of the module's own waits to be sent or has been sent and is not acknowledged, with this module's ID as SRC. -/
def Sys2Proof.Machine.State.Sends (t : State) (e : Option Nat × Tp) : Prop :=
  e ∈ t.own ∨ ∃ y, ∃ x ∈ (t.port y).replay, x.from_ = 4 ∧ { x.tp with src := e.2.src } = e.2

/-- Packet tp that came by port p waits at port e or has been sent there and is not acknowledged. -/
def Sys2Proof.Machine.State.Passes (t : State) (p e : Nat) (tp : Tp) : Prop :=
  (p, tp) ∈ (t.port e).wait ∨ ∃ x ∈ (t.port e).replay, x.from_ = p ∧ x.tp = tp

/-- A packet number SEQ that port p expects next is accepted (R302). -/
structure Sys2Proof.Machine.Accepted (p : Nat) (s t : State) : Prop where
  exp : (t.port p).exp = ((s.port p).exp + 1) % 4096
  nak : (t.port p).nak = false
  acc : (t.port p).acc = if 8 ≤ (s.port p).acc + 1 then 0 else (s.port p).acc + 1
  ack : 8 ≤ (s.port p).acc + 1 → (t.port p).lp = some (1, (s.port p).exp % 4096 * 256, 0)

/-- R268, R297 to R303, R305: what a port accepts, discards, acknowledges (the model's reading: log entries 1, 23, 55). -/
def Obligations.PacketArrivalRows : Prop := ∀ (p : Fin 4) (seq : BitVec 12) (cols : List (List Symb)) (ecc : List (Fin 64 × Bool)) (tp : Tp) (s : State) (q : Port) (d : Nat),
  q = s.port p → d = (seq.toNat + 4096 - q.exp) % 4096 →
  (∀ crc lp, s.linked p = false ∨ framed cols = { last := some .edb } → Completes (.tpReceive p seq crc lp cols ecc tp) s (Frame {} s)) ∧
  (∀ crc lp f, s.linked p = true → f = framed cols → f.last ≠ some .eop →
    (f.lost = 0 → Completes (.tpReceive p seq crc lp cols ecc tp) s fun t =>
      t.getF (pB p) LNK_P_FERR.COUNT = min (s.getF (pB p) LNK_P_FERR.COUNT + f.errs) (2 ^ 32 - 1) ∧ Frame { regs := fun a => a = pB p + LNK_P_FERR.COUNT.off } s t) ∧
    (f.lost ≠ 0 → q.nak = false → Completes (.tpReceive p seq crc lp cols ecc tp) s fun t =>
      t.getF (pB p) LNK_P_FERR.COUNT = min (s.getF (pB p) LNK_P_FERR.COUNT + f.errs) (2 ^ 32 - 1) ∧
      t.getF (pB p) LNK_P_ERR1.CRC = min (s.getF (pB p) LNK_P_ERR1.CRC + f.lost) 65535 ∧ (t.port p).nak = true ∧ (t.port p).exp = q.exp ∧
      t.getF (pB p) LNK_P_ERR1.NAKTX = min (s.getF (pB p) LNK_P_ERR1.NAKTX + 1) 65535 ∧ (t.port p).lp = some (2, (q.exp + 4095) % 4096 * 256, 0) ∧
      Frame { regs := fun a => a = pB p + LNK_P_FERR.COUNT.off ∨ a = pB p + LNK_P_ERR1.CRC.off, ports := fun i => i = p } s t)) ∧
  (∀ crc (l : Lp), clean cols = true → s.linked p = true → crc ≠ some l.crc → Completes (.tpReceive p seq crc (some l) cols ecc tp) s fun t =>
    t.getF (pB p) LNK_P_ERR1.CRC = min (s.getF (pB p) LNK_P_ERR1.CRC + 1) 65535 ∧
    t.getF (pB p) LNK_P_ERR1.NAKTX = s.getF (pB p) LNK_P_ERR1.NAKTX ∧ Frame { regs := fun a => a = pB p + LNK_P_ERR1.CRC.off } s t) ∧
  (∀ crc, clean cols = true → s.linked p = true → crc ≠ some (tp.crc seq) → Completes (.tpReceive p seq crc none cols ecc tp) s fun t =>
    t.getF (pB p) LNK_P_ERR1.CRC = min (s.getF (pB p) LNK_P_ERR1.CRC + 1) 65535 ∧ (t.port p).nak = true ∧ (t.port p).exp = q.exp ∧
    (q.nak = false → t.getF (pB p) LNK_P_ERR1.NAKTX = min (s.getF (pB p) LNK_P_ERR1.NAKTX + 1) 65535 ∧ (t.port p).lp = some (2, (q.exp + 4095) % 4096 * 256, 0)) ∧
    (q.nak = true → t.getF (pB p) LNK_P_ERR1.NAKTX = s.getF (pB p) LNK_P_ERR1.NAKTX ∧ (t.port p).still = q.still) ∧
    Frame { regs := fun a => a = pB p + LNK_P_ERR1.CRC.off, ports := fun i => i = p } s t) ∧
  (clean cols = true → s.linked p = true → 2048 ≤ d → Completes (.tpReceive p seq (some (tp.crc seq)) none cols ecc tp) s fun t => (t.port p).still = { q with ackDue := true }.still ∧
    Frame { ports := fun i => i = p } s t) ∧
  (clean cols = true → s.linked p = true → 0 < d → d < 2048 → q.nak = false → Completes (.tpReceive p seq (some (tp.crc seq)) none cols ecc tp) s fun t => (t.port p).nak = true ∧ (t.port p).exp = q.exp ∧
    (t.port p).lp = some (2, (q.exp + 4095) % 4096 * 256, 0) ∧ t.getF (pB p) LNK_P_ERR1.NAKTX = min (s.getF (pB p) LNK_P_ERR1.NAKTX + 1) 65535 ∧
    Frame { regs := fun a => a = pB p + LNK_P_ERR1.NAKTX.off, ports := fun i => i = p } s t) ∧
  (clean cols = true → s.linked p = true → d = 0 → advUnits.get tp.cls < s.heldUnits p tp.cls + tp.units → q.stuck < 3 → Completes (.tpReceive p seq (some (tp.crc seq)) none cols ecc tp) s fun t =>
    Recovering p s t ∧ (t.port p).exp = q.exp ∧ t.getF (pB p) LNK_P_DROP.MALF = min (s.getF (pB p) LNK_P_DROP.MALF + 1) 255 ∧
    Frame { regs := fun a => linkRegs p a ∨ a = pB p + LNK_P_DROP.MALF.off, ports := fun i => i = p } s t) ∧
  (clean cols = true → s.linked p = true → d = 0 → s.heldUnits p tp.cls + tp.units ≤ advUnits.get tp.cls →
    (tp.malformed = true → Completes (.tpReceive p seq (some (tp.crc seq)) none cols ecc tp) s fun t => Accepted p s t ∧
      t.getF (pB p) LNK_P_DROP.MALF = min (s.getF (pB p) LNK_P_DROP.MALF + 1) 255 ∧ (tp.nonPosted = true → s.hasId = true → tp.dst.toNat = s.getF 0 LNK_ID.ID → t.Sends (tp.cpl 1)) ∧
      Frame { regs := fun a => a = pB p + LNK_P_DROP.MALF.off, ports := fun i => i = p } s t) ∧
    (tp.malformed = false → tp.isEnum = false → s.hasId = false → Completes (.tpReceive p seq (some (tp.crc seq)) none cols ecc tp) s fun t => Accepted p s t ∧
      t.getF (pB p) LNK_P_DROP.NOROUTE = min (s.getF (pB p) LNK_P_DROP.NOROUTE + 1) 65535 ∧
      Frame { regs := fun a => a = pB p + LNK_P_DROP.NOROUTE.off, ports := fun i => i = p } s t) ∧
    (tp.malformed = false → tp.isEnum = false → s.hasId = true → tp.dst.toNat ≠ s.getF 0 LNK_ID.ID → tp.ttl = 0 → Completes (.tpReceive p seq (some (tp.crc seq)) none cols ecc tp) s fun t =>
      Accepted p s t ∧ t.getF (pB p) LNK_P_DROP.TTL = min (s.getF (pB p) LNK_P_DROP.TTL + 1) 255 ∧
      Frame { regs := fun a => a = pB p + LNK_P_DROP.TTL.off, ports := fun i => i = p } s t) ∧
    (∀ e, tp.malformed = false → tp.isEnum = false → s.hasId = true → tp.dst.toNat ≠ s.getF 0 LNK_ID.ID → tp.ttl ≠ 0 → s.route tp.dst.toNat = some e → s.isUp e = true →
      e ≠ p.val → Completes (.tpReceive p seq (some (tp.crc seq)) none cols ecc tp) s fun t => Accepted p s t ∧ t.Passes p e { tp with ttl := tp.ttl - 1 } ∧
        Frame { ports := fun i => i = p } s t) ∧
    (tp.malformed = false → tp.isEnum = false → s.hasId = true → tp.dst.toNat ≠ s.getF 0 LNK_ID.ID → tp.ttl ≠ 0 →
      (∀ e, s.route tp.dst.toNat = some e → s.isUp e = false ∨ e = p.val) → Completes (.tpReceive p seq (some (tp.crc seq)) none cols ecc tp) s fun t => Accepted p s t ∧
        t.getF (pB p) LNK_P_DROP.NOROUTE = min (s.getF (pB p) LNK_P_DROP.NOROUTE + 1) 65535 ∧ (tp.nonPosted = true → t.Sends (tp.cpl 1)) ∧
        Frame { regs := fun a => a = pB p + LNK_P_DROP.NOROUTE.off, ports := fun i => i = p } s t))

/-- R300, R309 to R314, R403: packets for this module (the model's reading: log entries 1, 23, 55). -/
def Obligations.PacketConsumptionRows : Prop := ∀ (p : Fin 4) (seq : BitVec 12) (cols : List (List Symb)) (ecc : List (Fin 64 × Bool)) (tp : Tp) (s : State),
  clean cols = true → s.linked p = true → seq.toNat = (s.port p).exp → s.heldUnits p tp.cls + tp.units ≤ advUnits.get tp.cls → tp.malformed = false →
  (tp.isEnum = false → s.hasId = true → tp.dst.toNat = s.getF 0 LNK_ID.ID →
    (tp.typ = 0x10 ∨ tp.typ = 0x11 → Completes (.tpReceive p seq (some (tp.crc seq)) none cols ecc tp) s fun t => Accepted p s t ∧
      t.getF 0 LNK_UREQ.UREQ = min (s.getF 0 LNK_UREQ.UREQ + 1) 65535 ∧ (tp.typ = 0x11 → t.Sends (tp.cpl 1)) ∧
      Frame { regs := fun a => a = LNK_UREQ.UREQ.off, ports := fun i => i = p } s t) ∧
    (tp.typ = 0x20 ∨ tp.typ = 0x21 → tp.past = true → Completes (.tpReceive p seq (some (tp.crc seq)) none cols ecc tp) s fun t => Accepted p s t ∧ t.Sends (tp.cpl 1) ∧
      Frame { ports := fun i => i = p } s t) ∧
    (tp.typ = 0x20 → tp.len = 1 → tp.addr.toNat = pB p + LNK_P_TXPRESET.PRE.off → s.writeOk (pB p + LNK_P_TXPRESET.PRE.off) = true →
      Completes (.tpReceive p seq (some (tp.crc seq)) none cols ecc tp) s fun t => Accepted p s t ∧ (∀ f ∈ [LNK_P_TXPRESET.PRE, LNK_P_TXPRESET.MAIN, LNK_P_TXPRESET.POST],
          t.getF (pB p) f = f.get (tp.data.getD 0 0)) ∧
        t.Sends (tp.cpl 0) ∧ Frame { regs := fun a => a = pB p + LNK_P_TXPRESET.PRE.off, ports := fun i => i = p } s t) ∧
    (tp.typ = 0x21 → tp.len = 1 → tp.addr.toNat = pB p + LNK_P_TXPRESET.PRE.off → s.readOk (pB p + LNK_P_TXPRESET.PRE.off) = true → Completes (.tpReceive p seq (some (tp.crc seq)) none cols ecc tp) s fun t => Accepted p s t ∧
      t.Sends (tp.cpld [s.rd (pB p + LNK_P_TXPRESET.PRE.off)]) ∧ Frame { ports := fun i => i = p } s t) ∧
    (tp.typ ∉ ([0x10, 0x11, 0x20, 0x21] : List Byte) → (∀ r ∈ s.reads, r.tag ≠ tp.tag.toNat) → Completes (.tpReceive p seq (some (tp.crc seq)) none cols ecc tp) s fun t => Accepted p s t ∧
      t.getF 0 LNK_UREQ.UCPL = min (s.getF 0 LNK_UREQ.UCPL + 1) 65535 ∧ Frame { regs := fun a => a = LNK_UREQ.UCPL.off, ports := fun i => i = p } s t) ∧
    (∀ r, tp.typ = 0x31 → tp.status = 0 → s.reads.find? (fun x => x.tag == tp.tag.toNat) = some r → r.sq < 64 → r.got = [] → r.len = tp.data.length → r.addr = tp.addr.toNat →
      Completes (.tpReceive p seq (some (tp.crc seq)) none cols ecc tp) s fun t => Accepted p s t ∧ t.reads = s.reads.erase r ∧ t.fetched = s.fetched ++ [(r.sq, tp.data)] ∧
        Frame { ports := fun i => i = p, parts := fun x => { x with reads := [], fetched := [] } } s t) ∧
    (tp.typ = 0x20 → tp.len = 1 → tp.asksReset = true → s.writeOk GLB_RESET.KEY.off = true → s.off = false →
      Completes (.tpReceive p seq (some (tp.crc seq)) none cols ecc tp) s fun t => t.inReset = true ∧ t.getF 0 GLB_RESET_CAUSE.CAUSE = 4)) ∧
  (tp.typ = 0x50 → tp.ptr = tp.hops →
    (∀ id, tp.enumOp = 1 → id = bits (tp.data.getD 4 0).toNat 5 0 → id ≤ 31 → s.hasId = false ∨ s.getF 0 LNK_ID.ID = id ∨ bitB (tp.data.getD 4 0).toNat 7 = true →
      Completes (.tpReceive p seq (some (tp.crc seq)) none cols ecc tp) s fun t => Accepted p s t ∧ t.hasId = true ∧ t.getF 0 LNK_ID.ID = id ∧ t.route 0x3F = some p.val ∧
        (∀ x < 4, t.isSet (pB x) LNK_P_STATUS.UPSTREAM = decide (x = p.val)) ∧
        (∃ x, t.Sends x ∧ x.1 = some p.val ∧ x.2.typ = 0x51 ∧ x.2.tag = tp.tag ∧ x.2.status = 0) ∧
        Frame { regs := fun a => a = LNK_ID.ID.off ∨ a = LNK_RTH.PORT.off ∨ ∃ x < 4, a = pB x + LNK_P_STATUS.UPSTREAM.off, ports := fun i => i = p } s t) ∧
    (tp.enumOp = 2 → Completes (.tpReceive p seq (some (tp.crc seq)) none cols ecc tp) s fun t => Accepted p s t ∧ t.hasId = false ∧ (∀ dst < 64, t.route dst = none) ∧
      (∀ x < 4, t.isSet (pB x) LNK_P_STATUS.UPSTREAM = false) ∧ Frame { regs := fun a => a = LNK_ID.ID.off ∨ a = LNK_RTH.PORT.off ∨ (∃ x < 4, a = pB x + LNK_P_STATUS.UPSTREAM.off ∨ a = 4 * x + LNK_RT.ENTRIES.off), ports := fun i => i = p } s t) ∧
    (tp.enumOp = 0 ∨ tp.enumOp = 3 ∨ tp.enumOp = 1 ∧ 31 < bits (tp.data.getD 4 0).toNat 5 0 → Completes (.tpReceive p seq (some (tp.crc seq)) none cols ecc tp) s fun t => Accepted p s t ∧
      Frame { ports := fun i => i = p } s t)) ∧
  (∀ e, tp.isEnum = true → tp.ptr < tp.hops → e = routeEntry tp.route tp.ptr → s.isUp e = true → e ≠ p.val → Completes (.tpReceive p seq (some (tp.crc seq)) none cols ecc tp) s fun t =>
    Accepted p s t ∧ t.Passes p e { tp with addr := tp.addr + 0x100, data := toWords 4 (tp.route - e * 4 ^ tp.ptr + p.val * 4 ^ tp.ptr) ++ tp.data.drop 4 } ∧
    Frame { ports := fun i => i = p } s t)

/-- R301, R303 to R306, R318: acknowledgement, replay, credits, a port that has gone down (the model's reading: log entries 1, 23, 55). -/
def Obligations.LinkPacketRows : Prop := ∀ (p : Fin 4) (seq : BitVec 12) (s : State) (q f : Port) (l : List Tx), q = s.port p →
  l = q.replay.filter (fun x => decide (2048 ≤ (seq.toNat + 4096 - x.seq) % 4096)) →
  f = (if l.length < q.replay.length then { q with replay := l.map (fun x => { x with tries := 0 }), stuck := 0 } else q) →
  (s.linked p = true → Completes (.ackReceive p seq) s fun t => (t.port p).still = f.still ∧ (q.pend ≠ 0 → (t.port p).replay = f.replay) ∧
    Frame { ports := fun i => i = p } s t) ∧
  (∀ n, s.linked p = true → n = min (s.getF (pB p) LNK_P_ERR2.NAKRX + 1) 65535 →
    (f.replay = [] → Completes (.nakReceive p seq) s fun t => t.getF (pB p) LNK_P_ERR2.NAKRX = n ∧ (t.port p).still = f.still ∧
      Frame { regs := fun a => a = pB p + LNK_P_ERR2.NAKRX.off, ports := fun i => i = p } s t) ∧
    (∀ x r, f.replay = x :: r → x.tries < 3 → Completes (.nakReceive p seq) s fun t => t.getF (pB p) LNK_P_ERR2.NAKRX = n ∧ (t.port p).still = f.still ∧
      (q.pend ≠ 0 → (t.port p).replay = { x with tries := x.tries + 1 } :: r) ∧ t.getF (pB p) LNK_P_ERR2.REPLAYS = min (s.getF (pB p) LNK_P_ERR2.REPLAYS + 1) 65535 ∧
      Frame { regs := fun a => a = pB p + LNK_P_ERR2.NAKRX.off, ports := fun i => i = p } s t)) ∧
  (s.pst p = 5 → q.replay = [] → Completes (.replayTimeout p) s (Frame {} s)) ∧
  (∀ x r, s.pst p = 5 → q.replay = x :: r → x.tries < 3 → Completes (.replayTimeout p) s fun t => (t.port p).still = q.still ∧
    (q.pend ≠ 0 → (t.port p).replay = { x with tries := x.tries + 1 } :: r) ∧ t.getF (pB p) LNK_P_ERR2.REPLAYS = min (s.getF (pB p) LNK_P_ERR2.REPLAYS + 1) 65535 ∧
    Frame { regs := fun a => a = pB p + LNK_P_ERR2.REPLAYS.off } s t) ∧
  (∀ x r, s.pst p = 5 → q.replay = x :: r → 3 ≤ x.tries → q.stuck < 3 → Completes (.replayTimeout p) s fun t => Recovering p s t ∧ (t.port p).stuck = q.stuck + 1 ∧
    t.getF (pB p) LNK_P_ERR2.REPLAYS = min (s.getF (pB p) LNK_P_ERR2.REPLAYS + 1) 65535 ∧
    Frame { regs := fun a => linkRegs p a ∨ a = pB p + LNK_P_ERR2.REPLAYS.off, ports := fun i => i = p } s t) ∧
  (∀ (cp cn cc : BitVec 16), s.linked p = true →
    Completes (.creditReceive p true cp cn cc) s (fun t => (t.port p).init = true ∧ (t.port p).adv = { p := cp.toNat, n := cn.toNat, c := cc.toNat } ∧
      (t.port p).upd = q.upd ∧ Frame { ports := fun i => i = p } s t) ∧
    Completes (.creditReceive p false cp cn cc) s fun t => (t.port p).init = q.init ∧ (t.port p).adv = q.adv ∧
      (t.port p).upd = (if q.init then { p := cp.toNat, n := cn.toNat, c := cc.toNat } else q.upd) ∧ Frame { ports := fun i => i = p } s t) ∧
  (s.pst p = 5 → q.acc ≠ 0 ∨ q.ackDue = true → Completes (.ackTimer p) s fun t => (t.port p).acc = 0 ∧ (t.port p).ackDue = false ∧ (t.port p).nak = q.nak ∧
    (t.port p).lp = some (1, (q.exp + 4095) % 4096 * 256, 0) ∧ Frame { ports := fun i => i = p } s t) ∧
  (s.pst p = 5 → s.getF (pB p) LNK_P_STATUS.TX_LS = 0 → Completes (.creditUpdate p) s fun t => (t.port p).lp = some (3, if q.init then q.freed.p * 65536 else 256 + 256 * 65536,
      if q.init then (q.freed.n + q.freed.c * 65536) else 64 + 256 * 65536) ∧ Frame { ports := fun i => i = p } s t) ∧
  (∀ i, (i = .ackReceive p seq ∨ i = .nakReceive p seq ∨ (∃ b cp cn cc, i = .creditReceive p b cp cn cc)) ∧ s.linked p = false ∨
      i = .ackTimer p ∧ (s.pst p ≠ 5 ∨ q.acc = 0 ∧ q.ackDue = false) ∨ i = .replayTimeout p ∧ s.pst p ≠ 5 ∨
      i = .creditUpdate p ∧ (s.pst p ≠ 5 ∨ s.getF (pB p) LNK_P_STATUS.TX_LS ≠ 0) ∨ i = .portDown p ∧ q.fell = false → Completes i s (Frame {} s)) ∧
  (q.fell = true → Completes (.portDown p) s fun t => (t.port p).fell = false ∧ (t.port p).exp = 0 ∧ (t.port p).init = false ∧
    (∀ x ∈ q.replay, x.from_ = 4 → x.tp.typ ≠ 0x51 → t.Sends (none, x.tp)) ∧ (∀ e ∈ q.wait, e.2.cls = 1 → t.Sends (e.2.cpl 1)) ∧
    Frame { ports := fun i => i = p } s t) ∧
  (∀ (x : Lp) sq cols ecc tp, clean cols = true → s.linked p = true →
    (x.typ = 1 → bits x.d0.toNat 11 0 = seq.toNat → Completes (.tpReceive p sq (some x.crc) (some x) cols ecc tp) s fun t => (t.port p).still = f.still ∧
      Frame { ports := fun i => i = p } s t) ∧
    (x.typ = 3 → bitB x.d0.toNat 0 = true → Completes (.tpReceive p sq (some x.crc) (some x) cols ecc tp) s fun t => (t.port p).init = true ∧
      (t.port p).adv = { p := bits x.d0.toNat 23 8, n := bits x.d1.toNat 15 0, c := bits x.d1.toNat 31 16 } ∧ Frame { ports := fun i => i = p } s t) ∧
    (x.typ = 0 ∨ 4 ≤ x.typ.toNat → Completes (.tpReceive p sq (some x.crc) (some x) cols ecc tp) s fun t =>
      t.getF (pB p) LNK_P_DROP.MALF = min (s.getF (pB p) LNK_P_DROP.MALF + 1) 255 ∧ Frame { regs := fun a => a = pB p + LNK_P_DROP.MALF.off } s t))

/-- R290: a port in TEST returns to DETECT when NEARLB is 0 on every lane. -/
def Obligations.TestEnds : Prop := ∀ (p : Fin 4) (l : Fin 5) (s : State), s.pst p = 10 → s.isSet (lB p l) LNK_P_L_CFG.NEARLB = true →
  s.writeOk (lB p l + LNK_P_L_CFG.INJ.off) = true → Completes (.nearlb p l false) s fun t =>
    ((∀ k < 5, k ≠ l.val → s.isSet (lB p k) LNK_P_L_CFG.NEARLB = false) → t.pst p = 0) ∧
    ((∃ k < 5, k ≠ l.val ∧ s.isSet (lB p k) LNK_P_L_CFG.NEARLB = true) → t.pst p = 10)

/-- R215: a commit that includes a transfer of tile t starts a rotation pass of tile t. -/
def Obligations.TransferStartsPass : Prop := ∀ (x : Fin 8) (s : State), s.commitPend = true → s.anyStaged = true → s.stagedXfer.testBit x = true →
  Completes .commitEdge s fun t => t.isSet (x.val * 0x10) CAL_TILE_ROT.PASS = true ∧ (t.tile x).passDone = 0

/-- R284: a lane that fails with no spare to take it, or while a sparing is in progress, sends the port into RECOVERY (R304: but for the
fourth time without progress on the replay buffer). -/
def Obligations.UnsparedLane : Prop := ∀ (p : Fin 4) (l : Fin 5) (er : LaneErrs) (s : State), s.pst p = 5 → s.getF (pB p) LNK_P_STATUS.RX_LS = 0 →
  s.role p false l = 1 → s.laneFails p er = true →
  (s.lmap p false 4 = 7 ∨ (s.port p).spRx ≠ none) → (s.port p).stuck < 3 → Completes (.laneFail p (l, er)) s fun t => t.pst p = 6

/-- A step runs the command at the front of the queue on the rest of it; on an empty queue one TCLK passes (model's choice, log entry 2). -/
def Obligations.StepRunsFront : Prop :=
  (∀ (c : Instr) (l : List Instr) (s : State), s.pending = c :: l → step s = exec c { s with pending := l }) ∧
  ∀ s : State, s.pending = [] → ∃ t, step s = .next t ∧ t.uptime = s.uptime + 1 ∧ t.tb = (if s.clocked then (s.tb + 1) % 2 ^ 56 else s.tb) ∧
    t.pending = [] ∧ Frame {} s { t with uptime := s.uptime, tb := s.tb }

/-- Right after reset: BOOT, held in reset, every register at its reset word, memories with nothing listed, nothing in flight; every table
in canonical form (model's choice where the spec gives no contents: log entries 5, 6, 56, 57). -/
def Obligations.ResetState : Prop := State.reset.Wf ∧ State.reset.mode = stBOOT ∧ (∀ a, State.reset.rd a = resetWord a) ∧
  (∀ a, State.reset.sramByte a = sramReset a ∧ State.reset.flashByte a = flashReset a) ∧ State.reset.cmds = [] ∧ State.reset.pending = [] ∧
  ∀ u, State.reset.fe u = {}

/-- Every step keeps the register table, the memories and every table of hidden parts in canonical form. -/
def Obligations.StepKeepsWf : Prop := ∀ s t : State, s.Wf → step s = .next t → t.Wf

/-- Every command completes in every state; none touches the queue or the running time, takes back a raised SVN, or puts the time base
outside its 56 bits. -/
def Obligations.EveryCommandCompletes : Prop := ∀ (i : Instr) (s : State), Completes i s fun t =>
  t.pending = s.pending ∧ t.uptime = s.uptime ∧ s.svnRaised ≤ t.svnRaised ∧ (s.tb < 2 ^ 56 → t.tb < 2 ^ 56)
end

