-- ==== Sys2Proof/Laws/Tab.lean ====
section
/-! SUPPORT. The basic laws of tables: a read after a write, other keys, and that every operation keeps the canonical form. -/

namespace Sys2Proof.Machine

variable {α : Type}

theorem tabGet_tabErase (d : Nat → α) (t : List (Nat × α)) (k j : Nat) :
    tabGet d (tabErase t k) j = if k = j then d j else tabGet d t j := by
  induction t with
  | nil => simp [tabErase, tabGet]
  | cons e t ih =>
    obtain ⟨a, v⟩ := e
    by_cases hak : a = k
    · subst hak
      simp only [tabErase, if_true, ih, tabGet]
      split <;> rfl
    · simp only [tabErase, if_neg hak, tabGet, ih]
      by_cases haj : a = j
      · subst haj; simp [Ne.symm hak]
      · simp [haj]

theorem tabGet_tabInsert_ne (d : Nat → α) (t : List (Nat × α)) {k j : Nat} (v : α) (h : k ≠ j) :
    tabGet d (tabInsert t k v) j = tabGet d t j := by
  induction t with
  | nil => simp [tabInsert, tabGet, h]
  | cons e t ih =>
    obtain ⟨a, w⟩ := e
    by_cases hak : a = k
    · subst hak; simp [tabInsert, tabGet, h]
    · by_cases hka : k < a
      · simp [tabInsert, hak, hka, tabGet, h]
      · simp [tabInsert, hak, hka, tabGet, ih]

theorem tabGet_tabInsert_self (d : Nat → α) (t : List (Nat × α)) (k : Nat) (v : α) :
    tabGet d (tabInsert t k v) k = v := by
  induction t with
  | nil => simp [tabInsert, tabGet]
  | cons e t ih =>
    obtain ⟨a, w⟩ := e
    by_cases hak : a = k
    · subst hak; simp [tabInsert, tabGet]
    · by_cases hka : k < a
      · simp [tabInsert, hak, hka, tabGet]
      · simp [tabInsert, hak, hka, tabGet, ih]

/-- A read after a write: the key written gives the value written, every other key what it gave. -/
theorem tabGet_tabSet [DecidableEq α] (d : Nat → α) (t : List (Nat × α)) (k j : Nat) (v : α) :
    tabGet d (tabSet d t k v) j = if k = j then v else tabGet d t j := by
  unfold tabSet; split
  · rename_i hv
    rw [tabGet_tabErase]
    split
    · rename_i hk; subst hk; exact hv.symm
    · rfl
  · split
    · rename_i hk; subst hk; exact tabGet_tabInsert_self d t k v
    · rename_i hk; exact tabGet_tabInsert_ne d t v hk

/-- A write leaves every other key alone. -/
theorem tabGet_tabSet_ne [DecidableEq α] (d : Nat → α) (t : List (Nat × α)) {k j : Nat} (v : α) (h : k ≠ j) :
    tabGet d (tabSet d t k v) j = tabGet d t j := by
  rw [tabGet_tabSet, if_neg h]

/-- A read after a write of the same key gives the value written. -/
theorem tabGet_tabSet_self [DecidableEq α] (d : Nat → α) (t : List (Nat × α)) (k : Nat) (v : α) : tabGet d (tabSet d t k v) k = v := by
  rw [tabGet_tabSet, if_pos rfl]

/-- Keys of a sorted table lie above its bound. -/
theorem tabSorted_lb {t : List (Nat × α)} : ∀ {l : Nat}, tabSorted t (some l) = true → ∀ e ∈ t, l < e.1 := by
  induction t with
  | nil => simp
  | cons e t ih =>
    obtain ⟨a, v⟩ := e
    intro l h
    simp only [tabSorted, Bool.and_eq_true, decide_eq_true_eq] at h
    intro e he
    rcases List.mem_cons.1 he with rfl | he
    · exact h.1
    · exact Nat.lt_trans h.1 (ih h.2 e he)

theorem tabSorted_some_of {t : List (Nat × α)} {o : Option Nat} {l : Nat} (h : tabSorted t o = true) (hl : ∀ e ∈ t, l < e.1) :
    tabSorted t (some l) = true := by
  cases t with
  | nil => rfl
  | cons e t =>
    simp only [tabSorted, Bool.and_eq_true, decide_eq_true_eq] at h ⊢
    exact ⟨hl e List.mem_cons_self, h.2⟩

theorem tabSorted_none_of {t : List (Nat × α)} {o : Option Nat} (h : tabSorted t o = true) : tabSorted t none = true := by
  cases t with
  | nil => rfl
  | cons e t =>
    simp only [tabSorted, Bool.and_eq_true] at h ⊢
    exact ⟨trivial, h.2⟩

theorem tabErase_lb {t : List (Nat × α)} {l k : Nat} (h : ∀ e ∈ t, l < e.1) : ∀ e ∈ tabErase t k, l < e.1 := by
  induction t with
  | nil => simp [tabErase]
  | cons e t ih =>
    obtain ⟨a, v⟩ := e
    have ha := h (a, v) List.mem_cons_self
    have ht := fun e he => h e (List.mem_cons_of_mem _ he)
    unfold tabErase
    split
    · exact ih ht
    · intro e he
      rcases List.mem_cons.1 he with rfl | he
      · exact ha
      · exact ih ht e he

theorem tabInsert_lb {t : List (Nat × α)} {l k : Nat} {v : α} (hk : l < k) (h : ∀ e ∈ t, l < e.1) : ∀ e ∈ tabInsert t k v, l < e.1 := by
  induction t with
  | nil => simp [tabInsert, hk]
  | cons e t ih =>
    obtain ⟨a, w⟩ := e
    have ha := h (a, w) List.mem_cons_self
    have ht := fun e he => h e (List.mem_cons_of_mem _ he)
    unfold tabInsert
    split
    · intro e he
      rcases List.mem_cons.1 he with rfl | he
      · exact hk
      · exact ht e he
    · split
      · intro e he
        rcases List.mem_cons.1 he with rfl | he
        · exact hk
        · exact h e he
      · intro e he
        rcases List.mem_cons.1 he with rfl | he
        · exact ha
        · exact ih ht e he

theorem tabSorted_tabErase {t : List (Nat × α)} {o : Option Nat} (h : tabSorted t o = true) (k : Nat) :
    tabSorted (tabErase t k) none = true := by
  induction t generalizing o with
  | nil => rfl
  | cons e t ih =>
    obtain ⟨a, v⟩ := e
    simp only [tabSorted, Bool.and_eq_true] at h
    unfold tabErase
    split
    · exact ih h.2
    · simp only [tabSorted, Bool.and_eq_true]
      exact ⟨trivial, tabSorted_some_of (ih h.2) (tabErase_lb (tabSorted_lb h.2))⟩

theorem tabSorted_tabInsert {t : List (Nat × α)} {o : Option Nat} (h : tabSorted t o = true) (k : Nat) (v : α) :
    tabSorted (tabInsert t k v) none = true := by
  induction t generalizing o with
  | nil => rfl
  | cons e t ih =>
    obtain ⟨a, w⟩ := e
    simp only [tabSorted, Bool.and_eq_true] at h
    have hlb := tabSorted_lb h.2
    unfold tabInsert
    split
    · rename_i hak; subst hak
      simp only [tabSorted, Bool.and_eq_true]; exact ⟨trivial, h.2⟩
    · split
      · rename_i hka
        simp only [tabSorted, Bool.and_eq_true, decide_eq_true_eq]; exact ⟨trivial, hka, h.2⟩
      · simp only [tabSorted, Bool.and_eq_true]
        exact ⟨trivial, tabSorted_some_of (ih h.2) (tabInsert_lb (by omega) hlb)⟩

theorem mem_tabErase {t : List (Nat × α)} {k : Nat} {e : Nat × α} (h : e ∈ tabErase t k) : e ∈ t := by
  induction t with
  | nil => exact h
  | cons x t ih =>
    obtain ⟨a, v⟩ := x
    unfold tabErase at h
    split at h
    · exact List.mem_cons_of_mem _ (ih h)
    · rcases List.mem_cons.1 h with rfl | h
      · exact List.mem_cons_self
      · exact List.mem_cons_of_mem _ (ih h)

theorem mem_tabInsert {t : List (Nat × α)} {k : Nat} {v : α} {e : Nat × α} (h : e ∈ tabInsert t k v) : e = (k, v) ∨ e ∈ t := by
  induction t with
  | nil => exact Or.inl (by simpa [tabInsert] using h)
  | cons x t ih =>
    obtain ⟨a, w⟩ := x
    unfold tabInsert at h
    split at h
    · rcases List.mem_cons.1 h with rfl | h
      · exact Or.inl rfl
      · exact Or.inr (List.mem_cons_of_mem _ h)
    · split at h
      · rcases List.mem_cons.1 h with rfl | h
        · exact Or.inl rfl
        · exact Or.inr h
      · rcases List.mem_cons.1 h with rfl | h
        · exact Or.inr List.mem_cons_self
        · exact (ih h).imp id (List.mem_cons_of_mem _)

variable [DecidableEq α] {d : Nat → α}

theorem tabWf_iff {t : List (Nat × α)} : tabWf d t = true ↔ tabSorted t none = true ∧ ∀ e ∈ t, e.2 ≠ d e.1 := by
  simp [tabWf]

theorem tabWf_nil : tabWf d ([] : List (Nat × α)) = true := rfl

/-- Setting a key keeps the canonical form. -/
theorem tabWf_tabSet {t : List (Nat × α)} (h : tabWf d t = true) (k : Nat) (v : α) : tabWf d (tabSet d t k v) = true := by
  obtain ⟨hs, hd⟩ := tabWf_iff.1 h
  refine tabWf_iff.2 ?_
  unfold tabSet; split
  · exact ⟨tabSorted_tabErase hs k, fun e he => hd e (mem_tabErase he)⟩
  · rename_i hv
    refine ⟨tabSorted_tabInsert hs k v, fun e he => ?_⟩
    rcases mem_tabInsert he with rfl | he
    · exact hv
    · exact hd e he

omit [DecidableEq α] in
theorem tabSorted_filter {p : Nat × α → Bool} {t : List (Nat × α)} {o : Option Nat} (h : tabSorted t o = true) :
    tabSorted (t.filter p) none = true := by
  induction t generalizing o with
  | nil => rfl
  | cons e t ih =>
    simp only [tabSorted, Bool.and_eq_true] at h
    have hlb := tabSorted_lb h.2
    rw [List.filter_cons]
    split
    · simp only [tabSorted, Bool.and_eq_true]
      exact ⟨trivial, tabSorted_some_of (ih h.2) fun e he => hlb e (List.mem_of_mem_filter he)⟩
    · exact ih h.2

/-- Restricting a table keeps the canonical form. -/
theorem tabWf_tabKeep {t : List (Nat × α)} (h : tabWf d t = true) (p : Nat → Bool) : tabWf d (tabKeep p t) = true := by
  obtain ⟨hs, hd⟩ := tabWf_iff.1 h
  exact tabWf_iff.2 ⟨tabSorted_filter hs, fun e he => hd e (List.mem_of_mem_filter he)⟩

omit [DecidableEq α] in
/-- A restricted table reads as before at the keys kept, and its default at the others. -/
theorem tabGet_tabKeep (p : Nat → Bool) (t : List (Nat × α)) (k : Nat) : tabGet d (tabKeep p t) k = if p k then tabGet d t k else d k := by
  induction t with
  | nil => simp [tabKeep, tabGet]
  | cons e t ih =>
    obtain ⟨a, v⟩ := e
    unfold tabKeep at ih ⊢
    rw [List.filter_cons]
    by_cases hp : p a = true
    · rw [if_pos hp]
      by_cases hak : a = k
      · subst hak; simp [tabGet, hp]
      · simp only [tabGet, if_neg hak, ih]
    · rw [if_neg hp, ih]
      by_cases hak : a = k
      · subst hak; simp [hp]
      · simp [tabGet, hak]

/-! ### Memories -/

/-- A write of bytes keeps the canonical form. -/
theorem tabWf_memWrite {dm : Nat → Byte} {m : List Host.Cell} (h : tabWf dm m = true) (a : Nat) (bs : List Byte) :
    tabWf dm (memWrite dm m a bs) = true := by
  induction bs generalizing m a with
  | nil => exact h
  | cons b bs ih => exact ih (tabWf_tabSet h a b) (a + 1)

/-- A write of bytes leaves every other byte alone. -/
theorem tabGet_memWrite_out {dm : Nat → Byte} (m : List Host.Cell) (a : Nat) (bs : List Byte) {k : Nat}
    (h : k < a ∨ a + bs.length ≤ k) : tabGet dm (memWrite dm m a bs) k = tabGet dm m k := by
  induction bs generalizing m a with
  | nil => rfl
  | cons b bs ih =>
    simp only [List.length_cons] at h
    rw [memWrite, ih _ _ (by omega), tabGet_tabSet_ne dm m b (by omega)]

/-- A byte written reads as written. -/
theorem tabGet_memWrite_in {dm : Nat → Byte} (m : List Host.Cell) (a : Nat) (bs : List Byte) {i : Nat}
    (h : i < bs.length) : tabGet dm (memWrite dm m a bs) (a + i) = bs[i] := by
  induction bs generalizing m a i with
  | nil => simp at h
  | cons b bs ih =>
    rw [memWrite]
    cases i with
    | zero =>
      rw [tabGet_memWrite_out _ _ _ (by omega)]
      exact tabGet_tabSet_self dm m a b
    | succ i =>
      have := ih (tabSet dm m a b) (a + 1) (i := i) (by simpa using h)
      rw [show a + (i + 1) = a + 1 + i by omega, this]; rfl

theorem memRead_congr {dm : Nat → Byte} {m m' : List Host.Cell} {a n : Nat}
    (h : ∀ k, a ≤ k → k < a + n → tabGet dm m' k = tabGet dm m k) : memRead dm m' a n = memRead dm m a n := by
  unfold memRead
  exact List.map_congr_left fun i hi => h _ (by omega) (by have := List.mem_range.1 hi; omega)

/-- A read of the bytes just written gives them back. -/
theorem memRead_memWrite {dm : Nat → Byte} (m : List Host.Cell) (a : Nat) (bs : List Byte) :
    memRead dm (memWrite dm m a bs) a bs.length = bs := by
  refine List.ext_getElem (by simp [memRead]) fun i h1 h2 => ?_
  simp only [memRead, List.getElem_map, List.getElem_range]
  exact tabGet_memWrite_in m a bs h2

end Sys2Proof.Machine
end

