-- ==== Sys2Proof/Laws/State.lean ====
section
/-! SUPPORT. One lemma per field per update of the state, true by definition; one lemma per fold of updates; what a read gives after an
update. -/

namespace Sys2Proof.Machine

variable (s : State)

/-! ### wr -/

section
variable (a : Nat) (w : Word)
@[simp] theorem State.wr_sram : (s.wr a w).sram = s.sram := rfl
@[simp] theorem State.wr_flash : (s.wr a w).flash = s.flash := rfl
@[simp] theorem State.wr_host : (s.wr a w).host = s.host := rfl
@[simp] theorem State.wr_uptime : (s.wr a w).uptime = s.uptime := rfl
@[simp] theorem State.wr_tb : (s.wr a w).tb = s.tb := rfl
@[simp] theorem State.wr_div : (s.wr a w).div = s.div := rfl
@[simp] theorem State.wr_free : (s.wr a w).free = s.free := rfl
@[simp] theorem State.wr_fes : (s.wr a w).fes = s.fes := rfl
@[simp] theorem State.wr_cmps : (s.wr a w).cmps = s.cmps := rfl
@[simp] theorem State.wr_cmds : (s.wr a w).cmds = s.cmds := rfl
@[simp] theorem State.wr_intakes : (s.wr a w).intakes = s.intakes := rfl
@[simp] theorem State.wr_insts : (s.wr a w).insts = s.insts := rfl
@[simp] theorem State.wr_lastCls : (s.wr a w).lastCls = s.lastCls := rfl
@[simp] theorem State.wr_bbStage : (s.wr a w).bbStage = s.bbStage := rfl
@[simp] theorem State.wr_adcs : (s.wr a w).adcs = s.adcs := rfl
@[simp] theorem State.wr_engs : (s.wr a w).engs = s.engs := rfl
@[simp] theorem State.wr_ctxs : (s.wr a w).ctxs = s.ctxs := rfl
@[simp] theorem State.wr_flGroups : (s.wr a w).flGroups = s.flGroups := rfl
@[simp] theorem State.wr_tdcs : (s.wr a w).tdcs = s.tdcs := rfl
@[simp] theorem State.wr_jobs : (s.wr a w).jobs = s.jobs := rfl
@[simp] theorem State.wr_trigs : (s.wr a w).trigs = s.trigs := rfl
@[simp] theorem State.wr_rots : (s.wr a w).rots = s.rots := rfl
@[simp] theorem State.wr_tiles : (s.wr a w).tiles = s.tiles := rfl
@[simp] theorem State.wr_anchor : (s.wr a w).anchor = s.anchor := rfl
@[simp] theorem State.wr_calSet : (s.wr a w).calSet = s.calSet := rfl
@[simp] theorem State.wr_calAt : (s.wr a w).calAt = s.calAt := rfl
@[simp] theorem State.wr_calBack : (s.wr a w).calBack = s.calBack := rfl
@[simp] theorem State.wr_svcEntry : (s.wr a w).svcEntry = s.svcEntry := rfl
@[simp] theorem State.wr_svcExit : (s.wr a w).svcExit = s.svcExit := rfl
@[simp] theorem State.wr_armLine : (s.wr a w).armLine = s.armLine := rfl
@[simp] theorem State.wr_pulses : (s.wr a w).pulses = s.pulses := rfl
@[simp] theorem State.wr_syncArmed : (s.wr a w).syncArmed = s.syncArmed := rfl
@[simp] theorem State.wr_pairs : (s.wr a w).pairs = s.pairs := rfl
@[simp] theorem State.wr_timing : (s.wr a w).timing = s.timing := rfl
@[simp] theorem State.wr_timingNew : (s.wr a w).timingNew = s.timingNew := rfl
@[simp] theorem State.wr_charges : (s.wr a w).charges = s.charges := rfl
@[simp] theorem State.wr_mics : (s.wr a w).mics = s.mics := rfl
@[simp] theorem State.wr_cs : (s.wr a w).cs = s.cs := rfl
@[simp] theorem State.wr_svnRaised : (s.wr a w).svnRaised = s.svnRaised := rfl
@[simp] theorem State.wr_stagedUnits : (s.wr a w).stagedUnits = s.stagedUnits := rfl
@[simp] theorem State.wr_stagedTiles : (s.wr a w).stagedTiles = s.stagedTiles := rfl
@[simp] theorem State.wr_stagedXfer : (s.wr a w).stagedXfer = s.stagedXfer := rfl
@[simp] theorem State.wr_commitPend : (s.wr a w).commitPend = s.commitPend := rfl
@[simp] theorem State.wr_commitCmds : (s.wr a w).commitCmds = s.commitCmds := rfl
@[simp] theorem State.wr_archNow : (s.wr a w).archNow = s.archNow := rfl
@[simp] theorem State.wr_archNext : (s.wr a w).archNext = s.archNext := rfl
@[simp] theorem State.wr_calDirty : (s.wr a w).calDirty = s.calDirty := rfl
@[simp] theorem State.wr_rotAt : (s.wr a w).rotAt = s.rotAt := rfl
@[simp] theorem State.wr_tests : (s.wr a w).tests = s.tests := rfl
@[simp] theorem State.wr_inReset : (s.wr a w).inReset = s.inReset := rfl
@[simp] theorem State.wr_off : (s.wr a w).off = s.off := rfl
@[simp] theorem State.wr_rails : (s.wr a w).rails = s.rails := rfl
@[simp] theorem State.wr_tapIr : (s.wr a w).tapIr = s.tapIr := rfl
@[simp] theorem State.wr_unlocked : (s.wr a w).unlocked = s.unlocked := rfl
@[simp] theorem State.wr_dwFailed : (s.wr a w).dwFailed = s.dwFailed := rfl
@[simp] theorem State.wr_spa : (s.wr a w).spa = s.spa := rfl
@[simp] theorem State.wr_spaMode : (s.wr a w).spaMode = s.spaMode := rfl
@[simp] theorem State.wr_round : (s.wr a w).round = s.round := rfl
@[simp] theorem State.wr_good : (s.wr a w).good = s.good := rfl
@[simp] theorem State.wr_newBroken : (s.wr a w).newBroken = s.newBroken := rfl
@[simp] theorem State.wr_spbOut : (s.wr a w).spbOut = s.spbOut := rfl
@[simp] theorem State.wr_diagOut : (s.wr a w).diagOut = s.diagOut := rfl
@[simp] theorem State.wr_ports : (s.wr a w).ports = s.ports := rfl
@[simp] theorem State.wr_own : (s.wr a w).own = s.own := rfl
@[simp] theorem State.wr_reads : (s.wr a w).reads = s.reads := rfl
@[simp] theorem State.wr_fetched : (s.wr a w).fetched = s.fetched := rfl
@[simp] theorem State.wr_arbLast : (s.wr a w).arbLast = s.arbLast := rfl
@[simp] theorem State.wr_arbLeft : (s.wr a w).arbLeft = s.arbLeft := rfl
@[simp] theorem State.wr_srcs : (s.wr a w).srcs = s.srcs := rfl
@[simp] theorem State.wr_vecs : (s.wr a w).vecs = s.vecs := rfl
@[simp] theorem State.wr_vecLast : (s.wr a w).vecLast = s.vecLast := rfl
@[simp] theorem State.wr_latched : (s.wr a w).latched = s.latched := rfl
@[simp] theorem State.wr_pending : (s.wr a w).pending = s.pending := rfl
end

/-! ### setF -/

section
variable (b : Nat) (f : Fld) (v : Nat)
@[simp] theorem State.setF_sram : (s.setF b f v).sram = s.sram := rfl
@[simp] theorem State.setF_flash : (s.setF b f v).flash = s.flash := rfl
@[simp] theorem State.setF_host : (s.setF b f v).host = s.host := rfl
@[simp] theorem State.setF_uptime : (s.setF b f v).uptime = s.uptime := rfl
@[simp] theorem State.setF_tb : (s.setF b f v).tb = s.tb := rfl
@[simp] theorem State.setF_div : (s.setF b f v).div = s.div := rfl
@[simp] theorem State.setF_free : (s.setF b f v).free = s.free := rfl
@[simp] theorem State.setF_fes : (s.setF b f v).fes = s.fes := rfl
@[simp] theorem State.setF_cmps : (s.setF b f v).cmps = s.cmps := rfl
@[simp] theorem State.setF_cmds : (s.setF b f v).cmds = s.cmds := rfl
@[simp] theorem State.setF_intakes : (s.setF b f v).intakes = s.intakes := rfl
@[simp] theorem State.setF_insts : (s.setF b f v).insts = s.insts := rfl
@[simp] theorem State.setF_lastCls : (s.setF b f v).lastCls = s.lastCls := rfl
@[simp] theorem State.setF_bbStage : (s.setF b f v).bbStage = s.bbStage := rfl
@[simp] theorem State.setF_adcs : (s.setF b f v).adcs = s.adcs := rfl
@[simp] theorem State.setF_engs : (s.setF b f v).engs = s.engs := rfl
@[simp] theorem State.setF_ctxs : (s.setF b f v).ctxs = s.ctxs := rfl
@[simp] theorem State.setF_flGroups : (s.setF b f v).flGroups = s.flGroups := rfl
@[simp] theorem State.setF_tdcs : (s.setF b f v).tdcs = s.tdcs := rfl
@[simp] theorem State.setF_jobs : (s.setF b f v).jobs = s.jobs := rfl
@[simp] theorem State.setF_trigs : (s.setF b f v).trigs = s.trigs := rfl
@[simp] theorem State.setF_rots : (s.setF b f v).rots = s.rots := rfl
@[simp] theorem State.setF_tiles : (s.setF b f v).tiles = s.tiles := rfl
@[simp] theorem State.setF_anchor : (s.setF b f v).anchor = s.anchor := rfl
@[simp] theorem State.setF_calSet : (s.setF b f v).calSet = s.calSet := rfl
@[simp] theorem State.setF_calAt : (s.setF b f v).calAt = s.calAt := rfl
@[simp] theorem State.setF_calBack : (s.setF b f v).calBack = s.calBack := rfl
@[simp] theorem State.setF_svcEntry : (s.setF b f v).svcEntry = s.svcEntry := rfl
@[simp] theorem State.setF_svcExit : (s.setF b f v).svcExit = s.svcExit := rfl
@[simp] theorem State.setF_armLine : (s.setF b f v).armLine = s.armLine := rfl
@[simp] theorem State.setF_pulses : (s.setF b f v).pulses = s.pulses := rfl
@[simp] theorem State.setF_syncArmed : (s.setF b f v).syncArmed = s.syncArmed := rfl
@[simp] theorem State.setF_pairs : (s.setF b f v).pairs = s.pairs := rfl
@[simp] theorem State.setF_timing : (s.setF b f v).timing = s.timing := rfl
@[simp] theorem State.setF_timingNew : (s.setF b f v).timingNew = s.timingNew := rfl
@[simp] theorem State.setF_charges : (s.setF b f v).charges = s.charges := rfl
@[simp] theorem State.setF_mics : (s.setF b f v).mics = s.mics := rfl
@[simp] theorem State.setF_cs : (s.setF b f v).cs = s.cs := rfl
@[simp] theorem State.setF_svnRaised : (s.setF b f v).svnRaised = s.svnRaised := rfl
@[simp] theorem State.setF_stagedUnits : (s.setF b f v).stagedUnits = s.stagedUnits := rfl
@[simp] theorem State.setF_stagedTiles : (s.setF b f v).stagedTiles = s.stagedTiles := rfl
@[simp] theorem State.setF_stagedXfer : (s.setF b f v).stagedXfer = s.stagedXfer := rfl
@[simp] theorem State.setF_commitPend : (s.setF b f v).commitPend = s.commitPend := rfl
@[simp] theorem State.setF_commitCmds : (s.setF b f v).commitCmds = s.commitCmds := rfl
@[simp] theorem State.setF_archNow : (s.setF b f v).archNow = s.archNow := rfl
@[simp] theorem State.setF_archNext : (s.setF b f v).archNext = s.archNext := rfl
@[simp] theorem State.setF_calDirty : (s.setF b f v).calDirty = s.calDirty := rfl
@[simp] theorem State.setF_rotAt : (s.setF b f v).rotAt = s.rotAt := rfl
@[simp] theorem State.setF_tests : (s.setF b f v).tests = s.tests := rfl
@[simp] theorem State.setF_inReset : (s.setF b f v).inReset = s.inReset := rfl
@[simp] theorem State.setF_off : (s.setF b f v).off = s.off := rfl
@[simp] theorem State.setF_rails : (s.setF b f v).rails = s.rails := rfl
@[simp] theorem State.setF_tapIr : (s.setF b f v).tapIr = s.tapIr := rfl
@[simp] theorem State.setF_unlocked : (s.setF b f v).unlocked = s.unlocked := rfl
@[simp] theorem State.setF_dwFailed : (s.setF b f v).dwFailed = s.dwFailed := rfl
@[simp] theorem State.setF_spa : (s.setF b f v).spa = s.spa := rfl
@[simp] theorem State.setF_spaMode : (s.setF b f v).spaMode = s.spaMode := rfl
@[simp] theorem State.setF_round : (s.setF b f v).round = s.round := rfl
@[simp] theorem State.setF_good : (s.setF b f v).good = s.good := rfl
@[simp] theorem State.setF_newBroken : (s.setF b f v).newBroken = s.newBroken := rfl
@[simp] theorem State.setF_spbOut : (s.setF b f v).spbOut = s.spbOut := rfl
@[simp] theorem State.setF_diagOut : (s.setF b f v).diagOut = s.diagOut := rfl
@[simp] theorem State.setF_ports : (s.setF b f v).ports = s.ports := rfl
@[simp] theorem State.setF_own : (s.setF b f v).own = s.own := rfl
@[simp] theorem State.setF_reads : (s.setF b f v).reads = s.reads := rfl
@[simp] theorem State.setF_fetched : (s.setF b f v).fetched = s.fetched := rfl
@[simp] theorem State.setF_arbLast : (s.setF b f v).arbLast = s.arbLast := rfl
@[simp] theorem State.setF_arbLeft : (s.setF b f v).arbLeft = s.arbLeft := rfl
@[simp] theorem State.setF_srcs : (s.setF b f v).srcs = s.srcs := rfl
@[simp] theorem State.setF_vecs : (s.setF b f v).vecs = s.vecs := rfl
@[simp] theorem State.setF_vecLast : (s.setF b f v).vecLast = s.vecLast := rfl
@[simp] theorem State.setF_latched : (s.setF b f v).latched = s.latched := rfl
@[simp] theorem State.setF_pending : (s.setF b f v).pending = s.pending := rfl
end

/-! ### setPair -/

section
variable (a v : Nat)
@[simp] theorem State.setPair_regs : (s.setPair a v).regs = s.regs := rfl
@[simp] theorem State.setPair_sram : (s.setPair a v).sram = s.sram := rfl
@[simp] theorem State.setPair_flash : (s.setPair a v).flash = s.flash := rfl
@[simp] theorem State.setPair_host : (s.setPair a v).host = s.host := rfl
@[simp] theorem State.setPair_uptime : (s.setPair a v).uptime = s.uptime := rfl
@[simp] theorem State.setPair_tb : (s.setPair a v).tb = s.tb := rfl
@[simp] theorem State.setPair_div : (s.setPair a v).div = s.div := rfl
@[simp] theorem State.setPair_free : (s.setPair a v).free = s.free := rfl
@[simp] theorem State.setPair_fes : (s.setPair a v).fes = s.fes := rfl
@[simp] theorem State.setPair_cmps : (s.setPair a v).cmps = s.cmps := rfl
@[simp] theorem State.setPair_cmds : (s.setPair a v).cmds = s.cmds := rfl
@[simp] theorem State.setPair_intakes : (s.setPair a v).intakes = s.intakes := rfl
@[simp] theorem State.setPair_insts : (s.setPair a v).insts = s.insts := rfl
@[simp] theorem State.setPair_lastCls : (s.setPair a v).lastCls = s.lastCls := rfl
@[simp] theorem State.setPair_bbStage : (s.setPair a v).bbStage = s.bbStage := rfl
@[simp] theorem State.setPair_adcs : (s.setPair a v).adcs = s.adcs := rfl
@[simp] theorem State.setPair_engs : (s.setPair a v).engs = s.engs := rfl
@[simp] theorem State.setPair_ctxs : (s.setPair a v).ctxs = s.ctxs := rfl
@[simp] theorem State.setPair_flGroups : (s.setPair a v).flGroups = s.flGroups := rfl
@[simp] theorem State.setPair_tdcs : (s.setPair a v).tdcs = s.tdcs := rfl
@[simp] theorem State.setPair_jobs : (s.setPair a v).jobs = s.jobs := rfl
@[simp] theorem State.setPair_trigs : (s.setPair a v).trigs = s.trigs := rfl
@[simp] theorem State.setPair_rots : (s.setPair a v).rots = s.rots := rfl
@[simp] theorem State.setPair_tiles : (s.setPair a v).tiles = s.tiles := rfl
@[simp] theorem State.setPair_anchor : (s.setPair a v).anchor = s.anchor := rfl
@[simp] theorem State.setPair_calSet : (s.setPair a v).calSet = s.calSet := rfl
@[simp] theorem State.setPair_calAt : (s.setPair a v).calAt = s.calAt := rfl
@[simp] theorem State.setPair_calBack : (s.setPair a v).calBack = s.calBack := rfl
@[simp] theorem State.setPair_svcEntry : (s.setPair a v).svcEntry = s.svcEntry := rfl
@[simp] theorem State.setPair_svcExit : (s.setPair a v).svcExit = s.svcExit := rfl
@[simp] theorem State.setPair_armLine : (s.setPair a v).armLine = s.armLine := rfl
@[simp] theorem State.setPair_pulses : (s.setPair a v).pulses = s.pulses := rfl
@[simp] theorem State.setPair_syncArmed : (s.setPair a v).syncArmed = s.syncArmed := rfl
@[simp] theorem State.setPair_timing : (s.setPair a v).timing = s.timing := rfl
@[simp] theorem State.setPair_timingNew : (s.setPair a v).timingNew = s.timingNew := rfl
@[simp] theorem State.setPair_charges : (s.setPair a v).charges = s.charges := rfl
@[simp] theorem State.setPair_mics : (s.setPair a v).mics = s.mics := rfl
@[simp] theorem State.setPair_cs : (s.setPair a v).cs = s.cs := rfl
@[simp] theorem State.setPair_svnRaised : (s.setPair a v).svnRaised = s.svnRaised := rfl
@[simp] theorem State.setPair_stagedUnits : (s.setPair a v).stagedUnits = s.stagedUnits := rfl
@[simp] theorem State.setPair_stagedTiles : (s.setPair a v).stagedTiles = s.stagedTiles := rfl
@[simp] theorem State.setPair_stagedXfer : (s.setPair a v).stagedXfer = s.stagedXfer := rfl
@[simp] theorem State.setPair_commitPend : (s.setPair a v).commitPend = s.commitPend := rfl
@[simp] theorem State.setPair_commitCmds : (s.setPair a v).commitCmds = s.commitCmds := rfl
@[simp] theorem State.setPair_archNow : (s.setPair a v).archNow = s.archNow := rfl
@[simp] theorem State.setPair_archNext : (s.setPair a v).archNext = s.archNext := rfl
@[simp] theorem State.setPair_calDirty : (s.setPair a v).calDirty = s.calDirty := rfl
@[simp] theorem State.setPair_rotAt : (s.setPair a v).rotAt = s.rotAt := rfl
@[simp] theorem State.setPair_tests : (s.setPair a v).tests = s.tests := rfl
@[simp] theorem State.setPair_inReset : (s.setPair a v).inReset = s.inReset := rfl
@[simp] theorem State.setPair_off : (s.setPair a v).off = s.off := rfl
@[simp] theorem State.setPair_rails : (s.setPair a v).rails = s.rails := rfl
@[simp] theorem State.setPair_tapIr : (s.setPair a v).tapIr = s.tapIr := rfl
@[simp] theorem State.setPair_unlocked : (s.setPair a v).unlocked = s.unlocked := rfl
@[simp] theorem State.setPair_dwFailed : (s.setPair a v).dwFailed = s.dwFailed := rfl
@[simp] theorem State.setPair_spa : (s.setPair a v).spa = s.spa := rfl
@[simp] theorem State.setPair_spaMode : (s.setPair a v).spaMode = s.spaMode := rfl
@[simp] theorem State.setPair_round : (s.setPair a v).round = s.round := rfl
@[simp] theorem State.setPair_good : (s.setPair a v).good = s.good := rfl
@[simp] theorem State.setPair_newBroken : (s.setPair a v).newBroken = s.newBroken := rfl
@[simp] theorem State.setPair_spbOut : (s.setPair a v).spbOut = s.spbOut := rfl
@[simp] theorem State.setPair_diagOut : (s.setPair a v).diagOut = s.diagOut := rfl
@[simp] theorem State.setPair_ports : (s.setPair a v).ports = s.ports := rfl
@[simp] theorem State.setPair_own : (s.setPair a v).own = s.own := rfl
@[simp] theorem State.setPair_reads : (s.setPair a v).reads = s.reads := rfl
@[simp] theorem State.setPair_fetched : (s.setPair a v).fetched = s.fetched := rfl
@[simp] theorem State.setPair_arbLast : (s.setPair a v).arbLast = s.arbLast := rfl
@[simp] theorem State.setPair_arbLeft : (s.setPair a v).arbLeft = s.arbLeft := rfl
@[simp] theorem State.setPair_srcs : (s.setPair a v).srcs = s.srcs := rfl
@[simp] theorem State.setPair_vecs : (s.setPair a v).vecs = s.vecs := rfl
@[simp] theorem State.setPair_vecLast : (s.setPair a v).vecLast = s.vecLast := rfl
@[simp] theorem State.setPair_latched : (s.setPair a v).latched = s.latched := rfl
@[simp] theorem State.setPair_pending : (s.setPair a v).pending = s.pending := rfl
end

/-! ### sramSet -/

section
variable (a n v : Nat)
@[simp] theorem State.sramSet_regs : (s.sramSet a n v).regs = s.regs := rfl
@[simp] theorem State.sramSet_flash : (s.sramSet a n v).flash = s.flash := rfl
@[simp] theorem State.sramSet_host : (s.sramSet a n v).host = s.host := rfl
@[simp] theorem State.sramSet_uptime : (s.sramSet a n v).uptime = s.uptime := rfl
@[simp] theorem State.sramSet_tb : (s.sramSet a n v).tb = s.tb := rfl
@[simp] theorem State.sramSet_div : (s.sramSet a n v).div = s.div := rfl
@[simp] theorem State.sramSet_free : (s.sramSet a n v).free = s.free := rfl
@[simp] theorem State.sramSet_fes : (s.sramSet a n v).fes = s.fes := rfl
@[simp] theorem State.sramSet_cmps : (s.sramSet a n v).cmps = s.cmps := rfl
@[simp] theorem State.sramSet_cmds : (s.sramSet a n v).cmds = s.cmds := rfl
@[simp] theorem State.sramSet_intakes : (s.sramSet a n v).intakes = s.intakes := rfl
@[simp] theorem State.sramSet_insts : (s.sramSet a n v).insts = s.insts := rfl
@[simp] theorem State.sramSet_lastCls : (s.sramSet a n v).lastCls = s.lastCls := rfl
@[simp] theorem State.sramSet_bbStage : (s.sramSet a n v).bbStage = s.bbStage := rfl
@[simp] theorem State.sramSet_adcs : (s.sramSet a n v).adcs = s.adcs := rfl
@[simp] theorem State.sramSet_engs : (s.sramSet a n v).engs = s.engs := rfl
@[simp] theorem State.sramSet_ctxs : (s.sramSet a n v).ctxs = s.ctxs := rfl
@[simp] theorem State.sramSet_flGroups : (s.sramSet a n v).flGroups = s.flGroups := rfl
@[simp] theorem State.sramSet_tdcs : (s.sramSet a n v).tdcs = s.tdcs := rfl
@[simp] theorem State.sramSet_jobs : (s.sramSet a n v).jobs = s.jobs := rfl
@[simp] theorem State.sramSet_trigs : (s.sramSet a n v).trigs = s.trigs := rfl
@[simp] theorem State.sramSet_rots : (s.sramSet a n v).rots = s.rots := rfl
@[simp] theorem State.sramSet_tiles : (s.sramSet a n v).tiles = s.tiles := rfl
@[simp] theorem State.sramSet_anchor : (s.sramSet a n v).anchor = s.anchor := rfl
@[simp] theorem State.sramSet_calSet : (s.sramSet a n v).calSet = s.calSet := rfl
@[simp] theorem State.sramSet_calAt : (s.sramSet a n v).calAt = s.calAt := rfl
@[simp] theorem State.sramSet_calBack : (s.sramSet a n v).calBack = s.calBack := rfl
@[simp] theorem State.sramSet_svcEntry : (s.sramSet a n v).svcEntry = s.svcEntry := rfl
@[simp] theorem State.sramSet_svcExit : (s.sramSet a n v).svcExit = s.svcExit := rfl
@[simp] theorem State.sramSet_armLine : (s.sramSet a n v).armLine = s.armLine := rfl
@[simp] theorem State.sramSet_pulses : (s.sramSet a n v).pulses = s.pulses := rfl
@[simp] theorem State.sramSet_syncArmed : (s.sramSet a n v).syncArmed = s.syncArmed := rfl
@[simp] theorem State.sramSet_pairs : (s.sramSet a n v).pairs = s.pairs := rfl
@[simp] theorem State.sramSet_timing : (s.sramSet a n v).timing = s.timing := rfl
@[simp] theorem State.sramSet_timingNew : (s.sramSet a n v).timingNew = s.timingNew := rfl
@[simp] theorem State.sramSet_charges : (s.sramSet a n v).charges = s.charges := rfl
@[simp] theorem State.sramSet_mics : (s.sramSet a n v).mics = s.mics := rfl
@[simp] theorem State.sramSet_cs : (s.sramSet a n v).cs = s.cs := rfl
@[simp] theorem State.sramSet_svnRaised : (s.sramSet a n v).svnRaised = s.svnRaised := rfl
@[simp] theorem State.sramSet_stagedUnits : (s.sramSet a n v).stagedUnits = s.stagedUnits := rfl
@[simp] theorem State.sramSet_stagedTiles : (s.sramSet a n v).stagedTiles = s.stagedTiles := rfl
@[simp] theorem State.sramSet_stagedXfer : (s.sramSet a n v).stagedXfer = s.stagedXfer := rfl
@[simp] theorem State.sramSet_commitPend : (s.sramSet a n v).commitPend = s.commitPend := rfl
@[simp] theorem State.sramSet_commitCmds : (s.sramSet a n v).commitCmds = s.commitCmds := rfl
@[simp] theorem State.sramSet_archNow : (s.sramSet a n v).archNow = s.archNow := rfl
@[simp] theorem State.sramSet_archNext : (s.sramSet a n v).archNext = s.archNext := rfl
@[simp] theorem State.sramSet_calDirty : (s.sramSet a n v).calDirty = s.calDirty := rfl
@[simp] theorem State.sramSet_rotAt : (s.sramSet a n v).rotAt = s.rotAt := rfl
@[simp] theorem State.sramSet_tests : (s.sramSet a n v).tests = s.tests := rfl
@[simp] theorem State.sramSet_inReset : (s.sramSet a n v).inReset = s.inReset := rfl
@[simp] theorem State.sramSet_off : (s.sramSet a n v).off = s.off := rfl
@[simp] theorem State.sramSet_rails : (s.sramSet a n v).rails = s.rails := rfl
@[simp] theorem State.sramSet_tapIr : (s.sramSet a n v).tapIr = s.tapIr := rfl
@[simp] theorem State.sramSet_unlocked : (s.sramSet a n v).unlocked = s.unlocked := rfl
@[simp] theorem State.sramSet_dwFailed : (s.sramSet a n v).dwFailed = s.dwFailed := rfl
@[simp] theorem State.sramSet_spa : (s.sramSet a n v).spa = s.spa := rfl
@[simp] theorem State.sramSet_spaMode : (s.sramSet a n v).spaMode = s.spaMode := rfl
@[simp] theorem State.sramSet_round : (s.sramSet a n v).round = s.round := rfl
@[simp] theorem State.sramSet_good : (s.sramSet a n v).good = s.good := rfl
@[simp] theorem State.sramSet_newBroken : (s.sramSet a n v).newBroken = s.newBroken := rfl
@[simp] theorem State.sramSet_spbOut : (s.sramSet a n v).spbOut = s.spbOut := rfl
@[simp] theorem State.sramSet_diagOut : (s.sramSet a n v).diagOut = s.diagOut := rfl
@[simp] theorem State.sramSet_ports : (s.sramSet a n v).ports = s.ports := rfl
@[simp] theorem State.sramSet_own : (s.sramSet a n v).own = s.own := rfl
@[simp] theorem State.sramSet_reads : (s.sramSet a n v).reads = s.reads := rfl
@[simp] theorem State.sramSet_fetched : (s.sramSet a n v).fetched = s.fetched := rfl
@[simp] theorem State.sramSet_arbLast : (s.sramSet a n v).arbLast = s.arbLast := rfl
@[simp] theorem State.sramSet_arbLeft : (s.sramSet a n v).arbLeft = s.arbLeft := rfl
@[simp] theorem State.sramSet_srcs : (s.sramSet a n v).srcs = s.srcs := rfl
@[simp] theorem State.sramSet_vecs : (s.sramSet a n v).vecs = s.vecs := rfl
@[simp] theorem State.sramSet_vecLast : (s.sramSet a n v).vecLast = s.vecLast := rfl
@[simp] theorem State.sramSet_latched : (s.sramSet a n v).latched = s.latched := rfl
@[simp] theorem State.sramSet_pending : (s.sramSet a n v).pending = s.pending := rfl
end

/-! ### hostWrite -/

section
variable (a : Nat) (bs : List Byte)
@[simp] theorem State.hostWrite_regs : (s.hostWrite a bs).regs = s.regs := rfl
@[simp] theorem State.hostWrite_sram : (s.hostWrite a bs).sram = s.sram := rfl
@[simp] theorem State.hostWrite_flash : (s.hostWrite a bs).flash = s.flash := rfl
@[simp] theorem State.hostWrite_uptime : (s.hostWrite a bs).uptime = s.uptime := rfl
@[simp] theorem State.hostWrite_tb : (s.hostWrite a bs).tb = s.tb := rfl
@[simp] theorem State.hostWrite_div : (s.hostWrite a bs).div = s.div := rfl
@[simp] theorem State.hostWrite_free : (s.hostWrite a bs).free = s.free := rfl
@[simp] theorem State.hostWrite_fes : (s.hostWrite a bs).fes = s.fes := rfl
@[simp] theorem State.hostWrite_cmps : (s.hostWrite a bs).cmps = s.cmps := rfl
@[simp] theorem State.hostWrite_cmds : (s.hostWrite a bs).cmds = s.cmds := rfl
@[simp] theorem State.hostWrite_intakes : (s.hostWrite a bs).intakes = s.intakes := rfl
@[simp] theorem State.hostWrite_insts : (s.hostWrite a bs).insts = s.insts := rfl
@[simp] theorem State.hostWrite_lastCls : (s.hostWrite a bs).lastCls = s.lastCls := rfl
@[simp] theorem State.hostWrite_bbStage : (s.hostWrite a bs).bbStage = s.bbStage := rfl
@[simp] theorem State.hostWrite_adcs : (s.hostWrite a bs).adcs = s.adcs := rfl
@[simp] theorem State.hostWrite_engs : (s.hostWrite a bs).engs = s.engs := rfl
@[simp] theorem State.hostWrite_ctxs : (s.hostWrite a bs).ctxs = s.ctxs := rfl
@[simp] theorem State.hostWrite_flGroups : (s.hostWrite a bs).flGroups = s.flGroups := rfl
@[simp] theorem State.hostWrite_tdcs : (s.hostWrite a bs).tdcs = s.tdcs := rfl
@[simp] theorem State.hostWrite_jobs : (s.hostWrite a bs).jobs = s.jobs := rfl
@[simp] theorem State.hostWrite_trigs : (s.hostWrite a bs).trigs = s.trigs := rfl
@[simp] theorem State.hostWrite_rots : (s.hostWrite a bs).rots = s.rots := rfl
@[simp] theorem State.hostWrite_tiles : (s.hostWrite a bs).tiles = s.tiles := rfl
@[simp] theorem State.hostWrite_anchor : (s.hostWrite a bs).anchor = s.anchor := rfl
@[simp] theorem State.hostWrite_calSet : (s.hostWrite a bs).calSet = s.calSet := rfl
@[simp] theorem State.hostWrite_calAt : (s.hostWrite a bs).calAt = s.calAt := rfl
@[simp] theorem State.hostWrite_calBack : (s.hostWrite a bs).calBack = s.calBack := rfl
@[simp] theorem State.hostWrite_svcEntry : (s.hostWrite a bs).svcEntry = s.svcEntry := rfl
@[simp] theorem State.hostWrite_svcExit : (s.hostWrite a bs).svcExit = s.svcExit := rfl
@[simp] theorem State.hostWrite_armLine : (s.hostWrite a bs).armLine = s.armLine := rfl
@[simp] theorem State.hostWrite_pulses : (s.hostWrite a bs).pulses = s.pulses := rfl
@[simp] theorem State.hostWrite_syncArmed : (s.hostWrite a bs).syncArmed = s.syncArmed := rfl
@[simp] theorem State.hostWrite_pairs : (s.hostWrite a bs).pairs = s.pairs := rfl
@[simp] theorem State.hostWrite_timing : (s.hostWrite a bs).timing = s.timing := rfl
@[simp] theorem State.hostWrite_timingNew : (s.hostWrite a bs).timingNew = s.timingNew := rfl
@[simp] theorem State.hostWrite_charges : (s.hostWrite a bs).charges = s.charges := rfl
@[simp] theorem State.hostWrite_mics : (s.hostWrite a bs).mics = s.mics := rfl
@[simp] theorem State.hostWrite_cs : (s.hostWrite a bs).cs = s.cs := rfl
@[simp] theorem State.hostWrite_svnRaised : (s.hostWrite a bs).svnRaised = s.svnRaised := rfl
@[simp] theorem State.hostWrite_stagedUnits : (s.hostWrite a bs).stagedUnits = s.stagedUnits := rfl
@[simp] theorem State.hostWrite_stagedTiles : (s.hostWrite a bs).stagedTiles = s.stagedTiles := rfl
@[simp] theorem State.hostWrite_stagedXfer : (s.hostWrite a bs).stagedXfer = s.stagedXfer := rfl
@[simp] theorem State.hostWrite_commitPend : (s.hostWrite a bs).commitPend = s.commitPend := rfl
@[simp] theorem State.hostWrite_commitCmds : (s.hostWrite a bs).commitCmds = s.commitCmds := rfl
@[simp] theorem State.hostWrite_archNow : (s.hostWrite a bs).archNow = s.archNow := rfl
@[simp] theorem State.hostWrite_archNext : (s.hostWrite a bs).archNext = s.archNext := rfl
@[simp] theorem State.hostWrite_calDirty : (s.hostWrite a bs).calDirty = s.calDirty := rfl
@[simp] theorem State.hostWrite_rotAt : (s.hostWrite a bs).rotAt = s.rotAt := rfl
@[simp] theorem State.hostWrite_tests : (s.hostWrite a bs).tests = s.tests := rfl
@[simp] theorem State.hostWrite_inReset : (s.hostWrite a bs).inReset = s.inReset := rfl
@[simp] theorem State.hostWrite_off : (s.hostWrite a bs).off = s.off := rfl
@[simp] theorem State.hostWrite_rails : (s.hostWrite a bs).rails = s.rails := rfl
@[simp] theorem State.hostWrite_tapIr : (s.hostWrite a bs).tapIr = s.tapIr := rfl
@[simp] theorem State.hostWrite_unlocked : (s.hostWrite a bs).unlocked = s.unlocked := rfl
@[simp] theorem State.hostWrite_dwFailed : (s.hostWrite a bs).dwFailed = s.dwFailed := rfl
@[simp] theorem State.hostWrite_spa : (s.hostWrite a bs).spa = s.spa := rfl
@[simp] theorem State.hostWrite_spaMode : (s.hostWrite a bs).spaMode = s.spaMode := rfl
@[simp] theorem State.hostWrite_round : (s.hostWrite a bs).round = s.round := rfl
@[simp] theorem State.hostWrite_good : (s.hostWrite a bs).good = s.good := rfl
@[simp] theorem State.hostWrite_newBroken : (s.hostWrite a bs).newBroken = s.newBroken := rfl
@[simp] theorem State.hostWrite_spbOut : (s.hostWrite a bs).spbOut = s.spbOut := rfl
@[simp] theorem State.hostWrite_diagOut : (s.hostWrite a bs).diagOut = s.diagOut := rfl
@[simp] theorem State.hostWrite_ports : (s.hostWrite a bs).ports = s.ports := rfl
@[simp] theorem State.hostWrite_reads : (s.hostWrite a bs).reads = s.reads := rfl
@[simp] theorem State.hostWrite_fetched : (s.hostWrite a bs).fetched = s.fetched := rfl
@[simp] theorem State.hostWrite_arbLast : (s.hostWrite a bs).arbLast = s.arbLast := rfl
@[simp] theorem State.hostWrite_arbLeft : (s.hostWrite a bs).arbLeft = s.arbLeft := rfl
@[simp] theorem State.hostWrite_srcs : (s.hostWrite a bs).srcs = s.srcs := rfl
@[simp] theorem State.hostWrite_vecs : (s.hostWrite a bs).vecs = s.vecs := rfl
@[simp] theorem State.hostWrite_vecLast : (s.hostWrite a bs).vecLast = s.vecLast := rfl
@[simp] theorem State.hostWrite_latched : (s.hostWrite a bs).latched = s.latched := rfl
@[simp] theorem State.hostWrite_pending : (s.hostWrite a bs).pending = s.pending := rfl
end

/-! ### modFe -/

section
variable (u : Nat) (f : Fe → Fe)
@[simp] theorem State.modFe_regs : (s.modFe u f).regs = s.regs := rfl
@[simp] theorem State.modFe_sram : (s.modFe u f).sram = s.sram := rfl
@[simp] theorem State.modFe_flash : (s.modFe u f).flash = s.flash := rfl
@[simp] theorem State.modFe_host : (s.modFe u f).host = s.host := rfl
@[simp] theorem State.modFe_uptime : (s.modFe u f).uptime = s.uptime := rfl
@[simp] theorem State.modFe_tb : (s.modFe u f).tb = s.tb := rfl
@[simp] theorem State.modFe_div : (s.modFe u f).div = s.div := rfl
@[simp] theorem State.modFe_free : (s.modFe u f).free = s.free := rfl
@[simp] theorem State.modFe_cmps : (s.modFe u f).cmps = s.cmps := rfl
@[simp] theorem State.modFe_cmds : (s.modFe u f).cmds = s.cmds := rfl
@[simp] theorem State.modFe_intakes : (s.modFe u f).intakes = s.intakes := rfl
@[simp] theorem State.modFe_insts : (s.modFe u f).insts = s.insts := rfl
@[simp] theorem State.modFe_lastCls : (s.modFe u f).lastCls = s.lastCls := rfl
@[simp] theorem State.modFe_bbStage : (s.modFe u f).bbStage = s.bbStage := rfl
@[simp] theorem State.modFe_adcs : (s.modFe u f).adcs = s.adcs := rfl
@[simp] theorem State.modFe_engs : (s.modFe u f).engs = s.engs := rfl
@[simp] theorem State.modFe_ctxs : (s.modFe u f).ctxs = s.ctxs := rfl
@[simp] theorem State.modFe_flGroups : (s.modFe u f).flGroups = s.flGroups := rfl
@[simp] theorem State.modFe_tdcs : (s.modFe u f).tdcs = s.tdcs := rfl
@[simp] theorem State.modFe_jobs : (s.modFe u f).jobs = s.jobs := rfl
@[simp] theorem State.modFe_trigs : (s.modFe u f).trigs = s.trigs := rfl
@[simp] theorem State.modFe_rots : (s.modFe u f).rots = s.rots := rfl
@[simp] theorem State.modFe_tiles : (s.modFe u f).tiles = s.tiles := rfl
@[simp] theorem State.modFe_anchor : (s.modFe u f).anchor = s.anchor := rfl
@[simp] theorem State.modFe_calSet : (s.modFe u f).calSet = s.calSet := rfl
@[simp] theorem State.modFe_calAt : (s.modFe u f).calAt = s.calAt := rfl
@[simp] theorem State.modFe_calBack : (s.modFe u f).calBack = s.calBack := rfl
@[simp] theorem State.modFe_svcEntry : (s.modFe u f).svcEntry = s.svcEntry := rfl
@[simp] theorem State.modFe_svcExit : (s.modFe u f).svcExit = s.svcExit := rfl
@[simp] theorem State.modFe_armLine : (s.modFe u f).armLine = s.armLine := rfl
@[simp] theorem State.modFe_pulses : (s.modFe u f).pulses = s.pulses := rfl
@[simp] theorem State.modFe_syncArmed : (s.modFe u f).syncArmed = s.syncArmed := rfl
@[simp] theorem State.modFe_pairs : (s.modFe u f).pairs = s.pairs := rfl
@[simp] theorem State.modFe_timing : (s.modFe u f).timing = s.timing := rfl
@[simp] theorem State.modFe_timingNew : (s.modFe u f).timingNew = s.timingNew := rfl
@[simp] theorem State.modFe_charges : (s.modFe u f).charges = s.charges := rfl
@[simp] theorem State.modFe_mics : (s.modFe u f).mics = s.mics := rfl
@[simp] theorem State.modFe_cs : (s.modFe u f).cs = s.cs := rfl
@[simp] theorem State.modFe_svnRaised : (s.modFe u f).svnRaised = s.svnRaised := rfl
@[simp] theorem State.modFe_stagedUnits : (s.modFe u f).stagedUnits = s.stagedUnits := rfl
@[simp] theorem State.modFe_stagedTiles : (s.modFe u f).stagedTiles = s.stagedTiles := rfl
@[simp] theorem State.modFe_stagedXfer : (s.modFe u f).stagedXfer = s.stagedXfer := rfl
@[simp] theorem State.modFe_commitPend : (s.modFe u f).commitPend = s.commitPend := rfl
@[simp] theorem State.modFe_commitCmds : (s.modFe u f).commitCmds = s.commitCmds := rfl
@[simp] theorem State.modFe_archNow : (s.modFe u f).archNow = s.archNow := rfl
@[simp] theorem State.modFe_archNext : (s.modFe u f).archNext = s.archNext := rfl
@[simp] theorem State.modFe_calDirty : (s.modFe u f).calDirty = s.calDirty := rfl
@[simp] theorem State.modFe_rotAt : (s.modFe u f).rotAt = s.rotAt := rfl
@[simp] theorem State.modFe_tests : (s.modFe u f).tests = s.tests := rfl
@[simp] theorem State.modFe_inReset : (s.modFe u f).inReset = s.inReset := rfl
@[simp] theorem State.modFe_off : (s.modFe u f).off = s.off := rfl
@[simp] theorem State.modFe_rails : (s.modFe u f).rails = s.rails := rfl
@[simp] theorem State.modFe_tapIr : (s.modFe u f).tapIr = s.tapIr := rfl
@[simp] theorem State.modFe_unlocked : (s.modFe u f).unlocked = s.unlocked := rfl
@[simp] theorem State.modFe_dwFailed : (s.modFe u f).dwFailed = s.dwFailed := rfl
@[simp] theorem State.modFe_spa : (s.modFe u f).spa = s.spa := rfl
@[simp] theorem State.modFe_spaMode : (s.modFe u f).spaMode = s.spaMode := rfl
@[simp] theorem State.modFe_round : (s.modFe u f).round = s.round := rfl
@[simp] theorem State.modFe_good : (s.modFe u f).good = s.good := rfl
@[simp] theorem State.modFe_newBroken : (s.modFe u f).newBroken = s.newBroken := rfl
@[simp] theorem State.modFe_spbOut : (s.modFe u f).spbOut = s.spbOut := rfl
@[simp] theorem State.modFe_diagOut : (s.modFe u f).diagOut = s.diagOut := rfl
@[simp] theorem State.modFe_ports : (s.modFe u f).ports = s.ports := rfl
@[simp] theorem State.modFe_own : (s.modFe u f).own = s.own := rfl
@[simp] theorem State.modFe_reads : (s.modFe u f).reads = s.reads := rfl
@[simp] theorem State.modFe_fetched : (s.modFe u f).fetched = s.fetched := rfl
@[simp] theorem State.modFe_arbLast : (s.modFe u f).arbLast = s.arbLast := rfl
@[simp] theorem State.modFe_arbLeft : (s.modFe u f).arbLeft = s.arbLeft := rfl
@[simp] theorem State.modFe_srcs : (s.modFe u f).srcs = s.srcs := rfl
@[simp] theorem State.modFe_vecs : (s.modFe u f).vecs = s.vecs := rfl
@[simp] theorem State.modFe_vecLast : (s.modFe u f).vecLast = s.vecLast := rfl
@[simp] theorem State.modFe_latched : (s.modFe u f).latched = s.latched := rfl
@[simp] theorem State.modFe_pending : (s.modFe u f).pending = s.pending := rfl
end

/-! ### modCmp -/

section
variable (u k : Nat) (f : Cmp → Cmp)
@[simp] theorem State.modCmp_regs : (s.modCmp u k f).regs = s.regs := rfl
@[simp] theorem State.modCmp_sram : (s.modCmp u k f).sram = s.sram := rfl
@[simp] theorem State.modCmp_flash : (s.modCmp u k f).flash = s.flash := rfl
@[simp] theorem State.modCmp_host : (s.modCmp u k f).host = s.host := rfl
@[simp] theorem State.modCmp_uptime : (s.modCmp u k f).uptime = s.uptime := rfl
@[simp] theorem State.modCmp_tb : (s.modCmp u k f).tb = s.tb := rfl
@[simp] theorem State.modCmp_div : (s.modCmp u k f).div = s.div := rfl
@[simp] theorem State.modCmp_free : (s.modCmp u k f).free = s.free := rfl
@[simp] theorem State.modCmp_fes : (s.modCmp u k f).fes = s.fes := rfl
@[simp] theorem State.modCmp_cmds : (s.modCmp u k f).cmds = s.cmds := rfl
@[simp] theorem State.modCmp_intakes : (s.modCmp u k f).intakes = s.intakes := rfl
@[simp] theorem State.modCmp_insts : (s.modCmp u k f).insts = s.insts := rfl
@[simp] theorem State.modCmp_lastCls : (s.modCmp u k f).lastCls = s.lastCls := rfl
@[simp] theorem State.modCmp_bbStage : (s.modCmp u k f).bbStage = s.bbStage := rfl
@[simp] theorem State.modCmp_adcs : (s.modCmp u k f).adcs = s.adcs := rfl
@[simp] theorem State.modCmp_engs : (s.modCmp u k f).engs = s.engs := rfl
@[simp] theorem State.modCmp_ctxs : (s.modCmp u k f).ctxs = s.ctxs := rfl
@[simp] theorem State.modCmp_flGroups : (s.modCmp u k f).flGroups = s.flGroups := rfl
@[simp] theorem State.modCmp_tdcs : (s.modCmp u k f).tdcs = s.tdcs := rfl
@[simp] theorem State.modCmp_jobs : (s.modCmp u k f).jobs = s.jobs := rfl
@[simp] theorem State.modCmp_trigs : (s.modCmp u k f).trigs = s.trigs := rfl
@[simp] theorem State.modCmp_rots : (s.modCmp u k f).rots = s.rots := rfl
@[simp] theorem State.modCmp_tiles : (s.modCmp u k f).tiles = s.tiles := rfl
@[simp] theorem State.modCmp_anchor : (s.modCmp u k f).anchor = s.anchor := rfl
@[simp] theorem State.modCmp_calSet : (s.modCmp u k f).calSet = s.calSet := rfl
@[simp] theorem State.modCmp_calAt : (s.modCmp u k f).calAt = s.calAt := rfl
@[simp] theorem State.modCmp_calBack : (s.modCmp u k f).calBack = s.calBack := rfl
@[simp] theorem State.modCmp_svcEntry : (s.modCmp u k f).svcEntry = s.svcEntry := rfl
@[simp] theorem State.modCmp_svcExit : (s.modCmp u k f).svcExit = s.svcExit := rfl
@[simp] theorem State.modCmp_armLine : (s.modCmp u k f).armLine = s.armLine := rfl
@[simp] theorem State.modCmp_pulses : (s.modCmp u k f).pulses = s.pulses := rfl
@[simp] theorem State.modCmp_syncArmed : (s.modCmp u k f).syncArmed = s.syncArmed := rfl
@[simp] theorem State.modCmp_pairs : (s.modCmp u k f).pairs = s.pairs := rfl
@[simp] theorem State.modCmp_timing : (s.modCmp u k f).timing = s.timing := rfl
@[simp] theorem State.modCmp_timingNew : (s.modCmp u k f).timingNew = s.timingNew := rfl
@[simp] theorem State.modCmp_charges : (s.modCmp u k f).charges = s.charges := rfl
@[simp] theorem State.modCmp_mics : (s.modCmp u k f).mics = s.mics := rfl
@[simp] theorem State.modCmp_cs : (s.modCmp u k f).cs = s.cs := rfl
@[simp] theorem State.modCmp_svnRaised : (s.modCmp u k f).svnRaised = s.svnRaised := rfl
@[simp] theorem State.modCmp_stagedUnits : (s.modCmp u k f).stagedUnits = s.stagedUnits := rfl
@[simp] theorem State.modCmp_stagedTiles : (s.modCmp u k f).stagedTiles = s.stagedTiles := rfl
@[simp] theorem State.modCmp_stagedXfer : (s.modCmp u k f).stagedXfer = s.stagedXfer := rfl
@[simp] theorem State.modCmp_commitPend : (s.modCmp u k f).commitPend = s.commitPend := rfl
@[simp] theorem State.modCmp_commitCmds : (s.modCmp u k f).commitCmds = s.commitCmds := rfl
@[simp] theorem State.modCmp_archNow : (s.modCmp u k f).archNow = s.archNow := rfl
@[simp] theorem State.modCmp_archNext : (s.modCmp u k f).archNext = s.archNext := rfl
@[simp] theorem State.modCmp_calDirty : (s.modCmp u k f).calDirty = s.calDirty := rfl
@[simp] theorem State.modCmp_rotAt : (s.modCmp u k f).rotAt = s.rotAt := rfl
@[simp] theorem State.modCmp_tests : (s.modCmp u k f).tests = s.tests := rfl
@[simp] theorem State.modCmp_inReset : (s.modCmp u k f).inReset = s.inReset := rfl
@[simp] theorem State.modCmp_off : (s.modCmp u k f).off = s.off := rfl
@[simp] theorem State.modCmp_rails : (s.modCmp u k f).rails = s.rails := rfl
@[simp] theorem State.modCmp_tapIr : (s.modCmp u k f).tapIr = s.tapIr := rfl
@[simp] theorem State.modCmp_unlocked : (s.modCmp u k f).unlocked = s.unlocked := rfl
@[simp] theorem State.modCmp_dwFailed : (s.modCmp u k f).dwFailed = s.dwFailed := rfl
@[simp] theorem State.modCmp_spa : (s.modCmp u k f).spa = s.spa := rfl
@[simp] theorem State.modCmp_spaMode : (s.modCmp u k f).spaMode = s.spaMode := rfl
@[simp] theorem State.modCmp_round : (s.modCmp u k f).round = s.round := rfl
@[simp] theorem State.modCmp_good : (s.modCmp u k f).good = s.good := rfl
@[simp] theorem State.modCmp_newBroken : (s.modCmp u k f).newBroken = s.newBroken := rfl
@[simp] theorem State.modCmp_spbOut : (s.modCmp u k f).spbOut = s.spbOut := rfl
@[simp] theorem State.modCmp_diagOut : (s.modCmp u k f).diagOut = s.diagOut := rfl
@[simp] theorem State.modCmp_ports : (s.modCmp u k f).ports = s.ports := rfl
@[simp] theorem State.modCmp_own : (s.modCmp u k f).own = s.own := rfl
@[simp] theorem State.modCmp_reads : (s.modCmp u k f).reads = s.reads := rfl
@[simp] theorem State.modCmp_fetched : (s.modCmp u k f).fetched = s.fetched := rfl
@[simp] theorem State.modCmp_arbLast : (s.modCmp u k f).arbLast = s.arbLast := rfl
@[simp] theorem State.modCmp_arbLeft : (s.modCmp u k f).arbLeft = s.arbLeft := rfl
@[simp] theorem State.modCmp_srcs : (s.modCmp u k f).srcs = s.srcs := rfl
@[simp] theorem State.modCmp_vecs : (s.modCmp u k f).vecs = s.vecs := rfl
@[simp] theorem State.modCmp_vecLast : (s.modCmp u k f).vecLast = s.vecLast := rfl
@[simp] theorem State.modCmp_latched : (s.modCmp u k f).latched = s.latched := rfl
@[simp] theorem State.modCmp_pending : (s.modCmp u k f).pending = s.pending := rfl
end

/-! ### setInst -/

section
variable (k : Nat) (i : Inst)
@[simp] theorem State.setInst_regs : (s.setInst k i).regs = s.regs := rfl
@[simp] theorem State.setInst_sram : (s.setInst k i).sram = s.sram := rfl
@[simp] theorem State.setInst_flash : (s.setInst k i).flash = s.flash := rfl
@[simp] theorem State.setInst_host : (s.setInst k i).host = s.host := rfl
@[simp] theorem State.setInst_uptime : (s.setInst k i).uptime = s.uptime := rfl
@[simp] theorem State.setInst_tb : (s.setInst k i).tb = s.tb := rfl
@[simp] theorem State.setInst_div : (s.setInst k i).div = s.div := rfl
@[simp] theorem State.setInst_free : (s.setInst k i).free = s.free := rfl
@[simp] theorem State.setInst_fes : (s.setInst k i).fes = s.fes := rfl
@[simp] theorem State.setInst_cmps : (s.setInst k i).cmps = s.cmps := rfl
@[simp] theorem State.setInst_cmds : (s.setInst k i).cmds = s.cmds := rfl
@[simp] theorem State.setInst_intakes : (s.setInst k i).intakes = s.intakes := rfl
@[simp] theorem State.setInst_lastCls : (s.setInst k i).lastCls = s.lastCls := rfl
@[simp] theorem State.setInst_bbStage : (s.setInst k i).bbStage = s.bbStage := rfl
@[simp] theorem State.setInst_adcs : (s.setInst k i).adcs = s.adcs := rfl
@[simp] theorem State.setInst_engs : (s.setInst k i).engs = s.engs := rfl
@[simp] theorem State.setInst_ctxs : (s.setInst k i).ctxs = s.ctxs := rfl
@[simp] theorem State.setInst_flGroups : (s.setInst k i).flGroups = s.flGroups := rfl
@[simp] theorem State.setInst_tdcs : (s.setInst k i).tdcs = s.tdcs := rfl
@[simp] theorem State.setInst_jobs : (s.setInst k i).jobs = s.jobs := rfl
@[simp] theorem State.setInst_trigs : (s.setInst k i).trigs = s.trigs := rfl
@[simp] theorem State.setInst_rots : (s.setInst k i).rots = s.rots := rfl
@[simp] theorem State.setInst_tiles : (s.setInst k i).tiles = s.tiles := rfl
@[simp] theorem State.setInst_anchor : (s.setInst k i).anchor = s.anchor := rfl
@[simp] theorem State.setInst_calSet : (s.setInst k i).calSet = s.calSet := rfl
@[simp] theorem State.setInst_calAt : (s.setInst k i).calAt = s.calAt := rfl
@[simp] theorem State.setInst_calBack : (s.setInst k i).calBack = s.calBack := rfl
@[simp] theorem State.setInst_svcEntry : (s.setInst k i).svcEntry = s.svcEntry := rfl
@[simp] theorem State.setInst_svcExit : (s.setInst k i).svcExit = s.svcExit := rfl
@[simp] theorem State.setInst_armLine : (s.setInst k i).armLine = s.armLine := rfl
@[simp] theorem State.setInst_pulses : (s.setInst k i).pulses = s.pulses := rfl
@[simp] theorem State.setInst_syncArmed : (s.setInst k i).syncArmed = s.syncArmed := rfl
@[simp] theorem State.setInst_pairs : (s.setInst k i).pairs = s.pairs := rfl
@[simp] theorem State.setInst_timing : (s.setInst k i).timing = s.timing := rfl
@[simp] theorem State.setInst_timingNew : (s.setInst k i).timingNew = s.timingNew := rfl
@[simp] theorem State.setInst_charges : (s.setInst k i).charges = s.charges := rfl
@[simp] theorem State.setInst_mics : (s.setInst k i).mics = s.mics := rfl
@[simp] theorem State.setInst_cs : (s.setInst k i).cs = s.cs := rfl
@[simp] theorem State.setInst_svnRaised : (s.setInst k i).svnRaised = s.svnRaised := rfl
@[simp] theorem State.setInst_stagedUnits : (s.setInst k i).stagedUnits = s.stagedUnits := rfl
@[simp] theorem State.setInst_stagedTiles : (s.setInst k i).stagedTiles = s.stagedTiles := rfl
@[simp] theorem State.setInst_stagedXfer : (s.setInst k i).stagedXfer = s.stagedXfer := rfl
@[simp] theorem State.setInst_commitPend : (s.setInst k i).commitPend = s.commitPend := rfl
@[simp] theorem State.setInst_commitCmds : (s.setInst k i).commitCmds = s.commitCmds := rfl
@[simp] theorem State.setInst_archNow : (s.setInst k i).archNow = s.archNow := rfl
@[simp] theorem State.setInst_archNext : (s.setInst k i).archNext = s.archNext := rfl
@[simp] theorem State.setInst_calDirty : (s.setInst k i).calDirty = s.calDirty := rfl
@[simp] theorem State.setInst_rotAt : (s.setInst k i).rotAt = s.rotAt := rfl
@[simp] theorem State.setInst_tests : (s.setInst k i).tests = s.tests := rfl
@[simp] theorem State.setInst_inReset : (s.setInst k i).inReset = s.inReset := rfl
@[simp] theorem State.setInst_off : (s.setInst k i).off = s.off := rfl
@[simp] theorem State.setInst_rails : (s.setInst k i).rails = s.rails := rfl
@[simp] theorem State.setInst_tapIr : (s.setInst k i).tapIr = s.tapIr := rfl
@[simp] theorem State.setInst_unlocked : (s.setInst k i).unlocked = s.unlocked := rfl
@[simp] theorem State.setInst_dwFailed : (s.setInst k i).dwFailed = s.dwFailed := rfl
@[simp] theorem State.setInst_spa : (s.setInst k i).spa = s.spa := rfl
@[simp] theorem State.setInst_spaMode : (s.setInst k i).spaMode = s.spaMode := rfl
@[simp] theorem State.setInst_round : (s.setInst k i).round = s.round := rfl
@[simp] theorem State.setInst_good : (s.setInst k i).good = s.good := rfl
@[simp] theorem State.setInst_newBroken : (s.setInst k i).newBroken = s.newBroken := rfl
@[simp] theorem State.setInst_spbOut : (s.setInst k i).spbOut = s.spbOut := rfl
@[simp] theorem State.setInst_diagOut : (s.setInst k i).diagOut = s.diagOut := rfl
@[simp] theorem State.setInst_ports : (s.setInst k i).ports = s.ports := rfl
@[simp] theorem State.setInst_own : (s.setInst k i).own = s.own := rfl
@[simp] theorem State.setInst_reads : (s.setInst k i).reads = s.reads := rfl
@[simp] theorem State.setInst_fetched : (s.setInst k i).fetched = s.fetched := rfl
@[simp] theorem State.setInst_arbLast : (s.setInst k i).arbLast = s.arbLast := rfl
@[simp] theorem State.setInst_arbLeft : (s.setInst k i).arbLeft = s.arbLeft := rfl
@[simp] theorem State.setInst_srcs : (s.setInst k i).srcs = s.srcs := rfl
@[simp] theorem State.setInst_vecs : (s.setInst k i).vecs = s.vecs := rfl
@[simp] theorem State.setInst_vecLast : (s.setInst k i).vecLast = s.vecLast := rfl
@[simp] theorem State.setInst_latched : (s.setInst k i).latched = s.latched := rfl
@[simp] theorem State.setInst_pending : (s.setInst k i).pending = s.pending := rfl
end

/-! ### modAdc -/

section
variable (u : Nat) (f : Adc → Adc)
@[simp] theorem State.modAdc_regs : (s.modAdc u f).regs = s.regs := rfl
@[simp] theorem State.modAdc_sram : (s.modAdc u f).sram = s.sram := rfl
@[simp] theorem State.modAdc_flash : (s.modAdc u f).flash = s.flash := rfl
@[simp] theorem State.modAdc_host : (s.modAdc u f).host = s.host := rfl
@[simp] theorem State.modAdc_uptime : (s.modAdc u f).uptime = s.uptime := rfl
@[simp] theorem State.modAdc_tb : (s.modAdc u f).tb = s.tb := rfl
@[simp] theorem State.modAdc_div : (s.modAdc u f).div = s.div := rfl
@[simp] theorem State.modAdc_free : (s.modAdc u f).free = s.free := rfl
@[simp] theorem State.modAdc_fes : (s.modAdc u f).fes = s.fes := rfl
@[simp] theorem State.modAdc_cmps : (s.modAdc u f).cmps = s.cmps := rfl
@[simp] theorem State.modAdc_cmds : (s.modAdc u f).cmds = s.cmds := rfl
@[simp] theorem State.modAdc_intakes : (s.modAdc u f).intakes = s.intakes := rfl
@[simp] theorem State.modAdc_insts : (s.modAdc u f).insts = s.insts := rfl
@[simp] theorem State.modAdc_lastCls : (s.modAdc u f).lastCls = s.lastCls := rfl
@[simp] theorem State.modAdc_bbStage : (s.modAdc u f).bbStage = s.bbStage := rfl
@[simp] theorem State.modAdc_engs : (s.modAdc u f).engs = s.engs := rfl
@[simp] theorem State.modAdc_ctxs : (s.modAdc u f).ctxs = s.ctxs := rfl
@[simp] theorem State.modAdc_flGroups : (s.modAdc u f).flGroups = s.flGroups := rfl
@[simp] theorem State.modAdc_tdcs : (s.modAdc u f).tdcs = s.tdcs := rfl
@[simp] theorem State.modAdc_jobs : (s.modAdc u f).jobs = s.jobs := rfl
@[simp] theorem State.modAdc_trigs : (s.modAdc u f).trigs = s.trigs := rfl
@[simp] theorem State.modAdc_rots : (s.modAdc u f).rots = s.rots := rfl
@[simp] theorem State.modAdc_tiles : (s.modAdc u f).tiles = s.tiles := rfl
@[simp] theorem State.modAdc_anchor : (s.modAdc u f).anchor = s.anchor := rfl
@[simp] theorem State.modAdc_calSet : (s.modAdc u f).calSet = s.calSet := rfl
@[simp] theorem State.modAdc_calAt : (s.modAdc u f).calAt = s.calAt := rfl
@[simp] theorem State.modAdc_calBack : (s.modAdc u f).calBack = s.calBack := rfl
@[simp] theorem State.modAdc_svcEntry : (s.modAdc u f).svcEntry = s.svcEntry := rfl
@[simp] theorem State.modAdc_svcExit : (s.modAdc u f).svcExit = s.svcExit := rfl
@[simp] theorem State.modAdc_armLine : (s.modAdc u f).armLine = s.armLine := rfl
@[simp] theorem State.modAdc_pulses : (s.modAdc u f).pulses = s.pulses := rfl
@[simp] theorem State.modAdc_syncArmed : (s.modAdc u f).syncArmed = s.syncArmed := rfl
@[simp] theorem State.modAdc_pairs : (s.modAdc u f).pairs = s.pairs := rfl
@[simp] theorem State.modAdc_timing : (s.modAdc u f).timing = s.timing := rfl
@[simp] theorem State.modAdc_timingNew : (s.modAdc u f).timingNew = s.timingNew := rfl
@[simp] theorem State.modAdc_charges : (s.modAdc u f).charges = s.charges := rfl
@[simp] theorem State.modAdc_mics : (s.modAdc u f).mics = s.mics := rfl
@[simp] theorem State.modAdc_cs : (s.modAdc u f).cs = s.cs := rfl
@[simp] theorem State.modAdc_svnRaised : (s.modAdc u f).svnRaised = s.svnRaised := rfl
@[simp] theorem State.modAdc_stagedUnits : (s.modAdc u f).stagedUnits = s.stagedUnits := rfl
@[simp] theorem State.modAdc_stagedTiles : (s.modAdc u f).stagedTiles = s.stagedTiles := rfl
@[simp] theorem State.modAdc_stagedXfer : (s.modAdc u f).stagedXfer = s.stagedXfer := rfl
@[simp] theorem State.modAdc_commitPend : (s.modAdc u f).commitPend = s.commitPend := rfl
@[simp] theorem State.modAdc_commitCmds : (s.modAdc u f).commitCmds = s.commitCmds := rfl
@[simp] theorem State.modAdc_archNow : (s.modAdc u f).archNow = s.archNow := rfl
@[simp] theorem State.modAdc_archNext : (s.modAdc u f).archNext = s.archNext := rfl
@[simp] theorem State.modAdc_calDirty : (s.modAdc u f).calDirty = s.calDirty := rfl
@[simp] theorem State.modAdc_rotAt : (s.modAdc u f).rotAt = s.rotAt := rfl
@[simp] theorem State.modAdc_tests : (s.modAdc u f).tests = s.tests := rfl
@[simp] theorem State.modAdc_inReset : (s.modAdc u f).inReset = s.inReset := rfl
@[simp] theorem State.modAdc_off : (s.modAdc u f).off = s.off := rfl
@[simp] theorem State.modAdc_rails : (s.modAdc u f).rails = s.rails := rfl
@[simp] theorem State.modAdc_tapIr : (s.modAdc u f).tapIr = s.tapIr := rfl
@[simp] theorem State.modAdc_unlocked : (s.modAdc u f).unlocked = s.unlocked := rfl
@[simp] theorem State.modAdc_dwFailed : (s.modAdc u f).dwFailed = s.dwFailed := rfl
@[simp] theorem State.modAdc_spa : (s.modAdc u f).spa = s.spa := rfl
@[simp] theorem State.modAdc_spaMode : (s.modAdc u f).spaMode = s.spaMode := rfl
@[simp] theorem State.modAdc_round : (s.modAdc u f).round = s.round := rfl
@[simp] theorem State.modAdc_good : (s.modAdc u f).good = s.good := rfl
@[simp] theorem State.modAdc_newBroken : (s.modAdc u f).newBroken = s.newBroken := rfl
@[simp] theorem State.modAdc_spbOut : (s.modAdc u f).spbOut = s.spbOut := rfl
@[simp] theorem State.modAdc_diagOut : (s.modAdc u f).diagOut = s.diagOut := rfl
@[simp] theorem State.modAdc_ports : (s.modAdc u f).ports = s.ports := rfl
@[simp] theorem State.modAdc_own : (s.modAdc u f).own = s.own := rfl
@[simp] theorem State.modAdc_reads : (s.modAdc u f).reads = s.reads := rfl
@[simp] theorem State.modAdc_fetched : (s.modAdc u f).fetched = s.fetched := rfl
@[simp] theorem State.modAdc_arbLast : (s.modAdc u f).arbLast = s.arbLast := rfl
@[simp] theorem State.modAdc_arbLeft : (s.modAdc u f).arbLeft = s.arbLeft := rfl
@[simp] theorem State.modAdc_srcs : (s.modAdc u f).srcs = s.srcs := rfl
@[simp] theorem State.modAdc_vecs : (s.modAdc u f).vecs = s.vecs := rfl
@[simp] theorem State.modAdc_vecLast : (s.modAdc u f).vecLast = s.vecLast := rfl
@[simp] theorem State.modAdc_latched : (s.modAdc u f).latched = s.latched := rfl
@[simp] theorem State.modAdc_pending : (s.modAdc u f).pending = s.pending := rfl
end

/-! ### modEng -/

section
variable (c : Nat) (f : Eng → Eng)
@[simp] theorem State.modEng_regs : (s.modEng c f).regs = s.regs := rfl
@[simp] theorem State.modEng_sram : (s.modEng c f).sram = s.sram := rfl
@[simp] theorem State.modEng_flash : (s.modEng c f).flash = s.flash := rfl
@[simp] theorem State.modEng_host : (s.modEng c f).host = s.host := rfl
@[simp] theorem State.modEng_uptime : (s.modEng c f).uptime = s.uptime := rfl
@[simp] theorem State.modEng_tb : (s.modEng c f).tb = s.tb := rfl
@[simp] theorem State.modEng_div : (s.modEng c f).div = s.div := rfl
@[simp] theorem State.modEng_free : (s.modEng c f).free = s.free := rfl
@[simp] theorem State.modEng_fes : (s.modEng c f).fes = s.fes := rfl
@[simp] theorem State.modEng_cmps : (s.modEng c f).cmps = s.cmps := rfl
@[simp] theorem State.modEng_cmds : (s.modEng c f).cmds = s.cmds := rfl
@[simp] theorem State.modEng_intakes : (s.modEng c f).intakes = s.intakes := rfl
@[simp] theorem State.modEng_insts : (s.modEng c f).insts = s.insts := rfl
@[simp] theorem State.modEng_lastCls : (s.modEng c f).lastCls = s.lastCls := rfl
@[simp] theorem State.modEng_bbStage : (s.modEng c f).bbStage = s.bbStage := rfl
@[simp] theorem State.modEng_adcs : (s.modEng c f).adcs = s.adcs := rfl
@[simp] theorem State.modEng_ctxs : (s.modEng c f).ctxs = s.ctxs := rfl
@[simp] theorem State.modEng_flGroups : (s.modEng c f).flGroups = s.flGroups := rfl
@[simp] theorem State.modEng_tdcs : (s.modEng c f).tdcs = s.tdcs := rfl
@[simp] theorem State.modEng_jobs : (s.modEng c f).jobs = s.jobs := rfl
@[simp] theorem State.modEng_trigs : (s.modEng c f).trigs = s.trigs := rfl
@[simp] theorem State.modEng_rots : (s.modEng c f).rots = s.rots := rfl
@[simp] theorem State.modEng_tiles : (s.modEng c f).tiles = s.tiles := rfl
@[simp] theorem State.modEng_anchor : (s.modEng c f).anchor = s.anchor := rfl
@[simp] theorem State.modEng_calSet : (s.modEng c f).calSet = s.calSet := rfl
@[simp] theorem State.modEng_calAt : (s.modEng c f).calAt = s.calAt := rfl
@[simp] theorem State.modEng_calBack : (s.modEng c f).calBack = s.calBack := rfl
@[simp] theorem State.modEng_svcEntry : (s.modEng c f).svcEntry = s.svcEntry := rfl
@[simp] theorem State.modEng_svcExit : (s.modEng c f).svcExit = s.svcExit := rfl
@[simp] theorem State.modEng_armLine : (s.modEng c f).armLine = s.armLine := rfl
@[simp] theorem State.modEng_pulses : (s.modEng c f).pulses = s.pulses := rfl
@[simp] theorem State.modEng_syncArmed : (s.modEng c f).syncArmed = s.syncArmed := rfl
@[simp] theorem State.modEng_pairs : (s.modEng c f).pairs = s.pairs := rfl
@[simp] theorem State.modEng_timing : (s.modEng c f).timing = s.timing := rfl
@[simp] theorem State.modEng_timingNew : (s.modEng c f).timingNew = s.timingNew := rfl
@[simp] theorem State.modEng_charges : (s.modEng c f).charges = s.charges := rfl
@[simp] theorem State.modEng_mics : (s.modEng c f).mics = s.mics := rfl
@[simp] theorem State.modEng_cs : (s.modEng c f).cs = s.cs := rfl
@[simp] theorem State.modEng_svnRaised : (s.modEng c f).svnRaised = s.svnRaised := rfl
@[simp] theorem State.modEng_stagedUnits : (s.modEng c f).stagedUnits = s.stagedUnits := rfl
@[simp] theorem State.modEng_stagedTiles : (s.modEng c f).stagedTiles = s.stagedTiles := rfl
@[simp] theorem State.modEng_stagedXfer : (s.modEng c f).stagedXfer = s.stagedXfer := rfl
@[simp] theorem State.modEng_commitPend : (s.modEng c f).commitPend = s.commitPend := rfl
@[simp] theorem State.modEng_commitCmds : (s.modEng c f).commitCmds = s.commitCmds := rfl
@[simp] theorem State.modEng_archNow : (s.modEng c f).archNow = s.archNow := rfl
@[simp] theorem State.modEng_archNext : (s.modEng c f).archNext = s.archNext := rfl
@[simp] theorem State.modEng_calDirty : (s.modEng c f).calDirty = s.calDirty := rfl
@[simp] theorem State.modEng_rotAt : (s.modEng c f).rotAt = s.rotAt := rfl
@[simp] theorem State.modEng_tests : (s.modEng c f).tests = s.tests := rfl
@[simp] theorem State.modEng_inReset : (s.modEng c f).inReset = s.inReset := rfl
@[simp] theorem State.modEng_off : (s.modEng c f).off = s.off := rfl
@[simp] theorem State.modEng_rails : (s.modEng c f).rails = s.rails := rfl
@[simp] theorem State.modEng_tapIr : (s.modEng c f).tapIr = s.tapIr := rfl
@[simp] theorem State.modEng_unlocked : (s.modEng c f).unlocked = s.unlocked := rfl
@[simp] theorem State.modEng_dwFailed : (s.modEng c f).dwFailed = s.dwFailed := rfl
@[simp] theorem State.modEng_spa : (s.modEng c f).spa = s.spa := rfl
@[simp] theorem State.modEng_spaMode : (s.modEng c f).spaMode = s.spaMode := rfl
@[simp] theorem State.modEng_round : (s.modEng c f).round = s.round := rfl
@[simp] theorem State.modEng_good : (s.modEng c f).good = s.good := rfl
@[simp] theorem State.modEng_newBroken : (s.modEng c f).newBroken = s.newBroken := rfl
@[simp] theorem State.modEng_spbOut : (s.modEng c f).spbOut = s.spbOut := rfl
@[simp] theorem State.modEng_diagOut : (s.modEng c f).diagOut = s.diagOut := rfl
@[simp] theorem State.modEng_ports : (s.modEng c f).ports = s.ports := rfl
@[simp] theorem State.modEng_own : (s.modEng c f).own = s.own := rfl
@[simp] theorem State.modEng_reads : (s.modEng c f).reads = s.reads := rfl
@[simp] theorem State.modEng_fetched : (s.modEng c f).fetched = s.fetched := rfl
@[simp] theorem State.modEng_arbLast : (s.modEng c f).arbLast = s.arbLast := rfl
@[simp] theorem State.modEng_arbLeft : (s.modEng c f).arbLeft = s.arbLeft := rfl
@[simp] theorem State.modEng_srcs : (s.modEng c f).srcs = s.srcs := rfl
@[simp] theorem State.modEng_vecs : (s.modEng c f).vecs = s.vecs := rfl
@[simp] theorem State.modEng_vecLast : (s.modEng c f).vecLast = s.vecLast := rfl
@[simp] theorem State.modEng_latched : (s.modEng c f).latched = s.latched := rfl
@[simp] theorem State.modEng_pending : (s.modEng c f).pending = s.pending := rfl
end

/-! ### modMic -/

section
variable (c : Nat) (f : Mic → Mic)
@[simp] theorem State.modMic_regs : (s.modMic c f).regs = s.regs := rfl
@[simp] theorem State.modMic_sram : (s.modMic c f).sram = s.sram := rfl
@[simp] theorem State.modMic_flash : (s.modMic c f).flash = s.flash := rfl
@[simp] theorem State.modMic_host : (s.modMic c f).host = s.host := rfl
@[simp] theorem State.modMic_uptime : (s.modMic c f).uptime = s.uptime := rfl
@[simp] theorem State.modMic_tb : (s.modMic c f).tb = s.tb := rfl
@[simp] theorem State.modMic_div : (s.modMic c f).div = s.div := rfl
@[simp] theorem State.modMic_free : (s.modMic c f).free = s.free := rfl
@[simp] theorem State.modMic_fes : (s.modMic c f).fes = s.fes := rfl
@[simp] theorem State.modMic_cmps : (s.modMic c f).cmps = s.cmps := rfl
@[simp] theorem State.modMic_cmds : (s.modMic c f).cmds = s.cmds := rfl
@[simp] theorem State.modMic_intakes : (s.modMic c f).intakes = s.intakes := rfl
@[simp] theorem State.modMic_insts : (s.modMic c f).insts = s.insts := rfl
@[simp] theorem State.modMic_lastCls : (s.modMic c f).lastCls = s.lastCls := rfl
@[simp] theorem State.modMic_bbStage : (s.modMic c f).bbStage = s.bbStage := rfl
@[simp] theorem State.modMic_adcs : (s.modMic c f).adcs = s.adcs := rfl
@[simp] theorem State.modMic_engs : (s.modMic c f).engs = s.engs := rfl
@[simp] theorem State.modMic_ctxs : (s.modMic c f).ctxs = s.ctxs := rfl
@[simp] theorem State.modMic_flGroups : (s.modMic c f).flGroups = s.flGroups := rfl
@[simp] theorem State.modMic_tdcs : (s.modMic c f).tdcs = s.tdcs := rfl
@[simp] theorem State.modMic_jobs : (s.modMic c f).jobs = s.jobs := rfl
@[simp] theorem State.modMic_trigs : (s.modMic c f).trigs = s.trigs := rfl
@[simp] theorem State.modMic_rots : (s.modMic c f).rots = s.rots := rfl
@[simp] theorem State.modMic_tiles : (s.modMic c f).tiles = s.tiles := rfl
@[simp] theorem State.modMic_anchor : (s.modMic c f).anchor = s.anchor := rfl
@[simp] theorem State.modMic_calSet : (s.modMic c f).calSet = s.calSet := rfl
@[simp] theorem State.modMic_calAt : (s.modMic c f).calAt = s.calAt := rfl
@[simp] theorem State.modMic_calBack : (s.modMic c f).calBack = s.calBack := rfl
@[simp] theorem State.modMic_svcEntry : (s.modMic c f).svcEntry = s.svcEntry := rfl
@[simp] theorem State.modMic_svcExit : (s.modMic c f).svcExit = s.svcExit := rfl
@[simp] theorem State.modMic_armLine : (s.modMic c f).armLine = s.armLine := rfl
@[simp] theorem State.modMic_pulses : (s.modMic c f).pulses = s.pulses := rfl
@[simp] theorem State.modMic_syncArmed : (s.modMic c f).syncArmed = s.syncArmed := rfl
@[simp] theorem State.modMic_pairs : (s.modMic c f).pairs = s.pairs := rfl
@[simp] theorem State.modMic_timing : (s.modMic c f).timing = s.timing := rfl
@[simp] theorem State.modMic_timingNew : (s.modMic c f).timingNew = s.timingNew := rfl
@[simp] theorem State.modMic_charges : (s.modMic c f).charges = s.charges := rfl
@[simp] theorem State.modMic_cs : (s.modMic c f).cs = s.cs := rfl
@[simp] theorem State.modMic_svnRaised : (s.modMic c f).svnRaised = s.svnRaised := rfl
@[simp] theorem State.modMic_stagedUnits : (s.modMic c f).stagedUnits = s.stagedUnits := rfl
@[simp] theorem State.modMic_stagedTiles : (s.modMic c f).stagedTiles = s.stagedTiles := rfl
@[simp] theorem State.modMic_stagedXfer : (s.modMic c f).stagedXfer = s.stagedXfer := rfl
@[simp] theorem State.modMic_commitPend : (s.modMic c f).commitPend = s.commitPend := rfl
@[simp] theorem State.modMic_commitCmds : (s.modMic c f).commitCmds = s.commitCmds := rfl
@[simp] theorem State.modMic_archNow : (s.modMic c f).archNow = s.archNow := rfl
@[simp] theorem State.modMic_archNext : (s.modMic c f).archNext = s.archNext := rfl
@[simp] theorem State.modMic_calDirty : (s.modMic c f).calDirty = s.calDirty := rfl
@[simp] theorem State.modMic_rotAt : (s.modMic c f).rotAt = s.rotAt := rfl
@[simp] theorem State.modMic_tests : (s.modMic c f).tests = s.tests := rfl
@[simp] theorem State.modMic_inReset : (s.modMic c f).inReset = s.inReset := rfl
@[simp] theorem State.modMic_off : (s.modMic c f).off = s.off := rfl
@[simp] theorem State.modMic_rails : (s.modMic c f).rails = s.rails := rfl
@[simp] theorem State.modMic_tapIr : (s.modMic c f).tapIr = s.tapIr := rfl
@[simp] theorem State.modMic_unlocked : (s.modMic c f).unlocked = s.unlocked := rfl
@[simp] theorem State.modMic_dwFailed : (s.modMic c f).dwFailed = s.dwFailed := rfl
@[simp] theorem State.modMic_spa : (s.modMic c f).spa = s.spa := rfl
@[simp] theorem State.modMic_spaMode : (s.modMic c f).spaMode = s.spaMode := rfl
@[simp] theorem State.modMic_round : (s.modMic c f).round = s.round := rfl
@[simp] theorem State.modMic_good : (s.modMic c f).good = s.good := rfl
@[simp] theorem State.modMic_newBroken : (s.modMic c f).newBroken = s.newBroken := rfl
@[simp] theorem State.modMic_spbOut : (s.modMic c f).spbOut = s.spbOut := rfl
@[simp] theorem State.modMic_diagOut : (s.modMic c f).diagOut = s.diagOut := rfl
@[simp] theorem State.modMic_ports : (s.modMic c f).ports = s.ports := rfl
@[simp] theorem State.modMic_own : (s.modMic c f).own = s.own := rfl
@[simp] theorem State.modMic_reads : (s.modMic c f).reads = s.reads := rfl
@[simp] theorem State.modMic_fetched : (s.modMic c f).fetched = s.fetched := rfl
@[simp] theorem State.modMic_arbLast : (s.modMic c f).arbLast = s.arbLast := rfl
@[simp] theorem State.modMic_arbLeft : (s.modMic c f).arbLeft = s.arbLeft := rfl
@[simp] theorem State.modMic_srcs : (s.modMic c f).srcs = s.srcs := rfl
@[simp] theorem State.modMic_vecs : (s.modMic c f).vecs = s.vecs := rfl
@[simp] theorem State.modMic_vecLast : (s.modMic c f).vecLast = s.vecLast := rfl
@[simp] theorem State.modMic_latched : (s.modMic c f).latched = s.latched := rfl
@[simp] theorem State.modMic_pending : (s.modMic c f).pending = s.pending := rfl
end

/-! ### modCtx -/

section
variable (t x : Nat) (f : Ctx → Ctx)
@[simp] theorem State.modCtx_regs : (s.modCtx t x f).regs = s.regs := rfl
@[simp] theorem State.modCtx_sram : (s.modCtx t x f).sram = s.sram := rfl
@[simp] theorem State.modCtx_flash : (s.modCtx t x f).flash = s.flash := rfl
@[simp] theorem State.modCtx_host : (s.modCtx t x f).host = s.host := rfl
@[simp] theorem State.modCtx_uptime : (s.modCtx t x f).uptime = s.uptime := rfl
@[simp] theorem State.modCtx_tb : (s.modCtx t x f).tb = s.tb := rfl
@[simp] theorem State.modCtx_div : (s.modCtx t x f).div = s.div := rfl
@[simp] theorem State.modCtx_free : (s.modCtx t x f).free = s.free := rfl
@[simp] theorem State.modCtx_fes : (s.modCtx t x f).fes = s.fes := rfl
@[simp] theorem State.modCtx_cmps : (s.modCtx t x f).cmps = s.cmps := rfl
@[simp] theorem State.modCtx_cmds : (s.modCtx t x f).cmds = s.cmds := rfl
@[simp] theorem State.modCtx_intakes : (s.modCtx t x f).intakes = s.intakes := rfl
@[simp] theorem State.modCtx_insts : (s.modCtx t x f).insts = s.insts := rfl
@[simp] theorem State.modCtx_lastCls : (s.modCtx t x f).lastCls = s.lastCls := rfl
@[simp] theorem State.modCtx_bbStage : (s.modCtx t x f).bbStage = s.bbStage := rfl
@[simp] theorem State.modCtx_adcs : (s.modCtx t x f).adcs = s.adcs := rfl
@[simp] theorem State.modCtx_engs : (s.modCtx t x f).engs = s.engs := rfl
@[simp] theorem State.modCtx_flGroups : (s.modCtx t x f).flGroups = s.flGroups := rfl
@[simp] theorem State.modCtx_tdcs : (s.modCtx t x f).tdcs = s.tdcs := rfl
@[simp] theorem State.modCtx_jobs : (s.modCtx t x f).jobs = s.jobs := rfl
@[simp] theorem State.modCtx_trigs : (s.modCtx t x f).trigs = s.trigs := rfl
@[simp] theorem State.modCtx_rots : (s.modCtx t x f).rots = s.rots := rfl
@[simp] theorem State.modCtx_tiles : (s.modCtx t x f).tiles = s.tiles := rfl
@[simp] theorem State.modCtx_anchor : (s.modCtx t x f).anchor = s.anchor := rfl
@[simp] theorem State.modCtx_calSet : (s.modCtx t x f).calSet = s.calSet := rfl
@[simp] theorem State.modCtx_calAt : (s.modCtx t x f).calAt = s.calAt := rfl
@[simp] theorem State.modCtx_calBack : (s.modCtx t x f).calBack = s.calBack := rfl
@[simp] theorem State.modCtx_svcEntry : (s.modCtx t x f).svcEntry = s.svcEntry := rfl
@[simp] theorem State.modCtx_svcExit : (s.modCtx t x f).svcExit = s.svcExit := rfl
@[simp] theorem State.modCtx_armLine : (s.modCtx t x f).armLine = s.armLine := rfl
@[simp] theorem State.modCtx_pulses : (s.modCtx t x f).pulses = s.pulses := rfl
@[simp] theorem State.modCtx_syncArmed : (s.modCtx t x f).syncArmed = s.syncArmed := rfl
@[simp] theorem State.modCtx_pairs : (s.modCtx t x f).pairs = s.pairs := rfl
@[simp] theorem State.modCtx_timing : (s.modCtx t x f).timing = s.timing := rfl
@[simp] theorem State.modCtx_timingNew : (s.modCtx t x f).timingNew = s.timingNew := rfl
@[simp] theorem State.modCtx_charges : (s.modCtx t x f).charges = s.charges := rfl
@[simp] theorem State.modCtx_mics : (s.modCtx t x f).mics = s.mics := rfl
@[simp] theorem State.modCtx_cs : (s.modCtx t x f).cs = s.cs := rfl
@[simp] theorem State.modCtx_svnRaised : (s.modCtx t x f).svnRaised = s.svnRaised := rfl
@[simp] theorem State.modCtx_stagedUnits : (s.modCtx t x f).stagedUnits = s.stagedUnits := rfl
@[simp] theorem State.modCtx_stagedTiles : (s.modCtx t x f).stagedTiles = s.stagedTiles := rfl
@[simp] theorem State.modCtx_stagedXfer : (s.modCtx t x f).stagedXfer = s.stagedXfer := rfl
@[simp] theorem State.modCtx_commitPend : (s.modCtx t x f).commitPend = s.commitPend := rfl
@[simp] theorem State.modCtx_commitCmds : (s.modCtx t x f).commitCmds = s.commitCmds := rfl
@[simp] theorem State.modCtx_archNow : (s.modCtx t x f).archNow = s.archNow := rfl
@[simp] theorem State.modCtx_archNext : (s.modCtx t x f).archNext = s.archNext := rfl
@[simp] theorem State.modCtx_calDirty : (s.modCtx t x f).calDirty = s.calDirty := rfl
@[simp] theorem State.modCtx_rotAt : (s.modCtx t x f).rotAt = s.rotAt := rfl
@[simp] theorem State.modCtx_tests : (s.modCtx t x f).tests = s.tests := rfl
@[simp] theorem State.modCtx_inReset : (s.modCtx t x f).inReset = s.inReset := rfl
@[simp] theorem State.modCtx_off : (s.modCtx t x f).off = s.off := rfl
@[simp] theorem State.modCtx_rails : (s.modCtx t x f).rails = s.rails := rfl
@[simp] theorem State.modCtx_tapIr : (s.modCtx t x f).tapIr = s.tapIr := rfl
@[simp] theorem State.modCtx_unlocked : (s.modCtx t x f).unlocked = s.unlocked := rfl
@[simp] theorem State.modCtx_dwFailed : (s.modCtx t x f).dwFailed = s.dwFailed := rfl
@[simp] theorem State.modCtx_spa : (s.modCtx t x f).spa = s.spa := rfl
@[simp] theorem State.modCtx_spaMode : (s.modCtx t x f).spaMode = s.spaMode := rfl
@[simp] theorem State.modCtx_round : (s.modCtx t x f).round = s.round := rfl
@[simp] theorem State.modCtx_good : (s.modCtx t x f).good = s.good := rfl
@[simp] theorem State.modCtx_newBroken : (s.modCtx t x f).newBroken = s.newBroken := rfl
@[simp] theorem State.modCtx_spbOut : (s.modCtx t x f).spbOut = s.spbOut := rfl
@[simp] theorem State.modCtx_diagOut : (s.modCtx t x f).diagOut = s.diagOut := rfl
@[simp] theorem State.modCtx_ports : (s.modCtx t x f).ports = s.ports := rfl
@[simp] theorem State.modCtx_own : (s.modCtx t x f).own = s.own := rfl
@[simp] theorem State.modCtx_reads : (s.modCtx t x f).reads = s.reads := rfl
@[simp] theorem State.modCtx_fetched : (s.modCtx t x f).fetched = s.fetched := rfl
@[simp] theorem State.modCtx_arbLast : (s.modCtx t x f).arbLast = s.arbLast := rfl
@[simp] theorem State.modCtx_arbLeft : (s.modCtx t x f).arbLeft = s.arbLeft := rfl
@[simp] theorem State.modCtx_srcs : (s.modCtx t x f).srcs = s.srcs := rfl
@[simp] theorem State.modCtx_vecs : (s.modCtx t x f).vecs = s.vecs := rfl
@[simp] theorem State.modCtx_vecLast : (s.modCtx t x f).vecLast = s.vecLast := rfl
@[simp] theorem State.modCtx_latched : (s.modCtx t x f).latched = s.latched := rfl
@[simp] theorem State.modCtx_pending : (s.modCtx t x f).pending = s.pending := rfl
end

/-! ### modFlGroup -/

section
variable (t g : Nat) (f : FlGroup → FlGroup)
@[simp] theorem State.modFlGroup_regs : (s.modFlGroup t g f).regs = s.regs := rfl
@[simp] theorem State.modFlGroup_sram : (s.modFlGroup t g f).sram = s.sram := rfl
@[simp] theorem State.modFlGroup_flash : (s.modFlGroup t g f).flash = s.flash := rfl
@[simp] theorem State.modFlGroup_host : (s.modFlGroup t g f).host = s.host := rfl
@[simp] theorem State.modFlGroup_uptime : (s.modFlGroup t g f).uptime = s.uptime := rfl
@[simp] theorem State.modFlGroup_tb : (s.modFlGroup t g f).tb = s.tb := rfl
@[simp] theorem State.modFlGroup_div : (s.modFlGroup t g f).div = s.div := rfl
@[simp] theorem State.modFlGroup_free : (s.modFlGroup t g f).free = s.free := rfl
@[simp] theorem State.modFlGroup_fes : (s.modFlGroup t g f).fes = s.fes := rfl
@[simp] theorem State.modFlGroup_cmps : (s.modFlGroup t g f).cmps = s.cmps := rfl
@[simp] theorem State.modFlGroup_cmds : (s.modFlGroup t g f).cmds = s.cmds := rfl
@[simp] theorem State.modFlGroup_intakes : (s.modFlGroup t g f).intakes = s.intakes := rfl
@[simp] theorem State.modFlGroup_insts : (s.modFlGroup t g f).insts = s.insts := rfl
@[simp] theorem State.modFlGroup_lastCls : (s.modFlGroup t g f).lastCls = s.lastCls := rfl
@[simp] theorem State.modFlGroup_bbStage : (s.modFlGroup t g f).bbStage = s.bbStage := rfl
@[simp] theorem State.modFlGroup_adcs : (s.modFlGroup t g f).adcs = s.adcs := rfl
@[simp] theorem State.modFlGroup_engs : (s.modFlGroup t g f).engs = s.engs := rfl
@[simp] theorem State.modFlGroup_ctxs : (s.modFlGroup t g f).ctxs = s.ctxs := rfl
@[simp] theorem State.modFlGroup_tdcs : (s.modFlGroup t g f).tdcs = s.tdcs := rfl
@[simp] theorem State.modFlGroup_jobs : (s.modFlGroup t g f).jobs = s.jobs := rfl
@[simp] theorem State.modFlGroup_trigs : (s.modFlGroup t g f).trigs = s.trigs := rfl
@[simp] theorem State.modFlGroup_rots : (s.modFlGroup t g f).rots = s.rots := rfl
@[simp] theorem State.modFlGroup_tiles : (s.modFlGroup t g f).tiles = s.tiles := rfl
@[simp] theorem State.modFlGroup_anchor : (s.modFlGroup t g f).anchor = s.anchor := rfl
@[simp] theorem State.modFlGroup_calSet : (s.modFlGroup t g f).calSet = s.calSet := rfl
@[simp] theorem State.modFlGroup_calAt : (s.modFlGroup t g f).calAt = s.calAt := rfl
@[simp] theorem State.modFlGroup_calBack : (s.modFlGroup t g f).calBack = s.calBack := rfl
@[simp] theorem State.modFlGroup_svcEntry : (s.modFlGroup t g f).svcEntry = s.svcEntry := rfl
@[simp] theorem State.modFlGroup_svcExit : (s.modFlGroup t g f).svcExit = s.svcExit := rfl
@[simp] theorem State.modFlGroup_armLine : (s.modFlGroup t g f).armLine = s.armLine := rfl
@[simp] theorem State.modFlGroup_pulses : (s.modFlGroup t g f).pulses = s.pulses := rfl
@[simp] theorem State.modFlGroup_syncArmed : (s.modFlGroup t g f).syncArmed = s.syncArmed := rfl
@[simp] theorem State.modFlGroup_pairs : (s.modFlGroup t g f).pairs = s.pairs := rfl
@[simp] theorem State.modFlGroup_timing : (s.modFlGroup t g f).timing = s.timing := rfl
@[simp] theorem State.modFlGroup_timingNew : (s.modFlGroup t g f).timingNew = s.timingNew := rfl
@[simp] theorem State.modFlGroup_charges : (s.modFlGroup t g f).charges = s.charges := rfl
@[simp] theorem State.modFlGroup_mics : (s.modFlGroup t g f).mics = s.mics := rfl
@[simp] theorem State.modFlGroup_cs : (s.modFlGroup t g f).cs = s.cs := rfl
@[simp] theorem State.modFlGroup_svnRaised : (s.modFlGroup t g f).svnRaised = s.svnRaised := rfl
@[simp] theorem State.modFlGroup_stagedUnits : (s.modFlGroup t g f).stagedUnits = s.stagedUnits := rfl
@[simp] theorem State.modFlGroup_stagedTiles : (s.modFlGroup t g f).stagedTiles = s.stagedTiles := rfl
@[simp] theorem State.modFlGroup_stagedXfer : (s.modFlGroup t g f).stagedXfer = s.stagedXfer := rfl
@[simp] theorem State.modFlGroup_commitPend : (s.modFlGroup t g f).commitPend = s.commitPend := rfl
@[simp] theorem State.modFlGroup_commitCmds : (s.modFlGroup t g f).commitCmds = s.commitCmds := rfl
@[simp] theorem State.modFlGroup_archNow : (s.modFlGroup t g f).archNow = s.archNow := rfl
@[simp] theorem State.modFlGroup_archNext : (s.modFlGroup t g f).archNext = s.archNext := rfl
@[simp] theorem State.modFlGroup_calDirty : (s.modFlGroup t g f).calDirty = s.calDirty := rfl
@[simp] theorem State.modFlGroup_rotAt : (s.modFlGroup t g f).rotAt = s.rotAt := rfl
@[simp] theorem State.modFlGroup_tests : (s.modFlGroup t g f).tests = s.tests := rfl
@[simp] theorem State.modFlGroup_inReset : (s.modFlGroup t g f).inReset = s.inReset := rfl
@[simp] theorem State.modFlGroup_off : (s.modFlGroup t g f).off = s.off := rfl
@[simp] theorem State.modFlGroup_rails : (s.modFlGroup t g f).rails = s.rails := rfl
@[simp] theorem State.modFlGroup_tapIr : (s.modFlGroup t g f).tapIr = s.tapIr := rfl
@[simp] theorem State.modFlGroup_unlocked : (s.modFlGroup t g f).unlocked = s.unlocked := rfl
@[simp] theorem State.modFlGroup_dwFailed : (s.modFlGroup t g f).dwFailed = s.dwFailed := rfl
@[simp] theorem State.modFlGroup_spa : (s.modFlGroup t g f).spa = s.spa := rfl
@[simp] theorem State.modFlGroup_spaMode : (s.modFlGroup t g f).spaMode = s.spaMode := rfl
@[simp] theorem State.modFlGroup_round : (s.modFlGroup t g f).round = s.round := rfl
@[simp] theorem State.modFlGroup_good : (s.modFlGroup t g f).good = s.good := rfl
@[simp] theorem State.modFlGroup_newBroken : (s.modFlGroup t g f).newBroken = s.newBroken := rfl
@[simp] theorem State.modFlGroup_spbOut : (s.modFlGroup t g f).spbOut = s.spbOut := rfl
@[simp] theorem State.modFlGroup_diagOut : (s.modFlGroup t g f).diagOut = s.diagOut := rfl
@[simp] theorem State.modFlGroup_ports : (s.modFlGroup t g f).ports = s.ports := rfl
@[simp] theorem State.modFlGroup_own : (s.modFlGroup t g f).own = s.own := rfl
@[simp] theorem State.modFlGroup_reads : (s.modFlGroup t g f).reads = s.reads := rfl
@[simp] theorem State.modFlGroup_fetched : (s.modFlGroup t g f).fetched = s.fetched := rfl
@[simp] theorem State.modFlGroup_arbLast : (s.modFlGroup t g f).arbLast = s.arbLast := rfl
@[simp] theorem State.modFlGroup_arbLeft : (s.modFlGroup t g f).arbLeft = s.arbLeft := rfl
@[simp] theorem State.modFlGroup_srcs : (s.modFlGroup t g f).srcs = s.srcs := rfl
@[simp] theorem State.modFlGroup_vecs : (s.modFlGroup t g f).vecs = s.vecs := rfl
@[simp] theorem State.modFlGroup_vecLast : (s.modFlGroup t g f).vecLast = s.vecLast := rfl
@[simp] theorem State.modFlGroup_latched : (s.modFlGroup t g f).latched = s.latched := rfl
@[simp] theorem State.modFlGroup_pending : (s.modFlGroup t g f).pending = s.pending := rfl
end

/-! ### modTdc -/

section
variable (u : Nat) (f : Tdc → Tdc)
@[simp] theorem State.modTdc_regs : (s.modTdc u f).regs = s.regs := rfl
@[simp] theorem State.modTdc_sram : (s.modTdc u f).sram = s.sram := rfl
@[simp] theorem State.modTdc_flash : (s.modTdc u f).flash = s.flash := rfl
@[simp] theorem State.modTdc_host : (s.modTdc u f).host = s.host := rfl
@[simp] theorem State.modTdc_uptime : (s.modTdc u f).uptime = s.uptime := rfl
@[simp] theorem State.modTdc_tb : (s.modTdc u f).tb = s.tb := rfl
@[simp] theorem State.modTdc_div : (s.modTdc u f).div = s.div := rfl
@[simp] theorem State.modTdc_free : (s.modTdc u f).free = s.free := rfl
@[simp] theorem State.modTdc_fes : (s.modTdc u f).fes = s.fes := rfl
@[simp] theorem State.modTdc_cmps : (s.modTdc u f).cmps = s.cmps := rfl
@[simp] theorem State.modTdc_cmds : (s.modTdc u f).cmds = s.cmds := rfl
@[simp] theorem State.modTdc_intakes : (s.modTdc u f).intakes = s.intakes := rfl
@[simp] theorem State.modTdc_insts : (s.modTdc u f).insts = s.insts := rfl
@[simp] theorem State.modTdc_lastCls : (s.modTdc u f).lastCls = s.lastCls := rfl
@[simp] theorem State.modTdc_bbStage : (s.modTdc u f).bbStage = s.bbStage := rfl
@[simp] theorem State.modTdc_adcs : (s.modTdc u f).adcs = s.adcs := rfl
@[simp] theorem State.modTdc_engs : (s.modTdc u f).engs = s.engs := rfl
@[simp] theorem State.modTdc_ctxs : (s.modTdc u f).ctxs = s.ctxs := rfl
@[simp] theorem State.modTdc_flGroups : (s.modTdc u f).flGroups = s.flGroups := rfl
@[simp] theorem State.modTdc_jobs : (s.modTdc u f).jobs = s.jobs := rfl
@[simp] theorem State.modTdc_trigs : (s.modTdc u f).trigs = s.trigs := rfl
@[simp] theorem State.modTdc_rots : (s.modTdc u f).rots = s.rots := rfl
@[simp] theorem State.modTdc_tiles : (s.modTdc u f).tiles = s.tiles := rfl
@[simp] theorem State.modTdc_anchor : (s.modTdc u f).anchor = s.anchor := rfl
@[simp] theorem State.modTdc_calSet : (s.modTdc u f).calSet = s.calSet := rfl
@[simp] theorem State.modTdc_calAt : (s.modTdc u f).calAt = s.calAt := rfl
@[simp] theorem State.modTdc_calBack : (s.modTdc u f).calBack = s.calBack := rfl
@[simp] theorem State.modTdc_svcEntry : (s.modTdc u f).svcEntry = s.svcEntry := rfl
@[simp] theorem State.modTdc_svcExit : (s.modTdc u f).svcExit = s.svcExit := rfl
@[simp] theorem State.modTdc_armLine : (s.modTdc u f).armLine = s.armLine := rfl
@[simp] theorem State.modTdc_pulses : (s.modTdc u f).pulses = s.pulses := rfl
@[simp] theorem State.modTdc_syncArmed : (s.modTdc u f).syncArmed = s.syncArmed := rfl
@[simp] theorem State.modTdc_pairs : (s.modTdc u f).pairs = s.pairs := rfl
@[simp] theorem State.modTdc_timing : (s.modTdc u f).timing = s.timing := rfl
@[simp] theorem State.modTdc_timingNew : (s.modTdc u f).timingNew = s.timingNew := rfl
@[simp] theorem State.modTdc_charges : (s.modTdc u f).charges = s.charges := rfl
@[simp] theorem State.modTdc_mics : (s.modTdc u f).mics = s.mics := rfl
@[simp] theorem State.modTdc_cs : (s.modTdc u f).cs = s.cs := rfl
@[simp] theorem State.modTdc_svnRaised : (s.modTdc u f).svnRaised = s.svnRaised := rfl
@[simp] theorem State.modTdc_stagedUnits : (s.modTdc u f).stagedUnits = s.stagedUnits := rfl
@[simp] theorem State.modTdc_stagedTiles : (s.modTdc u f).stagedTiles = s.stagedTiles := rfl
@[simp] theorem State.modTdc_stagedXfer : (s.modTdc u f).stagedXfer = s.stagedXfer := rfl
@[simp] theorem State.modTdc_commitPend : (s.modTdc u f).commitPend = s.commitPend := rfl
@[simp] theorem State.modTdc_commitCmds : (s.modTdc u f).commitCmds = s.commitCmds := rfl
@[simp] theorem State.modTdc_archNow : (s.modTdc u f).archNow = s.archNow := rfl
@[simp] theorem State.modTdc_archNext : (s.modTdc u f).archNext = s.archNext := rfl
@[simp] theorem State.modTdc_calDirty : (s.modTdc u f).calDirty = s.calDirty := rfl
@[simp] theorem State.modTdc_rotAt : (s.modTdc u f).rotAt = s.rotAt := rfl
@[simp] theorem State.modTdc_tests : (s.modTdc u f).tests = s.tests := rfl
@[simp] theorem State.modTdc_inReset : (s.modTdc u f).inReset = s.inReset := rfl
@[simp] theorem State.modTdc_off : (s.modTdc u f).off = s.off := rfl
@[simp] theorem State.modTdc_rails : (s.modTdc u f).rails = s.rails := rfl
@[simp] theorem State.modTdc_tapIr : (s.modTdc u f).tapIr = s.tapIr := rfl
@[simp] theorem State.modTdc_unlocked : (s.modTdc u f).unlocked = s.unlocked := rfl
@[simp] theorem State.modTdc_dwFailed : (s.modTdc u f).dwFailed = s.dwFailed := rfl
@[simp] theorem State.modTdc_spa : (s.modTdc u f).spa = s.spa := rfl
@[simp] theorem State.modTdc_spaMode : (s.modTdc u f).spaMode = s.spaMode := rfl
@[simp] theorem State.modTdc_round : (s.modTdc u f).round = s.round := rfl
@[simp] theorem State.modTdc_good : (s.modTdc u f).good = s.good := rfl
@[simp] theorem State.modTdc_newBroken : (s.modTdc u f).newBroken = s.newBroken := rfl
@[simp] theorem State.modTdc_spbOut : (s.modTdc u f).spbOut = s.spbOut := rfl
@[simp] theorem State.modTdc_diagOut : (s.modTdc u f).diagOut = s.diagOut := rfl
@[simp] theorem State.modTdc_ports : (s.modTdc u f).ports = s.ports := rfl
@[simp] theorem State.modTdc_own : (s.modTdc u f).own = s.own := rfl
@[simp] theorem State.modTdc_reads : (s.modTdc u f).reads = s.reads := rfl
@[simp] theorem State.modTdc_fetched : (s.modTdc u f).fetched = s.fetched := rfl
@[simp] theorem State.modTdc_arbLast : (s.modTdc u f).arbLast = s.arbLast := rfl
@[simp] theorem State.modTdc_arbLeft : (s.modTdc u f).arbLeft = s.arbLeft := rfl
@[simp] theorem State.modTdc_srcs : (s.modTdc u f).srcs = s.srcs := rfl
@[simp] theorem State.modTdc_vecs : (s.modTdc u f).vecs = s.vecs := rfl
@[simp] theorem State.modTdc_vecLast : (s.modTdc u f).vecLast = s.vecLast := rfl
@[simp] theorem State.modTdc_latched : (s.modTdc u f).latched = s.latched := rfl
@[simp] theorem State.modTdc_pending : (s.modTdc u f).pending = s.pending := rfl
end

/-! ### setJob -/

section
variable (t n : Nat) (j : Option Job)
@[simp] theorem State.setJob_regs : (s.setJob t n j).regs = s.regs := rfl
@[simp] theorem State.setJob_sram : (s.setJob t n j).sram = s.sram := rfl
@[simp] theorem State.setJob_flash : (s.setJob t n j).flash = s.flash := rfl
@[simp] theorem State.setJob_host : (s.setJob t n j).host = s.host := rfl
@[simp] theorem State.setJob_uptime : (s.setJob t n j).uptime = s.uptime := rfl
@[simp] theorem State.setJob_tb : (s.setJob t n j).tb = s.tb := rfl
@[simp] theorem State.setJob_div : (s.setJob t n j).div = s.div := rfl
@[simp] theorem State.setJob_free : (s.setJob t n j).free = s.free := rfl
@[simp] theorem State.setJob_fes : (s.setJob t n j).fes = s.fes := rfl
@[simp] theorem State.setJob_cmps : (s.setJob t n j).cmps = s.cmps := rfl
@[simp] theorem State.setJob_cmds : (s.setJob t n j).cmds = s.cmds := rfl
@[simp] theorem State.setJob_intakes : (s.setJob t n j).intakes = s.intakes := rfl
@[simp] theorem State.setJob_insts : (s.setJob t n j).insts = s.insts := rfl
@[simp] theorem State.setJob_lastCls : (s.setJob t n j).lastCls = s.lastCls := rfl
@[simp] theorem State.setJob_bbStage : (s.setJob t n j).bbStage = s.bbStage := rfl
@[simp] theorem State.setJob_adcs : (s.setJob t n j).adcs = s.adcs := rfl
@[simp] theorem State.setJob_engs : (s.setJob t n j).engs = s.engs := rfl
@[simp] theorem State.setJob_ctxs : (s.setJob t n j).ctxs = s.ctxs := rfl
@[simp] theorem State.setJob_flGroups : (s.setJob t n j).flGroups = s.flGroups := rfl
@[simp] theorem State.setJob_tdcs : (s.setJob t n j).tdcs = s.tdcs := rfl
@[simp] theorem State.setJob_trigs : (s.setJob t n j).trigs = s.trigs := rfl
@[simp] theorem State.setJob_rots : (s.setJob t n j).rots = s.rots := rfl
@[simp] theorem State.setJob_tiles : (s.setJob t n j).tiles = s.tiles := rfl
@[simp] theorem State.setJob_anchor : (s.setJob t n j).anchor = s.anchor := rfl
@[simp] theorem State.setJob_calSet : (s.setJob t n j).calSet = s.calSet := rfl
@[simp] theorem State.setJob_calAt : (s.setJob t n j).calAt = s.calAt := rfl
@[simp] theorem State.setJob_calBack : (s.setJob t n j).calBack = s.calBack := rfl
@[simp] theorem State.setJob_svcEntry : (s.setJob t n j).svcEntry = s.svcEntry := rfl
@[simp] theorem State.setJob_svcExit : (s.setJob t n j).svcExit = s.svcExit := rfl
@[simp] theorem State.setJob_armLine : (s.setJob t n j).armLine = s.armLine := rfl
@[simp] theorem State.setJob_pulses : (s.setJob t n j).pulses = s.pulses := rfl
@[simp] theorem State.setJob_syncArmed : (s.setJob t n j).syncArmed = s.syncArmed := rfl
@[simp] theorem State.setJob_pairs : (s.setJob t n j).pairs = s.pairs := rfl
@[simp] theorem State.setJob_timing : (s.setJob t n j).timing = s.timing := rfl
@[simp] theorem State.setJob_timingNew : (s.setJob t n j).timingNew = s.timingNew := rfl
@[simp] theorem State.setJob_charges : (s.setJob t n j).charges = s.charges := rfl
@[simp] theorem State.setJob_mics : (s.setJob t n j).mics = s.mics := rfl
@[simp] theorem State.setJob_cs : (s.setJob t n j).cs = s.cs := rfl
@[simp] theorem State.setJob_svnRaised : (s.setJob t n j).svnRaised = s.svnRaised := rfl
@[simp] theorem State.setJob_stagedUnits : (s.setJob t n j).stagedUnits = s.stagedUnits := rfl
@[simp] theorem State.setJob_stagedTiles : (s.setJob t n j).stagedTiles = s.stagedTiles := rfl
@[simp] theorem State.setJob_stagedXfer : (s.setJob t n j).stagedXfer = s.stagedXfer := rfl
@[simp] theorem State.setJob_commitPend : (s.setJob t n j).commitPend = s.commitPend := rfl
@[simp] theorem State.setJob_commitCmds : (s.setJob t n j).commitCmds = s.commitCmds := rfl
@[simp] theorem State.setJob_archNow : (s.setJob t n j).archNow = s.archNow := rfl
@[simp] theorem State.setJob_archNext : (s.setJob t n j).archNext = s.archNext := rfl
@[simp] theorem State.setJob_calDirty : (s.setJob t n j).calDirty = s.calDirty := rfl
@[simp] theorem State.setJob_rotAt : (s.setJob t n j).rotAt = s.rotAt := rfl
@[simp] theorem State.setJob_tests : (s.setJob t n j).tests = s.tests := rfl
@[simp] theorem State.setJob_inReset : (s.setJob t n j).inReset = s.inReset := rfl
@[simp] theorem State.setJob_off : (s.setJob t n j).off = s.off := rfl
@[simp] theorem State.setJob_rails : (s.setJob t n j).rails = s.rails := rfl
@[simp] theorem State.setJob_tapIr : (s.setJob t n j).tapIr = s.tapIr := rfl
@[simp] theorem State.setJob_unlocked : (s.setJob t n j).unlocked = s.unlocked := rfl
@[simp] theorem State.setJob_dwFailed : (s.setJob t n j).dwFailed = s.dwFailed := rfl
@[simp] theorem State.setJob_spa : (s.setJob t n j).spa = s.spa := rfl
@[simp] theorem State.setJob_spaMode : (s.setJob t n j).spaMode = s.spaMode := rfl
@[simp] theorem State.setJob_round : (s.setJob t n j).round = s.round := rfl
@[simp] theorem State.setJob_good : (s.setJob t n j).good = s.good := rfl
@[simp] theorem State.setJob_newBroken : (s.setJob t n j).newBroken = s.newBroken := rfl
@[simp] theorem State.setJob_spbOut : (s.setJob t n j).spbOut = s.spbOut := rfl
@[simp] theorem State.setJob_diagOut : (s.setJob t n j).diagOut = s.diagOut := rfl
@[simp] theorem State.setJob_ports : (s.setJob t n j).ports = s.ports := rfl
@[simp] theorem State.setJob_own : (s.setJob t n j).own = s.own := rfl
@[simp] theorem State.setJob_reads : (s.setJob t n j).reads = s.reads := rfl
@[simp] theorem State.setJob_fetched : (s.setJob t n j).fetched = s.fetched := rfl
@[simp] theorem State.setJob_arbLast : (s.setJob t n j).arbLast = s.arbLast := rfl
@[simp] theorem State.setJob_arbLeft : (s.setJob t n j).arbLeft = s.arbLeft := rfl
@[simp] theorem State.setJob_srcs : (s.setJob t n j).srcs = s.srcs := rfl
@[simp] theorem State.setJob_vecs : (s.setJob t n j).vecs = s.vecs := rfl
@[simp] theorem State.setJob_vecLast : (s.setJob t n j).vecLast = s.vecLast := rfl
@[simp] theorem State.setJob_latched : (s.setJob t n j).latched = s.latched := rfl
@[simp] theorem State.setJob_pending : (s.setJob t n j).pending = s.pending := rfl
end

/-! ### modTrig -/

section
variable (t : Nat) (f : Trig → Trig)
@[simp] theorem State.modTrig_regs : (s.modTrig t f).regs = s.regs := rfl
@[simp] theorem State.modTrig_sram : (s.modTrig t f).sram = s.sram := rfl
@[simp] theorem State.modTrig_flash : (s.modTrig t f).flash = s.flash := rfl
@[simp] theorem State.modTrig_host : (s.modTrig t f).host = s.host := rfl
@[simp] theorem State.modTrig_uptime : (s.modTrig t f).uptime = s.uptime := rfl
@[simp] theorem State.modTrig_tb : (s.modTrig t f).tb = s.tb := rfl
@[simp] theorem State.modTrig_div : (s.modTrig t f).div = s.div := rfl
@[simp] theorem State.modTrig_free : (s.modTrig t f).free = s.free := rfl
@[simp] theorem State.modTrig_fes : (s.modTrig t f).fes = s.fes := rfl
@[simp] theorem State.modTrig_cmps : (s.modTrig t f).cmps = s.cmps := rfl
@[simp] theorem State.modTrig_cmds : (s.modTrig t f).cmds = s.cmds := rfl
@[simp] theorem State.modTrig_intakes : (s.modTrig t f).intakes = s.intakes := rfl
@[simp] theorem State.modTrig_insts : (s.modTrig t f).insts = s.insts := rfl
@[simp] theorem State.modTrig_lastCls : (s.modTrig t f).lastCls = s.lastCls := rfl
@[simp] theorem State.modTrig_bbStage : (s.modTrig t f).bbStage = s.bbStage := rfl
@[simp] theorem State.modTrig_adcs : (s.modTrig t f).adcs = s.adcs := rfl
@[simp] theorem State.modTrig_engs : (s.modTrig t f).engs = s.engs := rfl
@[simp] theorem State.modTrig_ctxs : (s.modTrig t f).ctxs = s.ctxs := rfl
@[simp] theorem State.modTrig_flGroups : (s.modTrig t f).flGroups = s.flGroups := rfl
@[simp] theorem State.modTrig_tdcs : (s.modTrig t f).tdcs = s.tdcs := rfl
@[simp] theorem State.modTrig_jobs : (s.modTrig t f).jobs = s.jobs := rfl
@[simp] theorem State.modTrig_rots : (s.modTrig t f).rots = s.rots := rfl
@[simp] theorem State.modTrig_tiles : (s.modTrig t f).tiles = s.tiles := rfl
@[simp] theorem State.modTrig_anchor : (s.modTrig t f).anchor = s.anchor := rfl
@[simp] theorem State.modTrig_calSet : (s.modTrig t f).calSet = s.calSet := rfl
@[simp] theorem State.modTrig_calAt : (s.modTrig t f).calAt = s.calAt := rfl
@[simp] theorem State.modTrig_calBack : (s.modTrig t f).calBack = s.calBack := rfl
@[simp] theorem State.modTrig_svcEntry : (s.modTrig t f).svcEntry = s.svcEntry := rfl
@[simp] theorem State.modTrig_svcExit : (s.modTrig t f).svcExit = s.svcExit := rfl
@[simp] theorem State.modTrig_armLine : (s.modTrig t f).armLine = s.armLine := rfl
@[simp] theorem State.modTrig_pulses : (s.modTrig t f).pulses = s.pulses := rfl
@[simp] theorem State.modTrig_syncArmed : (s.modTrig t f).syncArmed = s.syncArmed := rfl
@[simp] theorem State.modTrig_pairs : (s.modTrig t f).pairs = s.pairs := rfl
@[simp] theorem State.modTrig_timing : (s.modTrig t f).timing = s.timing := rfl
@[simp] theorem State.modTrig_timingNew : (s.modTrig t f).timingNew = s.timingNew := rfl
@[simp] theorem State.modTrig_charges : (s.modTrig t f).charges = s.charges := rfl
@[simp] theorem State.modTrig_mics : (s.modTrig t f).mics = s.mics := rfl
@[simp] theorem State.modTrig_cs : (s.modTrig t f).cs = s.cs := rfl
@[simp] theorem State.modTrig_svnRaised : (s.modTrig t f).svnRaised = s.svnRaised := rfl
@[simp] theorem State.modTrig_stagedUnits : (s.modTrig t f).stagedUnits = s.stagedUnits := rfl
@[simp] theorem State.modTrig_stagedTiles : (s.modTrig t f).stagedTiles = s.stagedTiles := rfl
@[simp] theorem State.modTrig_stagedXfer : (s.modTrig t f).stagedXfer = s.stagedXfer := rfl
@[simp] theorem State.modTrig_commitPend : (s.modTrig t f).commitPend = s.commitPend := rfl
@[simp] theorem State.modTrig_commitCmds : (s.modTrig t f).commitCmds = s.commitCmds := rfl
@[simp] theorem State.modTrig_archNow : (s.modTrig t f).archNow = s.archNow := rfl
@[simp] theorem State.modTrig_archNext : (s.modTrig t f).archNext = s.archNext := rfl
@[simp] theorem State.modTrig_calDirty : (s.modTrig t f).calDirty = s.calDirty := rfl
@[simp] theorem State.modTrig_rotAt : (s.modTrig t f).rotAt = s.rotAt := rfl
@[simp] theorem State.modTrig_tests : (s.modTrig t f).tests = s.tests := rfl
@[simp] theorem State.modTrig_inReset : (s.modTrig t f).inReset = s.inReset := rfl
@[simp] theorem State.modTrig_off : (s.modTrig t f).off = s.off := rfl
@[simp] theorem State.modTrig_rails : (s.modTrig t f).rails = s.rails := rfl
@[simp] theorem State.modTrig_tapIr : (s.modTrig t f).tapIr = s.tapIr := rfl
@[simp] theorem State.modTrig_unlocked : (s.modTrig t f).unlocked = s.unlocked := rfl
@[simp] theorem State.modTrig_dwFailed : (s.modTrig t f).dwFailed = s.dwFailed := rfl
@[simp] theorem State.modTrig_spa : (s.modTrig t f).spa = s.spa := rfl
@[simp] theorem State.modTrig_spaMode : (s.modTrig t f).spaMode = s.spaMode := rfl
@[simp] theorem State.modTrig_round : (s.modTrig t f).round = s.round := rfl
@[simp] theorem State.modTrig_good : (s.modTrig t f).good = s.good := rfl
@[simp] theorem State.modTrig_newBroken : (s.modTrig t f).newBroken = s.newBroken := rfl
@[simp] theorem State.modTrig_spbOut : (s.modTrig t f).spbOut = s.spbOut := rfl
@[simp] theorem State.modTrig_diagOut : (s.modTrig t f).diagOut = s.diagOut := rfl
@[simp] theorem State.modTrig_ports : (s.modTrig t f).ports = s.ports := rfl
@[simp] theorem State.modTrig_own : (s.modTrig t f).own = s.own := rfl
@[simp] theorem State.modTrig_reads : (s.modTrig t f).reads = s.reads := rfl
@[simp] theorem State.modTrig_fetched : (s.modTrig t f).fetched = s.fetched := rfl
@[simp] theorem State.modTrig_arbLast : (s.modTrig t f).arbLast = s.arbLast := rfl
@[simp] theorem State.modTrig_arbLeft : (s.modTrig t f).arbLeft = s.arbLeft := rfl
@[simp] theorem State.modTrig_srcs : (s.modTrig t f).srcs = s.srcs := rfl
@[simp] theorem State.modTrig_vecs : (s.modTrig t f).vecs = s.vecs := rfl
@[simp] theorem State.modTrig_vecLast : (s.modTrig t f).vecLast = s.vecLast := rfl
@[simp] theorem State.modTrig_latched : (s.modTrig t f).latched = s.latched := rfl
@[simp] theorem State.modTrig_pending : (s.modTrig t f).pending = s.pending := rfl
end

/-! ### setRot -/

section
variable (n : Nat) (r : Rot)
@[simp] theorem State.setRot_regs : (s.setRot n r).regs = s.regs := rfl
@[simp] theorem State.setRot_sram : (s.setRot n r).sram = s.sram := rfl
@[simp] theorem State.setRot_flash : (s.setRot n r).flash = s.flash := rfl
@[simp] theorem State.setRot_host : (s.setRot n r).host = s.host := rfl
@[simp] theorem State.setRot_uptime : (s.setRot n r).uptime = s.uptime := rfl
@[simp] theorem State.setRot_tb : (s.setRot n r).tb = s.tb := rfl
@[simp] theorem State.setRot_div : (s.setRot n r).div = s.div := rfl
@[simp] theorem State.setRot_free : (s.setRot n r).free = s.free := rfl
@[simp] theorem State.setRot_fes : (s.setRot n r).fes = s.fes := rfl
@[simp] theorem State.setRot_cmps : (s.setRot n r).cmps = s.cmps := rfl
@[simp] theorem State.setRot_cmds : (s.setRot n r).cmds = s.cmds := rfl
@[simp] theorem State.setRot_intakes : (s.setRot n r).intakes = s.intakes := rfl
@[simp] theorem State.setRot_insts : (s.setRot n r).insts = s.insts := rfl
@[simp] theorem State.setRot_lastCls : (s.setRot n r).lastCls = s.lastCls := rfl
@[simp] theorem State.setRot_bbStage : (s.setRot n r).bbStage = s.bbStage := rfl
@[simp] theorem State.setRot_adcs : (s.setRot n r).adcs = s.adcs := rfl
@[simp] theorem State.setRot_engs : (s.setRot n r).engs = s.engs := rfl
@[simp] theorem State.setRot_ctxs : (s.setRot n r).ctxs = s.ctxs := rfl
@[simp] theorem State.setRot_flGroups : (s.setRot n r).flGroups = s.flGroups := rfl
@[simp] theorem State.setRot_tdcs : (s.setRot n r).tdcs = s.tdcs := rfl
@[simp] theorem State.setRot_jobs : (s.setRot n r).jobs = s.jobs := rfl
@[simp] theorem State.setRot_trigs : (s.setRot n r).trigs = s.trigs := rfl
@[simp] theorem State.setRot_tiles : (s.setRot n r).tiles = s.tiles := rfl
@[simp] theorem State.setRot_anchor : (s.setRot n r).anchor = s.anchor := rfl
@[simp] theorem State.setRot_calSet : (s.setRot n r).calSet = s.calSet := rfl
@[simp] theorem State.setRot_calAt : (s.setRot n r).calAt = s.calAt := rfl
@[simp] theorem State.setRot_calBack : (s.setRot n r).calBack = s.calBack := rfl
@[simp] theorem State.setRot_svcEntry : (s.setRot n r).svcEntry = s.svcEntry := rfl
@[simp] theorem State.setRot_svcExit : (s.setRot n r).svcExit = s.svcExit := rfl
@[simp] theorem State.setRot_armLine : (s.setRot n r).armLine = s.armLine := rfl
@[simp] theorem State.setRot_pulses : (s.setRot n r).pulses = s.pulses := rfl
@[simp] theorem State.setRot_syncArmed : (s.setRot n r).syncArmed = s.syncArmed := rfl
@[simp] theorem State.setRot_pairs : (s.setRot n r).pairs = s.pairs := rfl
@[simp] theorem State.setRot_timing : (s.setRot n r).timing = s.timing := rfl
@[simp] theorem State.setRot_timingNew : (s.setRot n r).timingNew = s.timingNew := rfl
@[simp] theorem State.setRot_charges : (s.setRot n r).charges = s.charges := rfl
@[simp] theorem State.setRot_mics : (s.setRot n r).mics = s.mics := rfl
@[simp] theorem State.setRot_cs : (s.setRot n r).cs = s.cs := rfl
@[simp] theorem State.setRot_svnRaised : (s.setRot n r).svnRaised = s.svnRaised := rfl
@[simp] theorem State.setRot_stagedUnits : (s.setRot n r).stagedUnits = s.stagedUnits := rfl
@[simp] theorem State.setRot_stagedTiles : (s.setRot n r).stagedTiles = s.stagedTiles := rfl
@[simp] theorem State.setRot_stagedXfer : (s.setRot n r).stagedXfer = s.stagedXfer := rfl
@[simp] theorem State.setRot_commitPend : (s.setRot n r).commitPend = s.commitPend := rfl
@[simp] theorem State.setRot_commitCmds : (s.setRot n r).commitCmds = s.commitCmds := rfl
@[simp] theorem State.setRot_archNow : (s.setRot n r).archNow = s.archNow := rfl
@[simp] theorem State.setRot_archNext : (s.setRot n r).archNext = s.archNext := rfl
@[simp] theorem State.setRot_calDirty : (s.setRot n r).calDirty = s.calDirty := rfl
@[simp] theorem State.setRot_rotAt : (s.setRot n r).rotAt = s.rotAt := rfl
@[simp] theorem State.setRot_tests : (s.setRot n r).tests = s.tests := rfl
@[simp] theorem State.setRot_inReset : (s.setRot n r).inReset = s.inReset := rfl
@[simp] theorem State.setRot_off : (s.setRot n r).off = s.off := rfl
@[simp] theorem State.setRot_rails : (s.setRot n r).rails = s.rails := rfl
@[simp] theorem State.setRot_tapIr : (s.setRot n r).tapIr = s.tapIr := rfl
@[simp] theorem State.setRot_unlocked : (s.setRot n r).unlocked = s.unlocked := rfl
@[simp] theorem State.setRot_dwFailed : (s.setRot n r).dwFailed = s.dwFailed := rfl
@[simp] theorem State.setRot_spa : (s.setRot n r).spa = s.spa := rfl
@[simp] theorem State.setRot_spaMode : (s.setRot n r).spaMode = s.spaMode := rfl
@[simp] theorem State.setRot_round : (s.setRot n r).round = s.round := rfl
@[simp] theorem State.setRot_good : (s.setRot n r).good = s.good := rfl
@[simp] theorem State.setRot_newBroken : (s.setRot n r).newBroken = s.newBroken := rfl
@[simp] theorem State.setRot_spbOut : (s.setRot n r).spbOut = s.spbOut := rfl
@[simp] theorem State.setRot_diagOut : (s.setRot n r).diagOut = s.diagOut := rfl
@[simp] theorem State.setRot_ports : (s.setRot n r).ports = s.ports := rfl
@[simp] theorem State.setRot_own : (s.setRot n r).own = s.own := rfl
@[simp] theorem State.setRot_reads : (s.setRot n r).reads = s.reads := rfl
@[simp] theorem State.setRot_fetched : (s.setRot n r).fetched = s.fetched := rfl
@[simp] theorem State.setRot_arbLast : (s.setRot n r).arbLast = s.arbLast := rfl
@[simp] theorem State.setRot_arbLeft : (s.setRot n r).arbLeft = s.arbLeft := rfl
@[simp] theorem State.setRot_srcs : (s.setRot n r).srcs = s.srcs := rfl
@[simp] theorem State.setRot_vecs : (s.setRot n r).vecs = s.vecs := rfl
@[simp] theorem State.setRot_vecLast : (s.setRot n r).vecLast = s.vecLast := rfl
@[simp] theorem State.setRot_latched : (s.setRot n r).latched = s.latched := rfl
@[simp] theorem State.setRot_pending : (s.setRot n r).pending = s.pending := rfl
end

/-! ### modTile -/

section
variable (t : Nat) (f : Tile → Tile)
@[simp] theorem State.modTile_regs : (s.modTile t f).regs = s.regs := rfl
@[simp] theorem State.modTile_sram : (s.modTile t f).sram = s.sram := rfl
@[simp] theorem State.modTile_flash : (s.modTile t f).flash = s.flash := rfl
@[simp] theorem State.modTile_host : (s.modTile t f).host = s.host := rfl
@[simp] theorem State.modTile_uptime : (s.modTile t f).uptime = s.uptime := rfl
@[simp] theorem State.modTile_tb : (s.modTile t f).tb = s.tb := rfl
@[simp] theorem State.modTile_div : (s.modTile t f).div = s.div := rfl
@[simp] theorem State.modTile_free : (s.modTile t f).free = s.free := rfl
@[simp] theorem State.modTile_fes : (s.modTile t f).fes = s.fes := rfl
@[simp] theorem State.modTile_cmps : (s.modTile t f).cmps = s.cmps := rfl
@[simp] theorem State.modTile_cmds : (s.modTile t f).cmds = s.cmds := rfl
@[simp] theorem State.modTile_intakes : (s.modTile t f).intakes = s.intakes := rfl
@[simp] theorem State.modTile_insts : (s.modTile t f).insts = s.insts := rfl
@[simp] theorem State.modTile_lastCls : (s.modTile t f).lastCls = s.lastCls := rfl
@[simp] theorem State.modTile_bbStage : (s.modTile t f).bbStage = s.bbStage := rfl
@[simp] theorem State.modTile_adcs : (s.modTile t f).adcs = s.adcs := rfl
@[simp] theorem State.modTile_engs : (s.modTile t f).engs = s.engs := rfl
@[simp] theorem State.modTile_ctxs : (s.modTile t f).ctxs = s.ctxs := rfl
@[simp] theorem State.modTile_flGroups : (s.modTile t f).flGroups = s.flGroups := rfl
@[simp] theorem State.modTile_tdcs : (s.modTile t f).tdcs = s.tdcs := rfl
@[simp] theorem State.modTile_jobs : (s.modTile t f).jobs = s.jobs := rfl
@[simp] theorem State.modTile_trigs : (s.modTile t f).trigs = s.trigs := rfl
@[simp] theorem State.modTile_rots : (s.modTile t f).rots = s.rots := rfl
@[simp] theorem State.modTile_anchor : (s.modTile t f).anchor = s.anchor := rfl
@[simp] theorem State.modTile_calSet : (s.modTile t f).calSet = s.calSet := rfl
@[simp] theorem State.modTile_calAt : (s.modTile t f).calAt = s.calAt := rfl
@[simp] theorem State.modTile_calBack : (s.modTile t f).calBack = s.calBack := rfl
@[simp] theorem State.modTile_svcEntry : (s.modTile t f).svcEntry = s.svcEntry := rfl
@[simp] theorem State.modTile_svcExit : (s.modTile t f).svcExit = s.svcExit := rfl
@[simp] theorem State.modTile_armLine : (s.modTile t f).armLine = s.armLine := rfl
@[simp] theorem State.modTile_pulses : (s.modTile t f).pulses = s.pulses := rfl
@[simp] theorem State.modTile_syncArmed : (s.modTile t f).syncArmed = s.syncArmed := rfl
@[simp] theorem State.modTile_pairs : (s.modTile t f).pairs = s.pairs := rfl
@[simp] theorem State.modTile_timing : (s.modTile t f).timing = s.timing := rfl
@[simp] theorem State.modTile_timingNew : (s.modTile t f).timingNew = s.timingNew := rfl
@[simp] theorem State.modTile_charges : (s.modTile t f).charges = s.charges := rfl
@[simp] theorem State.modTile_mics : (s.modTile t f).mics = s.mics := rfl
@[simp] theorem State.modTile_cs : (s.modTile t f).cs = s.cs := rfl
@[simp] theorem State.modTile_svnRaised : (s.modTile t f).svnRaised = s.svnRaised := rfl
@[simp] theorem State.modTile_stagedUnits : (s.modTile t f).stagedUnits = s.stagedUnits := rfl
@[simp] theorem State.modTile_stagedTiles : (s.modTile t f).stagedTiles = s.stagedTiles := rfl
@[simp] theorem State.modTile_stagedXfer : (s.modTile t f).stagedXfer = s.stagedXfer := rfl
@[simp] theorem State.modTile_commitPend : (s.modTile t f).commitPend = s.commitPend := rfl
@[simp] theorem State.modTile_commitCmds : (s.modTile t f).commitCmds = s.commitCmds := rfl
@[simp] theorem State.modTile_archNow : (s.modTile t f).archNow = s.archNow := rfl
@[simp] theorem State.modTile_archNext : (s.modTile t f).archNext = s.archNext := rfl
@[simp] theorem State.modTile_calDirty : (s.modTile t f).calDirty = s.calDirty := rfl
@[simp] theorem State.modTile_rotAt : (s.modTile t f).rotAt = s.rotAt := rfl
@[simp] theorem State.modTile_tests : (s.modTile t f).tests = s.tests := rfl
@[simp] theorem State.modTile_inReset : (s.modTile t f).inReset = s.inReset := rfl
@[simp] theorem State.modTile_off : (s.modTile t f).off = s.off := rfl
@[simp] theorem State.modTile_rails : (s.modTile t f).rails = s.rails := rfl
@[simp] theorem State.modTile_tapIr : (s.modTile t f).tapIr = s.tapIr := rfl
@[simp] theorem State.modTile_unlocked : (s.modTile t f).unlocked = s.unlocked := rfl
@[simp] theorem State.modTile_dwFailed : (s.modTile t f).dwFailed = s.dwFailed := rfl
@[simp] theorem State.modTile_spa : (s.modTile t f).spa = s.spa := rfl
@[simp] theorem State.modTile_spaMode : (s.modTile t f).spaMode = s.spaMode := rfl
@[simp] theorem State.modTile_round : (s.modTile t f).round = s.round := rfl
@[simp] theorem State.modTile_good : (s.modTile t f).good = s.good := rfl
@[simp] theorem State.modTile_newBroken : (s.modTile t f).newBroken = s.newBroken := rfl
@[simp] theorem State.modTile_spbOut : (s.modTile t f).spbOut = s.spbOut := rfl
@[simp] theorem State.modTile_diagOut : (s.modTile t f).diagOut = s.diagOut := rfl
@[simp] theorem State.modTile_ports : (s.modTile t f).ports = s.ports := rfl
@[simp] theorem State.modTile_own : (s.modTile t f).own = s.own := rfl
@[simp] theorem State.modTile_reads : (s.modTile t f).reads = s.reads := rfl
@[simp] theorem State.modTile_fetched : (s.modTile t f).fetched = s.fetched := rfl
@[simp] theorem State.modTile_arbLast : (s.modTile t f).arbLast = s.arbLast := rfl
@[simp] theorem State.modTile_arbLeft : (s.modTile t f).arbLeft = s.arbLeft := rfl
@[simp] theorem State.modTile_srcs : (s.modTile t f).srcs = s.srcs := rfl
@[simp] theorem State.modTile_vecs : (s.modTile t f).vecs = s.vecs := rfl
@[simp] theorem State.modTile_vecLast : (s.modTile t f).vecLast = s.vecLast := rfl
@[simp] theorem State.modTile_latched : (s.modTile t f).latched = s.latched := rfl
@[simp] theorem State.modTile_pending : (s.modTile t f).pending = s.pending := rfl
end

/-! ### modPort -/

section
variable (p : Nat) (f : Port → Port)
@[simp] theorem State.modPort_regs : (s.modPort p f).regs = s.regs := rfl
@[simp] theorem State.modPort_sram : (s.modPort p f).sram = s.sram := rfl
@[simp] theorem State.modPort_flash : (s.modPort p f).flash = s.flash := rfl
@[simp] theorem State.modPort_host : (s.modPort p f).host = s.host := rfl
@[simp] theorem State.modPort_uptime : (s.modPort p f).uptime = s.uptime := rfl
@[simp] theorem State.modPort_tb : (s.modPort p f).tb = s.tb := rfl
@[simp] theorem State.modPort_div : (s.modPort p f).div = s.div := rfl
@[simp] theorem State.modPort_free : (s.modPort p f).free = s.free := rfl
@[simp] theorem State.modPort_fes : (s.modPort p f).fes = s.fes := rfl
@[simp] theorem State.modPort_cmps : (s.modPort p f).cmps = s.cmps := rfl
@[simp] theorem State.modPort_cmds : (s.modPort p f).cmds = s.cmds := rfl
@[simp] theorem State.modPort_intakes : (s.modPort p f).intakes = s.intakes := rfl
@[simp] theorem State.modPort_insts : (s.modPort p f).insts = s.insts := rfl
@[simp] theorem State.modPort_lastCls : (s.modPort p f).lastCls = s.lastCls := rfl
@[simp] theorem State.modPort_bbStage : (s.modPort p f).bbStage = s.bbStage := rfl
@[simp] theorem State.modPort_adcs : (s.modPort p f).adcs = s.adcs := rfl
@[simp] theorem State.modPort_engs : (s.modPort p f).engs = s.engs := rfl
@[simp] theorem State.modPort_ctxs : (s.modPort p f).ctxs = s.ctxs := rfl
@[simp] theorem State.modPort_flGroups : (s.modPort p f).flGroups = s.flGroups := rfl
@[simp] theorem State.modPort_tdcs : (s.modPort p f).tdcs = s.tdcs := rfl
@[simp] theorem State.modPort_jobs : (s.modPort p f).jobs = s.jobs := rfl
@[simp] theorem State.modPort_trigs : (s.modPort p f).trigs = s.trigs := rfl
@[simp] theorem State.modPort_rots : (s.modPort p f).rots = s.rots := rfl
@[simp] theorem State.modPort_tiles : (s.modPort p f).tiles = s.tiles := rfl
@[simp] theorem State.modPort_anchor : (s.modPort p f).anchor = s.anchor := rfl
@[simp] theorem State.modPort_calSet : (s.modPort p f).calSet = s.calSet := rfl
@[simp] theorem State.modPort_calAt : (s.modPort p f).calAt = s.calAt := rfl
@[simp] theorem State.modPort_calBack : (s.modPort p f).calBack = s.calBack := rfl
@[simp] theorem State.modPort_svcEntry : (s.modPort p f).svcEntry = s.svcEntry := rfl
@[simp] theorem State.modPort_svcExit : (s.modPort p f).svcExit = s.svcExit := rfl
@[simp] theorem State.modPort_armLine : (s.modPort p f).armLine = s.armLine := rfl
@[simp] theorem State.modPort_pulses : (s.modPort p f).pulses = s.pulses := rfl
@[simp] theorem State.modPort_syncArmed : (s.modPort p f).syncArmed = s.syncArmed := rfl
@[simp] theorem State.modPort_pairs : (s.modPort p f).pairs = s.pairs := rfl
@[simp] theorem State.modPort_timing : (s.modPort p f).timing = s.timing := rfl
@[simp] theorem State.modPort_timingNew : (s.modPort p f).timingNew = s.timingNew := rfl
@[simp] theorem State.modPort_charges : (s.modPort p f).charges = s.charges := rfl
@[simp] theorem State.modPort_mics : (s.modPort p f).mics = s.mics := rfl
@[simp] theorem State.modPort_cs : (s.modPort p f).cs = s.cs := rfl
@[simp] theorem State.modPort_svnRaised : (s.modPort p f).svnRaised = s.svnRaised := rfl
@[simp] theorem State.modPort_stagedUnits : (s.modPort p f).stagedUnits = s.stagedUnits := rfl
@[simp] theorem State.modPort_stagedTiles : (s.modPort p f).stagedTiles = s.stagedTiles := rfl
@[simp] theorem State.modPort_stagedXfer : (s.modPort p f).stagedXfer = s.stagedXfer := rfl
@[simp] theorem State.modPort_commitPend : (s.modPort p f).commitPend = s.commitPend := rfl
@[simp] theorem State.modPort_commitCmds : (s.modPort p f).commitCmds = s.commitCmds := rfl
@[simp] theorem State.modPort_archNow : (s.modPort p f).archNow = s.archNow := rfl
@[simp] theorem State.modPort_archNext : (s.modPort p f).archNext = s.archNext := rfl
@[simp] theorem State.modPort_calDirty : (s.modPort p f).calDirty = s.calDirty := rfl
@[simp] theorem State.modPort_rotAt : (s.modPort p f).rotAt = s.rotAt := rfl
@[simp] theorem State.modPort_tests : (s.modPort p f).tests = s.tests := rfl
@[simp] theorem State.modPort_inReset : (s.modPort p f).inReset = s.inReset := rfl
@[simp] theorem State.modPort_off : (s.modPort p f).off = s.off := rfl
@[simp] theorem State.modPort_rails : (s.modPort p f).rails = s.rails := rfl
@[simp] theorem State.modPort_tapIr : (s.modPort p f).tapIr = s.tapIr := rfl
@[simp] theorem State.modPort_unlocked : (s.modPort p f).unlocked = s.unlocked := rfl
@[simp] theorem State.modPort_dwFailed : (s.modPort p f).dwFailed = s.dwFailed := rfl
@[simp] theorem State.modPort_spa : (s.modPort p f).spa = s.spa := rfl
@[simp] theorem State.modPort_spaMode : (s.modPort p f).spaMode = s.spaMode := rfl
@[simp] theorem State.modPort_round : (s.modPort p f).round = s.round := rfl
@[simp] theorem State.modPort_good : (s.modPort p f).good = s.good := rfl
@[simp] theorem State.modPort_newBroken : (s.modPort p f).newBroken = s.newBroken := rfl
@[simp] theorem State.modPort_spbOut : (s.modPort p f).spbOut = s.spbOut := rfl
@[simp] theorem State.modPort_diagOut : (s.modPort p f).diagOut = s.diagOut := rfl
@[simp] theorem State.modPort_own : (s.modPort p f).own = s.own := rfl
@[simp] theorem State.modPort_reads : (s.modPort p f).reads = s.reads := rfl
@[simp] theorem State.modPort_fetched : (s.modPort p f).fetched = s.fetched := rfl
@[simp] theorem State.modPort_arbLast : (s.modPort p f).arbLast = s.arbLast := rfl
@[simp] theorem State.modPort_arbLeft : (s.modPort p f).arbLeft = s.arbLeft := rfl
@[simp] theorem State.modPort_srcs : (s.modPort p f).srcs = s.srcs := rfl
@[simp] theorem State.modPort_vecs : (s.modPort p f).vecs = s.vecs := rfl
@[simp] theorem State.modPort_vecLast : (s.modPort p f).vecLast = s.vecLast := rfl
@[simp] theorem State.modPort_latched : (s.modPort p f).latched = s.latched := rfl
@[simp] theorem State.modPort_pending : (s.modPort p f).pending = s.pending := rfl
end

/-! ### modSrc -/

section
variable (n : Nat) (f : Src → Src)
@[simp] theorem State.modSrc_regs : (s.modSrc n f).regs = s.regs := rfl
@[simp] theorem State.modSrc_sram : (s.modSrc n f).sram = s.sram := rfl
@[simp] theorem State.modSrc_flash : (s.modSrc n f).flash = s.flash := rfl
@[simp] theorem State.modSrc_host : (s.modSrc n f).host = s.host := rfl
@[simp] theorem State.modSrc_uptime : (s.modSrc n f).uptime = s.uptime := rfl
@[simp] theorem State.modSrc_tb : (s.modSrc n f).tb = s.tb := rfl
@[simp] theorem State.modSrc_div : (s.modSrc n f).div = s.div := rfl
@[simp] theorem State.modSrc_free : (s.modSrc n f).free = s.free := rfl
@[simp] theorem State.modSrc_fes : (s.modSrc n f).fes = s.fes := rfl
@[simp] theorem State.modSrc_cmps : (s.modSrc n f).cmps = s.cmps := rfl
@[simp] theorem State.modSrc_cmds : (s.modSrc n f).cmds = s.cmds := rfl
@[simp] theorem State.modSrc_intakes : (s.modSrc n f).intakes = s.intakes := rfl
@[simp] theorem State.modSrc_insts : (s.modSrc n f).insts = s.insts := rfl
@[simp] theorem State.modSrc_lastCls : (s.modSrc n f).lastCls = s.lastCls := rfl
@[simp] theorem State.modSrc_bbStage : (s.modSrc n f).bbStage = s.bbStage := rfl
@[simp] theorem State.modSrc_adcs : (s.modSrc n f).adcs = s.adcs := rfl
@[simp] theorem State.modSrc_engs : (s.modSrc n f).engs = s.engs := rfl
@[simp] theorem State.modSrc_ctxs : (s.modSrc n f).ctxs = s.ctxs := rfl
@[simp] theorem State.modSrc_flGroups : (s.modSrc n f).flGroups = s.flGroups := rfl
@[simp] theorem State.modSrc_tdcs : (s.modSrc n f).tdcs = s.tdcs := rfl
@[simp] theorem State.modSrc_jobs : (s.modSrc n f).jobs = s.jobs := rfl
@[simp] theorem State.modSrc_trigs : (s.modSrc n f).trigs = s.trigs := rfl
@[simp] theorem State.modSrc_rots : (s.modSrc n f).rots = s.rots := rfl
@[simp] theorem State.modSrc_tiles : (s.modSrc n f).tiles = s.tiles := rfl
@[simp] theorem State.modSrc_anchor : (s.modSrc n f).anchor = s.anchor := rfl
@[simp] theorem State.modSrc_calSet : (s.modSrc n f).calSet = s.calSet := rfl
@[simp] theorem State.modSrc_calAt : (s.modSrc n f).calAt = s.calAt := rfl
@[simp] theorem State.modSrc_calBack : (s.modSrc n f).calBack = s.calBack := rfl
@[simp] theorem State.modSrc_svcEntry : (s.modSrc n f).svcEntry = s.svcEntry := rfl
@[simp] theorem State.modSrc_svcExit : (s.modSrc n f).svcExit = s.svcExit := rfl
@[simp] theorem State.modSrc_armLine : (s.modSrc n f).armLine = s.armLine := rfl
@[simp] theorem State.modSrc_pulses : (s.modSrc n f).pulses = s.pulses := rfl
@[simp] theorem State.modSrc_syncArmed : (s.modSrc n f).syncArmed = s.syncArmed := rfl
@[simp] theorem State.modSrc_pairs : (s.modSrc n f).pairs = s.pairs := rfl
@[simp] theorem State.modSrc_timing : (s.modSrc n f).timing = s.timing := rfl
@[simp] theorem State.modSrc_timingNew : (s.modSrc n f).timingNew = s.timingNew := rfl
@[simp] theorem State.modSrc_charges : (s.modSrc n f).charges = s.charges := rfl
@[simp] theorem State.modSrc_mics : (s.modSrc n f).mics = s.mics := rfl
@[simp] theorem State.modSrc_cs : (s.modSrc n f).cs = s.cs := rfl
@[simp] theorem State.modSrc_svnRaised : (s.modSrc n f).svnRaised = s.svnRaised := rfl
@[simp] theorem State.modSrc_stagedUnits : (s.modSrc n f).stagedUnits = s.stagedUnits := rfl
@[simp] theorem State.modSrc_stagedTiles : (s.modSrc n f).stagedTiles = s.stagedTiles := rfl
@[simp] theorem State.modSrc_stagedXfer : (s.modSrc n f).stagedXfer = s.stagedXfer := rfl
@[simp] theorem State.modSrc_commitPend : (s.modSrc n f).commitPend = s.commitPend := rfl
@[simp] theorem State.modSrc_commitCmds : (s.modSrc n f).commitCmds = s.commitCmds := rfl
@[simp] theorem State.modSrc_archNow : (s.modSrc n f).archNow = s.archNow := rfl
@[simp] theorem State.modSrc_archNext : (s.modSrc n f).archNext = s.archNext := rfl
@[simp] theorem State.modSrc_calDirty : (s.modSrc n f).calDirty = s.calDirty := rfl
@[simp] theorem State.modSrc_rotAt : (s.modSrc n f).rotAt = s.rotAt := rfl
@[simp] theorem State.modSrc_tests : (s.modSrc n f).tests = s.tests := rfl
@[simp] theorem State.modSrc_inReset : (s.modSrc n f).inReset = s.inReset := rfl
@[simp] theorem State.modSrc_off : (s.modSrc n f).off = s.off := rfl
@[simp] theorem State.modSrc_rails : (s.modSrc n f).rails = s.rails := rfl
@[simp] theorem State.modSrc_tapIr : (s.modSrc n f).tapIr = s.tapIr := rfl
@[simp] theorem State.modSrc_unlocked : (s.modSrc n f).unlocked = s.unlocked := rfl
@[simp] theorem State.modSrc_dwFailed : (s.modSrc n f).dwFailed = s.dwFailed := rfl
@[simp] theorem State.modSrc_spa : (s.modSrc n f).spa = s.spa := rfl
@[simp] theorem State.modSrc_spaMode : (s.modSrc n f).spaMode = s.spaMode := rfl
@[simp] theorem State.modSrc_round : (s.modSrc n f).round = s.round := rfl
@[simp] theorem State.modSrc_good : (s.modSrc n f).good = s.good := rfl
@[simp] theorem State.modSrc_newBroken : (s.modSrc n f).newBroken = s.newBroken := rfl
@[simp] theorem State.modSrc_spbOut : (s.modSrc n f).spbOut = s.spbOut := rfl
@[simp] theorem State.modSrc_diagOut : (s.modSrc n f).diagOut = s.diagOut := rfl
@[simp] theorem State.modSrc_ports : (s.modSrc n f).ports = s.ports := rfl
@[simp] theorem State.modSrc_own : (s.modSrc n f).own = s.own := rfl
@[simp] theorem State.modSrc_reads : (s.modSrc n f).reads = s.reads := rfl
@[simp] theorem State.modSrc_fetched : (s.modSrc n f).fetched = s.fetched := rfl
@[simp] theorem State.modSrc_arbLast : (s.modSrc n f).arbLast = s.arbLast := rfl
@[simp] theorem State.modSrc_arbLeft : (s.modSrc n f).arbLeft = s.arbLeft := rfl
@[simp] theorem State.modSrc_vecs : (s.modSrc n f).vecs = s.vecs := rfl
@[simp] theorem State.modSrc_vecLast : (s.modSrc n f).vecLast = s.vecLast := rfl
@[simp] theorem State.modSrc_latched : (s.modSrc n f).latched = s.latched := rfl
@[simp] theorem State.modSrc_pending : (s.modSrc n f).pending = s.pending := rfl
end

/-! ### modVec -/

section
variable (v : Nat) (f : Vecr → Vecr)
@[simp] theorem State.modVec_regs : (s.modVec v f).regs = s.regs := rfl
@[simp] theorem State.modVec_sram : (s.modVec v f).sram = s.sram := rfl
@[simp] theorem State.modVec_flash : (s.modVec v f).flash = s.flash := rfl
@[simp] theorem State.modVec_host : (s.modVec v f).host = s.host := rfl
@[simp] theorem State.modVec_uptime : (s.modVec v f).uptime = s.uptime := rfl
@[simp] theorem State.modVec_tb : (s.modVec v f).tb = s.tb := rfl
@[simp] theorem State.modVec_div : (s.modVec v f).div = s.div := rfl
@[simp] theorem State.modVec_free : (s.modVec v f).free = s.free := rfl
@[simp] theorem State.modVec_fes : (s.modVec v f).fes = s.fes := rfl
@[simp] theorem State.modVec_cmps : (s.modVec v f).cmps = s.cmps := rfl
@[simp] theorem State.modVec_cmds : (s.modVec v f).cmds = s.cmds := rfl
@[simp] theorem State.modVec_intakes : (s.modVec v f).intakes = s.intakes := rfl
@[simp] theorem State.modVec_insts : (s.modVec v f).insts = s.insts := rfl
@[simp] theorem State.modVec_lastCls : (s.modVec v f).lastCls = s.lastCls := rfl
@[simp] theorem State.modVec_bbStage : (s.modVec v f).bbStage = s.bbStage := rfl
@[simp] theorem State.modVec_adcs : (s.modVec v f).adcs = s.adcs := rfl
@[simp] theorem State.modVec_engs : (s.modVec v f).engs = s.engs := rfl
@[simp] theorem State.modVec_ctxs : (s.modVec v f).ctxs = s.ctxs := rfl
@[simp] theorem State.modVec_flGroups : (s.modVec v f).flGroups = s.flGroups := rfl
@[simp] theorem State.modVec_tdcs : (s.modVec v f).tdcs = s.tdcs := rfl
@[simp] theorem State.modVec_jobs : (s.modVec v f).jobs = s.jobs := rfl
@[simp] theorem State.modVec_trigs : (s.modVec v f).trigs = s.trigs := rfl
@[simp] theorem State.modVec_rots : (s.modVec v f).rots = s.rots := rfl
@[simp] theorem State.modVec_tiles : (s.modVec v f).tiles = s.tiles := rfl
@[simp] theorem State.modVec_anchor : (s.modVec v f).anchor = s.anchor := rfl
@[simp] theorem State.modVec_calSet : (s.modVec v f).calSet = s.calSet := rfl
@[simp] theorem State.modVec_calAt : (s.modVec v f).calAt = s.calAt := rfl
@[simp] theorem State.modVec_calBack : (s.modVec v f).calBack = s.calBack := rfl
@[simp] theorem State.modVec_svcEntry : (s.modVec v f).svcEntry = s.svcEntry := rfl
@[simp] theorem State.modVec_svcExit : (s.modVec v f).svcExit = s.svcExit := rfl
@[simp] theorem State.modVec_armLine : (s.modVec v f).armLine = s.armLine := rfl
@[simp] theorem State.modVec_pulses : (s.modVec v f).pulses = s.pulses := rfl
@[simp] theorem State.modVec_syncArmed : (s.modVec v f).syncArmed = s.syncArmed := rfl
@[simp] theorem State.modVec_pairs : (s.modVec v f).pairs = s.pairs := rfl
@[simp] theorem State.modVec_timing : (s.modVec v f).timing = s.timing := rfl
@[simp] theorem State.modVec_timingNew : (s.modVec v f).timingNew = s.timingNew := rfl
@[simp] theorem State.modVec_charges : (s.modVec v f).charges = s.charges := rfl
@[simp] theorem State.modVec_mics : (s.modVec v f).mics = s.mics := rfl
@[simp] theorem State.modVec_cs : (s.modVec v f).cs = s.cs := rfl
@[simp] theorem State.modVec_svnRaised : (s.modVec v f).svnRaised = s.svnRaised := rfl
@[simp] theorem State.modVec_stagedUnits : (s.modVec v f).stagedUnits = s.stagedUnits := rfl
@[simp] theorem State.modVec_stagedTiles : (s.modVec v f).stagedTiles = s.stagedTiles := rfl
@[simp] theorem State.modVec_stagedXfer : (s.modVec v f).stagedXfer = s.stagedXfer := rfl
@[simp] theorem State.modVec_commitPend : (s.modVec v f).commitPend = s.commitPend := rfl
@[simp] theorem State.modVec_commitCmds : (s.modVec v f).commitCmds = s.commitCmds := rfl
@[simp] theorem State.modVec_archNow : (s.modVec v f).archNow = s.archNow := rfl
@[simp] theorem State.modVec_archNext : (s.modVec v f).archNext = s.archNext := rfl
@[simp] theorem State.modVec_calDirty : (s.modVec v f).calDirty = s.calDirty := rfl
@[simp] theorem State.modVec_rotAt : (s.modVec v f).rotAt = s.rotAt := rfl
@[simp] theorem State.modVec_tests : (s.modVec v f).tests = s.tests := rfl
@[simp] theorem State.modVec_inReset : (s.modVec v f).inReset = s.inReset := rfl
@[simp] theorem State.modVec_off : (s.modVec v f).off = s.off := rfl
@[simp] theorem State.modVec_rails : (s.modVec v f).rails = s.rails := rfl
@[simp] theorem State.modVec_tapIr : (s.modVec v f).tapIr = s.tapIr := rfl
@[simp] theorem State.modVec_unlocked : (s.modVec v f).unlocked = s.unlocked := rfl
@[simp] theorem State.modVec_dwFailed : (s.modVec v f).dwFailed = s.dwFailed := rfl
@[simp] theorem State.modVec_spa : (s.modVec v f).spa = s.spa := rfl
@[simp] theorem State.modVec_spaMode : (s.modVec v f).spaMode = s.spaMode := rfl
@[simp] theorem State.modVec_round : (s.modVec v f).round = s.round := rfl
@[simp] theorem State.modVec_good : (s.modVec v f).good = s.good := rfl
@[simp] theorem State.modVec_newBroken : (s.modVec v f).newBroken = s.newBroken := rfl
@[simp] theorem State.modVec_spbOut : (s.modVec v f).spbOut = s.spbOut := rfl
@[simp] theorem State.modVec_diagOut : (s.modVec v f).diagOut = s.diagOut := rfl
@[simp] theorem State.modVec_ports : (s.modVec v f).ports = s.ports := rfl
@[simp] theorem State.modVec_own : (s.modVec v f).own = s.own := rfl
@[simp] theorem State.modVec_reads : (s.modVec v f).reads = s.reads := rfl
@[simp] theorem State.modVec_fetched : (s.modVec v f).fetched = s.fetched := rfl
@[simp] theorem State.modVec_arbLast : (s.modVec v f).arbLast = s.arbLast := rfl
@[simp] theorem State.modVec_arbLeft : (s.modVec v f).arbLeft = s.arbLeft := rfl
@[simp] theorem State.modVec_srcs : (s.modVec v f).srcs = s.srcs := rfl
@[simp] theorem State.modVec_vecLast : (s.modVec v f).vecLast = s.vecLast := rfl
@[simp] theorem State.modVec_latched : (s.modVec v f).latched = s.latched := rfl
@[simp] theorem State.modVec_pending : (s.modVec v f).pending = s.pending := rfl
end

/-! ### mapCmds -/

section
variable (p : Cmd → Bool) (f : Cmd → Cmd)
@[simp] theorem State.mapCmds_regs : (s.mapCmds p f).regs = s.regs := rfl
@[simp] theorem State.mapCmds_sram : (s.mapCmds p f).sram = s.sram := rfl
@[simp] theorem State.mapCmds_flash : (s.mapCmds p f).flash = s.flash := rfl
@[simp] theorem State.mapCmds_host : (s.mapCmds p f).host = s.host := rfl
@[simp] theorem State.mapCmds_uptime : (s.mapCmds p f).uptime = s.uptime := rfl
@[simp] theorem State.mapCmds_tb : (s.mapCmds p f).tb = s.tb := rfl
@[simp] theorem State.mapCmds_div : (s.mapCmds p f).div = s.div := rfl
@[simp] theorem State.mapCmds_free : (s.mapCmds p f).free = s.free := rfl
@[simp] theorem State.mapCmds_fes : (s.mapCmds p f).fes = s.fes := rfl
@[simp] theorem State.mapCmds_cmps : (s.mapCmds p f).cmps = s.cmps := rfl
@[simp] theorem State.mapCmds_intakes : (s.mapCmds p f).intakes = s.intakes := rfl
@[simp] theorem State.mapCmds_insts : (s.mapCmds p f).insts = s.insts := rfl
@[simp] theorem State.mapCmds_lastCls : (s.mapCmds p f).lastCls = s.lastCls := rfl
@[simp] theorem State.mapCmds_bbStage : (s.mapCmds p f).bbStage = s.bbStage := rfl
@[simp] theorem State.mapCmds_adcs : (s.mapCmds p f).adcs = s.adcs := rfl
@[simp] theorem State.mapCmds_engs : (s.mapCmds p f).engs = s.engs := rfl
@[simp] theorem State.mapCmds_ctxs : (s.mapCmds p f).ctxs = s.ctxs := rfl
@[simp] theorem State.mapCmds_flGroups : (s.mapCmds p f).flGroups = s.flGroups := rfl
@[simp] theorem State.mapCmds_tdcs : (s.mapCmds p f).tdcs = s.tdcs := rfl
@[simp] theorem State.mapCmds_jobs : (s.mapCmds p f).jobs = s.jobs := rfl
@[simp] theorem State.mapCmds_trigs : (s.mapCmds p f).trigs = s.trigs := rfl
@[simp] theorem State.mapCmds_rots : (s.mapCmds p f).rots = s.rots := rfl
@[simp] theorem State.mapCmds_tiles : (s.mapCmds p f).tiles = s.tiles := rfl
@[simp] theorem State.mapCmds_anchor : (s.mapCmds p f).anchor = s.anchor := rfl
@[simp] theorem State.mapCmds_calSet : (s.mapCmds p f).calSet = s.calSet := rfl
@[simp] theorem State.mapCmds_calAt : (s.mapCmds p f).calAt = s.calAt := rfl
@[simp] theorem State.mapCmds_calBack : (s.mapCmds p f).calBack = s.calBack := rfl
@[simp] theorem State.mapCmds_svcEntry : (s.mapCmds p f).svcEntry = s.svcEntry := rfl
@[simp] theorem State.mapCmds_svcExit : (s.mapCmds p f).svcExit = s.svcExit := rfl
@[simp] theorem State.mapCmds_armLine : (s.mapCmds p f).armLine = s.armLine := rfl
@[simp] theorem State.mapCmds_pulses : (s.mapCmds p f).pulses = s.pulses := rfl
@[simp] theorem State.mapCmds_syncArmed : (s.mapCmds p f).syncArmed = s.syncArmed := rfl
@[simp] theorem State.mapCmds_pairs : (s.mapCmds p f).pairs = s.pairs := rfl
@[simp] theorem State.mapCmds_timing : (s.mapCmds p f).timing = s.timing := rfl
@[simp] theorem State.mapCmds_timingNew : (s.mapCmds p f).timingNew = s.timingNew := rfl
@[simp] theorem State.mapCmds_charges : (s.mapCmds p f).charges = s.charges := rfl
@[simp] theorem State.mapCmds_mics : (s.mapCmds p f).mics = s.mics := rfl
@[simp] theorem State.mapCmds_cs : (s.mapCmds p f).cs = s.cs := rfl
@[simp] theorem State.mapCmds_svnRaised : (s.mapCmds p f).svnRaised = s.svnRaised := rfl
@[simp] theorem State.mapCmds_stagedUnits : (s.mapCmds p f).stagedUnits = s.stagedUnits := rfl
@[simp] theorem State.mapCmds_stagedTiles : (s.mapCmds p f).stagedTiles = s.stagedTiles := rfl
@[simp] theorem State.mapCmds_stagedXfer : (s.mapCmds p f).stagedXfer = s.stagedXfer := rfl
@[simp] theorem State.mapCmds_commitPend : (s.mapCmds p f).commitPend = s.commitPend := rfl
@[simp] theorem State.mapCmds_commitCmds : (s.mapCmds p f).commitCmds = s.commitCmds := rfl
@[simp] theorem State.mapCmds_archNow : (s.mapCmds p f).archNow = s.archNow := rfl
@[simp] theorem State.mapCmds_archNext : (s.mapCmds p f).archNext = s.archNext := rfl
@[simp] theorem State.mapCmds_calDirty : (s.mapCmds p f).calDirty = s.calDirty := rfl
@[simp] theorem State.mapCmds_rotAt : (s.mapCmds p f).rotAt = s.rotAt := rfl
@[simp] theorem State.mapCmds_tests : (s.mapCmds p f).tests = s.tests := rfl
@[simp] theorem State.mapCmds_inReset : (s.mapCmds p f).inReset = s.inReset := rfl
@[simp] theorem State.mapCmds_off : (s.mapCmds p f).off = s.off := rfl
@[simp] theorem State.mapCmds_rails : (s.mapCmds p f).rails = s.rails := rfl
@[simp] theorem State.mapCmds_tapIr : (s.mapCmds p f).tapIr = s.tapIr := rfl
@[simp] theorem State.mapCmds_unlocked : (s.mapCmds p f).unlocked = s.unlocked := rfl
@[simp] theorem State.mapCmds_dwFailed : (s.mapCmds p f).dwFailed = s.dwFailed := rfl
@[simp] theorem State.mapCmds_spa : (s.mapCmds p f).spa = s.spa := rfl
@[simp] theorem State.mapCmds_spaMode : (s.mapCmds p f).spaMode = s.spaMode := rfl
@[simp] theorem State.mapCmds_round : (s.mapCmds p f).round = s.round := rfl
@[simp] theorem State.mapCmds_good : (s.mapCmds p f).good = s.good := rfl
@[simp] theorem State.mapCmds_newBroken : (s.mapCmds p f).newBroken = s.newBroken := rfl
@[simp] theorem State.mapCmds_spbOut : (s.mapCmds p f).spbOut = s.spbOut := rfl
@[simp] theorem State.mapCmds_diagOut : (s.mapCmds p f).diagOut = s.diagOut := rfl
@[simp] theorem State.mapCmds_ports : (s.mapCmds p f).ports = s.ports := rfl
@[simp] theorem State.mapCmds_own : (s.mapCmds p f).own = s.own := rfl
@[simp] theorem State.mapCmds_reads : (s.mapCmds p f).reads = s.reads := rfl
@[simp] theorem State.mapCmds_fetched : (s.mapCmds p f).fetched = s.fetched := rfl
@[simp] theorem State.mapCmds_arbLast : (s.mapCmds p f).arbLast = s.arbLast := rfl
@[simp] theorem State.mapCmds_arbLeft : (s.mapCmds p f).arbLeft = s.arbLeft := rfl
@[simp] theorem State.mapCmds_srcs : (s.mapCmds p f).srcs = s.srcs := rfl
@[simp] theorem State.mapCmds_vecs : (s.mapCmds p f).vecs = s.vecs := rfl
@[simp] theorem State.mapCmds_vecLast : (s.mapCmds p f).vecLast = s.vecLast := rfl
@[simp] theorem State.mapCmds_latched : (s.mapCmds p f).latched = s.latched := rfl
@[simp] theorem State.mapCmds_pending : (s.mapCmds p f).pending = s.pending := rfl
end

/-! ### stopCmds -/

section
variable (p : Cmd → Bool) (f : Cmd → Cmd)
@[simp] theorem State.stopCmds_regs : (s.stopCmds p f).regs = s.regs := rfl
@[simp] theorem State.stopCmds_sram : (s.stopCmds p f).sram = s.sram := rfl
@[simp] theorem State.stopCmds_flash : (s.stopCmds p f).flash = s.flash := rfl
@[simp] theorem State.stopCmds_host : (s.stopCmds p f).host = s.host := rfl
@[simp] theorem State.stopCmds_uptime : (s.stopCmds p f).uptime = s.uptime := rfl
@[simp] theorem State.stopCmds_tb : (s.stopCmds p f).tb = s.tb := rfl
@[simp] theorem State.stopCmds_div : (s.stopCmds p f).div = s.div := rfl
@[simp] theorem State.stopCmds_free : (s.stopCmds p f).free = s.free := rfl
@[simp] theorem State.stopCmds_fes : (s.stopCmds p f).fes = s.fes := rfl
@[simp] theorem State.stopCmds_cmps : (s.stopCmds p f).cmps = s.cmps := rfl
@[simp] theorem State.stopCmds_intakes : (s.stopCmds p f).intakes = s.intakes := rfl
@[simp] theorem State.stopCmds_insts : (s.stopCmds p f).insts = s.insts := rfl
@[simp] theorem State.stopCmds_lastCls : (s.stopCmds p f).lastCls = s.lastCls := rfl
@[simp] theorem State.stopCmds_bbStage : (s.stopCmds p f).bbStage = s.bbStage := rfl
@[simp] theorem State.stopCmds_adcs : (s.stopCmds p f).adcs = s.adcs := rfl
@[simp] theorem State.stopCmds_engs : (s.stopCmds p f).engs = s.engs := rfl
@[simp] theorem State.stopCmds_ctxs : (s.stopCmds p f).ctxs = s.ctxs := rfl
@[simp] theorem State.stopCmds_flGroups : (s.stopCmds p f).flGroups = s.flGroups := rfl
@[simp] theorem State.stopCmds_tdcs : (s.stopCmds p f).tdcs = s.tdcs := rfl
@[simp] theorem State.stopCmds_jobs : (s.stopCmds p f).jobs = s.jobs := rfl
@[simp] theorem State.stopCmds_trigs : (s.stopCmds p f).trigs = s.trigs := rfl
@[simp] theorem State.stopCmds_rots : (s.stopCmds p f).rots = s.rots := rfl
@[simp] theorem State.stopCmds_tiles : (s.stopCmds p f).tiles = s.tiles := rfl
@[simp] theorem State.stopCmds_anchor : (s.stopCmds p f).anchor = s.anchor := rfl
@[simp] theorem State.stopCmds_calSet : (s.stopCmds p f).calSet = s.calSet := rfl
@[simp] theorem State.stopCmds_calAt : (s.stopCmds p f).calAt = s.calAt := rfl
@[simp] theorem State.stopCmds_calBack : (s.stopCmds p f).calBack = s.calBack := rfl
@[simp] theorem State.stopCmds_svcEntry : (s.stopCmds p f).svcEntry = s.svcEntry := rfl
@[simp] theorem State.stopCmds_svcExit : (s.stopCmds p f).svcExit = s.svcExit := rfl
@[simp] theorem State.stopCmds_armLine : (s.stopCmds p f).armLine = s.armLine := rfl
@[simp] theorem State.stopCmds_pulses : (s.stopCmds p f).pulses = s.pulses := rfl
@[simp] theorem State.stopCmds_syncArmed : (s.stopCmds p f).syncArmed = s.syncArmed := rfl
@[simp] theorem State.stopCmds_pairs : (s.stopCmds p f).pairs = s.pairs := rfl
@[simp] theorem State.stopCmds_timing : (s.stopCmds p f).timing = s.timing := rfl
@[simp] theorem State.stopCmds_timingNew : (s.stopCmds p f).timingNew = s.timingNew := rfl
@[simp] theorem State.stopCmds_charges : (s.stopCmds p f).charges = s.charges := rfl
@[simp] theorem State.stopCmds_mics : (s.stopCmds p f).mics = s.mics := rfl
@[simp] theorem State.stopCmds_cs : (s.stopCmds p f).cs = s.cs := rfl
@[simp] theorem State.stopCmds_svnRaised : (s.stopCmds p f).svnRaised = s.svnRaised := rfl
@[simp] theorem State.stopCmds_stagedUnits : (s.stopCmds p f).stagedUnits = s.stagedUnits := rfl
@[simp] theorem State.stopCmds_stagedTiles : (s.stopCmds p f).stagedTiles = s.stagedTiles := rfl
@[simp] theorem State.stopCmds_stagedXfer : (s.stopCmds p f).stagedXfer = s.stagedXfer := rfl
@[simp] theorem State.stopCmds_commitPend : (s.stopCmds p f).commitPend = s.commitPend := rfl
@[simp] theorem State.stopCmds_commitCmds : (s.stopCmds p f).commitCmds = s.commitCmds := rfl
@[simp] theorem State.stopCmds_archNow : (s.stopCmds p f).archNow = s.archNow := rfl
@[simp] theorem State.stopCmds_archNext : (s.stopCmds p f).archNext = s.archNext := rfl
@[simp] theorem State.stopCmds_calDirty : (s.stopCmds p f).calDirty = s.calDirty := rfl
@[simp] theorem State.stopCmds_rotAt : (s.stopCmds p f).rotAt = s.rotAt := rfl
@[simp] theorem State.stopCmds_tests : (s.stopCmds p f).tests = s.tests := rfl
@[simp] theorem State.stopCmds_inReset : (s.stopCmds p f).inReset = s.inReset := rfl
@[simp] theorem State.stopCmds_off : (s.stopCmds p f).off = s.off := rfl
@[simp] theorem State.stopCmds_rails : (s.stopCmds p f).rails = s.rails := rfl
@[simp] theorem State.stopCmds_tapIr : (s.stopCmds p f).tapIr = s.tapIr := rfl
@[simp] theorem State.stopCmds_unlocked : (s.stopCmds p f).unlocked = s.unlocked := rfl
@[simp] theorem State.stopCmds_dwFailed : (s.stopCmds p f).dwFailed = s.dwFailed := rfl
@[simp] theorem State.stopCmds_spa : (s.stopCmds p f).spa = s.spa := rfl
@[simp] theorem State.stopCmds_spaMode : (s.stopCmds p f).spaMode = s.spaMode := rfl
@[simp] theorem State.stopCmds_round : (s.stopCmds p f).round = s.round := rfl
@[simp] theorem State.stopCmds_good : (s.stopCmds p f).good = s.good := rfl
@[simp] theorem State.stopCmds_newBroken : (s.stopCmds p f).newBroken = s.newBroken := rfl
@[simp] theorem State.stopCmds_spbOut : (s.stopCmds p f).spbOut = s.spbOut := rfl
@[simp] theorem State.stopCmds_diagOut : (s.stopCmds p f).diagOut = s.diagOut := rfl
@[simp] theorem State.stopCmds_ports : (s.stopCmds p f).ports = s.ports := rfl
@[simp] theorem State.stopCmds_own : (s.stopCmds p f).own = s.own := rfl
@[simp] theorem State.stopCmds_reads : (s.stopCmds p f).reads = s.reads := rfl
@[simp] theorem State.stopCmds_fetched : (s.stopCmds p f).fetched = s.fetched := rfl
@[simp] theorem State.stopCmds_arbLast : (s.stopCmds p f).arbLast = s.arbLast := rfl
@[simp] theorem State.stopCmds_arbLeft : (s.stopCmds p f).arbLeft = s.arbLeft := rfl
@[simp] theorem State.stopCmds_srcs : (s.stopCmds p f).srcs = s.srcs := rfl
@[simp] theorem State.stopCmds_vecs : (s.stopCmds p f).vecs = s.vecs := rfl
@[simp] theorem State.stopCmds_vecLast : (s.stopCmds p f).vecLast = s.vecLast := rfl
@[simp] theorem State.stopCmds_latched : (s.stopCmds p f).latched = s.latched := rfl
@[simp] theorem State.stopCmds_pending : (s.stopCmds p f).pending = s.pending := rfl
end

section
variable (a : Nat) (w : Word)
@[simp] theorem State.pair_wr (x : Nat) : (s.wr a w).pair x = s.pair x := rfl
@[simp] theorem State.sramN_wr (x m : Nat) : (s.wr a w).sramN x m = s.sramN x m := rfl
@[simp] theorem State.fe_wr (x : Nat) : (s.wr a w).fe x = s.fe x := rfl
@[simp] theorem State.cmp_wr (x y : Nat) : (s.wr a w).cmp x y = s.cmp x y := rfl
@[simp] theorem State.inst_wr (x : Nat) : (s.wr a w).inst x = s.inst x := rfl
@[simp] theorem State.adc_wr (x : Nat) : (s.wr a w).adc x = s.adc x := rfl
@[simp] theorem State.eng_wr (x : Nat) : (s.wr a w).eng x = s.eng x := rfl
@[simp] theorem State.mic_wr (x : Nat) : (s.wr a w).mic x = s.mic x := rfl
@[simp] theorem State.ctx_wr (x y : Nat) : (s.wr a w).ctx x y = s.ctx x y := rfl
@[simp] theorem State.flGroup_wr (x y : Nat) : (s.wr a w).flGroup x y = s.flGroup x y := rfl
@[simp] theorem State.tdc_wr (x : Nat) : (s.wr a w).tdc x = s.tdc x := rfl
@[simp] theorem State.tim_wr (x : Nat) : (s.wr a w).tim x = s.tim x := rfl
@[simp] theorem State.job_wr (x y : Nat) : (s.wr a w).job x y = s.job x y := rfl
@[simp] theorem State.trig_wr (x : Nat) : (s.wr a w).trig x = s.trig x := rfl
@[simp] theorem State.rot_wr (x : Nat) : (s.wr a w).rot x = s.rot x := rfl
@[simp] theorem State.tile_wr (x : Nat) : (s.wr a w).tile x = s.tile x := rfl
@[simp] theorem State.port_wr (x : Nat) : (s.wr a w).port x = s.port x := rfl
@[simp] theorem State.src_wr (x : Nat) : (s.wr a w).src x = s.src x := rfl
@[simp] theorem State.vec_wr (x : Nat) : (s.wr a w).vec x = s.vec x := rfl
end

section
variable (b : Nat) (f : Fld) (v : Nat)
@[simp] theorem State.pair_setF (x : Nat) : (s.setF b f v).pair x = s.pair x := rfl
@[simp] theorem State.sramN_setF (x m : Nat) : (s.setF b f v).sramN x m = s.sramN x m := rfl
@[simp] theorem State.fe_setF (x : Nat) : (s.setF b f v).fe x = s.fe x := rfl
@[simp] theorem State.cmp_setF (x y : Nat) : (s.setF b f v).cmp x y = s.cmp x y := rfl
@[simp] theorem State.inst_setF (x : Nat) : (s.setF b f v).inst x = s.inst x := rfl
@[simp] theorem State.adc_setF (x : Nat) : (s.setF b f v).adc x = s.adc x := rfl
@[simp] theorem State.eng_setF (x : Nat) : (s.setF b f v).eng x = s.eng x := rfl
@[simp] theorem State.mic_setF (x : Nat) : (s.setF b f v).mic x = s.mic x := rfl
@[simp] theorem State.ctx_setF (x y : Nat) : (s.setF b f v).ctx x y = s.ctx x y := rfl
@[simp] theorem State.flGroup_setF (x y : Nat) : (s.setF b f v).flGroup x y = s.flGroup x y := rfl
@[simp] theorem State.tdc_setF (x : Nat) : (s.setF b f v).tdc x = s.tdc x := rfl
@[simp] theorem State.tim_setF (x : Nat) : (s.setF b f v).tim x = s.tim x := rfl
@[simp] theorem State.job_setF (x y : Nat) : (s.setF b f v).job x y = s.job x y := rfl
@[simp] theorem State.trig_setF (x : Nat) : (s.setF b f v).trig x = s.trig x := rfl
@[simp] theorem State.rot_setF (x : Nat) : (s.setF b f v).rot x = s.rot x := rfl
@[simp] theorem State.tile_setF (x : Nat) : (s.setF b f v).tile x = s.tile x := rfl
@[simp] theorem State.port_setF (x : Nat) : (s.setF b f v).port x = s.port x := rfl
@[simp] theorem State.src_setF (x : Nat) : (s.setF b f v).src x = s.src x := rfl
@[simp] theorem State.vec_setF (x : Nat) : (s.setF b f v).vec x = s.vec x := rfl
end

section
variable (a v : Nat)
@[simp] theorem State.rd_setPair (x : Nat) : (s.setPair a v).rd x = s.rd x := rfl
@[simp] theorem State.getF_setPair (x : Nat) (fl : Fld) : (s.setPair a v).getF x fl = s.getF x fl := rfl
@[simp] theorem State.isSet_setPair (x : Nat) (fl : Fld) : (s.setPair a v).isSet x fl = s.isSet x fl := rfl
@[simp] theorem State.rd64_setPair (x : Nat) : (s.setPair a v).rd64 x = s.rd64 x := rfl
@[simp] theorem State.sramN_setPair (x m : Nat) : (s.setPair a v).sramN x m = s.sramN x m := rfl
@[simp] theorem State.fe_setPair (x : Nat) : (s.setPair a v).fe x = s.fe x := rfl
@[simp] theorem State.cmp_setPair (x y : Nat) : (s.setPair a v).cmp x y = s.cmp x y := rfl
@[simp] theorem State.inst_setPair (x : Nat) : (s.setPair a v).inst x = s.inst x := rfl
@[simp] theorem State.adc_setPair (x : Nat) : (s.setPair a v).adc x = s.adc x := rfl
@[simp] theorem State.eng_setPair (x : Nat) : (s.setPair a v).eng x = s.eng x := rfl
@[simp] theorem State.mic_setPair (x : Nat) : (s.setPair a v).mic x = s.mic x := rfl
@[simp] theorem State.ctx_setPair (x y : Nat) : (s.setPair a v).ctx x y = s.ctx x y := rfl
@[simp] theorem State.flGroup_setPair (x y : Nat) : (s.setPair a v).flGroup x y = s.flGroup x y := rfl
@[simp] theorem State.tdc_setPair (x : Nat) : (s.setPair a v).tdc x = s.tdc x := rfl
@[simp] theorem State.tim_setPair (x : Nat) : (s.setPair a v).tim x = s.tim x := rfl
@[simp] theorem State.job_setPair (x y : Nat) : (s.setPair a v).job x y = s.job x y := rfl
@[simp] theorem State.trig_setPair (x : Nat) : (s.setPair a v).trig x = s.trig x := rfl
@[simp] theorem State.rot_setPair (x : Nat) : (s.setPair a v).rot x = s.rot x := rfl
@[simp] theorem State.tile_setPair (x : Nat) : (s.setPair a v).tile x = s.tile x := rfl
@[simp] theorem State.port_setPair (x : Nat) : (s.setPair a v).port x = s.port x := rfl
@[simp] theorem State.src_setPair (x : Nat) : (s.setPair a v).src x = s.src x := rfl
@[simp] theorem State.vec_setPair (x : Nat) : (s.setPair a v).vec x = s.vec x := rfl
@[simp] theorem State.mode_setPair : (s.setPair a v).mode = s.mode := rfl
@[simp] theorem State.clocked_setPair : (s.setPair a v).clocked = s.clocked := rfl
end

section
variable (a n v : Nat)
@[simp] theorem State.rd_sramSet (x : Nat) : (s.sramSet a n v).rd x = s.rd x := rfl
@[simp] theorem State.getF_sramSet (x : Nat) (fl : Fld) : (s.sramSet a n v).getF x fl = s.getF x fl := rfl
@[simp] theorem State.isSet_sramSet (x : Nat) (fl : Fld) : (s.sramSet a n v).isSet x fl = s.isSet x fl := rfl
@[simp] theorem State.rd64_sramSet (x : Nat) : (s.sramSet a n v).rd64 x = s.rd64 x := rfl
@[simp] theorem State.pair_sramSet (x : Nat) : (s.sramSet a n v).pair x = s.pair x := rfl
@[simp] theorem State.fe_sramSet (x : Nat) : (s.sramSet a n v).fe x = s.fe x := rfl
@[simp] theorem State.cmp_sramSet (x y : Nat) : (s.sramSet a n v).cmp x y = s.cmp x y := rfl
@[simp] theorem State.inst_sramSet (x : Nat) : (s.sramSet a n v).inst x = s.inst x := rfl
@[simp] theorem State.adc_sramSet (x : Nat) : (s.sramSet a n v).adc x = s.adc x := rfl
@[simp] theorem State.eng_sramSet (x : Nat) : (s.sramSet a n v).eng x = s.eng x := rfl
@[simp] theorem State.mic_sramSet (x : Nat) : (s.sramSet a n v).mic x = s.mic x := rfl
@[simp] theorem State.ctx_sramSet (x y : Nat) : (s.sramSet a n v).ctx x y = s.ctx x y := rfl
@[simp] theorem State.flGroup_sramSet (x y : Nat) : (s.sramSet a n v).flGroup x y = s.flGroup x y := rfl
@[simp] theorem State.tdc_sramSet (x : Nat) : (s.sramSet a n v).tdc x = s.tdc x := rfl
@[simp] theorem State.tim_sramSet (x : Nat) : (s.sramSet a n v).tim x = s.tim x := rfl
@[simp] theorem State.job_sramSet (x y : Nat) : (s.sramSet a n v).job x y = s.job x y := rfl
@[simp] theorem State.trig_sramSet (x : Nat) : (s.sramSet a n v).trig x = s.trig x := rfl
@[simp] theorem State.rot_sramSet (x : Nat) : (s.sramSet a n v).rot x = s.rot x := rfl
@[simp] theorem State.tile_sramSet (x : Nat) : (s.sramSet a n v).tile x = s.tile x := rfl
@[simp] theorem State.port_sramSet (x : Nat) : (s.sramSet a n v).port x = s.port x := rfl
@[simp] theorem State.src_sramSet (x : Nat) : (s.sramSet a n v).src x = s.src x := rfl
@[simp] theorem State.vec_sramSet (x : Nat) : (s.sramSet a n v).vec x = s.vec x := rfl
@[simp] theorem State.mode_sramSet : (s.sramSet a n v).mode = s.mode := rfl
@[simp] theorem State.clocked_sramSet : (s.sramSet a n v).clocked = s.clocked := rfl
end

section
variable (a : Nat) (bs : List Byte)
@[simp] theorem State.rd_hostWrite (x : Nat) : (s.hostWrite a bs).rd x = s.rd x := rfl
@[simp] theorem State.getF_hostWrite (x : Nat) (fl : Fld) : (s.hostWrite a bs).getF x fl = s.getF x fl := rfl
@[simp] theorem State.isSet_hostWrite (x : Nat) (fl : Fld) : (s.hostWrite a bs).isSet x fl = s.isSet x fl := rfl
@[simp] theorem State.rd64_hostWrite (x : Nat) : (s.hostWrite a bs).rd64 x = s.rd64 x := rfl
@[simp] theorem State.pair_hostWrite (x : Nat) : (s.hostWrite a bs).pair x = s.pair x := rfl
@[simp] theorem State.sramN_hostWrite (x m : Nat) : (s.hostWrite a bs).sramN x m = s.sramN x m := rfl
@[simp] theorem State.fe_hostWrite (x : Nat) : (s.hostWrite a bs).fe x = s.fe x := rfl
@[simp] theorem State.cmp_hostWrite (x y : Nat) : (s.hostWrite a bs).cmp x y = s.cmp x y := rfl
@[simp] theorem State.inst_hostWrite (x : Nat) : (s.hostWrite a bs).inst x = s.inst x := rfl
@[simp] theorem State.adc_hostWrite (x : Nat) : (s.hostWrite a bs).adc x = s.adc x := rfl
@[simp] theorem State.eng_hostWrite (x : Nat) : (s.hostWrite a bs).eng x = s.eng x := rfl
@[simp] theorem State.mic_hostWrite (x : Nat) : (s.hostWrite a bs).mic x = s.mic x := rfl
@[simp] theorem State.ctx_hostWrite (x y : Nat) : (s.hostWrite a bs).ctx x y = s.ctx x y := rfl
@[simp] theorem State.flGroup_hostWrite (x y : Nat) : (s.hostWrite a bs).flGroup x y = s.flGroup x y := rfl
@[simp] theorem State.tdc_hostWrite (x : Nat) : (s.hostWrite a bs).tdc x = s.tdc x := rfl
@[simp] theorem State.tim_hostWrite (x : Nat) : (s.hostWrite a bs).tim x = s.tim x := rfl
@[simp] theorem State.job_hostWrite (x y : Nat) : (s.hostWrite a bs).job x y = s.job x y := rfl
@[simp] theorem State.trig_hostWrite (x : Nat) : (s.hostWrite a bs).trig x = s.trig x := rfl
@[simp] theorem State.rot_hostWrite (x : Nat) : (s.hostWrite a bs).rot x = s.rot x := rfl
@[simp] theorem State.tile_hostWrite (x : Nat) : (s.hostWrite a bs).tile x = s.tile x := rfl
@[simp] theorem State.port_hostWrite (x : Nat) : (s.hostWrite a bs).port x = s.port x := rfl
@[simp] theorem State.src_hostWrite (x : Nat) : (s.hostWrite a bs).src x = s.src x := rfl
@[simp] theorem State.vec_hostWrite (x : Nat) : (s.hostWrite a bs).vec x = s.vec x := rfl
@[simp] theorem State.mode_hostWrite : (s.hostWrite a bs).mode = s.mode := rfl
@[simp] theorem State.clocked_hostWrite : (s.hostWrite a bs).clocked = s.clocked := rfl
end

section
variable (u : Nat) (f : Fe → Fe)
@[simp] theorem State.rd_modFe (x : Nat) : (s.modFe u f).rd x = s.rd x := rfl
@[simp] theorem State.getF_modFe (x : Nat) (fl : Fld) : (s.modFe u f).getF x fl = s.getF x fl := rfl
@[simp] theorem State.isSet_modFe (x : Nat) (fl : Fld) : (s.modFe u f).isSet x fl = s.isSet x fl := rfl
@[simp] theorem State.rd64_modFe (x : Nat) : (s.modFe u f).rd64 x = s.rd64 x := rfl
@[simp] theorem State.pair_modFe (x : Nat) : (s.modFe u f).pair x = s.pair x := rfl
@[simp] theorem State.sramN_modFe (x m : Nat) : (s.modFe u f).sramN x m = s.sramN x m := rfl
@[simp] theorem State.cmp_modFe (x y : Nat) : (s.modFe u f).cmp x y = s.cmp x y := rfl
@[simp] theorem State.inst_modFe (x : Nat) : (s.modFe u f).inst x = s.inst x := rfl
@[simp] theorem State.adc_modFe (x : Nat) : (s.modFe u f).adc x = s.adc x := rfl
@[simp] theorem State.eng_modFe (x : Nat) : (s.modFe u f).eng x = s.eng x := rfl
@[simp] theorem State.mic_modFe (x : Nat) : (s.modFe u f).mic x = s.mic x := rfl
@[simp] theorem State.ctx_modFe (x y : Nat) : (s.modFe u f).ctx x y = s.ctx x y := rfl
@[simp] theorem State.flGroup_modFe (x y : Nat) : (s.modFe u f).flGroup x y = s.flGroup x y := rfl
@[simp] theorem State.tdc_modFe (x : Nat) : (s.modFe u f).tdc x = s.tdc x := rfl
@[simp] theorem State.tim_modFe (x : Nat) : (s.modFe u f).tim x = s.tim x := rfl
@[simp] theorem State.job_modFe (x y : Nat) : (s.modFe u f).job x y = s.job x y := rfl
@[simp] theorem State.trig_modFe (x : Nat) : (s.modFe u f).trig x = s.trig x := rfl
@[simp] theorem State.rot_modFe (x : Nat) : (s.modFe u f).rot x = s.rot x := rfl
@[simp] theorem State.tile_modFe (x : Nat) : (s.modFe u f).tile x = s.tile x := rfl
@[simp] theorem State.port_modFe (x : Nat) : (s.modFe u f).port x = s.port x := rfl
@[simp] theorem State.src_modFe (x : Nat) : (s.modFe u f).src x = s.src x := rfl
@[simp] theorem State.vec_modFe (x : Nat) : (s.modFe u f).vec x = s.vec x := rfl
@[simp] theorem State.mode_modFe : (s.modFe u f).mode = s.mode := rfl
@[simp] theorem State.clocked_modFe : (s.modFe u f).clocked = s.clocked := rfl
end

section
variable (u k : Nat) (f : Cmp → Cmp)
@[simp] theorem State.rd_modCmp (x : Nat) : (s.modCmp u k f).rd x = s.rd x := rfl
@[simp] theorem State.getF_modCmp (x : Nat) (fl : Fld) : (s.modCmp u k f).getF x fl = s.getF x fl := rfl
@[simp] theorem State.isSet_modCmp (x : Nat) (fl : Fld) : (s.modCmp u k f).isSet x fl = s.isSet x fl := rfl
@[simp] theorem State.rd64_modCmp (x : Nat) : (s.modCmp u k f).rd64 x = s.rd64 x := rfl
@[simp] theorem State.pair_modCmp (x : Nat) : (s.modCmp u k f).pair x = s.pair x := rfl
@[simp] theorem State.sramN_modCmp (x m : Nat) : (s.modCmp u k f).sramN x m = s.sramN x m := rfl
@[simp] theorem State.fe_modCmp (x : Nat) : (s.modCmp u k f).fe x = s.fe x := rfl
@[simp] theorem State.inst_modCmp (x : Nat) : (s.modCmp u k f).inst x = s.inst x := rfl
@[simp] theorem State.adc_modCmp (x : Nat) : (s.modCmp u k f).adc x = s.adc x := rfl
@[simp] theorem State.eng_modCmp (x : Nat) : (s.modCmp u k f).eng x = s.eng x := rfl
@[simp] theorem State.mic_modCmp (x : Nat) : (s.modCmp u k f).mic x = s.mic x := rfl
@[simp] theorem State.ctx_modCmp (x y : Nat) : (s.modCmp u k f).ctx x y = s.ctx x y := rfl
@[simp] theorem State.flGroup_modCmp (x y : Nat) : (s.modCmp u k f).flGroup x y = s.flGroup x y := rfl
@[simp] theorem State.tdc_modCmp (x : Nat) : (s.modCmp u k f).tdc x = s.tdc x := rfl
@[simp] theorem State.tim_modCmp (x : Nat) : (s.modCmp u k f).tim x = s.tim x := rfl
@[simp] theorem State.job_modCmp (x y : Nat) : (s.modCmp u k f).job x y = s.job x y := rfl
@[simp] theorem State.trig_modCmp (x : Nat) : (s.modCmp u k f).trig x = s.trig x := rfl
@[simp] theorem State.rot_modCmp (x : Nat) : (s.modCmp u k f).rot x = s.rot x := rfl
@[simp] theorem State.tile_modCmp (x : Nat) : (s.modCmp u k f).tile x = s.tile x := rfl
@[simp] theorem State.port_modCmp (x : Nat) : (s.modCmp u k f).port x = s.port x := rfl
@[simp] theorem State.src_modCmp (x : Nat) : (s.modCmp u k f).src x = s.src x := rfl
@[simp] theorem State.vec_modCmp (x : Nat) : (s.modCmp u k f).vec x = s.vec x := rfl
@[simp] theorem State.mode_modCmp : (s.modCmp u k f).mode = s.mode := rfl
@[simp] theorem State.clocked_modCmp : (s.modCmp u k f).clocked = s.clocked := rfl
end

section
variable (k : Nat) (i : Inst)
@[simp] theorem State.rd_setInst (x : Nat) : (s.setInst k i).rd x = s.rd x := rfl
@[simp] theorem State.getF_setInst (x : Nat) (fl : Fld) : (s.setInst k i).getF x fl = s.getF x fl := rfl
@[simp] theorem State.isSet_setInst (x : Nat) (fl : Fld) : (s.setInst k i).isSet x fl = s.isSet x fl := rfl
@[simp] theorem State.rd64_setInst (x : Nat) : (s.setInst k i).rd64 x = s.rd64 x := rfl
@[simp] theorem State.pair_setInst (x : Nat) : (s.setInst k i).pair x = s.pair x := rfl
@[simp] theorem State.sramN_setInst (x m : Nat) : (s.setInst k i).sramN x m = s.sramN x m := rfl
@[simp] theorem State.fe_setInst (x : Nat) : (s.setInst k i).fe x = s.fe x := rfl
@[simp] theorem State.cmp_setInst (x y : Nat) : (s.setInst k i).cmp x y = s.cmp x y := rfl
@[simp] theorem State.adc_setInst (x : Nat) : (s.setInst k i).adc x = s.adc x := rfl
@[simp] theorem State.eng_setInst (x : Nat) : (s.setInst k i).eng x = s.eng x := rfl
@[simp] theorem State.mic_setInst (x : Nat) : (s.setInst k i).mic x = s.mic x := rfl
@[simp] theorem State.ctx_setInst (x y : Nat) : (s.setInst k i).ctx x y = s.ctx x y := rfl
@[simp] theorem State.flGroup_setInst (x y : Nat) : (s.setInst k i).flGroup x y = s.flGroup x y := rfl
@[simp] theorem State.tdc_setInst (x : Nat) : (s.setInst k i).tdc x = s.tdc x := rfl
@[simp] theorem State.tim_setInst (x : Nat) : (s.setInst k i).tim x = s.tim x := rfl
@[simp] theorem State.job_setInst (x y : Nat) : (s.setInst k i).job x y = s.job x y := rfl
@[simp] theorem State.trig_setInst (x : Nat) : (s.setInst k i).trig x = s.trig x := rfl
@[simp] theorem State.rot_setInst (x : Nat) : (s.setInst k i).rot x = s.rot x := rfl
@[simp] theorem State.tile_setInst (x : Nat) : (s.setInst k i).tile x = s.tile x := rfl
@[simp] theorem State.port_setInst (x : Nat) : (s.setInst k i).port x = s.port x := rfl
@[simp] theorem State.src_setInst (x : Nat) : (s.setInst k i).src x = s.src x := rfl
@[simp] theorem State.vec_setInst (x : Nat) : (s.setInst k i).vec x = s.vec x := rfl
@[simp] theorem State.mode_setInst : (s.setInst k i).mode = s.mode := rfl
@[simp] theorem State.clocked_setInst : (s.setInst k i).clocked = s.clocked := rfl
end

section
variable (u : Nat) (f : Adc → Adc)
@[simp] theorem State.rd_modAdc (x : Nat) : (s.modAdc u f).rd x = s.rd x := rfl
@[simp] theorem State.getF_modAdc (x : Nat) (fl : Fld) : (s.modAdc u f).getF x fl = s.getF x fl := rfl
@[simp] theorem State.isSet_modAdc (x : Nat) (fl : Fld) : (s.modAdc u f).isSet x fl = s.isSet x fl := rfl
@[simp] theorem State.rd64_modAdc (x : Nat) : (s.modAdc u f).rd64 x = s.rd64 x := rfl
@[simp] theorem State.pair_modAdc (x : Nat) : (s.modAdc u f).pair x = s.pair x := rfl
@[simp] theorem State.sramN_modAdc (x m : Nat) : (s.modAdc u f).sramN x m = s.sramN x m := rfl
@[simp] theorem State.fe_modAdc (x : Nat) : (s.modAdc u f).fe x = s.fe x := rfl
@[simp] theorem State.cmp_modAdc (x y : Nat) : (s.modAdc u f).cmp x y = s.cmp x y := rfl
@[simp] theorem State.inst_modAdc (x : Nat) : (s.modAdc u f).inst x = s.inst x := rfl
@[simp] theorem State.eng_modAdc (x : Nat) : (s.modAdc u f).eng x = s.eng x := rfl
@[simp] theorem State.mic_modAdc (x : Nat) : (s.modAdc u f).mic x = s.mic x := rfl
@[simp] theorem State.ctx_modAdc (x y : Nat) : (s.modAdc u f).ctx x y = s.ctx x y := rfl
@[simp] theorem State.flGroup_modAdc (x y : Nat) : (s.modAdc u f).flGroup x y = s.flGroup x y := rfl
@[simp] theorem State.tdc_modAdc (x : Nat) : (s.modAdc u f).tdc x = s.tdc x := rfl
@[simp] theorem State.tim_modAdc (x : Nat) : (s.modAdc u f).tim x = s.tim x := rfl
@[simp] theorem State.job_modAdc (x y : Nat) : (s.modAdc u f).job x y = s.job x y := rfl
@[simp] theorem State.trig_modAdc (x : Nat) : (s.modAdc u f).trig x = s.trig x := rfl
@[simp] theorem State.rot_modAdc (x : Nat) : (s.modAdc u f).rot x = s.rot x := rfl
@[simp] theorem State.tile_modAdc (x : Nat) : (s.modAdc u f).tile x = s.tile x := rfl
@[simp] theorem State.port_modAdc (x : Nat) : (s.modAdc u f).port x = s.port x := rfl
@[simp] theorem State.src_modAdc (x : Nat) : (s.modAdc u f).src x = s.src x := rfl
@[simp] theorem State.vec_modAdc (x : Nat) : (s.modAdc u f).vec x = s.vec x := rfl
@[simp] theorem State.mode_modAdc : (s.modAdc u f).mode = s.mode := rfl
@[simp] theorem State.clocked_modAdc : (s.modAdc u f).clocked = s.clocked := rfl
end

section
variable (c : Nat) (f : Eng → Eng)
@[simp] theorem State.rd_modEng (x : Nat) : (s.modEng c f).rd x = s.rd x := rfl
@[simp] theorem State.getF_modEng (x : Nat) (fl : Fld) : (s.modEng c f).getF x fl = s.getF x fl := rfl
@[simp] theorem State.isSet_modEng (x : Nat) (fl : Fld) : (s.modEng c f).isSet x fl = s.isSet x fl := rfl
@[simp] theorem State.rd64_modEng (x : Nat) : (s.modEng c f).rd64 x = s.rd64 x := rfl
@[simp] theorem State.pair_modEng (x : Nat) : (s.modEng c f).pair x = s.pair x := rfl
@[simp] theorem State.sramN_modEng (x m : Nat) : (s.modEng c f).sramN x m = s.sramN x m := rfl
@[simp] theorem State.fe_modEng (x : Nat) : (s.modEng c f).fe x = s.fe x := rfl
@[simp] theorem State.cmp_modEng (x y : Nat) : (s.modEng c f).cmp x y = s.cmp x y := rfl
@[simp] theorem State.inst_modEng (x : Nat) : (s.modEng c f).inst x = s.inst x := rfl
@[simp] theorem State.adc_modEng (x : Nat) : (s.modEng c f).adc x = s.adc x := rfl
@[simp] theorem State.mic_modEng (x : Nat) : (s.modEng c f).mic x = s.mic x := rfl
@[simp] theorem State.ctx_modEng (x y : Nat) : (s.modEng c f).ctx x y = s.ctx x y := rfl
@[simp] theorem State.flGroup_modEng (x y : Nat) : (s.modEng c f).flGroup x y = s.flGroup x y := rfl
@[simp] theorem State.tdc_modEng (x : Nat) : (s.modEng c f).tdc x = s.tdc x := rfl
@[simp] theorem State.tim_modEng (x : Nat) : (s.modEng c f).tim x = s.tim x := rfl
@[simp] theorem State.job_modEng (x y : Nat) : (s.modEng c f).job x y = s.job x y := rfl
@[simp] theorem State.trig_modEng (x : Nat) : (s.modEng c f).trig x = s.trig x := rfl
@[simp] theorem State.rot_modEng (x : Nat) : (s.modEng c f).rot x = s.rot x := rfl
@[simp] theorem State.tile_modEng (x : Nat) : (s.modEng c f).tile x = s.tile x := rfl
@[simp] theorem State.port_modEng (x : Nat) : (s.modEng c f).port x = s.port x := rfl
@[simp] theorem State.src_modEng (x : Nat) : (s.modEng c f).src x = s.src x := rfl
@[simp] theorem State.vec_modEng (x : Nat) : (s.modEng c f).vec x = s.vec x := rfl
@[simp] theorem State.mode_modEng : (s.modEng c f).mode = s.mode := rfl
@[simp] theorem State.clocked_modEng : (s.modEng c f).clocked = s.clocked := rfl
end

section
variable (c : Nat) (f : Mic → Mic)
@[simp] theorem State.rd_modMic (x : Nat) : (s.modMic c f).rd x = s.rd x := rfl
@[simp] theorem State.getF_modMic (x : Nat) (fl : Fld) : (s.modMic c f).getF x fl = s.getF x fl := rfl
@[simp] theorem State.isSet_modMic (x : Nat) (fl : Fld) : (s.modMic c f).isSet x fl = s.isSet x fl := rfl
@[simp] theorem State.rd64_modMic (x : Nat) : (s.modMic c f).rd64 x = s.rd64 x := rfl
@[simp] theorem State.pair_modMic (x : Nat) : (s.modMic c f).pair x = s.pair x := rfl
@[simp] theorem State.sramN_modMic (x m : Nat) : (s.modMic c f).sramN x m = s.sramN x m := rfl
@[simp] theorem State.fe_modMic (x : Nat) : (s.modMic c f).fe x = s.fe x := rfl
@[simp] theorem State.cmp_modMic (x y : Nat) : (s.modMic c f).cmp x y = s.cmp x y := rfl
@[simp] theorem State.inst_modMic (x : Nat) : (s.modMic c f).inst x = s.inst x := rfl
@[simp] theorem State.adc_modMic (x : Nat) : (s.modMic c f).adc x = s.adc x := rfl
@[simp] theorem State.eng_modMic (x : Nat) : (s.modMic c f).eng x = s.eng x := rfl
@[simp] theorem State.ctx_modMic (x y : Nat) : (s.modMic c f).ctx x y = s.ctx x y := rfl
@[simp] theorem State.flGroup_modMic (x y : Nat) : (s.modMic c f).flGroup x y = s.flGroup x y := rfl
@[simp] theorem State.tdc_modMic (x : Nat) : (s.modMic c f).tdc x = s.tdc x := rfl
@[simp] theorem State.tim_modMic (x : Nat) : (s.modMic c f).tim x = s.tim x := rfl
@[simp] theorem State.job_modMic (x y : Nat) : (s.modMic c f).job x y = s.job x y := rfl
@[simp] theorem State.trig_modMic (x : Nat) : (s.modMic c f).trig x = s.trig x := rfl
@[simp] theorem State.rot_modMic (x : Nat) : (s.modMic c f).rot x = s.rot x := rfl
@[simp] theorem State.tile_modMic (x : Nat) : (s.modMic c f).tile x = s.tile x := rfl
@[simp] theorem State.port_modMic (x : Nat) : (s.modMic c f).port x = s.port x := rfl
@[simp] theorem State.src_modMic (x : Nat) : (s.modMic c f).src x = s.src x := rfl
@[simp] theorem State.vec_modMic (x : Nat) : (s.modMic c f).vec x = s.vec x := rfl
@[simp] theorem State.mode_modMic : (s.modMic c f).mode = s.mode := rfl
@[simp] theorem State.clocked_modMic : (s.modMic c f).clocked = s.clocked := rfl
end

section
variable (t x : Nat) (f : Ctx → Ctx)
@[simp] theorem State.rd_modCtx (x : Nat) : (s.modCtx t x f).rd x = s.rd x := rfl
@[simp] theorem State.getF_modCtx (x : Nat) (fl : Fld) : (s.modCtx t x f).getF x fl = s.getF x fl := rfl
@[simp] theorem State.isSet_modCtx (x : Nat) (fl : Fld) : (s.modCtx t x f).isSet x fl = s.isSet x fl := rfl
@[simp] theorem State.rd64_modCtx (x : Nat) : (s.modCtx t x f).rd64 x = s.rd64 x := rfl
@[simp] theorem State.pair_modCtx (x : Nat) : (s.modCtx t x f).pair x = s.pair x := rfl
@[simp] theorem State.sramN_modCtx (x m : Nat) : (s.modCtx t x f).sramN x m = s.sramN x m := rfl
@[simp] theorem State.fe_modCtx (x : Nat) : (s.modCtx t x f).fe x = s.fe x := rfl
@[simp] theorem State.cmp_modCtx (x y : Nat) : (s.modCtx t x f).cmp x y = s.cmp x y := rfl
@[simp] theorem State.inst_modCtx (x : Nat) : (s.modCtx t x f).inst x = s.inst x := rfl
@[simp] theorem State.adc_modCtx (x : Nat) : (s.modCtx t x f).adc x = s.adc x := rfl
@[simp] theorem State.eng_modCtx (x : Nat) : (s.modCtx t x f).eng x = s.eng x := rfl
@[simp] theorem State.mic_modCtx (x : Nat) : (s.modCtx t x f).mic x = s.mic x := rfl
@[simp] theorem State.flGroup_modCtx (x y : Nat) : (s.modCtx t x f).flGroup x y = s.flGroup x y := rfl
@[simp] theorem State.tdc_modCtx (x : Nat) : (s.modCtx t x f).tdc x = s.tdc x := rfl
@[simp] theorem State.tim_modCtx (x : Nat) : (s.modCtx t x f).tim x = s.tim x := rfl
@[simp] theorem State.job_modCtx (x y : Nat) : (s.modCtx t x f).job x y = s.job x y := rfl
@[simp] theorem State.trig_modCtx (x : Nat) : (s.modCtx t x f).trig x = s.trig x := rfl
@[simp] theorem State.rot_modCtx (x : Nat) : (s.modCtx t x f).rot x = s.rot x := rfl
@[simp] theorem State.tile_modCtx (x : Nat) : (s.modCtx t x f).tile x = s.tile x := rfl
@[simp] theorem State.port_modCtx (x : Nat) : (s.modCtx t x f).port x = s.port x := rfl
@[simp] theorem State.src_modCtx (x : Nat) : (s.modCtx t x f).src x = s.src x := rfl
@[simp] theorem State.vec_modCtx (x : Nat) : (s.modCtx t x f).vec x = s.vec x := rfl
@[simp] theorem State.mode_modCtx : (s.modCtx t x f).mode = s.mode := rfl
@[simp] theorem State.clocked_modCtx : (s.modCtx t x f).clocked = s.clocked := rfl
end

section
variable (t g : Nat) (f : FlGroup → FlGroup)
@[simp] theorem State.rd_modFlGroup (x : Nat) : (s.modFlGroup t g f).rd x = s.rd x := rfl
@[simp] theorem State.getF_modFlGroup (x : Nat) (fl : Fld) : (s.modFlGroup t g f).getF x fl = s.getF x fl := rfl
@[simp] theorem State.isSet_modFlGroup (x : Nat) (fl : Fld) : (s.modFlGroup t g f).isSet x fl = s.isSet x fl := rfl
@[simp] theorem State.rd64_modFlGroup (x : Nat) : (s.modFlGroup t g f).rd64 x = s.rd64 x := rfl
@[simp] theorem State.pair_modFlGroup (x : Nat) : (s.modFlGroup t g f).pair x = s.pair x := rfl
@[simp] theorem State.sramN_modFlGroup (x m : Nat) : (s.modFlGroup t g f).sramN x m = s.sramN x m := rfl
@[simp] theorem State.fe_modFlGroup (x : Nat) : (s.modFlGroup t g f).fe x = s.fe x := rfl
@[simp] theorem State.cmp_modFlGroup (x y : Nat) : (s.modFlGroup t g f).cmp x y = s.cmp x y := rfl
@[simp] theorem State.inst_modFlGroup (x : Nat) : (s.modFlGroup t g f).inst x = s.inst x := rfl
@[simp] theorem State.adc_modFlGroup (x : Nat) : (s.modFlGroup t g f).adc x = s.adc x := rfl
@[simp] theorem State.eng_modFlGroup (x : Nat) : (s.modFlGroup t g f).eng x = s.eng x := rfl
@[simp] theorem State.mic_modFlGroup (x : Nat) : (s.modFlGroup t g f).mic x = s.mic x := rfl
@[simp] theorem State.ctx_modFlGroup (x y : Nat) : (s.modFlGroup t g f).ctx x y = s.ctx x y := rfl
@[simp] theorem State.tdc_modFlGroup (x : Nat) : (s.modFlGroup t g f).tdc x = s.tdc x := rfl
@[simp] theorem State.tim_modFlGroup (x : Nat) : (s.modFlGroup t g f).tim x = s.tim x := rfl
@[simp] theorem State.job_modFlGroup (x y : Nat) : (s.modFlGroup t g f).job x y = s.job x y := rfl
@[simp] theorem State.trig_modFlGroup (x : Nat) : (s.modFlGroup t g f).trig x = s.trig x := rfl
@[simp] theorem State.rot_modFlGroup (x : Nat) : (s.modFlGroup t g f).rot x = s.rot x := rfl
@[simp] theorem State.tile_modFlGroup (x : Nat) : (s.modFlGroup t g f).tile x = s.tile x := rfl
@[simp] theorem State.port_modFlGroup (x : Nat) : (s.modFlGroup t g f).port x = s.port x := rfl
@[simp] theorem State.src_modFlGroup (x : Nat) : (s.modFlGroup t g f).src x = s.src x := rfl
@[simp] theorem State.vec_modFlGroup (x : Nat) : (s.modFlGroup t g f).vec x = s.vec x := rfl
@[simp] theorem State.mode_modFlGroup : (s.modFlGroup t g f).mode = s.mode := rfl
@[simp] theorem State.clocked_modFlGroup : (s.modFlGroup t g f).clocked = s.clocked := rfl
end

section
variable (u : Nat) (f : Tdc → Tdc)
@[simp] theorem State.rd_modTdc (x : Nat) : (s.modTdc u f).rd x = s.rd x := rfl
@[simp] theorem State.getF_modTdc (x : Nat) (fl : Fld) : (s.modTdc u f).getF x fl = s.getF x fl := rfl
@[simp] theorem State.isSet_modTdc (x : Nat) (fl : Fld) : (s.modTdc u f).isSet x fl = s.isSet x fl := rfl
@[simp] theorem State.rd64_modTdc (x : Nat) : (s.modTdc u f).rd64 x = s.rd64 x := rfl
@[simp] theorem State.pair_modTdc (x : Nat) : (s.modTdc u f).pair x = s.pair x := rfl
@[simp] theorem State.sramN_modTdc (x m : Nat) : (s.modTdc u f).sramN x m = s.sramN x m := rfl
@[simp] theorem State.fe_modTdc (x : Nat) : (s.modTdc u f).fe x = s.fe x := rfl
@[simp] theorem State.cmp_modTdc (x y : Nat) : (s.modTdc u f).cmp x y = s.cmp x y := rfl
@[simp] theorem State.inst_modTdc (x : Nat) : (s.modTdc u f).inst x = s.inst x := rfl
@[simp] theorem State.adc_modTdc (x : Nat) : (s.modTdc u f).adc x = s.adc x := rfl
@[simp] theorem State.eng_modTdc (x : Nat) : (s.modTdc u f).eng x = s.eng x := rfl
@[simp] theorem State.mic_modTdc (x : Nat) : (s.modTdc u f).mic x = s.mic x := rfl
@[simp] theorem State.ctx_modTdc (x y : Nat) : (s.modTdc u f).ctx x y = s.ctx x y := rfl
@[simp] theorem State.flGroup_modTdc (x y : Nat) : (s.modTdc u f).flGroup x y = s.flGroup x y := rfl
@[simp] theorem State.tim_modTdc (x : Nat) : (s.modTdc u f).tim x = s.tim x := rfl
@[simp] theorem State.job_modTdc (x y : Nat) : (s.modTdc u f).job x y = s.job x y := rfl
@[simp] theorem State.trig_modTdc (x : Nat) : (s.modTdc u f).trig x = s.trig x := rfl
@[simp] theorem State.rot_modTdc (x : Nat) : (s.modTdc u f).rot x = s.rot x := rfl
@[simp] theorem State.tile_modTdc (x : Nat) : (s.modTdc u f).tile x = s.tile x := rfl
@[simp] theorem State.port_modTdc (x : Nat) : (s.modTdc u f).port x = s.port x := rfl
@[simp] theorem State.src_modTdc (x : Nat) : (s.modTdc u f).src x = s.src x := rfl
@[simp] theorem State.vec_modTdc (x : Nat) : (s.modTdc u f).vec x = s.vec x := rfl
@[simp] theorem State.mode_modTdc : (s.modTdc u f).mode = s.mode := rfl
@[simp] theorem State.clocked_modTdc : (s.modTdc u f).clocked = s.clocked := rfl
end

section
variable (t n : Nat) (j : Option Job)
@[simp] theorem State.rd_setJob (x : Nat) : (s.setJob t n j).rd x = s.rd x := rfl
@[simp] theorem State.getF_setJob (x : Nat) (fl : Fld) : (s.setJob t n j).getF x fl = s.getF x fl := rfl
@[simp] theorem State.isSet_setJob (x : Nat) (fl : Fld) : (s.setJob t n j).isSet x fl = s.isSet x fl := rfl
@[simp] theorem State.rd64_setJob (x : Nat) : (s.setJob t n j).rd64 x = s.rd64 x := rfl
@[simp] theorem State.pair_setJob (x : Nat) : (s.setJob t n j).pair x = s.pair x := rfl
@[simp] theorem State.sramN_setJob (x m : Nat) : (s.setJob t n j).sramN x m = s.sramN x m := rfl
@[simp] theorem State.fe_setJob (x : Nat) : (s.setJob t n j).fe x = s.fe x := rfl
@[simp] theorem State.cmp_setJob (x y : Nat) : (s.setJob t n j).cmp x y = s.cmp x y := rfl
@[simp] theorem State.inst_setJob (x : Nat) : (s.setJob t n j).inst x = s.inst x := rfl
@[simp] theorem State.adc_setJob (x : Nat) : (s.setJob t n j).adc x = s.adc x := rfl
@[simp] theorem State.eng_setJob (x : Nat) : (s.setJob t n j).eng x = s.eng x := rfl
@[simp] theorem State.mic_setJob (x : Nat) : (s.setJob t n j).mic x = s.mic x := rfl
@[simp] theorem State.ctx_setJob (x y : Nat) : (s.setJob t n j).ctx x y = s.ctx x y := rfl
@[simp] theorem State.flGroup_setJob (x y : Nat) : (s.setJob t n j).flGroup x y = s.flGroup x y := rfl
@[simp] theorem State.tdc_setJob (x : Nat) : (s.setJob t n j).tdc x = s.tdc x := rfl
@[simp] theorem State.tim_setJob (x : Nat) : (s.setJob t n j).tim x = s.tim x := rfl
@[simp] theorem State.trig_setJob (x : Nat) : (s.setJob t n j).trig x = s.trig x := rfl
@[simp] theorem State.rot_setJob (x : Nat) : (s.setJob t n j).rot x = s.rot x := rfl
@[simp] theorem State.tile_setJob (x : Nat) : (s.setJob t n j).tile x = s.tile x := rfl
@[simp] theorem State.port_setJob (x : Nat) : (s.setJob t n j).port x = s.port x := rfl
@[simp] theorem State.src_setJob (x : Nat) : (s.setJob t n j).src x = s.src x := rfl
@[simp] theorem State.vec_setJob (x : Nat) : (s.setJob t n j).vec x = s.vec x := rfl
@[simp] theorem State.mode_setJob : (s.setJob t n j).mode = s.mode := rfl
@[simp] theorem State.clocked_setJob : (s.setJob t n j).clocked = s.clocked := rfl
end

section
variable (t : Nat) (f : Trig → Trig)
@[simp] theorem State.rd_modTrig (x : Nat) : (s.modTrig t f).rd x = s.rd x := rfl
@[simp] theorem State.getF_modTrig (x : Nat) (fl : Fld) : (s.modTrig t f).getF x fl = s.getF x fl := rfl
@[simp] theorem State.isSet_modTrig (x : Nat) (fl : Fld) : (s.modTrig t f).isSet x fl = s.isSet x fl := rfl
@[simp] theorem State.rd64_modTrig (x : Nat) : (s.modTrig t f).rd64 x = s.rd64 x := rfl
@[simp] theorem State.pair_modTrig (x : Nat) : (s.modTrig t f).pair x = s.pair x := rfl
@[simp] theorem State.sramN_modTrig (x m : Nat) : (s.modTrig t f).sramN x m = s.sramN x m := rfl
@[simp] theorem State.fe_modTrig (x : Nat) : (s.modTrig t f).fe x = s.fe x := rfl
@[simp] theorem State.cmp_modTrig (x y : Nat) : (s.modTrig t f).cmp x y = s.cmp x y := rfl
@[simp] theorem State.inst_modTrig (x : Nat) : (s.modTrig t f).inst x = s.inst x := rfl
@[simp] theorem State.adc_modTrig (x : Nat) : (s.modTrig t f).adc x = s.adc x := rfl
@[simp] theorem State.eng_modTrig (x : Nat) : (s.modTrig t f).eng x = s.eng x := rfl
@[simp] theorem State.mic_modTrig (x : Nat) : (s.modTrig t f).mic x = s.mic x := rfl
@[simp] theorem State.ctx_modTrig (x y : Nat) : (s.modTrig t f).ctx x y = s.ctx x y := rfl
@[simp] theorem State.flGroup_modTrig (x y : Nat) : (s.modTrig t f).flGroup x y = s.flGroup x y := rfl
@[simp] theorem State.tdc_modTrig (x : Nat) : (s.modTrig t f).tdc x = s.tdc x := rfl
@[simp] theorem State.tim_modTrig (x : Nat) : (s.modTrig t f).tim x = s.tim x := rfl
@[simp] theorem State.job_modTrig (x y : Nat) : (s.modTrig t f).job x y = s.job x y := rfl
@[simp] theorem State.rot_modTrig (x : Nat) : (s.modTrig t f).rot x = s.rot x := rfl
@[simp] theorem State.tile_modTrig (x : Nat) : (s.modTrig t f).tile x = s.tile x := rfl
@[simp] theorem State.port_modTrig (x : Nat) : (s.modTrig t f).port x = s.port x := rfl
@[simp] theorem State.src_modTrig (x : Nat) : (s.modTrig t f).src x = s.src x := rfl
@[simp] theorem State.vec_modTrig (x : Nat) : (s.modTrig t f).vec x = s.vec x := rfl
@[simp] theorem State.mode_modTrig : (s.modTrig t f).mode = s.mode := rfl
@[simp] theorem State.clocked_modTrig : (s.modTrig t f).clocked = s.clocked := rfl
end

section
variable (n : Nat) (r : Rot)
@[simp] theorem State.rd_setRot (x : Nat) : (s.setRot n r).rd x = s.rd x := rfl
@[simp] theorem State.getF_setRot (x : Nat) (fl : Fld) : (s.setRot n r).getF x fl = s.getF x fl := rfl
@[simp] theorem State.isSet_setRot (x : Nat) (fl : Fld) : (s.setRot n r).isSet x fl = s.isSet x fl := rfl
@[simp] theorem State.rd64_setRot (x : Nat) : (s.setRot n r).rd64 x = s.rd64 x := rfl
@[simp] theorem State.pair_setRot (x : Nat) : (s.setRot n r).pair x = s.pair x := rfl
@[simp] theorem State.sramN_setRot (x m : Nat) : (s.setRot n r).sramN x m = s.sramN x m := rfl
@[simp] theorem State.fe_setRot (x : Nat) : (s.setRot n r).fe x = s.fe x := rfl
@[simp] theorem State.cmp_setRot (x y : Nat) : (s.setRot n r).cmp x y = s.cmp x y := rfl
@[simp] theorem State.inst_setRot (x : Nat) : (s.setRot n r).inst x = s.inst x := rfl
@[simp] theorem State.adc_setRot (x : Nat) : (s.setRot n r).adc x = s.adc x := rfl
@[simp] theorem State.eng_setRot (x : Nat) : (s.setRot n r).eng x = s.eng x := rfl
@[simp] theorem State.mic_setRot (x : Nat) : (s.setRot n r).mic x = s.mic x := rfl
@[simp] theorem State.ctx_setRot (x y : Nat) : (s.setRot n r).ctx x y = s.ctx x y := rfl
@[simp] theorem State.flGroup_setRot (x y : Nat) : (s.setRot n r).flGroup x y = s.flGroup x y := rfl
@[simp] theorem State.tdc_setRot (x : Nat) : (s.setRot n r).tdc x = s.tdc x := rfl
@[simp] theorem State.tim_setRot (x : Nat) : (s.setRot n r).tim x = s.tim x := rfl
@[simp] theorem State.job_setRot (x y : Nat) : (s.setRot n r).job x y = s.job x y := rfl
@[simp] theorem State.trig_setRot (x : Nat) : (s.setRot n r).trig x = s.trig x := rfl
@[simp] theorem State.tile_setRot (x : Nat) : (s.setRot n r).tile x = s.tile x := rfl
@[simp] theorem State.port_setRot (x : Nat) : (s.setRot n r).port x = s.port x := rfl
@[simp] theorem State.src_setRot (x : Nat) : (s.setRot n r).src x = s.src x := rfl
@[simp] theorem State.vec_setRot (x : Nat) : (s.setRot n r).vec x = s.vec x := rfl
@[simp] theorem State.mode_setRot : (s.setRot n r).mode = s.mode := rfl
@[simp] theorem State.clocked_setRot : (s.setRot n r).clocked = s.clocked := rfl
end

section
variable (t : Nat) (f : Tile → Tile)
@[simp] theorem State.rd_modTile (x : Nat) : (s.modTile t f).rd x = s.rd x := rfl
@[simp] theorem State.getF_modTile (x : Nat) (fl : Fld) : (s.modTile t f).getF x fl = s.getF x fl := rfl
@[simp] theorem State.isSet_modTile (x : Nat) (fl : Fld) : (s.modTile t f).isSet x fl = s.isSet x fl := rfl
@[simp] theorem State.rd64_modTile (x : Nat) : (s.modTile t f).rd64 x = s.rd64 x := rfl
@[simp] theorem State.pair_modTile (x : Nat) : (s.modTile t f).pair x = s.pair x := rfl
@[simp] theorem State.sramN_modTile (x m : Nat) : (s.modTile t f).sramN x m = s.sramN x m := rfl
@[simp] theorem State.fe_modTile (x : Nat) : (s.modTile t f).fe x = s.fe x := rfl
@[simp] theorem State.cmp_modTile (x y : Nat) : (s.modTile t f).cmp x y = s.cmp x y := rfl
@[simp] theorem State.inst_modTile (x : Nat) : (s.modTile t f).inst x = s.inst x := rfl
@[simp] theorem State.adc_modTile (x : Nat) : (s.modTile t f).adc x = s.adc x := rfl
@[simp] theorem State.eng_modTile (x : Nat) : (s.modTile t f).eng x = s.eng x := rfl
@[simp] theorem State.mic_modTile (x : Nat) : (s.modTile t f).mic x = s.mic x := rfl
@[simp] theorem State.ctx_modTile (x y : Nat) : (s.modTile t f).ctx x y = s.ctx x y := rfl
@[simp] theorem State.flGroup_modTile (x y : Nat) : (s.modTile t f).flGroup x y = s.flGroup x y := rfl
@[simp] theorem State.tdc_modTile (x : Nat) : (s.modTile t f).tdc x = s.tdc x := rfl
@[simp] theorem State.tim_modTile (x : Nat) : (s.modTile t f).tim x = s.tim x := rfl
@[simp] theorem State.job_modTile (x y : Nat) : (s.modTile t f).job x y = s.job x y := rfl
@[simp] theorem State.trig_modTile (x : Nat) : (s.modTile t f).trig x = s.trig x := rfl
@[simp] theorem State.rot_modTile (x : Nat) : (s.modTile t f).rot x = s.rot x := rfl
@[simp] theorem State.port_modTile (x : Nat) : (s.modTile t f).port x = s.port x := rfl
@[simp] theorem State.src_modTile (x : Nat) : (s.modTile t f).src x = s.src x := rfl
@[simp] theorem State.vec_modTile (x : Nat) : (s.modTile t f).vec x = s.vec x := rfl
@[simp] theorem State.mode_modTile : (s.modTile t f).mode = s.mode := rfl
@[simp] theorem State.clocked_modTile : (s.modTile t f).clocked = s.clocked := rfl
end

section
variable (p : Nat) (f : Port → Port)
@[simp] theorem State.rd_modPort (x : Nat) : (s.modPort p f).rd x = s.rd x := rfl
@[simp] theorem State.getF_modPort (x : Nat) (fl : Fld) : (s.modPort p f).getF x fl = s.getF x fl := rfl
@[simp] theorem State.isSet_modPort (x : Nat) (fl : Fld) : (s.modPort p f).isSet x fl = s.isSet x fl := rfl
@[simp] theorem State.rd64_modPort (x : Nat) : (s.modPort p f).rd64 x = s.rd64 x := rfl
@[simp] theorem State.pair_modPort (x : Nat) : (s.modPort p f).pair x = s.pair x := rfl
@[simp] theorem State.sramN_modPort (x m : Nat) : (s.modPort p f).sramN x m = s.sramN x m := rfl
@[simp] theorem State.fe_modPort (x : Nat) : (s.modPort p f).fe x = s.fe x := rfl
@[simp] theorem State.cmp_modPort (x y : Nat) : (s.modPort p f).cmp x y = s.cmp x y := rfl
@[simp] theorem State.inst_modPort (x : Nat) : (s.modPort p f).inst x = s.inst x := rfl
@[simp] theorem State.adc_modPort (x : Nat) : (s.modPort p f).adc x = s.adc x := rfl
@[simp] theorem State.eng_modPort (x : Nat) : (s.modPort p f).eng x = s.eng x := rfl
@[simp] theorem State.mic_modPort (x : Nat) : (s.modPort p f).mic x = s.mic x := rfl
@[simp] theorem State.ctx_modPort (x y : Nat) : (s.modPort p f).ctx x y = s.ctx x y := rfl
@[simp] theorem State.flGroup_modPort (x y : Nat) : (s.modPort p f).flGroup x y = s.flGroup x y := rfl
@[simp] theorem State.tdc_modPort (x : Nat) : (s.modPort p f).tdc x = s.tdc x := rfl
@[simp] theorem State.tim_modPort (x : Nat) : (s.modPort p f).tim x = s.tim x := rfl
@[simp] theorem State.job_modPort (x y : Nat) : (s.modPort p f).job x y = s.job x y := rfl
@[simp] theorem State.trig_modPort (x : Nat) : (s.modPort p f).trig x = s.trig x := rfl
@[simp] theorem State.rot_modPort (x : Nat) : (s.modPort p f).rot x = s.rot x := rfl
@[simp] theorem State.tile_modPort (x : Nat) : (s.modPort p f).tile x = s.tile x := rfl
@[simp] theorem State.src_modPort (x : Nat) : (s.modPort p f).src x = s.src x := rfl
@[simp] theorem State.vec_modPort (x : Nat) : (s.modPort p f).vec x = s.vec x := rfl
@[simp] theorem State.mode_modPort : (s.modPort p f).mode = s.mode := rfl
@[simp] theorem State.clocked_modPort : (s.modPort p f).clocked = s.clocked := rfl
end

section
variable (n : Nat) (f : Src → Src)
@[simp] theorem State.rd_modSrc (x : Nat) : (s.modSrc n f).rd x = s.rd x := rfl
@[simp] theorem State.getF_modSrc (x : Nat) (fl : Fld) : (s.modSrc n f).getF x fl = s.getF x fl := rfl
@[simp] theorem State.isSet_modSrc (x : Nat) (fl : Fld) : (s.modSrc n f).isSet x fl = s.isSet x fl := rfl
@[simp] theorem State.rd64_modSrc (x : Nat) : (s.modSrc n f).rd64 x = s.rd64 x := rfl
@[simp] theorem State.pair_modSrc (x : Nat) : (s.modSrc n f).pair x = s.pair x := rfl
@[simp] theorem State.sramN_modSrc (x m : Nat) : (s.modSrc n f).sramN x m = s.sramN x m := rfl
@[simp] theorem State.fe_modSrc (x : Nat) : (s.modSrc n f).fe x = s.fe x := rfl
@[simp] theorem State.cmp_modSrc (x y : Nat) : (s.modSrc n f).cmp x y = s.cmp x y := rfl
@[simp] theorem State.inst_modSrc (x : Nat) : (s.modSrc n f).inst x = s.inst x := rfl
@[simp] theorem State.adc_modSrc (x : Nat) : (s.modSrc n f).adc x = s.adc x := rfl
@[simp] theorem State.eng_modSrc (x : Nat) : (s.modSrc n f).eng x = s.eng x := rfl
@[simp] theorem State.mic_modSrc (x : Nat) : (s.modSrc n f).mic x = s.mic x := rfl
@[simp] theorem State.ctx_modSrc (x y : Nat) : (s.modSrc n f).ctx x y = s.ctx x y := rfl
@[simp] theorem State.flGroup_modSrc (x y : Nat) : (s.modSrc n f).flGroup x y = s.flGroup x y := rfl
@[simp] theorem State.tdc_modSrc (x : Nat) : (s.modSrc n f).tdc x = s.tdc x := rfl
@[simp] theorem State.tim_modSrc (x : Nat) : (s.modSrc n f).tim x = s.tim x := rfl
@[simp] theorem State.job_modSrc (x y : Nat) : (s.modSrc n f).job x y = s.job x y := rfl
@[simp] theorem State.trig_modSrc (x : Nat) : (s.modSrc n f).trig x = s.trig x := rfl
@[simp] theorem State.rot_modSrc (x : Nat) : (s.modSrc n f).rot x = s.rot x := rfl
@[simp] theorem State.tile_modSrc (x : Nat) : (s.modSrc n f).tile x = s.tile x := rfl
@[simp] theorem State.port_modSrc (x : Nat) : (s.modSrc n f).port x = s.port x := rfl
@[simp] theorem State.vec_modSrc (x : Nat) : (s.modSrc n f).vec x = s.vec x := rfl
@[simp] theorem State.mode_modSrc : (s.modSrc n f).mode = s.mode := rfl
@[simp] theorem State.clocked_modSrc : (s.modSrc n f).clocked = s.clocked := rfl
end

section
variable (v : Nat) (f : Vecr → Vecr)
@[simp] theorem State.rd_modVec (x : Nat) : (s.modVec v f).rd x = s.rd x := rfl
@[simp] theorem State.getF_modVec (x : Nat) (fl : Fld) : (s.modVec v f).getF x fl = s.getF x fl := rfl
@[simp] theorem State.isSet_modVec (x : Nat) (fl : Fld) : (s.modVec v f).isSet x fl = s.isSet x fl := rfl
@[simp] theorem State.rd64_modVec (x : Nat) : (s.modVec v f).rd64 x = s.rd64 x := rfl
@[simp] theorem State.pair_modVec (x : Nat) : (s.modVec v f).pair x = s.pair x := rfl
@[simp] theorem State.sramN_modVec (x m : Nat) : (s.modVec v f).sramN x m = s.sramN x m := rfl
@[simp] theorem State.fe_modVec (x : Nat) : (s.modVec v f).fe x = s.fe x := rfl
@[simp] theorem State.cmp_modVec (x y : Nat) : (s.modVec v f).cmp x y = s.cmp x y := rfl
@[simp] theorem State.inst_modVec (x : Nat) : (s.modVec v f).inst x = s.inst x := rfl
@[simp] theorem State.adc_modVec (x : Nat) : (s.modVec v f).adc x = s.adc x := rfl
@[simp] theorem State.eng_modVec (x : Nat) : (s.modVec v f).eng x = s.eng x := rfl
@[simp] theorem State.mic_modVec (x : Nat) : (s.modVec v f).mic x = s.mic x := rfl
@[simp] theorem State.ctx_modVec (x y : Nat) : (s.modVec v f).ctx x y = s.ctx x y := rfl
@[simp] theorem State.flGroup_modVec (x y : Nat) : (s.modVec v f).flGroup x y = s.flGroup x y := rfl
@[simp] theorem State.tdc_modVec (x : Nat) : (s.modVec v f).tdc x = s.tdc x := rfl
@[simp] theorem State.tim_modVec (x : Nat) : (s.modVec v f).tim x = s.tim x := rfl
@[simp] theorem State.job_modVec (x y : Nat) : (s.modVec v f).job x y = s.job x y := rfl
@[simp] theorem State.trig_modVec (x : Nat) : (s.modVec v f).trig x = s.trig x := rfl
@[simp] theorem State.rot_modVec (x : Nat) : (s.modVec v f).rot x = s.rot x := rfl
@[simp] theorem State.tile_modVec (x : Nat) : (s.modVec v f).tile x = s.tile x := rfl
@[simp] theorem State.port_modVec (x : Nat) : (s.modVec v f).port x = s.port x := rfl
@[simp] theorem State.src_modVec (x : Nat) : (s.modVec v f).src x = s.src x := rfl
@[simp] theorem State.mode_modVec : (s.modVec v f).mode = s.mode := rfl
@[simp] theorem State.clocked_modVec : (s.modVec v f).clocked = s.clocked := rfl
end

section
variable (p : Cmd → Bool) (f : Cmd → Cmd)
@[simp] theorem State.rd_mapCmds (x : Nat) : (s.mapCmds p f).rd x = s.rd x := rfl
@[simp] theorem State.getF_mapCmds (x : Nat) (fl : Fld) : (s.mapCmds p f).getF x fl = s.getF x fl := rfl
@[simp] theorem State.isSet_mapCmds (x : Nat) (fl : Fld) : (s.mapCmds p f).isSet x fl = s.isSet x fl := rfl
@[simp] theorem State.rd64_mapCmds (x : Nat) : (s.mapCmds p f).rd64 x = s.rd64 x := rfl
@[simp] theorem State.pair_mapCmds (x : Nat) : (s.mapCmds p f).pair x = s.pair x := rfl
@[simp] theorem State.sramN_mapCmds (x m : Nat) : (s.mapCmds p f).sramN x m = s.sramN x m := rfl
@[simp] theorem State.fe_mapCmds (x : Nat) : (s.mapCmds p f).fe x = s.fe x := rfl
@[simp] theorem State.cmp_mapCmds (x y : Nat) : (s.mapCmds p f).cmp x y = s.cmp x y := rfl
@[simp] theorem State.inst_mapCmds (x : Nat) : (s.mapCmds p f).inst x = s.inst x := rfl
@[simp] theorem State.adc_mapCmds (x : Nat) : (s.mapCmds p f).adc x = s.adc x := rfl
@[simp] theorem State.eng_mapCmds (x : Nat) : (s.mapCmds p f).eng x = s.eng x := rfl
@[simp] theorem State.mic_mapCmds (x : Nat) : (s.mapCmds p f).mic x = s.mic x := rfl
@[simp] theorem State.ctx_mapCmds (x y : Nat) : (s.mapCmds p f).ctx x y = s.ctx x y := rfl
@[simp] theorem State.flGroup_mapCmds (x y : Nat) : (s.mapCmds p f).flGroup x y = s.flGroup x y := rfl
@[simp] theorem State.tdc_mapCmds (x : Nat) : (s.mapCmds p f).tdc x = s.tdc x := rfl
@[simp] theorem State.tim_mapCmds (x : Nat) : (s.mapCmds p f).tim x = s.tim x := rfl
@[simp] theorem State.job_mapCmds (x y : Nat) : (s.mapCmds p f).job x y = s.job x y := rfl
@[simp] theorem State.trig_mapCmds (x : Nat) : (s.mapCmds p f).trig x = s.trig x := rfl
@[simp] theorem State.rot_mapCmds (x : Nat) : (s.mapCmds p f).rot x = s.rot x := rfl
@[simp] theorem State.tile_mapCmds (x : Nat) : (s.mapCmds p f).tile x = s.tile x := rfl
@[simp] theorem State.port_mapCmds (x : Nat) : (s.mapCmds p f).port x = s.port x := rfl
@[simp] theorem State.src_mapCmds (x : Nat) : (s.mapCmds p f).src x = s.src x := rfl
@[simp] theorem State.vec_mapCmds (x : Nat) : (s.mapCmds p f).vec x = s.vec x := rfl
@[simp] theorem State.mode_mapCmds : (s.mapCmds p f).mode = s.mode := rfl
@[simp] theorem State.clocked_mapCmds : (s.mapCmds p f).clocked = s.clocked := rfl
end

section
variable (p : Cmd → Bool) (f : Cmd → Cmd)
@[simp] theorem State.rd_stopCmds (x : Nat) : (s.stopCmds p f).rd x = s.rd x := rfl
@[simp] theorem State.getF_stopCmds (x : Nat) (fl : Fld) : (s.stopCmds p f).getF x fl = s.getF x fl := rfl
@[simp] theorem State.isSet_stopCmds (x : Nat) (fl : Fld) : (s.stopCmds p f).isSet x fl = s.isSet x fl := rfl
@[simp] theorem State.rd64_stopCmds (x : Nat) : (s.stopCmds p f).rd64 x = s.rd64 x := rfl
@[simp] theorem State.pair_stopCmds (x : Nat) : (s.stopCmds p f).pair x = s.pair x := rfl
@[simp] theorem State.sramN_stopCmds (x m : Nat) : (s.stopCmds p f).sramN x m = s.sramN x m := rfl
@[simp] theorem State.fe_stopCmds (x : Nat) : (s.stopCmds p f).fe x = s.fe x := rfl
@[simp] theorem State.cmp_stopCmds (x y : Nat) : (s.stopCmds p f).cmp x y = s.cmp x y := rfl
@[simp] theorem State.inst_stopCmds (x : Nat) : (s.stopCmds p f).inst x = s.inst x := rfl
@[simp] theorem State.adc_stopCmds (x : Nat) : (s.stopCmds p f).adc x = s.adc x := rfl
@[simp] theorem State.eng_stopCmds (x : Nat) : (s.stopCmds p f).eng x = s.eng x := rfl
@[simp] theorem State.mic_stopCmds (x : Nat) : (s.stopCmds p f).mic x = s.mic x := rfl
@[simp] theorem State.ctx_stopCmds (x y : Nat) : (s.stopCmds p f).ctx x y = s.ctx x y := rfl
@[simp] theorem State.flGroup_stopCmds (x y : Nat) : (s.stopCmds p f).flGroup x y = s.flGroup x y := rfl
@[simp] theorem State.tdc_stopCmds (x : Nat) : (s.stopCmds p f).tdc x = s.tdc x := rfl
@[simp] theorem State.tim_stopCmds (x : Nat) : (s.stopCmds p f).tim x = s.tim x := rfl
@[simp] theorem State.job_stopCmds (x y : Nat) : (s.stopCmds p f).job x y = s.job x y := rfl
@[simp] theorem State.trig_stopCmds (x : Nat) : (s.stopCmds p f).trig x = s.trig x := rfl
@[simp] theorem State.rot_stopCmds (x : Nat) : (s.stopCmds p f).rot x = s.rot x := rfl
@[simp] theorem State.tile_stopCmds (x : Nat) : (s.stopCmds p f).tile x = s.tile x := rfl
@[simp] theorem State.port_stopCmds (x : Nat) : (s.stopCmds p f).port x = s.port x := rfl
@[simp] theorem State.src_stopCmds (x : Nat) : (s.stopCmds p f).src x = s.src x := rfl
@[simp] theorem State.vec_stopCmds (x : Nat) : (s.stopCmds p f).vec x = s.vec x := rfl
@[simp] theorem State.mode_stopCmds : (s.stopCmds p f).mode = s.mode := rfl
@[simp] theorem State.clocked_stopCmds : (s.stopCmds p f).clocked = s.clocked := rfl
end

/-! ### What a read gives after an update -/

theorem State.rd_wr (a b : Nat) (w : Word) : (s.wr a w).rd b = if a = b then w else s.rd b := tabGet_tabSet _ _ _ _ _

@[simp] theorem State.rd_wr_self (a : Nat) (w : Word) : (s.wr a w).rd a = w := tabGet_tabSet_self _ _ _ _

theorem State.rd_wr_ne {a b : Nat} (h : a ≠ b) (w : Word) : (s.wr a w).rd b = s.rd b := tabGet_tabSet_ne _ _ _ h

theorem State.rd_setF (b x : Nat) (f : Fld) (v : Nat) :
    (s.setF b f v).rd x = if b + f.off = x then f.put (s.rd (b + f.off)) v else s.rd x := s.rd_wr _ _ _

theorem State.rd_setF_ne {b x : Nat} {f : Fld} (h : b + f.off ≠ x) (v : Nat) : (s.setF b f v).rd x = s.rd x := s.rd_wr_ne h _

theorem State.getF_wr_ne {a x : Nat} {g : Fld} (h : a ≠ x + g.off) (w : Word) : (s.wr a w).getF x g = s.getF x g :=
  congrArg g.get (s.rd_wr_ne h w)

theorem State.getF_setF_ne {b x : Nat} {f g : Fld} (h : b + f.off ≠ x + g.off) (v : Nat) : (s.setF b f v).getF x g = s.getF x g :=
  congrArg g.get (s.rd_setF_ne h v)

theorem Fld.testBit_mask (f : Fld) (i : Nat) : f.mask.getLsbD i = (decide (i < 32) && decide (f.lo ≤ i) && decide (i ≤ f.hi)) := by
  unfold Fld.mask
  simp only [BitVec.getLsbD_ofNat, Nat.testBit_shiftLeft, Nat.testBit_two_pow_sub_one]
  by_cases h : i < 32 <;> by_cases h2 : f.lo ≤ i <;> simp [h, h2]
  omega

theorem Fld.getLsbD_put (f : Fld) (w : Word) (v i : Nat) :
    (f.put w v).getLsbD i = if f.lo ≤ i ∧ i ≤ f.hi ∧ i < 32 then v.testBit (i - f.lo) else w.getLsbD i := by
  unfold Fld.put
  simp only [BitVec.getLsbD_or, BitVec.getLsbD_and, BitVec.getLsbD_not, Fld.testBit_mask, BitVec.getLsbD_ofNat, Nat.testBit_shiftLeft]
  by_cases h : i < 32 <;> by_cases h2 : f.lo ≤ i <;> by_cases h3 : i ≤ f.hi <;> simp [h, h2, h3]
  all_goals exact BitVec.getLsbD_of_ge _ _ (by omega)

theorem Fld.testBit_get (f : Fld) (w : Word) (i : Nat) : (f.get w).testBit i = (decide (i < f.hi + 1 - f.lo) && w.getLsbD (i + f.lo)) := by
  unfold Fld.get bits
  rw [Nat.testBit_mod_two_pow, Nat.testBit_shiftRight, Nat.add_comm f.lo i]; rfl

/-- A field put into a word reads back, cut to its width. -/
theorem Fld.get_put (f : Fld) (h : f.hi < 32) (w : Word) (v : Nat) : f.get (f.put w v) = v % 2 ^ (f.hi + 1 - f.lo) := by
  refine Nat.eq_of_testBit_eq fun i => ?_
  rw [Fld.testBit_get, Fld.getLsbD_put, Nat.testBit_mod_two_pow]
  by_cases hi : i < f.hi + 1 - f.lo
  · rw [if_pos ⟨by omega, by omega, by omega⟩, Nat.add_sub_cancel]
  · simp [hi]

/-- Other bits of the word stand. -/
theorem Fld.get_put_disj (f g : Fld) (h : g.hi < f.lo ∨ f.hi < g.lo) (w : Word) (v : Nat) : g.get (f.put w v) = g.get w := by
  refine Nat.eq_of_testBit_eq fun i => ?_
  rw [Fld.testBit_get, Fld.testBit_get, Fld.getLsbD_put]
  by_cases hi : i < g.hi + 1 - g.lo
  · rw [if_neg (by omega)]
  · simp [hi]

/-- A field set reads as set, cut to its width. -/
theorem State.getF_setF_self (b : Nat) (f : Fld) (v : Nat) (h : f.hi < 32) : (s.setF b f v).getF b f = v % 2 ^ (f.hi + 1 - f.lo) := by
  unfold State.getF State.setF; rw [State.rd_wr_self, Fld.get_put f h]

/-- Other fields of the register stand. -/
theorem State.getF_setF_disj (b : Nat) (f g : Fld) (v : Nat) (e : f.off = g.off) (h : g.hi < f.lo ∨ f.hi < g.lo) :
    (s.setF b f v).getF b g = s.getF b g := by
  unfold State.getF State.setF; rw [← e, State.rd_wr_self, Fld.get_put_disj f g h]

@[simp] theorem State.setFs_nil (b : Nat) : s.setFs b [] = s := rfl
@[simp] theorem State.setFs_cons (b : Nat) (f : Fld) (v : Nat) (l : List (Fld × Nat)) : s.setFs b ((f, v) :: l) = (s.setF b f v).setFs b l := rfl

theorem State.fe_modFe (u v : Nat) (f : Fe → Fe) : (s.modFe u f).fe v = if u = v then f (s.fe u) else s.fe v := tabGet_tabSet _ _ _ _ _
@[simp] theorem State.fe_modFe_self (u : Nat) (f : Fe → Fe) : (s.modFe u f).fe u = f (s.fe u) := tabGet_tabSet_self _ _ _ _
theorem State.adc_modAdc (u v : Nat) (f : Adc → Adc) : (s.modAdc u f).adc v = if u = v then f (s.adc u) else s.adc v := tabGet_tabSet _ _ _ _ _
@[simp] theorem State.adc_modAdc_self (u : Nat) (f : Adc → Adc) : (s.modAdc u f).adc u = f (s.adc u) := tabGet_tabSet_self _ _ _ _
theorem State.eng_modEng (u v : Nat) (f : Eng → Eng) : (s.modEng u f).eng v = if u = v then f (s.eng u) else s.eng v := tabGet_tabSet _ _ _ _ _
@[simp] theorem State.eng_modEng_self (u : Nat) (f : Eng → Eng) : (s.modEng u f).eng u = f (s.eng u) := tabGet_tabSet_self _ _ _ _
theorem State.mic_modMic (u v : Nat) (f : Mic → Mic) : (s.modMic u f).mic v = if u = v then f (s.mic u) else s.mic v := tabGet_tabSet _ _ _ _ _
@[simp] theorem State.mic_modMic_self (u : Nat) (f : Mic → Mic) : (s.modMic u f).mic u = f (s.mic u) := tabGet_tabSet_self _ _ _ _
theorem State.tdc_modTdc (u v : Nat) (f : Tdc → Tdc) : (s.modTdc u f).tdc v = if u = v then f (s.tdc u) else s.tdc v := tabGet_tabSet _ _ _ _ _
@[simp] theorem State.tdc_modTdc_self (u : Nat) (f : Tdc → Tdc) : (s.modTdc u f).tdc u = f (s.tdc u) := tabGet_tabSet_self _ _ _ _
theorem State.trig_modTrig (u v : Nat) (f : Trig → Trig) : (s.modTrig u f).trig v = if u = v then f (s.trig u) else s.trig v := tabGet_tabSet _ _ _ _ _
@[simp] theorem State.trig_modTrig_self (u : Nat) (f : Trig → Trig) : (s.modTrig u f).trig u = f (s.trig u) := tabGet_tabSet_self _ _ _ _
theorem State.tile_modTile (u v : Nat) (f : Tile → Tile) : (s.modTile u f).tile v = if u = v then f (s.tile u) else s.tile v := tabGet_tabSet _ _ _ _ _
@[simp] theorem State.tile_modTile_self (u : Nat) (f : Tile → Tile) : (s.modTile u f).tile u = f (s.tile u) := tabGet_tabSet_self _ _ _ _
theorem State.port_modPort (u v : Nat) (f : Port → Port) : (s.modPort u f).port v = if u = v then f (s.port u) else s.port v := tabGet_tabSet _ _ _ _ _
@[simp] theorem State.port_modPort_self (u : Nat) (f : Port → Port) : (s.modPort u f).port u = f (s.port u) := tabGet_tabSet_self _ _ _ _
theorem State.src_modSrc (u v : Nat) (f : Src → Src) : (s.modSrc u f).src v = if u = v then f (s.src u) else s.src v := tabGet_tabSet _ _ _ _ _
theorem State.vec_modVec (u v : Nat) (f : Vecr → Vecr) : (s.modVec u f).vec v = if u = v then f (s.vec u) else s.vec v := tabGet_tabSet _ _ _ _ _
theorem State.inst_setInst (u v : Nat) (i : Inst) : (s.setInst u i).inst v = if u = v then i else s.inst v := tabGet_tabSet _ _ _ _ _
@[simp] theorem State.inst_setInst_self (u : Nat) (i : Inst) : (s.setInst u i).inst u = i := tabGet_tabSet_self _ _ _ _
theorem State.rot_setRot (u v : Nat) (r : Rot) : (s.setRot u r).rot v = if u = v then r else s.rot v := tabGet_tabSet _ _ _ _ _
@[simp] theorem State.rot_setRot_self (u : Nat) (r : Rot) : (s.setRot u r).rot u = r := tabGet_tabSet_self _ _ _ _
theorem State.cmp_modCmp_self (u k : Nat) (f : Cmp → Cmp) : (s.modCmp u k f).cmp u k = f (s.cmp u k) := tabGet_tabSet_self _ _ _ _
theorem State.ctx_modCtx_self (t x : Nat) (f : Ctx → Ctx) : (s.modCtx t x f).ctx t x = f (s.ctx t x) := tabGet_tabSet_self _ _ _ _
theorem State.job_setJob_self (t n : Nat) (j : Option Job) : (s.setJob t n j).job t n = j := tabGet_tabSet_self _ _ _ _
theorem State.pair_setPair_self (a v : Nat) : (s.setPair a v).pair a = v := tabGet_tabSet_self _ _ _ _

end Sys2Proof.Machine
end

