-- ==== Sys2Proof/Laws/Settle.lean ====
section
/-! SUPPORT. What settling (log entry 55) can do: it leaves every register outside `follows`, every memory and the parts named below as
they were. -/

namespace Sys2Proof.Machine

/-- Command c' differs from c in how it stands alone: what it waits for, how it ends. -/
structure Cmd.Like (c' c : Cmd) : Prop where
  sq : c'.sq = c.sq
  tag : c'.tag = c.tag
  op : c'.op = c.op
  words : c'.words = c.words
  chans : c'.chans = c.chans
  vanish : c'.vanish = c.vanish
  admitted : c'.admitted = c.admitted
  started : c'.started = c.started

theorem Cmd.Same.like {c d e : Cmd} (g : Cmd.Same c d) (h : e.Like d) (hn : d.ending = none) : Cmd.Same c e :=
  ⟨h.sq.trans g.sq, h.tag.trans g.tag, h.op.trans g.op, h.words.trans g.words, h.chans.trans g.chans, h.vanish.trans g.vanish,
    h.admitted.trans g.admitted, h.started.trans g.started, fun he => absurd (g.ended he ▸ hn) he⟩

theorem Cmd.unawait_like (u : Nat) (c : Cmd) : (c.unawait u).Like c := by
  unfold Cmd.unawait
  dsimp only
  split
  · split <;> exact ⟨rfl, rfl, rfl, rfl, rfl, rfl, rfl, rfl⟩
  · exact ⟨rfl, rfl, rfl, rfl, rfl, rfl, rfl, rfl⟩

/-- t is s after some of what follows a command in the same moment. -/
structure State.Settles (s t : State) : Prop where
  rd : ∀ a, follows a = false → t.rd a = s.rd a
  cmds : ∀ c ∈ s.cmds, c.vanish = false ∨ c.ending ≠ none → ∃ c' ∈ t.cmds, c.Same c'
  sram : t.sram = s.sram
  flash : t.flash = s.flash
  host : t.host = s.host
  uptime : t.uptime = s.uptime
  tb : t.tb = s.tb
  div : t.div = s.div
  free : t.free = s.free
  cmps : t.cmps = s.cmps
  intakes : t.intakes = s.intakes
  insts : t.insts = s.insts
  lastCls : t.lastCls = s.lastCls
  bbStage : t.bbStage = s.bbStage
  ctxs : t.ctxs = s.ctxs
  flGroups : t.flGroups = s.flGroups
  tdcs : t.tdcs = s.tdcs
  jobs : t.jobs = s.jobs
  trigs : t.trigs = s.trigs
  rots : t.rots = s.rots
  tiles : t.tiles = s.tiles
  anchor : t.anchor = s.anchor
  calSet : t.calSet = s.calSet
  calAt : t.calAt = s.calAt
  calBack : t.calBack = s.calBack
  svcEntry : t.svcEntry = s.svcEntry
  svcExit : t.svcExit = s.svcExit
  armLine : t.armLine = s.armLine
  pulses : t.pulses = s.pulses
  syncArmed : t.syncArmed = s.syncArmed
  pairs : t.pairs = s.pairs
  timing : t.timing = s.timing
  timingNew : t.timingNew = s.timingNew
  mics : t.mics = s.mics
  cs : t.cs = s.cs
  svnRaised : t.svnRaised = s.svnRaised
  stagedUnits : t.stagedUnits = s.stagedUnits
  stagedTiles : t.stagedTiles = s.stagedTiles
  stagedXfer : t.stagedXfer = s.stagedXfer
  commitPend : t.commitPend = s.commitPend
  commitCmds : t.commitCmds = s.commitCmds
  archNow : t.archNow = s.archNow
  archNext : t.archNext = s.archNext
  calDirty : t.calDirty = s.calDirty
  rotAt : t.rotAt = s.rotAt
  tests : t.tests = s.tests
  inReset : t.inReset = s.inReset
  off : t.off = s.off
  rails : t.rails = s.rails
  tapIr : t.tapIr = s.tapIr
  unlocked : t.unlocked = s.unlocked
  dwFailed : t.dwFailed = s.dwFailed
  spa : t.spa = s.spa
  spaMode : t.spaMode = s.spaMode
  round : t.round = s.round
  good : t.good = s.good
  newBroken : t.newBroken = s.newBroken
  spbOut : t.spbOut = s.spbOut
  diagOut : t.diagOut = s.diagOut
  reads : t.reads = s.reads
  fetched : t.fetched = s.fetched
  arbLast : t.arbLast = s.arbLast
  arbLeft : t.arbLeft = s.arbLeft
  vecLast : t.vecLast = s.vecLast
  latched : t.latched = s.latched
  pending : t.pending = s.pending

namespace State.Settles

theorem refl (s : State) : s.Settles s where
  rd _ _ := rfl
  cmds c h _ := ⟨c, h, rfl, rfl, rfl, rfl, rfl, rfl, rfl, rfl, fun _ => rfl⟩
  sram := rfl
  flash := rfl
  host := rfl
  uptime := rfl
  tb := rfl
  div := rfl
  free := rfl
  cmps := rfl
  intakes := rfl
  insts := rfl
  lastCls := rfl
  bbStage := rfl
  ctxs := rfl
  flGroups := rfl
  tdcs := rfl
  jobs := rfl
  trigs := rfl
  rots := rfl
  tiles := rfl
  anchor := rfl
  calSet := rfl
  calAt := rfl
  calBack := rfl
  svcEntry := rfl
  svcExit := rfl
  armLine := rfl
  pulses := rfl
  syncArmed := rfl
  pairs := rfl
  timing := rfl
  timingNew := rfl
  mics := rfl
  cs := rfl
  svnRaised := rfl
  stagedUnits := rfl
  stagedTiles := rfl
  stagedXfer := rfl
  commitPend := rfl
  commitCmds := rfl
  archNow := rfl
  archNext := rfl
  calDirty := rfl
  rotAt := rfl
  tests := rfl
  inReset := rfl
  off := rfl
  rails := rfl
  tapIr := rfl
  unlocked := rfl
  dwFailed := rfl
  spa := rfl
  spaMode := rfl
  round := rfl
  good := rfl
  newBroken := rfl
  spbOut := rfl
  diagOut := rfl
  reads := rfl
  fetched := rfl
  arbLast := rfl
  arbLeft := rfl
  vecLast := rfl
  latched := rfl
  pending := rfl

variable {s₀ z : State}

theorem set_regs (h : s₀.Settles z) {x : List (Nat × Word)} (hx : ∀ a, follows a = false → tabGet resetWord x a = z.rd a) :
    s₀.Settles { z with regs := x } :=
  { h with rd := fun a ha => (hx a ha).trans (h.rd a ha) }

theorem wr (h : s₀.Settles z) (a : Nat) (w : Word) (ha : follows a = true) : s₀.Settles (z.wr a w) :=
  h.set_regs fun x hx => z.rd_wr_ne (fun e => by rw [e, hx] at ha; cases ha) w

theorem setF (h : s₀.Settles z) (b : Nat) (f : Fld) (v : Nat) (ha : follows (b + f.off) = true) : s₀.Settles (z.setF b f v) := h.wr _ _ ha

theorem modFe (h : s₀.Settles z) (u : Nat) (f : Fe → Fe) : s₀.Settles (z.modFe u f) := { h with }
theorem modAdc (h : s₀.Settles z) (u : Nat) (f : Adc → Adc) : s₀.Settles (z.modAdc u f) := { h with }
theorem modEng (h : s₀.Settles z) (u : Nat) (f : Eng → Eng) : s₀.Settles (z.modEng u f) := { h with }
theorem modPort (h : s₀.Settles z) (u : Nat) (f : Port → Port) : s₀.Settles (z.modPort u f) := { h with }
theorem modSrc (h : s₀.Settles z) (u : Nat) (f : Src → Src) : s₀.Settles (z.modSrc u f) := { h with }
theorem modVec (h : s₀.Settles z) (u : Nat) (f : Vecr → Vecr) : s₀.Settles (z.modVec u f) := { h with }
theorem set_charges (h : s₀.Settles z) {x : List (Nat × Nat)} : s₀.Settles { z with charges := x } := { h with }
theorem set_own (h : s₀.Settles z) {x : List (Option Nat × Tp)} : s₀.Settles { z with own := x } := { h with }

theorem mapCmds (h : s₀.Settles z) (p : Cmd → Bool) (f : Cmd → Cmd)
    (hf : ∀ c, (f c).Like c) : s₀.Settles (z.mapCmds p f) :=
  { h with
    cmds := fun c hc hv => by
      obtain ⟨c', hm, g⟩ := h.cmds c hc hv
      refine ⟨if c'.ending = none ∧ p c' then f c' else c', List.mem_map.2 ⟨c', hm, rfl⟩, ?_⟩
      split
      · exact g.like (hf c') ‹_ ∧ _›.1
      · exact g }

theorem stopCmds (h : s₀.Settles z) (p : Cmd → Bool) (f : Cmd → Cmd)
    (hf : ∀ c, (f c).Like c) : s₀.Settles (z.stopCmds p f) :=
  { h with
    cmds := fun c hc hv => by
      obtain ⟨c', hm, g⟩ := h.cmds c hc hv
      by_cases hn : c'.ending = none ∧ p c'
      · have hv' : (f c').vanish = false := by
          rw [(hf c').vanish, g.vanish]
          exact hv.resolve_right fun he => he (g.ended he ▸ hn.1)
        exact ⟨f c', List.mem_filterMap.2 ⟨c', hm, by simp [hn.1, hn.2, hv']⟩, g.like (hf c') hn.1⟩
      · exact ⟨c', List.mem_filterMap.2 ⟨c', hm, if_neg hn⟩, g⟩ }

theorem foldl {α : Type} {f : State → α → State} (l : List α) (h : s₀.Settles z) (hf : ∀ s a, s₀.Settles s → s₀.Settles (f s a)) :
    s₀.Settles (l.foldl f z) := by
  induction l generalizing z with
  | nil => exact h
  | cons a l ih => exact ih (hf z a h)

theorem ite {c : Prop} [Decidable c] {a b : State} (ha : c → s₀.Settles a) (hb : ¬ c → s₀.Settles b) : s₀.Settles (if c then a else b) := by
  split
  · exact ha ‹_›
  · exact hb ‹_›

end State.Settles

/-! ### Addresses -/

theorem feB_follows (u : Nat) {o : Nat} (h : o < 0x800)
    (ho : o = 0 ∨ o = 4 ∨ o = 0x14 ∨ o = 0x40 ∨ o = 0x104 ∨ o = 0x110) : follows (feB u + o) = true := by
  unfold follows feB chB shB tileBase
  rw [decide_eq_true_eq]
  right; right; right; right; right
  split <;> omega

theorem smap_follows {n : Nat} (h : n < 4096) : follows (4 * n + 0x201000) = true := by
  unfold follows; rw [decide_eq_true_eq]; omega

theorem vecTgt_follows {v : Nat} (h : v < 512) : follows (8 * v + 0x205004) = true := by
  unfold follows; rw [decide_eq_true_eq]; omega

theorem eng_follows {c : Nat} (h : c < 1024) : follows (4 * c + 0x21000) = true := by
  unfold follows; rw [decide_eq_true_eq]; omega

theorem gov_follows {c : Nat} (h : c < 1024) : follows (0x10 * (c / 128) + 0x500048) = true := by
  unfold follows; rw [decide_eq_true_eq]; omega

/-! ### The steps of settling -/

variable {s₀ z : State}

theorem State.Settles.fe (h : s₀.Settles z) (u : Nat) (f : Fld) (v : Nat)
    (ho : f.off = 0 ∨ f.off = 4 ∨ f.off = 0x14 ∨ f.off = 0x40 ∨ f.off = 0x104 ∨ f.off = 0x110) : s₀.Settles (z.setF (feB u) f v) :=
  h.setF _ _ _ (feB_follows u (by omega) ho)

theorem State.Settles.sineKill (h : s₀.Settles z) (u : Nat) : s₀.Settles (z.sineKill u) :=
  ((h.fe u _ _ (by decide)).fe u _ _ (by decide)).modFe _ _

theorem State.Settles.sineHold (h : s₀.Settles z) (u : Nat) : s₀.Settles (z.sineHold u) :=
  State.Settles.sineKill (.ite (fun _ => h.fe u _ _ (by decide)) fun _ => h) u

theorem State.Settles.markConv (h : s₀.Settles z) (u : Nat) (a b : Bool) : s₀.Settles (z.markConv u a b) := h.modAdc _ _

theorem State.Settles.beginStep1 (h : s₀.Settles z) (u : Nat) (k : SeqKind) : s₀.Settles (z.beginStep1 u k) :=
  State.Settles.markConv (((h.sineHold u).fe u CHN_FE_STATUS.SEQ_STEP 1 (by decide)).modFe u _) u _ _

theorem State.Settles.loadClamps (h : s₀.Settles z) (u : Nat) : s₀.Settles (z.loadClamps u) := by
  unfold State.loadClamps
  exact h.modFe u _

theorem State.Settles.loadSetting (h : s₀.Settles z) (u : Nat) : s₀.Settles (z.loadSetting u) := by
  unfold State.loadSetting
  extract_lets m old s
  have g : s₀.Settles s := (h.loadClamps _).modFe _ _
  exact .ite (fun _ => g.modEng _ _) fun _ => g

theorem State.Settles.contactLeave (h : s₀.Settles z) (u : Nat) : s₀.Settles (z.contactLeave u) := by
  unfold State.contactLeave
  split
  · exact h
  · have g := (h.wr (feB u) ‹Contact›.savedCfg (feB_follows u (o := 0) (by decide) (by decide))).modFe u fun f => { f with contact := none }
    exact .ite (fun _ => .ite (fun _ => g) fun _ => g.beginStep1 _ _) fun _ => g.loadSetting _

theorem State.Settles.settleContacts (h : s₀.Settles z) : s₀.Settles z.settleContacts := by
  refine .foldl _ h fun s e g => ?_
  split
  · exact .ite (fun _ => g) fun _ => g.contactLeave _
  · exact g

theorem State.Settles.raiseTrap (h : s₀.Settles z) {c : Nat} (hc : c < 1024) (k : Nat) : s₀.Settles (z.raiseTrap c k) :=
  h.setF _ _ _ (eng_follows hc)

theorem State.Settles.waitMet (h : s₀.Settles z) {c : Nat} (hc : c < 1024) (k : Nat) : s₀.Settles (z.waitMet c k) := by
  unfold State.waitMet
  split
  · exact .ite (fun _ => (h.modEng _ _).raiseTrap hc _) fun _ => h
  · exact h

theorem State.Settles.setRdy (h : s₀.Settles z) (u : Nat) : s₀.Settles (z.setRdy u) :=
  .ite (fun hu => (h.fe u _ _ (by decide)).waitMet hu _) fun _ => h.fe u _ _ (by decide)

theorem State.Settles.unbusyBy (h : s₀.Settles z) (p : Cmd → Bool) (u : Nat) : s₀.Settles (z.unbusyBy p u) :=
  h.stopCmds _ _ fun c => c.unawait_like u

theorem State.Settles.adcShow (h : s₀.Settles z) (u : Nat) : s₀.Settles (z.adcShow u) :=
  ((h.fe u CHN_ADC_STATUS.PASS _ (by decide)).fe u CHN_ADC_STATUS.BUSY _ (by decide)).fe u CHN_ADC_STATUS.INJ_PEND _ (by decide)

theorem State.Settles.adcEnd (h : s₀.Settles z) (u : Nat) : s₀.Settles (z.adcEnd u) :=
  (((h.modAdc _ _).adcShow _).unbusyBy _ _).unbusyBy _ _

theorem State.Settles.adcAdvance (h : s₀.Settles z) (u : Nat) : s₀.Settles (z.adcAdvance u) :=
  .ite (fun _ => h.adcEnd _) fun _ => .ite (fun _ => (h.modAdc _ _).adcShow _) fun _ => h.modAdc _ _

theorem State.Settles.convStart (h : s₀.Settles z) (c src gain samp entry : Nat) (inj : Option Inj) (dest : Nat) (limen evt last : Bool) :
    s₀.Settles (z.convStart c src gain samp entry inj dest limen evt last) := (h.modAdc _ _).adcShow _

theorem State.Settles.adcSkipAll (h : s₀.Settles z) (c : Nat) : s₀.Settles (z.adcSkipAll c) :=
  .ite (fun _ => ((h.fe c CHN_ADC_CNT.SKIP _ (by decide)).setRdy _).adcEnd _) fun _ => h.fe c CHN_ADC_CNT.SKIP _ (by decide)

theorem State.Settles.adcSearch (h : s₀.Settles z) (c n : Nat) : s₀.Settles (z.adcSearch c n) := by
  induction n generalizing z with
  | zero => exact h
  | succ n ih =>
    rw [State.adcSearch]
    refine .ite (fun _ => h) fun _ => .ite (fun _ => ih ?_) fun _ => ?_
    · have g : s₀.Settles ((z.incSat (feB c) CHN_ADC_CNT.SKIP 1).adcAdvance c) :=
        State.Settles.adcAdvance (h.fe c CHN_ADC_CNT.SKIP _ (by decide)) c
      exact .ite (fun _ => g.setRdy _) fun _ => g
    · exact ((h.fe c CHN_ADC_STATUS.CUR _ (by decide)).convStart ..).unbusyBy _ _

theorem State.Settles.adcRegular (h : s₀.Settles z) (c : Nat) : s₀.Settles (z.adcRegular c) :=
  .ite (fun _ => h.adcSkipAll _) fun _ => h.adcSearch _ _

theorem State.Settles.adcRefillAs (h : s₀.Settles z) (c : Nat) (l : List Inj) : s₀.Settles (z.adcRefillAs c l) := by
  induction l generalizing z with
  | nil => exact h.adcShow _
  | cons i is ih =>
    rw [State.adcRefillAs]
    refine .ite (fun _ => ih ?_) fun _ => h.adcShow _
    split
    · exact (h.modAdc _ _).adcShow _
    · exact ((h.modAdc _ _).adcShow _).mapCmds _ _ fun _ => ⟨rfl, rfl, rfl, rfl, rfl, rfl, rfl, rfl⟩

theorem State.Settles.adcRefill (h : s₀.Settles z) (c : Nat) : s₀.Settles (z.adcRefill c) := h.adcRefillAs c _

theorem State.adcRefillAs_hold (z : State) (c : Nat) (l : List Inj) : ((z.adcRefillAs c l).adc c).hold = (z.adc c).hold := by
  induction l generalizing z with
  | nil => rfl
  | cons i is ih =>
    rw [State.adcRefillAs]
    dsimp only
    split
    · rw [ih]
      have e := congrArg Adc.hold (z.adc_modAdc_self c fun a => { a with inj := a.inj ++ [i], heldInj := is })
      split <;> exact e
    · rfl

theorem State.adcRefill_hold (z : State) (c : Nat) : ((z.adcRefill c).adc c).hold = (z.adc c).hold := z.adcRefillAs_hold c _

theorem State.Settles.adcNext (h : s₀.Settles z) (c : Nat) (b : Bool) (hh : (z.adc c).hold ≠ 3) : s₀.Settles (z.adcNext c b) := by
  unfold State.adcNext
  rw [if_neg hh]
  dsimp only
  split
  · exact h.modAdc _ _
  · split
    · split
      · exact h.modAdc _ _
      · exact ((h.modAdc _ _).convStart ..).adcRefill _
    · split
      · exact ((h.modAdc _ _).convStart ..).adcRefill _
      · exact .ite (fun _ => (h.modAdc _ _).adcRegular _) fun _ => (h.modAdc _ _).adcShow _

theorem State.Settles.kickAll (h : s₀.Settles z) : s₀.Settles z.kickAll := by
  refine .foldl _ h fun s e g => ?_
  refine .ite (fun hc => ?_) fun _ => g
  have hk : s₀.Settles (if (s.adc e.1).heldInj = [] then s else s.adcRefill e.1) := .ite (fun _ => g) fun _ => g.adcRefill _
  have hh : ((if (s.adc e.1).heldInj = [] then s else s.adcRefill e.1).adc e.1).hold = 0 := by
    split
    · exact hc.2.2.1
    · exact (s.adcRefill_hold _).trans hc.2.2.1
  exact .ite (fun _ => hk.adcNext _ _ (by rw [hh]; decide)) fun _ => hk

theorem State.Settles.settleCharge (h : s₀.Settles z) : s₀.Settles z.settleCharge := by
  refine .foldl _ h fun s e g => .ite (fun _ => g) fun hc => .ite (fun _ => g) fun _ => ?_
  unfold State.setCharge
  extract_lets b s'
  have g' : s₀.Settles s' := g.setF _ _ _ (gov_follows (by omega))
  clear_value s'
  exact g'.set_charges

theorem State.Settles.setMode (h : s₀.Settles z) (m : Nat) : s₀.Settles (z.setMode m) :=
  .ite (fun _ => h) fun _ => (h.setF _ _ _ (by decide)).setF _ _ _ (by decide)

theorem State.Settles.settle (h : s₀.Settles z) : s₀.Settles z.settle := .ite (fun _ => h.setMode _) fun _ => h

theorem State.Settles.srcEval (h : s₀.Settles z) {n : Nat} (hn : n < 4096) : s₀.Settles (z.srcEval n) :=
  .ite (fun _ => h) fun _ => .ite (fun _ => (h.modSrc _ _).setF _ _ _ (smap_follows hn)) fun _ => h.modSrc _ _

theorem State.Settles.setVecState (h : s₀.Settles z) {v : Nat} (hv : v < 512) (st : Nat) : s₀.Settles (z.setVecState v st) :=
  h.setF _ _ _ (vecTgt_follows hv)

theorem State.Settles.vecEval (h : s₀.Settles z) {v : Nat} (hv : v < 512) : s₀.Settles (z.vecEval v) := by
  unfold State.vecEval
  extract_lets full s st
  have hs : s₀.Settles s := .ite (fun _ => h.modVec _ _) fun _ => h
  exact .ite (fun _ => .ite (fun _ => hs) fun _ => hs.setVecState hv _) fun _ => .ite (fun _ => hs) fun _ => hs.setVecState hv _

/-- The sources that a register scan finds are sources of R345. -/
theorem State.srcsIn_lt (s : State) (p : Nat → Bool) {n : Nat} (h : n ∈ s.srcsIn p) : n < 4096 := by
  obtain ⟨e, he, rfl⟩ := List.mem_map.1 h
  have := (List.mem_filter.1 he).2
  simp only [Bool.and_eq_true, decide_eq_true_eq] at this
  omega

theorem State.Settles.foldl_mem {α : Type} {f : State → α → State} (l : List α) (h : s₀.Settles z)
    (hf : ∀ s a, a ∈ l → s₀.Settles s → s₀.Settles (f s a)) : s₀.Settles (l.foldl f z) := by
  induction l generalizing z with
  | nil => exact h
  | cons a l ih =>
    exact ih (hf z a List.mem_cons_self h) fun s b hb => hf s b (List.mem_cons_of_mem _ hb)

theorem State.Settles.settleEvents (h : s₀.Settles z) : s₀.Settles z.settleEvents := by
  refine .ite (fun _ => ?_) fun _ => h
  refine .foldl _ (.foldl_mem _ h fun s n hn g => g.srcEval (z.srcsIn_lt _ hn)) fun s e g => .ite (fun hv => g.vecEval hv) fun _ => g

theorem State.Settles.sendTp (h : s₀.Settles z) (p i : Nat) (t : Tp) : s₀.Settles (z.sendTp p i t) := by
  unfold State.sendTp
  dsimp only
  exact .ite (fun _ => (h.modPort _ _).set_own) fun _ => (h.modPort _ _).modPort _ _

theorem State.Settles.pumpPort (h : s₀.Settles z) (p n : Nat) : s₀.Settles (z.pumpPort p n) := by
  induction n generalizing z with
  | zero => exact h
  | succ n ih =>
    rw [State.pumpPort]
    refine .ite (fun _ => ?_) fun _ => h
    split
    · exact ih (h.sendTp _ _ _)
    · exact h

theorem State.Settles.pump (h : s₀.Settles z) : s₀.Settles z.pump :=
  .ite (fun _ => h) fun _ => .foldl _ h fun _ _ g => g.pumpPort _ _

/-- Settling is no more than that. -/
theorem State.settles (s : State) : s.Settles s.settled := (State.Settles.refl s).settleContacts.kickAll.settleCharge.settle.settleEvents.pump

/-! ### What stands through settling -/

theorem State.settled_rd (s : State) {a : Nat} (h : follows a = false) : s.settled.rd a = s.rd a := s.settles.rd a h

theorem State.settled_getF (s : State) {b : Nat} {f : Fld} (h : follows (b + f.off) = false) : s.settled.getF b f = s.getF b f :=
  congrArg f.get (s.settled_rd h)

@[simp] theorem State.settled_sram (s : State) : s.settled.sram = s.sram := s.settles.sram
@[simp] theorem State.settled_flash (s : State) : s.settled.flash = s.flash := s.settles.flash
@[simp] theorem State.settled_host (s : State) : s.settled.host = s.host := s.settles.host
@[simp] theorem State.settled_uptime (s : State) : s.settled.uptime = s.uptime := s.settles.uptime
@[simp] theorem State.settled_div (s : State) : s.settled.div = s.div := s.settles.div
@[simp] theorem State.settled_tb (s : State) : s.settled.tb = s.tb := s.settles.tb
@[simp] theorem State.settled_free (s : State) : s.settled.free = s.free := s.settles.free
@[simp] theorem State.settled_cmps (s : State) : s.settled.cmps = s.cmps := s.settles.cmps
@[simp] theorem State.settled_intakes (s : State) : s.settled.intakes = s.intakes := s.settles.intakes
@[simp] theorem State.settled_insts (s : State) : s.settled.insts = s.insts := s.settles.insts
@[simp] theorem State.settled_lastCls (s : State) : s.settled.lastCls = s.lastCls := s.settles.lastCls
@[simp] theorem State.settled_bbStage (s : State) : s.settled.bbStage = s.bbStage := s.settles.bbStage
@[simp] theorem State.settled_ctxs (s : State) : s.settled.ctxs = s.ctxs := s.settles.ctxs
@[simp] theorem State.settled_flGroups (s : State) : s.settled.flGroups = s.flGroups := s.settles.flGroups
@[simp] theorem State.settled_tdcs (s : State) : s.settled.tdcs = s.tdcs := s.settles.tdcs
@[simp] theorem State.settled_jobs (s : State) : s.settled.jobs = s.jobs := s.settles.jobs
@[simp] theorem State.settled_trigs (s : State) : s.settled.trigs = s.trigs := s.settles.trigs
@[simp] theorem State.settled_rots (s : State) : s.settled.rots = s.rots := s.settles.rots
@[simp] theorem State.settled_tiles (s : State) : s.settled.tiles = s.tiles := s.settles.tiles
@[simp] theorem State.settled_anchor (s : State) : s.settled.anchor = s.anchor := s.settles.anchor
@[simp] theorem State.settled_calSet (s : State) : s.settled.calSet = s.calSet := s.settles.calSet
@[simp] theorem State.settled_calBack (s : State) : s.settled.calBack = s.calBack := s.settles.calBack
@[simp] theorem State.settled_pulses (s : State) : s.settled.pulses = s.pulses := s.settles.pulses
@[simp] theorem State.settled_calAt (s : State) : s.settled.calAt = s.calAt := s.settles.calAt
@[simp] theorem State.settled_svcEntry (s : State) : s.settled.svcEntry = s.svcEntry := s.settles.svcEntry
@[simp] theorem State.settled_svcExit (s : State) : s.settled.svcExit = s.svcExit := s.settles.svcExit
@[simp] theorem State.settled_armLine (s : State) : s.settled.armLine = s.armLine := s.settles.armLine
@[simp] theorem State.settled_syncArmed (s : State) : s.settled.syncArmed = s.syncArmed := s.settles.syncArmed
@[simp] theorem State.settled_pairs (s : State) : s.settled.pairs = s.pairs := s.settles.pairs
@[simp] theorem State.settled_timing (s : State) : s.settled.timing = s.timing := s.settles.timing
@[simp] theorem State.settled_timingNew (s : State) : s.settled.timingNew = s.timingNew := s.settles.timingNew
@[simp] theorem State.settled_mics (s : State) : s.settled.mics = s.mics := s.settles.mics
@[simp] theorem State.settled_cs (s : State) : s.settled.cs = s.cs := s.settles.cs
@[simp] theorem State.settled_svnRaised (s : State) : s.settled.svnRaised = s.svnRaised := s.settles.svnRaised
@[simp] theorem State.settled_stagedUnits (s : State) : s.settled.stagedUnits = s.stagedUnits := s.settles.stagedUnits
@[simp] theorem State.settled_stagedTiles (s : State) : s.settled.stagedTiles = s.stagedTiles := s.settles.stagedTiles
@[simp] theorem State.settled_stagedXfer (s : State) : s.settled.stagedXfer = s.stagedXfer := s.settles.stagedXfer
@[simp] theorem State.settled_commitPend (s : State) : s.settled.commitPend = s.commitPend := s.settles.commitPend
@[simp] theorem State.settled_commitCmds (s : State) : s.settled.commitCmds = s.commitCmds := s.settles.commitCmds
@[simp] theorem State.settled_archNow (s : State) : s.settled.archNow = s.archNow := s.settles.archNow
@[simp] theorem State.settled_archNext (s : State) : s.settled.archNext = s.archNext := s.settles.archNext
@[simp] theorem State.settled_calDirty (s : State) : s.settled.calDirty = s.calDirty := s.settles.calDirty
@[simp] theorem State.settled_rotAt (s : State) : s.settled.rotAt = s.rotAt := s.settles.rotAt
@[simp] theorem State.settled_tests (s : State) : s.settled.tests = s.tests := s.settles.tests
@[simp] theorem State.settled_inReset (s : State) : s.settled.inReset = s.inReset := s.settles.inReset
@[simp] theorem State.settled_off (s : State) : s.settled.off = s.off := s.settles.off
@[simp] theorem State.settled_rails (s : State) : s.settled.rails = s.rails := s.settles.rails
@[simp] theorem State.settled_tapIr (s : State) : s.settled.tapIr = s.tapIr := s.settles.tapIr
@[simp] theorem State.settled_unlocked (s : State) : s.settled.unlocked = s.unlocked := s.settles.unlocked
@[simp] theorem State.settled_dwFailed (s : State) : s.settled.dwFailed = s.dwFailed := s.settles.dwFailed
@[simp] theorem State.settled_spa (s : State) : s.settled.spa = s.spa := s.settles.spa
@[simp] theorem State.settled_spaMode (s : State) : s.settled.spaMode = s.spaMode := s.settles.spaMode
@[simp] theorem State.settled_round (s : State) : s.settled.round = s.round := s.settles.round
@[simp] theorem State.settled_good (s : State) : s.settled.good = s.good := s.settles.good
@[simp] theorem State.settled_newBroken (s : State) : s.settled.newBroken = s.newBroken := s.settles.newBroken
@[simp] theorem State.settled_spbOut (s : State) : s.settled.spbOut = s.spbOut := s.settles.spbOut
@[simp] theorem State.settled_diagOut (s : State) : s.settled.diagOut = s.diagOut := s.settles.diagOut
@[simp] theorem State.settled_reads (s : State) : s.settled.reads = s.reads := s.settles.reads
@[simp] theorem State.settled_fetched (s : State) : s.settled.fetched = s.fetched := s.settles.fetched
@[simp] theorem State.settled_arbLast (s : State) : s.settled.arbLast = s.arbLast := s.settles.arbLast
@[simp] theorem State.settled_arbLeft (s : State) : s.settled.arbLeft = s.arbLeft := s.settles.arbLeft
@[simp] theorem State.settled_vecLast (s : State) : s.settled.vecLast = s.vecLast := s.settles.vecLast
@[simp] theorem State.settled_latched (s : State) : s.settled.latched = s.latched := s.settles.latched
@[simp] theorem State.settled_pending (s : State) : s.settled.pending = s.pending := s.settles.pending

/-- A command that has ended stands as it ended. -/
theorem State.settled_ended {s : State} {c : Cmd} (h : c ∈ s.cmds) (he : c.ending ≠ none) : c ∈ s.settled.cmds := by
  obtain ⟨c', hm, g⟩ := s.settles.cmds c h (.inr he)
  exact g.ended he ▸ hm

end Sys2Proof.Machine
end

