-- ==== Sys2Proof/Laws/Stands.lean ====
section
/-! SUPPORT. What settling leaves as it was in the parts it may touch: front-ends without a contact check, converters at work, engines but
for their hold, ports but for their sending, sources that are not ACTIVE, and GLB_STATUS but for STATE. -/

namespace Sys2Proof.Machine

/-! ### The parts each step may touch -/

/-- t is s but for registers, the hidden parts of front-ends, converters and engines. -/
def State.FeStep (s t : State) : Prop := ∃ r f a e, t = { s with regs := r, fes := f, adcs := a, engs := e }
/-- t is s but for registers, converters, engines and commands. -/
def State.AdcStep (s t : State) : Prop := ∃ r a e c, t = { s with regs := r, adcs := a, engs := e, cmds := c }
/-- t is s but for registers, sources and vectors. -/
def State.EvStep (s t : State) : Prop := ∃ r a v, t = { s with regs := r, srcs := a, vecs := v }
/-- t is s but for ports and packets. -/
def State.TpStep (s t : State) : Prop := ∃ a o, t = { s with ports := a, own := o }

variable {s₀ z : State}

theorem foldl_keeps {α : Type} {R : State → Prop} {f : State → α → State} (l : List α) (h : R z) (hf : ∀ s a, R s → R (f s a)) :
    R (l.foldl f z) := by
  induction l generalizing z with
  | nil => exact h
  | cons a l ih => exact ih (hf z a h)

theorem ite_keeps {R : State → Prop} {c : Prop} [Decidable c] {a b : State} (ha : c → R a) (hb : ¬ c → R b) : R (if c then a else b) := by
  split
  · exact ha ‹_›
  · exact hb ‹_›

theorem State.kick_hold (s : State) (c : Nat) (h : (s.adc c).hold = 0) :
    ((if (s.adc c).heldInj = [] then s else s.adcRefill c).adc c).hold = 0 := by
  split
  · exact h
  · exact (s.adcRefill_hold c).trans h

namespace State.FeStep
theorem refl (s : State) : s.FeStep s := ⟨_, _, _, _, rfl⟩
theorem wr (h : s₀.FeStep z) (a : Nat) (w : Word) : s₀.FeStep (z.wr a w) := by
  obtain ⟨_, _, _, _, rfl⟩ := h; exact ⟨_, _, _, _, rfl⟩
theorem setF (h : s₀.FeStep z) (b : Nat) (f : Fld) (v : Nat) : s₀.FeStep (z.setF b f v) := h.wr _ _
theorem modFe (h : s₀.FeStep z) (u : Nat) (f : Fe → Fe) : s₀.FeStep (z.modFe u f) := by
  obtain ⟨_, _, _, _, rfl⟩ := h; exact ⟨_, _, _, _, rfl⟩
theorem modAdc (h : s₀.FeStep z) (u : Nat) (f : Adc → Adc) : s₀.FeStep (z.modAdc u f) := by
  obtain ⟨_, _, _, _, rfl⟩ := h; exact ⟨_, _, _, _, rfl⟩
theorem modEng (h : s₀.FeStep z) (u : Nat) (f : Eng → Eng) : s₀.FeStep (z.modEng u f) := by
  obtain ⟨_, _, _, _, rfl⟩ := h; exact ⟨_, _, _, _, rfl⟩
theorem sineKill (h : s₀.FeStep z) (u : Nat) : s₀.FeStep (z.sineKill u) := ((h.setF _ _ _).setF _ _ _).modFe _ _
theorem sineHold (h : s₀.FeStep z) (u : Nat) : s₀.FeStep (z.sineHold u) :=
  FeStep.sineKill (ite_keeps (fun _ => h.setF _ _ _) fun _ => h) u
theorem beginStep1 (h : s₀.FeStep z) (u : Nat) (k : SeqKind) : s₀.FeStep (z.beginStep1 u k) := by
  unfold State.beginStep1 State.markConv
  exact (((h.sineHold u).setF _ _ _).modFe _ _).modAdc _ _
theorem loadSetting (h : s₀.FeStep z) (u : Nat) : s₀.FeStep (z.loadSetting u) := by
  unfold State.loadSetting State.loadClamps
  dsimp only
  exact ite_keeps (fun _ => ((h.modFe _ _).modFe _ _).modEng _ _) fun _ => (h.modFe _ _).modFe _ _
theorem contactLeave (h : s₀.FeStep z) (u : Nat) : s₀.FeStep (z.contactLeave u) := by
  unfold State.contactLeave
  split
  · exact h
  · have g := (h.wr (feB u) ‹Contact›.savedCfg).modFe u fun f => { f with contact := none }
    exact ite_keeps (fun _ => ite_keeps (fun _ => g) fun _ => g.beginStep1 _ _) fun _ => g.loadSetting _
theorem settleContacts (h : s₀.FeStep z) : s₀.FeStep z.settleContacts :=
  foldl_keeps _ h fun s e g => by
    split
    · exact ite_keeps (fun _ => g) fun _ => g.contactLeave _
    · exact g
end State.FeStep

namespace State.AdcStep
theorem refl (s : State) : s.AdcStep s := ⟨_, _, _, _, rfl⟩
theorem wr (h : s₀.AdcStep z) (a : Nat) (w : Word) : s₀.AdcStep (z.wr a w) := by
  obtain ⟨_, _, _, _, rfl⟩ := h; exact ⟨_, _, _, _, rfl⟩
theorem setF (h : s₀.AdcStep z) (b : Nat) (f : Fld) (v : Nat) : s₀.AdcStep (z.setF b f v) := h.wr _ _
theorem modAdc (h : s₀.AdcStep z) (u : Nat) (f : Adc → Adc) : s₀.AdcStep (z.modAdc u f) := by
  obtain ⟨_, _, _, _, rfl⟩ := h; exact ⟨_, _, _, _, rfl⟩
theorem modEng (h : s₀.AdcStep z) (u : Nat) (f : Eng → Eng) : s₀.AdcStep (z.modEng u f) := by
  obtain ⟨_, _, _, _, rfl⟩ := h; exact ⟨_, _, _, _, rfl⟩
theorem mapCmds (h : s₀.AdcStep z) (p : Cmd → Bool) (f : Cmd → Cmd) : s₀.AdcStep (z.mapCmds p f) := by
  obtain ⟨_, _, _, _, rfl⟩ := h; exact ⟨_, _, _, _, rfl⟩
theorem stopCmds (h : s₀.AdcStep z) (p : Cmd → Bool) (f : Cmd → Cmd) : s₀.AdcStep (z.stopCmds p f) := by
  obtain ⟨_, _, _, _, rfl⟩ := h; exact ⟨_, _, _, _, rfl⟩
theorem waitMet (h : s₀.AdcStep z) (c k : Nat) : s₀.AdcStep (z.waitMet c k) := by
  unfold State.waitMet
  split
  · exact ite_keeps (fun _ => (h.modEng _ _).setF _ _ _) fun _ => h
  · exact h
theorem setRdy (h : s₀.AdcStep z) (u : Nat) : s₀.AdcStep (z.setRdy u) :=
  ite_keeps (fun _ => (h.setF _ _ _).waitMet _ _) fun _ => h.setF _ _ _
theorem adcShow (h : s₀.AdcStep z) (u : Nat) : s₀.AdcStep (z.adcShow u) := ((h.setF _ _ _).setF _ _ _).setF _ _ _
theorem adcEnd (h : s₀.AdcStep z) (u : Nat) : s₀.AdcStep (z.adcEnd u) := (((h.modAdc _ _).adcShow _).stopCmds _ _).stopCmds _ _
theorem adcAdvance (h : s₀.AdcStep z) (u : Nat) : s₀.AdcStep (z.adcAdvance u) :=
  ite_keeps (fun _ => h.adcEnd _) fun _ => ite_keeps (fun _ => (h.modAdc _ _).adcShow _) fun _ => h.modAdc _ _
theorem convStart (h : s₀.AdcStep z) (c src gain samp entry : Nat) (inj : Option Inj) (dest : Nat) (limen evt last : Bool) :
    s₀.AdcStep (z.convStart c src gain samp entry inj dest limen evt last) := (h.modAdc _ _).adcShow _
theorem adcSkipAll (h : s₀.AdcStep z) (c : Nat) : s₀.AdcStep (z.adcSkipAll c) :=
  ite_keeps (fun _ => State.AdcStep.adcEnd (State.AdcStep.setRdy (h.setF _ _ _) c) c) fun _ => h.setF _ _ _
theorem adcSearch (h : s₀.AdcStep z) (c n : Nat) : s₀.AdcStep (z.adcSearch c n) := by
  induction n generalizing z with
  | zero => exact h
  | succ n ih =>
    rw [State.adcSearch]
    refine ite_keeps (fun _ => h) fun _ => ite_keeps (fun _ => ih ?_) fun _ => ?_
    · have g : s₀.AdcStep ((z.incSat (feB c) CHN_ADC_CNT.SKIP 1).adcAdvance c) := AdcStep.adcAdvance (h.setF _ _ _) c
      exact ite_keeps (fun _ => g.setRdy _) fun _ => g
    · exact ((h.setF _ _ _).convStart ..).stopCmds _ _
theorem adcRegular (h : s₀.AdcStep z) (c : Nat) : s₀.AdcStep (z.adcRegular c) :=
  ite_keeps (fun _ => h.adcSkipAll _) fun _ => h.adcSearch _ _
theorem adcRefillAs (h : s₀.AdcStep z) (c : Nat) (l : List Inj) : s₀.AdcStep (z.adcRefillAs c l) := by
  induction l generalizing z with
  | nil => exact h.adcShow _
  | cons i is ih =>
    rw [State.adcRefillAs]
    refine ite_keeps (fun _ => ih ?_) fun _ => h.adcShow _
    split
    · exact (h.modAdc _ _).adcShow _
    · exact ((h.modAdc _ _).adcShow _).mapCmds _ _
theorem adcRefill (h : s₀.AdcStep z) (c : Nat) : s₀.AdcStep (z.adcRefill c) := h.adcRefillAs c _
theorem adcNext (h : s₀.AdcStep z) (c : Nat) (b : Bool) (hh : (z.adc c).hold ≠ 3) : s₀.AdcStep (z.adcNext c b) := by
  unfold State.adcNext
  rw [if_neg hh]
  dsimp only
  split
  · exact h.modAdc _ _
  · split
    · split
      · exact h.modAdc _ _
      · exact ((h.modAdc _ _).convStart ..).adcRefill _
    · split
      · exact ((h.modAdc _ _).convStart ..).adcRefill _
      · exact ite_keeps (fun _ => (h.modAdc _ _).adcRegular _) fun _ => (h.modAdc _ _).adcShow _
theorem kickAll (h : s₀.AdcStep z) : s₀.AdcStep z.kickAll :=
  foldl_keeps _ h fun s e g => ite_keeps
    (fun hc => by
      have hk : s₀.AdcStep (if (s.adc e.1).heldInj = [] then s else s.adcRefill e.1) := ite_keeps (fun _ => g) fun _ => g.adcRefill _
      exact ite_keeps (fun _ => hk.adcNext _ _ (by rw [s.kick_hold e.1 hc.2.2.1]; decide)) fun _ => hk) fun _ => g
end State.AdcStep

/-- t is s but for registers and charges. -/
def State.ChgStep (s t : State) : Prop := ∃ r c, t = { s with regs := r, charges := c }
theorem State.ChgStep.refl (s : State) : s.ChgStep s := ⟨_, _, rfl⟩
theorem State.ChgStep.setF (h : s₀.ChgStep z) (b : Nat) (f : Fld) (v : Nat) : s₀.ChgStep (z.setF b f v) := by
  obtain ⟨_, _, rfl⟩ := h; exact ⟨_, _, rfl⟩
theorem State.ChgStep.set_charges (h : s₀.ChgStep z) {x : List (Nat × Nat)} : s₀.ChgStep { z with charges := x } := by
  obtain ⟨_, _, rfl⟩ := h; exact ⟨_, _, rfl⟩
theorem State.ChgStep.setCharge (h : s₀.ChgStep z) (c mw : Nat) : s₀.ChgStep (z.setCharge c mw) := by
  unfold State.setCharge
  extract_lets b s'
  have g : s₀.ChgStep s' := h.setF _ _ _
  clear_value s'
  exact g.set_charges
theorem State.ChgStep.settleCharge (h : s₀.ChgStep z) : s₀.ChgStep z.settleCharge :=
  foldl_keeps _ h fun _ _ g => ite_keeps (fun _ => g) fun _ => ite_keeps (fun _ => g) fun _ => g.setCharge _ _

/-- t is s but for registers. -/
def State.RegStep (s t : State) : Prop := ∃ r, t = { s with regs := r }
theorem State.RegStep.setF (h : s₀.RegStep z) (b : Nat) (f : Fld) (v : Nat) : s₀.RegStep (z.setF b f v) := by
  obtain ⟨_, rfl⟩ := h; exact ⟨_, rfl⟩
theorem State.RegStep.setMode (h : s₀.RegStep z) (m : Nat) : s₀.RegStep (z.setMode m) := by
  unfold State.setMode
  exact ite_keeps (fun _ => h) fun _ => (h.setF _ _ _).setF _ _ _
theorem State.RegStep.settle (h : s₀.RegStep z) : s₀.RegStep z.settle := by
  unfold State.settle
  exact ite_keeps (fun _ => h.setMode _) fun _ => h

namespace State.EvStep
theorem refl (s : State) : s.EvStep s := ⟨_, _, _, rfl⟩
theorem setF (h : s₀.EvStep z) (b : Nat) (f : Fld) (v : Nat) : s₀.EvStep (z.setF b f v) := by
  obtain ⟨_, _, _, rfl⟩ := h; exact ⟨_, _, _, rfl⟩
theorem modSrc (h : s₀.EvStep z) (u : Nat) (f : Src → Src) : s₀.EvStep (z.modSrc u f) := by
  obtain ⟨_, _, _, rfl⟩ := h; exact ⟨_, _, _, rfl⟩
theorem modVec (h : s₀.EvStep z) (u : Nat) (f : Vecr → Vecr) : s₀.EvStep (z.modVec u f) := by
  obtain ⟨_, _, _, rfl⟩ := h; exact ⟨_, _, _, rfl⟩
theorem srcEval (h : s₀.EvStep z) (n : Nat) : s₀.EvStep (z.srcEval n) :=
  ite_keeps (fun _ => h) fun _ => ite_keeps (fun _ => (h.modSrc _ _).setF _ _ _) fun _ => h.modSrc _ _
theorem vecEval (h : s₀.EvStep z) (v : Nat) : s₀.EvStep (z.vecEval v) := by
  unfold State.vecEval
  extract_lets full s st
  have hs : s₀.EvStep s := ite_keeps (fun _ => h.modVec _ _) fun _ => h
  exact ite_keeps (fun _ => ite_keeps (fun _ => hs) fun _ => hs.setF _ _ _) fun _ => ite_keeps (fun _ => hs) fun _ => hs.setF _ _ _
theorem settleEvents (h : s₀.EvStep z) : s₀.EvStep z.settleEvents :=
  ite_keeps (fun _ => foldl_keeps _ (foldl_keeps _ h fun _ _ g => g.srcEval _) fun _ _ g => ite_keeps (fun _ => g.vecEval _) fun _ => g)
    fun _ => h
end State.EvStep

namespace State.TpStep
theorem refl (s : State) : s.TpStep s := ⟨_, _, rfl⟩
theorem modPort (h : s₀.TpStep z) (u : Nat) (f : Port → Port) : s₀.TpStep (z.modPort u f) := by
  obtain ⟨_, _, rfl⟩ := h; exact ⟨_, _, rfl⟩
theorem set_own (h : s₀.TpStep z) {x : List (Option Nat × Tp)} : s₀.TpStep { z with own := x } := by
  obtain ⟨_, _, rfl⟩ := h; exact ⟨_, _, rfl⟩
theorem sendTp (h : s₀.TpStep z) (p i : Nat) (t : Tp) : s₀.TpStep (z.sendTp p i t) := by
  unfold State.sendTp
  dsimp only
  exact ite_keeps (fun _ => (h.modPort _ _).set_own) fun _ => (h.modPort _ _).modPort _ _
theorem pumpPort (h : s₀.TpStep z) (p n : Nat) : s₀.TpStep (z.pumpPort p n) := by
  induction n generalizing z with
  | zero => exact h
  | succ n ih =>
    rw [State.pumpPort]
    refine ite_keeps (fun _ => ?_) fun _ => h
    split
    · exact ih (h.sendTp _ _ _)
    · exact h
theorem pump (h : s₀.TpStep z) : s₀.TpStep z.pump := ite_keeps (fun _ => h) fun _ => foldl_keeps _ h fun _ _ g => g.pumpPort _ _
end State.TpStep

/-! ### Blocks of front-ends -/

/-- Two front-ends share no register. -/
theorem feB_ne {u v : Nat} (h : u ≠ v) {o p : Nat} (ho : o < 0x800) (hp : p < 0x800) : feB u + o ≠ feB v + p := by
  unfold feB chB shB tileBase
  split <;> split <;> omega

/-- t is z at front-end u: its hidden part, its engine and its registers. -/
structure State.FeSame (u : Nat) (z t : State) : Prop where
  fe : t.fe u = z.fe u
  eng : t.eng u = z.eng u
  rd : ∀ o < 0x800, t.rd (feB u + o) = z.rd (feB u + o)

namespace State.FeSame
variable {u v : Nat}
theorem refl (s : State) : FeSame u s s := ⟨rfl, rfl, fun _ _ => rfl⟩
theorem wr (h : FeSame u s₀ z) {a : Nat} (w : Word) (ha : ∀ o < 0x800, a ≠ feB u + o) : FeSame u s₀ (z.wr a w) :=
  ⟨h.fe, h.eng, fun o ho => (z.rd_wr_ne (ha o ho) w).trans (h.rd o ho)⟩
theorem setF (h : FeSame u s₀ z) (hv : v ≠ u) {f : Fld} (hf : f.off < 0x800) (x : Nat) : FeSame u s₀ (z.setF (feB v) f x) :=
  h.wr _ fun _ ho => feB_ne hv hf ho
theorem modFe (h : FeSame u s₀ z) (hv : v ≠ u) (f : Fe → Fe) : FeSame u s₀ (z.modFe v f) :=
  ⟨(tabGet_tabSet_ne _ _ _ hv).trans h.fe, h.eng, h.rd⟩
theorem modEng (h : FeSame u s₀ z) (hv : v ≠ u) (f : Eng → Eng) : FeSame u s₀ (z.modEng v f) :=
  ⟨h.fe, (tabGet_tabSet_ne _ _ _ hv).trans h.eng, h.rd⟩
theorem modAdc (h : FeSame u s₀ z) (w : Nat) (f : Adc → Adc) : FeSame u s₀ (z.modAdc w f) := ⟨h.fe, h.eng, h.rd⟩
theorem loadSetting (h : FeSame u s₀ z) (hv : v ≠ u) : FeSame u s₀ (z.loadSetting v) := by
  unfold State.loadSetting State.loadClamps
  dsimp only
  exact ite_keeps (fun _ => ((h.modFe hv _).modFe hv _).modEng hv _) fun _ => (h.modFe hv _).modFe hv _
theorem sineKill (h : FeSame u s₀ z) (hv : v ≠ u) : FeSame u s₀ (z.sineKill v) :=
  ((h.setF hv (f := CHN_SINE_CTRL.EN) (by decide) _).setF hv (f := CHN_SINE_CTRL.RUN) (by decide) _).modFe hv _
theorem sineHold (h : FeSame u s₀ z) (hv : v ≠ u) : FeSame u s₀ (z.sineHold v) :=
  FeSame.sineKill (ite_keeps (fun _ => h.setF hv (f := CHN_FE_TARGET.CODE) (by decide) _) fun _ => h) hv
theorem beginStep1 (h : FeSame u s₀ z) (hv : v ≠ u) (k : SeqKind) : FeSame u s₀ (z.beginStep1 v k) := by
  unfold State.beginStep1 State.markConv
  exact (((h.sineHold hv).setF hv (f := CHN_FE_STATUS.SEQ_STEP) (by decide) _).modFe hv _).modAdc _ _
theorem contactLeave (h : FeSame u s₀ z) (hv : v ≠ u) : FeSame u s₀ (z.contactLeave v) := by
  unfold State.contactLeave
  split
  · exact h
  · have g := (h.wr (a := feB v) ‹Contact›.savedCfg fun o ho => feB_ne hv (o := 0) (by decide) ho).modFe hv fun f => { f with contact := none }
    exact ite_keeps (fun _ => ite_keeps (fun _ => g) fun _ => g.beginStep1 hv _) fun _ => g.loadSetting hv
theorem settleContacts (h : FeSame u s₀ z) (hu : (s₀.fe u).contact = none) : FeSame u s₀ z.settleContacts :=
  foldl_keeps _ h fun s e g => by
    split
    · refine ite_keeps (fun _ => g) fun _ => ?_
      by_cases hv : e.1 = u
      · have hn : (s.fe e.1).contact = none := by rw [hv, g.fe, hu]
        unfold State.contactLeave
        rw [hn]
        exact g
      · exact g.contactLeave hv
    · exact g
end State.FeSame

/-- t is z at the converter of unit u, while no contact check ends on u or on a shade. -/
structure State.ConSame (u : Nat) (z t : State) : Prop where
  adc : t.adc u = z.adc u
  con : ∀ v, (z.fe v).contact = none → (t.fe v).contact = none

namespace State.ConSame
variable {u v : Nat}
theorem refl (s : State) : ConSame u s s := ⟨rfl, fun _ h => h⟩
theorem wr (h : ConSame u s₀ z) (a : Nat) (w : Word) : ConSame u s₀ (z.wr a w) := ⟨h.adc, h.con⟩
theorem setF (h : ConSame u s₀ z) (b : Nat) (f : Fld) (x : Nat) : ConSame u s₀ (z.setF b f x) := h.wr _ _
theorem modFe (h : ConSame u s₀ z) (v : Nat) (f : Fe → Fe) (hf : ∀ x, x.contact = none → (f x).contact = none) : ConSame u s₀ (z.modFe v f) where
  adc := h.adc
  con w hw := by
    by_cases e : v = w
    · subst e; rw [State.fe_modFe_self]; exact hf _ (h.con v hw)
    · rw [State.fe_modFe, if_neg e]; exact h.con w hw
theorem modEng (h : ConSame u s₀ z) (v : Nat) (f : Eng → Eng) : ConSame u s₀ (z.modEng v f) := ⟨h.adc, h.con⟩
theorem modAdc (h : ConSame u s₀ z) {v : Nat} (f : Adc → Adc) (hv : v ≠ u) : ConSame u s₀ (z.modAdc v f) :=
  ⟨(tabGet_tabSet_ne _ _ _ hv).trans h.adc, h.con⟩
theorem sineKill (h : ConSame u s₀ z) (v : Nat) : ConSame u s₀ (z.sineKill v) := ((h.setF _ _ _).setF _ _ _).modFe _ _ (by exact fun _ hx => hx)
theorem sineHold (h : ConSame u s₀ z) (v : Nat) : ConSame u s₀ (z.sineHold v) :=
  ConSame.sineKill (ite_keeps (fun _ => h.setF _ _ _) fun _ => h) v
theorem loadSetting (h : ConSame u s₀ z) (v : Nat) : ConSame u s₀ (z.loadSetting v) := by
  unfold State.loadSetting State.loadClamps
  dsimp only
  have g := (h.modFe v (fun f => { f with iclamp := z.getF (feB v) CHN_ICLAMP.CODE, vlo := if f.contact.isSome then 819 else z.getF (feB v) CHN_VCLAMP.LO,
                                          vhi := if f.contact.isSome then 3276 else z.getF (feB v) CHN_VCLAMP.HI }) fun _ hx => hx)
  exact ite_keeps (fun _ => (g.modFe _ _ (by exact fun _ hx => hx)).modEng _ _) fun _ => g.modFe _ _ (by exact fun _ hx => hx)
theorem beginStep1 (h : ConSame u s₀ z) (v : Nat) (k : SeqKind) (hv : v < 1024) (hu : v ≠ u) : ConSame u s₀ (z.beginStep1 v k) := by
  unfold State.beginStep1 State.markConv State.adcOf
  refine (((h.sineHold v).setF _ _ _).modFe _ _ (by exact fun _ hx => hx)).modAdc _ ?_
  rw [if_neg (by omega)]
  exact hu
theorem settleContacts (h : ConSame u s₀ z) (hc : ∀ v, v = u ∨ 1024 ≤ v → (s₀.fe v).contact = none) : ConSame u s₀ z.settleContacts :=
  foldl_keeps _ h fun s e g => by
    split
    · refine ite_keeps (fun _ => g) fun _ => ?_
      unfold State.contactLeave
      split
      · exact g
      · rename_i k hk
        have hv : ¬ (e.1 = u ∨ 1024 ≤ e.1) := fun h' => by rw [g.con _ (hc _ h')] at hk; cases hk
        have g' := (g.wr (feB e.1) k.savedCfg).modFe e.1 (fun f => { f with contact := none }) fun _ _ => rfl
        exact ite_keeps (fun _ => ite_keeps (fun _ => g') fun _ => g'.beginStep1 _ _ (by omega) (by omega)) fun _ => g'.loadSetting _
    · exact g
end State.ConSame

/-! ### Idle converters that take up work -/

/-- Registers of converters, and PEND of engines: what kickAll may change. -/
def kicks (a : Nat) : Bool :=
  decide ((0x21000 ≤ a ∧ a < 0x22000) ∨ (0x800000 ≤ a ∧ 0x10000 ≤ a % 0x100000 ∧ (a % 0x800 = 0x104 ∨ a % 0x800 = 0x110)))

theorem feB_kicks (u : Nat) {o : Nat} (ho : o = 0x104 ∨ o = 0x110) : kicks (feB u + o) = true := by
  unfold kicks feB chB shB tileBase
  rw [decide_eq_true_eq]
  right
  split <;> omega

/-- t is z but for what idle converters do as they take up work. -/
structure State.Kicks (z t : State) : Prop where
  rd : ∀ a, kicks a = false → t.rd a = z.rd a
  eng : ∀ c, (t.eng c).still = (z.eng c).still ∧ ((z.eng c).hold = none → (t.eng c).hold = none)

namespace State.Kicks
theorem refl (s : State) : s.Kicks s := ⟨fun _ _ => rfl, fun _ => ⟨rfl, id⟩⟩
theorem wr (h : s₀.Kicks z) (a : Nat) (w : Word) (ha : kicks a = true) : s₀.Kicks (z.wr a w) :=
  ⟨fun x hx => (z.rd_wr_ne (fun e => by rw [e, hx] at ha; cases ha) w).trans (h.rd x hx), h.eng⟩
theorem fe (h : s₀.Kicks z) (u : Nat) (f : Fld) (v : Nat) (ho : f.off = 0x104 ∨ f.off = 0x110) : s₀.Kicks (z.setF (feB u) f v) :=
  h.wr _ _ (feB_kicks u ho)
theorem modAdc (h : s₀.Kicks z) (u : Nat) (f : Adc → Adc) : s₀.Kicks (z.modAdc u f) := ⟨h.rd, h.eng⟩
theorem mapCmds (h : s₀.Kicks z) (p : Cmd → Bool) (f : Cmd → Cmd) : s₀.Kicks (z.mapCmds p f) := ⟨h.rd, h.eng⟩
theorem stopCmds (h : s₀.Kicks z) (p : Cmd → Bool) (f : Cmd → Cmd) : s₀.Kicks (z.stopCmds p f) := ⟨h.rd, h.eng⟩
theorem waitMet (h : s₀.Kicks z) {c : Nat} (hc : c < 1024) (k : Nat) : s₀.Kicks (z.waitMet c k) := by
  unfold State.waitMet
  split
  · rename_i x hx
    refine ite_keeps (fun _ => ?_) fun _ => h
    refine State.Kicks.wr (z := z.modEng c _) ⟨h.rd, fun d => ?_⟩ _ _ (by unfold kicks; rw [decide_eq_true_eq]; left; exact ⟨by show 0x21000 ≤ 4 * c + 0x21000; omega, by show 4 * c + 0x21000 < 0x22000; omega⟩)
    by_cases hd : c = d
    · subst hd
      rw [State.eng_modEng_self]
      exact ⟨(h.eng c).1, fun hn => by rw [(h.eng c).2 hn] at hx; cases hx⟩
    · rw [State.eng_modEng, if_neg hd]
      exact h.eng d
  · exact h
theorem setRdy (h : s₀.Kicks z) (u : Nat) : s₀.Kicks (z.setRdy u) :=
  ite_keeps (fun hu => (h.fe _ _ _ (by decide)).waitMet hu _) fun _ => h.fe _ _ _ (by decide)
theorem adcShow (h : s₀.Kicks z) (u : Nat) : s₀.Kicks (z.adcShow u) :=
  ((h.fe u CHN_ADC_STATUS.PASS _ (by decide)).fe u CHN_ADC_STATUS.BUSY _ (by decide)).fe u CHN_ADC_STATUS.INJ_PEND _ (by decide)
theorem adcEnd (h : s₀.Kicks z) (u : Nat) : s₀.Kicks (z.adcEnd u) := (((h.modAdc _ _).adcShow _).stopCmds _ _).stopCmds _ _
theorem adcAdvance (h : s₀.Kicks z) (u : Nat) : s₀.Kicks (z.adcAdvance u) :=
  ite_keeps (fun _ => h.adcEnd _) fun _ => ite_keeps (fun _ => (h.modAdc _ _).adcShow _) fun _ => h.modAdc _ _
theorem convStart (h : s₀.Kicks z) (c src gain samp entry : Nat) (inj : Option Inj) (dest : Nat) (limen evt last : Bool) :
    s₀.Kicks (z.convStart c src gain samp entry inj dest limen evt last) := (h.modAdc _ _).adcShow _
theorem adcSkipAll (h : s₀.Kicks z) (c : Nat) : s₀.Kicks (z.adcSkipAll c) :=
  ite_keeps (fun _ => State.Kicks.adcEnd (State.Kicks.setRdy (h.fe c CHN_ADC_CNT.SKIP _ (by decide)) c) c) fun _ => h.fe c CHN_ADC_CNT.SKIP _ (by decide)
theorem adcSearch (h : s₀.Kicks z) (c n : Nat) : s₀.Kicks (z.adcSearch c n) := by
  induction n generalizing z with
  | zero => exact h
  | succ n ih =>
    rw [State.adcSearch]
    refine ite_keeps (fun _ => h) fun _ => ite_keeps (fun _ => ih ?_) fun _ => ?_
    · have g : s₀.Kicks ((z.incSat (feB c) CHN_ADC_CNT.SKIP 1).adcAdvance c) :=
        State.Kicks.adcAdvance (h.fe c CHN_ADC_CNT.SKIP _ (by decide)) c
      exact ite_keeps (fun _ => g.setRdy _) fun _ => g
    · exact ((h.fe c CHN_ADC_STATUS.CUR _ (by decide)).convStart ..).stopCmds _ _
theorem adcRegular (h : s₀.Kicks z) (c : Nat) : s₀.Kicks (z.adcRegular c) :=
  ite_keeps (fun _ => h.adcSkipAll _) fun _ => h.adcSearch _ _
theorem adcRefillAs (h : s₀.Kicks z) (c : Nat) (l : List Inj) : s₀.Kicks (z.adcRefillAs c l) := by
  induction l generalizing z with
  | nil => exact h.adcShow _
  | cons i is ih =>
    rw [State.adcRefillAs]
    refine ite_keeps (fun _ => ih ?_) fun _ => h.adcShow _
    split
    · exact (h.modAdc _ _).adcShow _
    · exact ((h.modAdc _ _).adcShow _).mapCmds _ _
theorem adcRefill (h : s₀.Kicks z) (c : Nat) : s₀.Kicks (z.adcRefill c) := h.adcRefillAs c _
theorem adcNext (h : s₀.Kicks z) (c : Nat) (b : Bool) (hh : (z.adc c).hold ≠ 3) : s₀.Kicks (z.adcNext c b) := by
  unfold State.adcNext
  rw [if_neg hh]
  dsimp only
  split
  · exact h.modAdc _ _
  · split
    · split
      · exact h.modAdc _ _
      · exact ((h.modAdc _ _).convStart ..).adcRefill _
    · split
      · exact ((h.modAdc _ _).convStart ..).adcRefill _
      · exact ite_keeps (fun _ => (h.modAdc _ _).adcRegular _) fun _ => (h.modAdc _ _).adcShow _
theorem kickAll (h : s₀.Kicks z) : s₀.Kicks z.kickAll :=
  foldl_keeps _ h fun s e g => ite_keeps
    (fun hc => by
      have hk : s₀.Kicks (if (s.adc e.1).heldInj = [] then s else s.adcRefill e.1) := ite_keeps (fun _ => g) fun _ => g.adcRefill _
      exact ite_keeps (fun _ => hk.adcNext _ _ (by rw [s.kick_hold e.1 hc.2.2.1]; decide)) fun _ => hk) fun _ => g
end State.Kicks

/-! ### One converter -/

/-- t is z at unit u: its converter and its registers. -/
structure State.AdcSame (u : Nat) (z t : State) : Prop where
  adc : t.adc u = z.adc u
  rd : ∀ o < 0x800, t.rd (feB u + o) = z.rd (feB u + o)

namespace State.AdcSame
variable {u v : Nat}
theorem refl (s : State) : AdcSame u s s := ⟨rfl, fun _ _ => rfl⟩
theorem wr (h : AdcSame u s₀ z) {a : Nat} (w : Word) (ha : ∀ o < 0x800, a ≠ feB u + o) : AdcSame u s₀ (z.wr a w) :=
  ⟨h.adc, fun o ho => (z.rd_wr_ne (ha o ho) w).trans (h.rd o ho)⟩
theorem fe (h : AdcSame u s₀ z) (hv : v ≠ u) {f : Fld} (x : Nat) (hf : f.off < 0x800) : AdcSame u s₀ (z.setF (feB v) f x) :=
  h.wr _ fun _ ho => feB_ne hv hf ho
theorem modAdc (h : AdcSame u s₀ z) (hv : v ≠ u) (f : Adc → Adc) : AdcSame u s₀ (z.modAdc v f) :=
  ⟨(tabGet_tabSet_ne _ _ _ hv).trans h.adc, h.rd⟩
theorem mapCmds (h : AdcSame u s₀ z) (p : Cmd → Bool) (f : Cmd → Cmd) : AdcSame u s₀ (z.mapCmds p f) := ⟨h.adc, h.rd⟩
theorem stopCmds (h : AdcSame u s₀ z) (p : Cmd → Bool) (f : Cmd → Cmd) : AdcSame u s₀ (z.stopCmds p f) := ⟨h.adc, h.rd⟩
theorem waitMet (h : AdcSame u s₀ z) {c : Nat} (hc : c < 1024) (k : Nat) : AdcSame u s₀ (z.waitMet c k) := by
  unfold State.waitMet
  split
  · refine ite_keeps (fun _ => State.AdcSame.wr (z := z.modEng c _) ⟨h.adc, h.rd⟩ _ fun o ho => ?_) fun _ => h
    show 4 * c + 0x21000 ≠ feB u + o
    unfold feB chB shB tileBase
    split <;> omega
  · exact h
theorem setRdy (h : AdcSame u s₀ z) (hv : v ≠ u) : AdcSame u s₀ (z.setRdy v) :=
  ite_keeps (fun hu => (h.fe hv (f := CHN_ADC_STATUS.RDY) _ (by decide)).waitMet hu _) fun _ => h.fe hv (f := CHN_ADC_STATUS.RDY) _ (by decide)
theorem adcShow (h : AdcSame u s₀ z) (hv : v ≠ u) : AdcSame u s₀ (z.adcShow v) :=
  ((h.fe hv (f := CHN_ADC_STATUS.PASS) _ (by decide)).fe hv (f := CHN_ADC_STATUS.BUSY) _ (by decide)).fe hv (f := CHN_ADC_STATUS.INJ_PEND) _
    (by decide)
theorem adcEnd (h : AdcSame u s₀ z) (hv : v ≠ u) : AdcSame u s₀ (z.adcEnd v) := (((h.modAdc hv _).adcShow hv).stopCmds _ _).stopCmds _ _
theorem adcAdvance (h : AdcSame u s₀ z) (hv : v ≠ u) : AdcSame u s₀ (z.adcAdvance v) :=
  ite_keeps (fun _ => h.adcEnd hv) fun _ => ite_keeps (fun _ => (h.modAdc hv _).adcShow hv) fun _ => h.modAdc hv _
theorem convStart (h : AdcSame u s₀ z) (hv : v ≠ u) (src gain samp entry : Nat) (inj : Option Inj) (dest : Nat) (limen evt last : Bool) :
    AdcSame u s₀ (z.convStart v src gain samp entry inj dest limen evt last) := (h.modAdc hv _).adcShow hv
theorem adcSkipAll (h : AdcSame u s₀ z) (hv : v ≠ u) : AdcSame u s₀ (z.adcSkipAll v) :=
  ite_keeps (fun _ => State.AdcSame.adcEnd (State.AdcSame.setRdy (h.fe hv (f := CHN_ADC_CNT.SKIP) _ (by decide)) hv) hv) fun _ => h.fe hv (f := CHN_ADC_CNT.SKIP) _ (by decide)
theorem adcSearch (h : AdcSame u s₀ z) (hv : v ≠ u) (n : Nat) : AdcSame u s₀ (z.adcSearch v n) := by
  induction n generalizing z with
  | zero => exact h
  | succ n ih =>
    rw [State.adcSearch]
    refine ite_keeps (fun _ => h) fun _ => ite_keeps (fun _ => ih ?_) fun _ => ?_
    · have g : AdcSame u s₀ ((z.incSat (feB v) CHN_ADC_CNT.SKIP 1).adcAdvance v) :=
        State.AdcSame.adcAdvance (h.fe hv (f := CHN_ADC_CNT.SKIP) _ (by decide)) hv
      exact ite_keeps (fun _ => g.setRdy hv) fun _ => g
    · exact ((h.fe hv (f := CHN_ADC_STATUS.CUR) _ (by decide)).convStart hv ..).stopCmds _ _
theorem adcRegular (h : AdcSame u s₀ z) (hv : v ≠ u) : AdcSame u s₀ (z.adcRegular v) :=
  ite_keeps (fun _ => h.adcSkipAll hv) fun _ => h.adcSearch hv _
theorem adcRefillAs (h : AdcSame u s₀ z) (hv : v ≠ u) (l : List Inj) : AdcSame u s₀ (z.adcRefillAs v l) := by
  induction l generalizing z with
  | nil => exact h.adcShow hv
  | cons i is ih =>
    rw [State.adcRefillAs]
    refine ite_keeps (fun _ => ih ?_) fun _ => h.adcShow hv
    split
    · exact (h.modAdc hv _).adcShow hv
    · exact ((h.modAdc hv _).adcShow hv).mapCmds _ _
theorem adcRefill (h : AdcSame u s₀ z) (hv : v ≠ u) : AdcSame u s₀ (z.adcRefill v) := h.adcRefillAs hv _
theorem adcNext (h : AdcSame u s₀ z) (hv : v ≠ u) (b : Bool) (hh : (z.adc v).hold ≠ 3) : AdcSame u s₀ (z.adcNext v b) := by
  unfold State.adcNext
  rw [if_neg hh]
  dsimp only
  split
  · exact h.modAdc hv _
  · split
    · split
      · exact h.modAdc hv _
      · exact ((h.modAdc hv _).convStart hv ..).adcRefill hv
    · split
      · exact ((h.modAdc hv _).convStart hv ..).adcRefill hv
      · exact ite_keeps (fun _ => (h.modAdc hv _).adcRegular hv) fun _ => (h.modAdc hv _).adcShow hv
theorem kickAll (h : AdcSame u s₀ z) (hu : s₀.adcRests u) : AdcSame u s₀ z.kickAll :=
  foldl_keeps _ h fun s e g => by
    refine ite_keeps (fun hc => ?_) fun _ => g
    have hv : e.1 ≠ u := by
      intro he
      rw [he, g.adc] at hc
      rcases hu with hu | hu | hu
      · exact hu hc.2.1
      · exact hu hc.2.2.1
      · rcases hc.2.2.2 with hr | hi | hi
        · rw [hu.1] at hr; cases hr
        · exact hi hu.2.1
        · exact hi hu.2.2
    have hk : AdcSame u s₀ (if (s.adc e.1).heldInj = [] then s else s.adcRefill e.1) := ite_keeps (fun _ => g) fun _ => g.adcRefill hv
    exact ite_keeps (fun _ => hk.adcNext hv _ (by rw [s.kick_hold e.1 hc.2.2.1]; decide)) fun _ => hk
end State.AdcSame

/-! ### Sources -/

/-- t is z at source n: what it is and its SMAP register. -/
structure State.SrcSame (n : Nat) (z t : State) : Prop where
  src : t.src n = z.src n
  rd : t.rd (4 * n + 0x201000) = z.rd (4 * n + 0x201000)

namespace State.SrcSame
variable {n : Nat}
theorem modSrc (h : SrcSame n s₀ z) {m : Nat} (hm : m ≠ n) (f : Src → Src) : SrcSame n s₀ (z.modSrc m f) :=
  ⟨(tabGet_tabSet_ne _ _ _ hm).trans h.src, h.rd⟩
theorem modVec (h : SrcSame n s₀ z) (v : Nat) (f : Vecr → Vecr) : SrcSame n s₀ (z.modVec v f) := ⟨h.src, h.rd⟩
theorem setF (h : SrcSame n s₀ z) {b : Nat} {f : Fld} (hb : b + f.off ≠ 4 * n + 0x201000) (v : Nat) : SrcSame n s₀ (z.setF b f v) :=
  ⟨h.src, (State.rd_setF_ne _ hb _).trans h.rd⟩
theorem srcEval (h : SrcSame n s₀ z) {m : Nat} (hm : m ≠ n) : SrcSame n s₀ (z.srcEval m) :=
  ite_keeps (fun _ => h) fun _ => ite_keeps
    (fun _ => (h.modSrc hm _).setF (f := IRQ_SMAP.STATE) (by show 4 * m + 0x201000 ≠ 4 * n + 0x201000; omega) _) fun _ => h.modSrc hm _
theorem vecEval (h : SrcSame n s₀ z) (hn : n < 4096) (v : Nat) : SrcSame n s₀ (z.vecEval v) := by
  unfold State.vecEval
  extract_lets full s st
  have hs : SrcSame n s₀ s := ite_keeps (fun _ => h.modVec _ _) fun _ => h
  clear_value s
  have g : ∀ x, SrcSame n s₀ (s.setVecState v x) := fun x =>
    hs.setF (f := IRQ_VEC_TGT.STATE) (by show 8 * v + 0x205004 ≠ 4 * n + 0x201000; omega) x
  exact ite_keeps (fun _ => ite_keeps (fun _ => hs) fun _ => g _) fun _ => ite_keeps (fun _ => hs) fun _ => g _
theorem srcEvals (l : List Nat) (h : SrcSame n s₀ z) (hs : ∀ m ∈ l, m ≠ n) : SrcSame n s₀ (l.foldl State.srcEval z) := by
  induction l generalizing z with
  | nil => exact h
  | cons a l ih => exact ih (h.srcEval (hs a List.mem_cons_self)) fun m hm => hs m (List.mem_cons_of_mem _ hm)
/-- A source that is not ACTIVE. -/
theorem settleEvents (h : SrcSame n s₀ z) (hn : n < 4096) (hs : ∀ m ∈ z.srcsIn (fun st => decide (st = srcACTIVE)), m ≠ n) :
    SrcSame n s₀ z.settleEvents := by
  exact ite_keeps (fun _ => foldl_keeps _ (srcEvals _ h hs) fun _ _ g => ite_keeps (fun _ => g.vecEval hn _) fun _ => g) fun _ => h
end State.SrcSame

/-! ### Ports -/

/-- t's ports are z's but for what they have sent. -/
def State.PortSame (z t : State) : Prop := ∀ p, (t.port p).still = (z.port p).still

namespace State.PortSame
theorem refl (s : State) : s.PortSame s := fun _ => rfl
theorem modPort (h : s₀.PortSame z) (i : Nat) (f : Port → Port) (hf : (f (z.port i)).still = (z.port i).still) :
    s₀.PortSame (z.modPort i f) := by
  intro p
  rw [State.port_modPort]
  split
  · rename_i e; rw [hf, ← e]; exact e ▸ h i
  · exact h p
theorem sendTp (h : s₀.PortSame z) (p i : Nat) (t : Tp) : s₀.PortSame (z.sendTp p i t) := by
  unfold State.sendTp
  extract_lets q out q' s
  have g : s₀.PortSame s := h.modPort p _ (by rfl)
  clear_value s
  refine ite_keeps (fun _ => ?_) fun _ => ?_
  · exact g
  · exact g.modPort i _ (by rfl)
theorem pumpPort (h : s₀.PortSame z) (p n : Nat) : s₀.PortSame (z.pumpPort p n) := by
  induction n generalizing z with
  | zero => exact h
  | succ n ih =>
    rw [State.pumpPort]
    refine ite_keeps (fun _ => ?_) fun _ => h
    split
    · exact ih (h.sendTp _ _ _)
    · exact h
theorem pump (h : s₀.PortSame z) : s₀.PortSame z.pump := ite_keeps (fun _ => h) fun _ => foldl_keeps _ h fun _ _ g => g.pumpPort _ _
end State.PortSame

/-! ### Registers of the last steps -/

/-- t's registers are z's but for those that K names. -/
def State.Spares (K : Nat → Bool) (z t : State) : Prop := ∀ a, K a = false → t.rd a = z.rd a

namespace State.Spares
variable {K : Nat → Bool}
theorem refl (s : State) : s.Spares K s := fun _ _ => rfl
theorem wr (h : s₀.Spares K z) (a : Nat) (w : Word) (ha : K a = true) : s₀.Spares K (z.wr a w) :=
  fun x hx => (z.rd_wr_ne (fun e => by rw [e, hx] at ha; cases ha) w).trans (h x hx)
theorem setF (h : s₀.Spares K z) (b : Nat) (f : Fld) (v : Nat) (ha : K (b + f.off) = true) : s₀.Spares K (z.setF b f v) := h.wr _ _ ha
theorem modFe (h : s₀.Spares K z) (u : Nat) (f : Fe → Fe) : s₀.Spares K (z.modFe u f) := fun a ha => h a ha
theorem modAdc (h : s₀.Spares K z) (u : Nat) (f : Adc → Adc) : s₀.Spares K (z.modAdc u f) := fun a ha => h a ha
theorem modEng (h : s₀.Spares K z) (u : Nat) (f : Eng → Eng) : s₀.Spares K (z.modEng u f) := fun a ha => h a ha
theorem loadSetting (h : s₀.Spares K z) (u : Nat) : s₀.Spares K (z.loadSetting u) := by
  unfold State.loadSetting State.loadClamps
  dsimp only
  exact ite_keeps (fun _ => ((h.modFe _ _).modFe _ _).modEng _ _) fun _ => (h.modFe _ _).modFe _ _
theorem set_charges (h : s₀.Spares K z) {x : List (Nat × Nat)} : s₀.Spares K { z with charges := x } := fun a ha => h a ha
theorem sineKill (h : s₀.Spares K z) (hK : ∀ u o, K (feB u + o) = true) (u : Nat) : s₀.Spares K (z.sineKill u) :=
  ((h.setF _ CHN_SINE_CTRL.EN _ (hK _ _)).setF _ CHN_SINE_CTRL.RUN _ (hK _ _)).modFe _ _
theorem sineHold (h : s₀.Spares K z) (hK : ∀ u o, K (feB u + o) = true) (u : Nat) : s₀.Spares K (z.sineHold u) :=
  Spares.sineKill (ite_keeps (fun _ => h.setF _ CHN_FE_TARGET.CODE _ (hK _ _)) fun _ => h) hK u
theorem beginStep1 (h : s₀.Spares K z) (hK : ∀ u o, K (feB u + o) = true) (u : Nat) (k : SeqKind) : s₀.Spares K (z.beginStep1 u k) := by
  unfold State.beginStep1 State.markConv
  exact (((h.sineHold hK u).setF _ CHN_FE_STATUS.SEQ_STEP _ (hK _ _)).modFe _ _).modAdc _ _
theorem contactLeave (h : s₀.Spares K z) (hK : ∀ u o, K (feB u + o) = true) (u : Nat) : s₀.Spares K (z.contactLeave u) := by
  unfold State.contactLeave
  split
  · exact h
  · have g : s₀.Spares K ((z.wr (feB u) ‹Contact›.savedCfg).modFe u fun f => { f with contact := none }) := (h.wr _ _ (hK u 0)).modFe _ _
    exact ite_keeps (fun _ => ite_keeps (fun _ => g) fun _ => g.beginStep1 hK _ _) fun _ => g.loadSetting _
theorem settleContacts (h : s₀.Spares K z) (hK : ∀ u o, K (feB u + o) = true) : s₀.Spares K z.settleContacts :=
  foldl_keeps _ h fun s e g => by
    split
    · exact ite_keeps (fun _ => g) fun _ => g.contactLeave hK _
    · exact g
theorem settleCharge (h : s₀.Spares K z) (hK : ∀ c < 1024, K (0x10 * (c / 128) + 0x500048) = true) : s₀.Spares K z.settleCharge := by
  refine foldl_keeps _ h fun s e g => ite_keeps (fun _ => g) fun hc => ite_keeps (fun _ => g) fun _ => ?_
  unfold State.setCharge
  extract_lets b s'
  have g' : s₀.Spares K s' := g.setF _ _ _ (hK _ (by omega))
  clear_value s'
  exact g'.set_charges
theorem settle (h : s₀.Spares K z) (h1 : K 0x10 = true) (h2 : K 0x200010 = true) : s₀.Spares K z.settle := by
  unfold State.settle State.setMode
  exact ite_keeps (fun _ => ite_keeps (fun _ => h) fun _ => (h.setF _ _ _ h1).setF _ _ _ h2) fun _ => h
theorem srcEval (h : s₀.Spares K z) {n : Nat} (hK : K (4 * n + 0x201000) = true) : s₀.Spares K (z.srcEval n) := by
  have g : ∀ f, s₀.Spares K (z.modSrc n f) := fun _ => h
  exact ite_keeps (fun _ => h) fun _ => ite_keeps (fun _ => (g _).setF _ _ _ hK) fun _ => g _
theorem srcEvals (l : List Nat) (h : s₀.Spares K z) (hl : ∀ n ∈ l, n < 4096) (hK : ∀ n < 4096, K (4 * n + 0x201000) = true) :
    s₀.Spares K (l.foldl State.srcEval z) := by
  induction l generalizing z with
  | nil => exact h
  | cons a l ih =>
    exact ih (h.srcEval (hK a (hl a List.mem_cons_self))) fun n hn => hl n (List.mem_cons_of_mem _ hn)
theorem vecEval (h : s₀.Spares K z) {v : Nat} (hK : K (8 * v + 0x205004) = true) : s₀.Spares K (z.vecEval v) := by
  unfold State.vecEval
  extract_lets full s st
  have hs : s₀.Spares K s := ite_keeps (fun _ => h) fun _ => h
  clear_value s
  exact ite_keeps (fun _ => ite_keeps (fun _ => hs) fun _ => hs.setF _ _ _ hK) fun _ => ite_keeps (fun _ => hs) fun _ => hs.setF _ _ _ hK
theorem settleEvents (h : s₀.Spares K z) (hK : ∀ n < 4096, K (4 * n + 0x201000) = true) (hV : ∀ v < 512, K (8 * v + 0x205004) = true) :
    s₀.Spares K z.settleEvents :=
  ite_keeps (fun _ => foldl_keeps _ (srcEvals _ h (fun _ hn => z.srcsIn_lt _ hn) hK) fun _ _ g =>
    ite_keeps (fun hv => g.vecEval (hV _ hv)) fun _ => g) fun _ => h
end State.Spares

/-- Registers that the last steps of settling may change. -/
def late (a : Nat) : Bool :=
  decide (a = 0x10 ∨ a = 0x200010 ∨ (0x201000 ≤ a ∧ a < 0x206000) ∨ (0x500048 ≤ a ∧ a < 0x5000C8))

/-- Registers of events alone. -/
def evRegs (a : Nat) : Bool := decide (0x201000 ≤ a ∧ a < 0x206000)

theorem State.pump_rd (s : State) (a : Nat) : s.pump.rd a = s.rd a := by
  obtain ⟨_, _, h⟩ := (State.TpStep.refl s).pump; rw [h]; rfl

theorem State.late_rd (s : State) {a : Nat} (h : late a = false) :
    s.settleCharge.settle.settleEvents.pump.rd a = s.rd a := by
  refine (State.pump_rd _ a).trans ?_
  refine State.Spares.settleEvents (K := late) (State.Spares.settle (State.Spares.settleCharge (State.Spares.refl s) ?_) rfl rfl) ?_ ?_ a h
  · intro c hc; unfold late; rw [decide_eq_true_eq]; omega
  · intro c hc; unfold late; rw [decide_eq_true_eq]; omega
  · intro c hc; unfold late; rw [decide_eq_true_eq]; omega

/-! ### What stands through settling -/

/-- What the steps after kickAll leave alone. -/
theorem State.late_eq {α : Type} (g : State → α) (h1 : ∀ s r c, g { s with regs := r, charges := c } = g s) (h2 : ∀ s r, g { s with regs := r } = g s)
    (h3 : ∀ s r a v, g { s with regs := r, srcs := a, vecs := v } = g s) (h4 : ∀ s a o, g { s with ports := a, own := o } = g s) (s : State) :
    g s.settleCharge.settle.settleEvents.pump = g s := by
  have e1 : g s.settleCharge = g s := by obtain ⟨_, _, h⟩ := (State.ChgStep.refl s).settleCharge; rw [h, h1]
  generalize s.settleCharge = s1 at *
  have e2 : g s1.settle = g s1 := by obtain ⟨_, h⟩ := State.RegStep.settle (s₀ := s1) ⟨_, rfl⟩; rw [h, h2]
  generalize s1.settle = s2 at *
  have e3 : g s2.settleEvents = g s2 := by obtain ⟨_, _, _, h⟩ := (State.EvStep.refl s2).settleEvents; rw [h, h3]
  generalize s2.settleEvents = s3 at *
  have e4 : g s3.pump = g s3 := by obtain ⟨_, _, h⟩ := (State.TpStep.refl s3).pump; rw [h, h4]
  rw [e4, e3, e2, e1]

theorem State.kickAll_eq {α : Type} (g : State → α) (h : ∀ s r a e c, g { s with regs := r, adcs := a, engs := e, cmds := c } = g s) (s : State) :
    g s.kickAll = g s := by
  obtain ⟨_, _, _, _, e⟩ := (State.AdcStep.refl s).kickAll; rw [e, h]

theorem State.settleContacts_eq {α : Type} (g : State → α) (h : ∀ s r f a e, g { s with regs := r, fes := f, adcs := a, engs := e } = g s)
    (s : State) : g s.settleContacts = g s := by
  obtain ⟨_, _, _, _, e⟩ := (State.FeStep.refl s).settleContacts; rw [e, h]

theorem State.settled_fes (s : State) : s.settled.fes = s.settleContacts.fes :=
  (State.late_eq State.fes (fun _ _ _ => rfl) (fun _ _ => rfl) (fun _ _ _ _ => rfl) (fun _ _ _ => rfl) _).trans
    (State.kickAll_eq State.fes (fun _ _ _ _ _ => rfl) _)

theorem State.settled_adcs (s : State) : s.settled.adcs = s.settleContacts.kickAll.adcs :=
  State.late_eq State.adcs (fun _ _ _ => rfl) (fun _ _ => rfl) (fun _ _ _ _ => rfl) (fun _ _ _ => rfl) _

theorem State.settled_engs (s : State) : s.settled.engs = s.settleContacts.kickAll.engs :=
  State.late_eq State.engs (fun _ _ _ => rfl) (fun _ _ => rfl) (fun _ _ _ _ => rfl) (fun _ _ _ => rfl) _

/-- A front-end without a contact check stands, and so do its registers but the converter's. -/
theorem State.settled_fe {s : State} {u : Nat} (h : (s.fe u).contact = none) : s.settled.fe u = s.fe u := by
  unfold State.fe
  rw [s.settled_fes]
  exact ((State.FeSame.refl s).settleContacts h).fe

theorem feB_late (u : Nat) {o : Nat} (ho : o < 0x800) : late (feB u + o) = false := by
  unfold late feB chB shB tileBase
  rw [decide_eq_false_iff_not]
  split <;> omega

theorem State.settled_feRd {s : State} {u o : Nat} (h : (s.fe u).contact = none) (ho : o < 0x800) (hk : kicks (feB u + o) = false) :
    s.settled.rd (feB u + o) = s.rd (feB u + o) := by
  refine (State.late_rd _ (feB_late u ho)).trans ?_
  exact ((State.Kicks.refl _).kickAll.rd _ hk).trans (((State.FeSame.refl s).settleContacts h).rd o ho)

theorem State.settled_feF {s : State} {u : Nat} {f : Fld} (h : (s.fe u).contact = none) (ho : f.off < 0x800) (hk : f.off ≠ 0x104 ∧ f.off ≠ 0x110) :
    s.settled.getF (feB u) f = s.getF (feB u) f :=
  congrArg f.get (State.settled_feRd h ho (by
    unfold kicks feB chB shB tileBase
    rw [decide_eq_false_iff_not]
    split <;> omega))

/-- A converter at work, or held by a rotation, or with nothing to do, stands. -/
theorem State.settled_adc {s : State} {u : Nat} (h : s.adcRests u) (hc : ∀ v, v = u ∨ 1024 ≤ v → (s.fe v).contact = none) :
    s.settled.adc u = s.adc u := by
  unfold State.adc
  rw [s.settled_adcs]
  have e : s.settleContacts.adc u = s.adc u := ((State.ConSame.refl s).settleContacts hc).adc
  exact ((State.AdcSame.refl s.settleContacts).kickAll (by unfold State.adcRests at h ⊢; rw [e]; exact h)).adc.trans e

/-- An engine stands but for its hold; one that does not hold stands. -/
theorem State.settled_engStill {s : State} {c : Nat} (hc : (s.fe c).contact = none) : (s.settled.eng c).still = (s.eng c).still := by
  have e := ((State.FeSame.refl s).settleContacts hc).eng
  show (State.eng _ c).still = _
  unfold State.eng
  rw [s.settled_engs]
  exact ((State.Kicks.refl s.settleContacts).kickAll.eng c).1.trans (congrArg Eng.still e)

theorem State.settled_eng {s : State} {c : Nat} (h : (s.eng c).hold = none) (hc : (s.fe c).contact = none) : s.settled.eng c = s.eng c := by
  have e : s.settleContacts.eng c = s.eng c := ((State.FeSame.refl s).settleContacts hc).eng
  have hn : (s.settled.eng c).hold = none := by
    unfold State.eng
    rw [s.settled_engs]
    exact ((State.Kicks.refl s.settleContacts).kickAll.eng c).2 (by rw [e]; exact h)
  have hs := State.settled_engStill hc
  generalize s.settled.eng c = x at *
  generalize s.eng c = y at *
  cases x; cases y; simp_all [Eng.still]

/-- Ports stand but for what they have sent. -/
theorem State.settled_port (s : State) (p : Nat) : (s.settled.port p).still = (s.port p).still := by
  refine ((State.PortSame.refl _).pump p).trans ?_
  have e1 (s : State) : s.settleEvents.port p = s.port p := by obtain ⟨_, _, _, h⟩ := (State.EvStep.refl s).settleEvents; rw [h]; rfl
  have e2 (s : State) : s.settle.port p = s.port p := by obtain ⟨_, h⟩ := State.RegStep.settle (s₀ := s) ⟨_, rfl⟩; rw [h]; rfl
  have e3 (s : State) : s.settleCharge.port p = s.port p := by obtain ⟨_, _, h⟩ := (State.ChgStep.refl s).settleCharge; rw [h]; rfl
  rw [e1, e2, e3, State.kickAll_eq (fun s => s.port p) (fun _ _ _ _ _ => rfl), State.settleContacts_eq (fun s => s.port p) (fun _ _ _ _ _ => rfl)]

/-! ### GLB_STATUS and IRQ_LATCH -/

theorem State.early_rd (s : State) {a : Nat} (h : a < 0x800000) (hk : ¬ (0x21000 ≤ a ∧ a < 0x22000)) (hc : ¬ (0x500048 ≤ a ∧ a < 0x5000C8)) :
    s.settleContacts.kickAll.settleCharge.rd a = s.rd a := by
  have h1 : s.settleContacts.kickAll.settleCharge.rd a = s.settleContacts.kickAll.rd a :=
    State.Spares.settleCharge (K := fun x => decide (0x500048 ≤ x ∧ x < 0x5000C8)) (State.Spares.refl _)
      (fun c hc => by rw [decide_eq_true_eq]; omega) a (by simpa using hc)
  have h2 : s.settleContacts.kickAll.rd a = s.settleContacts.rd a :=
    (State.Kicks.refl s.settleContacts).kickAll.rd a (by unfold kicks; rw [decide_eq_false_iff_not]; omega)
  have h3 : s.settleContacts.rd a = s.rd a :=
    State.Spares.settleContacts (K := fun x => decide (0x800000 ≤ x)) (State.Spares.refl _)
      (fun u o => by rw [decide_eq_true_eq]; unfold feB chB shB tileBase; split <;> omega) a (by simpa using h)
  exact h1.trans (h2.trans h3)

theorem State.ev_rd (s : State) {a : Nat} (h : ¬ (0x201000 ≤ a ∧ a < 0x206000)) : s.settleEvents.pump.rd a = s.rd a := by
  refine (State.pump_rd _ a).trans ?_
  refine State.Spares.settleEvents (K := evRegs) (State.Spares.refl s) ?_ ?_ a (by unfold evRegs; rw [decide_eq_false_iff_not]; exact h)
  · intro c hc; unfold evRegs; rw [decide_eq_true_eq]; omega
  · intro c hc; unfold evRegs; rw [decide_eq_true_eq]; omega

/-- The fields of GLB_STATUS but STATE stand. -/
theorem State.settled_glb (s : State) {f : Fld} (ho : f.off = 0x10) (hl : 2 < f.lo) : s.settled.getF 0 f = s.getF 0 f := by
  have e : s.settleContacts.kickAll.settleCharge.getF 0 f = s.getF 0 f :=
    congrArg f.get (s.early_rd (by rw [ho]; decide) (by rw [ho]; decide) (by rw [ho]; decide))
  have e2 : s.settled.getF 0 f = s.settleContacts.kickAll.settleCharge.settle.getF 0 f := congrArg f.get (State.ev_rd _ (by rw [ho]; decide))
  refine e2.trans (Eq.trans ?_ e)
  generalize s.settleContacts.kickAll.settleCharge = z
  unfold State.settle State.setMode
  refine ite_keeps (R := fun x => x.getF 0 f = z.getF 0 f) (fun _ => ite_keeps (R := fun x => x.getF 0 f = z.getF 0 f) (fun _ => rfl) fun _ => ?_)
    fun _ => rfl
  exact (State.getF_setF_ne _ (by rw [ho]; decide) _).trans (State.getF_setF_disj _ _ _ _ _ ho.symm (Or.inr hl))

/-- STATE follows R19 in READY and ACTIVE only. -/
theorem State.settled_mode {s : State} (h : s.mode ≠ stREADY) (h2 : s.mode ≠ stACTIVE) : s.settled.mode = s.mode := by
  have e : s.settleContacts.kickAll.settleCharge.mode = s.mode :=
    congrArg GLB_STATUS.STATE.get (s.early_rd (by decide) (by decide) (by decide))
  refine Eq.trans ?_ e
  refine (congrArg GLB_STATUS.STATE.get (State.ev_rd _ (by decide))).trans ?_
  show State.mode _ = _
  generalize s.settleContacts.kickAll.settleCharge = z at *
  unfold State.settle
  rw [if_neg (by rw [e]; exact fun h' => h'.elim h h2)]

/-- In READY and ACTIVE it is one of the two. -/
theorem State.settled_mode_work {s : State} (h : s.mode = stREADY ∨ s.mode = stACTIVE) : s.settled.mode = stREADY ∨ s.settled.mode = stACTIVE := by
  have e : s.settleContacts.kickAll.settleCharge.mode = s.mode :=
    congrArg GLB_STATUS.STATE.get (s.early_rd (by decide) (by decide) (by decide))
  have e2 : s.settled.mode = s.settleContacts.kickAll.settleCharge.settle.mode :=
    congrArg GLB_STATUS.STATE.get (State.ev_rd _ (by decide))
  rw [e2]
  generalize s.settleContacts.kickAll.settleCharge = z at *
  unfold State.settle
  rw [if_pos (by rw [e]; exact h)]
  have m : ∀ x, x = stREADY ∨ x = stACTIVE → (z.setMode x).mode = x := by
    intro x hx
    unfold State.setMode
    split
    · assumption
    · unfold State.mode
      refine (State.getF_setF_ne _ (by decide) _).trans ((State.getF_setF_self _ _ _ _ (by decide)).trans ?_)
      rcases hx with rfl | rfl <;> rfl
  split
  · right; exact m _ (Or.inr rfl)
  · left; exact m _ (Or.inl rfl)

/-- A latch of IRQ_LATCH that is set stays set. -/
theorem State.settled_latch (s : State) {i : Nat} (h : (s.rd 0x200010).getLsbD i = true) : (s.settled.rd 0x200010).getLsbD i = true := by
  have e : s.settleContacts.kickAll.settleCharge.rd 0x200010 = s.rd 0x200010 := s.early_rd (by decide) (by decide) (by decide)
  have e2 : s.settled.rd 0x200010 = s.settleContacts.kickAll.settleCharge.settle.rd 0x200010 := State.ev_rd _ (by decide)
  rw [e2]
  rw [← e] at h
  generalize s.settleContacts.kickAll.settleCharge = z at *
  unfold State.settle State.setMode
  refine ite_keeps (R := fun x => (x.rd 0x200010).getLsbD i = true) (fun _ => ite_keeps (R := fun x => (x.rd 0x200010).getLsbD i = true)
    (fun _ => h) fun _ => ?_) fun _ => h
  rw [State.rd_setF, if_pos (by decide), Fld.getLsbD_put, State.rd_setF_ne _ (by decide)]
  split
  · rename_i hi
    have : i = IRQ_LATCH.STATE.lo := by
      have h1 := hi.1; have h2 := hi.2.1
      have h3 : IRQ_LATCH.STATE.lo = IRQ_LATCH.STATE.hi := by decide
      omega
    rw [this, Nat.sub_self]; rfl
  · exact h

end Sys2Proof.Machine
end

