-- ==== Sys2Proof/Laws/Frame.lean ====
section
/-! SUPPORT. The frame of a meaning: what its own effect leaves alone, settling leaves alone too. -/

namespace Sys2Proof.Machine

/-- t is s but for w, before settling. -/
structure Exact (w : Touch) (s t : State) : Prop where
  regs : ∀ a, ¬ w.regs a → t.rd a = s.rd a
  sram : ∀ a, ¬ w.sram a → t.sramByte a = s.sramByte a
  flash : ∀ a, ¬ w.flash a → t.flashByte a = s.flashByte a
  host : ∀ a, ¬ w.host a → t.hostByte a = s.hostByte a
  fes : ∀ u, ¬ w.fes u → t.fe u = s.fe u
  adcs : ∀ u, ¬ w.adcs u → t.adc u = s.adc u
  engs : ∀ c, ¬ w.engs c → t.eng c = s.eng c
  ports : ∀ p, ¬ w.ports p → t.port p = s.port p
  con : ∀ v, (s.fe v).contact = none → (t.fe v).contact = none
  parts : w.parts t.parts = w.parts s.parts

theorem State.settled_parts (s : State) : s.settled.parts = s.parts := by
  have h1 := State.late_eq State.parts (fun _ _ _ => rfl) (fun _ _ => rfl) (fun _ _ _ _ => rfl) (fun _ _ _ => rfl) s.settleContacts.kickAll
  have h2 := State.kickAll_eq State.parts (fun _ _ _ _ _ => rfl) s.settleContacts
  have h3 := State.settleContacts_eq State.parts (fun _ _ _ _ _ => rfl) s
  exact h1.trans (h2.trans h3)

theorem State.settled_status (s : State) {i : Nat} (h : 3 ≤ i) : (s.settled.rd 0x10).getLsbD i = (s.rd 0x10).getLsbD i := by
  have e := s.settled_glb (f := ⟨0x10, i, i⟩) rfl h
  unfold State.getF at e
  have e2 := congrArg (fun n => n.testBit 0) e
  simp only [Fld.testBit_get] at e2
  simpa using e2

variable {w : Touch} {s t : State}

theorem Exact.settled (h : Exact w s t) : Frame w s t.settled where
  regs a ha hf := (t.settled_rd hf).trans (h.regs a ha)
  status h0 i hi := (t.settled_status hi).trans (by rw [h.regs _ h0])
  sram a ha := by unfold State.sramByte; rw [t.settled_sram]; exact h.sram a ha
  flash a ha := by unfold State.flashByte; rw [t.settled_flash]; exact h.flash a ha
  host a ha := by unfold State.hostByte; rw [t.settled_host]; exact h.host a ha
  fes u hu hc := by
    have e := h.fes u hu
    have hc' : (t.fe u).contact = none := by rw [e]; exact hc
    refine ⟨(State.settled_fe hc').trans e, fun o ho hr => ?_⟩
    refine (State.settled_feRd hc' (by omega) ?_).trans (h.regs _ hr)
    unfold kicks feB chB shB tileBase
    rw [decide_eq_false_iff_not]
    split <;> omega
  adcs u hu hr hc := by
    have e := h.adcs u hu
    exact (State.settled_adc (by unfold State.adcRests at hr ⊢; rw [e]; exact hr) fun v hv => h.con v (hc v hv)).trans e
  engs c hc hn := (State.settled_engStill (h.con c hn)).trans (by rw [h.engs c hc])
  ports p hp := (t.settled_port p).trans (by rw [h.ports p hp])
  parts := by rw [t.settled_parts]; exact h.parts

namespace Exact

theorem refl (w : Touch) (s : State) : Exact w s s :=
  ⟨fun _ _ => rfl, fun _ _ => rfl, fun _ _ => rfl, fun _ _ => rfl, fun _ _ => rfl, fun _ _ => rfl, fun _ _ => rfl, fun _ _ => rfl, fun _ h => h, rfl⟩

theorem wr (h : Exact w s t) {a : Nat} (x : Word) (ha : w.regs a) : Exact w s (t.wr a x) :=
  { h with regs := fun b hb => (t.rd_wr_ne (fun (e : a = b) => hb (e ▸ ha)) x).trans (h.regs b hb) }

theorem setF (h : Exact w s t) {b : Nat} {f : Fld} (v : Nat) (ha : w.regs (b + f.off)) : Exact w s (t.setF b f v) := h.wr _ ha

theorem setFs {b : Nat} {l : List (Fld × Nat)} (h : Exact w s t) (hl : ∀ e ∈ l, w.regs (b + e.1.off)) : Exact w s (t.setFs b l) := by
  unfold State.setFs
  induction l generalizing t with
  | nil => exact h
  | cons e l ih =>
    exact ih (h.setF e.2 (hl e List.mem_cons_self)) fun x hx => hl x (List.mem_cons_of_mem _ hx)

theorem modFe (h : Exact w s t) {u : Nat} (f : Fe → Fe) (hu : w.fes u) (hf : ∀ x, x.contact = none → (f x).contact = none) :
    Exact w s (t.modFe u f) :=
  { h with
    fes := fun v hv => (tabGet_tabSet_ne _ _ _ fun (e : u = v) => hv (e ▸ hu)).trans (h.fes v hv)
    con := fun v hv => by
      by_cases e : u = v
      · subst e; rw [State.fe_modFe_self]; exact hf _ (h.con u hv)
      · rw [State.fe_modFe, if_neg e]; exact h.con v hv }

theorem modAdc (h : Exact w s t) {u : Nat} (f : Adc → Adc) (hu : w.adcs u) : Exact w s (t.modAdc u f) :=
  { h with adcs := fun v hv => (tabGet_tabSet_ne _ _ _ fun (e : u = v) => hv (e ▸ hu)).trans (h.adcs v hv) }

theorem modEng (h : Exact w s t) {u : Nat} (f : Eng → Eng) (hu : w.engs u) : Exact w s (t.modEng u f) :=
  { h with engs := fun v hv => (tabGet_tabSet_ne _ _ _ fun (e : u = v) => hv (e ▸ hu)).trans (h.engs v hv) }

theorem modPort (h : Exact w s t) {u : Nat} (f : Port → Port) (hu : w.ports u) : Exact w s (t.modPort u f) :=
  { h with ports := fun v hv => (tabGet_tabSet_ne _ _ _ fun (e : u = v) => hv (e ▸ hu)).trans (h.ports v hv) }

theorem mapCmds (h : Exact w s t) (p : Cmd → Bool) (f : Cmd → Cmd) : Exact w s (t.mapCmds p f) := { h with }
theorem set_own (h : Exact w s t) {x : List (Option Nat × Tp)} : Exact w s { t with own := x } := { h with }
theorem modSrc (h : Exact w s t) (n : Nat) (f : Src → Src) : Exact w s (t.modSrc n f) := { h with }
theorem modVec (h : Exact w s t) (n : Nat) (f : Vecr → Vecr) : Exact w s (t.modVec n f) := { h with }
theorem set_charges (h : Exact w s t) {x : List (Nat × Nat)} : Exact w s { t with charges := x } := { h with }
theorem setCharge (h : Exact w s t) (c mw : Nat) (ha : w.regs (0x10 * (c / 128) + THM_TILE_GOV.CHARGED.off)) : Exact w s (t.setCharge c mw) := by
  unfold State.setCharge
  extract_lets b s'
  have g : Exact w s s' := h.setF _ ha
  clear_value s'
  exact g.set_charges

/-- A step that changes parts that w blanks. -/
theorem congr (h : Exact w s t) {z : State} (hp : w.parts z.parts = w.parts t.parts)
    (h1 : z.regs = t.regs) (h2 : z.sram = t.sram) (h3 : z.flash = t.flash) (h4 : z.host = t.host) (h5 : z.fes = t.fes) (h6 : z.adcs = t.adcs)
    (h7 : z.engs = t.engs) (h8 : z.ports = t.ports) : Exact w s z where
  regs a ha := (by unfold State.rd; rw [h1] : z.rd a = t.rd a).trans (h.regs a ha)
  sram a ha := (by unfold State.sramByte; rw [h2] : z.sramByte a = t.sramByte a).trans (h.sram a ha)
  flash a ha := (by unfold State.flashByte; rw [h3] : z.flashByte a = t.flashByte a).trans (h.flash a ha)
  host a ha := (by unfold State.hostByte; rw [h4] : z.hostByte a = t.hostByte a).trans (h.host a ha)
  fes u hu := (by unfold State.fe; rw [h5] : z.fe u = t.fe u).trans (h.fes u hu)
  adcs u hu := (by unfold State.adc; rw [h6] : z.adc u = t.adc u).trans (h.adcs u hu)
  engs u hu := (by unfold State.eng; rw [h7] : z.eng u = t.eng u).trans (h.engs u hu)
  ports u hu := (by unfold State.port; rw [h8] : z.port u = t.port u).trans (h.ports u hu)
  con v hv := (by unfold State.fe; rw [h5] : z.fe v = t.fe v) ▸ h.con v hv
  parts := hp.trans h.parts

end Exact

end Sys2Proof.Machine
end

