-- ==== Sys2Proof/Laws/Keeps.lean ====
section
/-! SUPPORT. What every operation of the model keeps, as one relation between the state it starts from and the state it reaches, and the
lemmas by which it passes through record updates, folds and results. -/

namespace Sys2Proof.Machine

/-- Everything that any operation on s₀ keeps: the canonical form, the queue of commands, the model's time, the width of the time base,
the order of open values, the raised minimum SVN. -/
structure State.Kept (s₀ t : State) : Prop where
  wf : s₀.Wf → t.Wf
  pending : t.pending = s₀.pending
  uptime : t.uptime = s₀.uptime
  tb : s₀.tb < 2 ^ 56 → t.tb < 2 ^ 56
  free : s₀.free ≤ t.free
  svn : s₀.svnRaised ≤ t.svnRaised

/-- The outcome r leads only to states that keep what s₀ has. -/
def Res.Kept (s₀ : State) (r : Res) : Prop := ∀ t, r = .next t → s₀.Kept t

namespace State.Kept

theorem refl (s : State) : s.Kept s := ⟨id, rfl, rfl, id, Nat.le_refl _, Nat.le_refl _⟩

variable {s₀ z t : State}

theorem trans {u : State} (h : s₀.Kept t) (g : t.Kept u) : s₀.Kept u :=
  ⟨fun w => g.wf (h.wf w), g.pending.trans h.pending, g.uptime.trans h.uptime, fun w => g.tb (h.tb w), h.free.trans g.free, h.svn.trans g.svn⟩

theorem set_adcs (h : s₀.Kept z) {x_adcs} (h_adcs : s₀.Wf → tabWf (fun _ => {}) x_adcs = true) :
    s₀.Kept { z with adcs := x_adcs } :=
  ⟨fun w => { h.wf w with adcs := h_adcs w }, h.pending, h.uptime, h.tb, h.free, h.svn⟩

theorem set_anchor (h : s₀.Kept z) {x_anchor}  :
    s₀.Kept { z with anchor := x_anchor } :=
  ⟨fun w => { h.wf w with  }, h.pending, h.uptime, h.tb, h.free, h.svn⟩

theorem set_arbLast (h : s₀.Kept z) {x_arbLast}  :
    s₀.Kept { z with arbLast := x_arbLast } :=
  ⟨fun w => { h.wf w with  }, h.pending, h.uptime, h.tb, h.free, h.svn⟩

theorem set_arbLeft (h : s₀.Kept z) {x_arbLeft}  :
    s₀.Kept { z with arbLeft := x_arbLeft } :=
  ⟨fun w => { h.wf w with  }, h.pending, h.uptime, h.tb, h.free, h.svn⟩

theorem set_archNext (h : s₀.Kept z) {x_archNext}  :
    s₀.Kept { z with archNext := x_archNext } :=
  ⟨fun w => { h.wf w with  }, h.pending, h.uptime, h.tb, h.free, h.svn⟩

theorem set_archNow (h : s₀.Kept z) {x_archNow}  :
    s₀.Kept { z with archNow := x_archNow } :=
  ⟨fun w => { h.wf w with  }, h.pending, h.uptime, h.tb, h.free, h.svn⟩

theorem set_armLine (h : s₀.Kept z) {x_armLine}  :
    s₀.Kept { z with armLine := x_armLine } :=
  ⟨fun w => { h.wf w with  }, h.pending, h.uptime, h.tb, h.free, h.svn⟩

theorem set_bbStage (h : s₀.Kept z) {x_bbStage}  :
    s₀.Kept { z with bbStage := x_bbStage } :=
  ⟨fun w => { h.wf w with  }, h.pending, h.uptime, h.tb, h.free, h.svn⟩

theorem set_calAt (h : s₀.Kept z) {x_calAt}  :
    s₀.Kept { z with calAt := x_calAt } :=
  ⟨fun w => { h.wf w with  }, h.pending, h.uptime, h.tb, h.free, h.svn⟩

theorem set_calBack (h : s₀.Kept z) {x_calBack}  :
    s₀.Kept { z with calBack := x_calBack } :=
  ⟨fun w => { h.wf w with  }, h.pending, h.uptime, h.tb, h.free, h.svn⟩

theorem set_calDirty (h : s₀.Kept z) {x_calDirty}  :
    s₀.Kept { z with calDirty := x_calDirty } :=
  ⟨fun w => { h.wf w with  }, h.pending, h.uptime, h.tb, h.free, h.svn⟩

theorem set_calSet (h : s₀.Kept z) {x_calSet}  :
    s₀.Kept { z with calSet := x_calSet } :=
  ⟨fun w => { h.wf w with  }, h.pending, h.uptime, h.tb, h.free, h.svn⟩

theorem set_charges (h : s₀.Kept z) {x_charges} (h_charges : s₀.Wf → tabWf (fun _ => 0) x_charges = true) :
    s₀.Kept { z with charges := x_charges } :=
  ⟨fun w => { h.wf w with charges := h_charges w }, h.pending, h.uptime, h.tb, h.free, h.svn⟩

theorem set_cmds (h : s₀.Kept z) {x_cmds}  :
    s₀.Kept { z with cmds := x_cmds } :=
  ⟨fun w => { h.wf w with  }, h.pending, h.uptime, h.tb, h.free, h.svn⟩

theorem set_cmps (h : s₀.Kept z) {x_cmps} (h_cmps : s₀.Wf → tabWf (fun _ => {}) x_cmps = true) :
    s₀.Kept { z with cmps := x_cmps } :=
  ⟨fun w => { h.wf w with cmps := h_cmps w }, h.pending, h.uptime, h.tb, h.free, h.svn⟩

theorem set_commitCmds (h : s₀.Kept z) {x_commitCmds}  :
    s₀.Kept { z with commitCmds := x_commitCmds } :=
  ⟨fun w => { h.wf w with  }, h.pending, h.uptime, h.tb, h.free, h.svn⟩

theorem set_commitPend (h : s₀.Kept z) {x_commitPend}  :
    s₀.Kept { z with commitPend := x_commitPend } :=
  ⟨fun w => { h.wf w with  }, h.pending, h.uptime, h.tb, h.free, h.svn⟩

theorem set_cs (h : s₀.Kept z) {x_cs} (h_cs : s₀.Wf → tabWf (fun _ => 0) x_cs = true) :
    s₀.Kept { z with cs := x_cs } :=
  ⟨fun w => { h.wf w with cs := h_cs w }, h.pending, h.uptime, h.tb, h.free, h.svn⟩

theorem set_ctxs (h : s₀.Kept z) {x_ctxs} (h_ctxs : s₀.Wf → tabWf (fun _ => {}) x_ctxs = true) :
    s₀.Kept { z with ctxs := x_ctxs } :=
  ⟨fun w => { h.wf w with ctxs := h_ctxs w }, h.pending, h.uptime, h.tb, h.free, h.svn⟩

theorem set_diagOut (h : s₀.Kept z) {x_diagOut}  :
    s₀.Kept { z with diagOut := x_diagOut } :=
  ⟨fun w => { h.wf w with  }, h.pending, h.uptime, h.tb, h.free, h.svn⟩

theorem set_div (h : s₀.Kept z) {x_div}  :
    s₀.Kept { z with div := x_div } :=
  ⟨fun w => { h.wf w with  }, h.pending, h.uptime, h.tb, h.free, h.svn⟩

theorem set_dwFailed (h : s₀.Kept z) {x_dwFailed}  :
    s₀.Kept { z with dwFailed := x_dwFailed } :=
  ⟨fun w => { h.wf w with  }, h.pending, h.uptime, h.tb, h.free, h.svn⟩

theorem set_engs (h : s₀.Kept z) {x_engs} (h_engs : s₀.Wf → tabWf (fun _ => {}) x_engs = true) :
    s₀.Kept { z with engs := x_engs } :=
  ⟨fun w => { h.wf w with engs := h_engs w }, h.pending, h.uptime, h.tb, h.free, h.svn⟩

theorem set_fes (h : s₀.Kept z) {x_fes} (h_fes : s₀.Wf → tabWf (fun _ => {}) x_fes = true) :
    s₀.Kept { z with fes := x_fes } :=
  ⟨fun w => { h.wf w with fes := h_fes w }, h.pending, h.uptime, h.tb, h.free, h.svn⟩

theorem set_fetched (h : s₀.Kept z) {x_fetched}  :
    s₀.Kept { z with fetched := x_fetched } :=
  ⟨fun w => { h.wf w with  }, h.pending, h.uptime, h.tb, h.free, h.svn⟩

theorem set_flGroups (h : s₀.Kept z) {x_flGroups} (h_flGroups : s₀.Wf → tabWf (fun _ => {}) x_flGroups = true) :
    s₀.Kept { z with flGroups := x_flGroups } :=
  ⟨fun w => { h.wf w with flGroups := h_flGroups w }, h.pending, h.uptime, h.tb, h.free, h.svn⟩

theorem set_flash (h : s₀.Kept z) {x_flash} (h_flash : s₀.Wf → tabWf flashReset x_flash = true) :
    s₀.Kept { z with flash := x_flash } :=
  ⟨fun w => { h.wf w with flash := h_flash w }, h.pending, h.uptime, h.tb, h.free, h.svn⟩

theorem set_free (h : s₀.Kept z) : s₀.Kept { z with free := z.free + 1 } :=
  ⟨fun w => { h.wf w with }, h.pending, h.uptime, h.tb, Nat.le_succ_of_le h.free, h.svn⟩

theorem set_good (h : s₀.Kept z) {x_good} (h_good : s₀.Wf → tabWf (fun _ => 0) x_good = true) :
    s₀.Kept { z with good := x_good } :=
  ⟨fun w => { h.wf w with good := h_good w }, h.pending, h.uptime, h.tb, h.free, h.svn⟩

theorem set_host (h : s₀.Kept z) {x_host} (h_host : s₀.Wf → tabWf hostReset x_host = true) :
    s₀.Kept { z with host := x_host } :=
  ⟨fun w => { h.wf w with host := h_host w }, h.pending, h.uptime, h.tb, h.free, h.svn⟩

theorem set_inReset (h : s₀.Kept z) {x_inReset}  :
    s₀.Kept { z with inReset := x_inReset } :=
  ⟨fun w => { h.wf w with  }, h.pending, h.uptime, h.tb, h.free, h.svn⟩

theorem set_insts (h : s₀.Kept z) {x_insts} (h_insts : s₀.Wf → tabWf (fun _ => {}) x_insts = true) :
    s₀.Kept { z with insts := x_insts } :=
  ⟨fun w => { h.wf w with insts := h_insts w }, h.pending, h.uptime, h.tb, h.free, h.svn⟩

theorem set_intakes (h : s₀.Kept z) {x_intakes}  :
    s₀.Kept { z with intakes := x_intakes } :=
  ⟨fun w => { h.wf w with  }, h.pending, h.uptime, h.tb, h.free, h.svn⟩

theorem set_jobs (h : s₀.Kept z) {x_jobs} (h_jobs : s₀.Wf → tabWf (fun _ => none) x_jobs = true) :
    s₀.Kept { z with jobs := x_jobs } :=
  ⟨fun w => { h.wf w with jobs := h_jobs w }, h.pending, h.uptime, h.tb, h.free, h.svn⟩

theorem set_lastCls (h : s₀.Kept z) {x_lastCls} (h_lastCls : s₀.Wf → tabWf (fun _ => 0) x_lastCls = true) :
    s₀.Kept { z with lastCls := x_lastCls } :=
  ⟨fun w => { h.wf w with lastCls := h_lastCls w }, h.pending, h.uptime, h.tb, h.free, h.svn⟩

theorem set_latched (h : s₀.Kept z) {x_latched} (h_latched : s₀.Wf → tabWf (fun _ => 0) x_latched = true) :
    s₀.Kept { z with latched := x_latched } :=
  ⟨fun w => { h.wf w with latched := h_latched w }, h.pending, h.uptime, h.tb, h.free, h.svn⟩

theorem set_mics (h : s₀.Kept z) {x_mics} (h_mics : s₀.Wf → tabWf (fun _ => {}) x_mics = true) :
    s₀.Kept { z with mics := x_mics } :=
  ⟨fun w => { h.wf w with mics := h_mics w }, h.pending, h.uptime, h.tb, h.free, h.svn⟩

theorem set_newBroken (h : s₀.Kept z) {x_newBroken}  :
    s₀.Kept { z with newBroken := x_newBroken } :=
  ⟨fun w => { h.wf w with  }, h.pending, h.uptime, h.tb, h.free, h.svn⟩

theorem set_off (h : s₀.Kept z) {x_off}  :
    s₀.Kept { z with off := x_off } :=
  ⟨fun w => { h.wf w with  }, h.pending, h.uptime, h.tb, h.free, h.svn⟩

theorem set_own (h : s₀.Kept z) {x_own}  :
    s₀.Kept { z with own := x_own } :=
  ⟨fun w => { h.wf w with  }, h.pending, h.uptime, h.tb, h.free, h.svn⟩

theorem set_pairs (h : s₀.Kept z) {x_pairs} (h_pairs : s₀.Wf → tabWf (fun _ => 0) x_pairs = true) :
    s₀.Kept { z with pairs := x_pairs } :=
  ⟨fun w => { h.wf w with pairs := h_pairs w }, h.pending, h.uptime, h.tb, h.free, h.svn⟩

theorem set_ports (h : s₀.Kept z) {x_ports} (h_ports : s₀.Wf → tabWf (fun _ => {}) x_ports = true) :
    s₀.Kept { z with ports := x_ports } :=
  ⟨fun w => { h.wf w with ports := h_ports w }, h.pending, h.uptime, h.tb, h.free, h.svn⟩

theorem set_pulses (h : s₀.Kept z) {x_pulses} (h_pulses : s₀.Wf → tabWf (fun _ => 0) x_pulses = true) :
    s₀.Kept { z with pulses := x_pulses } :=
  ⟨fun w => { h.wf w with pulses := h_pulses w }, h.pending, h.uptime, h.tb, h.free, h.svn⟩

theorem set_rails (h : s₀.Kept z) {x_rails} (h_rails : s₀.Wf → tabWf (fun _ => 65536) x_rails = true) :
    s₀.Kept { z with rails := x_rails } :=
  ⟨fun w => { h.wf w with rails := h_rails w }, h.pending, h.uptime, h.tb, h.free, h.svn⟩

theorem set_reads (h : s₀.Kept z) {x_reads}  :
    s₀.Kept { z with reads := x_reads } :=
  ⟨fun w => { h.wf w with  }, h.pending, h.uptime, h.tb, h.free, h.svn⟩

theorem set_regs (h : s₀.Kept z) {x_regs} (h_regs : s₀.Wf → tabWf resetWord x_regs = true) :
    s₀.Kept { z with regs := x_regs } :=
  ⟨fun w => { h.wf w with regs := h_regs w }, h.pending, h.uptime, h.tb, h.free, h.svn⟩

theorem set_rotAt (h : s₀.Kept z) {x_rotAt} (h_rotAt : s₀.Wf → tabWf (fun _ => none) x_rotAt = true) :
    s₀.Kept { z with rotAt := x_rotAt } :=
  ⟨fun w => { h.wf w with rotAt := h_rotAt w }, h.pending, h.uptime, h.tb, h.free, h.svn⟩

theorem set_rots (h : s₀.Kept z) {x_rots} (h_rots : s₀.Wf → tabWf (fun _ => {}) x_rots = true) :
    s₀.Kept { z with rots := x_rots } :=
  ⟨fun w => { h.wf w with rots := h_rots w }, h.pending, h.uptime, h.tb, h.free, h.svn⟩

theorem set_round (h : s₀.Kept z) {x_round}  :
    s₀.Kept { z with round := x_round } :=
  ⟨fun w => { h.wf w with  }, h.pending, h.uptime, h.tb, h.free, h.svn⟩

theorem set_spa (h : s₀.Kept z) {x_spa}  :
    s₀.Kept { z with spa := x_spa } :=
  ⟨fun w => { h.wf w with  }, h.pending, h.uptime, h.tb, h.free, h.svn⟩

theorem set_spaMode (h : s₀.Kept z) {x_spaMode}  :
    s₀.Kept { z with spaMode := x_spaMode } :=
  ⟨fun w => { h.wf w with  }, h.pending, h.uptime, h.tb, h.free, h.svn⟩

theorem set_spbOut (h : s₀.Kept z) {x_spbOut}  :
    s₀.Kept { z with spbOut := x_spbOut } :=
  ⟨fun w => { h.wf w with  }, h.pending, h.uptime, h.tb, h.free, h.svn⟩

theorem set_sram (h : s₀.Kept z) {x_sram} (h_sram : s₀.Wf → tabWf sramReset x_sram = true) :
    s₀.Kept { z with sram := x_sram } :=
  ⟨fun w => { h.wf w with sram := h_sram w }, h.pending, h.uptime, h.tb, h.free, h.svn⟩

theorem set_srcs (h : s₀.Kept z) {x_srcs} (h_srcs : s₀.Wf → tabWf (fun _ => {}) x_srcs = true) :
    s₀.Kept { z with srcs := x_srcs } :=
  ⟨fun w => { h.wf w with srcs := h_srcs w }, h.pending, h.uptime, h.tb, h.free, h.svn⟩

theorem set_stagedTiles (h : s₀.Kept z) {x_stagedTiles}  :
    s₀.Kept { z with stagedTiles := x_stagedTiles } :=
  ⟨fun w => { h.wf w with  }, h.pending, h.uptime, h.tb, h.free, h.svn⟩

theorem set_stagedUnits (h : s₀.Kept z) {x_stagedUnits}  :
    s₀.Kept { z with stagedUnits := x_stagedUnits } :=
  ⟨fun w => { h.wf w with  }, h.pending, h.uptime, h.tb, h.free, h.svn⟩

theorem set_stagedXfer (h : s₀.Kept z) {x_stagedXfer}  :
    s₀.Kept { z with stagedXfer := x_stagedXfer } :=
  ⟨fun w => { h.wf w with  }, h.pending, h.uptime, h.tb, h.free, h.svn⟩

theorem set_svcEntry (h : s₀.Kept z) {x_svcEntry}  :
    s₀.Kept { z with svcEntry := x_svcEntry } :=
  ⟨fun w => { h.wf w with  }, h.pending, h.uptime, h.tb, h.free, h.svn⟩

theorem set_svcExit (h : s₀.Kept z) {x_svcExit}  :
    s₀.Kept { z with svcExit := x_svcExit } :=
  ⟨fun w => { h.wf w with  }, h.pending, h.uptime, h.tb, h.free, h.svn⟩

theorem set_svnRaised (h : s₀.Kept z) {x_svnRaised} (h_svn : s₀.svnRaised ≤ x_svnRaised) :
    s₀.Kept { z with svnRaised := x_svnRaised } :=
  ⟨fun w => { h.wf w with  }, h.pending, h.uptime, h.tb, h.free, h_svn⟩

theorem set_syncArmed (h : s₀.Kept z) {x_syncArmed}  :
    s₀.Kept { z with syncArmed := x_syncArmed } :=
  ⟨fun w => { h.wf w with  }, h.pending, h.uptime, h.tb, h.free, h.svn⟩

theorem set_tapIr (h : s₀.Kept z) {x_tapIr}  :
    s₀.Kept { z with tapIr := x_tapIr } :=
  ⟨fun w => { h.wf w with  }, h.pending, h.uptime, h.tb, h.free, h.svn⟩

theorem set_tb (h : s₀.Kept z) {x_tb} (h_tb : s₀.tb < 2 ^ 56 → x_tb < 2 ^ 56) :
    s₀.Kept { z with tb := x_tb } :=
  ⟨fun w => { h.wf w with  }, h.pending, h.uptime, h_tb, h.free, h.svn⟩

theorem set_tdcs (h : s₀.Kept z) {x_tdcs} (h_tdcs : s₀.Wf → tabWf (fun _ => {}) x_tdcs = true) :
    s₀.Kept { z with tdcs := x_tdcs } :=
  ⟨fun w => { h.wf w with tdcs := h_tdcs w }, h.pending, h.uptime, h.tb, h.free, h.svn⟩

theorem set_tests (h : s₀.Kept z) {x_tests}  :
    s₀.Kept { z with tests := x_tests } :=
  ⟨fun w => { h.wf w with  }, h.pending, h.uptime, h.tb, h.free, h.svn⟩

theorem set_tiles (h : s₀.Kept z) {x_tiles} (h_tiles : s₀.Wf → tabWf (fun _ => {}) x_tiles = true) :
    s₀.Kept { z with tiles := x_tiles } :=
  ⟨fun w => { h.wf w with tiles := h_tiles w }, h.pending, h.uptime, h.tb, h.free, h.svn⟩

theorem set_timing (h : s₀.Kept z) {x_timing} (h_timing : s₀.Wf → tabWf (fun _ => {}) x_timing = true) :
    s₀.Kept { z with timing := x_timing } :=
  ⟨fun w => { h.wf w with timing := h_timing w }, h.pending, h.uptime, h.tb, h.free, h.svn⟩

theorem set_timingNew (h : s₀.Kept z) {x_timingNew} (h_timingNew : s₀.Wf → tabWf (fun _ => {}) x_timingNew = true) :
    s₀.Kept { z with timingNew := x_timingNew } :=
  ⟨fun w => { h.wf w with timingNew := h_timingNew w }, h.pending, h.uptime, h.tb, h.free, h.svn⟩

theorem set_trigs (h : s₀.Kept z) {x_trigs} (h_trigs : s₀.Wf → tabWf (fun _ => {}) x_trigs = true) :
    s₀.Kept { z with trigs := x_trigs } :=
  ⟨fun w => { h.wf w with trigs := h_trigs w }, h.pending, h.uptime, h.tb, h.free, h.svn⟩

theorem set_unlocked (h : s₀.Kept z) {x_unlocked}  :
    s₀.Kept { z with unlocked := x_unlocked } :=
  ⟨fun w => { h.wf w with  }, h.pending, h.uptime, h.tb, h.free, h.svn⟩

theorem set_vecLast (h : s₀.Kept z) {x_vecLast}  :
    s₀.Kept { z with vecLast := x_vecLast } :=
  ⟨fun w => { h.wf w with  }, h.pending, h.uptime, h.tb, h.free, h.svn⟩

theorem set_vecs (h : s₀.Kept z) {x_vecs} (h_vecs : s₀.Wf → tabWf (fun _ => {}) x_vecs = true) :
    s₀.Kept { z with vecs := x_vecs } :=
  ⟨fun w => { h.wf w with vecs := h_vecs w }, h.pending, h.uptime, h.tb, h.free, h.svn⟩

theorem set_arbLast_arbLeft (h : s₀.Kept z) {x_arbLast x_arbLeft}  :
    s₀.Kept { z with arbLast := x_arbLast, arbLeft := x_arbLeft } :=
  ⟨fun w => { h.wf w with  }, h.pending, h.uptime, h.tb, h.free, h.svn⟩

theorem set_archNow_archNext (h : s₀.Kept z) {x_archNow x_archNext}  :
    s₀.Kept { z with archNow := x_archNow, archNext := x_archNext } :=
  ⟨fun w => { h.wf w with  }, h.pending, h.uptime, h.tb, h.free, h.svn⟩

theorem set_calDirty_rotAt (h : s₀.Kept z) {x_calDirty x_rotAt} (h_rotAt : s₀.Wf → tabWf (fun _ => none) x_rotAt = true) :
    s₀.Kept { z with calDirty := x_calDirty, rotAt := x_rotAt } :=
  ⟨fun w => { h.wf w with rotAt := h_rotAt w }, h.pending, h.uptime, h.tb, h.free, h.svn⟩

theorem set_calSet_calAt (h : s₀.Kept z) {x_calSet x_calAt}  :
    s₀.Kept { z with calSet := x_calSet, calAt := x_calAt } :=
  ⟨fun w => { h.wf w with  }, h.pending, h.uptime, h.tb, h.free, h.svn⟩

theorem set_commitPend_commitCmds (h : s₀.Kept z) {x_commitPend x_commitCmds}  :
    s₀.Kept { z with commitPend := x_commitPend, commitCmds := x_commitCmds } :=
  ⟨fun w => { h.wf w with  }, h.pending, h.uptime, h.tb, h.free, h.svn⟩

theorem set_host_own (h : s₀.Kept z) {x_host x_own} (h_host : s₀.Wf → tabWf hostReset x_host = true) :
    s₀.Kept { z with host := x_host, own := x_own } :=
  ⟨fun w => { h.wf w with host := h_host w }, h.pending, h.uptime, h.tb, h.free, h.svn⟩

theorem set_inReset_unlocked (h : s₀.Kept z) {x_inReset x_unlocked}  :
    s₀.Kept { z with inReset := x_inReset, unlocked := x_unlocked } :=
  ⟨fun w => { h.wf w with  }, h.pending, h.uptime, h.tb, h.free, h.svn⟩

theorem set_own_reads (h : s₀.Kept z) {x_own x_reads}  :
    s₀.Kept { z with own := x_own, reads := x_reads } :=
  ⟨fun w => { h.wf w with  }, h.pending, h.uptime, h.tb, h.free, h.svn⟩

theorem set_reads_fetched (h : s₀.Kept z) {x_reads x_fetched}  :
    s₀.Kept { z with reads := x_reads, fetched := x_fetched } :=
  ⟨fun w => { h.wf w with  }, h.pending, h.uptime, h.tb, h.free, h.svn⟩

theorem set_round_newBroken (h : s₀.Kept z) {x_round x_newBroken}  :
    s₀.Kept { z with round := x_round, newBroken := x_newBroken } :=
  ⟨fun w => { h.wf w with  }, h.pending, h.uptime, h.tb, h.free, h.svn⟩

theorem set_sram_bbStage (h : s₀.Kept z) {x_sram x_bbStage} (h_sram : s₀.Wf → tabWf sramReset x_sram = true) :
    s₀.Kept { z with sram := x_sram, bbStage := x_bbStage } :=
  ⟨fun w => { h.wf w with sram := h_sram w }, h.pending, h.uptime, h.tb, h.free, h.svn⟩

theorem set_svcEntry_svcExit (h : s₀.Kept z) {x_svcEntry x_svcExit}  :
    s₀.Kept { z with svcEntry := x_svcEntry, svcExit := x_svcExit } :=
  ⟨fun w => { h.wf w with  }, h.pending, h.uptime, h.tb, h.free, h.svn⟩

theorem set_tb_div (h : s₀.Kept z) {x_tb x_div} (h_tb : s₀.tb < 2 ^ 56 → x_tb < 2 ^ 56) :
    s₀.Kept { z with tb := x_tb, div := x_div } :=
  ⟨fun w => { h.wf w with  }, h.pending, h.uptime, h_tb, h.free, h.svn⟩

theorem set_archNow_archNext_tests (h : s₀.Kept z) {x_archNow x_archNext x_tests}  :
    s₀.Kept { z with archNow := x_archNow, archNext := x_archNext, tests := x_tests } :=
  ⟨fun w => { h.wf w with  }, h.pending, h.uptime, h.tb, h.free, h.svn⟩

theorem set_cmds_intakes_fetched (h : s₀.Kept z) {x_cmds x_intakes x_fetched}  :
    s₀.Kept { z with cmds := x_cmds, intakes := x_intakes, fetched := x_fetched } :=
  ⟨fun w => { h.wf w with  }, h.pending, h.uptime, h.tb, h.free, h.svn⟩

theorem set_off_tapIr_unlocked_dwFailed (h : s₀.Kept z) {x_off x_tapIr x_unlocked x_dwFailed}  :
    s₀.Kept { z with off := x_off, tapIr := x_tapIr, unlocked := x_unlocked, dwFailed := x_dwFailed } :=
  ⟨fun w => { h.wf w with  }, h.pending, h.uptime, h.tb, h.free, h.svn⟩

theorem set_anchor_timingNew_stagedUnits_stagedTiles_stagedXfer (h : s₀.Kept z) {x_anchor x_timingNew x_stagedUnits x_stagedTiles x_stagedXfer} (h_timingNew : s₀.Wf → tabWf (fun _ => {}) x_timingNew = true) :
    s₀.Kept { z with anchor := x_anchor, timingNew := x_timingNew, stagedUnits := x_stagedUnits, stagedTiles := x_stagedTiles, stagedXfer := x_stagedXfer } :=
  ⟨fun w => { h.wf w with timingNew := h_timingNew w }, h.pending, h.uptime, h.tb, h.free, h.svn⟩

theorem foldl {α : Type} {f : State → α → State} (l : List α) (h : s₀.Kept z) (hf : ∀ s a, s₀.Kept s → s₀.Kept (f s a)) :
    s₀.Kept (l.foldl f z) := by
  induction l generalizing z with
  | nil => exact h
  | cons a l ih => exact ih (hf z a h)

/-- A fold whose state is one part of what it carries. -/
theorem foldl_fst {α β : Type} {f : State × β → α → State × β} (l : List α) {p : State × β} (h : s₀.Kept p.1)
    (hf : ∀ q a, s₀.Kept q.1 → s₀.Kept (f q a).1) : s₀.Kept (l.foldl f p).1 := by
  induction l generalizing p with
  | nil => exact h
  | cons a l ih => exact ih (hf p a h)

theorem foldl_snd {α β : Type} {f : β × State → α → β × State} (l : List α) {p : β × State} (h : s₀.Kept p.2)
    (hf : ∀ q a, s₀.Kept q.2 → s₀.Kept (f q a).2) : s₀.Kept (l.foldl f p).2 := by
  induction l generalizing p with
  | nil => exact h
  | cons a l ih => exact ih (hf p a h)

theorem ite {c : Prop} [Decidable c] {a b : State} (ha : c → s₀.Kept a) (hb : ¬ c → s₀.Kept b) : s₀.Kept (if c then a else b) := by
  split
  · exact ha ‹_›
  · exact hb ‹_›

theorem ite_fst {α : Type} {c : Prop} [Decidable c] {a b : State × α} (ha : c → s₀.Kept a.1) (hb : ¬ c → s₀.Kept b.1) :
    s₀.Kept (if c then a else b).1 := by
  split
  · exact ha ‹_›
  · exact hb ‹_›

theorem ite_snd {α : Type} {c : Prop} [Decidable c] {a b : α × State} (ha : c → s₀.Kept a.2) (hb : ¬ c → s₀.Kept b.2) :
    s₀.Kept (if c then a else b).2 := by
  split
  · exact ha ‹_›
  · exact hb ‹_›

theorem pair_fst {α : Type} {b : α} (h : s₀.Kept z) : s₀.Kept (z, b).1 := h

theorem pair_snd {α : Type} {a : α} (h : s₀.Kept z) : s₀.Kept (a, z).2 := h

end State.Kept

theorem Res.Kept.ite {s₀ : State} {c : Prop} [Decidable c] {a b : Res} (ha : c → Res.Kept s₀ a) (hb : ¬ c → Res.Kept s₀ b) :
    Res.Kept s₀ (if c then a else b) := by
  split
  · exact ha ‹_›
  · exact hb ‹_›

theorem unsigned_lt (w : Nat) (i : Int) : unsigned w i < 2 ^ w := by
  have h0 : (0 : Int) < ((2 ^ w : Nat) : Int) := by exact_mod_cast Nat.two_pow_pos w
  have h1 := Int.emod_lt_of_pos i h0
  have h2 := Int.emod_nonneg i (Int.ne_of_gt h0)
  unfold unsigned
  omega

/-- Setting some keys of a table keeps its canonical form. -/
theorem tabWf_foldl {α β : Type} [DecidableEq α] {d : Nat → α} {t : List (Nat × α)} (l : List β) (f : List (Nat × α) → β → List (Nat × α))
    (h : tabWf d t = true) (hf : ∀ m b, tabWf d m = true → tabWf d (f m b) = true) : tabWf d (l.foldl f t) = true := by
  induction l generalizing t with
  | nil => exact h
  | cons b l ih => exact ih (hf t b h)

theorem tabWf_applyWords {cs : List (Nat × Nat)} (h : tabWf (fun _ => 0) cs = true) (l : List TRec) :
    tabWf (fun _ => 0) (applyWords cs l) = true := by
  refine tabWf_foldl l _ h fun m r hm => ?_
  split
  · exact tabWf_foldl _ _ hm fun m e hm => tabWf_tabSet hm _ _
  · exact hm

theorem Res.Kept.next {s₀ t : State} (h : s₀.Kept t) : Res.Kept s₀ (.next t) := fun _ e => by cases e; exact h

end Sys2Proof.Machine
end

