-- ==== Sys2Proof/Laws/KeptOps.lean ====
section
/-! SUPPORT. State.Kept through the operations of registers, memories, commands, faults, front-ends, converters, packets, events and settling. -/

namespace Sys2Proof.Machine

theorem State.wr_kept {s₀ s : State} (h : s₀.Kept s) : ∀ a1 a2, s₀.Kept (State.wr s a1 a2) :=
  fun _ _ => (State.Kept.set_regs h (fun w => tabWf_tabSet (h.wf w).regs _ _))

theorem State.setF_kept {s₀ s : State} (h : s₀.Kept s) : ∀ a1 a2 a3, s₀.Kept (State.setF s a1 a2 a3) :=
  fun _ _ _ => (State.wr_kept h _ _)

theorem State.mapCmds_kept {s₀ s : State} (h : s₀.Kept s) : ∀ a1 a2, s₀.Kept (State.mapCmds s a1 a2) :=
  fun _ _ => (State.Kept.set_cmds h)

theorem State.stopCmds_kept {s₀ s : State} (h : s₀.Kept s) : ∀ a1 a2, s₀.Kept (State.stopCmds s a1 a2) :=
  fun _ _ => (State.Kept.set_cmds h)

theorem State.unbusyBy_kept {s₀ s : State} (h : s₀.Kept s) : ∀ a1 a2, s₀.Kept (State.unbusyBy s a1 a2) :=
  fun _ _ => (State.stopCmds_kept h _ _)

theorem State.passCheck_kept {s₀ s : State} (h : s₀.Kept s) : ∀ a1, s₀.Kept (State.passCheck s a1) := by
  intro a1
  delta State.passCheck
  extract_lets +onlyGivenNames b1
  extract_lets +onlyGivenNames complete2
  refine State.Kept.ite (fun _ => ?_) (fun _ => h)
  · extract_lets +onlyGivenNames s3
    have h4 : s₀.Kept s3 := (State.setF_kept h _ _ _)
    clear_value s3
    extract_lets +onlyGivenNames n5
    extract_lets +onlyGivenNames s6
    have h7 : s₀.Kept s6 := (State.mapCmds_kept h4 _ _)
    clear_value s6
    exact (State.unbusyBy_kept h7 _ _)

theorem State.rotCount_kept {s₀ s : State} (h : s₀.Kept s) : ∀ a1 a2, s₀.Kept (State.rotCount s a1 a2) := by
  intro a1 a2
  delta State.rotCount
  extract_lets +onlyGivenNames s1
  have h2 : s₀.Kept s1 := (State.mapCmds_kept h _ _)
  clear_value s1
  exact (State.unbusyBy_kept h2 _ _)

theorem State.incSat_kept {s₀ s : State} (h : s₀.Kept s) : ∀ a1 a2 a3, s₀.Kept (State.incSat s a1 a2 a3) :=
  fun _ _ _ => (State.setF_kept h _ _ _)

theorem State.owe_kept {s₀ s : State} (h : s₀.Kept s) : ∀ a1, s₀.Kept (State.owe s a1) := by
  intro a1
  delta State.owe
  exact State.Kept.ite (fun _ => h) (fun _ => (State.incSat_kept (State.setF_kept h _ _ _) _ _ _))

theorem State.setInst_kept {s₀ s : State} (h : s₀.Kept s) : ∀ a1 a2, s₀.Kept (State.setInst s a1 a2) :=
  fun _ _ => (State.Kept.set_insts h (fun w => tabWf_tabSet (h.wf w).insts _ _))

theorem State.condEnd_kept {s₀ s : State} (h : s₀.Kept s) : ∀ a1 a2 a3, s₀.Kept (State.condEnd s a1 a2 a3) := by
  intro a1 a2 a3
  delta State.condEnd
  extract_lets +onlyGivenNames k1
  extract_lets +onlyGivenNames i2
  exact State.Kept.ite (fun _ => (State.setInst_kept h _ _)) (fun _ => h)

theorem State.setFs_kept {s₀ s : State} (h : s₀.Kept s) : ∀ a1 a2, s₀.Kept (State.setFs s a1 a2) :=
  fun _ _ => (State.Kept.foldl _ h fun _ a2 h3 => (State.setF_kept h3 _ _ _))

theorem State.modFe_kept {s₀ s : State} (h : s₀.Kept s) : ∀ a1 a2, s₀.Kept (State.modFe s a1 a2) :=
  fun _ _ => (State.Kept.set_fes h (fun w => tabWf_tabSet (h.wf w).fes _ _))

theorem State.shadeOpened_kept {s₀ s : State} (h : s₀.Kept s) : ∀ a1, s₀.Kept (State.shadeOpened s a1) := by
  intro a1
  delta State.shadeOpened
  extract_lets +onlyGivenNames c1
  extract_lets +onlyGivenNames u2
  extract_lets +onlyGivenNames s3
  have h4 : s₀.Kept s3 := by
    unfold s3
    exact State.Kept.ite (fun _ => (State.condEnd_kept h _ _ _)) (fun _ => h)
  clear_value s3
  extract_lets +onlyGivenNames s5
  have h6 : s₀.Kept s5 := by
    unfold s5
    exact State.Kept.ite (fun _ => (State.condEnd_kept h4 _ _ _)) (fun _ => h4)
  clear_value s5
  exact (State.setFs_kept (State.modFe_kept h6 _ _) _ _)

theorem State.modAdc_kept {s₀ s : State} (h : s₀.Kept s) : ∀ a1 a2, s₀.Kept (State.modAdc s a1 a2) :=
  fun _ _ => (State.Kept.set_adcs h (fun w => tabWf_tabSet (h.wf w).adcs _ _))

theorem State.setRot_kept {s₀ s : State} (h : s₀.Kept s) : ∀ a1 a2, s₀.Kept (State.setRot s a1 a2) :=
  fun _ _ => (State.Kept.set_rots h (fun w => tabWf_tabSet (h.wf w).rots _ _))

theorem State.rotFree_kept {s₀ s : State} (h : s₀.Kept s) : ∀ a1, s₀.Kept (State.rotFree s a1) := by
  intro a1
  delta State.rotFree
  extract_lets +onlyGivenNames c1
  extract_lets +onlyGivenNames b2
  extract_lets +onlyGivenNames s3
  have h4 : s₀.Kept s3 := (State.shadeOpened_kept h _)
  clear_value s3
  extract_lets +onlyGivenNames s5
  have h6 : s₀.Kept s5 := (State.modAdc_kept (State.modFe_kept (State.setRot_kept h4 _ _) _ _) _ _)
  clear_value s5
  extract_lets +onlyGivenNames s7
  have h8 : s₀.Kept s7 := (State.setF_kept h6 _ _ _)
  clear_value s7
  extract_lets +onlyGivenNames s9
  have h10 : s₀.Kept s9 := (State.setF_kept (State.setF_kept h8 _ _ _) _ _ _)
  clear_value s9
  exact (State.modAdc_kept h10 _ _)

theorem State.rotUndo_kept {s₀ s : State} (h : s₀.Kept s) : ∀ a1, s₀.Kept (State.rotUndo s a1) := by
  intro a1
  delta State.rotUndo
  extract_lets +onlyGivenNames r1
  refine State.Kept.ite (fun _ => h) (fun _ => ?_)
  · extract_lets +onlyGivenNames o2
    extract_lets +onlyGivenNames s3
    have h4 : s₀.Kept s3 := (State.Kept.set_sram h (fun w => tabWf_memWrite (h.wf w).sram _ _))
    clear_value s3
    extract_lets +onlyGivenNames s5
    have h6 : s₀.Kept s5 := by
      unfold s5
      exact State.Kept.ite (fun _ => (State.Kept.set_sram h4 (fun w => tabWf_memWrite (h4.wf w).sram _ _))) (fun _ => h4)
    clear_value s5
    exact (State.setRot_kept h6 _ _)

theorem State.abandonRotation_kept {s₀ s : State} (h : s₀.Kept s) : ∀ a1, s₀.Kept (State.abandonRotation s a1) := by
  intro a1
  delta State.abandonRotation
  extract_lets +onlyGivenNames nn1
  extract_lets +onlyGivenNames r2
  exact State.Kept.ite (fun _ => (State.passCheck_kept (State.rotCount_kept (State.owe_kept (State.rotFree_kept (State.rotUndo_kept h _) _) _) _ _) _)) (fun _ => h)

theorem State.abortBusy_kept {s₀ s : State} (h : s₀.Kept s) : ∀ a1 a2 a3, s₀.Kept (State.abortBusy s a1 a2 a3) :=
  fun _ _ _ => (State.mapCmds_kept h _ _)

theorem State.modCmd_kept {s₀ s : State} (h : s₀.Kept s) : ∀ a1 a2, s₀.Kept (State.modCmd s a1 a2) :=
  fun _ _ => (State.mapCmds_kept h _ _)

theorem State.endCmd_kept {s₀ s : State} (h : s₀.Kept s) : ∀ a1 a2, s₀.Kept (State.endCmd s a1 a2) :=
  fun _ _ => (State.modCmd_kept h _ _)

theorem State.modEng_kept {s₀ s : State} (h : s₀.Kept s) : ∀ a1 a2, s₀.Kept (State.modEng s a1 a2) :=
  fun _ _ => (State.Kept.set_engs h (fun w => tabWf_tabSet (h.wf w).engs _ _))

theorem State.raiseTrap_kept {s₀ s : State} (h : s₀.Kept s) : ∀ a1 a2, s₀.Kept (State.raiseTrap s a1 a2) :=
  fun _ _ => (State.setF_kept h _ _ _)

theorem State.modCtx_kept {s₀ s : State} (h : s₀.Kept s) : ∀ a1 a2 a3, s₀.Kept (State.modCtx s a1 a2 a3) :=
  fun _ _ _ => (State.Kept.set_ctxs h (fun w => tabWf_tabSet (h.wf w).ctxs _ _))

theorem State.modTdc_kept {s₀ s : State} (h : s₀.Kept s) : ∀ a1 a2, s₀.Kept (State.modTdc s a1 a2) :=
  fun _ _ => (State.Kept.set_tdcs h (fun w => tabWf_tabSet (h.wf w).tdcs _ _))

theorem State.showDsk_kept {s₀ s : State} (h : s₀.Kept s) : ∀ a1, s₀.Kept (State.showDsk s a1) := by
  intro a1
  delta State.showDsk
  refine State.Kept.ite (fun _ => ?_) (fun _ => h)
  · extract_lets +onlyGivenNames k1
    exact (State.setFs_kept h _ _)

theorem State.tablesTake_kept {s₀ s : State} (h : s₀.Kept s) : ∀ a1, s₀.Kept (State.tablesTake s a1) := by
  intro a1
  delta State.tablesTake
  exact State.Kept.ite (fun _ => (State.showDsk_kept (State.modTdc_kept h _ _) _)) (fun _ => h)

theorem State.adcShow_kept {s₀ s : State} (h : s₀.Kept s) : ∀ a1, s₀.Kept (State.adcShow s a1) := by
  intro a1
  delta State.adcShow
  extract_lets +onlyGivenNames a1
  exact (State.setFs_kept h _ _)

theorem State.adcRefillAs_kept {s₀ s : State} (h : s₀.Kept s) : ∀ c l, s₀.Kept (State.adcRefillAs s c l) := by
  intro c l
  induction l generalizing s with
  | nil => exact State.adcShow_kept h _
  | cons i is ih =>
    rw [State.adcRefillAs]
    refine State.Kept.ite (fun _ => ih ?_) (fun _ => State.adcShow_kept h _)
    have g := State.adcShow_kept (State.modAdc_kept h c fun a => { a with inj := a.inj ++ [i], heldInj := is }) c
    split
    · exact g
    · exact State.modCmd_kept g _ _

theorem State.adcRefill_kept {s₀ s : State} (h : s₀.Kept s) : ∀ a1, s₀.Kept (State.adcRefill s a1) :=
  fun _ => (State.adcRefillAs_kept h _ _)

theorem State.modMic_kept {s₀ s : State} (h : s₀.Kept s) : ∀ a1 a2, s₀.Kept (State.modMic s a1 a2) :=
  fun _ _ => (State.Kept.set_mics h (fun w => tabWf_tabSet (h.wf w).mics _ _))

theorem State.idleEngine_kept {s₀ s : State} (h : s₀.Kept s) : ∀ a1 a2, s₀.Kept (State.idleEngine s a1 a2) := by
  intro a1 a2
  delta State.idleEngine
  extract_lets +onlyGivenNames s1
  have h2 : s₀.Kept s1 := (State.modAdc_kept (State.modEng_kept h _ _) _ _)
  clear_value s1
  extract_lets +onlyGivenNames s3
  have h4 : s₀.Kept s3 := by
    unfold s3
    exact State.Kept.ite (fun _ => h2) (fun _ => (State.adcRefill_kept h2 _))
  clear_value s3
  extract_lets +onlyGivenNames s5
  have h6 : s₀.Kept s5 := by
    unfold s5
    refine State.setF_kept ?_ _ _ _
    exact State.Kept.ite (fun _ => h4) (fun _ => (State.setF_kept h4 _ _ _))
  clear_value s5
  extract_lets +onlyGivenNames s7
  have h8 : s₀.Kept s7 := (State.condEnd_kept (State.modMic_kept (State.setF_kept h6 _ _ _) _ _) _ _ _)
  clear_value s7
  refine State.Kept.ite (fun _ => ?_) (fun _ => h8)
  · extract_lets +onlyGivenNames b9
    exact (State.setF_kept h8 _ _ _)

theorem State.bbRecord_kept {s₀ s : State} (h : s₀.Kept s) : ∀ a1 a2 a3 a4, s₀.Kept (State.bbRecord s a1 a2 a3 a4) := by
  intro a1 a2 a3 a4
  delta State.bbRecord
  extract_lets +onlyGivenNames time1
  extract_lets +onlyGivenNames r2
  refine State.Kept.ite (fun _ => ?_) (fun _ => (State.setF_kept h _ _ _))
  · extract_lets +onlyGivenNames s3
    have h4 : s₀.Kept s3 := (State.Kept.set_bbStage h)
    clear_value s3
    exact (State.setF_kept h4 _ _ _)

theorem State.outputOpened_kept {s₀ s : State} (h : s₀.Kept s) : ∀ a1, s₀.Kept (State.outputOpened s a1) := by
  intro a1
  delta State.outputOpened
  split
  · exact (State.condEnd_kept (State.condEnd_kept h _ _ _) _ _ _)

theorem State.sineKill_kept {s₀ s : State} (h : s₀.Kept s) : ∀ a1, s₀.Kept (State.sineKill s a1) :=
  fun _ => (State.modFe_kept (State.setF_kept (State.setF_kept h _ _ _) _ _ _) _ _)

theorem State.openFe_kept {s₀ s : State} (h : s₀.Kept s) : ∀ a1, s₀.Kept (State.openFe s a1) := by
  intro a1
  delta State.openFe
  extract_lets +onlyGivenNames s1
  have h2 : s₀.Kept s1 := (State.setFs_kept h _ _)
  clear_value s1
  extract_lets +onlyGivenNames s3
  have h4 : s₀.Kept s3 := (State.modFe_kept h2 _ _)
  clear_value s3
  extract_lets +onlyGivenNames s5
  have h6 : s₀.Kept s5 := by
    unfold s5
    exact State.Kept.ite (fun _ => (State.modEng_kept h4 _ _)) (fun _ => h4)
  clear_value s5
  exact (State.outputOpened_kept (State.sineKill_kept h6 _) _)

theorem State.quietFe_kept {s₀ s : State} (h : s₀.Kept s) : ∀ a1, s₀.Kept (State.quietFe s a1) := by
  intro a1
  delta State.quietFe
  extract_lets +onlyGivenNames d1
  extract_lets +onlyGivenNames s2
  have h3 : s₀.Kept s2 := (State.openFe_kept h _)
  clear_value s2
  exact State.Kept.ite (fun _ => (State.setF_kept h3 _ _ _)) (fun _ => h3)

theorem State.killRun_kept {s₀ s : State} (h : s₀.Kept s) : ∀ a1 a2, s₀.Kept (State.killRun s a1 a2) := by
  intro a1 a2
  delta State.killRun
  refine State.Kept.ite (fun _ => ?_) (fun _ => h)
  · extract_lets +onlyGivenNames s1
    have h2 : s₀.Kept s1 := by
      unfold s1
      split
      · exact (State.endCmd_kept h _ _)
      · exact h
    clear_value s1
    exact (State.idleEngine_kept (State.tablesTake_kept h2 _) _ _)

theorem State.killCtx_kept {s₀ s : State} (h : s₀.Kept s) : ∀ a1 a2 a3, s₀.Kept (State.killCtx s a1 a2 a3) := by
  intro a1 a2 a3
  delta State.killCtx
  extract_lets +onlyGivenNames b1
  refine State.Kept.ite (fun _ => h) (fun _ => ?_)
  · extract_lets +onlyGivenNames s2
    have h3 : s₀.Kept s2 := by
      unfold s2
      split
      · exact (State.endCmd_kept h _ _)
      · exact h
    clear_value s2
    extract_lets +onlyGivenNames s4
    have h5 : s₀.Kept s4 := (State.modCtx_kept h3 _ _ _)
    clear_value s4
    extract_lets +onlyGivenNames s6
    have h7 : s₀.Kept s6 := (State.setF_kept h5 _ _ _)
    clear_value s6
    exact (State.setF_kept (State.setF_kept h7 _ _ _) _ _ _)

theorem State.killRuns_kept {s₀ s : State} (h : s₀.Kept s) : ∀ a1 a2, s₀.Kept (State.killRuns s a1 a2) := by
  intro a1 a2
  delta State.killRuns
  extract_lets +onlyGivenNames s1
  have h2 : s₀.Kept s1 := (State.Kept.foldl _ h fun _ _ h5 => (State.killRun_kept h5 _ _))
  clear_value s1
  exact (State.Kept.foldl _ h2 fun _ _ h8 => (State.Kept.foldl _ h8 fun _ _ h11 => (State.killCtx_kept h11 _ _ _)))

theorem State.adcKill_kept {s₀ s : State} (h : s₀.Kept s) : ∀ a1, s₀.Kept (State.adcKill s a1) := by
  intro a1
  delta State.adcKill
  extract_lets +onlyGivenNames s1
  have h2 : s₀.Kept s1 := (State.modAdc_kept h _ _)
  clear_value s1
  extract_lets +onlyGivenNames b3
  exact (State.setF_kept (State.setF_kept h2 _ _ _) _ _ _)

theorem State.adcKillAll_kept {s₀ s : State} (h : s₀.Kept s) : ∀ a1, s₀.Kept (State.adcKillAll s a1) :=
  fun _ => (State.Kept.foldl _ h fun _ _ h3 => (State.adcKill_kept h3 _))

theorem State.stampKill_kept {s₀ s : State} (h : s₀.Kept s) : ∀ a1, s₀.Kept (State.stampKill s a1) := by
  intro a1
  delta State.stampKill
  extract_lets +onlyGivenNames us1
  exact (State.Kept.foldl _ h fun _ _ h4 => (State.setF_kept (State.modTdc_kept h4 _ _) _ _ _))

theorem State.modTrig_kept {s₀ s : State} (h : s₀.Kept s) : ∀ a1 a2, s₀.Kept (State.modTrig s a1 a2) :=
  fun _ _ => (State.Kept.set_trigs h (fun w => tabWf_tabSet (h.wf w).trigs _ _))

theorem State.trigEnd_kept {s₀ s : State} (h : s₀.Kept s) : ∀ a1 a2 a3, s₀.Kept (State.trigEnd s a1 a2 a3) := by
  intro a1 a2 a3
  delta State.trigEnd
  extract_lets +onlyGivenNames s1
  have h2 : s₀.Kept s1 := by
    unfold s1
    split
    · exact (State.endCmd_kept h _ _)
    · exact h
  clear_value s1
  exact (State.setF_kept (State.modTrig_kept h2 _ _) _ _ _)

theorem State.domRelease_kept {s₀ s : State} (h : s₀.Kept s) : ∀ a1, s₀.Kept (State.domRelease s a1) := by
  intro a1
  delta State.domRelease
  refine State.Kept.ite (fun _ => h) (fun _ => ?_)
  · refine State.Kept.foldl _ h fun _ _ h6 => ?_
    exact State.Kept.ite (fun _ => (State.trigEnd_kept h6 _ _ _)) (fun _ => h6)

theorem State.domsRelease_kept {s₀ s : State} (h : s₀.Kept s) : s₀.Kept (State.domsRelease s) :=
  (State.domRelease_kept (State.domRelease_kept h _) _)

theorem State.trigStop_kept {s₀ s : State} (h : s₀.Kept s) : ∀ a1 a2, s₀.Kept (State.trigStop s a1 a2) := by
  intro a1 a2
  delta State.trigStop
  refine State.Kept.foldl _ h fun _ _ h9 => ?_
  exact State.Kept.ite (fun _ => (State.trigEnd_kept h9 _ _ _)) (fun _ => h9)

theorem State.setJob_kept {s₀ s : State} (h : s₀.Kept s) : ∀ a1 a2 a3, s₀.Kept (State.setJob s a1 a2 a3) :=
  fun _ _ _ => (State.Kept.set_jobs h (fun w => tabWf_tabSet (h.wf w).jobs _ _))

theorem State.sepiaKill_kept {s₀ s : State} (h : s₀.Kept s) : ∀ a1 a2, s₀.Kept (State.sepiaKill s a1 a2) := by
  intro a1 a2
  delta State.sepiaKill
  refine State.Kept.foldl _ h fun _ _ h9 => ?_
  extract_lets +onlyGivenNames b10
  refine State.Kept.ite (fun _ => h9) (fun _ => ?_)
  · extract_lets +onlyGivenNames r11
    extract_lets +onlyGivenNames s12
    have h13 : s₀.Kept s12 := by
      unfold s12
      split
      · exact (State.endCmd_kept h9 _ _)
      · exact h9
    clear_value s12
    extract_lets +onlyGivenNames s14
    have h15 : s₀.Kept s14 := (State.setJob_kept h13 _ _ _)
    clear_value s14
    extract_lets +onlyGivenNames s16
    have h17 : s₀.Kept s16 := (State.wr_kept h15 _ _)
    clear_value s16
    exact (State.setF_kept h17 _ _ _)

theorem State.rotKillAll_kept {s₀ s : State} (h : s₀.Kept s) : ∀ a1, s₀.Kept (State.rotKillAll s a1) := by
  intro a1
  delta State.rotKillAll
  refine State.Kept.foldl _ h fun _ _ h9 => ?_
  exact State.Kept.ite (fun _ => (State.abandonRotation_kept h9 _)) (fun _ => h9)

theorem State.anchorKill_kept {s₀ s : State} (h : s₀.Kept s) : ∀ a1, s₀.Kept (State.anchorKill s a1) := by
  intro a1
  delta State.anchorKill
  refine State.Kept.ite (fun _ => ?_) (fun _ => h)
  · extract_lets +onlyGivenNames s1
    have h2 : s₀.Kept s1 := by
      unfold s1
      split
      · exact (State.endCmd_kept h _ _)
      · exact h
    clear_value s1
    extract_lets +onlyGivenNames src3
    have h4 : s₀.Kept src3 := (State.setF_kept h2 _ _ _)
    clear_value src3
    exact (State.Kept.set_anchor h4)

theorem State.modTile_kept {s₀ s : State} (h : s₀.Kept s) : ∀ a1 a2, s₀.Kept (State.modTile s a1 a2) :=
  fun _ _ => (State.Kept.set_tiles h (fun w => tabWf_tabSet (h.wf w).tiles _ _))

theorem State.dropTests_kept {s₀ s : State} (h : s₀.Kept s) : s₀.Kept (State.dropTests s) :=
  (State.Kept.set_tests h)

theorem State.setMode_kept {s₀ s : State} (h : s₀.Kept s) : ∀ a1, s₀.Kept (State.setMode s a1) := by
  intro a1
  delta State.setMode
  exact State.Kept.ite (fun _ => h) (fun _ => (State.setF_kept (State.setF_kept h _ _ _) _ _ _))

theorem State.enterSafe_kept {s₀ s : State} (h : s₀.Kept s) : ∀ a1, s₀.Kept (State.enterSafe s a1) := by
  intro a1
  delta State.enterSafe
  refine State.Kept.ite (fun _ => h) (fun _ => ?_)
  · extract_lets +onlyGivenNames e1
    extract_lets +onlyGivenNames s2
    have h3 : s₀.Kept s2 := (State.Kept.foldl _ h fun _ _ h6 => (State.quietFe_kept h6 _))
    extract_lets +onlyGivenNames s7
    have h8 : s₀.Kept s7 := (State.killRuns_kept h3 _ _)
    extract_lets +onlyGivenNames s9
    have h10 : s₀.Kept s9 := (State.adcKillAll_kept h8 _)
    extract_lets +onlyGivenNames s11
    have h12 : s₀.Kept s11 := (State.stampKill_kept h10 _)
    extract_lets +onlyGivenNames s13
    have h14 : s₀.Kept s13 := (State.domsRelease_kept (State.trigStop_kept h12 _ _))
    extract_lets +onlyGivenNames s15
    have h16 : s₀.Kept s15 := (State.Kept.foldl _ h14 fun _ _ h19 => (State.sepiaKill_kept h19 _ _))
    extract_lets +onlyGivenNames s20
    have h21 : s₀.Kept s20 := (State.rotKillAll_kept h16 _)
    extract_lets +onlyGivenNames s22
    have h23 : s₀.Kept s22 := (State.anchorKill_kept h21 _)
    extract_lets +onlyGivenNames s24
    have h25 : s₀.Kept s24 := by
      unfold s24
      refine State.Kept.foldl _ h23 fun _ _ h34 => ?_
      extract_lets +onlyGivenNames b35
      exact State.Kept.ite (fun _ => (State.setF_kept h34 _ _ _)) (fun _ => (State.modTile_kept h34 _ _))
    extract_lets +onlyGivenNames s36
    have h37 : s₀.Kept s36 := (State.dropTests_kept (State.mapCmds_kept h25 _ _))
    extract_lets +onlyGivenNames src38
    have h39 : s₀.Kept src38 := (State.setMode_kept h37 _)
    exact (State.Kept.set_svcEntry_svcExit h39)

theorem State.tripFe_kept {s₀ s : State} (h : s₀.Kept s) : ∀ a1 a2, s₀.Kept (State.tripFe s a1 a2) := by
  intro a1 a2
  delta State.tripFe
  extract_lets +onlyGivenNames s1
  have h2 : s₀.Kept s1 := (State.setF_kept (State.openFe_kept h _) _ _ _)
  clear_value s1
  extract_lets +onlyGivenNames s3
  have h4 : s₀.Kept s3 := (State.abortBusy_kept h2 _ _ _)
  clear_value s3
  refine State.Kept.ite (fun _ => (State.abandonRotation_kept h4 _)) (fun _ => ?_)
  · split
    · exact (State.abandonRotation_kept h4 _)
    · exact h4

theorem State.faultRun_kept {s₀ s : State} (h : s₀.Kept s) : ∀ a1 a2, s₀.Kept (State.faultRun s a1 a2) := by
  intro a1 a2
  delta State.faultRun
  exact State.Kept.ite (fun _ => (State.modEng_kept (State.raiseTrap_kept h _ _) _ _)) (fun _ => h)

theorem State.amberChannel_kept {s₀ s : State} (h : s₀.Kept s) : ∀ a1 a2, s₀.Kept (State.amberChannel s a1 a2) := by
  intro a1 a2
  delta State.amberChannel
  extract_lets +onlyGivenNames s1
  have h2 : s₀.Kept s1 := (State.tripFe_kept h _ _)
  clear_value s1
  extract_lets +onlyGivenNames s3
  have h4 : s₀.Kept s3 := (State.abandonRotation_kept h2 _)
  clear_value s3
  exact State.Kept.ite (fun _ => (State.faultRun_kept h4 _ _)) (fun _ => h4)

theorem State.amberShade_kept {s₀ s : State} (h : s₀.Kept s) : ∀ a1 a2, s₀.Kept (State.amberShade s a1 a2) :=
  fun _ _ => (State.tripFe_kept h _ _)

theorem State.amberTile_kept {s₀ s : State} (h : s₀.Kept s) : ∀ a1 a2, s₀.Kept (State.amberTile s a1 a2) := by
  intro a1 a2
  delta State.amberTile
  extract_lets +onlyGivenNames s1
  have h2 : s₀.Kept s1 := (State.Kept.foldl _ h fun _ _ h5 => (State.amberChannel_kept h5 _ _))
  clear_value s1
  exact (State.Kept.foldl _ h2 fun _ _ h8 => (State.amberShade_kept h8 _ _))

theorem State.adcDrop_kept {s₀ s : State} (h : s₀.Kept s) : ∀ a1, s₀.Kept (State.adcDrop s a1) :=
  fun _ => (State.Kept.foldl _ h fun _ _ h3 => (State.modAdc_kept h3 _ _))

theorem State.trigKill_kept {s₀ s : State} (h : s₀.Kept s) : ∀ a1 a2 a3, s₀.Kept (State.trigKill s a1 a2 a3) := by
  intro a1 a2 a3
  delta State.trigKill
  refine State.Kept.ite (fun _ => ?_) (fun _ => State.Kept.ite (fun _ => (State.setF_kept h _ _ _)) (fun _ => h))
  · extract_lets +onlyGivenNames held1
    extract_lets +onlyGivenNames d2
    extract_lets +onlyGivenNames s3
    have h4 : s₀.Kept s3 := (State.trigEnd_kept h _ _ _)
    clear_value s3
    exact State.Kept.ite (fun _ => (State.domRelease_kept h4 _)) (fun _ => h4)

theorem State.xferKill_kept {s₀ s : State} (h : s₀.Kept s) : ∀ a1, s₀.Kept (State.xferKill s a1) := by
  intro a1
  delta State.xferKill
  extract_lets +onlyGivenNames b1
  exact State.Kept.ite (fun _ => (State.modTile_kept (State.setF_kept (State.setF_kept h _ _ _) _ _ _) _ _)) (fun _ => h)

theorem State.stopTile_kept {s₀ s : State} (h : s₀.Kept s) : ∀ a1 a2, s₀.Kept (State.stopTile s a1 a2) := by
  intro a1 a2
  delta State.stopTile
  extract_lets +onlyGivenNames p1
  extract_lets +onlyGivenNames s2
  have h3 : s₀.Kept s2 := (State.Kept.foldl _ h fun _ _ h6 => (State.quietFe_kept h6 _))
  clear_value s2
  extract_lets +onlyGivenNames s7
  have h8 : s₀.Kept s7 := (State.killRuns_kept h3 _ _)
  clear_value s7
  extract_lets +onlyGivenNames s9
  have h10 : s₀.Kept s9 := (State.adcDrop_kept (State.adcKillAll_kept h8 _) _)
  clear_value s9
  extract_lets +onlyGivenNames s11
  have h12 : s₀.Kept s11 := (State.stampKill_kept h10 _)
  clear_value s11
  extract_lets +onlyGivenNames s13
  have h14 : s₀.Kept s13 := (State.sepiaKill_kept h12 _ _)
  clear_value s13
  extract_lets +onlyGivenNames s15
  have h16 : s₀.Kept s15 := (State.trigKill_kept h14 _ _ _)
  clear_value s15
  extract_lets +onlyGivenNames s17
  have h18 : s₀.Kept s17 := (State.rotKillAll_kept h16 _)
  clear_value s17
  extract_lets +onlyGivenNames s19
  have h20 : s₀.Kept s19 := (State.xferKill_kept h18 _)
  clear_value s19
  exact (State.anchorKill_kept h20 _)

theorem State.resetRegs_kept {s₀ s : State} (h : s₀.Kept s) : ∀ a1, s₀.Kept (State.resetRegs s a1) :=
  fun _ => (State.Kept.set_regs h (fun w => tabWf_tabKeep (h.wf w).regs _))

theorem State.rqClear_kept {s₀ s : State} (h : s₀.Kept s) : ∀ a1, s₀.Kept (State.rqClear s a1) :=
  fun _ => (State.modTile_kept (State.resetRegs_kept h _) _ _)

theorem State.cutTests_kept {s₀ s : State} (h : s₀.Kept s) : ∀ a1, s₀.Kept (State.cutTests s a1) :=
  fun _ => (State.dropTests_kept (State.Kept.set_tests h))

theorem State.abortTileCmds_kept {s₀ s : State} (h : s₀.Kept s) : ∀ a1 a2, s₀.Kept (State.abortTileCmds s a1 a2) := by
  intro a1 a2
  delta State.abortTileCmds
  extract_lets +onlyGivenNames s1
  have h2 : s₀.Kept s1 := (State.mapCmds_kept h _ _)
  clear_value s1
  exact (State.cutTests_kept h2 _)

theorem State.setTileQ_kept {s₀ s : State} (h : s₀.Kept s) : ∀ a1 a2, s₀.Kept (State.setTileQ s a1 a2) :=
  fun _ _ => (State.setF_kept h _ _ _)

theorem State.quiesce_kept {s₀ s : State} (h : s₀.Kept s) : ∀ a1 a2, s₀.Kept (State.quiesce s a1 a2) := by
  intro a1 a2
  delta State.quiesce
  refine State.Kept.ite (fun _ => h) (fun _ => ?_)
  · extract_lets +onlyGivenNames e1
    extract_lets +onlyGivenNames s2
    have h3 : s₀.Kept s2 := (State.stopTile_kept h _ _)
    clear_value s2
    extract_lets +onlyGivenNames s4
    have h5 : s₀.Kept s4 := (State.rqClear_kept h3 _)
    clear_value s4
    extract_lets +onlyGivenNames s6
    have h7 : s₀.Kept s6 := (State.abortTileCmds_kept h5 _ _)
    clear_value s6
    exact (State.modTile_kept (State.setTileQ_kept h7 _ _) _ _)

theorem State.levelAction_kept {s₀ s : State} (h : s₀.Kept s) : ∀ a1 a2, s₀.Kept (State.levelAction s a1 a2) := by
  intro a1 a2
  delta State.levelAction
  extract_lets +onlyGivenNames cls1
  extract_lets +onlyGivenNames u2
  refine State.Kept.ite (fun _ => (State.enterSafe_kept h _)) (fun _ => ?_)
  · refine State.Kept.ite (fun _ => ?_) (fun _ => State.Kept.ite (fun _ => State.Kept.ite (fun _ => (State.amberChannel_kept h _ _)) (fun _ => State.Kept.ite (fun _ => (State.amberShade_kept h _ _)) (fun _ => State.Kept.ite (fun _ => (State.amberTile_kept h _ _)) (fun _ => State.Kept.ite (fun _ => (State.Kept.foldl _ h fun _ _ h10 => (State.amberTile_kept h10 _ _))) (fun _ => h))))) (fun _ => h))
    · refine State.Kept.ite (fun _ => ?_) (fun _ => ?_)
      · extract_lets +onlyGivenNames s3
        have h4 : s₀.Kept s3 := (State.trigStop_kept h _ _)
        clear_value s3
        exact (State.Kept.foldl _ (State.domsRelease_kept h4) fun _ _ h7 => (State.quiesce_kept h7 _ _))
      · split
        · exact (State.quiesce_kept h _ _)
        · exact h

theorem State.enterLevel_kept {s₀ s : State} (h : s₀.Kept s) : ∀ a1 a2 a3 a4 a5, s₀.Kept (State.enterLevel s a1 a2 a3 a4 a5) := by
  intro a1 a2 a3 a4 a5
  delta State.enterLevel
  extract_lets +onlyGivenNames s1
  have h2 : s₀.Kept s1 := (State.setInst_kept h _ _)
  clear_value s1
  extract_lets +onlyGivenNames s3
  have h4 : s₀.Kept s3 := by
    unfold s3
    exact State.Kept.ite (fun _ => (State.bbRecord_kept h2 _ _ _ _)) (fun _ => h2)
  clear_value s3
  exact (State.levelAction_kept h4 _ _)

theorem State.detectAt_kept {s₀ s : State} (h : s₀.Kept s) : ∀ a1 a2 a3 a4 a5 a6, s₀.Kept (State.detectAt s a1 a2 a3 a4 a5 a6) := by
  intro a1 a2 a3 a4 a5 a6
  delta State.detectAt
  extract_lets +onlyGivenNames k1
  extract_lets +onlyGivenNames i2
  extract_lets +onlyGivenNames s3
  have h4 : s₀.Kept s3 := (State.incSat_kept h _ _ _)
  clear_value s3
  extract_lets +onlyGivenNames s5
  have h6 : s₀.Kept s5 := (State.Kept.set_lastCls h4 (fun w => tabWf_tabSet (h4.wf w).lastCls _ _))
  clear_value s5
  extract_lets +onlyGivenNames now7
  exact State.Kept.ite (fun _ => (State.enterLevel_kept h6 _ _ _ _ _)) (fun _ => State.Kept.ite (fun _ => (State.enterLevel_kept h6 _ _ _ _ _)) (fun _ => State.Kept.ite (fun _ => (State.setInst_kept h6 _ _)) (fun _ => State.Kept.ite (fun _ => (State.setInst_kept h6 _ _)) (fun _ => State.Kept.ite (fun _ => (State.setInst_kept h6 _ _)) (fun _ => (State.enterLevel_kept h6 _ _ _ _ _))))))

theorem State.detect_kept {s₀ s : State} (h : s₀.Kept s) : ∀ a1 a2 a3 a4, s₀.Kept (State.detect s a1 a2 a3 a4) :=
  fun _ _ _ _ => (State.detectAt_kept h _ _ _ _ _ _)

theorem State.hostWrite_kept {s₀ s : State} (h : s₀.Kept s) : ∀ a1 a2, s₀.Kept (State.hostWrite s a1 a2) :=
  fun _ _ => (State.Kept.set_host_own h (fun w => tabWf_memWrite (h.wf w).host _ _))

theorem State.output_kept {s₀ s : State} (h : s₀.Kept s) : ∀ a1 a2, s₀.Kept (State.output s a1 a2).1 := by
  intro a1 a2
  delta State.output
  exact State.Kept.ite_fst (fun _ => (State.Kept.pair_fst h)) (fun _ => (State.Kept.pair_fst (State.hostWrite_kept h _ _)))

theorem State.acknowledge_kept {s₀ s : State} (h : s₀.Kept s) : ∀ a1 a2 a3, s₀.Kept (State.acknowledge s a1 a2 a3).1 := by
  intro a1 a2 a3
  delta State.acknowledge
  extract_lets +onlyGivenNames hit1
  exact (State.Kept.pair_fst (State.Kept.foldl _ h fun _ a3 h4 => (State.setInst_kept h4 _ _)))

theorem State.setTarget_kept {s₀ s : State} (h : s₀.Kept s) : ∀ a1 a2, s₀.Kept (State.setTarget s a1 a2) := by
  intro a1 a2
  delta State.setTarget
  extract_lets +onlyGivenNames s1
  have h2 : s₀.Kept s1 := (State.setF_kept h _ _ _)
  clear_value s1
  exact State.Kept.ite (fun _ => h2) (fun _ => (State.modFe_kept h2 _ _))

theorem State.putRow_kept {s₀ s : State} (h : s₀.Kept s) : ∀ a1 a2 a3, s₀.Kept (State.putRow s a1 a2 a3) :=
  fun _ _ _ => (State.Kept.set_sram h (fun w => tabWf_memWrite (h.wf w).sram _ _))

theorem State.sramSet_kept {s₀ s : State} (h : s₀.Kept s) : ∀ a1 a2 a3, s₀.Kept (State.sramSet s a1 a2 a3) :=
  fun _ _ _ => (State.Kept.set_sram h (fun w => tabWf_memWrite (h.wf w).sram _ _))

theorem State.calPut_kept {s₀ s : State} (h : s₀.Kept s) : ∀ a1 a2 a3, s₀.Kept (State.calPut s a1 a2 a3) :=
  fun _ _ _ => (State.sramSet_kept h _ _ _)

theorem State.setCalState_kept {s₀ s : State} (h : s₀.Kept s) : ∀ a1 a2 a3, s₀.Kept (State.setCalState s a1 a2 a3) := by
  intro a1 a2 a3
  delta State.setCalState
  extract_lets +onlyGivenNames s1
  have h2 : s₀.Kept s1 := (State.setFs_kept h _ _)
  clear_value s1
  exact (State.calPut_kept (State.calPut_kept h2 _ _ _) _ _ _)

theorem State.unowe_kept {s₀ s : State} (h : s₀.Kept s) : ∀ a1, s₀.Kept (State.unowe s a1) := by
  intro a1
  delta State.unowe
  refine State.Kept.ite (fun _ => ?_) (fun _ => h)
  · extract_lets +onlyGivenNames b1
    exact (State.setF_kept (State.setF_kept h _ _ _) _ _ _)

theorem State.rotResult_kept {s₀ s : State} (h : s₀.Kept s) : ∀ a1 a2, s₀.Kept (State.rotResult s a1 a2) := by
  intro a1 a2
  delta State.rotResult
  extract_lets +onlyGivenNames fails1
  split
  · extract_lets +onlyGivenNames s2
    have h3 : s₀.Kept s2 := (State.putRow_kept h _ _ _)
    clear_value s2
    extract_lets +onlyGivenNames s4
    have h5 : s₀.Kept s4 := by
      unfold s4
      exact State.Kept.ite (fun _ => (State.sramSet_kept (State.putRow_kept h3 _ _ _) _ _ _)) (fun _ => h3)
    clear_value s4
    extract_lets +onlyGivenNames s6
    have h7 : s₀.Kept s6 := (State.calPut_kept (State.setCalState_kept h5 _ _ _) _ _ _)
    clear_value s6
    extract_lets +onlyGivenNames src8
    have h9 : s₀.Kept src8 := (State.unowe_kept h7 _)
    clear_value src8
    exact (State.Kept.set_calDirty_rotAt h9 (fun w => tabWf_tabSet (h7.wf w).rotAt _ _))
  · extract_lets +onlyGivenNames s10
    have h11 : s₀.Kept s10 := (State.incSat_kept (State.setCalState_kept h _ _ _) _ _ _)
    clear_value s10
    exact (State.detect_kept (State.unowe_kept h11 _) _ _ _ _)

theorem State.handback_kept {s₀ s : State} (h : s₀.Kept s) : ∀ a1, s₀.Kept (State.handback s a1) := by
  intro a1
  delta State.handback
  extract_lets +onlyGivenNames r1
  extract_lets +onlyGivenNames c2
  extract_lets +onlyGivenNames s3
  have h4 : s₀.Kept s3 := (State.rotFree_kept h _)
  clear_value s3
  extract_lets +onlyGivenNames s5
  have h6 : s₀.Kept s5 := by
    unfold s5
    split
    · exact (State.rotResult_kept h4 _ _)
    · exact h4
  clear_value s5
  extract_lets +onlyGivenNames s7
  have h8 : s₀.Kept s7 := (State.modTile_kept h6 _ _)
  clear_value s7
  exact (State.passCheck_kept (State.rotCount_kept h8 _ _) _)

theorem State.convStart_kept {s₀ s : State} (h : s₀.Kept s) : ∀ a1 a2 a3 a4 a5 a6 a7 a8 a9 a10, s₀.Kept (State.convStart s a1 a2 a3 a4 a5 a6 a7 a8 a9 a10) := by
  intro a1 a2 a3 a4 a5 a6 a7 a8 a9 a10
  delta State.convStart
  extract_lets +onlyGivenNames v1
  extract_lets +onlyGivenNames f2
  extract_lets +onlyGivenNames b3
  extract_lets +onlyGivenNames k4
  exact (State.adcShow_kept (State.modAdc_kept h _ _) _)

theorem State.adcEnd_kept {s₀ s : State} (h : s₀.Kept s) : ∀ a1, s₀.Kept (State.adcEnd s a1) := by
  intro a1
  delta State.adcEnd
  extract_lets +onlyGivenNames s1
  have h2 : s₀.Kept s1 := (State.adcShow_kept (State.modAdc_kept h _ _) _)
  clear_value s1
  exact (State.unbusyBy_kept (State.unbusyBy_kept h2 _ _) _ _)

theorem State.waitMet_kept {s₀ s : State} (h : s₀.Kept s) : ∀ a1 a2, s₀.Kept (State.waitMet s a1 a2) := by
  intro a1 a2
  delta State.waitMet
  split
  · exact State.Kept.ite (fun _ => (State.raiseTrap_kept (State.modEng_kept h _ _) _ _)) (fun _ => h)
  · exact h

theorem State.setRdy_kept {s₀ s : State} (h : s₀.Kept s) : ∀ a1, s₀.Kept (State.setRdy s a1) := by
  intro a1
  delta State.setRdy
  extract_lets +onlyGivenNames s1
  have h2 : s₀.Kept s1 := (State.setF_kept h _ _ _)
  clear_value s1
  exact State.Kept.ite (fun _ => (State.waitMet_kept h2 _ _)) (fun _ => h2)

theorem State.adcSkipAll_kept {s₀ s : State} (h : s₀.Kept s) : ∀ a1, s₀.Kept (State.adcSkipAll s a1) := by
  intro a1
  delta State.adcSkipAll
  extract_lets +onlyGivenNames b1
  extract_lets +onlyGivenNames n2
  extract_lets +onlyGivenNames a3
  exact State.Kept.ite (fun _ => (State.adcEnd_kept (State.setRdy_kept (State.incSat_kept h _ _ _) _) _)) (fun _ => (State.incSat_kept h _ _ _))

theorem State.adcAdvance_kept {s₀ s : State} (h : s₀.Kept s) : ∀ a1, s₀.Kept (State.adcAdvance s a1) := by
  intro a1
  delta State.adcAdvance
  extract_lets +onlyGivenNames a1
  exact State.Kept.ite (fun _ => (State.adcEnd_kept h _)) (fun _ => State.Kept.ite (fun _ => (State.adcShow_kept (State.modAdc_kept h _ _) _)) (fun _ => (State.modAdc_kept h _ _)))

theorem State.adcSearch_kept {s₀ s : State} (h : s₀.Kept s) : ∀ c n, s₀.Kept (State.adcSearch s c n) := by
  intro c n
  induction n generalizing s with
  | zero => exact h
  | succ n ih =>
    rw [State.adcSearch]
    refine State.Kept.ite (fun _ => h) (fun _ => ?_)
    refine State.Kept.ite (fun _ => ih ?_) (fun _ => ?_)
    · have g := State.adcAdvance_kept (State.incSat_kept h (feB c) CHN_ADC_CNT.SKIP 1) c
      exact State.Kept.ite (fun _ => State.setRdy_kept g _) (fun _ => g)
    · exact State.unbusyBy_kept (State.convStart_kept (State.setF_kept h _ _ _) _ _ _ _ _ _ _ _ _ _) _ _

theorem State.adcRegular_kept {s₀ s : State} (h : s₀.Kept s) : ∀ a1, s₀.Kept (State.adcRegular s a1) := by
  intro a1
  delta State.adcRegular
  exact State.Kept.ite (fun _ => (State.adcSkipAll_kept h _)) (fun _ => (State.adcSearch_kept h _ _))

theorem State.adcNext_kept {s₀ s : State} (h : s₀.Kept s) : ∀ a1 a2, s₀.Kept (State.adcNext s a1 a2) := by
  intro a1 a2
  delta State.adcNext
  extract_lets +onlyGivenNames s1
  have h2 : s₀.Kept s1 := by
    unfold s1
    exact State.Kept.ite (fun _ => (State.handback_kept h _)) (fun _ => h)
  clear_value s1
  extract_lets +onlyGivenNames a3
  refine State.Kept.ite (fun _ => (State.modAdc_kept h2 _ _)) (fun _ => ?_)
  · refine State.Kept.ite (fun _ => ?_) (fun _ => ?_)
    · split
      · exact (State.modAdc_kept h2 _ _)
      · extract_lets +onlyGivenNames s4
        have h5 : s₀.Kept s4 := (State.modAdc_kept h2 _ _)
        clear_value s4
        exact (State.adcRefill_kept (State.convStart_kept h5 _ _ _ _ _ _ _ _ _ _) _)
    · split
      · extract_lets +onlyGivenNames s6
        have h7 : s₀.Kept s6 := (State.modAdc_kept h2 _ _)
        clear_value s6
        exact (State.adcRefill_kept (State.convStart_kept h7 _ _ _ _ _ _ _ _ _ _) _)
      · extract_lets +onlyGivenNames s8
        have h9 : s₀.Kept s8 := (State.modAdc_kept h2 _ _)
        clear_value s8
        exact State.Kept.ite (fun _ => (State.adcRegular_kept h9 _)) (fun _ => (State.adcShow_kept h9 _))

theorem State.adcKick_kept {s₀ s : State} (h : s₀.Kept s) : ∀ a1, s₀.Kept (State.adcKick s a1) := by
  intro a1
  delta State.adcKick
  exact State.Kept.ite (fun _ => (State.adcNext_kept h _ _)) (fun _ => h)

theorem State.adcStart_kept {s₀ s : State} (h : s₀.Kept s) : ∀ a1, s₀.Kept (State.adcStart s a1) := by
  intro a1
  delta State.adcStart
  extract_lets +onlyGivenNames m1
  refine State.Kept.ite (fun _ => h) (fun _ => ?_)
  · refine State.Kept.ite (fun _ => (State.modAdc_kept h _ _)) (fun _ => ?_)
    · extract_lets +onlyGivenNames s2
      have h3 : s₀.Kept s2 := (State.modAdc_kept h _ _)
      clear_value s2
      exact (State.adcKick_kept (State.adcShow_kept h3 _) _)

theorem State.adcStop_kept {s₀ s : State} (h : s₀.Kept s) : ∀ a1, s₀.Kept (State.adcStop s a1) := by
  intro a1
  delta State.adcStop
  extract_lets +onlyGivenNames a1
  exact State.Kept.ite (fun _ => h) (fun _ => State.Kept.ite (fun _ => (State.adcEnd_kept h _)) (fun _ => (State.modAdc_kept h _ _)))

theorem State.adcPlace_kept {s₀ s : State} (h : s₀.Kept s) : ∀ a1 a2, s₀.Kept (State.adcPlace s a1 a2) :=
  fun _ _ => (State.adcKick_kept (State.adcShow_kept (State.modAdc_kept h _ _) _) _)

theorem State.offer_kept {s₀ s : State} (h : s₀.Kept s) : ∀ a1 a2 a3 a4 a5 a6, s₀.Kept (State.offer s a1 a2 a3 a4 a5 a6) := by
  intro a1 a2 a3 a4 a5 a6
  delta State.offer
  extract_lets +onlyGivenNames b1
  extract_lets +onlyGivenNames met2
  extract_lets +onlyGivenNames now3
  extract_lets +onlyGivenNames g4
  exact State.Kept.ite (fun _ => h) (fun _ => State.Kept.ite (fun _ => State.Kept.ite (fun _ => (State.modTrig_kept h _ _)) (fun _ => (State.modTrig_kept h _ _))) (fun _ => State.Kept.ite (fun _ => (State.modTrig_kept h _ _)) (fun _ => h)))

theorem State.modSrc_kept {s₀ s : State} (h : s₀.Kept s) : ∀ a1 a2, s₀.Kept (State.modSrc s a1 a2) :=
  fun _ _ => (State.Kept.set_srcs h (fun w => tabWf_tabSet (h.wf w).srcs _ _))

theorem State.modVec_kept {s₀ s : State} (h : s₀.Kept s) : ∀ a1 a2, s₀.Kept (State.modVec s a1 a2) :=
  fun _ _ => (State.Kept.set_vecs h (fun w => tabWf_tabSet (h.wf w).vecs _ _))

theorem State.activate_kept {s₀ s : State} (h : s₀.Kept s) : ∀ a1 a2, s₀.Kept (State.activate s a1 a2) := by
  intro a1 a2
  delta State.activate
  extract_lets +onlyGivenNames v1
  extract_lets +onlyGivenNames s2
  have h3 : s₀.Kept s2 := (State.modSrc_kept (State.setF_kept h _ _ _) _ _)
  clear_value s2
  exact (State.modVec_kept h3 _ _)

theorem State.draw_kept {s₀ s : State} (h : s₀.Kept s) : ∀ a1, s₀.Kept (State.draw s a1).2 :=
  fun _ => (State.Kept.pair_snd (State.Kept.set_free h))

theorem State.adcInjectHeld_kept {s₀ s : State} (h : s₀.Kept s) : ∀ a1 a2, s₀.Kept (State.adcInjectHeld s a1 a2) := by
  intro a1 a2
  delta State.adcInjectHeld
  exact State.Kept.ite (fun _ => (State.adcPlace_kept h _ _)) (fun _ => (State.modAdc_kept h _ _))

theorem State.setCharge_kept {s₀ s : State} (h : s₀.Kept s) : ∀ a1 a2, s₀.Kept (State.setCharge s a1 a2) := by
  intro a1 a2
  delta State.setCharge
  extract_lets +onlyGivenNames b1
  extract_lets +onlyGivenNames s2
  have h3 : s₀.Kept s2 := (State.setF_kept h _ _ _)
  clear_value s2
  exact (State.Kept.set_charges h3 (fun w => tabWf_tabSet (h3.wf w).charges _ _))

theorem State.directYields_kept {s₀ s : State} (h : s₀.Kept s) : ∀ a1, s₀.Kept (State.directYields s a1) := by
  intro a1
  delta State.directYields
  exact State.Kept.ite (fun _ => (State.abandonRotation_kept h _)) (fun _ => h)

theorem State.stopCmd_kept {s₀ s : State} (h : s₀.Kept s) : ∀ a1 a2, s₀.Kept (State.stopCmd s a1 a2) :=
  fun _ _ => (State.stopCmds_kept h _ _)

theorem State.yieldRotation_kept {s₀ s : State} (h : s₀.Kept s) : ∀ a1, s₀.Kept (State.yieldRotation s a1) := by
  intro a1
  delta State.yieldRotation
  extract_lets +onlyGivenNames r1
  refine State.Kept.ite (fun _ => ?_) (fun _ => h)
  · extract_lets +onlyGivenNames s2
    have h3 : s₀.Kept s2 := by
      unfold s2
      refine State.Kept.ite (fun _ => ?_) (fun _ => h)
      · split
        · exact (State.rotResult_kept (State.setRot_kept h _ _) _ _)
        · exact h
    clear_value s2
    exact (State.abandonRotation_kept h3 _)

theorem State.modFlGroup_kept {s₀ s : State} (h : s₀.Kept s) : ∀ a1 a2 a3, s₀.Kept (State.modFlGroup s a1 a2 a3) :=
  fun _ _ _ => (State.Kept.set_flGroups h (fun w => tabWf_tabSet (h.wf w).flGroups _ _))

theorem State.modPort_kept {s₀ s : State} (h : s₀.Kept s) : ∀ a1 a2, s₀.Kept (State.modPort s a1 a2) :=
  fun _ _ => (State.Kept.set_ports h (fun w => tabWf_tabSet (h.wf w).ports _ _))

theorem State.markConv_kept {s₀ s : State} (h : s₀.Kept s) : ∀ a1 a2 a3, s₀.Kept (State.markConv s a1 a2 a3) :=
  fun _ _ _ => (State.modAdc_kept h _ _)

theorem State.loadClamps_kept {s₀ s : State} (h : s₀.Kept s) : ∀ a1, s₀.Kept (State.loadClamps s a1) := by
  intro a1
  delta State.loadClamps
  extract_lets +onlyGivenNames b1
  exact (State.modFe_kept h _ _)

theorem State.loadSetting_kept {s₀ s : State} (h : s₀.Kept s) : ∀ a1, s₀.Kept (State.loadSetting s a1) := by
  intro a1
  delta State.loadSetting
  extract_lets +onlyGivenNames m1
  extract_lets +onlyGivenNames old2
  extract_lets +onlyGivenNames s3
  have h4 : s₀.Kept s3 := (State.modFe_kept (State.loadClamps_kept h _) _ _)
  clear_value s3
  exact State.Kept.ite (fun _ => (State.modEng_kept h4 _ _)) (fun _ => h4)

theorem State.beginEnable_kept {s₀ s : State} (h : s₀.Kept s) : ∀ a1, s₀.Kept (State.beginEnable s a1) := by
  intro a1
  delta State.beginEnable
  extract_lets +onlyGivenNames s1
  have h2 : s₀.Kept s1 := (State.setFs_kept h _ _)
  clear_value s1
  extract_lets +onlyGivenNames s3
  have h4 : s₀.Kept s3 := (State.markConv_kept (State.loadSetting_kept h2 _) _ _ _)
  clear_value s3
  exact (State.modFe_kept h4 _ _)

theorem State.sineHold_kept {s₀ s : State} (h : s₀.Kept s) : ∀ a1, s₀.Kept (State.sineHold s a1) := by
  intro a1
  delta State.sineHold
  extract_lets +onlyGivenNames s1
  have h2 : s₀.Kept s1 := by
    unfold s1
    exact State.Kept.ite (fun _ => (State.setF_kept h _ _ _)) (fun _ => h)
  clear_value s1
  exact (State.sineKill_kept h2 _)

theorem State.beginStep1_kept {s₀ s : State} (h : s₀.Kept s) : ∀ a1 a2, s₀.Kept (State.beginStep1 s a1 a2) :=
  fun _ _ => (State.markConv_kept (State.modFe_kept (State.setF_kept (State.sineHold_kept h _) _ _ _) _ _) _ _ _)

theorem State.sramClear_kept {s₀ s : State} (h : s₀.Kept s) : ∀ a1, s₀.Kept (State.sramClear s a1) :=
  fun _ => (State.Kept.set_sram h (fun w => tabWf_tabKeep (h.wf w).sram _))

theorem State.modCmp_kept {s₀ s : State} (h : s₀.Kept s) : ∀ a1 a2 a3, s₀.Kept (State.modCmp s a1 a2 a3) :=
  fun _ _ _ => (State.Kept.set_cmps h (fun w => tabWf_tabSet (h.wf w).cmps _ _))

theorem State.cmpCondEnd_kept {s₀ s : State} (h : s₀.Kept s) : ∀ a1 a2, s₀.Kept (State.cmpCondEnd s a1 a2) := by
  intro a1 a2
  delta State.cmpCondEnd
  refine State.Kept.ite (fun _ => ?_) (fun _ => h)
  · extract_lets +onlyGivenNames s1
    have h2 : s₀.Kept s1 := (State.modCmp_kept h _ _ _)
    clear_value s1
    refine State.Kept.ite (fun _ => h2) (fun _ => ?_)
    · split
      · exact (State.condEnd_kept h2 _ _ _)

theorem State.cmpCheckCond_kept {s₀ s : State} (h : s₀.Kept s) : ∀ a1 a2, s₀.Kept (State.cmpCheckCond s a1 a2) := by
  intro a1 a2
  delta State.cmpCheckCond
  exact State.Kept.ite (fun _ => h) (fun _ => (State.cmpCondEnd_kept h _ _))

theorem State.cmpTrip_kept {s₀ s : State} (h : s₀.Kept s) : ∀ a1 a2, s₀.Kept (State.cmpTrip s a1 a2) := by
  intro a1 a2
  delta State.cmpTrip
  extract_lets +onlyGivenNames s1
  have h2 : s₀.Kept s1 := (State.modCmp_kept h _ _ _)
  clear_value s1
  extract_lets +onlyGivenNames s3
  have h4 : s₀.Kept s3 := (State.setF_kept h2 _ _ _)
  clear_value s3
  extract_lets +onlyGivenNames v5
  extract_lets +onlyGivenNames s6
  have h7 : s₀.Kept s6 := (State.tripFe_kept h4 _ _)
  clear_value s6
  extract_lets +onlyGivenNames s8
  have h9 : s₀.Kept s8 := by
    unfold s8
    exact State.Kept.ite (fun _ => (State.abandonRotation_kept h7 _)) (fun _ => h7)
  clear_value s8
  split
  · exact (State.detect_kept h9 _ _ _ _)

theorem State.cmpGate_kept {s₀ s : State} (h : s₀.Kept s) : ∀ a1 a2, s₀.Kept (State.cmpGate s a1 a2) := by
  intro a1 a2
  delta State.cmpGate
  exact State.Kept.ite (fun _ => (State.cmpTrip_kept h _ _)) (fun _ => h)

theorem State.cmpInit_kept {s₀ s : State} (h : s₀.Kept s) : ∀ a1 a2, s₀.Kept (State.cmpInit s a1 a2) := by
  intro a1 a2
  delta State.cmpInit
  extract_lets +onlyGivenNames s1
  have h2 : s₀.Kept s1 := (State.setFs_kept h _ _)
  clear_value s1
  extract_lets +onlyGivenNames s3
  have h4 : s₀.Kept s3 := (State.modCmp_kept h2 _ _ _)
  clear_value s3
  exact (State.cmpCheckCond_kept h4 _ _)

theorem State.cmpOff_kept {s₀ s : State} (h : s₀.Kept s) : ∀ a1 a2, s₀.Kept (State.cmpOff s a1 a2) := by
  intro a1 a2
  delta State.cmpOff
  extract_lets +onlyGivenNames s1
  have h2 : s₀.Kept s1 := (State.cmpCondEnd_kept h _ _)
  clear_value s1
  extract_lets +onlyGivenNames s3
  have h4 : s₀.Kept s3 := (State.setFs_kept h2 _ _)
  clear_value s3
  exact (State.modCmp_kept h4 _ _ _)

theorem State.cmpRaw_kept {s₀ s : State} (h : s₀.Kept s) : ∀ a1 a2 a3 a4 a5, s₀.Kept (State.cmpRaw s a1 a2 a3 a4 a5) := by
  intro a1 a2 a3 a4 a5
  delta State.cmpRaw
  refine State.Kept.ite (fun _ => h) (fun _ => ?_)
  · extract_lets +onlyGivenNames coarse1
    extract_lets +onlyGivenNames s2
    have h3 : s₀.Kept s2 := (State.modCmp_kept h _ _ _)
    clear_value s2
    exact State.Kept.ite (fun _ => (State.cmpGate_kept h3 _ _)) (fun _ => (State.cmpCheckCond_kept h3 _ _))

theorem State.cmpSample_kept {s₀ s : State} (h : s₀.Kept s) : ∀ a1 a2 a3, s₀.Kept (State.cmpSample s a1 a2 a3) := by
  intro a1 a2 a3
  delta State.cmpSample
  extract_lets +onlyGivenNames b1
  refine State.Kept.ite (fun _ => h) (fun _ => ?_)
  · extract_lets +onlyGivenNames n2
    extract_lets +onlyGivenNames c3
    extract_lets +onlyGivenNames hist4
    extract_lets +onlyGivenNames samples5
    extract_lets +onlyGivenNames valid6
    extract_lets +onlyGivenNames wasValid7
    extract_lets +onlyGivenNames fout8
    extract_lets +onlyGivenNames wasOut9
    extract_lets +onlyGivenNames isOut10
    extract_lets +onlyGivenNames s11
    have h12 : s₀.Kept s11 := (State.modCmp_kept h _ _ _)
    clear_value s11
    extract_lets +onlyGivenNames s13
    have h14 : s₀.Kept s13 := (State.setFs_kept h12 _ _)
    clear_value s13
    extract_lets +onlyGivenNames s15
    have h16 : s₀.Kept s15 := by
      unfold s15
      exact State.Kept.ite (fun _ => (State.setF_kept h14 _ _ _)) (fun _ => h14)
    clear_value s15
    extract_lets +onlyGivenNames s17
    have h18 : s₀.Kept s17 := by
      unfold s17
      exact State.Kept.ite (fun _ => (State.setF_kept h16 _ _ _)) (fun _ => h16)
    clear_value s17
    extract_lets +onlyGivenNames tc19
    extract_lets +onlyGivenNames s20
    have h21 : s₀.Kept s20 := by
      unfold s20
      exact State.Kept.ite (fun _ => (State.offer_kept h18 _ _ _ _ _ _)) (fun _ => h18)
    clear_value s20
    extract_lets +onlyGivenNames s22
    have h23 : s₀.Kept s22 := (State.cmpCheckCond_kept h21 _ _)
    clear_value s22
    exact State.Kept.ite (fun _ => (State.cmpGate_kept h23 _ _)) (fun _ => h23)

theorem State.cmpWriteCfg_kept {s₀ s : State} (h : s₀.Kept s) : ∀ a1 a2, s₀.Kept (State.cmpWriteCfg s a1 a2) := by
  intro a1 a2
  delta State.cmpWriteCfg
  extract_lets +onlyGivenNames a1
  extract_lets +onlyGivenNames old2
  extract_lets +onlyGivenNames was3
  extract_lets +onlyGivenNames s4
  have h5 : s₀.Kept s4 := (State.wr_kept h _ _)
  clear_value s4
  extract_lets +onlyGivenNames opened6
  have h7 : ∀ y8 y9, s₀.Kept y8 → s₀.Kept (opened6 y8 y9) := by
    intro y8 y9 hy8
    unfold opened6
    exact State.Kept.ite (fun _ => hy8) (fun _ => (State.cmpGate_kept hy8 _ _))
  clear_value opened6
  extract_lets +onlyGivenNames side10
  have h11 : ∀ y12 y13, s₀.Kept y12 → s₀.Kept (side10 y12 y13) := by
    intro y12 y13 hy12
    unfold side10
    extract_lets +onlyGivenNames e014
    extract_lets +onlyGivenNames e115
    exact State.Kept.ite (fun _ => (State.cmpOff_kept hy12 _ _)) (fun _ => State.Kept.ite (fun _ => (State.cmpInit_kept hy12 _ _)) (fun _ => hy12))
  clear_value side10
  exact State.Kept.ite (fun _ => (h7 _ _ (h7 _ _ (h11 _ _ (h11 _ _ h5))))) (fun _ => h5)

theorem State.cmpWriteThr_kept {s₀ s : State} (h : s₀.Kept s) : ∀ a1 a2, s₀.Kept (State.cmpWriteThr s a1 a2) :=
  fun _ _ => (State.wr_kept h _ _)

theorem State.configWord_kept {s₀ s : State} (h : s₀.Kept s) : ∀ a1 a2 a3 a4 a5, s₀.Kept (State.configWord s a1 a2 a3 a4 a5) := by
  intro a1 a2 a3 a4 a5
  delta State.configWord
  split
  · exact (State.wr_kept h _ _)
  · exact h

theorem State.configRegs_kept {s₀ s : State} (h : s₀.Kept s) : ∀ a1 a2, s₀.Kept (State.configRegs s a1 a2) := by
  intro a1 a2
  delta State.configRegs
  extract_lets +onlyGivenNames b1
  extract_lets +onlyGivenNames s2
  have h3 : s₀.Kept s2 := (State.configWord_kept h _ _ _ _ _)
  clear_value s2
  extract_lets +onlyGivenNames s4
  have h5 : s₀.Kept s4 := (State.configWord_kept h3 _ _ _ _ _)
  clear_value s4
  extract_lets +onlyGivenNames s6
  have h7 : s₀.Kept s6 := (State.configWord_kept h5 _ _ _ _ _)
  clear_value s6
  extract_lets +onlyGivenNames s8
  have h9 : s₀.Kept s8 := (State.configWord_kept h7 _ _ _ _ _)
  clear_value s8
  extract_lets +onlyGivenNames s10
  have h11 : s₀.Kept s10 := by
    unfold s10
    split
    · exact (State.cmpWriteCfg_kept h9 _ _)
    · exact h9
  clear_value s10
  split
  · exact (State.cmpWriteThr_kept h11 _ _)
  · exact h11

theorem State.configChannel_kept {s₀ s : State} (h : s₀.Kept s) : ∀ a1 a2, s₀.Kept (State.configChannel s a1 a2) := by
  intro a1 a2
  delta State.configChannel
  extract_lets +onlyGivenNames s1
  have h2 : s₀.Kept s1 := (State.configRegs_kept (State.yieldRotation_kept h _) _ _)
  clear_value s1
  extract_lets +onlyGivenNames u3
  extract_lets +onlyGivenNames b4
  extract_lets +onlyGivenNames m5
  extract_lets +onlyGivenNames s6
  have h7 : s₀.Kept s6 := by
    unfold s6
    exact State.Kept.ite (fun _ => (State.modFe_kept h2 _ _)) (fun _ => h2)
  clear_value s6
  refine State.Kept.ite (fun _ => ?_) (fun _ => ?_)
  · extract_lets +onlyGivenNames f8
    exact State.Kept.ite (fun _ => (State.beginStep1_kept h7 _ _)) (fun _ => State.Kept.ite (fun _ => (State.beginStep1_kept h7 _ _)) (fun _ => (State.loadClamps_kept h7 _)))
  · extract_lets +onlyGivenNames s9
    have h10 : s₀.Kept s9 := (State.loadSetting_kept h7 _)
    clear_value s9
    exact State.Kept.ite (fun _ => (State.beginEnable_kept h10 _)) (fun _ => h10)

theorem State.portDown_kept {s₀ s : State} (h : s₀.Kept s) : ∀ a1, s₀.Kept (State.portDown s a1) := by
  intro a1
  delta State.portDown
  extract_lets +onlyGivenNames q1
  refine State.Kept.ite (fun _ => h) (fun _ => ?_)
  · extract_lets +onlyGivenNames mine2
    extract_lets +onlyGivenNames again3
    extract_lets +onlyGivenNames refused4
    extract_lets +onlyGivenNames s5
    have h6 : s₀.Kept s5 := (State.Kept.set_own h)
    clear_value s5
    extract_lets +onlyGivenNames s7
    have h8 : s₀.Kept s7 := (State.Kept.foldl _ h6 fun _ _ h11 => (State.modPort_kept h11 _ _))
    clear_value s7
    exact (State.modPort_kept h8 _ _)

theorem State.reply_kept {s₀ s : State} (h : s₀.Kept s) : ∀ a1, s₀.Kept (State.reply s a1) :=
  fun _ => (State.Kept.set_own h)

theorem State.resetBlock_kept {s₀ s : State} (h : s₀.Kept s) : ∀ a1 a2 a3, s₀.Kept (State.resetBlock s a1 a2 a3) :=
  fun _ _ _ => (State.resetRegs_kept h _)

theorem State.leaveQuiesce_kept {s₀ s : State} (h : s₀.Kept s) : ∀ a1, s₀.Kept (State.leaveQuiesce s a1) := by
  intro a1
  delta State.leaveQuiesce
  extract_lets +onlyGivenNames held1
  refine State.Kept.ite (fun _ => h) (fun _ => ?_)
  · extract_lets +onlyGivenNames s2
    have h3 : s₀.Kept s2 := (State.setTileQ_kept h _ _)
    clear_value s2
    exact (State.modTile_kept h3 _ _)

theorem State.settleFaults_kept {s₀ s : State} (h : s₀.Kept s) : s₀.Kept (State.settleFaults s) := by
  delta State.settleFaults
  extract_lets +onlyGivenNames s1
  have h2 : s₀.Kept s1 := (State.Kept.foldl _ h fun _ _ h5 => (State.leaveQuiesce_kept h5 _))
  clear_value s1
  exact State.Kept.ite (fun _ => (State.setMode_kept h2 _)) (fun _ => h2)

theorem State.releaseInst_kept {s₀ s : State} (h : s₀.Kept s) : ∀ a1, s₀.Kept (State.releaseInst s a1) := by
  intro a1
  delta State.releaseInst
  extract_lets +onlyGivenNames i1
  refine State.Kept.ite (fun _ => h) (fun _ => ?_)
  · refine State.Kept.ite (fun _ => ?_) (fun _ => (State.settleFaults_kept (State.setInst_kept h _ _)))
    · extract_lets +onlyGivenNames i2
      exact (State.levelAction_kept (State.setInst_kept h _ _) _ _)

theorem State.setPair_kept {s₀ s : State} (h : s₀.Kept s) : ∀ a1 a2, s₀.Kept (State.setPair s a1 a2) :=
  fun _ _ => (State.Kept.set_pairs h (fun w => tabWf_tabSet (h.wf w).pairs _ _))

theorem State.endService_kept {s₀ s : State} (h : s₀.Kept s) : ∀ a1, s₀.Kept (State.endService s a1) := by
  intro a1
  delta State.endService
  extract_lets +onlyGivenNames st1
  extract_lets +onlyGivenNames en2
  exact State.Kept.ite (fun _ => (State.activate_kept h _ _)) (fun _ => State.Kept.ite (fun _ => (State.activate_kept h _ _)) (fun _ => State.Kept.ite (fun _ => (State.modSrc_kept (State.setF_kept h _ _ _) _ _)) (fun _ => h)))

theorem State.eoi_kept {s₀ s : State} (h : s₀.Kept s) : ∀ a1, s₀.Kept (State.eoi s a1) := by
  intro a1
  delta State.eoi
  refine State.Kept.ite (fun _ => (State.Kept.foldl _ h fun _ _ h3 => (State.endService_kept h3 _))) (fun _ => ?_)
  · extract_lets +onlyGivenNames n4
    exact State.Kept.ite (fun _ => (State.endService_kept h _)) (fun _ => (State.setF_kept h _ _ _))

theorem State.smapWrite_kept {s₀ s : State} (h : s₀.Kept s) : ∀ a1 a2, s₀.Kept (State.smapWrite s a1 a2) := by
  intro a1 a2
  delta State.smapWrite
  extract_lets +onlyGivenNames b1
  extract_lets +onlyGivenNames s2
  have h3 : s₀.Kept s2 := (State.setF_kept h _ _ _)
  clear_value s2
  exact State.Kept.ite (fun _ => (State.setF_kept h3 _ _ _)) (fun _ => State.Kept.ite (fun _ => h3) (fun _ => (State.setF_kept h3 _ _ _)))

theorem State.vecCfg_kept {s₀ s : State} (h : s₀.Kept s) : ∀ a1 a2, s₀.Kept (State.vecCfg s a1 a2) := by
  intro a1 a2
  delta State.vecCfg
  extract_lets +onlyGivenNames longer1
  extract_lets +onlyGivenNames s2
  have h3 : s₀.Kept s2 := (State.setFs_kept h _ _)
  clear_value s2
  exact State.Kept.ite (fun _ => (State.modVec_kept h3 _ _)) (fun _ => h3)

theorem State.tgtCtrl_kept {s₀ s : State} (h : s₀.Kept s) : ∀ a1 a2, s₀.Kept (State.tgtCtrl s a1 a2) := by
  intro a1 a2
  delta State.tgtCtrl
  extract_lets +onlyGivenNames b1
  extract_lets +onlyGivenNames en2
  extract_lets +onlyGivenNames others3
  extract_lets +onlyGivenNames s4
  have h5 : s₀.Kept s4 := by
    unfold s4
    exact State.Kept.ite (fun _ => (State.setFs_kept h _ _)) (fun _ => State.Kept.ite (fun _ => (State.setF_kept h _ _ _)) (fun _ => h))
  clear_value s4
  extract_lets +onlyGivenNames s6
  have h7 : s₀.Kept s6 := (State.setF_kept h5 _ _ _)
  clear_value s6
  exact State.Kept.ite (fun _ => (State.setFs_kept h7 _ _)) (fun _ => h7)

theorem State.doze_kept {s₀ s : State} (h : s₀.Kept s) : ∀ a1 a2, s₀.Kept (State.doze s a1 a2) := by
  intro a1 a2
  delta State.doze
  extract_lets +onlyGivenNames d1
  extract_lets +onlyGivenNames s2
  have h3 : s₀.Kept s2 := (State.setF_kept h _ _ _)
  clear_value s2
  exact State.Kept.ite (fun _ => (State.setF_kept h3 _ _ _)) (fun _ => h3)

theorem State.rbase_kept {s₀ s : State} (h : s₀.Kept s) : ∀ a1 a2 a3, s₀.Kept (State.rbase s a1 a2 a3) := by
  intro a1 a2 a3
  delta State.rbase
  exact State.Kept.ite (fun _ => (State.setF_kept h _ _ _)) (fun _ => (State.setF_kept h _ _ _))

theorem State.rcons_kept {s₀ s : State} (h : s₀.Kept s) : ∀ a1 a2, s₀.Kept (State.rcons s a1 a2) := by
  intro a1 a2
  delta State.rcons
  exact State.Kept.ite (fun _ => (State.setF_kept h _ _ _)) (fun _ => (State.setF_kept h _ _ _))

theorem State.sineTake_kept {s₀ s : State} (h : s₀.Kept s) : ∀ a1, s₀.Kept (State.sineTake s a1) := by
  intro a1
  delta State.sineTake
  extract_lets +onlyGivenNames b1
  exact (State.modFe_kept h _ _)

theorem State.sineStart_kept {s₀ s : State} (h : s₀.Kept s) : ∀ a1 a2, s₀.Kept (State.sineStart s a1 a2).1 := by
  intro a1 a2
  delta State.sineStart
  extract_lets +onlyGivenNames b1
  extract_lets +onlyGivenNames t2
  extract_lets +onlyGivenNames start3
  extract_lets +onlyGivenNames epochMode4
  extract_lets +onlyGivenNames err5
  have h6 : s₀.Kept err5 := (State.setF_kept h _ _ _)
  clear_value err5
  refine State.Kept.ite_fst (fun _ => (State.Kept.pair_fst h6)) (fun _ => ?_)
  · refine State.Kept.ite_fst (fun _ => (State.Kept.pair_fst h6)) (fun _ => ?_)
    · refine State.Kept.ite_fst (fun _ => (State.Kept.pair_fst h6)) (fun _ => ?_)
      · refine State.Kept.ite_fst (fun _ => (State.Kept.pair_fst h6)) (fun _ => ?_)
        · extract_lets +onlyGivenNames s7
          have h8 : s₀.Kept s7 := (State.setF_kept h _ _ _)
          clear_value s7
          exact (State.Kept.pair_fst (State.modFe_kept (State.sineTake_kept h8 _) _ _))

theorem State.sineStop_kept {s₀ s : State} (h : s₀.Kept s) : ∀ a1, s₀.Kept (State.sineStop s a1) := by
  intro a1
  delta State.sineStop
  extract_lets +onlyGivenNames b1
  extract_lets +onlyGivenNames f2
  extract_lets +onlyGivenNames s3
  have h4 : s₀.Kept s3 := (State.setF_kept h _ _ _)
  clear_value s3
  exact State.Kept.ite (fun _ => (State.modFe_kept h4 _ _)) (fun _ => State.Kept.ite (fun _ => (State.modFe_kept h4 _ _)) (fun _ => (State.modFe_kept (State.setF_kept (State.setF_kept h4 _ _ _) _ _ _) _ _)))

theorem State.sineApply_kept {s₀ s : State} (h : s₀.Kept s) : ∀ a1 a2, s₀.Kept (State.sineApply s a1 a2).1 := by
  intro a1 a2
  delta State.sineApply
  exact State.Kept.ite_fst (fun _ => (State.Kept.pair_fst (State.setF_kept h _ _ _))) (fun _ => (State.Kept.pair_fst (State.modFe_kept h _ _)))

theorem State.sineCtrl_kept {s₀ s : State} (h : s₀.Kept s) : ∀ a1 a2 a3, s₀.Kept (State.sineCtrl s a1 a2 a3).1 := by
  intro a1 a2 a3
  delta State.sineCtrl
  extract_lets +onlyGivenNames b1
  extract_lets +onlyGivenNames s2
  have h3 : s₀.Kept s2 := by
    unfold s2
    exact State.Kept.ite (fun _ => (State.setF_kept h _ _ _)) (fun _ => h)
  clear_value s2
  extract_lets +onlyGivenNames s4
  have h5 : s₀.Kept s4 := (State.setF_kept h3 _ _ _)
  clear_value s4
  extract_lets +onlyGivenNames s6
  have h7 : s₀.Kept s6 := by
    unfold s6
    exact State.Kept.ite (fun _ => h5) (fun _ => (State.setFs_kept h5 _ _))
  clear_value s6
  extract_lets +onlyGivenNames en8
  extract_lets +onlyGivenNames en9
  exact State.Kept.ite_fst (fun _ => (State.sineStart_kept h7 _ _)) (fun _ => State.Kept.ite_fst (fun _ => (State.Kept.pair_fst (State.sineStop_kept h7 _))) (fun _ => State.Kept.ite_fst (fun _ => (State.sineApply_kept h7 _ _)) (fun _ => (State.Kept.pair_fst h7))))

theorem State.detectEcc_kept {s₀ s : State} (h : s₀.Kept s) : ∀ a1 a2 a3 a4, s₀.Kept (State.detectEcc s a1 a2 a3 a4) := by
  intro a1 a2 a3 a4
  delta State.detectEcc
  extract_lets +onlyGivenNames scope1
  extract_lets +onlyGivenNames lv2
  extract_lets +onlyGivenNames s3
  have h4 : s₀.Kept s3 := (State.incSat_kept h _ _ _)
  clear_value s3
  exact (State.detectAt_kept h4 _ _ _ _ _ _)

theorem State.rdFail_kept {s₀ s : State} (h : s₀.Kept s) : ∀ a1, s₀.Kept (State.rdFail s a1) :=
  fun _ => (State.incSat_kept h _ _ _)

theorem State.contactBegin_kept {s₀ s : State} (h : s₀.Kept s) : ∀ a1 a2, s₀.Kept (State.contactBegin s a1 a2) := by
  intro a1 a2
  delta State.contactBegin
  extract_lets +onlyGivenNames s1
  have h2 : s₀.Kept s1 := (State.yieldRotation_kept h _)
  clear_value s1
  extract_lets +onlyGivenNames u3
  extract_lets +onlyGivenNames b4
  extract_lets +onlyGivenNames s5
  have h6 : s₀.Kept s5 := by
    unfold s5
    exact State.Kept.ite (fun _ => (State.wr_kept h2 _ _)) (fun _ => h2)
  clear_value s5
  extract_lets +onlyGivenNames src7
  extract_lets +onlyGivenNames full8
  extract_lets +onlyGivenNames k9
  extract_lets +onlyGivenNames s10
  have h11 : s₀.Kept s10 := (State.modFe_kept h6 _ _)
  clear_value s10
  exact (State.setFs_kept h11 _ _)

theorem State.contactLeave_kept {s₀ s : State} (h : s₀.Kept s) : ∀ a1, s₀.Kept (State.contactLeave s a1) := by
  intro a1
  delta State.contactLeave
  split
  · exact h
  · extract_lets +onlyGivenNames s1
    have h2 : s₀.Kept s1 := (State.modFe_kept (State.wr_kept h _ _) _ _)
    clear_value s1
    exact State.Kept.ite (fun _ => State.Kept.ite (fun _ => h2) (fun _ => (State.beginStep1_kept h2 _ _))) (fun _ => (State.loadSetting_kept h2 _))

theorem State.deliverSrc_kept {s₀ s : State} (h : s₀.Kept s) : ∀ a1 a2, s₀.Kept (State.deliverSrc s a1 a2) := by
  intro a1 a2
  delta State.deliverSrc
  extract_lets +onlyGivenNames l1
  exact (State.modSrc_kept (State.setF_kept h _ _ _) _ _)

theorem State.hostSet_kept {s₀ s : State} (h : s₀.Kept s) : ∀ a1 a2 a3, s₀.Kept (State.hostSet s a1 a2 a3) :=
  fun _ _ _ => (State.hostWrite_kept h _ _)

theorem State.setVecState_kept {s₀ s : State} (h : s₀.Kept s) : ∀ a1 a2, s₀.Kept (State.setVecState s a1 a2) :=
  fun _ _ => (State.setF_kept h _ _ _)

theorem State.vecAfter_kept {s₀ s : State} (h : s₀.Kept s) : ∀ a1 a2, s₀.Kept (State.vecAfter s a1 a2) :=
  fun _ _ => (State.setVecState_kept (State.modVec_kept h _ _) _ _)

theorem State.deliverHost_kept {s₀ s : State} (h : s₀.Kept s) : ∀ a1 a2 a3 a4, s₀.Kept (State.deliverHost s a1 a2 a3 a4) := by
  intro a1 a2 a3 a4
  delta State.deliverHost
  extract_lets +onlyGivenNames all1
  extract_lets +onlyGivenNames now2
  extract_lets +onlyGivenNames held3
  extract_lets +onlyGivenNames r4
  extract_lets +onlyGivenNames size5
  extract_lets +onlyGivenNames s6
  have h7 : s₀.Kept s6 := by
    unfold s6
    refine State.Kept.foldl _ h fun _ _ h16 => ?_
    extract_lets +onlyGivenNames k17
    extract_lets +onlyGivenNames n18
    exact (State.deliverSrc_kept (State.hostWrite_kept h16 _ _) _ _)
  clear_value s6
  extract_lets +onlyGivenNames s19
  have h20 : s₀.Kept s19 := (State.setF_kept h7 _ _ _)
  clear_value s19
  extract_lets +onlyGivenNames s21
  have h22 : s₀.Kept s21 := (State.hostSet_kept h20 _ _ _)
  clear_value s21
  extract_lets +onlyGivenNames s23
  have h24 : s₀.Kept s23 := by
    unfold s23
    exact State.Kept.ite (fun _ => (State.hostSet_kept h22 _ _ _)) (fun _ => h22)
  clear_value s23
  exact (State.vecAfter_kept h24 _ _)

theorem State.deliverSlate_kept {s₀ s : State} (h : s₀.Kept s) : ∀ a1, s₀.Kept (State.deliverSlate s a1) :=
  fun _ => (State.vecAfter_kept (State.Kept.foldl _ h fun _ _ h3 => (State.deliverSrc_kept h3 _ _)) _ _)

theorem State.vecPark_kept {s₀ s : State} (h : s₀.Kept s) : ∀ a1 a2, s₀.Kept (State.vecPark s a1 a2) :=
  fun _ _ => (State.setVecState_kept (State.modVec_kept h _ _) _ _)

theorem State.tryVec_kept {s₀ s : State} (h : s₀.Kept s) : ∀ v t, State.tryVec s v = some t → s₀.Kept t := by
  intro v t ht
  unfold State.tryVec at ht
  dsimp only at ht
  split at ht
  · nomatch ht
  · split at ht
    · exact Option.some.inj ht ▸ State.deliverSlate_kept h _
    · split at ht
      · nomatch ht
      · split at ht
        · split at ht
          · nomatch ht
          · exact Option.some.inj ht ▸ State.setVecState_kept h _ _
        · exact Option.some.inj ht ▸ State.deliverHost_kept h _ _ _ _
    · split at ht
      · split at ht
        · exact Option.some.inj ht ▸ State.vecPark_kept (State.setF_kept (State.hostSet_kept h _ _ _) _ _ _) _ _
        · nomatch ht
      · split at ht
        · nomatch ht
        · exact Option.some.inj ht ▸ State.vecPark_kept h _ _
    · split at ht
      · nomatch ht
      · exact Option.some.inj ht ▸ State.vecPark_kept (State.incSat_kept h _ _ _) _ _

theorem State.deliverNext_kept {s₀ s : State} (h : s₀.Kept s) : s₀.Kept (State.deliverNext s) := by
  delta State.deliverNext
  split
  · rename_i v x hx
    obtain ⟨k, _, hk⟩ := List.exists_of_findSome?_eq_some hx
    obtain ⟨y, hy, e⟩ := Option.map_eq_some_iff.1 hk
    cases e
    exact State.Kept.set_vecLast (State.tryVec_kept h _ _ hy)
  · exact h

theorem State.detectFe_kept {s₀ s : State} (h : s₀.Kept s) : ∀ a1 a2 a3, s₀.Kept (State.detectFe s a1 a2 a3) := by
  intro a1 a2 a3
  delta State.detectFe
  split
  · exact (State.detect_kept h _ _ _ _)

theorem State.endOk_kept {s₀ s : State} (h : s₀.Kept s) : ∀ a1, s₀.Kept (State.endOk s a1) :=
  fun _ => (State.modCmd_kept h _ _)

theorem State.endStep_kept {s₀ s : State} (h : s₀.Kept s) : ∀ a1 a2, s₀.Kept (State.endStep s a1 a2) := by
  intro a1 a2
  delta State.endStep
  extract_lets +onlyGivenNames b1
  extract_lets +onlyGivenNames f2
  extract_lets +onlyGivenNames step3
  extract_lets +onlyGivenNames s14
  have h5 : s₀.Kept s14 := by
    unfold s14
    exact State.Kept.ite (fun _ => (State.setF_kept h _ _ _)) (fun _ => h)
  clear_value s14
  extract_lets +onlyGivenNames toZero6
  have h7 : s₀.Kept toZero6 := (State.modFe_kept h5 _ _)
  clear_value toZero6
  refine State.Kept.ite (fun _ => h) (fun _ => ?_)
  · refine State.Kept.ite (fun _ => ?_) (fun _ => ?_)
    · extract_lets +onlyGivenNames s8
      have h9 : s₀.Kept s8 := (State.setFs_kept h7 _ _)
      clear_value s8
      exact (State.outputOpened_kept (State.loadSetting_kept (State.modFe_kept h9 _ _) _) _)
    · refine State.Kept.ite (fun _ => (State.setF_kept (State.modFe_kept h7 _ _) _ _ _)) (fun _ => ?_)
      · refine State.Kept.ite (fun _ => ?_) (fun _ => State.Kept.ite (fun _ => (State.setF_kept h _ _ _)) (fun _ => (State.setF_kept (State.modFe_kept h _ _) _ _ _)))
        · extract_lets +onlyGivenNames s10
          have h11 : s₀.Kept s10 := (State.loadSetting_kept h _)
          clear_value s10
          exact (State.setF_kept (State.modFe_kept h11 _ _) _ _ _)

theorem State.fireEngines_kept {s₀ s : State} (h : s₀.Kept s) : ∀ a1, s₀.Kept (State.fireEngines s a1) := by
  intro a1
  delta State.fireEngines
  extract_lets +onlyGivenNames s1
  have h2 : s₀.Kept s1 := (State.Kept.foldl _ h fun _ _ h5 => (State.modEng_kept (State.waitMet_kept h5 _ _) _ _))
  clear_value s1
  exact (State.Kept.foldl _ h2 fun _ _ h8 => (State.modCtx_kept h8 _ _ _))

theorem State.incWrap_kept {s₀ s : State} (h : s₀.Kept s) : ∀ a1 a2 a3, s₀.Kept (State.incWrap s a1 a2 a3) :=
  fun _ _ _ => (State.setF_kept h _ _ _)

theorem State.forceChannel_kept {s₀ s : State} (h : s₀.Kept s) : ∀ a1 a2, s₀.Kept (State.forceChannel s a1 a2) := by
  intro a1 a2
  delta State.forceChannel
  extract_lets +onlyGivenNames s1
  have h2 : s₀.Kept s1 := (State.yieldRotation_kept h _)
  clear_value s1
  extract_lets +onlyGivenNames u3
  extract_lets +onlyGivenNames out4
  extract_lets +onlyGivenNames on5
  extract_lets +onlyGivenNames s6
  have h7 : s₀.Kept s6 := by
    unfold s6
    exact State.Kept.ite (fun _ => (State.setTarget_kept h2 _ _)) (fun _ => (State.setF_kept h2 _ _ _))
  clear_value s6
  exact State.Kept.ite (fun _ => (State.beginEnable_kept h7 _)) (fun _ => State.Kept.ite (fun _ => (State.beginStep1_kept h7 _ _)) (fun _ => h7))

theorem State.kickAll_kept {s₀ s : State} (h : s₀.Kept s) : s₀.Kept (State.kickAll s) := by
  delta State.kickAll
  refine State.Kept.foldl _ h fun _ _ h9 => ?_
  extract_lets +onlyGivenNames a10
  refine State.Kept.ite (fun _ => ?_) (fun _ => h9)
  · refine State.adcKick_kept ?_ _
    exact State.Kept.ite (fun _ => h9) (fun _ => (State.adcRefill_kept h9 _))

theorem State.leaveGroup_kept {s₀ s : State} (h : s₀.Kept s) : ∀ a1, s₀.Kept (State.leaveGroup s a1) := by
  intro a1
  delta State.leaveGroup
  extract_lets +onlyGivenNames b1
  refine State.Kept.ite (fun _ => h) (fun _ => ?_)
  · extract_lets +onlyGivenNames t2
    extract_lets +onlyGivenNames g3
    extract_lets +onlyGivenNames led4
    extract_lets +onlyGivenNames s5
    have h6 : s₀.Kept s5 := (State.wr_kept h _ _)
    clear_value s5
    refine State.Kept.ite (fun _ => h6) (fun _ => ?_)
    · split
      · exact h6
      · extract_lets +onlyGivenNames s7
        have h8 : s₀.Kept s7 := (State.setF_kept h6 _ _ _)
        clear_value s7
        exact (State.Kept.foldl _ h8 fun _ _ h11 => (State.setF_kept h11 _ _ _))

theorem State.leaveInst_kept {s₀ s : State} (h : s₀.Kept s) : ∀ a1, s₀.Kept (State.leaveInst s a1) := by
  intro a1
  delta State.leaveInst
  extract_lets +onlyGivenNames i1
  exact (State.settleFaults_kept (State.setInst_kept h _ _))

theorem State.sendTp_kept {s₀ s : State} (h : s₀.Kept s) : ∀ a1 a2 a3, s₀.Kept (State.sendTp s a1 a2 a3) := by
  intro a1 a2 a3
  delta State.sendTp
  extract_lets +onlyGivenNames q1
  extract_lets +onlyGivenNames out2
  extract_lets +onlyGivenNames q3
  extract_lets +onlyGivenNames s4
  have h5 : s₀.Kept s4 := (State.modPort_kept h _ _)
  clear_value s4
  exact State.Kept.ite (fun _ => (State.Kept.set_own h5)) (fun _ => (State.modPort_kept h5 _ _))

theorem State.pumpPort_kept {s₀ s : State} (h : s₀.Kept s) : ∀ p n, s₀.Kept (State.pumpPort s p n) := by
  intro p n
  induction n generalizing s with
  | zero => exact h
  | succ n ih =>
    rw [State.pumpPort]
    refine State.Kept.ite (fun _ => ?_) (fun _ => h)
    split
    · exact ih (State.sendTp_kept h _ _ _)
    · exact h

theorem State.pump_kept {s₀ s : State} (h : s₀.Kept s) : s₀.Kept (State.pump s) := by
  delta State.pump
  exact State.Kept.ite (fun _ => h) (fun _ => (State.Kept.foldl _ h fun _ _ h3 => (State.pumpPort_kept h3 _ _)))

theorem State.releaseRest_kept {s₀ s : State} (h : s₀.Kept s) : ∀ a1, s₀.Kept (State.releaseRest s a1) := by
  intro a1
  delta State.releaseRest
  extract_lets +onlyGivenNames u1
  extract_lets +onlyGivenNames remapped2
  extract_lets +onlyGivenNames s3
  have h4 : s₀.Kept s3 := (State.sineKill_kept (State.outputOpened_kept h _) _)
  clear_value s3
  extract_lets +onlyGivenNames s5
  have h6 : s₀.Kept s5 := (State.resetBlock_kept (State.resetBlock_kept h4 _ _ _) _ _ _)
  clear_value s5
  extract_lets +onlyGivenNames s7
  have h8 : s₀.Kept s7 := (State.setF_kept h6 _ _ _)
  clear_value s7
  extract_lets +onlyGivenNames s9
  have h10 : s₀.Kept s9 := (State.modFe_kept (State.modFe_kept h8 _ _) _ _)
  clear_value s9
  extract_lets +onlyGivenNames s11
  have h12 : s₀.Kept s11 := (State.setF_kept (State.resetBlock_kept (State.adcKill_kept h10 _) _ _ _) _ _ _)
  clear_value s11
  extract_lets +onlyGivenNames s13
  have h14 : s₀.Kept s13 := (State.setF_kept (State.modTdc_kept h12 _ _) _ _ _)
  clear_value s13
  extract_lets +onlyGivenNames s15
  have h16 : s₀.Kept s15 := (State.wr_kept (State.wr_kept h14 _ _) _ _)
  clear_value s15
  extract_lets +onlyGivenNames s17
  have h18 : s₀.Kept s17 := (State.resetBlock_kept (State.cmpOff_kept (State.cmpOff_kept h16 _ _) _ _) _ _ _)
  clear_value s17
  extract_lets +onlyGivenNames s19
  have h20 : s₀.Kept s19 := (State.modEng_kept h18 _ _)
  clear_value s19
  extract_lets +onlyGivenNames s21
  have h22 : s₀.Kept s21 := (State.leaveGroup_kept h20 _)
  clear_value s21
  exact (State.Kept.foldl _ h22 fun _ _ h25 => (State.releaseInst_kept h25 _))

theorem State.rotForce_kept {s₀ s : State} (h : s₀.Kept s) : ∀ a1 a2, s₀.Kept (State.rotForce s a1 a2) := by
  intro a1 a2
  delta State.rotForce
  extract_lets +onlyGivenNames r1
  refine State.Kept.ite (fun _ => h) (fun _ => ?_)
  · extract_lets +onlyGivenNames o2
    extract_lets +onlyGivenNames old3
    extract_lets +onlyGivenNames bs4
    extract_lets +onlyGivenNames s5
    have h6 : s₀.Kept s5 := (State.Kept.set_sram h (fun w => tabWf_memWrite (h.wf w).sram _ _))
    clear_value s5
    extract_lets +onlyGivenNames s7
    have h8 : s₀.Kept s7 := by
      unfold s7
      exact State.Kept.ite (fun _ => (State.Kept.set_sram h6 (fun w => tabWf_memWrite (h6.wf w).sram _ _))) (fun _ => h6)
    clear_value s7
    exact (State.setRot_kept h8 _ _)

theorem State.unbusy_kept {s₀ s : State} (h : s₀.Kept s) : ∀ a1 a2, s₀.Kept (State.unbusy s a1 a2) :=
  fun _ _ => (State.unbusyBy_kept h _ _)

theorem State.seqEnded_kept {s₀ s : State} (h : s₀.Kept s) : ∀ a1, s₀.Kept (State.seqEnded s a1) := by
  intro a1
  delta State.seqEnded
  refine State.Kept.ite (fun _ => h) (fun _ => ?_)
  · extract_lets +onlyGivenNames rel1
    extract_lets +onlyGivenNames s2
    have h3 : s₀.Kept s2 := (State.Kept.foldl _ h fun _ _ h6 => (State.Kept.foldl _ h6 fun _ _ h9 => (State.releaseRest_kept h9 _)))
    clear_value s2
    exact (State.unbusy_kept h3 _ _)

theorem State.settle_kept {s₀ s : State} (h : s₀.Kept s) : s₀.Kept (State.settle s) := by
  delta State.settle
  exact State.Kept.ite (fun _ => (State.setMode_kept h _)) (fun _ => h)

theorem State.settleCharge_kept {s₀ s : State} (h : s₀.Kept s) : s₀.Kept (State.settleCharge s) := by
  delta State.settleCharge
  refine State.Kept.foldl _ h fun _ _ h9 => ?_
  exact State.Kept.ite (fun _ => h9) (fun _ => State.Kept.ite (fun _ => h9) (fun _ => (State.setCharge_kept h9 _ _)))

theorem State.settleContacts_kept {s₀ s : State} (h : s₀.Kept s) : s₀.Kept (State.settleContacts s) := by
  delta State.settleContacts
  refine State.Kept.foldl _ h fun _ _ h9 => ?_
  split
  · exact State.Kept.ite (fun _ => h9) (fun _ => (State.contactLeave_kept h9 _))
  · exact h9

theorem State.srcEval_kept {s₀ s : State} (h : s₀.Kept s) : ∀ a1, s₀.Kept (State.srcEval s a1) := by
  intro a1
  delta State.srcEval
  extract_lets +onlyGivenNames l1
  refine State.Kept.ite (fun _ => h) (fun _ => ?_)
  · extract_lets +onlyGivenNames s2
    have h3 : s₀.Kept s2 := (State.modSrc_kept h _ _)
    clear_value s2
    exact State.Kept.ite (fun _ => (State.setF_kept h3 _ _ _)) (fun _ => h3)

theorem State.vecEval_kept {s₀ s : State} (h : s₀.Kept s) : ∀ a1, s₀.Kept (State.vecEval s a1) := by
  intro a1
  delta State.vecEval
  extract_lets +onlyGivenNames full1
  extract_lets +onlyGivenNames s2
  have h3 : s₀.Kept s2 := by
    unfold s2
    exact State.Kept.ite (fun _ => (State.modVec_kept h _ _)) (fun _ => h)
  clear_value s2
  refine State.Kept.ite (fun _ => State.Kept.ite (fun _ => h3) (fun _ => (State.setVecState_kept h3 _ _))) (fun _ => ?_)
  · extract_lets +onlyGivenNames st4
    exact State.Kept.ite (fun _ => h3) (fun _ => (State.setVecState_kept h3 _ _))

theorem State.settleEvents_kept {s₀ s : State} (h : s₀.Kept s) : s₀.Kept (State.settleEvents s) := by
  delta State.settleEvents
  refine State.Kept.ite (fun _ => ?_) (fun _ => h)
  · extract_lets +onlyGivenNames s1
    have h2 : s₀.Kept s1 := (State.Kept.foldl _ h fun _ _ h5 => (State.srcEval_kept h5 _))
    clear_value s1
    refine State.Kept.foldl _ h2 fun _ _ h11 => ?_
    exact State.Kept.ite (fun _ => (State.vecEval_kept h11 _)) (fun _ => h11)

theorem State.settled_kept {s₀ s : State} (h : s₀.Kept s) : s₀.Kept (State.settled s) :=
  (State.pump_kept (State.settleEvents_kept (State.settle_kept (State.settleCharge_kept (State.kickAll_kept (State.settleContacts_kept h))))))

theorem State.sineChannel_kept {s₀ s : State} (h : s₀.Kept s) : ∀ a1 a2, s₀.Kept (State.sineChannel s a1 a2).1 := by
  intro a1 a2
  delta State.sineChannel
  extract_lets +onlyGivenNames s1
  have h2 : s₀.Kept s1 := (State.yieldRotation_kept h _)
  clear_value s1
  extract_lets +onlyGivenNames u3
  extract_lets +onlyGivenNames b4
  extract_lets +onlyGivenNames put5
  have h6 : ∀ y7 y8 y9, s₀.Kept y7 → s₀.Kept (put5 y7 y8 y9) := by
    intro y7 y8 y9 hy7
    unfold put5
    split
    · exact (State.setF_kept hy7 _ _ _)
    · exact hy7
  clear_value put5
  extract_lets +onlyGivenNames s10
  have h11 : s₀.Kept s10 := (h6 _ _ _ h2)
  clear_value s10
  extract_lets +onlyGivenNames s12
  have h13 : s₀.Kept s12 := (h6 _ _ _ h11)
  clear_value s12
  extract_lets +onlyGivenNames s14
  have h15 : s₀.Kept s14 := (h6 _ _ _ h13)
  clear_value s14
  extract_lets +onlyGivenNames s16
  have h17 : s₀.Kept s16 := (h6 _ _ _ h15)
  clear_value s16
  extract_lets +onlyGivenNames s18
  have h19 : s₀.Kept s18 := (h6 _ _ _ h17)
  clear_value s18
  split
  · exact (State.sineCtrl_kept h19 _ _ _)
  · exact (State.Kept.pair_fst h19)

theorem State.sineEpoch_kept {s₀ s : State} (h : s₀.Kept s) : ∀ a1 a2, s₀.Kept (State.sineEpoch s a1 a2) := by
  intro a1 a2
  delta State.sineEpoch
  extract_lets +onlyGivenNames b1
  extract_lets +onlyGivenNames f2
  refine State.Kept.ite (fun _ => h) (fun _ => ?_)
  · extract_lets +onlyGivenNames acc3
    exact (State.modFe_kept (State.setF_kept h _ _ _) _ _)

theorem State.sineTick_kept {s₀ s : State} (h : s₀.Kept s) : ∀ a1, s₀.Kept (State.sineTick s a1) := by
  intro a1
  delta State.sineTick
  extract_lets +onlyGivenNames b1
  extract_lets +onlyGivenNames f2
  refine State.Kept.ite (fun _ => (State.modFe_kept (State.setF_kept h _ _ _) _ _)) (fun _ => ?_)
  · refine State.Kept.ite (fun _ => h) (fun _ => ?_)
    · extract_lets +onlyGivenNames take3
      extract_lets +onlyGivenNames s4
      have h5 : s₀.Kept s4 := by
        unfold s4
        exact State.Kept.ite (fun _ => (State.setF_kept h _ _ _)) (fun _ => h)
      clear_value s4
      extract_lets +onlyGivenNames padj6
      extract_lets +onlyGivenNames s7
      have h8 : s₀.Kept s7 := by
        unfold s7
        exact State.Kept.ite (fun _ => (State.setF_kept (State.sineTake_kept h5 _) _ _ _)) (fun _ => h5)
      clear_value s7
      extract_lets +onlyGivenNames acc9
      extract_lets +onlyGivenNames s10
      have h11 : s₀.Kept s10 := (State.modFe_kept h8 _ _)
      clear_value s10
      refine State.Kept.ite (fun _ => ?_) (fun _ => (State.modFe_kept h11 _ _))
      · extract_lets +onlyGivenNames ofs12
        exact (State.modFe_kept (State.setF_kept (State.setF_kept h11 _ _ _) _ _ _) _ _)

theorem State.startCmd_kept {s₀ s : State} (h : s₀.Kept s) : ∀ a1 a2 a3, s₀.Kept (State.startCmd s a1 a2 a3) :=
  fun _ _ _ => (State.modCmd_kept h _ _)

theorem State.wr64_kept {s₀ s : State} (h : s₀.Kept s) : ∀ a1 a2, s₀.Kept (State.wr64 s a1 a2) :=
  fun _ _ => (State.wr_kept (State.wr_kept h _ _) _ _)

theorem done_kept {s₀ s : State} (h : s₀.Kept s) : Res.Kept s₀ (done s) := by
  delta done
  apply Res.Kept.next
  exact (State.settled_kept h)

end Sys2Proof.Machine
end

