-- ==== Sys2Proof/Laws/KeptEngines.lean ====
section
/-! SUPPORT. State.Kept through the operations of triggers, stamps, engines and Cobalt. -/

namespace Sys2Proof.Machine

theorem State.stopRun_kept {s₀ s : State} (h : s₀.Kept s) : ∀ a1 a2, s₀.Kept (State.stopRun s a1 a2) :=
  fun _ _ => (State.modEng_kept (State.raiseTrap_kept h _ _) _ _)

theorem State.driveTo_kept {s₀ s : State} (h : s₀.Kept s) : ∀ a1 a2 a3, s₀.Kept (State.driveTo s a1 a2 a3) := by
  intro a1 a2 a3
  delta State.driveTo
  refine State.Kept.ite (fun _ => h) (fun _ => ?_)
  · extract_lets +onlyGivenNames s1
    have h2 : s₀.Kept s1 := (State.modEng_kept h _ _)
    clear_value s1
    extract_lets +onlyGivenNames close3
    extract_lets +onlyGivenNames s4
    have h5 : s₀.Kept s4 := (State.modTdc_kept h2 _ _)
    clear_value s4
    exact State.Kept.ite (fun _ => (State.setF_kept h5 _ _ _)) (fun _ => h5)

theorem State.driveEnd_kept {s₀ s : State} (h : s₀.Kept s) : ∀ a1 a2 a3, s₀.Kept (State.driveEnd s a1 a2 a3) := by
  intro a1 a2 a3
  delta State.driveEnd
  exact State.Kept.ite (fun _ => (State.driveTo_kept h _ _ _)) (fun _ => (State.modEng_kept h _ _))

theorem State.endCtx_kept {s₀ s : State} (h : s₀.Kept s) : ∀ a1 a2 a3, s₀.Kept (State.endCtx s a1 a2 a3) := by
  intro a1 a2 a3
  delta State.endCtx
  extract_lets +onlyGivenNames b1
  extract_lets +onlyGivenNames k2
  extract_lets +onlyGivenNames static3
  extract_lets +onlyGivenNames ls4
  extract_lets +onlyGivenNames res5
  extract_lets +onlyGivenNames st6
  extract_lets +onlyGivenNames s7
  have h8 : s₀.Kept s7 := by
    unfold s7
    split
    · exact (State.endCmd_kept h _ _)
    · exact h
  clear_value s7
  extract_lets +onlyGivenNames s9
  have h10 : s₀.Kept s9 := by
    unfold s9
    refine State.Kept.foldl _ h8 fun _ _ h25 => ?_
    refine State.Kept.foldl _ h25 fun _ _ h31 => ?_
    extract_lets +onlyGivenNames data32
    extract_lets +onlyGivenNames term33
    extract_lets +onlyGivenNames s34
    have h35 : s₀.Kept s34 := (State.driveEnd_kept (State.tablesTake_kept h31 _) _ _ _)
    clear_value s34
    exact (State.idleEngine_kept h35 _ _)
  clear_value s9
  extract_lets +onlyGivenNames s39
  have h40 : s₀.Kept s39 := (State.setF_kept (State.setF_kept h10 _ _ _) _ _ _)
  clear_value s39
  extract_lets +onlyGivenNames s41
  have h42 : s₀.Kept s41 := (State.setF_kept h40 _ _ _)
  clear_value s41
  extract_lets +onlyGivenNames s43
  have h44 : s₀.Kept s43 := (State.modCtx_kept h42 _ _ _)
  clear_value s43
  split
  · exact (State.Kept.foldl _ (State.setF_kept h44 _ _ _) fun _ _ h47 => (State.detect_kept h47 _ _ _ _))
  · exact h44

theorem State.ctxFin_kept {s₀ s : State} (h : s₀.Kept s) : ∀ a1 a2 a3, s₀.Kept (State.ctxFin s a1 a2 a3) := by
  intro a1 a2 a3
  delta State.ctxFin
  extract_lets +onlyGivenNames b1
  extract_lets +onlyGivenNames waits2
  extract_lets +onlyGivenNames s3
  have h4 : s₀.Kept s3 := (State.modCtx_kept h _ _ _)
  clear_value s3
  exact State.Kept.ite (fun _ => (State.endCtx_kept h4 _ _ _)) (fun _ => State.Kept.ite (fun _ => h4) (fun _ => (State.setF_kept h4 _ _ _)))

theorem State.setMem_kept {s₀ s : State} (h : s₀.Kept s) : ∀ a1 a2 a3, s₀.Kept (State.setMem s a1 a2 a3) :=
  fun _ _ _ => (State.Kept.foldl _ h fun _ a2 h3 => (State.setF_kept h3 _ _ _))

theorem State.setEngState_kept {s₀ s : State} (h : s₀.Kept s) : ∀ a1 a2, s₀.Kept (State.setEngState s a1 a2) :=
  fun _ _ => (State.setMem_kept h _ _ _)

theorem State.barArr_kept {s₀ s : State} (h : s₀.Kept s) : ∀ a1 a2, s₀.Kept (State.barArr s a1 a2) := by
  intro a1 a2
  delta State.barArr
  extract_lets +onlyGivenNames t1
  exact (State.setF_kept h _ _ _)

theorem State.setPc_kept {s₀ s : State} (h : s₀.Kept s) : ∀ a1 a2, s₀.Kept (State.setPc s a1 a2) :=
  fun _ _ => (State.setMem_kept h _ _ _)

theorem State.goto_kept {s₀ s : State} (h : s₀.Kept s) : ∀ a1 a2, s₀.Kept (State.goto s a1 a2) :=
  fun _ _ => (State.setPc_kept (State.modEng_kept h _ _) _ _)

theorem State.unjump_kept {s₀ s : State} (h : s₀.Kept s) : ∀ a1, s₀.Kept (State.unjump s a1) := by
  intro a1
  delta State.unjump
  split
  · exact h
  · extract_lets +onlyGivenNames s1
    have h2 : s₀.Kept s1 := by
      unfold s1
      split
      · refine State.setEngState_kept ?_ _ _
        split
        · exact (State.barArr_kept h _ _)
        · exact h
      · exact h
    clear_value s1
    extract_lets +onlyGivenNames s3
    have h4 : s₀.Kept s3 := (State.setFs_kept (State.Kept.foldl _ h2 fun _ _ h7 => (State.setF_kept h7 _ _ _)) _ _)
    clear_value s3
    exact (State.goto_kept (State.modEng_kept h4 _ _) _ _)

theorem State.jobFree_kept {s₀ s : State} (h : s₀.Kept s) : ∀ a1 a2, s₀.Kept (State.jobFree s a1 a2) := by
  intro a1 a2
  delta State.jobFree
  extract_lets +onlyGivenNames b1
  extract_lets +onlyGivenNames s2
  have h3 : s₀.Kept s2 := (State.wr_kept (State.setJob_kept h _ _ _) _ _)
  clear_value s2
  exact (State.setF_kept h3 _ _ _)

theorem State.jobEnd_kept {s₀ s : State} (h : s₀.Kept s) : ∀ a1 a2 a3, s₀.Kept (State.jobEnd s a1 a2 a3) := by
  intro a1 a2 a3
  delta State.jobEnd
  split
  · exact h
  · split
    · exact (State.jobFree_kept h _ _)
    · extract_lets +onlyGivenNames o1
      have h2 : s₀.Kept o1.1 := (State.output_kept h _ _)
      clear_value o1
      extract_lets +onlyGivenNames s3
      have h4 : s₀.Kept s3 := h2
      clear_value s3
      extract_lets +onlyGivenNames cut5
      exact (State.jobFree_kept (State.endCmd_kept h4 _ _) _ _)

theorem State.acqDone_kept {s₀ s : State} (h : s₀.Kept s) : ∀ a1, s₀.Kept (State.acqDone s a1) := by
  intro a1
  delta State.acqDone
  exact State.Kept.ite (fun _ => (State.Kept.foldl _ h fun _ _ h3 => (State.modTile_kept h3 _ _))) (fun _ => h)

theorem State.setLevel_kept {s₀ s : State} (h : s₀.Kept s) : ∀ a1 a2 a3, s₀.Kept (State.setLevel s a1 a2 a3) := by
  intro a1 a2 a3
  delta State.setLevel
  extract_lets +onlyGivenNames b1
  split
  · exact (State.setF_kept h _ _ _)
  · exact (State.setF_kept h _ _ _)
  · exact (State.setF_kept h _ _ _)
  · exact (State.setF_kept h _ _ _)
  · exact (State.setF_kept h _ _ _)
  · extract_lets +onlyGivenNames u2
    extract_lets +onlyGivenNames sine3
    exact State.Kept.ite (fun _ => State.Kept.ite (fun _ => (State.setTarget_kept h _ _)) (fun _ => (State.setF_kept h _ _ _))) (fun _ => (State.setF_kept h _ _ _))

theorem State.measOne_kept {s₀ s : State} (h : s₀.Kept s) : ∀ a1 a2 a3 a4, s₀.Kept (State.measOne s a1 a2 a3 a4) := by
  intro a1 a2 a3 a4
  delta State.measOne
  exact State.Kept.ite (fun _ => (State.adcStart_kept h _)) (fun _ => State.Kept.ite (fun _ => (State.adcStop_kept h _)) (fun _ => State.Kept.ite (fun _ => (State.adcPlace_kept (State.modAdc_kept h _ _) _ _)) (fun _ => State.Kept.ite (fun _ => (State.adcPlace_kept h _ _)) (fun _ => (State.setF_kept h _ _ _)))))

theorem State.setFlags_kept {s₀ s : State} (h : s₀.Kept s) : ∀ a1 a2 a3 a4, s₀.Kept (State.setFlags s a1 a2 a3 a4) := by
  intro a1 a2 a3 a4
  delta State.setFlags
  extract_lets +onlyGivenNames f1
  extract_lets +onlyGivenNames f2
  extract_lets +onlyGivenNames s3
  have h4 : s₀.Kept s3 := (State.setF_kept h _ _ _)
  clear_value s3
  exact State.Kept.ite (fun _ => (State.setF_kept h4 _ _ _)) (fun _ => h4)

theorem State.act_kept {s₀ s : State} (h : s₀.Kept s) : ∀ a1 a2 a3, s₀.Kept (State.act s a1 a2 a3) := by
  intro a1 a2 a3
  delta State.act
  split
  · exact (State.Kept.foldl _ h fun _ a2 h3 => (State.setLevel_kept h3 _ _ _))
  · exact (State.Kept.foldl _ h fun _ _ h6 => (State.measOne_kept h6 _ _ _ _))
  · extract_lets +onlyGivenNames b7
    extract_lets +onlyGivenNames s8
    have h9 : s₀.Kept s8 := by
      unfold s8
      refine State.Kept.ite (fun _ => ?_) (fun _ => h)
      · refine State.setFs_kept ?_ _ _
        exact State.Kept.ite (fun _ => (State.setF_kept h _ _ _)) (fun _ => h)
    clear_value s8
    exact State.Kept.ite (fun _ => (State.offer_kept h9 _ _ _ _ _ _)) (fun _ => h9)
  · exact (State.Kept.foldl _ h fun _ _ h12 => (State.setFlags_kept h12 _ _ _ _))
  · exact (State.setMem_kept h _ _ _)

theorem State.addAct_kept {s₀ s : State} (h : s₀.Kept s) : ∀ a1 a2, s₀.Kept (State.addAct s a1 a2) :=
  fun _ _ => (State.modEng_kept h _ _)

theorem State.strmTake_kept {s₀ s : State} (h : s₀.Kept s) : ∀ a1 a2, s₀.Kept (State.strmTake s a1 a2) := by
  intro a1 a2
  delta State.strmTake
  extract_lets +onlyGivenNames s1
  have h2 : s₀.Kept s1 := (State.setF_kept h _ _ _)
  clear_value s1
  extract_lets +onlyGivenNames size3
  extract_lets +onlyGivenNames s4
  have h5 : s₀.Kept s4 := (State.modEng_kept h2 _ _)
  clear_value s4
  split
  · exact h5
  · extract_lets +onlyGivenNames s6
    have h7 : s₀.Kept s6 := by
      unfold s6
      exact State.Kept.ite (fun _ => (State.modCmd_kept h5 _ _)) (fun _ => h5)
    clear_value s6
    exact State.Kept.ite (fun _ => (State.unbusyBy_kept (State.modEng_kept h7 _ _) _ _)) (fun _ => (State.modEng_kept h7 _ _))

theorem State.strmNext_kept {s₀ s : State} (h : s₀.Kept s) : ∀ a1, s₀.Kept (State.strmNext s a1) := by
  intro a1
  delta State.strmNext
  extract_lets +onlyGivenNames s1
  have h2 : s₀.Kept s1 := (State.Kept.foldl _ h fun _ _ h5 => (State.strmTake_kept h5 _ _))
  clear_value s1
  exact (State.setPc_kept h2 _ _)

theorem State.holdOn_kept {s₀ s : State} (h : s₀.Kept s) : ∀ a1 a2, s₀.Kept (State.holdOn s a1 a2) := by
  intro a1 a2
  delta State.holdOn
  extract_lets +onlyGivenNames st1
  exact (State.setEngState_kept (State.modEng_kept h _ _) _ _)

theorem State.holdIdle_kept {s₀ s : State} (h : s₀.Kept s) : ∀ a1 a2, s₀.Kept (State.holdIdle s a1 a2) := by
  intro a1 a2
  delta State.holdIdle
  extract_lets +onlyGivenNames e1
  exact (State.holdOn_kept h _ _)

theorem State.advance_kept {s₀ s : State} (h : s₀.Kept s) : ∀ a1, s₀.Kept (State.advance s a1) := by
  intro a1
  delta State.advance
  extract_lets +onlyGivenNames s1
  have h2 : s₀.Kept s1 := (State.modEng_kept h _ _)
  clear_value s1
  refine State.Kept.ite (fun _ => (State.strmNext_kept h2 _)) (fun _ => ?_)
  · extract_lets +onlyGivenNames s3
    have h4 : s₀.Kept s3 := (State.setPc_kept h2 _ _)
    clear_value s3
    split
    · exact h4
    · extract_lets +onlyGivenNames s5
      have h6 : s₀.Kept s5 := (State.modEng_kept h4 _ _)
      clear_value s5
      exact State.Kept.ite (fun _ => (State.holdIdle_kept h6 _ _)) (fun _ => h6)

theorem State.flUnmark_kept {s₀ s : State} (h : s₀.Kept s) : ∀ a1 a2, s₀.Kept (State.flUnmark s a1 a2) :=
  fun _ _ => (State.modTile_kept h _ _)

theorem State.apgBind_kept {s₀ s : State} (h : s₀.Kept s) : ∀ a1 a2 a3 a4 a5, s₀.Kept (State.apgBind s a1 a2 a3 a4 a5) := by
  intro a1 a2 a3 a4 a5
  delta State.apgBind
  refine State.Kept.foldl _ h fun _ _ h9 => ?_
  extract_lets +onlyGivenNames s10
  have h11 : s₀.Kept s10 := (State.flUnmark_kept h9 _ _)
  clear_value s10
  extract_lets +onlyGivenNames ms12
  extract_lets +onlyGivenNames s13
  have h14 : s₀.Kept s13 := by
    unfold s13
    refine State.Kept.foldl _ h11 fun _ _ h23 => ?_
    extract_lets +onlyGivenNames s24
    have h25 : s₀.Kept s24 := (State.modTdc_kept (State.yieldRotation_kept h23 _) _ _)
    clear_value s24
    exact (State.setFs_kept h25 _ _)
  clear_value s13
  extract_lets +onlyGivenNames s26
  have h27 : s₀.Kept s26 := by
    unfold s26
    split
    · exact (State.modEng_kept h14 _ _)
    · exact h14
  clear_value s26
  extract_lets +onlyGivenNames b28
  extract_lets +onlyGivenNames s29
  have h30 : s₀.Kept s29 := (State.setF_kept (State.setF_kept (State.setF_kept h27 _ _ _) _ _ _) _ _ _)
  clear_value s29
  exact (State.modFlGroup_kept h30 _ _ _)

theorem State.pushCycle_kept {s₀ s : State} (h : s₀.Kept s) : ∀ a1 a2 a3 a4 a5, s₀.Kept (State.pushCycle s a1 a2 a3 a4 a5) := by
  intro a1 a2 a3 a4 a5
  delta State.pushCycle
  refine State.Kept.foldl _ h fun _ _ h9 => ?_
  extract_lets +onlyGivenNames pins10
  exact (State.modEng_kept h9 _ _)

theorem State.apgStep_kept {s₀ s : State} (h : s₀.Kept s) : ∀ a1 a2 a3, s₀.Kept (State.apgStep s a1 a2 a3) := by
  intro a1 a2 a3
  delta State.apgStep
  extract_lets +onlyGivenNames b1
  extract_lets +onlyGivenNames k2
  extract_lets +onlyGivenNames pc3
  extract_lets +onlyGivenNames vx4
  extract_lets +onlyGivenNames vy5
  extract_lets +onlyGivenNames vb6
  extract_lets +onlyGivenNames d7
  extract_lets +onlyGivenNames p8
  extract_lets +onlyGivenNames e9
  extract_lets +onlyGivenNames s10
  have h11 : s₀.Kept s10 := (State.pushCycle_kept h _ _ _ _ _)
  clear_value s10
  extract_lets +onlyGivenNames ik12
  extract_lets +onlyGivenNames idx13
  extract_lets +onlyGivenNames r14
  extract_lets +onlyGivenNames d15
  extract_lets +onlyGivenNames f16
  extract_lets +onlyGivenNames nxt17
  extract_lets +onlyGivenNames dst18
  split
  · extract_lets +onlyGivenNames s19
    have h20 : s₀.Kept s19 := (State.setFs_kept h11 _ _)
    clear_value s19
    extract_lets +onlyGivenNames s21
    have h22 : s₀.Kept s21 := (State.modCtx_kept h20 _ _ _)
    clear_value s21
    exact State.Kept.ite (fun _ => (State.ctxFin_kept h22 _ _ _)) (fun _ => h22)

theorem State.branch_kept {s₀ s : State} (h : s₀.Kept s) : ∀ a1 a2 a3, s₀.Kept (State.branch s a1 a2 a3) := by
  intro a1 a2 a3
  delta State.branch
  extract_lets +onlyGivenNames s1
  have h2 : s₀.Kept s1 := by
    unfold s1
    exact State.Kept.ite (fun _ => (State.Kept.foldl _ h fun _ _ h5 => (State.setF_kept h5 _ _ _))) (fun _ => h)
  clear_value s1
  exact State.Kept.ite (fun _ => (State.goto_kept h2 _ _)) (fun _ => (State.advance_kept h2 _))

theorem State.setSegRec_kept {s₀ s : State} (h : s₀.Kept s) : ∀ a1, s₀.Kept (State.setSegRec s a1) := by
  intro a1
  delta State.setSegRec
  extract_lets +onlyGivenNames b1
  extract_lets +onlyGivenNames units2
  exact (State.setF_kept h _ _ _)

theorem State.segClose_kept {s₀ s : State} (h : s₀.Kept s) : ∀ a1, s₀.Kept (State.segClose s a1) := by
  intro a1
  delta State.segClose
  split
  · exact h
  · extract_lets +onlyGivenNames n1
    extract_lets +onlyGivenNames s2
    have h3 : s₀.Kept s2 := (State.modTrig_kept h _ _)
    clear_value s2
    exact (State.setF_kept h3 _ _ _)

theorem State.capPush_kept {s₀ s : State} (h : s₀.Kept s) : ∀ a1 a2 a3, s₀.Kept (State.capPush s a1 a2 a3) := by
  intro a1 a2 a3
  delta State.capPush
  extract_lets +onlyGivenNames g1
  extract_lets +onlyGivenNames st2
  extract_lets +onlyGivenNames n3
  refine State.Kept.ite (fun _ => h) (fun _ => ?_)
  · extract_lets +onlyGivenNames slot4
    extract_lets +onlyGivenNames tail5
    extract_lets +onlyGivenNames k6
    extract_lets +onlyGivenNames now7
    extract_lets +onlyGivenNames s8
    have h9 : s₀.Kept s8 := (State.Kept.foldl _ h fun _ _ h12 => (State.sramSet_kept h12 _ _ _))
    clear_value s8
    extract_lets +onlyGivenNames s13
    have h14 : s₀.Kept s13 := (State.sramSet_kept h9 _ _ _)
    clear_value s13
    extract_lets +onlyGivenNames s15
    have h16 : s₀.Kept s15 := (State.modTrig_kept h14 _ _)
    clear_value s15
    split
    · exact h16
    · exact State.Kept.ite (fun _ => (State.segClose_kept h16 _)) (fun _ => (State.modTrig_kept h16 _ _))

theorem State.laneTake_kept {s₀ s : State} (h : s₀.Kept s) : ∀ a1 a2 a3, s₀.Kept (State.laneTake s a1 a2 a3) := by
  intro a1 a2 a3
  delta State.laneTake
  extract_lets +onlyGivenNames k1
  extract_lets +onlyGivenNames shade2
  extract_lets +onlyGivenNames decn3
  refine State.Kept.ite (fun _ => (State.capPush_kept h _ _ _)) (fun _ => ?_)
  · extract_lets +onlyGivenNames a4
    extract_lets +onlyGivenNames a5
    extract_lets +onlyGivenNames keep6
    have h7 : ∀ y8 y9, s₀.Kept y9 → s₀.Kept (keep6 y8 y9) := by
      intro y8 y9 hy9
      unfold keep6
      exact (State.modTrig_kept hy9 _ _)
    clear_value keep6
    refine State.Kept.ite (fun _ => (h7 _ _ h)) (fun _ => ?_)
    · extract_lets +onlyGivenNames s10
      have h11 : s₀.Kept s10 := (h7 _ _ h)
      clear_value s10
      extract_lets +onlyGivenNames s12
      have h13 : s₀.Kept s12 := (State.capPush_kept h11 _ _ _)
      clear_value s12
      exact (State.capPush_kept h13 _ _ _)

theorem State.capture_kept {s₀ s : State} (h : s₀.Kept s) : ∀ a1 a2 a3, s₀.Kept (State.capture s a1 a2 a3) := by
  intro a1 a2 a3
  delta State.capture
  refine State.Kept.ite (fun _ => h) (fun _ => ?_)
  · refine State.Kept.ite (fun _ => h) (fun _ => ?_)
    · refine State.Kept.foldl _ h fun _ _ h6 => ?_
      extract_lets +onlyGivenNames b7
      exact State.Kept.ite (fun _ => (State.laneTake_kept h6 _ _ _)) (fun _ => h6)

theorem State.showLocks_kept {s₀ s : State} (h : s₀.Kept s) : ∀ a1, s₀.Kept (State.showLocks s a1) := by
  intro a1
  delta State.showLocks
  extract_lets +onlyGivenNames m1
  exact State.Kept.ite (fun _ => (State.setFs_kept h _ _)) (fun _ => h)

theorem State.flClear_kept {s₀ s : State} (h : s₀.Kept s) : ∀ a1, s₀.Kept (State.flClear s a1) := by
  intro a1
  delta State.flClear
  extract_lets +onlyGivenNames b1
  extract_lets +onlyGivenNames s2
  have h3 : s₀.Kept s2 := (State.flUnmark_kept (State.setF_kept (State.setF_kept h _ _ _) _ _ _) _ _)
  clear_value s2
  exact (State.Kept.foldl _ h3 fun _ _ h6 => (State.modFlGroup_kept h6 _ _ _))

theorem State.pulse_kept {s₀ s : State} (h : s₀.Kept s) : ∀ a1 a2, s₀.Kept (State.pulse s a1 a2) :=
  fun _ _ => (State.Kept.set_pulses h (fun w => tabWf_tabSet (h.wf w).pulses _ _))

theorem State.domArmed_kept {s₀ s : State} (h : s₀.Kept s) : ∀ a1, s₀.Kept (State.domArmed s a1) := by
  intro a1
  delta State.domArmed
  refine State.Kept.ite (fun _ => ?_) (fun _ => h)
  · refine State.Kept.foldl _ h fun _ _ h6 => ?_
    exact State.Kept.ite (fun _ => (State.setF_kept h6 _ _ _)) (fun _ => h6)

theorem State.stbRestart_kept {s₀ s : State} (h : s₀.Kept s) : ∀ a1, s₀.Kept (State.stbRestart s a1) :=
  fun _ => (State.modTile_kept (State.setF_kept (State.setF_kept h _ _ _) _ _ _) _ _)

theorem State.countVec_kept {s₀ s : State} (h : s₀.Kept s) : ∀ a1, s₀.Kept (State.countVec s a1) := by
  intro a1
  delta State.countVec
  extract_lets +onlyGivenNames n1
  exact (State.setFs_kept h _ _)

theorem State.flPut_kept {s₀ s : State} (h : s₀.Kept s) : ∀ a1 a2 a3 a4, s₀.Kept (State.flPut s a1 a2 a3 a4) :=
  fun _ _ _ _ => (State.modTile_kept h _ _)

theorem State.cycleFails_kept {s₀ s : State} (h : s₀.Kept s) : ∀ a1 a2 a3 a4 a5 a6, s₀.Kept (State.cycleFails s a1 a2 a3 a4 a5 a6) := by
  intro a1 a2 a3 a4 a5 a6
  delta State.cycleFails
  extract_lets +onlyGivenNames s1
  have h2 : s₀.Kept s1 := by
    unfold s1
    split
    · exact (State.flPut_kept h _ _ _ _)
    · exact h
  clear_value s1
  refine State.Kept.ite (fun _ => h2) (fun _ => ?_)
  · extract_lets +onlyGivenNames b3
    extract_lets +onlyGivenNames s4
    have h5 : s₀.Kept s4 := (State.setF_kept (State.incSat_kept h2 _ _ _) _ _ _)
    clear_value s4
    extract_lets +onlyGivenNames s6
    have h7 : s₀.Kept s6 := (State.modCtx_kept h5 _ _ _)
    clear_value s6
    extract_lets +onlyGivenNames d8
    extract_lets +onlyGivenNames s9
    have h10 : s₀.Kept s9 := by
      unfold s9
      exact State.Kept.ite (fun _ => (State.modCtx_kept h7 _ _ _)) (fun _ => h7)
    clear_value s9
    extract_lets +onlyGivenNames waiting11
    exact State.Kept.ite (fun _ => (State.flPut_kept h10 _ _ _ _)) (fun _ => (State.setF_kept (State.incSat_kept h10 _ _ _) _ _ _))

theorem State.takeJump_kept {s₀ s : State} (h : s₀.Kept s) : ∀ a1, s₀.Kept (State.takeJump s a1) := by
  intro a1
  delta State.takeJump
  split
  · exact h
  · extract_lets +onlyGivenNames s1
    have h2 : s₀.Kept s1 := (State.setFs_kept h _ _)
    clear_value s1
    exact (State.endCmd_kept (State.modEng_kept h2 _ _) _ _)

theorem State.endStreams_kept {s₀ s : State} (h : s₀.Kept s) : ∀ a1 a2, s₀.Kept (State.endStreams s a1 a2) := by
  intro a1 a2
  delta State.endStreams
  refine State.Kept.foldl _ h fun _ _ h9 => ?_
  split
  · exact (State.endCmd_kept h9 _ _)
  · exact h9

theorem State.endRun_kept {s₀ s : State} (h : s₀.Kept s) : ∀ a1 a2, s₀.Kept (State.endRun s a1 a2) := by
  intro a1 a2
  delta State.endRun
  extract_lets +onlyGivenNames s1
  have h2 : s₀.Kept s1 := by
    unfold s1
    split
    · exact State.Kept.ite (fun _ => (State.takeJump_kept h _)) (fun _ => h)
    · exact h
  clear_value s1
  extract_lets +onlyGivenNames e3
  extract_lets +onlyGivenNames ms4
  extract_lets +onlyGivenNames static5
  extract_lets +onlyGivenNames s6
  have h7 : s₀.Kept s6 := by
    unfold s6
    exact State.Kept.ite (fun _ => (State.Kept.foldl _ h2 fun _ _ h10 => (State.act_kept h10 _ _ _))) (fun _ => h2)
  clear_value s6
  extract_lets +onlyGivenNames snum11
  extract_lets +onlyGivenNames st12
  extract_lets +onlyGivenNames s13
  have h14 : s₀.Kept s13 := by
    unfold s13
    split
    · exact (State.endCmd_kept h7 _ _)
    · exact h7
  clear_value s13
  extract_lets +onlyGivenNames s15
  have h16 : s₀.Kept s15 := (State.Kept.foldl _ h14 fun _ _ h19 => (State.endCmd_kept h19 _ _))
  clear_value s15
  extract_lets +onlyGivenNames lost20
  extract_lets +onlyGivenNames s21
  have h22 : s₀.Kept s21 := by
    unfold s21
    split
    · exact (State.endCmd_kept h16 _ _)
    · exact h16
  clear_value s21
  extract_lets +onlyGivenNames s23
  have h24 : s₀.Kept s23 := by
    unfold s23
    split
    · exact (State.endCmd_kept h22 _ _)
    · exact h22
  clear_value s23
  extract_lets +onlyGivenNames st25
  extract_lets +onlyGivenNames s26
  have h27 : s₀.Kept s26 := by
    unfold s26
    refine State.Kept.foldl _ h24 fun _ _ h36 => ?_
    extract_lets +onlyGivenNames s37
    have h38 : s₀.Kept s37 := (State.driveEnd_kept (State.tablesTake_kept (State.endStreams_kept h36 _ _) _) _ _ _)
    clear_value s37
    exact (State.idleEngine_kept h38 _ _)
  clear_value s26
  split
  · exact (State.detect_kept (State.setF_kept h27 _ _ _) _ _ _ _)
  · exact h27

theorem State.finishRun_kept {s₀ s : State} (h : s₀.Kept s) : ∀ a1 a2, s₀.Kept (State.finishRun s a1 a2) := by
  intro a1 a2
  delta State.finishRun
  extract_lets +onlyGivenNames e1
  exact State.Kept.ite (fun _ => (State.endRun_kept h _ _)) (fun _ => (State.modEng_kept h _ _))

theorem State.stopWins_kept {s₀ s : State} (h : s₀.Kept s) : ∀ a1, s₀.Kept (State.stopWins s a1) := by
  intro a1
  delta State.stopWins
  split
  · exact State.Kept.ite (fun _ => (State.endCmd_kept (State.modEng_kept (State.setF_kept h _ _ _) _ _) _ _)) (fun _ => h)
  · exact h

/-- What happens next at a decision point keeps what its continuation keeps. -/
theorem State.decision_kept {s₀ s : State} (h : s₀.Kept s) : ∀ c (next : State → State),
    (∀ z, s₀.Kept z → s₀.Kept (next z)) → s₀.Kept (State.decision s c next) := by
  intro c next hn
  delta State.decision
  refine State.Kept.ite (fun _ => hn _ h) (fun _ => ?_)
  refine State.Kept.ite (fun _ => State.finishRun_kept (State.stopWins_kept h _) _ _) (fun _ => ?_)
  split
  · refine State.Kept.ite (fun _ => ?_) (fun _ => hn _ h)
    refine State.goto_kept ?_ _ _
    refine State.Kept.ite (fun _ => State.modEng_kept h _ _) (fun _ => ?_)
    exact State.Kept.foldl _ (State.setF_kept (State.modEng_kept h _ _) _ _ _) fun _ _ g => State.setF_kept g _ _ _
  · exact hn _ h

theorem State.sepiaEnter_kept {s₀ s : State} (h : s₀.Kept s) : ∀ a1 a2, s₀.Kept (State.sepiaEnter s a1 a2) := by
  intro a1 a2
  delta State.sepiaEnter
  extract_lets +onlyGivenNames s1
  have h2 : s₀.Kept s1 := (State.modTile_kept h _ _)
  clear_value s1
  refine State.Kept.foldl _ h2 fun _ _ h8 => ?_
  split
  · exact State.Kept.ite (fun _ => (State.setJob_kept h8 _ _ _)) (fun _ => h8)
  · exact h8

theorem State.launch_kept {s₀ s : State} (h : s₀.Kept s) : ∀ a1 a2 a3, s₀.Kept (State.launch s a1 a2 a3) := by
  intro a1 a2 a3
  delta State.launch
  refine State.Kept.ite (fun _ => h) (fun _ => ?_)
  · extract_lets +onlyGivenNames u1
    extract_lets +onlyGivenNames tap2
    exact (State.modTdc_kept h _ _)

theorem State.drivePin_kept {s₀ s : State} (h : s₀.Kept s) : ∀ a1 a2 a3 a4, s₀.Kept (State.drivePin s a1 a2 a3 a4) := by
  intro a1 a2 a3 a4
  delta State.drivePin
  exact State.Kept.ite (fun _ => h) (fun _ => (State.Kept.foldl _ h fun _ a2 h3 => (State.driveTo_kept (State.launch_kept h3 _ _ _) _ _ _)))

theorem State.outPulses_kept {s₀ s : State} (h : s₀.Kept s) : ∀ a1, s₀.Kept (State.outPulses s a1) :=
  fun _ => (State.Kept.foldl _ h fun _ _ h3 => (State.pulse_kept h3 _ _))

theorem State.trigRecord_kept {s₀ s : State} (h : s₀.Kept s) : ∀ a1 a2, s₀.Kept (State.trigRecord s a1 a2) := by
  intro a1 a2
  delta State.trigRecord
  extract_lets +onlyGivenNames b1
  extract_lets +onlyGivenNames g2
  extract_lets +onlyGivenNames keep3
  extract_lets +onlyGivenNames pre4
  extract_lets +onlyGivenNames n5
  extract_lets +onlyGivenNames r6
  extract_lets +onlyGivenNames s7
  have h8 : s₀.Kept s7 := (State.modTrig_kept h _ _)
  clear_value s7
  extract_lets +onlyGivenNames s9
  have h10 : s₀.Kept s9 := (State.incWrap_kept (State.setFs_kept (State.outPulses_kept h8 _) _ _) _ _ _)
  clear_value s9
  extract_lets +onlyGivenNames s11
  have h12 : s₀.Kept s11 := (State.fireEngines_kept (State.setF_kept h10 _ _ _) _)
  clear_value s11
  exact State.Kept.ite (fun _ => (State.segClose_kept h12 _)) (fun _ => h12)

theorem State.fireReceive_kept {s₀ s : State} (h : s₀.Kept s) : ∀ a1 a2, s₀.Kept (State.fireReceive s a1 a2) := by
  intro a1 a2
  delta State.fireReceive
  extract_lets +onlyGivenNames st1
  extract_lets +onlyGivenNames now2
  exact State.Kept.ite (fun _ => State.Kept.ite (fun _ => (State.trigRecord_kept (State.modTrig_kept h _ _) _ _)) (fun _ => (State.modTrig_kept h _ _))) (fun _ => State.Kept.ite (fun _ => (State.modTrig_kept h _ _)) (fun _ => h))

theorem State.flWrite_kept {s₀ s : State} (h : s₀.Kept s) : ∀ a1 a2, s₀.Kept (State.flWrite s a1 a2) := by
  intro a1 a2
  delta State.flWrite
  extract_lets +onlyGivenNames b1
  extract_lets +onlyGivenNames w2
  extract_lets +onlyGivenNames s3
  have h4 : s₀.Kept s3 := (State.Kept.foldl _ h fun _ _ h7 => (State.sramSet_kept h7 _ _ _))
  clear_value s3
  exact (State.setF_kept (State.setF_kept h4 _ _ _) _ _ _)

theorem State.flRecord_kept {s₀ s : State} (h : s₀.Kept s) : ∀ a1 a2 a3 a4 a5 a6, s₀.Kept (State.flRecord s a1 a2 a3 a4 a5 a6) := by
  intro a1 a2 a3 a4 a5 a6
  delta State.flRecord
  extract_lets +onlyGivenNames k1
  extract_lets +onlyGivenNames tb2
  extract_lets +onlyGivenNames marks3
  extract_lets +onlyGivenNames line4
  extract_lets +onlyGivenNames near5
  extract_lets +onlyGivenNames bitAt6
  extract_lets +onlyGivenNames w7
  split
  · extract_lets +onlyGivenNames a8
    exact (State.sramSet_kept h _ _ _)
  · extract_lets +onlyGivenNames es9
    extract_lets +onlyGivenNames gmax10
    refine State.Kept.ite (fun _ => (State.setF_kept (State.incSat_kept h _ _ _) _ _ _)) (fun _ => ?_)
    · extract_lets +onlyGivenNames s11
      have h12 : s₀.Kept s11 := (State.flWrite_kept h _ _)
      clear_value s11
      exact (State.modFlGroup_kept h12 _ _ _)

theorem State.flTake_kept {s₀ s : State} (h : s₀.Kept s) : ∀ t n, s₀.Kept (State.flTake s t n) := by
  intro t n
  induction n generalizing s with
  | zero => exact h
  | succ n ih =>
    rw [State.flTake]
    split
    · exact h
    · exact ih (State.modFlGroup_kept (State.modTile_kept h _ _) _ _ _)
    · exact State.flRecord_kept (State.modTile_kept h _ _) _ _ _ _ _ _

theorem State.pinFailed_kept {s₀ s : State} (h : s₀.Kept s) : ∀ a1, s₀.Kept (State.pinFailed s a1) :=
  fun _ => (State.incSat_kept (State.setF_kept h _ _ _) _ _ _)

theorem State.goneCycle_kept {s₀ s : State} (h : s₀.Kept s) : ∀ a1 a2 a3 a4, s₀.Kept (State.goneCycle s a1 a2 a3 a4) := by
  intro a1 a2 a3 a4
  delta State.goneCycle
  split
  · extract_lets +onlyGivenNames s1
    have h2 : s₀.Kept s1 := (State.modCtx_kept h _ _ _)
    clear_value s1
    extract_lets +onlyGivenNames f3
    extract_lets +onlyGivenNames s4
    have h5 : s₀.Kept s4 := by
      unfold s4
      refine State.Kept.foldl _ h2 fun _ _ h14 => ?_
      exact State.Kept.ite (fun _ => (State.pinFailed_kept h14 _)) (fun _ => h14)
    clear_value s4
    extract_lets +onlyGivenNames s15
    have h16 : s₀.Kept s15 := by
      unfold s15
      split
      · exact (State.cycleFails_kept h5 _ _ _ _ _ _)
      · exact h5
    clear_value s15
    split
    · exact State.Kept.ite (fun _ => (State.endCtx_kept h16 _ _ _)) (fun _ => h16)
    · exact h16
  · exact h

theorem State.holdEnd_kept {s₀ s : State} (h : s₀.Kept s) : ∀ a1, s₀.Kept (State.holdEnd s a1) :=
  fun _ => (State.setEngState_kept (State.modEng_kept h _ _) _ _)

/-- What the effect of an engine word keeps, its issue keeps. -/
theorem State.issue_kept {s₀ s : State} (h : s₀.Kept s) : ∀ c op (effect : Nat → State → State),
    (∀ w z, s₀.Kept z → s₀.Kept (effect w z)) → s₀.Kept (State.issue s c op effect) := by
  intro c op effect he
  delta State.issue
  refine State.Kept.ite (fun _ => h) (fun _ => ?_)
  refine State.Kept.ite (fun _ => State.finishRun_kept h _ _) (fun _ => ?_)
  refine State.Kept.ite (fun _ => h) (fun _ => ?_)
  refine State.Kept.ite (fun _ => h) (fun _ => ?_)
  refine State.Kept.ite (fun _ => ?_) (fun _ => he _ _ h)
  split
  · exact State.finishRun_kept h _ _
  · exact he _ _ h

theorem State.jobStart_kept {s₀ s : State} (h : s₀.Kept s) : ∀ a1 a2 a3, s₀.Kept (State.jobStart s a1 a2 a3) := by
  intro a1 a2 a3
  delta State.jobStart
  extract_lets +onlyGivenNames b1
  extract_lets +onlyGivenNames sets2
  extract_lets +onlyGivenNames s3
  have h4 : s₀.Kept s3 := (State.setJob_kept h _ _ _)
  clear_value s3
  extract_lets +onlyGivenNames s5
  have h6 : s₀.Kept s5 := (State.setFs_kept h4 _ _)
  clear_value s5
  exact (State.setF_kept h6 _ _ _)

theorem State.periodClr_kept {s₀ s : State} (h : s₀.Kept s) : ∀ a1, s₀.Kept (State.periodClr s a1) := by
  intro a1
  delta State.periodClr
  extract_lets +onlyGivenNames one1
  have h2 : ∀ y3 y4, s₀.Kept y3 → s₀.Kept (one1 y3 y4) := by
    intro y3 y4 hy3
    unfold one1
    exact State.Kept.ite (fun _ => (State.modCmp_kept hy3 _ _ _)) (fun _ => hy3)
  clear_value one1
  exact (h2 _ _ (h2 _ _ h))

theorem State.padPeriod_kept {s₀ s : State} (h : s₀.Kept s) : ∀ a1 a2 a3, s₀.Kept (State.padPeriod s a1 a2 a3) := by
  intro a1 a2 a3
  delta State.padPeriod
  extract_lets +onlyGivenNames p1
  extract_lets +onlyGivenNames s2
  have h3 : s₀.Kept s2 := (State.modEng_kept h _ _)
  clear_value s2
  extract_lets +onlyGivenNames s4
  have h5 : s₀.Kept s4 := (State.Kept.foldl _ h3 fun _ _ h8 => (State.incSat_kept (State.modEng_kept (State.drivePin_kept (State.periodClr_kept (State.tablesTake_kept h8 _) _) _ _ _ _) _ _) _ _ _))
  clear_value s4
  exact State.Kept.ite (fun _ => (State.Kept.foldl _ h5 fun _ _ h11 => (State.incSat_kept h11 _ _ _))) (fun _ => h5)

theorem State.strobePin_kept {s₀ s : State} (h : s₀.Kept s) : ∀ a1 a2 a3 a4, s₀.Kept (State.strobePin s a1 a2 a3 a4) := by
  intro a1 a2 a3 a4
  delta State.strobePin
  extract_lets +onlyGivenNames window1
  extract_lets +onlyGivenNames s2
  have h3 : s₀.Kept s2 := (State.modEng_kept h _ _)
  clear_value s2
  refine State.Kept.ite (fun _ => h3) (fun _ => ?_)
  · extract_lets +onlyGivenNames s4
    have h5 : s₀.Kept s4 := (State.launch_kept h3 _ _ _)
    clear_value s4
    exact State.Kept.ite (fun _ => (State.launch_kept h5 _ _ _)) (fun _ => h5)

theorem State.playPin_kept {s₀ s : State} (h : s₀.Kept s) : ∀ a1 a2 a3, s₀.Kept (State.playPin s a1 a2 a3) := by
  intro a1 a2 a3
  delta State.playPin
  extract_lets +onlyGivenNames s1
  have h2 : s₀.Kept s1 := (State.strobePin_kept (State.drivePin_kept (State.periodClr_kept (State.tablesTake_kept h _) _) _ _ _ _) _ _ _ _)
  clear_value s1
  exact State.Kept.ite (fun _ => (State.pinFailed_kept h2 _)) (fun _ => h2)

theorem State.takeVec_kept {s₀ s : State} (h : s₀.Kept s) : ∀ a1 a2 a3 a4, s₀.Kept (State.takeVec s a1 a2 a3 a4) := by
  intro a1 a2 a3 a4
  delta State.takeVec
  extract_lets +onlyGivenNames p1
  extract_lets +onlyGivenNames per2
  extract_lets +onlyGivenNames s3
  have h4 : s₀.Kept s3 := (State.modEng_kept h _ _)
  clear_value s3
  extract_lets +onlyGivenNames s5
  have h6 : s₀.Kept s5 := (State.Kept.foldl _ h4 fun _ _ h9 => (State.act_kept h9 _ _ _))
  clear_value s5
  extract_lets +onlyGivenNames f10
  extract_lets +onlyGivenNames s11
  have h12 : s₀.Kept s11 := (State.Kept.foldl _ h6 fun _ _ h15 => (State.playPin_kept h15 _ _ _))
  clear_value s11
  extract_lets +onlyGivenNames s16
  have h17 : s₀.Kept s16 := (State.Kept.foldl _ h12 fun _ _ h20 => (State.countVec_kept h20 _))
  clear_value s16
  split
  · extract_lets +onlyGivenNames t21
    extract_lets +onlyGivenNames b22
    extract_lets +onlyGivenNames n23
    extract_lets +onlyGivenNames s24
    have h25 : s₀.Kept s24 := by
      unfold s24
      exact State.Kept.ite (fun _ => (State.setFs_kept h17 _ _)) (fun _ => h17)
    clear_value s24
    exact (State.cycleFails_kept h25 _ _ _ _ _ _)
  · exact h17

theorem State.underrun_kept {s₀ s : State} (h : s₀.Kept s) : ∀ a1, s₀.Kept (State.underrun s a1) := by
  intro a1
  delta State.underrun
  extract_lets +onlyGivenNames e1
  extract_lets +onlyGivenNames sh2
  extract_lets +onlyGivenNames cause3
  extract_lets +onlyGivenNames ms4
  extract_lets +onlyGivenNames s5
  have h6 : s₀.Kept s5 := (State.endRun_kept h _ _)
  clear_value s5
  extract_lets +onlyGivenNames s7
  have h8 : s₀.Kept s7 := (State.Kept.foldl _ h6 fun _ _ h11 => (State.setFs_kept h11 _ _))
  clear_value s7
  exact (State.Kept.foldl _ h8 fun _ _ h14 => (State.detect_kept h14 _ _ _ _))

theorem State.period_kept {s₀ s : State} (h : s₀.Kept s) : ∀ a1 a2, s₀.Kept (State.period s a1 a2) := by
  intro a1 a2
  delta State.period
  extract_lets +onlyGivenNames e1
  extract_lets +onlyGivenNames st2
  refine State.Kept.ite (fun _ => (State.Kept.foldl _ h fun _ _ h5 => (State.goneCycle_kept h5 _ _ _ _))) (fun _ => ?_)
  · split
    · split
      · exact State.Kept.ite (fun _ => (State.padPeriod_kept h _ _ _)) (fun _ => (State.takeVec_kept h _ _ _ _))
      · exact (State.takeVec_kept h _ _ _ _)
    · split
      · extract_lets +onlyGivenNames t6
        split
        · exact State.Kept.ite (fun _ => (State.endCtx_kept h _ _ _)) (fun _ => h)
        · exact h
      · split
        · exact (State.endRun_kept h _ _)
        · refine State.Kept.ite (fun _ => (State.underrun_kept h _)) (fun _ => ?_)
          · split
            · exact State.Kept.ite (fun _ => (State.padPeriod_kept h _ _ _)) (fun _ => h)
            · exact h

theorem State.pushVec_kept {s₀ s : State} (h : s₀.Kept s) : ∀ a1 a2 a3, s₀.Kept (State.pushVec s a1 a2 a3) := by
  intro a1 a2 a3
  delta State.pushVec
  extract_lets +onlyGivenNames pins1
  exact (State.modEng_kept h _ _)

theorem State.pushVecs_kept {s₀ s : State} (h : s₀.Kept s) : ∀ a1 a2 a3 a4, s₀.Kept (State.pushVecs s a1 a2 a3 a4).1 := by
  intro a1 a2 a3 a4
  delta State.pushVecs
  extract_lets +onlyGivenNames e1
  extract_lets +onlyGivenNames k2
  extract_lets +onlyGivenNames s3
  have h4 : s₀.Kept s3 := (State.Kept.foldl _ h fun _ _ h7 => (State.pushVec_kept h7 _ _ _))
  clear_value s3
  exact (State.Kept.pair_fst (State.modEng_kept h4 _ _))

theorem State.refill_kept {s₀ s : State} (h : s₀.Kept s) : ∀ a1 a2, s₀.Kept (State.refill s a1 a2) := by
  intro a1 a2
  delta State.refill
  extract_lets +onlyGivenNames f1
  extract_lets +onlyGivenNames s2
  have h3 : s₀.Kept s2 := (State.Kept.foldl _ h fun _ _ h6 => (State.sramSet_kept h6 _ _ _))
  clear_value s2
  exact (State.modEng_kept (State.setF_kept h3 _ _ _) _ _)

theorem State.reserve_kept {s₀ s : State} (h : s₀.Kept s) : ∀ a1, s₀.Kept (State.reserve s a1).1 := by
  intro a1
  delta State.reserve
  refine State.Kept.foldl_fst _ (State.Kept.pair_fst h) fun _ _ h3 => ?_
  exact State.Kept.ite_fst (fun _ => (State.Kept.pair_fst (State.modAdc_kept h3 _ _))) (fun _ => (State.Kept.pair_fst h3))

theorem State.sepiaProcess_kept {s₀ s : State} (h : s₀.Kept s) : ∀ a1, s₀.Kept (State.sepiaProcess s a1) := by
  intro a1
  delta State.sepiaProcess
  split
  · exact h
  · extract_lets +onlyGivenNames s1
    have h2 : s₀.Kept s1 := (State.modTile_kept h _ _)
    clear_value s1
    refine State.Kept.foldl _ h2 fun _ _ h8 => ?_
    split
    · exact h8
    · refine State.Kept.ite (fun _ => h8) (fun _ => ?_)
      · extract_lets +onlyGivenNames r9
        extract_lets +onlyGivenNames s10
        have h11 : s₀.Kept s10 := (State.setJob_kept h8 _ _ _)
        clear_value s10
        extract_lets +onlyGivenNames s12
        have h13 : s₀.Kept s12 := by
          unfold s12
          exact State.Kept.ite (fun _ => (State.offer_kept h11 _ _ _ _ _ _)) (fun _ => h11)
        clear_value s12
        exact State.Kept.ite (fun _ => (State.setF_kept h13 _ _ _)) (fun _ => h13)

theorem State.stbWrite_kept {s₀ s : State} (h : s₀.Kept s) : ∀ a1 a2 a3, s₀.Kept (State.stbWrite s a1 a2 a3) := by
  intro a1 a2 a3
  delta State.stbWrite
  extract_lets +onlyGivenNames b1
  extract_lets +onlyGivenNames n2
  extract_lets +onlyGivenNames w3
  extract_lets +onlyGivenNames ring4
  refine State.Kept.ite (fun _ => (State.incSat_kept h _ _ _)) (fun _ => ?_)
  · refine State.Kept.ite (fun _ => (State.setFs_kept (State.incSat_kept h _ _ _) _ _)) (fun _ => ?_)
    · extract_lets +onlyGivenNames tag5
      extract_lets +onlyGivenNames a6
      extract_lets +onlyGivenNames s7
      have h8 : s₀.Kept s7 := (State.sramSet_kept (State.sramSet_kept h _ _ _) _ _ _)
      clear_value s7
      extract_lets +onlyGivenNames s9
      have h10 : s₀.Kept s9 := by
        unfold s9
        exact State.Kept.ite (fun _ => (State.setF_kept h8 _ _ _)) (fun _ => h8)
      clear_value s9
      extract_lets +onlyGivenNames s11
      have h12 : s₀.Kept s11 := (State.modTile_kept (State.incWrap_kept h10 _ _ _) _ _)
      clear_value s11
      exact State.Kept.ite (fun _ => (State.setF_kept h12 _ _ _)) (fun _ => h12)

theorem State.stampCollect_kept {s₀ s : State} (h : s₀.Kept s) : ∀ a1, s₀.Kept (State.stampCollect s a1) := by
  intro a1
  delta State.stampCollect
  extract_lets +onlyGivenNames start1
  extract_lets +onlyGivenNames r2
  have h3 : s₀.Kept r2.1 := by
    unfold r2
    refine State.Kept.foldl_fst _ (State.Kept.pair_fst h) fun _ _ h6 => ?_
    extract_lets +onlyGivenNames s7
    have h8 : s₀.Kept s7 := h6
    clear_value s7
    extract_lets +onlyGivenNames taken9
    extract_lets +onlyGivenNames recs10
    extract_lets +onlyGivenNames l11
    extract_lets +onlyGivenNames u12
    split
    · exact h6
    · extract_lets +onlyGivenNames d13
      refine State.Kept.ite_fst (fun _ => h6) (fun _ => ?_)
      · extract_lets +onlyGivenNames s14
        have h15 : s₀.Kept s14 := (State.modTdc_kept h8 _ _)
        clear_value s14
        extract_lets +onlyGivenNames s16
        have h17 : s₀.Kept s16 := (State.setF_kept h15 _ _ _)
        clear_value s16
        extract_lets +onlyGivenNames s18
        have h19 : s₀.Kept s18 := by
          unfold s18
          exact State.Kept.ite (fun _ => (State.stbWrite_kept h17 _ _ _)) (fun _ => h17)
        clear_value s18
        extract_lets +onlyGivenNames s20
        have h21 : s₀.Kept s20 := by
          unfold s20
          exact State.Kept.ite (fun _ => (State.sepiaEnter_kept h19 _ _)) (fun _ => h19)
        clear_value s20
        extract_lets +onlyGivenNames s22
        have h23 : s₀.Kept s22 := (State.modTile_kept h21 _ _)
        clear_value s22
        exact (State.Kept.pair_fst h23)
  clear_value r2
  exact h3

theorem State.stampLost_kept {s₀ s : State} (h : s₀.Kept s) : ∀ a1, s₀.Kept (State.stampLost s a1) := by
  intro a1
  delta State.stampLost
  extract_lets +onlyGivenNames b1
  extract_lets +onlyGivenNames s2
  have h3 : s₀.Kept s2 := (State.modTdc_kept (State.setF_kept (State.incSat_kept h _ _ _) _ _ _) _ _)
  clear_value s2
  extract_lets +onlyGivenNames t4
  extract_lets +onlyGivenNames l5
  refine State.Kept.foldl _ h3 fun _ _ h11 => ?_
  split
  · exact State.Kept.ite (fun _ => (State.setJob_kept h11 _ _ _)) (fun _ => h11)
  · exact h11

theorem State.stampEdge_kept {s₀ s : State} (h : s₀.Kept s) : ∀ a1 a2 a3 a4, s₀.Kept (State.stampEdge s a1 a2 a3 a4) := by
  intro a1 a2 a3 a4
  delta State.stampEdge
  extract_lets +onlyGivenNames b1
  extract_lets +onlyGivenNames dest2
  extract_lets +onlyGivenNames last3
  refine State.Kept.ite (fun _ => h) (fun _ => ?_)
  · refine State.Kept.ite (fun _ => (State.stampLost_kept h _)) (fun _ => ?_)
    · refine State.Kept.ite (fun _ => (State.setPair_kept h _ _)) (fun _ => ?_)
      · refine State.Kept.ite (fun _ => (State.stampLost_kept h _)) (fun _ => ?_)
        · extract_lets +onlyGivenNames d4
          extract_lets +onlyGivenNames lock5
          extract_lets +onlyGivenNames x6
          extract_lets +onlyGivenNames s7
          have h8 : s₀.Kept s7 := (State.modTdc_kept h _ _)
          clear_value s7
          extract_lets +onlyGivenNames s9
          have h10 : s₀.Kept s9 := (State.setF_kept h8 _ _ _)
          clear_value s9
          exact (State.setPair_kept h10 _ _)

theorem State.timeOut_kept {s₀ s : State} (h : s₀.Kept s) : ∀ a1, s₀.Kept (State.timeOut s a1) :=
  fun _ => (State.setFs_kept h _ _)

theorem State.trigArm_kept {s₀ s : State} (h : s₀.Kept s) : ∀ a1 a2, s₀.Kept (State.trigArm s a1 a2) := by
  intro a1 a2
  delta State.trigArm
  extract_lets +onlyGivenNames b1
  extract_lets +onlyGivenNames d2
  extract_lets +onlyGivenNames master3
  extract_lets +onlyGivenNames s4
  have h5 : s₀.Kept s4 := (State.setFs_kept h _ _)
  clear_value s4
  extract_lets +onlyGivenNames lo6
  extract_lets +onlyGivenNames s7
  have h8 : s₀.Kept s7 := (State.sramClear_kept h5 _)
  clear_value s7
  extract_lets +onlyGivenNames s9
  have h10 : s₀.Kept s9 := (State.modTrig_kept h8 _ _)
  clear_value s9
  extract_lets +onlyGivenNames s11
  have h12 : s₀.Kept s11 := (State.setF_kept h10 _ _ _)
  clear_value s11
  exact State.Kept.ite (fun _ => h12) (fun _ => (State.domArmed_kept h12 _))

theorem State.trigFire_kept {s₀ s : State} (h : s₀.Kept s) : ∀ a1, s₀.Kept (State.trigFire s a1) := by
  intro a1
  delta State.trigFire
  extract_lets +onlyGivenNames g1
  split
  · exact h
  · extract_lets +onlyGivenNames cause2
    extract_lets +onlyGivenNames tp3
    extract_lets +onlyGivenNames kind4
    extract_lets +onlyGivenNames s5
    have h6 : s₀.Kept s5 := (State.trigRecord_kept h _ _)
    clear_value s5
    extract_lets +onlyGivenNames d7
    refine State.Kept.ite (fun _ => h6) (fun _ => ?_)
    · extract_lets +onlyGivenNames s8
      have h9 : s₀.Kept s8 := by
        unfold s8
        exact State.Kept.ite (fun _ => (State.pulse_kept h6 _ _)) (fun _ => h6)
      clear_value s8
      exact (State.Kept.foldl _ h9 fun _ _ h12 => (State.fireReceive_kept h12 _ _))

theorem State.vecsRun_kept {s₀ s : State} (h : s₀.Kept s) : ∀ c n, s₀.Kept (State.vecsRun s c n) := by
  intro c n
  induction n generalizing s with
  | zero => exact h
  | succ n ih =>
    rw [State.vecsRun]
    split
    · exact h
    · refine State.Kept.ite (fun _ => h) (fun _ => ?_)
      split
      · exact State.finishRun_kept h _ _
      · exact ih (State.strmNext_kept (State.modEng_kept (State.Kept.foldl _ h fun _ _ g => State.pushVec_kept g _ _ _) _ _) _)

theorem execApgGroupDrop_kept {s₀ s : State} (h : s₀.Kept s) : ∀ a0 a1, Res.Kept s₀ (execApgGroupDrop a0 a1 s) := by
  intro a0 a1
  delta execApgGroupDrop
  split
  · exact (done_kept h)
  · extract_lets +onlyGivenNames lead1
    extract_lets +onlyGivenNames left2
    extract_lets +onlyGivenNames s3
    have h4 : s₀.Kept s3 := (State.Kept.foldl _ h fun _ _ h7 => (State.idleEngine_kept (State.tablesTake_kept h7 _) _ _))
    clear_value s3
    extract_lets +onlyGivenNames s8
    have h9 : s₀.Kept s8 := (State.setF_kept h4 _ _ _)
    clear_value s8
    extract_lets +onlyGivenNames s10
    have h11 : s₀.Kept s10 := (State.modCtx_kept h9 _ _ _)
    clear_value s10
    split
    · exact Res.Kept.ite (fun _ => (done_kept (State.endCtx_kept h11 _ _ _))) (fun _ => (done_kept h11))
    · exact (done_kept h11)

theorem execApgInstruction_kept {s₀ s : State} (h : s₀.Kept s) : ∀ a0 a1, Res.Kept s₀ (execApgInstruction a0 a1 s) := by
  intro a0 a1
  delta execApgInstruction
  extract_lets +onlyGivenNames st1
  refine Res.Kept.ite (fun _ => (done_kept h)) (fun _ => ?_)
  · extract_lets +onlyGivenNames i2
    split
    · exact (done_kept (State.ctxFin_kept h _ _ _))
    · exact (done_kept (State.apgStep_kept h _ _ _))

theorem execApgLoad_kept {s₀ s : State} (h : s₀.Kept s) : ∀ a0 a1 a2, Res.Kept s₀ (execApgLoad a0 a1 a2 s) := by
  intro a0 a1 a2
  delta execApgLoad
  split
  · exact (done_kept h)
  · extract_lets +onlyGivenNames p1
    extract_lets +onlyGivenNames n2
    extract_lets +onlyGivenNames bs3
    extract_lets +onlyGivenNames s4
    have h5 : s₀.Kept s4 := (State.Kept.set_sram h (fun w => tabWf_memWrite (h.wf w).sram _ _))
    clear_value s4
    extract_lets +onlyGivenNames s6
    have h7 : s₀.Kept s6 := by
      unfold s6
      split
      · exact (State.rdFail_kept h5 _)
      · exact h5
    clear_value s6
    exact (done_kept (State.endCmd_kept h7 _ _))

theorem execApgRun_kept {s₀ s : State} (h : s₀.Kept s) : ∀ a0, Res.Kept s₀ (execApgRun a0 s) := by
  intro a0
  delta execApgRun
  split
  · exact (done_kept h)
  · split
    · exact (done_kept (State.endCmd_kept h _ _))
    · extract_lets +onlyGivenNames t1
      extract_lets +onlyGivenNames x2
      extract_lets +onlyGivenNames m3
      extract_lets +onlyGivenNames b4
      extract_lets +onlyGivenNames xmin5
      extract_lets +onlyGivenNames ymin6
      extract_lets +onlyGivenNames s7
      have h8 : s₀.Kept s7 := (State.apgBind_kept h _ _ _ _ _)
      clear_value s7
      extract_lets +onlyGivenNames s9
      have h10 : s₀.Kept s9 := (State.setFs_kept h8 _ _)
      clear_value s9
      extract_lets +onlyGivenNames s11
      have h12 : s₀.Kept s11 := (State.modCtx_kept h10 _ _ _)
      clear_value s11
      extract_lets +onlyGivenNames s13
      have h14 : s₀.Kept s13 := (State.setF_kept h12 _ _ _)
      clear_value s13
      exact (done_kept (State.modCmd_kept h14 _ _))

theorem execApgRunStart_kept {s₀ s : State} (h : s₀.Kept s) : ∀ a0 a1 a2, Res.Kept s₀ (execApgRunStart a0 a1 a2 s) := by
  intro a0 a1 a2
  delta execApgRunStart
  extract_lets +onlyGivenNames k1
  refine Res.Kept.ite (fun _ => (done_kept h)) (fun _ => ?_)
  · extract_lets +onlyGivenNames b2
    extract_lets +onlyGivenNames p3
    extract_lets +onlyGivenNames s4
    have h5 : s₀.Kept s4 := (State.setF_kept h _ _ _)
    clear_value s4
    extract_lets +onlyGivenNames ls6
    extract_lets +onlyGivenNames s7
    have h8 : s₀.Kept s7 := (State.Kept.foldl _ h5 fun _ _ h11 => (State.setEngState_kept (State.modEng_kept h11 _ _) _ _))
    clear_value s7
    exact (done_kept (State.Kept.foldl _ h8 fun _ _ h14 => (State.period_kept h14 _ _)))

theorem execBar_kept {s₀ s : State} (h : s₀.Kept s) : ∀ a0, Res.Kept s₀ (execBar a0 s) := by
  intro a0
  delta execBar
  apply done_kept
  refine State.issue_kept h _ _ _ fun _ _ h3 => ?_
  extract_lets +onlyGivenNames bid4
  exact State.Kept.ite (fun _ => (State.holdOn_kept (State.barArr_kept h3 _ _) _ _)) (fun _ => (State.advance_kept h3 _))

theorem execBarrierRelease_kept {s₀ s : State} (h : s₀.Kept s) : ∀ a0 a1, Res.Kept s₀ (execBarrierRelease a0 a1 s) := by
  intro a0 a1
  delta execBarrierRelease
  extract_lets +onlyGivenNames gs1
  exact Res.Kept.ite (fun _ => (done_kept (State.Kept.foldl _ h fun _ _ h4 => (State.advance_kept (State.holdEnd_kept (State.raiseTrap_kept (State.barArr_kept h4 _ _) _ _) _) _)))) (fun _ => (done_kept h))

theorem execBr_kept {s₀ s : State} (h : s₀.Kept s) : ∀ a0 a1, Res.Kept s₀ (execBr a0 a1 s) := by
  intro a0 a1
  delta execBr
  apply done_kept
  refine State.issue_kept h _ _ _ fun _ _ h3 => ?_
  refine State.Kept.ite (fun _ => (State.holdIdle_kept h3 _ _)) (fun _ => ?_)
  · extract_lets +onlyGivenNames ms4
    extract_lets +onlyGivenNames old5
    exact (State.branch_kept h3 _ _ _)

theorem execBrSyncResolve_kept {s₀ s : State} (h : s₀.Kept s) : ∀ a0, Res.Kept s₀ (execBrSyncResolve a0 s) := by
  intro a0
  delta execBrSyncResolve
  split
  · refine Res.Kept.ite (fun _ => ?_) (fun _ => (done_kept h))
    · extract_lets +onlyGivenNames w1
      exact (done_kept (State.branch_kept (State.holdEnd_kept h _) _ _ _))
  · exact (done_kept h)

theorem execCall_kept {s₀ s : State} (h : s₀.Kept s) : ∀ a0, Res.Kept s₀ (execCall a0 s) := by
  intro a0
  delta execCall
  apply done_kept
  refine State.issue_kept h _ _ _ fun _ _ h3 => ?_
  extract_lets +onlyGivenNames n4
  extract_lets +onlyGivenNames s5
  have h6 : s₀.Kept s5 := (State.modEng_kept h3 _ _)
  clear_value s5
  exact (State.goto_kept (State.setF_kept h6 _ _ _) _ _)

theorem execCodeDensityDone_kept {s₀ s : State} (h : s₀.Kept s) : ∀ a0 a1 a2 a3 a4 a5, Res.Kept s₀ (execCodeDensityDone a0 a1 a2 a3 a4 a5 s) := by
  intro a0 a1 a2 a3 a4 a5
  delta execCodeDensityDone
  refine Res.Kept.ite (fun _ => (done_kept h)) (fun _ => ?_)
  · refine Res.Kept.ite (fun _ => ?_) (fun _ => ?_)
    · extract_lets +onlyGivenNames k1
      exact (done_kept (State.detect_kept (State.acqDone_kept h _) _ _ _ _))
    · extract_lets +onlyGivenNames s2
      have h3 : s₀.Kept s2 := (State.acqDone_kept h _)
      clear_value s2
      extract_lets +onlyGivenNames k4
      exact Res.Kept.ite (fun _ => (done_kept (State.showDsk_kept (State.Kept.set_timing h3 (fun w => tabWf_tabSet (h3.wf w).timing _ _)) _))) (fun _ => (done_kept (State.Kept.set_timingNew h3 (fun w => tabWf_tabSet (h3.wf w).timingNew _ _))))

theorem execDllLock_kept {s₀ s : State} (h : s₀.Kept s) : ∀ a0 a1, Res.Kept s₀ (execDllLock a0 a1 s) := by
  intro a0 a1
  delta execDllLock
  refine Res.Kept.ite (fun _ => (done_kept h)) (fun _ => ?_)
  · extract_lets +onlyGivenNames s1
    have h2 : s₀.Kept s1 := (State.modTdc_kept h _ _)
    clear_value s1
    extract_lets +onlyGivenNames s3
    have h4 : s₀.Kept s3 := (State.showLocks_kept h2 _)
    clear_value s3
    refine Res.Kept.ite (fun _ => ?_) (fun _ => (done_kept h4))
    · extract_lets +onlyGivenNames k5
      exact (done_kept (State.condEnd_kept h4 _ _ _))

theorem execDllUnlock_kept {s₀ s : State} (h : s₀.Kept s) : ∀ a0 a1, Res.Kept s₀ (execDllUnlock a0 a1 s) := by
  intro a0 a1
  delta execDllUnlock
  refine Res.Kept.ite (fun _ => (done_kept h)) (fun _ => ?_)
  · extract_lets +onlyGivenNames s1
    have h2 : s₀.Kept s1 := (State.showLocks_kept (State.modTdc_kept h _ _) _)
    clear_value s1
    extract_lets +onlyGivenNames s3
    have h4 : s₀.Kept s3 := by
      unfold s3
      exact State.Kept.ite (fun _ => (State.setF_kept h2 _ _ _)) (fun _ => h2)
    clear_value s3
    extract_lets +onlyGivenNames k5
    exact (done_kept (State.detect_kept h4 _ _ _ _))

theorem execEndl_kept {s₀ s : State} (h : s₀.Kept s) : ∀ a0, Res.Kept s₀ (execEndl a0 s) := by
  intro a0
  delta execEndl
  apply done_kept
  refine State.issue_kept h _ _ _ fun _ _ h3 => ?_
  extract_lets +onlyGivenNames b4
  extract_lets +onlyGivenNames n5
  exact State.Kept.ite (fun _ => (State.goto_kept (State.setF_kept h3 _ _ _) _ _)) (fun _ => (State.advance_kept (State.setF_kept h3 _ _ _) _))

theorem execEvt_kept {s₀ s : State} (h : s₀.Kept s) : ∀ a0, Res.Kept s₀ (execEvt a0 s) := by
  intro a0
  delta execEvt
  apply done_kept
  refine State.issue_kept h _ _ _ fun _ _ h3 => ?_
  exact (State.advance_kept (State.addAct_kept h3 _ _) _)

theorem execFailDump_kept {s₀ s : State} (h : s₀.Kept s) : ∀ a0, Res.Kept s₀ (execFailDump a0 s) := by
  intro a0
  delta execFailDump
  split
  · exact (done_kept h)
  · extract_lets +onlyGivenNames t1
    extract_lets +onlyGivenNames clear2
    refine Res.Kept.ite (fun _ => (done_kept (State.endCmd_kept h _ _))) (fun _ => ?_)
    · extract_lets +onlyGivenNames w3
      extract_lets +onlyGivenNames first4
      extract_lets +onlyGivenNames n5
      extract_lets +onlyGivenNames o6
      have h7 : s₀.Kept o6.1 := (State.output_kept h _ _)
      clear_value o6
      extract_lets +onlyGivenNames s8
      have h9 : s₀.Kept s8 := h7
      clear_value s8
      extract_lets +onlyGivenNames cut10
      extract_lets +onlyGivenNames s11
      have h12 : s₀.Kept s11 := by
        unfold s11
        exact State.Kept.ite (fun _ => (State.flClear_kept h9 _)) (fun _ => h9)
      clear_value s11
      exact (done_kept (State.endCmd_kept h12 _ _))

theorem execFailLogRecord_kept {s₀ s : State} (h : s₀.Kept s) : ∀ a0, Res.Kept s₀ (execFailLogRecord a0 s) :=
  fun _ => (done_kept (State.flTake_kept h _ _))

theorem execFlg_kept {s₀ s : State} (h : s₀.Kept s) : ∀ a0, Res.Kept s₀ (execFlg a0 s) := by
  intro a0
  delta execFlg
  apply done_kept
  refine State.issue_kept h _ _ _ fun _ _ h3 => ?_
  exact (State.advance_kept (State.addAct_kept h3 _ _) _)

theorem execGroupBind_kept {s₀ s : State} (h : s₀.Kept s) : ∀ a0, Res.Kept s₀ (execGroupBind a0 s) := by
  intro a0
  delta execGroupBind
  split
  · exact (done_kept h)
  · split
    · exact (done_kept (State.endCmd_kept h _ _))
    · extract_lets +onlyGivenNames g1
      extract_lets +onlyGivenNames l2
      extract_lets +onlyGivenNames s3
      have h4 : s₀.Kept s3 := (State.Kept.foldl _ h fun _ _ h7 => (State.wr_kept h7 _ _))
      clear_value s3
      extract_lets +onlyGivenNames lead8
      extract_lets +onlyGivenNames s9
      have h10 : s₀.Kept s9 := (State.Kept.foldl _ h4 fun _ _ h13 => (State.setFs_kept h13 _ _))
      clear_value s9
      exact (done_kept (State.endCmd_kept h10 _ _))

theorem execHalt_kept {s₀ s : State} (h : s₀.Kept s) : ∀ a0, Res.Kept s₀ (execHalt a0 s) := by
  intro a0
  delta execHalt
  apply done_kept
  refine State.issue_kept h _ _ _ fun _ _ h3 => ?_
  refine State.decision_kept h3 _ _ fun _ h5 => ?_
  exact (State.finishRun_kept h5 _ _)

theorem execJmp_kept {s₀ s : State} (h : s₀.Kept s) : ∀ a0, Res.Kept s₀ (execJmp a0 s) := by
  intro a0
  delta execJmp
  apply done_kept
  refine State.issue_kept h _ _ _ fun _ _ h3 => ?_
  exact (State.goto_kept h3 _ _)

theorem execLoop_kept {s₀ s : State} (h : s₀.Kept s) : ∀ a0, Res.Kept s₀ (execLoop a0 s) := by
  intro a0
  delta execLoop
  apply done_kept
  refine State.issue_kept h _ _ _ fun _ _ h3 => ?_
  exact (State.advance_kept (State.setF_kept h3 _ _ _) _)

theorem execLvl_kept {s₀ s : State} (h : s₀.Kept s) : ∀ a0, Res.Kept s₀ (execLvl a0 s) := by
  intro a0
  delta execLvl
  apply done_kept
  refine State.issue_kept h _ _ _ fun _ _ h3 => ?_
  exact (State.advance_kept (State.addAct_kept h3 _ _) _)

theorem execMatchIterationEnd_kept {s₀ s : State} (h : s₀.Kept s) : ∀ a0, Res.Kept s₀ (execMatchIterationEnd a0 s) := by
  intro a0
  delta execMatchIterationEnd
  split
  · refine Res.Kept.ite (fun _ => ?_) (fun _ => (done_kept h))
    · extract_lets +onlyGivenNames s1
      have h2 : s₀.Kept s1 := by
        unfold s1
        exact State.Kept.ite (fun _ => (State.setMem_kept (State.modEng_kept h _ _) _ _ _)) (fun _ => h)
      clear_value s1
      extract_lets +onlyGivenNames w3
      extract_lets +onlyGivenNames s4
      have h5 : s₀.Kept s4 := (State.holdEnd_kept h2 _)
      clear_value s4
      extract_lets +onlyGivenNames after6
      have h7 : ∀ y8, s₀.Kept y8 → s₀.Kept (after6 y8) := by
        intro y8 hy8
        unfold after6
        exact (State.goto_kept (State.modEng_kept hy8 _ _) _ _)
      clear_value after6
      refine Res.Kept.ite (fun _ => (done_kept (h7 _ h5))) (fun _ => ?_)
      · refine Res.Kept.ite (fun _ => (done_kept (h7 _ (State.timeOut_kept h5 _)))) (fun _ => ?_)
        · extract_lets +onlyGivenNames s9
          have h10 : s₀.Kept s9 := (State.addAct_kept h5 _ _)
          clear_value s9
          exact (done_kept (State.goto_kept (State.modEng_kept h10 _ _) _ _))
  · exact (done_kept h)

theorem execMatchW_kept {s₀ s : State} (h : s₀.Kept s) : ∀ a0, Res.Kept s₀ (execMatchW a0 s) := by
  intro a0
  delta execMatchW
  apply done_kept
  refine State.issue_kept h _ _ _ fun _ _ h3 => ?_
  extract_lets +onlyGivenNames a4
  extract_lets +onlyGivenNames s5
  have h6 : s₀.Kept s5 := (State.addAct_kept h3 _ _)
  clear_value s5
  exact (State.setPc_kept (State.modEng_kept h6 _ _) _ _)

theorem execMeas_kept {s₀ s : State} (h : s₀.Kept s) : ∀ a0, Res.Kept s₀ (execMeas a0 s) := by
  intro a0
  delta execMeas
  apply done_kept
  refine State.issue_kept h _ _ _ fun _ _ h3 => ?_
  extract_lets +onlyGivenNames kind4
  extract_lets +onlyGivenNames kept5
  extract_lets +onlyGivenNames ms6
  extract_lets +onlyGivenNames s7
  have h8 : s₀.Kept s7 := (State.addAct_kept h3 _ _)
  clear_value s7
  refine State.Kept.ite (fun _ => ?_) (fun _ => (State.advance_kept h8 _))
  · extract_lets +onlyGivenNames r9
    have h10 : s₀.Kept r9.1 := (State.reserve_kept h8 _)
    clear_value r9
    exact State.Kept.ite (fun _ => (State.advance_kept h10 _)) (fun _ => (State.holdIdle_kept h10 _ _))

theorem execMeasPlaceFree_kept {s₀ s : State} (h : s₀.Kept s) : ∀ a0, Res.Kept s₀ (execMeasPlaceFree a0 s) := by
  intro a0
  delta execMeasPlaceFree
  split
  · split
    · extract_lets +onlyGivenNames r1
      have h2 : s₀.Kept r1.1 := (State.reserve_kept h _)
      clear_value r1
      exact Res.Kept.ite (fun _ => (done_kept (State.advance_kept (State.holdEnd_kept (State.raiseTrap_kept h2 _ _) _) _))) (fun _ => (done_kept (State.modEng_kept h2 _ _)))
    · exact (done_kept h)
  · exact (done_kept h)

theorem execRet_kept {s₀ s : State} (h : s₀.Kept s) : ∀ a0, Res.Kept s₀ (execRet a0 s) := by
  intro a0
  delta execRet
  apply done_kept
  refine State.issue_kept h _ _ _ fun _ _ h3 => ?_
  split
  · exact h3
  · exact (State.goto_kept (State.setF_kept (State.modEng_kept h3 _ _) _ _ _) _ _)

theorem execSeg_kept {s₀ s : State} (h : s₀.Kept s) : ∀ a0, Res.Kept s₀ (execSeg a0 s) := by
  intro a0
  delta execSeg
  apply done_kept
  refine State.issue_kept h _ _ _ fun _ _ h3 => ?_
  refine State.decision_kept h3 _ _ fun _ h5 => ?_
  exact (State.advance_kept (State.modEng_kept (State.setMem_kept h5 _ _ _) _ _) _)

theorem execSend_kept {s₀ s : State} (h : s₀.Kept s) : ∀ a0, Res.Kept s₀ (execSend a0 s) := by
  intro a0
  delta execSend
  apply done_kept
  refine State.issue_kept h _ _ _ fun _ _ h3 => ?_
  split
  · exact h3
  · exact (State.setPc_kept (State.modEng_kept (State.strmNext_kept h3 _) _ _) _ _)

theorem execSepiaJobComplete_kept {s₀ s : State} (h : s₀.Kept s) : ∀ a0 a1, Res.Kept s₀ (execSepiaJobComplete a0 a1 s) := by
  intro a0 a1
  delta execSepiaJobComplete
  exact Res.Kept.ite (fun _ => (done_kept (State.jobEnd_kept h _ _ _))) (fun _ => (done_kept h))

theorem execSepiaJobTimeout_kept {s₀ s : State} (h : s₀.Kept s) : ∀ a0 a1, Res.Kept s₀ (execSepiaJobTimeout a0 a1 s) := by
  intro a0 a1
  delta execSepiaJobTimeout
  split
  · exact (done_kept h)
  · exact Res.Kept.ite (fun _ => (done_kept h)) (fun _ => (done_kept (State.jobEnd_kept h _ _ _)))

theorem execSepiaSample_kept {s₀ s : State} (h : s₀.Kept s) : ∀ a0, Res.Kept s₀ (execSepiaSample a0 s) :=
  fun _ => (done_kept (State.sepiaProcess_kept h _))

theorem execSeqJump_kept {s₀ s : State} (h : s₀.Kept s) : ∀ a0, Res.Kept s₀ (execSeqJump a0 s) := by
  intro a0
  delta execSeqJump
  split
  · exact (done_kept h)
  · extract_lets +onlyGivenNames c1
    split
    · exact (done_kept (State.endCmd_kept h _ _))
    · extract_lets +onlyGivenNames s2
      have h3 : s₀.Kept s2 := (State.modEng_kept (State.modCmd_kept h _ _) _ _)
      clear_value s2
      exact (done_kept (State.raiseTrap_kept h3 _ _))

theorem execSeqJumpApply_kept {s₀ s : State} (h : s₀.Kept s) : ∀ a0, Res.Kept s₀ (execSeqJumpApply a0 s) := by
  intro a0
  delta execSeqJumpApply
  split
  · exact Res.Kept.ite (fun _ => (done_kept (State.takeJump_kept h _))) (fun _ => (done_kept h))
  · exact (done_kept h)

theorem execSeqLoad_kept {s₀ s : State} (h : s₀.Kept s) : ∀ a0 a1 a2, Res.Kept s₀ (execSeqLoad a0 a1 a2 s) := by
  intro a0 a1 a2
  delta execSeqLoad
  split
  · exact (done_kept h)
  · split
    · exact (done_kept (State.endCmd_kept h _ _))
    · extract_lets +onlyGivenNames n1
      extract_lets +onlyGivenNames one2
      extract_lets +onlyGivenNames imgs3
      extract_lets +onlyGivenNames got4
      extract_lets +onlyGivenNames s5
      have h6 : s₀.Kept s5 := by
        unfold s5
        refine State.Kept.foldl _ h fun _ _ h15 => ?_
        extract_lets +onlyGivenNames i16
        exact (State.Kept.foldl _ h15 fun _ _ h19 => (State.sramSet_kept h19 _ _ _))
      clear_value s5
      split
      · exact (done_kept (State.endCmd_kept h6 _ _))
      · extract_lets +onlyGivenNames s20
        have h21 : s₀.Kept s20 := (State.rdFail_kept h6 _)
        clear_value s20
        extract_lets +onlyGivenNames r22
        have h23 : s₀.Kept r22.2 := by
          unfold r22
          exact State.Kept.ite_snd (fun _ => (State.Kept.pair_snd h21)) (fun _ => (State.draw_kept h21 _))
        clear_value r22
        exact (done_kept (State.endCmd_kept h23 _ _))

theorem execSeqNop_kept {s₀ s : State} (h : s₀.Kept s) : ∀ a0, Res.Kept s₀ (execSeqNop a0 s) := by
  intro a0
  delta execSeqNop
  apply done_kept
  refine State.issue_kept h _ _ _ fun _ _ h3 => ?_
  exact (State.advance_kept h3 _)

theorem execSeqRun_kept {s₀ s : State} (h : s₀.Kept s) : ∀ a0, Res.Kept s₀ (execSeqRun a0 s) := by
  intro a0
  delta execSeqRun
  split
  · exact (done_kept h)
  · extract_lets +onlyGivenNames c1
    split
    · exact (done_kept (State.endCmd_kept h _ _))
    · extract_lets +onlyGivenNames a2
      extract_lets +onlyGivenNames s3
      have h4 : s₀.Kept s3 := by
        unfold s3
        refine State.Kept.foldl _ h fun _ _ h13 => ?_
        extract_lets +onlyGivenNames s14
        have h15 : s₀.Kept s14 := (State.modTdc_kept (State.yieldRotation_kept h13 _) _ _)
        clear_value s14
        extract_lets +onlyGivenNames s16
        have h17 : s₀.Kept s16 := (State.setFs_kept h15 _ _)
        clear_value s16
        exact (State.Kept.foldl _ h17 fun _ _ h20 => (State.setF_kept h20 _ _ _))
      clear_value s3
      extract_lets +onlyGivenNames seg21
      extract_lets +onlyGivenNames s22
      have h23 : s₀.Kept s22 := (State.modEng_kept h4 _ _)
      clear_value s22
      exact (done_kept (State.modCmd_kept h23 _ _))

theorem execSeqRunStart_kept {s₀ s : State} (h : s₀.Kept s) : ∀ a0 a1, Res.Kept s₀ (execSeqRunStart a0 a1 s) := by
  intro a0 a1
  delta execSeqRunStart
  extract_lets +onlyGivenNames e1
  refine Res.Kept.ite (fun _ => (done_kept h)) (fun _ => ?_)
  · extract_lets +onlyGivenNames b2
    extract_lets +onlyGivenNames p3
    extract_lets +onlyGivenNames s4
    have h5 : s₀.Kept s4 := (State.setEngState_kept (State.modEng_kept h _ _) _ _)
    clear_value s4
    exact (done_kept (State.period_kept h5 _ _))

theorem execSeqStop_kept {s₀ s : State} (h : s₀.Kept s) : ∀ a0, Res.Kept s₀ (execSeqStop a0 s) := by
  intro a0
  delta execSeqStop
  split
  · exact (done_kept h)
  · extract_lets +onlyGivenNames c1
    refine Res.Kept.ite (fun _ => (done_kept (State.endCmd_kept h _ _))) (fun _ => ?_)
    · refine Res.Kept.ite (fun _ => (done_kept (State.endCmd_kept h _ _))) (fun _ => ?_)
      · extract_lets +onlyGivenNames s2
        have h3 : s₀.Kept s2 := (State.modEng_kept (State.modCmd_kept h _ _) _ _)
        clear_value s2
        exact Res.Kept.ite (fun _ => (done_kept (State.stopRun_kept h3 _ _))) (fun _ => (done_kept (State.modEng_kept h3 _ _)))

theorem execSeqStopApply_kept {s₀ s : State} (h : s₀.Kept s) : ∀ a0, Res.Kept s₀ (execSeqStopApply a0 s) := by
  intro a0
  delta execSeqStopApply
  exact Res.Kept.ite (fun _ => (done_kept (State.endRun_kept h _ _))) (fun _ => (done_kept h))

theorem execSeqStream_kept {s₀ s : State} (h : s₀.Kept s) : ∀ a0, Res.Kept s₀ (execSeqStream a0 s) := by
  intro a0
  delta execSeqStream
  split
  · exact (done_kept h)
  · extract_lets +onlyGivenNames c1
    extract_lets +onlyGivenNames ms2
    refine Res.Kept.ite (fun _ => (done_kept (State.endCmd_kept h _ _))) (fun _ => ?_)
    · refine Res.Kept.ite (fun _ => (done_kept (State.endCmd_kept h _ _))) (fun _ => ?_)
      · extract_lets +onlyGivenNames n3
        refine Res.Kept.ite (fun _ => (done_kept (State.startCmd_kept h _ _ _))) (fun _ => ?_)
        · extract_lets +onlyGivenNames s4
          have h5 : s₀.Kept s4 := (State.Kept.foldl _ h fun _ _ h8 => (State.modEng_kept h8 _ _))
          clear_value s4
          exact (done_kept (State.modCmd_kept (State.startCmd_kept h5 _ _ _) _ _))

theorem execStall_kept {s₀ s : State} (h : s₀.Kept s) : ∀ a0, Res.Kept s₀ (execStall a0 s) := by
  intro a0
  delta execStall
  apply done_kept
  refine State.issue_kept h _ _ _ fun _ _ h3 => ?_
  extract_lets +onlyGivenNames stream4
  extract_lets +onlyGivenNames s5
  have h6 : s₀.Kept s5 := (State.advance_kept h3 _)
  clear_value s5
  refine State.Kept.ite (fun _ => h6) (fun _ => ?_)
  · extract_lets +onlyGivenNames s7
    have h8 : s₀.Kept s7 := (State.holdIdle_kept h6 _ _)
    clear_value s7
    exact (State.detect_kept (State.setF_kept h8 _ _ _) _ _ _ _)

theorem execStallResume_kept {s₀ s : State} (h : s₀.Kept s) : ∀ a0, Res.Kept s₀ (execStallResume a0 s) := by
  intro a0
  delta execStallResume
  split
  · split
    · exact Res.Kept.ite (fun _ => (done_kept (State.condEnd_kept (State.holdEnd_kept h _) _ _ _))) (fun _ => (done_kept h))
    · exact (done_kept h)
  · exact (done_kept h)

theorem execStampBufferWrite_kept {s₀ s : State} (h : s₀.Kept s) : ∀ a0, Res.Kept s₀ (execStampBufferWrite a0 s) :=
  fun _ => (done_kept (State.stampCollect_kept h _))

theorem execStatsReadPeek_kept {s₀ s : State} (h : s₀.Kept s) : ∀ a0, Res.Kept s₀ (execStatsReadPeek a0 s) := by
  intro a0
  delta execStatsReadPeek
  split
  · exact (done_kept h)
  · extract_lets +onlyGivenNames t1
    split
    · exact (done_kept (State.endCmd_kept h _ _))
    · extract_lets +onlyGivenNames o2
      have h3 : s₀.Kept o2.1 := (State.output_kept h _ _)
      clear_value o2
      exact (done_kept (State.endCmd_kept h3 _ _))

theorem execStatsReadStart_kept {s₀ s : State} (h : s₀.Kept s) : ∀ a0, Res.Kept s₀ (execStatsReadStart a0 s) := by
  intro a0
  delta execStatsReadStart
  split
  · exact (done_kept h)
  · extract_lets +onlyGivenNames t1
    split
    · exact (done_kept h)
    · exact (done_kept (State.modCmd_kept (State.jobStart_kept h _ _ _) _ _))

theorem execStreamRefill_kept {s₀ s : State} (h : s₀.Kept s) : ∀ a0 a1, Res.Kept s₀ (execStreamRefill a0 a1 s) := by
  intro a0 a1
  delta execStreamRefill
  split
  · exact (done_kept h)
  · exact (done_kept (State.modEng_kept (State.rdFail_kept h _) _ _))
  · extract_lets +onlyGivenNames s1
    have h2 : s₀.Kept s1 := (State.refill_kept h _ _)
    clear_value s1
    extract_lets +onlyGivenNames l3
    split
    · split
      · exact Res.Kept.ite (fun _ => (done_kept (State.raiseTrap_kept h2 _ _))) (fun _ => (done_kept h2))
      · exact (done_kept h2)
    · exact (done_kept h2)

theorem execStrm_kept {s₀ s : State} (h : s₀.Kept s) : ∀ a0, Res.Kept s₀ (execStrm a0 s) := by
  intro a0
  delta execStrm
  apply done_kept
  refine State.issue_kept h _ _ _ fun _ _ h3 => ?_
  extract_lets +onlyGivenNames s4
  have h5 : s₀.Kept s4 := (State.modEng_kept h3 _ _)
  clear_value s4
  exact (State.setPc_kept h5 _ _)

theorem execTdcStamp_kept {s₀ s : State} (h : s₀.Kept s) : ∀ a0 a1 a2 a3 a4, Res.Kept s₀ (execTdcStamp a0 a1 a2 a3 a4 s) := by
  intro a0 a1 a2 a3 a4
  delta execTdcStamp
  exact Res.Kept.ite (fun _ => (done_kept (State.stampEdge_kept h _ _ _ _))) (fun _ => (done_kept h))

theorem execTsld_kept {s₀ s : State} (h : s₀.Kept s) : ∀ a0, Res.Kept s₀ (execTsld a0 s) := by
  intro a0
  delta execTsld
  apply done_kept
  refine State.issue_kept h _ _ _ fun _ _ h3 => ?_
  extract_lets +onlyGivenNames ts4
  extract_lets +onlyGivenNames a5
  extract_lets +onlyGivenNames s6
  have h7 : s₀.Kept s6 := (State.Kept.foldl _ h3 fun _ _ h10 => (State.Kept.foldl _ h10 fun _ _ h13 => (State.wr_kept h13 _ _)))
  clear_value s6
  exact State.Kept.ite (fun _ => (State.advance_kept h7 _)) (fun _ => (State.finishRun_kept h7 _ _))

theorem execUnderrun_kept {s₀ s : State} (h : s₀.Kept s) : ∀ a0, Res.Kept s₀ (execUnderrun a0 s) := by
  intro a0
  delta execUnderrun
  exact Res.Kept.ite (fun _ => (done_kept (State.underrun_kept h _))) (fun _ => (done_kept h))

theorem execVecd_kept {s₀ s : State} (h : s₀.Kept s) : ∀ a0, Res.Kept s₀ (execVecd a0 s) := by
  intro a0
  delta execVecd
  apply done_kept
  refine State.issue_kept h _ _ _ fun _ _ h3 => ?_
  extract_lets +onlyGivenNames r4
  have h5 : s₀.Kept r4.1 := (State.pushVecs_kept h3 _ _ _ _)
  clear_value r4
  exact State.Kept.ite (fun _ => (State.advance_kept h5 _)) (fun _ => h5)

theorem execVeci_kept {s₀ s : State} (h : s₀.Kept s) : ∀ a0, Res.Kept s₀ (execVeci a0 s) := by
  intro a0
  delta execVeci
  apply done_kept
  refine State.issue_kept h _ _ _ fun _ _ h3 => ?_
  extract_lets +onlyGivenNames r4
  have h5 : s₀.Kept r4.1 := (State.pushVecs_kept h3 _ _ _ _)
  clear_value r4
  exact State.Kept.ite (fun _ => (State.advance_kept h5 _)) (fun _ => h5)

theorem execVecs_kept {s₀ s : State} (h : s₀.Kept s) : ∀ a0, Res.Kept s₀ (execVecs a0 s) := by
  intro a0
  delta execVecs
  refine Res.Kept.ite (fun _ => (done_kept (State.vecsRun_kept h _ _))) (fun _ => ?_)
  · apply done_kept
    refine State.issue_kept h _ _ _ fun _ _ h3 => ?_
    exact (State.vecsRun_kept (State.modEng_kept (State.strmNext_kept h3 _) _ _) _ _)

theorem execVectorPeriod_kept {s₀ s : State} (h : s₀.Kept s) : ∀ a0 a1, Res.Kept s₀ (execVectorPeriod a0 a1 s) :=
  fun _ _ => (done_kept (State.period_kept h _ _))

theorem execVrep_kept {s₀ s : State} (h : s₀.Kept s) : ∀ a0, Res.Kept s₀ (execVrep a0 s) := by
  intro a0
  delta execVrep
  apply done_kept
  refine State.issue_kept h _ _ _ fun _ _ h3 => ?_
  extract_lets +onlyGivenNames r4
  have h5 : s₀.Kept r4.1 := (State.pushVecs_kept h3 _ _ _ _)
  clear_value r4
  exact State.Kept.ite (fun _ => (State.advance_kept h5 _)) (fun _ => h5)

theorem execWait_kept {s₀ s : State} (h : s₀.Kept s) : ∀ a0, Res.Kept s₀ (execWait a0 s) := by
  intro a0
  delta execWait
  apply done_kept
  refine State.issue_kept h _ _ _ fun _ _ h3 => ?_
  exact (State.holdOn_kept h3 _ _)

theorem execWaitRelease_kept {s₀ s : State} (h : s₀.Kept s) : ∀ a0, Res.Kept s₀ (execWaitRelease a0 s) := by
  intro a0
  delta execWaitRelease
  split
  · split
    · exact Res.Kept.ite (fun _ => (done_kept (State.advance_kept (State.holdEnd_kept h _) _))) (fun _ => (done_kept h))
    · exact (done_kept h)
  · exact (done_kept h)

theorem execWaitTimeout_kept {s₀ s : State} (h : s₀.Kept s) : ∀ a0, Res.Kept s₀ (execWaitTimeout a0 s) := by
  intro a0
  delta execWaitTimeout
  split
  · refine Res.Kept.ite (fun _ => (done_kept h)) (fun _ => ?_)
    · split
      · exact (done_kept (State.advance_kept (State.holdEnd_kept (State.timeOut_kept h _) _) _))
      · exact (done_kept (State.advance_kept (State.holdEnd_kept (State.timeOut_kept (State.barArr_kept h _ _) _) _) _))
      · exact (done_kept h)
  · exact (done_kept h)

end Sys2Proof.Machine
end

