-- ==== Sys2Proof/Laws/KeptCalibration.lean ====
section
/-! SUPPORT. State.Kept through the operations of the flash, calibration and self-test. -/

namespace Sys2Proof.Machine

theorem State.testEntry_kept {s₀ s : State} (h : s₀.Kept s) : ∀ a1, s₀.Kept (State.testEntry s a1).2 := by
  intro a1
  delta State.testEntry
  extract_lets +onlyGivenNames q1
  have h2 : s₀.Kept q1.2 := (State.draw_kept h _)
  clear_value q1
  extract_lets +onlyGivenNames r3
  have h4 : s₀.Kept r3.2 := by
    unfold r3
    exact State.Kept.ite_snd (fun _ => (State.Kept.pair_snd h)) (fun _ => State.Kept.ite_snd (fun _ => (State.Kept.pair_snd h2)) (fun _ => h2))
  clear_value r3
  exact (State.Kept.pair_snd h4)

theorem State.testEntries_kept {s₀ s : State} (h : s₀.Kept s) : ∀ l, s₀.Kept (State.testEntries s l).2 := by
  intro l
  induction l generalizing s with
  | nil => exact h
  | cons x l ih => exact ih (State.testEntry_kept h x)

theorem State.testsOver_kept {s₀ s : State} (h : s₀.Kept s) : ∀ a1, s₀.Kept (State.testsOver s a1) := by
  intro a1
  delta State.testsOver
  extract_lets +onlyGivenNames l1
  split
  · refine State.Kept.ite (fun _ => h) (fun _ => ?_)
    · refine State.Kept.ite (fun _ => (State.stopCmd_kept (State.Kept.set_tests h) _ _)) (fun _ => ?_)
      · extract_lets +onlyGivenNames r2
        have h3 : s₀.Kept r2.2 := (State.testEntries_kept h _)
        clear_value r2
        extract_lets +onlyGivenNames fails4
        extract_lets +onlyGivenNames src5
        have h6 : s₀.Kept src5 := h3
        clear_value src5
        extract_lets +onlyGivenNames s7
        have h8 : s₀.Kept s7 := (State.Kept.set_tests h6)
        clear_value s7
        extract_lets +onlyGivenNames o9
        have h10 : s₀.Kept o9.1 := (State.output_kept h8 _ _)
        clear_value o9
        extract_lets +onlyGivenNames s11
        have h12 : s₀.Kept s11 := h10
        clear_value s11
        extract_lets +onlyGivenNames cut13
        exact (State.endCmd_kept h12 _ _)
  · exact h

theorem State.testsYield_kept {s₀ s : State} (h : s₀.Kept s) : ∀ a1, s₀.Kept (State.testsYield s a1) := by
  intro a1
  delta State.testsYield
  extract_lets +onlyGivenNames hit1
  extract_lets +onlyGivenNames cmds2
  extract_lets +onlyGivenNames s3
  have h4 : s₀.Kept s3 := (State.Kept.set_tests h)
  clear_value s3
  exact (State.Kept.foldl _ h4 fun _ _ h7 => (State.testsOver_kept h7 _))

theorem State.anchorFails_kept {s₀ s : State} (h : s₀.Kept s) : ∀ a1, s₀.Kept (State.anchorFails s a1) := by
  intro a1
  delta State.anchorFails
  extract_lets +onlyGivenNames s1
  have h2 : s₀.Kept s1 := by
    unfold s1
    refine State.Kept.foldl _ h fun _ _ h11 => ?_
    split
    · exact (State.detect_kept h11 _ _ _ _)
    · extract_lets +onlyGivenNames r12
      have h13 : s₀.Kept r12.2 := (State.draw_kept h11 _)
      clear_value r12
      exact (State.detect_kept h13 _ _ _ _)
  clear_value s1
  exact (State.anchorKill_kept h2 _)

theorem State.roundFree_kept {s₀ s : State} (h : s₀.Kept s) : ∀ a1, s₀.Kept (State.roundFree s a1).2 := by
  intro a1
  delta State.roundFree
  extract_lets +onlyGivenNames r1
  have h2 : s₀.Kept r1.2 := (State.draw_kept h _)
  clear_value r1
  exact (State.Kept.pair_snd h2)

theorem State.anchorMref_kept {s₀ s : State} (h : s₀.Kept s) : ∀ a1, s₀.Kept (State.anchorMref s a1) := by
  intro a1
  delta State.anchorMref
  extract_lets +onlyGivenNames w1
  extract_lets +onlyGivenNames cert2
  extract_lets +onlyGivenNames avg3
  extract_lets +onlyGivenNames r4
  have h5 : s₀.Kept r4.2 := (State.roundFree_kept h _)
  clear_value r4
  extract_lets +onlyGivenNames q6
  have h7 : s₀.Kept q6.2 := (State.draw_kept h5 _)
  clear_value q6
  extract_lets +onlyGivenNames m8
  extract_lets +onlyGivenNames s9
  have h10 : s₀.Kept s9 := by
    unfold s9
    exact State.Kept.ite (fun _ => h7) (fun _ => h5)
  clear_value s9
  extract_lets +onlyGivenNames old11
  extract_lets +onlyGivenNames x12
  have h13 : s₀.Kept x12.2 := (State.draw_kept h10 _)
  clear_value x12
  extract_lets +onlyGivenNames y14
  have h15 : s₀.Kept y14.2 := (State.roundFree_kept h10 _)
  clear_value y14
  extract_lets +onlyGivenNames d16
  extract_lets +onlyGivenNames s17
  have h18 : s₀.Kept s17 := by
    unfold s17
    exact State.Kept.ite (fun _ => h13) (fun _ => h15)
  clear_value s17
  exact (State.Kept.set_anchor h18)

theorem State.stageRow_kept {s₀ s : State} (h : s₀.Kept s) : ∀ a1 a2 a3, s₀.Kept (State.stageRow s a1 a2 a3) := by
  intro a1 a2 a3
  delta State.stageRow
  extract_lets +onlyGivenNames old1
  extract_lets +onlyGivenNames n2
  extract_lets +onlyGivenNames bs3
  extract_lets +onlyGivenNames s4
  have h5 : s₀.Kept s4 := (State.Kept.set_sram h (fun w => tabWf_memWrite (h.wf w).sram _ _))
  clear_value s4
  extract_lets +onlyGivenNames s6
  have h7 : s₀.Kept s6 := by
    unfold s6
    exact State.Kept.ite (fun _ => (State.sramSet_kept h5 _ _ _)) (fun _ => h5)
  clear_value s6
  exact (State.Kept.set_stagedUnits h7)

theorem State.anchorStage_kept {s₀ s : State} (h : s₀.Kept s) : ∀ a1, s₀.Kept (State.anchorStage s a1) := by
  intro a1
  delta State.anchorStage
  extract_lets +onlyGivenNames part1
  extract_lets +onlyGivenNames tol2
  extract_lets +onlyGivenNames passed3
  extract_lets +onlyGivenNames s4
  have h5 : s₀.Kept s4 := by
    unfold s4
    refine State.Kept.foldl _ h fun _ _ h14 => ?_
    exact State.Kept.ite (fun _ => (State.stageRow_kept h14 _ _ _)) (fun _ => h14)
  clear_value s4
  extract_lets +onlyGivenNames s15
  have h16 : s₀.Kept s15 := (State.setFs_kept h5 _ _)
  clear_value s15
  extract_lets +onlyGivenNames run17
  clear_value run17
  extract_lets +onlyGivenNames src18
  extract_lets +onlyGivenNames s19
  have h20 : s₀.Kept s19 := (State.Kept.set_anchor h16)
  clear_value s19
  split
  · extract_lets +onlyGivenNames o21
    have h22 : s₀.Kept o21.1 := (State.output_kept h20 _ _)
    clear_value o21
    extract_lets +onlyGivenNames s23
    have h24 : s₀.Kept s23 := h22
    clear_value s23
    extract_lets +onlyGivenNames cut25
    exact (State.endCmd_kept h24 _ _)
  · exact h20

theorem State.applyFw_kept {s₀ s : State} (h : s₀.Kept s) : ∀ a1, s₀.Kept (State.applyFw s a1) := by
  intro a1
  delta State.applyFw
  refine State.Kept.foldl _ h fun _ _ h9 => ?_
  split
  · exact (State.Kept.set_sram h9 (fun w => tabWf_memWrite (h9.wf w).sram _ _))
  · exact h9

theorem State.archEnd_kept {s₀ s : State} (h : s₀.Kept s) : ∀ a1, s₀.Kept (State.archEnd s a1) := by
  intro a1
  delta State.archEnd
  refine State.Kept.foldl _ h fun _ _ h9 => ?_
  split
  · exact (State.endCmd_kept h9 _ _)
  · exact h9

theorem State.archStart_kept {s₀ s : State} (h : s₀.Kept s) : ∀ a1, s₀.Kept (State.archStart s a1) := by
  intro a1
  delta State.archStart
  refine State.Kept.ite (fun _ => (State.Kept.set_archNext h)) (fun _ => ?_)
  · extract_lets +onlyGivenNames src1
    have h2 : s₀.Kept src1 := (State.setF_kept h _ _ _)
    clear_value src1
    exact (State.Kept.set_archNow h2)

theorem State.flashErase_kept {s₀ s : State} (h : s₀.Kept s) : ∀ a1 a2, s₀.Kept (State.flashErase s a1 a2) :=
  fun _ _ => (State.Kept.set_flash h (fun w => tabWf_tabKeep (h.wf w).flash _))

theorem State.flashPut_kept {s₀ s : State} (h : s₀.Kept s) : ∀ a1 a2, s₀.Kept (State.flashPut s a1 a2) :=
  fun _ _ => (State.Kept.set_flash h (fun w => tabWf_memWrite (h.wf w).flash _ _))

theorem State.drawWords_kept {s₀ s : State} (h : s₀.Kept s) : ∀ n, s₀.Kept (State.drawWords s n).2 := by
  intro n
  induction n generalizing s with
  | zero => exact h
  | succ n ih => exact ih (State.draw_kept h 32)

theorem State.calOutput_kept {s₀ s : State} (h : s₀.Kept s) : ∀ a1 a2 a3, s₀.Kept (State.calOutput s a1 a2 a3).2 := by
  intro a1 a2 a3
  delta State.calOutput
  extract_lets +onlyGivenNames k1
  refine State.Kept.ite_snd (fun _ => (State.Kept.pair_snd h)) (fun _ => ?_)
  · refine State.Kept.ite_snd (fun _ => (State.Kept.pair_snd h)) (fun _ => ?_)
    · refine State.Kept.ite_snd (fun _ => State.Kept.ite_snd (fun _ => (State.drawWords_kept h _)) (fun _ => (State.Kept.pair_snd h))) (fun _ => ?_)
      · refine State.Kept.ite_snd (fun _ => ?_) (fun _ => State.Kept.ite_snd (fun _ => (State.Kept.pair_snd h)) (fun _ => (State.Kept.pair_snd h)))
        · refine State.Kept.ite_snd (fun _ => (State.drawWords_kept h _)) (fun _ => ?_)
          · extract_lets +onlyGivenNames r2
            have h3 : s₀.Kept r2.2 := (State.draw_kept h _)
            clear_value r2
            exact (State.Kept.pair_snd h3)

theorem State.setShade_kept {s₀ s : State} (h : s₀.Kept s) : ∀ a1 a2, s₀.Kept (State.setShade s a1 a2) := by
  intro a1 a2
  delta State.setShade
  extract_lets +onlyGivenNames b1
  extract_lets +onlyGivenNames old2
  extract_lets +onlyGivenNames k3
  extract_lets +onlyGivenNames v4
  extract_lets +onlyGivenNames s5
  have h6 : s₀.Kept s5 := (State.calPut_kept (State.setF_kept h _ _ _) _ _ _)
  clear_value s5
  exact (State.setCalState_kept h6 _ _ _)

theorem State.calTake_kept {s₀ s : State} (h : s₀.Kept s) : ∀ a1 a2, s₀.Kept (State.calTake s a1 a2) :=
  fun _ _ => (State.Kept.set_sram h (fun w => tabWf_memWrite (h.wf w).sram _ _))

theorem State.commitAnchor_kept {s₀ s : State} (h : s₀.Kept s) : ∀ a1, s₀.Kept (State.commitAnchor s a1) := by
  intro a1
  delta State.commitAnchor
  extract_lets +onlyGivenNames a1
  extract_lets +onlyGivenNames w2
  extract_lets +onlyGivenNames now3
  extract_lets +onlyGivenNames s4
  have h5 : s₀.Kept s4 := (State.calPut_kept (State.calPut_kept (State.calPut_kept h _ _ _) _ _ _) _ _ _)
  clear_value s4
  extract_lets +onlyGivenNames s6
  have h7 : s₀.Kept s6 := (State.calPut_kept (State.calPut_kept (State.calPut_kept h5 _ _ _) _ _ _) _ _ _)
  clear_value s6
  extract_lets +onlyGivenNames s8
  have h9 : s₀.Kept s8 := (State.calPut_kept h7 _ _ _)
  clear_value s8
  extract_lets +onlyGivenNames s10
  have h11 : s₀.Kept s10 := (State.setF_kept h9 _ _ _)
  clear_value s10
  extract_lets +onlyGivenNames s12
  have h13 : s₀.Kept s12 := (State.setFs_kept h11 _ _)
  clear_value s12
  extract_lets +onlyGivenNames s14
  have h15 : s₀.Kept s14 := by
    unfold s14
    refine State.Kept.foldl _ h13 fun _ _ h24 => ?_
    exact State.Kept.ite (fun _ => h24) (fun _ => State.Kept.ite (fun _ => (State.setShade_kept h24 _ _)) (fun _ => State.Kept.ite (fun _ => (State.setShade_kept h24 _ _)) (fun _ => h24)))
  clear_value s14
  extract_lets +onlyGivenNames s25
  have h26 : s₀.Kept s25 := (State.Kept.foldl _ h15 fun _ _ h29 => (State.detect_kept h29 _ _ _ _))
  clear_value s25
  exact (State.Kept.foldl _ h26 fun _ _ h32 => (State.setF_kept h32 _ _ _))

theorem State.takeTables_kept {s₀ s : State} (h : s₀.Kept s) : ∀ a1 a2, s₀.Kept (State.takeTables s a1 a2) := by
  intro a1 a2
  delta State.takeTables
  extract_lets +onlyGivenNames s1
  have h2 : s₀.Kept s1 := by
    unfold s1
    exact State.Kept.ite (fun _ => (State.modTdc_kept h _ _)) (fun _ => h)
  clear_value s1
  exact (State.showDsk_kept (State.Kept.set_timing h2 (fun w => tabWf_tabSet (h2.wf w).timing _ _)) _)

theorem State.genChanges_kept {s₀ s : State} (h : s₀.Kept s) : s₀.Kept (State.genChanges s) := by
  delta State.genChanges
  refine State.Kept.foldl _ h fun _ _ h15 => ?_
  refine State.Kept.foldl _ h15 fun _ _ h21 => ?_
  split
  · exact (State.setJob_kept h21 _ _ _)
  · exact h21

theorem State.unstage_kept {s₀ s : State} (h : s₀.Kept s) : s₀.Kept (State.unstage s) := by
  delta State.unstage
  extract_lets +onlyGivenNames s1
  have h2 : s₀.Kept s1 := (State.sramClear_kept h _)
  clear_value s1
  extract_lets +onlyGivenNames s3
  have h4 : s₀.Kept s3 := (State.setFs_kept h2 _ _)
  clear_value s3
  exact (State.Kept.set_anchor_timingNew_stagedUnits_stagedTiles_stagedXfer h4 (fun _ => tabWf_nil))

theorem State.passStart_kept {s₀ s : State} (h : s₀.Kept s) : ∀ a1, s₀.Kept (State.passStart s a1) :=
  fun _ => (State.modTile_kept (State.setF_kept h _ _ _) _ _)

theorem State.commitNow_kept {s₀ s : State} (h : s₀.Kept s) : s₀.Kept (State.commitNow s) := by
  delta State.commitNow
  extract_lets +onlyGivenNames gen1
  extract_lets +onlyGivenNames anchor2
  extract_lets +onlyGivenNames units3
  extract_lets +onlyGivenNames xfer4
  extract_lets +onlyGivenNames s5
  have h6 : s₀.Kept s5 := by
    unfold s5
    refine State.Kept.foldl _ h fun _ _ h15 => ?_
    exact State.Kept.ite (fun _ => (State.calTake_kept (State.calTake_kept h15 _ _) _ _)) (fun _ => (State.calTake_kept h15 _ _))
  clear_value s5
  extract_lets +onlyGivenNames s16
  have h17 : s₀.Kept s16 := by
    unfold s16
    refine State.Kept.foldl _ h6 fun _ _ h26 => ?_
    extract_lets +onlyGivenNames s27
    have h28 : s₀.Kept s27 := (State.calTake_kept h26 _ _)
    clear_value s27
    exact State.Kept.ite (fun _ => (State.calTake_kept (State.calTake_kept h28 _ _) _ _)) (fun _ => h28)
  clear_value s16
  extract_lets +onlyGivenNames s29
  have h30 : s₀.Kept s29 := by
    unfold s29
    exact State.Kept.set_rotAt h17 (fun w => tabWf_foldl _ _ (h17.wf w).rotAt fun m e hm => by split; exacts [tabWf_tabSet hm _ _, hm])
  clear_value s29
  extract_lets +onlyGivenNames new31
  extract_lets +onlyGivenNames s32
  have h33 : s₀.Kept s32 := (State.Kept.foldl _ h30 fun _ _ h36 => (State.takeTables_kept h36 _ _))
  clear_value s32
  extract_lets +onlyGivenNames s37
  have h38 : s₀.Kept s37 := (State.calPut_kept (State.calPut_kept (State.calPut_kept (State.setF_kept h33 _ _ _) _ _ _) _ _ _) _ _ _)
  clear_value s37
  extract_lets +onlyGivenNames s39
  have h40 : s₀.Kept s39 := by
    unfold s39
    refine State.genChanges_kept ?_ 
    exact State.Kept.ite (fun _ => (State.commitAnchor_kept h38 _)) (fun _ => h38)
  clear_value s39
  extract_lets +onlyGivenNames s41
  have h42 : s₀.Kept s41 := (State.unstage_kept h40)
  clear_value s41
  extract_lets +onlyGivenNames s43
  have h44 : s₀.Kept s43 := (State.Kept.foldl _ h42 fun _ _ h47 => (State.passStart_kept h47 _))
  clear_value s43
  extract_lets +onlyGivenNames src48
  have h49 : s₀.Kept src48 := (State.setF_kept h44 _ _ _)
  clear_value src48
  exact (State.Kept.set_calDirty h49)

theorem State.dirWrite_kept {s₀ s : State} (h : s₀.Kept s) : ∀ a1, s₀.Kept (State.dirWrite s a1) := by
  intro a1
  delta State.dirWrite
  extract_lets +onlyGivenNames k1
  exact (State.flashPut_kept (State.flashErase_kept h _ _) _ _)

theorem State.flashProg_kept {s₀ s : State} (h : s₀.Kept s) : ∀ a1 a2, s₀.Kept (State.flashProg s a1 a2) :=
  fun _ _ => (State.flashPut_kept h _ _)

theorem State.rotH1_kept {s₀ s : State} (h : s₀.Kept s) : ∀ a1 a2, s₀.Kept (State.rotH1 s a1 a2) := by
  intro a1 a2
  delta State.rotH1
  extract_lets +onlyGivenNames f1
  extract_lets +onlyGivenNames u2
  extract_lets +onlyGivenNames s3
  have h4 : s₀.Kept s3 := (State.modFe_kept h _ _)
  clear_value s3
  extract_lets +onlyGivenNames s5
  have h6 : s₀.Kept s5 := (State.Kept.foldl _ h4 fun _ _ h9 => (State.wr_kept h9 _ _))
  clear_value s5
  extract_lets +onlyGivenNames s10
  have h11 : s₀.Kept s10 := (State.modAdc_kept (State.setF_kept (State.setF_kept h6 _ _ _) _ _ _) _ _)
  clear_value s10
  exact (State.adcKick_kept h11 _)

theorem State.rotRegister_kept {s₀ s : State} (h : s₀.Kept s) : ∀ a1 a2, s₀.Kept (State.rotRegister s a1 a2) := by
  intro a1 a2
  delta State.rotRegister
  extract_lets +onlyGivenNames a1
  extract_lets +onlyGivenNames idle2
  extract_lets +onlyGivenNames direct3
  extract_lets +onlyGivenNames b4
  extract_lets +onlyGivenNames s5
  have h6 : s₀.Kept s5 := (State.setRot_kept h _ _)
  clear_value s5
  extract_lets +onlyGivenNames s7
  have h8 : s₀.Kept s7 := (State.setF_kept h6 _ _ _)
  clear_value s7
  exact State.Kept.ite (fun _ => h8) (fun _ => (State.modAdc_kept h8 _ _))

theorem State.rotTake_kept {s₀ s : State} (h : s₀.Kept s) : ∀ a1, s₀.Kept (State.rotTake s a1) := by
  intro a1
  delta State.rotTake
  extract_lets +onlyGivenNames t1
  extract_lets +onlyGivenNames en2
  extract_lets +onlyGivenNames cs3
  extract_lets +onlyGivenNames owed4
  split
  · exact (State.rotRegister_kept h _ _)
  · split
    · exact (State.rotRegister_kept h _ _)
    · refine State.Kept.ite (fun _ => h) (fun _ => ?_)
      · extract_lets +onlyGivenNames left5
        extract_lets +onlyGivenNames s6
        have h7 : s₀.Kept s6 := (State.Kept.foldl _ h fun _ _ h10 => (State.owe_kept h10 _))
        clear_value s6
        split
        · exact (State.rotRegister_kept h7 _ _)
        · exact (State.passCheck_kept h7 _)

theorem State.sealRecord_kept {s₀ s : State} (h : s₀.Kept s) : ∀ a1, s₀.Kept (State.sealRecord s a1) := by
  intro a1
  delta State.sealRecord
  extract_lets +onlyGivenNames s1
  have h2 : s₀.Kept s1 := (State.calPut_kept (State.calPut_kept (State.calPut_kept (State.calPut_kept (State.calPut_kept h _ _ _) _ _ _) _ _ _) _ _ _) _ _ _)
  clear_value s1
  extract_lets +onlyGivenNames s3
  have h4 : s₀.Kept s3 := (State.calPut_kept h2 _ _ _)
  clear_value s3
  extract_lets +onlyGivenNames s5
  have h6 : s₀.Kept s5 := (State.calPut_kept h4 _ _ _)
  clear_value s5
  exact (State.calPut_kept h6 _ _ _)

theorem State.setRemap_kept {s₀ s : State} (h : s₀.Kept s) : ∀ a1 a2 a3, s₀.Kept (State.setRemap s a1 a2 a3) := by
  intro a1 a2 a3
  delta State.setRemap
  extract_lets +onlyGivenNames s1
  have h2 : s₀.Kept s1 := (State.setFs_kept h _ _)
  clear_value s1
  extract_lets +onlyGivenNames src3
  have h4 : s₀.Kept src3 := (State.calPut_kept h2 _ _ _)
  clear_value src3
  exact (State.Kept.set_calDirty h4)

theorem State.stageTile_kept {s₀ s : State} (h : s₀.Kept s) : ∀ a1 a2 a3, s₀.Kept (State.stageTile s a1 a2 a3) := by
  intro a1 a2 a3
  delta State.stageTile
  extract_lets +onlyGivenNames old1
  extract_lets +onlyGivenNames s2
  have h3 : s₀.Kept s2 := (State.Kept.set_sram h (fun w => tabWf_memWrite (h.wf w).sram _ _))
  clear_value s2
  extract_lets +onlyGivenNames s4
  have h5 : s₀.Kept s4 := (State.sramSet_kept (State.sramSet_kept h3 _ _ _) _ _ _)
  clear_value s4
  exact (State.Kept.set_stagedTiles h5)

theorem State.testFails_kept {s₀ s : State} (h : s₀.Kept s) : ∀ a1 a2, s₀.Kept (State.testFails s a1 a2) := by
  intro a1 a2
  delta State.testFails
  refine State.Kept.ite (fun _ => State.Kept.ite (fun _ => (State.detectEcc_kept h _ _ _ _)) (fun _ => State.Kept.ite (fun _ => (State.detectEcc_kept h _ _ _ _)) (fun _ => (State.detectEcc_kept h _ _ _ _)))) (fun _ => ?_)
  · refine State.Kept.ite (fun _ => ?_) (fun _ => (State.detectFe_kept h _ _ _))
    · extract_lets +onlyGivenNames p1
      exact (State.detect_kept (State.setF_kept h _ _ _) _ _ _ _)

theorem State.tresMean_kept {s₀ s : State} (h : s₀.Kept s) : ∀ a1 a2, s₀.Kept (State.tresMean s a1 a2).2 := by
  intro a1 a2
  delta State.tresMean
  extract_lets +onlyGivenNames keep1
  refine State.Kept.ite_snd (fun _ => (State.Kept.pair_snd h)) (fun _ => ?_)
  · extract_lets +onlyGivenNames r2
    have h3 : s₀.Kept r2.2 := (State.roundFree_kept h _)
    clear_value r2
    exact (State.Kept.pair_snd h3)

theorem State.xferStage_kept {s₀ s : State} (h : s₀.Kept s) : ∀ a1 a2 a3 a4, s₀.Kept (State.xferStage s a1 a2 a3 a4) := by
  intro a1 a2 a3 a4
  delta State.xferStage
  extract_lets +onlyGivenNames x1
  extract_lets +onlyGivenNames s2
  have h3 : s₀.Kept s2 := by
    unfold s2
    refine State.Kept.foldl _ h fun _ _ h12 => ?_
    extract_lets +onlyGivenNames nn13
    extract_lets +onlyGivenNames st14
    refine State.Kept.ite (fun _ => h12) (fun _ => ?_)
    · split
      · exact (State.stageRow_kept h12 _ _ _)
      · split
        · refine State.detect_kept ?_ _ _ _ _
          exact State.Kept.ite (fun _ => (State.setShade_kept h12 _ _)) (fun _ => h12)
  clear_value s2
  extract_lets +onlyGivenNames part15
  extract_lets +onlyGivenNames h16
  have h17 : s₀.Kept h16.2 := (State.tresMean_kept h3 _ _)
  clear_value h16
  extract_lets +onlyGivenNames l18
  have h19 : s₀.Kept l18.2 := (State.tresMean_kept h17 _ _)
  clear_value l18
  extract_lets +onlyGivenNames s20
  have h21 : s₀.Kept s20 := (State.stageTile_kept h19 _ _ _)
  clear_value s20
  extract_lets +onlyGivenNames at022
  extract_lets +onlyGivenNames b23
  extract_lets +onlyGivenNames s24
  have h25 : s₀.Kept s24 := (State.sramSet_kept (State.sramSet_kept (State.sramSet_kept h21 _ _ _) _ _ _) _ _ _)
  clear_value s24
  extract_lets +onlyGivenNames s26
  have h27 : s₀.Kept s26 := (State.modTile_kept (State.setF_kept h25 _ _ _) _ _)
  clear_value s26
  extract_lets +onlyGivenNames src28
  have h29 : s₀.Kept src28 := (State.setF_kept h27 _ _ _)
  clear_value src28
  exact (State.Kept.set_stagedXfer h29)

theorem execAnchorStep_kept {s₀ s : State} (h : s₀.Kept s) : ∀ a0, Res.Kept s₀ (execAnchorStep a0 s) := by
  intro a0
  delta execAnchorStep
  extract_lets +onlyGivenNames n1
  refine Res.Kept.ite (fun _ => (done_kept h)) (fun _ => ?_)
  · extract_lets +onlyGivenNames fail2
    have h3 : ∀ y4 y5, s₀.Kept y4 → s₀.Kept (fail2 y4 y5) := by
      intro y4 y5 hy4
      unfold fail2
      exact (State.Kept.set_anchor hy4)
    clear_value fail2
    extract_lets +onlyGivenNames next6
    have h7 : ∀ y8, s₀.Kept y8 → s₀.Kept (next6 y8) := by
      intro y8 hy8
      unfold next6
      exact (State.Kept.set_anchor hy8)
    clear_value next6
    extract_lets +onlyGivenNames s9
    have h10 : s₀.Kept s9 := (h3 _ _ h)
    refine Res.Kept.ite (fun _ => Res.Kept.ite (fun _ => (done_kept h10)) (fun _ => (done_kept (h7 _ h10)))) (fun _ => ?_)
    · refine Res.Kept.ite (fun _ => ?_) (fun _ => ?_)
      · extract_lets +onlyGivenNames src11
        extract_lets +onlyGivenNames s12
        have h13 : s₀.Kept s12 := (State.Kept.set_anchor h10)
        extract_lets +onlyGivenNames l14
        exact Res.Kept.ite (fun _ => (done_kept (State.anchorFails_kept h13 _))) (fun _ => (done_kept (h7 _ h13)))
      · refine Res.Kept.ite (fun _ => ?_) (fun _ => ?_)
        · extract_lets +onlyGivenNames r15
          exact (done_kept (h7 _ (State.anchorMref_kept (h3 _ _ h10) _)))
        · refine Res.Kept.ite (fun _ => ?_) (fun _ => (done_kept (h7 _ h10)))
          · extract_lets +onlyGivenNames live16
            extract_lets +onlyGivenNames s17
            have h18 : s₀.Kept s17 := (State.Kept.foldl _ h10 fun _ _ h21 => (State.stageTile_kept h21 _ _ _))
            exact (done_kept (State.anchorStage_kept h18 _))

theorem execArchiveWriteDone_kept {s₀ s : State} (h : s₀.Kept s) : ∀ a0, Res.Kept s₀ (execArchiveWriteDone a0 s) := by
  intro a0
  delta execArchiveWriteDone
  refine Res.Kept.ite (fun _ => (done_kept h)) (fun _ => ?_)
  · extract_lets +onlyGivenNames n1
    extract_lets +onlyGivenNames s2
    have h3 : s₀.Kept s2 := (State.sealRecord_kept h _)
    clear_value s2
    extract_lets +onlyGivenNames k4
    extract_lets +onlyGivenNames a5
    extract_lets +onlyGivenNames s6
    have h7 : s₀.Kept s6 := (State.flashPut_kept (State.flashErase_kept h3 _ _) _ _)
    clear_value s6
    extract_lets +onlyGivenNames src8
    have h9 : s₀.Kept src8 := (State.setF_kept h7 _ _ _)
    clear_value src8
    extract_lets +onlyGivenNames s10
    have h11 : s₀.Kept s10 := by
      unfold s10
      exact State.Kept.ite (fun _ => (State.Kept.set_calDirty h9)) (fun _ => (State.setF_kept h _ _ _))
    clear_value s10
    extract_lets +onlyGivenNames s12
    have h13 : s₀.Kept s12 := (State.setF_kept (State.archEnd_kept h11 _) _ _ _)
    clear_value s12
    exact (done_kept (State.setF_kept (State.Kept.set_archNow_archNext h13) _ _ _))

theorem execCalAnchor_kept {s₀ s : State} (h : s₀.Kept s) : ∀ a0, Res.Kept s₀ (execCalAnchor a0 s) := by
  intro a0
  delta execCalAnchor
  split
  · exact (done_kept h)
  · split
    · exact (done_kept (State.endCmd_kept h _ _))
    · extract_lets +onlyGivenNames s1
      have h2 : s₀.Kept s1 := (State.setF_kept (State.modCmd_kept h _ _) _ _ _)
      clear_value s1
      exact (done_kept (State.Kept.set_anchor h2))

theorem execCalAnchorTimeout_kept {s₀ s : State} (h : s₀.Kept s) : Res.Kept s₀ (execCalAnchorTimeout s) := by
  delta execCalAnchorTimeout
  refine Res.Kept.ite (fun _ => (done_kept h)) (fun _ => ?_)
  · extract_lets +onlyGivenNames r1
    have h2 : s₀.Kept r1.2 := (State.draw_kept h _)
    clear_value r1
    extract_lets +onlyGivenNames st3
    exact (done_kept (State.anchorKill_kept h2 _))

theorem execCalArchive_kept {s₀ s : State} (h : s₀.Kept s) : ∀ a0, Res.Kept s₀ (execCalArchive a0 s) := by
  intro a0
  delta execCalArchive
  split
  · exact (done_kept h)
  · exact Res.Kept.ite (fun _ => (done_kept h)) (fun _ => (done_kept (State.archStart_kept (State.modCmd_kept h _ _) _)))

theorem execCalArchiveTimer_kept {s₀ s : State} (h : s₀.Kept s) : Res.Kept s₀ (execCalArchiveTimer s) := by
  delta execCalArchiveTimer
  exact Res.Kept.ite (fun _ => (done_kept (State.archStart_kept h _))) (fun _ => (done_kept h))

theorem execCalCommit_kept {s₀ s : State} (h : s₀.Kept s) : ∀ a0, Res.Kept s₀ (execCalCommit a0 s) := by
  intro a0
  delta execCalCommit
  split
  · exact (done_kept h)
  · refine Res.Kept.ite (fun _ => (done_kept h)) (fun _ => ?_)
    · refine Res.Kept.ite (fun _ => (done_kept (State.endCmd_kept h _ _))) (fun _ => ?_)
      · apply done_kept
        extract_lets +onlyGivenNames src1
        have h2 : s₀.Kept src1 := (State.modCmd_kept h _ _)
        clear_value src1
        exact (State.Kept.set_commitPend_commitCmds h2)

theorem execCalDiscard_kept {s₀ s : State} (h : s₀.Kept s) : ∀ a0, Res.Kept s₀ (execCalDiscard a0 s) := by
  intro a0
  delta execCalDiscard
  split
  · exact (done_kept h)
  · exact Res.Kept.ite (fun _ => (done_kept h)) (fun _ => (done_kept (State.endCmd_kept (State.unstage_kept h) _ _)))

theorem execCalRead_kept {s₀ s : State} (h : s₀.Kept s) : ∀ a0, Res.Kept s₀ (execCalRead a0 s) := by
  intro a0
  delta execCalRead
  split
  · exact (done_kept h)
  · extract_lets +onlyGivenNames r1
    have h2 : s₀.Kept r1.2 := (State.calOutput_kept h _ _ _)
    clear_value r1
    extract_lets +onlyGivenNames bs3
    extract_lets +onlyGivenNames o4
    have h5 : s₀.Kept o4.1 := (State.output_kept h2 _ _)
    clear_value o4
    extract_lets +onlyGivenNames s6
    have h7 : s₀.Kept s6 := h5
    clear_value s6
    extract_lets +onlyGivenNames cut8
    exact (done_kept (State.endCmd_kept h7 _ _))

theorem execCalRotateChannels_kept {s₀ s : State} (h : s₀.Kept s) : ∀ a0, Res.Kept s₀ (execCalRotateChannels a0 s) := by
  intro a0
  delta execCalRotateChannels
  split
  · exact (done_kept h)
  · refine Res.Kept.ite (fun _ => (done_kept h)) (fun _ => ?_)
    · refine Res.Kept.ite (fun _ => (done_kept (State.endCmd_kept h _ _))) (fun _ => ?_)
      · refine Res.Kept.ite (fun _ => (done_kept (State.endCmd_kept h _ _))) (fun _ => ?_)
        · extract_lets +onlyGivenNames free1
          extract_lets +onlyGivenNames yes2
          extract_lets +onlyGivenNames no3
          exact (done_kept (State.startCmd_kept (State.Kept.foldl _ h fun _ _ h6 => (State.owe_kept h6 _)) _ _ _))

theorem execCalRotatePass_kept {s₀ s : State} (h : s₀.Kept s) : ∀ a0, Res.Kept s₀ (execCalRotatePass a0 s) := by
  intro a0
  delta execCalRotatePass
  split
  · exact (done_kept h)
  · refine Res.Kept.ite (fun _ => (done_kept h)) (fun _ => ?_)
    · refine Res.Kept.ite (fun _ => (done_kept (State.endCmd_kept h _ _))) (fun _ => ?_)
      · extract_lets +onlyGivenNames ts1
        extract_lets +onlyGivenNames s2
        have h3 : s₀.Kept s2 := (State.Kept.foldl _ h fun _ _ h6 => (State.passStart_kept h6 _))
        clear_value s2
        exact (done_kept (State.Kept.foldl _ (State.startCmd_kept h3 _ _ _) fun _ _ h9 => (State.passCheck_kept h9 _)))

theorem execCalRotateRemap_kept {s₀ s : State} (h : s₀.Kept s) : ∀ a0, Res.Kept s₀ (execCalRotateRemap a0 s) := by
  intro a0
  delta execCalRotateRemap
  split
  · refine Res.Kept.ite (fun _ => (done_kept h)) (fun _ => ?_)
    · split
      · exact (done_kept (State.endCmd_kept h _ _))
      · extract_lets +onlyGivenNames nn1
        extract_lets +onlyGivenNames s2
        have h3 : s₀.Kept s2 := (State.setF_kept (State.setShade_kept (State.setRemap_kept h _ _ _) _ _) _ _ _)
        clear_value s2
        extract_lets +onlyGivenNames s4
        have h5 : s₀.Kept s4 := (State.unowe_kept (State.setF_kept (State.adcKill_kept h3 _) _ _ _) _)
        clear_value s4
        exact (done_kept (State.archStart_kept (State.modCmd_kept h5 _ _) _))
  · exact (done_kept h)

theorem execCalRotateRequalify_kept {s₀ s : State} (h : s₀.Kept s) : ∀ a0 a1, Res.Kept s₀ (execCalRotateRequalify a0 a1 s) := by
  intro a0 a1
  delta execCalRotateRequalify
  split
  · exact (done_kept h)
  · extract_lets +onlyGivenNames nn1
    refine Res.Kept.ite (fun _ => (done_kept h)) (fun _ => ?_)
    · refine Res.Kept.ite (fun _ => (done_kept (State.endCmd_kept h _ _))) (fun _ => ?_)
      · split
        · exact (done_kept (State.endCmd_kept (State.detect_kept h _ _ _ _) _ _))
        · extract_lets +onlyGivenNames s2
          have h3 : s₀.Kept s2 := (State.calPut_kept (State.putRow_kept h _ _ _) _ _ _)
          clear_value s2
          extract_lets +onlyGivenNames src4
          have h5 : s₀.Kept src4 := (State.setShade_kept h3 _ _)
          clear_value src4
          extract_lets +onlyGivenNames s6
          have h7 : s₀.Kept s6 := (State.Kept.set_calDirty_rotAt h5 (fun w => tabWf_tabSet (h3.wf w).rotAt _ _))
          clear_value s6
          exact (done_kept (State.endCmd_kept h7 _ _))

theorem execCalRotateUnmap_kept {s₀ s : State} (h : s₀.Kept s) : ∀ a0, Res.Kept s₀ (execCalRotateUnmap a0 s) := by
  intro a0
  delta execCalRotateUnmap
  split
  · extract_lets +onlyGivenNames nn1
    refine Res.Kept.ite (fun _ => (done_kept h)) (fun _ => ?_)
    · split
      · exact (done_kept (State.endCmd_kept h _ _))
      · extract_lets +onlyGivenNames s2
        have h3 : s₀.Kept s2 := (State.setF_kept (State.setF_kept (State.setShade_kept (State.setRemap_kept h _ _ _) _ _) _ _ _) _ _ _)
        clear_value s2
        exact (done_kept (State.archStart_kept (State.modCmd_kept (State.owe_kept h3 _) _ _) _))
  · exact (done_kept h)

theorem execCommitEdge_kept {s₀ s : State} (h : s₀.Kept s) : Res.Kept s₀ (execCommitEdge s) := by
  delta execCommitEdge
  refine Res.Kept.ite (fun _ => (done_kept h)) (fun _ => ?_)
  · extract_lets +onlyGivenNames anchor1
    extract_lets +onlyGivenNames cmds2
    extract_lets +onlyGivenNames src3
    have h4 : s₀.Kept src3 := by
      unfold src3
      exact State.Kept.ite (fun _ => (State.commitNow_kept h)) (fun _ => h)
    clear_value src3
    extract_lets +onlyGivenNames s5
    have h6 : s₀.Kept s5 := (State.Kept.set_commitPend_commitCmds h4)
    clear_value s5
    apply done_kept
    exact State.Kept.ite (fun _ => (State.archStart_kept h6 _)) (fun _ => (State.Kept.foldl _ h6 fun _ _ h9 => (State.endCmd_kept h9 _ _)))

theorem execHandoverStep_kept {s₀ s : State} (h : s₀.Kept s) : ∀ a0 a1, Res.Kept s₀ (execHandoverStep a0 a1 s) := by
  intro a0 a1
  delta execHandoverStep
  extract_lets +onlyGivenNames r1
  extract_lets +onlyGivenNames go2
  have h3 : ∀ y4 y5, s₀.Kept y5 → s₀.Kept (go2 y4 y5) := by
    intro y4 y5 hy5
    unfold go2
    exact (State.setRot_kept hy5 _ _)
  clear_value go2
  extract_lets +onlyGivenNames on6
  refine Res.Kept.ite (fun _ => (done_kept h)) (fun _ => ?_)
  · refine Res.Kept.ite (fun _ => Res.Kept.ite (fun _ => (done_kept (h3 _ _ h))) (fun _ => (done_kept (State.handback_kept (State.setRot_kept h _ _) _)))) (fun _ => ?_)
    · refine Res.Kept.ite (fun _ => Res.Kept.ite (fun _ => (done_kept h)) (fun _ => (done_kept (State.rotH1_kept (h3 _ _ h) _ _)))) (fun _ => ?_)
      · refine Res.Kept.ite (fun _ => ?_) (fun _ => Res.Kept.ite (fun _ => (done_kept (State.rotForce_kept (State.setRot_kept h _ _) _ _))) (fun _ => Res.Kept.ite (fun _ => (done_kept (h3 _ _ (State.setFs_kept h _ _)))) (fun _ => (done_kept (h3 _ _ h)))))
        · apply done_kept
          refine h3 _ _ ?_
          exact State.Kept.ite (fun _ => (State.setFs_kept h _ _)) (fun _ => h)

theorem execRotationAbandon_kept {s₀ s : State} (h : s₀.Kept s) : ∀ a0, Res.Kept s₀ (execRotationAbandon a0 s) := by
  intro a0
  delta execRotationAbandon
  extract_lets +onlyGivenNames r1
  exact Res.Kept.ite (fun _ => (done_kept h)) (fun _ => (done_kept (State.abandonRotation_kept (State.incSat_kept h _ _ _) _)))

theorem execRotationHandback_kept {s₀ s : State} (h : s₀.Kept s) : ∀ a0, Res.Kept s₀ (execRotationHandback a0 s) := by
  intro a0
  delta execRotationHandback
  extract_lets +onlyGivenNames r1
  exact Res.Kept.ite (fun _ => (done_kept h)) (fun _ => Res.Kept.ite (fun _ => (done_kept (State.handback_kept h _))) (fun _ => (done_kept (State.modAdc_kept h _ _))))

theorem execRotationPassStart_kept {s₀ s : State} (h : s₀.Kept s) : ∀ a0, Res.Kept s₀ (execRotationPassStart a0 s) := by
  intro a0
  delta execRotationPassStart
  exact Res.Kept.ite (fun _ => (done_kept (State.passStart_kept h _))) (fun _ => (done_kept h))

theorem execRotationStart_kept {s₀ s : State} (h : s₀.Kept s) : ∀ a0, Res.Kept s₀ (execRotationStart a0 s) := by
  intro a0
  delta execRotationStart
  exact Res.Kept.ite (fun _ => (done_kept h)) (fun _ => (done_kept (State.rotTake_kept h _)))

theorem execSelftest_kept {s₀ s : State} (h : s₀.Kept s) : ∀ a0, Res.Kept s₀ (execSelftest a0 s) := by
  intro a0
  delta execSelftest
  split
  · exact (done_kept h)
  · extract_lets +onlyGivenNames l1
    extract_lets +onlyGivenNames src2
    have h3 : s₀.Kept src2 := (State.modCmd_kept h _ _)
    clear_value src2
    extract_lets +onlyGivenNames s4
    have h5 : s₀.Kept s4 := (State.Kept.set_tests h3)
    clear_value s4
    exact (done_kept (State.testsOver_kept h5 _))

theorem execSelftestTestDone_kept {s₀ s : State} (h : s₀.Kept s) : ∀ a0 a1 a2, Res.Kept s₀ (execSelftestTestDone a0 a1 a2 s) := by
  intro a0 a1 a2
  delta execSelftestTestDone
  split
  · exact (done_kept h)
  · refine Res.Kept.ite (fun _ => (done_kept h)) (fun _ => ?_)
    · extract_lets +onlyGivenNames s1
      have h2 : s₀.Kept s1 := (State.Kept.set_tests h)
      clear_value s1
      apply done_kept
      refine State.testsOver_kept ?_ _
      exact State.Kept.ite (fun _ => h2) (fun _ => (State.testFails_kept h2 _ _))

theorem execTransferStep_kept {s₀ s : State} (h : s₀.Kept s) : ∀ a0 a1 a2 a3, Res.Kept s₀ (execTransferStep a0 a1 a2 a3 s) := by
  intro a0 a1 a2 a3
  delta execTransferStep
  extract_lets +onlyGivenNames b1
  extract_lets +onlyGivenNames n2
  extract_lets +onlyGivenNames next3
  have h4 : ∀ y5, s₀.Kept y5 → s₀.Kept (next3 y5) := by
    intro y5 hy5
    unfold next3
    exact (State.modTile_kept hy5 _ _)
  clear_value next3
  refine Res.Kept.ite (fun _ => (done_kept h)) (fun _ => ?_)
  · refine Res.Kept.ite (fun _ => Res.Kept.ite (fun _ => (done_kept h)) (fun _ => (done_kept (h4 _ h)))) (fun _ => ?_)
    · refine Res.Kept.ite (fun _ => (done_kept (h4 _ (State.xferStage_kept h _ _ _ _)))) (fun _ => ?_)
      · refine Res.Kept.ite (fun _ => (done_kept (h4 _ h))) (fun _ => ?_)
        · extract_lets +onlyGivenNames s6
          have h7 : s₀.Kept s6 := (State.modTile_kept (State.setFs_kept h _ _) _ _)
          clear_value s6
          exact Res.Kept.ite (fun _ => (done_kept (State.Kept.set_commitPend h7))) (fun _ => (done_kept h7))

end Sys2Proof.Machine
end

