-- ==== Sys2Proof/Laws/KeptLinks.lean ====
section
/-! SUPPORT. State.Kept through the operations of ports, microcode and fault timers. -/

namespace Sys2Proof.Machine

theorem State.adaptLane_kept {s₀ s : State} (h : s₀.Kept s) : ∀ a1 a2 a3, s₀.Kept (State.adaptLane s a1 a2 a3) := by
  intro a1 a2 a3
  delta State.adaptLane
  extract_lets +onlyGivenNames r1
  have h2 : s₀.Kept r1.2 := (State.draw_kept h _)
  clear_value r1
  extract_lets +onlyGivenNames s3
  have h4 : s₀.Kept s3 := (State.setF_kept h2 _ _ _)
  clear_value s3
  exact State.Kept.ite (fun _ => (State.setF_kept h4 _ _ _)) (fun _ => h4)

theorem State.awake_kept {s₀ s : State} (h : s₀.Kept s) : ∀ a1, s₀.Kept (State.awake s a1) :=
  fun _ => (State.setFs_kept h _ _)

theorem State.setMap_kept {s₀ s : State} (h : s₀.Kept s) : ∀ a1 a2 a3 a4, s₀.Kept (State.setMap s a1 a2 a3 a4) := by
  intro a1 a2 a3 a4
  delta State.setMap
  extract_lets +onlyGivenNames s1
  have h2 : s₀.Kept s1 := (State.Kept.foldl _ h fun _ a4 h5 => (State.setF_kept h5 _ _ _))
  clear_value s1
  extract_lets +onlyGivenNames s6
  have h7 : s₀.Kept s6 := (State.setF_kept h2 _ _ _)
  clear_value s6
  exact (State.Kept.foldl _ h7 fun _ _ h10 => (State.setF_kept h10 _ _ _))

theorem State.showUntrained_kept {s₀ s : State} (h : s₀.Kept s) : ∀ a1, s₀.Kept (State.showUntrained s a1) := by
  intro a1
  delta State.showUntrained
  extract_lets +onlyGivenNames s1
  have h2 : s₀.Kept s1 := (State.setFs_kept (State.awake_kept h _) _ _)
  clear_value s1
  extract_lets +onlyGivenNames s3
  have h4 : s₀.Kept s3 := (State.setMap_kept (State.setMap_kept h2 _ _ _ _) _ _ _ _)
  clear_value s3
  exact (State.Kept.foldl _ h4 fun _ _ h7 => (State.setFs_kept h7 _ _))

theorem State.setUp_kept {s₀ s : State} (h : s₀.Kept s) : ∀ a1 a2, s₀.Kept (State.setUp s a1 a2) := by
  intro a1 a2
  delta State.setUp
  refine State.Kept.ite (fun _ => h) (fun _ => ?_)
  · extract_lets +onlyGivenNames s1
    have h2 : s₀.Kept s1 := (State.setF_kept (State.setF_kept h _ _ _) _ _ _)
    clear_value s1
    exact State.Kept.ite (fun _ => h2) (fun _ => (State.modPort_kept (State.incSat_kept (State.setF_kept h2 _ _ _) _ _ _) _ _))

theorem State.toState_kept {s₀ s : State} (h : s₀.Kept s) : ∀ a1 a2, s₀.Kept (State.toState s a1 a2) :=
  fun _ _ => (State.modPort_kept (State.showUntrained_kept (State.setF_kept (State.setUp_kept h _ _) _ _ _) _) _ _)

theorem State.toDetect_kept {s₀ s : State} (h : s₀.Kept s) : ∀ a1 a2, s₀.Kept (State.toDetect s a1 a2) := by
  intro a1 a2
  delta State.toDetect
  extract_lets +onlyGivenNames s1
  have h2 : s₀.Kept s1 := (State.toState_kept h _ _)
  clear_value s1
  exact State.Kept.ite (fun _ => h2) (fun _ => (State.setF_kept h2 _ _ _))

theorem State.assignTx_kept {s₀ s : State} (h : s₀.Kept s) : ∀ a1, s₀.Kept (State.assignTx s a1) := by
  intro a1
  delta State.assignTx
  extract_lets +onlyGivenNames w1
  extract_lets +onlyGivenNames q2
  refine State.Kept.ite (fun _ => State.Kept.ite (fun _ => (State.toDetect_kept (State.setF_kept h _ _ _) _ _)) (fun _ => (State.toDetect_kept h _ _))) (fun _ => ?_)
  · extract_lets +onlyGivenNames l3
    extract_lets +onlyGivenNames sp4
    exact (State.modPort_kept (State.setMap_kept h _ _ _ _) _ _)

theorem State.bbAppend_kept {s₀ s : State} (h : s₀.Kept s) : ∀ a1, s₀.Kept (State.bbAppend s a1) := by
  intro a1
  delta State.bbAppend
  extract_lets +onlyGivenNames i1
  extract_lets +onlyGivenNames seq2
  extract_lets +onlyGivenNames s3
  have h4 : s₀.Kept s3 := by
    unfold s3
    exact State.Kept.ite (fun _ => (State.flashErase_kept h _ _)) (fun _ => h)
  clear_value s3
  exact (State.setF_kept (State.flashPut_kept h4 _ _) _ _ _)

theorem State.bbFlush_kept {s₀ s : State} (h : s₀.Kept s) : s₀.Kept (State.bbFlush s) := by
  delta State.bbFlush
  refine State.setF_kept ?_ _ _ _
  extract_lets +onlyGivenNames src1
  have h2 : s₀.Kept src1 := (State.Kept.foldl _ h fun _ _ h5 => (State.bbAppend_kept h5 _))
  clear_value src1
  exact (State.Kept.set_bbStage h2)

theorem State.spareOk_kept {s₀ s : State} (h : s₀.Kept s) : ∀ a1, s₀.Kept (State.spareOk s a1) :=
  fun _ => (State.setF_kept h _ _ _)

theorem State.degraded_kept {s₀ s : State} (h : s₀.Kept s) : ∀ a1 a2, s₀.Kept (State.degraded s a1 a2) :=
  fun _ _ => (State.detect_kept (State.setF_kept h _ _ _) _ _ _ _)

theorem State.laneSpared_kept {s₀ s : State} (h : s₀.Kept s) : ∀ a1 a2 a3, s₀.Kept (State.laneSpared s a1 a2 a3) :=
  fun _ _ _ => (State.detect_kept h _ _ _ _)

theorem State.toActive_kept {s₀ s : State} (h : s₀.Kept s) : ∀ a1 a2, s₀.Kept (State.toActive s a1 a2) := by
  intro a1 a2
  delta State.toActive
  extract_lets +onlyGivenNames q1
  extract_lets +onlyGivenNames old2
  extract_lets +onlyGivenNames s3
  have h4 : s₀.Kept s3 := (State.setFs_kept (State.awake_kept h _) _ _)
  clear_value s3
  extract_lets +onlyGivenNames took5
  extract_lets +onlyGivenNames s6
  have h7 : s₀.Kept s6 := (State.setF_kept (State.spareOk_kept h4 _) _ _ _)
  clear_value s6
  extract_lets +onlyGivenNames s8
  have h9 : s₀.Kept s8 := by
    unfold s8
    exact State.Kept.ite (fun _ => (State.modPort_kept h7 _ _)) (fun _ => (State.modPort_kept (State.incSat_kept (State.portDown_kept h7 _) _ _ _) _ _))
  clear_value s8
  extract_lets +onlyGivenNames s10
  have h11 : s₀.Kept s10 := (State.modPort_kept (State.setUp_kept h9 _ _) _ _)
  clear_value s10
  refine State.Kept.ite (fun _ => State.Kept.ite (fun _ => (State.degraded_kept h11 _ _)) (fun _ => h11)) (fun _ => ?_)
  · extract_lets +onlyGivenNames s12
    have h13 : s₀.Kept s12 := by
      unfold s12
      exact State.Kept.ite (fun _ => (State.Kept.foldl _ (State.Kept.foldl _ h11 fun _ _ h16 => (State.laneSpared_kept h16 _ _ _)) fun _ _ h19 => (State.laneSpared_kept h19 _ _ _))) (fun _ => h11)
    clear_value s12
    extract_lets +onlyGivenNames s20
    have h21 : s₀.Kept s20 := by
      unfold s20
      exact State.Kept.ite (fun _ => (State.degraded_kept h13 _ _)) (fun _ => h13)
    clear_value s20
    exact State.Kept.ite (fun _ => (State.degraded_kept h21 _ _)) (fun _ => h21)

theorem State.configExit_kept {s₀ s : State} (h : s₀.Kept s) : ∀ a1, s₀.Kept (State.configExit s a1) := by
  intro a1
  delta State.configExit
  extract_lets +onlyGivenNames q1
  refine State.Kept.ite (fun _ => h) (fun _ => ?_)
  · extract_lets +onlyGivenNames s2
    have h3 : s₀.Kept s2 := (State.setMap_kept h _ _ _ _)
    clear_value s2
    extract_lets +onlyGivenNames g4
    refine State.Kept.ite (fun _ => ?_) (fun _ => ?_)
    · extract_lets +onlyGivenNames s5
      have h6 : s₀.Kept s5 := (State.Kept.foldl _ h3 fun _ _ h9 => (State.setFs_kept h9 _ _))
      clear_value s5
      exact (State.modPort_kept (State.setF_kept h6 _ _ _) _ _)
    · refine State.Kept.ite (fun _ => (State.toDetect_kept (State.setF_kept h3 _ _ _) _ _)) (fun _ => ?_)
      · extract_lets +onlyGivenNames s10
        have h11 : s₀.Kept s10 := by
          unfold s10
          exact State.Kept.ite (fun _ => (State.modPort_kept h3 _ _)) (fun _ => h3)
        clear_value s10
        exact (State.toActive_kept h11 _ _)

theorem State.toHotReset_kept {s₀ s : State} (h : s₀.Kept s) : ∀ a1, s₀.Kept (State.toHotReset s a1) := by
  intro a1
  delta State.toHotReset
  extract_lets +onlyGivenNames s1
  have h2 : s₀.Kept s1 := (State.toState_kept h _ _)
  clear_value s1
  exact (State.setF_kept h2 _ _ _)

theorem State.lnkCtrl_kept {s₀ s : State} (h : s₀.Kept s) : ∀ a1 a2, s₀.Kept (State.lnkCtrl s a1 a2) := by
  intro a1 a2
  delta State.lnkCtrl
  extract_lets +onlyGivenNames b1
  extract_lets +onlyGivenNames wasDis2
  extract_lets +onlyGivenNames wasFar3
  extract_lets +onlyGivenNames dis4
  extract_lets +onlyGivenNames far5
  extract_lets +onlyGivenNames s6
  have h7 : s₀.Kept s6 := (State.setFs_kept h _ _)
  clear_value s6
  extract_lets +onlyGivenNames st8
  extract_lets +onlyGivenNames held9
  extract_lets +onlyGivenNames s10
  have h11 : s₀.Kept s10 := by
    unfold s10
    exact State.Kept.ite (fun _ => (State.setF_kept h7 _ _ _)) (fun _ => h7)
  clear_value s10
  extract_lets +onlyGivenNames disNow12
  extract_lets +onlyGivenNames s13
  have h14 : s₀.Kept s13 := by
    unfold s13
    exact State.Kept.ite (fun _ => (State.modPort_kept (State.setF_kept h11 _ _ _) _ _)) (fun _ => State.Kept.ite (fun _ => (State.toDetect_kept h11 _ _)) (fun _ => State.Kept.ite (fun _ => (State.toHotReset_kept h11 _)) (fun _ => State.Kept.ite (fun _ => State.Kept.ite (fun _ => (State.setF_kept h11 _ _ _)) (fun _ => (State.toDetect_kept h11 _ _))) (fun _ => h11))))
  clear_value s13
  extract_lets +onlyGivenNames above15
  refine State.Kept.ite (fun _ => h14) (fun _ => ?_)
  · refine State.Kept.ite (fun _ => State.Kept.ite (fun _ => (State.setF_kept h14 _ _ _)) (fun _ => (State.modPort_kept (State.setF_kept h14 _ _ _) _ _))) (fun _ => ?_)
    · extract_lets +onlyGivenNames s16
      have h17 : s₀.Kept s16 := (State.setF_kept h14 _ _ _)
      clear_value s16
      exact State.Kept.ite (fun _ => (State.toDetect_kept h17 _ _)) (fun _ => State.Kept.ite (fun _ => (State.modPort_kept h17 _ _)) (fun _ => h17))

theorem State.laneCfg_kept {s₀ s : State} (h : s₀.Kept s) : ∀ a1 a2 a3, s₀.Kept (State.laneCfg s a1 a2 a3) := by
  intro a1 a2 a3
  delta State.laneCfg
  extract_lets +onlyGivenNames b1
  extract_lets +onlyGivenNames chk2
  extract_lets +onlyGivenNames loop3
  extract_lets +onlyGivenNames s4
  have h5 : s₀.Kept s4 := (State.setFs_kept h _ _)
  clear_value s4
  extract_lets +onlyGivenNames s6
  have h7 : s₀.Kept s6 := by
    unfold s6
    exact State.Kept.ite (fun _ => (State.setFs_kept (State.setF_kept h5 _ _ _) _ _)) (fun _ => h5)
  clear_value s6
  extract_lets +onlyGivenNames s8
  have h9 : s₀.Kept s8 := (State.setF_kept h7 _ _ _)
  clear_value s8
  extract_lets +onlyGivenNames s10
  have h11 : s₀.Kept s10 := by
    unfold s10
    exact State.Kept.ite (fun _ => State.Kept.ite (fun _ => (State.setF_kept (State.toState_kept h7 _ _) _ _ _)) (fun _ => State.Kept.ite (fun _ => (State.setF_kept h7 _ _ _)) (fun _ => (State.setF_kept h7 _ _ _)))) (fun _ => State.Kept.ite (fun _ => State.Kept.ite (fun _ => (State.toDetect_kept h9 _ _)) (fun _ => h9)) (fun _ => h7))
  clear_value s10
  extract_lets +onlyGivenNames on12
  extract_lets +onlyGivenNames s13
  have h14 : s₀.Kept s13 := (State.setF_kept h11 _ _ _)
  clear_value s13
  refine State.Kept.ite (fun _ => ?_) (fun _ => h14)
  · refine State.Kept.ite (fun _ => (State.incSat_kept h14 _ _ _)) (fun _ => ?_)
    · extract_lets +onlyGivenNames r15
      have h16 : s₀.Kept r15.2 := (State.draw_kept h14 _)
      clear_value r15
      exact (State.incSat_kept h16 _ _ _)

theorem State.fltAck_kept {s₀ s : State} (h : s₀.Kept s) : ∀ a1, s₀.Kept (State.fltAck s a1) := by
  intro a1
  delta State.fltAck
  extract_lets +onlyGivenNames e1
  exact State.Kept.ite (fun _ => (State.setF_kept h _ _ _)) (fun _ => (State.acknowledge_kept h _ _ _))

theorem State.fltUnstick_kept {s₀ s : State} (h : s₀.Kept s) : ∀ a1, s₀.Kept (State.fltUnstick s a1) := by
  intro a1
  delta State.fltUnstick
  extract_lets +onlyGivenNames e1
  refine State.Kept.ite (fun _ => (State.setF_kept h _ _ _)) (fun _ => ?_)
  · extract_lets +onlyGivenNames hit2
    exact (State.Kept.foldl _ h fun _ _ h5 => (State.setInst_kept h5 _ _))

theorem State.fltSel_kept {s₀ s : State} (h : s₀.Kept s) : ∀ a1, s₀.Kept (State.fltSel s a1) := by
  intro a1
  delta State.fltSel
  extract_lets +onlyGivenNames e1
  extract_lets +onlyGivenNames k2
  extract_lets +onlyGivenNames valid3
  extract_lets +onlyGivenNames s4
  have h5 : s₀.Kept s4 := (State.wr_kept h _ _)
  clear_value s4
  extract_lets +onlyGivenNames src6
  extract_lets +onlyGivenNames s7
  have h8 : s₀.Kept s7 := by
    unfold s7
    exact State.Kept.ite (fun _ => (State.setInst_kept h5 _ _)) (fun _ => h5)
  clear_value s7
  exact (State.wr_kept h8 _ _)

theorem State.ctrlField_kept {s₀ s : State} (h : s₀.Kept s) : ∀ a1 a2 a3, s₀.Kept (State.ctrlField s a1 a2 a3) := by
  intro a1 a2 a3
  delta State.ctrlField
  exact State.Kept.ite (fun _ => (State.lnkCtrl_kept h _ _)) (fun _ => h)

theorem State.eqAsk_kept {s₀ s : State} (h : s₀.Kept s) : ∀ a1 a2 a3, s₀.Kept (State.eqAsk s a1 a2 a3) :=
  fun _ _ _ => (State.modPort_kept h _ _)

theorem State.toConfig_kept {s₀ s : State} (h : s₀.Kept s) : ∀ a1, s₀.Kept (State.toConfig s a1) :=
  fun _ => (State.modPort_kept (State.setF_kept h _ _ _) _ _)

theorem State.eqExit_kept {s₀ s : State} (h : s₀.Kept s) : ∀ a1, s₀.Kept (State.eqExit s a1) := by
  intro a1
  delta State.eqExit
  extract_lets +onlyGivenNames q1
  extract_lets +onlyGivenNames rx2
  extract_lets +onlyGivenNames tx3
  extract_lets +onlyGivenNames subset4
  exact State.Kept.ite (fun _ => (State.toConfig_kept (State.modPort_kept h _ _) _)) (fun _ => h)

theorem State.handle_kept {s₀ s : State} (h : s₀.Kept s) : ∀ a1 a2, s₀.Kept (State.handle s a1 a2) := by
  intro a1 a2
  delta State.handle
  extract_lets +onlyGivenNames l1
  extract_lets +onlyGivenNames g2
  refine State.Kept.ite (fun _ => ?_) (fun _ => ?_)
  · split
    · split
      · extract_lets +onlyGivenNames t3
        exact (State.ctxFin_kept (State.Kept.foldl _ h fun _ _ h6 => (State.modEng_kept h6 _ _)) _ _ _)
      · exact (State.finishRun_kept (State.modEng_kept h _ _) _ _)
    · exact h
  · refine State.Kept.ite (fun _ => ?_) (fun _ => h)
    · split
      · split
        · exact (State.setFs_kept h _ _)
        · exact h
      · exact h

theorem State.laneField_kept {s₀ s : State} (h : s₀.Kept s) : ∀ a1 a2 a3 a4, s₀.Kept (State.laneField s a1 a2 a3 a4) := by
  intro a1 a2 a3 a4
  delta State.laneField
  exact State.Kept.ite (fun _ => (State.laneCfg_kept h _ _ _)) (fun _ => h)

theorem State.mcheckRun_kept {s₀ s : State} (h : s₀.Kept s) : ∀ a1, s₀.Kept (State.mcheckRun s a1) := by
  intro a1
  delta State.mcheckRun
  extract_lets +onlyGivenNames l1
  extract_lets +onlyGivenNames st2
  split
  · exact h
  · extract_lets +onlyGivenNames t3
    extract_lets +onlyGivenNames s4
    have h5 : s₀.Kept s4 := (State.Kept.foldl _ h fun _ _ h8 => (State.modEng_kept h8 _ _))
    clear_value s4
    exact (State.ctxFin_kept h5 _ _ _)
  · extract_lets +onlyGivenNames s9
    have h10 : s₀.Kept s9 := (State.modEng_kept h _ _)
    clear_value s9
    exact (State.finishRun_kept h10 _ _)

theorem State.machineCheck_kept {s₀ s : State} (h : s₀.Kept s) : ∀ a1 a2 a3, s₀.Kept (State.machineCheck s a1 a2 a3) := by
  intro a1 a2 a3
  delta State.machineCheck
  refine State.Kept.ite (fun _ => h) (fun _ => ?_)
  · extract_lets +onlyGivenNames s1
    have h2 : s₀.Kept s1 := (State.modMic_kept h _ _)
    clear_value s1
    extract_lets +onlyGivenNames s3
    have h4 : s₀.Kept s3 := (State.incSat_kept (State.setF_kept h2 _ _ _) _ _ _)
    clear_value s3
    extract_lets +onlyGivenNames others5
    extract_lets +onlyGivenNames s6
    have h7 : s₀.Kept s6 := by
      unfold s6
      refine State.Kept.foldl _ h4 fun _ _ h16 => ?_
      exact State.Kept.ite (fun _ => (State.raiseTrap_kept h16 _ _)) (fun _ => h16)
    clear_value s6
    extract_lets +onlyGivenNames s17
    have h18 : s₀.Kept s17 := (State.setF_kept h7 _ _ _)
    clear_value s17
    extract_lets +onlyGivenNames s19
    have h20 : s₀.Kept s19 := (State.tripFe_kept h18 _ _)
    clear_value s19
    extract_lets +onlyGivenNames s21
    have h22 : s₀.Kept s21 := (State.mcheckRun_kept h20 _)
    clear_value s21
    extract_lets +onlyGivenNames s23
    have h24 : s₀.Kept s23 := by
      unfold s23
      exact State.Kept.ite (fun _ => (State.incSat_kept h22 _ _ _)) (fun _ => (State.setF_kept h22 _ _ _))
    clear_value s23
    exact (State.detect_kept h24 _ _ _ _)

theorem State.openLoop_kept {s₀ s : State} (h : s₀.Kept s) : ∀ a1 a2, s₀.Kept (State.openLoop s a1 a2) :=
  fun _ _ => (State.testsYield_kept (State.setFs_kept h _ _) _)

theorem State.partner_kept {s₀ s : State} (h : s₀.Kept s) : ∀ a1 a2, s₀.Kept (State.partner s a1 a2) :=
  fun _ _ => (State.setFs_kept h _ _)

theorem State.pollExit_kept {s₀ s : State} (h : s₀.Kept s) : ∀ a1, s₀.Kept (State.pollExit s a1) := by
  intro a1
  delta State.pollExit
  exact State.Kept.ite (fun _ => (State.toConfig_kept h _)) (fun _ => h)

theorem State.toRecovery_kept {s₀ s : State} (h : s₀.Kept s) : ∀ a1, s₀.Kept (State.toRecovery s a1) := by
  intro a1
  delta State.toRecovery
  refine State.Kept.ite (fun _ => h) (fun _ => ?_)
  · refine State.Kept.ite (fun _ => (State.toDetect_kept (State.modPort_kept h _ _) _ _)) (fun _ => ?_)
    · extract_lets +onlyGivenNames s1
      have h2 : s₀.Kept s1 := (State.incSat_kept (State.setF_kept (State.awake_kept h _) _ _ _) _ _ _)
      clear_value s1
      extract_lets +onlyGivenNames s3
      have h4 : s₀.Kept s3 := (State.Kept.foldl _ h2 fun _ _ h7 => (State.setFs_kept h7 _ _))
      clear_value s3
      exact (State.modPort_kept h4 _ _)

theorem State.replayAll_kept {s₀ s : State} (h : s₀.Kept s) : ∀ a1, s₀.Kept (State.replayAll s a1) := by
  intro a1
  delta State.replayAll
  split
  · exact h
  · extract_lets +onlyGivenNames s1
    have h2 : s₀.Kept s1 := (State.modPort_kept (State.incSat_kept h _ _ _) _ _)
    clear_value s1
    exact State.Kept.ite (fun _ => (State.toRecovery_kept (State.modPort_kept h2 _ _) _)) (fun _ => h2)

theorem State.setCoef_kept {s₀ s : State} (h : s₀.Kept s) : ∀ a1 a2 a3 a4 a5, s₀.Kept (State.setCoef s a1 a2 a3 a4 a5) :=
  fun _ _ _ _ _ => (State.setFs_kept h _ _)

theorem State.sparedRx_kept {s₀ s : State} (h : s₀.Kept s) : ∀ a1 a2, s₀.Kept (State.sparedRx s a1 a2) := by
  intro a1 a2
  delta State.sparedRx
  extract_lets +onlyGivenNames s1
  have h2 : s₀.Kept s1 := (State.spareOk_kept (State.setFs_kept h _ _) _)
  clear_value s1
  extract_lets +onlyGivenNames s3
  have h4 : s₀.Kept s3 := (State.setF_kept (State.setF_kept h2 _ _ _) _ _ _)
  clear_value s3
  exact (State.laneSpared_kept (State.modPort_kept (State.incSat_kept h4 _ _ _) _ _) _ _ _)

theorem State.toDisabled_kept {s₀ s : State} (h : s₀.Kept s) : ∀ a1 a2, s₀.Kept (State.toDisabled s a1 a2) :=
  fun _ _ => (State.modPort_kept (State.toState_kept h _ _) _ _)

theorem State.toPoll_kept {s₀ s : State} (h : s₀.Kept s) : ∀ a1, s₀.Kept (State.toPoll s a1) := by
  intro a1
  delta State.toPoll
  extract_lets +onlyGivenNames e1
  extract_lets +onlyGivenNames s2
  have h3 : s₀.Kept s2 := (State.modPort_kept (State.setF_kept h _ _ _) _ _)
  clear_value s2
  exact (State.Kept.foldl _ h3 fun _ _ h6 => (State.setCoef_kept h6 _ _ _ _ _))

theorem State.ts1Config_kept {s₀ s : State} (h : s₀.Kept s) : ∀ a1 a2 a3, s₀.Kept (State.ts1Config s a1 a2 a3) := by
  intro a1 a2 a3
  delta State.ts1Config
  extract_lets +onlyGivenNames s1
  have h2 : s₀.Kept s1 := (State.partner_kept h _ _)
  clear_value s1
  extract_lets +onlyGivenNames s3
  have h4 : s₀.Kept s3 := (State.modPort_kept h2 _ _)
  clear_value s3
  extract_lets +onlyGivenNames q5
  extract_lets +onlyGivenNames x6
  extract_lets +onlyGivenNames s7
  have h8 : s₀.Kept s7 := by
    unfold s7
    exact State.Kept.ite (fun _ => (State.modPort_kept h4 _ _)) (fun _ => h4)
  clear_value s7
  exact State.Kept.ite (fun _ => (State.assignTx_kept (State.modPort_kept h8 _ _) _)) (fun _ => h8)

theorem State.tsLane_kept {s₀ s : State} (h : s₀.Kept s) : ∀ a1 a2 a3, s₀.Kept (State.tsLane s a1 a2 a3) := by
  intro a1 a2 a3
  delta State.tsLane
  extract_lets +onlyGivenNames s1
  have h2 : s₀.Kept s1 := by
    unfold s1
    exact State.Kept.ite (fun _ => (State.adaptLane_kept h _ _ _)) (fun _ => h)
  clear_value s1
  extract_lets +onlyGivenNames s3
  have h4 : s₀.Kept s3 := (State.setFs_kept h2 _ _)
  clear_value s3
  refine State.Kept.ite (fun _ => ?_) (fun _ => (State.modPort_kept h4 _ _))
  · extract_lets +onlyGivenNames v5
    extract_lets +onlyGivenNames s6
    have h7 : s₀.Kept s6 := (State.setF_kept (State.setF_kept h4 _ _ _) _ _ _)
    clear_value s6
    exact (State.modPort_kept h7 _ _)

theorem State.tsPoll_kept {s₀ s : State} (h : s₀.Kept s) : ∀ a1 a2, s₀.Kept (State.tsPoll s a1 a2) :=
  fun _ _ => (State.pollExit_kept (State.modPort_kept h _ _) _)

theorem State.ackTake_kept {s₀ s : State} (h : s₀.Kept s) : ∀ a1 a2, s₀.Kept (State.ackTake s a1 a2) := fun _ _ => State.modPort_kept h _ _

theorem State.nakTake_kept {s₀ s : State} (h : s₀.Kept s) : ∀ a1 a2, s₀.Kept (State.nakTake s a1 a2) :=
  fun _ _ => State.replayAll_kept (State.ackTake_kept (State.incSat_kept h _ _ _) _ _) _

theorem State.creditTake_kept {s₀ s : State} (h : s₀.Kept s) : ∀ a1 a2 a3, s₀.Kept (State.creditTake s a1 a2 a3) :=
  fun _ _ _ => State.modPort_kept h _ _

theorem execAckReceive_kept {s₀ s : State} (h : s₀.Kept s) : ∀ a0 a1, Res.Kept s₀ (execAckReceive a0 a1 s) := by
  intro a0 a1
  delta execAckReceive
  exact Res.Kept.ite (fun _ => (done_kept (State.ackTake_kept h _ _))) (fun _ => (done_kept h))

theorem execAckTimer_kept {s₀ s : State} (h : s₀.Kept s) : ∀ a0, Res.Kept s₀ (execAckTimer a0 s) := by
  intro a0
  delta execAckTimer
  exact Res.Kept.ite (fun _ => (done_kept (State.modPort_kept h _ _))) (fun _ => (done_kept h))

theorem execBeacon_kept {s₀ s : State} (h : s₀.Kept s) : ∀ a0, Res.Kept s₀ (execBeacon a0 s) := by
  intro a0
  delta execBeacon
  exact Res.Kept.ite (fun _ => (done_kept (State.modPort_kept h _ _))) (fun _ => (done_kept h))

theorem execBeaconReceive_kept {s₀ s : State} (h : s₀.Kept s) : ∀ a0, Res.Kept s₀ (execBeaconReceive a0 s) := by
  intro a0
  delta execBeaconReceive
  exact Res.Kept.ite (fun _ => (done_kept (State.modPort_kept h _ _))) (fun _ => (done_kept h))

theorem execBeaconTimeout_kept {s₀ s : State} (h : s₀.Kept s) : ∀ a0, Res.Kept s₀ (execBeaconTimeout a0 s) := by
  intro a0
  delta execBeaconTimeout
  exact Res.Kept.ite (fun _ => (done_kept (State.toDetect_kept h _ _))) (fun _ => (done_kept h))

theorem execBlackboxWrite_kept {s₀ s : State} (h : s₀.Kept s) : ∀ a0, Res.Kept s₀ (execBlackboxWrite a0 s) := by
  intro a0
  delta execBlackboxWrite
  exact Res.Kept.ite (fun _ => (done_kept h)) (fun _ => Res.Kept.ite (fun _ => (done_kept (State.bbFlush_kept h))) (fun _ => (done_kept (State.setF_kept h _ _ _))))

theorem execBudgetWindowEnd_kept {s₀ s : State} (h : s₀.Kept s) : ∀ a0 a1 a2, Res.Kept s₀ (execBudgetWindowEnd a0 a1 a2 s) := by
  intro a0 a1 a2
  delta execBudgetWindowEnd
  extract_lets +onlyGivenNames k1
  exact (done_kept (State.setInst_kept h _ _))

theorem execClockLaneLoss_kept {s₀ s : State} (h : s₀.Kept s) : ∀ a0 a1, Res.Kept s₀ (execClockLaneLoss a0 a1 s) := by
  intro a0 a1
  delta execClockLaneLoss
  extract_lets +onlyGivenNames ls1
  exact Res.Kept.ite (fun _ => (done_kept h)) (fun _ => Res.Kept.ite (fun _ => (done_kept (State.modPort_kept (State.setF_kept h _ _ _) _ _))) (fun _ => (done_kept (State.toDetect_kept h _ _))))

theorem execCreditReceive_kept {s₀ s : State} (h : s₀.Kept s) : ∀ a0 a1 a2 a3 a4, Res.Kept s₀ (execCreditReceive a0 a1 a2 a3 a4 s) := by
  intro a0 a1 a2 a3 a4
  delta execCreditReceive
  exact Res.Kept.ite (fun _ => (done_kept (State.creditTake_kept h _ _ _))) (fun _ => (done_kept h))

theorem execCreditTimeout_kept {s₀ s : State} (h : s₀.Kept s) : ∀ a0, Res.Kept s₀ (execCreditTimeout a0 s) := by
  intro a0
  delta execCreditTimeout
  exact Res.Kept.ite (fun _ => (done_kept (State.toRecovery_kept h _))) (fun _ => (done_kept h))

theorem execCreditUpdate_kept {s₀ s : State} (h : s₀.Kept s) : ∀ a0, Res.Kept s₀ (execCreditUpdate a0 s) := by
  intro a0
  delta execCreditUpdate
  exact Res.Kept.ite (fun _ => (done_kept (State.modPort_kept h _ _))) (fun _ => (done_kept h))

theorem execCsParitySweep_kept {s₀ s : State} (h : s₀.Kept s) : ∀ a0 a1 a2, Res.Kept s₀ (execCsParitySweep a0 a1 a2 s) := by
  intro a0 a1 a2
  delta execCsParitySweep
  exact Res.Kept.ite (fun _ => (done_kept (State.machineCheck_kept h _ _ _))) (fun _ => (done_kept h))

theorem execDetectProbe_kept {s₀ s : State} (h : s₀.Kept s) : ∀ a0 a1, Res.Kept s₀ (execDetectProbe a0 a1 s) := by
  intro a0 a1
  delta execDetectProbe
  exact Res.Kept.ite (fun _ => (done_kept (State.toPoll_kept h _))) (fun _ => (done_kept h))

theorem execDisable_kept {s₀ s : State} (h : s₀.Kept s) : ∀ a0 a1, Res.Kept s₀ (execDisable a0 a1 s) :=
  fun _ _ => (done_kept (State.ctrlField_kept h _ _ _))

theorem execDisableReceived_kept {s₀ s : State} (h : s₀.Kept s) : ∀ a0, Res.Kept s₀ (execDisableReceived a0 s) := by
  intro a0
  delta execDisableReceived
  exact Res.Kept.ite (fun _ => (done_kept (State.toDisabled_kept h _ _))) (fun _ => (done_kept h))

theorem execDisabledClockActivity_kept {s₀ s : State} (h : s₀.Kept s) : ∀ a0, Res.Kept s₀ (execDisabledClockActivity a0 s) := by
  intro a0
  delta execDisabledClockActivity
  exact Res.Kept.ite (fun _ => (done_kept (State.toDetect_kept h _ _))) (fun _ => (done_kept h))

theorem execEqAdaptEnd_kept {s₀ s : State} (h : s₀.Kept s) : ∀ a0 a1, Res.Kept s₀ (execEqAdaptEnd a0 a1 s) := by
  intro a0 a1
  delta execEqAdaptEnd
  refine Res.Kept.ite (fun _ => (done_kept h)) (fun _ => ?_)
  · apply done_kept
    refine State.Kept.foldl _ h fun _ _ h9 => ?_
    extract_lets +onlyGivenNames e10
    exact (State.eqAsk_kept (State.setFs_kept h9 _ _) _ _ _)

theorem State.eqEnough_kept {s₀ s : State} (h : s₀.Kept s) : ∀ a1 a2, s₀.Kept (State.eqEnough s a1 a2) :=
  fun _ _ => (State.eqExit_kept (State.modPort_kept h _ _) _)

theorem execEqIterationEnd_kept {s₀ s : State} (h : s₀.Kept s) : ∀ a0 a1 a2 a3, Res.Kept s₀ (execEqIterationEnd a0 a1 a2 a3 s) := by
  intro a0 a1 a2 a3
  delta execEqIterationEnd
  extract_lets +onlyGivenNames x1
  refine Res.Kept.ite (fun _ => (done_kept h)) (fun _ => ?_)
  · extract_lets +onlyGivenNames n2
    extract_lets +onlyGivenNames s3
    have h4 : s₀.Kept s3 := (State.setFs_kept h _ _)
    clear_value s3
    split
    · exact Res.Kept.ite (fun _ => (done_kept (State.eqAsk_kept h4 _ _ _))) (fun _ => (done_kept (State.eqEnough_kept h4 _ _)))
    · exact (done_kept (State.eqEnough_kept h4 _ _))

theorem execEqMarginCheckEnd_kept {s₀ s : State} (h : s₀.Kept s) : ∀ a0 a1 a2 a3 a4, Res.Kept s₀ (execEqMarginCheckEnd a0 a1 a2 a3 a4 s) := by
  intro a0 a1 a2 a3 a4
  delta execEqMarginCheckEnd
  refine Res.Kept.ite (fun _ => (done_kept h)) (fun _ => ?_)
  · extract_lets +onlyGivenNames s1
    have h2 : s₀.Kept s1 := (State.setFs_kept h _ _)
    clear_value s1
    exact (done_kept (State.eqExit_kept (State.modPort_kept h2 _ _) _))

theorem execEqRequest_kept {s₀ s : State} (h : s₀.Kept s) : ∀ a0 a1 a2 a3 a4 a5, Res.Kept s₀ (execEqRequest a0 a1 a2 a3 a4 a5 s) := by
  intro a0 a1 a2 a3 a4 a5
  delta execEqRequest
  refine Res.Kept.ite (fun _ => (done_kept h)) (fun _ => ?_)
  · extract_lets +onlyGivenNames s1
    have h2 : s₀.Kept s1 := by
      unfold s1
      exact State.Kept.ite (fun _ => (State.modPort_kept h _ _)) (fun _ => h)
    clear_value s1
    extract_lets +onlyGivenNames a3
    extract_lets +onlyGivenNames b4
    extract_lets +onlyGivenNames c5
    extract_lets +onlyGivenNames ok6
    extract_lets +onlyGivenNames st7
    extract_lets +onlyGivenNames s8
    have h9 : s₀.Kept s8 := by
      unfold s8
      exact State.Kept.ite (fun _ => (State.setCoef_kept h2 _ _ _ _ _)) (fun _ => h2)
    clear_value s8
    extract_lets +onlyGivenNames s10
    have h11 : s₀.Kept s10 := by
      unfold s10
      exact State.Kept.ite (fun _ => (State.modPort_kept h9 _ _)) (fun _ => h2)
    clear_value s10
    exact (done_kept (State.eqExit_kept h11 _))

theorem execFarlb_kept {s₀ s : State} (h : s₀.Kept s) : ∀ a0 a1, Res.Kept s₀ (execFarlb a0 a1 s) :=
  fun _ _ => (done_kept (State.ctrlField_kept h _ _ _))

theorem execFltAck_kept {s₀ s : State} (h : s₀.Kept s) : ∀ a0, Res.Kept s₀ (execFltAck a0 s) := by
  intro a0
  delta execFltAck
  exact Res.Kept.ite (fun _ => (done_kept (State.fltAck_kept h _))) (fun _ => (done_kept h))

theorem execFltSel_kept {s₀ s : State} (h : s₀.Kept s) : ∀ a0, Res.Kept s₀ (execFltSel a0 s) := by
  intro a0
  delta execFltSel
  exact Res.Kept.ite (fun _ => (done_kept (State.fltSel_kept h _))) (fun _ => (done_kept h))

theorem execFltUnstick_kept {s₀ s : State} (h : s₀.Kept s) : ∀ a0, Res.Kept s₀ (execFltUnstick a0 s) := by
  intro a0
  delta execFltUnstick
  exact Res.Kept.ite (fun _ => (done_kept (State.fltUnstick_kept h _))) (fun _ => (done_kept h))

theorem execGraceExpire_kept {s₀ s : State} (h : s₀.Kept s) : ∀ a0 a1 a2, Res.Kept s₀ (execGraceExpire a0 a1 a2 s) := by
  intro a0 a1 a2
  delta execGraceExpire
  extract_lets +onlyGivenNames k1
  extract_lets +onlyGivenNames i2
  exact Res.Kept.ite (fun _ => (done_kept (State.enterLevel_kept h _ _ _ _ _))) (fun _ => (done_kept h))

theorem execHotResetReceived_kept {s₀ s : State} (h : s₀.Kept s) : ∀ a0, Res.Kept s₀ (execHotResetReceived a0 s) := by
  intro a0
  delta execHotResetReceived
  exact Res.Kept.ite (fun _ => (done_kept (State.toHotReset_kept h _))) (fun _ => (done_kept h))

theorem execHotresetEnd_kept {s₀ s : State} (h : s₀.Kept s) : ∀ a0, Res.Kept s₀ (execHotresetEnd a0 s) := by
  intro a0
  delta execHotresetEnd
  exact Res.Kept.ite (fun _ => (done_kept (State.toDetect_kept h _ _))) (fun _ => (done_kept h))

theorem execHotrst_kept {s₀ s : State} (h : s₀.Kept s) : ∀ a0, Res.Kept s₀ (execHotrst a0 s) :=
  fun _ => (done_kept (State.ctrlField_kept h _ _ _))

theorem execLaneDegradeWindow_kept {s₀ s : State} (h : s₀.Kept s) : ∀ a0 a1 a2, Res.Kept s₀ (execLaneDegradeWindow a0 a1 a2 s) := by
  intro a0 a1 a2
  delta execLaneDegradeWindow
  extract_lets +onlyGivenNames r1
  extract_lets +onlyGivenNames s2
  have h3 : s₀.Kept s2 := (State.modPort_kept (State.incSat_kept h _ _ _) _ _)
  clear_value s2
  refine Res.Kept.ite (fun _ => (done_kept h3)) (fun _ => ?_)
  · extract_lets +onlyGivenNames s4
    have h5 : s₀.Kept s4 := by
      unfold s4
      exact State.Kept.ite (fun _ => (State.adaptLane_kept h3 _ _ _)) (fun _ => h3)
    clear_value s4
    exact Res.Kept.ite (fun _ => (done_kept (State.degraded_kept h5 _ _))) (fun _ => (done_kept h5))

theorem execLaneFail_kept {s₀ s : State} (h : s₀.Kept s) : ∀ a0 a1, Res.Kept s₀ (execLaneFail a0 a1 s) := by
  intro a0 a1
  delta execLaneFail
  extract_lets +onlyGivenNames l0
  refine Res.Kept.ite (fun _ => (done_kept h)) (fun _ => ?_)
  · extract_lets +onlyGivenNames sp1
    refine Res.Kept.ite (fun _ => (done_kept (State.toRecovery_kept h _))) (fun _ => ?_)
    · extract_lets +onlyGivenNames k2
      exact (done_kept (State.modPort_kept (State.openLoop_kept h _ _) _ _))

theorem execLcsAckReceived_kept {s₀ s : State} (h : s₀.Kept s) : ∀ a0 a1, Res.Kept s₀ (execLcsAckReceived a0 a1 s) :=
  fun _ _ => (done_kept (State.modPort_kept h _ _))

theorem execLcsDoneReceived_kept {s₀ s : State} (h : s₀.Kept s) : ∀ a0 a1, Res.Kept s₀ (execLcsDoneReceived a0 a1 s) := by
  intro a0 a1
  delta execLcsDoneReceived
  split
  · refine Res.Kept.ite (fun _ => (done_kept h)) (fun _ => ?_)
    · extract_lets +onlyGivenNames old1
      extract_lets +onlyGivenNames sp2
      extract_lets +onlyGivenNames s3
      have h4 : s₀.Kept s3 := (State.spareOk_kept (State.setFs_kept h _ _) _)
      clear_value s3
      extract_lets +onlyGivenNames s5
      have h6 : s₀.Kept s5 := (State.setF_kept (State.setF_kept h4 _ _ _) _ _ _)
      clear_value s5
      exact (done_kept (State.modPort_kept (State.incSat_kept h6 _ _ _) _ _))
  · exact (done_kept h)

theorem execLcsSteerReceived_kept {s₀ s : State} (h : s₀.Kept s) : ∀ a0 a1, Res.Kept s₀ (execLcsSteerReceived a0 a1 s) := by
  intro a0 a1
  delta execLcsSteerReceived
  extract_lets +onlyGivenNames sp1
  exact Res.Kept.ite (fun _ => (done_kept h)) (fun _ => (done_kept (State.modPort_kept (State.openLoop_kept h _ _) _ _)))

theorem execLoopbackReceived_kept {s₀ s : State} (h : s₀.Kept s) : ∀ a0, Res.Kept s₀ (execLoopbackReceived a0 s) := by
  intro a0
  delta execLoopbackReceived
  exact Res.Kept.ite (fun _ => (done_kept h)) (fun _ => Res.Kept.ite (fun _ => (done_kept (State.toRecovery_kept (State.setFs_kept h _ _) _))) (fun _ => (done_kept (State.modPort_kept (State.toState_kept h _ _) _ _))))

theorem execLoopbackSlaveIdle_kept {s₀ s : State} (h : s₀.Kept s) : ∀ a0, Res.Kept s₀ (execLoopbackSlaveIdle a0 s) := by
  intro a0
  delta execLoopbackSlaveIdle
  exact Res.Kept.ite (fun _ => (done_kept (State.toDetect_kept h _ _))) (fun _ => (done_kept h))

theorem execMcInstallDone_kept {s₀ s : State} (h : s₀.Kept s) : ∀ a0 a1, Res.Kept s₀ (execMcInstallDone a0 a1 s) := by
  intro a0 a1
  delta execMcInstallDone
  refine Res.Kept.ite (fun _ => (done_kept h)) (fun _ => ?_)
  · extract_lets +onlyGivenNames a1
    extract_lets +onlyGivenNames len2
    extract_lets +onlyGivenNames g3
    extract_lets +onlyGivenNames f4
    extract_lets +onlyGivenNames s5
    have h6 : s₀.Kept s5 := (State.setF_kept (State.setF_kept h _ _ _) _ _ _)
    clear_value s5
    refine Res.Kept.ite (fun _ => (done_kept (State.setF_kept h6 _ _ _))) (fun _ => ?_)
    · refine Res.Kept.ite (fun _ => (done_kept (State.setF_kept h6 _ _ _))) (fun _ => ?_)
      · extract_lets +onlyGivenNames d7
        extract_lets +onlyGivenNames slot8
        extract_lets +onlyGivenNames s9
        have h10 : s₀.Kept s9 := (State.flashPut_kept (State.flashErase_kept h6 _ _) _ _)
        clear_value s9
        extract_lets +onlyGivenNames lens11
        extract_lets +onlyGivenNames s12
        have h13 : s₀.Kept s12 := (State.dirWrite_kept h10 _)
        clear_value s12
        extract_lets +onlyGivenNames s14
        have h15 : s₀.Kept s14 := by
          unfold s14
          exact State.Kept.ite (fun _ => State.Kept.set_svnRaised h13 (h13.svn.trans (Nat.le_max_left _ _))) (fun _ => h13)
        clear_value s14
        exact (done_kept (State.setF_kept h15 _ _ _))

theorem execMcReloadDone_kept {s₀ s : State} (h : s₀.Kept s) : ∀ a0 a1 a2 a3, Res.Kept s₀ (execMcReloadDone a0 a1 a2 a3 s) := by
  intro a0 a1 a2 a3
  delta execMcReloadDone
  refine Res.Kept.ite (fun _ => (done_kept h)) (fun _ => ?_)
  · refine Res.Kept.ite (fun _ => (done_kept (State.detect_kept (State.setFs_kept h _ _) _ _ _ _))) (fun _ => ?_)
    · extract_lets +onlyGivenNames halted1
      extract_lets +onlyGivenNames s2
      have h3 : s₀.Kept s2 := by
        unfold s2
        refine State.Kept.foldl _ h fun _ _ h12 => ?_
        extract_lets +onlyGivenNames s13
        have h14 : s₀.Kept s13 := (State.setF_kept h12 _ _ _)
        clear_value s13
        extract_lets +onlyGivenNames s15
        have h16 : s₀.Kept s15 := (State.modMic_kept h14 _ _)
        clear_value s15
        exact State.Kept.ite (fun _ => (State.detect_kept h16 _ _ _ _)) (fun _ => (State.condEnd_kept (State.setF_kept h16 _ _ _) _ _ _))
      clear_value s2
      extract_lets +onlyGivenNames s17
      have h18 : s₀.Kept s17 := by
        unfold s17
        exact State.Kept.ite (fun _ => (State.setF_kept h3 _ _ _)) (fun _ => h3)
      clear_value s17
      extract_lets +onlyGivenNames s19
      have h20 : s₀.Kept s19 := (State.setF_kept (State.incSat_kept h18 _ _ _) _ _ _)
      clear_value s19
      exact (done_kept (State.setFs_kept h20 _ _))

theorem execMicroTrap_kept {s₀ s : State} (h : s₀.Kept s) : ∀ a0 a1, Res.Kept s₀ (execMicroTrap a0 a1 s) := by
  intro a0 a1
  delta execMicroTrap
  extract_lets +onlyGivenNames m1
  extract_lets +onlyGivenNames p2
  split
  · exact (done_kept h)
  · extract_lets +onlyGivenNames limit3
    refine Res.Kept.ite (fun _ => (done_kept h)) (fun _ => ?_)
    · extract_lets +onlyGivenNames s4
      have h5 : s₀.Kept s4 := (State.modMic_kept h _ _)
      clear_value s4
      extract_lets +onlyGivenNames s6
      have h7 : s₀.Kept s6 := by
        unfold s6
        exact State.Kept.ite (fun _ => (State.setF_kept h5 _ _ _)) (fun _ => h5)
      clear_value s6
      extract_lets +onlyGivenNames s8
      have h9 : s₀.Kept s8 := (State.setF_kept h7 _ _ _)
      clear_value s8
      exact (done_kept (State.handle_kept h9 _ _))

theorem execMicroword_kept {s₀ s : State} (h : s₀.Kept s) : ∀ a0 a1 a2 a3 a4, Res.Kept s₀ (execMicroword a0 a1 a2 a3 a4 s) := by
  intro a0 a1 a2 a3 a4
  delta execMicroword
  refine Res.Kept.ite (fun _ => (done_kept h)) (fun _ => ?_)
  · extract_lets +onlyGivenNames m1
    extract_lets +onlyGivenNames r2
    extract_lets +onlyGivenNames w2
    extract_lets +onlyGivenNames nac3
    extract_lets +onlyGivenNames holds4
    refine Res.Kept.ite (fun _ => (done_kept (State.machineCheck_kept h _ _ _))) (fun _ => ?_)
    · split
      · exact (done_kept (State.machineCheck_kept h _ _ _))
      · refine Res.Kept.ite (fun _ => (done_kept (State.modMic_kept h _ _))) (fun _ => ?_)
        · extract_lets +onlyGivenNames s5
          have h6 : s₀.Kept s5 := (State.modMic_kept h _ _)
          clear_value s5
          apply done_kept
          exact State.Kept.ite (fun _ => (State.raiseTrap_kept h6 _ _)) (fun _ => h6)

theorem execNakReceive_kept {s₀ s : State} (h : s₀.Kept s) : ∀ a0 a1, Res.Kept s₀ (execNakReceive a0 a1 s) := by
  intro a0 a1
  delta execNakReceive
  exact Res.Kept.ite (fun _ => (done_kept (State.nakTake_kept h _ _))) (fun _ => (done_kept h))

theorem execNearlb_kept {s₀ s : State} (h : s₀.Kept s) : ∀ a0 a1 a2, Res.Kept s₀ (execNearlb a0 a1 a2 s) :=
  fun _ _ _ => (done_kept (State.laneField_kept h _ _ _ _))

theorem execNosleep_kept {s₀ s : State} (h : s₀.Kept s) : ∀ a0 a1, Res.Kept s₀ (execNosleep a0 a1 s) :=
  fun _ _ => (done_kept (State.ctrlField_kept h _ _ _))

theorem execPortDown_kept {s₀ s : State} (h : s₀.Kept s) : ∀ a0, Res.Kept s₀ (execPortDown a0 s) :=
  fun _ => (done_kept (State.portDown_kept h _))

theorem execPrbsInj_kept {s₀ s : State} (h : s₀.Kept s) : ∀ a0 a1, Res.Kept s₀ (execPrbsInj a0 a1 s) :=
  fun _ _ => (done_kept (State.laneField_kept h _ _ _ _))

theorem execQuietExpire_kept {s₀ s : State} (h : s₀.Kept s) : ∀ a0 a1 a2, Res.Kept s₀ (execQuietExpire a0 a1 a2 s) := by
  intro a0 a1 a2
  delta execQuietExpire
  extract_lets +onlyGivenNames k1
  extract_lets +onlyGivenNames i2
  refine Res.Kept.ite (fun _ => (done_kept h)) (fun _ => ?_)
  · refine Res.Kept.ite (fun _ => (done_kept (State.leaveInst_kept h _))) (fun _ => ?_)
    · refine Res.Kept.ite (fun _ => ?_) (fun _ => ?_)
      · extract_lets +onlyGivenNames s3
        have h4 : s₀.Kept s3 := (State.setInst_kept h _ _)
        clear_value s3
        exact (done_kept (State.bbRecord_kept h4 _ _ _ _))
      · extract_lets +onlyGivenNames s5
        have h6 : s₀.Kept s5 := (State.setInst_kept h _ _)
        clear_value s5
        exact (done_kept (State.leaveInst_kept h6 _))

theorem execReplayTimeout_kept {s₀ s : State} (h : s₀.Kept s) : ∀ a0, Res.Kept s₀ (execReplayTimeout a0 s) := by
  intro a0
  delta execReplayTimeout
  exact Res.Kept.ite (fun _ => (done_kept (State.replayAll_kept h _))) (fun _ => (done_kept h))

theorem execRetrain_kept {s₀ s : State} (h : s₀.Kept s) : ∀ a0, Res.Kept s₀ (execRetrain a0 s) :=
  fun _ => (done_kept (State.ctrlField_kept h _ _ _))

theorem execRxWake_kept {s₀ s : State} (h : s₀.Kept s) : ∀ a0, Res.Kept s₀ (execRxWake a0 s) := by
  intro a0
  delta execRxWake
  exact Res.Kept.ite (fun _ => (done_kept h)) (fun _ => (done_kept (State.modPort_kept (State.setF_kept h _ _ _) _ _)))

theorem execSkpSet_kept {s₀ s : State} (h : s₀.Kept s) : ∀ a0 a1 a2, Res.Kept s₀ (execSkpSet a0 a1 a2 s) := by
  intro a0 a1 a2
  delta execSkpSet
  refine Res.Kept.ite (fun _ => (done_kept h)) (fun _ => ?_)
  · refine Res.Kept.ite (fun _ => ?_) (fun _ => (done_kept (State.modPort_kept h _ _)))
    · split
      · exact Res.Kept.ite (fun _ => (done_kept h)) (fun _ => Res.Kept.ite (fun _ => (done_kept (State.modPort_kept h _ _))) (fun _ => Res.Kept.ite (fun _ => (done_kept (State.toRecovery_kept h _))) (fun _ => Res.Kept.ite (fun _ => (done_kept (State.modPort_kept h _ _))) (fun _ => (done_kept (State.sparedRx_kept h _ _))))))
      · exact (done_kept h)

theorem execSleepEntry_kept {s₀ s : State} (h : s₀.Kept s) : ∀ a0, Res.Kept s₀ (execSleepEntry a0 s) := by
  intro a0
  delta execSleepEntry
  extract_lets +onlyGivenNames b1
  extract_lets +onlyGivenNames dim2
  extract_lets +onlyGivenNames dark3
  extract_lets +onlyGivenNames ls4
  exact Res.Kept.ite (fun _ => (done_kept h)) (fun _ => Res.Kept.ite (fun _ => (done_kept (State.incSat_kept (State.setF_kept h _ _ _) _ _ _))) (fun _ => Res.Kept.ite (fun _ => (done_kept (State.modPort_kept (State.incSat_kept (State.setF_kept h _ _ _) _ _ _) _ _))) (fun _ => (done_kept h))))

theorem execSlpReceived_kept {s₀ s : State} (h : s₀.Kept s) : ∀ a0 a1, Res.Kept s₀ (execSlpReceived a0 a1 s) := by
  intro a0 a1
  delta execSlpReceived
  exact Res.Kept.ite (fun _ => (done_kept h)) (fun _ => (done_kept (State.modPort_kept (State.setF_kept h _ _ _) _ _)))

theorem execSpareFail_kept {s₀ s : State} (h : s₀.Kept s) : ∀ a0, Res.Kept s₀ (execSpareFail a0 s) := by
  intro a0
  delta execSpareFail
  extract_lets +onlyGivenNames p0
  extract_lets +onlyGivenNames sp1
  refine Res.Kept.ite (fun _ => (done_kept h)) (fun _ => ?_)
  · refine Res.Kept.ite (fun _ => (done_kept (State.toRecovery_kept h _))) (fun _ => ?_)
    · extract_lets +onlyGivenNames s2
      have h3 : s₀.Kept s2 := (State.setF_kept (State.openLoop_kept h _ _) _ _ _)
      clear_value s2
      exact (done_kept (State.degraded_kept (State.spareOk_kept (State.setF_kept h3 _ _ _) _) _ _))

theorem execSparingTimeout_kept {s₀ s : State} (h : s₀.Kept s) : ∀ a0, Res.Kept s₀ (execSparingTimeout a0 s) := by
  intro a0
  delta execSparingTimeout
  exact Res.Kept.ite (fun _ => (done_kept (State.toRecovery_kept h _))) (fun _ => (done_kept h))

theorem execSpeedRetuneDone_kept {s₀ s : State} (h : s₀.Kept s) : ∀ a0, Res.Kept s₀ (execSpeedRetuneDone a0 s) := by
  intro a0
  delta execSpeedRetuneDone
  refine Res.Kept.ite (fun _ => (done_kept h)) (fun _ => ?_)
  · extract_lets +onlyGivenNames e1
    extract_lets +onlyGivenNames g2
    extract_lets +onlyGivenNames s3
    have h4 : s₀.Kept s3 := (State.modPort_kept (State.setF_kept h _ _ _) _ _)
    clear_value s3
    extract_lets +onlyGivenNames s5
    have h6 : s₀.Kept s5 := (State.Kept.foldl _ h4 fun _ _ h9 => (State.setCoef_kept h9 _ _ _ _ _))
    clear_value s5
    exact (done_kept (State.Kept.foldl _ h6 fun _ _ h12 => (State.setF_kept h12 _ _ _)))

theorem execSymbolLockRegained_kept {s₀ s : State} (h : s₀.Kept s) : ∀ a0, Res.Kept s₀ (execSymbolLockRegained a0 s) := by
  intro a0
  delta execSymbolLockRegained
  refine Res.Kept.ite (fun _ => (done_kept h)) (fun _ => ?_)
  · extract_lets +onlyGivenNames s1
    have h2 : s₀.Kept s1 := (State.Kept.foldl _ h fun _ _ h5 => (State.setFs_kept h5 _ _))
    clear_value s1
    exact (done_kept (State.toConfig_kept h2 _))

theorem execTrainingTimeout_kept {s₀ s : State} (h : s₀.Kept s) : ∀ a0, Res.Kept s₀ (execTrainingTimeout a0 s) := by
  intro a0
  delta execTrainingTimeout
  extract_lets +onlyGivenNames st1
  exact Res.Kept.ite (fun _ => (done_kept (State.toDetect_kept h _ _))) (fun _ => Res.Kept.ite (fun _ => (done_kept (State.toDetect_kept (State.setF_kept h _ _ _) _ _))) (fun _ => Res.Kept.ite (fun _ => (done_kept (State.eqExit_kept (State.modPort_kept h _ _) _))) (fun _ => (done_kept h))))

theorem execTs1Receive_kept {s₀ s : State} (h : s₀.Kept s) : ∀ a0 a1 a2, Res.Kept s₀ (execTs1Receive a0 a1 a2 s) := by
  intro a0 a1 a2
  delta execTs1Receive
  refine Res.Kept.ite (fun _ => Res.Kept.ite (fun _ => (done_kept (State.toPoll_kept h _))) (fun _ => (done_kept h))) (fun _ => ?_)
  · refine Res.Kept.ite (fun _ => (done_kept (State.tsPoll_kept (State.tsLane_kept h _ _ _) _ _))) (fun _ => ?_)
    · refine Res.Kept.ite (fun _ => ?_) (fun _ => ?_)
      · extract_lets +onlyGivenNames s1
        have h2 : s₀.Kept s1 := (State.tsLane_kept h _ _ _)
        clear_value s1
        apply done_kept
        exact State.Kept.ite (fun _ => h2) (fun _ => (State.ts1Config_kept h2 _ _ _))
      · refine Res.Kept.ite (fun _ => (done_kept (State.modPort_kept h _ _))) (fun _ => ?_)
        · refine Res.Kept.ite (fun _ => ?_) (fun _ => (done_kept h))
          · extract_lets +onlyGivenNames s3
            have h4 : s₀.Kept s3 := (State.modPort_kept h _ _)
            clear_value s3
            apply done_kept
            exact State.Kept.ite (fun _ => (State.toRecovery_kept h4 _)) (fun _ => h4)

theorem execTs2Receive_kept {s₀ s : State} (h : s₀.Kept s) : ∀ a0 a1 a2, Res.Kept s₀ (execTs2Receive a0 a1 a2 s) := by
  intro a0 a1 a2
  delta execTs2Receive
  refine Res.Kept.ite (fun _ => (done_kept (State.tsPoll_kept (State.tsLane_kept h _ _ _) _ _))) (fun _ => ?_)
  · refine Res.Kept.ite (fun _ => ?_) (fun _ => (done_kept h))
    · extract_lets +onlyGivenNames s1
      have h2 : s₀.Kept s1 := (State.tsLane_kept h _ _ _)
      clear_value s1
      refine Res.Kept.ite (fun _ => (done_kept h2)) (fun _ => ?_)
      · extract_lets +onlyGivenNames s3
        have h4 : s₀.Kept s3 := (State.modPort_kept (State.partner_kept h2 _ _) _ _)
        clear_value s3
        exact (done_kept (State.configExit_kept h4 _))

theorem execTsSendCount_kept {s₀ s : State} (h : s₀.Kept s) : ∀ a0, Res.Kept s₀ (execTsSendCount a0 s) := by
  intro a0
  delta execTsSendCount
  extract_lets +onlyGivenNames q1
  refine Res.Kept.ite (fun _ => ?_) (fun _ => Res.Kept.ite (fun _ => Res.Kept.ite (fun _ => (done_kept (State.toState_kept h _ _))) (fun _ => (done_kept (State.modPort_kept h _ _)))) (fun _ => Res.Kept.ite (fun _ => (done_kept (State.pollExit_kept (State.modPort_kept h _ _) _))) (fun _ => Res.Kept.ite (fun _ => (done_kept (State.configExit_kept (State.modPort_kept h _ _) _))) (fun _ => (done_kept h)))))
  · extract_lets +onlyGivenNames s2
    have h3 : s₀.Kept s2 := (State.toDisabled_kept h _ _)
    clear_value s2
    apply done_kept
    exact State.Kept.ite (fun _ => h3) (fun _ => (State.toDetect_kept h3 _ _))

theorem execTxWake_kept {s₀ s : State} (h : s₀.Kept s) : ∀ a0, Res.Kept s₀ (execTxWake a0 s) := by
  intro a0
  delta execTxWake
  exact Res.Kept.ite (fun _ => (done_kept h)) (fun _ => (done_kept (State.modPort_kept (State.setF_kept h _ _ _) _ _)))

theorem execWakeLockTimeout_kept {s₀ s : State} (h : s₀.Kept s) : ∀ a0, Res.Kept s₀ (execWakeLockTimeout a0 s) := by
  intro a0
  delta execWakeLockTimeout
  exact Res.Kept.ite (fun _ => (done_kept (State.toRecovery_kept h _))) (fun _ => (done_kept h))

end Sys2Proof.Machine
end

