-- ==== Sys2Proof/Laws/KeptReset.lean ====
section
/-! SUPPORT. State.Kept through the operations of reset, boot, SERVICE and the test port. -/

namespace Sys2Proof.Machine

theorem State.bootDone_kept {s₀ s : State} (h : s₀.Kept s) : s₀.Kept (State.bootDone s) := by
  delta State.bootDone
  extract_lets +onlyGivenNames s1
  have h2 : s₀.Kept s1 := (State.setMode_kept (State.setF_kept h _ _ _) _)
  clear_value s1
  extract_lets +onlyGivenNames s3
  have h4 : s₀.Kept s3 := (State.Kept.foldl _ h2 fun _ _ h7 => (State.detect_kept h7 _ _ _ _))
  clear_value s3
  split
  · exact (State.enterSafe_kept h4 _)
  · exact h4

theorem State.bootHalt_kept {s₀ s : State} (h : s₀.Kept s) : ∀ a1, s₀.Kept (State.bootHalt s a1) :=
  fun _ => (State.setFs_kept h _ _)

theorem State.calShow_kept {s₀ s : State} (h : s₀.Kept s) : ∀ a1, s₀.Kept (State.calShow s a1) := by
  intro a1
  delta State.calShow
  extract_lets +onlyGivenNames s1
  have h2 : s₀.Kept s1 := (State.setFs_kept h _ _)
  clear_value s1
  extract_lets +onlyGivenNames s3
  have h4 : s₀.Kept s3 := (State.setF_kept (State.Kept.set_calBack h2) _ _ _)
  clear_value s3
  extract_lets +onlyGivenNames s5
  have h6 : s₀.Kept s5 := (State.Kept.foldl _ h4 fun _ _ h9 => (State.setFs_kept h9 _ _))
  clear_value s5
  extract_lets +onlyGivenNames s10
  have h11 : s₀.Kept s10 := by
    unfold s10
    refine State.Kept.foldl _ h6 fun _ _ h20 => ?_
    extract_lets +onlyGivenNames s21
    have h22 : s₀.Kept s21 := (State.modTile_kept (State.setF_kept h20 _ _ _) _ _)
    clear_value s21
    exact (State.Kept.foldl _ h22 fun _ _ h25 => (State.setShade_kept h25 _ _))
  clear_value s10
  refine State.Kept.foldl _ h11 fun _ _ h31 => ?_
  extract_lets +onlyGivenNames e32
  refine State.Kept.ite (fun _ => ?_) (fun _ => h31)
  · extract_lets +onlyGivenNames c33
    exact (State.setF_kept (State.setF_kept (State.setFs_kept h31 _ _) _ _ _) _ _ _)

theorem State.factoryCal_kept {s₀ s : State} (h : s₀.Kept s) : s₀.Kept (State.factoryCal s) := by
  delta State.factoryCal
  extract_lets +onlyGivenNames s1
  have h2 : s₀.Kept s1 := (State.sramClear_kept h _)
  clear_value s1
  exact (State.Kept.foldl _ h2 fun _ _ h5 => (State.Kept.set_sram h5 (fun w => tabWf_memWrite (h5.wf w).sram _ _)))

theorem State.calRestore_kept {s₀ s : State} (h : s₀.Kept s) : ∀ a1, s₀.Kept (State.calRestore s a1) := by
  intro a1
  delta State.calRestore
  extract_lets +onlyGivenNames s1
  have h2 : s₀.Kept s1 := (State.sramClear_kept h _)
  clear_value s1
  refine State.Kept.ite (fun _ => (State.calShow_kept h2 _)) (fun _ => ?_)
  · split
    · extract_lets +onlyGivenNames s3
      have h4 : s₀.Kept s3 := (State.sramClear_kept h2 _)
      clear_value s3
      exact (State.calShow_kept (State.Kept.set_sram h4 (fun w => tabWf_memWrite (h4.wf w).sram _ _)) _)
    · exact (State.calShow_kept (State.factoryCal_kept h2) _)

theorem State.clocksStop_kept {s₀ s : State} (h : s₀.Kept s) : ∀ a1, s₀.Kept (State.clocksStop s a1) := by
  intro a1
  delta State.clocksStop
  extract_lets +onlyGivenNames s1
  have h2 : s₀.Kept s1 := (State.setFs_kept h _ _)
  clear_value s1
  extract_lets +onlyGivenNames s3
  have h4 : s₀.Kept s3 := (State.Kept.foldl _ h2 fun _ _ h7 => (State.abortBusy_kept (State.quietFe_kept h7 _) _ _ _))
  clear_value s3
  extract_lets +onlyGivenNames s8
  have h9 : s₀.Kept s8 := (State.detect_kept h4 _ _ _ _)
  clear_value s8
  extract_lets +onlyGivenNames s10
  have h11 : s₀.Kept s10 := (State.Kept.foldl _ h9 fun _ _ h14 => (State.xferKill_kept h14 _))
  clear_value s10
  extract_lets +onlyGivenNames s15
  have h16 : s₀.Kept s15 := (State.Kept.foldl _ h11 fun _ _ h19 => (State.showLocks_kept (State.modTdc_kept h19 _ _) _))
  clear_value s15
  exact (State.Kept.foldl _ h16 fun _ _ h22 => (State.toDetect_kept h22 _ _))

theorem State.coldReset_kept {s₀ s : State} (h : s₀.Kept s) : s₀.Kept (State.coldReset s) where
  wf w := { regs := tabWf_nil, sram := tabWf_nil, flash := (h.wf w).flash, host := (h.wf w).host, fes := tabWf_nil, cmps := tabWf_nil,
            insts := tabWf_nil, adcs := tabWf_nil, engs := tabWf_nil, ctxs := tabWf_nil, flGroups := tabWf_nil, tdcs := tabWf_nil,
            trigs := tabWf_nil, rots := tabWf_nil, tiles := tabWf_nil, timing := tabWf_nil, timingNew := tabWf_nil, mics := tabWf_nil,
            ports := tabWf_nil, srcs := tabWf_nil, vecs := tabWf_nil, lastCls := tabWf_nil, pairs := tabWf_nil, charges := tabWf_nil,
            cs := tabWf_nil, good := tabWf_nil, latched := tabWf_nil, pulses := tabWf_nil, jobs := tabWf_nil, rotAt := tabWf_nil, rails := (h.wf w).rails }
  pending := h.pending
  uptime := h.uptime
  tb _ := by show 0 < 2 ^ 56; decide
  free := h.free
  svn := h.svn

theorem State.glbCtrl_kept {s₀ s : State} (h : s₀.Kept s) : ∀ a1 a2 a3, s₀.Kept (State.glbCtrl s a1 a2 a3) := by
  intro a1 a2 a3
  delta State.glbCtrl
  extract_lets +onlyGivenNames s1
  have h2 : s₀.Kept s1 := by
    unfold s1
    exact State.Kept.ite (fun _ => h) (fun _ => State.Kept.ite (fun _ => (State.setF_kept h _ _ _)) (fun _ => State.Kept.ite (fun _ => (State.Kept.set_svcEntry h)) (fun _ => (State.setMode_kept h _))))
  clear_value s1
  exact State.Kept.ite (fun _ => State.Kept.ite (fun _ => (State.Kept.set_svcExit h2)) (fun _ => (State.setMode_kept h2 _))) (fun _ => h2)

theorem State.moduleReset_kept {s₀ s : State} (h : s₀.Kept s) : ∀ a1, s₀.Kept (State.moduleReset s a1) := by
  intro a1
  delta State.moduleReset
  refine State.Kept.ite (fun _ => h) (fun _ => ?_)
  · refine State.Kept.ite (fun _ => State.Kept.ite (fun _ => (State.setF_kept h _ _ _)) (fun _ => h)) (fun _ => ?_)
    · extract_lets +onlyGivenNames n1
      extract_lets +onlyGivenNames w2
      extract_lets +onlyGivenNames src3
      have h4 : s₀.Kept src3 := (State.coldReset_kept h)
      clear_value src3
      extract_lets +onlyGivenNames s5
      have h6 : s₀.Kept s5 := (State.Kept.set_sram_bbStage h4 (fun w => tabWf_tabKeep (h.wf w).sram _))
      clear_value s5
      extract_lets +onlyGivenNames s7
      have h8 : s₀.Kept s7 := (State.wr_kept (State.wr_kept h6 _ _) _ _)
      clear_value s7
      exact (State.setF_kept h8 _ _ _)

theorem State.tileReset_kept {s₀ s : State} (h : s₀.Kept s) : ∀ a1, s₀.Kept (State.tileReset s a1) := by
  intro a1
  delta State.tileReset
  extract_lets +onlyGivenNames b1
  refine State.Kept.ite (fun _ => h) (fun _ => ?_)
  · extract_lets +onlyGivenNames work2
    extract_lets +onlyGivenNames s3
    have h4 : s₀.Kept s3 := (State.stopCmds_kept h _ _)
    clear_value s3
    extract_lets +onlyGivenNames s5
    have h6 : s₀.Kept s5 := (State.cutTests_kept h4 _)
    clear_value s5
    extract_lets +onlyGivenNames r7
    have h8 : s₀.Kept r7.2 := (State.draw_kept h6 _)
    clear_value r7
    extract_lets +onlyGivenNames s9
    have h10 : s₀.Kept s9 := by
      unfold s9
      exact State.Kept.ite (fun _ => (State.anchorKill_kept h8 _)) (fun _ => h6)
    clear_value s9
    extract_lets +onlyGivenNames s11
    have h12 : s₀.Kept s11 := (State.stopTile_kept h10 _ _)
    clear_value s11
    extract_lets +onlyGivenNames s13
    have h14 : s₀.Kept s13 := (State.rqClear_kept (State.trigKill_kept h12 _ _ _) _)
    clear_value s13
    extract_lets +onlyGivenNames us15
    extract_lets +onlyGivenNames s16
    have h17 : s₀.Kept s16 := by
      unfold s16
      refine State.Kept.foldl _ h14 fun _ _ h26 => ?_
      extract_lets +onlyGivenNames keep27
      extract_lets +onlyGivenNames s28
      have h29 : s₀.Kept s28 := (State.modFe_kept (State.setF_kept (State.resetBlock_kept h26 _ _ _) _ _ _) _ _)
      clear_value s28
      extract_lets +onlyGivenNames s30
      have h31 : s₀.Kept s30 := (State.resetBlock_kept (State.cmpOff_kept (State.cmpOff_kept h29 _ _) _ _) _ _ _)
      clear_value s30
      exact (State.showLocks_kept (State.modTdc_kept h31 _ _) _)
    clear_value s16
    extract_lets +onlyGivenNames s32
    have h33 : s₀.Kept s32 := (State.resetRegs_kept h17 _)
    clear_value s32
    extract_lets +onlyGivenNames s34
    have h35 : s₀.Kept s34 := (State.sramClear_kept h33 _)
    clear_value s34
    extract_lets +onlyGivenNames s36
    have h37 : s₀.Kept s36 := (State.modTrig_kept (State.flClear_kept (State.modTile_kept h35 _ _) _) _ _)
    clear_value s36
    extract_lets +onlyGivenNames s38
    have h39 : s₀.Kept s38 := (State.setFs_kept h37 _ _)
    clear_value s38
    extract_lets +onlyGivenNames s40
    have h41 : s₀.Kept s40 := (State.setTileQ_kept (State.setF_kept h39 _ _ _) _ _)
    clear_value s40
    exact (State.Kept.foldl _ h41 fun _ _ h44 => (State.releaseInst_kept h44 _))

theorem State.glbReset_kept {s₀ s : State} (h : s₀.Kept s) : ∀ a1 a2, s₀.Kept (State.glbReset s a1 a2) := by
  intro a1 a2
  delta State.glbReset
  extract_lets +onlyGivenNames asks1
  extract_lets +onlyGivenNames clr2
  refine State.Kept.ite (fun _ => h) (fun _ => ?_)
  · refine State.Kept.ite (fun _ => State.Kept.ite (fun _ => (State.setF_kept h _ _ _)) (fun _ => State.Kept.ite (fun _ => (State.setF_kept h _ _ _)) (fun _ => h))) (fun _ => ?_)
    · extract_lets +onlyGivenNames s3
      have h4 : s₀.Kept s3 := by
        unfold s3
        exact State.Kept.ite (fun _ => (State.setF_kept h _ _ _)) (fun _ => h)
      clear_value s3
      refine State.Kept.ite (fun _ => (State.moduleReset_kept h4 _)) (fun _ => ?_)
      · extract_lets +onlyGivenNames ts5
        extract_lets +onlyGivenNames s6
        have h7 : s₀.Kept s6 := (State.trigStop_kept h4 _ _)
        clear_value s6
        exact (State.Kept.foldl _ (State.domsRelease_kept h7) fun _ _ h10 => (State.tileReset_kept h10 _))

theorem State.spaCmd_kept {s₀ s : State} (h : s₀.Kept s) : ∀ a1, s₀.Kept (State.spaCmd s a1) := by
  intro a1
  delta State.spaCmd
  extract_lets +onlyGivenNames s1
  have h2 : s₀.Kept s1 := (State.setFs_kept h _ _)
  clear_value s1
  refine State.Kept.ite (fun _ => h2) (fun _ => ?_)
  · refine State.Kept.ite (fun _ => (State.setF_kept h2 _ _ _)) (fun _ => ?_)
    · extract_lets +onlyGivenNames n3
      extract_lets +onlyGivenNames buf4
      extract_lets +onlyGivenNames o5
      split
      · exact (State.setF_kept h2 _ _ _)
      · extract_lets +onlyGivenNames src6
        have h7 : s₀.Kept src6 := (State.setF_kept h2 _ _ _)
        clear_value src6
        exact (State.Kept.set_spa h7)

theorem State.discover_kept {s₀ s : State} (h : s₀.Kept s) : ∀ a1, s₀.Kept (State.discover s a1) := by
  intro a1
  delta State.discover
  extract_lets +onlyGivenNames mode1
  extract_lets +onlyGivenNames div2
  extract_lets +onlyGivenNames src3
  have h4 : s₀.Kept src3 := (State.setFs_kept h _ _)
  clear_value src3
  exact (State.Kept.set_spaMode h4)

theorem State.drawBytes_kept {s₀ s : State} (h : s₀.Kept s) : ∀ n, s₀.Kept (State.drawBytes s n).2 := by
  intro n
  induction n generalizing s with
  | zero => exact h
  | succ n ih => exact ih (State.draw_kept h 8)

theorem State.jtag_kept {s₀ s : State} (h : s₀.Kept s) : ∀ a1, s₀.Kept (State.jtag s a1) := by
  intro a1
  delta State.jtag
  refine State.Kept.ite (fun _ => h) (fun _ => ?_)
  · extract_lets +onlyGivenNames s1
    have h2 : s₀.Kept s1 := (State.Kept.set_tapIr h)
    clear_value s1
    exact State.Kept.ite (fun _ => (State.moduleReset_kept h2 _)) (fun _ => h2)

theorem State.loadFw_kept {s₀ s : State} (h : s₀.Kept s) : ∀ a1 a2 a3 a4, s₀.Kept (State.loadFw s a1 a2 a3 a4) := by
  intro a1 a2 a3 a4
  delta State.loadFw
  refine State.Kept.ite (fun _ => (State.bootHalt_kept h _)) (fun _ => ?_)
  · extract_lets +onlyGivenNames f1
    exact State.Kept.ite (fun _ => (State.applyFw_kept h _)) (fun _ => State.Kept.ite (fun _ => (State.detect_kept (State.bootHalt_kept h _) _ _ _ _)) (fun _ => (State.detect_kept (State.bootHalt_kept h _) _ _ _ _)))

theorem State.loadMicro_kept {s₀ s : State} (h : s₀.Kept s) : ∀ a1 a2 a3, s₀.Kept (State.loadMicro s a1 a2 a3) := by
  intro a1 a2 a3
  delta State.loadMicro
  extract_lets +onlyGivenNames d1
  extract_lets +onlyGivenNames f2
  refine State.Kept.ite (fun _ => (State.detect_kept (State.setFs_kept h _ _) _ _ _ _)) (fun _ => ?_)
  · extract_lets +onlyGivenNames b3
    extract_lets +onlyGivenNames s4
    have h5 : s₀.Kept s4 := by
      unfold s4
      exact State.Kept.set_cs h (fun _ => tabWf_applyWords tabWf_nil _)
    extract_lets +onlyGivenNames s6
    have h7 : s₀.Kept s6 := (State.setFs_kept h5 _ _)
    extract_lets +onlyGivenNames i8
    extract_lets +onlyGivenNames f9
    extract_lets +onlyGivenNames s10
    have h11 : s₀.Kept s10 := by
      unfold s10
      refine State.Kept.ite (fun _ => h7) (fun _ => ?_)
      · refine State.Kept.ite (fun _ => (State.detect_kept (State.setF_kept h7 _ _ _) _ _ _ _)) (fun _ => ?_)
        · refine State.setF_kept ?_ _ _ _
          exact State.Kept.set_cs h7 (fun w => tabWf_applyWords (h7.wf w).cs _)
    refine State.Kept.foldl _ (State.Kept.set_mics h11 (fun _ => tabWf_nil)) fun _ _ h17 => ?_
    extract_lets +onlyGivenNames r18
    have h19 : s₀.Kept r18.2 := (State.draw_kept h17 _)
    exact (State.machineCheck_kept h19 _ _ _)

theorem State.lockLines_kept {s₀ s : State} (h : s₀.Kept s) : ∀ a1, s₀.Kept (State.lockLines s a1) := by
  intro a1
  delta State.lockLines
  extract_lets +onlyGivenNames s1
  have h2 : s₀.Kept s1 := (State.Kept.foldl _ h fun _ _ h5 => (State.showLocks_kept (State.modTdc_kept h5 _ _) _))
  clear_value s1
  refine State.Kept.foldl _ h2 fun _ _ h11 => ?_
  extract_lets +onlyGivenNames k12
  exact (State.detect_kept h11 _ _ _ _)

theorem State.nextPhase_kept {s₀ s : State} (h : s₀.Kept s) : s₀.Kept (State.nextPhase s) :=
  (State.setF_kept h _ _ _)

theorem State.spaFill_kept {s₀ s : State} (h : s₀.Kept s) : ∀ a1, s₀.Kept (State.spaFill s a1) :=
  fun _ => (State.Kept.foldl _ h fun _ _ h3 => (State.setF_kept h3 _ _ _))

theorem State.spaStart_kept {s₀ s : State} (h : s₀.Kept s) : ∀ a1 a2, s₀.Kept (State.spaStart s a1 a2) := by
  intro a1 a2
  delta State.spaStart
  exact State.Kept.ite (fun _ => (State.spaCmd_kept h _)) (fun _ => h)

theorem State.tileResetOver_kept {s₀ s : State} (h : s₀.Kept s) : ∀ a1, s₀.Kept (State.tileResetOver s a1) := by
  intro a1
  delta State.tileResetOver
  extract_lets +onlyGivenNames s1
  have h2 : s₀.Kept s1 := (State.setF_kept h _ _ _)
  clear_value s1
  extract_lets +onlyGivenNames s3
  have h4 : s₀.Kept s3 := (State.Kept.foldl _ (State.setTileQ_kept h2 _ _) fun _ _ h7 => (State.levelAction_kept h7 _ _))
  clear_value s3
  exact (State.Kept.foldl _ h4 fun _ _ h10 => (State.quiesce_kept h10 _ _))

theorem execBootPhaseComplete_kept {s₀ s : State} (h : s₀.Kept s) : ∀ a0, Res.Kept s₀ (execBootPhaseComplete a0 s) := by
  intro a0
  delta execBootPhaseComplete
  extract_lets +onlyGivenNames ph1
  extract_lets +onlyGivenNames go2
  have h3 : ∀ y4, s₀.Kept y4 → s₀.Kept (go2 y4) := by
    intro y4 hy4
    unfold go2
    exact State.Kept.ite (fun _ => hy4) (fun _ => (State.nextPhase_kept hy4))
  clear_value go2
  refine Res.Kept.ite (fun _ => (done_kept h)) (fun _ => ?_)
  · refine Res.Kept.ite (fun _ => ?_) (fun _ => ?_)
    · refine Res.Kept.ite (fun _ => (done_kept (State.setF_kept h _ _ _))) (fun _ => ?_)
      · extract_lets +onlyGivenNames src5
        have h6 : s₀.Kept src5 := (State.setFs_kept h _ _)
        clear_value src5
        extract_lets +onlyGivenNames s7
        have h8 : s₀.Kept s7 := by
          unfold s7
          exact State.Kept.set_tb_div h6 (fun _ => by decide)
        clear_value s7
        exact (done_kept (h3 _ (State.Kept.foldl _ h8 fun _ _ h11 => (State.modPort_kept h11 _ _))))
    · refine Res.Kept.ite (fun _ => ?_) (fun _ => Res.Kept.ite (fun _ => (done_kept (h3 _ (State.wr_kept (State.loadFw_kept h _ _ _ _) _ _)))) (fun _ => Res.Kept.ite (fun _ => (done_kept (h3 _ (State.loadFw_kept h _ _ _ _)))) (fun _ => Res.Kept.ite (fun _ => (done_kept (h3 _ (State.loadMicro_kept h _ _ _)))) (fun _ => Res.Kept.ite (fun _ => (done_kept (h3 _ (State.bbFlush_kept (State.calRestore_kept h _))))) (fun _ => Res.Kept.ite (fun _ => (done_kept (h3 _ (State.lockLines_kept h _)))) (fun _ => Res.Kept.ite (fun _ => (done_kept (State.bootDone_kept (State.Kept.foldl _ h fun _ _ h16 => (State.detectFe_kept h16 _ _ _))))) (fun _ => (done_kept (h3 _ h)))))))))
      · split
        · exact (done_kept (State.bootHalt_kept h _))
        · extract_lets +onlyGivenNames s12
          have h13 : s₀.Kept s12 := (State.discover_kept h _)
          clear_value s12
          refine Res.Kept.ite (fun _ => (done_kept (State.bootHalt_kept h13 _))) (fun _ => ?_)
          · refine Res.Kept.ite (fun _ => (done_kept (State.bootHalt_kept h13 _))) (fun _ => ?_)
            · apply done_kept
              refine h3 _ ?_
              split
              · exact (State.setF_kept h13 _ _ _)
              · exact h13

theorem execBootStart_kept {s₀ s : State} (h : s₀.Kept s) : Res.Kept s₀ (execBootStart s) := by
  delta execBootStart
  exact Res.Kept.ite (fun _ => (done_kept (State.Kept.set_inReset h))) (fun _ => (done_kept h))

theorem execBypass_kept {s₀ s : State} (h : s₀.Kept s) : Res.Kept s₀ (execBypass s) :=
  (done_kept (State.jtag_kept h _))

theorem execClamp_kept {s₀ s : State} (h : s₀.Kept s) : Res.Kept s₀ (execClamp s) :=
  (done_kept (State.jtag_kept h _))

theorem execDwUnlock_kept {s₀ s : State} (h : s₀.Kept s) : ∀ a0, Res.Kept s₀ (execDwUnlock a0 s) := by
  intro a0
  delta execDwUnlock
  refine Res.Kept.ite (fun _ => (done_kept h)) (fun _ => ?_)
  · refine Res.Kept.ite (fun _ => ?_) (fun _ => (done_kept (State.Kept.set_dwFailed h)))
    · apply done_kept
      extract_lets +onlyGivenNames src1
      have h2 : s₀.Kept src1 := (State.moduleReset_kept h _)
      clear_value src1
      exact (State.Kept.set_inReset_unlocked h2)

theorem execExtest_kept {s₀ s : State} (h : s₀.Kept s) : Res.Kept s₀ (execExtest s) :=
  (done_kept (State.jtag_kept h _))

theorem execExtestPulse_kept {s₀ s : State} (h : s₀.Kept s) : Res.Kept s₀ (execExtestPulse s) :=
  (done_kept (State.jtag_kept h _))

theorem execExtestTrain_kept {s₀ s : State} (h : s₀.Kept s) : Res.Kept s₀ (execExtestTrain s) :=
  (done_kept (State.jtag_kept h _))

theorem execGlbResetModule_kept {s₀ s : State} (h : s₀.Kept s) : ∀ a0 a1, Res.Kept s₀ (execGlbResetModule a0 a1 s) :=
  fun _ _ => (done_kept (State.glbReset_kept h _ _))

theorem execGlbResetTile_kept {s₀ s : State} (h : s₀.Kept s) : ∀ a0 a1, Res.Kept s₀ (execGlbResetTile a0 a1 s) :=
  fun _ _ => (done_kept (State.glbReset_kept h _ _))

theorem execHighz_kept {s₀ s : State} (h : s₀.Kept s) : Res.Kept s₀ (execHighz s) :=
  (done_kept (State.jtag_kept h _))

theorem execIdcode_kept {s₀ s : State} (h : s₀.Kept s) : Res.Kept s₀ (execIdcode s) :=
  (done_kept (State.jtag_kept h _))

theorem execJtagTapReset_kept {s₀ s : State} (h : s₀.Kept s) : Res.Kept s₀ (execJtagTapReset s) :=
  (done_kept (State.jtag_kept h _))

theorem execLockstepMismatch_kept {s₀ s : State} (h : s₀.Kept s) : Res.Kept s₀ (execLockstepMismatch s) := by
  delta execLockstepMismatch
  exact Res.Kept.ite (fun _ => (done_kept h)) (fun _ => (done_kept (State.moduleReset_kept h _)))

theorem execPerstNAssert_kept {s₀ s : State} (h : s₀.Kept s) : Res.Kept s₀ (execPerstNAssert s) :=
  (done_kept (State.moduleReset_kept h _))

theorem execPowerOn_kept {s₀ s : State} (h : s₀.Kept s) : Res.Kept s₀ (execPowerOn s) := by
  delta execPowerOn
  refine Res.Kept.ite (fun _ => ?_) (fun _ => (done_kept h))
  · apply done_kept
    extract_lets +onlyGivenNames src1
    have h2 : s₀.Kept src1 := (State.coldReset_kept h)
    clear_value src1
    exact (State.Kept.set_off_tapIr_unlocked_dwFailed h2)

theorem execRefclkLoss_kept {s₀ s : State} (h : s₀.Kept s) : ∀ a0 a1, Res.Kept s₀ (execRefclkLoss a0 a1 s) := by
  intro a0 a1
  delta execRefclkLoss
  extract_lets +onlyGivenNames n1
  exact Res.Kept.ite (fun _ => (done_kept h)) (fun _ => Res.Kept.ite (fun _ => (done_kept (State.clocksStop_kept h _))) (fun _ => (done_kept (State.setF_kept h _ _ _))))

theorem execRefclkRecovery_kept {s₀ s : State} (h : s₀.Kept s) : Res.Kept s₀ (execRefclkRecovery s) := by
  delta execRefclkRecovery
  refine Res.Kept.ite (fun _ => (done_kept h)) (fun _ => ?_)
  · extract_lets +onlyGivenNames s1
    have h2 : s₀.Kept s1 := (State.setFs_kept h _ _)
    clear_value s1
    apply done_kept
    refine State.condEnd_kept ?_ _ _ _
    exact State.Kept.set_tb_div h2 (fun _ => by decide)

theorem execResetWindowExit_kept {s₀ s : State} (h : s₀.Kept s) : ∀ a0, Res.Kept s₀ (execResetWindowExit a0 s) := by
  intro a0
  delta execResetWindowExit
  apply done_kept
  extract_lets +onlyGivenNames src1
  have h2 : s₀.Kept src1 := (State.coldReset_kept h)
  clear_value src1
  exact (State.Kept.set_off h2)

theorem execSamplePreload_kept {s₀ s : State} (h : s₀.Kept s) : Res.Kept s₀ (execSamplePreload s) :=
  (done_kept (State.jtag_kept h _))

theorem execServiceEntry_kept {s₀ s : State} (h : s₀.Kept s) : Res.Kept s₀ (execServiceEntry s) := by
  delta execServiceEntry
  refine Res.Kept.ite (fun _ => ?_) (fun _ => (done_kept h))
  · apply done_kept
    extract_lets +onlyGivenNames src1
    have h2 : s₀.Kept src1 := (State.setMode_kept h _)
    clear_value src1
    exact (State.Kept.set_svcEntry h2)

theorem execServiceExitEffect_kept {s₀ s : State} (h : s₀.Kept s) : Res.Kept s₀ (execServiceExitEffect s) := by
  delta execServiceExitEffect
  refine Res.Kept.ite (fun _ => ?_) (fun _ => (done_kept h))
  · apply done_kept
    extract_lets +onlyGivenNames src1
    have h2 : s₀.Kept src1 := (State.setMode_kept h _)
    clear_value src1
    exact (State.Kept.set_svcExit h2)

theorem execSpaErase_kept {s₀ s : State} (h : s₀.Kept s) : ∀ a0, Res.Kept s₀ (execSpaErase a0 s) :=
  fun _ => (done_kept (State.spaStart_kept h _ _))

theorem execSpaOpComplete_kept {s₀ s : State} (h : s₀.Kept s) : ∀ a0 a1 a2, Res.Kept s₀ (execSpaOpComplete a0 a1 a2 s) := by
  intro a0 a1 a2
  delta execSpaOpComplete
  split
  · exact (done_kept h)
  · extract_lets +onlyGivenNames src1
    have h2 : s₀.Kept src1 := (State.setF_kept h _ _ _)
    clear_value src1
    extract_lets +onlyGivenNames s3
    have h4 : s₀.Kept s3 := (State.Kept.set_spa h2)
    clear_value s3
    extract_lets +onlyGivenNames s5
    have h6 : s₀.Kept s5 := (State.setF_kept h4 _ _ _)
    clear_value s5
    refine Res.Kept.ite (fun _ => ?_) (fun _ => Res.Kept.ite (fun _ => (done_kept (State.spaFill_kept h6 _))) (fun _ => Res.Kept.ite (fun _ => (done_kept (State.flashProg_kept h6 _ _))) (fun _ => Res.Kept.ite (fun _ => (done_kept (State.flashErase_kept h6 _ _))) (fun _ => Res.Kept.ite (fun _ => (done_kept (State.spaFill_kept h6 _))) (fun _ => (done_kept (State.setF_kept h6 _ _ _)))))))
    · refine Res.Kept.ite (fun _ => ?_) (fun _ => (done_kept h6))
      · extract_lets +onlyGivenNames r7
        have h8 : s₀.Kept r7.2 := (State.drawBytes_kept h6 _)
        clear_value r7
        exact (done_kept (State.flashPut_kept h8 _ _))

theorem execSpaProgram_kept {s₀ s : State} (h : s₀.Kept s) : ∀ a0, Res.Kept s₀ (execSpaProgram a0 s) :=
  fun _ => (done_kept (State.spaStart_kept h _ _))

theorem execSpaRead_kept {s₀ s : State} (h : s₀.Kept s) : ∀ a0, Res.Kept s₀ (execSpaRead a0 s) :=
  fun _ => (done_kept (State.spaStart_kept h _ _))

theorem execSpaReadStatus_kept {s₀ s : State} (h : s₀.Kept s) : ∀ a0, Res.Kept s₀ (execSpaReadStatus a0 s) :=
  fun _ => (done_kept (State.spaStart_kept h _ _))

theorem execSpaSfdp_kept {s₀ s : State} (h : s₀.Kept s) : ∀ a0, Res.Kept s₀ (execSpaSfdp a0 s) :=
  fun _ => (done_kept (State.spaStart_kept h _ _))

theorem execSupplyWindowExit_kept {s₀ s : State} (h : s₀.Kept s) : ∀ a0 a1, Res.Kept s₀ (execSupplyWindowExit a0 a1 s) := by
  intro a0 a1
  delta execSupplyWindowExit
  refine Res.Kept.ite (fun _ => (done_kept h)) (fun _ => ?_)
  · extract_lets +onlyGivenNames s1
    have h2 : s₀.Kept s1 := (State.Kept.set_rails h (fun w => tabWf_tabSet (h.wf w).rails _ _))
    clear_value s1
    apply done_kept
    exact State.Kept.ite (fun _ => h2) (fun _ => (State.detect_kept h2 _ _ _ _))

theorem execSupplyWindowReturn_kept {s₀ s : State} (h : s₀.Kept s) : ∀ a0, Res.Kept s₀ (execSupplyWindowReturn a0 s) := by
  intro a0
  delta execSupplyWindowReturn
  extract_lets +onlyGivenNames s1
  have h2 : s₀.Kept s1 := (State.Kept.set_rails h (fun w => tabWf_tabKeep (h.wf w).rails (fun k => decide (k ≠ a0.val))))
  apply done_kept
  exact State.Kept.ite (fun _ => (State.condEnd_kept h2 _ _ _)) (fun _ => h2)

theorem execSvcExit_kept {s₀ s : State} (h : s₀.Kept s) : Res.Kept s₀ (execSvcExit s) := by
  delta execSvcExit
  exact Res.Kept.ite (fun _ => (done_kept (State.glbCtrl_kept h _ _ _))) (fun _ => (done_kept h))

theorem execSvcReq_kept {s₀ s : State} (h : s₀.Kept s) : ∀ a0, Res.Kept s₀ (execSvcReq a0 s) := by
  intro a0
  delta execSvcReq
  exact Res.Kept.ite (fun _ => (done_kept (State.glbCtrl_kept h _ _ _))) (fun _ => (done_kept h))

theorem execTileResetEnd_kept {s₀ s : State} (h : s₀.Kept s) : ∀ a0, Res.Kept s₀ (execTileResetEnd a0 s) := by
  intro a0
  delta execTileResetEnd
  exact Res.Kept.ite (fun _ => (done_kept (State.tileResetOver_kept h _))) (fun _ => (done_kept h))

theorem execXipRead_kept {s₀ s : State} (h : s₀.Kept s) : ∀ a0, Res.Kept s₀ (execXipRead a0 s) := by
  intro a0
  delta execXipRead
  exact Res.Kept.ite (fun _ => (done_kept h)) (fun _ => (done_kept (State.setF_kept h _ _ _)))

end Sys2Proof.Machine
end

