-- ==== Sys2Proof/Laws/KeptChannels.lean ====
section
/-! SUPPORT. State.Kept through the operations of comparators, converters, events, front-ends and triggers. -/

namespace Sys2Proof.Machine

theorem State.contactSkip_kept {s₀ s : State} (h : s₀.Kept s) : ∀ a1, s₀.Kept (State.contactSkip s a1) :=
  fun _ => (State.setF_kept h _ _ _)

theorem State.latchHi_kept {s₀ s : State} (h : s₀.Kept s) : ∀ a1, s₀.Kept (State.latchHi s a1) :=
  fun _ => (State.Kept.set_latched h (fun w => tabWf_tabSet (h.wf w).latched _ _))

theorem State.diagRead_kept {s₀ s : State} (h : s₀.Kept s) : ∀ a1 a2, s₀.Kept (State.diagRead s a1 a2).2 := by
  intro a1 a2
  delta State.diagRead
  refine State.Kept.ite_snd (fun _ => (State.Kept.pair_snd h)) (fun _ => ?_)
  · extract_lets +onlyGivenNames s1
    have h2 : s₀.Kept s1 := by
      unfold s1
      split
      · exact (State.detectEcc_kept h _ _ _ _)
      · exact h
    clear_value s1
    refine State.Kept.ite_snd (fun _ => (State.Kept.pair_snd h2)) (fun _ => ?_)
    · refine State.Kept.ite_snd (fun _ => ?_) (fun _ => (State.Kept.pair_snd h2))
      · extract_lets +onlyGivenNames r3
        have h4 : s₀.Kept r3.2 := (State.draw_kept h2 _)
        clear_value r3
        exact (State.Kept.pair_snd h4)

theorem State.readPlain_kept {s₀ s : State} (h : s₀.Kept s) : ∀ a1 a2 a3, s₀.Kept (State.readPlain s a1 a2 a3).2 := by
  intro a1 a2 a3
  delta State.readPlain
  exact State.Kept.ite_snd (fun _ => (State.Kept.pair_snd h)) (fun _ => (State.diagRead_kept h _ _))

theorem State.readLink_kept {s₀ s : State} (h : s₀.Kept s) : ∀ a1 a2, s₀.Kept (State.readLink s a1 a2).2 := by
  intro a1 a2
  delta State.readLink
  exact State.Kept.ite_snd (fun _ => (State.Kept.pair_snd (State.latchHi_kept h _))) (fun _ => (State.readPlain_kept h _ _ _))

theorem State.contactFault_kept {s₀ s : State} (h : s₀.Kept s) : ∀ a1 a2, s₀.Kept (State.contactFault s a1 a2) := by
  intro a1 a2
  delta State.contactFault
  extract_lets +onlyGivenNames lv1
  exact State.Kept.ite (fun _ => (State.detectAt_kept h _ _ _ _ _ _)) (fun _ => State.Kept.ite (fun _ => (State.detectAt_kept h _ _ _ _ _ _)) (fun _ => h))

theorem State.contactHalf_kept {s₀ s : State} (h : s₀.Kept s) : ∀ a1, s₀.Kept (State.contactHalf s a1) :=
  fun _ => (State.modFe_kept h _ _)

theorem State.contactInject_kept {s₀ s : State} (h : s₀.Kept s) : ∀ a1 a2, s₀.Kept (State.contactInject s a1 a2) := by
  intro a1 a2
  delta State.contactInject
  extract_lets +onlyGivenNames own1
  extract_lets +onlyGivenNames req2
  refine State.adcInjectHeld_kept ?_ _ _
  exact State.Kept.ite (fun _ => (State.adcInjectHeld_kept h _ _)) (fun _ => h)

theorem State.contactMeasure_kept {s₀ s : State} (h : s₀.Kept s) : ∀ a1 a2 a3, s₀.Kept (State.contactMeasure s a1 a2 a3) := by
  intro a1 a2 a3
  delta State.contactMeasure
  extract_lets +onlyGivenNames own1
  extract_lets +onlyGivenNames first2
  exact (State.modFe_kept h _ _)

theorem State.contactResult_kept {s₀ s : State} (h : s₀.Kept s) : ∀ a1, s₀.Kept (State.contactResult s a1).1 := by
  intro a1
  delta State.contactResult
  extract_lets +onlyGivenNames u1
  extract_lets +onlyGivenNames b2
  split
  · exact (State.Kept.pair_fst (State.setF_kept h _ _ _))
  · extract_lets +onlyGivenNames dlp3
    extract_lets +onlyGivenNames it4
    extract_lets +onlyGivenNames out5
    extract_lets +onlyGivenNames mv6
    extract_lets +onlyGivenNames fits7
    extract_lets +onlyGivenNames r8
    have h9 : s₀.Kept r8.2 := (State.draw_kept h _)
    clear_value r8
    extract_lets +onlyGivenNames x10
    extract_lets +onlyGivenNames s11
    have h12 : s₀.Kept s11 := by
      unfold s11
      exact State.Kept.ite (fun _ => h) (fun _ => h9)
    clear_value s11
    extract_lets +onlyGivenNames s13
    have h14 : s₀.Kept s13 := (State.setFs_kept h12 _ _)
    clear_value s13
    exact (State.Kept.pair_fst h14)

theorem State.ownerDone_kept {s₀ s : State} (h : s₀.Kept s) : ∀ a1 a2 a3 a4, s₀.Kept (State.ownerDone s a1 a2 a3 a4) := by
  intro a1 a2 a3 a4
  delta State.ownerDone
  split
  · exact h
  · refine State.Kept.ite (fun _ => State.Kept.ite (fun _ => h) (fun _ => (State.unbusyBy_kept h _ _))) (fun _ => ?_)
    · extract_lets +onlyGivenNames s1
      have h2 : s₀.Kept s1 := by
        unfold s1
        exact State.Kept.ite (fun _ => (State.modCmd_kept h _ _)) (fun _ => h)
      clear_value s1
      exact (State.unbusyBy_kept h2 _ _)

theorem State.rqPush_kept {s₀ s : State} (h : s₀.Kept s) : ∀ a1 a2, s₀.Kept (State.rqPush s a1 a2) := by
  intro a1 a2
  delta State.rqPush
  extract_lets +onlyGivenNames b1
  extract_lets +onlyGivenNames n2
  extract_lets +onlyGivenNames size3
  refine State.Kept.ite (fun _ => (State.setF_kept (State.incSat_kept h _ _ _) _ _ _)) (fun _ => ?_)
  · extract_lets +onlyGivenNames s4
    have h5 : s₀.Kept s4 := (State.sramSet_kept h _ _ _)
    clear_value s4
    extract_lets +onlyGivenNames s6
    have h7 : s₀.Kept s6 := (State.setF_kept h5 _ _ _)
    clear_value s6
    extract_lets +onlyGivenNames m8
    exact State.Kept.ite (fun _ => (State.setF_kept h7 _ _ _)) (fun _ => h7)

theorem State.limitCheck_kept {s₀ s : State} (h : s₀.Kept s) : ∀ a1 a2, s₀.Kept (State.limitCheck s a1 a2) := by
  intro a1 a2
  delta State.limitCheck
  extract_lets +onlyGivenNames k1
  refine State.Kept.ite (fun _ => h) (fun _ => ?_)
  · extract_lets +onlyGivenNames b2
    extract_lets +onlyGivenNames x3
    extract_lets +onlyGivenNames inside4
    extract_lets +onlyGivenNames was5
    extract_lets +onlyGivenNames s6
    have h7 : s₀.Kept s6 := (State.modAdc_kept h _ _)
    clear_value s6
    exact State.Kept.ite (fun _ => (State.offer_kept (State.setF_kept h7 _ _ _) _ _ _ _ _ _)) (fun _ => h7)

theorem State.deliver_kept {s₀ s : State} (h : s₀.Kept s) : ∀ a1 a2, s₀.Kept (State.deliver s a1 a2) := by
  intro a1 a2
  delta State.deliver
  extract_lets +onlyGivenNames k1
  extract_lets +onlyGivenNames t2
  extract_lets +onlyGivenNames b3
  extract_lets +onlyGivenNames w4
  extract_lets +onlyGivenNames own5
  clear_value own5
  extract_lets +onlyGivenNames finish6
  have h7 : ∀ y8, s₀.Kept y8 → s₀.Kept (finish6 y8) := by
    intro y8 hy8
    unfold finish6
    split
    · exact (State.ownerDone_kept hy8 _ _ _ _)
    · exact hy8
  clear_value finish6
  refine State.Kept.ite (fun _ => (h7 _ h)) (fun _ => ?_)
  · extract_lets +onlyGivenNames m9
    extract_lets +onlyGivenNames named10
    extract_lets +onlyGivenNames toSepia11
    extract_lets +onlyGivenNames toQueue12
    extract_lets +onlyGivenNames full13
    extract_lets +onlyGivenNames s14
    have h15 : s₀.Kept s14 := by
      unfold s14
      exact State.Kept.ite (fun _ => (State.rqPush_kept h _ _)) (fun _ => h)
    clear_value s14
    extract_lets +onlyGivenNames s16
    have h17 : s₀.Kept s16 := by
      unfold s16
      exact State.Kept.ite (fun _ => (State.setF_kept h15 _ _ _)) (fun _ => h15)
    clear_value s16
    extract_lets +onlyGivenNames s18
    have h19 : s₀.Kept s18 := by
      unfold s18
      exact State.Kept.ite (fun _ => (State.sepiaEnter_kept h17 _ _)) (fun _ => h17)
    clear_value s18
    extract_lets +onlyGivenNames s20
    have h21 : s₀.Kept s20 := (State.limitCheck_kept (State.capture_kept h19 _ _ _) _ _)
    clear_value s20
    extract_lets +onlyGivenNames rdy22
    refine h7 _ ?_
    exact State.Kept.ite (fun _ => (State.setRdy_kept h21 _)) (fun _ => h21)

theorem State.lineStamp_kept {s₀ s : State} (h : s₀.Kept s) : ∀ a1 a2, s₀.Kept (State.lineStamp s a1 a2).1 := by
  intro a1 a2
  delta State.lineStamp
  extract_lets +onlyGivenNames u1
  exact (State.Kept.pair_fst (State.setPair_kept h _ _))

theorem State.rqBurst_kept {s₀ s : State} (h : s₀.Kept s) : ∀ a1, s₀.Kept (State.rqBurst s a1) := by
  intro a1
  delta State.rqBurst
  extract_lets +onlyGivenNames b1
  extract_lets +onlyGivenNames ring2
  extract_lets +onlyGivenNames prod3
  extract_lets +onlyGivenNames lvl4
  extract_lets +onlyGivenNames n5
  refine State.Kept.ite (fun _ => h) (fun _ => ?_)
  · extract_lets +onlyGivenNames base6
    extract_lets +onlyGivenNames out7
    extract_lets +onlyGivenNames s8
    have h9 : s₀.Kept s8 := (State.Kept.foldl _ h fun _ _ h12 => (State.hostSet_kept h12 _ _ _))
    clear_value s8
    extract_lets +onlyGivenNames s13
    have h14 : s₀.Kept s13 := (State.setFs_kept (State.modTile_kept h9 _ _) _ _)
    clear_value s13
    extract_lets +onlyGivenNames s15
    have h16 : s₀.Kept s15 := (State.hostSet_kept h14 _ _ _)
    clear_value s15
    exact State.Kept.ite (fun _ => (State.modTile_kept (State.setF_kept h16 _ _ _) _ _)) (fun _ => h16)

theorem State.sweepApply_kept {s₀ s : State} (h : s₀.Kept s) : ∀ a1 a2, s₀.Kept (State.sweepApply s a1 a2) := by
  intro a1 a2
  delta State.sweepApply
  extract_lets +onlyGivenNames s1
  have h2 : s₀.Kept s1 := (State.Kept.foldl _ h fun _ _ h5 => (State.setTarget_kept (State.yieldRotation_kept h5 _) _ _))
  clear_value s1
  exact (State.modCmd_kept h2 _ _)

theorem State.sweepBoundary_kept {s₀ s : State} (h : s₀.Kept s) : ∀ a1 a2, s₀.Kept (State.sweepBoundary s a1 a2) := by
  intro a1 a2
  delta State.sweepBoundary
  split
  · exact h
  · refine State.Kept.ite (fun _ => h) (fun _ => ?_)
    · extract_lets +onlyGivenNames s1
      have h2 : s₀.Kept s1 := (State.modCmd_kept h _ _)
      clear_value s1
      refine State.Kept.ite (fun _ => h2) (fun _ => ?_)
      · split
        · exact (State.stopCmd_kept h2 _ _)
        · extract_lets +onlyGivenNames code3
          extract_lets +onlyGivenNames s4
          have h5 : s₀.Kept s4 := (State.Kept.foldl _ h2 fun _ _ h8 => (State.setTarget_kept (State.yieldRotation_kept h8 _) _ _))
          clear_value s4
          exact (State.modCmd_kept h5 _ _)

theorem execAdcEntryBoundary_kept {s₀ s : State} (h : s₀.Kept s) : ∀ a0 a1, Res.Kept s₀ (execAdcEntryBoundary a0 a1 s) := by
  intro a0 a1
  delta execAdcEntryBoundary
  extract_lets +onlyGivenNames a1
  split
  · exact (done_kept h)
  · refine Res.Kept.ite (fun _ => (done_kept h)) (fun _ => ?_)
    · extract_lets +onlyGivenNames r2
      extract_lets +onlyGivenNames s3
      have h4 : s₀.Kept s3 := (State.modAdc_kept h _ _)
      clear_value s3
      extract_lets +onlyGivenNames s5
      have h6 : s₀.Kept s5 := by
        unfold s5
        exact State.Kept.ite (fun _ => (State.adcEnd_kept h4 _)) (fun _ => State.Kept.ite (fun _ => (State.adcShow_kept (State.modAdc_kept h4 _ _) _)) (fun _ => State.Kept.ite (fun _ => (State.adcAdvance_kept h4 _)) (fun _ => h4)))
      clear_value s5
      extract_lets +onlyGivenNames s7
      have h8 : s₀.Kept s7 := (State.adcNext_kept h6 _ _)
      clear_value s7
      apply done_kept
      split
      · exact (State.sweepBoundary_kept h8 _ _)
      · exact h8

theorem execAdcResultEnqueue_kept {s₀ s : State} (h : s₀.Kept s) : ∀ a0, Res.Kept s₀ (execAdcResultEnqueue a0 s) := by
  intro a0
  delta execAdcResultEnqueue
  split
  · exact (done_kept h)
  · exact (done_kept (State.deliver_kept (State.modAdc_kept h _ _) _ _))

theorem execAdcSampleEnd_kept {s₀ s : State} (h : s₀.Kept s) : ∀ a0, Res.Kept s₀ (execAdcSampleEnd a0 s) := by
  intro a0
  delta execAdcSampleEnd
  split
  · exact (done_kept h)
  · refine Res.Kept.ite (fun _ => (done_kept h)) (fun _ => ?_)
    · extract_lets +onlyGivenNames scale1
      extract_lets +onlyGivenNames k2
      exact (done_kept (State.modAdc_kept h _ _))

theorem execArmLineEdge_kept {s₀ s : State} (h : s₀.Kept s) : ∀ a0 a1, Res.Kept s₀ (execArmLineEdge a0 a1 s) := by
  intro a0 a1
  delta execArmLineEdge
  extract_lets +onlyGivenNames d1
  extract_lets +onlyGivenNames s2
  have h3 : s₀.Kept s2 := (State.Kept.set_armLine h)
  refine Res.Kept.ite (fun _ => (done_kept h3)) (fun _ => ?_)
  · refine Res.Kept.ite (fun _ => ?_) (fun _ => (done_kept (State.domRelease_kept h3 _)))
    · apply done_kept
      refine State.domArmed_kept ?_ _
      exact State.Kept.ite (fun _ => (State.lineStamp_kept h3 _ _)) (fun _ => h3)

theorem execCaptureDump_kept {s₀ s : State} (h : s₀.Kept s) : ∀ a0, Res.Kept s₀ (execCaptureDump a0 s) := by
  intro a0
  delta execCaptureDump
  split
  · exact (done_kept h)
  · extract_lets +onlyGivenNames t1
    extract_lets +onlyGivenNames first2
    extract_lets +onlyGivenNames count3
    split
    · extract_lets +onlyGivenNames o4
      have h5 : s₀.Kept o4.1 := (State.output_kept h _ _)
      clear_value o4
      exact (done_kept (State.endCmd_kept h5 _ _))

theorem execChConfig_kept {s₀ s : State} (h : s₀.Kept s) : ∀ a0, Res.Kept s₀ (execChConfig a0 s) := by
  intro a0
  delta execChConfig
  split
  · exact (done_kept h)
  · extract_lets +onlyGivenNames s1
    have h2 : s₀.Kept s1 := (State.Kept.foldl _ h fun _ _ h5 => (State.configChannel_kept h5 _ _))
    clear_value s1
    exact (done_kept (State.startCmd_kept h2 _ _ _))

theorem execChContact_kept {s₀ s : State} (h : s₀.Kept s) : ∀ a0, Res.Kept s₀ (execChContact a0 s) := by
  intro a0
  delta execChContact
  split
  · exact (done_kept h)
  · extract_lets +onlyGivenNames s1
    have h2 : s₀.Kept s1 := (State.Kept.foldl _ h fun _ _ h5 => (State.contactBegin_kept h5 _ _))
    clear_value s1
    extract_lets +onlyGivenNames s6
    have h7 : s₀.Kept s6 := (State.Kept.foldl _ h2 fun _ _ h10 => (State.beginEnable_kept h10 _))
    clear_value s6
    exact (done_kept (State.modCmd_kept h7 _ _))

theorem execChForce_kept {s₀ s : State} (h : s₀.Kept s) : ∀ a0, Res.Kept s₀ (execChForce a0 s) := by
  intro a0
  delta execChForce
  split
  · exact (done_kept h)
  · extract_lets +onlyGivenNames s1
    have h2 : s₀.Kept s1 := (State.Kept.foldl _ h fun _ _ h5 => (State.forceChannel_kept h5 _ _))
    clear_value s1
    exact (done_kept (State.startCmd_kept h2 _ _ _))

theorem execChMeasureInject_kept {s₀ s : State} (h : s₀.Kept s) : ∀ a0, Res.Kept s₀ (execChMeasureInject a0 s) := by
  intro a0
  delta execChMeasureInject
  split
  · exact (done_kept h)
  · refine Res.Kept.ite (fun _ => (done_kept h)) (fun _ => ?_)
    · extract_lets +onlyGivenNames src1
      extract_lets +onlyGivenNames i2
      extract_lets +onlyGivenNames s3
      have h4 : s₀.Kept s3 := (State.startCmd_kept h _ _ _)
      clear_value s3
      exact (done_kept (State.Kept.foldl _ h4 fun _ _ h7 => (State.adcInjectHeld_kept h7 _ _)))

theorem execChMeasureStart_kept {s₀ s : State} (h : s₀.Kept s) : ∀ a0, Res.Kept s₀ (execChMeasureStart a0 s) := by
  intro a0
  delta execChMeasureStart
  split
  · exact (done_kept h)
  · refine Res.Kept.ite (fun _ => (done_kept h)) (fun _ => ?_)
    · extract_lets +onlyGivenNames s1
      have h2 : s₀.Kept s1 := (State.Kept.foldl _ h fun _ _ h5 => (State.adcStart_kept h5 _))
      clear_value s1
      exact (done_kept (State.startCmd_kept h2 _ _ _))

theorem execChMeasureStop_kept {s₀ s : State} (h : s₀.Kept s) : ∀ a0, Res.Kept s₀ (execChMeasureStop a0 s) := by
  intro a0
  delta execChMeasureStop
  split
  · exact (done_kept h)
  · refine Res.Kept.ite (fun _ => (done_kept h)) (fun _ => ?_)
    · extract_lets +onlyGivenNames s1
      have h2 : s₀.Kept s1 := (State.Kept.foldl _ h fun _ _ h5 => (State.adcStop_kept h5 _))
      clear_value s1
      exact (done_kept (State.startCmd_kept h2 _ _ _))

theorem execChRelease_kept {s₀ s : State} (h : s₀.Kept s) : ∀ a0, Res.Kept s₀ (execChRelease a0 s) := by
  intro a0
  delta execChRelease
  split
  · exact (done_kept h)
  · refine Res.Kept.ite (fun _ => (done_kept h)) (fun _ => ?_)
    · extract_lets +onlyGivenNames s1
      have h2 : s₀.Kept s1 := (State.Kept.foldl _ h fun _ _ h5 => (State.yieldRotation_kept h5 _))
      clear_value s1
      extract_lets +onlyGivenNames on6
      extract_lets +onlyGivenNames s7
      have h8 : s₀.Kept s7 := (State.Kept.foldl _ h2 fun _ _ h11 => (State.beginStep1_kept h11 _ _))
      clear_value s7
      extract_lets +onlyGivenNames s12
      have h13 : s₀.Kept s12 := (State.Kept.foldl _ h8 fun _ _ h16 => (State.releaseRest_kept h16 _))
      clear_value s12
      exact (done_kept (State.startCmd_kept h13 _ _ _))

theorem execChSine_kept {s₀ s : State} (h : s₀.Kept s) : ∀ a0, Res.Kept s₀ (execChSine a0 s) := by
  intro a0
  delta execChSine
  split
  · exact (done_kept h)
  · extract_lets +onlyGivenNames r1
    have h2 : s₀.Kept r1.1 := by
      unfold r1
      refine State.Kept.foldl_fst _ (State.Kept.pair_fst h) fun _ _ h5 => ?_
      extract_lets +onlyGivenNames x6
      have h7 : s₀.Kept x6.1 := (State.sineChannel_kept h5 _ _)
      clear_value x6
      exact (State.Kept.pair_fst h7)
    clear_value r1
    extract_lets +onlyGivenNames s8
    have h9 : s₀.Kept s8 := h2
    clear_value s8
    exact Res.Kept.ite (fun _ => (done_kept (State.endCmd_kept h9 _ _))) (fun _ => Res.Kept.ite (fun _ => (done_kept (State.endCmd_kept h9 _ _))) (fun _ => Res.Kept.ite (fun _ => (done_kept (State.endCmd_kept h9 _ _))) (fun _ => (done_kept (State.startCmd_kept h9 _ _ _)))))

theorem execChSweep_kept {s₀ s : State} (h : s₀.Kept s) : ∀ a0, Res.Kept s₀ (execChSweep a0 s) := by
  intro a0
  delta execChSweep
  split
  · exact (done_kept h)
  · exact (done_kept (State.sweepApply_kept (State.modCmd_kept h _ _) _ _))

theorem execClampAction_kept {s₀ s : State} (h : s₀.Kept s) : ∀ a0 a1, Res.Kept s₀ (execClampAction a0 a1 s) := by
  intro a0 a1
  delta execClampAction
  exact Res.Kept.ite (fun _ => (done_kept h)) (fun _ => Res.Kept.ite (fun _ => (done_kept (State.markConv_kept (State.setFs_kept h _ _) _ _ _))) (fun _ => (done_kept (State.setF_kept h _ _ _))))

theorem execCompFilterReturn_kept {s₀ s : State} (h : s₀.Kept s) : ∀ a0 a1 a2, Res.Kept s₀ (execCompFilterReturn a0 a1 a2 s) := by
  intro a0 a1 a2
  delta execCompFilterReturn
  exact Res.Kept.ite (fun _ => (done_kept (State.Kept.foldl _ h fun _ a2 h3 => (State.cmpSample_kept h3 _ _ _)))) (fun _ => (done_kept h))

theorem execCompLatchSet_kept {s₀ s : State} (h : s₀.Kept s) : ∀ a0 a1 a2, Res.Kept s₀ (execCompLatchSet a0 a1 a2 s) := by
  intro a0 a1 a2
  delta execCompLatchSet
  exact Res.Kept.ite (fun _ => (done_kept (State.Kept.foldl _ h fun _ a2 h3 => (State.cmpSample_kept h3 _ _ _)))) (fun _ => (done_kept h))

theorem execCompRawTransition_kept {s₀ s : State} (h : s₀.Kept s) : ∀ a0 a1 a2 a3 a4, Res.Kept s₀ (execCompRawTransition a0 a1 a2 a3 a4 s) :=
  fun _ _ _ _ _ => (done_kept (State.cmpRaw_kept h _ _ _ _ _))

theorem execCompValid_kept {s₀ s : State} (h : s₀.Kept s) : ∀ a0 a1 a2, Res.Kept s₀ (execCompValid a0 a1 a2 s) := by
  intro a0 a1 a2
  delta execCompValid
  exact Res.Kept.ite (fun _ => (done_kept (State.Kept.foldl _ h fun _ a2 h3 => (State.cmpSample_kept h3 _ _ _)))) (fun _ => (done_kept h))

theorem execContactPhaseStep_kept {s₀ s : State} (h : s₀.Kept s) : ∀ a0 a1, Res.Kept s₀ (execContactPhaseStep a0 a1 s) := by
  intro a0 a1
  delta execContactPhaseStep
  split
  · exact (done_kept h)
  · split
    · exact (done_kept (State.settleContacts_kept (State.stopCmd_kept h _ _)))
    · extract_lets +onlyGivenNames n1
      extract_lets +onlyGivenNames even2
      extract_lets +onlyGivenNames odd3
      extract_lets +onlyGivenNames off4
      have h5 : ∀ y6 y7, s₀.Kept y7 → s₀.Kept (off4 y6 y7) := by
        intro y6 y7 hy7
        unfold off4
        refine State.Kept.foldl _ hy7 fun _ _ h13 => ?_
        exact State.Kept.ite (fun _ => (State.beginStep1_kept h13 _ _)) (fun _ => h13)
      clear_value off4
      extract_lets +onlyGivenNames meas14
      have h15 : ∀ y16, s₀.Kept y16 → s₀.Kept (meas14 y16) := by
        intro y16 hy16
        unfold meas14
        exact (State.Kept.foldl _ (State.Kept.foldl _ hy16 fun _ _ h19 => (State.contactInject_kept h19 _ _)) fun _ _ h22 => (State.contactMeasure_kept h22 _ _ _))
      clear_value meas14
      extract_lets +onlyGivenNames s23
      have h24 : s₀.Kept s23 := by
        unfold s23
        exact State.Kept.ite (fun _ => (h15 _ h)) (fun _ => State.Kept.ite (fun _ => (State.Kept.foldl _ h fun _ _ h27 => (State.contactHalf_kept h27 _))) (fun _ => State.Kept.ite (fun _ => (h5 _ _ h)) (fun _ => State.Kept.ite (fun _ => (State.Kept.foldl _ h fun _ _ h30 => (State.beginEnable_kept h30 _))) (fun _ => State.Kept.ite (fun _ => (State.Kept.foldl _ h fun _ _ h33 => (State.contactHalf_kept h33 _))) (fun _ => State.Kept.ite (fun _ => (h5 _ _ h)) (fun _ => h))))))
      clear_value s23
      refine Res.Kept.ite (fun _ => (done_kept (State.modCmd_kept h24 _ _))) (fun _ => ?_)
      · extract_lets +onlyGivenNames r34
        have h35 : s₀.Kept r34.1 := by
          unfold r34
          refine State.Kept.foldl_fst _ (State.Kept.pair_fst h) fun _ _ h38 => ?_
          extract_lets +onlyGivenNames x39
          have h40 : s₀.Kept x39.1 := (State.contactResult_kept h38 _)
          clear_value x39
          exact (State.Kept.pair_fst h40)
        clear_value r34
        extract_lets +onlyGivenNames bad41
        extract_lets +onlyGivenNames s42
        have h43 : s₀.Kept s42 := (State.endCmd_kept h35 _ _)
        clear_value s42
        exact (done_kept (State.Kept.foldl _ (State.settleContacts_kept h43) fun _ _ h46 => (State.contactFault_kept h46 _ _)))

theorem execEventDelivery_kept {s₀ s : State} (h : s₀.Kept s) : Res.Kept s₀ (execEventDelivery s) := by
  delta execEventDelivery
  exact Res.Kept.ite (fun _ => (done_kept (State.deliverNext_kept h))) (fun _ => (done_kept h))

theorem execFireLineEdge_kept {s₀ s : State} (h : s₀.Kept s) : ∀ a0 a1, Res.Kept s₀ (execFireLineEdge a0 a1 s) := by
  intro a0 a1
  delta execFireLineEdge
  extract_lets +onlyGivenNames d1
  refine Res.Kept.ite (fun _ => (done_kept h)) (fun _ => ?_)
  · extract_lets +onlyGivenNames r2
    have h3 : s₀.Kept r2.1 := (State.lineStamp_kept h _ _)
    clear_value r2
    exact (done_kept (State.Kept.foldl _ h3 fun _ _ h6 => (State.fireReceive_kept h6 _ _)))

theorem execHoldoffEnd_kept {s₀ s : State} (h : s₀.Kept s) : ∀ a0, Res.Kept s₀ (execHoldoffEnd a0 s) := by
  intro a0
  delta execHoldoffEnd
  extract_lets +onlyGivenNames b1
  extract_lets +onlyGivenNames g2
  refine Res.Kept.ite (fun _ => (done_kept h)) (fun _ => ?_)
  · refine Res.Kept.ite (fun _ => ?_) (fun _ => (done_kept (State.setF_kept h _ _ _)))
    · extract_lets +onlyGivenNames held3
      extract_lets +onlyGivenNames s4
      have h5 : s₀.Kept s4 := (State.trigEnd_kept h _ _ _)
      clear_value s4
      apply done_kept
      exact State.Kept.ite (fun _ => (State.domRelease_kept h5 _)) (fun _ => h5)

theorem execKelvinMismatchEnd_kept {s₀ s : State} (h : s₀.Kept s) : ∀ a0, Res.Kept s₀ (execKelvinMismatchEnd a0 s) := by
  intro a0
  delta execKelvinMismatchEnd
  refine Res.Kept.ite (fun _ => (done_kept h)) (fun _ => ?_)
  · extract_lets +onlyGivenNames f1
    exact (done_kept (State.condEnd_kept (State.modFe_kept h _ _) _ _ _))

theorem execKelvinMonitorTrip_kept {s₀ s : State} (h : s₀.Kept s) : ∀ a0 a1, Res.Kept s₀ (execKelvinMonitorTrip a0 a1 s) := by
  intro a0 a1
  delta execKelvinMonitorTrip
  refine Res.Kept.ite (fun _ => (done_kept h)) (fun _ => ?_)
  · extract_lets +onlyGivenNames s1
    have h2 : s₀.Kept s1 := (State.modFe_kept (State.setFs_kept h _ _) _ _)
    clear_value s1
    exact (done_kept (State.detectFe_kept h2 _ _ _))

theorem execRqDrainBurst_kept {s₀ s : State} (h : s₀.Kept s) : ∀ a0, Res.Kept s₀ (execRqDrainBurst a0 s) :=
  fun _ => (done_kept (State.rqBurst_kept h _))

theorem execRqPartialFlush_kept {s₀ s : State} (h : s₀.Kept s) : ∀ a0, Res.Kept s₀ (execRqPartialFlush a0 s) := by
  intro a0
  delta execRqPartialFlush
  exact Res.Kept.ite (fun _ => (done_kept (State.rqBurst_kept h _))) (fun _ => (done_kept h))

theorem execSafeValueStep_kept {s₀ s : State} (h : s₀.Kept s) : ∀ a0 a1, Res.Kept s₀ (execSafeValueStep a0 a1 s) :=
  fun _ _ => (done_kept (State.seqEnded_kept (State.endStep_kept (State.markConv_kept h _ _ _) _ _) _))

theorem execShortCircuitLimit_kept {s₀ s : State} (h : s₀.Kept s) : ∀ a0, Res.Kept s₀ (execShortCircuitLimit a0 s) := by
  intro a0
  delta execShortCircuitLimit
  refine Res.Kept.ite (fun _ => (done_kept h)) (fun _ => ?_)
  · extract_lets +onlyGivenNames s1
    have h2 : s₀.Kept s1 := (State.markConv_kept (State.setFs_kept h _ _) _ _ _)
    clear_value s1
    exact (done_kept (State.detectFe_kept h2 _ _ _))

theorem execShortCircuitRelease_kept {s₀ s : State} (h : s₀.Kept s) : ∀ a0, Res.Kept s₀ (execShortCircuitRelease a0 s) := by
  intro a0
  delta execShortCircuitRelease
  extract_lets +onlyGivenNames f1
  exact (done_kept (State.condEnd_kept (State.setF_kept h _ _ _) _ _ _))

theorem execSineEpochStart_kept {s₀ s : State} (h : s₀.Kept s) : ∀ a0 a1, Res.Kept s₀ (execSineEpochStart a0 a1 s) :=
  fun _ _ => (done_kept (State.sineEpoch_kept h _ _))

theorem execSineUpdate_kept {s₀ s : State} (h : s₀.Kept s) : ∀ a0, Res.Kept s₀ (execSineUpdate a0 s) :=
  fun _ => (done_kept (State.sineTick_kept h _))

theorem execSineZcStop_kept {s₀ s : State} (h : s₀.Kept s) : ∀ a0, Res.Kept s₀ (execSineZcStop a0 s) := by
  intro a0
  delta execSineZcStop
  exact Res.Kept.ite (fun _ => (done_kept (State.sineTick_kept h _))) (fun _ => (done_kept h))

theorem execSlateEndOfService_kept {s₀ s : State} (h : s₀.Kept s) : ∀ a0, Res.Kept s₀ (execSlateEndOfService a0 s) := by
  intro a0
  delta execSlateEndOfService
  exact Res.Kept.ite (fun _ => (done_kept (State.endService_kept h _))) (fun _ => (done_kept h))

theorem execSourceActivate_kept {s₀ s : State} (h : s₀.Kept s) : ∀ a0, Res.Kept s₀ (execSourceActivate a0 s) := by
  intro a0
  delta execSourceActivate
  exact Res.Kept.ite (fun _ => (done_kept (State.activate_kept h _ _))) (fun _ => (done_kept h))

theorem execSweepDwellEnd_kept {s₀ s : State} (h : s₀.Kept s) : ∀ a0, Res.Kept s₀ (execSweepDwellEnd a0 s) := by
  intro a0
  delta execSweepDwellEnd
  split
  · exact (done_kept h)
  · refine Res.Kept.ite (fun _ => (done_kept h)) (fun _ => ?_)
    · split
      · exact (done_kept (State.stopCmd_kept h _ _))
      · refine Res.Kept.ite (fun _ => ?_) (fun _ => Res.Kept.ite (fun _ => (done_kept (State.sweepApply_kept h _ _))) (fun _ => (done_kept (State.endOk_kept h _))))
        · extract_lets +onlyGivenNames src1
          extract_lets +onlyGivenNames i2
          extract_lets +onlyGivenNames s3
          have h4 : s₀.Kept s3 := (State.modCmd_kept h _ _)
          clear_value s3
          exact (done_kept (State.Kept.foldl _ h4 fun _ _ h7 => (State.adcInjectHeld_kept h7 _ _)))

theorem execSyncEdge_kept {s₀ s : State} (h : s₀.Kept s) : ∀ a0, Res.Kept s₀ (execSyncEdge a0 s) := by
  intro a0
  delta execSyncEdge
  refine Res.Kept.ite (fun _ => (done_kept h)) (fun _ => ?_)
  · refine Res.Kept.ite (fun _ => ?_) (fun _ => Res.Kept.ite (fun _ => (done_kept (State.incSat_kept h _ _ _))) (fun _ => (done_kept h)))
    · extract_lets +onlyGivenNames st1
      extract_lets +onlyGivenNames s2
      have h3 : s₀.Kept s2 := (State.setPair_kept h _ _)
      clear_value s2
      extract_lets +onlyGivenNames s4
      have h5 : s₀.Kept s4 := by
        unfold s4
        exact State.Kept.ite (fun _ => h3) (fun _ => (State.setF_kept (State.setF_kept h3 _ _ _) _ _ _))
      clear_value s4
      exact (done_kept (State.Kept.set_syncArmed h5))

theorem execTrigArm_kept {s₀ s : State} (h : s₀.Kept s) : ∀ a0, Res.Kept s₀ (execTrigArm a0 s) := by
  intro a0
  delta execTrigArm
  split
  · exact (done_kept h)
  · split
    · exact (done_kept (State.endCmd_kept h _ _))
    · exact (done_kept (State.trigArm_kept (State.modCmd_kept h _ _) _ _))

theorem execTrigArmTimeout_kept {s₀ s : State} (h : s₀.Kept s) : ∀ a0, Res.Kept s₀ (execTrigArmTimeout a0 s) := by
  intro a0
  delta execTrigArmTimeout
  split
  · exact (done_kept h)
  · split
    · exact (done_kept h)
    · exact Res.Kept.ite (fun _ => (done_kept h)) (fun _ => (done_kept (State.trigKill_kept h _ _ _)))

theorem execTrigLineEdge_kept {s₀ s : State} (h : s₀.Kept s) : ∀ a0 a1 a2, Res.Kept s₀ (execTrigLineEdge a0 a1 a2 s) := by
  intro a0 a1 a2
  delta execTrigLineEdge
  refine Res.Kept.ite (fun _ => (done_kept h)) (fun _ => ?_)
  · extract_lets +onlyGivenNames r1
    have h2 : s₀.Kept r1.1 := (State.lineStamp_kept h _ _)
    clear_value r1
    extract_lets +onlyGivenNames tc3
    exact (done_kept (State.Kept.foldl _ h2 fun _ _ h6 => (State.offer_kept h6 _ _ _ _ _ _)))

theorem execTriggerFire_kept {s₀ s : State} (h : s₀.Kept s) : ∀ a0, Res.Kept s₀ (execTriggerFire a0 s) := by
  intro a0
  delta execTriggerFire
  exact Res.Kept.ite (fun _ => (done_kept (State.trigFire_kept h _))) (fun _ => (done_kept h))

theorem execVectorTimer_kept {s₀ s : State} (h : s₀.Kept s) : ∀ a0, Res.Kept s₀ (execVectorTimer a0 s) := by
  intro a0
  delta execVectorTimer
  exact Res.Kept.ite (fun _ => (done_kept h)) (fun _ => (done_kept (State.modVec_kept h _ _)))

end Sys2Proof.Machine
end

