-- ==== Sys2Proof/Laws/KeptRings.lean ====
section
/-! SUPPORT. State.Kept through the operations of rings, housekeeping, register writes, packets and serial ports. -/

namespace Sys2Proof.Machine

theorem State.strmStop_kept {s₀ s : State} (h : s₀.Kept s) : ∀ a1, s₀.Kept (State.strmStop s a1) :=
  fun _ => (State.Kept.foldl _ h fun _ _ h3 => (State.modEng_kept h3 _ _))

theorem State.abortOne_kept {s₀ s : State} (h : s₀.Kept s) : ∀ a1, s₀.Kept (State.abortOne s a1).1 := by
  intro a1
  delta State.abortOne
  extract_lets +onlyGivenNames r1
  extract_lets +onlyGivenNames endNow2
  have h3 : s₀.Kept endNow2.1 := by
    unfold endNow2
    exact (State.Kept.pair_fst (State.endCmd_kept h _ _))
  clear_value endNow2
  refine State.Kept.ite_fst (fun _ => (State.Kept.pair_fst (State.Kept.set_cmds h))) (fun _ => ?_)
  · split
    · extract_lets +onlyGivenNames c4
      exact State.Kept.ite_fst (fun _ => (State.Kept.pair_fst (State.stopRun_kept h _ _))) (fun _ => h3)
    · refine State.Kept.ite_fst (fun _ => h3) (fun _ => ?_)
      · split
        · split
          · exact (State.Kept.pair_fst (State.stopRun_kept h _ _))
          · exact (State.Kept.pair_fst (State.ctxFin_kept h _ _ _))
        · exact (State.Kept.pair_fst h)
    · exact State.Kept.ite_fst (fun _ => (State.Kept.pair_fst (State.endCmd_kept (State.strmStop_kept h _) _ _))) (fun _ => h3)
    · extract_lets +onlyGivenNames c5
      exact State.Kept.ite_fst (fun _ => h3) (fun _ => State.Kept.ite_fst (fun _ => (State.Kept.pair_fst (State.endCmd_kept (State.setF_kept (State.modEng_kept h _ _) _ _ _) _ _))) (fun _ => State.Kept.ite_fst (fun _ => (State.Kept.pair_fst (State.endCmd_kept (State.unjump_kept h _) _ _))) (fun _ => (State.Kept.pair_fst h))))
    · exact h3
    · exact State.Kept.ite_fst (fun _ => (State.Kept.pair_fst h)) (fun _ => State.Kept.ite_fst (fun _ => (State.Kept.pair_fst (State.jobEnd_kept h _ _ _))) (fun _ => h3))
    · exact State.Kept.ite_fst (fun _ => (State.Kept.pair_fst (State.trigKill_kept h _ _ _))) (fun _ => h3)
    · exact State.Kept.ite_fst (fun _ => (State.Kept.pair_fst h)) (fun _ => State.Kept.ite_fst (fun _ => (State.Kept.pair_fst (State.modCmd_kept h _ _))) (fun _ => h3))

theorem State.wign_kept {s₀ s : State} (h : s₀.Kept s) : ∀ a1, s₀.Kept (State.wign s a1) :=
  fun _ => (State.setF_kept h _ _ _)

theorem State.adcCtrl_kept {s₀ s : State} (h : s₀.Kept s) : ∀ a1 a2, s₀.Kept (State.adcCtrl s a1 a2) := by
  intro a1 a2
  delta State.adcCtrl
  extract_lets +onlyGivenNames b1
  extract_lets +onlyGivenNames fixed2
  extract_lets +onlyGivenNames s3
  have h4 : s₀.Kept s3 := (State.setF_kept h _ _ _)
  clear_value s3
  extract_lets +onlyGivenNames s5
  have h6 : s₀.Kept s5 := by
    unfold s5
    exact State.Kept.ite (fun _ => (State.setFs_kept h4 _ _)) (fun _ => State.Kept.ite (fun _ => (State.wign_kept h4 _)) (fun _ => h4))
  clear_value s5
  exact State.Kept.ite (fun _ => (State.adcStop_kept h6 _)) (fun _ => State.Kept.ite (fun _ => (State.adcStart_kept h6 _)) (fun _ => h6))

theorem State.adcInj_kept {s₀ s : State} (h : s₀.Kept s) : ∀ a1 a2, s₀.Kept (State.adcInj s a1 a2) := by
  intro a1 a2
  delta State.adcInj
  exact State.Kept.ite (fun _ => (State.adcPlace_kept h _ _)) (fun _ => (State.setF_kept h _ _ _))

theorem State.arbitrate_kept {s₀ s : State} (h : s₀.Kept s) : ∀ ready x, State.arbitrate s ready = some x → s₀.Kept x.2 := by
  intro ready x hx
  delta State.arbitrate at hx
  dsimp only at hx
  split at hx
  · cases hx; exact State.Kept.set_arbLast h
  · split at hx
    · obtain ⟨n, _, e⟩ := Option.map_eq_some_iff.1 hx
      cases e; exact State.Kept.set_arbLast_arbLeft h
    · cases hx

theorem State.readTag_kept {s₀ s : State} (h : s₀.Kept s) : s₀.Kept (State.readTag s).2 := by
  delta State.readTag
  extract_lets +onlyGivenNames r1
  have h2 : s₀.Kept r1.2 := (State.draw_kept h _)
  clear_value r1
  exact (State.Kept.pair_snd h2)

theorem State.fetchSq_kept {s₀ s : State} (h : s₀.Kept s) : ∀ a1, s₀.Kept (State.fetchSq s a1) := by
  intro a1
  delta State.fetchSq
  refine State.Kept.ite (fun _ => ?_) (fun _ => h)
  · extract_lets +onlyGivenNames slot1
    extract_lets +onlyGivenNames t2
    have h3 : s₀.Kept t2.2 := (State.readTag_kept h)
    clear_value t2
    extract_lets +onlyGivenNames r4
    extract_lets +onlyGivenNames src5
    have h6 : s₀.Kept src5 := h3
    clear_value src5
    exact (State.Kept.set_own_reads h6)

theorem State.fetchAll_kept {s₀ s : State} (h : s₀.Kept s) : s₀.Kept (State.fetchAll s) :=
  (State.Kept.foldl _ h fun _ _ h3 => (State.fetchSq_kept h3 _))

theorem State.takeIn_kept {s₀ s : State} (h : s₀.Kept s) : ∀ a1, s₀.Kept (State.takeIn s a1) := by
  intro a1
  delta State.takeIn
  extract_lets +onlyGivenNames c1
  extract_lets +onlyGivenNames charge2
  extract_lets +onlyGivenNames was3
  extract_lets +onlyGivenNames n4
  extract_lets +onlyGivenNames c5
  extract_lets +onlyGivenNames s16
  have h7 : s₀.Kept s16 := (State.modCmd_kept h _ _)
  clear_value s16
  extract_lets +onlyGivenNames s28
  have h9 : s₀.Kept s28 := by
    unfold s28
    exact State.Kept.ite (fun _ => h7) (fun _ => (State.Kept.foldl _ h7 fun _ _ h12 => (State.setCharge_kept h12 _ _)))
  clear_value s28
  extract_lets +onlyGivenNames s313
  have h14 : s₀.Kept s313 := by
    unfold s313
    exact State.Kept.ite (fun _ => h9) (fun _ => (State.Kept.foldl _ h9 fun _ _ h17 => (State.directYields_kept h17 _)))
  clear_value s313
  exact (State.testsYield_kept h14 _)

theorem State.admission_kept {s₀ s : State} (h : s₀.Kept s) : s₀.Kept (State.admission s) := by
  delta State.admission
  extract_lets +onlyGivenNames heads ready s0 s1
  have h1 : s₀.Kept s1 := State.Kept.set_cmds (State.Kept.foldl _ h fun _ _ g => State.Kept.foldl _ g fun _ _ g => State.contactSkip_kept g _)
  clear_value s1
  split
  · rename_i n s2 hn
    have h2 : s₀.Kept s2 := State.arbitrate_kept h1 _ (n, s2) hn
    split
    · exact State.fetchAll_kept (State.takeIn_kept h2 _)
    · exact State.fetchAll_kept h2
  · exact State.fetchAll_kept h1

theorem State.assignId_kept {s₀ s : State} (h : s₀.Kept s) : ∀ a1 a2, s₀.Kept (State.assignId s a1 a2) := by
  intro a1 a2
  delta State.assignId
  extract_lets +onlyGivenNames s1
  have h2 : s₀.Kept s1 := (State.setFs_kept h _ _)
  clear_value s1
  exact (State.Kept.foldl _ h2 fun _ _ h5 => (State.setF_kept h5 _ _ _))

theorem State.calNowHi_kept {s₀ s : State} (h : s₀.Kept s) : ∀ a1, s₀.Kept (State.calNowHi s a1) := by
  intro a1
  delta State.calNowHi
  extract_lets +onlyGivenNames v1
  refine State.Kept.ite (fun _ => (State.setF_kept h _ _ _)) (fun _ => ?_)
  · extract_lets +onlyGivenNames src2
    have h3 : s₀.Kept src2 := (State.setF_kept h _ _ _)
    clear_value src2
    exact (State.Kept.set_calSet_calAt h3)

theorem State.fieldWrite_kept {s₀ s : State} (h : s₀.Kept s) : ∀ a1 a2, s₀.Kept (State.fieldWrite s a1 a2) := by
  intro a1 a2
  delta State.fieldWrite
  split
  · exact h
  · exact (State.wr_kept h _ _)

theorem State.calWrite_kept {s₀ s : State} (h : s₀.Kept s) : ∀ a1 a2, s₀.Kept (State.calWrite s a1 a2) := by
  intro a1 a2
  delta State.calWrite
  exact State.Kept.ite (fun _ => (State.calNowHi_kept h _)) (fun _ => (State.fieldWrite_kept h _ _))

theorem State.capPart_kept {s₀ s : State} (h : s₀.Kept s) : ∀ a1 a2, s₀.Kept (State.capPart s a1 a2) := by
  intro a1 a2
  delta State.capPart
  extract_lets +onlyGivenNames b1
  extract_lets +onlyGivenNames rq2
  extract_lets +onlyGivenNames st3
  refine State.Kept.ite (fun _ => ?_) (fun _ => (State.setF_kept h _ _ _))
  · extract_lets +onlyGivenNames s4
    have h5 : s₀.Kept s4 := (State.setFs_kept h _ _)
    clear_value s4
    extract_lets +onlyGivenNames s6
    have h7 : s₀.Kept s6 := (State.sramClear_kept h5 _)
    clear_value s6
    extract_lets +onlyGivenNames s8
    have h9 : s₀.Kept s8 := (State.modTrig_kept (State.modTile_kept h7 _ _) _ _)
    clear_value s8
    exact (State.setSegRec_kept (State.setFs_kept h9 _ _) _)

theorem State.diagWrite_kept {s₀ s : State} (h : s₀.Kept s) : ∀ a1 a2, s₀.Kept (State.diagWrite s a1 a2) := by
  intro a1 a2
  delta State.diagWrite
  extract_lets +onlyGivenNames inReset1
  refine State.Kept.ite (fun _ => h) (fun _ => ?_)
  · split
    · exact State.Kept.ite (fun _ => (State.sramSet_kept h _ _ _)) (fun _ => (State.wign_kept h _))
    · exact State.Kept.ite (fun _ => State.Kept.ite (fun _ => (State.sramSet_kept h _ _ _)) (fun _ => (State.setF_kept h _ _ _))) (fun _ => State.Kept.ite (fun _ => (State.sramSet_kept h _ _ _)) (fun _ => h))
    · exact State.Kept.ite (fun _ => (State.sramSet_kept h _ _ _)) (fun _ => h)
    · exact h

theorem State.syncApply_kept {s₀ s : State} (h : s₀.Kept s) : s₀.Kept (State.syncApply s) := by
  delta State.syncApply
  refine State.Kept.ite (fun _ => State.setF_kept h _ _ _) (fun _ => ?_)
  exact State.setFs_kept (State.Kept.set_tb h fun _ => unsigned_lt 56 _) _ _

theorem State.syncArm_kept {s₀ s : State} (h : s₀.Kept s) : s₀.Kept (State.syncArm s) := by
  delta State.syncArm
  extract_lets +onlyGivenNames src1
  have h2 : s₀.Kept src1 := (State.setFs_kept h _ _)
  clear_value src1
  exact (State.Kept.set_syncArmed h2)

theorem State.syncInval_kept {s₀ s : State} (h : s₀.Kept s) : s₀.Kept (State.syncInval s) :=
  (State.setFs_kept h _ _)

theorem State.syncCtrl_kept {s₀ s : State} (h : s₀.Kept s) : ∀ a1, s₀.Kept (State.syncCtrl s a1) := by
  intro a1
  delta State.syncCtrl
  extract_lets +onlyGivenNames s1
  have h2 : s₀.Kept s1 := by
    unfold s1
    exact State.Kept.ite (fun _ => (State.syncApply_kept h)) (fun _ => h)
  clear_value s1
  extract_lets +onlyGivenNames s3
  have h4 : s₀.Kept s3 := by
    unfold s3
    exact State.Kept.ite (fun _ => (State.syncArm_kept h2)) (fun _ => h2)
  clear_value s3
  exact State.Kept.ite (fun _ => (State.syncInval_kept h4)) (fun _ => h4)

theorem State.trigPulse_kept {s₀ s : State} (h : s₀.Kept s) : ∀ a1, s₀.Kept (State.trigPulse s a1) := by
  intro a1
  delta State.trigPulse
  extract_lets +onlyGivenNames lines1
  refine State.Kept.ite (fun _ => h) (fun _ => ?_)
  · extract_lets +onlyGivenNames s2
    have h3 : s₀.Kept s2 := (State.Kept.foldl _ h fun _ _ h6 => (State.pulse_kept h6 _ _))
    clear_value s2
    exact (State.setPair_kept h3 _ _)

theorem State.trigCfg_kept {s₀ s : State} (h : s₀.Kept s) : ∀ a1, s₀.Kept (State.trigCfg s a1) := by
  intro a1
  delta State.trigCfg
  extract_lets +onlyGivenNames had1
  extract_lets +onlyGivenNames s2
  have h3 : s₀.Kept s2 := (State.wr_kept h _ _)
  clear_value s2
  refine State.Kept.foldl _ h3 fun _ _ h9 => ?_
  extract_lets +onlyGivenNames d10
  exact State.Kept.ite (fun _ => h9) (fun _ => State.Kept.ite (fun _ => (State.domArmed_kept h9 _)) (fun _ => (State.domRelease_kept h9 _)))

theorem State.mcInstall_kept {s₀ s : State} (h : s₀.Kept s) : ∀ a1, s₀.Kept (State.mcInstall s a1) := by
  intro a1
  delta State.mcInstall
  exact State.Kept.ite (fun _ => State.Kept.ite (fun _ => (State.setF_kept h _ _ _)) (fun _ => (State.setFs_kept h _ _))) (fun _ => (State.fieldWrite_kept h _ _))

theorem State.mcFsel_kept {s₀ s : State} (h : s₀.Kept s) : ∀ a1, s₀.Kept (State.mcFsel s a1) := by
  intro a1
  delta State.mcFsel
  extract_lets +onlyGivenNames e1
  extract_lets +onlyGivenNames s2
  have h3 : s₀.Kept s2 := (State.setF_kept h _ _ _)
  clear_value s2
  exact (State.Kept.foldl _ h3 fun _ _ h6 => (State.setF_kept h6 _ _ _))

theorem State.dropReads_kept {s₀ s : State} (h : s₀.Kept s) : ∀ a1, s₀.Kept (State.dropReads s a1) :=
  fun _ => (State.Kept.set_reads_fetched h)

theorem State.sqCfg_kept {s₀ s : State} (h : s₀.Kept s) : ∀ a1 a2, s₀.Kept (State.sqCfg s a1 a2) := by
  intro a1 a2
  delta State.sqCfg
  extract_lets +onlyGivenNames b1
  extract_lets +onlyGivenNames a2
  extract_lets +onlyGivenNames new3
  extract_lets +onlyGivenNames en4
  extract_lets +onlyGivenNames err5
  have h6 : ∀ y7, s₀.Kept y7 → s₀.Kept (err5 y7) := by
    intro y7 hy7
    unfold err5
    exact (State.setF_kept hy7 _ _ _)
  clear_value err5
  refine State.Kept.ite (fun _ => ?_) (fun _ => ?_)
  · extract_lets +onlyGivenNames s8
    have h9 : s₀.Kept s8 := by
      unfold s8
      exact State.Kept.ite (fun _ => (h6 _ h)) (fun _ => h)
    clear_value s8
    exact State.Kept.ite (fun _ => (State.dropReads_kept (State.setF_kept h9 _ _ _) _)) (fun _ => h9)
  · extract_lets +onlyGivenNames s10
    have h11 : s₀.Kept s10 := (State.wr_kept h _ _)
    clear_value s10
    refine State.Kept.ite (fun _ => h11) (fun _ => ?_)
    · extract_lets +onlyGivenNames m12
      exact State.Kept.ite (fun _ => (State.fetchAll_kept (State.setFs_kept h11 _ _))) (fun _ => (h6 _ h11))

theorem State.ringBase_kept {s₀ s : State} (h : s₀.Kept s) : ∀ a1 a2 a3 a4 a5, s₀.Kept (State.ringBase s a1 a2 a3 a4 a5) := by
  intro a1 a2 a3 a4 a5
  delta State.ringBase
  exact State.Kept.ite (fun _ => (State.setF_kept h _ _ _)) (fun _ => (State.wr_kept h _ _))

theorem State.sqDoorbell_kept {s₀ s : State} (h : s₀.Kept s) : ∀ a1 a2, s₀.Kept (State.sqDoorbell s a1 a2) := by
  intro a1 a2
  delta State.sqDoorbell
  extract_lets +onlyGivenNames size1
  extract_lets +onlyGivenNames t2
  exact State.Kept.ite (fun _ => (State.setF_kept h _ _ _)) (fun _ => (State.fetchAll_kept (State.setF_kept h _ _ _)))

theorem State.cqCfg_kept {s₀ s : State} (h : s₀.Kept s) : ∀ a1 a2, s₀.Kept (State.cqCfg s a1 a2) := by
  intro a1 a2
  delta State.cqCfg
  extract_lets +onlyGivenNames b1
  extract_lets +onlyGivenNames a2
  extract_lets +onlyGivenNames new3
  extract_lets +onlyGivenNames en4
  extract_lets +onlyGivenNames err5
  have h6 : ∀ y7, s₀.Kept y7 → s₀.Kept (err5 y7) := by
    intro y7 hy7
    unfold err5
    exact (State.setF_kept hy7 _ _ _)
  clear_value err5
  refine State.Kept.ite (fun _ => ?_) (fun _ => ?_)
  · refine State.Kept.ite (fun _ => (h6 _ h)) (fun _ => ?_)
    · extract_lets +onlyGivenNames s8
      have h9 : s₀.Kept s8 := by
        unfold s8
        exact State.Kept.ite (fun _ => (h6 _ h)) (fun _ => h)
      clear_value s8
      extract_lets +onlyGivenNames s10
      have h11 : s₀.Kept s10 := (State.setF_kept h9 _ _ _)
      clear_value s10
      exact State.Kept.ite (fun _ => h11) (fun _ => (State.setF_kept h11 _ _ _))
  · extract_lets +onlyGivenNames s12
    have h13 : s₀.Kept s12 := (State.wr_kept h _ _)
    clear_value s12
    exact State.Kept.ite (fun _ => h13) (fun _ => State.Kept.ite (fun _ => (State.setFs_kept h13 _ _)) (fun _ => (h6 _ h13)))

theorem State.cqDoorbell_kept {s₀ s : State} (h : s₀.Kept s) : ∀ a1 a2, s₀.Kept (State.cqDoorbell s a1 a2) := by
  intro a1 a2
  delta State.cqDoorbell
  exact State.Kept.ite (fun _ => (State.setF_kept h _ _ _)) (fun _ => (State.fetchAll_kept (State.setF_kept h _ _ _)))

theorem State.glbWrite_kept {s₀ s : State} (h : s₀.Kept s) : ∀ a1 a2 a3, s₀.Kept (State.glbWrite s a1 a2 a3) := by
  intro a1 a2 a3
  delta State.glbWrite
  refine State.Kept.ite (fun _ => (State.glbCtrl_kept h _ _ _)) (fun _ => ?_)
  · refine State.Kept.ite (fun _ => (State.glbReset_kept h _ _)) (fun _ => ?_)
    · refine State.Kept.ite (fun _ => (State.syncCtrl_kept h _)) (fun _ => ?_)
      · refine State.Kept.ite (fun _ => (State.trigPulse_kept h _)) (fun _ => ?_)
        · refine State.Kept.ite (fun _ => (State.trigCfg_kept h _)) (fun _ => ?_)
          · refine State.Kept.ite (fun _ => (State.mcInstall_kept h _)) (fun _ => ?_)
            · refine State.Kept.ite (fun _ => (State.mcFsel_kept h _)) (fun _ => ?_)
              · refine State.Kept.ite (fun _ => ?_) (fun _ => ?_)
                · extract_lets +onlyGivenNames n1
                  split
                  · exact (State.sqCfg_kept h _ _)
                  · exact (State.ringBase_kept h _ _ _ _ _)
                  · exact (State.ringBase_kept h _ _ _ _ _)
                  · exact (State.sqDoorbell_kept h _ _)
                  · exact (State.fieldWrite_kept h _ _)
                · refine State.Kept.ite (fun _ => ?_) (fun _ => (State.fieldWrite_kept h _ _))
                  · extract_lets +onlyGivenNames m2
                    split
                    · exact (State.cqCfg_kept h _ _)
                    · exact (State.ringBase_kept h _ _ _ _ _)
                    · exact (State.ringBase_kept h _ _ _ _ _)
                    · exact (State.cqDoorbell_kept h _ _)
                    · exact (State.fieldWrite_kept h _ _)

theorem State.lnkWrite_kept {s₀ s : State} (h : s₀.Kept s) : ∀ a1 a2, s₀.Kept (State.lnkWrite s a1 a2) := by
  intro a1 a2
  delta State.lnkWrite
  extract_lets +onlyGivenNames p1
  extract_lets +onlyGivenNames r2
  exact State.Kept.ite (fun _ => (State.lnkCtrl_kept h _ _)) (fun _ => State.Kept.ite (fun _ => (State.laneCfg_kept h _ _ _)) (fun _ => State.Kept.ite (fun _ => (State.wr_kept h _ _)) (fun _ => (State.fieldWrite_kept h _ _))))

theorem State.irqWrite_kept {s₀ s : State} (h : s₀.Kept s) : ∀ a1 a2, s₀.Kept (State.irqWrite s a1 a2) := by
  intro a1 a2
  delta State.irqWrite
  extract_lets +onlyGivenNames o1
  refine State.Kept.ite (fun _ => (State.eoi_kept h _)) (fun _ => ?_)
  · refine State.Kept.ite (fun _ => (State.wr_kept h _ _)) (fun _ => ?_)
    · refine State.Kept.ite (fun _ => (State.smapWrite_kept h _ _)) (fun _ => ?_)
      · refine State.Kept.ite (fun _ => (State.vecCfg_kept h _ _)) (fun _ => ?_)
        · refine State.Kept.ite (fun _ => ?_) (fun _ => (State.fieldWrite_kept h _ _))
          · extract_lets +onlyGivenNames g2
            split
            · exact (State.tgtCtrl_kept h _ _)
            · exact (State.doze_kept h _ _)
            · exact (State.rbase_kept h _ _ _)
            · exact (State.rbase_kept h _ _ _)
            · exact (State.rcons_kept h _ _)
            · exact (State.fieldWrite_kept h _ _)

theorem State.fltWrite_kept {s₀ s : State} (h : s₀.Kept s) : ∀ a1 a2, s₀.Kept (State.fltWrite s a1 a2) := by
  intro a1 a2
  delta State.fltWrite
  exact State.Kept.ite (fun _ => (State.fltAck_kept h _)) (fun _ => State.Kept.ite (fun _ => (State.fltUnstick_kept h _)) (fun _ => State.Kept.ite (fun _ => (State.fltSel_kept h _)) (fun _ => State.Kept.ite (fun _ => (State.fieldWrite_kept h _ _)) (fun _ => (State.fieldWrite_kept h _ _)))))

theorem State.setInstBudget_kept {s₀ s : State} (h : s₀.Kept s) : ∀ a1, s₀.Kept (State.setInstBudget s a1) := by
  intro a1
  delta State.setInstBudget
  extract_lets +onlyGivenNames f1
  exact (State.setF_kept h _ _ _)

theorem State.thmWrite_kept {s₀ s : State} (h : s₀.Kept s) : ∀ a1 a2, s₀.Kept (State.thmWrite s a1 a2) := by
  intro a1 a2
  delta State.thmWrite
  extract_lets +onlyGivenNames s1
  have h2 : s₀.Kept s1 := (State.fieldWrite_kept h _ _)
  clear_value s1
  exact State.Kept.ite (fun _ => (State.setInstBudget_kept h2 _)) (fun _ => h2)

theorem State.spWrite_kept {s₀ s : State} (h : s₀.Kept s) : ∀ a1 a2, s₀.Kept (State.spWrite s a1 a2) := by
  intro a1 a2
  delta State.spWrite
  exact State.Kept.ite (fun _ => (State.spaCmd_kept h _)) (fun _ => (State.fieldWrite_kept h _ _))

theorem State.rqHcons_kept {s₀ s : State} (h : s₀.Kept s) : ∀ a1 a2, s₀.Kept (State.rqHcons s a1 a2) := by
  intro a1 a2
  delta State.rqHcons
  exact State.Kept.ite (fun _ => (State.setF_kept h _ _ _)) (fun _ => h)

theorem State.stbCtrl_kept {s₀ s : State} (h : s₀.Kept s) : ∀ a1 a2, s₀.Kept (State.stbCtrl s a1 a2) := by
  intro a1 a2
  delta State.stbCtrl
  extract_lets +onlyGivenNames b1
  extract_lets +onlyGivenNames start2
  extract_lets +onlyGivenNames s3
  have h4 : s₀.Kept s3 := (State.setFs_kept h _ _)
  clear_value s3
  exact State.Kept.ite (fun _ => (State.stbRestart_kept h4 _)) (fun _ => h4)

theorem State.tilWrite_kept {s₀ s : State} (h : s₀.Kept s) : ∀ a1 a2 a3, s₀.Kept (State.tilWrite s a1 a2 a3) := by
  intro a1 a2 a3
  delta State.tilWrite
  extract_lets +onlyGivenNames b1
  extract_lets +onlyGivenNames a2
  refine State.Kept.ite (fun _ => State.Kept.ite (fun _ => (State.setF_kept h _ _ _)) (fun _ => (State.fieldWrite_kept h _ _))) (fun _ => ?_)
  · refine State.Kept.ite (fun _ => (State.rqHcons_kept h _ _)) (fun _ => ?_)
    · refine State.Kept.ite (fun _ => (State.modTile_kept (State.fieldWrite_kept h _ _) _ _)) (fun _ => ?_)
      · refine State.Kept.ite (fun _ => State.Kept.ite (fun _ => (State.setF_kept h _ _ _)) (fun _ => (State.fieldWrite_kept h _ _))) (fun _ => ?_)
        · refine State.Kept.ite (fun _ => (State.stbCtrl_kept h _ _)) (fun _ => ?_)
          · refine State.Kept.ite (fun _ => (State.capPart_kept h _ _)) (fun _ => ?_)
            · refine State.Kept.ite (fun _ => State.Kept.ite (fun _ => (State.setF_kept h _ _ _)) (fun _ => (State.fieldWrite_kept h _ _))) (fun _ => ?_)
              · refine State.Kept.ite (fun _ => ?_) (fun _ => State.Kept.ite (fun _ => State.Kept.ite (fun _ => (State.setF_kept h _ _ _)) (fun _ => (State.setSegRec_kept (State.fieldWrite_kept h _ _) _))) (fun _ => (State.fieldWrite_kept h _ _)))
                · extract_lets +onlyGivenNames c3
                  exact State.Kept.ite (fun _ => (State.setF_kept h _ _ _)) (fun _ => (State.fieldWrite_kept h _ _))

theorem State.feCfg_kept {s₀ s : State} (h : s₀.Kept s) : ∀ a1 a2, s₀.Kept (State.feCfg s a1 a2) := by
  intro a1 a2
  delta State.feCfg
  exact State.Kept.ite (fun _ => (State.loadSetting_kept (State.fieldWrite_kept h _ _) _)) (fun _ => (State.wign_kept h _))

theorem State.sineWrite_kept {s₀ s : State} (h : s₀.Kept s) : ∀ a1 a2, s₀.Kept (State.sineWrite s a1 a2) := by
  intro a1 a2
  delta State.sineWrite
  exact State.Kept.ite (fun _ => (State.sineCtrl_kept h _ _ _)) (fun _ => (State.wign_kept h _))

theorem State.timUofs_kept {s₀ s : State} (h : s₀.Kept s) : ∀ a1 a2, s₀.Kept (State.timUofs s a1 a2) := by
  intro a1 a2
  delta State.timUofs
  exact State.Kept.ite (fun _ => (State.wign_kept h _)) (fun _ => State.Kept.ite (fun _ => (State.fieldWrite_kept h _ _)) (fun _ => h))

theorem State.frontWrite_kept {s₀ s : State} (h : s₀.Kept s) : ∀ a1 a2 a3, s₀.Kept (State.frontWrite s a1 a2 a3) := by
  intro a1 a2 a3
  delta State.frontWrite
  extract_lets +onlyGivenNames a1
  exact State.Kept.ite (fun _ => (State.feCfg_kept h _ _)) (fun _ => State.Kept.ite (fun _ => State.Kept.ite (fun _ => (State.fieldWrite_kept h _ _)) (fun _ => (State.wign_kept h _))) (fun _ => State.Kept.ite (fun _ => (State.sineWrite_kept h _ _)) (fun _ => State.Kept.ite (fun _ => State.Kept.ite (fun _ => (State.fieldWrite_kept h _ _)) (fun _ => (State.wign_kept h _))) (fun _ => State.Kept.ite (fun _ => (State.adcCtrl_kept h _ _)) (fun _ => State.Kept.ite (fun _ => (State.adcInj_kept h _ _)) (fun _ => State.Kept.ite (fun _ => State.Kept.ite (fun _ => (State.wign_kept h _)) (fun _ => (State.fieldWrite_kept h _ _))) (fun _ => State.Kept.ite (fun _ => (State.timUofs_kept h _ _)) (fun _ => State.Kept.ite (fun _ => State.Kept.ite (fun _ => (State.cmpWriteCfg_kept h _ _)) (fun _ => (State.wign_kept h _))) (fun _ => State.Kept.ite (fun _ => State.Kept.ite (fun _ => (State.cmpWriteThr_kept h _ _)) (fun _ => (State.wign_kept h _))) (fun _ => (State.fieldWrite_kept h _ _)))))))))))

theorem State.seqCtrl_kept {s₀ s : State} (h : s₀.Kept s) : ∀ a1 a2, s₀.Kept (State.seqCtrl s a1 a2) := by
  intro a1 a2
  delta State.seqCtrl
  exact State.Kept.ite (fun _ => (State.waitMet_kept h _ _)) (fun _ => h)

theorem State.engineWrite_kept {s₀ s : State} (h : s₀.Kept s) : ∀ a1 a2 a3, s₀.Kept (State.engineWrite s a1 a2 a3) := by
  intro a1 a2 a3
  delta State.engineWrite
  extract_lets +onlyGivenNames a1
  exact State.Kept.ite (fun _ => (State.seqCtrl_kept h _ _)) (fun _ => State.Kept.ite (fun _ => (State.wign_kept h _)) (fun _ => (State.fieldWrite_kept h _ _)))

theorem State.regWrite_kept {s₀ s : State} (h : s₀.Kept s) : ∀ a1 a2 a3, s₀.Kept (State.regWrite s a1 a2 a3) := by
  intro a1 a2 a3
  delta State.regWrite
  refine State.Kept.ite (fun _ => h) (fun _ => ?_)
  · refine State.Kept.ite (fun _ => (State.diagWrite_kept h _ _)) (fun _ => ?_)
    · refine State.Kept.ite (fun _ => h) (fun _ => ?_)
      · split
        · exact (State.glbWrite_kept h _ _ _)
        · exact (State.lnkWrite_kept h _ _)
        · exact (State.irqWrite_kept h _ _)
        · exact (State.fltWrite_kept h _ _)
        · exact (State.calWrite_kept h _ _)
        · exact (State.thmWrite_kept h _ _)
        · exact (State.spWrite_kept h _ _)
        · exact (State.tilWrite_kept h _ _ _)
        · exact (State.frontWrite_kept h _ _ _)
        · exact (State.engineWrite_kept h _ _ _)
        · exact h

theorem State.writeRequest_kept {s₀ s : State} (h : s₀.Kept s) : ∀ a1, s₀.Kept (State.writeRequest s a1) :=
  fun _ => (State.Kept.foldl _ h fun _ _ h3 => State.Kept.ite (fun _ => h3) (fun _ => State.regWrite_kept h3 _ _ _))

theorem State.readRequest_kept {s₀ s : State} (h : s₀.Kept s) : ∀ a1 a2, s₀.Kept (State.readRequest s a1 a2).2 := by
  intro a1 a2
  delta State.readRequest
  extract_lets +onlyGivenNames r1
  have h2 : s₀.Kept r1.2 := by
    unfold r1
    refine State.Kept.foldl_snd _ (State.Kept.pair_snd h) fun _ _ h5 => ?_
    extract_lets +onlyGivenNames y6
    have h7 : s₀.Kept y6.2 := (State.readLink_kept h5 _ _)
    clear_value y6
    exact (State.Kept.pair_snd h7)
  clear_value r1
  exact (State.Kept.pair_snd h2)

theorem State.sqFailed_kept {s₀ s : State} (h : s₀.Kept s) : ∀ a1, s₀.Kept (State.sqFailed s a1) := by
  intro a1
  delta State.sqFailed
  exact State.Kept.ite (fun _ => (State.dropReads_kept (State.setF_kept (State.setF_kept h _ _ _) _ _ _) _)) (fun _ => h)

theorem State.takeCpl_kept {s₀ s : State} (h : s₀.Kept s) : ∀ a1, s₀.Kept (State.takeCpl s a1) := by
  intro a1
  delta State.takeCpl
  split
  · exact (State.incSat_kept h _ _ _)
  · refine State.Kept.ite (fun _ => (State.sqFailed_kept (State.rdFail_kept (State.Kept.set_reads h) _) _)) (fun _ => ?_)
    · extract_lets +onlyGivenNames here1
      extract_lets +onlyGivenNames got2
      refine State.Kept.ite (fun _ => ?_) (fun _ => (State.Kept.set_reads h))
      · extract_lets +onlyGivenNames ws3
        extract_lets +onlyGivenNames s4
        have h5 : s₀.Kept s4 := (State.Kept.set_reads h)
        clear_value s4
        exact State.Kept.ite (fun _ => h5) (fun _ => (State.Kept.set_fetched h5))

theorem State.consume_kept {s₀ s : State} (h : s₀.Kept s) : ∀ t ecc, s₀.Kept (State.consume s t ecc) := by
  intro t ecc
  delta State.consume
  split
  · exact State.incSat_kept h _ _ _
  · exact State.reply_kept (State.incSat_kept h _ _ _) _
  · refine State.Kept.ite (fun _ => State.reply_kept h _) (fun _ => ?_)
    have g := State.reply_kept (State.writeRequest_kept h t) (t.cpl 0)
    exact State.Kept.ite (fun _ => State.moduleReset_kept g _) (fun _ => g)
  · refine State.Kept.ite (fun _ => State.reply_kept h _) (fun _ => ?_)
    have g := State.readRequest_kept h t ecc
    split
    · rename_i ws z e; rw [e] at g; exact State.reply_kept g _
    · rename_i z e; rw [e] at g; exact State.reply_kept g _
  · exact State.takeCpl_kept h _

theorem State.freeUnits_kept {s₀ s : State} (h : s₀.Kept s) : ∀ a1 a2, s₀.Kept (State.freeUnits s a1 a2) :=
  fun _ _ => (State.modPort_kept h _ _)

theorem State.malformed_kept {s₀ s : State} (h : s₀.Kept s) : ∀ a1, s₀.Kept (State.malformed s a1) :=
  fun _ => (State.incSat_kept h _ _ _)

theorem State.releaseId_kept {s₀ s : State} (h : s₀.Kept s) : s₀.Kept (State.releaseId s) := by
  delta State.releaseId
  extract_lets +onlyGivenNames s1
  have h2 : s₀.Kept s1 := (State.setFs_kept h _ _)
  clear_value s1
  extract_lets +onlyGivenNames s3
  have h4 : s₀.Kept s3 := (State.Kept.foldl _ h2 fun _ _ h7 => (State.setF_kept h7 _ _ _))
  clear_value s3
  exact (State.Kept.foldl _ h4 fun _ _ h10 => (State.setF_kept h10 _ _ _))

theorem State.enumAct_kept {s₀ s : State} (h : s₀.Kept s) : ∀ a1 a2, s₀.Kept (State.enumAct s a1 a2).1 := by
  intro a1 a2
  delta State.enumAct
  extract_lets +onlyGivenNames d1
  extract_lets +onlyGivenNames id2
  split
  · exact (State.Kept.pair_fst h)
  · exact State.Kept.ite_fst (fun _ => (State.Kept.pair_fst h)) (fun _ => State.Kept.ite_fst (fun _ => (State.Kept.pair_fst (State.assignId_kept h _ _))) (fun _ => (State.Kept.pair_fst h)))
  · exact (State.Kept.pair_fst (State.releaseId_kept h))
  · exact (State.Kept.pair_fst h)

theorem State.noRoute_kept {s₀ s : State} (h : s₀.Kept s) : ∀ a1, s₀.Kept (State.noRoute s a1) :=
  fun _ => (State.incSat_kept h _ _ _)

theorem State.forward_kept {s₀ s : State} (h : s₀.Kept s) : ∀ a1 a2 a3, s₀.Kept (State.forward s a1 a2 a3) :=
  fun _ _ _ => (State.modPort_kept h _ _)

theorem State.enumTp_kept {s₀ s : State} (h : s₀.Kept s) : ∀ a1 a2, s₀.Kept (State.enumTp s a1 a2) := by
  intro a1 a2
  delta State.enumTp
  extract_lets +onlyGivenNames isC1
  refine State.Kept.ite (fun _ => (State.freeUnits_kept (State.malformed_kept h _) _ _)) (fun _ => ?_)
  · refine State.Kept.ite (fun _ => ?_) (fun _ => ?_)
    · refine State.Kept.ite (fun _ => (State.freeUnits_kept (State.malformed_kept h _) _ _)) (fun _ => ?_)
      · extract_lets +onlyGivenNames a2
        have h3 : s₀.Kept a2.1 := (State.enumAct_kept h _ _)
        clear_value a2
        exact (State.freeUnits_kept (State.reply_kept h3 _) _ _)
    · extract_lets +onlyGivenNames e4
      refine State.Kept.ite (fun _ => ?_) (fun _ => State.Kept.ite (fun _ => (State.freeUnits_kept (State.noRoute_kept h _) _ _)) (fun _ => (State.freeUnits_kept (State.reply_kept h _) _ _)))
      · extract_lets +onlyGivenNames r5
        exact (State.forward_kept h _ _ _)

theorem State.deliverTp_kept {s₀ s : State} (h : s₀.Kept s) : ∀ a1 a2 a3, s₀.Kept (State.deliverTp s a1 a2 a3) := by
  intro a1 a2 a3
  delta State.deliverTp
  extract_lets +onlyGivenNames own1
  refine State.Kept.ite (fun _ => ?_) (fun _ => ?_)
  · extract_lets +onlyGivenNames s2
    have h3 : s₀.Kept s2 := (State.freeUnits_kept (State.malformed_kept h _) _ _)
    clear_value s2
    exact State.Kept.ite (fun _ => (State.reply_kept h3 _)) (fun _ => h3)
  · refine State.Kept.ite (fun _ => (State.enumTp_kept h _ _)) (fun _ => ?_)
    · refine State.Kept.ite (fun _ => (State.freeUnits_kept (State.noRoute_kept h _) _ _)) (fun _ => ?_)
      · refine State.Kept.ite (fun _ => ?_) (fun _ => ?_)
        · extract_lets +onlyGivenNames s4
          have h5 : s₀.Kept s4 := (State.consume_kept h _ _)
          clear_value s4
          exact State.Kept.ite (fun _ => h5) (fun _ => (State.freeUnits_kept h5 _ _))
        · refine State.Kept.ite (fun _ => (State.freeUnits_kept (State.incSat_kept h _ _ _) _ _)) (fun _ => ?_)
          · split
            · exact (State.forward_kept h _ _ _)
            · extract_lets +onlyGivenNames s6
              have h7 : s₀.Kept s6 := (State.freeUnits_kept (State.noRoute_kept h _) _ _)
              clear_value s6
              exact State.Kept.ite (fun _ => (State.reply_kept h7 _)) (fun _ => h7)

theorem State.nakDue_kept {s₀ s : State} (h : s₀.Kept s) : ∀ a1, s₀.Kept (State.nakDue s a1) := by
  intro a1
  delta State.nakDue
  exact State.Kept.ite (fun _ => h) (fun _ => (State.modPort_kept (State.incSat_kept h _ _ _) _ _))

theorem State.framing_kept {s₀ s : State} (h : s₀.Kept s) : ∀ a1 a2, s₀.Kept (State.framing s a1 a2) := by
  intro a1 a2
  delta State.framing
  extract_lets +onlyGivenNames s1
  have h2 : s₀.Kept s1 := (State.incSat_kept h _ _ _)
  clear_value s1
  exact State.Kept.ite (fun _ => h2) (fun _ => (State.nakDue_kept (State.incSat_kept h2 _ _ _) _))

theorem State.thermal_kept {s₀ s : State} (h : s₀.Kept s) : ∀ a1 a2 a3, s₀.Kept (State.thermal s a1 a2 a3) := by
  intro a1 a2 a3
  delta State.thermal
  extract_lets +onlyGivenNames i1
  extract_lets +onlyGivenNames present2
  exact State.Kept.ite (fun _ => State.Kept.ite (fun _ => h) (fun _ => (State.detect_kept h _ _ _ _))) (fun _ => State.Kept.ite (fun _ => State.Kept.ite (fun _ => h) (fun _ => (State.detect_kept h _ _ _ _))) (fun _ => State.Kept.ite (fun _ => (State.condEnd_kept h _ _ _)) (fun _ => h)))

theorem State.sensorFault_kept {s₀ s : State} (h : s₀.Kept s) : ∀ a1 a2 a3, s₀.Kept (State.sensorFault s a1 a2 a3) := by
  intro a1 a2 a3
  delta State.sensorFault
  split
  · exact (State.detect_kept h _ _ _ _)
  · exact State.Kept.ite (fun _ => h) (fun _ => (State.condEnd_kept h _ _ _))

theorem State.publishTile_kept {s₀ s : State} (h : s₀.Kept s) : ∀ a1 a2, s₀.Kept (State.publishTile s a1 a2) := by
  intro a1 a2
  delta State.publishTile
  extract_lets +onlyGivenNames b1
  extract_lets +onlyGivenNames ns2
  extract_lets +onlyGivenNames h3
  extract_lets +onlyGivenNames s4
  have h5 : s₀.Kept s4 := by
    unfold s4
    exact State.Kept.ite (fun _ => (State.setF_kept h _ _ _)) (fun _ => h)
  clear_value s4
  extract_lets +onlyGivenNames s6
  have h7 : s₀.Kept s6 := (State.setF_kept (State.setF_kept h5 _ _ _) _ _ _)
  clear_value s6
  extract_lets +onlyGivenNames s8
  have h9 : s₀.Kept s8 := (State.thermal_kept (State.sensorFault_kept h7 _ _ _) _ _ _)
  clear_value s8
  extract_lets +onlyGivenNames f10
  exact (State.setInstBudget_kept (State.modTile_kept h9 _ _) _)

theorem State.readWords_kept {s₀ s : State} (h : s₀.Kept s) : ∀ a1 a2 a3, s₀.Kept (State.readWords s a1 a2 a3).2 := by
  intro a1 a2 a3
  delta State.readWords
  extract_lets +onlyGivenNames r1
  have h2 : s₀.Kept r1.2 := by
    unfold r1
    refine State.Kept.foldl_snd _ (State.Kept.pair_snd h) fun _ _ h5 => ?_
    extract_lets +onlyGivenNames y6
    have h7 : s₀.Kept y6.2 := (State.readPlain_kept h5 _ _ _)
    clear_value y6
    exact (State.Kept.pair_snd h7)
  clear_value r1
  exact (State.Kept.pair_snd h2)

theorem State.sensorTake_kept {s₀ s : State} (h : s₀.Kept s) : ∀ a1 a2, s₀.Kept (State.sensorTake s a1 a2) := by
  intro a1 a2
  delta State.sensorTake
  extract_lets +onlyGivenNames b1
  extract_lets +onlyGivenNames s2
  have h3 : s₀.Kept s2 := (State.setF_kept h _ _ _)
  clear_value s2
  refine State.Kept.ite (fun _ => ?_) (fun _ => ?_)
  · extract_lets +onlyGivenNames s4
    have h5 : s₀.Kept s4 := (State.Kept.set_good h3 (fun w => tabWf_tabSet (h3.wf w).good _ _))
    clear_value s4
    extract_lets +onlyGivenNames s6
    have h7 : s₀.Kept s6 := by
      unfold s6
      exact State.Kept.ite (fun _ => h5) (fun _ => (State.Kept.set_newBroken h5))
    clear_value s6
    exact (State.setFs_kept h7 _ _)
  · extract_lets +onlyGivenNames e8
    extract_lets +onlyGivenNames s9
    have h10 : s₀.Kept s9 := (State.setF_kept h3 _ _ _)
    clear_value s9
    refine State.Kept.ite (fun _ => ?_) (fun _ => (State.setF_kept h10 _ _ _))
    · extract_lets +onlyGivenNames g11
      refine State.Kept.ite (fun _ => ?_) (fun _ => (State.Kept.set_good h10 (fun w => tabWf_tabSet (h10.wf w).good _ _)))
      · extract_lets +onlyGivenNames src12
        have h13 : s₀.Kept src12 := (State.setFs_kept h10 _ _)
        clear_value src12
        exact (State.Kept.set_good h13 (fun w => tabWf_tabSet (h10.wf w).good _ _))

theorem State.sliceStop_kept {s₀ s : State} (h : s₀.Kept s) : ∀ a1 a2, s₀.Kept (State.sliceStop s a1 a2) := by
  intro a1 a2
  delta State.sliceStop
  split
  · exact h
  · refine State.Kept.ite (fun _ => (State.anchorKill_kept h _)) (fun _ => ?_)
    · extract_lets +onlyGivenNames s1
      have h2 : s₀.Kept s1 := (State.Kept.set_archNow_archNext_tests h)
      clear_value s1
      exact (State.stopCmd_kept (State.Kept.set_commitCmds h2) _ _)

theorem State.spbReadWord_kept {s₀ s : State} (h : s₀.Kept s) : ∀ a1 a2 a3, s₀.Kept (State.spbReadWord s a1 a2 a3).2 := by
  intro a1 a2 a3
  delta State.spbReadWord
  refine State.Kept.ite_snd (fun _ => (State.Kept.pair_snd (State.setF_kept h _ _ _))) (fun _ => ?_)
  · refine State.Kept.ite_snd (fun _ => (State.Kept.pair_snd h)) (fun _ => ?_)
    · split
      · exact (State.Kept.pair_snd h)
      · extract_lets +onlyGivenNames r1
        have h2 : s₀.Kept r1.2 := (State.readPlain_kept h _ _ _)
        clear_value r1
        exact (State.Kept.pair_snd h2)

theorem State.spbReject_kept {s₀ s : State} (h : s₀.Kept s) : ∀ a1, s₀.Kept (State.spbReject s a1) :=
  fun _ => (State.setFs_kept (State.incSat_kept h _ _ _) _ _)

theorem State.spbWriteWord_kept {s₀ s : State} (h : s₀.Kept s) : ∀ a1 a2, s₀.Kept (State.spbWriteWord s a1 a2) := by
  intro a1 a2
  delta State.spbWriteWord
  exact State.Kept.ite (fun _ => h) (fun _ => State.Kept.ite (fun _ => (State.setF_kept h _ _ _)) (fun _ => (State.regWrite_kept h _ _ _)))

theorem State.takeTp_kept {s₀ s : State} (h : s₀.Kept s) : ∀ a1 a2 a3 a4, s₀.Kept (State.takeTp s a1 a2 a3 a4) := by
  intro a1 a2 a3 a4
  delta State.takeTp
  extract_lets +onlyGivenNames d1
  refine State.Kept.ite (fun _ => ?_) (fun _ => State.Kept.ite (fun _ => (State.modPort_kept h _ _)) (fun _ => (State.nakDue_kept h _)))
  · refine State.Kept.ite (fun _ => (State.toRecovery_kept (State.malformed_kept h _) _)) (fun _ => ?_)
    · extract_lets +onlyGivenNames s2
      have h3 : s₀.Kept s2 := (State.modPort_kept h _ _)
      clear_value s2
      exact (State.deliverTp_kept h3 _ _ _)

theorem State.writeReg_kept {s₀ s : State} (h : s₀.Kept s) : ∀ a1 a2 a3, s₀.Kept (State.writeReg s a1 a2 a3) :=
  fun _ _ _ => (State.regWrite_kept h _ _ _)

theorem State.xferJudge_kept {s₀ s : State} (h : s₀.Kept s) : ∀ a1, s₀.Kept (State.xferJudge s a1) := by
  intro a1
  delta State.xferJudge
  extract_lets +onlyGivenNames b1
  extract_lets +onlyGivenNames s2
  have h3 : s₀.Kept s2 := by
    unfold s2
    exact State.Kept.ite (fun _ => (State.setF_kept h _ _ _)) (fun _ => h)
  clear_value s2
  exact State.Kept.ite (fun _ => (State.modTile_kept (State.setF_kept h3 _ _ _) _ _)) (fun _ => h3)

theorem execAbort_kept {s₀ s : State} (h : s₀.Kept s) : ∀ a0, Res.Kept s₀ (execAbort a0 s) := by
  intro a0
  delta execAbort
  split
  · exact (done_kept h)
  · extract_lets +onlyGivenNames all1
    extract_lets +onlyGivenNames sq2
    extract_lets +onlyGivenNames named3
    extract_lets +onlyGivenNames r4
    have h5 : s₀.Kept r4.1 := by
      unfold r4
      refine State.Kept.foldl_fst _ (State.Kept.pair_fst h) fun _ _ h8 => ?_
      split
      · extract_lets +onlyGivenNames y9
        have h10 : s₀.Kept y9.1 := (State.abortOne_kept h8 _)
        clear_value y9
        exact (State.Kept.pair_fst h10)
      · exact (State.Kept.pair_fst h8)
    clear_value r4
    extract_lets +onlyGivenNames n11
    extract_lets +onlyGivenNames res12
    extract_lets +onlyGivenNames s13
    have h14 : s₀.Kept s13 := (State.endCmd_kept (State.modCmd_kept h5 _ _) _ _)
    clear_value s13
    exact (done_kept (State.fetchAll_kept h14))

theorem execAdcInject_kept {s₀ s : State} (h : s₀.Kept s) : ∀ a0 a1, Res.Kept s₀ (execAdcInject a0 a1 s) :=
  fun _ _ => (done_kept (State.writeReg_kept h _ _ _))

theorem execAdcStart_kept {s₀ s : State} (h : s₀.Kept s) : ∀ a0 a1, Res.Kept s₀ (execAdcStart a0 a1 s) :=
  fun _ _ => (done_kept (State.writeReg_kept h _ _ _))

theorem execAdcStop_kept {s₀ s : State} (h : s₀.Kept s) : ∀ a0 a1, Res.Kept s₀ (execAdcStop a0 a1 s) :=
  fun _ _ => (done_kept (State.writeReg_kept h _ _ _))

theorem execCalTimeSet_kept {s₀ s : State} (h : s₀.Kept s) : ∀ a0, Res.Kept s₀ (execCalTimeSet a0 s) :=
  fun _ => (done_kept (State.writeReg_kept h _ _ _))

theorem execCapPartitionWrite_kept {s₀ s : State} (h : s₀.Kept s) : ∀ a0 a1, Res.Kept s₀ (execCapPartitionWrite a0 a1 s) :=
  fun _ _ => (done_kept (State.writeReg_kept h _ _ _))

theorem execCommandAdmit_kept {s₀ s : State} (h : s₀.Kept s) : Res.Kept s₀ (execCommandAdmit s) := by
  delta execCommandAdmit
  exact Res.Kept.ite (fun _ => (done_kept (State.admission_kept h))) (fun _ => (done_kept h))

theorem execCompletionWrite_kept {s₀ s : State} (h : s₀.Kept s) : ∀ a0 a1, Res.Kept s₀ (execCompletionWrite a0 a1 s) := by
  intro a0 a1
  delta execCompletionWrite
  split
  · exact (done_kept h)
  · split
    · exact (done_kept h)
    · refine Res.Kept.ite (fun _ => (done_kept h)) (fun _ => ?_)
      · extract_lets +onlyGivenNames m1
        extract_lets +onlyGivenNames k2
        extract_lets +onlyGivenNames st3
        have h4 : s₀.Kept st3.2 := by
          unfold st3
          exact State.Kept.ite_snd (fun _ => (State.Kept.pair_snd h)) (fun _ => (State.draw_kept h _))
        clear_value st3
        extract_lets +onlyGivenNames en5
        extract_lets +onlyGivenNames s6
        have h7 : s₀.Kept s6 := h4
        clear_value s6
        extract_lets +onlyGivenNames s8
        have h9 : s₀.Kept s8 := (State.hostWrite_kept h7 _ _)
        clear_value s8
        extract_lets +onlyGivenNames s10
        have h11 : s₀.Kept s10 := (State.incWrap_kept h9 _ _ _)
        clear_value s10
        extract_lets +onlyGivenNames s12
        have h13 : s₀.Kept s12 := (State.hostSet_kept h11 _ _ _)
        clear_value s12
        exact (done_kept (State.fetchAll_kept (State.Kept.set_cmds h13)))

theorem execCqDisable_kept {s₀ s : State} (h : s₀.Kept s) : ∀ a0 a1, Res.Kept s₀ (execCqDisable a0 a1 s) := by
  intro a0 a1
  delta execCqDisable
  exact Res.Kept.ite (fun _ => (done_kept (State.cqCfg_kept h _ _))) (fun _ => (done_kept h))

theorem execCqDoorbell_kept {s₀ s : State} (h : s₀.Kept s) : ∀ a0 a1, Res.Kept s₀ (execCqDoorbell a0 a1 s) := by
  intro a0 a1
  delta execCqDoorbell
  exact Res.Kept.ite (fun _ => (done_kept (State.cqDoorbell_kept h _ _))) (fun _ => (done_kept h))

theorem execCqEnable_kept {s₀ s : State} (h : s₀.Kept s) : ∀ a0 a1, Res.Kept s₀ (execCqEnable a0 a1 s) := by
  intro a0 a1
  delta execCqEnable
  exact Res.Kept.ite (fun _ => (done_kept (State.cqCfg_kept h _ _))) (fun _ => (done_kept h))

theorem execDescriptorIntake_kept {s₀ s : State} (h : s₀.Kept s) : ∀ a0, Res.Kept s₀ (execDescriptorIntake a0 s) := by
  intro a0
  delta execDescriptorIntake
  split
  · exact (done_kept h)
  · refine Res.Kept.ite (fun _ => (done_kept h)) (fun _ => ?_)
    · extract_lets +onlyGivenNames c1
      extract_lets +onlyGivenNames s2
      have h3 : s₀.Kept s2 := (State.Kept.set_cmds_intakes_fetched h)
      clear_value s2
      extract_lets +onlyGivenNames s4
      have h5 : s₀.Kept s4 := (State.incWrap_kept h3 _ _ _)
      clear_value s4
      exact (done_kept (State.fetchAll_kept (State.hostSet_kept h5 _ _ _)))

theorem execDescriptorReadError_kept {s₀ s : State} (h : s₀.Kept s) : ∀ a0, Res.Kept s₀ (execDescriptorReadError a0 s) := by
  intro a0
  delta execDescriptorReadError
  exact Res.Kept.ite (fun _ => (done_kept (State.sqFailed_kept (State.rdFail_kept (State.Kept.set_reads h) _) _))) (fun _ => (done_kept h))

theorem execDiagBlackbox_kept {s₀ s : State} (h : s₀.Kept s) : ∀ a0, Res.Kept s₀ (execDiagBlackbox a0 s) := by
  intro a0
  delta execDiagBlackbox
  split
  · exact (done_kept h)
  · refine Res.Kept.ite (fun _ => (done_kept h)) (fun _ => ?_)
    · extract_lets +onlyGivenNames n1
      extract_lets +onlyGivenNames l2
      extract_lets +onlyGivenNames o3
      have h4 : s₀.Kept o3.1 := (State.output_kept h _ _)
      clear_value o3
      exact (done_kept (State.endCmd_kept h4 _ _))

theorem execDiagEcho_kept {s₀ s : State} (h : s₀.Kept s) : ∀ a0, Res.Kept s₀ (execDiagEcho a0 s) := by
  intro a0
  delta execDiagEcho
  split
  · exact (done_kept h)
  · refine Res.Kept.ite (fun _ => (done_kept h)) (fun _ => ?_)
    · extract_lets +onlyGivenNames o1
      have h2 : s₀.Kept o1.1 := (State.output_kept h _ _)
      clear_value o1
      exact (done_kept (State.endCmd_kept h2 _ _))

theorem execDiagRegs_kept {s₀ s : State} (h : s₀.Kept s) : ∀ a0 a1, Res.Kept s₀ (execDiagRegs a0 a1 s) := by
  intro a0 a1
  delta execDiagRegs
  split
  · exact (done_kept h)
  · refine Res.Kept.ite (fun _ => (done_kept h)) (fun _ => ?_)
    · extract_lets +onlyGivenNames r1
      have h2 : s₀.Kept r1.2 := (State.readWords_kept h _ _ _)
      clear_value r1
      extract_lets +onlyGivenNames o3
      have h4 : s₀.Kept o3.1 := (State.output_kept h2 _ _)
      clear_value o3
      exact (done_kept (State.endCmd_kept h4 _ _))

theorem execDiagWindowRead_kept {s₀ s : State} (h : s₀.Kept s) : ∀ a0 a1 a2, Res.Kept s₀ (execDiagWindowRead a0 a1 a2 s) := by
  intro a0 a1 a2
  delta execDiagWindowRead
  extract_lets +onlyGivenNames r1
  have h2 : s₀.Kept r1.2 := (State.diagRead_kept h _ _)
  clear_value r1
  apply done_kept
  extract_lets +onlyGivenNames src3
  have h4 : s₀.Kept src3 := h2
  clear_value src3
  exact (State.Kept.set_diagOut h4)

theorem execDiagWindowWrite_kept {s₀ s : State} (h : s₀.Kept s) : ∀ a0 a1 a2, Res.Kept s₀ (execDiagWindowWrite a0 a1 a2 s) :=
  fun _ _ _ => (done_kept (State.regWrite_kept h _ _ _))

theorem execFaultAck_kept {s₀ s : State} (h : s₀.Kept s) : ∀ a0, Res.Kept s₀ (execFaultAck a0 s) := by
  intro a0
  delta execFaultAck
  split
  · exact (done_kept h)
  · extract_lets +onlyGivenNames r1
    have h2 : s₀.Kept r1.1 := (State.acknowledge_kept h _ _ _)
    clear_value r1
    exact (done_kept (State.endCmd_kept h2 _ _))

theorem execFence_kept {s₀ s : State} (h : s₀.Kept s) : ∀ a0, Res.Kept s₀ (execFence a0 s) := by
  intro a0
  delta execFence
  split
  · exact (done_kept h)
  · exact (done_kept (State.endCmd_kept h _ _))

theorem execHoldLimitExpire_kept {s₀ s : State} (h : s₀.Kept s) : ∀ a0, Res.Kept s₀ (execHoldLimitExpire a0 s) := by
  intro a0
  delta execHoldLimitExpire
  split
  · exact (done_kept h)
  · refine Res.Kept.ite (fun _ => (done_kept h)) (fun _ => ?_)
    · extract_lets +onlyGivenNames w1
      exact (done_kept (State.fetchAll_kept (State.modCmd_kept h _ _)))

theorem execIrqDoze_kept {s₀ s : State} (h : s₀.Kept s) : ∀ a0 a1, Res.Kept s₀ (execIrqDoze a0 a1 s) :=
  fun _ _ => (done_kept (State.writeReg_kept h _ _ _))

theorem execIrqEoi_kept {s₀ s : State} (h : s₀.Kept s) : ∀ a0, Res.Kept s₀ (execIrqEoi a0 s) :=
  fun _ => (done_kept (State.writeReg_kept h _ _ _))

theorem execIrqRconsWrite_kept {s₀ s : State} (h : s₀.Kept s) : ∀ a0 a1, Res.Kept s₀ (execIrqRconsWrite a0 a1 s) :=
  fun _ _ => (done_kept (State.writeReg_kept h _ _ _))

theorem execIrqSw_kept {s₀ s : State} (h : s₀.Kept s) : ∀ a0, Res.Kept s₀ (execIrqSw a0 s) :=
  fun _ => (done_kept (State.writeReg_kept h _ _ _))

theorem execIrqSwClr_kept {s₀ s : State} (h : s₀.Kept s) : ∀ a0, Res.Kept s₀ (execIrqSwClr a0 s) :=
  fun _ => (done_kept (State.writeReg_kept h _ _ _))

theorem execLoReadLatch_kept {s₀ s : State} (h : s₀.Kept s) : ∀ a0, Res.Kept s₀ (execLoReadLatch a0 s) := by
  intro a0
  delta execLoReadLatch
  exact Res.Kept.ite (fun _ => (done_kept (State.latchHi_kept h _))) (fun _ => (done_kept h))

theorem execMcFselWrite_kept {s₀ s : State} (h : s₀.Kept s) : ∀ a0, Res.Kept s₀ (execMcFselWrite a0 s) :=
  fun _ => (done_kept (State.writeReg_kept h _ _ _))

theorem execMcInstallStart_kept {s₀ s : State} (h : s₀.Kept s) : ∀ a0, Res.Kept s₀ (execMcInstallStart a0 s) :=
  fun _ => (done_kept (State.writeReg_kept h _ _ _))

theorem execNop_kept {s₀ s : State} (h : s₀.Kept s) : ∀ a0, Res.Kept s₀ (execNop a0 s) := by
  intro a0
  delta execNop
  split
  · exact (done_kept h)
  · exact (done_kept (State.endCmd_kept h _ _))

theorem execReadCompletionTimeout_kept {s₀ s : State} (h : s₀.Kept s) : ∀ a0, Res.Kept s₀ (execReadCompletionTimeout a0 s) := by
  intro a0
  delta execReadCompletionTimeout
  split
  · exact (done_kept h)
  · exact Res.Kept.ite (fun _ => (done_kept h)) (fun _ => (done_kept (State.sqFailed_kept (State.rdFail_kept (State.Kept.set_reads h) _) _)))

theorem execRegisterWrite_kept {s₀ s : State} (h : s₀.Kept s) : ∀ a0 a1 a2, Res.Kept s₀ (execRegisterWrite a0 a1 a2 s) :=
  fun _ _ _ => (done_kept (State.regWrite_kept h _ _ _))

theorem execRoundPublish_kept {s₀ s : State} (h : s₀.Kept s) : ∀ a0, Res.Kept s₀ (execRoundPublish a0 s) := by
  intro a0
  delta execRoundPublish
  refine Res.Kept.ite (fun _ => (done_kept h)) (fun _ => ?_)
  · extract_lets +onlyGivenNames ns1
    extract_lets +onlyGivenNames h2
    extract_lets +onlyGivenNames s3
    have h4 : s₀.Kept s3 := by
      unfold s3
      exact State.Kept.ite (fun _ => (State.setF_kept h _ _ _)) (fun _ => h)
    clear_value s3
    extract_lets +onlyGivenNames s5
    have h6 : s₀.Kept s5 := (State.setFs_kept h4 _ _)
    clear_value s5
    extract_lets +onlyGivenNames s7
    have h8 : s₀.Kept s7 := (State.thermal_kept (State.sensorFault_kept h6 _ _ _) _ _ _)
    clear_value s7
    extract_lets +onlyGivenNames s9
    have h10 : s₀.Kept s9 := (State.Kept.foldl _ h8 fun _ _ h13 => (State.publishTile_kept h13 _ _))
    clear_value s9
    extract_lets +onlyGivenNames s14
    have h15 : s₀.Kept s14 := (State.setF_kept h10 _ _ _)
    clear_value s14
    extract_lets +onlyGivenNames s16
    have h17 : s₀.Kept s16 := (State.Kept.foldl _ h15 fun _ _ h20 => (State.xferJudge_kept h20 _))
    clear_value s16
    extract_lets +onlyGivenNames s21
    have h22 : s₀.Kept s21 := by
      unfold s21
      refine State.Kept.foldl _ h17 fun _ _ h31 => ?_
      extract_lets +onlyGivenNames a32
      exact (State.setPair_kept h31 _ _)
    clear_value s21
    exact (done_kept (State.Kept.set_round_newBroken h22))

theorem execRoundStart_kept {s₀ s : State} (h : s₀.Kept s) : ∀ a0, Res.Kept s₀ (execRoundStart a0 s) := by
  intro a0
  delta execRoundStart
  refine Res.Kept.ite (fun _ => (done_kept h)) (fun _ => ?_)
  · extract_lets +onlyGivenNames s1
    have h2 : s₀.Kept s1 := (State.Kept.set_round h)
    clear_value s1
    apply done_kept
    exact State.Kept.ite (fun _ => (State.detect_kept h2 _ _ _ _)) (fun _ => h2)

theorem execRqEnChange_kept {s₀ s : State} (h : s₀.Kept s) : ∀ a0 a1, Res.Kept s₀ (execRqEnChange a0 a1 s) :=
  fun _ _ => (done_kept (State.writeReg_kept h _ _ _))

theorem execRqHconsWrite_kept {s₀ s : State} (h : s₀.Kept s) : ∀ a0 a1, Res.Kept s₀ (execRqHconsWrite a0 a1 s) :=
  fun _ _ => (done_kept (State.writeReg_kept h _ _ _))

theorem execSensorGateEnd_kept {s₀ s : State} (h : s₀.Kept s) : ∀ a0, Res.Kept s₀ (execSensorGateEnd a0 s) := by
  intro a0
  delta execSensorGateEnd
  refine Res.Kept.ite (fun _ => (done_kept h)) (fun _ => ?_)
  · apply done_kept
    extract_lets +onlyGivenNames src1
    have h2 : s₀.Kept src1 := (State.Kept.foldl _ h fun _ _ h5 => (State.sensorTake_kept h5 _ _))
    clear_value src1
    exact (State.Kept.set_round h2)

theorem execSeqGo_kept {s₀ s : State} (h : s₀.Kept s) : ∀ a0 a1, Res.Kept s₀ (execSeqGo a0 a1 s) :=
  fun _ _ => (done_kept (State.writeReg_kept h _ _ _))

theorem execSineApply_kept {s₀ s : State} (h : s₀.Kept s) : ∀ a0 a1, Res.Kept s₀ (execSineApply a0 a1 s) :=
  fun _ _ => (done_kept (State.writeReg_kept h _ _ _))

theorem execSineEnClear_kept {s₀ s : State} (h : s₀.Kept s) : ∀ a0 a1, Res.Kept s₀ (execSineEnClear a0 a1 s) :=
  fun _ _ => (done_kept (State.writeReg_kept h _ _ _))

theorem execSineEnSet_kept {s₀ s : State} (h : s₀.Kept s) : ∀ a0 a1, Res.Kept s₀ (execSineEnSet a0 a1 s) :=
  fun _ _ => (done_kept (State.writeReg_kept h _ _ _))

theorem execSliceEnd_kept {s₀ s : State} (h : s₀.Kept s) : ∀ a0, Res.Kept s₀ (execSliceEnd a0 s) := by
  intro a0
  delta execSliceEnd
  split
  · exact (done_kept h)
  · split
    · exact Res.Kept.ite (fun _ => (done_kept (State.sliceStop_kept h _ _))) (fun _ => (done_kept h))
    · exact (done_kept h)

theorem execSpbReadFrame_kept {s₀ s : State} (h : s₀.Kept s) : ∀ a0 a1 a2 a3 a4, Res.Kept s₀ (execSpbReadFrame a0 a1 a2 a3 a4 s) := by
  intro a0 a1 a2 a3 a4
  delta execSpbReadFrame
  refine Res.Kept.ite (fun _ => (done_kept h)) (fun _ => ?_)
  · extract_lets +onlyGivenNames st1
    extract_lets +onlyGivenNames cause2
    refine Res.Kept.ite (fun _ => ?_) (fun _ => ?_)
    · apply done_kept
      extract_lets +onlyGivenNames src3
      have h4 : s₀.Kept src3 := (State.spbReject_kept h _)
      clear_value src3
      exact (State.Kept.set_spbOut h4)
    · extract_lets +onlyGivenNames r5
      have h6 : s₀.Kept r5.2 := by
        unfold r5
        refine State.Kept.foldl_snd _ (State.Kept.pair_snd h) fun _ _ h9 => ?_
        exact (State.spbReadWord_kept h9 _ _ _)
      clear_value r5
      apply done_kept
      extract_lets +onlyGivenNames src10
      have h11 : s₀.Kept src10 := h6
      clear_value src10
      exact (State.Kept.set_spbOut h11)

theorem execSpbStatusFrame_kept {s₀ s : State} (h : s₀.Kept s) : ∀ a0 a1 a2 a3, Res.Kept s₀ (execSpbStatusFrame a0 a1 a2 a3 s) := by
  intro a0 a1 a2 a3
  delta execSpbStatusFrame
  refine Res.Kept.ite (fun _ => (done_kept h)) (fun _ => ?_)
  · extract_lets +onlyGivenNames st1
    extract_lets +onlyGivenNames cause2
    refine Res.Kept.ite (fun _ => ?_) (fun _ => (done_kept (State.Kept.set_spbOut h)))
    · apply done_kept
      extract_lets +onlyGivenNames src3
      have h4 : s₀.Kept src3 := (State.spbReject_kept h _)
      clear_value src3
      exact (State.Kept.set_spbOut h4)

theorem execSpbWriteFrame_kept {s₀ s : State} (h : s₀.Kept s) : ∀ a0 a1 a2 a3, Res.Kept s₀ (execSpbWriteFrame a0 a1 a2 a3 s) := by
  intro a0 a1 a2 a3
  delta execSpbWriteFrame
  refine Res.Kept.ite (fun _ => (done_kept h)) (fun _ => ?_)
  · extract_lets +onlyGivenNames st1
    extract_lets +onlyGivenNames cause2
    refine Res.Kept.ite (fun _ => ?_) (fun _ => ?_)
    · apply done_kept
      extract_lets +onlyGivenNames src3
      have h4 : s₀.Kept src3 := (State.spbReject_kept h _)
      clear_value src3
      exact (State.Kept.set_spbOut h4)
    · extract_lets +onlyGivenNames s5
      have h6 : s₀.Kept s5 := (State.Kept.foldl _ h fun _ _ h9 => (State.spbWriteWord_kept h9 _ _))
      clear_value s5
      exact (done_kept (State.Kept.set_spbOut h6))

theorem execSqDisable_kept {s₀ s : State} (h : s₀.Kept s) : ∀ a0 a1, Res.Kept s₀ (execSqDisable a0 a1 s) := by
  intro a0 a1
  delta execSqDisable
  exact Res.Kept.ite (fun _ => (done_kept (State.sqCfg_kept h _ _))) (fun _ => (done_kept h))

theorem execSqDoorbell_kept {s₀ s : State} (h : s₀.Kept s) : ∀ a0 a1, Res.Kept s₀ (execSqDoorbell a0 a1 s) := by
  intro a0 a1
  delta execSqDoorbell
  exact Res.Kept.ite (fun _ => (done_kept (State.sqDoorbell_kept h _ _))) (fun _ => (done_kept h))

theorem execSqEnable_kept {s₀ s : State} (h : s₀.Kept s) : ∀ a0 a1, Res.Kept s₀ (execSqEnable a0 a1 s) := by
  intro a0 a1
  delta execSqEnable
  exact Res.Kept.ite (fun _ => (done_kept (State.sqCfg_kept h _ _))) (fun _ => (done_kept h))

theorem execSramScrub_kept {s₀ s : State} (h : s₀.Kept s) : ∀ a0 a1 a2 a3, Res.Kept s₀ (execSramScrub a0 a1 a2 a3 s) := by
  intro a0 a1 a2 a3
  delta execSramScrub
  refine Res.Kept.ite (fun _ => (done_kept h)) (fun _ => ?_)
  · split
    · exact (done_kept h)
    · exact (done_kept (State.detectEcc_kept h _ _ _ _))

theorem execStbRestart_kept {s₀ s : State} (h : s₀.Kept s) : ∀ a0 a1, Res.Kept s₀ (execStbRestart a0 a1 s) :=
  fun _ _ => (done_kept (State.writeReg_kept h _ _ _))

theorem execSyncApply_kept {s₀ s : State} (h : s₀.Kept s) : ∀ a0, Res.Kept s₀ (execSyncApply a0 s) :=
  fun _ => (done_kept (State.writeReg_kept h _ _ _))

theorem execSyncArm_kept {s₀ s : State} (h : s₀.Kept s) : ∀ a0, Res.Kept s₀ (execSyncArm a0 s) :=
  fun _ => (done_kept (State.writeReg_kept h _ _ _))

theorem execSyncInval_kept {s₀ s : State} (h : s₀.Kept s) : ∀ a0, Res.Kept s₀ (execSyncInval a0 s) :=
  fun _ => (done_kept (State.writeReg_kept h _ _ _))

theorem State.takeLp_kept {s₀ s : State} (h : s₀.Kept s) : ∀ p l, s₀.Kept (State.takeLp s p l) := by
  intro p l
  delta State.takeLp
  split
  · exact State.ackTake_kept h _ _
  · exact State.nakTake_kept h _ _
  · exact State.creditTake_kept h _ _ _
  · exact State.malformed_kept h _

theorem execTpReceive_kept {s₀ s : State} (h : s₀.Kept s) : ∀ a0 a1 a2 a3 a4 a5 a6, Res.Kept s₀ (execTpReceive a0 a1 a2 a3 a4 a5 a6 s) := by
  intro a0 a1 a2 a3 a4 a5 a6
  delta execTpReceive
  extract_lets +onlyGivenNames f1
  refine Res.Kept.ite (fun _ => (done_kept h)) (fun _ => ?_)
  · refine Res.Kept.ite (fun _ => (done_kept (State.framing_kept h _ _))) (fun _ => ?_)
    · split
      · exact Res.Kept.ite (fun _ => (done_kept (State.incSat_kept (State.framing_kept h _ _) _ _ _))) (fun _ => (done_kept (State.takeLp_kept (State.framing_kept h _ _) _ _)))
      · exact Res.Kept.ite (fun _ => (done_kept (State.nakDue_kept (State.incSat_kept (State.framing_kept h _ _) _ _ _) _))) (fun _ => (done_kept (State.takeTp_kept (State.framing_kept h _ _) _ _ _ _)))

theorem execTrigPulse_kept {s₀ s : State} (h : s₀.Kept s) : ∀ a0, Res.Kept s₀ (execTrigPulse a0 s) :=
  fun _ => (done_kept (State.writeReg_kept h _ _ _))

end Sys2Proof.Machine
end

