-- ==== Sys2Proof/Laws/PerInstr.lean ====
section
/-! SUPPORT. Row by row: the opcode table gives no row of this block any bits, so no word of any length spells its command. -/

namespace Sys2Proof.Laws

open Sys2Proof.Machine (Lp LaneErrs CmdRef Word Byte Auth MicroOut CalRow AnchorIn Ts Tp EqMove BootIn Symb)

/-- No word, of whatever length, spells command i. -/
def NoBits.Statement (i : Instr) : Prop := ∀ nbits w : Nat, decodeTableWord nbits w ≠ some i

theorem NoBits.powerOn : NoBits.Statement (.powerOn) := fun _ _ h => nomatch h
theorem NoBits.resetWindowExit (rail : Fin 9) : NoBits.Statement (.resetWindowExit rail) := fun _ _ h => nomatch h
theorem NoBits.supplyWindowExit (rail : Fin 9) (mv : BitVec 16) : NoBits.Statement (.supplyWindowExit rail mv) := fun _ _ h => nomatch h
theorem NoBits.perstNAssert : NoBits.Statement (.perstNAssert) := fun _ _ h => nomatch h
theorem NoBits.bootStart : NoBits.Statement (.bootStart) := fun _ _ h => nomatch h
theorem NoBits.bootPhaseComplete (inp : BootIn) : NoBits.Statement (.bootPhaseComplete inp) := fun _ _ h => nomatch h
theorem NoBits.refclkLoss (periods : BitVec 16) (pll : Bool) : NoBits.Statement (.refclkLoss periods pll) := fun _ _ h => nomatch h
theorem NoBits.refclkRecovery : NoBits.Statement (.refclkRecovery) := fun _ _ h => nomatch h
theorem NoBits.lockstepMismatch : NoBits.Statement (.lockstepMismatch) := fun _ _ h => nomatch h
theorem NoBits.svcReq (black : Bool) : NoBits.Statement (.svcReq black) := fun _ _ h => nomatch h
theorem NoBits.serviceEntry : NoBits.Statement (.serviceEntry) := fun _ _ h => nomatch h
theorem NoBits.svcExit : NoBits.Statement (.svcExit) := fun _ _ h => nomatch h
theorem NoBits.serviceExitEffect : NoBits.Statement (.serviceExitEffect) := fun _ _ h => nomatch h
theorem NoBits.sramScrub (region : Fin 6) (unit : Fin 1024) (word : BitVec 24) (err : Option Bool) : NoBits.Statement (.sramScrub region unit word err) := fun _ _ h => nomatch h
theorem NoBits.registerWrite (a : BitVec 24) (w : Word) (spb : Bool) : NoBits.Statement (.registerWrite a w spb) := fun _ _ h => nomatch h
theorem NoBits.loReadLatch (a : BitVec 24) : NoBits.Statement (.loReadLatch a) := fun _ _ h => nomatch h
theorem NoBits.nop (cmd : CmdRef) : NoBits.Statement (.nop cmd) := fun _ _ h => nomatch h
theorem NoBits.fence (cmd : CmdRef) : NoBits.Statement (.fence cmd) := fun _ _ h => nomatch h
theorem NoBits.chConfig (cmd : CmdRef) : NoBits.Statement (.chConfig cmd) := fun _ _ h => nomatch h
theorem NoBits.chForce (cmd : CmdRef) : NoBits.Statement (.chForce cmd) := fun _ _ h => nomatch h
theorem NoBits.chMeasureStart (cmd : CmdRef) : NoBits.Statement (.chMeasureStart cmd) := fun _ _ h => nomatch h
theorem NoBits.chMeasureStop (cmd : CmdRef) : NoBits.Statement (.chMeasureStop cmd) := fun _ _ h => nomatch h
theorem NoBits.chMeasureInject (cmd : CmdRef) : NoBits.Statement (.chMeasureInject cmd) := fun _ _ h => nomatch h
theorem NoBits.chSweep (cmd : CmdRef) : NoBits.Statement (.chSweep cmd) := fun _ _ h => nomatch h
theorem NoBits.chSine (cmd : CmdRef) : NoBits.Statement (.chSine cmd) := fun _ _ h => nomatch h
theorem NoBits.chContact (cmd : CmdRef) : NoBits.Statement (.chContact cmd) := fun _ _ h => nomatch h
theorem NoBits.chRelease (cmd : CmdRef) : NoBits.Statement (.chRelease cmd) := fun _ _ h => nomatch h
theorem NoBits.seqLoad (cmd : CmdRef) (data : List (List (BitVec 64))) (failed : Option Bool) : NoBits.Statement (.seqLoad cmd data failed) := fun _ _ h => nomatch h
theorem NoBits.seqRun (cmd : CmdRef) : NoBits.Statement (.seqRun cmd) := fun _ _ h => nomatch h
theorem NoBits.seqStream (cmd : CmdRef) : NoBits.Statement (.seqStream cmd) := fun _ _ h => nomatch h
theorem NoBits.seqStop (cmd : CmdRef) : NoBits.Statement (.seqStop cmd) := fun _ _ h => nomatch h
theorem NoBits.groupBind (cmd : CmdRef) : NoBits.Statement (.groupBind cmd) := fun _ _ h => nomatch h
theorem NoBits.seqJump (cmd : CmdRef) : NoBits.Statement (.seqJump cmd) := fun _ _ h => nomatch h
theorem NoBits.apgLoad (cmd : CmdRef) (data : List Byte) (failed : Option Bool) : NoBits.Statement (.apgLoad cmd data failed) := fun _ _ h => nomatch h
theorem NoBits.apgRun (cmd : CmdRef) : NoBits.Statement (.apgRun cmd) := fun _ _ h => nomatch h
theorem NoBits.failDump (cmd : CmdRef) : NoBits.Statement (.failDump cmd) := fun _ _ h => nomatch h
theorem NoBits.trigArm (cmd : CmdRef) : NoBits.Statement (.trigArm cmd) := fun _ _ h => nomatch h
theorem NoBits.captureDump (cmd : CmdRef) : NoBits.Statement (.captureDump cmd) := fun _ _ h => nomatch h
theorem NoBits.statsReadStart (cmd : CmdRef) : NoBits.Statement (.statsReadStart cmd) := fun _ _ h => nomatch h
theorem NoBits.statsReadPeek (cmd : CmdRef) : NoBits.Statement (.statsReadPeek cmd) := fun _ _ h => nomatch h
theorem NoBits.calAnchor (cmd : CmdRef) : NoBits.Statement (.calAnchor cmd) := fun _ _ h => nomatch h
theorem NoBits.calRotatePass (cmd : CmdRef) : NoBits.Statement (.calRotatePass cmd) := fun _ _ h => nomatch h
theorem NoBits.calRotateChannels (cmd : CmdRef) : NoBits.Statement (.calRotateChannels cmd) := fun _ _ h => nomatch h
theorem NoBits.calRotateRequalify (cmd : CmdRef) (row : CalRow) : NoBits.Statement (.calRotateRequalify cmd row) := fun _ _ h => nomatch h
theorem NoBits.calRotateRemap (cmd : CmdRef) : NoBits.Statement (.calRotateRemap cmd) := fun _ _ h => nomatch h
theorem NoBits.calRotateUnmap (cmd : CmdRef) : NoBits.Statement (.calRotateUnmap cmd) := fun _ _ h => nomatch h
theorem NoBits.calCommit (cmd : CmdRef) : NoBits.Statement (.calCommit cmd) := fun _ _ h => nomatch h
theorem NoBits.calDiscard (cmd : CmdRef) : NoBits.Statement (.calDiscard cmd) := fun _ _ h => nomatch h
theorem NoBits.calArchive (cmd : CmdRef) : NoBits.Statement (.calArchive cmd) := fun _ _ h => nomatch h
theorem NoBits.calRead (cmd : CmdRef) : NoBits.Statement (.calRead cmd) := fun _ _ h => nomatch h
theorem NoBits.selftest (cmd : CmdRef) : NoBits.Statement (.selftest cmd) := fun _ _ h => nomatch h
theorem NoBits.faultAck (cmd : CmdRef) : NoBits.Statement (.faultAck cmd) := fun _ _ h => nomatch h
theorem NoBits.abort (cmd : CmdRef) : NoBits.Statement (.abort cmd) := fun _ _ h => nomatch h
theorem NoBits.diagEcho (cmd : CmdRef) : NoBits.Statement (.diagEcho cmd) := fun _ _ h => nomatch h
theorem NoBits.diagRegs (cmd : CmdRef) (ecc : List (Nat × Bool)) : NoBits.Statement (.diagRegs cmd ecc) := fun _ _ h => nomatch h
theorem NoBits.diagBlackbox (cmd : CmdRef) : NoBits.Statement (.diagBlackbox cmd) := fun _ _ h => nomatch h
theorem NoBits.sqDoorbell (n : Fin 64) (w : Word) : NoBits.Statement (.sqDoorbell n w) := fun _ _ h => nomatch h
theorem NoBits.descriptorIntake (n : Fin 64) : NoBits.Statement (.descriptorIntake n) := fun _ _ h => nomatch h
theorem NoBits.descriptorReadError (n : Fin 64) : NoBits.Statement (.descriptorReadError n) := fun _ _ h => nomatch h
theorem NoBits.commandAdmit : NoBits.Statement (.commandAdmit) := fun _ _ h => nomatch h
theorem NoBits.holdLimitExpire (n : Fin 64) : NoBits.Statement (.holdLimitExpire n) := fun _ _ h => nomatch h
theorem NoBits.sliceEnd (cmd : CmdRef) : NoBits.Statement (.sliceEnd cmd) := fun _ _ h => nomatch h
theorem NoBits.completionWrite (cmd : CmdRef) (energy : Word) : NoBits.Statement (.completionWrite cmd energy) := fun _ _ h => nomatch h
theorem NoBits.cqDoorbell (m : Fin 64) (w : Word) : NoBits.Statement (.cqDoorbell m w) := fun _ _ h => nomatch h
theorem NoBits.sqEnable (n : Fin 64) (w : Word) : NoBits.Statement (.sqEnable n w) := fun _ _ h => nomatch h
theorem NoBits.sqDisable (n : Fin 64) (w : Word) : NoBits.Statement (.sqDisable n w) := fun _ _ h => nomatch h
theorem NoBits.cqEnable (m : Fin 64) (w : Word) : NoBits.Statement (.cqEnable m w) := fun _ _ h => nomatch h
theorem NoBits.cqDisable (m : Fin 64) (w : Word) : NoBits.Statement (.cqDisable m w) := fun _ _ h => nomatch h
theorem NoBits.safeValueStep (u : Fin 1056) (far : Bool) : NoBits.Statement (.safeValueStep u far) := fun _ _ h => nomatch h
theorem NoBits.sweepDwellEnd (cmd : CmdRef) : NoBits.Statement (.sweepDwellEnd cmd) := fun _ _ h => nomatch h
theorem NoBits.clampAction (u : Fin 1056) (limits : Bool) : NoBits.Statement (.clampAction u limits) := fun _ _ h => nomatch h
theorem NoBits.shortCircuitLimit (u : Fin 1056) : NoBits.Statement (.shortCircuitLimit u) := fun _ _ h => nomatch h
theorem NoBits.kelvinMonitorTrip (u : Fin 1056) (seen : Int × Nat) : NoBits.Statement (.kelvinMonitorTrip u seen) := fun _ _ h => nomatch h
theorem NoBits.contactPhaseStep (cmd : CmdRef) (volts : List (Int × Int)) : NoBits.Statement (.contactPhaseStep cmd volts) := fun _ _ h => nomatch h
theorem NoBits.sineEnSet (u : Fin 1056) (w : Word) : NoBits.Statement (.sineEnSet u w) := fun _ _ h => nomatch h
theorem NoBits.sineApply (u : Fin 1056) (w : Word) : NoBits.Statement (.sineApply u w) := fun _ _ h => nomatch h
theorem NoBits.sineEnClear (u : Fin 1056) (w : Word) : NoBits.Statement (.sineEnClear u w) := fun _ _ h => nomatch h
theorem NoBits.sineUpdate (u : Fin 1056) : NoBits.Statement (.sineUpdate u) := fun _ _ h => nomatch h
theorem NoBits.sineEpochStart (u : Fin 1056) (delta : Fin 6400) : NoBits.Statement (.sineEpochStart u delta) := fun _ _ h => nomatch h
theorem NoBits.sineZcStop (u : Fin 1056) : NoBits.Statement (.sineZcStop u) := fun _ _ h => nomatch h
theorem NoBits.adcStart (u : Fin 1056) (w : Word) : NoBits.Statement (.adcStart u w) := fun _ _ h => nomatch h
theorem NoBits.adcStop (u : Fin 1056) (w : Word) : NoBits.Statement (.adcStop u w) := fun _ _ h => nomatch h
theorem NoBits.adcInject (u : Fin 1056) (w : Word) : NoBits.Statement (.adcInject u w) := fun _ _ h => nomatch h
theorem NoBits.adcSampleEnd (u : Fin 1056) : NoBits.Statement (.adcSampleEnd u) := fun _ _ h => nomatch h
theorem NoBits.adcEntryBoundary (u : Fin 1056) (raw : BitVec 18) : NoBits.Statement (.adcEntryBoundary u raw) := fun _ _ h => nomatch h
theorem NoBits.adcResultEnqueue (u : Fin 1056) : NoBits.Statement (.adcResultEnqueue u) := fun _ _ h => nomatch h
theorem NoBits.rqDrainBurst (t : Fin 8) : NoBits.Statement (.rqDrainBurst t) := fun _ _ h => nomatch h
theorem NoBits.rqPartialFlush (t : Fin 8) : NoBits.Statement (.rqPartialFlush t) := fun _ _ h => nomatch h
theorem NoBits.rqEnChange (t : Fin 8) (w : Word) : NoBits.Statement (.rqEnChange t w) := fun _ _ h => nomatch h
theorem NoBits.rqHconsWrite (t : Fin 8) (w : Word) : NoBits.Statement (.rqHconsWrite t w) := fun _ _ h => nomatch h
theorem NoBits.compRawTransition (u : Fin 1056) (high : Bool) (pins : Int × Int) (q : Fin 200) (dead : Bool) : NoBits.Statement (.compRawTransition u high pins q dead) := fun _ _ h => nomatch h
theorem NoBits.compValid (u : Fin 1056) (high : Bool) (samples : List Bool) : NoBits.Statement (.compValid u high samples) := fun _ _ h => nomatch h
theorem NoBits.compLatchSet (u : Fin 1056) (high : Bool) (samples : List Bool) : NoBits.Statement (.compLatchSet u high samples) := fun _ _ h => nomatch h
theorem NoBits.seqRunStart (c : Fin 1024) (seen : List (List (Bool × Bool))) : NoBits.Statement (.seqRunStart c seen) := fun _ _ h => nomatch h
theorem NoBits.seqNop (c : Fin 1024) : NoBits.Statement (.seqNop c) := fun _ _ h => nomatch h
theorem NoBits.veci (c : Fin 1024) : NoBits.Statement (.veci c) := fun _ _ h => nomatch h
theorem NoBits.vecd (c : Fin 1024) : NoBits.Statement (.vecd c) := fun _ _ h => nomatch h
theorem NoBits.vecs (c : Fin 1024) : NoBits.Statement (.vecs c) := fun _ _ h => nomatch h
theorem NoBits.vrep (c : Fin 1024) : NoBits.Statement (.vrep c) := fun _ _ h => nomatch h
theorem NoBits.loop (c : Fin 1024) : NoBits.Statement (.loop c) := fun _ _ h => nomatch h
theorem NoBits.endl (c : Fin 1024) : NoBits.Statement (.endl c) := fun _ _ h => nomatch h
theorem NoBits.call (c : Fin 1024) : NoBits.Statement (.call c) := fun _ _ h => nomatch h
theorem NoBits.ret (c : Fin 1024) : NoBits.Statement (.ret c) := fun _ _ h => nomatch h
theorem NoBits.jmp (c : Fin 1024) : NoBits.Statement (.jmp c) := fun _ _ h => nomatch h
theorem NoBits.br (c : Fin 1024) (past : List Bool) : NoBits.Statement (.br c past) := fun _ _ h => nomatch h
theorem NoBits.brSyncResolve (c : Fin 1024) : NoBits.Statement (.brSyncResolve c) := fun _ _ h => nomatch h
theorem NoBits.matchW (c : Fin 1024) : NoBits.Statement (.matchW c) := fun _ _ h => nomatch h
theorem NoBits.matchIterationEnd (c : Fin 1024) : NoBits.Statement (.matchIterationEnd c) := fun _ _ h => nomatch h
theorem NoBits.wait (c : Fin 1024) : NoBits.Statement (.wait c) := fun _ _ h => nomatch h
theorem NoBits.waitRelease (c : Fin 1024) : NoBits.Statement (.waitRelease c) := fun _ _ h => nomatch h
theorem NoBits.waitTimeout (c : Fin 1024) : NoBits.Statement (.waitTimeout c) := fun _ _ h => nomatch h
theorem NoBits.bar (c : Fin 1024) : NoBits.Statement (.bar c) := fun _ _ h => nomatch h
theorem NoBits.barrierRelease (t : Fin 8) (bid : Fin 16) : NoBits.Statement (.barrierRelease t bid) := fun _ _ h => nomatch h
theorem NoBits.tsld (c : Fin 1024) : NoBits.Statement (.tsld c) := fun _ _ h => nomatch h
theorem NoBits.lvl (c : Fin 1024) : NoBits.Statement (.lvl c) := fun _ _ h => nomatch h
theorem NoBits.meas (c : Fin 1024) : NoBits.Statement (.meas c) := fun _ _ h => nomatch h
theorem NoBits.measPlaceFree (c : Fin 1024) : NoBits.Statement (.measPlaceFree c) := fun _ _ h => nomatch h
theorem NoBits.evt (c : Fin 1024) : NoBits.Statement (.evt c) := fun _ _ h => nomatch h
theorem NoBits.flg (c : Fin 1024) : NoBits.Statement (.flg c) := fun _ _ h => nomatch h
theorem NoBits.seg (c : Fin 1024) : NoBits.Statement (.seg c) := fun _ _ h => nomatch h
theorem NoBits.stall (c : Fin 1024) : NoBits.Statement (.stall c) := fun _ _ h => nomatch h
theorem NoBits.strm (c : Fin 1024) : NoBits.Statement (.strm c) := fun _ _ h => nomatch h
theorem NoBits.send (c : Fin 1024) : NoBits.Statement (.send c) := fun _ _ h => nomatch h
theorem NoBits.halt (c : Fin 1024) : NoBits.Statement (.halt c) := fun _ _ h => nomatch h
theorem NoBits.seqJumpApply (c : Fin 1024) : NoBits.Statement (.seqJumpApply c) := fun _ _ h => nomatch h
theorem NoBits.seqStopApply (c : Fin 1024) : NoBits.Statement (.seqStopApply c) := fun _ _ h => nomatch h
theorem NoBits.stallResume (c : Fin 1024) : NoBits.Statement (.stallResume c) := fun _ _ h => nomatch h
theorem NoBits.streamRefill (data : List (BitVec 64)) (failed : Option Bool) : NoBits.Statement (.streamRefill data failed) := fun _ _ h => nomatch h
theorem NoBits.underrun (c : Fin 1024) : NoBits.Statement (.underrun c) := fun _ _ h => nomatch h
theorem NoBits.seqGo (c : Fin 1024) (w : Word) : NoBits.Statement (.seqGo c w) := fun _ _ h => nomatch h
theorem NoBits.microword (e : Fin 1024) (cost : Fin 8) (cond : Bool) (flips : BitVec 136) (out : MicroOut) : NoBits.Statement (.microword e cost cond flips out) := fun _ _ h => nomatch h
theorem NoBits.microTrap (e : Fin 1024) (whole : Bool) : NoBits.Statement (.microTrap e whole) := fun _ _ h => nomatch h
theorem NoBits.csParitySweep (e : Fin 1024) (a : Fin 1024) (flips : BitVec 136) : NoBits.Statement (.csParitySweep e a flips) := fun _ _ h => nomatch h
theorem NoBits.mcReloadDone (alt copyBad : Bool) (failed late : List (Fin 1024)) : NoBits.Statement (.mcReloadDone alt copyBad failed late) := fun _ _ h => nomatch h
theorem NoBits.mcInstallStart (w : Word) : NoBits.Statement (.mcInstallStart w) := fun _ _ h => nomatch h
theorem NoBits.mcInstallDone (auth : Auth) (wrote : Bool) : NoBits.Statement (.mcInstallDone auth wrote) := fun _ _ h => nomatch h
theorem NoBits.mcFselWrite (w : Word) : NoBits.Statement (.mcFselWrite w) := fun _ _ h => nomatch h
theorem NoBits.tdcStamp (u : Fin 1056) (src : Fin 3) (rising : Bool) (q : Fin 200) (dead : Bool) : NoBits.Statement (.tdcStamp u src rising q dead) := fun _ _ h => nomatch h
theorem NoBits.stampBufferWrite (t : Fin 8) : NoBits.Statement (.stampBufferWrite t) := fun _ _ h => nomatch h
theorem NoBits.stbRestart (t : Fin 8) (w : Word) : NoBits.Statement (.stbRestart t w) := fun _ _ h => nomatch h
theorem NoBits.dllLock (u : Fin 1061) (line : Fin 6) : NoBits.Statement (.dllLock u line) := fun _ _ h => nomatch h
theorem NoBits.dllUnlock (u : Fin 1061) (line : Fin 6) : NoBits.Statement (.dllUnlock u line) := fun _ _ h => nomatch h
theorem NoBits.codeDensityDone (u : Fin 1061) (hist : List Nat) (delays : List (List Nat)) (drv stb tdc : Fin 1024) : NoBits.Statement (.codeDensityDone u hist delays drv stb tdc) := fun _ _ h => nomatch h
theorem NoBits.sepiaSample (t : Fin 8) : NoBits.Statement (.sepiaSample t) := fun _ _ h => nomatch h
theorem NoBits.sepiaJobComplete (t : Fin 8) (slot : Fin 16) : NoBits.Statement (.sepiaJobComplete t slot) := fun _ _ h => nomatch h
theorem NoBits.sepiaJobTimeout (t : Fin 8) (slot : Fin 16) : NoBits.Statement (.sepiaJobTimeout t slot) := fun _ _ h => nomatch h
theorem NoBits.apgRunStart (t : Fin 8) (x : Fin 4) (seen : List (List (List (Bool × Bool)))) : NoBits.Statement (.apgRunStart t x seen) := fun _ _ h => nomatch h
theorem NoBits.apgInstruction (t : Fin 8) (x : Fin 4) : NoBits.Statement (.apgInstruction t x) := fun _ _ h => nomatch h
theorem NoBits.apgGroupDrop (t : Fin 8) (g : Fin 32) : NoBits.Statement (.apgGroupDrop t g) := fun _ _ h => nomatch h
theorem NoBits.failLogRecord (t : Fin 8) : NoBits.Statement (.failLogRecord t) := fun _ _ h => nomatch h
theorem NoBits.syncArm (w : Word) : NoBits.Statement (.syncArm w) := fun _ _ h => nomatch h
theorem NoBits.syncEdge (q : Fin 200) : NoBits.Statement (.syncEdge q) := fun _ _ h => nomatch h
theorem NoBits.syncApply (w : Word) : NoBits.Statement (.syncApply w) := fun _ _ h => nomatch h
theorem NoBits.syncInval (w : Word) : NoBits.Statement (.syncInval w) := fun _ _ h => nomatch h
theorem NoBits.triggerFire (t : Fin 8) : NoBits.Statement (.triggerFire t) := fun _ _ h => nomatch h
theorem NoBits.fireLineEdge (line : Fin 4) (q : Fin 200) : NoBits.Statement (.fireLineEdge line q) := fun _ _ h => nomatch h
theorem NoBits.armLineEdge (dom : Fin 2) (edge : Bool × Fin 200) : NoBits.Statement (.armLineEdge dom edge) := fun _ _ h => nomatch h
theorem NoBits.holdoffEnd (t : Fin 8) : NoBits.Statement (.holdoffEnd t) := fun _ _ h => nomatch h
theorem NoBits.trigArmTimeout (t : Fin 8) : NoBits.Statement (.trigArmTimeout t) := fun _ _ h => nomatch h
theorem NoBits.trigLineEdge (line : Fin 4) (rising : Bool) (q : Fin 200) : NoBits.Statement (.trigLineEdge line rising q) := fun _ _ h => nomatch h
theorem NoBits.trigPulse (w : Word) : NoBits.Statement (.trigPulse w) := fun _ _ h => nomatch h
theorem NoBits.capPartitionWrite (t : Fin 8) (w : Word) : NoBits.Statement (.capPartitionWrite t w) := fun _ _ h => nomatch h
theorem NoBits.calTimeSet (w : Word) : NoBits.Statement (.calTimeSet w) := fun _ _ h => nomatch h
theorem NoBits.anchorStep (inp : AnchorIn) : NoBits.Statement (.anchorStep inp) := fun _ _ h => nomatch h
theorem NoBits.calAnchorTimeout : NoBits.Statement (.calAnchorTimeout) := fun _ _ h => nomatch h
theorem NoBits.transferStep (t : Fin 8) (rows : List (Fin 4 × CalRow)) (tresH tresL : List (Fin 4 × BitVec 64)) : NoBits.Statement (.transferStep t rows tresH tresL) := fun _ _ h => nomatch h
theorem NoBits.commitEdge : NoBits.Statement (.commitEdge) := fun _ _ h => nomatch h
theorem NoBits.rotationPassStart (t : Fin 8) : NoBits.Statement (.rotationPassStart t) := fun _ _ h => nomatch h
theorem NoBits.rotationStart (nn : Fin 32) : NoBits.Statement (.rotationStart nn) := fun _ _ h => nomatch h
theorem NoBits.handoverStep (nn : Fin 32) (row : CalRow) : NoBits.Statement (.handoverStep nn row) := fun _ _ h => nomatch h
theorem NoBits.rotationHandback (nn : Fin 32) : NoBits.Statement (.rotationHandback nn) := fun _ _ h => nomatch h
theorem NoBits.rotationAbandon (nn : Fin 32) : NoBits.Statement (.rotationAbandon nn) := fun _ _ h => nomatch h
theorem NoBits.calArchiveTimer : NoBits.Statement (.calArchiveTimer) := fun _ _ h => nomatch h
theorem NoBits.archiveWriteDone (ok : Bool) : NoBits.Statement (.archiveWriteDone ok) := fun _ _ h => nomatch h
theorem NoBits.selftestTestDone (n : Nat) (pass : Bool) (detail : Word) : NoBits.Statement (.selftestTestDone n pass detail) := fun _ _ h => nomatch h
theorem NoBits.detectProbe (p : Fin 4) (found : Bool) : NoBits.Statement (.detectProbe p found) := fun _ _ h => nomatch h
theorem NoBits.ts1Receive (p : Fin 4) (l : Fin 5) (ts : Ts) : NoBits.Statement (.ts1Receive p l ts) := fun _ _ h => nomatch h
theorem NoBits.ts2Receive (p : Fin 4) (l : Fin 5) (ts : Ts) : NoBits.Statement (.ts2Receive p l ts) := fun _ _ h => nomatch h
theorem NoBits.trainingTimeout (p : Fin 4) : NoBits.Statement (.trainingTimeout p) := fun _ _ h => nomatch h
theorem NoBits.speedRetuneDone (p : Fin 4) : NoBits.Statement (.speedRetuneDone p) := fun _ _ h => nomatch h
theorem NoBits.eqRequest (p : Fin 4) (l : Fin 5) (tag : BitVec 2) (valid : Bool) (mv : EqMove) (fin : Bool) : NoBits.Statement (.eqRequest p l tag valid mv fin) := fun _ _ h => nomatch h
theorem NoBits.eqIterationEnd (p : Fin 4) (l : Fin 5) (dfe : BitVec 4) (better : Option EqMove) : NoBits.Statement (.eqIterationEnd p l dfe better) := fun _ _ h => nomatch h
theorem NoBits.retrain (p : Fin 4) : NoBits.Statement (.retrain p) := fun _ _ h => nomatch h
theorem NoBits.hotrst (p : Fin 4) : NoBits.Statement (.hotrst p) := fun _ _ h => nomatch h
theorem NoBits.hotResetReceived (p : Fin 4) : NoBits.Statement (.hotResetReceived p) := fun _ _ h => nomatch h
theorem NoBits.hotresetEnd (p : Fin 4) : NoBits.Statement (.hotresetEnd p) := fun _ _ h => nomatch h
theorem NoBits.disable (p : Fin 4) (on : Bool) : NoBits.Statement (.disable p on) := fun _ _ h => nomatch h
theorem NoBits.disableReceived (p : Fin 4) : NoBits.Statement (.disableReceived p) := fun _ _ h => nomatch h
theorem NoBits.farlb (p : Fin 4) (on : Bool) : NoBits.Statement (.farlb p on) := fun _ _ h => nomatch h
theorem NoBits.loopbackReceived (p : Fin 4) : NoBits.Statement (.loopbackReceived p) := fun _ _ h => nomatch h
theorem NoBits.nosleep (p : Fin 4) (on : Bool) : NoBits.Statement (.nosleep p on) := fun _ _ h => nomatch h
theorem NoBits.nearlb (p : Fin 4) (l : Fin 5) (on : Bool) : NoBits.Statement (.nearlb p l on) := fun _ _ h => nomatch h
theorem NoBits.prbsInj (p : Fin 4) (l : Fin 5) : NoBits.Statement (.prbsInj p l) := fun _ _ h => nomatch h
theorem NoBits.laneFail (p : Fin 4) (x : Fin 5 × LaneErrs) : NoBits.Statement (.laneFail p x) := fun _ _ h => nomatch h
theorem NoBits.lcsSteerReceived (p : Fin 4) (k : Fin 4) : NoBits.Statement (.lcsSteerReceived p k) := fun _ _ h => nomatch h
theorem NoBits.lcsAckReceived (p : Fin 4) (k : Fin 4) : NoBits.Statement (.lcsAckReceived p k) := fun _ _ h => nomatch h
theorem NoBits.lcsDoneReceived (p : Fin 4) (k : Fin 4) : NoBits.Statement (.lcsDoneReceived p k) := fun _ _ h => nomatch h
theorem NoBits.sparingTimeout (p : Fin 4) : NoBits.Statement (.sparingTimeout p) := fun _ _ h => nomatch h
theorem NoBits.spareFail (x : Fin 4 × LaneErrs × BitVec 21) : NoBits.Statement (.spareFail x) := fun _ _ h => nomatch h
theorem NoBits.laneDegradeWindow (p : Fin 4) (l : Fin 5) (syms : List (BitVec 10)) : NoBits.Statement (.laneDegradeWindow p l syms) := fun _ _ h => nomatch h
theorem NoBits.sleepEntry (p : Fin 4) : NoBits.Statement (.sleepEntry p) := fun _ _ h => nomatch h
theorem NoBits.slpReceived (p : Fin 4) (dark : Bool) : NoBits.Statement (.slpReceived p dark) := fun _ _ h => nomatch h
theorem NoBits.txWake (p : Fin 4) : NoBits.Statement (.txWake p) := fun _ _ h => nomatch h
theorem NoBits.wakeLockTimeout (p : Fin 4) : NoBits.Statement (.wakeLockTimeout p) := fun _ _ h => nomatch h
theorem NoBits.beacon (p : Fin 4) : NoBits.Statement (.beacon p) := fun _ _ h => nomatch h
theorem NoBits.beaconTimeout (p : Fin 4) : NoBits.Statement (.beaconTimeout p) := fun _ _ h => nomatch h
theorem NoBits.clockLaneLoss (p : Fin 4) (stopped : Bool) : NoBits.Statement (.clockLaneLoss p stopped) := fun _ _ h => nomatch h
theorem NoBits.tpReceive (p : Fin 4) (seq : BitVec 12) (crc : Option Word) (lp : Option Lp) (cols : List (List Symb)) (ecc : List (Fin 64 × Bool)) (tp : Tp) : NoBits.Statement (.tpReceive p seq crc lp cols ecc tp) := fun _ _ h => nomatch h
theorem NoBits.ackReceive (p : Fin 4) (seq : BitVec 12) : NoBits.Statement (.ackReceive p seq) := fun _ _ h => nomatch h
theorem NoBits.nakReceive (p : Fin 4) (seq : BitVec 12) : NoBits.Statement (.nakReceive p seq) := fun _ _ h => nomatch h
theorem NoBits.creditReceive (p : Fin 4) (init : Bool) (cp cn cc : BitVec 16) : NoBits.Statement (.creditReceive p init cp cn cc) := fun _ _ h => nomatch h
theorem NoBits.ackTimer (p : Fin 4) : NoBits.Statement (.ackTimer p) := fun _ _ h => nomatch h
theorem NoBits.replayTimeout (p : Fin 4) : NoBits.Statement (.replayTimeout p) := fun _ _ h => nomatch h
theorem NoBits.creditUpdate (p : Fin 4) : NoBits.Statement (.creditUpdate p) := fun _ _ h => nomatch h
theorem NoBits.creditTimeout (p : Fin 4) : NoBits.Statement (.creditTimeout p) := fun _ _ h => nomatch h
theorem NoBits.readCompletionTimeout (tag : Fin 1024) : NoBits.Statement (.readCompletionTimeout tag) := fun _ _ h => nomatch h
theorem NoBits.portDown (p : Fin 4) : NoBits.Statement (.portDown p) := fun _ _ h => nomatch h
theorem NoBits.sourceActivate (src : Fin 4096) : NoBits.Statement (.sourceActivate src) := fun _ _ h => nomatch h
theorem NoBits.vectorTimer (v : Fin 512) : NoBits.Statement (.vectorTimer v) := fun _ _ h => nomatch h
theorem NoBits.eventDelivery : NoBits.Statement (.eventDelivery) := fun _ _ h => nomatch h
theorem NoBits.irqEoi (w : Word) : NoBits.Statement (.irqEoi w) := fun _ _ h => nomatch h
theorem NoBits.irqSw (w : Word) : NoBits.Statement (.irqSw w) := fun _ _ h => nomatch h
theorem NoBits.irqSwClr (w : Word) : NoBits.Statement (.irqSwClr w) := fun _ _ h => nomatch h
theorem NoBits.irqDoze (g : Fin 64) (w : Word) : NoBits.Statement (.irqDoze g w) := fun _ _ h => nomatch h
theorem NoBits.irqRconsWrite (g : Fin 64) (w : Word) : NoBits.Statement (.irqRconsWrite g w) := fun _ _ h => nomatch h
theorem NoBits.slateEndOfService (src : Fin 4096) : NoBits.Statement (.slateEndOfService src) := fun _ _ h => nomatch h
theorem NoBits.graceExpire (cls : Byte) (scope : Fin 5) (unit : Fin 1056) : NoBits.Statement (.graceExpire cls scope unit) := fun _ _ h => nomatch h
theorem NoBits.quietExpire (cls : Byte) (scope : Fin 5) (unit : Fin 1056) : NoBits.Statement (.quietExpire cls scope unit) := fun _ _ h => nomatch h
theorem NoBits.budgetWindowEnd (cls : Byte) (scope : Fin 5) (unit : Fin 1056) : NoBits.Statement (.budgetWindowEnd cls scope unit) := fun _ _ h => nomatch h
theorem NoBits.fltAck (w : Word) : NoBits.Statement (.fltAck w) := fun _ _ h => nomatch h
theorem NoBits.fltUnstick (w : Word) : NoBits.Statement (.fltUnstick w) := fun _ _ h => nomatch h
theorem NoBits.fltSel (w : Word) : NoBits.Statement (.fltSel w) := fun _ _ h => nomatch h
theorem NoBits.blackboxWrite (ok : Bool) : NoBits.Statement (.blackboxWrite ok) := fun _ _ h => nomatch h
theorem NoBits.roundStart (mrefOff : Int) : NoBits.Statement (.roundStart mrefOff) := fun _ _ h => nomatch h
theorem NoBits.sensorGateEnd (counts : List (Fin 262144)) : NoBits.Statement (.sensorGateEnd counts) := fun _ _ h => nomatch h
theorem NoBits.roundPublish (uj : List Nat) : NoBits.Statement (.roundPublish uj) := fun _ _ h => nomatch h
theorem NoBits.glbResetModule (w : Word) (spb : Bool) : NoBits.Statement (.glbResetModule w spb) := fun _ _ h => nomatch h
theorem NoBits.glbResetTile (w : Word) (spb : Bool) : NoBits.Statement (.glbResetTile w spb) := fun _ _ h => nomatch h
theorem NoBits.tileResetEnd (t : Fin 8) : NoBits.Statement (.tileResetEnd t) := fun _ _ h => nomatch h
theorem NoBits.spaRead (w : Word) : NoBits.Statement (.spaRead w) := fun _ _ h => nomatch h
theorem NoBits.spaProgram (w : Word) : NoBits.Statement (.spaProgram w) := fun _ _ h => nomatch h
theorem NoBits.spaErase (w : Word) : NoBits.Statement (.spaErase w) := fun _ _ h => nomatch h
theorem NoBits.spaSfdp (w : Word) : NoBits.Statement (.spaSfdp w) := fun _ _ h => nomatch h
theorem NoBits.spaReadStatus (w : Word) : NoBits.Statement (.spaReadStatus w) := fun _ _ h => nomatch h
theorem NoBits.spaOpComplete (err late : Bool) (data : List Byte) : NoBits.Statement (.spaOpComplete err late data) := fun _ _ h => nomatch h
theorem NoBits.xipRead (a : BitVec 26) : NoBits.Statement (.xipRead a) := fun _ _ h => nomatch h
theorem NoBits.spbReadFrame (w : Word) (n : Nat) (extra : Fin 32) (early : Bool) (ecc : List (Nat × Bool)) : NoBits.Statement (.spbReadFrame w n extra early ecc) := fun _ _ h => nomatch h
theorem NoBits.spbWriteFrame (w : Word) (data : List Word) (extra : Fin 32) (early : Bool) : NoBits.Statement (.spbWriteFrame w data extra early) := fun _ _ h => nomatch h
theorem NoBits.spbStatusFrame (w : Word) (n : Nat) (extra : Fin 32) (early : Bool) : NoBits.Statement (.spbStatusFrame w n extra early) := fun _ _ h => nomatch h
theorem NoBits.jtagTapReset : NoBits.Statement (.jtagTapReset) := fun _ _ h => nomatch h
theorem NoBits.bypass : NoBits.Statement (.bypass) := fun _ _ h => nomatch h
theorem NoBits.idcode : NoBits.Statement (.idcode) := fun _ _ h => nomatch h
theorem NoBits.samplePreload : NoBits.Statement (.samplePreload) := fun _ _ h => nomatch h
theorem NoBits.extest : NoBits.Statement (.extest) := fun _ _ h => nomatch h
theorem NoBits.clamp : NoBits.Statement (.clamp) := fun _ _ h => nomatch h
theorem NoBits.highz : NoBits.Statement (.highz) := fun _ _ h => nomatch h
theorem NoBits.extestPulse : NoBits.Statement (.extestPulse) := fun _ _ h => nomatch h
theorem NoBits.extestTrain : NoBits.Statement (.extestTrain) := fun _ _ h => nomatch h
theorem NoBits.dwUnlock (accept : Bool) : NoBits.Statement (.dwUnlock accept) := fun _ _ h => nomatch h
theorem NoBits.diagWindowRead (o : BitVec 24) (spb : Bool) (err : Option Bool) : NoBits.Statement (.diagWindowRead o spb err) := fun _ _ h => nomatch h
theorem NoBits.diagWindowWrite (o : BitVec 24) (w : Word) (spb : Bool) : NoBits.Statement (.diagWindowWrite o w spb) := fun _ _ h => nomatch h
theorem NoBits.vectorPeriod (c : Fin 1024) (seen : List (List (Bool × Bool))) : NoBits.Statement (.vectorPeriod c seen) := fun _ _ h => nomatch h
theorem NoBits.compFilterReturn (u : Fin 1056) (high : Bool) (samples : List Bool) : NoBits.Statement (.compFilterReturn u high samples) := fun _ _ h => nomatch h
theorem NoBits.shortCircuitRelease (u : Fin 1056) : NoBits.Statement (.shortCircuitRelease u) := fun _ _ h => nomatch h
theorem NoBits.kelvinMismatchEnd (u : Fin 1056) : NoBits.Statement (.kelvinMismatchEnd u) := fun _ _ h => nomatch h
theorem NoBits.supplyWindowReturn (rail : Fin 9) : NoBits.Statement (.supplyWindowReturn rail) := fun _ _ h => nomatch h
theorem NoBits.symbolLockRegained (p : Fin 4) : NoBits.Statement (.symbolLockRegained p) := fun _ _ h => nomatch h
theorem NoBits.tsSendCount (p : Fin 4) : NoBits.Statement (.tsSendCount p) := fun _ _ h => nomatch h
theorem NoBits.eqAdaptEnd (p : Fin 4) (taps : List ((BitVec 4 × BitVec 4) × EqMove)) : NoBits.Statement (.eqAdaptEnd p taps) := fun _ _ h => nomatch h
theorem NoBits.eqMarginCheckEnd (p : Fin 4) (l : Fin 5) (h v : Byte) (pass : Bool) : NoBits.Statement (.eqMarginCheckEnd p l h v pass) := fun _ _ h => nomatch h
theorem NoBits.loopbackSlaveIdle (p : Fin 4) : NoBits.Statement (.loopbackSlaveIdle p) := fun _ _ h => nomatch h
theorem NoBits.disabledClockActivity (p : Fin 4) : NoBits.Statement (.disabledClockActivity p) := fun _ _ h => nomatch h
theorem NoBits.rxWake (p : Fin 4) : NoBits.Statement (.rxWake p) := fun _ _ h => nomatch h
theorem NoBits.beaconReceive (p : Fin 4) : NoBits.Statement (.beaconReceive p) := fun _ _ h => nomatch h
theorem NoBits.skpSet (p : Fin 4) (rx : Bool) (got : List Symb) : NoBits.Statement (.skpSet p rx got) := fun _ _ h => nomatch h

end Sys2Proof.Laws
end

