-- ==== Sys2Proof/WellFormed.lean ====
section
/-! DEFINITION. Which operands the outside can send: lengths and ranges that the rules fix and the operand types do not hold. -/

namespace Sys2Proof

open Sys2Proof.Machine (CalRow)

/-- A calibration row holds the 704 bytes of a record's correction groups (R224). -/
def rowOk (r : CalRow) : Bool := decide (r.data.length = 704)

/-- Units of a scope code (R356): module, tile, channel, port, shade. -/
def scopeSize (scope : Nat) : Nat := [1, 8, 1024, 4, 32].getD scope 0

/-- An instance of a class of R357 in a scope's range. -/
def instOk (cls : BitVec 8) (scope unit : Nat) : Bool := decide (1 ≤ cls.toNat ∧ cls.toNat ≤ 0x13 ∧ unit < scopeSize scope)

/-- Units and 64-bit words of a unit of each SECDED region (R12, R14). -/
def scrubOk (region unit word : Nat) : Bool :=
  decide (unit < [1024, 8, 8, 1, 1, 1].getD region 0 ∧ word < [0x1800, 0x40000, 0x10000, 0x200000, 0x40000, 0x40000].getD region 0)

/-- A command is well-formed. -/
def Instr.wellFormed (i : Instr) : Bool :=
  match i with
  | .calRotateRequalify _ row => rowOk row
  | .handoverStep _ row => rowOk row
  | .transferStep _ rows _ _ => rows.all fun e => rowOk e.2
  | .anchorStep inp => inp.rows.all fun e => rowOk e.2
  | .codeDensityDone _ hist delays _ _ _ =>
    decide (hist.length = 200) && decide (delays.length ≤ 5) && delays.all fun l => decide (l.length = 200)
  | .sensorGateEnd counts => decide (counts.length = 34)
  | .roundPublish uj => decide (uj.length = 8)
  | .eqAdaptEnd _ taps => decide (taps.length ≤ 5)
  | .laneDegradeWindow _ _ syms => decide (syms.length ≤ 2 ^ 24)
  | .graceExpire cls scope unit => instOk cls scope unit
  | .quietExpire cls scope unit => instOk cls scope unit
  | .budgetWindowEnd cls scope unit => instOk cls scope unit
  | .sramScrub region unit word _ => scrubOk region unit word.toNat
  | .diagWindowRead o _ _ => decide (o.toNat < 0xC00000)
  | .diagWindowWrite o _ _ => decide (o.toNat < 0xC00000)
  | _ => true

/-- The same as a proposition. -/
abbrev Instr.WellFormed (i : Instr) : Prop := i.wellFormed = true

end Sys2Proof
end

