-- ==== Sys2Proof/Tests/Slice0.lean ====
section
/-! SUPPORT. Tests: each well-formedness check refuses an ill-formed command; and, for every statement with hypotheses, concrete
states and operands that meet all of them together. -/

namespace Sys2Proof.Tests

open Sys2Proof Sys2Proof.Machine

/-! The checks of `Instr.wellFormed`. -/

/-- A calibration row that is too short. -/
def shortRow : CalRow := { data := [], changes := [] }

/-- A row's 704 bytes are asked for (R224). -/
theorem test_wf_calRotateRequalify (c : CmdRef) : (Instr.calRotateRequalify c shortRow).wellFormed = false := rfl

/-- The same of a hand-over (R224). -/
theorem test_wf_handoverStep : (Instr.handoverStep 3 shortRow).wellFormed = false := rfl

/-- The same of every row of a transfer (R224). -/
theorem test_wf_transferStep : (Instr.transferStep 2 [(0, shortRow)] [] []).wellFormed = false := rfl

/-- The same of every row of an anchoring (R224). -/
theorem test_wf_anchorStep : (Instr.anchorStep { rows := [(1, shortRow)] }).wellFormed = false := rfl

/-- A code-density histogram has 200 bins (R139). -/
theorem test_wf_codeDensityDone : (Instr.codeDensityDone 0 [5] [] 0 0 0).wellFormed = false := rfl

/-- The sensor gate ends with 34 counts (R373). -/
theorem test_wf_sensorGateEnd : (Instr.sensorGateEnd [7]).wellFormed = false := rfl

/-- Eight tiles' energies are published (R376). -/
theorem test_wf_roundPublish : (Instr.roundPublish [1, 2]).wellFormed = false := rfl

/-- An equalization has five taps at most (R276). -/
theorem test_wf_eqAdaptEnd : (Instr.eqAdaptEnd 0 (List.replicate 6 ((1, 1), ({} : EqMove)))).wellFormed = false := rfl

/-- A window has 2^24 symbols (R285). -/
theorem test_wf_laneDegradeWindow (l : List (BitVec 10)) (h : 2 ^ 24 < l.length) : (Instr.laneDegradeWindow 1 2 l).wellFormed = false :=
  decide_eq_false (Nat.not_le_of_lt h)

/-- Classes begin at 0x01 (R357). -/
theorem test_wf_graceExpire : (Instr.graceExpire 0x00 1 0).wellFormed = false := by decide

/-- Classes end at 0x13 (R357). -/
theorem test_wf_quietExpire : (Instr.quietExpire 0x14 1 0).wellFormed = false := by decide

/-- A tile's unit is below 8 (R356). -/
theorem test_wf_budgetWindowEnd : (Instr.budgetWindowEnd 0x05 1 8).wellFormed = false := by decide

/-- A rank has 0x40000 words (R14). -/
theorem test_wf_sramScrub : (Instr.sramScrub 1 0 0x40000 none).wellFormed = false := by decide

/-- The diagnostic window ends at 0xC00000 (R442). -/
theorem test_wf_diagWindowRead : (Instr.diagWindowRead 0xC00000 false none).wellFormed = false := by decide

/-- The same for a write (R441). -/
theorem test_wf_diagWindowWrite : (Instr.diagWindowWrite 0xC00000 1 false).wellFormed = false := by decide

set_option linter.unusedVariables false

/-! Witnesses: the states they share. -/

/-- Several fields set, each at its block base. -/
def fld (l : List (Nat × Fld × Nat)) (s : State) : State := l.foldl (fun s e => s.setF e.1 e.2.1 e.2.2) s

/-- READY, the root PLL locked, boot over. -/
def up0 : State := fld [(0, GLB_STATUS.STATE, 2), (0, GLB_STATUS.ROOT_LOCK, 1), (0, GLB_BOOT_STATUS.PHASE, 15)] { State.reset with inReset := false }

/-- Helper of the witnesses. -/
def inState (m : Nat) (s : State) : State := fld [(0, GLB_STATUS.STATE, m)] s

/-- A descriptor of version 1: RLEN and RADDR, then the parameter words. -/
def desc (rlen raddr : Nat) (ps : List Nat) : List Word := [0, BitVec.ofNat 32 rlen, BitVec.ofNat 32 raddr, 0] ++ ps.map (BitVec.ofNat 32)

/-- A command of ring 1 with tag 5. -/
def cmdW (op : Nat) (ps : List Nat) : Cmd := { sq := 1, tag := 5, op := op, words := desc 0x100 0x2000 ps, cq := 2, intake := 9 }

/-- The same admitted, and started. -/
def adm (op : Nat) (ps : List Nat) (chans : List Nat) : Cmd := { cmdW op ps with admitted := true, chans := chans }

/-- Helper of the witnesses. -/
def run (op : Nat) (ps : List Nat) (chans : List Nat) : Cmd := { adm op ps chans with started := true }

/-- Helper of the witnesses. -/
def r1 : CmdRef := ⟨1, 5⟩

/-- Helper of the witnesses. -/
def withCmd (c : Cmd) (s : State) : State := { s with cmds := s.cmds ++ [c] }

/-- A way to the host, by port 1. -/
def hostOk (s : State) : State :=
  fld [(0, LNK_ID.VALID, 1), (0, LNK_RTH.VALID, 1), (0, LNK_RTH.PORT, 1), (pB 1, LNK_P_STATUS.UP, 1), (pB 1, LNK_P_STATUS.STATE, 5)] s

/-- An engine in RUN of channel 3 with word w at its PC. -/
def engW (w : Nat) (s : State) : State := (fld [(chB 3, CHN_SEQ_STATUS.STATE, 1)] (s.modEng 3 fun e => { e with run := some r1, inSeg := true })).sramSet (seqBase 3) 8 w

/-- Helper of the witnesses. -/
def eng7 (w : Nat) : State := engW w up0

/-- Helper of the witnesses. -/
def sw (op : Nat) (l : List (Nat × Nat)) : Nat := op * 2 ^ 58 + (l.map fun e => e.2 * 2 ^ e.1).foldl (· + ·) 0

/-- The same in a stream whose ring holds n words, the first at address 64. -/
def str7 (n w : Nat) : State :=
  ((fld [(chB 3, CHN_SEQ_STATUS.STATE, 1), (chB 3, CHN_STRM_BASE.BASE, 2), (chB 3, CHN_STRM_SIZE.WORDS, 32), (chB 3, CHN_STRM_FILL.WORDS, n)] up0).modEng 3 fun e => { e with run := some r1, inSeg := true, ret := some 9, queue := [{ pins := [] }] }).sramSet (seqBase 3 + 8 * 64) 8 w

/-- Helper of the witnesses. -/
def okRun (s : State) : State := fld ((feB 3, CHN_TIM_STATUS.VLOCK, 1) :: (List.range 32).flatMap fun k => [(chB 3 + 0x20 * k, CHN_TS_PER.COARSE, 2)]) s

/-- Helper of the witnesses. -/
def run8 (st : Nat) (f : Eng → Eng) : State := withCmd (run opSEQRUN [3] [3]) (fld [(chB 3, CHN_SEQ_STATUS.STATE, st)] (((okRun up0).modEng 3 fun e => f { e with run := some r1 }).modEng 4 fun e => e))

/-- Helper of the witnesses. -/
def vec8 (code : Nat) : Vec := { pins := [{ chan := 3, code := code, ts := { per := 400, d1 := 0, d2 := 100, d3 := 0, s1 := 50, s2 := 90, fmt := 1 } }] }

/-- Helper of the witnesses. -/
def pt (p st : Nat) (f : Port → Port) (s : State) : State := (fld [(pB p, LNK_P_STATUS.STATE, st)] s).modPort p fun q => f { q with released := true }

/-- Helper of the witnesses. -/
def ts13 : Ts := { lane := 2, rates := 3, spareCap := true, maxw := 2, rxok := 0x1F, devtype := 4, ackTag := 1 }

/-- Helper of the witnesses. -/
def use13 (l : List Nat) (s : State) : State := fld (l.flatMap fun k => [(lB 1 k, LNK_P_L_STATUS.RXROLE, 1), (lB 1 k, LNK_P_L_STATUS.TXROLE, 1), (lB 1 k, LNK_P_L_TXEQ.MAIN, 24), (lB 1 k, LNK_P_L_TXEQ.POST, 4)]) s

/-- Helper of the witnesses. -/
def eq13 (f : Port → Port) : State := use13 [0, 2] (pt 1 4 f up0)

/-! How a witness is shown. -/

set_option Elab.async false

/-- A function that answers none below n answers nothing there. -/
theorem none_at {α : Type} {f : Nat → Option α} {n i : Nat} {a : α} (h : ∀ i < n, f i = none) (hi : i < n) (e : f i = some a) : False := by
  simp [h i hi] at e

/-- What holds of every answer that a function gives below n, said by a test. -/
theorem all_at {α : Type} {f : Nat → Option α} {P : α → Prop} [DecidablePred P] {n : Nat}
    (h : ∀ g < n, (f g).all (fun a => decide (P a)) = true) : ∀ g < n, ∀ a, f g = some a → P a :=
  fun g hg a e => by simpa [e] using h g hg

/-- What holds of the value of an option that is there, said by a test. -/
theorem all_of {α : Type} {o : Option α} {P : α → Prop} [DecidablePred P] (h : o.all (fun a => decide (P a)) = true) : ∀ a, o = some a → P a := by
  rintro a rfl; simpa using h

/-- A state is well formed when each of its tables and memories is. -/
theorem wf_of {s : State} (h : (tabWf resetWord s.regs = true ∧ Memory.wf sramReset s.sram = true ∧ Memory.wf flashReset s.flash = true ∧
    Memory.wf hostReset s.host = true ∧ tabWf (fun _ => {}) s.fes = true ∧ tabWf (fun _ => {}) s.cmps = true ∧
    tabWf (fun _ => {}) s.insts = true ∧ tabWf (fun _ => {}) s.adcs = true ∧ tabWf (fun _ => {}) s.engs = true ∧
    tabWf (fun _ => {}) s.ctxs = true ∧ tabWf (fun _ => {}) s.flGroups = true ∧ tabWf (fun _ => {}) s.tdcs = true ∧
    tabWf (fun _ => {}) s.trigs = true ∧ tabWf (fun _ => {}) s.rots = true ∧ tabWf (fun _ => {}) s.tiles = true ∧
    tabWf (fun _ => {}) s.timing = true ∧ tabWf (fun _ => {}) s.timingNew = true ∧ tabWf (fun _ => {}) s.mics = true ∧
    tabWf (fun _ => {}) s.ports = true ∧ tabWf (fun _ => {}) s.srcs = true ∧ tabWf (fun _ => {}) s.vecs = true ∧
    tabWf (fun _ => 0) s.lastCls = true) ∧ tabWf (fun _ => 0) s.pairs = true ∧ tabWf (fun _ => 0) s.charges = true ∧ tabWf (fun _ => 0) s.cs = true ∧
    tabWf (fun _ => 0) s.good = true ∧ tabWf (fun _ => 0) s.latched = true ∧ tabWf (fun _ => 0) s.pulses = true ∧
    tabWf (fun _ => none) s.jobs = true ∧ tabWf (fun _ => none) s.rotAt = true ∧ tabWf (fun _ => 65536) s.rails = true) : s.Wf := by
  obtain ⟨⟨_, _, _, _, _, _, _, _, _, _, _, _, _, _, _, _, _, _, _, _, _, _⟩, _, _, _, _, _, _, _, _, _⟩ := h
  constructor <;> assumption

/-- What `State.Issues` asks, in one conjunction. -/
theorem issues_of {s : State} {c op w : Nat} (h : s.issuing c = true ∧ (s.engState c = 5 → op ∉ swAfterStart) ∧
    (((s.eng c).ret = none ∧ s.pc c < 0x1800) ∨ ((s.eng c).ret ≠ none ∧ s.short c 1 = [])) ∧ s.memWord c c 0 = w ∧ swOp w = op ∧
    ((s.eng c).part = 0 → s.wordErr c w = none)) : s.Issues c op w :=
  ⟨h.1, h.2.1, h.2.2.1, h.2.2.2.1, h.2.2.2.2.1, h.2.2.2.2.2⟩

/-! Reset, supplies, boot, clocks, the access ports. -/

/-- Concrete states and operands that meet, clause by clause, the hypotheses of `Obligations.ResetAndSupplyRows`. -/
theorem test_wit_ResetAndSupplyRows :
    (∃ (s : State), s.off = false ∧ s.inReset = false) ∧
    (∃ (s : State), s.off = false ∧ s.inReset = false ∧ 5 ≤ s.getF 0 GLB_BOOT_STATUS.PHASE) ∧
    (∃ (s : State) (w : Word) (spb : Bool), s.off = false ∧ s.inReset = false ∧ GLB_RESET.KEY.get w = 23294 ∧ GLB_RESET.MODULE.get w = 1) ∧
    (∃ (s : State), s.off = false ∧ s.inReset = true ∧ s.unlocked = false ∧ s.tapIr ∉ holdIrs) ∧
    (∃ (s : State), s.off = true) ∧
    (∃ (s : State) (rail : Fin 9) (mv : BitVec 16), s.off = false ∧ s.mode = stBOOT) ∧
    (∃ (s : State) (rail : Fin 9) (mv : BitVec 16), s.off = false ∧ s.mode ≠ stBOOT ∧ (s.inst (instKey 17 scMODULE 0)).force = false ∧ s.getF
      (4 * 17) FLT_CLASS.LEVEL = 3) :=
  ⟨⟨up0, by decide +kernel⟩,
   ⟨up0, by decide +kernel⟩,
   ⟨up0, 0x5AFE0001, true, by decide +kernel⟩,
   ⟨State.reset, by decide +kernel⟩,
   ⟨{ State.reset with off := true }, by decide +kernel⟩,
   ⟨inState 1 up0, 2, 900, by decide +kernel⟩,
   ⟨up0, 2, 900, by decide +kernel⟩⟩

def xfer : State := fld [(0, CAL_TILE_ROT.XFER, 1)] up0

def svc : State := inState 5 up0

def svcHeld : State := fld [(0, MC_INSTALL.BUSY, 1)] svc

/-- Concrete states and operands that meet, clause by clause, the hypotheses of `Obligations.ServiceRows`. -/
theorem test_wit_ServiceRows :
    (∃ (s : State), s.writeOk GLB_CTRL.SVC_REQ.off = true ∧ s.mode = stREADY ∧ s.cmdInFlight = false ∧ s.calUnderWay = false) ∧
    (∃ (s : State), s.writeOk GLB_CTRL.SVC_REQ.off = true ∧ s.mode = stREADY ∧ s.cmdInFlight = false ∧ s.calUnderWay = true) ∧
    (∃ (s : State) (black : Bool), s.writeOk GLB_CTRL.SVC_REQ.off = true ∧ (s.mode ≠ stREADY ∨ s.cmdInFlight = true ∨ black = true)) ∧
    (∃ (s : State), s.svcEntry = true ∧ s.mode = stREADY ∧ s.calUnderWay = false) ∧
    (∃ (s : State), s.writeOk GLB_CTRL.SVC_REQ.off = true ∧ s.mode = stSERVICE ∧ s.serviceHeld = false) ∧
    (∃ (s : State), s.writeOk GLB_CTRL.SVC_REQ.off = true ∧ s.mode = stSERVICE ∧ s.serviceHeld = true) ∧
    (∃ (s : State), s.svcExit = true ∧ s.mode = stSERVICE ∧ s.serviceHeld = false) :=
  ⟨⟨up0, by decide +kernel⟩,
   ⟨xfer, by decide +kernel⟩,
   ⟨svc, false, by decide +kernel⟩,
   ⟨{ up0 with svcEntry := true }, by decide +kernel⟩,
   ⟨svc, by decide +kernel⟩,
   ⟨svcHeld, by decide +kernel⟩,
   ⟨{ svc with svcExit := true }, by decide +kernel⟩⟩

def booting (p : Nat) : State := fld [(0, GLB_STATUS.STATE, 1), (0, GLB_BOOT_STATUS.PHASE, p)] up0

/-- Concrete states and operands that meet, clause by clause, the hypotheses of `Obligations.BootPhases`. -/
theorem test_wit_BootPhases :
    (∃ (inp : BootIn) (s : State), s.inReset = false ∧ s.mode = stBOOT ∧ s.isSet 0 GLB_BOOT_STATUS.HALT = false ∧ (s.getF 0 GLB_BOOT_STATUS.PHASE
      = 1 ∨ s.getF 0 GLB_BOOT_STATUS.PHASE = 3 ∧ s.clocked = true)) ∧
    (∃ (inp : BootIn) (s : State), s.inReset = false ∧ s.mode = stBOOT ∧ s.isSet 0 GLB_BOOT_STATUS.HALT = false ∧ s.getF 0 GLB_BOOT_STATUS.PHASE
      = 2 ∧ inp.inBand = true) ∧
    (∃ (inp : BootIn) (s : State), s.inReset = false ∧ s.mode = stBOOT ∧ s.isSet 0 GLB_BOOT_STATUS.HALT = false ∧ s.getF 0 GLB_BOOT_STATUS.PHASE
      = 2 ∧ inp.inBand = false) ∧
    (∃ (inp : BootIn) (s : State), s.inReset = false ∧ s.mode = stBOOT ∧ s.isSet 0 GLB_BOOT_STATUS.HALT = false ∧ s.getF 0 GLB_BOOT_STATUS.PHASE
      = 4 ∧ s.clocked = true ∧ inp.flash = none) ∧
    (∃ (inp : BootIn) (s : State), s.inReset = false ∧ s.mode = stBOOT ∧ s.isSet 0 GLB_BOOT_STATUS.HALT = false ∧ s.getF 0 GLB_BOOT_STATUS.PHASE
      = 10 ∧ s.clocked = true ∧ (∀ e ∈ inp.checks, e.2.1.natAbs ≤ 1000000 ∧ e.2.2.1.natAbs ≤ 1000000) ∧ s.rails = [] ∧ s.noFaults) :=
  ⟨⟨{}, booting 3, by decide +kernel⟩,
   ⟨{}, booting 2, by decide +kernel⟩,
   ⟨{ inBand := false }, booting 2, by decide +kernel⟩,
   ⟨{}, booting 4, by decide +kernel⟩,
   ⟨{}, booting 10, by decide +kernel, by decide +kernel, by decide +kernel, by decide +kernel, by decide +kernel, by decide +kernel, by
     decide +kernel, by unfold State.noFaults; decide +kernel⟩⟩

def unclocked : State := fld [(0, GLB_STATUS.ROOT_LOCK, 0)] up0

def inTileReset : State := fld [(tileBase 3, TIL_STATUS.RESET, 1), (0, GLB_STATUS.TILE_Q, 8)] up0

/-- Concrete states and operands that meet, clause by clause, the hypotheses of `Obligations.ClockAndTileResetRows`. -/
theorem test_wit_ClockAndTileResetRows :
    (∃ (s : State) (n : BitVec 16) (pll : Bool), s.inReset = false ∧ (n.toNat < 990 ∨ 1010 < n.toNat ∨ pll = true) ∧ s.clocked = false) ∧
    (∃ (s : State) (n : BitVec 16) (pll : Bool), s.inReset = false ∧ (n.toNat < 990 ∨ 1010 < n.toNat ∨ pll = true) ∧ s.clocked = true) ∧
    (∃ (s : State), s.inReset = false ∧ s.clocked = false ∧ 2 < s.getF 0 GLB_BOOT_STATUS.PHASE) ∧
    (∃ (s : State) (w : Word) (spb : Bool) (k : Fin 8), s.inReset = false ∧ s.mode ≠ stBOOT ∧ s.noFaults ∧ GLB_RESET.KEY.get w = 23294 ∧
      GLB_RESET.MODULE.get w = 0 ∧ GLB_RESET.TILES.get w = 2 ^ k.val ∧ s.isSet (tileBase ↑k) TIL_STATUS.RESET = false) ∧
    (∃ (s : State) (w : Word) (spb : Bool), s.inReset = false ∧ GLB_RESET.KEY.get w ≠ 23294 ∧ (GLB_RESET.MODULE.get w = 1 ∨ GLB_RESET.TILES.get w
      ≠ 0)) ∧
    (∃ (s : State) (k : Fin 8), s.inReset = false ∧ s.noFaults ∧ s.isSet (tileBase ↑k) TIL_STATUS.RESET = true) :=
  ⟨⟨unclocked, 989, false, by decide +kernel⟩,
   ⟨up0, 1000, true, by decide +kernel⟩,
   ⟨unclocked, by decide +kernel⟩,
   ⟨up0, 0x5AFE0800, false, 3, by decide +kernel, by decide +kernel, by unfold State.noFaults; decide +kernel, by decide +kernel⟩,
   ⟨up0, 0x5AFF0800, false, by decide +kernel⟩,
   ⟨inTileReset, 3, by decide +kernel, by unfold State.noFaults; decide +kernel, by decide +kernel⟩⟩

/-- Concrete states and operands that meet, clause by clause, the hypotheses of `Obligations.JtagRows`. -/
theorem test_wit_JtagRows :
    (∃ (s : State), s.off = false) ∧
    (∃ (s : State), s.off = false) ∧
    (∃ (s : State), s.off = false) ∧
    (∃ (s : State), s.off = false) ∧
    (∃ (s : State), s.off = false ∧ s.inReset = false) ∧
    (∃ (s : State), s.off = false ∧ s.inReset = false) ∧
    (∃ (s : State), s.off = false ∧ s.inReset = false) ∧
    (∃ (s : State), s.off = false ∧ s.inReset = false) ∧
    (∃ (s : State), s.off = false ∧ s.inReset = false) ∧
    (∃ (s : State), s.off = false ∧ s.inReset = false ∧ s.unlocked = false ∧ s.dwFailed = false) ∧
    (∃ (s : State), s.off = false ∧ s.unlocked = false ∧ s.dwFailed = false) :=
  ⟨⟨up0, by decide +kernel⟩,
   ⟨up0, by decide +kernel⟩,
   ⟨up0, by decide +kernel⟩,
   ⟨up0, by decide +kernel⟩,
   ⟨up0, by decide +kernel⟩,
   ⟨up0, by decide +kernel⟩,
   ⟨up0, by decide +kernel⟩,
   ⟨up0, by decide +kernel⟩,
   ⟨up0, by decide +kernel⟩,
   ⟨up0, by decide +kernel⟩,
   ⟨up0, by decide +kernel⟩⟩

def flash26 : State := fld [(0, SPA_STATUS.DLOG2, 26)] up0

def spaBusy (op : Nat) : State := { fld [(0, SPA_STATUS.BUSY, 1)] flash26 with spa := some { op := op, addr := 0x800000, len := 2, data := [1, 2] } }

/-- Concrete states and operands that meet, clause by clause, the hypotheses of `Obligations.SpaRows`. -/
theorem test_wit_SpaRows :
    (∃ (s : State) (w : Word) (i : Instr) (op : Nat) (o : SpaOp), s.writeOk SPA_CMD.START.off = true ∧ s.isSet 0 SPA_STATUS.BUSY = false ∧
      (i, op) ∈ [(Instr.spaRead w, 0), (Instr.spaProgram w, 1), (Instr.spaErase w, 2), (Instr.spaSfdp w, 3), (Instr.spaReadStatus w, 4)] ∧ o.op =
      op ∧ o.addr = s.getF 0 SPA_ADDR.ADDR ∧ o.len = SPA_CMD.LENM1.get w + 1 ∧ o.data = List.take o.len (List.flatMap (fun i => leBytes 4 (s.getF
      (4 * i) SPA_BUF.DATA)) (List.range 64)) ∧ s.spaRefuse o = none) ∧
    (∃ (s : State) (data : List Byte) (o : SpaOp), s.spa = some o) ∧
    (∃ (s : State) (data : List Byte) (o : SpaOp) (late : Bool), s.spa = some o ∧ o.op ≠ 1 ∧ o.op ≠ 2) ∧
    (∃ (s : State) (data : List Byte) (a : BitVec 26), 5 ≤ s.getF 0 GLB_BOOT_STATUS.PHASE ∧ s.inReset = false ∧ 2 ^ s.getF 0 SPA_STATUS.DLOG2 ≤
      a.toNat) :=
  ⟨⟨flash26, 0, .spaSfdp 0, 3, { op := 3, addr := 0, len := 1, data := [0] }, by decide +kernel⟩,
   ⟨spaBusy 1, [1, 2], { op := 1, addr := 0x800000, len := 2, data := [1, 2] }, by decide +kernel⟩,
   ⟨spaBusy 0, [1, 2], { op := 0, addr := 0x800000, len := 2, data := [1, 2] }, false, by decide +kernel⟩,
   ⟨up0, [], 0x2000000, by decide +kernel⟩⟩

/-- Concrete states and operands that meet, clause by clause, the hypotheses of `Obligations.WindowRows`. -/
theorem test_wit_WindowRows :
    (∃ (s : State) (w : Word) (early : Bool) (ecc : List (Nat × Bool)), s.inReset = false ∧ spbOp w = 0 ∧ spbCause w 2 0 early = 0 ∧ 4 * spbAddr
      w < 16777216 ∧ s.readOk (4 * spbAddr w) = true ∧ isHi (4 * spbAddr w) = false) ∧
    (∃ (s : State) (w : Word) (n : Nat) (early : Bool), s.inReset = false ∧ spbOp w = 2 ∧ spbCause w n 0 early = 0) ∧
    (∃ (s : State) (w : Word) (v : Word) (early : Bool), s.inReset = false ∧ spbOp w = 1 ∧ spbCause w 1 0 early = 0 ∧ 4 * spbAddr w =
      GLB_SYNC_SKEW_LO.SKEW.off ∧ s.writeOk GLB_SYNC_SKEW_LO.SKEW.off = true) ∧
    (∃ (s : State) (w : Word) (v : Word) (extra : Fin 32) (early : Bool), s.inReset = false ∧ spbOp w = 1 ∧ extra ≠ 0) ∧
    (∃ (s : State) (w : Word) (spb : Bool), s.writeOk GLB_SYNC_SKEW_LO.SKEW.off = true) ∧
    (∃ (s : State) (a : BitVec 24) (w : Word) (spb : Bool), (s.writeOk (4 * a.toNat) = false ∨ 4 * a.toNat < 16777216 ∧ findReg (4 * a.toNat) =
      none)) ∧
    (∃ (s : State) (a : BitVec 24), isLo (4 * a.toNat) = true ∧ s.readOk (4 * a.toNat) = true) ∧
    (∃ (s : State) (o : BitVec 24) (spb : Bool), s.diagReadOk (s.diagPart (diagAddr o) spb) = true ∧ s.diagOpen (s.diagPart (diagAddr o) spb) =
      false) ∧
    (∃ (s : State) (o : BitVec 24) (w : Word) (spb : Bool) (c : Nat) (p : Nat), s.writeOk (diagAddr o) = true ∧ s.diagPart (diagAddr o) spb =
      DPart.seq c p ∧ s.isSet (tileBase (c / 128)) TIL_STATUS.RESET = false ∧ s.mode = stSERVICE) :=
  ⟨⟨up0, 0x14, false, [], by decide +kernel⟩,
   ⟨up0, 0x80000000, 2, false, by decide +kernel⟩,
   ⟨up0, 0x40000014, 7, false, by decide +kernel⟩,
   ⟨up0, 0x40000014, 7, 5, false, by decide +kernel⟩,
   ⟨up0, 7, false, by decide +kernel⟩,
   ⟨State.reset, 0x14, 7, false, by decide +kernel⟩,
   ⟨up0, 0xC, by decide +kernel⟩,
   ⟨up0, 0x800000, false, by decide +kernel⟩,
   ⟨inState 5 up0, 0x400000, 7, false, 0, 0, by decide +kernel⟩⟩

/-! Faults. -/

def instOf (k : Nat) (i : Inst) (s : State) : State := s.setInst k i

def i0 : Inst := { force := true, level := 1, unack := true, grace := true, detail := 7 }

def q0 : Inst := { force := true, quiet := true, detail := 9 }

/-- Concrete states and operands that meet, clause by clause, the hypotheses of `Obligations.FaultTimerRows`. -/
theorem test_wit_FaultTimerRows :
    (∃ (cls : Byte) (scope : Fin 5) (unit : Fin 1056) (s : State), (s.inst (instKey (BitVec.toNat cls) ↑scope ↑unit)).force = true ∧ (s.inst
      (instKey (BitVec.toNat cls) ↑scope ↑unit)).unack = true ∧ (s.inst (instKey (BitVec.toNat cls) ↑scope ↑unit)).grace = true ∧ ((s.inst
      (instKey (BitVec.toNat cls) ↑scope ↑unit)).level = 1 ∨ (s.inst (instKey (BitVec.toNat cls) ↑scope ↑unit)).level = 2)) ∧
    (∃ (cls : Byte) (scope : Fin 5) (unit : Fin 1056) (s : State), (s.inst (instKey (BitVec.toNat cls) ↑scope ↑unit)).force = true ∧ (s.inst
      (instKey (BitVec.toNat cls) ↑scope ↑unit)).cond = false ∧ (s.inst (instKey (BitVec.toNat cls) ↑scope ↑unit)).sticky = false ∧ (s.inst
      (instKey (BitVec.toNat cls) ↑scope ↑unit)).quiet = true ∧ (s.inst (instKey (BitVec.toNat cls) ↑scope ↑unit)).level = 0) ∧
    (∃ (cls : Byte) (scope : Fin 5) (unit : Fin 1056) (s : State), (s.inst (instKey (BitVec.toNat cls) ↑scope ↑unit)).force = true ∧ (s.inst
      (instKey (BitVec.toNat cls) ↑scope ↑unit)).cond = false ∧ (s.inst (instKey (BitVec.toNat cls) ↑scope ↑unit)).sticky = false ∧ (s.inst
      (instKey (BitVec.toNat cls) ↑scope ↑unit)).quiet = true ∧ (s.inst (instKey (BitVec.toNat cls) ↑scope ↑unit)).level ≠ 0 ∧ ((s.inst (instKey
      (BitVec.toNat cls) ↑scope ↑unit)).window = false ∨ (s.inst (instKey (BitVec.toNat cls) ↑scope ↑unit)).wcnt < s.budgetMax)) ∧
    (∃ (cls : Byte) (scope : Fin 5) (unit : Fin 1056) (s : State), (s.inst (instKey (BitVec.toNat cls) ↑scope ↑unit)).force = true ∧ (s.inst
      (instKey (BitVec.toNat cls) ↑scope ↑unit)).cond = false ∧ (s.inst (instKey (BitVec.toNat cls) ↑scope ↑unit)).sticky = false ∧ (s.inst
      (instKey (BitVec.toNat cls) ↑scope ↑unit)).quiet = true ∧ (s.inst (instKey (BitVec.toNat cls) ↑scope ↑unit)).level ≠ 0 ∧ (s.inst (instKey
      (BitVec.toNat cls) ↑scope ↑unit)).window = true ∧ s.budgetMax ≤ (s.inst (instKey (BitVec.toNat cls) ↑scope ↑unit)).wcnt) :=
  ⟨⟨0x05, 1, 3, instOf (instKey 5 1 3) i0 up0, by decide +kernel⟩,
   ⟨0x05, 1, 3, instOf (instKey 5 1 3) q0 up0, by decide +kernel⟩,
   ⟨0x05, 1, 3, instOf (instKey 5 1 3) { q0 with level := 2, rcnt := 65535 } up0, by decide +kernel⟩,
   ⟨0x05, 1, 3, instOf (instKey 5 1 3) { q0 with level := 1, window := true, wcnt := 1000 } up0, by decide +kernel⟩⟩

def sel (cls scope unit clr : Nat) : Word := BitVec.ofNat 32 (clr <<< 31 + unit <<< 16 + scope <<< 8 + cls)

/-- Concrete states and operands that meet, clause by clause, the hypotheses of `Obligations.FaultRegisterRows`. -/
theorem test_wit_FaultRegisterRows :
    (∃ (w : Word) (s : State), s.Wf ∧ s.writeOk FLT_ACK.CLASS.off = true ∧ FLT_SEL.UNIT.get w < scopeUnits (FLT_SEL.SCOPE.get w)) ∧
    (∃ (w : Word) (s : State), s.Wf ∧ s.writeOk FLT_ACK.CLASS.off = true ∧ scopeUnits (FLT_SEL.SCOPE.get w) ≤ FLT_SEL.UNIT.get w) ∧
    (∃ (w : Word) (s : State), s.Wf ∧ s.writeOk FLT_UNSTICK.CLASS.off = true ∧ FLT_SEL.UNIT.get w < scopeUnits (FLT_SEL.SCOPE.get w) ∧ s.mode =
      stSERVICE) ∧
    (∃ (w : Word) (s : State), s.Wf ∧ s.writeOk FLT_UNSTICK.CLASS.off = true ∧ (scopeUnits (FLT_SEL.SCOPE.get w) ≤ FLT_SEL.UNIT.get w ∨ s.mode ≠
      stSERVICE)) ∧
    (∃ (w : Word) (s : State), s.Wf ∧ s.writeOk FLT_SEL.CLASS.off = true ∧ FLT_SEL.UNIT.get w < scopeUnits (FLT_SEL.SCOPE.get w) ∧ (s.getF
      (4 * FLT_SEL.CLASS.get w) FLT_CLASS.SCOPES).testBit (FLT_SEL.SCOPE.get w) = true) ∧
    (∃ (w : Word) (s : State), s.Wf ∧ s.writeOk FLT_SEL.CLASS.off = true ∧ (scopeUnits (FLT_SEL.SCOPE.get w) ≤ FLT_SEL.UNIT.get w ∨ (s.getF
      (4 * FLT_SEL.CLASS.get w) FLT_CLASS.SCOPES).testBit (FLT_SEL.SCOPE.get w) = false)) :=
  ⟨⟨sel 5 1 3 0, instOf (instKey 5 1 3) i0 up0, wf_of (by decide +kernel), by decide +kernel⟩,
   ⟨sel 5 1 8 0, up0, wf_of (by decide +kernel), by decide +kernel⟩,
   ⟨sel 5 1 7 0, instOf (instKey 5 1 7) { q0 with sticky := true } (inState 5 up0), wf_of (by decide +kernel), by decide +kernel⟩,
   ⟨sel 5 1 3 0, up0, wf_of (by decide +kernel), by decide +kernel⟩,
   ⟨sel 9 0 0 1, instOf (instKey 9 0 0) { q0 with rcnt := 3 } up0, wf_of (by decide +kernel), by decide +kernel⟩,
   ⟨sel 9 1 8 1, up0, wf_of (by decide +kernel), by decide +kernel⟩⟩

def bb1 : State := { up0 with bbStage := [{ cls := 5, scope := 1, why := 3, level := 2, epoch := false, unit := 3, tb := 9, time := 0, detail := 1 }] }

/-- Concrete states and operands that meet, clause by clause, the hypotheses of `Obligations.BlackBoxAndRoundRows`. -/
theorem test_wit_BlackBoxAndRoundRows :
    (∃ (s : State), s.bbStage ≠ [] ∧ s.inReset = false ∧ 8 ≤ s.getF 0 GLB_BOOT_STATUS.PHASE) ∧
    (∃ (s : State), s.bbStage ≠ [] ∧ s.inReset = false ∧ 8 ≤ s.getF 0 GLB_BOOT_STATUS.PHASE) ∧
    (∃ (s : State) (region : Fin 6) (unit : Fin 1024) (word : BitVec 24), s.inReset = false ∧ s.clocked = true ∧ ↑unit < eccUnits ↑region ∧
      word.toNat < eccWords ↑region ∧ 3 ≤ ↑region ∧ (s.inst (instKey 9 scMODULE 0)).force = false) ∧
    (∃ (s : State) (off : Int), s.roundsRun = true ∧ s.round = 0) ∧
    (∃ (s : State) (counts : List (Fin 262144)), s.roundsRun = true ∧ s.round = 1) ∧
    (∃ (s : State) (uj : List Nat), s.roundsRun = true ∧ s.round = 2) :=
  ⟨⟨bb1, by decide +kernel⟩,
   ⟨bb1, by decide +kernel⟩,
   ⟨up0, 3, 0, 0x1FFFFF, by decide +kernel⟩,
   ⟨up0, -500001, by decide +kernel⟩,
   ⟨{ up0 with round := 1 }, [], by decide +kernel⟩,
   ⟨{ up0 with round := 2 }, [1, 2, 3], by decide +kernel⟩⟩

/-! Events and interrupts. -/

def swIrq (st : Nat) : State := fld [(0, IRQ_SW.SW, 2), (4 * 0x81, IRQ_SMAP.EN, 1), (4 * 0x81, IRQ_SMAP.VECTOR, 3), (4 * 0x81, IRQ_SMAP.STATE, st)] up0

def slateSrc (s : State) : State := s.modSrc 0x81 fun x => { x with slate := true }

/-- Concrete states and operands that meet, clause by clause, the hypotheses of `Obligations.EventSourceRows`. -/
theorem test_wit_EventSourceRows :
    (∃ (s : State) (src : Fin 4096), s.Wf ∧ s.clocked = true ∧ s.srcState ↑src = srcIDLE ∧ s.isSet (4 * ↑src) IRQ_SMAP.EN = true ∧ s.lvl ↑src =
      true) ∧
    (∃ (s : State) (v : Fin 512), s.Wf ∧ (s.vec ↑v).cnt ≠ 0) ∧
    (∃ (s : State) (w : Word) (n : Nat), s.Wf ∧ s.writeOk IRQ_EOI.SOURCE.off = true ∧ IRQ_EOI.VEC.get w = 0 ∧ n = IRQ_EOI.SOURCE.get w ∧ s.isSet
      (4 * n) IRQ_SMAP.EN = true ∧ (s.srcState n = srcAGAIN ∨ s.srcState n = srcACTIVE ∧ s.lvl n = true)) ∧
    (∃ (s : State) (w : Word) (n : Nat), s.Wf ∧ s.writeOk IRQ_EOI.SOURCE.off = true ∧ IRQ_EOI.VEC.get w = 0 ∧ n = IRQ_EOI.SOURCE.get w ∧ 2 ≤
      s.srcState n ∧ (s.isSet (4 * n) IRQ_SMAP.EN = false ∨ s.srcState n = srcACTIVE ∧ s.lvl n = false)) ∧
    (∃ (s : State) (w : Word) (n : Nat), s.Wf ∧ s.writeOk IRQ_EOI.SOURCE.off = true ∧ IRQ_EOI.VEC.get w = 0 ∧ n = IRQ_EOI.SOURCE.get w ∧
      s.srcState n < 2) ∧
    (∃ (s : State) (w : Word), s.Wf ∧ s.writeOk IRQ_EOI.SOURCE.off = true ∧ IRQ_EOI.VEC.get w = 1) ∧
    (∃ (s : State) (w : Word), s.Wf ∧ s.writeOk IRQ_SW.SW.off = true) ∧
    (∃ (s : State) (w : Word), s.Wf ∧ s.writeOk IRQ_SW_CLR.SW.off = true) ∧
    (∃ (s : State) (n : Fin 4096), s.Wf ∧ s.clocked = true ∧ (s.src ↑n).slate = true ∧ s.srcState ↑n = srcAGAIN ∧ s.isSet (4 * ↑n) IRQ_SMAP.EN =
      true) ∧
    (∃ (s : State) (n : Fin 4096), s.Wf ∧ s.clocked = true ∧ (s.src ↑n).slate = true ∧ 2 ≤ s.srcState ↑n ∧ s.isSet (4 * ↑n) IRQ_SMAP.EN = false)
      :=
  ⟨⟨swIrq 0, 0x81, wf_of (by decide +kernel), by decide +kernel⟩,
   ⟨up0.modVec 3 fun x => { x with cnt := 1 }, 3, wf_of (by decide +kernel), by decide +kernel⟩,
   ⟨swIrq 3, 0x81, 0x81, wf_of (by decide +kernel), by decide +kernel⟩,
   ⟨fld [(4 * 0x81, IRQ_SMAP.EN, 0)] (swIrq 2), 0x81, 0x81, wf_of (by decide +kernel), by decide +kernel⟩,
   ⟨swIrq 1, 0x81, 0x81, wf_of (by decide +kernel), by decide +kernel⟩,
   ⟨swIrq 2, 0x80030000, wf_of (by decide +kernel), by decide +kernel⟩,
   ⟨up0, 5, wf_of (by decide +kernel), by decide +kernel⟩,
   ⟨swIrq 2, 3, wf_of (by decide +kernel), by decide +kernel⟩,
   ⟨slateSrc (swIrq 3), 0x81, wf_of (by decide +kernel), by decide +kernel⟩,
   ⟨slateSrc (fld [(4 * 0x81, IRQ_SMAP.EN, 0)] (swIrq 2)), 0x81, wf_of (by decide +kernel), by decide +kernel⟩⟩

def dueVec (tgt : Nat) : State :=

  fld [(0, IRQ_CTRL.EN, 1), (0, IRQ_VEC_TGT.EN, 1), (0, IRQ_VEC_TGT.STATE, 2), (0, IRQ_VEC_TGT.TGT, tgt), (4 * 0x81, IRQ_SMAP.VECTOR, 0)]

    ((swIrq 1).modVec 0 fun x => { x with cnt := 1, keep := true })

def hostDue : State := hostOk (fld [(gA 2, IRQ_TGT_CTRL.EN, 1)] (dueVec 2))

/-- Concrete states and operands that meet, clause by clause, the hypotheses of `Obligations.EventDeliveryRows`. -/
theorem test_wit_EventDeliveryRows :
    (∃ (s : State) (v : Nat) (g : Nat) (fb : Bool) (now : List Nat), s.Wf ∧ s.clocked = true ∧ v = (s.vecLast + 1) % 512 ∧ s.vecDue v = true ∧
      s.plan (s.vecTarget v) = Plan.host g fb ∧ s.hostUp = true ∧ s.evRoom g ≠ 0 ∧ now = List.take (s.evRoom g) (s.srcsOf v fun st => decide
      (st = srcPEND))) ∧
    (∃ (s : State) (v : Nat), s.clocked = true ∧ v = (s.vecLast + 1) % 512 ∧ s.vecDue v = true ∧ s.plan (s.vecTarget v) = Plan.held ∧ s.vecState
      v ≠ 4) ∧
    (∃ (s : State), (∀ v < 512, s.vecDue v = false)) ∧
    (∃ (s : State) (g : Fin 64) (w : Word), s.writeOk (64 * ↑g + IRQ_TGT_STATE.DOZE.off) = true) ∧
    (∃ (s : State) (g : Fin 64) (w : Word), s.writeOk (64 * ↑g + IRQ_TGT_RCONS.COUNT.off) = true ∧ sub32 (s.getF (gA ↑g) IRQ_TGT_RPROD.COUNT)
      (BitVec.toNat w) ≤ 2 ^ s.evLog2 ↑g) ∧
    (∃ (s : State) (g : Fin 64) (w : Word), s.writeOk (64 * ↑g + IRQ_TGT_RCONS.COUNT.off) = true ∧ 2 ^ s.evLog2 ↑g < sub32 (s.getF (gA ↑g)
      IRQ_TGT_RPROD.COUNT) (BitVec.toNat w)) :=
  ⟨⟨hostDue, 0, 2, false, [0x81], wf_of (by decide +kernel), by decide +kernel⟩,
   ⟨fld [(gA 2, IRQ_TGT_CTRL.FB, 127)] (dueVec 2), 0, by decide +kernel⟩,
   ⟨up0, by decide +kernel⟩,
   ⟨up0, 2, 1, by decide +kernel⟩,
   ⟨fld [(gA 2, IRQ_TGT_RPROD.COUNT, 5)] up0, 2, 3, by decide +kernel⟩,
   ⟨up0, 2, 1, by decide +kernel⟩⟩

/-! Rings, intake and arbitration. -/

def ringUp : State :=

  hostOk (fld [(sqA 1, RING_SQ_CFG.EN, 1), (sqA 1, RING_SQ_CFG.LOG2, 4), (sqA 1, RING_SQ_CFG.CQ, 2), (cqA 2, RING_CQ_CFG.EN, 1), (cqA 2, RING_CQ_CFG.LOG2, 4)] up0)

/-- Concrete states and operands that meet, clause by clause, the hypotheses of `Obligations.RingRegisterRows`. -/
theorem test_wit_RingRegisterRows :
    (∃ (n : Fin 64) (w : Word) (s : State), s.writeOk (sqA ↑n + RING_SQ_DB.TAIL.off) = true ∧ sub32 (BitVec.toNat w) (s.getF (sqA ↑n)
      RING_SQ_HEAD.HEAD) ≤ s.sqSize ↑n ∧ sub32 (BitVec.toNat w) (s.getF (sqA ↑n) RING_SQ_DB.TAIL) ≤ s.sqSize ↑n) ∧
    (∃ (n : Fin 64) (w : Word) (s : State), s.writeOk (sqA ↑n + RING_SQ_DB.TAIL.off) = true ∧ (s.sqSize ↑n < sub32 (BitVec.toNat w) (s.getF
      (sqA ↑n) RING_SQ_HEAD.HEAD) ∨ s.sqSize ↑n < sub32 (BitVec.toNat w) (s.getF (sqA ↑n) RING_SQ_DB.TAIL))) ∧
    (∃ (n : Fin 64) (w : Word) (s : State), s.writeOk (cqA ↑n + RING_CQ_DB.HEAD.off) = true ∧ sub32 (s.getF (cqA ↑n) RING_CQ_TAIL.TAIL)
      (BitVec.toNat w) ≤ s.cqSize ↑n) ∧
    (∃ (n : Fin 64) (w : Word) (s : State), s.writeOk (cqA ↑n + RING_CQ_DB.HEAD.off) = true ∧ s.cqSize ↑n < sub32 (s.getF (cqA ↑n)
      RING_CQ_TAIL.TAIL) (BitVec.toNat w)) ∧
    (∃ (n : Fin 64) (w : Word) (s : State), s.writeOk (sqA ↑n + RING_SQ_CFG.EN.off) = true ∧ s.isSet (sqA ↑n) RING_SQ_CFG.EN = false ∧ log2Ok
      (RING_SQ_CFG.LOG2.get w) = true ∧ s.isSet (cqA (RING_SQ_CFG.CQ.get w)) RING_CQ_CFG.EN = true ∧ s.getF (cqA (RING_SQ_CFG.CQ.get w))
      RING_CQ_CFG.FMT = RING_SQ_CFG.FMT.get w) ∧
    (∃ (n : Fin 64) (w : Word) (s : State), s.writeOk (sqA ↑n + RING_SQ_CFG.EN.off) = true ∧ s.isSet (sqA ↑n) RING_SQ_CFG.EN = false ∧ log2Ok
      (RING_SQ_CFG.LOG2.get w) = false) ∧
    (∃ (n : Fin 64) (w : Word) (s : State), s.writeOk (sqA ↑n + RING_SQ_CFG.EN.off) = true ∧ s.isSet (sqA ↑n) RING_SQ_CFG.EN = true ∧ w &&&
      4141327 = s.rd (sqA ↑n + RING_SQ_CFG.EN.off) &&& 4141327) ∧
    (∃ (n : Fin 64) (w : Word) (s : State), s.writeOk (cqA ↑n + RING_CQ_CFG.EN.off) = true ∧ s.isSet (cqA ↑n) RING_CQ_CFG.EN = false ∧ log2Ok
      (RING_CQ_CFG.LOG2.get w) = true) ∧
    (∃ (n : Fin 64) (w : Word) (s : State), s.writeOk (cqA ↑n + RING_CQ_CFG.EN.off) = true ∧ s.isSet (cqA ↑n) RING_CQ_CFG.EN = true ∧ s.cqNamed
      ↑n = false ∧ s.cqRsvd ↑n = 0) ∧
    (∃ (n : Fin 64) (w : Word) (s : State), s.writeOk (cqA ↑n + RING_CQ_CFG.EN.off) = true ∧ s.isSet (cqA ↑n) RING_CQ_CFG.EN = true ∧
      (s.cqNamed ↑n = true ∨ s.cqRsvd ↑n ≠ 0)) :=
  ⟨⟨1, 16, ringUp, by decide +kernel⟩,
   ⟨1, 17, ringUp, by decide +kernel⟩,
   ⟨2, 3, fld [(cqA 2, RING_CQ_TAIL.TAIL, 3)] ringUp, by decide +kernel⟩,
   ⟨2, 4, fld [(cqA 2, RING_CQ_TAIL.TAIL, 3)] ringUp, by decide +kernel⟩,
   ⟨3, 0x80020004, ringUp, by decide +kernel⟩,
   ⟨3, 0x80020003, ringUp, by decide +kernel⟩,
   ⟨1, 0x00021004, ringUp, by decide +kernel⟩,
   ⟨3, 0x8000000C, ringUp, by decide +kernel⟩,
   ⟨2, 0, fld [(sqA 1, RING_SQ_CFG.EN, 0)] ringUp, by decide +kernel⟩,
   ⟨2, 0, ringUp, by decide +kernel⟩⟩

def head1 (c : Cmd) (s : State) : State := withCmd c { s with uptime := 5 }

def rd1 : Read := { tag := 7, sq := 1, addr := 0, len := 16 }

/-- Concrete states and operands that meet, clause by clause, the hypotheses of `Obligations.RingFlowRows`. -/
theorem test_wit_RingFlowRows :
    (∃ (s : State) (n : Fin 64) (f : Nat × List Word), List.find? (fun f => f.1 == ↑n) s.fetched = some f ∧ s.isSet (sqA ↑n) RING_SQ_CFG.EN =
      true ∧ s.head? ↑n = none ∧ s.cqFree (s.getF (sqA ↑n) RING_SQ_CFG.CQ) = true ∧ s.hostUp = true ∧ s.clocked = true) ∧
    (∃ (s : State) (n : Fin 64), (s.reads.any fun r => r.sq == ↑n) = true) ∧
    (∃ (s : State) (tag : Fin 1024) (r : Read), List.find? (fun r => r.tag == ↑tag) s.reads = some r ∧ s.hostUp = true ∧ r.sq < 64) ∧
    (∃ (s : State) (c : Cmd), c ∈ s.cmds ∧ s.clocked = true ∧ c.admitted = false ∧ c.ending = none ∧ c.sq < 64 ∧ c.cls < 4 ∧ s.tests = [] ∧
      s.noRot (s.named c) ∧ (∀ k ∈ s.cmds, k.admitted = false → k.ending = none → k = c) ∧ s.verdict c = Verdict.go) ∧
    (∃ (s : State) (c : Cmd) (e : Ending), c ∈ s.cmds ∧ s.clocked = true ∧ c.admitted = false ∧ c.ending = none ∧ c.sq < 64 ∧ c.cls < 4 ∧ s.tests
      = [] ∧ s.noRot (s.named c) ∧ (∀ k ∈ s.cmds, k.admitted = false → k.ending = none → k = c) ∧ s.verdict c = Verdict.refuse e) ∧
    (∃ (s : State) (c : Cmd) (what : Nat) (d : Nat), c ∈ s.cmds ∧ s.clocked = true ∧ c.admitted = false ∧ c.ending = none ∧ c.sq < 64 ∧ c.cls < 4
      ∧ s.tests = [] ∧ s.noRot (s.named c) ∧ (∀ k ∈ s.cmds, k.admitted = false → k.ending = none → k = c) ∧ s.verdict c = Verdict.hold what d ∧
      c.cls ≠ 0 ∧ s.holdLimit c = 0) ∧
    (∃ (s : State) (n : Fin 64) (c : Cmd), s.head? ↑n = some c ∧ c.held ≠ 0 ∧ c.cls ≠ 0) ∧
    (∃ (s : State) (cmd : CmdRef) (k : Cmd) (e : Ending), s.cmd? cmd = some k ∧ k.stopAsked = some e ∧ k.started = true ∧ k.vanish = false ∧ k.op
      ∈ slicedOps ∧ k.op ≠ opANCHOR) ∧
    (∃ (s : State) (cmd : CmdRef) (c : Cmd) (e : Ending) (energy : Word), List.find? (fun c => Cmd.isRef cmd c && c.ending.isSome) s.cmds = some
      c ∧ c.ending = some e ∧ s.hostUp = true ∧ s.clocked = true ∧ (c.op ≠ opABORT ∨ ∀ x ∈ s.cmds, x.intake ∉ c.after) ∧
      (c.admitted = true ∨ c.v2 = false) ∧ c.cq < 64) :=
  ⟨⟨{ ringUp with fetched := [(1, desc 0 0 [])] }, 1, (1, desc 0 0 []), by decide +kernel⟩,
   ⟨{ ringUp with reads := [rd1] }, 1, by decide +kernel⟩,
   ⟨{ ringUp with reads := [rd1] }, 7, rd1, by decide +kernel⟩,
   ⟨head1 (cmdW opNOP []) ringUp, cmdW opNOP [], by decide +kernel, by decide +kernel, by decide +kernel, by decide +kernel, by decide +kernel,
     by decide +kernel, by decide +kernel, by unfold State.noRot; decide +kernel, by decide +kernel⟩,
   ⟨head1 (cmdW opFORCE [1, 8]) (inState 4 ringUp), cmdW opFORCE [1, 8], { status := scSTATE, detail := 1 }, by decide +kernel, by
     decide +kernel, by decide +kernel, by decide +kernel, by decide +kernel, by decide +kernel, by decide +kernel,
     by unfold State.noRot; decide +kernel, by decide +kernel⟩,
   ⟨head1 { cmdW opFORCE [1, 8] with chans := [3] } (fld [(tileBase 0, TIL_STATUS.RESET, 1), (sqA 1, RING_SQ_HOLD.HOLD_US, 0)] ringUp),
     { cmdW opFORCE [1, 8] with chans := [3] }, 3, 0x0F, by decide +kernel, by decide +kernel, by decide +kernel, by decide +kernel, by
     decide +kernel, by decide +kernel, by decide +kernel, by unfold State.noRot; decide +kernel, by decide +kernel⟩,
   ⟨head1 { cmdW opFORCE [1, 8] with held := 1, heldDetail := 4 } ringUp, 1, { cmdW opFORCE [1, 8] with held := 1, heldDetail := 4 }, by
     decide +kernel⟩,
   ⟨withCmd { run opDIAG [1] [] with stopAsked := some abortEnd, acc := 8 } ringUp, r1,
     { run opDIAG [1] [] with stopAsked := some abortEnd, acc := 8 }, abortEnd, by decide +kernel⟩,
   ⟨withCmd ((run opDIAG [1] []).finish { status := scOK, result := 8 }) ringUp, r1, (run opDIAG [1] []).finish { status := scOK, result := 8 },
     { status := scOK, result := 8 }, 77, by decide +kernel⟩⟩

/-- Concrete states and operands that meet, clause by clause, the hypotheses of `Obligations.PlainAnswerRows`. -/
theorem test_wit_PlainAnswerRows :
    (∃ (cmd : CmdRef) (c : Cmd) (s : State), s.ready? cmd opNOP = some c) ∧
    (∃ (cmd : CmdRef) (c : Cmd) (s : State), s.ready? cmd opFENCE = some c) ∧
    (∃ (cmd : CmdRef) (c : Cmd) (s : State), s.ready? cmd opFAULTACK = some c ∧ s.Wf) ∧
    (∃ (cmd : CmdRef) (c : Cmd) (s : State), s.ready? cmd opDIAG = some c ∧ c.pf 0 15 0 = 1) ∧
    (∃ (cmd : CmdRef) (c : Cmd) (s : State), s.ready? cmd opDIAG = some c ∧ c.pf 0 15 0 = 2 ∧ c.p 4 % 4 = 0 ∧ c.p 8 % 4 = 0 ∧ c.p 4 + c.p 8 ≤
      16777216) ∧
    (∃ (cmd : CmdRef) (c : Cmd) (s : State), s.ready? cmd opDIAG = some c ∧ c.pf 0 15 0 = 3) ∧
    (∃ (cmd : CmdRef) (c : Cmd) (s : State), s.ready? cmd opABORT = some c ∧ bitB (c.p 0) 8 = false ∧ (∀ k ∈ s.cmds, k.sq = c.pf 0 5 0 → k.ending
      = none → k.intake ≠ c.intake → k.tag ≠ c.pf 0 27 16)) ∧
    (∃ (cmd : CmdRef) (c : Cmd) (s : State) (k : Cmd), k ∈ s.cmds ∧ s.ready? cmd opABORT = some c ∧ bitB (c.p 0) 8 = false ∧ k.sq = c.pf 0 5 0 ∧
      k.tag = c.pf 0 27 16 ∧ k.ending = none ∧ k.intake ≠ c.intake ∧ k.admitted = false ∧ (∀ x ∈ s.cmds, x = k ∨ x.intake ≠ k.intake ∧ Cmd.isRef
      { sq := k.sq, tag := k.tag } x = false) ∧ s.cmds.Nodup) :=
  ⟨⟨r1, adm opNOP [] [], withCmd (adm opNOP [] []) ringUp, by decide +kernel⟩,
   ⟨r1, { adm opFENCE [] [] with after := [3, 4] }, withCmd { adm opFENCE [] [] with after := [3, 4] } ringUp, by decide +kernel⟩,
   ⟨r1, adm opFAULTACK [0x000301FF] [], withCmd (adm opFAULTACK [0x000301FF] []) (up0.setInst (instKey 5 1 3)
     { force := true, level := 1, unack := true, grace := true }), by decide +kernel, wf_of (by decide +kernel)⟩,
   ⟨r1, adm opDIAG [1, 2, 3] [], withCmd (adm opDIAG [1, 2, 3] []) ringUp, by decide +kernel⟩,
   ⟨r1, adm opDIAG [2, 0x10, 8] [], withCmd (adm opDIAG [2, 0x10, 8] []) ringUp, by decide +kernel⟩,
   ⟨r1, adm opDIAG [3, 0, 64] [], withCmd (adm opDIAG [3, 0, 64] []) ringUp, by decide +kernel⟩,
   ⟨r1, adm opABORT [0x00060003] [], withCmd (adm opABORT [0x00060003] []) ringUp, by decide +kernel⟩,
   ⟨r1, adm opABORT [0x00060003] [], withCmd (adm opABORT [0x00060003] []) (withCmd { cmdW opNOP [] with sq := 3, tag := 6, intake := 4 }
     ringUp), { cmdW opNOP [] with sq := 3, tag := 6, intake := 4 }, by decide +kernel⟩⟩

/-! Front-ends. -/

def setPs (m : Nat) : List Nat := [1, 8, 0, 0, 0, 0x00830001, 0x123, 0x01000F00, 0x100, 0x00050001, 0x02000100, m]

def on3 (s : State) : State := (fld [(feB 3, CHN_FE_CFG.MODE, 1), (feB 3, CHN_FE_CFG.IRANGE, 3), (feB 3, CHN_FE_STATUS.EN, 1), (feB 3, CHN_FE_STATUS.DRIVING, 1)] s).modFe 3 fun f => { f with mode := 1, range := 3 }

def sine3 (s : State) : State := fld [(feB 3, CHN_SINE_AMP.AMP, 0x100), (feB 3, CHN_SINE_OFS.OFS, 0x80000), (feB 3, CHN_SINE_FTW.FTW, 77)] s

/-- Concrete states and operands that meet, clause by clause, the hypotheses of `Obligations.SettingRows`. -/
theorem test_wit_SettingRows :
    (∃ (cmd : CmdRef) (c : Cmd) (s : State), s.noRot c.chans ∧ s.ready? cmd opCONFIG = some c ∧ (∀ (w : Word), c.wordIf 4 = some w →
      (cfTRIP 0).get w = 0 ∧ (cfTRIP 1).get w = 0)) ∧
    (∃ (cmd : CmdRef) (c : Cmd) (s : State), s.noRot c.chans ∧ s.ready? cmd opFORCE = some c) ∧
    (∃ (cmd : CmdRef) (c : Cmd) (s : State), s.noRot c.chans ∧ s.ready? cmd opSWEEP = some c) ∧
    (∃ (cmd : CmdRef) (c : Cmd) (s : State), s.noRot c.chans ∧ s.ready? cmd opSINE = some c ∧ c.wordIf 0 = none) ∧
    (∃ (cmd : CmdRef) (c : Cmd) (s : State) (k : Nat) (w : Word), s.noRot c.chans ∧ s.ready? cmd opSINE = some c ∧ c.chans = [k] ∧ c.wordIf 0 =
      some w ∧ (∀ (i : Nat), 1 ≤ i → i ≤ 5 → c.wordIf i = none) ∧ CHN_SINE_CTRL.EN.get w = 1 ∧ CHN_SINE_CTRL.START_MODE.get w = 0 ∧ s.isSet (feB
      (s.phys k)) CHN_SINE_CTRL.EN = false ∧ (s.fe (s.phys k)).contact = none ∧ s.feOn (s.phys k) = true ∧ forces (s.fe (s.phys k)).mode = true ∧
      s.sineFits (s.phys k) = true) ∧
    (∃ (cmd : CmdRef) (c : Cmd) (s : State) (k : Nat) (w : Word), s.noRot c.chans ∧ s.ready? cmd opSINE = some c ∧ c.chans = [k] ∧ c.wordIf 0 =
      some w ∧ (∀ (i : Nat), 1 ≤ i → i ≤ 5 → c.wordIf i = none) ∧ CHN_SINE_CTRL.EN.get w = 1 ∧ CHN_SINE_CTRL.START_MODE.get w = 0 ∧ s.isSet (feB
      (s.phys k)) CHN_SINE_CTRL.EN = false ∧ (s.fe (s.phys k)).contact = none ∧ s.feOn (s.phys k) = true ∧ forces (s.fe (s.phys k)).mode = true ∧
      s.sineFits (s.phys k) = false) :=
  ⟨⟨r1, adm opCONFIG (setPs 0x3F) [3], withCmd (adm opCONFIG (setPs 0x3F) [3]) up0, by unfold State.noRot; decide +kernel, by decide +kernel,
    all_of (by decide +kernel)⟩,
   ⟨r1, adm opFORCE [1, 8, 0, 0, 0, 0x90000, 0] [3], withCmd (adm opFORCE [1, 8, 0, 0, 0, 0x90000, 0] [3]) (on3 up0),
     by unfold State.noRot; decide +kernel, by decide +kernel⟩,
   ⟨r1, adm opSWEEP [1, 8, 0, 0, 0, 0x90000, 0x10, 3, 0] [3], withCmd (adm opSWEEP [1, 8, 0, 0, 0, 0x90000, 0x10, 3, 0] [3]) (on3 up0),
     by unfold State.noRot; decide +kernel, by decide +kernel⟩,
   ⟨r1, adm opSINE (setPs 0x3E) [3], withCmd (adm opSINE (setPs 0x3E) [3]) (on3 up0), by unfold State.noRot; decide +kernel, by decide +kernel⟩,
   ⟨r1, adm opSINE [1, 8, 0, 0, 0, 1, 0, 0, 0, 0, 0, 1] [3], withCmd (adm opSINE [1, 8, 0, 0, 0, 1, 0, 0, 0, 0, 0, 1] [3]) (sine3 (on3 up0)), 3,
     1, by unfold State.noRot; decide +kernel, by decide +kernel⟩,
   ⟨r1, adm opSINE [1, 8, 0, 0, 0, 1, 0, 0, 0, 0, 0, 1] [3], withCmd (adm opSINE [1, 8, 0, 0, 0, 1, 0, 0, 0, 0, 0, 1] [3]) (fld
     [(feB 3, CHN_SINE_AMP.AMP, 0x80001)] (sine3 (on3 up0))), 3, 1, by unfold State.noRot; decide +kernel, by decide +kernel⟩⟩

def seqAt (u st : Nat) (k : SeqKind) (s : State) : State := (fld [(feB u, CHN_FE_STATUS.SEQ_STEP, st)] s).modFe u fun f => { f with kind := k }

def touch3 (s : State) : State := s.modFe 4 fun f => { f with contact := some { cmd := r1, partner := false, full := 0x70000, half := 0x78000, target := 0x80000, savedCfg := 0 } }

def on4 (s : State) : State := (fld [(feB 4, CHN_FE_CFG.MODE, 2), (feB 4, CHN_FE_CFG.IRANGE, 2), (feB 4, CHN_FE_STATUS.EN, 1)] s).modFe 4 fun f => { f with mode := 2, range := 2 }

/-- Concrete states and operands that meet, clause by clause, the hypotheses of `Obligations.ContactAndReleaseRows`. -/
theorem test_wit_ContactAndReleaseRows :
    (∃ (cmd : CmdRef) (c : Cmd) (s : State), s.Wf ∧ s.noRot c.chans ∧ s.ready? cmd opCONTACT = some c) ∧
    (∃ (cmd : CmdRef) (c : Cmd) (s : State) (volts : List (Int × Int)), s.Wf ∧ s.noRot c.chans ∧ s.running? cmd opCONTACT = some c ∧ c.stopAsked
      = none ∧ c.prog < 10) ∧
    (∃ (cmd : CmdRef) (c : Cmd) (s : State) (volts : List (Int × Int)), s.Wf ∧ s.noRot c.chans ∧ s.running? cmd opCONTACT = some c ∧ c.stopAsked
      = none ∧ 10 ≤ c.prog) ∧
    (∃ (cmd : CmdRef) (c : Cmd) (s : State) (volts : List (Int × Int)) (e : Ending), s.Wf ∧ s.noRot c.chans ∧ s.running? cmd opCONTACT = some c ∧
      c.stopAsked = some e ∧ c.vanish = false) ∧
    (∃ (cmd : CmdRef) (c : Cmd) (s : State), s.Wf ∧ s.noRot c.chans ∧ s.ready? cmd opRELEASE = some c ∧ (∃ k ∈ c.chans, s.seqStep (s.phys k) ≠
      0)) ∧
    (∃ (cmd : CmdRef) (c : Cmd) (s : State), s.Wf ∧ s.noRot c.chans ∧ s.ready? cmd opRELEASE = some c ∧ c.chans ≠ [] ∧ (∀ k ∈ c.chans, s.seqStep
      (s.phys k) = 0 ∧ s.feOn (s.phys k) = true)) ∧
    (∃ (cmd : CmdRef) (c : Cmd) (s : State) (k : Nat), s.Wf ∧ s.noRot c.chans ∧ s.ready? cmd opRELEASE = some c ∧ c.chans = [k] ∧ k < 1024 ∧
      s.phys k = k ∧ s.seqStep k = 0 ∧ s.feOn k = false ∧ s.isSet (chB k) CHN_SEQ_GRP.BOUND = false ∧ (∀ e ∈ s.insts, e.2.force = true → e.1 /
      2048 % 8 = scCHANNEL → keyUnit e.1 ≠ k)) :=
  ⟨⟨r1, adm opCONTACT [1, 0x18] [3, 4], withCmd (adm opCONTACT [1, 0x18] [3, 4]) up0, wf_of (by decide +kernel),
    by unfold State.noRot; decide +kernel, by decide +kernel⟩,
   ⟨r1, { run opCONTACT [1, 0x10] [4] with prog := 4 }, withCmd { run opCONTACT [1, 0x10] [4] with prog := 4 } (touch3 (on4 up0)), [(5, 6)],
     wf_of (by decide +kernel), by unfold State.noRot; decide +kernel, by decide +kernel⟩,
   ⟨r1, { run opCONTACT [1, 0x10] [4] with prog := 10 }, withCmd { run opCONTACT [1, 0x10] [4] with prog := 10 } (touch3 up0), [(5, 6)], wf_of
     (by decide +kernel), by unfold State.noRot; decide +kernel, by decide +kernel⟩,
   ⟨r1, { run opCONTACT [1, 0x10] [4] with prog := 2, stopAsked := some abortEnd }, withCmd
     { run opCONTACT [1, 0x10] [4] with prog := 2, stopAsked := some abortEnd } (touch3 up0), [], abortEnd, wf_of (by decide +kernel),
     by unfold State.noRot; decide +kernel, by decide +kernel⟩,
   ⟨r1, adm opRELEASE [1, 8] [3], withCmd (adm opRELEASE [1, 8] [3]) (seqAt 3 2 .change (on3 up0)), wf_of (by decide +kernel),
     by unfold State.noRot; decide +kernel, by decide +kernel⟩,
   ⟨r1, adm opRELEASE [1, 8] [3], withCmd (adm opRELEASE [1, 8] [3]) (on3 up0), wf_of (by decide +kernel), by unfold State.noRot; decide +kernel,
     by decide +kernel⟩,
   ⟨r1, adm opRELEASE [1, 8] [3], withCmd (adm opRELEASE [1, 8] [3]) (fld [(feB 3, CHN_FE_TARGET.CODE, 5)] up0), 3, wf_of (by decide +kernel),
     by unfold State.noRot; decide +kernel, by decide +kernel⟩⟩

def swp (ctl : Nat) (acc : Nat) : Cmd := { run opSWEEP [1, 8, 0, 0, 0, 0x90000, 0x10, 3, 0, ctl, 0x01000000] [3] with acc := acc }

def conv3 (s : State) : State := s.modAdc 3 fun a => { a with conv := some { src := 0, gain := 0, samp := 0 } }

/-- Concrete states and operands that meet, clause by clause, the hypotheses of `Obligations.SequenceStepRows`. -/
theorem test_wit_SequenceStepRows :
    (∃ (s : State) (u : Fin 1056) (far : Bool), (s.fe ↑u).contact = none ∧ (s.fe ↑u).kind ≠ SeqKind.idle ∧ s.seqStep ↑u ≠ 0 ∧ (∀ c ∈ s.cmds,
      c.ending = none → c.started = true → c.op = opRELEASE → ↑u ∉ c.busy)) ∧
    (∃ (s : State) (cmd : CmdRef) (c : Cmd) (e : Ending), s.running? cmd opSWEEP = some c ∧ c.prog = 0 ∧ c.stopAsked = some e ∧ c.vanish = false)
      ∧
    (∃ (s : State) (cmd : CmdRef) (c : Cmd), s.running? cmd opSWEEP = some c ∧ c.prog = 0 ∧ c.stopAsked = none ∧ bitB (c.p 36) 0 = false ∧ c.pf
      28 15 0 < c.acc) ∧
    (∃ (s : State) (cmd : CmdRef) (c : Cmd), s.running? cmd opSWEEP = some c ∧ c.prog = 0 ∧ c.stopAsked = none ∧ bitB (c.p 36) 0 = false ∧ c.acc
      ≤ c.pf 28 15 0 ∧ s.noRot c.chans) ∧
    (∃ (s : State) (cmd : CmdRef) (c : Cmd) (k : Nat), s.running? cmd opSWEEP = some c ∧ c.prog = 0 ∧ c.stopAsked = none ∧ bitB (c.p 36) 0 = true
      ∧ c.chans = [k] ∧ k < 1024 ∧ s.adcRoom k = true ∧ (s.adc k).conv ≠ none) :=
  ⟨⟨seqAt 3 1 .disable (on3 up0), 3, false, by decide +kernel⟩,
   ⟨withCmd { swp 0 2 with stopAsked := some abortEnd } (on3 up0), r1, { swp 0 2 with stopAsked := some abortEnd }, abortEnd, by decide +kernel⟩,
   ⟨withCmd (swp 0 4) (on3 up0), r1, swp 0 4, by decide +kernel⟩,
   ⟨withCmd (swp 0 3) (on3 up0), r1, swp 0 3, by decide +kernel, by decide +kernel, by decide +kernel, by decide +kernel, by decide +kernel,
     by unfold State.noRot; decide +kernel⟩,
   ⟨withCmd (swp 1 2) (conv3 (on3 up0)), r1, swp 1 2, 3, by decide +kernel⟩⟩

/-- Concrete states and operands that meet, clause by clause, the hypotheses of `Obligations.ProtectionRows`. -/
theorem test_wit_ProtectionRows :
    (∃ (u : Fin 1056) (s : State) (k : Nat) (cls : Nat), s.feOn ↑u = true ∧ (s.fe ↑u).contact = none) ∧
    (∃ (u : Fin 1056) (s : State) (k : Nat) (cls : Nat), s.feOn ↑u = true ∧ (s.fe ↑u).contact = none) ∧
    (∃ (u : Fin 1056) (s : State) (cls : Nat) (mv : Int) (dur : Nat), cls = 1 ∧ s.feOn ↑u = true) ∧
    (∃ (u : Fin 1056) (s : State) (cls : Nat) (mv : Int) (dur : Nat), (s.kelvinActive ↑u = false ∨ s.kelvinActs (↑u) mv dur = false)) ∧
    (∃ (u : Fin 1056) (s : State) (cls : Nat) (mv : Int) (dur : Nat) (i : Instr), ↑u < 1024 ∧ s.phys ↑u = ↑u ∧ s.noRot [↑u] ∧ s.patRunning ↑u =
      false ∧ (s.inst (instKey cls scCHANNEL ↑u)).force = false ∧ s.getF (4 * cls) FLT_CLASS.LEVEL = 1 ∧ (s.fe ↑u).contact = none ∧ (cls = 1 ∧
      s.feOn ↑u = true ∧ i = Instr.shortCircuitLimit u ∨ cls = 3 ∧ s.kelvinActive ↑u = true ∧ s.kelvinActs (↑u) mv dur = true ∧ i =
      Instr.kelvinMonitorTrip u (mv, dur))) ∧
    (∃ (u : Fin 1056) (s : State) (k : Nat) (cls : Nat), (s.fe ↑u).contact = none) ∧
    (∃ (u : Fin 1056) (s : State) (k : Nat) (cls : Nat), (s.fe ↑u).contact = none ∧ (s.fe ↑u).mismatch = true) :=
  ⟨⟨3, on3 up0, 0, 0, by decide +kernel⟩,
   ⟨3, on3 up0, 0, 0, by decide +kernel⟩,
   ⟨3, on3 up0, 1, 5, 0, by decide +kernel⟩,
   ⟨1055, fld [(feB 1055, CHN_FE_STATUS.EN, 1), (feB 1055, CHN_FE_CFG.KMON_EN, 1)] (up0.modFe 1055 fun f => { f with mode := 2 }), 3, -500, 2000,
     by decide +kernel⟩,
   ⟨3, on3 up0, 1, 5, 0, .shortCircuitLimit 3, by decide +kernel, by decide +kernel, by unfold State.noRot; decide +kernel, by decide +kernel⟩,
   ⟨3, (fld [(feB 3, CHN_FE_STATUS.SCL_LIVE, 1)] (on3 up0)).setInst (instKey 1 2 3) { force := true, level := 1, cond := true }, 0, 0, by
     decide +kernel⟩,
   ⟨3, on3 (up0.modFe 3 fun f => { f with mismatch := true }), 0, 0, by decide +kernel⟩⟩

def sineRun : State := fld [(feB 3, CHN_SINE_CTRL.EN, 1), (feB 3, CHN_SINE_CTRL.RUN, 1)] (sine3 (on3 (up0.modFe 3 fun f => { f with acc := 0x7FFFFFFF, ftw := 5, amp := 0x100 })))

/-- Concrete states and operands that meet, clause by clause, the hypotheses of `Obligations.SineRows`. -/
theorem test_wit_SineRows :
    (∃ (u : Fin 1056) (s : State) (w : Word), (s.fe ↑u).contact = none ∧ s.writeOk (feB ↑u + CHN_SINE_CTRL.EN.off) = true ∧ s.sineOpen ↑u = true
      ∧ s.isSet (feB ↑u) CHN_SINE_CTRL.EN = false ∧ s.isSet (feB ↑u) CHN_SINE_CTRL.START_MODE = false ∧ s.feOn ↑u = true ∧ forces (s.fe ↑u).mode
      = true ∧ s.sineFits ↑u = true ∧ s.sineChargeOk ↑u = true) ∧
    (∃ (u : Fin 1056) (s : State) (w : Word), (s.fe ↑u).contact = none ∧ s.writeOk (feB ↑u + CHN_SINE_CTRL.EN.off) = true ∧ s.sineOpen ↑u = true
      ∧ s.isSet (feB ↑u) CHN_SINE_CTRL.EN = false ∧ (s.feOn ↑u = false ∨ s.sineFits ↑u = false)) ∧
    (∃ (u : Fin 1056) (s : State) (w : Word), (s.fe ↑u).contact = none ∧ s.writeOk (feB ↑u + CHN_SINE_CTRL.EN.off) = true ∧ s.sineOpen ↑u = true
      ∧ s.isSet (feB ↑u) CHN_SINE_CTRL.EN = true ∧ CHN_SINE_CTRL.EN.get w = 1 ∧ s.sineFits ↑u = true ∧ s.sineChargeOk ↑u = true) ∧
    (∃ (u : Fin 1056) (s : State) (w : Word), (s.fe ↑u).contact = none ∧ s.writeOk (feB ↑u + CHN_SINE_CTRL.EN.off) = true ∧ s.sineOpen ↑u = true
      ∧ s.isSet (feB ↑u) CHN_SINE_CTRL.EN = true) ∧
    (∃ (u : Fin 1056) (s : State) (w : Word) (i : Instr), (s.fe ↑u).contact = none ∧ i ∈ [Instr.sineEnSet u w, Instr.sineApply u w,
      Instr.sineEnClear u w] ∧ s.writeOk (feB ↑u + CHN_SINE_CTRL.EN.off) = true ∧ s.sineOpen ↑u = false) ∧
    (∃ (u : Fin 1056) (s : State), (s.fe ↑u).contact = none ∧ (s.fe ↑u).waitUpdate = true) ∧
    (∃ (u : Fin 1056) (s : State), (s.fe ↑u).contact = none ∧ (s.fe ↑u).waitUpdate = false ∧ s.isSet (feB ↑u) CHN_SINE_CTRL.RUN = true ∧
      (s.fe ↑u).applyPend = false ∧ (s.fe ↑u).zcStop = false) ∧
    (∃ (u : Fin 1056) (s : State) (delta : Fin 6400), (s.fe ↑u).contact = none ∧ (s.fe ↑u).waitEpoch = true) ∧
    (∃ (u : Fin 1056) (s : State), (s.fe ↑u).contact = none ∧ (s.fe ↑u).zcStop = true ∧ (s.fe ↑u).waitUpdate = false ∧ s.isSet (feB ↑u)
      CHN_SINE_CTRL.RUN = true ∧ (s.fe ↑u).applyPend = false ∧ bitB (((s.fe ↑u).acc + (s.fe ↑u).ftw) % 2 ^ 32) 31 ≠ bitB (s.fe ↑u).acc 31) :=
  ⟨⟨3, sine3 (on3 up0), 1, by decide +kernel⟩,
   ⟨3, sine3 up0, 1, by decide +kernel⟩,
   ⟨3, fld [(feB 3, CHN_SINE_CTRL.EN, 1)] (sine3 (on3 up0)), 3, by decide +kernel⟩,
   ⟨3, sineRun, 0x10, by decide +kernel⟩,
   ⟨3, seqAt 3 1 .change (on3 up0), 1, .sineEnSet 3 1, by decide +kernel⟩,
   ⟨3, (sine3 (on3 up0)).modFe 3 fun f => { f with waitUpdate := true }, by decide +kernel⟩,
   ⟨3, sineRun, by decide +kernel⟩,
   ⟨3, (sine3 (on3 up0)).modFe 3 fun f => { f with waitEpoch := true }, 0, by decide +kernel⟩,
   ⟨3, sineRun.modFe 3 fun f => { f with zcStop := true }, by decide +kernel⟩⟩

/-! Converters and comparators. -/

def idle3 (s : State) : State := fld [(feB 3, CHN_ADC_CTRL.MODE, 1), (feB 3, CHN_ADC_CTRL.LAST, 1)] s

def kc (c : Bool) : Conv := { src := 1, gain := 2, samp := 3, exec := 3, converting := c, mode := 1, span := 1, range := 2 }

def conv6 (c : Bool) (s : State) : State := (idle3 s).modAdc 3 fun a => { a with conv := some (kc c), running := true }

def res6 : Result := { conv := kc true, value := 0x12345, ovr := false }

def rq6 (n : Nat) : State := fld [(tileBase 0, TIL_CAP_PART.RQSZ, 1), (tileBase 0, TIL_RQ_LEVEL.COUNT, n)] (up0.modAdc 3 fun a => { a with results := [res6] })

/-- Concrete states and operands that meet, clause by clause, the hypotheses of `Obligations.ConverterRows`. -/
theorem test_wit_ConverterRows :
    (∃ (u : Fin 1056) (s : State) (w : Word), s.writeOk (feB ↑u + CHN_ADC_CTRL.START.off) = true ∧ s.adcLocked ↑u = false ∧ (s.adc ↑u).running =
      false ∧ (s.adc ↑u).conv = none ∧ (s.adc ↑u).inj = [] ∧ (s.adc ↑u).heldInj = [] ∧ s.execBusy (s.adcUnit ↑u) = false ∧ (s.adc ↑u).hold = 0 ∧
      s.rotated ↑u = false ∧ s.adcSuspended ↑u = false ∧ s.remapServes ↑u = false ∧ (CHN_ADC_CTRL.MODE.get w = 1 ∨ CHN_ADC_CTRL.MODE.get w = 2))
      ∧
    (∃ (u : Fin 1056) (s : State) (w : Word), s.writeOk (feB ↑u + CHN_ADC_CTRL.START.off) = true ∧ s.adcLocked ↑u = true ∧ (s.adc ↑u).running =
      true ∧ (s.adc ↑u).conv ≠ none ∧ s.remapServes ↑u = false ∧ (s.getF (feB ↑u) CHN_ADC_CTRL.MODE = 1 ∨ s.getF (feB ↑u) CHN_ADC_CTRL.MODE = 2))
      ∧
    (∃ (u : Fin 1056) (s : State) (w : Word), s.writeOk (feB ↑u + CHN_ADC_CTRL.STOP.off) = true ∧ (s.adc ↑u).running = true ∧ (s.adc ↑u).conv ≠
      none) ∧
    (∃ (u : Fin 1056) (s : State) (w : Word), s.writeOk (feB ↑u + CHN_ADC_CTRL.STOP.off) = true ∧ (s.adc ↑u).running = true ∧ (s.adc ↑u).conv =
      none ∧ (s.adc ↑u).inj = []) ∧
    (∃ (u : Fin 1056) (s : State) (w : Word), s.writeOk (feB ↑u + CHN_ADC_INJ.SRC.off) = true ∧ (s.adc ↑u).conv ≠ none ∧ s.adcRoom ↑u = true) ∧
    (∃ (u : Fin 1056) (s : State) (w : Word), s.writeOk (feB ↑u + CHN_ADC_INJ.SRC.off) = true ∧ (s.adc ↑u).conv ≠ none ∧ s.adcRoom ↑u = false) ∧
    (∃ (u : Fin 1056) (s : State) (k : Conv), (s.adc ↑u).conv = some k ∧ k.converting = false) ∧
    (∃ (u : Fin 1056) (s : State) (raw : BitVec 18) (k : Conv), (s.adc ↑u).conv = some k ∧ k.converting = true ∧ (s.adc ↑u).hold = 0 ∧
      (k.inj.bind fun i => i.owner) = none) ∧
    (∃ (u : Fin 1056) (s : State) (r : Result) (rs : List Result) (t : Nat), (s.adc ↑u).results = r :: rs ∧ t = tileOf ↑u ∧ r.conv.inj = none ∧
      r.conv.dest = 0 ∧ r.conv.limen = false ∧ r.conv.evt = false ∧ r.conv.last = false ∧ (s.getF (tileBase t) TRG_STATUS.STATE < 2 ∨ 3 < s.getF
      (tileBase t) TRG_STATUS.STATE) ∧ s.getF (tileBase t) TIL_RQ_LEVEL.COUNT < s.rqSize t) ∧
    (∃ (u : Fin 1056) (s : State) (r : Result) (rs : List Result) (t : Nat), (s.adc ↑u).results = r :: rs ∧ t = tileOf ↑u ∧ r.conv.inj = none ∧
      r.conv.dest = 0 ∧ r.conv.limen = false ∧ r.conv.evt = false ∧ r.conv.last = false ∧ (s.getF (tileBase t) TRG_STATUS.STATE < 2 ∨ 3 < s.getF
      (tileBase t) TRG_STATUS.STATE) ∧ s.rqSize t ≤ s.getF (tileBase t) TIL_RQ_LEVEL.COUNT) :=
  ⟨⟨3, up0, 0x11, by decide +kernel⟩,
   ⟨3, fld [(feB 3, CHN_ADC_STATUS.BUSY, 1)] (conv6 false up0), 0x12, by decide +kernel⟩,
   ⟨3, conv6 false up0, 0x20, by decide +kernel⟩,
   ⟨3, (idle3 up0).modAdc 3 fun a => { a with running := true }, 0x20, by decide +kernel⟩,
   ⟨3, conv6 false up0, 0x00010203, by decide +kernel⟩,
   ⟨3, (conv6 false up0).modAdc 3 fun a => { a with reserved := 4 }, 0x00010203, by decide +kernel⟩,
   ⟨3, conv6 false up0, kc false, by decide +kernel⟩,
   ⟨3, conv6 true up0, 0x2ABCD, kc true, by decide +kernel⟩,
   ⟨3, rq6 5, res6, [], 0, by decide +kernel⟩,
   ⟨3, rq6 8192, res6, [], 0, by decide +kernel⟩⟩

def dr6 : State := hostOk (fld [(0x1000, LNK_P_STATUS.UPSTREAM, 1), (tileBase 0, TIL_CAP_PART.RQSZ, 1), (tileBase 0, TIL_RQ_LEVEL.COUNT, 3), (tileBase 0, TIL_RQ_CTRL.EN, 1), (tileBase 0, TIL_RQ_HPROD.COUNT, 5), (tileBase 0, TIL_RQ_HBASE_LO.ADDR, 2)] up0)

/-- Concrete states and operands that meet, clause by clause, the hypotheses of `Obligations.DrainRows`. -/
theorem test_wit_DrainRows :
    (∃ (t : Fin 8) (s : State) (i : Instr), (i = Instr.rqDrainBurst t ∨ i = Instr.rqPartialFlush t ∧ s.getF (tileBase ↑t) TIL_RQ_LEVEL.COUNT <
      32) ∧ s.isSet (tileBase ↑t) TIL_RQ_CTRL.EN = true ∧ s.hostLink = true ∧ min (min 32 (s.getF (tileBase ↑t) TIL_RQ_LEVEL.COUNT)) (s.rqRing ↑t
      - sub32 (s.getF (tileBase ↑t) TIL_RQ_HPROD.COUNT) (s.getF (tileBase ↑t) TIL_RQ_HCONS.COUNT)) ≠ 0) ∧
    (∃ (t : Fin 8) (s : State) (i : Instr), (i = Instr.rqDrainBurst t ∨ i = Instr.rqPartialFlush t) ∧ (s.isSet (tileBase ↑t) TIL_RQ_CTRL.EN =
      false ∨ s.hostLink = false ∨ min (min 32 (s.getF (tileBase ↑t) TIL_RQ_LEVEL.COUNT)) (s.rqRing ↑t - sub32 (s.getF (tileBase ↑t)
      TIL_RQ_HPROD.COUNT) (s.getF (tileBase ↑t) TIL_RQ_HCONS.COUNT)) = 0)) ∧
    (∃ (t : Fin 8) (s : State) (w : Word), s.writeOk (tileBase ↑t + TIL_RQ_CTRL.EN.off) = true) ∧
    (∃ (t : Fin 8) (s : State) (w : Word), s.writeOk (tileBase ↑t + TIL_RQ_HCONS.COUNT.off) = true ∧ sub32 (s.getF (tileBase ↑t)
      TIL_RQ_HPROD.COUNT) (BitVec.toNat w) ≤ s.rqRing ↑t) ∧
    (∃ (t : Fin 8) (s : State) (w : Word), s.rqRing ↑t < sub32 (s.getF (tileBase ↑t) TIL_RQ_HPROD.COUNT) (BitVec.toNat w)) :=
  ⟨⟨0, dr6, .rqDrainBurst 0, by decide +kernel⟩,
   ⟨0, up0, .rqPartialFlush 0, by decide +kernel⟩,
   ⟨0, up0, 1, by decide +kernel⟩,
   ⟨0, dr6, 2, by decide +kernel⟩,
   ⟨0, dr6, 6, by decide +kernel⟩⟩

/-- Concrete states and operands that meet, clause by clause, the hypotheses of `Obligations.MeasureRows`. -/
theorem test_wit_MeasureRows :
    (∃ (cmd : CmdRef) (c : Cmd) (s : State) (k : Nat), s.ready? cmd opMEASURE = some c ∧ c.vanish = false ∧ (∀ k ∈ c.chans, (s.adc k).hold ≠ 3) ∧
      c.pf 20 1 0 = 0 ∧ c.chans = [k] ∧ k < 1024 ∧ (s.adc k).running = false ∧ (s.adc k).conv = none ∧ (s.adc k).inj = [] ∧ (s.adc k).heldInj =
      [] ∧ s.execBusy (s.adcUnit k) = false ∧ (s.adc k).hold = 0 ∧ s.rotated k = false ∧ (s.getF (feB k) CHN_ADC_CTRL.MODE = 1 ∨ s.getF (feB k)
      CHN_ADC_CTRL.MODE = 2)) ∧
    (∃ (cmd : CmdRef) (c : Cmd) (s : State), s.ready? cmd opMEASURE = some c ∧ c.vanish = false ∧ (∀ k ∈ c.chans, (s.adc k).hold ≠ 3) ∧ c.pf 20 1
      0 = 0) ∧
    (∃ (cmd : CmdRef) (c : Cmd) (s : State), s.ready? cmd opMEASURE = some c ∧ c.vanish = false ∧ (∀ k ∈ c.chans, (s.adc k).hold ≠ 3) ∧ c.pf 20 1
      0 = 1) ∧
    (∃ (cmd : CmdRef) (c : Cmd) (s : State), s.ready? cmd opMEASURE = some c ∧ c.vanish = false ∧ (∀ k ∈ c.chans, (s.adc k).hold ≠ 3) ∧ c.pf 20 1
      0 = 1 ∧ (∀ k ∈ c.chans, (s.adc k).running = false)) ∧
    (∃ (cmd : CmdRef) (c : Cmd) (s : State), s.ready? cmd opMEASURE = some c ∧ c.vanish = false ∧ (∀ k ∈ c.chans, (s.adc k).hold ≠ 3) ∧ c.pf 20 1
      0 = 2) ∧
    (∃ (cmd : CmdRef) (c : Cmd) (s : State) (k : Nat), s.ready? cmd opMEASURE = some c ∧ c.vanish = false ∧ (∀ k ∈ c.chans, (s.adc k).hold ≠ 3) ∧
      c.pf 20 1 0 = 2 ∧ c.chans = [k] ∧ (s.adc k).conv ≠ none ∧ s.adcRoom k = true) :=
  ⟨⟨r1, adm opMEASURE [1, 8, 0, 0, 0, 0] [3], withCmd (adm opMEASURE [1, 8, 0, 0, 0, 0] [3]) (idle3 up0), 3, by decide +kernel⟩,
   ⟨r1, adm opMEASURE [1, 8, 0, 0, 0, 0] [3], withCmd (adm opMEASURE [1, 8, 0, 0, 0, 0] [3]) (idle3 up0), by decide +kernel⟩,
   ⟨r1, adm opMEASURE [1, 8, 0, 0, 0, 1] [3], withCmd (adm opMEASURE [1, 8, 0, 0, 0, 1] [3]) (conv6 false up0), by decide +kernel⟩,
   ⟨r1, adm opMEASURE [1, 8, 0, 0, 0, 1] [3], withCmd (adm opMEASURE [1, 8, 0, 0, 0, 1] [3]) up0, by decide +kernel⟩,
   ⟨r1, adm opMEASURE [1, 8, 0, 0, 0, 2, 0x10203] [3], withCmd (adm opMEASURE [1, 8, 0, 0, 0, 2, 0x10203] [3]) up0, by decide +kernel⟩,
   ⟨r1, adm opMEASURE [1, 8, 0, 0, 0, 2, 0x10203] [3], withCmd (adm opMEASURE [1, 8, 0, 0, 0, 2, 0x10203] [3]) (conv6 false up0), 3, by
     decide +kernel⟩⟩

def cm6 (l : List (Nat × Fld × Nat)) : State := fld ([(feB 3, CHN_CMP_CFG.EN_HI, 1), (feB 3, CHN_CMP_CFG.TRIP_HI, 1), (feB 3, CHN_CMP_STATUS.VALID_HI, 1), (feB 3, CHN_CMP_THR.HI, 8192), (feB 3, CHN_FE_STATUS.EN, 1)] ++ l) up0

/-- Concrete states and operands that meet, clause by clause, the hypotheses of `Obligations.ComparatorRows`. -/
theorem test_wit_ComparatorRows :
    (∃ (u : Fin 1056) (high : Bool) (s : State) (uv : Int) (vp : Int) (q : Fin 200) (dead : Bool), (s.isSet (feB ↑u) (cfEN (side high)) = false ∨
      s.cmpUsed ↑u = false ∨ s.cmpLevel (↑u) (side high) uv vp = (s.cmp (↑u) (side high)).raw)) ∧
    (∃ (u : Fin 1056) (high : Bool) (s : State) (uv : Int) (vp : Int) (q : Fin 200) (dead : Bool), s.isSet (feB ↑u) (cfEN (side high)) = true ∧
      s.cmpUsed ↑u = true ∧ s.cmpLevel (↑u) (side high) uv vp ≠ (s.cmp (↑u) (side high)).raw ∧ (s.gateOpen (↑u) (side high) = false ∨ outside
      (side high) (s.cmpLevel (↑u) (side high) uv vp) = false)) ∧
    (∃ (u : Fin 1056) (high : Bool) (s : State) (uv : Int) (vp : Int) (q : Fin 200) (dead : Bool), ↑u < 1024 ∧ s.phys ↑u = ↑u ∧ s.noRot [↑u] ∧
      (s.fe ↑u).contact = none ∧ s.gateOpen (↑u) (side high) = true ∧ s.cmpLevel (↑u) (side high) uv vp ≠ (s.cmp (↑u) (side high)).raw ∧ outside
      (side high) (s.cmpLevel (↑u) (side high) uv vp) = true ∧ (s.inst (instKey 2 scCHANNEL ↑u)).force = false ∧ s.getF (4 * 2) FLT_CLASS.LEVEL =
      1) ∧
    (∃ (u : Fin 1056) (high : Bool) (s : State) (x : Bool) (i : Instr), i ∈ [Instr.compValid u high [x], Instr.compLatchSet u high [x],
      Instr.compFilterReturn u high [x]] ∧ s.clocked = true ∧ s.isSet (feB ↑u) (cfEN (side high)) = true ∧ s.cmpUsed ↑u = true ∧ (s.isSet
      (feB ↑u) (cfTRIP (side high)) = false ∨ s.isSet (feB ↑u) (csVALID (side high)) = true)) ∧
    (∃ (u : Fin 1056) (high : Bool) (s : State) (l : List Bool) (i : Instr), i ∈ [Instr.compValid u high l, Instr.compLatchSet u high l,
      Instr.compFilterReturn u high l] ∧ (s.clocked = false ∨ s.isSet (feB ↑u) (cfEN (side high)) = false ∨ s.cmpUsed ↑u = false)) :=
  ⟨⟨3, true, up0, 9000000, 0, 7, false, by decide +kernel⟩,
   ⟨3, true, cm6 [(feB 3, CHN_CMP_CFG.TRIP_HI, 0)], 9000000, 0, 7, false, by decide +kernel⟩,
   ⟨3, true, cm6 [], 9000000, 0, 7, true, by decide +kernel, by decide +kernel, by unfold State.noRot; decide +kernel, by decide +kernel⟩,
   ⟨3, true, cm6 [], true, .compValid 3 true [true], by decide +kernel⟩,
   ⟨3, true, fld [(feB 3, CHN_CMP_CFG.EN_HI, 0)] up0, [], .compFilterReturn 3 true [], by decide +kernel⟩⟩

/-! Sequence words. -/

/-- Concrete states and operands that meet, clause by clause, the hypotheses of `Obligations.ProgramErrorRows`. -/
theorem test_wit_ProgramErrorRows :
    (∃ (c : Fin 1024) (s : State) (op : Nat) (w : Nat) (i : Instr), (op, i) ∈ wordRows c ∧ s.issuing ↑c = false) ∧
    (∃ (c : Fin 1024) (s : State) (op : Nat) (i : Instr), (op, i) ∈ wordRows c ∧ s.issuing ↑c = true ∧ (s.engState ↑c = 5 → op ∉ swAfterStart) ∧
      ((s.eng ↑c).fresh = false ∨ (s.eng ↑c).queue ≠ []) ∧ (s.eng ↑c).part = 0 ∧ (s.eng ↑c).ret = none ∧ 6144 ≤ s.pc ↑c) ∧
    (∃ (c : Fin 1024) (s : State) (op : Nat) (i : Instr), (op, i) ∈ wordRows c ∧ s.issuing ↑c = true ∧ (s.engState ↑c = 5 → op ∉ swAfterStart) ∧
      ((s.eng ↑c).fresh = false ∨ (s.eng ↑c).queue ≠ []) ∧ (s.eng ↑c).part = 0 ∧ ((s.eng ↑c).ret = none ∧ s.pc ↑c < 6144 ∨ (s.eng ↑c).ret ≠ none
      ∧ s.short (↑c) 1 = []) ∧ swFields (swOp (s.memWord (↑c) (↑c) 0)) = none) ∧
    (∃ (c : Fin 1024) (s : State) (op : Nat) (i : Instr), (op, i) ∈ wordRows c ∧ s.issuing ↑c = true ∧ (s.engState ↑c = 5 → op ∉ swAfterStart) ∧
      ((s.eng ↑c).fresh = false ∨ (s.eng ↑c).queue ≠ []) ∧ (s.eng ↑c).part = 0 ∧ ((s.eng ↑c).ret = none ∧ s.pc ↑c < 6144 ∨ (s.eng ↑c).ret ≠ none
      ∧ s.short (↑c) 1 = []) ∧ swOp (s.memWord (↑c) (↑c) 0) = op ∧ ((s.eng ↑c).ret = none ∧ (op = swVECS ∨ op = swSEND) ∨ (s.eng ↑c).ret ≠ none ∧
      swStream op = false ∨ (s.eng ↑c).loop ≠ none ∧ swBody op = false ∨ op = swBAR ∧ s.isSet (chB ↑c) CHN_SEQ_GRP.BOUND = false)) ∧
    (∃ (c : Fin 1024) (s : State) (op : Nat) (i : Instr) (m : Nat) (k : Nat), (op, i) ∈ wordRows c ∧ s.issuing ↑c = true ∧
      (s.engState ↑c = 5 → op ∉ swAfterStart) ∧ ((s.eng ↑c).fresh = false ∨ (s.eng ↑c).queue ≠ []) ∧ (s.eng ↑c).part = 0 ∧ ((s.eng ↑c).ret = none
      ∧ s.pc ↑c < 6144 ∨ (s.eng ↑c).ret ≠ none ∧ s.short (↑c) 1 = []) ∧ swOp (s.memWord (↑c) (↑c) 0) = op ∧ s.wordErr (↑c) (s.memWord (↑c) (↑c)
      0) = some (m, k)) :=
  ⟨⟨3, up0, swNOP, 0, .seqNop 3, by decide +kernel⟩,
   ⟨3, fld [(chB 3, CHN_SEQ_PC.PC, 0x1800)] (eng7 0), swNOP, .seqNop 3, by decide +kernel⟩,
   ⟨3, eng7 (sw 0x3E []), swNOP, .seqNop 3, by decide +kernel⟩,
   ⟨3, eng7 (sw swSEND []), swSEND, .send 3, by decide +kernel⟩,
   ⟨3, eng7 (sw swVECI [(49, 13)]), swVECI, .veci 3, 3, 6, by decide +kernel⟩⟩

/-- Concrete states and operands that meet, clause by clause, the hypotheses of `Obligations.VectorWordRows`. -/
theorem test_wit_VectorWordRows :
    (∃ (c : Fin 1024) (s : State) (w : Nat), s.Issues (↑c) swVECI w ∧ bits w 52 49 ≤ (s.eng ↑c).part + min (bits w 52 49 - (s.eng ↑c).part) (128
      - (s.eng ↑c).queue.length)) ∧
    (∃ (c : Fin 1024) (s : State) (w : Nat), s.Issues (↑c) swVECI w ∧ (s.eng ↑c).part + min (bits w 52 49 - (s.eng ↑c).part) (128 -
      (s.eng ↑c).queue.length) < bits w 52 49) ∧
    (∃ (c : Fin 1024) (s : State) (w : Nat), s.Issues (↑c) swVECD w ∧ bits w 52 36 ≤ (s.eng ↑c).part + min (bits w 52 36 - (s.eng ↑c).part) (128
      - (s.eng ↑c).queue.length)) ∧
    (∃ (c : Fin 1024) (s : State) (w : Nat), s.Issues (↑c) swVREP w ∧ (s.eng ↑c).part + min (bits w 31 0 - (s.eng ↑c).part) (128 -
      (s.eng ↑c).queue.length) < bits w 31 0) ∧
    (∃ (c : Fin 1024) (s : State) (w : Nat), s.Issues (↑c) swVECS w ∧ (s.eng ↑c).part = 0 ∧ (s.eng ↑c).vecs = none ∧ (s.eng ↑c).ret ≠ none ∧
      (∀ m ∈ s.mem ↑c, s.fill m = 1)) ∧
    (∃ (c : Fin 1024) (s : State) (w : Nat) (ts : Nat) (n : Nat), (s.eng ↑c).vecs = some (ts, n) ∧ n - (s.eng ↑c).part ≤ 16 ∧ s.short (↑c) 1 = []
      ∧ (s.eng ↑c).queue.length + (n - (s.eng ↑c).part) ≤ 128 ∧ (s.eng ↑c).fin = none ∧ (∀ m ∈ s.mem ↑c, ∀ i < n - (s.eng ↑c).part, packedCode
      (s.memWord (↑c) m 0) i ≤ 10)) ∧
    (∃ (c : Fin 1024) (s : State) (w : Nat) (x : Nat × Nat), (s.eng ↑c).vecs = some x ∧ s.short (↑c) 1 ≠ []) :=
  ⟨⟨3, eng7 (sw swVECI [(53, 2), (49, 4), (0, 0x4321)]), sw swVECI [(53, 2), (49, 4), (0, 0x4321)], issues_of (by decide +kernel), by
    decide +kernel⟩,
   ⟨3, (eng7 (sw swVECI [(53, 2), (49, 4), (0, 0x4321)])).modEng 3 (fun e => { e with queue := List.replicate 126 { pins := [] } }), sw swVECI
     [(53, 2), (49, 4), (0, 0x4321)], issues_of (by decide +kernel), by decide +kernel⟩,
   ⟨3, (eng7 (sw swVECD [(53, 2), (36, 17), (0, 0x40)])).sramSet (seqBase 3 + 8 * 0x40) 8 0x1234, sw swVECD [(53, 2), (36, 17), (0, 0x40)],
     issues_of (by decide +kernel), by decide +kernel⟩,
   ⟨3, eng7 (sw swVREP [(53, 2), (49, 4), (0, 200)]), sw swVREP [(53, 2), (49, 4), (0, 200)], issues_of (by decide +kernel), by decide +kernel⟩,
   ⟨3, str7 1 (sw swVECS [(53, 2), (36, 20)]), sw swVECS [(53, 2), (36, 20)], issues_of (by decide +kernel), by decide +kernel⟩,
   ⟨3, (str7 2 0x4321).modEng 3 (fun e => { e with vecs := some (2, 4) }), 0, 2, 4, by decide +kernel⟩,
   ⟨3, (str7 0 0x4321).modEng 3 (fun e => { e with vecs := some (2, 4) }), 0, (2, 4), by decide +kernel⟩⟩

/-- Concrete states and operands that meet, clause by clause, the hypotheses of `Obligations.FlowWordRows`. -/
theorem test_wit_FlowWordRows :
    (∃ (c : Fin 1024) (s : State) (w : Nat) (a : Nat) (n : Nat), (s.eng ↑c).part = 0 ∧ s.Issues (↑c) swNOP w) ∧
    (∃ (c : Fin 1024) (s : State) (w : Nat) (n : Nat), (s.eng ↑c).part = 0 ∧ s.Issues (↑c) swLOOP w) ∧
    (∃ (c : Fin 1024) (s : State) (w : Nat), (s.eng ↑c).part = 0 ∧ s.Issues (↑c) swENDL w ∧ 1 < s.getF (chB ↑c + 4 * bits w 57 56)
      CHN_SEQ_LOOP.COUNT) ∧
    (∃ (c : Fin 1024) (s : State) (w : Nat), (s.eng ↑c).part = 0 ∧ s.Issues (↑c) swENDL w ∧ s.getF (chB ↑c + 4 * bits w 57 56) CHN_SEQ_LOOP.COUNT
      ≤ 1) ∧
    (∃ (c : Fin 1024) (s : State) (w : Nat) (a : Nat) (n : Nat), (s.eng ↑c).part = 0 ∧ s.Issues (↑c) swCALL w) ∧
    (∃ (c : Fin 1024) (s : State) (w : Nat) (a : Nat) (n : Nat) (as : List Nat), (s.eng ↑c).part = 0 ∧ s.Issues (↑c) swRET w ∧ (s.eng ↑c).stack =
      a :: as ∧ a < 2 ^ 13 ∧ as.length < 8) ∧
    (∃ (c : Fin 1024) (s : State) (w : Nat) (a : Nat) (n : Nat), (s.eng ↑c).part = 0 ∧ s.Issues (↑c) swJMP w) ∧
    (∃ (c : Fin 1024) (s : State) (w : Nat) (n : Nat), (s.eng ↑c).part = 0 ∧ s.Issues (↑c) swTSLD w ∧ ((s.eng ↑c).fresh = false ∨
      (s.eng ↑c).queue ≠ [])) ∧
    (∃ (c : Fin 1024) (s : State) (w : Nat) (a : Nat) (n : Nat), (s.eng ↑c).part = 0 ∧ s.Issues (↑c) swSEG w ∧ ((s.eng ↑c).inSeg = false ∨
      (s.eng ↑c).bstop = false ∧ (s.eng ↑c).jreq = none)) ∧
    (∃ (c : Fin 1024) (s : State) (w : Nat) (a : Nat) (n : Nat), (s.eng ↑c).part = 0 ∧ s.Issues (↑c) swSTRM w) ∧
    (∃ (c : Fin 1024) (s : State) (w : Nat) (a : Nat) (n : Nat), (s.eng ↑c).part = 0 ∧ s.Issues (↑c) swSEND w ∧ (s.eng ↑c).ret = some a ∧ a < 2 ^
      13) ∧
    (∃ (c : Fin 1024) (s : State) (w : Nat) (a : Nat) (n : Nat), (s.eng ↑c).part = 0 ∧ s.Issues (↑c) swHALT w ∧ ((s.eng ↑c).inSeg = false ∨
      (s.eng ↑c).bstop = false ∧ (s.eng ↑c).jreq = none) ∧ ((s.eng ↑c).fresh = false ∨ (s.eng ↑c).queue ≠ [])) :=
  ⟨⟨3, eng7 0, 0, 0, 0, by decide +kernel, issues_of (by decide +kernel)⟩,
   ⟨3, eng7 (sw swLOOP [(56, 2), (0, 7)]), sw swLOOP [(56, 2), (0, 7)], 0, by decide +kernel, issues_of (by decide +kernel)⟩,
   ⟨3, fld [(chB 3 + 8, CHN_SEQ_LOOP.COUNT, 5)] (eng7 (sw swENDL [(56, 2), (0, 7)])), sw swENDL [(56, 2), (0, 7)], by decide +kernel, issues_of
     (by decide +kernel), by decide +kernel⟩,
   ⟨3, fld [(chB 3 + 8, CHN_SEQ_LOOP.COUNT, 1)] (eng7 (sw swENDL [(56, 2), (0, 7)])), sw swENDL [(56, 2), (0, 7)], by decide +kernel, issues_of
     (by decide +kernel), by decide +kernel⟩,
   ⟨3, eng7 (sw swCALL [(0, 7)]), sw swCALL [(0, 7)], 0, 0, by decide +kernel, issues_of (by decide +kernel)⟩,
   ⟨3, (eng7 (sw swRET [])).modEng 3 (fun e => { e with stack := [5, 6] }), sw swRET [], 5, 0, [6], by decide +kernel, issues_of
     (by decide +kernel), by decide +kernel⟩,
   ⟨3, eng7 (sw swJMP [(0, 70)]), sw swJMP [(0, 70)], 0, 0, by decide +kernel, issues_of (by decide +kernel)⟩,
   ⟨3, ((eng7 (sw swTSLD [(53, 3), (0, 0x40)])).sramSet (seqBase 3 + 8 * 0x40) 8 0xF000000170000010), sw swTSLD [(53, 3), (0, 0x40)], 0, by
     decide +kernel, issues_of (by decide +kernel), by decide +kernel⟩,
   ⟨3, eng7 (sw swSEG [(46, 33), (42, 5), (37, 3)]), sw swSEG [(46, 33), (42, 5), (37, 3)], 0, 0, by decide +kernel, issues_of
     (by decide +kernel), by decide +kernel⟩,
   ⟨3, eng7 (sw swSTRM []), sw swSTRM [], 0, 0, by decide +kernel, issues_of (by decide +kernel)⟩,
   ⟨3, str7 2 (sw swSEND []), sw swSEND [], 9, 0, by decide +kernel, issues_of (by decide +kernel), by decide +kernel⟩,
   ⟨3, eng7 (sw swHALT [(0, 70)]), sw swHALT [(0, 70)], 0, 0, by decide +kernel, issues_of (by decide +kernel), by decide +kernel⟩⟩

def seg7 (f : Eng → Eng) : State := (eng7 (sw swSEG [(46, 33), (42, 5), (37, 3)])).modEng 3 f

def jr7 (s : State) : State := withCmd (run opJUMP [1, 8] [3]) (fld [(chB 3, CHN_SEQ_JREQ.PEND, 1), (chB 3, CHN_SEQ_JREQ.TARGET, 0x77)] s)

/-- Concrete states and operands that meet, clause by clause, the hypotheses of `Obligations.SegmentDecisionRows`. -/
theorem test_wit_SegmentDecisionRows :
    (∃ (c : Fin 1024) (s : State) (w : Nat) (x : Nat × Instr) (r : CmdRef), (x = (swSEG, Instr.seg c) ∨ x = (swHALT, Instr.halt c)) ∧ s.Issues
      (↑c) x.1 w ∧ (s.eng ↑c).part = 0 ∧ (s.eng ↑c).inSeg = true ∧ (s.eng ↑c).bstop = true ∧ s.jumpFalls ↑c = false ∧ ((s.eng ↑c).fresh = false ∨
      (s.eng ↑c).queue ≠ [])) ∧
    (∃ (c : Fin 1024) (s : State) (w : Nat) (x : Nat × Instr) (r : CmdRef) (k : Cmd), (x = (swSEG, Instr.seg c) ∨ x = (swHALT, Instr.halt c)) ∧
      s.Issues (↑c) x.1 w ∧ (s.eng ↑c).part = 0 ∧ (s.eng ↑c).inSeg = true ∧ (s.eng ↑c).bstop = true ∧ s.jumpFalls ↑c = true ∧ (s.eng ↑c).jreq =
      some r ∧ s.cmd? r = some k ∧ ((s.eng ↑c).fresh = false ∨ (s.eng ↑c).queue ≠ [])) ∧
    (∃ (c : Fin 1024) (s : State) (w : Nat) (x : Nat × Instr) (r : CmdRef), (x = (swSEG, Instr.seg c) ∨ x = (swHALT, Instr.halt c)) ∧ s.Issues
      (↑c) x.1 w ∧ (s.eng ↑c).part = 0 ∧ (s.eng ↑c).inSeg = true ∧ (s.eng ↑c).bstop = false ∧ (s.eng ↑c).jreq = some r ∧ s.isSet (chB ↑c)
      CHN_SEQ_JREQ.PEND = true ∧ (s.eng ↑c).ret = none ∧ (s.eng ↑c).jump = none) :=
  ⟨⟨3, seg7 (fun e => { e with bstop := true }), sw swSEG [(46, 33), (42, 5), (37, 3)], (swSEG, .seg 3), r1, by decide +kernel, issues_of
    (by decide +kernel), by decide +kernel⟩,
   ⟨3, jr7 (seg7 (fun e => { e with bstop := true, jreq := some r1 })), sw swSEG [(46, 33), (42, 5), (37, 3)], (swSEG, .seg 3), r1, run opJUMP
     [1, 8] [3], by decide +kernel, issues_of (by decide +kernel), by decide +kernel⟩,
   ⟨3, jr7 (seg7 (fun e => { e with jreq := some r1, stack := [4], queue := [{ pins := [] }] })), sw swSEG [(46, 33), (42, 5), (37, 3)],
     (swSEG, .seg 3), r1, by decide +kernel, issues_of (by decide +kernel), by decide +kernel⟩⟩

/-- Concrete states and operands that meet, clause by clause, the hypotheses of `Obligations.EffectWordRows`. -/
theorem test_wit_EffectWordRows :
    (∃ (c : Fin 1024) (s : State) (w : Nat) (ms : List Nat) (q : Inj), (s.eng ↑c).part = 0 ∧ s.Issues (↑c) swLVL w) ∧
    (∃ (c : Fin 1024) (s : State) (w : Nat) (ms : List Nat) (q : Inj), (s.eng ↑c).part = 0 ∧ s.Issues (↑c) swEVT w) ∧
    (∃ (c : Fin 1024) (s : State) (w : Nat) (ms : List Nat) (q : Inj), (s.eng ↑c).part = 0 ∧ s.Issues (↑c) swFLG w) ∧
    (∃ (c : Fin 1024) (s : State) (w : Nat), (s.eng ↑c).part = 0 ∧ s.Issues (↑c) swMEAS w ∧ (bits w 57 56 ≠ 2 ∨ bitB w 55 = false)) ∧
    (∃ (c : Fin 1024) (s : State) (w : Nat), (s.eng ↑c).part = 0 ∧ s.Issues (↑c) swMEAS w ∧ bits w 57 56 = 2 ∧ bitB w 55 = true ∧ (∀ m ∈ if bitB
      w 54 = true then s.mem ↑c else [↑c], s.adcRoom m = true)) ∧
    (∃ (c : Fin 1024) (s : State) (w : Nat) (x : Act), (s.eng ↑c).part = 0 ∧ s.Issues (↑c) swMEAS w ∧ bits w 57 56 = 2 ∧ bitB w 55 = true ∧ (∃ m
      ∈ if bitB w 54 = true then s.mem ↑c else [↑c], s.adcRoom m = false)) :=
  ⟨⟨3, eng7 (sw swLVL [(54, 2), (0, 0x123)]), sw swLVL [(54, 2), (0, 0x123)], [], { src := 0, gain := 0, samp := 0, tag := 0 }, by
    decide +kernel, issues_of (by decide +kernel)⟩,
   ⟨3, eng7 (sw swEVT [(50, 0x2A), (48, 1)]), sw swEVT [(50, 0x2A), (48, 1)], [], { src := 0, gain := 0, samp := 0, tag := 0 }, by
     decide +kernel, issues_of (by decide +kernel)⟩,
   ⟨3, eng7 (sw swFLG [(56, 1), (48, 0x81), (47, 1)]), sw swFLG [(56, 1), (48, 0x81), (47, 1)], [], { src := 0, gain := 0, samp := 0, tag := 0 },
     by decide +kernel, issues_of (by decide +kernel)⟩,
   ⟨3, eng7 (sw swMEAS [(56, 1), (16, 5), (0, 2)]), sw swMEAS [(56, 1), (16, 5), (0, 2)], by decide +kernel, issues_of (by decide +kernel), by
     decide +kernel⟩,
   ⟨3, eng7 (sw swMEAS [(56, 2), (55, 1), (16, 5), (0, 2)]), sw swMEAS [(56, 2), (55, 1), (16, 5), (0, 2)], by decide +kernel, issues_of
     (by decide +kernel), by decide +kernel⟩,
   ⟨3, (eng7 (sw swMEAS [(56, 2), (55, 1), (16, 5), (0, 2)])).modAdc 3 (fun a => { a with reserved := 4 }), sw swMEAS [(56, 2), (55, 1), (16, 5),
     (0, 2)], .clearFail, by decide +kernel, issues_of (by decide +kernel), by decide +kernel⟩⟩

/-- Concrete states and operands that meet, clause by clause, the hypotheses of `Obligations.HoldWordRows`. -/
theorem test_wit_HoldWordRows :
    (∃ (c : Fin 1024) (s : State) (w : Nat) (past : List Bool), (s.eng ↑c).part = 0 ∧ s.Issues (↑c) swBR w ∧ bitB w 53 = false) ∧
    (∃ (c : Fin 1024) (s : State) (w : Nat) (past : List Bool) (ms : List Nat), (s.eng ↑c).part = 0 ∧ s.Issues (↑c) swBR w ∧ bitB w 53 = true) ∧
    (∃ (c : Fin 1024) (s : State) (w : Nat) (past : List Bool) (ms : List Nat), (s.eng ↑c).part = 0 ∧ s.Issues (↑c) swMATCH w) ∧
    (∃ (c : Fin 1024) (s : State) (w : Nat) (past : List Bool) (ms : List Nat), (s.eng ↑c).part = 0 ∧ s.Issues (↑c) swWAIT w) ∧
    (∃ (c : Fin 1024) (s : State) (w : Nat) (past : List Bool) (ms : List Nat), (s.eng ↑c).part = 0 ∧ s.Issues (↑c) swBAR w ∧ s.inBarrier
      (↑c / 128) (bits w 57 54) (s.getF (chB ↑c) CHN_SEQ_GRP.GROUP) = true) ∧
    (∃ (c : Fin 1024) (s : State) (w : Nat) (past : List Bool) (ms : List Nat), (s.eng ↑c).part = 0 ∧ s.Issues (↑c) swBAR w ∧ s.inBarrier
      (↑c / 128) (bits w 57 54) (s.getF (chB ↑c) CHN_SEQ_GRP.GROUP) = false) ∧
    (∃ (c : Fin 1024) (s : State) (w : Nat) (past : List Bool) (ms : List Nat), (s.eng ↑c).part = 0 ∧ s.Issues (↑c) swSTALL w ∧ ((s.eng ↑c).ret =
      none ∨ ∀ m ∈ s.mem ↑c, bits w 28 16 ≤ s.fill m - 1)) ∧
    (∃ (c : Fin 1024) (s : State) (w : Nat) (past : List Bool) (ms : List Nat), (s.eng ↑c).part = 0 ∧ s.Issues (↑c) swSTALL w ∧ (s.eng ↑c).ret ≠
      none ∧ (∃ m ∈ s.mem ↑c, s.fill m - 1 < bits w 28 16) ∧ s.getF (4 * 11) FLT_CLASS.LEVEL = 0 ∧ (s.inst (instKey 11 scCHANNEL ↑c)).force =
      false) :=
  ⟨⟨3, eng7 (sw swBR [(47, 2), (0, 9)]), sw swBR [(47, 2), (0, 9)], [true], by decide +kernel, issues_of (by decide +kernel), by decide +kernel⟩,
   ⟨3, eng7 (sw swBR [(53, 1), (0, 9)]), sw swBR [(53, 1), (0, 9)], [], [], by decide +kernel, issues_of (by decide +kernel), by decide +kernel⟩,
   ⟨3, eng7 (sw swMATCH [(39, 3), (0, 9)]), sw swMATCH [(39, 3), (0, 9)], [], [], by decide +kernel, issues_of (by decide +kernel)⟩,
   ⟨3, eng7 (sw swWAIT [(56, 1), (52, 5), (0, 9)]), sw swWAIT [(56, 1), (52, 5), (0, 9)], [], [], by decide +kernel, issues_of
     (by decide +kernel)⟩,
   ⟨3, fld [(tileBase 0 + 4 * 2, TIL_SEQ_BAR_MASK.GROUPS, 1), (chB 3, CHN_SEQ_GRP.BOUND, 1)] (eng7 (sw swBAR [(54, 2), (50, 5), (0, 9)])), sw
     swBAR [(54, 2), (50, 5), (0, 9)], [], [], by decide +kernel, issues_of (by decide +kernel), by decide +kernel⟩,
   ⟨3, fld [(chB 3, CHN_SEQ_GRP.BOUND, 1)] (eng7 (sw swBAR [(54, 2), (50, 5), (0, 9)])), sw swBAR [(54, 2), (50, 5), (0, 9)], [], [], by
     decide +kernel, issues_of (by decide +kernel), by decide +kernel⟩,
   ⟨3, eng7 (sw swSTALL [(16, 4), (0, 6)]), sw swSTALL [(16, 4), (0, 6)], [], [], by decide +kernel, issues_of (by decide +kernel), by
     decide +kernel⟩,
   ⟨3, fld [(4 * 0x0B, FLT_CLASS.LEVEL, 0)] (str7 2 (sw swSTALL [(16, 4), (0, 6)])), sw swSTALL [(16, 4), (0, 6)], [], [], by decide +kernel,
     issues_of (by decide +kernel), by decide +kernel⟩⟩

/-! Holds and runs. -/

def hold8 (h : Hold) (w : Nat) : State := (fld [(chB 3, CHN_SEQ_STATUS.STATE, 2)] (eng7 w)).modEng 3 fun e => { e with hold := some h, pad := some (5, 0) }

def br8 : Hold := { kind := .branch, code := 5, ts := 0 }

def it8 : Hold := { kind := .iteration, code := 5, ts := 0 }

def mt8 (tmo it : Nat) : State := (hold8 it8 (sw swMATCH [(39, 3), (47, 0)])).modEng 3 fun e => { e with loop := some { addr := 0, len := 3, tmo := tmo, iter := it, word := 3 } }

def wt8 (a : Bool) (p : Nat) : Hold := { kind := .wait 2, code := 5, ts := 0, tmo := 3, periods := p, arrived := a }

def bh8 : Hold := { kind := .barrier 2, code := 5, ts := 0, tmo := 3, periods := 3 }

def me8 : Hold := { kind := .measure [3, 4], code := 5, ts := 0 }

def st8 : Hold := { kind := .stall 4, code := 5, ts := 0 }

def stl8 (n : Nat) : State := fld [(chB 3, CHN_SEQ_STATUS.STATE, 3)] ((str7 n 0).modEng 3 fun e => { e with hold := some st8, pad := some (5, 0) })

def bar8 : State := (fld [(tileBase 0 + 8, TIL_SEQ_BAR_MASK.GROUPS, 1), (chB 3, CHN_SEQ_GRP.BOUND, 1), (chB 3, CHN_SEQ_GRP.LEADER, 1), (chB 3, CHN_SEQ_GRP.LEADCH, 3), (tileBase 0, TIL_SEQ_BAR_ARR.GROUPS, 1)] (hold8 bh8 (sw swBAR [(54, 2)])))

/-- Concrete states and operands that meet, clause by clause, the hypotheses of `Obligations.HoldEndRows`. -/
theorem test_wit_HoldEndRows :
    (∃ (c : Fin 1024) (s : State) (h : Hold) (w : Nat), (s.eng ↑c).hold = some h ∧ h.kind = HoldKind.branch ∧ (s.eng ↑c).queue = [] ∧
      (s.eng ↑c).ret = none ∧ s.pc ↑c < 6144 ∧ w = s.memWord (↑c) (↑c) 0) ∧
    (∃ (c : Fin 1024) (s : State) (h : Hold) (l : Match), (s.eng ↑c).hold = some h ∧ h.kind = HoldKind.iteration ∧ (s.eng ↑c).queue = [] ∧
      (s.eng ↑c).loop = some l ∧ l.addr + 1 + l.len < 2 ^ 13) ∧
    (∃ (c : Fin 1024) (s : State) (h : Hold) (k : Nat), (s.eng ↑c).hold = some h ∧ h.kind = HoldKind.wait k ∧ h.arrived = true ∧ (s.eng ↑c).ret =
      none ∧ s.pc ↑c < 6144) ∧
    (∃ (c : Fin 1024) (s : State) (h : Hold), (s.eng ↑c).hold = some h ∧ ((∃ k, h.kind = HoldKind.wait k) ∨ ∃ b, h.kind = HoldKind.barrier b) ∧
      h.tmo ≠ 0 ∧ h.tmo ≤ h.periods ∧ (s.eng ↑c).ret = none ∧ s.pc ↑c < 6144) ∧
    (∃ (c : Fin 1024) (s : State) (h : Hold) (l : List Nat), (s.eng ↑c).hold = some h ∧ h.kind = HoldKind.measure l ∧
      (∀ m ∈ l, s.adcRoom m = true) ∧ l.Nodup ∧ (s.eng ↑c).ret = none ∧ s.pc ↑c < 6144) ∧
    (∃ (c : Fin 1024) (s : State) (h : Hold) (l : List Nat), (s.eng ↑c).hold = some h ∧ h.kind = HoldKind.measure l ∧
      (∃ m ∈ l, s.adcRoom m = false) ∧ l.Nodup) ∧
    (∃ (c : Fin 1024) (s : State) (h : Hold) (n : Nat), (s.eng ↑c).hold = some h ∧ h.kind = HoldKind.stall n ∧ (∀ m ∈ s.mem ↑c, n ≤ s.fill m)) ∧
    (∃ (c : Fin 1024) (s : State) (h : Hold) (n : Nat), (s.eng ↑c).hold = some h ∧ h.kind = HoldKind.stall n ∧ (∃ m ∈ s.mem ↑c, s.fill m < n)) ∧
    (∃ (c : Fin 1024) (s : State) (h : Hold) (w : Word), s.writeOk (chB ↑c + CHN_SEQ_CTRL.GO.off) = true ∧ (s.eng ↑c).hold = some h ∧ h.kind =
      HoldKind.wait 2) ∧
    (∃ (c : Fin 1024) (s : State) (h : Hold) (w : Word), (∀ (h : Hold), (s.eng ↑c).hold = some h → h.kind ≠ HoldKind.wait 2)) ∧
    (∃ (t' : Fin 8) (bid : Fin 16) (s : State), (∃ g < 32, s.inBarrier (↑t') (↑bid) g = true) ∧ (∀ g < 32, s.inBarrier (↑t') (↑bid) g = true →
      (s.atBarrier (↑t') (↑bid) g).isSome = true) ∧ (∀ g < 32, ∀ (c : Nat), s.inBarrier (↑t') (↑bid) g = true → s.atBarrier (↑t') (↑bid) g = some
      c → (s.eng c).ret = none ∧ (s.eng c).loop = none ∧ s.pc c < 6144)) ∧
    (∃ (t' : Fin 8) (bid : Fin 16) (s : State), ((∀ g < 32, s.inBarrier (↑t') (↑bid) g = false) ∨ ∃ g < 32, s.inBarrier (↑t') (↑bid) g = true ∧
      s.atBarrier (↑t') (↑bid) g = none)) :=
  ⟨⟨3, hold8 br8 (sw swBR [(53, 1), (54, 1), (47, 0), (0, 9)]), br8, sw swBR [(53, 1), (54, 1), (47, 0), (0, 9)], by decide +kernel⟩,
   ⟨3, mt8 0 4, it8, { addr := 0, len := 3, tmo := 0, iter := 4, word := 3 }, by decide +kernel⟩,
   ⟨3, hold8 (wt8 true 1) (sw swWAIT [(56, 2), (0, 3)]), wt8 true 1, 2, by decide +kernel⟩,
   ⟨3, hold8 (wt8 false 3) (sw swWAIT [(56, 2), (0, 3)]), wt8 false 3, by decide +kernel, .inl ⟨_, rfl⟩, by decide +kernel⟩,
   ⟨3, hold8 me8 (sw swMEAS [(56, 2), (55, 1)]), me8, [3, 4], by decide +kernel⟩,
   ⟨3, (hold8 me8 (sw swMEAS [(56, 2), (55, 1)])).modAdc 4 (fun a => { a with reserved := 4 }), me8, [3, 4], by decide +kernel⟩,
   ⟨3, stl8 5, st8, 4, by decide +kernel⟩,
   ⟨3, stl8 3, st8, 4, by decide +kernel⟩,
   ⟨3, hold8 (wt8 false 1) 0, wt8 false 1, 1, by decide +kernel⟩,
   ⟨3, hold8 br8 0, br8, 1, by decide +kernel⟩,
   ⟨0, 2, bar8, by decide +kernel, by decide +kernel, fun g hg c _ h => all_at (f := bar8.atBarrier 0 2) (P := fun c => (bar8.eng c).ret = none ∧
     (bar8.eng c).loop = none ∧ bar8.pc c < 6144) (by decide +kernel) g hg c h⟩,
   ⟨0, 3, bar8, by decide +kernel⟩⟩

def ring8 (n : Nat) : State := fld [(chB 3, CHN_STRM_BASE.BASE, 2), (chB 3, CHN_STRM_SIZE.WORDS, n)] up0

def bnd8 (s : State) : State := fld [(chB 3, CHN_SEQ_GRP.BOUND, 1), (chB 3, CHN_SEQ_GRP.LEADCH, 2)] s

/-- Concrete states and operands that meet, clause by clause, the hypotheses of `Obligations.EngineCommandRows`. -/
theorem test_wit_EngineCommandRows :
    (∃ (cmd : CmdRef) (k : Cmd) (s : State) (c : Nat) (a : Nat) (n : Nat) (data : List (List (BitVec 64))) (failed : Option Bool) (e : Ending),
      s.ready? cmd opSEQLOAD = some k ∧ s.seqLoadCheck k.chans = some e) ∧
    (∃ (cmd : CmdRef) (k : Cmd) (s : State) (c : Nat) (data : List (List (BitVec 64))), s.ready? cmd opSEQLOAD = some k ∧ s.seqLoadCheck k.chans
      = none ∧ k.chans.Nodup ∧ k.pf 28 12 0 + k.pf 32 12 0 ≤ 6144) ∧
    (∃ (cmd : CmdRef) (k : Cmd) (s : State) (c : Nat) (a : Nat) (l : List (BitVec 64)) (tmo : Bool), s.ready? cmd opSEQLOAD = some k ∧
      s.seqLoadCheck k.chans = none ∧ k.p 36 = 0) ∧
    (∃ (cmd : CmdRef) (k : Cmd) (s : State) (c : Nat) (a : Nat) (n : Nat) (data : List (List (BitVec 64))) (tmo : Bool), s.ready? cmd opSEQLOAD =
      some k ∧ s.seqLoadCheck k.chans = none ∧ k.p 36 ≠ 0 ∧ 1 < k.chans.length) ∧
    (∃ (cmd : CmdRef) (k : Cmd) (s : State) (c : Nat) (a : Nat) (n : Nat) (e : Ending), s.ready? cmd opSEQRUN = some k ∧ s.seqRunCheck
      (k.pf 0 9 0) (k.pf 8 1 0) = some e) ∧
    (∃ (cmd : CmdRef) (k : Cmd) (s : State) (n : Nat), s.ready? cmd opSEQRUN = some k ∧ s.seqRunCheck (k.pf 0 9 0) (k.pf 8 1 0) = none ∧ s.noRot
      (s.mem (k.pf 0 9 0))) ∧
    (∃ (cmd : CmdRef) (k : Cmd) (s : State) (a : Nat) (n : Nat), s.ready? cmd opSTREAM = some k ∧ s.leaderOf (k.pf 0 9 0) ≠ k.pf 0 9 0) ∧
    (∃ (cmd : CmdRef) (k : Cmd) (s : State) (a : Nat) (n : Nat), s.ready? cmd opSTREAM = some k ∧ s.leaderOf (k.pf 0 9 0) = k.pf 0 9 0 ∧ (∃ m ∈
      s.mem (k.pf 0 9 0), s.ringOk m = false)) ∧
    (∃ (cmd : CmdRef) (k : Cmd) (s : State) (a : Nat), s.ready? cmd opSTREAM = some k ∧ s.leaderOf (k.pf 0 9 0) = k.pf 0 9 0 ∧ (∀ m ∈ s.mem
      (k.pf 0 9 0), s.ringOk m = true) ∧ k.p 16 / 8 ≠ 0) ∧
    (∃ (cmd : CmdRef) (k : Cmd) (s : State) (a : Nat), s.ready? cmd opSTREAM = some k ∧ s.leaderOf (k.pf 0 9 0) = k.pf 0 9 0 ∧ (∀ m ∈ s.mem
      (k.pf 0 9 0), s.ringOk m = true) ∧ k.p 16 / 8 = 0) ∧
    (∃ (cmd : CmdRef) (k : Cmd) (s : State) (a : Nat) (n : Nat), s.ready? cmd opSEQSTOP = some k ∧ s.patRunning (k.pf 0 9 0) = true ∧
      s.stopForeign (k.pf 0 9 0) = true) ∧
    (∃ (cmd : CmdRef) (k : Cmd) (s : State) (a : Nat) (n : Nat), s.ready? cmd opSEQSTOP = some k ∧ s.patRunning (k.pf 0 9 0) = false) ∧
    (∃ (cmd : CmdRef) (k : Cmd) (s : State) (a : Nat) (n : Nat), s.ready? cmd opSEQSTOP = some k ∧ s.patRunning (k.pf 0 9 0) = true ∧
      s.stopForeign (k.pf 0 9 0) = false) ∧
    (∃ (cmd : CmdRef) (k : Cmd) (s : State) (c : Nat) (a : Nat) (n : Nat) (e : Ending), s.ready? cmd opBIND = some k ∧ s.bindCheck k = some e) ∧
    (∃ (cmd : CmdRef) (k : Cmd) (s : State) (c : Nat) (a : Nat) (n : Nat), s.ready? cmd opBIND = some k ∧ s.bindCheck k = none) ∧
    (∃ (cmd : CmdRef) (k : Cmd) (s : State) (c : Nat) (a : Nat) (n : Nat) (e : Ending), s.ready? cmd opJUMP = some k ∧ s.seqJumpCheck k
      (k.pf 0 9 0) (k.pf 4 12 0) = some e) ∧
    (∃ (cmd : CmdRef) (k : Cmd) (s : State) (a : Nat) (n : Nat), s.ready? cmd opJUMP = some k ∧ s.seqJumpCheck k (k.pf 0 9 0) (k.pf 4 12 0) =
      none) :=
  ⟨⟨r1, adm opSEQLOAD [1, 8, 0, 0, 0, 0x2000, 0, 9, 2, 0] [3], withCmd (adm opSEQLOAD [1, 8, 0, 0, 0, 0x2000, 0, 9, 2, 0] [3]) (eng7 0), 0, 0, 0,
    [[1, 2]], none, { status := scSTATE, detail := 2 }, by decide +kernel⟩,
   ⟨r1, adm opSEQLOAD [1, 8, 0, 0, 0, 0x2000, 0, 9, 2, 0] [3], withCmd (adm opSEQLOAD [1, 8, 0, 0, 0, 0x2000, 0, 9, 2, 0] [3]) up0, 0, [[1, 2]],
     by decide +kernel⟩,
   ⟨r1, adm opSEQLOAD [1, 8, 0, 0, 0, 0x2000, 0, 9, 2, 0] [3], withCmd (adm opSEQLOAD [1, 8, 0, 0, 0, 0x2000, 0, 9, 2, 0] [3]) up0, 0, 0, [1],
     true, by decide +kernel⟩,
   ⟨r1, adm opSEQLOAD [1, 0x18, 0, 0, 0, 0x2000, 0, 9, 2, 0x100] [3, 4], withCmd (adm opSEQLOAD [1, 0x18, 0, 0, 0, 0x2000, 0, 9, 2, 0x100] [3,
     4]) up0, 0, 0, 0, [[1]], false, by decide +kernel⟩,
   ⟨r1, adm opSEQRUN [3, 9, 1] [3], withCmd (adm opSEQRUN [3, 9, 1] [3]) up0, 0, 0, 0, { status := scSTATE, detail := 5 }, by decide +kernel⟩,
   ⟨r1, adm opSEQRUN [3, 9, 0] [3], withCmd (adm opSEQRUN [3, 9, 0] [3]) (okRun up0), 0, by decide +kernel, by decide +kernel,
     by unfold State.noRot; decide +kernel⟩,
   ⟨r1, adm opSTREAM [3, 0, 0x4000, 0, 0x200, 0] [3], withCmd (adm opSTREAM [3, 0, 0x4000, 0, 0x200, 0] [3]) (bnd8 (ring8 64)), 0, 0, by
     decide +kernel⟩,
   ⟨r1, adm opSTREAM [3, 0, 0x4000, 0, 0x200, 0] [3], withCmd (adm opSTREAM [3, 0, 0x4000, 0, 0x200, 0] [3]) (ring8 33), 0, 0, by
     decide +kernel⟩,
   ⟨r1, adm opSTREAM [3, 0, 0x4000, 0, 0x200, 0] [3], withCmd (adm opSTREAM [3, 0, 0x4000, 0, 0x200, 0] [3]) (ring8 64), 0, by decide +kernel⟩,
   ⟨r1, adm opSTREAM [3, 0, 0x4000, 0, 0, 0] [3], withCmd (adm opSTREAM [3, 0, 0x4000, 0, 0, 0] [3]) (ring8 64), 0, by decide +kernel⟩,
   ⟨r1, adm opSEQSTOP [3, 0] [3], withCmd (adm opSEQSTOP [3, 0] [3]) (bnd8 (eng7 0)), 0, 0, by decide +kernel⟩,
   ⟨r1, adm opSEQSTOP [3, 0] [3], withCmd (adm opSEQSTOP [3, 0] [3]) up0, 0, 0, by decide +kernel⟩,
   ⟨r1, adm opSEQSTOP [3, 0] [3], withCmd (adm opSEQSTOP [3, 0] [3]) (eng7 0), 0, 0, by decide +kernel⟩,
   ⟨r1, adm opBIND [0x500, 0x18] [3, 4], withCmd (adm opBIND [0x500, 0x18] [3, 4]) (eng7 0), 0, 0, 0, { status := scSTATE, detail := 2 }, by
     decide +kernel⟩,
   ⟨r1, adm opBIND [0x500, 0x18] [3, 4], withCmd (adm opBIND [0x500, 0x18] [3, 4]) (fld [(chB 7, CHN_SEQ_GRP.BOUND, 1),
     (chB 7, CHN_SEQ_GRP.GROUP, 5), (chB 7, CHN_SEQ_GRP.LEADCH, 7)] up0), 0, 0, 0, by decide +kernel⟩,
   ⟨r1, adm opJUMP [3, 9] [3], withCmd (adm opJUMP [3, 9] [3]) up0, 0, 0, 0, { status := scSTATE, detail := 2 }, by decide +kernel⟩,
   ⟨r1, adm opJUMP [3, 9] [3], withCmd (adm opJUMP [3, 9] [3]) ((eng7 0).sramSet (seqBase 3 + 8 * 9) 8 (sw swSEG [])), 0, 0, by decide +kernel⟩⟩

def jmp8 (n : Nat) : Jump := { left := n, count := 77, snum := 5, target := 9, cmd := r1 }

def strm8 : State := hostOk (fld [(0x1000, LNK_P_STATUS.UPSTREAM, 1), (chB 3, CHN_STRM_REFILL.WORDS, 32)] ((ring8 64).modEng 3 fun e => { e with strm := [⟨r1, 0x4000, 64, 70⟩], rd := 60 }))

/-- Concrete states and operands that meet, clause by clause, the hypotheses of `Obligations.RunEventRows`. -/
theorem test_wit_RunEventRows :
    (∃ (c : Fin 1024) (s : State) (seen : List (List (Bool × Bool))) (r : CmdRef) (k : Cmd), s.engState ↑c = 5 ∧ (s.eng ↑c).run = some r ∧
      (s.eng ↑c).ctx = none ∧ ((s.eng ↑c).start ≠ 2 ∨ (s.eng ↑c).fired = true) ∧ (s.eng ↑c).queue = [] ∧ (s.eng ↑c).fin = none ∧ (s.eng ↑c).pad =
      none ∧ s.firstWaits ↑c = true) ∧
    (∃ (c : Fin 1024) (s : State) (seen : List (List (Bool × Bool))) (r : CmdRef) (k : Cmd) (v : Vec) (vs : List Vec), s.engState ↑c = 5 ∧
      (s.eng ↑c).run = some r ∧ (s.eng ↑c).ctx = none ∧ ((s.eng ↑c).start ≠ 2 ∨ (s.eng ↑c).fired = true) ∧ (s.eng ↑c).queue = v :: vs ∧
      (s.eng ↑c).pad = none ∧ v.acts = [] ∧ (List.map Pin.chan v.pins).Nodup ∧ (∀ x ∈ v.pins, x.chan < 1024)) ∧
    (∃ (c : Fin 1024) (s : State) (seen : List (List (Bool × Bool))) (r : CmdRef) (k : Cmd), (s.engState ↑c ≠ 5 ∨ (s.eng ↑c).start = 2 ∧
      (s.eng ↑c).fired = false)) ∧
    (∃ (c : Fin 1024) (s : State) (seen : List (List (Bool × Bool))) (r : CmdRef) (k : Cmd) (v : Vec) (vs : List Vec), 1 ≤ s.engState ↑c ∧
      s.engState ↑c ≤ 4 ∧ (s.eng ↑c).run = some r ∧ (s.eng ↑c).ctx = none ∧ (s.eng ↑c).queue = v :: vs ∧ v.acts = [] ∧ ((s.eng ↑c).pad = none ∨
      v.notBefore ≤ (s.eng ↑c).next) ∧ (List.map Pin.chan v.pins).Nodup ∧ (∀ x ∈ v.pins, x.chan < 1024)) ∧
    (∃ (c : Fin 1024) (s : State) (seen : List (List (Bool × Bool))) (r : CmdRef) (k : Cmd) (code : Nat) (ts : Nat), 1 ≤ s.engState ↑c ∧
      s.engState ↑c ≤ 4 ∧ (s.eng ↑c).run = some r ∧ (s.eng ↑c).ctx = none ∧ (s.eng ↑c).pad = some (code, ts) ∧ ((s.eng ↑c).queue = [] ∧
      (s.eng ↑c).fin = none ∧ s.missing ↑c = false ∧ ((s.eng ↑c).hold ≠ none ∨ (s.eng ↑c).next < (s.eng ↑c).resume) ∨ ∃ v vs, (s.eng ↑c).queue =
      v :: vs ∧ (s.eng ↑c).next < v.notBefore)) ∧
    (∃ (c : Fin 1024) (s : State) (seen : List (List (Bool × Bool))) (r : CmdRef) (k : Cmd) (f : RunEnd) (e : Ending), (f = RunEnd.boundary ∧ e =
      { status := scABORTHOST, detail := 2, partialDone := false, result := s.vcnt ↑c } ∨ (∃ code, f = RunEnd.halt code ∧ e =
      { status := scOK, detail := 0, partialDone := false, result := s.vcnt ↑c + code * 2 ^ 48 }) ∨ ∃ x, f = RunEnd.safe x ∧ e =
      { x with result := s.vcnt ↑c }) ∧ 1 ≤ s.engState ↑c ∧ s.engState ↑c ≤ 4 ∧ (s.eng ↑c).run = some r ∧ s.cmd? r = some k ∧ (s.eng ↑c).ctx =
      none ∧ (s.eng ↑c).queue = [] ∧ (s.eng ↑c).fin = some f ∧ (s.eng ↑c).acts = [] ∧ (s.eng ↑c).jump = none) ∧
    (∃ (c : Fin 1024) (s : State) (seen : List (List (Bool × Bool))) (r : CmdRef) (k : Cmd) (m : Nat) (p : Nat), 1 ≤ s.engState ↑c ∧ s.engState
      ↑c ≤ 4 ∧ (s.eng ↑c).run = some r ∧ s.cmd? r = some k ∧ (s.eng ↑c).ctx = none ∧ (s.eng ↑c).queue = [] ∧ (s.eng ↑c).fin = some
      (RunEnd.error m p) ∧ (s.eng ↑c).jump = none ∧ m < 1024 ∧ p < 16 ∧ s.getF (4 * 19) FLT_CLASS.LEVEL = 0 ∧ (s.inst
      (instKey 19 scCHANNEL m)).force = false) ∧
    (∃ (c : Fin 1024) (s : State) (seen : List (List (Bool × Bool))) (r : CmdRef) (k : Cmd) (i : Instr), (i = Instr.vectorPeriod c seen ∨ i =
      Instr.underrun c) ∧ s.engState ↑c = 1 ∧ (s.eng ↑c).run = some r ∧ s.cmd? r = some k ∧ (s.eng ↑c).ctx = none ∧ (s.eng ↑c).queue = [] ∧
      s.missing ↑c = true ∧ (s.eng ↑c).jump = none ∧ s.getF (4 * 10) FLT_CLASS.LEVEL = 0 ∧ (∀ m ∈ s.mem ↑c, (s.inst
      (instKey 10 scCHANNEL m)).force = false)) ∧
    (∃ (c : Fin 1024) (s : State) (seen : List (List (Bool × Bool))) (r : CmdRef) (k : Cmd), s.missing ↑c = false) ∧
    (∃ (c : Fin 1024) (s : State) (seen : List (List (Bool × Bool))) (r : CmdRef) (k : Cmd) (j : Jump), (s.eng ↑c).jump = some j ∧ j.left = 0 ∧
      s.cmd? j.cmd = some k ∧ j.target < 2 ^ 13 ∧ j.snum < 2 ^ 12) ∧
    (∃ (c : Fin 1024) (s : State) (seen : List (List (Bool × Bool))) (r : CmdRef) (k : Cmd) (j : Jump), (s.eng ↑c).jump = some j ∧ j.left ≠ 0) ∧
    (∃ (c : Fin 1024) (s : State) (seen : List (List (Bool × Bool))) (r : CmdRef) (k : Cmd), (s.eng ↑c).fin = some RunEnd.boundary ∧
      (s.eng ↑c).queue = [] ∧ (s.eng ↑c).run = some r ∧ s.cmd? r = some k ∧ (s.eng ↑c).acts = [] ∧ (s.eng ↑c).jump = none) ∧
    (∃ (c : Fin 1024) (s : State) (seen : List (List (Bool × Bool))) (r : CmdRef) (k : Cmd) (data : List (BitVec 64)) (x : Strm)
      (xs : List Strm), s.served = some ↑c ∧ (s.eng ↑c).strm = x :: xs ∧ 0 < x.left ∧ s.ringOk ↑c = true ∧ s.fill ↑c < 2 ^ 12) ∧
    (∃ (c : Fin 1024) (s : State) (seen : List (List (Bool × Bool))) (r : CmdRef) (k : Cmd) (data : List (BitVec 64)) (tmo : Bool), s.served =
      some ↑c) ∧
    (∃ (c : Fin 1024) (s : State) (seen : List (List (Bool × Bool))) (r : CmdRef) (k : Cmd) (data : List (BitVec 64)) (failed : Option Bool),
      s.served = none) :=
  ⟨⟨3, (run8 5 fun e => { e with fresh := true }).sramSet (seqBase 3) 8 (sw swHALT []), [], r1, run opSEQRUN [3] [3], by decide +kernel⟩,
   ⟨3, run8 5 fun e => { e with fresh := true, queue := [vec8 1] }, [], r1, run opSEQRUN [3] [3], vec8 1, [], by decide +kernel⟩,
   ⟨3, up0, [], r1, run opSEQRUN [3] [3], by decide +kernel⟩,
   ⟨3, run8 1 fun e => { e with queue := [vec8 2, vec8 0] }, [[(true, true)]], r1, run opSEQRUN [3] [3], vec8 2, [vec8 0], by decide +kernel⟩,
   ⟨3, run8 2 fun e => { e with hold := some br8, pad := some (5, 1) }, [], r1, run opSEQRUN [3] [3], 5, 1, by decide +kernel, by decide +kernel,
     by decide +kernel, by decide +kernel, by decide +kernel, .inl (by decide +kernel)⟩,
   ⟨3, run8 1 fun e => { e with fin := some .boundary, stat := .hi }, [], r1, run opSEQRUN [3] [3], .boundary,
     { status := scABORTHOST, detail := 2 }, .inl ⟨rfl, by decide +kernel⟩, by decide +kernel⟩,
   ⟨3, fld [(4 * 0x13, FLT_CLASS.LEVEL, 0)] (run8 1 fun e => { e with fin := some (.error 3 6), stat := .hi }), [], r1, run opSEQRUN [3] [3], 3,
     6, by decide +kernel⟩,
   ⟨3, fld [(4 * 0x0A, FLT_CLASS.LEVEL, 0)] (run8 1 fun e => { e with stat := .hi }), [], r1, run opSEQRUN [3] [3], .vectorPeriod 3 [], by
     decide +kernel⟩,
   ⟨3, up0, [], r1, run opSEQRUN [3] [3], by decide +kernel⟩,
   ⟨3, fld [(chB 3, CHN_SEQ_JREQ.PEND, 1)] (withCmd (run opJUMP [3] [3]) (up0.modEng 3 fun e => { e with jump := some (jmp8 0) })), [], r1, run
     opJUMP [3] [3], jmp8 0, by decide +kernel⟩,
   ⟨3, (up0.modEng 3 fun e => { e with jump := some (jmp8 2) }), [], r1, run opJUMP [3] [3], jmp8 2, by decide +kernel⟩,
   ⟨3, run8 1 fun e => { e with fin := some .boundary, stat := .hi }, [], r1, run opSEQRUN [3] [3], by decide +kernel⟩,
   ⟨3, strm8, [], r1, run opSTREAM [3] [3], [5, 6], ⟨r1, 0x4000, 64, 70⟩, [], by decide +kernel⟩,
   ⟨3, strm8, [], r1, run opSTREAM [3] [3], [], false, by decide +kernel⟩,
   ⟨3, up0, [], r1, run opSTREAM [3] [3], [], none, by decide +kernel⟩⟩

/-! Microcode, timing stamps, statistics. -/

def mc9 (w : Nat) (m : Mic) : State := { fld [(0, MC_VERSION.STAGE, 3)] up0 with cs := [(9, w)], mics := [(3, m)] }

def mw (nac na : Nat) : Nat := nac * 2 ^ 124 + na * 2 ^ 107

def out9 : MicroOut := ⟨5, 1, 2, 3, 4⟩

/-- Concrete states and operands that meet, clause by clause, the hypotheses of `Obligations.MicrocodeRows`. -/
theorem test_wit_MicrocodeRows :
    (∃ (e : Fin 1024) (s : State) (cost : Fin 8) (cond : Bool) (flips : BitVec 136) (out : MicroOut) (n : Nat) (st : List Nat) (holds : Bool),
      s.clocked = true ∧ s.microRuns = true ∧ s.engState ↑e ≠ 4 ∧ s.trapDue ↑e = false ∧ (microRead (tabGet (fun x => 0) s.cs (s.mic ↑e).upc)
      flips).2 = false ∧ holds = (cond != bitB (microRead (tabGet (fun x => 0) s.cs (s.mic ↑e).upc) flips).1 117) ∧ (bits (microRead (tabGet
      (fun x => 0) s.cs (s.mic ↑e).upc) flips).1 127 124 = 0 ∧ n = ((s.mic ↑e).upc + 1) % 1024 ∧ st = (s.mic ↑e).stack ∨ bits (microRead (tabGet
      (fun x => 0) s.cs (s.mic ↑e).upc) flips).1 127 124 = 1 ∧ n = bits (microRead (tabGet (fun x => 0) s.cs (s.mic ↑e).upc) flips).1 116 107 ∧
      st = (s.mic ↑e).stack ∨ bits (microRead (tabGet (fun x => 0) s.cs (s.mic ↑e).upc) flips).1 127 124 = 2 ∧ (n = if holds = true then bits
      (microRead (tabGet (fun x => 0) s.cs (s.mic ↑e).upc) flips).1 116 107 else ((s.mic ↑e).upc + 1) % 1024) ∧ st = (s.mic ↑e).stack ∨ (bits
      (microRead (tabGet (fun x => 0) s.cs (s.mic ↑e).upc) flips).1 127 124 = 3 ∨ bits (microRead (tabGet (fun x => 0) s.cs (s.mic ↑e).upc)
      flips).1 127 124 = 4 ∧ holds = true) ∧ (s.mic ↑e).stack.length < 8 ∧ n = bits (microRead (tabGet (fun x => 0) s.cs (s.mic ↑e).upc) flips).1
      116 107 ∧ st = ((s.mic ↑e).upc + 1) % 1024 :: (s.mic ↑e).stack ∨ bits (microRead (tabGet (fun x => 0) s.cs (s.mic ↑e).upc) flips).1 127 124
      = 4 ∧ holds = false ∧ n = ((s.mic ↑e).upc + 1) % 1024 ∧ st = (s.mic ↑e).stack ∨ bits (microRead (tabGet (fun x => 0) s.cs (s.mic ↑e).upc)
      flips).1 127 124 = 5 ∧ (s.mic ↑e).stack = n :: st ∨ bits (microRead (tabGet (fun x => 0) s.cs (s.mic ↑e).upc) flips).1 127 124 = 6 ∧ n =
      (bits (microRead (tabGet (fun x => 0) s.cs (s.mic ↑e).upc) flips).1 116 107 + swOp (s.memWord (s.leaderOf ↑e) (↑e) 0)) % 1024 ∧ st =
      (s.mic ↑e).stack ∨ bits (microRead (tabGet (fun x => 0) s.cs (s.mic ↑e).upc) flips).1 127 124 = 8 ∧ (n = if holds = true then
      ((s.mic ↑e).upc + 1) % 1024 else (s.mic ↑e).upc) ∧ st = (s.mic ↑e).stack ∨ bits (microRead (tabGet (fun x => 0) s.cs (s.mic ↑e).upc)
      flips).1 127 124 = 9 ∧ n = ((s.mic ↑e).upc + 1) % 1024 ∧ st = (s.mic ↑e).stack)) ∧
    (∃ (e : Fin 1024) (s : State) (cost : Fin 8) (cond : Bool) (flips : BitVec 136) (out : MicroOut), s.clocked = true ∧ s.microRuns = true ∧
      s.engState ↑e ≠ 4 ∧ (microRead (tabGet (fun x => 0) s.cs (s.mic ↑e).upc) flips).2 = false ∧ bits (microRead (tabGet (fun x => 0) s.cs
      (s.mic ↑e).upc) flips).1 127 124 = 7 ∧ (s.mic ↑e).handler = true) ∧
    (∃ (e : Fin 1024) (s : State) (i : Instr) (u : Nat) (cs : Nat), s.clocked = true ∧ s.microRuns = true ∧ s.engState ↑e ≠ 4 ∧ s.phys ↑e = ↑e ∧
      s.noRot [↑e] ∧ (s.inst (instKey 8 scCHANNEL ↑e)).force = false ∧ s.getF (4 * 8) FLT_CLASS.LEVEL ≤ 1 ∧ u < 1024 ∧ (s.mic ↑e).stack.length ≤
      8 ∧ (s.mic ↑e).flags < 32 ∧ (s.mic ↑e).scr.length = 4 ∧ ((∃ a flips, i = Instr.csParitySweep e a flips ∧ (microRead (tabGet (fun x => 0)
      s.cs ↑a) flips).2 = true ∧ u = ↑a ∧ cs = 2) ∨ ∃ cost cond flips out, i = Instr.microword e cost cond flips out ∧ s.trapDue ↑e = false ∧ u =
      (s.mic ↑e).upc ∧ ((microRead (tabGet (fun x => 0) s.cs u) flips).2 = true ∧ cs = 1 ∨ (microRead (tabGet (fun x => 0) s.cs u) flips).2 =
      false ∧ ∃ nac, nac = bits (microRead (tabGet (fun x => 0) s.cs u) flips).1 127 124 ∧ (nac = 3 ∧ 8 ≤ (s.mic ↑e).stack.length ∧ cs = 4 ∨ nac
      = 5 ∧ (s.mic ↑e).stack = [] ∧ cs = 4 ∨ nac = 7 ∧ (s.mic ↑e).handler = false ∧ cs = 5 ∨ 10 ≤ nac ∧ cs = 3)))) ∧
    (∃ (e : Fin 1024) (s : State) (a : Fin 1024) (flips : BitVec 136), (microRead (tabGet (fun x => 0) s.cs ↑a) flips).2 = false) ∧
    (∃ (e : Fin 1024) (s : State) (whole : Bool) (k : Nat) (ks : List Nat), s.microRuns = true ∧ s.engState ↑e ≠ 4 ∧ (s.mic ↑e).handler = false ∧
      ((s.mic ↑e).window = 0 ∨ 64 ≤ (s.mic ↑e).window) ∧ bitsSet 8 (s.pend ↑e) = k :: ks ∧ (4 ≤ k ∨ k = 3 ∧ (s.eng (s.leaderOf ↑e)).jreq = none ∨
      k ≤ 2 ∧ (s.eng (s.leaderOf ↑e)).stop = none)) ∧
    (∃ (e : Fin 1024) (s : State) (whole : Bool) (ks : List Nat) (l : Nat) (r : CmdRef) (c : Cmd), s.microRuns = true ∧ s.engState ↑e ≠ 4 ∧
      (s.mic ↑e).handler = false ∧ (s.mic ↑e).window = 0 ∧ bitsSet 8 (s.pend ↑e) = 3 :: ks ∧ l = s.leaderOf ↑e ∧ (s.eng l).jreq = some r ∧ s.cmd?
      r = some c) ∧
    (∃ (e : Fin 1024) (s : State) (whole : Bool) (k : Nat) (ks : List Nat) (l : Nat) (r : CmdRef) (x : Ending), s.microRuns = true ∧ s.engState
      ↑e ≠ 4 ∧ (s.mic ↑e).handler = false ∧ (s.mic ↑e).window = 0 ∧ bitsSet 8 (s.pend ↑e) = k :: ks ∧ k ≤ 2 ∧ l = s.leaderOf ↑e ∧ (s.eng l).run =
      some r ∧ (s.eng l).stop = some x ∧ (s.eng l).ctx = none ∧ (s.eng l).fresh = false) ∧
    (∃ (e : Fin 1024) (s : State) (whole : Bool), s.pend ↑e % 256 = 0) ∧
    (∃ (e : Fin 1024) (s : State) (cost : Fin 8) (cond : Bool) (flips : BitVec 136) (out : MicroOut), s.trapDue ↑e = true) :=
  ⟨⟨3, mc9 (mw 0 0) { upc := 9 }, 1, true, 0, out9, 10, [], true, by decide +kernel⟩,
   ⟨3, mc9 (mw 7 77) { upc := 9, stack := [4, 6], handler := true, frame := [77 + 2 * 1024, 5 + 1024 * 6, 0, 0, 1, 2, 3, 4] }, 1, false, 0, out9,
     by decide +kernel⟩,
   ⟨3, fld [(4 * 8, FLT_CLASS.LEVEL, 1)] (mc9 (mw 7 77) { upc := 9 }), .microword 3 1 true 0 out9, 9, 5, by decide +kernel, by decide +kernel, by
     decide +kernel, by decide +kernel, by unfold State.noRot; decide +kernel, by decide +kernel, by decide +kernel, by decide +kernel, by
     decide +kernel, by decide +kernel, by decide +kernel, .inr ⟨1, true, 0, out9, rfl, by decide +kernel, rfl, .inr ⟨by decide +kernel, _, rfl,
     by decide +kernel⟩⟩⟩,
   ⟨3, mc9 0 { upc := 9 }, 100, 3, by decide +kernel⟩,
   ⟨3, fld [(12, MC_ENG_STATUS.PEND, 0x20)] (mc9 0 { upc := 9, stack := [7] }), true, 5, [], by decide +kernel⟩,
   ⟨3, (fld [(12, MC_ENG_STATUS.PEND, 0x08)] (withCmd (run opJUMP [3, 0x10044] [3]) (mc9 0 { upc := 9, stack := [7] }))).modEng 3 fun e =>
     { e with jreq := some r1 }, true, [], 3, r1, run opJUMP [3, 0x10044] [3], by decide +kernel⟩,
   ⟨3, (fld [(0, MC_VERSION.STAGE, 3), (12, MC_ENG_STATUS.PEND, 0x06)]
     ({ run8 1 (fun e => { e with stop := some abortEnd, queue := [vec8 1] }) with mics := [(3, {})] })), true, 1, [2], 3, r1, abortEnd, by
     decide +kernel⟩,
   ⟨3, mc9 0 { upc := 9 }, true, by decide +kernel⟩,
   ⟨3, fld [(12, MC_ENG_STATUS.PEND, 0x20)] (mc9 0 { upc := 9 }), 1, true, 0, out9, by decide +kernel⟩⟩

/-- Concrete states and operands that meet, clause by clause, the hypotheses of `Obligations.MicroStoreRows`. -/
theorem test_wit_MicroStoreRows :
    (∃ (s : State) (w : Word) (alt : Bool) (copyBad : Bool) (failed : List (Fin 1024)) (late : List (Fin 1024)), s.isSet 0 MC_STATUS.RELOAD =
      false) ∧
    (∃ (s : State) (w : Word) (alt : Bool) (failed : List (Fin 1024)) (late : List (Fin 1024)), s.isSet 0 MC_STATUS.RELOAD = true ∧ (s.inst
      (instKey 18 scMODULE 0)).force = false ∧ s.getF (4 * 18) FLT_CLASS.LEVEL = 0) ∧
    (∃ (s : State) (w : Word) (alt : Bool), s.isSet 0 MC_STATUS.RELOAD = true ∧ s.Wf) ∧
    (∃ (s : State) (w : Word), s.writeOk MC_INSTALL.START.off = true ∧ s.mode = stSERVICE ∧ s.svcExit = false ∧ s.isSet 0 MC_INSTALL.BUSY =
      false) ∧
    (∃ (s : State) (w : Word), s.writeOk MC_INSTALL.START.off = true ∧ (s.mode ≠ stSERVICE ∨ s.svcExit = true ∨ s.isSet 0 MC_INSTALL.BUSY =
      true)) ∧
    (∃ (s : State) (w : Word) (auth : Auth) (wrote : Bool), s.isSet 0 MC_INSTALL.BUSY = false) ∧
    (∃ (s : State) (w : Word) (auth : Auth) (wrote : Bool), s.isSet 0 MC_INSTALL.BUSY = true ∧ s.contCheck (fun o n => s.sramN (supBase + 16 *
      s.getF 0 MC_INSTALL.OFFSET + o) n) 2 (s.getF 0 MC_INSTALL_LEN.BYTES) (s.getF 0 MC_VERSION.BASE) auth ≠ 0) ∧
    (∃ (s : State) (w : Word), s.writeOk MC_FSEL.ENGINE.off = true) :=
  ⟨⟨up0, 0, true, false, [], [], by decide +kernel⟩,
   ⟨fld [(0, MC_STATUS.RELOAD, 1), (4 * 0x12, FLT_CLASS.LEVEL, 0), (chB 3, CHN_SEQ_STATUS.STATE, 4)] up0, 0, true, [], [4], by decide +kernel⟩,
   ⟨{ fld [(0, MC_STATUS.RELOAD, 1), (0, MC_STATUS.QUEUE, 2), (chB 3, CHN_SEQ_STATUS.STATE, 4)] up0 with engs := [(3, { stat := .lo })], mics := [(3, { upc := 5 })] },
     0, true, by decide +kernel, wf_of (by decide +kernel)⟩,
   ⟨inState stSERVICE up0, 0x00010081, by decide +kernel⟩,
   ⟨inState 7 up0, 0x00010081, by decide +kernel⟩,
   ⟨up0, 0, ⟨true, true, true, []⟩, true, by decide +kernel⟩,
   ⟨fld [(0, MC_INSTALL.BUSY, 1)] up0, 0, ⟨true, true, true, []⟩, true, by decide +kernel⟩,
   ⟨up0.modMic 7 (fun m => { m with frame := [1, 2, 3, 4, 5, 6, 7, 8] }), 7, by decide +kernel⟩⟩

def st9 (d e : Nat) (s : State) : State := fld [(feB 3, CHN_TDC_CFG.EN, 1), (feB 3, CHN_TDC_CFG.SRC, 0x1F), (feB 3, CHN_TDC_CFG.DEST, d), (feB 3, CHN_CMP_CFG.EN_HI, e)] s

def stamp9 : Stamp := ⟨12345, 6, 3, true, 2, 0⟩

def stb9 : State := (fld [(tileBase 0, TIL_STB_CTRL.EN, 1), (tileBase 0, TIL_CAP_PART.RQSZ, 1), (tileBase 0, TIL_CAP_PART.STBSZ, 1)] up0).modTdc 3 fun d => { d with fifo := [stamp9, stamp9] }

def hist9 : List Nat := List.replicate 144 1311 ++ List.replicate 56 1310

/-- Concrete states and operands that meet, clause by clause, the hypotheses of `Obligations.StampRows`. -/
theorem test_wit_StampRows :
    (∃ (s : State) (u : Fin 1056) (src : Fin 3) (rising : Bool) (q : Fin 200) (dead : Bool), (s.clocked = false ∨ s.stampTakes (↑u) (edgeCode
      (↑src) rising) ↑q = false)) ∧
    (∃ (s : State) (u : Fin 1056) (src : Fin 3) (rising : Bool) (q : Fin 200) (dead : Bool), s.clocked = true ∧ s.stampTakes (↑u) (edgeCode
      (↑src) rising) ↑q = true ∧ dead = false ∧ s.getF (feB ↑u) CHN_TDC_CFG.DEST ≠ 3 ∧ (s.tdc ↑u).fifo.length < 16) ∧
    (∃ (s : State) (u : Fin 1056) (src : Fin 3) (rising : Bool) (q : Fin 200) (dead : Bool), s.clocked = true ∧ s.stampTakes (↑u) (edgeCode
      (↑src) rising) ↑q = true ∧ dead = false ∧ s.getF (feB ↑u) CHN_TDC_CFG.DEST = 3) ∧
    (∃ (s : State) (u : Fin 1056) (src : Fin 3) (rising : Bool) (q : Fin 200) (dead : Bool), s.clocked = true ∧ s.stampTakes (↑u) (edgeCode
      (↑src) rising) ↑q = true ∧ (dead = true ∨ s.getF (feB ↑u) CHN_TDC_CFG.DEST ≠ 3 ∧ 16 ≤ (s.tdc ↑u).fifo.length)) ∧
    (∃ (s : State) (t' : Fin 8), (∀ l < 132, (s.tdc (unitOf (↑t') l)).fifo = [])) ∧
    (∃ (s : State) (t' : Fin 8) (l : Nat) (x : Stamp) (xs : List Stamp), l < 132 ∧ (∀ j < 132, j ≠ l → (s.tdc (unitOf (↑t') j)).fifo = []) ∧
      (s.tdc (unitOf (↑t') l)).fifo = x :: xs ∧ xs.length < 16 ∧ x.dest = 0 ∧ s.isSet (tileBase ↑t') TIL_STB_CTRL.EN = true ∧ (s.tile ↑t').stb <
      s.stbSize ↑t' ∧ x.stamp < 2 ^ 64 ∧ x.gen < 2 ^ 16 ∧ x.lostn < 2 ^ 8 ∧ x.edge < 8) ∧
    (∃ (s : State) (t' : Fin 8) (w : Word), s.writeOk (tileBase ↑t' + TIL_STB_CTRL.EN.off) = true ∧ s.isSet (tileBase ↑t') TIL_STB_CTRL.EN =
      false) ∧
    (∃ (s : State) (u : Fin 1061) (line : Fin 6), (lineMask ↑u).testBit ↑line = true) ∧
    (∃ (s : State) (u : Fin 1061) (line : Fin 6), (lineMask ↑u).testBit ↑line = false) ∧
    (∃ (s : State) (u : Fin 1061) (line : Fin 6), (s.tdc ↑u).locks.testBit ↑line = true ∧ (s.inst (instKey 12 (s.tdcUnit ↑u).1
      (s.tdcUnit ↑u).2)).force = false ∧ s.getF (4 * 12) FLT_CLASS.LEVEL = 0) ∧
    (∃ (s : State) (u : Fin 1061) (line : Fin 6), (s.tdc ↑u).locks.testBit ↑line = false) ∧
    (∃ (s : State) (u : Fin 1061) (hist : List Nat) (delays : List (List Nat)) (drv : Fin 1024) (stb : Fin 1024) (tdc : Fin 1024), (s.acquires ↑u
      = false ∨ List.foldl (fun x1 x2 => x1 + x2) 0 hist ≠ 262144)) ∧
    (∃ (s : State) (u : Fin 1061) (hist : List Nat) (delays : List (List Nat)) (drv : Fin 1024) (stb : Fin 1024) (tdc : Fin 1024), s.acquires ↑u
      = true ∧ List.foldl (fun x1 x2 => x1 + x2) 0 hist = 262144 ∧ hist.length = 200 ∧ (∀ x ∈ hist, 1 ≤ x ∧ x ≤ 3932) ∧ s.mode ≠ stBOOT) ∧
    (∃ (s : State) (u : Fin 1061) (hist : List Nat) (delays : List (List Nat)) (drv : Fin 1024) (stb : Fin 1024) (tdc : Fin 1024), s.acquires ↑u
      = true ∧ List.foldl (fun x1 x2 => x1 + x2) 0 hist = 262144 ∧ hist.length = 200 ∧ (∀ x ∈ hist, 1 ≤ x ∧ x ≤ 3932) ∧ s.mode = stBOOT ∧
      (s.tdc ↑u).held = none) ∧
    (∃ (s : State) (u : Fin 1061) (hist : List Nat) (delays : List (List Nat)) (drv : Fin 1024) (stb : Fin 1024) (tdc : Fin 1024), s.acquires ↑u
      = true ∧ List.foldl (fun x1 x2 => x1 + x2) 0 hist = 262144 ∧ (hist.length ≠ 200 ∨ ∃ x ∈ hist, x = 0 ∨ 3932 < x) ∧ (s.inst (instKey 13
      (s.tdcUnit ↑u).1 (s.tdcUnit ↑u).2)).force = false ∧ s.getF (4 * 13) FLT_CLASS.LEVEL = 0) :=
  ⟨⟨up0, 3, 0, false, 20, true, by decide +kernel⟩,
   ⟨st9 0 1 up0, 3, 0, false, 20, false, by decide +kernel⟩,
   ⟨st9 3 1 up0, 3, 0, false, 20, false, by decide +kernel⟩,
   ⟨(st9 3 1 up0), 3, 0, false, 20, true, by decide +kernel⟩,
   ⟨up0, 0, by decide +kernel⟩,
   ⟨stb9, 0, 3, stamp9, [stamp9], by decide +kernel⟩,
   ⟨fld [(tileBase 0, TIL_STB_WCNT.COUNT, 7)] up0, 0, 0x101, by decide +kernel⟩,
   ⟨up0.modTdc 3 (fun d => { d with locks := 0x3E }), 3, 0, by decide +kernel⟩,
   ⟨up0, 1030, 2, by decide +kernel⟩,
   ⟨fld [(4 * 0x0C, FLT_CLASS.LEVEL, 0)] (up0.modTdc 3 (fun d => { d with locks := 0x3F })), 3, 2, by decide +kernel⟩,
   ⟨up0.modTdc 3 (fun d => { d with locks := 1 }), 3, 2, by decide +kernel⟩,
   ⟨up0, 3, hist9, [], 1, 2, 3, by decide +kernel⟩,
   ⟨up0.modTile 0 (fun t => { t with acq := 8 }), 3, hist9, [[0, 500, 800]], 1, 2, 3, by decide +kernel⟩,
   ⟨inState 1 up0, 3, hist9, [[0, 500, 800]], 1, 2, 3, by decide +kernel⟩,
   ⟨fld [(4 * 0x0D, FLT_CLASS.LEVEL, 0)] (up0.modTile 0 (fun t => { t with acq := 8 })), 3, [262144], [[0, 500, 800]], 1, 2, 3, by
     decide +kernel⟩⟩

def stats9 (p : List Nat) : Cmd := run opSTATS p []

def j9 : Job := { run := r1, sets := [{ unit := 0x7FF, count := 3, x0 := 5, s1 := 7, s2 := 30 }] }

def jobSt (st : Nat) (c : Cmd) : State := fld [(tileBase 0 + 8, SEP_JOB.STATE, st), (tileBase 0, SEP_BUSY.JOBS, 4)] (withCmd c (up0.setJob 0 2 (some j9)))

def smp9 : Sample := { kind := 0, unit := 3, x := 77, sel := 0, gen := 1, tc := 100 }

def pk9 : Cmd := { adm opSTATS [1, 0x1005, 0, 5, 0, 0, 0, 0] [] with sq := 2 }

/-- Concrete states and operands that meet, clause by clause, the hypotheses of `Obligations.SepiaRows`. -/
theorem test_wit_SepiaRows :
    (∃ (t' : Fin 8) (s : State), (s.tile ↑t').sepia = []) ∧
    (∃ (t' : Fin 8) (s : State) (m : Sample) (ms : List Sample), (s.tile ↑t').sepia = m :: ms) ∧
    (∃ (t' : Fin 8) (s : State) (n : Fin 16) (j : Job) (c : Cmd) (i : Instr) (part : Bool), s.job ↑t' ↑n = some j ∧ s.cmd? j.run = some c ∧ (i =
      Instr.sepiaJobComplete t' n ∧ part = false ∧ s.getF (tileBase ↑t' + 4 * ↑n) SEP_JOB.STATE = 2 ∨ i = Instr.sepiaJobTimeout t' n ∧ part =
      true ∧ s.getF (tileBase ↑t' + 4 * ↑n) SEP_JOB.STATE = 1 ∧ c.p 12 ≠ 0)) ∧
    (∃ (t' : Fin 8) (s : State) (n : Fin 16), s.getF (tileBase ↑t' + 4 * ↑n) SEP_JOB.STATE ≠ 2) ∧
    (∃ (t' : Fin 8) (s : State) (n : Fin 16) (j : Job) (c : Cmd), s.liveJob ↑t' ↑n = some (j, c) ∧ c.p 12 = 0) ∧
    (∃ (t' : Fin 8) (s : State) (cmd : CmdRef) (c : Cmd) (n : Nat), s.ready? cmd opSTATS = some c ∧ c.pf 0 3 1 = ↑t' ∧ n < 16 ∧ s.getF
      (tileBase ↑t' + 4 * n) SEP_JOB.STATE = 0 ∧ (∀ k < n, s.getF (tileBase ↑t' + 4 * k) SEP_JOB.STATE ≠ 0)) ∧
    (∃ (t' : Fin 8) (s : State) (cmd : CmdRef) (c : Cmd), s.ready? cmd opSTATS = some c ∧ c.pf 0 3 1 = ↑t' ∧ (∀ n < 16, ∀ (j : Job) (k : Cmd),
      s.liveJob (↑t') n = some (j, k) → j.run ≠ { sq := c.pf 4 17 12, tag := c.pf 4 11 0 })) ∧
    (∃ (t' : Fin 8) (s : State) (cmd : CmdRef) (c : Cmd) (k : Cmd) (n : Nat) (j : Job), s.ready? cmd opSTATS = some c ∧ c.pf 0 3 1 = ↑t' ∧ n < 16
      ∧ s.liveJob (↑t') n = some (j, k) ∧ j.run = { sq := c.pf 4 17 12, tag := c.pf 4 11 0 } ∧ (∀ i < n, ∀ (j : Job) (k : Cmd), s.liveJob (↑t') i
      = some (j, k) → j.run ≠ { sq := c.pf 4 17 12, tag := c.pf 4 11 0 })) :=
  ⟨⟨0, up0, by decide +kernel⟩,
   ⟨0, (jobSt 1 (stats9 [0, 0, 0, 0, 0, 0, 0, 0])).modTile 0 (fun t => { t with sepia := [smp9] }), smp9, [], by decide +kernel⟩,
   ⟨0, jobSt 2 (stats9 [0, 0, 0, 5]), 2, j9, stats9 [0, 0, 0, 5], .sepiaJobComplete 0 2, false, by decide +kernel⟩,
   ⟨0, up0, 2, by decide +kernel⟩,
   ⟨0, jobSt 1 (stats9 [0, 0, 0, 0]), 2, j9, stats9 [0, 0, 0, 0], by decide +kernel⟩,
   ⟨0, withCmd (adm opSTATS [0, 0, 0, 5, 0, 0, 0, 0] []) up0, r1, adm opSTATS [0, 0, 0, 5, 0, 0, 0, 0] [], 0, by decide +kernel⟩,
   ⟨0, withCmd (adm opSTATS [1, 0x2005, 0, 5, 0, 0, 0, 0] []) up0, r1, adm opSTATS [1, 0x2005, 0, 5, 0, 0, 0, 0] [], by decide +kernel, by
     decide +kernel, fun n hn j k h => (none_at (f := (withCmd (adm opSTATS [1, 0x2005, 0, 5, 0, 0, 0, 0] []) up0).liveJob 0) (by decide +kernel)
     hn h).elim⟩,
   ⟨0, withCmd pk9 (jobSt 1 (stats9 [0, 0, 0, 5])), ⟨2, 5⟩, pk9, stats9 [0, 0, 0, 5], 2, j9, by decide +kernel, by decide +kernel, by
     decide +kernel, by decide +kernel, by decide +kernel, fun n hn j k h => (none_at (f := (withCmd pk9 (jobSt 1 (stats9 [0, 0, 0, 5]))).liveJob
     0) (by decide +kernel) hn h).elim⟩⟩

/-! The pattern generator. -/

/-- Group 5 of tile 0: channel 3 alone; its timing sets hold. -/

def grp10 (s : State) : State := fld [(chB 3, CHN_SEQ_GRP.BOUND, 1), (chB 3, CHN_SEQ_GRP.GROUP, 5), (chB 3, CHN_SEQ_GRP.LEADER, 1), (chB 3, CHN_SEQ_GRP.LEADCH, 3)] (okRun s)

/-- Context 1 of tile 0 in state st with group 5. -/

def ctx10 (st : Nat) (f : Ctx → Ctx) : State :=

  (fld [(ctxB 0 1, APG_CTX_STATUS.STATE, st), (ctxB 0 1, APG_CTX_GRPS.GROUPS, 0x20), (ctxB 0 1, APG_CTX_WIN.HI, 100)] ((withCmd (run opAPGRUN [0x100, 0x20] [3]) (grp10 up0)).modEng 3 fun e => { e with run := some r1, ctx := some 1 })).modCtx 0 1 fun k => f { k with run := some r1, named := 0x20 }

/-- Concrete states and operands that meet, clause by clause, the hypotheses of `Obligations.CobaltRunRows`. -/
theorem test_wit_CobaltRunRows :
    (∃ (cmd : CmdRef) (k : Cmd) (s : State) (data : List Byte) (failed : Option Bool) (n : Nat × Nat), s.ready? cmd opAPGLOAD = some k ∧ n.1 =
      (apgPart (k.pf 0 2 0) (k.pf 0 9 8) (k.pf 0 17 16)).1 + k.p 16 * (apgPart (k.pf 0 2 0) (k.pf 0 9 8) (k.pf 0 17 16)).2 ∧ n.2 = if failed =
      none then k.p 20 else min (k.p 20) (data.length / (apgPart (k.pf 0 2 0) (k.pf 0 9 8) (k.pf 0 17 16)).2)) ∧
    (∃ (cmd : CmdRef) (k : Cmd) (s : State) (e : Ending), s.ready? cmd opAPGRUN = some k ∧ s.apgRunCheck k = some e) ∧
    (∃ (cmd : CmdRef) (k : Cmd) (s : State) (t' : Nat) (x : Nat), s.ready? cmd opAPGRUN = some k ∧ s.apgRunCheck k = none ∧ t' = k.pf 0 2 0 ∧ x =
      k.pf 0 9 8 ∧ s.noRot (s.groupsMem t' (k.p 4))) ∧
    (∃ (cmd : CmdRef) (k : Cmd) (s : State) (t' : Fin 8) (x : Fin 4) (seen : List (List (List (Bool × Bool)))) (p : Nat), (s.getF (ctxB ↑t' ↑x)
      APG_CTX_STATUS.STATE ≠ 1 ∨ (s.ctx ↑t' ↑x).start = 2 ∧ (s.ctx ↑t' ↑x).fired = false)) ∧
    (∃ (cmd : CmdRef) (k : Cmd) (s : State) (t' : Fin 8) (x : Fin 4) (seen : List (List (List (Bool × Bool)))), s.getF (ctxB ↑t' ↑x)
      APG_CTX_STATUS.STATE = 1 ∧ ((s.ctx ↑t' ↑x).start ≠ 2 ∨ (s.ctx ↑t' ↑x).fired = true) ∧ (s.ctx ↑t' ↑x).fin = none ∧ (∀ c ∈ s.ctxLeaders ↑t'
      ↑x, (s.eng c).queue = [] ∧ (s.eng c).ctx = some ↑x)) ∧
    (∃ (cmd : CmdRef) (k : Cmd) (s : State) (t' : Fin 8) (g : Fin 32), (∀ x < 4, (s.ctx (↑t') x).drop.testBit ↑g = false ∨ (s.getF (ctxB (↑t') x)
      APG_CTX_GRPS.GROUPS).testBit ↑g = false)) ∧
    (∃ (cmd : CmdRef) (k : Cmd) (s : State) (t' : Fin 8) (g : Fin 32) (x : Nat), x < 4 ∧ (s.ctx (↑t') x).drop.testBit ↑g = true ∧ (s.getF (ctxB
      (↑t') x) APG_CTX_GRPS.GROUPS).testBit ↑g = true ∧ (∀ y < x, (s.ctx (↑t') y).drop.testBit ↑g = false ∨ (s.getF (ctxB (↑t') y)
      APG_CTX_GRPS.GROUPS).testBit ↑g = false) ∧ (s.ctx (↑t') x).fin = none) ∧
    (∃ (cmd : CmdRef) (k : Cmd) (s : State) (t' : Fin 8), (s.tile ↑t').flQueue = []) ∧
    (∃ (cmd : CmdRef) (k : Cmd) (s : State) (t' : Fin 8) (g : Nat) (x : Nat) (y : Nat) (b : Nat) (f : Nat) (key : Nat × Nat) (rs : List
      ((Nat × Nat) × FlRec)), (s.tile ↑t').flQueue = (key, FlRec.fail g x y b f) :: rs ∧ g < 32 ∧ (s.flGroup (↑t') g).line ≠ some (b, y) ∧
      (s.flGroup (↑t') g).mark = none ∧ s.getF (tileBase ↑t') APG_FL_CFG.GMAX = 0 ∧ s.getF (tileBase ↑t') APG_FL_WCNT.COUNT + 2 ≤ 65536) ∧
    (∃ (cmd : CmdRef) (k : Cmd) (s : State) (t' : Fin 8) (g : Nat) (x : Nat) (y : Nat) (b : Nat) (f : Nat) (key : Nat × Nat) (rs : List
      ((Nat × Nat) × FlRec)), (s.tile ↑t').flQueue = (key, FlRec.fail g x y b f) :: rs ∧ g < 32 ∧ (s.flGroup (↑t') g).line ≠ some (b, y) ∧ 65535
      ≤ s.getF (tileBase ↑t') APG_FL_WCNT.COUNT) ∧
    (∃ (cmd : CmdRef) (k : Cmd) (s : State), s.ready? cmd opFAILDUMP = some k ∧ bitB (k.p 0) 8 = true ∧ s.getF (tileBase (k.pf 0 2 0))
      APG_STATUS.RUN ≠ 0) ∧
    (∃ (cmd : CmdRef) (k : Cmd) (s : State), s.ready? cmd opFAILDUMP = some k ∧ (bitB (k.p 0) 8 = false ∨ s.getF (tileBase (k.pf 0 2 0))
      APG_STATUS.RUN = 0)) :=
  ⟨⟨r1, adm opAPGLOAD [0x101, 0x5000, 0, 0, 2, 3] [], withCmd (adm opAPGLOAD [0x101, 0x5000, 0, 0, 2, 3] []) up0, [1, 2, 3], none,
    (apgBase 1 + 32, 3), by decide +kernel⟩,
   ⟨r1, adm opAPGRUN [0, 0] [], withCmd (adm opAPGRUN [0, 0] []) up0, { status := scINVALID, detail := 0x14 }, by decide +kernel⟩,
   ⟨r1, adm opAPGRUN [0x100, 0x20] [3], withCmd (adm opAPGRUN [0x100, 0x20] [3]) (grp10 up0), 0, 1, by decide +kernel, by decide +kernel, by
     decide +kernel, by decide +kernel, by unfold State.noRot; decide +kernel⟩,
   ⟨r1, {cmdW 0 [] with sq := 1}, up0, 0, 1, [], 0, by decide +kernel⟩,
   ⟨r1, {cmdW 0 [] with sq := 1}, ctx10 1 id, 0, 1, [], by decide +kernel⟩,
   ⟨r1, {cmdW 0 [] with sq := 1}, up0, 0, 5, by decide +kernel⟩,
   ⟨r1, {cmdW 0 [] with sq := 1}, (ctx10 2 fun k => { k with drop := 0x20 }).modEng 3 (fun e => { e with queue := [vec8 1], stat := .hi }), 0, 5,
     1, by decide +kernel⟩,
   ⟨r1, cmdW 0 [], up0, 0, by decide +kernel⟩,
   ⟨r1, cmdW 0 [], up0.modTile 0 (fun t => { t with flQueue := [((1, 2), .fail 5 7 8 1 6)] }), 0, 5, 7, 8, 1, 6, (1, 2), [], by decide +kernel⟩,
   ⟨r1, cmdW 0 [], fld [(tileBase 0, APG_FL_WCNT.COUNT, 65535)] (up0.modTile 0 (fun t => { t with flQueue := [((1, 2), .fail 5 7 8 1 6)] })), 0,
     5, 7, 8, 1, 6, (1, 2), [], by decide +kernel⟩,
   ⟨r1, adm opFAILDUMP [0x100, 0, 5] [], withCmd (adm opFAILDUMP [0x100, 0, 5] []) (fld [(tileBase 0, APG_STATUS.RUN, 1)] up0), by
     decide +kernel⟩,
   ⟨r1, adm opFAILDUMP [0x100, 1, 5] [], withCmd (adm opFAILDUMP [0x100, 1, 5] []) (fld [(tileBase 0, APG_FL_WCNT.COUNT, 4)] up0), by
     decide +kernel⟩⟩

def ins10 (i : Nat) (s : State) : State := s.sramSet (apgBase 0) 16 i

def ts10 (s : State) : State := fld ((List.range 32).map fun k => (chB 3 + 0x20 * k, CHN_TS_PER.COARSE, 5)) s

def fl10 (f : Nat) (r : Nat) (st : Nat) : State := ts10 (ins10 (f * 2 ^ 124 + 2 ^ 121 + 77 * 2 ^ 109 + r) (ctx10 st fun k => { k with stack := [40], idx := [3, 2, 0, 0, 0, 0, 0, 0] }))

/-- Concrete states and operands that meet, clause by clause, the hypotheses of `Obligations.CobaltInstructionRows`. -/
theorem test_wit_CobaltInstructionRows :
    (∃ (t' : Fin 8) (x : Fin 4) (s : State), (s.getF (ctxB ↑t' ↑x) APG_CTX_STATUS.STATE ≠ 1 ∧ s.getF (ctxB ↑t' ↑x) APG_CTX_STATUS.STATE ≠ 2 ∨
      (s.ctx ↑t' ↑x).fin ≠ none ∨ ∃ c ∈ s.ctxLeaders ↑t' ↑x, 32 ≤ (s.eng c).queue.length)) ∧
    (∃ (t' : Fin 8) (x : Fin 4) (s : State) (n : Nat), (s.getF (ctxB ↑t' ↑x) APG_CTX_STATUS.STATE = 1 ∨ s.getF (ctxB ↑t' ↑x) APG_CTX_STATUS.STATE
      = 2) ∧ (s.ctx ↑t' ↑x).fin = none ∧ s.ctxLeaders ↑t' ↑x ≠ [] ∧ (∀ c ∈ s.ctxLeaders ↑t' ↑x, (s.eng c).queue.length < 32) ∧ ((s.getF
      (ctxB ↑t' ↑x) APG_CTX_STATUS.PC < s.getF (ctxB ↑t' ↑x) APG_CTX_WIN.LO ∨ s.getF (ctxB ↑t' ↑x) APG_CTX_WIN.HI < s.getF (ctxB ↑t' ↑x)
      APG_CTX_STATUS.PC) ∧ n = 5 ∨ (s.getF (ctxB ↑t' ↑x) APG_CTX_WIN.LO ≤ s.getF (ctxB ↑t' ↑x) APG_CTX_STATUS.PC ∧ s.getF (ctxB ↑t' ↑x)
      APG_CTX_STATUS.PC ≤ s.getF (ctxB ↑t' ↑x) APG_CTX_WIN.HI) ∧ (bits (s.sramN (apgBase ↑t' + 16 * s.getF (ctxB ↑t' ↑x) APG_CTX_STATUS.PC) 16)
      127 124 ≥ 10 ∨ s.sramN (apgBase ↑t' + 16 * s.getF (ctxB ↑t' ↑x) APG_CTX_STATUS.PC) 16 % 2 ^ 47 ≠ 0) ∧ n = 1 ∨ s.apgErr (↑t') (↑x) (s.sramN
      (apgBase ↑t' + 16 * s.getF (ctxB ↑t' ↑x) APG_CTX_STATUS.PC) 16) = some n) ∧ (s.getF (ctxB ↑t' ↑x) APG_CTX_STATUS.STATE = 2 ∨ s.ctxEmpty ↑t'
      ↑x = false)) ∧
    (∃ (t' : Fin 8) (x : Fin 4) (s : State) (n : Nat) (r : CmdRef) (c : Cmd), (s.getF (ctxB ↑t' ↑x) APG_CTX_STATUS.STATE = 1 ∨ s.getF
      (ctxB ↑t' ↑x) APG_CTX_STATUS.STATE = 2) ∧ (s.ctx ↑t' ↑x).fin = none ∧ s.ctxLeaders ↑t' ↑x ≠ [] ∧ (∀ c ∈ s.ctxLeaders ↑t' ↑x,
      (s.eng c).queue.length < 32) ∧ ((s.getF (ctxB ↑t' ↑x) APG_CTX_STATUS.PC < s.getF (ctxB ↑t' ↑x) APG_CTX_WIN.LO ∨ s.getF (ctxB ↑t' ↑x)
      APG_CTX_WIN.HI < s.getF (ctxB ↑t' ↑x) APG_CTX_STATUS.PC) ∧ n = 5 ∨ (s.getF (ctxB ↑t' ↑x) APG_CTX_WIN.LO ≤ s.getF (ctxB ↑t' ↑x)
      APG_CTX_STATUS.PC ∧ s.getF (ctxB ↑t' ↑x) APG_CTX_STATUS.PC ≤ s.getF (ctxB ↑t' ↑x) APG_CTX_WIN.HI) ∧ (bits (s.sramN (apgBase ↑t' + 16 *
      s.getF (ctxB ↑t' ↑x) APG_CTX_STATUS.PC) 16) 127 124 ≥ 10 ∨ s.sramN (apgBase ↑t' + 16 * s.getF (ctxB ↑t' ↑x) APG_CTX_STATUS.PC) 16 % 2 ^ 47
      ≠ 0) ∧ n = 1 ∨ s.apgErr (↑t') (↑x) (s.sramN (apgBase ↑t' + 16 * s.getF (ctxB ↑t' ↑x) APG_CTX_STATUS.PC) 16) = some n) ∧ s.getF
      (ctxB ↑t' ↑x) APG_CTX_STATUS.STATE = 1 ∧ s.ctxEmpty ↑t' ↑x = true ∧ (s.ctx ↑t' ↑x).run = some r ∧ s.cmd? r = some c) ∧
    (∃ (t' : Fin 8) (x : Fin 4) (s : State), (s.getF (ctxB ↑t' ↑x) APG_CTX_STATUS.STATE = 1 ∨ s.getF (ctxB ↑t' ↑x) APG_CTX_STATUS.STATE = 2) ∧
      (s.ctx ↑t' ↑x).fin = none ∧ s.ctxLeaders ↑t' ↑x ≠ [] ∧ (∀ c ∈ s.ctxLeaders ↑t' ↑x, (s.eng c).queue.length < 32) ∧ s.apgErr (↑t') (↑x)
      (s.sramN (apgBase ↑t' + 16 * s.getF (ctxB ↑t' ↑x) APG_CTX_STATUS.PC) 16) = none) :=
  ⟨⟨0, 1, up0, by decide +kernel⟩,
   ⟨0, 1, ins10 (2 ^ 127 + 2 ^ 125) (ctx10 2 id), 1, by decide +kernel⟩,
   ⟨0, 1, ins10 (2 ^ 127 + 2 ^ 125) (ctx10 1 id), 1, r1, run opAPGRUN [0x100, 0x20] [3], by decide +kernel⟩,
   ⟨0, 1, fl10 0 (2 ^ 105 + 2 ^ 90) 2, by decide +kernel⟩⟩

/-! Triggers and acquisition. -/

def dom11 (l : Nat) (s : State) : State := fld [(0, GLB_TRIG_CFG.LINES, l)] s

def slot11 (s : State) : State := fld [(tileBase 2 + 16, TRG_SLOT_CFG.EN, 1), (tileBase 2 + 16, TRG_SLOT_CFG.KIND, 5), (tileBase 2 + 16, TRG_SLOT_CFG.FIRST, 1), (tileBase 2, TRG_STATUS.STATE, 2)] s

/-- Concrete states and operands that meet, clause by clause, the hypotheses of `Obligations.SyncAndLineRows`. -/
theorem test_wit_SyncAndLineRows :
    (∃ (s : State) (w : Word), s.writeOk GLB_SYNC_CTRL.ARM.off = true ∧ GLB_SYNC_CTRL.APPLY.get w = 0 ∧ GLB_SYNC_CTRL.INVAL.get w = 0) ∧
    (∃ (s : State) (w : Word), s.writeOk GLB_SYNC_CTRL.ARM.off = true ∧ GLB_SYNC_CTRL.ARM.get w = 0 ∧ GLB_SYNC_CTRL.INVAL.get w = 0 ∧
      (s.mode = stREADY ∨ s.mode = stSERVICE)) ∧
    (∃ (s : State) (w : Word), s.writeOk GLB_SYNC_CTRL.ARM.off = true ∧ GLB_SYNC_CTRL.ARM.get w = 0 ∧ GLB_SYNC_CTRL.INVAL.get w = 0 ∧ s.mode ≠
      stREADY ∧ s.mode ≠ stSERVICE) ∧
    (∃ (s : State) (w : Word), s.writeOk GLB_SYNC_CTRL.ARM.off = true ∧ GLB_SYNC_CTRL.ARM.get w = 0 ∧ GLB_SYNC_CTRL.APPLY.get w = 0) ∧
    (∃ (s : State) (w : Word) (q : Fin 200), s.clocked = true ∧ s.syncArmed = true) ∧
    (∃ (s : State) (w : Word) (q : Fin 200), s.clocked = true ∧ s.syncArmed = false ∧ s.isSet 0 GLB_SYNC_STATUS.SEEN = true) ∧
    (∃ (s : State) (w : Word) (q : Fin 200), (s.clocked = false ∨ s.syncArmed = false ∧ s.isSet 0 GLB_SYNC_STATUS.SEEN = false)) ∧
    (∃ (s : State) (w : Word), s.writeOk GLB_TRIG_CTRL.PULSE.off = true ∧ (∃ n < 4, (GLB_TRIG_CTRL.PULSE.get w).testBit n = true ∧ s.lineFunc n =
      2)) ∧
    (∃ (s : State) (w : Word), s.writeOk GLB_TRIG_CTRL.PULSE.off = true ∧ (∀ n < 4, (GLB_TRIG_CTRL.PULSE.get w).testBit n = true → s.lineFunc n ≠
      2 ∧ s.lineFunc n ≠ 3)) ∧
    (∃ (s : State) (w : Word) (line : Fin 4) (rising : Bool) (q : Fin 200), s.clocked = true ∧ s.lineFunc ↑line = 1) ∧
    (∃ (s : State) (w : Word) (line : Fin 4) (rising : Bool) (q : Fin 200), (s.clocked = false ∨ s.lineFunc ↑line ≠ 1)) ∧
    (∃ (s : State) (w : Word), s.writeOk CAL_NOW_HI.SEC.off = true ∧ s.calBack ≤ s.getF 0 CAL_NOW_LO.SEC + 2 ^ 32 * BitVec.toNat w ∧ s.calTime ≤
      s.getF 0 CAL_NOW_LO.SEC + 2 ^ 32 * BitVec.toNat w) ∧
    (∃ (s : State) (w : Word), s.writeOk CAL_NOW_HI.SEC.off = true ∧ (s.getF 0 CAL_NOW_LO.SEC + 2 ^ 32 * BitVec.toNat w < s.calBack ∨ s.getF 0
      CAL_NOW_LO.SEC + 2 ^ 32 * BitVec.toNat w < s.calTime)) :=
  ⟨⟨fld [(0, GLB_SYNC_STATUS.SEEN, 1), (0, GLB_SYNC_STATUS.EXTRA, 9)] up0, 1, by decide +kernel⟩,
   ⟨{ up0 with tb := 7 }, 2, by decide +kernel⟩,
   ⟨inState 4 up0, 2, by decide +kernel⟩,
   ⟨fld [(0, GLB_SYNC_STATUS.EPH, 7), (0, GLB_STATUS.EPOCH_VALID, 1)] up0, 4, by decide +kernel⟩,
   ⟨{ up0 with syncArmed := true }, 0, 7, by decide +kernel⟩,
   ⟨fld [(0, GLB_SYNC_STATUS.SEEN, 1), (0, GLB_SYNC_STATUS.EXTRA, 255)] up0, 0, 7, by decide +kernel⟩,
   ⟨up0, 0, 7, by decide +kernel⟩,
   ⟨dom11 0x0002 { up0 with uptime := 1001, div := 1001 }, 1, by decide +kernel⟩,
   ⟨dom11 0x0001 up0, 1, by decide +kernel⟩,
   ⟨slot11 (dom11 0x0100 up0), 0, 1, true, 7, by decide +kernel⟩,
   ⟨up0, 0, 1, true, 7, by decide +kernel⟩,
   ⟨fld [(0, CAL_NOW_LO.SEC, 5)] up0, 1, by decide +kernel⟩,
   ⟨fld [(0, CAL_NOW_LO.SEC, 5)] { up0 with calBack := 2 ^ 40 }, 1, by decide +kernel⟩⟩

def o11 : Offer := { slot := 2, unit := 1, tc := 700 }

def arm11 (d : Nat) (f : Trig → Trig) : State := (fld [(tileBase 2, TRG_STATUS.STATE, 2), (tileBase 3, TRG_STATUS.STATE, 2), (tileBase 2, TRG_CTRL.DOM, d), (tileBase 3, TRG_CTRL.DOM, d), (tileBase 2, TRG_SEGREC.COUNT, 64), (tileBase 2, TRG_CAP_POST.POST, 20), (tileBase 2, TRG_CAP_LANE.EN, 1)] up0).modTrig 2 f

def hold11 (n : Nat) : State := (fld [(tileBase 2, TRG_STATUS.STATE, 3), (tileBase 2, TRG_CTRL.NSEGM1, 1), (tileBase 2, TRG_STATUS.SEGS, n)] (withCmd (run opTRIGARM [2, 5] []) up0)).modTrig 2 fun g => { g with run := some r1, segs := List.replicate n {} }

/-- Concrete states and operands that meet, clause by clause, the hypotheses of `Obligations.TriggerRows`. -/
theorem test_wit_TriggerRows :
    (∃ (x : Fin 8) (s : State), (s.getF (tileBase ↑x) TRG_STATUS.STATE ≠ 2 ∨ (s.trig ↑x).offers = [])) ∧
    (∃ (x : Fin 8) (s : State) (o : Offer), s.getF (tileBase ↑x) TRG_STATUS.STATE = 2 ∧ o ∈ (s.trig ↑x).offers ∧ o.slot < 8 ∧ (∀ p ∈
      (s.trig ↑x).offers, p = o ∨ o.slot < p.slot)) ∧
    (∃ (x : Fin 8) (s : State) (line : Fin 4) (q : Fin 200), s.clocked = true ∧ ↑line % 2 = 1 ∧ s.domLines (↑line / 2 + 1) = true ∧ s.pulsing
      ↑line = false) ∧
    (∃ (x : Fin 8) (s : State) (line : Fin 4) (q : Fin 200), (s.clocked = false ∨ ↑line % 2 = 0 ∨ s.domLines (↑line / 2 + 1) = false ∨ s.pulsing
      ↑line = true)) ∧
    (∃ (x : Fin 8) (s : State), s.getF (tileBase ↑x) TRG_STATUS.STATE = 3 ∧ (s.trig ↑x).cur = none ∧ (s.isSet (tileBase ↑x) TRG_CTRL.HMODE =
      false ∨ (s.trig ↑x).hold = 0) ∧ (s.trig ↑x).segs.length < s.nseg ↑x) ∧
    (∃ (x : Fin 8) (s : State) (r : CmdRef) (k : Cmd), s.getF (tileBase ↑x) TRG_STATUS.STATE = 3 ∧ (s.trig ↑x).cur = none ∧ (s.isSet
      (tileBase ↑x) TRG_CTRL.HMODE = false ∨ (s.trig ↑x).hold = 0) ∧ s.nseg ↑x ≤ (s.trig ↑x).segs.length ∧ (s.trig ↑x).run = some r ∧ s.cmd? r =
      some k ∧ (s.trig ↑x).arm = false) ∧
    (∃ (x : Fin 8) (s : State), (s.getF (tileBase ↑x) TRG_STATUS.STATE ≠ 3 ∨ (s.trig ↑x).cur ≠ none ∨ s.isSet (tileBase ↑x) TRG_CTRL.HMODE = true
      ∧ (s.trig ↑x).hold ≠ 0)) ∧
    (∃ (x : Fin 8) (s : State) (r : CmdRef) (k : Cmd), (s.trig ↑x).run = some r ∧ s.cmd? r = some k ∧ k.p 4 = 0) ∧
    (∃ (x : Fin 8) (s : State) (r : CmdRef) (k : Cmd), (s.trig ↑x).run = some r ∧ s.cmd? r = some k ∧ k.p 4 ≠ 0 ∧ s.trigBusy ↑x = true ∧
      (s.trig ↑x).arm = false) ∧
    (∃ (x : Fin 8) (s : State) (w : Word), s.writeOk (tileBase ↑x + TIL_CAP_PART.RQSZ.off) = true ∧ 1 ≤ TIL_CAP_PART.RQSZ.get w ∧
      TIL_CAP_PART.RQSZ.get w ≤ 16 ∧ TIL_CAP_PART.STBSZ.get w ≤ 16 ∧ TIL_CAP_PART.RQSZ.get w + TIL_CAP_PART.STBSZ.get w ≤ 28 ∧ s.isSet
      (tileBase ↑x) TIL_RQ_CTRL.EN = false ∧ s.getF (tileBase ↑x) TIL_RQ_LEVEL.COUNT = 0 ∧ s.isSet (tileBase ↑x) TIL_STB_CTRL.EN = false ∧
      s.trigBusy ↑x = false) ∧
    (∃ (x : Fin 8) (s : State) (w : Word), s.writeOk (tileBase ↑x + TIL_CAP_PART.RQSZ.off) = true ∧ (TIL_CAP_PART.RQSZ.get w = 0 ∨ 16 <
      TIL_CAP_PART.RQSZ.get w ∨ 16 < TIL_CAP_PART.STBSZ.get w ∨ 28 < TIL_CAP_PART.RQSZ.get w + TIL_CAP_PART.STBSZ.get w ∨ s.isSet (tileBase ↑x)
      TIL_RQ_CTRL.EN = true ∨ s.getF (tileBase ↑x) TIL_RQ_LEVEL.COUNT ≠ 0 ∨ s.isSet (tileBase ↑x) TIL_STB_CTRL.EN = true ∨ s.trigBusy ↑x = true))
      ∧
    (∃ (x : Fin 8) (s : State) (cmd : CmdRef) (k : Cmd), s.ready? cmd opTRIGARM = some k ∧ k.pf 0 2 0 = ↑x ∧ s.trigBusy ↑x = true) ∧
    (∃ (x : Fin 8) (s : State) (cmd : CmdRef) (k : Cmd), s.ready? cmd opTRIGARM = some k ∧ k.pf 0 2 0 = ↑x ∧ s.trigBusy ↑x = false ∧ s.segRec ↑x
      < s.post ↑x) ∧
    (∃ (x : Fin 8) (s : State) (cmd : CmdRef) (k : Cmd), s.ready? cmd opTRIGARM = some k ∧ k.pf 0 2 0 = ↑x ∧ s.trigBusy ↑x = false ∧
      (s.trig ↑x).arm = false ∧ s.post ↑x ≤ s.segRec ↑x) :=
  ⟨⟨2, up0, by decide +kernel⟩,
   ⟨2, arm11 1 fun g => { g with offers := [o11], wr := 50 }, o11, by decide +kernel⟩,
   ⟨2, dom11 0x0303 (arm11 1 id), 1, 9, by decide +kernel⟩,
   ⟨2, up0, 1, 9, by decide +kernel⟩,
   ⟨2, hold11 1, by decide +kernel⟩,
   ⟨2, hold11 2, r1, run opTRIGARM [2, 5] [], by decide +kernel⟩,
   ⟨2, up0, by decide +kernel⟩,
   ⟨2, withCmd (run opTRIGARM [2, 0] []) (up0.modTrig 2 fun g => { g with run := some r1 }), r1, run opTRIGARM [2, 0] [], by decide +kernel⟩,
   ⟨2, hold11 1, r1, run opTRIGARM [2, 5] [], by decide +kernel⟩,
   ⟨2, fld [(tileBase 2, TRG_STATUS.SEGS, 2)] up0, 0x0203, by decide +kernel⟩,
   ⟨2, up0, 0x0200, by decide +kernel⟩,
   ⟨2, withCmd (adm opTRIGARM [2, 0] []) (arm11 0 id), r1, adm opTRIGARM [2, 0] [], by decide +kernel⟩,
   ⟨2, withCmd (adm opTRIGARM [2, 0] []) (fld [(tileBase 2, TRG_CAP_POST.POST, 0x7FFFF), (tileBase 2, TRG_SEGREC.COUNT, 64)] up0), r1, adm
     opTRIGARM [2, 0] [], by decide +kernel⟩,
   ⟨2, withCmd (adm opTRIGARM [2, 0] []) (fld [(tileBase 2, TRG_CTRL.MASTER, 1), (tileBase 2, TRG_CTRL.DOM, 1),
     (tileBase 2, TRG_CAP_POST.POST, 6), (tileBase 2, TRG_SEGREC.COUNT, 64), (tileBase 3, TRG_CTRL.DOM, 1), (tileBase 3, TRG_STATUS.STATE, 1)]
     up0), r1, adm opTRIGARM [2, 0] [], by decide +kernel⟩⟩

/-! Calibration and self-test. -/

def an12 (n : Nat) : Cmd := run opANCHOR [0, 0, 0, 0, 0, 0, 0, 0, 0, 0, 0, n] []

def ana (n : Nat) : Cmd := adm opANCHOR [0, 0, 0, 0, 0, 0, 0, 0, 0, 0, 0, n] []

def rd12 (p : List Nat) : Cmd := { adm opCALREAD p [] with words := desc 64 0x2000 p }

def anc12 (st n : Nat) : State := { withCmd (an12 n) (fld [(0, CAL_STATUS.ANCHOR_RUN, 1)] up0) with anchor := { run := some r1, step := st, block := List.replicate 11 0 ++ [BitVec.ofNat 32 n], change := 7 } }

/-- Concrete states and operands that meet, clause by clause, the hypotheses of `Obligations.CalibrationCommandRows`. -/
theorem test_wit_CalibrationCommandRows :
    (∃ (cmd : CmdRef) (k : Cmd) (s : State), s.ready? cmd opANCHOR = some k ∧ (s.isSet 0 CAL_STATUS.ANCHOR_RUN = true ∨ s.isSet 0
      CAL_STATUS.ANCHOR_STAGED = true ∨ s.isSet 0 CAL_STATUS.TIME_SET = false ∨ s.activeShades = [])) ∧
    (∃ (cmd : CmdRef) (k : Cmd) (s : State), s.ready? cmd opANCHOR = some k ∧ s.isSet 0 CAL_STATUS.ANCHOR_RUN = false ∧ s.isSet 0
      CAL_STATUS.ANCHOR_STAGED = false ∧ s.isSet 0 CAL_STATUS.TIME_SET = true ∧ s.activeShades ≠ []) ∧
    (∃ (cmd : CmdRef) (k : Cmd) (s : State), s.ready? cmd opCOMMIT = some k ∧ k.pf 0 1 0 = 0 ∧ s.anyStaged = false) ∧
    (∃ (cmd : CmdRef) (k : Cmd) (s : State), s.ready? cmd opCOMMIT = some k ∧ k.pf 0 1 0 = 0 ∧ s.anyStaged = true) ∧
    (∃ (cmd : CmdRef) (k : Cmd) (s : State), s.ready? cmd opCOMMIT = some k ∧ k.pf 0 1 0 = 1) ∧
    (∃ (cmd : CmdRef) (k : Cmd) (s : State), s.ready? cmd opCOMMIT = some k ∧ k.pf 0 1 0 = 2) ∧
    (∃ (cmd : CmdRef) (k : Cmd) (s : State) (sel : Nat) (unit : Nat) (full : List Byte), s.ready? cmd opCALREAD = some k ∧ sel = k.pf 0 7 0 ∧
      unit = k.pf 0 26 16 ∧ (sel = 0 ∧ full = s.feRecord unit ∨ (sel = 1 ∧ full = if (s.stagedUnits.any fun e => e.1 == unit) = true then memRead
      sramReset s.sram (calStage + feRec unit) 768 else leBytes 768 0) ∨ sel = 2 ∧ (s.tim unit).hist ≠ [] ∧ full = List.flatMap (fun q => leBytes
      4 ((s.tim unit).hist.getD q 0)) (List.range 200) ∨ sel = 4 ∧ full = memRead flashReset s.flash (12582912 + 1048576 * k.p 4) recEnd ∨ 5 ≤
      sel ∧ full = if s.isSet 0 CAL_STATUS.ANCHOR_STAGED = true then leBytes 8 s.anchor.mref ++ leBytes 4 s.anchor.change ++ leBytes 4
      s.anchor.passed else leBytes 16 0)) ∧
    (∃ (cmd : CmdRef) (k : Cmd) (s : State), s.ready? cmd opCALREAD = some k ∧ (k.pf 0 7 0 = 3 ∨ k.pf 0 7 0 = 2 ∧ (s.tim (k.pf 0 26 16)).hist =
      [])) ∧
    (∃ (cmd : CmdRef) (k : Cmd) (s : State) (inp : AnchorIn), s.isSet 0 CAL_STATUS.ANCHOR_RUN = true ∧ 4 ≤ s.anchor.step ∧ s.anchor.step ≤ 6) ∧
    (∃ (cmd : CmdRef) (k : Cmd) (s : State) (r : CmdRef), s.isSet 0 CAL_STATUS.ANCHOR_RUN = true ∧ s.anchor.block.getD 11 0 ≠ 0 ∧ s.anchor.run =
      some r ∧ s.cmd? r = some k) ∧
    (∃ (cmd : CmdRef) (k : Cmd) (s : State) (x : Fin 8) (rows : List (Fin 4 × CalRow)) (tresH : List (Fin 4 × BitVec 64)) (tresL : List
      (Fin 4 × BitVec 64)), s.isSet (↑x * 16) CAL_TILE_ROT.XFER = true ∧ s.mode ≠ stSAFE ∧ ((s.tile ↑x).xferStep = 2 ∨ (s.tile ↑x).xferStep = 3))
      ∧
    (∃ (cmd : CmdRef) (k : Cmd) (s : State), s.calDirty = true ∧ s.isSet 0 CAL_STATUS.ARCH_BUSY = false) ∧
    (∃ (cmd : CmdRef) (k : Cmd) (s : State), s.isSet 0 CAL_STATUS.ARCH_BUSY = true ∧ s.archNow = [] ∧ s.archNext = none) :=
  ⟨⟨r1, ana 5, withCmd (ana 5) up0, by decide +kernel⟩,
   ⟨r1, ana 5, withCmd (ana 5) (fld [(0, CAL_STATUS.TIME_SET, 1)] up0), by decide +kernel⟩,
   ⟨r1, adm opCOMMIT [0] [], withCmd (adm opCOMMIT [0] []) up0, by decide +kernel⟩,
   ⟨r1, adm opCOMMIT [0] [], withCmd (adm opCOMMIT [0] []) { up0 with stagedTiles := [2] }, by decide +kernel⟩,
   ⟨r1, adm opCOMMIT [1] [], withCmd (adm opCOMMIT [1] []) ({ up0 with stagedTiles := [2] }.sramSet (calStage + 8) 1 7), by decide +kernel⟩,
   ⟨r1, adm opCOMMIT [2] [], withCmd (adm opCOMMIT [2] []) up0, by decide +kernel⟩,
   ⟨r1, rd12 [0x30000, 0, 4, 8], withCmd (rd12 [0x30000, 0, 4, 8]) up0, 0, 3, (withCmd (rd12 [0x30000, 0, 4, 8]) up0).feRecord 3, by
     decide +kernel⟩,
   ⟨r1, rd12 [0x30003, 0, 4, 8], withCmd (rd12 [0x30003, 0, 4, 8]) up0, by decide +kernel⟩,
   ⟨r1, an12 5, anc12 4 5, {}, by decide +kernel⟩,
   ⟨r1, an12 5, anc12 4 5, r1, by decide +kernel⟩,
   ⟨r1, an12 5, (fld [(0x20, CAL_TILE_ROT.XFER, 1)] up0).modTile 2 (fun t => { t with xferStep := 2 }), 2, [], [], [], by decide +kernel⟩,
   ⟨r1, an12 5, { up0 with calDirty := true }, by decide +kernel⟩,
   ⟨r1, an12 5, fld [(0, CAL_STATUS.ARCH_BUSY, 1)] { up0 with calDirty := true }, by decide +kernel⟩⟩

def an0 : Cmd := { an12 5 with words := desc 0 0 [0, 0, 0, 0, 0, 0, 0, 0, 0, 0, 0, 5] }

def anc0 : State := { withCmd an0 (fld [(0, CAL_STATUS.ANCHOR_RUN, 1)] up0) with anchor := { run := some r1, step := 7, change := 7 } }

def xf12 (st : Nat) : State := (fld [(0x20, CAL_TILE_ROT.XFER, 1)] up0).modTile 2 (fun t => { t with xferStep := st, xferStart := 77, xferTemp := 0x2030 })

def com12 : State := withCmd (run opCOMMIT [0] []) { up0 with commitPend := true, commitCmds := [r1] }

def ar12 : State := withCmd (run opCOMMIT [2] []) (fld [(0, CAL_STATUS.ARCH_BUSY, 1)] { up0 with calDirty := true, archNow := [r1], archNext := some [] })

/-- Concrete states and operands that meet, clause by clause, the hypotheses of `Obligations.CalibrationEventRows`. -/
theorem test_wit_CalibrationEventRows :
    (∃ (s : State) (n : Nat) (inp : AnchorIn) (t' : Fin 8), s.isSet 0 CAL_STATUS.ANCHOR_RUN = false) ∧
    (∃ (s : State) (n : Nat) (inp : AnchorIn) (t' : Fin 8) (v : Int), v = signed 64 (BitVec.toNat (s.anchor.block.getD 0 0) + BitVec.toNat
      (s.anchor.block.getD 1 0) * 2 ^ 32) ∧ inp.vx < -100000000) ∧
    (∃ (s : State) (n : Nat) (inp : AnchorIn) (t' : Fin 8) (v : Int), v = signed 64 (BitVec.toNat (s.anchor.block.getD 0 0) + BitVec.toNat
      (s.anchor.block.getD 1 0) * 2 ^ 32) ∧ 0 ≤ v ∧ v = inp.vx ∧ 0 ≤ inp.senseA ∧ inp.senseA ≤ inp.forceA ∧ 0 ≤ inp.senseB ∧ inp.senseB ≤
      inp.forceB ∧ inp.senseA * 10 = ((BitVec.toNat (s.anchor.block.getD 2 0) + BitVec.toNat (s.anchor.block.getD 3 0) * 2 ^ 32) : Nat) ∧
      inp.senseB = ((BitVec.toNat (s.anchor.block.getD 4 0) + BitVec.toNat (s.anchor.block.getD 5 0) * 2 ^ 32) : Nat)) ∧
    (∃ (s : State) (inp : AnchorIn) (t' : Fin 8), s.isSet 0 CAL_STATUS.ANCHOR_RUN = true ∧ (s.anchor.step = 1 ∨ s.anchor.step = 2 ∧
      s.standardFaults inp = [] ∨ 4 ≤ s.anchor.step ∧ s.anchor.step ≤ 6)) ∧
    (∃ (s : State) (n : Nat) (inp : AnchorIn) (t' : Fin 8) (r : CmdRef) (k : Cmd), s.isSet 0 CAL_STATUS.ANCHOR_RUN = true ∧ s.anchor.step = 2 ∧
      s.anchor.run = some r ∧ s.cmd? r = some k ∧ s.standardFaults inp ≠ [] ∧ (∀ e ∈ s.standardFaults inp, (s.inst
      (instKey e.1 scMODULE 0)).force = false ∧ s.getF (4 * e.1) FLT_CLASS.LEVEL = 0)) ∧
    (∃ (s : State) (n : Nat) (inp : AnchorIn) (t' : Fin 8), s.isSet 0 CAL_STATUS.ANCHOR_RUN = true ∧ s.anchor.step = 3) ∧
    (∃ (s : State) (n : Nat) (inp : AnchorIn) (t' : Fin 8) (r : CmdRef) (k : Cmd), s.isSet 0 CAL_STATUS.ANCHOR_RUN = true ∧ s.anchor.step = 7 ∧
      inp.rows = [] ∧ inp.tres = [] ∧ s.anchor.run = some r ∧ s.cmd? r = some k ∧ k.raddr = 0) ∧
    (∃ (s : State) (n : Nat) (inp : AnchorIn) (t' : Fin 8) (r : CmdRef) (k : Cmd), s.isSet 0 CAL_STATUS.ANCHOR_RUN = true ∧ s.anchor.block.getD
      11 0 ≠ 0 ∧ s.anchor.run = some r ∧ s.cmd? r = some k) ∧
    (∃ (s : State) (n : Nat) (inp : AnchorIn) (t' : Fin 8), s.anchor.block.getD 11 0 = 0) ∧
    (∃ (s : State) (n : Nat) (inp : AnchorIn) (t' : Fin 8) (rows : List (Fin 4 × CalRow)) (tresH : List (Fin 4 × BitVec 64)) (tresL : List
      (Fin 4 × BitVec 64)), (s.isSet (↑t' * 16) CAL_TILE_ROT.XFER = false ∨ s.mode = stSAFE ∨ (s.tile ↑t').xferStep = 1 ∧ s.getF (↑t' * 16)
      CAL_TILE_ROT.ROT ≠ 0)) ∧
    (∃ (s : State) (inp : AnchorIn) (t' : Fin 8) (rows : List (Fin 4 × CalRow)) (tresH : List (Fin 4 × BitVec 64)) (tresL : List
      (Fin 4 × BitVec 64)) (h : Nat) (l : Nat), s.isSet (↑t' * 16) CAL_TILE_ROT.XFER = true ∧ s.mode ≠ stSAFE ∧ (s.tile ↑t').xferStep < 4 ∧
      ((s.tile ↑t').xferStep = 1 → s.getF (↑t' * 16) CAL_TILE_ROT.ROT = 0)) ∧
    (∃ (s : State) (n : Nat) (inp : AnchorIn) (t' : Fin 8) (rows : List (Fin 4 × CalRow)) (tresH : List (Fin 4 × BitVec 64)) (tresL : List
      (Fin 4 × BitVec 64)) (h : Nat) (l : Nat), s.isSet (↑t' * 16) CAL_TILE_ROT.XFER = true ∧ s.mode ≠ stSAFE ∧ n = (s.tile ↑t').xferStep ∧ n = 4
      ∧ rows = [] ∧ (tresH = [] ∧ tresL = [] ∧ h = s.cal (tileRec ↑t' + 16) 8 ∧ l = s.cal (tileRec ↑t' + 24) 8 ∨ ∃ k x y, tresH = [(k, x)] ∧
      tresL = [(k, y)] ∧ s.shadeState (4 * ↑t' + ↑k) = 0 ∧ s.underTest (1024 + 4 * ↑t' + ↑k) = false ∧ h = x.toNat ∧ l = y.toNat)) ∧
    (∃ (s : State) (inp : AnchorIn) (t' : Fin 8) (rows : List (Fin 4 × CalRow)) (tresH : List (Fin 4 × BitVec 64)) (tresL : List
      (Fin 4 × BitVec 64)) (h : Nat) (l : Nat), s.isSet (↑t' * 16) CAL_TILE_ROT.XFER = true ∧ s.mode ≠ stSAFE ∧ 5 ≤ (s.tile ↑t').xferStep) ∧
    (∃ (s : State) (n : Nat) (inp : AnchorIn) (t' : Fin 8), s.commitPend = false) ∧
    (∃ (s : State) (n : Nat) (inp : AnchorIn) (t' : Fin 8) (r : CmdRef) (k : Cmd), s.commitPend = true ∧ s.anyStaged = false ∧ s.commitCmds = [r]
      ∧ s.cmd? r = some k) ∧
    (∃ (s : State) (n : Nat) (inp : AnchorIn) (t' : Fin 8), s.commitPend = true ∧ s.anyStaged = true ∧ s.isSet 0 CAL_STATUS.ANCHOR_STAGED = false
      ∧ s.timingNew = [] ∧ (∀ e ∈ s.stagedUnits, e.1 < 1056) ∧ (∀ x ∈ s.stagedTiles, x < 8)) ∧
    (∃ (s : State) (n : Nat) (inp : AnchorIn) (t' : Fin 8) (u : Nat) (x : Timing), s.commitPend = true ∧ s.anyStaged = true ∧ s.isSet 0
      CAL_STATUS.ANCHOR_STAGED = false ∧ s.timingNew = [(u, x)]) ∧
    (∃ (s : State) (n : Nat) (inp : AnchorIn) (t' : Fin 8), s.commitPend = true ∧ s.isSet 0 CAL_STATUS.ANCHOR_STAGED = true ∧ s.anchor.tol = [] ∧
      s.isSet 0 CAL_STATUS.ARCH_BUSY = false ∧ s.timingNew = [] ∧ s.anchor.mref < 2 ^ 64 ∧ s.calTime < 2 ^ 64) ∧
    (∃ (s : State) (n : Nat) (inp : AnchorIn) (t' : Fin 8), s.calDirty = true ∧ s.isSet 0 CAL_STATUS.ARCH_BUSY = false) ∧
    (∃ (s : State) (n : Nat) (inp : AnchorIn) (t' : Fin 8), (s.calDirty = false ∨ s.isSet 0 CAL_STATUS.ARCH_BUSY = true)) ∧
    (∃ (s : State) (n : Nat) (inp : AnchorIn) (t' : Fin 8) (ok : Bool), s.isSet 0 CAL_STATUS.ARCH_BUSY = false) ∧
    (∃ (s : State) (n : Nat) (inp : AnchorIn) (t' : Fin 8) (ok : Bool) (r : CmdRef) (k : Cmd), s.isSet 0 CAL_STATUS.ARCH_BUSY = true ∧ s.archNow
      = [r] ∧ s.cmd? r = some k) :=
  ⟨⟨up0, 0, {}, 2, by decide +kernel⟩,
   ⟨up0, 0, { vx := -200000000 }, 2, 0, by decide +kernel⟩,
   ⟨up0, 0, {}, 2, 0, by decide +kernel⟩,
   ⟨anc12 1 5, {}, 2, by decide +kernel⟩,
   ⟨fld [(4 * 5, FLT_CLASS.LEVEL, 0)] (anc12 2 5), 0, { vx := -200000000 }, 2, r1, an12 5, by decide +kernel⟩,
   ⟨anc12 3 5, 0, { ratios := [(2, 5, 7)] }, 2, by decide +kernel⟩,
   ⟨anc0, 0, {}, 2, r1, an0, by decide +kernel⟩,
   ⟨anc12 4 5, 0, {}, 2, r1, an12 5, by decide +kernel⟩,
   ⟨anc12 4 0, 0, {}, 2, by decide +kernel⟩,
   ⟨up0, 0, {}, 2, [], [], [], by decide +kernel⟩,
   ⟨xf12 1, {}, 2, [], [], [], 0, 0, by decide +kernel⟩,
   ⟨xf12 4, 4, {}, 2, [], [], [], (xf12 4).cal (tileRec 2 + 16) 8, (xf12 4).cal (tileRec 2 + 24) 8, by decide +kernel, by decide +kernel, by
     decide +kernel, by decide +kernel, by decide +kernel, .inl (by decide +kernel)⟩,
   ⟨xf12 5, {}, 2, [], [], [], 0, 0, by decide +kernel⟩,
   ⟨up0, 0, {}, 2, by decide +kernel⟩,
   ⟨com12, 0, {}, 2, r1, run opCOMMIT [0] [], by decide +kernel⟩,
   ⟨{ com12 with stagedTiles := [2], stagedXfer := 4, stagedUnits := [(3, none), (1030, some 5)] }, 0, {}, 2, by decide +kernel⟩,
   ⟨{ com12 with timingNew := [(3, { drv := 7 })] }, 0, {}, 2, 3, { drv := 7 }, by decide +kernel⟩,
   ⟨fld [(0, CAL_STATUS.ANCHOR_STAGED, 1)] { com12 with anchor := { step := 8, mref := 12345678901, passed := 1, change := 7 } }, 0, {}, 2, by
     decide +kernel⟩,
   ⟨{ up0 with calDirty := true }, 0, {}, 2, by decide +kernel⟩,
   ⟨up0, 0, {}, 2, by decide +kernel⟩,
   ⟨up0, 0, {}, 2, true, by decide +kernel⟩,
   ⟨ar12, 0, {}, 2, true, r1, run opCOMMIT [2] [], by decide +kernel⟩⟩

def rot12 (r : Rot) (s : State) : State := { s with rots := [(2, r)] }

def row12 (n : Nat) (l : List CalChange) : CalRow := ⟨List.replicate n 5, l⟩

def rr12 (p : List Nat) (l : List Nat) : Cmd := adm opROTATE p l

def sus12 : State := fld [(0, CAL_TILE_SHD.STATE, 0x10)] up0

/-- Concrete states and operands that meet, clause by clause, the hypotheses of `Obligations.RotateCommandRows`. -/
theorem test_wit_RotateCommandRows :
    (∃ (cmd : CmdRef) (k : Cmd) (s : State), s.ready? cmd opROTATE = some k ∧ k.pf 0 2 0 = 0 ∧ s.mode = stSERVICE) ∧
    (∃ (cmd : CmdRef) (k : Cmd) (s : State), s.ready? cmd opROTATE = some k ∧ k.pf 0 2 0 = 0 ∧ s.mode ≠ stSERVICE ∧ (∀ x ∈ bitsSet 8
      (k.pf 0 15 8), ∃ l < 128, s.isSet (4 * (x * 128 + l)) CAL_FE_STATE.OWED = false ∧ s.isSet (feB (x * 128 + l)) CHN_FE_STATUS.REMAPPED =
      false) ∧ bitsSet 8 (k.pf 0 15 8) ≠ []) ∧
    (∃ (cmd : CmdRef) (k : Cmd) (s : State), s.ready? cmd opROTATE = some k ∧ k.pf 0 2 0 = 1 ∧ s.mode = stSERVICE) ∧
    (∃ (cmd : CmdRef) (k : Cmd) (s : State), s.ready? cmd opROTATE = some k ∧ k.pf 0 2 0 = 1 ∧ s.mode ≠ stSERVICE ∧ (∀ c ∈ k.chans, s.faultHolds
      c = false ∧ c < 1024)) ∧
    (∃ (cmd : CmdRef) (k : Cmd) (s : State) (row : CalRow), s.ready? cmd opROTATE = some k ∧ k.pf 0 2 0 = 2 ∧ s.shadeState (k.pf 0 20 16) ≠ 1) ∧
    (∃ (cmd : CmdRef) (k : Cmd) (s : State) (row : CalRow) (term : Nat), s.ready? cmd opROTATE = some k ∧ k.pf 0 2 0 = 2 ∧ s.shadeState
      (k.pf 0 20 16) = 1 ∧ row.fail = some term ∧ (s.inst (instKey 13 scSHADE (k.pf 0 20 16))).force = false ∧ s.getF (4 * 13) FLT_CLASS.LEVEL =
      0) ∧
    (∃ (cmd : CmdRef) (k : Cmd) (s : State) (row : CalRow), s.ready? cmd opROTATE = some k ∧ k.pf 0 2 0 = 2 ∧ s.shadeState (k.pf 0 20 16) = 1 ∧
      row.fail = none ∧ row.data.length = 704) ∧
    (∃ (cmd : CmdRef) (k : Cmd) (s : State) (c : Nat) (cs : List Nat) (e : Ending), s.ready? cmd opROTATE = some k ∧ k.pf 0 2 0 = 3 ∧ k.chans = c
      :: cs ∧ s.remapCheck cmd c = some e) ∧
    (∃ (cmd : CmdRef) (k : Cmd) (s : State) (c : Nat) (cs : List Nat), s.ready? cmd opROTATE = some k ∧ k.pf 0 2 0 = 3 ∧ k.chans = c :: cs ∧ c <
      1024 ∧ s.remapCheck cmd c = none ∧ (s.fe c).contact = none) ∧
    (∃ (cmd : CmdRef) (k : Cmd) (s : State) (c : Nat) (cs : List Nat), s.ready? cmd opROTATE = some k ∧ k.pf 0 2 0 = 4 ∧ k.chans = c :: cs ∧
      (s.isSet (feB c) CHN_FE_STATUS.REMAPPED = false ∨ s.feOn (s.phys c) = true ∨ s.otherFor cmd c = true)) ∧
    (∃ (cmd : CmdRef) (k : Cmd) (s : State) (c : Nat) (cs : List Nat), s.ready? cmd opROTATE = some k ∧ k.pf 0 2 0 = 4 ∧ k.chans = c :: cs ∧ c <
      1024 ∧ s.isSet (feB c) CHN_FE_STATUS.REMAPPED = true ∧ s.feOn (s.phys c) = false ∧ s.otherFor cmd c = false ∧ (s.fe c).contact = none) :=
  ⟨⟨r1, rr12 [0xFF00] [], inState stSERVICE (withCmd (rr12 [0xFF00] []) up0), by decide +kernel⟩,
   ⟨r1, rr12 [0x0300] [], withCmd (rr12 [0x0300] []) (fld [(4 * 5, CAL_FE_STATE.OWED, 0), (4 * 133, CAL_FE_STATE.OWED, 0)] up0), by
     decide +kernel⟩,
   ⟨r1, rr12 [1, 1, 8] [3], inState stSERVICE (withCmd (rr12 [1, 1, 8] [3]) up0), by decide +kernel⟩,
   ⟨r1, rr12 [1, 1, 8] [3], withCmd (rr12 [1, 1, 8] [3]) (up0.setInst (instKey 1 1 3) { force := true, level := 1 }), by decide +kernel⟩,
   ⟨r1, rr12 [0x20002] [], withCmd (rr12 [0x20002] []) up0, row12 3 [], by decide +kernel⟩,
   ⟨r1, rr12 [0x20002] [], fld [(4 * 0x0D, FLT_CLASS.LEVEL, 0)] (withCmd (rr12 [0x20002] []) sus12), row12 704 [⟨3, 0, 9000000000⟩], 3, by
     decide +kernel⟩,
   ⟨r1, rr12 [0x20002] [], withCmd (rr12 [0x20002] []) sus12, row12 704 [], by decide +kernel⟩,
   ⟨r1, rr12 [3, 1, 8] [3], withCmd (rr12 [3, 1, 8] [3]) (fld [(feB 3, CHN_FE_STATUS.EN, 1)] up0), 3, [], { status := scSTATE, detail := 2 }, by
     decide +kernel⟩,
   ⟨r1, rr12 [3, 1, 8] [3], withCmd (rr12 [3, 1, 8] [3]) up0, 3, [], by decide +kernel⟩,
   ⟨r1, rr12 [4, 1, 8] [3], withCmd (rr12 [4, 1, 8] [3]) up0, 3, [], by decide +kernel⟩,
   ⟨r1, rr12 [4, 1, 8] [3], withCmd (rr12 [4, 1, 8] [3]) (fld [(0, CAL_REMAP.VALID, 1), (0, CAL_REMAP.LOCAL, 3),
     (feB 3, CHN_FE_STATUS.REMAPPED, 1)] up0), 3, [], by decide +kernel⟩⟩

/-- Concrete states and operands that meet, clause by clause, the hypotheses of `Obligations.RotationRows`. -/
theorem test_wit_RotationRows :
    (∃ (nn : Fin 32) (s : State) (t'' : Fin 8), s.isSet 0 CAL_CTRL.ROT_EN = true ∧ (s.mode = stREADY ∨ s.mode = stACTIVE) ∧ s.isSet (↑t'' * 16)
      CAL_TILE_ROT.PASS = false) ∧
    (∃ (nn : Fin 32) (s : State) (t'' : Fin 8), (s.isSet 0 CAL_CTRL.ROT_EN = false ∨ s.mode ≠ stREADY ∧ s.mode ≠ stACTIVE ∨ s.isSet (↑t'' * 16)
      CAL_TILE_ROT.PASS = true)) ∧
    (∃ (nn : Fin 32) (s : State), ((s.rot ↑nn).active = true ∨ s.rotAllowed (↑nn / 4) = false)) ∧
    (∃ (nn : Fin 32) (s : State) (i : Nat) (c : Nat), (s.rot ↑nn).active = false ∧ s.rotAllowed (↑nn / 4) = true ∧ i < 32 ∧ c = ↑nn / 4 * 128 +
      ↑nn % 4 * 32 + i ∧ s.eligible c = true ∧ s.isSet (4 * c) CAL_FE_STATE.OWED = true ∧ s.isSet 0 CAL_CTRL.ROT_EN = true ∧ (∀ j < i, s.isSet (4
      * (↑nn / 4 * 128 + ↑nn % 4 * 32 + j)) CAL_FE_STATE.OWED = false)) ∧
    (∃ (nn : Fin 32) (s : State) (row : CalRow), ((s.rot ↑nn).active = false ∨ 7 ≤ (s.rot ↑nn).step)) ∧
    (∃ (nn : Fin 32) (s : State) (row : CalRow), (s.rot ↑nn).active = true ∧ (s.rot ↑nn).direct = true ∧ (s.rot ↑nn).step = 0) ∧
    (∃ (nn : Fin 32) (s : State) (row : CalRow), (s.rot ↑nn).active = true ∧ (s.rot ↑nn).direct = false ∧ (s.rot ↑nn).step = 0 ∧ (s.adc
      (s.rot ↑nn).chan).conv ≠ none) ∧
    (∃ (nn : Fin 32) (s : State) (row : CalRow), (s.rot ↑nn).active = true ∧ (s.rot ↑nn).direct = false ∧ (s.rot ↑nn).step = 0 ∧ (s.adc
      (s.rot ↑nn).chan).conv = none ∧ (s.rot ↑nn).chan < 1024 ∧ (s.fe (1024 + ↑nn)).contact = none ∧ (s.fe (s.rot ↑nn).chan).contact = none) ∧
    (∃ (nn : Fin 32) (s : State) (row : CalRow), (s.rot ↑nn).active = true ∧ (s.rot ↑nn).direct = false ∧ (s.rot ↑nn).step = 1 ∧ (s.fe
      (1024 + ↑nn)).contact = none) ∧
    (∃ (nn : Fin 32) (s : State) (row : CalRow), (s.rot ↑nn).active = true ∧ (s.rot ↑nn).direct = false ∧ ((s.rot ↑nn).step = 2 ∨
      (s.rot ↑nn).step = 3 ∨ (s.rot ↑nn).step = 5)) ∧
    (∃ (nn : Fin 32) (s : State) (row : CalRow), (s.rot ↑nn).active = true ∧ (s.rot ↑nn).direct = false ∧ (s.rot ↑nn).step = 4 ∧ row.fail ≠ none)
      ∧
    (∃ (nn : Fin 32) (s : State) (row : CalRow), (s.rot ↑nn).active = true ∧ (s.rot ↑nn).direct = false ∧ (s.rot ↑nn).step = 4 ∧ row.fail = none
      ∧ row.data.length = 704 ∧ (s.rot ↑nn).chan < 1024) ∧
    (∃ (nn : Fin 32) (s : State) (row : CalRow), (s.rot ↑nn).active = true ∧ (s.rot ↑nn).direct = false ∧ (s.rot ↑nn).step = 6 ∧ (s.fe
      (1024 + ↑nn)).contact = none) ∧
    (∃ (nn : Fin 32) (s : State) (row : CalRow) (i : Instr), (s.rot ↑nn).active = true ∧ (s.rot ↑nn).chan < 1024 ∧ row.fail = none ∧
      row.data.length = 704 ∧ (i = Instr.handoverStep nn row ∧ (s.rot ↑nn).direct = true ∧ 1 ≤ (s.rot ↑nn).step ∧ (s.rot ↑nn).step < 7 ∨ i =
      Instr.rotationHandback nn ∧ (s.rot ↑nn).step = 7 ∧ (s.rot ↑nn).row = some row ∧ (s.adc (s.rot ↑nn).chan).conv = none)) ∧
    (∃ (nn : Fin 32) (s : State), (s.rot ↑nn).active = true ∧ (s.rot ↑nn).step = 7 ∧ (s.adc (s.rot ↑nn).chan).conv ≠ none) ∧
    (∃ (nn : Fin 32) (s : State), ((s.rot ↑nn).active = false ∨ (s.rot ↑nn).step ≠ 7)) ∧
    (∃ (nn : Fin 32) (s : State), (s.rot ↑nn).active = true ∧ (s.rot ↑nn).step = 1 ∧ (s.rot ↑nn).direct = false ∧ (s.rot ↑nn).old = [] ∧
      (s.rot ↑nn).chan < 1024 ∧ shadeOf (s.rot ↑nn).chan = ↑nn) ∧
    (∃ (nn : Fin 32) (s : State), ((s.rot ↑nn).active = false ∨ (s.rot ↑nn).step ≠ 1 ∨ (s.rot ↑nn).direct = true)) :=
  ⟨⟨2, up0, 3, by decide +kernel⟩,
   ⟨2, inState 4 up0, 3, by decide +kernel⟩,
   ⟨2, inState 4 up0, by decide +kernel⟩,
   ⟨2, fld [(4 * 70, CAL_FE_STATE.OWED, 1), (0, CAL_CTRL.ROT_EN, 1)] up0, 0, 64, by decide +kernel⟩,
   ⟨2, up0, ⟨[], []⟩, by decide +kernel⟩,
   ⟨2, rot12 { active := true, chan := 70, direct := true } up0, row12 3 [], by decide +kernel⟩,
   ⟨2, (rot12 { active := true, chan := 70 } up0).modAdc 70 (fun a => { a with conv := some { src := 0, gain := 0, samp := 0 } }), row12 3 [], by
     decide +kernel⟩,
   ⟨2, rot12 { active := true, chan := 70 } up0, row12 3 [], by decide +kernel⟩,
   ⟨2, fld [(feB 70, CHN_FE_STATUS.EN, 1)] (rot12 { active := true, chan := 70, step := 1 } up0), row12 3 [], by decide +kernel⟩,
   ⟨2, rot12 { active := true, chan := 70, step := 3 } up0, row12 3 [], by decide +kernel⟩,
   ⟨2, rot12 { active := true, chan := 70, step := 4 } up0, row12 704 [⟨3, 0, 9000000000⟩], by decide +kernel⟩,
   ⟨2, rot12 { active := true, chan := 70, step := 4 } up0, row12 704 [], by decide +kernel⟩,
   ⟨2, fld [(shB 2, CHN_FE_STATUS.EN, 1)] (rot12 { active := true, chan := 70, step := 6 } up0), row12 3 [], by decide +kernel⟩,
   ⟨2, fld [(4 * 70, CAL_FE_STATE.OWED, 1)] (rot12 { active := true, chan := 70, step := 4, direct := true } up0), row12 704 [], .handoverStep 2
     (row12 704 []), by decide +kernel⟩,
   ⟨2, (rot12 { active := true, chan := 70, step := 7 } up0).modAdc 70 (fun a => { a with conv := some { src := 0, gain := 0, samp := 0 } }), by
     decide +kernel⟩,
   ⟨2, up0, by decide +kernel⟩,
   ⟨2, rot12 { active := true, chan := 70, step := 1 } up0, by decide +kernel⟩,
   ⟨2, up0, by decide +kernel⟩⟩

def ts12 (p : List Nat) (l : List Nat) : Cmd := { adm opSELFTEST p l with words := desc 0 0 p }

def tr12 (p l : List Nat) : Cmd := { ts12 p l with started := true }

def two12 : State := withCmd (tr12 [2, 1, 0x18] [3, 4]) { up0 with tests := [{ cmd := r1, code := 2, unit := 3 }, { cmd := r1, code := 2, unit := 4 }] }

/-- Concrete states and operands that meet, clause by clause, the hypotheses of `Obligations.SelftestRows`. -/
theorem test_wit_SelftestRows :
    (∃ (cmd : CmdRef) (k : Cmd) (s : State), s.ready? cmd opSELFTEST = some k ∧ (∃ e ∈ k.testUnits, s.testIdle e.1 e.2 = true)) ∧
    (∃ (cmd : CmdRef) (k : Cmd) (s : State) (l : List Test), s.ready? cmd opSELFTEST = some k ∧ (∀ e ∈ k.testUnits, s.testIdle e.1 e.2 = false) ∧
      (∀ x ∈ s.tests, x.cmd ≠ cmd) ∧ k.stopAsked = none ∧ k.raddr = 0) ∧
    (∃ (cmd : CmdRef) (k : Cmd) (s : State) (l : List Test) (n : Nat) (pass : Bool) (d : Word), (∀ (x : Test), s.tests[n]? = some x → x.outcome ≠
      none)) ∧
    (∃ (cmd : CmdRef) (k : Cmd) (s : State) (l : List Test) (n : Nat) (x : Test) (d : Word), s.tests[n]? = some x ∧ x.outcome = none ∧ (∃ m y, m
      ≠ n ∧ s.tests[m]? = some y ∧ y.cmd = x.cmd ∧ y.outcome = none)) ∧
    (∃ (cmd : CmdRef) (k : Cmd) (s : State) (l : List Test) (n : Nat) (u : Nat) (x : Test) (d : Word), s.tests[n]? = some x ∧ x.outcome = none ∧
      (∃ m y, m ≠ n ∧ s.tests[m]? = some y ∧ y.cmd = x.cmd ∧ y.outcome = none) ∧ (x.code = 2 ∨ x.code = 3) ∧ x.unit = u ∧ u < 1024 ∧ (s.inst
      (instKey 13 scCHANNEL u)).force = false ∧ s.getF (4 * 13) FLT_CLASS.LEVEL = 0) ∧
    (∃ (cmd : CmdRef) (k : Cmd) (s : State) (n : Nat) (x : Test) (d : Word), s.tests[n]? = some x ∧ x.outcome = none ∧ x.cmd = cmd ∧ s.running?
      cmd opSELFTEST = some k ∧ k.stopAsked = none ∧ k.raddr = 0 ∧ (∀ (m : Nat) (y : Test), m ≠ n → s.tests[m]? = some y → y.cmd = cmd →
      y.outcome ≠ none)) :=
  ⟨⟨r1, ts12 [2, 1, 8] [3], withCmd (ts12 [2, 1, 8] [3]) up0, by decide +kernel⟩,
   ⟨r1, ts12 [1, 0, 8] [3], withCmd (ts12 [1, 0, 8] [3]) (eng7 0), [], by decide +kernel⟩,
   ⟨r1, ts12 [2, 1, 8] [3], up0, [], 4, true, 9, by decide +kernel⟩,
   ⟨r1, ts12 [2, 1, 8] [3], two12, [], 0, { cmd := r1, code := 2, unit := 3 }, 9, by decide +kernel, by decide +kernel, ⟨1, _, by decide +kernel,
     rfl, by decide +kernel⟩⟩,
   ⟨r1, ts12 [2, 1, 8] [3], fld [(4 * 0x0D, FLT_CLASS.LEVEL, 0)] two12, [], 0, 3, { cmd := r1, code := 2, unit := 3 }, 9, by decide +kernel, by
     decide +kernel, ⟨1, _, by decide +kernel, rfl, by decide +kernel⟩, by decide +kernel⟩,
   ⟨r1, tr12 [2, 1, 8] [3], withCmd (tr12 [2, 1, 8] [3]) { up0 with tests := [{ cmd := r1, code := 2, unit := 3 }] }, 0,
     { cmd := r1, code := 2, unit := 3 }, 9, by decide +kernel, by decide +kernel, by decide +kernel, by decide +kernel, by decide +kernel, by
     decide +kernel, fun m y hm h => by cases m with | zero => exact absurd rfl hm | succ m => cases h⟩⟩

/-! Links: training. -/

def cfg13 (w gen : Nat) (f : Port → Port) (s : State) : State := pt 1 2 (fun q => f { q with ts2 := true, w := w, gen := gen, lanes := (List.range 5).map fun k => (k, { ts2 := (k, 16) }) }) s

/-- Concrete states and operands that meet, clause by clause, the hypotheses of `Obligations.LinkTrainingRows`. -/
theorem test_wit_LinkTrainingRows :
    (∃ (p : Fin 4) (l : Fin 5) (ts : Ts) (s : State) (i : Instr), (i = Instr.detectProbe p true ∨ i = Instr.ts1Receive p l ts) ∧ s.pst ↑p = 0 ∧
      (s.port ↑p).released = true ∧ s.clocked = true) ∧
    (∃ (p : Fin 4) (l : Fin 5) (ts : Ts) (s : State) (found : Bool), (found = false ∨ s.pst ↑p ≠ 0 ∨ (s.port ↑p).released = false ∨ s.clocked =
      false)) ∧
    (∃ (p : Fin 4) (l : Fin 5) (ts : Ts) (s : State) (i : Instr), (i = Instr.ts1Receive p l ts ∨ i = Instr.ts2Receive p l ts) ∧ s.pst ↑p = 1) ∧
    (∃ (p : Fin 4) (l : Fin 5) (ts : Ts) (s : State), (s.port ↑p).pend = 0 ∧ s.pst ↑p = 1) ∧
    (∃ (p : Fin 4) (l : Fin 5) (ts : Ts) (s : State), s.pst ↑p = 2 ∧ ts.inv = false ∧ ((s.port ↑p).w ≠ 0 ∨ (tally ((s.port ↑p).lane ↑l).ok
      ts.rxok.toNat).2 < 8 ∨ ts.rxok = 0)) ∧
    (∃ (p : Fin 4) (l : Fin 5) (ts : Ts) (s : State), s.pst ↑p = 2 ∧ ts.inv = false ∧ ts.err = true ∧ (s.port ↑p).w = 0 ∧ ((s.port ↑p).lane
      ↑l).ok.1 = ts.rxok.toNat ∧ 7 ≤ ((s.port ↑p).lane ↑l).ok.2 ∧ ts.rxok ≠ 0 ∧ min (min (s.maxW ↑p) (maxwLanes ts.maxw.toNat)) (min
      (popCount 5 ts.rxok.toNat) (popCount 5 (s.port ↑p).rxok)) ≠ 0) ∧
    (∃ (p : Fin 4) (l : Fin 5) (ts : Ts) (s : State), s.pst ↑p = 2 ∧ ts.inv = false ∧ ts.err = true ∧ (s.port ↑p).w = 0 ∧ ((s.port ↑p).lane
      ↑l).ok.1 = ts.rxok.toNat ∧ 7 ≤ ((s.port ↑p).lane ↑l).ok.2 ∧ ts.rxok ≠ 0 ∧ min (min (s.maxW ↑p) (maxwLanes ts.maxw.toNat)) (min
      (popCount 5 ts.rxok.toNat) (popCount 5 (s.port ↑p).rxok)) = 0) ∧
    (∃ (p : Fin 4) (l : Fin 5) (ts : Ts) (s : State), s.pst ↑p = 2 ∧ ts.inv = false ∧ (s.port ↑p).sent = false) ∧
    (∃ (p : Fin 4) (l : Fin 5) (ts : Ts) (s : State), s.pst ↑p = 2 ∧ (s.port ↑p).pend = 0 ∧ (s.port ↑p).ts2 = true ∧
      { s.port ↑p with sent := true }.configDone = true ∧ (s.port ↑p).recov = false ∧ (s.port ↑p).gen < s.target ↑p) ∧
    (∃ (p : Fin 4) (l : Fin 5) (ts : Ts) (s : State), s.pst ↑p = 2 ∧ (s.port ↑p).pend = 0 ∧ (s.port ↑p).ts2 = true ∧
      { s.port ↑p with sent := true }.configDone = true ∧ (s.port ↑p).recov = false ∧ s.target ↑p ≤ (s.port ↑p).gen ∧ (s.port ↑p).eq = true ∧
      (s.port ↑p).w < (s.port ↑p).w1 ∧ 1 < (s.port ↑p).gen ∧ (s.port ↑p).gen ≤ 3) ∧
    (∃ (p : Fin 4) (l : Fin 5) (ts : Ts) (s : State), s.pst ↑p = 2 ∧ (s.port ↑p).pend = 0 ∧ (s.port ↑p).ts2 = true ∧
      { s.port ↑p with sent := true }.configDone = true ∧ (s.port ↑p).recov = true ∧ (s.port ↑p).gen ≤ 3 ∧ (s.isUp ↑p = true → maxwLanes (s.getF
      (pB ↑p) LNK_P_STATUS.WIDTH) ≤ (s.port ↑p).w)) ∧
    (∃ (p : Fin 4) (l : Fin 5) (ts : Ts) (s : State), s.pst ↑p = 2 ∧ (s.port ↑p).pend = 0 ∧ (s.port ↑p).ts2 = true ∧
      { s.port ↑p with sent := true }.configDone = true ∧ (s.port ↑p).recov = false ∧ (s.port ↑p).gen ≤ 3 ∧ s.target ↑p ≤ (s.port ↑p).gen ∧
      (s.port ↑p).eq = false ∧ s.commonGen (↑p) (s.maxGen ↑p) ≤ (s.port ↑p).gen ∧ min (s.maxW ↑p) (s.peerW ↑p) ≤ (s.port ↑p).w ∧ (s.port ↑p).fell
      = false) ∧
    (∃ (p : Fin 4) (l : Fin 5) (ts : Ts) (s : State), (s.pst ↑p = 1 ∨ s.pst ↑p = 2 ∨ s.pst ↑p = 6)) ∧
    (∃ (p : Fin 4) (l : Fin 5) (ts : Ts) (s : State), s.pst ↑p = 3) ∧
    (∃ (p : Fin 4) (l : Fin 5) (ts : Ts) (s : State), s.pst ↑p ∉ [1, 2, 3, 4, 6]) ∧
    (∃ (p : Fin 4) (l : Fin 5) (ts : Ts) (s : State), s.pst ↑p = 6) ∧
    (∃ (p : Fin 4) (l : Fin 5) (ts : Ts) (s : State), s.pst ↑p ≠ 6) :=
  ⟨⟨1, 2, ts13, pt 1 0 id up0, .detectProbe 1 true, by decide +kernel⟩,
   ⟨1, 2, ts13, pt 1 0 id up0, false, by decide +kernel⟩,
   ⟨1, 2, ts13, pt 1 1 id up0, .ts1Receive 1 2 ts13, by decide +kernel⟩,
   ⟨1, 2, ts13, pt 1 1 (fun q => { q with lock := true }) up0, by decide +kernel⟩,
   ⟨1, 2, ts13, pt 1 2 (fun q => { q with lanes := [(2, { good := (2, 7) })] }) up0, by decide +kernel⟩,
   ⟨1, 2, { ts13 with err := true }, pt 1 2 (fun q => { q with rxok := 0xF, lanes := [(2, { ok := (0x1F, 7) })] }) (fld
     [(pB 1, LNK_P_CTRL.MAXW, 2), (pB 1, LNK_P_CTRL.SPARE_EN, 1)] up0), by decide +kernel⟩,
   ⟨1, 2, { ts13 with err := true }, pt 1 2 (fun q => { q with gen := 3, eq := true, rxok := 0, lanes := [(2, { ok := (0x1F, 7) })] }) up0, by
     decide +kernel⟩,
   ⟨1, 2, ts13, pt 1 2 id up0, by decide +kernel⟩,
   ⟨1, 2, ts13, cfg13 4 1 id (fld [(pB 1, LNK_P_STATUS.CAPGEN, 3), (pB 1, LNK_P_PARTNER.RATES, 7)] up0), by decide +kernel⟩,
   ⟨1, 2, ts13, cfg13 2 3 (fun q => { q with eq := true, w1 := 4 }) (fld [(pB 1, LNK_P_STATUS.CAPGEN, 3), (pB 1, LNK_P_PARTNER.RATES, 7)] up0),
     by decide +kernel⟩,
   ⟨1, 2, ts13, cfg13 4 3 (fun q => { q with recov := true, exp := 7 }) (fld [(pB 1, LNK_P_STATUS.UP, 1), (pB 1, LNK_P_STATUS.WIDTH, 2)] up0), by
     decide +kernel⟩,
   ⟨1, 2, ts13, cfg13 4 1 (fun q => { q with exp := 7, init := true }) (fld [(pB 1, LNK_P_CTRL.MAXGEN, 1), (pB 1, LNK_P_PARTNER.MAXW, 2)] up0),
     by decide +kernel⟩,
   ⟨1, 2, ts13, pt 1 2 id (fld [(pB 1, LNK_P_STATUS.UP, 1)] up0), by decide +kernel⟩,
   ⟨1, 2, ts13, pt 1 3 id up0, by decide +kernel⟩,
   ⟨1, 2, ts13, pt 1 5 id up0, by decide +kernel⟩,
   ⟨1, 2, ts13, pt 1 6 id (fld [(lB 1 3, LNK_P_L_STATUS.RXROLE, 1)] up0), by decide +kernel⟩,
   ⟨1, 2, ts13, pt 1 5 id up0, by decide +kernel⟩⟩

def itr13 : State := fld [(lB 1 2, LNK_P_L_RXEQ.ITER, 9)] (eq13 fun q => { q with lanes := [(2, { seen := some 1, reqTag := 1 })] })

/-- Concrete states and operands that meet, clause by clause, the hypotheses of `Obligations.EqualizationRows`. -/
theorem test_wit_EqualizationRows :
    (∃ (p : Fin 4) (l : Fin 5) (s : State), s.pst ↑p = 3) ∧
    (∃ (p : Fin 4) (l : Fin 5) (s : State), s.pst ↑p ≠ 3) ∧
    (∃ (p : Fin 4) (l : Fin 5) (s : State) (taps : List ((BitVec 4 × BitVec 4) × EqMove)), s.pst ↑p = 4) ∧
    (∃ (p : Fin 4) (l : Fin 5) (s : State) (taps : List ((BitVec 4 × BitVec 4) × EqMove)), s.pst ↑p ≠ 4) ∧
    (∃ (p : Fin 4) (l : Fin 5) (s : State) (ts : Ts), s.pst ↑p = 4) ∧
    (∃ (p : Fin 4) (l : Fin 5) (s : State) (tag : BitVec 2) (mv : EqMove), s.pst ↑p = 4 ∧ (∃ k < 5, (s.usedLanes (↑p) false).testBit k = true ∧
      (s.port ↑p).checked.testBit k = false) ∧ ((s.port ↑p).lane ↑l).ackTag ≠ some tag.toNat ∧ 0 ≤ moveTap (s.getF (lB ↑p ↑l) LNK_P_L_TXEQ.PRE)
      mv.pre ∧ moveTap (s.getF (lB ↑p ↑l) LNK_P_L_TXEQ.PRE) mv.pre ≤ 6 ∧ 16 ≤ moveTap (s.getF (lB ↑p ↑l) LNK_P_L_TXEQ.MAIN) mv.main ∧ moveTap
      (s.getF (lB ↑p ↑l) LNK_P_L_TXEQ.MAIN) mv.main ≤ 32 ∧ 0 ≤ moveTap (s.getF (lB ↑p ↑l) LNK_P_L_TXEQ.POST) mv.post ∧ moveTap (s.getF (lB ↑p ↑l)
      LNK_P_L_TXEQ.POST) mv.post ≤ 12 ∧ moveTap (s.getF (lB ↑p ↑l) LNK_P_L_TXEQ.PRE) mv.pre + moveTap (s.getF (lB ↑p ↑l) LNK_P_L_TXEQ.MAIN)
      mv.main + moveTap (s.getF (lB ↑p ↑l) LNK_P_L_TXEQ.POST) mv.post ≤ 32 ∧ moveTap (s.getF (lB ↑p ↑l) LNK_P_L_TXEQ.PRE) mv.pre + moveTap
      (s.getF (lB ↑p ↑l) LNK_P_L_TXEQ.POST) mv.post + 8 ≤ moveTap (s.getF (lB ↑p ↑l) LNK_P_L_TXEQ.MAIN) mv.main) ∧
    (∃ (p : Fin 4) (l : Fin 5) (s : State) (tag : BitVec 2) (mv : EqMove), s.pst ↑p = 4 ∧ (∃ k < 5, (s.usedLanes (↑p) false).testBit k = true ∧
      (s.port ↑p).checked.testBit k = false) ∧ ((s.port ↑p).lane ↑l).ackTag ≠ some tag.toNat ∧ (moveTap (s.getF (lB ↑p ↑l) LNK_P_L_TXEQ.PRE)
      mv.pre < 0 ∨ 6 < moveTap (s.getF (lB ↑p ↑l) LNK_P_L_TXEQ.PRE) mv.pre ∨ moveTap (s.getF (lB ↑p ↑l) LNK_P_L_TXEQ.MAIN) mv.main < 16 ∨ 32 <
      moveTap (s.getF (lB ↑p ↑l) LNK_P_L_TXEQ.MAIN) mv.main ∨ moveTap (s.getF (lB ↑p ↑l) LNK_P_L_TXEQ.POST) mv.post < 0 ∨ 12 < moveTap (s.getF
      (lB ↑p ↑l) LNK_P_L_TXEQ.POST) mv.post ∨ 32 < moveTap (s.getF (lB ↑p ↑l) LNK_P_L_TXEQ.PRE) mv.pre + moveTap (s.getF (lB ↑p ↑l)
      LNK_P_L_TXEQ.MAIN) mv.main + moveTap (s.getF (lB ↑p ↑l) LNK_P_L_TXEQ.POST) mv.post ∨ moveTap (s.getF (lB ↑p ↑l) LNK_P_L_TXEQ.MAIN) mv.main
      < moveTap (s.getF (lB ↑p ↑l) LNK_P_L_TXEQ.PRE) mv.pre + moveTap (s.getF (lB ↑p ↑l) LNK_P_L_TXEQ.POST) mv.post + 8)) ∧
    (∃ (p : Fin 4) (l : Fin 5) (s : State) (tag : BitVec 2) (valid : Bool) (mv : EqMove), s.pst ↑p = 4 ∧ (∃ k < 5, (s.usedLanes (↑p)
      false).testBit k = true ∧ (s.port ↑p).checked.testBit k = false) ∧ (valid = false ∨ ((s.port ↑p).lane ↑l).ackTag = some tag.toNat)) ∧
    (∃ (p : Fin 4) (l : Fin 5) (s : State) (tag : BitVec 2) (valid : Bool) (mv : EqMove) (fin : Bool), s.pst ↑p ≠ 4) ∧
    (∃ (p : Fin 4) (l : Fin 5) (s : State) (dfe : BitVec 4) (better : Option EqMove), s.pst ↑p = 4 ∧ (s.usedLanes (↑p) false).testBit ↑l = true ∧
      (s.port ↑p).doneTx.testBit ↑l = false ∧ (s.port ↑p).checked.testBit ↑l = false ∧ ((s.port ↑p).lane ↑l).seen = some ((s.port ↑p).lane
      ↑l).reqTag) ∧
    (∃ (p : Fin 4) (l : Fin 5) (s : State) (dfe : BitVec 4) (better : Option EqMove), (s.pst ↑p ≠ 4 ∨ (s.usedLanes (↑p) false).testBit ↑l = false
      ∨ (s.port ↑p).doneTx.testBit ↑l = true ∨ ((s.port ↑p).lane ↑l).seen ≠ some ((s.port ↑p).lane ↑l).reqTag)) ∧
    (∃ (p : Fin 4) (l : Fin 5) (s : State) (h : Byte) (v : Byte) (pass : Bool), s.pst ↑p = 4 ∧ (s.usedLanes (↑p) false).testBit ↑l = true ∧
      (s.port ↑p).doneTx.testBit ↑l = true ∧ (∃ k < 5, k ≠ ↑l ∧ (s.usedLanes (↑p) false).testBit k = true ∧ (s.port ↑p).checked.testBit k =
      false)) ∧
    (∃ (p : Fin 4) (l : Fin 5) (s : State) (h : Byte) (v : Byte) (pass : Bool), s.pst ↑p = 4 ∧ (s.usedLanes (↑p) false).testBit ↑l = true ∧
      (s.port ↑p).doneTx.testBit ↑l = true ∧ (∀ k < 5, k ≠ ↑l → (s.usedLanes (↑p) false).testBit k = true → (s.port ↑p).checked.testBit k = true)
      ∧ ((s.port ↑p).late = true ∨ (∀ k < 5, (s.usedLanes (↑p) false).testBit k = true → (s.port ↑p).doneTx.testBit k = true) ∧ ∀ k < 5,
      (s.usedLanes (↑p) true).testBit k = true → (s.port ↑p).doneRx.testBit k = true)) ∧
    (∃ (p : Fin 4) (l : Fin 5) (s : State) (h : Byte) (v : Byte) (pass : Bool), (s.pst ↑p ≠ 4 ∨ (s.usedLanes (↑p) false).testBit ↑l = false ∨
      (s.port ↑p).doneTx.testBit ↑l = false)) ∧
    (∃ (p : Fin 4) (l : Fin 5) (s : State), s.pst ↑p = 4 ∧ (∃ k < 5, (s.usedLanes (↑p) false).testBit k = true ∧ (s.port ↑p).checked.testBit k =
      false)) ∧
    (∃ (p : Fin 4) (l : Fin 5) (s : State), s.pst ↑p = 4 ∧ (∀ k < 5, (s.usedLanes (↑p) false).testBit k = true → (s.port ↑p).checked.testBit k =
      true)) :=
  ⟨⟨1, 2, use13 [0, 2] (pt 1 3 id up0), by decide +kernel⟩,
   ⟨1, 2, up0, by decide +kernel⟩,
   ⟨1, 2, eq13 id, [((3, 4), { pre := 1 }), ((0, 0), {}), ((5, 6), {})], by decide +kernel⟩,
   ⟨1, 2, up0, [], by decide +kernel⟩,
   ⟨1, 2, eq13 id, ts13, by decide +kernel⟩,
   ⟨1, 2, eq13 id, 2, { pre := 1, post := 2 }, by decide +kernel⟩,
   ⟨1, 2, eq13 id, 2, { pre := 2 }, by decide +kernel⟩,
   ⟨1, 2, eq13 id, 2, false, {}, by decide +kernel⟩,
   ⟨1, 2, up0, 2, false, {}, true, by decide +kernel⟩,
   ⟨1, 2, itr13, 7, some { main := 1 }, by decide +kernel⟩,
   ⟨1, 2, eq13 id, 7, some { main := 1 }, by decide +kernel⟩,
   ⟨1, 2, eq13 fun q => { q with doneTx := 5 }, 7, 9, false, by decide +kernel⟩,
   ⟨1, 2, eq13 fun q => { q with doneTx := 5, doneRx := 5, checked := 1 }, 7, 9, false, by decide +kernel⟩,
   ⟨1, 2, up0, 7, 9, false, by decide +kernel⟩,
   ⟨1, 2, eq13 fun q => { q with doneTx := 1 }, by decide +kernel⟩,
   ⟨1, 2, eq13 fun q => { q with checked := 5 }, by decide +kernel⟩⟩

/-! Links: health and power. -/

/-- Concrete states and operands that meet, clause by clause, the hypotheses of `Obligations.LinkControlRows`. -/
theorem test_wit_LinkControlRows :
    (∃ (p : Fin 4) (l : Fin 5) (on : Bool) (s : State), s.writeOk (pB ↑p + LNK_P_CTRL.RETRAIN.off) = true ∧ s.isSet (pB ↑p) LNK_P_CTRL.RETRAIN =
      false ∧ s.isSet (pB ↑p) LNK_P_CTRL.HOTRST = false ∧ s.pst ↑p ≠ 10 ∧ (s.pst ↑p = 8 → s.isSet (pB ↑p) LNK_P_CTRL.DISABLE = false)) ∧
    (∃ (p : Fin 4) (l : Fin 5) (on : Bool) (s : State), s.writeOk (pB ↑p + LNK_P_CTRL.RETRAIN.off) = true ∧ s.isSet (pB ↑p) LNK_P_CTRL.RETRAIN =
      false ∧ s.isSet (pB ↑p) LNK_P_CTRL.HOTRST = false ∧ s.pst ↑p ≠ 10 ∧ (s.pst ↑p = 8 → s.isSet (pB ↑p) LNK_P_CTRL.DISABLE = false)) ∧
    (∃ (p : Fin 4) (l : Fin 5) (on : Bool) (s : State), s.writeOk (pB ↑p + LNK_P_CTRL.RETRAIN.off) = true ∧ s.isSet (pB ↑p) LNK_P_CTRL.RETRAIN =
      false ∧ s.isSet (pB ↑p) LNK_P_CTRL.HOTRST = false ∧ (s.pst ↑p = 10 ∨ s.pst ↑p = 8 ∧ s.isSet (pB ↑p) LNK_P_CTRL.DISABLE = true)) ∧
    (∃ (p : Fin 4) (l : Fin 5) (on : Bool) (s : State), s.writeOk (pB ↑p + LNK_P_CTRL.RETRAIN.off) = true ∧ s.isSet (pB ↑p) LNK_P_CTRL.RETRAIN =
      false ∧ s.isSet (pB ↑p) LNK_P_CTRL.HOTRST = false ∧ (s.pst ↑p = 10 ∨ s.pst ↑p = 8 ∧ s.isSet (pB ↑p) LNK_P_CTRL.DISABLE = true)) ∧
    (∃ (p : Fin 4) (l : Fin 5) (on : Bool) (s : State), s.writeOk (pB ↑p + LNK_P_CTRL.RETRAIN.off) = true ∧ s.isSet (pB ↑p) LNK_P_CTRL.RETRAIN =
      false ∧ s.isSet (pB ↑p) LNK_P_CTRL.HOTRST = false ∧ s.isSet (pB ↑p) LNK_P_CTRL.DISABLE = false ∧ s.pst ↑p ≠ 8) ∧
    (∃ (p : Fin 4) (l : Fin 5) (on : Bool) (s : State), s.writeOk (pB ↑p + LNK_P_CTRL.RETRAIN.off) = true ∧ s.isSet (pB ↑p) LNK_P_CTRL.RETRAIN =
      false ∧ s.isSet (pB ↑p) LNK_P_CTRL.HOTRST = false ∧ s.isSet (pB ↑p) LNK_P_CTRL.DISABLE = true ∧ s.pst ↑p = 8 ∧ (s.port ↑p).byPeer = false)
      ∧
    (∃ (p : Fin 4) (l : Fin 5) (on : Bool) (s : State), s.writeOk (pB ↑p + LNK_P_CTRL.RETRAIN.off) = true ∧ s.isSet (pB ↑p) LNK_P_CTRL.RETRAIN =
      false ∧ s.isSet (pB ↑p) LNK_P_CTRL.HOTRST = false ∧ s.isSet (pB ↑p) LNK_P_CTRL.FARLB = false ∧ s.pst ↑p = 5 ∧ s.isSet (pB ↑p)
      LNK_P_STATUS.UPSTREAM = false) ∧
    (∃ (p : Fin 4) (l : Fin 5) (on : Bool) (s : State), s.writeOk (pB ↑p + LNK_P_CTRL.RETRAIN.off) = true ∧ s.isSet (pB ↑p) LNK_P_CTRL.RETRAIN =
      false ∧ s.isSet (pB ↑p) LNK_P_CTRL.HOTRST = false ∧ s.isSet (pB ↑p) LNK_P_CTRL.FARLB = false ∧ (s.pst ↑p ≠ 5 ∨ s.isSet (pB ↑p)
      LNK_P_STATUS.UPSTREAM = true)) ∧
    (∃ (p : Fin 4) (l : Fin 5) (on : Bool) (s : State), s.writeOk (pB ↑p + LNK_P_CTRL.RETRAIN.off) = true ∧ s.isSet (pB ↑p) LNK_P_CTRL.RETRAIN =
      false ∧ s.isSet (pB ↑p) LNK_P_CTRL.HOTRST = false ∧ s.isSet (pB ↑p) LNK_P_CTRL.FARLB = true ∧ s.pst ↑p = 9 ∧ (s.port ↑p).slave = false) ∧
    (∃ (p : Fin 4) (l : Fin 5) (on : Bool) (s : State), s.writeOk (pB ↑p + LNK_P_CTRL.RETRAIN.off) = true ∧ s.isSet (pB ↑p) LNK_P_CTRL.RETRAIN =
      false ∧ s.isSet (pB ↑p) LNK_P_CTRL.HOTRST = false ∧ s.isSet (pB ↑p) LNK_P_CTRL.FARLB = true ∧ s.pst ↑p = 5 ∧ (s.port ↑p).pend = 2) ∧
    (∃ (p : Fin 4) (l : Fin 5) (on : Bool) (s : State), s.writeOk (pB ↑p + LNK_P_CTRL.RETRAIN.off) = true ∧ s.isSet (pB ↑p) LNK_P_CTRL.RETRAIN =
      false ∧ s.isSet (pB ↑p) LNK_P_CTRL.HOTRST = false) ∧
    (∃ (p : Fin 4) (l : Fin 5) (on : Bool) (s : State), s.pst ↑p ∈ [1, 2, 5, 6] ∧ (s.port ↑p).pend ≠ 1) ∧
    (∃ (p : Fin 4) (l : Fin 5) (on : Bool) (s : State), (s.pst ↑p ∉ [1, 2, 5, 6] ∨ (s.port ↑p).pend = 1)) ∧
    (∃ (p : Fin 4) (l : Fin 5) (on : Bool) (s : State) (i : Instr), (i = Instr.hotresetEnd p ∧ s.pst ↑p = 7 ∨ i = Instr.disabledClockActivity p ∧
      s.pst ↑p = 8 ∧ (s.port ↑p).byPeer = true ∨ i = Instr.loopbackSlaveIdle p ∧ s.pst ↑p = 9 ∧ (s.port ↑p).slave = true)) ∧
    (∃ (p : Fin 4) (l : Fin 5) (on : Bool) (s : State) (i : Instr), (i = Instr.hotresetEnd p ∧ s.pst ↑p ≠ 7 ∨ i = Instr.disabledClockActivity p ∧
      (s.pst ↑p ≠ 8 ∨ (s.port ↑p).byPeer = false) ∨ i = Instr.loopbackSlaveIdle p ∧ (s.pst ↑p ≠ 9 ∨ (s.port ↑p).slave = false))) ∧
    (∃ (p : Fin 4) (l : Fin 5) (on : Bool) (s : State), s.pst ↑p ∈ [1, 2, 3, 4, 5, 6]) ∧
    (∃ (p : Fin 4) (l : Fin 5) (on : Bool) (s : State), s.pst ↑p ∉ [1, 2, 3, 4, 5, 6]) ∧
    (∃ (p : Fin 4) (l : Fin 5) (on : Bool) (s : State), (s.port ↑p).pend = 1 ∧ s.isSet (pB ↑p) LNK_P_CTRL.DISABLE = true) ∧
    (∃ (p : Fin 4) (l : Fin 5) (on : Bool) (s : State), (s.port ↑p).pend = 1 ∧ s.isSet (pB ↑p) LNK_P_CTRL.DISABLE = false) ∧
    (∃ (p : Fin 4) (l : Fin 5) (on : Bool) (s : State), (s.port ↑p).pend = 2 ∧ s.pst ↑p = 5) ∧
    (∃ (p : Fin 4) (l : Fin 5) (on : Bool) (s : State), s.pst ↑p = 5 ∧ (s.port ↑p).pend ≠ 1 ∧ (s.port ↑p).pend ≠ 2) ∧
    (∃ (p : Fin 4) (l : Fin 5) (on : Bool) (s : State), s.pst ↑p = 5 ∧ (s.port ↑p).pend = 2 ∧ (s.port ↑p).stuck < 3) ∧
    (∃ (p : Fin 4) (l : Fin 5) (on : Bool) (s : State), (s.pst ↑p ≠ 5 ∨ (s.port ↑p).pend = 1)) ∧
    (∃ (p : Fin 4) (l : Fin 5) (on : Bool) (s : State), s.writeOk (lB ↑p ↑l + LNK_P_L_CFG.INJ.off) = true ∧ s.isSet (lB ↑p ↑l) LNK_P_L_CFG.INJ =
      false ∧ s.isSet (lB ↑p ↑l) LNK_P_L_CFG.NEARLB = false ∧ (s.pst ↑p = 0 ∨ s.pst ↑p = 8)) ∧
    (∃ (p : Fin 4) (l : Fin 5) (on : Bool) (s : State), s.writeOk (lB ↑p ↑l + LNK_P_L_CFG.INJ.off) = true ∧ s.isSet (lB ↑p ↑l) LNK_P_L_CFG.INJ =
      false ∧ s.isSet (lB ↑p ↑l) LNK_P_L_CFG.NEARLB = false ∧ (s.pst ↑p = 10 ∨ s.pst ↑p ≠ 0 ∧ s.pst ↑p ≠ 8 ∧ s.loopableSpare ↑p ↑l = true)) ∧
    (∃ (p : Fin 4) (l : Fin 5) (on : Bool) (s : State), s.writeOk (lB ↑p ↑l + LNK_P_L_CFG.INJ.off) = true ∧ s.isSet (lB ↑p ↑l) LNK_P_L_CFG.INJ =
      false ∧ s.isSet (lB ↑p ↑l) LNK_P_L_CFG.NEARLB = false ∧ s.pst ↑p ∉ [0, 8, 10] ∧ s.loopableSpare ↑p ↑l = false) ∧
    (∃ (p : Fin 4) (l : Fin 5) (on : Bool) (s : State), s.writeOk (lB ↑p ↑l + LNK_P_L_CFG.INJ.off) = true ∧ s.isSet (lB ↑p ↑l) LNK_P_L_CFG.INJ =
      false ∧ s.isSet (lB ↑p ↑l) LNK_P_L_CFG.NEARLB = true ∧ s.pst ↑p = 10 ∧ (∀ k < 5, k ≠ ↑l → s.isSet (lB (↑p) k) LNK_P_L_CFG.NEARLB = false))
      ∧
    (∃ (p : Fin 4) (l : Fin 5) (on : Bool) (s : State), s.writeOk (lB ↑p ↑l + LNK_P_L_CFG.INJ.off) = true ∧ s.isSet (lB ↑p ↑l) LNK_P_L_CFG.INJ =
      false ∧ s.isSet (lB ↑p ↑l) LNK_P_L_CFG.NEARLB = true ∧ s.pst ↑p ≠ 10) ∧
    (∃ (p : Fin 4) (l : Fin 5) (on : Bool) (s : State), s.writeOk (lB ↑p ↑l + LNK_P_L_CFG.INJ.off) = true ∧ s.isSet (lB ↑p ↑l) LNK_P_L_CFG.INJ =
      false ∧ s.isSet (lB ↑p ↑l) LNK_P_L_CFG.NEARLB = true ∧ s.isSet (lB ↑p ↑l) LNK_P_L_CFG.GEN_EN = true ∧ s.isSet (lB ↑p ↑l) LNK_P_L_CFG.CHK_EN
      = true) ∧
    (∃ (p : Fin 4) (l : Fin 5) (on : Bool) (s : State), s.writeOk (lB ↑p ↑l + LNK_P_L_CFG.INJ.off) = true ∧ s.isSet (lB ↑p ↑l) LNK_P_L_CFG.INJ =
      false ∧ (s.isSet (lB ↑p ↑l) LNK_P_L_CFG.NEARLB = false ∨ s.isSet (lB ↑p ↑l) LNK_P_L_CFG.GEN_EN = false ∨ s.isSet (lB ↑p ↑l)
      LNK_P_L_CFG.CHK_EN = false)) :=
  ⟨⟨1, 2, true, fld [(pB 1, LNK_P_STATUS.UP, 1)] (pt 1 5 id up0), by decide +kernel⟩,
   ⟨1, 2, true, pt 1 5 id up0, by decide +kernel⟩,
   ⟨1, 2, true, pt 1 10 id up0, by decide +kernel⟩,
   ⟨1, 2, true, pt 1 10 id up0, by decide +kernel⟩,
   ⟨1, 2, true, pt 1 5 id up0, by decide +kernel⟩,
   ⟨1, 2, true, fld [(pB 1, LNK_P_CTRL.DISABLE, 1)] (pt 1 8 id up0), by decide +kernel⟩,
   ⟨1, 2, true, pt 1 5 id up0, by decide +kernel⟩,
   ⟨1, 2, true, pt 1 6 id up0, by decide +kernel⟩,
   ⟨1, 2, true, fld [(pB 1, LNK_P_CTRL.FARLB, 1)] (pt 1 9 id up0), by decide +kernel⟩,
   ⟨1, 2, true, fld [(pB 1, LNK_P_CTRL.FARLB, 1)] (pt 1 5 (fun q => { q with pend := 2 }) up0), by decide +kernel⟩,
   ⟨1, 2, true, fld [(pB 1, LNK_P_STATUS.TX_LS, 1)] (pt 1 5 id up0), by decide +kernel⟩,
   ⟨1, 2, true, pt 1 5 id up0, by decide +kernel⟩,
   ⟨1, 2, true, pt 1 8 id up0, by decide +kernel⟩,
   ⟨1, 2, true, pt 1 7 id up0, .hotresetEnd 1, by decide +kernel⟩,
   ⟨1, 2, true, pt 1 8 id up0, .disabledClockActivity 1, by decide +kernel⟩,
   ⟨1, 2, true, pt 1 4 id up0, by decide +kernel⟩,
   ⟨1, 2, true, pt 1 8 id up0, by decide +kernel⟩,
   ⟨1, 2, true, fld [(pB 1, LNK_P_CTRL.DISABLE, 1)] (pt 1 5 (fun q => { q with pend := 1 }) up0), by decide +kernel⟩,
   ⟨1, 2, true, pt 1 5 (fun q => { q with pend := 1 }) up0, by decide +kernel⟩,
   ⟨1, 2, true, pt 1 5 (fun q => { q with pend := 2 }) up0, by decide +kernel⟩,
   ⟨1, 2, true, pt 1 5 id up0, by decide +kernel⟩,
   ⟨1, 2, true, pt 1 5 (fun q => { q with pend := 2 }) up0, by decide +kernel⟩,
   ⟨1, 2, true, pt 1 6 id up0, by decide +kernel⟩,
   ⟨1, 2, true, pt 1 8 id (fld [(lB 1 2, LNK_P_L_CFG.GEN_EN, 1), (lB 1 2, LNK_P_L_CFG.CHK_EN, 1)] up0), by decide +kernel⟩,
   ⟨1, 2, true, pt 1 10 id up0, by decide +kernel⟩,
   ⟨1, 2, true, pt 1 5 id up0, by decide +kernel⟩,
   ⟨1, 2, false, pt 1 10 id (fld [(lB 1 2, LNK_P_L_CFG.NEARLB, 1)] up0), by decide +kernel⟩,
   ⟨1, 2, false, pt 1 5 id (fld [(lB 1 2, LNK_P_L_CFG.NEARLB, 1)] up0), by decide +kernel⟩,
   ⟨1, 2, false, pt 1 10 id (fld [(lB 1 2, LNK_P_L_CFG.NEARLB, 1), (lB 1 2, LNK_P_L_CFG.GEN_EN, 1), (lB 1 2, LNK_P_L_CFG.CHK_EN, 1),
     (lB 1 2, LNK_P_L_CFG.MODE, 1)] up0), by decide +kernel⟩,
   ⟨1, 2, false, pt 1 10 id up0, by decide +kernel⟩⟩

def rx14 (l : Nat) (sp : Nat) (f : Port → Port) : State := pt 1 5 f (fld [(lB 1 l, LNK_P_L_STATUS.RXROLE, 1), (pB 1, mapFld false 1, l), (pB 1, LNK_P_MAP.RXSP, sp), (pB 1, mapFld true 1, l), (pB 1, LNK_P_TXMAP.TXSP, sp), (lB 1 sp, LNK_P_L_STATUS.RXROLE, 2), (lB 1 sp, LNK_P_L_STATUS.TXROLE, 2), (4 * 0x0E, FLT_CLASS.LEVEL, 0), (4 * 0x0F, FLT_CLASS.LEVEL, 0)] up0)

def spx (n : Nat) : SpareRx := { k := 1, old := 2, spare := 4, stage := n }

/-- Concrete states and operands that meet, clause by clause, the hypotheses of `Obligations.LinkHealthRows`. -/
theorem test_wit_LinkHealthRows :
    (∃ (p : Fin 4) (l : Fin 5) (er : LaneErrs) (n : BitVec 21) (k : Fin 4) (s : State) (i : Instr), (i = Instr.laneFail p (l, er) ∧ s.getF
      (pB ↑p) LNK_P_STATUS.RX_LS = 0 ∧ s.role (↑p) false ↑l = 1 ∧ s.laneFails (↑p) er = true ∧ (s.lmap (↑p) false 4 = 7 ∨ (s.port ↑p).spRx ≠
      none) ∨ i = Instr.sparingTimeout p ∧ (s.port ↑p).spRx ≠ none ∨ i = Instr.spareFail (p, er, n) ∧ s.getF (pB ↑p) LNK_P_STATUS.RX_LS = 0 ∧
      (s.laneFails (↑p) er = true ∨ atLeast1 (s.getF (pB ↑p) LNK_P_THR.FAIL) ≤ n.toNat) ∧ s.lmap (↑p) false 4 ≠ 7 ∧ (s.port ↑p).spRx ≠ none ∨ i =
      Instr.wakeLockTimeout p ∧ s.getF (pB ↑p) LNK_P_STATUS.RX_LS ≠ 0 ∨ i = Instr.creditTimeout p ∧ s.crStall ↑p = true ∨ (∃ x got,
      (s.port ↑p).spRx = some x ∧ 2 ≤ x.stage ∧ skpOk got = false ∧ i = Instr.skpSet p true got) ∨ ∃ ts, i = Instr.ts1Receive p l ts ∧ 1 ≤
      ((s.port ↑p).lane ↑l).run) ∧ s.pst ↑p = 5 ∧ (s.port ↑p).stuck < 3) ∧
    (∃ (p : Fin 4) (l : Fin 5) (er : LaneErrs) (n : BitVec 21) (k : Fin 4) (s : State) (i : Instr), (i = Instr.laneFail p (l, er) ∧ s.getF
      (pB ↑p) LNK_P_STATUS.RX_LS = 0 ∧ s.role (↑p) false ↑l = 1 ∧ s.laneFails (↑p) er = true ∧ (s.lmap (↑p) false 4 = 7 ∨ (s.port ↑p).spRx ≠
      none) ∨ i = Instr.sparingTimeout p ∧ (s.port ↑p).spRx ≠ none ∨ i = Instr.spareFail (p, er, n) ∧ s.getF (pB ↑p) LNK_P_STATUS.RX_LS = 0 ∧
      (s.laneFails (↑p) er = true ∨ atLeast1 (s.getF (pB ↑p) LNK_P_THR.FAIL) ≤ n.toNat) ∧ s.lmap (↑p) false 4 ≠ 7 ∧ (s.port ↑p).spRx ≠ none ∨ i =
      Instr.wakeLockTimeout p ∧ s.getF (pB ↑p) LNK_P_STATUS.RX_LS ≠ 0 ∨ i = Instr.creditTimeout p ∧ s.crStall ↑p = true ∨ (∃ x got,
      (s.port ↑p).spRx = some x ∧ 2 ≤ x.stage ∧ skpOk got = false ∧ i = Instr.skpSet p true got) ∨ ∃ ts, i = Instr.ts1Receive p l ts ∧ 1 ≤
      ((s.port ↑p).lane ↑l).run) ∧ s.pst ↑p = 5 ∧ 3 ≤ (s.port ↑p).stuck) ∧
    (∃ (p : Fin 4) (l : Fin 5) (er : LaneErrs) (n : BitVec 21) (k : Fin 4) (s : State) (i : Instr), (i = Instr.laneFail p (l, er) ∧ (s.pst ↑p ≠ 5
      ∨ s.getF (pB ↑p) LNK_P_STATUS.RX_LS ≠ 0 ∨ s.role (↑p) false ↑l ≠ 1 ∨ s.laneFails (↑p) er = false) ∨ i = Instr.sparingTimeout p ∧
      (s.port ↑p).spRx = none ∨ i = Instr.spareFail (p, er, n) ∧ (s.pst ↑p ≠ 5 ∨ s.getF (pB ↑p) LNK_P_STATUS.RX_LS ≠ 0 ∨ s.lmap (↑p) false 4 = 7
      ∨ s.laneFails (↑p) er = false ∧ n.toNat < atLeast1 (s.getF (pB ↑p) LNK_P_THR.FAIL)) ∨ i = Instr.wakeLockTimeout p ∧ s.getF (pB ↑p)
      LNK_P_STATUS.RX_LS = 0 ∨ i = Instr.creditTimeout p ∧ s.crStall ↑p = false ∨ (∃ rx got, i = Instr.skpSet p rx got ∧ s.pst ↑p ≠ 5) ∨ (∃ b, i
      = Instr.slpReceived p b ∧ s.pst ↑p ≠ 5) ∨ i = Instr.rxWake p ∧ s.pst ↑p ≠ 5 ∨ i = Instr.txWake p ∧ (s.pst ↑p ≠ 5 ∨ s.getF (pB ↑p)
      LNK_P_STATUS.TX_LS = 0) ∨ i = Instr.beacon p ∧ s.getF (pB ↑p) LNK_P_STATUS.TX_LS ≠ 2 ∨ i = Instr.beaconReceive p ∧ s.getF (pB ↑p)
      LNK_P_STATUS.RX_LS ≠ 2 ∨ i = Instr.beaconTimeout p ∧ (s.pst ↑p ≠ 5 ∨ s.getF (pB ↑p) LNK_P_STATUS.RX_LS ≠ 2) ∨ (∃ b, i = Instr.clockLaneLoss
      p b ∧ (s.pst ↑p ≠ 5 ∨ 2 ≤ s.getF (pB ↑p) LNK_P_STATUS.RX_LS)) ∨ i = Instr.sleepEntry p ∧ s.mustWake ↑p = true)) ∧
    (∃ (p : Fin 4) (l : Fin 5) (er : LaneErrs) (n : BitVec 21) (k : Fin 4) (s : State) (j : Nat), s.pst ↑p = 5 ∧ s.getF (pB ↑p)
      LNK_P_STATUS.RX_LS = 0 ∧ s.role (↑p) false ↑l = 1 ∧ s.laneFails (↑p) er = true ∧ s.lmap (↑p) false 4 ≠ 7 ∧ (s.port ↑p).spRx = none ∧ j < 4
      ∧ s.lmap (↑p) false j = ↑l ∧ (∀ i < j, s.lmap (↑p) false i ≠ ↑l) ∧ (∀ x ∈ s.tests, x.unit ≠ 65600 + 5 * ↑p + s.lmap (↑p) false 4)) ∧
    (∃ (p : Fin 4) (l : Fin 5) (er : LaneErrs) (n : BitVec 21) (k : Fin 4) (s : State), s.pst ↑p = 5 ∧ s.lmap (↑p) true 4 ≠ 7 ∧ s.lmap (↑p) true
      ↑k ≠ 7 ∧ (∀ x ∈ s.tests, x.unit ≠ 65600 + 5 * ↑p + s.lmap (↑p) true 4)) ∧
    (∃ (p : Fin 4) (l : Fin 5) (er : LaneErrs) (n : BitVec 21) (k : Fin 4) (s : State), (s.pst ↑p ≠ 5 ∨ s.lmap (↑p) true 4 = 7 ∨ s.lmap (↑p) true
      ↑k = 7)) ∧
    (∃ (p : Fin 4) (l : Fin 5) (er : LaneErrs) (n : BitVec 21) (k : Fin 4) (s : State) (x : SpareRx), (s.port ↑p).spRx = some x ∧ x.k = ↑k ∧
      x.stage = 0) ∧
    (∃ (p : Fin 4) (l : Fin 5) (er : LaneErrs) (n : BitVec 21) (k : Fin 4) (s : State), (∀ (x : SpareRx), (s.port ↑p).spRx = some x → x.k = ↑k →
      x.stage ≠ 0)) ∧
    (∃ (p : Fin 4) (l : Fin 5) (er : LaneErrs) (n : BitVec 21) (k : Fin 4) (s : State) (x : SpareTx), (s.port ↑p).spTx = some x ∧ s.pst ↑p = 5 ∧
      x.k = ↑k ∧ s.lmap (↑p) true ↑k ≠ s.lmap (↑p) true 4) ∧
    (∃ (p : Fin 4) (l : Fin 5) (er : LaneErrs) (n : BitVec 21) (k : Fin 4) (s : State), (∀ (x : SpareTx), (s.port ↑p).spTx = some x → s.pst ↑p =
      5 → x.k ≠ ↑k)) ∧
    (∃ (p : Fin 4) (l : Fin 5) (er : LaneErrs) (n : BitVec 21) (k : Fin 4) (s : State) (x : SpareRx) (got : List Symb), (s.port ↑p).spRx = some x
      ∧ s.pst ↑p = 5 ∧ (x.stage = 1 ∨ x.stage = 2 ∧ skpOk got = true)) ∧
    (∃ (p : Fin 4) (l : Fin 5) (er : LaneErrs) (n : BitVec 21) (k : Fin 4) (s : State) (x : SpareRx) (got : List Symb), skpOk got = true ∧
      (s.port ↑p).spRx = some x ∧ s.pst ↑p = 5 ∧ 3 ≤ x.stage ∧ x.k < 4 ∧ x.old < 5 ∧ x.spare < 5 ∧ x.old ≠ x.spare ∧ (s.inst
      (instKey 15 scPORT ↑p)).force = false ∧ s.getF (4 * 15) FLT_CLASS.LEVEL = 0) ∧
    (∃ (p : Fin 4) (l : Fin 5) (er : LaneErrs) (n : BitVec 21) (k : Fin 4) (s : State) (got : List Symb), s.pst ↑p = 5 ∧ ((s.port ↑p).spRx = none
      ∨ ∃ x, (s.port ↑p).spRx = some x ∧ x.stage = 0)) ∧
    (∃ (p : Fin 4) (l : Fin 5) (er : LaneErrs) (n : BitVec 21) (k : Fin 4) (s : State) (got : List Symb), s.pst ↑p = 5) ∧
    (∃ (p : Fin 4) (l : Fin 5) (er : LaneErrs) (n : BitVec 21) (k : Fin 4) (s : State), s.pst ↑p = 5 ∧ s.getF (pB ↑p) LNK_P_STATUS.RX_LS = 0 ∧
      (s.laneFails (↑p) er = true ∨ atLeast1 (s.getF (pB ↑p) LNK_P_THR.FAIL) ≤ n.toNat) ∧ s.lmap (↑p) false 4 ≠ 7 ∧ (s.port ↑p).spRx = none ∧ (∀
      x ∈ s.tests, x.unit ≠ 65600 + 5 * ↑p + s.lmap (↑p) false 4) ∧ (s.inst (instKey 14 scPORT ↑p)).force = false ∧ s.getF (4 * 14)
      FLT_CLASS.LEVEL = 0) ∧
    (∃ (p : Fin 4) (l : Fin 5) (er : LaneErrs) (n : BitVec 21) (k : Fin 4) (s : State) (syms : List (BitVec 10)), (s.pst ↑p ≠ 5 ∨ s.role (↑p)
      false ↑l ≠ 1 ∨ (symErrs ((s.port ↑p).lane ↑l).rd syms).1 < atLeast1 (s.getF (pB ↑p) LNK_P_THR.DEGR))) ∧
    (∃ (p : Fin 4) (l : Fin 5) (er : LaneErrs) (n : BitVec 21) (k : Fin 4) (s : State) (syms : List (BitVec 10)), s.pst ↑p = 5 ∧ s.role (↑p)
      false ↑l = 1 ∧ atLeast1 (s.getF (pB ↑p) LNK_P_THR.DEGR) ≤ (symErrs ((s.port ↑p).lane ↑l).rd syms).1 ∧ (s.inst (instKey 14 scPORT ↑p)).force
      = false ∧ s.getF (4 * 14) FLT_CLASS.LEVEL = 0) ∧
    (∃ (p : Fin 4) (l : Fin 5) (er : LaneErrs) (n : BitVec 21) (k : Fin 4) (s : State), s.mustWake ↑p = false ∧ s.getF (pB ↑p) LNK_P_STATUS.TX_LS
      = 0 ∧ s.getF (pB ↑p) LNK_P_SLEEP.DIM_IDLE ≠ 0) ∧
    (∃ (p : Fin 4) (l : Fin 5) (er : LaneErrs) (n : BitVec 21) (k : Fin 4) (s : State), s.mustWake ↑p = false ∧ (s.getF (pB ↑p)
      LNK_P_STATUS.TX_LS = 1 ∨ s.getF (pB ↑p) LNK_P_STATUS.TX_LS = 0 ∧ s.getF (pB ↑p) LNK_P_SLEEP.DIM_IDLE = 0) ∧ s.getF (pB ↑p)
      LNK_P_SLEEP.DARK_IDLE ≠ 0) ∧
    (∃ (p : Fin 4) (l : Fin 5) (er : LaneErrs) (n : BitVec 21) (k : Fin 4) (s : State) (dark : Bool), s.pst ↑p = 5) ∧
    (∃ (p : Fin 4) (l : Fin 5) (er : LaneErrs) (n : BitVec 21) (k : Fin 4) (s : State), s.pst ↑p = 5 ∧ s.getF (pB ↑p) LNK_P_STATUS.TX_LS ≠ 0) ∧
    (∃ (p : Fin 4) (l : Fin 5) (er : LaneErrs) (n : BitVec 21) (k : Fin 4) (s : State), s.pst ↑p = 5) ∧
    (∃ (p : Fin 4) (l : Fin 5) (er : LaneErrs) (n : BitVec 21) (k : Fin 4) (s : State), s.getF (pB ↑p) LNK_P_STATUS.TX_LS = 2) ∧
    (∃ (p : Fin 4) (l : Fin 5) (er : LaneErrs) (n : BitVec 21) (k : Fin 4) (s : State), s.getF (pB ↑p) LNK_P_STATUS.RX_LS = 2) ∧
    (∃ (p : Fin 4) (l : Fin 5) (er : LaneErrs) (n : BitVec 21) (k : Fin 4) (s : State) (i : Instr) (b : Bool), (i = Instr.beaconTimeout p ∧
      s.getF (pB ↑p) LNK_P_STATUS.RX_LS = 2 ∨ i = Instr.clockLaneLoss p b ∧ (s.getF (pB ↑p) LNK_P_STATUS.RX_LS = 0 ∨ s.getF (pB ↑p)
      LNK_P_STATUS.RX_LS = 1 ∧ b = false)) ∧ s.pst ↑p = 5) ∧
    (∃ (p : Fin 4) (l : Fin 5) (er : LaneErrs) (n : BitVec 21) (k : Fin 4) (s : State), s.pst ↑p = 5 ∧ s.getF (pB ↑p) LNK_P_STATUS.RX_LS = 1) :=
  ⟨⟨1, 2, { errs := 8 }, 8, 1, rx14 2 4 (fun q => { q with spRx := some (spx 0) }), .laneFail 1 (2, { errs := 8 }), .inl (by decide +kernel), by
    decide +kernel⟩,
   ⟨1, 2, { errs := 8 }, 8, 1, rx14 2 4 (fun q => { q with spRx := some (spx 0), stuck := 3 }), .sparingTimeout 1, .inr (.inl
     (by decide +kernel)), by decide +kernel⟩,
   ⟨1, 2, { errs := 8 }, 8, 1, up0, .spareFail (1, { errs := 8 }, 8), .inr (.inr (.inl (by decide +kernel)))⟩,
   ⟨1, 2, { errs := 8 }, 8, 1, rx14 2 4 id, 1, by decide +kernel⟩,
   ⟨1, 2, {}, 8, 1, rx14 2 4 id, by decide +kernel⟩,
   ⟨1, 2, { errs := 8 }, 8, 1, up0, by decide +kernel⟩,
   ⟨1, 2, { errs := 8 }, 8, 1, rx14 2 4 (fun q => { q with spRx := some (spx 0) }), spx 0, by decide +kernel⟩,
   ⟨1, 2, { errs := 8 }, 8, 1, up0, by decide +kernel⟩,
   ⟨1, 2, { errs := 8 }, 8, 1, rx14 2 4 (fun q => { q with spTx := some { k := 1 } }), { k := 1 }, by decide +kernel⟩,
   ⟨1, 2, { errs := 8 }, 8, 1, up0, by decide +kernel⟩,
   ⟨1, 2, { errs := 8 }, 8, 1, rx14 2 4 (fun q => { q with spRx := some (spx 2) }), spx 2, skpSet, by decide +kernel⟩,
   ⟨1, 2, { errs := 8 }, 8, 1, rx14 2 4 (fun q => { q with spRx := some (spx 3) }), spx 3, skpSet, by decide +kernel⟩,
   ⟨1, 2, { errs := 8 }, 8, 1, rx14 2 4 id, [], by decide +kernel⟩,
   ⟨1, 2, { errs := 8 }, 8, 1, rx14 2 4 id, [], by decide +kernel⟩,
   ⟨1, 2, { missed := 1 }, 8, 1, rx14 2 4 id, by decide +kernel⟩,
   ⟨1, 2, { errs := 8 }, 8, 1, rx14 2 4 id, [0x0FA, 0x3FF], by decide +kernel⟩,
   ⟨1, 2, { errs := 8 }, 8, 1, fld [(pB 1, LNK_P_THR.DEGR, 0)] (rx14 2 4 id), [0x0FA, 0x3FF], by decide +kernel⟩,
   ⟨1, 2, { errs := 8 }, 8, 1, fld [(pB 1, LNK_P_SLEEP.DIM_IDLE, 5)] (rx14 2 4 id), by decide +kernel⟩,
   ⟨1, 2, { errs := 8 }, 8, 1, fld [(pB 1, LNK_P_STATUS.TX_LS, 1), (pB 1, LNK_P_SLEEP.DARK_IDLE, 5)] (rx14 2 4 id), by decide +kernel⟩,
   ⟨1, 2, { errs := 8 }, 8, 1, rx14 2 4 id, true, by decide +kernel⟩,
   ⟨1, 2, { errs := 8 }, 8, 1, fld [(pB 1, LNK_P_STATUS.TX_LS, 1)] (rx14 2 4 id), by decide +kernel⟩,
   ⟨1, 2, { errs := 8 }, 8, 1, fld [(pB 1, LNK_P_STATUS.RX_LS, 1)] (rx14 2 4 (fun q => { q with lanes := [(2, { rd := true })] })), by
     decide +kernel⟩,
   ⟨1, 2, { errs := 8 }, 8, 1, fld [(pB 1, LNK_P_STATUS.TX_LS, 2)] (rx14 2 4 id), by decide +kernel⟩,
   ⟨1, 2, { errs := 8 }, 8, 1, fld [(pB 1, LNK_P_STATUS.RX_LS, 2)] (rx14 2 4 id), by decide +kernel⟩,
   ⟨1, 2, { errs := 8 }, 8, 1, fld [(pB 1, LNK_P_STATUS.RX_LS, 2)] (rx14 2 4 id), .beaconTimeout 1, true, by decide +kernel⟩,
   ⟨1, 2, { errs := 8 }, 8, 1, fld [(pB 1, LNK_P_STATUS.RX_LS, 1)] (rx14 2 4 id), by decide +kernel⟩⟩

/-! Links: packets. -/

def up15 (f : Port → Port) : State := pt 1 5 (fun q => f { q with exp := 7 }) (fld [(0, LNK_ID.VALID, 1), (0, LNK_ID.ID, 3), (0, LNK_RTH.VALID, 1), (0, LNK_RTH.PORT, 2), (pB 1, LNK_P_STATUS.UP, 1), (pB 2, LNK_P_STATUS.UP, 1), (0, LNK_RT.ENTRIES, 0xA0)] up0)

def col15 : List (List Symb) := [[.k .sop, .d 1, .d 2, .k .eop]]

def tp15 (typ : Byte) (dst : BitVec 6) : Tp := { typ := typ, dst := dst, src := 0x3F, len := 1, tag := 5, addr := 0x100, ttl := 3, data := [77] }

/-- Concrete states and operands that meet, clause by clause, the hypotheses of `Obligations.PacketArrivalRows`. -/
theorem test_wit_PacketArrivalRows :
    (∃ (p : Fin 4) (seq : BitVec 12) (cols : List (List Symb)) (ecc : List (Fin 64 × Bool)) (tp : Tp) (s : State) (crc : Option Word)
      (lp : Option Lp), (s.linked ↑p = false ∨ framed cols = { errs := 0, lost := 0, inside := none, last := some KChar.edb })) ∧
    (∃ (p : Fin 4) (seq : BitVec 12) (cols : List (List Symb)) (ecc : List (Fin 64 × Bool)) (tp : Tp) (s : State) (crc : Option Word)
      (lp : Option Lp), s.linked ↑p = true ∧ (framed cols).last ≠ some KChar.eop ∧ (framed cols).lost = 0) ∧
    (∃ (p : Fin 4) (seq : BitVec 12) (cols : List (List Symb)) (ecc : List (Fin 64 × Bool)) (tp : Tp) (s : State) (crc : Option Word)
      (lp : Option Lp), s.linked ↑p = true ∧ (framed cols).last ≠ some KChar.eop ∧ (framed cols).lost ≠ 0 ∧ (s.port ↑p).nak = false) ∧
    (∃ (p : Fin 4) (seq : BitVec 12) (cols : List (List Symb)) (ecc : List (Fin 64 × Bool)) (tp : Tp) (s : State) (crc : Option Word) (l : Lp),
      clean cols = true ∧ s.linked ↑p = true ∧ crc ≠ some l.crc) ∧
    (∃ (p : Fin 4) (seq : BitVec 12) (cols : List (List Symb)) (ecc : List (Fin 64 × Bool)) (tp : Tp) (s : State) (crc : Option Word), clean cols
      = true ∧ s.linked ↑p = true ∧ crc ≠ some (tp.crc seq)) ∧
    (∃ (p : Fin 4) (seq : BitVec 12) (cols : List (List Symb)) (ecc : List (Fin 64 × Bool)) (tp : Tp) (s : State), clean cols = true ∧ s.linked
      ↑p = true ∧ 2048 ≤ (seq.toNat + 4096 - (s.port ↑p).exp) % 4096) ∧
    (∃ (p : Fin 4) (seq : BitVec 12) (cols : List (List Symb)) (ecc : List (Fin 64 × Bool)) (tp : Tp) (s : State), clean cols = true ∧ s.linked
      ↑p = true ∧ 0 < (seq.toNat + 4096 - (s.port ↑p).exp) % 4096 ∧ (seq.toNat + 4096 - (s.port ↑p).exp) % 4096 < 2048 ∧ (s.port ↑p).nak = false)
      ∧
    (∃ (p : Fin 4) (seq : BitVec 12) (cols : List (List Symb)) (ecc : List (Fin 64 × Bool)) (tp : Tp) (s : State), clean cols = true ∧ s.linked
      ↑p = true ∧ (seq.toNat + 4096 - (s.port ↑p).exp) % 4096 = 0 ∧ advUnits.get tp.cls < s.heldUnits (↑p) tp.cls + tp.units ∧ (s.port ↑p).stuck
      < 3) ∧
    (∃ (p : Fin 4) (seq : BitVec 12) (cols : List (List Symb)) (ecc : List (Fin 64 × Bool)) (tp : Tp) (s : State), clean cols = true ∧ s.linked
      ↑p = true ∧ (seq.toNat + 4096 - (s.port ↑p).exp) % 4096 = 0 ∧ s.heldUnits (↑p) tp.cls + tp.units ≤ advUnits.get tp.cls ∧ tp.malformed =
      true) ∧
    (∃ (p : Fin 4) (seq : BitVec 12) (cols : List (List Symb)) (ecc : List (Fin 64 × Bool)) (tp : Tp) (s : State), clean cols = true ∧ s.linked
      ↑p = true ∧ (seq.toNat + 4096 - (s.port ↑p).exp) % 4096 = 0 ∧ s.heldUnits (↑p) tp.cls + tp.units ≤ advUnits.get tp.cls ∧ tp.malformed =
      false ∧ tp.isEnum = false ∧ s.hasId = false) ∧
    (∃ (p : Fin 4) (seq : BitVec 12) (cols : List (List Symb)) (ecc : List (Fin 64 × Bool)) (tp : Tp) (s : State), clean cols = true ∧ s.linked
      ↑p = true ∧ (seq.toNat + 4096 - (s.port ↑p).exp) % 4096 = 0 ∧ s.heldUnits (↑p) tp.cls + tp.units ≤ advUnits.get tp.cls ∧ tp.malformed =
      false ∧ tp.isEnum = false ∧ s.hasId = true ∧ tp.dst.toNat ≠ s.getF 0 LNK_ID.ID ∧ tp.ttl = 0) ∧
    (∃ (p : Fin 4) (seq : BitVec 12) (cols : List (List Symb)) (ecc : List (Fin 64 × Bool)) (tp : Tp) (s : State) (e : Nat), clean cols = true ∧
      s.linked ↑p = true ∧ (seq.toNat + 4096 - (s.port ↑p).exp) % 4096 = 0 ∧ s.heldUnits (↑p) tp.cls + tp.units ≤ advUnits.get tp.cls ∧
      tp.malformed = false ∧ tp.isEnum = false ∧ s.hasId = true ∧ tp.dst.toNat ≠ s.getF 0 LNK_ID.ID ∧ tp.ttl ≠ 0 ∧ s.route tp.dst.toNat = some e
      ∧ s.isUp e = true ∧ e ≠ ↑p) ∧
    (∃ (p : Fin 4) (seq : BitVec 12) (cols : List (List Symb)) (ecc : List (Fin 64 × Bool)) (tp : Tp) (s : State), clean cols = true ∧ s.linked
      ↑p = true ∧ (seq.toNat + 4096 - (s.port ↑p).exp) % 4096 = 0 ∧ s.heldUnits (↑p) tp.cls + tp.units ≤ advUnits.get tp.cls ∧ tp.malformed =
      false ∧ tp.isEnum = false ∧ s.hasId = true ∧ tp.dst.toNat ≠ s.getF 0 LNK_ID.ID ∧ tp.ttl ≠ 0 ∧ (∀ (e : Nat), s.route tp.dst.toNat = some e →
      s.isUp e = false ∨ e = ↑p)) :=
  ⟨⟨1, 7, [], [], tp15 0x20 3, up0, none, none, by decide +kernel⟩,
   ⟨1, 7, [[.d 1, .k .skp]], [], tp15 0x20 3, up15 id, none, none, by decide +kernel⟩,
   ⟨1, 7, [[.k .sop, .d 1], [.k .sop, .d 2]], [], tp15 0x20 3, up15 id, none, none, by decide +kernel⟩,
   ⟨1, 7, col15, [], tp15 0x20 3, up15 id, some 0, { typ := 1, d0 := 0, d1 := 0 }, by decide +kernel⟩,
   ⟨1, 7, col15, [], tp15 0x20 3, up15 id, none, by decide +kernel⟩,
   ⟨1, 4, col15, [], tp15 0x20 3, up15 id, by decide +kernel⟩,
   ⟨1, 9, col15, [], tp15 0x20 3, up15 id, by decide +kernel⟩,
   ⟨1, 7, col15, [], tp15 0x20 3, (up15 id).modPort 2 (fun q => { q with wait := List.replicate 32 (1, tp15 0x20 3) }), by decide +kernel⟩,
   ⟨1, 7, col15, [], { tp15 0x20 3 with rsv := 1 }, up15 id, by decide +kernel⟩,
   ⟨1, 7, col15, [], tp15 0x20 3, fld [(0, LNK_ID.VALID, 0)] (up15 id), by decide +kernel⟩,
   ⟨1, 7, col15, [], { tp15 0x20 1 with ttl := 0 }, up15 id, by decide +kernel⟩,
   ⟨1, 7, col15, [], tp15 0x20 1, up15 id, 2, by decide +kernel⟩,
   ⟨1, 7, col15, [], tp15 0x20 4, up15 id, by decide +kernel⟩⟩

def rd15 : Read := { tag := 5, sq := 1, addr := 0x100, len := 16 }

def cd15 : Tp := { tp15 0x31 3 with len := 16, data := List.replicate 16 9 }

def en15 (op : Nat) (h : Nat) (id : Nat) : Tp := { typ := 0x50, dst := 0, src := 0, len := 8, tag := 5, addr := BitVec.ofNat 48 (op * 65536 + h), ttl := 0, data := [0, 0, 0, 0, BitVec.ofNat 32 id, 0, 0, 0] }

/-- Concrete states and operands that meet, clause by clause, the hypotheses of `Obligations.PacketConsumptionRows`. -/
theorem test_wit_PacketConsumptionRows :
    (∃ (p : Fin 4) (seq : BitVec 12) (cols : List (List Symb)) (ecc : List (Fin 64 × Bool)) (tp : Tp) (s : State), clean cols = true ∧ s.linked
      ↑p = true ∧ seq.toNat = (s.port ↑p).exp ∧ s.heldUnits (↑p) tp.cls + tp.units ≤ advUnits.get tp.cls ∧ tp.malformed = false ∧ tp.isEnum =
      false ∧ s.hasId = true ∧ tp.dst.toNat = s.getF 0 LNK_ID.ID ∧ (tp.typ = 16 ∨ tp.typ = 17)) ∧
    (∃ (p : Fin 4) (seq : BitVec 12) (cols : List (List Symb)) (ecc : List (Fin 64 × Bool)) (tp : Tp) (s : State), clean cols = true ∧ s.linked
      ↑p = true ∧ seq.toNat = (s.port ↑p).exp ∧ s.heldUnits (↑p) tp.cls + tp.units ≤ advUnits.get tp.cls ∧ tp.malformed = false ∧ tp.isEnum =
      false ∧ s.hasId = true ∧ tp.dst.toNat = s.getF 0 LNK_ID.ID ∧ (tp.typ = 32 ∨ tp.typ = 33) ∧ tp.past = true) ∧
    (∃ (p : Fin 4) (seq : BitVec 12) (cols : List (List Symb)) (ecc : List (Fin 64 × Bool)) (tp : Tp) (s : State), clean cols = true ∧ s.linked
      ↑p = true ∧ seq.toNat = (s.port ↑p).exp ∧ s.heldUnits (↑p) tp.cls + tp.units ≤ advUnits.get tp.cls ∧ tp.malformed = false ∧ tp.isEnum =
      false ∧ s.hasId = true ∧ tp.dst.toNat = s.getF 0 LNK_ID.ID ∧ tp.typ = 32 ∧ tp.len = 1 ∧ tp.addr.toNat = pB ↑p + LNK_P_TXPRESET.PRE.off ∧
      s.writeOk (pB ↑p + LNK_P_TXPRESET.PRE.off) = true) ∧
    (∃ (p : Fin 4) (seq : BitVec 12) (cols : List (List Symb)) (ecc : List (Fin 64 × Bool)) (tp : Tp) (s : State), clean cols = true ∧ s.linked
      ↑p = true ∧ seq.toNat = (s.port ↑p).exp ∧ s.heldUnits (↑p) tp.cls + tp.units ≤ advUnits.get tp.cls ∧ tp.malformed = false ∧ tp.isEnum =
      false ∧ s.hasId = true ∧ tp.dst.toNat = s.getF 0 LNK_ID.ID ∧ tp.typ = 33 ∧ tp.len = 1 ∧ tp.addr.toNat = pB ↑p + LNK_P_TXPRESET.PRE.off ∧
      s.readOk (pB ↑p + LNK_P_TXPRESET.PRE.off) = true) ∧
    (∃ (p : Fin 4) (seq : BitVec 12) (cols : List (List Symb)) (ecc : List (Fin 64 × Bool)) (tp : Tp) (s : State), clean cols = true ∧ s.linked
      ↑p = true ∧ seq.toNat = (s.port ↑p).exp ∧ s.heldUnits (↑p) tp.cls + tp.units ≤ advUnits.get tp.cls ∧ tp.malformed = false ∧ tp.isEnum =
      false ∧ s.hasId = true ∧ tp.dst.toNat = s.getF 0 LNK_ID.ID ∧ tp.typ ∉ [16, 17, 32, 33] ∧ (∀ r ∈ s.reads, r.tag ≠ tp.tag.toNat)) ∧
    (∃ (p : Fin 4) (seq : BitVec 12) (cols : List (List Symb)) (ecc : List (Fin 64 × Bool)) (tp : Tp) (s : State) (r : Read), clean cols = true ∧
      s.linked ↑p = true ∧ seq.toNat = (s.port ↑p).exp ∧ s.heldUnits (↑p) tp.cls + tp.units ≤ advUnits.get tp.cls ∧ tp.malformed = false ∧
      tp.isEnum = false ∧ s.hasId = true ∧ tp.dst.toNat = s.getF 0 LNK_ID.ID ∧ tp.typ = 49 ∧ tp.status = 0 ∧ List.find?
      (fun x => x.tag == tp.tag.toNat) s.reads = some r ∧ r.sq < 64 ∧ r.got = [] ∧ r.len = tp.data.length ∧ r.addr = tp.addr.toNat) ∧
    (∃ (p : Fin 4) (seq : BitVec 12) (cols : List (List Symb)) (ecc : List (Fin 64 × Bool)) (tp : Tp) (s : State) (id : Nat), clean cols = true ∧
      s.linked ↑p = true ∧ seq.toNat = (s.port ↑p).exp ∧ s.heldUnits (↑p) tp.cls + tp.units ≤ advUnits.get tp.cls ∧ tp.malformed = false ∧ tp.typ
      = 80 ∧ tp.ptr = tp.hops ∧ tp.enumOp = 1 ∧ id = bits (BitVec.toNat (tp.data.getD 4 0)) 5 0 ∧ id ≤ 31 ∧ (s.hasId = false ∨ s.getF 0 LNK_ID.ID
      = id ∨ bitB (BitVec.toNat (tp.data.getD 4 0)) 7 = true)) ∧
    (∃ (p : Fin 4) (seq : BitVec 12) (cols : List (List Symb)) (ecc : List (Fin 64 × Bool)) (tp : Tp) (s : State), clean cols = true ∧ s.linked
      ↑p = true ∧ seq.toNat = (s.port ↑p).exp ∧ s.heldUnits (↑p) tp.cls + tp.units ≤ advUnits.get tp.cls ∧ tp.malformed = false ∧ tp.typ = 80 ∧
      tp.ptr = tp.hops ∧ tp.enumOp = 2) ∧
    (∃ (p : Fin 4) (seq : BitVec 12) (cols : List (List Symb)) (ecc : List (Fin 64 × Bool)) (tp : Tp) (s : State), clean cols = true ∧ s.linked
      ↑p = true ∧ seq.toNat = (s.port ↑p).exp ∧ s.heldUnits (↑p) tp.cls + tp.units ≤ advUnits.get tp.cls ∧ tp.malformed = false ∧ tp.typ = 80 ∧
      tp.ptr = tp.hops ∧ (tp.enumOp = 0 ∨ tp.enumOp = 3 ∨ tp.enumOp = 1 ∧ 31 < bits (BitVec.toNat (tp.data.getD 4 0)) 5 0)) ∧
    (∃ (p : Fin 4) (seq : BitVec 12) (cols : List (List Symb)) (ecc : List (Fin 64 × Bool)) (tp : Tp) (s : State), clean cols = true ∧ s.linked
      ↑p = true ∧ seq.toNat = (s.port ↑p).exp ∧ s.heldUnits (↑p) tp.cls + tp.units ≤ advUnits.get tp.cls ∧ tp.malformed = false ∧ tp.isEnum =
      true ∧ tp.ptr < tp.hops ∧ s.isUp (routeEntry tp.route tp.ptr) = true ∧ routeEntry tp.route tp.ptr ≠ ↑p) ∧
    (∃ (p : Fin 4) (seq : BitVec 12) (cols : List (List Symb)) (ecc : List (Fin 64 × Bool)) (tp : Tp) (s : State), clean cols = true ∧ s.linked
      ↑p = true ∧ seq.toNat = (s.port ↑p).exp ∧ s.heldUnits (↑p) tp.cls + tp.units ≤ advUnits.get tp.cls ∧ tp.malformed = false ∧ tp.isEnum =
      false ∧ s.hasId = true ∧ tp.dst.toNat = s.getF 0 LNK_ID.ID ∧ tp.typ = 32 ∧ tp.len = 1 ∧ tp.asksReset = true ∧ s.writeOk GLB_RESET.KEY.off =
      true ∧ s.off = false) :=
  ⟨⟨1, 7, col15, [], { tp15 0x11 3 with data := [] }, up15 id, by decide +kernel⟩,
   ⟨1, 7, col15, [], { tp15 0x20 3 with addr := 0x4000000 }, up15 id, by decide +kernel⟩,
   ⟨1, 7, col15, [], { tp15 0x20 3 with addr := BitVec.ofNat 48 (pB 1 + LNK_P_TXPRESET.PRE.off) }, up15 id, by decide +kernel⟩,
   ⟨1, 7, col15, [], { tp15 0x21 3 with data := [], addr := BitVec.ofNat 48 (pB 1 + LNK_P_TXPRESET.PRE.off) }, up15 id, by decide +kernel⟩,
   ⟨1, 7, col15, [], { tp15 0x30 3 with len := 0, data := [] }, up15 id, by decide +kernel⟩,
   ⟨1, 7, col15, [], cd15, { up15 id with reads := [rd15] }, rd15, by decide +kernel⟩,
   ⟨1, 7, col15, [], en15 1 0 3, up15 id, 3, by decide +kernel⟩,
   ⟨1, 7, col15, [], en15 2 0 3, up15 id, by decide +kernel⟩,
   ⟨1, 7, col15, [], en15 0 0 3, up15 id, by decide +kernel⟩,
   ⟨1, 7, col15, [], { en15 0 2 3 with data := [2, 0, 0, 0, 0, 0, 0, 0] }, up15 id, by decide +kernel⟩,
   ⟨1, 7, col15, [], { tp15 0x20 3 with addr := 0x20, data := [0x5AFE0001] }, up15 id, by decide +kernel⟩⟩

def tx15 (n k : Nat) : Tx := { seq := n, from_ := 4, tp := tp15 0x20 1, tries := k }

def lp15 (n : BitVec 4) : Lp := { typ := n, d0 := 3 + 256, d1 := 0x50007 }

/-- Concrete states and operands that meet, clause by clause, the hypotheses of `Obligations.LinkPacketRows`. -/
theorem test_wit_LinkPacketRows :
    (∃ (p : Fin 4) (seq : BitVec 12) (s : State), s.linked ↑p = true) ∧
    (∃ (p : Fin 4) (seq : BitVec 12) (s : State), s.linked ↑p = true ∧ (if (List.filter (fun x => decide (2048 ≤ (seq.toNat + 4096 - x.seq) %
      4096)) (s.port ↑p).replay).length < (s.port ↑p).replay.length then
      { s.port ↑p with replay := List.map (fun x => { x with tries := 0 }) (List.filter (fun x => decide (2048 ≤ (seq.toNat + 4096 - x.seq) % 4096)) (s.port ↑p).replay), stuck := 0 }
      else s.port ↑p).replay = []) ∧
    (∃ (p : Fin 4) (seq : BitVec 12) (s : State) (x : Tx) (r : List Tx), s.linked ↑p = true ∧ (if (List.filter (fun x => decide (2048 ≤
      (seq.toNat + 4096 - x.seq) % 4096)) (s.port ↑p).replay).length < (s.port ↑p).replay.length then
      { s.port ↑p with replay := List.map (fun x => { x with tries := 0 }) (List.filter (fun x => decide (2048 ≤ (seq.toNat + 4096 - x.seq) % 4096)) (s.port ↑p).replay), stuck := 0 }
      else s.port ↑p).replay = x :: r ∧ x.tries < 3) ∧
    (∃ (p : Fin 4) (seq : BitVec 12) (s : State), s.pst ↑p = 5 ∧ (s.port ↑p).replay = []) ∧
    (∃ (p : Fin 4) (seq : BitVec 12) (s : State) (x : Tx) (r : List Tx), s.pst ↑p = 5 ∧ (s.port ↑p).replay = x :: r ∧ x.tries < 3) ∧
    (∃ (p : Fin 4) (seq : BitVec 12) (s : State) (x : Tx) (r : List Tx), s.pst ↑p = 5 ∧ (s.port ↑p).replay = x :: r ∧ 3 ≤ x.tries ∧
      (s.port ↑p).stuck < 3) ∧
    (∃ (p : Fin 4) (seq : BitVec 12) (s : State) (cp : BitVec 16) (cn : BitVec 16) (cc : BitVec 16), s.linked ↑p = true) ∧
    (∃ (p : Fin 4) (seq : BitVec 12) (s : State) (cp : BitVec 16) (cn : BitVec 16) (cc : BitVec 16), s.linked ↑p = true) ∧
    (∃ (p : Fin 4) (seq : BitVec 12) (s : State), s.pst ↑p = 5 ∧ ((s.port ↑p).acc ≠ 0 ∨ (s.port ↑p).ackDue = true)) ∧
    (∃ (p : Fin 4) (seq : BitVec 12) (s : State), s.pst ↑p = 5 ∧ s.getF (pB ↑p) LNK_P_STATUS.TX_LS = 0) ∧
    (∃ (p : Fin 4) (seq : BitVec 12) (s : State) (i : Instr), ((i = Instr.ackReceive p seq ∨ i = Instr.nakReceive p seq ∨ ∃ b cp cn cc, i =
      Instr.creditReceive p b cp cn cc) ∧ s.linked ↑p = false ∨ i = Instr.ackTimer p ∧ (s.pst ↑p ≠ 5 ∨ (s.port ↑p).acc = 0 ∧ (s.port ↑p).ackDue =
      false) ∨ i = Instr.replayTimeout p ∧ s.pst ↑p ≠ 5 ∨ i = Instr.creditUpdate p ∧ (s.pst ↑p ≠ 5 ∨ s.getF (pB ↑p) LNK_P_STATUS.TX_LS ≠ 0) ∨ i =
      Instr.portDown p ∧ (s.port ↑p).fell = false)) ∧
    (∃ (p : Fin 4) (seq : BitVec 12) (s : State), (s.port ↑p).fell = true) ∧
    (∃ (p : Fin 4) (seq : BitVec 12) (s : State) (x : Lp) (sq : BitVec 12) (cols : List (List Symb)) (ecc : List (Fin 64 × Bool)) (tp : Tp),
      clean cols = true ∧ s.linked ↑p = true ∧ x.typ = 1 ∧ bits x.d0.toNat 11 0 = seq.toNat) ∧
    (∃ (p : Fin 4) (seq : BitVec 12) (s : State) (x : Lp) (sq : BitVec 12) (cols : List (List Symb)) (ecc : List (Fin 64 × Bool)) (tp : Tp),
      clean cols = true ∧ s.linked ↑p = true ∧ x.typ = 3 ∧ bitB x.d0.toNat 0 = true) ∧
    (∃ (p : Fin 4) (seq : BitVec 12) (s : State) (x : Lp) (sq : BitVec 12) (cols : List (List Symb)) (ecc : List (Fin 64 × Bool)) (tp : Tp),
      clean cols = true ∧ s.linked ↑p = true ∧ (x.typ = 0 ∨ 4 ≤ x.typ.toNat)) :=
  ⟨⟨1, 3, up15 (fun q => { q with replay := [tx15 3 1, tx15 4 0] }), by decide +kernel⟩,
   ⟨1, 4, up15 (fun q => { q with replay := [tx15 3 1, tx15 4 0] }), by decide +kernel⟩,
   ⟨1, 3, up15 (fun q => { q with replay := [tx15 3 1, tx15 4 0] }), { tx15 4 0 with tries := 0 }, [], by decide +kernel⟩,
   ⟨1, 4, up15 id, by decide +kernel⟩,
   ⟨1, 4, up15 (fun q => { q with replay := [tx15 3 1, tx15 4 0] }), tx15 3 1, [tx15 4 0], by decide +kernel⟩,
   ⟨1, 4, up15 (fun q => { q with replay := [tx15 3 3, tx15 4 0] }), tx15 3 3, [tx15 4 0], by decide +kernel⟩,
   ⟨1, 4, up15 id, 1, 2, 3, by decide +kernel⟩,
   ⟨1, 4, up15 id, 1, 2, 3, by decide +kernel⟩,
   ⟨1, 4, up15 (fun q => { q with acc := 2 }), by decide +kernel⟩,
   ⟨1, 4, up15 id, by decide +kernel⟩,
   ⟨1, 4, up0, .ackReceive 1 4, by decide +kernel⟩,
   ⟨1, 4, up15 (fun q => { q with fell := true, replay := [tx15 3 1], wait := [(2, tp15 0x20 1)] }), by decide +kernel⟩,
   ⟨1, 259, up15 (fun q => { q with replay := [tx15 3 1, tx15 4 0] }), lp15 1, 0, col15, [], tp15 0x20 1, by decide +kernel⟩,
   ⟨1, 3, up15 id, lp15 3, 0, col15, [], tp15 0x20 1, by decide +kernel⟩,
   ⟨1, 3, up15 id, lp15 0, 0, col15, [], tp15 0x20 1, by decide +kernel⟩⟩

/-! Rules over several commands. -/

/-- Concrete states and operands that meet, clause by clause, the hypotheses of `Obligations.TestEnds`. -/
theorem test_wit_TestEnds :
    ∃ (p : Fin 4) (l : Fin 5) (s : State), s.pst ↑p = 10 ∧ s.isSet (lB ↑p ↑l) LNK_P_L_CFG.NEARLB = true ∧ s.writeOk
      (lB ↑p ↑l + LNK_P_L_CFG.INJ.off) = true :=
  ⟨1, 2, pt 1 10 id (fld [(lB 1 2, LNK_P_L_CFG.NEARLB, 1)] up0), by decide +kernel⟩

/-- Concrete states and operands that meet, clause by clause, the hypotheses of `Obligations.TransferStartsPass`. -/
theorem test_wit_TransferStartsPass :
    ∃ (x : Fin 8) (s : State), s.commitPend = true ∧ s.anyStaged = true ∧ s.stagedXfer.testBit ↑x = true :=
  ⟨2, { up0 with commitPend := true, stagedXfer := 4, stagedTiles := [2] }, by decide +kernel⟩

/-- Concrete states and operands that meet, clause by clause, the hypotheses of `Obligations.UnsparedLane`. -/
theorem test_wit_UnsparedLane :
    ∃ (p : Fin 4) (l : Fin 5) (er : LaneErrs) (s : State), s.pst ↑p = 5 ∧ s.getF (pB ↑p) LNK_P_STATUS.RX_LS = 0 ∧ s.role (↑p) false ↑l = 1 ∧
      s.laneFails (↑p) er = true ∧ (s.lmap (↑p) false 4 = 7 ∨ (s.port ↑p).spRx ≠ none) ∧ (s.port ↑p).stuck < 3 :=
  ⟨1, 2, { errs := 8 }, fld [(lB 1 2, LNK_P_L_STATUS.RXROLE, 1), (pB 1, LNK_P_MAP.RXSP, 7)] (pt 1 5 id up0), by decide +kernel⟩

/-! The general rules. -/

/-- A queue with a command at its front, and an empty one. -/
theorem test_wit_StepRunsFront :
    (∃ (c : Instr) (l : List Instr) (s : State), s.pending = c :: l) ∧ ∃ s : State, s.pending = [] :=
  ⟨⟨.bootStart, [.idcode], { up0 with pending := [.bootStart, .idcode] }, rfl⟩, State.reset, rfl⟩

/-- A well-formed state whose step answers. -/
theorem test_wit_StepKeepsWf : ∃ s t : State, s.Wf ∧ step s = .next t :=
  ⟨{ up0 with pending := [.idcode] }, _, wf_of (by decide +kernel), rfl⟩

/-- The time base within its 56 bits. -/
theorem test_wit_EveryCommandCompletes : ∃ s : State, s.tb < 2 ^ 56 := ⟨up0, by decide +kernel⟩

end Sys2Proof.Tests
end

section
/-! PROOFS. Every step keeps the canonical form, and every command answers a next state: the meanings' own `_kept` lemmas and the shapes of
their definitions, put together along the dispatch. Settles O58, O59, O60. -/

namespace Sys2Proof.Machine

open Sys2Proof (Instr)

/-! ### Every command keeps what `State.Kept` says -/

/-- Arm by arm, as the dispatch names the meanings. -/
theorem exec_kept (i : Instr) (s : State) : Res.Kept s (exec i s) :=
  match i with
  | .powerOn => execPowerOn_kept (.refl s)
  | .resetWindowExit rail => execResetWindowExit_kept (.refl s) rail
  | .supplyWindowExit rail mv => execSupplyWindowExit_kept (.refl s) rail mv
  | .perstNAssert => execPerstNAssert_kept (.refl s)
  | .bootStart => execBootStart_kept (.refl s)
  | .bootPhaseComplete inp => execBootPhaseComplete_kept (.refl s) inp
  | .refclkLoss periods pll => execRefclkLoss_kept (.refl s) periods pll
  | .refclkRecovery => execRefclkRecovery_kept (.refl s)
  | .lockstepMismatch => execLockstepMismatch_kept (.refl s)
  | .svcReq black => execSvcReq_kept (.refl s) black
  | .serviceEntry => execServiceEntry_kept (.refl s)
  | .svcExit => execSvcExit_kept (.refl s)
  | .serviceExitEffect => execServiceExitEffect_kept (.refl s)
  | .sramScrub region unit word err => execSramScrub_kept (.refl s) region unit word err
  | .registerWrite a w spb => execRegisterWrite_kept (.refl s) a w spb
  | .loReadLatch a => execLoReadLatch_kept (.refl s) a
  | .nop cmd => execNop_kept (.refl s) cmd
  | .fence cmd => execFence_kept (.refl s) cmd
  | .chConfig cmd => execChConfig_kept (.refl s) cmd
  | .chForce cmd => execChForce_kept (.refl s) cmd
  | .chMeasureStart cmd => execChMeasureStart_kept (.refl s) cmd
  | .chMeasureStop cmd => execChMeasureStop_kept (.refl s) cmd
  | .chMeasureInject cmd => execChMeasureInject_kept (.refl s) cmd
  | .chSweep cmd => execChSweep_kept (.refl s) cmd
  | .chSine cmd => execChSine_kept (.refl s) cmd
  | .chContact cmd => execChContact_kept (.refl s) cmd
  | .chRelease cmd => execChRelease_kept (.refl s) cmd
  | .seqLoad cmd data failed => execSeqLoad_kept (.refl s) cmd data failed
  | .seqRun cmd => execSeqRun_kept (.refl s) cmd
  | .seqStream cmd => execSeqStream_kept (.refl s) cmd
  | .seqStop cmd => execSeqStop_kept (.refl s) cmd
  | .groupBind cmd => execGroupBind_kept (.refl s) cmd
  | .seqJump cmd => execSeqJump_kept (.refl s) cmd
  | .apgLoad cmd data failed => execApgLoad_kept (.refl s) cmd data failed
  | .apgRun cmd => execApgRun_kept (.refl s) cmd
  | .failDump cmd => execFailDump_kept (.refl s) cmd
  | .trigArm cmd => execTrigArm_kept (.refl s) cmd
  | .captureDump cmd => execCaptureDump_kept (.refl s) cmd
  | .statsReadStart cmd => execStatsReadStart_kept (.refl s) cmd
  | .statsReadPeek cmd => execStatsReadPeek_kept (.refl s) cmd
  | .calAnchor cmd => execCalAnchor_kept (.refl s) cmd
  | .calRotatePass cmd => execCalRotatePass_kept (.refl s) cmd
  | .calRotateChannels cmd => execCalRotateChannels_kept (.refl s) cmd
  | .calRotateRequalify cmd row => execCalRotateRequalify_kept (.refl s) cmd row
  | .calRotateRemap cmd => execCalRotateRemap_kept (.refl s) cmd
  | .calRotateUnmap cmd => execCalRotateUnmap_kept (.refl s) cmd
  | .calCommit cmd => execCalCommit_kept (.refl s) cmd
  | .calDiscard cmd => execCalDiscard_kept (.refl s) cmd
  | .calArchive cmd => execCalArchive_kept (.refl s) cmd
  | .calRead cmd => execCalRead_kept (.refl s) cmd
  | .selftest cmd => execSelftest_kept (.refl s) cmd
  | .faultAck cmd => execFaultAck_kept (.refl s) cmd
  | .abort cmd => execAbort_kept (.refl s) cmd
  | .diagEcho cmd => execDiagEcho_kept (.refl s) cmd
  | .diagRegs cmd ecc => execDiagRegs_kept (.refl s) cmd ecc
  | .diagBlackbox cmd => execDiagBlackbox_kept (.refl s) cmd
  | .sqDoorbell n w => execSqDoorbell_kept (.refl s) n w
  | .descriptorIntake n => execDescriptorIntake_kept (.refl s) n
  | .descriptorReadError n => execDescriptorReadError_kept (.refl s) n
  | .commandAdmit => execCommandAdmit_kept (.refl s)
  | .holdLimitExpire n => execHoldLimitExpire_kept (.refl s) n
  | .sliceEnd cmd => execSliceEnd_kept (.refl s) cmd
  | .completionWrite cmd energy => execCompletionWrite_kept (.refl s) cmd energy
  | .cqDoorbell m w => execCqDoorbell_kept (.refl s) m w
  | .sqEnable n w => execSqEnable_kept (.refl s) n w
  | .sqDisable n w => execSqDisable_kept (.refl s) n w
  | .cqEnable m w => execCqEnable_kept (.refl s) m w
  | .cqDisable m w => execCqDisable_kept (.refl s) m w
  | .safeValueStep u far => execSafeValueStep_kept (.refl s) u far
  | .sweepDwellEnd cmd => execSweepDwellEnd_kept (.refl s) cmd
  | .clampAction u limits => execClampAction_kept (.refl s) u limits
  | .shortCircuitLimit u => execShortCircuitLimit_kept (.refl s) u
  | .kelvinMonitorTrip u seen => execKelvinMonitorTrip_kept (.refl s) u seen
  | .contactPhaseStep cmd volts => execContactPhaseStep_kept (.refl s) cmd volts
  | .sineEnSet u w => execSineEnSet_kept (.refl s) u w
  | .sineApply u w => execSineApply_kept (.refl s) u w
  | .sineEnClear u w => execSineEnClear_kept (.refl s) u w
  | .sineUpdate u => execSineUpdate_kept (.refl s) u
  | .sineEpochStart u delta => execSineEpochStart_kept (.refl s) u delta
  | .sineZcStop u => execSineZcStop_kept (.refl s) u
  | .adcStart u w => execAdcStart_kept (.refl s) u w
  | .adcStop u w => execAdcStop_kept (.refl s) u w
  | .adcInject u w => execAdcInject_kept (.refl s) u w
  | .adcSampleEnd u => execAdcSampleEnd_kept (.refl s) u
  | .adcEntryBoundary u raw => execAdcEntryBoundary_kept (.refl s) u raw
  | .adcResultEnqueue u => execAdcResultEnqueue_kept (.refl s) u
  | .rqDrainBurst t => execRqDrainBurst_kept (.refl s) t
  | .rqPartialFlush t => execRqPartialFlush_kept (.refl s) t
  | .rqEnChange t w => execRqEnChange_kept (.refl s) t w
  | .rqHconsWrite t w => execRqHconsWrite_kept (.refl s) t w
  | .compRawTransition u high pins q dead => execCompRawTransition_kept (.refl s) u high pins q dead
  | .compValid u high samples => execCompValid_kept (.refl s) u high samples
  | .compLatchSet u high samples => execCompLatchSet_kept (.refl s) u high samples
  | .seqRunStart c seen => execSeqRunStart_kept (.refl s) c seen
  | .seqNop c => execSeqNop_kept (.refl s) c
  | .veci c => execVeci_kept (.refl s) c
  | .vecd c => execVecd_kept (.refl s) c
  | .vecs c => execVecs_kept (.refl s) c
  | .vrep c => execVrep_kept (.refl s) c
  | .loop c => execLoop_kept (.refl s) c
  | .endl c => execEndl_kept (.refl s) c
  | .call c => execCall_kept (.refl s) c
  | .ret c => execRet_kept (.refl s) c
  | .jmp c => execJmp_kept (.refl s) c
  | .br c past => execBr_kept (.refl s) c past
  | .brSyncResolve c => execBrSyncResolve_kept (.refl s) c
  | .matchW c => execMatchW_kept (.refl s) c
  | .matchIterationEnd c => execMatchIterationEnd_kept (.refl s) c
  | .wait c => execWait_kept (.refl s) c
  | .waitRelease c => execWaitRelease_kept (.refl s) c
  | .waitTimeout c => execWaitTimeout_kept (.refl s) c
  | .bar c => execBar_kept (.refl s) c
  | .barrierRelease t bid => execBarrierRelease_kept (.refl s) t bid
  | .tsld c => execTsld_kept (.refl s) c
  | .lvl c => execLvl_kept (.refl s) c
  | .meas c => execMeas_kept (.refl s) c
  | .measPlaceFree c => execMeasPlaceFree_kept (.refl s) c
  | .evt c => execEvt_kept (.refl s) c
  | .flg c => execFlg_kept (.refl s) c
  | .seg c => execSeg_kept (.refl s) c
  | .stall c => execStall_kept (.refl s) c
  | .strm c => execStrm_kept (.refl s) c
  | .send c => execSend_kept (.refl s) c
  | .halt c => execHalt_kept (.refl s) c
  | .seqJumpApply c => execSeqJumpApply_kept (.refl s) c
  | .seqStopApply c => execSeqStopApply_kept (.refl s) c
  | .stallResume c => execStallResume_kept (.refl s) c
  | .streamRefill data failed => execStreamRefill_kept (.refl s) data failed
  | .underrun c => execUnderrun_kept (.refl s) c
  | .seqGo c w => execSeqGo_kept (.refl s) c w
  | .microword e cost cond flips out => execMicroword_kept (.refl s) e cost cond flips out
  | .microTrap e whole => execMicroTrap_kept (.refl s) e whole
  | .csParitySweep e a flips => execCsParitySweep_kept (.refl s) e a flips
  | .mcReloadDone alt copyBad failed late => execMcReloadDone_kept (.refl s) alt copyBad failed late
  | .mcInstallStart w => execMcInstallStart_kept (.refl s) w
  | .mcInstallDone auth wrote => execMcInstallDone_kept (.refl s) auth wrote
  | .mcFselWrite w => execMcFselWrite_kept (.refl s) w
  | .tdcStamp u src rising q dead => execTdcStamp_kept (.refl s) u src rising q dead
  | .stampBufferWrite t => execStampBufferWrite_kept (.refl s) t
  | .stbRestart t w => execStbRestart_kept (.refl s) t w
  | .dllLock u line => execDllLock_kept (.refl s) u line
  | .dllUnlock u line => execDllUnlock_kept (.refl s) u line
  | .codeDensityDone u hist delays drv stb tdc => execCodeDensityDone_kept (.refl s) u hist delays drv stb tdc
  | .sepiaSample t => execSepiaSample_kept (.refl s) t
  | .sepiaJobComplete t slot => execSepiaJobComplete_kept (.refl s) t slot
  | .sepiaJobTimeout t slot => execSepiaJobTimeout_kept (.refl s) t slot
  | .apgRunStart t x seen => execApgRunStart_kept (.refl s) t x seen
  | .apgInstruction t x => execApgInstruction_kept (.refl s) t x
  | .apgGroupDrop t g => execApgGroupDrop_kept (.refl s) t g
  | .failLogRecord t => execFailLogRecord_kept (.refl s) t
  | .syncArm w => execSyncArm_kept (.refl s) w
  | .syncEdge q => execSyncEdge_kept (.refl s) q
  | .syncApply w => execSyncApply_kept (.refl s) w
  | .syncInval w => execSyncInval_kept (.refl s) w
  | .triggerFire t => execTriggerFire_kept (.refl s) t
  | .fireLineEdge line q => execFireLineEdge_kept (.refl s) line q
  | .armLineEdge dom edge => execArmLineEdge_kept (.refl s) dom edge
  | .holdoffEnd t => execHoldoffEnd_kept (.refl s) t
  | .trigArmTimeout t => execTrigArmTimeout_kept (.refl s) t
  | .trigLineEdge line rising q => execTrigLineEdge_kept (.refl s) line rising q
  | .trigPulse w => execTrigPulse_kept (.refl s) w
  | .capPartitionWrite t w => execCapPartitionWrite_kept (.refl s) t w
  | .calTimeSet w => execCalTimeSet_kept (.refl s) w
  | .anchorStep inp => execAnchorStep_kept (.refl s) inp
  | .calAnchorTimeout => execCalAnchorTimeout_kept (.refl s)
  | .transferStep t rows tresH tresL => execTransferStep_kept (.refl s) t rows tresH tresL
  | .commitEdge => execCommitEdge_kept (.refl s)
  | .rotationPassStart t => execRotationPassStart_kept (.refl s) t
  | .rotationStart nn => execRotationStart_kept (.refl s) nn
  | .handoverStep nn row => execHandoverStep_kept (.refl s) nn row
  | .rotationHandback nn => execRotationHandback_kept (.refl s) nn
  | .rotationAbandon nn => execRotationAbandon_kept (.refl s) nn
  | .calArchiveTimer => execCalArchiveTimer_kept (.refl s)
  | .archiveWriteDone ok => execArchiveWriteDone_kept (.refl s) ok
  | .selftestTestDone n pass detail => execSelftestTestDone_kept (.refl s) n pass detail
  | .detectProbe p found => execDetectProbe_kept (.refl s) p found
  | .ts1Receive p l ts => execTs1Receive_kept (.refl s) p l ts
  | .ts2Receive p l ts => execTs2Receive_kept (.refl s) p l ts
  | .trainingTimeout p => execTrainingTimeout_kept (.refl s) p
  | .speedRetuneDone p => execSpeedRetuneDone_kept (.refl s) p
  | .eqRequest p l tag valid mv fin => execEqRequest_kept (.refl s) p l tag valid mv fin
  | .eqIterationEnd p l dfe better => execEqIterationEnd_kept (.refl s) p l dfe better
  | .retrain p => execRetrain_kept (.refl s) p
  | .hotrst p => execHotrst_kept (.refl s) p
  | .hotResetReceived p => execHotResetReceived_kept (.refl s) p
  | .hotresetEnd p => execHotresetEnd_kept (.refl s) p
  | .disable p on => execDisable_kept (.refl s) p on
  | .disableReceived p => execDisableReceived_kept (.refl s) p
  | .farlb p on => execFarlb_kept (.refl s) p on
  | .loopbackReceived p => execLoopbackReceived_kept (.refl s) p
  | .nosleep p on => execNosleep_kept (.refl s) p on
  | .nearlb p l on => execNearlb_kept (.refl s) p l on
  | .prbsInj p l => execPrbsInj_kept (.refl s) p l
  | .laneFail p x => execLaneFail_kept (.refl s) p x
  | .lcsSteerReceived p k => execLcsSteerReceived_kept (.refl s) p k
  | .lcsAckReceived p k => execLcsAckReceived_kept (.refl s) p k
  | .lcsDoneReceived p k => execLcsDoneReceived_kept (.refl s) p k
  | .sparingTimeout p => execSparingTimeout_kept (.refl s) p
  | .spareFail x => execSpareFail_kept (.refl s) x
  | .laneDegradeWindow p l syms => execLaneDegradeWindow_kept (.refl s) p l syms
  | .sleepEntry p => execSleepEntry_kept (.refl s) p
  | .slpReceived p dark => execSlpReceived_kept (.refl s) p dark
  | .txWake p => execTxWake_kept (.refl s) p
  | .wakeLockTimeout p => execWakeLockTimeout_kept (.refl s) p
  | .beacon p => execBeacon_kept (.refl s) p
  | .beaconTimeout p => execBeaconTimeout_kept (.refl s) p
  | .clockLaneLoss p stopped => execClockLaneLoss_kept (.refl s) p stopped
  | .tpReceive p seq crc lp cols ecc tp => execTpReceive_kept (.refl s) p seq crc lp cols ecc tp
  | .ackReceive p seq => execAckReceive_kept (.refl s) p seq
  | .nakReceive p seq => execNakReceive_kept (.refl s) p seq
  | .creditReceive p init cp cn cc => execCreditReceive_kept (.refl s) p init cp cn cc
  | .ackTimer p => execAckTimer_kept (.refl s) p
  | .replayTimeout p => execReplayTimeout_kept (.refl s) p
  | .creditUpdate p => execCreditUpdate_kept (.refl s) p
  | .creditTimeout p => execCreditTimeout_kept (.refl s) p
  | .readCompletionTimeout tag => execReadCompletionTimeout_kept (.refl s) tag
  | .portDown p => execPortDown_kept (.refl s) p
  | .sourceActivate src => execSourceActivate_kept (.refl s) src
  | .vectorTimer v => execVectorTimer_kept (.refl s) v
  | .eventDelivery => execEventDelivery_kept (.refl s)
  | .irqEoi w => execIrqEoi_kept (.refl s) w
  | .irqSw w => execIrqSw_kept (.refl s) w
  | .irqSwClr w => execIrqSwClr_kept (.refl s) w
  | .irqDoze g w => execIrqDoze_kept (.refl s) g w
  | .irqRconsWrite g w => execIrqRconsWrite_kept (.refl s) g w
  | .slateEndOfService src => execSlateEndOfService_kept (.refl s) src
  | .graceExpire cls scope unit => execGraceExpire_kept (.refl s) cls scope unit
  | .quietExpire cls scope unit => execQuietExpire_kept (.refl s) cls scope unit
  | .budgetWindowEnd cls scope unit => execBudgetWindowEnd_kept (.refl s) cls scope unit
  | .fltAck w => execFltAck_kept (.refl s) w
  | .fltUnstick w => execFltUnstick_kept (.refl s) w
  | .fltSel w => execFltSel_kept (.refl s) w
  | .blackboxWrite ok => execBlackboxWrite_kept (.refl s) ok
  | .roundStart mrefOff => execRoundStart_kept (.refl s) mrefOff
  | .sensorGateEnd counts => execSensorGateEnd_kept (.refl s) counts
  | .roundPublish uj => execRoundPublish_kept (.refl s) uj
  | .glbResetModule w spb => execGlbResetModule_kept (.refl s) w spb
  | .glbResetTile w spb => execGlbResetTile_kept (.refl s) w spb
  | .tileResetEnd t => execTileResetEnd_kept (.refl s) t
  | .spaRead w => execSpaRead_kept (.refl s) w
  | .spaProgram w => execSpaProgram_kept (.refl s) w
  | .spaErase w => execSpaErase_kept (.refl s) w
  | .spaSfdp w => execSpaSfdp_kept (.refl s) w
  | .spaReadStatus w => execSpaReadStatus_kept (.refl s) w
  | .spaOpComplete err late data => execSpaOpComplete_kept (.refl s) err late data
  | .xipRead a => execXipRead_kept (.refl s) a
  | .spbReadFrame w n extra early ecc => execSpbReadFrame_kept (.refl s) w n extra early ecc
  | .spbWriteFrame w data extra early => execSpbWriteFrame_kept (.refl s) w data extra early
  | .spbStatusFrame w n extra early => execSpbStatusFrame_kept (.refl s) w n extra early
  | .jtagTapReset => execJtagTapReset_kept (.refl s)
  | .bypass => execBypass_kept (.refl s)
  | .idcode => execIdcode_kept (.refl s)
  | .samplePreload => execSamplePreload_kept (.refl s)
  | .extest => execExtest_kept (.refl s)
  | .clamp => execClamp_kept (.refl s)
  | .highz => execHighz_kept (.refl s)
  | .extestPulse => execExtestPulse_kept (.refl s)
  | .extestTrain => execExtestTrain_kept (.refl s)
  | .dwUnlock accept => execDwUnlock_kept (.refl s) accept
  | .diagWindowRead o spb err => execDiagWindowRead_kept (.refl s) o spb err
  | .diagWindowWrite o w spb => execDiagWindowWrite_kept (.refl s) o w spb
  | .vectorPeriod c seen => execVectorPeriod_kept (.refl s) c seen
  | .compFilterReturn u high samples => execCompFilterReturn_kept (.refl s) u high samples
  | .shortCircuitRelease u => execShortCircuitRelease_kept (.refl s) u
  | .kelvinMismatchEnd u => execKelvinMismatchEnd_kept (.refl s) u
  | .supplyWindowReturn rail => execSupplyWindowReturn_kept (.refl s) rail
  | .symbolLockRegained p => execSymbolLockRegained_kept (.refl s) p
  | .tsSendCount p => execTsSendCount_kept (.refl s) p
  | .eqAdaptEnd p taps => execEqAdaptEnd_kept (.refl s) p taps
  | .eqMarginCheckEnd p l h v pass => execEqMarginCheckEnd_kept (.refl s) p l h v pass
  | .loopbackSlaveIdle p => execLoopbackSlaveIdle_kept (.refl s) p
  | .disabledClockActivity p => execDisabledClockActivity_kept (.refl s) p
  | .rxWake p => execRxWake_kept (.refl s) p
  | .beaconReceive p => execBeaconReceive_kept (.refl s) p
  | .skpSet p rx got => execSkpSet_kept (.refl s) p rx got

theorem State.tick_wf {s : State} (h : s.Wf) : s.tick.Wf := { h with }

theorem State.set_pending_wf {s : State} (h : s.Wf) (l : List Instr) : State.Wf { s with pending := l } := { h with }

/-- Settles O59: an empty queue passes one TCLK, which touches no table; a command keeps the form by `exec_kept`. -/
theorem stepKeepsWf : Obligations.StepKeepsWf := by
  intro s t hs hstep
  unfold step at hstep
  split at hstep
  · cases hstep
    exact State.tick_wf hs
  · exact (exec_kept _ _ t hstep).wf (State.set_pending_wf hs _)

/-! ### Every command answers a next state -/

/-- The outcome r is a next state, neither a fault nor a refusal. -/
def Res.Answers (r : Res) : Prop := ∃ t, r = .next t

theorem Res.Answers.done (s : State) : Res.Answers (done s) := ⟨_, rfl⟩

theorem Res.Answers.ite {c : Prop} [Decidable c] {a b : Res} (ha : a.Answers) (hb : b.Answers) : Res.Answers (if c then a else b) := by
  split
  · exact ha
  · exact hb

/-- Meanings by the shape of their definitions: an effect without condition; one, two or three conditions in turn; and, one by one, those
that look into an option or a longer tree of cases. Every branch ends in `done`. -/
theorem exec_answers (i : Instr) (s : State) : Res.Answers (exec i s) := by
  cases i <;> dsimp only [exec]
  case resetWindowExit | perstNAssert | registerWrite | safeValueStep | sineEnSet | sineApply | sineEnClear | sineUpdate |
      sineEpochStart | adcStart | adcStop | adcInject | rqDrainBurst | rqEnChange | rqHconsWrite | compRawTransition | seqNop |
      veci | vecd | vrep | loop | endl | call | ret | jmp | br | matchW | wait | bar | tsld | lvl | meas | evt | flg | seg | stall |
      strm | send | halt | seqGo | mcInstallStart | mcFselWrite | stampBufferWrite | stbRestart | sepiaSample | failLogRecord |
      syncArm | syncApply | syncInval | trigPulse | capPartitionWrite | calTimeSet | retrain | hotrst | disable | farlb | nosleep |
      nearlb | prbsInj | lcsAckReceived | portDown | irqEoi | irqSw | irqSwClr | irqDoze | irqRconsWrite | budgetWindowEnd |
      glbResetModule | glbResetTile | spaRead | spaProgram | spaErase | spaSfdp | spaReadStatus | jtagTapReset | bypass | idcode |
      samplePreload | extest | clamp | highz | extestPulse | extestTrain | diagWindowRead | diagWindowWrite | vectorPeriod |
      supplyWindowReturn | shortCircuitRelease =>
    exact .done _
  case powerOn | bootStart | refclkRecovery | lockstepMismatch | svcReq | serviceEntry | svcExit | serviceExitEffect | loReadLatch |
      sqDoorbell | descriptorReadError | commandAdmit | cqDoorbell | sqEnable | sqDisable | cqEnable | cqDisable |
      shortCircuitLimit | kelvinMonitorTrip | sineZcStop | rqPartialFlush | compValid | compLatchSet | vecs | barrierRelease |
      seqStopApply | underrun | csParitySweep | tdcStamp | sepiaJobComplete | triggerFire | fireLineEdge | trigLineEdge |
      rotationPassStart | rotationStart | rotationAbandon | calArchiveTimer | detectProbe | speedRetuneDone | hotResetReceived |
      hotresetEnd | disableReceived | lcsSteerReceived | sparingTimeout | txWake | wakeLockTimeout | beacon | beaconTimeout |
      ackReceive | nakReceive | creditReceive | ackTimer | replayTimeout | creditUpdate | creditTimeout | sourceActivate |
      vectorTimer | eventDelivery | slateEndOfService | graceExpire | fltAck | fltUnstick | fltSel | sensorGateEnd | tileResetEnd |
      xipRead | compFilterReturn | kelvinMismatchEnd | symbolLockRegained | eqAdaptEnd | eqMarginCheckEnd | loopbackSlaveIdle |
      disabledClockActivity | rxWake | beaconReceive =>
    exact .ite (.done _) (.done _)
  case refclkLoss | clampAction | dllLock | rotationHandback | loopbackReceived | laneFail | spareFail | clockLaneLoss |
      blackboxWrite | spbWriteFrame | spbStatusFrame | dwUnlock =>
    exact .ite (.done _) (.ite (.done _) (.done _))
  case codeDensityDone | trainingTimeout | sleepEntry =>
    exact .ite (.done _) (.ite (.done _) (.ite (.done _) (.done _)))
  case supplyWindowExit => fun_cases execSupplyWindowExit <;> exact .done _
  case bootPhaseComplete => fun_cases execBootPhaseComplete <;> exact .done _
  case sramScrub => fun_cases execSramScrub <;> exact .done _
  case nop => fun_cases execNop <;> exact .done _
  case fence => fun_cases execFence <;> exact .done _
  case chConfig => fun_cases execChConfig <;> exact .done _
  case chForce => fun_cases execChForce <;> exact .done _
  case chMeasureStart => fun_cases execChMeasureStart <;> exact .done _
  case chMeasureStop => fun_cases execChMeasureStop <;> exact .done _
  case chMeasureInject => fun_cases execChMeasureInject <;> exact .done _
  case chSweep => fun_cases execChSweep <;> exact .done _
  case chSine => fun_cases execChSine <;> exact .done _
  case chContact => fun_cases execChContact <;> exact .done _
  case chRelease => fun_cases execChRelease <;> exact .done _
  case seqLoad => fun_cases execSeqLoad <;> exact .done _
  case seqRun => fun_cases execSeqRun <;> exact .done _
  case seqStream => fun_cases execSeqStream <;> exact .done _
  case seqStop => fun_cases execSeqStop <;> exact .done _
  case groupBind => fun_cases execGroupBind <;> exact .done _
  case seqJump => fun_cases execSeqJump <;> exact .done _
  case apgLoad => fun_cases execApgLoad <;> exact .done _
  case apgRun => fun_cases execApgRun <;> exact .done _
  case failDump => fun_cases execFailDump <;> exact .done _
  case trigArm => fun_cases execTrigArm <;> exact .done _
  case captureDump => fun_cases execCaptureDump <;> exact .done _
  case statsReadStart => fun_cases execStatsReadStart <;> exact .done _
  case statsReadPeek => fun_cases execStatsReadPeek <;> exact .done _
  case calAnchor => fun_cases execCalAnchor <;> exact .done _
  case calRotatePass => fun_cases execCalRotatePass <;> exact .done _
  case calRotateChannels => fun_cases execCalRotateChannels <;> exact .done _
  case calRotateRequalify => fun_cases execCalRotateRequalify <;> exact .done _
  case calRotateRemap => fun_cases execCalRotateRemap <;> exact .done _
  case calRotateUnmap => fun_cases execCalRotateUnmap <;> exact .done _
  case calCommit => fun_cases execCalCommit <;> exact .done _
  case calDiscard => fun_cases execCalDiscard <;> exact .done _
  case calArchive => fun_cases execCalArchive <;> exact .done _
  case calRead => fun_cases execCalRead <;> exact .done _
  case selftest => fun_cases execSelftest <;> exact .done _
  case faultAck => fun_cases execFaultAck <;> exact .done _
  case abort => fun_cases execAbort <;> exact .done _
  case diagEcho => fun_cases execDiagEcho <;> exact .done _
  case diagRegs => fun_cases execDiagRegs <;> exact .done _
  case diagBlackbox => fun_cases execDiagBlackbox <;> exact .done _
  case descriptorIntake => fun_cases execDescriptorIntake <;> exact .done _
  case holdLimitExpire => fun_cases execHoldLimitExpire <;> exact .done _
  case sliceEnd => fun_cases execSliceEnd <;> exact .done _
  case completionWrite => fun_cases execCompletionWrite <;> exact .done _
  case sweepDwellEnd => fun_cases execSweepDwellEnd <;> exact .done _
  case contactPhaseStep => fun_cases execContactPhaseStep <;> exact .done _
  case adcSampleEnd => fun_cases execAdcSampleEnd <;> exact .done _
  case adcEntryBoundary => fun_cases execAdcEntryBoundary <;> exact .done _
  case adcResultEnqueue => fun_cases execAdcResultEnqueue <;> exact .done _
  case seqRunStart => fun_cases execSeqRunStart <;> exact .done _
  case brSyncResolve => fun_cases execBrSyncResolve <;> exact .done _
  case matchIterationEnd => fun_cases execMatchIterationEnd <;> exact .done _
  case waitRelease => fun_cases execWaitRelease <;> exact .done _
  case waitTimeout => fun_cases execWaitTimeout <;> exact .done _
  case measPlaceFree => fun_cases execMeasPlaceFree <;> exact .done _
  case seqJumpApply => fun_cases execSeqJumpApply <;> exact .done _
  case stallResume => fun_cases execStallResume <;> exact .done _
  case streamRefill => fun_cases execStreamRefill <;> exact .done _
  case microword => fun_cases execMicroword <;> exact .done _
  case microTrap => fun_cases execMicroTrap <;> exact .done _
  case mcReloadDone => fun_cases execMcReloadDone <;> exact .done _
  case mcInstallDone => fun_cases execMcInstallDone <;> exact .done _
  case dllUnlock => fun_cases execDllUnlock <;> exact .done _
  case sepiaJobTimeout => fun_cases execSepiaJobTimeout <;> exact .done _
  case apgRunStart => fun_cases execApgRunStart <;> exact .done _
  case apgInstruction => fun_cases execApgInstruction <;> exact .done _
  case apgGroupDrop => fun_cases execApgGroupDrop <;> exact .done _
  case syncEdge => fun_cases execSyncEdge <;> exact .done _
  case armLineEdge => fun_cases execArmLineEdge <;> exact .done _
  case holdoffEnd => fun_cases execHoldoffEnd <;> exact .done _
  case trigArmTimeout => fun_cases execTrigArmTimeout <;> exact .done _
  case anchorStep => fun_cases execAnchorStep <;> exact .done _
  case calAnchorTimeout => fun_cases execCalAnchorTimeout <;> exact .done _
  case transferStep => fun_cases execTransferStep <;> exact .done _
  case commitEdge => fun_cases execCommitEdge <;> exact .done _
  case handoverStep => fun_cases execHandoverStep <;> exact .done _
  case archiveWriteDone => fun_cases execArchiveWriteDone <;> exact .done _
  case selftestTestDone => fun_cases execSelftestTestDone <;> exact .done _
  case ts1Receive => fun_cases execTs1Receive <;> exact .done _
  case ts2Receive => fun_cases execTs2Receive <;> exact .done _
  case eqRequest => fun_cases execEqRequest <;> exact .done _
  case eqIterationEnd => fun_cases execEqIterationEnd <;> exact .done _
  case lcsDoneReceived => fun_cases execLcsDoneReceived <;> exact .done _
  case laneDegradeWindow => fun_cases execLaneDegradeWindow <;> exact .done _
  case slpReceived => fun_cases execSlpReceived <;> exact .done _
  case tpReceive => fun_cases execTpReceive <;> exact .done _
  case readCompletionTimeout => fun_cases execReadCompletionTimeout <;> exact .done _
  case quietExpire => fun_cases execQuietExpire <;> exact .done _
  case roundStart => fun_cases execRoundStart <;> exact .done _
  case roundPublish => fun_cases execRoundPublish <;> exact .done _
  case spaOpComplete => fun_cases execSpaOpComplete <;> exact .done _
  case spbReadFrame => fun_cases execSpbReadFrame <;> exact .done _
  case tsSendCount => fun_cases execTsSendCount <;> exact .done _
  case skpSet => fun_cases execSkpSet <;> exact .done _

/-- A command completes with whatever `State.Kept` gives of the state it answers. -/
theorem completes_of_kept {i : Instr} {s : State} {P : State → Prop} (h : ∀ t, s.Kept t → P t) : Completes i s P := by
  obtain ⟨t, ht⟩ := exec_answers i s
  exact ⟨t, ht, h t (exec_kept i s t ht)⟩

/-- Settles O60: the command answers by `exec_answers`, and what it answers keeps the rest by `exec_kept`. -/
theorem everyCommandCompletes : Obligations.EveryCommandCompletes :=
  fun _ _ => completes_of_kept fun _ k => ⟨k.pending, k.uptime, k.svn, k.tb⟩

/-! ### The state after reset -/

theorem State.reset_wf : State.reset.Wf := by
  constructor <;> rfl

/-- Settles O58: no table of the reset state lists anything, so every read gives what an unlisted key reads as. -/
theorem resetState : Obligations.ResetState :=
  have hmode : State.reset.mode = stBOOT := by decide +kernel
  ⟨State.reset_wf, hmode, fun _ => rfl, fun _ => ⟨rfl, rfl⟩, rfl, rfl, fun _ => rfl⟩

end Sys2Proof.Machine
end

section
/-! PROOFS. The diagnostic window in a SERVICE that waits to end (R23, R441). Settles O7. -/

namespace Sys2Proof.Machine

open Sys2Proof (Instr)

/-- While SVC_EXIT waits, nothing restricted to SERVICE is open. -/
theorem State.serviceOpen_of_svcExit {s : State} (h : s.svcExit = true) : s.serviceOpen = false := by
  simp [State.serviceOpen, h]

/-- A write to the sequence store of an engine at work is discarded with WIGN while SERVICE is not open (R23, R441). -/
theorem State.diagWrite_seq_closed {s : State} {c : Nat} (p : Nat) (w : Word) (hr : s.isSet (tileBase (c / 128)) TIL_STATUS.RESET = false)
    (ho : s.serviceOpen = false) (he : s.engState c ≠ 0) : s.diagWrite (.seq c p) w = s.wign c := by
  simp [State.diagWrite, DPart.tile, hr, ho, he]

/-- An executed write into the diagnostic area is a write of the place that its address shows. -/
theorem State.regWrite_diag {s : State} {a : Nat} (w : Word) (spb : Bool) (hw : s.writeOk a = true) (ha : 0x1000000 ≤ a) :
    s.regWrite a w spb = s.diagWrite (s.diagPart a spb) w := by
  simp [State.regWrite, hw, ha]

theorem diagAddr_ge (o : BitVec 24) : 0x1000000 ≤ diagAddr o := Nat.le_add_right _ _

/-- Such a write through the window leaves the whole SRAM as it was. -/
theorem diagWindowWrite_seq_closed {s t : State} {o : BitVec 24} {w : Word} {spb : Bool} {c p : Nat} (hw : s.writeOk (diagAddr o) = true)
    (hd : s.diagPart (diagAddr o) spb = .seq c p) (hr : s.isSet (tileBase (c / 128)) TIL_STATUS.RESET = false) (ho : s.serviceOpen = false)
    (he : s.engState c ≠ 0) (ht : exec (.diagWindowWrite o w spb) s = .next t) : t.sram = s.sram := by
  have hx : exec (.diagWindowWrite o w spb) s = .next (s.wign c).settled := by
    rw [← State.diagWrite_seq_closed p w hr ho he, ← hd, ← State.regWrite_diag w spb hw (diagAddr_ge o)]
    rfl
  cases ht.symm.trans hx
  exact State.settled_sram _

/-- A module in SERVICE whose exit waits (R23), with the engine of channel 0 at work, and nothing in its SRAM. -/
def exitingService : State :=
  (({ State.reset with inReset := false, svcExit := true }.setF 0 GLB_STATUS.STATE stSERVICE).setF 0 GLB_STATUS.ROOT_LOCK 1).setF
    (chB 0) CHN_SEQ_STATUS.STATE 2

/-- Refutes O7: the clause on writes of the sequence store asks only that STATE reads SERVICE. In a SERVICE that waits to end (R23) with the
engine of channel 0 at work, DIAG_WINDOW_WRITE of 7 to the channel's first word (word offset 0x400000) is discarded: the word stays 0. -/
theorem not_windowRows : ¬ Obligations.WindowRows := by
  intro h
  obtain ⟨-, -, -, -, -, -, -, -, hwrite⟩ := h exitingService
  have hw : exitingService.writeOk (diagAddr 0x400000) = true := by decide +kernel
  have hd : exitingService.diagPart (diagAddr 0x400000) true = .seq 0 0 := by decide +kernel
  have hr : exitingService.isSet (tileBase (0 / 128)) TIL_STATUS.RESET = false := by decide +kernel
  have hm : exitingService.mode = stSERVICE := by decide +kernel
  have he : exitingService.engState 0 ≠ 0 := by decide +kernel
  obtain ⟨t, ht, hbytes, -⟩ := hwrite 0x400000 7 true 0 0 hw hd hr hm
  rw [diagWindowWrite_seq_closed hw hd hr (State.serviceOpen_of_svcExit rfl) he ht] at hbytes
  exact absurd hbytes (by decide +kernel)

end Sys2Proof.Machine
end

section
/-! PROOFS. SVC_EXIT while an exit already waits (R23). Settles O2. -/

namespace Sys2Proof.Machine

open Sys2Proof (Instr)

/-- A second SVC_EXIT changes nothing while the first one waits. -/
theorem State.glbCtrl_exit_of_svcExit {s : State} (h : s.svcExit = true) : s.glbCtrl false true false = s := by
  simp [State.glbCtrl, h]

/-- So the row leaves SERVICE in force, whether or not something still holds the exit back. -/
theorem svcExit_mode_of_svcExit {s t : State} (hw : s.writeOk GLB_CTRL.SVC_REQ.off = true) (hm : s.mode = stSERVICE) (h : s.svcExit = true)
    (ht : exec .svcExit s = .next t) : t.mode = stSERVICE := by
  have hx : exec .svcExit s = .next s.settled := by
    show execSvcExit s = _
    rw [execSvcExit, if_pos hw, State.glbCtrl_exit_of_svcExit h]
    rfl
  cases ht.symm.trans hx
  have hr : s.mode ≠ stREADY := by rw [hm]; decide
  have ha : s.mode ≠ stACTIVE := by rw [hm]; decide
  exact (State.settled_mode hr ha).trans hm

/-- Refutes O2: the clause on SVC_EXIT asks only that SERVICE is in force and that nothing holds an exit back. In `exitingService`, where an
exit already waits (its effect is the row SERVICE_EXIT_EFFECT), SVC_EXIT changes nothing: the module is in SERVICE, neither READY nor ACTIVE. -/
theorem not_serviceRows : ¬ Obligations.ServiceRows := by
  intro h
  obtain ⟨-, -, -, -, hexit, -, -⟩ := h exitingService
  have hw : exitingService.writeOk GLB_CTRL.SVC_REQ.off = true := by decide +kernel
  have hm : exitingService.mode = stSERVICE := by decide +kernel
  have hh : exitingService.serviceHeld = false := by decide +kernel
  obtain ⟨t, ht, hmode, -⟩ := hexit hw hm hh
  rw [svcExit_mode_of_svcExit hw hm rfl ht] at hmode
  exact absurd hmode (by decide)

end Sys2Proof.Machine
end

section
/-! SUPPORT. What the ending of work leaves as it was: high-Z actions, quiesce, SAFE and tile reset (R21, R359, R360, R434) touch neither the
housekeeping round nor the live register pairs nor the flash, and of a fault in the table only its condition. -/

namespace Sys2Proof.Machine

/-- t is s after some ending of work. -/
structure State.Stops (s t : State) : Prop where
  round : t.round = s.round
  pairs : t.pairs = s.pairs
  flash : t.flash = s.flash
  force : ∀ k, (t.inst k).force = (s.inst k).force
  detail : ∀ k, (t.inst k).detail = (s.inst k).detail
  insts : s.noFaults → t.insts = s.insts

/-- What holds of every listed value and of the default holds of every read. -/
theorem tabGet_of_forall {α : Type} {P : α → Prop} {d : Nat → α} {t : List (Nat × α)} (h : ∀ e ∈ t, P e.2) (hd : ∀ k, P (d k)) (k : Nat) :
    P (tabGet d t k) := by
  induction t with
  | nil => exact hd k
  | cons e t ih =>
    rw [tabGet]
    split
    · exact h e List.mem_cons_self
    · exact ih fun x hx => h x (List.mem_cons_of_mem _ hx)

theorem State.noFaults.force {s : State} (h : s.noFaults) (k : Nat) : (s.inst k).force = false :=
  tabGet_of_forall (P := fun i : Inst => i.force = false) h (fun _ => rfl) k

theorem State.noFaults.of_insts {s t : State} (h : s.noFaults) (e : t.insts = s.insts) : t.noFaults := by
  unfold State.noFaults
  rw [e]
  exact h

namespace State.Stops

theorem refl (s : State) : s.Stops s := ⟨rfl, rfl, rfl, fun _ => rfl, fun _ => rfl, fun _ => rfl⟩

variable {s₀ z t : State}

theorem noFaults (h : s₀.Stops z) (hn : s₀.noFaults) : z.noFaults := hn.of_insts (h.insts hn)

/-! ### One update -/

theorem wr (h : s₀.Stops z) (a : Nat) (w : Word) : s₀.Stops (z.wr a w) := { h with }
theorem setF (h : s₀.Stops z) (b : Nat) (f : Fld) (v : Nat) : s₀.Stops (z.setF b f v) := h.wr _ _
theorem incSat (h : s₀.Stops z) (b : Nat) (f : Fld) (v : Nat) : s₀.Stops (z.incSat b f v) := h.wr _ _
theorem resetRegs (h : s₀.Stops z) (p : Nat → Bool) : s₀.Stops (z.resetRegs p) := { h with }
theorem set_sram (h : s₀.Stops z) (m : List Host.Cell) : s₀.Stops { z with sram := m } := { h with }
theorem modFe (h : s₀.Stops z) (u : Nat) (f : Fe → Fe) : s₀.Stops (z.modFe u f) := { h with }
theorem modCmp (h : s₀.Stops z) (u k : Nat) (f : Cmp → Cmp) : s₀.Stops (z.modCmp u k f) := { h with }
theorem modAdc (h : s₀.Stops z) (u : Nat) (f : Adc → Adc) : s₀.Stops (z.modAdc u f) := { h with }
theorem modEng (h : s₀.Stops z) (u : Nat) (f : Eng → Eng) : s₀.Stops (z.modEng u f) := { h with }
theorem modMic (h : s₀.Stops z) (u : Nat) (f : Mic → Mic) : s₀.Stops (z.modMic u f) := { h with }
theorem modCtx (h : s₀.Stops z) (u x : Nat) (f : Ctx → Ctx) : s₀.Stops (z.modCtx u x f) := { h with }
theorem modFlGroup (h : s₀.Stops z) (u g : Nat) (f : FlGroup → FlGroup) : s₀.Stops (z.modFlGroup u g f) := { h with }
theorem modTdc (h : s₀.Stops z) (u : Nat) (f : Tdc → Tdc) : s₀.Stops (z.modTdc u f) := { h with }
theorem setJob (h : s₀.Stops z) (u n : Nat) (j : Option Job) : s₀.Stops (z.setJob u n j) := { h with }
theorem modTrig (h : s₀.Stops z) (u : Nat) (f : Trig → Trig) : s₀.Stops (z.modTrig u f) := { h with }
theorem setRot (h : s₀.Stops z) (u : Nat) (r : Rot) : s₀.Stops (z.setRot u r) := { h with }
theorem modTile (h : s₀.Stops z) (u : Nat) (f : Tile → Tile) : s₀.Stops (z.modTile u f) := { h with }
theorem mapCmds (h : s₀.Stops z) (p : Cmd → Bool) (f : Cmd → Cmd) : s₀.Stops (z.mapCmds p f) := { h with }
theorem stopCmds (h : s₀.Stops z) (p : Cmd → Bool) (f : Cmd → Cmd) : s₀.Stops (z.stopCmds p f) := { h with }
theorem endCmd (h : s₀.Stops z) (r : CmdRef) (e : Ending) : s₀.Stops (z.endCmd r e) := h.mapCmds _ _
theorem set_tests (h : s₀.Stops z) (l : List Test) : s₀.Stops { z with tests := l } := { h with }
theorem set_anchor (h : s₀.Stops z) (a : Anchor) : s₀.Stops { z with anchor := a } := { h with }
theorem set_free (h : s₀.Stops z) (n : Nat) : s₀.Stops { z with free := n } := { h with }
theorem set_svc (h : s₀.Stops z) (a b : Bool) : s₀.Stops { z with svcEntry := a, svcExit := b } := { h with }

theorem ite {c : Prop} [Decidable c] {a b : State} (ha : c → s₀.Stops a) (hb : ¬ c → s₀.Stops b) : s₀.Stops (if c then a else b) :=
  ite_keeps ha hb

theorem foldl {α : Type} {f : State → α → State} (l : List α) (h : s₀.Stops z) (hf : ∀ s a, s₀.Stops s → s₀.Stops (f s a)) :
    s₀.Stops (l.foldl f z) := foldl_keeps l h hf

theorem setFs (h : s₀.Stops z) (b : Nat) (l : List (Fld × Nat)) : s₀.Stops (z.setFs b l) := .foldl l h fun _ _ g => g.setF _ _ _

/-- A fault in force is written again with its DETAIL. -/
theorem setInst (h : s₀.Stops z) {k : Nat} {i : Inst} (hf : i.force = (z.inst k).force) (hd : i.detail = (z.inst k).detail)
    (hn : (z.inst k).force = true) : s₀.Stops (z.setInst k i) where
  round := h.round
  pairs := h.pairs
  flash := h.flash
  force n := by
    rw [State.inst_setInst]
    split
    · rename_i e; rw [hf, e]; exact h.force n
    · exact h.force n
  detail n := by
    rw [State.inst_setInst]
    split
    · rename_i e; rw [hd, e]; exact h.detail n
    · exact h.detail n
  insts hs := by rw [(h.noFaults hs).force k] at hn; cases hn

theorem condEnd (h : s₀.Stops z) (cls scope unit : Nat) : s₀.Stops (z.condEnd cls scope unit) :=
  .ite (fun hi => h.setInst rfl rfl hi.1) fun _ => h

/-! ### Front-ends and rotations -/

theorem outputOpened (h : s₀.Stops z) (u : Nat) : s₀.Stops (z.outputOpened u) := (h.condEnd _ _ _).condEnd _ _ _

theorem sineKill (h : s₀.Stops z) (u : Nat) : s₀.Stops (z.sineKill u) := ((h.setF _ _ _).setF _ _ _).modFe _ _

theorem openFe (h : s₀.Stops z) (u : Nat) : s₀.Stops (z.openFe u) :=
  have h2 := (h.setFs (feB u) _).modFe u _
  outputOpened (sineKill (.ite (fun _ => h2.modEng _ _) fun _ => h2) u) u

theorem quietFe (h : s₀.Stops z) (u : Nat) : s₀.Stops (z.quietFe u) := .ite (fun _ => (h.openFe u).setF _ _ _) fun _ => h.openFe u

theorem passCheck (h : s₀.Stops z) (t : Nat) : s₀.Stops (z.passCheck t) :=
  .ite (fun _ => ((h.setF _ _ _).mapCmds _ _).stopCmds _ _) fun _ => h

theorem owe (h : s₀.Stops z) (c : Nat) : s₀.Stops (z.owe c) := .ite (fun _ => h) fun _ => (h.setF _ _ _).incSat _ _ _

theorem shadeOpened (h : s₀.Stops z) (nn : Nat) : s₀.Stops (z.shadeOpened nn) := by
  unfold State.shadeOpened
  extract_lets c u s1 s2
  have h1 : s₀.Stops s1 := .ite (fun _ => h.condEnd _ _ _) fun _ => h
  have h2 : s₀.Stops s2 := .ite (fun _ => h1.condEnd _ _ _) fun _ => h1
  exact (h2.modFe _ _).setFs _ _

theorem rotFree (h : s₀.Stops z) (nn : Nat) : s₀.Stops (z.rotFree nn) := by
  unfold State.rotFree
  extract_lets c b s1 s2 s3 s4
  have h2 : s₀.Stops s2 := (((h.shadeOpened nn).setRot nn {}).modFe _ _).modAdc _ _
  have h4 : s₀.Stops s4 := ((h2.setF _ _ _).setF _ _ _).setF _ _ _
  exact h4.modAdc _ _

theorem rotUndo (h : s₀.Stops z) (nn : Nat) : s₀.Stops (z.rotUndo nn) :=
  .ite (fun _ => h) fun _ => setRot (.ite (fun _ => (h.set_sram _).set_sram _) fun _ => h.set_sram _) _ _

theorem abandonRotation (h : s₀.Stops z) (c : Nat) : s₀.Stops (z.abandonRotation c) :=
  .ite (fun _ => ((((h.rotUndo _).rotFree _).owe c).mapCmds _ _).stopCmds _ _ |>.passCheck _) fun _ => h

theorem tripFe (h : s₀.Stops z) (u cls : Nat) : s₀.Stops (z.tripFe u cls) := by
  unfold State.tripFe
  extract_lets s1 s2
  have h2 : s₀.Stops s2 := ((h.openFe u).setF _ _ _).mapCmds _ _
  refine .ite (fun _ => h2.abandonRotation u) fun _ => ?_
  split
  · exact h2.abandonRotation _
  · exact h2

theorem rotKillAll (h : s₀.Stops z) (p : Nat → Bool) : s₀.Stops (z.rotKillAll p) :=
  .foldl _ h fun _ _ g => .ite (fun _ => g.abandonRotation _) fun _ => g

/-! ### Runs and contexts -/

theorem adcShow (h : s₀.Stops z) (c : Nat) : s₀.Stops (z.adcShow c) := h.setFs _ _

theorem adcRefillAs (h : s₀.Stops z) (c : Nat) (l : List Inj) : s₀.Stops (z.adcRefillAs c l) := by
  induction l generalizing z with
  | nil => exact h.adcShow c
  | cons i is ih =>
    rw [State.adcRefillAs]
    refine .ite (fun _ => ih ?_) fun _ => h.adcShow c
    split
    · exact (h.modAdc _ _).adcShow c
    · exact ((h.modAdc _ _).adcShow c).mapCmds _ _

theorem idleEngine (h : s₀.Stops z) (c : Nat) (d : Drv) : s₀.Stops (z.idleEngine c d) := by
  unfold State.idleEngine
  extract_lets s1 s2 s3 s4 b
  have h1 : s₀.Stops s1 := (h.modEng _ _).modAdc _ _
  have h2 : s₀.Stops s2 := .ite (fun _ => h1) fun _ => h1.adcRefillAs c _
  have h3 : s₀.Stops s3 := setF (.ite (fun _ => h2) fun _ => h2.setF _ _ _) _ _ _
  have h4 : s₀.Stops s4 := ((h3.setF _ _ _).modMic _ _).condEnd _ _ _
  exact .ite (fun _ => h4.setF _ _ _) fun _ => h4

theorem tablesTake (h : s₀.Stops z) (m : Nat) : s₀.Stops (z.tablesTake m) :=
  .ite (fun _ => .ite (fun _ => (h.modTdc _ _).setFs _ _) fun _ => h.modTdc _ _) fun _ => h

theorem killRun (h : s₀.Stops z) (c : Nat) (e : Option Ending) : s₀.Stops (z.killRun c e) := by
  refine .ite (fun _ => idleEngine (tablesTake ?_ c) c .z) fun _ => h
  split
  · exact h.endCmd _ _
  · exact h

theorem killCtx (h : s₀.Stops z) (t x : Nat) (e : Option Ending) : s₀.Stops (z.killCtx t x e) := by
  refine .ite (fun _ => h) fun _ => setF (setF (setF (modCtx ?_ t x _) _ _ _) _ _ _) _ _ _
  split
  · exact h.endCmd _ _
  · exact h

theorem killRuns (h : s₀.Stops z) (p : Nat → Bool) (e : Option Ending) : s₀.Stops (z.killRuns p e) :=
  .foldl _ (.foldl _ h fun _ _ g => g.killRun _ e) fun _ _ g => .foldl _ g fun _ _ g' => g'.killCtx _ _ e

theorem faultRun (h : s₀.Stops z) (c cls : Nat) : s₀.Stops (z.faultRun c cls) := .ite (fun _ => (h.setF _ _ _).modEng _ _) fun _ => h

/-! ### Converters, stamps, Sepia, captures, calibration -/

theorem adcKillAll (h : s₀.Stops z) (p : Nat → Bool) : s₀.Stops (z.adcKillAll p) :=
  .foldl _ h fun _ _ g => ((g.modAdc _ _).setF _ _ _).setF _ _ _

theorem adcDrop (h : s₀.Stops z) (t : Nat) : s₀.Stops (z.adcDrop t) := .foldl _ h fun _ _ g => g.modAdc _ _

theorem stampKill (h : s₀.Stops z) (p : Nat → Bool) : s₀.Stops (z.stampKill p) := .foldl _ h fun _ _ g => (g.modTdc _ _).setF _ _ _

theorem sepiaKill (h : s₀.Stops z) (t : Nat) (e : Option Ending) : s₀.Stops (z.sepiaKill t e) := by
  refine .foldl _ h fun _ _ g => .ite (fun _ => g) fun _ => setF (wr (setJob ?_ t _ none) _ _) _ _ _
  split
  · exact g.endCmd _ _
  · exact g

theorem trigEnd (h : s₀.Stops z) (t st : Nat) (e : Option Ending) : s₀.Stops (z.trigEnd t st e) := by
  refine setF (modTrig ?_ t _) _ _ _
  split
  · exact h.endCmd _ _
  · exact h

theorem domRelease (h : s₀.Stops z) (d : Nat) : s₀.Stops (z.domRelease d) :=
  .ite (fun _ => h) fun _ => .foldl _ h fun _ _ g => .ite (fun _ => g.trigEnd _ _ _) fun _ => g

theorem domsRelease (h : s₀.Stops z) : s₀.Stops z.domsRelease := (h.domRelease 1).domRelease 2

theorem trigStop (h : s₀.Stops z) (p : Nat → Bool) (e : Option Ending) : s₀.Stops (z.trigStop p e) :=
  .foldl _ h fun _ _ g => .ite (fun _ => g.trigEnd _ _ _) fun _ => g

theorem trigKill (h : s₀.Stops z) (t : Nat) (e : Option Ending) (b : Bool) : s₀.Stops (z.trigKill t e b) :=
  .ite (fun _ => .ite (fun _ => (h.trigEnd _ _ _).domRelease _) fun _ => h.trigEnd _ _ _) fun _ => .ite (fun _ => h.setF _ _ _) fun _ => h

theorem xferKill (h : s₀.Stops z) (t : Nat) : s₀.Stops (z.xferKill t) :=
  .ite (fun _ => ((h.setF _ _ _).setF _ _ _).modTile _ _) fun _ => h

theorem anchorKill (h : s₀.Stops z) (e : Option Ending) : s₀.Stops (z.anchorKill e) := by
  refine .ite (fun _ => set_anchor (setF ?_ 0 CAL_STATUS.ANCHOR_RUN 0) {}) fun _ => h
  split
  · exact h.endCmd _ _
  · exact h

/-! ### Tiles, the module, level actions -/

theorem stopTile (h : s₀.Stops z) (t : Nat) (e : Option Ending) : s₀.Stops (z.stopTile t e) :=
  have h1 := (Stops.foldl (z.listedFes fun u => decide (tileOf u = t)) h fun _ u g => g.quietFe u).killRuns (fun x => decide (x = t)) e
  have h2 := ((h1.adcKillAll fun x => decide (x = t)).adcDrop t).stampKill fun x => decide (x = t)
  ((((h2.sepiaKill t e).trigKill t e false).rotKillAll fun x => decide (x = t)).xferKill t).anchorKill e

theorem rqClear (h : s₀.Stops z) (t : Nat) : s₀.Stops (z.rqClear t) := (h.resetRegs _).modTile _ _

theorem cutTests (h : s₀.Stops z) (t : Nat) : s₀.Stops (z.cutTests t) := (h.set_tests _).set_tests _

theorem quiesce (h : s₀.Stops z) (t cls : Nat) : s₀.Stops (z.quiesce t cls) :=
  .ite (fun _ => h) fun _ => (((((h.stopTile t _).rqClear t).mapCmds _ _).cutTests t).setF _ _ _).modTile _ _

theorem setMode (h : s₀.Stops z) (m : Nat) : s₀.Stops (z.setMode m) := .ite (fun _ => h) fun _ => (h.setF _ _ _).setF _ _ _

theorem enterSafe (h : s₀.Stops z) (cls : Nat) : s₀.Stops (z.enterSafe cls) := by
  refine .ite (fun _ => h) fun _ => ?_
  extract_lets e s1 s2 s3 s4 s5 s6 s7 s8 s9 s10
  have h2 : s₀.Stops s2 := (Stops.foldl _ h fun _ u g => g.quietFe u).killRuns _ _
  have h5 : s₀.Stops s5 := (((h2.adcKillAll _).stampKill _).trigStop _ _).domsRelease
  have h6 : s₀.Stops s6 := .foldl _ h5 fun _ _ g => g.sepiaKill _ _
  have h8 : s₀.Stops s8 := (h6.rotKillAll _).anchorKill _
  have h9 : s₀.Stops s9 := .foldl _ h8 fun _ _ g => .ite (fun _ => g.setF _ _ _) fun _ => g.modTile _ _
  have h10 : s₀.Stops s10 := (h9.mapCmds _ _).set_tests _
  exact (h10.setMode stSAFE).set_svc false false

theorem amberChannel (h : s₀.Stops z) (c cls : Nat) : s₀.Stops (z.amberChannel c cls) :=
  have g := (h.tripFe (z.phys c) cls).abandonRotation c
  .ite (fun _ => g.faultRun c cls) fun _ => g

theorem amberTile (h : s₀.Stops z) (t cls : Nat) : s₀.Stops (z.amberTile t cls) :=
  .foldl _ (.foldl _ h fun _ _ g => g.amberChannel _ cls) fun _ _ g => g.tripFe _ cls

theorem levelAction (h : s₀.Stops z) (k level : Nat) : s₀.Stops (z.levelAction k level) := by
  refine .ite (fun _ => h.enterSafe _) fun _ => .ite (fun _ => .ite (fun _ => ?_) fun _ => ?_) fun _ => .ite (fun _ => ?_) fun _ => h
  · exact .foldl _ (h.trigStop _ _).domsRelease fun _ _ g => g.quiesce _ _
  · split
    · exact h.quiesce _ _
    · exact h
  · exact .ite (fun _ => h.amberChannel _ _) fun _ => .ite (fun _ => h.tripFe _ _) fun _ => .ite (fun _ => h.amberTile _ _) fun _ =>
      .ite (fun _ => .foldl _ h fun _ _ g => g.amberTile _ _) fun _ => h

end State.Stops

end Sys2Proof.Machine
end

section
/-! SUPPORT. Steps of a row's proof: how it completes, which bits a tile's mark is, what the end of a condition and a state change leave alone. -/

namespace Sys2Proof.Machine

open Sys2Proof (Instr)

theorem completes_done {i : Instr} {s z : State} {P : State → Prop} (hx : exec i s = done z) (h : P z.settled) : Completes i s P := ⟨_, hx, h⟩

theorem foldl_keeps_mem {α : Type} {R : State → Prop} {f : State → α → State} (l : List α) {z : State} (h : R z)
    (hf : ∀ s a, a ∈ l → R s → R (f s a)) : R (l.foldl f z) := by
  induction l generalizing z with
  | nil => exact h
  | cons a l ih => exact ih (hf z a List.mem_cons_self h) fun s b hb => hf s b (List.mem_cons_of_mem _ hb)

/-! ### Fields -/

theorem Fld.get_lt (f : Fld) (w : Word) : f.get w < 2 ^ (f.hi + 1 - f.lo) := Nat.mod_lt _ (Nat.two_pow_pos _)

theorem State.getF_lt (s : State) (b : Nat) (f : Fld) : s.getF b f < 2 ^ (f.hi + 1 - f.lo) := f.get_lt _

theorem State.isSet_of_getF {s : State} {b : Nat} {f : Fld} {n : Nat} (h : s.getF b f = n) : s.isSet b f = (n != 0) := by
  unfold State.isSet
  rw [h]

theorem State.settled_isSet (s : State) {b : Nat} {f : Fld} (h : follows (b + f.off) = false) : s.settled.isSet b f = s.isSet b f :=
  State.isSet_of_getF (s.settled_getF h)

theorem State.settled_glbSet (s : State) {f : Fld} (ho : f.off = 0x10) (hl : 2 < f.lo) : s.settled.isSet 0 f = s.isSet 0 f :=
  State.isSet_of_getF (s.settled_glb ho hl)

theorem testBit_setBit_self (m k : Nat) (b : Bool) : (setBit m k b).testBit k = b := by
  unfold setBit
  cases b with
  | true => simp
  | false =>
    rw [if_neg Bool.false_ne_true]
    by_cases h : m.testBit k = true
    · rw [if_pos h]
      rw [Nat.testBit_eq_decide_div_mod_eq, decide_eq_true_eq] at h
      have hle : 2 ^ k * 1 ≤ m := by
        rw [Nat.mul_one]
        by_contra hlt
        rw [Nat.div_eq_of_lt (Nat.lt_of_not_le hlt)] at h
        cases h
      have hd := Nat.sub_mul_div_of_le m (2 ^ k) 1 hle
      rw [Nat.mul_one] at hd
      rw [Nat.testBit_eq_decide_div_mod_eq, hd, decide_eq_false_iff_not]
      omega
    · rw [if_neg h, Nat.sub_zero]
      exact Bool.eq_false_iff.2 h

theorem State.tileQ_setTileQ_self (s : State) {k : Nat} (hk : k < 8) (b : Bool) : (s.setTileQ k b).tileQ k = b := by
  unfold State.tileQ State.setTileQ
  rw [State.getF_setF_self _ _ _ _ (by decide), Nat.testBit_mod_two_pow, testBit_setBit_self]
  simp [hk]

theorem State.settled_tileQ (s : State) (k : Nat) : s.settled.tileQ k = s.tileQ k :=
  congrArg (Nat.testBit · k) (s.settled_glb (f := GLB_STATUS.TILE_Q) rfl (by decide))

/-- The registers of a tile's own block do not follow a command. -/
theorem tileBase_follows {k o : Nat} (hk : k < 8) (ho : o < 0x10000) : follows (tileBase k + o) = false := by
  unfold follows tileBase
  rw [decide_eq_false_iff_not]
  omega

/-! ### Frames -/

variable {w : Touch} {s t : State}

theorem Exact.ite {c : Prop} [Decidable c] {a b : State} (ha : c → Exact w s a) (hb : ¬ c → Exact w s b) : Exact w s (if c then a else b) :=
  ite_keeps ha hb

theorem Exact.foldl {α : Type} {f : State → α → State} (l : List α) (h : Exact w s t)
    (hf : ∀ x a, a ∈ l → Exact w s x → Exact w s (f x a)) : Exact w s (l.foldl f t) := foldl_keeps_mem l h hf

theorem Exact.incSat (h : Exact w s t) {b : Nat} {f : Fld} (v : Nat) (ha : w.regs (b + f.off)) : Exact w s (t.incSat b f v) := h.setF _ ha

theorem Exact.setInst (h : Exact w s t) (k : Nat) (i : Inst) (hp : ∀ x l, w.parts { x with insts := l } = w.parts x) : Exact w s (t.setInst k i) :=
  h.congr (hp t.parts (tabSet (fun _ => {}) t.insts k i)) rfl rfl rfl rfl rfl rfl rfl rfl

theorem Exact.condEnd (h : Exact w s t) (cls scope unit : Nat) (hp : ∀ x l, w.parts { x with insts := l } = w.parts x) :
    Exact w s (t.condEnd cls scope unit) :=
  .ite (fun _ => h.setInst _ _ hp) fun _ => h

theorem State.condEnd_getF (s : State) (cls scope unit b : Nat) (f : Fld) : (s.condEnd cls scope unit).getF b f = s.getF b f :=
  ite_keeps (R := fun x => x.getF b f = s.getF b f) (fun _ => rfl) fun _ => rfl

theorem State.condEnd_isSet (s : State) (cls scope unit b : Nat) (f : Fld) : (s.condEnd cls scope unit).isSet b f = s.isSet b f :=
  State.isSet_of_getF (s.condEnd_getF ..)

theorem State.condEnd_tb (s : State) (cls scope unit : Nat) : (s.condEnd cls scope unit).tb = s.tb :=
  ite_keeps (R := fun x => x.tb = s.tb) (fun _ => rfl) fun _ => rfl

end Sys2Proof.Machine
end

section
/-! PROOFS. The reference clock and the tile reset (R16, R17, R434). Settles O4. -/

namespace Sys2Proof.Machine

open Sys2Proof (Instr)

/-! ### Ports that go to DETECT -/

/-- t shows z's port states, and holds its stamp units. -/
structure State.PortShow (z t : State) : Prop where
  tdcs : t.tdcs = z.tdcs
  pst : ∀ p, t.pst p = z.pst p

/-- Field f at base b lies outside every port's STATE. -/
def sparesPst (b : Nat) (f : Fld) : Prop := ∀ p, b + f.off = pB p + LNK_P_STATUS.STATE.off → f.off = LNK_P_STATUS.STATE.off ∧ 3 < f.lo

theorem sparesPst_of_mod {b : Nat} {f : Fld} (h : (b + f.off) % 0x1000 ≠ 4) : sparesPst b f := fun p e => absurd (e ▸ h) (by
  show ¬ (0x1000 * p + 0x100004) % 0x1000 ≠ 4
  omega)

theorem sparesPst_of_lo {p : Nat} {f : Fld} (ho : f.off = LNK_P_STATUS.STATE.off) (hl : 3 < f.lo) : sparesPst (pB p) f := fun _ _ => ⟨ho, hl⟩

theorem sparesPst_glb {f : Fld} (h : f.off % 0x1000 ≠ 4) : sparesPst 0 f := sparesPst_of_mod (by rwa [Nat.zero_add])

theorem sparesPst_port (p : Nat) {f : Fld} (h : f.off % 0x1000 ≠ 4) : sparesPst (pB p) f := sparesPst_of_mod (by
  unfold pB
  rwa [Nat.mul_add_mod])

theorem mapFld_mod (p : Nat) (tx : Bool) (k : Nat) : (pB p + (mapFld tx k).off) % 0x1000 ≠ 4 := by
  have h : (mapFld tx k).off = if tx then 0x100010 else 0x10000C := by
    cases tx <;> rcases k with _ | _ | _ | _ | _ | k <;> rfl
  rw [h]
  unfold pB
  split <;> omega

theorem laneStatus_mod {p l : Nat} (hl : l < 5) : (lB p l + 0x100104) % 0x1000 ≠ 4 := by
  unfold lB
  omega

namespace State.PortShow
variable {s₀ z : State}

theorem refl (s : State) : s.PortShow s := ⟨rfl, fun _ => rfl⟩

theorem setF (h : s₀.PortShow z) {b : Nat} {f : Fld} (v : Nat) (hs : sparesPst b f) : s₀.PortShow (z.setF b f v) where
  tdcs := h.tdcs
  pst p := by
    refine Eq.trans ?_ (h.pst p)
    by_cases e : b + f.off = pB p + LNK_P_STATUS.STATE.off
    · obtain ⟨ho, hl⟩ := hs p e
      have hb : b = pB p := by omega
      rw [hb]
      exact State.getF_setF_disj _ _ _ _ _ ho (Or.inl hl)
    · exact State.getF_setF_ne _ e _

theorem setFs (h : s₀.PortShow z) {b : Nat} {l : List (Fld × Nat)} (hl : ∀ e ∈ l, sparesPst b e.1) : s₀.PortShow (z.setFs b l) :=
  foldl_keeps_mem l h fun _ e he g => g.setF e.2 (hl e he)

theorem incSat (h : s₀.PortShow z) {b : Nat} {f : Fld} (v : Nat) (hs : sparesPst b f) : s₀.PortShow (z.incSat b f v) := h.setF _ hs

theorem modPort (h : s₀.PortShow z) (p : Nat) (f : Port → Port) : s₀.PortShow (z.modPort p f) := ⟨h.tdcs, h.pst⟩

theorem setUp (h : s₀.PortShow z) (p : Nat) (up : Bool) : s₀.PortShow (z.setUp p up) := by
  refine ite_keeps (fun _ => h) fun _ => ?_
  extract_lets s
  have hs : s₀.PortShow s := by
    refine setF (setF h _ ?_) _ ?_
    · exact sparesPst_of_lo rfl (by decide)
    · exact sparesPst_glb (by decide)
  refine ite_keeps (fun _ => hs) fun _ => modPort (incSat (setF hs 1 ?_) 1 ?_) p _
  · exact sparesPst_of_lo rfl (by decide)
  · exact sparesPst_port p (by decide)

theorem setMap (h : s₀.PortShow z) (p : Nat) (tx : Bool) (ls : List Nat) (sp : Nat) : s₀.PortShow (z.setMap p tx ls sp) := by
  unfold State.setMap
  extract_lets s1 s2
  have h1 : s₀.PortShow s1 := foldl_keeps _ h fun _ k g => g.setF _ (sparesPst_of_mod (mapFld_mod p tx k))
  have h2 : s₀.PortShow s2 := h1.setF _ (sparesPst_of_mod (mapFld_mod p tx 4))
  refine foldl_keeps_mem _ h2 fun _ l hl g => g.setF _ (sparesPst_of_mod ?_)
  have ho : (roleFld tx).off = 0x100104 := by cases tx <;> rfl
  rw [ho]
  exact laneStatus_mod (List.mem_range.1 hl)

theorem showUntrained (h : s₀.PortShow z) (p : Nat) : s₀.PortShow (z.showUntrained p) := by
  unfold State.showUntrained State.awake
  extract_lets s1 s2
  have h1 : s₀.PortShow s1 := by
    refine setFs (setFs h ?_) ?_
    · simp only [List.mem_cons, List.not_mem_nil, or_false, forall_eq_or_imp, forall_eq]
      exact ⟨sparesPst_of_lo rfl (by decide), sparesPst_of_lo rfl (by decide)⟩
    · simp only [List.mem_cons, List.not_mem_nil, or_false, forall_eq_or_imp, forall_eq]
      exact ⟨sparesPst_of_lo rfl (by decide), sparesPst_of_lo rfl (by decide), sparesPst_of_lo rfl (by decide), sparesPst_of_lo rfl (by decide),
        sparesPst_port p (by decide)⟩
  have h2 : s₀.PortShow s2 := (h1.setMap p true [] 7).setMap p false [] 7
  refine foldl_keeps_mem _ h2 fun _ l hl g => g.setFs ?_
  have hm := laneStatus_mod (p := p) (List.mem_range.1 hl)
  simp only [List.mem_cons, List.not_mem_nil, or_false, forall_eq_or_imp, forall_eq]
  exact ⟨sparesPst_of_mod hm, sparesPst_of_mod hm, sparesPst_of_mod hm⟩

end State.PortShow

theorem State.tdcs_setF (s : State) (b : Nat) (f : Fld) (v : Nat) : (s.setF b f v).tdcs = s.tdcs := rfl

/-- A port that goes to DETECT shows it; the other ports' states and the stamp units stand. -/
theorem State.toDetect_show (s : State) (p : Nat) (failed : Bool) :
    (s.toDetect p failed).tdcs = s.tdcs ∧ ∀ q, (s.toDetect p failed).pst q = if p = q then 0 else s.pst q := by
  have hu := (State.PortShow.refl s).setUp p false
  have ht : ((s.setUp p false).setF (pB p) LNK_P_STATUS.STATE 0).PortShow (s.toState p 0) := by
    unfold State.toState
    exact ((State.PortShow.refl _).showUntrained p).modPort p _
  have hd : (s.toState p 0).PortShow (s.toDetect p failed) :=
    ite_keeps (fun _ => .refl _) fun _ => (State.PortShow.refl _).setF _ (sparesPst_of_lo rfl (by decide))
  refine ⟨?_, fun q => (hd.pst q).trans ((ht.pst q).trans ?_)⟩
  · rw [hd.tdcs, ht.tdcs, State.tdcs_setF, hu.tdcs]
  unfold State.pst
  split
  · rename_i e
    rw [e]
    exact State.getF_setF_self _ _ _ _ (by decide)
  · rename_i e
    refine Eq.trans (State.getF_setF_ne _ ?_ _) (hu.pst q)
    show 0x1000 * p + 0x100004 ≠ 0x1000 * q + 0x100004
    omega

theorem State.detectAll_show (l : List Nat) (s : State) : (l.foldl (fun s p => s.toDetect p false) s).tdcs = s.tdcs ∧
    ∀ q, (l.foldl (fun s p => s.toDetect p false) s).pst q = if q ∈ l then 0 else s.pst q := by
  induction l generalizing s with
  | nil => exact ⟨rfl, fun _ => rfl⟩
  | cons p l ih =>
    obtain ⟨hd, hp⟩ := s.toDetect_show p false
    obtain ⟨hd', hp'⟩ := ih (s.toDetect p false)
    rw [List.foldl_cons]
    refine ⟨hd'.trans hd, fun q => (hp' q).trans ?_⟩
    rw [hp q]
    by_cases e : p = q
    · simp [e]
    · simp [e, Ne.symm e]

/-! ### Lines that lose their lock -/

/-- Every line of unit u is out of lock. -/
def State.loseLocks (s : State) (u : Nat) : State := (s.modTdc u fun d => { d with locks := 0 }).showLocks u

theorem State.loseLocks_locks (s : State) (u v : Nat) : ((s.loseLocks u).tdc v).locks = if u = v then 0 else (s.tdc v).locks := by
  have h : (s.loseLocks u).tdc v = (s.modTdc u fun d => { d with locks := 0 }).tdc v :=
    ite_keeps (R := fun x => x.tdc v = (s.modTdc u fun d => { d with locks := 0 }).tdc v) (fun _ => rfl) fun _ => rfl
  rw [h, State.tdc_modTdc]
  split <;> rfl

theorem State.foldl_loseLocks (l : List Nat) (s : State) (v : Nat) (h : v ∈ l ∨ (s.tdc v).locks = 0) :
    ((l.foldl State.loseLocks s).tdc v).locks = 0 := by
  induction l generalizing s with
  | nil => exact h.resolve_left (by simp)
  | cons u l ih =>
    refine ih _ ?_
    rw [State.loseLocks_locks]
    by_cases e : u = v
    · exact .inr (if_pos e)
    · rw [if_neg e]
      exact h.imp_left fun hm => (List.mem_cons.1 hm).resolve_left (Ne.symm e)

/-- A key that is not listed reads its default. -/
theorem tabGet_of_not_mem {α : Type} {d : Nat → α} {t : List (Nat × α)} {k : Nat} (h : k ∉ t.map Prod.fst) : tabGet d t k = d k := by
  induction t with
  | nil => rfl
  | cons e t ih =>
    rw [List.map_cons, List.mem_cons, not_or] at h
    rw [tabGet, if_neg (Ne.symm h.1)]
    exact ih h.2

theorem State.locks_lost (s : State) (v : Nat) : (((s.tdcs.map Prod.fst).foldl State.loseLocks s).tdc v).locks = 0 := by
  refine State.foldl_loseLocks _ s v ?_
  by_cases h : v ∈ s.tdcs.map Prod.fst
  · exact .inl h
  · refine .inr ?_
    unfold State.tdc
    rw [tabGet_of_not_mem h]

/-- Where the clocks stop, every delay line is out of lock and every port in DETECT (R16). -/
theorem State.clocksStop_show (s : State) (n : Nat) : (∀ u, ((s.clocksStop n).tdc u).locks = 0) ∧ ∀ p < 4, (s.clocksStop n).pst p = 0 := by
  unfold State.clocksStop
  extract_lets s1 s2 s3 s4 s5
  obtain ⟨hd, hp⟩ := State.detectAll_show (List.range 4) s5
  refine ⟨fun u => ?_, fun p hp4 => (hp p).trans (if_pos (List.mem_range.2 hp4))⟩
  have hu : ((List.range 4).foldl (fun s p => s.toDetect p false) s5).tdc u = s5.tdc u := congrArg (fun l => tabGet (fun _ => ({} : Tdc)) l u) hd
  exact (congrArg Tdc.locks hu).trans (s4.locks_lost u)

/-! ### What a tile reset does first and last -/

/-- Ends of captures change no register but TRG_STATUS. -/
theorem State.Spares.trigEnd {K : Nat → Bool} {s₀ z : State} (h : s₀.Spares K z) (hK : ∀ t, K (tileBase t + 0x3004) = true) (t st : Nat)
    (e : Option Ending) : s₀.Spares K (z.trigEnd t st e) := by
  refine State.Spares.setF (z := State.modTrig _ t _) ?_ _ TRG_STATUS.STATE _ (hK t)
  split
  · exact fun a ha => h a ha
  · exact fun a ha => h a ha

theorem State.Spares.domRelease {K : Nat → Bool} {s₀ z : State} (h : s₀.Spares K z) (hK : ∀ t, K (tileBase t + 0x3004) = true) (d : Nat) :
    s₀.Spares K (z.domRelease d) :=
  ite_keeps (fun _ => h) fun _ => foldl_keeps _ h fun _ _ g => ite_keeps (fun _ => g.trigEnd hK _ _ _) fun _ => g

theorem State.Spares.trigStop {K : Nat → Bool} {s₀ z : State} (h : s₀.Spares K z) (hK : ∀ t, K (tileBase t + 0x3004) = true) (p : Nat → Bool)
    (e : Option Ending) : s₀.Spares K (z.trigStop p e) :=
  foldl_keeps _ h fun _ _ g => ite_keeps (fun _ => g.trigEnd hK _ _ _) fun _ => g

/-- TRG_STATUS of a tile. -/
def trigStatus (a : Nat) : Bool := decide (a % 0x100000 = 0x3004)

/-- The captures that a tile reset ends leave every register but TRG_STATUS. -/
theorem State.trigStop_domsRelease_rd (s : State) (p : Nat → Bool) (e : Option Ending) {a : Nat} (h : a % 0x100000 ≠ 0x3004) :
    ((s.trigStop p e).domsRelease).rd a = s.rd a := by
  have hK : ∀ t, trigStatus (tileBase t + 0x3004) = true := fun t => by
    unfold trigStatus tileBase
    rw [decide_eq_true_eq]
    omega
  exact (((State.Spares.refl s).trigStop hK p e).domRelease hK 1).domRelease hK 2 a (decide_eq_false h)

namespace State.Stops
variable {s₀ z : State}

theorem cmpCondEnd (h : s₀.Stops z) (u k : Nat) : s₀.Stops (z.cmpCondEnd u k) := by
  unfold State.cmpCondEnd
  extract_lets s
  have hs : s₀.Stops s := h.modCmp _ _ _
  exact .ite (fun _ => .ite (fun _ => hs) fun _ => hs.condEnd _ _ _) fun _ => h

theorem cmpOff (h : s₀.Stops z) (u k : Nat) : s₀.Stops (z.cmpOff u k) := by
  unfold State.cmpOff
  exact ((h.cmpCondEnd u k).setFs _ _).modCmp _ _ _

theorem showLocks (h : s₀.Stops z) (u : Nat) : s₀.Stops (z.showLocks u) := .ite (fun _ => h.setFs _ _) fun _ => h

theorem flClear (h : s₀.Stops z) (t : Nat) : s₀.Stops (z.flClear t) :=
  .foldl _ (((h.setF _ _ _).setF _ _ _).modTile _ _) fun _ _ g => g.modFlGroup _ _ _

end State.Stops

theorem State.noFaults.filter {s : State} (h : s.noFaults) (p : Nat × Inst → Bool) : s.insts.filter (fun e => e.2.force && p e) = [] :=
  List.filter_eq_nil_iff.2 fun e he => by rw [h e he]; exact Bool.false_ne_true

theorem State.noFaults.tileInsts {s : State} (h : s.noFaults) (t : Nat) : s.tileInsts t = [] := by
  unfold State.tileInsts
  rw [h.filter fun e => keyTile e.1 == some t]
  rfl

/-- What a capture unit holds after a tile reset. -/
def Trig.cleared (g : Trig) : Trig := { g with segs := [], cur := none, lanes := [], wr := 0, left := none }

/-- The marks that a tile reset sets last. -/
def State.markReset (s : State) (t : Nat) : State :=
  ((s.setFs (tileBase t) [(TRG_STATUS.SEGS, 0), (TIL_STATUS.RESET, 1)]).setF (t * 0x10) CAL_TILE_ROT.DUE 1).setTileQ t true

/-- With no fault in force, a tile reset ends with its captures cleared and its marks set. -/
theorem State.tileReset_marks {s : State} {t : Nat} (hm : s.mode ≠ stBOOT) (hr : s.isSet (tileBase t) TIL_STATUS.RESET = false)
    (hn : s.noFaults) : ∃ z : State, s.tileReset t = (z.modTrig t Trig.cleared).markReset t := by
  unfold State.tileReset
  extract_lets b work s1 s2 r s3 s4 s5 us s6 s7 s8 s9 s10 s11
  rw [if_neg (not_or.2 ⟨hm, by rw [hr]; exact Bool.false_ne_true⟩)]
  have h2 : s.Stops s2 := ((State.Stops.refl s).stopCmds _ _).cutTests t
  have h3 : s.Stops s3 := .ite (fun _ => (h2.set_free _).anchorKill _) fun _ => h2
  have h5 : s.Stops s5 := ((h3.stopTile t none).trigKill t none true).rqClear t
  have h6 : s.Stops s6 := .foldl _ h5 fun _ _ g =>
    ((((((((g.resetRegs _).setF _ _ _).modFe _ _).cmpOff _ 0).cmpOff _ 1).resetRegs _).modTdc _ _).showLocks _)
  have h9 : s.Stops s9 := ((((h6.resetRegs _).set_sram _).modTile _ _).flClear t).modTrig t _
  have h11 : s.Stops s11 := ((h9.setFs _ _).setF _ _ _).setF _ _ _
  rw [(h11.noFaults hn).tileInsts t]
  exact ⟨(s8.modTile t fun x => { x with flQueue := [] }).flClear t, rfl⟩

/-- A keyed write of GLB_RESET that names tile k alone resets that tile, after the captures of the tiles named have ended. -/
theorem State.glbReset_oneTile {s : State} {w : Word} (spb : Bool) {k : Fin 8} (hi : s.inReset = false) (hk : GLB_RESET.KEY.get w = 0x5AFE)
    (hm : GLB_RESET.MODULE.get w = 0) (ht : GLB_RESET.TILES.get w = 2 ^ k.val) :
    ∃ z : State, s.glbReset w spb = z.tileReset k ∧ s.Stops z ∧ ∀ a, a ≠ 0x20 → a % 0x100000 ≠ 0x3004 → z.rd a = s.rd a := by
  have hbits : ∀ k : Fin 8, bitsSet 8 (2 ^ k.val) = [k.val] := by decide
  unfold State.glbReset
  extract_lets asks clr s1 ts s2
  rw [if_neg (by rw [hi]; exact Bool.false_ne_true), if_neg (not_not.2 hk), if_neg (by rw [hm]; decide)]
  have hts : ts = [k.val] := by
    show bitsSet 8 (GLB_RESET.TILES.get w) = [k.val]
    rw [ht, hbits k]
  have h1 : s.Stops s1 := .ite (fun _ => (State.Stops.refl s).setF _ _ _) fun _ => .refl s
  have hr1 : ∀ a, a ≠ 0x20 → s1.rd a = s.rd a := fun a ha =>
    ite_keeps (R := fun x => x.rd a = s.rd a) (fun _ => State.rd_setF_ne s (Ne.symm ha) _) fun _ => rfl
  refine ⟨s2.domsRelease, ?_, (h1.trigStop _ _).domsRelease, fun a ha h3 => (s1.trigStop_domsRelease_rd _ none h3).trans (hr1 a ha)⟩
  rw [hts, List.foldl_cons, List.foldl_nil]

/-! ### The rows -/

/-- Field values of a chain of writes to other fields. -/
theorem State.refclkRecovered (s : State) (m : Nat) {z : State} (hz : z = s.setFs 0 [(GLB_STATUS.ROOT_LOCK, 1), (GLB_STATUS.REF_INT, 0),
    (SPA_STATUS.INTOSC, 0), (SPA_STATUS.MODE, m)]) :
    z.getF 0 GLB_STATUS.ROOT_LOCK = 1 ∧ z.getF 0 GLB_STATUS.REF_INT = 0 ∧ z.getF 0 SPA_STATUS.INTOSC = 0 ∧
      z.getF 0 SPA_STATUS.MODE = m % 4 := by
  subst hz
  simp (disch := decide) [State.getF_setF_self, State.getF_setF_disj, State.getF_setF_ne]

theorem refclkLoss_unclocked {s : State} {n : BitVec 16} {pll : Bool} (hi : s.inReset = false) (hn : n.toNat < 990 ∨ 1010 < n.toNat ∨ pll = true)
    (hc : s.clocked = false) : exec (.refclkLoss n pll) s = done (s.setF 0 GLB_STATUS.REF_INT 1) := by
  show execRefclkLoss n pll s = _
  rw [execRefclkLoss, if_neg (not_or.2 ⟨by rw [hi]; exact Bool.false_ne_true, not_not.2 hn⟩), if_neg (by rw [hc]; exact Bool.false_ne_true)]

theorem refclkLoss_clocked {s : State} {n : BitVec 16} {pll : Bool} (hi : s.inReset = false) (hn : n.toNat < 990 ∨ 1010 < n.toNat ∨ pll = true)
    (hc : s.clocked = true) : exec (.refclkLoss n pll) s = done (s.clocksStop n.toNat) := by
  show execRefclkLoss n pll s = _
  rw [execRefclkLoss, if_neg (not_or.2 ⟨by rw [hi]; exact Bool.false_ne_true, not_not.2 hn⟩), if_pos hc]

/-- The time base and its divider start again. -/
def State.tbZero (s : State) : State := { s with tb := 0, div := 0 }

theorem State.tbZero_getF (s : State) (b : Nat) (f : Fld) : s.tbZero.getF b f = s.getF b f := rfl

theorem Exact.tbZero {w : Touch} {s t : State} (h : Exact w s t) (hp : ∀ x : State, w.parts x.tbZero = w.parts x) :
    Exact w s t.tbZero := h.congr (hp t.parts) rfl rfl rfl rfl rfl rfl rfl rfl

/-- What a recovery of REFCLK does but for the end of CLOCK_LOSS (R17). -/
def State.clocksStart (s : State) : State :=
  (s.setFs 0 [(GLB_STATUS.ROOT_LOCK, 1), (GLB_STATUS.REF_INT, 0), (SPA_STATUS.INTOSC, 0), (SPA_STATUS.MODE, s.spaMode)]).tbZero

theorem refclkRecovery_boots {s : State} (hi : s.inReset = false) (hc : s.clocked = false) (hp : 2 < s.getF 0 GLB_BOOT_STATUS.PHASE) :
    exec .refclkRecovery s = done (s.clocksStart.condEnd 0x10 scMODULE 0) := by
  show execRefclkRecovery s = _
  rw [execRefclkRecovery, if_neg]
  · rfl
  · rw [hi, hc]
    simpa using hp

/-- After a recovery of REFCLK nothing but the clocks' marks, the time base and CLOCK_LOSS differs. -/
theorem State.clocksStart_exact (s : State) :
    Exact { regs := fun a => a = 0x10 ∨ a = SPA_STATUS.MODE.off, parts := fun x => { x with tb := 0, div := 0, insts := [] } } s
      (s.clocksStart.condEnd 0x10 scMODULE 0) := by
  refine Exact.condEnd (Exact.tbZero (Exact.setFs (Exact.refl _ s) ?_) fun _ => rfl) _ _ _ fun _ _ => rfl
  simp

theorem State.clocksStart_getF (s : State) (f : Fld) : (s.clocksStart.condEnd 0x10 scMODULE 0).getF 0 f = (s.setFs 0 [(GLB_STATUS.ROOT_LOCK, 1),
    (GLB_STATUS.REF_INT, 0), (SPA_STATUS.INTOSC, 0), (SPA_STATUS.MODE, s.spaMode)]).getF 0 f :=
  (State.condEnd_getF ..).trans (State.tbZero_getF ..)

/-- Without a fault in force, a tile whose reset ends only leaves its marks. -/
theorem State.tileResetOver_noFaults {s : State} (h : s.noFaults) (k : Nat) :
    s.tileResetOver k = (s.setF (tileBase k) TIL_STATUS.RESET 0).setTileQ k false := by
  have h1 : (s.setF (tileBase k) TIL_STATUS.RESET 0).noFaults := ((State.Stops.refl s).setF _ _ _).noFaults h
  have h2 : ((s.setF (tileBase k) TIL_STATUS.RESET 0).setTileQ k false).noFaults := (((State.Stops.refl s).setF _ _ _).setF _ _ _).noFaults h
  unfold State.tileResetOver
  extract_lets s1 s2
  have e2 : s2 = s1.setTileQ k false := by
    show (s1.tileInsts k).foldl _ _ = _
    rw [h1.tileInsts k]
    rfl
  rw [e2]
  simp only [Bool.and_assoc]
  rw [h2.filter]
  rfl

/-- A tile's mark in TILE_Q is written in GLB_STATUS alone. -/
theorem State.tileBase_setTileQ (s : State) (k t : Nat) (b : Bool) {f : Fld} :
    (s.setTileQ k b).getF (tileBase t) f = s.getF (tileBase t) f := State.getF_setF_ne _ (by
  show 0x10 ≠ tileBase t + f.off
  unfold tileBase
  omega) _

theorem State.markReset_shows (s : State) {k : Nat} (hk : k < 8) : (s.markReset k).getF (tileBase k) TIL_STATUS.RESET = 1 ∧
    (s.markReset k).tileQ k = true ∧ (s.markReset k).getF (k * 0x10) CAL_TILE_ROT.DUE = 1 := by
  unfold State.markReset
  rw [State.setFs_cons, State.setFs_cons, State.setFs_nil]
  have hne : k * 0x10 + 0x400104 ≠ tileBase k + 0 := by
    unfold tileBase
    omega
  have h1 : ∀ n, 0 < n → 1 % 2 ^ n = 1 := fun n hn => Nat.mod_eq_of_lt (Nat.one_lt_two_pow (Nat.ne_of_gt hn))
  refine ⟨?_, State.tileQ_setTileQ_self _ hk _, ?_⟩
  · rw [State.tileBase_setTileQ, State.getF_setF_ne _ hne, State.getF_setF_self _ _ _ _ (by decide), h1 _ (by decide)]
  · have hq : 0 + 0x10 ≠ k * 0x10 + 0x400104 := by omega
    rw [State.setTileQ, State.getF_setF_ne _ hq, State.getF_setF_self _ _ _ _ (by decide), h1 _ (by decide)]

/-- A tile reset that its key lets through ends with the tile's marks set and its captures cleared. -/
theorem glbResetTile_marks {s : State} {w : Word} (spb : Bool) {k : Fin 8} (hi : s.inReset = false) (hb : s.mode ≠ stBOOT) (hn : s.noFaults)
    (hk : GLB_RESET.KEY.get w = 0x5AFE) (hm : GLB_RESET.MODULE.get w = 0) (ht : GLB_RESET.TILES.get w = 2 ^ k.val)
    (hr : s.isSet (tileBase k) TIL_STATUS.RESET = false) :
    ∃ z : State, exec (.glbResetTile w spb) s = done ((z.modTrig k Trig.cleared).markReset k) := by
  obtain ⟨z, hz, hzs, hrd⟩ := State.glbReset_oneTile spb hi hk hm ht
  have hzb : z.mode ≠ stBOOT := by
    have e : z.mode = s.mode := congrArg GLB_STATUS.STATE.get (hrd 0x10 (by decide) (by decide))
    rwa [e]
  have hzr : z.isSet (tileBase k) TIL_STATUS.RESET = false := by
    have ha : tileBase k + 0 ≠ 0x20 ∧ (tileBase k + 0) % 0x100000 ≠ 0x3004 := by
      unfold tileBase
      omega
    have e : z.rd (tileBase k + TIL_STATUS.RESET.off) = s.rd (tileBase k + TIL_STATUS.RESET.off) := hrd _ ha.1 ha.2
    exact (State.isSet_of_getF (congrArg TIL_STATUS.RESET.get e)).trans hr
  obtain ⟨y, hy⟩ := State.tileReset_marks hzb hzr (hzs.noFaults hn)
  refine ⟨y, ?_⟩
  show done (s.glbReset w spb) = _
  rw [hz, hy]

/-- A write of GLB_RESET with a wrong key that asks for a reset only sets KEYERR. -/
theorem glbResetTile_wrongKey {s : State} {w : Word} (spb : Bool) (hi : s.inReset = false) (hk : GLB_RESET.KEY.get w ≠ 0x5AFE)
    (ha : GLB_RESET.MODULE.get w = 1 ∨ GLB_RESET.TILES.get w ≠ 0) : exec (.glbResetTile w spb) s = done (s.setF 0 GLB_RESET.KEYERR 1) := by
  show done (s.glbReset w spb) = _
  rw [State.glbReset, if_neg (by rw [hi]; exact Bool.false_ne_true), if_pos hk, if_pos (decide_eq_true ha)]

/-- Settles O4: each row's outcome is a chain of field writes after the work that it ends. -/
theorem clockAndTileResetRows : Obligations.ClockAndTileResetRows := by
  intro s hi
  refine ⟨fun n pll hn hc => ?_, fun n pll hn hc => ?_, fun hc hp => ?_, fun w spb k hb hn hk hm ht hr => ?_, fun w spb hk ha => ?_,
    fun k hn hr => ?_⟩
  · refine completes_done (refclkLoss_unclocked hi hn hc) ⟨?_, ((Exact.refl _ s).setF _ rfl).settled⟩
    rw [State.settled_glbSet _ rfl (by decide)]
    exact State.isSet_of_getF (State.getF_setF_self _ _ _ _ (by decide))
  · obtain ⟨hl, hp⟩ := s.clocksStop_show n.toNat
    refine completes_done (refclkLoss_clocked hi hn hc) ⟨fun u => ?_, fun p hp4 => ?_⟩
    · unfold State.tdc
      rw [State.settled_tdcs]
      exact hl u
    · refine (State.settled_getF _ ?_).trans (hp p hp4)
      show follows (0x1000 * p + 0x100004) = false
      unfold follows
      rw [decide_eq_false_iff_not]
      omega
  · obtain ⟨hroot, hint, hosc, hmode⟩ := s.refclkRecovered s.spaMode rfl
    refine completes_done (refclkRecovery_boots hi hc hp) ⟨?_, ?_, ?_, ?_, ?_, s.clocksStart_exact.settled⟩
    · exact (State.settled_glbSet _ rfl (by decide)).trans (State.isSet_of_getF ((s.clocksStart_getF _).trans hroot))
    · exact (State.settled_glbSet _ rfl (by decide)).trans (State.isSet_of_getF ((s.clocksStart_getF _).trans hint))
    · rw [State.settled_tb, State.condEnd_tb]
      rfl
    · exact (State.settled_isSet _ (by decide)).trans (State.isSet_of_getF ((s.clocksStart_getF _).trans hosc))
    · exact (State.settled_getF _ (by decide)).trans ((s.clocksStart_getF _).trans hmode)
  · obtain ⟨z, hz⟩ := glbResetTile_marks spb hi hb hn hk hm ht hr
    obtain ⟨hreset, hq, hdue⟩ := State.markReset_shows (z.modTrig k Trig.cleared) k.isLt
    refine completes_done hz ⟨?_, (State.settled_tileQ _ _).trans hq, (State.settled_getF _ ?_).trans hdue, ?_⟩
    · exact (State.settled_isSet _ (tileBase_follows k.isLt (by decide))).trans (State.isSet_of_getF hreset)
    · show follows (k * 0x10 + 0x400104) = false
      unfold follows
      rw [decide_eq_false_iff_not]
      omega
    · unfold State.trig
      rw [State.settled_trigs]
      exact congrArg Trig.segs (State.trig_modTrig_self (s := z) k Trig.cleared)
  · refine completes_done (glbResetTile_wrongKey spb hi hk ha) ⟨?_, ((Exact.refl _ s).setF _ rfl).settled⟩
    rw [State.settled_isSet _ (by decide)]
    exact State.isSet_of_getF (State.getF_setF_self _ _ _ _ (by decide))
  · have hx : exec (.tileResetEnd k) s = done ((s.setF (tileBase k) TIL_STATUS.RESET 0).setTileQ k false) := by
      show execTileResetEnd k s = _
      rw [execTileResetEnd, if_pos hr, State.tileResetOver_noFaults hn]
    refine completes_done hx ⟨?_, ?_, (Exact.setF (Exact.setF (Exact.refl _ s) 0 (Or.inl rfl)) _ (Or.inr rfl)).settled⟩
    · rw [State.settled_isSet _ (tileBase_follows k.isLt (by decide))]
      exact State.isSet_of_getF ((State.tileBase_setTileQ ..).trans (State.getF_setF_self _ _ _ _ (by decide)))
    · rw [State.settled_tileQ]
      exact State.tileQ_setTileQ_self _ k.isLt _

end Sys2Proof.Machine
end

section
/-! SUPPORT. Black-box records written to flash (R369), and what a detection shows and leaves (R358, R361). -/

namespace Sys2Proof.Machine

variable {w : Touch} {s t : State}

/-! ### Records in flash -/

theorem leBytes_length (n v : Nat) : (leBytes n v).length = n := by
  induction n generalizing v with
  | zero => rfl
  | succ n ih => rw [leBytes, List.length_cons, ih]

theorem BbRec.bytes_length (r : BbRec) (seq : Nat) : (r.bytes seq).length = 32 := by
  unfold BbRec.bytes
  simp only [List.length_append, leBytes_length]

theorem Exact.flashPut (h : Exact w s t) {a : Nat} {bs : List Byte} (hf : ∀ k, a ≤ k → k < a + bs.length → w.flash k) :
    Exact w s (t.flashPut a bs) :=
  { h with
    flash := fun k hk => (tabGet_memWrite_out _ _ _ (by
      by_contra hc
      exact hk (hf k (by omega) (by omega)))).trans (h.flash k hk) }

theorem Exact.flashErase (h : Exact w s t) {a n : Nat} (hf : ∀ k, a ≤ k → k < a + n → w.flash k) : Exact w s (t.flashErase a n) :=
  { h with
    flash := fun k hk => by
      have hc : k < a ∨ a + n ≤ k := by
        by_contra hc
        exact hk (hf k (by omega) (by omega))
      refine Eq.trans ?_ (h.flash k hk)
      unfold State.flashByte State.flashErase
      rw [tabGet_tabKeep, if_pos (decide_eq_true hc)] }

/-- What writing the staged records to flash may change. -/
def bbTouch : Touch :=
  { regs := fun a => a = FLT_BB_SEQ.SEQ.off ∨ a = FLT_BB_STATUS.STAGED.off, flash := fun a => 0x2000 ≤ a ∧ a < 0x5000,
    parts := fun x => { x with bbStage := [] } }

theorem Exact.bbAppend (h : Exact bbTouch s t) (r : BbRec) : Exact bbTouch s (t.bbAppend r) := by
  unfold State.bbAppend
  extract_lets i seq s1
  have hi : i < 384 := by
    show (match t.bbNewest with | some (i, _) => (i + 1) % 384 | none => 0) < 384
    split
    · exact Nat.mod_lt _ (by decide)
    · decide
  have h1 : Exact bbTouch s s1 := .ite (fun _ => h.flashErase fun k _ _ => (by omega : 0x2000 ≤ k ∧ k < 0x5000)) fun _ => h
  have h2 : Exact bbTouch s (s1.flashPut (0x2000 + 32 * i) (r.bytes seq)) := h1.flashPut fun k hk hk2 => by
    rw [r.bytes_length] at hk2
    exact (by omega : 0x2000 ≤ k ∧ k < 0x5000)
  exact h2.setF _ (Or.inl rfl)

theorem State.bbAppend_seq (s : State) (r : BbRec) : (s.bbAppend r).getF 0 FLT_BB_SEQ.SEQ = (s.getF 0 FLT_BB_SEQ.SEQ + 1) % 2 ^ 32 :=
  State.getF_setF_self _ _ _ _ (by decide)

theorem State.foldl_bbAppend_seq (l : List BbRec) (s : State) :
    (l.foldl State.bbAppend s).getF 0 FLT_BB_SEQ.SEQ = (s.getF 0 FLT_BB_SEQ.SEQ + l.length) % 2 ^ 32 := by
  induction l generalizing s with
  | nil => exact (Nat.mod_eq_of_lt (s.getF_lt 0 FLT_BB_SEQ.SEQ)).symm
  | cons r l ih => rw [List.foldl_cons, ih, State.bbAppend_seq, Nat.mod_add_mod, List.length_cons, Nat.add_assoc, Nat.add_comm 1]

/-- No record is staged. -/
def State.bbEmpty (s : State) : State := { s with bbStage := [] }

theorem State.bbEmpty_getF (s : State) (b : Nat) (f : Fld) : s.bbEmpty.getF b f = s.getF b f := rfl

theorem State.bbFlush_eq (s : State) : s.bbFlush = (s.bbStage.foldl State.bbAppend s).bbEmpty.setF 0 FLT_BB_STATUS.STAGED 0 := rfl

theorem State.bbFlush_exact (s : State) : Exact bbTouch s s.bbFlush := by
  have h : Exact bbTouch s (s.bbStage.foldl State.bbAppend s) := .foldl _ (.refl _ s) fun _ r _ g => g.bbAppend r
  have he : Exact bbTouch s (s.bbStage.foldl State.bbAppend s).bbEmpty := h.congr rfl rfl rfl rfl rfl rfl rfl rfl rfl
  exact he.setF 0 (Or.inr rfl)

theorem State.bbFlush_staged (s : State) : s.bbFlush.getF 0 FLT_BB_STATUS.STAGED = 0 := State.getF_setF_self _ _ _ _ (by decide)

theorem State.bbFlush_seq (s : State) : s.bbFlush.getF 0 FLT_BB_SEQ.SEQ = (s.getF 0 FLT_BB_SEQ.SEQ + s.bbStage.length) % 2 ^ 32 := by
  rw [State.bbFlush_eq, State.getF_setF_ne _ (by decide), State.bbEmpty_getF, State.foldl_bbAppend_seq]

/-! ### Detections -/

theorem State.bbRecord_insts (s : State) (k why level detail : Nat) : (s.bbRecord k why level detail).insts = s.insts :=
  ite_keeps (R := fun x => x.insts = s.insts) (fun _ => rfl) fun _ => rfl

theorem State.bbRecord_inst (s : State) (k why level detail n : Nat) : (s.bbRecord k why level detail).inst n = s.inst n :=
  congrArg (fun l => tabGet (fun _ => ({} : Inst)) l n) (s.bbRecord_insts k why level detail)

/-- A fault that is in force with record DETAIL d. -/
def Inst.shows (i : Inst) (d : Nat) : Prop := i.force = true ∧ i.detail = d

/-- Entering a level puts the fault in force; the level's action takes neither that nor DETAIL away. -/
theorem State.enterLevel_shows (s : State) (k : Nat) (i : Inst) (level why d : Nat) : ((s.enterLevel k i level why d).inst k).shows i.detail := by
  unfold State.enterLevel
  extract_lets s1 s2
  have h1 : (s1.inst k).shows i.detail := by
    rw [State.inst_setInst_self]
    exact ⟨rfl, rfl⟩
  have e2 : s2.inst k = s1.inst k :=
    ite_keeps (R := fun x => x.inst k = s1.inst k) (fun _ => s1.bbRecord_inst _ _ _ _ _) fun _ => rfl
  have hl := (State.Stops.refl s2).levelAction k level
  exact ⟨(hl.force k).trans (e2 ▸ h1.1), (hl.detail k).trans (e2 ▸ h1.2)⟩

theorem State.setInst_shows (s : State) (k : Nat) {i : Inst} {d : Nat} (h : i.shows d) : ((s.setInst k i).inst k).shows d := by
  rw [State.inst_setInst_self]
  exact h

/-- After a detection the fault is in force with the detection's record DETAIL. -/
theorem State.detectAt_shows (s : State) (cls scope unit d lv : Nat) (mom : Bool) :
    ((s.detectAt cls scope unit d lv mom).inst (instKey cls scope unit)).shows d := by
  unfold State.detectAt
  extract_lets k i s1 s2 now
  refine ite_keeps (R := fun x => (x.inst k).shows d) (fun _ => s2.enterLevel_shows k _ _ _ d) fun hf => ?_
  have hi : i.force = true := not_not.1 hf
  refine ite_keeps (R := fun x => (x.inst k).shows d) (fun _ => s2.enterLevel_shows k _ _ _ d) fun _ => ?_
  refine ite_keeps (R := fun x => (x.inst k).shows d) (fun _ => s2.setInst_shows k ⟨hi, rfl⟩) fun _ => ?_
  refine ite_keeps (R := fun x => (x.inst k).shows d) (fun _ => s2.setInst_shows k ⟨hi, rfl⟩) fun _ => ?_
  exact ite_keeps (R := fun x => (x.inst k).shows d) (fun _ => s2.setInst_shows k ⟨hi, rfl⟩) fun _ => s2.enterLevel_shows k _ _ _ d

/-- t is at the round, meters and flash of s. -/
structure State.Meters (s t : State) : Prop where
  round : t.round = s.round
  pairs : t.pairs = s.pairs
  flash : t.flash = s.flash

namespace State.Meters
variable {s₀ z : State}

theorem refl (s : State) : s.Meters s := ⟨rfl, rfl, rfl⟩

theorem trans (h : s.Meters t) (g : t.Meters z) : s.Meters z := ⟨g.round.trans h.round, g.pairs.trans h.pairs, g.flash.trans h.flash⟩

theorem of_stops (h : s.Stops t) : s.Meters t := ⟨h.round, h.pairs, h.flash⟩

theorem setF (h : s₀.Meters z) (b : Nat) (f : Fld) (v : Nat) : s₀.Meters (z.setF b f v) := { h with }
theorem setInst (h : s₀.Meters z) (k : Nat) (i : Inst) : s₀.Meters (z.setInst k i) := { h with }
theorem modTile (h : s₀.Meters z) (u : Nat) (f : Tile → Tile) : s₀.Meters (z.modTile u f) := { h with }
theorem set_lastCls (h : s₀.Meters z) (l : List (Nat × Nat)) : s₀.Meters { z with lastCls := l } := { h with }
theorem set_bbStage (h : s₀.Meters z) (l : List BbRec) : s₀.Meters { z with bbStage := l } := { h with }

theorem ite {c : Prop} [Decidable c] {a b : State} (ha : c → s₀.Meters a) (hb : ¬ c → s₀.Meters b) : s₀.Meters (if c then a else b) :=
  ite_keeps ha hb

theorem foldl {α : Type} {f : State → α → State} (l : List α) (h : s₀.Meters z) (hf : ∀ s a, s₀.Meters s → s₀.Meters (f s a)) :
    s₀.Meters (l.foldl f z) := foldl_keeps l h hf

theorem setFs (h : s₀.Meters z) (b : Nat) (l : List (Fld × Nat)) : s₀.Meters (z.setFs b l) := .foldl l h fun _ _ g => g.setF _ _ _

theorem bbRecord (h : s₀.Meters z) (k why level d : Nat) : s₀.Meters (z.bbRecord k why level d) := by
  unfold State.bbRecord
  extract_lets time r s1
  have h1 : s₀.Meters s1 := h.set_bbStage _
  exact .ite (fun _ => h1.setF _ _ _) fun _ => h.setF _ _ _

theorem enterLevel (h : s₀.Meters z) (k : Nat) (i : Inst) (level why d : Nat) : s₀.Meters (z.enterLevel k i level why d) := by
  unfold State.enterLevel
  extract_lets s1 s2
  have h1 : s₀.Meters s1 := h.setInst _ _
  have h2 : s₀.Meters s2 := .ite (fun _ => h1.bbRecord _ _ _ _) fun _ => h1
  exact h2.trans (of_stops ((State.Stops.refl s2).levelAction k level))

theorem detectAt (h : s₀.Meters z) (cls scope unit d lv : Nat) (mom : Bool) : s₀.Meters (z.detectAt cls scope unit d lv mom) := by
  unfold State.detectAt
  extract_lets k i s1 s2 now
  have h1 : s₀.Meters s1 := h.setF _ _ _
  have h2 : s₀.Meters s2 := h1.set_lastCls _
  exact .ite (fun _ => h2.enterLevel _ _ _ _ _) fun _ => .ite (fun _ => h2.enterLevel _ _ _ _ _) fun _ => .ite (fun _ => h2.setInst _ _) fun _ =>
    .ite (fun _ => h2.setInst _ _) fun _ => .ite (fun _ => h2.setInst _ _) fun _ => h2.enterLevel _ _ _ _ _

theorem detect (h : s₀.Meters z) (cls scope unit d : Nat) : s₀.Meters (z.detect cls scope unit d) := h.detectAt _ _ _ _ _ _

theorem condEnd (h : s₀.Meters z) (cls scope unit : Nat) : s₀.Meters (z.condEnd cls scope unit) := .ite (fun _ => h.setInst _ _) fun _ => h

end State.Meters

/-! ### A detection at Pale -/

theorem State.levelAction_zero (s : State) (k : Nat) : s.levelAction k 0 = s := by
  unfold State.levelAction
  rw [if_neg (by decide), if_neg (by decide), if_neg (by decide)]

/-- What a detection at Pale of class cls may change. -/
structure Touch.Pale (w : Touch) (cls : Nat) : Prop where
  dcnt : w.regs (4 * cls + FLT_CLASS.DCNT.off)
  box : w.regs (0 + FLT_BB_STATUS.LOST.off)
  insts : ∀ x l, w.parts { x with insts := l } = w.parts x
  lastCls : ∀ x l, w.parts { x with lastCls := l } = w.parts x
  bbStage : ∀ x l, w.parts { x with bbStage := l } = w.parts x

theorem Exact.set_lastCls (h : Exact w s t) (l : List (Nat × Nat)) (hp : ∀ x l, w.parts { x with lastCls := l } = w.parts x) :
    Exact w s { t with lastCls := l } := h.congr (hp t.parts l) rfl rfl rfl rfl rfl rfl rfl rfl

theorem Exact.set_bbStage (h : Exact w s t) (l : List BbRec) (hp : ∀ x l, w.parts { x with bbStage := l } = w.parts x) :
    Exact w s { t with bbStage := l } := h.congr (hp t.parts l) rfl rfl rfl rfl rfl rfl rfl rfl

theorem Exact.bbRecord (h : Exact w s t) (k why level d : Nat) (hb : w.regs (0 + FLT_BB_STATUS.LOST.off))
    (hp : ∀ x l, w.parts { x with bbStage := l } = w.parts x) : Exact w s (t.bbRecord k why level d) := by
  unfold State.bbRecord
  extract_lets time r s1
  have h1 : Exact w s s1 := h.set_bbStage _ hp
  exact .ite (fun _ => h1.setF _ hb) fun _ => h.setF _ hb

theorem Exact.enterPale (h : Exact w s t) {cls : Nat} (hw : w.Pale cls) (k : Nat) (i : Inst) (why d : Nat) :
    Exact w s (t.enterLevel k i 0 why d) := by
  unfold State.enterLevel
  extract_lets s1 s2
  have h1 : Exact w s s1 := h.setInst _ _ hw.insts
  rw [State.levelAction_zero]
  exact .ite (fun _ => h1.bbRecord _ _ _ _ hw.box hw.bbStage) fun _ => h1

theorem State.enterPale_level (s : State) (k : Nat) (i : Inst) (why d : Nat) : ((s.enterLevel k i 0 why d).inst k).level = 0 := by
  unfold State.enterLevel
  extract_lets s1 s2
  rw [State.levelAction_zero]
  have e2 : s2.inst k = s1.inst k :=
    ite_keeps (R := fun x => x.inst k = s1.inst k) (fun _ => s1.bbRecord_inst _ _ _ _ _) fun _ => rfl
  rw [e2, State.inst_setInst_self]

/-- A first detection at Pale changes its counter, the box and the fault's record only. -/
theorem Exact.detectPale (h : Exact w s t) {cls : Nat} (hw : w.Pale cls) {scope unit : Nat} (d : Nat) (mom : Bool)
    (hf : (t.inst (instKey cls scope unit)).force = false) : Exact w s (t.detectAt cls scope unit d 0 mom) := by
  unfold State.detectAt
  extract_lets k i s1 s2 now
  rw [if_pos (by rw [Bool.not_eq_true]; exact hf)]
  have h1 : Exact w s s1 := h.incSat 1 hw.dcnt
  have h2 : Exact w s s2 := h1.set_lastCls _ hw.lastCls
  exact h2.enterPale hw _ _ _ _

/-- All that a detection at Pale of class cls may change. -/
def paleTouch (cls : Nat) : Touch :=
  { regs := fun a => a = 4 * cls + 0x300400 ∨ a = 0x300024, parts := fun x => { x with insts := [], lastCls := [], bbStage := [] } }

theorem State.detectPale_rd (s : State) {cls scope unit a : Nat} (d : Nat) (mom : Bool) (hf : (s.inst (instKey cls scope unit)).force = false)
    (ha : a ≠ 4 * cls + 0x300400 ∧ a ≠ 0x300024) : (s.detectAt cls scope unit d 0 mom).rd a = s.rd a :=
  have hw : (paleTouch cls).Pale cls := ⟨Or.inl rfl, Or.inr rfl, fun _ _ => rfl, fun _ _ => rfl, fun _ _ => rfl⟩
  ((Exact.refl _ s).detectPale hw d mom hf).regs a (not_or.2 ha)

theorem State.detectPale_level (s : State) {cls scope unit : Nat} (d : Nat) (mom : Bool)
    (hf : (s.inst (instKey cls scope unit)).force = false) : ((s.detectAt cls scope unit d 0 mom).inst (instKey cls scope unit)).level = 0 := by
  unfold State.detectAt
  extract_lets k i s1 s2 now
  rw [if_pos (by rw [Bool.not_eq_true]; exact hf)]
  exact s2.enterPale_level _ _ _ _

/-- A corrected error of a memory that belongs to the module is detected at Pale (R13). -/
theorem State.detectEcc_corrected (s : State) {region : Nat} (hr : 3 ≤ region) (unit word : Nat) :
    s.detectEcc region false unit word =
      (s.incSat (4 * region) GLB_ECC_CNT.CORR 1).detectAt 0x09 scMODULE 0 (region * 2 ^ 24 + word % 2 ^ 24) 0 true := by
  have h0 : region ≠ 0 := by omega
  have h2 : ¬ region ≤ 2 := by omega
  simp [State.detectEcc, h0, h2, b2n, Nat.shiftLeft_eq]

end Sys2Proof.Machine
end

section
/-! PROOFS. Black-box, scrubbing and the housekeeping round (R13, R369, R374 to R376). Settles O10. -/

namespace Sys2Proof.Machine

open Sys2Proof (Instr)

variable {w : Touch} {s t : State}

/-! ### Sensors -/

/-- What the taking of sensor n's count may change. -/
structure Touch.Sensor (w : Touch) (n : Nat) : Prop where
  count : w.regs (4 * n + THM_SCNT.COUNT.off)
  sens : w.regs (4 * n + THM_SENS.TEMP.off)
  good : ∀ x l, w.parts { x with good := l } = w.parts x
  newBroken : ∀ x m, w.parts { x with newBroken := m } = w.parts x

theorem Exact.set_good (h : Exact w s t) (l : List (Nat × Nat)) (hp : ∀ x l, w.parts { x with good := l } = w.parts x) :
    Exact w s { t with good := l } := h.congr (hp t.parts l) rfl rfl rfl rfl rfl rfl rfl rfl

theorem Exact.set_newBroken (h : Exact w s t) (m : Nat) (hp : ∀ x m, w.parts { x with newBroken := m } = w.parts x) :
    Exact w s { t with newBroken := m } := h.congr (hp t.parts m) rfl rfl rfl rfl rfl rfl rfl rfl

theorem Exact.sensMarks (h : Exact w s t) {n : Nat} (hw : w.Sensor n) (x y : Nat) :
    Exact w s (t.setFs (4 * n) [(THM_SENS.BROKEN, x), (THM_SENS.VALID, y)]) := by
  rw [State.setFs_cons, State.setFs_cons, State.setFs_nil]
  have h1 : Exact w s (t.setF (4 * n) THM_SENS.BROKEN x) := h.setF _ hw.sens
  exact h1.setF _ hw.sens

theorem Exact.sensorTake (h : Exact w s t) {n : Nat} (hw : w.Sensor n) (c : Nat) : Exact w s (t.sensorTake n c) := by
  unfold State.sensorTake
  extract_lets b s1 s2 s3 e s4 g
  have h1 : Exact w s s1 := h.setF _ hw.count
  have h2 : Exact w s s2 := h1.set_good _ hw.good
  have h3 : Exact w s s3 := .ite (fun _ => h2) fun _ => h2.set_newBroken _ hw.newBroken
  have h4 : Exact w s s4 := h1.setF _ hw.sens
  refine .ite (fun _ => h3.sensMarks hw 1 0) fun _ => .ite (fun _ => .ite (fun _ => ?_) fun _ => ?_) fun _ => h4.setF _ hw.sens
  · exact (h4.sensMarks hw 0 1).set_good _ hw.good
  · exact h4.set_good _ hw.good

/-- A take of sensor n alone. -/
def takeTouch (n : Nat) : Touch :=
  { regs := fun a => a = 4 * n + 0x500300 ∨ a = 4 * n + 0x500200, parts := fun x => { x with newBroken := 0, good := [] } }

theorem State.sensorTake_rd (s : State) {n a : Nat} (c : Nat) (h : a ≠ 4 * n + 0x500300 ∧ a ≠ 4 * n + 0x500200) :
    (s.sensorTake n c).rd a = s.rd a :=
  ((Exact.refl (takeTouch n) s).sensorTake ⟨Or.inl rfl, Or.inr rfl, fun _ _ => rfl, fun _ _ => rfl⟩ c).regs a (not_or.2 h)

/-- What sensor n's registers show of a count c, given its broken mark before. -/
structure State.Sensed (t : State) (n c : Nat) (broken : Bool) : Prop where
  count : t.getF (4 * n) THM_SCNT.COUNT = c
  out : sensorInBand n c = false → t.isSet (4 * n) THM_SENS.BROKEN = true ∧ t.isSet (4 * n) THM_SENS.VALID = false
  inBand : sensorInBand n c = true → broken = false → t.isSet (4 * n) THM_SENS.BROKEN = false ∧ t.isSet (4 * n) THM_SENS.VALID = true ∧
    t.getF (4 * n) THM_SENS.TEMP = unsigned 16 (roundQuot (sensorTemp n c).1 (sensorTemp n c).2)

/-- It lies in two registers. -/
theorem State.Sensed.of_rd {n c : Nat} {b : Bool} (h : s.Sensed n c b) (h3 : t.rd (4 * n + 0x500300) = s.rd (4 * n + 0x500300))
    (h2 : t.rd (4 * n + 0x500200) = s.rd (4 * n + 0x500200)) : t.Sensed n c b := by
  have hc : t.getF (4 * n) THM_SCNT.COUNT = s.getF (4 * n) THM_SCNT.COUNT := congrArg THM_SCNT.COUNT.get h3
  have hb : t.isSet (4 * n) THM_SENS.BROKEN = s.isSet (4 * n) THM_SENS.BROKEN := State.isSet_of_getF (congrArg THM_SENS.BROKEN.get h2)
  have hv : t.isSet (4 * n) THM_SENS.VALID = s.isSet (4 * n) THM_SENS.VALID := State.isSet_of_getF (congrArg THM_SENS.VALID.get h2)
  have ht : t.getF (4 * n) THM_SENS.TEMP = s.getF (4 * n) THM_SENS.TEMP := congrArg THM_SENS.TEMP.get h2
  exact ⟨hc.trans h.count, by rw [hb, hv]; exact h.out, by rw [hb, hv, ht]; exact h.inBand⟩

theorem State.settled_sensed {n c : Nat} {b : Bool} (hn : n < 34) (h : s.Sensed n c b) : s.settled.Sensed n c b := by
  refine h.of_rd (s.settled_rd ?_) (s.settled_rd ?_) <;>
  · unfold follows
    rw [decide_eq_false_iff_not]
    omega

theorem State.getF_set_good (s : State) (l : List (Nat × Nat)) (b : Nat) (f : Fld) : State.getF { s with good := l } b f = s.getF b f := rfl

theorem State.getF_set_newBroken (s : State) (m b : Nat) (f : Fld) : State.getF { s with newBroken := m } b f = s.getF b f := rfl

/-- THM_SENS and THM_SCNT are two registers. -/
theorem State.count_setSens (s : State) (n v : Nat) {f : Fld} (hf : f.off = 0x500200) :
    (s.setF (4 * n) f v).getF (4 * n) THM_SCNT.COUNT = s.getF (4 * n) THM_SCNT.COUNT := State.getF_setF_ne _ (by
  rw [hf]
  show 4 * n + 0x500200 ≠ 4 * n + 0x500300
  omega) _

theorem State.count_sensMarks (s : State) (n x y : Nat) :
    (s.setFs (4 * n) [(THM_SENS.BROKEN, x), (THM_SENS.VALID, y)]).getF (4 * n) THM_SCNT.COUNT = s.getF (4 * n) THM_SCNT.COUNT := by
  rw [State.setFs_cons, State.setFs_cons, State.setFs_nil, State.count_setSens _ _ _ rfl, State.count_setSens _ _ _ rfl]

theorem State.broken_sensMarks (s : State) (n x y : Nat) :
    (s.setFs (4 * n) [(THM_SENS.BROKEN, x), (THM_SENS.VALID, y)]).getF (4 * n) THM_SENS.BROKEN = x % 2 := by
  rw [State.setFs_cons, State.setFs_cons, State.setFs_nil, State.getF_setF_disj _ _ THM_SENS.VALID THM_SENS.BROKEN _ rfl (by decide)]
  exact State.getF_setF_self _ _ _ _ (by decide)

theorem State.valid_sensMarks (s : State) (n x y : Nat) :
    (s.setFs (4 * n) [(THM_SENS.BROKEN, x), (THM_SENS.VALID, y)]).getF (4 * n) THM_SENS.VALID = y % 2 := by
  rw [State.setFs_cons, State.setFs_cons, State.setFs_nil]
  exact State.getF_setF_self _ _ _ _ (by decide)

theorem State.sensorTake_count (s : State) (n : Nat) {c : Nat} (hc : c < 2 ^ 18) : (s.sensorTake n c).getF (4 * n) THM_SCNT.COUNT = c := by
  unfold State.sensorTake
  extract_lets b s1 s2 s3 e s4 g
  have h1 : s1.getF (4 * n) THM_SCNT.COUNT = c := (State.getF_setF_self _ _ _ _ (by decide)).trans (Nat.mod_eq_of_lt hc)
  have h2 : s2.getF (4 * n) THM_SCNT.COUNT = c := (s1.getF_set_good _ _ _).trans h1
  have h3 : s3.getF (4 * n) THM_SCNT.COUNT = c :=
    ite_keeps (R := fun x => x.getF (4 * n) THM_SCNT.COUNT = c) (fun _ => h2) fun _ => (s2.getF_set_newBroken _ _ _).trans h2
  have h4 : s4.getF (4 * n) THM_SCNT.COUNT = c := (s1.count_setSens n _ rfl).trans h1
  refine ite_keeps (R := fun x => x.getF (4 * n) THM_SCNT.COUNT = c) (fun _ => (s3.count_sensMarks n 1 0).trans h3) fun _ => ?_
  refine ite_keeps (R := fun x => x.getF (4 * n) THM_SCNT.COUNT = c) (fun _ => ?_) fun _ => (s4.count_setSens n _ rfl).trans h4
  refine ite_keeps (R := fun x => x.getF (4 * n) THM_SCNT.COUNT = c) (fun _ => ?_) fun _ => (s4.getF_set_good _ _ _).trans h4
  exact (State.getF_set_good _ _ _ _).trans ((s4.count_sensMarks n 0 1).trans h4)

/-- A count outside the band marks the sensor broken and not valid. -/
theorem State.sensorTake_out (s : State) {n c : Nat} (h : sensorInBand n c = false) :
    (s.sensorTake n c).isSet (4 * n) THM_SENS.BROKEN = true ∧ (s.sensorTake n c).isSet (4 * n) THM_SENS.VALID = false := by
  unfold State.sensorTake
  extract_lets b s1 s2 s3 e s4 g
  rw [if_pos (by rw [h]; exact Bool.false_ne_true)]
  exact ⟨State.isSet_of_getF (s3.broken_sensMarks n 1 0), State.isSet_of_getF (s3.valid_sensMarks n 1 0)⟩

/-- A count within the band of a sensor that is not broken is converted. -/
theorem State.sensorTake_inBand (s : State) {n c : Nat} (h : sensorInBand n c = true) (hb : s.isSet (4 * n) THM_SENS.BROKEN = false) :
    (s.sensorTake n c).isSet (4 * n) THM_SENS.BROKEN = false ∧ (s.sensorTake n c).isSet (4 * n) THM_SENS.VALID = true ∧
      (s.sensorTake n c).getF (4 * n) THM_SENS.TEMP = unsigned 16 (roundQuot (sensorTemp n c).1 (sensorTemp n c).2) := by
  unfold State.sensorTake
  extract_lets b s1 s2 s3 e s4 g
  have e1 : s1.getF (4 * n) THM_SENS.BROKEN = s.getF (4 * n) THM_SENS.BROKEN :=
    s.getF_setF_ne (f := THM_SCNT.COUNT) (by show 4 * n + 0x500300 ≠ 4 * n + 0x500200; omega) _
  have e4 : s4.getF (4 * n) THM_SENS.BROKEN = s1.getF (4 * n) THM_SENS.BROKEN :=
    s1.getF_setF_disj (4 * n) THM_SENS.TEMP THM_SENS.BROKEN _ rfl (by decide)
  have b4 : s4.isSet (4 * n) THM_SENS.BROKEN = false := (State.isSet_of_getF (e4.trans e1)).trans hb
  have t4 : s4.getF (4 * n) THM_SENS.TEMP = unsigned 16 (roundQuot e.1 e.2) :=
    (s1.getF_setF_self (4 * n) THM_SENS.TEMP _ (by decide)).trans (Nat.mod_eq_of_lt (unsigned_lt 16 _))
  rw [if_neg (by rw [h]; exact not_not.2 rfl), if_neg (by rw [b4]; exact Bool.false_ne_true)]
  exact ⟨(State.isSet_of_getF (s4.getF_setF_disj (4 * n) THM_SENS.VALID THM_SENS.BROKEN 1 rfl (by decide))).trans b4,
    State.isSet_of_getF (s4.getF_setF_self (4 * n) THM_SENS.VALID 1 (by decide)),
    (s4.getF_setF_disj (4 * n) THM_SENS.VALID THM_SENS.TEMP 1 rfl (by decide)).trans t4⟩

theorem State.sensorTake_sensed (s : State) (n : Nat) {c : Nat} (hc : c < 2 ^ 18) :
    (s.sensorTake n c).Sensed n c (s.isSet (4 * n) THM_SENS.BROKEN) :=
  ⟨s.sensorTake_count n hc, s.sensorTake_out, s.sensorTake_inBand⟩

/-- The first N sensors take their counts. -/
def State.sensorsTaken (s : State) (c : Nat → Nat) (N : Nat) : State := (List.range N).foldl (fun s n => s.sensorTake n (c n)) s

theorem State.sensorsTaken_succ (s : State) (c : Nat → Nat) (N : Nat) : s.sensorsTaken c (N + 1) = (s.sensorsTaken c N).sensorTake N (c N) := by
  unfold State.sensorsTaken
  rw [List.range_succ, List.foldl_append]
  rfl

theorem State.sensorsTaken_rd (s : State) (c : Nat → Nat) {N n : Nat} (hn : n < 34) (h : N ≤ n) :
    (s.sensorsTaken c N).rd (4 * n + 0x500200) = s.rd (4 * n + 0x500200) := by
  induction N with
  | zero => rfl
  | succ N ih =>
    have ha : 4 * n + 0x500200 ≠ 4 * N + 0x500300 ∧ 4 * n + 0x500200 ≠ 4 * N + 0x500200 := by omega
    rw [State.sensorsTaken_succ, State.sensorTake_rd _ _ ha]
    exact ih (by omega)

/-- Each sensor shows its own count: the takes before it and after it do not touch its registers. -/
theorem State.sensorsTaken_sensed (s : State) {c : Nat → Nat} (hc : ∀ n, c n < 2 ^ 18) {N n : Nat} (hN : N ≤ 34) (h : n < N) :
    (s.sensorsTaken c N).Sensed n (c n) (s.isSet (4 * n) THM_SENS.BROKEN) := by
  induction N with
  | zero => omega
  | succ N ih =>
    rw [State.sensorsTaken_succ]
    by_cases e : n = N
    · subst e
      have hb : (s.sensorsTaken c n).isSet (4 * n) THM_SENS.BROKEN = s.isSet (4 * n) THM_SENS.BROKEN :=
        State.isSet_of_getF (congrArg THM_SENS.BROKEN.get (s.sensorsTaken_rd c (by omega) (Nat.le_refl n)))
      rw [← hb]
      exact State.sensorTake_sensed _ _ (hc n)
    · exact (ih (by omega) (by omega)).of_rd (State.sensorTake_rd _ _ (by omega)) (State.sensorTake_rd _ _ (by omega))

theorem Exact.sensorsTaken {N : Nat} (hw : ∀ n < N, w.Sensor n) (s : State) (c : Nat → Nat) : Exact w s (s.sensorsTaken c N) :=
  .foldl _ (.refl w s) fun _ n hn g => g.sensorTake (hw n (List.mem_range.1 hn)) (c n)

/-! ### The round -/

/-- The round is at n. -/
def State.toRound (s : State) (n : Nat) : State := { s with round := n }

theorem State.rd_toRound (s : State) (n a : Nat) : (s.toRound n).rd a = s.rd a := rfl

theorem Exact.toRound (h : Exact w s t) (n : Nat) (hp : ∀ x : State, w.parts (x.toRound n) = w.parts x) : Exact w s (t.toRound n) :=
  h.congr (hp t.parts) rfl rfl rfl rfl rfl rfl rfl rfl

theorem roundStart_from {off : Int} (hr : s.roundsRun = true) (h0 : s.round = 0) :
    exec (.roundStart off) s = done (if 500000 < off.natAbs then (s.toRound 1).detect 0x0D scMODULE 0 0xF0 else s.toRound 1) := by
  show execRoundStart off s = _
  rw [execRoundStart, if_neg (not_or.2 ⟨not_not.2 hr, not_not.2 h0⟩)]
  rfl

theorem sensorGateEnd_from {counts : List (Fin 262144)} (hr : s.roundsRun = true) (h1 : s.round = 1) :
    exec (.sensorGateEnd counts) s = done ((s.sensorsTaken (fun n => (counts.getD n 0).val) 34).toRound 2) := by
  show execSensorGateEnd counts s = _
  rw [execSensorGateEnd, if_neg (not_or.2 ⟨not_not.2 hr, not_not.2 h1⟩)]
  rfl

namespace State.Meters
variable {s₀ z : State}

theorem thermal (h : s₀.Meters z) (scope unit : Nat) (k : Heat) : s₀.Meters (z.thermal scope unit k) :=
  .ite (fun _ => .ite (fun _ => h) fun _ => h.detect _ _ _ _) fun _ => .ite (fun _ => .ite (fun _ => h) fun _ => h.detect _ _ _ _) fun _ =>
    .ite (fun _ => h.condEnd _ _ _) fun _ => h

theorem sensorFault (h : s₀.Meters z) (scope unit : Nat) (ns : List Nat) : s₀.Meters (z.sensorFault scope unit ns) := by
  unfold State.sensorFault
  split
  · exact h.detect _ _ _ _
  · exact .ite (fun _ => h) fun _ => h.condEnd _ _ _

theorem publishTile (h : s₀.Meters z) (core : Heat) (u : Nat) : s₀.Meters (z.publishTile core u) := by
  unfold State.publishTile
  extract_lets b ns k s1 s2 s3 f
  have h1 : s₀.Meters s1 := .ite (fun _ => h.setF _ _ _) fun _ => h
  have h2 : s₀.Meters s2 := (h1.setF _ _ _).setF _ _ _
  have h3 : s₀.Meters s3 := (h2.sensorFault _ _ _).thermal _ _ _
  exact (h3.modTile _ _).setF _ _ _

theorem xferJudge (h : s₀.Meters z) (u : Nat) : s₀.Meters (z.xferJudge u) := by
  unfold State.xferJudge
  extract_lets b s1
  have h1 : s₀.Meters s1 := .ite (fun _ => h.setF _ _ _) fun _ => h
  exact .ite (fun _ => (h1.setF _ _ _).modTile _ _) fun _ => h1

end State.Meters

/-- The energy meter of tile k. -/
def meterAddr (k : Nat) : Nat := THM_TEN_LO.UJ.off + 8 * k

/-- The meter of tile k takes e. -/
def State.meterAdd (s : State) (k e : Nat) : State := s.setPair (meterAddr k) ((s.pair (meterAddr k) + e) % 2 ^ 64)

/-- The meters of the first N tiles take their energy. -/
def State.metersAdd (s : State) (e : Nat → Nat) (N : Nat) : State := (List.range N).foldl (fun s k => s.meterAdd k (e k)) s

theorem State.pair_meterAdd_ne (s : State) {k a : Nat} (h : a ≠ meterAddr k) (e : Nat) : (s.meterAdd k e).pair a = s.pair a :=
  tabGet_tabSet_ne _ _ _ h.symm

theorem State.metersAdd_succ (s : State) (e : Nat → Nat) (N : Nat) : s.metersAdd e (N + 1) = (s.metersAdd e N).meterAdd N (e N) := by
  unfold State.metersAdd
  rw [List.range_succ, List.foldl_append]
  rfl

theorem State.pair_metersAdd_ne (s : State) (e : Nat → Nat) (N : Nat) {a : Nat} (h : ∀ k < N, a ≠ meterAddr k) :
    (s.metersAdd e N).pair a = s.pair a := by
  induction N with
  | zero => rfl
  | succ N ih =>
    rw [State.metersAdd_succ, State.pair_meterAdd_ne _ (h N (Nat.lt_succ_self N))]
    exact ih fun k hk => h k (Nat.lt_succ_of_lt hk)

theorem meterAddr_ne {j k : Nat} (h : j ≠ k) : meterAddr j ≠ meterAddr k := by
  unfold meterAddr
  omega

theorem State.pair_metersAdd (s : State) (e : Nat → Nat) {N k : Nat} (h : k < N) :
    (s.metersAdd e N).pair (meterAddr k) = (s.pair (meterAddr k) + e k) % 2 ^ 64 := by
  induction N with
  | zero => omega
  | succ N ih =>
    rw [State.metersAdd_succ]
    by_cases hk : k = N
    · subst hk
      rw [State.meterAdd, State.pair_setPair_self, State.pair_metersAdd_ne _ _ _ fun j hj => meterAddr_ne (Nat.ne_of_gt hj)]
    · rw [State.pair_meterAdd_ne _ (meterAddr_ne hk)]
      exact ih (by omega)

theorem State.flash_metersAdd (s : State) (e : Nat → Nat) (N : Nat) : (s.metersAdd e N).flash = s.flash :=
  foldl_keeps (R := fun x => x.flash = s.flash) _ rfl fun _ _ h => h

/-- The round is over and its new marks are judged. -/
def State.roundOver (s : State) : State := { s with round := 0, newBroken := 0 }

theorem State.pair_roundOver (s : State) (a : Nat) : s.roundOver.pair a = s.pair a := rfl
theorem State.flash_roundOver (s : State) : s.roundOver.flash = s.flash := rfl

theorem State.settled_pair (s : State) (a : Nat) : s.settled.pair a = s.pair a := by
  unfold State.pair
  rw [State.settled_pairs]

/-- A round is published by a step that leaves meters and flash, then the meters take their energy. -/
theorem roundPublish_from {uj : List Nat} (hr : s.roundsRun = true) (h2 : s.round = 2) :
    ∃ z : State, s.Meters z ∧ exec (.roundPublish uj) s = done (z.metersAdd (fun k => uj.getD k 0) 8).roundOver := by
  have hx : exec (.roundPublish uj) s = execRoundPublish uj s := rfl
  rw [hx, execRoundPublish, if_neg (not_or.2 ⟨not_not.2 hr, not_not.2 h2⟩)]
  extract_lets ns k s1 s2 s3 s4 s5 s6 s7
  have m1 : s.Meters s1 := .ite (fun _ => (State.Meters.refl s).setF _ _ _) fun _ => .refl s
  have m3 : s.Meters s3 := ((m1.setFs _ _).sensorFault _ _ _).thermal _ _ _
  have m4 : s.Meters s4 := .foldl _ m3 fun _ _ g => g.publishTile _ _
  have m6 : s.Meters s6 := .foldl _ (m4.setF _ _ _) fun _ _ g => g.xferJudge _
  exact ⟨s6, m6, rfl⟩

/-! ### The rows -/

theorem blackboxWrite_from {ok : Bool} (h : s.bbStage ≠ []) (hi : s.inReset = false) (hp : 8 ≤ s.getF 0 GLB_BOOT_STATUS.PHASE) :
    exec (.blackboxWrite ok) s = done (if ok then s.bbFlush else s.setF 0 FLT_BB_STATUS.ERR 1) := by
  show execBlackboxWrite ok s = _
  rw [execBlackboxWrite, if_neg (not_or.2 ⟨h, not_or.2 ⟨by rw [hi]; exact Bool.false_ne_true, Nat.not_lt.2 hp⟩⟩)]
  cases ok <;> rfl

theorem sramScrub_none (region : Fin 6) (unit : Fin 1024) (word : BitVec 24) : exec (.sramScrub region unit word none) s = done s := by
  show execSramScrub region unit word none s = _
  unfold execSramScrub
  split <;> rfl

theorem sramScrub_corrected {region : Fin 6} {unit : Fin 1024} {word : BitVec 24} (hi : s.inReset = false) (hc : s.clocked = true)
    (hu : unit < eccUnits region) (hw : word.toNat < eccWords region) (hr : 3 ≤ region.val) :
    exec (.sramScrub region unit word (some false)) s =
      done ((s.incSat (4 * region) GLB_ECC_CNT.CORR 1).detectAt 0x09 scMODULE 0 (region * 2 ^ 24 + word.toNat) 0 true) := by
  show execSramScrub region unit word (some false) s = _
  unfold execSramScrub
  rw [if_neg (by simp [hi, hc, hu, hw])]
  show done (s.detectEcc region false unit word.toNat) = _
  rw [s.detectEcc_corrected hr, Nat.mod_eq_of_lt word.isLt]

/-- What a corrected error in a memory of the module may change. -/
def scrubTouch (region : Nat) : Touch :=
  { regs := fun a => a = GLB_ECC_CNT.CORR.off + 4 * region ∨ a = FLT_CLASS.DCNT.off + 4 * 0x09 ∨ a = FLT_BB_STATUS.LOST.off,
    parts := fun x => { x with insts := [], lastCls := [], bbStage := [] } }

theorem scrubTouch_pale (region : Nat) : (scrubTouch region).Pale 0x09 :=
  ⟨Or.inr (Or.inl rfl), Or.inr (Or.inr rfl), fun _ _ => rfl, fun _ _ => rfl, fun _ _ => rfl⟩

/-- A counter that saturates reads as counted, up to its limit. -/
theorem State.getF_incSat_self (s : State) (b : Nat) {f : Fld} (n : Nat) (h : f.hi < 32) :
    (s.incSat b f n).getF b f = min (s.getF b f + n) (2 ^ (f.hi + 1 - f.lo) - 1) := by
  unfold State.incSat satAdd
  rw [State.getF_setF_self _ _ _ _ h]
  exact Nat.mod_eq_of_lt (Nat.lt_of_le_of_lt (Nat.min_le_right _ _) (Nat.sub_lt (Nat.two_pow_pos _) Nat.one_pos))

/-- The corrected error is counted, and its fault is in force at Pale with region and word. -/
theorem scrubRow {region : Nat} (hr : region < 6) (d : Nat) (hf : (s.inst (instKey 0x09 scMODULE 0)).force = false) {z : State}
    (hz : z = (s.incSat (4 * region) GLB_ECC_CNT.CORR 1).detectAt 0x09 scMODULE 0 d 0 true) :
    z.getF (4 * region) GLB_ECC_CNT.CORR = min (s.getF (4 * region) GLB_ECC_CNT.CORR + 1) 65535 ∧
      (z.inst (instKey 0x09 scMODULE 0)).shows d ∧ (z.inst (instKey 0x09 scMODULE 0)).level = 0 ∧ Exact (scrubTouch region) s z := by
  subst hz
  have h1 : Exact (scrubTouch region) s (s.incSat (4 * region) GLB_ECC_CNT.CORR 1) := (Exact.refl _ s).incSat 1 (Or.inl (Nat.add_comm _ _))
  refine ⟨?_, State.detectAt_shows _ _ _ _ _ _ _, State.detectPale_level _ _ _ hf, h1.detectPale (scrubTouch_pale region) d true hf⟩
  have ha : 4 * region + 0xC0 ≠ 4 * 0x09 + 0x300400 ∧ 4 * region + 0xC0 ≠ 0x300024 := by omega
  have e : (State.detectAt _ 0x09 scMODULE 0 d 0 true).getF (4 * region) GLB_ECC_CNT.CORR = _ :=
    congrArg GLB_ECC_CNT.CORR.get (State.detectPale_rd (s.incSat (4 * region) GLB_ECC_CNT.CORR 1) d true hf ha)
  exact e.trans (s.getF_incSat_self (4 * region) (f := GLB_ECC_CNT.CORR) 1 (by decide))

/-- Settles O10: each row's outcome is a chain of writes, a fold of such chains over the sensors or meters, or a detection. -/
theorem blackBoxAndRoundRows : Obligations.BlackBoxAndRoundRows := by
  intro s
  refine ⟨fun h hi hp => ?_, fun h hi hp => ?_, fun region unit word => ?_, fun region unit word hi hc hu hw hr hf => ?_, fun off hr h0 => ?_,
    fun counts hr h1 => ?_, fun uj hr h2 => ?_⟩
  · refine completes_done (z := s.bbFlush) (blackboxWrite_from h hi hp) ⟨?_, ?_, ?_, s.bbFlush_exact.settled⟩
    · rw [State.settled_bbStage]
      rfl
    · exact (State.settled_getF _ (by decide)).trans s.bbFlush_staged
    · exact (State.settled_getF _ (by decide)).trans s.bbFlush_seq
  · refine completes_done (z := s.setF 0 FLT_BB_STATUS.ERR 1) (blackboxWrite_from h hi hp) ⟨?_, ((Exact.refl _ s).setF _ rfl).settled⟩
    rw [State.settled_isSet _ (by decide)]
    exact State.isSet_of_getF (State.getF_setF_self _ _ _ _ (by decide))
  · exact completes_done (sramScrub_none region unit word) (Exact.refl _ s).settled
  · obtain ⟨hcorr, ⟨hforce, hdetail⟩, hlevel, hex⟩ := scrubRow region.isLt (region * 2 ^ 24 + word.toNat) hf rfl
    refine completes_done (sramScrub_corrected hi hc hu hw hr) ⟨(State.settled_getF _ ?_).trans hcorr, ?_, ?_, ?_, hex.settled⟩
    · show follows (4 * region + 0xC0) = false
      unfold follows
      rw [decide_eq_false_iff_not]
      omega
    all_goals
      unfold State.inst
      rw [State.settled_insts]
    · exact hforce
    · exact hlevel
    · exact hdetail
  · refine completes_done (roundStart_from hr h0) ⟨?_, fun hoff => ?_, fun hoff => ?_⟩
    · rw [State.settled_round]
      exact ite_keeps (R := fun x => x.round = 1) (fun _ => ((State.Meters.refl _).detect _ _ _ _).round) fun _ => rfl
    · rw [if_pos hoff]
      unfold State.inst
      rw [State.settled_insts]
      exact State.detectAt_shows _ _ _ _ _ _ _
    · rw [if_neg (Nat.not_lt.2 hoff)]
      exact ((Exact.refl _ s).toRound 1 fun _ => rfl).settled
  · have hc : ∀ n, (fun n => (counts.getD n 0).val) n < 2 ^ 18 := fun n => (counts.getD n 0).isLt
    refine completes_done (sensorGateEnd_from hr h1) ⟨?_, fun n hn => ?_, (Exact.toRound (Exact.sensorsTaken ?_ s _) 2 fun _ => rfl).settled⟩
    · rw [State.settled_round]
      rfl
    · obtain ⟨hcount, hout, hin⟩ := State.settled_sensed hn
        ((s.sensorsTaken_sensed hc (Nat.le_refl 34) hn).of_rd (State.rd_toRound _ 2 _) (State.rd_toRound _ 2 _))
      exact ⟨hcount, hout, hin⟩
    · exact fun n hn => ⟨⟨n, hn, Or.inl (Nat.add_comm _ _)⟩, ⟨n, hn, Or.inr (Nat.add_comm _ _)⟩, fun _ _ => rfl, fun _ _ => rfl⟩
  · obtain ⟨z, hz, hx⟩ := roundPublish_from (uj := uj) hr h2
    have hpair (a : Nat) : z.pair a = s.pair a := congrArg (fun l => tabGet (fun _ => 0) l a) hz.pairs
    refine completes_done hx ⟨?_, ?_, fun k hk => ?_, fun a ha => ?_, fun a => ?_⟩
    · rw [State.settled_round]
      rfl
    · rw [State.settled_newBroken]
      rfl
    · rw [← hpair, State.settled_pair, State.pair_roundOver]
      exact z.pair_metersAdd _ hk
    · rw [← hpair, State.settled_pair, State.pair_roundOver]
      exact z.pair_metersAdd_ne _ 8 ha
    · unfold State.flashByte
      rw [State.settled_flash, State.flash_roundOver, State.flash_metersAdd, hz.flash]

end Sys2Proof.Machine
end

section
/-! PROOFS. A pattern driver that connects at the end of a sequence, or as an output is enabled (R30, R40 to R42). Settles O17 and O18. -/

namespace Sys2Proof.Machine

open Sys2Proof (Instr)

/-- A command that names no engine leaves the pattern drivers as they were. -/
theorem Frame.settled_stat {w : Touch} {s z : State} (h : Frame w s z.settled) {c : Nat} (hw : ¬ w.engs c) (hs : (s.fe c).contact = none)
    (hz : (z.fe c).contact = none) : (z.eng c).stat = (s.eng c).stat := by
  have e := congrArg Eng.stat ((State.settled_engStill hz).symm.trans (h.engs c hw hs))
  exact e

/-- A READY module whose channel 3 drives in FV and is in a disabling sequence, with PAT mode in its registers; an earlier run left its pattern
driver high. -/
def patternNext : State :=
  ((({ State.reset with inReset := false }.setF 0 GLB_STATUS.STATE stREADY).setFs (feB 3) [(CHN_FE_CFG.MODE, 4), (CHN_FE_STATUS.EN, 1),
    (CHN_FE_STATUS.DRIVING, 1), (CHN_FE_STATUS.SEQ_STEP, 1)]).modFe 3 fun f => { f with mode := 1, kind := .disable }).modEng 3
      fun e => { e with stat := .hi }

/-- The sequence ends in PAT mode with the driver high-Z. -/
theorem patternNext_endStep : ((((patternNext.markConv 3 false (patternNext.seqStep 3 != 0)).endStep 3 false).seqEnded 3).eng 3).stat = .z := by
  decide +kernel

/-- Refutes O18: the frame of SAFE_VALUE_STEP names no engine. In `patternNext` the disabling sequence of channel 3 ends in PAT mode, where the
pattern driver connects high-Z (R30): the driver, which stood high, changes. -/
theorem not_sequenceStepRows : ¬ Obligations.SequenceStepRows := by
  intro h
  obtain ⟨hstep, -⟩ := h patternNext
  have hc : (patternNext.fe 3).contact = none := by decide +kernel
  obtain ⟨t, ht, hframe, -⟩ := hstep 3 false hc (by decide +kernel) (by decide +kernel) (by decide +kernel)
  cases ht
  have e := hframe.settled_stat (c := 3) id hc (by decide +kernel)
  exact absurd (patternNext_endStep.symm.trans e) (by decide +kernel)

/-- The step of CH_CONTACT at 90 µs enables the odd channels, whether or not their checks stand (R48). -/
theorem contactPhaseStep_enables {s : State} {cmd : CmdRef} {c : Cmd} (volts : List (Int × Int)) (hr : s.running? cmd opCONTACT = some c)
    (hs : c.stopAsked = none) (hp : c.prog = 5) : exec (.contactPhaseStep cmd volts) s =
      done (((c.chans.filter fun k => k % 2 = 1).foldl (fun s k => s.beginEnable (s.phys k)) s).modCmd cmd
        fun c => { c with prog := c.prog + 1 }) := by
  show execContactPhaseStep cmd volts s = _
  simp [execContactPhaseStep, hr, hs, hp]

/-- CH_CONTACT of channel 3 before that step. -/
def contactCmd : Cmd := { sq := 1, tag := 5, op := opCONTACT, words := [], admitted := true, started := true, chans := [3], prog := 5 }

/-- `patternNext` with that command in flight; no check stands on channel 3. -/
def contactGone : State := { patternNext with cmds := [contactCmd] }

/-- Refutes O17: the frame of CONTACT_PHASE_STEP names no engine. In `contactGone` the step at 90 µs enables channel 3 in the mode of its registers;
its check is gone, so they hold PAT mode and not the check's FI: the pattern driver connects high-Z (R30), and changes. -/
theorem not_contactAndReleaseRows : ¬ Obligations.ContactAndReleaseRows := by
  intro h
  have hwf : contactGone.Wf := by constructor <;> decide +kernel
  have hrot : contactGone.noRot contactCmd.chans := by unfold State.noRot; decide +kernel
  have hrun : contactGone.running? ⟨1, 5⟩ opCONTACT = some contactCmd := by decide +kernel
  obtain ⟨-, hstep, -⟩ := h ⟨1, 5⟩ contactCmd contactGone hwf hrot
  obtain ⟨t, ht, ⟨-, -, hframe⟩, -⟩ := hstep [] hrun rfl (by decide)
  cases ht.symm.trans (contactPhaseStep_enables [] hrun rfl rfl)
  have e := hframe.settled_stat (c := 3) id (by decide +kernel) (by decide +kernel)
  exact absurd e (by decide +kernel)

end Sys2Proof.Machine
end

section
/-! PROOFS. CH_CONFIG of a number beyond the module's channels (R3, R249). Settles O16. -/

namespace Sys2Proof.Machine

open Sys2Proof (Instr)

theorem eq_settled {t z : State} (h : Host.Outcome.next t = done z) : t = z.settled := by
  cases h
  rfl

theorem State.no_contact {s : State} (h : ∀ e ∈ s.fes, e.2.contact = none) (v : Nat) : (s.fe v).contact = none :=
  tabGet_of_forall (P := fun f : Fe => f.contact = none) h (fun _ => rfl) v

/-- Without contact checks, a command leaves a converter at work as it was unless it names it. -/
theorem Frame.settled_adc {w : Touch} {s z : State} (h : Frame w s z.settled) {u : Nat} (hw : ¬ w.adcs u) (hs : (s.adc u).conv ≠ none)
    (hz : (z.adc u).conv ≠ none) (hsc : ∀ e ∈ s.fes, e.2.contact = none) (hzc : ∀ e ∈ z.fes, e.2.contact = none) : z.adc u = s.adc u :=
  (State.settled_adc (.inl hz) fun v _ => State.no_contact hzc v).symm.trans (h.adcs u hw (.inl hs) fun v _ => State.no_contact hsc v)

/-- CH_CONFIG c, which cmd names, applied to all its channels and started. -/
def State.configAll (s : State) (cmd : CmdRef) (c : Cmd) : State :=
  let z := c.chans.foldl (fun s k => s.configChannel c k) s
  z.startCmd cmd (z.inSequence c.chans) 0

theorem chConfig_from {s : State} {cmd : CmdRef} {c : Cmd} (h : s.ready? cmd opCONFIG = some c) :
    exec (.chConfig cmd) s = done (s.configAll cmd c) := by
  show execChConfig cmd s = _
  simp only [execChConfig, h, State.configAll]

/-- The front-end number whose CAL_REMAP register would lie where channel 0 has its CHN_FE_CFG. -/
def farUnit : Nat := 1024 + (feB 0 - CAL_REMAP.VALID.off) / 4

/-- CH_CONFIG of channel 0 and of that number, with a CHN_FE_CFG word of 0. -/
def farConfig : Cmd :=
  { sq := 1, tag := 5, op := opCONFIG, words := List.replicate 15 0 ++ [1], admitted := true, chans := [0, farUnit] }

/-- A READY module with that command admitted: the far output is on, the far converter samples, and bit 31 of CHN_FE_CFG of channel 0 is stored,
by which the far shade counts as remapped. -/
def farState : State :=
  ((({ State.reset with inReset := false, cmds := [farConfig] }.setF 0 GLB_STATUS.STATE stREADY).wr (feB 0) 0x80000000).setF (feB farUnit)
    CHN_FE_STATUS.EN 1).modAdc farUnit fun a => { a with conv := some { src := 0, gain := 0, samp := 0 } }

/-- The command's first channel clears that bit, so that its second marks the sample of the far converter. -/
theorem farState_configAll : (farState.configAll ⟨1, 5⟩ farConfig).adc farUnit ≠ farState.adc farUnit ∧
    ((farState.configAll ⟨1, 5⟩ farConfig).adc farUnit).conv ≠ none ∧ ∀ e ∈ (farState.configAll ⟨1, 5⟩ farConfig).fes, e.2.contact = none := by
  decide +kernel

/-- Refutes O16: nothing bounds the numbers in a command's list of channels. In `farState` the far front-end, by its CAL_REMAP, has its conversions
in the converter of a channel; CH_CONFIG overwrites what CAL_REMAP reads as, and marks the far front-end's own converter, which the frame does
not name. -/
theorem not_settingRows : ¬ Obligations.SettingRows := by
  intro h
  have hrot : farState.noRot farConfig.chans := by unfold State.noRot; decide +kernel
  have hready : farState.ready? ⟨1, 5⟩ opCONFIG = some farConfig := by decide +kernel
  have hnone : farConfig.wordIf 4 = none := by decide +kernel
  have hother : ¬ farState.adcsOf farConfig.chans farUnit := by unfold State.adcsOf; decide +kernel
  obtain ⟨hconfig, -⟩ := h ⟨1, 5⟩ farConfig farState hrot
  obtain ⟨t, ht, ⟨-, -, hframe⟩, -⟩ := hconfig hready fun w hw => absurd (hnone.symm.trans hw) (by simp)
  rw [eq_settled (ht.symm.trans (chConfig_from hready))] at hframe
  obtain ⟨hne, hconv, hcon⟩ := farState_configAll
  exact hne (hframe.settled_adc hother (by decide +kernel) hconv (by decide +kernel) hcon)

end Sys2Proof.Machine
end

section
/-! SUPPORT. Registers alone that change; reads and writes of a front-end's block. -/

namespace Sys2Proof.Machine

open Sys2Proof (Instr)

/-- t is s but for registers that p names. -/
structure State.RegsBut (p : Nat → Prop) (s t : State) : Prop where
  only : ∃ r, t = { s with regs := r }
  rd : ∀ a, ¬ p a → t.rd a = s.rd a

namespace State.RegsBut

variable {p : Nat → Prop} {s z : State}

theorem refl (p : Nat → Prop) (s : State) : RegsBut p s s := ⟨⟨_, rfl⟩, fun _ _ => rfl⟩

theorem setF (h : RegsBut p s z) {b : Nat} {f : Fld} (v : Nat) (ha : p (b + f.off)) : RegsBut p s (z.setF b f v) where
  only := by
    obtain ⟨_, rfl⟩ := h.only
    exact ⟨_, rfl⟩
  rd a hn := (z.rd_setF_ne (fun e : b + f.off = a => hn (e ▸ ha)) v).trans (h.rd a hn)

theorem setFs {b : Nat} {l : List (Fld × Nat)} (h : RegsBut p s z) (hl : ∀ e ∈ l, p (b + e.1.off)) : RegsBut p s (z.setFs b l) :=
  foldl_keeps_mem l h fun _ e he g => g.setF e.2 (hl e he)

theorem ite {c : Prop} [Decidable c] {a b : State} (ha : c → RegsBut p s a) (hb : ¬ c → RegsBut p s b) : RegsBut p s (if c then a else b) :=
  ite_keeps ha hb

theorem getF (h : RegsBut p s z) {b : Nat} {f : Fld} (hn : ¬ p (b + f.off)) : z.getF b f = s.getF b f := congrArg f.get (h.rd _ hn)

theorem isSet (h : RegsBut p s z) {b : Nat} {f : Fld} (hn : ¬ p (b + f.off)) : z.isSet b f = s.isSet b f := State.isSet_of_getF (h.getF hn)

theorem fe (h : RegsBut p s z) (u : Nat) : z.fe u = s.fe u := by
  obtain ⟨_, rfl⟩ := h.only
  rfl

theorem rots (h : RegsBut p s z) : z.rots = s.rots := by
  obtain ⟨_, rfl⟩ := h.only
  rfl

theorem exact {w : Touch} (h : RegsBut p s z) (hp : ∀ a, p a → w.regs a) : Exact w s z := by
  have hr := h.rd
  obtain ⟨r, rfl⟩ := h.only
  exact { Exact.refl w s with regs := fun a ha => hr a fun hpa => ha (hp a hpa) }

end State.RegsBut

/-- A write of one field leaves the fields of the block's other registers. -/
theorem State.getF_setF_off (s : State) (b : Nat) {f g : Fld} (h : f.off ≠ g.off) (v : Nat) : (s.setF b f v).getF b g = s.getF b g :=
  s.getF_setF_ne (fun e => h (Nat.add_left_cancel e)) v

theorem State.isSet_setF_off (s : State) (b : Nat) {f g : Fld} (h : f.off ≠ g.off) (v : Nat) : (s.setF b f v).isSet b g = s.isSet b g :=
  State.isSet_of_getF (s.getF_setF_off b h v)

theorem State.isSet_setF_disj (s : State) (b : Nat) (f g : Fld) (v : Nat) (e : f.off = g.off) (h : g.hi < f.lo ∨ f.hi < g.lo) :
    (s.setF b f v).isSet b g = s.isSet b g := State.isSet_of_getF (s.getF_setF_disj b f g v e h)

theorem State.isSet_setF_self (s : State) (b : Nat) (f : Fld) (v : Nat) (h : f.hi < 32) :
    (s.setF b f v).isSet b f = (v % 2 ^ (f.hi + 1 - f.lo) != 0) := State.isSet_of_getF (s.getF_setF_self b f v h)

theorem State.settled_feSet {s : State} {u : Nat} {f : Fld} (h : (s.fe u).contact = none) (ho : f.off < 0x800) (hk : f.off ≠ 0x104 ∧ f.off ≠ 0x110) :
    s.settled.isSet (feB u) f = s.isSet (feB u) f := State.isSet_of_getF (State.settled_feF h ho hk)

/-- The registers of the module's own blocks lie below every front-end's. -/
theorem lt_feB {u a : Nat} (h : a < 0x800000) (o : Nat) : a ≠ feB u + o := by
  unfold feB chB shB tileBase
  split <;> omega

/-- The channel that a shade serves is held in the module's own registers and in the rotation. -/
theorem State.servedBy_eq {s z : State} (hr : z.rots = s.rots) (hrd : ∀ a, a < 0x800000 → z.rd a = s.rd a) {nn : Nat} (hn : nn < 32) :
    z.servedBy nn = s.servedBy nn := by
  have e : z.rd (4 * nn + 0x400200) = s.rd (4 * nn + 0x400200) := hrd _ (by omega)
  have hv : z.isSet (4 * nn) CAL_REMAP.VALID = s.isSet (4 * nn) CAL_REMAP.VALID := State.isSet_of_getF (congrArg CAL_REMAP.VALID.get e)
  have hl : z.getF (4 * nn) CAL_REMAP.LOCAL = s.getF (4 * nn) CAL_REMAP.LOCAL := congrArg CAL_REMAP.LOCAL.get e
  have hro : z.rot nn = s.rot nn := by
    unfold State.rot
    rw [hr]
  unfold State.servedBy
  rw [hv, hl, hro]

/-- The address of a front-end's register lies in its block. -/
theorem locate_feB {u o : Nat} (hu : u < 1056) (ho : o < 0x300) : locate (feB u + o) = (.front, u, o) := by
  have hb : feB u + o < 0x1000000 ∧ 0x800000 ≤ feB u + o := by
    unfold feB chB shB tileBase
    split <;> omega
  unfold locate
  rw [if_neg (by omega), if_neg (by omega), if_neg (by omega), if_neg (by omega), if_neg (by omega), if_neg (by omega), if_neg (by omega),
    if_neg (by omega), if_pos hb.1]
  dsimp only
  by_cases h : u < 1024
  · have e : feB u + o - 0x800000 = u / 128 * 0x100000 + (0x10000 + u % 128 * 0x800 + o) := by
      unfold feB chB tileBase
      rw [if_pos h]
      omega
    rw [e, if_neg (by omega), if_pos (by omega), if_pos (by omega)]
    refine Prod.ext rfl (Prod.ext ?_ ?_)
    · dsimp only
      omega
    · dsimp only
      omega
  · have e : feB u + o - 0x800000 = (u - 1024) / 4 * 0x100000 + (0x50000 + (u - 1024) % 4 * 0x800 + o) := by
      unfold feB shB tileBase
      rw [if_neg h]
      omega
    rw [e, if_neg (by omega), if_neg (by omega), if_pos (by omega), if_pos (by omega)]
    refine Prod.ext rfl (Prod.ext ?_ ?_)
    · dsimp only
      omega
    · dsimp only
      omega

/-- An executed write of a register that the front-end map names goes to its front-end. -/
theorem State.regWrite_front {s : State} {u o : Nat} (w : Word) (spb : Bool) (hu : u < 1056) (ho : o < 0x300) (hf : (findIn mapFe o).isSome = true)
    (hw : s.writeOk (feB u + o) = true) : s.regWrite (feB u + o) w spb = s.frontWrite u o w := by
  have hlt : ¬ 0x1000000 ≤ feB u + o := by
    unfold feB chB shB tileBase
    split <;> omega
  have hfind : ¬ (findReg (feB u + o)).isNone = true := by
    unfold findReg
    rw [locate_feB hu ho]
    show ¬ (findIn mapFe o).isNone = true
    simpa using Option.isSome_iff_ne_none.1 hf
  rw [State.regWrite, if_neg (not_not.2 hw), if_neg hlt, if_neg hfind, locate_feB hu ho]

end Sys2Proof.Machine
end

section
/-! PROOFS. The sine generator (R50 to R53, R186). Settles O20. -/

namespace Sys2Proof.Machine

open Sys2Proof (Instr)

variable {s z : State} {u : Nat}

/-- The register CHN_SINE_CTRL of front-end u. -/
def atSineCtrl (u a : Nat) : Prop := a = feB u + CHN_SINE_CTRL.EN.off

/-! ### What the register leaves alone -/

theorem atSineCtrl_off {u o : Nat} (h : o ≠ 0x40) : ¬ atSineCtrl u (feB u + o) := fun e => h (Nat.add_left_cancel e)

theorem State.RegsBut.feOn (h : RegsBut (atSineCtrl u) s z) : z.feOn u = s.feOn u := h.isSet (atSineCtrl_off (by decide))

theorem State.RegsBut.sineFits (h : RegsBut (atSineCtrl u) s z) : z.sineFits u = s.sineFits u := by
  unfold State.sineFits
  dsimp only
  rw [h.getF (f := CHN_SINE_AMP.AMP) (atSineCtrl_off (by decide)), h.getF (f := CHN_SINE_OFS.OFS) (atSineCtrl_off (by decide))]

theorem State.RegsBut.sineChargeOk (h : RegsBut (atSineCtrl u) s z) (hu : u < 1056) : z.sineChargeOk u = s.sineChargeOk u := by
  have hc : z.charge = s.charge := by
    obtain ⟨_, rfl⟩ := h.only
    rfl
  unfold State.sineChargeOk
  dsimp only
  rw [h.fe, h.getF (f := CHN_SINE_AMP.AMP) (atSineCtrl_off (by decide)), h.getF (f := CHN_SINE_OFS.OFS) (atSineCtrl_off (by decide)), hc,
    State.servedBy_eq h.rots (fun a ha => h.rd a (lt_feB ha _)) (by omega)]

/-! ### What a write of CHN_SINE_CTRL stores -/

/-- What CHN_SINE_CTRL stores of w before EN and APPLY act (R51). -/
def State.sineStore (s : State) (u : Nat) (w : Word) (direct : Bool) : State :=
  let b := feB u
  let s := if CHN_SINE_CTRL.ERR.get w = 1 then s.setF b CHN_SINE_CTRL.ERR 0 else s
  let s := s.setF b CHN_SINE_CTRL.STOP_ZC (CHN_SINE_CTRL.STOP_ZC.get w)
  if direct ∧ s.feOn u then s
  else s.setFs b [(CHN_SINE_CTRL.START_MODE, CHN_SINE_CTRL.START_MODE.get w), (CHN_SINE_CTRL.DIV, max 20 (CHN_SINE_CTRL.DIV.get w))]

/-- What EN and APPLY of w then do (R51, R52). -/
def State.sineAct (s : State) (u : Nat) (w : Word) (direct : Bool) : State × SineStop :=
  let en := s.isSet (feB u) CHN_SINE_CTRL.EN
  let en' := CHN_SINE_CTRL.EN.get w = 1
  if en' ∧ ¬ en then s.sineStart u direct
  else if en ∧ ¬ en' then (s.sineStop u, .ok)
  else if en ∧ CHN_SINE_CTRL.APPLY.get w = 1 then s.sineApply u direct
  else (s, .ok)

theorem State.sineCtrl_eq (s : State) (u : Nat) (w : Word) (direct : Bool) :
    s.sineCtrl u w direct = (s.sineStore u w direct).sineAct u w direct := rfl

theorem State.sineStore_regs (s : State) (u : Nat) (w : Word) (direct : Bool) : RegsBut (atSineCtrl u) s (s.sineStore u w direct) := by
  unfold State.sineStore
  extract_lets b s1 s2
  have h1 : RegsBut (atSineCtrl u) s s1 := .ite (fun _ => (RegsBut.refl _ s).setF 0 rfl) fun _ => .refl _ s
  have h2 : RegsBut (atSineCtrl u) s s2 := h1.setF _ rfl
  exact .ite (fun _ => h2) fun _ => h2.setFs (by simp [atSineCtrl, b])

/-- Field f of CHN_SINE_CTRL is none of those that a write stores. -/
def sineApart (f : Fld) : Prop :=
  f.off = 0x40 ∧ ∀ g ∈ [CHN_SINE_CTRL.ERR, CHN_SINE_CTRL.STOP_ZC, CHN_SINE_CTRL.START_MODE, CHN_SINE_CTRL.DIV], f.hi < g.lo ∨ g.hi < f.lo

theorem sineApart_en : sineApart CHN_SINE_CTRL.EN := ⟨rfl, by decide⟩

theorem sineApart_run : sineApart CHN_SINE_CTRL.RUN := ⟨rfl, by decide⟩

theorem State.sineStore_getF (s : State) (w : Word) (direct : Bool) {f : Fld} (hf : sineApart f) :
    (s.sineStore u w direct).getF (feB u) f = s.getF (feB u) f := by
  obtain ⟨ho, hd⟩ := hf
  have step (x : State) (g : Fld) (v : Nat) (hg : g ∈ [CHN_SINE_CTRL.ERR, CHN_SINE_CTRL.STOP_ZC, CHN_SINE_CTRL.START_MODE, CHN_SINE_CTRL.DIV])
      (e : g.off = 0x40) : (x.setF (feB u) g v).getF (feB u) f = x.getF (feB u) f := x.getF_setF_disj _ _ _ _ (e.trans ho.symm) (hd g hg)
  unfold State.sineStore
  extract_lets b s1 s2
  have e1 : s1.getF b f = s.getF b f := ite_keeps (R := fun x => x.getF b f = s.getF b f) (fun _ => step _ _ _ (by simp) rfl) fun _ => rfl
  have e2 : s2.getF b f = s.getF b f := (step _ _ _ (by simp) rfl).trans e1
  refine ite_keeps (R := fun x => x.getF b f = s.getF b f) (fun _ => e2) fun _ => ?_
  exact (step _ _ _ (by simp) rfl).trans ((step _ _ _ (by simp) rfl).trans e2)

theorem State.sineStore_isSet (s : State) (w : Word) (direct : Bool) {f : Fld} (hf : sineApart f) :
    (s.sineStore u w direct).isSet (feB u) f = s.isSet (feB u) f := State.isSet_of_getF (s.sineStore_getF w direct hf)

theorem State.sineStore_stopZc (s : State) (w : Word) (direct : Bool) :
    (s.sineStore u w direct).getF (feB u) CHN_SINE_CTRL.STOP_ZC = CHN_SINE_CTRL.STOP_ZC.get w := by
  unfold State.sineStore
  extract_lets b s1 s2
  have e2 : s2.getF b CHN_SINE_CTRL.STOP_ZC = CHN_SINE_CTRL.STOP_ZC.get w :=
    (s1.getF_setF_self b CHN_SINE_CTRL.STOP_ZC _ (by decide)).trans (Nat.mod_eq_of_lt (Fld.get_lt _ _))
  refine ite_keeps (R := fun x => x.getF b CHN_SINE_CTRL.STOP_ZC = CHN_SINE_CTRL.STOP_ZC.get w) (fun _ => e2) fun _ => ?_
  exact (State.getF_setF_disj _ b CHN_SINE_CTRL.DIV CHN_SINE_CTRL.STOP_ZC _ rfl (by decide)).trans
    ((s2.getF_setF_disj b CHN_SINE_CTRL.START_MODE CHN_SINE_CTRL.STOP_ZC _ rfl (by decide)).trans e2)

/-- A direct write on an enabled channel leaves START_MODE. -/
theorem State.sineStore_startMode (w : Word) (hon : s.feOn u = true) :
    (s.sineStore u w true).isSet (feB u) CHN_SINE_CTRL.START_MODE = s.isSet (feB u) CHN_SINE_CTRL.START_MODE := by
  refine State.isSet_of_getF ?_
  unfold State.sineStore
  extract_lets b s1 s2
  have h1 : RegsBut (atSineCtrl u) s s1 := .ite (fun _ => (RegsBut.refl _ s).setF 0 rfl) fun _ => .refl _ s
  have h2 : RegsBut (atSineCtrl u) s s2 := h1.setF _ rfl
  have e1 : s1.getF b CHN_SINE_CTRL.START_MODE = s.getF b CHN_SINE_CTRL.START_MODE :=
    ite_keeps (R := fun x => x.getF b CHN_SINE_CTRL.START_MODE = s.getF b CHN_SINE_CTRL.START_MODE)
      (fun _ => s.getF_setF_disj b CHN_SINE_CTRL.ERR CHN_SINE_CTRL.START_MODE _ rfl (by decide)) fun _ => rfl
  have e2 : s2.getF b CHN_SINE_CTRL.START_MODE = s.getF b CHN_SINE_CTRL.START_MODE :=
    (s1.getF_setF_disj b CHN_SINE_CTRL.STOP_ZC CHN_SINE_CTRL.START_MODE _ rfl (by decide)).trans e1
  have hon2 : s2.feOn u = true := h2.feOn.trans hon
  exact ite_keeps (R := fun x => x.getF b CHN_SINE_CTRL.START_MODE = s.getF b CHN_SINE_CTRL.START_MODE) (fun _ => e2)
    fun hn => absurd ⟨rfl, hon2⟩ hn

/-! ### What EN and APPLY do -/

theorem State.sineAct_start {w : Word} (direct : Bool) (h : s.isSet (feB u) CHN_SINE_CTRL.EN = false) (hw : CHN_SINE_CTRL.EN.get w = 1) :
    s.sineAct u w direct = s.sineStart u direct := by
  unfold State.sineAct
  rw [if_pos ⟨hw, by simp [h]⟩]

theorem State.sineAct_stop {w : Word} (direct : Bool) (h : s.isSet (feB u) CHN_SINE_CTRL.EN = true) (hw : CHN_SINE_CTRL.EN.get w = 0) :
    s.sineAct u w direct = (s.sineStop u, .ok) := by
  simp [State.sineAct, h, hw]

theorem State.sineAct_apply {w : Word} (direct : Bool) (h : s.isSet (feB u) CHN_SINE_CTRL.EN = true) (hw : CHN_SINE_CTRL.EN.get w = 1)
    (ha : CHN_SINE_CTRL.APPLY.get w = 1) : s.sineAct u w direct = s.sineApply u direct := by
  simp [State.sineAct, h, hw, ha]

/-- A start outside the epoch mode: EN is set, the generator takes its staged values and PHASE0 and waits for its first update. -/
def State.sineBegin (s : State) (u : Nat) : State :=
  let z := s.setF (feB u) CHN_SINE_CTRL.EN 1
  (z.sineTake u).modFe u fun f =>
    { f with acc := z.getF (feB u) CHN_SINE_PHASE0.PHASE0, applyPend := false, zcStop := false, waitEpoch := false, waitUpdate := true }

theorem State.sineStart_begin {direct : Bool} (hm : s.isSet (feB u) CHN_SINE_CTRL.START_MODE = false) (hon : s.feOn u = true)
    (hf : forces (s.fe u).mode = true) (hfit : s.sineFits u = true) (hc : direct = true → s.sineChargeOk u = true) :
    s.sineStart u direct = (s.sineBegin u, .ok) := by
  have hd : ¬ (direct = true ∧ ¬ s.sineChargeOk u = true) := fun h => h.2 (hc h.1)
  simp only [State.sineStart, State.sineBegin, hm, hon, hf, hfit, hd, and_self, not_true_eq_false, if_false, Bool.false_eq_true, false_and,
    Bool.not_false]

/-- A start that is not possible only sets ERR. -/
theorem State.sineStart_err {direct : Bool} (h : s.feOn u = false ∨ s.sineFits u = false) :
    (s.sineStart u direct).1 = s.setF (feB u) CHN_SINE_CTRL.ERR 1 := by
  unfold State.sineStart
  dsimp only
  by_cases hf : s.feOn u = true ∧ forces (s.fe u).mode = true
  · have hfit : s.sineFits u = false := h.resolve_left (by simp [hf.1])
    rw [if_neg (not_not.2 hf), if_pos (by simp [hfit])]
  · rw [if_pos hf]

theorem State.sineApply_pend {direct : Bool} (hfit : s.sineFits u = true) (hc : s.sineChargeOk u = true) :
    s.sineApply u direct = (s.modFe u fun f => { f with applyPend := true }, .ok) := by
  simp [State.sineApply, hfit, hc]

theorem State.sineBegin_fe (s : State) (u : Nat) : ((s.sineBegin u).fe u).waitUpdate = true ∧
    ((s.sineBegin u).fe u).acc = s.getF (feB u) CHN_SINE_PHASE0.PHASE0 ∧ ((s.sineBegin u).fe u).ftw = s.getF (feB u) CHN_SINE_FTW.FTW := by
  have hp := s.getF_setF_off (feB u) (f := CHN_SINE_CTRL.EN) (g := CHN_SINE_PHASE0.PHASE0) (by decide) 1
  have ht := s.getF_setF_off (feB u) (f := CHN_SINE_CTRL.EN) (g := CHN_SINE_FTW.FTW) (by decide) 1
  unfold State.sineBegin State.sineTake
  simp only [State.fe_modFe_self, hp, ht, and_self]

theorem State.sineBegin_en (s : State) (u : Nat) : (s.sineBegin u).isSet (feB u) CHN_SINE_CTRL.EN = true :=
  State.isSet_of_getF (s.getF_setF_self (feB u) CHN_SINE_CTRL.EN 1 (by decide))

theorem Exact.sineBegin {w : Touch} (h : Exact w s z) (hr : w.regs (feB u + CHN_SINE_CTRL.EN.off)) (hf : w.fes u) : Exact w s (z.sineBegin u) := by
  unfold State.sineBegin State.sineTake
  exact ((h.setF (f := CHN_SINE_CTRL.EN) 1 hr).modFe _ hf (by exact fun _ e => e)).modFe _ hf (by exact fun _ e => e)

/-! ### The rows of writes -/

/-- An executed direct write of CHN_SINE_CTRL. -/
theorem State.writeReg_sine {s : State} (u : Fin 1056) (w : Word) (hw : s.writeOk (feB u + CHN_SINE_CTRL.EN.off) = true) :
    s.writeReg (feB u) CHN_SINE_CTRL.EN w = s.sineWrite u w := by
  have h := State.regWrite_front (s := s) (o := 0x40) w false u.isLt (by decide) (by decide) hw
  exact h

theorem State.writeReg_sineOpen {s : State} (u : Fin 1056) (w : Word) (hw : s.writeOk (feB u + CHN_SINE_CTRL.EN.off) = true)
    (ho : s.sineOpen u = true) : s.writeReg (feB u) CHN_SINE_CTRL.EN w = ((s.sineStore u w true).sineAct u w true).1 := by
  rw [State.writeReg_sine u w hw, State.sineWrite, if_pos ho, State.sineCtrl_eq]

theorem State.RegsBut.contact {p : Nat → Prop} (h : RegsBut p s z) (hc : (s.fe u).contact = none) : (z.fe u).contact = none := by
  rw [h.fe]
  exact hc

theorem sineEnSet_row (u : Fin 1056) (w : Word) (hc : (s.fe u).contact = none) (hw : s.writeOk (feB u + CHN_SINE_CTRL.EN.off) = true)
    (ho : s.sineOpen u = true) (he : s.isSet (feB u) CHN_SINE_CTRL.EN = false) (hm : s.isSet (feB u) CHN_SINE_CTRL.START_MODE = false)
    (hon : s.feOn u = true) (hf : forces (s.fe u).mode = true) (hfit : s.sineFits u = true) (hch : s.sineChargeOk u = true) :
    Completes (.sineEnSet u w) s fun t => t.isSet (feB u) CHN_SINE_CTRL.EN = true ∧ (t.fe u).waitUpdate = true ∧
      (t.fe u).acc = s.getF (feB u) CHN_SINE_PHASE0.PHASE0 ∧ (t.fe u).ftw = s.getF (feB u) CHN_SINE_FTW.FTW ∧
      Frame { regs := fun a => a = feB u + CHN_SINE_CTRL.EN.off, fes := fun x => x = u } s t := by
  have hr := s.sineStore_regs u (CHN_SINE_CTRL.EN.put w 1) true
  have hz : s.writeReg (feB u) CHN_SINE_CTRL.EN (CHN_SINE_CTRL.EN.put w 1) =
      (s.sineStore u (CHN_SINE_CTRL.EN.put w 1) true).sineBegin u := by
    rw [State.writeReg_sineOpen u _ hw ho, State.sineAct_start _ ((s.sineStore_isSet _ _ sineApart_en).trans he)
      (Fld.get_put CHN_SINE_CTRL.EN (by decide) w 1),
      State.sineStart_begin ((State.sineStore_startMode _ hon).trans hm) (hr.feOn.trans hon) (by rw [hr.fe]; exact hf) (hr.sineFits.trans hfit)
        fun _ => (hr.sineChargeOk u.isLt).trans hch]
  generalize s.sineStore u (CHN_SINE_CTRL.EN.put w 1) true = z at hr hz
  obtain ⟨hwait, hacc, hftw⟩ := z.sineBegin_fe u
  have hx : Exact { regs := atSineCtrl u, fes := fun x => x = u } s (z.sineBegin u) := (hr.exact fun _ h => h).sineBegin rfl rfl
  have hzc := hx.con u hc
  refine completes_done (congrArg done hz) ⟨?_, ?_, ?_, ?_, hx.settled⟩
  · rw [State.settled_feSet hzc (by decide) (by decide)]
    exact z.sineBegin_en u
  all_goals rw [State.settled_fe hzc]
  · exact hwait
  · exact hacc.trans (hr.getF (atSineCtrl_off (by decide)))
  · exact hftw.trans (hr.getF (atSineCtrl_off (by decide)))

theorem sineEnSet_err_row (u : Fin 1056) (w : Word) (hc : (s.fe u).contact = none) (hw : s.writeOk (feB u + CHN_SINE_CTRL.EN.off) = true)
    (ho : s.sineOpen u = true) (he : s.isSet (feB u) CHN_SINE_CTRL.EN = false) (hno : s.feOn u = false ∨ s.sineFits u = false) :
    Completes (.sineEnSet u w) s fun t => t.isSet (feB u) CHN_SINE_CTRL.EN = false ∧ t.isSet (feB u) CHN_SINE_CTRL.ERR = true ∧
      Frame { regs := fun a => a = feB u + CHN_SINE_CTRL.EN.off } s t := by
  have hr := s.sineStore_regs u (CHN_SINE_CTRL.EN.put w 1) true
  have hen := (s.sineStore_isSet (u := u) (CHN_SINE_CTRL.EN.put w 1) true sineApart_en).trans he
  have hz : s.writeReg (feB u) CHN_SINE_CTRL.EN (CHN_SINE_CTRL.EN.put w 1) =
      (s.sineStore u (CHN_SINE_CTRL.EN.put w 1) true).setF (feB u) CHN_SINE_CTRL.ERR 1 := by
    rw [State.writeReg_sineOpen u _ hw ho, State.sineAct_start _ hen (Fld.get_put CHN_SINE_CTRL.EN (by decide) w 1),
      State.sineStart_err (hno.imp hr.feOn.trans hr.sineFits.trans)]
  generalize s.sineStore u (CHN_SINE_CTRL.EN.put w 1) true = z at hr hz hen
  have hx : State.RegsBut (atSineCtrl u) s (z.setF (feB u) CHN_SINE_CTRL.ERR 1) := hr.setF 1 rfl
  have hzc := hx.contact hc
  refine completes_done (congrArg done hz) ⟨?_, ?_, (hx.exact fun _ h => h).settled⟩
  · rw [State.settled_feSet hzc (by decide) (by decide)]
    exact (z.isSet_setF_disj (feB u) CHN_SINE_CTRL.ERR CHN_SINE_CTRL.EN 1 rfl (by decide)).trans hen
  · rw [State.settled_feSet hzc (by decide) (by decide)]
    exact z.isSet_setF_self (feB u) CHN_SINE_CTRL.ERR 1 (by decide)

theorem sineApply_row (u : Fin 1056) (w : Word) (hc : (s.fe u).contact = none) (hw : s.writeOk (feB u + CHN_SINE_CTRL.EN.off) = true)
    (ho : s.sineOpen u = true) (he : s.isSet (feB u) CHN_SINE_CTRL.EN = true) (hwe : CHN_SINE_CTRL.EN.get w = 1) (hfit : s.sineFits u = true)
    (hch : s.sineChargeOk u = true) : Completes (.sineApply u w) s fun t => (t.fe u).applyPend = true ∧
      Frame { regs := fun a => a = feB u + CHN_SINE_CTRL.EN.off, fes := fun x => x = u } s t := by
  have hr := s.sineStore_regs u (CHN_SINE_CTRL.APPLY.put w 1) true
  have hz : s.writeReg (feB u) CHN_SINE_CTRL.EN (CHN_SINE_CTRL.APPLY.put w 1) =
      (s.sineStore u (CHN_SINE_CTRL.APPLY.put w 1) true).modFe u fun f => { f with applyPend := true } := by
    rw [State.writeReg_sineOpen u _ hw ho, State.sineAct_apply _ ((s.sineStore_isSet _ _ sineApart_en).trans he)
      ((Fld.get_put_disj CHN_SINE_CTRL.APPLY CHN_SINE_CTRL.EN (by decide) w 1).trans hwe) (Fld.get_put CHN_SINE_CTRL.APPLY (by decide) w 1),
      State.sineApply_pend (hr.sineFits.trans hfit) ((hr.sineChargeOk u.isLt).trans hch)]
  have hx : Exact { regs := atSineCtrl u, fes := fun x => x = u } s
      ((s.sineStore u (CHN_SINE_CTRL.APPLY.put w 1) true).modFe u fun f => { f with applyPend := true }) :=
    (hr.exact fun _ h => h).modFe _ rfl (by exact fun _ e => e)
  refine completes_done (congrArg done hz) ⟨?_, hx.settled⟩
  rw [State.settled_fe (hx.con u hc), State.fe_modFe_self]

/-- The generator stops: RUN goes to 0 and v is left as the setting (R52). -/
def State.sineHalt (s : State) (u v : Nat) : State := (s.setF (feB u) CHN_SINE_CTRL.RUN 0).setF (feB u) CHN_FE_TARGET.CODE v

theorem State.sineHalt_ctrl (s : State) (u v : Nat) {f : Fld} (ho : f.off = 0x40) :
    (s.sineHalt u v).isSet (feB u) f = (s.setF (feB u) CHN_SINE_CTRL.RUN 0).isSet (feB u) f :=
  State.isSet_setF_off (s.setF (feB u) CHN_SINE_CTRL.RUN 0) (feB u) (f := CHN_FE_TARGET.CODE) (g := f) (by rw [ho]; decide) v

theorem State.sineHalt_run (s : State) (u v : Nat) : (s.sineHalt u v).isSet (feB u) CHN_SINE_CTRL.RUN = false :=
  (s.sineHalt_ctrl u v rfl).trans (s.isSet_setF_self (feB u) CHN_SINE_CTRL.RUN 0 (by decide))

theorem State.sineHalt_en (s : State) (u v : Nat) : (s.sineHalt u v).isSet (feB u) CHN_SINE_CTRL.EN = s.isSet (feB u) CHN_SINE_CTRL.EN :=
  (s.sineHalt_ctrl u v rfl).trans (s.isSet_setF_disj (feB u) CHN_SINE_CTRL.RUN CHN_SINE_CTRL.EN 0 rfl (by decide))

theorem State.sineHalt_target (s : State) (u v : Nat) : (s.sineHalt u v).getF (feB u) CHN_FE_TARGET.CODE = v % 2 ^ 20 :=
  State.getF_setF_self (s.setF (feB u) CHN_SINE_CTRL.RUN 0) (feB u) CHN_FE_TARGET.CODE v (by decide)

theorem Exact.sineHalt {w : Touch} (h : Exact w s z) (v : Nat) (hr : w.regs (feB u + CHN_SINE_CTRL.EN.off))
    (ht : w.regs (feB u + CHN_FE_TARGET.CODE.off)) : Exact w s (z.sineHalt u v) :=
  (h.setF (f := CHN_SINE_CTRL.RUN) 0 hr).setF (f := CHN_FE_TARGET.CODE) v ht

/-- A stop of a generator that has not run waits for nothing more; of one that runs it takes effect at once, or at the half-cycle (R52). -/
theorem State.sineStop_cases (s : State) (u : Nat) : s.sineStop u =
    if s.isSet (feB u) CHN_SINE_CTRL.RUN = false then
      (s.setF (feB u) CHN_SINE_CTRL.EN 0).modFe u fun f => { f with waitEpoch := false, waitUpdate := false, applyPend := false }
    else if s.isSet (feB u) CHN_SINE_CTRL.STOP_ZC = true then
      (s.setF (feB u) CHN_SINE_CTRL.EN 0).modFe u fun f => { f with zcStop := true }
    else ((s.setF (feB u) CHN_SINE_CTRL.EN 0).sineHalt u (s.fe u).code).modFe u fun f => { f with applyPend := false } := by
  have hrun : (s.setF (feB u) CHN_SINE_CTRL.EN 0).isSet (feB u) CHN_SINE_CTRL.RUN = s.isSet (feB u) CHN_SINE_CTRL.RUN :=
    s.isSet_setF_disj (feB u) CHN_SINE_CTRL.EN CHN_SINE_CTRL.RUN 0 rfl (by decide)
  have hzc : (s.setF (feB u) CHN_SINE_CTRL.EN 0).isSet (feB u) CHN_SINE_CTRL.STOP_ZC = s.isSet (feB u) CHN_SINE_CTRL.STOP_ZC :=
    s.isSet_setF_disj (feB u) CHN_SINE_CTRL.EN CHN_SINE_CTRL.STOP_ZC 0 rfl (by decide)
  simp only [State.sineStop, State.sineHalt, hrun, hzc, Bool.not_eq_true]

theorem State.sineStop_en (s : State) (u : Nat) : (s.sineStop u).isSet (feB u) CHN_SINE_CTRL.EN = false := by
  have hen : (s.setF (feB u) CHN_SINE_CTRL.EN 0).isSet (feB u) CHN_SINE_CTRL.EN = false :=
    s.isSet_setF_self (feB u) CHN_SINE_CTRL.EN 0 (by decide)
  rw [s.sineStop_cases]
  split_ifs
  · exact hen
  · exact hen
  · rw [State.isSet_modFe, State.sineHalt_en]
    exact hen

theorem State.sineStop_atHalf (hr : s.isSet (feB u) CHN_SINE_CTRL.RUN = true) (hz : s.isSet (feB u) CHN_SINE_CTRL.STOP_ZC = true) :
    ((s.sineStop u).fe u).zcStop = true ∧ (s.sineStop u).isSet (feB u) CHN_SINE_CTRL.RUN = true := by
  rw [s.sineStop_cases, if_neg (by simp [hr]), if_pos hz, State.fe_modFe_self]
  exact ⟨rfl, (s.isSet_setF_disj (feB u) CHN_SINE_CTRL.EN CHN_SINE_CTRL.RUN 0 rfl (by decide)).trans hr⟩

theorem State.sineStop_atOnce (hr : s.isSet (feB u) CHN_SINE_CTRL.RUN = true) (hz : s.isSet (feB u) CHN_SINE_CTRL.STOP_ZC = false) :
    (s.sineStop u).isSet (feB u) CHN_SINE_CTRL.RUN = false ∧ (s.sineStop u).getF (feB u) CHN_FE_TARGET.CODE = (s.fe u).code % 2 ^ 20 := by
  rw [s.sineStop_cases, if_neg (by simp [hr]), if_neg (by simp [hz]), State.isSet_modFe, State.getF_modFe]
  exact ⟨State.sineHalt_run (s.setF (feB u) CHN_SINE_CTRL.EN 0) u (s.fe u).code,
    State.sineHalt_target (s.setF (feB u) CHN_SINE_CTRL.EN 0) u (s.fe u).code⟩

theorem Exact.sineStop {w : Touch} (h : Exact w s z) (hr : w.regs (feB u + CHN_SINE_CTRL.EN.off)) (ht : w.regs (feB u + CHN_FE_TARGET.CODE.off))
    (hf : w.fes u) : Exact w s (z.sineStop u) := by
  rw [z.sineStop_cases]
  have h1 : Exact w s (z.setF (feB u) CHN_SINE_CTRL.EN 0) := h.setF (f := CHN_SINE_CTRL.EN) 0 hr
  have h3 : Exact w s ((z.setF (feB u) CHN_SINE_CTRL.EN 0).sineHalt u (z.fe u).code) := h1.sineHalt (z.fe u).code hr ht
  split_ifs
  · exact h1.modFe _ hf (by exact fun _ e => e)
  · exact h1.modFe _ hf (by exact fun _ e => e)
  · exact h3.modFe _ hf (by exact fun _ e => e)

theorem sineEnClear_row (u : Fin 1056) (w : Word) (hc : (s.fe u).contact = none) (hw : s.writeOk (feB u + CHN_SINE_CTRL.EN.off) = true)
    (ho : s.sineOpen u = true) (he : s.isSet (feB u) CHN_SINE_CTRL.EN = true) :
    Completes (.sineEnClear u w) s fun t => t.isSet (feB u) CHN_SINE_CTRL.EN = false ∧
      (s.isSet (feB u) CHN_SINE_CTRL.RUN = true → CHN_SINE_CTRL.STOP_ZC.get w = 1 →
        (t.fe u).zcStop = true ∧ t.isSet (feB u) CHN_SINE_CTRL.RUN = true) ∧
      (s.isSet (feB u) CHN_SINE_CTRL.RUN = true → CHN_SINE_CTRL.STOP_ZC.get w = 0 → t.isSet (feB u) CHN_SINE_CTRL.RUN = false ∧
        t.getF (feB u) CHN_FE_TARGET.CODE = (s.fe u).code % 2 ^ 20) ∧
      Frame { regs := fun a => a = feB u + CHN_SINE_CTRL.EN.off ∨ a = feB u + CHN_FE_TARGET.CODE.off, fes := fun x => x = u } s t := by
  have hr := s.sineStore_regs u (CHN_SINE_CTRL.EN.put w 0) true
  have hrun := s.sineStore_isSet (u := u) (CHN_SINE_CTRL.EN.put w 0) true sineApart_run
  have hstop := (s.sineStore_stopZc (u := u) (CHN_SINE_CTRL.EN.put w 0) true).trans
    (Fld.get_put_disj CHN_SINE_CTRL.EN CHN_SINE_CTRL.STOP_ZC (by decide) w 0)
  have hz : s.writeReg (feB u) CHN_SINE_CTRL.EN (CHN_SINE_CTRL.EN.put w 0) = (s.sineStore u (CHN_SINE_CTRL.EN.put w 0) true).sineStop u := by
    rw [State.writeReg_sineOpen u _ hw ho, State.sineAct_stop _ ((s.sineStore_isSet _ _ sineApart_en).trans he)
      (Fld.get_put CHN_SINE_CTRL.EN (by decide) w 0)]
  generalize s.sineStore u (CHN_SINE_CTRL.EN.put w 0) true = z at hr hz hrun hstop
  have hx : Exact { regs := fun a => a = feB u + CHN_SINE_CTRL.EN.off ∨ a = feB u + CHN_FE_TARGET.CODE.off, fes := fun x => x = u } s
      (z.sineStop u) := (hr.exact fun _ h => Or.inl h).sineStop (Or.inl rfl) (Or.inr rfl) rfl
  have hzc := hx.con u hc
  refine completes_done (congrArg done hz) ⟨?_, fun h1 h2 => ?_, fun h1 h2 => ?_, hx.settled⟩
  · exact (State.settled_feSet hzc (by decide) (by decide)).trans (z.sineStop_en u)
  · obtain ⟨hzs, hzr⟩ := State.sineStop_atHalf (hrun.trans h1) (State.isSet_of_getF (hstop.trans h2))
    rw [State.settled_fe hzc]
    exact ⟨hzs, (State.settled_feSet hzc (by decide) (by decide)).trans hzr⟩
  · obtain ⟨hzr, hzt⟩ := State.sineStop_atOnce (hrun.trans h1) (State.isSet_of_getF (hstop.trans h2))
    refine ⟨(State.settled_feSet hzc (by decide) (by decide)).trans hzr, (State.settled_feF hzc (by decide) (by decide)).trans ?_⟩
    rw [hzt, hr.fe]

/-- A write that R51 does not allow is discarded and marked. -/
theorem sineWrite_closed_row (u : Fin 1056) {w : Word} {i : Instr} (hi : i ∈ [Instr.sineEnSet u w, .sineApply u w, .sineEnClear u w])
    (hc : (s.fe u).contact = none) (hw : s.writeOk (feB u + CHN_SINE_CTRL.EN.off) = true) (ho : s.sineOpen u = false) :
    Completes i s fun t => t.isSet (feB u) CHN_FE_STATUS.WIGN = true ∧ Frame { regs := fun a => a = feB u + CHN_FE_STATUS.WIGN.off } s t := by
  have hz (x : Word) : s.writeReg (feB u) CHN_SINE_CTRL.EN x = s.setF (feB u) CHN_FE_STATUS.WIGN 1 := by
    rw [State.writeReg_sine u x hw, State.sineWrite, if_neg (by simp [ho])]
    rfl
  have hx : exec i s = done (s.setF (feB u) CHN_FE_STATUS.WIGN 1) := by
    simp only [List.mem_cons, List.not_mem_nil, or_false] at hi
    obtain rfl | rfl | rfl := hi
    all_goals exact congrArg done (hz _)
  refine completes_done hx ⟨?_, ((Exact.refl _ s).setF 1 rfl).settled⟩
  exact (State.settled_feSet (s := s.setF (feB u) CHN_FE_STATUS.WIGN 1) hc (by decide) (by decide)).trans
    (s.isSet_setF_self (feB u) CHN_FE_STATUS.WIGN 1 (by decide))

/-! ### The updates -/

/-- The code of an accumulator value depends on what the front-end's generator was given last and on the tile's table. -/
theorem State.sineCode_eq {z : State} (ha : (z.fe u).amp = (s.fe u).amp) (ho : (z.fe u).ofs = (s.fe u).ofs) (hs : z.sram = s.sram) (acc : Nat) :
    z.sineCode u acc = s.sineCode u acc := by
  unfold State.sineCode State.sineEntry State.sramN
  dsimp only
  rw [ha, ho, hs]

/-- The first update starts the output at the loaded phase. -/
theorem State.sineTick_first (h : (s.fe u).waitUpdate = true) : s.sineTick u =
    (s.setF (feB u) CHN_SINE_CTRL.RUN 1).modFe u fun f => { f with waitUpdate := false, code := s.sineCode u f.acc } := by
  unfold State.sineTick
  dsimp only
  rw [if_pos h]

/-- What an update makes of a running generator's accumulator when no apply pends. -/
def State.sineStep (s : State) (u : Nat) : State :=
  s.modFe u fun f => { f with acc := ((s.fe u).acc + (s.fe u).ftw) % 2 ^ 32, applyPend := false }

/-- An update of a running generator without an apply: it advances, or ends a stop at the half-cycle. -/
theorem State.sineTick_run (hw : (s.fe u).waitUpdate = false) (hr : s.isSet (feB u) CHN_SINE_CTRL.RUN = true) (ha : (s.fe u).applyPend = false) :
    s.sineTick u =
      if ((s.fe u).zcStop && bitB (((s.fe u).acc + (s.fe u).ftw) % 2 ^ 32) 31 != bitB (s.fe u).acc 31) = true then
        ((s.sineStep u).sineHalt u (s.fe u).ofs).modFe u fun f => { f with zcStop := false, code := (s.fe u).ofs }
      else (s.sineStep u).modFe u fun f => { f with code := s.sineCode u (((s.fe u).acc + (s.fe u).ftw) % 2 ^ 32) } := by
  have hc : (s.sineStep u).sineCode u = s.sineCode u := by
    funext acc
    refine State.sineCode_eq (s := s) (z := s.sineStep u) ?_ ?_ rfl acc
    all_goals rw [State.sineStep, State.fe_modFe_self]
  have ho : ((s.sineStep u).fe u).ofs = (s.fe u).ofs := by rw [State.sineStep, State.fe_modFe_self]
  rw [← hc, ← ho]
  unfold State.sineTick State.sineHalt State.sineStep
  simp only [hw, hr, ha, Bool.false_eq_true, Bool.false_and, if_false, not_true_eq_false, Nat.add_zero]

theorem sineUpdate_first_row (u : Fin 1056) (hc : (s.fe u).contact = none) (h : (s.fe u).waitUpdate = true) :
    Completes (.sineUpdate u) s fun t => t.isSet (feB u) CHN_SINE_CTRL.RUN = true ∧ (t.fe u).waitUpdate = false ∧
      (t.fe u).code = s.sineCode u (s.fe u).acc ∧ Frame { regs := fun a => a = feB u + CHN_SINE_CTRL.EN.off, fes := fun x => x = u } s t := by
  have hz := State.sineTick_first h
  have hrun : (s.sineTick u).isSet (feB u) CHN_SINE_CTRL.RUN = true := by
    rw [hz, State.isSet_modFe]
    exact s.isSet_setF_self (feB u) CHN_SINE_CTRL.RUN 1 (by decide)
  have hx : Exact { regs := fun a => a = feB u + CHN_SINE_CTRL.EN.off, fes := fun x => x = u } s (s.sineTick u) := by
    rw [hz]
    exact ((Exact.refl _ s).setF (f := CHN_SINE_CTRL.RUN) 1 rfl).modFe _ rfl (by exact fun _ e => e)
  have hzc := hx.con u hc
  have hfe := State.settled_fe hzc
  refine completes_done rfl ⟨(State.settled_feSet hzc (by decide) (by decide)).trans hrun, ?_, ?_, hx.settled⟩
  all_goals rw [hfe, hz, State.fe_modFe_self]
  rfl

theorem sineUpdate_run_row (u : Fin 1056) (hc : (s.fe u).contact = none) (hw : (s.fe u).waitUpdate = false)
    (hr : s.isSet (feB u) CHN_SINE_CTRL.RUN = true) (ha : (s.fe u).applyPend = false) (hs : (s.fe u).zcStop = false) :
    Completes (.sineUpdate u) s fun t => (t.fe u).acc = ((s.fe u).acc + (s.fe u).ftw) % 2 ^ 32 ∧ (t.fe u).code = s.sineCode u (t.fe u).acc ∧
      Frame { fes := fun x => x = u } s t := by
  have hz := State.sineTick_run hw hr ha
  rw [if_neg (by simp [hs])] at hz
  have hx : Exact { fes := fun x => x = u } s (s.sineTick u) := by
    rw [hz]
    exact ((Exact.refl _ s).modFe _ rfl (by exact fun _ e => e)).modFe _ rfl (by exact fun _ e => e)
  have hfe := State.settled_fe (hx.con u hc)
  refine completes_done rfl ⟨?_, ?_, hx.settled⟩
  all_goals rw [hfe, hz, State.fe_modFe_self, State.sineStep, State.fe_modFe_self]

theorem sineEpoch_row (u : Fin 1056) (delta : Fin 6400) (hc : (s.fe u).contact = none) (h : (s.fe u).waitEpoch = true) :
    Completes (.sineEpochStart u delta) s fun t =>
      t.isSet (feB u) CHN_SINE_CTRL.RUN = true ∧ (t.fe u).waitEpoch = false ∧ (t.fe u).code = s.sineCode u (t.fe u).acc ∧
      (delta = 0 → 0 < s.getF (feB u) CHN_SINE_CTRL.DIV → (t.fe u).acc = (s.fe u).acc % 2 ^ 32) ∧
      Frame { regs := fun a => a = feB u + CHN_SINE_CTRL.EN.off, fes := fun x => x = u } s t := by
  obtain ⟨acc, hacc, hz⟩ : ∃ acc, (delta = 0 → 0 < s.getF (feB u) CHN_SINE_CTRL.DIV → acc = (s.fe u).acc % 2 ^ 32) ∧ s.sineEpoch u delta =
      (s.setF (feB u) CHN_SINE_CTRL.RUN 1).modFe u fun f => { f with waitEpoch := false, acc := acc, code := s.sineCode u acc } := by
    unfold State.sineEpoch
    dsimp only
    rw [if_neg (not_not.2 h)]
    refine ⟨_, fun hd hdiv => ?_, rfl⟩
    have hq : s.getF (feB u) CHN_SINE_CTRL.DIV * 6400 / (2 * (s.getF (feB u) CHN_SINE_CTRL.DIV * 6400)) = 0 := Nat.div_eq_of_lt (by omega)
    rw [hd, Fin.val_zero, Nat.mul_zero, Nat.zero_add, hq, Nat.add_zero]
  have hrun : (s.sineEpoch u delta).isSet (feB u) CHN_SINE_CTRL.RUN = true := by
    rw [hz, State.isSet_modFe]
    exact s.isSet_setF_self (feB u) CHN_SINE_CTRL.RUN 1 (by decide)
  have hx : Exact { regs := fun a => a = feB u + CHN_SINE_CTRL.EN.off, fes := fun x => x = u } s (s.sineEpoch u delta) := by
    rw [hz]
    exact ((Exact.refl _ s).setF (f := CHN_SINE_CTRL.RUN) 1 rfl).modFe _ rfl (by exact fun _ e => e)
  have hzc := hx.con u hc
  have hfe := State.settled_fe hzc
  refine completes_done rfl ⟨(State.settled_feSet hzc (by decide) (by decide)).trans hrun, ?_, ?_, ?_, hx.settled⟩
  all_goals rw [hfe, hz, State.fe_modFe_self]
  exact hacc

theorem sineZcStop_row (u : Fin 1056) (hc : (s.fe u).contact = none) (hs : (s.fe u).zcStop = true) (hw : (s.fe u).waitUpdate = false)
    (hr : s.isSet (feB u) CHN_SINE_CTRL.RUN = true) (ha : (s.fe u).applyPend = false)
    (hx : bitB (((s.fe u).acc + (s.fe u).ftw) % 2 ^ 32) 31 ≠ bitB (s.fe u).acc 31) :
    Completes (.sineZcStop u) s fun t => t.isSet (feB u) CHN_SINE_CTRL.RUN = false ∧ (t.fe u).zcStop = false ∧ (t.fe u).code = (s.fe u).ofs ∧
      t.getF (feB u) CHN_FE_TARGET.CODE = (s.fe u).ofs % 2 ^ 20 ∧
      Frame { regs := fun a => a = feB u + CHN_SINE_CTRL.EN.off ∨ a = feB u + CHN_FE_TARGET.CODE.off, fes := fun x => x = u } s t := by
  have hz := State.sineTick_run hw hr ha
  rw [if_pos (by rw [hs, Bool.true_and]; exact bne_iff_ne.2 hx)] at hz
  have he : exec (.sineZcStop u) s = done (s.sineTick u) := if_pos hs
  have hrun : (s.sineTick u).isSet (feB u) CHN_SINE_CTRL.RUN = false := by
    rw [hz, State.isSet_modFe]
    exact State.sineHalt_run (s.sineStep u) u (s.fe u).ofs
  have htgt : (s.sineTick u).getF (feB u) CHN_FE_TARGET.CODE = (s.fe u).ofs % 2 ^ 20 := by
    rw [hz, State.getF_modFe]
    exact State.sineHalt_target (s.sineStep u) u (s.fe u).ofs
  have hx : Exact { regs := fun a => a = feB u + CHN_SINE_CTRL.EN.off ∨ a = feB u + CHN_FE_TARGET.CODE.off, fes := fun x => x = u } s
      (s.sineTick u) := by
    rw [hz]
    have h1 : Exact { regs := fun a => a = feB u + CHN_SINE_CTRL.EN.off ∨ a = feB u + CHN_FE_TARGET.CODE.off, fes := fun x => x = u.val } s
        (s.sineStep u) := (Exact.refl _ s).modFe _ rfl (by exact fun _ e => e)
    exact (h1.sineHalt (s.fe u).ofs (Or.inl rfl) (Or.inr rfl)).modFe _ rfl (by exact fun _ e => e)
  have hzc := hx.con u hc
  have hfe := State.settled_fe hzc
  refine completes_done he ⟨(State.settled_feSet hzc (by decide) (by decide)).trans hrun, ?_, ?_,
    (State.settled_feF hzc (by decide) (by decide)).trans htgt, hx.settled⟩
  all_goals rw [hfe, hz, State.fe_modFe_self]

/-- Settles O20: each write of CHN_SINE_CTRL is its stored fields followed by a start, an apply or a stop; each update is the first one, an advance
or the end of a stop; all of them touch the front-end's own registers and part alone. -/
theorem sineRows : Obligations.SineRows := by
  intro u s hc
  exact ⟨fun w hw ho he hm hon hf hfit hch => sineEnSet_row u w hc hw ho he hm hon hf hfit hch,
    fun w hw ho he hno => sineEnSet_err_row u w hc hw ho he hno,
    fun w hw ho he hwe hfit hch => sineApply_row u w hc hw ho he hwe hfit hch,
    fun w hw ho he => sineEnClear_row u w hc hw ho he,
    fun _ _ hi hw ho => sineWrite_closed_row u hi hc hw ho,
    sineUpdate_first_row u hc,
    sineUpdate_run_row u hc,
    fun delta => sineEpoch_row u delta hc,
    sineZcStop_row u hc⟩

end Sys2Proof.Machine
end

section
/-! SUPPORT. The end of a fault's condition; the trip of a channel that nothing else is bound to (R39, R359). -/

namespace Sys2Proof.Machine

open Sys2Proof (Instr)

variable {w : Touch} {s z : State} {u cls : Nat}

theorem State.settled_inst (s : State) (k : Nat) : s.settled.inst k = s.inst k := by
  unfold State.inst
  rw [s.settled_insts]

/-! ### The end of a condition -/

theorem State.condEnd_inst_ne (s : State) {cls scope unit n : Nat} (h : n ≠ instKey cls scope unit) :
    (s.condEnd cls scope unit).inst n = s.inst n :=
  ite_keeps (R := fun x => x.inst n = s.inst n) (fun _ => by rw [State.inst_setInst, if_neg h.symm]) fun _ => rfl

theorem State.condEnd_cond {cls scope unit : Nat} (h : (s.inst (instKey cls scope unit)).force = true) :
    ((s.condEnd cls scope unit).inst (instKey cls scope unit)).cond = false := by
  unfold State.condEnd
  dsimp only
  by_cases hc : (s.inst (instKey cls scope unit)).cond = true
  · rw [if_pos ⟨h, hc⟩, State.inst_setInst_self]
  · rw [if_neg fun e => hc e.2]
    exact Bool.eq_false_iff.2 hc

/-- i and j are in force alike, at one level, and acknowledged alike. -/
def Inst.Like (i j : Inst) : Prop := j.force = i.force ∧ j.level = i.level ∧ j.unack = i.unack

theorem State.condEnd_like (s : State) (cls scope unit n : Nat) : (s.inst n).Like ((s.condEnd cls scope unit).inst n) := by
  refine ite_keeps (R := fun x => (s.inst n).Like (x.inst n)) (fun _ => ?_) fun _ => ⟨rfl, rfl, rfl⟩
  rw [State.inst_setInst]
  split
  · rename_i e
    rw [← e]
    exact ⟨rfl, rfl, rfl⟩
  · exact ⟨rfl, rfl, rfl⟩

/-- At an opened output OVERCURRENT and CONTACT_OPEN of its channel stay in force, without their condition. -/
theorem State.outputOpened_inst (s : State) (hu : u < 1024) (hc : cls = 0x01 ∨ cls = 0x03)
    (hf : (s.inst (instKey cls scCHANNEL u)).force = true) :
    (s.inst (instKey cls scCHANNEL u)).Like ((s.outputOpened u).inst (instKey cls scCHANNEL u)) ∧
      ((s.outputOpened u).inst (instKey cls scCHANNEL u)).cond = false := by
  have he : s.outputOpened u = (s.condEnd 0x01 scCHANNEL u).condEnd 0x03 scCHANNEL u := by
    unfold State.outputOpened State.faultUnit
    rw [if_pos hu]
  have hne : instKey 0x01 scCHANNEL u ≠ instKey 0x03 scCHANNEL u := by
    unfold instKey
    omega
  rw [he]
  obtain rfl | rfl := hc
  · rw [State.condEnd_inst_ne _ hne]
    exact ⟨s.condEnd_like _ _ _ _, State.condEnd_cond hf⟩
  · have e := s.condEnd_inst_ne hne.symm
    have h1 := (s.condEnd 0x01 scCHANNEL u).condEnd_like 0x03 scCHANNEL u (instKey 0x03 scCHANNEL u)
    rw [e] at h1
    exact ⟨h1, State.condEnd_cond (by rw [e]; exact hf)⟩

theorem State.outputOpened_getF (s : State) (u b : Nat) (f : Fld) : (s.outputOpened u).getF b f = s.getF b f :=
  (State.condEnd_getF ..).trans (State.condEnd_getF ..)

theorem Exact.outputOpened (h : Exact w s z) (u : Nat) (hp : ∀ x l, w.parts { x with insts := l } = w.parts x) : Exact w s (z.outputOpened u) :=
  (h.condEnd _ _ _ hp).condEnd _ _ _ hp

/-! ### The opening of an output -/

/-- What the opening of an output clears in CHN_FE_STATUS. -/
def openMarks : List (Fld × Nat) :=
  [(CHN_FE_STATUS.EN, 0), (CHN_FE_STATUS.DRIVING, 0), (CHN_FE_STATUS.SEQ_STEP, 0), (CHN_FE_STATUS.CLAMP, 0), (CHN_FE_STATUS.SCL_LIVE, 0),
    (CHN_FE_STATUS.LSENSE_FB, 0)]

/-- The opening of an output but for its faults' conditions. -/
def State.openDrive (s : State) (u : Nat) : State :=
  let s := s.setFs (feB u) openMarks
  let s := s.modFe u fun f => { f with kind := .idle, drvTrip := true, mismatch := false }
  if u < 1024 then s.modEng u fun e => { e with stat := .z } else s

theorem State.openFe_eq (s : State) (u : Nat) : s.openFe u = ((s.openDrive u).sineKill u).outputOpened u := rfl

theorem State.getF_setFs_disj (s : State) (b : Nat) {f : Fld} {l : List (Fld × Nat)}
    (hl : ∀ e ∈ l, e.1.off = f.off ∧ (f.hi < e.1.lo ∨ e.1.hi < f.lo)) : (s.setFs b l).getF b f = s.getF b f :=
  foldl_keeps_mem (R := fun x => x.getF b f = s.getF b f) l rfl fun x e he g => (x.getF_setF_disj b e.1 f e.2 (hl e he).1 (hl e he).2).trans g

theorem State.sineKill_getF (s : State) (u : Nat) {f : Fld} (ho : f.off ≠ 0x40) : (s.sineKill u).getF (feB u) f = s.getF (feB u) f := by
  unfold State.sineKill
  rw [State.getF_modFe, State.getF_setF_off _ _ (f := CHN_SINE_CTRL.RUN) (Ne.symm ho), State.getF_setF_off _ _ (f := CHN_SINE_CTRL.EN) (Ne.symm ho)]

theorem State.openDrive_getF (s : State) (u b : Nat) (f : Fld) : (s.openDrive u).getF b f = (s.setFs (feB u) openMarks).getF b f := by
  unfold State.openDrive
  extract_lets s1 s2
  have h2 : s2.getF b f = s1.getF b f := s1.getF_modFe ..
  exact ite_keeps (R := fun x => x.getF b f = s1.getF b f) (fun _ => (s2.getF_modEng ..).trans h2) fun _ => h2

theorem State.openDrive_inst (s : State) (u k : Nat) : (s.openDrive u).inst k = s.inst k := by
  unfold State.openDrive
  extract_lets s1 s2
  have h1 : s1.inst k = s.inst k := foldl_keeps_mem (R := fun x => x.inst k = s.inst k) openMarks rfl fun x _ _ g => (x.inst_setF ..).trans g
  have h2 : s2.inst k = s.inst k := (s1.inst_modFe ..).trans h1
  exact ite_keeps (R := fun x => x.inst k = s.inst k) (fun _ => (s2.inst_modEng ..).trans h2) fun _ => h2

theorem State.openFe_status (s : State) (u : Nat) {f : Fld} (ho : f.off = 0x14) :
    (s.openFe u).getF (feB u) f = (s.setFs (feB u) openMarks).getF (feB u) f := by
  rw [State.openFe_eq, State.outputOpened_getF, State.sineKill_getF _ _ (by rw [ho]; decide), State.openDrive_getF]

theorem State.openFe_feOn (s : State) (u : Nat) : (s.openFe u).feOn u = false := by
  have e : (s.setFs (feB u) openMarks).getF (feB u) CHN_FE_STATUS.EN = (s.setF (feB u) CHN_FE_STATUS.EN 0).getF (feB u) CHN_FE_STATUS.EN := by
    rw [openMarks, State.setFs_cons]
    exact State.getF_setFs_disj _ _ (by decide)
  exact State.isSet_of_getF ((s.openFe_status u rfl).trans (e.trans (s.getF_setF_self (feB u) CHN_FE_STATUS.EN 0 (by decide))))

/-- Field f of CHN_FE_STATUS is none of those that the opening of an output or a trip writes. -/
def tripApart (f : Fld) : Prop :=
  (∀ e ∈ openMarks, e.1.off = f.off ∧ (f.hi < e.1.lo ∨ e.1.hi < f.lo)) ∧ (f.hi < CHN_FE_STATUS.TRIPPED.lo ∨ CHN_FE_STATUS.TRIPPED.hi < f.lo)

theorem Exact.openDrive (h : Exact w s z) (hr : w.regs (feB u + 0x14)) (hf : w.fes u) (he : w.engs u) : Exact w s (z.openDrive u) := by
  unfold State.openDrive
  extract_lets s1 s2
  have h1 : Exact w s s1 := h.setFs (by simpa [openMarks] using hr)
  have h2 : Exact w s s2 := h1.modFe _ hf (by exact fun _ e => e)
  exact .ite (fun _ => h2.modEng _ he) fun _ => h2

theorem Exact.sineKill (h : Exact w s z) (hr : w.regs (feB u + 0x40)) (hf : w.fes u) : Exact w s (z.sineKill u) := by
  have h1 : Exact w s (z.setF (feB u) CHN_SINE_CTRL.EN 0) := h.setF (f := CHN_SINE_CTRL.EN) 0 hr
  have h2 : Exact w s ((z.setF (feB u) CHN_SINE_CTRL.EN 0).setF (feB u) CHN_SINE_CTRL.RUN 0) := h1.setF (f := CHN_SINE_CTRL.RUN) 0 hr
  exact h2.modFe _ hf (by exact fun _ e => e)

/-! ### The trip of one channel -/

/-- A trip of front-end u, but for what a rotation makes of it. -/
def State.tripped (s : State) (u cls : Nat) : State := ((s.openFe u).setF (feB u) CHN_FE_STATUS.TRIPPED 1).abortBusy seqOps u cls

/-- w allows what a trip of front-end u may change. -/
structure Touch.Trip (w : Touch) (u : Nat) : Prop where
  regs : ∀ a, inFe u a → w.regs a
  fes : w.fes u
  engs : w.engs u
  insts : ∀ x l, w.parts { x with insts := l } = w.parts x

theorem Exact.tripped (h : Exact w s z) (hw : w.Trip u) (cls : Nat) : Exact w s (z.tripped u cls) := by
  have h14 : w.regs (feB u + 0x14) := hw.regs _ ⟨Nat.le_add_right _ _, by omega⟩
  have h40 : w.regs (feB u + 0x40) := hw.regs _ ⟨Nat.le_add_right _ _, by omega⟩
  have h1 : Exact w s (z.openFe u) := ((h.openDrive h14 hw.fes hw.engs).sineKill h40 hw.fes).outputOpened u hw.insts
  have h2 : Exact w s ((z.openFe u).setF (feB u) CHN_FE_STATUS.TRIPPED 1) := h1.setF (f := CHN_FE_STATUS.TRIPPED) 1 h14
  exact h2.mapCmds _ _

theorem State.tripped_status (s : State) (u cls : Nat) {f : Fld} (hf : tripApart f) : (s.tripped u cls).isSet (feB u) f = s.isSet (feB u) f := by
  obtain ⟨hl, hd⟩ := hf
  have ho : 0x14 = f.off := (hl (CHN_FE_STATUS.EN, 0) List.mem_cons_self).1
  have e1 : ((s.openFe u).setF (feB u) CHN_FE_STATUS.TRIPPED 1).getF (feB u) f = (s.openFe u).getF (feB u) f :=
    (s.openFe u).getF_setF_disj (feB u) CHN_FE_STATUS.TRIPPED f 1 ho hd
  exact State.isSet_of_getF (e1.trans ((s.openFe_status u ho.symm).trans (s.getF_setFs_disj (feB u) hl)))

theorem State.tripped_feOn (s : State) (u cls : Nat) : (s.tripped u cls).feOn u = false :=
  ((s.openFe u).isSet_setF_disj (feB u) CHN_FE_STATUS.TRIPPED CHN_FE_STATUS.EN 1 rfl (by decide)).trans (s.openFe_feOn u)

theorem State.tripped_mark (s : State) (u cls : Nat) : (s.tripped u cls).isSet (feB u) CHN_FE_STATUS.TRIPPED = true :=
  (s.openFe u).isSet_setF_self (feB u) CHN_FE_STATUS.TRIPPED 1 (by decide)

theorem State.tripped_inst (hu : u < 1024) (hc : cls = 0x01 ∨ cls = 0x03) (hf : (s.inst (instKey cls scCHANNEL u)).force = true) :
    (s.inst (instKey cls scCHANNEL u)).Like ((s.tripped u cls).inst (instKey cls scCHANNEL u)) ∧
      ((s.tripped u cls).inst (instKey cls scCHANNEL u)).cond = false := by
  have e : ((s.openDrive u).sineKill u).inst (instKey cls scCHANNEL u) = s.inst (instKey cls scCHANNEL u) :=
    s.openDrive_inst u (instKey cls scCHANNEL u)
  have h := ((s.openDrive u).sineKill u).outputOpened_inst hu hc (by rw [e]; exact hf)
  rw [e] at h
  exact h

/-- No rotation and no run is bound to channel u, and no shade serves it. -/
structure State.Unbound (s : State) (u : Nat) : Prop where
  lt : u < 1024
  phys : s.phys u = u
  rot : s.noRot [u]
  run : s.patRunning u = false

theorem State.Unbound.abandon (h : s.Unbound u) : s.abandonRotation u = s :=
  if_neg fun e => (h.rot u (List.mem_singleton.2 rfl)).elim (fun n => by rw [n] at e; exact Bool.false_ne_true e.1) fun n => n e.2

theorem State.phys_eq (h : z.isSet (feB u) CHN_FE_STATUS.REMAPPED = s.isSet (feB u) CHN_FE_STATUS.REMAPPED) : z.phys u = s.phys u := by
  unfold State.phys
  rw [h]

theorem Exact.rots (h : Exact w s z) (hr : ∀ x, (w.parts x).rots = x.rots) : z.rots = s.rots := by
  have hp := congrArg State.rots h.parts
  rw [hr, hr] at hp
  exact hp

/-- A state that differs in other parts, but not in REMAPPED or the run, leaves u unbound. -/
theorem State.Unbound.exact (h : s.Unbound u) (hx : Exact w s z) (hr : ∀ x, (w.parts x).rots = x.rots)
    (hm : z.isSet (feB u) CHN_FE_STATUS.REMAPPED = s.isSet (feB u) CHN_FE_STATUS.REMAPPED) (hs : ¬ w.regs (chB u + 0x304)) : z.Unbound u where
  lt := h.lt
  phys := (State.phys_eq hm).trans h.phys
  rot k hk := by
    have er : z.rot (shadeOf k) = s.rot (shadeOf k) := by
      unfold State.rot
      rw [hx.rots hr]
    rw [er]
    exact h.rot k hk
  run := by
    have e : z.engState u = s.engState u := congrArg CHN_SEQ_STATUS.STATE.get (hx.regs _ hs)
    unfold State.patRunning
    rw [e]
    exact h.run

/-- The touch of a trip of front-end u. -/
def tripTouch (u : Nat) : Touch :=
  { regs := inFe u, fes := fun x => x = u, engs := fun x => x = u, parts := fun x => { x with insts := [] } }

theorem tripTouch_trip (u : Nat) : (tripTouch u).Trip u := ⟨fun _ h => h, rfl, rfl, fun _ _ => rfl⟩

theorem chB_apart (hu : u < 1024) : ¬ inFe u (chB u + 0x304) := by
  unfold inFe feB
  rw [if_pos hu]
  omega

/-- The Amber action on a channel that nothing is bound to is its trip. -/
theorem State.Unbound.amberChannel (h : s.Unbound u) (cls : Nat) : s.amberChannel u cls = s.tripped u cls := by
  have ht : (s.tripped u cls).Unbound u := h.exact ((Exact.refl (tripTouch u) s).tripped (tripTouch_trip u) cls) (fun _ => rfl)
    (s.tripped_status u cls ⟨by decide, by decide⟩) (chB_apart h.lt)
  have e : s.tripFe u cls = s.tripped u cls := (if_pos h.lt).trans ht.abandon
  have er : (s.tripped u cls).faultRun u cls = s.tripped u cls := if_neg (by rw [ht.run]; exact Bool.false_ne_true)
  unfold State.amberChannel
  dsimp only
  rw [h.phys, e, ht.abandon, er]
  exact ite_self _

end Sys2Proof.Machine
end

section
/-! PROOFS. Clamps, the short-circuit limit, the Kelvin monitor (R36 to R39, R46). Settles O19. -/

namespace Sys2Proof.Machine

open Sys2Proof (Instr)

variable {w : Touch} {s z : State} {u cls : Nat}

/-! ### The marks in CHN_FE_STATUS -/

/-- Two marks of front-end u's status are set, in order. -/
def State.mark2 (s : State) (u : Nat) (f g : Fld) : State := s.setFs (feB u) [(f, 1), (g, 1)]

theorem State.mark2_regs (s : State) (u : Nat) {f g : Fld} (hf : f.off = 0x14) (hg : g.off = 0x14) :
    RegsBut (fun a => a = feB u + 0x14) s (s.mark2 u f g) :=
  (RegsBut.refl _ s).setFs (by simp [hf, hg])

theorem State.mark2_snd (s : State) (u : Nat) {f g : Fld} (hg : g.hi < 32) (h1 : 1 % 2 ^ (g.hi + 1 - g.lo) = 1) :
    (s.mark2 u f g).isSet (feB u) g = true := by
  have e := (s.setF (feB u) f 1).isSet_setF_self (feB u) g 1 hg
  rw [h1] at e
  exact e

theorem State.mark2_apart (s : State) (u : Nat) {f g x : Fld} (hl : ∀ e ∈ [(f, 1), (g, 1)], e.1.off = x.off ∧ (x.hi < e.1.lo ∨ e.1.hi < x.lo)) :
    (s.mark2 u f g).isSet (feB u) x = s.isSet (feB u) x := State.isSet_of_getF (s.getF_setFs_disj (feB u) hl)

/-- The unit whose conversions run on a front-end, and where its faults are raised, are not in its own registers. -/
theorem State.adcOf_eq (u : Fin 1056) (hr : z.rots = s.rots) (hrd : ∀ a, a < 0x800000 → z.rd a = s.rd a) : z.adcOf u = s.adcOf u := by
  have := u.isLt
  unfold State.adcOf
  rw [State.servedBy_eq hr hrd (by omega)]

theorem State.faultUnit_eq (u : Fin 1056) (hr : z.rots = s.rots) (hrd : ∀ a, a < 0x800000 → z.rd a = s.rd a) : z.faultUnit u = s.faultUnit u := by
  have := u.isLt
  unfold State.faultUnit
  rw [State.servedBy_eq hr hrd (by omega)]

theorem Exact.markConv (h : Exact w s z) {u : Nat} (c q : Bool) (ha : w.adcs (z.adcOf u)) : Exact w s (z.markConv u c q) := h.modAdc _ ha

/-! ### Clamps -/

theorem clampOn_row (u : Fin 1056) (hon : s.feOn u = true) (hc : (s.fe u).contact = none) : Completes (.clampAction u true) s fun t =>
    t.isSet (feB u) CHN_FE_STATUS.CLAMP = true ∧ t.isSet (feB u) CHN_FE_STATUS.CLAMPED = true ∧
    Frame { regs := fun a => a = feB u + CHN_FE_STATUS.CLAMP.off, adcs := fun x => x = s.adcOf u } s t := by
  have he : exec (.clampAction u true) s = done ((s.mark2 u CHN_FE_STATUS.CLAMP CHN_FE_STATUS.CLAMPED).markConv u true false) :=
    (if_neg (not_not.2 hon)).trans (if_pos rfl)
  have hr := s.mark2_regs u (f := CHN_FE_STATUS.CLAMP) (g := CHN_FE_STATUS.CLAMPED) rfl rfl
  have hsnd := s.mark2_snd u (f := CHN_FE_STATUS.CLAMP) (g := CHN_FE_STATUS.CLAMPED) (by decide) rfl
  have hfst : (s.mark2 u CHN_FE_STATUS.CLAMP CHN_FE_STATUS.CLAMPED).isSet (feB u) CHN_FE_STATUS.CLAMP = true :=
    ((s.setF (feB u) CHN_FE_STATUS.CLAMP 1).isSet_setF_disj (feB u) CHN_FE_STATUS.CLAMPED CHN_FE_STATUS.CLAMP 1 rfl (by decide)).trans
      (s.isSet_setF_self (feB u) CHN_FE_STATUS.CLAMP 1 (by decide))
  have hx : Exact { regs := fun a => a = feB u + 0x14, adcs := fun x => x = s.adcOf u } s
      ((s.mark2 u CHN_FE_STATUS.CLAMP CHN_FE_STATUS.CLAMPED).markConv u true false) :=
    (hr.exact fun _ h => h).markConv true false (State.adcOf_eq u hr.rots fun a ha => hr.rd a (lt_feB ha _))
  have hzc := hx.con u hc
  exact completes_done he ⟨(State.settled_feSet hzc (by decide) (by decide)).trans ((State.isSet_modAdc ..).trans hfst),
    (State.settled_feSet hzc (by decide) (by decide)).trans ((State.isSet_modAdc ..).trans hsnd), hx.settled⟩

theorem clampOff_row (u : Fin 1056) (hon : s.feOn u = true) (hc : (s.fe u).contact = none) : Completes (.clampAction u false) s fun t =>
    t.isSet (feB u) CHN_FE_STATUS.CLAMP = false ∧ t.getF (feB u) CHN_FE_STATUS.CLAMPED = s.getF (feB u) CHN_FE_STATUS.CLAMPED ∧
    Frame { regs := fun a => a = feB u + CHN_FE_STATUS.CLAMP.off } s t := by
  have he : exec (.clampAction u false) s = done (s.setF (feB u) CHN_FE_STATUS.CLAMP 0) :=
    (if_neg (not_not.2 hon)).trans (if_neg Bool.false_ne_true)
  have hx : Exact { regs := fun a => a = feB u + 0x14 } s (s.setF (feB u) CHN_FE_STATUS.CLAMP 0) := (Exact.refl _ s).setF 0 rfl
  have hzc := hx.con u hc
  exact completes_done he ⟨(State.settled_feSet hzc (by decide) (by decide)).trans (s.isSet_setF_self (feB u) CHN_FE_STATUS.CLAMP 0 (by decide)),
    (State.settled_feF hzc (by decide) (by decide)).trans (s.getF_setF_disj (feB u) CHN_FE_STATUS.CLAMP CHN_FE_STATUS.CLAMPED 0 rfl (by decide)),
    hx.settled⟩

/-! ### The detections -/

/-- The limit marks the front-end and the conversion in its sampling. -/
def State.limitMark (s : State) (u : Nat) : State := (s.mark2 u CHN_FE_STATUS.SCL_LIVE CHN_FE_STATUS.SCL).markConv u true false

/-- The Kelvin monitor marks the fallback to local sense. -/
def State.kelvinMark (s : State) (u : Nat) : State :=
  (s.mark2 u CHN_FE_STATUS.LSENSE_FB CHN_FE_STATUS.KMON_TRIP).modFe u fun f => { f with mismatch := true }

theorem shortCircuit_exec (u : Fin 1056) (hon : s.feOn u = true) :
    exec (.shortCircuitLimit u) s = done ((s.limitMark u).detectFe 0x01 u ((s.limitMark u).getF (feB u) CHN_FE_CFG.IRANGE)) :=
  if_neg (not_not.2 hon)

theorem kelvin_exec (u : Fin 1056) {mv : Int} {dur : Nat} (ha : s.kelvinActive u = true) (hs : s.kelvinActs u mv dur = true) :
    exec (.kelvinMonitorTrip u (mv, dur)) s = done ((s.kelvinMark u).detectFe 0x03 u (unsigned 16 mv)) :=
  if_neg fun h => h.elim (fun n => n ha) fun n => n hs

/-- What the marks of front-end u may change; v's conversion is marked with them. -/
def markTouch (u v : Nat) : Touch := { regs := fun a => a = feB u + 0x14, fes := fun x => x = u, adcs := fun x => x = v }

theorem State.limitMark_exact (s : State) (u : Fin 1056) : Exact (markTouch u (s.adcOf u)) s (s.limitMark u) :=
  have hr := s.mark2_regs u (f := CHN_FE_STATUS.SCL_LIVE) (g := CHN_FE_STATUS.SCL) rfl rfl
  (hr.exact fun _ h => h).markConv true false (State.adcOf_eq u hr.rots fun a ha => hr.rd a (lt_feB ha _))

theorem State.kelvinMark_exact (s : State) (u : Nat) : Exact (markTouch u u) s (s.kelvinMark u) :=
  have hr := s.mark2_regs u (f := CHN_FE_STATUS.LSENSE_FB) (g := CHN_FE_STATUS.KMON_TRIP) rfl rfl
  (hr.exact (w := markTouch u u) fun _ h => h).modFe _ rfl (by exact fun _ e => e)

theorem Exact.mark_faultUnit {u : Fin 1056} {v : Nat} (h : Exact (markTouch u v) s z) : z.faultUnit u = s.faultUnit u :=
  State.faultUnit_eq u (h.rots fun _ => rfl) fun a ha => h.regs a (lt_feB ha _)

/-- A detection at a marked front-end is in force with its DETAIL. -/
theorem Exact.mark_detect {u : Fin 1056} {v : Nat} (h : Exact (markTouch u v) s z) (cls d : Nat) :
    ((z.detectFe cls u d).settled.inst (instKey cls (s.faultUnit u).1 (s.faultUnit u).2)).shows d := by
  rw [State.settled_inst, ← h.mark_faultUnit]
  exact z.detectAt_shows _ _ _ _ _ _

theorem shortCircuit_row (u : Fin 1056) (hon : s.feOn u = true) : Completes (.shortCircuitLimit u) s fun t =>
    (t.inst (instKey 0x01 (s.faultUnit u).1 (s.faultUnit u).2)).shows (s.getF (feB u) CHN_FE_CFG.IRANGE) := by
  have hx := s.limitMark_exact u
  have hd : (s.limitMark u).getF (feB u) CHN_FE_CFG.IRANGE = s.getF (feB u) CHN_FE_CFG.IRANGE :=
    congrArg CHN_FE_CFG.IRANGE.get (hx.regs _ fun e => absurd (Nat.add_left_cancel e) (by decide))
  refine completes_done (shortCircuit_exec u hon) ?_
  rw [hd]
  exact hx.mark_detect 0x01 _

theorem kelvin_row (u : Fin 1056) {mv : Int} {dur : Nat} (ha : s.kelvinActive u = true) (hs : s.kelvinActs u mv dur = true) :
    Completes (.kelvinMonitorTrip u (mv, dur)) s fun t => (t.inst (instKey 0x03 (s.faultUnit u).1 (s.faultUnit u).2)).shows (unsigned 16 mv) :=
  completes_done (kelvin_exec u ha hs) ((s.kelvinMark_exact u).mark_detect 0x03 _)

theorem kelvinIdle_row (u : Fin 1056) (mv : Int) (dur : Nat) (h : s.kelvinActive u = false ∨ s.kelvinActs u mv dur = false) :
    Completes (.kelvinMonitorTrip u (mv, dur)) s (Frame {} s) := by
  have he : exec (.kelvinMonitorTrip u (mv, dur)) s = done s :=
    if_pos (h.imp (fun e => by rw [e]; exact Bool.false_ne_true) fun e => by rw [e]; exact Bool.false_ne_true)
  exact completes_done he (Exact.refl _ s).settled

/-! ### The ends of the conditions -/

theorem shortCircuitRelease_row (u : Fin 1056) (k : Nat) (hk : k = instKey 0x01 (s.faultUnit u).1 (s.faultUnit u).2)
    (hc : (s.fe u).contact = none) : Completes (.shortCircuitRelease u) s fun t =>
    t.isSet (feB u) CHN_FE_STATUS.SCL_LIVE = false ∧ (∀ n, n ≠ k → t.inst n = s.inst n) ∧ ((s.inst k).force = true → (t.inst k).cond = false) ∧
    Frame { regs := fun a => a = feB u + CHN_FE_STATUS.SCL_LIVE.off, parts := fun x => { x with insts := [] } } s t := by
  subst hk
  have hx : Exact { regs := fun a => a = feB u + 0x14, parts := fun x => { x with insts := [] } } s
      ((s.setF (feB u) CHN_FE_STATUS.SCL_LIVE 0).condEnd 0x01 (s.faultUnit u).1 (s.faultUnit u).2) :=
    ((Exact.refl _ s).setF 0 rfl).condEnd _ _ _ fun _ _ => rfl
  have hzc := hx.con u hc
  refine completes_done rfl ⟨?_, fun n hn => ?_, fun hf => ?_, hx.settled⟩
  · exact (State.settled_feSet hzc (by decide) (by decide)).trans ((State.condEnd_isSet ..).trans
      (s.isSet_setF_self (feB u) CHN_FE_STATUS.SCL_LIVE 0 (by decide)))
  · exact (State.settled_inst _ _).trans (State.condEnd_inst_ne _ hn)
  · rw [State.settled_inst]
    exact State.condEnd_cond (s := s.setF (feB u) CHN_FE_STATUS.SCL_LIVE 0) hf

theorem kelvinMismatchEnd_row (u : Fin 1056) (k : Nat) (hk : k = instKey 0x03 (s.faultUnit u).1 (s.faultUnit u).2)
    (hc : (s.fe u).contact = none) (hm : (s.fe u).mismatch = true) : Completes (.kelvinMismatchEnd u) s fun t =>
    (t.fe u).mismatch = false ∧ (∀ n, n ≠ k → t.inst n = s.inst n) ∧ ((s.inst k).force = true → (t.inst k).cond = false) ∧
    Frame { fes := fun x => x = u, parts := fun x => { x with insts := [] } } s t := by
  subst hk
  have he : exec (.kelvinMismatchEnd u) s =
      done ((s.modFe u fun f => { f with mismatch := false }).condEnd 0x03 (s.faultUnit u).1 (s.faultUnit u).2) := if_neg (not_not.2 hm)
  have h1 : Exact { fes := fun x => x = u.val, parts := fun x => { x with insts := [] } } s (s.modFe u fun f => { f with mismatch := false }) :=
    (Exact.refl _ s).modFe _ rfl (by exact fun _ e => e)
  have hx := h1.condEnd 0x03 (s.faultUnit u).1 (s.faultUnit u).2 fun _ _ => rfl
  have hfe : ((s.modFe u fun f => { f with mismatch := false }).condEnd 0x03 (s.faultUnit u).1 (s.faultUnit u).2).fe u =
      (s.modFe u fun f => { f with mismatch := false }).fe u :=
    ite_keeps (R := fun x => x.fe u = (s.modFe u fun f => { f with mismatch := false }).fe u) (fun _ => rfl) fun _ => rfl
  refine completes_done he ⟨?_, fun n hn => ?_, fun hf => ?_, hx.settled⟩
  · rw [State.settled_fe (hx.con u hc), hfe, State.fe_modFe_self]
  · exact (State.settled_inst _ _).trans (State.condEnd_inst_ne _ hn)
  · rw [State.settled_inst]
    exact State.condEnd_cond (s := s.modFe u fun f => { f with mismatch := false }) hf

/-! ### The Amber trip -/

/-- A first detection at channel u, entered at Amber with the record i, before the level's action. -/
def State.amberAt (s : State) (cls u : Nat) (i : Inst) (d : Nat) : State :=
  let s := s.incSat (4 * cls) FLT_CLASS.DCNT 1
  let s := { s with lastCls := tabSet (fun _ => 0) s.lastCls (scCHANNEL * 2048 + u) cls }
  (s.setInst (instKey cls scCHANNEL u) i).bbRecord (instKey cls scCHANNEL u) 0 1 d

/-- The action of Amber at a channel's scope. -/
theorem State.levelAction_amber (s : State) (cls : Nat) (hu : u < 1024) : s.levelAction (instKey cls scCHANNEL u) 1 = s.amberChannel u cls := by
  have hk : keyCls (instKey cls scCHANNEL u) = cls ∧ keyScope (instKey cls scCHANNEL u) = scCHANNEL ∧ keyUnit (instKey cls scCHANNEL u) = u := by
    unfold keyCls keyScope keyUnit instKey scCHANNEL
    omega
  obtain ⟨hcls, hscope, hunit⟩ := hk
  unfold State.levelAction
  dsimp only
  rw [if_neg (by decide), if_neg (by decide), if_pos rfl, if_pos hscope, hcls, hunit]

theorem State.Unbound.detectFe (h : s.Unbound u) (d : Nat) (hf : (s.inst (instKey cls scCHANNEL u)).force = false)
    (hl : s.getF (4 * cls) FLT_CLASS.LEVEL = 1) : ∃ i : Inst, i.force = true ∧ i.level = 1 ∧ i.unack = true ∧
      s.detectFe cls u d = (s.amberAt cls u i d).amberChannel u cls := by
  have hu : s.faultUnit u = (scCHANNEL, u) := if_pos h.lt
  unfold State.detectFe State.detect
  rw [hu]
  dsimp only
  rw [hl]
  unfold State.detectAt
  extract_lets k i s1 s2 now
  rw [if_pos (by rw [Bool.not_eq_true]; exact hf)]
  unfold State.enterLevel
  extract_lets s3 s4
  have h4 : s4 = s3.bbRecord k 0 1 d := if_pos (Or.inl Nat.one_ne_zero)
  rw [h4, State.levelAction_amber _ _ h.lt]
  exact ⟨_, rfl, rfl, rfl, rfl⟩

theorem State.amberAt_inst (s : State) (cls u : Nat) (i : Inst) (d : Nat) : (s.amberAt cls u i d).inst (instKey cls scCHANNEL u) = i := by
  unfold State.amberAt
  rw [State.bbRecord_inst, State.inst_setInst_self]

theorem Exact.amberAt (h : Exact w s z) (hw : w.Pale cls) (u : Nat) (i : Inst) (d : Nat) : Exact w s (z.amberAt cls u i d) := by
  unfold State.amberAt
  extract_lets s1 s2
  have h1 : Exact w s s1 := h.incSat 1 hw.dcnt
  have h2 : Exact w s s2 := h1.set_lastCls _ hw.lastCls
  have h3 : Exact w s (s2.setInst (instKey cls scCHANNEL u) i) := h2.setInst _ _ hw.insts
  exact h3.bbRecord _ _ _ _ hw.box hw.bbStage

theorem State.rd_lastCls (s : State) (l : List (Nat × Nat)) (a : Nat) : State.rd { s with lastCls := l } a = s.rd a := rfl

theorem State.bbRecord_rd (s : State) (k why level d : Nat) {a : Nat} (ha : a ≠ 0x300024) : (s.bbRecord k why level d).rd a = s.rd a :=
  have h : Exact { regs := fun a => a = 0x300024, parts := fun x => { x with bbStage := [] } } s (s.bbRecord k why level d) :=
    (Exact.refl _ s).bbRecord k why level d rfl fun _ _ => rfl
  h.regs a ha

/-- The counter of the class counts one more, up to its end. -/
theorem State.amberAt_dcnt (s : State) (cls u : Nat) (i : Inst) (d : Nat) :
    (s.amberAt cls u i d).getF (4 * cls) FLT_CLASS.DCNT = min (s.getF (4 * cls) FLT_CLASS.DCNT + 1) 65535 := by
  unfold State.amberAt
  extract_lets s1 s2
  have hne : 4 * cls + FLT_CLASS.DCNT.off ≠ 0x300024 := by
    dsimp only
    omega
  have hb := congrArg FLT_CLASS.DCNT.get ((s2.setInst (instKey cls scCHANNEL u) i).bbRecord_rd (instKey cls scCHANNEL u) 0 1 d hne)
  have h1 : s2.rd (4 * cls + FLT_CLASS.DCNT.off) = s1.rd (4 * cls + FLT_CLASS.DCNT.off) := s1.rd_lastCls _ _
  rw [State.rd_setInst, h1] at hb
  refine hb.trans ?_
  refine (s.getF_setF_self (4 * cls) FLT_CLASS.DCNT _ (by decide)).trans (Nat.mod_eq_of_lt ?_)
  show min (s.getF (4 * cls) FLT_CLASS.DCNT + 1) (2 ^ 16 - 1) < 2 ^ 16
  omega

theorem State.amberAt_paleTouch (s : State) (cls u : Nat) (i : Inst) (d : Nat) : Exact (paleTouch cls) s (s.amberAt cls u i d) :=
  have hw : (paleTouch cls).Pale cls := ⟨Or.inl rfl, Or.inr rfl, fun _ _ => rfl, fun _ _ => rfl, fun _ _ => rfl⟩
  (Exact.refl _ s).amberAt hw u i d

/-- A class's registers lie below the front-ends'. -/
theorem dcnt_low (hc : cls = 0x01 ∨ cls = 0x03) : 4 * cls + FLT_CLASS.DCNT.off < 0x800000 := by
  dsimp only
  omega

theorem paleTouch_feB (hc : cls = 0x01 ∨ cls = 0x03) (o : Nat) : ¬ (paleTouch cls).regs (feB u + o) :=
  not_or.2 ⟨(lt_feB (dcnt_low hc) o).symm, (lt_feB (by decide) o).symm⟩

/-- Before the level's action the front-end's block stands as it was. -/
theorem State.amberAt_isSet (s : State) (hc : cls = 0x01 ∨ cls = 0x03) (i : Inst) (d : Nat) (f : Fld) :
    (s.amberAt cls u i d).isSet (feB u) f = s.isSet (feB u) f :=
  State.isSet_of_getF (congrArg f.get ((s.amberAt_paleTouch cls u i d).regs _ (paleTouch_feB hc _)))

theorem State.Unbound.amberAt (h : s.Unbound u) (hc : cls = 0x01 ∨ cls = 0x03) (i : Inst) (d : Nat) : (s.amberAt cls u i d).Unbound u := by
  refine h.exact (s.amberAt_paleTouch cls u i d) (fun _ => rfl) (s.amberAt_isSet hc i d _) ?_
  have e := paleTouch_feB (u := u) hc 0x304
  unfold feB at e
  rw [if_pos h.lt] at e
  exact e

theorem lt_inFe {a : Nat} (h : a < 0x800000) : ¬ inFe u a := fun e => lt_feB h (a - feB u) (Nat.add_sub_of_le e.1).symm

/-- A trip leaves its class's counter. -/
theorem State.tripped_dcnt (s : State) (u : Nat) (hc : cls = 0x01 ∨ cls = 0x03) :
    (s.tripped u cls).settled.getF (4 * cls) FLT_CLASS.DCNT = s.getF (4 * cls) FLT_CLASS.DCNT := by
  have hf : follows (4 * cls + FLT_CLASS.DCNT.off) = false := by
    obtain rfl | rfl := hc
    all_goals decide
  have hr : (s.tripped u cls).rd (4 * cls + FLT_CLASS.DCNT.off) = s.rd (4 * cls + FLT_CLASS.DCNT.off) :=
    ((Exact.refl (tripTouch u) s).tripped (tripTouch_trip u) cls).regs _ (lt_inFe (dcnt_low hc))
  exact (State.settled_getF _ hf).trans (congrArg FLT_CLASS.DCNT.get hr)

/-- What an Amber trip of channel u by a fault of class cls may change. -/
def amberTouch (u cls : Nat) : Touch :=
  { regs := fun a => inFe u a ∨ a = FLT_CLASS.DCNT.off + 4 * cls ∨ a = FLT_BB_STATUS.LOST.off, fes := fun x => x = u, adcs := fun x => x = u,
    engs := fun x => x = u, parts := fun x => { x with insts := [], lastCls := [], bbStage := [] } }

theorem amberTouch_pale (u cls : Nat) : (amberTouch u cls).Pale cls :=
  ⟨Or.inr (Or.inl (Nat.add_comm _ _)), Or.inr (Or.inr (Nat.zero_add _)), fun _ _ => rfl, fun _ _ => rfl, fun _ _ => rfl⟩

theorem amberTouch_trip (u cls : Nat) : (amberTouch u cls).Trip u := ⟨fun _ h => Or.inl h, rfl, rfl, fun _ _ => rfl⟩

/-- What marks may change, an Amber trip may. -/
theorem Exact.mark_amber (h : Exact (markTouch u u) s z) (cls : Nat) : Exact (amberTouch u cls) s z :=
  { h with
    regs := fun a ha => h.regs a fun e => ha (Or.inl (by rw [e]; exact ⟨Nat.le_add_right _ _, by omega⟩))
    engs := fun c _ => h.engs c not_false
    parts := congrArg (amberTouch u cls).parts h.parts }

theorem Exact.mark_inst (h : Exact (markTouch u u) s z) (k : Nat) : z.inst k = s.inst k := by
  have hparts : z.parts.insts = s.parts.insts := congrArg State.insts h.parts
  have hinsts : z.insts = s.insts := hparts
  unfold State.inst
  rw [hinsts]

theorem Exact.mark_unbound (h : Exact (markTouch u u) s z) (hs : s.Unbound u)
    (hm : z.isSet (feB u) CHN_FE_STATUS.REMAPPED = s.isSet (feB u) CHN_FE_STATUS.REMAPPED) : z.Unbound u :=
  hs.exact h (fun _ => rfl) hm fun e => chB_apart hs.lt (by rw [e]; exact ⟨Nat.le_add_right _ _, by omega⟩)

/-- What a state shows after an Amber trip of channel u by class cls, reached from s. -/
structure State.ShowsTrip (s t : State) (u cls : Nat) : Prop where
  feOn : t.feOn u = false
  tripped : t.isSet (feB u) CHN_FE_STATUS.TRIPPED = true
  force : (t.inst (instKey cls scCHANNEL u)).force = true
  level : (t.inst (instKey cls scCHANNEL u)).level = 1
  unack : (t.inst (instKey cls scCHANNEL u)).unack = true
  cond : (t.inst (instKey cls scCHANNEL u)).cond = false
  dcnt : t.getF (4 * cls) FLT_CLASS.DCNT = min (s.getF (4 * cls) FLT_CLASS.DCNT + 1) 65535
  frame : Frame (amberTouch u cls) s t

/-- A detection at Amber at a marked channel that nothing is bound to trips that channel alone and leaves the mark f. -/
theorem Exact.mark_trip (hx : Exact (markTouch u u) s z) (hs : s.Unbound u) (hc : cls = 0x01 ∨ cls = 0x03)
    (hm : z.isSet (feB u) CHN_FE_STATUS.REMAPPED = s.isSet (feB u) CHN_FE_STATUS.REMAPPED)
    (hf : (s.inst (instKey cls scCHANNEL u)).force = false) (hl : s.getF (4 * cls) FLT_CLASS.LEVEL = 1) (hn : (s.fe u).contact = none)
    (d : Nat) {f : Fld} (ha : tripApart f) (hset : z.isSet (feB u) f = true) :
    s.ShowsTrip (z.detectFe cls u d).settled u cls ∧ (z.detectFe cls u d).settled.isSet (feB u) f = true := by
  have hrd : z.rd (4 * cls + FLT_CLASS.DCNT.off) = s.rd (4 * cls + FLT_CLASS.DCNT.off) := hx.regs _ (lt_feB (dcnt_low hc) _)
  have hzf : (z.inst (instKey cls scCHANNEL u)).force = false := by
    rw [hx.mark_inst]
    exact hf
  obtain ⟨i, hif, hil, hiu, he⟩ := (hx.mark_unbound hs hm).detectFe d hzf ((congrArg FLT_CLASS.LEVEL.get hrd).trans hl)
  have hyu := (hx.mark_unbound hs hm).amberAt hc i d
  have hyset := (z.amberAt_isSet (u := u) hc i d f).trans hset
  have hyi := z.amberAt_inst cls u i d
  have hyd : (z.amberAt cls u i d).getF (4 * cls) FLT_CLASS.DCNT = min (s.getF (4 * cls) FLT_CLASS.DCNT + 1) 65535 := by
    rw [z.amberAt_dcnt, show z.getF (4 * cls) FLT_CLASS.DCNT = s.getF (4 * cls) FLT_CLASS.DCNT from congrArg FLT_CLASS.DCNT.get hrd]
  have hyx := (hx.mark_amber cls).amberAt (amberTouch_pale u cls) u i d
  rw [he, hyu.amberChannel]
  generalize z.amberAt cls u i d = y at hyset hyi hyd hyx
  have htx := hyx.tripped (amberTouch_trip u cls) cls
  have htc := htx.con u hn
  obtain ⟨⟨htf, htl, htu⟩, htcond⟩ := State.tripped_inst hs.lt hc (by rw [hyi]; exact hif)
  rw [hyi, ← State.settled_inst] at htf htl htu
  rw [← State.settled_inst] at htcond
  have ho : f.off = 0x14 := (ha.1 (CHN_FE_STATUS.EN, 0) List.mem_cons_self).1.symm
  have hset' := (State.settled_feSet htc (by rw [ho]; decide) (by rw [ho]; decide)).trans ((y.tripped_status u cls ha).trans hyset)
  exact ⟨{ feOn := (State.settled_feSet htc (by decide) (by decide)).trans (y.tripped_feOn u cls)
           tripped := (State.settled_feSet htc (by decide) (by decide)).trans (y.tripped_mark u cls)
           force := htf.trans hif
           level := htl.trans hil
           unack := htu.trans hiu
           cond := htcond
           dcnt := (y.tripped_dcnt u hc).trans hyd
           frame := htx.settled }, hset'⟩

/-- SHORT_CIRCUIT_LIMIT at Amber. -/
theorem shortCircuit_trip (u : Fin 1056) (hs : s.Unbound u) (hf : (s.inst (instKey 0x01 scCHANNEL u)).force = false)
    (hl : s.getF (4 * 0x01) FLT_CLASS.LEVEL = 1) (hn : (s.fe u).contact = none) (hon : s.feOn u = true) :
    Completes (.shortCircuitLimit u) s fun t => s.ShowsTrip t u 0x01 ∧ t.isSet (feB u) CHN_FE_STATUS.SCL = true := by
  have hx := s.limitMark_exact u
  rw [show s.adcOf u = u from if_neg (Nat.not_le.2 hs.lt)] at hx
  exact completes_done (shortCircuit_exec u hon) (hx.mark_trip hs (Or.inl rfl) (s.mark2_apart u (by decide)) hf hl hn _
    ⟨by decide, by decide⟩ (s.mark2_snd u (by decide) rfl))

/-- KELVIN_MONITOR_TRIP at Amber. -/
theorem kelvin_trip (u : Fin 1056) {mv : Int} {dur : Nat} (hs : s.Unbound u) (hf : (s.inst (instKey 0x03 scCHANNEL u)).force = false)
    (hl : s.getF (4 * 0x03) FLT_CLASS.LEVEL = 1) (hn : (s.fe u).contact = none) (ha : s.kelvinActive u = true)
    (hk : s.kelvinActs u mv dur = true) :
    Completes (.kelvinMonitorTrip u (mv, dur)) s fun t => s.ShowsTrip t u 0x03 ∧ t.isSet (feB u) CHN_FE_STATUS.KMON_TRIP = true :=
  completes_done (kelvin_exec u ha hk) ((s.kelvinMark_exact u).mark_trip hs (Or.inr rfl) (s.mark2_apart u (by decide)) hf hl hn _
    ⟨by decide, by decide⟩ (s.mark2_snd u (by decide) rfl))

/-- Settles O19: an Amber detection at a channel that no rotation and no run is bound to trips that channel alone, and opening its output ends
the condition that raised it; the other events set or clear their marks. -/
theorem protectionRows : Obligations.ProtectionRows := by
  intro u s k cls
  refine ⟨clampOn_row u, clampOff_row u, ?_, ?_, fun mv dur => kelvinIdle_row u mv dur, shortCircuitRelease_row u _ rfl,
    kelvinMismatchEnd_row u _ rfl⟩
  · rintro mv dur rfl
    exact ⟨by rintro rfl hon; exact shortCircuit_row u hon, by rintro rfl ha hk; exact kelvin_row u ha hk⟩
  · rintro mv dur hlt hp hr hrun rfl hf hl hn i w hi rfl
    have hs : s.Unbound u := ⟨hlt, hp, hr, hrun⟩
    obtain ⟨rfl, hon, rfl⟩ | ⟨rfl, ha, hk, rfl⟩ := hi
    · obtain ⟨t, ht, h, hm⟩ := shortCircuit_trip u hs hf hl hn hon
      exact ⟨t, ht, h.feOn, h.tripped, h.force, h.level, h.unack, h.cond, h.dcnt, fun _ => hm, fun e => absurd e (by decide), h.frame⟩
    · obtain ⟨t, ht, h, hm⟩ := kelvin_trip u hs hf hl hn ha hk
      exact ⟨t, ht, h.feOn, h.tripped, h.force, h.level, h.unack, h.cond, h.dcnt, fun e => absurd e (by decide), fun _ => hm, h.frame⟩

end Sys2Proof.Machine
end

section
/-! SUPPORT. What the work of converters can do (R63, R64, R68 to R71): it touches registers that follow a command, the converters
themselves, an engine's hold, and what started commands wait for. -/

namespace Sys2Proof.Machine

open Sys2Proof (Instr)

/-- Command c answers to r, waits to be started, and completes. -/
structure Cmd.Awaits (r : CmdRef) (c : Cmd) : Prop where
  ref : c.isRef r = true
  started : c.started = false
  ending : c.ending = none
  vanish : c.vanish = false

/-- A command that answers to r waits to be started. -/
def State.Awaits (s : State) (r : CmdRef) : Prop := ∃ c ∈ s.cmds, c.Awaits r

/-- Converter b is a after some work: its results stand, and no handback has become due. -/
structure Adc.Goes (a b : Adc) : Prop where
  results : b.results = a.results
  hold : a.hold ≠ 3 → b.hold ≠ 3

theorem Adc.Goes.trans {a b c : Adc} (h : a.Goes b) (g : b.Goes c) : a.Goes c := ⟨g.results.trans h.results, fun e => g.hold (h.hold e)⟩

theorem State.waitMet_adcs (s : State) (c k : Nat) : (s.waitMet c k).adcs = s.adcs ∧ (s.waitMet c k).cmds = s.cmds := by
  unfold State.waitMet
  split
  · split
    · exact ⟨State.setF_adcs .., State.setF_cmds ..⟩
    · exact ⟨rfl, rfl⟩
  · exact ⟨rfl, rfl⟩

theorem State.setRdy_adcs (s : State) (u : Nat) : (s.setRdy u).adcs = s.adcs ∧ (s.setRdy u).cmds = s.cmds :=
  ite_keeps (R := fun x => x.adcs = s.adcs ∧ x.cmds = s.cmds) (fun _ => State.waitMet_adcs _ u 1) fun _ => ⟨rfl, rfl⟩

theorem State.adcShow_adcs (s : State) (u : Nat) : (s.adcShow u).adcs = s.adcs := by
  simp only [State.adcShow, State.setFs_cons, State.setFs_nil, State.setF_adcs]

@[simp] theorem State.adcShow_adc (s : State) (u v : Nat) : (s.adcShow u).adc v = s.adc v := by
  unfold State.adc
  rw [State.adcShow_adcs]

theorem kicks_of_follows {a : Nat} (h : follows a = false) : kicks a = false := by
  unfold follows at h
  unfold kicks
  rw [decide_eq_false_iff_not] at h ⊢
  omega

theorem feB_kicks_false (u : Nat) {o : Nat} (ho : o < 0x100) : kicks (feB u + o) = false := by
  unfold kicks feB chB shB tileBase
  rw [decide_eq_false_iff_not]
  split <;> omega

/-- Work of converters touches neither memories nor front-ends, ports or hidden parts. -/
theorem State.AdcStep.stands {z t : State} (h : z.AdcStep t) : (∀ v, t.fe v = z.fe v) ∧ t.sram = z.sram ∧ t.flash = z.flash ∧ t.host = z.host ∧
    (∀ p, t.port p = z.port p) ∧ t.parts = z.parts := by
  obtain ⟨_, _, _, _, rfl⟩ := h
  exact ⟨fun _ => rfl, rfl, rfl, rfl, fun _ => rfl, rfl⟩

/-- After a step that touches no more than w, work that touches no other converters than those that w names is in w's frame. -/
theorem State.AdcStep.frame {w : Touch} {s z t : State} (hx : Exact w s z) (h : z.AdcStep t) (g : z.Kicks t)
    (hs : ∀ u, ¬ w.adcs u → t.adc u = z.adc u) : Frame w s t.settled := by
  obtain ⟨hfe, hsram, hflash, hhost, hport, hparts⟩ := h.stands
  have hcon (v : Nat) (hc : (s.fe v).contact = none) : (t.fe v).contact = none := by
    rw [hfe]
    exact hx.con v hc
  exact
    { regs := fun x hw hf => (t.settled_rd hf).trans ((g.rd x (kicks_of_follows hf)).trans (hx.regs x hw))
      status := fun hw i hi => (t.settled_status hi).trans (by rw [g.rd 0x10 (by decide), hx.regs _ hw])
      sram := fun x hw => by
        unfold State.sramByte
        rw [t.settled_sram, hsram]
        exact hx.sram x hw
      flash := fun x hw => by
        unfold State.flashByte
        rw [t.settled_flash, hflash]
        exact hx.flash x hw
      host := fun x hw => by
        unfold State.hostByte
        rw [t.settled_host, hhost]
        exact hx.host x hw
      fes := fun v hw hc => by
        refine ⟨(State.settled_fe (hcon v hc)).trans ((hfe v).trans (hx.fes v hw)), fun o ho hr => ?_⟩
        have hk := feB_kicks_false v (o := o) (by omega)
        exact (State.settled_feRd (hcon v hc) (by omega) hk).trans ((g.rd _ hk).trans (hx.regs _ hr))
      adcs := fun v hw hr hc => by
        have e : t.adc v = s.adc v := (hs v hw).trans (hx.adcs v hw)
        refine (State.settled_adc ?_ fun x hxv => hcon x (hc x hxv)).trans e
        unfold State.adcRests at hr ⊢
        rw [e]
        exact hr
      engs := fun x hw hc => (State.settled_engStill (hcon x hc)).trans ((g.eng x).1.trans (by rw [hx.engs x hw]))
      ports := fun x hw => (t.settled_port x).trans (by rw [hport, hx.ports x hw])
      parts := by
        rw [t.settled_parts, hparts]
        exact hx.parts }

/-- t is z after work of the converters that p names; on: a sequence may have started. -/
structure State.AdcWork (p : Nat → Prop) (on : Prop) (z t : State) : Prop where
  step : z.AdcStep t
  kicks : z.Kicks t
  settles : z.Settles t
  same : ∀ u, ¬ p u → t.adc u = z.adc u
  goes : ∀ u, (z.adc u).Goes (t.adc u)
  idle : ¬ on → ∀ u, (z.adc u).running = false → (t.adc u).running = false
  awaits : ∀ r, z.Awaits r → t.Awaits r

namespace State.AdcWork

variable {p : Nat → Prop} {on : Prop} {s z : State} {u : Nat}

theorem refl (p : Nat → Prop) (on : Prop) (s : State) : AdcWork p on s s where
  step := .refl s
  kicks := .refl s
  settles := .refl s
  same _ _ := rfl
  goes _ := ⟨rfl, id⟩
  idle _ _ := id
  awaits _ := id

theorem ite {c : Prop} [Decidable c] {a b : State} (ha : c → AdcWork p on s a) (hb : ¬ c → AdcWork p on s b) :
    AdcWork p on s (if c then a else b) := ite_keeps ha hb

/-! ### One update -/

theorem fe (h : AdcWork p on s z) (u : Nat) (f : Fld) (v : Nat) (ho : f.off = 0x104 ∨ f.off = 0x110) : AdcWork p on s (z.setF (feB u) f v) :=
  { h with
    step := h.step.setF _ _ _
    kicks := h.kicks.fe _ _ _ ho
    settles := h.settles.fe _ _ _ (by omega) }

theorem setRdy (h : AdcWork p on s z) (u : Nat) : AdcWork p on s (z.setRdy u) := by
  have e := z.setRdy_adcs u
  have ha (v : Nat) : (z.setRdy u).adc v = z.adc v := by
    unfold State.adc
    rw [e.1]
  exact
    { step := h.step.setRdy u
      kicks := h.kicks.setRdy u
      settles := h.settles.setRdy u
      same := fun v hv => (ha v).trans (h.same v hv)
      goes := fun v => by rw [ha]; exact h.goes v
      idle := fun ho v hv => by rw [ha]; exact h.idle ho v hv
      awaits := fun r hr => by
        unfold State.Awaits
        rw [e.2]
        exact h.awaits r hr }

theorem modAdc (h : AdcWork p on s z) (hu : p u) (f : Adc → Adc) (hg : (z.adc u).Goes (f (z.adc u)))
    (hr : ¬ on → (z.adc u).running = false → (f (z.adc u)).running = false) : AdcWork p on s (z.modAdc u f) where
  step := h.step.modAdc _ _
  kicks := h.kicks.modAdc _ _
  settles := h.settles.modAdc _ _
  same v hv := by
    rw [State.adc_modAdc, if_neg fun e : u = v => hv (e ▸ hu)]
    exact h.same v hv
  goes v := by
    rw [State.adc_modAdc]
    split
    · rename_i e
      exact e ▸ (h.goes u).trans hg
    · exact h.goes v
  idle ho v hv := by
    rw [State.adc_modAdc]
    split
    · rename_i e
      exact hr ho (e ▸ h.idle ho v hv)
    · exact h.idle ho v hv
  awaits := h.awaits

/-- What a started command awaited has happened: a command that waits to be started is none of those. -/
theorem unbusyBy (h : AdcWork p on s z) (q : Cmd → Bool) (u : Nat) : AdcWork p on s (z.unbusyBy q u) :=
  { h with
    step := h.step.stopCmds _ _
    kicks := h.kicks.stopCmds _ _
    settles := h.settles.unbusyBy _ _
    awaits := fun r hr => by
      obtain ⟨c, hc, hw⟩ := h.awaits r hr
      exact ⟨c, List.mem_filterMap.2 ⟨c, hc, by simp [hw.started]⟩, hw⟩ }

/-- The longest wait of a command's requests is counted. -/
theorem countWait (h : AdcWork p on s z) (r : CmdRef) (wait : Cmd → Nat) (late : Cmd → Bool) :
    AdcWork p on s (z.modCmd r fun k => { k with injWait := wait k, delayed := late k }) :=
  { h with
    step := h.step.mapCmds _ _
    kicks := h.kicks.mapCmds _ _
    settles := h.settles.mapCmds _ _ fun _ => ⟨rfl, rfl, rfl, rfl, rfl, rfl, rfl, rfl⟩
    awaits := fun r' hr => by
      obtain ⟨c, hc, hw⟩ := h.awaits r' hr
      obtain ⟨href, hst, hend, hv⟩ := hw
      refine ⟨_, List.mem_map.2 ⟨c, hc, rfl⟩, ?_⟩
      split
      · exact ⟨href, hst, hend, hv⟩
      · exact ⟨href, hst, hend, hv⟩ }

/-! ### Conversions -/

theorem adcShow (h : AdcWork p on s z) (u : Nat) : AdcWork p on s (z.adcShow u) :=
  ((h.fe u CHN_ADC_STATUS.PASS _ (by decide)).fe u CHN_ADC_STATUS.BUSY _ (by decide)).fe u CHN_ADC_STATUS.INJ_PEND _ (by decide)

theorem adcEnd (h : AdcWork p on s z) (hu : p u) : AdcWork p on s (z.adcEnd u) :=
  (((h.modAdc hu _ ⟨rfl, id⟩ fun _ _ => rfl).adcShow u).unbusyBy _ _).unbusyBy _ _

theorem adcAdvance (h : AdcWork p on s z) (hu : p u) : AdcWork p on s (z.adcAdvance u) :=
  .ite (fun _ => h.adcEnd hu) fun _ => .ite (fun _ => (h.modAdc hu _ ⟨rfl, id⟩ fun _ e => e).adcShow u)
    fun _ => h.modAdc hu _ ⟨rfl, id⟩ fun _ e => e

theorem convStart (h : AdcWork p on s z) (hu : p u) (src gain samp entry : Nat) (inj : Option Inj) (dest : Nat) (limen evt last : Bool) :
    AdcWork p on s (z.convStart u src gain samp entry inj dest limen evt last) := (h.modAdc hu _ ⟨rfl, id⟩ fun _ e => e).adcShow u

theorem adcSkipAll (h : AdcWork p on s z) (hu : p u) : AdcWork p on s (z.adcSkipAll u) :=
  .ite (fun _ => adcEnd (setRdy (h.fe u CHN_ADC_CNT.SKIP _ (by decide)) u) hu) fun _ => h.fe u CHN_ADC_CNT.SKIP _ (by decide)

theorem adcSearch (h : AdcWork p on s z) (hu : p u) (n : Nat) : AdcWork p on s (z.adcSearch u n) := by
  induction n generalizing z with
  | zero => exact h
  | succ n ih =>
    rw [State.adcSearch]
    refine .ite (fun _ => h) fun _ => .ite (fun _ => ih ?_) fun _ => ?_
    · have g : AdcWork p on s ((z.incSat (feB u) CHN_ADC_CNT.SKIP 1).adcAdvance u) := adcAdvance (h.fe u CHN_ADC_CNT.SKIP _ (by decide)) hu
      exact .ite (fun _ => g.setRdy u) fun _ => g
    · exact ((h.fe u CHN_ADC_STATUS.CUR _ (by decide)).convStart hu ..).unbusyBy _ _

theorem adcRegular (h : AdcWork p on s z) (hu : p u) : AdcWork p on s (z.adcRegular u) :=
  .ite (fun _ => h.adcSkipAll hu) fun _ => h.adcSearch hu _

theorem adcRefillAs (h : AdcWork p on s z) (hu : p u) (l : List Inj) : AdcWork p on s (z.adcRefillAs u l) := by
  induction l generalizing z with
  | nil => exact h.adcShow u
  | cons i is ih =>
    rw [State.adcRefillAs]
    have g : AdcWork p on s ((z.modAdc u fun a => { a with inj := a.inj ++ [i], heldInj := is }).adcShow u) :=
      (h.modAdc hu _ ⟨rfl, id⟩ fun _ e => e).adcShow u
    refine .ite (fun _ => ih ?_) fun _ => h.adcShow u
    split
    · exact g
    · exact g.countWait ..

theorem adcRefill (h : AdcWork p on s z) (hu : p u) : AdcWork p on s (z.adcRefill u) := h.adcRefillAs hu _

theorem adcNext (h : AdcWork p on s z) (hu : p u) (b : Bool) (hh : (z.adc u).hold ≠ 3) : AdcWork p on s (z.adcNext u b) := by
  have hnone : AdcWork p on s (z.modAdc u fun a => { a with conv := none }) := h.modAdc hu _ ⟨rfl, id⟩ fun _ e => e
  unfold State.adcNext
  rw [if_neg hh]
  dsimp only
  split
  · exact hnone
  · split
    · split
      · exact h.modAdc hu _ ⟨rfl, fun _ => Nat.succ_ne_succ_iff.2 (by decide)⟩ fun _ e => e
      · exact ((h.modAdc hu _ ⟨rfl, fun _ => Nat.succ_ne_succ_iff.2 (by decide)⟩ fun _ e => e).convStart hu ..).adcRefill hu
    · split
      · exact ((h.modAdc hu _ ⟨rfl, id⟩ fun _ e => e).convStart hu ..).adcRefill hu
      · exact .ite (fun _ => hnone.adcRegular hu) fun _ => hnone.adcShow u

theorem adcKick (h : AdcWork p on s z) (hu : p u) (hh : (z.adc u).hold ≠ 3) : AdcWork p on s (z.adcKick u) :=
  .ite (fun _ => h.adcNext hu _ hh) fun _ => h

theorem kickAll (h : AdcWork (fun _ => True) on s z) : AdcWork (fun _ => True) on s z.kickAll :=
  foldl_keeps _ h fun x e g => .ite (fun hc => adcKick (.ite (fun _ => g) fun _ => g.adcRefill trivial) trivial
    (by rw [x.kick_hold e.1 hc.2.2.1]; decide)) fun _ => g

/-! ### Requests -/

theorem adcStart (h : AdcWork p on s z) (hu : p u) (ho : on) (hh : (z.adc u).hold ≠ 3) : AdcWork p on s (z.adcStart u) := by
  refine .ite (fun _ => h) fun _ => .ite (fun _ => h.modAdc hu _ ⟨rfl, id⟩ fun _ e => e) fun _ => ?_
  refine adcKick ((h.modAdc hu _ ⟨rfl, id⟩ fun n => absurd ho n).adcShow u) hu ?_
  rw [State.adcShow_adc, State.adc_modAdc_self]
  exact hh

theorem adcStop (h : AdcWork p on s z) (hu : p u) : AdcWork p on s (z.adcStop u) :=
  .ite (fun _ => h) fun _ => .ite (fun _ => h.adcEnd hu) fun _ => h.modAdc hu _ ⟨rfl, id⟩ fun _ e => e

theorem adcPlace (h : AdcWork p on s z) (hu : p u) (hh : (z.adc u).hold ≠ 3) (i : Inj) : AdcWork p on s (z.adcPlace u i) := by
  refine adcKick ((h.modAdc hu _ ⟨rfl, id⟩ fun _ e => e).adcShow u) hu ?_
  rw [State.adcShow_adc, State.adc_modAdc_self]
  exact hh

theorem adcInjectHeld (h : AdcWork p on s z) (hu : p u) (hh : (z.adc u).hold ≠ 3) (i : Inj) : AdcWork p on s (z.adcInjectHeld u i) :=
  .ite (fun _ => h.adcPlace hu hh i) fun _ => h.modAdc hu _ ⟨rfl, id⟩ fun _ e => e

theorem frame {w : Touch} {t : State} (hx : Exact w s z) (h : AdcWork p on z t) (hp : ∀ u, p u → w.adcs u) : Frame w s t.settled :=
  State.AdcStep.frame hx h.step h.kicks fun u hu => h.same u fun e => hu (hp u e)

end State.AdcWork

/-! ### What settling leaves of a converter -/

/-- Converter b is a but for marks of the conversion that samples (R72). -/
structure Adc.Marked (a b : Adc) : Prop where
  rest : b = { a with conv := b.conv }
  conv : a.conv = none ∧ b.conv = none ∨
    ∃ k c q, a.conv = some k ∧ b.conv = some { k with clamp := c, seqst := q } ∧ (k.converting = true → c = k.clamp ∧ q = k.seqst)

theorem Adc.Marked.refl (a : Adc) : a.Marked a := by
  refine ⟨rfl, ?_⟩
  cases h : a.conv with
  | none => exact Or.inl ⟨rfl, rfl⟩
  | some k => exact Or.inr ⟨k, k.clamp, k.seqst, rfl, rfl, fun _ => ⟨rfl, rfl⟩⟩

theorem Adc.Marked.hold {a b : Adc} (h : a.Marked b) : b.hold = a.hold := by rw [h.rest]
theorem Adc.Marked.running {a b : Adc} (h : a.Marked b) : b.running = a.running := by rw [h.rest]
theorem Adc.Marked.restart {a b : Adc} (h : a.Marked b) : b.restart = a.restart := by rw [h.rest]
theorem Adc.Marked.stopPend {a b : Adc} (h : a.Marked b) : b.stopPend = a.stopPend := by rw [h.rest]
theorem Adc.Marked.inj {a b : Adc} (h : a.Marked b) : b.inj = a.inj := by rw [h.rest]
theorem Adc.Marked.heldInj {a b : Adc} (h : a.Marked b) : b.heldInj = a.heldInj := by rw [h.rest]
theorem Adc.Marked.results {a b : Adc} (h : a.Marked b) : b.results = a.results := by rw [h.rest]

/-- A conversion that no longer samples takes no marks. -/
theorem Adc.Marked.eq_of_converting {a b : Adc} (h : a.Marked b) {k : Conv} (hk : a.conv = some k) (hc : k.converting = true) : b = a := by
  rw [h.rest]
  obtain ⟨hn, -⟩ | ⟨k', c, q, hk', hb, hm⟩ := h.conv
  · rw [hn] at hk
    cases hk
  · rw [hk'] at hk
    obtain rfl := Option.some.inj hk
    obtain ⟨rfl, rfl⟩ := hm hc
    rw [hb, ← hk']

/-- The conversion in hand stays in hand, for the same request or entry. -/
theorem Adc.Marked.conv_some {a b : Adc} (h : a.Marked b) {k : Conv} (hk : a.conv = some k) :
    ∃ c q, b.conv = some { k with clamp := c, seqst := q } := by
  obtain ⟨hn, -⟩ | ⟨k', c, q, hk', hb, -⟩ := h.conv
  · rw [hn] at hk
    cases hk
  · rw [hk'] at hk
    obtain rfl := Option.some.inj hk
    exact ⟨c, q, hb⟩

/-- t's converters are s's but for marks; the registers CHN_ADC_STATUS stand. -/
structure State.ConMarks (s t : State) : Prop where
  adc : ∀ u, (s.adc u).Marked (t.adc u)
  rd : ∀ u, t.rd (feB u + 0x104) = s.rd (feB u + 0x104)

/-- Two registers at different offsets of front-ends' blocks differ. -/
theorem feB_off_ne {u v o x : Nat} (h : o ≠ x) (ho : o < 0x800) (hx : x < 0x800) : feB u + o ≠ feB v + x := by
  unfold feB chB shB tileBase
  split <;> split <;> omega

namespace State.ConMarks

variable {s z : State}

theorem refl (s : State) : ConMarks s s := ⟨fun _ => .refl _, fun _ => rfl⟩

theorem wr (h : ConMarks s z) (u : Nat) {o : Nat} (w : Word) (ho : o < 0x100) : ConMarks s (z.wr (feB u + o) w) :=
  ⟨h.adc, fun v => (z.rd_wr_ne (feB_off_ne (by omega) (by omega) (by omega)) w).trans (h.rd v)⟩

theorem modFe (h : ConMarks s z) (u : Nat) (f : Fe → Fe) : ConMarks s (z.modFe u f) := ⟨h.adc, h.rd⟩

theorem modEng (h : ConMarks s z) (u : Nat) (f : Eng → Eng) : ConMarks s (z.modEng u f) := ⟨h.adc, h.rd⟩

theorem markConv (h : ConMarks s z) (u : Nat) (c q : Bool) : ConMarks s (z.markConv u c q) := by
  refine ⟨fun v => ?_, h.rd⟩
  unfold State.markConv
  rw [State.adc_modAdc]
  split
  swap
  · exact h.adc v
  rename_i e
  subst e
  have g := h.adc (z.adcOf u)
  generalize z.adc (z.adcOf u) = b at *
  generalize s.adc (z.adcOf u) = a at *
  obtain ⟨hn, hb⟩ | ⟨k, c', q', hk, hb, hm⟩ := g.conv
  · simp only [hb]
    exact g
  · simp only [hb]
    split
    · exact g
    · rename_i hs
      refine ⟨?_, Or.inr ⟨k, _, _, hk, rfl, fun hc => absurd hc hs⟩⟩
      rw [g.rest]

theorem sineKill (h : ConMarks s z) (u : Nat) : ConMarks s (z.sineKill u) :=
  modFe (wr (h.wr u (o := 0x40) _ (by decide)) u (o := 0x40) _ (by decide)) u _

theorem sineHold (h : ConMarks s z) (u : Nat) : ConMarks s (z.sineHold u) :=
  sineKill (ite_keeps (fun _ => h.wr u (o := 4) _ (by decide)) fun _ => h) u

theorem loadSetting (h : ConMarks s z) (u : Nat) : ConMarks s (z.loadSetting u) := by
  unfold State.loadSetting State.loadClamps
  dsimp only
  exact ite_keeps (fun _ => ((h.modFe _ _).modFe _ _).modEng _ _) fun _ => (h.modFe _ _).modFe _ _

theorem beginStep1 (h : ConMarks s z) (u : Nat) (k : SeqKind) : ConMarks s (z.beginStep1 u k) :=
  markConv (modFe ((h.sineHold u).wr u (o := 0x14) _ (by decide)) u _) u _ _

theorem contactLeave (h : ConMarks s z) (u : Nat) : ConMarks s (z.contactLeave u) := by
  unfold State.contactLeave
  split
  · exact h
  · have g := (h.wr u (o := 0) ‹Contact›.savedCfg (by decide)).modFe u fun f => { f with contact := none }
    exact ite_keeps (fun _ => ite_keeps (fun _ => g) fun _ => g.beginStep1 u _) fun _ => g.loadSetting u

theorem settleContacts (h : ConMarks s z) : ConMarks s z.settleContacts :=
  foldl_keeps _ h fun s e g => by
    split
    · exact ite_keeps (fun _ => g) fun _ => g.contactLeave e.1
    · exact g

theorem rests (h : ConMarks s z) {u : Nat} (hr : s.adcRests u) : z.adcRests u := by
  have g := h.adc u
  unfold State.adcRests at hr ⊢
  rw [g.hold, g.running, g.inj, g.heldInj]
  refine hr.imp_left fun hn => ?_
  obtain ⟨k, hk⟩ := Option.ne_none_iff_exists'.1 hn
  obtain ⟨c, q, hb⟩ := g.conv_some hk
  rw [hb]
  exact Option.some_ne_none _

end State.ConMarks

variable {s : State} {u : Nat}

/-- A converter at work, or held by a rotation, or with nothing to do, stands but for marks. -/
theorem State.settled_marked (h : s.adcRests u) : (s.adc u).Marked (s.settled.adc u) := by
  have hm := (State.ConMarks.refl s).settleContacts
  have e : s.settled.adc u = s.settleContacts.adc u := by
    unfold State.adc
    rw [s.settled_adcs]
    exact ((State.AdcSame.refl _).kickAll (hm.rests h)).adc
  rw [e]
  exact hm.adc u

/-- So does its CHN_ADC_STATUS. -/
theorem State.settled_adcStatus (h : s.adcRests u) {f : Fld} (ho : f.off = 0x104) : s.settled.isSet (feB u) f = s.isSet (feB u) f := by
  have hm := (State.ConMarks.refl s).settleContacts
  have e : s.settled.rd (feB u + 0x104) = s.rd (feB u + 0x104) :=
    (State.late_rd _ (feB_late u (by decide))).trans
      ((((State.AdcSame.refl _).kickAll (hm.rests h)).rd 0x104 (by decide)).trans (hm.rd u))
  refine State.isSet_of_getF ?_
  unfold State.getF
  rw [ho, e]

/-- A conversion in hand keeps a converter from taking up work. -/
theorem State.rests_of_conv {k : Conv} (h : (s.adc u).conv = some k) : s.adcRests u := Or.inl (by rw [h]; exact Option.some_ne_none k)

/-- A converter whose conversion no longer samples stands. -/
theorem State.settled_converting {k : Conv} (h : (s.adc u).conv = some k) (hc : k.converting = true) : s.settled.adc u = s.adc u :=
  (State.settled_marked (State.rests_of_conv h)).eq_of_converting h hc

theorem State.settled_kicked (s : State) (u : Nat) :
    ∃ a : Adc, (s.adc u).Marked a ∧ a.Goes (s.settled.adc u) ∧ (a.running = false → (s.settled.adc u).running = false) := by
  have hw := (State.AdcWork.refl (fun _ => True) False s.settleContacts).kickAll
  have e : s.settled.adc u = s.settleContacts.kickAll.adc u := by
    unfold State.adc
    rw [s.settled_adcs]
  rw [e]
  exact ⟨_, (State.ConMarks.refl s).settleContacts.adc u, hw.goes u, hw.idle not_false u⟩

/-- Results on their way stay on their way. -/
theorem State.settled_results (s : State) (u : Nat) : (s.settled.adc u).results = (s.adc u).results := by
  obtain ⟨a, hm, hg, -⟩ := s.settled_kicked u
  exact hg.results.trans hm.results

/-- No sequence starts by itself. -/
theorem State.settled_halted (h : (s.adc u).running = false) : (s.settled.adc u).running = false := by
  obtain ⟨a, hm, -, hr⟩ := s.settled_kicked u
  exact hr (hm.running.trans h)

end Sys2Proof.Machine
end

section
/-! SUPPORT. A converter that takes up a regular entry, and the start of its sequence (R63, R64, R68). -/

namespace Sys2Proof.Machine

open Sys2Proof (Instr)

variable {w : Touch} {s z : State} {u : Nat}

/-! ### What the choice of a conversion reads -/

theorem Exact.rotated (h : Exact w s z) (hn : ¬ w.regs (feB u + 0x14)) : z.rotated u = s.rotated u :=
  State.isSet_of_getF (congrArg CHN_FE_STATUS.ROTATED.get (h.regs _ hn))

theorem Exact.adcUnit (h : Exact w s z) (hn : ¬ w.regs (feB u + 0x14)) : z.adcUnit u = s.adcUnit u := by
  have hm : z.isSet (feB u) CHN_FE_STATUS.REMAPPED = s.isSet (feB u) CHN_FE_STATUS.REMAPPED :=
    State.isSet_of_getF (congrArg CHN_FE_STATUS.REMAPPED.get (h.regs _ hn))
  unfold State.adcUnit
  rw [h.rotated hn, hm]

theorem Exact.adcSuspended (h : Exact w s z) (hu : u < 1056) (hl : ∀ a, a < 0x800000 → ¬ w.regs a) (hr : ∀ x, (w.parts x).rots = x.rots) :
    z.adcSuspended u = s.adcSuspended u := by
  unfold State.adcSuspended
  rw [State.servedBy_eq (h.rots hr) (fun a ha => h.regs a (hl a ha)) (by omega)]

theorem Exact.remapServes (h : Exact w s z) (hu : u < 1056) (hl : ∀ a, a < 0x800000 → ¬ w.regs a) : z.remapServes u = s.remapServes u := by
  have e : z.rd (4 * (u - 1024) + 0x400200) = s.rd (4 * (u - 1024) + 0x400200) := h.regs _ (hl _ (by omega))
  have hv : z.isSet (4 * (u - 1024)) CAL_REMAP.VALID = s.isSet (4 * (u - 1024)) CAL_REMAP.VALID :=
    State.isSet_of_getF (congrArg CAL_REMAP.VALID.get e)
  unfold State.remapServes
  rw [hv]

/-- A converter made idle keeps no front-end at work. -/
theorem State.execBusy_modAdc {v : Nat} {f : Adc → Adc} (h : s.execBusy v = false) (hf : (f (s.adc u)).conv = none) :
    (s.modAdc u f).execBusy v = false := by
  unfold State.execBusy at h ⊢
  rw [List.any_eq_false] at h ⊢
  intro e he
  unfold State.modAdc tabSet at he
  dsimp only at he
  split at he
  · exact h e (mem_tabErase he)
  · obtain rfl | he := mem_tabInsert he
    · simp [hf]
    · exact h e he

/-- Converter b is a with a conversion for that request, or that entry, which begins to sample. -/
def Adc.Takes (a : Adc) (inj : Option Inj) (entry : Nat) (b : Adc) : Prop :=
  ∃ k, b = { a with conv := some k } ∧ k.inj = inj ∧ k.entry = entry ∧ k.converting = false ∧ k.pass = if inj.isSome then 0 else a.pass % 64

theorem State.unbusyBy_adc (s : State) (q : Cmd → Bool) (u v : Nat) : (s.unbusyBy q u).adc v = s.adc v := State.adc_stopCmds ..

theorem State.convStart_adc (s : State) (u src gain samp entry : Nat) (inj : Option Inj) (dest : Nat) (limen evt last : Bool) :
    (s.adc u).Takes inj entry ((s.convStart u src gain samp entry inj dest limen evt last).adc u) := by
  unfold State.convStart
  extract_lets v f b k
  refine ⟨k, ?_, rfl, rfl, rfl, rfl⟩
  rw [State.adcShow_adc, State.adc_modAdc_self]

theorem State.adcSearch_adc (n : Nat) (hr : (s.adc u).running = true) (hrot : s.rotated u = false) :
    (s.adc u).Takes none (s.adc u).cur ((s.adcSearch u (n + 1)).adc u) := by
  rw [State.adcSearch, if_neg (not_not.2 hr)]
  dsimp only
  rw [hrot, Bool.false_and, if_neg Bool.false_ne_true, State.unbusyBy_adc]
  have e : (s.setF (feB u) CHN_ADC_STATUS.CUR (s.adc u).cur).adc u = s.adc u := State.adc_setF ..
  generalize s.setF (feB u) CHN_ADC_STATUS.CUR (s.adc u).cur = z at e ⊢
  rw [← e]
  exact State.convStart_adc ..

/-- Where nothing else comes first, an idle converter of a running sequence starts the entry in hand. -/
theorem State.adcNext_regular (b : Bool) (hh : (s.adc u).hold = 0) (hs : s.adcSuspended u = false)
    (hb : (s.modAdc u fun a => { a with conv := none }).execBusy (s.adcUnit u) = false) (hi : (s.adc u).inj = [])
    (hr : (s.adc u).running = true) (hrot : s.rotated u = false) :
    (s.adc u).Takes none (s.adc u).cur ((s.adcNext u b).adc u) := by
  have h3 : ¬ (s.adc u).hold = 3 := by omega
  have h2 : ¬ (s.adcSuspended u = true ∨ (s.adc u).hold = 2 ∨
      (s.modAdc u fun a => { a with conv := none }).execBusy (s.adcUnit u) = true) := by
    rw [hs, hb, hh]
    decide
  have h1 : ¬ (s.adc u).hold = 1 := by omega
  have hnone : (if (b && (s.adc u).running) = true then none else (s.adc u).inj.find? fun i => !(s.rotated u && isThr i.src)) = none := by
    rw [hi, List.find?_nil, ite_self]
  have hnext : s.adcNext u b = (s.modAdc u fun a => { a with conv := none }).adcRegular u := by
    unfold State.adcNext
    rw [if_neg h3]
    dsimp only
    rw [if_neg h2, if_neg h1, hnone]
    dsimp only
    rw [if_pos hr]
  have hz : (s.modAdc u fun a => { a with conv := none }).adc u = { s.adc u with conv := none } := s.adc_modAdc_self u _
  have hzr : (s.modAdc u fun a => { a with conv := none }).rotated u = false := hrot
  rw [hnext]
  generalize s.modAdc u (fun a => { a with conv := none }) = z at hz hzr
  have hreg : z.adcRegular u = z.adcSearch u (15 + 1) := if_neg (by rw [hzr]; simp)
  have ht := State.adcSearch_adc (s := z) (u := u) 15 (by rw [hz]; exact hr) hzr
  rw [hz] at ht
  rw [hreg]
  exact ht

/-! ### The start of a sequence -/

/-- Unit u has nothing in hand, nothing waits for it, and its front-end is free. -/
structure State.AdcIdle (s : State) (u : Nat) : Prop where
  running : (s.adc u).running = false
  conv : (s.adc u).conv = none
  inj : (s.adc u).inj = []
  busy : s.execBusy (s.adcUnit u) = false
  hold : (s.adc u).hold = 0
  rotated : s.rotated u = false
  suspended : s.adcSuspended u = false

/-- Unit u's sequence runs, in the first entry of its first pass, which samples. -/
structure Adc.Begun (a : Adc) : Prop where
  running : a.running = true
  restart : a.restart = false
  conv : ∃ k, a.conv = some k ∧ k.entry = 0 ∧ k.inj = none ∧ k.converting = false ∧ k.pass = 0

theorem Adc.Marked.begun {a b : Adc} (h : a.Marked b) (g : a.Begun) : b.Begun := by
  obtain ⟨k, hk, he, hi, hc, hp⟩ := g.conv
  obtain ⟨c, q, hb⟩ := h.conv_some hk
  exact ⟨h.running.trans g.running, h.restart.trans g.restart, _, hb, he, hi, hc, hp⟩

theorem Adc.Begun.rests (g : (s.adc u).Begun) : s.adcRests u := by
  obtain ⟨k, hk, -⟩ := g.conv
  exact State.rests_of_conv hk

theorem State.adcShow_execBusy (s : State) (u v : Nat) : (s.adcShow u).execBusy v = s.execBusy v := by
  unfold State.execBusy
  rw [State.adcShow_adcs]

/-- A converter as the start of its sequence makes it. -/
def Adc.started (a : Adc) : Adc := { a with running := true, pass := 0, cur := 0, stopPend := false, restart := false, inside := true }

/-- The start of an idle unit's sequence in a MODE that runs. -/
theorem State.AdcIdle.start (h : s.AdcIdle u) (hu : u < 1056)
    (hm : s.getF (feB u) CHN_ADC_CTRL.MODE = 1 ∨ s.getF (feB u) CHN_ADC_CTRL.MODE = 2) (hv : s.remapServes u = false) :
    ((s.adcStart u).adc u).Begun := by
  have hrun : ¬ (s.adc u).running = true := by
    rw [h.running]
    exact Bool.false_ne_true
  have hmode : ¬ ((s.getF (feB u) CHN_ADC_CTRL.MODE ≠ 1 ∧ s.getF (feB u) CHN_ADC_CTRL.MODE ≠ 2) ∨ s.remapServes u = true) := by
    rw [hv]
    simp only [Bool.false_eq_true, or_false]
    exact fun e => hm.elim e.1 e.2
  have he : s.adcStart u = ((s.modAdc u Adc.started).adcShow u).adcKick u := (if_neg hmode).trans (if_neg hrun)
  have hx : Exact { regs := fun a => a = feB u + 0x104, adcs := fun x => x = u } s ((s.modAdc u Adc.started).adcShow u) :=
    ((Exact.refl _ s).modAdc _ rfl).setFs (by simp)
  have hz : ((s.modAdc u Adc.started).adcShow u).adc u = (s.adc u).started := by rw [State.adcShow_adc, State.adc_modAdc_self]
  have hb : ((s.modAdc u Adc.started).adcShow u).execBusy (s.adcUnit u) = false := by
    rw [State.adcShow_execBusy]
    exact State.execBusy_modAdc h.busy h.conv
  have hrot := (hx.rotated (u := u) (by simp)).trans h.rotated
  have hsus := (hx.adcSuspended hu (fun a ha e => lt_feB ha _ e) fun _ => rfl).trans h.suspended
  rw [← hx.adcUnit (by simp)] at hb
  rw [he]
  generalize (s.modAdc u Adc.started).adcShow u = z at hz hb hrot hsus
  have hk : z.adcKick u = z.adcNext u false := if_pos (by rw [hz]; exact h.conv)
  obtain ⟨k, hak, hi, hen, hc, hp⟩ := State.adcNext_regular (s := z) (u := u) false (by rw [hz]; exact h.hold) hsus
    (State.execBusy_modAdc hb rfl) (by rw [hz]; exact h.inj) (by rw [hz]; rfl) hrot
  rw [hk, hak, hz]
  rw [hz] at hen hp
  exact ⟨rfl, rfl, k, rfl, hen, hi, hc, hp⟩

end Sys2Proof.Machine
end

section
/-! PROOFS. The converter's registers and its own events (R58, R61 to R69, R72 to R77). Settles O21. -/

namespace Sys2Proof.Machine

open Sys2Proof (Instr)

variable {w : Touch} {s z : State} {u : Nat}

/-! ### A write of CHN_ADC_CTRL -/

/-- What a write of CHN_ADC_CTRL stores before START and STOP act (R65). -/
def State.adcStore (s : State) (u : Nat) (w : Word) : State :=
  let b := feB u
  let fixed : List Fld := [CHN_ADC_CTRL.MODE, CHN_ADC_CTRL.LAST, CHN_ADC_CTRL.NPASS]
  let s' := s.setF b CHN_ADC_CTRL.INJ_EVT (CHN_ADC_CTRL.INJ_EVT.get w)
  if ¬ s.adcLocked u then s'.setFs b (fixed.map fun f => (f, f.get w))
  else if fixed.any (fun f => decide (f.get w ≠ s.getF b f)) then s'.wign u else s'

theorem State.adcCtrl_stop {w : Word} (hw : CHN_ADC_CTRL.STOP.get w = 1) : s.adcCtrl u w = (s.adcStore u w).adcStop u := if_pos hw

theorem State.adcCtrl_start {w : Word} (hp : CHN_ADC_CTRL.STOP.get w = 0) (hw : CHN_ADC_CTRL.START.get w = 1) :
    s.adcCtrl u w = (s.adcStore u w).adcStart u := (if_neg (by rw [hp]; decide)).trans (if_pos hw)

/-- The registers that a write of CHN_ADC_CTRL may store in: it, and WIGN. -/
def atAdcCtrl (u a : Nat) : Prop := a = feB u + CHN_ADC_CTRL.START.off ∨ a = feB u + CHN_FE_STATUS.WIGN.off

theorem State.adcStore_free (w : Word) (hl : s.adcLocked u = false) : s.adcStore u w =
    (s.setF (feB u) CHN_ADC_CTRL.INJ_EVT (CHN_ADC_CTRL.INJ_EVT.get w)).setFs (feB u)
      [(CHN_ADC_CTRL.MODE, CHN_ADC_CTRL.MODE.get w), (CHN_ADC_CTRL.LAST, CHN_ADC_CTRL.LAST.get w),
        (CHN_ADC_CTRL.NPASS, CHN_ADC_CTRL.NPASS.get w)] := if_pos (by rw [hl]; exact Bool.false_ne_true)

theorem State.adcStore_free_regs (w : Word) (hl : s.adcLocked u = false) :
    RegsBut (fun a => a = feB u + CHN_ADC_CTRL.START.off) s (s.adcStore u w) := by
  have h1 : RegsBut (fun a => a = feB u + CHN_ADC_CTRL.START.off) s (s.setF (feB u) CHN_ADC_CTRL.INJ_EVT (CHN_ADC_CTRL.INJ_EVT.get w)) :=
    (RegsBut.refl _ s).setF _ rfl
  rw [State.adcStore_free w hl]
  exact h1.setFs (by simp)

theorem State.adcStore_regs (s : State) (u : Nat) (w : Word) : RegsBut (atAdcCtrl u) s (s.adcStore u w) := by
  have h1 : RegsBut (atAdcCtrl u) s (s.setF (feB u) CHN_ADC_CTRL.INJ_EVT (CHN_ADC_CTRL.INJ_EVT.get w)) := (RegsBut.refl _ s).setF _ (Or.inl rfl)
  exact .ite (fun _ => h1.setFs (by simp [atAdcCtrl])) fun _ => .ite (fun _ => h1.setF _ (Or.inr rfl)) fun _ => h1

/-- Unlocked settings are stored. -/
theorem State.adcStore_settings (w : Word) (hl : s.adcLocked u = false) :
    (s.adcStore u w).getF (feB u) CHN_ADC_CTRL.MODE = CHN_ADC_CTRL.MODE.get w ∧
    (s.adcStore u w).getF (feB u) CHN_ADC_CTRL.LAST = CHN_ADC_CTRL.LAST.get w ∧
    (s.adcStore u w).getF (feB u) CHN_ADC_CTRL.NPASS = CHN_ADC_CTRL.NPASS.get w := by
  have own (x : State) (f : Fld) (hf : f.hi < 32) : (x.setF (feB u) f (f.get w)).getF (feB u) f = f.get w :=
    (x.getF_setF_self (feB u) f _ hf).trans (Nat.mod_eq_of_lt (f.get_lt w))
  rw [State.adcStore_free w hl]
  generalize s.setF (feB u) CHN_ADC_CTRL.INJ_EVT (CHN_ADC_CTRL.INJ_EVT.get w) = x
  simp only [State.setFs_cons, State.setFs_nil]
  refine ⟨?_, ?_, own _ _ (by decide)⟩
  · rw [State.getF_setF_disj _ _ CHN_ADC_CTRL.NPASS CHN_ADC_CTRL.MODE _ rfl (by decide),
      State.getF_setF_disj _ _ CHN_ADC_CTRL.LAST CHN_ADC_CTRL.MODE _ rfl (by decide)]
    exact own _ _ (by decide)
  · rw [State.getF_setF_disj _ _ CHN_ADC_CTRL.NPASS CHN_ADC_CTRL.LAST _ rfl (by decide)]
    exact own _ _ (by decide)

/-- A locked MODE stands. -/
theorem State.adcStore_locked_mode (w : Word) (hl : s.adcLocked u = true) :
    (s.adcStore u w).getF (feB u) CHN_ADC_CTRL.MODE = s.getF (feB u) CHN_ADC_CTRL.MODE := by
  have h1 : (s.setF (feB u) CHN_ADC_CTRL.INJ_EVT (CHN_ADC_CTRL.INJ_EVT.get w)).getF (feB u) CHN_ADC_CTRL.MODE =
      s.getF (feB u) CHN_ADC_CTRL.MODE := s.getF_setF_disj _ CHN_ADC_CTRL.INJ_EVT CHN_ADC_CTRL.MODE _ rfl (by decide)
  have hw : (if [CHN_ADC_CTRL.MODE, CHN_ADC_CTRL.LAST, CHN_ADC_CTRL.NPASS].any (fun f => decide (f.get w ≠ s.getF (feB u) f)) = true then
      (s.setF (feB u) CHN_ADC_CTRL.INJ_EVT (CHN_ADC_CTRL.INJ_EVT.get w)).wign u
      else s.setF (feB u) CHN_ADC_CTRL.INJ_EVT (CHN_ADC_CTRL.INJ_EVT.get w)).getF (feB u) CHN_ADC_CTRL.MODE = s.getF (feB u) CHN_ADC_CTRL.MODE :=
    ite_keeps (R := fun x => x.getF (feB u) CHN_ADC_CTRL.MODE = s.getF (feB u) CHN_ADC_CTRL.MODE)
      (fun _ => (State.getF_setF_off _ (feB u) (f := CHN_FE_STATUS.WIGN) (g := CHN_ADC_CTRL.MODE) (by decide) 1).trans h1) fun _ => h1
  have he : s.adcStore u w = _ := if_neg (not_not.2 hl)
  rw [he]
  exact hw

theorem State.RegsBut.adcs {p : Nat → Prop} (h : RegsBut p s z) : z.adcs = s.adcs := by
  obtain ⟨_, rfl⟩ := h.only
  rfl

theorem State.RegsBut.adc {p : Nat → Prop} (h : RegsBut p s z) (u : Nat) : z.adc u = s.adc u := by
  unfold State.adc
  rw [h.adcs]

/-- The settings and the state of the front-end stand through writes of other registers: what was idle stays idle. -/
theorem State.AdcIdle.regs {p : Nat → Prop} (g : s.AdcIdle u) (h : RegsBut p s z) (hu : u < 1056) (hp : ∀ a, p a → 0x800000 ≤ a)
    (hn : ¬ p (feB u + 0x14)) : z.AdcIdle u := by
  have hx : Exact { regs := p } s z := h.exact fun _ e => e
  have hb : z.execBusy (z.adcUnit u) = s.execBusy (s.adcUnit u) := by
    rw [hx.adcUnit hn]
    unfold State.execBusy
    rw [h.adcs]
  exact
    { running := by rw [h.adc]; exact g.running
      conv := by rw [h.adc]; exact g.conv
      inj := by rw [h.adc]; exact g.inj
      busy := hb.trans g.busy
      hold := by rw [h.adc]; exact g.hold
      rotated := (hx.rotated hn).trans g.rotated
      suspended := (hx.adcSuspended hu (fun a ha e => absurd (hp a e) (by omega)) fun _ => rfl).trans g.suspended }

/-- The settings of a converter do not follow a command. -/
theorem feB_stays (u : Nat) {o : Nat} (ho : o = 0x100 ∨ o = 0x114) : follows (feB u + o) = false := by
  unfold follows feB chB shB tileBase
  rw [decide_eq_false_iff_not]
  split <;> omega

theorem le_feB (u o : Nat) : 0x800000 ≤ feB u + o := by
  unfold feB chB shB tileBase
  split <;> omega

/-- An executed direct write of CHN_ADC_CTRL. -/
theorem State.writeReg_adcCtrl (u : Fin 1056) (w : Word) (hw : s.writeOk (feB u + CHN_ADC_CTRL.START.off) = true) :
    s.writeReg (feB u) CHN_ADC_CTRL.START w = s.adcCtrl u w := by
  have h := State.regWrite_front (s := s) (o := 0x100) w false u.isLt (by decide) (by decide) hw
  exact h

/-- The word that ADC_START writes. -/
def startWord (w : Word) : Word := CHN_ADC_CTRL.STOP.put (CHN_ADC_CTRL.START.put w 1) 0

theorem startWord_get (w : Word) {f : Fld} (hs : f.hi < CHN_ADC_CTRL.START.lo ∨ CHN_ADC_CTRL.STOP.hi < f.lo) : f.get (startWord w) = f.get w :=
  (Fld.get_put_disj CHN_ADC_CTRL.STOP f (hs.imp_left fun h => h.trans (by decide)) _ _).trans
    (Fld.get_put_disj CHN_ADC_CTRL.START f (hs.imp_right fun h => lt_trans (by decide) h) _ _)

theorem adcStart_exec (u : Fin 1056) (w : Word) (hw : s.writeOk (feB u + CHN_ADC_CTRL.START.off) = true) :
    exec (.adcStart u w) s = done ((s.adcStore u (startWord w)).adcStart u) := by
  have h1 : CHN_ADC_CTRL.START.get (startWord w) = 1 :=
    (Fld.get_put_disj CHN_ADC_CTRL.STOP CHN_ADC_CTRL.START (by decide) _ _).trans (Fld.get_put CHN_ADC_CTRL.START (by decide) w 1)
  have h0 : CHN_ADC_CTRL.STOP.get (startWord w) = 0 := Fld.get_put CHN_ADC_CTRL.STOP (by decide) _ 0
  exact congrArg done ((State.writeReg_adcCtrl u _ hw).trans (State.adcCtrl_start h0 h1))

/-- A START of an idle, unlocked converter in a MODE that runs. -/
theorem adcStart_row (u : Fin 1056) (w : Word) (hw : s.writeOk (feB u + CHN_ADC_CTRL.START.off) = true) (hl : s.adcLocked u = false)
    (hi : s.AdcIdle u) (hv : s.remapServes u = false) (hm : CHN_ADC_CTRL.MODE.get w = 1 ∨ CHN_ADC_CTRL.MODE.get w = 2) :
    Completes (.adcStart u w) s fun t => (t.adc u).running = true ∧
      (∃ k, (t.adc u).conv = some k ∧ k.entry = 0 ∧ k.inj = none ∧ k.converting = false ∧ k.pass = 0) ∧
      t.getF (feB u) CHN_ADC_CTRL.MODE = CHN_ADC_CTRL.MODE.get w ∧ t.getF (feB u) CHN_ADC_CTRL.LAST = CHN_ADC_CTRL.LAST.get w ∧
      t.getF (feB u) CHN_ADC_CTRL.NPASS = CHN_ADC_CTRL.NPASS.get w ∧
      Frame { regs := fun a => a = feB u + CHN_ADC_CTRL.START.off, adcs := fun x => x = u } s t := by
  obtain ⟨hmode, hlast, hpass⟩ := State.adcStore_settings (s := s) (u := u) (startWord w) hl
  rw [startWord_get w (by decide)] at hmode hlast hpass
  have hr := State.adcStore_free_regs (s := s) (u := u) (startWord w) hl
  have hx : Exact { regs := fun a => a = feB u + CHN_ADC_CTRL.START.off, adcs := fun x => x = u } s (s.adcStore u (startWord w)) :=
    hr.exact fun _ e => e
  have hz : (s.adcStore u (startWord w)).AdcIdle u := hi.regs hr u.isLt (fun a e => e ▸ le_feB u _) fun e => absurd (Nat.add_left_cancel e) (by decide)
  have hvz := (hx.remapServes u.isLt fun a ha e => lt_feB ha _ e).trans hv
  refine completes_done (adcStart_exec u w hw) ?_
  generalize s.adcStore u (startWord w) = z at *
  have hb : ((z.adcStart u).adc u).Begun := hz.start u.isLt (by rw [hmode]; exact hm) hvz
  have hwork : State.AdcWork (fun x => x = u.val) True z (z.adcStart u) := (State.AdcWork.refl _ _ z).adcStart rfl trivial (by rw [hz.hold]; decide)
  obtain ⟨hrun, -, hconv⟩ := (State.settled_marked hb.rests).begun hb
  have hset (f : Fld) (ho : f.off = 0x100) : (z.adcStart u).settled.getF (feB u) f = z.getF (feB u) f := by
    refine (State.settled_getF _ (by rw [ho]; exact feB_stays u (Or.inl rfl))).trans (congrArg f.get (hwork.kicks.rd _ ?_))
    rw [ho]
    exact kicks_of_follows (feB_stays u (Or.inl rfl))
  exact ⟨hrun, hconv, (hset _ rfl).trans hmode, (hset _ rfl).trans hlast, (hset _ rfl).trans hpass, hwork.frame hx fun _ e => e⟩

/-- A START while the sequence runs restarts it at the next boundary; locked settings stand. -/
theorem adcRestart_row (u : Fin 1056) (w : Word) (hw : s.writeOk (feB u + CHN_ADC_CTRL.START.off) = true) (hl : s.adcLocked u = true)
    (hr : (s.adc u).running = true) (hc : (s.adc u).conv ≠ none) (hv : s.remapServes u = false)
    (hm : s.getF (feB u) CHN_ADC_CTRL.MODE = 1 ∨ s.getF (feB u) CHN_ADC_CTRL.MODE = 2) :
    Completes (.adcStart u w) s fun t => (t.adc u).restart = true ∧ t.getF (feB u) CHN_ADC_CTRL.MODE = s.getF (feB u) CHN_ADC_CTRL.MODE ∧
      Frame { regs := fun a => a = feB u + CHN_ADC_CTRL.START.off ∨ a = feB u + CHN_FE_STATUS.WIGN.off, adcs := fun x => x = u } s t := by
  have hmode := State.adcStore_locked_mode (s := s) (u := u) (startWord w) hl
  have hs := s.adcStore_regs u (startWord w)
  have hx : Exact { regs := atAdcCtrl u, adcs := fun x => x = u.val } s (s.adcStore u (startWord w)) := hs.exact fun _ e => e
  have hadc := hs.adc u
  have hvz := (hx.remapServes u.isLt fun a ha e => e.elim (lt_feB ha _) (lt_feB ha _)).trans hv
  refine completes_done (adcStart_exec u w hw) ?_
  generalize s.adcStore u (startWord w) = z at *
  have hstart : z.adcStart u = z.modAdc u fun a => { a with restart := true } := by
    have hno : ¬ ((z.getF (feB u) CHN_ADC_CTRL.MODE ≠ 1 ∧ z.getF (feB u) CHN_ADC_CTRL.MODE ≠ 2) ∨ z.remapServes u = true) := by
      rw [hvz, hmode]
      simp only [Bool.false_eq_true, or_false]
      exact fun e => hm.elim e.1 e.2
    exact (if_neg hno).trans (if_pos (by rw [hadc]; exact hr))
  rw [hstart]
  have hself : (z.modAdc u fun a => { a with restart := true }).adc u = { s.adc u with restart := true } := by rw [State.adc_modAdc_self, hadc]
  have hrest : (z.modAdc u fun a => { a with restart := true }).adcRests u := Or.inl (by rw [hself]; exact hc)
  refine ⟨?_, ?_, (hx.modAdc _ rfl).settled⟩
  · rw [(State.settled_marked hrest).restart, hself]
  · exact (State.settled_getF _ (feB_stays u (Or.inl rfl))).trans hmode

theorem adcStop_exec (u : Fin 1056) (w : Word) (hw : s.writeOk (feB u + CHN_ADC_CTRL.STOP.off) = true) :
    exec (.adcStop u w) s = done ((s.adcStore u (CHN_ADC_CTRL.STOP.put w 1)).adcStop u) :=
  congrArg done ((State.writeReg_adcCtrl u _ hw).trans (State.adcCtrl_stop (Fld.get_put CHN_ADC_CTRL.STOP (by decide) w 1)))

theorem State.adcStop_pend (hr : (s.adc u).running = true) (hc : (s.adc u).conv ≠ none) :
    s.adcStop u = s.modAdc u fun a => { a with stopPend := true } := (if_neg (not_not.2 hr)).trans (if_neg hc)

theorem State.adcStop_end (hr : (s.adc u).running = true) (hc : (s.adc u).conv = none) : s.adcStop u = s.adcEnd u :=
  (if_neg (not_not.2 hr)).trans (if_pos hc)

/-- The converter when its sequence has ended. -/
theorem State.adcEnd_adc (s : State) (u : Nat) : (s.adcEnd u).adc u = { s.adc u with running := false, stopPend := false, restart := false } := by
  unfold State.adcEnd
  dsimp only
  rw [State.unbusyBy_adc, State.unbusyBy_adc, State.adcShow_adc, State.adc_modAdc_self]

/-- A STOP takes effect at the next boundary, or at once where no conversion is in hand. -/
theorem adcStop_row (u : Fin 1056) (w : Word) (hw : s.writeOk (feB u + CHN_ADC_CTRL.STOP.off) = true) (hr : (s.adc u).running = true) :
    Completes (.adcStop u w) s fun t => ((s.adc u).conv ≠ none → (t.adc u).stopPend = true) ∧ ((s.adc u).conv = none → (t.adc u).running = false) ∧
      Frame { regs := fun a => a = feB u + CHN_ADC_CTRL.START.off ∨ a = feB u + CHN_FE_STATUS.WIGN.off, adcs := fun x => x = u } s t := by
  have hs := s.adcStore_regs u (CHN_ADC_CTRL.STOP.put w 1)
  have hx : Exact { regs := atAdcCtrl u, adcs := fun x => x = u.val } s (s.adcStore u (CHN_ADC_CTRL.STOP.put w 1)) := hs.exact fun _ e => e
  have hadc := hs.adc u
  refine completes_done (adcStop_exec u w hw) ?_
  generalize s.adcStore u (CHN_ADC_CTRL.STOP.put w 1) = z at *
  have hwork : State.AdcWork (fun x => x = u.val) True z (z.adcStop u) := (State.AdcWork.refl _ _ z).adcStop rfl
  rw [← hadc] at hr ⊢
  refine ⟨fun hc => ?_, fun hc => ?_, hwork.frame hx fun _ e => e⟩
  · rw [State.adcStop_pend hr hc]
    have hself := z.adc_modAdc_self u fun a => { a with stopPend := true }
    have hrest : (z.modAdc u fun a => { a with stopPend := true }).adcRests u := Or.inl (by rw [hself]; exact hc)
    rw [(State.settled_marked hrest).stopPend, hself]
  · rw [State.adcStop_end hr hc]
    exact State.settled_halted (by rw [State.adcEnd_adc])

/-! ### A write of CHN_ADC_INJ -/

theorem adcInject_exec (u : Fin 1056) (w : Word) (hw : s.writeOk (feB u + CHN_ADC_INJ.SRC.off) = true) :
    exec (.adcInject u w) s = done (s.adcInj u w) := by
  have h := State.regWrite_front (s := s) (o := 0x108) w false u.isLt (by decide) (by decide) hw
  exact congrArg done h

/-- A request placed while a conversion is in hand waits behind the others. -/
theorem State.adcPlace_wait (i : Inj) (hc : (s.adc u).conv ≠ none) :
    s.adcPlace u i = (s.modAdc u fun a => { a with inj := a.inj ++ [i] }).adcShow u :=
  if_neg (by rw [State.adcShow_adc, State.adc_modAdc_self]; exact hc)

theorem State.adcPlace_adc (i : Inj) (hc : (s.adc u).conv ≠ none) :
    (s.adcPlace u i).adc u = { s.adc u with inj := (s.adc u).inj ++ [i] } := by
  rw [State.adcPlace_wait i hc, State.adcShow_adc, State.adc_modAdc_self]

theorem adcInject_row (u : Fin 1056) (w : Word) (hw : s.writeOk (feB u + CHN_ADC_INJ.SRC.off) = true) (hc : (s.adc u).conv ≠ none)
    (hroom : s.adcRoom u = true) : Completes (.adcInject u w) s fun t => (t.adc u).inj = (s.adc u).inj ++ [injOf w] ∧
      Frame { adcs := fun x => x = u } s t := by
  have he : s.adcInj u w = s.adcPlace u (injOf w) := if_pos hroom
  have hz := State.adcPlace_adc (s := s) (u := u) (injOf w) hc
  have hwork : State.AdcWork (fun x => x = u.val) True s (s.adcPlace u (injOf w)) := by
    rw [State.adcPlace_wait _ hc]
    exact ((State.AdcWork.refl (fun x => x = u.val) True s).modAdc rfl (fun a => { a with inj := a.inj ++ [injOf w] }) ⟨rfl, id⟩ fun _ e => e).adcShow u
  refine completes_done (adcInject_exec u w hw) ?_
  rw [he]
  generalize s.adcPlace u (injOf w) = z at *
  refine ⟨?_, hwork.frame (Exact.refl _ s) fun _ e => e⟩
  rw [(State.settled_marked (Or.inl (by rw [hz]; exact hc))).inj, hz]

/-- A request for which there is no place is lost, and marked. -/
theorem adcInject_full_row (u : Fin 1056) (w : Word) (hw : s.writeOk (feB u + CHN_ADC_INJ.SRC.off) = true) (hc : (s.adc u).conv ≠ none)
    (hroom : s.adcRoom u = false) : Completes (.adcInject u w) s fun t => t.isSet (feB u) CHN_ADC_STATUS.INJ_FULL = true ∧ Frame {} s t := by
  have he : s.adcInj u w = s.setF (feB u) CHN_ADC_STATUS.INJ_FULL 1 := if_neg (by rw [hroom]; exact Bool.false_ne_true)
  have hwork : State.AdcWork (fun _ => False) True s (s.setF (feB u) CHN_ADC_STATUS.INJ_FULL 1) :=
    (State.AdcWork.refl _ _ s).fe u CHN_ADC_STATUS.INJ_FULL 1 (by decide)
  have hrest : (s.setF (feB u) CHN_ADC_STATUS.INJ_FULL 1).adcRests u := Or.inl hc
  refine completes_done (adcInject_exec u w hw) ?_
  rw [he]
  exact ⟨(State.settled_adcStatus hrest rfl).trans (s.isSet_setF_self (feB u) CHN_ADC_STATUS.INJ_FULL 1 (by decide)),
    hwork.frame (Exact.refl _ s) fun _ e => e.elim⟩

/-! ### The end of a sample -/

/-- Conversion k as the hold of its input leaves it: with the committed generation, its tables and its class. -/
def State.heldConv (s : State) (k : Conv) : Conv :=
  { k with converting := true, gen := s.gen, hold := s.tb, corr := s.adcCorr k.exec ((scaleOf k.src k.mode k.span k.range).getD 4) k.gain,
           uclass := s.uclass k.exec ((scaleOf k.src k.mode k.span k.range).getD 4) }

theorem adcSampleEnd_row (u : Fin 1056) {k : Conv} (hk : (s.adc u).conv = some k) (hc : k.converting = false) :
    Completes (.adcSampleEnd u) s fun t => t.adc u = { s.adc u with conv := some (s.heldConv k) } ∧ Frame { adcs := fun x => x = u } s t := by
  have he : exec (.adcSampleEnd u) s = done (s.modAdc u fun a => { a with conv := some (s.heldConv k) }) := by
    show execAdcSampleEnd u s = _
    unfold execAdcSampleEnd
    rw [hk]
    exact if_neg (by rw [hc]; exact Bool.false_ne_true)
  have hz := s.adc_modAdc_self u fun a => { a with conv := some (s.heldConv k) }
  have hx := (Exact.refl { adcs := fun x => x = u.val } s).modAdc (fun a => { a with conv := some (s.heldConv k) }) rfl
  refine completes_done he ⟨?_, hx.settled⟩
  rw [State.settled_converting (by rw [hz]) rfl, hz]

/-! ### The boundary between entries -/

/-- The result of conversion k leaves unit u. -/
def State.adcLeave (s : State) (u : Nat) (r : Result) : State := s.modAdc u fun a => { a with conv := none, results := a.results ++ [r] }

/-- What stands at unit u's boundary takes effect: a stop, else a restart, else after a regular entry the next one (R63, R64). -/
def State.adcTurn (s : State) (u : Nat) (regular : Bool) : State :=
  if (s.adc u).stopPend then s.adcEnd u
  else if (s.adc u).restart then (s.modAdc u fun a => { a with restart := false, cur := 0, pass := 0, inside := true }).adcShow u
  else if regular then s.adcAdvance u else s

theorem adcEntryBoundary_exec (u : Fin 1056) (raw : BitVec 18) {k : Conv} (hk : (s.adc u).conv = some k) (hc : k.converting = true)
    (ho : (k.inj.bind fun i => i.owner) = none) : exec (.adcEntryBoundary u raw) s =
      done (((s.adcLeave u (s.convResult k raw.toNat)).adcTurn u k.inj.isNone).adcNext u k.inj.isSome) := by
  have hz : (s.adcLeave u (s.convResult k raw.toNat)).adc u =
      { s.adc u with conv := none, results := (s.adc u).results ++ [s.convResult k raw.toNat] } := s.adc_modAdc_self u _
  show execAdcEntryBoundary u raw s = _
  unfold execAdcEntryBoundary State.adcTurn
  dsimp only
  rw [hk, hz]
  dsimp only
  rw [if_neg (not_not.2 hc), ho]
  rfl

theorem State.AdcWork.adcTurn {p : Nat → Prop} {on : Prop} (h : State.AdcWork p on s z) (hu : p u) (b : Bool) : State.AdcWork p on s (z.adcTurn u b) :=
  .ite (fun _ => h.adcEnd hu) fun _ => .ite (fun _ => (h.modAdc hu _ ⟨rfl, id⟩ fun _ e => e).adcShow u) fun _ =>
    .ite (fun _ => h.adcAdvance hu) fun _ => h

/-- The entry that follows the one in hand. -/
def State.nextEntry (s : State) (u : Nat) : Nat := if s.getF (feB u) CHN_ADC_CTRL.LAST ≤ (s.adc u).cur then 0 else (s.adc u).cur + 1

/-- Where the sequence does not end, the next entry comes to hand. -/
theorem State.adcAdvance_adc (hl : s.lastEntry u = false) :
    ∃ pass, (s.adcAdvance u).adc u = { s.adc u with cur := s.nextEntry u, pass := pass } := by
  unfold State.adcAdvance State.nextEntry
  dsimp only
  rw [if_neg (by rw [hl]; exact Bool.false_ne_true)]
  split
  · refine ⟨(s.adc u).pass + 1, ?_⟩
    rw [State.adcShow_adc, State.adc_modAdc_self]
  · refine ⟨(s.adc u).pass, ?_⟩
    rw [State.adc_modAdc_self]

theorem Exact.adcAdvance (h : Exact w s z) (hl : z.lastEntry u = false) (hr : w.regs (feB u + 0x104)) (hu : w.adcs u) :
    Exact w s (z.adcAdvance u) := by
  unfold State.adcAdvance
  dsimp only
  rw [if_neg (by rw [hl]; exact Bool.false_ne_true)]
  refine .ite (fun _ => ?_) fun _ => h.modAdc _ hu
  have h1 : Exact w s (z.modAdc u fun a => { a with cur := 0, pass := a.pass + 1 }) := h.modAdc _ hu
  exact h1.setFs (by simpa using hr)

theorem State.adcAdvance_busy {v : Nat} (hl : s.lastEntry u = false) (hc : (s.adc u).conv = none) (hb : s.execBusy v = false) :
    (s.adcAdvance u).execBusy v = false := by
  unfold State.adcAdvance
  dsimp only
  rw [if_neg (by rw [hl]; exact Bool.false_ne_true)]
  split
  · rw [State.adcShow_execBusy]
    exact State.execBusy_modAdc hb hc
  · exact State.execBusy_modAdc hb hc

theorem any_tabInsert_congr {α : Type} (q : Nat × α → Bool) (t : List (Nat × α)) {k : Nat} {v x : α} (h : q (k, v) = q (k, x)) :
    (tabInsert t k v).any q = (tabInsert t k x).any q := by
  induction t with
  | nil => simp only [tabInsert, List.any_cons, h]
  | cons e t ih =>
    unfold tabInsert
    split_ifs
    · simp only [List.any_cons, h]
    · simp only [List.any_cons, h]
    · simp only [List.any_cons, ih]

/-- The front-ends at work are the same whatever an idle converter's other parts are. -/
theorem State.execBusy_idle {v : Nat} {f g : Adc → Adc} (hf : (f (s.adc u)).conv = none) (hg : (g (s.adc u)).conv = none)
    (hf' : f (s.adc u) ≠ {}) (hg' : g (s.adc u) ≠ {}) : (s.modAdc u f).execBusy v = (s.modAdc u g).execBusy v := by
  unfold State.execBusy State.modAdc tabSet
  dsimp only
  rw [if_neg hf', if_neg hg']
  exact any_tabInsert_congr _ _ (by simp only [hf, hg])

/-- After the result of a regular entry has left, where nothing else comes first, the next entry's conversion begins. -/
theorem State.leave_next (u : Fin 1056) (r : Result) (b : Bool) (hh : (s.adc u).hold = 0) (hr : (s.adc u).running = true) (hq : (s.adc u).inj = [])
    (hb : (s.modAdc u fun a => { a with conv := none }).execBusy (s.adcUnit u) = false) (hrot : s.rotated u = false)
    (hsus : s.adcSuspended u = false) (hlast : s.lastEntry u = false) :
    ∃ x, ((((s.adcLeave u r).adcAdvance u).adcNext u b).adc u).conv = some x ∧ x.inj = none ∧ x.entry = s.nextEntry u := by
  have hz : (s.adcLeave u r).adc u = { s.adc u with conv := none, results := (s.adc u).results ++ [r] } := s.adc_modAdc_self u _
  have hx : Exact { regs := fun a => a = feB u + 0x104, adcs := fun x => x = u.val } s (s.adcLeave u r) := (Exact.refl _ s).modAdc _ rfl
  have hzb : (s.adcLeave u r).execBusy (s.adcUnit u) = false := by
    rw [← hb]
    refine State.execBusy_idle rfl rfl (fun e => ?_) fun e => ?_
    all_goals
      have er := congrArg Adc.running e
      rw [hr] at er
      cases er
  have hf (f : Fld) : (s.adcLeave u r).getF (feB u) f = s.getF (feB u) f := rfl
  generalize s.adcLeave u r = z at hz hx hzb hf ⊢
  have hnext : z.nextEntry u = s.nextEntry u := by
    unfold State.nextEntry
    rw [hf, hz]
  have hzl : z.lastEntry u = false := by
    rw [← hlast]
    unfold State.lastEntry State.npass
    dsimp only
    rw [hf, hf, hf, hz]
  obtain ⟨pass, hadc⟩ := State.adcAdvance_adc hzl
  rw [hz] at hadc
  have hxa := hx.adcAdvance hzl rfl rfl
  have hza := State.execBusy_modAdc (u := u) (f := fun a => { a with conv := none }) (State.adcAdvance_busy hzl (by rw [hz]) hzb) rfl
  rw [← hxa.adcUnit (u := u) (by simp)] at hza
  obtain ⟨x, hax, hxi, hxe, -⟩ := State.adcNext_regular (u := u) b (by rw [hadc]; exact hh)
    ((hxa.adcSuspended u.isLt (fun a ha e => lt_feB ha _ e) fun _ => rfl).trans hsus) hza (by rw [hadc]; exact hq) (by rw [hadc]; exact hr)
    ((hxa.rotated (u := u) (by simp)).trans hrot)
  exact ⟨x, by rw [hax], hxi, hxe.trans (by rw [hadc, ← hnext])⟩

theorem adcEntryBoundary_row (u : Fin 1056) (raw : BitVec 18) {k : Conv} (hk : (s.adc u).conv = some k) (hc : k.converting = true)
    (hh : (s.adc u).hold = 0) (ho : (k.inj.bind fun i => i.owner) = none) :
    Completes (.adcEntryBoundary u raw) s fun t => (t.adc u).results = (s.adc u).results ++ [s.convResult k raw.toNat] ∧
      ((s.adc u).stopPend = true → (t.adc u).running = false) ∧
      ((s.adc u).stopPend = false → (s.adc u).restart = false → k.inj = none → (s.adc u).running = true → (s.adc u).inj = [] →
        (s.adc u).heldInj = [] → (s.modAdc u fun a => { a with conv := none }).execBusy (s.adcUnit u) = false → s.rotated u = false →
        s.adcSuspended u = false → s.lastEntry u = false → ∃ x, (t.adc u).conv = some x ∧ x.inj = none ∧ x.entry = s.nextEntry u) ∧
      Frame { adcs := fun x => x = u } s t := by
  have hz : (s.adcLeave u (s.convResult k raw.toNat)).adc u =
      { s.adc u with conv := none, results := (s.adc u).results ++ [s.convResult k raw.toNat] } := s.adc_modAdc_self u _
  have hx : Exact { adcs := fun x => x = u.val } s (s.adcLeave u (s.convResult k raw.toNat)) := (Exact.refl _ s).modAdc _ rfl
  refine completes_done (adcEntryBoundary_exec u raw hk hc ho) ?_
  generalize hzl : s.adcLeave u (s.convResult k raw.toNat) = z at hz hx
  have hturn : State.AdcWork (fun x => x = u.val) False z (z.adcTurn u k.inj.isNone) :=
    (State.AdcWork.refl (fun x => x = u.val) False z).adcTurn rfl _
  have hold : ((z.adcTurn u k.inj.isNone).adc u).hold ≠ 3 := (hturn.goes u).hold (by rw [hz]; show (s.adc u).hold ≠ 3; omega)
  have hwork := hturn.adcNext rfl k.inj.isSome hold
  refine ⟨?_, fun hp => ?_, fun hp hre hi hr hq hheld hb hrot hsus hlast => ?_, hwork.frame hx fun _ e => e⟩
  · rw [State.settled_results, (hwork.goes u).results, hz]
  · have hend : z.adcTurn u k.inj.isNone = z.adcEnd u := if_pos (by rw [hz]; exact hp)
    have hidle := ((State.AdcWork.refl _ False (z.adcTurn u k.inj.isNone)).adcNext (p := fun x => x = u.val) rfl k.inj.isSome hold).idle not_false u
    exact State.settled_halted (hidle (by rw [hend, State.adcEnd_adc]))
  · have hadv : z.adcTurn u k.inj.isNone = z.adcAdvance u :=
      (if_neg (by rw [hz]; simp [hp])).trans ((if_neg (by rw [hz]; simp [hre])).trans (if_pos (by rw [hi]; rfl)))
    obtain ⟨x, hx, hxi, hxe⟩ := State.leave_next (s := s) u (s.convResult k raw.toNat) k.inj.isSome hh hr hq hb hrot hsus hlast
    rw [hzl, ← hadv] at hx
    obtain ⟨c, q, hc'⟩ := (State.settled_marked (State.rests_of_conv hx)).conv_some hx
    exact ⟨_, hc', hxi, hxe⟩

/-! ### Results into the queue -/

/-- A field that is its whole register reads as written. -/
theorem State.rd_setF_whole (s : State) (b : Nat) {f : Fld} (hl : f.lo = 0) (hh : f.hi = 31) (v : Nat) :
    (s.setF b f v).rd (b + f.off) = BitVec.ofNat 32 v := by
  rw [State.rd_setF, if_pos rfl]
  refine BitVec.eq_of_getLsbD_eq fun i hi => ?_
  rw [Fld.getLsbD_put, hl, hh, if_pos ⟨Nat.zero_le _, by omega, hi⟩, BitVec.getLsbD_ofNat]
  simp [hi]

theorem Exact.sramSet (h : Exact w s z) {a n : Nat} (v : Nat) (hw : ∀ k, a ≤ k → k < a + n → w.sram k) : Exact w s (z.sramSet a n v) :=
  { h with
    sram := fun k hk => (tabGet_memWrite_out _ _ _ (by
      rw [leBytes_length]
      by_contra hc
      exact hk (hw k (by omega) (by omega)))).trans (h.sram k hk) }

theorem State.memRead_sramSet (s : State) (a n v : Nat) : memRead sramReset (s.sramSet a n v).sram a n = leBytes n v := by
  have h := memRead_memWrite (dm := sramReset) s.sram a (leBytes n v)
  rw [leBytes_length] at h
  exact h

theorem Exact.trans {t : State} (h : Exact w s z) (g : Exact w z t) : Exact w s t where
  regs a ha := (g.regs a ha).trans (h.regs a ha)
  sram a ha := (g.sram a ha).trans (h.sram a ha)
  flash a ha := (g.flash a ha).trans (h.flash a ha)
  host a ha := (g.host a ha).trans (h.host a ha)
  fes u hu := (g.fes u hu).trans (h.fes u hu)
  adcs u hu := (g.adcs u hu).trans (h.adcs u hu)
  engs c hc := (g.engs c hc).trans (h.engs c hc)
  ports p hp := (g.ports p hp).trans (h.ports p hp)
  con v hv := g.con v (h.con v hv)
  parts := g.parts.trans h.parts

/-- A register of a front-end is none of a tile's own. -/
theorem feB_ne_tileBase (t u : Nat) {o x : Nat} (ho : o < 0x10000) (hx : x < 0x800) : feB u + x ≠ tileBase t + o := by
  unfold feB chB shB tileBase
  split <;> omega

theorem Exact.getF {b : Nat} {f : Fld} (h : Exact w s z) (hn : ¬ w.regs (b + f.off)) : z.getF b f = s.getF b f := congrArg f.get (h.regs _ hn)

/-- A full queue drops the entry and counts it (R77). -/
theorem State.rqPush_full {t : Nat} (w : Nat) (h : s.rqSize t ≤ s.getF (tileBase t) TIL_RQ_LEVEL.COUNT) :
    s.rqPush t w = (s.incSat (tileBase t) TIL_RQ_DROP.COUNT 1).setF (tileBase t) TIL_RQ_STATUS.OVF 1 := if_pos h

/-- The watermark shows once n entries reach it (R77). -/
def State.rqMark (s : State) (t n : Nat) : State :=
  if s.getF (tileBase t) TIL_RQ_CTRL.WMARK ≠ 0 ∧ s.getF (tileBase t) TIL_RQ_CTRL.WMARK * 256 ≤ n then s.setF (tileBase t) TIL_RQ_STATUS.WM 1 else s

/-- Where the queue's next entry stands. -/
def State.rqPlace (s : State) (t : Nat) : Nat :=
  capBase t + 8 * (((s.tile t).rqOut + s.getF (tileBase t) TIL_RQ_LEVEL.COUNT) % s.rqSize t)

theorem State.rqPush_room {t : Nat} (w : Nat) (h : s.getF (tileBase t) TIL_RQ_LEVEL.COUNT < s.rqSize t) :
    s.rqPush t w = ((s.sramSet (s.rqPlace t) 8 w).setF (tileBase t) TIL_RQ_LEVEL.COUNT (s.getF (tileBase t) TIL_RQ_LEVEL.COUNT + 1)).rqMark t
      (s.getF (tileBase t) TIL_RQ_LEVEL.COUNT + 1) := if_neg (Nat.not_le.2 h)

theorem Exact.rqMark (h : Exact w s z) {t : Nat} (n : Nat) (hw : w.regs (tileBase t + TIL_RQ_STATUS.WM.off)) : Exact w s (z.rqMark t n) :=
  .ite (fun _ => h.setF _ hw) fun _ => h

theorem State.rqMark_getF (t n : Nat) {f : Fld} (hf : f.off ≠ TIL_RQ_STATUS.WM.off) : (s.rqMark t n).getF (tileBase t) f = s.getF (tileBase t) f :=
  ite_keeps (R := fun x => x.getF (tileBase t) f = s.getF (tileBase t) f) (fun _ => State.getF_setF_off _ _ hf.symm 1) fun _ => rfl

theorem State.rqMark_sram (t n : Nat) : (s.rqMark t n).sram = s.sram :=
  ite_keeps (R := fun x => x.sram = s.sram) (fun _ => State.setF_sram ..) fun _ => rfl

/-- The level of a queue, and its size, are within their fields. -/
theorem State.rqSize_lt (s : State) (t : Nat) : s.rqSize t < 2 ^ 18 := by
  have h := s.getF_lt (tileBase t) TIL_CAP_PART.RQSZ
  unfold State.rqSize
  dsimp only at h ⊢
  omega

theorem State.rqPush_level {t : Nat} (w : Nat) (h : s.getF (tileBase t) TIL_RQ_LEVEL.COUNT < s.rqSize t) :
    (s.rqPush t w).getF (tileBase t) TIL_RQ_LEVEL.COUNT = s.getF (tileBase t) TIL_RQ_LEVEL.COUNT + 1 := by
  rw [State.rqPush_room w h, State.rqMark_getF _ _ (by decide), State.getF_setF_self _ _ _ _ (by decide)]
  exact Nat.mod_eq_of_lt (Nat.lt_of_le_of_lt h (s.rqSize_lt t))

theorem State.rqPush_entry {t : Nat} (w : Nat) (h : s.getF (tileBase t) TIL_RQ_LEVEL.COUNT < s.rqSize t) :
    memRead sramReset (s.rqPush t w).sram (s.rqPlace t) 8 = leBytes 8 w := by
  rw [State.rqPush_room w h, State.rqMark_sram, State.setF_sram, State.memRead_sramSet]

/-- Where no result of unit u is checked or captured: it enters the queue of its tile, and shows in CHN_ADC_LAST_RES where it is kept (R66, R77). -/
def State.queued (s : State) (u w : Nat) : State :=
  if s.getF (tileBase (tileOf u)) TIL_RQ_LEVEL.COUNT < s.rqSize (tileOf u) then (s.rqPush (tileOf u) w).setF (feB u) CHN_ADC_LAST_RES.RES w
  else s.rqPush (tileOf u) w

/-- What the arrival of a result touches but for the converter. -/
def queueTouch (s : State) (u : Nat) : Touch :=
  { regs := fun a => a = tileBase (tileOf u) + TIL_RQ_LEVEL.COUNT.off ∨ a = tileBase (tileOf u) + TIL_RQ_STATUS.WM.off ∨ a = feB u + CHN_ADC_LAST_RES.RES.off
    sram := fun a => capBase (tileOf u) ≤ a ∧ a < capBase (tileOf u) + 8 * s.rqSize (tileOf u)
    adcs := fun x => x = u }

def dropTouch (u : Nat) : Touch :=
  { regs := fun a => a = tileBase (tileOf u) + TIL_RQ_DROP.COUNT.off ∨ a = tileBase (tileOf u) + TIL_RQ_STATUS.OVF.off
    adcs := fun x => x = u }

theorem Exact.queued_room (w : Nat) (h : s.getF (tileBase (tileOf u)) TIL_RQ_LEVEL.COUNT < s.rqSize (tileOf u)) : Exact (queueTouch s u) s (s.queued u w) := by
  have hs : Exact (queueTouch s u) s (s.sramSet (s.rqPlace (tileOf u)) 8 w) := by
    refine (Exact.refl _ s).sramSet w fun k hl hu => ?_
    have hm := Nat.mod_lt ((s.tile (tileOf u)).rqOut + s.getF (tileBase (tileOf u)) TIL_RQ_LEVEL.COUNT) (Nat.zero_lt_of_lt h)
    unfold State.rqPlace at hl hu
    exact ⟨by omega, by omega⟩
  have he : s.queued u w = _ := if_pos h
  rw [he, State.rqPush_room w h]
  exact ((hs.setF _ (Or.inl rfl)).rqMark _ (Or.inr (Or.inl rfl))).setF _ (Or.inr (Or.inr rfl))

theorem Exact.queued_full (w : Nat) (h : s.rqSize (tileOf u) ≤ s.getF (tileBase (tileOf u)) TIL_RQ_LEVEL.COUNT) :
    Exact (dropTouch u) s (s.queued u w) := by
  have he : s.queued u w = _ := if_neg (Nat.not_lt.2 h)
  rw [he, State.rqPush_full w h]
  exact ((Exact.refl _ s).incSat 1 (Or.inl rfl)).setF _ (Or.inr rfl)

/-- A tile's trigger stands through the arrival of a result. -/
theorem State.queued_trigger (s : State) (u w : Nat) :
    (s.queued u w).getF (tileBase (tileOf u)) TRG_STATUS.STATE = s.getF (tileBase (tileOf u)) TRG_STATUS.STATE := by
  obtain h | h := Nat.lt_or_ge (s.getF (tileBase (tileOf u)) TIL_RQ_LEVEL.COUNT) (s.rqSize (tileOf u))
  · refine (Exact.queued_room w h).getF ?_
    rintro (e | e | e)
    · exact absurd (Nat.add_left_cancel e) (by decide)
    · exact absurd (Nat.add_left_cancel e) (by decide)
    · exact feB_ne_tileBase _ _ (by decide) (by decide) e.symm
  · refine (Exact.queued_full w h).getF ?_
    rintro (e | e) <;> exact absurd (Nat.add_left_cancel e) (by decide)

/-- A regular result of destination 0 that is neither checked nor announced, outside a capture. -/
structure Result.Plain (r : Result) : Prop where
  inj : r.conv.inj = none
  dest : r.conv.dest = 0
  limen : r.conv.limen = false
  evt : r.conv.evt = false
  last : r.conv.last = false

theorem State.deliver_plain {r : Result} (hr : r.Plain)
    (hs : s.getF (tileBase (tileOf u)) TRG_STATUS.STATE < 2 ∨ 3 < s.getF (tileBase (tileOf u)) TRG_STATUS.STATE) :
    s.deliver u r = s.queued u (r.entry u) := by
  have hst := s.queued_trigger u (r.entry u)
  have hcap : (s.queued u (r.entry u)).capture (tileOf u) (localUnit u) r = s.queued u (r.entry u) := by
    unfold State.capture
    rw [hr.inj, if_neg (by simp), hst, if_pos (by omega)]
  have hlim (x : State) : x.limitCheck u r = x := if_pos (Or.inl (by rw [hr.limen]; exact Bool.false_ne_true))
  have he : s.deliver u r = (s.queued u (r.entry u)).capture (tileOf u) (localUnit u) r := by
    simp [State.deliver, State.queued, hr.inj, hr.dest, hr.evt, hr.last, hlim]
  exact he.trans hcap

theorem tileOf_lt {u : Nat} (hu : u < 1056) : tileOf u < 8 := by
  unfold tileOf
  split <;> omega

/-- The result that leaves first, where it is plain. -/
theorem adcResultEnqueue_exec (u : Fin 1056) {r : Result} {rs : List Result} (he : (s.adc u).results = r :: rs) (hr : r.Plain)
    (hs : s.getF (tileBase (tileOf u)) TRG_STATUS.STATE < 2 ∨ 3 < s.getF (tileBase (tileOf u)) TRG_STATUS.STATE) :
    exec (.adcResultEnqueue u) s = done ((s.modAdc u fun a => { a with results := rs }).queued u (r.entry u)) := by
  have hd := State.deliver_plain (s := s.modAdc u fun a => { a with results := rs }) (u := u) hr hs
  show execAdcResultEnqueue u s = _
  unfold execAdcResultEnqueue
  rw [he]
  exact congrArg done hd

theorem State.queued_adcs (s : State) (u w : Nat) : (s.queued u w).adcs = s.adcs := by
  unfold State.queued
  split
  · rename_i h
    rw [State.setF_adcs, State.rqPush_room w h]
    unfold State.rqMark
    split
    · rw [State.setF_adcs, State.setF_adcs, State.sramSet_adcs]
    · rw [State.setF_adcs, State.sramSet_adcs]
  · rename_i h
    rw [State.rqPush_full w (Nat.not_lt.1 h)]
    exact (State.setF_adcs ..).trans (State.setF_adcs ..)

theorem State.queued_results (s : State) (u w : Nat) (rs : List Result) :
    (((s.modAdc u fun a => { a with results := rs }).queued u w).settled.adc u).results = rs := by
  have e : ((s.modAdc u fun a => { a with results := rs }).queued u w).adc u = (s.modAdc u fun a => { a with results := rs }).adc u := by
    unfold State.adc
    rw [State.queued_adcs]
  rw [State.settled_results, e, State.adc_modAdc_self]

theorem adcResultEnqueue_row (u : Fin 1056) {r : Result} {rs : List Result} (he : (s.adc u).results = r :: rs) (hr : r.Plain)
    (hs : s.getF (tileBase (tileOf u)) TRG_STATUS.STATE < 2 ∨ 3 < s.getF (tileBase (tileOf u)) TRG_STATUS.STATE)
    (hn : s.getF (tileBase (tileOf u)) TIL_RQ_LEVEL.COUNT < s.rqSize (tileOf u)) :
    Completes (.adcResultEnqueue u) s fun z => (z.adc u).results = rs ∧
      z.getF (tileBase (tileOf u)) TIL_RQ_LEVEL.COUNT = s.getF (tileBase (tileOf u)) TIL_RQ_LEVEL.COUNT + 1 ∧
      z.rd (feB u + CHN_ADC_LAST_RES.RES.off) = BitVec.ofNat 32 (r.entry u) ∧
      memRead sramReset z.sram (s.rqPlace (tileOf u)) 8 = leBytes 8 (r.entry u) ∧ Frame (queueTouch s u) s z := by
  refine completes_done (adcResultEnqueue_exec u he hr hs) ?_
  have hx : Exact (queueTouch s u) s (s.modAdc u fun a => { a with results := rs }) := (Exact.refl _ s).modAdc _ rfl
  have hres := s.queued_results u (r.entry u) rs
  have hn' : (s.modAdc u fun a => { a with results := rs }).getF (tileBase (tileOf u)) TIL_RQ_LEVEL.COUNT <
    (s.modAdc u fun a => { a with results := rs }).rqSize (tileOf u) := hn
  have hq := Exact.queued_room (r.entry u) hn'
  have hz : (s.modAdc u fun a => { a with results := rs }).queued u (r.entry u) = _ := if_pos hn'
  have hlev := State.rqPush_level (r.entry u) hn'
  have hent := State.rqPush_entry (r.entry u) hn'
  refine ⟨hres, ?_, ?_, ?_, (hx.trans hq).settled⟩
  · rw [State.settled_getF _ (tileBase_follows (tileOf_lt u.isLt) (by decide)), hz,
      State.getF_setF_ne _ (feB_ne_tileBase _ _ (by decide) (by decide)), hlev]
    rfl
  · rw [State.settled_rd _ (feB_stays u (Or.inr rfl)), hz]
    exact State.rd_setF_whole _ _ rfl rfl _
  · rw [State.settled_sram, hz, State.setF_sram]
    exact hent

/-- A result that finds the queue full is dropped and counted. -/
theorem adcResultEnqueue_full_row (u : Fin 1056) {r : Result} {rs : List Result} (he : (s.adc u).results = r :: rs) (hr : r.Plain)
    (hs : s.getF (tileBase (tileOf u)) TRG_STATUS.STATE < 2 ∨ 3 < s.getF (tileBase (tileOf u)) TRG_STATUS.STATE)
    (hn : s.rqSize (tileOf u) ≤ s.getF (tileBase (tileOf u)) TIL_RQ_LEVEL.COUNT) :
    Completes (.adcResultEnqueue u) s fun z => (z.adc u).results = rs ∧ z.isSet (tileBase (tileOf u)) TIL_RQ_STATUS.OVF = true ∧
      z.getF (tileBase (tileOf u)) TIL_RQ_DROP.COUNT = min (s.getF (tileBase (tileOf u)) TIL_RQ_DROP.COUNT + 1) (2 ^ 32 - 1) ∧
      Frame (dropTouch u) s z := by
  refine completes_done (adcResultEnqueue_exec u he hr hs) ?_
  have hx : Exact (dropTouch u) s (s.modAdc u fun a => { a with results := rs }) := (Exact.refl _ s).modAdc _ rfl
  have hres := s.queued_results u (r.entry u) rs
  have hn' : (s.modAdc u fun a => { a with results := rs }).rqSize (tileOf u) ≤
    (s.modAdc u fun a => { a with results := rs }).getF (tileBase (tileOf u)) TIL_RQ_LEVEL.COUNT := hn
  have hq := Exact.queued_full (r.entry u) hn'
  have hz : (s.modAdc u fun a => { a with results := rs }).queued u (r.entry u) = _ := (if_neg (Nat.not_lt.2 hn')).trans (State.rqPush_full (r.entry u) hn')
  refine ⟨hres, ?_, ?_, (hx.trans hq).settled⟩
  · rw [State.settled_isSet _ (tileBase_follows (tileOf_lt u.isLt) (by decide)), hz]
    exact State.isSet_setF_self _ _ _ 1 (by decide)
  · rw [State.settled_getF _ (tileBase_follows (tileOf_lt u.isLt) (by decide)), hz, State.getF_setF_off _ _ (by decide)]
    exact State.getF_incSat_self _ _ 1 (by decide)

/-- Settles O21, clause by clause: a START's regular entry begins in the state that settling leaves, a request or a stop is recorded behind the
conversion in hand, and a plain result goes to its tile's queue. -/
theorem converterRows : Obligations.ConverterRows := by
  unfold Obligations.ConverterRows
  intro u s
  refine ⟨fun w hw hl hrun hconv hinj _ hbusy hhold hrot hsus hv hm => ?_, fun w hw hl hr hc hv hm => adcRestart_row u w hw hl hr hc hv hm,
    fun w hw hr => ?_, fun w hw hc => ⟨adcInject_row u w hw hc, adcInject_full_row u w hw hc⟩, fun k hk hc => adcSampleEnd_row u hk hc,
    fun raw k hk hc hh ho => adcEntryBoundary_row u raw hk hc hh ho, fun r rs t he ht hi hd hl he' hla hs => ?_⟩
  · exact adcStart_row u w hw hl ⟨hrun, hconv, hinj, hbusy, hhold, hrot, hsus⟩ hv hm
  · obtain ⟨t, he, hpend, hend, hf⟩ := adcStop_row u w hw hr
    exact ⟨fun hc => ⟨t, he, hpend hc, hf⟩, fun hc _ => ⟨t, he, hend hc, hf⟩⟩
  · subst ht
    exact ⟨adcResultEnqueue_row u he ⟨hi, hd, hl, he', hla⟩ hs, adcResultEnqueue_full_row u he ⟨hi, hd, hl, he', hla⟩ hs⟩

end Sys2Proof.Machine
end

section
/-! PROOFS. The drain of a tile's result queue into the host's ring (R76, R81). Settles O22. -/

namespace Sys2Proof.Machine

open Sys2Proof (Instr)

variable {w : Touch} {s z : State}

/-! ### Numbers and bytes -/

theorem leBytes_leNat (bs : List Byte) : leBytes bs.length (leNat bs) = bs := by
  induction bs with
  | nil => rfl
  | cons b bs ih =>
    have hb : BitVec.ofNat 8 (b.toNat + 256 * leNat bs) = b := BitVec.eq_of_toNat_eq (by rw [BitVec.toNat_ofNat]; omega)
    have hd : (b.toNat + 256 * leNat bs) / 256 = leNat bs := by omega
    rw [List.length_cons, leNat, leBytes, hb, hd, ih]

/-- The bytes of a number are those of the number cut to them. -/
theorem leBytes_mod (n v : Nat) : leBytes n (v % 256 ^ n) = leBytes n v := by
  induction n generalizing v with
  | zero => rfl
  | succ n ih =>
    have hb : BitVec.ofNat 8 (v % 256 ^ (n + 1)) = BitVec.ofNat 8 v := by
      refine BitVec.eq_of_toNat_eq ?_
      rw [BitVec.toNat_ofNat, BitVec.toNat_ofNat]
      exact Nat.mod_mod_of_dvd v (Dvd.intro_left (256 ^ n) rfl)
    have hd : v % 256 ^ (n + 1) / 256 = v / 256 % 256 ^ n := by rw [Nat.pow_succ', Nat.mod_mul_right_div_self]
    rw [leBytes, leBytes, hb, hd, ih]

theorem memRead_length (d m) (a n : Nat) : (memRead d m a n).length = n := by simp [memRead]

/-- Less than a ring apart, two places of the ring differ. -/
theorem ring_ne {p i j r : Nat} (hij : i < j) (hj : j < r) : (p + i) % r ≠ (p + j) % r := fun e => by
  have h : (p + j - (p + i)) % r = 0 := Nat.sub_mod_eq_zero_of_mod_eq e.symm
  rw [Nat.add_sub_add_left, Nat.mod_eq_of_lt (by omega)] at h
  omega

/-! ### The memory of the host -/

theorem State.memRead_hostSet (s : State) (a n v : Nat) : memRead hostReset (s.hostSet a n v).host a n = leBytes n v := by
  have h := memRead_memWrite (dm := hostReset) s.host a (leBytes n v)
  rw [leBytes_length] at h
  exact h

/-- A write to host memory leaves what stands before it and behind it. -/
theorem State.memRead_hostSet_apart (s : State) {a n b m : Nat} (v : Nat) (h : b + m ≤ a ∨ a + n ≤ b) :
    memRead hostReset (s.hostSet a n v).host b m = memRead hostReset s.host b m :=
  memRead_congr fun k hl hu => tabGet_memWrite_out _ _ _ (by rw [leBytes_length]; omega)

theorem Exact.hostSet (h : Exact w s z) {a n : Nat} (v : Nat) (hw : ∀ k, a ≤ k → k < a + n → w.host k) : Exact w s (z.hostSet a n v) :=
  { h with
    host := fun k hk => (tabGet_memWrite_out _ _ _ (by
      rw [leBytes_length]
      by_contra hc
      exact hk (hw k (by omega) (by omega)))).trans (h.host k hk) }

theorem Exact.modTile (h : Exact w s z) (t : Nat) (f : Tile → Tile) (hp : ∀ x l, w.parts { x with tiles := l } = w.parts x) :
    Exact w s (z.modTile t f) := h.congr (hp z.parts _) rfl rfl rfl rfl rfl rfl rfl rfl

/-- n entries of eight bytes go from SRAM to host memory, one after the other. -/
def State.copyOut (s : State) (dst src : Nat → Nat) (n : Nat) : State :=
  (List.range n).foldl (fun x i => x.hostSet (dst i) 8 (x.sramN (src i) 8)) s

section
variable {dst src : Nat → Nat} {n : Nat}

theorem State.copyOut_succ (s : State) (dst src : Nat → Nat) (n : Nat) :
    s.copyOut dst src (n + 1) = (s.copyOut dst src n).hostSet (dst n) 8 ((s.copyOut dst src n).sramN (src n) 8) := by
  unfold State.copyOut
  rw [List.range_succ, List.foldl_append]
  rfl

theorem State.copyOut_stands (s : State) (dst src : Nat → Nat) (n : Nat) :
    (s.copyOut dst src n).regs = s.regs ∧ (s.copyOut dst src n).sram = s.sram ∧ (s.copyOut dst src n).tiles = s.tiles := by
  induction n with
  | zero => exact ⟨rfl, rfl, rfl⟩
  | succ n ih =>
    rw [State.copyOut_succ]
    exact ih

theorem Exact.copyOut (h : Exact w s z) (hw : ∀ i < n, ∀ k, dst i ≤ k → k < dst i + 8 → w.host k) : Exact w s (z.copyOut dst src n) :=
  h.foldl _ fun _ i hi g => g.hostSet _ (hw i (List.mem_range.1 hi))

/-- Where the places in host memory are apart, each holds its entry. -/
theorem State.memRead_copyOut (hd : ∀ i j, i < j → j < n → dst i + 8 ≤ dst j ∨ dst j + 8 ≤ dst i) {j : Nat} (hj : j < n) :
    memRead hostReset (s.copyOut dst src n).host (dst j) 8 = memRead sramReset s.sram (src j) 8 := by
  induction n with
  | zero => exact absurd hj (Nat.not_lt_zero j)
  | succ n ih =>
    rw [State.copyOut_succ]
    obtain hlt | rfl := Nat.lt_succ_iff_lt_or_eq.1 hj
    · rw [State.memRead_hostSet_apart _ _ (hd j n hlt (Nat.lt_succ_self n))]
      exact ih (fun i k hi hk => hd i k hi (Nat.lt_succ_of_lt hk)) hlt
    · have hb := leBytes_leNat (memRead sramReset s.sram (src j) 8)
      rw [memRead_length] at hb
      unfold State.sramN
      rw [State.memRead_hostSet, (s.copyOut_stands dst src j).2.1, hb]

end

/-! ### One burst -/

/-- How many entries the next burst takes (R76). -/
def State.rqTake (s : State) (t : Nat) : Nat :=
  min (min 32 (s.getF (tileBase t) TIL_RQ_LEVEL.COUNT))
    (s.rqRing t - sub32 (s.getF (tileBase t) TIL_RQ_HPROD.COUNT) (s.getF (tileBase t) TIL_RQ_HCONS.COUNT))

/-- The ring's base in host memory. -/
def State.rqHost (s : State) (t : Nat) : Nat := s.getF (tileBase t) TIL_RQ_HBASE_LO.ADDR * 4096 + s.getF (tileBase t) TIL_RQ_HBASE_HI.ADDR * 2 ^ 32

/-- The i-th entry's place in the ring, and in the queue. -/
def State.rqTo (s : State) (t i : Nat) : Nat := s.rqHost t + 8 * ((s.getF (tileBase t) TIL_RQ_HPROD.COUNT + i) % s.rqRing t)
def State.rqFrom (s : State) (t i : Nat) : Nat := capBase t + 8 * (((s.tile t).rqOut + i) % atLeast1 (s.rqSize t))

/-- What a burst touches. -/
def drainTouch (s : State) (t : Nat) : Touch :=
  { regs := fun a => a = tileBase t + TIL_RQ_HPROD.COUNT.off ∨ a = tileBase t + TIL_RQ_LEVEL.COUNT.off ∨ a = tileBase t + TIL_RQ_CTRL.EN.off
    host := fun a => s.rqHost t ≤ a ∧ a < s.rqHost t + 8 * s.rqRing t + 4
    parts := fun x => { x with tiles := [] } }

theorem State.rqRing_pos (s : State) (t : Nat) : 0 < s.rqRing t := Nat.two_pow_pos _

/-- The queue and the producer count after n entries have gone. -/
def State.rqCount (s z : State) (t n : Nat) : State :=
  (z.modTile t fun x => { x with rqOut := ((s.tile t).rqOut + n) % atLeast1 (z.rqSize t) }).setFs (tileBase t)
    [(TIL_RQ_LEVEL.COUNT, s.getF (tileBase t) TIL_RQ_LEVEL.COUNT - n), (TIL_RQ_HPROD.COUNT, s.getF (tileBase t) TIL_RQ_HPROD.COUNT + n)]

/-- A burst's state but for the end of a drain that is to stop. -/
def State.rqSent (s : State) (t n : Nat) : State :=
  (s.rqCount (s.copyOut (s.rqTo t) (s.rqFrom t) n) t n).hostSet (s.rqHost t + 8 * s.rqRing t) 4
    ((s.rqCount (s.copyOut (s.rqTo t) (s.rqFrom t) n) t n).getF (tileBase t) TIL_RQ_HPROD.COUNT)

/-- A drain that is to stop, stops. -/
def State.rqHalt (s : State) (t : Nat) : State := (s.setF (tileBase t) TIL_RQ_CTRL.EN 0).modTile t fun x => { x with rqStop := false }

theorem State.copyOut_from (s : State) (dst : Nat → Nat) (t n : Nat) (z : State) (hr : z.regs = s.regs) :
    (List.range n).foldl (fun x i => x.hostSet (dst i) 8 (x.sramN (capBase t + 8 * (((s.tile t).rqOut + i) % atLeast1 (x.rqSize t))) 8)) z =
      z.copyOut dst (s.rqFrom t) n := by
  induction n with
  | zero => simp only [State.copyOut, List.range_zero, List.foldl_nil]
  | succ n ih =>
    have hz : (z.copyOut dst (s.rqFrom t) n).rqSize t = s.rqSize t := by
      unfold State.rqSize State.getF State.rd
      rw [(z.copyOut_stands _ _ n).1, hr]
    rw [List.range_succ, List.foldl_append, ih, State.copyOut_succ]
    simp only [List.foldl_cons, List.foldl_nil, hz]
    rfl

theorem State.rqBurst_none {t : Nat} (h : s.isSet (tileBase t) TIL_RQ_CTRL.EN = false ∨ s.hostLink = false ∨ s.rqTake t = 0) : s.rqBurst t = s :=
  if_pos (h.imp (fun e => by rw [e]; exact Bool.false_ne_true) fun e => e.imp_left fun e => by rw [e]; exact Bool.false_ne_true)

theorem State.rqBurst_some {t : Nat} (he : s.isSet (tileBase t) TIL_RQ_CTRL.EN = true) (hl : s.hostLink = true) (hn : s.rqTake t ≠ 0) :
    s.rqBurst t = if ((s.rqSent t (s.rqTake t)).tile t).rqStop ∧ s.getF (tileBase t) TIL_RQ_LEVEL.COUNT = s.rqTake t
      then (s.rqSent t (s.rqTake t)).rqHalt t else s.rqSent t (s.rqTake t) := by
  have hno : ¬ (¬ s.isSet (tileBase t) TIL_RQ_CTRL.EN = true ∨ ¬ s.hostLink = true ∨ s.rqTake t = 0) := by
    rw [he, hl]
    simpa using hn
  have hc := s.copyOut_from (s.rqTo t) t (s.rqTake t) s rfl
  unfold State.rqBurst
  extract_lets b ring prod lvl n base out x y z
  have hx : x = s.copyOut (s.rqTo t) (s.rqFrom t) n := hc
  have hz : z = s.rqSent t n := by
    unfold State.rqSent
    rw [← hx]
    rfl
  refine (if_neg hno).trans ?_
  rw [hz]
  rfl

theorem State.rqSent_getF (s : State) (t n b : Nat) (f : Fld) :
    (s.rqSent t n).getF b f = (s.rqCount (s.copyOut (s.rqTo t) (s.rqFrom t) n) t n).getF b f := State.getF_hostWrite ..

/-- What the end of a drain leaves alone. -/
theorem State.rqHalt_stands (s : State) (t : Nat) : (s.rqHalt t).host = s.host ∧
    ∀ f : Fld, TIL_RQ_CTRL.EN.off ≠ f.off → (s.rqHalt t).getF (tileBase t) f = s.getF (tileBase t) f :=
  ⟨(State.modTile_host ..).trans (State.setF_host ..), fun _ hf => (State.getF_modTile ..).trans (State.getF_setF_off _ _ hf 0)⟩

theorem Exact.rqSent (s : State) {t n : Nat} (hn : n ≤ s.rqRing t) : Exact (drainTouch s t) s (s.rqSent t n) := by
  have h1 : Exact (drainTouch s t) s (s.copyOut (s.rqTo t) (s.rqFrom t) n) := by
    refine (Exact.refl _ s).copyOut fun i _ k hl hu => ?_
    have hm := Nat.mod_lt (s.getF (tileBase t) TIL_RQ_HPROD.COUNT + i) (s.rqRing_pos t)
    unfold State.rqTo at hl hu
    exact ⟨by omega, by omega⟩
  have h2 : Exact (drainTouch s t) s (s.rqCount (s.copyOut (s.rqTo t) (s.rqFrom t) n) t n) := by
    refine (h1.modTile t _ fun _ _ => rfl).setFs ?_
    simp [drainTouch]
  exact h2.hostSet _ fun k hl hu => ⟨by omega, by omega⟩

theorem State.rqCount_getF (s : State) {z : State} (t n : Nat) :
    (s.rqCount z t n).getF (tileBase t) TIL_RQ_LEVEL.COUNT = s.getF (tileBase t) TIL_RQ_LEVEL.COUNT - n ∧
    (s.rqCount z t n).getF (tileBase t) TIL_RQ_HPROD.COUNT = (s.getF (tileBase t) TIL_RQ_HPROD.COUNT + n) % 2 ^ 32 := by
  unfold State.rqCount
  rw [State.setFs_cons, State.setFs_cons, State.setFs_nil]
  have hl := s.getF_lt (tileBase t) TIL_RQ_LEVEL.COUNT
  refine ⟨?_, State.getF_setF_self _ _ _ _ (by decide)⟩
  rw [State.getF_setF_off _ _ (by decide), State.getF_setF_self _ _ _ _ (by decide)]
  exact Nat.mod_eq_of_lt (Nat.lt_of_le_of_lt (Nat.sub_le _ _) hl)

/-- The entries stand in the ring, and behind the ring the producer count. -/
theorem State.rqSent_host (s : State) {t n : Nat} (hn : n ≤ s.rqRing t) :
    (∀ j < n, memRead hostReset (s.rqSent t n).host (s.rqTo t j) 8 = memRead sramReset s.sram (s.rqFrom t j) 8) ∧
    memRead hostReset (s.rqSent t n).host (s.rqHost t + 8 * s.rqRing t) 4 = leBytes 4 (s.getF (tileBase t) TIL_RQ_HPROD.COUNT + n) := by
  have hin (j : Nat) : s.rqTo t j + 8 ≤ s.rqHost t + 8 * s.rqRing t := by
    have hm := Nat.mod_lt (s.getF (tileBase t) TIL_RQ_HPROD.COUNT + j) (s.rqRing_pos t)
    unfold State.rqTo
    omega
  have hd (i j : Nat) (hij : i < j) (hj : j < n) : s.rqTo t i + 8 ≤ s.rqTo t j ∨ s.rqTo t j + 8 ≤ s.rqTo t i := by
    have hne := ring_ne (p := s.getF (tileBase t) TIL_RQ_HPROD.COUNT) hij (Nat.lt_of_lt_of_le hj hn)
    unfold State.rqTo
    omega
  have hh : (s.rqCount (s.copyOut (s.rqTo t) (s.rqFrom t) n) t n).host = (s.copyOut (s.rqTo t) (s.rqFrom t) n).host := by
    unfold State.rqCount
    rw [State.setFs_cons, State.setFs_cons, State.setFs_nil, State.setF_host, State.setF_host, State.modTile_host]
  refine ⟨fun j hj => ?_, ?_⟩
  · unfold State.rqSent
    rw [State.memRead_hostSet_apart _ _ (Or.inl (hin j)), hh]
    exact State.memRead_copyOut hd hj
  · unfold State.rqSent
    have hw : 2 ^ 32 = 256 ^ 4 := by norm_num
    rw [State.memRead_hostSet, (s.rqCount_getF t n).2, hw, leBytes_mod]

/-- A burst of n entries. -/
theorem rqBurst_row (t : Fin 8) {n : Nat} (hn : n = s.rqTake t) (he : s.isSet (tileBase t) TIL_RQ_CTRL.EN = true) (hl : s.hostLink = true)
    (h0 : n ≠ 0) {i : Instr} (hi : exec i s = done (s.rqBurst t)) :
    Completes i s fun z => z.getF (tileBase t) TIL_RQ_HPROD.COUNT = (s.getF (tileBase t) TIL_RQ_HPROD.COUNT + n) % 2 ^ 32 ∧
      z.getF (tileBase t) TIL_RQ_LEVEL.COUNT = s.getF (tileBase t) TIL_RQ_LEVEL.COUNT - n ∧
      (∀ j < n, memRead hostReset z.host (s.rqTo t j) 8 = memRead sramReset s.sram (s.rqFrom t j) 8) ∧
      memRead hostReset z.host (s.rqHost t + 8 * s.rqRing t) 4 = leBytes 4 (s.getF (tileBase t) TIL_RQ_HPROD.COUNT + n) ∧
      Frame (drainTouch s t) s z := by
  have hring : n ≤ s.rqRing t := by
    rw [hn]
    exact (Nat.min_le_right _ _).trans (Nat.sub_le _ _)
  obtain ⟨hlev, hprod⟩ := s.rqCount_getF (z := s.copyOut (s.rqTo t) (s.rqFrom t) n) t n
  rw [← State.rqSent_getF] at hlev hprod
  obtain ⟨hent, hcnt⟩ := s.rqSent_host hring
  have hx := Exact.rqSent s hring
  have hstop := (s.rqSent t n).rqHalt_stands t
  subst hn
  refine completes_done (hi.trans (congrArg done (State.rqBurst_some he hl h0))) ?_
  rw [State.settled_host, State.settled_getF _ (tileBase_follows t.isLt (by decide)), State.settled_getF _ (tileBase_follows t.isLt (by decide))]
  split
  · rw [hstop.1, hstop.2 TIL_RQ_HPROD.COUNT (by decide), hstop.2 TIL_RQ_LEVEL.COUNT (by decide)]
    exact ⟨hprod, hlev, hent, hcnt, ((hx.setF _ (Or.inr (Or.inr rfl))).modTile t _ fun _ _ => rfl).settled⟩
  · exact ⟨hprod, hlev, hent, hcnt, hx.settled⟩

theorem rqDrainBurst_exec (t : Fin 8) : exec (.rqDrainBurst t) s = done (s.rqBurst t) := rfl

theorem rqPartialFlush_exec (t : Fin 8) (h : s.getF (tileBase t) TIL_RQ_LEVEL.COUNT < 32) : exec (.rqPartialFlush t) s = done (s.rqBurst t) := if_pos h

/-- A drain without its switch, its link, or an entry that fits, moves nothing. -/
theorem rqBurst_none_row (t : Fin 8) {i : Instr} (hi : i = .rqDrainBurst t ∨ i = .rqPartialFlush t)
    (h : s.isSet (tileBase t) TIL_RQ_CTRL.EN = false ∨ s.hostLink = false ∨ s.rqTake t = 0) : Completes i s (Frame {} s) := by
  have hn := State.rqBurst_none (t := t) h
  have he : exec i s = done s := by
    obtain rfl | rfl := hi
    · exact congrArg done hn
    · show execRqPartialFlush t s = done s
      unfold execRqPartialFlush
      rw [hn, ite_self]
  exact completes_done he (Exact.refl _ s).settled

/-! ### Writes of a tile's registers -/

/-- The address of a tile's own register lies in its block. -/
theorem locate_tileBase {t o : Nat} (ht : t < 8) (ho : o < 0x10000) : locate (tileBase t + o) = (.til, t, o) := by
  have e : tileBase t + o - 0x800000 = t * 0x100000 + o := by
    unfold tileBase
    omega
  have hb : tileBase t + o < 0x1000000 ∧ 0x800000 ≤ tileBase t + o := by
    unfold tileBase
    omega
  unfold locate
  rw [if_neg (by omega), if_neg (by omega), if_neg (by omega), if_neg (by omega), if_neg (by omega), if_neg (by omega), if_neg (by omega),
    if_neg (by omega), if_pos hb.1]
  dsimp only
  rw [e, if_pos (by omega)]
  refine Prod.ext rfl (Prod.ext ?_ ?_)
  · dsimp only
    omega
  · dsimp only
    omega

/-- An executed write of a register that the tile map names goes to its tile. -/
theorem State.regWrite_til {t o : Nat} (w : Word) (spb : Bool) (ht : t < 8) (ho : o < 0x10000) (hf : (findIn mapTil o).isSome = true)
    (hw : s.writeOk (tileBase t + o) = true) : s.regWrite (tileBase t + o) w spb = s.tilWrite t o w := by
  have hlt : ¬ 0x1000000 ≤ tileBase t + o := by
    unfold tileBase
    omega
  have hfind : ¬ (findReg (tileBase t + o)).isNone = true := by
    unfold findReg
    rw [locate_tileBase ht ho]
    show ¬ (findIn mapTil o).isNone = true
    simpa using Option.isSome_iff_ne_none.1 hf
  rw [State.regWrite, if_neg (not_not.2 hw), if_neg hlt, if_neg hfind, locate_tileBase ht ho]

/-- The plain effect of a write at an address that a table names. -/
theorem State.fieldWrite_found {a : Nat} {r : RegDef} {is : List Nat} (w : Word) (h : findReg a = some (r, is)) :
    s.fieldWrite a w = s.wr a (r.fields.foldl (fun old f => f.write old w) (s.rd a)) := by
  unfold State.fieldWrite
  rw [h]

theorem findIn_rqCtrl : findIn mapTil 0x400 = some (⟨"TIL_RQ_CTRL", 0x400, [], [⟨31, 16, .rw, 0x40⟩, ⟨0, 0, .rw, 0⟩]⟩, []) := rfl

theorem rqCtrl_write (old w : Word) : ([⟨31, 16, .rw, 0x40⟩, ⟨0, 0, .rw, 0⟩] : List FieldDef).foldl (fun old f => f.write old w) old =
    TIL_RQ_CTRL.EN.put (TIL_RQ_CTRL.WMARK.put old (TIL_RQ_CTRL.WMARK.get w)) (TIL_RQ_CTRL.EN.get w) := rfl

/-- A write of TIL_RQ_CTRL stores both of its fields. -/
theorem State.fieldWrite_rqCtrl (s : State) {t : Nat} (ht : t < 8) (w : Word) : s.fieldWrite (tileBase t + 0x400) w =
    s.wr (tileBase t + 0x400) (TIL_RQ_CTRL.EN.put (TIL_RQ_CTRL.WMARK.put (s.rd (tileBase t + 0x400)) (TIL_RQ_CTRL.WMARK.get w)) (TIL_RQ_CTRL.EN.get w)) := by
  have hf : findReg (tileBase t + 0x400) = findIn mapTil 0x400 := by
    unfold findReg
    rw [locate_tileBase ht (by decide)]
    exact rfl
  exact (State.fieldWrite_found w (hf.trans findIn_rqCtrl)).trans (congrArg (s.wr (tileBase t + 0x400)) (rqCtrl_write _ w))

theorem State.tilWrite_rqCtrl (s : State) (t : Nat) (w : Word) :
    s.tilWrite t 0x400 w = (s.fieldWrite (tileBase t + 0x400) w).modTile t fun x => { x with rqStop := false } := by
  unfold State.tilWrite
  dsimp only
  rw [if_neg (by decide), if_neg (by decide), if_pos rfl]

theorem State.tilWrite_rqHcons (s : State) (t : Nat) (w : Word) : s.tilWrite t 0x420 w = s.rqHcons t w := by
  unfold State.tilWrite
  dsimp only
  rw [if_neg (by decide), if_pos rfl]

/-- Both fields then read as written. -/
theorem State.fieldWrite_rqCtrl_getF (s : State) {t : Nat} (ht : t < 8) (w : Word) :
    (s.fieldWrite (tileBase t + 0x400) w).getF (tileBase t) TIL_RQ_CTRL.EN = TIL_RQ_CTRL.EN.get w ∧
    (s.fieldWrite (tileBase t + 0x400) w).getF (tileBase t) TIL_RQ_CTRL.WMARK = TIL_RQ_CTRL.WMARK.get w := by
  have hown (x : Word) (f : Fld) (hf : f.off = 0x400) : (s.wr (tileBase t + 0x400) x).getF (tileBase t) f = f.get x := by
    unfold State.getF
    rw [hf, State.rd_wr_self]
  rw [State.fieldWrite_rqCtrl s ht, hown _ _ rfl, hown _ _ rfl]
  refine ⟨?_, ?_⟩
  · rw [Fld.get_put _ (by decide)]
    exact Nat.mod_eq_of_lt (Fld.get_lt _ w)
  · rw [Fld.get_put_disj _ _ (by decide), Fld.get_put _ (by decide)]
    exact Nat.mod_eq_of_lt (Fld.get_lt _ w)

theorem State.settled_tile (s : State) (t : Nat) : s.settled.tile t = s.tile t := by
  unfold State.tile
  rw [State.settled_tiles]

/-- RQ_EN_CHANGE turns the drain's switch over. -/
theorem rqEnChange_row (t : Fin 8) (w : Word) (hw : s.writeOk (tileBase t + TIL_RQ_CTRL.EN.off) = true) : Completes (.rqEnChange t w) s fun z =>
    z.isSet (tileBase t) TIL_RQ_CTRL.EN = (!s.isSet (tileBase t) TIL_RQ_CTRL.EN) ∧ z.getF (tileBase t) TIL_RQ_CTRL.WMARK = TIL_RQ_CTRL.WMARK.get w ∧
    (z.tile t).rqStop = false ∧ Frame { regs := fun a => a = tileBase t + TIL_RQ_CTRL.EN.off, parts := fun x => { x with tiles := [] } } s z := by
  have he : exec (.rqEnChange t w) s = done (s.tilWrite t 0x400 (TIL_RQ_CTRL.EN.put w (1 - s.getF (tileBase t) TIL_RQ_CTRL.EN))) :=
    congrArg done (State.regWrite_til _ false t.isLt (by decide) (by decide) hw)
  rw [State.tilWrite_rqCtrl] at he
  obtain ⟨hen, hwm⟩ := s.fieldWrite_rqCtrl_getF t.isLt (TIL_RQ_CTRL.EN.put w (1 - s.getF (tileBase t) TIL_RQ_CTRL.EN))
  rw [Fld.get_put _ (by decide)] at hen
  rw [Fld.get_put_disj _ _ (by decide)] at hwm
  have hx : Exact { regs := fun a => a = tileBase t + TIL_RQ_CTRL.EN.off, parts := fun x => { x with tiles := [] } } s
      (s.fieldWrite (tileBase t + 0x400) (TIL_RQ_CTRL.EN.put w (1 - s.getF (tileBase t) TIL_RQ_CTRL.EN))) := by
    rw [State.fieldWrite_rqCtrl s t.isLt]
    exact (Exact.refl _ s).wr _ rfl
  refine completes_done he ⟨?_, ?_, ?_, (hx.modTile t _ fun _ _ => rfl).settled⟩
  · rw [State.settled_isSet _ (tileBase_follows t.isLt (by decide)), State.isSet_of_getF ((State.getF_modTile ..).trans hen)]
    unfold State.isSet
    have hlt := s.getF_lt (tileBase t) TIL_RQ_CTRL.EN
    obtain h0 | h1 : s.getF (tileBase t) TIL_RQ_CTRL.EN = 0 ∨ s.getF (tileBase t) TIL_RQ_CTRL.EN = 1 := by
      dsimp only at hlt
      omega
    · rw [h0]
      rfl
    · rw [h1]
      rfl
  · rw [State.settled_getF _ (tileBase_follows t.isLt (by decide)), State.getF_modTile]
    exact hwm
  · rw [State.settled_tile, State.tile_modTile_self]

theorem rqHconsWrite_row (t : Fin 8) (w : Word) (hw : s.writeOk (tileBase t + TIL_RQ_HCONS.COUNT.off) = true)
    (hr : sub32 (s.getF (tileBase t) TIL_RQ_HPROD.COUNT) w.toNat ≤ s.rqRing t) : Completes (.rqHconsWrite t w) s fun z =>
    z.rd (tileBase t + TIL_RQ_HCONS.COUNT.off) = w ∧ Frame { regs := fun a => a = tileBase t + TIL_RQ_HCONS.COUNT.off } s z := by
  have hz : s.writeReg (tileBase t) TIL_RQ_HCONS.COUNT w = s.setF (tileBase t) TIL_RQ_HCONS.COUNT w.toNat :=
    (State.regWrite_til _ false t.isLt (by decide) (by decide) hw).trans ((s.tilWrite_rqHcons t w).trans (if_pos hr))
  refine completes_done (congrArg done hz) ⟨?_, ((Exact.refl _ s).setF _ rfl).settled⟩
  rw [State.settled_rd _ (tileBase_follows t.isLt (by decide)), State.rd_setF_whole _ _ rfl rfl]
  exact BitVec.ofNat_toNat _ _

/-- A consumer count that the ring cannot hold is discarded. -/
theorem rqHconsWrite_refused_row (t : Fin 8) (w : Word) (hr : s.rqRing t < sub32 (s.getF (tileBase t) TIL_RQ_HPROD.COUNT) w.toNat) :
    Completes (.rqHconsWrite t w) s (Frame {} s) := by
  have hz : s.writeReg (tileBase t) TIL_RQ_HCONS.COUNT w = s := by
    by_cases hw : s.writeOk (tileBase t + TIL_RQ_HCONS.COUNT.off) = true
    · exact (State.regWrite_til _ false t.isLt (by decide) (by decide) hw).trans ((s.tilWrite_rqHcons t w).trans (if_neg (Nat.not_le.2 hr)))
    · exact if_pos hw
  exact completes_done (congrArg done hz) (Exact.refl _ s).settled

/-- Settles O22, clause by clause: a burst copies its entries to places of the ring that differ, as it takes no more than the ring holds. -/
theorem drainRows : Obligations.DrainRows := by
  unfold Obligations.DrainRows
  intro t s n base prod out hn hb hp ho
  subst hb hp ho
  have hn' : n = s.rqTake t := hn
  refine ⟨fun i hi he hl h0 => ?_, fun i hi h => rqBurst_none_row t hi (hn' ▸ h), fun w hw => rqEnChange_row t w hw,
    fun w hw hr => rqHconsWrite_row t w hw hr, fun w hr => rqHconsWrite_refused_row t w hr⟩
  refine rqBurst_row t hn' he hl h0 ?_
  obtain rfl | ⟨rfl, h32⟩ := hi
  · exact rqDrainBurst_exec t
  · exact rqPartialFlush_exec t h32

end Sys2Proof.Machine
end

section
/-! PROOFS. CH_MEASURE (R64, R67, R69, R248). Settles O23. -/

namespace Sys2Proof.Machine

open Sys2Proof (Instr)

variable {w : Touch} {s y z : State} {r : CmdRef} {c : Cmd}

/-! ### Commands that are started -/

theorem Cmd.Same.trans {a b c : Cmd} (h : a.Same b) (g : b.Same c) : a.Same c where
  sq := g.sq.trans h.sq
  tag := g.tag.trans h.tag
  op := g.op.trans h.op
  words := g.words.trans h.words
  chans := g.chans.trans h.chans
  vanish := g.vanish.trans h.vanish
  admitted := g.admitted.trans h.admitted
  started := g.started.trans h.started
  ended e := by
    have hb := h.ended e
    exact (g.ended (by rw [hb]; exact e)).trans hb

theorem Cmd.Same.isRef {a b : Cmd} (h : a.Same b) (r : CmdRef) : b.isRef r = a.isRef r := by
  unfold Cmd.isRef
  rw [h.sq, h.tag]

/-- A ready command that completes awaits its start. -/
theorem State.ready_awaits {op : Nat} (h : s.ready? r op = some c) (hv : c.vanish = false) : s.Awaits r := by
  unfold State.ready? State.cmd? at h
  split at h
  · rename_i k hk
    split at h
    · rename_i hadm
      obtain rfl := Option.some.inj h
      have hp := List.find?_some hk
      simp only [decide_eq_true_eq] at hp
      obtain ⟨hsq, htag, hend⟩ := hp
      exact ⟨k, List.mem_of_find?_eq_some hk, ⟨decide_eq_true ⟨hsq, htag⟩, Bool.eq_false_iff.2 hadm.2.1, hend, hv⟩⟩
    · cases h
  · cases h

/-- The command that a start makes of one that awaited it. -/
theorem State.Awaits.startCmd (h : s.Awaits r) (busy : List Nat) (acc : Nat) :
    ∃ k ∈ (s.startCmd r busy acc).cmds, k.isRef r = true ∧ k.started = true ∧ k.vanish = false ∧
      (busy = [] → k.ending = some { status := scOK, result := acc }) := by
  obtain ⟨c, hc, href, -, hend, hv⟩ := h
  refine ⟨_, List.mem_map.2 ⟨c, hc, rfl⟩, ?_⟩
  rw [if_pos ⟨hend, href⟩]
  dsimp only
  by_cases hb : busy = []
  · rw [if_pos hb]
    exact ⟨href, rfl, hv, fun _ => rfl⟩
  · rw [if_neg hb]
    exact ⟨href, rfl, hv, fun e => absurd e hb⟩

/-- A start leaves every other command as it is. -/
theorem State.mem_startCmd (hc : c ∈ s.cmds) (hr : c.isRef r = false) (busy : List Nat) (acc : Nat) : c ∈ (s.startCmd r busy acc).cmds :=
  List.mem_map.2 ⟨c, hc, if_neg fun e => by
    rw [hr] at e
    exact Bool.false_ne_true e.2⟩

theorem State.AdcStep.trans (h : s.AdcStep y) (g : y.AdcStep z) : s.AdcStep z := by
  obtain ⟨_, _, _, _, rfl⟩ := h
  obtain ⟨_, _, _, _, rfl⟩ := g
  exact ⟨_, _, _, _, rfl⟩

theorem State.Kicks.trans (h : s.Kicks y) (g : y.Kicks z) : s.Kicks z where
  rd a ha := (g.rd a ha).trans (h.rd a ha)
  eng c := ⟨(g.eng c).1.trans (h.eng c).1, fun e => (g.eng c).2 ((h.eng c).2 e)⟩

section
variable {p : Nat → Prop} {on on' : Prop} {busy : List Nat} {acc : Nat}

/-- Work of converters, the start of command r, more work: every other command is the same. -/
theorem State.AdcWork.others (h : State.AdcWork p on s y) (g : State.AdcWork p on' (y.startCmd r busy acc) z) (hc : c ∈ s.cmds)
    (hr : c.isRef r = false) (hv : c.vanish = false) : ∃ k ∈ z.settled.cmds, c.Same k := by
  obtain ⟨a, ha, hca⟩ := h.settles.cmds c hc (Or.inl hv)
  obtain ⟨b, hb, hab⟩ := g.settles.cmds a (State.mem_startCmd ha ((hca.isRef r).trans hr) busy acc) (Or.inl (hca.vanish.trans hv))
  obtain ⟨k, hk, hbk⟩ := z.settles.cmds b hb (Or.inl (hab.vanish.trans (hca.vanish.trans hv)))
  exact ⟨k, hk, (hca.trans hab).trans hbk⟩

theorem State.AdcWork.startFrame (h : State.AdcWork p on s y) (g : State.AdcWork p on' (y.startCmd r busy acc) z) (hp : ∀ u, p u → w.adcs u) :
    Frame w s z.settled :=
  State.AdcStep.frame (.refl w s) ((h.step.mapCmds _ _).trans g.step) ((h.kicks.mapCmds _ _).trans g.kicks) fun u hu =>
    (g.same u fun e => hu (hp u e)).trans (h.same u fun e => hu (hp u e))

/-- Command r is under way after its start amid work of converters. -/
theorem State.AdcWork.begun (h : State.AdcWork p on s y) (g : State.AdcWork p on' (y.startCmd r busy acc) z) (hr : s.Awaits r)
    (hp : ∀ u, p u → w.adcs u) : Begun r w s z.settled where
  started := by
    obtain ⟨a, ha, href, hst, hv, -⟩ := (h.awaits r hr).startCmd busy acc
    obtain ⟨b, hb, hab⟩ := g.settles.cmds a ha (Or.inl hv)
    obtain ⟨k, hk, hbk⟩ := z.settles.cmds b hb (Or.inl (hab.vanish.trans hv))
    have hak := hab.trans hbk
    exact ⟨k, hk, (hak.isRef r).trans href, hak.started.trans hst⟩
  others _ hc hr hv := h.others g hc hr hv
  frame := h.startFrame g hp

/-- Command r ends with OK where its start awaits no unit. -/
theorem State.AdcWork.answered (h : State.AdcWork p on s y) (hr : s.Awaits r) (hp : ∀ u, p u → w.adcs u) :
    Answered r { status := scOK } w s (y.startCmd r [] 0).settled where
  ended := by
    obtain ⟨k, hk, href, -, -, he⟩ := (h.awaits r hr).startCmd [] 0
    have hend := he rfl
    exact ⟨k, State.settled_ended hk (by rw [hend]; exact Option.some_ne_none _), href, hend⟩
  others _ hc hr hv := h.others (.refl p True _) hc hr hv
  frame := h.startFrame (.refl p True _) hp

end

/-! ### Work on every channel of a command -/

/-- What a step does to a converter that it names and to no other, a pass through a list does once, where doing it again adds nothing. -/
theorem State.foldl_adc {f : State → Nat → State} {g : Adc → Adc} (hf : ∀ x u v, (f x u).adc v = if u = v then g (x.adc v) else x.adc v)
    (hg : ∀ a, g (g a) = g a) (l : List Nat) (v : Nat) : (l.foldl f s).adc v = if v ∈ l then g (s.adc v) else s.adc v := by
  induction l generalizing s with
  | nil => rfl
  | cons u l ih =>
    rw [List.foldl_cons, ih, hf]
    by_cases hv : v ∈ l <;> by_cases hu : u = v
    · simp [hv, hu, hg]
    · simp [hv, hu]
    · simp [hu, hg]
    · simp [hv, hu, Ne.symm hu]

theorem foldl_fixed {f : State → Nat → State} {l : List Nat} (h : ∀ k ∈ l, f s k = s) : l.foldl f s = s :=
  foldl_keeps_mem (R := fun x => x = s) l rfl fun x k hk e => by rw [e, h k hk]

/-- A converter as a STOP leaves it (R64). -/
def Adc.stop (a : Adc) : Adc :=
  if a.running = false then a
  else if a.conv = none then { a with running := false, stopPend := false, restart := false }
  else { a with stopPend := true }

theorem Adc.stop_stop (a : Adc) : a.stop.stop = a.stop := by
  unfold Adc.stop
  split_ifs <;> simp_all

theorem State.adcStop_adc (s : State) (u v : Nat) : (s.adcStop u).adc v = if u = v then (s.adc v).stop else s.adc v := by
  split
  · rename_i e
    subst e
    by_cases hr : (s.adc u).running = true
    · have hrun : ¬ (s.adc u).running = false := by simp [hr]
      by_cases hc : (s.adc u).conv = none
      · rw [State.adcStop_end hr hc, State.adcEnd_adc, Adc.stop, if_neg hrun, if_pos hc]
      · rw [State.adcStop_pend hr hc, State.adc_modAdc_self, Adc.stop, if_neg hrun, if_neg hc]
    · have he : s.adcStop u = s := if_pos hr
      rw [he, Adc.stop, if_pos (Bool.eq_false_iff.2 hr)]
  · rename_i e
    exact ((State.AdcWork.refl (fun x => x = u) True s).adcStop rfl).same v fun h => e h.symm

/-- All of a command's sequences start, stop, or take a request: work of their converters. -/
theorem State.AdcWork.foldl {f : State → Nat → State} {l : List Nat} (hh : ∀ k ∈ l, (s.adc k).hold ≠ 3)
    (hf : ∀ x k, k ∈ l → State.AdcWork (fun u => ∃ k ∈ l, u = k) True s x → (x.adc k).hold ≠ 3 → State.AdcWork (fun u => ∃ k ∈ l, u = k) True s (f x k)) :
    State.AdcWork (fun u => ∃ k ∈ l, u = k) True s (l.foldl f s) :=
  foldl_keeps_mem l (.refl _ _ s) fun x k hk h => hf x k hk h ((h.goes k).hold (hh k hk))

/-- What CH_MEASURE touches. -/
def measureTouch (c : Cmd) : Touch := { regs := fun a => ∃ k ∈ c.chans, inFe k a, adcs := fun u => ∃ k ∈ c.chans, u = k }

/-! ### CH_MEASURE_START -/

theorem measureStart_exec (h : s.ready? r opMEASURE = some c) (hp : c.pf 0x14 1 0 = 0) : exec (.chMeasureStart r) s =
    done ((c.chans.foldl State.adcStart s).startCmd r (c.chans.filter fun k => !(c.chans.foldl State.adcStart s).adcBegun k) 0) := by
  show execChMeasureStart r s = _
  unfold execChMeasureStart
  rw [h]
  exact if_neg (not_not.2 hp)

theorem measureStart_row (h : s.ready? r opMEASURE = some c) (hv : c.vanish = false) (hh : ∀ k ∈ c.chans, (s.adc k).hold ≠ 3) (hp : c.pf 0x14 1 0 = 0) :
    Completes (.chMeasureStart r) s (Begun r (measureTouch c) s) := by
  have hw := State.AdcWork.foldl (f := State.adcStart) hh fun x k hk g e => g.adcStart ⟨k, hk, rfl⟩ trivial e
  exact completes_done (measureStart_exec h hp) (hw.begun (.refl _ True _) (State.ready_awaits h hv) fun _ e => e)

theorem Adc.Begun.adcBegun {u : Nat} (h : (s.adc u).Begun) : s.adcBegun u = true := by
  obtain ⟨k, hk, -, hi, -⟩ := h.conv
  unfold State.adcBegun
  dsimp only
  rw [h.running, h.restart, hk]
  simp [hi]

/-- A single idle channel starts at once, so the command completes. -/
theorem measureStart_single_row {k : Nat} (h : s.ready? r opMEASURE = some c) (hv : c.vanish = false) (hp : c.pf 0x14 1 0 = 0) (hc : c.chans = [k])
    (hk : k < 1024) (hi : s.AdcIdle k) (hm : s.getF (feB k) CHN_ADC_CTRL.MODE = 1 ∨ s.getF (feB k) CHN_ADC_CTRL.MODE = 2) :
    Completes (.chMeasureStart r) s fun t => Answered r { status := scOK } { regs := fun a => inFe k a, adcs := fun u => u = k } s t ∧
      (t.adc k).running = true ∧ ∃ x, (t.adc k).conv = some x ∧ x.entry = 0 ∧ x.inj = none := by
  have hb : ((s.adcStart k).adc k).Begun := hi.start (by omega) hm (by simp [State.remapServes]; omega)
  have he := measureStart_exec h hp
  rw [hc, List.foldl_cons, List.foldl_nil, List.filter_cons_of_neg (by rw [hb.adcBegun]; decide), List.filter_nil] at he
  have hw := (State.AdcWork.refl (fun u => u = k) True s).adcStart rfl trivial (by rw [hi.hold]; decide)
  have hs : (((s.adcStart k).startCmd r [] 0).adc k).Begun := hb
  obtain ⟨hrun, -, x, hx, hent, hinj, -⟩ := (State.settled_marked hs.rests).begun hs
  exact completes_done he ⟨hw.answered (State.ready_awaits h hv) fun _ e => e, hrun, x, hx, hent, hinj⟩

/-! ### CH_MEASURE_STOP -/

theorem measureStop_exec (h : s.ready? r opMEASURE = some c) (hp : c.pf 0x14 1 0 = 1) : exec (.chMeasureStop r) s =
    done ((c.chans.foldl State.adcStop s).startCmd r (c.chans.filter fun k => ((c.chans.foldl State.adcStop s).adc k).running) 0) := by
  show execChMeasureStop r s = _
  unfold execChMeasureStop
  rw [h]
  exact if_neg (not_not.2 hp)

theorem measureStop_row (h : s.ready? r opMEASURE = some c) (hv : c.vanish = false) (hh : ∀ k ∈ c.chans, (s.adc k).hold ≠ 3) (hp : c.pf 0x14 1 0 = 1) :
    Completes (.chMeasureStop r) s fun t => Begun r (measureTouch c) s t ∧
      (∀ k ∈ c.chans, (s.adc k).running = true → (s.adc k).conv ≠ none → (t.adc k).stopPend = true) ∧
      (∀ k ∈ c.chans, (s.adc k).running = true → (s.adc k).conv = none → (t.adc k).running = false) := by
  have hw := State.AdcWork.foldl (f := State.adcStop) hh fun x k hk g _ => g.adcStop ⟨k, hk, rfl⟩
  refine completes_done (measureStop_exec h hp) ⟨hw.begun (.refl _ True _) (State.ready_awaits h hv) fun _ e => e, fun k hk hr hc => ?_, fun k hk hr hc => ?_⟩
  all_goals
    have hz := State.foldl_adc (s := s) State.adcStop_adc Adc.stop_stop c.chans k
    rw [if_pos hk, Adc.stop, hr] at hz
    generalize c.chans.foldl State.adcStop s = y at hz ⊢
  · rw [if_neg (by decide), if_neg hc] at hz
    have hrest : (y.startCmd r (c.chans.filter fun k => (y.adc k).running) 0).adcRests k := Or.inl (by
      show (y.adc k).conv ≠ none
      rw [hz]
      exact hc)
    exact (State.settled_marked hrest).stopPend.trans (congrArg Adc.stopPend hz)
  · rw [if_neg (by decide), if_pos hc] at hz
    exact State.settled_halted (congrArg Adc.running hz)

/-- Where no sequence runs, nothing is awaited. -/
theorem measureStop_none_row (h : s.ready? r opMEASURE = some c) (hv : c.vanish = false) (hp : c.pf 0x14 1 0 = 1)
    (hr : ∀ k ∈ c.chans, (s.adc k).running = false) : Completes (.chMeasureStop r) s (Answered r { status := scOK } {} s) := by
  have hfix : c.chans.foldl State.adcStop s = s := foldl_fixed fun k hk => if_pos (by rw [hr k hk]; exact Bool.false_ne_true)
  have hnone : (c.chans.filter fun k => (s.adc k).running) = [] := List.filter_eq_nil_iff.2 fun k hk => by
    rw [hr k hk]
    exact Bool.false_ne_true
  have he := measureStop_exec h hp
  rw [hfix, hnone] at he
  exact completes_done he ((State.AdcWork.refl (fun _ => False) True s).answered (State.ready_awaits h hv) fun _ e => e.elim)

/-! ### CH_MEASURE_INJECT -/

/-- The request that CH_MEASURE_INJECT places on each of its channels. -/
def Cmd.request (c : Cmd) (r : CmdRef) : Inj := { injOf (BitVec.ofNat 32 (c.p 0x18)) with owner := some r, internal := bitB (c.p 0x14) 8 }

theorem measureInject_exec (h : s.ready? r opMEASURE = some c) (hp : c.pf 0x14 1 0 = 2) : exec (.chMeasureInject r) s =
    done (c.chans.foldl (fun x k => x.adcInjectHeld k (c.request r)) (s.startCmd r c.chans 0)) := by
  show execChMeasureInject r s = _
  unfold execChMeasureInject
  rw [h]
  exact if_neg (not_not.2 hp)

theorem measureInject_row (h : s.ready? r opMEASURE = some c) (hv : c.vanish = false) (hh : ∀ k ∈ c.chans, (s.adc k).hold ≠ 3) (hp : c.pf 0x14 1 0 = 2) :
    Completes (.chMeasureInject r) s (Begun r (measureTouch c) s) := by
  have hw := State.AdcWork.foldl (s := s.startCmd r c.chans 0) (f := fun x k => x.adcInjectHeld k (c.request r)) hh
    fun x k hk g e => g.adcInjectHeld ⟨k, hk, rfl⟩ e _
  exact completes_done (measureInject_exec h hp) ((State.AdcWork.refl _ True s).begun hw (State.ready_awaits h hv) fun _ e => e)

/-- While a conversion is in hand, the request waits behind it. -/
theorem measureInject_single_row {k : Nat} (h : s.ready? r opMEASURE = some c) (hp : c.pf 0x14 1 0 = 2) (hc : c.chans = [k]) (hn : (s.adc k).conv ≠ none)
    (hroom : s.adcRoom k = true) : Completes (.chMeasureInject r) s fun t => (t.adc k).inj = (s.adc k).inj ++ [c.request r] := by
  have he := measureInject_exec h hp
  rw [hc, List.foldl_cons, List.foldl_nil] at he
  have hn' : ((s.startCmd r [k] 0).adc k).conv ≠ none := hn
  have hz := State.adcPlace_adc (c.request r) hn'
  have hplace : (s.startCmd r [k] 0).adcInjectHeld k (c.request r) = (s.startCmd r [k] 0).adcPlace k (c.request r) := if_pos hroom
  refine completes_done he ?_
  rw [hplace, (State.settled_marked (Or.inl (by rw [hz]; exact hn'))).inj, hz]
  rfl

/-- Settles O23, clause by clause: the effect on the channels is work of their converters, before which or after which the command is started. -/
theorem measureRows : Obligations.MeasureRows := by
  unfold Obligations.MeasureRows
  intro cmd c s h hv hh
  refine ⟨measureStart_row h hv hh, fun k hp hc hk hrun hconv hinj _ hbusy hhold hrot hm => ?_, fun hp => ?_, measureStop_none_row h hv,
    measureInject_row h hv hh, fun k hp hc hn hroom => measureInject_single_row h hp hc hn hroom⟩
  · have hsus : s.adcSuspended k = false := by simp [State.adcSuspended]; omega
    exact measureStart_single_row h hv hp hc hk ⟨hrun, hconv, hinj, hbusy, hhold, hrot, hsus⟩ hm
  · obtain ⟨t, he, hb, hpend, hend⟩ := measureStop_row h hv hh hp
    exact ⟨t, he, hb, hpend, fun k hk hr hc _ => hend k hk hr hc⟩

end Sys2Proof.Machine
end

section
/-! SUPPORT. What the window comparators' own operations can do (R82 to R91): the end of a trip's condition, an offer to the trigger unit, the
trip of a channel that no rotation is bound to and that its own front-end serves (R87). -/

namespace Sys2Proof.Machine

open Sys2Proof (Instr)

variable {w : Touch} {s z : State} {u k cls : Nat}

/-! ### One comparator -/

theorem State.cmp_modCmp (s : State) (u k v j : Nat) (f : Cmp → Cmp) :
    (s.modCmp u k f).cmp v j = if 2 * u + k = 2 * v + j then f (s.cmp u k) else s.cmp v j := tabGet_tabSet _ _ _ _ _

theorem Exact.modCmp (h : Exact w s z) (u k : Nat) (f : Cmp → Cmp) (hp : ∀ x l, w.parts { x with cmps := l } = w.parts x) :
    Exact w s (z.modCmp u k f) := h.congr (hp z.parts _) rfl rfl rfl rfl rfl rfl rfl rfl

theorem Exact.cmps (h : Exact w s z) (hp : ∀ x, (w.parts x).cmps = x.cmps) : z.cmps = s.cmps := by
  have e := congrArg State.cmps h.parts
  rw [hp, hp] at e
  exact e

theorem State.cmp_of_cmps (h : z.cmps = s.cmps) (u k : Nat) : z.cmp u k = s.cmp u k := by
  unfold State.cmp
  rw [h]

theorem State.settled_cmp (s : State) (u k : Nat) : s.settled.cmp u k = s.cmp u k := State.cmp_of_cmps s.settles.cmps u k

/-! ### The end of a trip's condition -/

theorem State.condEnd_eq (s : State) (cls scope unit : Nat) : ∃ l, s.condEnd cls scope unit = { s with insts := l } :=
  ite_keeps (R := fun x => ∃ l, x = { s with insts := l }) (fun _ => ⟨_, rfl⟩) fun _ => ⟨s.insts, rfl⟩

/-- A tripped comparator gives up the condition: its mark goes, and perhaps the instance's. -/
theorem State.cmpCondEnd_of_tripped (h : (s.cmp u k).tripped = true) :
    ∃ l, s.cmpCondEnd u k = { s.modCmp u k fun c => { c with tripped := false } with insts := l } := by
  unfold State.cmpCondEnd
  rw [if_pos h]
  exact ite_keeps (R := fun x => ∃ l, x = { s.modCmp u k fun c => { c with tripped := false } with insts := l })
    (fun _ => ⟨s.insts, rfl⟩) fun _ => State.condEnd_eq _ _ _ _

theorem State.cmpCheckCond_eq (s : State) (u k : Nat) : ∃ c l, s.cmpCheckCond u k = { s with cmps := c, insts := l } := by
  refine ite_keeps (R := fun x => ∃ c l, x = { s with cmps := c, insts := l }) (fun _ => ⟨s.cmps, s.insts, rfl⟩) fun _ => ?_
  by_cases h : (s.cmp u k).tripped = true
  · obtain ⟨l, e⟩ := State.cmpCondEnd_of_tripped h
    exact ⟨_, l, e⟩
  · exact ⟨s.cmps, s.insts, if_neg h⟩

theorem State.cmpCheckCond_isSet (s : State) (u k b : Nat) (f : Fld) : (s.cmpCheckCond u k).isSet b f = s.isSet b f := by
  obtain ⟨_, _, e⟩ := s.cmpCheckCond_eq u k
  rw [e]
  rfl

theorem Exact.cmpCheckCond (h : Exact w s z) (u k : Nat) (hp : ∀ x c l, w.parts { x with cmps := c, insts := l } = w.parts x) :
    Exact w s (z.cmpCheckCond u k) := by
  obtain ⟨c, l, e⟩ := z.cmpCheckCond_eq u k
  rw [e]
  exact h.congr (hp z.parts c l) rfl rfl rfl rfl rfl rfl rfl rfl

/-- A comparator that holds no condition, or has left it, counts as not tripped. -/
theorem State.cmpCondEnd_cmp (s : State) (u k v j : Nat) :
    (s.cmpCondEnd u k).cmp v j = (s.modCmp u k fun c => { c with tripped := false }).cmp v j := by
  by_cases h : (s.cmp u k).tripped = true
  · obtain ⟨l, e⟩ := State.cmpCondEnd_of_tripped h
    rw [e]
    rfl
  · have hc : { s.cmp u k with tripped := false } = s.cmp u k := by rw [← Bool.eq_false_iff.2 h]
    have e : s.cmpCondEnd u k = s := if_neg h
    rw [e, State.cmp_modCmp, hc]
    by_cases hv : 2 * u + k = 2 * v + j
    · rw [if_pos hv]
      unfold State.cmp
      rw [hv]
    · rw [if_neg hv]

/-- The check of comparator k's condition changes no more of it than whether it counts as tripped. -/
theorem State.cmpCheckCond_cmp (s : State) (u k : Nat) : ∃ b, (s.cmpCheckCond u k).cmp u k = { s.cmp u k with tripped := b } := by
  refine ite_keeps (R := fun x => ∃ b, x.cmp u k = { s.cmp u k with tripped := b }) (fun _ => ⟨(s.cmp u k).tripped, rfl⟩) fun _ => ⟨false, ?_⟩
  rw [State.cmpCondEnd_cmp, State.cmp_modCmp_self]

theorem State.cmpCheckCond_cmp_ne (s : State) {u k v j : Nat} (h : 2 * u + k ≠ 2 * v + j) : (s.cmpCheckCond u k).cmp v j = s.cmp v j := by
  refine ite_keeps (R := fun x => x.cmp v j = s.cmp v j) (fun _ => rfl) fun _ => ?_
  rw [State.cmpCondEnd_cmp, State.cmp_modCmp, if_neg h]

theorem State.cmpCheckCond_left (hr : outside k (s.cmp u k).raw = false) (hf : outside k (s.isSet (feB u) (csFOUT k)) = false) :
    ((s.cmpCheckCond u k).cmp u k).tripped = false := by
  unfold State.cmpCheckCond
  rw [hr, hf, if_neg (by decide), State.cmpCondEnd_cmp, State.cmp_modCmp_self]

/-! ### The gate and the offer -/

theorem State.cmpGate_closed (h : s.gateOpen u k = false ∨ outside k (s.cmp u k).raw = false) : s.cmpGate u k = s :=
  if_neg fun e => by
    rw [Bool.and_eq_true] at e
    rcases h with h | h
    · exact Bool.false_ne_true (h.symm.trans e.1)
    · exact Bool.false_ne_true (h.symm.trans e.2)

theorem State.cmpGate_open (hg : s.gateOpen u k = true) (ho : outside k (s.cmp u k).raw = true) : s.cmpGate u k = s.cmpTrip u k :=
  if_pos (by rw [hg, ho]; rfl)

theorem State.offer_eq (s : State) (t kind unit code tc : Nat) (coarse : Bool) : ∃ l, s.offer t kind unit code tc coarse = { s with trigs := l } := by
  unfold State.offer
  extract_lets b met now g
  refine ite_keeps (R := fun x => ∃ l, x = { s with trigs := l }) (fun _ => ⟨s.trigs, rfl⟩) fun _ => ?_
  refine ite_keeps (R := fun x => ∃ l, x = { s with trigs := l }) (fun _ => ?_) fun _ => ?_
  · exact ite_keeps (R := fun x => ∃ l, x = { s with trigs := l }) (fun _ => ⟨_, rfl⟩) fun _ => ⟨_, rfl⟩
  · exact ite_keeps (R := fun x => ∃ l, x = { s with trigs := l }) (fun _ => ⟨_, rfl⟩) fun _ => ⟨s.trigs, rfl⟩

/-! ### The trip of a channel with its own front-end -/

/-- Channel u is served by its own front-end, and no rotation is bound to it; it may be running. -/
structure State.OwnFe (s : State) (u : Nat) : Prop where
  lt : u < 1024
  phys : s.phys u = u
  rot : s.noRot [u]

theorem State.OwnFe.abandon (h : s.OwnFe u) : s.abandonRotation u = s :=
  if_neg fun e => (h.rot u (List.mem_singleton.2 rfl)).elim (fun n => Bool.false_ne_true (n.symm.trans e.1)) fun n => n e.2

theorem State.OwnFe.exact (h : s.OwnFe u) (hx : Exact w s z) (hr : ∀ x, (w.parts x).rots = x.rots)
    (hm : z.isSet (feB u) CHN_FE_STATUS.REMAPPED = s.isSet (feB u) CHN_FE_STATUS.REMAPPED) : z.OwnFe u where
  lt := h.lt
  phys := (State.phys_eq hm).trans h.phys
  rot j hj := by
    have er : z.rot (shadeOf j) = s.rot (shadeOf j) := by
      unfold State.rot
      rw [hx.rots hr]
    rw [er]
    exact h.rot j hj

theorem State.OwnFe.tripped (h : s.OwnFe u) (cls : Nat) : (s.tripped u cls).OwnFe u :=
  h.exact ((Exact.refl (tripTouch u) s).tripped (tripTouch_trip u) cls) (fun _ => rfl) (s.tripped_status u cls ⟨by decide, by decide⟩)

theorem State.OwnFe.tripFe (h : s.OwnFe u) (cls : Nat) : s.tripFe u cls = s.tripped u cls := (if_pos h.lt).trans (h.tripped cls).abandon

/-- The Amber action of a class that ends no run is the trip of the channel. -/
theorem State.OwnFe.amberChannel (h : s.OwnFe u) (hc : runEnds cls = false) : s.amberChannel u cls = s.tripped u cls := by
  unfold State.amberChannel
  dsimp only
  rw [h.phys, h.tripFe, (h.tripped cls).abandon, hc]
  rfl

/-- A trip writes two registers of its front-end. -/
theorem State.tripped_getF_off (s : State) (u cls : Nat) {f : Fld} (h14 : f.off ≠ 0x14) (h40 : f.off ≠ 0x40) :
    (s.tripped u cls).getF (feB u) f = s.getF (feB u) f := by
  have hmarks : ∀ e ∈ openMarks, e.1.off = 0x14 := by decide
  have h1 : (s.setFs (feB u) openMarks).getF (feB u) f = s.getF (feB u) f :=
    foldl_keeps_mem (R := fun x => x.getF (feB u) f = s.getF (feB u) f) openMarks rfl fun x e he g =>
      (x.getF_setF_off (feB u) (by rw [hmarks e he]; exact h14.symm) e.2).trans g
  have h2 : (s.openFe u).getF (feB u) f = s.getF (feB u) f := by
    rw [State.openFe_eq, State.outputOpened_getF, State.sineKill_getF _ _ h40, State.openDrive_getF, h1]
  exact ((s.openFe u).getF_setF_off (feB u) (f := CHN_FE_STATUS.TRIPPED) h14.symm 1).trans h2

/-- A trip ends the conditions of OVERCURRENT and CONTACT_OPEN of its channel, and touches no other instance. -/
theorem State.tripped_inst_ne (s : State) (hu : u < 1024) (cls : Nat) {n : Nat} (h1 : n ≠ instKey 0x01 scCHANNEL u)
    (h3 : n ≠ instKey 0x03 scCHANNEL u) : (s.tripped u cls).inst n = s.inst n := by
  have e : (s.openFe u).inst n = ((((s.openDrive u).sineKill u).condEnd 0x01 scCHANNEL u).condEnd 0x03 scCHANNEL u).inst n := by
    rw [State.openFe_eq]
    unfold State.outputOpened State.faultUnit
    rw [if_pos hu]
  have hd : ((s.openDrive u).sineKill u).inst n = s.inst n := s.openDrive_inst u n
  have ho : (s.openFe u).inst n = s.inst n := by rw [e, State.condEnd_inst_ne _ h3, State.condEnd_inst_ne _ h1, hd]
  exact ho

theorem State.tripped_cmp (s : State) (u cls v j : Nat) : (s.tripped u cls).cmp v j = s.cmp v j :=
  State.cmp_of_cmps (((Exact.refl (tripTouch u) s).tripped (tripTouch_trip u) cls).cmps fun _ => rfl) v j

/-- A first detection at Amber of a channel's fault enters it with its DETAIL, then acts on the channel. -/
theorem State.detect_amber (hu : u < 1024) (d : Nat) (hf : (s.inst (instKey cls scCHANNEL u)).force = false)
    (hl : s.getF (4 * cls) FLT_CLASS.LEVEL = 1) :
    ∃ i : Inst, i.force = true ∧ i.level = 1 ∧ i.detail = d ∧ s.detect cls scCHANNEL u d = (s.amberAt cls u i d).amberChannel u cls := by
  unfold State.detect
  rw [hl]
  unfold State.detectAt
  extract_lets key i s1 s2 now
  rw [if_pos (by rw [Bool.not_eq_true]; exact hf)]
  unfold State.enterLevel
  extract_lets s3 s4
  have h4 : s4 = s3.bbRecord key 0 1 d := if_pos (Or.inl Nat.one_ne_zero)
  rw [h4, State.levelAction_amber _ _ hu]
  exact ⟨_, rfl, rfl, rfl, rfl⟩

theorem State.amberAt_cmp (s : State) (cls u : Nat) (i : Inst) (d v j : Nat) : (s.amberAt cls u i d).cmp v j = s.cmp v j :=
  State.cmp_of_cmps ((s.amberAt_paleTouch cls u i d).cmps fun _ => rfl) v j

end Sys2Proof.Machine
end

section
/-! PROOFS. The window comparators (R82 to R91, R95). Settles O24. -/

namespace Sys2Proof.Machine

open Sys2Proof (Instr)

variable {w : Touch} {s z : State} {u k : Nat}

/-! ### Fields -/

theorem csHIT_off (k : Nat) : (csHIT k).off = 0x208 ∧ (csHIT k).hi < 32 ∧ (csHIT k).hi = (csHIT k).lo := by
  unfold csHIT
  split <;> decide

/-- The marks of comparator k: bits of one register. -/
theorem csMarks_bit (k : Nat) : ∀ f ∈ [csRAW k, csVALID k, csFOUT k, csLATCH k], f.off = 0x208 ∧ f.hi < 32 ∧ f.hi = f.lo := by
  unfold csRAW csVALID csFOUT csLATCH
  split <;> decide

theorem csMarks_apart (k : Nat) : [csRAW k, csVALID k, csFOUT k, csLATCH k].Pairwise fun f g => f.hi < g.lo ∨ g.hi < f.lo := by
  unfold csRAW csVALID csFOUT csLATCH
  split <;> decide

theorem cfTRIP_off (k : Nat) : (cfTRIP k).off = 0x200 := by
  unfold cfTRIP
  split <;> rfl

/-- A one-bit field shows the mark written into it. -/
theorem State.isSet_setF_mark (s : State) (b : Nat) {f : Fld} (x : Bool) (hf : f.hi < 32 ∧ f.hi = f.lo) : (s.setF b f (b2n x)).isSet b f = x := by
  obtain ⟨hhi, hlo⟩ := hf
  rw [State.isSet_setF_self _ _ _ _ hhi, hlo, Nat.add_sub_cancel_left]
  cases x <;> rfl

/-- CHN_CMP_CFG and CHN_CMP_STATUS change by their own commands alone. -/
theorem feB_cmp_follows (u : Nat) {o : Nat} (ho : o = 0x200 ∨ o = 0x208) : follows (feB u + o) = false := by
  unfold follows feB chB shB tileBase
  rw [decide_eq_false_iff_not]
  split <;> omega

theorem State.settled_cmpSet (s : State) (u : Nat) {f : Fld} (ho : f.off = 0x208) : s.settled.isSet (feB u) f = s.isSet (feB u) f :=
  s.settled_isSet (feB_cmp_follows u (Or.inr ho))

/-! ### Transitions of the raw output -/

theorem compRaw_exec (u : Fin 1056) (high : Bool) (uv vp : Int) (q : Fin 200) (dead : Bool) :
    exec (.compRawTransition u high (uv, vp) q dead) s = done (s.cmpRaw u (side high) (s.cmpLevel u (side high) uv vp) q dead) := rfl

theorem compRaw_none_row (u : Fin 1056) (high : Bool) (uv vp : Int) (q : Fin 200) (dead : Bool)
    (h : s.isSet (feB u) (cfEN (side high)) = false ∨ s.cmpUsed u = false ∨ s.cmpLevel u (side high) uv vp = (s.cmp u (side high)).raw) :
    Completes (.compRawTransition u high (uv, vp) q dead) s (Frame {} s) := by
  have hz : s.cmpRaw u (side high) (s.cmpLevel u (side high) uv vp) q dead = s :=
    if_pos (h.imp (fun e => by rw [e]; exact Bool.false_ne_true) (Or.imp_left fun e => by rw [e]; exact Bool.false_ne_true))
  have hx := compRaw_exec (s := s) u high uv vp q dead
  rw [hz] at hx
  exact completes_done hx (Exact.refl _ s).settled

/-- Comparator k's raw output takes level x; a transition into its outside condition is stamped. -/
def State.rawTaken (s : State) (u k : Nat) (x : Bool) (q : Nat) (dead : Bool) : State :=
  s.modCmp u k fun c =>
    { c with raw := x, lastOut := if outside k x then (s.compLin u q % (linW : Int)).toNat else c.lastOut,
             coarse := if outside k x then dead || !s.isSet (feB (if u < 1024 then s.phys u else u)) CHN_TIM_STATUS.TLOCK else c.coarse }

theorem State.cmpRaw_of_change {x : Bool} (hen : s.isSet (feB u) (cfEN k) = true) (hu : s.cmpUsed u = true) (hx : x ≠ (s.cmp u k).raw) (q : Nat)
    (dead : Bool) : s.cmpRaw u k x q dead =
      if outside k x then (s.rawTaken u k x q dead).cmpGate u k else (s.rawTaken u k x q dead).cmpCheckCond u k :=
  if_neg fun h => h.elim (fun n => n hen) (Or.rec (fun n => n hu) hx)

theorem State.rawTaken_cmp (s : State) (u k : Nat) (x : Bool) (q : Nat) (dead : Bool) : ((s.rawTaken u k x q dead).cmp u k).raw = x ∧
    (outside k x = true → ((s.rawTaken u k x q dead).cmp u k).lastOut = (s.compLin u q % (linW : Int)).toNat) := by
  unfold State.rawTaken
  rw [State.cmp_modCmp_self]
  exact ⟨rfl, fun h => if_pos h⟩

theorem side_le (high : Bool) : side high ≤ 1 := by cases high <;> decide

/-- The raw output changes, and no trip follows. -/
theorem State.cmpRaw_quiet {x : Bool} (hk : k ≤ 1) (hen : s.isSet (feB u) (cfEN k) = true) (hu : s.cmpUsed u = true) (hx : x ≠ (s.cmp u k).raw)
    (hg : s.gateOpen u k = false ∨ outside k x = false) (q : Nat) (dead : Bool) : ∃ z, s.cmpRaw u k x q dead = z ∧ (z.cmp u k).raw = x ∧
      (outside k x = true → (z.cmp u k).lastOut = (s.compLin u q % (linW : Int)).toNat) ∧ z.cmp u (1 - k) = s.cmp u (1 - k) ∧
      (outside k x = false → outside k (s.isSet (feB u) (csFOUT k)) = false → (z.cmp u k).tripped = false) ∧
      Exact { parts := fun x => { x with cmps := [], insts := [] } } s z := by
  have hne : 2 * u + k ≠ 2 * u + (1 - k) := by omega
  have h0 : Exact { parts := fun x => { x with cmps := [], insts := [] } } s (s.rawTaken u k x q dead) :=
    (Exact.refl _ s).modCmp u k _ fun _ _ => rfl
  obtain ⟨hraw, hlast⟩ := s.rawTaken_cmp u k x q dead
  have hother : (s.rawTaken u k x q dead).cmp u (1 - k) = s.cmp u (1 - k) := by
    unfold State.rawTaken
    rw [State.cmp_modCmp, if_neg hne]
  refine ⟨_, State.cmpRaw_of_change hen hu hx q dead, ?_⟩
  by_cases ho : outside k x = true
  · have hgate : (s.rawTaken u k x q dead).gateOpen u k = false := hg.resolve_right (by rw [ho]; decide)
    rw [if_pos ho, State.cmpGate_closed (Or.inl hgate)]
    exact ⟨hraw, hlast, hother, fun e => absurd (ho.symm.trans e) (by decide), h0⟩
  · obtain ⟨b, hb⟩ := (s.rawTaken u k x q dead).cmpCheckCond_cmp u k
    rw [if_neg ho]
    refine ⟨(congrArg Cmp.raw hb).trans hraw, fun e => absurd e ho, ((s.rawTaken u k x q dead).cmpCheckCond_cmp_ne hne).trans hother,
      fun hi hf => State.cmpCheckCond_left (by rw [hraw]; exact hi) hf, h0.cmpCheckCond u k fun _ _ _ => rfl⟩

theorem compRaw_quiet_row (u : Fin 1056) (high : Bool) (uv vp : Int) (q : Fin 200) (dead : Bool) {k : Nat} (hk : k = side high) {x : Bool}
    (hxe : x = s.cmpLevel u k uv vp) (hen : s.isSet (feB u) (cfEN k) = true) (hu : s.cmpUsed u = true) (hx : x ≠ (s.cmp u k).raw)
    (hg : s.gateOpen u k = false ∨ outside k x = false) : Completes (.compRawTransition u high (uv, vp) q dead) s fun t => (t.cmp u k).raw = x ∧
      (outside k x = true → (t.cmp u k).lastOut = (s.compLin u q % (linW : Int)).toNat) ∧ (t.cmp u (1 - k)) = s.cmp u (1 - k) ∧
      (outside k x = false → outside k (s.isSet (feB u) (csFOUT k)) = false → (t.cmp u k).tripped = false) ∧
      Frame { parts := fun x => { x with cmps := [], insts := [] } } s t := by
  obtain ⟨z, hz, hraw, hlast, hother, hleft, he⟩ := State.cmpRaw_quiet (by rw [hk]; exact side_le high) hen hu hx hg q dead
  have hex := compRaw_exec (s := s) u high uv vp q dead
  rw [← hk, ← hxe, hz] at hex
  refine completes_done hex ⟨?_, fun h => ?_, ?_, fun ho hf => ?_, he.settled⟩
  all_goals rw [State.settled_cmp]
  · exact hraw
  · exact hlast h
  · exact hother
  · exact hleft ho hf

/-! ### The trip (R86, R87) -/

/-- Comparator k marks its trip. -/
def State.hitMark (s : State) (u k : Nat) : State := (s.modCmp u k fun c => { c with tripped := true }).setF (feB u) (csHIT k) 1

theorem State.OwnFe.hitMark (h : s.OwnFe u) (k : Nat) : (s.hitMark u k).OwnFe u where
  lt := h.lt
  phys := (State.phys_eq (State.isSet_setF_off (s.modCmp u k fun c => { c with tripped := true }) (feB u)
    (by rw [(csHIT_off k).1]; decide) 1)).trans h.phys
  rot := h.rot

/-- The trip opens the channel's output, then WINDOW_TRIP is raised. -/
theorem State.OwnFe.cmpTrip (h : s.OwnFe u) (k : Nat) :
    s.cmpTrip u k = ((s.hitMark u k).tripped u 0x02).detect 0x02 scCHANNEL u (1 - k) := by
  have h1 := h.hitMark k
  have hv : (if u < 1024 then (s.hitMark u k).phys u else u) = u := (if_pos h.lt).trans h1.phys
  show (let z := (s.hitMark u k).tripFe (if u < 1024 then (s.hitMark u k).phys u else u) 0x02
    let z := if u < 1024 then z.abandonRotation u else z
    let (sc, n) := z.faultUnit u
    z.detect 0x02 sc n (1 - k)) = _
  rw [hv, h1.tripFe]
  dsimp only
  rw [if_pos h.lt, (h1.tripped 0x02).abandon]
  unfold State.faultUnit
  rw [if_pos h.lt]

/-- What a trip by a comparator of channel u may change. -/
def windowTouch (u : Nat) : Touch :=
  { regs := fun a => inFe u a ∨ a = FLT_CLASS.DCNT.off + 4 * 0x02 ∨ a = FLT_BB_STATUS.LOST.off, fes := fun x => x = u, engs := fun x => x = u,
    adcs := fun x => x = u, parts := fun x => { x with cmps := [], insts := [], lastCls := [], bbStage := [] } }

theorem windowTouch_pale (u : Nat) : (windowTouch u).Pale 0x02 :=
  ⟨Or.inr (Or.inl rfl), Or.inr (Or.inr rfl), fun _ _ => rfl, fun _ _ => rfl, fun _ _ => rfl⟩

theorem windowTouch_trip (u : Nat) : (windowTouch u).Trip u := ⟨fun _ h => Or.inl h, rfl, rfl, fun _ _ => rfl⟩

/-- Raising WINDOW_TRIP leaves the front-end's block. -/
theorem State.amberAt_window_isSet (s : State) (u : Nat) (i : Inst) (d : Nat) (f : Fld) :
    (s.amberAt 0x02 u i d).isSet (feB u) f = s.isSet (feB u) f :=
  State.isSet_of_getF (congrArg f.get ((s.amberAt_paleTouch 0x02 u i d).regs _
    (not_or.2 ⟨(lt_feB (by decide) _).symm, (lt_feB (by decide) _).symm⟩)))

/-- What a trip by comparator k of channel u leaves. -/
structure State.Trips (s z : State) (u k : Nat) : Prop where
  feOn : z.feOn u = false
  tripped : z.isSet (feB u) CHN_FE_STATUS.TRIPPED = true
  hit : z.isSet (feB u) (csHIT k) = true
  cond : (z.cmp u k).tripped = true
  force : (z.inst (instKey 0x02 scCHANNEL u)).force = true
  level : (z.inst (instKey 0x02 scCHANNEL u)).level = 1
  detail : (z.inst (instKey 0x02 scCHANNEL u)).detail = 1 - k
  exact : Exact (windowTouch u) s z

/-- At Amber the action on the channel is its trip once more. -/
theorem State.OwnFe.cmpTrip_trips (h : s.OwnFe u) (k : Nat) (hf : (s.inst (instKey 0x02 scCHANNEL u)).force = false)
    (hl : s.getF (4 * 0x02) FLT_CLASS.LEVEL = 1) : s.Trips (s.cmpTrip u k) u k := by
  have h1 : instKey 0x02 scCHANNEL u ≠ instKey 0x01 scCHANNEL u := by unfold instKey; omega
  have h3 : instKey 0x02 scCHANNEL u ≠ instKey 0x03 scCHANNEL u := by unfold instKey; omega
  have hoff := (csHIT_off k).1
  have h14 : (csHIT k).off ≠ 0x14 := by rw [hoff]; decide
  have h40 : (csHIT k).off ≠ 0x40 := by rw [hoff]; decide
  have hm := (h.hitMark k).tripped 0x02
  have hinst : (((s.hitMark u k).tripped u 0x02).inst (instKey 0x02 scCHANNEL u)) = s.inst (instKey 0x02 scCHANNEL u) :=
    (s.hitMark u k).tripped_inst_ne h.lt 0x02 h1 h3
  have hhit : ((s.hitMark u k).tripped u 0x02).isSet (feB u) (csHIT k) = true :=
    (State.isSet_of_getF ((s.hitMark u k).tripped_getF_off u 0x02 h14 h40)).trans
      (State.isSet_setF_mark _ (feB u) true (csHIT_off k).2)
  have hcmp : (((s.hitMark u k).tripped u 0x02).cmp u k).tripped = true := by
    rw [State.tripped_cmp]
    exact congrArg Cmp.tripped (s.cmp_modCmp_self u k fun c => { c with tripped := true })
  have hin : inFe u (feB u + (csHIT k).off) := by
    rw [hoff]
    exact ⟨Nat.le_add_right _ _, by omega⟩
  have hmark : Exact (windowTouch u) s (s.hitMark u k) := ((Exact.refl _ s).modCmp u k _ fun _ _ => rfl).setF 1 (Or.inl hin)
  have hex := hmark.tripped (windowTouch_trip u) 0x02
  have hlow : ((s.hitMark u k).tripped u 0x02).getF (4 * 0x02) FLT_CLASS.LEVEL = 1 := by
    have e : ((s.hitMark u k).tripped u 0x02).getF (4 * 0x02) FLT_CLASS.LEVEL = (s.hitMark u k).getF (4 * 0x02) FLT_CLASS.LEVEL :=
      ((Exact.refl (tripTouch u) _).tripped (tripTouch_trip u) 0x02).getF (lt_inFe (by decide))
    exact e.trans ((State.getF_setF_ne (s := s.modCmp u k fun c => { c with tripped := true })
      (fun e => lt_feB (by decide) _ e.symm) 1).trans hl)
  obtain ⟨i, hif, hil, hid, he⟩ := State.detect_amber (cls := 0x02) h.lt (1 - k) (by rw [hinst]; exact hf) hlow
  rw [h.cmpTrip k, he]
  generalize (s.hitMark u k).tripped u 0x02 = y at hm hhit hcmp hex
  have hy : (y.amberAt 0x02 u i (1 - k)).OwnFe u := hm.exact (y.amberAt_paleTouch 0x02 u i (1 - k)) (fun _ => rfl) (y.amberAt_window_isSet u i _ _)
  have hyi := y.amberAt_inst 0x02 u i (1 - k)
  have hyh := (y.amberAt_window_isSet u i (1 - k) (csHIT k)).trans hhit
  have hyc : ((y.amberAt 0x02 u i (1 - k)).cmp u k).tripped = true := by
    rw [State.amberAt_cmp]
    exact hcmp
  have hyx := hex.amberAt (windowTouch_pale u) u i (1 - k)
  rw [hy.amberChannel (by decide)]
  generalize y.amberAt 0x02 u i (1 - k) = z at hyi hyh hyc hyx
  have hzi : (z.tripped u 0x02).inst (instKey 0x02 scCHANNEL u) = i := (z.tripped_inst_ne h.lt 0x02 h1 h3).trans hyi
  exact
    { feOn := z.tripped_feOn u 0x02
      tripped := z.tripped_mark u 0x02
      hit := (State.isSet_of_getF (z.tripped_getF_off u 0x02 h14 h40)).trans hyh
      cond := by
        rw [State.tripped_cmp]
        exact hyc
      force := by rw [hzi, hif]
      level := by rw [hzi, hil]
      detail := by rw [hzi, hid]
      exact := hyx.tripped (windowTouch_trip u) 0x02 }

theorem compRaw_trip_row (u : Fin 1056) (high : Bool) (uv vp : Int) (q : Fin 200) (dead : Bool) {k : Nat} (hk : k = side high) {x : Bool}
    (hxe : x = s.cmpLevel u k uv vp) (h : s.OwnFe u) (hc : (s.fe u).contact = none) (hg : s.gateOpen u k = true) (hx : x ≠ (s.cmp u k).raw)
    (ho : outside k x = true) (hf : (s.inst (instKey 0x02 scCHANNEL u)).force = false) (hl : s.getF (4 * 0x02) FLT_CLASS.LEVEL = 1) :
    Completes (.compRawTransition u high (uv, vp) q dead) s fun t => t.feOn u = false ∧ t.isSet (feB u) CHN_FE_STATUS.TRIPPED = true ∧
      t.isSet (feB u) (csHIT k) = true ∧ (t.cmp u k).tripped = true ∧ (t.inst (instKey 0x02 scCHANNEL u)).force = true ∧
      (t.inst (instKey 0x02 scCHANNEL u)).level = 1 ∧ (t.inst (instKey 0x02 scCHANNEL u)).detail = 1 - k ∧ Frame (windowTouch u) s t := by
  have hopen := hg
  unfold State.gateOpen at hopen
  simp only [Bool.and_eq_true] at hopen
  obtain ⟨⟨⟨-, hen⟩, -⟩, hu⟩ := hopen
  have hraw := (s.rawTaken_cmp u k x q dead).1
  have hz : s.cmpRaw u k x q dead = (s.rawTaken u k x q dead).cmpTrip u k := by
    rw [State.cmpRaw_of_change hen hu hx, if_pos ho]
    exact State.cmpGate_open hg (by rw [hraw]; exact ho)
  have hown : (s.rawTaken u k x q dead).OwnFe u := ⟨h.lt, h.phys, h.rot⟩
  have ht := hown.cmpTrip_trips k hf hl
  have h0 : Exact (windowTouch u) s (s.rawTaken u k x q dead) := (Exact.refl _ s).modCmp u k _ fun _ _ => rfl
  have hxz := h0.trans ht.exact
  have hzc := hxz.con u hc
  have hex := compRaw_exec (s := s) u high uv vp q dead
  rw [← hk, ← hxe, hz] at hex
  refine completes_done hex ⟨(State.settled_feSet hzc (by decide) (by decide)).trans ht.feOn,
    (State.settled_feSet hzc (by decide) (by decide)).trans ht.tripped, (State.settled_cmpSet _ u (csHIT_off k).1).trans ht.hit, ?_, ?_, ?_, ?_,
    hxz.settled⟩
  · rw [State.settled_cmp]
    exact ht.cond
  all_goals rw [State.settled_inst]
  · exact ht.force
  · exact ht.level
  · exact ht.detail

/-! ### Filter samples (R88 to R91) -/

/-- The latest sample x has entered comparator k's history; CHN_CMP_STATUS shows it and what the filter makes of it. -/
def State.cmpShift (s : State) (u k hist samples : Nat) (x valid fout : Bool) : State :=
  (s.modCmp u k fun c => { c with hist := hist, samples := samples, pclr := false }).setFs (feB u)
    [(csRAW k, b2n x), (csVALID k, b2n valid), (csFOUT k, b2n fout)]

/-- Comparator k's latch, cleared where that was due, then set where the filtered output is outside. -/
def State.cmpLatch (s : State) (u k : Nat) (clr out : Bool) : State :=
  let s := if clr then s.setF (feB u) (csLATCH k) 0 else s
  if out then s.setF (feB u) (csLATCH k) 1 else s

/-- What a sample edge leaves of a comparator in use, but for the gate; clr says whether PCLR clears the latch, l what the trigger unit holds. -/
def State.cmpTaken (s : State) (u k hist samples : Nat) (x valid fout clr : Bool) (l : List (Nat × Trig)) : State :=
  State.cmpCheckCond { (s.cmpShift u k hist samples x valid fout).cmpLatch u k clr (valid && outside k fout) with trigs := l } u k

theorem State.cmpSample_eq (hen : s.isSet (feB u) (cfEN k) = true) (hu : s.cmpUsed u = true) (x : Bool) {n hist samples : Nat} {valid fout : Bool}
    (hn : n = filterN (s.getF (feB u) (cfFLEN k))) (hh : hist = (2 * (s.cmp u k).hist + b2n x) % 2 ^ 15)
    (hs : samples = min 15 ((s.cmp u k).samples + 1)) (hv : valid = decide (n ≤ samples))
    (hfo : fout = (valid && decide ((n + 1) / 2 ≤ popCount n hist))) : ∃ clr l, s.cmpSample u k x =
      if valid && !s.isSet (feB u) (csVALID k) then (s.cmpTaken u k hist samples x valid fout clr l).cmpGate u k
      else s.cmpTaken u k hist samples x valid fout clr l := by
  subst hn hh hs hv hfo
  unfold State.cmpSample
  rw [if_neg (not_or.2 ⟨not_not.2 hen, not_not.2 hu⟩)]
  extract_lets n c hist samples valid wasValid fout wasOut isOut s1 s2 s3 s4 tc s5 s6
  have hoffer : ∃ l, s5 = { s4 with trigs := l } :=
    ite_keeps (R := fun x => ∃ l, x = { s4 with trigs := l }) (fun _ => State.offer_eq _ _ _ _ _ _ _) fun _ => ⟨s4.trigs, rfl⟩
  obtain ⟨l, hl⟩ := hoffer
  refine ⟨c.pclr && s2.isSet (feB u) (cfPCLR k), l, ?_⟩
  have h6 : s6 = State.cmpCheckCond { s4 with trigs := l } u k := congrArg (State.cmpCheckCond · u k) hl
  rw [h6]
  rfl

/-- The marks, the history, the latch and the condition of comparator k after a sample. -/
structure State.ShowsSample (s z : State) (u k hist samples : Nat) (x valid fout : Bool) : Prop where
  validIs : z.isSet (feB u) (csVALID k) = valid
  foutIs : z.isSet (feB u) (csFOUT k) = fout
  rawIs : z.isSet (feB u) (csRAW k) = x
  histIs : (z.cmp u k).hist = hist
  samplesIs : (z.cmp u k).samples = samples
  latch : valid = true → outside k fout = true → z.isSet (feB u) (csLATCH k) = true
  cond : outside k (s.cmp u k).raw = false → outside k fout = false → (z.cmp u k).tripped = false
  exact : Exact { regs := fun a => a = feB u + CHN_CMP_STATUS.RAW_LO.off, parts := fun x => { x with cmps := [], insts := [], trigs := [] } } s z

theorem State.cmpShift_marks (s : State) (u k hist samples : Nat) (x valid fout : Bool) :
    (s.cmpShift u k hist samples x valid fout).isSet (feB u) (csRAW k) = x ∧
    (s.cmpShift u k hist samples x valid fout).isSet (feB u) (csVALID k) = valid ∧
    (s.cmpShift u k hist samples x valid fout).isSet (feB u) (csFOUT k) = fout := by
  have hbit := csMarks_bit k
  have hap := csMarks_apart k
  simp only [List.forall_mem_cons, List.pairwise_cons] at hbit hap
  obtain ⟨⟨or, hr⟩, ⟨ov, hv⟩, ⟨of, hf⟩, -⟩ := hbit
  obtain ⟨⟨hrv, hrf, -⟩, ⟨hvf, -⟩, -⟩ := hap
  simp only [State.cmpShift, State.setFs_cons, State.setFs_nil]
  refine ⟨?_, ?_, State.isSet_setF_mark _ _ _ hf⟩
  · rw [State.isSet_setF_disj _ _ _ _ _ (of.trans or.symm) hrf, State.isSet_setF_disj _ _ _ _ _ (ov.trans or.symm) hrv,
      State.isSet_setF_mark _ _ _ hr]
  · rw [State.isSet_setF_disj _ _ _ _ _ (of.trans ov.symm) hvf, State.isSet_setF_mark _ _ _ hv]

theorem State.cmpShift_cmp (s : State) (u k hist samples : Nat) (x valid fout : Bool) :
    (s.cmpShift u k hist samples x valid fout).cmp u k = { s.cmp u k with hist := hist, samples := samples, pclr := false } :=
  s.cmp_modCmp_self u k fun c => { c with hist := hist, samples := samples, pclr := false }

/-- The latch is a bit of its own. -/
theorem State.cmpLatch_isSet (s : State) (u k : Nat) (clr out : Bool) {f : Fld} (hf : f ∈ [csRAW k, csVALID k, csFOUT k]) :
    (s.cmpLatch u k clr out).isSet (feB u) f = s.isSet (feB u) f := by
  have hap : f.hi < (csLATCH k).lo ∨ (csLATCH k).hi < f.lo := by
    have h := csMarks_apart k
    rw [show [csRAW k, csVALID k, csFOUT k, csLATCH k] = [csRAW k, csVALID k, csFOUT k] ++ [csLATCH k] from rfl, List.pairwise_append] at h
    exact h.2.2 f hf _ List.mem_cons_self
  have ho : (csLATCH k).off = f.off :=
    ((csMarks_bit k _ (by simp)).1).trans (csMarks_bit k f (List.mem_append_left [csLATCH k] hf)).1.symm
  have h (z : State) (v : Nat) : (z.setF (feB u) (csLATCH k) v).isSet (feB u) f = z.isSet (feB u) f := z.isSet_setF_disj _ _ _ _ ho hap
  unfold State.cmpLatch
  extract_lets s1
  have h1 : s1.isSet (feB u) f = s.isSet (feB u) f := ite_keeps (R := fun z => z.isSet (feB u) f = s.isSet (feB u) f) (fun _ => h _ _) fun _ => rfl
  exact ite_keeps (R := fun z => z.isSet (feB u) f = s.isSet (feB u) f) (fun _ => (h _ _).trans h1) fun _ => h1

theorem State.cmpLatch_set (s : State) (u k : Nat) (clr : Bool) : (s.cmpLatch u k clr true).isSet (feB u) (csLATCH k) = true :=
  State.isSet_setF_mark _ _ true (csMarks_bit k _ (by simp)).2

theorem State.cmpLatch_cmp (s : State) (u k : Nat) (clr out : Bool) (v j : Nat) : (s.cmpLatch u k clr out).cmp v j = s.cmp v j := by
  unfold State.cmpLatch
  extract_lets s1
  have h1 : s1.cmp v j = s.cmp v j := ite_keeps (R := fun z => z.cmp v j = s.cmp v j) (fun _ => rfl) fun _ => rfl
  exact ite_keeps (R := fun z => z.cmp v j = s.cmp v j) (fun _ => h1) fun _ => h1

theorem Exact.cmpLatch (h : Exact w s z) (u k : Nat) (clr out : Bool) (hr : w.regs (feB u + (csLATCH k).off)) : Exact w s (z.cmpLatch u k clr out) := by
  unfold State.cmpLatch
  extract_lets s1
  have h1 : Exact w s s1 := .ite (fun _ => h.setF _ hr) fun _ => h
  exact .ite (fun _ => h1.setF _ hr) fun _ => h1

theorem State.cmpTaken_shows (s : State) (u k hist samples : Nat) (x valid fout clr : Bool) (l : List (Nat × Trig)) :
    s.ShowsSample (s.cmpTaken u k hist samples x valid fout clr l) u k hist samples x valid fout := by
  obtain ⟨hr, hv, hf⟩ := s.cmpShift_marks u k hist samples x valid fout
  have hc := s.cmpShift_cmp u k hist samples x valid fout
  have hlatch := fun f hf => (s.cmpShift u k hist samples x valid fout).cmpLatch_isSet u k clr (valid && outside k fout) (f := f) hf
  have hbit := csMarks_bit k
  have hw : Exact { regs := fun a => a = feB u + CHN_CMP_STATUS.RAW_LO.off, parts := fun x => { x with cmps := [], insts := [], trigs := [] } } s
      (s.cmpShift u k hist samples x valid fout) :=
    ((Exact.refl _ s).modCmp u k _ fun _ _ => rfl).setFs (by
      simp only [List.forall_mem_cons] at hbit ⊢
      obtain ⟨⟨h1, -⟩, ⟨h2, -⟩, ⟨h3, -⟩, -⟩ := hbit
      simp [h1, h2, h3])
  have hz := hw.cmpLatch u k clr (valid && outside k fout) (by rw [(hbit (csLATCH k) (by simp)).1])
  have hzc := ((s.cmpShift u k hist samples x valid fout).cmpLatch_cmp u k clr (valid && outside k fout) u k).trans hc
  have hzl : valid = true → outside k fout = true →
      ((s.cmpShift u k hist samples x valid fout).cmpLatch u k clr (valid && outside k fout)).isSet (feB u) (csLATCH k) = true := by
    intro h1 h2
    rw [h1, h2]
    exact State.cmpLatch_set _ u k clr
  have hzr := (hlatch (csRAW k) (by simp)).trans hr
  have hzv := (hlatch (csVALID k) (by simp)).trans hv
  have hzf := (hlatch (csFOUT k) (by simp)).trans hf
  unfold State.cmpTaken
  generalize (s.cmpShift u k hist samples x valid fout).cmpLatch u k clr (valid && outside k fout) = z at hz hzc hzl hzr hzv hzf
  have ht : Exact { regs := fun a => a = feB u + CHN_CMP_STATUS.RAW_LO.off, parts := fun x => { x with cmps := [], insts := [], trigs := [] } } s
      { z with trigs := l } := { hz with }
  obtain ⟨b, hb⟩ := State.cmpCheckCond_cmp { z with trigs := l } u k
  have hzc' : State.cmp { z with trigs := l } u k = { s.cmp u k with hist := hist, samples := samples, pclr := false } := hzc
  exact
    { validIs := (State.cmpCheckCond_isSet _ _ _ _ _).trans hzv
      foutIs := (State.cmpCheckCond_isSet _ _ _ _ _).trans hzf
      rawIs := (State.cmpCheckCond_isSet _ _ _ _ _).trans hzr
      histIs := by rw [hb, hzc']
      samplesIs := by rw [hb, hzc']
      latch := fun h1 h2 => (State.cmpCheckCond_isSet _ _ _ _ _).trans (hzl h1 h2)
      cond := fun h1 h2 => State.cmpCheckCond_left (by rw [hzc']; exact h1) ((congrArg (outside k) hzf).trans h2)
      exact := ht.cmpCheckCond u k fun _ _ _ => rfl }

/-- The three events of a filter sample are the same samples. -/
theorem compSamples_exec {u : Fin 1056} {high : Bool} {l : List Bool} {i : Instr}
    (hi : i ∈ [.compValid u high l, .compLatchSet u high l, .compFilterReturn u high l]) :
    exec i s = if s.clocked then done (l.foldl (fun s x => s.cmpSample u (side high) x) s) else done s := by
  simp only [List.mem_cons, List.not_mem_nil, or_false] at hi
  rcases hi with rfl | rfl | rfl <;> rfl

theorem compSample_row {u : Fin 1056} {high : Bool} {k : Nat} (hk : k = side high) {x valid fout : Bool} {n hist : Nat} {i : Instr}
    (hi : i ∈ [.compValid u high [x], .compLatchSet u high [x], .compFilterReturn u high [x]]) (hck : s.clocked = true)
    (hen : s.isSet (feB u) (cfEN k) = true) (hu : s.cmpUsed u = true) (hg : s.isSet (feB u) (cfTRIP k) = false ∨ s.isSet (feB u) (csVALID k) = true)
    (hn : n = filterN (s.getF (feB u) (cfFLEN k))) (hh : hist = (2 * (s.cmp u k).hist + b2n x) % 2 ^ 15)
    (hv : valid = decide (n ≤ min 15 ((s.cmp u k).samples + 1))) (hfo : fout = (valid && decide ((n + 1) / 2 ≤ popCount n hist))) :
    Completes i s fun t =>
      t.isSet (feB u) (csVALID k) = valid ∧ t.isSet (feB u) (csFOUT k) = fout ∧ t.isSet (feB u) (csRAW k) = x ∧
      (t.cmp u k).hist = hist ∧ (t.cmp u k).samples = min 15 ((s.cmp u k).samples + 1) ∧
      (valid = true → outside k fout = true → t.isSet (feB u) (csLATCH k) = true) ∧
      (outside k (s.cmp u k).raw = false → outside k fout = false → (t.cmp u k).tripped = false) ∧
      Frame { regs := fun a => a = feB u + CHN_CMP_STATUS.RAW_LO.off, parts := fun x => { x with cmps := [], insts := [], trigs := [] } } s t := by
  obtain ⟨clr, l, hz⟩ := State.cmpSample_eq hen hu x hn hh rfl hv hfo
  have h := s.cmpTaken_shows u k hist (min 15 ((s.cmp u k).samples + 1)) x valid fout clr l
  generalize s.cmpTaken u k hist (min 15 ((s.cmp u k).samples + 1)) x valid fout clr l = z at hz h
  have htrip : z.isSet (feB u) (cfTRIP k) = s.isSet (feB u) (cfTRIP k) :=
    State.isSet_of_getF (h.exact.getF fun e => absurd ((cfTRIP_off k).symm.trans (Nat.add_left_cancel e)) (by decide))
  have hgate : s.cmpSample u k x = z := by
    rw [hz]
    rcases hg with hg | hg
    · rw [State.cmpGate_closed (Or.inl (by unfold State.gateOpen; rw [htrip, hg]; rfl)), ite_self]
    · rw [hg, Bool.not_true, Bool.and_false, if_neg Bool.false_ne_true]
  have hex := compSamples_exec (s := s) hi
  rw [if_pos hck, List.foldl_cons, List.foldl_nil, ← hk, hgate] at hex
  have hbit := csMarks_bit k
  refine completes_done hex ⟨(State.settled_cmpSet _ u (hbit _ (by simp)).1).trans h.validIs, (State.settled_cmpSet _ u (hbit _ (by simp)).1).trans h.foutIs,
    (State.settled_cmpSet _ u (hbit _ (by simp)).1).trans h.rawIs, ?_, ?_,
    fun h1 h2 => (State.settled_cmpSet _ u (hbit _ (by simp)).1).trans (h.latch h1 h2), fun h1 h2 => ?_, h.exact.settled⟩
  all_goals rw [State.settled_cmp]
  · exact h.histIs
  · exact h.samplesIs
  · exact h.cond h1 h2

/-- A comparator that is off, or that its shade does not use, takes no samples; nor does one without a clock. -/
theorem compSamples_none_row {u : Fin 1056} {high : Bool} {l : List Bool} {i : Instr}
    (hi : i ∈ [.compValid u high l, .compLatchSet u high l, .compFilterReturn u high l])
    (h : s.clocked = false ∨ s.isSet (feB u) (cfEN (side high)) = false ∨ s.cmpUsed u = false) : Completes i s fun t => Frame {} s t := by
  have hex : exec i s = done s := by
    rw [compSamples_exec hi]
    rcases h with h | h
    · rw [h, if_neg Bool.false_ne_true]
    · have hfix (x : Bool) : s.cmpSample u (side high) x = s :=
        if_pos (h.imp (fun e => by rw [e]; exact Bool.false_ne_true) fun e => by rw [e]; exact Bool.false_ne_true)
      have hall : l.foldl (fun z x => z.cmpSample u (side high) x) s = s :=
        foldl_keeps_mem (R := fun z => z = s) l rfl fun z x _ e => by rw [e, hfix x]
      rw [hall, ite_self]
  exact completes_done hex (Exact.refl _ s).settled

/-- Settles O24, clause by clause: a change of the raw output that trips nothing touches its comparator alone; the trip and the Amber action that
follows it open the channel's own output; a sample is the filter's marks, the latch and the check of the condition. -/
theorem comparatorRows : Obligations.ComparatorRows := by
  rintro u high s k hk
  refine ⟨?_, fun x uv vp q dead hxe hen hu hx hg => compRaw_quiet_row u high uv vp q dead hk hxe hen hu hx hg,
    fun x uv vp q dead hxe hlt hp hr hc hg hx ho hf hl => compRaw_trip_row u high uv vp q dead hk hxe ⟨hlt, hp, hr⟩ hc hg hx ho hf hl,
    fun x valid fout n hist i hi hck hen hu hg hn hh hv hfo => compSample_row hk hi hck hen hu hg hn hh hv hfo, ?_⟩
  · subst hk
    rintro x uv vp q dead rfl h
    exact compRaw_none_row u high uv vp q dead h
  · subst hk
    exact fun l i hi h => compSamples_none_row hi h

end Sys2Proof.Machine
end

section
/-! PROOFS. A contact check that leaves a channel's front-end in the moment its run goes on (R30, R47, R123). Settles O33. -/

namespace Sys2Proof.Machine

open Sys2Proof (Instr)

/-- SEQ_JUMP of channel 3, started. -/
def jumpCmd : Cmd := { sq := 1, tag := 5, op := opJUMP, words := [], admitted := true, started := true, chans := [3] }

/-- The jump decided at channel 3, with its last vector out. -/
def jumpDue : Jump := { left := 0, count := 77, snum := 5, target := 9, cmd := ⟨1, 5⟩ }

/-- What a contact check by a CH_CONTACT that has ended leaves to be done: the CHN_FE_CFG word that it saved has PAT mode. -/
def endedCheck : Contact := { cmd := ⟨1, 6⟩, partner := false, full := 0, half := 0, target := 0, savedCfg := CHN_FE_CFG.MODE.put 0 4 }

/-- A READY module whose channel 3 runs with its driver high and has reached the boundary of that jump, while that check stands at the channel. -/
def checkLeaves : State :=
  ((({ State.reset with inReset := false, cmds := [jumpCmd] }.setF 0 GLB_STATUS.STATE stREADY).setF (chB 3) CHN_SEQ_STATUS.STATE 1).modFe 3
    fun f => { f with mode := 1, contact := some endedCheck }).modEng 3 fun e => { e with stat := .hi, run := some ⟨1, 7⟩, jump := some jumpDue }

/-- With the jump taken, the check leaves and the mode it had put off loads: PAT, which connects the driver high-Z. -/
theorem checkLeaves_settled : (((checkLeaves.takeJump 3).settled).eng 3).stat = .z := by
  have h : ((checkLeaves.takeJump 3).settleContacts.kickAll.eng 3).stat = .z := by decide +kernel
  unfold State.eng at h ⊢
  rw [State.settled_engs]
  exact h

/-- Refutes O33: the clause on SEQ_JUMP_APPLY says that the leader's engine stands but for the jump, and does not ask, as the frame does, that no
contact check stands at its channel. In `checkLeaves` the check, whose CH_CONTACT has ended, leaves channel 3 in the moment in which the jump is taken
(log entry 55): its front-end loads PAT mode, and the pattern driver, which stood high, connects high-Z (R30). -/
theorem not_runEventRows : ¬ Obligations.RunEventRows := by
  intro h
  obtain ⟨-, -, -, -, -, -, -, -, -, hjump, -⟩ := h 3 checkLeaves [] ⟨1, 7⟩ jumpCmd _ rfl
  have hj : (checkLeaves.eng 3).jump = some jumpDue := by decide +kernel
  obtain ⟨t, ht, -, -, -, -, hstill⟩ := hjump jumpDue hj rfl (by decide +kernel) (by decide) (by decide)
  have hx : exec (.seqJumpApply 3) checkLeaves = done (checkLeaves.takeJump 3) := by
    show execSeqJumpApply 3 checkLeaves = _
    unfold execSeqJumpApply
    rw [show (checkLeaves.eng (3 : Fin 1024)).jump = some jumpDue from hj]
    rfl
  rw [eq_settled (ht.symm.trans hx)] at hstill
  have hstat := congrArg Eng.stat hstill
  exact absurd (checkLeaves_settled.symm.trans hstat) (by decide +kernel)

end Sys2Proof.Machine
end

section
/-! PROOFS. A contact check that leaves a channel's front-end in the moment a word or a command acts on its engine (R30, R47, log entry 55).
Settles O25 to O32: they say of the engine of the channel how it stands after, and do not ask, as the frame does, that no contact check stands at the
channel. They range over every state, also over those in which a check whose CH_CONTACT has ended has yet to leave: it leaves in the moment of the
word or command, and its front-end loads the mode it had put off. -/

namespace Sys2Proof.Machine

open Sys2Proof (Instr)

/-! ### The leaving check -/

/-- Of all front-ends u alone is not as after reset; its output is open, and the contact check k at it, whose CH_CONTACT has ended, has put off
PAT mode. -/
structure State.CheckLeaves (s : State) (u : Nat) (f : Fe) (k : Contact) : Prop where
  fes : s.fes = [(u, f)]
  check : f.contact = some k
  ended : s.running? k.cmd opCONTACT = none
  opened : s.feOn u = false
  other : f.mode ≠ 4
  pattern : effMode (CHN_FE_CFG.MODE.get k.savedCfg) (CHN_FE_CFG.VSPAN.get k.savedCfg) (CHN_FE_CFG.IRANGE.get k.savedCfg) = 4

/-- Engines that differ in their hold at most do the same on their pins. -/
theorem Eng.stat_eq_of_still {a b : Eng} (h : a.still = b.still) : a.stat = b.stat := by
  have hstat := congrArg Eng.stat h
  exact hstat

/-- A pattern driver that connects as its front-end loads PAT mode is high-Z. -/
theorem State.loadSetting_stat {s : State} {u : Nat} (h : s.regMode u = 4) (hm : (s.fe u).mode ≠ 4) : ((s.loadSetting u).eng u).stat = .z := by
  unfold State.loadSetting
  dsimp only
  rw [if_pos ⟨h, hm⟩, State.eng_modEng_self]

/-- A channel's registers ask for the mode of the CHN_FE_CFG word in them. -/
theorem State.regMode_of_cfg {s : State} {u : Nat} {w : Word} (hu : u < 1024) (h : s.rd (feB u) = w) :
    s.regMode u = effMode (CHN_FE_CFG.MODE.get w) (CHN_FE_CFG.VSPAN.get w) (CHN_FE_CFG.IRANGE.get w) := by
  subst h
  exact if_neg (by omega)

namespace State.CheckLeaves
variable {s : State} {u : Nat} {f : Fe} {k : Contact}

theorem fe_eq (h : s.CheckLeaves u f k) : s.fe u = f := by
  unfold State.fe
  rw [h.fes]
  exact if_pos rfl

/-- The check is the one that settling lets leave. -/
theorem settleContacts_eq (h : s.CheckLeaves u f k) : s.settleContacts = s.contactLeave u := by
  unfold State.settleContacts
  rw [h.fes]
  simp [h.check, h.ended]

/-- The front-end takes CHN_FE_CFG as it was before the check. -/
theorem contactLeave_eq (h : s.CheckLeaves u f k) :
    s.contactLeave u = ((s.wr (feB u) k.savedCfg).modFe u fun f => { f with contact := none }).loadSetting u := by
  have ho : ((s.wr (feB u) k.savedCfg).modFe u fun f => { f with contact := none }).feOn u = false :=
    (congrArg (fun n => n != 0) (State.getF_wr_ne (s := s) (g := CHN_FE_STATUS.EN) (show feB u ≠ feB u + 0x14 by omega) k.savedCfg)).trans h.opened
  unfold State.contactLeave
  rw [h.fe_eq, h.check]
  exact if_neg (by rw [ho]; exact Bool.false_ne_true)

/-- The pattern driver of that channel is high-Z once the check has left. -/
theorem settled_stat (h : s.CheckLeaves u f k) (hu : u < 1024) : (s.settled.eng u).stat = .z := by
  have hkick : ((s.settleContacts.kickAll).eng u).stat = (s.settleContacts.eng u).stat :=
    Eng.stat_eq_of_still ((State.Kicks.refl s.settleContacts).kickAll.eng u).1
  unfold State.eng at hkick ⊢
  rw [s.settled_engs, hkick, h.settleContacts_eq, h.contactLeave_eq]
  refine State.loadSetting_stat ((State.regMode_of_cfg hu ?_).trans h.pattern) ?_
  · rw [State.rd_modFe, State.rd_wr_self]
  · rw [State.fe_modFe_self, State.fe_wr, h.fe_eq]
    exact h.other

end State.CheckLeaves

/-! ### A run at whose channel the check leaves -/

/-- The front-end of channel 3 in `checkLeaves`. -/
def checkedFe : Fe := { mode := 1, contact := some endedCheck }

/-- `checkLeaves` with no jump decided: word w stands at channel 3's PC, and f changes the engine, whose driver is high. -/
def leavingRun (w : Nat) (f : Eng → Eng) : State := (checkLeaves.sramSet (seqBase 3) 8 w).modEng 3 fun e => f { e with jump := none }

/-- A meaning that leaves the front-end, the switch and the ended CH_CONTACT as they are in `checkLeaves` answers a state in which the driver of
channel 3 is high-Z, and so not as it was. -/
theorem not_still_of_checkLeaves {i : Instr} {s z t : State} {e : Eng} (ht : exec i s = .next t) (hx : exec i s = done z)
    (hz : z.fes = [(3, checkedFe)] ∧ z.running? endedCheck.cmd opCONTACT = none ∧ z.feOn 3 = false) (he : e.stat = .hi) :
    (t.eng 3).still ≠ e.still := by
  obtain ⟨hfes, hend, hoff⟩ := hz
  have hleave : z.CheckLeaves 3 checkedFe endedCheck := ⟨hfes, rfl, hend, hoff, by decide, by decide⟩
  have hstat : (t.eng 3).stat = .z := by
    rw [eq_settled (ht.symm.trans hx)]
    exact hleave.settled_stat (by decide)
  intro h
  have hsame := Eng.stat_eq_of_still h
  rw [hstat, he] at hsame
  cases hsame

/-! ### The rows -/

/-- Refutes O25: the row of a reserved opcode says that the engine stands but for the end of its run. In `leavingRun` the word at the PC has opcode
0x3E; as the program error is taken the check leaves channel 3, and the pattern driver, which stood high, connects high-Z. -/
theorem not_programErrorRows : ¬ Obligations.ProgramErrorRows := by
  intro h
  obtain ⟨-, hissue⟩ := h 3 (leavingRun (0x3E * 2 ^ 58) id) swNOP _ (.seqNop 3) (by decide)
  obtain ⟨-, hword⟩ := hissue (by decide +kernel) (by decide +kernel) (by decide +kernel) (by decide +kernel) rfl
  obtain ⟨hreserved, -⟩ := hword (by decide +kernel)
  obtain ⟨t, ht, hstill, -⟩ := hreserved (by decide +kernel)
  exact not_still_of_checkLeaves ht rfl (by decide +kernel) (by decide +kernel) hstill

/-- Refutes O26: the row of a vector word whose vectors are all queued says that the engine goes on with nothing but those added. In `leavingRun`
the word is VREP with N = 0; as the engine goes on the check leaves channel 3, and its driver changes. -/
theorem not_vectorWordRows : ¬ Obligations.VectorWordRows := by
  intro h
  obtain ⟨-, -, hvrep, -⟩ := h 3 (leavingRun (swVREP * 2 ^ 58) id) (swVREP * 2 ^ 58)
  obtain ⟨hall, -⟩ := hvrep (by constructor <;> decide +kernel) _ rfl
  obtain ⟨t, ht, hnext, -⟩ := hall (by decide +kernel)
  obtain ⟨hstill, -⟩ := hnext.plain (by decide +kernel) (by decide +kernel)
  exact not_still_of_checkLeaves ht rfl (by decide +kernel) (by decide +kernel) hstill

/-- Refutes O27: the row of NOP says that the engine goes on unchanged. In `leavingRun` the check leaves channel 3 in that moment, and its driver
changes. -/
theorem not_flowWordRows : ¬ Obligations.FlowWordRows := by
  intro h
  obtain ⟨hnop, -⟩ := h 3 (leavingRun 0 id) 0 0 0 (by decide +kernel)
  obtain ⟨t, ht, hnext, -⟩ := hnop (by constructor <;> decide +kernel)
  obtain ⟨hstill, -⟩ := hnext.plain (by decide +kernel) (by decide +kernel)
  exact not_still_of_checkLeaves ht rfl (by decide +kernel) (by decide +kernel) hstill

/-- Refutes O28: the row of a registered stop says that the engine stands but for the end of its run. In `leavingRun` a stop is registered at a SEG
that ends a segment; as it is decided the check leaves channel 3, and its driver changes. -/
theorem not_segmentDecisionRows : ¬ Obligations.SegmentDecisionRows := by
  intro h
  obtain ⟨hstop, -⟩ := h 3 (leavingRun (swSEG * 2 ^ 58) fun e => { e with inSeg := true, bstop := true }) (swSEG * 2 ^ 58) (swSEG, .seg 3) ⟨1, 7⟩
    (.inl rfl) (by constructor <;> decide +kernel) (by decide +kernel) (by decide +kernel)
  obtain ⟨t, ht, hstill, -⟩ := hstop (by decide +kernel) (by decide +kernel) (by decide +kernel)
  exact not_still_of_checkLeaves ht rfl (by decide +kernel) (by decide +kernel) hstill

/-- Refutes O29: the row of EVT says that the engine goes on with nothing but the event added. In `leavingRun` the check leaves channel 3 in that
moment, and its driver changes. -/
theorem not_effectWordRows : ¬ Obligations.EffectWordRows := by
  intro h
  obtain ⟨-, hevt, -⟩ := h 3 (leavingRun (swEVT * 2 ^ 58) id) (swEVT * 2 ^ 58) [] { src := 0, gain := 0, samp := 0, tag := 0 } _ (by decide +kernel)
  obtain ⟨t, ht, hnext, -⟩ := hevt (by constructor <;> decide +kernel) rfl
  obtain ⟨hstill, -⟩ := hnext.plain (by decide +kernel) (by decide +kernel)
  exact not_still_of_checkLeaves ht rfl (by decide +kernel) (by decide +kernel) hstill

/-- Refutes O30: the row of STALL in a stored program says that the engine goes on unchanged. In `leavingRun` the check leaves channel 3 in that
moment, and its driver changes. -/
theorem not_holdWordRows : ¬ Obligations.HoldWordRows := by
  intro h
  obtain ⟨-, -, -, -, -, hstall, -⟩ := h 3 (leavingRun (swSTALL * 2 ^ 58) id) (swSTALL * 2 ^ 58) [] [] (by decide +kernel)
  obtain ⟨t, ht, hnext, -⟩ := hstall (by constructor <;> decide +kernel) (by decide +kernel)
  obtain ⟨hstill, -⟩ := hnext.plain (by decide +kernel) (by decide +kernel)
  exact not_still_of_checkLeaves ht rfl (by decide +kernel) (by decide +kernel) hstill

/-- The hold of a WAIT whose event has come. -/
def metWait : Hold := { kind := .wait 0, code := 5, ts := 0, arrived := true }

/-- Refutes O31: the row of WAIT_RELEASE says that the engine goes on with nothing but the time of its next vector set. In `leavingRun` channel 3
holds at a WAIT whose event has come; as the hold ends the check leaves the channel, and its driver changes. -/
theorem not_holdEndRows : ¬ Obligations.HoldEndRows := by
  rintro ⟨h, -⟩
  obtain ⟨-, -, hwait, -⟩ := h 3 (leavingRun (swWAIT * 2 ^ 58) fun e => { e with hold := some metWait }) metWait
  obtain ⟨t, ht, hnext, -⟩ := hwait 0 (by decide +kernel) rfl rfl (by decide +kernel) (by decide +kernel)
  obtain ⟨hstill, -⟩ := hnext.plain (by decide +kernel) (by decide +kernel)
  exact not_still_of_checkLeaves ht rfl (by decide +kernel) (by decide +kernel) hstill

/-- SEQ_JUMP of channel 3 to address 0, admitted. -/
def jumpAsked : Cmd := { sq := 1, tag := 5, op := opJUMP, words := [0, 0, 0, 0, 3], admitted := true, chans := [3] }

/-- Refutes O32: the row of a valid SEQ_JUMP says that the engine stands but for the request. In `leavingRun`, with a SEG at the target, the check
leaves channel 3 as the request is taken, and its driver changes. -/
theorem not_engineCommandRows : ¬ Obligations.EngineCommandRows := by
  intro h
  obtain ⟨-, -, -, -, -, -, -, -, -, -, -, -, -, hjump⟩ := h ⟨1, 5⟩ jumpAsked { leavingRun (swSEG * 2 ^ 58) id with cmds := [jumpAsked] } 3 0 0
  obtain ⟨t, ht, -, hstill⟩ := hjump (by decide +kernel) (by decide +kernel) (by decide +kernel)
  exact not_still_of_checkLeaves ht rfl (by decide +kernel) (by decide +kernel) hstill

end Sys2Proof.Machine
end

section
/-! SUPPORT. Commands that end or start by themselves: how settling leaves one that measures nothing, and what `Answered` and `Begun` ask of a
row that ends or starts one command. -/

namespace Sys2Proof.Machine

variable {w : Touch} {s z : State} {c : Cmd} {r : CmdRef}

/-! ### A command that measures nothing stands through settling -/

/-- Command c stands among those of z, as settling leaves a command. -/
def Cmd.StandsIn (c : Cmd) (z : State) : Prop := ∃ c' ∈ z.cmds, c.Same c'

namespace Cmd.StandsIn

theorem of_cmds {z' : State} (h : c.StandsIn z) (e : z'.cmds = z.cmds) : c.StandsIn z' := by
  unfold Cmd.StandsIn
  rw [e]
  exact h

theorem wr (h : c.StandsIn z) (a : Nat) (x : Word) : c.StandsIn (z.wr a x) := h.of_cmds rfl
theorem setF (h : c.StandsIn z) (b : Nat) (f : Fld) (v : Nat) : c.StandsIn (z.setF b f v) := h.wr _ _
theorem modAdc (h : c.StandsIn z) (u : Nat) (f : Adc → Adc) : c.StandsIn (z.modAdc u f) := h.of_cmds rfl
theorem modEng (h : c.StandsIn z) (u : Nat) (f : Eng → Eng) : c.StandsIn (z.modEng u f) := h.of_cmds rfl
theorem adcShow (h : c.StandsIn z) (u : Nat) : c.StandsIn (z.adcShow u) := ((h.setF _ _ _).setF _ _ _).setF _ _ _
theorem convStart (h : c.StandsIn z) (u src gain samp entry : Nat) (inj : Option Inj) (dest : Nat) (limen evt last : Bool) :
    c.StandsIn (z.convStart u src gain samp entry inj dest limen evt last) := (h.modAdc _ _).adcShow _

theorem mapCmds (h : c.StandsIn z) (p : Cmd → Bool) (f : Cmd → Cmd) (hf : ∀ k, (f k).Like k) : c.StandsIn (z.mapCmds p f) := by
  obtain ⟨k, hm, g⟩ := h
  refine ⟨if k.ending = none ∧ p k then f k else k, List.mem_map.2 ⟨k, hm, rfl⟩, ?_⟩
  split
  · exact g.like (hf k) ‹_ ∧ _›.1
  · exact g

/-- The end of a measurement stops measurements only. -/
theorem unbusyBy (h : c.StandsIn z) (hop : c.op ≠ opMEASURE) (p : Cmd → Bool) (u : Nat) (hp : ∀ k : Cmd, k.op ≠ opMEASURE → p k = false) :
    c.StandsIn (z.unbusyBy p u) := by
  obtain ⟨k, hm, g⟩ := h
  refine ⟨k, List.mem_filterMap.2 ⟨k, hm, if_neg fun e => ?_⟩, g⟩
  obtain ⟨-, hk⟩ := e
  dsimp only at hk
  rw [hp k (by rw [g.op]; exact hop), Bool.and_false, Bool.false_and] at hk
  exact Bool.false_ne_true hk

theorem waitMet (h : c.StandsIn z) (u k : Nat) : c.StandsIn (z.waitMet u k) := by
  unfold State.waitMet
  split
  · exact ite_keeps (fun _ => (h.modEng _ _).setF _ _ _) fun _ => h
  · exact h

theorem setRdy (h : c.StandsIn z) (u : Nat) : c.StandsIn (z.setRdy u) :=
  ite_keeps (fun _ => (h.setF _ _ _).waitMet _ _) fun _ => h.setF _ _ _

end Cmd.StandsIn

theorem isStart_of_op {k : Cmd} (h : k.op ≠ opMEASURE) : isStart k = false := by
  unfold isStart
  rw [decide_eq_false h, Bool.false_and]

theorem isStopCmd_of_op {k : Cmd} (h : k.op ≠ opMEASURE) : isStopCmd k = false := by
  unfold isStopCmd
  rw [decide_eq_false h, Bool.false_and]

namespace Cmd.StandsIn
section
variable (hop : c.op ≠ opMEASURE)
include hop

theorem adcEnd (h : c.StandsIn z) (u : Nat) : c.StandsIn (z.adcEnd u) :=
  (((h.modAdc _ _).adcShow _).unbusyBy hop _ u fun _ => isStopCmd_of_op).unbusyBy hop _ u fun _ => isStart_of_op

theorem adcAdvance (h : c.StandsIn z) (u : Nat) : c.StandsIn (z.adcAdvance u) :=
  ite_keeps (fun _ => h.adcEnd hop u) fun _ => ite_keeps (fun _ => (h.modAdc _ _).adcShow _) fun _ => h.modAdc _ _

theorem adcSkipAll (h : c.StandsIn z) (u : Nat) : c.StandsIn (z.adcSkipAll u) :=
  ite_keeps (fun _ => adcEnd hop (setRdy (h.setF _ _ _) u) u) fun _ => h.setF _ _ _

theorem adcSearch (h : c.StandsIn z) (u n : Nat) : c.StandsIn (z.adcSearch u n) := by
  induction n generalizing z with
  | zero => exact h
  | succ n ih =>
    rw [State.adcSearch]
    refine ite_keeps (fun _ => h) fun _ => ite_keeps (fun _ => ih ?_) fun _ => ?_
    · have g : c.StandsIn ((z.incSat (feB u) CHN_ADC_CNT.SKIP 1).adcAdvance u) := adcAdvance hop (h.setF _ _ _) u
      exact ite_keeps (fun _ => g.setRdy u) fun _ => g
    · exact ((h.setF _ _ _).convStart ..).unbusyBy hop _ u fun _ => isStart_of_op

theorem adcRegular (h : c.StandsIn z) (u : Nat) : c.StandsIn (z.adcRegular u) :=
  ite_keeps (fun _ => h.adcSkipAll hop u) fun _ => h.adcSearch hop u _

omit hop in
theorem adcRefillAs (h : c.StandsIn z) (u : Nat) (l : List Inj) : c.StandsIn (z.adcRefillAs u l) := by
  induction l generalizing z with
  | nil => exact h.adcShow u
  | cons i is ih =>
    rw [State.adcRefillAs]
    refine ite_keeps (fun _ => ih ?_) fun _ => h.adcShow u
    split
    · exact (h.modAdc _ _).adcShow u
    · exact ((h.modAdc _ _).adcShow u).mapCmds _ _ fun _ => ⟨rfl, rfl, rfl, rfl, rfl, rfl, rfl, rfl⟩

theorem adcNext (h : c.StandsIn z) (u : Nat) (b : Bool) (hh : (z.adc u).hold ≠ 3) : c.StandsIn (z.adcNext u b) := by
  unfold State.adcNext
  rw [if_neg hh]
  dsimp only
  split
  · exact h.modAdc _ _
  · split
    · split
      · exact h.modAdc _ _
      · exact ((h.modAdc _ _).convStart ..).adcRefillAs u _
    · split
      · exact ((h.modAdc _ _).convStart ..).adcRefillAs u _
      · exact ite_keeps (fun _ => (h.modAdc _ _).adcRegular hop u) fun _ => (h.modAdc _ _).adcShow u

theorem kickAll (h : c.StandsIn z) : c.StandsIn z.kickAll :=
  foldl_keeps _ h fun x e g => ite_keeps
    (fun hc => by
      have hk : c.StandsIn (if (x.adc e.1).heldInj = [] then x else x.adcRefill e.1) := ite_keeps (fun _ => g) fun _ => g.adcRefillAs _ _
      exact ite_keeps (fun _ => hk.adcNext hop _ _ (by rw [x.kick_hold e.1 hc.2.2.1]; decide)) fun _ => hk) fun _ => g

/-- Settling ends measurements only. -/
theorem settled (h : c.StandsIn z) : c.StandsIn z.settled :=
  have g : c.StandsIn z.settleContacts := h.of_cmds (State.settleContacts_eq State.cmds (fun _ _ _ _ _ => rfl) z)
  (g.kickAll hop).of_cmds (State.late_eq State.cmds (fun _ _ _ => rfl) (fun _ _ => rfl) (fun _ _ _ _ => rfl) (fun _ _ _ => rfl) _)

end
end Cmd.StandsIn

/-! ### The command that a row acts on -/

theorem State.mem_of_cmd (h : s.cmd? r = some c) : c ∈ s.cmds ∧ c.isRef r = true ∧ c.ending = none := by
  have hp := List.find?_some h
  simp only [decide_eq_true_eq] at hp
  obtain ⟨hsq, htag, hend⟩ := hp
  exact ⟨List.mem_of_find?_eq_some h, decide_eq_true ⟨hsq, htag⟩, hend⟩

/-- The reference in a command's own words names it. -/
theorem State.ref_of_cmd (h : s.cmd? r = some c) : (⟨c.sq, c.tag⟩ : CmdRef) = r := by
  obtain ⟨-, href, -⟩ := State.mem_of_cmd h
  obtain ⟨hsq, htag⟩ := of_decide_eq_true href
  rw [hsq, htag]

theorem State.cmd_of_ready {op : Nat} (h : s.ready? r op = some c) : s.cmd? r = some c ∧ c.op = op := by
  unfold State.ready? at h
  split at h
  · rename_i k hk
    split at h
    · rename_i hadm
      obtain rfl := Option.some.inj h
      exact ⟨hk, hadm.2.2⟩
    · cases h
  · cases h

/-- A change of command r leaves every other command as it is. -/
theorem State.mem_modCmd (hc : c ∈ s.cmds) (hr : c.isRef r = false) (f : Cmd → Cmd) : c ∈ (s.modCmd r f).cmds :=
  List.mem_map.2 ⟨c, hc, if_neg fun e => by
    rw [hr] at e
    exact Bool.false_ne_true e.2⟩

/-- Command r, not ended, is changed. -/
theorem State.mem_modCmd_self (h : s.cmd? r = some c) (f : Cmd → Cmd) : f c ∈ (s.modCmd r f).cmds := by
  obtain ⟨hmem, href, hend⟩ := State.mem_of_cmd h
  exact List.mem_map.2 ⟨c, hmem, if_pos ⟨hend, href⟩⟩

section
variable {f : Cmd → Cmd}

theorem State.others_settled (hz : z.cmds = (s.modCmd r f).cmds) :
    ∀ c ∈ s.cmds, c.isRef r = false → c.vanish = false → ∃ c' ∈ z.settled.cmds, c.Same c' := fun c hc hr hv =>
  z.settles.cmds c (hz ▸ State.mem_modCmd hc hr f) (.inl hv)

/-- Ending command r, with nothing else done than what w allows, answers it. -/
theorem Exact.answered {e : Ending} (h : Exact w s z) (hc : s.cmd? r = some c) (hz : z.cmds = (s.endCmd r e).cmds) : Answered r e w s z.settled where
  ended := ⟨c.finish e, State.settled_ended (hz ▸ State.mem_modCmd_self hc _) (Option.some_ne_none e), (State.mem_of_cmd hc).2.1, rfl⟩
  others := State.others_settled hz
  frame := h.settled

/-- Starting command r, one that measures nothing, with nothing else done than what w allows. -/
theorem Exact.begun (h : Exact w s z) (hc : s.cmd? r = some c) (hop : (f c).op ≠ opMEASURE) (hr : (f c).isRef r = true)
    (hs : (f c).started = true) (hz : z.cmds = (s.modCmd r f).cmds) : Begun r w s z.settled where
  started := by
    have hst : (f c).StandsIn z := ⟨f c, hz ▸ State.mem_modCmd_self hc f, ⟨rfl, rfl, rfl, rfl, rfl, rfl, rfl, rfl, fun _ => rfl⟩⟩
    obtain ⟨k, hk, g⟩ := hst.settled hop
    exact ⟨k, hk, (g.isRef r).trans hr, g.started.trans hs⟩
  others := State.others_settled hz
  frame := h.settled

end

/-! ### Updates that a frame allows -/

/-- Free values drawn. -/
theorem Exact.set_free (h : Exact w s z) (n : Nat) (hp : ∀ x n, w.parts { x with free := n } = w.parts x) : Exact w s { z with free := n } :=
  h.congr (hp z.parts n) rfl rfl rfl rfl rfl rfl rfl rfl

theorem Exact.set_anchor (h : Exact w s z) (a : Anchor) (hp : ∀ x a, w.parts { x with anchor := a } = w.parts x) : Exact w s { z with anchor := a } :=
  h.congr (hp z.parts a) rfl rfl rfl rfl rfl rfl rfl rfl

theorem Exact.setJob (h : Exact w s z) (t n : Nat) (j : Option Job) (hp : ∀ x l, w.parts { x with jobs := l } = w.parts x) :
    Exact w s (z.setJob t n j) := h.congr (hp z.parts _) rfl rfl rfl rfl rfl rfl rfl rfl

theorem Exact.modTdc (h : Exact w s z) (u : Nat) (f : Tdc → Tdc) (hp : ∀ x l, w.parts { x with tdcs := l } = w.parts x) :
    Exact w s (z.modTdc u f) := h.congr (hp z.parts _) rfl rfl rfl rfl rfl rfl rfl rfl

theorem Exact.setPair (h : Exact w s z) (a v : Nat) (hp : ∀ x l, w.parts { x with pairs := l } = w.parts x) : Exact w s (z.setPair a v) :=
  h.congr (hp z.parts _) rfl rfl rfl rfl rfl rfl rfl rfl

/-! ### Fields written together -/

/-- A field among those written together reads as written, where those after it are other fields. -/
theorem State.getF_setFs_mid (s : State) (b : Nat) {pre post : List (Fld × Nat)} {f : Fld} {v : Nat} (hf : f.hi < 32)
    (hl : ∀ g ∈ post.map Prod.fst, g.off = f.off ∧ (f.hi < g.lo ∨ g.hi < f.lo)) :
    (s.setFs b (pre ++ (f, v) :: post)).getF b f = v % 2 ^ (f.hi + 1 - f.lo) := by
  have hd : ∀ e ∈ post, e.1.off = f.off ∧ (f.hi < e.1.lo ∨ e.1.hi < f.lo) := fun e he => hl _ (List.mem_map_of_mem he)
  unfold State.setFs
  rw [List.foldl_append, List.foldl_cons]
  exact (State.getF_setFs_disj _ b hd).trans (State.getF_setF_self _ b f v hf)

/-- Writing fields changes registers only. -/
theorem State.setFs_eq {α : Type} (g : State → α) (hg : ∀ x r, g { x with regs := r } = g x) (s : State) (b : Nat) (l : List (Fld × Nat)) :
    g (s.setFs b l) = g s := by
  induction l generalizing s with
  | nil => rfl
  | cons e l ih => exact (ih (s.setF b e.1 e.2)).trans (hg s _)

/-! ### The output of a command (R242) -/

section
variable {bs : List Byte}

theorem State.output_none (s : State) (bs : List Byte) (h : c.raddr = 0) : s.output c bs = (s, false) := if_pos h

theorem State.output_some (s : State) (bs : List Byte) (h : c.raddr ≠ 0) :
    s.output c bs = (s.hostWrite c.raddr (bs.take c.rlen), decide (c.rlen < bs.length)) := if_neg h

/-- Output changes host memory and the packets of the module's own, and nothing else. -/
theorem State.output_eq {α : Type} (g : State → α) (hg : ∀ x l o, g { x with host := l, own := o } = g x) (s : State) (c : Cmd) (bs : List Byte) :
    g (s.output c bs).1 = g s := by
  by_cases h : c.raddr = 0
  · rw [s.output_none bs h]
  · rw [s.output_some bs h]
    exact hg s _ _

theorem State.output_cut (s : State) (c : Cmd) (bs : List Byte) : (s.output c bs).2 = decide (c.raddr ≠ 0 ∧ c.rlen < bs.length) := by
  by_cases h : c.raddr = 0
  · rw [s.output_none bs h]
    exact (decide_eq_false fun e => e.1 h).symm
  · rw [s.output_some bs h]
    exact decide_eq_decide.2 (and_iff_right h).symm

/-- Where a command has a RADDR, its output stands there, as far as RLEN goes. -/
theorem State.memRead_output (s : State) (bs : List Byte) (h : c.raddr ≠ 0) :
    memRead hostReset (s.output c bs).1.host c.raddr (min bs.length c.rlen) = bs.take c.rlen := by
  have hm := memRead_memWrite (dm := hostReset) s.host c.raddr (bs.take c.rlen)
  rw [List.length_take, Nat.min_comm] at hm
  rw [s.output_some bs h]
  exact hm

theorem Exact.output (h : Exact w s z) (hw : ∀ a, c.raddr ≠ 0 ∧ c.raddr ≤ a ∧ a < c.raddr + min bs.length c.rlen → w.host a) :
    Exact w s (z.output c bs).1 := by
  by_cases hr : c.raddr = 0
  · rw [z.output_none bs hr]
    exact h
  · rw [z.output_some bs hr]
    exact { h with
      host := fun k hk => (tabGet_memWrite_out _ _ _ (by
        rw [List.length_take, Nat.min_comm]
        by_contra hc
        exact hk (hw k ⟨hr, by omega, by omega⟩))).trans (h.host k hk) }

theorem State.modCmd_cmds (hz : z.cmds = s.cmds) (r : CmdRef) (f : Cmd → Cmd) : (z.modCmd r f).cmds = (s.modCmd r f).cmds := congrArg (List.map _) hz

theorem State.endCmd_cmds (hz : z.cmds = s.cmds) (r : CmdRef) (e : Ending) : (z.endCmd r e).cmds = (s.endCmd r e).cmds := State.modCmd_cmds hz r _

/-- Ending command r, c, after it has put out bs, with nothing else done than what w allows, answers it. -/
theorem Exact.answered_output {e : Ending} {k : Cmd} (h : Exact w s z) (hc : s.cmd? r = some k) (hz : z.cmds = s.cmds)
    (hw : ∀ a, c.raddr ≠ 0 ∧ c.raddr ≤ a ∧ a < c.raddr + min bs.length c.rlen → w.host a) :
    Answered r e w s ((z.output c bs).1.endCmd r e).settled ∧
      (c.raddr ≠ 0 → memRead hostReset ((z.output c bs).1.endCmd r e).settled.host c.raddr (min bs.length c.rlen) = bs.take c.rlen) := by
  refine ⟨((h.output hw).mapCmds _ _).answered hc (State.endCmd_cmds ((State.output_eq State.cmds (fun _ _ _ => rfl) z c bs).trans hz) r e), fun hr => ?_⟩
  rw [State.settled_host]
  exact z.memRead_output bs hr

end

end Sys2Proof.Machine
end

section
/-! PROOFS. The calibration commands (R208 to R224, R249). Settles O42. -/

namespace Sys2Proof.Machine

open Sys2Proof (Instr)

variable {w : Touch} {s z : State} {cmd : CmdRef} {k : Cmd}

/-- CAL_STATUS does not follow a command. -/
theorem State.settled_cal (s : State) {f : Fld} (ho : 0x400000 ≤ f.off ∧ f.off < 0x500000) : s.settled.isSet 0 f = s.isSet 0 f :=
  s.settled_isSet (by
    unfold follows
    rw [decide_eq_false_iff_not]
    omega)

/-! ### CAL_ANCHOR (R211, R212) -/

theorem State.anchorCheck_refuses (h : s.isSet 0 CAL_STATUS.ANCHOR_RUN = true ∨ s.isSet 0 CAL_STATUS.ANCHOR_STAGED = true ∨
    s.isSet 0 CAL_STATUS.TIME_SET = false ∨ s.activeShades = []) : s.anchorCheck = some { status := scSTATE, detail := 6 } :=
  if_pos (by rwa [Bool.not_eq_true])

theorem State.anchorCheck_passes (hr : s.isSet 0 CAL_STATUS.ANCHOR_RUN = false) (hs : s.isSet 0 CAL_STATUS.ANCHOR_STAGED = false)
    (ht : s.isSet 0 CAL_STATUS.TIME_SET = true) (ha : s.activeShades ≠ []) : s.anchorCheck = none :=
  if_neg (by simp [hr, hs, ht, ha])

theorem calAnchor_refused {e : Ending} (h : s.ready? cmd opANCHOR = some k) (he : s.anchorCheck = some e) :
    Completes (.calAnchor cmd) s (Answered cmd e {} s) := by
  refine completes_done (z := s.endCmd cmd e) ?_ (((Exact.refl _ s).mapCmds _ _).answered (State.cmd_of_ready h).1 rfl)
  show execCalAnchor cmd s = _
  unfold execCalAnchor
  rw [h, he]

/-- Step 1 of an anchor for command cmd. -/
def State.anchorBegins (s : State) (cmd : CmdRef) (k : Cmd) : State :=
  { (s.modCmd cmd fun c => { c with started := true }).setF 0 CAL_STATUS.ANCHOR_RUN 1 with
    anchor := { run := some cmd, step := 1, block := (List.range 12).map fun i => BitVec.ofNat 32 (k.p (4 * i)) } }

theorem calAnchor_begins (h : s.ready? cmd opANCHOR = some k) (he : s.anchorCheck = none) : Completes (.calAnchor cmd) s fun t =>
    Begun cmd { regs := fun a => a = CAL_STATUS.ANCHOR_RUN.off, parts := fun x => { x with anchor := {} } } s t ∧
      t.isSet 0 CAL_STATUS.ANCHOR_RUN = true ∧ t.anchor.run = some cmd ∧ t.anchor.step = 1 ∧ t.anchor.failed = 0 ∧
      (∀ i < 12, t.anchor.block.getD i 0 = BitVec.ofNat 32 (k.p (4 * i))) := by
  obtain ⟨hcmd, hop⟩ := State.cmd_of_ready h
  have hx : exec (.calAnchor cmd) s = done (s.anchorBegins cmd k) := by
    show execCalAnchor cmd s = _
    unfold execCalAnchor
    rw [h, he]
    rfl
  have hexact : Exact { regs := fun a => a = CAL_STATUS.ANCHOR_RUN.off, parts := fun x => { x with anchor := {} } } s (s.anchorBegins cmd k) :=
    (((Exact.refl _ s).mapCmds _ _).setF 1 rfl).set_anchor _ fun _ _ => rfl
  refine completes_done hx ⟨hexact.begun hcmd (by rw [hop]; decide) (State.mem_of_cmd hcmd).2.1 rfl rfl, ?_, ?_⟩
  · rw [State.settled_cal _ (by decide)]
    exact State.isSet_setF_self _ 0 CAL_STATUS.ANCHOR_RUN 1 (by decide)
  · rw [State.settled_anchor]
    refine ⟨rfl, rfl, rfl, fun i hi => ?_⟩
    unfold State.anchorBegins
    rw [List.getD_eq_getElem _ _ (by simpa using hi)]
    simp

/-! ### CAL_COMMIT (R222) -/

theorem calCommit_none (h : s.ready? cmd opCOMMIT = some k) (hp : k.pf 0 1 0 = 0) (hn : s.anyStaged = false) :
    Completes (.calCommit cmd) s (Answered cmd { status := scOK, result := s.gen } {} s) := by
  refine completes_done (z := s.endCmd cmd _) ?_ (((Exact.refl _ s).mapCmds _ _).answered (State.cmd_of_ready h).1 rfl)
  show execCalCommit cmd s = _
  unfold execCalCommit
  rw [h]
  simp [hp, hn]

theorem calCommit_waits (h : s.ready? cmd opCOMMIT = some k) (hp : k.pf 0 1 0 = 0) (hn : s.anyStaged = true) :
    Completes (.calCommit cmd) s fun t => t.commitPend = true ∧ t.commitCmds = s.commitCmds ++ [cmd] ∧
      Begun cmd { parts := fun x => { x with commitPend := false, commitCmds := [] } } s t := by
  obtain ⟨hcmd, hop⟩ := State.cmd_of_ready h
  have hx : exec (.calCommit cmd) s =
      done { s.modCmd cmd fun c => { c with started := true } with commitPend := true, commitCmds := s.commitCmds ++ [cmd] } := by
    show execCalCommit cmd s = _
    unfold execCalCommit
    rw [h]
    simp [hp, hn]
  refine completes_done hx ⟨State.settled_commitPend _, State.settled_commitCmds _, Exact.begun (f := fun c => { c with started := true })
    ((Exact.refl _ s).congr rfl rfl rfl rfl rfl rfl rfl rfl rfl) hcmd (by show k.op ≠ _; rw [hop]; decide) (State.mem_of_cmd hcmd).2.1 rfl rfl⟩

/-- What a discard may change. -/
def discardTouch : Touch where
  regs a := a = CAL_STATUS.ANCHOR_STAGED.off
  sram a := calStage ≤ a ∧ a < calStage + 0x100000
  parts x := { x with stagedUnits := [], stagedTiles := [], stagedXfer := 0, timingNew := [], anchor := {} }

/-- The staging buffer emptied. -/
def State.stageClear (s : State) : State := s.sramClear fun a => decide (calStage ≤ a ∧ a < calStage + 0x100000)

theorem State.sramByte_stageClear (s : State) (a : Nat) :
    s.stageClear.sramByte a = if calStage ≤ a ∧ a < calStage + 0x100000 then sramReset a else s.sramByte a := by
  unfold State.sramByte State.stageClear State.sramClear
  rw [tabGet_tabKeep]
  by_cases h : calStage ≤ a ∧ a < calStage + 0x100000
  · rw [if_pos h, if_neg (by simp [h])]
  · rw [if_neg h, if_pos (by simp [h])]

theorem State.unstage_eq (s : State) : s.unstage =
    { s.stageClear.setFs 0 [(CAL_STATUS.ANCHOR_STAGED, 0), (CAL_STATUS.XFER_STAGED, 0)] with
      stagedUnits := [], stagedTiles := [], stagedXfer := 0, timingNew := []
      anchor := if s.isSet 0 CAL_STATUS.ANCHOR_RUN then s.anchor else {} } := by
  have h : (s.stageClear.setFs 0 [(CAL_STATUS.ANCHOR_STAGED, 0), (CAL_STATUS.XFER_STAGED, 0)]).isSet 0 CAL_STATUS.ANCHOR_RUN =
      s.isSet 0 CAL_STATUS.ANCHOR_RUN := State.isSet_of_getF (State.getF_setFs_disj s.stageClear 0 (by decide))
  rw [← h]
  rfl

theorem State.unstage_isSet {f : Fld} (s : State) (hf : f = CAL_STATUS.ANCHOR_STAGED ∨ f = CAL_STATUS.XFER_STAGED) : s.unstage.isSet 0 f = false := by
  obtain rfl | rfl := hf
  · exact (State.isSet_setF_disj _ 0 CAL_STATUS.XFER_STAGED CAL_STATUS.ANCHOR_STAGED 0 rfl (by decide)).trans
      (State.isSet_setF_self _ 0 CAL_STATUS.ANCHOR_STAGED 0 (by decide))
  · exact State.isSet_setF_self _ 0 CAL_STATUS.XFER_STAGED 0 (by decide)

theorem State.unstage_sram (s : State) {a : Nat} (h : calStage ≤ a ∧ a < calStage + 0x100000) : s.unstage.sramByte a = sramReset a := by
  rw [s.unstage_eq]
  exact (s.sramByte_stageClear a).trans (if_pos h)

theorem State.unstage_anchor (s : State) (h : s.isSet 0 CAL_STATUS.ANCHOR_RUN = true) : s.unstage.anchor = s.anchor := by
  rw [s.unstage_eq, h]
  rfl

/-- Nothing stays staged. -/
theorem State.unstage_none (s : State) : s.unstage.anyStaged = false := by
  unfold State.anyStaged
  rw [s.unstage_isSet (.inl rfl)]
  rfl

theorem Exact.unstage : Exact discardTouch s s.unstage := by
  have h1 : Exact discardTouch s s.stageClear :=
    { Exact.refl discardTouch s with sram := fun a ha => (s.sramByte_stageClear a).trans (if_neg ha) }
  have h2 := h1.setFs (b := 0) (l := [(CAL_STATUS.ANCHOR_STAGED, 0), (CAL_STATUS.XFER_STAGED, 0)]) (by
    intro e he
    fin_cases he <;> rfl)
  rw [s.unstage_eq]
  exact h2.congr rfl rfl rfl rfl rfl rfl rfl rfl rfl

theorem calDiscard_completes (h : s.ready? cmd opCOMMIT = some k) (hp : k.pf 0 1 0 = 1) : Completes (.calDiscard cmd) s fun t =>
    Answered cmd { status := scOK, result := s.gen } discardTouch s t ∧ t.anyStaged = false ∧ t.isSet 0 CAL_STATUS.XFER_STAGED = false ∧
      t.stagedXfer = 0 ∧ (∀ a, calStage ≤ a → a < calStage + 0x100000 → t.sramByte a = sramReset a) ∧
      (s.isSet 0 CAL_STATUS.ANCHOR_RUN = true → t.anchor = s.anchor) := by
  have hx : exec (.calDiscard cmd) s = done (s.unstage.endCmd cmd { status := scOK, result := s.gen }) := by
    show execCalDiscard cmd s = _
    unfold execCalDiscard
    rw [h]
    simp [hp]
  refine completes_done hx ⟨(Exact.unstage.mapCmds _ _).answered (State.cmd_of_ready h).1 (by rw [s.unstage_eq]; rfl), ?_, ?_, ?_, ?_, ?_⟩
  · unfold State.anyStaged
    rw [State.settled_cal _ (by decide), State.settled_stagedUnits, State.settled_stagedTiles, State.settled_timingNew]
    exact s.unstage_none
  · rw [State.settled_cal _ (by decide)]
    exact s.unstage_isSet (.inr rfl)
  · rw [State.settled_stagedXfer]
    rfl
  · intro a hl hh
    unfold State.sramByte
    rw [State.settled_sram]
    exact s.unstage_sram ⟨hl, hh⟩
  · intro hr
    rw [State.settled_anchor]
    exact s.unstage_anchor hr

/-! ### The archive (R222, R224) -/

/-- What the start of an archive write may change. -/
def archTouch : Touch where
  regs a := a = CAL_STATUS.ARCH_BUSY.off
  parts x := { x with archNow := [], archNext := none }

theorem State.archStart_idle (cs : List CmdRef) (h : s.isSet 0 CAL_STATUS.ARCH_BUSY = false) :
    s.archStart cs = { s.setF 0 CAL_STATUS.ARCH_BUSY 1 with archNow := cs } := if_neg (by rw [h]; exact Bool.false_ne_true)

theorem State.archStart_busy (cs : List CmdRef) (h : s.isSet 0 CAL_STATUS.ARCH_BUSY = true) :
    s.archStart cs = { s with archNext := some (s.archNext.getD [] ++ cs) } := if_pos h

theorem State.archStart_isSet (s : State) (cs : List CmdRef) : (s.archStart cs).isSet 0 CAL_STATUS.ARCH_BUSY = true := by
  by_cases h : s.isSet 0 CAL_STATUS.ARCH_BUSY = true
  · rw [State.archStart_busy cs h]
    exact h
  · rw [State.archStart_idle cs (Bool.eq_false_iff.2 h)]
    exact State.isSet_setF_self _ 0 CAL_STATUS.ARCH_BUSY 1 (by decide)

theorem State.archStart_cmds (s : State) (cs : List CmdRef) : (s.archStart cs).cmds = s.cmds :=
  ite_keeps (R := fun x => x.cmds = s.cmds) (fun _ => rfl) fun _ => rfl

theorem Exact.archStart (h : Exact archTouch s z) (cs : List CmdRef) : Exact archTouch s (z.archStart cs) :=
  .ite (fun _ => h.congr rfl rfl rfl rfl rfl rfl rfl rfl rfl) fun _ =>
    (h.setF (b := 0) (f := CAL_STATUS.ARCH_BUSY) 1 rfl).congr rfl rfl rfl rfl rfl rfl rfl rfl rfl

theorem calArchive_completes (h : s.ready? cmd opCOMMIT = some k) (hp : k.pf 0 1 0 = 2) : Completes (.calArchive cmd) s fun t =>
    t.isSet 0 CAL_STATUS.ARCH_BUSY = true ∧ (s.isSet 0 CAL_STATUS.ARCH_BUSY = false → t.archNow = [cmd] ∧ t.archNext = s.archNext) ∧
      (s.isSet 0 CAL_STATUS.ARCH_BUSY = true → t.archNow = s.archNow ∧ t.archNext = some (s.archNext.getD [] ++ [cmd])) ∧
      Begun cmd archTouch s t := by
  obtain ⟨hcmd, hop⟩ := State.cmd_of_ready h
  have hx : exec (.calArchive cmd) s = done ((s.modCmd cmd fun c => { c with started := true }).archStart [cmd]) := by
    show execCalArchive cmd s = _
    unfold execCalArchive
    rw [h]
    simp [hp]
  refine completes_done hx ⟨?_, fun hb => ?_, fun hb => ?_, ?_⟩
  · rw [State.settled_cal _ (by decide)]
    exact State.archStart_isSet _ _
  · rw [State.settled_archNow, State.settled_archNext, State.archStart_idle (s := s.modCmd cmd _) _ hb]
    exact ⟨rfl, rfl⟩
  · rw [State.settled_archNow, State.settled_archNext, State.archStart_busy (s := s.modCmd cmd _) _ hb]
    exact ⟨rfl, rfl⟩
  · exact (((Exact.refl _ s).mapCmds _ _).archStart _).begun (f := fun c => { c with started := true }) hcmd (by show k.op ≠ _; rw [hop]; decide)
      (State.mem_of_cmd hcmd).2.1 rfl (State.archStart_cmds _ _)

theorem calArchiveTimer_starts (hd : s.calDirty = true) (hb : s.isSet 0 CAL_STATUS.ARCH_BUSY = false) :
    Completes .calArchiveTimer s fun t => t.isSet 0 CAL_STATUS.ARCH_BUSY = true ∧ t.archNow = [] := by
  have hx : exec .calArchiveTimer s = done (s.archStart []) := by
    show execCalArchiveTimer s = _
    unfold execCalArchiveTimer
    simp [hd, hb]
  refine completes_done hx ⟨?_, ?_⟩
  · rw [State.settled_cal _ (by decide)]
    exact State.archStart_isSet _ _
  · rw [State.settled_archNow, State.archStart_idle _ hb]

/-- A write to the committed buffer is one to the SRAM. -/
theorem State.calPut_eq {α : Type} (g : State → α) (hg : ∀ x m, g { x with sram := m } = g x) (s : State) (o n v : Nat) :
    g (s.calPut o n v) = g s := hg s _

theorem State.sealRecord_eq {α : Type} (g : State → α) (hg : ∀ x m, g { x with sram := m } = g x) (s : State) (n : Nat) :
    g (s.sealRecord n) = g s := by
  unfold State.sealRecord
  simp only [State.calPut_eq g hg]

/-- The committed buffer, sealed with counter n, stands in a slot of the flash. -/
def State.archived (s : State) (n : Nat) : State :=
  let s := s.sealRecord n
  let a := 0xC00000 + 0x100000 * (match s.newestSlot with | some (k, _) => (k + 1) % 4 | none => 0)
  (s.flashErase a 0x100000).flashPut a (memRead sramReset s.sram calBase recEnd)

theorem State.archived_eq {α : Type} (g : State → α) (hg : ∀ x m, g { x with sram := m } = g x) (hf : ∀ x m, g { x with flash := m } = g x)
    (s : State) (n : Nat) : g (s.archived n) = g s :=
  ((hf _ _).trans (hf _ _)).trans (State.sealRecord_eq g hg s n)

/-- An archive write is counted as the n-th, and what awaited it has ended: its end, where nothing awaited it or follows it. -/
def State.archCount (s : State) (n : Nat) : State := { s.setF 0 CAL_ARCH_CNT.COUNT n with calDirty := false }

/-- The end of an archive write, after the commands that awaited it have ended. -/
def State.archRests (s : State) : State :=
  { s.setF 0 IRQ_LATCH.CAL 1 with archNow := s.archNext.getD [], archNext := none }.setF 0 CAL_STATUS.ARCH_BUSY (b2n s.archNext.isSome)

theorem archiveWriteDone_eq (hb : s.isSet 0 CAL_STATUS.ARCH_BUSY = true) :
    exec (.archiveWriteDone true) s =
      done (((s.archived (s.getF 0 CAL_ARCH_CNT.COUNT + 1)).archCount (s.getF 0 CAL_ARCH_CNT.COUNT + 1)).archEnd true).archRests := by
  show execArchiveWriteDone true s = _
  unfold execArchiveWriteDone State.archRests State.archCount State.archived
  rw [if_neg (by rw [hb]; exact not_not_intro rfl), if_pos rfl]
  rfl

theorem State.archEnd_none (ok : Bool) (h : s.archNow = []) : s.archEnd ok = s := by
  unfold State.archEnd
  rw [h]
  rfl

/-- The write is counted, and the archive rests. -/
theorem State.archRests_of_none (n : Nat) (hn : s.archNow = []) (h : s.archNext = none) :
    ((s.archCount n).archEnd true).archRests.settled.isSet 0 CAL_STATUS.ARCH_BUSY = false ∧
    ((s.archCount n).archEnd true).archRests.settled.calDirty = false ∧
    ((s.archCount n).archEnd true).archRests.settled.getF 0 CAL_ARCH_CNT.COUNT = n % 2 ^ 32 := by
  rw [State.archEnd_none (s := s.archCount n) true hn]
  refine ⟨?_, State.settled_calDirty _, ?_⟩
  · rw [State.settled_cal _ (by decide)]
    refine (State.isSet_setF_mark _ 0 s.archNext.isSome (by decide)).trans ?_
    rw [h]
    rfl
  · rw [State.settled_getF _ (by decide)]
    exact ((State.getF_setF_off _ 0 (by decide) _).trans (State.getF_setF_off _ 0 (by decide) _)).trans
      (State.getF_setF_self s 0 CAL_ARCH_CNT.COUNT n (by decide))

theorem archiveWriteDone_rests (hb : s.isSet 0 CAL_STATUS.ARCH_BUSY = true) (hn : s.archNow = []) (hx : s.archNext = none) :
    Completes (.archiveWriteDone true) s fun t => t.isSet 0 CAL_STATUS.ARCH_BUSY = false ∧ t.calDirty = false ∧
      t.getF 0 CAL_ARCH_CNT.COUNT = (s.getF 0 CAL_ARCH_CNT.COUNT + 1) % 2 ^ 32 := by
  refine completes_done (archiveWriteDone_eq hb) ?_
  generalize s.getF 0 CAL_ARCH_CNT.COUNT + 1 = n
  exact State.archRests_of_none n ((State.archived_eq State.archNow (fun _ _ => rfl) (fun _ _ => rfl) s n).trans hn)
    ((State.archived_eq State.archNext (fun _ _ => rfl) (fun _ _ => rfl) s n).trans hx)

/-! ### CAL_READ (R140, R249) -/

theorem State.drawWords_eq (s : State) (n : Nat) : ∃ m, (s.drawWords n).2 = { s with free := m } := by
  induction n generalizing s with
  | zero => exact ⟨_, rfl⟩
  | succ n ih =>
    obtain ⟨m, hm⟩ := ih (s.draw 32).2
    exact ⟨m, hm⟩

/-- What a read puts out; what it leaves of the state is z. -/
theorem calRead_completes {full bs : List Byte} (h : s.ready? cmd opCALREAD = some k)
    (hf : s.calOutput (k.pf 0 7 0) (k.pf 0 26 16) (k.p 4) = (full, z)) (hbs : bs = (full.drop (k.p 8)).take (k.p 0xC)) (hz : Exact w s z)
    (hc : z.cmds = s.cmds) (hw : ∀ a, k.raddr ≠ 0 ∧ k.raddr ≤ a ∧ a < k.raddr + min bs.length k.rlen → w.host a) :
    Completes (.calRead cmd) s fun t =>
      Answered cmd { status := scOK, partialDone := decide (k.raddr ≠ 0 ∧ k.rlen < bs.length ∨ bs.length < k.p 0xC), result := k.outLen bs.length } w s t ∧
      (k.raddr ≠ 0 → memRead hostReset t.host k.raddr (min bs.length k.rlen) = bs.take k.rlen) := by
  have hx : exec (.calRead cmd) s = done ((z.output k bs).1.endCmd cmd
      { status := scOK, partialDone := (z.output k bs).2 || decide (bs.length < k.p 0xC), result := k.outLen bs.length }) := by
    show execCalRead cmd s = _
    unfold execCalRead
    rw [h]
    dsimp only
    rw [hf, hbs]
  rw [z.output_cut, ← Bool.decide_or] at hx
  exact completes_done hx (hz.answered_output (State.cmd_of_ready h).1 hc hw)

/-- What CAL_READ SEL puts out where the model fixes it. -/
theorem State.calOutput_fixed {sel unit slot : Nat} {full : List Byte} (h : sel = 0 ∧ full = s.feRecord unit ∨
    sel = 1 ∧ full = (if s.stagedUnits.any (fun e => e.1 == unit) then memRead sramReset s.sram (calStage + feRec unit) 768 else leBytes 768 0) ∨
    sel = 2 ∧ (s.tim unit).hist ≠ [] ∧ full = (List.range 200).flatMap (fun q => leBytes 4 ((s.tim unit).hist.getD q 0)) ∨
    sel = 4 ∧ full = memRead flashReset s.flash (0xC00000 + 0x100000 * slot) recEnd ∨
    5 ≤ sel ∧ full = (if s.isSet 0 CAL_STATUS.ANCHOR_STAGED then leBytes 8 s.anchor.mref ++ leBytes 4 s.anchor.change ++ leBytes 4 s.anchor.passed else leBytes 16 0)) :
    s.calOutput sel unit slot = (full, s) := by
  unfold State.calOutput
  obtain ⟨hs, hf⟩ | ⟨hs, hf⟩ | ⟨hs, hh, hf⟩ | ⟨hs, hf⟩ | ⟨hs, hf⟩ := h
  · rw [hf, if_pos hs]
  · rw [hf, if_neg (by omega), if_pos hs]
  · rw [hf, if_neg (by omega), if_neg (by omega), if_pos hs, if_neg hh]
  · rw [hf, if_neg (by omega), if_neg (by omega), if_neg (by omega), if_neg (by omega), if_pos hs]
    rfl
  · rw [hf, if_neg (by omega), if_neg (by omega), if_neg (by omega), if_neg (by omega), if_neg (by omega)]
    rfl

/-- Elsewhere it takes free values and nothing else. -/
theorem State.calOutput_drawn {sel unit : Nat} (slot : Nat) (h : sel = 3 ∨ sel = 2 ∧ (s.tim unit).hist = []) :
    ∃ full m, s.calOutput sel unit slot = (full, { s with free := m }) := by
  unfold State.calOutput
  by_cases hh : (s.tim unit).hist = []
  · obtain rfl | ⟨rfl, -⟩ := h
    · obtain ⟨m, hm⟩ := s.drawWords_eq 450
      exact ⟨_, m, Prod.ext rfl (by simpa [hh] using hm)⟩
    · obtain ⟨m, hm⟩ := s.drawWords_eq 200
      exact ⟨_, m, Prod.ext rfl (by simpa [hh] using hm)⟩
  · obtain rfl | ⟨-, he⟩ := h
    · exact ⟨_, s.free + 1, by simp [hh, State.draw]; rfl⟩
    · exact absurd he hh

theorem calRead_drawn (h : s.ready? cmd opCALREAD = some k) (hs : k.pf 0 7 0 = 3 ∨ k.pf 0 7 0 = 2 ∧ (s.tim (k.pf 0 26 16)).hist = []) :
    Completes (.calRead cmd) s fun t => ∃ p r, Answered cmd { status := scOK, partialDone := p, result := r }
      { host := fun a => k.raddr ≠ 0 ∧ k.raddr ≤ a ∧ a < k.raddr + k.rlen, parts := fun x => { x with free := 0 } } s t := by
  obtain ⟨full, m, hf⟩ := State.calOutput_drawn (k.p 4) hs
  obtain ⟨t, ht, hans, -⟩ := calRead_completes (w := { host := fun a => k.raddr ≠ 0 ∧ k.raddr ≤ a ∧ a < k.raddr + k.rlen, parts := fun x => { x with free := 0 } })
    h hf rfl ((Exact.refl _ s).set_free m fun _ _ => rfl) rfl fun a ⟨hr, hl, hu⟩ => ⟨hr, hl, by omega⟩
  exact ⟨t, ht, _, _, hans⟩

/-! ### Steps (R209, R211, R214) -/

/-- A step of an anchor that only counts: its failures are noted, and the next step is due. -/
theorem anchorStep_counts (inp : AnchorIn) (hr : s.isSet 0 CAL_STATUS.ANCHOR_RUN = true) (hl : 4 ≤ s.anchor.step) (hu : s.anchor.step ≤ 6) :
    Completes (.anchorStep inp) s fun t => t.anchor.step = s.anchor.step + 1 ∧ t.anchor.run = s.anchor.run ∧
      Frame { parts := fun x => { x with anchor := {} } } s t := by
  have hx : exec (.anchorStep inp) s = done { s with anchor :=
      { s.anchor with failed := (inp.failed.map Fin.val).foldl (fun m k => setBit m k true) s.anchor.failed, step := s.anchor.step + 1 } } := by
    show execAnchorStep inp s = _
    unfold execAnchorStep
    simp only [hr, not_true_eq_false, if_false]
    rw [if_neg (by omega), if_neg (by omega), if_neg (by omega), if_neg (by omega)]
  refine completes_done hx ⟨?_, ?_, ((Exact.refl _ s).set_anchor _ fun _ _ => rfl).settled⟩
  · rw [State.settled_anchor]
  · rw [State.settled_anchor]

/-- An anchor that is ended for command r leaves no anchor, and the command has ended. -/
theorem State.anchorKill_ends {r : CmdRef} (hr : s.isSet 0 CAL_STATUS.ANCHOR_RUN = true) (ha : s.anchor.run = some r) (hc : s.cmd? r = some k)
    (e : Ending) : (s.anchorKill (some e)).settled.isSet 0 CAL_STATUS.ANCHOR_RUN = false ∧ (s.anchorKill (some e)).settled.anchor = {} ∧
      ∃ x ∈ (s.anchorKill (some e)).settled.cmds, x.isRef r = true ∧ x.ending ≠ none := by
  have hkill : s.anchorKill (some e) = { (s.endCmd r e).setF 0 CAL_STATUS.ANCHOR_RUN 0 with anchor := {} } := by
    unfold State.anchorKill
    rw [if_pos hr, ha]
  rw [hkill]
  refine ⟨?_, State.settled_anchor _, k.finish e, ?_, (State.mem_of_cmd hc).2.1, Option.some_ne_none e⟩
  · rw [State.settled_cal _ (by decide)]
    exact State.isSet_setF_self _ 0 CAL_STATUS.ANCHOR_RUN 0 (by decide)
  · exact State.settled_ended (State.mem_modCmd_self hc _) (Option.some_ne_none e)

theorem calAnchorTimeout_ends {r : CmdRef} (hr : s.isSet 0 CAL_STATUS.ANCHOR_RUN = true) (hb : s.anchor.block.getD 11 0 ≠ 0)
    (ha : s.anchor.run = some r) (hc : s.cmd? r = some k) : Completes .calAnchorTimeout s fun t =>
      t.isSet 0 CAL_STATUS.ANCHOR_RUN = false ∧ t.anchor = {} ∧ ∃ x ∈ t.cmds, x.isRef r = true ∧ x.ending ≠ none := by
  have hx : exec .calAnchorTimeout s = done ((s.draw 20).2.anchorKill (some _)) := if_neg fun e => e.elim (fun h => h hr) hb
  exact completes_done hx (State.anchorKill_ends (s := (s.draw 20).2) hr ha hc _)

/-- A step of a transfer that only counts. -/
theorem transferStep_counts {x : Fin 8} {rows : List (Fin 4 × CalRow)} {tresH tresL : List (Fin 4 × BitVec 64)}
    (hx : s.isSet (x * 0x10) CAL_TILE_ROT.XFER = true) (hm : s.mode ≠ stSAFE) (hs : (s.tile x).xferStep = 2 ∨ (s.tile x).xferStep = 3) :
    Completes (.transferStep x rows tresH tresL) s fun t => t.tile x = { s.tile x with xferStep := (s.tile x).xferStep + 1 } ∧
      Frame { parts := fun x => { x with tiles := [] } } s t := by
  have he : exec (.transferStep x rows tresH tresL) s = done (s.modTile x fun y => { y with xferStep := (s.tile x).xferStep + 1 }) := by
    show execTransferStep x rows tresH tresL s = _
    unfold execTransferStep
    dsimp only
    rw [if_neg (by simp [hx, hm]), if_neg (by omega), if_neg (by omega), if_pos (by omega)]
  refine completes_done he ⟨?_, ((Exact.refl _ s).modTile _ _ fun _ _ => rfl).settled⟩
  rw [State.settled_tile, State.tile_modTile_self]

/-! ### The rows -/

/-- Settles O42, command by command and event by event. -/
theorem calibrationCommandRows : Obligations.CalibrationCommandRows := by
  intro cmd k s
  refine ⟨fun h hc => calAnchor_refused h (State.anchorCheck_refuses hc), fun h hr hs ht ha => calAnchor_begins h (State.anchorCheck_passes hr hs ht ha),
    fun h hp => ⟨calCommit_none h hp, calCommit_waits h hp⟩, calDiscard_completes, calArchive_completes, ?_, calRead_drawn,
    anchorStep_counts, fun r => calAnchorTimeout_ends, fun x rows h l => transferStep_counts, calArchiveTimer_starts, archiveWriteDone_rests⟩
  rintro sel unit full bs h rfl rfl hf rfl
  exact calRead_completes h (State.calOutput_fixed hf) rfl (.refl _ s) rfl fun a ha => ha

end Sys2Proof.Machine
end

section
/-! PROOFS. The Sepia unit's jobs (R151 to R155). Settles O37. -/

namespace Sys2Proof.Machine

open Sys2Proof (Instr)

variable {w : Touch} {s z : State} {t n : Nat} {j : Job} {c : Cmd} {m : Sample}

theorem State.settled_job (s : State) (t n : Nat) : s.settled.job t n = s.job t n := by
  unfold State.job
  rw [State.settled_jobs]

/-- A search in rising order finds what the first place that has something gives. -/
theorem findSome_range {α : Type} {f : Nat → Option α} {n m : Nat} {a : α} (hn : n < m) (ha : f n = some a) (hf : ∀ i < n, f i = none) :
    (List.range m).findSome? f = some a := by
  induction m with
  | zero => omega
  | succ m ih =>
    rw [List.range_succ, List.findSome?_append]
    obtain hlt | rfl := Nat.lt_succ_iff_lt_or_eq.1 hn
    · rw [ih hlt]
      rfl
    · rw [List.findSome?_eq_none_iff.2 fun i hi => hf i (List.mem_range.1 hi)]
      exact List.findSome?_singleton.trans ha

/-! ### One slot -/

/-- The register of job slot n of tile t. -/
def jobReg (t n : Nat) : Nat := tileBase t + 4 * n + SEP_JOB.STATE.off

theorem jobReg_ne {k : Nat} (h : k ≠ n) : jobReg t k ≠ jobReg t n := by
  unfold jobReg
  omega

theorem jobReg_follows (ht : t < 8) (hn : n < 16) : follows (jobReg t n) = false := by
  have h := tileBase_follows (k := t) (o := 4 * n + SEP_JOB.STATE.off) ht (by show 4 * n + 0x1040 < 0x10000; omega)
  rwa [← Nat.add_assoc] at h

/-- A running job shows it, stands in its slot, and its command has not ended. -/
theorem State.liveJob_eq_some (h : s.liveJob t n = some (j, c)) :
    s.getF (tileBase t + 4 * n) SEP_JOB.STATE = 1 ∧ s.job t n = some j ∧ s.cmd? j.run = some c := by
  unfold State.liveJob at h
  split at h
  · cases h
  · rename_i hst
    split at h
    · cases h
    · rename_i k hk
      obtain ⟨x, hx, he⟩ := Option.map_eq_some_iff.1 h
      cases he
      exact ⟨not_not.1 hst, hk, hx⟩

theorem State.liveJob_of (hs : s.getF (tileBase t + 4 * n) SEP_JOB.STATE = 1) (hj : s.job t n = some j) (hc : s.cmd? j.run = some c) :
    s.liveJob t n = some (j, c) := by
  unfold State.liveJob
  rw [if_neg (not_not.2 hs), hj]
  dsimp only
  rw [hc]
  rfl

/-- What one slot does with the sample m (the body of `State.sepiaProcess`). -/
def State.slotTakes (s : State) (t : Nat) (m : Sample) (n : Nat) : State :=
  match s.liveJob t n with
  | none => s
  | some (j, c) =>
    if ¬ c.jobTakes m then s
    else
      let r := j.process c m
      let s := s.setJob t n (some r.1)
      let s := if r.2 then s.offer t 4 n 0 m.tc false else s
      if r.1.sets.all fun a => decide (c.jN ≤ a.count) then s.setF (tileBase t + 4 * n) SEP_JOB.STATE 2 else s

theorem State.sepiaProcess_cons {ms : List Sample} (h : (s.tile t).sepia = m :: ms) :
    s.sepiaProcess t = (List.range 16).foldl (fun x n => x.slotTakes t m n) (s.modTile t fun x => { x with sepia := ms }) := by
  unfold State.sepiaProcess
  rw [h]
  rfl

theorem State.slotTakes_none (h : s.liveJob t n = none) (m : Sample) : s.slotTakes t m n = s := by
  unfold State.slotTakes
  rw [h]

/-- s with other trigger parts. -/
def State.withTrigs (s : State) (l : List (Nat × Trig)) : State := { s with trigs := l }

theorem State.job_withTrigs (s : State) (l : List (Nat × Trig)) (t n : Nat) : (s.withTrigs l).job t n = s.job t n := rfl

/-- A job that takes the sample processes it, and starts to write its results when all its sets are full. -/
theorem State.slotTakes_some (h : s.liveJob t n = some (j, c)) (ht : c.jobTakes m = true) : ∃ l, s.slotTakes t m n =
    if (j.process c m).1.sets.all fun a => decide (c.jN ≤ a.count) then
      ((s.setJob t n (some (j.process c m).1)).withTrigs l).setF (tileBase t + 4 * n) SEP_JOB.STATE 2
    else (s.setJob t n (some (j.process c m).1)).withTrigs l := by
  have hoffer : ∃ l, (if (j.process c m).2 then (s.setJob t n (some (j.process c m).1)).offer t 4 n 0 m.tc false
      else s.setJob t n (some (j.process c m).1)) = (s.setJob t n (some (j.process c m).1)).withTrigs l :=
    ite_keeps (R := fun x => ∃ l, x = (s.setJob t n (some (j.process c m).1)).withTrigs l) (fun _ => State.offer_eq ..) fun _ => ⟨s.trigs, rfl⟩
  obtain ⟨l, hl⟩ := hoffer
  refine ⟨l, ?_⟩
  unfold State.slotTakes
  rw [h]
  dsimp only
  rw [if_neg (not_not.2 ht), hl]

theorem State.slotTakes_ignores (h : s.liveJob t n = some (j, c)) (ht : c.jobTakes m = false) : s.slotTakes t m n = s := by
  unfold State.slotTakes
  rw [h]
  exact if_pos (by rw [ht]; exact Bool.false_ne_true)

/-- Nothing but its register, its job and the trigger parts changes. -/
theorem State.slotTakes_eq {α : Type} (g : State → α) (hg : ∀ x r o l, g { x with regs := r, jobs := o, trigs := l } = g x) (s : State) :
    g (s.slotTakes t m n) = g s := by
  cases hl : s.liveJob t n with
  | none => rw [State.slotTakes_none hl]
  | some e =>
    obtain ⟨j, c⟩ := e
    cases ht : c.jobTakes m with
    | false => rw [State.slotTakes_ignores hl ht]
    | true =>
      obtain ⟨l, hx⟩ := State.slotTakes_some hl ht
      rw [hx]
      exact ite_keeps (R := fun x => g x = g s) (fun _ => hg s _ _ _) fun _ => hg s _ _ _

/-! ### All the slots -/

/-- z is s at slot n of tile t: its register, its job and the commands. -/
structure State.SlotSame (t n : Nat) (s z : State) : Prop where
  rd : z.rd (jobReg t n) = s.rd (jobReg t n)
  job : z.job t n = s.job t n
  cmds : z.cmds = s.cmds

theorem State.SlotSame.liveJob (h : s.SlotSame t n z) : z.liveJob t n = s.liveJob t n := by
  have hst : z.getF (tileBase t + 4 * n) SEP_JOB.STATE = s.getF (tileBase t + 4 * n) SEP_JOB.STATE := congrArg SEP_JOB.STATE.get h.rd
  unfold State.liveJob State.cmd?
  rw [hst, h.job, h.cmds]

theorem State.job_setJob_ne {k : Nat} (h : k ≠ n) (x : Option Job) : (s.setJob t k x).job t n = s.job t n :=
  tabGet_tabSet_ne _ _ _ (by omega)

namespace State.SlotSame

theorem refl (t n : Nat) (s : State) : s.SlotSame t n s := ⟨rfl, rfl, rfl⟩

theorem trans {y : State} (h : s.SlotSame t n y) (g : y.SlotSame t n z) : s.SlotSame t n z :=
  ⟨g.rd.trans h.rd, g.job.trans h.job, g.cmds.trans h.cmds⟩

theorem setF_other {b : Nat} {f : Fld} (h : s.SlotSame t n z) (hb : b + f.off ≠ jobReg t n) (v : Nat) : s.SlotSame t n (z.setF b f v) :=
  ⟨(State.rd_setF_ne _ hb v).trans h.rd, h.job, h.cmds⟩

theorem setJob_other {k : Nat} (h : s.SlotSame t n z) (hk : k ≠ n) (x : Option Job) : s.SlotSame t n (z.setJob t k x) :=
  ⟨h.rd, (State.job_setJob_ne hk x).trans h.job, h.cmds⟩

theorem withTrigs (h : s.SlotSame t n z) (l : List (Nat × Trig)) : s.SlotSame t n (z.withTrigs l) := ⟨h.rd, h.job, h.cmds⟩

theorem setF_both {b : Nat} {f : Fld} (h : s.SlotSame t n z) (hb : b + f.off = jobReg t n) (v : Nat) :
    (s.setF b f v).SlotSame t n (z.setF b f v) := by
  refine ⟨?_, h.job, h.cmds⟩
  rw [State.rd_setF, State.rd_setF, if_pos hb, if_pos hb, hb, h.rd]

theorem setJob_both (h : s.SlotSame t n z) (x : Option Job) : (s.setJob t n x).SlotSame t n (z.setJob t n x) :=
  ⟨h.rd, (State.job_setJob_self ..).trans (State.job_setJob_self ..).symm, h.cmds⟩

theorem trigs_both (h : s.SlotSame t n z) (l l' : List (Nat × Trig)) : (s.withTrigs l).SlotSame t n (z.withTrigs l') :=
  ⟨h.rd, h.job, h.cmds⟩

end State.SlotSame

/-- The other slots stand. -/
theorem State.slotTakes_other {k : Nat} (hk : k ≠ n) (m : Sample) : s.SlotSame t n (s.slotTakes t m k) := by
  cases hl : s.liveJob t k with
  | none =>
    rw [State.slotTakes_none hl]
    exact .refl ..
  | some e =>
    obtain ⟨j, c⟩ := e
    cases ht : c.jobTakes m with
    | false =>
      rw [State.slotTakes_ignores hl ht]
      exact .refl ..
    | true =>
      obtain ⟨l, hx⟩ := State.slotTakes_some hl ht
      rw [hx]
      have g := ((State.SlotSame.refl t n s).setJob_other hk (some (j.process c m).1)).withTrigs l
      exact ite_keeps (fun _ => g.setF_other (jobReg_ne hk) 2) fun _ => g

/-- What a slot does rests on that slot alone. -/
theorem State.SlotSame.slotTakes (h : s.SlotSame t n z) (m : Sample) : (s.slotTakes t m n).SlotSame t n (z.slotTakes t m n) := by
  cases hl : s.liveJob t n with
  | none =>
    rw [State.slotTakes_none hl, State.slotTakes_none (h.liveJob.trans hl)]
    exact h
  | some e =>
    obtain ⟨j, c⟩ := e
    cases ht : c.jobTakes m with
    | false =>
      rw [State.slotTakes_ignores hl ht, State.slotTakes_ignores (h.liveJob.trans hl) ht]
      exact h
    | true =>
      obtain ⟨l, hx⟩ := State.slotTakes_some hl ht
      obtain ⟨l', hx'⟩ := State.slotTakes_some (h.liveJob.trans hl) ht
      have g := (h.setJob_both (some (j.process c m).1)).trigs_both l l'
      rw [hx, hx']
      split
      · exact g.setF_both rfl 2
      · exact g

/-- Once every slot of l has taken the sample, a slot not in l stands, and one in l is as if it alone had. -/
theorem State.slotsTake {l : List Nat} (hd : l.Nodup) (h : s.SlotSame t n z) (m : Sample) :
    (if n ∈ l then s.slotTakes t m n else s).SlotSame t n (l.foldl (fun x k => x.slotTakes t m k) z) := by
  induction l generalizing s z with
  | nil => exact h
  | cons k l ih =>
    obtain ⟨hk, hl⟩ := List.nodup_cons.1 hd
    by_cases hn : n = k
    · subst hn
      have g := ih hl (h.slotTakes m)
      rw [if_neg hk] at g
      rw [if_pos List.mem_cons_self]
      exact g
    · have hmem : (n ∈ k :: l) = (n ∈ l) := propext (by simp [hn])
      rw [if_congr (iff_of_eq hmem) rfl rfl]
      exact ih hl (h.trans (State.slotTakes_other (Ne.symm hn) m))

/-- What a sample may change in tile t. -/
def sampleTouch (t : Nat) : Touch where
  regs a := ∃ n < 16, a = tileBase t + 4 * n + SEP_JOB.STATE.off
  parts x := { x with tiles := [], jobs := [], trigs := [] }

theorem Exact.slotTakes (h : Exact (sampleTouch t) s z) (hn : n < 16) (m : Sample) : Exact (sampleTouch t) s (z.slotTakes t m n) := by
  cases hl : z.liveJob t n with
  | none =>
    rw [State.slotTakes_none hl]
    exact h
  | some e =>
    obtain ⟨j, c⟩ := e
    cases ht : c.jobTakes m with
    | false =>
      rw [State.slotTakes_ignores hl ht]
      exact h
    | true =>
      obtain ⟨l, hx⟩ := State.slotTakes_some hl ht
      have g : Exact (sampleTouch t) s ((z.setJob t n (some (j.process c m).1)).withTrigs l) := h.congr rfl rfl rfl rfl rfl rfl rfl rfl rfl
      rw [hx]
      exact .ite (fun _ => g.setF 2 ⟨n, hn, rfl⟩) fun _ => g

theorem Exact.sepiaProcess {ms : List Sample} (h : (s.tile t).sepia = m :: ms) : Exact (sampleTouch t) s (s.sepiaProcess t) := by
  rw [State.sepiaProcess_cons h]
  exact .foldl _ ((Exact.refl _ s).modTile t _ fun _ _ => rfl) fun _ n hn g => g.slotTakes (List.mem_range.1 hn) m

/-- A sample processed leaves each slot as that slot's own part of the work does. -/
theorem State.sepiaProcess_slot {ms : List Sample} (h : (s.tile t).sepia = m :: ms) (hn : n < 16) :
    (s.slotTakes t m n).SlotSame t n (s.sepiaProcess t) := by
  have hs : s.SlotSame t n (s.modTile t fun x => { x with sepia := ms }) := ⟨rfl, rfl, rfl⟩
  have g := State.slotsTake (l := List.range 16) List.nodup_range hs m
  rw [if_pos (List.mem_range.2 hn)] at g
  rw [State.sepiaProcess_cons h]
  exact g

theorem State.sepiaProcess_tile {ms : List Sample} (h : (s.tile t).sepia = m :: ms) : ((s.sepiaProcess t).tile t).sepia = ms := by
  rw [State.sepiaProcess_cons h]
  exact foldl_keeps (R := fun x => (x.tile t).sepia = ms) _ (congrArg Tile.sepia (State.tile_modTile_self ..)) fun x k hx =>
    (congrArg Tile.sepia (State.slotTakes_eq (fun y => y.tile t) (fun _ _ _ _ => rfl) x)).trans hx

theorem sepiaSample_none {t : Fin 8} (h : (s.tile t).sepia = []) : Completes (.sepiaSample t) s (Frame {} s) := by
  refine completes_done (z := s) ?_ (Exact.refl _ s).settled
  show done (s.sepiaProcess t) = _
  unfold State.sepiaProcess
  rw [h]

/-- What the slot's own part of the work leaves in the slot. -/
theorem State.slotTakes_shows (h : s.liveJob t n = some (j, c)) (ht : c.jobTakes m = true) :
    (s.slotTakes t m n).job t n = some (j.process c m).1 ∧
      (s.slotTakes t m n).getF (tileBase t + 4 * n) SEP_JOB.STATE = if (j.process c m).1.sets.all fun a => decide (c.jN ≤ a.count) then 2 else 1 := by
  obtain ⟨hst, -, -⟩ := State.liveJob_eq_some h
  obtain ⟨l, hx⟩ := State.slotTakes_some h ht
  rw [hx]
  split
  · rw [State.job_setF, State.job_withTrigs, State.job_setJob_self]
    exact ⟨rfl, State.getF_setF_self _ _ SEP_JOB.STATE 2 (by decide)⟩
  · rw [State.job_withTrigs, State.job_setJob_self]
    exact ⟨rfl, hst⟩

theorem State.SlotSame.settled (h : s.SlotSame t n z) (ht : t < 8) (hn : n < 16) : z.settled.job t n = s.job t n ∧
    z.settled.getF (tileBase t + 4 * n) SEP_JOB.STATE = s.getF (tileBase t + 4 * n) SEP_JOB.STATE := by
  refine ⟨(z.settled_job t n).trans h.job, (State.settled_getF _ (jobReg_follows ht hn)).trans (congrArg SEP_JOB.STATE.get h.rd)⟩

theorem sepiaSample_takes {t : Fin 8} {ms : List Sample} (h : (s.tile t).sepia = m :: ms) : Completes (.sepiaSample t) s fun z => (z.tile t).sepia = ms ∧
    (∀ n < 16, (∀ j c, s.liveJob t n = some (j, c) → c.jobTakes m = true → z.job t n = some (j.process c m).1 ∧
        z.getF (tileBase t + 4 * n) SEP_JOB.STATE = (if (j.process c m).1.sets.all fun a => decide (c.jN ≤ a.count) then 2 else 1)) ∧
      (s.liveJob t n = none → z.job t n = s.job t n ∧ z.getF (tileBase t + 4 * n) SEP_JOB.STATE = s.getF (tileBase t + 4 * n) SEP_JOB.STATE)) ∧
    Frame (sampleTouch t) s z := by
  refine completes_done (z := s.sepiaProcess t) rfl ⟨?_, fun n hn => ?_, (Exact.sepiaProcess h).settled⟩
  · rw [State.settled_tile]
    exact State.sepiaProcess_tile h
  · have hslot := (State.sepiaProcess_slot h hn).settled t.isLt hn
    refine ⟨fun j c hl ht => ?_, fun hl => ?_⟩
    · rw [hslot.1, hslot.2]
      exact State.slotTakes_shows hl ht
    · rwa [State.slotTakes_none hl] at hslot

/-! ### The end of a job (R151) -/

/-- What the end of the job in slot n of tile t may change. -/
def jobTouch (t n : Nat) (host : Nat → Prop) : Touch where
  regs a := a = tileBase t + 4 * n + SEP_JOB.STATE.off ∨ a = tileBase t + SEP_BUSY.JOBS.off
  host := host
  parts x := { x with jobs := [] }

theorem Exact.jobFree {host : Nat → Prop} (h : Exact (jobTouch t n host) s z) : Exact (jobTouch t n host) s (z.jobFree t n) :=
  ((h.setJob t n none fun _ _ => rfl).wr 0 (.inl rfl)).setF (b := tileBase t) (f := SEP_BUSY.JOBS) _ (.inr rfl)

theorem State.jobFree_cmds (s : State) (t n : Nat) : (s.jobFree t n).cmds = s.cmds := by
  unfold State.jobFree
  rw [State.setF_cmds, State.wr_cmds, State.setJob_cmds]

theorem State.jobFree_host (s : State) (t n : Nat) : (s.jobFree t n).host = s.host := by
  unfold State.jobFree
  rw [State.setF_host, State.wr_host, State.setJob_host]

/-- Slot n is free. -/
theorem State.jobFree_shows (s : State) (t : Nat) (hn : n < 16) : (s.jobFree t n).job t n = none ∧
    (s.jobFree t n).rd (jobReg t n) = 0 ∧ ((s.jobFree t n).getF (tileBase t) SEP_BUSY.JOBS).testBit n = false := by
  unfold State.jobFree
  refine ⟨?_, ?_, ?_⟩
  · rw [State.job_setF, State.job_wr, State.job_setJob_self]
  · exact (State.rd_setF_ne _ (by show tileBase t + 0x1000 ≠ tileBase t + 4 * n + 0x1040; omega) _).trans (State.rd_wr_self ..)
  · refine (congrArg (Nat.testBit · n) (State.getF_setF_self _ (tileBase t) SEP_BUSY.JOBS _ (by decide))).trans ?_
    show Nat.testBit (_ % 2 ^ 16) n = false
    rw [Nat.testBit_mod_two_pow, testBit_setBit_self, Bool.and_false]

theorem State.jobEnd_eq (hj : s.job t n = some j) (hc : s.cmd? j.run = some c) (e : Ending) :
    s.jobEnd t n e = ((s.output c (j.blocks c t)).1.endCmd j.run
      { e with partialDone := e.partialDone || (s.output c (j.blocks c t)).2, result := j.sets.length }).jobFree t n := by
  unfold State.jobEnd
  rw [hj]
  dsimp only
  rw [hc]

/-- A job that ends completes its command with its blocks. -/
theorem jobEnd_completes {t : Fin 8} {n : Fin 16} {i : Instr} {part : Bool} {bs : List Byte} (hj : s.job t n = some j) (hc : s.cmd? j.run = some c)
    (hx : exec i s = done (s.jobEnd t n { status := scOK, partialDone := part })) (hbs : bs = j.sets.flatMap fun a => a.block t c.jN) :
    Completes i s fun z =>
      Answered j.run { status := scOK, partialDone := part || decide (c.raddr ≠ 0 ∧ c.rlen < bs.length), result := j.sets.length }
        (jobTouch t n fun a => c.raddr ≠ 0 ∧ c.raddr ≤ a ∧ a < c.raddr + min bs.length c.rlen) s z ∧
      (c.raddr ≠ 0 → memRead hostReset z.host c.raddr (min bs.length c.rlen) = bs.take c.rlen) ∧
      z.job t n = none ∧ z.rd (tileBase t + 4 * n + SEP_JOB.STATE.off) = 0 ∧ (z.getF (tileBase t) SEP_BUSY.JOBS).testBit n = false := by
  have hblocks : j.blocks c t = bs := hbs.symm
  rw [State.jobEnd_eq hj hc, hblocks, s.output_cut] at hx
  have hexact : Exact (jobTouch t n fun a => c.raddr ≠ 0 ∧ c.raddr ≤ a ∧ a < c.raddr + min bs.length c.rlen) s (s.output c bs).1 :=
    (Exact.refl _ s).output fun a ha => ha
  obtain ⟨hjob, hreg, hbusy⟩ := State.jobFree_shows ((s.output c bs).1.endCmd j.run
    { status := scOK, partialDone := part || decide (c.raddr ≠ 0 ∧ c.rlen < bs.length), result := j.sets.length }) t n.isLt
  refine completes_done hx ⟨?_, fun hr => ?_, (State.settled_job ..).trans hjob, (State.settled_rd _ (jobReg_follows t.isLt n.isLt)).trans hreg, ?_⟩
  · exact ((hexact.mapCmds _ _).jobFree).answered hc ((State.jobFree_cmds ..).trans (State.endCmd_cmds (State.output_eq State.cmds (fun _ _ _ => rfl) s c bs) ..))
  · rw [State.settled_host, State.jobFree_host]
    exact s.memRead_output bs hr
  · rw [State.settled_getF _ (tileBase_follows t.isLt (by decide))]
    exact hbusy

theorem exec_sepiaJobComplete {t : Fin 8} {n : Fin 16} (h : s.getF (tileBase t + 4 * n) SEP_JOB.STATE = 2) :
    exec (.sepiaJobComplete t n) s = done (s.jobEnd t n { status := scOK }) := if_pos h

theorem exec_sepiaJobTimeout {t : Fin 8} {n : Fin 16} (h : s.liveJob t n = some (j, c)) (hc : c.p 0xC ≠ 0) :
    exec (.sepiaJobTimeout t n) s = done (s.jobEnd t n { status := scOK, partialDone := true }) := by
  show execSepiaJobTimeout t n s = _
  unfold execSepiaJobTimeout
  rw [h]
  exact if_neg hc

theorem sepiaJobTimeout_unlimited {t : Fin 8} {n : Fin 16} (h : s.liveJob t n = some (j, c)) (hc : c.p 0xC = 0) :
    Completes (.sepiaJobTimeout t n) s (Frame {} s) := by
  refine completes_done (z := s) ?_ (Exact.refl _ s).settled
  show execSepiaJobTimeout t n s = _
  unfold execSepiaJobTimeout
  rw [h]
  exact if_pos hc

/-! ### STATS_READ (R151) -/

theorem Cmd.pf_lt (c : Cmd) (o hi lo : Nat) : c.pf o hi lo < 2 ^ (hi + 1 - lo) := Nat.mod_lt _ (Nat.two_pow_pos _)

/-- The fields of slot n's register for c's job. -/
def Cmd.jobFields (c : Cmd) : List (Fld × Nat) :=
  [(SEP_JOB.STATE, 1), (SEP_JOB.KIND, c.jKind), (SEP_JOB.MODE, c.jMode), (SEP_JOB.PERU, b2n c.jPeru), (SEP_JOB.RING, c.sq), (SEP_JOB.TAG, c.tag)]

theorem State.jobFields_show (s : State) (b : Nat) (c : Cmd) :
    (s.setFs b c.jobFields).getF b SEP_JOB.STATE = 1 ∧ (s.setFs b c.jobFields).getF b SEP_JOB.KIND = c.jKind ∧
    (s.setFs b c.jobFields).getF b SEP_JOB.MODE = c.jMode ∧ (s.setFs b c.jobFields).isSet b SEP_JOB.PERU = c.jPeru := by
  refine ⟨?_, ?_, ?_, ?_⟩
  · exact s.getF_setFs_mid b (pre := []) (by decide) (by simp only [List.map_cons, List.map_nil]; decide)
  · exact (s.getF_setFs_mid b (pre := [(SEP_JOB.STATE, 1)]) (by decide) (by simp only [List.map_cons, List.map_nil]; decide)).trans (Nat.mod_eq_of_lt (c.pf_lt 0 4 4))
  · exact (s.getF_setFs_mid b (pre := [(SEP_JOB.STATE, 1), (SEP_JOB.KIND, c.jKind)]) (by decide) (by simp only [List.map_cons, List.map_nil]; decide)).trans
      (Nat.mod_eq_of_lt (c.pf_lt 0 6 5))
  · refine (State.isSet_of_getF (s.getF_setFs_mid b (pre := [(SEP_JOB.STATE, 1), (SEP_JOB.KIND, c.jKind), (SEP_JOB.MODE, c.jMode)]) (by decide)
      (by simp only [List.map_cons, List.map_nil]; decide))).trans ?_
    cases c.jPeru <;> rfl

/-- The accumulator sets of c's job, empty. -/
def Cmd.jobSets (c : Cmd) : List AccSet :=
  if c.jPeru then (List.range (c.jLast + 1 - c.jFirst)).map fun i => ({ unit := c.jFirst + i } : AccSet) else [{ unit := 0x7FF }]

theorem Cmd.jobSets_empty (c : Cmd) : ∀ a ∈ c.jobSets, a.count = 0 ∧ a.x0 = 0 ∧ a.disc = 0 := by
  intro a ha
  unfold Cmd.jobSets at ha
  split at ha
  · obtain ⟨i, -, rfl⟩ := List.mem_map.1 ha
    exact ⟨rfl, rfl, rfl⟩
  · obtain rfl := List.mem_singleton.1 ha
    exact ⟨rfl, rfl, rfl⟩

theorem Cmd.jobSets_units (c : Cmd) :
    c.jobSets.map AccSet.unit = if c.jPeru then (List.range (c.jLast + 1 - c.jFirst)).map (c.jFirst + ·) else [0x7FF] := by
  unfold Cmd.jobSets
  split
  · rw [List.map_map]
    rfl
  · rfl

/-- The job with its register. -/
def State.jobPut (s : State) (t n : Nat) (c : Cmd) : State :=
  (s.setJob t n (some { run := ⟨c.sq, c.tag⟩, sets := c.jobSets })).setFs (tileBase t + 4 * n) c.jobFields

theorem State.jobStart_eq (s : State) (t n : Nat) (c : Cmd) : s.jobStart t n c =
    (s.jobPut t n c).setF (tileBase t) SEP_BUSY.JOBS (setBit ((s.jobPut t n c).getF (tileBase t) SEP_BUSY.JOBS) n true) := rfl

theorem State.jobStart_job (s : State) (t n : Nat) (c : Cmd) : (s.jobStart t n c).job t n = some { run := ⟨c.sq, c.tag⟩, sets := c.jobSets } := by
  rw [State.jobStart_eq, State.job_setF]
  exact (State.setFs_eq (fun x => x.job t n) (fun _ _ => rfl) _ _ _).trans (State.job_setJob_self ..)

theorem State.jobStart_cmds (s : State) (t n : Nat) (c : Cmd) : (s.jobStart t n c).cmds = s.cmds := by
  rw [State.jobStart_eq, State.setF_cmds]
  exact State.setFs_eq State.cmds (fun _ _ => rfl) _ _ _

theorem State.jobStart_getF (s : State) (t n : Nat) (c : Cmd) {f : Fld} (hf : f.off = 0x1040) :
    (s.jobStart t n c).getF (tileBase t + 4 * n) f = (s.jobPut t n c).getF (tileBase t + 4 * n) f := by
  rw [State.jobStart_eq]
  exact State.getF_setF_ne _ (by rw [hf]; show tileBase t + 0x1000 ≠ tileBase t + 4 * n + 0x1040; omega) _

theorem State.jobStart_busy (s : State) (t : Nat) (c : Cmd) (hn : n < 16) : ((s.jobStart t n c).getF (tileBase t) SEP_BUSY.JOBS).testBit n = true := by
  rw [State.jobStart_eq]
  refine (congrArg (Nat.testBit · n) (State.getF_setF_self _ (tileBase t) SEP_BUSY.JOBS _ (by decide))).trans ?_
  show Nat.testBit (_ % 2 ^ 16) n = true
  rw [Nat.testBit_mod_two_pow, testBit_setBit_self, decide_eq_true hn]
  rfl

theorem Exact.jobStart {host : Nat → Prop} (s : State) (t n : Nat) (c : Cmd) : Exact (jobTouch t n host) s (s.jobStart t n c) := by
  have h : Exact (jobTouch t n host) s (s.jobPut t n c) := ((Exact.refl _ s).setJob t n _ fun _ _ => rfl).setFs fun e he => by
    have ho : e.1.off = SEP_JOB.STATE.off := by
      fin_cases he <;> rfl
    rw [ho]
    exact .inl rfl
  rw [State.jobStart_eq]
  exact h.setF _ (.inr rfl)

/-- The lowest free slot. -/
theorem State.freeJob_eq (hn : n < 16) (hf : s.getF (tileBase t + 4 * n) SEP_JOB.STATE = 0)
    (hl : ∀ k < n, s.getF (tileBase t + 4 * k) SEP_JOB.STATE ≠ 0) : s.freeJob t = some n := by
  unfold State.freeJob
  rw [List.find?_range_eq_some]
  exact ⟨decide_eq_true hf, List.mem_range.2 hn, fun k hk => by rw [decide_eq_false (hl k hk)]; rfl⟩

theorem statsReadStart_starts {cmd : CmdRef} {t : Fin 8} (h : s.ready? cmd opSTATS = some c) (ht : c.pf 0 3 1 = t) (hn : n < 16)
    (hf : s.getF (tileBase t + 4 * n) SEP_JOB.STATE = 0) (hl : ∀ k < n, s.getF (tileBase t + 4 * k) SEP_JOB.STATE ≠ 0) :
    Completes (.statsReadStart cmd) s fun z =>
      Begun cmd (jobTouch t n fun _ => False) s z ∧
      (∃ j, z.job t n = some j ∧ j.run = ⟨c.sq, c.tag⟩ ∧ j.prevs = [] ∧ j.refs = [] ∧ (∀ a ∈ j.sets, a.count = 0 ∧ a.x0 = 0 ∧ a.disc = 0) ∧
        j.sets.map AccSet.unit = if c.jPeru then (List.range (c.jLast + 1 - c.jFirst)).map (c.jFirst + ·) else [0x7FF]) ∧
      z.getF (tileBase t + 4 * n) SEP_JOB.STATE = 1 ∧ z.getF (tileBase t + 4 * n) SEP_JOB.KIND = c.jKind ∧
      z.getF (tileBase t + 4 * n) SEP_JOB.MODE = c.jMode ∧ z.isSet (tileBase t + 4 * n) SEP_JOB.PERU = c.jPeru ∧
      (z.getF (tileBase t) SEP_BUSY.JOBS).testBit n = true := by
  obtain ⟨hcmd, hop⟩ := State.cmd_of_ready h
  have hx : exec (.statsReadStart cmd) s = done ((s.jobStart t n c).modCmd cmd fun k => { k with started := true, prog := n }) := by
    show execStatsReadStart cmd s = _
    unfold execStatsReadStart
    rw [h]
    dsimp only
    rw [ht, State.freeJob_eq hn hf hl]
  obtain ⟨hstate, hkind, hmode, hperu⟩ := State.jobFields_show (s.setJob t n (some { run := ⟨c.sq, c.tag⟩, sets := c.jobSets })) (tileBase t + 4 * n) c
  have hfield : ∀ f : Fld, f.off = 0x1040 →
      ((s.jobStart t n c).modCmd cmd fun k => { k with started := true, prog := n }).settled.getF (tileBase t + 4 * n) f =
        (s.jobPut t n c).getF (tileBase t + 4 * n) f := fun f hf => by
    rw [State.settled_getF _ (by rw [hf]; exact jobReg_follows t.isLt hn), State.modCmd, State.getF_mapCmds]
    exact s.jobStart_getF t n c hf
  have hjob : ((s.jobStart t n c).modCmd cmd fun k => { k with started := true, prog := n }).settled.job t n =
      some { run := ⟨c.sq, c.tag⟩, sets := c.jobSets } := by
    rw [State.settled_job, State.modCmd, State.job_mapCmds, State.jobStart_job]
  refine completes_done hx ⟨?_, ⟨_, hjob, rfl, rfl, rfl, c.jobSets_empty, c.jobSets_units⟩,
    (hfield _ rfl).trans hstate, (hfield _ rfl).trans hkind, (hfield _ rfl).trans hmode, (State.isSet_of_getF (hfield _ rfl)).trans hperu, ?_⟩
  · have hcmds := State.modCmd_cmds (s.jobStart_cmds t n c) cmd fun k => { k with started := true, prog := n }
    have hexact : Exact (jobTouch t n fun _ => False) s ((s.jobStart t n c).modCmd cmd fun k => { k with started := true, prog := n }) :=
      (Exact.jobStart s t n c).mapCmds _ _
    exact hexact.begun hcmd (by show c.op ≠ _; rw [hop]; decide) (State.mem_of_cmd hcmd).2.1 rfl hcmds
  · rw [State.settled_getF _ (tileBase_follows t.isLt (by decide)), State.modCmd, State.getF_mapCmds]
    exact s.jobStart_busy t c hn

/-- No running job of its tile is the one that a PEEK names. -/
theorem State.peeked_none {t : Fin 8} (ht : c.pf 0 3 1 = t)
    (h : ∀ n < 16, ∀ j k, s.liveJob t n = some (j, k) → j.run ≠ ⟨c.pf 4 17 12, c.pf 4 11 0⟩) : s.peeked c = none := by
  unfold State.peeked
  rw [List.findSome?_eq_none_iff]
  intro n hn
  rw [ht]
  split
  · exact if_neg (h n (List.mem_range.1 hn) _ _ ‹_›)
  · rfl

/-- The first that is. -/
theorem State.peeked_some {t : Fin 8} {k : Cmd} (ht : c.pf 0 3 1 = t) (hn : n < 16) (hl : s.liveJob t n = some (j, k))
    (hj : j.run = ⟨c.pf 4 17 12, c.pf 4 11 0⟩) (h : ∀ i < n, ∀ j k, s.liveJob t i = some (j, k) → j.run ≠ ⟨c.pf 4 17 12, c.pf 4 11 0⟩) :
    s.peeked c = some (j, k) := by
  refine findSome_range hn ?_ fun i hi => ?_
  · rw [ht, hl]
    exact if_pos hj
  · rw [ht]
    split
    · exact if_neg (h i hi _ _ ‹_›)
    · rfl

theorem statsReadPeek_none {cmd : CmdRef} (h : s.ready? cmd opSTATS = some c) (hp : s.peeked c = none) :
    Completes (.statsReadPeek cmd) s (Answered cmd { status := scSTATE, detail := 0x0F } {} s) := by
  refine completes_done (z := s.endCmd cmd { status := scSTATE, detail := 0x0F }) ?_ (((Exact.refl _ s).mapCmds _ _).answered (State.cmd_of_ready h).1 rfl)
  show execStatsReadPeek cmd s = _
  unfold execStatsReadPeek
  rw [h]
  dsimp only
  rw [hp]

theorem statsReadPeek_some {cmd : CmdRef} {t : Fin 8} {k : Cmd} {bs : List Byte} (h : s.ready? cmd opSTATS = some c) (ht : c.pf 0 3 1 = t)
    (hp : s.peeked c = some (j, k)) (hbs : bs = j.sets.flatMap fun a => a.block t k.jN) : Completes (.statsReadPeek cmd) s fun z =>
      Answered cmd { status := scOK, partialDone := true, result := j.sets.length }
        { host := fun a => c.raddr ≠ 0 ∧ c.raddr ≤ a ∧ a < c.raddr + min bs.length c.rlen } s z ∧
      (c.raddr ≠ 0 → memRead hostReset z.host c.raddr (min bs.length c.rlen) = bs.take c.rlen) ∧ z.jobs = s.jobs := by
  have hblocks : j.blocks k t = bs := hbs.symm
  have hx : exec (.statsReadPeek cmd) s = done ((s.output c bs).1.endCmd cmd { status := scOK, partialDone := true, result := j.sets.length }) := by
    show execStatsReadPeek cmd s = _
    unfold execStatsReadPeek
    rw [h]
    dsimp only
    rw [hp]
    dsimp only
    rw [ht, hblocks]
  obtain ⟨hans, hout⟩ := (Exact.refl { host := fun a => c.raddr ≠ 0 ∧ c.raddr ≤ a ∧ a < c.raddr + min bs.length c.rlen } s).answered_output
    (e := { status := scOK, partialDone := true, result := j.sets.length }) (State.cmd_of_ready h).1 rfl fun a ha => ha
  refine completes_done hx ⟨hans, hout, ?_⟩
  rw [State.settled_jobs]
  exact State.output_eq State.jobs (fun _ _ _ => rfl) s c bs

/-! ### The rows -/

/-- Settles O37: a sample goes to each slot by itself; a job's end and a peek put its blocks out; a start takes the lowest free slot. -/
theorem sepiaRows : Obligations.SepiaRows := by
  rintro t s _ rfl
  refine ⟨sepiaSample_none, fun m ms => sepiaSample_takes, ?_, ?_, fun n j c hl hc => sepiaJobTimeout_unlimited hl hc, ?_, ?_, ?_⟩
  · rintro n j c i part bs hj hc (⟨rfl, rfl, hst⟩ | ⟨rfl, rfl, hst, hlim⟩) hbs
    · exact jobEnd_completes hj hc (exec_sepiaJobComplete hst) hbs
    · exact jobEnd_completes hj hc (exec_sepiaJobTimeout (State.liveJob_of hst hj hc) hlim) hbs
  · exact fun n hn => completes_done (z := s) (if_neg hn) (Exact.refl _ s).settled
  · exact fun cmd c n h ht hn hf hl => statsReadStart_starts h ht hn hf hl
  · exact fun cmd c h ht hj => statsReadPeek_none h (State.peeked_none ht hj)
  · intro cmd c k n j bs h ht hn hl hj hi hbs
    obtain ⟨z, hz, hans, hout, hjobs⟩ := statsReadPeek_some h ht (State.peeked_some ht hn hl hj hi) hbs
    refine ⟨z, hz, hans, hout, ?_⟩
    unfold State.job
    rw [hjobs]
    exact (State.liveJob_eq_some hl).2.1

end Sys2Proof.Machine
end

section
/-! PROOFS. Stamps reach a TDC and leave it for the stamp buffer (R143 to R147). -/

namespace Sys2Proof.Machine

open Sys2Proof (Instr)

variable {w : Touch} {s z : State}

theorem State.settled_tdc (s : State) (u : Nat) : s.settled.tdc u = s.tdc u := by
  unfold State.tdc
  rw [State.settled_tdcs]

/-- The timing registers of a front-end do not follow a command. -/
theorem feB_tim_follows (u : Nat) {o : Nat} (ho : 0x180 ≤ o ∧ o < 0x200) : follows (feB u + o) = false := by
  unfold follows feB chB shB tileBase
  rw [decide_eq_false_iff_not]
  split <;> omega

theorem State.settled_timF (s : State) (u : Nat) {f : Fld} (ho : 0x180 ≤ f.off ∧ f.off < 0x200) : s.settled.getF (feB u) f = s.getF (feB u) f :=
  s.settled_getF (feB_tim_follows u ho)

/-- A meaning that does nothing completes where everything else may have settled. -/
theorem completes_none {i : Instr} (h : exec i s = done s) : Completes i s (Frame {} s) := completes_done h (Exact.refl _ s).settled

/-! ### TDC_STAMP (R143 to R145) -/

section
variable {u e q : Nat} {dead : Bool}

/-- The stamp that unit u's TDC takes. -/
def State.newStamp (s : State) (u e q : Nat) : Stamp :=
  ⟨s.stampValue u e q, s.gen, (s.tdc u).lostPend, !s.isSet (feB (if u < 1024 then s.phys u else u)) CHN_TIM_STATUS.TLOCK, e, s.getF (feB u) CHN_TDC_CFG.DEST⟩

theorem State.stampEdge_refused (h : s.stampTakes u e q = false) : s.stampEdge u e q dead = s :=
  if_pos (by rw [h]; exact Bool.false_ne_true)

theorem State.stampEdge_shown (h : s.stampTakes u e q = true) (hd : s.getF (feB u) CHN_TDC_CFG.DEST = 3) :
    s.stampEdge u e q false = s.setPair (feB u + CHN_TDC_LAST_LO.STAMP.off) (s.stampValue u e q) := by
  unfold State.stampEdge
  rw [if_neg (not_not.2 h), if_neg Bool.false_ne_true, if_pos hd]

theorem State.stampEdge_taken (h : s.stampTakes u e q = true) (hd : s.getF (feB u) CHN_TDC_CFG.DEST ≠ 3) (hl : (s.tdc u).fifo.length < 16) :
    s.stampEdge u e q false = ((s.modTdc u fun d => { d with fifo := d.fifo ++ [s.newStamp u e q], lostPend := 0 }).setF (feB u) CHN_TIM_STATUS.FIFO
      ((s.tdc u).fifo.length + 1)).setPair (feB u + CHN_TDC_LAST_LO.STAMP.off) (s.stampValue u e q) := by
  unfold State.stampEdge
  rw [if_neg (not_not.2 h), if_neg Bool.false_ne_true, if_neg hd, if_neg (Nat.not_le.2 hl)]
  rfl

theorem State.stampEdge_lost (h : s.stampTakes u e q = true) (hd : dead = true ∨ s.getF (feB u) CHN_TDC_CFG.DEST ≠ 3 ∧ 16 ≤ (s.tdc u).fifo.length) :
    s.stampEdge u e q dead = s.stampLost u := by
  unfold State.stampEdge
  rw [if_neg (not_not.2 h)]
  by_cases hdead : dead = true
  · rw [if_pos hdead]
  · obtain ⟨hdest, hfull⟩ := hd.resolve_left hdead
    rw [if_neg hdead, if_neg hdest, if_pos hfull]

/-- The marks of a lost edge. -/
def State.lostMarks (s : State) (u : Nat) : State :=
  ((s.incSat (feB u) CHN_TDC_LOST.COUNT 1).setF (feB u) CHN_TIM_STATUS.LOST 1).modTdc u fun d => { d with lostPend := satAdd 8 d.lostPend 1 }

/-- s with other jobs. -/
def State.withJobs (s : State) (l : List (Nat × Option Job)) : State := { s with jobs := l }

theorem State.tdc_withJobs (s : State) (l : List (Nat × Option Job)) (u : Nat) : (s.withJobs l).tdc u = s.tdc u := rfl
theorem State.getF_withJobs (s : State) (l : List (Nat × Option Job)) (b : Nat) (f : Fld) : (s.withJobs l).getF b f = s.getF b f := rfl
theorem State.isSet_withJobs (s : State) (l : List (Nat × Option Job)) (b : Nat) (f : Fld) : (s.withJobs l).isSet b f = s.isSet b f := rfl

theorem State.withJobs_self (s : State) : s.withJobs s.jobs = s := rfl
theorem State.setJob_withJobs (s : State) (l : List (Nat × Option Job)) (t n : Nat) (j : Option Job) :
    (s.withJobs l).setJob t n j = s.withJobs (tabSet (fun _ => none) l (16 * t + n) j) := rfl

theorem Exact.withJobs (h : Exact w s z) (l : List (Nat × Option Job)) (hp : ∀ x l, w.parts { x with jobs := l } = w.parts x) :
    Exact w s (z.withJobs l) := h.congr (hp z.parts l) rfl rfl rfl rfl rfl rfl rfl rfl

/-- Beyond the marks, a lost edge is noted by jobs alone. -/
theorem State.stampLost_eq (s : State) (u : Nat) : ∃ l, s.stampLost u = (s.lostMarks u).withJobs l := by
  unfold State.stampLost
  refine foldl_keeps (R := fun x => ∃ l, x = (s.lostMarks u).withJobs l) _ ⟨_, (State.withJobs_self _).symm⟩ fun x n hx => ?_
  split
  · refine ite_keeps (R := fun x => ∃ l, x = (s.lostMarks u).withJobs l) (fun _ => ?_) fun _ => hx
    obtain ⟨l, rfl⟩ := hx
    exact ⟨_, State.setJob_withJobs ..⟩
  · exact hx

end

/-- What a lost edge may change. -/
def lostTouch (u : Nat) : Touch where
  regs a := a = feB u + CHN_TIM_STATUS.FIFO.off ∨ a = feB u + CHN_TDC_LOST.COUNT.off
  parts x := { x with tdcs := [], jobs := [] }

theorem exec_tdcStamp {u : Fin 1056} {src : Fin 3} {rising : Bool} {q : Fin 200} {dead : Bool} (h : s.clocked = true) :
    exec (.tdcStamp u src rising q dead) s = done (s.stampEdge u (edgeCode src rising) q dead) := if_pos h

section
variable {u : Fin 1056} {src : Fin 3} {rising : Bool} {q : Fin 200} {dead : Bool}

theorem tdcStamp_refused (h : s.clocked = false ∨ s.stampTakes u (edgeCode src rising) q = false) :
    Completes (.tdcStamp u src rising q dead) s (Frame {} s) := by
  refine completes_none ?_
  cases hc : s.clocked with
  | false => exact if_neg (by rw [hc]; exact Bool.false_ne_true)
  | true => rw [exec_tdcStamp hc, State.stampEdge_refused (h.resolve_left (by rw [hc]; decide))]

theorem tdcStamp_shown (hc : s.clocked = true) (h : s.stampTakes u (edgeCode src rising) q = true) (hd : s.getF (feB u) CHN_TDC_CFG.DEST = 3) :
    Completes (.tdcStamp u src rising q false) s fun t =>
      t.pair (feB u + CHN_TDC_LAST_LO.STAMP.off) = s.stampValue u (edgeCode src rising) q ∧ Frame { parts := fun x => { x with pairs := [] } } s t := by
  refine completes_done ((exec_tdcStamp hc).trans (congrArg done (State.stampEdge_shown h hd))) ⟨?_, ((Exact.refl _ s).setPair _ _ fun _ _ => rfl).settled⟩
  rw [State.settled_pair, State.pair_setPair_self]

theorem tdcStamp_taken (hc : s.clocked = true) (h : s.stampTakes u (edgeCode src rising) q = true) (hd : s.getF (feB u) CHN_TDC_CFG.DEST ≠ 3)
    (hl : (s.tdc u).fifo.length < 16) : Completes (.tdcStamp u src rising q false) s fun t =>
      t.tdc u = { s.tdc u with fifo := (s.tdc u).fifo ++ [s.newStamp u (edgeCode src rising) q], lostPend := 0 } ∧
      t.getF (feB u) CHN_TIM_STATUS.FIFO = (s.tdc u).fifo.length + 1 ∧
      t.pair (feB u + CHN_TDC_LAST_LO.STAMP.off) = s.stampValue u (edgeCode src rising) q ∧
      Frame { regs := fun a => a = feB u + CHN_TIM_STATUS.FIFO.off, parts := fun x => { x with tdcs := [], pairs := [] } } s t := by
  refine completes_done ((exec_tdcStamp hc).trans (congrArg done (State.stampEdge_taken h hd hl))) ⟨?_, ?_, ?_, ?_⟩
  · rw [State.settled_tdc, State.tdc_setPair, State.tdc_setF, State.tdc_modTdc_self]
  · rw [State.settled_timF _ u (by decide), State.getF_setPair, State.getF_setF_self _ _ _ _ (by decide)]
    exact Nat.mod_eq_of_lt (show _ < 2 ^ 5 by omega)
  · rw [State.settled_pair, State.pair_setPair_self]
  · exact ((((Exact.refl _ s).modTdc u _ fun _ _ => rfl).setF (b := feB u) (f := CHN_TIM_STATUS.FIFO) _ rfl).setPair _ _ fun _ _ => rfl).settled

theorem tdcStamp_lost (hc : s.clocked = true) (h : s.stampTakes u (edgeCode src rising) q = true)
    (hd : dead = true ∨ s.getF (feB u) CHN_TDC_CFG.DEST ≠ 3 ∧ 16 ≤ (s.tdc u).fifo.length) : Completes (.tdcStamp u src rising q dead) s fun t =>
      (t.tdc u).fifo = (s.tdc u).fifo ∧ (t.tdc u).lostPend = min ((s.tdc u).lostPend + 1) 255 ∧ t.isSet (feB u) CHN_TIM_STATUS.LOST = true ∧
      t.getF (feB u) CHN_TDC_LOST.COUNT = min (s.getF (feB u) CHN_TDC_LOST.COUNT + 1) (2 ^ 32 - 1) ∧
      Frame (lostTouch u) s t := by
  obtain ⟨l, hlost⟩ := s.stampLost_eq u
  have htdc : (s.lostMarks u).tdc u = { s.tdc u with lostPend := satAdd 8 (s.tdc u).lostPend 1 } := by
    unfold State.lostMarks State.incSat
    rw [State.tdc_modTdc_self, State.tdc_setF, State.tdc_setF]
  have hcount : (s.lostMarks u).getF (feB u) CHN_TDC_LOST.COUNT = min (s.getF (feB u) CHN_TDC_LOST.COUNT + 1) (2 ^ 32 - 1) := by
    unfold State.lostMarks
    rw [State.getF_modTdc, State.getF_setF_off _ _ (by decide)]
    exact s.getF_incSat_self _ 1 (by decide)
  have hset : (s.lostMarks u).isSet (feB u) CHN_TIM_STATUS.LOST = true := by
    unfold State.lostMarks
    rw [State.isSet_modTdc]
    exact State.isSet_setF_self _ _ CHN_TIM_STATUS.LOST 1 (by decide)
  have hx : exec (.tdcStamp u src rising q dead) s = done ((s.lostMarks u).withJobs l) := by
    rw [exec_tdcStamp hc, State.stampEdge_lost h hd, hlost]
  refine completes_done hx ⟨?_, ?_, ?_, ?_, ?_⟩
  · rw [State.settled_tdc, State.tdc_withJobs, htdc]
  · rw [State.settled_tdc, State.tdc_withJobs, htdc]
    rfl
  · rw [State.settled_isSet _ (feB_tim_follows u (by decide)), State.isSet_withJobs]
    exact hset
  · rw [State.settled_timF _ u (by decide), State.getF_withJobs]
    exact hcount
  · have hmarks : Exact (lostTouch u) s (s.lostMarks u) :=
      (((Exact.refl (lostTouch u) s).incSat (b := feB u) (f := CHN_TDC_LOST.COUNT) 1 (Or.inr rfl)).setF (b := feB u) (f := CHN_TIM_STATUS.LOST) 1 (Or.inl rfl)).modTdc u _
        fun _ _ => rfl
    exact (hmarks.withJobs l fun _ _ => rfl).settled

end

end Sys2Proof.Machine
end

section
/-! PROOFS. The stamp buffer (R147). -/

namespace Sys2Proof.Machine

open Sys2Proof (Instr)

variable {w : Touch} {s z : State}

/-! ### Numbers in the SRAM -/

theorem leNat_leBytes (n v : Nat) : leNat (leBytes n v) = v % 256 ^ n := by
  induction n generalizing v with
  | zero => exact (Nat.mod_one v).symm
  | succ n ih =>
    rw [leBytes, leNat, ih, BitVec.toNat_ofNat]
    exact (congrArg (v % ·) Nat.pow_succ').trans Nat.mod_mul |>.symm

theorem State.sramN_sramSet (s : State) (a n v : Nat) : (s.sramSet a n v).sramN a n = v % 256 ^ n := by
  unfold State.sramN
  rw [State.memRead_sramSet, leNat_leBytes]

theorem State.sramN_sramSet_apart (s : State) {a n b m : Nat} (v : Nat) (h : b + m ≤ a ∨ a + n ≤ b) :
    (s.sramSet a n v).sramN b m = s.sramN b m :=
  congrArg leNat (memRead_congr fun k hl hu => tabGet_memWrite_out _ _ _ (by rw [leBytes_length]; omega))

theorem State.settled_sramN (s : State) (a n : Nat) : s.settled.sramN a n = s.sramN a n := by
  unfold State.sramN
  rw [State.settled_sram]

/-! ### One record -/

/-- The second word of a stamp's record (R147). -/
def Stamp.tag (x : Stamp) (u : Nat) : Nat := x.gen <<< 48 + x.lostn <<< 40 + b2n x.unlk <<< 23 + x.edge <<< 20 + u

theorem Stamp.tag_eq (x : Stamp) (u : Nat) :
    x.tag u = x.gen * 2 ^ 48 + x.lostn * 2 ^ 40 + (if x.unlk then 2 ^ 23 else 0) + x.edge * 2 ^ 20 + u := by
  unfold Stamp.tag b2n
  simp only [Nat.shiftLeft_eq]
  cases x.unlk <;> rfl

theorem Stamp.tag_lt {x : Stamp} {u : Nat} (hg : x.gen < 2 ^ 16) (hl : x.lostn < 2 ^ 8) (he : x.edge < 8) (hu : u < 2 ^ 20) : x.tag u < 2 ^ 64 := by
  rw [Stamp.tag_eq]
  split <;> omega

/-- Record k of tile t's stamp buffer holds stamp x of unit u, and the buffer goes on after it. -/
def State.stbPut (s : State) (t u k : Nat) (x : Stamp) : State :=
  (((s.sramSet (s.stbStart t + 16 * k) 8 x.stamp).sramSet (s.stbStart t + 16 * k + 8) 8 (x.tag u)).incWrap (tileBase t) TIL_STB_WCNT.COUNT 1).modTile t
    fun y => { y with stb := k + 1 }

section
variable {t u k : Nat} {x : Stamp}

/-- A stamp for which there is room takes the next record; the last one of a buffer that is no ring fills it. -/
theorem State.stbWrite_room (hen : s.isSet (tileBase t) TIL_STB_CTRL.EN = true) (hk : (s.tile t).stb = k) (hn : k < s.stbSize t) :
    s.stbWrite t u x = s.stbPut t u k x ∨ s.stbWrite t u x = (s.stbPut t u k x).setF (tileBase t) TIL_STB_STATUS.FULL 1 := by
  unfold State.stbWrite
  extract_lets b n w ring tag a s1 s2 s3
  have hw : w = k := hk
  have hlt : w < n := by rw [hw]; exact hn
  rw [if_neg (fun h => h.elim (fun h => h hen) fun h => by omega), if_neg (fun h => by omega)]
  have h2 : s2 = s1 := if_neg fun h => by omega
  have ha : a = s.stbStart t + 16 * k := by
    show s.stbStart t + 16 * (w % n) = _
    rw [Nat.mod_eq_of_lt hlt, hw]
  have h3 : s3 = s.stbPut t u k x := by
    show (s2.incWrap b TIL_STB_WCNT.COUNT 1).modTile t (fun x => { x with stb := w + 1 }) = _
    rw [h2]
    show (((s.sramSet a 8 x.stamp).sramSet (a + 8) 8 tag).incWrap b TIL_STB_WCNT.COUNT 1).modTile t (fun x => { x with stb := w + 1 }) = _
    rw [ha, hw]
    rfl
  rw [h3]
  split
  · exact .inr rfl
  · exact .inl rfl

/-- What stamp x of unit u may change as it is written in record k of tile t's buffer, which starts at a. -/
def stampTouch (t u a : Nat) : Touch where
  regs r := r = feB u + CHN_TIM_STATUS.FIFO.off ∨ r = tileBase t + TIL_STB_WCNT.COUNT.off ∨ r = tileBase t + TIL_STB_STATUS.FULL.off
  sram k := a ≤ k ∧ k < a + 16
  parts y := { y with tdcs := [], tiles := [] }

/-- z is y with stamp x of unit u in record k of tile t's buffer. -/
structure State.Recorded (t u k : Nat) (x : Stamp) (y z : State) : Prop where
  stamp : z.sramN (y.stbStart t + 16 * k) 8 = x.stamp % 2 ^ 64
  tag : z.sramN (y.stbStart t + 16 * k + 8) 8 = x.tag u % 2 ^ 64
  count : z.getF (tileBase t) TIL_STB_WCNT.COUNT = (y.getF (tileBase t) TIL_STB_WCNT.COUNT + 1) % 2 ^ 32
  next : (z.tile t).stb = k + 1
  tdcs : z.tdcs = y.tdcs
  fifo : z.getF (feB u) CHN_TIM_STATUS.FIFO = y.getF (feB u) CHN_TIM_STATUS.FIFO
  exact : Exact (stampTouch t u (y.stbStart t + 16 * k)) y z

theorem State.recorded_stbPut (s : State) (t u k : Nat) (x : Stamp) : s.Recorded t u k x (s.stbPut t u k x) where
  stamp := by
    unfold State.stbPut State.incWrap
    rw [State.sramN_modTile, State.sramN_setF, State.sramN_sramSet_apart _ _ (.inl (Nat.le_refl _)), State.sramN_sramSet]
    rfl
  tag := by
    unfold State.stbPut State.incWrap
    rw [State.sramN_modTile, State.sramN_setF, State.sramN_sramSet]
    rfl
  count := by
    unfold State.stbPut State.incWrap
    rw [State.getF_modTile, State.getF_setF_self _ _ _ _ (by decide), State.getF_sramSet, State.getF_sramSet]
    rfl
  next := by
    unfold State.stbPut
    rw [State.tile_modTile_self]
  tdcs := by
    unfold State.stbPut State.incWrap
    rw [State.modTile_tdcs, State.setF_tdcs, State.sramSet_tdcs, State.sramSet_tdcs]
  fifo := by
    unfold State.stbPut State.incWrap
    rw [State.getF_modTile, State.getF_setF_ne _ (Ne.symm (feB_ne_tileBase t u (by decide) (by decide))), State.getF_sramSet, State.getF_sramSet]
  exact := by
    refine .modTile (.setF (f := TIL_STB_WCNT.COUNT) (.sramSet (.sramSet (.refl _ s) _ fun i hl hu => ?_) _ fun i hl hu => ?_) _ (Or.inr (Or.inl rfl))) t _
      fun _ _ => rfl
    · exact ⟨hl, by omega⟩
    · exact ⟨by omega, by omega⟩

theorem State.Recorded.setFull (h : s.Recorded t u k x z) : s.Recorded t u k x (z.setF (tileBase t) TIL_STB_STATUS.FULL 1) where
  stamp := (State.sramN_setF ..).trans h.stamp
  tag := (State.sramN_setF ..).trans h.tag
  count := (State.getF_setF_off _ _ (by decide) _).trans h.count
  next := (congrArg Tile.stb (State.tile_setF ..)).trans h.next
  tdcs := (State.setF_tdcs ..).trans h.tdcs
  fifo := (State.getF_setF_ne _ (Ne.symm (feB_ne_tileBase t u (by decide) (by decide))) _).trans h.fifo
  exact := h.exact.setF 1 (Or.inr (Or.inr rfl))

theorem State.stbWrite_recorded (hen : s.isSet (tileBase t) TIL_STB_CTRL.EN = true) (hk : (s.tile t).stb = k) (hn : k < s.stbSize t) :
    s.Recorded t u k x (s.stbWrite t u x) := by
  obtain h | h := s.stbWrite_room hen hk hn (u := u) (x := x)
  · rw [h]
    exact s.recorded_stbPut t u k x
  · rw [h]
    exact (s.recorded_stbPut t u k x).setFull

/-! ### One SCLK of collection -/

/-- A fold in which one step alone does anything. -/
theorem foldl_only {α β : Type} {f : β → α → β} {l : List α} {b c : β} {i : α} (hi : i ∈ l) (hd : l.Nodup) (hstep : f b i = c)
    (hpre : ∀ j ∈ l, j ≠ i → f b j = b) (hpost : ∀ j ∈ l, j ≠ i → f c j = c) : l.foldl f b = c := by
  have hidle : ∀ (y : β) (m : List α), (∀ j ∈ m, f y j = y) → m.foldl f y = y := fun y m hm =>
    List.foldlRecOn (motive := (· = y)) m f rfl fun _ hb j hj => hb ▸ hm j hj
  obtain ⟨l₁, l₂, rfl⟩ := List.append_of_mem hi
  obtain ⟨-, hcons, hdisj⟩ := List.nodup_append.1 hd
  obtain ⟨hnot, -⟩ := List.nodup_cons.1 hcons
  rw [List.foldl_append, List.foldl_cons, hidle b l₁ fun j hj => hpre j (List.mem_append_left _ hj) (hdisj j hj i List.mem_cons_self), hstep,
    hidle c l₂ fun j hj => hpost j (List.mem_append_right _ (List.mem_cons_of_mem _ hj)) fun e => hnot (e ▸ hj)]

theorem unitOf_ne {j l : Nat} (ht : t < 8) (hj : j < 132) (hl : l < 132) (h : j ≠ l) : unitOf t j ≠ unitOf t l := by
  unfold unitOf
  split <;> split <;> omega

theorem unitOf_lt {l : Nat} (ht : t < 8) (hl : l < 132) : unitOf t l < 1056 := by
  unfold unitOf
  split <;> omega

/-- A stamp of unit u leaves its FIFO, which keeps xs. -/
def State.stampOut (s : State) (u : Nat) (xs : List Stamp) : State :=
  (s.modTdc u fun y => { y with fifo := xs }).setF (feB u) CHN_TIM_STATUS.FIFO xs.length

/-- Stamp x of local unit l of tile t goes from the unit's FIFO to the stamp buffer; the next unit's turn comes. -/
def State.stampMoved (s : State) (t l : Nat) (x : Stamp) (xs : List Stamp) : State :=
  ((s.stampOut (unitOf t l) xs).stbWrite t (unitOf t l) x).modTile t fun y => { y with stampNext := (l + 1) % 132 }

/-- Nothing waits: nothing happens. -/
theorem State.stampCollect_none (h : ∀ l < 132, (s.tdc (unitOf t l)).fifo = []) : s.stampCollect t = s := by
  unfold State.stampCollect
  refine congrArg Prod.fst (List.foldlRecOn (motive := (· = ((s, 0, 0) : State × Nat × Nat))) (List.range 132) _ rfl fun a ha i _ => ?_)
  subst ha
  dsimp only
  rw [h _ (Nat.mod_lt _ (by decide))]

/-- A stamp bound for the stamp buffer alone. -/
theorem State.stampDest_buffer (s : State) (u : Nat) (h : x.dest = 0) : s.stampDest u x = (true, false) := by
  unfold State.stampDest
  rw [h]
  rfl

section
variable {xs : List Stamp}

/-- The tile's own registers and parts stand as a stamp leaves its FIFO. -/
theorem State.stampOut_tile (s : State) (t u : Nat) (xs : List Stamp) {f : Fld} (hf : f.off < 0x10000) :
    (s.stampOut u xs).getF (tileBase t) f = s.getF (tileBase t) f := by
  unfold State.stampOut
  rw [State.getF_setF_ne _ (feB_ne_tileBase t u hf (by decide)), State.getF_modTdc]

/-- What a stamp leaves behind that has gone from the FIFO of unit u to record k of the buffer. -/
structure State.Collected (t l k : Nat) (x : Stamp) (xs : List Stamp) (s z : State) : Prop where
  stamp : z.sramN (s.stbStart t + 16 * k) 8 = x.stamp % 2 ^ 64
  tag : z.sramN (s.stbStart t + 16 * k + 8) 8 = x.tag (unitOf t l) % 2 ^ 64
  count : z.getF (tileBase t) TIL_STB_WCNT.COUNT = (s.getF (tileBase t) TIL_STB_WCNT.COUNT + 1) % 2 ^ 32
  next : (z.tile t).stb = k + 1
  fifos : ∀ v, (z.tdc v).fifo = if unitOf t l = v then xs else (s.tdc v).fifo
  fifo : z.getF (feB (unitOf t l)) CHN_TIM_STATUS.FIFO = xs.length % 2 ^ 5
  turn : (z.tile t).stampNext = (l + 1) % 132
  exact : Exact (stampTouch t (unitOf t l) (s.stbStart t + 16 * k)) s z

theorem State.collected_stampMoved {l : Nat} (hen : s.isSet (tileBase t) TIL_STB_CTRL.EN = true) (hk : (s.tile t).stb = k) (hn : k < s.stbSize t) :
    s.Collected t l k x xs (s.stampMoved t l x xs) := by
  have hsize : (s.stampOut (unitOf t l) xs).stbSize t = s.stbSize t := congrArg (· * 4096) (s.stampOut_tile t _ xs (by decide))
  have hstart : (s.stampOut (unitOf t l) xs).stbStart t = s.stbStart t := congrArg (capBase t + · * 65536) (s.stampOut_tile t _ xs (by decide))
  have htile : (s.stampOut (unitOf t l) xs).tile t = s.tile t := by
    unfold State.stampOut
    rw [State.tile_setF, State.tile_modTdc]
  have hrec := State.stbWrite_recorded (s := s.stampOut (unitOf t l) xs) (t := t) (u := unitOf t l) (k := k) (x := x)
    ((State.isSet_of_getF (s.stampOut_tile t _ xs (by decide))).trans hen) (by rw [htile]; exact hk) (by rw [hsize]; exact hn)
  obtain ⟨hstamp, htag, hcount, hnext, htdcs, hfifo, hexact⟩ := hrec
  rw [hstart] at hstamp htag hexact
  have hout : Exact (stampTouch t (unitOf t l) (s.stbStart t + 16 * k)) s (s.stampOut (unitOf t l) xs) :=
    ((Exact.refl _ s).modTdc _ _ fun _ _ => rfl).setF (b := feB (unitOf t l)) (f := CHN_TIM_STATUS.FIFO) _ (Or.inl rfl)
  unfold State.stampMoved
  refine ⟨?_, ?_, ?_, ?_, fun v => ?_, ?_, ?_, (hout.trans hexact).modTile t _ fun _ _ => rfl⟩
  · rw [State.sramN_modTile]
    exact hstamp
  · rw [State.sramN_modTile]
    exact htag
  · rw [State.getF_modTile, hcount, s.stampOut_tile t _ xs (by decide)]
  · rw [State.tile_modTile_self]
    dsimp only
    exact hnext
  · rw [State.tdc_modTile]
    unfold State.tdc
    rw [htdcs]
    show ((s.stampOut (unitOf t l) xs).tdc v).fifo = _
    unfold State.stampOut
    rw [State.tdc_setF, State.tdc_modTdc]
    split
    · rfl
    · rfl
  · rw [State.getF_modTile, hfifo]
    unfold State.stampOut
    exact State.getF_setF_self _ _ _ _ (by decide)
  · rw [State.tile_modTile_self]

/-- One stamp waits, for the stamp buffer: it moves, and nothing else. -/
theorem State.stampCollect_one {l : Nat} (hl : l < 132) (hj : ∀ j < 132, j ≠ l → (s.tdc (unitOf t j)).fifo = [])
    (hx : (s.tdc (unitOf t l)).fifo = x :: xs) (hd : x.dest = 0)
    (hm : ∀ j < 132, j ≠ l → ((s.stampMoved t l x xs).tdc (unitOf t j)).fifo = []) : s.stampCollect t = s.stampMoved t l x xs := by
  have hi : (l + (132 - (s.tile t).stampNext % 132)) % 132 ∈ List.range 132 := List.mem_range.2 (Nat.mod_lt _ (by decide))
  have hat : ((s.tile t).stampNext + (l + (132 - (s.tile t).stampNext % 132)) % 132) % 132 = l := by omega
  have hother : ∀ j ∈ List.range 132, j ≠ (l + (132 - (s.tile t).stampNext % 132)) % 132 → ((s.tile t).stampNext + j) % 132 ≠ l := fun j hj hne => by
    have := List.mem_range.1 hj
    omega
  unfold State.stampCollect
  extract_lets start r
  have hr : r = (s.stampMoved t l x xs, 1, 1) := by
    refine foldl_only hi List.nodup_range ?_ (fun j hjm hne => ?_) fun j hjm hne => ?_
    · dsimp only
      rw [hat, hx]
      dsimp only
      rw [s.stampDest_buffer _ hd, if_neg (by decide)]
      dsimp only
      rw [if_neg Bool.false_ne_true, if_pos rfl]
      rfl
    · dsimp only
      rw [hj _ (Nat.mod_lt _ (by decide)) (hother j hjm hne)]
    · dsimp only
      rw [hm _ (Nat.mod_lt _ (by decide)) (hother j hjm hne)]
  rw [hr]

end

end

/-! ### STAMP_BUFFER_WRITE (R147) -/

theorem stampBufferWrite_none {t : Fin 8} (h : ∀ l < 132, (s.tdc (unitOf t l)).fifo = []) : Completes (.stampBufferWrite t) s (Frame {} s) :=
  completes_none (congrArg done (State.stampCollect_none h))

theorem stampBufferWrite_one {t : Fin 8} {l k : Nat} {x : Stamp} {xs : List Stamp} (hl : l < 132)
    (hj : ∀ j < 132, j ≠ l → (s.tdc (unitOf t j)).fifo = []) (hx : (s.tdc (unitOf t l)).fifo = x :: xs) (hlen : xs.length < 16) (hd : x.dest = 0)
    (hk : (s.tile t).stb = k) (hen : s.isSet (tileBase t) TIL_STB_CTRL.EN = true) (hn : k < s.stbSize t)
    (hstamp : x.stamp < 2 ^ 64) (hgen : x.gen < 2 ^ 16) (hlost : x.lostn < 2 ^ 8) (hedge : x.edge < 8) : Completes (.stampBufferWrite t) s fun z =>
      z.sramN (s.stbStart t + 16 * k) 8 = x.stamp ∧
      z.sramN (s.stbStart t + 16 * k + 8) 8 = x.gen * 2 ^ 48 + x.lostn * 2 ^ 40 + (if x.unlk then 2 ^ 23 else 0) + x.edge * 2 ^ 20 + unitOf t l ∧
      z.getF (tileBase t) TIL_STB_WCNT.COUNT = (s.getF (tileBase t) TIL_STB_WCNT.COUNT + 1) % 2 ^ 32 ∧ (z.tile t).stb = k + 1 ∧
      (z.tdc (unitOf t l)).fifo = xs ∧ z.getF (feB (unitOf t l)) CHN_TIM_STATUS.FIFO = xs.length ∧ (z.tile t).stampNext = (l + 1) % 132 ∧
      Frame (stampTouch t (unitOf t l) (s.stbStart t + 16 * k)) s z := by
  obtain ⟨h1, h2, h3, h4, h5, h6, h7, h8⟩ := State.collected_stampMoved (l := l) (x := x) (xs := xs) hen hk hn
  have hu := unitOf_lt t.isLt hl
  have hcollect := State.stampCollect_one hl hj hx hd fun j hj' hne => by
    rw [h5, if_neg (unitOf_ne t.isLt hl hj' (Ne.symm hne))]
    exact hj j hj' hne
  refine completes_done (congrArg done hcollect) ⟨?_, ?_, ?_, ?_, ?_, ?_, ?_, h8.settled⟩
  · rw [State.settled_sramN, h1, Nat.mod_eq_of_lt hstamp]
  · rw [State.settled_sramN, h2, Nat.mod_eq_of_lt (Stamp.tag_lt hgen hlost hedge (by omega)), Stamp.tag_eq]
  · rw [State.settled_getF _ (tileBase_follows t.isLt (by decide)), h3]
  · rw [State.settled_tile, h4]
  · rw [State.settled_tdc, h5, if_pos rfl]
  · rw [State.settled_timF _ _ (by decide), h6]
    exact Nat.mod_eq_of_lt (show _ < 32 by omega)
  · rw [State.settled_tile, h7]

end Sys2Proof.Machine
end

section
/-! PROOFS. The stamp buffer's restart, delay lines and acquisitions (R138, R139, R141, R147). Settles O36. -/

namespace Sys2Proof.Machine

open Sys2Proof (Instr)

variable {w : Touch} {s z : State}

/-! ### STB_RESTART (R147) -/

/-- What a restart of tile t's stamp buffer may change. -/
def restartTouch (t : Nat) : Touch where
  regs a := a = tileBase t + TIL_STB_CTRL.EN.off ∨ a = tileBase t + TIL_STB_WCNT.COUNT.off ∨ a = tileBase t + TIL_STB_STATUS.FULL.off
  parts x := { x with tiles := [] }

theorem State.tilWrite_stbCtrl (s : State) (t : Nat) (x : Word) : s.tilWrite t TIL_STB_CTRL.EN.off x = s.stbCtrl t x := by
  unfold State.tilWrite
  rw [if_neg (by decide), if_neg (by decide), if_neg (by decide), if_neg (by decide), if_pos rfl]

theorem exec_stbRestart {t : Fin 8} {x : Word} (hw : s.writeOk (tileBase t + TIL_STB_CTRL.EN.off) = true) :
    exec (.stbRestart t x) s = done (s.stbCtrl t (TIL_STB_CTRL.EN.put x 1)) := by
  rw [← State.tilWrite_stbCtrl, ← State.regWrite_til _ false t.isLt (by decide) rfl hw]
  rfl

/-- EN written from 0 to 1: the buffer restarts with the MODE written. -/
theorem State.stbCtrl_starts (t : Nat) (x : Word) (hen : s.isSet (tileBase t) TIL_STB_CTRL.EN = false) : s.stbCtrl t (TIL_STB_CTRL.EN.put x 1) =
    (s.setFs (tileBase t) [(TIL_STB_CTRL.MODE, TIL_STB_CTRL.MODE.get x), (TIL_STB_CTRL.EN, 1)]).stbRestart t := by
  have hget : TIL_STB_CTRL.EN.get (TIL_STB_CTRL.EN.put x 1) = 1 := Fld.get_put _ (by decide) _ _
  have hmode : TIL_STB_CTRL.MODE.get (TIL_STB_CTRL.EN.put x 1) = TIL_STB_CTRL.MODE.get x := Fld.get_put_disj _ _ (by decide) _ _
  unfold State.stbCtrl
  rw [hget, hmode]
  dsimp only
  rw [hen]
  rfl

theorem State.stbRestart_shows (s : State) (t : Nat) : (s.stbRestart t).getF (tileBase t) TIL_STB_WCNT.COUNT = 0 ∧
    (s.stbRestart t).isSet (tileBase t) TIL_STB_STATUS.FULL = false ∧ ((s.stbRestart t).tile t).stb = 0 ∧
    ∀ f : Fld, f.off = TIL_STB_CTRL.EN.off → (s.stbRestart t).getF (tileBase t) f = s.getF (tileBase t) f := by
  unfold State.stbRestart
  refine ⟨?_, ?_, ?_, fun f hf => ?_⟩
  · rw [State.getF_modTile, State.getF_setF_off _ _ (by decide)]
    exact State.getF_setF_self _ _ TIL_STB_WCNT.COUNT 0 (by decide)
  · rw [State.isSet_modTile]
    exact State.isSet_setF_self _ _ TIL_STB_STATUS.FULL 0 (by decide)
  · rw [State.tile_modTile_self]
  · rw [State.getF_modTile, State.getF_setF_off _ _ (by rw [hf]; decide), State.getF_setF_off _ _ (by rw [hf]; decide)]

theorem Exact.stbRestart {t : Nat} (h : Exact (restartTouch t) s z) : Exact (restartTouch t) s (z.stbRestart t) :=
  ((h.setF (b := tileBase t) (f := TIL_STB_WCNT.COUNT) 0 (Or.inr (Or.inl rfl))).setF (b := tileBase t) (f := TIL_STB_STATUS.FULL) 0
    (Or.inr (Or.inr rfl))).modTile t _ fun _ _ => rfl

theorem stbRestart_row {t : Fin 8} {x : Word} (hw : s.writeOk (tileBase t + TIL_STB_CTRL.EN.off) = true)
    (hen : s.isSet (tileBase t) TIL_STB_CTRL.EN = false) : Completes (.stbRestart t x) s fun z =>
      z.isSet (tileBase t) TIL_STB_CTRL.EN = true ∧ z.getF (tileBase t) TIL_STB_CTRL.MODE = TIL_STB_CTRL.MODE.get x ∧
      z.getF (tileBase t) TIL_STB_WCNT.COUNT = 0 ∧ z.isSet (tileBase t) TIL_STB_STATUS.FULL = false ∧ (z.tile t).stb = 0 ∧
      Frame (restartTouch t) s z := by
  have hx := (exec_stbRestart (x := x) hw).trans (congrArg done (State.stbCtrl_starts t x hen))
  have hexact : Exact (restartTouch t) s (s.setFs (tileBase t) [(TIL_STB_CTRL.MODE, TIL_STB_CTRL.MODE.get x), (TIL_STB_CTRL.EN, 1)]) :=
    (Exact.refl _ s).setFs fun e he => by
      fin_cases he <;> exact Or.inl rfl
  have henNew := s.getF_setFs_mid (tileBase t) (pre := [(TIL_STB_CTRL.MODE, TIL_STB_CTRL.MODE.get x)]) (post := []) (f := TIL_STB_CTRL.EN) (v := 1)
    (by decide) (by simp)
  have hmodeNew := s.getF_setFs_mid (tileBase t) (pre := []) (post := [(TIL_STB_CTRL.EN, 1)]) (f := TIL_STB_CTRL.MODE) (v := TIL_STB_CTRL.MODE.get x)
    (by decide) (by decide)
  obtain ⟨hcount, hfull, hstb, hctrl⟩ := State.stbRestart_shows (s.setFs (tileBase t) [(TIL_STB_CTRL.MODE, TIL_STB_CTRL.MODE.get x), (TIL_STB_CTRL.EN, 1)]) t
  refine completes_done hx ⟨?_, ?_, ?_, ?_, ?_, hexact.stbRestart.settled⟩
  · rw [State.settled_isSet _ (tileBase_follows t.isLt (by decide))]
    exact State.isSet_of_getF ((hctrl TIL_STB_CTRL.EN rfl).trans henNew)
  · rw [State.settled_getF _ (tileBase_follows t.isLt (by decide))]
    exact ((hctrl TIL_STB_CTRL.MODE rfl).trans hmodeNew).trans (Nat.mod_eq_of_lt (Fld.get_lt _ x))
  · rw [State.settled_getF _ (tileBase_follows t.isLt (by decide))]
    exact hcount
  · rw [State.settled_isSet _ (tileBase_follows t.isLt (by decide))]
    exact hfull
  · rw [State.settled_tile]
    exact hstb

/-! ### Delay lines (R138) -/

/-- What a delay line's lock or loss of lock may change besides its fault. -/
def lineTouch (u : Nat) : Touch where
  regs a := u < 1056 ∧ a = feB u + CHN_TIM_STATUS.TLOCK.off
  parts x := { x with tdcs := [], insts := [] }

section
variable {u line : Nat}

/-- Showing the locks changes registers only. -/
theorem State.showLocks_eq {α : Type} (g : State → α) (hg : ∀ x r, g { x with regs := r } = g x) (s : State) (u : Nat) : g (s.showLocks u) = g s :=
  ite_keeps (R := fun x => g x = g s) (fun _ => State.setFs_eq g hg _ _ _) fun _ => rfl

theorem State.tdc_showLocks (s : State) (u v : Nat) : (s.showLocks u).tdc v = s.tdc v := s.showLocks_eq (fun x => x.tdc v) (fun _ _ => rfl) u

theorem State.showLocks_shows (s : State) (hu : u < 1056) : (s.showLocks u).isSet (feB u) CHN_TIM_STATUS.TLOCK = ((s.tdc u).locks).testBit 0 ∧
    (s.showLocks u).isSet (feB u) CHN_TIM_STATUS.VLOCK = (decide (u < 1024) && decide ((s.tdc u).locks &&& 0x3E = 0x3E)) := by
  unfold State.showLocks
  rw [if_pos hu, State.setFs_cons, State.setFs_cons, State.setFs_nil]
  refine ⟨?_, ?_⟩
  · rw [State.isSet_setF_disj _ _ CHN_TIM_STATUS.VLOCK CHN_TIM_STATUS.TLOCK _ rfl (by decide)]
    exact State.isSet_setF_mark _ _ _ (by decide)
  · rw [State.isSet_setF_mark _ _ _ (by decide), beq_eq_decide]

theorem Exact.showLocks (h : Exact (lineTouch u) s z) : Exact (lineTouch u) s (z.showLocks u) :=
  .ite (fun hu => h.setFs fun e he => by
    have ho : e.1.off = CHN_TIM_STATUS.TLOCK.off := by
      fin_cases he <;> rfl
    rw [ho]
    exact ⟨hu, rfl⟩) fun _ => h

/-- The line's lock is b. -/
def State.setLine (s : State) (u line : Nat) (b : Bool) : State := (s.modTdc u fun d => { d with locks := setBit d.locks line b }).showLocks u

theorem State.tdc_setLine (s : State) (u line : Nat) (b : Bool) : ((s.setLine u line b).tdc u).locks = setBit (s.tdc u).locks line b := by
  unfold State.setLine
  rw [State.tdc_showLocks, State.tdc_modTdc_self]

theorem Exact.setLine (h : Exact (lineTouch u) s z) (b : Bool) : Exact (lineTouch u) s (z.setLine u line b) :=
  (h.modTdc u _ fun _ _ => rfl).showLocks

theorem State.setLine_shows (s : State) (hu : u < 1056) (b : Bool) :
    (s.setLine u line b).isSet (feB u) CHN_TIM_STATUS.TLOCK = (((s.setLine u line b).tdc u).locks).testBit 0 ∧
    (s.setLine u line b).isSet (feB u) CHN_TIM_STATUS.VLOCK = (decide (u < 1024) && decide (((s.setLine u line b).tdc u).locks &&& 0x3E = 0x3E)) := by
  unfold State.setLine
  rw [State.tdc_showLocks]
  exact State.showLocks_shows _ hu

end

section
variable {u : Fin 1061} {line : Fin 6}

theorem dllLock_none (h : (lineMask u).testBit line = false) : Completes (.dllLock u line) s (Frame {} s) :=
  completes_none (if_pos (by rw [h]; exact Bool.false_ne_true))

/-- Beyond the lock, the end of a fault's condition may follow. -/
theorem exec_dllLock (h : (lineMask u).testBit line = true) : exec (.dllLock u line) s = done (s.setLine u line true) ∨
    ∃ scope unit, exec (.dllLock u line) s = done ((s.setLine u line true).condEnd 0x0C scope unit) := by
  have hx : exec (.dllLock u line) s = if ((s.setLine u line true).tdc u).locks &&& lineMask u = lineMask u then
      done ((s.setLine u line true).condEnd 0x0C ((s.setLine u line true).tdcUnit u).1 ((s.setLine u line true).tdcUnit u).2)
    else done (s.setLine u line true) := if_neg (not_not.2 h)
  rw [hx]
  split
  · exact .inr ⟨_, _, rfl⟩
  · exact .inl rfl

/-- What a lock leaves of unit u's lines. -/
theorem dllLock_row (h : (lineMask u).testBit line = true) : Completes (.dllLock u line) s fun t =>
    (t.tdc u).locks = (s.tdc u).locks ||| 2 ^ line.val ∧
    (u.val < 1056 → t.isSet (feB u) CHN_TIM_STATUS.TLOCK = ((t.tdc u).locks).testBit 0 ∧
      t.isSet (feB u) CHN_TIM_STATUS.VLOCK = (decide (u.val < 1024) && decide ((t.tdc u).locks &&& 0x3E = 0x3E))) ∧
    Frame (lineTouch u) s t := by
  have hexact : Exact (lineTouch u) s (s.setLine u line true) := (Exact.refl _ s).setLine true
  have hrow : ∀ z : State, z.tdcs = (s.setLine u line true).tdcs → (∀ b f, z.isSet b f = (s.setLine u line true).isSet b f) → Exact (lineTouch u) s z →
      (z.settled.tdc u).locks = (s.tdc u).locks ||| 2 ^ line.val ∧
      (u.val < 1056 → z.settled.isSet (feB u) CHN_TIM_STATUS.TLOCK = ((z.settled.tdc u).locks).testBit 0 ∧
        z.settled.isSet (feB u) CHN_TIM_STATUS.VLOCK = (decide (u.val < 1024) && decide ((z.settled.tdc u).locks &&& 0x3E = 0x3E))) ∧
      Frame (lineTouch u) s z.settled := fun z htdcs hset hz => by
    have htdc : z.settled.tdc u = (s.setLine u line true).tdc u := by
      rw [State.settled_tdc]
      unfold State.tdc
      rw [htdcs]
    rw [htdc]
    refine ⟨State.tdc_setLine s u line true, fun hu => ?_, hz.settled⟩
    rw [State.settled_isSet _ (feB_tim_follows u (by decide)), State.settled_isSet _ (feB_tim_follows u (by decide)), hset, hset]
    exact s.setLine_shows hu true
  obtain hx | ⟨scope, unit, hx⟩ := exec_dllLock (s := s) h
  · exact completes_done hx (hrow _ rfl (fun _ _ => rfl) hexact)
  · exact completes_done hx (hrow _ (ite_keeps (R := fun x => x.tdcs = (s.setLine u line true).tdcs) (fun _ => rfl) fun _ => rfl)
      (fun b f => State.condEnd_isSet ..) (hexact.condEnd _ _ _ fun _ _ => rfl))

end

/-! ### A unit's faults -/

/-- Where neither rotations nor registers outside the tiles change, a TDC's faults are the same unit's. -/
theorem Exact.tdcUnit (h : Exact w s z) (u : Nat) (hr : ∀ x, (w.parts x).rots = x.rots) (hl : ∀ a, a < 0x800000 → ¬ w.regs a) :
    z.tdcUnit u = s.tdcUnit u := by
  unfold State.tdcUnit
  by_cases hu : u < 1056
  · rw [if_pos hu, if_pos hu]
    exact State.faultUnit_eq ⟨u, hu⟩ (h.rots hr) fun a ha => h.regs a (hl a ha)
  · rw [if_neg hu, if_neg hu]

/-- A first detection at Pale leaves the condition as the class has it. -/
theorem State.detectPale_cond (s : State) {cls scope unit : Nat} (d : Nat) (mom : Bool) (hf : (s.inst (instKey cls scope unit)).force = false) :
    ((s.detectAt cls scope unit d 0 mom).inst (instKey cls scope unit)).cond = !mom := by
  unfold State.detectAt
  extract_lets k i s1 s2 now
  rw [if_pos (by rw [Bool.not_eq_true]; exact hf)]
  unfold State.enterLevel
  extract_lets s3 s4
  rw [State.levelAction_zero]
  have h4 : s4.inst k = s3.inst k :=
    ite_keeps (R := fun x => x.inst k = s3.inst k) (fun _ => s3.bbRecord_inst _ _ _ _ _) fun _ => rfl
  rw [h4, State.inst_setInst_self]

/-- It leaves the TDCs alone. -/
theorem State.detectPale_tdcs (s : State) {cls scope unit : Nat} (d : Nat) (mom : Bool) (hf : (s.inst (instKey cls scope unit)).force = false) :
    (s.detectAt cls scope unit d 0 mom).tdcs = s.tdcs := by
  have hw : (paleTouch cls).Pale cls := ⟨Or.inl rfl, Or.inr rfl, fun _ _ => rfl, fun _ _ => rfl, fun _ _ => rfl⟩
  have hp := congrArg State.tdcs ((Exact.refl _ s).detectPale hw d mom hf).parts
  exact hp

/-- A class at Pale is detected at Pale. -/
theorem State.detect_pale {cls : Nat} (h : s.getF (4 * cls) FLT_CLASS.LEVEL = 0) (scope unit d : Nat) :
    s.detect cls scope unit d = s.detectAt cls scope unit d 0 (momentary cls) := by
  unfold State.detect
  rw [h]

/-! ### DLL_UNLOCK (R138) -/

section
variable {u line : Nat}

/-- The loss of a line's lock shows, and stays marked. -/
def State.lineLost (s : State) (u line : Nat) : State :=
  if u < 1056 then (s.setLine u line false).setF (feB u) CHN_TIM_STATUS.UNLK_SEEN 1 else s.setLine u line false

theorem Exact.lineLost (h : Exact (lineTouch u) s z) : Exact (lineTouch u) s (z.lineLost u line) :=
  .ite (fun hu => (h.setLine false).setF (b := feB u) (f := CHN_TIM_STATUS.UNLK_SEEN) 1 ⟨hu, rfl⟩) fun _ => h.setLine false

theorem State.lineLost_locks (s : State) (u line : Nat) : (((s.lineLost u line).tdc u).locks).testBit line = false := by
  have h : (s.lineLost u line).tdc u = (s.setLine u line false).tdc u :=
    ite_keeps (R := fun x => x.tdc u = (s.setLine u line false).tdc u) (fun _ => State.tdc_setF ..) fun _ => rfl
  rw [h, State.tdc_setLine, testBit_setBit_self]

theorem State.lineLost_seen (s : State) (hu : u < 1056) : (s.lineLost u line).isSet (feB u) CHN_TIM_STATUS.UNLK_SEEN = true := by
  unfold State.lineLost
  rw [if_pos hu]
  exact State.isSet_setF_self _ _ CHN_TIM_STATUS.UNLK_SEEN 1 (by decide)

/-- The fault's record is as before. -/
theorem State.lineLost_inst (s : State) (u line k : Nat) : (s.lineLost u line).inst k = s.inst k := by
  have h : (s.setLine u line false).inst k = s.inst k := by
    unfold State.setLine
    exact (State.showLocks_eq (fun x => x.inst k) (fun _ _ => rfl) _ u).trans (State.inst_modTdc ..)
  exact ite_keeps (R := fun x => x.inst k = s.inst k) (fun _ => (State.inst_setF ..).trans h) fun _ => h

/-- What the loss of a line's lock may change with its fault. -/
def unlockTouch (u : Nat) : Touch where
  regs a := u < 1056 ∧ a = feB u + CHN_TIM_STATUS.TLOCK.off ∨ a = FLT_CLASS.DCNT.off + 4 * 0x0C ∨ a = FLT_BB_STATUS.LOST.off
  parts x := { x with tdcs := [], insts := [], lastCls := [], bbStage := [] }

/-- A frame within a wider one. -/
theorem Exact.widen {w' : Touch} (h : Exact w s z) (hr : ∀ a, w.regs a → w'.regs a) (hsram : ∀ a, w.sram a → w'.sram a)
    (hflash : ∀ a, w.flash a → w'.flash a) (hhost : ∀ a, w.host a → w'.host a) (hfes : ∀ a, w.fes a → w'.fes a) (hadcs : ∀ a, w.adcs a → w'.adcs a)
    (hengs : ∀ a, w.engs a → w'.engs a) (hports : ∀ a, w.ports a → w'.ports a) (hp : ∀ x, w'.parts (w.parts x) = w'.parts x) : Exact w' s z where
  regs a ha := h.regs a fun e => ha (hr a e)
  sram a ha := h.sram a fun e => ha (hsram a e)
  flash a ha := h.flash a fun e => ha (hflash a e)
  host a ha := h.host a fun e => ha (hhost a e)
  fes a ha := h.fes a fun e => ha (hfes a e)
  adcs a ha := h.adcs a fun e => ha (hadcs a e)
  engs a ha := h.engs a fun e => ha (hengs a e)
  ports a ha := h.ports a fun e => ha (hports a e)
  con := h.con
  parts := by rw [← hp z.parts, ← hp s.parts, h.parts]

end

section
variable {u : Fin 1061} {line : Fin 6} {k : Nat}

theorem dllUnlock_none (h : (s.tdc u).locks.testBit line = false) : Completes (.dllUnlock u line) s (Frame {} s) :=
  completes_none (if_pos (by rw [h]; exact Bool.false_ne_true))

theorem exec_dllUnlock (h : (s.tdc u).locks.testBit line = true) : exec (.dllUnlock u line) s =
    done ((s.lineLost u line).detect 0x0C ((s.lineLost u line).tdcUnit u).1 ((s.lineLost u line).tdcUnit u).2 line) := if_neg (not_not.2 h)

theorem dllUnlock_row (h : (s.tdc u).locks.testBit line = true) (hk : k = instKey 0x0C (s.tdcUnit u).1 (s.tdcUnit u).2) (hf : (s.inst k).force = false)
    (hl : s.getF (4 * 0x0C) FLT_CLASS.LEVEL = 0) : Completes (.dllUnlock u line) s fun t =>
      (t.tdc u).locks.testBit line = false ∧ (u.val < 1056 → t.isSet (feB u) CHN_TIM_STATUS.UNLK_SEEN = true) ∧
      (t.inst k).force = true ∧ (t.inst k).cond = true ∧ (t.inst k).detail = line ∧ Frame (unlockTouch u) s t := by
  have hlost : Exact (lineTouch u) s (s.lineLost u line) := (Exact.refl _ s).lineLost
  have hregs : ∀ a, a < 0x800000 → ¬ (lineTouch u).regs a := fun a ha e => lt_feB ha _ e.2
  have hunit := hlost.tdcUnit u (fun _ => rfl) hregs
  have hlevel : (s.lineLost u line).getF (4 * 0x0C) FLT_CLASS.LEVEL = 0 := (hlost.getF (hregs _ (by decide))).trans hl
  have hwide : Exact (unlockTouch u) s (s.lineLost u line) :=
    hlost.widen (fun _ => Or.inl) (fun _ => id) (fun _ => id) (fun _ => id) (fun _ => id) (fun _ => id) (fun _ => id) (fun _ => id) fun _ => rfl
  have hseen := s.lineLost_seen (u := u) (line := line)
  have hlocks := s.lineLost_locks u line
  have hx := exec_dllUnlock h
  rw [State.detect_pale hlevel, hunit] at hx
  have hinst : ((s.lineLost u line).inst (instKey 0x0C (s.tdcUnit u).1 (s.tdcUnit u).2)).force = false := by
    rw [State.lineLost_inst, ← hk]
    exact hf
  subst hk
  generalize s.lineLost u line = y at hx hinst hwide hseen hlocks
  obtain ⟨hforce, hdetail⟩ := y.detectAt_shows 0x0C (s.tdcUnit u).1 (s.tdcUnit u).2 line 0 (momentary 0x0C)
  have hcond := y.detectPale_cond line (momentary 0x0C) hinst
  have hrd := fun a => y.detectPale_rd (a := a) line (momentary 0x0C) hinst
  have hexact := hwide.detectPale (cls := 0x0C) ⟨Or.inr (Or.inl rfl), Or.inr (Or.inr rfl), fun _ _ => rfl, fun _ _ => rfl, fun _ _ => rfl⟩ line
    (momentary 0x0C) hinst
  refine completes_done hx ⟨?_, fun hu => ?_, ?_, ?_, ?_, hexact.settled⟩
  · rw [State.settled_tdc]
    unfold State.tdc
    rw [y.detectPale_tdcs line (momentary 0x0C) hinst]
    exact hlocks
  · rw [State.settled_isSet _ (feB_tim_follows u (by decide))]
    exact (State.isSet_of_getF (congrArg CHN_TIM_STATUS.UNLK_SEEN.get (hrd _ ⟨Ne.symm (lt_feB (by decide) _), Ne.symm (lt_feB (by decide) _)⟩))).trans (hseen hu)
  · rw [State.settled_inst]
    exact hforce
  · rw [State.settled_inst]
    exact hcond
  · rw [State.settled_inst]
    exact hdetail

end

/-! ### The inverse table (R141) -/

/-- How far a tap's delay lies from f units. -/
def tapAway (f d : Nat) : Nat := ((d : Int) - 256 * f).natAbs

/-- The nearer of the best tap so far and the next one. -/
def tapStep (f : Nat) (b : Option (Nat × Nat)) (e : Nat × Nat) : Option (Nat × Nat) :=
  match b with
  | none => some (tapAway f e.1, e.2)
  | some x => if tapAway f e.1 < x.1 then some (tapAway f e.1, e.2) else some x

theorem nearestTap_eq (delays : List Nat) (f : Nat) : nearestTap delays f = ((delays.zipIdx.foldl (tapStep f) none).map Prod.snd).getD 0 := rfl

/-- The search ends with a tap to which none is nearer. -/
theorem tapStep_foldl (f : Nat) (l : List Nat) (h : l ≠ []) : ∃ k < l.length, l.zipIdx.foldl (tapStep f) none = some (tapAway f (l.getD k 0), k) ∧
    ∀ j < l.length, tapAway f (l.getD k 0) ≤ tapAway f (l.getD j 0) := by
  induction l using List.reverseRecOn with
  | nil => exact absurd rfl h
  | append_singleton l d ih =>
    have hlast : (l ++ [d]).getD l.length 0 = d := by simp
    have hold : ∀ j < l.length, (l ++ [d]).getD j 0 = l.getD j 0 := fun j hj => List.getD_append l [d] 0 j hj
    have hsplit : ∀ j < (l ++ [d]).length, j < l.length ∨ j = l.length := fun j hj => by
      rw [List.length_append, List.length_singleton] at hj
      omega
    have hlen : l.length < (l ++ [d]).length := by simp
    rw [List.zipIdx_append, List.foldl_append]
    by_cases hl : l = []
    · subst hl
      refine ⟨0, hlen, rfl, fun j hj => ?_⟩
      obtain hj | rfl := hsplit j hj
      · exact absurd hj (Nat.not_lt_zero j)
      · exact Nat.le_refl _
    · obtain ⟨k, hk, hfold, hmin⟩ := ih hl
      rw [hfold]
      by_cases hnear : tapAway f d < tapAway f (l.getD k 0)
      · refine ⟨l.length, hlen, ?_, fun j hj => ?_⟩
        · rw [hlast, List.zipIdx_singleton, List.foldl_cons, List.foldl_nil, Nat.zero_add]
          exact if_pos hnear
        · obtain hj | rfl := hsplit j hj
          · rw [hlast, hold j hj]
            exact Nat.le_of_lt (Nat.lt_of_lt_of_le hnear (hmin j hj))
          · exact Nat.le_refl _
      · refine ⟨k, Nat.lt_trans hk hlen, ?_, fun j hj => ?_⟩
        · rw [hold k hk, List.zipIdx_singleton, List.foldl_cons, List.foldl_nil]
          exact if_neg hnear
        · obtain hj | rfl := hsplit j hj
          · rw [hold k hk, hold j hj]
            exact hmin j hj
          · rw [hold k hk, hlast]
            exact Nat.le_of_not_lt hnear

theorem nearestTap_nearest {delays : List Nat} (f : Nat) (h : delays ≠ []) : nearestTap delays f < delays.length ∧
    ∀ j < delays.length, tapAway f (delays.getD (nearestTap delays f) 0) ≤ tapAway f (delays.getD j 0) := by
  obtain ⟨k, hk, hfold, hmin⟩ := tapStep_foldl f delays h
  have hn : nearestTap delays f = k := by
    rw [nearestTap_eq, hfold]
    rfl
  rw [hn]
  exact ⟨hk, hmin⟩

theorem inverseTable_getD (delays : List Nat) {f : Nat} (h : f < 200) : (inverseTable delays).getD f 0 = nearestTap delays f := by
  unfold inverseTable
  rw [List.getD_eq_getElem _ _ (by simpa using h)]
  simp

/-! ### CODE_DENSITY_DONE (R139, R141) -/

section
variable {u : Nat}

/-- s with other tiles' parts. -/
def State.withTiles (s : State) (l : List (Nat × Tile)) : State := { s with tiles := l }

/-- The end of an acquisition is noted by tiles alone. -/
theorem State.acqDone_eq (s : State) (u : Nat) : ∃ l, s.acqDone u = s.withTiles l := by
  unfold State.acqDone
  refine ite_keeps (R := fun x => ∃ l, x = s.withTiles l) (fun _ => ?_) fun _ => ⟨s.tiles, rfl⟩
  refine foldl_keeps (R := fun x => ∃ l, x = s.withTiles l) _ ⟨s.tiles, rfl⟩ fun x t hx => ?_
  obtain ⟨l, rfl⟩ := hx
  exact ⟨_, rfl⟩

/-- Once the tiles of a list have noted it, none of them awaits it. -/
theorem State.acqNoted (s : State) (b : Nat) (l : List Nat) : ∀ t, t ∈ l ∨ (s.tile t).acq.testBit b = false →
    ((l.foldl (fun s t => s.modTile t fun x => { x with acq := setBit x.acq b false }) s).tile t).acq.testBit b = false := by
  induction l generalizing s with
  | nil => exact fun t h => h.resolve_left List.not_mem_nil
  | cons t l ih =>
    intro v hv
    refine ih _ v ?_
    by_cases he : t = v
    · subst he
      rw [State.tile_modTile_self]
      exact .inr (testBit_setBit_self (s.tile t).acq b false)
    · rw [State.tile_modTile, if_neg he]
      exact hv.imp_left fun h => (List.mem_cons.1 h).resolve_left (Ne.symm he)

theorem State.acqDue_acqDone (s : State) (u : Nat) : (s.acqDone u).acqDue u = false := by
  by_cases h : s.acqDue u = true
  · unfold State.acqDone
    rw [if_pos h]
    unfold State.acqDue
    rw [List.any_eq_false]
    intro t ht
    rw [Bool.not_eq_true]
    exact s.acqNoted (acqBit u) (acqTiles u) t (.inl ht)
  · unfold State.acqDone
    rw [if_neg h]
    exact Bool.eq_false_iff.2 h

theorem Exact.acqDone (h : Exact w s z) (u : Nat) (hp : ∀ x l, w.parts { x with tiles := l } = w.parts x) : Exact w s (z.acqDone u) := by
  obtain ⟨l, hl⟩ := z.acqDone_eq u
  rw [hl]
  exact h.congr (hp z.parts l) rfl rfl rfl rfl rfl rfl rfl rfl

theorem histOk_iff (l : List Nat) : histOk l = true ↔ l.length = 200 ∧ ∀ x ∈ l, 1 ≤ x ∧ x ≤ 3932 := by
  simp [histOk]

/-- A table that is not usable. -/
theorem histOk_false {l : List Nat} (h : l.length ≠ 200 ∨ ∃ x ∈ l, x = 0 ∨ 3932 < x) : histOk l = false := by
  rw [Bool.eq_false_iff, Ne, histOk_iff]
  rintro ⟨hlen, hall⟩
  obtain hne | ⟨x, hx, hbad⟩ := h
  · exact hne hlen
  · have := hall x hx
    omega

/-- Tables k staged for unit u. -/
def State.stageTables (s : State) (u : Nat) (k : Timing) : State := { s with timingNew := tabSet (fun _ => {}) s.timingNew u k }
/-- Tables k in effect for unit u. -/
def State.setTables (s : State) (u : Nat) (k : Timing) : State := { s with timing := tabSet (fun _ => {}) s.timing u k }

theorem State.tim_setTables (s : State) (u : Nat) (k : Timing) : (s.setTables u k).tim u = k := tabGet_tabSet_self _ _ _ _
theorem State.tdc_setTables (s : State) (u v : Nat) (k : Timing) : (s.setTables u k).tdc v = s.tdc v := rfl

/-- What unit u's tables, in effect at boot, may change. -/
def tablesTouch (u : Nat) : Touch where
  regs a := u < 1056 ∧ a = feB u + CHN_TIM_DSK.TDC.off
  parts x := { x with timing := [], tiles := [] }

theorem State.showDsk_eq {α : Type} (g : State → α) (hg : ∀ x r, g { x with regs := r } = g x) (s : State) (u : Nat) : g (s.showDsk u) = g s :=
  ite_keeps (R := fun x => g x = g s) (fun _ => State.setFs_eq g hg _ _ _) fun _ => rfl

theorem State.showDsk_tdc (s : State) (hu : u < 1056) : (s.showDsk u).getF (feB u) CHN_TIM_DSK.TDC = (s.edgeTim u).tdc % 2 ^ 10 := by
  unfold State.showDsk
  rw [if_pos hu]
  exact s.getF_setFs_mid (feB u) (pre := []) (by decide) (by simp only [List.map_cons, List.map_nil]; decide)

theorem Exact.showDsk (h : Exact (tablesTouch u) s z) : Exact (tablesTouch u) s (z.showDsk u) :=
  .ite (fun hu => h.setFs fun e he => by
    have ho : e.1.off = CHN_TIM_DSK.TDC.off := by
      fin_cases he <;> rfl
    rw [ho]
    exact ⟨hu, rfl⟩) fun _ => h

end

section
variable {u : Fin 1061} {hist : List Nat} {delays : List (List Nat)} {drv stb tdc : Fin 1024}

theorem codeDensityDone_none (h : s.acquires u = false ∨ hist.foldl (· + ·) 0 ≠ 262144) :
    Completes (.codeDensityDone u hist delays drv stb tdc) s (Frame {} s) :=
  completes_none (if_pos (h.imp_left fun e => by rw [e]; exact Bool.false_ne_true))

/-- The tables that an accepted acquisition gives. -/
def acquired (hist : List Nat) (delays : List (List Nat)) (drv stb tdc : Nat) : Timing :=
  { hist := hist, inv := delays.map inverseTable, drv := drv, stb := stb, tdc := tdc }

theorem exec_codeDensityDone_rejected (ha : s.acquires u = true) (hs : hist.foldl (· + ·) 0 = 262144) (hh : histOk hist = false) :
    exec (.codeDensityDone u hist delays drv stb tdc) s = done ((s.acqDone u).detect 0x0D (s.tdcUnit u).1 (s.tdcUnit u).2 0) := by
  show execCodeDensityDone u hist delays drv stb tdc s = _
  unfold execCodeDensityDone
  rw [if_neg (fun e => e.elim (fun h => h ha) fun h => h hs), if_pos (by rw [hh]; exact Bool.false_ne_true)]

theorem exec_codeDensityDone_accepted (ha : s.acquires u = true) (hs : hist.foldl (· + ·) 0 = 262144) (hh : histOk hist = true) :
    exec (.codeDensityDone u hist delays drv stb tdc) s = if (s.acqDone u).mode = stBOOT then
      done (((s.acqDone u).setTables u (acquired hist delays drv stb tdc)).showDsk u)
    else done ((s.acqDone u).stageTables u (acquired hist delays drv stb tdc)) := by
  show execCodeDensityDone u hist delays drv stb tdc s = _
  unfold execCodeDensityDone
  rw [if_neg (fun e => e.elim (fun h => h ha) fun h => h hs), if_neg (not_not.2 hh)]
  rfl

theorem State.acqDone_mode (s : State) (u : Nat) : (s.acqDone u).mode = s.mode := by
  obtain ⟨l, hl⟩ := s.acqDone_eq u
  rw [hl]
  rfl

theorem codeDensityDone_staged (ha : s.acquires u = true) (hs : hist.foldl (· + ·) 0 = 262144) (hh : histOk hist = true) (hm : s.mode ≠ stBOOT) :
    Completes (.codeDensityDone u hist delays drv stb tdc) s fun t =>
      tabGet (fun _ => {}) t.timingNew u = acquired hist delays drv stb tdc ∧ t.tim u = s.tim u ∧ t.acqDue u = false ∧
      Frame { parts := fun x => { x with timingNew := [], tiles := [] } } s t := by
  have hx := exec_codeDensityDone_accepted (delays := delays) (drv := drv) (stb := stb) (tdc := tdc) ha hs hh
  rw [if_neg (by rw [s.acqDone_mode]; exact hm)] at hx
  have htim : (s.acqDone u).tim u = s.tim u := by
    obtain ⟨l, hl⟩ := s.acqDone_eq u
    rw [hl]
    rfl
  have hdue := s.acqDue_acqDone u
  have hexact : Exact { parts := fun x => { x with timingNew := [], tiles := [] } } s (s.acqDone u) := (Exact.refl _ s).acqDone u fun _ _ => rfl
  generalize s.acqDone u = y at hx htim hdue hexact
  refine completes_done hx ⟨?_, ?_, ?_, Exact.settled (hexact.congr rfl rfl rfl rfl rfl rfl rfl rfl rfl)⟩
  · rw [State.settled_timingNew]
    exact tabGet_tabSet_self _ _ _ _
  · unfold State.tim
    rw [State.settled_timing]
    exact htim
  · unfold State.acqDue State.tile
    rw [State.settled_tiles]
    exact hdue

theorem codeDensityDone_boot (ha : s.acquires u = true) (hs : hist.foldl (· + ·) 0 = 262144) (hh : histOk hist = true) (hm : s.mode = stBOOT)
    (hheld : (s.tdc u).held = none) : Completes (.codeDensityDone u hist delays drv stb tdc) s fun t =>
      t.tim u = acquired hist delays drv stb tdc ∧ (u.val < 1056 → t.getF (feB u) CHN_TIM_DSK.TDC = tdc) ∧ Frame (tablesTouch u) s t := by
  have hx := exec_codeDensityDone_accepted (delays := delays) (drv := drv) (stb := stb) (tdc := tdc) ha hs hh
  rw [if_pos (by rw [s.acqDone_mode]; exact hm)] at hx
  have htdc : ((s.acqDone u).tdc u).held = none := by
    obtain ⟨l, hl⟩ := s.acqDone_eq u
    rw [hl]
    exact hheld
  have hexact : Exact (tablesTouch u) s (s.acqDone u) := (Exact.refl _ s).acqDone u fun _ _ => rfl
  generalize s.acqDone u = y at hx htdc hexact
  have hedge : (y.setTables u (acquired hist delays drv stb tdc)).edgeTim u = acquired hist delays drv stb tdc := by
    unfold State.edgeTim
    rw [State.tdc_setTables, htdc, State.tim_setTables]
    rfl
  have hset : Exact (tablesTouch u) s (y.setTables u (acquired hist delays drv stb tdc)) := hexact.congr rfl rfl rfl rfl rfl rfl rfl rfl rfl
  refine completes_done hx ⟨?_, fun hu => ?_, hset.showDsk.settled⟩
  · unfold State.tim
    rw [State.settled_timing]
    exact (State.showDsk_eq (fun x => x.tim u) (fun _ _ => rfl) _ _).trans (State.tim_setTables ..)
  · rw [State.settled_timF _ _ (by decide), State.showDsk_tdc _ hu, hedge]
    exact Nat.mod_eq_of_lt tdc.isLt

/-- What the refusal of unit u's tables may change. -/
def rejectTouch : Touch where
  regs a := a = FLT_CLASS.DCNT.off + 4 * 0x0D ∨ a = FLT_BB_STATUS.LOST.off
  parts x := { x with insts := [], lastCls := [], bbStage := [], tiles := [] }

theorem codeDensityDone_rejected (ha : s.acquires u = true) (hs : hist.foldl (· + ·) 0 = 262144) (hh : histOk hist = false)
    (hf : (s.inst (instKey 0x0D (s.tdcUnit u).1 (s.tdcUnit u).2)).force = false) (hl : s.getF (4 * 0x0D) FLT_CLASS.LEVEL = 0) :
    Completes (.codeDensityDone u hist delays drv stb tdc) s fun t =>
      (t.inst (instKey 0x0D (s.tdcUnit u).1 (s.tdcUnit u).2)).force = true ∧ (t.inst (instKey 0x0D (s.tdcUnit u).1 (s.tdcUnit u).2)).detail = 0 ∧
      Frame rejectTouch s t := by
  have hx := exec_codeDensityDone_rejected (delays := delays) (drv := drv) (stb := stb) (tdc := tdc) ha hs hh
  have hexact : Exact rejectTouch s (s.acqDone u) := (Exact.refl _ s).acqDone u fun _ _ => rfl
  have hinst : (s.acqDone u).inst (instKey 0x0D (s.tdcUnit u).1 (s.tdcUnit u).2) = s.inst (instKey 0x0D (s.tdcUnit u).1 (s.tdcUnit u).2) := by
    obtain ⟨l, hl⟩ := s.acqDone_eq u
    rw [hl]
    rfl
  have hlevel : (s.acqDone u).getF (4 * 0x0D) FLT_CLASS.LEVEL = 0 := by
    obtain ⟨l, hacq⟩ := s.acqDone_eq u
    rw [hacq]
    exact hl
  rw [State.detect_pale hlevel] at hx
  obtain ⟨hforce, hdetail⟩ := (s.acqDone u).detectAt_shows 0x0D (s.tdcUnit u).1 (s.tdcUnit u).2 0 0 (momentary 0x0D)
  have hpale : rejectTouch.Pale 0x0D := ⟨Or.inl rfl, Or.inr rfl, fun _ _ => rfl, fun _ _ => rfl, fun _ _ => rfl⟩
  refine completes_done hx ⟨?_, ?_, (hexact.detectPale hpale 0 _ (by rw [hinst]; exact hf)).settled⟩
  · rw [State.settled_inst]
    exact hforce
  · rw [State.settled_inst]
    exact hdetail

end

/-! ### The rows -/

/-- Settles O36, event by event. -/
theorem stampRows : Obligations.StampRows := by
  intro s
  refine ⟨?_, fun t => stampBufferWrite_none, ?_, fun t x => stbRestart_row, fun u line => dllLock_row, fun u line => dllLock_none,
    fun u line k => dllUnlock_row, fun u line => dllUnlock_none, ?_, ?_, ?_⟩
  · rintro u src rising q dead _ _ rfl rfl
    refine ⟨tdcStamp_refused, ?_, ?_, tdcStamp_lost⟩
    · rintro hc ht rfl hd hl
      exact tdcStamp_taken hc ht hd hl
    · rintro hc ht rfl hd
      exact tdcStamp_shown hc ht hd
  · rintro t l _ _ k x xs hl rfl hj hx hlen hd rfl hk hen hn hs hg hlost he
    exact stampBufferWrite_one hl hj hx hlen hd hk.symm hen hn hs hg hlost he
  · intro u hist delays drv stb tdc k
    refine ⟨codeDensityDone_none, ?_⟩
    rintro ha hs hlen hall rfl
    have hh := (histOk_iff hist).2 ⟨hlen, hall⟩
    exact ⟨codeDensityDone_staged ha hs hh, codeDensityDone_boot ha hs hh⟩
  · rintro delays f _ hne rfl hf
    rw [inverseTable_getD delays hf]
    exact nearestTap_nearest f hne
  · rintro u hist delays drv stb tdc _ ha hs hbad rfl hf hl
    exact codeDensityDone_rejected ha hs (histOk_false hbad) hf hl

end Sys2Proof.Machine
end

section
/-! PROOFS. Cobalt contexts (chapter 7). Settles O38 and O39. Both range over every state, also over states that no run of the module reaches: one in
which a contact check whose CH_CONTACT has ended has yet to leave, and one with a rotation at a channel number that the module does not have. -/

namespace Sys2Proof.Machine

open Sys2Proof (Instr)

/-! ### A run that starts at a channel whose check leaves -/

/-- Context x of tile t in RUN: its leaders' engines run, their first vector due at p, and the first period of each has begun. -/
def State.ctxStarted (s : State) (t x p : Nat) (seen : List (List (List (Bool × Bool)))) : State :=
  let s := s.setF (ctxB t x) APG_CTX_STATUS.STATE 2
  let ls := s.ctxLeaders t x
  let s := ls.foldl (fun s c => (s.modEng c fun e => { e with next := p }).setEngState c 1) s
  ls.zipIdx.foldl (fun s e => s.period e.1 (seen.getD e.2 [])) s

/-- A context in START that waits for nothing, and whose end is not due, starts at once. -/
theorem apgRunStart_now {t : Fin 8} {x : Fin 4} {s : State} (seen : List (List (List (Bool × Bool))))
    (hst : s.getF (ctxB t x) APG_CTX_STATUS.STATE = 1) (hs : (s.ctx t x).start = 0) (hf : (s.ctx t x).fin = none) :
    exec (.apgRunStart t x seen) s = done (s.ctxStarted t x s.linNow seen) := by
  show execApgRunStart t x seen s = _
  simp [execApgRunStart, State.ctxStarted, hst, hs, hf]

/-- `leavingRun` with channel 3 as group 5 of tile 0, bound to context 1 in START. -/
def startingContext : State :=
  (((leavingRun 0 fun e => { e with ctx := some 1 }).setFs (chB 3) [(CHN_SEQ_GRP.BOUND, 1), (CHN_SEQ_GRP.LEADER, 1), (CHN_SEQ_GRP.GROUP, 5),
    (CHN_SEQ_STATUS.STATE, 5)]).setFs
      (ctxB 0 1) [(APG_CTX_GRPS.GROUPS, 2 ^ 5), (APG_CTX_STATUS.STATE, 1)]).modCtx 0 1 fun k => { k with run := some ⟨1, 7⟩ }

/-- Refutes O38: the clause on APG_RUN_START says that a leader's engine stands but for the time of its next vector, and does not ask, as the frame
does, that no contact check stands at its channel. In `startingContext` the check leaves channel 3 in the moment in which its run starts (log entry
55): its front-end loads PAT mode, and the pattern driver, which stood high, connects high-Z (R30). -/
theorem not_cobaltRunRows : ¬ Obligations.CobaltRunRows := by
  intro h
  obtain ⟨-, -, -, hstart, -⟩ := h ⟨1, 7⟩ jumpCmd startingContext
  obtain ⟨-, hrun⟩ := hstart 0 1 [] _ _ rfl
  have hst : startingContext.getF (ctxB 0 1) APG_CTX_STATUS.STATE = 1 := by decide +kernel
  have hs : (startingContext.ctx 0 1).start = 0 := by decide +kernel
  have hf : (startingContext.ctx 0 1).fin = none := by decide +kernel
  obtain ⟨t, ht, -, heng, -⟩ := hrun hst (.inl fun hwait => absurd (hs.symm.trans hwait) (by decide)) hf (by decide +kernel) rfl
  obtain ⟨hstill, -⟩ := heng 3 (by decide +kernel)
  exact not_still_of_checkLeaves ht (apgRunStart_now [] hst hs hf) (by decide +kernel) (by decide +kernel) hstill

/-! ### A detection that reaches a rotation at a channel which the module does not have -/

/-- An instruction with an error is not executed: the end of its context's run is due with that error. -/
theorem apgInstruction_error {t : Fin 8} {x : Fin 4} {s : State} {n : Nat}
    (hst : s.getF (ctxB t x) APG_CTX_STATUS.STATE = 1) (hf : (s.ctx t x).fin = none) (hq : ∀ c ∈ s.ctxLeaders t x, (s.eng c).queue.length < 32)
    (he : s.apgErr t x (s.sramN (apgBase t + 16 * s.getF (ctxB t x) APG_CTX_STATUS.PC) 16) = some n) :
    exec (.apgInstruction t x) s = done (s.ctxFin t x (.error 0 n)) := by
  have hroom : ¬ (s.ctxLeaders t x).any (fun c => decide (32 ≤ (s.eng c).queue.length)) = true := by
    simpa using hq
  show execApgInstruction t x s = _
  simp [execApgInstruction, hst, hf, he, hroom]

/-- The channel number whose CAL_FE_STATE register would lie where context 1 of tile 0 has its APG_CTX_GRPS. -/
def farChannel : Nat := (ctxB 0 1 + APG_CTX_GRPS.GROUPS.off - CAL_FE_STATE.OWED.off) / 4

/-- The APG_RUN of context 1 of tile 0. -/
def farRun : Cmd := { sq := 1, tag := 7, op := opAPGRUN, words := [], admitted := true, started := true, chans := [3] }

/-- A READY module with that run in START: its PC lies below its window, class 0x13 is at Black, and a rotation is under way at `farChannel`. -/
def farRotation : State :=
  ((((({ State.reset with inReset := false, cmds := [farRun], rots := [(shadeOf farChannel, { active := true, chan := farChannel })] }.setF 0
    GLB_STATUS.STATE stREADY).setF (4 * 0x13) FLT_CLASS.LEVEL 3).setFs (chB 3) [(CHN_SEQ_GRP.BOUND, 1), (CHN_SEQ_GRP.LEADER, 1),
      (CHN_SEQ_GRP.GROUP, 5), (CHN_SEQ_STATUS.STATE, 5)]).setFs (ctxB 0 1) [(APG_CTX_GRPS.GROUPS, 2 ^ 5), (APG_CTX_STATUS.STATE, 1),
        (APG_CTX_WIN.LO, 1), (APG_CTX_WIN.HI, 100)]).modEng 3 fun e => { e with run := some ⟨1, 7⟩, ctx := some 1 }).modCtx 0 1
          fun k => { k with run := some ⟨1, 7⟩ }

/-- SAFE abandons that rotation and makes its channel OWED, by a bit of the context's APG_CTX_GRPS. -/
theorem farRotation_ctxFin : (farRotation.ctxFin 0 1 (.error 0 5)).getF (ctxB 0 1) APG_CTX_GRPS.GROUPS ≠ 0 := by
  decide +kernel

/-- Refutes O39: nothing bounds the channel of a rotation. In `farRotation` an instruction outside the context's window ends its run with ERR 5; class
0x13 is at Black, so SAFE abandons the rotation and makes its channel OWED (R220), and the bit set for it lies in the context's APG_CTX_GRPS, which
the clause on errors of a context with nothing queued says is 0. -/
theorem not_cobaltInstructionRows : ¬ Obligations.CobaltInstructionRows := by
  intro h
  have hst : farRotation.getF (ctxB 0 1) APG_CTX_STATUS.STATE = 1 := by decide +kernel
  have hf : (farRotation.ctx 0 1).fin = none := by decide +kernel
  have hq : ∀ c ∈ farRotation.ctxLeaders 0 1, (farRotation.eng c).queue.length < 32 := by decide +kernel
  have hpc : farRotation.getF (ctxB 0 1) APG_CTX_STATUS.PC < farRotation.getF (ctxB 0 1) APG_CTX_WIN.LO := by decide +kernel
  have hcmd : farRotation.cmd? ⟨1, 7⟩ = some farRun := by decide +kernel
  obtain ⟨-, hruns⟩ := h 0 1 farRotation _ _ _ _ rfl rfl rfl rfl
  obtain ⟨herror, -⟩ := hruns (.inl hst) hf (by decide +kernel) hq
  obtain ⟨-, hempty⟩ := herror 5 (.inl ⟨.inl hpc, rfl⟩)
  obtain ⟨t, ht, -, hgroups, -⟩ := hempty ⟨1, 7⟩ farRun hst (by decide +kernel) (by decide +kernel) hcmd
  have hx := apgInstruction_error (t := 0) (x := 1) (n := 5) hst hf hq (by simp [State.apgErr, show _ < _ from hpc])
  rw [eq_settled (ht.symm.trans hx)] at hgroups
  exact farRotation_ctxFin ((State.settled_getF _ (by decide)).symm.trans hgroups)

end Sys2Proof.Machine
end

section
/-! SUPPORT. A frame that leaves out the registers which follow a command; a fold at whose steps one tile changes; pulses of TRIG lines. -/

namespace Sys2Proof.Machine

open Sys2Proof (Instr)

variable {w : Touch} {s z t : State}

/-! ### Registers that follow a command -/

/-- A register of no tile, other than GLB_STATUS, that follows a command (log entry 55): no frame speaks of it. -/
def unframed (a : Nat) : Prop := follows a = true ∧ a < 0x800000 ∧ a ≠ 0x10

/-- What w lets change, and the registers of which no frame speaks. -/
def Touch.loose (w : Touch) : Touch := { w with regs := fun a => w.regs a ∨ unframed a }

theorem Frame.tight (h : Frame w.loose s t) : Frame w s t where
  regs a ha hf := h.regs a (fun e => e.elim ha fun g => Bool.false_ne_true (hf.symm.trans g.1)) hf
  status h0 := h.status fun e => e.elim h0 fun g => g.2.2 rfl
  sram := h.sram
  flash := h.flash
  host := h.host
  fes u hu hc := by
    obtain ⟨hfe, hrd⟩ := h.fes u hu hc
    exact ⟨hfe, fun o ho hr => hrd o ho fun e => e.elim hr fun g => absurd g.2.1 (Nat.not_lt.2 (le_feB u o))⟩
  adcs := h.adcs
  engs := h.engs
  ports := h.ports
  parts := h.parts

/-- The frame of a meaning that also changes registers which follow a command. -/
theorem Exact.settledTight (h : Exact w.loose s z) : Frame w s z.settled := h.settled.tight

/-- The latches of IRQ_LATCH follow a command (R342). -/
theorem unframed_latch : unframed 0x200010 := ⟨by decide, by decide, by decide⟩

/-! ### Folds over tiles -/

/-- In a fold over a list without repetition, the step at x turns P into Q, where the other steps keep both. -/
theorem foldl_at {α : Type} {f : State → α → State} {P Q : State → Prop} {l : List α} {x : α} (hm : x ∈ l) (hd : l.Nodup)
    (hP : ∀ y k, k ∈ l → k ≠ x → P y → P (f y k)) (hx : ∀ y, P y → Q (f y x)) (hQ : ∀ y k, k ∈ l → k ≠ x → Q y → Q (f y k))
    (h : P s) : Q (l.foldl f s) := by
  obtain ⟨pre, post, rfl⟩ := List.append_of_mem hm
  obtain ⟨-, ⟨hpost, -⟩, hpre⟩ : pre.Nodup ∧ (x ∉ post ∧ post.Nodup) ∧ _ := by simpa [List.nodup_append] using hd
  rw [List.foldl_append, List.foldl_cons]
  have hbefore : P (pre.foldl f s) := foldl_keeps_mem pre h fun y k hk => hP y k (by simp [hk]) fun e => (hpre k hk).1 (e ▸ rfl)
  exact foldl_keeps_mem post (hx _ hbefore) fun y k hk => hQ y k (by simp [hk]) fun e => hpost (e ▸ hk)

theorem State.settled_trig (s : State) (t : Nat) : s.settled.trig t = s.trig t := by
  unfold State.trig
  rw [State.settled_trigs]

/-! ### Pulses of TRIG lines (R200, R201) -/

/-- s with other pulses. -/
def State.withPulses (s : State) (p : List (Nat × Nat)) : State := { s with pulses := p }

theorem Exact.withPulses {w : Touch} (h : Exact w s z) (p : List (Nat × Nat)) (hp : ∀ x p, w.parts { x with pulses := p } = w.parts x) :
    Exact w s (z.withPulses p) := h.congr (hp z.parts p) rfl rfl rfl rfl rfl rfl rfl rfl

/-- Several lines pulse; c, the start, does not depend on pulses. -/
theorem State.foldl_pulse {c : State → Nat} (hc : ∀ x p, c (State.withPulses x p) = c x) (l : List Nat) (s : State) :
    ∃ p, l.foldl (fun y n => y.pulse n (c y)) s = s.withPulses p ∧
      ∀ n, tabGet (fun _ => 0) p n = if n ∈ l then c s + 32 else tabGet (fun _ => 0) s.pulses n := by
  induction l generalizing s with
  | nil => exact ⟨s.pulses, rfl, fun n => by simp⟩
  | cons a l ih =>
    obtain ⟨p, hp, hn⟩ := ih (s.pulse a (c s))
    refine ⟨p, hp, fun n => (hn n).trans ?_⟩
    have hcs : c (s.pulse a (c s)) = c s := hc _ _
    rw [hcs]
    by_cases hl : n ∈ l
    · rw [if_pos hl, if_pos (List.mem_cons_of_mem _ hl)]
    · rw [if_neg hl]
      refine (tabGet_tabSet (fun _ => 0) s.pulses a n (c s + 32)).trans ?_
      simp [hl, eq_comm]

end Sys2Proof.Machine
end

section
/-! PROOFS. The SYNC and TRIG lines, the epoch, calibration time (R181 to R186, R188, R200, R201, R207). Settles O40. -/

namespace Sys2Proof.Machine

open Sys2Proof (Instr)

variable {s z : State}

/-! ### Writes of GLB and CAL registers -/

theorem State.writeReg_syncCtrl (x : Word) (hw : s.writeOk GLB_SYNC_CTRL.ARM.off = true) : s.writeReg 0 GLB_SYNC_CTRL.ARM x = s.syncCtrl x :=
  if_neg (not_not.2 hw)

theorem State.writeReg_trigPulse (x : Word) (hw : s.writeOk GLB_TRIG_CTRL.PULSE.off = true) : s.writeReg 0 GLB_TRIG_CTRL.PULSE x = s.trigPulse x :=
  if_neg (not_not.2 hw)

theorem State.writeReg_calNowHi (x : Word) (hw : s.writeOk CAL_NOW_HI.SEC.off = true) : s.writeReg 0 CAL_NOW_HI.SEC x = s.calNowHi x :=
  if_neg (not_not.2 hw)

/-- GLB_SYNC_STATUS does not follow a command. -/
theorem State.settled_sync (s : State) {f : Fld} (ho : f.off = 0x44) : s.settled.getF 0 f = s.getF 0 f :=
  s.settled_getF (by rw [ho]; decide)

theorem State.settled_syncSet (s : State) {f : Fld} (ho : f.off = 0x44) : s.settled.isSet 0 f = s.isSet 0 f :=
  State.isSet_of_getF (s.settled_sync ho)

/-! ### GLB_SYNC_CTRL (R181 to R183) -/

/-- One action of GLB_SYNC_CTRL: of the three bits p, a and i of the word written. -/
theorem State.syncCtrl_eq {x : Word} {p a i : Nat} (hp : GLB_SYNC_CTRL.APPLY.get x = p) (ha : GLB_SYNC_CTRL.ARM.get x = a)
    (hi : GLB_SYNC_CTRL.INVAL.get x = i) : s.syncCtrl x =
      let y := if p = 1 then s.syncApply else s
      let y := if a = 1 then y.syncArm else y
      if i = 1 then y.syncInval else y := by
  subst hp ha hi
  rfl

theorem syncArm_row (x : Word) (hw : s.writeOk GLB_SYNC_CTRL.ARM.off = true) (hp : GLB_SYNC_CTRL.APPLY.get x = 0)
    (hi : GLB_SYNC_CTRL.INVAL.get x = 0) : Completes (.syncArm x) s fun t =>
    t.syncArmed = true ∧ t.isSet 0 GLB_SYNC_STATUS.SEEN = false ∧ t.getF 0 GLB_SYNC_STATUS.EXTRA = 0 ∧
      Frame { regs := fun a => a = GLB_SYNC_STATUS.SEEN.off, parts := fun x => { x with syncArmed := false } } s t := by
  have hx : exec (.syncArm x) s = done s.syncArm :=
    congrArg done ((s.writeReg_syncCtrl _ hw).trans (State.syncCtrl_eq (p := 0) (a := 1) (i := 0) ((Fld.get_put_disj _ _ (by decide) _ _).trans hp)
      (Fld.get_put _ (by decide) _ _) ((Fld.get_put_disj _ _ (by decide) _ _).trans hi)))
  refine completes_done hx ⟨State.settled_syncArmed _, ?_, ?_, ?_⟩
  · rw [State.settled_syncSet _ rfl]
    exact (State.isSet_setF_disj _ 0 GLB_SYNC_STATUS.EXTRA GLB_SYNC_STATUS.SEEN 0 rfl (by decide)).trans
      (State.isSet_setF_self _ 0 GLB_SYNC_STATUS.SEEN 0 (by decide))
  · rw [State.settled_sync _ rfl]
    exact State.getF_setF_self _ 0 GLB_SYNC_STATUS.EXTRA 0 (by decide)
  · refine Exact.settled (Exact.congr (t := s.setFs 0 [(GLB_SYNC_STATUS.SEEN, 0), (GLB_SYNC_STATUS.EXTRA, 0)]) ?_ rfl rfl rfl rfl rfl rfl rfl rfl rfl)
    exact ((Exact.refl _ s).setF 0 rfl).setF 0 rfl

/-- SYNC_APPLY, one action alone, acts as its bit says. -/
theorem syncApply_exec (x : Word) (hw : s.writeOk GLB_SYNC_CTRL.ARM.off = true) (ha : GLB_SYNC_CTRL.ARM.get x = 0)
    (hi : GLB_SYNC_CTRL.INVAL.get x = 0) : exec (.syncApply x) s = done s.syncApply :=
  congrArg done ((s.writeReg_syncCtrl _ hw).trans (State.syncCtrl_eq (p := 1) (a := 0) (i := 0) (Fld.get_put _ (by decide) _ _)
    ((Fld.get_put_disj _ _ (by decide) _ _).trans ha) ((Fld.get_put_disj _ _ (by decide) _ _).trans hi)))

/-- The epoch time base: TB with a skew of d in fine steps added (R182, R184). -/
def State.withSkew (s : State) (d : Int) : State := { s with tb := unsigned 56 ((s.tb : Int) + d / 200) }

theorem State.syncApply_open (s : State) {d : Int} (hm : s.mode = stREADY ∨ s.mode = stSERVICE)
    (hd : d = signed 64 (s.rd64 GLB_SYNC_SKEW_LO.SKEW.off)) :
    s.syncApply = (s.withSkew d).setFs 0 [(GLB_SYNC_STATUS.EPH, (d % 200).toNat), (GLB_STATUS.EPOCH_VALID, 1)] := by
  subst hd
  exact if_neg fun h => hm.elim h.1 h.2

theorem syncApply_row (x : Word) {d : Int} (hw : s.writeOk GLB_SYNC_CTRL.ARM.off = true) (ha : GLB_SYNC_CTRL.ARM.get x = 0)
    (hi : GLB_SYNC_CTRL.INVAL.get x = 0) (hm : s.mode = stREADY ∨ s.mode = stSERVICE) (hd : d = signed 64 (s.rd64 GLB_SYNC_SKEW_LO.SKEW.off)) :
    Completes (.syncApply x) s fun t =>
      t.tb = ((s.tb + d / 200) % 2 ^ 56).toNat ∧ t.getF 0 GLB_SYNC_STATUS.EPH = (d % 200).toNat ∧ t.isSet 0 GLB_STATUS.EPOCH_VALID = true ∧
        Frame { regs := fun a => a = GLB_SYNC_STATUS.EPH.off ∨ a = GLB_STATUS.EPOCH_VALID.off, parts := fun x => { x with tb := 0 } } s t := by
  have hx := syncApply_exec x hw ha hi
  rw [s.syncApply_open hm hd] at hx
  refine completes_done hx ⟨?_, ?_, ?_, ?_⟩
  · rw [State.settled_tb]
    show unsigned 56 (s.tb + d / 200) = _
    rw [unsigned, Nat.cast_pow, Nat.cast_ofNat]
  · rw [State.settled_sync _ rfl]
    refine (State.getF_setF_off _ 0 (by decide) 1).trans ((State.getF_setF_self _ 0 GLB_SYNC_STATUS.EPH _ (by decide)).trans (Nat.mod_eq_of_lt ?_))
    dsimp only
    omega
  · rw [State.settled_glbSet _ rfl (by decide)]
    exact State.isSet_setF_self _ 0 GLB_STATUS.EPOCH_VALID 1 (by decide)
  · have h : Exact { regs := fun a => a = GLB_SYNC_STATUS.EPH.off ∨ a = GLB_STATUS.EPOCH_VALID.off, parts := fun x => { x with tb := 0 } }
        s (s.withSkew d) :=
      (Exact.refl _ s).congr rfl rfl rfl rfl rfl rfl rfl rfl rfl
    exact ((h.setF _ (.inl rfl)).setF _ (.inr rfl)).settled

theorem syncApply_ignored_row (x : Word) (hw : s.writeOk GLB_SYNC_CTRL.ARM.off = true) (ha : GLB_SYNC_CTRL.ARM.get x = 0)
    (hi : GLB_SYNC_CTRL.INVAL.get x = 0) (hr : s.mode ≠ stREADY) (hv : s.mode ≠ stSERVICE) : Completes (.syncApply x) s fun t =>
    t.isSet 0 GLB_SYNC_STATUS.APIGN = true ∧ Frame { regs := fun a => a = GLB_SYNC_STATUS.APIGN.off } s t := by
  have hx : exec (.syncApply x) s = done (s.setF 0 GLB_SYNC_STATUS.APIGN 1) := (syncApply_exec x hw ha hi).trans (congrArg done (if_pos ⟨hr, hv⟩))
  refine completes_done hx ⟨?_, ((Exact.refl _ s).setF 1 rfl).settled⟩
  rw [State.settled_syncSet _ rfl]
  exact State.isSet_setF_self _ 0 GLB_SYNC_STATUS.APIGN 1 (by decide)

theorem syncInval_row (x : Word) (hw : s.writeOk GLB_SYNC_CTRL.ARM.off = true) (ha : GLB_SYNC_CTRL.ARM.get x = 0)
    (hp : GLB_SYNC_CTRL.APPLY.get x = 0) : Completes (.syncInval x) s fun t => t.isSet 0 GLB_STATUS.EPOCH_VALID = false ∧
      t.getF 0 GLB_SYNC_STATUS.EPH = 0 ∧ Frame { regs := fun a => a = GLB_SYNC_STATUS.EPH.off ∨ a = GLB_STATUS.EPOCH_VALID.off } s t := by
  have hx : exec (.syncInval x) s = done s.syncInval :=
    congrArg done ((s.writeReg_syncCtrl _ hw).trans (State.syncCtrl_eq (p := 0) (a := 0) (i := 1) ((Fld.get_put_disj _ _ (by decide) _ _).trans hp)
      ((Fld.get_put_disj _ _ (by decide) _ _).trans ha) (Fld.get_put _ (by decide) _ _)))
  refine completes_done hx ⟨?_, ?_, ?_⟩
  · rw [State.settled_glbSet _ rfl (by decide)]
    exact (State.isSet_setF_off _ 0 (by decide) 0).trans (State.isSet_setF_self _ 0 GLB_STATUS.EPOCH_VALID 0 (by decide))
  · rw [State.settled_sync _ rfl]
    exact State.getF_setF_self _ 0 GLB_SYNC_STATUS.EPH 0 (by decide)
  · have h : Exact { regs := fun a => a = GLB_SYNC_STATUS.EPH.off ∨ a = GLB_STATUS.EPOCH_VALID.off } s (s.setF 0 GLB_STATUS.EPOCH_VALID 0) :=
      (Exact.refl _ s).setF 0 (.inr rfl)
    exact (h.setF 0 (.inl rfl)).settled

/-! ### SYNC_EDGE (R181) -/

/-- SEEN is set, with its latch where it was 0. -/
def State.syncSeen (s : State) : State :=
  if s.isSet 0 GLB_SYNC_STATUS.SEEN then s else (s.setF 0 GLB_SYNC_STATUS.SEEN 1).setF 0 IRQ_LATCH.SYNC 1

theorem State.syncSeen_isSet (s : State) : s.syncSeen.isSet 0 GLB_SYNC_STATUS.SEEN = true := by
  unfold State.syncSeen
  split
  · assumption
  · exact (State.isSet_setF_off _ 0 (by decide) 1).trans (State.isSet_setF_self _ 0 GLB_SYNC_STATUS.SEEN 1 (by decide))

theorem Exact.syncSeen {w : Touch} (h : Exact w.loose s z) (hw : w.regs GLB_SYNC_STATUS.SEEN.off) : Exact w.loose s z.syncSeen :=
  .ite (fun _ => h) fun _ => (h.setF 1 (.inl hw)).setF 1 (.inr unframed_latch)

theorem State.syncSeen_pair (s : State) (a : Nat) : s.syncSeen.pair a = s.pair a :=
  ite_keeps (R := fun x => x.pair a = s.pair a) (fun _ => rfl) fun _ => rfl

/-- The SYNC input waits for no edge. -/
def State.disarmSync (s : State) : State := { s with syncArmed := false }

theorem syncEdge_armed_row (q : Fin 200) (hc : s.clocked = true) (ha : s.syncArmed = true) : Completes (.syncEdge q) s fun t =>
    t.syncArmed = false ∧ t.isSet 0 GLB_SYNC_STATUS.SEEN = true ∧ t.pair GLB_SYNC_STAMP_LO.STAMP.off = stampOf (s.tdcLin 1056 q) ∧
      Frame { regs := fun a => a = GLB_SYNC_STATUS.SEEN.off, parts := fun x => { x with syncArmed := false, pairs := [] } } s t := by
  have hx : exec (.syncEdge q) s = done (s.setPair GLB_SYNC_STAMP_LO.STAMP.off (stampOf (s.tdcLin 1056 q))).syncSeen.disarmSync :=
    (if_neg (not_not.2 hc)).trans (if_pos ha)
  refine completes_done hx ⟨State.settled_syncArmed _, ?_, ?_, ?_⟩
  · rw [State.settled_syncSet _ rfl]
    exact State.syncSeen_isSet _
  · rw [State.settled_pair]
    exact (State.syncSeen_pair _ _).trans (State.pair_setPair_self ..)
  · refine Exact.settledTight (Exact.congr (t := (s.setPair GLB_SYNC_STAMP_LO.STAMP.off (stampOf (s.tdcLin 1056 q))).syncSeen) ?_
      rfl rfl rfl rfl rfl rfl rfl rfl rfl)
    exact ((Exact.refl _ s).setPair _ _ fun _ _ => rfl).syncSeen rfl

theorem syncEdge_extra_row (q : Fin 200) (hc : s.clocked = true) (ha : s.syncArmed = false) (hs : s.isSet 0 GLB_SYNC_STATUS.SEEN = true) :
    Completes (.syncEdge q) s fun t => t.getF 0 GLB_SYNC_STATUS.EXTRA = min (s.getF 0 GLB_SYNC_STATUS.EXTRA + 1) 255 ∧
      Frame { regs := fun a => a = GLB_SYNC_STATUS.EXTRA.off } s t := by
  have hx : exec (.syncEdge q) s = done (s.incSat 0 GLB_SYNC_STATUS.EXTRA 1) :=
    (if_neg (not_not.2 hc)).trans ((if_neg (Bool.eq_false_iff.1 ha)).trans (if_pos hs))
  refine completes_done hx ⟨?_, ((Exact.refl _ s).incSat 1 rfl).settled⟩
  rw [State.settled_sync _ rfl]
  exact State.getF_incSat_self _ 0 1 (by decide)

theorem syncEdge_none_row (q : Fin 200) (h : s.clocked = false ∨ s.syncArmed = false ∧ s.isSet 0 GLB_SYNC_STATUS.SEEN = false) :
    Completes (.syncEdge q) s (Frame {} s) := by
  refine completes_none ?_
  show execSyncEdge q s = _
  unfold execSyncEdge
  obtain hc | ⟨ha, hs⟩ := h
  · rw [if_pos (Bool.eq_false_iff.1 hc)]
  · rw [if_neg (Bool.eq_false_iff.1 ha), if_neg (Bool.eq_false_iff.1 hs), ite_self]

/-! ### TRIG_PULSE (R201) -/

/-- The lines that a write of x to GLB_TRIG_CTRL pulses. -/
def State.pulseLines (s : State) (x : Word) : List Nat :=
  (List.range 4).filter fun n =>
    (GLB_TRIG_CTRL.PULSE.get x).testBit n && (s.lineFunc n == 2 || (s.lineFunc n == 3 && s.domLines (n / 2 + 1)))

theorem State.mem_pulseLines {x : Word} {n : Nat} (hn : n < 4) (hb : (GLB_TRIG_CTRL.PULSE.get x).testBit n = true) (hf : s.lineFunc n = 2) :
    n ∈ s.pulseLines x := by
  simp [State.pulseLines, hn, hb, hf]

theorem State.trigPulse_some {x : Word} (h : s.pulseLines x ≠ []) : s.trigPulse x =
    ((s.pulseLines x).foldl (fun y n => y.pulse n (y.uptime + (4 - y.div % 4))) s).setPair GLB_TRIG_TX_LO.STAMP.off
      (stampOf (((s.pulseLines x).foldl (fun y n => y.pulse n (y.uptime + (4 - y.div % 4))) s).linNow +
        200 * (4 - ((s.pulseLines x).foldl (fun y n => y.pulse n (y.uptime + (4 - y.div % 4))) s).div % 4))) := if_neg h

theorem trigPulse_row (x : Word) (hw : s.writeOk GLB_TRIG_CTRL.PULSE.off = true)
    (h : ∃ n < 4, (GLB_TRIG_CTRL.PULSE.get x).testBit n = true ∧ s.lineFunc n = 2) : Completes (.trigPulse x) s fun t =>
    t.pair GLB_TRIG_TX_LO.STAMP.off = stampOf (s.linNow + 200 * (4 - s.div % 4) : Nat) ∧
      (∀ n < 4, (GLB_TRIG_CTRL.PULSE.get x).testBit n = true → s.lineFunc n = 2 →
        tabGet (fun _ => 0) t.pulses n = s.uptime + (4 - s.div % 4) + 32) ∧
      Frame { parts := fun x => { x with pairs := [], pulses := [] } } s t := by
  obtain ⟨m, hm, hb, hf⟩ := h
  have hx : exec (.trigPulse x) s = done (s.trigPulse x) := congrArg done (s.writeReg_trigPulse _ hw)
  obtain ⟨p, hp, hpulse⟩ := s.foldl_pulse (c := fun y => y.uptime + (4 - y.div % 4)) (fun _ _ => rfl) (s.pulseLines x)
  rw [State.trigPulse_some (List.ne_nil_of_mem (State.mem_pulseLines hm hb hf)), hp] at hx
  refine completes_done hx ⟨?_, fun n hn hbit hfn => ?_, ?_⟩
  · rw [State.settled_pair, State.pair_setPair_self]
    refine congrArg stampOf ?_
    show (s.linNow : Int) + 200 * (4 - (s.div : Int) % 4) = _
    omega
  · rw [State.settled_pulses]
    exact (hpulse n).trans (if_pos (State.mem_pulseLines hn hbit hfn))
  · exact (((Exact.refl _ s).withPulses p fun _ _ => rfl).setPair _ _ fun _ _ => rfl).settled

theorem trigPulse_none_row (x : Word) (hw : s.writeOk GLB_TRIG_CTRL.PULSE.off = true)
    (h : ∀ n < 4, (GLB_TRIG_CTRL.PULSE.get x).testBit n = true → s.lineFunc n ≠ 2 ∧ s.lineFunc n ≠ 3) :
    Completes (.trigPulse x) s (Frame {} s) := by
  have hl : s.pulseLines x = [] := by
    refine List.filter_eq_nil_iff.2 fun n hn e => ?_
    rw [Bool.and_eq_true] at e
    obtain ⟨h2, h3⟩ := h n (List.mem_range.1 hn) e.1
    simp [h2, h3] at e
  exact completes_none (congrArg done ((s.writeReg_trigPulse _ hw).trans (if_pos hl)))

/-! ### Offers (R188, R189) -/

/-- A slot that has an offer keeps one. -/
theorem Trig.take_keeps (g : Trig) (o : Offer) {n : Nat} (h : g.offers.any (fun p => p.slot == n) = true) :
    (g.take o).offers.any (fun p => p.slot == n) = true := by
  unfold Trig.take
  split
  · simp only [List.any_append, h, Bool.true_or]
  · split
    · obtain ⟨p, hp, hn⟩ := List.any_eq_true.1 h
      refine List.any_eq_true.2 ⟨if p.slot = o.slot then o else p, List.mem_map.2 ⟨p, hp, rfl⟩, ?_⟩
      split
      · rename_i e
        rwa [← e]
      · exact hn
    · exact h

/-- A slot that takes an offer has one. -/
theorem Trig.take_takes (g : Trig) (o : Offer) : (g.take o).offers.any (fun p => p.slot == o.slot) = true := by
  unfold Trig.take
  split
  · simp
  · rename_i p hp
    have hs := List.find?_some hp
    have hm := List.mem_of_find?_eq_some hp
    simp only [decide_eq_true_eq] at hs
    split
    · exact List.any_eq_true.2 ⟨o, List.mem_map.2 ⟨p, hm, if_pos hs⟩, by simp⟩
    · exact List.any_eq_true.2 ⟨p, hm, by simp [hs]⟩

theorem Trig.foldl_take (l : List Nat) (g : Trig) {o : Nat → Offer} (ho : ∀ n, (o n).slot = n) {n : Nat}
    (h : n ∈ l ∨ g.offers.any (fun p => p.slot == n) = true) : ((l.foldl (fun g n => g.take (o n)) g).offers.any fun p => p.slot == n) = true := by
  induction l generalizing g with
  | nil => exact h.resolve_left List.not_mem_nil
  | cons a l ih =>
    refine ih _ ?_
    obtain hm | hg := h
    · obtain rfl | hl := List.mem_cons.1 hm
      · have := g.take_takes (o n)
        rw [ho n] at this
        exact .inr this
      · exact .inl hl
    · exact .inr (g.take_keeps _ hg)

theorem State.offer_trig_ne (s : State) {t x : Nat} (h : t ≠ x) (kind unit code tc : Nat) (coarse : Bool) :
    (s.offer t kind unit code tc coarse).trig x = s.trig x := by
  have hne (f : Trig → Trig) : (s.modTrig t f).trig x = s.trig x := (s.trig_modTrig t x f).trans (if_neg h)
  exact ite_keeps (R := fun y => y.trig x = s.trig x) (fun _ => rfl) fun _ => ite_keeps (R := fun y => y.trig x = s.trig x)
    (fun _ => ite_keeps (R := fun y => y.trig x = s.trig x) (fun _ => hne _) fun _ => hne _) fun _ =>
      ite_keeps (R := fun y => y.trig x = s.trig x) (fun _ => hne _) fun _ => rfl

/-- An ARMED unit with no offer of an earlier sample takes the offer at every slot that it meets. -/
theorem State.offer_takes {t kind unit code n : Nat} (hs : s.getF (tileBase t) TRG_STATUS.STATE = 2)
    (ho : (s.trig t).offers = [] ∨ (s.trig t).sample = s.trigSample) (hn : n < 8) (hm : s.slotMet t n kind unit code = true) (tc : Nat) (coarse : Bool) :
    (((s.offer t kind unit code tc coarse).trig t).offers.any fun p => p.slot == n) = true := by
  have hmem : n ∈ (List.range 8).filter fun n => s.slotMet t n kind unit code := List.mem_filter.2 ⟨List.mem_range.2 hn, hm⟩
  have e : s.offer t kind unit code tc coarse = s.modTrig t fun g => ((List.range 8).filter fun n => s.slotMet t n kind unit code).foldl
      (fun g n => g.take ⟨n, unit, tc, coarse⟩) { g with sample := s.trigSample, lastSample := s.trigSample, later := 0 } :=
    (if_neg (List.ne_nil_of_mem hmem)).trans ((if_pos hs).trans (if_pos ho))
  rw [e, State.trig_modTrig_self]
  exact Trig.foldl_take _ _ (o := fun n => ⟨n, unit, tc, coarse⟩) (fun _ => rfl) (.inl hmem)

/-- y is s but for the trigger units of tiles other than x. -/
def State.OtherTrigs (x : Nat) (s y : State) : Prop := (∃ l, y = s.withTrigs l) ∧ y.trig x = s.trig x

theorem State.OtherTrigs.offer {x k : Nat} {y : State} (h : s.OtherTrigs x y) (hk : k ≠ x) (kind unit code tc : Nat) (coarse : Bool) :
    s.OtherTrigs x (y.offer k kind unit code tc coarse) := by
  obtain ⟨⟨l, rfl⟩, hx⟩ := h
  obtain ⟨l', hl'⟩ := State.offer_eq (s.withTrigs l) k kind unit code tc coarse
  exact ⟨⟨l', hl'⟩, (State.offer_trig_ne _ hk ..).trans hx⟩

/-- An edge on a TRIG line offered to every tile. -/
def State.offerLine (s : State) (line code tc : Nat) : State := (List.range 8).foldl (fun y t => y.offer t 5 line code tc false) s

theorem State.offerLine_eq (s : State) (line code tc : Nat) : ∃ l, s.offerLine line code tc = s.withTrigs l :=
  foldl_keeps (R := fun y => ∃ l, y = s.withTrigs l) _ ⟨s.trigs, rfl⟩ fun y k ⟨l, hl⟩ => by
    obtain ⟨l', hl'⟩ := State.offer_eq y k 5 line code tc false
    exact ⟨l', by rw [hl', hl]; rfl⟩

theorem State.offerLine_takes {x line code n : Nat} (hx : x < 8) (hs : s.getF (tileBase x) TRG_STATUS.STATE = 2)
    (ho : (s.trig x).offers = [] ∨ (s.trig x).sample = s.trigSample) (hn : n < 8) (hm : s.slotMet x n 5 line code = true) (tc : Nat) :
    (((s.offerLine line code tc).trig x).offers.any fun p => p.slot == n) = true := by
  refine foldl_at (P := s.OtherTrigs x) (Q := fun y => ((y.trig x).offers.any fun p => p.slot == n) = true) (List.mem_range.2 hx) List.nodup_range
    (fun y k _ hk h => h.offer hk ..) (fun y h => ?_) (fun y k _ hk h => ?_) ⟨⟨s.trigs, rfl⟩, rfl⟩
  · obtain ⟨⟨l, rfl⟩, hu⟩ := h
    exact State.offer_takes (s := s.withTrigs l) hs (by rwa [hu]) hn hm tc false
  · rwa [State.offer_trig_ne _ hk]

/-! ### TRIG_LINE_EDGE (R188, R200, R201) -/

theorem trigLineEdge_row (line : Fin 4) (rising : Bool) (q : Fin 200) (hc : s.clocked = true) (hf : s.lineFunc line = 1) :
    Completes (.trigLineEdge line rising q) s fun t => t.pair (GLB_TRIG_RX_LO.STAMP.off + 8 * line) = stampOf (s.tdcLin (1057 + line) q) ∧
      (∀ x < 8, s.getF (tileBase x) TRG_STATUS.STATE = 2 → ((s.trig x).offers = [] ∨ (s.trig x).sample = s.trigSample) → ∀ n < 8,
        s.slotMet x n 5 line (if rising then 0 else 1) = true → (t.trig x).offers.any fun o => o.slot == n) ∧
      Frame { parts := fun x => { x with pairs := [], trigs := [] } } s t := by
  have hcode : b2n (!rising) = if rising then 0 else 1 := by cases rising <;> rfl
  have hx : exec (.trigLineEdge line rising q) s = done ((s.lineStamp line q).1.offerLine line (if rising then 0 else 1)
      ((s.lineStamp line q).2 % (linW : Int)).toNat) := by
    rw [← hcode]
    exact if_neg fun h => h.elim (absurd hc) (absurd hf)
  obtain ⟨l, hl⟩ := (s.lineStamp line q).1.offerLine_eq line (if rising then 0 else 1) ((s.lineStamp line q).2 % (linW : Int)).toNat
  refine completes_done hx ⟨?_, fun y hy hs ho n hn hm => ?_, ?_⟩
  · rw [State.settled_pair, hl]
    exact State.pair_setPair_self ..
  · rw [State.settled_trig]
    exact State.offerLine_takes (s := (s.lineStamp line q).1) hy hs ho hn hm _
  · rw [hl]
    refine Exact.settled (Exact.congr (t := (s.lineStamp line q).1) ?_ rfl rfl rfl rfl rfl rfl rfl rfl rfl)
    exact (Exact.refl _ s).setPair _ _ fun _ _ => rfl

theorem trigLineEdge_none_row (line : Fin 4) (rising : Bool) (q : Fin 200) (h : s.clocked = false ∨ s.lineFunc line ≠ 1) :
    Completes (.trigLineEdge line rising q) s (Frame {} s) :=
  completes_none (if_pos (h.imp_left Bool.eq_false_iff.1))

/-! ### CAL_TIME_SET (R207) -/

theorem State.settled_calTime (s : State) : s.settled.calTime = s.calTime := by
  unfold State.calTime
  rw [State.settled_calSet, State.settled_uptime, State.settled_calAt, State.settled_cal _ (by decide)]

/-- The calendar time stands at v now (R207). -/
def State.startClock (s : State) (v : Nat) : State := { s with calSet := v, calAt := s.uptime }

theorem calTimeSet_row {x : Word} {v : Nat} (hw : s.writeOk CAL_NOW_HI.SEC.off = true) (hv : v = s.getF 0 CAL_NOW_LO.SEC + 2 ^ 32 * x.toNat)
    (hb : s.calBack ≤ v) (ht : s.calTime ≤ v) : Completes (.calTimeSet x) s fun t => t.calTime = v ∧ t.isSet 0 CAL_STATUS.TIME_SET = true ∧
      Frame { regs := fun a => a = CAL_STATUS.TIME_SET.off, parts := fun x => { x with calSet := 0, calAt := 0 } } s t := by
  subst hv
  have hx : exec (.calTimeSet x) s = done ((s.setF 0 CAL_STATUS.TIME_SET 1).startClock (s.getF 0 CAL_NOW_LO.SEC + 2 ^ 32 * x.toNat)) :=
    congrArg done ((s.writeReg_calNowHi x hw).trans (if_neg fun h => h.elim (Nat.not_lt.2 hb) (Nat.not_lt.2 ht)))
  have hset : ((s.setF 0 CAL_STATUS.TIME_SET 1).startClock (s.getF 0 CAL_NOW_LO.SEC + 2 ^ 32 * x.toNat)).isSet 0 CAL_STATUS.TIME_SET = true :=
    State.isSet_setF_self s 0 CAL_STATUS.TIME_SET 1 (by decide)
  refine completes_done hx ⟨?_, (State.settled_cal _ (by decide)).trans hset, ?_⟩
  · rw [State.settled_calTime, State.calTime, if_pos hset]
    simp [State.startClock]
  · refine Exact.settled (Exact.congr (t := s.setF 0 CAL_STATUS.TIME_SET 1) ?_ rfl rfl rfl rfl rfl rfl rfl rfl rfl)
    exact (Exact.refl _ s).setF 1 rfl

theorem calTimeSet_back_row {x : Word} {v : Nat} (hw : s.writeOk CAL_NOW_HI.SEC.off = true) (hv : v = s.getF 0 CAL_NOW_LO.SEC + 2 ^ 32 * x.toNat)
    (h : v < s.calBack ∨ v < s.calTime) : Completes (.calTimeSet x) s fun t => t.calTime = s.calTime ∧ t.isSet 0 CAL_STATUS.TIME_BACK = true ∧
      Frame { regs := fun a => a = CAL_STATUS.TIME_BACK.off } s t := by
  subst hv
  have hx : exec (.calTimeSet x) s = done (s.setF 0 CAL_STATUS.TIME_BACK 1) := congrArg done ((s.writeReg_calNowHi x hw).trans (if_pos h))
  have hset : (s.setF 0 CAL_STATUS.TIME_BACK 1).isSet 0 CAL_STATUS.TIME_SET = s.isSet 0 CAL_STATUS.TIME_SET :=
    State.isSet_setF_disj s 0 CAL_STATUS.TIME_BACK CAL_STATUS.TIME_SET 1 rfl (by decide)
  refine completes_done hx ⟨?_, (State.settled_cal _ (by decide)).trans (State.isSet_setF_self s 0 CAL_STATUS.TIME_BACK 1 (by decide)),
    ((Exact.refl _ s).setF 1 rfl).settled⟩
  rw [State.settled_calTime, State.calTime, hset]
  rfl

/-- Settles O40, clause by clause: the writes of GLB_SYNC_CTRL with one action, SYNC and TRIG edges, pulses, the setting of the time. An edge on a line
reaches each tile's unit in turn, and the offer to one tile leaves the others' units. -/
theorem syncAndLineRows : Obligations.SyncAndLineRows := by
  unfold Obligations.SyncAndLineRows
  intro s x
  exact ⟨fun hw => ⟨syncArm_row x hw, fun d ha hi => syncApply_row x hw ha hi, syncApply_ignored_row x hw, syncInval_row x hw⟩,
    syncEdge_armed_row, syncEdge_extra_row, syncEdge_none_row, trigPulse_row x, trigPulse_none_row x, trigLineEdge_row, trigLineEdge_none_row,
    fun v hw hv => ⟨calTimeSet_row hw hv, calTimeSet_back_row hw hv⟩⟩

end Sys2Proof.Machine
end

section
/-! SUPPORT. What firing a trigger unit does to the engines of its tile; which of it stands through settling. -/

namespace Sys2Proof.Machine

open Sys2Proof (Instr)

variable {w : Touch} {s z : State}

/-! ### Updates that a frame allows -/

theorem Exact.modTrig (h : Exact w s z) (t : Nat) (f : Trig → Trig) (hp : ∀ x l, w.parts { x with trigs := l } = w.parts x) :
    Exact w s (z.modTrig t f) := h.congr (hp z.parts _) rfl rfl rfl rfl rfl rfl rfl rfl

theorem Exact.modCtx (h : Exact w s z) (t x : Nat) (f : Ctx → Ctx) (hp : ∀ x l, w.parts { x with ctxs := l } = w.parts x) :
    Exact w s (z.modCtx t x f) := h.congr (hp z.parts _) rfl rfl rfl rfl rfl rfl rfl rfl

theorem Exact.incWrap (h : Exact w s z) {b : Nat} {f : Fld} (n : Nat) (ha : w.regs (b + f.off)) : Exact w s (z.incWrap b f n) := h.setF _ ha

/-! ### Engines' marks of a fire (R192) -/

/-- What a fire of tile t's unit changes but for the unit: the tile's engines and contexts, and registers of which no frame speaks. -/
def engTouch (t : Nat) : Touch := { engs := fun c => c / 128 = t, parts := fun x => { x with ctxs := [] } }

/-- Trap registers of engines follow a command. -/
theorem unframed_pend {c : Nat} (h : c < 1024) : unframed (4 * c + 0x21000) := by
  refine ⟨eng_follows h, ?_, ?_⟩ <;> omega

theorem Exact.waitMet (h : Exact w.loose s z) {c : Nat} (hc : c < 1024) (hw : w.engs c) (kind : Nat) : Exact w.loose s (z.waitMet c kind) := by
  unfold State.waitMet
  split
  · exact .ite (fun _ => (h.modEng _ hw).setF _ (.inr (unframed_pend hc))) fun _ => h
  · exact h

theorem State.eng_raiseTrap (s : State) (c k d : Nat) : (s.raiseTrap c k).eng d = s.eng d := State.eng_setF ..

theorem State.waitMet_fired (s : State) (c kind d : Nat) : ((s.waitMet c kind).eng d).fired = (s.eng d).fired := by
  unfold State.waitMet
  split
  · refine ite_keeps (R := fun y => (y.eng d).fired = (s.eng d).fired) (fun _ => ?_) fun _ => rfl
    rw [State.eng_raiseTrap, State.eng_modEng]
    split
    · rename_i e
      subst e
      rfl
    · rfl
  · rfl

/-- One engine learns of the fire of its tile's trigger unit. -/
def State.fireEngine (s : State) (c : Nat) : State :=
  (s.waitMet c 0).modEng c fun e => { e with fired := e.fired || decide (s.engState c = 5) }

/-- The engines of tile t that are not as at reset. -/
def State.tileEngs (s : State) (t : Nat) : List Nat := s.engs.filterMap fun e => if e.1 / 128 = t then some e.1 else none

theorem State.mem_tileEngs {t c : Nat} : c ∈ s.tileEngs t ↔ c ∈ s.engs.map Prod.fst ∧ c / 128 = t := by
  simp only [State.tileEngs, List.mem_filterMap, Option.ite_none_right_eq_some, Option.some.injEq, List.mem_map]
  constructor
  · rintro ⟨e, he, ht, rfl⟩
    exact ⟨⟨e, he, rfl⟩, ht⟩
  · rintro ⟨⟨e, he, rfl⟩, ht⟩
    exact ⟨e, he, ht, rfl⟩

theorem Exact.fireEngine {t c : Nat} (ht : t < 8) (hc : c / 128 = t) (h : Exact (engTouch t).loose s z) : Exact (engTouch t).loose s (z.fireEngine c) :=
  (h.waitMet (w := engTouch t) (by omega) hc 0).modEng _ hc

theorem Exact.fireEngines {t : Nat} (ht : t < 8) (h : Exact (engTouch t).loose s z) : Exact (engTouch t).loose s (z.fireEngines t) :=
  .foldl _ (foldl_keeps_mem (z.tileEngs t) h fun _ _ hc g => g.fireEngine ht (State.mem_tileEngs.1 hc).2) fun _ _ _ g => g.modCtx _ _ _ fun _ _ => rfl

/-- An engine's fire is seen in START, and stays seen. -/
theorem State.fireEngine_fired (s : State) (c d : Nat) (h : (s.eng d).fired = true ∨ c = d ∧ s.engState d = 5) :
    ((s.fireEngine c).eng d).fired = true := by
  unfold State.fireEngine
  rw [State.eng_modEng]
  split
  · rename_i e
    subst e
    obtain hf | ⟨-, h5⟩ := h
    · simp [s.waitMet_fired c 0 c, hf]
    · simp [h5]
  · rename_i e
    exact (s.waitMet_fired c 0 d).trans (h.resolve_right fun g => e g.1)

/-- In a fold that comes to x, the step at x turns P into Q, where every step keeps both. -/
theorem foldl_reaches {α : Type} {f : State → α → State} {P Q : State → Prop} {l : List α} {x : α} (hm : x ∈ l)
    (hP : ∀ y k, k ∈ l → P y → P (f y k)) (hx : ∀ y, P y → Q (f y x)) (hQ : ∀ y k, Q y → Q (f y k)) (h : P s) : Q (l.foldl f s) := by
  obtain ⟨pre, post, rfl⟩ := List.append_of_mem hm
  rw [List.foldl_append, List.foldl_cons]
  exact foldl_keeps post (hx _ (foldl_keeps_mem pre h fun y k hk => hP y k (List.mem_append_left _ hk))) hQ

/-- A run of the tile that waits in START learns that the unit has fired. -/
theorem State.fireEngines_fired {t c : Nat} (ht : t < 8) (hc : c / 128 = t) (h5 : s.engState c = 5) (hr : (s.eng c).run ≠ none) :
    ((s.fireEngines t).eng c).fired = true := by
  have hl : c ∈ s.tileEngs t := by
    refine State.mem_tileEngs.2 ⟨by_contra fun hn => hr ?_, hc⟩
    unfold State.eng
    rw [tabGet_of_not_mem hn]
  refine foldl_keeps (R := fun y => (y.eng c).fired = true) _ ?_ fun _ _ g => g
  refine foldl_reaches (f := State.fireEngine) (P := Exact (engTouch t).loose s) hl (fun y k hk g => g.fireEngine ht (State.mem_tileEngs.1 hk).2)
    (fun y g => y.fireEngine_fired c c (.inr ⟨rfl, (g.getF ?_).trans h5⟩)) (fun y k g => y.fireEngine_fired k c (.inl g)) (Exact.refl _ s)
  rintro (hn | ⟨-, hn, -⟩)
  · exact hn
  · revert hn
    show ¬ chB c + 0x304 < 0x800000
    unfold chB tileBase
    omega

/-! ### Marks of a fire through settling -/

theorem State.sineHold_eng (s : State) (u c : Nat) : (s.sineHold u).eng c = s.eng c := by
  unfold State.sineHold
  exact ite_keeps (R := fun y => (y.sineKill u).eng c = s.eng c) (fun _ => rfl) fun _ => rfl

theorem State.beginStep1_eng (s : State) (u : Nat) (k : SeqKind) (c : Nat) : (s.beginStep1 u k).eng c = s.eng c := s.sineHold_eng u c

theorem State.loadSetting_fired (s : State) (u c : Nat) : ((s.loadSetting u).eng c).fired = (s.eng c).fired := by
  unfold State.loadSetting
  dsimp only
  split
  · rw [State.eng_modEng]
    split
    · rename_i e
      subst e
      rfl
    · rfl
  · rfl

theorem State.contactLeave_fired (s : State) (u c : Nat) : ((s.contactLeave u).eng c).fired = (s.eng c).fired := by
  unfold State.contactLeave
  split
  · rfl
  · refine ite_keeps (R := fun y => (y.eng c).fired = (s.eng c).fired) (fun _ => ite_keeps (R := fun y => (y.eng c).fired = (s.eng c).fired)
      (fun _ => rfl) fun _ => ?_) fun _ => State.loadSetting_fired _ u c
    rw [State.beginStep1_eng]
    rfl

theorem Eng.fired_eq_of_still {d e : Eng} (h : d.still = e.still) : d.fired = e.fired := by
  have hfired := congrArg Eng.fired h
  exact hfired

theorem State.settled_fired (s : State) (c : Nat) : (s.settled.eng c).fired = (s.eng c).fired := by
  have hk : (s.settleContacts.kickAll.eng c).fired = (s.settleContacts.eng c).fired :=
    Eng.fired_eq_of_still ((State.Kicks.refl s.settleContacts).kickAll.eng c).1
  have hc : (s.settleContacts.eng c).fired = (s.eng c).fired :=
    foldl_keeps (R := fun y => (y.eng c).fired = (s.eng c).fired) _ rfl fun y e g => by
      split
      · exact ite_keeps (R := fun y => (y.eng c).fired = (s.eng c).fired) (fun _ => g) fun _ => (y.contactLeave_fired e.1 c).trans g
      · exact g
  unfold State.eng at hk hc ⊢
  rw [s.settled_engs]
  exact hk.trans hc

end Sys2Proof.Machine
end

section
/-! SUPPORT. A trigger unit's fire and record (R189, R192, R193, R197), and what the units of other tiles keep. -/

namespace Sys2Proof.Machine

open Sys2Proof (Instr)

variable {w : Touch} {s y z : State} {x k : Nat} {r : Seg}

/-! ### One unit's fire -/

/-- What a fire of tile k's unit changes. -/
def fireAt (k : Nat) : Touch :=
  { regs := fun a => a = tileBase k + TRG_STATUS.STATE.off ∨ a = tileBase k + TRG_FIRECNT.COUNT.off, engs := fun c => c / 128 = k,
    parts := fun x => { x with trigs := [], ctxs := [], pulses := [] } }

/-- z follows from s by no more than a fire of tile k's unit. -/
structure State.FiresIn (k : Nat) (s z : State) : Prop where
  exact : Exact (fireAt k).loose s z
  trig : ∀ x, x ≠ k → z.trig x = s.trig x

theorem tileBase_ne (h : x ≠ k) {i j : Nat} (hi : i < 0x100000) (hj : j < 0x100000) : tileBase x + i ≠ tileBase k + j := by
  unfold tileBase
  omega

/-- A register that a fire of tile k's unit leaves. -/
theorem State.FiresIn.rd (h : s.FiresIn k z) {a : Nat} (ha : ¬ unframed a) (hk : a < 0x800000 ∨ ∃ j < 0x100000, a = tileBase x + j)
    (hx : x ≠ k) : z.rd a = s.rd a := by
  refine h.exact.regs a fun e => e.elim (fun e => ?_) ha
  obtain hlow | ⟨j, hj, rfl⟩ := hk
  · rcases e with rfl | rfl <;> (unfold tileBase at hlow; omega)
  · exact e.elim (tileBase_ne hx hj (by decide)) (tileBase_ne hx hj (by decide))

namespace State.FiresIn

theorem refl (k : Nat) (s : State) : s.FiresIn k s := ⟨.refl _ s, fun _ _ => rfl⟩

theorem modTrig (h : s.FiresIn k z) (f : Trig → Trig) : s.FiresIn k (z.modTrig k f) :=
  ⟨h.exact.modTrig _ _ fun _ _ => rfl, fun x hx => ((z.trig_modTrig k x f).trans (if_neg (Ne.symm hx))).trans (h.trig x hx)⟩

theorem status (h : s.FiresIn k z) {f : Fld} (hf : f.off = TRG_STATUS.STATE.off) (v : Nat) :
    s.FiresIn k (z.setF (tileBase k) f v) :=
  ⟨h.exact.setF v (.inl (.inl (congrArg (tileBase k + ·) hf))), fun x hx => (State.trig_setF _ _ _ _ x).trans (h.trig x hx)⟩

theorem segClose (h : s.FiresIn k z) : s.FiresIn k (z.segClose k) := by
  unfold State.segClose
  split
  · exact h
  · exact (h.modTrig _).status (f := TRG_STATUS.SEGS) rfl _

theorem ite {c : Prop} [Decidable c] {a b : State} (ha : c → s.FiresIn k a) (hb : ¬ c → s.FiresIn k b) : s.FiresIn k (if c then a else b) :=
  ite_keeps (R := s.FiresIn k) ha hb

end State.FiresIn

/-! ### The parts of a record -/

/-- The trigger record of a trigger r that tile x's unit records now (R197, R198). -/
def State.segOf (s : State) (x : Nat) (r : Seg) : Seg :=
  { r with
    pre := min (s.trig x).wr (s.segRec x - s.post x), short := decide ((s.trig x).wr < s.segRec x - s.post x),
    first := ((s.trig x).wr - min (s.trig x).wr (s.segRec x - s.post x)) % atLeast1 (s.segRec x), count := min (s.trig x).wr (s.segRec x - s.post x),
    gen := s.gen, lane0 := s.lane0 x, eph := s.getF 0 GLB_SYNC_STATUS.EPH, base := s.capStart x + (s.trig x).segs.length * s.segRec x * 8,
    size := s.segRec x }

/-- The unit's present segment has a trigger. -/
def Trig.opened (g : Trig) (r : Seg) (post hold : Nat) : Trig :=
  { g with cur := some r, left := some post, offers := [], later := 0, hold := hold - g.later }

/-- Lines pulse; FIRED, HOLDOFF and the number of fires show. -/
def State.fireShown (s : State) (x : Nat) : State :=
  (((s.outPulses x).setFs (tileBase x) [(TRG_STATUS.FIRED, 1), (TRG_STATUS.STATE, 3)]).incWrap (tileBase x) TRG_FIRECNT.COUNT 1)

/-- The fire is latched for an interrupt and reaches the tile's engines. -/
def State.fireTold (s : State) (x : Nat) : State :=
  (s.setF 0 IRQ_LATCH.FIRE (setBit (s.getF 0 IRQ_LATCH.FIRE) x true)).fireEngines x

/-- A record but for the close of the segment. -/
def State.recordOpen (s : State) (x : Nat) (r : Seg) : State :=
  ((s.modTrig x fun g => g.opened (s.segOf x r) (s.post x) (s.getF (tileBase x) TRG_HOLDOFF.HOLD)).fireShown x).fireTold x

theorem State.trigRecord_eq (s : State) (x : Nat) (r : Seg) : s.trigRecord x r =
    if ((s.recordOpen x r).lane0 x).isNone ∨ (s.recordOpen x r).post x = 0 then (s.recordOpen x r).segClose x else s.recordOpen x r := rfl

theorem State.outPulses_eq (s : State) (x : Nat) : ∃ p, s.outPulses x = s.withPulses p := by
  obtain ⟨p, hp, -⟩ := State.foldl_pulse (c := State.uptime) (fun _ _ => rfl) ((List.range 4).filter fun n =>
    s.lineFunc n == 2 && bits (s.getF 0 GLB_TRIG_CFG.LINES) (8 * n + 6) (8 * n + 4) == x) s
  exact ⟨p, hp⟩

namespace State.FiresIn

theorem fireShown (h : s.FiresIn k z) : s.FiresIn k (z.fireShown k) := by
  unfold State.fireShown
  obtain ⟨p, hp⟩ := z.outPulses_eq k
  rw [hp]
  have g : s.FiresIn k (z.withPulses p) := ⟨h.exact.withPulses p fun _ _ => rfl, h.trig⟩
  have g2 := (g.status (f := TRG_STATUS.FIRED) rfl 1).status (f := TRG_STATUS.STATE) rfl 3
  exact ⟨g2.exact.incWrap 1 (.inl (.inr rfl)), fun x hx => (State.trig_setF _ _ _ _ x).trans (g2.trig x hx)⟩

end State.FiresIn

theorem State.fireTold_exact (hx : x < 8) (s : State) : Exact (engTouch x).loose s (s.fireTold x) :=
  Exact.fireEngines hx ((Exact.refl _ s).setF _ (.inr unframed_latch))

theorem State.fireTold_trigs (hx : x < 8) (s : State) : (s.fireTold x).trigs = s.trigs := by
  have htrigs := congrArg State.trigs (s.fireTold_exact hx).parts
  exact htrigs

theorem State.fireTold_trig (hx : x < 8) (s : State) (t : Nat) : (s.fireTold x).trig t = s.trig t := by
  unfold State.trig
  rw [s.fireTold_trigs hx]

theorem State.FiresIn.fireTold (hk : k < 8) (h : s.FiresIn k z) : s.FiresIn k (z.fireTold k) :=
  ⟨h.exact.trans ((z.fireTold_exact hk).widen (fun _ e => e.imp_left False.elim) (fun _ => id) (fun _ => id) (fun _ => id) (fun _ => id) (fun _ => id)
    (fun _ => id) (fun _ => id) fun _ => rfl), fun t ht => (z.fireTold_trig hk t).trans (h.trig t ht)⟩

theorem State.FiresIn.recordOpen (hk : k < 8) (h : s.FiresIn k z) (r : Seg) : s.FiresIn k (z.recordOpen k r) := ((h.modTrig _).fireShown).fireTold hk

theorem State.FiresIn.trigRecord (hk : k < 8) (h : s.FiresIn k z) (r : Seg) : s.FiresIn k (z.trigRecord k r) := by
  rw [State.trigRecord_eq]
  exact .ite (fun _ => (h.recordOpen hk r).segClose) fun _ => h.recordOpen hk r

/-- A fire that reaches a tile changes no more than a fire of its unit does (R192, R193). -/
theorem State.FiresIn.fireReceive (hk : k < 8) (h : s.FiresIn k z) (tp : Nat) : s.FiresIn k (z.fireReceive k tp) :=
  .ite (fun _ => .ite (fun _ => (h.modTrig _).trigRecord hk _) fun _ => h.modTrig _) fun _ => .ite (fun _ => h.modTrig _) fun _ => h

end Sys2Proof.Machine
end

section
/-! SUPPORT. The record that a fire of a trigger unit leaves (R192, R193, R197), and what lets it stand. -/

namespace Sys2Proof.Machine

open Sys2Proof (Instr)

variable {s y z t : State} {x k : Nat} {r : Seg}

/-! ### What a unit's record is made of -/

/-- The settings of tile x's unit that its record names, and its domain, are those of s. -/
structure State.SameUnit (x : Nat) (s y : State) : Prop where
  lane0 : y.lane0 x = s.lane0 x
  post : y.post x = s.post x
  segRec : y.segRec x = s.segRec x
  capStart : y.capStart x = s.capStart x
  gen : y.gen = s.gen
  eph : y.getF 0 GLB_SYNC_STATUS.EPH = s.getF 0 GLB_SYNC_STATUS.EPH
  dom : y.trigDom x = s.trigDom x

theorem State.lane0_eq (h : ∀ n < 8, y.rd (tileBase x + 4 * n + 0x3080) = s.rd (tileBase x + 4 * n + 0x3080)) : y.lane0 x = s.lane0 x := by
  have hn : ∀ n < 8, y.laneOn x n = s.laneOn x n := fun n hn => by
    unfold State.laneOn State.isSet State.getF
    rw [h n hn]
  exact List.find?_congr fun n hm => hn n (List.mem_range.1 hm)

theorem State.sameUnit_of_rd (hg : ∀ a < 0x800000, ¬ unframed a → y.rd a = s.rd a)
    (ht : ∀ o < 0x10000, o ≠ 0x3004 → o ≠ 0x3014 → y.rd (tileBase x + o) = s.rd (tileBase x + o)) : s.SameUnit x y := by
  have hf {f : Fld} (hlt : f.off < 0x10000) (h1 : f.off ≠ 0x3004) (h2 : f.off ≠ 0x3014) : y.getF (tileBase x) f = s.getF (tileBase x) f :=
    congrArg f.get (ht f.off hlt h1 h2)
  have hlow {f : Fld} (hlt : f.off < 0x800000) (hn : follows f.off = false) : y.getF 0 f = s.getF 0 f :=
    congrArg f.get (hg (0 + f.off) (by omega) fun e => by rw [Nat.zero_add] at e; exact Bool.false_ne_true (hn.symm.trans e.1))
  refine ⟨State.lane0_eq fun n hn => ?_, hf (by decide) (by decide) (by decide), hf (by decide) (by decide) (by decide), ?_,
    hlow (by decide) (by decide), hlow (by decide) (by decide), ?_⟩
  · rw [Nat.add_assoc]
    exact ht _ (by omega) (by omega) (by omega)
  · unfold State.capStart
    rw [hf (f := TIL_CAP_PART.RQSZ) (by decide) (by decide) (by decide), hf (f := TIL_CAP_PART.STBSZ) (by decide) (by decide) (by decide)]
  · unfold State.trigDom
    rw [hf (f := TRG_CTRL.DOM) (by decide) (by decide) (by decide)]

theorem State.FiresIn.sameUnit (h : s.FiresIn k z) (x : Nat) : s.SameUnit x z := by
  refine State.sameUnit_of_rd (fun a ha hn => h.exact.regs a fun e => e.elim (fun g => ?_) hn) fun o ho h1 h2 =>
    h.exact.regs _ fun e => e.elim (fun g => ?_) fun g => ?_
  · rcases g with g | g <;> (unfold tileBase at g; omega)
  · rcases g with g | g
    · have g' : tileBase x + o = tileBase k + 0x3004 := g
      unfold tileBase at g'
      omega
    · have g' : tileBase x + o = tileBase k + 0x3014 := g
      unfold tileBase at g'
      omega
  · have g' := g.2.1
    unfold tileBase at g'
    omega

namespace State.SameUnit

theorem refl (x : Nat) (s : State) : s.SameUnit x s := ⟨rfl, rfl, rfl, rfl, rfl, rfl, rfl⟩

theorem trans (h : s.SameUnit x y) (g : y.SameUnit x z) : s.SameUnit x z :=
  ⟨g.lane0.trans h.lane0, g.post.trans h.post, g.segRec.trans h.segRec, g.capStart.trans h.capStart, g.gen.trans h.gen, g.eph.trans h.eph,
    g.dom.trans h.dom⟩

end State.SameUnit

/-! ### The record -/

theorem State.fireShown_trig (s : State) (x t : Nat) : (s.fireShown x).trig t = s.trig t := by
  unfold State.fireShown State.incWrap
  obtain ⟨p, hp⟩ := s.outPulses_eq x
  rw [hp, State.trig_setF]
  exact State.setFs_eq (fun z => z.trig t) (fun _ _ => rfl) (s.withPulses p) _ _

theorem State.recordOpen_trig (hx : x < 8) (s : State) (r : Seg) :
    (s.recordOpen x r).trig x = (s.trig x).opened (s.segOf x r) (s.post x) (s.getF (tileBase x) TRG_HOLDOFF.HOLD) := by
  unfold State.recordOpen
  rw [State.fireTold_trig hx, State.fireShown_trig, State.trig_modTrig_self]

theorem State.fireTold_getF (hx : x < 8) (s : State) (f : Fld) : (s.fireTold x).getF (tileBase x) f = s.getF (tileBase x) f :=
  (s.fireTold_exact hx).getF fun e => e.elim id fun g => by
    have g' := g.2.1
    unfold tileBase at g'
    omega

theorem State.fireShown_state (s : State) (x : Nat) : (s.fireShown x).getF (tileBase x) TRG_STATUS.STATE = 3 :=
  (State.getF_setF_off _ _ (by decide) _).trans (State.getF_setF_self _ _ TRG_STATUS.STATE 3 (by decide))

theorem State.fireShown_fired (s : State) (x : Nat) : (s.fireShown x).isSet (tileBase x) TRG_STATUS.FIRED = true :=
  (State.isSet_setF_off _ _ (by decide) _).trans ((State.isSet_setF_disj _ _ TRG_STATUS.STATE TRG_STATUS.FIRED 3 rfl (by decide)).trans
    (State.isSet_setF_self _ _ TRG_STATUS.FIRED 1 (by decide)))

theorem State.fireShown_count (s : State) (x : Nat) :
    (s.fireShown x).getF (tileBase x) TRG_FIRECNT.COUNT = (s.getF (tileBase x) TRG_FIRECNT.COUNT + 1) % 2 ^ 32 := by
  obtain ⟨p, hp⟩ := s.outPulses_eq x
  have hc : ((s.withPulses p).setFs (tileBase x) [(TRG_STATUS.FIRED, 1), (TRG_STATUS.STATE, 3)]).getF (tileBase x) TRG_FIRECNT.COUNT =
      s.getF (tileBase x) TRG_FIRECNT.COUNT :=
    (State.getF_setF_off _ _ (by decide) _).trans (State.getF_setF_off _ _ (by decide) _)
  unfold State.fireShown State.incWrap
  rw [hp, hc]
  exact State.getF_setF_self _ _ TRG_FIRECNT.COUNT _ (by decide)

theorem State.fireShown_eng (s : State) (x c : Nat) : (s.fireShown x).eng c = s.eng c := by
  unfold State.fireShown State.incWrap
  obtain ⟨p, hp⟩ := s.outPulses_eq x
  rw [hp, State.eng_setF]
  exact State.setFs_eq (fun z => z.eng c) (fun _ _ => rfl) (s.withPulses p) _ _

/-- A fire leaves the state that an engine's run is in. -/
theorem State.FiresIn.engState (h : s.FiresIn k z) {c : Nat} (hc : c < 1024) : z.engState c = s.engState c := by
  refine h.exact.getF fun e => ?_
  have hoff : CHN_SEQ_STATUS.STATE.off = 0x304 := rfl
  rw [hoff] at e
  rcases e with (g | g) | g
  · have g' : chB c + 0x304 = tileBase k + 0x3004 := g
    unfold chB tileBase at g'
    omega
  · have g' : chB c + 0x304 = tileBase k + 0x3014 := g
    unfold chB tileBase at g'
    omega
  · have g' := g.2.1
    unfold chB tileBase at g'
    omega

theorem State.recordOpen_fired (hx : x < 8) (s : State) (r : Seg) {c : Nat} (hc : c / 128 = x) (h5 : s.engState c = 5) (hr : (s.eng c).run ≠ none) :
    ((s.recordOpen x r).eng c).fired = true := by
  have h : s.FiresIn x ((s.modTrig x fun g => g.opened (s.segOf x r) (s.post x) (s.getF (tileBase x) TRG_HOLDOFF.HOLD)).fireShown x) :=
    ((State.FiresIn.refl x s).modTrig _).fireShown
  have he := State.fireShown_eng (s.modTrig x fun g => g.opened (s.segOf x r) (s.post x) (s.getF (tileBase x) TRG_HOLDOFF.HOLD)) x c
  unfold State.recordOpen State.fireTold
  generalize (s.modTrig x fun g => g.opened (s.segOf x r) (s.post x) (s.getF (tileBase x) TRG_HOLDOFF.HOLD)).fireShown x = z at h he
  refine State.fireEngines_fired hx hc ?_ ?_
  · have hl : (z.setF 0 IRQ_LATCH.FIRE (setBit (z.getF 0 IRQ_LATCH.FIRE) x true)).engState c = z.engState c :=
      State.getF_setF_ne _ (by
        show 0 + 0x200010 ≠ chB c + 0x304
        unfold chB tileBase
        omega) _
    exact hl.trans ((h.engState (by omega)).trans h5)
  · rw [State.eng_setF, he]
    exact hr

/-- The present segment g of a unit closes. -/
def Trig.closed (g : Trig) (r : Seg) : Trig := { g with segs := g.segs ++ [r], cur := none, left := none, wr := 0, tail := [] }

theorem State.segClose_some {g : Seg} (h : (s.trig x).cur = some g) : s.segClose x =
    (s.modTrig x fun u => u.closed g).setF (tileBase x) TRG_STATUS.SEGS ((s.modTrig x fun u => u.closed g).trig x).segs.length := by
  unfold State.segClose
  rw [h]
  rfl

theorem trigRecord_recorded (hx : x < 8) (s : State) (r : Seg) : Recorded x r s (s.trigRecord x r) := by
  have hz : s.FiresIn x (s.recordOpen x r) := (State.FiresIn.refl x s).recordOpen hx r
  have htrig := s.recordOpen_trig hx r
  have hstate : (s.recordOpen x r).getF (tileBase x) TRG_STATUS.STATE = 3 := (State.fireTold_getF hx _ _).trans (State.fireShown_state _ x)
  have hfired : (s.recordOpen x r).isSet (tileBase x) TRG_STATUS.FIRED = true :=
    (congrArg (· != 0) (State.fireTold_getF hx _ TRG_STATUS.FIRED)).trans (State.fireShown_fired _ x)
  have hcount : (s.recordOpen x r).getF (tileBase x) TRG_FIRECNT.COUNT = (s.getF (tileBase x) TRG_FIRECNT.COUNT + 1) % 2 ^ 32 :=
    (State.fireTold_getF hx _ _).trans (State.fireShown_count _ x)
  have hwaits := fun c => s.recordOpen_fired hx r (c := c)
  have hset := hz.sameUnit x
  rw [State.trigRecord_eq, hset.lane0, hset.post]
  generalize s.recordOpen x r = z at hz htrig hstate hfired hcount hwaits
  by_cases hclose : (s.lane0 x).isNone = true ∨ s.post x = 0
  · rw [if_pos hclose, State.segClose_some (g := s.segOf x r) (by rw [htrig]; rfl)]
    have htrig2 : ((z.modTrig x fun u => u.closed (s.segOf x r)).setF (tileBase x) TRG_STATUS.SEGS
        ((z.modTrig x fun u => u.closed (s.segOf x r)).trig x).segs.length).trig x = (z.trig x).closed (s.segOf x r) := by
      rw [State.trig_setF, State.trig_modTrig_self]
    rw [htrig] at htrig2
    refine ⟨?_, ?_, ?_, by rw [htrig2]; rfl,
      ⟨s.segOf x r, rfl, rfl, rfl, rfl, rfl, rfl, rfl, rfl, rfl, rfl, rfl, rfl, rfl, fun hl hp => ?_, fun _ => ?_⟩, ?_⟩
    · exact (State.getF_setF_disj _ _ TRG_STATUS.SEGS TRG_STATUS.STATE _ rfl (by decide)).trans hstate
    · exact (State.isSet_setF_disj _ _ TRG_STATUS.SEGS TRG_STATUS.FIRED _ rfl (by decide)).trans hfired
    · exact (State.getF_setF_off _ _ (by decide) _).trans hcount
    · exact absurd hclose (by simp [hl, hp])
    · rw [htrig2]
      exact ⟨rfl, rfl⟩
    · intro c hc h5 hr
      rw [State.eng_setF]
      exact hwaits c hc h5 hr
  · rw [if_neg hclose]
    rw [not_or, Option.isNone_iff_eq_none] at hclose
    refine ⟨hstate, hfired, hcount, by rw [htrig]; rfl,
      ⟨s.segOf x r, rfl, rfl, rfl, rfl, rfl, rfl, rfl, rfl, rfl, rfl, rfl, rfl, rfl, fun _ _ => ?_, fun h => ?_⟩, hwaits⟩
    · rw [htrig]
      exact ⟨rfl, rfl, rfl⟩
    · exact absurd h (not_or.2 hclose)

end Sys2Proof.Machine
end

section
/-! SUPPORT. Fires of several trigger units in one moment: what each unit records (R189, R192, R193). -/

namespace Sys2Proof.Machine

open Sys2Proof (Instr)

variable {s y z t : State} {x k : Nat} {r : Seg}

/-! ### A unit untouched so far -/

/-- y is s for all that a record of tile x's unit takes up. -/
structure State.SameFor (x : Nat) (s y : State) : Prop where
  unit : s.SameUnit x y
  state : y.getF (tileBase x) TRG_STATUS.STATE = s.getF (tileBase x) TRG_STATUS.STATE
  count : y.getF (tileBase x) TRG_FIRECNT.COUNT = s.getF (tileBase x) TRG_FIRECNT.COUNT
  wr : (y.trig x).wr = (s.trig x).wr
  segs : (y.trig x).segs = (s.trig x).segs
  offers : (y.trig x).offers = (s.trig x).offers
  engState : ∀ c, c / 128 = x → y.engState c = s.engState c
  eng : ∀ c, c / 128 = x → y.eng c = s.eng c

namespace State.SameFor

theorem refl (x : Nat) (s : State) : s.SameFor x s := ⟨.refl x s, rfl, rfl, rfl, rfl, rfl, fun _ _ => rfl, fun _ _ => rfl⟩

theorem trans (h : s.SameFor x y) (g : y.SameFor x z) : s.SameFor x z :=
  ⟨h.unit.trans g.unit, g.state.trans h.state, g.count.trans h.count, g.wr.trans h.wr, g.segs.trans h.segs, g.offers.trans h.offers,
    fun c hc => (g.engState c hc).trans (h.engState c hc), fun c hc => (g.eng c hc).trans (h.eng c hc)⟩

/-- Lines that pulse change nothing for a unit. -/
theorem withPulses (h : s.SameFor x y) (p : List (Nat × Nat)) : s.SameFor x (y.withPulses p) :=
  h.trans ⟨⟨rfl, rfl, rfl, rfl, rfl, rfl, rfl⟩, rfl, rfl, rfl, rfl, rfl, fun _ _ => rfl, fun _ _ => rfl⟩

/-- A stamp that is taken changes nothing for a unit. -/
theorem setPair (h : s.SameFor x y) (a v : Nat) : s.SameFor x (y.setPair a v) :=
  h.trans ⟨⟨rfl, rfl, rfl, rfl, rfl, rfl, rfl⟩, rfl, rfl, rfl, rfl, rfl, fun _ _ => rfl, fun _ _ => rfl⟩

/-- Samples that count for a hold-off change nothing that a unit records. -/
theorem modTrig (h : s.SameFor x y) (f : Trig → Trig) (hf : ∀ g : Trig, (f g).wr = g.wr ∧ (f g).segs = g.segs ∧ (f g).offers = g.offers) :
    s.SameFor x (y.modTrig x f) := by
  obtain ⟨hw, hs, ho⟩ := hf (y.trig x)
  rw [← State.trig_modTrig_self y x f] at hw hs ho
  exact ⟨h.unit.trans ⟨rfl, rfl, rfl, rfl, rfl, rfl, rfl⟩, h.state, h.count, hw.trans h.wr, hs.trans h.segs, ho.trans h.offers, h.engState, h.eng⟩

end State.SameFor

/-- A fire of another tile's unit leaves TRG_STATUS and TRG_FIRECNT. -/
theorem State.FiresIn.getF (h : s.FiresIn k z) (hx : x ≠ k) {f : Fld} (hf : f.off < 0x10000) : z.getF (tileBase x) f = s.getF (tileBase x) f :=
  congrArg f.get (h.rd (fun e => by
    have g := e.2.1
    unfold tileBase at g
    omega) (.inr ⟨f.off, by omega, rfl⟩) hx)

/-- A fire of tile k's unit leaves what the unit of another tile takes up. -/
theorem State.FiresIn.sameFor (h : s.FiresIn k z) (hx : x ≠ k) (hx8 : x < 8) : s.SameFor x z := by
  have htrig := h.trig x hx
  refine ⟨h.sameUnit x, h.getF hx (by decide), h.getF hx (by decide), by rw [htrig], by rw [htrig], by rw [htrig],
    fun c hc => h.engState (by omega), fun c hc => h.exact.engs c fun e => ?_⟩
  have hck : c / 128 = k := e
  exact hx (hc.symm.trans hck)

/-! ### Records that stand -/

/-- A record is the same, seen from a state that is the same for the unit. -/
theorem Recorded.before (h : Recorded x r y t) (g : s.SameFor x y) : Recorded x r s t := by
  obtain ⟨hstate, hfired, hcount, hoffers, hseg, hwaits⟩ := h
  rw [g.wr, g.segs, g.unit.segRec, g.unit.post, g.unit.gen, g.unit.eph, g.unit.capStart, g.unit.lane0] at hseg
  rw [g.count] at hcount
  exact ⟨hstate, hfired, hcount, hoffers, hseg, fun c hc h5 hr => hwaits c hc ((g.engState c hc).trans h5) (by rwa [g.eng c hc])⟩

/-- A record stands where TRG_STATUS, TRG_FIRECNT, the unit and the engines' marks stand. -/
theorem Recorded.after (h : Recorded x r s y) (hf : ∀ f : Fld, f.off < 0x10000 → z.getF (tileBase x) f = y.getF (tileBase x) f)
    (ht : z.trig x = y.trig x) (he : ∀ c, c / 128 = x → (z.eng c).fired = (y.eng c).fired) : Recorded x r s z := by
  obtain ⟨hstate, hfired, hcount, hoffers, hseg, hwaits⟩ := h
  refine ⟨(hf _ (by decide)).trans hstate, (congrArg (· != 0) (hf TRG_STATUS.FIRED (by decide))).trans hfired, (hf _ (by decide)).trans hcount, ?_, ?_,
    fun c hc h5 hr => (he c hc).trans (hwaits c hc h5 hr)⟩
  · rw [ht]
    exact hoffers
  · rw [ht]
    exact hseg

/-- A record stands while other tiles' units fire. -/
theorem Recorded.fires (h : Recorded x r s y) (g : y.FiresIn k z) (hx : x ≠ k) : Recorded x r s z :=
  h.after (fun _ hf => g.getF hx hf) (g.trig x hx) fun c hc => by
    rw [g.exact.engs c fun e => hx (hc.symm.trans e)]

theorem Recorded.settled (h : Recorded x r s y) (hx : x < 8) : Recorded x r s y.settled :=
  h.after (fun _ hf => y.settled_getF (tileBase_follows hx hf)) (y.settled_trig x) fun c _ => y.settled_fired c

/-! ### A fire received (R189, R192) -/

/-- A fire that a unit receives: no condition of its own, the fire's moment. -/
def received (tp : Nat) : Seg := { tp := tp, tc := tp, rcvd := true }

/-- An ARMED unit without an offer records a fire that reaches it. -/
theorem recorded_fireReceive (h : s.SameFor x y) (hx : x < 8) (hs : s.getF (tileBase x) TRG_STATUS.STATE = 2) (ho : (s.trig x).offers = [])
    (tp : Nat) : Recorded x (received tp) s (y.fireReceive x tp) := by
  have e : y.fireReceive x tp = (y.modTrig x fun g => { g with lastSample := y.trigSample, later := 0 }).trigRecord x (received tp) :=
    (if_pos (h.state.trans hs)).trans (if_pos (h.offers.trans ho))
  rw [e]
  exact (trigRecord_recorded hx _ _).before (h.modTrig _ fun _ => ⟨rfl, rfl, rfl⟩)

/-- A fire that reaches the units of the tiles in l, one after the other. -/
def State.fireAll (s : State) (l : List Nat) (tp : Nat) : State := l.foldl (fun y k => y.fireReceive k tp) s

theorem recorded_fireAll {l : List Nat} (hl : ∀ k ∈ l, k < 8) (hd : l.Nodup) (hm : x ∈ l) (h : s.SameFor x y)
    (hs : s.getF (tileBase x) TRG_STATUS.STATE = 2) (ho : (s.trig x).offers = []) (tp : Nat) : Recorded x (received tp) s (y.fireAll l tp) :=
  foldl_at (P := s.SameFor x) hm hd (fun _ k hk hne g => g.trans (((State.FiresIn.refl k _).fireReceive (hl k hk) tp).sameFor hne.symm (hl x hm)))
    (fun _ g => recorded_fireReceive g (hl x hm) hs ho tp) (fun _ k hk hne g => g.fires ((State.FiresIn.refl k _).fireReceive (hl k hk) tp) hne.symm) h

/-- A record of a unit that the fire does not reach stands. -/
theorem Recorded.fireAll {l : List Nat} (h : Recorded x r s y) (hl : ∀ k ∈ l, k < 8) (hm : x ∉ l) (tp : Nat) : Recorded x r s (y.fireAll l tp) :=
  foldl_keeps_mem l h fun _ k hk g => g.fires ((State.FiresIn.refl k _).fireReceive (hl k hk) tp) fun e => hm (e ▸ hk)

/-- A fire of one unit is within what firing units may change. -/
theorem State.FiresIn.fires (h : s.FiresIn k z) (hk : k < 8) : Exact fireTouch.loose s z :=
  h.exact.widen (fun _ e => e.imp_left fun g => ⟨k, hk, g⟩) (fun _ => id) (fun _ => id) (fun _ => id) (fun _ => id) (fun _ => id) (fun _ _ => trivial)
    (fun _ => id) fun _ => rfl

theorem Exact.fireAll {l : List Nat} (h : Exact fireTouch.loose s z) (hl : ∀ k ∈ l, k < 8) (tp : Nat) : Exact fireTouch.loose s (z.fireAll l tp) :=
  foldl_keeps_mem l h fun _ k hk g => g.trans (((State.FiresIn.refl k _).fireReceive (hl k hk) tp).fires (hl k hk))

end Sys2Proof.Machine
end

section
/-! PROOFS. Trigger units: fires and the lines of domains (R189 to R194). -/

namespace Sys2Proof.Machine

open Sys2Proof (Instr)

variable {s y z t : State}

/-! ### TRIGGER_FIRE (R189, R192, R193, R197) -/

/-- The offer of the lowest slot. -/
def Trig.first (g : Trig) : Option Offer := (List.range 8).findSome? fun n => g.offers.find? fun o => o.slot = n

theorem Trig.first_none {g : Trig} (h : g.offers = []) : g.first = none := by
  simp [Trig.first, h]

theorem Trig.first_some {g : Trig} {o : Offer} (hm : o ∈ g.offers) (h8 : o.slot < 8) (hl : ∀ p ∈ g.offers, p = o ∨ o.slot < p.slot) :
    g.first = some o := by
  refine findSome_range h8 ?_ fun i hi => ?_
  · obtain ⟨p, hp⟩ := Option.isSome_iff_exists.1 (List.find?_isSome (p := fun q : Offer => decide (q.slot = o.slot)).2 ⟨o, hm, by simp⟩)
    have hslot := List.find?_some hp
    simp only [decide_eq_true_eq] at hslot
    obtain rfl | hlt := hl p (List.mem_of_find?_eq_some hp)
    · exact hp
    · omega
  · refine List.find?_eq_none.2 fun p hp => ?_
    obtain rfl | hlt := hl p hp
    · simp; omega
    · simp; omega

/-- The trigger that tile x's unit records as it fires with offer o the first (R192, R197). -/
def State.ownSeg (s : State) (x : Nat) (o : Offer) : Seg :=
  { tp := stampOf s.linNow, tc := stampOf o.tc, cause := (s.trig x).offers.foldl (fun m o => setBit m o.slot true) 0, pslot := o.slot,
    pkind := s.getF (tileBase x + 8 * o.slot) TRG_SLOT_CFG.KIND, punit := o.unit, coarse := o.coarse }

/-- A domain that uses its lines fires the FIRE line. -/
def State.fireLine (s : State) (d : Nat) : State := if s.domLines d then s.pulse (2 * d - 1) s.uptime else s

theorem State.fireLine_eq (s : State) (d : Nat) : ∃ p, s.fireLine d = s.withPulses p :=
  ite_keeps (R := fun y => ∃ p, y = s.withPulses p) (fun _ => ⟨_, rfl⟩) fun _ => ⟨s.pulses, rfl⟩

/-- The other tiles of domain d. -/
def State.domOthers (s : State) (x d : Nat) : List Nat := (List.range 8).filter fun k => k ≠ x ∧ s.trigDom k = d

theorem State.mem_domOthers {x d k : Nat} : k ∈ s.domOthers x d ↔ k < 8 ∧ k ≠ x ∧ s.trigDom k = d := by
  simp [State.domOthers]

/-- The other units of a domain that a fire reaches. -/
def State.fireDomain (s : State) (x d tp : Nat) : State := if d = 0 then s else (s.fireLine d).fireAll ((s.fireLine d).domOthers x d) tp

theorem State.trigFire_some {x : Nat} {o : Offer} (h : (s.trig x).first = some o) :
    s.trigFire x = (s.trigRecord x (s.ownSeg x o)).fireDomain x ((s.trigRecord x (s.ownSeg x o)).trigDom x) (stampOf s.linNow) := by
  unfold State.trigFire
  unfold Trig.first at h
  dsimp only
  rw [h]
  rfl

theorem triggerFire_none_row (x : Fin 8) (h : s.getF (tileBase x) TRG_STATUS.STATE ≠ 2 ∨ (s.trig x).offers = []) :
    Completes (.triggerFire x) s (Frame {} s) := by
  refine completes_none ?_
  show execTriggerFire x s = _
  unfold execTriggerFire
  obtain hs | ho := h
  · exact if_neg hs
  · have hf : s.trigFire x = s := by
      have hn := Trig.first_none ho
      unfold State.trigFire
      unfold Trig.first at hn
      dsimp only
      rw [hn]
    rw [hf, ite_self]

theorem Exact.fireLine {w : Touch} (h : Exact w s z) (d : Nat) (hp : ∀ x p, w.parts { x with pulses := p } = w.parts x) : Exact w s (z.fireLine d) := by
  obtain ⟨p, e⟩ := z.fireLine_eq d
  rw [e]
  exact h.withPulses p hp

theorem Exact.fireDomain (h : Exact fireTouch.loose s z) (x d tp : Nat) : Exact fireTouch.loose s (z.fireDomain x d tp) :=
  .ite (fun _ => h) fun _ => (h.fireLine d fun _ _ => rfl).fireAll (fun _ hk => (State.mem_domOthers.1 hk).1) tp

theorem triggerFire_row (x : Fin 8) {o : Offer} (hs : s.getF (tileBase x) TRG_STATUS.STATE = 2) (hm : o ∈ (s.trig x).offers) (h8 : o.slot < 8)
    (hl : ∀ p ∈ (s.trig x).offers, p = o ∨ o.slot < p.slot) : Completes (.triggerFire x) s fun t =>
      Recorded x (s.ownSeg x o) s t ∧
      (∀ y < 8, y ≠ x.val → s.trigDom x ≠ 0 → s.trigDom y = s.trigDom x → s.getF (tileBase y) TRG_STATUS.STATE = 2 →
        (s.trig y).offers = [] → Recorded y (received (stampOf s.linNow)) s t) ∧ Frame fireTouch s t := by
  have hx : exec (.triggerFire x) s = done ((s.trigRecord x (s.ownSeg x o)).fireDomain x ((s.trigRecord x (s.ownSeg x o)).trigDom x) (stampOf s.linNow)) :=
    (if_pos hs).trans (congrArg done (State.trigFire_some (Trig.first_some hm h8 hl)))
  have hrec : Recorded x (s.ownSeg x o) s (s.trigRecord x (s.ownSeg x o)) := trigRecord_recorded x.isLt s _
  have hown : s.FiresIn x (s.trigRecord x (s.ownSeg x o)) := (State.FiresIn.refl _ s).trigRecord x.isLt _
  generalize s.trigRecord x (s.ownSeg x o) = z at hx hrec hown
  obtain ⟨p, hp⟩ := z.fireLine_eq (z.trigDom x)
  refine completes_done hx ⟨.settled ?_ x.isLt, fun y hy hne hd0 hdy hys hyo => .settled ?_ hy, ((hown.fires x.isLt).fireDomain ..).settledTight⟩
  · unfold State.fireDomain
    split
    · exact hrec
    · rw [hp]
      have hline : Recorded x (s.ownSeg x o) s (z.withPulses p) := hrec.after (fun _ _ => rfl) rfl fun _ _ => rfl
      exact hline.fireAll (fun k hk => (State.mem_domOthers.1 hk).1) (fun hk => (State.mem_domOthers.1 hk).2.1 rfl) _
  · have hfor : s.SameFor y z := hown.sameFor hne hy
    have hdom : z.trigDom x = s.trigDom x := (hown.sameUnit x).dom
    unfold State.fireDomain
    rw [if_neg (hdom ▸ hd0), hp]
    refine recorded_fireAll (fun k hk => (State.mem_domOthers.1 hk).1) (List.nodup_range.filter _) ?_ (hfor.withPulses p) hys hyo _
    exact State.mem_domOthers.2 ⟨hy, hne, (hfor.unit.dom.trans hdy).trans hdom.symm⟩

/-! ### FIRE_LINE_EDGE (R189, R192, R201) -/

theorem fireLineEdge_none_row (line : Fin 4) (q : Fin 200)
    (h : s.clocked = false ∨ line.val % 2 = 0 ∨ s.domLines (line / 2 + 1) = false ∨ s.pulsing line = true) :
    Completes (.fireLineEdge line q) s (Frame {} s) :=
  completes_none (if_pos (h.imp Bool.eq_false_iff.1 (Or.imp_right (Or.imp_left Bool.eq_false_iff.1))))

/-- The tiles of a line's domain. -/
def State.lineTiles (s : State) (line : Fin 4) (q : Fin 200) : List Nat :=
  (List.range 8).filter fun k => (s.lineStamp line q).1.trigDom k = line.val / 2 + 1

/-- What firing trigger units and a stamp may change. -/
def fireLineTouch : Touch := { fireTouch with parts := fun x => { x with trigs := [], ctxs := [], pairs := [], pulses := [] } }

theorem fireLineEdge_row (line : Fin 4) (q : Fin 200) (hc : s.clocked = true) (ho : line.val % 2 = 1) (hd : s.domLines (line / 2 + 1) = true)
    (hp : s.pulsing line = false) : Completes (.fireLineEdge line q) s fun t =>
      t.pair (GLB_TRIG_RX_LO.STAMP.off + 8 * line) = stampOf (s.tdcLin (1057 + line) q) ∧
      (∀ x < 8, s.trigDom x = line.val / 2 + 1 → s.getF (tileBase x) TRG_STATUS.STATE = 2 → (s.trig x).offers = [] →
        Recorded x (received (stampOf (s.tdcLin (1057 + line) q - signed 32 (s.getF (4 * line) GLB_TRIG_DLY.DLY)))) s t) ∧
      Frame fireLineTouch s t := by
  have hx : exec (.fireLineEdge line q) s = done ((s.lineStamp line q).1.fireAll (s.lineTiles line q)
      (stampOf (s.lineStamp line q).2)) :=
    if_neg (by simp [hc, ho, hd, hp])
  have hl : ∀ k ∈ s.lineTiles line q, k < 8 := fun k hk =>
    List.mem_range.1 (List.mem_filter.1 hk).1
  have hfire := (Exact.refl fireTouch.loose (s.lineStamp line q).1).fireAll hl (stampOf (s.lineStamp line q).2)
  refine completes_done hx ⟨?_, fun x hx8 hdx hs hof => .settled ?_ hx8, ?_⟩
  · have hpairs := congrArg State.pairs hfire.parts
    have hstamp : ((s.lineStamp line q).1.fireAll (s.lineTiles line q)
        (stampOf (s.lineStamp line q).2)).pairs = (s.lineStamp line q).1.pairs := hpairs
    rw [State.settled_pair, State.pair, hstamp]
    exact State.pair_setPair_self ..
  · refine recorded_fireAll hl (List.nodup_range.filter _) ?_ ((State.SameFor.refl x s).setPair _ _) hs hof _
    exact List.mem_filter.2 ⟨List.mem_range.2 hx8, decide_eq_true hdx⟩
  · have hstamp : Exact fireLineTouch.loose s (s.lineStamp line q).1 := (Exact.refl _ s).setPair _ _ fun _ _ => rfl
    exact (hstamp.trans (hfire.widen (fun _ => id) (fun _ => id) (fun _ => id) (fun _ => id) (fun _ => id) (fun _ => id) (fun _ => id) (fun _ => id)
      fun _ => rfl)).settledTight

end Sys2Proof.Machine
end

section
/-! PROOFS. Trigger units: the ARM line, the ends of captures (R191, R193, R194). -/

namespace Sys2Proof.Machine

open Sys2Proof (Instr)

variable {w : Touch} {s y z : State} {x k d : Nat}

/-! ### TRG_STATUS of several tiles -/

theorem State.getF_status_ne (h : x ≠ k) (s : State) (f : Fld) (v : Nat) {g : Fld} (hf : f.off = 0x3004) (hg : g.off = 0x3004) :
    (s.setF (tileBase k) f v).getF (tileBase x) g = s.getF (tileBase x) g :=
  State.getF_setF_ne _ (by
    rw [hf, hg]
    exact tileBase_ne (Ne.symm h) (by decide) (by decide)) _

theorem State.trigDom_status (s : State) (k v x : Nat) : (s.setF (tileBase k) TRG_STATUS.STATE v).trigDom x = s.trigDom x := by
  unfold State.trigDom
  rw [State.getF_setF_ne s (f := TRG_STATUS.STATE) (g := TRG_CTRL.DOM) (by
    show tileBase k + 0x3004 ≠ tileBase x + 0x3000
    unfold tileBase
    omega) v]

theorem State.trigBusy_eq (h : y.getF (tileBase x) TRG_STATUS.STATE = s.getF (tileBase x) TRG_STATUS.STATE) : y.trigBusy x = s.trigBusy x := by
  unfold State.trigBusy
  rw [h]

/-! ### The arm of a domain (R191) -/

/-- A unit of domain d that waits in PREP is ARMED. -/
def State.armOne (s : State) (d k : Nat) : State :=
  if s.trigDom k = d ∧ s.getF (tileBase k) TRG_STATUS.STATE = 1 then s.setF (tileBase k) TRG_STATUS.STATE 2 else s

theorem State.domArmed_eq (s : State) (d : Nat) : s.domArmed d = if s.domArm d then (List.range 8).foldl (fun y k => y.armOne d k) s else s := rfl

theorem Exact.domArmed (h : Exact w s z) (hw : ∀ k < 8, w.regs (tileBase k + TRG_STATUS.STATE.off)) (d : Nat) : Exact w s (z.domArmed d) :=
  .ite (fun _ => foldl_keeps_mem _ h fun _ k hk g => .ite (fun _ => g.setF _ (hw k (List.mem_range.1 hk))) fun _ => g) fun _ => h

/-- Arming a domain's units changes registers only. -/
theorem State.domArmed_regs {α : Type} (g : State → α) (hg : ∀ x r, g { x with regs := r } = g x) (s : State) (d : Nat) : g (s.domArmed d) = g s :=
  ite_keeps (R := fun y => g y = g s) (fun _ => foldl_keeps (R := fun y => g y = g s) _ rfl fun _ _ h => ite_keeps (R := fun y => g y = g s)
    (fun _ => (hg _ _).trans h) fun _ => h) fun _ => rfl

/-- The step at another tile leaves a unit's TRG_STATUS, and its domain. -/
theorem State.armOne_ne (s : State) (d : Nat) (h : x ≠ k) {f : Fld} (hf : f.off = 0x3004) :
    (s.armOne d k).getF (tileBase x) f = s.getF (tileBase x) f :=
  ite_keeps (R := fun y => y.getF (tileBase x) f = s.getF (tileBase x) f) (fun _ => s.getF_status_ne h _ _ rfl hf) fun _ => rfl

theorem State.armOne_dom (s : State) (d k x : Nat) : (s.armOne d k).trigDom x = s.trigDom x :=
  ite_keeps (R := fun y => y.trigDom x = s.trigDom x) (fun _ => s.trigDom_status k 2 x) fun _ => rfl

theorem State.domArmed_state (hx : x < 8) (ha : s.domArm d = true) (hd : s.trigDom x = d) (h1 : s.getF (tileBase x) TRG_STATUS.STATE = 1) :
    (s.domArmed d).getF (tileBase x) TRG_STATUS.STATE = 2 := by
  rw [State.domArmed_eq, if_pos ha]
  refine foldl_at (P := fun y => y.trigDom x = d ∧ y.getF (tileBase x) TRG_STATUS.STATE = 1) (Q := fun y => y.getF (tileBase x) TRG_STATUS.STATE = 2)
    (List.mem_range.2 hx) List.nodup_range (fun y k _ hne g => ⟨(y.armOne_dom d k x).trans g.1, (y.armOne_ne d hne.symm rfl).trans g.2⟩)
    (fun y g => ?_) (fun y k _ hne g => (y.armOne_ne d hne.symm rfl).trans g) ⟨hd, h1⟩
  unfold State.armOne
  rw [if_pos g]
  exact State.getF_setF_self _ _ TRG_STATUS.STATE 2 (by decide)

/-- Fields of TRG_STATUS but STATE stay. -/
theorem State.domArmed_field (s : State) (d x : Nat) {f : Fld} (hf : f.off = 0x3004) (hl : 2 < f.lo) :
    (s.domArmed d).getF (tileBase x) f = s.getF (tileBase x) f := by
  refine ite_keeps (R := fun y => y.getF (tileBase x) f = s.getF (tileBase x) f) (fun _ => ?_) fun _ => rfl
  refine foldl_keeps (R := fun y => y.getF (tileBase x) f = s.getF (tileBase x) f) _ rfl fun y k g => ?_
  by_cases h : x = k
  · subst h
    exact ite_keeps (R := fun z => z.getF (tileBase x) f = s.getF (tileBase x) f)
      (fun _ => (State.getF_setF_disj _ _ TRG_STATUS.STATE f _ hf.symm (.inr hl)).trans g) fun _ => g
  · exact (y.armOne_ne d h hf).trans g

/-- A unit that is not in PREP stays in its state. -/
theorem State.domArmed_state_keeps (h1 : s.getF (tileBase x) TRG_STATUS.STATE ≠ 1) :
    (s.domArmed d).getF (tileBase x) TRG_STATUS.STATE = s.getF (tileBase x) TRG_STATUS.STATE := by
  refine ite_keeps (R := fun y => y.getF (tileBase x) TRG_STATUS.STATE = s.getF (tileBase x) TRG_STATUS.STATE) (fun _ => ?_) fun _ => rfl
  refine foldl_keeps (R := fun y => y.getF (tileBase x) TRG_STATUS.STATE = s.getF (tileBase x) TRG_STATUS.STATE) _ rfl fun y k g => ?_
  by_cases h : x = k
  · subst h
    have hstay : y.armOne d x = y := if_neg fun e => h1 (g.symm.trans e.2)
    exact (congrArg (fun z : State => z.getF (tileBase x) TRG_STATUS.STATE) hstay).trans g
  · exact (y.armOne_ne d h rfl).trans g

/-! ### The end of a capture (R194) -/

/-- The unit's capture is over. -/
def Trig.ended (g : Trig) : Trig := { g with run := none, hold := 0, arm := false, offers := [] }

/-- The TRIG_ARM of tile x's capture ends. -/
def State.trigAnswer (s : State) (x : Nat) (e : Option Ending) : State :=
  match (s.trig x).run, e with
  | some r, some e => s.endCmd r { e with result := s.trigResult x }
  | _, _ => s

theorem State.trigEnd_eq (s : State) (x st : Nat) (e : Option Ending) :
    s.trigEnd x st e = ((s.trigAnswer x e).modTrig x Trig.ended).setF (tileBase x) TRG_STATUS.STATE st := rfl

theorem State.trigAnswer_eq {α : Type} (g : State → α) (hg : ∀ x l, g { x with cmds := l } = g x) (s : State) (x : Nat) (e : Option Ending) :
    g (s.trigAnswer x e) = g s := by
  unfold State.trigAnswer
  split
  · exact hg _ _
  · rfl

theorem Exact.trigEnd (h : Exact w s z) (x st : Nat) (e : Option Ending) (hr : w.regs (tileBase x + TRG_STATUS.STATE.off))
    (hp : ∀ x l, w.parts { x with trigs := l } = w.parts x) : Exact w s (z.trigEnd x st e) := by
  rw [State.trigEnd_eq]
  refine Exact.setF (Exact.modTrig ?_ _ _ hp) _ hr
  unfold State.trigAnswer
  split
  · exact h.mapCmds _ _
  · exact h

theorem State.trigEnd_state (s : State) (x : Nat) {st : Nat} (hst : st < 8) (e : Option Ending) :
    (s.trigEnd x st e).getF (tileBase x) TRG_STATUS.STATE = st :=
  (State.getF_setF_self _ _ TRG_STATUS.STATE st (by decide)).trans (Nat.mod_eq_of_lt hst)

theorem State.trigEnd_trig (s : State) (x st : Nat) (e : Option Ending) : (s.trigEnd x st e).trig x = (s.trig x).ended := by
  rw [State.trigEnd_eq, State.trig_setF, State.trig_modTrig_self]
  exact congrArg Trig.ended (s.trigAnswer_eq (fun z => z.trig x) (fun _ _ => rfl) x e)

theorem State.trigEnd_trig_ne (s : State) (h : x ≠ k) (st : Nat) (e : Option Ending) : (s.trigEnd k st e).trig x = s.trig x := by
  rw [State.trigEnd_eq, State.trig_setF, State.trig_modTrig, if_neg (Ne.symm h)]
  exact s.trigAnswer_eq (fun z => z.trig x) (fun _ _ => rfl) k e

theorem State.trigEnd_status_ne (s : State) (h : x ≠ k) (st : Nat) (e : Option Ending) {f : Fld} (hf : f.off = 0x3004) :
    (s.trigEnd k st e).getF (tileBase x) f = s.getF (tileBase x) f := by
  rw [State.trigEnd_eq, State.getF_status_ne h _ _ _ rfl hf, State.getF_modTrig]
  exact s.trigAnswer_eq (fun z => z.getF (tileBase x) f) (fun _ _ => rfl) k e

theorem State.trigEnd_dom (s : State) (k st : Nat) (e : Option Ending) (x : Nat) : (s.trigEnd k st e).trigDom x = s.trigDom x := by
  rw [State.trigEnd_eq, State.trigDom_status]
  exact s.trigAnswer_eq (fun z => z.trigDom x) (fun _ _ => rfl) k e

/-- A capture that ends with its TRIG_ARM answered. -/
theorem trigEnd_answers {r : CmdRef} {c : Cmd} (hr : (s.trig x).run = some r) (hc : s.cmd? r = some c) (st : Nat) (e : Ending) :
    Answered r { e with result := s.trigResult x } { regs := fun a => a = tileBase x + TRG_STATUS.STATE.off, parts := fun x => { x with trigs := [] } }
      s (s.trigEnd x st (some e)).settled := by
  refine Exact.answered ((Exact.refl _ s).trigEnd x st (some e) rfl fun _ _ => rfl) hc ?_
  rw [State.trigEnd_eq]
  unfold State.trigAnswer
  rw [hr]
  rfl

/-- The release of a domain ends the capture of one of its tiles. -/
def State.releaseOne (s : State) (d k : Nat) : State :=
  if s.trigDom k = d ∧ s.trigBusy k then s.trigEnd k 4 (some { status := scOK, partialDone := true }) else s

theorem State.domRelease_eq (s : State) (d : Nat) :
    s.domRelease d = if d = 0 ∨ s.domArm d then s else (List.range 8).foldl (fun y k => y.releaseOne d k) s := rfl

theorem Exact.domRelease (h : Exact w s z) (hr : ∀ k < 8, w.regs (tileBase k + TRG_STATUS.STATE.off))
    (hp : ∀ x l, w.parts { x with trigs := l } = w.parts x) (d : Nat) : Exact w s (z.domRelease d) :=
  .ite (fun _ => h) fun _ => foldl_keeps_mem _ h fun _ k hk g => .ite (fun _ => g.trigEnd _ _ _ (hr k (List.mem_range.1 hk)) hp) fun _ => g

/-- The step at another tile leaves a unit. -/
theorem State.releaseOne_ne (s : State) (d : Nat) (h : x ≠ k) : (s.releaseOne d k).trigDom x = s.trigDom x ∧
    (s.releaseOne d k).getF (tileBase x) TRG_STATUS.STATE = s.getF (tileBase x) TRG_STATUS.STATE ∧ (s.releaseOne d k).trig x = s.trig x :=
  ite_keeps (R := fun y => y.trigDom x = s.trigDom x ∧ y.getF (tileBase x) TRG_STATUS.STATE = s.getF (tileBase x) TRG_STATUS.STATE ∧
    y.trig x = s.trig x) (fun _ => ⟨s.trigEnd_dom .., s.trigEnd_status_ne h _ _ rfl, s.trigEnd_trig_ne h _ _⟩) fun _ => ⟨rfl, rfl, rfl⟩

theorem State.domRelease_ends (hx : x < 8) (h0 : d ≠ 0) (ha : s.domArm d = false) (hd : s.trigDom x = d) (hb : s.trigBusy x = true) :
    (s.domRelease d).getF (tileBase x) TRG_STATUS.STATE = 4 ∧ ((s.domRelease d).trig x).run = none := by
  rw [State.domRelease_eq, if_neg (by simp [h0, ha])]
  refine foldl_at (P := fun y => y.trigDom x = d ∧ y.trigBusy x = true)
    (Q := fun y => y.getF (tileBase x) TRG_STATUS.STATE = 4 ∧ (y.trig x).run = none)
    (List.mem_range.2 hx) List.nodup_range (fun y k _ hne g => ?_) (fun y g => ?_) (fun y k _ hne g => ?_) ⟨hd, hb⟩
  · obtain ⟨hdom, hst, -⟩ := y.releaseOne_ne d hne.symm
    exact ⟨hdom.trans g.1, (State.trigBusy_eq hst).trans g.2⟩
  · unfold State.releaseOne
    rw [if_pos g]
    exact ⟨y.trigEnd_state x (by decide) _, by rw [State.trigEnd_trig]; rfl⟩
  · obtain ⟨-, hst, htr⟩ := y.releaseOne_ne d hne.symm
    exact ⟨hst.trans g.1, by rw [htr]; exact g.2⟩

/-! ### ARM_LINE_EDGE (R191, R194, R201) -/

/-- Domain d's ARM line stands as given. -/
def State.withArm (s : State) (d : Nat) (high : Bool) : State := { s with armLine := setBit s.armLine d high }

theorem State.withArm_testBit (s : State) (d : Nat) (high : Bool) : (s.withArm d high).armLine.testBit d = high := testBit_setBit_self s.armLine d high

/-- What an edge of an ARM line changes. -/
def armTouch : Touch :=
  { regs := fun a => ∃ y < 8, a = tileBase y + TRG_STATUS.STATE.off, parts := fun x => { x with armLine := 0, trigs := [], pairs := [] } }

theorem Exact.withArm (d : Nat) (high : Bool) (s : State) : Exact armTouch s (s.withArm d high) :=
  (Exact.refl _ s).congr rfl rfl rfl rfl rfl rfl rfl rfl rfl

/-- The stamp of a rising edge (R201). -/
def State.armStamp (s : State) (dom : Nat) (q : Fin 200) : State := if s.clocked then (s.lineStamp (2 * dom) q).1 else s

theorem armLineEdge_eq (dom : Fin 2) (high : Bool) (q : Fin 200) (s : State) : exec (.armLineEdge dom (high, q)) s =
    if ¬ s.domLines (dom + 1) then done (s.withArm (dom + 1) high)
    else if high then done (((s.withArm (dom + 1) high).armStamp dom q).domArmed (dom + 1))
    else done ((s.withArm (dom + 1) high).domRelease (dom + 1)) := rfl

theorem Exact.armStamp (h : Exact armTouch s z) (dom : Nat) (q : Fin 200) : Exact armTouch s (z.armStamp dom q) :=
  .ite (fun _ => h.setPair _ _ fun _ _ => rfl) fun _ => h

theorem State.domRelease_armLine (s : State) (d : Nat) : (s.domRelease d).armLine = s.armLine := by
  have h := Exact.domRelease (w := { regs := fun _ => True, parts := fun x => { x with trigs := [] } }) (Exact.refl _ s) (fun _ _ => trivial)
    (fun _ _ => rfl) d
  have harm := congrArg State.armLine h.parts
  exact harm

/-- A domain whose ARM line rises has its arm. -/
theorem State.domArm_rises (hl : s.domLines d = true) : (s.withArm d true).domArm d = true := by
  have hl' : (s.withArm d true).domLines d = true := hl
  rw [State.domArm, State.withArm_testBit, hl']
  simp

/-- A domain whose ARM line falls, and of which no unit holds the arm, has none. -/
theorem State.domArm_falls (hm : ∀ y < 8, s.trigDom y = d → (s.trig y).arm = false) : (s.withArm d false).domArm d = false := by
  have hany : ((List.range 8).any fun t => decide ((s.withArm d false).trigDom t = d) && ((s.withArm d false).trig t).arm) = false := by
    refine List.any_eq_false.2 fun y hy => ?_
    rw [Bool.and_eq_true, decide_eq_true_eq]
    rintro ⟨hdom, harm⟩
    exact Bool.false_ne_true ((hm y (List.mem_range.1 hy) hdom).symm.trans harm)
  rw [State.domArm, State.withArm_testBit, hany]
  simp

/-- What an edge of a domain's ARM line does, seen from tile x. -/
structure ArmEdge (x : Nat) (dom : Nat) (high : Bool) (q : Fin 200) (s t : State) : Prop where
  line : t.armLine.testBit (dom + 1) = high
  stamp : high = true → s.clocked = true → s.domLines (dom + 1) = true →
    t.pair (GLB_TRIG_RX_LO.STAMP.off + 8 * (2 * dom)) = stampOf (s.tdcLin (1057 + 2 * dom) q)
  armed : high = true → s.domLines (dom + 1) = true → s.trigDom x = dom + 1 → s.getF (tileBase x) TRG_STATUS.STATE = 1 →
    t.getF (tileBase x) TRG_STATUS.STATE = 2
  ended : high = false → s.domLines (dom + 1) = true → (∀ y < 8, s.trigDom y = dom + 1 → (s.trig y).arm = false) → s.trigDom x = dom + 1 →
    s.trigBusy x = true → t.getF (tileBase x) TRG_STATUS.STATE = 4 ∧ (t.trig x).run = none

theorem ArmEdge.settled {dom : Nat} {high : Bool} {q : Fin 200} (h : ArmEdge x dom high q s z) (hx : x < 8) : ArmEdge x dom high q s z.settled := by
  have hst : z.settled.getF (tileBase x) TRG_STATUS.STATE = z.getF (tileBase x) TRG_STATUS.STATE := z.settled_getF (tileBase_follows hx (by decide))
  refine ⟨?_, fun h1 h2 h3 => ?_, fun h1 h2 h3 h4 => hst.trans (h.armed h1 h2 h3 h4), fun h1 h2 h3 h4 h5 => ?_⟩
  · rw [State.settled_armLine]
    exact h.line
  · rw [State.settled_pair]
    exact h.stamp h1 h2 h3
  · rw [hst, State.settled_trig]
    exact h.ended h1 h2 h3 h4 h5

theorem armEdge_unused (x dom : Nat) (high : Bool) (q : Fin 200) (hl : s.domLines (dom + 1) = false) :
    ArmEdge x dom high q s (s.withArm (dom + 1) high) where
  line := s.withArm_testBit ..
  stamp _ _ h := absurd (hl.symm.trans h) Bool.false_ne_true
  armed _ h := absurd (hl.symm.trans h) Bool.false_ne_true
  ended _ h := absurd (hl.symm.trans h) Bool.false_ne_true

theorem armEdge_rises {dom : Nat} (q : Fin 200) (hx : x < 8) (hl : s.domLines (dom + 1) = true) :
    ArmEdge x dom true q s (((s.withArm (dom + 1) true).armStamp dom q).domArmed (dom + 1)) := by
  have hstamp {α : Type} (g : State → α) (hg : ∀ y l, g { y with pairs := l } = g y) :
      g ((s.withArm (dom + 1) true).armStamp dom q) = g (s.withArm (dom + 1) true) :=
    ite_keeps (R := fun y => g y = g (s.withArm (dom + 1) true)) (fun _ => hg _ _) fun _ => rfl
  refine ⟨?_, fun _ hc _ => ?_, fun _ _ hd h1 => ?_, fun h => absurd h (by decide)⟩
  · rw [State.domArmed_regs State.armLine fun _ _ => rfl, hstamp State.armLine fun _ _ => rfl]
    exact s.withArm_testBit ..
  · rw [State.domArmed_regs (fun y => y.pair (GLB_TRIG_RX_LO.STAMP.off + 8 * (2 * dom))) fun _ _ => rfl]
    unfold State.armStamp
    rw [if_pos (show (s.withArm (dom + 1) true).clocked = true from hc)]
    exact State.pair_setPair_self ..
  · refine State.domArmed_state hx ?_ ?_ ?_
    · rw [hstamp (fun y => y.domArm (dom + 1)) fun _ _ => rfl]
      exact State.domArm_rises hl
    · exact (hstamp (fun y => y.trigDom x) fun _ _ => rfl).trans hd
    · exact (hstamp (fun y => y.getF (tileBase x) TRG_STATUS.STATE) fun _ _ => rfl).trans h1

theorem armEdge_falls {dom : Nat} (q : Fin 200) (hx : x < 8) : ArmEdge x dom false q s ((s.withArm (dom + 1) false).domRelease (dom + 1)) := by
  refine ⟨?_, fun h => absurd h (by decide), fun h => absurd h (by decide), fun _ _ hm hd hb => ?_⟩
  · rw [State.domRelease_armLine]
    exact s.withArm_testBit ..
  · exact State.domRelease_ends hx (Nat.succ_ne_zero dom) (State.domArm_falls hm) hd hb

theorem armLineEdge_row (x : Fin 8) (dom : Fin 2) (high : Bool) (q : Fin 200) :
    Completes (.armLineEdge dom (high, q)) s fun t => ArmEdge x dom high q s t ∧ Frame armTouch s t := by
  have hx := armLineEdge_eq dom high q s
  by_cases hl : s.domLines (dom + 1) = true
  · rw [if_neg (not_not.2 hl)] at hx
    cases high with
    | true => exact completes_done hx ⟨(armEdge_rises q x.isLt hl).settled x.isLt,
        (((Exact.withArm _ _ s).armStamp dom q).domArmed (fun k hk => ⟨k, hk, rfl⟩) _).settled⟩
    | false => exact completes_done hx ⟨(armEdge_falls q x.isLt).settled x.isLt,
        ((Exact.withArm _ _ s).domRelease (fun k hk => ⟨k, hk, rfl⟩) (fun _ _ => rfl) _).settled⟩
  · rw [if_pos hl] at hx
    exact completes_done hx ⟨(armEdge_unused x dom high q (Bool.eq_false_iff.2 hl)).settled x.isLt, (Exact.withArm _ _ s).settled⟩

/-! ### HOLDOFF_END (R193) and TRIG_ARM_TIMEOUT (R194) -/

/-- A hold-off is over once its segment is closed, with no event still to come. -/
theorem holdoff_over (hs : s.getF (tileBase x) TRG_STATUS.STATE = 3) (hc : (s.trig x).cur = none)
    (hh : s.isSet (tileBase x) TRG_CTRL.HMODE = false ∨ (s.trig x).hold = 0) : ¬ (s.getF (tileBase x) TRG_STATUS.STATE ≠ 3 ∨
      (s.trig x).cur.isSome = true ∨ s.isSet (tileBase x) TRG_CTRL.HMODE = true ∧ (s.trig x).hold ≠ 0) := by
  rw [hc]
  rintro (h | h | ⟨hm, hold⟩)
  · exact h hs
  · exact Bool.false_ne_true h
  · exact hh.elim (fun g => Bool.false_ne_true (g.symm.trans hm)) hold

theorem holdoffEnd_rearms_row (x : Fin 8) (hs : s.getF (tileBase x) TRG_STATUS.STATE = 3) (hc : (s.trig x).cur = none)
    (hh : s.isSet (tileBase x) TRG_CTRL.HMODE = false ∨ (s.trig x).hold = 0) (hn : (s.trig x).segs.length < s.nseg x) :
    Completes (.holdoffEnd x) s fun t => t.getF (tileBase x) TRG_STATUS.STATE = 2 ∧
      Frame { regs := fun a => a = tileBase x + TRG_STATUS.STATE.off } s t := by
  have hx : exec (.holdoffEnd x) s = done (s.setF (tileBase x) TRG_STATUS.STATE 2) :=
    (if_neg (holdoff_over hs hc hh)).trans (if_neg (Nat.not_le.2 hn))
  refine completes_done hx ⟨?_, ((Exact.refl _ s).setF 2 rfl).settled⟩
  rw [State.settled_getF _ (tileBase_follows x.isLt (by decide))]
  exact State.getF_setF_self _ _ TRG_STATUS.STATE 2 (by decide)

theorem holdoffEnd_done_row (x : Fin 8) {r : CmdRef} {c : Cmd} (hs : s.getF (tileBase x) TRG_STATUS.STATE = 3) (hc : (s.trig x).cur = none)
    (hh : s.isSet (tileBase x) TRG_CTRL.HMODE = false ∨ (s.trig x).hold = 0) (hn : s.nseg x ≤ (s.trig x).segs.length) (hr : (s.trig x).run = some r)
    (hk : s.cmd? r = some c) (ha : (s.trig x).arm = false) :
    Completes (.holdoffEnd x) s fun t => t.getF (tileBase x) TRG_STATUS.STATE = 4 ∧ (t.trig x).run = none ∧ (t.trig x).segs = (s.trig x).segs ∧
      Answered r { status := scOK, result := s.trigResult x }
        { regs := fun a => a = tileBase x + TRG_STATUS.STATE.off, parts := fun x => { x with trigs := [] } } s t := by
  have hx : exec (.holdoffEnd x) s = done (s.trigEnd x 4 (some { status := scOK })) :=
    (if_neg (holdoff_over hs hc hh)).trans ((if_pos hn).trans (congrArg done (if_neg (by simp [ha]))))
  refine completes_done hx ⟨?_, ?_, ?_, trigEnd_answers hr hk 4 { status := scOK }⟩
  · rw [State.settled_getF _ (tileBase_follows x.isLt (by decide))]
    exact s.trigEnd_state x (by decide) _
  · rw [State.settled_trig, State.trigEnd_trig]
    rfl
  · rw [State.settled_trig, State.trigEnd_trig]
    rfl

theorem holdoffEnd_none_row (x : Fin 8) (h : s.getF (tileBase x) TRG_STATUS.STATE ≠ 3 ∨ (s.trig x).cur ≠ none ∨
    s.isSet (tileBase x) TRG_CTRL.HMODE = true ∧ (s.trig x).hold ≠ 0) : Completes (.holdoffEnd x) s (Frame {} s) :=
  completes_none (if_pos (h.imp_right (Or.imp_left Option.isSome_iff_ne_none.2)))

theorem trigArmTimeout_eq (x : Fin 8) {r : CmdRef} {c : Cmd} (hr : (s.trig x).run = some r) (hc : s.cmd? r = some c) :
    exec (.trigArmTimeout x) s = if c.p 4 = 0 then done s else done (s.trigKill x (some { status := scOK, partialDone := true }) false) := by
  show execTrigArmTimeout x s = _
  unfold execTrigArmTimeout
  rw [hr]
  dsimp only
  rw [hc]

theorem trigArmTimeout_none_row (x : Fin 8) {r : CmdRef} {c : Cmd} (hr : (s.trig x).run = some r) (hc : s.cmd? r = some c) (h0 : c.p 4 = 0) :
    Completes (.trigArmTimeout x) s (Frame {} s) := completes_none ((trigArmTimeout_eq x hr hc).trans (if_pos h0))

theorem trigArmTimeout_row (x : Fin 8) {r : CmdRef} {c : Cmd} (hr : (s.trig x).run = some r) (hc : s.cmd? r = some c) (h0 : c.p 4 ≠ 0)
    (hb : s.trigBusy x = true) (ha : (s.trig x).arm = false) : Completes (.trigArmTimeout x) s fun t => t.getF (tileBase x) TRG_STATUS.STATE = 4 ∧
      Answered r { status := scOK, partialDone := true, result := s.trigResult x }
        { regs := fun a => a = tileBase x + TRG_STATUS.STATE.off, parts := fun x => { x with trigs := [] } } s t := by
  have hkill : s.trigKill x (some { status := scOK, partialDone := true }) false = s.trigEnd x 4 (some { status := scOK, partialDone := true }) :=
    (if_pos hb).trans (if_neg (by simp [ha]))
  have hx := (trigArmTimeout_eq x hr hc).trans (if_neg h0)
  rw [hkill] at hx
  refine completes_done hx ⟨?_, trigEnd_answers hr hc 4 { status := scOK, partialDone := true }⟩
  rw [State.settled_getF _ (tileBase_follows x.isLt (by decide))]
  exact s.trigEnd_state x (by decide) _

end Sys2Proof.Machine
end

section
/-! PROOFS. Trigger units: the partition of the capture memory, TRIG_ARM, CAPTURE_DUMP (R187, R190, R191, R199). Settles O41. -/

namespace Sys2Proof.Machine

open Sys2Proof (Instr)

variable {w : Touch} {s y z : State} {x d : Nat} {cmd : CmdRef} {k : Cmd}

/-! ### Bytes cleared -/

theorem State.sramByte_sramClear (s : State) (p : Nat → Bool) (a : Nat) : (s.sramClear p).sramByte a = if p a then sramReset a else s.sramByte a := by
  unfold State.sramByte State.sramClear
  rw [tabGet_tabKeep]
  cases p a <;> rfl

theorem State.sramByte_cleared (s : State) {lo hi a : Nat} (hl : lo ≤ a) (hu : a < hi) :
    (s.sramClear fun a => decide (lo ≤ a ∧ a < hi)).sramByte a = sramReset a := by
  rw [State.sramByte_sramClear, if_pos (decide_eq_true (And.intro hl hu))]

theorem Exact.sramClear (h : Exact w s z) {lo hi : Nat} (hw : ∀ a, lo ≤ a ∧ a < hi → w.sram a) :
    Exact w s (z.sramClear fun a => decide (lo ≤ a ∧ a < hi)) :=
  { h with
    sram := fun a ha => ((z.sramByte_sramClear _ a).trans (if_neg fun e => ha (hw a (of_decide_eq_true e)))).trans (h.sram a ha) }

theorem State.sramByte_setFs (s : State) (b : Nat) (l : List (Fld × Nat)) (a : Nat) : (s.setFs b l).sramByte a = s.sramByte a :=
  State.setFs_eq (fun z => z.sramByte a) (fun _ _ => rfl) s b l

theorem State.sramByte_setF (s : State) (b : Nat) (f : Fld) (v a : Nat) : (s.setF b f v).sramByte a = s.sramByte a := s.sramByte_setFs b [(f, v)] a

theorem State.sramByte_modTrig (s : State) (t : Nat) (f : Trig → Trig) (a : Nat) : (s.modTrig t f).sramByte a = s.sramByte a := rfl

theorem State.sramByte_modTile (s : State) (t : Nat) (f : Tile → Tile) (a : Nat) : (s.modTile t f).sramByte a = s.sramByte a := rfl

theorem State.sramByte_settled (s : State) (a : Nat) : s.settled.sramByte a = s.sramByte a := by
  unfold State.sramByte
  rw [State.settled_sram]

/-! ### CAP_PARTITION_WRITE (R187) -/

/-- The parts' sizes, and the tile's capture memory empty. -/
def State.partSized (s : State) (x rq st : Nat) : State :=
  (s.setFs (tileBase x) [(TIL_CAP_PART.STBSZ, st), (TIL_CAP_PART.RQSZ, rq)]).sramClear fun a => decide (capBase x ≤ a ∧ a < capBase x + 0x200000)

/-- No segment, no queued record. -/
def State.partEmptied (s : State) (x : Nat) : State :=
  (s.modTile x fun g => { g with rqOut := 0 }).modTrig x fun g => { g with segs := [], cur := none, left := none, wr := 0 }

/-- The counts of the emptied parts. -/
def State.partShown (s : State) (x : Nat) : State :=
  s.setFs (tileBase x) [(TIL_STB_WCNT.COUNT, 0), (TIL_STB_STATUS.FULL, 0), (TRG_STATUS.SEGS, 0)]

/-- What an accepted write of TIL_CAP_PART changes. -/
def partTouch (x : Nat) : Touch :=
  { regs := fun a => a = tileBase x + TIL_CAP_PART.RQSZ.off ∨ a = tileBase x + TIL_STB_WCNT.COUNT.off ∨ a = tileBase x + TIL_STB_STATUS.FULL.off ∨
      a = tileBase x + TRG_STATUS.SEGS.off ∨ a = tileBase x + TRG_SEGREC.COUNT.off,
    sram := fun a => capBase x ≤ a ∧ a < capBase x + 0x200000, parts := fun x => { x with tiles := [], trigs := [] } }

theorem State.tilWrite_capPart (s : State) (t : Nat) (v : Word) : s.tilWrite t TIL_CAP_PART.RQSZ.off v = s.capPart t v := by
  unfold State.tilWrite
  rw [if_neg (by decide), if_neg (by decide), if_neg (by decide), if_neg (by decide), if_neg (by decide), if_pos rfl]

theorem exec_capPartitionWrite (x : Fin 8) {v : Word} (hw : s.writeOk (tileBase x + TIL_CAP_PART.RQSZ.off) = true) :
    exec (.capPartitionWrite x v) s = done (s.capPart x v) := by
  rw [← State.tilWrite_capPart, ← State.regWrite_til _ false x.isLt (by decide) rfl hw]
  rfl

theorem Exact.partShown (h : Exact (partTouch x) s z) : Exact (partTouch x) s (z.partShown x) :=
  h.setFs (by simp [partTouch])

theorem Exact.partSized {rq st : Nat} (h : Exact (partTouch x) s z) : Exact (partTouch x) s (z.partSized x rq st) :=
  (h.setFs (by simp [partTouch])).sramClear fun _ => id

theorem Exact.partEmptied (h : Exact (partTouch x) s z) : Exact (partTouch x) s (z.partEmptied x) :=
  (h.modTile x _ fun _ _ => rfl).modTrig _ _ fun _ _ => rfl

theorem Exact.setSegRec (h : Exact (partTouch x) s z) : Exact (partTouch x) s (z.setSegRec x) :=
  h.setF _ (.inr (.inr (.inr (.inr rfl))))

/-- An accepted write. -/
def State.parted (s : State) (x rq st : Nat) : State := (((s.partSized x rq st).partEmptied x).partShown x).setSegRec x

theorem State.getF_sramClear (s : State) (p : Nat → Bool) (b : Nat) (f : Fld) : (s.sramClear p).getF b f = s.getF b f := rfl

theorem State.trig_sramClear (s : State) (p : Nat → Bool) (x : Nat) : (s.sramClear p).trig x = s.trig x := rfl

theorem State.cmds_sramClear (s : State) (p : Nat → Bool) : (s.sramClear p).cmds = s.cmds := rfl

theorem State.partSized_sizes (s : State) (x : Nat) {rq st : Nat} (hr : rq < 32) (hs : st < 32) :
    (s.partSized x rq st).getF (tileBase x) TIL_CAP_PART.RQSZ = rq ∧ (s.partSized x rq st).getF (tileBase x) TIL_CAP_PART.STBSZ = st := by
  unfold State.partSized State.setFs
  simp only [List.foldl_cons, List.foldl_nil, State.getF_sramClear]
  rw [State.getF_setF_self _ _ TIL_CAP_PART.RQSZ rq (by decide), State.getF_setF_disj _ _ TIL_CAP_PART.RQSZ TIL_CAP_PART.STBSZ rq rfl (by decide),
    State.getF_setF_self _ _ TIL_CAP_PART.STBSZ st (by decide)]
  exact ⟨Nat.mod_eq_of_lt hr, Nat.mod_eq_of_lt hs⟩

theorem State.partShown_off (s : State) (x : Nat) {f : Fld} (h1 : f.off ≠ 0x708) (h2 : f.off ≠ 0x704) (h3 : f.off ≠ 0x3004) :
    (s.partShown x).getF (tileBase x) f = s.getF (tileBase x) f := by
  unfold State.partShown State.setFs
  simp only [List.foldl_cons, List.foldl_nil]
  rw [State.getF_setF_off _ _ (Ne.symm h3), State.getF_setF_off _ _ (Ne.symm h2), State.getF_setF_off _ _ (Ne.symm h1)]

theorem State.getF_partEmptied (s : State) (x b : Nat) (f : Fld) : (s.partEmptied x).getF b f = s.getF b f := by
  unfold State.partEmptied
  rw [State.getF_modTrig, State.getF_modTile]

theorem State.parted_before (s : State) (x rq st : Nat) {f : Fld} (h1 : f.off ≠ 0x708) (h2 : f.off ≠ 0x704) (h3 : f.off ≠ 0x3004)
    (h4 : f.off ≠ 0x3018) : (s.parted x rq st).getF (tileBase x) f = (s.partSized x rq st).getF (tileBase x) f := by
  unfold State.parted State.setSegRec
  rw [State.getF_setF_off _ _ (Ne.symm h4), State.partShown_off _ _ h1 h2 h3, State.getF_partEmptied]

theorem State.parted_segRec (s : State) (x : Nat) {rq st : Nat} (h1 : 1 ≤ rq) (hr : rq < 32) (hs : st < 32) :
    (s.parted x rq st).segRec x = (32 - rq - st) * 65536 / 8 / s.nseg x := by
  obtain ⟨hrq, hst⟩ := s.partSized_sizes x hr hs
  have hbefore {f : Fld} (h1 : f.off ≠ 0x708) (h2 : f.off ≠ 0x704) (h3 : f.off ≠ 0x3004) :
      (((s.partSized x rq st).partEmptied x).partShown x).getF (tileBase x) f = (s.partSized x rq st).getF (tileBase x) f := by
    rw [State.partShown_off _ _ h1 h2 h3, State.getF_partEmptied]
  have hn : (((s.partSized x rq st).partEmptied x).partShown x).nseg x = s.nseg x := by
    unfold State.nseg
    rw [hbefore (by decide) (by decide) (by decide)]
    unfold State.partSized State.setFs
    simp only [List.foldl_cons, List.foldl_nil, State.getF_sramClear]
    rw [State.getF_setF_off _ _ (by decide), State.getF_setF_off _ _ (by decide)]
  unfold State.parted State.setSegRec State.segRec
  rw [State.getF_setF_self _ _ TRG_SEGREC.COUNT _ (by decide), hbefore (f := TIL_CAP_PART.RQSZ) (by decide) (by decide) (by decide),
    hbefore (f := TIL_CAP_PART.STBSZ) (by decide) (by decide) (by decide), hrq, hst, hn]
  refine Nat.mod_eq_of_lt (Nat.lt_of_le_of_lt (Nat.div_le_self _ _) ?_)
  show (32 - rq - st) * 65536 / 8 < 2 ^ 18
  omega

theorem State.parted_shows (s : State) (x rq st : Nat) : (s.parted x rq st).getF (tileBase x) TIL_STB_WCNT.COUNT = 0 ∧
    (s.parted x rq st).getF (tileBase x) TRG_STATUS.SEGS = 0 := by
  unfold State.parted State.setSegRec State.partShown State.setFs
  simp only [List.foldl_cons, List.foldl_nil]
  constructor
  · rw [State.getF_setF_off _ _ (by decide), State.getF_setF_off _ _ (by decide), State.getF_setF_off _ _ (by decide)]
    exact State.getF_setF_self _ _ TIL_STB_WCNT.COUNT 0 (by decide)
  · rw [State.getF_setF_off _ _ (by decide)]
    exact State.getF_setF_self _ _ TRG_STATUS.SEGS 0 (by decide)

theorem State.parted_segs (s : State) (x rq st : Nat) : ((s.parted x rq st).trig x).segs = [] := by
  unfold State.parted State.setSegRec State.partShown
  rw [State.trig_setF, State.setFs_eq (fun z => z.trig x) fun _ _ => rfl]
  unfold State.partEmptied
  rw [State.trig_modTrig_self]

theorem State.parted_sram (s : State) {x rq st a : Nat} (hl : capBase x ≤ a) (hu : a < capBase x + 0x200000) :
    (s.parted x rq st).sramByte a = sramReset a := by
  unfold State.parted State.setSegRec State.partShown State.partEmptied State.partSized
  rw [State.sramByte_setF, State.sramByte_setFs, State.sramByte_modTrig, State.sramByte_modTile]
  exact State.sramByte_cleared _ hl hu

theorem capPartitionWrite_row (x : Fin 8) {v : Word} {rq st : Nat} (hw : s.writeOk (tileBase x + TIL_CAP_PART.RQSZ.off) = true)
    (hrq : rq = TIL_CAP_PART.RQSZ.get v) (hst : st = TIL_CAP_PART.STBSZ.get v) (h1 : 1 ≤ rq) (h16 : rq ≤ 16) (hs16 : st ≤ 16) (h28 : rq + st ≤ 28)
    (hq : s.isSet (tileBase x) TIL_RQ_CTRL.EN = false) (hc : s.getF (tileBase x) TIL_RQ_LEVEL.COUNT = 0)
    (hb : s.isSet (tileBase x) TIL_STB_CTRL.EN = false) (ht : s.trigBusy x = false) : Completes (.capPartitionWrite x v) s fun t =>
      t.getF (tileBase x) TIL_CAP_PART.RQSZ = rq ∧ t.getF (tileBase x) TIL_CAP_PART.STBSZ = st ∧
        (∀ a, capBase x ≤ a → a < capBase x + 0x200000 → t.sramByte a = sramReset a) ∧ t.getF (tileBase x) TIL_STB_WCNT.COUNT = 0 ∧
        t.getF (tileBase x) TRG_STATUS.SEGS = 0 ∧ (t.trig x).segs = [] ∧ t.segRec x = (32 - rq - st) * 65536 / 8 / s.nseg x ∧
        Frame (partTouch x) s t := by
  subst hrq hst
  have hx : exec (.capPartitionWrite x v) s = done (s.parted x (TIL_CAP_PART.RQSZ.get v) (TIL_CAP_PART.STBSZ.get v)) :=
    (exec_capPartitionWrite x hw).trans (congrArg done (if_pos
      ⟨h1, h16, hs16, h28, Bool.eq_false_iff.1 hq, hc, Bool.eq_false_iff.1 hb, Bool.eq_false_iff.1 ht⟩))
  have hf {z : State} {f : Fld} (ho : f.off < 0x10000) : z.settled.getF (tileBase x) f = z.getF (tileBase x) f :=
    z.settled_getF (tileBase_follows x.isLt ho)
  obtain ⟨hr, hs⟩ := s.partSized_sizes x (rq := TIL_CAP_PART.RQSZ.get v) (st := TIL_CAP_PART.STBSZ.get v) (by omega) (by omega)
  obtain ⟨hcnt, hsegs⟩ := s.parted_shows x (TIL_CAP_PART.RQSZ.get v) (TIL_CAP_PART.STBSZ.get v)
  refine completes_done hx ⟨?_, ?_, fun a hl hu => ?_, (hf (by decide)).trans hcnt, (hf (by decide)).trans hsegs, ?_, ?_, ?_⟩
  · rw [hf (by decide), State.parted_before _ _ _ _ (by decide) (by decide) (by decide) (by decide)]
    exact hr
  · rw [hf (by decide), State.parted_before _ _ _ _ (by decide) (by decide) (by decide) (by decide)]
    exact hs
  · rw [State.sramByte_settled]
    exact s.parted_sram hl hu
  · rw [State.settled_trig]
    exact s.parted_segs ..
  · exact (hf (by decide)).trans (s.parted_segRec x h1 (by omega) (by omega))
  · exact ((Exact.refl _ s).partSized.partEmptied.partShown.setSegRec).settled

theorem capPartitionWrite_ignored_row (x : Fin 8) {v : Word} {rq st : Nat} (hw : s.writeOk (tileBase x + TIL_CAP_PART.RQSZ.off) = true)
    (hrq : rq = TIL_CAP_PART.RQSZ.get v) (hst : st = TIL_CAP_PART.STBSZ.get v)
    (h : rq = 0 ∨ 16 < rq ∨ 16 < st ∨ 28 < rq + st ∨ s.isSet (tileBase x) TIL_RQ_CTRL.EN = true ∨ s.getF (tileBase x) TIL_RQ_LEVEL.COUNT ≠ 0 ∨
      s.isSet (tileBase x) TIL_STB_CTRL.EN = true ∨ s.trigBusy x = true) : Completes (.capPartitionWrite x v) s fun t =>
      t.isSet (tileBase x) TRG_STATUS.PIGN = true ∧ Frame { regs := fun a => a = tileBase x + TRG_STATUS.PIGN.off } s t := by
  subst hrq hst
  have hx : exec (.capPartitionWrite x v) s = done (s.setF (tileBase x) TRG_STATUS.PIGN 1) := by
    refine (exec_capPartitionWrite x hw).trans (congrArg done (if_neg ?_))
    rintro ⟨h1, h16, hs16, h28, hq, hc, hb, ht⟩
    rcases h with h | h | h | h | h | h | h | h
    · omega
    · omega
    · omega
    · omega
    · exact hq h
    · exact h hc
    · exact hb h
    · exact ht h
  refine completes_done hx ⟨?_, ((Exact.refl _ s).setF 1 rfl).settled⟩
  rw [State.settled_isSet _ (tileBase_follows x.isLt (by decide))]
  exact State.isSet_setF_self _ _ TRG_STATUS.PIGN 1 (by decide)

/-! ### TRIG_ARM (R190, R191) -/

theorem trigArm_refused {e : Ending} (h : s.ready? cmd opTRIGARM = some k) (he : s.trigArmCheck (k.pf 0 2 0) = some e) :
    Completes (.trigArm cmd) s (Answered cmd e {} s) := by
  refine completes_done (z := s.endCmd cmd e) ?_ (((Exact.refl _ s).mapCmds _ _).answered (State.cmd_of_ready h).1 rfl)
  show execTrigArm cmd s = _
  unfold execTrigArm
  rw [h]
  dsimp only
  rw [he]

theorem exec_trigArm_starts (h : s.ready? cmd opTRIGARM = some k) (he : s.trigArmCheck (k.pf 0 2 0) = none) :
    exec (.trigArm cmd) s = done ((s.modCmd cmd fun c => { c with started := true }).trigArm (k.pf 0 2 0) cmd) := by
  show execTrigArm cmd s = _
  unfold execTrigArm
  rw [h]
  dsimp only
  rw [he]

/-- The counts and FIRED are cleared. -/
def State.countsCleared (s : State) (x : Nat) : State := s.setFs (tileBase x) [(TRG_STATUS.SEGS, 0), (TRG_STATUS.FIRED, 0), (TRG_FIRECNT.COUNT, 0)]

/-- Counts and FIRED cleared, the tile's segments empty, the unit afresh for command cmd. -/
def State.armCleared (s : State) (x : Nat) (cmd : CmdRef) : State :=
  ((s.countsCleared x).sramClear fun a => decide ((s.countsCleared x).capStart x ≤ a ∧ a < capBase x + 0x200000)).modTrig x fun _ =>
    { run := some cmd, arm := s.trigDom x ≠ 0 && s.isSet (tileBase x) TRG_CTRL.MASTER }

/-- The unit in the state in which it begins. -/
def State.armBegun (s z : State) (x : Nat) : State :=
  z.setF (tileBase x) TRG_STATUS.STATE (if s.trigDom x = 0 ∨ s.isSet (tileBase x) TRG_CTRL.MASTER = true ∨ z.domArm (s.trigDom x) = true then 2 else 1)

theorem State.trigArm_eq (s : State) (x : Nat) (cmd : CmdRef) : s.trigArm x cmd =
    if s.trigDom x = 0 then s.armBegun (s.armCleared x cmd) x else (s.armBegun (s.armCleared x cmd) x).domArmed (s.trigDom x) := rfl

/-- What the start of a capture on tile x changes. -/
def armStartTouch (s : State) (x : Nat) : Touch :=
  { regs := fun a => ∃ y < 8, a = tileBase y + TRG_STATUS.STATE.off ∨ y = x ∧ a = tileBase y + TRG_FIRECNT.COUNT.off,
    sram := fun a => s.capStart x ≤ a ∧ a < capBase x + 0x200000, parts := fun x => { x with trigs := [] } }

theorem State.countsCleared_capStart (s : State) (x : Nat) : (s.countsCleared x).capStart x = s.capStart x := by
  unfold State.capStart State.countsCleared State.setFs
  simp only [List.foldl_cons, List.foldl_nil]
  iterate 2 rw [State.getF_setF_off _ _ (by decide), State.getF_setF_off _ _ (by decide), State.getF_setF_off _ _ (by decide)]

theorem Exact.armCleared {x : Nat} (hx : x < 8) (s : State) (cmd : CmdRef) : Exact (armStartTouch s x) s (s.armCleared x cmd) := by
  unfold State.armCleared
  rw [State.countsCleared_capStart]
  have hset : Exact (armStartTouch s x) s (s.countsCleared x) := by
    refine (Exact.refl _ s).setFs fun e he => ⟨x, hx, ?_⟩
    simp only [List.mem_cons, List.not_mem_nil, or_false] at he
    rcases he with rfl | rfl | rfl
    · exact .inl rfl
    · exact .inl rfl
    · exact .inr ⟨rfl, rfl⟩
  exact (hset.sramClear fun _ => id).modTrig _ _ fun _ _ => rfl

theorem State.armCleared_sram (s : State) {x a : Nat} (cmd : CmdRef) (hl : s.capStart x ≤ a) (hu : a < capBase x + 0x200000) :
    (s.armCleared x cmd).sramByte a = sramReset a := by
  unfold State.armCleared
  rw [State.countsCleared_capStart, State.sramByte_modTrig]
  exact State.sramByte_cleared _ hl hu

theorem State.armCleared_trig (s : State) (x : Nat) (cmd : CmdRef) :
    (s.armCleared x cmd).trig x = { run := some cmd, arm := s.trigDom x ≠ 0 && s.isSet (tileBase x) TRG_CTRL.MASTER } :=
  State.trig_modTrig_self ..

theorem State.armCleared_trig_ne (s : State) {x y : Nat} (h : y ≠ x) (cmd : CmdRef) : (s.armCleared x cmd).trig y = s.trig y := by
  unfold State.armCleared
  rw [State.trig_modTrig, if_neg (Ne.symm h), State.trig_sramClear]
  exact State.setFs_eq (fun z => z.trig y) (fun _ _ => rfl) s _ _

theorem State.armCleared_shows (s : State) (x : Nat) (cmd : CmdRef) : (s.armCleared x cmd).getF (tileBase x) TRG_STATUS.SEGS = 0 ∧
    (s.armCleared x cmd).getF (tileBase x) TRG_STATUS.FIRED = 0 ∧ (s.armCleared x cmd).getF (tileBase x) TRG_FIRECNT.COUNT = 0 := by
  unfold State.armCleared
  rw [State.getF_modTrig, State.getF_modTrig, State.getF_modTrig, State.getF_sramClear, State.getF_sramClear, State.getF_sramClear]
  unfold State.countsCleared State.setFs
  simp only [List.foldl_cons, List.foldl_nil]
  refine ⟨?_, ?_, State.getF_setF_self _ _ TRG_FIRECNT.COUNT 0 (by decide)⟩
  · rw [State.getF_setF_off _ _ (by decide), State.getF_setF_disj _ _ TRG_STATUS.FIRED TRG_STATUS.SEGS _ rfl (by decide)]
    exact State.getF_setF_self _ _ TRG_STATUS.SEGS 0 (by decide)
  · rw [State.getF_setF_off _ _ (by decide)]
    exact State.getF_setF_self _ _ TRG_STATUS.FIRED 0 (by decide)

/-- The arms of domains depend on the domains and arms of units and on the lines. -/
theorem State.domArm_congr (hd : ∀ t, z.trigDom t = s.trigDom t) (ha : ∀ t, (z.trig t).arm = (s.trig t).arm) (hl : z.domLines d = s.domLines d)
    (hline : z.armLine = s.armLine) : z.domArm d = s.domArm d := by
  unfold State.domArm
  simp only [hd, ha, hl, hline]

/-- A register that a start leaves: TRG_CTRL of a tile, or one of GLB. -/
theorem Exact.armStart_getF (h : Exact (armStartTouch s x) y z) {b : Nat} {f : Fld}
    (hb : b + f.off < 0x800000 ∨ ∃ t, b = tileBase t ∧ f.off = 0x3000) : z.getF b f = y.getF b f := by
  refine h.getF ?_
  rintro ⟨t, -, ht⟩
  have ht' : b + f.off = tileBase t + 0x3004 ∨ t = x ∧ b + f.off = tileBase t + 0x3014 := ht
  obtain hb | ⟨u, rfl, ho⟩ := hb
  · unfold tileBase at ht'
    omega
  · rw [ho] at ht'
    unfold tileBase at ht'
    omega

theorem Exact.armStart_dom (h : Exact (armStartTouch s x) y z) (t : Nat) : z.trigDom t = y.trigDom t := by
  unfold State.trigDom
  rw [h.armStart_getF (.inr ⟨t, rfl, rfl⟩)]

theorem Exact.armStart_lines (h : Exact (armStartTouch s x) y z) (d : Nat) : z.domLines d = y.domLines d ∧ z.armLine = y.armLine := by
  have harm := congrArg State.armLine h.parts
  refine ⟨?_, harm⟩
  unfold State.domLines State.lineFunc
  rw [h.armStart_getF (b := 0) (f := GLB_TRIG_CFG.LINES) (.inl (by decide))]

/-- A unit that is not its domain's master takes up no arm. -/
theorem State.armCleared_domArm {x : Nat} (hx : x < 8) (ha : (s.trig x).arm = false) (hm : s.isSet (tileBase x) TRG_CTRL.MASTER = false) (d : Nat) :
    (s.armCleared x cmd).domArm d = s.domArm d := by
  have h := Exact.armCleared hx s cmd
  refine State.domArm_congr h.armStart_dom (fun t => ?_) (h.armStart_lines d).1 (h.armStart_lines d).2
  by_cases e : t = x
  · subst e
    rw [State.armCleared_trig, ha, hm, Bool.and_false]
  · rw [State.armCleared_trig_ne s e]

theorem Exact.armBegun (h : Exact (armStartTouch s x) y z) (hx : x < 8) (s' : State) : Exact (armStartTouch s x) y (s'.armBegun z x) :=
  h.setF _ ⟨x, hx, .inl rfl⟩

theorem State.armBegun_domArm (s z : State) (x d : Nat) : (s.armBegun z x).domArm d = z.domArm d := by
  refine State.domArm_congr (fun t => z.trigDom_status x _ t) (fun t => ?_) ?_ ?_
  · unfold State.armBegun
    rw [State.trig_setF]
  · unfold State.armBegun State.domLines State.lineFunc
    rw [State.getF_setF_ne z (f := TRG_STATUS.STATE) (g := GLB_TRIG_CFG.LINES) (by
      show tileBase x + 0x3004 ≠ 0 + 0x60
      unfold tileBase
      omega) _]
  · unfold State.armBegun
    rw [State.setF_armLine]

/-- The state in which a capture begins (R190, R191). -/
theorem State.trigArm_state {x : Nat} (hx : x < 8) (ha : (s.trig x).arm = false) : (s.trigArm x cmd).getF (tileBase x) TRG_STATUS.STATE =
    if s.trigDom x = 0 ∨ s.isSet (tileBase x) TRG_CTRL.MASTER = true ∨ s.domArm (s.trigDom x) = true then 2 else 1 := by
  have hbegun : (s.armBegun (s.armCleared x cmd) x).getF (tileBase x) TRG_STATUS.STATE =
      if s.trigDom x = 0 ∨ s.isSet (tileBase x) TRG_CTRL.MASTER = true ∨ s.domArm (s.trigDom x) = true then 2 else 1 := by
    have hcond : (s.trigDom x = 0 ∨ s.isSet (tileBase x) TRG_CTRL.MASTER = true ∨ (s.armCleared x cmd).domArm (s.trigDom x) = true) ↔
        (s.trigDom x = 0 ∨ s.isSet (tileBase x) TRG_CTRL.MASTER = true ∨ s.domArm (s.trigDom x) = true) := by
      cases hm : s.isSet (tileBase x) TRG_CTRL.MASTER with
      | true => simp
      | false => rw [State.armCleared_domArm hx ha hm]
    unfold State.armBegun
    rw [State.getF_setF_self _ _ TRG_STATUS.STATE _ (by decide), if_congr hcond rfl rfl]
    split <;> rfl
  rw [State.trigArm_eq]
  split
  · exact hbegun
  · by_cases h1 : (s.armBegun (s.armCleared x cmd) x).getF (tileBase x) TRG_STATUS.STATE = 1
    · have harm : (s.armBegun (s.armCleared x cmd) x).domArm (s.trigDom x) = false := by
        rw [State.armBegun_domArm]
        refine Bool.eq_false_iff.2 fun e => absurd h1 ?_
        unfold State.armBegun
        rw [State.getF_setF_self _ _ TRG_STATUS.STATE _ (by decide), if_pos (.inr (.inr e))]
        decide
      rw [State.domArmed_eq, if_neg (Bool.eq_false_iff.1 harm)]
      exact hbegun
    · exact (State.domArmed_state_keeps h1).trans hbegun

/-- Where a start leads, by what domains' arms let change after it. -/
theorem State.trigArm_keeps {R : State → Prop} (h : R (s.armBegun (s.armCleared x cmd) x)) (hd : ∀ z d, R z → R (State.domArmed z d)) :
    R (s.trigArm x cmd) := by
  rw [State.trigArm_eq]
  exact ite_keeps (fun _ => h) fun _ => hd _ _ h

theorem Exact.trigArm {x : Nat} (hx : x < 8) (s : State) (cmd : CmdRef) : Exact (armStartTouch s x) s (s.trigArm x cmd) :=
  State.trigArm_keeps ((Exact.armCleared hx s cmd).armBegun hx s) fun _ d h => h.domArmed (fun k hk => ⟨k, hk, .inl rfl⟩) d

theorem State.trigArm_field {x : Nat} {f : Fld} (s : State) (cmd : CmdRef) (hf : f.off = 0x3004) (hl : 2 < f.lo) :
    (s.trigArm x cmd).getF (tileBase x) f = (s.armCleared x cmd).getF (tileBase x) f := by
  refine State.trigArm_keeps (R := fun z => z.getF (tileBase x) f = (s.armCleared x cmd).getF (tileBase x) f) ?_ fun z d h =>
    (z.domArmed_field d x hf hl).trans h
  unfold State.armBegun
  exact State.getF_setF_disj _ _ TRG_STATUS.STATE f _ hf.symm (.inr hl)

theorem State.trigArm_count (s : State) (x : Nat) (cmd : CmdRef) : (s.trigArm x cmd).getF (tileBase x) TRG_FIRECNT.COUNT = 0 := by
  refine State.trigArm_keeps (R := fun z => z.getF (tileBase x) TRG_FIRECNT.COUNT = 0) ?_ fun z d h => ?_
  · unfold State.armBegun
    rw [State.getF_setF_off _ _ (by decide)]
    exact (s.armCleared_shows x cmd).2.2
  · have hd : Exact { regs := fun a => ∃ k < 8, a = tileBase k + TRG_STATUS.STATE.off } z (z.domArmed d) :=
      Exact.domArmed (Exact.refl _ z) (fun k hk => Exists.intro k ⟨hk, rfl⟩) d
    refine (hd.getF ?_).trans h
    rintro ⟨k, -, hk⟩
    have hk' : tileBase x + 0x3014 = tileBase k + 0x3004 := hk
    unfold tileBase at hk'
    omega

/-- Apart from registers, a start leaves what clearing the unit leaves. -/
theorem State.trigArm_regs {α : Type} (g : State → α) (hg : ∀ x r, g { x with regs := r } = g x) (s : State) (x : Nat) (cmd : CmdRef) :
    g (s.trigArm x cmd) = g (s.armCleared x cmd) :=
  State.trigArm_keeps (R := fun z => g z = g (s.armCleared x cmd)) (hg _ _) fun z d h => (State.domArmed_regs g hg z d).trans h

theorem State.armCleared_cmds (s : State) (x : Nat) (cmd : CmdRef) : (s.armCleared x cmd).cmds = s.cmds := by
  unfold State.armCleared
  rw [State.modTrig_cmds, State.cmds_sramClear]
  exact State.setFs_eq State.cmds (fun _ _ => rfl) s _ _

theorem trigArm_row {x : Nat} (hx : x < 8) (h : s.ready? cmd opTRIGARM = some k) (hk : k.pf 0 2 0 = x) (hb : s.trigBusy x = false)
    (ha : (s.trig x).arm = false) (hp : s.post x ≤ s.segRec x) : Completes (.trigArm cmd) s fun t =>
      t.getF (tileBase x) TRG_STATUS.STATE =
        (if s.trigDom x = 0 ∨ s.isSet (tileBase x) TRG_CTRL.MASTER = true ∨ s.domArm (s.trigDom x) = true then 2 else 1) ∧
      t.getF (tileBase x) TRG_STATUS.SEGS = 0 ∧ t.isSet (tileBase x) TRG_STATUS.FIRED = false ∧ t.getF (tileBase x) TRG_FIRECNT.COUNT = 0 ∧
      (t.trig x).run = some cmd ∧ (t.trig x).segs = [] ∧ (∀ a, s.capStart x ≤ a → a < capBase x + 0x200000 → t.sramByte a = sramReset a) ∧
      Begun cmd (armStartTouch s x) s t := by
  have hcheck : s.trigArmCheck (k.pf 0 2 0) = none := by
    rw [hk]
    exact (if_neg (Bool.eq_false_iff.1 hb)).trans (if_neg (Nat.not_lt.2 hp))
  have hexec := exec_trigArm_starts h hcheck
  obtain ⟨hcmd, hop⟩ := State.cmd_of_ready h
  obtain ⟨-, href, -⟩ := State.mem_of_cmd hcmd
  have hf {z : State} {f : Fld} (ho : f.off < 0x10000) : z.settled.getF (tileBase x) f = z.getF (tileBase x) f := z.settled_getF (tileBase_follows hx ho)
  have hstate : ((s.modCmd cmd fun c => { c with started := true }).trigArm x cmd).getF (tileBase x) TRG_STATUS.STATE =
      if s.trigDom x = 0 ∨ s.isSet (tileBase x) TRG_CTRL.MASTER = true ∨ s.domArm (s.trigDom x) = true then 2 else 1 :=
    State.trigArm_state (s := s.modCmd cmd fun c => { c with started := true }) hx ha
  have hexact : Exact (armStartTouch s x) s ((s.modCmd cmd fun c => { c with started := true }).trigArm x cmd) :=
    ((Exact.refl _ s).mapCmds _ _).trans (Exact.trigArm hx (s.modCmd cmd fun c => { c with started := true }) cmd)
  have hsram : ∀ a, s.capStart x ≤ a → a < capBase x + 0x200000 →
      ((s.modCmd cmd fun c => { c with started := true }).armCleared x cmd).sramByte a = sramReset a := fun a hl hu =>
    State.armCleared_sram (s.modCmd cmd fun c => { c with started := true }) cmd hl hu
  rw [hk] at hexec
  generalize hs' : (s.modCmd cmd fun c => { c with started := true }) = s' at *
  obtain ⟨hsegs, hfired, -⟩ := s'.armCleared_shows x cmd
  have htrig := s'.trigArm_regs (fun z => z.trig x) (fun _ _ => rfl) x cmd
  have hcmds : (s'.trigArm x cmd).cmds = s'.cmds :=
    (s'.trigArm_regs State.cmds (fun _ _ => rfl) x cmd).trans (s'.armCleared_cmds _ _)
  refine completes_done hexec ⟨(hf (by decide)).trans hstate, ?_, ?_, (hf (by decide)).trans (s'.trigArm_count _ cmd), ?_, ?_, fun a hl hu => ?_,
    hexact.begun (f := fun c => { c with started := true }) hcmd (by rw [hop]; decide) href rfl (by rw [hcmds, ← hs'])⟩
  · rw [hf (by decide), s'.trigArm_field cmd rfl (by decide)]
    exact hsegs
  · rw [State.settled_isSet _ (tileBase_follows hx (by decide))]
    exact State.isSet_of_getF ((s'.trigArm_field cmd rfl (by decide)).trans hfired)
  · rw [State.settled_trig, htrig, State.armCleared_trig]
  · rw [State.settled_trig, htrig, State.armCleared_trig]
  · rw [State.sramByte_settled, s'.trigArm_regs (fun z => z.sramByte a) fun _ _ => rfl]
    exact hsram a hl hu

/-! ### CAPTURE_DUMP (R199) -/

/-- What a dump of tile x puts out, and whether some of what it asks for is not there. -/
def State.dumped (s : State) (x : Nat) (k : Cmd) : List Byte × Bool :=
  if bitB (k.p 0) 8 then
    (((List.range (s.stbHeld x)).filter fun i => decide (k.p 4 ≤ i ∧ i < k.p 4 + k.p 8)).flatMap (s.stbRecord x), decide (s.stbHeld x < k.p 4 + k.p 8))
  else
    (((s.trig x).segs.zipIdx.filter fun e => decide (k.p 4 ≤ e.2 ∧ e.2 < k.p 4 + k.p 8)).flatMap fun e => s.segDump e.1,
      decide ((s.trig x).segs.length < k.p 4 + k.p 8))

theorem exec_captureDump (h : s.ready? cmd opCAPDUMP = some k) : exec (.captureDump cmd) s =
    done ((s.output k (s.dumped (k.pf 0 2 0) k).1).1.endCmd cmd
      { status := scOK, partialDone := (s.dumped (k.pf 0 2 0) k).2 || (s.output k (s.dumped (k.pf 0 2 0) k).1).2,
        result := k.outLen (s.dumped (k.pf 0 2 0) k).1.length }) := by
  show execCaptureDump cmd s = _
  unfold execCaptureDump State.dumped
  rw [h]

theorem captureDump_row {bs : List Byte} {x n : Nat} (h : s.ready? cmd opCAPDUMP = some k) (hk : k.pf 0 2 0 = x)
    (hd : s.dumped x k = (bs, decide (n < k.p 4 + k.p 8))) : Completes (.captureDump cmd) s fun t =>
      Answered cmd { status := scOK, partialDone := decide (n < k.p 4 + k.p 8 ∨ k.raddr ≠ 0 ∧ k.rlen < bs.length), result := k.outLen bs.length }
        { host := fun a => k.raddr ≠ 0 ∧ k.raddr ≤ a ∧ a < k.raddr + min bs.length k.rlen } s t ∧
      (k.raddr ≠ 0 → memRead hostReset t.host k.raddr (min bs.length k.rlen) = bs.take k.rlen) := by
  have hx := exec_captureDump h
  rw [hk, hd] at hx
  dsimp only at hx
  rw [State.output_cut, ← Bool.decide_or] at hx
  exact completes_done hx ((Exact.refl _ s).answered_output (State.cmd_of_ready h).1 rfl fun _ => id)

/-- Settles O41, clause by clause: fires, edges of FIRE and ARM lines, the ends of hold-offs and captures, the partition, TRIG_ARM, CAPTURE_DUMP. A fire
changes one tile's unit and engines at a time, so that each unit's record is made from what the fire found. -/
theorem triggerRows : Obligations.TriggerRows := by
  unfold Obligations.TriggerRows
  rintro x s b rfl
  refine ⟨triggerFire_none_row x, fun o hs hm h8 hl => ?_, fun line q u hc ho hd hp hu => ?_, fireLineEdge_none_row, fun dom high q => ?_,
    fun hs hc hh => ⟨holdoffEnd_rearms_row x hs hc hh, fun r k hn hr hk => holdoffEnd_done_row x hs hc hh hn hr hk⟩, holdoffEnd_none_row x,
    fun r k hr hk => ⟨trigArmTimeout_none_row x hr hk, trigArmTimeout_row x hr hk⟩,
    fun v rq st hw hrq hst => ⟨capPartitionWrite_row x hw hrq hst, capPartitionWrite_ignored_row x hw hrq hst⟩,
    fun cmd k h hk => ⟨fun hb => trigArm_refused h ?_, fun hb hp => trigArm_refused h ?_, trigArm_row x.isLt h hk⟩,
    fun cmd k bs n h hk hd => captureDump_row h hk ?_⟩
  · obtain ⟨t, ht, ⟨hstate, hfired, hcount, hoffers, hseg, hwaits⟩, hdomain, hframe⟩ := triggerFire_row x hs hm h8 hl
    exact ⟨t, ht, ⟨hstate, hfired, hcount, hoffers, hseg, hwaits⟩, hdomain, hframe⟩
  · subst hu
    obtain ⟨t, ht, hstamp, hrec, hframe⟩ := fireLineEdge_row line q hc ho hd hp
    exact ⟨t, ht, hstamp, hrec x x.isLt, hframe⟩
  · obtain ⟨t, ht, hedge, hframe⟩ := armLineEdge_row (s := s) x dom high q
    exact ⟨t, ht, hedge.line, hedge.stamp, hedge.armed, hedge.ended, hframe⟩
  · rw [hk]
    exact if_pos hb
  · rw [hk]
    exact (if_neg (Bool.eq_false_iff.1 hb)).trans (if_pos hp)
  · obtain ⟨hbit, rfl, rfl⟩ | ⟨hbit, rfl, rfl⟩ := hd
    · exact if_pos hbit
    · exact if_neg (Bool.eq_false_iff.1 hbit)

end Sys2Proof.Machine
end

section
/-! PROOFS. A contact check that leaves a rotated channel's front-end in the moment its handback is asked for (R47, R72, R219). Settles O44. -/

namespace Sys2Proof.Machine

open Sys2Proof (Instr)

/-- The rotation of channel 70 by shade 2, at the end of its handover. -/
def rotationDone : Rot := { active := true, chan := 70, step := 7 }

/-- A conversion that channel 70's converter samples. -/
def sampling : Conv := { src := 0, gain := 0, samp := 0 }

/-- A READY module that waits to hand channel 70 back at the end of its conversion, while a contact check whose CH_CONTACT has ended stands at the
channel, its output still on. -/
def handbackWaits : State :=
  (((({ State.reset with inReset := false, rots := [(2, rotationDone)] }.setF 0 GLB_STATUS.STATE stREADY).setF (feB 70) CHN_FE_STATUS.EN 1).modFe 70
    fun f => { f with mode := 1, contact := some endedCheck }).modAdc 70 fun a => { a with conv := some sampling })

/-- Channel 70's converter hands back at its next boundary. -/
def State.handbackAsked (s : State) : State := s.modAdc 70 fun a => { a with hold := 3 }

/-- The check leaves, the disabling sequence begins, and the conversion under way is marked as made in a sequence step (R72). -/
theorem handbackWaits_settled : ((handbackWaits.handbackAsked.settled).adc 70).conv = some { sampling with seqst := true } := by
  have h : ((handbackWaits.handbackAsked.settleContacts.kickAll).adc 70).conv = some { sampling with seqst := true } := by decide +kernel
  unfold State.adc at h ⊢
  rw [State.settled_adcs]
  exact h

/-- Refutes O44: the row of a handback that waits says that the converter stands but for its hold, and does not ask, as the frame does, that no contact
check stands at the channel. In `handbackWaits` the check, whose CH_CONTACT has ended, leaves channel 70 in that moment (log entry 55): the output,
still on, starts its disabling sequence, and the conversion under way is marked as made in a sequence step. -/
theorem not_rotationRows : ¬ Obligations.RotationRows := by
  intro h
  obtain ⟨-, -, -, -, -, -, -, -, -, -, -, -, -, -, hwaits, -⟩ := h 2 handbackWaits _ _ rfl rfl
  obtain ⟨t, ht, hadc, -⟩ := hwaits (by decide +kernel) (by decide +kernel) (by decide +kernel)
  have hx : exec (.rotationHandback 2) handbackWaits = done handbackWaits.handbackAsked := by
    show execRotationHandback 2 handbackWaits = _
    unfold execRotationHandback
    dsimp only
    rw [if_neg (by decide +kernel), if_neg (by decide +kernel)]
    rfl
  rw [eq_settled (ht.symm.trans hx)] at hadc
  have hconv := congrArg Adc.conv hadc
  exact absurd (handbackWaits_settled.symm.trans hconv) (by decide +kernel)

end Sys2Proof.Machine
end

section
/-! PROOFS. Rotation passes that a commit starts (R215, R217, R222). Settles O55. -/

namespace Sys2Proof.Machine

open Sys2Proof (Instr)

variable {w : Touch} {s z : State} {x : Nat}

/-! ### Passes -/

/-- A pass of tile x is under way, and no channel is counted in it yet (R217). -/
structure State.PassBegun (s : State) (x : Nat) : Prop where
  pass : s.isSet (x * 0x10) CAL_TILE_ROT.PASS = true
  done : (s.tile x).passDone = 0

/-- Registers from 0x400000 up to 0x500000 do not follow a command (log entry 55). -/
theorem cal_follows {a : Nat} (hl : 0x400000 ≤ a) (hu : a < 0x500000) : follows a = false := by
  unfold follows
  rw [decide_eq_false_iff_not]
  omega

theorem calTile_follows {f : Fld} (hx : x < 8) (ho : 0x400000 ≤ f.off ∧ f.off < 0x401000) : follows (x * 0x10 + f.off) = false :=
  cal_follows (by omega) (by omega)

/-- The registers of CAL_TILE_ROT lie above those of the module's own. -/
theorem calTile_ne {f g : Fld} (x : Nat) (hf : f.off < 0x400100) (hg : 0x400100 ≤ g.off) : 0 + f.off ≠ x * 0x10 + g.off := by omega

theorem State.passStart_begun (s : State) (x : Nat) : (s.passStart x).PassBegun x where
  pass := State.isSet_of_getF ((State.getF_modTile ..).trans (s.getF_setF_self (x * 0x10) CAL_TILE_ROT.PASS 1 (by decide)))
  done := congrArg Tile.passDone (State.tile_modTile_self _ _ _)

theorem State.PassBegun.passStart (h : z.PassBegun x) (y : Nat) : (z.passStart y).PassBegun x := by
  by_cases he : y = x
  · exact he ▸ z.passStart_begun y
  · have hne : y * 0x10 + CAL_TILE_ROT.PASS.off ≠ x * 0x10 + CAL_TILE_ROT.PASS.off := by
      dsimp only
      omega
    have hpass : (z.passStart y).getF (x * 0x10) CAL_TILE_ROT.PASS = z.getF (x * 0x10) CAL_TILE_ROT.PASS :=
      (State.getF_modTile ..).trans (z.getF_setF_ne hne 1)
    have htile : (z.passStart y).tile x = z.tile x := (State.tile_modTile ..).trans ((if_neg he).trans (State.tile_setF ..))
    exact ⟨(State.isSet_of_getF hpass).trans h.pass, (congrArg Tile.passDone htile).trans h.done⟩

/-- What keeps PASS and the tiles keeps a pass begun. -/
theorem State.PassBegun.of_eq {y : State} (h : z.PassBegun x) (hr : y.rd (x * 0x10 + CAL_TILE_ROT.PASS.off) = z.rd (x * 0x10 + CAL_TILE_ROT.PASS.off))
    (ht : y.tiles = z.tiles) : y.PassBegun x where
  pass := (State.isSet_of_getF (congrArg CAL_TILE_ROT.PASS.get hr)).trans h.pass
  done := by
    unfold State.tile
    rw [ht]
    exact h.done

theorem State.PassBegun.settled (h : z.PassBegun x) (hx : x < 8) : z.settled.PassBegun x :=
  h.of_eq (z.settled_rd (calTile_follows (f := CAL_TILE_ROT.PASS) hx (by decide))) z.settled_tiles

theorem mem_bitsSet {n m k : Nat} : k ∈ bitsSet n m ↔ k < n ∧ m.testBit k = true := by
  simp [bitsSet]

/-- Of several passes started, each is under way. -/
theorem State.passStarts_begun {l : List Nat} (hx : x ∈ l) (s : State) : (l.foldl State.passStart s).PassBegun x :=
  foldl_reaches (P := fun _ => True) (Q := fun y => y.PassBegun x) hx (fun _ _ _ _ => trivial) (fun y _ => y.passStart_begun x) (fun _ k h => h.passStart k) trivial

/-! ### The commit edge (R222) -/

/-- The commit's latch, and the mark that the archive is behind. -/
def State.commitNoted (s : State) : State := { s.setF 0 IRQ_LATCH.CAL 1 with calDirty := true }

/-- No commit is asked for. -/
def State.commitOver (s : State) : State := { s with commitPend := false, commitCmds := [] }

/-- A unit's staged row comes into the committed buffer: its force path too where that was calibrated. -/
def State.takeUnit (s : State) (e : Nat × Option Nat) : State :=
  if e.2.isSome then (s.calTake (feRec e.1) 704).calTake (feRec e.1 + recForce) 8 else s.calTake (feRec e.1) 440

/-- A tile's staged record comes into the committed buffer, with its transfer's temperature and time where it has one. -/
def State.takeTile (xfer : Nat) (s : State) (t : Nat) : State :=
  let s := s.calTake (tileRec t + 16) 16
  if xfer.testBit t then (s.calTake (tileRec t) 2).calTake (tileRec t + 8) 8 else s

def State.tilesTaken (s : State) (xfer : Nat) : State := s.stagedTiles.foldl (State.takeTile xfer) s

/-- The uptimes of the units' force-path calibrations. -/
def State.unitTimes (s : State) (units : List (Nat × Option Nat)) : State :=
  { s with rotAt := units.foldl (fun m (e : Nat × Option Nat) => match e.2 with | some a => tabSet (fun _ => none) m e.1 (some a) | none => m) s.rotAt }

def State.tablesTaken (s : State) : State := s.timingNew.foldl (fun s e => s.takeTables e.1 e.2) s

/-- The header of the new generation (R224). -/
def State.genHeaded (s : State) (gen : Nat) (anchor : Bool) : State :=
  (((s.setF 0 CAL_GEN.GEN gen).calPut 6 2 gen).calPut 0x10 8 s.calTime).calPut 0x23 1 (b2n anchor)

/-- The staged rows in the committed buffer. -/
def State.rowsTaken (s : State) : State := ((s.stagedUnits.foldl State.takeUnit s).tilesTaken s.stagedXfer).unitTimes s.stagedUnits

/-- The generation after the present one. -/
def State.nextGen (s : State) : Nat := if s.gen = 0xFFFF then 1 else s.gen + 1

/-- The new generation in the committed buffer, but for what an anchor adds. -/
def State.rolesChanged (s : State) : State := s.rowsTaken.tablesTaken.genHeaded s.nextGen (s.isSet 0 CAL_STATUS.ANCHOR_STAGED)

/-- What a commit leaves for the passes to start from: the buffers have changed roles, and nothing is staged. -/
def State.committed (s : State) : State :=
  ((if s.isSet 0 CAL_STATUS.ANCHOR_STAGED then s.rolesChanged.commitAnchor s.nextGen else s.rolesChanged).genChanges).unstage

theorem State.commitNow_eq (s : State) : s.commitNow = ((bitsSet 8 s.stagedXfer).foldl State.passStart s.committed).commitNoted := rfl

/-- The commands that asked for the commit are answered, or wait for the archive. -/
def State.commitAnswered (s : State) (anchor : Bool) (cmds : List CmdRef) : State :=
  if anchor then s.archStart cmds else cmds.foldl (fun s r => s.endCmd r { status := scOK, result := s.gen }) s

theorem exec_commitEdge (hp : s.commitPend = true) : exec .commitEdge s =
    done ((if s.anyStaged then s.commitNow else s).commitOver.commitAnswered (s.isSet 0 CAL_STATUS.ANCHOR_STAGED) s.commitCmds) :=
  if_neg (not_not_intro hp)

/-- Answering changes commands, CAL_STATUS and the archive's queue only. -/
theorem State.PassBegun.commitAnswered (h : z.PassBegun x) (anchor : Bool) (cmds : List CmdRef) : (z.commitAnswered anchor cmds).PassBegun x := by
  refine ite_keeps (R := fun y => y.PassBegun x) (fun _ => ?_) fun _ =>
    foldl_keeps (R := fun y => y.PassBegun x) _ h fun _ _ g => g.of_eq rfl rfl
  refine ite_keeps (R := fun y => y.PassBegun x) (fun _ => h.of_eq rfl rfl) fun _ => h.of_eq ?_ rfl
  exact z.rd_setF_ne (f := CAL_STATUS.ARCH_BUSY) (calTile_ne x (by decide) (by decide)) 1

/-- Settles O55: every tile of which a transfer is staged is among those whose pass the commit starts, and what follows leaves a pass alone. -/
theorem transferStartsPass : Obligations.TransferStartsPass := by
  unfold Obligations.TransferStartsPass
  intro x s hp ha hx
  have hmem : x.val ∈ bitsSet 8 s.stagedXfer := mem_bitsSet.2 ⟨x.isLt, hx⟩
  have hnow : s.commitNow.commitOver.PassBegun x := by
    rw [s.commitNow_eq]
    exact (State.passStarts_begun hmem s.committed).of_eq (State.rd_setF_ne _ (f := IRQ_LATCH.CAL) (calTile_ne x (by decide) (by decide)) 1) rfl
  obtain ⟨hpass, hdone⟩ := (hnow.commitAnswered (s.isSet 0 CAL_STATUS.ANCHOR_STAGED) s.commitCmds).settled x.isLt
  refine completes_done (exec_commitEdge hp) ?_
  rw [ha]
  exact ⟨hpass, hdone⟩

end Sys2Proof.Machine
end

section
/-! PROOFS. SELFTEST and the ends of its tests (R231 to R233). Settles O46. -/

namespace Sys2Proof.Machine

open Sys2Proof (Instr)

variable {w : Touch} {s z : State} {cmd : CmdRef} {k c : Cmd}

/-! ### A command that ends or goes on -/

/-- Command r, c, is answered by a change that ends it, with nothing else done than what w allows. -/
theorem Exact.answeredBy {r : CmdRef} {e : Ending} {f : Cmd → Cmd} (h : Exact w s z) (hc : s.cmd? r = some c) (he : (f c).ending = some e)
    (hr : (f c).isRef r = true) (hz : z.cmds = (s.modCmd r f).cmds) : Answered r e w s z.settled where
  ended := ⟨f c, State.settled_ended (hz ▸ State.mem_modCmd_self hc f) (by rw [he]; exact Option.some_ne_none e), hr, he⟩
  others := State.others_settled hz
  frame := h.settled

theorem State.cmd_of_running {r : CmdRef} {op : Nat} (h : s.running? r op = some c) : s.cmd? r = some c ∧ c.started = true ∧ c.op = op := by
  unfold State.running? at h
  split at h
  · rename_i k hk
    split at h
    · rename_i hrun
      obtain rfl := Option.some.inj h
      exact ⟨hk, hrun.1, hrun.2⟩
    · cases h
  · cases h

theorem State.running_of_cmd {r : CmdRef} {op : Nat} (h : s.cmd? r = some c) (hs : c.started = true) (ho : c.op = op) : s.running? r op = some c := by
  unfold State.running?
  rw [h]
  exact if_pos ⟨hs, ho⟩

/-- A command that is changed without being ended is still the one of its reference. -/
theorem State.cmd_modCmd {r : CmdRef} {f : Cmd → Cmd} (h : s.cmd? r = some c)
    (hf : ∀ x, (f x).sq = x.sq ∧ (f x).tag = x.tag ∧ (f x).ending = x.ending) : (s.modCmd r f).cmd? r = some (f c) := by
  obtain ⟨hmem, href, hend⟩ := State.mem_of_cmd h
  have hsel : ∀ x : Cmd, decide ((if x.ending = none ∧ x.isRef r then f x else x).sq = r.sq ∧
      (if x.ending = none ∧ x.isRef r then f x else x).tag = r.tag ∧ (if x.ending = none ∧ x.isRef r then f x else x).ending = none) =
      decide (x.sq = r.sq ∧ x.tag = r.tag ∧ x.ending = none) := fun x => by
    split
    · obtain ⟨hsq, htag, he⟩ := hf x
      rw [hsq, htag, he]
    · rfl
  refine (List.find?_map ..).trans ?_
  rw [show (fun x : Cmd => decide (x.sq = r.sq ∧ x.tag = r.tag ∧ x.ending = none)) ∘ (fun x => if x.ending = none ∧ x.isRef r then f x else x) =
    fun x => decide (x.sq = r.sq ∧ x.tag = r.tag ∧ x.ending = none) from funext hsel]
  exact (congrArg (Option.map _) h).trans (congrArg some (if_pos ⟨hend, href⟩))

/-! ### Entries of a list -/

theorem mem_set_cases {α : Type} {l : List α} {n : Nat} {x y : α} (h : y ∈ l.set n x) : y = x ∨ ∃ m, m ≠ n ∧ l[m]? = some y := by
  obtain ⟨m, hm⟩ := List.mem_iff_getElem?.1 h
  by_cases hn : n = m
  · subst hn
    rw [List.getElem?_set_self'] at hm
    obtain ⟨_, -, rfl⟩ := Option.map_eq_some_iff.1 hm
    exact .inl rfl
  · exact .inr ⟨m, Ne.symm hn, (List.getElem?_set_ne hn) ▸ hm⟩

/-- A list parts at one of its places. -/
theorem split_at_place {α : Type} {l : List α} {n : Nat} {x : α} (h : l[n]? = some x) :
    ∃ pre post, l = pre ++ x :: post ∧ ∀ y, l.set n y = pre ++ y :: post := by
  obtain ⟨hn, rfl⟩ := List.getElem?_eq_some_iff.1 h
  refine ⟨l.take n, l.drop (n + 1), ?_, fun y => List.set_eq_take_append_cons_drop.trans (if_pos hn)⟩
  rw [← List.drop_eq_getElem_cons hn, List.take_append_drop]

/-! ### The entries written out, the end of the last test -/

/-- Entries take free values and nothing else. -/
theorem State.testEntries_eq (s : State) (l : List Test) : ∃ m, (s.testEntries l).2 = { s with free := m } := by
  induction l generalizing s with
  | nil => exact ⟨_, rfl⟩
  | cons x l ih =>
    have h : ∃ m, (s.testEntry x).2 = { s with free := m } := by
      unfold State.testEntry
      dsimp only
      split
      · exact ⟨_, rfl⟩
      · split <;> exact ⟨_, rfl⟩
    obtain ⟨m, hm⟩ := h
    obtain ⟨n, hn⟩ := ih (s.testEntry x).2
    refine ⟨n, ?_⟩
    rw [State.testEntries]
    dsimp only
    rw [hn, hm]

/-- A command's tests under way or ended. -/
def State.testsOf (s : State) (cmd : CmdRef) : List Test := s.tests.filter fun x => decide (x.cmd = cmd)

theorem State.mem_testsOf {x : Test} : x ∈ s.testsOf cmd ↔ x ∈ s.tests ∧ x.cmd = cmd := by
  simp [State.testsOf]

/-- A SELFTEST one of whose tests goes on, goes on. -/
theorem State.testsOver_waits {x : Test} (hx : x ∈ s.tests) (hc : x.cmd = cmd) (ho : x.outcome = none) : s.testsOver cmd = s := by
  have hany : (s.testsOf cmd).any (fun y => y.outcome.isNone) = true :=
    List.any_eq_true.2 ⟨x, State.mem_testsOf.2 ⟨hx, hc⟩, Option.isNone_iff_eq_none.2 ho⟩
  unfold State.testsOver
  dsimp only
  split
  · exact if_pos hany
  · rfl

/-- A SELFTEST's tests are over: they are dropped, and free values have been taken. -/
def State.testsDropped (s : State) (cmd : CmdRef) (m : Nat) : State :=
  { s with free := m, tests := s.tests.filter fun x => !decide (x.cmd = cmd) }

/-- How a SELFTEST ends whose tests l have ended (R233). -/
def testsEnding (l : List Test) : Ending where
  status := scOK
  partialDone := l.any fun x => x.outcome == some 2
  result := l.length + (l.filter fun x => x.outcome == some 1).length * 2 ^ 32

theorem State.testsOver_ends (h : s.running? cmd opSELFTEST = some k) (ho : ∀ x ∈ s.tests, x.cmd = cmd → x.outcome ≠ none) (hs : k.stopAsked = none)
    (h0 : k.raddr = 0) : ∃ m, s.testsOver cmd = (s.testsDropped cmd m).endCmd cmd (testsEnding (s.testsOf cmd)) := by
  have hany : ¬ (s.testsOf cmd).any (fun y => y.outcome.isNone) = true := fun e => by
    obtain ⟨x, hx, hn⟩ := List.any_eq_true.1 e
    obtain ⟨hmem, hc⟩ := State.mem_testsOf.1 hx
    exact ho x hmem hc (Option.isNone_iff_eq_none.1 hn)
  obtain ⟨m, hm⟩ := s.testEntries_eq (s.testsOf cmd)
  refine ⟨m, ?_⟩
  unfold State.testsOver
  rw [h]
  dsimp only
  refine (if_neg hany).trans ((if_neg (by rw [hs]; exact Bool.false_ne_true)).trans ?_)
  have hm' : (s.testEntries (s.tests.filter fun x => decide (x.cmd = cmd))).2 = { s with free := m } := hm
  rw [hm', State.output_none _ _ h0, Nat.shiftLeft_eq]
  rfl

/-! ### SELFTEST (R231, R232) -/

/-- Command cmd, a SELFTEST, is under way with the tests in l. -/
def State.selftestBegun (s : State) (cmd : CmdRef) (l : List Test) : State :=
  { s.modCmd cmd (fun k => { k with started := true }) with tests := s.tests ++ l }

/-- The tests that a SELFTEST names, as it begins: those of busy resources are NOT_RUN. -/
def State.testsNamed (s : State) (cmd : CmdRef) (k : Cmd) : List Test :=
  k.testUnits.map fun e => { cmd := cmd, code := e.1, unit := e.2, outcome := if s.testIdle e.1 e.2 then none else some 2 }

theorem exec_selftest (h : s.ready? cmd opSELFTEST = some k) :
    exec (.selftest cmd) s = done ((s.selftestBegun cmd (s.testsNamed cmd k)).testsOver cmd) := by
  show execSelftest cmd s = _
  unfold execSelftest
  rw [h]
  rfl

theorem Exact.set_tests (h : Exact w s z) (l : List Test) (hp : ∀ x l, w.parts { x with tests := l } = w.parts x) : Exact w s { z with tests := l } :=
  h.congr (hp z.parts l) rfl rfl rfl rfl rfl rfl rfl rfl

theorem Exact.selftestBegun (h : Exact w s z) (l : List Test) (hp : ∀ x l, w.parts { x with tests := l } = w.parts x) :
    Exact w s (z.selftestBegun cmd l) := (h.mapCmds _ _).set_tests _ hp

theorem Exact.testsDropped (h : Exact w s z) (m : Nat) (hp : ∀ x m l, w.parts { x with free := m, tests := l } = w.parts x) :
    Exact w s (z.testsDropped cmd m) := h.congr (hp z.parts m _) rfl rfl rfl rfl rfl rfl rfl rfl

/-- Where the new tests alone are dropped, free values are all that has changed. -/
theorem State.selftestBegun_dropped {l : List Test} (m : Nat) (h : (s.tests ++ l).filter (fun x => !decide (x.cmd = cmd)) = s.tests) :
    (s.selftestBegun cmd l).testsDropped cmd m = { s.modCmd cmd (fun k => { k with started := true }) with free := m } := by
  unfold State.testsDropped
  rw [show (s.selftestBegun cmd l).tests.filter (fun x => !decide (x.cmd = cmd)) = s.tests from h]
  rfl

theorem selftest_begins (h : s.ready? cmd opSELFTEST = some k) (hi : ∃ e ∈ k.testUnits, s.testIdle e.1 e.2 = true) :
    Completes (.selftest cmd) s fun t => t.tests = s.tests ++ s.testsNamed cmd k ∧ Begun cmd { parts := fun x => { x with tests := [] } } s t := by
  obtain ⟨hcmd, hop⟩ := State.cmd_of_ready h
  obtain ⟨e, he, hidle⟩ := hi
  have hmem : { cmd := cmd, code := e.1, unit := e.2, outcome := if s.testIdle e.1 e.2 then none else some 2 } ∈ s.testsNamed cmd k :=
    List.mem_map.2 ⟨e, he, rfl⟩
  have hx := exec_selftest h
  rw [State.testsOver_waits (s := s.selftestBegun cmd (s.testsNamed cmd k)) (List.mem_append_right _ hmem) rfl (if_pos hidle)] at hx
  exact completes_done hx ⟨State.settled_tests _, ((Exact.refl _ s).selftestBegun _ fun _ _ => rfl).begun (f := fun k => { k with started := true }) hcmd
    (by show k.op ≠ _; rw [hop]; decide) (State.mem_of_cmd hcmd).2.1 rfl rfl⟩

/-- Where no resource is idle, every test is NOT_RUN. -/
theorem State.testsNamed_busy (hb : ∀ e ∈ k.testUnits, s.testIdle e.1 e.2 = false) {x : Test} (hx : x ∈ s.testsNamed cmd k) :
    x.cmd = cmd ∧ x.outcome = some 2 := by
  obtain ⟨e, he, rfl⟩ := List.mem_map.1 hx
  exact ⟨rfl, if_neg (by rw [hb e he]; exact Bool.false_ne_true)⟩

theorem testsEnding_busy (hb : ∀ e ∈ k.testUnits, s.testIdle e.1 e.2 = false) : testsEnding (s.testsNamed cmd k) =
    { status := scOK, partialDone := !k.testUnits.isEmpty, result := k.testUnits.length } := by
  have hfail : (s.testsNamed cmd k).filter (fun x => x.outcome == some 1) = [] :=
    List.filter_eq_nil_iff.2 fun x hx => by
      rw [(State.testsNamed_busy hb hx).2]
      decide
  have hnone : (s.testsNamed cmd k).any (fun x => x.outcome == some 2) = !k.testUnits.isEmpty := by
    cases hu : k.testUnits with
    | nil =>
      unfold State.testsNamed
      rw [hu]
      rfl
    | cons e es =>
      have hmem : { cmd := cmd, code := e.1, unit := e.2, outcome := if s.testIdle e.1 e.2 then none else some 2 } ∈ s.testsNamed cmd k :=
        List.mem_map.2 ⟨e, hu ▸ List.mem_cons_self, rfl⟩
      exact List.any_eq_true.2 ⟨_, hmem, beq_iff_eq.2 (State.testsNamed_busy hb hmem).2⟩
  unfold testsEnding
  rw [hfail, hnone, State.testsNamed, List.length_map, List.length_nil, Nat.zero_mul, Nat.add_zero]

theorem selftest_ends (h : s.ready? cmd opSELFTEST = some k) (hb : ∀ e ∈ k.testUnits, s.testIdle e.1 e.2 = false) (hn : ∀ x ∈ s.tests, x.cmd ≠ cmd)
    (hs : k.stopAsked = none) (h0 : k.raddr = 0) : Completes (.selftest cmd) s fun t => t.tests = s.tests ∧
      Answered cmd { status := scOK, partialDone := !k.testUnits.isEmpty, result := k.testUnits.length } { parts := fun x => { x with free := 0 } } s t := by
  obtain ⟨hcmd, hop⟩ := State.cmd_of_ready h
  obtain ⟨-, href, -⟩ := State.mem_of_cmd hcmd
  have hold : s.tests.filter (fun x => decide (x.cmd = cmd)) = [] := List.filter_eq_nil_iff.2 fun x hx => by simpa using hn x hx
  have hnew : (s.testsNamed cmd k).filter (fun x => decide (x.cmd = cmd)) = s.testsNamed cmd k :=
    List.filter_eq_self.2 fun x hx => decide_eq_true (State.testsNamed_busy hb hx).1
  have hof : (s.selftestBegun cmd (s.testsNamed cmd k)).testsOf cmd = s.testsNamed cmd k := by
    refine (List.filter_append ..).trans ?_
    rw [hold, hnew, List.nil_append]
  have hrest : (s.tests ++ s.testsNamed cmd k).filter (fun x => !decide (x.cmd = cmd)) = s.tests := by
    rw [List.filter_append, List.filter_eq_self.2 fun x hx => by simpa using hn x hx,
      List.filter_eq_nil_iff.2 fun x hx => by simpa using (State.testsNamed_busy hb hx).1, List.append_nil]
  have hrun : (s.selftestBegun cmd (s.testsNamed cmd k)).running? cmd opSELFTEST = some { k with started := true } :=
    State.running_of_cmd (State.cmd_modCmd hcmd fun _ => ⟨rfl, rfl, rfl⟩) rfl hop
  have hend : ∀ x ∈ s.tests ++ s.testsNamed cmd k, x.cmd = cmd → x.outcome ≠ none := fun x hx hc => by
    obtain hx | hx := List.mem_append.1 hx
    · exact absurd hc (hn x hx)
    · rw [(State.testsNamed_busy hb hx).2]
      exact Option.some_ne_none _
  obtain ⟨m, hm⟩ := State.testsOver_ends hrun hend hs h0
  have hx := exec_selftest h
  rw [hm, hof, testsEnding_busy hb, State.selftestBegun_dropped m hrest] at hx
  refine completes_done hx ⟨State.settled_tests _,
    Exact.answeredBy (f := fun c => Cmd.finish { status := scOK, partialDone := !k.testUnits.isEmpty, result := k.testUnits.length } { c with started := true })
      ?_ hcmd rfl href ?_⟩
  · exact (((Exact.refl _ s).mapCmds _ _).set_free m fun _ _ => rfl).mapCmds _ _
  · refine (List.map_map ..).trans (List.map_congr_left fun x hx => ?_)
    by_cases hsel : x.ending = none ∧ x.isRef cmd = true
    · have hsel' : ({ x with started := true } : Cmd).ending = none ∧ ({ x with started := true } : Cmd).isRef cmd = true := hsel
      simp only [Function.comp_apply, if_pos hsel, if_pos hsel']
    · simp only [Function.comp_apply, if_neg hsel]

/-! ### SELFTEST_TEST_DONE (R231, R233) -/

/-- Test x, the n-th, has ended with outcome o. -/
def State.testEnded (s : State) (n : Nat) (x : Test) (o d : Nat) : State := { s with tests := s.tests.set n { x with outcome := some o, detail := d } }

theorem exec_testDone {n : Nat} {x : Test} (pass : Bool) (d : Word) (h : s.tests[n]? = some x) (ho : x.outcome = none) :
    exec (.selftestTestDone n pass d) s = done ((if pass then s.testEnded n x (b2n (!pass)) d.toNat else
      (s.testEnded n x (b2n (!pass)) d.toNat).testFails x d.toNat).testsOver x.cmd) := by
  show execSelftestTestDone n pass d s = _
  unfold execSelftestTestDone
  rw [h]
  dsimp only
  rw [if_neg (by rw [ho]; exact Bool.false_ne_true)]
  rfl

theorem testDone_none {n : Nat} (pass : Bool) (d : Word) (h : ∀ x, s.tests[n]? = some x → x.outcome ≠ none) :
    Completes (.selftestTestDone n pass d) s (Frame {} s) := by
  refine completes_done (z := s) ?_ (Exact.refl _ s).settled
  show execSelftestTestDone n pass d s = _
  unfold execSelftestTestDone
  split
  · rfl
  · rename_i x hx
    exact if_pos (Option.isSome_iff_ne_none.2 (h x hx))

/-- Another test of the command, one that goes on, is among those left. -/
theorem State.testEnded_pending {n : Nat} {x : Test} (o d : Nat) (h : ∃ m y, m ≠ n ∧ s.tests[m]? = some y ∧ y.cmd = x.cmd ∧ y.outcome = none) :
    ∃ y ∈ (s.testEnded n x o d).tests, y.cmd = x.cmd ∧ y.outcome = none := by
  obtain ⟨m, y, hm, hy, hc, ho⟩ := h
  exact ⟨y, List.mem_iff_getElem?.2 ⟨m, (List.getElem?_set_ne (Ne.symm hm)).trans hy⟩, hc, ho⟩

theorem testDone_passes {n : Nat} {x : Test} (d : Word) (h : s.tests[n]? = some x) (ho : x.outcome = none)
    (hp : ∃ m y, m ≠ n ∧ s.tests[m]? = some y ∧ y.cmd = x.cmd ∧ y.outcome = none) : Completes (.selftestTestDone n true d) s fun t =>
      t.tests = s.tests.set n { x with outcome := some 0, detail := d.toNat } ∧ Frame { parts := fun x => { x with tests := [] } } s t := by
  obtain ⟨y, hy, hc, hn⟩ := State.testEnded_pending 0 d.toNat hp
  have hx : exec (.selftestTestDone n true d) s = done ((s.testEnded n x 0 d.toNat).testsOver x.cmd) := exec_testDone true d h ho
  rw [State.testsOver_waits hy hc hn] at hx
  exact completes_done hx ⟨State.settled_tests _, ((Exact.refl _ s).set_tests _ fun _ _ => rfl).settled⟩

/-- What a failed test may change. -/
def testFailTouch : Touch where
  regs a := a = FLT_CLASS.DCNT.off + 4 * 0x0D ∨ a = FLT_BB_STATUS.LOST.off
  parts x := { x with tests := [], insts := [], lastCls := [], bbStage := [] }

theorem testFailTouch_pale : testFailTouch.Pale 0x0D := ⟨.inl rfl, .inr rfl, fun _ _ => rfl, fun _ _ => rfl, fun _ _ => rfl⟩

/-- A first detection at Pale leaves the tests alone. -/
theorem State.detectPale_tests (s : State) {cls scope unit : Nat} (d : Nat) (mom : Bool) (hf : (s.inst (instKey cls scope unit)).force = false) :
    (s.detectAt cls scope unit d 0 mom).tests = s.tests := by
  have hw : (paleTouch cls).Pale cls := ⟨Or.inl rfl, Or.inr rfl, fun _ _ => rfl, fun _ _ => rfl, fun _ _ => rfl⟩
  have hp := congrArg State.tests ((Exact.refl _ s).detectPale hw d mom hf).parts
  exact hp

/-- A channel that fails its test is out of tolerance (R233). -/
theorem State.testFails_channel {x : Test} {u : Nat} (d : Nat) (hc : x.code = 2 ∨ x.code = 3) (hu : x.unit = u) (hlt : u < 1024)
    (hl : s.getF (4 * 0x0D) FLT_CLASS.LEVEL = 0) : s.testFails x d = s.detectAt 0x0D scCHANNEL u d 0 true := by
  have hunit : s.faultUnit u = (scCHANNEL, u) := if_pos hlt
  unfold State.testFails
  rw [if_neg (by omega), if_neg (by omega), hu]
  unfold State.detectFe
  rw [hunit]
  exact State.detect_pale hl _ _ _

theorem testDone_fails {n u : Nat} {x : Test} (d : Word) (h : s.tests[n]? = some x) (ho : x.outcome = none)
    (hp : ∃ m y, m ≠ n ∧ s.tests[m]? = some y ∧ y.cmd = x.cmd ∧ y.outcome = none) (hc : x.code = 2 ∨ x.code = 3) (hu : x.unit = u) (hlt : u < 1024)
    (hf : (s.inst (instKey 0x0D scCHANNEL u)).force = false) (hl : s.getF (4 * 0x0D) FLT_CLASS.LEVEL = 0) :
    Completes (.selftestTestDone n false d) s fun t => t.tests = s.tests.set n { x with outcome := some 1, detail := d.toNat } ∧
      (t.inst (instKey 0x0D scCHANNEL u)).force = true ∧ (t.inst (instKey 0x0D scCHANNEL u)).detail = d.toNat ∧ Frame testFailTouch s t := by
  have hforce : ((s.testEnded n x 1 d.toNat).inst (instKey 0x0D scCHANNEL u)).force = false := hf
  have hx : exec (.selftestTestDone n false d) s = done (((s.testEnded n x 1 d.toNat).testFails x d.toNat).testsOver x.cmd) := exec_testDone false d h ho
  rw [State.testFails_channel (s := s.testEnded n x 1 d.toNat) _ hc hu hlt hl] at hx
  have htests := (s.testEnded n x 1 d.toNat).detectPale_tests d.toNat true hforce
  obtain ⟨y, hy, hyc, hn⟩ := State.testEnded_pending 1 d.toNat hp
  rw [State.testsOver_waits (htests ▸ hy) hyc hn] at hx
  obtain ⟨hshow, hdetail⟩ := (s.testEnded n x 1 d.toNat).detectAt_shows 0x0D scCHANNEL u d.toNat 0 true
  refine completes_done hx ⟨(State.settled_tests _).trans htests, ?_, ?_,
    (((Exact.refl testFailTouch s).set_tests _ fun _ _ => rfl).detectPale testFailTouch_pale _ _ hforce).settled⟩
  · rw [State.settled_inst]
    exact hshow
  · rw [State.settled_inst]
    exact hdetail

/-- The last test of a command to end, passed, changes neither what failed nor what was not run. -/
theorem testsEnding_passed {n : Nat} {x : Test} (d : Nat) (h : s.tests[n]? = some x) (ho : x.outcome = none) :
    testsEnding ((s.testEnded n x 0 d).testsOf cmd) = testsEnding (s.testsOf cmd) := by
  obtain ⟨pre, post, hl, hset⟩ := split_at_place h
  have hset' : (s.testEnded n x 0 d).tests = pre ++ { x with outcome := some 0, detail := d } :: post := hset _
  unfold State.testsOf testsEnding
  rw [hset', hl]
  by_cases hc : x.cmd = cmd
  · simp [hc, ho]
  · simp [hc]

theorem testDone_last {n : Nat} {x : Test} (d : Word) (h : s.tests[n]? = some x) (ho : x.outcome = none) (hc : x.cmd = cmd)
    (hr : s.running? cmd opSELFTEST = some k) (hs : k.stopAsked = none) (h0 : k.raddr = 0)
    (hall : ∀ m y, m ≠ n → s.tests[m]? = some y → y.cmd = cmd → y.outcome ≠ none) : Completes (.selftestTestDone n true d) s fun t =>
      (∀ y ∈ t.tests, y.cmd ≠ cmd) ∧ (∀ y ∈ s.tests, y.cmd ≠ cmd → y ∈ t.tests) ∧
      Answered cmd (testsEnding (s.testsOf cmd)) { parts := fun x => { x with tests := [], free := 0 } } s t := by
  obtain ⟨hcmd, -, -⟩ := State.cmd_of_running hr
  have hrun : (s.testEnded n x 0 d.toNat).running? cmd opSELFTEST = some k := hr
  have hend : ∀ y ∈ (s.testEnded n x 0 d.toNat).tests, y.cmd = cmd → y.outcome ≠ none := fun y hy hyc => by
    obtain rfl | ⟨m, hm, hy⟩ := mem_set_cases hy
    · exact Option.some_ne_none _
    · exact hall m y hm hy hyc
  obtain ⟨m, hm⟩ := State.testsOver_ends hrun hend hs h0
  have hx : exec (.selftestTestDone n true d) s = done ((s.testEnded n x 0 d.toNat).testsOver x.cmd) := exec_testDone true d h ho
  rw [hc, hm, testsEnding_passed d.toNat h ho] at hx
  have htests : ∀ y, y ∈ ((s.testEnded n x 0 d.toNat).testsDropped cmd m).tests ↔ y ∈ (s.testEnded n x 0 d.toNat).tests ∧ y.cmd ≠ cmd := fun y => by
    simp [State.testsDropped]
  refine completes_done hx ⟨fun y hy => ?_, fun y hy hyc => ?_, ?_⟩
  · rw [State.settled_tests] at hy
    exact ((htests y).1 hy).2
  · rw [State.settled_tests]
    refine (htests y).2 ⟨?_, hyc⟩
    obtain ⟨j, hj⟩ := List.mem_iff_getElem?.1 hy
    refine List.mem_iff_getElem?.2 ⟨j, (List.getElem?_set_ne fun e => hyc ?_).trans hj⟩
    subst e
    rw [Option.some.inj (hj.symm.trans h)]
    exact hc
  · have hexact : Exact { parts := fun x => { x with tests := [], free := 0 } } s (s.testEnded n x 0 d.toNat) :=
      (Exact.refl _ s).set_tests _ fun _ _ => rfl
    exact ((hexact.testsDropped m fun _ _ _ => rfl).mapCmds _ _).answered hcmd rfl

/-- Settles O46: a SELFTEST with a test that goes on waits for it; without one it ends with its tests dropped. -/
theorem selftestRows : Obligations.SelftestRows := by
  unfold Obligations.SelftestRows
  intro cmd k s l
  refine ⟨?_, selftest_ends, fun n => testDone_none, fun n x => testDone_passes, fun n u x => testDone_fails, ?_⟩
  · rintro h hi rfl
    exact selftest_begins h hi
  · rintro n x d h ho hc hr hs h0 hall rfl
    exact testDone_last d h ho hc hr hs h0 hall

end Sys2Proof.Machine
end

section
/-! SUPPORT. Calibration records: what puts bytes into the buffers, a front-end's and a shade's state, the channels that are OWED (R216, R221, R224). -/

namespace Sys2Proof.Machine

variable {w : Touch} {s z : State} {u c nn a : Nat}

/-! ### The committed buffer -/

theorem Exact.calPut (h : Exact w s z) (o n v : Nat) (hw : ∀ a, calBase + o ≤ a → a < calBase + o + n → w.sram a) : Exact w s (z.calPut o n v) :=
  h.sramSet v hw

/-- A place in the record of a front-end. -/
theorem Exact.recPut (h : Exact w s z) (u i n v : Nat) (hw : ∀ a, calBase + feRec u + i ≤ a → a < calBase + feRec u + i + n → w.sram a) :
    Exact w s (z.calPut (feRec u + i) n v) :=
  h.calPut _ _ _ (by simpa only [← Nat.add_assoc] using hw)

/-- Bytes written to the SRAM. -/
def State.sramPut (s : State) (a : Nat) (bs : List Byte) : State := { s with sram := memWrite sramReset s.sram a bs }

theorem Exact.sramPut (h : Exact w s z) {a : Nat} {bs : List Byte} (hw : ∀ k, a ≤ k → k < a + bs.length → w.sram k) : Exact w s (z.sramPut a bs) :=
  { h with
    sram := fun k hk => (tabGet_memWrite_out _ _ _ (by
      by_contra hc
      exact hk (hw k (by omega) (by omega)))).trans (h.sram k hk) }

theorem State.sramPut_byte (s : State) (a : Nat) {bs : List Byte} {i : Nat} (hi : i < bs.length) : (s.sramPut a bs).sramByte (a + i) = bs.getD i 0 :=
  (tabGet_memWrite_in _ _ _ hi).trans (List.getD_eq_getElem _ _ hi).symm

theorem Exact.putRow (h : Exact w s z) (base u : Nat) (data : List Byte) (hw : ∀ k, base + feRec u ≤ k → k < base + feRec u + 704 → w.sram k) :
    Exact w s (z.putRow base u data) :=
  h.sramPut fun k hl hu => hw k hl (by
    rw [List.length_take] at hu
    omega)

/-- A row of 704 bytes stands where it was put. -/
theorem State.putRow_byte (s : State) (base u : Nat) {data : List Byte} (hd : data.length = 704) {j : Nat} (hj : j < 704) :
    (s.putRow base u data).sramByte (base + feRec u + j) = data.getD j 0 := by
  have ht : data.take 704 = data := List.take_of_length_le (by omega)
  unfold State.putRow
  rw [ht]
  exact s.sramPut_byte _ (by omega)

/-! ### The calibration state of a front-end, the state of a shade -/

/-- What the calibration state of front-end u is kept in. -/
def calStateTouch (u : Nat) : Touch where
  regs a := a = 4 * u + CAL_FE_STATE.STATE.off
  sram a := calBase + feRec u + 704 ≤ a ∧ a < calBase + feRec u + 706

theorem Exact.setCalState (s : State) (u st fails : Nat) : Exact (calStateTouch u) s (s.setCalState u st fails) := by
  have h1 : Exact (calStateTouch u) s (s.setFs (4 * u) [(CAL_FE_STATE.STATE, st), (CAL_FE_STATE.FAILS, fails)]) :=
    (Exact.refl _ s).setFs fun e he => by fin_cases he <;> rfl
  refine (h1.recPut u recState 1 st fun a hl hu => ?_).recPut u recFails 1 fails fun a hl hu => ?_
  · unfold recState at hl hu
    have g : calBase + feRec u + 704 ≤ a ∧ a < calBase + feRec u + 706 := by omega
    exact g
  · unfold recFails at hl hu
    have g : calBase + feRec u + 704 ≤ a ∧ a < calBase + feRec u + 706 := by omega
    exact g

/-- What the state of shade nn is kept in. -/
def shadeTouch (nn : Nat) : Touch where
  regs a := a = nn / 4 * 0x10 + CAL_TILE_SHD.STATE.off ∨ a = 4 * (1024 + nn) + CAL_FE_STATE.STATE.off
  sram a := a = calBase + tileRec (nn / 4) + 32 ∨ calBase + feRec (1024 + nn) + 704 ≤ a ∧ a < calBase + feRec (1024 + nn) + 706

theorem Exact.setShade (s : State) (nn st : Nat) : Exact (shadeTouch nn) s (s.setShade nn st) := by
  unfold State.setShade
  extract_lets b old k v s1
  have h0 : Exact (shadeTouch nn) s (s.setF b CAL_TILE_SHD.STATE v) := (Exact.refl _ s).setF v (.inl rfl)
  have h1 : Exact (shadeTouch nn) s s1 := h0.calPut (tileRec (nn / 4) + 32) 1 v fun a hl hu => by
    have g : a = calBase + tileRec (nn / 4) + 32 := by omega
    exact .inl g
  exact h1.trans ((Exact.setCalState s1 (1024 + nn) _ 0).widen (fun _ => .inr) (fun _ => .inr) (fun _ => id) (fun _ => id) (fun _ => id) (fun _ => id)
    (fun _ => id) (fun _ => id) fun _ => rfl)

/-- Two bits of a byte, replaced. -/
theorem bits_replaced {old k st : Nat} (ho : old < 256) (hk : k < 4) (hs : st < 4) :
    bits ((old - bits old (2 * k + 1) (2 * k) * 4 ^ k + st * 4 ^ k) % 2 ^ 8) (2 * k + 1) (2 * k) = st := by
  have h4 : 2 ^ (2 * k + 1 + 1 - 2 * k) = 4 := by
    rw [show 2 * k + 1 + 1 - 2 * k = 2 by omega]
    rfl
  unfold bits
  rw [h4]
  simp only [Nat.shiftRight_eq_div_pow, Nat.pow_mul]
  obtain rfl | rfl | rfl | rfl : k = 0 ∨ k = 1 ∨ k = 2 ∨ k = 3 := by omega
  all_goals norm_num
  all_goals omega

theorem State.setShade_state (s : State) (nn : Nat) {st : Nat} (hs : st < 4) : (s.setShade nn st).shadeState nn = st := by
  unfold State.setShade
  extract_lets b old k v s1
  have hcal := (Exact.setCalState s1 (1024 + nn) (if st = 0 then 0 else if st = 1 then 3 else 4) 0).getF (b := b) (f := CAL_TILE_SHD.STATE)
    (fun e => by
      have e' : nn / 4 * 0x10 + 0x400108 = 4 * (1024 + nn) + 0x401000 := e
      omega)
  have hput : s1.getF b CAL_TILE_SHD.STATE = v % 2 ^ 8 := (State.getF_sramSet ..).trans (s.getF_setF_self b CAL_TILE_SHD.STATE v (by decide))
  unfold State.shadeState
  rw [show nn / 4 * 0x10 = b from rfl, hcal, hput]
  exact bits_replaced (s.getF_lt b CAL_TILE_SHD.STATE) (Nat.mod_lt _ (by decide)) hs

/-- The state of a shade is read from its tile's register. -/
theorem Exact.shadeState (h : Exact w s z) (hn : ¬ w.regs (nn / 4 * 0x10 + CAL_TILE_SHD.STATE.off)) : z.shadeState nn = s.shadeState nn := by
  unfold State.shadeState
  rw [h.getF hn]

theorem Exact.isSet {b : Nat} {f : Fld} (h : Exact w s z) (hn : ¬ w.regs (b + f.off)) : z.isSet b f = s.isSet b f := State.isSet_of_getF (h.getF hn)

theorem State.settled_shadeState (s : State) (hn : nn < 32) : s.settled.shadeState nn = s.shadeState nn := by
  unfold State.shadeState
  rw [State.settled_getF _ (calTile_follows (f := CAL_TILE_SHD.STATE) (by omega) (by decide))]

/-! ### Channels that are OWED (R216) -/

/-- What the mark of a channel that is OWED and its tile's count of them are kept in. -/
def oweRegs (c a : Nat) : Prop := a = 4 * c + CAL_FE_STATE.OWED.off ∨ a = c / 128 * 0x10 + CAL_TILE_ROT.OWED.off

theorem Exact.owe (h : Exact w s z) (hw : ∀ a, oweRegs c a → w.regs a) : Exact w s (z.owe c) :=
  .ite (fun _ => h) fun _ => (h.setF (f := CAL_FE_STATE.OWED) 1 (hw _ (.inl rfl))).incSat 1 (hw _ (.inr rfl))

theorem Exact.unowe (h : Exact w s z) (hw : ∀ a, oweRegs c a → w.regs a) : Exact w s (z.unowe c) :=
  .ite (fun _ => (h.setF (f := CAL_FE_STATE.OWED) 0 (hw _ (.inl rfl))).setF (f := CAL_TILE_ROT.OWED) _ (hw _ (.inr rfl))) fun _ => h

theorem State.owe_eq {α : Type} (g : State → α) (hg : ∀ x r, g { x with regs := r } = g x) (s : State) (c : Nat) : g (s.owe c) = g s :=
  ite_keeps (R := fun x => g x = g s) (fun _ => rfl) fun _ => (hg _ _).trans (hg s _)

theorem State.unowe_eq {α : Type} (g : State → α) (hg : ∀ x r, g { x with regs := r } = g x) (s : State) (c : Nat) : g (s.unowe c) = g s :=
  ite_keeps (R := fun x => g x = g s) (fun _ => (hg _ _).trans (hg s _)) fun _ => rfl

/-- The counts of OWED channels stand apart from the front-ends' calibration states. -/
theorem oweCount_ne {f : Fld} (ho : 0x401000 ≤ f.off) (hc : c < 1024) : c / 128 * 0x10 + CAL_TILE_ROT.OWED.off ≠ 4 * a + f.off := by
  dsimp only
  omega

theorem State.owe_owed (s : State) (hc : c < 1024) : (s.owe c).isSet (4 * c) CAL_FE_STATE.OWED = true := by
  by_cases h : s.isSet (4 * c) CAL_FE_STATE.OWED = true
  · unfold State.owe
    rw [if_pos h]
    exact h
  · unfold State.owe
    rw [if_neg h]
    exact (State.isSet_of_getF (State.getF_setF_ne _ (oweCount_ne (by decide) hc) _)).trans (s.isSet_setF_self (4 * c) CAL_FE_STATE.OWED 1 (by decide))

theorem State.unowe_owed (s : State) (hc : c < 1024) : (s.unowe c).isSet (4 * c) CAL_FE_STATE.OWED = false := by
  by_cases h : s.isSet (4 * c) CAL_FE_STATE.OWED = true
  · unfold State.unowe
    rw [if_pos h]
    exact (State.isSet_of_getF (State.getF_setF_ne _ (oweCount_ne (by decide) hc) _)).trans (s.isSet_setF_self (4 * c) CAL_FE_STATE.OWED 0 (by decide))
  · unfold State.unowe
    rw [if_neg h]
    exact Bool.eq_false_iff.2 h

/-- A channel that is OWED stays so as another one comes to be. -/
theorem State.owe_keeps (hs : s.isSet (4 * c) CAL_FE_STATE.OWED = true) {d : Nat} (hd : d < 1024) : (s.owe d).isSet (4 * c) CAL_FE_STATE.OWED = true := by
  by_cases he : d = c
  · exact he ▸ s.owe_owed hd
  · refine ((((Exact.refl { regs := oweRegs d } s).owe fun _ => id).isSet ?_)).trans hs
    rintro (h | h)
    · exact he (by
        have h' : 4 * c + 0x401000 = 4 * d + 0x401000 := h
        omega)
    · exact oweCount_ne (f := CAL_FE_STATE.OWED) (by decide) hd h.symm

end Sys2Proof.Machine
end

section
/-! PROOFS. CAL_ROTATE (R216 to R218, R229, R230, R364). Settles O45. -/

namespace Sys2Proof.Machine

open Sys2Proof (Instr)

variable {w : Touch} {s z : State} {cmd : CmdRef} {k c : Cmd} {nn i : Nat}

/-! ### A command's start -/

/-- A command as it starts to wait for the units in busy. -/
def Cmd.startedFor (busy : List Nat) (acc : Nat) (c : Cmd) : Cmd := { c with started := true, busy := busy, acc := acc }

theorem State.startCmd_busy {busy : List Nat} (h : busy ≠ []) (s : State) (r : CmdRef) (acc : Nat) :
    s.startCmd r busy acc = s.modCmd r (Cmd.startedFor busy acc) := by
  unfold State.startCmd
  simp only [if_neg h]
  rfl

theorem State.startCmd_idle (s : State) (r : CmdRef) (acc : Nat) :
    s.startCmd r [] acc = s.modCmd r fun c => (c.startedFor [] acc).finishOk := by
  unfold State.startCmd
  simp only [if_true]
  rfl

/-- Command r, c, one that measures nothing, is started. -/
theorem State.started_settled {r : CmdRef} {f : Cmd → Cmd} (hc : s.cmd? r = some c) (hop : (f c).op ≠ opMEASURE) (hr : (f c).isRef r = true)
    (hs : (f c).started = true) (hz : z.cmds = (s.modCmd r f).cmds) : ∃ x ∈ z.settled.cmds, x.isRef r = true ∧ x.started = true := by
  have hst : (f c).StandsIn z := ⟨f c, hz ▸ State.mem_modCmd_self hc f, ⟨rfl, rfl, rfl, rfl, rfl, rfl, rfl, rfl, fun _ => rfl⟩⟩
  obtain ⟨x, hx, g⟩ := hst.settled hop
  exact ⟨x, hx, (g.isRef r).trans hr, g.started.trans hs⟩

/-- A row that only ends its command answers it. -/
theorem completes_ended {i : Instr} {r : CmdRef} {e : Ending} (hc : s.cmd? r = some c) (hx : exec i s = done (s.endCmd r e)) :
    Completes i s (Answered r e {} s) := completes_done hx (((Exact.refl _ s).mapCmds _ _).answered hc rfl)

/-! ### PASS (R217) -/

/-- What the start of passes may change. -/
def passTouch : Touch where
  regs a := ∃ x < 8, a = x * 0x10 + CAL_TILE_ROT.PASS.off
  parts x := { x with tiles := [] }

theorem Exact.passStart {x : Nat} (h : Exact w s z) (ha : w.regs (x * 0x10 + CAL_TILE_ROT.PASS.off)) (hp : ∀ x l, w.parts { x with tiles := l } = w.parts x) :
    Exact w s (z.passStart x) := by
  have h1 : Exact w s (z.setF (x * 0x10) CAL_TILE_ROT.PASS 1) := h.setF 1 ha
  exact h1.modTile x _ hp

theorem Exact.passStarts {l : List Nat} (h : Exact passTouch s z) (hl : ∀ x ∈ l, x < 8) : Exact passTouch s (l.foldl State.passStart z) :=
  .foldl l h fun _ x hx g => g.passStart ⟨x, hl x hx, rfl⟩ fun _ _ => rfl

theorem State.passStart_cmds (s : State) (x : Nat) : (s.passStart x).cmds = s.cmds := by
  unfold State.passStart
  rw [State.modTile_cmds, State.setF_cmds]

theorem State.passStarts_cmds (s : State) (l : List Nat) : (l.foldl State.passStart s).cmds = s.cmds :=
  foldl_keeps (R := fun y => y.cmds = s.cmds) l rfl fun y x g => (y.passStart_cmds x).trans g

/-- A pass goes on while a channel of its tile is neither counted nor OWED nor remapped. -/
theorem State.passCheck_waits {t l : Nat} (hl : l < 128) (hd : (s.tile t).passDone.testBit l = false)
    (ho : s.isSet (4 * (t * 128 + l)) CAL_FE_STATE.OWED = false) (hm : s.isSet (feB (t * 128 + l)) CHN_FE_STATUS.REMAPPED = false) : s.passCheck t = s := by
  refine if_neg fun h => ?_
  have hall := List.all_eq_true.1 h.2 l (List.mem_range.2 hl)
  rw [hd, ho, hm] at hall
  exact Bool.false_ne_true hall

theorem exec_rotatePass (h : s.ready? cmd opROTATE = some k) (hp : k.pf 0 2 0 = 0) : exec (.calRotatePass cmd) s =
    if s.mode = stSERVICE then done (s.endCmd cmd { status := scSTATE, detail := 1 })
    else done ((bitsSet 8 (k.pf 0 15 8)).foldl State.passCheck (((bitsSet 8 (k.pf 0 15 8)).foldl State.passStart s).startCmd cmd (bitsSet 8 (k.pf 0 15 8)) 0)) := by
  show execCalRotatePass cmd s = _
  unfold execCalRotatePass
  rw [h]
  exact if_neg (not_not_intro hp)

theorem rotatePass_begins (h : s.ready? cmd opROTATE = some k) (hp : k.pf 0 2 0 = 0) (hm : s.mode ≠ stSERVICE)
    (hopen : ∀ x ∈ bitsSet 8 (k.pf 0 15 8), ∃ l < 128, s.isSet (4 * (x * 128 + l)) CAL_FE_STATE.OWED = false ∧
      s.isSet (feB (x * 128 + l)) CHN_FE_STATUS.REMAPPED = false) (hne : bitsSet 8 (k.pf 0 15 8) ≠ []) :
    Completes (.calRotatePass cmd) s fun t => Begun cmd passTouch s t ∧
      ∀ x ∈ bitsSet 8 (k.pf 0 15 8), t.isSet (x * 0x10) CAL_TILE_ROT.PASS = true ∧ (t.tile x).passDone = 0 := by
  obtain ⟨hcmd, hop⟩ := State.cmd_of_ready h
  have hx := exec_rotatePass h hp
  rw [if_neg hm] at hx
  have hlt : ∀ x ∈ bitsSet 8 (k.pf 0 15 8), x < 8 := fun x hx => (mem_bitsSet.1 hx).1
  generalize bitsSet 8 (k.pf 0 15 8) = ts at *
  have hexact : Exact passTouch s (ts.foldl State.passStart s) := (Exact.refl _ s).passStarts hlt
  have hwaits : ts.foldl State.passCheck ((ts.foldl State.passStart s).startCmd cmd ts 0) = (ts.foldl State.passStart s).startCmd cmd ts 0 := by
    refine foldl_fixed fun x hx => ?_
    obtain ⟨l, hl, ho, hr⟩ := hopen x hx
    refine State.passCheck_waits hl ?_ ((hexact.isSet ?_).trans ho) ((hexact.isSet ?_).trans hr)
    · have hd : (((ts.foldl State.passStart s).startCmd cmd ts 0).tile x).passDone = 0 := (State.passStarts_begun hx s).done
      rw [hd]
      exact Nat.zero_testBit l
    · rintro ⟨y, hy, he⟩
      have he' : 4 * (x * 128 + l) + 0x401000 = y * 0x10 + 0x400104 := he
      omega
    · rintro ⟨y, hy, he⟩
      exact lt_feB (a := y * 0x10 + 0x400104) (by omega) _ he.symm
  rw [hwaits, State.startCmd_busy hne] at hx
  refine completes_done hx ⟨(hexact.mapCmds _ _).begun hcmd (f := Cmd.startedFor ts 0)
    (by show k.op ≠ _; rw [hop]; decide) (State.mem_of_cmd hcmd).2.1 rfl (State.modCmd_cmds (s.passStarts_cmds ts) _ _), fun x hx => ?_⟩
  obtain ⟨hpass, hdone⟩ := ((State.passStarts_begun hx s).of_eq (y := (ts.foldl State.passStart s).modCmd cmd (Cmd.startedFor ts 0)) rfl rfl).settled (hlt x hx)
  exact ⟨hpass, hdone⟩

/-! ### CHANNELS (R216, R364) -/

/-- A channel that CAL_ROTATE waits for: eligible, or rotated at this moment. -/
def State.rotatable (s : State) (c : Nat) : Bool := s.eligible c || (s.rot (shadeOf c)).active

theorem exec_rotateChannels (h : s.ready? cmd opROTATE = some k) (hp : k.pf 0 2 0 = 1) : exec (.calRotateChannels cmd) s =
    if s.mode = stSERVICE then done (s.endCmd cmd { status := scSTATE, detail := 1 })
    else if k.chans.any s.faultHolds then done (s.endCmd cmd { status := scSTATE, detail := 2 })
    else done (((k.chans.filter fun c => !s.rotatable c).foldl State.owe s).startCmd cmd (k.chans.filter s.rotatable)
      ((k.chans.filter fun c => !s.rotatable c).length * 2 ^ 32)) := by
  show execCalRotateChannels cmd s = _
  unfold execCalRotateChannels
  rw [h]
  exact if_neg (not_not_intro hp)

/-- What channels of l that come to be OWED may change. -/
def oweTouch (l : List Nat) : Touch where
  regs a := (∃ c ∈ l, a = 4 * c + CAL_FE_STATE.OWED.off) ∨ ∃ x < 8, a = x * 0x10 + CAL_TILE_ROT.OWED.off

theorem Exact.oweAll {l m : List Nat} (h : Exact (oweTouch m) s z) (hl : ∀ c ∈ l, c ∈ m ∧ c < 1024) : Exact (oweTouch m) s (l.foldl State.owe z) :=
  .foldl l h fun _ c hc g => g.owe fun _ ha => ha.imp (fun e => ⟨c, (hl c hc).1, e⟩) fun e => ⟨c / 128, by have := (hl c hc).2; omega, e⟩

theorem State.oweAll_owed {l : List Nat} (hl : ∀ c ∈ l, c < 1024) (s : State) {c : Nat} (hc : c ∈ l) :
    (l.foldl State.owe s).isSet (4 * c) CAL_FE_STATE.OWED = true := by
  obtain ⟨pre, post, rfl⟩ := List.append_of_mem hc
  rw [List.foldl_append, List.foldl_cons]
  exact foldl_keeps_mem (R := fun y => y.isSet (4 * c) CAL_FE_STATE.OWED = true) post (State.owe_owed _ (hl c hc))
    fun y d hd g => y.owe_keeps g (hl d (by simp [hd]))

theorem State.oweAll_cmds (s : State) (l : List Nat) : (l.foldl State.owe s).cmds = s.cmds :=
  foldl_keeps (R := fun y => y.cmds = s.cmds) l rfl fun y c g => (y.owe_eq State.cmds (fun _ _ => rfl) c).trans g

theorem feState_follows {c : Nat} {f : Fld} (hc : c < 1056) (ho : f.off = 0x401000) : follows (4 * c + f.off) = false :=
  cal_follows (by omega) (by omega)

theorem rotateChannels_row (h : s.ready? cmd opROTATE = some k) (hp : k.pf 0 2 0 = 1) (hm : s.mode ≠ stSERVICE)
    (hf : ∀ c ∈ k.chans, s.faultHolds c = false ∧ c < 1024) : Completes (.calRotateChannels cmd) s fun t =>
    (∀ c ∈ k.chans, s.eligible c = false → (s.rot (shadeOf c)).active = false → t.isSet (4 * c) CAL_FE_STATE.OWED = true) ∧
    ((∃ c ∈ k.chans, s.eligible c = true ∨ (s.rot (shadeOf c)).active = true) → ∃ x ∈ t.cmds, x.isRef cmd = true ∧ x.started = true) ∧
    ((∀ c ∈ k.chans, s.eligible c = false ∧ (s.rot (shadeOf c)).active = false) →
      ∃ x ∈ t.cmds, x.isRef cmd = true ∧ x.ending = some { status := scOK, result := k.chans.length * 2 ^ 32 }) ∧ Frame (oweTouch k.chans) s t := by
  obtain ⟨hcmd, hop⟩ := State.cmd_of_ready h
  obtain ⟨-, href, -⟩ := State.mem_of_cmd hcmd
  have hany : ¬ k.chans.any s.faultHolds = true := fun e => by
    obtain ⟨c, hc, hh⟩ := List.any_eq_true.1 e
    rw [(hf c hc).1] at hh
    exact Bool.false_ne_true hh
  have hx := exec_rotateChannels h hp
  rw [if_neg hm, if_neg hany] at hx
  have hlt : ∀ c ∈ k.chans.filter (fun c => !s.rotatable c), c < 1024 := fun c hc => (hf c (List.mem_filter.1 hc).1).2
  have hexact : Exact (oweTouch k.chans) s ((k.chans.filter fun c => !s.rotatable c).foldl State.owe s) :=
    (Exact.refl _ s).oweAll fun c hc => ⟨(List.mem_filter.1 hc).1, hlt c hc⟩
  refine completes_done hx ⟨fun c hc he ha => ?_, fun ⟨c, hc, hr⟩ => ?_, fun hall => ?_, (hexact.mapCmds _ _).settled⟩
  · have hrot : s.rotatable c = false := by
      unfold State.rotatable
      rw [he, ha]
      rfl
    rw [State.settled_isSet _ (feState_follows (by have := (hf c hc).2; omega) rfl)]
    exact State.oweAll_owed hlt s (List.mem_filter.2 ⟨hc, by rw [hrot]; rfl⟩)
  · have hrot : s.rotatable c = true := by
      unfold State.rotatable
      rwa [Bool.or_eq_true]
    have hne : k.chans.filter s.rotatable ≠ [] := List.ne_nil_of_mem (List.mem_filter.2 ⟨hc, hrot⟩)
    rw [State.startCmd_busy hne]
    exact State.started_settled hcmd (by show k.op ≠ _; rw [hop]; decide) (State.mem_of_cmd hcmd).2.1 rfl (State.modCmd_cmds (s.oweAll_cmds _) _ _)
  · have hrot : ∀ c ∈ k.chans, s.rotatable c = false := fun c hc => by
      unfold State.rotatable
      rw [(hall c hc).1, (hall c hc).2]
      rfl
    have hno : k.chans.filter (fun c => !s.rotatable c) = k.chans := List.filter_eq_self.2 fun c hc => by rw [hrot c hc]; rfl
    have hyes : k.chans.filter s.rotatable = [] := List.filter_eq_nil_iff.2 fun c hc => by rw [hrot c hc]; exact Bool.false_ne_true
    rw [hno, hyes, State.startCmd_idle]
    have hmem : (k.startedFor [] (k.chans.length * 2 ^ 32)).finishOk ∈
        ((k.chans.foldl State.owe s).modCmd cmd fun c => (c.startedFor [] (k.chans.length * 2 ^ 32)).finishOk).cmds := by
      rw [State.modCmd_cmds (s.oweAll_cmds k.chans)]
      exact State.mem_modCmd_self hcmd fun c => (c.startedFor [] (k.chans.length * 2 ^ 32)).finishOk
    exact ⟨_, State.settled_ended hmem (Option.some_ne_none _), href, rfl⟩

/-! ### REQUALIFY (R218) -/

/-- The committed buffer takes the corrections of shade nn, calibrated at this moment. -/
def State.shadeRow (s : State) (nn : Nat) (row : CalRow) : State := (s.putRow calBase (1024 + nn) row.data).calPut (feRec (1024 + nn) + recForce) 8 s.calTime

/-- The times of the calibrations are noted, and that the archive is out of date. -/
def State.noteCal (s : State) (times : List (Nat × Option Nat)) : State := { s with rotAt := times, calDirty := true }

/-- Shade nn takes its new corrections and is ACTIVE (R218). -/
def State.requalified (s : State) (nn : Nat) (row : CalRow) : State :=
  ((s.shadeRow nn row).setShade nn 0).noteCal (tabSet (fun _ => none) (s.shadeRow nn row).rotAt (1024 + nn) (some (s.shadeRow nn row).uptime))

theorem exec_rotateRequalify (row : CalRow) (h : s.ready? cmd opROTATE = some k) (hp : k.pf 0 2 0 = 2) (hn : nn = k.pf 0 20 16) :
    exec (.calRotateRequalify cmd row) s =
      if s.shadeState nn ≠ 1 then done (s.endCmd cmd { status := scSTATE, detail := 6 })
      else match row.fail with
        | some term => done ((s.detect 0x0D scSHADE nn term).endCmd cmd { status := scOK, result := 0 })
        | none => done ((s.requalified nn row).endCmd cmd { status := scOK, result := 1 }) := by
  subst hn
  show execCalRotateRequalify cmd row s = _
  unfold execCalRotateRequalify
  rw [h]
  exact if_neg (not_not_intro hp)

/-- What a failed requalification may change. -/
def requalifyFailTouch : Touch where
  regs a := a = FLT_CLASS.DCNT.off + 4 * 0x0D ∨ a = FLT_BB_STATUS.LOST.off
  parts x := { x with insts := [], lastCls := [], bbStage := [] }

theorem requalifyFailTouch_pale : requalifyFailTouch.Pale 0x0D := ⟨.inl rfl, .inr rfl, fun _ _ => rfl, fun _ _ => rfl, fun _ _ => rfl⟩

theorem State.bbRecord_cmds (s : State) (k why level detail : Nat) : (s.bbRecord k why level detail).cmds = s.cmds :=
  ite_keeps (R := fun x => x.cmds = s.cmds) (fun _ => rfl) fun _ => rfl

theorem State.enterPale_cmds (s : State) (k : Nat) (i : Inst) (why d : Nat) : (s.enterLevel k i 0 why d).cmds = s.cmds := by
  unfold State.enterLevel
  extract_lets s1 s2
  rw [State.levelAction_zero]
  exact ite_keeps (R := fun x => x.cmds = s.cmds) (fun _ => s1.bbRecord_cmds ..) fun _ => rfl

theorem State.incSat_cmds (s : State) (b : Nat) (f : Fld) (n : Nat) : (s.incSat b f n).cmds = s.cmds := by
  unfold State.incSat
  rw [State.setF_cmds]

/-- A first detection at Pale leaves the commands alone. -/
theorem State.detectPale_cmds (s : State) {cls scope unit : Nat} (d : Nat) (mom : Bool) (hf : (s.inst (instKey cls scope unit)).force = false) :
    (s.detectAt cls scope unit d 0 mom).cmds = s.cmds := by
  unfold State.detectAt
  extract_lets k i s1 s2 now
  have h1 : s1.cmds = s.cmds := s.incSat_cmds (4 * cls) FLT_CLASS.DCNT 1
  rw [if_pos (by rw [Bool.not_eq_true]; exact hf), State.enterPale_cmds]
  clear_value s1
  exact h1

theorem requalify_fails {row : CalRow} {term : Nat} (h : s.ready? cmd opROTATE = some k) (hp : k.pf 0 2 0 = 2) (hn : nn = k.pf 0 20 16)
    (hs : s.shadeState nn = 1) (hr : row.fail = some term) (hf : (s.inst (instKey 0x0D scSHADE nn)).force = false)
    (hl : s.getF (4 * 0x0D) FLT_CLASS.LEVEL = 0) : Completes (.calRotateRequalify cmd row) s fun t =>
      (t.inst (instKey 0x0D scSHADE nn)).force = true ∧ (t.inst (instKey 0x0D scSHADE nn)).detail = term ∧ t.shadeState nn = 1 ∧
      Answered cmd { status := scOK, result := 0 } requalifyFailTouch s t := by
  obtain ⟨hcmd, -⟩ := State.cmd_of_ready h
  have hlt : nn < 32 := hn ▸ Nat.mod_lt _ (by decide)
  have hx := exec_rotateRequalify row h hp hn
  rw [if_neg (not_not_intro hs), hr] at hx
  dsimp only at hx
  rw [State.detect_pale hl] at hx
  have hexact : Exact requalifyFailTouch s (s.detectAt 0x0D scSHADE nn term 0 (momentary 0x0D)) :=
    (Exact.refl _ s).detectPale requalifyFailTouch_pale _ _ hf
  obtain ⟨hforce, hdetail⟩ := s.detectAt_shows 0x0D scSHADE nn term 0 (momentary 0x0D)
  refine completes_done hx ⟨?_, ?_, ?_, (hexact.mapCmds _ _).answered hcmd (State.endCmd_cmds (s.detectPale_cmds _ _ hf) _ _)⟩
  · rw [State.settled_inst]
    exact hforce
  · rw [State.settled_inst]
    exact hdetail
  · rw [State.settled_shadeState _ hlt]
    refine ((hexact.mapCmds (Cmd.isRef cmd) (Cmd.finish { status := scOK, result := 0 })).shadeState ?_).trans hs
    rintro (he | he)
    · have he' : nn / 4 * 0x10 + 0x400108 = 0x300400 + 4 * 0x0D := he
      omega
    · have he' : nn / 4 * 0x10 + 0x400108 = 0x300024 := he
      omega

/-- What a requalification may change. -/
def requalifyTouch (nn : Nat) : Touch where
  regs a := a = nn / 4 * 0x10 + CAL_TILE_SHD.STATE.off ∨ a = 4 * (1024 + nn) + CAL_FE_STATE.STATE.off
  sram a := calBase ≤ a ∧ a < calBase + recEnd
  parts x := { x with rotAt := [], calDirty := false }

theorem Exact.noteCal (h : Exact w s z) (l : List (Nat × Option Nat)) (hr : ∀ x l, w.parts { x with rotAt := l } = w.parts x)
    (hd : ∀ x b, w.parts { x with calDirty := b } = w.parts x) : Exact w s (z.noteCal l) :=
  h.congr ((hd { z.parts with rotAt := l } true).trans (hr z.parts l)) rfl rfl rfl rfl rfl rfl rfl rfl

/-- The record of a shade lies in the committed buffer. -/
theorem shadeRec_mem (hn : nn < 32) {i : Nat} (hi : i < 768) : calBase ≤ calBase + feRec (1024 + nn) + i ∧ calBase + feRec (1024 + nn) + i < calBase + recEnd := by
  unfold feRec recEnd
  omega

theorem requalifyTouch_rec (hn : nn < 32) {a : Nat} (hl : calBase + feRec (1024 + nn) ≤ a) (hu : a < calBase + feRec (1024 + nn) + 768) :
    (requalifyTouch nn).sram a := by
  obtain ⟨i, rfl⟩ := Nat.exists_eq_add_of_le hl
  exact shadeRec_mem hn (by omega)

theorem requalifyTouch_tile (hn : nn < 32) : (requalifyTouch nn).sram (calBase + tileRec (nn / 4) + 32) := by
  have g : calBase ≤ calBase + tileRec (nn / 4) + 32 ∧ calBase + tileRec (nn / 4) + 32 < calBase + recEnd := by
    unfold tileRec recEnd
    omega
  exact g

theorem State.requalified_exact (s : State) (hn : nn < 32) (row : CalRow) : Exact (requalifyTouch nn) s (s.requalified nn row) := by
  have h1 : Exact (requalifyTouch nn) s (s.putRow calBase (1024 + nn) row.data) := (Exact.refl _ s).putRow _ _ _ fun k hl hu =>
    requalifyTouch_rec hn hl (Nat.lt_of_lt_of_le hu (Nat.add_le_add_left (by decide) _))
  have h2 : Exact (requalifyTouch nn) s (s.shadeRow nn row) := h1.recPut (1024 + nn) recForce 8 s.calTime fun k hl hu => by
    unfold recForce at hl hu
    have g1 : calBase + feRec (1024 + nn) ≤ k := by omega
    have g2 : k < calBase + feRec (1024 + nn) + 768 := by omega
    exact requalifyTouch_rec hn g1 g2
  have h3 : Exact (requalifyTouch nn) s ((s.shadeRow nn row).setShade nn 0) := h2.trans ((Exact.setShade _ nn 0).widen (fun _ => id) (fun a ha => by
    obtain rfl | ⟨hl, hu⟩ := ha
    · exact requalifyTouch_tile hn
    · have g1 : calBase + feRec (1024 + nn) ≤ a := by omega
      have g2 : a < calBase + feRec (1024 + nn) + 768 := by omega
      exact requalifyTouch_rec hn g1 g2) (fun _ => id) (fun _ => id) (fun _ => id) (fun _ => id) (fun _ => id) (fun _ => id) fun _ => rfl)
  exact h3.noteCal _ (fun _ _ => rfl) fun _ _ => rfl

/-- The force-path time of a record stands behind its corrections. -/
def forceTouch (u : Nat) : Touch where
  sram a := calBase + feRec u + 704 ≤ a

theorem Exact.putForce (s : State) (u v : Nat) : Exact (forceTouch u) s (s.calPut (feRec u + recForce) 8 v) :=
  (Exact.refl _ s).recPut u recForce 8 v fun a hl _ => by
    unfold recForce at hl
    have g : calBase + feRec u + 704 ≤ a := by omega
    exact g

theorem forceTouch_row {u j : Nat} (hj : j < 704) : ¬ (forceTouch u).sram (calBase + feRec u + j) := fun he => by
  have g : calBase + feRec u + 704 ≤ calBase + feRec u + j := he
  exact Nat.not_le_of_lt hj (Nat.le_of_add_le_add_left g)

theorem shadeTouch_row {j : Nat} (hj : j < 704) : ¬ (shadeTouch nn).sram (calBase + feRec (1024 + nn) + j) := fun he => by
  have g : calBase + feRec (1024 + nn) + j = calBase + tileRec (nn / 4) + 32 ∨
    calBase + feRec (1024 + nn) + 704 ≤ calBase + feRec (1024 + nn) + j ∧ calBase + feRec (1024 + nn) + j < calBase + feRec (1024 + nn) + 706 := he
  unfold calBase feRec tileRec at g
  omega

theorem State.noteCal_sramByte (s : State) (l : List (Nat × Option Nat)) (a : Nat) : (s.noteCal l).sramByte a = s.sramByte a := rfl

/-- The new corrections stand in the committed buffer. -/
theorem State.requalified_row (s : State) {row : CalRow} (hd : row.data.length = 704) {j : Nat} (hj : j < 704) :
    (s.requalified nn row).sramByte (calBase + feRec (1024 + nn) + j) = row.data.getD j 0 := by
  unfold State.requalified
  rw [State.noteCal_sramByte, (Exact.setShade (s.shadeRow nn row) nn 0).sram _ (shadeTouch_row hj)]
  unfold State.shadeRow
  rw [(Exact.putForce (s.putRow calBase (1024 + nn) row.data) (1024 + nn) s.calTime).sram _ (forceTouch_row hj)]
  exact s.putRow_byte calBase (1024 + nn) hd hj

theorem State.setShade_eq {α : Type} (g : State → α) (hr : ∀ x r, g { x with regs := r } = g x) (hm : ∀ x m, g { x with sram := m } = g x) (s : State) (nn st : Nat) :
    g (s.setShade nn st) = g s := by
  unfold State.setShade State.setCalState
  extract_lets b old k v s1 s2
  have h1 : g s1 = g s := (State.calPut_eq g hm _ _ _ _).trans (hr _ _)
  have h2 : g s2 = g s1 := State.setFs_eq g hr s1 _ _
  rw [State.calPut_eq g hm, State.calPut_eq g hm, h2, h1]

theorem State.noteCal_cmds (s : State) (l : List (Nat × Option Nat)) : (s.noteCal l).cmds = s.cmds := rfl

theorem State.noteCal_shadeState (s : State) (l : List (Nat × Option Nat)) (nn : Nat) : (s.noteCal l).shadeState nn = s.shadeState nn := rfl

theorem State.requalified_cmds (s : State) (nn : Nat) (row : CalRow) : (s.requalified nn row).cmds = s.cmds := by
  unfold State.requalified State.shadeRow
  rw [State.noteCal_cmds, State.setShade_eq State.cmds (fun _ _ => rfl) (fun _ _ => rfl), State.calPut_eq State.cmds fun _ _ => rfl]
  rfl

theorem State.requalified_state (s : State) (nn : Nat) (row : CalRow) : (s.requalified nn row).shadeState nn = 0 := by
  unfold State.requalified
  rw [State.noteCal_shadeState]
  exact State.setShade_state _ nn (by decide)

theorem State.requalified_calDirty (s : State) (nn : Nat) (row : CalRow) : (s.requalified nn row).calDirty = true := rfl

theorem State.endCmd_shadeState (s : State) (r : CmdRef) (e : Ending) (nn : Nat) : (s.endCmd r e).shadeState nn = s.shadeState nn := rfl

theorem State.endCmd_sramByte (s : State) (r : CmdRef) (e : Ending) (a : Nat) : (s.endCmd r e).sramByte a = s.sramByte a := rfl

theorem requalify_passes {row : CalRow} (h : s.ready? cmd opROTATE = some k) (hp : k.pf 0 2 0 = 2) (hn : nn = k.pf 0 20 16)
    (hs : s.shadeState nn = 1) (hr : row.fail = none) (hd : row.data.length = 704) : Completes (.calRotateRequalify cmd row) s fun t =>
      Answered cmd { status := scOK, result := 1 } (requalifyTouch nn) s t ∧ t.shadeState nn = 0 ∧ t.calDirty = true ∧
      ∀ j < 704, t.sramByte (calBase + feRec (1024 + nn) + j) = row.data.getD j 0 := by
  obtain ⟨hcmd, -⟩ := State.cmd_of_ready h
  have hlt : nn < 32 := hn ▸ Nat.mod_lt _ (by decide)
  have hx := exec_rotateRequalify row h hp hn
  rw [if_neg (not_not_intro hs), hr] at hx
  dsimp only at hx
  refine completes_done hx ⟨((s.requalified_exact hlt row).mapCmds _ _).answered hcmd (State.endCmd_cmds (s.requalified_cmds nn row) _ _), ?_, State.settled_calDirty _, fun j hj => ?_⟩
  · rw [State.settled_shadeState _ hlt, State.endCmd_shadeState]
    exact s.requalified_state nn row
  · rw [State.sramByte_settled, State.endCmd_sramByte]
    exact s.requalified_row hd hj

/-! ### REMAP and UNMAP (R229, R230) -/

/-- Channel i's remapping is written: the entry of its shade, the shade's state, the mark of the channel. -/
def State.remapWritten (s : State) (i v l st r : Nat) : State :=
  ((s.setRemap (shadeOf i) v l).setShade (shadeOf i) st).setF (feB i) CHN_FE_STATUS.REMAPPED r

/-- The rest of a remapping up to its archive write. -/
def State.remapRest (s : State) (i : Nat) : State := ((s.adcKill (1024 + shadeOf i)).setF (feB i) CHN_ADC_STATUS.SHD_EXEC 1).unowe i

/-- The rest of the end of a remapping up to its archive write. -/
def State.unmapRest (s : State) (i : Nat) : State := (s.setF (feB i) CHN_ADC_STATUS.SHD_EXEC 0).owe i

theorem exec_rotateRemap {cs : List Nat} (h : s.ready? cmd opROTATE = some k) (hp : k.pf 0 2 0 = 3) (hch : k.chans = i :: cs) :
    exec (.calRotateRemap cmd) s = match s.remapCheck cmd i with
      | some e => done (s.endCmd cmd e)
      | none => done ((((s.remapWritten i 1 (i % 128) 2 1).remapRest i).modCmd cmd fun k => { k with started := true }).archStart [cmd]) := by
  show execCalRotateRemap cmd s = _
  unfold execCalRotateRemap
  have hb : ((s.ready? cmd opROTATE).bind fun c => c.chans.head?) = some i := by
    rw [h]
    show k.chans.head? = some i
    rw [hch]
    rfl
  rw [hb, h]
  exact if_neg (not_not_intro hp)

theorem State.unmapCheck_eq (s : State) (cmd : CmdRef) (i : Nat) : s.unmapCheck cmd i =
    if s.isSet (feB i) CHN_FE_STATUS.REMAPPED = false ∨ s.feOn (s.phys i) = true ∨ s.otherFor cmd i = true then some { status := scSTATE, detail := 2 } else none :=
  if_congr (or_congr (Bool.not_eq_true _ ▸ Iff.rfl) Iff.rfl) rfl rfl

theorem exec_rotateUnmap {cs : List Nat} (h : s.ready? cmd opROTATE = some k) (hp : k.pf 0 2 0 = 4) (hch : k.chans = i :: cs) :
    exec (.calRotateUnmap cmd) s = if s.isSet (feB i) CHN_FE_STATUS.REMAPPED = false ∨ s.feOn (s.phys i) = true ∨ s.otherFor cmd i = true then
        done (s.endCmd cmd { status := scSTATE, detail := 2 })
      else done ((((s.remapWritten i 0 0 0 0).unmapRest i).modCmd cmd fun k => { k with started := true }).archStart [cmd]) := by
  show execCalRotateUnmap cmd s = _
  unfold execCalRotateUnmap
  have hb : ((s.ready? cmd opROTATE).bind fun c => c.chans.head?) = some i := by
    rw [h]
    show k.chans.head? = some i
    rw [hch]
    rfl
  rw [hb, h]
  refine (if_neg (not_not_intro hp)).trans ?_
  rw [State.unmapCheck_eq]
  split_ifs <;> rfl

/-- What the rest of a remapping may change. -/
def remapTail (i : Nat) : Touch where
  regs a := (∃ u, a = feB u + 0x104) ∨ oweRegs i a ∨ a = CAL_STATUS.ARCH_BUSY.off
  adcs _ := True
  parts x := { x with archNow := [], archNext := none }

theorem Exact.adcKill {u : Nat} (h : Exact w s z) (hu : w.adcs u) (ha : w.regs (feB u + 0x104)) : Exact w s (z.adcKill u) := by
  have h1 : Exact w s ((z.modAdc u fun a => { results := a.results }).setF (feB u) CHN_ADC_STATUS.BUSY 0) := (h.modAdc _ hu).setF 0 ha
  exact h1.setF (f := CHN_ADC_STATUS.INJ_PEND) 0 ha

/-- The start of an archive write within wider changes. -/
theorem Exact.archStartIn {i : Nat} (h : Exact (remapTail i) s z) (cs : List CmdRef) : Exact (remapTail i) s (z.archStart cs) :=
  h.trans (((Exact.refl archTouch z).archStart cs).widen (fun _ ha => .inr (.inr ha)) (fun _ => id) (fun _ => id) (fun _ => id) (fun _ => False.elim)
    (fun _ => False.elim) (fun _ => id) (fun _ => id) fun _ => rfl)

theorem remapped_exact (i : Nat) (hz : Exact (remapTail i) s z) (f : Cmd → Cmd) : Exact (remapTail i) s ((z.remapRest i).modCmd cmd f) := by
  have h1 : Exact (remapTail i) s (z.adcKill (1024 + shadeOf i)) := hz.adcKill trivial (.inl ⟨_, rfl⟩)
  have h2 : Exact (remapTail i) s ((z.adcKill (1024 + shadeOf i)).setF (feB i) CHN_ADC_STATUS.SHD_EXEC 1) := h1.setF 1 (.inl ⟨_, rfl⟩)
  exact (h2.unowe fun _ ha => .inr (.inl ha)).mapCmds _ _

theorem unmapped_exact (i : Nat) (hz : Exact (remapTail i) s z) (f : Cmd → Cmd) : Exact (remapTail i) s ((z.unmapRest i).modCmd cmd f) := by
  have h2 : Exact (remapTail i) s (z.setF (feB i) CHN_ADC_STATUS.SHD_EXEC 0) := hz.setF 0 (.inl ⟨_, rfl⟩)
  exact (h2.owe fun _ ha => .inr (.inl ha)).mapCmds _ _

/-! What the remapping wrote stands through the rest of it. -/

theorem shadeOf_lt (hi : i < 1024) : shadeOf i < 32 := by
  unfold shadeOf
  omega

theorem remapTail_entry {n : Nat} (hi : i < 1024) (hn : n < 32) : ¬ (remapTail i).regs (4 * n + 0x400200) := by
  rintro (⟨u, h⟩ | h | h)
  · exact lt_feB (by omega) _ h
  · obtain h | h := h
    · have h' : 4 * n + 0x400200 = 4 * i + 0x401000 := h
      omega
    · have h' : 4 * n + 0x400200 = i / 128 * 0x10 + 0x400104 := h
      omega
  · have h' : 4 * n + 0x400200 = 0x400004 := h
    omega

theorem remapTail_shade {x : Nat} (hi : i < 1024) (hx : x < 8) : ¬ (remapTail i).regs (x * 0x10 + CAL_TILE_SHD.STATE.off) := by
  rintro (⟨u, h⟩ | h | h)
  · exact lt_feB (a := x * 0x10 + 0x400108) (by omega) _ h
  · obtain h | h := h
    · have h' : x * 0x10 + 0x400108 = 4 * i + 0x401000 := h
      omega
    · have h' : x * 0x10 + 0x400108 = i / 128 * 0x10 + 0x400104 := h
      omega
  · have h' : x * 0x10 + 0x400108 = 0x400004 := h
    omega

theorem remapTail_mark (hi : i < 1024) : ¬ (remapTail i).regs (feB i + CHN_FE_STATUS.REMAPPED.off) := by
  rintro (⟨u, h⟩ | h | h)
  · have h' : feB i + 0x14 = feB u + 0x104 := h
    by_cases e : i = u
    · subst e
      exact absurd (Nat.add_left_cancel h') (by decide)
    · exact feB_ne e (by decide) (by decide) h'
  · obtain h | h := h
    · exact lt_feB (a := 4 * i + 0x401000) (by omega) _ h.symm
    · exact lt_feB (a := i / 128 * 0x10 + 0x400104) (by omega) _ h.symm
  · exact lt_feB (a := 0x400004) (by decide) _ h.symm

theorem State.getF_calDirty (s : State) (b : Nat) (f : Fld) (d : Bool) : ({ s with calDirty := d } : State).getF b f = s.getF b f := rfl

theorem State.setRemap_getF (s : State) (n v l b : Nat) (f : Fld) :
    (s.setRemap n v l).getF b f = (s.setFs (4 * n) [(CAL_REMAP.VALID, v), (CAL_REMAP.LOCAL, l)]).getF b f := by
  unfold State.setRemap
  extract_lets z y
  have hput : y.getF b f = z.getF b f := State.calPut_eq (fun x => x.getF b f) (fun _ _ => rfl) z (0xC6280 + 4 * n) 4 (v <<< 31 + l)
  clear_value y
  exact (y.getF_calDirty b f true).trans hput

/-- The entry of a shade as setRemap writes it stands through the change of the shade's state. -/
theorem State.setRemap_entry (s : State) {n v l : Nat} (hv : v < 2) (hl : l < 128) (st : Nat) :
    ((s.setRemap n v l).setShade n st).getF (4 * n) CAL_REMAP.VALID = v ∧ ((s.setRemap n v l).setShade n st).getF (4 * n) CAL_REMAP.LOCAL = l := by
  have hout : ¬ (shadeTouch n).regs (4 * n + 0x400200) := by
    rintro (h | h)
    · have h' : 4 * n + 0x400200 = n / 4 * 0x10 + 0x400108 := h
      omega
    · have h' : 4 * n + 0x400200 = 4 * (1024 + n) + 0x401000 := h
      omega
  have hkeep := Exact.setShade (s.setRemap n v l) n st
  rw [hkeep.getF hout, hkeep.getF hout, State.setRemap_getF, State.setRemap_getF, State.setFs_cons, State.setFs_cons, State.setFs_nil]
  exact ⟨(State.getF_setF_disj _ _ CAL_REMAP.LOCAL CAL_REMAP.VALID l rfl (by decide)).trans
    ((s.getF_setF_self _ CAL_REMAP.VALID v (by decide)).trans (Nat.mod_eq_of_lt hv)), (State.getF_setF_self _ _ CAL_REMAP.LOCAL l (by decide)).trans (Nat.mod_eq_of_lt hl)⟩

/-- Writing a remapping changes registers and the committed buffer only. -/
theorem State.remapWritten_eq {α : Type} (g : State → α) (hr : ∀ x r, g { x with regs := r } = g x) (hm : ∀ x m, g { x with sram := m } = g x)
    (hd : ∀ x b, g { x with calDirty := b } = g x) (s : State) (i v l st r : Nat) : g (s.remapWritten i v l st r) = g s := by
  unfold State.remapWritten State.setRemap
  extract_lets z
  have hz : g z = g s := State.setFs_eq g hr ..
  refine (hr _ _).trans ((State.setShade_eq g hr hm ..).trans ((hd _ _).trans ((State.calPut_eq g hm ..).trans hz)))

/-- A remapping as it stands in the end. -/
theorem State.remapWritten_stands {v l st r : Nat} (hi : i < 1024) (hv : v < 2) (hl : l < 128) (hst : st < 4) (hr : r < 2) (hcon : (s.fe i).contact = none)
    (h : Exact (remapTail i) (s.remapWritten i v l st r) z) :
    z.settled.getF (4 * shadeOf i) CAL_REMAP.VALID = v ∧ z.settled.getF (4 * shadeOf i) CAL_REMAP.LOCAL = l ∧ z.settled.shadeState (shadeOf i) = st ∧
      z.settled.getF (feB i) CHN_FE_STATUS.REMAPPED = r := by
  have hn := shadeOf_lt hi
  obtain ⟨hvalid, hlocal⟩ := s.setRemap_entry hv hl st
  have hfollow : follows (4 * shadeOf i + 0x400200) = false := cal_follows (by omega) (by omega)
  have hentry : ∀ f : Fld, f.off = 0x400200 → z.settled.getF (4 * shadeOf i) f = ((s.setRemap (shadeOf i) v l).setShade (shadeOf i) st).getF (4 * shadeOf i) f := fun f hf =>
    (State.settled_getF _ (hf ▸ hfollow)).trans ((h.getF (by rw [hf]; exact remapTail_entry hi hn)).trans
      (State.getF_setF_ne _ (by rw [hf]; exact (lt_feB (by omega) _).symm) r))
  refine ⟨(hentry CAL_REMAP.VALID rfl).trans hvalid, (hentry CAL_REMAP.LOCAL rfl).trans hlocal, ?_, ?_⟩
  · rw [State.settled_shadeState _ hn, h.shadeState (remapTail_shade hi (by omega))]
    have hmark : Exact { regs := fun a => a = feB i + 0x14 } ((s.setRemap (shadeOf i) v l).setShade (shadeOf i) st) (s.remapWritten i v l st r) :=
      (Exact.refl _ _).setF r rfl
    rw [hmark.shadeState (lt_feB (a := shadeOf i / 4 * 0x10 + 0x400108) (by omega) _)]
    exact State.setShade_state _ _ hst
  · have hc : (z.fe i).contact = none := h.con i ((State.remapWritten_eq (fun x => (x.fe i).contact) (fun _ _ => rfl) (fun _ _ => rfl) (fun _ _ => rfl) ..).trans hcon)
    rw [State.settled_feF hc (by decide) (by decide), h.getF (remapTail_mark hi)]
    exact (State.getF_setF_self _ (feB i) CHN_FE_STATUS.REMAPPED r (by decide)).trans (Nat.mod_eq_of_lt hr)

/-! The mark OWED, the archive and the command -/

theorem State.archStart_owed (s : State) (cs : List CmdRef) : (s.archStart cs).isSet (4 * i) CAL_FE_STATE.OWED = s.isSet (4 * i) CAL_FE_STATE.OWED :=
  ((Exact.refl archTouch s).archStart cs).isSet fun h => by
    have h' : 4 * i + 0x401000 = 0x400004 := h
    omega

theorem State.isSet_of_one {b : Nat} {f : Fld} (h : s.getF b f = 1) : s.isSet b f = true := by
  unfold State.isSet
  rw [h]
  rfl

theorem State.isSet_of_zero {b : Nat} {f : Fld} (h : s.getF b f = 0) : s.isSet b f = false := by
  unfold State.isSet
  rw [h]
  rfl

theorem State.adcKill_cmds (s : State) (u : Nat) : (s.adcKill u).cmds = s.cmds := rfl

theorem State.remapRest_cmds (s : State) (i : Nat) : (s.remapRest i).cmds = s.cmds := by
  unfold State.remapRest
  rw [State.unowe_eq State.cmds fun _ _ => rfl, State.setF_cmds, State.adcKill_cmds]

theorem State.unmapRest_cmds (s : State) (i : Nat) : (s.unmapRest i).cmds = s.cmds := by
  unfold State.unmapRest
  rw [State.owe_eq State.cmds fun _ _ => rfl, State.setF_cmds]

theorem State.remapWritten_cmds (s : State) (i v l st r : Nat) : (s.remapWritten i v l st r).cmds = s.cmds :=
  State.remapWritten_eq State.cmds (fun _ _ => rfl) (fun _ _ => rfl) (fun _ _ => rfl) ..

/-- All but the archive's own register. -/
def notArch : Touch where
  regs a := a ≠ CAL_STATUS.ARCH_BUSY.off
  sram _ := True
  adcs _ := True
  parts x := { x with calDirty := false }

theorem Exact.archBusy (h : Exact notArch s z) : z.isSet 0 CAL_STATUS.ARCH_BUSY = s.isSet 0 CAL_STATUS.ARCH_BUSY :=
  h.isSet fun hne => hne (Nat.zero_add _)

theorem notArch_of_gt {a : Nat} (h : 0x400004 < a) : notArch.regs a := Nat.ne_of_gt h

theorem Exact.set_calDirty (h : Exact w s z) (d : Bool) (hp : ∀ x b, w.parts { x with calDirty := b } = w.parts x) : Exact w s { z with calDirty := d } :=
  h.congr (hp z.parts d) rfl rfl rfl rfl rfl rfl rfl rfl

theorem Exact.remapWritten (s : State) (i v l st r : Nat) : Exact notArch s (s.remapWritten i v l st r) := by
  have h1 : Exact notArch s (s.setFs (4 * shadeOf i) [(CAL_REMAP.VALID, v), (CAL_REMAP.LOCAL, l)]) := (Exact.refl _ s).setFs fun e he => by
    have ho : e.1.off = 0x400200 := by fin_cases he <;> rfl
    exact notArch_of_gt (by omega)
  have h2 : Exact notArch s (s.setRemap (shadeOf i) v l) :=
    (h1.calPut (0xC6280 + 4 * shadeOf i) 4 (v <<< 31 + l) fun _ _ _ => trivial).set_calDirty true fun _ _ => rfl
  have h3 : Exact notArch s ((s.setRemap (shadeOf i) v l).setShade (shadeOf i) st) := h2.trans ((Exact.setShade _ (shadeOf i) st).widen (fun a ha => by
    obtain rfl | rfl := ha
    · exact notArch_of_gt (Nat.lt_of_lt_of_le (by decide) (Nat.le_add_left CAL_TILE_SHD.STATE.off _))
    · exact notArch_of_gt (Nat.lt_of_lt_of_le (by decide) (Nat.le_add_left CAL_FE_STATE.STATE.off _))) (fun _ _ => trivial) (fun _ => id) (fun _ => id)
      (fun _ => id) (fun _ _ => trivial) (fun _ => id) (fun _ => id) fun _ => rfl)
  exact h3.setF r (notArch_of_gt (Nat.lt_of_lt_of_le (by decide) (le_feB _ _)))

theorem notArch_fe (u o : Nat) : notArch.regs (feB u + o) := notArch_of_gt (Nat.lt_of_lt_of_le (by decide) (le_feB u o))

theorem notArch_owe {a : Nat} (h : oweRegs i a) : notArch.regs a := by
  obtain rfl | rfl := h
  · exact notArch_of_gt (Nat.lt_of_lt_of_le (by decide) (Nat.le_add_left CAL_FE_STATE.OWED.off _))
  · exact notArch_of_gt (Nat.lt_of_lt_of_le (by decide) (Nat.le_add_left CAL_TILE_ROT.OWED.off _))

theorem Exact.remapRest (h : Exact notArch s z) (i : Nat) : Exact notArch s (z.remapRest i) := by
  have h1 : Exact notArch s (z.adcKill (1024 + shadeOf i)) := h.adcKill trivial (notArch_fe _ _)
  have h2 : Exact notArch s ((z.adcKill (1024 + shadeOf i)).setF (feB i) CHN_ADC_STATUS.SHD_EXEC 1) := h1.setF 1 (notArch_fe _ _)
  exact h2.unowe fun _ => notArch_owe

theorem Exact.unmapRest (h : Exact notArch s z) (i : Nat) : Exact notArch s (z.unmapRest i) := by
  have h2 : Exact notArch s (z.setF (feB i) CHN_ADC_STATUS.SHD_EXEC 0) := h.setF 0 (notArch_fe _ _)
  exact h2.owe fun _ => notArch_owe

/-- The end of a remapping: the mark OWED as z has it, the archive write, the command started. -/
theorem State.remapEnd (hi : i < 1024) (hcmd : s.cmd? cmd = some k) (hop : k.op = opROTATE) (hz : z.cmds = s.cmds) (hbusy : z.isSet 0 CAL_STATUS.ARCH_BUSY = s.isSet 0 CAL_STATUS.ARCH_BUSY) :
    let t := ((z.modCmd cmd fun k => { k with started := true }).archStart [cmd]).settled
    t.isSet (4 * i) CAL_FE_STATE.OWED = z.isSet (4 * i) CAL_FE_STATE.OWED ∧ t.isSet 0 CAL_STATUS.ARCH_BUSY = true ∧
      (s.isSet 0 CAL_STATUS.ARCH_BUSY = false → t.archNow = [cmd]) ∧ ∃ x ∈ t.cmds, x.isRef cmd = true ∧ x.started = true := by
  intro t
  refine ⟨?_, ?_, fun h => ?_, ?_⟩
  · rw [State.settled_isSet _ (feState_follows (by omega) rfl), State.archStart_owed]
    rfl
  · rw [State.settled_cal _ (by decide)]
    exact State.archStart_isSet _ _
  · have hidle : (z.modCmd cmd fun k => { k with started := true }).isSet 0 CAL_STATUS.ARCH_BUSY = false := hbusy.trans h
    rw [State.settled_archNow, State.archStart_idle _ hidle]
  · exact State.started_settled hcmd (by show k.op ≠ _; rw [hop]; decide) (State.mem_of_cmd hcmd).2.1 rfl
      ((State.archStart_cmds _ _).trans (State.modCmd_cmds hz _ _))

theorem rotateRemap_row {cs : List Nat} (h : s.ready? cmd opROTATE = some k) (hp : k.pf 0 2 0 = 3) (hch : k.chans = i :: cs) (hi : i < 1024)
    (hok : s.remapCheck cmd i = none) (hcon : (s.fe i).contact = none) : Completes (.calRotateRemap cmd) s fun t =>
      t.isSet (4 * shadeOf i) CAL_REMAP.VALID = true ∧ t.getF (4 * shadeOf i) CAL_REMAP.LOCAL = i % 128 ∧ t.shadeState (shadeOf i) = 2 ∧
      t.isSet (feB i) CHN_FE_STATUS.REMAPPED = true ∧ t.isSet (4 * i) CAL_FE_STATE.OWED = false ∧ t.isSet 0 CAL_STATUS.ARCH_BUSY = true ∧
      (s.isSet 0 CAL_STATUS.ARCH_BUSY = false → t.archNow = [cmd]) ∧ ∃ x ∈ t.cmds, x.isRef cmd = true ∧ x.started = true := by
  obtain ⟨hcmd, hop⟩ := State.cmd_of_ready h
  have hx := exec_rotateRemap h hp hch
  rw [hok] at hx
  dsimp only at hx
  obtain ⟨hvalid, hlocal, hshade, hmark⟩ := State.remapWritten_stands (v := 1) (l := i % 128) (st := 2) (r := 1) hi (by decide) (Nat.mod_lt _ (by decide)) (by decide) (by decide) hcon
    ((remapped_exact (cmd := cmd) i (.refl _ _) fun k => { k with started := true }).archStartIn [cmd])
  obtain ⟨howed, hbusy, hnow, hstart⟩ := State.remapEnd hi hcmd hop
    ((State.remapRest_cmds _ i).trans (s.remapWritten_cmds i 1 (i % 128) 2 1)) ((Exact.remapWritten s i 1 (i % 128) 2 1).remapRest i).archBusy
  exact completes_done hx ⟨State.isSet_of_one hvalid, hlocal, hshade, State.isSet_of_one hmark, howed.trans (State.unowe_owed _ hi), hbusy, hnow, hstart⟩

theorem rotateUnmap_row {cs : List Nat} (h : s.ready? cmd opROTATE = some k) (hp : k.pf 0 2 0 = 4) (hch : k.chans = i :: cs) (hi : i < 1024)
    (hm : s.isSet (feB i) CHN_FE_STATUS.REMAPPED = true) (hoff : s.feOn (s.phys i) = false) (hother : s.otherFor cmd i = false)
    (hcon : (s.fe i).contact = none) : Completes (.calRotateUnmap cmd) s fun t =>
      t.isSet (4 * shadeOf i) CAL_REMAP.VALID = false ∧ t.getF (4 * shadeOf i) CAL_REMAP.LOCAL = 0 ∧ t.shadeState (shadeOf i) = 0 ∧
      t.isSet (feB i) CHN_FE_STATUS.REMAPPED = false ∧ t.isSet (4 * i) CAL_FE_STATE.OWED = true ∧ t.isSet 0 CAL_STATUS.ARCH_BUSY = true ∧
      ∃ x ∈ t.cmds, x.isRef cmd = true ∧ x.started = true := by
  obtain ⟨hcmd, hop⟩ := State.cmd_of_ready h
  have hx := exec_rotateUnmap h hp hch
  rw [hm, hoff, hother, if_neg (by decide)] at hx
  obtain ⟨hvalid, hlocal, hshade, hmark⟩ := State.remapWritten_stands (v := 0) (l := 0) (st := 0) (r := 0) hi (by decide) (by decide) (by decide) (by decide) hcon
    ((unmapped_exact (cmd := cmd) i (.refl _ _) fun k => { k with started := true }).archStartIn [cmd])
  obtain ⟨howed, hbusy, -, hstart⟩ := State.remapEnd hi hcmd hop
    ((State.unmapRest_cmds _ i).trans (s.remapWritten_cmds i 0 0 0 0)) ((Exact.remapWritten s i 0 0 0 0).unmapRest i).archBusy
  exact completes_done hx ⟨State.isSet_of_zero hvalid, hlocal, hshade, State.isSet_of_zero hmark, howed.trans (State.owe_owed _ hi), hbusy, hstart⟩

/-- Settles O45, action by action: each row is one equation for the instruction and what the operations in it leave. -/
theorem rotateCommandRows : Obligations.RotateCommandRows := by
  unfold Obligations.RotateCommandRows
  intro cmd k s h
  have hcmd := (State.cmd_of_ready h).1
  refine ⟨fun hp hm => ?_, fun ts hp hm hts hopen hne => ?_, fun hp hm => ?_, fun hp hm hf => ?_, fun hp hm hf => rotateChannels_row h hp hm hf,
    fun nn row hp hn hs => ?_, fun nn row term hp hn hs hr hf hl => requalify_fails h hp hn hs hr hf hl,
    fun nn row hp hn hs hr hd => requalify_passes h hp hn hs hr hd, fun i cs e hp hch hno => ?_,
    fun i cs nn hp hch hi hok hnn hcon => hnn ▸ rotateRemap_row h hp hch hi hok hcon, fun i cs hp hch hno => ?_,
    fun i cs nn hp hch hi hm hoff hother hnn hcon => hnn ▸ rotateUnmap_row h hp hch hi hm hoff hother hcon⟩
  · exact completes_ended hcmd ((exec_rotatePass h hp).trans (if_pos hm))
  · subst hts
    exact rotatePass_begins h hp hm hopen hne
  · exact completes_ended hcmd ((exec_rotateChannels h hp).trans (if_pos hm))
  · obtain ⟨c, hc, hfault⟩ := hf
    exact completes_ended hcmd ((exec_rotateChannels h hp).trans ((if_neg hm).trans (if_pos (List.any_eq_true.2 ⟨c, hc, hfault⟩))))
  · exact completes_ended hcmd ((exec_rotateRequalify row h hp hn).trans (if_pos hs))
  · refine completes_ended hcmd ((exec_rotateRemap h hp hch).trans ?_)
    rw [hno]
  · exact completes_ended hcmd ((exec_rotateUnmap h hp hch).trans (if_pos hno))

end Sys2Proof.Machine
end

section
/-! PROOFS. The steps of an anchor (R209 to R212). -/

namespace Sys2Proof.Machine

open Sys2Proof (Instr)

variable {w : Touch} {s z : State} {r : CmdRef} {k : Cmd} {inp : AnchorIn} {n : Nat}

/-! ### The instruction as one equation per step -/

/-- The shades that failed are noted. -/
def State.anchorNoted (s : State) (l : List Nat) : State :=
  { s with anchor := { s.anchor with failed := l.foldl (fun m k => setBit m k true) s.anchor.failed } }

/-- Step n of an anchor is over. -/
def State.anchorPast (s : State) (n : Nat) : State := { s with anchor := { s.anchor with step := n + 1 } }

/-- The shade that checks the standards. -/
def State.anchorShade (s : State) : State := { s with anchor := { s.anchor with shade := s.activeShades.headD 0 } }

/-- The anchor as its step begins. -/
def State.anchorGiven (s : State) (inp : AnchorIn) : State := s.anchorNoted (inp.failed.map Fin.val)

/-- The ratios of step 3, of the shades that take part. -/
def State.ratiosGiven (s : State) (inp : AnchorIn) : List (Fin 32 × Int × Nat) :=
  inp.ratios.filter fun e => !(s.anchorGiven inp).anchor.failed.testBit e.1 && (s.anchorGiven inp).shadeState e.1 == 0

theorem exec_anchorStep_idle (h : s.isSet 0 CAL_STATUS.ANCHOR_RUN = false) : exec (.anchorStep inp) s = done s :=
  if_pos (by rw [h]; exact Bool.false_ne_true)

theorem exec_anchorStep_first (h : s.isSet 0 CAL_STATUS.ANCHOR_RUN = true) (hn : s.anchor.step = 1) : exec (.anchorStep inp) s =
    if (s.anchorGiven inp).calBusy fun _ => true then done (s.anchorGiven inp) else done ((s.anchorGiven inp).anchorPast s.anchor.step) :=
  (if_neg (not_not_intro h)).trans (if_pos hn)

theorem exec_anchorStep_check (h : s.isSet 0 CAL_STATUS.ANCHOR_RUN = true) (hn : s.anchor.step = 2) : exec (.anchorStep inp) s =
    if s.standardFaults inp ≠ [] then done ((s.anchorGiven inp).anchorShade.anchorFails (s.standardFaults inp))
    else done ((s.anchorGiven inp).anchorShade.anchorPast s.anchor.step) :=
  (if_neg (not_not_intro h)).trans ((if_neg (by omega)).trans (if_pos hn))

theorem exec_anchorStep_ratios (h : s.isSet 0 CAL_STATUS.ANCHOR_RUN = true) (hn : s.anchor.step = 3) : exec (.anchorStep inp) s =
    done ((((s.anchorGiven inp).anchorNoted (ratioSplit (s.ratiosGiven inp)).2).anchorMref (ratioSplit (s.ratiosGiven inp)).1).anchorPast s.anchor.step) :=
  (if_neg (not_not_intro h)).trans ((if_neg (by omega)).trans ((if_neg (by omega)).trans (if_pos hn)))

theorem exec_anchorStep_counts (h : s.isSet 0 CAL_STATUS.ANCHOR_RUN = true) (hl : 4 ≤ s.anchor.step) (hu : s.anchor.step ≤ 6) : exec (.anchorStep inp) s =
    done ((s.anchorGiven inp).anchorPast s.anchor.step) :=
  (if_neg (not_not_intro h)).trans ((if_neg (by omega)).trans ((if_neg (by omega)).trans ((if_neg (by omega)).trans (if_neg (by omega)))))

theorem exec_anchorStep_last (h : s.isSet 0 CAL_STATUS.ANCHOR_RUN = true) (hn : s.anchor.step = 7) (ht : inp.tres = []) : exec (.anchorStep inp) s =
    done ((s.anchorGiven inp).anchorStage inp.rows) := by
  refine (if_neg (not_not_intro h)).trans ((if_neg (by omega)).trans ((if_neg (by omega)).trans ((if_neg (by omega)).trans ((if_pos hn).trans ?_))))
  dsimp only
  rw [ht]
  rfl

/-! ### Steps that only count -/

/-- What a step that only counts may change. -/
def anchorTouch : Touch where
  parts x := { x with anchor := {} }

theorem Exact.anchorNoted (h : Exact w s z) (l : List Nat) (hp : ∀ x a, w.parts { x with anchor := a } = w.parts x) : Exact w s (z.anchorNoted l) :=
  h.set_anchor _ hp

theorem Exact.anchorPast (h : Exact w s z) (n : Nat) (hp : ∀ x a, w.parts { x with anchor := a } = w.parts x) : Exact w s (z.anchorPast n) :=
  h.set_anchor _ hp

theorem Exact.anchorShade (h : Exact w s z) (hp : ∀ x a, w.parts { x with anchor := a } = w.parts x) : Exact w s z.anchorShade := h.set_anchor _ hp

/-- The places of a list are set, the others stay. -/
theorem testBit_setBits (l : List (Fin 32)) (m : Nat) (i : Fin 32) :
    ((l.map Fin.val).foldl (fun m k => setBit m k true) m).testBit i = (m.testBit i || decide (i ∈ l)) := by
  induction l generalizing m with
  | nil => simp
  | cons e l ih =>
    have hbit : (setBit m e true).testBit i = (m.testBit i || decide (i = e)) := by
      by_cases he : i = e
      · subst he
        rw [testBit_setBit_self]
        simp
      · have hne : e.val ≠ i.val := fun h => he (Fin.ext h.symm)
        simp [setBit, hne, he]
    rw [List.map_cons, List.foldl_cons, ih, hbit]
    simp [List.mem_cons, Bool.or_assoc]

theorem State.calBusy_iff (s : State) : (s.calBusy fun _ => true) = true ↔
    ∃ x < 8, s.getF (x * 0x10) CAL_TILE_ROT.ROT ≠ 0 ∨ s.isSet (x * 0x10) CAL_TILE_ROT.XFER = true := by
  unfold State.calBusy
  simp [List.any_eq_true]

theorem anchorStep_counted (h : s.isSet 0 CAL_STATUS.ANCHOR_RUN = true) (hn : n = s.anchor.step)
    (hc : n = 1 ∨ n = 2 ∧ s.standardFaults inp = [] ∨ 4 ≤ n ∧ n ≤ 6) : Completes (.anchorStep inp) s fun t =>
      (t.anchor.step = if n = 1 ∧ (∃ x < 8, s.getF (x * 0x10) CAL_TILE_ROT.ROT ≠ 0 ∨ s.isSet (x * 0x10) CAL_TILE_ROT.XFER = true) then 1 else n + 1) ∧
      (∀ i : Fin 32, t.anchor.failed.testBit i = (s.anchor.failed.testBit i || decide (i ∈ inp.failed))) ∧ Frame anchorTouch s t := by
  have hgiven : Exact anchorTouch s (s.anchorGiven inp) := (Exact.refl _ s).anchorNoted _ fun _ _ => rfl
  have hbits : ∀ i : Fin 32, (s.anchorGiven inp).anchor.failed.testBit i = (s.anchor.failed.testBit i || decide (i ∈ inp.failed)) :=
    testBit_setBits inp.failed s.anchor.failed
  subst hn
  obtain h1 | ⟨h2, hok⟩ | ⟨h4, h6⟩ := hc
  · have hx := exec_anchorStep_first (inp := inp) h h1
    by_cases hb : (s.anchorGiven inp).calBusy (fun _ => true) = true
    · rw [if_pos hb] at hx
      refine completes_done hx ⟨?_, ?_, hgiven.settled⟩ <;> rw [State.settled_anchor]
      · rw [if_pos ⟨h1, (State.calBusy_iff _).1 hb⟩]
        exact h1
      · exact hbits
    · rw [if_neg hb] at hx
      refine completes_done hx ⟨?_, ?_, (hgiven.anchorPast _ fun _ _ => rfl).settled⟩ <;> rw [State.settled_anchor]
      · rw [if_neg fun e => hb ((State.calBusy_iff _).2 e.2)]
        rfl
      · exact hbits
  · have hx := exec_anchorStep_check (inp := inp) h h2
    rw [if_neg (not_not_intro hok)] at hx
    refine completes_done hx ⟨?_, ?_, ((hgiven.anchorShade fun _ _ => rfl).anchorPast _ fun _ _ => rfl).settled⟩ <;> rw [State.settled_anchor]
    · rw [if_neg fun e => by omega]
      rfl
    · exact hbits
  · have hx := exec_anchorStep_counts (inp := inp) h h4 h6
    refine completes_done hx ⟨?_, ?_, (hgiven.anchorPast _ fun _ _ => rfl).settled⟩ <;> rw [State.settled_anchor]
    · rw [if_neg fun e => by omega]
      rfl
    · exact hbits

/-! ### The check of the standards (R210) -/

/-- The faults of one standard: reversed, out of tolerance. -/
def standardPair (reversed off : Bool) (d : Nat) : List (Nat × Option Nat) := (if reversed then [(0x05, some d)] else []) ++ if off then [(0x0D, none)] else []

theorem mem_standardPair (q : Bool) (d : Nat) : (0x05, some d) ∈ standardPair true q d := List.mem_cons_self

/-- A certificate of the block. -/
def State.anchorCert (s : State) (i : Nat) : Nat := (s.anchor.block.getD i 0).toNat + (s.anchor.block.getD (i + 1) 0).toNat * 2 ^ 32

/-- The faults of the voltage standard. -/
def State.voltFaults (s : State) (inp : AnchorIn) : List (Nat × Option Nat) :=
  standardPair (decide (inp.vx < -100000000))
    (decide (signed 64 (s.anchorCert 0) + 1000000000 < 1000 * (((inp.vx.natAbs : Int) - signed 64 (s.anchorCert 0)).natAbs : Int))) 0

theorem resistorFaults_eq (d cert perNv : Nat) (sense force : Int) : resistorFaults d cert perNv sense force =
    standardPair (decide (sense < 0 ∨ force < sense)) (decide ((cert : Int) < 100 * (sense * perNv - cert).natAbs)) d := by
  unfold resistorFaults standardPair
  simp only [decide_eq_true_eq]

theorem State.standardFaults_eq (s : State) (inp : AnchorIn) : s.standardFaults inp =
    if s.voltFaults inp ≠ [] then s.voltFaults inp
    else if resistorFaults 1 (s.anchorCert 2) 10 inp.senseA inp.forceA ≠ [] then resistorFaults 1 (s.anchorCert 2) 10 inp.senseA inp.forceA
    else resistorFaults 2 (s.anchorCert 4) 1 inp.senseB inp.forceB := by
  unfold State.standardFaults State.voltFaults standardPair
  simp only [decide_eq_true_eq]
  rfl

/-- The faults are those of one standard. -/
theorem State.standardFaults_pair (s : State) (inp : AnchorIn) : ∃ p q, ∃ d < 3, s.standardFaults inp = standardPair p q d := by
  rw [State.standardFaults_eq]
  split
  · exact ⟨_, _, 0, by decide, rfl⟩
  · split
    · exact ⟨_, _, 1, by decide, resistorFaults_eq ..⟩
    · exact ⟨_, _, 2, by decide, resistorFaults_eq ..⟩

theorem State.standardFaults_mem (s : State) {e : Nat × Option Nat} (h : e ∈ s.standardFaults inp) :
    (e.1 = 0x05 ∧ ∃ d < 3, e.2 = some d) ∨ e = (0x0D, none) := by
  obtain ⟨p, q, d, hd, hpair⟩ := s.standardFaults_pair inp
  rw [hpair] at h
  unfold standardPair at h
  rw [List.mem_append] at h
  obtain h | h := h <;> split at h
  · obtain rfl := List.mem_singleton.1 h
    exact .inl ⟨rfl, d, hd, rfl⟩
  · cases h
  · exact .inr (List.mem_singleton.1 h)
  · cases h

theorem State.standardFaults_reversed (s : State) (h : inp.vx < -100000000) : (0x05, some 0) ∈ s.standardFaults inp := by
  have hmem : (0x05, some 0) ∈ s.voltFaults inp := by
    unfold State.voltFaults
    rw [decide_eq_true h]
    exact mem_standardPair ..
  rw [State.standardFaults_eq, if_pos (List.ne_nil_of_mem hmem)]
  exact hmem

theorem resistorFaults_none {d cert perNv : Nat} {sense force : Int} (h0 : 0 ≤ sense) (hf : sense ≤ force) (hc : sense * perNv = cert) :
    resistorFaults d cert perNv sense force = [] := by
  unfold resistorFaults
  rw [if_neg (by omega), if_neg (by rw [hc]; simp)]
  rfl

/-- A voltage as certified is neither reversed nor out of tolerance. -/
theorem volt_exact {v x : Int} (h : 0 ≤ v) (hx : v = x) : ¬ x < -100000000 ∧ ¬ v + 1000000000 < 1000 * (((x.natAbs : Int) - v).natAbs : Int) := by omega

theorem State.standardFaults_none (s : State) {v : Int} (hv : v = signed 64 ((s.anchor.block.getD 0 0).toNat + (s.anchor.block.getD 1 0).toNat * 2 ^ 32))
    (h0 : 0 ≤ v) (hx : v = inp.vx) (ha : 0 ≤ inp.senseA) (hfa : inp.senseA ≤ inp.forceA) (hb : 0 ≤ inp.senseB) (hfb : inp.senseB ≤ inp.forceB)
    (hca : inp.senseA * 10 = ((s.anchor.block.getD 2 0).toNat + (s.anchor.block.getD 3 0).toNat * 2 ^ 32 : Nat))
    (hcb : inp.senseB = ((s.anchor.block.getD 4 0).toNat + (s.anchor.block.getD 5 0).toNat * 2 ^ 32 : Nat)) : s.standardFaults inp = [] := by
  have hcert : signed 64 (s.anchorCert 0) = v := hv.symm
  obtain ⟨hrev, hoff⟩ := volt_exact h0 hx
  have hvolt : s.voltFaults inp = [] := by
    unfold State.voltFaults
    rw [hcert, decide_eq_false hrev, decide_eq_false hoff]
    rfl
  have ha' : resistorFaults 1 (s.anchorCert 2) 10 inp.senseA inp.forceA = [] := resistorFaults_none ha hfa hca
  rw [State.standardFaults_eq, hvolt, if_neg (not_not_intro rfl), ha', if_neg (not_not_intro rfl)]
  exact resistorFaults_none hb hfb ((mul_one _).trans hcb)

/-! ### Faults of the standards end the anchor (R210, R247) -/

/-- A fault of the check is raised; the term of one out of tolerance is free. -/
def State.raiseFault (s : State) (e : Nat × Option Nat) : State :=
  match e.2 with
  | some d => s.detect e.1 scMODULE 0 d
  | none => let r := s.draw 32; r.2.detect e.1 scMODULE 0 r.1

/-- A fault raised at Pale is a detection, with the standard's number where it is known. -/
theorem State.raiseFault_pale (s : State) {e : Nat × Option Nat} (hl : s.getF (4 * e.1) FLT_CLASS.LEVEL = 0) : ∃ m d,
    s.raiseFault e = ({ s with free := m } : State).detectAt e.1 scMODULE 0 d 0 (momentary e.1) ∧ ∀ d', e.2 = some d' → d = d' := by
  unfold State.raiseFault
  split
  next d he => exact ⟨s.free, d, State.detect_pale hl .., fun d' h => Option.some.inj (he.symm.trans h)⟩
  next he => exact ⟨s.free + 1, _, State.detect_pale (s := (s.draw 32).2) hl .., fun d' h => absurd (he.symm.trans h) (Option.some_ne_none d').symm⟩

theorem State.inst_lastCls (s : State) (l : List (Nat × Nat)) (n : Nat) : ({ s with lastCls := l } : State).inst n = s.inst n := rfl

theorem State.incSat_inst (s : State) (b : Nat) (f : Fld) (v n : Nat) : (s.incSat b f v).inst n = s.inst n := by
  unfold State.incSat
  rw [State.inst_setF]

/-- A first detection at Pale leaves the other faults alone. -/
theorem State.detectPale_inst_ne (s : State) {cls scope unit n : Nat} (d : Nat) (mom : Bool) (hf : (s.inst (instKey cls scope unit)).force = false)
    (hn : n ≠ instKey cls scope unit) : (s.detectAt cls scope unit d 0 mom).inst n = s.inst n := by
  unfold State.detectAt
  extract_lets k i s1 s2 now
  have h2 : s2.inst n = s.inst n := (State.inst_lastCls s1 _ n).trans (s.incSat_inst (4 * cls) FLT_CLASS.DCNT 1 n)
  rw [if_pos (by rw [Bool.not_eq_true]; exact hf)]
  clear_value s2
  unfold State.enterLevel
  extract_lets s3 s4
  have h3 : s3.inst n = s2.inst n := (State.inst_setInst ..).trans (if_neg hn.symm)
  have h4 : s4.inst n = s3.inst n := ite_keeps (R := fun x => x.inst n = s3.inst n) (fun _ => s3.bbRecord_inst ..) fun _ => rfl
  rw [State.levelAction_zero, h4, h3, h2]

theorem instKey_module_ne {a b : Nat} (h : a ≠ b) : instKey a scMODULE 0 ≠ instKey b scMODULE 0 := fun e => h (by
  unfold instKey at e
  omega)

/-- What the raising of faults l at Pale leaves: each in force with its standard, all other faults, levels and commands as they were. -/
structure State.Raised (w : Touch) (s : State) (l : List (Nat × Option Nat)) (z t : State) : Prop where
  exact : Exact w s t
  cmds : t.cmds = z.cmds
  inst : ∀ n, (∀ e ∈ l, n ≠ instKey e.1 scMODULE 0) → t.inst n = z.inst n
  shown : ∀ e ∈ l, (t.inst (instKey e.1 scMODULE 0)).force = true ∧ ∀ d, e.2 = some d → (t.inst (instKey e.1 scMODULE 0)).detail = d

theorem State.raised_cons {l : List (Nat × Option Nat)} {e : Nat × Option Nat} {y t : State} (h : s.Raised w l y t) (hy : s.Raised w [e] z y)
    (hne : ∀ x ∈ l, e.1 ≠ x.1) : s.Raised w (e :: l) z t where
  exact := h.exact
  cmds := h.cmds.trans hy.cmds
  inst n hn := (h.inst n fun x hx => hn x (List.mem_cons_of_mem _ hx)).trans (hy.inst n fun x hx => by
    obtain rfl := List.mem_singleton.1 hx
    exact hn x List.mem_cons_self)
  shown x hx := by
    obtain rfl | hx := List.mem_cons.1 hx
    · rw [h.inst _ fun a ha => instKey_module_ne (hne a ha)]
      exact hy.shown x (List.mem_singleton.2 rfl)
    · exact h.shown x hx

theorem State.raiseFault_raised {e : Nat × Option Nat} (h : Exact w s z) (hw : w.Pale e.1) (hfree : ∀ x n, w.parts { x with free := n } = w.parts x)
    (hf : (z.inst (instKey e.1 scMODULE 0)).force = false) (hl : z.getF (4 * e.1) FLT_CLASS.LEVEL = 0) : s.Raised w [e] z (z.raiseFault e) := by
  obtain ⟨m, d, hx, hd⟩ := z.raiseFault_pale hl
  rw [hx]
  have hf' : (({ z with free := m } : State).inst (instKey e.1 scMODULE 0)).force = false := hf
  refine ⟨(h.set_free m hfree).detectPale hw _ _ hf', State.detectPale_cmds _ _ _ hf', fun n hn => State.detectPale_inst_ne _ _ _ hf' (hn e (List.mem_singleton.2 rfl)),
    fun x hm => ?_⟩
  obtain rfl := List.mem_singleton.1 hm
  obtain ⟨hforce, hdetail⟩ := State.detectAt_shows { z with free := m } x.1 scMODULE 0 d 0 (momentary x.1)
  exact ⟨hforce, fun d' hd' => hdetail.trans (hd d' hd')⟩

theorem State.raiseFault_level {e : Nat × Option Nat} {n : Nat} (hn : e.1 ≠ n) (hf : (z.inst (instKey e.1 scMODULE 0)).force = false)
    (hl : z.getF (4 * e.1) FLT_CLASS.LEVEL = 0) : (z.raiseFault e).getF (4 * n) FLT_CLASS.LEVEL = z.getF (4 * n) FLT_CLASS.LEVEL := by
  obtain ⟨m, d, hx, -⟩ := z.raiseFault_pale hl
  rw [hx]
  exact congrArg FLT_CLASS.LEVEL.get (State.detectPale_rd { z with free := m } d _ hf ⟨by dsimp only; omega, by dsimp only; omega⟩)

theorem State.raiseFaults_raised {l : List (Nat × Option Nat)} (h : Exact w s z) (hw : ∀ e ∈ l, w.Pale e.1) (hfree : ∀ x n, w.parts { x with free := n } = w.parts x)
    (hd : l.Pairwise fun a b => a.1 ≠ b.1) (hl : ∀ e ∈ l, (z.inst (instKey e.1 scMODULE 0)).force = false ∧ z.getF (4 * e.1) FLT_CLASS.LEVEL = 0) :
    s.Raised w l z (l.foldl State.raiseFault z) := by
  induction l generalizing z with
  | nil => exact ⟨h, rfl, fun _ _ => rfl, fun _ hx => absurd hx List.not_mem_nil⟩
  | cons e l ih =>
    obtain ⟨hne, hd⟩ := List.pairwise_cons.1 hd
    obtain ⟨hf, hlev⟩ := hl e List.mem_cons_self
    have hone := State.raiseFault_raised h (hw e List.mem_cons_self) hfree hf hlev
    refine State.raised_cons (ih hone.exact (fun x hx => hw x (List.mem_cons_of_mem _ hx)) hd fun x hx => ?_) hone hne
    obtain ⟨hxf, hxl⟩ := hl x (List.mem_cons_of_mem _ hx)
    rw [hone.inst _ fun a ha => by
      obtain rfl := List.mem_singleton.1 ha
      exact instKey_module_ne (hne x hx).symm]
    exact ⟨hxf, (State.raiseFault_level (hne x hx) hf hlev).trans hxl⟩

theorem standardPair_distinct (p q : Bool) (d : Nat) : (standardPair p q d).Pairwise fun a b => a.1 ≠ b.1 := by
  unfold standardPair
  cases p <;> cases q <;> simp

theorem State.anchorKill_eq (hr : s.isSet 0 CAL_STATUS.ANCHOR_RUN = true) (ha : s.anchor.run = some r) (e : Ending) :
    s.anchorKill (some e) = { (s.endCmd r e).setF 0 CAL_STATUS.ANCHOR_RUN 0 with anchor := {} } := by
  unfold State.anchorKill
  rw [if_pos hr, ha]

/-- An anchor ended for command r: what stands of the anchor, and the command answered. -/
theorem State.anchorKill_answers (h : Exact w s z) (hreg : w.regs CAL_STATUS.ANCHOR_RUN.off) (hp : ∀ x a, w.parts { x with anchor := a } = w.parts x)
    (hr : z.isSet 0 CAL_STATUS.ANCHOR_RUN = true) (ha : z.anchor.run = some r) (hc : s.cmd? r = some k) (hz : z.cmds = s.cmds) (e : Ending) :
    (z.anchorKill (some e)).settled.isSet 0 CAL_STATUS.ANCHOR_RUN = false ∧ (z.anchorKill (some e)).settled.anchor = {} ∧
      Answered r e w s (z.anchorKill (some e)).settled := by
  rw [State.anchorKill_eq hr ha e]
  have hset : Exact w s ((z.endCmd r e).setF 0 CAL_STATUS.ANCHOR_RUN 0) := (h.mapCmds _ _).setF 0 ((Nat.zero_add _).symm ▸ hreg)
  refine ⟨?_, State.settled_anchor _, (hset.set_anchor {} hp).answered hc (State.endCmd_cmds hz r e)⟩
  rw [State.settled_cal _ (by decide)]
  exact State.isSet_setF_self _ 0 CAL_STATUS.ANCHOR_RUN 0 (by decide)

theorem State.anchorKill_inst (s : State) (e : Option Ending) (n : Nat) : (s.anchorKill e).inst n = s.inst n := by
  unfold State.anchorKill
  split
  · split <;> rfl
  · rfl

theorem State.anchorFails_inst (s : State) (l : List (Nat × Option Nat)) (n : Nat) : (s.anchorFails l).inst n = (l.foldl State.raiseFault s).inst n :=
  State.anchorKill_inst ..

/-- What the end of an anchor by faults l may change. -/
def anchorFailTouch (l : List (Nat × Option Nat)) : Touch where
  regs a := a = CAL_STATUS.ANCHOR_RUN.off ∨ (∃ e ∈ l, a = FLT_CLASS.DCNT.off + 4 * e.1) ∨ a = FLT_BB_STATUS.LOST.off
  parts x := { x with anchor := {}, insts := [], lastCls := [], bbStage := [], free := 0 }

/-- What the raising of faults l at Pale may change. -/
def raiseTouch (l : List (Nat × Option Nat)) : Touch where
  regs a := (∃ e ∈ l, a = FLT_CLASS.DCNT.off + 4 * e.1) ∨ a = FLT_BB_STATUS.LOST.off
  parts x := { x with insts := [], lastCls := [], bbStage := [], free := 0 }

theorem raiseTouch_pale {l : List (Nat × Option Nat)} {e : Nat × Option Nat} (h : e ∈ l) : (raiseTouch l).Pale e.1 :=
  ⟨.inl ⟨e, h, Nat.add_comm ..⟩, .inr (Nat.zero_add _), fun _ _ => rfl, fun _ _ => rfl, fun _ _ => rfl⟩

/-- The registers of the faults stand apart from CAL_STATUS. -/
theorem raiseTouch_status {l : List (Nat × Option Nat)} (h : ∀ e ∈ l, e.1 < 0x20) {f : Fld} (hf : f.off = 0x400004) : ¬ (raiseTouch l).regs (0 + f.off) := by
  rw [hf]
  rintro (⟨e, he, ha⟩ | ha)
  · have hlt := h e he
    have ha' : 0 + 0x400004 = 0x300400 + 4 * e.1 := ha
    omega
  · exact absurd ha (by decide)

theorem Exact.raise {l : List (Nat × Option Nat)} {t : State} (h : Exact (anchorFailTouch l) s z) (g : Exact (raiseTouch l) z t) : Exact (anchorFailTouch l) s t :=
  h.trans (g.widen (fun _ => .inr) (fun _ => id) (fun _ => id) (fun _ => id) (fun _ => id) (fun _ => id) (fun _ => id) (fun _ => id) fun _ => rfl)

theorem anchorStep_fails {l : List (Nat × Option Nat)} (hr : s.isSet 0 CAL_STATUS.ANCHOR_RUN = true) (hn : s.anchor.step = 2) (ha : s.anchor.run = some r)
    (hc : s.cmd? r = some k) (hl : l = s.standardFaults inp) (hne : l ≠ [])
    (hf : ∀ e ∈ l, (s.inst (instKey e.1 scMODULE 0)).force = false ∧ s.getF (4 * e.1) FLT_CLASS.LEVEL = 0) : Completes (.anchorStep inp) s fun t =>
      t.isSet 0 CAL_STATUS.ANCHOR_RUN = false ∧ t.anchor = {} ∧
      (∀ e ∈ l, (t.inst (instKey e.1 scMODULE 0)).force = true ∧ ∀ d, e.2 = some d → (t.inst (instKey e.1 scMODULE 0)).detail = d) ∧
      Answered r { status := scABORTFAULT, detail := l.foldl (fun m e => min m e.1) 0xFF } (anchorFailTouch l) s t := by
  have hx := exec_anchorStep_check (inp := inp) hr hn
  rw [← hl, if_pos hne] at hx
  have hd : l.Pairwise fun a b => a.1 ≠ b.1 := by
    obtain ⟨p, q, d, -, hpair⟩ := s.standardFaults_pair inp
    rw [hl, hpair]
    exact standardPair_distinct p q d
  have hbegin : Exact (anchorFailTouch l) s (s.anchorGiven inp).anchorShade := ((Exact.refl _ s).anchorNoted _ fun _ _ => rfl).anchorShade fun _ _ => rfl
  have hraised := State.raiseFaults_raised (.refl (raiseTouch l) (s.anchorGiven inp).anchorShade) (fun _ => raiseTouch_pale) (fun _ _ => rfl) hd hf
  have hrun := (hraised.exact.isSet (raiseTouch_status (fun e he => ?_) rfl)).trans hr
  · have hanchor := congrArg State.anchor hraised.exact.parts
    have hown := (congrArg Anchor.run hanchor).trans ha
    obtain ⟨hover, hgone, hans⟩ := State.anchorKill_answers (hbegin.raise hraised.exact) (.inl rfl) (fun _ _ => rfl) hrun hown hc hraised.cmds
      { status := scABORTFAULT, detail := l.foldl (fun m e => min m e.1) 0xFF }
    refine completes_done hx ⟨hover, hgone, fun e he => ?_, hans⟩
    rw [State.settled_inst, State.anchorFails_inst]
    exact hraised.shown e he
  · obtain ⟨h5, -⟩ | h13 := s.standardFaults_mem (hl ▸ he)
    · omega
    · rw [h13]
      decide

/-! ### The ratios, the last step, the time limit (R209, R211, R212) -/

/-- z is s but for the free values taken. -/
def State.Draws (s z : State) : Prop := ∃ m, z = { s with free := m }

theorem State.Draws.draw (h : s.Draws z) (w : Nat) : s.Draws (z.draw w).2 := by
  obtain ⟨m, rfl⟩ := h
  exact ⟨m + 1, rfl⟩

theorem State.Draws.roundFree (h : s.Draws z) (x : Rat) : s.Draws (z.roundFree x).2 := h.draw 1

theorem State.Draws.ite {p : Prop} [Decidable p] {y : State} (hy : s.Draws y) (hz : s.Draws z) : s.Draws (if p then y else z) :=
  ite_keeps (R := s.Draws) (fun _ => hy) fun _ => hz

/-- The anchor's result takes free values, and is noted. -/
theorem State.anchorMref_eq (s : State) (keep : List Rat) : ∃ m x d, s.anchorMref keep =
    { s with free := m, anchor := { s.anchor with mref := x, change := d } } := by
  unfold State.anchorMref
  extract_lets w cert avg r q m s1 old x y d s2
  have hr : s.Draws r.2 := State.Draws.roundFree ⟨_, rfl⟩ _
  have h1 : s.Draws s1 := .ite (hr.draw 64) hr
  have h2 : s.Draws s2 := .ite (h1.draw 32) (h1.roundFree _)
  clear_value d s2 m
  obtain ⟨n, rfl⟩ := h2
  exact ⟨n, _, _, rfl⟩

/-- What the step of the ratios may change. -/
def ratioTouch : Touch where
  parts x := { x with anchor := {}, free := 0 }

theorem anchorStep_ratios (hr : s.isSet 0 CAL_STATUS.ANCHOR_RUN = true) (hn : s.anchor.step = 3) : Completes (.anchorStep inp) s fun t =>
    t.anchor.step = 4 ∧ t.anchor.run = s.anchor.run ∧ Frame ratioTouch s t := by
  have hx := exec_anchorStep_ratios (inp := inp) hr hn
  obtain ⟨m, x, d, hmref⟩ := ((s.anchorGiven inp).anchorNoted (ratioSplit (s.ratiosGiven inp)).2).anchorMref_eq (ratioSplit (s.ratiosGiven inp)).1
  rw [hmref] at hx
  have hnoted : Exact ratioTouch s ((s.anchorGiven inp).anchorNoted (ratioSplit (s.ratiosGiven inp)).2) :=
    ((Exact.refl _ s).anchorNoted _ fun _ _ => rfl).anchorNoted _ fun _ _ => rfl
  refine completes_done hx ⟨?_, ?_, (((hnoted.set_free m fun _ _ => rfl).set_anchor _ fun _ _ => rfl).anchorPast _ fun _ _ => rfl).settled⟩ <;> rw [State.settled_anchor]
  · exact congrArg (· + 1) hn
  · rfl

/-- An anchor of which nothing is to be staged, staged. -/
def State.anchorStaged (s : State) : State :=
  { s.setFs 0 [(CAL_STATUS.ANCHOR_STAGED, 1), (CAL_STATUS.ANCHOR_RUN, 0)] with anchor := { s.anchor with step := 8, tol := [], passed := 0, run := none } }

theorem State.anchorStage_nil (ha : s.anchor.run = some r) (hc : s.cmd? r = some k) (h0 : k.raddr = 0) :
    s.anchorStage [] = s.anchorStaged.endCmd ⟨k.sq, k.tag⟩ { status := scOK, result := s.anchor.change * 2 ^ 32 } := by
  have hfind : s.anchor.run.bind s.anchorStaged.cmd? = some k := by
    rw [ha]
    exact hc
  unfold State.anchorStage
  extract_lets part tol passed s1 s2 run a s3
  have h3 : run.bind s3.cmd? = some k := hfind
  rw [h3]
  dsimp only
  rw [State.output_none _ _ h0]
  have hres : passed + s3.anchor.change <<< 32 = s.anchor.change * 2 ^ 32 := (Nat.zero_add _).trans (Nat.shiftLeft_eq ..)
  rw [hres]
  rfl

/-- What the last step may change, where nothing is to be staged. -/
def anchorLastTouch : Touch where
  regs a := a = CAL_STATUS.ANCHOR_RUN.off
  parts x := { x with anchor := {} }

theorem anchorStep_last (hr : s.isSet 0 CAL_STATUS.ANCHOR_RUN = true) (hn : s.anchor.step = 7) (hrows : inp.rows = []) (htres : inp.tres = [])
    (ha : s.anchor.run = some r) (hc : s.cmd? r = some k) (h0 : k.raddr = 0) : Completes (.anchorStep inp) s fun t =>
      t.isSet 0 CAL_STATUS.ANCHOR_STAGED = true ∧ t.isSet 0 CAL_STATUS.ANCHOR_RUN = false ∧ t.anchor.step = 8 ∧ t.anchor.mref = s.anchor.mref ∧
      t.anchor.passed = 0 ∧ Answered ⟨k.sq, k.tag⟩ { status := scOK, result := s.anchor.change * 2 ^ 32 } anchorLastTouch s t := by
  have hx := exec_anchorStep_last hr hn htres
  rw [hrows, State.anchorStage_nil (s := s.anchorGiven inp) ha hc h0] at hx
  have hset : Exact anchorLastTouch s ((s.anchorGiven inp).setFs 0 [(CAL_STATUS.ANCHOR_STAGED, 1), (CAL_STATUS.ANCHOR_RUN, 0)]) :=
    ((Exact.refl _ s).anchorNoted _ fun _ _ => rfl).setFs fun e he => by fin_cases he <;> rfl
  refine completes_done hx ⟨?_, ?_, ?_, ?_, ?_, ((hset.set_anchor _ fun _ _ => rfl).mapCmds _ _).answered ((State.ref_of_cmd hc).symm ▸ hc) (State.endCmd_cmds rfl _ _)⟩
  · rw [State.settled_cal _ (by decide)]
    exact (State.isSet_setF_disj _ 0 CAL_STATUS.ANCHOR_RUN CAL_STATUS.ANCHOR_STAGED 0 rfl (by decide)).trans (State.isSet_setF_self _ 0 CAL_STATUS.ANCHOR_STAGED 1 (by decide))
  · rw [State.settled_cal _ (by decide)]
    exact State.isSet_setF_self _ 0 CAL_STATUS.ANCHOR_RUN 0 (by decide)
  all_goals rw [State.settled_anchor]; rfl

theorem exec_anchorTimeout_none (h : s.isSet 0 CAL_STATUS.ANCHOR_RUN = false ∨ s.anchor.block.getD 11 0 = 0) : exec .calAnchorTimeout s = done s :=
  if_pos (h.imp_left fun e => by rw [e]; exact Bool.false_ne_true)

/-- What the end of an anchor by its time limit may change. -/
def anchorTimeoutTouch : Touch where
  regs a := a = CAL_STATUS.ANCHOR_RUN.off
  parts x := { x with anchor := {}, free := 0 }

theorem anchorTimeout_row (hr : s.isSet 0 CAL_STATUS.ANCHOR_RUN = true) (hb : s.anchor.block.getD 11 0 ≠ 0) (ha : s.anchor.run = some r) (hc : s.cmd? r = some k) :
    Completes .calAnchorTimeout s fun t => t.isSet 0 CAL_STATUS.ANCHOR_RUN = false ∧ t.anchor = {} ∧
      t.isSet 0 CAL_STATUS.ANCHOR_STAGED = s.isSet 0 CAL_STATUS.ANCHOR_STAGED ∧ ∃ e, Answered r e anchorTimeoutTouch s t := by
  have hx : exec .calAnchorTimeout s = done ((s.draw 20).2.anchorKill (some _)) := if_neg fun e => e.elim (fun h => h hr) hb
  obtain ⟨hover, hgone, hans⟩ := State.anchorKill_answers (w := anchorTimeoutTouch) (z := (s.draw 20).2) ((Exact.refl _ s).set_free _ fun _ _ => rfl) rfl (fun _ _ => rfl)
    hr ha hc rfl _
  refine completes_done hx ⟨hover, hgone, ?_, _, hans⟩
  rw [State.settled_cal _ (by decide), State.anchorKill_eq (s := (s.draw 20).2) hr ha]
  exact State.isSet_setF_disj _ 0 CAL_STATUS.ANCHOR_RUN CAL_STATUS.ANCHOR_STAGED 0 rfl (by decide)

end Sys2Proof.Machine
end

section
/-! PROOFS. The steps of a transfer (R213 to R215). -/

namespace Sys2Proof.Machine

open Sys2Proof (Instr)

variable {w : Touch} {s z : State} {x : Fin 8} {rows : List (Fin 4 × CalRow)} {tresH tresL : List (Fin 4 × BitVec 64)} {n h l t : Nat}

/-! ### The instruction as one equation per step -/

/-- Step n of tile t's transfer is over. -/
def State.xferPast (s : State) (t n : Nat) : State := s.modTile t fun y => { y with xferStep := n + 1 }

theorem exec_transferStep_none (h : s.isSet (x * 0x10) CAL_TILE_ROT.XFER = false ∨ s.mode = stSAFE ∨
    (s.tile x).xferStep = 1 ∧ s.getF (x * 0x10) CAL_TILE_ROT.ROT ≠ 0) : exec (.transferStep x rows tresH tresL) s = done s := by
  show execTransferStep x rows tresH tresL s = _
  unfold execTransferStep
  dsimp only
  by_cases hr : s.isSet (x * 0x10) CAL_TILE_ROT.XFER = false ∨ s.mode = stSAFE
  · exact if_pos (hr.imp_left fun e => by rw [e]; exact Bool.false_ne_true)
  · obtain ⟨h1, hrot⟩ := ((or_assoc.2 h).resolve_left hr)
    exact (if_neg fun e => hr (e.imp_left Bool.eq_false_iff.2)).trans ((if_pos h1).trans (if_pos hrot))

theorem exec_transferStep_counts (hx : s.isSet (x * 0x10) CAL_TILE_ROT.XFER = true) (hm : s.mode ≠ stSAFE) (hn : (s.tile x).xferStep < 4)
    (h1 : (s.tile x).xferStep = 1 → s.getF (x * 0x10) CAL_TILE_ROT.ROT = 0) :
    exec (.transferStep x rows tresH tresL) s = done (s.xferPast x (s.tile x).xferStep) := by
  show execTransferStep x rows tresH tresL s = _
  unfold execTransferStep
  dsimp only
  rw [if_neg (not_or.2 ⟨not_not_intro hx, hm⟩)]
  by_cases hs : (s.tile x).xferStep = 1
  · exact (if_pos hs).trans (if_neg (not_not_intro (h1 hs)))
  · exact (if_neg hs).trans ((if_neg (by omega)).trans (if_pos (by omega)))

theorem exec_transferStep_stages (hx : s.isSet (x * 0x10) CAL_TILE_ROT.XFER = true) (hm : s.mode ≠ stSAFE) (hn : (s.tile x).xferStep = 4) :
    exec (.transferStep x rows tresH tresL) s = done ((s.xferStage x rows tresH tresL).xferPast x (s.tile x).xferStep) :=
  (if_neg (not_or.2 ⟨not_not_intro hx, hm⟩)).trans ((if_neg (by omega)).trans (if_pos hn))

/-- A transfer is over (R214). -/
def State.xferOver (s : State) (t : Nat) : State :=
  (s.setFs (t * 0x10) [(CAL_TILE_ROT.XFER, 0), (CAL_TILE_ROT.DUE, 0)]).modTile t fun y => { y with xferStep := 0, xferEnd := some s.uptime }

theorem exec_transferStep_ends (hx : s.isSet (x * 0x10) CAL_TILE_ROT.XFER = true) (hm : s.mode ≠ stSAFE) (hn : 5 ≤ (s.tile x).xferStep) :
    exec (.transferStep x rows tresH tresL) s =
      if (s.xferOver x).isSet 0 CAL_CTRL.AUTO_COMMIT ∧ ¬ (s.xferOver x).isSet 0 CAL_STATUS.ANCHOR_STAGED then done { s.xferOver x with commitPend := true }
      else done (s.xferOver x) :=
  (if_neg (not_or.2 ⟨not_not_intro hx, hm⟩)).trans ((if_neg (by omega)).trans ((if_neg (by omega)).trans (if_neg (by omega))))

/-! ### The transfer resistors' mean -/

/-- A whole number is not rounded. -/
theorem State.roundFree_natCast (s : State) (n : Nat) : s.roundFree (n : Rat) = ((n : Int), (s.draw 1).2) := by
  have hint : (n : Rat).isInt = true := by
    unfold Rat.isInt
    rw [Rat.den_natCast]
    rfl
  unfold State.roundFree
  dsimp only
  rw [if_pos hint, Rat.num_natCast]

/-- One measurement is its own mean. -/
theorem State.tresMean_one (s : State) (k n old : Nat) : s.tresMean [(k, n)] old = (n, (s.draw 1).2) := by
  have hmed : ratMedian [(n : Rat)] = n := by simp [ratMedian, ratInsert]
  have hsplit : (medianSplit [(k, (n : Rat))]).1 = [(n : Rat)] := by
    unfold medianSplit
    simp only [List.map_cons, List.map_nil, hmed]
    simp
  have hmean : ([(n : Rat)].foldl (· + ·) 0 : Rat) / (([(n : Rat)].length : Nat) : Rat) = (n : Rat) := by simp
  unfold State.tresMean
  simp only [List.map_cons, List.map_nil, hsplit]
  rw [if_neg (List.cons_ne_nil _ _), hmean, State.roundFree_natCast]
  rfl

theorem State.tresMean_none (s : State) (old : Nat) : s.tresMean [] old = (old, s) := rfl

/-! ### Staging -/

/-- The place of a tile's record in the staging buffer. -/
def tileStage (t : Nat) : Nat := calStage + tileRec t

/-- A tile's record takes the transfer's temperature and time and the states of the shades. -/
def State.xferTimes (s : State) (y : Tile) (t : Nat) : State :=
  ((s.sramSet (tileStage t) 2 y.xferTemp).sramSet (tileStage t + 8) 8
    (if s.isSet 0 CAL_STATUS.TIME_SET then s.calTime - (s.uptime - y.xferStart) / tclkHz else 0)).sramSet (tileStage t + 32) 1 (s.getF (t * 0x10) CAL_TILE_SHD.STATE)

/-- CAL_TILEt_TX takes the transfer's temperature. -/
def State.xferTx (s : State) (y : Tile) (t : Nat) : State :=
  (s.setF (t * 0x10) CAL_TILE_TX.TEMP y.xferTemp).modTile t fun k => { k with xferAt := some k.xferStart, txValid := (s.getF 0 THM_STATUS.TVALID).testBit t }

/-- A transfer of tile t is staged. -/
def State.xferMark (s : State) (t : Nat) : State := { s.setF 0 CAL_STATUS.XFER_STAGED 1 with stagedXfer := setBit s.stagedXfer t true }

/-- What is staged with a tile's record. -/
def State.xferNoted (s : State) (y : Tile) (t : Nat) : State := ((s.xferTimes y t).xferTx y t).xferMark t

/-- The measurements of the resistors that count. -/
def State.tresCounted (s : State) (t : Nat) (l : List (Fin 4 × BitVec 64)) : List (Nat × Nat) :=
  (l.filter fun e => s.shadeState (4 * t + e.1) == 0 && !s.underTest (1024 + 4 * t + e.1)).map fun e => (e.1.val, e.2.toNat)

theorem State.xferStage_nil (s : State) (t : Nat) (tresH tresL : List (Fin 4 × BitVec 64)) : s.xferStage t [] tresH tresL =
    (((s.tresMean (s.tresCounted t tresH) (s.cal (tileRec t + 16) 8)).2.tresMean (s.tresCounted t tresL) (s.cal (tileRec t + 24) 8)).2.stageTile t
      (s.tresMean (s.tresCounted t tresH) (s.cal (tileRec t + 16) 8)).1
      ((s.tresMean (s.tresCounted t tresH) (s.cal (tileRec t + 16) 8)).2.tresMean (s.tresCounted t tresL) (s.cal (tileRec t + 24) 8)).1).xferNoted (s.tile t) t := rfl

theorem Exact.set_stagedTiles (h : Exact w s z) (l : List Nat) (hp : ∀ x l, w.parts { x with stagedTiles := l } = w.parts x) :
    Exact w s { z with stagedTiles := l } := h.congr (hp z.parts l) rfl rfl rfl rfl rfl rfl rfl rfl

theorem Exact.set_stagedXfer (h : Exact w s z) (m : Nat) (hp : ∀ x m, w.parts { x with stagedXfer := m } = w.parts x) :
    Exact w s { z with stagedXfer := m } := h.congr (hp z.parts m) rfl rfl rfl rfl rfl rfl rfl rfl

/-- A tile's record as it is staged: what is staged of it, or what stands committed. -/
def State.tileOld (s : State) (t : Nat) : List Byte :=
  if t ∈ s.stagedTiles then memRead sramReset s.sram (tileStage t) 64 else memRead sramReset s.sram (calBase + tileRec t) 64

theorem State.tileOld_length (s : State) (t : Nat) : (s.tileOld t).length = 64 := by
  unfold State.tileOld
  split <;> simp [memRead]

theorem State.stageTile_eq (s : State) (t h l : Nat) : s.stageTile t h l =
    { ((s.sramPut (tileStage t) (s.tileOld t)).sramSet (tileStage t + 16) 8 h).sramSet (tileStage t + 24) 8 l with
      stagedTiles := s.stagedTiles.filter (· ≠ t) ++ [t] } := rfl

/-- What the staging of tile t's transfer may change. -/
def xferTouch (t : Nat) : Touch where
  regs a := a = CAL_STATUS.XFER_STAGED.off ∨ a = t * 0x10 + CAL_TILE_TX.TEMP.off
  sram a := calStage + tileRec t ≤ a ∧ a < calStage + tileRec t + 64
  parts x := { x with tiles := [], stagedTiles := [], stagedXfer := 0, free := 0 }

theorem xferTouch_sram {a : Nat} (hl : tileStage t ≤ a) (hu : a < tileStage t + 64) : (xferTouch t).sram a := ⟨hl, hu⟩

theorem Exact.tileSet (h : Exact (xferTouch t) s z) {i n : Nat} (v : Nat) (hi : i + n ≤ 64) : Exact (xferTouch t) s (z.sramSet (tileStage t + i) n v) :=
  h.sramSet v fun a hl hu => xferTouch_sram (by omega) (by omega)

theorem Exact.stageTile (hx : Exact (xferTouch t) s z) (h l : Nat) : Exact (xferTouch t) s (z.stageTile t h l) := by
  rw [State.stageTile_eq]
  have h1 : Exact (xferTouch t) s (z.sramPut (tileStage t) (z.tileOld t)) := hx.sramPut fun a hl hu => xferTouch_sram hl (by rw [z.tileOld_length] at hu; exact hu)
  have h2 : Exact (xferTouch t) s (((z.sramPut (tileStage t) (z.tileOld t)).sramSet (tileStage t + 16) 8 h).sramSet (tileStage t + 24) 8 l) :=
    (h1.tileSet h (by decide)).tileSet l (by decide)
  exact h2.set_stagedTiles _ fun _ _ => rfl

theorem Exact.xferNoted (h : Exact (xferTouch t) s z) (y : Tile) : Exact (xferTouch t) s (z.xferNoted y t) := by
  have h1 : Exact (xferTouch t) s (z.xferTimes y t) := ((h.tileSet (i := 0) y.xferTemp (by decide)).tileSet _ (by decide)).tileSet _ (by decide)
  have h2 : Exact (xferTouch t) s ((z.xferTimes y t).xferTx y t) := (h1.setF (f := CAL_TILE_TX.TEMP) y.xferTemp (.inr rfl)).modTile t _ fun _ _ => rfl
  exact (h2.setF (b := 0) (f := CAL_STATUS.XFER_STAGED) 1 (.inl rfl)).set_stagedXfer _ fun _ _ => rfl

/-! ### What stands staged -/

theorem leNat_lt (l : List Byte) : leNat l < 256 ^ l.length := by
  induction l with
  | nil => exact Nat.one_pos
  | cons b l ih =>
    have hb := b.isLt
    rw [leNat, List.length_cons, Nat.pow_succ]
    omega

theorem State.cal_lt (s : State) (o n : Nat) : s.cal o n < 256 ^ n := by
  have h := leNat_lt (memRead sramReset s.sram (calBase + o) n)
  rwa [show (memRead sramReset s.sram (calBase + o) n).length = n by simp [memRead]] at h

theorem State.sramN_stagedTiles (s : State) (m : List Nat) (a n : Nat) : ({ s with stagedTiles := m } : State).sramN a n = s.sramN a n := rfl

/-- A tile's resistors stand staged as given. -/
theorem State.stageTile_tres (s : State) (t : Nat) {h l : Nat} (hh : h < 256 ^ 8) (hl : l < 256 ^ 8) :
    (s.stageTile t h l).sramN (tileStage t + 16) 8 = h ∧ (s.stageTile t h l).sramN (tileStage t + 24) 8 = l := by
  rw [State.stageTile_eq, State.sramN_stagedTiles, State.sramN_stagedTiles]
  exact ⟨(State.sramN_sramSet_apart _ l (.inl (by omega))).trans ((State.sramN_sramSet ..).trans (Nat.mod_eq_of_lt hh)), (State.sramN_sramSet ..).trans (Nat.mod_eq_of_lt hl)⟩

theorem State.xferMark_sramN (s : State) (t a n : Nat) : (s.xferMark t).sramN a n = s.sramN a n := rfl

theorem State.xferTx_sramN (s : State) (y : Tile) (t a n : Nat) : (s.xferTx y t).sramN a n = s.sramN a n := by
  unfold State.xferTx
  rw [State.sramN_modTile, State.sramN_setF]

theorem State.xferNoted_tres (s : State) (y : Tile) (t : Nat) {i : Nat} (hi : i = 16 ∨ i = 24) : (s.xferNoted y t).sramN (tileStage t + i) 8 = s.sramN (tileStage t + i) 8 := by
  unfold State.xferNoted
  rw [State.xferMark_sramN, State.xferTx_sramN]
  unfold State.xferTimes
  rw [State.sramN_sramSet_apart _ _ (.inl (by omega)), State.sramN_sramSet_apart _ _ (.inr (by omega)), State.sramN_sramSet_apart _ _ (.inr (by omega))]

theorem State.xferTx_temp (s : State) (y : Tile) (t : Nat) : (s.xferTx y t).getF (t * 0x10) CAL_TILE_TX.TEMP = y.xferTemp % 2 ^ 16 :=
  (State.getF_modTile ..).trans (State.getF_setF_self _ _ _ _ (by decide))

theorem State.xferMark_getF (s : State) (t b : Nat) (f : Fld) : (s.xferMark t).getF b f = (s.setF 0 CAL_STATUS.XFER_STAGED 1).getF b f := rfl

theorem State.xferNoted_temp (s : State) (y : Tile) (t : Nat) : (s.xferNoted y t).getF (t * 0x10) CAL_TILE_TX.TEMP = y.xferTemp % 2 ^ 16 := by
  unfold State.xferNoted
  rw [State.xferMark_getF, State.getF_setF_ne _ (calTile_ne t (f := CAL_STATUS.XFER_STAGED) (by decide) (by decide)), State.xferTx_temp]

theorem State.xferMark_tile (s : State) (t n : Nat) : (s.xferMark t).tile n = s.tile n := rfl

theorem State.xferTx_at (s : State) (y : Tile) (t : Nat) : ((s.xferTx y t).tile t).xferAt = some (s.tile t).xferStart := by
  unfold State.xferTx
  rw [State.tile_modTile_self, State.tile_setF]

theorem State.xferTimes_tile (s : State) (y : Tile) (t n : Nat) : (s.xferTimes y t).tile n = s.tile n := by
  unfold State.xferTimes
  rw [State.tile_sramSet, State.tile_sramSet, State.tile_sramSet]

/-- Marks of a transfer whose results are staged. -/
theorem State.xferNoted_marks (s : State) (y : Tile) (t : Nat) : (s.xferNoted y t).isSet 0 CAL_STATUS.XFER_STAGED = true ∧
    (s.xferNoted y t).stagedXfer.testBit t = true ∧ ((s.xferNoted y t).tile t).xferAt = some (s.tile t).xferStart := by
  refine ⟨?_, testBit_setBit_self ((s.xferTimes y t).xferTx y t).stagedXfer t true, ?_⟩
  · unfold State.xferNoted
    rw [State.isSet_of_getF (State.xferMark_getF ..)]
    exact State.isSet_setF_self _ 0 CAL_STATUS.XFER_STAGED 1 (by decide)
  · unfold State.xferNoted
    rw [State.xferMark_tile, State.xferTx_at, State.xferTimes_tile]

theorem State.xferMark_stagedTiles (s : State) (t : Nat) : (s.xferMark t).stagedTiles = s.stagedTiles := rfl

theorem State.xferNoted_stagedTiles (s : State) (y : Tile) (t : Nat) : (s.xferNoted y t).stagedTiles = s.stagedTiles := by
  unfold State.xferNoted
  rw [State.xferMark_stagedTiles]
  unfold State.xferTx State.xferTimes
  rw [State.modTile_stagedTiles, State.setF_stagedTiles, State.sramSet_stagedTiles, State.sramSet_stagedTiles, State.sramSet_stagedTiles]

theorem State.xferPast_getF (s : State) (t n b : Nat) (f : Fld) : (s.xferPast t n).getF b f = s.getF b f := State.getF_modTile ..

theorem State.xferPast_sramN (s : State) (t n a m : Nat) : (s.xferPast t n).sramN a m = s.sramN a m := State.sramN_modTile ..

theorem State.xferPast_tile (s : State) (t n : Nat) : (s.xferPast t n).tile t = { s.tile t with xferStep := n + 1 } := State.tile_modTile_self ..

theorem State.xferPast_eq {α : Type} (g : State → α) (hg : ∀ x l, g { x with tiles := l } = g x) (s : State) (t n : Nat) : g (s.xferPast t n) = g s := hg s _

theorem State.stageTile_mem (s : State) (t h l : Nat) : t ∈ (s.stageTile t h l).stagedTiles := by
  rw [State.stageTile_eq]
  exact List.mem_append_right _ (List.mem_singleton.2 rfl)

theorem State.stageTile_tile (s : State) (t h l n : Nat) : (s.stageTile t h l).tile n = s.tile n := rfl

/-- The tile's transfer after its results are staged. -/
theorem State.xferStaged_shows (z : State) (y : Tile) (hy : z.tile x = y) {h l : Nat} (hh : h < 256 ^ 8) (hl : l < 256 ^ 8) :
    let t := (((z.stageTile x h l).xferNoted y x).xferPast x 4).settled
    (t.tile x).xferStep = 5 ∧ (t.tile x).xferAt = some y.xferStart ∧ t.getF (x * 0x10) CAL_TILE_TX.TEMP = y.xferTemp % 2 ^ 16 ∧
      t.isSet 0 CAL_STATUS.XFER_STAGED = true ∧ t.stagedXfer.testBit x = true ∧ x.val ∈ t.stagedTiles ∧
      t.sramN (tileStage x + 16) 8 = h ∧ t.sramN (tileStage x + 24) 8 = l := by
  obtain ⟨hset, hbit, hat⟩ := (z.stageTile x h l).xferNoted_marks y x
  obtain ⟨hth, htl⟩ := z.stageTile_tres x hh hl
  have hstart : y.xferStart = ((z.stageTile x h l).tile x).xferStart := by rw [State.stageTile_tile, hy]
  intro t
  refine ⟨?_, ?_, ?_, ?_, ?_, ?_, ?_, ?_⟩
  · rw [State.settled_tile, State.xferPast_tile]
  · rw [State.settled_tile, State.xferPast_tile, hstart]
    exact hat
  · rw [State.settled_getF _ (calTile_follows (f := CAL_TILE_TX.TEMP) x.isLt (by decide)), State.xferPast_getF]
    exact State.xferNoted_temp ..
  · rw [State.settled_cal _ (by decide), State.isSet_of_getF (State.xferPast_getF ..)]
    exact hset
  · rw [State.settled_stagedXfer, State.xferPast_eq State.stagedXfer fun _ _ => rfl]
    exact hbit
  · rw [State.settled_stagedTiles, State.xferPast_eq State.stagedTiles fun _ _ => rfl, State.xferNoted_stagedTiles]
    exact State.stageTile_mem ..
  · rw [State.settled_sramN, State.xferPast_sramN, State.xferNoted_tres _ _ _ (.inl rfl)]
    exact hth
  · rw [State.settled_sramN, State.xferPast_sramN, State.xferNoted_tres _ _ _ (.inr rfl)]
    exact htl

/-! ### The rows -/

theorem transferStep_counted (hx : s.isSet (x * 0x10) CAL_TILE_ROT.XFER = true) (hm : s.mode ≠ stSAFE) (hn : n = (s.tile x).xferStep) (h4 : n < 4)
    (h1 : n = 1 → s.getF (x * 0x10) CAL_TILE_ROT.ROT = 0) : Completes (.transferStep x rows tresH tresL) s fun t =>
      t.tile x = { s.tile x with xferStep := n + 1 } ∧ Frame { parts := fun x => { x with tiles := [] } } s t := by
  subst hn
  refine completes_done (exec_transferStep_counts hx hm h4 h1) ⟨?_, ((Exact.refl _ s).modTile _ _ fun _ _ => rfl).settled⟩
  rw [State.settled_tile, State.xferPast_tile]

/-- A measurement of each resistor by a shade that counts. -/
def State.tresOne (s : State) (t : Nat) (tresH tresL : List (Fin 4 × BitVec 64)) (h l : Nat) : Prop :=
  ∃ (k : Fin 4) (a b : BitVec 64), tresH = [(k, a)] ∧ tresL = [(k, b)] ∧ s.shadeState (4 * t + k) = 0 ∧ s.underTest (1024 + 4 * t + k) = false ∧
    h = a.toNat ∧ l = b.toNat

theorem State.tresCounted_one {k : Fin 4} (hs : s.shadeState (4 * t + k) = 0) (hu : s.underTest (1024 + 4 * t + k) = false) (a : BitVec 64) :
    s.tresCounted t [(k, a)] = [(k.val, a.toNat)] := by
  unfold State.tresCounted
  simp [hs, hu]

/-- The staging of a transfer's results: the free values it takes apart, the resistors' values are h and l. -/
theorem State.xferStage_values (hv : tresH = [] ∧ tresL = [] ∧ h = s.cal (tileRec t + 16) 8 ∧ l = s.cal (tileRec t + 24) 8 ∨ s.tresOne t tresH tresL h l) :
    h < 256 ^ 8 ∧ l < 256 ^ 8 ∧ ∃ m, s.xferStage t [] tresH tresL = (({ s with free := m } : State).stageTile t h l).xferNoted (s.tile t) t := by
  rw [State.xferStage_nil]
  obtain ⟨rfl, rfl, rfl, rfl⟩ | ⟨k, a, b, rfl, rfl, hs, hu, rfl, rfl⟩ := hv
  · exact ⟨s.cal_lt _ 8, s.cal_lt _ 8, s.free, rfl⟩
  · rw [State.tresCounted_one hs hu, State.tresCounted_one hs hu, State.tresMean_one, State.tresMean_one]
    exact ⟨a.isLt, b.isLt, s.free + 2, rfl⟩

theorem transferStep_stages (hx : s.isSet (x * 0x10) CAL_TILE_ROT.XFER = true) (hm : s.mode ≠ stSAFE) (hn : (s.tile x).xferStep = 4)
    (hv : tresH = [] ∧ tresL = [] ∧ h = s.cal (tileRec x + 16) 8 ∧ l = s.cal (tileRec x + 24) 8 ∨ s.tresOne x tresH tresL h l) :
    Completes (.transferStep x [] tresH tresL) s fun t => (t.tile x).xferStep = 5 ∧ (t.tile x).xferAt = some (s.tile x).xferStart ∧
      t.getF (x * 0x10) CAL_TILE_TX.TEMP = (s.tile x).xferTemp % 2 ^ 16 ∧ t.isSet 0 CAL_STATUS.XFER_STAGED = true ∧ t.stagedXfer.testBit x = true ∧
      x.val ∈ t.stagedTiles ∧ t.sramN (calStage + tileRec x + 16) 8 = h ∧ t.sramN (calStage + tileRec x + 24) 8 = l ∧ Frame (xferTouch x) s t := by
  obtain ⟨hh, hl, m, hstage⟩ := State.xferStage_values hv
  have he := exec_transferStep_stages (rows := []) (tresH := tresH) (tresL := tresL) hx hm hn
  rw [hstage, hn] at he
  obtain ⟨h1, h2, h3, h4, h5, h6, h7, h8⟩ := State.xferStaged_shows (x := x) { s with free := m } (s.tile x) rfl hh hl
  have hdrawn : Exact (xferTouch x) s { s with free := m } := (Exact.refl _ s).set_free m fun _ _ => rfl
  exact completes_done he ⟨h1, h2, h3, h4, h5, h6, h7, h8, (((hdrawn.stageTile h l).xferNoted (s.tile x)).modTile x _ fun _ _ => rfl).settled⟩

/-- What the end of a transfer of tile t may change. -/
def xferEndTouch (t : Nat) : Touch where
  regs a := a = t * 0x10 + CAL_TILE_ROT.XFER.off
  parts x := { x with tiles := [], commitPend := false }

theorem Exact.set_commitPend (h : Exact w s z) (b : Bool) (hp : ∀ x b, w.parts { x with commitPend := b } = w.parts x) :
    Exact w s { z with commitPend := b } := h.congr (hp z.parts b) rfl rfl rfl rfl rfl rfl rfl rfl

theorem Exact.xferOver (s : State) (t : Nat) : Exact (xferEndTouch t) s (s.xferOver t) := by
  have h1 : Exact (xferEndTouch t) s (s.setFs (t * 0x10) [(CAL_TILE_ROT.XFER, 0), (CAL_TILE_ROT.DUE, 0)]) := (Exact.refl _ s).setFs fun e he => by fin_cases he <;> rfl
  exact h1.modTile t _ fun _ _ => rfl

theorem State.xferOver_module (s : State) (t : Nat) {f : Fld} (hf : f.off < 0x400100) : (s.xferOver t).isSet 0 f = s.isSet 0 f :=
  (Exact.xferOver s t).isSet fun e => calTile_ne t (g := CAL_TILE_ROT.XFER) hf (by decide) e

theorem State.isSet_commitPend (s : State) (p : Bool) (b : Nat) (f : Fld) : ({ s with commitPend := p } : State).isSet b f = s.isSet b f := rfl

theorem State.tile_commitPend (s : State) (p : Bool) (t : Nat) : ({ s with commitPend := p } : State).tile t = s.tile t := rfl

theorem State.xferOver_commitPend (s : State) (t : Nat) : (s.xferOver t).commitPend = s.commitPend := by
  unfold State.xferOver
  rw [State.modTile_commitPend, State.setFs_eq State.commitPend fun _ _ => rfl]

theorem State.xferOver_marks (s : State) (t : Nat) :
    (s.xferOver t).isSet (t * 0x10) CAL_TILE_ROT.XFER = false ∧ (s.xferOver t).isSet (t * 0x10) CAL_TILE_ROT.DUE = false := by
  unfold State.xferOver
  rw [State.isSet_modTile, State.isSet_modTile, State.setFs_cons, State.setFs_cons, State.setFs_nil]
  exact ⟨(State.isSet_setF_disj _ _ CAL_TILE_ROT.DUE CAL_TILE_ROT.XFER 0 rfl (by decide)).trans (State.isSet_setF_self _ _ CAL_TILE_ROT.XFER 0 (by decide)),
    State.isSet_setF_self _ _ CAL_TILE_ROT.DUE 0 (by decide)⟩

theorem State.setFs_tile (s : State) (b : Nat) (l : List (Fld × Nat)) (t : Nat) : (s.setFs b l).tile t = s.tile t := State.setFs_eq (fun z => z.tile t) (fun _ _ => rfl) ..

theorem State.xferOver_tile (s : State) (t : Nat) : (s.xferOver t).tile t = { s.tile t with xferStep := 0, xferEnd := some s.uptime } := by
  unfold State.xferOver
  rw [State.tile_modTile_self, State.setFs_tile]

theorem State.commitPend_same {p : Bool} (h : z.commitPend = p) : ({ z with commitPend := p } : State) = z := by
  subst h
  rfl

/-- A transfer is over: the marks, the tile, the commit asked for as p says. -/
theorem State.xferOver_shows (s : State) (p : Bool) : let t := ({ s.xferOver x with commitPend := p } : State).settled
    t.isSet (x * 0x10) CAL_TILE_ROT.XFER = false ∧ t.isSet (x * 0x10) CAL_TILE_ROT.DUE = false ∧ (t.tile x).xferStep = 0 ∧ (t.tile x).xferEnd = some s.uptime ∧
      t.commitPend = p ∧ Frame (xferEndTouch x) s t := by
  obtain ⟨hxfer, hdue⟩ := s.xferOver_marks x
  have htile := s.xferOver_tile x
  have hexact : Exact (xferEndTouch x) s { s.xferOver x with commitPend := p } := (Exact.xferOver s x).set_commitPend p fun _ _ => rfl
  intro t
  refine ⟨?_, ?_, ?_, ?_, State.settled_commitPend _, hexact.settled⟩
  · rw [State.settled_isSet _ (calTile_follows (f := CAL_TILE_ROT.XFER) x.isLt (by decide)), State.isSet_commitPend]
    exact hxfer
  · rw [State.settled_isSet _ (calTile_follows (f := CAL_TILE_ROT.DUE) x.isLt (by decide)), State.isSet_commitPend]
    exact hdue
  all_goals rw [State.settled_tile, State.tile_commitPend, htile]

theorem transferStep_ends (hx : s.isSet (x * 0x10) CAL_TILE_ROT.XFER = true) (hm : s.mode ≠ stSAFE) (hn : 5 ≤ (s.tile x).xferStep) :
    Completes (.transferStep x rows tresH tresL) s fun t => t.isSet (x * 0x10) CAL_TILE_ROT.XFER = false ∧ t.isSet (x * 0x10) CAL_TILE_ROT.DUE = false ∧
      (t.tile x).xferStep = 0 ∧ (t.tile x).xferEnd = some s.uptime ∧
      t.commitPend = (s.commitPend || (s.isSet 0 CAL_CTRL.AUTO_COMMIT && !s.isSet 0 CAL_STATUS.ANCHOR_STAGED)) ∧ Frame (xferEndTouch x) s t := by
  have he := exec_transferStep_ends (rows := rows) (tresH := tresH) (tresL := tresL) hx hm hn
  rw [State.xferOver_module s x (f := CAL_CTRL.AUTO_COMMIT) (by decide), State.xferOver_module s x (f := CAL_STATUS.ANCHOR_STAGED) (by decide)] at he
  have hsame : ({ s.xferOver x with commitPend := s.commitPend } : State) = s.xferOver x := State.commitPend_same (s.xferOver_commitPend x)
  by_cases hauto : s.isSet 0 CAL_CTRL.AUTO_COMMIT = true ∧ ¬ s.isSet 0 CAL_STATUS.ANCHOR_STAGED = true
  · obtain ⟨h1, h2⟩ := hauto
    rw [if_pos ⟨h1, h2⟩] at he
    rw [h1, Bool.eq_false_iff.2 h2, Bool.not_false, Bool.and_true, Bool.or_true]
    exact completes_done he (s.xferOver_shows true)
  · have hnot : (s.isSet 0 CAL_CTRL.AUTO_COMMIT && !s.isSet 0 CAL_STATUS.ANCHOR_STAGED) = false := by
      rw [Bool.eq_false_iff]
      simpa using hauto
    rw [if_neg hauto, ← hsame] at he
    rw [hnot, Bool.or_false]
    exact completes_done he (s.xferOver_shows s.commitPend)

end Sys2Proof.Machine
end

section
/-! PROOFS. The archive's timer and writes (R222, R224). -/

namespace Sys2Proof.Machine

open Sys2Proof (Instr)

variable {w : Touch} {s z : State} {r : CmdRef} {k : Cmd} {n m o v : Nat}

theorem Exact.set_archNow (h : Exact w s z) (l : List CmdRef) (hp : ∀ x l, w.parts { x with archNow := l } = w.parts x) :
    Exact w s { z with archNow := l } := h.congr (hp z.parts l) rfl rfl rfl rfl rfl rfl rfl rfl

theorem Exact.set_archNext (h : Exact w s z) (l : Option (List CmdRef)) (hp : ∀ x l, w.parts { x with archNext := l } = w.parts x) :
    Exact w s { z with archNext := l } := h.congr (hp z.parts l) rfl rfl rfl rfl rfl rfl rfl rfl

/-! ### The timer -/

theorem calArchiveTimer_row (hd : s.calDirty = true) (hb : s.isSet 0 CAL_STATUS.ARCH_BUSY = false) : Completes .calArchiveTimer s fun t =>
    t.isSet 0 CAL_STATUS.ARCH_BUSY = true ∧ t.archNow = [] ∧ Frame { regs := fun a => a = CAL_STATUS.ARCH_BUSY.off, parts := fun x => { x with archNow := [] } } s t := by
  have hx : exec .calArchiveTimer s = done (s.archStart []) := if_pos ⟨hd, by rw [hb]; exact Bool.false_ne_true⟩
  rw [State.archStart_idle [] hb] at hx
  have hexact : Exact { regs := fun a => a = CAL_STATUS.ARCH_BUSY.off, parts := fun x => { x with archNow := [] } } s (s.setF 0 CAL_STATUS.ARCH_BUSY 1) :=
    (Exact.refl _ s).setF 1 rfl
  refine completes_done hx ⟨?_, State.settled_archNow _, (hexact.set_archNow [] fun _ _ => rfl).settled⟩
  rw [State.settled_cal _ (by decide)]
  exact State.isSet_setF_self s 0 CAL_STATUS.ARCH_BUSY 1 (by decide)

theorem exec_calArchiveTimer_none (h : s.calDirty = false ∨ s.isSet 0 CAL_STATUS.ARCH_BUSY = true) : exec .calArchiveTimer s = done s :=
  if_neg fun e => h.elim (fun hd => Bool.false_ne_true (hd.symm.trans e.1)) e.2

/-! ### The commands that await a write -/

theorem exec_archiveWriteDone_none (ok : Bool) (h : s.isSet 0 CAL_STATUS.ARCH_BUSY = false) : exec (.archiveWriteDone ok) s = done s :=
  if_pos (by rw [h]; exact Bool.false_ne_true)

/-- A write that failed is marked. -/
def State.archFailed (s : State) : State := s.setF 0 CAL_STATUS.ARCH_ERR 1

theorem exec_archiveWriteDone_failed (h : s.isSet 0 CAL_STATUS.ARCH_BUSY = true) : exec (.archiveWriteDone false) s = done (s.archFailed.archEnd false).archRests :=
  if_neg (not_not_intro h)

theorem State.archEnd_one (hn : s.archNow = [r]) (hc : s.cmd? r = some k) (ok : Bool) :
    s.archEnd ok = s.endCmd r { status := scOK, partialDone := !ok, result := if k.op = opCOMMIT then s.gen else 0 } := by
  unfold State.archEnd
  rw [hn, List.foldl_cons, List.foldl_nil, hc]

/-- What the end of an archive write may change, beside what follows a command. -/
structure Touch.Archives (w : Touch) : Prop where
  status : w.regs CAL_STATUS.ARCH_BUSY.off
  archNow : ∀ x l, w.parts { x with archNow := l } = w.parts x
  archNext : ∀ x l, w.parts { x with archNext := l } = w.parts x

theorem Exact.archRests (h : Exact w.loose s z) (hw : w.Archives) : Exact w.loose s z.archRests := by
  have h1 : Exact w.loose s (z.setF 0 IRQ_LATCH.CAL 1) := h.setF 1 (.inr unframed_latch)
  have h2 := (h1.set_archNow (z.archNext.getD []) hw.archNow).set_archNext none hw.archNext
  exact h2.setF (b := 0) (f := CAL_STATUS.ARCH_BUSY) _ (.inl hw.status)

/-- What ARCHIVE_WRITE_DONE leaves of the archive's queue and of the command that awaited it, where z is the state with the write's own result. -/
theorem State.archDone_shows (hw : w.Archives) (h : Exact w.loose s z) (hz : z.cmds = s.cmds) (hnow : z.archNow = [r]) (hnext : z.archNext = s.archNext)
    (hgen : z.gen = s.gen) (hc : s.cmd? r = some k) (ok : Bool) : let t := (z.archEnd ok).archRests.settled
    (∃ x ∈ t.cmds, x.isRef r = true ∧ x.ending = some { status := scOK, partialDone := !ok, result := if k.op = opCOMMIT then s.gen else 0 }) ∧
      t.archNow = s.archNext.getD [] ∧ t.archNext = none ∧ t.isSet 0 CAL_STATUS.ARCH_BUSY = s.archNext.isSome ∧ t.calDirty = z.calDirty ∧ Frame w s t := by
  have hc' : z.cmd? r = some k := by
    unfold State.cmd? at hc ⊢
    rwa [hz]
  have hend := State.archEnd_one hnow hc' ok
  rw [hgen] at hend
  intro t
  have ht : t = _ := congrArg (fun x => x.archRests.settled) hend
  clear_value t
  subst ht
  refine ⟨⟨_, State.settled_ended (s := State.archRests _) (State.mem_modCmd_self hc' _) (Option.some_ne_none _), (State.mem_of_cmd hc').2.1, rfl⟩, ?_, ?_, ?_, ?_,
    ((h.mapCmds _ _).archRests hw).settledTight⟩
  · rw [State.settled_archNow, ← hnext]
    rfl
  · rw [State.settled_archNext]
    rfl
  · rw [State.settled_cal _ (by decide), ← hnext]
    exact State.isSet_setF_mark _ 0 z.archNext.isSome (by decide)
  · rw [State.settled_calDirty]
    rfl

/-! ### The record in the flash (R224) -/

/-- What an archive write that succeeds may change. -/
def archivedTouch : Touch where
  regs a := a = CAL_STATUS.ARCH_BUSY.off ∨ a = CAL_ARCH_CNT.COUNT.off
  sram a := calBase ≤ a ∧ a < calBase + recEnd
  flash _ := True
  parts x := { x with archNow := [], archNext := none, calDirty := false }

/-- What one that fails may change. -/
def archFailTouch : Touch where
  regs a := a = CAL_STATUS.ARCH_ERR.off
  parts x := { x with archNow := [], archNext := none }

theorem Exact.sealPut (h : Exact archivedTouch.loose s z) (v : Nat) (ho : o + n ≤ recEnd) : Exact archivedTouch.loose s (z.calPut o n v) :=
  h.calPut o n v fun a hl hu => ⟨by omega, by omega⟩

theorem Exact.sealRecord (h : Exact archivedTouch.loose s z) (m : Nat) : Exact archivedTouch.loose s (z.sealRecord m) := by
  unfold State.sealRecord
  extract_lets s1 s2 s3
  have h1 : Exact archivedTouch.loose s s1 :=
    ((((h.sealPut _ (by decide)).sealPut _ (by decide)).sealPut _ (by decide)).sealPut _ (by decide)).sealPut _ (by decide)
  have h2 : Exact archivedTouch.loose s s2 := h1.sealPut _ (by decide)
  have h3 : Exact archivedTouch.loose s s3 := h2.sealPut _ (by decide)
  exact h3.sealPut _ (by decide)

/-- The committed buffer stands in the slot at a of the flash. -/
def State.slotPut (s : State) (a : Nat) : State := (s.flashErase a 0x100000).flashPut a (memRead sramReset s.sram calBase recEnd)

/-- The place of slot n. -/
def slotAt (n : Nat) : Nat := 0xC00000 + 0x100000 * n

/-- The slot after the newest record's. -/
def nextSlot : Option (Nat × Nat) → Nat
  | some (k, _) => (k + 1) % 4
  | none => 0

theorem nextSlot_lt (e : Option (Nat × Nat)) : nextSlot e < 4 := by
  cases e with
  | none => exact Nat.succ_pos 3
  | some e => exact Nat.mod_lt _ (Nat.succ_pos 3)

theorem State.archived_slot (s : State) (m : Nat) : s.archived m = (s.sealRecord m).slotPut (slotAt (nextSlot (s.sealRecord m).newestSlot)) := by
  unfold State.archived
  extract_lets z a
  have ha : a = slotAt (nextSlot z.newestSlot) := by
    unfold slotAt nextSlot
    rfl
  clear_value a
  subst ha
  rfl

theorem Exact.slotPut (h : Exact archivedTouch.loose s z) (a : Nat) : Exact archivedTouch.loose s (z.slotPut a) := by
  have h1 : Exact archivedTouch.loose s (z.flashErase a 0x100000) := h.flashErase fun _ _ _ => trivial
  exact h1.flashPut fun _ _ _ => trivial

theorem State.flashPut_sramByte (s : State) (a b : Nat) (bs : List Byte) : (s.flashPut a bs).sramByte b = s.sramByte b := rfl

theorem State.flashErase_sramByte (s : State) (a n b : Nat) : (s.flashErase a n).sramByte b = s.sramByte b := rfl

theorem State.slotPut_sramByte (s : State) (a b : Nat) : (s.slotPut a).sramByte b = s.sramByte b := by
  unfold State.slotPut
  rw [State.flashPut_sramByte, State.flashErase_sramByte]

/-- What is copied from the SRAM to the flash reads the same there. -/
theorem State.flashPut_copy (s : State) (m : List Host.Cell) (a b : Nat) {i n : Nat} (hi : i < n) :
    (s.flashPut a (memRead sramReset m b n)).flashByte (a + i) = tabGet sramReset m (b + i) := by
  refine (tabGet_memWrite_in s.flash a _ (by rwa [memRead_length])).trans ?_
  simp [memRead]

theorem State.slotPut_record (s : State) (a : Nat) {i : Nat} (hi : i < recEnd) : (s.slotPut a).flashByte (a + i) = s.sramByte (calBase + i) := by
  unfold State.slotPut
  exact State.flashPut_copy _ s.sram a calBase hi

/-- What one slot covers. -/
def slotTouch (a : Nat) : Touch where
  flash b := a ≤ b ∧ b < a + 0x100000

theorem State.slotPut_apart (s : State) {a b : Nat} (h : b < a ∨ a + 0x100000 ≤ b) : (s.slotPut a).flashByte b = s.flashByte b := by
  have h1 : Exact (slotTouch a) s (s.flashErase a 0x100000) := (Exact.refl _ s).flashErase fun k hl hu => ⟨hl, hu⟩
  have h2 : Exact (slotTouch a) s (s.slotPut a) := h1.flashPut fun k hl hu => ⟨hl, by
    rw [memRead_length] at hu
    exact Nat.lt_of_lt_of_le hu (Nat.add_le_add_left (by decide) _)⟩
  exact h2.flash b fun hc => h.elim (fun g => Nat.lt_irrefl _ (Nat.lt_of_lt_of_le g hc.1)) fun g => Nat.lt_irrefl _ (Nat.lt_of_lt_of_le hc.2 g)

/-! ### What the end of a write leaves -/

/-- Ending commands changes the commands only. -/
theorem State.archEnd_eq {α : Type} (g : State → α) (hg : ∀ x l, g { x with cmds := l } = g x) (s : State) (ok : Bool) : g (s.archEnd ok) = g s := by
  unfold State.archEnd
  refine foldl_keeps (R := fun z => g z = g s) _ rfl fun z r h => ?_
  split
  · exact (hg _ _).trans h
  · exact h

theorem State.archEnd_getF (s : State) (ok : Bool) (b : Nat) (f : Fld) : (s.archEnd ok).getF b f = s.getF b f :=
  State.archEnd_eq (fun z => z.getF b f) (fun _ _ => rfl) s ok

theorem State.archEnd_isSet (s : State) (ok : Bool) (b : Nat) (f : Fld) : (s.archEnd ok).isSet b f = s.isSet b f := State.isSet_of_getF (s.archEnd_getF ok b f)

theorem State.archRests_err (s : State) : s.archRests.isSet 0 CAL_STATUS.ARCH_ERR = s.isSet 0 CAL_STATUS.ARCH_ERR :=
  (State.isSet_setF_disj _ 0 CAL_STATUS.ARCH_BUSY CAL_STATUS.ARCH_ERR _ rfl (by decide)).trans (s.isSet_setF_off 0 (f := IRQ_LATCH.CAL) (by decide) 1)

theorem State.archRests_count (s : State) : s.archRests.getF 0 CAL_ARCH_CNT.COUNT = s.getF 0 CAL_ARCH_CNT.COUNT :=
  (State.getF_setF_off _ 0 (f := CAL_STATUS.ARCH_BUSY) (by decide) _).trans (s.getF_setF_off 0 (f := IRQ_LATCH.CAL) (by decide) 1)

theorem State.archRests_flashByte (s : State) (a : Nat) : s.archRests.flashByte a = s.flashByte a := rfl

theorem State.archRests_sramByte (s : State) (a : Nat) : s.archRests.sramByte a = s.sramByte a := rfl

theorem State.flashByte_settled (s : State) (a : Nat) : s.settled.flashByte a = s.flashByte a := by
  unfold State.flashByte
  rw [State.settled_flash]

/-! ### The rows -/

theorem archiveWriteDone_fails (hb : s.isSet 0 CAL_STATUS.ARCH_BUSY = true) (hn : s.archNow = [r]) (hc : s.cmd? r = some k) :
    Completes (.archiveWriteDone false) s fun t =>
      (∃ x ∈ t.cmds, x.isRef r = true ∧ x.ending = some { status := scOK, partialDone := true, result := if k.op = opCOMMIT then s.gen else 0 }) ∧
      t.archNow = s.archNext.getD [] ∧ t.archNext = none ∧ t.isSet 0 CAL_STATUS.ARCH_BUSY = s.archNext.isSome ∧
      t.isSet 0 CAL_STATUS.ARCH_ERR = true ∧ t.calDirty = s.calDirty ∧ Frame archFailTouch s t := by
  have hexact : Exact archFailTouch.loose s s.archFailed := (Exact.refl _ s).setF (b := 0) (f := CAL_STATUS.ARCH_ERR) 1 (.inl rfl)
  have hgen : s.archFailed.gen = s.gen := State.getF_setF_off s 0 (f := CAL_STATUS.ARCH_ERR) (g := CAL_GEN.GEN) (by decide) 1
  have herr : s.archFailed.isSet 0 CAL_STATUS.ARCH_ERR = true := State.isSet_setF_self s 0 CAL_STATUS.ARCH_ERR 1 (by decide)
  obtain ⟨hend, hnow, hnext, hbusy, hdirty, hframe⟩ := State.archDone_shows ⟨rfl, fun _ _ => rfl, fun _ _ => rfl⟩ hexact rfl hn rfl hgen hc false
  refine completes_done (exec_archiveWriteDone_failed hb) ⟨hend, hnow, hnext, hbusy, ?_, hdirty, hframe⟩
  rw [State.settled_cal _ (by decide), State.archRests_err, State.archEnd_isSet]
  exact herr

theorem State.archived_exact (s : State) (m : Nat) : Exact archivedTouch.loose s ((s.archived m).archCount m) := by
  rw [State.archived_slot]
  have h1 := ((Exact.refl archivedTouch.loose s).sealRecord m).slotPut (slotAt (nextSlot (s.sealRecord m).newestSlot))
  exact (h1.setF (b := 0) (f := CAL_ARCH_CNT.COUNT) m (.inl (.inr rfl))).set_calDirty false fun _ _ => rfl

theorem State.archCount_gen (s : State) (m : Nat) : (s.archCount m).gen = s.gen :=
  s.getF_setF_off 0 (f := CAL_ARCH_CNT.COUNT) (g := CAL_GEN.GEN) (by decide) m

theorem State.archCount_count (s : State) (m : Nat) : (s.archCount m).getF 0 CAL_ARCH_CNT.COUNT = m % 2 ^ 32 :=
  s.getF_setF_self 0 CAL_ARCH_CNT.COUNT m (by decide)

theorem State.archCount_flashByte (s : State) (m a : Nat) : (s.archCount m).flashByte a = s.flashByte a := rfl

theorem State.archCount_sramByte (s : State) (m a : Nat) : (s.archCount m).sramByte a = s.sramByte a := rfl

/-- A write changes the committed buffer's header, the flash, the count and the mark only. -/
theorem State.archCounted_eq {α : Type} (g : State → α) (h1 : ∀ x l, g { x with sram := l } = g x) (h2 : ∀ x l, g { x with flash := l } = g x)
    (h3 : ∀ x l, g { x with regs := l } = g x) (h4 : ∀ x b, g { x with calDirty := b } = g x) (s : State) (m : Nat) : g ((s.archived m).archCount m) = g s :=
  (h4 _ _).trans ((h3 _ _).trans (State.archived_eq g h1 h2 s m))

/-- After a write the archive's slot has the committed buffer as it stands now, and the other slots their records. -/
theorem State.archived_flash (s : State) (m : Nat) : ∃ n < 4,
    (∀ i < recEnd, (s.archived m).flashByte (0xC00000 + 0x100000 * n + i) = (s.archived m).sramByte (calBase + i)) ∧
    ∀ a, (a < 0xC00000 + 0x100000 * n ∨ 0xD00000 + 0x100000 * n ≤ a) → (s.archived m).flashByte a = s.flashByte a := by
  refine ⟨nextSlot (s.sealRecord m).newestSlot, nextSlot_lt _, fun i hi => ?_, fun a ha => ?_⟩
  · rw [State.archived_slot, State.slotPut_sramByte]
    exact State.slotPut_record _ _ hi
  · rw [State.archived_slot]
    refine (State.slotPut_apart _ (ha.imp_right fun g => ?_)).trans (State.sealRecord_eq (fun z => z.flashByte a) (fun _ _ => rfl) s m)
    omega

theorem archiveWriteDone_writes (hb : s.isSet 0 CAL_STATUS.ARCH_BUSY = true) (hn : s.archNow = [r]) (hc : s.cmd? r = some k) :
    Completes (.archiveWriteDone true) s fun t =>
      (∃ x ∈ t.cmds, x.isRef r = true ∧ x.ending = some { status := scOK, partialDone := false, result := if k.op = opCOMMIT then s.gen else 0 }) ∧
      t.archNow = s.archNext.getD [] ∧ t.archNext = none ∧ t.isSet 0 CAL_STATUS.ARCH_BUSY = s.archNext.isSome ∧
      t.calDirty = false ∧ t.getF 0 CAL_ARCH_CNT.COUNT = (s.getF 0 CAL_ARCH_CNT.COUNT + 1) % 2 ^ 32 ∧
      (∃ n < 4, (∀ i < recEnd, t.flashByte (0xC00000 + 0x100000 * n + i) = t.sramByte (calBase + i)) ∧
        ∀ a, (a < 0xC00000 + 0x100000 * n ∨ 0xD00000 + 0x100000 * n ≤ a) → t.flashByte a = s.flashByte a) ∧ Frame archivedTouch s t := by
  refine completes_done (archiveWriteDone_eq hb) ?_
  generalize s.getF 0 CAL_ARCH_CNT.COUNT + 1 = m
  have hgen : ((s.archived m).archCount m).gen = s.gen :=
    (State.archCount_gen _ m).trans (State.archived_eq State.gen (fun _ _ => rfl) (fun _ _ => rfl) s m)
  obtain ⟨hend, hnow, hnext, hbusy, hdirty, hframe⟩ := State.archDone_shows (w := archivedTouch) ⟨.inl rfl, fun _ _ => rfl, fun _ _ => rfl⟩ (s.archived_exact m)
    (State.archCounted_eq State.cmds (fun _ _ => rfl) (fun _ _ => rfl) (fun _ _ => rfl) (fun _ _ => rfl) s m)
    ((State.archCounted_eq State.archNow (fun _ _ => rfl) (fun _ _ => rfl) (fun _ _ => rfl) (fun _ _ => rfl) s m).trans hn)
    (State.archCounted_eq State.archNext (fun _ _ => rfl) (fun _ _ => rfl) (fun _ _ => rfl) (fun _ _ => rfl) s m) hgen hc true
  obtain ⟨n, hn4, hrec, hapart⟩ := s.archived_flash m
  refine ⟨hend, hnow, hnext, hbusy, hdirty, ?_, ⟨n, hn4, fun i hi => ?_, fun a ha => ?_⟩, hframe⟩
  · rw [State.settled_getF _ (by decide), State.archRests_count, State.archEnd_getF, State.archCount_count]
  · rw [State.flashByte_settled, State.sramByte_settled, State.archRests_flashByte, State.archRests_sramByte, State.archEnd_eq (fun z => z.flashByte _) fun _ _ => rfl,
      State.archEnd_eq (fun z => z.sramByte _) fun _ _ => rfl, State.archCount_flashByte, State.archCount_sramByte, hrec i hi]
  · rw [State.flashByte_settled, State.archRests_flashByte, State.archEnd_eq (fun z => z.flashByte _) fun _ _ => rfl, State.archCount_flashByte, hapart a ha]

end Sys2Proof.Machine
end

section
/-! PROOFS. The commit edge (R214, R222). Settles O43. -/

namespace Sys2Proof.Machine

open Sys2Proof (Instr)

variable {w : Touch} {s z : State} {r : CmdRef} {k : Cmd} {n m o v p u g : Nat}

/-! ### Staged rows come into the committed buffer -/

theorem Exact.calTake (h : Exact w s z) (o n : Nat) (hw : ∀ a, calBase + o ≤ a → a < calBase + o + n → w.sram a) : Exact w s (z.calTake o n) :=
  h.sramPut (a := calBase + o) (bs := memRead sramReset z.sram (calStage + o) n) fun a hl hu => hw a hl (by rwa [memRead_length] at hu)

theorem State.calTake_in (s : State) {o n i : Nat} (hi : i < n) : (s.calTake o n).sramByte (calBase + o + i) = s.sramByte (calStage + o + i) := by
  refine (tabGet_memWrite_in s.sram (calBase + o) _ (by rwa [memRead_length])).trans ?_
  simp only [memRead, List.getElem_map, List.getElem_range]
  rfl

theorem State.calTake_out (s : State) {o n a : Nat} (ha : a < calBase + o ∨ calBase + o + n ≤ a) : (s.calTake o n).sramByte a = s.sramByte a :=
  tabGet_memWrite_out s.sram (calBase + o) _ (by rwa [memRead_length])

/-- The byte of the staging buffer at p is v. -/
def State.Stages (s : State) (p : Nat) (v : Byte) : Prop := s.sramByte (calStage + p) = v

/-- It stands committed too. -/
def State.Takes (s : State) (p : Nat) (v : Byte) : Prop := s.Stages p v ∧ s.sramByte (calBase + p) = v

theorem stage_after {o n p : Nat} (ho : o + n ≤ 0x100000) : calBase + o + n ≤ calStage + p := by
  unfold calStage
  omega

theorem State.Stages.calTake {v : Byte} (h : s.Stages p v) (ho : o + n ≤ 0x100000) : (s.calTake o n).Stages p v :=
  (s.calTake_out (.inr (stage_after ho))).trans h

/-- A byte within what is taken stands committed. -/
theorem State.Stages.taken {v : Byte} (h : s.Stages p v) (ho : o + n ≤ 0x100000) (hl : o ≤ p) (hu : p < o + n) : (s.calTake o n).Takes p v := by
  refine ⟨h.calTake ho, ?_⟩
  obtain ⟨i, rfl⟩ := Nat.exists_eq_add_of_le hl
  rw [← Nat.add_assoc, s.calTake_in (by omega)]
  unfold State.Stages at h
  rwa [← Nat.add_assoc] at h

theorem State.Takes.calTake {v : Byte} (h : s.Takes p v) (ho : o + n ≤ 0x100000) : (s.calTake o n).Takes p v := by
  by_cases hp : o ≤ p ∧ p < o + n
  · exact h.1.taken ho hp.1 hp.2
  · exact ⟨h.1.calTake ho, (s.calTake_out (by omega)).trans h.2⟩

theorem Exact.set_rotAt (h : Exact w s z) (l : List (Nat × Option Nat)) (hp : ∀ x l, w.parts { x with rotAt := l } = w.parts x) :
    Exact w s { z with rotAt := l } := h.congr (hp z.parts l) rfl rfl rfl rfl rfl rfl rfl rfl

/-! Units -/

/-- A unit's record lies in the buffer. -/
theorem feRec_le (hu : u < 1056) {i n : Nat} (hi : i + n ≤ 768) : feRec u + i + n ≤ 0x100000 := by
  unfold feRec
  omega

theorem State.Stages.takeUnit {b : Byte} (h : s.Stages p b) {e : Nat × Option Nat} (he : e.1 < 1056) : (s.takeUnit e).Stages p b := by
  refine ite_keeps (R := fun z => z.Stages p b) (fun _ => ?_) fun _ => h.calTake (feRec_le he (i := 0) (by decide))
  exact (h.calTake (feRec_le he (i := 0) (by decide))).calTake (feRec_le he (by decide))

theorem State.Takes.takeUnit {b : Byte} (h : s.Takes p b) {e : Nat × Option Nat} (he : e.1 < 1056) : (s.takeUnit e).Takes p b := by
  refine ite_keeps (R := fun z => z.Takes p b) (fun _ => ?_) fun _ => h.calTake (feRec_le he (i := 0) (by decide))
  exact (h.calTake (feRec_le he (i := 0) (by decide))).calTake (feRec_le he (by decide))

/-- What of a unit's record a commit takes. -/
def unitTaken (e : Nat × Option Nat) (i : Nat) : Prop := i < 440 ∨ e.2.isSome = true ∧ (i < 704 ∨ recForce ≤ i ∧ i < recForce + 8)

theorem State.Stages.unit {b : Byte} {e : Nat × Option Nat} {i : Nat} (h : s.Stages (feRec e.1 + i) b) (he : e.1 < 1056) (hi : unitTaken e i) :
    (s.takeUnit e).Takes (feRec e.1 + i) b := by
  unfold State.takeUnit
  by_cases hf : e.2.isSome = true
  · rw [if_pos hf]
    by_cases hlow : i < 704
    · exact (h.taken (feRec_le he (i := 0) (by decide)) (by omega) (by omega)).calTake (feRec_le he (by decide))
    · obtain ⟨hl, hu⟩ : recForce ≤ i ∧ i < recForce + 8 := by
        obtain hi | ⟨-, hi⟩ := hi
        · omega
        · exact hi.resolve_left hlow
      exact (h.calTake (feRec_le he (i := 0) (by decide))).taken (feRec_le he (by decide)) (by omega) (by omega)
  · rw [if_neg hf]
    have hlow : i < 440 := hi.resolve_right fun e => hf e.1
    exact h.taken (feRec_le he (i := 0) (by decide)) (by omega) (by omega)

/-- In a fold, a step that turns P into Q, where every step keeps both, leaves Q. -/
theorem foldl_reaches_mem {α : Type} {f : State → α → State} {P Q : State → Prop} {l : List α} {x : α} (hm : x ∈ l) (hP : ∀ y k, k ∈ l → P y → P (f y k))
    (hx : ∀ y, P y → Q (f y x)) (hQ : ∀ y k, k ∈ l → Q y → Q (f y k)) (h : P s) : Q (l.foldl f s) := by
  obtain ⟨pre, post, rfl⟩ := List.append_of_mem hm
  rw [List.foldl_append, List.foldl_cons]
  exact foldl_keeps_mem post (hx _ (foldl_keeps_mem pre h fun y k hk => hP y k (List.mem_append_left _ hk))) fun y k hk =>
    hQ y k (List.mem_append_right _ (List.mem_cons_of_mem _ hk))

/-! Tiles -/

theorem tileRec_le (hx : n < 8) {i m : Nat} (hi : i + m ≤ 64) : tileRec n + i + m ≤ 0x100000 := by
  unfold tileRec
  omega

theorem State.Stages.takeTile {b : Byte} (h : s.Stages p b) (hx : n < 8) (m : Nat) : (s.takeTile m n).Stages p b := by
  have h1 := h.calTake (tileRec_le hx (i := 16) (m := 16) (by decide))
  exact ite_keeps (R := fun z => z.Stages p b) (fun _ => (h1.calTake (tileRec_le hx (i := 0) (by decide))).calTake (tileRec_le hx (by decide))) fun _ => h1

theorem State.Takes.takeTile {b : Byte} (h : s.Takes p b) (hx : n < 8) (m : Nat) : (s.takeTile m n).Takes p b := by
  have h1 := h.calTake (tileRec_le hx (i := 16) (m := 16) (by decide))
  exact ite_keeps (R := fun z => z.Takes p b) (fun _ => (h1.calTake (tileRec_le hx (i := 0) (by decide))).calTake (tileRec_le hx (by decide))) fun _ => h1

/-- What of a tile's record a commit takes. -/
def tileTaken (m n i : Nat) : Prop := 16 ≤ i ∧ i < 32 ∨ m.testBit n = true ∧ (i < 2 ∨ 8 ≤ i ∧ i < 16)

theorem State.Stages.tile {b : Byte} {i : Nat} (h : s.Stages (tileRec n + i) b) (hx : n < 8) (hi : tileTaken m n i) : (s.takeTile m n).Takes (tileRec n + i) b := by
  have hle : ∀ {i j}, i + j ≤ 64 → tileRec n + i + j ≤ 0x100000 := tileRec_le hx
  unfold State.takeTile
  obtain ⟨hl, hu⟩ | ⟨hm, hi⟩ := hi
  · have h1 := h.taken (hle (i := 16) (j := 16) (by decide)) (by omega) (by omega)
    exact ite_keeps (R := fun z => z.Takes _ b) (fun _ => (h1.calTake (hle (i := 0) (by decide))).calTake (hle (by decide))) fun _ => h1
  · have h1 := h.calTake (hle (i := 16) (j := 16) (by decide))
    dsimp only
    rw [if_pos hm]
    obtain hi | ⟨hl, hu⟩ := hi
    · exact (h1.taken (hle (i := 0) (by decide)) (by omega) (by omega)).calTake (hle (by decide))
    · exact (h1.calTake (hle (i := 0) (by decide))).taken (hle (i := 8) (by decide)) (by omega) (by omega)

/-! All staged rows -/

theorem State.calTake_eq {α : Type} (f : State → α) (hm : ∀ x l, f { x with sram := l } = f x) (s : State) (o n : Nat) : f (s.calTake o n) = f s := hm s _

theorem State.takeUnit_eq {α : Type} (f : State → α) (hm : ∀ x l, f { x with sram := l } = f x) (s : State) (e : Nat × Option Nat) : f (s.takeUnit e) = f s :=
  ite_keeps (R := fun z => f z = f s) (fun _ => (State.calTake_eq f hm ..).trans (State.calTake_eq f hm ..)) fun _ => State.calTake_eq f hm ..

theorem State.takeTile_eq {α : Type} (f : State → α) (hm : ∀ x l, f { x with sram := l } = f x) (s : State) (m n : Nat) : f (s.takeTile m n) = f s :=
  ite_keeps (R := fun z => f z = f s) (fun _ => (State.calTake_eq f hm ..).trans ((State.calTake_eq f hm ..).trans (State.calTake_eq f hm ..))) fun _ => State.calTake_eq f hm ..

/-- The units' staged rows in the committed buffer. -/
def State.unitsTaken (s : State) : State := s.stagedUnits.foldl State.takeUnit s

theorem State.unitsTaken_eq {α : Type} (f : State → α) (hm : ∀ x l, f { x with sram := l } = f x) (s : State) : f s.unitsTaken = f s :=
  foldl_keeps (R := fun z => f z = f s) _ rfl fun z e h => (z.takeUnit_eq f hm e).trans h

theorem State.tilesTaken_eq {α : Type} (f : State → α) (hm : ∀ x l, f { x with sram := l } = f x) (s : State) (m : Nat) : f (s.tilesTaken m) = f s :=
  foldl_keeps (R := fun z => f z = f s) _ rfl fun z n h => (z.takeTile_eq f hm m n).trans h

/-- The rows change the SRAM and the times of calibration only. -/
theorem State.rowsTaken_eq {α : Type} (f : State → α) (hm : ∀ x l, f { x with sram := l } = f x) (hr : ∀ x l, f { x with rotAt := l } = f x) (s : State) :
    f s.rowsTaken = f s :=
  (hr _ _).trans ((State.tilesTaken_eq f hm s.unitsTaken _).trans (s.unitsTaken_eq f hm))

theorem State.rowsTaken_sramByte (s : State) (a : Nat) : s.rowsTaken.sramByte a = (s.unitsTaken.tilesTaken s.stagedXfer).sramByte a := rfl

/-- What the staged rows may change. -/
def rowsTouch : Touch where
  sram a := calBase ≤ a ∧ a < calStage
  parts x := { x with rotAt := [] }

theorem Exact.takeIn (h : Exact rowsTouch s z) {o n : Nat} (ho : o + n ≤ 0x100000) : Exact rowsTouch s (z.calTake o n) :=
  h.calTake o n fun _ hl hu => ⟨Nat.le_of_add_right_le hl, Nat.lt_of_lt_of_le hu (Nat.add_assoc .. ▸ Nat.add_le_add_left ho calBase)⟩

section
variable (hu : ∀ e ∈ s.stagedUnits, e.1 < 1056) (ht : ∀ x ∈ s.stagedTiles, x < 8)
include hu ht

omit hu in
theorem State.unitsTaken_tiles : ∀ x ∈ s.unitsTaken.stagedTiles, x < 8 := by
  rw [State.unitsTaken_eq State.stagedTiles fun _ _ => rfl]
  exact ht

theorem State.rowsTaken_unit {e : Nat × Option Nat} (he : e ∈ s.stagedUnits) {i : Nat} (hi : unitTaken e i) :
    s.rowsTaken.sramByte (calBase + feRec e.1 + i) = s.sramByte (calStage + feRec e.1 + i) := by
  have h1 : s.unitsTaken.Takes (feRec e.1 + i) (s.sramByte (calStage + (feRec e.1 + i))) :=
    foldl_reaches_mem (P := fun z => z.Stages (feRec e.1 + i) _) (Q := fun z => z.Takes (feRec e.1 + i) _) he (fun _ x hx h => h.takeUnit (hu x hx))
      (fun _ h => h.unit (hu e he) hi) (fun _ x hx h => h.takeUnit (hu x hx)) rfl
  have h2 : (s.unitsTaken.tilesTaken s.stagedXfer).Takes (feRec e.1 + i) (s.sramByte (calStage + (feRec e.1 + i))) :=
    foldl_keeps_mem (R := fun z => z.Takes (feRec e.1 + i) _) _ h1 fun _ x hx h => h.takeTile (State.unitsTaken_tiles ht x hx) _
  rw [State.rowsTaken_sramByte, Nat.add_assoc, Nat.add_assoc]
  exact h2.2

theorem State.rowsTaken_tile {x : Nat} (hx : x ∈ s.stagedTiles) {i : Nat} (hi : tileTaken s.stagedXfer x i) :
    s.rowsTaken.sramByte (calBase + tileRec x + i) = s.sramByte (calStage + tileRec x + i) := by
  have h1 : s.unitsTaken.Stages (tileRec x + i) (s.sramByte (calStage + (tileRec x + i))) :=
    foldl_keeps_mem (R := fun z => z.Stages (tileRec x + i) _) _ rfl fun _ e he h => h.takeUnit (hu e he)
  have hx' : x ∈ s.unitsTaken.stagedTiles := (State.unitsTaken_eq State.stagedTiles (fun _ _ => rfl) s).symm ▸ hx
  have h2 : (s.unitsTaken.tilesTaken s.stagedXfer).Takes (tileRec x + i) (s.sramByte (calStage + (tileRec x + i))) :=
    foldl_reaches_mem (P := fun z => z.Stages (tileRec x + i) _) (Q := fun z => z.Takes (tileRec x + i) _) hx'
      (fun _ y hy h => h.takeTile (State.unitsTaken_tiles ht y hy) _) (fun _ h => h.tile (ht x hx) hi)
      (fun _ y hy h => h.takeTile (State.unitsTaken_tiles ht y hy) _) h1
  rw [State.rowsTaken_sramByte, Nat.add_assoc, Nat.add_assoc]
  exact h2.2

theorem Exact.rowsTaken : Exact rowsTouch s s.rowsTaken := by
  have h1 : Exact rowsTouch s s.unitsTaken := .foldl _ (.refl _ s) fun z e he h => .ite (fun _ => (h.takeIn (feRec_le (hu e he) (i := 0) (by decide))).takeIn (feRec_le (hu e he) (by decide)))
    fun _ => h.takeIn (feRec_le (hu e he) (i := 0) (by decide))
  have h2 : Exact rowsTouch s (s.unitsTaken.tilesTaken s.stagedXfer) := .foldl _ h1 fun z x hx h => by
    have hx8 := State.unitsTaken_tiles ht x hx
    have g := h.takeIn (tileRec_le hx8 (i := 16) (m := 16) (by decide))
    exact .ite (fun _ => (g.takeIn (tileRec_le hx8 (i := 0) (by decide))).takeIn (tileRec_le hx8 (by decide))) fun _ => g
  exact h2.set_rotAt _ fun _ _ => rfl

end

/-! ### The new generation's header -/

/-- What the header of a new generation is kept in. -/
def headTouch : Touch where
  regs a := a = CAL_GEN.GEN.off
  sram a := calBase ≤ a ∧ a < calBase + 0x80

theorem Exact.headPut (h : Exact headTouch s z) (v : Nat) (ho : o + n ≤ 0x80) : Exact headTouch s (z.calPut o n v) :=
  h.calPut o n v fun _ hl hu => ⟨Nat.le_of_add_right_le hl, Nat.lt_of_lt_of_le hu (Nat.add_assoc .. ▸ Nat.add_le_add_left ho calBase)⟩

theorem Exact.genHeaded (s : State) (g : Nat) (b : Bool) : Exact headTouch s (s.genHeaded g b) := by
  have h1 : Exact headTouch s (s.setF 0 CAL_GEN.GEN g) := (Exact.refl _ s).setF g rfl
  exact ((h1.headPut g (by decide)).headPut _ (by decide)).headPut _ (by decide)

theorem State.genHeaded_eq {α : Type} (f : State → α) (hr : ∀ x l, f { x with regs := l } = f x) (hm : ∀ x l, f { x with sram := l } = f x) (s : State) (g : Nat)
    (b : Bool) : f (s.genHeaded g b) = f s := by
  unfold State.genHeaded
  rw [State.calPut_eq f hm, State.calPut_eq f hm, State.calPut_eq f hm]
  exact hr _ _

theorem State.gen_calPut (s : State) (o n v : Nat) : (s.calPut o n v).gen = s.gen := State.calPut_eq State.gen (fun _ _ => rfl) ..

theorem State.genHeaded_gen (s : State) (g : Nat) (b : Bool) : (s.genHeaded g b).gen = g % 2 ^ 16 := by
  unfold State.genHeaded
  rw [State.gen_calPut, State.gen_calPut, State.gen_calPut]
  exact s.getF_setF_self 0 CAL_GEN.GEN g (by decide)

theorem State.nextGen_lt (s : State) : s.nextGen < 2 ^ 16 := by
  have h : s.gen < 2 ^ 16 := s.getF_lt 0 CAL_GEN.GEN
  unfold State.nextGen
  split <;> omega

/-! ### What follows the new generation -/

/-- A commit after the new generation is in the committed buffer: nothing stays staged, passes of the tiles of m start, no commit is asked for. -/
def State.commitTail (s : State) (m : Nat) : State := ((bitsSet 8 m).foldl State.passStart s.genChanges.unstage).commitNoted.commitOver

theorem State.commitNow_over (s : State) : s.commitNow.commitOver =
    (if s.isSet 0 CAL_STATUS.ANCHOR_STAGED then s.rolesChanged.commitAnchor s.nextGen else s.rolesChanged).commitTail s.stagedXfer := by
  rw [s.commitNow_eq]
  rfl

/-- What follows the new generation may change. -/
def tailTouch : Touch where
  regs a := a = CAL_STATUS.XFER_STAGED.off ∨ ∃ x < 8, a = x * 0x10 + CAL_TILE_ROT.PASS.off
  sram a := calStage ≤ a ∧ a < calStage + 0x100000
  parts x := { x with tiles := [], commitPend := false, commitCmds := [], stagedUnits := [], stagedTiles := [], stagedXfer := 0, timingNew := [], anchor := {},
                      calDirty := false, jobs := [] }

/-- What follows the emptying of the staging buffer may change. -/
def afterTouch : Touch where
  regs a := ∃ x < 8, a = x * 0x10 + CAL_TILE_ROT.PASS.off
  parts x := { x with tiles := [], commitPend := false, commitCmds := [], calDirty := false }

theorem State.genChanges_eq {α : Type} (f : State → α) (hj : ∀ x l, f { x with jobs := l } = f x) (s : State) : f s.genChanges = f s :=
  foldl_keeps (R := fun z => f z = f s) _ rfl fun z _ h => foldl_keeps (R := fun z => f z = f s) _ h fun y _ g => by
    split
    · exact (hj _ _).trans g
    · exact g

theorem Exact.genChanges (h : Exact w s z) (hj : ∀ x l, w.parts { x with jobs := l } = w.parts x) : Exact w s z.genChanges :=
  .foldl _ h fun _ _ _ g => .foldl _ g fun _ _ _ g => by
    split
    · exact g.setJob _ _ _ hj
    · exact g

theorem Exact.set_commitCmds (h : Exact w s z) (l : List CmdRef) (hp : ∀ x l, w.parts { x with commitCmds := l } = w.parts x) :
    Exact w s { z with commitCmds := l } := h.congr (hp z.parts l) rfl rfl rfl rfl rfl rfl rfl rfl

theorem Exact.afterStage (s : State) (m : Nat) : Exact afterTouch.loose s ((bitsSet 8 m).foldl State.passStart s).commitNoted.commitOver := by
  have h1 : Exact afterTouch.loose s ((bitsSet 8 m).foldl State.passStart s) :=
    .foldl _ (.refl _ s) fun _ x hx g => g.passStart (.inl ⟨x, (mem_bitsSet.1 hx).1, rfl⟩) fun _ _ => rfl
  have h2 : Exact afterTouch.loose s ((bitsSet 8 m).foldl State.passStart s).commitNoted := (h1.setF 1 (.inr unframed_latch)).set_calDirty true fun _ _ => rfl
  exact (h2.set_commitPend false fun _ _ => rfl).set_commitCmds [] fun _ _ => rfl

theorem Exact.commitTail (s : State) (m : Nat) : Exact tailTouch.loose s (s.commitTail m) := by
  have h1 : Exact tailTouch.loose s s.genChanges := (Exact.refl _ s).genChanges fun _ _ => rfl
  have h2 : Exact tailTouch.loose s s.genChanges.unstage := h1.trans (Exact.unstage.widen (fun _ e => .inl (.inl e)) (fun _ => id) (fun _ => id) (fun _ => id) (fun _ => id)
    (fun _ => id) (fun _ => id) (fun _ => id) fun _ => rfl)
  exact h2.trans ((Exact.afterStage s.genChanges.unstage m).widen (fun _ e => e.imp_left .inr) (fun _ => False.elim) (fun _ => id) (fun _ => id) (fun _ => id) (fun _ => id)
    (fun _ => id) (fun _ => id) fun _ => rfl)

/-! What stands after it -/

theorem afterTouch_status {f : Fld} (hf : f.off = 0x400004) : ¬ afterTouch.loose.regs (0 + f.off) := by
  rw [hf]
  rintro (⟨x, hx, h⟩ | h)
  · have h' : 0 + 0x400004 = x * 0x10 + 0x400104 := h
    omega
  · exact absurd h.1 (by decide)

theorem State.unstage_busy (s : State) : s.unstage.isSet 0 CAL_STATUS.ARCH_BUSY = s.isSet 0 CAL_STATUS.ARCH_BUSY := by
  rw [s.unstage_eq]
  exact State.isSet_of_getF (State.getF_setFs_disj s.stageClear 0 (by decide))

/-- The fields of CAL_STATUS after a commit are those that emptying the staging buffer leaves. -/
theorem State.commitTail_status (s : State) (m : Nat) {f : Fld} (hf : f.off = 0x400004) : (s.commitTail m).isSet 0 f = s.genChanges.unstage.isSet 0 f :=
  (Exact.afterStage s.genChanges.unstage m).isSet (afterTouch_status hf)

theorem State.commitTail_busy (s : State) (m : Nat) : (s.commitTail m).isSet 0 CAL_STATUS.ARCH_BUSY = s.isSet 0 CAL_STATUS.ARCH_BUSY := by
  rw [State.commitTail_status s m rfl, State.unstage_busy]
  exact State.genChanges_eq (fun z => z.isSet 0 CAL_STATUS.ARCH_BUSY) (fun _ _ => rfl) s

/-- Nothing is staged any more, the archive is behind, no commit is asked for. -/
theorem State.commitTail_shows (s : State) (m : Nat) : (s.commitTail m).isSet 0 CAL_STATUS.ANCHOR_STAGED = false ∧ (s.commitTail m).isSet 0 CAL_STATUS.XFER_STAGED = false ∧
    (s.commitTail m).anyStaged = false ∧ (s.commitTail m).timingNew = [] ∧ (s.commitTail m).calDirty = true ∧ (s.commitTail m).commitPend = false := by
  have hanchor := (State.commitTail_status s m (f := CAL_STATUS.ANCHOR_STAGED) rfl).trans (s.genChanges.unstage_isSet (.inl rfl))
  have hxfer := (State.commitTail_status s m (f := CAL_STATUS.XFER_STAGED) rfl).trans (s.genChanges.unstage_isSet (.inr rfl))
  have hparts := (Exact.afterStage s.genChanges.unstage m).parts
  have hunits : (s.commitTail m).stagedUnits = [] := congrArg State.stagedUnits hparts
  have htiles : (s.commitTail m).stagedTiles = [] := congrArg State.stagedTiles hparts
  have hnew : (s.commitTail m).timingNew = [] := congrArg State.timingNew hparts
  refine ⟨hanchor, hxfer, ?_, hnew, rfl, rfl⟩
  unfold State.anyStaged
  rw [hanchor, hunits, htiles, hnew]
  rfl

/-- The passes of the tiles whose transfers are committed are under way. -/
theorem State.commitTail_passes (s : State) {m x : Nat} (hx : x < 8) (hm : m.testBit x = true) : (s.commitTail m).PassBegun x :=
  (State.passStarts_begun (mem_bitsSet.2 ⟨hx, hm⟩) s.genChanges.unstage).of_eq (State.rd_setF_ne _ (f := IRQ_LATCH.CAL) (calTile_ne x (by decide) (by decide)) 1) rfl

theorem State.commitTail_cmds (s : State) (m : Nat) : (s.commitTail m).cmds = s.cmds :=
  (State.passStarts_cmds s.genChanges.unstage _).trans (State.genChanges_eq State.cmds (fun _ _ => rfl) s)

/-! ### The commands that asked for it -/

theorem State.commitAnswered_eq {α : Type} (f : State → α) (hc : ∀ x l, f { x with cmds := l } = f x) (s : State) (l : List CmdRef) :
    f (s.commitAnswered false l) = f s := foldl_keeps (R := fun z => f z = f s) l rfl fun _ _ h => (hc _ _).trans h

theorem Exact.commitAnswered (h : Exact w s z) (l : List CmdRef) : Exact w s (z.commitAnswered false l) := .foldl l h fun _ _ _ g => g.mapCmds _ _

/-- A command that has ended stays as it is when another ends. -/
theorem State.mem_endCmd_ended {c : Cmd} (h : c ∈ s.cmds) (he : c.ending ≠ none) (r : CmdRef) (e : Ending) : c ∈ (s.endCmd r e).cmds :=
  List.mem_map.2 ⟨c, h, if_neg fun g => he g.1⟩

theorem State.mem_endCmd {c : Cmd} (h : c ∈ s.cmds) (r : CmdRef) (e : Ending) : c ∈ (s.endCmd r e).cmds ∨ c.isRef r = true ∧ c.finish e ∈ (s.endCmd r e).cmds := by
  by_cases hc : c.ending = none ∧ c.isRef r = true
  · exact .inr ⟨hc.2, List.mem_map.2 ⟨c, h, if_pos hc⟩⟩
  · exact .inl (List.mem_map.2 ⟨c, h, if_neg hc⟩)

theorem State.mem_endCmd_self {c : Cmd} (h : c ∈ s.cmds) (he : c.ending = none) {r : CmdRef} (hr : c.isRef r = true) (e : Ending) : c.finish e ∈ (s.endCmd r e).cmds :=
  List.mem_map.2 ⟨c, h, if_pos ⟨he, hr⟩⟩

/-- Every command of the list, not ended before, is answered with the generation. -/
theorem State.commitAnswered_mem {c : Cmd} (h : c ∈ s.cmds) (he : c.ending = none) {l : List CmdRef} (hl : (⟨c.sq, c.tag⟩ : CmdRef) ∈ l) :
    c.finish { status := scOK, result := s.gen } ∈ (s.commitAnswered false l).cmds := by
  have hself : c.isRef ⟨c.sq, c.tag⟩ = true := decide_eq_true ⟨rfl, rfl⟩
  have hdone : (c.finish { status := scOK, result := s.gen }).ending ≠ none := Option.some_ne_none _
  refine (foldl_reaches_mem (P := fun z => z.gen = s.gen ∧ (c ∈ z.cmds ∨ c.finish { status := scOK, result := s.gen } ∈ z.cmds))
    (Q := fun z => c.finish { status := scOK, result := s.gen } ∈ z.cmds) hl (fun z k _ hz => ?_) (fun z hz => ?_) (fun z k _ hz => State.mem_endCmd_ended hz hdone k _) ?_)
  · obtain ⟨hg, hz⟩ := hz
    refine ⟨hg, hz.elim (fun hc => ?_) fun hf => .inr (State.mem_endCmd_ended hf hdone k _)⟩
    exact (State.mem_endCmd hc k _).imp_right fun e => hg ▸ e.2
  · obtain ⟨hg, hz⟩ := hz
    exact hz.elim (fun hc => hg ▸ State.mem_endCmd_self hc he hself _) fun hf => State.mem_endCmd_ended hf hdone _ _
  · exact ⟨rfl, .inl h⟩

/-! ### Edges without an anchor -/

theorem exec_commitEdge_none (h : s.commitPend = false) : exec .commitEdge s = done s := if_pos (by rw [h]; exact Bool.false_ne_true)

/-- What an edge with nothing staged may change. -/
def emptyCommitTouch : Touch where
  parts x := { x with commitPend := false, commitCmds := [] }

theorem commitEdge_empty (hp : s.commitPend = true) (hn : s.anyStaged = false) (hl : s.commitCmds = [r]) (hc : s.cmd? r = some k) : Completes .commitEdge s fun t =>
    t.commitPend = false ∧ Answered r { status := scOK, result := s.gen } emptyCommitTouch s t := by
  have hanchor : s.isSet 0 CAL_STATUS.ANCHOR_STAGED = false := (Bool.or_eq_false_iff.1 hn).1
  have hx := exec_commitEdge hp
  rw [if_neg (by rw [hn]; exact Bool.false_ne_true), hanchor, hl] at hx
  have hover : Exact emptyCommitTouch s s.commitOver := ((Exact.refl _ s).set_commitPend false fun _ _ => rfl).set_commitCmds [] fun _ _ => rfl
  exact completes_done hx ⟨State.settled_commitPend _, (hover.commitAnswered [r]).answered hc rfl⟩

/-- The state a commit without an anchor ends in. -/
theorem exec_commitEdge_rows (hp : s.commitPend = true) (ha : s.anyStaged = true) (hn : s.isSet 0 CAL_STATUS.ANCHOR_STAGED = false) : exec .commitEdge s =
    done ((s.rolesChanged.commitTail s.stagedXfer).commitAnswered false s.commitCmds) := by
  have hx := exec_commitEdge hp
  rw [if_pos ha, s.commitNow_over, hn] at hx
  exact hx

theorem State.tablesTaken_none (h : s.timingNew = []) : s.tablesTaken = s := by
  unfold State.tablesTaken
  rw [h]
  rfl

theorem State.rolesChanged_eq (ht : s.timingNew = []) : s.rolesChanged = s.rowsTaken.genHeaded s.nextGen (s.isSet 0 CAL_STATUS.ANCHOR_STAGED) := by
  have hnew : s.rowsTaken.timingNew = [] := (State.rowsTaken_eq State.timingNew (fun _ _ => rfl) (fun _ _ => rfl) s).trans ht
  unfold State.rolesChanged
  rw [State.tablesTaken_none hnew]

/-- What a commit of units and tiles may change. -/
def commitTouch : Touch where
  regs a := a = CAL_GEN.GEN.off ∨ a = CAL_STATUS.XFER_STAGED.off ∨ ∃ x < 8, a = x * 0x10 + CAL_TILE_ROT.PASS.off
  sram a := calBase ≤ a ∧ a < calStage + 0x100000
  parts x := { x with tiles := [], commitPend := false, commitCmds := [], stagedUnits := [], stagedTiles := [], stagedXfer := 0, anchor := {}, rotAt := [], calDirty := false, jobs := [] }

/-- The same, and the timing tables staged. -/
def commitTouchNew : Touch := { commitTouch with parts := fun x => { commitTouch.parts x with timingNew := [] } }

/-- Where no tables were staged and none are, they have not changed. -/
theorem Exact.keepsTimingNew (h : Exact commitTouchNew.loose s z) (ht : z.timingNew = s.timingNew) : Exact commitTouch.loose s z :=
  { h with
    parts := calc
      commitTouch.parts z.parts = { commitTouchNew.parts z.parts with timingNew := z.timingNew } := rfl
      _ = { commitTouchNew.parts s.parts with timingNew := s.timingNew } := by rw [ht, show commitTouchNew.parts z.parts = commitTouchNew.parts s.parts from h.parts]
      _ = commitTouch.parts s.parts := rfl }

theorem State.settled_gen (s : State) : s.settled.gen = s.gen := State.settled_getF _ (by decide)

theorem State.settled_anyStaged (s : State) : s.settled.anyStaged = s.anyStaged := by
  unfold State.anyStaged
  rw [State.settled_cal _ (by decide), State.settled_stagedUnits, State.settled_stagedTiles, State.settled_timingNew]

theorem rowsTouch_commit {a : Nat} (h : rowsTouch.sram a) : commitTouchNew.loose.sram a := ⟨h.1, Nat.lt_of_lt_of_le h.2 (by decide)⟩

theorem headTouch_commit {a : Nat} (h : headTouch.sram a) : commitTouchNew.loose.sram a := ⟨h.1, Nat.lt_of_lt_of_le h.2 (by decide)⟩

theorem tailTouch_commit {a : Nat} (h : tailTouch.loose.sram a) : commitTouchNew.loose.sram a := ⟨Nat.le_trans (by decide) h.1, h.2⟩

/-- The registers of the new generation stand apart from what follows it. -/
theorem tailTouch_gen {f : Fld} (hf : f.off = 0x400008) : ¬ tailTouch.loose.regs (0 + f.off) := by
  rw [hf]
  rintro ((h | ⟨x, hx, h⟩) | h)
  · exact absurd h (by decide)
  · have h' : 0 + 0x400008 = x * 0x10 + 0x400104 := h
    omega
  · exact absurd h.1 (by decide)

/-- Records in the committed buffer stand apart from its header and from the staging buffer. -/
theorem State.recKept (s : State) (g : Nat) (b : Bool) (m : Nat) {p : Nat} (hl : 0x80 ≤ p) (hu : p < 0x100000) :
    ((s.genHeaded g b).commitTail m).sramByte (calBase + p) = s.sramByte (calBase + p) := by
  have hhead : ¬ headTouch.sram (calBase + p) := fun h => Nat.not_le_of_lt (Nat.lt_of_add_lt_add_left h.2) hl
  have htail : ¬ tailTouch.loose.sram (calBase + p) := fun h => Nat.not_le_of_lt hu (Nat.le_of_add_le_add_left (a := calBase) h.1)
  exact ((Exact.commitTail _ m).sram _ htail).trans ((Exact.genHeaded s g b).sram _ hhead)

section
variable (hu : ∀ e ∈ s.stagedUnits, e.1 < 1056) (ht : ∀ x ∈ s.stagedTiles, x < 8)
include hu ht

theorem Exact.committed (g m : Nat) (b : Bool) : Exact commitTouchNew.loose s ((s.rowsTaken.genHeaded g b).commitTail m) := by
  have h1 : Exact commitTouchNew.loose s s.rowsTaken := (Exact.rowsTaken hu ht).widen (fun _ => False.elim) (fun _ => rowsTouch_commit) (fun _ => id) (fun _ => id) (fun _ => id)
    (fun _ => id) (fun _ => id) (fun _ => id) fun _ => rfl
  have h2 : Exact commitTouchNew.loose s (s.rowsTaken.genHeaded g b) := h1.trans ((Exact.genHeaded _ g b).widen (fun _ e => .inl (.inl e)) (fun _ => headTouch_commit)
    (fun _ => id) (fun _ => id) (fun _ => id) (fun _ => id) (fun _ => id) (fun _ => id) fun _ => rfl)
  exact h2.trans ((Exact.commitTail _ m).widen (fun _ e => e.imp_left .inr) (fun _ => tailTouch_commit) (fun _ => id) (fun _ => id) (fun _ => id) (fun _ => id)
    (fun _ => id) (fun _ => id) fun _ => rfl)

theorem State.committed_unit {e : Nat × Option Nat} (he : e ∈ s.stagedUnits) {i : Nat} (hi : unitTaken e i) (g m : Nat) (b : Bool) :
    ((s.rowsTaken.genHeaded g b).commitTail m).sramByte (calBase + feRec e.1 + i) = s.sramByte (calStage + feRec e.1 + i) := by
  have hle : feRec e.1 + i < 0x100000 := by
    have h768 : i < 768 := by
      unfold unitTaken recForce at hi
      omega
    have := hu e he
    unfold feRec
    omega
  have hge : 0x80 ≤ feRec e.1 + i := by
    unfold feRec
    omega
  have h := s.rowsTaken.recKept g b m hge hle
  rw [← Nat.add_assoc] at h
  exact h.trans (State.rowsTaken_unit hu ht he hi)

theorem State.committed_tile {x : Nat} (hx : x ∈ s.stagedTiles) {i : Nat} (hi : tileTaken s.stagedXfer x i) (g m : Nat) (b : Bool) :
    ((s.rowsTaken.genHeaded g b).commitTail m).sramByte (calBase + tileRec x + i) = s.sramByte (calStage + tileRec x + i) := by
  have hle : tileRec x + i < 0x100000 := by
    have h64 : i < 64 := by
      unfold tileTaken at hi
      omega
    have := ht x hx
    unfold tileRec
    omega
  have hge : 0x80 ≤ tileRec x + i := by
    unfold tileRec
    omega
  have h := s.rowsTaken.recKept g b m hge hle
  rw [← Nat.add_assoc] at h
  exact h.trans (State.rowsTaken_tile hu ht hx hi)

theorem commitEdge_rows (hp : s.commitPend = true) (ha : s.anyStaged = true) (hn : s.isSet 0 CAL_STATUS.ANCHOR_STAGED = false) (hnew : s.timingNew = []) :
    Completes .commitEdge s fun t => t.gen = s.nextGen ∧ t.commitPend = false ∧ t.anyStaged = false ∧ t.isSet 0 CAL_STATUS.XFER_STAGED = false ∧ t.calDirty = true ∧
      (∀ e ∈ s.stagedUnits, ∀ i, unitTaken e i → t.sramByte (calBase + feRec e.1 + i) = s.sramByte (calStage + feRec e.1 + i)) ∧
      (∀ x ∈ s.stagedTiles, ∀ i, tileTaken s.stagedXfer x i → t.sramByte (calBase + tileRec x + i) = s.sramByte (calStage + tileRec x + i)) ∧
      (∀ x < 8, s.stagedXfer.testBit x = true → t.isSet (x * 0x10) CAL_TILE_ROT.PASS = true ∧ (t.tile x).passDone = 0) ∧
      (∀ c ∈ s.cmds, c.ending = none → ⟨c.sq, c.tag⟩ ∈ s.commitCmds → ∃ c' ∈ t.cmds, c'.sq = c.sq ∧ c'.tag = c.tag ∧
        c'.ending = some { status := scOK, result := s.nextGen }) ∧ Frame commitTouch s t := by
  have hx := exec_commitEdge_rows hp ha hn
  rw [State.rolesChanged_eq hnew, hn] at hx
  have hexact := Exact.committed hu ht s.nextGen s.stagedXfer false
  have hunit := fun e he i hi => State.committed_unit hu ht (e := e) he (i := i) hi s.nextGen s.stagedXfer false
  have htile := fun x hx i hi => State.committed_tile hu ht (x := x) hx (i := i) hi s.nextGen s.stagedXfer false
  obtain ⟨-, hxfer, hany, htim, hdirty, hpend⟩ := (s.rowsTaken.genHeaded s.nextGen false).commitTail_shows s.stagedXfer
  have hpass := fun x => (s.rowsTaken.genHeaded s.nextGen false).commitTail_passes (m := s.stagedXfer) (x := x)
  have hgen : ((s.rowsTaken.genHeaded s.nextGen false).commitTail s.stagedXfer).gen = s.nextGen :=
    ((Exact.commitTail _ _).getF (f := CAL_GEN.GEN) (tailTouch_gen rfl)).trans ((State.genHeaded_gen ..).trans (Nat.mod_eq_of_lt s.nextGen_lt))
  have hcmds : ((s.rowsTaken.genHeaded s.nextGen false).commitTail s.stagedXfer).cmds = s.cmds :=
    (State.commitTail_cmds ..).trans ((State.genHeaded_eq State.cmds (fun _ _ => rfl) (fun _ _ => rfl) ..).trans (State.rowsTaken_eq State.cmds (fun _ _ => rfl) (fun _ _ => rfl) s))
  generalize (s.rowsTaken.genHeaded s.nextGen false).commitTail s.stagedXfer = z at *
  refine completes_done hx ⟨?_, ?_, ?_, ?_, ?_, fun e he i hi => ?_, fun x hx i hi => ?_, fun x hx hm => ?_, fun c hc he hr => ?_,
    (hexact.keepsTimingNew (htim.trans hnew.symm)).commitAnswered s.commitCmds |>.settledTight⟩
  · rw [State.settled_gen, State.commitAnswered_eq State.gen fun _ _ => rfl]
    exact hgen
  · rw [State.settled_commitPend, State.commitAnswered_eq State.commitPend fun _ _ => rfl]
    exact hpend
  · rw [State.settled_anyStaged, State.commitAnswered_eq State.anyStaged fun _ _ => rfl]
    exact hany
  · rw [State.settled_cal _ (by decide), State.commitAnswered_eq (fun z => z.isSet 0 CAL_STATUS.XFER_STAGED) fun _ _ => rfl]
    exact hxfer
  · rw [State.settled_calDirty, State.commitAnswered_eq State.calDirty fun _ _ => rfl]
    exact hdirty
  · rw [State.sramByte_settled, State.commitAnswered_eq (fun z => z.sramByte _) fun _ _ => rfl]
    exact hunit e he i hi
  · rw [State.sramByte_settled, State.commitAnswered_eq (fun z => z.sramByte _) fun _ _ => rfl]
    exact htile x hx i hi
  · obtain ⟨hset, hdone⟩ := ((hpass x hx hm).commitAnswered false s.commitCmds).settled hx
    exact ⟨hset, hdone⟩
  · have hmem := State.commitAnswered_mem (hcmds.symm ▸ hc) he hr
    rw [hgen] at hmem
    exact ⟨_, State.settled_ended hmem (Option.some_ne_none _), rfl, rfl, rfl⟩

end

/-! ### Timing tables -/

/-- What becomes of unit u's tables as a commit takes them. -/
theorem State.takeTables_shows (s : State) (u : Nat) (x : Timing) : (s.takeTables u x).tim u = x ∧
    (u < 1024 → s.patRunning u = true → ((s.takeTables u x).tdc u).held = some (s.edgeTim u)) := by
  unfold State.takeTables
  extract_lets z
  refine ⟨?_, fun hu hr => ?_⟩
  · rw [State.showDsk_eq (fun y => y.tim u) fun _ _ => rfl]
    exact tabGet_tabSet_self _ _ _ _
  · have hz : (z.tdc u).held = some (s.edgeTim u) := by
      unfold z
      rw [if_pos ⟨hu, hr⟩, State.tdc_modTdc_self]
    rw [State.showDsk_eq (fun y => y.tdc u) fun _ _ => rfl]
    exact hz

theorem State.commitTail_timing (s : State) (m : Nat) : (s.commitTail m).timing = s.timing := by
  have h := congrArg State.timing (Exact.commitTail s m).parts
  exact h

theorem State.commitTail_tdcs (s : State) (m : Nat) : (s.commitTail m).tdcs = s.tdcs := by
  have h := congrArg State.tdcs (Exact.commitTail s m).parts
  exact h

/-- The new generation's header and what follows it leave the timing alone. -/
theorem State.tail_timing (s : State) (g : Nat) (b : Bool) (m : Nat) : ((s.genHeaded g b).commitTail m).timing = s.timing ∧ ((s.genHeaded g b).commitTail m).tdcs = s.tdcs :=
  ⟨(State.commitTail_timing ..).trans (State.genHeaded_eq State.timing (fun _ _ => rfl) (fun _ _ => rfl) ..),
    (State.commitTail_tdcs ..).trans (State.genHeaded_eq State.tdcs (fun _ _ => rfl) (fun _ _ => rfl) ..)⟩

theorem commitEdge_tables {x : Timing} (hp : s.commitPend = true) (ha : s.anyStaged = true) (hn : s.isSet 0 CAL_STATUS.ANCHOR_STAGED = false)
    (hnew : s.timingNew = [(u, x)]) : Completes .commitEdge s fun t =>
      t.tim u = x ∧ t.timingNew = [] ∧ (u < 1024 → s.patRunning u = true → (t.tdc u).held = some (s.edgeTim u)) := by
  have hx := exec_commitEdge_rows hp ha hn
  have htables : s.rowsTaken.tablesTaken = s.rowsTaken.takeTables u x := by
    unfold State.tablesTaken
    rw [(State.rowsTaken_eq State.timingNew (fun _ _ => rfl) (fun _ _ => rfl) s).trans hnew]
    rfl
  obtain ⟨htim, hheld⟩ := s.rowsTaken.takeTables_shows u x
  have hrun : s.rowsTaken.patRunning u = s.patRunning u := State.rowsTaken_eq (fun z => z.patRunning u) (fun _ _ => rfl) (fun _ _ => rfl) s
  have hedge : s.rowsTaken.edgeTim u = s.edgeTim u := State.rowsTaken_eq (fun z => z.edgeTim u) (fun _ _ => rfl) (fun _ _ => rfl) s
  rw [hrun, hedge] at hheld
  unfold State.rolesChanged at hx
  rw [htables] at hx
  generalize s.rowsTaken.takeTables u x = y at *
  obtain ⟨hkt, hkd⟩ := y.tail_timing s.nextGen (s.isSet 0 CAL_STATUS.ANCHOR_STAGED) s.stagedXfer
  obtain ⟨-, -, -, hnone, -, -⟩ := (y.genHeaded s.nextGen (s.isSet 0 CAL_STATUS.ANCHOR_STAGED)).commitTail_shows s.stagedXfer
  refine completes_done hx ⟨?_, ?_, fun hu hr => ?_⟩
  · unfold State.tim
    rw [State.settled_timing, State.commitAnswered_eq State.timing fun _ _ => rfl, hkt]
    exact htim
  · rw [State.settled_timingNew, State.commitAnswered_eq State.timingNew fun _ _ => rfl]
    exact hnone
  · rw [State.settled_tdc, State.commitAnswered_eq (fun z => z.tdc u) fun _ _ => rfl]
    unfold State.tdc
    rw [hkd]
    exact hheld hu hr

/-! ### Edges with an anchor -/

/-- The header's anchor part, in the committed buffer. -/
def State.anchorRecord (s : State) (g : Nat) : State :=
  let w (i : Nat) : Nat := (s.anchor.block.getD i 0).toNat
  (((((s.calPut 0x18 8 s.calTime).calPut 0x20 2 g).calPut 0x24 12 (w 8 + w 9 <<< 32 + w 10 <<< 64)).calPut 0x30 8 s.anchor.mref).calPut 0x38 4 (w 6 % 2 ^ 16)).calPut 0x40 4
    (w 6 / 2 ^ 16 + (w 7 % 2 ^ 16) <<< 16) |>.calPut 0x48 24 ((List.range 6).foldl (fun n i => n + w i <<< (32 * i)) 0)

/-- The registers of an anchor of generation g, made at time now. -/
def State.anchorShown (s : State) (g now mref : Nat) : State :=
  (s.setF 0 CAL_GEN.ANCHOR_GEN g).setFs 0
    [(CAL_ANCHOR_TIME_LO.SEC, now), (CAL_ANCHOR_TIME_HI.SEC, now / 2 ^ 32), (CAL_MREF_LO.NV, mref), (CAL_MREF_HI.NV, mref / 2 ^ 32)]

/-- The shades that failed are SUSPECT, those that passed ACTIVE. -/
def State.shadesJudged (s : State) (a : Anchor) : State :=
  (List.range 32).foldl (fun s nn =>
    if s.shadeState nn = 2 then s
    else if a.failed.testBit nn ∨ (a.tol.any fun e => e.1 == nn) then s.setShade nn 1
    else if a.passed.testBit nn then s.setShade nn 0 else s) s

/-- The faults of shades out of tolerance are raised. -/
def State.tolRaised (s : State) (a : Anchor) : State := a.tol.foldl (fun s e => s.detect 0x0D scSHADE e.1 e.2) s

/-- Every tile is due for a transfer. -/
def State.allDue (s : State) : State := (List.range 8).foldl (fun s t => s.setF (t * 0x10) CAL_TILE_ROT.DUE 1) s

theorem State.commitAnchor_eq (s : State) (g : Nat) :
    s.commitAnchor g = ((((s.anchorRecord g).anchorShown g s.calTime s.anchor.mref).shadesJudged s.anchor).tolRaised s.anchor).allDue := rfl

theorem State.tolRaised_none {a : Anchor} (h : a.tol = []) (s : State) : s.tolRaised a = s := by
  unfold State.tolRaised
  rw [h]
  rfl

/-! What the anchor's part writes -/

/-- Registers from CAL_TILE_ROT on, and the SRAM. -/
def judgeTouch : Touch where
  regs a := 0x400104 ≤ a
  sram _ := True

theorem Exact.shadesJudged (h : Exact judgeTouch s z) (a : Anchor) : Exact judgeTouch s (z.shadesJudged a) := by
  have hset : ∀ {y : State} (nn st : Nat), Exact judgeTouch s y → Exact judgeTouch s (y.setShade nn st) := fun nn st g =>
    g.trans ((Exact.setShade _ nn st).widen (fun b e => by
      obtain rfl | rfl := e
      · exact Nat.le_trans (by decide) (Nat.le_add_left CAL_TILE_SHD.STATE.off _)
      · exact Nat.le_trans (by decide) (Nat.le_add_left CAL_FE_STATE.STATE.off _)) (fun _ _ => trivial) (fun _ => id) (fun _ => id) (fun _ => id) (fun _ => id) (fun _ => id)
      (fun _ => id) fun _ => rfl)
  exact .foldl _ h fun _ nn _ g => .ite (fun _ => g) fun _ => .ite (fun _ => hset nn 1 g) fun _ => .ite (fun _ => hset nn 0 g) fun _ => g

theorem Exact.allDue (h : Exact judgeTouch s z) : Exact judgeTouch s z.allDue :=
  .foldl _ h fun _ x _ g => g.setF 1 (Nat.le_add_left 0x400104 (x * 0x10))

/-- The registers of the module's own calibration unit stay. -/
theorem State.judged_getF (s : State) (a : Anchor) {f : Fld} (hf : f.off < 0x400104) : (s.shadesJudged a).allDue.getF 0 f = s.getF 0 f :=
  ((Exact.refl judgeTouch s).shadesJudged a).allDue.getF fun h => by
    have h' : 0x400104 ≤ 0 + f.off := h
    omega

theorem State.anchorRecord_eq {α : Type} (f : State → α) (hm : ∀ x l, f { x with sram := l } = f x) (s : State) (g : Nat) : f (s.anchorRecord g) = f s := by
  unfold State.anchorRecord
  extract_lets w
  simp only [State.calPut_eq f hm]

/-- A 64-bit number in two registers. -/
theorem halves_eq {v : Nat} (h : v < 2 ^ 64) : v % 2 ^ 32 + 2 ^ 32 * (v / 2 ^ 32 % 2 ^ 32) = v := by omega

/-- The registers of the anchor as they show it. -/
structure State.ShowsAnchor (s : State) (g gen now mref : Nat) : Prop where
  gen : s.getF 0 CAL_GEN.GEN = gen
  anchorGen : s.getF 0 CAL_GEN.ANCHOR_GEN = g
  time : s.getF 0 CAL_ANCHOR_TIME_LO.SEC + 2 ^ 32 * s.getF 0 CAL_ANCHOR_TIME_HI.SEC = now
  mref : s.getF 0 CAL_MREF_LO.NV + 2 ^ 32 * s.getF 0 CAL_MREF_HI.NV = mref

theorem State.anchorShown_shows (s : State) {g now mref : Nat} (hg : g < 2 ^ 16) (hn : now < 2 ^ 64) (hm : mref < 2 ^ 64) :
    (s.anchorShown g now mref).ShowsAnchor g s.gen now mref := by
  unfold State.anchorShown
  rw [State.setFs_cons, State.setFs_cons, State.setFs_cons, State.setFs_cons, State.setFs_nil]
  have hoff : ∀ (z : State) (f x : Fld) (v : Nat), f.off ≠ x.off → (z.setF 0 f v).getF 0 x = z.getF 0 x := fun z f x v h => z.getF_setF_off 0 h v
  refine ⟨?_, ?_, ?_, ?_⟩
  · rw [hoff _ _ _ _ (by decide), hoff _ _ _ _ (by decide), hoff _ _ _ _ (by decide), hoff _ _ _ _ (by decide)]
    exact State.getF_setF_disj s 0 CAL_GEN.ANCHOR_GEN CAL_GEN.GEN g rfl (by decide)
  · rw [hoff _ _ _ _ (by decide), hoff _ _ _ _ (by decide), hoff _ _ _ _ (by decide), hoff _ _ _ _ (by decide)]
    exact (s.getF_setF_self 0 CAL_GEN.ANCHOR_GEN g (by decide)).trans (Nat.mod_eq_of_lt hg)
  · rw [hoff _ CAL_MREF_HI.NV _ _ (by decide), hoff _ CAL_MREF_LO.NV _ _ (by decide), hoff _ CAL_ANCHOR_TIME_HI.SEC CAL_ANCHOR_TIME_LO.SEC _ (by decide),
      hoff _ CAL_MREF_HI.NV _ _ (by decide), hoff _ CAL_MREF_LO.NV _ _ (by decide), State.getF_setF_self _ 0 CAL_ANCHOR_TIME_LO.SEC now (by decide),
      State.getF_setF_self _ 0 CAL_ANCHOR_TIME_HI.SEC _ (by decide)]
    exact halves_eq hn
  · rw [hoff _ CAL_MREF_HI.NV CAL_MREF_LO.NV _ (by decide), State.getF_setF_self _ 0 CAL_MREF_LO.NV mref (by decide), State.getF_setF_self _ 0 CAL_MREF_HI.NV _ (by decide)]
    exact halves_eq hm

theorem State.ShowsAnchor.of_eq {y : State} {now mref : Nat} (h : z.ShowsAnchor g n now mref) (he : ∀ f : Fld, 0x400008 ≤ f.off → f.off < 0x400100 → y.getF 0 f = z.getF 0 f) :
    y.ShowsAnchor g n now mref where
  gen := (he CAL_GEN.GEN (by decide) (by decide)).trans h.gen
  anchorGen := (he CAL_GEN.ANCHOR_GEN (by decide) (by decide)).trans h.anchorGen
  time := by
    rw [he CAL_ANCHOR_TIME_LO.SEC (by decide) (by decide), he CAL_ANCHOR_TIME_HI.SEC (by decide) (by decide)]
    exact h.time
  mref := by
    rw [he CAL_MREF_LO.NV (by decide) (by decide), he CAL_MREF_HI.NV (by decide) (by decide)]
    exact h.mref

theorem State.commitAnchor_shows (s : State) (htol : s.anchor.tol = []) (hg : g < 2 ^ 16) (hn : s.calTime < 2 ^ 64) (hm : s.anchor.mref < 2 ^ 64) :
    (s.commitAnchor g).ShowsAnchor g s.gen s.calTime s.anchor.mref := by
  have hshown := (s.anchorRecord g).anchorShown_shows hg hn hm
  rw [State.anchorRecord_eq State.gen fun _ _ => rfl] at hshown
  rw [State.commitAnchor_eq, State.tolRaised_none htol]
  exact hshown.of_eq fun f _ hf => State.judged_getF _ _ (by omega)

theorem State.anchorShown_busy (s : State) (g now mref : Nat) :
    (s.anchorShown g now mref).isSet 0 CAL_STATUS.ARCH_BUSY = s.isSet 0 CAL_STATUS.ARCH_BUSY := by
  unfold State.anchorShown
  rw [State.setFs_cons, State.setFs_cons, State.setFs_cons, State.setFs_cons, State.setFs_nil, State.isSet_setF_off _ 0 (by decide),
    State.isSet_setF_off _ 0 (by decide), State.isSet_setF_off _ 0 (by decide), State.isSet_setF_off _ 0 (by decide), State.isSet_setF_off _ 0 (by decide)]

theorem State.commitAnchor_busy (s : State) (htol : s.anchor.tol = []) (g : Nat) :
    (s.commitAnchor g).isSet 0 CAL_STATUS.ARCH_BUSY = s.isSet 0 CAL_STATUS.ARCH_BUSY := by
  rw [State.commitAnchor_eq, State.tolRaised_none htol]
  exact (State.isSet_of_getF (State.judged_getF _ _ (f := CAL_STATUS.ARCH_BUSY) (by decide))).trans
    ((State.anchorShown_busy ..).trans (State.anchorRecord_eq (fun z => z.isSet 0 CAL_STATUS.ARCH_BUSY) (fun _ _ => rfl) s g))

/-- Tile x is due. -/
def State.due (s : State) (x : Nat) : Prop := s.isSet (x * 0x10) CAL_TILE_ROT.DUE = true

theorem State.allDue_due (s : State) {x : Nat} (hx : x < 8) : s.allDue.due x :=
  foldl_reaches (P := fun _ => True) (Q := fun z => z.due x) (List.mem_range.2 hx) (fun _ _ _ _ => trivial) (fun z _ => z.isSet_setF_self _ CAL_TILE_ROT.DUE 1 (by decide))
    (fun z y h => by
      by_cases he : y = x
      · exact he ▸ z.isSet_setF_self _ CAL_TILE_ROT.DUE 1 (by decide)
      · exact (State.isSet_of_getF (z.getF_setF_ne (by dsimp only; omega) 1)).trans h) trivial

theorem State.commitAnchor_due (s : State) (g : Nat) {x : Nat} (hx : x < 8) : (s.commitAnchor g).due x := by
  rw [State.commitAnchor_eq]
  exact State.allDue_due _ hx

theorem State.due.passStart {x : Nat} (h : s.due x) (y : Nat) : (s.passStart y).due x := by
  have hset : (s.setF (y * 0x10) CAL_TILE_ROT.PASS 1).isSet (x * 0x10) CAL_TILE_ROT.DUE = s.isSet (x * 0x10) CAL_TILE_ROT.DUE := by
    by_cases he : y = x
    · exact he ▸ s.isSet_setF_disj (y * 0x10) CAL_TILE_ROT.PASS CAL_TILE_ROT.DUE 1 rfl (by decide)
    · exact State.isSet_of_getF (s.getF_setF_ne (by dsimp only; omega) 1)
  exact (State.isSet_modTile ..).trans (hset.trans h)

theorem State.due.commitTail {x : Nat} (h : s.due x) (m : Nat) : (s.commitTail m).due x := by
  have h1 : s.genChanges.due x := (State.genChanges_eq (fun z => z.isSet (x * 0x10) CAL_TILE_ROT.DUE) (fun _ _ => rfl) s).trans h
  have h2 : s.genChanges.unstage.due x := (Exact.unstage.isSet fun e => calTile_ne x (f := CAL_STATUS.ANCHOR_STAGED) (g := CAL_TILE_ROT.DUE) (by decide) (by decide) e.symm).trans h1
  have h3 : ((bitsSet 8 m).foldl State.passStart s.genChanges.unstage).due x := foldl_keeps (R := fun z => z.due x) _ h2 fun _ y g => g.passStart y
  exact (State.isSet_of_getF (State.getF_setF_ne _ (f := IRQ_LATCH.CAL) (calTile_ne x (by decide) (by decide)) 1)).trans h3

theorem tailTouch_module {f : Fld} (hl : 0x400008 ≤ f.off) (hu : f.off < 0x400100) : ¬ tailTouch.loose.regs (0 + f.off) := by
  rintro ((h | ⟨x, hx, h⟩) | h)
  · have h' : 0 + f.off = 0x400004 := h
    omega
  · have h' : 0 + f.off = x * 0x10 + 0x400104 := h
    omega
  · exact Bool.false_ne_true ((cal_follows (by omega) (by omega)).symm.trans h.1)

theorem archTouch_ne {b : Nat} {f : Fld} (h : 0x400004 < b + f.off) : ¬ archTouch.regs (b + f.off) := fun e => by
  have e' : b + f.off = 0x400004 := e
  omega

theorem headTouch_status {f : Fld} (hf : f.off = 0x400004) : ¬ headTouch.regs (0 + f.off) := by
  rw [hf]
  intro h
  exact absurd (show 0 + 0x400004 = 0x400008 from h) (by decide)

theorem State.calTime_rowsTaken (s : State) : s.rowsTaken.calTime = s.calTime := State.rowsTaken_eq State.calTime (fun _ _ => rfl) (fun _ _ => rfl) s

theorem State.calTime_genHeaded (s : State) (g : Nat) (b : Bool) : (s.genHeaded g b).calTime = s.calTime := by
  unfold State.calTime
  rw [State.genHeaded_eq State.calSet (fun _ _ => rfl) (fun _ _ => rfl), State.genHeaded_eq State.uptime (fun _ _ => rfl) (fun _ _ => rfl),
    State.genHeaded_eq State.calAt (fun _ _ => rfl) (fun _ _ => rfl), (Exact.genHeaded s g b).isSet (f := CAL_STATUS.TIME_SET) (headTouch_status rfl)]

/-- What stands after a commit with an anchor and the start of its archive write, where z is the state with the anchor in the committed buffer. -/
theorem State.anchorCommitted (z : State) (l : List CmdRef) (m : Nat) {now mref : Nat} (h : z.ShowsAnchor g n now mref) (hdue : ∀ x < 8, z.due x)
    (hbusy : z.isSet 0 CAL_STATUS.ARCH_BUSY = false) : let t := ((z.commitTail m).archStart l).settled
    t.ShowsAnchor g n now mref ∧ t.commitPend = false ∧ t.isSet 0 CAL_STATUS.ANCHOR_STAGED = false ∧ t.isSet 0 CAL_STATUS.ARCH_BUSY = true ∧ t.archNow = l ∧
      ∀ x < 8, t.isSet (x * 0x10) CAL_TILE_ROT.DUE = true := by
  have hidle : (z.commitTail m).isSet 0 CAL_STATUS.ARCH_BUSY = false := (z.commitTail_busy m).trans hbusy
  obtain ⟨hanchor, -, -, -, -, hpend⟩ := z.commitTail_shows m
  have htail : (z.commitTail m).ShowsAnchor g n now mref := h.of_eq fun f hl hu => (Exact.commitTail z m).getF (tailTouch_module hl hu)
  have hdues := fun x hx => (hdue x hx).commitTail m
  generalize z.commitTail m = y at *
  have hkeep := (Exact.refl archTouch y).archStart l
  intro t
  refine ⟨htail.of_eq fun f hl hu => (State.settled_getF _ (cal_follows (by omega) (by omega))).trans (hkeep.getF (archTouch_ne (by omega))), ?_, ?_, ?_, ?_, fun x hx => ?_⟩
  · rw [State.settled_commitPend, State.archStart_idle l hidle]
    exact hpend
  · rw [State.settled_cal _ (by decide), State.archStart_idle l hidle]
    exact (y.isSet_setF_disj 0 CAL_STATUS.ARCH_BUSY CAL_STATUS.ANCHOR_STAGED 1 rfl (by decide)).trans hanchor
  · rw [State.settled_cal _ (by decide)]
    exact y.archStart_isSet l
  · rw [State.settled_archNow, State.archStart_idle l hidle]
  · rw [State.settled_isSet _ (calTile_follows (f := CAL_TILE_ROT.DUE) hx (by decide)), hkeep.isSet (archTouch_ne (by dsimp only; omega))]
    exact hdues x hx

theorem commitEdge_anchor (hp : s.commitPend = true) (hn : s.isSet 0 CAL_STATUS.ANCHOR_STAGED = true) (htol : s.anchor.tol = [])
    (hbusy : s.isSet 0 CAL_STATUS.ARCH_BUSY = false) (hnew : s.timingNew = []) (hm : s.anchor.mref < 2 ^ 64) (hc : s.calTime < 2 ^ 64) : Completes .commitEdge s fun t =>
      t.ShowsAnchor s.nextGen s.nextGen s.calTime s.anchor.mref ∧ t.commitPend = false ∧ t.isSet 0 CAL_STATUS.ANCHOR_STAGED = false ∧
      t.isSet 0 CAL_STATUS.ARCH_BUSY = true ∧ t.archNow = s.commitCmds ∧ ∀ x < 8, t.isSet (x * 0x10) CAL_TILE_ROT.DUE = true := by
  have hany : s.anyStaged = true := by
    unfold State.anyStaged
    rw [hn]
    rfl
  have hx := exec_commitEdge hp
  rw [if_pos hany, s.commitNow_over, hn, if_pos rfl, State.rolesChanged_eq hnew, hn] at hx
  have hanchor : (s.rowsTaken.genHeaded s.nextGen true).anchor = s.anchor :=
    (State.genHeaded_eq State.anchor (fun _ _ => rfl) (fun _ _ => rfl) ..).trans (State.rowsTaken_eq State.anchor (fun _ _ => rfl) (fun _ _ => rfl) s)
  have htime : (s.rowsTaken.genHeaded s.nextGen true).calTime = s.calTime := (State.calTime_genHeaded ..).trans s.calTime_rowsTaken
  have hgen : (s.rowsTaken.genHeaded s.nextGen true).gen = s.nextGen := (State.genHeaded_gen ..).trans (Nat.mod_eq_of_lt s.nextGen_lt)
  have hidle : (s.rowsTaken.genHeaded s.nextGen true).isSet 0 CAL_STATUS.ARCH_BUSY = false :=
    ((Exact.genHeaded s.rowsTaken s.nextGen true).isSet (f := CAL_STATUS.ARCH_BUSY) (headTouch_status rfl)).trans
      ((State.rowsTaken_eq (fun z => z.isSet 0 CAL_STATUS.ARCH_BUSY) (fun _ _ => rfl) (fun _ _ => rfl) s).trans hbusy)
  generalize s.rowsTaken.genHeaded s.nextGen true = y at *
  have hshows := y.commitAnchor_shows (by rw [hanchor]; exact htol) s.nextGen_lt (by rw [htime]; exact hc) (by rw [hanchor]; exact hm)
  rw [hgen, htime, hanchor] at hshows
  exact completes_done hx (State.anchorCommitted _ s.commitCmds s.stagedXfer hshows (fun x hx => y.commitAnchor_due s.nextGen hx)
    ((y.commitAnchor_busy (by rw [hanchor]; exact htol) s.nextGen).trans hidle))

/-! ### The obligation -/

/-- A step that does nothing leaves everything. -/
theorem completes_idle {i : Instr} (h : exec i s = done s) : Completes i s (Frame {} s) := completes_done h (Exact.refl _ s).settled

/-- Settles O43, row by row: the anchor's steps, a transfer's steps, the commit edge and the archive each have their own lemma. -/
theorem calibrationEventRows : Obligations.CalibrationEventRows := by
  unfold Obligations.CalibrationEventRows
  intro s n inp t'
  refine ⟨fun h => ⟨completes_idle (exec_anchorStep_idle h), completes_idle (exec_anchorTimeout_none (.inl h))⟩, fun h hn hc => anchorStep_counted h hn hc,
    fun r k l hr hn ha hc hl hne hf => anchorStep_fails hr hn ha hc hl hne hf, fun e he => s.standardFaults_mem he,
    fun v hv => ⟨fun h => s.standardFaults_reversed h, fun ⟨h0, hx, ha, hfa, hb, hfb, hca, hcb⟩ => s.standardFaults_none hv h0 hx ha hfa hb hfb hca hcb⟩,
    fun hr hn => anchorStep_ratios hr hn, fun r k hr hn hrows htres ha hc h0 => anchorStep_last hr hn hrows htres ha hc h0,
    fun r k hr hb ha hc => anchorTimeout_row hr hb ha hc, fun h => completes_idle (exec_anchorTimeout_none (.inr h)),
    fun rows tresH tresL h => completes_idle (exec_transferStep_none h), fun rows tresH tresL h l hx hm hn => ⟨fun h4 h1 => transferStep_counted hx hm hn h4 h1, ?_, ?_⟩,
    fun h => completes_idle (exec_commitEdge_none h), fun r k hp hn hl hc => commitEdge_empty hp hn hl hc, ?_,
    fun u x hp ha hn hnew => commitEdge_tables hp ha hn hnew, ?_, fun hd hb => calArchiveTimer_row hd hb, fun h => completes_idle (exec_calArchiveTimer_none h),
    fun ok h => completes_idle (exec_archiveWriteDone_none ok h), ?_⟩
  · rintro h4 rfl hv
    exact transferStep_stages hx hm (hn.symm.trans h4) hv
  · intro h5
    exact transferStep_ends hx hm (hn ▸ h5)
  · rintro g hp ha hn hnew hu ht rfl
    exact commitEdge_rows hu ht hp ha hn hnew
  · rintro g hp hn htol hbusy hnew hm hc rfl
    obtain ⟨t, hx, hshows, hrest⟩ := commitEdge_anchor hp hn htol hbusy hnew hm hc
    obtain ⟨hpend, hanchor, harch, hnow, hdue⟩ := hrest
    exact ⟨t, hx, hshows.gen, hshows.anchorGen, hpend, hanchor, harch, hnow, hshows.mref, hshows.time, hdue⟩
  · intro ok r k hb hn hc
    cases ok with
    | false =>
      obtain ⟨t, hx, hend, hnow, hnext, hbusy, herr, hdirty, hframe⟩ := archiveWriteDone_fails hb hn hc
      exact ⟨t, hx, hend, hnow, hnext, hbusy, fun _ => ⟨herr, hdirty, hframe⟩, fun h => absurd h Bool.false_ne_true⟩
    | true =>
      obtain ⟨t, hx, hend, hnow, hnext, hbusy, hdirty, hcount, hflash, hframe⟩ := archiveWriteDone_writes hb hn hc
      exact ⟨t, hx, hend, hnow, hnext, hbusy, fun h => absurd h.symm Bool.false_ne_true, fun _ => ⟨hdirty, hcount, hflash, hframe⟩⟩

end Sys2Proof.Machine
end
